-- ==== Sys2Proof/Word.lean ====
section
/-!
DEFINITION. The word types of the FJ-6412 model and the shape of sparse data.
Registers are 32 bits wide at 32-bit byte addresses (00 Conventions); a frame, a record or a hash is a list of bytes.
-/
namespace Sys2Proof

/-- A register word, 32 bits. -/
abbrev Word := BitVec 32

/-- One byte of a frame, a memory or a hash. -/
abbrev Byte := BitVec 8

/-- Sparse data by key: a list of (key, value) pairs. The canonical form (keys strictly rising, no value equal to what
an unlisted key reads as) is `Sys2Proof.Machine.Store.wf`. -/
abbrev Store (α : Type) := List (Nat × α)

end Sys2Proof
end

