-- ==== Sys2Proof/Machine/TypesBase.lean ====
section
/-!
DEFINITION. Plain data every block uses: device modes (R18), sample tags (R6), status codes (R8), event entries (R466),
and the state of the analogue island (R28 to R60) and of the auxiliary converter (R61 to R72) that no register shows.
-/
namespace Sys2Proof

/-- R18: the device modes. -/
inductive Mode where
  | boot | run | test | safe
  deriving DecidableEq, Repr

/-- R6: the sample tags. -/
inductive Tag where
  | valid | settling | substituted | refUnsettled | overrange | recomputed | resync | missing
  deriving DecidableEq, Repr

/-- A tagged sample, in fused LSB (R26) or the unit of its stage. -/
structure Sample where
  v : Int
  tag : Tag
  deriving DecidableEq, Repr

/-- R8: the status codes. -/
inductive Status where
  | ok | lenRange | valueRange | unknownOpcode | worldDenied | authFail | counterStale | notInTest
  | chainRunning | resourceBusy | selectRequired | selectExpired | bankInvalid | imageInvalid
  | loadConflict | busyRecovery | notSupported | stateDenied
  deriving DecidableEq, Repr

/-- R36: what a calibration of one slice finds: per gain the offset (1/64 raw LSB), the gain correction (Q1.23) and the
segment corrections (1/64 raw LSB). -/
structure SliceCal where
  ofs1 : Int
  gain1 : Nat
  seg1 : List Int
  ofs16 : Int
  gain16 : Nat
  seg16 : List Int
  deriving DecidableEq, Repr

/-- R479: the two requesters of host accesses. -/
inductive Requester where
  | xspi | portC
  deriving DecidableEq, Repr

/-- R466: one event entry; `dropped` is DROPPED_BEFORE, in the log copy only (R471). -/
structure EvtEntry where
  eseq : Nat
  src : Nat
  sev : Nat
  prestart : Bool
  notime : Bool
  dropped : Bool
  inst : Nat
  sec : Nat
  qual : Nat
  tb : Nat
  ns : Nat
  idx : Nat
  data : Nat
  rep : Nat
  deriving DecidableEq, Repr

/-- R462: what a rule hands over when it raises an event. -/
structure EvtRaise where
  src : Nat
  inst : Nat
  data : Nat
  deriving DecidableEq, Repr

/-- What no register shows of one channel (R31, R48, R51): the count of consecutive overlap samples, the latest fused value,
the strobe at which the disagreement count reached 4 and the strobes of the void decisions not older than 1.0 s. -/
structure ChanInt where
  ovl : Nat
  last : Int
  n4 : Nat
  voids : List Nat
  deriving DecidableEq, Repr

/-- R48, R49: an open arbitration window. -/
structure ArbWin where
  ch : Nat
  n0 : Nat
  n : Nat
  dH : Nat
  dL : Nat
  unsettled : Bool
  deriving DecidableEq, Repr

/-- Why a slice of a group is being calibrated (R40 step 4, R44). -/
inductive CalWhy where
  | freed | repeatSpare | freedV
  deriving DecidableEq, Repr

/-- What no register shows of one slice group: the rotation step (R40 to R45), the arbitration (R48 to R53) and the
reference change (R59, R60): the step's first strobe, the shadow's counts and extensions, the slice being calibrated since strobe
`calFrom`, the strobe the prepare phase began at, the strobe REF_SETTLED fell at and the latest strobe at which it was low. -/
structure GroupInt where
  s0 : Nat
  cmp : Nat
  dif : Nat
  ext : Nat
  vFailed : Bool
  cal : Option (Nat × CalWhy)
  calFrom : Nat
  prepFrom : Nat
  arb : Option ArbWin
  arbEnded : Option Nat
  refPend : Option Nat
  refFall : Option Nat
  refTo : Nat
  refLow : Nat
  lastLow : Option Nat
  winRun : Nat
  deriving DecidableEq, Repr

/-- The analogue island: absolute strobe count, channels, groups, and the segment corrections in force (R36), by slice and gain. -/
structure AnaSt where
  strobe : Nat
  chans : List ChanInt
  groups : List GroupInt
  segs : Store (List Int)
  deriving DecidableEq, Repr

/-- R67: one entry of the auxiliary queue. -/
structure AuxEntry where
  tag : Nat
  dropBefore : Bool
  flags : Nat
  seq : Nat
  value : Nat
  deriving DecidableEq, Repr

/-- R69: what waits to be queued: a snapshot's block, captured at its strobe, or an entry that follows it. -/
inductive AuxItem where
  | block (es : List AuxEntry)
  | entry (e : AuxEntry)
  deriving DecidableEq, Repr

/-- The auxiliary converter beside its registers (R64 to R72): the queue, the pending DROP_BEFORE, a STOP that waits for
the entry in progress, a sequence in progress and the SEQ of the marker that opened it, the snapshots asked for since the latest
strobe, what a captured snapshot keeps waiting, and whether the periodic timer of this run is armed. -/
structure AuxSt where
  queue : List AuxEntry
  dropNext : Bool
  stopReq : Bool
  busy : Bool
  runSeq : Nat
  snapReq : Nat
  held : List AuxItem
  periodFrom : Option Nat
  deriving DecidableEq, Repr

end Sys2Proof
end

