-- ==== Sys2Proof/Machine/TypesFlt.lean ====
section
/-!
DEFINITION. Plain data of the filter island (03 R82 to R121): histories, coefficient banks, the tracked grid, the phasor
table. A history shorter than its window holds 0 tagged SETTLING beyond its end (R116).
-/
namespace Sys2Proof

/-- R98, R101: what upsets a stage output: datapath A (false) or B (true) off by an amount before rounding, and the taps
of the window whose history word has a double-bit error. -/
structure Upset where
  dp : Option (Bool × Int)
  ded : List Nat
  deriving DecidableEq, Repr

/-- One channel of the filter chain: stage-1, stage-2 and DFT windows newest first, the stage-2 index of the newest, the
active trim, a trim written and not yet taken, the first-output marks (R95), what was last produced, the DFT accumulators for h = 1…15 (R109), the
first tracked index clean of the last reset (R117), and the last fixed-rate output (R96). -/
structure FltChan where
  x : List Sample
  y1 : List Sample
  y2 : List Sample
  q2 : Nat
  last1 : Option Nat
  last2 : Option Nat
  trim : Int
  trimReq : Bool
  trimT : Bool
  trimF : Bool
  tNext : Nat
  hist : List Sample
  acc : List (Int × Int)
  clean : Option Nat
  fixK : Option Nat
  fix : Sample
  deriving DecidableEq, Repr

/-- R89, R115: one coefficient bank: its stored words, which have been written, and whether all have. -/
structure CoefBank where
  words : List Int
  have_ : List Nat
  full : Bool
  deriving DecidableEq, Repr

/-- R140: a Geyser set. -/
structure GeySet where
  gc : List Int
  gs : List Int
  shq : Nat
  deriving DecidableEq, Repr

/-- R98: a stage output that awaits the recompute unit: stage 0 stage 1, 1 stage 2, 2 resampler (3 the fixed-rate one),
the amount its accumulators add to (R92), both accumulators, the tag of its window, the index it stands for, its instant. -/
structure RecPend where
  g : Nat
  stage : Nat
  ch : Nat
  base : Int
  a : Int
  b : Int
  tag : Tag
  idx : Nat
  since : Nat
  deriving DecidableEq, Repr

/-- What no register shows of a chain group: a STOP, a START and a reset of the time base's change (R116) that wait for their strobe, strikes (instants) against each
datapath, the strobe of the last synchronising reset, Geyser sets of banks A and B. -/
structure FltGroup where
  stopReq : Bool
  startReq : Bool
  resetReq : Bool
  strikeA : List Nat
  strikeB : List Nat
  resetAt : Nat
  gey : List GeySet
  deriving DecidableEq, Repr

/-- R113: one entry of the phasor table. -/
structure PhEntry where
  tag : Tag
  mag : Nat
  re : List Int
  im : List Int
  deriving DecidableEq, Repr

/-- R113: one half of the phasor table. -/
structure PhHalf where
  m : Nat
  sec : Nat
  ns : Nat
  fest : Nat
  ftrk : Nat
  tb : Nat
  vlag : Nat
  entries : List PhEntry
  deriving DecidableEq, Repr

/-- R102 to R105: one tracking source: phasor at the last cycle end, whether that end qualified, whether a phasor it used there
carried SETTLING, cycles in a row. -/
structure TrkSrc where
  re : Int
  im : Int
  endOk : Bool
  settling : Bool
  run : Nat
  deriving DecidableEq, Repr

/-- The filter island beside its registers. `m` is the next tracked index, `tau` its instant in strobe time (2^−32 of a
sixteenth of a nanosecond, from strobe 0), `taus` the instants of the indices before it, newest first. `fHist` holds the last estimates with
their τ, newest first (R151); `geyK` is the number of the estimate set in force (R170) and `nc` the Nc of the cycle (R159); `cur` is the half last swapped, `prev` the one before; `iseChans` are the channels whose
long history the surge elements use (R159). `vrate` and `vsmp` are, for each virtual channel, its stream's rate and the samples
received, each under its second × rate + sample count, newest first (R97). -/
structure FltSt where
  chans : List FltChan
  groups : List FltGroup
  banks : List CoefBank
  pend : List RecPend
  geyNew : List Sample
  geyRead : List Sample
  geyK : Nat
  nc : Nat
  m : Nat
  tau : Nat
  taus : List Nat
  fTgt : Nat
  srcV : TrkSrc
  srcI : TrkSrc
  tauCyc : Nat
  fHist : List (Nat × Nat)
  cur : PhHalf
  prev : PhHalf
  strobeT : Nat
  iseChans : List Nat
  vrate : List Nat
  vsmp : List (List (Nat × Sample))
  deriving DecidableEq, Repr

end Sys2Proof
end

