-- ==== Sys2Proof/Machine/TypesTime.lean ====
section
/-!
DEFINITION. Plain data of the network island: time bases and their sources (R334 to R357), PTP and IRIG-B messages as
the servo sees them, Ethernet frames as the switch sees them (R358 to R362).
-/
namespace Sys2Proof

/-- R351: what one Announce message brings to the best master clock algorithm. -/
structure AnnounceMsg where
  domain : Nat
  gm : Nat
  prio1 : Nat
  cls : Nat
  acc : Nat
  variance : Nat
  prio2 : Nat
  steps : Nat
  utcOfs : Option Int
  leapPend : Bool
  leapDir : Bool
  interval : Int
  supported : Bool
  deriving DecidableEq, Repr

/-- R351: a grandmaster heard in a time base's domain, with the port and instants of its Announce messages. -/
structure ForeignMaster where
  msg : AnnounceMsg
  port : Nat
  last : Nat
  count : Nat
  deriving DecidableEq, Repr

/-- R351: a Sync or Follow_Up: domain, grandmaster, sequence, origin seconds and nanoseconds, correctionField in
2^−16 ns, two-step flag, logarithmic message interval, options supported. -/
structure SyncMsg where
  domain : Nat
  gm : Nat
  seq : Nat
  sec : Nat
  ns : Nat
  corr : Int
  twoStep : Bool
  interval : Int
  supported : Bool
  deriving DecidableEq, Repr

/-- R351: a two-step Sync that awaits its Follow_Up: its sequence, port, correction, and local time at its ingress. -/
structure SyncWait where
  gm : Nat
  seq : Nat
  port : Nat
  corr : Int
  loc : Int
  interval : Int
  deriving DecidableEq, Repr

/-- R355, R510: one IRIG-B frame as received: whether its code is well formed, the widths of its pulses (µs), date and time fields, the C37.118.1 extension when present. -/
structure IrigFrame where
  ok : Bool
  pulses : List Nat
  year : Option Nat
  day : Nat
  hour : Nat
  minute : Nat
  second : Nat
  cfParityOk : Bool
  cfYear : Nat
  cfLeapPend : Bool
  cfLeapDir : Bool
  cfOfs : Int
  cfTq : Nat
  deriving DecidableEq, Repr

/-- One time base beside its registers: whether it counts; the instant and value it was last set or re-based at; servo
state (R339 to R344); grandmaster selection (R351); IRIG-B and 1PPS (R355, R356); what
TIME_SET has asked for: seconds for the next edge, or a step in 2^−16 ns that waits for its strobe (R459); the instant the grandmaster
was selected, the instant of the latest Sync and Announce sent (R352), the UTC offset its source gives (R351). -/
structure TbInt where
  run : Bool
  refT : Nat
  sec : Nat
  ns : Nat
  sub : Nat
  integ : Int
  inLock : Nat
  outLock : Nat
  within : Nat
  hist : List (Nat × Int)
  e0 : Int
  e0T : Nat
  lastOfs : Int
  srcTqc : Nat
  lastUpd : Option Nat
  foreign : List ForeignMaster
  gm : Option Nat
  gmPort : Nat
  syncIv : Int
  syncAt : List (Nat × Nat)
  fuWait : Option SyncWait
  stepAt : Option Nat
  badFrames : Nat
  irigAt : Option Nat
  srcSec : Option Nat
  edgeAt : Option Nat
  ppsDisc : Nat
  setSec : Option Nat
  setTime : Option Int
  txSeq : Nat
  leapPend : Bool
  leapDir : Bool
  gmAt : Nat
  txLast : Option Nat
  utc : Option Int
  deriving DecidableEq, Repr

/-- R350, R353: the PTP content of a forwarded frame: none, a Sync, a Pdelay_Resp, another message, or a message that needs an
unsupported option, which passes unchanged. -/
inductive PtpKind where
  | none | sync | pdelayResp | other | unsupported
  deriving DecidableEq, Repr

/-- A received Ethernet frame as the switch treats it (R358 to R362). -/
structure EthFrame where
  len : Nat
  fcsOk : Bool
  dst : Nat
  src : Nat
  etype : Nat
  pcp : Option Nat
  hsr : Option Nat
  prp : Option (Nat × Nat)
  ptp : PtpKind
  corr : Int
  superv : Bool
  deriving DecidableEq, Repr

/-- R368, R379: the fixed part of a pre-built GOOSE or sampled-values frame: destination address, VLAN identifier and priority code
point of its tag (none: untagged), APPID, the names it spells (gocbRef, datSet and goID, or svID), confRev, its length in bytes. ndsCom is FALSE
in every GOOSE frame of the engine's own. -/
structure FrameHdr where
  dst : Nat
  vid : Option Nat
  pcp : Nat
  appid : Nat
  names : List Nat
  confRev : Nat
  len : Nat
  deriving DecidableEq, Repr

/-- R379, R380: an ASDU of a published stream: smpCnt, smpSynch, and value and quality of its eight entries. -/
structure SvpAsdu where
  cnt : Nat
  synch : Nat
  vals : List (Int × Nat)
  deriving DecidableEq, Repr

/-- What leaves by a port: a frame of another port's, or one of the engine's own. -/
inductive TxFrame where
  | forwarded (f : EthFrame) (queue : Nat)
  | supervision (dstLow : Nat) (seq : Nat)
  | ptpSync (domain seq sec ns : Nat)
  | ptpAnnounce (domain seq prio1 prio2 cls tqc : Nat) (path : List Nat)
  | pdelayReq (seq : Nat)
  | pdelayResp (seq : Nat) (turn : Int)
  | goose (cb : Nat) (hdr : FrameHdr) (stNum sqNum tal : Nat) (t : Int) (test : Bool) (vals : List Nat)
  | sv (stream : Nat) (hdr : FrameHdr) (sim : Bool) (asdus : List SvpAsdu)
  | command (dst xid : Nat) (frag : List Nat)
  deriving DecidableEq, Repr

/-- R360: one live entry of the duplicate-discard table. -/
structure DdtEntry where
  src : Nat
  seq : Nat
  born : Nat
  deriving DecidableEq, Repr

/-- R359: one learned address. -/
structure MacEntry where
  mac : Nat
  port : Nat
  seen : Nat
  deriving DecidableEq, Repr

/-- R358: an MDIO frame in progress. -/
inductive MdioOp where
  | c22Read | c22Write | c45Address | c45Read | c45Write
  deriving DecidableEq, Repr

/-- R359, R362: a frame that waits in a port's egress queues: its queue, its kind within queue 3 (0 PTP, 1 the engine's own, 2 forwarded),
its bytes on the line, when it came, the sequence number of the HSR tag or PRP trailer that the engine gives it. -/
structure EgFrame where
  queue : Nat
  kind : Nat
  bytes : Nat
  at_ : Nat
  seq : Option Nat
  f : TxFrame
  deriving DecidableEq, Repr

/-- One Ethernet port beside its registers; the latest frame that left it, with the sequence number of its tag; the frames that wait
in its egress queues, in order of arrival; when its line is free again (R362). -/
structure PortInt where
  lastRx : Option Nat
  ownSup : Option Nat
  pdSeq : Nat
  pdSent : Option Nat
  pdLast : Option Nat
  last : Option TxFrame
  lastSeq : Option Nat
  queue : List EgFrame
  free : Nat
  deriving DecidableEq, Repr

/-- The switch beside its registers; `redSeq` is the latest sequence number of an HSR tag or PRP trailer (R359). -/
structure NetSt where
  ports : List PortInt
  ddt : List DdtEntry
  macs : List MacEntry
  mdio : Option MdioOp
  supSeq : Nat
  supFrom : Option Nat
  supLast : Option Nat
  redSeq : Nat
  deriving DecidableEq, Repr

/-- The four time bases; the level of PPS_OUT and the instant it rose; a compatibility switch awaiting the strobe after the one named; CARRY
(R348) in 2^−16 ns as it stood at an instant, and whether it is slewed to 0; the strobe of the latest step of the
sampling time (R343) and by how much it moved the time, in 2^−16 ns. -/
structure TimSt where
  bases : List TbInt
  ppsOut : Bool
  ppsRose : Nat
  switchDue : Option Nat
  carry : Int
  carryT : Nat
  carrySlew : Bool
  stepStrobe : Option Nat
  stepBy : Int
  deriving DecidableEq, Repr

end Sys2Proof
end

