-- ==== Sys2Proof/Machine/TypesLgc.lean ====
section
/-!
DEFINITION. Plain data of the scheme logic (08 R277 to R309, 09 R310 to R333) and of GOOSE and sampled values (11 R366 to
R381).
-/
namespace Sys2Proof

/-- R317: the data types of block code. -/
inductive VT where
  | bool | int | real | time
  deriving DecidableEq, Repr

/-- R314: a binding entry, decoded; `q` is QUAL. -/
inductive Bind where
  | none
  | const (word : Nat)
  | out (addr : Nat)
  | elem (inst sig : Nat) (q : Bool)
  | bin (i : Nat) (tag q : Bool)
  | sub (j item : Nat) (q : Bool)
  | drv (n : Nat) (fire q : Bool)
  | lout (o : Nat)
  deriving DecidableEq, Repr

/-- R312: a call word, decoded, with its binding list; an END word is type 0. -/
structure Call where
  type : Nat
  inst : Nat
  iofs : Nat
  ret : Bool
  bad : Bool
  binds : List Bind
  deriving DecidableEq, Repr

/-- R292: when an instance was last executed: latch instant (ns), the reference then (sixteenths of a nanosecond), and what
the sampling time was counted on (its base and the strobe of its latest step). -/
structure TLast where
  ns : Int
  at_ : Nat
  tb : Nat
  step : Option Nat
  deriving DecidableEq, Repr

/-- The internal state of a block instance that is no output (R320): edge memories, "take the edge memory from the input"
(R295, R304), elapsed time E, a state number, a shot or direction, two instants, t_last. -/
structure BlkInt where
  m1 : Bool
  m2 : Bool
  prime : Bool
  ran : Bool
  e : Int
  st : Nat
  k : Nat
  a : Int
  b : Int
  tl : Option TLast
  deriving DecidableEq, Repr

/-- R310, R320, R283, R307: a program as the image holds it: code words, initial bytes, and the settings that go with it:
PERIOD in µs, FREE, WCET in 10 ns, INIT_WAIT in ms, initial value of the logic outputs, and the internal states that its initial
bytes spell. -/
structure ProgImg where
  code : Store Nat
  size : Nat
  init : Store Nat
  period : Nat
  free : Bool
  wcet : Nat
  initWait : Nat
  outInit : Nat
  ints0 : Store BlkInt
  deriving DecidableEq, Repr

/-- R278: a breaker command request accepted by the Service core: 0 select open, 1 select close, 2 operate open, 3 operate
close, 4 cancel; with the transport and SEQ its completion names. -/
structure BkrReq where
  brk : Nat
  kind : Nat
  tr : Nat
  seq : Nat
  deriving DecidableEq, Repr

/-- R278: the input image of a scan. -/
structure InImage where
  elems : List Nat
  zones : List Nat
  pods : List Nat
  bins : Nat
  binTags : List Int
  arm : Nat
  fire : Nat
  subs : List (List (Nat × Nat))
  subSt : List (Nat × Bool)
  ns : Int
  tl : TLast
  tq : Nat
  mode : Nat
  reqs : List BkrReq
  deriving DecidableEq, Repr

/-- A scan between its latch and its output write (R277): the input image, the task in progress and those after it, the word
offset of the next call (none: the task has ended), logic outputs, GOOSE set values and record triggers taken so far,
whether it is the first after a Hold, whether it was halted, its start; events that leave at its write (R282). -/
structure Scan where
  img : InImage
  tasks : List Nat
  pc : Option Nat
  out : Nat
  gset : List (Nat × Nat × Nat)
  trig : Nat
  afterHold : Bool
  held : Bool
  start : Nat
  evts : List (Nat × Nat × Nat)
  deriving DecidableEq, Repr

/-- A program as Pod L runs it: its image, decoded calls by word offset, instance memory bytes and internal states, the scan
in progress, whether the next start is due and how (0 none, 1 cold, 2 warm), whether the first scan has not been written, the
end of the last write, the first latch since the start; for the analysis program its presented subscription states (R299: state,
drop-out pending, recovery pending; those of the control program stand in LGC_SUBST); whether INIT_WAIT has passed; the latch
instant (ns) of the scan last written; an instant of its period grid, and its latest period start (R284). -/
structure ProgSt where
  img : ProgImg
  calls : Store Call
  mem : Store Nat
  ints : Store BlkInt
  scan : Option Scan
  startReq : Nat
  first : Nat
  lastWrite : Nat
  firstLatch : Option Nat
  holdNext : Bool
  out : Nat
  trig : Nat
  pres : List (Nat × Bool × Bool)
  initOver : Bool
  wrote : Int
  grid : Option Nat
  gridLast : Nat
  deriving DecidableEq, Repr

/-- R296, R419: a copy of the retain data: whether its CRC verifies, its commit count, the retain layout it was written
under (instance, type, IOFS), bytes and internal states. -/
structure RetainCopy where
  ok : Bool
  count : Nat
  layout : List (Nat × Nat × Nat)
  mem : Store Nat
  ints : Store BlkInt
  deriving DecidableEq, Repr

/-- R302: what the background load of an exchange finds in the other slot. -/
structure ExchLoad where
  formatOk : Bool
  otherDiff : Bool
  prog : ProgImg
  ana : ProgImg
  plan : Nat
  retainKiB : Nat
  ninst : Nat
  deriving DecidableEq, Repr

/-- Pod L's logic beside its registers: control and analysis program; element and zone states of the last release (R278);
requests since the last latch; a retain commit in progress (R296); a split's held outputs (R236) and whether it has been
reported; a join in progress, or complete and awaiting the next scan start, and a period to be skipped for it (R238, R239);
the program of a pending exchange (R302); inside a run of long scans (R286); answers of breaker blocks to
requests, each with STAT (R329); selects and operates under way (R458); the retain data last committed or started from (R296);
the transport and SEQ of the exchange command that awaits its completion; a Hold that awaits the next block call (R288); the code bank not in use, once an exchange has loaded it (R302). -/
structure LgcSt where
  progs : List ProgSt
  elemRel : List Nat
  zoneRel : List Nat
  reqs : List BkrReq
  commit : Option RetainCopy
  heldLo : Nat
  heldSeen : Bool
  joinFrom : Option Nat
  joinDone : Bool
  joinSkip : Bool
  exch : Option ExchLoad
  longRun : Bool
  bkrDone : List (BkrReq × Nat)
  selOpen : List BkrReq
  opOpen : List BkrReq
  retBase : Option RetainCopy
  exchReq : Option (Nat × Nat)
  holdReq : Bool
  bank : Option (Store Nat)
  deriving DecidableEq, Repr

/-! ### GOOSE and sampled values -/

/-- R368: the source of a dataset entry. -/
inductive DsSrc where
  | elem (inst sig : Nat)
  | zone (z : Nat) (op : Bool)
  | bin (i : Nat)
  | gset (t : VT)
  | quality
  | const (v : Nat)
  deriving DecidableEq, Repr

/-- R368: a published control block: the fixed part of its frame, dataset, values in the frame as built. -/
structure GcbCfg where
  hdr : FrameHdr
  entries : List DsSrc
  init : List Nat
  deriving DecidableEq, Repr

/-- No frame. -/
def noFrameHdr : FrameHdr := ⟨0, none, 0, 0, [], 0, 0⟩

/-- No control block. -/
def noGcb : GcbCfg := ⟨noFrameHdr, [], []⟩

/-- R369, R370: a control block beside its registers: entry values, values as last sent, the interval to the next frame
(ms) and its instant, the time t of the change, whether the next frame takes a stNum above both engines' (R398), and the fast
tick of the latest state change. -/
structure GcbInt where
  vals : List Nat
  gset : List Nat
  gap : Nat
  next : Option Nat
  t : Int
  bump : Bool
  tick : Option Nat
  deriving DecidableEq, Repr

/-- R372: a mapped item: entry position, type (delivered as; `dbpos`: the entry is a Dbpos), substitute, the paired quality entry. -/
structure GItem where
  pos : Nat
  ty : VT
  dbpos : Bool
  subst : Nat
  qpos : Option Nat
  deriving DecidableEq, Repr

/-- No item. -/
def noItem : GItem := ⟨0, .int, false, 0, none⟩

/-- R372: a GOOSE subscription's table. -/
structure GsubCfg where
  dst : Nat
  appid : Nat
  names : List Nat
  confRev : Nat
  n : Nat
  items : List GItem
  deriving DecidableEq, Repr

/-- R372: a value in a received dataset; an INTEGER of `w` bits. -/
inductive GVal where
  | bool (b : Bool) | int (w : Nat) (v : Int) | dbpos (v : Nat) | float (bits : Nat) | quality (validity : Nat) | timestamp
  deriving DecidableEq, Repr

/-- A received GOOSE frame; `names` spells gocbRef, datSet and goID. -/
structure GooseFrame where
  dst : Nat
  appid : Nat
  names : List Nat
  confRev : Nat
  ndsCom : Bool
  test : Bool
  stNum : Nat
  sqNum : Nat
  tal : Nat
  vals : List GVal
  deriving DecidableEq, Repr

/-- R299, R373, R374: a subscription (GOOSE or SV) beside its registers: numbers of the last accepted frame, when its live
timer expires, whether it is dropped, inside a run of mismatched frames, item values with LQ and whether any was ever
received, newly changed at the last latch, received now. -/
structure SubInt where
  last : Option (Nat × Nat)
  until_ : Option Nat
  dropped : Bool
  mism : Bool
  vals : List (Nat × Nat)
  ever : Bool
  news : Bool
  live : Bool
  deriving DecidableEq, Repr

/-- R375: a subscribed stream's table. -/
structure SvSubCfg where
  dst : Nat
  appid : Nat
  svid : Nat
  confRev : Nat
  n : Nat
  deriving DecidableEq, Repr

/-- R376: an entry of an ASDU: value, validity (0 good, 1 invalid, 3 questionable), detail bit overflow, any other detail bit, test. -/
structure SvVal where
  v : Int
  validity : Nat
  overflow : Bool
  detail : Bool
  test : Bool
  deriving DecidableEq, Repr

/-- One ASDU: smpCnt, smpSynch and the entries. -/
structure SvAsdu where
  cnt : Nat
  synch : Nat
  vals : List SvVal
  deriving DecidableEq, Repr

/-- A received SV frame. -/
structure SvFrame where
  dst : Nat
  appid : Nat
  svid : Nat
  confRev : Nat
  sim : Bool
  asdus : List SvAsdu
  deriving DecidableEq, Repr

/-- R376 to R378: a stream beside its registers: second × rate + count of the last accepted sample, its arrival, consecutive
samples since a drop-out, inside a run below SYNCMIN, dropped, samples of the last second, whether the frame of the last accepted
sample carried simulate or test (R280). -/
structure SvInt where
  key : Option Nat
  at_ : Nat
  run : Nat
  low : Bool
  dropped : Bool
  recent : List (Nat × Nat)
  test : Bool
  deriving DecidableEq, Repr

/-- GOOSE and sampled values beside their registers. `svOut`: ASDUs gathered per published stream, `svLast`: number of
the last sample of each published stream, `svpubs`: the fixed part of its frame (R379). -/
structure GsvSt where
  gcbs : List GcbCfg
  gcbInts : List GcbInt
  gsubs : List GsubCfg
  subs : List SubInt
  svsubs : List SvSubCfg
  svInts : List SvInt
  svOut : List (List SvpAsdu)
  svLast : List (Option Nat)
  svpubs : List FrameHdr
  deriving DecidableEq, Repr

end Sys2Proof
end

