-- ==== Sys2Proof/Machine/TypesPod.lean ====
section
/-!
DEFINITION. Plain data of the pods (06 R203 to R242): commit packets, verdicts, pod memory, debug.
-/
namespace Sys2Proof

/-- R205: a commit packet. -/
structure Packet where
  port : Nat
  addr : Nat
  data : Nat
  mask : Nat
  sig : Nat
  deriving DecidableEq, Repr

/-- R214: a comparator's verdict. -/
inductive Verdict where
  | agree | odd (x : Nat) | none
  deriving DecidableEq, Repr

/-- A pod beside its registers: the core being resynchronised and the pod cycle count's instant of its detection (R219);
instants of each core's resyncs not older than 3,600 s (R224); memory words written, by word number (R206, R215); whether
this scrub pass has met a single-bit error (R212); c0's registers as the debugger has written them since the halt, and how
often the pod has run on since (R229, R231); its breakpoints; the image its memory was loaded from (R206); whether c0 is to halt
at its next commit boundary (R230); an odd core that stops at its next commit boundary (R218); the instant of the latest halt (R232). -/
structure PodInt where
  resync : Option (Nat × Nat)
  hist : List (List Nat)
  mem : Store Nat
  passSec : Bool
  cregs : Store Nat
  epoch : Nat
  bps : List (Option Nat)
  img : Nat
  haltReq : Bool
  stopping : Option Nat
  haltAt : Nat
  deriving DecidableEq, Repr

/-- R229, R231: a replay log entry. -/
inductive LogEntry where
  | reg (a d : Nat)
  | setBp (i d : Nat)
  | clrBp (i : Nat)
  deriving DecidableEq, Repr

/-- R227: the debug registers on the TAP and the replay log. -/
structure DbgSt where
  data : Nat
  done : Bool
  status : Nat
  log : List LogEntry
  deriving DecidableEq, Repr

/-- Pods P0, P1 and L, and debug. -/
structure PodSt where
  pods : List PodInt
  dbg : DbgSt
  deriving DecidableEq, Repr

end Sys2Proof
end

