-- ==== Sys2Proof/Machine/TypesImg.lean ====
section
/-!
DEFINITION. A Claras image as the engine reads it (13 R410 to R412, R417; 14 R428; 13 R422): header, directory, sections.
-/
namespace Sys2Proof

/-- R410: an image header, with whether MAGIC and HCRC hold and the SHA-256 of PUBKEY. -/
structure ImgHdr where
  magicOk : Bool
  hcrcOk : Bool
  fmt : Nat
  nsec : Nat
  len : Nat
  silicon : Nat
  rom : Nat
  ver : Nat
  ident : Nat
  keySlot : Nat
  config : Nat
  keyHash : Nat
  deriving DecidableEq, Repr

/-- R411: a directory entry. -/
structure DirEntry where
  type : Nat
  ofs : Nat
  len : Nat
  deriving DecidableEq, Repr

/-- R355, R366: an option the engine does not support: IRIG-B codes B1xx and B2xx; fixed-length or routable GOOSE; a rate, a transport
or a dataset of sampled values outside the table; IEC 62351-6 authentication; MMS or control at run time; LPHD simulation switching. -/
inductive ImgOpt where
  | irigModulated | irigManchester | gooseFixed | gooseRoutable | svRate | svRoutable | svDataset | authentication | mmsControl
  | simSwitching
  deriving DecidableEq, Repr

/-- R355, R366: an option the image asks for, and the control block, subscription or stream (KIND and number, R415) that asks. -/
structure ImgAsk where
  opt : ImgOpt
  kind : Nat
  obj : Nat
  deriving DecidableEq, Repr

/-- R411, R412: the sections: SETTINGS records; TRIPMAT as records of the same kind for the element sources and maps; the slow list per protection pod (instances, or 512 + z for a busbar zone) with the longest Geyser window and longest
slow segment it plans (SCHEDULE); curve tables; coefficient banks and Geyser sets; control program; analysis program; GOOSE and
SV tables; the class of each memory slot; ball map; world map bytes as words with their count; RP0; whether it sets auto-start of
the auxiliary sequencer (R80); the options asked for that the engine does not support (R355, R366); the crossings for which the
schedules leave room for a third entry (R14); first 8 bytes of the image's SHA-256. -/
structure Image where
  dir : List DirEntry
  settings : List (Nat × Nat)
  tripmat : List (Nat × Nat)
  order : List (List Nat)
  window : List Nat
  segment : List Nat
  curves : Store (List Nat)
  banks : List CoefBank
  gey : List (List GeySet)
  prog : ProgImg
  ana : Option ProgImg
  gcbs : List GcbCfg
  gsubs : List GsubCfg
  svsubs : List SvSubCfg
  svpubs : List FrameHdr
  slots : List Nat
  ballMap : Nat
  worldLen : Nat
  worldMap : List Nat
  restart : Nat
  auxAuto : Bool
  asks : List ImgAsk
  crossings : List Nat
  digest : Nat
  deriving DecidableEq, Repr

end Sys2Proof
end

