-- ==== Sys2Proof/Machine/TypesSys.lean ====
section
/-!
DEFINITION. Plain data of start-up, MRAM and host access: load reports (R415), the boot record (R409), MRAM partitions
(R419), capture buffers (R488), straps (R407), supplies and restarts (R420 to R423).
-/
namespace Sys2Proof

/-- R415: a load report, fields in the order of the table. -/
structure LoadReport where
  status : Nat
  step : Nat
  section_ : Nat
  kind : Nat
  ball : Nat
  obj : Nat
  obj2 : Nat
  deriving DecidableEq, Repr

/-- R409: a copy of the boot record; `valid` when its CRC verifies. -/
structure BootRecord where
  valid : Bool
  bseq : Nat
  pref : Nat
  booted : Nat
  startCause : Nat
  safeCause : Nat
  uptime : Nat
  rwStart : Nat
  rcount : Nat
  repA : LoadReport
  repB : LoadReport
  deriving DecidableEq, Repr

/-- R272: an entry of the record index: STATE, CLASS, READ, TRUNC, TB, SEQ, TRIG_S, TRIG_NS. -/
structure RecIdxEntry where
  st : Nat
  cls : Nat
  read : Bool
  trunc : Bool
  tb : Nat
  seq : Nat
  trigS : Nat
  trigNs : Nat
  deriving DecidableEq, Repr

/-- R419: what MRAM holds through every restart; of the boot record's two copies `boot` is the one written last, in force, and
`bootOld` the other (R409). -/
structure MramSt where
  boot : BootRecord
  bootOld : BootRecord
  eseq : Nat
  logHead : Nat
  logWrapped : Bool
  log : Store EvtEntry
  keyCnt : List Nat
  opCnt : Store Nat
  recSeq : Nat
  recIdx : Store RecIdxEntry
  retA : RetainCopy
  retB : RetainCopy
  retLast : Nat
  deriving DecidableEq, Repr

/-- R488: a requester's capture buffer: the address of the capture word and the words of the quantity. -/
structure CapBuf where
  at_ : Nat
  words : List Nat
  deriving DecidableEq, Repr

/-- R407: the straps as latched. -/
structure Straps where
  partner : Bool
  slotB : Bool
  hold : Bool
  ozTied : Bool
  deriving DecidableEq, Repr

/-- A restart asked for (R420 to R423): cold or warm, by command or by policy. -/
structure RestartReq where
  cold : Bool
  byPolicy : Bool
  deriving DecidableEq, Repr

/-- R227, R511: the instruction in the TAP's instruction register. -/
inductive TapInst where
  | bypass | extest | idcode | sample | highz | clamp | podSel | dbgCmd | dbgData | dbgStatus
  deriving DecidableEq, Repr

/-- Start-up and supervision beside the registers. `step`: the step of R405 reached (0: power-on reset is asserted; 2: held or
awaiting nothing more of steps 1 and 2; 3: the slot's header has passed; 4: its signature; 6: its sections; 8: islands started;
9: chains started; 10: first clean boundary); `mapOn`: from step 8 (R484); slots tried in this start; the headers of both slots as
read; the image loaded from the chosen one; RP0 in force; a cause that waits for a policy restart, a restart to be taken; rails
or sensors inside an excursion; words last read by a host; captures; whether the accesses now made are secure by their command
(R426); the cause of the previous start's SAFE; a SAFE entered at start-up; whether RUN has been reached in this start; the overrun counters of
crossings X1 to X11 (R14); the TAP's 1,024 boundary cells (R511); the latest refresh of the monitors (R491). -/
structure SysSt where
  por : Bool
  step : Nat
  trained : Bool
  mapOn : Bool
  straps : Straps
  held : Bool
  slot : Nat
  tried : List Nat
  hdrs : List ImgHdr
  cand : Option Image
  rp0 : Nat
  warm : Bool
  modeReq : Option (Mode × Nat)
  refPresent : Bool
  policy : Option RestartReq
  restart : Option RestartReq
  excursions : List Nat
  readBuf : List Nat
  caps : List (Option CapBuf)
  elevated : Bool
  flashFast : Bool
  safeAtStart : Bool
  prevSafe : Nat
  ballMap : Nat
  ran : Bool
  tap : TapInst
  overruns : List Nat
  bsr : Nat
  cells : Nat
  monAt : Option Nat
  deriving DecidableEq, Repr

/-- The event queues beside the registers (R467 to R471): entries not yet queued because no map is in force, the two
queues oldest first, the log's write buffer, DROPPED_BEFORE pending, both balls held low by Caldera (R469), and the log writer's
latest entry (R471); the instant of the latest entry with the sources of the entries of that instant in ESEQ order (R467). -/
structure EvtSt where
  pre : List EvtEntry
  q0 : List EvtEntry
  q1 : List EvtEntry
  logBuf : List EvtEntry
  logDropNext : Bool
  ballsHeld : Bool
  logAt : Option Nat
  cyc : Nat × List Nat
  deriving DecidableEq, Repr

end Sys2Proof
end

