-- ==== Sys2Proof/Syntax.lean ====
section
/-!
DEFINITION. The commands of the block: one constructor per row of the table of steps (opcode_table.json), each whole and
indivisible. The first operand of every command, `t`, is the instant at which it happens, in sixteenths of a nanosecond
since power-on (one strobe is 15,625 of them, one fast tick 250,000). The other operands are what the outside world or
an analogue part supplies: raw codes, levels, frames, packets, times measured.
-/
namespace Sys2Proof

/-- One step of the part. -/
inductive Instr where
  /-- SUPPLY_OUT_OF_RANGE (R495): A rail leaves 94–106 % of nominal for at least 2 µs; power-on reset is asserted and every output ball goes high-impedance with its pull-down. -/
  | supplyOutOfRange (t : Nat)
  /-- POWER_ON_RESET_RELEASE (R405): Power-on reset is released 2.0 ms after all rails are in range; the straps are latched and the start sequence begins. -/
  | powerOnResetRelease (t : Nat) (straps : Straps) (hdrs : List ImgHdr) (octal : Bool) (trngOk : Bool)
  /-- BOOT_HOLD_FALL (R407): BOOT_HOLD falls while the start is held; the start continues at step 3. -/
  | bootHoldFall (t : Nat) (hdrs : List ImgHdr)
  /-- IMAGE_HASH_DONE (R405): Hashing of the image completes, and the key hash and the ECDSA signature are checked. -/
  | imageHashDone (t : Nat) (sigOk : Bool)
  /-- LPDDR4X_TRAINING_DONE (R405): LPDDR4X training completes; SAFE with SAFE_CAUSE 0x2 is entered on failure. -/
  | lpddr4xTrainingDone (t : Nat) (ok : Bool)
  /-- SECTIONS_LOADED (R413): The second read of the sections completes and each section hash is checked. -/
  | sectionsLoaded (t : Nat) (img : Image) (badHash : List Nat)
  /-- IMAGE_VALIDATION (R414): Validation of field values, counts, cross-references and timing proofs completes, and the load report is written. -/
  | imageValidation (t : Nat)
  /-- STARTUP_CALIBRATION_DONE (R38): The 48 ms start-up calibration of all slices completes; failing slices are retired and the chain groups start. -/
  | startupCalibrationDone (t : Nat) (cals : List (List SliceCal))
  /-- MODE_CHANGE_EFFECT (R18): An accepted change between RUN and TEST takes effect at the next slow-tick boundary. -/
  | modeChangeEffect (t : Nat)
  /-- REFERENCE_LOSS (R10): The 100 MHz reference is lost; Caldera raises CLOCK_LOSS and the engine enters SAFE. -/
  | referenceLoss (t : Nat)
  /-- REFERENCE_RETURN_RESTART (R422): The reference has been present for 100 ms after a SAFE with SAFE_CAUSE 0x3, and ON_REFLOSS asks for a restart. -/
  | referenceReturnRestart (t : Nat)
  /-- POLICY_RESTART (R423): A restart asked for by the restart policy is taken once window, limit and pair-defer conditions allow it. -/
  | policyRestart (t : Nat)
  /-- RESTART_TAKE (R420): A cold or warm restart is taken; the engine enters BOOT and the start sequence runs again. -/
  | restartTake (t : Nat) (hdrs : List ImgHdr) (octal : Bool) (trngOk : Bool) (holdLvl : Bool)
  /-- SUPPLY_WARN_EXCURSION (R464): A rail leaves ±3 % of nominal while inside its reset range; SUPPLY_WARN is raised. -/
  | supplyWarnExcursion (t : Nat) (rail : Nat) (mv : Nat)
  /-- SUPPLY_EXCURSION_END (R464): The rail returns within ±2.5 %, or the temperature falls 15 °C below the limit, ending the excursion. -/
  | supplyExcursionEnd (t : Nat) (i : Nat) (v : Int)
  /-- TEMPERATURE_EXCURSION (R464): The junction temperature passes 10 °C below the grade limit; SUPPLY_WARN with INST 8 is raised. -/
  | temperatureExcursion (t : Nat) (dC : Int)
  /-- MONITOR_REFRESH (R491): SYS_VMON and SYS_TEMP are refreshed every 1.0 ms. -/
  | monitorRefresh (t : Nat) (mvs : List Nat) (tj : Int) (locks : Nat)
  /-- TRNG_TEST_FAIL (R443): A continuous TRNG health test fails; TRNG_OK clears and TRNG_FAULT is raised. -/
  | trngTestFail (t : Nat) (test : Nat)
  /-- FUSED_SAMPLE (R31): At a strobe the slices convert and each channel forms its fused 24-bit sample with its tag;
  `third` names the crossings 1 to 11 on which a third entry is offered (R14), none where the schedules are kept. -/
  | fusedSample (t : Nat) (raw : List (List Int)) (refA : Bool) (refB : Bool) (third : List Nat)
  /-- ARBITRATION_OPEN (R48): The disagreement count reaches 4; the spare is called in and a 64-strobe arbitration window opens. -/
  | arbitrationOpen (t : Nat) (g : Nat)
  /-- ARBITRATION_DECISION (R49): At the end of the window the engine retires H, retires L or declares the arbitration void. -/
  | arbitrationDecision (t : Nat) (g : Nat)
  /-- ROTATION_STEP_START (R40): A Fumarole step begins; the spare connects to the shadowed role's input. -/
  | rotationStepStart (t : Nat) (g : Nat)
  /-- SHADOW_END (R41): The 1,024-strobe shadow comparison ends; it passes with a hand-over, is extended, is skipped or fails. -/
  | shadowEnd (t : Nat) (g : Nat)
  /-- SLICE_CALIBRATION_DONE (R36): A 48 ms slice calibration completes; its set is checked and replaces the old one. -/
  | sliceCalibrationDone (t : Nat) (g : Nat) (cal : SliceCal)
  /-- CNV_REFREQ_WRITE (R58): A write to CNV_REFREQ requests a change of a group's reference. -/
  | cnvRefreqWrite (t : Nat) (r : Requester) (g : Nat) (v : Nat)
  /-- REF_SETTLED_RISE (R59): The group has switched reference and REF_SETTLED rises. -/
  | refSettledRise (t : Nat) (g : Nat)
  /-- REF_WINDOW_FAULT (R60): The external reference lies outside its window for 16 counted strobes; the group switches to INTERNAL. -/
  | refWindowFault (t : Nat) (g : Nat)
  /-- REF_SETTLING_FAULT (R60): The reference does not settle within 2,048 strobes; the group switches to INTERNAL. -/
  | refSettlingFault (t : Nat) (g : Nat)
  /-- AUX_START (R64): START in AUX_CTL starts the sequencer per MODE. -/
  | auxStart (t : Nat) (r : Requester)
  /-- AUX_STOP (R66): STOP in AUX_CTL ends the sequencer after the entry in progress. -/
  | auxStop (t : Nat) (r : Requester)
  /-- AUX_CLR_CNT (R71): CLR_CNT clears DROP_CNT and SEQ_OVR_CNT. -/
  | auxClrCnt (t : Nat) (r : Requester)
  /-- AUX_FLUSH (R80): FLUSH empties the auxiliary queue. -/
  | auxFlush (t : Nat) (r : Requester)
  /-- AUX_ENTRY_DONE (R61): A sequencer entry completes its conversions and queues its shifted result. -/
  | auxEntryDone (t : Nat) (codes : List Int)
  /-- AUX_PERIOD_START (R65): A PERIODIC period starts; a sequence starts, or SEQ_OVR is set when the last is still running. -/
  | auxPeriodStart (t : Nat)
  /-- AUX_SNAP_GO (R69): A write of 1 to AUX_SNAP_GO requests a snapshot of the masked channels. -/
  | auxSnapGo (t : Nat) (r : Requester)
  /-- AUX_SNAP_CAPTURE (R69): At the first strobe after the write the fused samples are captured and queued as one block. -/
  | auxSnapCapture (t : Nat)
  /-- AUX_QDATA_READ (R72): A read of AUX_QDATA_LO removes the oldest queue entry and captures its upper half. -/
  | auxQdataRead (t : Nat) (r : Requester)
  /-- STAGE1_OUTPUT (R85): Stage 1 forms an output every 16 strobes from duplicated datapaths. -/
  | stage1Output (t : Nat) (c : Nat) (up : Upset)
  /-- STAGE2_OUTPUT (R86): Stage 2 forms an output every 32 strobes. -/
  | stage2Output (t : Nat) (c : Nat) (up : Upset)
  /-- RECOMPUTE_DONE (R99): The recompute unit delivers its two-pass result and the output and strikes are decided. -/
  | recomputeDone (t : Nat) (g : Nat) (st : Nat) (c : Nat) (r1 : Int) (r2 : Int)
  /-- TRACKED_SAMPLE (R94): The resampler releases a tracked sample 437.5 µs after its fused sample reached the filter island. -/
  | trackedSample (t : Nat) (c : Nat) (up : Upset)
  /-- FIXED_RATE_SAMPLE (R96): The fixed-rate resampler releases a sample for SV publication. -/
  | fixedRateSample (t : Nat) (c : Nat) (up : Upset)
  /-- PHASOR_SWAP (R111): At boundary B_m the DFT unit has written its half and the phasor-table halves swap; this is the slow tick. -/
  | phasorSwap (t : Nat)
  /-- FLT_STOP (R114): STOP in FLT_CTL requests that a chain group stop. -/
  | fltStop (t : Nat) (r : Requester) (g : Nat)
  /-- FLT_START (R114): START in FLT_CTL requests a synchronising restart of a stopped group. -/
  | fltStart (t : Nat) (r : Requester) (g : Nat)
  /-- CHAIN_STOP_TAKEN (R114): The group stops at the next strobe index divisible by 32, after any recompute. -/
  | chainStopTaken (t : Nat) (g : Nat)
  /-- SYNC_RESET (R116): A synchronising reset clears a group's histories to 0 tagged SETTLING. -/
  | syncReset (t : Nat) (g : Nat)
  /-- FLT_BANK_WRITE (R115): A write to FLT_BANK changes the bank selection of a stopped group. -/
  | fltBankWrite (t : Nat) (r : Requester) (g : Nat) (v : Nat)
  /-- FLT_CDATA_WRITE (R121): A coefficient word is written into the addressed bank and IDX increments. -/
  | fltCdataWrite (t : Nat) (r : Requester) (v : Nat)
  /-- FLT_CCMT_COMMIT (R90): COMMIT checks the loaded set and sets its VALID bit on success. -/
  | fltCcmtCommit (t : Nat) (r : Requester)
  /-- FLT_TRIM_WRITE (R95): A write to FLT_TRIM sets a channel's skew trim from the next stage-2 output. -/
  | fltTrimWrite (t : Nat) (r : Requester) (c : Nat) (v : Nat)
  /-- FLT_PHSEL_WRITE (R121): A write to FLT_PHSEL selects and may freeze the mirrored phasor entry. -/
  | fltPhselWrite (t : Nat) (r : Requester) (v : Nat)
  /-- FAST_TICK (R171): At F_k each protection pod runs its Geyser window: 50P-fast, 50BF and surge intake. -/
  | fastTick (t : Nat)
  /-- WORD_RELEASE (R171): At F_k + 2.5 µs both pods release their ARM and FIRE words to the trip island;
  `third` names the crossings 1 to 11 on which a third entry is offered (R14), none where the schedules are kept. -/
  | wordRelease (t : Nat) (flips : List (Nat × Nat × Nat × Nat)) (third : List Nat)
  /-- TRIP_COMMIT (R182): The trip island applies pod words and logic outputs and sets each output's ARM and FIRE state. -/
  | tripCommit (t : Nat) (miss0 : Bool) (miss1 : Bool)
  /-- COMMIT_MISSING_LIMIT (R185): The fourth consecutive missing commit of a pod counts as pod failure and FAILACT applies. -/
  | commitMissingLimit (t : Nat) (p : Nat)
  /-- MINON_EXPIRY (R183): MINON elapses since an output's FIRE assertion. -/
  | minonExpiry (t : Nat) (n : Nat)
  /-- DRIVE_HALF_PERIOD (R186): At a 2.0 µs half-period boundary asserted outputs toggle and de-asserted ones go static low. -/
  | driveHalfPeriod (t : Nat)
  /-- READBACK_MISMATCH (R188): A ball differs from its driven level for 8 cycles; TRP_RBA or TRP_RBF is set. -/
  | readbackMismatch (t : Nat) (n : Nat) (fire : Bool)
  /-- WDOG_HALF_PERIOD (R189): At a 50 µs grid boundary WDOG_OK toggles or becomes static low according to its conditions. -/
  | wdogHalfPeriod (t : Nat)
  /-- SLOW_LIST_START (R173): At B_m each protection pod starts its slow list of phasor elements, derived quantities, 87B and due 81/81R. -/
  | slowListStart (t : Nat) (p : Nat) (cycles : Nat) (ends : List Nat)
  /-- SLOW_LIST_ABANDON (R176): A list still running, or not started, at B_(m+2) − 2.865 µs is abandoned or skipped. -/
  | slowListAbandon (t : Nat) (p : Nat)
  /-- DEFINITE_TIME_EXPIRY (R133): A picked-up phase's timer reaches DLY and the phase operates. -/
  | definiteTimeExpiry (t : Nat) (i : Nat) (ph : Nat)
  /-- INVERSE_TIME_OPERATE (R145): An inverse-time accumulator reaches 1.0 with TMIN elapsed and the phase operates. -/
  | inverseTimeOperate (t : Nat) (i : Nat) (ph : Nat)
  /-- RESET_TIME_EXPIRY (R134): TRST expires after a definite-reset dropout, and timer and accumulator go to 0. -/
  | resetTimeExpiry (t : Nat) (i : Nat) (ph : Nat)
  /-- HOLD_LIMIT_EXPIRY (R139): A phase has held for HOLD_LIM cycles, drops out and ELEMENT_HOLD_EXPIRED is raised. -/
  | holdLimitExpiry (t : Nat) (i : Nat) (ph : Nat)
  /-- VECTOR_SHIFT_PULSE_END (R152): PULSE elapses after the last tick with vs ≥ PU and OP ends. -/
  | vectorShiftPulseEnd (t : Nat) (i : Nat)
  /-- BF_RETRIP_TIME (R153): The 50BF time reaches T1 with the current check true and OP1 asserts. -/
  | bfRetripTime (t : Nat) (i : Nat)
  /-- BF_BACKTRIP_TIME (R153): The 50BF time reaches T2 with the current check true and OP2 asserts. -/
  | bfBacktripTime (t : Nat) (i : Nat)
  /-- COLD_LOAD_ENTRY (R155): The breaker closes after being open for TCOLD and the bay enters cold load. -/
  | coldLoadEntry (t : Nat) (b : Nat)
  /-- COLD_LOAD_END (R155): TCLP expires and cold load ends. -/
  | coldLoadEnd (t : Nat) (b : Nat)
  /-- ZONE_NCON_REACHED (R156): A busbar zone phase has NCON consecutive ticks of pickup and operates. -/
  | zoneNconReached (t : Nat) (z : Nat) (ph : Nat)
  /-- ZONE_BLANK_END (R157): The 256-tick blanking after a membership change ends. -/
  | zoneBlankEnd (t : Nat) (z : Nat)
  /-- ZONE_ALARM_TIME (R158): Id stays at or above IDALM for TALM; ALM is set and BUSBAR_DIFF_ALARM raised. -/
  | zoneAlarmTime (t : Nat) (z : Nat)
  /-- SURGE_INCEPTION (R159): The surge element detects an inception and opens its search window. -/
  | surgeInception (t : Nat) (b : Nat) (ph : Nat)
  /-- ISE_WINDOW_CLOSE (R162): The surge search window closes; inception, direction and distance are delivered and ISE_SURGE raised. -/
  | iseWindowClose (t : Nat) (b : Nat)
  /-- ISE_WIN_EXPIRY (R163): WIN elapses after a forward surge, ending ISE supervision or acceleration. -/
  | iseWinExpiry (t : Nat) (b : Nat)
  /-- GROUP_CHANGE_EFFECT (R129): An accepted setting-group change takes effect for every instance of the bay at the slow-tick boundary. -/
  | groupChangeEffect (t : Nat) (b : Nat)
  /-- SETTING_WRITE_EFFECT (R130): A setting word written in TEST takes effect at the next slow-tick boundary and the instance restarts dropped. -/
  | settingWriteEffect (t : Nat) (i : Nat)
  /-- BINARY_INPUT_EDGE (R192): A binary input's raw level changes; a short run is counted as a glitch. -/
  | binaryInputEdge (t : Nat) (i : Nat) (level : Bool)
  /-- DEBOUNCED_CHANGE (R192): The raw state has held DEB + 1 strobes and the debounced state changes with its tag. -/
  | debouncedChange (t : Nat) (i : Nat)
  /-- TRIG_IN_EDGE (R261): An edge on a TRIG_IN pair is sampled at the strobe and offered as a trigger. -/
  | trigInEdge (t : Nat) (i : Nat) (rising : Bool)
  /-- COMMIT_BOUNDARY (R214): The cores of a pod reach a commit boundary; packets are compared and voted. -/
  | commitBoundary (t : Nat) (p : Nat) (packets : List Packet) (ovr : List (Option Verdict))
  /-- SINK_REPORT (R217): A sink reports that one copy differs; the delivering core is treated as odd. -/
  | sinkReport (t : Nat) (p : Nat) (core : Nat)
  /-- RESYNC_COMPLETE (R219): The resync of an odd core completes and the pod returns to TRIPLE. -/
  | resyncComplete (t : Nat) (p : Nat) (cycles : Nat)
  /-- CORE_MEMORY_READ (R211): A core reads pod memory; a single-bit error is corrected, a double-bit error sends the pod to FAIL. -/
  | coreMemoryRead (t : Nat) (p : Nat) (a : Nat) (bits : Nat)
  /-- SCRUB_SLOT (R212): In its slot the scrubber reads, checks and repairs one pod memory word. -/
  | scrubSlot (t : Nat) (p : Nat) (bits : Nat)
  /-- POD_SEL (R228): The TAP instruction POD_SEL selects a pod for debug. -/
  | podSel (t : Nat) (sel : Nat)
  /-- NOP (R229): DBG_CMD NOP sets DONE with OK. -/
  | dbgNop (t : Nat)
  /-- HALT (R229): DBG_CMD HALT halts the selected pod at c0's next commit boundary. -/
  | dbgHalt (t : Nat)
  /-- RESUME (R231): DBG_CMD RESUME applies the replay log and resumes the halted pod. -/
  | dbgResume (t : Nat)
  /-- STEP (R230): DBG_CMD STEP advances all three cores by one commit boundary. -/
  | dbgStep (t : Nat)
  /-- READ_REG (R229): DBG_CMD READ_REG reads a c0 register into DBG_DATA. -/
  | dbgReadReg (t : Nat) (a : Nat)
  /-- WRITE_REG (R231): DBG_CMD WRITE_REG writes c0 and enters the write in the replay log. -/
  | dbgWriteReg (t : Nat) (a : Nat) (d : Nat)
  /-- READ_MEM (R229): DBG_CMD READ_MEM reads a pod memory word. -/
  | dbgReadMem (t : Nat) (a : Nat)
  /-- WRITE_MEM (R231): DBG_CMD WRITE_MEM writes a pod SRAM word once. -/
  | dbgWriteMem (t : Nat) (a : Nat) (d : Nat)
  /-- SET_BP (R231): DBG_CMD SET_BP sets a breakpoint and logs it for replay. -/
  | dbgSetBp (t : Nat) (i : Nat) (d : Nat)
  /-- CLR_BP (R231): DBG_CMD CLR_BP clears a breakpoint and logs it for replay. -/
  | dbgClrBp (t : Nat) (i : Nat)
  /-- BREAKPOINT_HIT (R230): c0 hits a breakpoint and the pod halts at the commit boundary. -/
  | breakpointHit (t : Nat) (p : Nat) (i : Nat)
  /-- EXTEST (R511): The TAP instruction EXTEST drives boundary scan while BOOT_HOLD holds the start. -/
  | tapExtest (t : Nat)
  /-- IDCODE (R511): The TAP instruction IDCODE returns 0xB641_29AB. -/
  | tapIdcode (t : Nat)
  /-- SAMPLE_PRELOAD (R511): The TAP instruction SAMPLE/PRELOAD samples the boundary-scan cells. -/
  | tapSamplePreload (t : Nat)
  /-- HIGHZ (R511): The TAP instruction HIGHZ floats the outputs under the EXTEST condition. -/
  | tapHighz (t : Nat)
  /-- CLAMP (R511): The TAP instruction CLAMP holds the boundary values under the EXTEST condition. -/
  | tapClamp (t : Nat)
  /-- BYPASS (R511): The TAP instruction BYPASS selects the bypass register. -/
  | tapBypass (t : Nat)
  /-- PERIOD_START (R284): A fixed-period start falls; a scan latches its inputs, or the start is counted as SKIPPED. -/
  | periodStart (t : Nat) (k : Nat)
  /-- FREE_RUN_SCAN_START (R286): In free-running mode a scan starts 1.0 µs after the previous output write. -/
  | freeRunScanStart (t : Nat) (k : Nat)
  /-- LOGIC_OUTPUT_WRITE (R282): The tasks end and the scan's outputs leave Pod L in one write. -/
  | logicOutputWrite (t : Nat) (k : Nat)
  /-- JOIN_COMPLETE (R238): L0's state has been copied into L1 and L2 and the held-off outputs are released. -/
  | joinComplete (t : Nat) (cycles : Nat)
  /-- EXCHANGE_LOADED (R302): The background load and check of the other slot's program completes or is refused. -/
  | exchangeLoaded (t : Nat) (res : ExchLoad)
  /-- RETAIN_COMMIT_DONE (R296): A retain commit to MRAM completes. -/
  | retainCommitDone (t : Nat)
  /-- HOLD_ENTRY (R288): The logic enters Hold before the next block call. -/
  | holdEntry (t : Nat) (k : Nat)
  /-- INIT_WAIT_EXPIRY (R301): INIT_WAIT passes with a subscription still AWAITED. -/
  | initWaitExpiry (t : Nat) (k : Nat)
  /-- END (R311): An END word ends a task. -/
  | blkEnd (t : Nat) (k : Nat)
  /-- AND (R323): Block call AND. -/
  | blkAnd (t : Nat) (k : Nat)
  /-- OR (R323): Block call OR. -/
  | blkOr (t : Nat) (k : Nat)
  /-- XOR (R323): Block call XOR. -/
  | blkXor (t : Nat) (k : Nat)
  /-- NOT (R323): Block call NOT. -/
  | blkNot (t : Nat) (k : Nat)
  /-- SR (R323): Block call SR, set dominant. -/
  | blkSr (t : Nat) (k : Nat)
  /-- RS (R323): Block call RS, reset dominant. -/
  | blkRs (t : Nat) (k : Nat)
  /-- MAJ3 (R323): Block call MAJ3. -/
  | blkMaj3 (t : Nat) (k : Nat)
  /-- KOFN (R323): Block call KOFN. -/
  | blkKofn (t : Nat) (k : Nat)
  /-- R_TRIG (R324): Block call R_TRIG, rising edge. -/
  | blkRTrig (t : Nat) (k : Nat)
  /-- F_TRIG (R324): Block call F_TRIG, falling edge. -/
  | blkFTrig (t : Nat) (k : Nat)
  /-- TON (R325): Block call TON, on-delay timer. -/
  | blkTon (t : Nat) (k : Nat)
  /-- TOF (R325): Block call TOF, off-delay timer. -/
  | blkTof (t : Nat) (k : Nat)
  /-- TP (R325): Block call TP, pulse timer. -/
  | blkTp (t : Nat) (k : Nat)
  /-- CTU (R326): Block call CTU, up counter. -/
  | blkCtu (t : Nat) (k : Nat)
  /-- CTD (R326): Block call CTD, down counter. -/
  | blkCtd (t : Nat) (k : Nat)
  /-- CTUD (R326): Block call CTUD, up-down counter. -/
  | blkCtud (t : Nat) (k : Nat)
  /-- EQ (R323): Block call EQ. -/
  | blkEq (t : Nat) (k : Nat)
  /-- NE (R323): Block call NE. -/
  | blkNe (t : Nat) (k : Nat)
  /-- GT (R323): Block call GT. -/
  | blkGt (t : Nat) (k : Nat)
  /-- GE (R323): Block call GE. -/
  | blkGe (t : Nat) (k : Nat)
  /-- LT (R323): Block call LT. -/
  | blkLt (t : Nat) (k : Nat)
  /-- LE (R323): Block call LE. -/
  | blkLe (t : Nat) (k : Nat)
  /-- HYST (R323): Block call HYST. -/
  | blkHyst (t : Nat) (k : Nat)
  /-- ADD (R318): Block call ADD. -/
  | blkAdd (t : Nat) (k : Nat)
  /-- SUB (R318): Block call SUB. -/
  | blkSub (t : Nat) (k : Nat)
  /-- MUL (R318): Block call MUL. -/
  | blkMul (t : Nat) (k : Nat)
  /-- DIV (R323): Block call DIV. -/
  | blkDiv (t : Nat) (k : Nat)
  /-- MOD (R323): Block call MOD. -/
  | blkMod (t : Nat) (k : Nat)
  /-- ABS (R323): Block call ABS. -/
  | blkAbs (t : Nat) (k : Nat)
  /-- NEG (R323): Block call NEG. -/
  | blkNeg (t : Nat) (k : Nat)
  /-- SQRT (R323): Block call SQRT. -/
  | blkSqrt (t : Nat) (k : Nat)
  /-- MIN (R323): Block call MIN. -/
  | blkMin (t : Nat) (k : Nat)
  /-- MAX (R323): Block call MAX. -/
  | blkMax (t : Nat) (k : Nat)
  /-- SEL (R323): Block call SEL. -/
  | blkSel (t : Nat) (k : Nat)
  /-- MUX (R323): Block call MUX. -/
  | blkMux (t : Nat) (k : Nat)
  /-- LIMIT (R323): Block call LIMIT. -/
  | blkLimit (t : Nat) (k : Nat)
  /-- MOVE (R323): Block call MOVE. -/
  | blkMove (t : Nat) (k : Nat)
  /-- PACK (R323): Block call PACK. -/
  | blkPack (t : Nat) (k : Nat)
  /-- UNPACK (R323): Block call UNPACK. -/
  | blkUnpack (t : Nat) (k : Nat)
  /-- BAND (R323): Block call BAND. -/
  | blkBand (t : Nat) (k : Nat)
  /-- BOR (R323): Block call BOR. -/
  | blkBor (t : Nat) (k : Nat)
  /-- BXOR (R323): Block call BXOR. -/
  | blkBxor (t : Nat) (k : Nat)
  /-- SHL (R323): Block call SHL. -/
  | blkShl (t : Nat) (k : Nat)
  /-- SHR (R323): Block call SHR. -/
  | blkShr (t : Nat) (k : Nat)
  /-- I2R (R323): Block call I2R. -/
  | blkI2r (t : Nat) (k : Nat)
  /-- BLOCK_R2I (R323): Block call R2I. -/
  | blkR2i (t : Nat) (k : Nat)
  /-- B2I (R323): Block call B2I. -/
  | blkB2i (t : Nat) (k : Nat)
  /-- I2B (R323): Block call I2B. -/
  | blkI2b (t : Nat) (k : Nat)
  /-- T2I (R323): Block call T2I. -/
  | blkT2i (t : Nat) (k : Nat)
  /-- I2T (R323): Block call I2T. -/
  | blkI2t (t : Nat) (k : Nat)
  /-- T2R (R323): Block call T2R. -/
  | blkT2r (t : Nat) (k : Nat)
  /-- BLOCK_R2T (R323): Block call R2T. -/
  | blkR2t (t : Nat) (k : Nat)
  /-- NOW (R323): Block call NOW. -/
  | blkNow (t : Nat) (k : Nat)
  /-- LAG (R323): Block call LAG. -/
  | blkLag (t : Nat) (k : Nat)
  /-- DELTA (R323): Block call DELTA. -/
  | blkDelta (t : Nat) (k : Nat)
  /-- QGOOD (R323): Block call QGOOD. -/
  | blkQgood (t : Nat) (k : Nat)
  /-- SUBSTATE (R323): Block call SUBSTATE. -/
  | blkSubstate (t : Nat) (k : Nat)
  /-- PODSTATE (R323): Block call PODSTATE. -/
  | blkPodstate (t : Nat) (k : Nat)
  /-- DEVSTATE (R323): Block call DEVSTATE. -/
  | blkDevstate (t : Nat) (k : Nat)
  /-- ELEM (R327): Block call ELEM. -/
  | blkElem (t : Nat) (k : Nat)
  /-- ZONE (R327): Block call ZONE. -/
  | blkZone (t : Nat) (k : Nat)
  /-- SGSEL (R327): Block call SGSEL, setting-group select. -/
  | blkSgsel (t : Nat) (k : Nat)
  /-- BKR (R329): Block call BKR, handling select, operate and cancel requests for its breaker. -/
  | blkBkr (t : Nat) (k : Nat)
  /-- BKR_PULSE_END (R329): PLS elapses since the operate; BKR enters SUPERVISE. -/
  | bkrPulseEnd (t : Nat) (brk : Nat)
  /-- BKR_SUPERVISION_TIMEOUT (R329): TSUP elapses without the commanded position; BREAKER_OP_FAIL is raised. -/
  | bkrSupervisionTimeout (t : Nat) (brk : Nat)
  /-- BKR_SELECT_EXPIRY (R329): A select older than 30 s expires and BKR returns to IDLE. -/
  | bkrSelectExpiry (t : Nat) (brk : Nat)
  /-- AR (R331): Block call AR, autoreclose. -/
  | blkAr (t : Nat) (k : Nat)
  /-- ILK (R332): Block call ILK, interlock. -/
  | blkIlk (t : Nat) (k : Nat)
  /-- RECTRG (R333): Block call RECTRG, record trigger. -/
  | blkRectrg (t : Nat) (k : Nat)
  /-- GSET_B (R333): Block call GSET_B. -/
  | blkGsetB (t : Nat) (k : Nat)
  /-- GSET_I (R333): Block call GSET_I. -/
  | blkGsetI (t : Nat) (k : Nat)
  /-- GSET_R (R333): Block call GSET_R. -/
  | blkGsetR (t : Nat) (k : Nat)
  /-- ALARM (R333): Block call ALARM. -/
  | blkAlarm (t : Nat) (k : Nat)
  /-- DPS (R328): Block call DPS, double-point position. -/
  | blkDps (t : Nat) (k : Nat)
  /-- LOCKOUT (R332): Block call LOCKOUT. -/
  | blkLockout (t : Nat) (k : Nat)
  /-- ROW_WRITE (R253): Tephra writes a stream row into a class's ring or record segment. -/
  | rowWrite (t : Nat) (c : Nat) (st : Nat) (fifoFull : Bool)
  /-- RECORD_INDEX_COMPLETE (R255): The index entry reaches COMPLETE in MRAM and REC_COMPLETE is raised. -/
  | recordIndexComplete (t : Nat) (c : Nat)
  /-- TRIGGER_ARRIVAL (R259): A trigger reaches Tephra and is handled by the class state. -/
  | triggerArrival (t : Nat) (n : Nat)
  /-- TRIG_OUT_PULSE_END (R262): A TRIG_OUT pulse ends after 16 strobes. -/
  | trigOutPulseEnd (t : Nat) (i : Nat)
  /-- MASK_VIOLATION (R263): A mask channel's violation count reaches NVIOL and the class receives a kind 0x6 trigger. -/
  | maskViolation (t : Nat) (c : Nat) (k : Nat)
  /-- REC_CCTL_ARM (R260): ARM in REC_CCTL arms a class. -/
  | recCctlArm (t : Nat) (r : Requester) (c : Nat)
  /-- REC_CCTL_DISARM (R260): DISARM in REC_CCTL disarms a class. -/
  | recCctlDisarm (t : Nat) (r : Requester) (c : Nat)
  /-- REC_CCTL_APPLY (R252): APPLY checks and applies new PRE and POST counts. -/
  | recCctlApply (t : Nat) (r : Requester) (c : Nat)
  /-- REC_CCTL_TRIG (R261): TRIG in REC_CCTL gives a kind 0xA command trigger. -/
  | recCctlTrig (t : Nat) (r : Requester) (c : Nat)
  /-- REC_WSEL_WRITE (R271): A write to REC_WSEL selects segment, stream and view of the record window. -/
  | recWselWrite (t : Nat) (r : Requester) (v : Nat)
  /-- REC_REL_WRITE (R271): A write to REC_REL releases a COMPLETE segment. -/
  | recRelWrite (t : Nat) (r : Requester) (v : Nat)
  /-- RECORD_WINDOW_READ (R271): A record window read returns a view word and sets READ in the index entry. -/
  | recordWindowRead (t : Nat) (r : Requester) (o : Nat)
  /-- RECORD_WINDOW_WRITE (R271): A write into the record window changes nothing and records VALUE_RANGE. -/
  | recordWindowWrite (t : Nat) (r : Requester) (o : Nat)
  /-- SYNC_RECEIVE (R351): A PTP Sync from the selected grandmaster gives a servo update. -/
  | syncReceive (t : Nat) (p : Nat) (m : SyncMsg)
  /-- FOLLOW_UP_RECEIVE (R351): A PTP Follow_Up completes a two-step Sync update. -/
  | followUpReceive (t : Nat) (p : Nat) (m : SyncMsg)
  /-- ANNOUNCE_RECEIVE (R351): A PTP Announce enters the best master clock algorithm and carries the UTC offset. -/
  | announceReceive (t : Nat) (p : Nat) (m : AnnounceMsg)
  /-- PDELAY_REQ_RECEIVE (R353): A port answers a Pdelay_Req one-step. -/
  | pdelayReqReceive (t : Nat) (p : Nat) (seq : Nat) (turn : Int)
  /-- PDELAY_RESP_RECEIVE (R353): A Pdelay_Resp completes a port's peer delay measurement. -/
  | pdelayRespReceive (t : Nat) (p : Nat) (seq : Nat) (corr : Int)
  /-- PDELAY_MEASURE (R353): Once per second a port sends Pdelay_Req. -/
  | pdelayMeasure (t : Nat) (p : Nat)
  /-- IRIGB_FRAME (R355): An IRIG-B frame is decoded and gives an update. -/
  | irigbFrame (t : Nat) (mark : Nat) (f : IrigFrame)
  /-- PPS_IN_EDGE (R356): A PPS_IN rising edge marks a second. -/
  | ppsInEdge (t : Nat)
  /-- SYNC_LOSS (R340): No Sync accepted for 3 Sync intervals; the time base enters HOLDOVER. -/
  | syncLoss (t : Nat) (b : Nat)
  /-- ANNOUNCE_RECEIPT_TIMEOUT (R340): The announce receipt timeout expires with no other grandmaster qualified. -/
  | announceReceiptTimeout (t : Nat) (b : Nat)
  /-- IRIGB_LOSS (R340): Three consecutive IRIG-B frames are missing or fail. -/
  | irigbLoss (t : Nat)
  /-- PPS_LOSS (R340): No PPS edge within ±1 ms for 2 consecutive seconds. -/
  | ppsLoss (t : Nat)
  /-- PARTNER_TIME_LOSS (R393): Three consecutive Ozaux TIME messages are missing. -/
  | partnerTimeLoss (t : Nat)
  /-- STEP_APPLY (R342): An accepted pending step is applied at the next strobe index divisible by 32. -/
  | stepApply (t : Nat) (b : Nat)
  /-- COMPAT_SWITCH (R348): In compatibility mode the sampling time switches to the other time base at the next strobe. -/
  | compatSwitch (t : Nat)
  /-- PPS_OUT_RISE (R357): PPS_OUT rises at a whole second less COMP. -/
  | ppsOutRise (t : Nat)
  /-- PPS_OUT_FALL (R357): PPS_OUT falls after PW. -/
  | ppsOutFall (t : Nat)
  /-- GM_TRANSMIT (R352): Once per second in master state the time base sends Sync and Announce. -/
  | gmTransmit (t : Nat) (b : Nat)
  /-- FRAME_RECEIVE (R358): The switch receives an Ethernet frame and forwards, discards or delivers it. -/
  | frameReceive (t : Nat) (p : Nat) (f : EthFrame) (res : List Nat) (full : List Bool)
  /-- DDT_ENTRY_EXPIRY (R360): A duplicate-discard entry reaches FORGET and expires. -/
  | ddtEntryExpiry (t : Nat)
  /-- ADDRESS_AGEING (R359): A learned address ages out after 300 s. -/
  | addressAgeing (t : Nat)
  /-- SUPERVISION_TX (R361): Every SVI × 100 ms a supervision frame is sent. -/
  | supervisionTx (t : Nat)
  /-- REDUNDANCY_FAULT_DETECT (R361): Three supervision intervals pass without frames and a ring or LAN fault is declared. -/
  | redundancyFaultDetect (t : Nat)
  /-- PORT_LINK_CHANGE (R358): A port's link changes; LINK_CHG is set and NET_LINK_CHANGE raised. -/
  | portLinkChange (t : Nat) (p : Nat) (up : Bool) (slow : Bool) (an : Bool)
  /-- C22_READ (R358): NET_MDIO OP 0b00 starts a Clause 22 read. -/
  | c22Read (t : Nat) (r : Requester) (v : Nat)
  /-- C22_WRITE (R358): NET_MDIO OP 0b01 starts a Clause 22 write. -/
  | c22Write (t : Nat) (r : Requester) (v : Nat)
  /-- C45_ADDRESS (R358): NET_MDIO OP 0b10 starts a Clause 45 address frame. -/
  | c45Address (t : Nat) (r : Requester) (v : Nat)
  /-- C45_READ (R358): NET_MDIO OP 0b11 starts a Clause 45 read. -/
  | c45Read (t : Nat) (r : Requester) (v : Nat)
  /-- C45_WRITE (R358): NET_MDIO OP 0b01 with C45W starts a Clause 45 write. -/
  | c45Write (t : Nat) (r : Requester) (v : Nat)
  /-- MDIO_FRAME_DONE (R358): An MDIO frame completes and BUSY falls. -/
  | mdioFrameDone (t : Nat) (data : Nat)
  /-- GOOSE_STATE_CHANGE (R369): A dataset entry of a CB changes; stNum increments and a retransmission sequence starts. -/
  | gooseStateChange (t : Nat) (n : Nat)
  /-- GOOSE_RETRANSMIT (R370): A CB's retransmission interval elapses and a frame is sent. -/
  | gooseRetransmit (t : Nat) (n : Nat)
  /-- GOOSE_RECEIVE (R372): A GOOSE frame is filtered, checked and accepted or discarded. -/
  | gooseReceive (t : Nat) (p : Nat) (f : GooseFrame)
  /-- GOOSE_LIVE_TIMEOUT (R374): A subscription's live timer expires and a drop-out is declared. -/
  | gooseLiveTimeout (t : Nat) (j : Nat)
  /-- SV_RECEIVE (R376): An SV frame is checked and its samples are placed and tagged. -/
  | svReceive (t : Nat) (p : Nat) (f : SvFrame)
  /-- SV_STREAM_TIMEOUT (R378): Four sample periods plus JTOL pass without a sample and the stream is dropped. -/
  | svStreamTimeout (t : Nat) (st : Nat)
  /-- OZ_LINK_DOWN (R382): No valid character for 1 µs; the link is DOWN. -/
  | ozLinkDown (t : Nat) (l : Nat) (clk : Bool)
  /-- OZ_CLOCK_DETECT (R383): A clock appears on the link and comma alignment starts. -/
  | ozClockDetect (t : Nat) (l : Nat)
  /-- OZ_LINK_UP (R383): 64 valid characters are received and the link is UP; IMAGE is sent on OZ0 of a pair. -/
  | ozLinkUp (t : Nat) (l : Nat)
  /-- DELAY_EXCHANGE (R389): Every 1 ms DLY_REQ and TIME are sent on each UP link. -/
  | delayExchange (t : Nat) (l : Nat)
  /-- DLY_REQ_RECEIVE (R389): A DLY_REQ is stamped and answered with DLY_RESP. -/
  | dlyReqReceive (t : Nat) (l : Nat) (word : Nat)
  /-- DLY_RESP_RECEIVE (R389): A DLY_RESP gives a delay measurement; the eighth accepted makes the link READY. -/
  | dlyRespReceive (t : Nat) (l : Nat) (turn : Nat)
  /-- OZ_TRIG_RECEIVE (R391): A TRIG message is received, forwarded and scheduled for delivery. -/
  | ozTrigReceive (t : Nat) (l : Nat) (lseq : Nat) (id : Nat) (hops : Nat) (orig : Nat) (age : Nat) (ns : Nat) (sec : Nat) (top : Nat)
  /-- OZ_TRIG_DELIVERY (R392): At send instant + 4.000 µs the trigger is presented to every class. -/
  | ozTrigDelivery (t : Nat)
  /-- HEARTBEAT_SEND (R396): At F_k + 3.0 µs a HEARTBEAT is sent, aborting another frame if needed. -/
  | heartbeatSend (t : Nat)
  /-- HEARTBEAT_RECEIVE (R396): A good heartbeat restarts PARTNER_OK timing and may settle the lead duties. -/
  | heartbeatReceive (t : Nat) (lseq : Nat) (podOk : Nat) (test : Bool) (holds : Bool)
  /-- PARTNER_OK_TIMEOUT (R397): 17.6 µs pass after the last good heartbeat; PARTNER_OK falls and the duties may be taken. -/
  | partnerOkTimeout (t : Nat)
  /-- PAIR_WAIT_EXPIRY (R399): The PARTNER receives no heartbeat within PAIR_WAIT and takes the duties. -/
  | pairWaitExpiry (t : Nat)
  /-- STATE_RECEIVE (R401): A STATE digest is compared with the engine's own. -/
  | stateReceive (t : Nat) (digest : Nat) (tau : Nat)
  /-- TIME_RECEIVE (R393): A TIME message gives a partner-time update. -/
  | timeReceive (t : Nat) (l : Nat) (ns : Nat) (sec : Nat) (qual : Nat)
  /-- PUBSEQ_RECEIVE (R395): A PUBSEQ records the holder's last stNum per CB. -/
  | pubseqReceive (t : Nat) (lseq : Nat) (cb : Nat) (st : Nat)
  /-- IMAGE_RECEIVE (R402): An IMAGE digest is compared and IMGDIFF set on difference. -/
  | imageReceive (t : Nat) (lseq : Nat) (dig : Nat)
  /-- ACK_RECEIVE (R386): An ACK confirms a retried frame. -/
  | ackReceive (t : Nat) (l : Nat) (lseq : Nat)
  /-- NAK_RECEIVE (R386): A NAK causes a retransmission. -/
  | nakReceive (t : Nat) (l : Nat) (lseq : Nat)
  /-- ACK_TIMEOUT (R386): No ACK 700 ns after the frame; the frame is retransmitted or the message dropped. -/
  | ackTimeout (t : Nat) (l : Nat) (lseq : Nat)
  /-- DOORBELL (R446): A write to CMD_DB GO submits the mailbox frame. -/
  | doorbell (t : Nat) (r : Requester)
  /-- CMD_FRAGMENT (R447): A port C command fragment arrives and is reassembled. -/
  | cmdFragment (t : Nat) (p : Nat) (dst : Nat) (src : Nat) (bytes : List Nat)
  /-- FRAGMENT_TIMEOUT (R447): A command's fragments are not all in within 10 ms; it is discarded. -/
  | fragmentTimeout (t : Nat)
  /-- RATE_LIMIT_END (R441): The 10 s rate limit of a transport ends. -/
  | rateLimitEnd (t : Nat) (tr : Nat)
  /-- STATUS (R457): Command STATUS returns the 128-byte status. -/
  | cmdStatus (t : Nat)
  /-- REG_READ (R456): Command REG_READ reads COUNT words. -/
  | cmdRegRead (t : Nat)
  /-- REG_WRITE (R456): Command REG_WRITE writes COUNT words, stopping at the first refusal. -/
  | cmdRegWrite (t : Nat)
  /-- RESTART (R456): Command RESTART requests a cold or warm restart. -/
  | cmdRestart (t : Nat)
  /-- SAFE (R456): Command SAFE enters SAFE with SAFE_CAUSE 0x4. -/
  | cmdSafe (t : Nat)
  /-- RESULT_READ (R456): Command RESULT_READ returns the completion ring. -/
  | cmdResultRead (t : Nat)
  /-- MODE_SET (R456): Command MODE_SET requests RUN or TEST. -/
  | cmdModeSet (t : Nat)
  /-- OUTPUT_FORCE (R456): Command OUTPUT_FORCE forces outputs in TEST for DUR. -/
  | cmdOutputForce (t : Nat)
  /-- FORCE_EXPIRY (R456): DUR elapses and the force ends. -/
  | forceExpiry (t : Nat)
  /-- TRIP_RESET (R456): Command TRIP_RESET resets latched outputs at the next commit. -/
  | cmdTripReset (t : Nat)
  /-- SETTING_WRITE (R456): Command SETTING_WRITE changes an instance setting word in TEST. -/
  | cmdSettingWrite (t : Nat)
  /-- GROUP_SELECT (R456): Command GROUP_SELECT requests a bay's setting group. -/
  | cmdGroupSelect (t : Nat)
  /-- DEBUG_UNLOCK (R442): Command DEBUG_UNLOCK enables debug of P0 and P1 in TEST. -/
  | cmdDebugUnlock (t : Nat)
  /-- DEBUG_LOCK (R456): Command DEBUG_LOCK ends DEBUG_UNLOCK. -/
  | cmdDebugLock (t : Nat)
  /-- PAIR_HANDOVER (R397): Command PAIR_HANDOVER makes the holder release the lead duties. -/
  | cmdPairHandover (t : Nat)
  /-- BKR_SELECT (R458): Command BKR_SELECT submits a select to a BKR block. -/
  | cmdBkrSelect (t : Nat)
  /-- BKR_OPERATE (R458): Command BKR_OPERATE submits an operate to a BKR block. -/
  | cmdBkrOperate (t : Nat)
  /-- BKR_CANCEL (R458): Command BKR_CANCEL submits a cancel to a BKR block. -/
  | cmdBkrCancel (t : Nat)
  /-- BKR_STATUS (R458): Command BKR_STATUS returns a BKR STAT word. -/
  | cmdBkrStatus (t : Nat)
  /-- REC_ARM (R459): Command REC_ARM arms a class. -/
  | cmdRecArm (t : Nat)
  /-- REC_DISARM (R459): Command REC_DISARM disarms a class. -/
  | cmdRecDisarm (t : Nat)
  /-- REC_TRIG (R459): Command REC_TRIG triggers a class. -/
  | cmdRecTrig (t : Nat)
  /-- REC_APPLY (R459): Command REC_APPLY writes PRE and POST and applies them. -/
  | cmdRecApply (t : Nat)
  /-- REC_RELEASE (R459): Command REC_RELEASE releases a segment. -/
  | cmdRecRelease (t : Nat)
  /-- LOGIC_RUN (R288): Command LOGIC_RUN starts the logic cold or warm from Stop. -/
  | cmdLogicRun (t : Nat)
  /-- LOGIC_STOP (R288): Command LOGIC_STOP stops the logic. -/
  | cmdLogicStop (t : Nat)
  /-- LOGIC_HOLD (R288): Command LOGIC_HOLD requests Hold. -/
  | cmdLogicHold (t : Nat)
  /-- LOGIC_RESUME (R290): Command LOGIC_RESUME returns from Hold to Run. -/
  | cmdLogicResume (t : Nat)
  /-- LOGIC_STEP (R288): Command LOGIC_STEP executes one block call in Hold. -/
  | cmdLogicStep (t : Nat)
  /-- LOGIC_SPLIT (R233): Command LOGIC_SPLIT requests the split of Pod L. -/
  | cmdLogicSplit (t : Nat)
  /-- LOGIC_JOIN (R238): Command LOGIC_JOIN requests the join of Pod L. -/
  | cmdLogicJoin (t : Nat)
  /-- LOGIC_EXCHANGE (R302): Command LOGIC_EXCHANGE starts an online program exchange. -/
  | cmdLogicExchange (t : Nat)
  /-- TIME_SET (R459): Command TIME_SET sets a free-running or 1PPS time base. -/
  | cmdTimeSet (t : Nat)
  /-- TIME_ACCEPT_STEP (R342): Command TIME_ACCEPT_STEP schedules the pending step of a STEP_HELD time base. -/
  | cmdTimeAcceptStep (t : Nat)
  /-- KEY_INIT (R434): Command KEY_INIT provisions the first key slot in clear. -/
  | cmdKeyInit (t : Nat)
  /-- KEY_ROTATE (R435): Command KEY_ROTATE derives a new key into a target slot. -/
  | cmdKeyRotate (t : Nat) (nonce : Nat)
  /-- KEY_RETIRE (R434): Command KEY_RETIRE erases and retires a key slot. -/
  | cmdKeyRetire (t : Nat)
  /-- WORLD_SET (R434): Command WORLD_SET replaces a word of the world map. -/
  | cmdWorldSet (t : Nat)
  /-- OTP_PROGRAM (R436): Command OTP_PROGRAM starts programming an OTP key hash slot. -/
  | cmdOtpProgram (t : Nat)
  /-- OTP_REVOKE (R436): Command OTP_REVOKE revokes an OTP slot. -/
  | cmdOtpRevoke (t : Nat)
  /-- OTP_OPERATION_DONE (R436): An OTP program or revoke completes, with OTP_ERR on read-back failure. -/
  | otpOperationDone (t : Nat) (ok : Bool)
  /-- FLASH_READ (R460): Command FLASH_READ returns flash bytes. -/
  | cmdFlashRead (t : Nat) (data : List Nat)
  /-- FLASH_ERASE (R460): Command FLASH_ERASE starts erasing sectors. -/
  | cmdFlashErase (t : Nat)
  /-- FLASH_PROGRAM (R460): Command FLASH_PROGRAM starts writing flash data. -/
  | cmdFlashProgram (t : Nat)
  /-- FLASH_SLOT (R425): Command FLASH_SLOT starts the check of a slot before setting PREF_SLOT. -/
  | cmdFlashSlot (t : Nat)
  /-- FLASH_OPERATION_DONE (R455): A flash erase, program or slot check completes and a completion entry is added. -/
  | flashOperationDone (t : Nat) (h : ImgHdr) (sigOk : Bool)
  /-- EVT_READ (R460): Command EVT_READ returns queued event entries. -/
  | cmdEvtRead (t : Nat)
  /-- EVT_ACK (R470): Command EVT_ACK removes the N oldest entries of a queue. -/
  | cmdEvtAck (t : Nat)
  /-- EVT_QACK_WRITE (R470): A write to EVT_QACK removes the N oldest entries of a queue. -/
  | evtQackWrite (t : Nat) (r : Requester) (q : Nat) (n : Nat)
  /-- LOG_WRITE (R471): The log writer writes one buffered event entry to the MRAM ring every 0.75 µs. -/
  | logWrite (t : Nat)
  /-- EVT_QDATA_CAPTURE (R477): A read of EVT_QDATA word 0 captures the oldest entry for its requester. -/
  | evtQdataCapture (t : Nat) (r : Requester) (q : Nat)
  /-- EVT_LDATA_READ (R472): A read of EVT_LDATA word 0 captures a log entry, denied for secure sources to non-secure requesters. -/
  | evtLdataRead (t : Nat) (r : Requester)
  /-- CAPTURE_READ (R488): A read of a capture word stores the whole quantity in the requester's buffer. -/
  | captureRead (t : Nat) (r : Requester) (a : Nat)
  /-- TIM_SAMP_WRITE (R346): A write to SAMP_TB changes the sampling time base with a synchronising reset. -/
  | timSampWrite (t : Nat) (r : Requester) (v : Nat)
  /-- RESERVED_ACCESS (R483): An access to reserved space reads 0 or writes nothing and sets RSV_SEEN. -/
  | reservedAccess (t : Nat) (r : Requester) (a : Nat) (wr : Bool)
  /-- REGISTER_WRITE (R481): A write to a register without behaviour of its own takes effect whole or not at all, and its outcome is recorded. -/
  | registerWrite (t : Nat) (r : Requester) (a : Nat) (v : Nat)
  /-- READ (R485): xSPI command READ reads words from an address. -/
  | xspiRead (t : Nat) (a : Nat) (n : Nat)
  /-- WRITE (R485): xSPI command WRITE writes words from an address. -/
  | xspiWrite (t : Nat) (a : Nat) (ws : List Nat) (part : Bool)
  /-- READ_STAT (R485): xSPI command READ_STAT returns SYS_XSTAT. -/
  | xspiReadStat (t : Nat) (n : Nat)
  /-- UPTIME_UPDATE (R409): Every 1 s the engine updates UPTIME in the boot record in MRAM, which SYS_UPTIME shows and the restart window of R423 uses. -/
  | uptimeUpdate (t : Nat)
  /-- TQC_DEGRADE (R338): In HOLDOVER or STEP_HELD the error bound e(t) grows past a code bound, so TQC and QUAL, and the clockAccuracy sent by a grandmaster, move to the next worse code. -/
  | tqcDegrade (t : Nat) (b : Nat)
  /-- RESYNC_WINDOW_AGEING (R224): A core's resync leaves the sliding 3,600 s window, and its count in POD_RWIN and the retirement threshold fall. -/
  | resyncWindowAgeing (t : Nat) (p : Nat) (core : Nat)
  /-- XSPI_UNDEFINED_CODE (R485): An xSPI target command with a code other than 0xB1, 0xB2 or 0xB5 is ignored, drives no data and sets XERR. -/
  | xspiUndefinedCode (t : Nat) (code : Nat)
  /-- DBG_UNDEFINED_OP (R229): A DBG_CMD with OP 0xA to 0xF returns UNKNOWN_OPCODE in DBG_STATUS and changes nothing. -/
  | dbgUndefinedOp (t : Nat) (op : Nat)
  /-- OZAUX_CRC_ERROR (R385): An Ozaux frame with a CRC error or an undefined TYPE is discarded, counted in CRCERR, and answered with NAK when it is of a retried type. -/
  | ozauxCrcError (t : Nat) (l : Nat) (ty : Nat) (lseq : Nat)
  deriving DecidableEq, Repr

end Sys2Proof
end

