-- ==== Sys2Proof/Decode.lean ====
section
/-!
DEFINITION. Reading a command from a word. The table of steps gives no row any bits: what happens to the block reaches it as
an access, a frame, a level or the passing of time, each spelt by its own rules (CMD frames in Machine/Frames.lean, xSPI accesses
in Machine/Access.lean), so no word spells a command.
-/
namespace Sys2Proof

/-- The command a word of `nbits` bits spells by the table's bits: none. -/
def decodeTableWord (_nbits _w : Nat) : Option Instr := none

end Sys2Proof
end

