-- ==== Sys2Proof/Machine/Bits.lean ====
section
/-!
DEFINITION. Bit fields of register words, byte orders of frames, sparse stores in canonical form, and the small
arithmetic every block uses: saturation, two's complement, exact rounding.
-/
namespace Sys2Proof.Machine

/-- Bits [lo+n-1 : lo] of a word, as a number. -/
def getBits (w : Word) (lo n : Nat) : Nat := w.toNat / 2 ^ lo % 2 ^ n

/-- `w` with bits [lo+n-1 : lo] replaced by `v` (its low n bits). -/
def setBits (w : Word) (lo n v : Nat) : Word :=
  BitVec.ofNat 32 (w.toNat / 2 ^ (lo + n) * 2 ^ (lo + n) + v % 2 ^ n * 2 ^ lo + w.toNat % 2 ^ lo)

/-- A register field: the byte address of its register, its lowest bit and its width. -/
structure Field where
  addr : Nat
  lo : Nat
  width : Nat
  deriving DecidableEq, Repr

/-- The value a key of a store has: its entry, or the value unlisted keys read as. -/
def Store.get {α : Type} (d : α) : Store α → Nat → α
  | [], _ => d
  | (k, v) :: rest, a => if a = k then v else Store.get d rest a

/-- The store with key `a` removed. -/
def Store.del {α : Type} : Store α → Nat → Store α
  | [], _ => []
  | (k, v) :: rest, a => if a = k then Store.del rest a else (k, v) :: Store.del rest a

/-- The store with key `a` at value `v`, `v` listed whatever it is; keys stay rising. -/
def Store.put {α : Type} (v : α) : Store α → Nat → Store α
  | [], a => [(a, v)]
  | (k, w) :: rest, a =>
    if a < k then (a, v) :: (k, w) :: rest
    else if a = k then (a, v) :: rest
    else (k, w) :: Store.put v rest a

/-- Write `v` at key `a`: the value unlisted keys read as (`d`) removes the entry, any other is listed. -/
def Store.set {α : Type} [DecidableEq α] (d : α) (m : Store α) (a : Nat) (v : α) : Store α :=
  if v = d then Store.del m a else Store.put v m a

/-- Keys strictly rising, each above `lo` when a bound is given. -/
def Store.rising {α : Type} : Option Nat → Store α → Bool
  | _, [] => true
  | none, (k, _) :: rest => Store.rising (some k) rest
  | some b, (k, _) :: rest => decide (b < k) && Store.rising (some k) rest

/-- The canonical form of a store: keys strictly rising, no entry equal to what an unlisted key reads as. -/
def Store.wf {α : Type} [DecidableEq α] (d : Nat → α) (m : Store α) : Bool :=
  Store.rising none m && m.all (fun e => decide (e.2 ≠ d e.1))

/-- `n + 1`, saturating at `cap`. -/
def satInc (cap n : Nat) : Nat := if n < cap then n + 1 else cap

/-- `n` saturated at `cap`. -/
def satAt (cap n : Nat) : Nat := if n ≤ cap then n else cap

/-- The value of an n-bit two's-complement pattern. -/
def sext (n v : Nat) : Int := if v % 2 ^ n < 2 ^ (n - 1) then (v % 2 ^ n : Nat) else ((v % 2 ^ n : Nat) : Int) - (2 ^ n : Nat)

/-- The n-bit two's-complement pattern of an integer. -/
def tcBits (n : Nat) (v : Int) : Nat := (v % ((2 ^ n : Nat) : Int)).toNat

/-- An integer clamped to [lo, hi]. -/
def clampI (lo hi v : Int) : Int := if v < lo then lo else if hi < v then hi else v

/-- |v| as a natural number. -/
def absN (v : Int) : Nat := v.natAbs

/-- Round `n / d` (d > 0) to the nearest integer, ties to even (R83 and every other "half to even" of the spec). -/
def divHalfEven (n : Int) (d : Nat) : Int :=
  let q := n / (d : Int)
  let r := n % (d : Int)
  if 2 * r < (d : Int) then q
  else if (d : Int) < 2 * r then q + 1
  else if q % 2 = 0 then q else q + 1

/-- Floor of the square root of `n`, by bisection on `k` bits: the greatest m < 2^k with m*m ≤ n. -/
def isqrtBits (n : Nat) : Nat → Nat → Nat
  | 0, acc => acc
  | k + 1, acc =>
    let t := acc + 2 ^ k
    isqrtBits n k (if t * t ≤ n then t else acc)

/-- Floor of the square root of a number below 2^128. -/
def isqrt (n : Nat) : Nat := isqrtBits n 64 0

/-- The n bytes of `v`, least significant first. -/
def leBytes : Nat → Nat → List Nat
  | 0, _ => []
  | n + 1, v => v % 256 :: leBytes n (v / 256)

/-- The number a list of bytes spells, least significant first. -/
def ofLe : List Nat → Nat
  | [] => 0
  | b :: bs => b % 256 + 256 * ofLe bs

/-- The n bytes of `v`, most significant first. -/
def beBytes (n v : Nat) : List Nat := (leBytes n v).reverse

/-- The number a list of bytes spells, most significant first. -/
def ofBe (bs : List Nat) : Nat := ofLe bs.reverse

/-- Bit `i` of `n`. -/
def bitN (n i : Nat) : Bool := n / 2 ^ i % 2 == 1

/-- 1 for true, 0 for false. -/
def b2n (b : Bool) : Nat := if b then 1 else 0

/-- `n` with bit `i` set to `b`. -/
def setBitN (n i : Nat) (b : Bool) : Nat :=
  n / 2 ^ (i + 1) * 2 ^ (i + 1) + b2n b * 2 ^ i + n % 2 ^ i

/-- Replace element `i` of a list (nothing beyond its end). -/
def lset {α : Type} : List α → Nat → α → List α
  | [], _, _ => []
  | _ :: xs, 0, v => v :: xs
  | x :: xs, i + 1, v => x :: lset xs i v

/-- Change element `i` of a list (nothing beyond its end). -/
def lmod {α : Type} : List α → Nat → (α → α) → List α
  | [], _, _ => []
  | x :: xs, 0, f => f x :: xs
  | x :: xs, i + 1, f => x :: lmod xs i f

/-- Element `i` of a list, or `d` beyond its end. -/
def lget {α : Type} (d : α) : List α → Nat → α
  | [], _ => d
  | x :: _, 0 => x
  | _ :: xs, i + 1 => lget d xs i

/-- The list 0, 1, …, n−1. -/
def upto (n : Nat) : List Nat := List.range n

end Sys2Proof.Machine
end

