-- ==== Sys2Proof/Machine/Sha.lean ====
section
/-!
DEFINITION. SHA-256 and HMAC-SHA-256 (14 R433, R435, R437). The spec names the functions; PRESUMED: FIPS 180-4 and 198-1.
-/
namespace Sys2Proof.Machine

/-- A 32-bit word rotated right. -/
def rotr (n x : Nat) : Nat := x / 2 ^ n + x % 2 ^ n * 2 ^ (32 - n)

/-- The round constants. -/
def shaK : List Nat := [
  0x428A2F98, 0x71374491, 0xB5C0FBCF, 0xE9B5DBA5, 0x3956C25B, 0x59F111F1, 0x923F82A4, 0xAB1C5ED5,
  0xD807AA98, 0x12835B01, 0x243185BE, 0x550C7DC3, 0x72BE5D74, 0x80DEB1FE, 0x9BDC06A7, 0xC19BF174,
  0xE49B69C1, 0xEFBE4786, 0x0FC19DC6, 0x240CA1CC, 0x2DE92C6F, 0x4A7484AA, 0x5CB0A9DC, 0x76F988DA,
  0x983E5152, 0xA831C66D, 0xB00327C8, 0xBF597FC7, 0xC6E00BF3, 0xD5A79147, 0x06CA6351, 0x14292967,
  0x27B70A85, 0x2E1B2138, 0x4D2C6DFC, 0x53380D13, 0x650A7354, 0x766A0ABB, 0x81C2C92E, 0x92722C85,
  0xA2BFE8A1, 0xA81A664B, 0xC24B8B70, 0xC76C51A3, 0xD192E819, 0xD6990624, 0xF40E3585, 0x106AA070,
  0x19A4C116, 0x1E376C08, 0x2748774C, 0x34B0BCB5, 0x391C0CB3, 0x4ED8AA4A, 0x5B9CCA4F, 0x682E6FF3,
  0x748F82EE, 0x78A5636F, 0x84C87814, 0x8CC70208, 0x90BEFFFA, 0xA4506CEB, 0xBEF9A3F7, 0xC67178F2]

/-- The initial hash value. -/
def shaInit : List Nat := [0x6A09E667, 0xBB67AE85, 0x3C6EF372, 0xA54FF53A,
  0x510E527F, 0x9B05688C, 0x1F83D9AB, 0x5BE0CD19]

/-- The message schedule, newest word first, extended by `n` words. -/
def shaExtend : Nat → List Nat → List Nat
  | 0, w => w
  | n + 1, w =>
    let a := lget 0 w 1
    let b := lget 0 w 14
    let s1 := Nat.xor (Nat.xor (rotr 17 a) (rotr 19 a)) (a / 1024)
    let s0 := Nat.xor (Nat.xor (rotr 7 b) (rotr 18 b)) (b / 8)
    shaExtend n (((s1 + lget 0 w 6 + s0 + lget 0 w 15) % 4294967296) :: w)

/-- One round on the eight working words. -/
def shaRound (v : List Nat) (kw : Nat × Nat) : List Nat :=
  match v with
  | [a, b, c, d, e, f, g, h] =>
    let s1 := Nat.xor (Nat.xor (rotr 6 e) (rotr 11 e)) (rotr 25 e)
    let ch := Nat.xor (Nat.land e f) (Nat.land (4294967295 - e) g)
    let t1 := h + s1 + ch + kw.1 + kw.2
    let s0 := Nat.xor (Nat.xor (rotr 2 a) (rotr 13 a)) (rotr 22 a)
    let mj := Nat.xor (Nat.xor (Nat.land a b) (Nat.land a c)) (Nat.land b c)
    [(t1 + s0 + mj) % 4294967296, a, b, c, (d + t1) % 4294967296, e, f, g]
  | _ => v

/-- The words of a block of 64 bytes. -/
def blockWords : Nat → List Nat → List Nat
  | 0, _ => []
  | n + 1, bs => ofBe (bs.take 4) :: blockWords n (bs.drop 4)

/-- One block. -/
def shaBlock (h : List Nat) (blk : List Nat) : List Nat :=
  let w := (shaExtend 48 (blockWords 16 blk).reverse).reverse
  let v := (shaK.zip w).foldl shaRound h
  (h.zip v).map (fun p => (p.1 + p.2) % 4294967296)

/-- All blocks of a padded message. -/
def shaBlocks : Nat → List Nat → List Nat → List Nat
  | 0, h, _ => h
  | n + 1, h, bs => shaBlocks n (shaBlock h (bs.take 64)) (bs.drop 64)

/-- SHA-256 of bytes, as 32 bytes. -/
def sha256 (m : List Nat) : List Nat :=
  let n := m.length
  let pad := (119 - n % 64) % 64
  let p := m ++ [0x80] ++ List.replicate pad 0 ++ beBytes 8 (8 * n)
  ((shaBlocks (p.length / 64) shaInit p).map (beBytes 4)).flatten

/-- HMAC-SHA-256 under a key of 32 bytes. -/
def hmacSha256 (key m : List Nat) : List Nat :=
  let k := key ++ List.replicate (64 - key.length) 0
  sha256 (k.map (fun b => Nat.xor b 0x5C) ++ sha256 (k.map (fun b => Nat.xor b 0x36) ++ m))

end Sys2Proof.Machine
end

