-- ==== Sys2Proof/Config.lean ====
section
/-!
DEFINITION. What the spec leaves open: free values. Each is an opaque constant with no body, so no proof can see what it
is; a statement about it holds for every value. `n` is the model's own counter of free values (State.freeCtr) where a
fresh value is meant each time.
-/
namespace Sys2Proof.Config

/-- R490: the fused grade bit of SYS_ROM. -/
opaque gradeXB : Bool

/-- R40, R76: the code CNV_MAP shows for the slice a hand-over of a role in a group has freed, until it takes role SP. -/
opaque freedRole (group role : Nat) : Nat

/-- R40, R74: what SPARE_POS shows in the same span. -/
opaque freedSparePos (group role : Nat) : Nat

/-- R339: the frequency adjustment (0.001 ppb) the proportional-integral loop asks for, from the time constant, the loop
state and the offset in 2^−16 ns; the spec gives the loop's form and TC but not its gains. -/
opaque servoAdj (tc : Nat) (integ ofs : Int) : Int

/-- R339: the loop's next integrator state. -/
opaque servoInteg (tc : Nat) (integ ofs : Int) : Int

/-- R338: the filtered offset e0, in 2^−16 ns, from the time constant, loop state and latest offset. -/
opaque filteredOffset (tc : Nat) (integ ofs : Int) : Int

/-- R348: by how much CARRY (2^−16 ns) has been slewed towards 0 after a time; the spec bounds the rate by 100 ppm. -/
opaque carrySlewed (carry : Int) (elapsed : Nat) : Nat

/-- R351: the peer delay, in ns, a servo update uses on a port whose delay has not been measured. -/
opaque peerDelayUnmeasured : Nat

/-- R389, R392: the delay, in 0.25 ns, of a link that carries a message before it has been measured. -/
opaque linkDelayUnmeasured : Nat

/-- R401: the 6 bits that stand for PU and OP (three phases each) of Z0 and Z1 in the digest; the rule names 12 and counts 6. -/
opaque zoneDigestBits (pu0 op0 pu1 op1 : Nat) : Nat

/-- R352: the clockAccuracy code a LOCKED grandmaster sends, and its offsetScaledLogVariance and stepsRemoved terms. -/
opaque accLocked : Nat

/-- R352: the variance in the engine's own Announce messages. -/
opaque ownVariance : Nat

/-- R109: the entry of the twiddle table that stands for +1.0, which Q1.23 cannot hold. -/
opaque twiddleOne : Int

/-- R103, R148, R152: the angle, in 2^−32 turn, of a phasor that is 0. -/
opaque angleOfZero : Int

/-- R210: a 64-bit word of a pod's element ROM. -/
opaque podRomWord (pod addr : Nat) : Nat

/-- R206, R210: the 64-bit word of a pod's SRAM that the load of an image (by its digest) leaves, as the pods' own programs lay
it out, which the spec does not give. -/
opaque podMem (img pod addr : Nat) : Nat

/-- R320: a byte of an instance's internal state, whose layout the spec does not give. -/
opaque instByte (type ofs : Nat) (m1 m2 : Bool) (e : Int) (st k : Nat) (a b : Int) : Nat

/-- R320: part `sel` of an instance's internal state after a byte of it has been written. -/
opaque instPoke (sel type ofs byte : Nat) (old : Int) : Int

/-- R229: the value of a register of core c0, whose numbering and content the spec does not give; `epoch` counts how often
the pod has run on since reset. -/
opaque coreReg (pod reg epoch : Nat) : Nat

/-- R511: what a sampling of the 1,024 boundary cells finds, whose order the spec does not give; the n-th free value. -/
opaque boundaryCells (n : Nat) : BitVec 1024

/-- R436: what an OTP slot holds after a programming that failed its read-back. -/
opaque otpFailed (slot hash : Nat) : BitVec 256

/-- R306: the work of a swap as measured, in pod cycles; the n-th free value. -/
opaque swapWork (n : Nat) : Nat

end Sys2Proof.Config
end

