-- ==== Sys2Proof/Machine/RegMap.lean ====
section
/-!
DEFINITION. The register map (17 R478 and the index of register families; the field tables R73 to R80, R119 to R121,
R167 to R169, R199 to R202, R240 to R242, R274 to R276, R307 to R309, R363 to R365, R381, R404, R444, R461, R477,
R490 to R492). One name per register family, its addresses, its fields, their access codes (R5), their values at reset
and at image load. A field whose value at reset stands outside the register file (MRAM, straps, OTP, key store, a
computed value) has 0 here and is supplied where the word is read (Machine/Access.lean).
-/
namespace Sys2Proof.Machine

/-- The register families of the index in 17, one name each; the four words of CNV_CAL have a name each. -/
inductive RegName where
  | SYS_ID
  | SYS_ROM
  | SYS_MODE
  | SYS_IMGVER
  | SYS_IMGID_LO
  | SYS_IMGID_HI
  | SYS_UPTIME
  | SYS_CLK
  | SYS_SCRATCH
  | SYS_ACC
  | SYS_STALEA
  | SYS_RSVA
  | SYS_WADDR
  | SYS_VMON
  | SYS_TEMP
  | SYS_XCFG
  | SYS_XSTAT
  | CMD_REQ
  | CMD_RSP
  | CMD_DB
  | CMD_STAT
  | CMD_CNT
  | CMD_ECNT
  | CMD_LAST
  | CMD_LASTSEQ
  | SEC_STAT
  | SEC_DENY
  | SEC_DENYINF
  | SEC_AUTHCNT
  | SEC_KSTAT
  | SEC_KCNT_LO
  | SEC_KCNT_HI
  | SEC_OTPH
  | SEC_WMAP
  | CNV_GCFG
  | CNV_GSTAT
  | CNV_REFREQ
  | CNV_MAP0
  | CNV_MAP1
  | CNV_GCNT
  | CNV_ACNT
  | CNV_CH
  | CNV_CAL_OFS1
  | CNV_CAL_GAIN1
  | CNV_CAL_OFS16
  | CNV_CAL_GAIN16
  | AUX_CFG
  | AUX_PERIOD
  | AUX_CTL
  | AUX_STAT
  | AUX_QSTAT
  | AUX_CNT
  | AUX_QDATA_LO
  | AUX_QDATA_HI
  | AUX_SNAP_LO
  | AUX_SNAP_HI
  | AUX_SNAP_GO
  | AUX_ENT
  | FLT_CTL
  | FLT_GSTAT
  | FLT_BANK
  | FLT_DPCNT
  | FLT_TCFG
  | FLT_TSRC
  | FLT_TLIM
  | FLT_FSTAT
  | FLT_FEST
  | FLT_FTRK
  | FLT_TIDX
  | FLT_SVCFG
  | FLT_CADDR
  | FLT_CDATA
  | FLT_CCMT
  | FLT_PHSEL
  | FLT_TRIM
  | FLT_PHDATA
  | PRT_BAY0
  | PRT_BAY1
  | PRT_ISCL
  | PRT_VSCL
  | PRT_KB
  | PRT_BSTAT
  | PRT_ISE_TLO
  | PRT_ISE_THI
  | PRT_ISE_RES
  | PRT_ZIDMIN
  | PRT_ZCFG
  | PRT_ZMAP
  | PRT_ZIDALM
  | PRT_ZTALM
  | PRT_ZSTAT
  | PRT_ST
  | PRT_ACC
  | PRT_SET
  | POD_STAT
  | POD_RCNT
  | POD_RWIN
  | POD_VCNT
  | POD_MEMCNT
  | POD_ERRADDR
  | POD_RSDUR
  | POD_SCRUB
  | POD_LCFG
  | POD_LSTAT
  | POD_LHELD
  | POD_LJOIN
  | TRP_OCFG
  | TRP_ESRC
  | TRP_AMAP
  | TRP_FMAP
  | TRP_ARM_ST
  | TRP_FIRE_ST
  | TRP_DRV_ARM
  | TRP_DRV_FIRE
  | TRP_FRC_ARM
  | TRP_FRC_FIRE
  | TRP_LATCH
  | TRP_STAT
  | TRP_FAILST
  | TRP_RBA
  | TRP_RBF
  | TRP_CNT
  | TRP_SCHED
  | TRP_SCHED2
  | TRP_WDCFG
  | TRP_OPCNT
  | BIO_CFG
  | BIO_STATE_LO
  | BIO_STATE_HI
  | BIO_RAW_LO
  | BIO_RAW_HI
  | BIO_IDX
  | BIO_TLO
  | BIO_THI
  | BIO_CHG
  | LGC_CFG
  | LGC_SIZE
  | LGC_WCET
  | LGC_LIM
  | LGC_MODE
  | LGC_STAT
  | LGC_SCAN_LAST
  | LGC_SCAN_MIN
  | LGC_SCAN_MAX
  | LGC_SCANCNT
  | LGC_OVR
  | LGC_RTN
  | LGC_XSTAT
  | LGC_XWORK
  | LGC_OUT
  | LGC_STOPACT
  | LGC_SUBCFG
  | LGC_SUBST
  | REC_CCFG
  | REC_CSEG
  | REC_CCAP
  | REC_CPRE
  | REC_CPOST
  | REC_CCTL
  | REC_CSTAT
  | REC_CCNT
  | REC_CMASK
  | REC_CMABS
  | REC_CCH
  | REC_CMCH
  | REC_CTRG
  | REC_CHSCL
  | REC_CHRAT
  | REC_WSEL
  | REC_WIN_BASE
  | REC_WSTAT
  | REC_WLEN
  | REC_REL
  | REC_IDXSEL
  | REC_IDXW
  | REC_SEQ
  | REC_SLOT
  | TIM_CFG
  | TIM_THR
  | TIM_SERVO
  | TIM_STAT
  | TIM_NOW_LO
  | TIM_NOW_HI
  | TIM_NOW_X
  | TIM_OFS
  | TIM_FADJ
  | TIM_PEND_LO
  | TIM_PEND_HI
  | TIM_GM_LO
  | TIM_GM_HI
  | TIM_CNT
  | TIM_SAMP
  | TIM_UTC
  | TIM_IRIG
  | TIM_PPSO
  | TIM_IDX
  | TIM_GMCFG
  | TIM_CARRY
  | NET_MODE
  | NET_MAC_LO
  | NET_MAC_HI
  | NET_RCFG
  | NET_DUP
  | NET_WLAN
  | NET_DDT
  | NET_RSTAT
  | NET_PCFG
  | NET_PSTAT
  | NET_PRX
  | NET_PTX
  | NET_PDROP
  | NET_PDLY
  | NET_TCMAX
  | NET_MDIO
  | GSV_PCB
  | GSV_PSTNUM
  | GSV_PSQNUM
  | GSV_PCNT
  | GSV_SCFG
  | GSV_SSTAT
  | GSV_SVSCFG
  | GSV_SVSSTAT
  | GSV_VCH
  | GSV_VGAIN
  | GSV_SVPCFG
  | GSV_SVPCH
  | GSV_PGAIN
  | OZX_CFG
  | OZX_PCFG
  | OZX_PSTAT
  | OZX_PCNT
  | OZX_OUTW
  | OZX_LSTAT
  | OZX_LDLY
  | OZX_LCNT
  | OZX_TCNT
  | EVT_QSTAT
  | EVT_QCNT
  | EVT_QACK
  | EVT_QDATA
  | EVT_EN
  | EVT_SEEN
  | EVT_LOG
  | EVT_ESEQ
  | EVT_LSEL
  | EVT_LDATA
  | DBG_STAT
  | DBG_CNT
  deriving DecidableEq, Repr

/-- One register family: base address, counts and strides of its (at most two) indices, the bits of each access code
(R5), the word at reset, the bits an image load leaves unchanged, the bits that take an image setting, and the constant
or default the load gives the others. -/
structure RegFam where
  name : RegName
  base : Nat
  n1 : Nat
  s1 : Nat
  n2 : Nat
  s2 : Nat
  rw : Nat
  il : Nat
  w1c : Nat
  rws : Nat
  wo : Nat
  rst : Nat
  keep : Nat
  img : Nat
  dflt : Nat
  deriving DecidableEq, Repr

/-- The families of block SYS. -/
def regFamsSYS : List RegFam := [
  ⟨.SYS_ID, 0x0, 1, 0x0, 1, 0x0, 0x0, 0x0, 0x0, 0x0, 0x0, 0xb06412, 0x0, 0x0, 0xb06412⟩,
  ⟨.SYS_ROM, 0x4, 1, 0x0, 1, 0x0, 0x0, 0x0, 0x0, 0x0, 0x0, 0x302, 0x0, 0x0, 0x302⟩,
  ⟨.SYS_MODE, 0x8, 1, 0x0, 1, 0x0, 0x0, 0x0, 0x0, 0x0, 0x0, 0x0, 0x0, 0x0, 0x0⟩,
  ⟨.SYS_IMGVER, 0xc, 1, 0x0, 1, 0x0, 0x0, 0x0, 0x0, 0x0, 0x0, 0x0, 0x0, 0x0, 0x0⟩,
  ⟨.SYS_IMGID_LO, 0x10, 1, 0x0, 1, 0x0, 0x0, 0x0, 0x0, 0x0, 0x0, 0x0, 0x0, 0x0, 0x0⟩,
  ⟨.SYS_IMGID_HI, 0x14, 1, 0x0, 1, 0x0, 0x0, 0x0, 0x0, 0x0, 0x0, 0x0, 0x0, 0x0, 0x0⟩,
  ⟨.SYS_UPTIME, 0x18, 1, 0x0, 1, 0x0, 0x0, 0x0, 0x0, 0x0, 0x0, 0x0, 0x0, 0x0, 0x0⟩,
  ⟨.SYS_CLK, 0x1c, 1, 0x0, 1, 0x0, 0x0, 0x0, 0x0, 0x40, 0x0, 0x0, 0x40, 0x0, 0x0⟩,
  ⟨.SYS_SCRATCH, 0x20, 1, 0x0, 1, 0x0, 0xffffffff, 0x0, 0x0, 0x0, 0x0, 0x0, 0xffffffff, 0x0, 0x0⟩,
  ⟨.SYS_ACC, 0x40, 2, 0x10, 1, 0x0, 0x0, 0x0, 0x1d, 0x0, 0x0, 0x0, 0x0, 0x0, 0x0⟩,
  ⟨.SYS_STALEA, 0x44, 2, 0x10, 1, 0x0, 0x0, 0x0, 0x0, 0x0, 0x0, 0x0, 0x0, 0x0, 0x0⟩,
  ⟨.SYS_RSVA, 0x48, 2, 0x10, 1, 0x0, 0x0, 0x0, 0x0, 0x0, 0x0, 0x0, 0x0, 0x0, 0x0⟩,
  ⟨.SYS_WADDR, 0x4c, 2, 0x10, 1, 0x0, 0x0, 0x0, 0x0, 0x0, 0x0, 0x0, 0x0, 0x0, 0x0⟩,
  ⟨.SYS_VMON, 0x100, 5, 0x4, 1, 0x0, 0x0, 0x0, 0x0, 0x0, 0x0, 0x0, 0x0, 0x0, 0x0⟩,
  ⟨.SYS_TEMP, 0x114, 1, 0x0, 1, 0x0, 0x0, 0x0, 0x0, 0x0, 0x0, 0x0, 0x0, 0x0, 0x0⟩,
  ⟨.SYS_XCFG, 0x120, 1, 0x0, 1, 0x0, 0x1f, 0x0, 0x0, 0x0, 0x0, 0x14, 0x0, 0x1f, 0x14⟩,
  ⟨.SYS_XSTAT, 0x124, 1, 0x0, 1, 0x0, 0x0, 0x0, 0x0, 0x0, 0x0, 0x0, 0x0, 0x0, 0x0⟩]

/-- The families of block CMD. -/
def regFamsCMD : List RegFam := [
  ⟨.CMD_REQ, 0x10000, 1034, 0x4, 1, 0x0, 0xffffffff, 0x0, 0x0, 0x0, 0x0, 0x0, 0xffffffff, 0x0, 0x0⟩,
  ⟨.CMD_RSP, 0x12000, 1034, 0x4, 1, 0x0, 0x0, 0x0, 0x0, 0x0, 0x0, 0x0, 0xffffffff, 0x0, 0x0⟩,
  ⟨.CMD_DB, 0x14000, 1, 0x0, 1, 0x0, 0x0, 0x0, 0x0, 0x0, 0x1, 0x0, 0x0, 0x0, 0x0⟩,
  ⟨.CMD_STAT, 0x14004, 1, 0x0, 1, 0x0, 0x0, 0x0, 0xe, 0x0, 0x0, 0x0, 0x0, 0x0, 0x0⟩,
  ⟨.CMD_CNT, 0x14008, 1, 0x0, 1, 0x0, 0x0, 0x0, 0x0, 0x0, 0x0, 0x0, 0x0, 0x0, 0x0⟩,
  ⟨.CMD_ECNT, 0x1400c, 1, 0x0, 1, 0x0, 0x0, 0x0, 0x0, 0x0, 0x0, 0x0, 0x0, 0x0, 0x0⟩,
  ⟨.CMD_LAST, 0x14010, 1, 0x0, 1, 0x0, 0x0, 0x0, 0x0, 0x0, 0x0, 0x0, 0x0, 0x0, 0x0⟩,
  ⟨.CMD_LASTSEQ, 0x14014, 1, 0x0, 1, 0x0, 0x0, 0x0, 0x0, 0x0, 0x0, 0x0, 0x0, 0x0, 0x0⟩]

/-- The families of block SEC. -/
def regFamsSEC : List RegFam := [
  ⟨.SEC_STAT, 0x20000, 1, 0x0, 1, 0x0, 0x0, 0x0, 0x18, 0x1000, 0x0, 0x0, 0x1000, 0x0, 0x1⟩,
  ⟨.SEC_DENY, 0x20004, 1, 0x0, 1, 0x0, 0x0, 0x0, 0x0, 0x0, 0x0, 0x0, 0x0, 0x0, 0x0⟩,
  ⟨.SEC_DENYINF, 0x20008, 1, 0x0, 1, 0x0, 0x0, 0x0, 0x0, 0x0, 0x0, 0x0, 0x0, 0x0, 0x0⟩,
  ⟨.SEC_AUTHCNT, 0x2000c, 1, 0x0, 1, 0x0, 0x0, 0x0, 0x0, 0x0, 0x0, 0x0, 0x0, 0x0, 0x0⟩,
  ⟨.SEC_KSTAT, 0x20100, 8, 0x4, 1, 0x0, 0x0, 0x0, 0x0, 0x0, 0x0, 0x0, 0x0, 0x0, 0x0⟩,
  ⟨.SEC_KCNT_LO, 0x20200, 8, 0x8, 1, 0x0, 0x0, 0x0, 0x0, 0x0, 0x0, 0x0, 0x0, 0x0, 0x0⟩,
  ⟨.SEC_KCNT_HI, 0x20204, 8, 0x8, 1, 0x0, 0x0, 0x0, 0x0, 0x0, 0x0, 0x0, 0x0, 0x0, 0x0⟩,
  ⟨.SEC_OTPH, 0x20300, 2, 0x20, 8, 0x4, 0x0, 0x0, 0x0, 0x0, 0x0, 0x0, 0x0, 0x0, 0x0⟩,
  ⟨.SEC_WMAP, 0x20400, 8, 0x4, 1, 0x0, 0x0, 0x0, 0x0, 0x0, 0x0, 0x0, 0x0, 0x0, 0x0⟩]

/-- The families of block CNV. -/
def regFamsCNV : List RegFam := [
  ⟨.CNV_GCFG, 0x40000, 8, 0x40, 1, 0x0, 0x0, 0xfff7, 0x0, 0x0, 0x0, 0x200, 0x0, 0xfff7, 0x204⟩,
  ⟨.CNV_GSTAT, 0x40004, 8, 0x40, 1, 0x0, 0x0, 0x0, 0x400000, 0x0, 0x0, 0xec00, 0x0, 0x0, 0xec00⟩,
  ⟨.CNV_REFREQ, 0x40008, 8, 0x40, 1, 0x0, 0x3, 0x0, 0x0, 0x0, 0x0, 0x0, 0x0, 0x0, 0x0⟩,
  ⟨.CNV_MAP0, 0x4000c, 8, 0x40, 1, 0x0, 0x0, 0x0, 0x0, 0x0, 0x0, 0x76543210, 0x0, 0x0, 0x76543210⟩,
  ⟨.CNV_MAP1, 0x40010, 8, 0x40, 1, 0x0, 0x0, 0x0, 0x0, 0x0, 0x0, 0xedcba98, 0x0, 0x0, 0xedcba98⟩,
  ⟨.CNV_GCNT, 0x40014, 8, 0x40, 1, 0x0, 0x0, 0x0, 0x0, 0x0, 0x0, 0x0, 0x0, 0x0, 0x0⟩,
  ⟨.CNV_ACNT, 0x40018, 8, 0x40, 1, 0x0, 0x0, 0x0, 0x0, 0x0, 0x0, 0x0, 0x0, 0x0, 0x0⟩,
  ⟨.CNV_CH, 0x40400, 64, 0x4, 1, 0x0, 0x0, 0x0, 0x0, 0x0, 0x0, 0x2, 0x0, 0x0, 0x2⟩,
  ⟨.CNV_CAL_OFS1, 0x40800, 8, 0x100, 15, 0x10, 0x0, 0x0, 0x0, 0x0, 0x0, 0x0, 0x0, 0x0, 0x0⟩,
  ⟨.CNV_CAL_GAIN1, 0x40804, 8, 0x100, 15, 0x10, 0x0, 0x0, 0x0, 0x0, 0x0, 0x0, 0x0, 0x0, 0x0⟩,
  ⟨.CNV_CAL_OFS16, 0x40808, 8, 0x100, 15, 0x10, 0x0, 0x0, 0x0, 0x0, 0x0, 0x0, 0x0, 0x0, 0x0⟩,
  ⟨.CNV_CAL_GAIN16, 0x4080c, 8, 0x100, 15, 0x10, 0x0, 0x0, 0x0, 0x0, 0x0, 0x0, 0x0, 0x0, 0x0⟩]

/-- The families of block AUX. -/
def regFamsAUX : List RegFam := [
  ⟨.AUX_CFG, 0x50000, 1, 0x0, 1, 0x0, 0xff, 0x0, 0x0, 0x0, 0x0, 0x4, 0x0, 0xff, 0x4⟩,
  ⟨.AUX_PERIOD, 0x50004, 1, 0x0, 1, 0x0, 0xfffff, 0x0, 0x0, 0x0, 0x0, 0x400, 0x0, 0xfffff, 0x400⟩,
  ⟨.AUX_CTL, 0x50008, 1, 0x0, 1, 0x0, 0x0, 0x0, 0x0, 0x0, 0xf, 0x0, 0x0, 0x0, 0x0⟩,
  ⟨.AUX_STAT, 0x5000c, 1, 0x0, 1, 0x0, 0x0, 0x0, 0x0, 0x0, 0x0, 0x0, 0x0, 0x0, 0x0⟩,
  ⟨.AUX_QSTAT, 0x50010, 1, 0x0, 1, 0x0, 0x0, 0x0, 0x70000, 0x0, 0x0, 0x0, 0x0, 0x0, 0x0⟩,
  ⟨.AUX_CNT, 0x50014, 1, 0x0, 1, 0x0, 0x0, 0x0, 0x0, 0x0, 0x0, 0x0, 0x0, 0x0, 0x0⟩,
  ⟨.AUX_QDATA_LO, 0x50018, 1, 0x0, 1, 0x0, 0x0, 0x0, 0x0, 0x0, 0x0, 0x0, 0x0, 0x0, 0x0⟩,
  ⟨.AUX_QDATA_HI, 0x5001c, 1, 0x0, 1, 0x0, 0x0, 0x0, 0x0, 0x0, 0x0, 0x0, 0x0, 0x0, 0x0⟩,
  ⟨.AUX_SNAP_LO, 0x50020, 1, 0x0, 1, 0x0, 0xffffffff, 0x0, 0x0, 0x0, 0x0, 0x0, 0x0, 0x0, 0x0⟩,
  ⟨.AUX_SNAP_HI, 0x50024, 1, 0x0, 1, 0x0, 0xffffffff, 0x0, 0x0, 0x0, 0x0, 0x0, 0x0, 0x0, 0x0⟩,
  ⟨.AUX_SNAP_GO, 0x50028, 1, 0x0, 1, 0x0, 0x0, 0x0, 0x0, 0x0, 0x1, 0x0, 0x0, 0x0, 0x0⟩,
  ⟨.AUX_ENT, 0x50100, 32, 0x4, 1, 0x0, 0x3ff1f, 0x0, 0x0, 0x0, 0x0, 0x0, 0x0, 0x3ff1f, 0x0⟩]

/-- The families of block FLT. -/
def regFamsFLT : List RegFam := [
  ⟨.FLT_CTL, 0x60000, 8, 0x40, 1, 0x0, 0x0, 0x0, 0x0, 0x0, 0x3, 0x0, 0x0, 0x0, 0x0⟩,
  ⟨.FLT_GSTAT, 0x60004, 8, 0x40, 1, 0x0, 0x0, 0x0, 0x1000, 0x0, 0x0, 0x0, 0x0, 0x0, 0x0⟩,
  ⟨.FLT_BANK, 0x60008, 8, 0x40, 1, 0x0, 0x7, 0x0, 0x0, 0x0, 0x0, 0x0, 0x0, 0x7, 0x0⟩,
  ⟨.FLT_DPCNT, 0x6000c, 8, 0x40, 1, 0x0, 0x0, 0x0, 0x0, 0x0, 0x0, 0x0, 0x0, 0x0, 0x0⟩,
  ⟨.FLT_TCFG, 0x60400, 1, 0x0, 1, 0x0, 0x0, 0x1ffff, 0x0, 0x0, 0x0, 0x4390, 0x0, 0x1ffff, 0x4390⟩,
  ⟨.FLT_TSRC, 0x60404, 1, 0x0, 1, 0x0, 0x0, 0x3ffff, 0x0, 0x0, 0x0, 0x380b0, 0x0, 0x3ffff, 0x380b0⟩,
  ⟨.FLT_TLIM, 0x60408, 1, 0x0, 1, 0x0, 0x0, 0x1ff01ff, 0x0, 0x0, 0x0, 0x20032, 0x0, 0x1ff01ff, 0x20032⟩,
  ⟨.FLT_FSTAT, 0x6040c, 1, 0x0, 1, 0x0, 0x0, 0x0, 0x10, 0x0, 0x0, 0x0, 0x0, 0x0, 0x0⟩,
  ⟨.FLT_FEST, 0x60410, 1, 0x0, 1, 0x0, 0x0, 0x0, 0x0, 0x0, 0x0, 0x32000000, 0x0, 0x0, 0x0⟩,
  ⟨.FLT_FTRK, 0x60414, 1, 0x0, 1, 0x0, 0x0, 0x0, 0x0, 0x0, 0x0, 0x32000000, 0x0, 0x0, 0x0⟩,
  ⟨.FLT_TIDX, 0x60418, 1, 0x0, 1, 0x0, 0x0, 0x0, 0x0, 0x0, 0x0, 0x0, 0x0, 0x0, 0x0⟩,
  ⟨.FLT_SVCFG, 0x6041c, 1, 0x0, 1, 0x0, 0x0, 0x3, 0x0, 0x0, 0x0, 0x0, 0x0, 0x3, 0x0⟩,
  ⟨.FLT_CADDR, 0x60420, 1, 0x0, 1, 0x0, 0x1ffff, 0x0, 0x0, 0x0, 0x0, 0x0, 0x0, 0x0, 0x0⟩,
  ⟨.FLT_CDATA, 0x60424, 1, 0x0, 1, 0x0, 0x0, 0x0, 0x0, 0x0, 0xffffff, 0x0, 0x0, 0x0, 0x0⟩,
  ⟨.FLT_CCMT, 0x60428, 1, 0x0, 1, 0x0, 0x0, 0x0, 0x0, 0x0, 0x1, 0x0, 0x0, 0x0, 0x0⟩,
  ⟨.FLT_PHSEL, 0x60430, 1, 0x0, 1, 0x0, 0xff, 0x0, 0x0, 0x0, 0x0, 0x0, 0x0, 0x0, 0x0⟩,
  ⟨.FLT_TRIM, 0x60800, 128, 0x4, 1, 0x0, 0xfff, 0x0, 0x0, 0x0, 0x0, 0x0, 0x0, 0xfff, 0x0⟩,
  ⟨.FLT_PHDATA, 0x60c00, 32, 0x4, 1, 0x0, 0x0, 0x0, 0x0, 0x0, 0x0, 0x0, 0x0, 0x0, 0x0⟩]

/-- The families of block PRT. -/
def regFamsPRT : List RegFam := [
  ⟨.PRT_BAY0, 0x80000, 12, 0x40, 1, 0x0, 0x0, 0xffffffff, 0x0, 0x0, 0x0, 0x180000, 0x0, 0xffffffff, 0x180000⟩,
  ⟨.PRT_BAY1, 0x80004, 12, 0x40, 1, 0x0, 0x0, 0xfffff, 0x0, 0x0, 0x0, 0x0, 0x0, 0xfffff, 0x0⟩,
  ⟨.PRT_ISCL, 0x80008, 12, 0x40, 1, 0x0, 0x0, 0xffffffff, 0x0, 0x0, 0x0, 0x0, 0x0, 0xffffffff, 0x0⟩,
  ⟨.PRT_VSCL, 0x8000c, 12, 0x40, 1, 0x0, 0x0, 0xffffffff, 0x0, 0x0, 0x0, 0x0, 0x0, 0xffffffff, 0x0⟩,
  ⟨.PRT_KB, 0x80010, 12, 0x40, 1, 0x0, 0x0, 0xffffff, 0x0, 0x0, 0x0, 0x400000, 0x0, 0xffffff, 0x400000⟩,
  ⟨.PRT_BSTAT, 0x80014, 12, 0x40, 1, 0x0, 0x0, 0x0, 0x0, 0x0, 0x0, 0x0, 0x0, 0x0, 0x0⟩,
  ⟨.PRT_ISE_TLO, 0x80018, 12, 0x40, 1, 0x0, 0x0, 0x0, 0x0, 0x0, 0x0, 0x0, 0x0, 0x0, 0x0⟩,
  ⟨.PRT_ISE_THI, 0x8001c, 12, 0x40, 1, 0x0, 0x0, 0x0, 0x0, 0x0, 0x0, 0x0, 0x0, 0x0, 0x0⟩,
  ⟨.PRT_ISE_RES, 0x80020, 12, 0x40, 1, 0x0, 0x0, 0x0, 0x8, 0x0, 0x0, 0x0, 0x0, 0x0, 0x0⟩,
  ⟨.PRT_ZIDMIN, 0x80400, 2, 0x20, 1, 0x0, 0x0, 0xffffffff, 0x0, 0x0, 0x0, 0x0, 0x0, 0xffffffff, 0x0⟩,
  ⟨.PRT_ZCFG, 0x80404, 2, 0x20, 1, 0x0, 0x0, 0x7fffffff, 0x0, 0x0, 0x0, 0x24000, 0x0, 0x7fffffff, 0x24000⟩,
  ⟨.PRT_ZMAP, 0x80408, 2, 0x20, 1, 0x0, 0x0, 0xffffff, 0x0, 0x0, 0x0, 0x0, 0x0, 0xffffff, 0x0⟩,
  ⟨.PRT_ZIDALM, 0x8040c, 2, 0x20, 1, 0x0, 0x0, 0xffffffff, 0x0, 0x0, 0x0, 0x0, 0x0, 0xffffffff, 0x0⟩,
  ⟨.PRT_ZTALM, 0x80410, 2, 0x20, 1, 0x0, 0x0, 0xffff, 0x0, 0x0, 0x0, 0x3e8, 0x0, 0xffff, 0x3e8⟩,
  ⟨.PRT_ZSTAT, 0x80414, 2, 0x20, 1, 0x0, 0x0, 0x0, 0x0, 0x0, 0x0, 0x0, 0x0, 0x0, 0x0⟩,
  ⟨.PRT_ST, 0x81000, 512, 0x4, 1, 0x0, 0x0, 0x0, 0x80000, 0x0, 0x0, 0x4300, 0x0, 0x0, 0x4300⟩,
  ⟨.PRT_ACC, 0x81800, 512, 0x4, 1, 0x0, 0x0, 0x0, 0x0, 0x0, 0x0, 0x0, 0x0, 0x0, 0x0⟩,
  ⟨.PRT_SET, 0x90000, 512, 0x80, 32, 0x4, 0x0, 0xffffffff, 0x0, 0x0, 0x0, 0x0, 0x0, 0xffffffff, 0x0⟩]

/-- The families of block POD. -/
def regFamsPOD : List RegFam := [
  ⟨.POD_STAT, 0xa0000, 3, 0x40, 1, 0x0, 0x0, 0x0, 0x0, 0x0, 0x0, 0x1800, 0x0, 0x0, 0x1800⟩,
  ⟨.POD_RCNT, 0xa0004, 3, 0x40, 1, 0x0, 0x0, 0x0, 0x0, 0x0, 0x0, 0x0, 0x0, 0x0, 0x0⟩,
  ⟨.POD_RWIN, 0xa0008, 3, 0x40, 1, 0x0, 0x0, 0x0, 0x0, 0x0, 0x0, 0x0, 0x0, 0x0, 0x0⟩,
  ⟨.POD_VCNT, 0xa000c, 3, 0x40, 1, 0x0, 0x0, 0x0, 0x0, 0x0, 0x0, 0x0, 0x0, 0x0, 0x0⟩,
  ⟨.POD_MEMCNT, 0xa0010, 3, 0x40, 1, 0x0, 0x0, 0x0, 0x0, 0x0, 0x0, 0x0, 0x0, 0x0, 0x0⟩,
  ⟨.POD_ERRADDR, 0xa0014, 3, 0x40, 1, 0x0, 0x0, 0x0, 0x0, 0x0, 0x0, 0x0, 0x0, 0x0, 0x0⟩,
  ⟨.POD_RSDUR, 0xa0018, 3, 0x40, 1, 0x0, 0x0, 0x0, 0x0, 0x0, 0x0, 0x0, 0x0, 0x0, 0x0⟩,
  ⟨.POD_SCRUB, 0xa001c, 3, 0x40, 1, 0x0, 0x0, 0x0, 0x0, 0x0, 0x0, 0x0, 0x0, 0x0, 0x0⟩,
  ⟨.POD_LCFG, 0xa0400, 1, 0x0, 1, 0x0, 0x0, 0x7, 0x0, 0x0, 0x0, 0x0, 0x0, 0x7, 0x0⟩,
  ⟨.POD_LSTAT, 0xa0404, 1, 0x0, 1, 0x0, 0x0, 0x0, 0x20, 0x0, 0x0, 0x0, 0x0, 0x0, 0x0⟩,
  ⟨.POD_LHELD, 0xa0408, 1, 0x0, 1, 0x0, 0x0, 0x0, 0x0, 0x0, 0x0, 0x0, 0x0, 0x0, 0x0⟩,
  ⟨.POD_LJOIN, 0xa040c, 1, 0x0, 1, 0x0, 0x0, 0x0, 0x0, 0x0, 0x0, 0x0, 0x0, 0x0, 0x0⟩]

/-- The families of block TRP. -/
def regFamsTRP : List RegFam := [
  ⟨.TRP_OCFG, 0xc0000, 32, 0x4, 1, 0x0, 0x0, 0xffffff, 0x0, 0x0, 0x0, 0x8, 0x0, 0xffffff, 0x8⟩,
  ⟨.TRP_ESRC, 0xc0100, 512, 0x4, 1, 0x0, 0x0, 0x1fff, 0x0, 0x0, 0x0, 0x0, 0x0, 0x1fff, 0x0⟩,
  ⟨.TRP_AMAP, 0xc1000, 32, 0x80, 24, 0x4, 0x0, 0xffffffff, 0x0, 0x0, 0x0, 0x0, 0x0, 0xffffffff, 0x0⟩,
  ⟨.TRP_FMAP, 0xc2000, 32, 0x80, 24, 0x4, 0x0, 0xffffffff, 0x0, 0x0, 0x0, 0x0, 0x0, 0xffffffff, 0x0⟩,
  ⟨.TRP_ARM_ST, 0xc3000, 1, 0x0, 1, 0x0, 0x0, 0x0, 0x0, 0x0, 0x0, 0x0, 0x0, 0x0, 0x0⟩,
  ⟨.TRP_FIRE_ST, 0xc3004, 1, 0x0, 1, 0x0, 0x0, 0x0, 0x0, 0x0, 0x0, 0x0, 0x0, 0x0, 0x0⟩,
  ⟨.TRP_DRV_ARM, 0xc3008, 1, 0x0, 1, 0x0, 0x0, 0x0, 0x0, 0x0, 0x0, 0x0, 0x0, 0x0, 0x0⟩,
  ⟨.TRP_DRV_FIRE, 0xc300c, 1, 0x0, 1, 0x0, 0x0, 0x0, 0x0, 0x0, 0x0, 0x0, 0x0, 0x0, 0x0⟩,
  ⟨.TRP_FRC_ARM, 0xc3010, 1, 0x0, 1, 0x0, 0x0, 0x0, 0x0, 0x0, 0x0, 0x0, 0x0, 0x0, 0x0⟩,
  ⟨.TRP_FRC_FIRE, 0xc3014, 1, 0x0, 1, 0x0, 0x0, 0x0, 0x0, 0x0, 0x0, 0x0, 0x0, 0x0, 0x0⟩,
  ⟨.TRP_LATCH, 0xc3018, 1, 0x0, 1, 0x0, 0x0, 0x0, 0x0, 0x0, 0x0, 0x0, 0x0, 0x0, 0x0⟩,
  ⟨.TRP_STAT, 0xc3020, 1, 0x0, 1, 0x0, 0x0, 0x0, 0x0, 0x0, 0x0, 0x0, 0x0, 0x0, 0x0⟩,
  ⟨.TRP_FAILST, 0xc3024, 1, 0x0, 1, 0x0, 0x0, 0x0, 0x0, 0x0, 0x0, 0x0, 0x0, 0x0, 0x0⟩,
  ⟨.TRP_RBA, 0xc3028, 1, 0x0, 1, 0x0, 0x0, 0x0, 0x0, 0xffffffff, 0x0, 0x0, 0xffffffff, 0x0, 0x0⟩,
  ⟨.TRP_RBF, 0xc302c, 1, 0x0, 1, 0x0, 0x0, 0x0, 0x0, 0xffffffff, 0x0, 0x0, 0xffffffff, 0x0, 0x0⟩,
  ⟨.TRP_CNT, 0xc3030, 1, 0x0, 1, 0x0, 0x0, 0x0, 0x0, 0x0, 0x0, 0x0, 0x0, 0x0, 0x0⟩,
  ⟨.TRP_SCHED, 0xc3040, 2, 0x8, 1, 0x0, 0x0, 0xffff, 0x0, 0x0, 0x0, 0x0, 0x0, 0xffff, 0x0⟩,
  ⟨.TRP_SCHED2, 0xc3044, 2, 0x8, 1, 0x0, 0x0, 0x7ff, 0x0, 0x0, 0x0, 0x0, 0x0, 0x7ff, 0x0⟩,
  ⟨.TRP_WDCFG, 0xc3050, 1, 0x0, 1, 0x0, 0x0, 0x1, 0x0, 0x0, 0x0, 0x1, 0x0, 0x1, 0x1⟩,
  ⟨.TRP_OPCNT, 0xc3100, 32, 0x4, 1, 0x0, 0x0, 0x0, 0x0, 0x0, 0x0, 0x0, 0xffffffff, 0x0, 0x0⟩]

/-- The families of block BIO. -/
def regFamsBIO : List RegFam := [
  ⟨.BIO_CFG, 0xc8000, 64, 0x4, 1, 0x0, 0x0, 0x3ffff, 0x0, 0x0, 0x0, 0x0, 0x0, 0x3ffff, 0x0⟩,
  ⟨.BIO_STATE_LO, 0xc8100, 1, 0x0, 1, 0x0, 0x0, 0x0, 0x0, 0x0, 0x0, 0x0, 0x0, 0x0, 0x0⟩,
  ⟨.BIO_STATE_HI, 0xc8104, 1, 0x0, 1, 0x0, 0x0, 0x0, 0x0, 0x0, 0x0, 0x0, 0x0, 0x0, 0x0⟩,
  ⟨.BIO_RAW_LO, 0xc8108, 1, 0x0, 1, 0x0, 0x0, 0x0, 0x0, 0x0, 0x0, 0x0, 0x0, 0x0, 0x0⟩,
  ⟨.BIO_RAW_HI, 0xc810c, 1, 0x0, 1, 0x0, 0x0, 0x0, 0x0, 0x0, 0x0, 0x0, 0x0, 0x0, 0x0⟩,
  ⟨.BIO_IDX, 0xc8200, 64, 0x4, 1, 0x0, 0x0, 0x0, 0x0, 0x0, 0x0, 0x0, 0x0, 0x0, 0x0⟩,
  ⟨.BIO_TLO, 0xc8300, 64, 0x8, 1, 0x0, 0x0, 0x0, 0x0, 0x0, 0x0, 0x0, 0x0, 0x0, 0x0⟩,
  ⟨.BIO_THI, 0xc8304, 64, 0x8, 1, 0x0, 0x0, 0x0, 0x0, 0x0, 0x0, 0x0, 0x0, 0x0, 0x0⟩,
  ⟨.BIO_CHG, 0xc8500, 64, 0x4, 1, 0x0, 0x0, 0x0, 0x0, 0x0, 0x0, 0x0, 0x0, 0x0, 0x0⟩]

/-- The families of block LGC. -/
def regFamsLGC : List RegFam := [
  ⟨.LGC_CFG, 0xe0000, 1, 0x0, 1, 0x0, 0x0, 0xffffffff, 0x0, 0x0, 0x0, 0x7d083e8, 0x0, 0xffffbfff, 0x7d083e8⟩,
  ⟨.LGC_SIZE, 0xe0004, 1, 0x0, 1, 0x0, 0x0, 0x7ff7fff, 0x0, 0x0, 0x0, 0x0, 0x0, 0x7ff7fff, 0x0⟩,
  ⟨.LGC_WCET, 0xe0008, 1, 0x0, 1, 0x0, 0x0, 0xffffffff, 0x0, 0x0, 0x0, 0x0, 0x0, 0xffffffff, 0x0⟩,
  ⟨.LGC_LIM, 0xe000c, 1, 0x0, 1, 0x0, 0x0, 0xffff, 0x0, 0x0, 0x0, 0x0, 0x0, 0xffff, 0x0⟩,
  ⟨.LGC_MODE, 0xe0010, 1, 0x0, 1, 0x0, 0x0, 0x0, 0x0, 0x0, 0x0, 0x0, 0x0, 0x0, 0x0⟩,
  ⟨.LGC_STAT, 0xe0014, 1, 0x0, 1, 0x0, 0x0, 0x0, 0x13, 0x0, 0x0, 0x0, 0x0, 0x0, 0x0⟩,
  ⟨.LGC_SCAN_LAST, 0xe0018, 1, 0x0, 1, 0x0, 0x0, 0x0, 0x0, 0x0, 0x0, 0x0, 0x0, 0x0, 0x0⟩,
  ⟨.LGC_SCAN_MIN, 0xe001c, 1, 0x0, 1, 0x0, 0x0, 0x0, 0x0, 0x0, 0x0, 0xffffffff, 0x0, 0x0, 0xffffffff⟩,
  ⟨.LGC_SCAN_MAX, 0xe0020, 1, 0x0, 1, 0x0, 0x0, 0x0, 0x0, 0x0, 0x0, 0x0, 0x0, 0x0, 0x0⟩,
  ⟨.LGC_SCANCNT, 0xe0024, 1, 0x0, 1, 0x0, 0x0, 0x0, 0x0, 0x0, 0x0, 0x0, 0x0, 0x0, 0x0⟩,
  ⟨.LGC_OVR, 0xe0028, 1, 0x0, 1, 0x0, 0x0, 0x0, 0x0, 0x0, 0x0, 0x0, 0x0, 0x0, 0x0⟩,
  ⟨.LGC_RTN, 0xe002c, 1, 0x0, 1, 0x0, 0x0, 0x0, 0x0, 0x0, 0x0, 0x0, 0x0, 0x0, 0x0⟩,
  ⟨.LGC_XSTAT, 0xe0030, 1, 0x0, 1, 0x0, 0x0, 0x0, 0x0, 0x0, 0x0, 0x0, 0x0, 0x0, 0x0⟩,
  ⟨.LGC_XWORK, 0xe0034, 1, 0x0, 1, 0x0, 0x0, 0x0, 0x0, 0x0, 0x0, 0x0, 0x0, 0x0, 0x0⟩,
  ⟨.LGC_OUT, 0xe0100, 8, 0x4, 1, 0x0, 0x0, 0x0, 0x0, 0x0, 0x0, 0x0, 0x0, 0x0, 0x0⟩,
  ⟨.LGC_STOPACT, 0xe0200, 16, 0x4, 1, 0x0, 0x0, 0xffffffff, 0x0, 0x0, 0x0, 0xffffffff, 0x0, 0xffffffff, 0xffffffff⟩,
  ⟨.LGC_SUBCFG, 0xe0400, 144, 0x4, 1, 0x0, 0x0, 0x3, 0x0, 0x0, 0x0, 0x0, 0x0, 0x3, 0x0⟩,
  ⟨.LGC_SUBST, 0xe0800, 144, 0x4, 1, 0x0, 0x0, 0x0, 0x0, 0x0, 0x0, 0x0, 0x0, 0x0, 0x0⟩]

/-- The families of block REC. -/
def regFamsREC : List RegFam := [
  ⟨.REC_CCFG, 0x100000, 8, 0x40, 1, 0x0, 0x0, 0xffffffff, 0x0, 0x0, 0x0, 0x0, 0x0, 0xffffffff, 0x0⟩,
  ⟨.REC_CSEG, 0x100004, 8, 0x40, 1, 0x0, 0x0, 0x7ffff, 0x0, 0x0, 0x0, 0x0, 0x0, 0x7ffff, 0x0⟩,
  ⟨.REC_CCAP, 0x100008, 8, 0x40, 1, 0x0, 0x0, 0xffffffff, 0x0, 0x0, 0x0, 0x0, 0x0, 0x0, 0x0⟩,
  ⟨.REC_CPRE, 0x10000c, 8, 0x40, 1, 0x0, 0xffffffff, 0x0, 0x0, 0x0, 0x0, 0x0, 0x0, 0xffffffff, 0x0⟩,
  ⟨.REC_CPOST, 0x100010, 8, 0x40, 1, 0x0, 0xffffffff, 0x0, 0x0, 0x0, 0x0, 0x1, 0x0, 0xffffffff, 0x1⟩,
  ⟨.REC_CCTL, 0x100014, 8, 0x40, 1, 0x0, 0x0, 0x0, 0x0, 0x0, 0xf, 0x0, 0x0, 0x0, 0x0⟩,
  ⟨.REC_CSTAT, 0x100018, 8, 0x40, 1, 0x0, 0x0, 0x0, 0x0, 0x0, 0x0, 0x1fff0000, 0x0, 0x0, 0x1fff0000⟩,
  ⟨.REC_CCNT, 0x10001c, 8, 0x40, 1, 0x0, 0x0, 0x0, 0x0, 0x0, 0x0, 0x0, 0x0, 0x0, 0x0⟩,
  ⟨.REC_CMASK, 0x100020, 8, 0x40, 1, 0x0, 0x0, 0x1fffff, 0x0, 0x0, 0x0, 0x10000, 0x0, 0x1fffff, 0x10000⟩,
  ⟨.REC_CMABS, 0x100024, 8, 0x40, 1, 0x0, 0x0, 0xffffffff, 0x0, 0x0, 0x0, 0x1, 0x0, 0xffffffff, 0x1⟩,
  ⟨.REC_CCH, 0x100400, 8, 0x20, 4, 0x4, 0x0, 0xffffffff, 0x0, 0x0, 0x0, 0x0, 0x0, 0xffffffff, 0x0⟩,
  ⟨.REC_CMCH, 0x100410, 8, 0x20, 4, 0x4, 0x0, 0xffffffff, 0x0, 0x0, 0x0, 0x0, 0x0, 0xffffffff, 0x0⟩,
  ⟨.REC_CTRG, 0x100800, 8, 0x80, 32, 0x4, 0x0, 0xffff, 0x0, 0x0, 0x0, 0x2000, 0x0, 0xffff, 0x2000⟩,
  ⟨.REC_CHSCL, 0x100c00, 128, 0x4, 1, 0x0, 0x0, 0xffffffff, 0x0, 0x0, 0x0, 0x0, 0x0, 0xffffffff, 0x0⟩,
  ⟨.REC_CHRAT, 0x100e00, 128, 0x4, 1, 0x0, 0x0, 0xffffffff, 0x0, 0x0, 0x0, 0x0, 0x0, 0xffffffff, 0x0⟩,
  ⟨.REC_WSEL, 0x101000, 1, 0x0, 1, 0x0, 0xffff, 0x0, 0x0, 0x0, 0x0, 0x0, 0x0, 0x0, 0x0⟩,
  ⟨.REC_WIN_BASE, 0x101004, 1, 0x0, 1, 0x0, 0xfffff000, 0x0, 0x0, 0x0, 0x0, 0x0, 0x0, 0x0, 0x0⟩,
  ⟨.REC_WSTAT, 0x101008, 1, 0x0, 1, 0x0, 0x0, 0x0, 0x2, 0x0, 0x0, 0x0, 0x0, 0x0, 0x0⟩,
  ⟨.REC_WLEN, 0x10100c, 1, 0x0, 1, 0x0, 0x0, 0x0, 0x0, 0x0, 0x0, 0x0, 0x0, 0x0, 0x0⟩,
  ⟨.REC_REL, 0x101010, 1, 0x0, 1, 0x0, 0x0, 0x0, 0x0, 0x0, 0xfff, 0x0, 0x0, 0x0, 0x0⟩,
  ⟨.REC_IDXSEL, 0x101014, 1, 0x0, 1, 0x0, 0xfff, 0x0, 0x0, 0x0, 0x0, 0x0, 0x0, 0x0, 0x0⟩,
  ⟨.REC_IDXW, 0x101018, 4, 0x4, 1, 0x0, 0x0, 0x0, 0x0, 0x0, 0x0, 0x0, 0x0, 0x0, 0x0⟩,
  ⟨.REC_SEQ, 0x101028, 1, 0x0, 1, 0x0, 0x0, 0x0, 0x0, 0x0, 0x0, 0x0, 0x0, 0x0, 0x0⟩,
  ⟨.REC_SLOT, 0x10102c, 1, 0x0, 1, 0x0, 0x0, 0x3f, 0x0, 0x0, 0x0, 0x0, 0x0, 0x3f, 0x0⟩]

/-- The families of block TIM. -/
def regFamsTIM : List RegFam := [
  ⟨.TIM_CFG, 0x120000, 4, 0x40, 1, 0x0, 0x0, 0x3fff, 0x0, 0x0, 0x0, 0x1000, 0x0, 0x3fff, 0x1000⟩,
  ⟨.TIM_THR, 0x120004, 4, 0x40, 1, 0x0, 0x0, 0x3fffffff, 0x0, 0x0, 0x0, 0x2710, 0x0, 0x3fffffff, 0x2710⟩,
  ⟨.TIM_SERVO, 0x120008, 4, 0x40, 1, 0x0, 0x0, 0xffffffff, 0x0, 0x0, 0x0, 0x643208, 0x0, 0xffffffff, 0x643208⟩,
  ⟨.TIM_STAT, 0x12000c, 4, 0x40, 1, 0x0, 0x0, 0x0, 0x30000, 0x0, 0x0, 0x3f00, 0x0, 0x0, 0x3f00⟩,
  ⟨.TIM_NOW_LO, 0x120010, 4, 0x40, 1, 0x0, 0x0, 0x0, 0x0, 0x0, 0x0, 0x0, 0x0, 0x0, 0x0⟩,
  ⟨.TIM_NOW_HI, 0x120014, 4, 0x40, 1, 0x0, 0x0, 0x0, 0x0, 0x0, 0x0, 0x0, 0x0, 0x0, 0x0⟩,
  ⟨.TIM_NOW_X, 0x120018, 4, 0x40, 1, 0x0, 0x0, 0x0, 0x0, 0x0, 0x0, 0x0, 0x0, 0x0, 0x0⟩,
  ⟨.TIM_OFS, 0x12001c, 4, 0x40, 1, 0x0, 0x0, 0x0, 0x0, 0x0, 0x0, 0x0, 0x0, 0x0, 0x0⟩,
  ⟨.TIM_FADJ, 0x120020, 4, 0x40, 1, 0x0, 0x0, 0x0, 0x0, 0x0, 0x0, 0x0, 0x0, 0x0, 0x0⟩,
  ⟨.TIM_PEND_LO, 0x120024, 4, 0x40, 1, 0x0, 0x0, 0x0, 0x0, 0x0, 0x0, 0x0, 0x0, 0x0, 0x0⟩,
  ⟨.TIM_PEND_HI, 0x120028, 4, 0x40, 1, 0x0, 0x0, 0x0, 0x0, 0x0, 0x0, 0x0, 0x0, 0x0, 0x0⟩,
  ⟨.TIM_GM_LO, 0x12002c, 4, 0x40, 1, 0x0, 0x0, 0x0, 0x0, 0x0, 0x0, 0x0, 0x0, 0x0, 0x0⟩,
  ⟨.TIM_GM_HI, 0x120030, 4, 0x40, 1, 0x0, 0x0, 0x0, 0x0, 0x0, 0x0, 0x0, 0x0, 0x0, 0x0⟩,
  ⟨.TIM_CNT, 0x120034, 4, 0x40, 1, 0x0, 0x0, 0x0, 0x0, 0x0, 0x0, 0x0, 0x0, 0x0, 0x0⟩,
  ⟨.TIM_SAMP, 0x120400, 1, 0x0, 1, 0x0, 0x3, 0x4, 0x0, 0x0, 0x0, 0x0, 0x0, 0x7, 0x0⟩,
  ⟨.TIM_UTC, 0x120404, 1, 0x0, 1, 0x0, 0x0, 0xff000000, 0x0, 0x0, 0x0, 0x25000025, 0x0, 0xff000000, 0x25000000⟩,
  ⟨.TIM_IRIG, 0x120408, 1, 0x0, 1, 0x0, 0xffff0000, 0x7ff, 0x0, 0x0, 0x0, 0x7d00000, 0x0, 0xffff07ff, 0x7d00000⟩,
  ⟨.TIM_PPSO, 0x12040c, 1, 0x0, 1, 0x0, 0x0, 0xffff1fff, 0x0, 0x0, 0x0, 0x640, 0x0, 0xffff1fff, 0x640⟩,
  ⟨.TIM_IDX, 0x120410, 1, 0x0, 1, 0x0, 0x0, 0x0, 0x0, 0x0, 0x0, 0x0, 0x0, 0x0, 0x0⟩,
  ⟨.TIM_GMCFG, 0x120414, 1, 0x0, 1, 0x0, 0x0, 0xffff, 0x0, 0x0, 0x0, 0x8080, 0x0, 0xffff, 0x8080⟩,
  ⟨.TIM_CARRY, 0x120418, 1, 0x0, 1, 0x0, 0x0, 0x0, 0x0, 0x0, 0x0, 0x0, 0x0, 0x0, 0x0⟩]

/-- The families of block NET. -/
def regFamsNET : List RegFam := [
  ⟨.NET_MODE, 0x140000, 1, 0x0, 1, 0x0, 0x0, 0xff, 0x0, 0x0, 0x0, 0x40, 0x0, 0xff, 0x40⟩,
  ⟨.NET_MAC_LO, 0x140004, 1, 0x0, 1, 0x0, 0x0, 0xffffffff, 0x0, 0x0, 0x0, 0x0, 0x0, 0xffffffff, 0x0⟩,
  ⟨.NET_MAC_HI, 0x140008, 1, 0x0, 1, 0x0, 0x0, 0xffff, 0x0, 0x0, 0x0, 0x0, 0x0, 0xffff, 0x0⟩,
  ⟨.NET_RCFG, 0x14000c, 1, 0x0, 1, 0x0, 0x0, 0xff7f03ff, 0x0, 0x0, 0x0, 0x140190, 0x0, 0xff7f03ff, 0x140190⟩,
  ⟨.NET_DUP, 0x140010, 1, 0x0, 1, 0x0, 0x0, 0x0, 0x0, 0x0, 0x0, 0x0, 0x0, 0x0, 0x0⟩,
  ⟨.NET_WLAN, 0x140014, 1, 0x0, 1, 0x0, 0x0, 0x0, 0x0, 0x0, 0x0, 0x0, 0x0, 0x0, 0x0⟩,
  ⟨.NET_DDT, 0x140018, 1, 0x0, 1, 0x0, 0x0, 0x0, 0x0, 0x0, 0x0, 0x0, 0x0, 0x0, 0x0⟩,
  ⟨.NET_RSTAT, 0x14001c, 1, 0x0, 1, 0x0, 0x0, 0x0, 0x2, 0x0, 0x0, 0x0, 0x0, 0x0, 0x0⟩,
  ⟨.NET_PCFG, 0x140100, 3, 0x20, 1, 0x0, 0x0, 0xf, 0x0, 0x0, 0x0, 0x0, 0x0, 0xf, 0x0⟩,
  ⟨.NET_PSTAT, 0x140104, 3, 0x20, 1, 0x0, 0x0, 0x0, 0x8, 0x0, 0x0, 0x0, 0x0, 0x0, 0x0⟩,
  ⟨.NET_PRX, 0x140108, 3, 0x20, 1, 0x0, 0x0, 0x0, 0x0, 0x0, 0x0, 0x0, 0x0, 0x0, 0x0⟩,
  ⟨.NET_PTX, 0x14010c, 3, 0x20, 1, 0x0, 0x0, 0x0, 0x0, 0x0, 0x0, 0x0, 0x0, 0x0, 0x0⟩,
  ⟨.NET_PDROP, 0x140110, 3, 0x20, 1, 0x0, 0x0, 0x0, 0x0, 0x0, 0x0, 0x0, 0x0, 0x0, 0x0⟩,
  ⟨.NET_PDLY, 0x140114, 3, 0x20, 1, 0x0, 0x0, 0x0, 0x0, 0x0, 0x0, 0xffffffff, 0x0, 0x0, 0xffffffff⟩,
  ⟨.NET_TCMAX, 0x140200, 1, 0x0, 1, 0x0, 0x0, 0x0, 0x0, 0x0, 0x0, 0x0, 0x0, 0x0, 0x0⟩,
  ⟨.NET_MDIO, 0x140300, 1, 0x0, 1, 0x0, 0xffff03ff, 0x0, 0x0, 0x0, 0x1c00, 0x0, 0x0, 0x0, 0x0⟩]

/-- The families of block GSV. -/
def regFamsGSV : List RegFam := [
  ⟨.GSV_PCB, 0x160000, 32, 0x10, 1, 0x0, 0x0, 0x7ffffff, 0x0, 0x0, 0x0, 0x1f4008, 0x0, 0x7ffffff, 0x1f4008⟩,
  ⟨.GSV_PSTNUM, 0x160004, 32, 0x10, 1, 0x0, 0x0, 0x0, 0x0, 0x0, 0x0, 0x0, 0x0, 0x0, 0x1⟩,
  ⟨.GSV_PSQNUM, 0x160008, 32, 0x10, 1, 0x0, 0x0, 0x0, 0x0, 0x0, 0x0, 0x0, 0x0, 0x0, 0x0⟩,
  ⟨.GSV_PCNT, 0x16000c, 32, 0x10, 1, 0x0, 0x0, 0x0, 0x0, 0x0, 0x0, 0x0, 0x0, 0x0, 0x0⟩,
  ⟨.GSV_SCFG, 0x160400, 128, 0x8, 1, 0x0, 0x0, 0x3, 0x0, 0x0, 0x0, 0x0, 0x0, 0x3, 0x0⟩,
  ⟨.GSV_SSTAT, 0x160404, 128, 0x8, 1, 0x0, 0x0, 0x0, 0x0, 0x0, 0x0, 0x0, 0x0, 0x0, 0x0⟩,
  ⟨.GSV_SVSCFG, 0x160800, 16, 0x8, 1, 0x0, 0x0, 0x7fff, 0x0, 0x0, 0x0, 0xc88, 0x0, 0x7fff, 0xc88⟩,
  ⟨.GSV_SVSSTAT, 0x160804, 16, 0x8, 1, 0x0, 0x0, 0x0, 0x0, 0x0, 0x0, 0x0, 0x0, 0x0, 0x0⟩,
  ⟨.GSV_VCH, 0x160900, 64, 0x8, 1, 0x0, 0x0, 0x7ff, 0x0, 0x0, 0x0, 0x0, 0x0, 0x7ff, 0x0⟩,
  ⟨.GSV_VGAIN, 0x160904, 64, 0x8, 1, 0x0, 0x0, 0xffffffff, 0x0, 0x0, 0x0, 0x0, 0x0, 0xffffffff, 0x0⟩,
  ⟨.GSV_SVPCFG, 0x160c00, 8, 0x10, 1, 0x0, 0x0, 0xf, 0x0, 0x0, 0x0, 0x2, 0x0, 0xf, 0x2⟩,
  ⟨.GSV_SVPCH, 0x160c04, 8, 0x10, 2, 0x4, 0x0, 0x7f7f7f7f, 0x0, 0x0, 0x0, 0x0, 0x0, 0x7f7f7f7f, 0x0⟩,
  ⟨.GSV_PGAIN, 0x160d00, 8, 0x20, 8, 0x4, 0x0, 0xffffffff, 0x0, 0x0, 0x0, 0x0, 0x0, 0xffffffff, 0x0⟩]

/-- The families of block OZX. -/
def regFamsOZX : List RegFam := [
  ⟨.OZX_CFG, 0x180000, 1, 0x0, 1, 0x0, 0x0, 0xfff, 0x0, 0x0, 0x0, 0x0, 0x0, 0xfff, 0x0⟩,
  ⟨.OZX_PCFG, 0x180004, 1, 0x0, 1, 0x0, 0x0, 0x7ffff, 0x0, 0x0, 0x0, 0x4012c, 0x0, 0x7ffff, 0x4012c⟩,
  ⟨.OZX_PSTAT, 0x180008, 1, 0x0, 1, 0x0, 0x0, 0x0, 0x300, 0x0, 0x0, 0x0, 0x0, 0x0, 0x0⟩,
  ⟨.OZX_PCNT, 0x18000c, 1, 0x0, 1, 0x0, 0x0, 0x0, 0x0, 0x0, 0x0, 0x0, 0x0, 0x0, 0x0⟩,
  ⟨.OZX_OUTW, 0x180010, 2, 0x4, 1, 0x0, 0x0, 0xffffffff, 0x0, 0x0, 0x0, 0x0, 0x0, 0xffffffff, 0x0⟩,
  ⟨.OZX_LSTAT, 0x180100, 2, 0x10, 1, 0x0, 0x0, 0x0, 0x8, 0x0, 0x0, 0x0, 0x0, 0x0, 0x0⟩,
  ⟨.OZX_LDLY, 0x180104, 2, 0x10, 1, 0x0, 0x0, 0x0, 0x0, 0x0, 0x0, 0xffff, 0x0, 0x0, 0xffff⟩,
  ⟨.OZX_LCNT, 0x180108, 2, 0x10, 1, 0x0, 0x0, 0x0, 0x0, 0x0, 0x0, 0x0, 0x0, 0x0, 0x0⟩,
  ⟨.OZX_TCNT, 0x180200, 1, 0x0, 1, 0x0, 0x0, 0x0, 0x0, 0x0, 0x0, 0x0, 0x0, 0x0, 0x0⟩]

/-- The families of block EVT. -/
def regFamsEVT : List RegFam := [
  ⟨.EVT_QSTAT, 0x1a0000, 2, 0x8000, 1, 0x0, 0x0, 0x0, 0xa000, 0x0, 0x0, 0x0, 0x0, 0x0, 0x0⟩,
  ⟨.EVT_QCNT, 0x1a0004, 2, 0x8000, 1, 0x0, 0x0, 0x0, 0x0, 0x0, 0x0, 0x0, 0x0, 0x0, 0x0⟩,
  ⟨.EVT_QACK, 0x1a0008, 2, 0x8000, 1, 0x0, 0x0, 0x0, 0x0, 0x0, 0x1fff, 0x0, 0x0, 0x0, 0x0⟩,
  ⟨.EVT_QDATA, 0x1a0020, 2, 0x8000, 8, 0x4, 0x0, 0x0, 0x0, 0x0, 0x0, 0x0, 0x0, 0x0, 0x0⟩,
  ⟨.EVT_EN, 0x1a0100, 4, 0x4, 1, 0x0, 0x0, 0xffffffff, 0x0, 0x0, 0x0, 0xffffffff, 0x0, 0xffffffff, 0xffffffff⟩,
  ⟨.EVT_SEEN, 0x1a0110, 4, 0x4, 1, 0x0, 0x0, 0x0, 0xffffffff, 0x0, 0x0, 0x0, 0x0, 0x0, 0x0⟩,
  ⟨.EVT_LOG, 0x1a0120, 1, 0x0, 1, 0x0, 0x0, 0x0, 0x0, 0x0, 0x0, 0x0, 0x0, 0x0, 0x0⟩,
  ⟨.EVT_ESEQ, 0x1a0124, 1, 0x0, 1, 0x0, 0x0, 0x0, 0x0, 0x0, 0x0, 0x0, 0x0, 0x0, 0x0⟩,
  ⟨.EVT_LSEL, 0x1a0128, 1, 0x0, 1, 0x0, 0xfff, 0x0, 0x0, 0x0, 0x0, 0x0, 0x0, 0x0, 0x0⟩,
  ⟨.EVT_LDATA, 0x1a0140, 8, 0x4, 1, 0x0, 0x0, 0x0, 0x0, 0x0, 0x0, 0x0, 0x0, 0x0, 0x0⟩]

/-- The families of block DBG. -/
def regFamsDBG : List RegFam := [
  ⟨.DBG_STAT, 0x1c0000, 1, 0x0, 1, 0x0, 0x0, 0x0, 0x0, 0x0, 0x0, 0x0, 0x0, 0x0, 0x0⟩,
  ⟨.DBG_CNT, 0x1c0004, 1, 0x0, 1, 0x0, 0x0, 0x0, 0x0, 0x0, 0x0, 0x0, 0x0, 0x0, 0x0⟩]

/-- Every register family, block by block in address order. -/
def regFams : List RegFam :=
  regFamsSYS ++ regFamsCMD ++ regFamsSEC ++ regFamsCNV ++ regFamsAUX ++ regFamsFLT ++ regFamsPRT ++ regFamsPOD ++ regFamsTRP ++ regFamsBIO ++ regFamsLGC ++ regFamsREC ++ regFamsTIM ++ regFamsNET ++ regFamsGSV ++ regFamsOZX ++ regFamsEVT ++ regFamsDBG

/-- The families whose address range can hold address `a`, by the block windows of R478. -/
def regFamsOf (a : Nat) : List RegFam :=
  match a / 0x10000 with
  | 0 => regFamsSYS
  | 1 => regFamsCMD
  | 2 => regFamsSEC
  | 3 => regFamsSEC
  | 4 => regFamsCNV
  | 5 => regFamsAUX
  | 6 => regFamsFLT
  | 7 => regFamsFLT
  | 8 => regFamsPRT
  | 9 => regFamsPRT
  | 10 => regFamsPOD
  | 11 => regFamsPOD
  | 14 => regFamsLGC
  | 15 => regFamsLGC
  | 16 => regFamsREC
  | 17 => regFamsREC
  | 18 => regFamsTIM
  | 19 => regFamsTIM
  | 20 => regFamsNET
  | 21 => regFamsNET
  | 22 => regFamsGSV
  | 23 => regFamsGSV
  | 24 => regFamsOZX
  | 25 => regFamsOZX
  | 26 => regFamsEVT
  | 27 => regFamsEVT
  | 28 => regFamsDBG
  | 29 => regFamsDBG
  | 12 => regFamsTRP ++ regFamsBIO
  | 13 => regFamsTRP ++ regFamsBIO
  | _ => []

/-- Address of SYS_ID. -/
def SYS_ID : Nat := 0x0
def SYS_ID_PART : Field := ⟨SYS_ID, 0, 16⟩
def SYS_ID_SILICON : Field := ⟨SYS_ID, 16, 16⟩
/-- Address of SYS_ROM. -/
def SYS_ROM : Nat := 0x4
def SYS_ROM_ROM : Field := ⟨SYS_ROM, 0, 16⟩
def SYS_ROM_GRADE : Field := ⟨SYS_ROM, 16, 1⟩
/-- Address of SYS_MODE. -/
def SYS_MODE : Nat := 0x8
def SYS_MODE_MODE : Field := ⟨SYS_MODE, 0, 2⟩
def SYS_MODE_ACTIVE : Field := ⟨SYS_MODE, 2, 1⟩
def SYS_MODE_START_CAUSE : Field := ⟨SYS_MODE, 3, 3⟩
def SYS_MODE_SAFE_CAUSE : Field := ⟨SYS_MODE, 6, 3⟩
def SYS_MODE_BOOTED : Field := ⟨SYS_MODE, 9, 1⟩
def SYS_MODE_PREF : Field := ⟨SYS_MODE, 10, 1⟩
def SYS_MODE_PAIR_ROLE : Field := ⟨SYS_MODE, 11, 1⟩
def SYS_MODE_IMG_SLOT : Field := ⟨SYS_MODE, 12, 1⟩
def SYS_MODE_BOOT_HOLD : Field := ⟨SYS_MODE, 13, 1⟩
def SYS_MODE_HELD : Field := ⟨SYS_MODE, 14, 1⟩
/-- Address of SYS_IMGVER. -/
def SYS_IMGVER : Nat := 0xc
def SYS_IMGVER_IMG_VER : Field := ⟨SYS_IMGVER, 0, 32⟩
/-- Address of SYS_IMGID_LO. -/
def SYS_IMGID_LO : Nat := 0x10
def SYS_IMGID_LO_IDL : Field := ⟨SYS_IMGID_LO, 0, 32⟩
/-- Address of SYS_IMGID_HI. -/
def SYS_IMGID_HI : Nat := 0x14
def SYS_IMGID_HI_IDH : Field := ⟨SYS_IMGID_HI, 0, 32⟩
/-- Address of SYS_UPTIME. -/
def SYS_UPTIME : Nat := 0x18
def SYS_UPTIME_UPTIME : Field := ⟨SYS_UPTIME, 0, 32⟩
/-- Address of SYS_CLK. -/
def SYS_CLK : Nat := 0x1c
def SYS_CLK_REF_OK : Field := ⟨SYS_CLK, 0, 1⟩
def SYS_CLK_SYS_LOCK : Field := ⟨SYS_CLK, 1, 1⟩
def SYS_CLK_POD_LOCK : Field := ⟨SYS_CLK, 2, 1⟩
def SYS_CLK_MEM_LOCK : Field := ⟨SYS_CLK, 3, 1⟩
def SYS_CLK_NET_LOCK : Field := ⟨SYS_CLK, 4, 1⟩
def SYS_CLK_SAMP_LOCK : Field := ⟨SYS_CLK, 5, 1⟩
def SYS_CLK_LOSS_SEEN : Field := ⟨SYS_CLK, 6, 1⟩
/-- Address of SYS_SCRATCH. -/
def SYS_SCRATCH : Nat := 0x20
def SYS_SCRATCH_SCR : Field := ⟨SYS_SCRATCH, 0, 32⟩
/-- Address of SYS_ACC. -/
def SYS_ACC (i : Nat) : Nat := 0x40 + 0x10 * i
def SYS_ACC_STALE_HALF (i : Nat) : Field := ⟨(SYS_ACC i), 0, 1⟩
def SYS_ACC_CAPT (i : Nat) : Field := ⟨(SYS_ACC i), 1, 1⟩
def SYS_ACC_RSV_SEEN (i : Nat) : Field := ⟨(SYS_ACC i), 2, 1⟩
def SYS_ACC_REFUSED (i : Nat) : Field := ⟨(SYS_ACC i), 3, 1⟩
def SYS_ACC_XERR (i : Nat) : Field := ⟨(SYS_ACC i), 4, 1⟩
def SYS_ACC_WSTAT (i : Nat) : Field := ⟨(SYS_ACC i), 8, 8⟩
def SYS_ACC_WREF (i : Nat) : Field := ⟨(SYS_ACC i), 16, 16⟩
/-- Address of SYS_STALEA. -/
def SYS_STALEA (i : Nat) : Nat := 0x44 + 0x10 * i
def SYS_STALEA_ADDR (i : Nat) : Field := ⟨(SYS_STALEA i), 0, 32⟩
/-- Address of SYS_RSVA. -/
def SYS_RSVA (i : Nat) : Nat := 0x48 + 0x10 * i
def SYS_RSVA_ADDR (i : Nat) : Field := ⟨(SYS_RSVA i), 0, 32⟩
/-- Address of SYS_WADDR. -/
def SYS_WADDR (i : Nat) : Nat := 0x4c + 0x10 * i
def SYS_WADDR_ADDR (i : Nat) : Field := ⟨(SYS_WADDR i), 0, 32⟩
/-- Address of SYS_VMON. -/
def SYS_VMON (i : Nat) : Nat := 0x100 + 0x4 * i
def SYS_VMON_MV (i : Nat) : Field := ⟨(SYS_VMON i), 0, 16⟩
/-- Address of SYS_TEMP. -/
def SYS_TEMP : Nat := 0x114
def SYS_TEMP_TJ : Field := ⟨SYS_TEMP, 0, 16⟩
/-- Address of SYS_XCFG. -/
def SYS_XCFG : Nat := 0x120
def SYS_XCFG_LAT : Field := ⟨SYS_XCFG, 0, 5⟩
/-- Address of SYS_XSTAT. -/
def SYS_XSTAT : Nat := 0x124
def SYS_XSTAT_CMD_BUSY : Field := ⟨SYS_XSTAT, 0, 1⟩
def SYS_XSTAT_CMD_RDY : Field := ⟨SYS_XSTAT, 1, 1⟩
def SYS_XSTAT_EVT_NS : Field := ⟨SYS_XSTAT, 2, 1⟩
def SYS_XSTAT_EVT_S : Field := ⟨SYS_XSTAT, 3, 1⟩
def SYS_XSTAT_MODE : Field := ⟨SYS_XSTAT, 4, 2⟩
def SYS_XSTAT_ACTIVE : Field := ⟨SYS_XSTAT, 6, 1⟩
def SYS_XSTAT_STALE : Field := ⟨SYS_XSTAT, 7, 1⟩
/-- Address of CMD_REQ. -/
def CMD_REQ (i : Nat) : Nat := 0x10000 + 0x4 * i
def CMD_REQ_DATA (i : Nat) : Field := ⟨(CMD_REQ i), 0, 32⟩
/-- Address of CMD_RSP. -/
def CMD_RSP (i : Nat) : Nat := 0x12000 + 0x4 * i
def CMD_RSP_DATA (i : Nat) : Field := ⟨(CMD_RSP i), 0, 32⟩
/-- Address of CMD_DB. -/
def CMD_DB : Nat := 0x14000
def CMD_DB_GO : Field := ⟨CMD_DB, 0, 1⟩
/-- Address of CMD_STAT. -/
def CMD_STAT : Nat := 0x14004
def CMD_STAT_BUSY : Field := ⟨CMD_STAT, 0, 1⟩
def CMD_STAT_RDY : Field := ⟨CMD_STAT, 1, 1⟩
def CMD_STAT_DB_BUSY : Field := ⟨CMD_STAT, 2, 1⟩
def CMD_STAT_WR_BUSY : Field := ⟨CMD_STAT, 3, 1⟩
def CMD_STAT_RLEN : Field := ⟨CMD_STAT, 16, 16⟩
/-- Address of CMD_CNT. -/
def CMD_CNT : Nat := 0x14008
def CMD_CNT_CMDS : Field := ⟨CMD_CNT, 0, 16⟩
def CMD_CNT_REFUSED : Field := ⟨CMD_CNT, 16, 8⟩
/-- Address of CMD_ECNT. -/
def CMD_ECNT : Nat := 0x1400c
def CMD_ECNT_RUNT : Field := ⟨CMD_ECNT, 0, 8⟩
def CMD_ECNT_FRAGTO : Field := ⟨CMD_ECNT, 8, 8⟩
def CMD_ECNT_BUSY : Field := ⟨CMD_ECNT, 16, 8⟩
/-- Address of CMD_LAST. -/
def CMD_LAST : Nat := 0x14010
def CMD_LAST_OPCODE : Field := ⟨CMD_LAST, 0, 16⟩
def CMD_LAST_STATUS : Field := ⟨CMD_LAST, 16, 8⟩
def CMD_LAST_TRANSPORT : Field := ⟨CMD_LAST, 24, 1⟩
/-- Address of CMD_LASTSEQ. -/
def CMD_LASTSEQ : Nat := 0x14014
def CMD_LASTSEQ_SEQ : Field := ⟨CMD_LASTSEQ, 0, 32⟩
/-- Address of SEC_STAT. -/
def SEC_STAT : Nat := 0x20000
def SEC_STAT_LOCK : Field := ⟨SEC_STAT, 0, 1⟩
def SEC_STAT_CHG : Field := ⟨SEC_STAT, 1, 1⟩
def SEC_STAT_TRNG_OK : Field := ⟨SEC_STAT, 2, 1⟩
def SEC_STAT_DENY_SEEN : Field := ⟨SEC_STAT, 3, 1⟩
def SEC_STAT_AFAIL_SEEN : Field := ⟨SEC_STAT, 4, 1⟩
def SEC_STAT_RL : Field := ⟨SEC_STAT, 5, 2⟩
def SEC_STAT_BOOTKEY : Field := ⟨SEC_STAT, 7, 1⟩
def SEC_STAT_OTP0 : Field := ⟨SEC_STAT, 8, 2⟩
def SEC_STAT_OTP1 : Field := ⟨SEC_STAT, 10, 2⟩
def SEC_STAT_OTP_ERR : Field := ⟨SEC_STAT, 12, 1⟩
/-- Address of SEC_DENY. -/
def SEC_DENY : Nat := 0x20004
def SEC_DENY_ADDR : Field := ⟨SEC_DENY, 0, 32⟩
/-- Address of SEC_DENYINF. -/
def SEC_DENYINF : Nat := 0x20008
def SEC_DENYINF_REQ : Field := ⟨SEC_DENYINF, 0, 2⟩
def SEC_DENYINF_WR : Field := ⟨SEC_DENYINF, 2, 1⟩
def SEC_DENYINF_DCNT : Field := ⟨SEC_DENYINF, 16, 16⟩
/-- Address of SEC_AUTHCNT. -/
def SEC_AUTHCNT : Nat := 0x2000c
def SEC_AUTHCNT_AFAIL : Field := ⟨SEC_AUTHCNT, 0, 16⟩
def SEC_AUTHCNT_STALE : Field := ⟨SEC_AUTHCNT, 16, 8⟩
def SEC_AUTHCNT_REPLAY : Field := ⟨SEC_AUTHCNT, 24, 8⟩
/-- Address of SEC_KSTAT. -/
def SEC_KSTAT (i : Nat) : Nat := 0x20100 + 0x4 * i
def SEC_KSTAT_STATE (i : Nat) : Field := ⟨(SEC_KSTAT i), 0, 2⟩
def SEC_KSTAT_KWORLD (i : Nat) : Field := ⟨(SEC_KSTAT i), 2, 1⟩
def SEC_KSTAT_KDBG (i : Nat) : Field := ⟨(SEC_KSTAT i), 3, 1⟩
def SEC_KSTAT_KCV (i : Nat) : Field := ⟨(SEC_KSTAT i), 8, 24⟩
/-- Address of SEC_KCNT_LO. -/
def SEC_KCNT_LO (i : Nat) : Nat := 0x20200 + 0x8 * i
def SEC_KCNT_LO_CLO (i : Nat) : Field := ⟨(SEC_KCNT_LO i), 0, 32⟩
/-- Address of SEC_KCNT_HI. -/
def SEC_KCNT_HI (i : Nat) : Nat := 0x20204 + 0x8 * i
def SEC_KCNT_HI_CHI (i : Nat) : Field := ⟨(SEC_KCNT_HI i), 0, 32⟩
/-- Address of SEC_OTPH. -/
def SEC_OTPH (i : Nat) (j : Nat) : Nat := 0x20300 + 0x20 * i + 0x4 * j
def SEC_OTPH_HASH (i : Nat) (j : Nat) : Field := ⟨(SEC_OTPH i j), 0, 32⟩
/-- Address of SEC_WMAP. -/
def SEC_WMAP (i : Nat) : Nat := 0x20400 + 0x4 * i
def SEC_WMAP_MAP (i : Nat) : Field := ⟨(SEC_WMAP i), 0, 32⟩
/-- Address of CNV_GCFG. -/
def CNV_GCFG (i : Nat) : Nat := 0x40000 + 0x40 * i
def CNV_GCFG_REF_SEL (i : Nat) : Field := ⟨(CNV_GCFG i), 0, 2⟩
def CNV_GCFG_ROT_EN (i : Nat) : Field := ⟨(CNV_GCFG i), 2, 1⟩
def CNV_GCFG_SLICE_TOL (i : Nat) : Field := ⟨(CNV_GCFG i), 4, 12⟩
/-- Address of CNV_GSTAT. -/
def CNV_GSTAT (i : Nat) : Nat := 0x40004 + 0x40 * i
def CNV_GSTAT_REF_ACT (i : Nat) : Field := ⟨(CNV_GSTAT i), 0, 2⟩
def CNV_GSTAT_REF_SETTLED (i : Nat) : Field := ⟨(CNV_GSTAT i), 2, 1⟩
def CNV_GSTAT_CAL_DEGRADED (i : Nat) : Field := ⟨(CNV_GSTAT i), 3, 1⟩
def CNV_GSTAT_ROT_RUN (i : Nat) : Field := ⟨(CNV_GSTAT i), 4, 1⟩
def CNV_GSTAT_ARB_BUSY (i : Nat) : Field := ⟨(CNV_GSTAT i), 5, 1⟩
def CNV_GSTAT_ROT_ROLE (i : Nat) : Field := ⟨(CNV_GSTAT i), 6, 4⟩
def CNV_GSTAT_ROT_PHASE (i : Nat) : Field := ⟨(CNV_GSTAT i), 10, 2⟩
def CNV_GSTAT_SPARE_POS (i : Nat) : Field := ⟨(CNV_GSTAT i), 12, 4⟩
def CNV_GSTAT_ARB_CH (i : Nat) : Field := ⟨(CNV_GSTAT i), 16, 6⟩
def CNV_GSTAT_REF_FAULT (i : Nat) : Field := ⟨(CNV_GSTAT i), 22, 1⟩
/-- Address of CNV_REFREQ. -/
def CNV_REFREQ (i : Nat) : Nat := 0x40008 + 0x40 * i
def CNV_REFREQ_REF_REQ (i : Nat) : Field := ⟨(CNV_REFREQ i), 0, 2⟩
/-- Address of CNV_MAP0. -/
def CNV_MAP0 (i : Nat) : Nat := 0x4000c + 0x40 * i
def CNV_MAP0_PS0 (i : Nat) : Field := ⟨(CNV_MAP0 i), 0, 4⟩
def CNV_MAP0_PS1 (i : Nat) : Field := ⟨(CNV_MAP0 i), 4, 4⟩
def CNV_MAP0_PS2 (i : Nat) : Field := ⟨(CNV_MAP0 i), 8, 4⟩
def CNV_MAP0_PS3 (i : Nat) : Field := ⟨(CNV_MAP0 i), 12, 4⟩
def CNV_MAP0_PS4 (i : Nat) : Field := ⟨(CNV_MAP0 i), 16, 4⟩
def CNV_MAP0_PS5 (i : Nat) : Field := ⟨(CNV_MAP0 i), 20, 4⟩
def CNV_MAP0_PS6 (i : Nat) : Field := ⟨(CNV_MAP0 i), 24, 4⟩
def CNV_MAP0_PS7 (i : Nat) : Field := ⟨(CNV_MAP0 i), 28, 4⟩
/-- Address of CNV_MAP1. -/
def CNV_MAP1 (i : Nat) : Nat := 0x40010 + 0x40 * i
def CNV_MAP1_PS8 (i : Nat) : Field := ⟨(CNV_MAP1 i), 0, 4⟩
def CNV_MAP1_PS9 (i : Nat) : Field := ⟨(CNV_MAP1 i), 4, 4⟩
def CNV_MAP1_PS10 (i : Nat) : Field := ⟨(CNV_MAP1 i), 8, 4⟩
def CNV_MAP1_PS11 (i : Nat) : Field := ⟨(CNV_MAP1 i), 12, 4⟩
def CNV_MAP1_PS12 (i : Nat) : Field := ⟨(CNV_MAP1 i), 16, 4⟩
def CNV_MAP1_PS13 (i : Nat) : Field := ⟨(CNV_MAP1 i), 20, 4⟩
def CNV_MAP1_PS14 (i : Nat) : Field := ⟨(CNV_MAP1 i), 24, 4⟩
/-- Address of CNV_GCNT. -/
def CNV_GCNT (i : Nat) : Nat := 0x40014 + 0x40 * i
def CNV_GCNT_ROT_DONE (i : Nat) : Field := ⟨(CNV_GCNT i), 0, 16⟩
def CNV_GCNT_SKIP (i : Nat) : Field := ⟨(CNV_GCNT i), 16, 8⟩
def CNV_GCNT_SHADOW_MM (i : Nat) : Field := ⟨(CNV_GCNT i), 24, 8⟩
/-- Address of CNV_ACNT. -/
def CNV_ACNT (i : Nat) : Nat := 0x40018 + 0x40 * i
def CNV_ACNT_ARB_CNT (i : Nat) : Field := ⟨(CNV_ACNT i), 0, 16⟩
def CNV_ACNT_VOID_CNT (i : Nat) : Field := ⟨(CNV_ACNT i), 16, 8⟩
/-- Address of CNV_CH. -/
def CNV_CH (i : Nat) : Nat := 0x40400 + 0x4 * i
def CNV_CH_RANGE (i : Nat) : Field := ⟨(CNV_CH i), 0, 1⟩
def CNV_CH_TAG (i : Nat) : Field := ⟨(CNV_CH i), 1, 4⟩
def CNV_CH_DIS_RUN (i : Nat) : Field := ⟨(CNV_CH i), 5, 3⟩
def CNV_CH_ARB (i : Nat) : Field := ⟨(CNV_CH i), 8, 1⟩
def CNV_CH_ARB_WAIT (i : Nat) : Field := ⟨(CNV_CH i), 9, 1⟩
def CNV_CH_SINGLE_L (i : Nat) : Field := ⟨(CNV_CH i), 10, 1⟩
def CNV_CH_NO_SLICE (i : Nat) : Field := ⟨(CNV_CH i), 11, 1⟩
def CNV_CH_RCHG (i : Nat) : Field := ⟨(CNV_CH i), 16, 16⟩
/-- Address of CNV_CAL_OFS1. -/
def CNV_CAL_OFS1 (i : Nat) (j : Nat) : Nat := 0x40800 + 0x100 * i + 0x10 * j
def CNV_CAL_OFS1_OFS1 (i : Nat) (j : Nat) : Field := ⟨(CNV_CAL_OFS1 i j), 0, 24⟩
/-- Address of CNV_CAL_GAIN1. -/
def CNV_CAL_GAIN1 (i : Nat) (j : Nat) : Nat := 0x40804 + 0x100 * i + 0x10 * j
def CNV_CAL_GAIN1_GAIN1 (i : Nat) (j : Nat) : Field := ⟨(CNV_CAL_GAIN1 i j), 0, 24⟩
/-- Address of CNV_CAL_OFS16. -/
def CNV_CAL_OFS16 (i : Nat) (j : Nat) : Nat := 0x40808 + 0x100 * i + 0x10 * j
def CNV_CAL_OFS16_OFS16 (i : Nat) (j : Nat) : Field := ⟨(CNV_CAL_OFS16 i j), 0, 24⟩
/-- Address of CNV_CAL_GAIN16. -/
def CNV_CAL_GAIN16 (i : Nat) (j : Nat) : Nat := 0x4080c + 0x100 * i + 0x10 * j
def CNV_CAL_GAIN16_GAIN16 (i : Nat) (j : Nat) : Field := ⟨(CNV_CAL_GAIN16 i j), 0, 24⟩
/-- Address of AUX_CFG. -/
def AUX_CFG : Nat := 0x50000
def AUX_CFG_MODE : Field := ⟨AUX_CFG, 0, 2⟩
def AUX_CFG_LEN : Field := ⟨AUX_CFG, 2, 6⟩
/-- Address of AUX_PERIOD. -/
def AUX_PERIOD : Nat := 0x50004
def AUX_PERIOD_PERIOD : Field := ⟨AUX_PERIOD, 0, 20⟩
/-- Address of AUX_CTL. -/
def AUX_CTL : Nat := 0x50008
def AUX_CTL_START : Field := ⟨AUX_CTL, 0, 1⟩
def AUX_CTL_STOP : Field := ⟨AUX_CTL, 1, 1⟩
def AUX_CTL_CLR_CNT : Field := ⟨AUX_CTL, 2, 1⟩
def AUX_CTL_FLUSH : Field := ⟨AUX_CTL, 3, 1⟩
/-- Address of AUX_STAT. -/
def AUX_STAT : Nat := 0x5000c
def AUX_STAT_RUN : Field := ⟨AUX_STAT, 0, 1⟩
def AUX_STAT_ENTRY : Field := ⟨AUX_STAT, 1, 5⟩
def AUX_STAT_SEQ : Field := ⟨AUX_STAT, 16, 16⟩
/-- Address of AUX_QSTAT. -/
def AUX_QSTAT : Nat := 0x50010
def AUX_QSTAT_LEVEL : Field := ⟨AUX_QSTAT, 0, 10⟩
def AUX_QSTAT_OVF : Field := ⟨AUX_QSTAT, 16, 1⟩
def AUX_QSTAT_EMPTY_READ : Field := ⟨AUX_QSTAT, 17, 1⟩
def AUX_QSTAT_SEQ_OVR : Field := ⟨AUX_QSTAT, 18, 1⟩
/-- Address of AUX_CNT. -/
def AUX_CNT : Nat := 0x50014
def AUX_CNT_DROP_CNT : Field := ⟨AUX_CNT, 0, 16⟩
def AUX_CNT_SEQ_OVR_CNT : Field := ⟨AUX_CNT, 16, 16⟩
/-- Address of AUX_QDATA_LO. -/
def AUX_QDATA_LO : Nat := 0x50018
def AUX_QDATA_LO_QLO : Field := ⟨AUX_QDATA_LO, 0, 32⟩
/-- Address of AUX_QDATA_HI. -/
def AUX_QDATA_HI : Nat := 0x5001c
def AUX_QDATA_HI_QHI : Field := ⟨AUX_QDATA_HI, 0, 32⟩
/-- Address of AUX_SNAP_LO. -/
def AUX_SNAP_LO : Nat := 0x50020
def AUX_SNAP_LO_MASK_LO : Field := ⟨AUX_SNAP_LO, 0, 32⟩
/-- Address of AUX_SNAP_HI. -/
def AUX_SNAP_HI : Nat := 0x50024
def AUX_SNAP_HI_MASK_HI : Field := ⟨AUX_SNAP_HI, 0, 32⟩
/-- Address of AUX_SNAP_GO. -/
def AUX_SNAP_GO : Nat := 0x50028
def AUX_SNAP_GO_GO : Field := ⟨AUX_SNAP_GO, 0, 1⟩
/-- Address of AUX_ENT. -/
def AUX_ENT (i : Nat) : Nat := 0x50100 + 0x4 * i
def AUX_ENT_INPUT (i : Nat) : Field := ⟨(AUX_ENT i), 0, 4⟩
def AUX_ENT_DIFF (i : Nat) : Field := ⟨(AUX_ENT i), 4, 1⟩
def AUX_ENT_AVG (i : Nat) : Field := ⟨(AUX_ENT i), 8, 4⟩
def AUX_ENT_SHIFT (i : Nat) : Field := ⟨(AUX_ENT i), 12, 4⟩
def AUX_ENT_LEFT (i : Nat) : Field := ⟨(AUX_ENT i), 16, 1⟩
def AUX_ENT_SIGNED (i : Nat) : Field := ⟨(AUX_ENT i), 17, 1⟩
/-- Address of FLT_CTL. -/
def FLT_CTL (i : Nat) : Nat := 0x60000 + 0x40 * i
def FLT_CTL_STOP (i : Nat) : Field := ⟨(FLT_CTL i), 0, 1⟩
def FLT_CTL_START (i : Nat) : Field := ⟨(FLT_CTL i), 1, 1⟩
/-- Address of FLT_GSTAT. -/
def FLT_GSTAT (i : Nat) : Nat := 0x60004 + 0x40 * i
def FLT_GSTAT_STATE (i : Nat) : Field := ⟨(FLT_GSTAT i), 0, 2⟩
def FLT_GSTAT_VALID (i : Nat) : Field := ⟨(FLT_GSTAT i), 2, 6⟩
def FLT_GSTAT_DP_A_RET (i : Nat) : Field := ⟨(FLT_GSTAT i), 8, 1⟩
def FLT_GSTAT_DP_B_RET (i : Nat) : Field := ⟨(FLT_GSTAT i), 9, 1⟩
def FLT_GSTAT_R_PAIRED (i : Nat) : Field := ⟨(FLT_GSTAT i), 10, 1⟩
def FLT_GSTAT_DP_SINGLE (i : Nat) : Field := ⟨(FLT_GSTAT i), 11, 1⟩
def FLT_GSTAT_DP_FAULT (i : Nat) : Field := ⟨(FLT_GSTAT i), 12, 1⟩
/-- Address of FLT_BANK. -/
def FLT_BANK (i : Nat) : Nat := 0x60008 + 0x40 * i
def FLT_BANK_S1_SEL (i : Nat) : Field := ⟨(FLT_BANK i), 0, 1⟩
def FLT_BANK_S2_SEL (i : Nat) : Field := ⟨(FLT_BANK i), 1, 1⟩
def FLT_BANK_RS_SEL (i : Nat) : Field := ⟨(FLT_BANK i), 2, 1⟩
/-- Address of FLT_DPCNT. -/
def FLT_DPCNT (i : Nat) : Nat := 0x6000c + 0x40 * i
def FLT_DPCNT_MISMATCH (i : Nat) : Field := ⟨(FLT_DPCNT i), 0, 16⟩
def FLT_DPCNT_RFAIL (i : Nat) : Field := ⟨(FLT_DPCNT i), 16, 8⟩
def FLT_DPCNT_ECC_DED (i : Nat) : Field := ⟨(FLT_DPCNT i), 24, 8⟩
/-- Address of FLT_TCFG. -/
def FLT_TCFG : Nat := 0x60400
def FLT_TCFG_FNOM : Field := ⟨FLT_TCFG, 0, 1⟩
def FLT_TCFG_SLEW : Field := ⟨FLT_TCFG, 1, 8⟩
def FLT_TCFG_FT_EN : Field := ⟨FLT_TCFG, 9, 1⟩
def FLT_TCFG_VLAG : Field := ⟨FLT_TCFG, 10, 7⟩
/-- Address of FLT_TSRC. -/
def FLT_TSRC : Nat := 0x60404
def FLT_TSRC_VSRC : Field := ⟨FLT_TSRC, 0, 7⟩
def FLT_TSRC_VMODE : Field := ⟨FLT_TSRC, 7, 1⟩
def FLT_TSRC_ISRC : Field := ⟨FLT_TSRC, 8, 7⟩
def FLT_TSRC_IMODE : Field := ⟨FLT_TSRC, 15, 1⟩
def FLT_TSRC_V_EN : Field := ⟨FLT_TSRC, 16, 1⟩
def FLT_TSRC_I_EN : Field := ⟨FLT_TSRC, 17, 1⟩
/-- Address of FLT_TLIM. -/
def FLT_TLIM : Nat := 0x60408
def FLT_TLIM_VMIN : Field := ⟨FLT_TLIM, 0, 9⟩
def FLT_TLIM_IMIN : Field := ⟨FLT_TLIM, 16, 9⟩
/-- Address of FLT_FSTAT. -/
def FLT_FSTAT : Nat := 0x6040c
def FLT_FSTAT_SRC : Field := ⟨FLT_FSTAT, 0, 2⟩
def FLT_FSTAT_FRANGE : Field := ⟨FLT_FSTAT, 2, 1⟩
def FLT_FSTAT_SLEWING : Field := ⟨FLT_FSTAT, 3, 1⟩
def FLT_FSTAT_FRANGE_SEEN : Field := ⟨FLT_FSTAT, 4, 1⟩
def FLT_FSTAT_CYC : Field := ⟨FLT_FSTAT, 16, 16⟩
/-- Address of FLT_FEST. -/
def FLT_FEST : Nat := 0x60410
def FLT_FEST_FEST : Field := ⟨FLT_FEST, 0, 32⟩
/-- Address of FLT_FTRK. -/
def FLT_FTRK : Nat := 0x60414
def FLT_FTRK_FTRK : Field := ⟨FLT_FTRK, 0, 32⟩
/-- Address of FLT_TIDX. -/
def FLT_TIDX : Nat := 0x60418
def FLT_TIDX_TIDX : Field := ⟨FLT_TIDX, 0, 32⟩
/-- Address of FLT_SVCFG. -/
def FLT_SVCFG : Nat := 0x6041c
def FLT_SVCFG_SV_EN : Field := ⟨FLT_SVCFG, 0, 1⟩
def FLT_SVCFG_RATE : Field := ⟨FLT_SVCFG, 1, 1⟩
/-- Address of FLT_CADDR. -/
def FLT_CADDR : Nat := 0x60420
def FLT_CADDR_GRP : Field := ⟨FLT_CADDR, 0, 3⟩
def FLT_CADDR_STG : Field := ⟨FLT_CADDR, 3, 2⟩
def FLT_CADDR_BANK : Field := ⟨FLT_CADDR, 5, 1⟩
def FLT_CADDR_IDX : Field := ⟨FLT_CADDR, 6, 11⟩
/-- Address of FLT_CDATA. -/
def FLT_CDATA : Nat := 0x60424
def FLT_CDATA_COEF : Field := ⟨FLT_CDATA, 0, 24⟩
/-- Address of FLT_CCMT. -/
def FLT_CCMT : Nat := 0x60428
def FLT_CCMT_COMMIT : Field := ⟨FLT_CCMT, 0, 1⟩
/-- Address of FLT_PHSEL. -/
def FLT_PHSEL : Nat := 0x60430
def FLT_PHSEL_CH : Field := ⟨FLT_PHSEL, 0, 7⟩
def FLT_PHSEL_FREEZE : Field := ⟨FLT_PHSEL, 7, 1⟩
/-- Address of FLT_TRIM. -/
def FLT_TRIM (i : Nat) : Nat := 0x60800 + 0x4 * i
def FLT_TRIM_TRIM (i : Nat) : Field := ⟨(FLT_TRIM i), 0, 12⟩
/-- Address of FLT_PHDATA. -/
def FLT_PHDATA (i : Nat) : Nat := 0x60c00 + 0x4 * i
def FLT_PHDATA_ENTRY (i : Nat) : Field := ⟨(FLT_PHDATA i), 0, 32⟩
/-- Address of PRT_BAY0. -/
def PRT_BAY0 (i : Nat) : Nat := 0x80000 + 0x40 * i
def PRT_BAY0_IPH (i : Nat) : Field := ⟨(PRT_BAY0 i), 0, 7⟩
def PRT_BAY0_IN (i : Nat) : Field := ⟨(PRT_BAY0 i), 7, 7⟩
def PRT_BAY0_IN_EN (i : Nat) : Field := ⟨(PRT_BAY0 i), 14, 1⟩
def PRT_BAY0_VPH (i : Nat) : Field := ⟨(PRT_BAY0 i), 15, 7⟩
def PRT_BAY0_V_EN (i : Nat) : Field := ⟨(PRT_BAY0 i), 22, 1⟩
def PRT_BAY0_VN (i : Nat) : Field := ⟨(PRT_BAY0 i), 23, 7⟩
def PRT_BAY0_VN_EN (i : Nat) : Field := ⟨(PRT_BAY0 i), 30, 1⟩
def PRT_BAY0_POD (i : Nat) : Field := ⟨(PRT_BAY0 i), 31, 1⟩
/-- Address of PRT_BAY1. -/
def PRT_BAY1 (i : Nat) : Nat := 0x80004 + 0x40 * i
def PRT_BAY1_CBBI (i : Nat) : Field := ⟨(PRT_BAY1 i), 0, 6⟩
def PRT_BAY1_CB_EN (i : Nat) : Field := ⟨(PRT_BAY1 i), 6, 1⟩
def PRT_BAY1_GSRC (i : Nat) : Field := ⟨(PRT_BAY1 i), 7, 1⟩
def PRT_BAY1_GSEL (i : Nat) : Field := ⟨(PRT_BAY1 i), 8, 8⟩
def PRT_BAY1_EN (i : Nat) : Field := ⟨(PRT_BAY1 i), 16, 1⟩
def PRT_BAY1_REV (i : Nat) : Field := ⟨(PRT_BAY1 i), 17, 1⟩
def PRT_BAY1_IGRP (i : Nat) : Field := ⟨(PRT_BAY1 i), 18, 2⟩
/-- Address of PRT_ISCL. -/
def PRT_ISCL (i : Nat) : Nat := 0x80008 + 0x40 * i
def PRT_ISCL_ISCL (i : Nat) : Field := ⟨(PRT_ISCL i), 0, 32⟩
/-- Address of PRT_VSCL. -/
def PRT_VSCL (i : Nat) : Nat := 0x8000c + 0x40 * i
def PRT_VSCL_VSCL (i : Nat) : Field := ⟨(PRT_VSCL i), 0, 32⟩
/-- Address of PRT_KB. -/
def PRT_KB (i : Nat) : Nat := 0x80010 + 0x40 * i
def PRT_KB_KB (i : Nat) : Field := ⟨(PRT_KB i), 0, 24⟩
/-- Address of PRT_BSTAT. -/
def PRT_BSTAT (i : Nat) : Nat := 0x80014 + 0x40 * i
def PRT_BSTAT_GRP (i : Nat) : Field := ⟨(PRT_BSTAT i), 0, 2⟩
def PRT_BSTAT_GRP_PEND (i : Nat) : Field := ⟨(PRT_BSTAT i), 2, 1⟩
def PRT_BSTAT_CLP (i : Nat) : Field := ⟨(PRT_BSTAT i), 3, 1⟩
def PRT_BSTAT_INRUSH (i : Nat) : Field := ⟨(PRT_BSTAT i), 4, 3⟩
def PRT_BSTAT_CB (i : Nat) : Field := ⟨(PRT_BSTAT i), 7, 1⟩
def PRT_BSTAT_ISE_FWD (i : Nat) : Field := ⟨(PRT_BSTAT i), 8, 1⟩
def PRT_BSTAT_GRP_CHG (i : Nat) : Field := ⟨(PRT_BSTAT i), 16, 16⟩
/-- Address of PRT_ISE_TLO. -/
def PRT_ISE_TLO (i : Nat) : Nat := 0x80018 + 0x40 * i
def PRT_ISE_TLO_NS (i : Nat) : Field := ⟨(PRT_ISE_TLO i), 0, 30⟩
/-- Address of PRT_ISE_THI. -/
def PRT_ISE_THI (i : Nat) : Nat := 0x8001c + 0x40 * i
def PRT_ISE_THI_SEC (i : Nat) : Field := ⟨(PRT_ISE_THI i), 0, 32⟩
/-- Address of PRT_ISE_RES. -/
def PRT_ISE_RES (i : Nat) : Nat := 0x80020 + 0x40 * i
def PRT_ISE_RES_DIR (i : Nat) : Field := ⟨(PRT_ISE_RES i), 0, 2⟩
def PRT_ISE_RES_DVALID (i : Nat) : Field := ⟨(PRT_ISE_RES i), 2, 1⟩
def PRT_ISE_RES_NEW (i : Nat) : Field := ⟨(PRT_ISE_RES i), 3, 1⟩
def PRT_ISE_RES_PH (i : Nat) : Field := ⟨(PRT_ISE_RES i), 4, 3⟩
def PRT_ISE_RES_DIST (i : Nat) : Field := ⟨(PRT_ISE_RES i), 8, 16⟩
def PRT_ISE_RES_SURGES (i : Nat) : Field := ⟨(PRT_ISE_RES i), 24, 8⟩
/-- Address of PRT_ZIDMIN. -/
def PRT_ZIDMIN (i : Nat) : Nat := 0x80400 + 0x20 * i
def PRT_ZIDMIN_IDMIN (i : Nat) : Field := ⟨(PRT_ZIDMIN i), 0, 32⟩
/-- Address of PRT_ZCFG. -/
def PRT_ZCFG (i : Nat) : Nat := 0x80404 + 0x20 * i
def PRT_ZCFG_K (i : Nat) : Field := ⟨(PRT_ZCFG i), 0, 16⟩
def PRT_ZCFG_NCON (i : Nat) : Field := ⟨(PRT_ZCFG i), 16, 4⟩
def PRT_ZCFG_CHK (i : Nat) : Field := ⟨(PRT_ZCFG i), 20, 1⟩
def PRT_ZCFG_ZDBASE (i : Nat) : Field := ⟨(PRT_ZCFG i), 21, 8⟩
def PRT_ZCFG_ZEN (i : Nat) : Field := ⟨(PRT_ZCFG i), 29, 1⟩
def PRT_ZCFG_ALM_BLK (i : Nat) : Field := ⟨(PRT_ZCFG i), 30, 1⟩
/-- Address of PRT_ZMAP. -/
def PRT_ZMAP (i : Nat) : Nat := 0x80408 + 0x20 * i
def PRT_ZMAP_STAT (i : Nat) : Field := ⟨(PRT_ZMAP i), 0, 12⟩
def PRT_ZMAP_DYNB (i : Nat) : Field := ⟨(PRT_ZMAP i), 12, 12⟩
/-- Address of PRT_ZIDALM. -/
def PRT_ZIDALM (i : Nat) : Nat := 0x8040c + 0x20 * i
def PRT_ZIDALM_IDALM (i : Nat) : Field := ⟨(PRT_ZIDALM i), 0, 32⟩
/-- Address of PRT_ZTALM. -/
def PRT_ZTALM (i : Nat) : Nat := 0x80410 + 0x20 * i
def PRT_ZTALM_TALM (i : Nat) : Field := ⟨(PRT_ZTALM i), 0, 16⟩
/-- Address of PRT_ZSTAT. -/
def PRT_ZSTAT (i : Nat) : Nat := 0x80414 + 0x20 * i
def PRT_ZSTAT_OP (i : Nat) : Field := ⟨(PRT_ZSTAT i), 0, 3⟩
def PRT_ZSTAT_PU (i : Nat) : Field := ⟨(PRT_ZSTAT i), 3, 3⟩
def PRT_ZSTAT_ALM (i : Nat) : Field := ⟨(PRT_ZSTAT i), 6, 1⟩
def PRT_ZSTAT_BLANK (i : Nat) : Field := ⟨(PRT_ZSTAT i), 7, 1⟩
def PRT_ZSTAT_MEMB (i : Nat) : Field := ⟨(PRT_ZSTAT i), 8, 12⟩
/-- Address of PRT_ST. -/
def PRT_ST (i : Nat) : Nat := 0x81000 + 0x4 * i
def PRT_ST_PU (i : Nat) : Field := ⟨(PRT_ST i), 0, 1⟩
def PRT_ST_OP (i : Nat) : Field := ⟨(PRT_ST i), 1, 1⟩
def PRT_ST_PH_PU (i : Nat) : Field := ⟨(PRT_ST i), 2, 3⟩
def PRT_ST_PH_OP (i : Nat) : Field := ⟨(PRT_ST i), 5, 3⟩
def PRT_ST_DIR (i : Nat) : Field := ⟨(PRT_ST i), 8, 2⟩
def PRT_ST_HELD (i : Nat) : Field := ⟨(PRT_ST i), 10, 1⟩
def PRT_ST_BLOCKED (i : Nat) : Field := ⟨(PRT_ST i), 11, 1⟩
def PRT_ST_GRP (i : Nat) : Field := ⟨(PRT_ST i), 12, 2⟩
def PRT_ST_TAG (i : Nat) : Field := ⟨(PRT_ST i), 14, 4⟩
def PRT_ST_AUX (i : Nat) : Field := ⟨(PRT_ST i), 18, 1⟩
def PRT_ST_HOLD_EXP (i : Nat) : Field := ⟨(PRT_ST i), 19, 1⟩
def PRT_ST_OPCNT (i : Nat) : Field := ⟨(PRT_ST i), 20, 12⟩
/-- Address of PRT_ACC. -/
def PRT_ACC (i : Nat) : Nat := 0x81800 + 0x4 * i
def PRT_ACC_ACC (i : Nat) : Field := ⟨(PRT_ACC i), 0, 32⟩
/-- Address of PRT_SET. -/
def PRT_SET (i : Nat) (j : Nat) : Nat := 0x90000 + 0x80 * i + 0x4 * j
def PRT_SET_W (i : Nat) (j : Nat) : Field := ⟨(PRT_SET i j), 0, 32⟩
/-- Address of POD_STAT. -/
def POD_STAT (i : Nat) : Nat := 0xa0000 + 0x40 * i
def POD_STAT_STATE (i : Nat) : Field := ⟨(POD_STAT i), 0, 3⟩
def POD_STAT_RUN (i : Nat) : Field := ⟨(POD_STAT i), 3, 3⟩
def POD_STAT_RETIRED (i : Nat) : Field := ⟨(POD_STAT i), 6, 3⟩
def POD_STAT_READER (i : Nat) : Field := ⟨(POD_STAT i), 9, 2⟩
def POD_STAT_ODD (i : Nat) : Field := ⟨(POD_STAT i), 11, 2⟩
def POD_STAT_FAILCAUSE (i : Nat) : Field := ⟨(POD_STAT i), 13, 3⟩
/-- Address of POD_RCNT. -/
def POD_RCNT (i : Nat) : Nat := 0xa0004 + 0x40 * i
def POD_RCNT_RS0 (i : Nat) : Field := ⟨(POD_RCNT i), 0, 8⟩
def POD_RCNT_RS1 (i : Nat) : Field := ⟨(POD_RCNT i), 8, 8⟩
def POD_RCNT_RS2 (i : Nat) : Field := ⟨(POD_RCNT i), 16, 8⟩
/-- Address of POD_RWIN. -/
def POD_RWIN (i : Nat) : Nat := 0xa0008 + 0x40 * i
def POD_RWIN_W0 (i : Nat) : Field := ⟨(POD_RWIN i), 0, 4⟩
def POD_RWIN_W1 (i : Nat) : Field := ⟨(POD_RWIN i), 4, 4⟩
def POD_RWIN_W2 (i : Nat) : Field := ⟨(POD_RWIN i), 8, 4⟩
/-- Address of POD_VCNT. -/
def POD_VCNT (i : Nat) : Nat := 0xa000c + 0x40 * i
def POD_VCNT_VERD (i : Nat) : Field := ⟨(POD_VCNT i), 0, 16⟩
def POD_VCNT_SINK (i : Nat) : Field := ⟨(POD_VCNT i), 16, 16⟩
/-- Address of POD_MEMCNT. -/
def POD_MEMCNT (i : Nat) : Nat := 0xa0010 + 0x40 * i
def POD_MEMCNT_SEC (i : Nat) : Field := ⟨(POD_MEMCNT i), 0, 16⟩
def POD_MEMCNT_DED (i : Nat) : Field := ⟨(POD_MEMCNT i), 16, 8⟩
def POD_MEMCNT_PASS (i : Nat) : Field := ⟨(POD_MEMCNT i), 24, 8⟩
/-- Address of POD_ERRADDR. -/
def POD_ERRADDR (i : Nat) : Nat := 0xa0014 + 0x40 * i
def POD_ERRADDR_ADDR (i : Nat) : Field := ⟨(POD_ERRADDR i), 0, 24⟩
def POD_ERRADDR_KIND (i : Nat) : Field := ⟨(POD_ERRADDR i), 24, 1⟩
def POD_ERRADDR_SRC (i : Nat) : Field := ⟨(POD_ERRADDR i), 25, 1⟩
def POD_ERRADDR_ROM (i : Nat) : Field := ⟨(POD_ERRADDR i), 26, 1⟩
/-- Address of POD_RSDUR. -/
def POD_RSDUR (i : Nat) : Nat := 0xa0018 + 0x40 * i
def POD_RSDUR_LAST (i : Nat) : Field := ⟨(POD_RSDUR i), 0, 12⟩
def POD_RSDUR_MAX (i : Nat) : Field := ⟨(POD_RSDUR i), 16, 12⟩
/-- Address of POD_SCRUB. -/
def POD_SCRUB (i : Nat) : Nat := 0xa001c + 0x40 * i
def POD_SCRUB_NEXT (i : Nat) : Field := ⟨(POD_SCRUB i), 0, 24⟩
/-- Address of POD_LCFG. -/
def POD_LCFG : Nat := 0xa0400
def POD_LCFG_ALLOW_UNCHECKED_TRIP : Field := ⟨POD_LCFG, 0, 1⟩
def POD_LCFG_LDBG_EN : Field := ⟨POD_LCFG, 1, 1⟩
def POD_LCFG_ANA_EN : Field := ⟨POD_LCFG, 2, 1⟩
/-- Address of POD_LSTAT. -/
def POD_LSTAT : Nat := 0xa0404
def POD_LSTAT_SPLIT : Field := ⟨POD_LSTAT, 0, 1⟩
def POD_LSTAT_SPLIT_PEND : Field := ⟨POD_LSTAT, 1, 1⟩
def POD_LSTAT_JOIN_PEND : Field := ⟨POD_LSTAT, 2, 1⟩
def POD_LSTAT_HELD : Field := ⟨POD_LSTAT, 3, 1⟩
def POD_LSTAT_ANA_RUN : Field := ⟨POD_LSTAT, 4, 1⟩
def POD_LSTAT_ANA_FAULT : Field := ⟨POD_LSTAT, 5, 1⟩
def POD_LSTAT_SPLITS : Field := ⟨POD_LSTAT, 16, 16⟩
/-- Address of POD_LHELD. -/
def POD_LHELD : Nat := 0xa0408
def POD_LHELD_HSCAN : Field := ⟨POD_LHELD, 0, 16⟩
def POD_LHELD_BRK : Field := ⟨POD_LHELD, 16, 16⟩
/-- Address of POD_LJOIN. -/
def POD_LJOIN : Nat := 0xa040c
def POD_LJOIN_LAST : Field := ⟨POD_LJOIN, 0, 13⟩
def POD_LJOIN_MAX : Field := ⟨POD_LJOIN, 16, 13⟩
/-- Address of TRP_OCFG. -/
def TRP_OCFG (i : Nat) : Nat := 0xc0000 + 0x4 * i
def TRP_OCFG_EN (i : Nat) : Field := ⟨(TRP_OCFG i), 0, 1⟩
def TRP_OCFG_KIND (i : Nat) : Field := ⟨(TRP_OCFG i), 1, 1⟩
def TRP_OCFG_LATCH (i : Nat) : Field := ⟨(TRP_OCFG i), 2, 1⟩
def TRP_OCFG_FAILACT (i : Nat) : Field := ⟨(TRP_OCFG i), 3, 2⟩
def TRP_OCFG_MINON (i : Nat) : Field := ⟨(TRP_OCFG i), 5, 10⟩
def TRP_OCFG_RSTSRC (i : Nat) : Field := ⟨(TRP_OCFG i), 15, 8⟩
def TRP_OCFG_RST_EN (i : Nat) : Field := ⟨(TRP_OCFG i), 23, 1⟩
/-- Address of TRP_ESRC. -/
def TRP_ESRC (i : Nat) : Nat := 0xc0100 + 0x4 * i
def TRP_ESRC_INST (i : Nat) : Field := ⟨(TRP_ESRC i), 0, 9⟩
def TRP_ESRC_SIG (i : Nat) : Field := ⟨(TRP_ESRC i), 9, 3⟩
def TRP_ESRC_EN (i : Nat) : Field := ⟨(TRP_ESRC i), 12, 1⟩
/-- Address of TRP_AMAP. -/
def TRP_AMAP (i : Nat) (j : Nat) : Nat := 0xc1000 + 0x80 * i + 0x4 * j
def TRP_AMAP_MAP (i : Nat) (j : Nat) : Field := ⟨(TRP_AMAP i j), 0, 32⟩
/-- Address of TRP_FMAP. -/
def TRP_FMAP (i : Nat) (j : Nat) : Nat := 0xc2000 + 0x80 * i + 0x4 * j
def TRP_FMAP_MAP (i : Nat) (j : Nat) : Field := ⟨(TRP_FMAP i j), 0, 32⟩
/-- Address of TRP_ARM_ST. -/
def TRP_ARM_ST : Nat := 0xc3000
def TRP_ARM_ST_ARM : Field := ⟨TRP_ARM_ST, 0, 32⟩
/-- Address of TRP_FIRE_ST. -/
def TRP_FIRE_ST : Nat := 0xc3004
def TRP_FIRE_ST_FIRE : Field := ⟨TRP_FIRE_ST, 0, 32⟩
/-- Address of TRP_DRV_ARM. -/
def TRP_DRV_ARM : Nat := 0xc3008
def TRP_DRV_ARM_DARM : Field := ⟨TRP_DRV_ARM, 0, 32⟩
/-- Address of TRP_DRV_FIRE. -/
def TRP_DRV_FIRE : Nat := 0xc300c
def TRP_DRV_FIRE_DFIRE : Field := ⟨TRP_DRV_FIRE, 0, 32⟩
/-- Address of TRP_FRC_ARM. -/
def TRP_FRC_ARM : Nat := 0xc3010
def TRP_FRC_ARM_FARM : Field := ⟨TRP_FRC_ARM, 0, 32⟩
/-- Address of TRP_FRC_FIRE. -/
def TRP_FRC_FIRE : Nat := 0xc3014
def TRP_FRC_FIRE_FFIRE : Field := ⟨TRP_FRC_FIRE, 0, 32⟩
/-- Address of TRP_LATCH. -/
def TRP_LATCH : Nat := 0xc3018
def TRP_LATCH_LAT : Field := ⟨TRP_LATCH, 0, 32⟩
/-- Address of TRP_STAT. -/
def TRP_STAT : Nat := 0xc3020
def TRP_STAT_P0_OK : Field := ⟨TRP_STAT, 0, 1⟩
def TRP_STAT_P1_OK : Field := ⟨TRP_STAT, 1, 1⟩
def TRP_STAT_L_OK : Field := ⟨TRP_STAT, 2, 1⟩
def TRP_STAT_FAILACT_P : Field := ⟨TRP_STAT, 3, 3⟩
def TRP_STAT_WDOG : Field := ⟨TRP_STAT, 6, 1⟩
def TRP_STAT_BLOCKED : Field := ⟨TRP_STAT, 7, 1⟩
/-- Address of TRP_FAILST. -/
def TRP_FAILST : Nat := 0xc3024
def TRP_FAILST_FAIL : Field := ⟨TRP_FAILST, 0, 32⟩
/-- Address of TRP_RBA. -/
def TRP_RBA : Nat := 0xc3028
def TRP_RBA_RBA : Field := ⟨TRP_RBA, 0, 32⟩
/-- Address of TRP_RBF. -/
def TRP_RBF : Nat := 0xc302c
def TRP_RBF_RBF : Field := ⟨TRP_RBF, 0, 32⟩
/-- Address of TRP_CNT. -/
def TRP_CNT : Nat := 0xc3030
def TRP_CNT_MISS_P0 : Field := ⟨TRP_CNT, 0, 8⟩
def TRP_CNT_MISS_P1 : Field := ⟨TRP_CNT, 8, 8⟩
def TRP_CNT_VMM : Field := ⟨TRP_CNT, 16, 16⟩
/-- Address of TRP_SCHED. -/
def TRP_SCHED (i : Nat) : Nat := 0xc3040 + 0x8 * i
def TRP_SCHED_SLOW_END (i : Nat) : Field := ⟨(TRP_SCHED i), 0, 16⟩
def TRP_SCHED_SLOW_MAX (i : Nat) : Field := ⟨(TRP_SCHED i), 16, 16⟩
/-- Address of TRP_SCHED2. -/
def TRP_SCHED2 (i : Nat) : Nat := 0xc3044 + 0x8 * i
def TRP_SCHED2_GEY_PLAN (i : Nat) : Field := ⟨(TRP_SCHED2 i), 0, 11⟩
def TRP_SCHED2_LATE (i : Nat) : Field := ⟨(TRP_SCHED2 i), 16, 8⟩
def TRP_SCHED2_SKIP (i : Nat) : Field := ⟨(TRP_SCHED2 i), 24, 8⟩
/-- Address of TRP_WDCFG. -/
def TRP_WDCFG : Nat := 0xc3050
def TRP_WDCFG_WD_PODFAIL : Field := ⟨TRP_WDCFG, 0, 1⟩
/-- Address of TRP_OPCNT. -/
def TRP_OPCNT (i : Nat) : Nat := 0xc3100 + 0x4 * i
def TRP_OPCNT_OPS (i : Nat) : Field := ⟨(TRP_OPCNT i), 0, 32⟩
/-- Address of BIO_CFG. -/
def BIO_CFG (i : Nat) : Nat := 0xc8000 + 0x4 * i
def BIO_CFG_DEB (i : Nat) : Field := ⟨(BIO_CFG i), 0, 16⟩
def BIO_CFG_INV (i : Nat) : Field := ⟨(BIO_CFG i), 16, 1⟩
def BIO_CFG_EN (i : Nat) : Field := ⟨(BIO_CFG i), 17, 1⟩
/-- Address of BIO_STATE_LO. -/
def BIO_STATE_LO : Nat := 0xc8100
def BIO_STATE_LO_ST : Field := ⟨BIO_STATE_LO, 0, 32⟩
/-- Address of BIO_STATE_HI. -/
def BIO_STATE_HI : Nat := 0xc8104
def BIO_STATE_HI_ST : Field := ⟨BIO_STATE_HI, 0, 32⟩
/-- Address of BIO_RAW_LO. -/
def BIO_RAW_LO : Nat := 0xc8108
def BIO_RAW_LO_RAW : Field := ⟨BIO_RAW_LO, 0, 32⟩
/-- Address of BIO_RAW_HI. -/
def BIO_RAW_HI : Nat := 0xc810c
def BIO_RAW_HI_RAW : Field := ⟨BIO_RAW_HI, 0, 32⟩
/-- Address of BIO_IDX. -/
def BIO_IDX (i : Nat) : Nat := 0xc8200 + 0x4 * i
def BIO_IDX_IDX (i : Nat) : Field := ⟨(BIO_IDX i), 0, 32⟩
/-- Address of BIO_TLO. -/
def BIO_TLO (i : Nat) : Nat := 0xc8300 + 0x8 * i
def BIO_TLO_NS (i : Nat) : Field := ⟨(BIO_TLO i), 0, 30⟩
/-- Address of BIO_THI. -/
def BIO_THI (i : Nat) : Nat := 0xc8304 + 0x8 * i
def BIO_THI_SEC (i : Nat) : Field := ⟨(BIO_THI i), 0, 32⟩
/-- Address of BIO_CHG. -/
def BIO_CHG (i : Nat) : Nat := 0xc8500 + 0x4 * i
def BIO_CHG_CHG (i : Nat) : Field := ⟨(BIO_CHG i), 0, 16⟩
def BIO_CHG_DIR (i : Nat) : Field := ⟨(BIO_CHG i), 16, 1⟩
def BIO_CHG_GLITCH (i : Nat) : Field := ⟨(BIO_CHG i), 24, 8⟩
/-- Address of LGC_CFG. -/
def LGC_CFG : Nat := 0xe0000
def LGC_CFG_PERIOD : Field := ⟨LGC_CFG, 0, 14⟩
def LGC_CFG_FREE : Field := ⟨LGC_CFG, 14, 1⟩
def LGC_CFG_AUTORUN : Field := ⟨LGC_CFG, 15, 1⟩
def LGC_CFG_INIT_WAIT : Field := ⟨LGC_CFG, 16, 16⟩
/-- Address of LGC_SIZE. -/
def LGC_SIZE : Nat := 0xe0004
def LGC_SIZE_NINST : Field := ⟨LGC_SIZE, 0, 15⟩
def LGC_SIZE_RETAIN : Field := ⟨LGC_SIZE, 16, 11⟩
/-- Address of LGC_WCET. -/
def LGC_WCET : Nat := 0xe0008
def LGC_WCET_WCET : Field := ⟨LGC_WCET, 0, 32⟩
/-- Address of LGC_LIM. -/
def LGC_LIM : Nat := 0xe000c
def LGC_LIM_SCANLIM : Field := ⟨LGC_LIM, 0, 16⟩
/-- Address of LGC_MODE. -/
def LGC_MODE : Nat := 0xe0010
def LGC_MODE_MODE : Field := ⟨LGC_MODE, 0, 2⟩
def LGC_MODE_START : Field := ⟨LGC_MODE, 2, 2⟩
def LGC_MODE_STOP_PEND : Field := ⟨LGC_MODE, 4, 1⟩
def LGC_MODE_FIRST : Field := ⟨LGC_MODE, 5, 1⟩
def LGC_MODE_MCHG : Field := ⟨LGC_MODE, 16, 16⟩
/-- Address of LGC_STAT. -/
def LGC_STAT : Nat := 0xe0014
def LGC_STAT_OVR_SEEN : Field := ⟨LGC_STAT, 0, 1⟩
def LGC_STAT_LONG_SEEN : Field := ⟨LGC_STAT, 1, 1⟩
def LGC_STAT_SCANNING : Field := ⟨LGC_STAT, 2, 1⟩
def LGC_STAT_DROP_ANY : Field := ⟨LGC_STAT, 3, 1⟩
def LGC_STAT_RET_FAULT : Field := ⟨LGC_STAT, 4, 1⟩
def LGC_STAT_LONG : Field := ⟨LGC_STAT, 16, 16⟩
/-- Address of LGC_SCAN_LAST. -/
def LGC_SCAN_LAST : Nat := 0xe0018
def LGC_SCAN_LAST_LAST : Field := ⟨LGC_SCAN_LAST, 0, 32⟩
/-- Address of LGC_SCAN_MIN. -/
def LGC_SCAN_MIN : Nat := 0xe001c
def LGC_SCAN_MIN_MIN : Field := ⟨LGC_SCAN_MIN, 0, 32⟩
/-- Address of LGC_SCAN_MAX. -/
def LGC_SCAN_MAX : Nat := 0xe0020
def LGC_SCAN_MAX_MAX : Field := ⟨LGC_SCAN_MAX, 0, 32⟩
/-- Address of LGC_SCANCNT. -/
def LGC_SCANCNT : Nat := 0xe0024
def LGC_SCANCNT_SCANS : Field := ⟨LGC_SCANCNT, 0, 32⟩
/-- Address of LGC_OVR. -/
def LGC_OVR : Nat := 0xe0028
def LGC_OVR_OVR : Field := ⟨LGC_OVR, 0, 16⟩
def LGC_OVR_SKIPPED : Field := ⟨LGC_OVR, 16, 16⟩
/-- Address of LGC_RTN. -/
def LGC_RTN : Nat := 0xe002c
def LGC_RTN_COPY : Field := ⟨LGC_RTN, 0, 1⟩
def LGC_RTN_BUSY : Field := ⟨LGC_RTN, 1, 1⟩
def LGC_RTN_DEFER : Field := ⟨LGC_RTN, 16, 16⟩
/-- Address of LGC_XSTAT. -/
def LGC_XSTAT : Nat := 0xe0030
def LGC_XSTAT_XSTATE : Field := ⟨LGC_XSTAT, 0, 3⟩
def LGC_XSTAT_SLOT : Field := ⟨LGC_XSTAT, 7, 1⟩
def LGC_XSTAT_XCODE : Field := ⟨LGC_XSTAT, 8, 8⟩
def LGC_XSTAT_XCNT : Field := ⟨LGC_XSTAT, 16, 16⟩
/-- Address of LGC_XWORK. -/
def LGC_XWORK : Nat := 0xe0034
def LGC_XWORK_PLAN : Field := ⟨LGC_XWORK, 0, 16⟩
def LGC_XWORK_LAST : Field := ⟨LGC_XWORK, 16, 16⟩
/-- Address of LGC_OUT. -/
def LGC_OUT (i : Nat) : Nat := 0xe0100 + 0x4 * i
def LGC_OUT_OUT (i : Nat) : Field := ⟨(LGC_OUT i), 0, 32⟩
/-- Address of LGC_STOPACT. -/
def LGC_STOPACT (i : Nat) : Nat := 0xe0200 + 0x4 * i
def LGC_STOPACT_ACT (i : Nat) (k : Nat) : Field := ⟨(LGC_STOPACT i), 2 * k, 2⟩
/-- Address of LGC_SUBCFG. -/
def LGC_SUBCFG (i : Nat) : Nat := 0xe0400 + 0x4 * i
def LGC_SUBCFG_EN (i : Nat) : Field := ⟨(LGC_SUBCFG i), 0, 1⟩
def LGC_SUBCFG_SUBMODE (i : Nat) : Field := ⟨(LGC_SUBCFG i), 1, 1⟩
/-- Address of LGC_SUBST. -/
def LGC_SUBST (i : Nat) : Nat := 0xe0800 + 0x4 * i
def LGC_SUBST_STATE (i : Nat) : Field := ⟨(LGC_SUBST i), 0, 2⟩
def LGC_SUBST_PEND_DROP (i : Nat) : Field := ⟨(LGC_SUBST i), 2, 1⟩
def LGC_SUBST_PEND_REST (i : Nat) : Field := ⟨(LGC_SUBST i), 3, 1⟩
def LGC_SUBST_DROPS (i : Nat) : Field := ⟨(LGC_SUBST i), 16, 8⟩
/-- Address of REC_CCFG. -/
def REC_CCFG (i : Nat) : Nat := 0x100000 + 0x40 * i
def REC_CCFG_EN (i : Nat) : Field := ⟨(REC_CCFG i), 0, 1⟩
def REC_CCFG_STREAMS (i : Nat) : Field := ⟨(REC_CCFG i), 1, 5⟩
def REC_CCFG_BASE (i : Nat) : Field := ⟨(REC_CCFG i), 6, 3⟩
def REC_CCFG_AUTOARM (i : Nat) : Field := ⟨(REC_CCFG i), 9, 1⟩
def REC_CCFG_STOP_ON_MASK (i : Nat) : Field := ⟨(REC_CCFG i), 10, 1⟩
def REC_CCFG_FULLPOL (i : Nat) : Field := ⟨(REC_CCFG i), 11, 1⟩
def REC_CCFG_TX_EN (i : Nat) : Field := ⟨(REC_CCFG i), 12, 1⟩
def REC_CCFG_TXID (i : Nat) : Field := ⟨(REC_CCFG i), 13, 4⟩
def REC_CCFG_TOUT (i : Nat) : Field := ⟨(REC_CCFG i), 17, 2⟩
def REC_CCFG_NSEG (i : Nat) : Field := ⟨(REC_CCFG i), 19, 12⟩
def REC_CCFG_MASK_EN (i : Nat) : Field := ⟨(REC_CCFG i), 31, 1⟩
/-- Address of REC_CSEG. -/
def REC_CSEG (i : Nat) : Nat := 0x100004 + 0x40 * i
def REC_CSEG_SEGSIZE (i : Nat) : Field := ⟨(REC_CSEG i), 0, 15⟩
def REC_CSEG_BINSEL (i : Nat) : Field := ⟨(REC_CSEG i), 15, 4⟩
/-- Address of REC_CCAP. -/
def REC_CCAP (i : Nat) : Nat := 0x100008 + 0x40 * i
def REC_CCAP_CAP (i : Nat) : Field := ⟨(REC_CCAP i), 0, 32⟩
/-- Address of REC_CPRE. -/
def REC_CPRE (i : Nat) : Nat := 0x10000c + 0x40 * i
def REC_CPRE_PRE (i : Nat) : Field := ⟨(REC_CPRE i), 0, 32⟩
/-- Address of REC_CPOST. -/
def REC_CPOST (i : Nat) : Nat := 0x100010 + 0x40 * i
def REC_CPOST_POST (i : Nat) : Field := ⟨(REC_CPOST i), 0, 32⟩
/-- Address of REC_CCTL. -/
def REC_CCTL (i : Nat) : Nat := 0x100014 + 0x40 * i
def REC_CCTL_ARM (i : Nat) : Field := ⟨(REC_CCTL i), 0, 1⟩
def REC_CCTL_DISARM (i : Nat) : Field := ⟨(REC_CCTL i), 1, 1⟩
def REC_CCTL_APPLY (i : Nat) : Field := ⟨(REC_CCTL i), 2, 1⟩
def REC_CCTL_TRIG (i : Nat) : Field := ⟨(REC_CCTL i), 3, 1⟩
/-- Address of REC_CSTAT. -/
def REC_CSTAT (i : Nat) : Nat := 0x100018 + 0x40 * i
def REC_CSTAT_STATE (i : Nat) : Field := ⟨(REC_CSTAT i), 0, 2⟩
def REC_CSTAT_MASKSTOP (i : Nat) : Field := ⟨(REC_CSTAT i), 2, 1⟩
def REC_CSTAT_SEG (i : Nat) : Field := ⟨(REC_CSTAT i), 4, 12⟩
def REC_CSTAT_NEXT (i : Nat) : Field := ⟨(REC_CSTAT i), 16, 13⟩
/-- Address of REC_CCNT. -/
def REC_CCNT (i : Nat) : Nat := 0x10001c + 0x40 * i
def REC_CCNT_TRIGS (i : Nat) : Field := ⟨(REC_CCNT i), 0, 16⟩
def REC_CCNT_LOST (i : Nat) : Field := ⟨(REC_CCNT i), 16, 8⟩
def REC_CCNT_MISSED (i : Nat) : Field := ⟨(REC_CCNT i), 24, 8⟩
/-- Address of REC_CMASK. -/
def REC_CMASK (i : Nat) : Nat := 0x100020 + 0x40 * i
def REC_CMASK_TOL_REL (i : Nat) : Field := ⟨(REC_CMASK i), 0, 16⟩
def REC_CMASK_NVIOL (i : Nat) : Field := ⟨(REC_CMASK i), 16, 5⟩
/-- Address of REC_CMABS. -/
def REC_CMABS (i : Nat) : Nat := 0x100024 + 0x40 * i
def REC_CMABS_TOL_ABS (i : Nat) : Field := ⟨(REC_CMABS i), 0, 32⟩
/-- Address of REC_CCH. -/
def REC_CCH (i : Nat) (j : Nat) : Nat := 0x100400 + 0x20 * i + 0x4 * j
def REC_CCH_CH (i : Nat) (j : Nat) : Field := ⟨(REC_CCH i j), 0, 32⟩
/-- Address of REC_CMCH. -/
def REC_CMCH (i : Nat) (j : Nat) : Nat := 0x100410 + 0x20 * i + 0x4 * j
def REC_CMCH_MCH (i : Nat) (j : Nat) : Field := ⟨(REC_CMCH i j), 0, 32⟩
/-- Address of REC_CTRG. -/
def REC_CTRG (i : Nat) (j : Nat) : Nat := 0x100800 + 0x80 * i + 0x4 * j
def REC_CTRG_KIND (i : Nat) (j : Nat) : Field := ⟨(REC_CTRG i j), 0, 4⟩
def REC_CTRG_INDEX (i : Nat) (j : Nat) : Field := ⟨(REC_CTRG i j), 4, 9⟩
def REC_CTRG_EDGE (i : Nat) (j : Nat) : Field := ⟨(REC_CTRG i j), 13, 2⟩
def REC_CTRG_EN (i : Nat) (j : Nat) : Field := ⟨(REC_CTRG i j), 15, 1⟩
/-- Address of REC_CHSCL. -/
def REC_CHSCL (i : Nat) : Nat := 0x100c00 + 0x4 * i
def REC_CHSCL_CHSCL (i : Nat) : Field := ⟨(REC_CHSCL i), 0, 32⟩
/-- Address of REC_CHRAT. -/
def REC_CHRAT (i : Nat) : Nat := 0x100e00 + 0x4 * i
def REC_CHRAT_CHRAT (i : Nat) : Field := ⟨(REC_CHRAT i), 0, 32⟩
/-- Address of REC_WSEL. -/
def REC_WSEL : Nat := 0x101000
def REC_WSEL_SEG : Field := ⟨REC_WSEL, 0, 12⟩
def REC_WSEL_STREAM : Field := ⟨REC_WSEL, 12, 3⟩
def REC_WSEL_VIEW : Field := ⟨REC_WSEL, 15, 1⟩
/-- Address of REC_WIN_BASE. -/
def REC_WIN_BASE : Nat := 0x101004
def REC_WIN_BASE_OFS : Field := ⟨REC_WIN_BASE, 12, 20⟩
/-- Address of REC_WSTAT. -/
def REC_WSTAT : Nat := 0x101008
def REC_WSTAT_SEL : Field := ⟨REC_WSTAT, 0, 1⟩
def REC_WSTAT_EOV : Field := ⟨REC_WSTAT, 1, 1⟩
/-- Address of REC_WLEN. -/
def REC_WLEN : Nat := 0x10100c
def REC_WLEN_LEN : Field := ⟨REC_WLEN, 0, 32⟩
/-- Address of REC_REL. -/
def REC_REL : Nat := 0x101010
def REC_REL_SEG : Field := ⟨REC_REL, 0, 12⟩
/-- Address of REC_IDXSEL. -/
def REC_IDXSEL : Nat := 0x101014
def REC_IDXSEL_SEG : Field := ⟨REC_IDXSEL, 0, 12⟩
/-- Address of REC_IDXW. -/
def REC_IDXW (i : Nat) : Nat := 0x101018 + 0x4 * i
def REC_IDXW_W (i : Nat) : Field := ⟨(REC_IDXW i), 0, 32⟩
/-- Address of REC_SEQ. -/
def REC_SEQ : Nat := 0x101028
def REC_SEQ_SEQ : Field := ⟨REC_SEQ, 0, 32⟩
/-- Address of REC_SLOT. -/
def REC_SLOT : Nat := 0x10102c
def REC_SLOT_USED : Field := ⟨REC_SLOT, 0, 6⟩
def REC_SLOT_FOVR : Field := ⟨REC_SLOT, 16, 8⟩
/-- Address of TIM_CFG. -/
def TIM_CFG (i : Nat) : Nat := 0x120000 + 0x40 * i
def TIM_CFG_SRC (i : Nat) : Field := ⟨(TIM_CFG i), 0, 3⟩
def TIM_CFG_DOMAIN (i : Nat) : Field := ⟨(TIM_CFG i), 3, 7⟩
def TIM_CFG_PORTSEL (i : Nat) : Field := ⟨(TIM_CFG i), 10, 2⟩
def TIM_CFG_AUTO_FIRST (i : Nat) : Field := ⟨(TIM_CFG i), 12, 1⟩
def TIM_CFG_GM_EN (i : Nat) : Field := ⟨(TIM_CFG i), 13, 1⟩
/-- Address of TIM_THR. -/
def TIM_THR (i : Nat) : Nat := 0x120004 + 0x40 * i
def TIM_THR_STEP_THR (i : Nat) : Field := ⟨(TIM_THR i), 0, 30⟩
/-- Address of TIM_SERVO. -/
def TIM_SERVO (i : Nat) : Nat := 0x120008 + 0x40 * i
def TIM_SERVO_TC (i : Nat) : Field := ⟨(TIM_SERVO i), 0, 7⟩
def TIM_SERVO_LOCK_THR (i : Nat) : Field := ⟨(TIM_SERVO i), 7, 10⟩
def TIM_SERVO_HOLD_PPB (i : Nat) : Field := ⟨(TIM_SERVO i), 17, 15⟩
/-- Address of TIM_STAT. -/
def TIM_STAT (i : Nat) : Nat := 0x12000c + 0x40 * i
def TIM_STAT_STATE (i : Nat) : Field := ⟨(TIM_STAT i), 0, 3⟩
def TIM_STAT_SRC_OK (i : Nat) : Field := ⟨(TIM_STAT i), 3, 1⟩
def TIM_STAT_QUAL (i : Nat) : Field := ⟨(TIM_STAT i), 8, 8⟩
def TIM_STAT_REFUSED (i : Nat) : Field := ⟨(TIM_STAT i), 16, 1⟩
def TIM_STAT_LOST_SEEN (i : Nat) : Field := ⟨(TIM_STAT i), 17, 1⟩
/-- Address of TIM_NOW_LO. -/
def TIM_NOW_LO (i : Nat) : Nat := 0x120010 + 0x40 * i
def TIM_NOW_LO_NS (i : Nat) : Field := ⟨(TIM_NOW_LO i), 0, 30⟩
/-- Address of TIM_NOW_HI. -/
def TIM_NOW_HI (i : Nat) : Nat := 0x120014 + 0x40 * i
def TIM_NOW_HI_SEC (i : Nat) : Field := ⟨(TIM_NOW_HI i), 0, 32⟩
/-- Address of TIM_NOW_X. -/
def TIM_NOW_X (i : Nat) : Nat := 0x120018 + 0x40 * i
def TIM_NOW_X_SECX (i : Nat) : Field := ⟨(TIM_NOW_X i), 0, 16⟩
def TIM_NOW_X_SUBNS (i : Nat) : Field := ⟨(TIM_NOW_X i), 16, 16⟩
/-- Address of TIM_OFS. -/
def TIM_OFS (i : Nat) : Nat := 0x12001c + 0x40 * i
def TIM_OFS_OFS (i : Nat) : Field := ⟨(TIM_OFS i), 0, 32⟩
/-- Address of TIM_FADJ. -/
def TIM_FADJ (i : Nat) : Nat := 0x120020 + 0x40 * i
def TIM_FADJ_FADJ (i : Nat) : Field := ⟨(TIM_FADJ i), 0, 32⟩
/-- Address of TIM_PEND_LO. -/
def TIM_PEND_LO (i : Nat) : Nat := 0x120024 + 0x40 * i
def TIM_PEND_LO_PLO (i : Nat) : Field := ⟨(TIM_PEND_LO i), 0, 32⟩
/-- Address of TIM_PEND_HI. -/
def TIM_PEND_HI (i : Nat) : Nat := 0x120028 + 0x40 * i
def TIM_PEND_HI_PHI (i : Nat) : Field := ⟨(TIM_PEND_HI i), 0, 32⟩
/-- Address of TIM_GM_LO. -/
def TIM_GM_LO (i : Nat) : Nat := 0x12002c + 0x40 * i
def TIM_GM_LO_GLO (i : Nat) : Field := ⟨(TIM_GM_LO i), 0, 32⟩
/-- Address of TIM_GM_HI. -/
def TIM_GM_HI (i : Nat) : Nat := 0x120030 + 0x40 * i
def TIM_GM_HI_GHI (i : Nat) : Field := ⟨(TIM_GM_HI i), 0, 32⟩
/-- Address of TIM_CNT. -/
def TIM_CNT (i : Nat) : Nat := 0x120034 + 0x40 * i
def TIM_CNT_STEPS (i : Nat) : Field := ⟨(TIM_CNT i), 0, 8⟩
def TIM_CNT_REFUSE (i : Nat) : Field := ⟨(TIM_CNT i), 8, 8⟩
def TIM_CNT_LOSS (i : Nat) : Field := ⟨(TIM_CNT i), 16, 8⟩
def TIM_CNT_GMCHG (i : Nat) : Field := ⟨(TIM_CNT i), 24, 8⟩
/-- Address of TIM_SAMP. -/
def TIM_SAMP : Nat := 0x120400
def TIM_SAMP_SAMP_TB : Field := ⟨TIM_SAMP, 0, 2⟩
def TIM_SAMP_COMPAT : Field := ⟨TIM_SAMP, 2, 1⟩
def TIM_SAMP_ACT : Field := ⟨TIM_SAMP, 3, 1⟩
/-- Address of TIM_UTC. -/
def TIM_UTC : Nat := 0x120404
def TIM_UTC_UTCOFS : Field := ⟨TIM_UTC, 0, 16⟩
def TIM_UTC_SRCVAL : Field := ⟨TIM_UTC, 16, 1⟩
def TIM_UTC_LEAP_PEND : Field := ⟨TIM_UTC, 17, 1⟩
def TIM_UTC_LEAP_DIR : Field := ⟨TIM_UTC, 18, 1⟩
def TIM_UTC_UTCDEF : Field := ⟨TIM_UTC, 24, 8⟩
/-- Address of TIM_IRIG. -/
def TIM_IRIG : Nat := 0x120408
def TIM_IRIG_CODE : Field := ⟨TIM_IRIG, 0, 3⟩
def TIM_IRIG_CFEXT : Field := ⟨TIM_IRIG, 3, 1⟩
def TIM_IRIG_IRIG_OFS : Field := ⟨TIM_IRIG, 4, 7⟩
def TIM_IRIG_YEAR : Field := ⟨TIM_IRIG, 16, 16⟩
/-- Address of TIM_PPSO. -/
def TIM_PPSO : Nat := 0x12040c
def TIM_PPSO_TB : Field := ⟨TIM_PPSO, 0, 2⟩
def TIM_PPSO_EN : Field := ⟨TIM_PPSO, 2, 1⟩
def TIM_PPSO_PPSO_FREE : Field := ⟨TIM_PPSO, 3, 1⟩
def TIM_PPSO_PW : Field := ⟨TIM_PPSO, 4, 9⟩
def TIM_PPSO_COMP : Field := ⟨TIM_PPSO, 16, 16⟩
/-- Address of TIM_IDX. -/
def TIM_IDX : Nat := 0x120410
def TIM_IDX_IDX : Field := ⟨TIM_IDX, 0, 32⟩
/-- Address of TIM_GMCFG. -/
def TIM_GMCFG : Nat := 0x120414
def TIM_GMCFG_PRIO1 : Field := ⟨TIM_GMCFG, 0, 8⟩
def TIM_GMCFG_PRIO2 : Field := ⟨TIM_GMCFG, 8, 8⟩
/-- Address of TIM_CARRY. -/
def TIM_CARRY : Nat := 0x120418
def TIM_CARRY_CARRY : Field := ⟨TIM_CARRY, 0, 32⟩
/-- Address of NET_MODE. -/
def NET_MODE : Nat := 0x140000
def NET_MODE_MODE : Field := ⟨NET_MODE, 0, 2⟩
def NET_MODE_C_BRIDGE : Field := ⟨NET_MODE, 2, 1⟩
def NET_MODE_A_IF : Field := ⟨NET_MODE, 3, 1⟩
def NET_MODE_B_IF : Field := ⟨NET_MODE, 4, 1⟩
def NET_MODE_C_SPEED : Field := ⟨NET_MODE, 5, 1⟩
def NET_MODE_TC_EN : Field := ⟨NET_MODE, 6, 1⟩
def NET_MODE_ISO : Field := ⟨NET_MODE, 7, 1⟩
/-- Address of NET_MAC_LO. -/
def NET_MAC_LO : Nat := 0x140004
def NET_MAC_LO_MACL : Field := ⟨NET_MAC_LO, 0, 32⟩
/-- Address of NET_MAC_HI. -/
def NET_MAC_HI : Nat := 0x140008
def NET_MAC_HI_MACH : Field := ⟨NET_MAC_HI, 0, 16⟩
/-- Address of NET_RCFG. -/
def NET_RCFG : Nat := 0x14000c
def NET_RCFG_FORGET : Field := ⟨NET_RCFG, 0, 10⟩
def NET_RCFG_SVI : Field := ⟨NET_RCFG, 16, 7⟩
def NET_RCFG_SVADDR : Field := ⟨NET_RCFG, 24, 8⟩
/-- Address of NET_DUP. -/
def NET_DUP : Nat := 0x140010
def NET_DUP_DUP : Field := ⟨NET_DUP, 0, 32⟩
/-- Address of NET_WLAN. -/
def NET_WLAN : Nat := 0x140014
def NET_WLAN_WRONGLAN_A : Field := ⟨NET_WLAN, 0, 16⟩
def NET_WLAN_WRONGLAN_B : Field := ⟨NET_WLAN, 16, 16⟩
/-- Address of NET_DDT. -/
def NET_DDT : Nat := 0x140018
def NET_DDT_LEVEL : Field := ⟨NET_DDT, 0, 11⟩
def NET_DDT_EVICT : Field := ⟨NET_DDT, 16, 16⟩
/-- Address of NET_RSTAT. -/
def NET_RSTAT : Nat := 0x14001c
def NET_RSTAT_RFAULT : Field := ⟨NET_RSTAT, 0, 1⟩
def NET_RSTAT_RF_SEEN : Field := ⟨NET_RSTAT, 1, 1⟩
def NET_RSTAT_FLT_A : Field := ⟨NET_RSTAT, 2, 1⟩
def NET_RSTAT_FLT_B : Field := ⟨NET_RSTAT, 3, 1⟩
/-- Address of NET_PCFG. -/
def NET_PCFG (i : Nat) : Nat := 0x140100 + 0x20 * i
def NET_PCFG_PCP_DEF (i : Nat) : Field := ⟨(NET_PCFG i), 0, 3⟩
def NET_PCFG_EN (i : Nat) : Field := ⟨(NET_PCFG i), 3, 1⟩
/-- Address of NET_PSTAT. -/
def NET_PSTAT (i : Nat) : Nat := 0x140104 + 0x20 * i
def NET_PSTAT_LINK (i : Nat) : Field := ⟨(NET_PSTAT i), 0, 1⟩
def NET_PSTAT_SPEED (i : Nat) : Field := ⟨(NET_PSTAT i), 1, 1⟩
def NET_PSTAT_AN_DONE (i : Nat) : Field := ⟨(NET_PSTAT i), 2, 1⟩
def NET_PSTAT_LINK_CHG (i : Nat) : Field := ⟨(NET_PSTAT i), 3, 1⟩
def NET_PSTAT_LDOWN (i : Nat) : Field := ⟨(NET_PSTAT i), 16, 16⟩
/-- Address of NET_PRX. -/
def NET_PRX (i : Nat) : Nat := 0x140108 + 0x20 * i
def NET_PRX_RX (i : Nat) : Field := ⟨(NET_PRX i), 0, 32⟩
/-- Address of NET_PTX. -/
def NET_PTX (i : Nat) : Nat := 0x14010c + 0x20 * i
def NET_PTX_TX (i : Nat) : Field := ⟨(NET_PTX i), 0, 32⟩
/-- Address of NET_PDROP. -/
def NET_PDROP (i : Nat) : Nat := 0x140110 + 0x20 * i
def NET_PDROP_ERR (i : Nat) : Field := ⟨(NET_PDROP i), 0, 16⟩
def NET_PDROP_OVS (i : Nat) : Field := ⟨(NET_PDROP i), 16, 16⟩
/-- Address of NET_PDLY. -/
def NET_PDLY (i : Nat) : Nat := 0x140114 + 0x20 * i
def NET_PDLY_PDLY (i : Nat) : Field := ⟨(NET_PDLY i), 0, 32⟩
/-- Address of NET_TCMAX. -/
def NET_TCMAX : Nat := 0x140200
def NET_TCMAX_TCMAX : Field := ⟨NET_TCMAX, 0, 32⟩
/-- Address of NET_MDIO. -/
def NET_MDIO : Nat := 0x140300
def NET_MDIO_PHYAD : Field := ⟨NET_MDIO, 0, 5⟩
def NET_MDIO_DEVAD : Field := ⟨NET_MDIO, 5, 5⟩
def NET_MDIO_OP : Field := ⟨NET_MDIO, 10, 2⟩
def NET_MDIO_C45W : Field := ⟨NET_MDIO, 12, 1⟩
def NET_MDIO_BUSY : Field := ⟨NET_MDIO, 13, 1⟩
def NET_MDIO_DATA : Field := ⟨NET_MDIO, 16, 16⟩
/-- Address of GSV_PCB. -/
def GSV_PCB (i : Nat) : Nat := 0x160000 + 0x10 * i
def GSV_PCB_EN (i : Nat) : Field := ⟨(GSV_PCB i), 0, 1⟩
def GSV_PCB_MINT (i : Nat) : Field := ⟨(GSV_PCB i), 1, 10⟩
def GSV_PCB_MAXT (i : Nat) : Field := ⟨(GSV_PCB i), 11, 16⟩
/-- Address of GSV_PSTNUM. -/
def GSV_PSTNUM (i : Nat) : Nat := 0x160004 + 0x10 * i
def GSV_PSTNUM_STNUM (i : Nat) : Field := ⟨(GSV_PSTNUM i), 0, 32⟩
/-- Address of GSV_PSQNUM. -/
def GSV_PSQNUM (i : Nat) : Nat := 0x160008 + 0x10 * i
def GSV_PSQNUM_SQNUM (i : Nat) : Field := ⟨(GSV_PSQNUM i), 0, 32⟩
/-- Address of GSV_PCNT. -/
def GSV_PCNT (i : Nat) : Nat := 0x16000c + 0x10 * i
def GSV_PCNT_FRAMES (i : Nat) : Field := ⟨(GSV_PCNT i), 0, 32⟩
/-- Address of GSV_SCFG. -/
def GSV_SCFG (i : Nat) : Nat := 0x160400 + 0x8 * i
def GSV_SCFG_EN (i : Nat) : Field := ⟨(GSV_SCFG i), 0, 1⟩
def GSV_SCFG_TEST_ACC (i : Nat) : Field := ⟨(GSV_SCFG i), 1, 1⟩
/-- Address of GSV_SSTAT. -/
def GSV_SSTAT (i : Nat) : Nat := 0x160404 + 0x8 * i
def GSV_SSTAT_RX (i : Nat) : Field := ⟨(GSV_SSTAT i), 0, 1⟩
def GSV_SSTAT_CFGERR (i : Nat) : Field := ⟨(GSV_SSTAT i), 8, 8⟩
def GSV_SSTAT_DUP (i : Nat) : Field := ⟨(GSV_SSTAT i), 16, 8⟩
def GSV_SSTAT_TSTDISC (i : Nat) : Field := ⟨(GSV_SSTAT i), 24, 8⟩
/-- Address of GSV_SVSCFG. -/
def GSV_SVSCFG (i : Nat) : Nat := 0x160800 + 0x8 * i
def GSV_SVSCFG_EN (i : Nat) : Field := ⟨(GSV_SVSCFG i), 0, 1⟩
def GSV_SVSCFG_RATE (i : Nat) : Field := ⟨(GSV_SVSCFG i), 1, 1⟩
def GSV_SVSCFG_SYNCMIN (i : Nat) : Field := ⟨(GSV_SVSCFG i), 2, 2⟩
def GSV_SVSCFG_TEST_ACC (i : Nat) : Field := ⟨(GSV_SVSCFG i), 4, 1⟩
def GSV_SVSCFG_JTOL (i : Nat) : Field := ⟨(GSV_SVSCFG i), 5, 10⟩
/-- Address of GSV_SVSSTAT. -/
def GSV_SVSSTAT (i : Nat) : Nat := 0x160804 + 0x8 * i
def GSV_SVSSTAT_RX (i : Nat) : Field := ⟨(GSV_SVSSTAT i), 0, 1⟩
def GSV_SVSSTAT_SYNC (i : Nat) : Field := ⟨(GSV_SVSSTAT i), 1, 1⟩
def GSV_SVSSTAT_CFGERR (i : Nat) : Field := ⟨(GSV_SVSSTAT i), 8, 8⟩
def GSV_SVSSTAT_DUP (i : Nat) : Field := ⟨(GSV_SVSSTAT i), 16, 8⟩
def GSV_SVSSTAT_LATE (i : Nat) : Field := ⟨(GSV_SVSSTAT i), 24, 8⟩
/-- Address of GSV_VCH. -/
def GSV_VCH (i : Nat) : Nat := 0x160900 + 0x8 * i
def GSV_VCH_EN (i : Nat) : Field := ⟨(GSV_VCH i), 0, 1⟩
def GSV_VCH_STREAM (i : Nat) : Field := ⟨(GSV_VCH i), 1, 4⟩
def GSV_VCH_ELEM (i : Nat) : Field := ⟨(GSV_VCH i), 5, 5⟩
def GSV_VCH_KIND (i : Nat) : Field := ⟨(GSV_VCH i), 10, 1⟩
/-- Address of GSV_VGAIN. -/
def GSV_VGAIN (i : Nat) : Nat := 0x160904 + 0x8 * i
def GSV_VGAIN_VGAIN (i : Nat) : Field := ⟨(GSV_VGAIN i), 0, 32⟩
/-- Address of GSV_SVPCFG. -/
def GSV_SVPCFG (i : Nat) : Nat := 0x160c00 + 0x10 * i
def GSV_SVPCFG_EN (i : Nat) : Field := ⟨(GSV_SVPCFG i), 0, 1⟩
def GSV_SVPCFG_NASDU (i : Nat) : Field := ⟨(GSV_SVPCFG i), 1, 3⟩
/-- Address of GSV_SVPCH. -/
def GSV_SVPCH (i : Nat) (j : Nat) : Nat := 0x160c04 + 0x10 * i + 0x4 * j
def GSV_SVPCH_CH (i : Nat) (j : Nat) (k : Nat) : Field := ⟨(GSV_SVPCH i j), 8 * k, 7⟩
/-- Address of GSV_PGAIN. -/
def GSV_PGAIN (i : Nat) (j : Nat) : Nat := 0x160d00 + 0x20 * i + 0x4 * j
def GSV_PGAIN_PGAIN (i : Nat) (j : Nat) : Field := ⟨(GSV_PGAIN i j), 0, 32⟩
/-- Address of OZX_CFG. -/
def OZX_CFG : Nat := 0x180000
def OZX_CFG_REFSEL : Field := ⟨OZX_CFG, 0, 2⟩
def OZX_CFG_PAIR : Field := ⟨OZX_CFG, 2, 1⟩
def OZX_CFG_DOM_EN : Field := ⟨OZX_CFG, 3, 1⟩
def OZX_CFG_ENGID : Field := ⟨OZX_CFG, 4, 3⟩
def OZX_CFG_LINK_EN : Field := ⟨OZX_CFG, 7, 2⟩
def OZX_CFG_LINK_DOM : Field := ⟨OZX_CFG, 9, 2⟩
def OZX_CFG_TSRC_LINK : Field := ⟨OZX_CFG, 11, 1⟩
/-- Address of OZX_PCFG. -/
def OZX_PCFG : Nat := 0x180004
def OZX_PCFG_PAIR_WAIT : Field := ⟨OZX_PCFG, 0, 10⟩
def OZX_PCFG_DIG_N : Field := ⟨OZX_PCFG, 10, 9⟩
/-- Address of OZX_PSTAT. -/
def OZX_PSTAT : Nat := 0x180008
def OZX_PSTAT_ROLE : Field := ⟨OZX_PSTAT, 0, 1⟩
def OZX_PSTAT_HOLDS : Field := ⟨OZX_PSTAT, 1, 1⟩
def OZX_PSTAT_PARTNER_OK : Field := ⟨OZX_PSTAT, 2, 1⟩
def OZX_PSTAT_P_HOLDS : Field := ⟨OZX_PSTAT, 3, 1⟩
def OZX_PSTAT_P_TEST : Field := ⟨OZX_PSTAT, 4, 1⟩
def OZX_PSTAT_P_PODOK : Field := ⟨OZX_PSTAT, 5, 3⟩
def OZX_PSTAT_DUAL_SEEN : Field := ⟨OZX_PSTAT, 8, 1⟩
def OZX_PSTAT_DIGMM : Field := ⟨OZX_PSTAT, 9, 1⟩
def OZX_PSTAT_IMGDIFF : Field := ⟨OZX_PSTAT, 10, 1⟩
/-- Address of OZX_PCNT. -/
def OZX_PCNT : Nat := 0x18000c
def OZX_PCNT_TAKEOVER : Field := ⟨OZX_PCNT, 0, 8⟩
def OZX_PCNT_HBLOST : Field := ⟨OZX_PCNT, 8, 8⟩
def OZX_PCNT_DIGCNT : Field := ⟨OZX_PCNT, 16, 16⟩
/-- Address of OZX_OUTW. -/
def OZX_OUTW (i : Nat) : Nat := 0x180010 + 0x4 * i
def OZX_OUTW_WIRING (i : Nat) (k : Nat) : Field := ⟨(OZX_OUTW i), 2 * k, 2⟩
/-- Address of OZX_LSTAT. -/
def OZX_LSTAT (i : Nat) : Nat := 0x180100 + 0x10 * i
def OZX_LSTAT_STATE (i : Nat) : Field := ⟨(OZX_LSTAT i), 0, 2⟩
def OZX_LSTAT_CLKIN (i : Nat) : Field := ⟨(OZX_LSTAT i), 2, 1⟩
def OZX_LSTAT_CHG (i : Nat) : Field := ⟨(OZX_LSTAT i), 3, 1⟩
/-- Address of OZX_LDLY. -/
def OZX_LDLY (i : Nat) : Nat := 0x180104 + 0x10 * i
def OZX_LDLY_DLY (i : Nat) : Field := ⟨(OZX_LDLY i), 0, 16⟩
/-- Address of OZX_LCNT. -/
def OZX_LCNT (i : Nat) : Nat := 0x180108 + 0x10 * i
def OZX_LCNT_RETRY (i : Nat) : Field := ⟨(OZX_LCNT i), 0, 8⟩
def OZX_LCNT_LOST (i : Nat) : Field := ⟨(OZX_LCNT i), 8, 8⟩
def OZX_LCNT_CRCERR (i : Nat) : Field := ⟨(OZX_LCNT i), 16, 8⟩
def OZX_LCNT_DLYDISC (i : Nat) : Field := ⟨(OZX_LCNT i), 24, 8⟩
/-- Address of OZX_TCNT. -/
def OZX_TCNT : Nat := 0x180200
def OZX_TCNT_TX : Field := ⟨OZX_TCNT, 0, 8⟩
def OZX_TCNT_RX : Field := ⟨OZX_TCNT, 8, 8⟩
def OZX_TCNT_LATE : Field := ⟨OZX_TCNT, 16, 8⟩
def OZX_TCNT_LOOP : Field := ⟨OZX_TCNT, 24, 8⟩
/-- Address of EVT_QSTAT. -/
def EVT_QSTAT (i : Nat) : Nat := 0x1a0000 + 0x8000 * i
def EVT_QSTAT_LEVEL (i : Nat) : Field := ⟨(EVT_QSTAT i), 0, 13⟩
def EVT_QSTAT_OVF (i : Nat) : Field := ⟨(EVT_QSTAT i), 13, 1⟩
def EVT_QSTAT_BALL (i : Nat) : Field := ⟨(EVT_QSTAT i), 14, 1⟩
def EVT_QSTAT_ACK_ERR (i : Nat) : Field := ⟨(EVT_QSTAT i), 15, 1⟩
/-- Address of EVT_QCNT. -/
def EVT_QCNT (i : Nat) : Nat := 0x1a0004 + 0x8000 * i
def EVT_QCNT_DROP (i : Nat) : Field := ⟨(EVT_QCNT i), 0, 16⟩
def EVT_QCNT_COALESCED (i : Nat) : Field := ⟨(EVT_QCNT i), 16, 16⟩
/-- Address of EVT_QACK. -/
def EVT_QACK (i : Nat) : Nat := 0x1a0008 + 0x8000 * i
def EVT_QACK_N (i : Nat) : Field := ⟨(EVT_QACK i), 0, 13⟩
/-- Address of EVT_QDATA. -/
def EVT_QDATA (i : Nat) (j : Nat) : Nat := 0x1a0020 + 0x8000 * i + 0x4 * j
def EVT_QDATA_W (i : Nat) (j : Nat) : Field := ⟨(EVT_QDATA i j), 0, 32⟩
/-- Address of EVT_EN. -/
def EVT_EN (i : Nat) : Nat := 0x1a0100 + 0x4 * i
def EVT_EN_EN (i : Nat) : Field := ⟨(EVT_EN i), 0, 32⟩
/-- Address of EVT_SEEN. -/
def EVT_SEEN (i : Nat) : Nat := 0x1a0110 + 0x4 * i
def EVT_SEEN_SEEN (i : Nat) : Field := ⟨(EVT_SEEN i), 0, 32⟩
/-- Address of EVT_LOG. -/
def EVT_LOG : Nat := 0x1a0120
def EVT_LOG_HEAD : Field := ⟨EVT_LOG, 0, 12⟩
def EVT_LOG_WRAPPED : Field := ⟨EVT_LOG, 12, 1⟩
def EVT_LOG_LOGDROP : Field := ⟨EVT_LOG, 16, 16⟩
/-- Address of EVT_ESEQ. -/
def EVT_ESEQ : Nat := 0x1a0124
def EVT_ESEQ_ESEQ : Field := ⟨EVT_ESEQ, 0, 32⟩
/-- Address of EVT_LSEL. -/
def EVT_LSEL : Nat := 0x1a0128
def EVT_LSEL_IDX : Field := ⟨EVT_LSEL, 0, 12⟩
/-- Address of EVT_LDATA. -/
def EVT_LDATA (i : Nat) : Nat := 0x1a0140 + 0x4 * i
def EVT_LDATA_W (i : Nat) : Field := ⟨(EVT_LDATA i), 0, 32⟩
/-- Address of DBG_STAT. -/
def DBG_STAT : Nat := 0x1c0000
def DBG_STAT_UNLOCK : Field := ⟨DBG_STAT, 0, 1⟩
def DBG_STAT_TARGET : Field := ⟨DBG_STAT, 1, 2⟩
def DBG_STAT_HALTED : Field := ⟨DBG_STAT, 3, 1⟩
def DBG_STAT_LOG : Field := ⟨DBG_STAT, 4, 6⟩
/-- Address of DBG_CNT. -/
def DBG_CNT : Nat := 0x1c0004
def DBG_CNT_WRITES : Field := ⟨DBG_CNT, 0, 16⟩
def DBG_CNT_HALTS : Field := ⟨DBG_CNT, 16, 16⟩

end Sys2Proof.Machine
end

