-- ==== Sys2Proof/Machine/TypesCmd.lean ====
section
/-!
DEFINITION. Plain data of Caldera (14 R426 to R444) and of the command set (15 R437 to R461).
-/
namespace Sys2Proof

/-- R433: a key slot: 0 EMPTY, 1 ACTIVE, 2 RETIRED; its key's bytes. -/
structure KeySlot where
  st : Nat
  key : List Nat
  deriving DecidableEq, Repr

/-- R436: an OTP slot: 0 UNPROGRAMMED, 1 ACTIVE, 2 REVOKED; the hash of the public key, first byte most significant. -/
structure OtpSlot where
  st : Nat
  hash : Nat
  deriving DecidableEq, Repr

/-- Caldera beside its registers: key store and OTP (which outlast every reset), TRNG health, per transport the instants of
recent authentication failures and the end of a rate limit (R441), per slot the last accepted frame and its response (R439). -/
structure SecSt where
  keys : List KeySlot
  otp : List OtpSlot
  trngOk : Bool
  fails : List (List Nat)
  limit : List (Option Nat)
  cache : List (Option (List Nat × List Nat))
  deriving DecidableEq, Repr

/-- R454: a completion: OPCODE, transport, STATUS, SEQ of the request, DETAIL, strobe index. -/
structure Completion where
  op : Nat
  tr : Nat
  status : Nat
  seq : Nat
  detail : Nat
  strobe : Nat
  deriving DecidableEq, Repr

/-- R448: a request that has passed rows 1 to 6 of R450: transport, OPCODE, SEQ, payload, frame bytes, on port C XID and source
address; and, once it has passed row 7, the slot, counter and key that verified it, and its world. -/
structure CmdReq where
  tr : Nat
  op : Nat
  seq : Nat
  payload : List Nat
  frame : List Nat
  xid : Nat
  src : Nat
  auth : Option (Nat × Nat)
  key : List Nat
  secure : Bool
  deriving DecidableEq, Repr

/-- R447: a reassembly: XID, fragments, the next one, bytes so far, the first one's instant. -/
structure Reasm where
  xid : Nat
  n : Nat
  next : Nat
  bytes : List Nat
  from_ : Nat
  deriving DecidableEq, Repr

/-- R455: a flash or OTP command of class C in progress. -/
inductive ClassC where
  | otpProgram (h hash : Nat)
  | otpRevoke (h : Nat)
  | flashErase (a n : Nat)
  | flashProgram (a : Nat) (data : List Nat)
  | flashSlot (slot : Nat)
  deriving DecidableEq, Repr

/-- The command set beside its registers: the completion ring, newest first; requests received and awaiting execution,
oldest first; port C's reassembly; the class C flash or OTP command that runs, with transport and SEQ; a MODE_SET awaiting its
change; the end of a force; the instant of the last request completely received from port C (R446). -/
structure CmdSt where
  ring : List Completion
  svc : List CmdReq
  reasm : Option Reasm
  run : Option (ClassC × Nat × Nat)
  modeWait : Option CmdReq
  forceEnd : Option Nat
  recvC : Nat
  deriving DecidableEq, Repr

/-- R485: a command of the xSPI target as the bytes the host drives spell it. -/
inductive XspiCmd where
  | read (a : Nat)
  | write (a : Nat) (ws : List Nat) (part : Bool)
  | readStat
  | undefinedCode (code : Nat)
  deriving DecidableEq, Repr

end Sys2Proof
end

