-- ==== Sys2Proof/Machine/TypesOz.lean ====
section
/-!
DEFINITION. Plain data of the Ozaux link and the redundant pair (12 R382 to R404).
-/
namespace Sys2Proof

/-- R385: the messages. `tau` and `ns` are nanoseconds, `turn` 0.25 ns units, `podOk` one bit per pod not in FAIL. -/
inductive OzMsg where
  | trig (id hops origId age ns sec : Nat)
  | heartbeat (tick podOk : Nat) (test holds : Bool) (role : Nat)
  | state (digest tau : Nat)
  | time (ns sec qual : Nat)
  | pubseq (cb stNum : Nat)
  | image (digest : Nat)
  | dlyReq (word : Nat)
  | dlyResp (turn : Nat)
  | ack (lseq : Nat)
  | nak (lseq : Nat)
  deriving DecidableEq, Repr

/-- R384: a frame; control frames carry no LSEQ (0 here). -/
structure OzFrame where
  lseq : Nat
  msg : OzMsg
  deriving DecidableEq, Repr

/-- R386: a frame of a retried type without its ACK, its retransmissions so far, and when its latest attempt ends. -/
structure OzWait where
  frame : OzFrame
  tries : Nat
  ends : Nat
  deriving DecidableEq, Repr

/-- A link beside its registers: next LSEQ; frames without ACK; the frame last put on the link with the instant its start
comma leaves, and its bytes after that comma (R384); the frames in progress and to follow with the instants of their start commas,
an aborted one put back (R387); LSEQs accepted lately with their instants (R386); the second in which OZ_MSG_LOST was last raised; departure of the open DLY_REQ, accepted delays (0.25 ns, newest
first), whether their mean is above 100 ns, the latest exchange (R389). -/
structure OzLink where
  next : Nat
  waits : List OzWait
  sent : Option (OzFrame × Nat)
  wire : List Nat
  line : List (OzFrame × Nat)
  seen : List (Nat × Nat)
  lostSec : Option Nat
  reqAt : Option Nat
  dlys : List Nat
  far : Bool
  exchAt : Option Nat
  deriving DecidableEq, Repr

/-- R392: a trigger that waits for its delivery: identifier, delivery instant, origin nanoseconds and seconds [7:0], whether
it came from another engine. -/
structure OzTrig where
  id : Nat
  at_ : Nat
  ns : Nat
  sec : Nat
  other : Bool
  deriving DecidableEq, Repr

/-- Links, trigger deliveries and the pair beside their registers: TICK; whether the heartbeat of the fast tick under way is due, and
when (R396); the last good heartbeat's instant; whether one
showed the partner holding; duties to release in the next heartbeat (R397 row 4); the last stNum reported per control block;
own digests with τ_m (ns of its second), newest first; consecutive mismatches; when PAIR_WAIT began (R399); first 8 bytes of
the image's digest. -/
structure OzSt where
  links : List OzLink
  trigs : List OzTrig
  tick : Nat
  hbDue : Option Nat
  hbAt : Option Nat
  hbHeld : Bool
  relNext : Bool
  pubSeq : List (Option Nat)
  digs : List (Nat × Nat)
  mism : Nat
  waitFrom : Option Nat
  imgDig : Nat
  deriving DecidableEq, Repr

end Sys2Proof
end

