-- ==== Sys2Proof/Machine/TypesPrt.lean ====
section
/-!
DEFINITION. Plain data of protection (04 R122 to R169) and of the trip path (05 R170 to R202) that no register shows.
-/
namespace Sys2Proof

/-- R149: the polarising phasor of the last tick with enough voltage, its tracked index and the tracking source then. -/
structure PolMem where
  re : Int
  im : Int
  idx : Nat
  src : Nat
  deriving DecidableEq, Repr

/-- One phase of an instance (R132 to R145): picked up, operated, timer (2^−32 of a sixteenth of a nanosecond),
accumulator (Q2.30), time since a dropout that holds, held evaluations in a row, ticks at or above PU in a row (50P-fast),
direction and polarising memory (67). -/
structure PhaseInt where
  pu : Bool
  op : Bool
  timer : Nat
  acc : Nat
  drop : Option Nat
  hold : Nat
  cnt : Nat
  dir : Nat
  mem : Option PolMem
  deriving DecidableEq, Repr

/-- One instance: its phases; θ of 49 (Q4.28, R150); V1 angles with their tags by tracked index, newest first, and the last
instant with vs ≥ PU (R152); 50BF's time, evaluations with the check false in a row, whether it waits for the check after a reset, the
last check, OP2 (R153); the stamp of its previous evaluation (R133); HELD, BLOCKED, TAG, AUX as last published; the
accepted setting writes, each with the tracked index last swapped when it was accepted (R130). -/
structure InstInt where
  ph : List PhaseInt
  theta : Nat
  v1 : List (Nat × Int × Tag)
  vsAt : Option Nat
  bfTime : Option Nat
  bfFalse : Nat
  bfWait : Bool
  bfCheck : Bool
  op2 : Bool
  lastTau : Nat
  held : Bool
  blocked : Bool
  tag : Tag
  setReq : List (Nat × Nat × Nat)
  deriving DecidableEq, Repr

/-- R162: what the surge unit has found when its search window closes: inception (s, ns), phases (bits), direction, distance. -/
structure IseRes where
  sec : Nat
  ns : Nat
  ph : Nat
  dir : Nat
  dist : Option Nat
  deriving DecidableEq, Repr

/-- The surge element of a bay (R159 to R163): the strobe, phase and Nc of the inception whose window is open, and whether
an input was OVERRANGE; the strobe of the last inception and its Nc; the instant the last forward surge was reported; a result
that waits for the pod's next fast tick. -/
structure IseInt where
  inc : Option (Nat × Nat × Nat)
  ovr : Bool
  last : Option (Nat × Nat)
  fwdAt : Option Nat
  res : Option IseRes
  deriving DecidableEq, Repr

/-- A bay beside its registers: an accepted group change and the tracked index last swapped at its acceptance (R129); when
the breaker input came to report open, when cold load ends and its multiplier (R155); the surge element. -/
structure BayInt where
  grpReq : Option (Nat × Nat)
  openAt : Option Nat
  coldEnd : Option Nat
  clpf : Nat
  ise : IseInt
  deriving DecidableEq, Repr

/-- One phase of a busbar zone (R156): picked up, operated, consecutive ticks of pickup, held ticks, and for how long its Id has
stood at or above IDALM, if it does (R158). -/
structure ZonePh where
  pu : Bool
  op : Bool
  cnt : Nat
  hold : Nat
  alm : Option Nat
  deriving DecidableEq, Repr

/-- A busbar zone beside its registers: phases, the first tracked index after its blanking (R157), the stamp of its previous
evaluation. -/
structure ZoneInt where
  ph : List ZonePh
  blank : Nat
  lastTau : Nat
  deriving DecidableEq, Repr

/-- A pod's slow list (R173, R176): the index of the list last started or given up (none before the first), when the list in
progress ends, with its length in pod cycles, and the entries not yet evaluated, each with the instant its slot ends. -/
structure SlowPod where
  idx : Option Nat
  endAt : Option Nat
  cycles : Nat
  left : List (Nat × Nat)
  deriving DecidableEq, Repr

/-- Protection beside its registers: instances, bays, zones, curve tables (R144), slow lists and their order per pod (an
instance, or 512 + z for a busbar zone). -/
structure PrtSt where
  insts : Store InstInt
  bays : List BayInt
  zones : List ZoneInt
  curves : Store (List Nat)
  slow : List SlowPod
  order : List (List Nat)
  deriving DecidableEq, Repr

/-- Three copies of a pod's ARM and FIRE words (R180). -/
structure PodWords where
  arm : List Nat
  fire : List Nat
  deriving DecidableEq, Repr

/-- A binary input beside its registers (R191 to R193): the level at its ball, the sampled raw state, the strobe of the
first sample of the present run. -/
structure BioInt where
  level : Bool
  raw : Bool
  runFrom : Nat
  deriving DecidableEq, Repr

/-- The trip island beside its registers: words released and not yet committed, words last used, commits missing and
present in a row per pod (R185); logic outputs as they act (256 bits, R181), as the program has them, those of the last
commit (R183); pods whose missing commits count as a failure; per output the instant of its FIRE assertion under row 7 and
whether it is asserted under row 7; trip resets received; outputs forced (R22); states driven before the last commit and
its instant, the last commit before which words of four commits were not present (R189), ball levels, the grids of R186 and R189 and
WDOG_OK; the debounced states as read at the last fast tick, and the BIN frame of the last commit behind its strobe (R244). -/
structure TrpSt where
  rel : List (Option PodWords)
  last : List (Nat × Nat)
  miss : List Nat
  present : List Nat
  lo : Nat
  loAtCommit : Nat
  missFail : List Bool
  firedAt : List (Option Nat)
  firing : Nat
  resets : Nat
  forced : Nat
  prevArm : Nat
  prevFire : Nat
  commitAt : Nat
  fullAt : Nat
  lvlArm : Nat
  lvlFire : Nat
  grid0 : Nat
  wdLevel : Bool
  binF : Nat
  frame : List Nat
  bio : List BioInt
  deriving DecidableEq, Repr

end Sys2Proof
end

