-- ==== Sys2Proof/Machine/TypesRec.lean ====
section
/-!
DEFINITION. Plain data of the recorder (07 R243 to R276).
-/
namespace Sys2Proof

/-- R243: a row: its index, its instant in strobe time (2^−32 of a sixteenth of a nanosecond) and in the sampling time
(2^−16 ns), its bytes. -/
structure RecRow where
  idx : Nat
  tau : Int
  lab : Int
  bytes : List Nat
  deriving DecidableEq, Repr

/-- A segment in record memory: rows of RAW, STD, TRK, PHS and BIN, newest first; the header once written (R265); class
streams and channels at the close; the acceptance instant. -/
structure RecSeg where
  rows : List (List RecRow)
  header : List Nat
  streams : Nat
  chans : Nat
  binSel : Nat
  acc : Nat
  deriving DecidableEq, Repr

/-- R261: a trigger on its way to Tephra: kind, index, rising, trigger time in both times, the class it is for alone. -/
structure RecTrig where
  kind : Nat
  index : Nat
  rising : Bool
  tau : Int
  lab : Int
  cls : Option Nat
  deriving DecidableEq, Repr

/-- A record in POST: segment, primary entry (word and number), trigger time, time base, quality, TAI − UTC and f_est at
acceptance, SEQ, counts in force, trims, additional triggers listed and counted, a mask violation among the triggers, a row
dropped, the acceptance instant. -/
structure RecOpen where
  seg : Nat
  word : Nat
  entry : Nat
  tau : Int
  lab : Int
  tb : Nat
  qual : Nat
  utc : Nat
  fest : Nat
  seq : Nat
  pre : Nat
  post : Nat
  skew : List Nat
  adds : List (Nat × Nat)
  nadd : Nat
  mask : Bool
  drop : Bool
  acc : Nat
  deriving DecidableEq, Repr

/-- A class beside its registers: ring segment, parallel ring, record in POST, a DISARM that waits for its end, counts in
force (R252), mask run counts with the instants of their first violations (R263). -/
structure RecClass where
  ring : Option Nat
  next : Option Nat
  open_ : Option RecOpen
  disarm : Bool
  pre : Nat
  post : Nat
  runs : Store (Nat × Int)
  deriving DecidableEq, Repr

/-- The recorder beside its registers: classes, record memory, triggers not yet arrived, segments whose index entry is not
yet COMPLETE (with SEQ, truncation), strobes at which TRIG_OUT pulses end (R262), the window's segment, whether classes have armed at RUN; the memory slot table: the
class of each slot, 8 none (R268). -/
structure RecSt where
  classes : List RecClass
  segs : Store RecSeg
  offered : List RecTrig
  done : List (Nat × Nat × Nat × Bool)
  touts : List (Option Nat)
  wsel : Option Nat
  armed : Bool
  slots : List Nat
  deriving DecidableEq, Repr

end Sys2Proof
end

