-- ==== Sys2Proof/Machine/State.lean ====
section
/-!
DEFINITION. The state of the block: every register (one register file keyed by address, whose unlisted words read as at
reset), everything the spec gives the engine beside its registers, block by block, and the queue of waiting commands.
-/
namespace Sys2Proof.Machine

/-- Reasons a step stops with a fault. Nothing of this block stops it (INVENTORY.md, Faults): no command raises one. -/
inductive Fault where
  /-- Raised by no command. Safe: the machine never stops here. -/
  | never
  deriving DecidableEq, Repr

/-- Reasons a step has no meaning. -/
inductive Refusal where
  /-- Raised by exec's arm of a command that has no meaning yet, named by its mnemonic. Safe: the machine stops. -/
  | notModelled (mnemonic : String)
  deriving DecidableEq, Repr

/-- The block. -/
structure State where
  /-- The instant of the latest command, in sixteenths of a nanosecond since power-on. -/
  now : Nat
  /-- The commands waiting, first in, first out. -/
  pending : List Instr
  /-- R480: the register file as it stood when the present instant began. -/
  regs0 : Store Word
  /-- The model's own counter of free values (Config). -/
  freeCtr : Nat
  /-- R18: the device mode (MODE of SYS_MODE). -/
  mode : Mode
  /-- R419: MRAM. -/
  mram : MramSt
  /-- R405 to R423, R488: start-up, restarts, captures. -/
  sys : SysSt
  /-- R467 to R471: event queues and log buffer. -/
  evt : EvtSt
  /-- R28 to R60: the analogue island. -/
  ana : AnaSt
  /-- R64 to R72: the auxiliary converter. -/
  aux : AuxSt
  /-- R82 to R121: the filter island. -/
  flt : FltSt
  /-- R334 to R357: the time bases. -/
  tim : TimSt
  /-- R358 to R362: the switch. -/
  net : NetSt
  /-- R122 to R169: protection. -/
  prt : PrtSt
  /-- R170 to R202: the trip island. -/
  trp : TrpSt
  /-- R203 to R242: the pods and debug. -/
  pod : PodSt
  /-- R277 to R333: the scheme logic. -/
  lgc : LgcSt
  /-- R366 to R381: GOOSE and sampled values. -/
  gsv : GsvSt
  /-- R243 to R276: the recorder. -/
  tph : RecSt
  /-- R382 to R404: Ozaux and the redundant pair. -/
  oz : OzSt
  /-- R426 to R444: Caldera. -/
  sec : SecSt
  /-- R445 to R461: the command set. -/
  cmd : CmdSt
  /-- The register file: the words that differ from their value at reset, by byte address (R478). -/
  regs : Store Word
  deriving DecidableEq, Repr

/-- A load report as manufactured: zeros. -/
def resetReport : LoadReport := ⟨0, 0, 0, 0, 0, 0, 0⟩

/-- MRAM as manufactured: no boot record, no event, no record, counters 0, retain copies without a valid check. -/
def resetMram : MramSt :=
  { boot := ⟨false, 0, 0, 0, 0, 0, 0, 0, 0, resetReport, resetReport⟩
    bootOld := ⟨false, 0, 0, 0, 0, 0, 0, 0, 0, resetReport, resetReport⟩
    eseq := 0, logHead := 0, logWrapped := false, log := [], keyCnt := [0, 0, 0, 0, 0, 0, 0, 0], opCnt := []
    recSeq := 0, recIdx := [], retA := ⟨false, 0, [], [], []⟩, retB := ⟨false, 0, [], [], []⟩, retLast := 0 }

/-- Start-up state while power-on reset is asserted; RP0 at its reset value (R422). -/
def resetSys : SysSt :=
  { por := true, step := 0, trained := false, mapOn := false, straps := ⟨false, false, false, false⟩
    held := false, slot := 0, tried := [], hdrs := [], cand := none, rp0 := 0x0103C000, warm := false, modeReq := none
    refPresent := true, policy := none, restart := none, excursions := [], readBuf := [], caps := [none, none]
    elevated := false, flashFast := true, safeAtStart := false, prevSafe := 0, ballMap := 0, ran := false
    tap := .bypass, overruns := List.replicate 11 0, bsr := 0, cells := 0, monAt := none }

/-- Caldera as manufactured: no key, no hash. -/
def resetSec : SecSt :=
  { keys := List.replicate 8 ⟨0, []⟩, otp := [⟨0, 0⟩, ⟨0, 0⟩], trngOk := false, fails := [[], []], limit := [none, none]
    cache := List.replicate 8 none }

/-- A channel after reset. -/
def resetChan : ChanInt := ⟨0, 0, 0, []⟩

/-- A slice group after reset. -/
def resetGroup : GroupInt := ⟨0, 0, 0, 0, false, none, 0, 0, none, none, none, none, 0, 0, none, 0⟩

/-- A time base after reset: UNSET, not yet running. -/
def resetTb : TbInt :=
  { run := false, refT := 0, sec := 0, ns := 0, sub := 0, integ := 0, inLock := 0, outLock := 0, within := 0, hist := []
    e0 := 0, e0T := 0, lastOfs := 0, srcTqc := 0, lastUpd := none, foreign := [], gm := none, gmPort := 0, syncIv := 0
    syncAt := [], fuWait := none, stepAt := none, badFrames := 0, irigAt := none, srcSec := none, edgeAt := none
    ppsDisc := 0, setSec := none, setTime := none, txSeq := 0
    leapPend := false, leapDir := false, gmAt := 0, txLast := none, utc := none }

/-- A port after reset. -/
def resetPort : PortInt := ⟨none, none, 0, none, none, none, none, [], 0⟩

/-- A filter channel after reset: empty histories, nothing produced. -/
def resetFltChan : FltChan :=
  { x := [], y1 := [], y2 := [], q2 := 0, last1 := none, last2 := none, trim := 0, trimReq := false, trimT := false, trimF := false
    tNext := 0, hist := [], acc := [], clean := none, fixK := none, fix := ⟨0, .settling⟩ }

/-- A chain group after reset. -/
def resetFltGroup : FltGroup := ⟨false, false, false, [], [], 0, [⟨[], [], 0⟩, ⟨[], [], 0⟩]⟩

/-- A half of the phasor table after reset: no entry (every entry 0 tagged SETTLING). -/
def resetHalf : PhHalf := ⟨0, 0, 0, 838860800, 838860800, 0, 0, []⟩

/-- The filter island after reset: f_trk = f_tgt = 50 Hz. -/
def resetFlt : FltSt :=
  { chans := List.replicate 128 resetFltChan, groups := List.replicate 8 resetFltGroup
    banks := List.replicate 48 ⟨[], [], false⟩, pend := [], geyNew := List.replicate 48 ⟨0, .settling⟩
    geyRead := List.replicate 48 ⟨0, .settling⟩, geyK := 0, nc := 20480, m := 0, tau := 0, taus := [], fTgt := 838860800
    srcV := ⟨0, 0, false, true, 0⟩, srcI := ⟨0, 0, false, true, 0⟩, tauCyc := 0, fHist := [], cur := resetHalf, prev := resetHalf
    strobeT := 0, iseChans := [], vrate := List.replicate 64 4800, vsmp := List.replicate 64 [] }

/-- A phase dropped. -/
def resetPhase : PhaseInt := ⟨false, false, 0, 0, none, 0, 0, 3, none⟩

/-- An instance dropped. -/
def resetInst : InstInt :=
  { ph := [resetPhase, resetPhase, resetPhase], theta := 0, v1 := [], vsAt := none, bfTime := none, bfFalse := 0
    bfWait := false, bfCheck := false, op2 := false, lastTau := 0, held := false, blocked := false, tag := .settling
    setReq := [] }

/-- A bay after reset. -/
def resetBay : BayInt := ⟨none, none, none, 8192, ⟨none, false, none, none, none⟩⟩

/-- A zone phase dropped. -/
def resetZonePh : ZonePh := ⟨false, false, 0, 0, none⟩

/-- A zone after reset. -/
def resetZone : ZoneInt := ⟨List.replicate 3 resetZonePh, 0, 0⟩

/-- A pod's slow list after reset. -/
def resetSlow : SlowPod := ⟨none, none, 0, []⟩

/-- A binary input after reset. -/
def resetBio : BioInt := ⟨false, false, 0⟩

/-- The trip island after reset: every ball static low. -/
def resetTrp : TrpSt :=
  { rel := [none, none], last := [(0, 0), (0, 0)], miss := [0, 0], present := [0, 0], lo := 0, loAtCommit := 0
    missFail := [false, false], firedAt := List.replicate 32 none, firing := 0, resets := 0, forced := 0, prevArm := 0
    prevFire := 0, commitAt := 0, fullAt := 0, lvlArm := 0, lvlFire := 0, grid0 := 0, wdLevel := false, binF := 0, frame := []
    bio := List.replicate 64 resetBio }

/-- A pod after reset: stopped. -/
def resetPod : PodInt := ⟨none, [[], [], []], [], false, [], 0, [none, none, none, none], 0, false, none, 0⟩

/-- A program that is not there. -/
def resetImg : ProgImg := ⟨[], 0, [], 1000, false, 0, 2000, 0, []⟩

/-- A block's internal state at its default. -/
def resetBlk : BlkInt := ⟨false, false, false, false, 0, 0, 0, 0, 0, none⟩

/-- A program of Pod L after reset. -/
def resetProg : ProgSt :=
  { img := resetImg, calls := [], mem := [], ints := [], scan := none, startReq := 0, first := 0, lastWrite := 0
    firstLatch := none, holdNext := false, out := 0, trig := 0, pres := List.replicate 144 (0, false, false)
    initOver := false, wrote := 0, grid := none, gridLast := 0 }

/-- Pod L's logic after reset. -/
def resetLgc : LgcSt :=
  { progs := [resetProg, resetProg], elemRel := [], zoneRel := [0, 0], reqs := [], commit := none, heldLo := 0
    heldSeen := false, joinFrom := none, joinDone := false, joinSkip := false, exch := none, longRun := false, bkrDone := []
    selOpen := [], opOpen := [], retBase := none, exchReq := none, holdReq := false, bank := none }

/-- A control block after reset. -/
def resetGcb : GcbInt := ⟨[], [], 0, none, 0, false, none⟩

/-- A subscription after reset. -/
def resetSub : SubInt := ⟨none, none, false, false, [], false, false, false⟩

/-- A stream after reset. -/
def resetSv : SvInt := ⟨none, 0, 0, false, true, [], false⟩

/-- GOOSE and sampled values after reset: no table loaded. -/
def resetGsv : GsvSt :=
  { gcbs := List.replicate 32 noGcb, gcbInts := List.replicate 32 resetGcb
    gsubs := List.replicate 128 ⟨0, 0, [], 0, 0, []⟩, subs := List.replicate 144 resetSub
    svsubs := List.replicate 16 ⟨0, 0, 0, 0, 0⟩, svInts := List.replicate 16 resetSv, svOut := List.replicate 8 []
    svLast := List.replicate 8 none, svpubs := List.replicate 8 noFrameHdr }

/-- A link after reset: DOWN. -/
def resetLink : OzLink := ⟨0, [], none, [], [], [], none, none, [], false, none⟩

/-- Ozaux after reset. -/
def resetOz : OzSt :=
  { links := [resetLink, resetLink], trigs := [], tick := 0, hbDue := none, hbAt := none, hbHeld := false, relNext := false
    pubSeq := List.replicate 32 none, digs := [], mism := 0, waitFrom := none, imgDig := 0 }

/-- A class after reset: DISARMED, POST 1. -/
def resetClass : RecClass := ⟨none, none, none, false, 0, 1, []⟩

/-- The recorder after reset: record memory empty. -/
def resetRec : RecSt := ⟨List.replicate 8 resetClass, [], [], [], [none, none], none, false, []⟩

/-- A segment with nothing written. -/
def resetSeg : RecSeg := ⟨[[], [], [], [], []], [], 0, 0, 0, 0⟩

/-- An index entry as manufactured: FREE. -/
def resetIdx : RecIdxEntry := ⟨0, 0, false, false, 0, 0, 0, 0⟩

/-- The machine right after reset: power-on reset asserted, every register at its value at reset, no command waiting. -/
def State.reset : State :=
  { now := 0
    pending := []
    regs0 := []
    freeCtr := 0
    mode := .boot
    regs := []
    mram := resetMram
    sys := resetSys
    evt := ⟨[], [], [], [], false, false, none, (0, [])⟩
    ana := ⟨0, List.replicate 64 resetChan, List.replicate 8 resetGroup, []⟩
    aux := ⟨[], false, false, false, 0, 0, [], none⟩
    flt := resetFlt
    tim := ⟨List.replicate 4 resetTb, false, 0, none, 0, 0, false, none, 0⟩
    net := ⟨List.replicate 3 resetPort, [], [], none, 0, none, none, 0⟩
    prt := ⟨[], List.replicate 12 resetBay, [resetZone, resetZone], [], [resetSlow, resetSlow], [[], []]⟩
    trp := resetTrp
    pod := ⟨[resetPod, resetPod, resetPod], ⟨0, false, 0, []⟩⟩
    lgc := resetLgc
    gsv := resetGsv
    tph := resetRec
    oz := resetOz
    sec := resetSec
    cmd := ⟨[], [], none, none, none, none, 0⟩ }

end Sys2Proof.Machine
end

