-- ==== Sys2Proof/Machine/Ops.lean ====
section
/-!
DEFINITION. The operations every block shares: the clock of the model, the register file, the time bases' present value,
raising an event (R462 to R471), and the checks and record of a host access (R426 to R432, R481 to R484).
-/
namespace Sys2Proof.Machine

/-! ### The register file -/

/-- The family and indices an address belongs to, if any (R483: otherwise it is reserved). -/
def famAt (a : Nat) : List RegFam → Option (RegFam × Nat × Nat)
  | [] => none
  | f :: fs =>
    let d := a - f.base
    let i := if f.n1 ≤ 1 then 0 else d / f.s1
    let r := if f.n1 ≤ 1 then d else d % f.s1
    let j := if f.n2 ≤ 1 then 0 else r / f.s2
    if f.base ≤ a ∧ i < f.n1 ∧ j < f.n2 ∧ a = f.base + i * f.s1 + j * f.s2 then some (f, i, j) else famAt a fs

/-- The register at a word address: its family and its indices. -/
def regAt (a : Nat) : Option (RegFam × Nat × Nat) := famAt a (regFamsOf a)

/-- R164, R165: word `j` of an instance's settings at reset and, omitted, at image load: HOLD_LIM 2, DOR 0.95, no curve. -/
def setWordRst (j : Nat) : Nat :=
  if j = 0 then 2 * 131072 else if j = 4 || j = 11 || j = 18 || j = 25 then 0x3CCD + 0xFFF * 262144 else 0

/-- What the register at `a` holds at reset. -/
def rstWord (a : Nat) : Word :=
  match regAt a with
  | some (f, _, j) => BitVec.ofNat 32 (if f.name = .PRT_SET then setWordRst j else f.rst)
  | none => 0

/-- The word of a register. -/
def State.rd (s : State) (a : Nat) : Word := Store.get (rstWord a) s.regs a

/-- Put a word into a register. -/
def State.wr (s : State) (a : Nat) (w : Word) : State := { s with regs := Store.set (rstWord a) s.regs a w }

/-- The value of a register field. -/
def State.getF (s : State) (f : Field) : Nat := getBits (s.rd f.addr) f.lo f.width

/-- Set a register field to (the low bits of) `v`. -/
def State.setF (s : State) (f : Field) (v : Nat) : State := s.wr f.addr (setBits (s.rd f.addr) f.lo f.width v)

/-- A one-bit field read as a truth value. -/
def State.flag (s : State) (f : Field) : Bool := s.getF f == 1

/-- Set a one-bit field. -/
def State.setFlag (s : State) (f : Field) (b : Bool) : State := s.setF f (b2n b)

/-- A field read as two's complement. -/
def State.getI (s : State) (f : Field) : Int := sext f.width (s.getF f)

/-- Set a field to the two's-complement pattern of `v`. -/
def State.setI (s : State) (f : Field) (v : Int) : State := s.setF f (tcBits f.width v)

/-- Add 1 to a counter that saturates at its width. -/
def State.incSat (s : State) (f : Field) : State := s.setF f (satInc (2 ^ f.width - 1) (s.getF f))

/-- Add `n` to a counter that saturates at its width. -/
def State.addSat (s : State) (f : Field) (n : Nat) : State := s.setF f (satAt (2 ^ f.width - 1) (s.getF f + n))

/-- Add 1 to a counter that wraps. -/
def State.incWrap (s : State) (f : Field) : State := s.setF f (s.getF f + 1)

/-- Listed data in canonical form: an address listed twice counts once, by its first entry. -/
def Store.canon {α : Type} [DecidableEq α] (d : α) (m : Store α) : Store α := m.foldr (fun e m => Store.set d m e.1 e.2) []

/-- A program's code and initial bytes in canonical form. -/
def progCanon (g : ProgImg) : ProgImg := { g with code := Store.canon 0 g.code, init := Store.canon 0 g.init }

/-! ### The clock of the model and free values -/

/-- The instant of a command: the clock of the model never runs backwards. -/
def State.at (s : State) (t : Nat) : State :=
  { s with now := if s.now ≤ t then t else s.now, regs0 := if s.now < t then s.regs else s.regs0 }

/-- One strobe period, 1 / 1.024 MHz, in sixteenths of a nanosecond (R9). -/
def strobeU : Nat := 15625

/-- One fast tick, 15.625 µs. -/
def fastU : Nat := 250000

/-- One microsecond. -/
def usU : Nat := 16000

/-- One millisecond. -/
def msU : Nat := 16000000

/-- One second. -/
def secU : Nat := 16000000000

/-- Take the next free value's number. -/
def State.bumpFree (s : State) : State := { s with freeCtr := s.freeCtr + 1 }

/-! ### Time bases: present value (R334) -/

/-- 2^−16 ns in one second. -/
def subPerSec : Int := 65536000000000

/-- A time base's value at an instant, in 2^−16 ns: counted from where it was last set, at the 100 MHz reference's rate
corrected by the frequency adjustment (0.001 ppb). -/
def tbValue (b : TbInt) (adj : Int) (t : Nat) : Int :=
  let base : Int := (((b.sec * 1000000000 + b.ns) * 65536 + b.sub : Nat) : Int)
  if b.run then base + ((t : Int) - (b.refT : Int)) * 4096 * (1000000000000 + adj) / 1000000000000 else base

/-- Seconds, nanoseconds and 2^−16 ns of a value. -/
def splitTime (x : Int) : Nat × Nat × Nat :=
  let n := x.toNat
  (n / 65536000000000 % 281474976710656, n / 65536 % 1000000000, n % 65536)

/-- A time base of the state (a stopped one beyond the four). -/
def State.tb (s : State) (b : Nat) : TbInt := lget resetTb s.tim.bases b

/-- The value of time base `b` at instant `t`, in 2^−16 ns. -/
def State.tbAt (s : State) (b t : Nat) : Int := tbValue (s.tb b) (s.getI (TIM_FADJ_FADJ b)) t

/-- R345, R347: the time base whose time the sampling time is: SAMP_TB, or ACT in compatibility mode. -/
def State.sampTb (s : State) : Nat :=
  if s.flag TIM_SAMP_COMPAT then s.getF TIM_SAMP_ACT else s.getF TIM_SAMP_SAMP_TB

/-- R348: CARRY at an instant, in 2^−16 ns: held, or slewed to 0 by a free amount within 100 ppm of the time passed. -/
def State.carryAt (s : State) (t : Nat) : Int :=
  let c := s.tim.carry
  if s.tim.carrySlew then
    let el := t - s.tim.carryT
    let lim := el * 4096 / 10000
    let d := Nat.min (Nat.min (Config.carrySlewed c el) lim) (absN c)
    if 0 ≤ c then c - (d : Int) else c + (d : Int)
  else c

/-- R345, R347: the sampling time at an instant, in 2^−16 ns. -/
def State.sampAt (s : State) (t : Nat) : Int :=
  if s.flag TIM_SAMP_COMPAT then s.tbAt s.sampTb t + s.carryAt t else s.tbAt s.sampTb t

/-- R348: is CARRY held, so that TB0 is reported STEP_HELD with TIM_PEND −CARRY until TIME_ACCEPT_STEP (log 105)? -/
def State.carryHeld (s : State) (b : Nat) : Bool := s.flag TIM_SAMP_COMPAT && b = 0 && s.tim.carry != 0 && !s.tim.carrySlew

/-- R337, R348: the QUAL of the sampling time: that of its time base, or while CARRY is held the STEP_HELD that TIM_STAT[0] reports. -/
def State.sampQual (s : State) : Nat := s.getF (TIM_STAT_QUAL (if s.carryHeld 0 then 0 else s.sampTb))

/-! ### Events (R462 to R471) -/

/-- R462: severity of a source: 0 I, 1 W, 2 F. -/
def evtSev (src : Nat) : Nat :=
  if [0, 5, 7, 8, 17, 18, 19, 21, 22, 32, 41, 42, 56, 57, 61, 63, 65, 66, 73, 74, 75, 89, 90, 93, 96, 97, 98, 99, 105, 106,
      107, 112, 116, 122, 125, 127].contains src then 1
  else if [1, 2, 4, 6, 16, 20, 35, 44, 45, 46, 47, 59, 68, 77, 108, 117, 118, 120, 121, 123, 124].contains src then 2
  else 0

/-- R468: sources that are never coalesced. -/
def evtNoCoalesce (src : Nat) : Bool := [2, 4, 6, 46, 59, 117, 120, 121, 123, 127].contains src

/-- R465: is a source secure under the map in force? -/
def State.srcSecure (s : State) (src : Nat) : Bool :=
  (112 ≤ src && src ≤ 118) || bitN (s.getF (SEC_WMAP_MAP (3 + src / 32))) (src % 32)

/-- R466: the entry a raise gives, with its sequence number. -/
def State.mkEntry (s : State) (e : EvtRaise) : EvtEntry :=
  let st := s.getF (TIM_STAT_STATE s.sampTb)
  let tm := splitTime (s.sampAt s.now)
  if s.sys.mapOn then
    { eseq := (s.mram.eseq + 1) % 4294967296, src := e.src, sev := evtSev e.src, prestart := false
      notime := st == 0 || st == 5, dropped := false, inst := e.inst % 65536, sec := tm.1
      qual := s.sampQual, tb := s.sampTb, ns := tm.2.1, idx := s.getF TIM_IDX_IDX
      data := e.data % 4294967296, rep := 0 }
  else
    { eseq := (s.mram.eseq + 1) % 4294967296, src := e.src, sev := evtSev e.src, prestart := true, notime := true
      dropped := false, inst := e.inst % 65536, sec := 0, qual := 0x3F, tb := 0, ns := 0, idx := 0
      data := e.data % 4294967296, rep := 0 }

/-- R471: an entry reaches the log's write buffer of 64, or is lost and marks the next. -/
def State.logPush (s : State) (e : EvtEntry) : State :=
  if s.evt.logBuf.length < 64 then
    { s with evt := { s.evt with logBuf := s.evt.logBuf ++ [{ e with dropped := s.evt.logDropNext }], logDropNext := false } }
  else { s.incSat EVT_LOG_LOGDROP with evt := { s.evt with logDropNext := true } }

/-- R471: an entry is written into the ring at the head. -/
def State.logPut (s : State) (e : EvtEntry) : State :=
  let h := s.mram.logHead
  { s with mram := { s.mram with
      log := Store.put e s.mram.log h, logHead := (h + 1) % 4096, logWrapped := s.mram.logWrapped || h = 4095 } }

/-- R471: the log writer has written what the buffer holds. -/
def State.logFlush (s : State) : State := s.evt.logBuf.foldl State.logPut s

/-- A queue of the state: 0 non-secure, 1 secure. -/
def State.queue (s : State) (q : Nat) : List EvtEntry := if q = 0 then s.evt.q0 else s.evt.q1

/-- Replace a queue. -/
def State.setQueue (s : State) (q : Nat) (l : List EvtEntry) : State :=
  if q = 0 then { s with evt := { s.evt with q0 := l } } else { s with evt := { s.evt with q1 := l } }

/-- R477: a source's EVT_SEEN bit. -/
def State.seen (s : State) (src : Nat) : State :=
  s.setF (EVT_SEEN_SEEN (src / 32)) (setBitN (s.getF (EVT_SEEN_SEEN (src / 32))) (src % 32) true)

/-- R467: put an entry into queue `q`: the 4,096th place goes to EVT_QUEUE_OVF, a full queue discards. -/
def State.enqueue (s : State) (q : Nat) (e : EvtEntry) : State :=
  let n := (s.queue q).length
  if n < 4095 then s.setQueue q (s.queue q ++ [e])
  else if n = 4095 then
    let o := s.mkEntry ⟨127, q, 0⟩
    let s := ({ s with mram := { s.mram with eseq := o.eseq } }.seen 127).logPush o
    ((s.setQueue q (s.queue q ++ [o])).incSat (EVT_QCNT_DROP q)).setFlag (EVT_QSTAT_OVF q) true
  else s.incSat (EVT_QCNT_DROP q)

/-- R467: is a source queued at all? -/
def State.evtEnabled (s : State) (src : Nat) : Bool := bitN (s.getF (EVT_EN_EN (src / 32))) (src % 32)

/-- R468: one more occurrence of a standing entry. -/
def bumpRep (n : Nat) (es : List EvtEntry) : List EvtEntry :=
  es.map (fun e => if e.eseq = n then { e with rep := satInc 0xFFFF e.rep } else e)

/-- R468: the log entry with sequence number `n` takes the same increment, in the buffer or in the ring. -/
def State.logBump (s : State) (n : Nat) : State :=
  { s with
    evt := { s.evt with logBuf := bumpRep n s.evt.logBuf }
    mram := { s.mram with
      log := s.mram.log.map (fun p => if p.2.eseq = n then (p.1, { p.2 with rep := satInc 0xFFFF p.2.rep }) else p) } }

/-- R467: an entry with number `e` takes `k` places before; those it passes take one place after. -/
def reSeq (e k n : Nat) : Nat :=
  if n = e then (e + 4294967296 - k) % 4294967296
  else if (e + 4294967296 - n) % 4294967296 ≤ k then (n + 1) % 4294967296 else n

/-- R467: a list of entries whose last one, `e`, goes before the `k` that precede it. -/
def reOrder (e k : Nat) (l : List EvtEntry) : List EvtEntry :=
  let l := l.map (fun x => { x with eseq := reSeq e k x.eseq })
  let at_ := (e + 4294967296 - k) % 4294967296
  let rest := l.filter (fun x => x.eseq != at_)
  let early (x : EvtEntry) : Bool := k < (x.eseq + 4294967296 - at_) % 4294967296
  rest.takeWhile early ++ l.filter (fun x => x.eseq = at_) ++ rest.dropWhile early

/-- R467: entries of one Service-core cycle, here of one instant (log 134), stand in the order of their source numbers: `s` has
just taken the entry of source `src`, ESEQ having stood at `e0`. -/
def State.orderCycle (s : State) (e0 src : Nat) : State :=
  if s.mram.eseq = e0 then s
  else
    let prior := if s.evt.cyc.1 = s.now then s.evt.cyc.2 else []
    let k := (prior.filter (fun x => decide (src < x))).length
    let e := (e0 + 1) % 4294967296
    let ovf := if s.mram.eseq = e then [] else [127]
    let f (l : List EvtEntry) : List EvtEntry := if k = 0 then l else reOrder e k l
    { s with evt := { s.evt with
        pre := f s.evt.pre, q0 := f s.evt.q0, q1 := f s.evt.q1, logBuf := f s.evt.logBuf
        cyc := (s.now, prior.filter (fun x => decide (x ≤ src)) ++ src :: prior.filter (fun x => decide (src < x)) ++ ovf) } }

/-- R462 to R471: add an event's entry, or count one more occurrence. -/
def State.addEvent (s : State) (src inst data : Nat) : State :=
  let s := s.seen src
  let q := if s.srcSecure src then 1 else 0
  let e := s.mkEntry ⟨src, inst, data⟩
  let add := { s with mram := { s.mram with eseq := e.eseq } }.logPush e
  if s.sys.mapOn then
    match (s.queue q).find? (fun x => x.src = src && x.inst = inst % 65536) with
    | some x =>
      if evtNoCoalesce src then (if s.evtEnabled src then add.enqueue q e else add)
      else ((s.setQueue q (bumpRep x.eseq (s.queue q))).logBump x.eseq).incSat (EVT_QCNT_COALESCED q)
    | none => if s.evtEnabled src then add.enqueue q e else add
  else { add with evt := { add.evt with pre := add.evt.pre ++ [e] } }

/-- R462 to R471: raise an event. -/
def State.raise (s : State) (src inst data : Nat) : State := (s.addEvent src inst data).orderCycle s.mram.eseq src

/-- R464, R465: at step 8 the entries raised before it enter the queues of the map then loaded. -/
def State.queuePre (s : State) : State :=
  let es := s.evt.pre
  es.foldl (fun s e => if s.evtEnabled e.src then s.enqueue (if s.srcSecure e.src then 1 else 0) e else s)
    { s with evt := { s.evt with pre := [] } }

/-! ### Host accesses -/

/-- R479: the number of a requester. -/
def reqIdx : Requester → Nat
  | .xspi => 0
  | .portC => 1

/-- R8: the code of a status. -/
def stCode : Status → Nat
  | .ok => 0x00 | .lenRange => 0x01 | .valueRange => 0x02 | .unknownOpcode => 0x03 | .worldDenied => 0x04
  | .authFail => 0x05 | .counterStale => 0x06 | .notInTest => 0x07 | .chainRunning => 0x08 | .resourceBusy => 0x09
  | .selectRequired => 0x0A | .selectExpired => 0x0B | .bankInvalid => 0x0C | .imageInvalid => 0x0D
  | .loadConflict => 0x0E | .busyRecovery => 0x0F | .notSupported => 0x10 | .stateDenied => 0x11

/-- R426: is a requester secure under the map in force, or by the command it acts for? -/
def State.reqSecure (s : State) (r : Requester) : Bool :=
  s.sys.elevated || match r with
  | .xspi => bitN (s.getF (SEC_WMAP_MAP 7)) 0
  | .portC => bitN (s.getF (SEC_WMAP_MAP 7)) 1

/-- R477: the registers of queue 1. -/
def queue1At (a : Nat) : Bool :=
  let x := a / 4 * 4
  x = EVT_QSTAT 1 || x = EVT_QCNT 1 || x = EVT_QACK 1 || (EVT_QDATA 1 0 ≤ x && x ≤ EVT_QDATA 1 7)

/-- R427, R477, R478: is an address below 0x0020_0000 secure: by its window, or as a register of queue 1? -/
def State.winSecure (s : State) (a : Nat) : Bool :=
  let w := a / 0x8000
  queue1At a || bitN (s.getF (SEC_WMAP_MAP (w / 32))) (w % 32)

/-- R427: is a 64 MiB region of record memory secure? -/
def State.regionSecure (s : State) (byte : Nat) : Bool := bitN (s.getF (SEC_WMAP_MAP 2)) (byte / 0x4000000 % 32)

/-- R431: record a denied access. -/
def State.deny (s : State) (r : Requester) (a : Nat) (wr : Bool) : State :=
  let s := (((s.setF SEC_DENY_ADDR a).setF SEC_DENYINF_REQ (reqIdx r)).setFlag SEC_DENYINF_WR wr).incSat SEC_DENYINF_DCNT
  if s.flag SEC_STAT_DENY_SEEN then s else (s.setFlag SEC_STAT_DENY_SEEN true).raise 112 (reqIdx r) a

/-- R482: record the outcome of a write. -/
def State.recordWrite (s : State) (r : Requester) (a : Nat) (st : Status) : State :=
  let s := s.setF (SYS_ACC_WSTAT (reqIdx r)) (stCode st)
  if st = .ok then s
  else ((s.setFlag (SYS_ACC_REFUSED (reqIdx r)) true).incSat (SYS_ACC_WREF (reqIdx r))).setF (SYS_WADDR_ADDR (reqIdx r)) a

/-- How an access to a register address is judged (R431, R484). -/
inductive Judged where
  | allowed | denied | noMap
  deriving DecidableEq, Repr

/-- R431, R484: judge a requester's access to a register address (below 0x0020_0000) as window of world `sec`. -/
def State.judge (s : State) (r : Requester) (a : Nat) : Judged :=
  if !s.sys.mapOn then (if a / 0x8000 < 4 then .allowed else .noMap)
  else if s.winSecure a && !s.reqSecure r then .denied
  else .allowed

/-- R431, R481, R482, R484: a register write of a requester: judged, its effect taken whole or not at all, its outcome
recorded. `eff` answers the status and the state with the effect; the state is kept only when the status is OK. -/
def State.hostWrite (s : State) (r : Requester) (a : Nat) (eff : State → Status × State) : Status × State :=
  match s.judge r a with
  | .noMap => (.stateDenied, s.recordWrite r a .stateDenied)
  | .denied => (.worldDenied, (s.deny r a true).recordWrite r a .worldDenied)
  | .allowed =>
    match eff s with
    | (.ok, s') => (.ok, s'.recordWrite r a .ok)
    | (st, _) => (st, s.recordWrite r a st)

/-- R431, R484: a register read of a requester: denied or without a map it returns 0. -/
def State.hostRead (s : State) (r : Requester) (a : Nat) (eff : State → Nat × State) : Nat × State :=
  match s.judge r a with
  | .noMap => (0, s)
  | .denied => (0, s.deny r a false)
  | .allowed => eff s

/-- R488: store a quantity in a requester's capture buffer. -/
def State.capture (s : State) (r : Requester) (a : Nat) (ws : List Nat) : State :=
  { s with sys := { s.sys with caps := lset s.sys.caps (reqIdx r) (some ⟨a, ws⟩) } }

/-- R409: an update of the boot record: the copy not written last takes it, with BSEQ one higher. -/
def State.bootUpd (s : State) (f : BootRecord → BootRecord) : State :=
  let b := f s.mram.boot
  { s with mram := { s.mram with
      boot := { b with valid := true, bseq := (s.mram.boot.bseq + 1) % 4294967296 }, bootOld := s.mram.boot } }

/-- R409: the copies read at a start: in force is the one with the higher BSEQ whose CRC verifies. -/
def State.bootRead (s : State) : State :=
  let a := s.mram.boot
  let b := s.mram.bootOld
  if b.valid && (!a.valid || a.bseq < b.bseq) then { s with mram := { s.mram with boot := b, bootOld := a } } else s

/-- R421: is protection running, so that elements are evaluated and outputs follow the matrix (R21)? -/
def State.protecting (s : State) : Bool := s.mode == .run || s.mode == .test

end Sys2Proof.Machine
end

