-- ==== Sys2Proof/Machine/Flags.lean ====
section
/-!
DEFINITION. Sample tags: their codes (R6) and which of several a sample carries (R7).
-/
namespace Sys2Proof.Machine

/-- R6: the code of a tag. -/
def tagCode : Tag → Nat
  | .valid => 0 | .settling => 1 | .substituted => 2 | .refUnsettled => 3
  | .overrange => 4 | .recomputed => 5 | .resync => 6 | .missing => 7

/-- R6: the tag of a code (the engine never produces 0x8–0xF). -/
def tagOf : Nat → Tag
  | 0 => .valid | 1 => .settling | 2 => .substituted | 3 => .refUnsettled
  | 4 => .overrange | 5 => .recomputed | 6 => .resync | _ => .missing

/-- R7: the place of a tag in the order VALID, RECOMPUTED, SUBSTITUTED, RESYNC, REF_UNSETTLED, SETTLING, OVERRANGE,
MISSING. -/
def tagRank : Tag → Nat
  | .valid => 0 | .recomputed => 1 | .substituted => 2 | .resync => 3
  | .refUnsettled => 4 | .settling => 5 | .overrange => 6 | .missing => 7

/-- R7: of two tags, the one later in the order. -/
def tagMax (a b : Tag) : Tag := if tagRank a < tagRank b then b else a

/-- R7: the tag a sample carries that qualifies for each of a list. -/
def tagsMax (l : List Tag) : Tag := l.foldl tagMax .valid

/-- `t` when the condition holds, else VALID. -/
def tagIf (b : Bool) (t : Tag) : Tag := if b then t else .valid

end Sys2Proof.Machine
end

