-- ==== Sys2Proof/Machine/Timing.lean ====
section
/-!
DEFINITION. The time bases (10 R334 to R357): the servo and its states, jump refusal and steps, compatibility mode, PTP,
IRIG-B, 1PPS in and out.
-/
namespace Sys2Proof.Machine

/-- Do the time bases, and the traffic of the engine's own, work (R21: from step 8 of the start, not in SAFE)? -/
def State.timeOn (s : State) : Bool := s.sys.mapOn && s.sys.refPresent && !(s.mode == .safe)

/-- Replace a time base. -/
def State.setTb (s : State) (b : Nat) (x : TbInt) : State :=
  { s with tim := { s.tim with bases := lset s.tim.bases b x } }

/-- R335: the source of a time base. -/
def State.tbSrc (s : State) (b : Nat) : Nat := s.getF (TIM_CFG_SRC b)

/-- R336: the state of a time base. -/
def State.tbState (s : State) (b : Nat) : Nat := s.getF (TIM_STAT_STATE b)

/-- Take the present value as the value the time base was last set at, with `d` (2^−16 ns) added. -/
def State.rebase (s : State) (b : Nat) (d : Int) : State :=
  let v := splitTime (s.tbAt b s.now + d)
  s.setTb b { s.tb b with refT := s.now, sec := v.1, ns := v.2.1, sub := v.2.2 }

/-- STEP_THR in 2^−16 ns. -/
def State.stepThr (s : State) (b : Nat) : Nat := s.getF (TIM_THR_STEP_THR b) * 65536

/-- LOCK_THR in 2^−16 ns. -/
def State.lockThr (s : State) (b : Nat) : Nat := s.getF (TIM_SERVO_LOCK_THR b) * 655360

/-- An offset in ns, rounded half to even, saturated as TIM_OFS and event DATA show it. -/
def nsSat (o : Int) : Int := clampI (-2147483647) 2147483647 (divHalfEven o 65536)

/-! ### Quality (R337, R338) -/

/-- R337: the smallest time-quality code from 0x1 to 0xB whose bound exceeds an error in 2^−16 ns; 0xF from 10 s. -/
def tqcOf (err : Nat) : Nat :=
  match (upto 11).find? (fun n => err < 10 ^ n * 65536) with
  | some n => n + 1
  | none => 0xF

/-- R338: the error bound e(t), in 2^−16 ns, of a time base that holds its frequency. -/
def State.holdErr (s : State) (b : Nat) : Nat :=
  let x := s.tb b
  absN x.e0 + s.getF (TIM_SERVO_HOLD_PPB b) * ((s.now - x.e0T) * 4096) / 1000000000

/-- R338, R393: TQC by the state; from a partner the worse of the carried and the engine's own. -/
def State.tqc (s : State) (b : Nat) : Nat :=
  let x := s.tb b
  let carried (own : Nat) : Nat := if s.tbSrc b = 5 then Nat.max x.srcTqc own else own
  match s.tbState b with
  | 2 => x.srcTqc
  | 1 => carried (tqcOf (absN x.lastOfs))
  | 3 => carried (tqcOf (s.holdErr b))
  | 4 => carried (tqcOf (s.holdErr b))
  | _ => 0xF

/-- R337: the STATE bits of QUAL. -/
def qualState : Nat → Nat
  | 2 => 0 | 1 => 1 | 3 => 1 | 4 => 1 | 5 => 2 | _ => 3

/-- R337: QUAL from the state, TQC and the leap flags. -/
def State.setQual (s : State) (b : Nat) : State :=
  let x := s.tb b
  s.setF (TIM_STAT_QUAL b)
    (s.tqc b + qualState (s.tbState b) * 16 + b2n x.leapPend * 64 + b2n (x.leapPend && x.leapDir) * 128)

/-- R336: enter a state; TIME_LOCKED and TIME_HOLDOVER are raised on entry. -/
def State.tbEnter (s : State) (b st : Nat) : State :=
  let old := s.tbState b
  let s := (s.setF (TIM_STAT_STATE b) st).setTb b { s.tb b with inLock := 0, outLock := 0, within := 0 }
  let s := s.setQual b
  if st = 2 && old != 2 then s.raise 88 b 0
  else if st = 3 && old != 3 then s.raise 89 b 0
  else s

/-! ### Servo (R339 to R344) -/

/-- The adjustments in force in the last 64 s: those set since, and the one before them. -/
def trimHist (from_ : Nat) : List (Nat × Int) → List (Nat × Int)
  | [] => []
  | (t, a) :: rest => if t ≤ from_ then [(t, a)] else (t, a) :: trimHist from_ rest

/-- R339: set the frequency adjustment, limited to ±100 ppm; the value runs on from here at the new rate. -/
def State.setAdj (s : State) (b : Nat) (adj : Int) : State :=
  let a := clampI (-100000000) 100000000 adj
  let s := (s.rebase b 0).setI (TIM_FADJ_FADJ b) a
  s.setTb b { s.tb b with hist := (s.now, a) :: trimHist (s.now - 64 * secU) (s.tb b).hist }

/-- R339: one step of the proportional-integral loop. -/
def State.steer (s : State) (b : Nat) (o : Int) : State :=
  let tc := s.getF (TIM_SERVO_TC b)
  let i := (s.tb b).integ
  let s := s.setAdj b (Config.servoAdj tc i o)
  s.setTb b { s.tb b with integ := Config.servoInteg tc i o }

/-- R340: the frequency adjustment averaged over the last TC seconds: `hist` newest first, each entry in force from its
instant on, 0 before the first; `upto_` the instant up to which the entry before was in force, `from_` where the average begins. -/
def adjIntegral (from_ upto_ : Nat) : List (Nat × Int) → Int × Nat
  | [] => (0, upto_ - from_)
  | (t, a) :: rest =>
    let lo := if t < from_ then from_ else t
    let r := if t ≤ from_ then (0, 0) else adjIntegral from_ t rest
    (a * ((upto_ - lo : Nat) : Int) + r.1, (upto_ - lo) + r.2)

/-- R340: that average. -/
def State.avgAdj (s : State) (b : Nat) : Int :=
  let x := s.tb b
  let r := adjIntegral (s.now - s.getF (TIM_SERVO_TC b) * secU) s.now x.hist
  if r.2 = 0 then s.getI (TIM_FADJ_FADJ b) else divHalfEven r.1 r.2

/-- R338: keep e0 and its instant when the time base leaves LOCKED or ACQUIRING. -/
def State.keepE0 (s : State) (b : Nat) : State :=
  let x := s.tb b
  if s.tbState b = 1 || s.tbState b = 2 then
    s.setTb b { x with e0 := Config.filteredOffset (s.getF (TIM_SERVO_TC b)) x.integ x.lastOfs, e0T := s.now }
  else s

/-- TIM_PEND (64 bits, ns). -/
def State.setPend (s : State) (b : Nat) (ns : Int) : State :=
  let v := tcBits 64 ns
  (s.setF (TIM_PEND_LO_PLO b) v).setF (TIM_PEND_HI_PHI b) (v / 4294967296)

/-- The pending step in ns. -/
def State.pend (s : State) (b : Nat) : Int :=
  sext 64 (s.getF (TIM_PEND_LO_PLO b) + 4294967296 * s.getF (TIM_PEND_HI_PHI b))

/-- R343: a step of `d` (2^−16 ns) on the sampling time leaves its strobe and its amount for the filter chain (R118). -/
def State.markStep (s : State) (b : Nat) (d : Int) : State :=
  if b = s.sampTb then { s with tim := { s.tim with stepStrobe := some s.ana.strobe, stepBy := d } } else s

/-- R342, R343, R344: apply a step of `d` (2^−16 ns): SEC, NS and SUBNS only; a free-running
time base stays FREE. -/
def State.applyStep (s : State) (b : Nat) (d : Int) : State :=
  let s := ((s.rebase b d).markStep b d).setPend b 0
  let s := (s.incSat (TIM_CNT_STEPS b)).setTb b { s.tb b with stepAt := none, setTime := none }
  (s.tbEnter b (if s.tbSrc b = 0 then 5 else 1)).raise 91 b (tcBits 32 (nsSat d))

/-- R341: an offset beyond STEP_THR is refused. -/
def State.refuseJump (s : State) (b : Nat) (o : Int) : State :=
  let ns := divHalfEven o 65536
  if s.tbState b = 4 then (s.setPend b ns).setTb b { s.tb b with within := 0, inLock := 0 }
  else
    let s := ((s.keepE0 b).setPend b ns).setFlag (TIM_STAT_REFUSED b) true
    ((s.incSat (TIM_CNT_REFUSE b)).tbEnter b 4).raise 90 b (tcBits 32 (nsSat o))

/-- R339: count consecutive offsets within and outside LOCK_THR. -/
def State.countLock (s : State) (b : Nat) (o : Int) : State :=
  let x := s.tb b
  s.setTb b (if absN o ≤ s.lockThr b then { x with inLock := satInc 16 x.inLock, outLock := 0 }
    else { x with inLock := 0, outLock := satInc 4 x.outLock })

/-- R339: LOCKED and ACQUIRING by the counts of offsets within and outside LOCK_THR. -/
def State.lockCount (s : State) (b : Nat) (o : Int) : State :=
  let st := s.tbState b
  let s := s.countLock b o
  if 16 ≤ (s.tb b).inLock && st != 2 then s.tbEnter b 2
  else if 4 ≤ (s.tb b).outLock && st = 2 then s.tbEnter b 1
  else s

/-- R339, R341: an offset within STEP_THR in STEP_HELD; the 16th in a row ends it without a step, in LOCKED when all 16 lie within LOCK_THR too. -/
def State.heldOffset (s : State) (b : Nat) (o : Int) : State :=
  let s := s.countLock b o
  let x := s.tb b
  if 16 ≤ x.within + 1 then
    let s := (s.setPend b 0).tbEnter b (if 16 ≤ x.inLock then 2 else 1)
    (s.setTb b { s.tb b with inLock := x.inLock }).steer b o
  else s.setTb b { x with within := x.within + 1 }

/-- R341, R356: is an offset refused: beyond STEP_THR, or a disagreement of whole seconds between IRIG-B frame and edge? -/
def State.jumps (s : State) (b : Nat) (o : Int) : Bool :=
  decide (s.stepThr b < absN o) || (s.tbSrc b = 3 && decide (subPerSec ≤ 2 * (absN o : Int)))

/-- R339 to R344: one update with offset `o` (source time − local time, 2^−16 ns) and the source's own quality code. -/
def State.servoUpdate (s : State) (b : Nat) (o : Int) (srcTqc : Nat) : State :=
  let s := (s.setI (TIM_OFS_OFS b) (nsSat o)).setFlag (TIM_STAT_SRC_OK b) true
  let st := s.tbState b
  let s := s.setTb b { s.tb b with lastUpd := some s.now, srcTqc := srcTqc }
  let s :=
    if st = 0 && s.flag (TIM_CFG_AUTO_FIRST b) then (s.setTb b { s.tb b with lastOfs := o }).applyStep b o
    else if s.carryHeld b then (if s.jumps b o then s else (s.setTb b { s.tb b with lastOfs := o }).steer b o)
    else if s.jumps b o then s.refuseJump b o
    else
      let s := s.setTb b { s.tb b with lastOfs := o }
      if st = 4 then s.heldOffset b o
      else
        let s := if st = 0 || st = 3 then s.tbEnter b 1 else s
        (s.steer b o).lockCount b o
  (s.setTb b { s.tb b with lastOfs := o }).setQual b

/-- R340: the source of a time base is lost: HOLDOVER with the averaged adjustment. -/
def State.srcLost (s : State) (b : Nat) : State :=
  if s.flag (TIM_STAT_SRC_OK b) then
    let s := (s.setFlag (TIM_STAT_SRC_OK b) false).setFlag (TIM_STAT_LOST_SEEN b) true
    let s := s.incSat (TIM_CNT_LOSS b)
    if s.tbState b = 0 then s
    else
      let s := (s.keepE0 b).setAdj b (s.avgAdj b)
      let s := if s.carryHeld b then s else s.tbEnter b 3
      if s.flag TIM_SAMP_COMPAT && b = s.sampTb && s.tbState (1 - b) = 2 then
        { s with tim := { s.tim with switchDue := some s.ana.strobe } }
      else s
  else s

/-! ### PTP (R350 to R354) -/

/-- A message interval of 2^i seconds, in the model's unit. -/
def intervalU (i : Int) : Nat := if 0 ≤ i then secU * 2 ^ i.toNat else secU / 2 ^ (-i).toNat

/-- R351: the peer delay of a port in ns. -/
def State.peerDelay (s : State) (p : Nat) : Nat :=
  let d := s.getF (NET_PDLY_PDLY p)
  if d = 0xFFFFFFFF then Config.peerDelayUnmeasured else d

/-- R350, R363: may time base `b` use PTP messages of a port? In INDEPENDENT mode only those of PORTSEL. -/
def State.ptpPort (s : State) (b p : Nat) : Bool :=
  s.flag (NET_PCFG_EN p) && (s.getF NET_MODE_MODE != 0 || s.getF (TIM_CFG_PORTSEL b) == p)

/-- R338: the time-quality code of a clockAccuracy worse than 1 µs (IEEE 1588 codes 0x24 on), else locked. -/
def accTqc (acc : Nat) : Nat :=
  if acc ≤ 0x23 then 0
  else match acc with
    | 0x24 => 5 | 0x25 => 5 | 0x26 => 6 | 0x27 => 6 | 0x28 => 7 | 0x29 => 7 | 0x2A => 8 | 0x2B => 8
    | 0x2C => 9 | 0x2D => 9 | 0x2E => 10 | 0x2F => 10 | 0x30 => 11 | _ => 0xF

/-- R352: the clockAccuracy that follows a TQC. -/
def tqcAcc : Nat → Nat
  | 0 => Config.accLocked
  | 1 => 0x1D | 2 => 0x1F | 3 => 0x21 | 4 => 0x23 | 5 => 0x25 | 6 => 0x27 | 7 => 0x29 | 8 => 0x2B | 9 => 0x2D
  | 10 => 0x2F | 11 => 0x30 | _ => 0xFE

/-- R351: the data set an Announce message is compared by, most significant first (default algorithm of IEEE 1588). -/
def announceKey (m : AnnounceMsg) : List Nat := [m.prio1, m.cls, m.acc, m.variance, m.prio2, m.gm, m.steps]

/-- Lexicographic order of keys. -/
def keyLt : List Nat → List Nat → Bool
  | a :: as, b :: bs => a < b || (a == b && keyLt as bs)
  | _, _ => false

/-- R340, R351: does a heard grandmaster qualify: two Announce messages, none missing for three intervals? -/
def State.qualified (s : State) (f : ForeignMaster) : Bool :=
  2 ≤ f.count && s.now < f.last + 3 * intervalU f.msg.interval

/-- The best of a list of heard grandmasters. -/
def bestMaster : List ForeignMaster → Option ForeignMaster
  | [] => none
  | f :: fs => match bestMaster fs with
    | none => some f
    | some g => if keyLt (announceKey g.msg) (announceKey f.msg) then some g else some f

/-- R351: the offset of a Sync: origin plus corrections plus peer delay less local time, all 2^−16 ns. -/
def syncOffset (m : SyncMsg) (corr : Int) (delayNs : Nat) (loc : Int) : Int :=
  (((m.sec * 1000000000 + m.ns) * 65536 : Nat) : Int) + corr + ((delayNs * 65536 : Nat) : Int) - loc

/-- The instant of the latest Sync of the selected grandmaster on a port. -/
def syncSeen (x : TbInt) (p : Nat) : Option Nat := (x.syncAt.find? (fun e => e.1 = p)).map (·.2)

/-- R338, R351: the quality code the selected grandmaster reports. -/
def State.gmTqc (s : State) (b : Nat) : Nat :=
  let x := s.tb b
  match x.foreign.find? (fun f => some f.msg.gm = x.gm) with
  | some f => accTqc f.msg.acc
  | none => 0

/-- R351: a Sync for time base `b`. -/
def State.syncFor (s : State) (b p : Nat) (m : SyncMsg) : State :=
  let x := s.tb b
  if s.tbSrc b = 1 && s.getF (TIM_CFG_DOMAIN b) = m.domain && x.gm = some m.gm && s.ptpPort b p then
    let s := s.setTb b { x with
      syncAt := (p, s.now) :: x.syncAt.filter (fun e => e.1 != p), syncIv := m.interval }
    if s.getF NET_MODE_MODE != 0 && x.gmPort != p then s
    else if m.twoStep then
      s.setTb b { s.tb b with fuWait := some ⟨m.gm, m.seq, p, m.corr, s.tbAt b s.now, m.interval⟩ }
    else s.servoUpdate b (syncOffset m m.corr (s.peerDelay p) (s.tbAt b s.now)) (s.gmTqc b)
  else s

/-- R350: may the servo use a Sync: options supported, an interval of 2^−4 to 2^1 s? -/
def syncUsable (m : SyncMsg) : Bool := m.supported && decide (-4 ≤ m.interval) && decide (m.interval ≤ 1)

/-- SYNC_RECEIVE (R351): a Sync received on port p at the command's instant. -/
def syncReceiveEff (p : Nat) (m : SyncMsg) (s : State) : State :=
  if p < 3 && s.timeOn && syncUsable m then (upto 4).foldl (fun s b => s.syncFor b p m) s else s

/-- R351: a Follow_Up for time base `b`: the offset of the Sync it follows, at that Sync's ingress. -/
def State.followFor (s : State) (b p : Nat) (m : SyncMsg) : State :=
  match (s.tb b).fuWait with
  | some w =>
    if w.gm = m.gm && w.seq = m.seq && w.port = p && s.getF (TIM_CFG_DOMAIN b) = m.domain then
      let o := syncOffset m (w.corr + m.corr) (s.peerDelay p) w.loc
      (s.setTb b { s.tb b with fuWait := none }).servoUpdate b o (s.gmTqc b)
    else s
  | none => s

/-- FOLLOW_UP_RECEIVE (R351). -/
def followUpReceiveEff (p : Nat) (m : SyncMsg) (s : State) : State :=
  if p < 3 && s.timeOn && m.supported then (upto 4).foldl (fun s b => s.followFor b p m) s else s

/-- R351, R364: UTCOFS of the sampling time base's source, else UTCDEF, and its leap flags as QUAL carries them. -/
def State.putUtc (s : State) : State :=
  let x := s.tb s.sampTb
  let s := match x.utc with
    | some u => (s.setI TIM_UTC_UTCOFS u).setFlag TIM_UTC_SRCVAL true
    | none => (s.setF TIM_UTC_UTCOFS (s.getF TIM_UTC_UTCDEF)).setFlag TIM_UTC_SRCVAL false
  (s.setFlag TIM_UTC_LEAP_PEND x.leapPend).setFlag TIM_UTC_LEAP_DIR (x.leapPend && x.leapDir)

/-- R351: the UTC offset and leap flags of the selected grandmaster's Announce; else UTCDEF. -/
def State.utcFrom (s : State) (b : Nat) (utc : Option Int) (lp ld : Bool) : State :=
  ((s.setTb b { s.tb b with utc := utc, leapPend := utc.isSome && lp, leapDir := utc.isSome && lp && ld }).setQual b).putUtc

/-- R351: take a heard grandmaster as the selected one. -/
def State.selectGm (s : State) (b : Nat) (f : ForeignMaster) : State :=
  let x := s.tb b
  if x.gm = some f.msg.gm then s
  else
    let s := s.setTb b { x with gm := some f.msg.gm, gmPort := f.port, syncAt := [], fuWait := none, gmAt := s.now }
    let s := (s.setF (TIM_GM_LO_GLO b) f.msg.gm).setF (TIM_GM_HI_GHI b) (f.msg.gm / 4294967296)
    (s.incSat (TIM_CNT_GMCHG b)).raise 92 b (s.getF (TIM_GM_LO_GLO b))

/-- R351: the best master clock algorithm among the qualified. -/
def State.runBmca (s : State) (b : Nat) : State :=
  match bestMaster ((s.tb b).foreign.filter s.qualified) with
  | some f => s.selectGm b f
  | none => s

/-- R351: an Announce message enters the list of heard grandmasters. -/
def hearAnnounce (now p : Nat) (m : AnnounceMsg) : List ForeignMaster → List ForeignMaster
  | [] => [⟨m, p, now, 1⟩]
  | f :: fs =>
    if f.msg.gm = m.gm then
      { f with msg := m, last := now, count := if now < f.last + 4 * intervalU m.interval then f.count + 1 else 1 } :: fs
    else f :: hearAnnounce now p m fs

/-- R351: an Announce for time base `b`. -/
def State.announceFor (s : State) (b p : Nat) (m : AnnounceMsg) : State :=
  if (s.tbSrc b = 1 || s.flag (TIM_CFG_GM_EN b)) && s.getF (TIM_CFG_DOMAIN b) = m.domain && s.ptpPort b p then
    let s := s.setTb b { s.tb b with foreign := hearAnnounce s.now p m (s.tb b).foreign }
    if s.tbSrc b = 1 then
      let s := s.runBmca b
      if (s.tb b).gm = some m.gm then s.utcFrom b m.utcOfs m.leapPend m.leapDir else s
    else s
  else s

/-- R350: may an Announce be used: options supported, an interval of 1 to 4 s? -/
def announceUsable (m : AnnounceMsg) : Bool := m.supported && decide (0 ≤ m.interval) && decide (m.interval ≤ 2)

/-- ANNOUNCE_RECEIVE (R351). -/
def announceReceiveEff (p : Nat) (m : AnnounceMsg) (s : State) : State :=
  if p < 3 && s.timeOn && announceUsable m then (upto 4).foldl (fun s b => s.announceFor b p m) s else s

/-- SYNC_LOSS (R340, R354): no Sync of the selected grandmaster accepted for three Sync intervals, from its selection on; in HSR and
PRP the other port is taken instead while it delivers Sync. -/
def syncLossEff (b : Nat) (s : State) : State :=
  let x := s.tb b
  let iv := 3 * intervalU x.syncIv
  let late (p : Nat) : Bool := match syncSeen x p with
    | some t => t + iv ≤ s.now
    | none => x.gmAt + iv ≤ s.now
  let port := if s.getF NET_MODE_MODE = 0 then s.getF (TIM_CFG_PORTSEL b) else x.gmPort
  let other := 1 - port
  if b < 4 && s.timeOn && s.tbSrc b = 1 && x.gm.isSome && late port then
    if s.getF NET_MODE_MODE != 0 && port < 2 && !late other then s.setTb b { x with gmPort := other, fuWait := none }
    else s.srcLost b
  else s

/-- ANNOUNCE_RECEIPT_TIMEOUT (R340): another qualified grandmaster is selected, or the source is lost. -/
def announceReceiptTimeoutEff (b : Nat) (s : State) : State :=
  let x := s.tb b
  match x.foreign.find? (fun f => some f.msg.gm = x.gm) with
  | some f =>
    if b < 4 && s.timeOn && s.tbSrc b = 1 && f.last + 3 * intervalU f.msg.interval ≤ s.now then
      let s := s.setTb b { x with foreign := x.foreign.filter (fun g => !(some g.msg.gm == x.gm)) }
      if ((s.tb b).foreign.filter s.qualified).isEmpty then s.srcLost b else s.runBmca b
    else s
  | none => s

/-- R352: the data set of the engine's own Announce messages for a time base. -/
def State.ownAnnounce (s : State) (b : Nat) : AnnounceMsg :=
  let cls := match s.tbState b with
    | 2 => 6 | 3 => 7 | 4 => 7 | _ => 248
  { domain := s.getF (TIM_CFG_DOMAIN b), gm := s.getF NET_MAC_LO_MACL + 4294967296 * s.getF NET_MAC_HI_MACH
    prio1 := s.getF TIM_GMCFG_PRIO1, cls := cls, acc := tqcAcc (s.tqc b), variance := Config.ownVariance
    prio2 := s.getF TIM_GMCFG_PRIO2, steps := 0, utcOfs := some (s.getI TIM_UTC_UTCOFS), leapPend := (s.tb b).leapPend
    leapDir := (s.tb b).leapDir, interval := 0, supported := true }

/-- R352: may a time base be master: enabled, with a source of its own, holding the lead duties in a pair, and no better
grandmaster heard? -/
def State.mayMaster (s : State) (b : Nat) : Bool :=
  s.flag (TIM_CFG_GM_EN b) && (s.tbSrc b == 2 || s.tbSrc b == 3 || s.tbSrc b == 4)
    && (!s.flag OZX_CFG_PAIR || s.flag OZX_PSTAT_HOLDS)
    && ((s.tb b).foreign.filter s.qualified).all (fun f => !keyLt (announceKey f.msg) (announceKey (s.ownAnnounce b)))

/-! ### Egress queues (R359, R362, R371) -/

/-- Is a frame PTP? -/
def txPtp (f : TxFrame) : Bool :=
  match f with
  | .forwarded f _ => f.ptp != .none
  | .ptpSync .. | .ptpAnnounce .. | .pdelayReq .. | .pdelayResp .. => true
  | _ => false

/-- R362: the egress queue of a frame; supervision frames and command responses, which have no priority, take queue 0 (DESIGN CHOICE, log 133). -/
def txQueue (f : TxFrame) : Nat :=
  match f with
  | .forwarded _ q => q
  | .goose _ h .. => h.pcp % 8 / 2
  | .sv _ h .. => h.pcp % 8 / 2
  | f => if txPtp f then 3 else 0

/-- R362: the order of kinds within queue 3. -/
def txKind (f : TxFrame) : Nat :=
  if txPtp f then 0 else match f with
    | .forwarded .. => 2
    | _ => 1

/-- R371: the bytes of a frame; those of PTP, supervision and response frames are PRESUMED of the standards (log 133). -/
def txBytes (f : TxFrame) : Nat :=
  match f with
  | .forwarded f _ => f.len
  | .goose _ h .. => h.len
  | .sv _ h .. => h.len
  | .ptpAnnounce _ _ _ _ _ _ path => 86 + 8 * path.length
  | .pdelayReq .. | .pdelayResp .. => 72
  | .command _ _ frag => Nat.max 64 (frag.length + 18)
  | _ => 64

/-- R362: the frame to leave next of those that came by `t`: strict priority, in queue 3 by kind, then in order of arrival. -/
def egressPick (t : Nat) (l : List EgFrame) : Option EgFrame :=
  let key (e : EgFrame) : Nat := if e.queue = 3 then 12 + (2 - e.kind) else 4 * e.queue
  (l.filter (fun e => decide (e.at_ ≤ t))).foldl (fun b e =>
    match b with
    | some x => if key x < key e then some e else some x
    | none => some e) none

/-- R362, R371: the frames of a port that have left by `now`, one after the other: (bytes + 20) × `u` each. -/
def egressRun (u now : Nat) : Nat → PortInt → PortInt
  | 0, x => x
  | fuel + 1, x =>
    match x.queue with
    | [] => x
    | e0 :: _ =>
      let t := Nat.max x.free e0.at_
      if now < t then x
      else match egressPick t x.queue with
        | some e => egressRun u now fuel
            { x with queue := x.queue.erase e, free := t + (e.bytes + 20) * u, last := some e.f, lastSeq := e.seq }
        | none => x

/-- R358, R371: the time of a byte on a port's line: 8 ns at 1 Gb/s, 80 ns at 100 Mb/s. -/
def State.byteTime (s : State) (p : Nat) : Nat := if p = 2 && s.flag NET_MODE_C_SPEED then 1280 else 128

/-- R362: a port with the frames gone that have left by now. -/
def State.portNow (s : State) (p : Nat) (x : PortInt) : PortInt := egressRun (s.byteTime p) s.now x.queue.length x

/-- R354, R359: the sequence number of the tag or trailer a frame of the engine's own takes on a port: none for PTP in PRP mode. -/
def State.txSeqNo (s : State) (p : Nat) (f : TxFrame) : Option Nat :=
  match f with
  | .forwarded .. => none
  | f => if s.getF NET_MODE_MODE = 0 || 2 ≤ p || (s.getF NET_MODE_MODE = 2 && txPtp f) then none else some s.net.redSeq

/-- R359, R362: a frame enters a port's egress queue and is counted; it leaves when its turn comes and the line is free. -/
def State.txFrame (s : State) (p : Nat) (f : TxFrame) : State :=
  if s.flag (NET_PCFG_EN p) then
    let seq := s.txSeqNo p f
    let e : EgFrame := ⟨txQueue f, txKind f, txBytes f + (if seq.isSome then 6 else 0), s.now, seq, f⟩
    { s with net := { s.net with ports := lmod s.net.ports p (fun x =>
        let x := s.portNow p x
        s.portNow p { x with queue := x.queue ++ [e] }) } }.incWrap (NET_PTX_TX p)
  else s

/-- R359: in HSR and PRP mode the next frame that the engine tags takes the next sequence number. -/
def State.nextRedSeq (s : State) : State :=
  if s.getF NET_MODE_MODE = 0 then s else { s with net := { s.net with redSeq := (s.net.redSeq + 1) % 65536 } }

/-- A frame of the engine's own leaves by the ports named. -/
def State.txOwn (s : State) (ports : List Nat) (f : TxFrame) : State :=
  ports.foldl (fun s p => s.txFrame p f) s.nextRedSeq

/-- R359: the ports the engine's own frames leave by: PORTSEL or all in INDEPENDENT mode, both ring or LAN ports else. -/
def State.ownPorts (s : State) (indep : List Nat) : List Nat := if s.getF NET_MODE_MODE = 0 then indep else [0, 1]

/-- Has a second passed since an instant, if there was one? -/
def State.secondPassed (s : State) : Option Nat → Bool
  | some t => decide (t + secU ≤ s.now)
  | none => true

/-- GM_TRANSMIT (R350, R352): Sync and Announce, with its PATH_TRACE, leave once per second in master state. -/
def gmTransmitEff (b : Nat) (s : State) : State :=
  if b < 4 && s.timeOn && s.mayMaster b && s.secondPassed (s.tb b).txLast then
    let a := s.ownAnnounce b
    let n := ((s.tb b).txSeq + 1) % 65536
    let v := splitTime (s.tbAt b s.now)
    let s := s.setTb b { s.tb b with txSeq := n, txLast := some s.now }
    let ps := s.ownPorts [s.getF (TIM_CFG_PORTSEL b)]
    (s.txOwn ps (.ptpSync a.domain n v.1 v.2.1)).txOwn ps (.ptpAnnounce a.domain n a.prio1 a.prio2 a.cls a.acc [a.gm])
  else s

/-! ### IRIG-B and 1PPS (R355 to R357) -/

/-- Days from 1 January 1970 to 1 January of a year. -/
def daysToYear (y : Nat) : Nat :=
  let p := y - 1
  365 * (y - 1970) + (p / 4 - 1969 / 4) - (p / 100 - 1969 / 100) + (p / 400 - 1969 / 400)

/-- R355: TAI seconds of a frame: its date and time, less the local offset (15 min units), plus UTCOFS. The codes with a year field are
B004 to B007 (log 106). -/
def State.irigSec (s : State) (f : IrigFrame) : Int :=
  let cf := s.flag TIM_IRIG_CFEXT
  let year := match (if 4 ≤ s.getF TIM_IRIG_CODE then f.year else none) with
    | some y => y
    | none => if cf then f.cfYear else s.getF TIM_IRIG_YEAR
  let t := (((daysToYear year + (f.day - 1)) * 24 + f.hour) * 60 + f.minute) * 60 + f.second
  (t : Int) - 900 * (if cf then f.cfOfs else s.getI TIM_IRIG_IRIG_OFS) + s.getI TIM_UTC_UTCOFS

/-- R355, R356, R510: the instant at which an edge is sampled, at 2 ns resolution: that of the sample period it falls in (DEDUCED, log 132). -/
def edgeSample (t : Nat) : Nat := t / 32 * 32

/-- R510: is a pulse of IRIGB_IN (µs) a marker of 2, 5 or 8 ms within 0.5 ms? -/
def irigWidthOk (w : Nat) : Bool := [2000, 5000, 8000].any (fun m => decide (m ≤ w + 500) && decide (w ≤ m + 500))

/-- R355, R510: does a frame decode: every pulse a marker, the code well formed, and with CFEXT its parity right? -/
def State.irigDecodes (s : State) (f : IrigFrame) : Bool :=
  f.ok && f.pulses.all irigWidthOk && (!s.flag TIM_IRIG_CFEXT || f.cfParityOk)

/-- R355: a frame that decodes, for time base `b`; `at_` is the instant of its on-time marker. -/
def State.irigGood (s : State) (b at_ : Nat) (f : IrigFrame) : State :=
  let mark := edgeSample at_
  let cf := s.flag TIM_IRIG_CFEXT
  let sec := s.irigSec f
  let s := s.setTb b { s.tb b with badFrames := 0, irigAt := some s.now }
  let s := if cf then
      ((s.setTb b { s.tb b with leapPend := f.cfLeapPend, leapDir := f.cfLeapPend && f.cfLeapDir, srcTqc := f.cfTq }).setQual b).putUtc
    else s
  if s.tbSrc b = 2 then
    s.servoUpdate b (sec * subPerSec - s.tbAt b mark) (if cf then f.cfTq else 0)
  else
    match (s.tb b).edgeAt with
    | some e =>
      if absN ((e : Int) - (mark : Int)) < 8000000000 then s.setTb b { s.tb b with srcSec := some sec.toNat } else s
    | none => s

/-- IRIGB_FRAME (R355): a frame has been received; a decoding or parity failure counts as a failed frame. -/
def irigbFrameEff (mark : Nat) (f : IrigFrame) (s : State) : State :=
  let good := s.irigDecodes f
  if s.timeOn && mark ≤ s.now then
    (upto 4).foldl (fun s b =>
      if s.tbSrc b = 2 || s.tbSrc b = 3 then
        if good then s.irigGood b mark f
        else s.setTb b { s.tb b with badFrames := (s.tb b).badFrames + 1 }
      else s) s
  else s

/-- IRIGB_LOSS (R340, R356): three consecutive frames missing or failing; the edges of source 0b011 have no label until a frame labels one. -/
def irigbLossEff (s : State) : State :=
  if s.timeOn then
    (upto 4).foldl (fun s b =>
      let x := s.tb b
      let missing := match x.irigAt with
        | some t => t + 3 * secU ≤ s.now
        | none => false
      if (s.tbSrc b = 2 || s.tbSrc b = 3) && (3 ≤ x.badFrames || missing) then
        let s := s.srcLost b
        if s.tbSrc b = 3 then s.setTb b { s.tb b with srcSec := none } else s
      else s) s
  else s

/-- R340: does an edge at `e` lie within ±1 ms of a whole second of the time base? -/
def State.nearSecond (s : State) (b e : Nat) : Bool :=
  let r := s.tbAt b e % subPerSec
  r ≤ 65536000000 || subPerSec - 65536000000 ≤ r

/-- R356: an edge for time base `b`: outside its window it is discarded and counted. -/
def State.ppsFor (s : State) (b : Nat) : State :=
  let x := s.tb b
  let n := edgeSample s.now
  if s.tbState b != 0 && x.edgeAt.isSome && !s.nearSecond b n then s.setTb b { x with ppsDisc := x.ppsDisc + 1 }
  else
    let passed := match x.edgeAt with
      | some e => (n - e + secU / 2) / secU
      | none => 0
    let sec := match x.setSec, x.srcSec with
      | some v, _ => some v
      | none, some v => some (v + passed)
      | none, none => none
    let s := s.setTb b { x with edgeAt := some n, srcSec := sec, setSec := none }
    match sec with
    | some v => s.servoUpdate b ((v : Int) * subPerSec - s.tbAt b n) x.srcTqc
    | none => s

/-- PPS_IN_EDGE (R356): a rising edge of PPS_IN. -/
def ppsInEdgeEff (s : State) : State :=
  if s.timeOn then (upto 4).foldl (fun s b => if s.tbSrc b = 3 || s.tbSrc b = 4 then s.ppsFor b else s) s else s

/-- PPS_LOSS (R340): no edge within ±1 ms of the expected second for two consecutive seconds. -/
def ppsLossEff (s : State) : State :=
  if s.timeOn then
    (upto 4).foldl (fun s b =>
      match (s.tb b).edgeAt with
      | some e => if (s.tbSrc b = 3 || s.tbSrc b = 4) && e + 2 * secU + msU ≤ s.now then s.srcLost b else s
      | none => s) s
  else s

/-- R357: may PPS_OUT rise for its time base? -/
def State.ppsoOn (s : State) : Bool :=
  let st := s.tbState (s.getF TIM_PPSO_TB)
  s.flag TIM_PPSO_EN && (s.flag TIM_PPSO_PPSO_FREE || (st != 0 && st != 5))

/-- PPS_OUT_RISE (R357): at a whole second of its time base less COMP ns, within 5 ns. -/
def ppsOutRiseEff (s : State) : State :=
  let r := (s.tbAt (s.getF TIM_PPSO_TB) s.now + s.getI TIM_PPSO_COMP * 65536) % subPerSec
  if s.timeOn && s.ppsoOn && !s.tim.ppsOut && (r ≤ 327680 || subPerSec - 327680 ≤ r) then
    { s with tim := { s.tim with ppsOut := true, ppsRose := s.now } }
  else s

/-- PPS_OUT_FALL (R357): PW ms after the rise. -/
def ppsOutFallEff (s : State) : State :=
  if s.tim.ppsOut && s.tim.ppsRose + s.getF TIM_PPSO_PW * msU ≤ s.now then
    { s with tim := { s.tim with ppsOut := false } }
  else s

/-! ### Steps and compatibility mode (R342, R347, R348) -/

/-- R348: CARRY takes a value (2^−16 ns) now, slewed to 0 when within STEP_THR. -/
def State.setCarry (s : State) (c : Int) : State :=
  { s with tim := { s.tim with carry := c, carryT := s.now, carrySlew := absN c ≤ s.stepThr 0 } }

/-- R342, R348: the pending step of a time base is applied now. -/
def State.takeStep (s : State) (b : Nat) : State :=
  if s.carryHeld b then
    let d := -s.carryAt s.now
    let s := { s.setCarry 0 with tim := { (s.setCarry 0).tim with stepStrobe := some s.ana.strobe, stepBy := d } }
    let s := ((s.setPend 0 0).incSat (TIM_CNT_STEPS 0)).setTb 0 { s.tb 0 with stepAt := none }
    (s.tbEnter 0 1).raise 91 0 (tcBits 32 (nsSat d))
  else s.applyStep b (s.pend b * 65536)

/-- STEP_APPLY (R342, R459): an accepted step of the sampling time base, at a strobe index divisible by 32. -/
def stepApplyEff (b : Nat) (s : State) : State :=
  if b < 4 && s.timeOn && s.ana.strobe % 32 == 0 then
    match (s.tb b).setTime, (s.tb b).stepAt with
    | some d, _ => s.applyStep b d
    | none, some _ => s.takeStep b
    | none, none => s
  else s

/-- R348: has a strobe passed since a switch became due? -/
def State.switchNow (s : State) : Bool := match s.tim.switchDue with
  | some n => decide (n < s.ana.strobe)
  | none => false

/-- COMPAT_SWITCH (R348): at the next strobe the sampling time goes over to the other time base without a step. -/
def compatSwitchEff (s : State) : State :=
  if s.timeOn && s.switchNow && s.flag TIM_SAMP_COMPAT then
    let act := s.sampTb
    let other := 1 - act
    let c := s.carryAt s.now + (s.tbAt act s.now - s.tbAt other s.now)
    let s := { s with tim := { s.tim with switchDue := none } }
    let s := ((s.setF TIM_SAMP_ACT other).setCarry c).putUtc
    let s := s.raise 93 0 other
    if s.stepThr 0 < absN c then
      let ns := divHalfEven (-c) 65536
      let s := (((s.keepE0 0).setPend 0 ns).setFlag (TIM_STAT_REFUSED 0) true).incSat (TIM_CNT_REFUSE 0)
      (s.tbEnter 0 4).raise 90 0 (tcBits 32 (nsSat (-c)))
    else s
  else s

/-- TQC_DEGRADE (R338): the bound e(t) of a time base in HOLDOVER or STEP_HELD has passed a code's bound. -/
def tqcDegradeEff (b : Nat) (s : State) : State :=
  if b < 4 && s.timeOn && (s.tbState b == 3 || s.tbState b == 4) then s.setQual b else s

end Sys2Proof.Machine
end

