-- ==== Sys2Proof/Machine/Frames.lean ====
section
/-!
DEFINITION. Command frames (15 R445 to R453, 14 R426, R437 to R441): reception on both transports, the checks of R450, what
authentication answers, and the response.
-/
namespace Sys2Proof.Machine

/-! ### The opcode tables (R456, R458 to R460) -/

/-- How a command is authenticated: not; as critical; as critical and in the secure world; as R436 says. -/
inductive Crit where
  | no | yes | secure | otp
  deriving DecidableEq, Repr

/-- The payload sizes a table gives: exactly `n` bytes, or `n` to `m`. -/
structure OpRow where
  crit : Crit
  lo : Nat
  hi : Nat
  deriving DecidableEq, Repr

/-- A row with one payload size. -/
def opFix (c : Crit) (n : Nat) : Option OpRow := some ⟨c, n, n⟩

/-- The row of an opcode, if it is defined. REG_WRITE's length against COUNT and FLASH_PROGRAM's against 256 are checks of
their own rows (R456, R460). -/
def opRow (op : Nat) : Option OpRow :=
  match op with
  | 0x0101 => opFix .no 0
  | 0x0102 => opFix .no 8
  | 0x0103 => some ⟨.no, 8, 4096⟩
  | 0x0104 => opFix .yes 4
  | 0x0105 => opFix .yes 0
  | 0x0106 => opFix .no 0
  | 0x0201 => opFix .yes 4
  | 0x0202 => opFix .yes 12
  | 0x0203 => opFix .yes 4
  | 0x0204 => opFix .yes 8
  | 0x0205 => opFix .yes 4
  | 0x0206 | 0x0207 => opFix .yes 0
  | 0x0301 | 0x0302 | 0x0303 => opFix .yes 4
  | 0x0304 => opFix .no 4
  | 0x0401 | 0x0402 | 0x0403 => opFix .no 4
  | 0x0404 => opFix .no 12
  | 0x0405 => opFix .yes 4
  | 0x0501 => opFix .yes 4
  | 0x0502 | 0x0503 | 0x0504 | 0x0505 | 0x0506 | 0x0507 | 0x0508 => opFix .yes 0
  | 0x0601 => opFix .yes 16
  | 0x0604 => opFix .yes 4
  | 0x0701 => opFix .no 36
  | 0x0702 => opFix .secure 20
  | 0x0703 => opFix .secure 4
  | 0x0704 => opFix .secure 8
  | 0x0705 => opFix .otp 36
  | 0x0706 => opFix .secure 4
  | 0x0801 => opFix .no 8
  | 0x0802 => opFix .yes 8
  | 0x0803 => some ⟨.yes, 5, 4096⟩
  | 0x0804 => opFix .yes 4
  | 0x0901 | 0x0902 => opFix .no 4
  | 0x0A01 => opFix .yes 0
  | _ => none

/-! ### Responses (R448, R449, R437) -/

/-- The requester a transport is. -/
def trReq (tr : Nat) : Requester := if tr = 0 then .xspi else .portC

/-- R447: the command bytes of one fragment. -/
def fragMax : Nat := 1496

/-- The fragments of a response: prefix and at most 1,496 bytes each, numbered from `i`. -/
def fragList (n xid : Nat) : Nat → Nat → List Nat → List (List Nat)
  | 0, _, _ => []
  | k + 1, i, bs => ([i, n] ++ leBytes 2 xid ++ bs.take fragMax) :: fragList n xid k (i + 1) (bs.drop fragMax)

/-- R447: a response as it leaves port C. -/
def respFrags (xid : Nat) (bs : List Nat) : List (List Nat) :=
  let n := (bs.length + fragMax - 1) / fragMax
  fragList n xid n 0 bs

/-- The words of a byte string, little-endian, the last one filled with 0. -/
def leWords : Nat → List Nat → List Nat
  | 0, _ => []
  | n + 1, bs => ofLe (bs.take 4) :: leWords n (bs.drop 4)

/-- R461: a response in the mailbox. -/
def State.mailRsp (s : State) (bs : List Nat) : State :=
  let n := (bs.length + 3) / 4
  let ws := leWords n bs
  let s := (ws.zip (upto n)).foldl (fun s e => s.setF (CMD_RSP_DATA e.2) e.1) s
  ((s.setF CMD_STAT_RLEN n).setFlag CMD_STAT_BUSY false).setFlag CMD_STAT_RDY true

/-- R447: a response on port C, fragment by fragment. -/
def State.portRsp (s : State) (dst xid : Nat) (bs : List Nat) : State :=
  (respFrags xid bs).foldl (fun s f => s.txFrame 2 (.command dst xid f)) s

/-- The response frame leaves by the transport of its request. -/
def State.sendRsp (s : State) (tr xid src : Nat) (bs : List Nat) : State :=
  let s := s.incWrap CMD_CNT_CMDS
  if tr = 0 then s.mailRsp bs else s.portRsp src xid bs

/-- The 16 header bytes of a response. -/
def rspHdr (op flags len seq : Nat) (st : Status) (detail : Nat) : List Nat :=
  leBytes 2 op ++ leBytes 2 flags ++ leBytes 4 len ++ leBytes 4 seq ++ [stCode st, 0] ++ leBytes 2 detail

/-- R437: the tag of a message. -/
def tagOfMsg (key m : List Nat) : List Nat := (hmacSha256 key m).take 16

/-- An untagged response. -/
def plainRsp (op seq : Nat) (st : Status) (detail : Nat) (out : List Nat) : List Nat :=
  rspHdr op 0x4000 out.length seq st detail ++ out

/-- R437: a tagged response. -/
def taggedRsp (key : List Nat) (op slot ctr seq : Nat) (st : Status) (detail : Nat) (out : List Nat) : List Nat :=
  let m := rspHdr op (0x4000 + 1 + 2 * slot) out.length seq st detail ++ leBytes 8 ctr ++ out
  m ++ tagOfMsg key m

/-- R437, R439: a cached response with REPLAYED set and its tag computed afresh. -/
def replayRsp (key rsp : List Nat) : List Nat :=
  let m := lmod (rsp.take (rsp.length - 16)) 3 (fun b => Nat.lor b 0x80)
  m ++ tagOfMsg key m

/-- The response of a request, tagged when it was authenticated. -/
def CmdReq.rsp (q : CmdReq) (st : Status) (detail : Nat) (out : List Nat) : List Nat :=
  match q.auth with
  | some (slot, ctr) => taggedRsp q.key q.op slot ctr q.seq st detail out
  | none => plainRsp q.op q.seq st detail out

/-- A key slot changes its state: KEY_CHANGED (R433, R434). -/
def State.setKey (s : State) (slot : Nat) (k : KeySlot) : State :=
  { s with sec := { s.sec with keys := lset s.sec.keys slot k } }.raise 114 slot k.st

/-- A key slot (an empty one beyond the eight). -/
def State.keySlot (s : State) (slot : Nat) : KeySlot := lget ⟨0, []⟩ s.sec.keys slot

/-- R433: a slot whose counter has accepted its last value is retired after that command. -/
def State.retireLast (s : State) (q : CmdReq) : State :=
  match q.auth with
  | some (slot, ctr) =>
    if ctr = 0xFFFFFFFFFFFFFFFF && (s.keySlot slot).st = 1 then s.setKey slot { s.keySlot slot with st := 2 } else s
  | none => s

/-- R439, R433: the response of an executed request: kept for a repeat when it was authenticated, then sent; a slot that
has accepted its last counter is retired. -/
def State.respond (s : State) (q : CmdReq) (st : Status) (detail : Nat) (out : List Nat) : State :=
  let bs := CmdReq.rsp q st detail out
  let s := match q.auth with
    | some (slot, _) => { s with sec := { s.sec with cache := lset s.sec.cache slot (some (q.frame, bs)) } }
    | none => s
  (s.sendRsp q.tr q.xid q.src bs).retireLast q

/-! ### Reception (R445 to R448, rows 1 to 6 of R450) -/

/-- R10, R447: does no transport run, because the reference was lost? -/
def State.refLost (s : State) : Bool := s.evt.ballsHeld

/-- R447: does a transport carry commands? -/
def State.trAlive (s : State) (tr : Nat) : Bool := !s.sys.por && !s.refLost && (tr = 0 || s.sys.mapOn)

/-- R446: is a port C command unanswered? -/
def State.portCBusy (s : State) : Bool :=
  s.cmd.svc.any (fun q => q.tr = 1) || (match s.cmd.modeWait with | some q => q.tr = 1 | none => false)

/-- Byte `i` of a frame. -/
def byteAt (bs : List Nat) (i : Nat) : Nat := lget 0 bs i

/-- The little-endian number of `n` bytes from byte `i`. -/
def leAt (bs : List Nat) (i n : Nat) : Nat := ofLe ((bs.drop i).take n)

/-- R448: the bytes a frame holds by its own FLAGS and LEN. -/
def frameLen (bs : List Nat) : Nat := 16 + leAt bs 4 4 + (if bitN (byteAt bs 2) 0 then 24 else 0)

/-- Rows 2 to 6 of R450: the status of the first failure. -/
def State.frameCheck (s : State) (tr : Nat) (bs : List Nat) : Option Status :=
  if 4096 < leAt bs 4 4 then some .lenRange
  else if leAt bs 12 4 != 0 || 16 ≤ leAt bs 2 2 then some .valueRange
  else if bs.length < frameLen bs then some .lenRange
  else if (opRow (leAt bs 0 2)).isNone then some .unknownOpcode
  else if tr = 1 && s.portCBusy then some .resourceBusy
  else none

/-- R446: a request waits for the Service core; the xSPI target's goes before one of port C received at the same instant. -/
def State.queueReq (s : State) (q : CmdReq) : State :=
  let tie := q.tr = 0 && s.cmd.recvC = s.now
  let front := if tie then s.cmd.svc.filter (fun x => x.tr != 1) else s.cmd.svc
  let back := if tie then s.cmd.svc.filter (fun x => x.tr = 1) else []
  { s with cmd := { s.cmd with svc := front ++ q :: back, recvC := if q.tr = 1 then s.now else s.cmd.recvC } }

/-- A frame of at least 16 bytes has been received: refused under rows 2 to 6, or waiting to be executed. -/
def State.receiveFrame (s : State) (tr xid src : Nat) (bs : List Nat) : State :=
  let op := leAt bs 0 2
  let seq := leAt bs 8 4
  match s.frameCheck tr bs with
  | some st =>
    let s := if st = .resourceBusy then s.incSat CMD_ECNT_BUSY else s
    (s.incSat CMD_CNT_REFUSED).sendRsp tr xid src (plainRsp op seq st 0 [])
  | none =>
    let f := bs.take (frameLen bs)
    let pay := (f.drop (if bitN (byteAt bs 2) 0 then 24 else 16)).take (leAt bs 4 4)
    s.queueReq ⟨tr, op, seq, pay, f, xid, src, none, [], false⟩

/-- The bytes of the mailbox. -/
def State.mailBytes (s : State) : List Nat := (upto 1034).flatMap (fun w => leBytes 4 (s.getF (CMD_REQ_DATA w)))

/-- R446: a write to CMD_REQ. -/
def State.cmdReqW (w v : Nat) (s : State) : Status × State :=
  if s.flag CMD_STAT_BUSY then (.ok, s.setFlag CMD_STAT_WR_BUSY true) else (.ok, s.setF (CMD_REQ_DATA w) v)

/-- R446, R461: a write to CMD_DB. -/
def State.cmdDbW (v : Nat) (s : State) : Status × State :=
  if !bitN v 0 || !s.trAlive 0 then (.ok, s)
  else if s.flag CMD_STAT_BUSY then (.ok, s.setFlag CMD_STAT_DB_BUSY true)
  else (.ok, (s.setFlag CMD_STAT_BUSY true).receiveFrame 0 0 0 s.mailBytes)

/-- DOORBELL (R446): a write of 1 to GO by a requester. -/
def doorbellEff (r : Requester) (s : State) : State := (s.hostWrite r CMD_DB (State.cmdDbW 1)).2

/-- R447: a reassembly is abandoned. -/
def State.fragOff (s : State) : State := { s with cmd := { s.cmd with reasm := none } }.incSat CMD_ECNT_FRAGTO

/-- 10 ms (R447). -/
def fragTime : Nat := 10 * msU

/-- R447: has the reassembly in progress run out of time? -/
def State.fragLate (s : State) : Bool :=
  match s.cmd.reasm with
  | some r => decide (r.from_ + fragTime < s.now)
  | none => false

/-- R447: a fragment that may begin or continue a reassembly. -/
def State.fragment (s : State) (src frag n xid : Nat) (data : List Nat) : State :=
  let done (s : State) (bs : List Nat) : State :=
    let s := { s with cmd := { s.cmd with reasm := none } }
    if bs.length < 16 then s.incSat CMD_ECNT_RUNT else s.receiveFrame 1 xid src bs
  let step (s : State) (from_ : Nat) (bs : List Nat) : State :=
    let bs := bs ++ data
    if frag + 1 = n then done s bs
    else if data.length != fragMax then s.fragOff
    else { s with cmd := { s.cmd with reasm := some ⟨xid, n, frag + 1, bs, from_⟩ } }
  match s.cmd.reasm with
  | some r => if frag = r.next && n = r.n then step s r.from_ r.bytes else s.fragOff
  | none => if frag = 0 && 1 ≤ n && n ≤ 3 then step s s.now [] else s.fragOff

/-- CMD_FRAGMENT (R445, R447): an Ethernet payload of EtherType 0x88B5 on a port, with its destination and source. -/
def cmdFragmentEff (p dst src : Nat) (bytes : List Nat) (s : State) : State :=
  let mac := s.getF NET_MAC_LO_MACL + 4294967296 * s.getF NET_MAC_HI_MACH
  if p != 2 || dst != mac || !s.trAlive 1 || !s.flag (NET_PCFG_EN 2) then s
  else if bytes.length < 4 then s.incSat CMD_ECNT_RUNT
  else
    let xid := leAt bytes 2 2
    let s := if s.fragLate then s.fragOff else s
    let s := match s.cmd.reasm with
      | some r => if r.xid = xid then s else s.fragOff
      | none => s
    s.fragment src (byteAt bytes 0) (byteAt bytes 1) xid ((bytes.drop 4).take fragMax)

/-- FRAGMENT_TIMEOUT (R447): 10 ms have passed since the first fragment. -/
def fragmentTimeoutEff (s : State) : State := if s.fragLate then s.fragOff else s

/-! ### Authentication (row 7 of R450: R438 to R441) -/

/-- R441: the window of failures and the length of a limit. -/
def failWindow : Nat := 60 * secU

/-- R441: 10 s. -/
def limitTime : Nat := 10 * secU

/-- R441: is a transport rate-limited? -/
def State.limited (s : State) (tr : Nat) : Bool :=
  match lget none s.sec.limit tr with
  | some e => decide (s.now < e)
  | none => false

/-- R441: an AUTH_FAIL is returned; `counts` when it came from row 2 or 3. -/
def State.authFailed (s : State) (tr slot : Nat) (counts : Bool) : State :=
  let s := s.incSat SEC_AUTHCNT_AFAIL
  let s := if s.flag SEC_STAT_AFAIL_SEEN then s else (s.setFlag SEC_STAT_AFAIL_SEEN true).raise 116 tr slot
  if !counts then s
  else
    let fs := s.now :: (lget [] s.sec.fails tr).filter (fun t => decide (s.now < t + failWindow))
    if 16 ≤ fs.length then
      { s with sec := { s.sec with fails := lset s.sec.fails tr [], limit := lset s.sec.limit tr (some (s.now + limitTime)) } }.raise 117 tr 0
    else { s with sec := { s.sec with fails := lset s.sec.fails tr fs } }

/-- What authentication answers: executed (with the request as verified), an untagged AUTH_FAIL, a tagged refusal, or the
cached response. -/
inductive AuthOut where
  | run (q : CmdReq)
  | fail
  | refuse (q : CmdReq) (st : Status)
  | replay (bs : List Nat)
  deriving DecidableEq, Repr

/-- R438, R439, R440: the checks on a request that carries AUTH or must. -/
def State.authenticate (s : State) (q : CmdReq) (needSecure : Bool) : AuthOut × State :=
  let fl := byteAt q.frame 2
  let slot := fl / 2 % 8
  let k := s.keySlot slot
  let msg := q.frame.take (q.frame.length - 16)
  if s.limited q.tr then (.fail, s.authFailed q.tr slot false)
  else if !bitN fl 0 || k.st != 1 then (.fail, s.authFailed q.tr slot true)
  else if q.frame.drop (q.frame.length - 16) != tagOfMsg k.key msg then (.fail, s.authFailed q.tr slot true)
  else
    let sec := bitN (s.getF (SEC_WMAP_MAP 7)) q.tr || bitN (s.getF (SEC_WMAP_MAP 7)) (8 + slot)
    let ctr := leAt q.frame 16 8
    let q := { q with auth := some (slot, ctr), key := k.key, secure := sec }
    let last := lget 0 s.mram.keyCnt slot
    if needSecure && !sec then (.refuse q .worldDenied, s.deny (trReq q.tr) 0x10000 true)
    else if last < ctr then (.run q, { s with mram := { s.mram with keyCnt := lset s.mram.keyCnt slot ctr } })
    else
      match lget none s.sec.cache slot with
      | some (f, rsp) =>
        if ctr = last && f = q.frame then (.replay (replayRsp k.key rsp), s.incSat SEC_AUTHCNT_REPLAY)
        else (.refuse q .counterStale, s.incSat SEC_AUTHCNT_STALE)
      | none => (.refuse q .counterStale, s.incSat SEC_AUTHCNT_STALE)

/-- RATE_LIMIT_END (R441): the limit of a transport has lasted 10 s. -/
def rateLimitEndEff (tr : Nat) (s : State) : State :=
  match lget none s.sec.limit tr with
  | some e => if e ≤ s.now then { s with sec := { s.sec with limit := lset s.sec.limit tr none } } else s
  | none => s

/-! ### Execution (rows 7 to 11 of R450) -/

/-- R434, R436: does BOOT_HOLD hold the start while no key slot is ACTIVE? -/
def State.provisioning (s : State) : Bool := s.mode == .boot && s.sys.held && s.sec.keys.all (fun k => k.st != 1)

/-- R436, R438: must a request be authenticated, and in the secure world? -/
def State.critOf (s : State) (q : CmdReq) (c : Crit) : Bool × Bool :=
  match c with
  | .no => (false, false)
  | .yes => (true, false)
  | .secure => (true, true)
  | .otp => if q.tr = 0 && s.provisioning then (false, false) else (true, true)

/-- R451: the opcodes SAFE accepts. -/
def safeOps : List Nat := [0x0101, 0x0102, 0x0104, 0x0106, 0x0304, 0x0801, 0x0802, 0x0803, 0x0804, 0x0901, 0x0902]

/-- R451: does the device mode allow a request? -/
def State.modeAllows (s : State) (q : CmdReq) : Bool :=
  match s.mode with
  | .boot => q.op = 0x0101 || (s.sys.held && q.tr = 0 && (q.op = 0x0701 || q.op = 0x0705))
  | .safe => safeOps.contains q.op
  | _ => true

/-- What rows 10 and 11 of R450 answer: status, state, payload, DETAIL, and whether the response waits (MODE_SET). -/
structure CmdRes where
  st : Status
  s : State
  out : List Nat
  detail : Nat
  wait : Bool

/-- A refusal: nothing changed. -/
def refused (s : State) (st : Status) : CmdRes := ⟨st, s, [], 0, false⟩

/-- OK without payload. -/
def okRes (s : State) : CmdRes := ⟨.ok, s, [], 0, false⟩

/-- OK with a payload. -/
def okOut (s : State) (out : List Nat) : CmdRes := ⟨.ok, s, out, 0, false⟩

/-- A status with the state that goes with it when it is OK. -/
def ofPair (s : State) (r : Status × State) : CmdRes := if r.1 = .ok then okRes r.2 else refused s r.1

/-- R431: row 10 refuses a command that names a secure object. -/
def State.worldRefused (s : State) (q : CmdReq) : CmdRes := ⟨.worldDenied, s.deny (trReq q.tr) 0x10000 true, [], 0, false⟩

/-- R426: run with the accesses made in the world of the request. -/
def State.asWorld (s : State) (q : CmdReq) (f : State → CmdRes) : CmdRes :=
  let r := f { s with sys := { s.sys with elevated := q.secure } }
  { r with s := { r.s with sys := { r.s.sys with elevated := false } } }

/-- Rows 8 to 11 of R450 and the response. -/
def State.runReq (s : State) (q : CmdReq) (row : OpRow) (f : CmdReq → State → CmdRes) : State :=
  if q.payload.length < row.lo || row.hi < q.payload.length then s.respond q .lenRange 0 []
  else if !s.modeAllows q then s.respond q .stateDenied 0 []
  else
    let r := s.asWorld q (f q)
    if r.wait then { r.s with cmd := { r.s.cmd with modeWait := some q } } else r.s.respond q r.st r.detail r.out

/-- R446: the Service core executes the oldest received request, if it is one of opcode `op`. -/
def State.onOpcode (s : State) (op : Nat) (f : CmdReq → State → CmdRes) : State :=
  match s.cmd.svc, opRow op with
  | q :: rest, some row =>
    if q.op != op || s.cmd.modeWait.isSome || s.refLost then s
    else
      let s := { s with cmd := { s.cmd with svc := rest } }
      let need := s.critOf q row.crit
      if need.1 || bitN (byteAt q.frame 2) 0 then
        match s.authenticate q need.2 with
        | (.run q, s) => s.runReq q row f
        | (.fail, s) => s.sendRsp q.tr q.xid q.src (plainRsp q.op q.seq .authFail 0 [])
        | (.refuse q st, s) => s.sendRsp q.tr q.xid q.src (CmdReq.rsp q st 0 [])
        | (.replay bs, s) => s.sendRsp q.tr q.xid q.src bs
      else s.runReq q row f
  | _, _ => s

end Sys2Proof.Machine
end

