-- ==== Sys2Proof/Machine/Net.lean ====
section
/-!
DEFINITION. The switch and its ports (10 R353, R358 to R362): forwarding by mode, duplicate discard, learned addresses,
supervision, residence correction, peer delay, MDIO.
-/
namespace Sys2Proof.Machine

/-- A port's state that no register shows. -/
def State.port (s : State) (p : Nat) : PortInt := lget resetPort s.net.ports p

/-- Change a port's state. -/
def State.setPort (s : State) (p : Nat) (x : PortInt) : State :=
  { s with net := { s.net with ports := lset s.net.ports p x } }

/-- The engine's MAC address, first octet most significant. -/
def State.mac (s : State) : Nat := s.getF NET_MAC_HI_MACH * 4294967296 + s.getF NET_MAC_LO_MACL

/-- Is a 48-bit address a group address (lowest bit of its first octet)? -/
def groupMac (a : Nat) : Bool := bitN a 40

/-- R21: does the switch forward (every mode from step 8, SAFE with it; the engine's own traffic ends with `timeOn`)? -/
def State.switchOn (s : State) : Bool := s.sys.mapOn && s.sys.refPresent

/-- R362: the egress queue of a frame that came in on port p. -/
def State.egressQueue (s : State) (p : Nat) (f : EthFrame) : Nat :=
  if f.ptp != .none then 3
  else (match f.pcp with
    | some c => c % 8
    | none => s.getF (NET_PCFG_PCP_DEF p)) / 2

/-- R360: duplicate-discard entries still alive. -/
def State.ddtLive (s : State) (l : List DdtEntry) : List DdtEntry :=
  l.filter (fun e => s.now < e.born + s.getF NET_RCFG_FORGET * msU)

/-- R360: put the table and its LEVEL. -/
def State.setDdt (s : State) (l : List DdtEntry) : State := { s with net := { s.net with ddt := l } }.setF NET_DDT_LEVEL l.length

/-- R360: the sequence number a frame is known by in HSR or PRP, if it carries one. -/
def dupSeq (mode : Nat) (f : EthFrame) : Option Nat :=
  if f.ptp != .none then none
  else if mode = 1 then f.hsr else if mode = 2 then f.prp.map (·.2) else none

/-- R360: is the frame the second copy of a live entry? Otherwise it enters the table, evicting the oldest when full. -/
def State.dupCheck (s : State) (f : EthFrame) : Bool × State :=
  match dupSeq (s.getF NET_MODE_MODE) f with
  | none => (false, s)
  | some q =>
    let live := s.ddtLive s.net.ddt
    if live.any (fun e => e.src == f.src && e.seq == q) then (true, (s.setDdt live).incSat NET_DUP_DUP)
    else if live.length < 1024 then (false, s.setDdt (live ++ [⟨f.src, q, s.now⟩]))
    else (false, (s.setDdt (live.drop 1 ++ [⟨f.src, q, s.now⟩])).incSat NET_DDT_EVICT)

/-- R359: the port an address was learned on, within 300 s. -/
def State.macPort (s : State) (a : Nat) : Option Nat :=
  (s.net.macs.find? (fun e => e.mac = a && s.now < e.seen + 300 * secU)).map (·.port)

/-- R359: learn a source address; 1,024 at most. -/
def State.learn (s : State) (a p : Nat) : State :=
  let rest := s.net.macs.filter (fun e => e.mac != a)
  if groupMac a then s
  else { s with net := { s.net with macs := (⟨a, p, s.now⟩ :: rest).take 1024 } }

/-- R359: the external ports a frame that came in on port p is forwarded to. -/
def State.egressPorts (s : State) (p : Nat) (f : EthFrame) : List Nat :=
  let others := (upto 3).filter (fun q => q != p)
  let bridge := s.flag NET_MODE_C_BRIDGE
  let mine := f.dst == s.mac
  match s.getF NET_MODE_MODE with
  | 0 =>
    if s.flag NET_MODE_ISO || mine then []
    else if groupMac f.dst then others
    else match s.macPort f.dst with
      | some q => if q = p then [] else [q]
      | none => others
  | 1 =>
    if p < 2 then
      if f.src == s.mac || mine then [] else (1 - p) :: (if bridge then [2] else [])
    else if bridge && !mine then [0, 1] else []
  | _ =>
    if p < 2 then (if bridge && !mine then [2] else [])
    else if bridge && !mine then [0, 1] else []

/-- R353: the correctionField after the transparent clock: residence, and for Sync the peer delay of the ingress port. -/
def State.residence (s : State) (p : Nat) (f : EthFrame) (resNs : Nat) : Int :=
  if s.flag NET_MODE_TC_EN then
    match f.ptp with
    | .sync => f.corr + ((resNs * 65536 + s.peerDelay p * 65536 : Nat) : Int)
    | .pdelayResp => f.corr + ((resNs * 65536 : Nat) : Int)
    | _ => f.corr
  else f.corr

/-- R354, R359: a frame from port p as it leaves by port q: behind a RedBox it takes the engine's HSR tag or PRP trailer towards the ring or
LAN (PTP none in PRP mode), and loses it towards C. -/
def State.redBox (s : State) (p q : Nat) (f : EthFrame) : EthFrame :=
  let seq := s.net.redSeq
  match s.getF NET_MODE_MODE with
  | 0 => f
  | 1 =>
    if q = 2 then (if f.hsr.isSome then { f with hsr := none, len := f.len - 6 } else f)
    else if p = 2 then { f with hsr := some seq, len := f.len + 6 }
    else f
  | _ =>
    if q = 2 then (if f.prp.isSome then { f with prp := none, len := f.len - 6 } else f)
    else if p = 2 && f.ptp == .none then { f with prp := some (q, seq), len := f.len + 6 }
    else f

/-- Forward a frame of port p to port q with its residence to that port; a full egress queue discards it and counts it. -/
def State.forward (s : State) (p : Nat) (f : EthFrame) (queue : Nat) (res : List Nat) (full : List Bool) (q : Nat) : State :=
  if !s.flag (NET_PCFG_EN q) then s
  else if lget false full q then s.incSat (NET_PDROP_OVS q)
  else s.txFrame q (.forwarded { s.redBox p q f with corr := s.residence p f (lget 0 res q) } queue)

/-- R361: a frame with no place on a redundant port: a wrong LAN in PRP, untagged on an HSR ring port. -/
def State.wrongLan (s : State) (p : Nat) (f : EthFrame) : Bool :=
  p < 2 && match s.getF NET_MODE_MODE with
    | 1 => f.hsr.isNone
    | 2 => match f.prp with
      | some (lan, _) => lan != p
      | none => false
    | _ => false

/-- R353: the longest residence of a frame the transparent clock corrects. -/
def State.tcMax (s : State) (f : EthFrame) (res : List Nat) (outs : List Nat) : State :=
  let n := outs.foldl (fun n q => Nat.max n (lget 0 res q)) 0
  if s.flag NET_MODE_TC_EN && (f.ptp == .sync || f.ptp == .pdelayResp) && s.getF NET_TCMAX_TCMAX < n then
    s.setF NET_TCMAX_TCMAX n else s

/-- R358 to R362: an accepted frame: redundancy, learning, forwarding. -/
def State.switchFrame (s : State) (p : Nat) (f : EthFrame) (res : List Nat) (full : List Bool) : State :=
  let s := s.setPort p { s.port p with lastRx := some s.now }
  let s := if s.wrongLan p f then s.incSat (if p = 0 then NET_WLAN_WRONGLAN_A else NET_WLAN_WRONGLAN_B) else s
  let own := f.src == s.mac
  let s := if f.superv && own then s.setPort p { s.port p with ownSup := some s.now } else s
  if own && s.getF NET_MODE_MODE == 1 && p < 2 then s
  else
    let d := s.dupCheck f
    if d.1 then d.2
    else
      let s := if d.2.getF NET_MODE_MODE = 0 then d.2.learn f.src p else d.2
      let outs := (s.egressPorts p f).filter (fun q => s.flag (NET_PCFG_EN q))
      let s := s.tcMax f res outs
      let s := if p = 2 then s.nextRedSeq else s
      let queue := s.egressQueue p f
      outs.foldl (fun s q => s.forward p f queue res full q) s

/-- FRAME_RECEIVE (R358): a frame arrives on port p; `res` are its residences to the egress time stamps of ports A, B and C (R353, log 133),
`full` the egress ports whose queue is full. -/
def frameReceiveEff (p : Nat) (f : EthFrame) (res : List Nat) (full : List Bool) (s : State) : State :=
  if p < 3 && s.switchOn && s.flag (NET_PCFG_EN p) then
    let s := s.incWrap (NET_PRX_RX p)
    if !f.fcsOk then s.incSat (NET_PDROP_ERR p)
    else if 1528 < f.len then s.incSat (NET_PDROP_OVS p)
    else s.switchFrame p f res full
  else s

/-- DDT_ENTRY_EXPIRY (R360). -/
def ddtEntryExpiryEff (s : State) : State := if s.switchOn then s.setDdt (s.ddtLive s.net.ddt) else s

/-- ADDRESS_AGEING (R359). -/
def addressAgeingEff (s : State) : State :=
  if s.switchOn then { s with net := { s.net with macs := s.net.macs.filter (fun e => s.now < e.seen + 300 * secU) } } else s

/-- R361: the supervision interval. -/
def State.supInterval (s : State) : Nat := s.getF NET_RCFG_SVI * 100 * msU

/-- R359: is the switch in HSR or PRP mode? -/
def State.redundant (s : State) : Bool := s.getF NET_MODE_MODE == 1 || s.getF NET_MODE_MODE == 2

/-- SUPERVISION_TX (R361): every SVI × 100 ms a supervision frame leaves by both redundant ports. -/
def supervisionTxEff (s : State) : State :=
  let due := match s.net.supLast with
    | some t => t + s.supInterval ≤ s.now
    | none => true
  if s.timeOn && s.redundant && due then
    let n := (s.net.supSeq + 1) % 65536
    let from_ := match s.net.supFrom with
      | some t => t
      | none => s.now
    let s := { s with net := { s.net with supSeq := n, supFrom := some from_, supLast := some s.now } }
    let f := TxFrame.supervision (s.getF NET_RCFG_SVADDR) n
    s.txOwn [0, 1] f
  else s

/-- R361: has a port been without (its own supervision, or any) frames for three intervals? -/
def State.silent (s : State) (seen : Option Nat) : Bool :=
  match seen, s.net.supFrom with
  | some t, _ => t + 3 * s.supInterval ≤ s.now
  | none, some t => t + 3 * s.supInterval ≤ s.now
  | none, none => false

/-- R361: the ports at which a fault is located. -/
def State.redFaults (s : State) : Bool × Bool :=
  if s.getF NET_MODE_MODE = 1 then (s.silent (s.port 0).ownSup, s.silent (s.port 1).ownSup)
  else
    let a := s.silent (s.port 0).lastRx
    let b := s.silent (s.port 1).lastRx
    (a && !b, b && !a)

/-- REDUNDANCY_FAULT_DETECT (R361): the fault is entered, located or cleared; the event is raised on entry and clearing. -/
def redundancyFaultDetectEff (s : State) : State :=
  if s.timeOn && s.redundant then
    let x := s.redFaults
    let fault := x.1 || x.2
    let was := s.flag NET_RSTAT_RFAULT
    let s := (s.setFlag NET_RSTAT_FLT_A x.1).setFlag NET_RSTAT_FLT_B x.2
    let s := s.setFlag NET_RSTAT_RFAULT fault
    let s := if fault then s.setFlag NET_RSTAT_RF_SEEN true else s
    if fault != was then s.raise 96 0 (getBits (s.rd NET_RSTAT) 0 4) else s
  else s

/-- PORT_LINK_CHANGE (R358, R365, R515): a port's link and what it negotiated; ports A and B run at 1 Gb/s, port C as C_SPEED sets, and a link
at another speed is no link (DEDUCED, log 133). The lanes of a port not in use are powered down. -/
def portLinkChangeEff (p : Nat) (lane slow an : Bool) (s : State) : State :=
  if p < 3 && s.switchOn && s.flag (NET_PCFG_EN p) then
    let was := s.flag (NET_PSTAT_LINK p)
    let speed := p = 2 && s.flag NET_MODE_C_SPEED
    let up := lane && slow == speed
    let s := (((s.setFlag (NET_PSTAT_LINK p) up).setFlag (NET_PSTAT_SPEED p) speed).setFlag (NET_PSTAT_AN_DONE p) an)
    if up = was then s
    else
      let s := if up then s else s.incWrap (NET_PSTAT_LDOWN p)
      (s.setFlag (NET_PSTAT_LINK_CHG p) true).raise 95 p (b2n up)
  else s

/-! ### Peer delay (R353) -/

/-- PDELAY_MEASURE (R353): once per second a port sends Pdelay_Req. -/
def pdelayMeasureEff (p : Nat) (s : State) : State :=
  if p < 3 && s.timeOn && s.flag (NET_PCFG_EN p) && s.secondPassed (s.port p).pdLast then
    let n := ((s.port p).pdSeq + 1) % 65536
    (s.setPort p { s.port p with pdSeq := n, pdSent := some s.now, pdLast := some s.now }).txOwn [p] (.pdelayReq n)
  else s

/-- PDELAY_REQ_RECEIVE (R353): answered one-step with the turnaround (2^−16 ns) in the correctionField. -/
def pdelayReqReceiveEff (p seq : Nat) (turn : Int) (s : State) : State :=
  if p < 3 && s.timeOn && s.flag (NET_PCFG_EN p) then s.txOwn [p] (.pdelayResp seq turn) else s

/-- PDELAY_RESP_RECEIVE (R353): half of the round trip less the turnaround, in ns. -/
def pdelayRespReceiveEff (p seq : Nat) (corr : Int) (s : State) : State :=
  match (s.port p).pdSent with
  | some t1 =>
    if p < 3 && s.timeOn && s.flag (NET_PCFG_EN p) && (s.port p).pdSeq == seq then
      let d := (((s.now - t1) * 4096 : Nat) : Int) - corr
      let s := s.setPort p { s.port p with pdSent := none }
      s.setF (NET_PDLY_PDLY p) (clampI 0 0xFFFFFFFE (divHalfEven d 131072)).toNat
    else s
  | none => s

/-! ### MDIO (R358, R365) -/

/-- R365: the frame a word written to NET_MDIO starts. -/
def mdioOpOf (v : Nat) : MdioOp :=
  match v / 1024 % 4 with
  | 0 => .c22Read
  | 1 => if bitN v 12 then .c45Write else .c22Write
  | 2 => .c45Address
  | _ => .c45Read

/-- R365: a write to NET_MDIO: refused while a frame is in progress, otherwise its frame starts. -/
def State.mdioW (v : Nat) (s : State) : Status × State :=
  if s.flag NET_MDIO_BUSY then (.stateDenied, s)
  else
    let s := ((s.setF NET_MDIO_PHYAD v).setF NET_MDIO_DEVAD (v / 32)).setF NET_MDIO_DATA (v / 65536)
    (.ok, { s.setFlag NET_MDIO_BUSY true with net := { s.net with mdio := some (mdioOpOf v) } })

/-- A write to NET_MDIO that asks for the frame `op`. -/
def mdioEff (op : MdioOp) (r : Requester) (v : Nat) (s : State) : State :=
  if mdioOpOf v = op then (s.hostWrite r NET_MDIO (State.mdioW v)).2 else s

/-- MDIO_FRAME_DONE (R358): BUSY falls; a read frame leaves the word read in DATA. -/
def mdioFrameDoneEff (data : Nat) (s : State) : State :=
  match (if s.sys.refPresent then s.net.mdio else none) with
  | some op =>
    let s := { s with net := { s.net with mdio := none } }.setFlag NET_MDIO_BUSY false
    match op with
    | .c22Read => s.setF NET_MDIO_DATA data
    | .c45Read => s.setF NET_MDIO_DATA data
    | _ => s
  | none => s

end Sys2Proof.Machine
end

