-- ==== Sys2Proof/Machine/Analog.lean ====
section
/-!
DEFINITION. The analogue island (02 R26 to R81): fusion of the two gains, slice arbitration, the Fumarole rotation,
references, the auxiliary converter and its queue.
-/
namespace Sys2Proof.Machine

/-! ### Groups, roles and positions (R28, R29) -/

/-- The role field of position PSk of group g (R76). -/
def mapF (g k : Nat) : Field := if k < 8 then ⟨CNV_MAP0 g, 4 * k, 4⟩ else ⟨CNV_MAP1 g, 4 * (k - 8), 4⟩

/-- R28: the channel of a role code below 0xE in group g. -/
def roleChan (g role : Nat) : Nat := if role < 12 then 6 * g + role / 2 else 48 + 2 * g + (role - 12)

/-- The group of a channel (00 Names). -/
def chanGroup (c : Nat) : Nat := if c < 48 then c / 6 else (c - 48) / 2

/-- R28: the L or V role of a channel in its group. -/
def lowRole (c : Nat) : Nat := if c < 48 then 2 * (c % 6) else 12 + (c - 48) % 2

/-- R28: does a role use gain ×16? -/
def roleX16 (role : Nat) : Bool := role < 12 && role % 2 == 1

/-- A group's state that no register shows. -/
def State.grp (s : State) (g : Nat) : GroupInt := lget resetGroup s.ana.groups g

/-- R40, R52: the slice of the group that is being calibrated, if any; until it takes role SP no role is its own. -/
def State.calPos (s : State) (g : Nat) : Option Nat := (s.grp g).cal.map (·.1)

/-- The position that holds a role, if any. -/
def State.posOf (s : State) (g role : Nat) : Option Nat :=
  (upto 15).find? (fun k => s.getF (mapF g k) = role && s.calPos g != some k)

/-- R40, R52: the slice the group can call in, if it has a spare: the one being calibrated, or the one that holds role SP. -/
def State.spare (s : State) (g : Nat) : Option Nat :=
  let p := s.getF (CNV_GSTAT_SPARE_POS g)
  if (s.calPos g).isSome then s.calPos g else if p < 15 then some p else none

/-- Change a group's state. -/
def State.setGrp (s : State) (g : Nat) (x : GroupInt) : State :=
  { s with ana := { s.ana with groups := lset s.ana.groups g x } }

/-- A channel's state that no register shows. -/
def State.chan (s : State) (c : Nat) : ChanInt := lget resetChan s.ana.chans c

/-- Change a channel's state. -/
def State.setChan (s : State) (c : Nat) (x : ChanInt) : State :=
  { s with ana := { s.ana with chans := lset s.ana.chans c x } }

/-! ### Fusion (R30 to R35) -/

/-- The value in fused LSB of a raw code of position k: weight 4 at ×16, 64 at ×1, offset in 1/64 raw LSB and gain in
Q1.23 of the calibration set in force for that gain, rounded half to even. -/
def State.sliceVal (s : State) (g k : Nat) (x16 : Bool) (raw : Int) : Int :=
  if x16 then
    divHalfEven (4 * s.getF (CNV_CAL_GAIN16_GAIN16 g k) * (64 * raw - s.getI (CNV_CAL_OFS16_OFS16 g k))) 536870912
  else
    divHalfEven (64 * s.getF (CNV_CAL_GAIN1_GAIN1 g k) * (64 * raw - s.getI (CNV_CAL_OFS1_OFS1 g k))) 536870912

/-- R30, R41: 7/8 of a slice's raw full scale. -/
def in78 (raw : Int) : Bool := absN raw ≤ 114688

/-- R32: the clamp of a fused value. -/
def clampFused (v : Int) : Int := clampI (-8388607) 8388607 v

/-- R32: the raw codes of an L or V slice that carry OVERRANGE. -/
def rawOver (raw : Int) : Bool := raw == -131072 || raw == 131071

/-- R73: SLICE_TOL in fused LSB. -/
def State.sliceTol (s : State) (g : Nat) : Nat := 16 * s.getF (CNV_GCFG_SLICE_TOL g)

/-- The raw code of position k in a group's codes. -/
def rawAt (codes : List Int) (k : Nat) : Int := lget 0 codes k

/-- Record a channel's fused sample: its value and its tag. -/
def State.outSample (s : State) (c : Nat) (v : Int) (tag : Tag) : State :=
  (s.setChan c { s.chan c with last := v }).setF (CNV_CH_TAG c) (tagCode tag)

/-- R31: a change of fusion state: 0 H, 1 L. -/
def State.setRange (s : State) (c r : Nat) : State :=
  if s.getF (CNV_CH_RANGE c) = r then s else (s.setF (CNV_CH_RANGE c) r).incWrap (CNV_CH_RCHG c)

/-- R31, R47, R48, R53, R54: one strobe of a current channel whose L slice at `kl` gave `l` and H slice at `kh` gave
`h`; `base` is the tag the group's reference gives. -/
def State.fuseCurrent (s : State) (g c : Nat) (base : Tag) (kl kh : Nat) (l h : Int) : State :=
  let fl := s.sliceVal g kl false l
  let fh := s.sliceVal g kh true h
  let zone := in78 h
  let lowTag := tagMax base (tagIf (rawOver l) .overrange)
  let busy := s.flag (CNV_CH_ARB c) || s.flag (CNV_CH_ARB_WAIT c)
  let run := s.getF (CNV_CH_DIS_RUN c)
  let run' := if busy || run = 4 then run
    else if !zone then run
    else if s.sliceTol g < absN (fh - fl) then run + 1 else 0
  let s := if run' = 4 && run != 4 then s.setChan c { s.chan c with n4 := s.ana.strobe - 1 } else s
  let s := s.setF (CNV_CH_DIS_RUN c) run'
  if busy then s.outSample c (clampFused fl) (tagMax lowTag .substituted)
  else if run' = 4 then s.outSample c (clampFused fl) (tagMax lowTag (tagIf (s.spare g).isSome .substituted))
  else if s.getF (CNV_CH_RANGE c) = 0 then
    if zone then s.outSample c (clampFused fh) base
    else ((s.setRange c 1).setChan c { s.chan c with ovl := 0 }).outSample c (clampFused fl) lowTag
  else
    let n := if zone then (s.chan c).ovl + 1 else 0
    let s := s.setChan c { s.chan c with ovl := n }
    let s := if 8 ≤ n then (s.setRange c 0).setChan c { s.chan c with ovl := 0 } else s
    s.outSample c (clampFused fl) lowTag

/-- R31 to R35, R39: one strobe of a channel. -/
def State.fuseChan (s : State) (codes : List Int) (c : Nat) : State :=
  let g := chanGroup c
  let base := tagIf (!s.flag (CNV_GSTAT_REF_SETTLED g)) .refUnsettled
  if s.flag (CNV_CH_NO_SLICE c) then s.outSample c 0 .missing
  else
    match s.posOf g (lowRole c) with
    | none => s.outSample c 0 .missing
    | some kl =>
      let l := rawAt codes kl
      let low := s.outSample c (clampFused (s.sliceVal g kl false l)) (tagMax base (tagIf (rawOver l) .overrange))
      if 48 ≤ c || s.flag (CNV_CH_SINGLE_L c) then low
      else
        match s.posOf g (lowRole c + 1) with
        | none => low
        | some kh => s.fuseCurrent g c base kl kh l (rawAt codes kh)

/-- R49, R55: one strobe of an open arbitration window. -/
def State.arbCount (s : State) (g n : Nat) (codes : List Int) : State :=
  match (s.grp g).arb, s.spare g with
  | some w, some k =>
    let low := !s.flag (CNV_GSTAT_REF_SETTLED g)
    let w := { w with unsettled := w.unsettled || (low && w.n0 ≤ n && n < w.n0 + 64) }
    let role := lowRole w.ch
    let raw := rawAt codes k
    let w :=
      match s.posOf g role, s.posOf g (role + 1) with
      | some kl, some kh =>
        if w.n0 < n && n < w.n0 + 64 && in78 raw then
          let fs := s.sliceVal g k true raw
          let tol := s.sliceTol g
          { w with
            n := w.n + 1
            dH := w.dH + b2n (tol < absN (fs - s.sliceVal g kh true (rawAt codes kh)))
            dL := w.dL + b2n (tol < absN (fs - s.sliceVal g kl false (rawAt codes kl))) }
        else w
      | _, _ => w
    s.setGrp g { s.grp g with arb := some w }
  | _, _ => s

/-- R40 step 2, R41, R45: one strobe of a shadow comparison. -/
def State.shadowCount (s : State) (g n : Nat) (codes : List Int) : State :=
  let x := s.grp g
  let role := s.getF (CNV_GSTAT_ROT_ROLE g)
  if s.flag (CNV_GSTAT_ROT_RUN g) && s.getF (CNV_GSTAT_ROT_PHASE g) == 0 && x.arb.isNone
      && s.flag (CNV_GSTAT_REF_SETTLED g) && x.s0 ≤ n && n < x.s0 + 1024 * (x.ext + 1) then
    match s.posOf g role, s.spare g with
    | some ka, some kb =>
      let ra := rawAt codes ka
      let rb := rawAt codes kb
      if in78 ra && in78 rb then
        let d := absN (s.sliceVal g ka (roleX16 role) ra - s.sliceVal g kb (roleX16 role) rb)
        s.setGrp g { x with cmp := x.cmp + 1, dif := x.dif + b2n (s.sliceTol g < d) }
      else s
    | _, _ => s
  else s

/-- R59: a reference change accepted before this strobe: REF_SETTLED falls. DESIGN CHOICE (log 87): the group switches, and
REF_ACT changes, at the fall. DESIGN CHOICE (log 88): a further change accepted while the flag is low starts the bound of 2,048
strobes again at its strobe. A rotation that pauses (R45) leaves ROT_RUN and ROT_PHASE as they stand (DESIGN CHOICE, log 135). -/
def State.refStrobe (s : State) (g n : Nat) : State :=
  let x := s.grp g
  match x.refPend with
  | some r =>
    ((s.setGrp g { x with
        refPend := none, refFall := some n, refTo := r, winRun := 0, lastLow := some n
        refLow := if s.flag (CNV_GSTAT_REF_SETTLED g) then n else x.refLow }).setFlag
      (CNV_GSTAT_REF_SETTLED g) false).setF (CNV_GSTAT_REF_ACT g) r
  | none => if s.flag (CNV_GSTAT_REF_SETTLED g) then s else s.setGrp g { x with lastLow := some n }

/-- R60: the window monitor of an EXTERNAL reference at one strobe. -/
def State.refMonitor (s : State) (g : Nat) (inWindow : Bool) : State :=
  let x := s.grp g
  if s.getF (CNV_GSTAT_REF_ACT g) = 1 && s.flag (CNV_GSTAT_REF_SETTLED g) && !inWindow then
    s.setGrp g { x with winRun := satInc 16 x.winRun }
  else s.setGrp g { x with winRun := 0 }

/-- R26: the channels of a group, current channels first. -/
def groupChans (g : Nat) : List Nat := (upto 6).map (6 * g + ·) ++ [48 + 2 * g, 49 + 2 * g]

/-- One strobe of a slice group. -/
def State.groupStrobe (s : State) (n g : Nat) (codes : List Int) (inWindow : Bool) : State :=
  let s := (s.refStrobe g n).refMonitor g inWindow
  let s := (groupChans g).foldl (fun s c => s.fuseChan codes c) s
  (s.arbCount g n codes).shadowCount g n codes

/-! ### Snapshots of the auxiliary queue (R67 to R69) -/

/-- R67, R68: the marker that opens a run; `src` 0 sequencer, 1 snapshot. -/
def State.auxMarker (s : State) (src : Nat) : AuxEntry :=
  ⟨0xFF, false, src, (s.getF AUX_STAT_SEQ + 1) % 65536, s.getF TIM_IDX_IDX⟩

/-- R69: the channels of the snapshot masks. -/
def State.snapChans (s : State) : List Nat :=
  (upto 64).filter (fun c => if c < 32 then bitN (s.getF AUX_SNAP_LO_MASK_LO) c else bitN (s.getF AUX_SNAP_HI_MASK_HI) (c - 32))

/-- R69: the block of a snapshot of the latest strobe: its marker and the samples, in channel order. DESIGN CHOICE (log 89): the
masks count as they stand at that strobe. -/
def State.snapBlock (s : State) : List AuxEntry :=
  let m := s.auxMarker 1
  m :: s.snapChans.map (fun c => ⟨0x10 + c, false, s.getF (CNV_CH_TAG c), m.seq, tcBits 32 (s.chan c).last⟩)

/-- R69: every snapshot asked for since the strobe before captures the samples of this strobe; its block waits to be queued. -/
def State.snapTake (s : State) : State :=
  let s := (upto s.aux.snapReq).foldl (fun (s : State) _ =>
    { s with aux := { s.aux with held := s.aux.held ++ [AuxItem.block s.snapBlock] } }.incWrap AUX_STAT_SEQ) s
  { s with aux := { s.aux with snapReq := 0 } }

/-- R21, R405: do the analogue inputs and the filter chain run? From start-up step 8, and never in SAFE. -/
def State.sampling (s : State) : Bool := 8 ≤ s.sys.step && !(s.mode == .safe)

/-- R27, R31, R345: one strobe: the index advances and every group forms its samples from the raw codes of its fifteen
positions; `refA` and `refB` say whether the external references lie within their window. Snapshots asked for before the strobe
capture its samples. -/
def State.strobe (s : State) (raw : List (List Int)) (refA refB : Bool) : State :=
  let n := s.ana.strobe
  let s := { s with ana := { s.ana with strobe := n + 1 } }.setF TIM_IDX_IDX n
  ((upto 8).foldl (fun s g => s.groupStrobe n g (lget [] raw g) (if g < 4 then refA else refB)) s).snapTake

/-! ### Retirement and arbitration (R46 to R55) -/

/-- R46: the group has used its spare. -/
def State.degrade (s : State) (g : Nat) : State :=
  let s := s.setGrp g { s.grp g with cal := none, vFailed := false }
  let s := (s.setFlag (CNV_GSTAT_ROT_RUN g) false).setF (CNV_GSTAT_ROT_PHASE g) 3
  let s := s.setF (CNV_GSTAT_SPARE_POS g) 0xF
  (s.setFlag (CNV_GSTAT_CAL_DEGRADED g) true).raise 17 g 0

/-- R37, R462: retire the slice at position k; `cause` 0 calibration, 1 arbitration, 2 void limit, 3 no spare. -/
def State.retire (s : State) (g k cause : Nat) : State :=
  let role := s.getF (mapF g k)
  let d := if role < 14 then k + cause * 16 + roleChan g role * 256 else k + cause * 16 + 16384
  (s.setF (mapF g k) 0xF).raise 16 g d

/-- R49, R50, R51: retire a channel's slice of `role` and give the role to the spare. -/
def State.retireToSpare (s : State) (g role cause : Nat) : State :=
  let s := match s.posOf g role with
    | some k => s.retire g k cause
    | none => s
  let s := match s.spare g with
    | some k => s.setF (mapF g k) role
    | none => s
  s.degrade g

/-- R53, R54: retire a channel's H slice in a group without a spare. DESIGN CHOICE (log 92): RANGE then stays as it stood, and
DIS_RUN reads 0. -/
def State.singleL (s : State) (g c : Nat) : State :=
  let s := match s.posOf g (lowRole c + 1) with
    | some k => s.retire g k 3
    | none => s
  ((s.setFlag (CNV_CH_SINGLE_L c) true).setFlag (CNV_CH_ARB_WAIT c) false).setF (CNV_CH_DIS_RUN c) 0

/-- R48, R55: open the window of channel c with its first strobe `n0`; of the strobes already past, one from n0 on may have been
unsettled. A rotation step that the arbitration interrupts (R52) leaves ROT_RUN and ROT_PHASE as they stand (DESIGN CHOICE, log 135). -/
def State.openWindow (s : State) (g c n0 : Nat) : State :=
  let low := match (s.grp g).lastLow with
    | some m => decide (n0 ≤ m)
    | none => false
  let s := s.setGrp g { s.grp g with arb := some ⟨c, n0, 0, 0, 0, low⟩ }
  let s := (s.setFlag (CNV_GSTAT_ARB_BUSY g) true).setF (CNV_GSTAT_ARB_CH g) c
  ((s.setFlag (CNV_CH_ARB c) true).setFlag (CNV_CH_ARB_WAIT c) false).incSat (CNV_ACNT_ARB_CNT g)

/-- R48, R53, R54: a channel whose count has reached 4. -/
def State.callSpare (s : State) (g c : Nat) : State :=
  if s.getF (CNV_CH_DIS_RUN c) = 4 && !s.flag (CNV_CH_ARB c) && !s.flag (CNV_CH_ARB_WAIT c)
      && !s.flag (CNV_CH_SINGLE_L c) then
    if (s.spare g).isNone then s.singleL g c
    else if (s.grp g).arb.isNone then s.openWindow g c (s.chan c).n4
    else s.setFlag (CNV_CH_ARB_WAIT c) true
  else s

/-- ARBITRATION_OPEN (R48): every channel of the group whose count has reached 4, lowest number first. -/
def arbitrationOpenEff (g : Nat) (s : State) : State :=
  if g < 8 && s.sampling then (upto 6).foldl (fun s j => s.callSpare g (6 * g + j)) s else s

/-- R49: the channel resumes in state L, counts at 0. -/
def State.resumeChan (s : State) (c : Nat) : State :=
  ((s.setRange c 1).setChan c { s.chan c with ovl := 0 }).setF (CNV_CH_DIS_RUN c) 0

/-- R52: after a void decision the interrupted rotation step restarts at the next strobe. -/
def State.rotResume (s : State) (g : Nat) : State :=
  let x := s.grp g
  match s.getF (CNV_GSTAT_ROT_PHASE g) with
  | 0 => s.setGrp g { x with s0 := s.ana.strobe, cmp := 0, dif := 0, ext := 0 }
  | 1 => s.setGrp g { x with calFrom := s.ana.strobe }
  | 2 => (s.setGrp g { x with s0 := s.ana.strobe, cmp := 0, dif := 0, ext := 0 }).setF (CNV_GSTAT_ROT_PHASE g) 0
  | _ => s

/-- R53: what follows the end of a window: a waiting channel's window, or its H slice retired where no spare is left. DESIGN
CHOICE (log 93): of several waiting channels that reached the count at different strobes, the lowest channel number goes first. -/
def State.nextWaiting (s : State) (g n0 : Nat) : State :=
  let waiting := ((upto 6).map (6 * g + ·)).filter (fun c => s.flag (CNV_CH_ARB_WAIT c))
  match waiting with
  | [] => s.rotResume g
  | c :: _ => if (s.spare g).isSome then s.openWindow g c n0 else waiting.foldl (fun s c => s.singleL g c) s

/-- R49, R50, R51, R55: the decision on the counts of a window. -/
def State.arbDecide (s : State) (g : Nat) (w : ArbWin) : State :=
  let hRole := lowRole w.ch + 1
  if !w.unsettled && 16 ≤ w.n && w.n ≤ 2 * w.dH && 8 * w.dL ≤ w.n then s.retireToSpare g hRole 1
  else if !w.unsettled && 16 ≤ w.n && w.n ≤ 2 * w.dL && 8 * w.dH ≤ w.n then s.retireToSpare g (lowRole w.ch) 1
  else
    let s := (s.incSat (CNV_ACNT_VOID_CNT g)).raise 19 g w.ch
    let vs := w.n0 :: ((s.chan w.ch).voids.filter (fun v => w.n0 < v + 1024000))
    let s := s.setChan w.ch { s.chan w.ch with voids := vs.take 4 }
    if 4 ≤ vs.length then s.retireToSpare g hRole 2 else s

/-- ARBITRATION_DECISION (R49): the window of 64 strobes has ended. -/
def arbitrationDecisionEff (g : Nat) (s : State) : State :=
  match (s.grp g).arb with
  | some w =>
    if g < 8 && w.n0 + 64 ≤ s.ana.strobe then
      let s := s.setGrp g { s.grp g with arb := none }
      let s := (s.setFlag (CNV_GSTAT_ARB_BUSY g) false).setFlag (CNV_CH_ARB w.ch) false
      ((s.arbDecide g w).resumeChan w.ch).nextWaiting g (w.n0 + 64)
    else s
  | none => s

/-! ### The Fumarole rotation (R40 to R46) -/

/-- R40: may a rotation step start now? -/
def State.rotReady (s : State) (g : Nat) : Bool :=
  let x := s.grp g
  let ph := s.getF (CNV_GSTAT_ROT_PHASE g)
  s.flag (CNV_GCFG_ROT_EN g) && (s.spare g).isSome && !s.flag (CNV_GSTAT_CAL_DEGRADED g) && x.arb.isNone
    && s.flag (CNV_GSTAT_REF_SETTLED g) && s.sampling
    && (ph == 3 || (ph == 2 && (x.ext == 9 || x.prepFrom + 1024 ≤ s.ana.strobe)))

/-- ROTATION_STEP_START (R40): the spare shadows the next role from the next strobe. -/
def rotationStepStartEff (g : Nat) (s : State) : State :=
  if g < 8 && s.rotReady g then
    let first := s.getF (CNV_GSTAT_ROT_PHASE g) == 3 && !s.flag (CNV_GSTAT_ROT_RUN g)
    let role := if first then 0 else (s.getF (CNV_GSTAT_ROT_ROLE g) + 1) % 14
    let s := if role = 0 && !first then s.incWrap (CNV_GCNT_ROT_DONE g) else s
    let s := ((s.setFlag (CNV_GSTAT_ROT_RUN g) true).setF (CNV_GSTAT_ROT_PHASE g) 0).setF (CNV_GSTAT_ROT_ROLE g) role
    s.setGrp g { s.grp g with s0 := s.ana.strobe, cmp := 0, dif := 0, ext := 0, vFailed := false }
  else s

/-- R40 steps 3 and 4: the spare takes the shadowed role, the freed slice is calibrated. What its code in CNV_MAP and SPARE_POS
read until it takes role SP in step 5 the spec leaves open: free values (log 94). -/
def State.handOver (s : State) (g role : Nat) (why : CalWhy) : State :=
  match s.posOf g role, s.spare g with
  | some ka, some kb =>
    let s := (s.setF (mapF g kb) role).setF (mapF g ka) (Config.freedRole g role)
    let s := (s.setF (CNV_GSTAT_SPARE_POS g) (Config.freedSparePos g role)).setF (CNV_GSTAT_ROT_PHASE g) 1
    s.setGrp g { s.grp g with cal := some (ka, why), calFrom := s.ana.strobe }
  | _, _ => s

/-- SHADOW_END (R41 to R44): the comparison of 1,024 strobes (or its extensions) has ended. DESIGN CHOICE (log 95): the counts of
compared and of differing strobes run on over the extensions, against the same limits 256 and 4. -/
def shadowEndEff (g : Nat) (s : State) : State :=
  let x := s.grp g
  let role := s.getF (CNV_GSTAT_ROT_ROLE g)
  if g < 8 && s.flag (CNV_GSTAT_ROT_RUN g) && s.getF (CNV_GSTAT_ROT_PHASE g) == 0 && x.arb.isNone
      && s.flag (CNV_GSTAT_REF_SETTLED g) && x.s0 + 1024 * (x.ext + 1) ≤ s.ana.strobe then
    if x.cmp < 256 then
      if x.ext < 8 then s.setGrp g { x with ext := x.ext + 1 }
      else ((s.setGrp g { x with ext := 9 }).incSat (CNV_GCNT_SKIP g)).setF (CNV_GSTAT_ROT_PHASE g) 2
    else if x.dif ≤ 4 then s.handOver g role .freed
    else
      let s := (s.incSat (CNV_GCNT_SHADOW_MM g)).raise 18 g role
      if role < 12 then s.openWindow g (roleChan g role) s.ana.strobe
      else if x.vFailed then s.handOver g role .freedV
      else
        match s.spare g with
        | some k =>
          (s.setGrp g { x with vFailed := true, cal := some (k, .repeatSpare), calFrom := s.ana.strobe }).setF
            (CNV_GSTAT_ROT_PHASE g) 1
        | none => s
  else s

/-- R37: does a calibration pass for both gains? -/
def calPass (c : SliceCal) : Bool :=
  let ok (ofs : Int) (gain : Nat) (seg : List Int) : Bool :=
    absN ofs ≤ 41943 && 100 * absN ((gain : Int) - 8388608) ≤ 8388608 && seg.all (fun x => absN x ≤ 256)
  ok c.ofs1 c.gain1 c.seg1 && ok c.ofs16 c.gain16 c.seg16

/-- R36: the key of the segment corrections of position k at a gain. -/
def segKey (g k : Nat) (x16 : Bool) : Nat := (g * 15 + k) * 2 + b2n x16

/-- R36: the segment corrections in force of a slice at a gain. -/
def State.segs (s : State) (g k : Nat) (x16 : Bool) : List Int := Store.get [] s.ana.segs (segKey g k x16)

/-- R36, R79: the calibration set of position k is replaced, its segment corrections with it. -/
def State.setCal (s : State) (g k : Nat) (c : SliceCal) : State :=
  let s := { s with ana := { s.ana with
    segs := Store.set [] (Store.set [] s.ana.segs (segKey g k false) c.seg1) (segKey g k true) c.seg16 } }
  (((s.setI (CNV_CAL_OFS1_OFS1 g k) c.ofs1).setF (CNV_CAL_GAIN1_GAIN1 g k) c.gain1).setI
    (CNV_CAL_OFS16_OFS16 g k) c.ofs16).setF (CNV_CAL_GAIN16_GAIN16 g k) c.gain16

/-- SLICE_CALIBRATION_DONE (R36, R37, R44): 49,152 strobes after it began, with what it found; a set that fails is not taken, so that
CNV_CAL shows the one before (DESIGN CHOICE, log 135). -/
def sliceCalibrationDoneEff (g : Nat) (c : SliceCal) (s : State) : State :=
  let x := s.grp g
  match x.cal with
  | some (k, why) =>
    if g < 8 && x.arb.isNone && s.flag (CNV_GSTAT_REF_SETTLED g) && x.calFrom + 49152 ≤ s.ana.strobe then
      let s := s.setGrp g { x with cal := none, prepFrom := s.ana.strobe }
      let s := (s.setF (mapF g k) 0xE).setF (CNV_GSTAT_SPARE_POS g) k
      if calPass c then
        let s := s.setCal g k c
        match why with
        | .repeatSpare =>
          (s.setGrp g { s.grp g with s0 := s.ana.strobe, cmp := 0, dif := 0, ext := 0 }).setF (CNV_GSTAT_ROT_PHASE g) 0
        | _ => s.setF (CNV_GSTAT_ROT_PHASE g) 2
      else (s.retire g k 0).degrade g
    else s
  | none => s

/-- R39: the order in which the spare fills vacated roles: L, then V, then H, each in order of role code. -/
def fillOrder : List Nat := [0, 2, 4, 6, 8, 10, 12, 13, 1, 3, 5, 7, 9, 11]

/-- R39: what is left of a role without a slice. -/
def State.vacate (s : State) (g role : Nat) : State :=
  let c := roleChan g role
  if roleX16 role then s.setFlag (CNV_CH_SINGLE_L c) true else s.setFlag (CNV_CH_NO_SLICE c) true

/-- R36: the start-up sets of the slices that pass are taken; CNV_CAL of one that fails stays 0 (DESIGN CHOICE, log 135). -/
def State.takeCals (s : State) (g : Nat) (cals : List SliceCal) : State :=
  (upto 15).foldl (fun s k => match cals[k]? with
    | some c => if calPass c then s.setCal g k c else s
    | none => s) s

/-- R41: these roles stay without a slice. -/
def State.vacateAll (s : State) (g : Nat) (rs : List Nat) : State := rs.foldl (fun s r => s.vacate g r) s

/-- R38, R39: the start-up calibration of one group with what it found for each position. -/
def State.startCal (s : State) (g : Nat) (cals : List SliceCal) : State :=
  let bad (k : Nat) : Bool := match cals[k]? with
    | some c => !calPass c
    | none => true
  let failed := (upto 15).filter bad
  let s := (failed.foldl (fun s k => s.retire g k 0) (s.takeCals g cals)).setFlag (CNV_GSTAT_REF_SETTLED g) true
  let vac := fillOrder.filter (fun r => failed.contains r)
  if failed.isEmpty then s
  else if failed.contains 14 then (s.vacateAll g vac).degrade g
  else
    match vac with
    | [] => s
    | r :: rest => ((s.setF (mapF g 14) r).vacateAll g rest).degrade g

/-! ### References (R56 to R60) -/

/-- CNV_REFREQ_WRITE (R57, R58, R75): the checks in their order, then the request. DESIGN CHOICE (log 96): a value equal to REF_ACT
is kept in REF_REQ and asks for no change. -/
def State.refReq (g v : Nat) (s : State) : Status × State :=
  let w := v % 4
  if !(s.mode == .test) then (.notInTest, s)
  else if w = 1 && !bitN s.sys.ballMap (if g < 4 then 0 else 1) then (.resourceBusy, s)
  else if w = 3 then (.valueRange, s)
  else
    let s' := s.setF (CNV_REFREQ_REF_REQ g) w
    (.ok, if w = s.getF (CNV_GSTAT_REF_ACT g) then s' else s'.setGrp g { s.grp g with refPend := some w })

/-- CNV_REFREQ_WRITE (R58) by a requester. -/
def cnvRefreqWriteEff (r : Requester) (g v : Nat) (s : State) : State :=
  if g < 8 then (s.hostWrite r (CNV_REFREQ g) (State.refReq g v)).2 else s

/-- REF_SETTLED_RISE (R59, R45): no later than 2,048 strobes after the fall. -/
def refSettledRiseEff (g : Nat) (s : State) : State :=
  let x := s.grp g
  match x.refFall with
  | some f =>
    if g < 8 && s.ana.strobe ≤ f + 2048 then
      let s := (s.setGrp g { x with refFall := none }).setFlag (CNV_GSTAT_REF_SETTLED g) true
      if x.arb.isSome then s
      else
        match s.getF (CNV_GSTAT_ROT_PHASE g) with
        | 0 => s.setGrp g { s.grp g with s0 := s.ana.strobe, cmp := 0, dif := 0, ext := 0 }
        | 1 => s.setGrp g { s.grp g with calFrom := s.ana.strobe }
        | 2 => s.setGrp g { s.grp g with prepFrom := x.prepFrom + (s.ana.strobe - x.refLow) }
        | _ => s
    else s
  | none => s

/-- REF_WINDOW_FAULT (R60): sixteen consecutive strobes outside the window. -/
def refWindowFaultEff (g : Nat) (s : State) : State :=
  let x := s.grp g
  if g < 8 && 16 ≤ x.winRun then
    ((s.setGrp g { x with winRun := 0, refPend := some 0 }).setFlag (CNV_GSTAT_REF_FAULT g) true).raise 20 g 0
  else s

/-- REF_SETTLING_FAULT (R60): not settled within 2,048 strobes; INTERNAL from the strobe after. -/
def refSettlingFaultEff (g : Nat) (s : State) : State :=
  let x := s.grp g
  match x.refFall with
  | some f =>
    if g < 8 && f + 2048 ≤ s.ana.strobe then
      (((s.setGrp g { x with refFall := some (f + 2048), refTo := 0 }).setF (CNV_GSTAT_REF_ACT g) 0).setFlag
        (CNV_GSTAT_REF_FAULT g) true).raise 20 g 1
    else s
  | none => s

/-! ### The auxiliary converter (R61 to R72) -/

/-- R70, R71: `n` entries are discarded. -/
def State.auxDrop (s : State) (n : Nat) : State :=
  let s := { s with aux := { s.aux with dropNext := true } }.addSat AUX_CNT_DROP_CNT n
  if s.flag AUX_QSTAT_OVF then s else (s.setFlag AUX_QSTAT_OVF true).raise 21 0 (s.getF AUX_CNT_DROP_CNT)

/-- R67, R70: queue an entry, or discard it. -/
def State.auxStore (s : State) (e : AuxEntry) : State :=
  if s.aux.queue.length < 512 then
    { s with aux := { s.aux with queue := s.aux.queue ++ [{ e with dropBefore := s.aux.dropNext }], dropNext := false } }
  else s.auxDrop 1

/-- R69: an entry is queued, behind a snapshot's block that has been captured and is not queued yet. -/
def State.auxPush (s : State) (e : AuxEntry) : State :=
  if s.aux.held.isEmpty then s.auxStore e else { s with aux := { s.aux with held := s.aux.held ++ [AuxItem.entry e] } }

/-- R70: a snapshot's block is queued whole or discarded whole. -/
def State.auxBlock (s : State) (es : List AuxEntry) : State :=
  if s.aux.queue.length + es.length ≤ 512 then es.foldl State.auxStore s else s.auxDrop es.length

/-- R69: the entries that waited behind a block, up to the next one. -/
def State.auxFollow : List AuxItem → State → State
  | .entry e :: rest, s => State.auxFollow rest (s.auxStore e)
  | items, s => { s with aux := { s.aux with held := items } }

/-- R64, R68: a sequence starts with entry 0. DESIGN CHOICE (log 90): a marker that the full queue discards counts in SEQ. -/
def State.auxSeq (s : State) : State :=
  let m := s.auxMarker 0
  let s := (s.auxPush m).incWrap AUX_STAT_SEQ
  { s with aux := { s.aux with busy := true, runSeq := m.seq } }.setF AUX_STAT_ENTRY 0

/-- R64: the sequencer starts running. -/
def State.auxRun (s : State) : State :=
  let s := { s with aux := { s.aux with stopReq := false, periodFrom := some s.ana.strobe } }.setFlag AUX_STAT_RUN true
  s.auxSeq

/-- START in AUX_CTL (R64, R66). -/
def State.auxStartW (s : State) : Status × State :=
  if s.flag AUX_STAT_RUN then (.stateDenied, s) else (.ok, s.auxRun)

/-- STOP in AUX_CTL (R66). DESIGN CHOICE (log 91): with no entry in progress, between periods, RUN falls at once. -/
def State.auxStopW (s : State) : Status × State :=
  if !s.flag AUX_STAT_RUN then (.ok, s)
  else if s.aux.busy then (.ok, { s with aux := { s.aux with stopReq := true } })
  else (.ok, s.setFlag AUX_STAT_RUN false)

/-- CLR_CNT in AUX_CTL (R71). -/
def State.auxClrW (s : State) : Status × State := (.ok, (s.setF AUX_CNT_DROP_CNT 0).setF AUX_CNT_SEQ_OVR_CNT 0)

/-- FLUSH in AUX_CTL (R80). -/
def State.auxFlushW (s : State) : Status × State := (.ok, { s with aux := { s.aux with queue := [] } })

/-- AUX_START, AUX_STOP, AUX_CLR_CNT and AUX_FLUSH by a requester. -/
def auxStartEff (r : Requester) (s : State) : State := (s.hostWrite r AUX_CTL State.auxStartW).2
def auxStopEff (r : Requester) (s : State) : State := (s.hostWrite r AUX_CTL State.auxStopW).2
def auxClrCntEff (r : Requester) (s : State) : State := (s.hostWrite r AUX_CTL State.auxClrW).2
def auxFlushEff (r : Requester) (s : State) : State := (s.hostWrite r AUX_CTL State.auxFlushW).2

/-- R61 to R63: the 32-bit VALUE of an entry's conversions. -/
def auxValue (diff signed left : Bool) (avg shift : Nat) (codes : List Int) : Nat :=
  let c := codes.map (fun x => if diff && !signed then x + 32768 else x)
  let v := c.foldl (· + ·) 0 / ((2 ^ shift : Nat) : Int)
  let w := 16 + avg - shift
  if left then tcBits w v * 2 ^ (32 - w) else tcBits 32 v

/-- R64 to R66: what follows an entry's result. -/
def State.auxNext (s : State) : State :=
  let e := s.getF AUX_STAT_ENTRY
  if s.aux.stopReq then { s with aux := { s.aux with stopReq := false, busy := false } }.setFlag AUX_STAT_RUN false
  else if e + 1 < s.getF AUX_CFG_LEN then s.setF AUX_STAT_ENTRY (e + 1)
  else
    match s.getF AUX_CFG_MODE with
    | 0 => { s with aux := { s.aux with busy := false } }.setFlag AUX_STAT_RUN false
    | 1 => s.auxSeq
    | _ => { s with aux := { s.aux with busy := false } }

/-- AUX_ENTRY_DONE (R61): the entry in progress has made its 2^AVG conversions, with these codes. -/
def auxEntryDoneEff (codes : List Int) (s : State) : State :=
  let e := s.getF AUX_STAT_ENTRY
  let avg := s.getF (AUX_ENT_AVG e)
  if s.sys.refPresent && s.flag AUX_STAT_RUN && s.aux.busy && codes.length == 2 ^ avg then
    let diff := s.flag (AUX_ENT_DIFF e)
    let signed := s.flag (AUX_ENT_SIGNED e)
    let left := s.flag (AUX_ENT_LEFT e)
    let flags := avg * 8 + b2n left * 4 + b2n signed * 2 + b2n diff
    (s.auxPush ⟨s.getF (AUX_ENT_INPUT e), false, flags, s.aux.runSeq,
      auxValue diff signed left avg (s.getF (AUX_ENT_SHIFT e)) codes⟩).auxNext
  else s

/-- AUX_PERIOD_START (R65). -/
def auxPeriodStartEff (s : State) : State :=
  match s.aux.periodFrom with
  | some p =>
    let q := p + s.getF AUX_PERIOD_PERIOD
    if s.sys.refPresent && s.flag AUX_STAT_RUN && s.getF AUX_CFG_MODE == 2 && q ≤ s.ana.strobe then
      let s := { s with aux := { s.aux with periodFrom := some q } }
      if s.aux.busy then
        let s := (s.setFlag AUX_QSTAT_SEQ_OVR true).incSat AUX_CNT_SEQ_OVR_CNT
        s.raise 22 0 (s.getF AUX_CNT_SEQ_OVR_CNT)
      else s.auxSeq
    else s
  | none => s

/-- GO in AUX_SNAP_GO (R69). -/
def State.auxSnapW (s : State) : Status × State :=
  if s.getF AUX_SNAP_LO_MASK_LO = 0 && s.getF AUX_SNAP_HI_MASK_HI = 0 then (.valueRange, s)
  else (.ok, { s with aux := { s.aux with snapReq := s.aux.snapReq + 1 } })

/-- AUX_SNAP_GO (R69) by a requester. -/
def auxSnapGoEff (r : Requester) (s : State) : State := (s.hostWrite r AUX_SNAP_GO State.auxSnapW).2

/-- AUX_SNAP_CAPTURE (R69, R70): the block of the first strobe after the write is queued whole or discarded whole, then what
waited behind it. -/
def auxSnapCaptureEff (s : State) : State :=
  match s.aux.held with
  | .block es :: rest => State.auxFollow rest (s.auxBlock es)
  | _ => s

/-- R67: the two words of a queue entry, low word first. -/
def auxWords (e : AuxEntry) : List Nat :=
  [e.value % 4294967296, e.tag % 256 * 16777216 + b2n e.dropBefore * 8388608 + e.flags % 128 * 65536 + e.seq % 65536]

/-- R72, R488: a read of AUX_QDATA_LO: the oldest entry is captured and removed. -/
def State.auxPop (r : Requester) (s : State) : Nat × State :=
  match s.aux.queue with
  | [] => (0, (s.setFlag AUX_QSTAT_EMPTY_READ true).capture r AUX_QDATA_LO [0, 0])
  | e :: rest =>
    (e.value % 4294967296, { s with aux := { s.aux with queue := rest } }.capture r AUX_QDATA_LO (auxWords e))

/-- AUX_QDATA_READ (R72) by a requester; the word read stands in `sys.readBuf`. -/
def auxQdataReadEff (r : Requester) (s : State) : State :=
  let x := s.hostRead r AUX_QDATA_LO (State.auxPop r)
  { x.2 with sys := { x.2.sys with readBuf := [x.1] } }

/-- R66, R80: a write to AUX_CFG. -/
def State.auxCfgW (v : Nat) (s : State) : Status × State :=
  let len := v / 4 % 64
  if s.flag AUX_STAT_RUN then (.stateDenied, s)
  else if v % 4 = 3 || len = 0 || 32 < len then (.valueRange, s)
  else (.ok, (s.setF AUX_CFG_MODE v).setF AUX_CFG_LEN len)

/-- R66, R80: a write to AUX_PERIOD. -/
def State.auxPeriodW (v : Nat) (s : State) : Status × State :=
  let p := v % 1048576
  if s.flag AUX_STAT_RUN then (.stateDenied, s)
  else if p < 16 then (.valueRange, s)
  else (.ok, s.setF AUX_PERIOD_PERIOD p)

/-- R57: does an entry's input (and the other of its pair) stand on balls the map gives to REFIN_A or REFIN_B? A differential entry of an
odd INPUT is no pair and names INPUT's own ball alone (DESIGN CHOICE, log 135). -/
def auxBallBusy (ballMap input : Nat) : Bool :=
  (input / 2 == 6 && bitN ballMap 0) || (input / 2 == 7 && bitN ballMap 1)

/-- R80: is the word of an AUX_ENT register within its ranges? -/
def auxEntOk (v : Nat) : Bool :=
  let input := v % 16
  let diff := bitN v 4
  !(diff && input % 2 == 1) && v / 256 % 16 ≤ 8 && v / 4096 % 16 ≤ 8 && !(bitN v 17 && !diff)

/-- R57, R66, R80, R81: a write to AUX_ENT[e]. -/
def State.auxEntW (e v : Nat) (s : State) : Status × State :=
  if s.flag AUX_STAT_RUN then (.stateDenied, s)
  else if auxBallBusy s.sys.ballMap (v % 16) then (.resourceBusy, s)
  else if !auxEntOk v then (.valueRange, s)
  else (.ok, s.wr (AUX_ENT e) (BitVec.ofNat 32 v &&& 0x3FF1F#32))

end Sys2Proof.Machine
end

