-- ==== Sys2Proof/Machine/Operands.lean ====
section
/-!
DEFINITION. The arithmetic of the filter island (03): twiddle factors of the DFT (R109), angles (R103, R148), rounding
and clamping of stage outputs (R83, R84, R88).
-/
namespace Sys2Proof.Machine

/-- cos(2πi/256) in Q1.23 rounded half to even, i = 0…64; the first is +1.0, which Q1.23 cannot hold (see `twCos`). -/
def cosTable : List Nat := [
  8388608, 8386082, 8378504, 8365879, 8348215, 8325522, 8297814, 8265108,
  8227423, 8184783, 8137212, 8084740, 8027397, 7965220, 7898244, 7826511,
  7750063, 7668947, 7583212, 7492909, 7398092, 7298819, 7195149, 7087145,
  6974873, 6858399, 6737793, 6613129, 6484482, 6351928, 6215549, 6075425,
  5931642, 5784285, 5633445, 5479211, 5321677, 5160937, 4997088, 4830229,
  4660461, 4487885, 4312606, 4134730, 3954362, 3771613, 3586592, 3399411,
  3210181, 3019018, 2826037, 2631353, 2435084, 2237349, 2038265, 1837954,
  1636536, 1434132, 1230864, 1026855, 822227, 617104, 411609, 205867,
  0]

/-- cos(2πi/256) in Q1.23 for any i; +1.0 is outside the format and the spec does not say what stands there. -/
def twCos (i : Nat) : Int :=
  let k := i % 256
  if k = 0 then Config.twiddleOne
  else if k ≤ 64 then ((lget 0 cosTable k : Nat) : Int)
  else if k ≤ 128 then -((lget 0 cosTable (128 - k) : Nat) : Int)
  else if k ≤ 192 then -((lget 0 cosTable (k - 128) : Nat) : Int)
  else ((lget 0 cosTable (256 - k) : Nat) : Int)

/-- −sin(2πi/256), the imaginary part of w[i] (R109): cos of a quarter turn more. -/
def twIm (i : Nat) : Int := twCos (i + 64)

/-- R83, R88: clamp a rounded result to ±2,147,483,647; an output outside is tagged OVERRANGE. -/
def clampOut (v : Int) (tag : Tag) : Sample :=
  if absN v ≤ 2147483647 then ⟨v, tag⟩ else ⟨clampI (-2147483647) 2147483647 v, tagMax tag .overrange⟩

/-- atan(2^−i) in 2^−44 turn, i = 0…39. -/
def atanTable : List Nat := [
  2199023255552, 1298159229407, 685911684590, 348179481054, 174765388006,
  87467890064, 43744617923, 21873643805, 10936988781, 5468515251,
  2734260233, 1367130443, 683565262, 341782636, 170891319,
  85445659, 42722830, 21361415, 10680707, 5340354,
  2670177, 1335088, 667544, 333772, 166886,
  83443, 41722, 20861, 10430, 5215,
  2608, 1304, 652, 326, 163,
  81, 41, 20, 10, 5]

/-- Rotations by ±atan(2^−i) that bring y to 0, adding up the angle in 2^−44 turn. -/
def cordic : Nat → List Nat → Int → Int → Int → Int
  | _, [], _, _, z => z
  | i, a :: rest, x, y, z =>
    let p : Int := ((2 ^ i : Nat) : Int)
    if 0 ≤ y then cordic (i + 1) rest (x + y / p) (y - x / p) (z + (a : Int))
    else cordic (i + 1) rest (x - y / p) (y + x / p) (z - (a : Int))

/-- The angle of a phasor in 2^−32 turn, in (−2^31, 2^31]; the spec gives 0 no angle. -/
def angle32 (re im : Int) : Int :=
  let k : Int := 17592186044416
  if re = 0 && im = 0 then Config.angleOfZero
  else
    let z := if 0 ≤ re then cordic 0 atanTable (re * k) (im * k) 0
      else cordic 0 atanTable (-re * k) (-im * k) 0 + 8796093022208
    let a := divHalfEven z 4096
    if 2147483648 < a then a - 4294967296 else if a ≤ -2147483648 then a + 4294967296 else a

/-- An angle difference in 2^−32 turn wrapped to (−1/2, 1/2] turn. -/
def wrap32 (d : Int) : Int :=
  let r := d % 4294967296
  if 2147483648 < r then r - 4294967296 else r

/-- The square root of a number rounded to the nearest integer (no root of an integer lies half-way). -/
def rsqrt (n : Nat) : Nat := (isqrt (4 * n) + 1) / 2

/-- R109: A × √2/256 with 23 bits more removed, rounded to the nearest integer (√2 is irrational: no tie). -/
def dftScale (a : Int) : Int :=
  let n := 2 * (absN a * absN a)
  let r : Int := ((isqrt (n / 1152921504606846976) + 1) / 2 : Nat)
  if a < 0 then -r else r

/-- R84: the sum of products of a window with its taps. -/
def dot : List Int → List Int → Int
  | h :: hs, x :: xs => h * x + dot hs xs
  | _, _ => 0

/-- The n newest samples of a history; beyond its end 0 tagged SETTLING (R116). -/
def window : Nat → List Sample → List Sample
  | 0, _ => []
  | n + 1, [] => ⟨0, .settling⟩ :: window n []
  | n + 1, x :: xs => x :: window n xs

/-- R87: the tag of a window. -/
def winTag (w : List Sample) : Tag := tagsMax (w.map (·.tag))

/-- R101: the words at the given taps become 0 tagged SETTLING. -/
def dedWords (ded : List Nat) (w : List Sample) : List Sample :=
  ded.foldl (fun w k => lset w k ⟨0, .settling⟩) w

/-- R89: all taps of a symmetric set of 2n + 1 taps from its n + 1 stored words. -/
def mirror (half : List Int) : List Int := half ++ (half.dropLast).reverse

/-- Word k of a stored set (0 where none is stored). -/
def coef (b : CoefBank) (k : Nat) : Int := lget 0 b.words k

/-- R89: tap k of the resampler prototype. -/
def hr (b : CoefBank) (k : Nat) : Int := if k = 4095 then 0 else if k < 2048 then coef b k else coef b (4094 - k)

end Sys2Proof.Machine
end

