-- ==== Sys2Proof/Machine/Filter.lean ====
section
/-!
DEFINITION. The filter island (03 R82 to R121): stage outputs from duplicated datapaths and their recompute, Geyser
estimates (R140), tracked and fixed-rate samples, the phasor table, frequency tracking, stops, resets and banks.
-/
namespace Sys2Proof.Machine

/-! ### Channels, groups, banks -/

/-- R82: the chain group of a channel (64 to 127 are virtual). -/
def fltGroupOf (c : Nat) : Nat := if c < 64 then chanGroup c else (c - 64) / 8

/-- A channel of the filter chain. -/
def State.fch (s : State) (c : Nat) : FltChan := lget resetFltChan s.flt.chans c

/-- Replace a channel of the filter chain. -/
def State.setFch (s : State) (c : Nat) (x : FltChan) : State :=
  { s with flt := { s.flt with chans := lset s.flt.chans c x } }

/-- What no register shows of a chain group. -/
def State.fgrp (s : State) (g : Nat) : FltGroup := lget resetFltGroup s.flt.groups g

/-- Replace it. -/
def State.setFgrp (s : State) (g : Nat) (x : FltGroup) : State :=
  { s with flt := { s.flt with groups := lset s.flt.groups g x } }

/-- R114: the state of a chain group: 0 STOPPED, 1 SETTLING, 2 RUNNING. -/
def State.chainState (s : State) (g : Nat) : Nat := s.getF (FLT_GSTAT_STATE g)

/-- The bank of stage `st` (0, 1, 2) that group `g` selects. -/
def State.selBank (s : State) (g st : Nat) : Nat := getBits (s.rd (FLT_BANK g)) st 1

/-- The bank numbered `b` of stage `st` of group `g`. -/
def State.bank (s : State) (g st b : Nat) : CoefBank := lget ⟨[], [], false⟩ s.flt.banks (g * 6 + st * 2 + b)

/-- Replace a bank; its VALID bit follows `full`. -/
def State.setBank (s : State) (g st b : Nat) (x : CoefBank) : State :=
  let s := { s with flt := { s.flt with banks := lset s.flt.banks (g * 6 + st * 2 + b) x } }
  s.setF (FLT_GSTAT_VALID g) (setBitN (s.getF (FLT_GSTAT_VALID g)) (st * 2 + b) x.full)

/-- R21, R114: is a channel of the chain producing samples? -/
def State.chainOn (s : State) (c : Nat) : Bool := c < 128 && s.sampling && s.chainState (fltGroupOf c) != 0

/-- Now, as an instant of strobe time (2^−32 sixteenths of a nanosecond from strobe 0). -/
def State.strobeTime (s : State) : Int :=
  (((s.ana.strobe : Int) - 1) * 15625 + ((s.now : Int) - (s.flt.strobeT : Int))) * 4294967296

/-- A number of nanoseconds in strobe time. -/
def nsTau (n : Int) : Int := n * 16 * 4294967296

/-- Does a stage output of channel `c` await the recompute unit? -/
def State.recWaits (s : State) (st c : Nat) : Bool := s.flt.pend.any (fun p => p.stage = st && p.ch = c)

/-- The fused samples of a strobe enter the history of every channel whose group is not STOPPED. -/
def State.fltPush (s : State) : State :=
  let s := { s with flt := { s.flt with strobeT := s.now } }
  (upto 64).foldl (fun s c =>
    if s.chainOn c then
      let x := s.fch c
      s.setFch c { x with x := (⟨(s.chan c).last, tagOf (s.getF (CNV_CH_TAG c))⟩ :: x.x).take (if s.flt.iseChans.contains c then 30000 else 161) }
    else s) s

/-! ### Geyser (R140) -/

/-- R140: all nine taps of the in-phase set. -/
def geyC (z : GeySet) : List Int := (upto 9).map (fun k => lget 0 z.gc (if k < 5 then k else 8 - k))

/-- R140: all nine taps of the quadrature set. -/
def geyS (z : GeySet) : List Int :=
  (upto 9).map (fun k => if k < 4 then lget 0 z.gs k else if k = 4 then 0 else -(lget 0 z.gs (8 - k)))

/-- R140: the estimate over the nine newest stage-1 outputs; a clamped one takes OVERRANGE as R88 has it of a stage (DESIGN CHOICE, log 129). -/
def geyser (z : GeySet) (y1 : List Sample) : Sample :=
  let w := window 9 y1
  let v := w.map (·.v)
  let c := divHalfEven (dot (geyC z) v) 8388608
  let q := divHalfEven (dot (geyS z) v) (2 ^ (23 - z.shq))
  let e := rsqrt (absN c * absN c + absN q * absN q)
  clampOut (e : Int) (winTag w)

/-! ### Duplicated datapaths (R98 to R101) -/

/-- R101: double-bit errors: counted, reported. -/
def State.dedReport (s : State) (g : Nat) (ded : List Nat) : State :=
  ded.foldl (fun s _ => ((s.incSat (FLT_DPCNT_ECC_DED g)).setFlag (FLT_GSTAT_DP_FAULT g) true).raise 35 g 2) s

/-- What the comparison of a stage output finds (R98, R100). -/
inductive Compared where
  | out (acc : Int)
  | differ (a b : Int)

/-- R98, R100: the results of the datapaths before rounding. A retired datapath's place is taken by the recompute unit, or
by none. -/
def State.compare (s : State) (g : Nat) (acc : Int) (up : Upset) : Compared :=
  let a := match up.dp with | some (false, d) => acc + d | _ => acc
  let b := match up.dp with | some (true, d) => acc + d | _ => acc
  let ra := s.flag (FLT_GSTAT_DP_A_RET g)
  let rb := s.flag (FLT_GSTAT_DP_B_RET g)
  let a := if ra then acc else a
  let b := if rb then acc else b
  if s.flag (FLT_GSTAT_DP_SINGLE g) then (if ra then .out b else .out a)
  else if a = b then .out a
  else .differ a b

/-- R98: a mismatch: counted, reported, and the output waits for the recompute unit. -/
def State.mismatch (s : State) (p : RecPend) : State :=
  let s := (s.incSat (FLT_DPCNT_MISMATCH p.g)).raise 34 p.g (if p.stage = 3 then 2 else p.stage)
  { s with flt := { s.flt with pend := s.flt.pend ++ [p] } }

/-- R100: a strike against datapath B (`b`) or A; the 16th within 1.0 s retires it. DESIGN CHOICE (log 97): a second retirement in
the group the recompute unit is paired with leaves that group without comparison too. -/
def State.strike (s : State) (g : Nat) (b : Bool) : State :=
  let x := s.fgrp g
  let old := if b then x.strikeB else x.strikeA
  let l := (s.now :: old.filter (fun t => s.now < t + secU)).take 16
  let s := s.setFgrp g (if b then { x with strikeB := l } else { x with strikeA := l })
  let ret := if b then FLT_GSTAT_DP_B_RET g else FLT_GSTAT_DP_A_RET g
  if l.length < 16 || s.flag ret then s
  else
    let s := s.setFlag ret true
    if (upto 8).any (fun h => h != g && s.flag (FLT_GSTAT_R_PAIRED h)) || s.flag (FLT_GSTAT_R_PAIRED g) then
      ((s.setFlag (FLT_GSTAT_DP_SINGLE g) true).setFlag (FLT_GSTAT_DP_FAULT g) true).raise 35 g 1
    else s.setFlag (FLT_GSTAT_R_PAIRED g) true

/-! ### Releasing outputs -/

/-- Release stage-1 output `m` of channel `c`: its history and, for a current channel, its Geyser estimate. -/
def State.release1 (s : State) (c m : Nat) (y : Sample) : State :=
  let x := s.fch c
  let y1 := (y :: x.y1).take 40
  let s := s.setFch c { x with y1 := y1, last1 := some m }
  if c < 48 then
    let g := fltGroupOf c
    let z := lget ⟨[], [], 0⟩ (s.fgrp g).gey (s.selBank g 0)
    { s with flt := { s.flt with geyNew := lset s.flt.geyNew c (geyser z y1) } }
  else s

/-- R95: at a stage-2 output of a group, trims written since take effect. -/
def State.takeTrims (s : State) (g : Nat) : State :=
  (upto 128).foldl (fun s c =>
    if fltGroupOf c = g && (s.fch c).trimReq then
      s.setFch c { s.fch c with trim := s.getI (FLT_TRIM_TRIM c), trimReq := false, trimT := true, trimF := true }
    else s) s

/-- Release stage-2 output `q` of channel `c`. -/
def State.release2 (s : State) (c q : Nat) (y : Sample) : State :=
  let x := s.fch c
  (s.setFch c { x with y2 := (y :: x.y2).take 64, q2 := q, last2 := some q }).takeTrims (fltGroupOf c)

/-- R109: the DFT accumulators after sample `x` of tracked index `m` replaces `x256`. -/
def dftAdd (m : Nat) (d : Int) (acc : List (Int × Int)) : List (Int × Int) :=
  (upto 15).map (fun i =>
    let a := lget ((0 : Int), (0 : Int)) acc i
    let k := (i + 1) * m % 256
    (a.1 + d * twCos k, a.2 + d * twIm k))

/-- Release tracked sample of index `m` of channel `c`. -/
def State.releaseT (s : State) (c m : Nat) (y : Sample) : State :=
  let x := s.fch c
  let old := lget ⟨0, .settling⟩ x.hist 255
  s.setFch c { x with hist := (y :: x.hist).take 256, acc := dftAdd m (y.v - old.v) x.acc, tNext := m + 1 }

/-- Release a fixed-rate sample under its number. -/
def State.releaseF (s : State) (c k : Nat) (y : Sample) : State :=
  s.setFch c { s.fch c with fixK := some k, fix := y }

/-- Round a stage's accumulator to its output, and add it to `base` (R84, R85, R86, R92). -/
def stageRound (st : Nat) (base acc : Int) (tag : Tag) : Sample :=
  clampOut (base + divHalfEven acc (if st = 0 then 32768 else if st = 1 then 8388608 else 65536)) tag

/-- Release an output of stage `st`. -/
def State.release (s : State) (st c idx : Nat) (y : Sample) : State :=
  match st with
  | 0 => s.release1 c idx y
  | 1 => s.release2 c idx y
  | 2 => s.releaseT c idx y
  | _ => s.releaseF c idx y

/-- The previous output of a stage (R98). -/
def State.prevOut (s : State) (st c : Nat) : Int :=
  let x := s.fch c
  match st with
  | 0 => (lget ⟨0, .settling⟩ x.y1 0).v
  | 1 => (lget ⟨0, .settling⟩ x.y2 0).v
  | 2 => (lget ⟨0, .settling⟩ x.hist 0).v
  | _ => x.fix.v

/-- A stage output of channel `c`, index `idx`, accumulator `acc` (added to `base` once rounded), tag of its window `tag`: compared,
then released or left to the recompute unit. -/
def State.stageOut (s : State) (st c idx : Nat) (base acc : Int) (tag : Tag) (up : Upset) : State :=
  let g := fltGroupOf c
  let s := s.dedReport g up.ded
  match s.compare g acc up with
  | .out a => s.release st c idx (stageRound st base a tag)
  | .differ a b => s.mismatch ⟨g, st, c, base, a, b, tag, idx, s.now⟩

/-! ### Stages (R85, R86) -/

/-- R85: STAGE1_OUTPUT: the next stage-1 output of a channel, once its strobe has been sampled. -/
def stage1OutputEff (c : Nat) (up : Upset) (s : State) : State :=
  let x := s.fch c
  let n := s.ana.strobe - 1
  let m := match x.last1 with | none => n / 16 | some l => l + 1
  if 64 ≤ c || !s.chainOn c || s.ana.strobe = 0 || n < 16 * m || s.recWaits 0 c then s
  else if x.last1 = none && n % 16 != 0 then s
  else
    let g := fltGroupOf c
    let off := n - 16 * m
    let hist := x.x.take off ++ dedWords up.ded (window 129 (x.x.drop off)) ++ x.x.drop (off + 129)
    let w := (hist.drop off).take 129
    let s := s.setFch c { x with x := if up.ded.isEmpty then x.x else hist }
    let h := mirror ((s.bank g 0 (s.selBank g 0)).words)
    s.stageOut 0 c m 0 (dot h (w.map (·.v))) (winTag w) up

/-- R86: STAGE2_OUTPUT: the stage-2 output due at stage-1 output 2q. -/
def stage2OutputEff (c : Nat) (up : Upset) (s : State) : State :=
  let x := s.fch c
  match x.last1 with
  | none => s
  | some m =>
    if 64 ≤ c || !s.chainOn c || m % 2 = 1 || x.last2 = some (m / 2) || s.recWaits 0 c || s.recWaits 1 c then s
    else
      let g := fltGroupOf c
      let w := dedWords up.ded (window 33 x.y1)
      let s := s.setFch c { x with y1 := if up.ded.isEmpty then x.y1 else w ++ x.y1.drop 33 }
      let h := mirror ((s.bank g 1 (s.selBank g 1)).words)
      s.stageOut 1 c (m / 2) 0 (dot h (w.map (·.v))) (winTag w) up

/-! ### The resamplers (R91 to R97) -/

/-- R91, R97: the input x2[i] of a channel's resampler: stage-2 output i + 10, or sample i of a virtual channel's stream. -/
def State.x2 (s : State) (c : Nat) (i : Int) : Sample :=
  if c < 64 then
    let x := s.fch c
    let d := (x.q2 : Int) - 10 - i
    if d < 0 || x.last2.isNone then ⟨0, .settling⟩ else lget ⟨0, .settling⟩ x.y2 d.toNat
  else
    match (lget [] s.flt.vsmp (c - 64)).find? (fun e => (e.1 : Int) = i) with
    | some e => e.2
    | none => ⟨0, .missing⟩

/-- R101: the resampler's input x2[i] of a channel becomes 0 tagged SETTLING in the history. -/
def State.spoil (s : State) (c : Nat) (i : Int) : State :=
  if c < 64 then
    let d := ((s.fch c).q2 : Int) - 10 - i
    if d < 0 then s else s.setFch c { s.fch c with y2 := lset (s.fch c).y2 d.toNat ⟨0, .settling⟩ }
  else
    let fix (e : Nat × Sample) : Nat × Sample := if (e.1 : Int) = i then (e.1, ⟨0, .settling⟩) else e
    { s with flt := { s.flt with vsmp := lmod s.flt.vsmp (c - 64) (·.map fix) } }

/-- R101: the double-bit errors of a resampler's window, counted from its newest word x2[n + 4]. -/
def State.spoilAll (s : State) (c : Nat) (n : Int) (ded : List Nat) : State :=
  ded.foldl (fun s k => s.spoil c (n + 4 - (k : Int))) s

/-- R91: phase `p` at base `n`. -/
def State.phaseOut (s : State) (c : Nat) (n : Int) (p : Nat) : Sample :=
  let g := fltGroupOf c
  let b := s.bank g 2 (s.selBank g 2)
  let w := (upto 8).map (fun (k : Nat) => s.x2 c (n + 4 - (k : Int)))
  let h := (upto 8).map (fun k => hr b (512 * k + p))
  clampOut (divHalfEven (dot h (w.map (·.v))) 8388608) (winTag w)

/-- R92: the blend at instant `num / den` of the channel's axis: ya, the product that is rounded by 16 bits and added to it, and the
tag of the window. DESIGN CHOICE (log 98): nu is brought to its 16-bit fraction toward minus infinity. -/
def State.blend (s : State) (c : Nat) (num : Int) (den : Nat) : Int × Int × Tag :=
  let n := num / (den : Int)
  let u := 512 * (num % (den : Int)) - (den : Int)
  let pa := u / (den : Int)
  let nu := (u % (den : Int)) * 65536 / (den : Int)
  let ya := if pa < 0 then s.phaseOut c (n - 1) 511 else s.phaseOut c n pa.toNat
  let yb := s.phaseOut c n (pa + 1).toNat
  (ya.v, (yb.v - ya.v) * nu, tagMax ya.tag yb.tag)

/-- T (R91) in 2^−32 of a sixteenth of a nanosecond. -/
def stageT : Nat := 500000 * 4294967296

/-- R118: the strobe of the latest step of the sampling time, as an instant of strobe time. -/
def State.stepTau (s : State) : Option Int := s.tim.stepStrobe.map (fun n => (n : Int) * 15625 * 4294967296)

/-- R118: does an instant precede the strobe of the latest step, so that its label is of the grid before it? -/
def State.oldGrid (s : State) (tau : Int) : Bool :=
  match s.stepTau with
  | some t => decide (tau < t)
  | none => false

/-- The label, in the sampling time (2^−16 ns), of an instant `tau` of strobe time (2^−32 sixteenths of a nanosecond). -/
def State.labelOf (s : State) (tau : Int) : Int :=
  s.sampAt s.flt.strobeT - (((s.ana.strobe : Int) - 1) * 15625 * 4294967296 - tau) / 1048576 -
    (if s.oldGrid tau then s.tim.stepBy else 0)

/-- The instant of strobe time of a label of the present grid. -/
def State.tauOf (s : State) (lab : Int) : Int :=
  ((s.ana.strobe : Int) - 1) * 15625 * 4294967296 + (lab - s.sampAt s.flt.strobeT) * 1048576

/-- R91, R97: where instant `tau` falls on the axis of channel `c`, as a fraction, after its trim. -/
def State.axis (s : State) (c : Nat) (tau : Int) : Int × Nat :=
  let te := tau + (s.fch c).trim * 16 * 4294967296
  if c < 64 then (te, stageT)
  else (s.labelOf te * (lget 4800 s.flt.vrate (c - 64) : Nat), 65536000000000)

/-- Sample period of a channel's axis in 2^−32 sixteenths of a nanosecond. -/
def State.axisT (s : State) (c : Nat) : Int :=
  if c < 64 then (stageT : Int) else 16000000000 * 4294967296 / (lget 4800 s.flt.vrate (c - 64) : Nat)

/-- R92: how many periods the window of an output at `num / den` reaches below its base: 4 where phase 511 of the base before takes
part, else 3. -/
def lowReach (num : Int) (den : Nat) : Int := if num % (den : Int) * 512 < (den : Int) then 4 else 3

/-- R118: does the window of an output evaluated at `te`, `num / den` on the channel's axis, span the strobe of a step? -/
def State.spansStep (s : State) (c : Nat) (te num : Int) (den : Nat) : Bool :=
  let base := te - num % (den : Int) * s.axisT c / (den : Int)
  match s.stepTau with
  | some t => decide (base - lowReach num den * s.axisT c < t ∧ t ≤ base + 4 * s.axisT c)
  | none => false

/-- The instant of tracked index `i` (at most the next one). -/
def State.tauAt (s : State) (i : Nat) : Nat := if i = s.flt.m then s.flt.tau else lget 0 s.flt.taus (s.flt.m - 1 - i)

/-- R112: the tracked index a channel is due for is at most this. -/
def State.dueIdx (s : State) (c : Nat) : Nat := if c < 64 then s.flt.m else s.flt.m - s.getF FLT_TCFG_VLAG

/-- R94, R112: the instant at which tracked sample `i` of a channel is released: 439.51 µs and its trim after τ, for a virtual channel
after the τ of the index VLAG ticks later, with whose half it swaps (log 99). -/
def State.releaseAt (s : State) (c i : Nat) : Int :=
  (s.tauAt (if c < 64 then i else i + s.getF FLT_TCFG_VLAG) : Nat) + nsTau ((s.fch c).trim + 439510)

/-- R94: TRACKED_SAMPLE: the resampler releases the next tracked sample of a channel. -/
def trackedSampleEff (c : Nat) (up : Upset) (s : State) : State :=
  let x := s.fch c
  let i := x.tNext
  let tau : Int := (s.tauAt i : Nat)
  let ax := s.axis c tau
  let n := ax.1 / (ax.2 : Int)
  if !s.chainOn c || s.dueIdx c < i || s.recWaits 2 c then s
  else if 64 ≤ c && s.flt.m < s.getF FLT_TCFG_VLAG then s
  else if s.strobeTime < s.releaseAt c i then s
  else if c < 64 && (x.last2.isNone || (x.q2 : Int) - 10 < n + 4) then s
  else
    let s := s.spoilAll c n up.ded
    let r := s.blend c ax.1 ax.2
    let tag := tagMax r.2.2 (tagIf (x.trimT || s.spansStep c (tau + nsTau x.trim) ax.1 ax.2) .resync)
    let first := (((s.fgrp (fltGroupOf c)).resetAt / 32 + 20 : Nat) : Int)
    let clean := match x.clean with
      | some k => some k
      | none => if first ≤ n - lowReach ax.1 ax.2 + 10 then some i else none
    (s.setFch c { s.fch c with clean := clean, trimT := false }).stageOut 2 c i r.1 r.2.1 tag up

/-- R96: samples per second of the fixed-rate resampler. -/
def State.svRate (s : State) : Nat := if s.flag FLT_SVCFG_RATE then 14400 else 4800

/-- R96, R379: is a channel published in an SV stream? -/
def State.published (s : State) (c : Nat) : Bool :=
  (upto 8).any (fun q => s.flag (GSV_SVPCFG_EN q) && (upto 8).any (fun i => s.getF (GSV_SVPCH_CH q (i / 4) (i % 4)) = c))

/-- R94, R96, R118: FIXED_RATE_SAMPLE: the latest fixed-rate output of a published channel whose instant lies 439.51 µs (and the trim)
back, on the second grid of that instant; an instant before a step's strobe is not of the grid after it. -/
def fixedRateSampleEff (c : Nat) (up : Upset) (s : State) : State :=
  let x := s.fch c
  let rate := s.svRate
  let pos := s.strobeTime - nsTau (439510 + x.trim)
  let lab := s.labelOf pos
  let key := (lab * (rate : Int) / 65536000000000).toNat
  let tau := pos + ((key : Int) * 65536000000000 / (rate : Int) - lab) * 1048576
  let ax := s.axis c tau
  let n := ax.1 / (ax.2 : Int)
  if !s.chainOn c || !s.flag FLT_SVCFG_SV_EN || !s.published c || x.fixK = some key || s.recWaits 3 c then s
  else if s.oldGrid tau && !s.oldGrid pos then s
  else if c < 64 && (x.last2.isNone || (x.q2 : Int) - 10 < n + 4) then s
  else
    let s := s.spoilAll c n up.ded
    let r := s.blend c ax.1 ax.2
    let t0 := tau - ((key % rate : Nat) : Int) * 16000000000 * 4294967296 / (rate : Int)
    let stepped := match s.stepTau with
      | some t => decide (t ≤ pos ∧ t0 < t)
      | none => false
    (s.setFch c { s.fch c with trimF := false }).stageOut 3 c key r.1 r.2.1 (tagMax r.2.2 (tagIf (x.trimF || stepped) .resync)) up

/-- R99: of mismatches of one instant, those of lower groups are served first. -/
def State.recTurn (s : State) (p : RecPend) : Bool := s.flt.pend.all (fun q => !(q.since = p.since && q.g < p.g))

/-- R98, R99: RECOMPUTE_DONE: the recompute unit's two results decide a waiting output, once it is served. A repeated output is SETTLING
whatever the tag of its window or of the output repeated (DESIGN CHOICE, log 129). -/
def recomputeDoneEff (g st c : Nat) (r1 r2 : Int) (s : State) : State :=
  match s.flt.pend.find? (fun p => p.g = g && p.stage = st && p.ch = c) with
  | none => s
  | some p =>
    if !s.sampling || !s.recTurn p then s
    else
    let s := { s with flt := { s.flt with pend := s.flt.pend.filter (fun q => !(q.g = g && q.stage = st && q.ch = c)) } }
    let done (s : State) (acc : Int) := s.release st c p.idx (stageRound st p.base acc (tagMax p.tag .recomputed))
    if r1 != r2 then
      let s := ((s.incSat (FLT_DPCNT_RFAIL g)).setFlag (FLT_GSTAT_DP_FAULT g) true).raise 35 g 0
      s.release st c p.idx ⟨s.prevOut st c, .settling⟩
    else if r1 = p.a then done (s.strike g true) p.a
    else if r1 = p.b then done (s.strike g false) p.b
    else done (s.incSat (FLT_DPCNT_RFAIL g)) r1

/-! ### The phasor table and frequency tracking (R102 to R113) -/

/-- R109, R110: a channel's phasor entry from its accumulators. -/
def phEntry (x : FltChan) : PhEntry :=
  let p := (upto 15).map (fun i =>
    let a := lget ((0 : Int), (0 : Int)) x.acc i
    (dftScale a.1, dftScale a.2))
  let f := lget ((0 : Int), (0 : Int)) p 0
  { tag := winTag (window 256 x.hist), mag := rsqrt (absN f.1 * absN f.1 + absN f.2 * absN f.2)
    re := p.map (·.1), im := p.map (·.2) }

/-- The entry of a channel nothing has produced. -/
def zeroEntry : PhEntry := ⟨.settling, 0, [], []⟩

/-- A channel's entry in a half. -/
def halfAt (h : PhHalf) (c : Nat) : PhEntry := lget zeroEntry h.entries c

/-- The fundamental of an entry. -/
def entX1 (e : PhEntry) : Int × Int := (lget 0 e.re 0, lget 0 e.im 0)

/-- The 32 words of an entry (R113). -/
def phWords (e : PhEntry) : List Nat :=
  tagCode e.tag :: e.mag ::
    ((upto 15).map (fun i => [tcBits 32 (lget 0 e.re i), tcBits 32 (lget 0 e.im i)])).flatten

/-- R121: load the mirror with the entry of channel CH. -/
def State.mirrorPh (s : State) : State :=
  let ws := phWords (halfAt s.flt.cur (s.getF FLT_PHSEL_CH))
  (upto 32).foldl (fun s w => s.setF (FLT_PHDATA_ENTRY w) (lget 0 ws w)) s

/-- f_nom in Q8.24. -/
def State.fnom (s : State) : Nat := if s.flag FLT_TCFG_FNOM then 1006632960 else 838860800

/-- R102: scale of the source phasors kept: 3 × 2^24. -/
def srcScale : Int := 50331648

/-- R102: a source's fundamental, times `srcScale`; √3/2 is held in 24 fraction bits. -/
def srcPhasor (h : PhHalf) (first : Nat) (three : Bool) : Int × Int :=
  let a := entX1 (halfAt h first)
  if three then
    let b := entX1 (halfAt h (first + 1))
    let c := entX1 (halfAt h (first + 2))
    (16777216 * a.1 - 8388608 * (b.1 + c.1) + 14529495 * (c.2 - b.2),
      16777216 * a.2 - 8388608 * (b.2 + c.2) + 14529495 * (b.1 - c.1))
  else (srcScale * a.1, srcScale * a.2)

/-- The tags of the phasors a source uses. -/
def srcTags (h : PhHalf) (first : Nat) (three : Bool) : List Tag :=
  if three then [(halfAt h first).tag, (halfAt h (first + 1)).tag, (halfAt h (first + 2)).tag] else [(halfAt h first).tag]

/-- R102: does a fundamental reach its threshold (0.1 % of rms full scale) on tags that qualify? -/
def srcOk (p : Int × Int) (thr : Nat) (tags : List Tag) : Bool :=
  let lim := 50331648 * thr * 2147483392
  decide (lim * lim ≤ 2000000 * (absN p.1 * absN p.1 + absN p.2 * absN p.2)) &&
    tags.all (fun t => t == .valid || t == .recomputed || t == .substituted)

/-- R102: a source at a cycle's end. -/
def srcStep (old : TrkSrc) (h : PhHalf) (first thr : Nat) (three : Bool) : TrkSrc :=
  let p := srcPhasor h first three
  let ok := srcOk p thr (srcTags h first three)
  { re := p.1, im := p.2, endOk := ok, settling := (srcTags h first three).contains .settling
    run := if ok && old.endOk then satInc 4 old.run else 0 }

/-- R103: the frequency a source gives over a cycle, Q8.24. -/
def freqOf (old new : TrkSrc) (dtau : Nat) : Nat :=
  let d := wrap32 (angle32 new.re new.im - angle32 old.re old.im)
  if dtau = 0 then 0 else (divHalfEven (256 * 16000000000 * 16777216 * 4294967296 * (4294967296 + d)) (dtau * 4294967296)).toNat

/-- R103: f_est is published. -/
def State.putFest (s : State) (f : Nat) : State := (s.setF FLT_FEST_FEST f).incWrap FLT_FSTAT_CYC

/-- R103, R107: take f_est: FRANGE, its event, and, where the target follows it (R105), the target clamped to 40 to 70 Hz. -/
def State.takeFest (s : State) (f : Nat) (follow : Bool) : State :=
  let s := s.putFest f
  let out := f < 671088640 || 1174405120 < f
  let tgt := if f < 671088640 then 671088640 else if 1174405120 < f then 1174405120 else f
  let s := if follow then { s with flt := { s.flt with fTgt := tgt } } else s
  let entry := out && !s.flag FLT_FSTAT_FRANGE
  let s := s.setFlag FLT_FSTAT_FRANGE out
  if entry then (s.setFlag FLT_FSTAT_FRANGE_SEEN true).raise 32 0 f else s

/-- R103, R105: at a tracked index divisible by 256. -/
def State.cycleEnd (s : State) (h : PhHalf) (tau : Nat) : State :=
  let vf := s.getF FLT_TSRC_VSRC
  let if_ := s.getF FLT_TSRC_ISRC
  let vm := s.flag FLT_TSRC_VMODE
  let im := s.flag FLT_TSRC_IMODE
  let ven := s.flag FLT_TSRC_V_EN
  let ien := s.flag FLT_TSRC_I_EN
  let ov := s.flt.srcV
  let oi := s.flt.srcI
  let nv := srcStep ov h vf (s.getF FLT_TLIM_VMIN) vm
  let ni := srcStep oi h if_ (s.getF FLT_TLIM_IMIN) im
  let dtau := tau - s.flt.tauCyc
  let s := { s with flt := { s.flt with srcV := nv, srcI := ni, tauCyc := tau } }
  let setV := ov.settling || nv.settling
  let setI := oi.settling || ni.settling
  if h.m = 0 then s
  else if !s.flag FLT_TCFG_FT_EN then s.putFest (freqOf ov nv dtau)
  else
    let old := s.getF FLT_FSTAT_SRC
    if (ven || ien) && (!ven || setV) && (!ien || setI) then
      (if old = 0 then s.takeFest (freqOf ov nv dtau) false
      else if old = 1 then s.takeFest (freqOf oi ni dtau) false
      else s)
    else
      let new := if ven && (if old = 0 then 1 ≤ nv.run else 4 ≤ nv.run) then 0
        else if ien && (if old = 2 then 4 ≤ ni.run else 1 ≤ ni.run) then 1 else 2
      let s := if new != old then (s.setF FLT_FSTAT_SRC new).raise 33 0 new else s
      if new = 0 then s.takeFest (freqOf ov nv dtau) true
      else if new = 1 then s.takeFest (freqOf oi ni dtau) true
      else { s with flt := { s.flt with fTgt := s.fnom } }

/-- R106, R84: f_trk (Q8.24) moves towards f_tgt by at most SLEW × Ts, rounded half to even. -/
def State.slew (s : State) : State :=
  let f := s.getF FLT_FTRK_FTRK
  let step := (divHalfEven (s.getF FLT_TCFG_SLEW * 281474976710656 : Nat) (25600 * f)).toNat
  let tgt := s.flt.fTgt
  let f' := if f ≤ tgt then Nat.min tgt (f + step) else Nat.max tgt (f - step)
  (s.setF FLT_FTRK_FTRK f').setFlag FLT_FSTAT_SLEWING (f' != tgt)

/-- R117: groups whose first clean phasor stands become RUNNING. -/
def State.settleGroups (s : State) (m : Nat) : State :=
  (upto 8).foldl (fun s g =>
    if s.chainState g = 1 && (upto 64).any (fun c => fltGroupOf c = g &&
        (match (s.fch c).clean with | some k => decide (k + 255 ≤ m) | none => false)) then
      s.setF (FLT_GSTAT_STATE g) 2
    else s) s

/-- R111 to R113: the half of index m. -/
def State.buildHalf (s : State) (m tau : Nat) : PhHalf :=
  let lab := splitTime (s.labelOf tau)
  { m := m, sec := lab.1, ns := lab.2.1, fest := s.getF FLT_FEST_FEST, ftrk := s.getF FLT_FTRK_FTRK
    tb := s.sampTb, vlag := s.getF FLT_TCFG_VLAG
    entries := (upto 128).map (fun c =>
      if s.chainOn c then phEntry (s.fch c) else { halfAt s.flt.cur c with tag := .settling }) }

/-- R111: is it B_m, 460.0 µs after τ_m? -/
def State.boundaryDue (s : State) : Bool := decide ((s.flt.tau : Int) + nsTau 460000 ≤ s.strobeTime)

/-- R111, R112: have the channels of every group that is not STOPPED given their sample: of index m, a virtual channel of index
m − VLAG? -/
def State.halfDone (s : State) : Bool :=
  (upto 128).all (fun c => !s.chainOn c || (64 ≤ c && s.flt.m < s.getF FLT_TCFG_VLAG) || s.dueIdx c < (s.fch c).tNext)

/-- R111, R112: do the halves swap? -/
def State.swapReady (s : State) : Bool := s.boundaryDue && s.halfDone

/-- R108, R405 step 9: have the chains started, so that the common grid runs? Stopped groups do not stop it (R114). -/
def State.gridRuns (s : State) : Bool := 9 ≤ s.sys.step && s.sampling

/-- R159: Nc = round(1.024 × 10^6 / f_trk). -/
def State.ncNow (s : State) : Nat := (divHalfEven (1024000 * 16777216) (s.getF FLT_FTRK_FTRK)).toNat

/-- R103, R151, R159: every cycle's end: the estimate in force then joins the history of the frequency elements, with its τ, and the
surge elements take the cycle's Nc. -/
def State.keepFest (s : State) : State :=
  { s with flt := { s.flt with fHist := ((s.getF FLT_FEST_FEST, s.flt.tauCyc) :: s.flt.fHist).take 51, nc := s.ncNow } }

/-- R103 to R113: the halves swap at B_m, the cycle's estimate is taken, and the next tracked instant is set. The header of half m holds
f_est and f_trk as they stand after it (DESIGN CHOICE, log 129). -/
def State.swapHalves (s : State) : State :=
  let m := s.flt.m
  let tau := s.flt.tau
  let h := s.buildHalf m tau
  let s := if m % 256 = 0 then (s.cycleEnd h tau).keepFest else s
  let s := if s.flag FLT_TCFG_FT_EN then s.slew else s
  let h := { h with fest := s.getF FLT_FEST_FEST, ftrk := s.getF FLT_FTRK_FTRK }
  let next := tau + (divHalfEven (62500000 * 72057594037927936) (s.getF FLT_FTRK_FTRK)).toNat
  let s := { s with flt := { s.flt with prev := s.flt.cur, cur := h, m := m + 1, tau := next
                                        taus := (tau :: s.flt.taus).take 400 } }
  let s := (s.setF FLT_TIDX_TIDX m).settleGroups m
  if s.flag FLT_PHSEL_FREEZE then s else s.mirrorPh

/-! ### Stops, resets and banks (R114 to R121) -/

/-- R114: a STOP written to FLT_CTL. -/
def State.fltStopW (g : Nat) (s : State) : Status × State :=
  if s.mode != .test then (.notInTest, s)
  else if s.chainState g = 0 then (.ok, s)
  else (.ok, s.setFgrp g { s.fgrp g with stopReq := true })

/-- R21, R114: a START written to FLT_CTL; where the filter chain does not run, in SAFE or before step 9, no group starts (log 100). -/
def State.fltStartW (g : Nat) (s : State) : Status × State :=
  if s.chainState g != 0 || !s.gridRuns then (.stateDenied, s)
  else if (upto 3).any (fun st => !bitN (s.getF (FLT_GSTAT_VALID g)) (st * 2 + s.selBank g st)) then (.bankInvalid, s)
  else (.ok, s.setFgrp g { s.fgrp g with startReq := true })

/-- R114, R119: a write of FLT_CTL[g]. -/
def State.fltCtlW (g v : Nat) (s : State) : Status × State :=
  if bitN v 0 && bitN v 1 then (.valueRange, s)
  else if bitN v 0 then s.fltStopW g
  else if bitN v 1 then s.fltStartW g
  else (.ok, s)

/-- R114: FLT_STOP. -/
def fltStopEff (r : Requester) (g : Nat) (s : State) : State := (s.hostWrite r (FLT_CTL g) (State.fltCtlW g 1)).2

/-- R114: FLT_START. -/
def fltStartEff (r : Requester) (g : Nat) (s : State) : State := (s.hostWrite r (FLT_CTL g) (State.fltCtlW g 2)).2

/-- R114: CHAIN_STOP_TAKEN: a requested stop at a strobe divisible by 32, once no recompute is pending. -/
def chainStopTakenEff (g : Nat) (s : State) : State :=
  if s.gridRuns && (s.fgrp g).stopReq && s.ana.strobe % 32 = 0 && !s.flt.pend.any (fun p => p.g = g) then
    let s := (s.setFgrp g { s.fgrp g with stopReq := false, resetReq := false }).setF (FLT_GSTAT_STATE g) 0
    let tagS (i : Nat) (x : Sample) : Sample := if i < 48 && fltGroupOf i = g then ⟨x.v, .settling⟩ else x
    { s with flt := { s.flt with geyNew := s.flt.geyNew.mapIdx tagS } }
  else s

/-- R116: every stage history of a group becomes 0 tagged SETTLING, and its channels join the common grid. -/
def State.syncReset (s : State) (g : Nat) : State :=
  let s := (upto 128).foldl (fun s c =>
    if fltGroupOf c = g then
      s.setFch c { s.fch c with
        x := [], y1 := [], y2 := [], q2 := 0, last1 := none, last2 := none, hist := [], acc := [], clean := none
        tNext := if c < 64 then s.flt.m else s.flt.m - s.getF FLT_TCFG_VLAG }
    else s) s
  let s := { s with flt := { s.flt with pend := s.flt.pend.filter (fun p => !(p.g = g)) } }
  (s.setFgrp g { s.fgrp g with startReq := false, resetReq := false, resetAt := s.ana.strobe }).setF (FLT_GSTAT_STATE g) 1

/-- R114, R116: SYNC_RESET: a synchronising reset asked for, at a strobe divisible by 32: by a START of a STOPPED group, or by a change of
the time base of a group that is not STOPPED. -/
def syncResetEff (g : Nat) (s : State) : State :=
  let x := s.fgrp g
  if s.gridRuns && s.ana.strobe % 32 = 0 && (if s.chainState g = 0 then x.startReq else x.resetReq) then s.syncReset g else s

/-- R108, R405 step 9: the chains start: the common grid begins with index 0 at the next strobe, at FNOM, tracking by the voltage source,
or disabled (R120). -/
def State.chainStart (s : State) : State :=
  let f := s.fnom
  let s := { s with flt := { s.flt with
    m := 0, tau := s.ana.strobe * 15625 * 4294967296, taus := [], fTgt := f, tauCyc := 0, fHist := [] } }
  let s := (s.setF FLT_FEST_FEST f).setF FLT_FTRK_FTRK f
  let s := { s with flt := { s.flt with nc := s.ncNow } }
  s.setF FLT_FSTAT_SRC (if s.flag FLT_TCFG_FT_EN then 0 else 3)

/-- R115, conditions 1 and 2. -/
def State.bankRefused (s : State) (g : Nat) : Option Status :=
  if s.mode != .test then some .notInTest
  else if s.chainState g != 0 then some .chainRunning
  else none

/-- R115, R119: a write of FLT_BANK[g]. -/
def State.fltBankW (g v : Nat) (s : State) : Status × State :=
  match s.bankRefused g with
  | some st => (st, s)
  | none =>
    if (upto 3).any (fun st => !bitN (s.getF (FLT_GSTAT_VALID g)) (st * 2 + b2n (bitN v st))) then (.bankInvalid, s)
    else (.ok, s.wr (FLT_BANK g) (BitVec.ofNat 32 (v % 8)))

/-- R115: FLT_BANK_WRITE. -/
def fltBankWriteEff (r : Requester) (g v : Nat) (s : State) : State := (s.hostWrite r (FLT_BANK g) (State.fltBankW g v)).2

/-- R89: words of a stage's half-set. -/
def setLen (st : Nat) : Nat := if st = 0 then 65 else if st = 1 then 17 else 2048

/-- R121: a write of FLT_CADDR. -/
def State.fltCaddrW (v : Nat) (s : State) : Status × State :=
  if v / 8 % 4 = 3 then (.valueRange, s) else (.ok, s.wr FLT_CADDR (BitVec.ofNat 32 (v % 131072)))

/-- R115, R121: a write of FLT_CDATA. -/
def State.fltCdataW (v : Nat) (s : State) : Status × State :=
  let g := s.getF FLT_CADDR_GRP
  let st := s.getF FLT_CADDR_STG
  let b := s.getF FLT_CADDR_BANK
  let i := s.getF FLT_CADDR_IDX
  match s.bankRefused g with
  | some e => (e, s)
  | none =>
    if setLen st ≤ i then (.lenRange, s)
    else
      let k := s.bank g st b
      let ws := if k.words.length < setLen st then k.words ++ List.replicate (setLen st - k.words.length) 0 else k.words
      let s := s.setBank g st b
        { words := lset ws i (sext 24 v), have_ := if k.have_.contains i then k.have_ else i :: k.have_, full := false }
      (.ok, s.incWrap FLT_CADDR_IDX)

/-- R121: FLT_CDATA_WRITE. -/
def fltCdataWriteEff (r : Requester) (v : Nat) (s : State) : State := (s.hostWrite r FLT_CDATA (State.fltCdataW v)).2

/-- Sum of a list. -/
def sumI (l : List Int) : Int := l.foldl (· + ·) 0

/-- R90: the checks of a set of taps: absolute sum below 2.0, sum within 1 ± 2^−`p`. -/
def tapsOk (p : Nat) (h : List Int) : Bool :=
  decide (sumI (h.map (fun x => (absN x : Int))) < 16777216) && decide (absN (sumI h - 8388608) ≤ 2 ^ (23 - p))

/-- R90: is a bank's set valid? -/
def setOk (st : Nat) (b : CoefBank) : Bool :=
  if st < 2 then tapsOk 12 (mirror b.words)
  else (upto 512).all (fun p => tapsOk 10 ((upto 8).map (fun k => hr b (512 * k + p))))

/-- R90, R115: a COMMIT written to FLT_CCMT. -/
def State.fltCcmtW (v : Nat) (s : State) : Status × State :=
  let g := s.getF FLT_CADDR_GRP
  let st := s.getF FLT_CADDR_STG
  let b := s.getF FLT_CADDR_BANK
  if !bitN v 0 then (.ok, s)
  else
    match s.bankRefused g with
    | some e => (e, s)
    | none =>
      let k := s.bank g st b
      if k.have_.length < setLen st then (.lenRange, s)
      else if !setOk st k then (.valueRange, s)
      else (.ok, s.setBank g st b { k with full := true })

/-- R90: FLT_CCMT_COMMIT. -/
def fltCcmtCommitEff (r : Requester) (s : State) : State := (s.hostWrite r FLT_CCMT (State.fltCcmtW 1)).2

/-- R95: a write of FLT_TRIM[c]. -/
def State.fltTrimW (c v : Nat) (s : State) : Status × State :=
  if s.mode != .test then (.notInTest, s)
  else if sext 12 v < -2000 || 2000 < sext 12 v then (.valueRange, s)
  else (.ok, (s.setFch c { s.fch c with trimReq := true }).setF (FLT_TRIM_TRIM c) v)

/-- R95: FLT_TRIM_WRITE. -/
def fltTrimWriteEff (r : Requester) (c v : Nat) (s : State) : State := (s.hostWrite r (FLT_TRIM c) (State.fltTrimW c v)).2

/-- R121: a write of FLT_PHSEL. -/
def State.fltPhselW (v : Nat) (s : State) : Status × State :=
  let old := s.getF FLT_PHSEL_CH
  let s := s.wr FLT_PHSEL (BitVec.ofNat 32 (v % 256))
  (.ok, if s.getF FLT_PHSEL_CH = old then s else s.mirrorPh)

/-- R121: FLT_PHSEL_WRITE. -/
def fltPhselWriteEff (r : Requester) (v : Nat) (s : State) : State := (s.hostWrite r FLT_PHSEL (State.fltPhselW v)).2

/-- R31, R85: FUSED_SAMPLE: every group's strobe, and the fused samples entering the filter island. -/
def fusedSampleEff (raw : List (List Int)) (refA refB : Bool) (s : State) : State :=
  if s.sampling then (s.strobe raw refA refB).fltPush else s

end Sys2Proof.Machine
end

