-- ==== Sys2Proof/Machine/Elements.lean ====
section
/-!
DEFINITION. Protection elements (04 R122 to R169): quantities, tag reactions, timers and curves, the phasor elements of the
slow list, the busbar zones.
-/
namespace Sys2Proof.Machine

/-- 2^−32 of a sixteenth of a nanosecond in one microsecond. -/
def usTau : Nat := 68719476736000

/-! ### Instances and bays -/

/-- What no register shows of instance `i`. -/
def State.inst (s : State) (i : Nat) : InstInt := Store.get resetInst s.prt.insts i

/-- Replace it. -/
def State.setInst (s : State) (i : Nat) (x : InstInt) : State :=
  { s with prt := { s.prt with insts := Store.set resetInst s.prt.insts i x } }

/-- What no register shows of bay `b`. -/
def State.bay (s : State) (b : Nat) : BayInt := lget resetBay s.prt.bays b

/-- Replace it. -/
def State.setBay (s : State) (b : Nat) (x : BayInt) : State :=
  { s with prt := { s.prt with bays := lset s.prt.bays b x } }

/-- R164: header word `h` (0, 1) of an instance, bits [lo+n−1 : lo]. -/
def State.hdr (s : State) (i h lo n : Nat) : Nat := getBits (s.rd (PRT_SET i h)) lo n

/-- R164: TYPE, BAY and EN of an instance. -/
def State.elType (s : State) (i : Nat) : Nat := s.hdr i 0 0 8

/-- R164: the bay of an instance. -/
def State.elBay (s : State) (i : Nat) : Nat := s.hdr i 0 8 4

/-- R164: is an instance evaluated? -/
def State.elOn (s : State) (i : Nat) : Bool := s.elType i != 0 && s.hdr i 0 12 1 == 1

/-- R165: word GPk of an instance in the group of its bay. -/
def State.gp (s : State) (i k : Nat) : Nat :=
  (s.rd (PRT_SET i (2 + 7 * s.getF (PRT_BSTAT_GRP (s.elBay i)) + k))).toNat

/-- R12: the pod that holds a bay. -/
def State.bayPod (s : State) (b : Nat) : Nat := s.getF (PRT_BAY0_POD b)

/-- R135: logic output `o` as the pods and the trip island see it. -/
def State.logicOut (s : State) (o : Nat) : Bool := bitN s.trp.lo o

/-- R135: is an instance blocked by its bound logic output? -/
def State.elBlocked (s : State) (i : Nat) : Bool := s.hdr i 1 8 1 == 1 && s.logicOut (s.hdr i 1 0 8)

/-- R155: is a bay in cold load, which lasts TCLP? -/
def State.inClp (s : State) (b : Nat) : Bool :=
  match (s.bay b).coldEnd with
  | some e => decide (s.now < e)
  | none => false

/-- R132, R155: PU × 8192, multiplied by CLPF (Q3.13) while the bay is in cold load and CLP is set. -/
def State.puS (s : State) (i : Nat) : Nat :=
  s.gp i 0 * (if s.hdr i 0 14 1 = 1 && s.inClp (s.elBay i) then (s.bay (s.elBay i)).clpf else 8192)

/-- R195, R202: the debounced state of a binary input. -/
def State.bin (s : State) (i : Nat) : Bool :=
  if i < 32 then bitN (s.getF BIO_STATE_LO_ST) i else bitN (s.getF BIO_STATE_HI_ST) (i - 32)

/-- All instances of an image's records, in number order. -/
def instNums : List Nat := upto 512

/-- The ISE instance of a bay, if any. -/
def State.iseOf (s : State) (b : Nat) : Option Nat :=
  instNums.find? (fun i => s.elOn i && s.elType i = 0x15 && s.elBay i = b)

/-- R163: is a forward surge reported within WIN on record for a bay? -/
def State.iseFwd (s : State) (b : Nat) : Bool :=
  match s.iseOf b, (s.bay b).ise.fwdAt with
  | some i, some t => decide (s.now < t + s.gp i 6 * usU)
  | _, _ => false

/-! ### Quantities (R123, R126) -/

/-- A phasor with the tag of what forms it. -/
structure Phr where
  re : Int
  im : Int
  tag : Tag
  deriving DecidableEq, Repr

/-- Harmonic `k` (0 the fundamental) of a channel in a half, negated when `neg`. -/
def phrOf (h : PhHalf) (c k : Nat) (neg : Bool) : Phr :=
  let e := halfAt h c
  let r := lget 0 e.re k
  let i := lget 0 e.im k
  if neg then ⟨-r, -i, e.tag⟩ else ⟨r, i, e.tag⟩

/-- Magnitude of a phasor, rounded half to even. -/
def Phr.mag (p : Phr) : Nat := rsqrt (absN p.re * absN p.re + absN p.im * absN p.im)

/-- Sum of two phasors. -/
def Phr.add (p q : Phr) : Phr := ⟨p.re + q.re, p.im + q.im, tagMax p.tag q.tag⟩

/-- Difference of two phasors. -/
def Phr.sub (p q : Phr) : Phr := ⟨p.re - q.re, p.im - q.im, tagMax p.tag q.tag⟩

/-- Negative of a phasor. -/
def Phr.neg (p : Phr) : Phr := ⟨-p.re, -p.im, p.tag⟩

/-- `srcScale` × (x + a·y + a²·z)/3, a = e^(j2π/3), √3/2 held in 24 fraction bits. -/
def seqPhr (x y z : Phr) : Phr :=
  ⟨16777216 * x.re - 8388608 * (y.re + z.re) + 14529495 * (z.im - y.im),
   16777216 * x.im - 8388608 * (y.im + z.im) + 14529495 * (y.re - z.re), tagMax x.tag (tagMax y.tag z.tag)⟩

/-- Magnitude of a phasor scaled by `srcScale`, in units, rounded half to even. -/
def seqMag (p : Phr) : Nat :=
  (divHalfEven (rsqrt (absN p.re * absN p.re + absN p.im * absN p.im) : Nat) 50331648).toNat

/-- R122, R123: phase-current phasor of a bay. -/
def State.iph (s : State) (h : PhHalf) (b p : Nat) : Phr :=
  phrOf h (s.getF (PRT_BAY0_IPH b) + p) 0 (s.flag (PRT_BAY1_REV b))

/-- R122: phase-voltage phasor of a bay. -/
def State.vph (s : State) (h : PhHalf) (b p : Nat) : Phr := phrOf h (s.getF (PRT_BAY0_VPH b) + p) 0 false

/-- R126: residual current, measured or calculated. -/
def State.i0 (s : State) (h : PhHalf) (b : Nat) (measured : Bool) : Phr :=
  if measured then phrOf h (s.getF (PRT_BAY0_IN b)) 0 (s.flag (PRT_BAY1_REV b))
  else ((s.iph h b 0).add (s.iph h b 1)).add (s.iph h b 2)

/-- R126: residual voltage, measured or calculated. -/
def State.v0 (s : State) (h : PhHalf) (b : Nat) (measured : Bool) : Phr :=
  if measured then phrOf h (s.getF (PRT_BAY0_VN b)) 0 false
  else ((s.vph h b 0).add (s.vph h b 1)).add (s.vph h b 2)

/-- R126: I2 = (Ia + a²·Ib + a·Ic)/3, scaled. -/
def State.i2 (s : State) (h : PhHalf) (b : Nat) : Phr := seqPhr (s.iph h b 0) (s.iph h b 2) (s.iph h b 1)

/-- R126: V1 = (Va + a·Vb + a²·Vc)/3, scaled. -/
def State.v1 (s : State) (h : PhHalf) (b : Nat) : Phr := seqPhr (s.vph h b 0) (s.vph h b 1) (s.vph h b 2)

/-- R126: phase-to-phase voltage p: Vab, Vbc, Vca. -/
def State.vpp (s : State) (h : PhHalf) (b p : Nat) : Phr := (s.vph h b p).sub (s.vph h b ((p + 1) % 3))

/-- R126: Re(V·I*) of a phase. -/
def phPower (v i : Phr) : Int := v.re * i.re + v.im * i.im

/-! ### Tag reactions (R137, R138) -/

/-- R137: how an element reacts to a tag. -/
inductive React where
  | accept | hold | full | block
  deriving DecidableEq, Repr

/-- R138: the reaction of an element type to a tag; `meas`: its residual is measured. -/
def react (ty : Nat) (meas : Bool) (t : Tag) : React :=
  match t with
  | .valid => .accept
  | .recomputed => .accept
  | .substituted => .accept
  | .resync => if [0x08, 0x09, 0x10, 0x0D, 0x0E, 0x11].contains ty then .hold else .accept
  | .overrange =>
    if [0x01, 0x02, 0x03, 0x06, 0x0F, 0x12].contains ty then .full
    else if ty = 0x04 || ty = 0x05 then (if meas then .full else .hold)
    else if ty = 0x07 || ty = 0x14 then .hold
    else .block
  | _ => .hold

/-- R125: rms full scale, in units. -/
def fsRms : Nat := 1518500069

/-- R125: peak full scale, in units. -/
def fsPeak : Nat := 2147483392

/-! ### Curves (R143 to R145) -/

/-- Fraction bits of log2 of a number in [1, 2) held in 62 fraction bits, most significant first. -/
def logBits : Nat → Nat → Nat → Nat
  | 0, _, acc => acc
  | n + 1, x, acc =>
    let y := x * x / 4611686018427387904
    if 9223372036854775808 ≤ y then logBits n (y / 2) (acc * 2 + 1) else logBits n y (acc * 2)

/-- The greatest k ≤ n with b·2^k ≤ a. -/
def log2Int (a b : Nat) : Nat → Nat
  | 0 => 0
  | n + 1 => if b * 2 ^ (n + 1) ≤ a then n + 1 else log2Int a b n

/-- R145: u = log2(a/b) × 255/6 for 1 ≤ a/b ≤ 64, with 16 fraction bits, rounded to the nearest. -/
def curveU (a b : Nat) : Nat :=
  let k := log2Int a b 6
  let l := k * 281474976710656 + logBits 48 (a * 4611686018427387904 / (b * 2 ^ k)) 0
  (divHalfEven ((l * 2785280 : Nat) : Int) 281474976710656).toNat

/-- R145: the rate (Q12.20) of an operating quantity q·8192 against PU·8192. -/
def curveRate (tab : List Nat) (q puS : Nat) : Nat :=
  let a := q * 8192
  if puS = 0 || puS * 64 ≤ a then lget 0 tab 255
  else if a ≤ puS then lget 0 tab 0
  else
    let u := curveU a puS
    let i := u / 65536
    let f := u % 65536
    if 255 ≤ i then lget 0 tab 255
    else
      let t0 : Int := (lget 0 tab i : Nat)
      let t1 : Int := (lget 0 tab (i + 1) : Nat)
      (divHalfEven (t0 * 65536 + (t1 - t0) * (f : Int)) 65536).toNat

/-- R145: the reset rate Rr(j), j = floor(64·M) at most 63. -/
def curveReset (tab : List Nat) (q puS : Nat) : Nat :=
  lget 0 tab (256 + (if puS = 0 then 63 else Nat.min 63 (64 * q * 8192 / puS)))

/-- R145: a rate (Q12.20 s⁻¹) times an interval, in Q2.30, rounded half to even. -/
def rateStep (r d : Nat) : Nat := (divHalfEven ((r * d : Nat) : Int) 67108864000000000).toNat

/-! ### One evaluation of one phase (R132 to R139) -/

/-- What an evaluation finds for a phase: the quantity, whether it reaches pickup, whether it lies below (for an
under-element above) dropout, the reaction, the tag. -/
structure PhEval where
  q : Nat
  up : Bool
  down : Bool
  react : React
  tag : Tag
  deriving DecidableEq, Repr

/-- Settings of an evaluation: DLY and TRST in 2^−32 sixteenths of a nanosecond, RSTM, curve table if any, PU × 8192, the
hold limit in evaluations, whether the element may operate now (R163). -/
structure ElPar where
  dly : Nat
  trst : Nat
  rstm : Nat
  crv : Option (List Nat)
  puS : Nat
  holdLim : Nat
  may : Bool
  deriving DecidableEq, Repr

/-- A phase dropped with timers and accumulator 0. -/
def clearPhase (x : PhaseInt) : PhaseInt :=
  { x with pu := false, op := false, timer := 0, acc := 0, drop := none, cnt := 0 }

/-- R133, R134, R145: the evaluation of a phase that is neither held nor blocked. -/
def phaseRun (p : ElPar) (d : Nat) (e : PhEval) (x : PhaseInt) : PhaseInt :=
  let dr := x.drop.map (· + d)
  let x := match dr with
    | some t => if p.trst ≤ t then { x with timer := 0, acc := 0, drop := none } else { x with drop := dr }
    | none => x
  let on := if x.pu then !e.down else e.up
  if on then
    let tm := if x.pu then x.timer + d else x.timer
    match p.crv with
    | none => { x with pu := true, drop := none, timer := tm, op := x.op || (p.may && p.dly ≤ tm) }
    | some tab =>
      let acc := satAt 0xFFFFFFFF (x.acc + rateStep (curveRate tab e.q p.puS) d)
      { x with pu := true, drop := none, timer := tm, acc := acc
               op := x.op || (p.may && 0x40000000 ≤ acc && p.dly ≤ tm) }
  else
    let x :=
      if x.pu then
        if p.rstm = 1 then { x with pu := false, op := false, drop := some 0 }
        else { x with pu := false, op := false, timer := 0, acc := if p.rstm = 2 then x.acc else 0 }
      else x
    match p.crv with
    | some tab => if p.rstm = 2 && e.down then { x with acc := x.acc - rateStep (curveReset tab e.q p.puS) d } else x
    | none => x

/-- R135, R137, R139: one evaluation of a phase; true when a hold has expired and dropped it. -/
def phaseStep (p : ElPar) (d : Nat) (e : PhEval) (x : PhaseInt) : PhaseInt × Bool :=
  match e.react with
  | .block => ({ clearPhase x with hold := 0 }, false)
  | .hold =>
    let n := x.hold + 1
    if p.holdLim ≤ n then ({ clearPhase x with hold := n }, x.pu || x.op) else ({ x with hold := n }, false)
  | _ => ({ phaseRun p d e x with hold := 0 }, false)

/-- R132: compare an over-quantity with PU and DOR × PU. -/
def overEval (puS dor q : Nat) : Bool × Bool := (puS ≤ q * 8192, q * 134217728 < dor * puS)

/-- R132: compare an under-quantity. -/
def underEval (puS dor q : Nat) : Bool × Bool := (q * 8192 ≤ puS, dor * puS < q * 134217728)

/-- R154: a flagged phase counts as below its dropout threshold. -/
def flagEval (flagged : Bool) (c : Bool × Bool) : Bool × Bool := if flagged then (false, true) else c

/-- R137: the magnitude an element uses. -/
def fullScale (r : React) (fs q : Nat) : Nat := if r = .full then Nat.max q fs else q

/-! ### Directional elements (R148, R149) -/

/-- R148: direction of a current against a polarising phasor: 1 forward, 2 reverse, 3 unknown. RCA in 0.01°, LIM in
degrees; angles times 36,000 in 2^−32 turn. -/
def direction (i v : Int × Int) (rca : Int) (lim : Nat) : Nat :=
  let d0 := (angle32 i.1 i.2 - angle32 v.1 v.2) * 36000 - rca * 4294967296
  let r := d0 % 154618822656000
  let d := if 77309411328000 < r then r - 154618822656000 else r
  let a := absN d
  if a ≤ (9000 - 100 * lim) * 4294967296 then 1 else if (9000 + 100 * lim) * 4294967296 ≤ a then 2 else 3

/-- R149: the polarising phasor of a tick and the memory after it. -/
def polarise (v : Phr) (vpmin memt idx src : Nat) (m : Option PolMem) : Option (Int × Int) × Option PolMem :=
  if vpmin ≤ v.mag then (some (v.re, v.im), some ⟨v.re, v.im, idx, src⟩)
  else
    match m with
    | some k =>
      if k.src = src then (if idx ≤ k.idx + 256 * memt && memt != 0 then (some (k.re, k.im), m) else (none, m))
      else (none, none)
    | none => (none, none)

/-- R148: a directional phase: its direction, whether that allows pickup, and the phase with direction and memory kept. -/
def dirStep (i v : Phr) (puS dor opt vpmin memt idx src : Nat) (x : PhaseInt) : PhaseInt × Bool :=
  let p := polarise v vpmin memt idx src x.mem
  let q := i.mag
  let c := overEval puS dor q
  let d :=
    if c.1 then
      match p.1 with
      | some vp => direction (i.re, i.im) vp (sext 16 opt) (opt / 524288 % 32)
      | none => 3
    else if x.pu && !c.2 then x.dir
    else 3
  let ok := d = opt / 65536 % 4 || (d = 3 && bitN opt 18)
  ({ x with dir := d, mem := p.2 }, ok)

/-! ### Publishing an instance (R169) -/

/-- Bits of three phases. -/
def phBits (l : List Bool) : Nat := b2n (lget false l 0) + 2 * b2n (lget false l 1) + 4 * b2n (lget false l 2)

/-- The greatest of a list. -/
def maxN (l : List Nat) : Nat := l.foldl Nat.max 0

/-- R169: the direction shown: that of the first picked-up phase, else of the first phase with a direction. -/
def shownDir (l : List PhaseInt) : Nat :=
  match l.find? (fun p => p.pu) with
  | some p => p.dir
  | none =>
    match l.find? (fun p => p.dir != 3) with
    | some p => p.dir
    | none => 3

/-- R145, R165: the curve table of an instance: inverse types with CRV other than 0xFFF. -/
def State.elCurve (s : State) (i : Nat) : Option (List Nat) :=
  let c := s.gp i 2 / 262144 % 4096
  if c < 2048 && [0x03, 0x04, 0x05, 0x06, 0x07, 0x08, 0x09].contains (s.elType i) then some (Store.get [] s.prt.curves c)
  else none

/-- R169: PRT_ST and PRT_ACC of an instance after an evaluation. -/
def State.publish (s : State) (i : Nat) (x : InstInt) : State :=
  let ty := s.elType i
  let s := s.setInst i x
  let pu := phBits (x.ph.map (·.pu))
  let op := phBits (x.ph.map (·.op))
  let was := s.flag (PRT_ST_OP i)
  let s := s.setFlag (PRT_ST_PU i) (pu != 0)
  let s := s.setFlag (PRT_ST_OP i) (op != 0)
  let s := (s.setF (PRT_ST_PH_PU i) pu).setF (PRT_ST_PH_OP i) op
  let s := s.setF (PRT_ST_DIR i) (if ty = 0x08 || ty = 0x09 then shownDir x.ph else 0)
  let s := (s.setFlag (PRT_ST_HELD i) x.held).setFlag (PRT_ST_BLOCKED i) x.blocked
  let s := (s.setF (PRT_ST_GRP i) (s.getF (PRT_BSTAT_GRP (s.elBay i)))).setF (PRT_ST_TAG i) (tagCode x.tag)
  let s := s.setFlag (PRT_ST_AUX i) x.op2
  let s := if op != 0 && !was then s.incWrap (PRT_ST_OPCNT i) else s
  s.setF (PRT_ACC_ACC i)
    (if ty = 0x0F then x.theta
     else if (s.elCurve i).isSome then maxN (x.ph.map (·.acc))
     else if ty = 0x12 then satAt 0xFFFFFFFF (x.bfTime.getD 0 / usTau)
     else satAt 0xFFFFFFFF (maxN (x.ph.map (·.timer)) / usTau))

/-- R135: a blocked instance. -/
def blockInst (x : InstInt) : InstInt :=
  { x with
    ph := x.ph.map (fun p => { clearPhase p with hold := 0 }), bfTime := none, bfFalse := 0, bfWait := false, bfCheck := false
    op2 := false, vsAt := none, held := false, blocked := true }

/-- R139: report a hold that expired. -/
def State.holdExpired (s : State) (i : Nat) (t : Tag) : State :=
  (s.setFlag (PRT_ST_HOLD_EXP i) true).raise 41 i (tagCode t)

/-- R139: report the holds that expired in one evaluation, phase by phase. -/
def State.holdsExpired (s : State) (i : Nat) (l : List (Bool × Tag)) : State :=
  l.foldl (fun s r => if r.1 then s.holdExpired i r.2 else s) s

/-! ### The phasor elements of the slow list (R147 to R155) -/

/-- Settings of an evaluation with hold limit `lim`. -/
def State.elPar (s : State) (i lim : Nat) : ElPar :=
  let b := s.elBay i
  let acc := s.hdr i 0 16 1 = 1 && s.iseFwd b
  { dly := if acc then s.hdr i 1 16 16 * 10 * usTau else s.gp i 1 * usTau
    trst := s.gp i 3 * usTau, rstm := s.gp i 2 / 65536 % 4, crv := s.elCurve i, puS := s.puS i
    holdLim := lim, may := !(s.hdr i 0 15 1 = 1) || s.iseFwd b }

/-- R139: the hold limit of a phasor element in slow ticks. -/
def State.slowLim (s : State) (i : Nat) : Nat := 256 * s.hdr i 0 17 7

/-- R154: is phase p of an instance flagged for inrush (any phase for an element not formed per phase)? -/
def State.inrush (s : State) (i : Nat) (p : Option Nat) : Bool :=
  let f := s.getF (PRT_BSTAT_INRUSH (s.elBay i))
  s.hdr i 0 13 1 = 1 && (match p with | some k => bitN f k | none => f != 0)

/-- An over-element's evaluation of magnitude `q` with tag `t`. -/
def State.overPh (s : State) (i : Nat) (meas : Bool) (p : Option Nat) (q : Nat) (t : Tag) : PhEval :=
  let r := react (s.elType i) meas t
  let q := fullScale r fsRms q
  let c := flagEval (s.inrush i p) (overEval (s.puS i) (s.gp i 2 % 65536) q)
  ⟨q, c.1, c.2, r, t⟩

/-- R148, R149: a directional phase in a tick that does not evaluate it: the memory follows |Vpol|, and the direction of a phase that is
dropped after the tick (`dropped`) is unknown with its quantity below PU. -/
def State.dirRest (s : State) (i : Nat) (ip vp : Phr) (idx : Nat) (dropped : Bool) (x : PhaseInt) : PhaseInt :=
  { x with
    mem := (polarise vp (s.gp i 5) (s.gp i 6 % 256) idx (s.getF FLT_FSTAT_SRC) x.mem).2
    dir := if dropped && !(overEval (s.puS i) (s.gp i 2 % 65536) ip.mag).1 then 3 else x.dir }

/-- R147, R148: a directional phase's evaluation. A picked-up phase whose direction becomes the other one drops (DESIGN CHOICE, log 130). -/
def State.dirPh (s : State) (i : Nat) (p : Option Nat) (ip vp : Phr) (idx : Nat) (x : PhaseInt) : PhaseInt × PhEval :=
  let t := tagMax ip.tag vp.tag
  let dor := s.gp i 2 % 65536
  let q := ip.mag
  match react (s.elType i) true t with
  | .accept =>
    let r := dirStep ip vp (s.puS i) dor (s.gp i 4) (s.gp i 5) (s.gp i 6 % 256) idx (s.getF FLT_FSTAT_SRC) x
    let c := flagEval (s.inrush i p || !r.2) (overEval (s.puS i) dor q)
    (r.1, ⟨q, c.1, c.2, .accept, t⟩)
  | r =>
    let dropped := r = .block || !x.pu || s.slowLim i ≤ x.hold + 1
    (s.dirRest i ip vp idx dropped x, ⟨q, false, true, r, t⟩)

/-- R147: 27 and 59: the three voltages MEAS names. -/
def State.meas3 (s : State) (h : PhHalf) (i : Nat) : List Phr :=
  (upto 3).map (fun p => if s.gp i 4 % 4 < 2 then s.vph h (s.elBay i) p else s.vpp h (s.elBay i) p)

/-- R147: 27 and 59: an evaluation per phase, or of all phases as one. -/
def State.voltEvals (s : State) (h : PhHalf) (i : Nat) : List PhEval :=
  let under := s.elType i == 0x0A
  let dor := s.gp i 2 % 65536
  let one (p : Nat) (v : Phr) : PhEval :=
    let q := v.mag
    let c := flagEval (s.inrush i (some p)) (if under then underEval (s.puS i) dor q else overEval (s.puS i) dor q)
    ⟨q, c.1, c.2, react (s.elType i) false v.tag, v.tag⟩
  let es := (s.meas3 h i).mapIdx one
  if bitN (s.gp i 4) 0 then
    let t := tagsMax (es.map (·.tag))
    es.map (fun e => { e with up := es.all (·.up), down := es.any (·.down), tag := t, react := react (s.elType i) false t })
  else es

/-- R136, R139: run the evaluations of an instance's phases, publish it and report expired holds. -/
def State.runPhases (s : State) (i : Nat) (x : InstInt) (p : ElPar) (d : Nat) (es : List PhEval) : State :=
  let rs := (upto 3).map (fun k =>
    match es[k]? with
    | some e => phaseStep p d e (lget resetPhase x.ph k)
    | none => (lget resetPhase x.ph k, false))
  let t := tagsMax (es.map (·.tag))
  let x := { x with ph := rs.map (·.1), tag := t, held := es.any (fun e => e.react = .hold)
                    blocked := es.any (fun e => e.react = .block) }
  (s.publish i x).holdsExpired i (rs.mapIdx (fun k r => (r.2, match es[k]? with | some e => e.tag | none => t)))

/-- R150: 49's thermal state after an interval with current `q`. -/
def thermal (theta q puS tauS d : Nat) : Nat :=
  let ib2 : Int := ((puS * puS : Nat) : Int)
  let num : Int := (d : Int) * (((q * 8192) * (q * 8192) * 268435456 : Nat) - (theta : Int) * ib2)
  let den := tauS * (puS * puS) * 68719476736000000000
  let r := if den = 0 then (theta : Int) else (theta : Int) + divHalfEven num den
  satAt 0xFFFFFFFF r.toNat

/-- R138, R150: the tag of 49's inputs, whether it holds, and θ after an interval. -/
def State.theta49 (s : State) (h : PhHalf) (i d theta : Nat) : Tag × Bool × Nat :=
  let ps := (upto 3).map (fun p => s.iph h (s.elBay i) p)
  let t := tagsMax (ps.map (·.tag))
  let r := react 0x0F true t
  (t, r = .hold, if r = .hold then theta else thermal theta (fullScale r fsRms (maxN (ps.map Phr.mag))) (s.puS i) (s.gp i 6) d)

/-- R150: element 49. -/
def State.eval49 (s : State) (h : PhHalf) (i d : Nat) (x : InstInt) : State :=
  let r := s.theta49 h i d x.theta
  let t := r.1
  let th := r.2.2
  let p0 := lget resetPhase x.ph 0
  if r.2.1 then s.runPhases i x (s.elPar i (s.slowLim i)) d [⟨0, false, true, .hold, t⟩]
  else
    let lim := s.gp i 4
    let low := s.gp i 5 % 65536
    let op := if s.inrush i none then false
      else if lim / 65536 * 16384 ≤ th && (s.elPar i 0).may then true else if th < low * 16384 then false else p0.op
    let x := { x with theta := th, op2 := lim % 65536 * 16384 ≤ th, tag := t, held := false, blocked := false
                      ph := [{ p0 with pu := op, op := op, hold := 0 }, resetPhase, resetPhase] }
    s.publish i x

/-- R147: element 32. -/
def State.eval32 (s : State) (h : PhHalf) (i d : Nat) (x : InstInt) : State :=
  let b := s.elBay i
  let p := (upto 3).foldl (fun a k => a + phPower (s.vph h b k) (s.iph h b k)) 0
  let t := tagsMax ((upto 3).map (fun k => tagMax (s.vph h b k).tag (s.iph h b k).tag))
  let q : Int := if bitN (s.gp i 4) 0 then p else -p
  let set : Int := (s.puS i * 16777216 : Nat)
  let c := flagEval (s.inrush i none)
    (decide (set ≤ q * 8192), decide (q * 134217728 < (s.gp i 2 % 65536 : Nat) * set))
  s.runPhases i x (s.elPar i (s.slowLim i)) d [⟨0, c.1, c.2, react 0x10 false t, t⟩]

/-- R152: every tracked index leaves its V1 with the enabled vector-shift instances, blocked or not. -/
def State.keepV1 (s : State) (h : PhHalf) : State :=
  s.prt.order.flatten.foldl (fun s i =>
    if i < 512 && s.elOn i && s.elType i = 0x11 then
      let v := s.v1 h (s.elBay i)
      s.setInst i { s.inst i with v1 := ((h.m, angle32 v.re v.im, v.tag) :: (s.inst i).v1).take 516 }
    else s) s

/-- R152: vector shift. -/
def State.evalVs (s : State) (h : PhHalf) (i d : Nat) (x : InstInt) : State :=
  let v := s.v1 h (s.elBay i)
  let ang := angle32 v.re v.im
  let find (n : Nat) : Int × Tag :=
    if h.m < n then (ang, .settling)
    else match x.v1.find? (fun e => e.1 = h.m - n) with
      | some e => e.2
      | none => (ang, .settling)
  let e1 := find 256
  let e2 := find 512
  let t := tagsMax [v.tag, e1.2, e2.2]
  let r := react 0x11 false t
  if r != .accept then s.runPhases i x (s.elPar i (s.slowLim i)) d [⟨0, false, true, r, t⟩]
  else
    let big := decide (s.puS i * 4294967296 ≤ absN (wrap32 (wrap32 (ang - e1.1) - wrap32 (e1.1 - e2.1))) * 36000 * 8192)
    let p0 := lget resetPhase x.ph 0
    let pulse := s.gp i 6 * usU
    let still := match x.vsAt with | some t => decide (s.now < t + pulse) | none => false
    let fire := big && s.gp i 5 ≤ seqMag v && (s.elPar i 0).may && !s.inrush i none
    let op := fire || (p0.op && (big || still) && !s.inrush i none)
    let x := { x with vsAt := if big then some s.now else x.vsAt, tag := t, held := false, blocked := false
                      ph := [{ p0 with pu := op, op := op, hold := 0 }, resetPhase, resetPhase] }
    s.publish i x

/-- R151: the tag and fundamental magnitude of the tracking source in use. -/
def State.srcNow (s : State) (h : PhHalf) : Tag × Nat :=
  let cur := s.getF FLT_FSTAT_SRC = 1
  let first := if cur then s.getF FLT_TSRC_ISRC else s.getF FLT_TSRC_VSRC
  let three := if cur then s.flag FLT_TSRC_IMODE else s.flag FLT_TSRC_VMODE
  let p := srcPhasor h first three
  (tagsMax (srcTags h first three), seqMag ⟨p.1, p.2, .valid⟩)

/-- R151: 81R's pickup (PU × 8192) from the estimates of this cycle and N cycles before. -/
def rocof (f1 f0 dt puS sense : Nat) : Bool :=
  let df : Int := (f1 : Int) - (f0 : Int)
  let big := decide (puS * 16777216 * dt ≤ absN df * 68719476736000000000000 * 8192)
  big && ((0 < df && bitN sense 0) || (df < 0 && bitN sense 1))

/-- R151: elements 81 and 81R, evaluated once per cycle. -/
def State.evalFreq (s : State) (h : PhHalf) (i : Nat) (x : InstInt) : State :=
  let ty := s.elType i
  let sn := s.srcNow h
  let f := s.getF FLT_FEST_FEST
  let d := match s.flt.fHist with
    | a :: b :: _ => a.2 - b.2
    | _ => 0
  let lim := s.hdr i 0 17 7
  if 2 ≤ s.getF FLT_FSTAT_SRC || sn.2 < s.gp i 5 then s.publish i { blockInst x with tag := sn.1 }
  else
    let up :=
      if ty = 0x0D then (if bitN (s.gp i 4) 0 then decide (s.puS i < f * 8192) else decide (f * 8192 < s.puS i))
      else
        match s.flt.fHist[s.gp i 4 % 256]? with
        | some o => rocof f o.1 ((lget (0, 0) s.flt.fHist 0).2 - o.2) (s.puS i) (s.gp i 4 / 256 % 4)
        | none => false
    let c := flagEval (s.inrush i none) (up, !up)
    s.runPhases i x (s.elPar i lim) d [⟨0, c.1, c.2, react ty false sn.1, sn.1⟩]

/-- R154: inrush blocking. -/
def State.evalInrush (s : State) (h : PhHalf) (i d : Nat) (x : InstInt) : State :=
  let b := s.elBay i
  let one (p : Nat) : PhEval :=
    let c := s.getF (PRT_BAY0_IPH b) + p
    let m1 := (phrOf h c 0 false).mag
    let m2 := (phrOf h c 1 false).mag
    let t := (halfAt h c).tag
    let on := s.gp i 5 ≤ m1 && s.puS i * m1 ≤ m2 * 134217728
    ⟨0, on, !on, react 0x14 false t, t⟩
  let s := s.runPhases i x { s.elPar i (s.slowLim i) with may := false, crv := none } d ((upto 3).map one)
  let f := phBits ((s.inst i).ph.map (·.pu))
  s.setF (PRT_BSTAT_INRUSH b) (if bitN (s.gp i 4) 0 && f != 0 then 7 else f)

/-- R130, R135: the element state that stands outside an instance, cleared: cold load, INRUSH flags, the surge element. -/
def State.clearOuter (s : State) (i : Nat) : State :=
  let b := s.elBay i
  match s.elType i with
  | 0x13 => (s.setBay b { s.bay b with openAt := none, coldEnd := none }).setFlag (PRT_BSTAT_CLP b) false
  | 0x14 => s.setF (PRT_BSTAT_INRUSH b) 0
  | _ => s

/-- R155: the instance of type CLP of a bay at an evaluation: cold load begins or ends. -/
def State.evalClp (s : State) (i : Nat) : State :=
  let b := s.elBay i
  let y := s.bay b
  let closed := s.flag (PRT_BSTAT_CB b)
  let s :=
    if !closed then s.setBay b { y with openAt := some (y.openAt.getD s.now) }
    else
      match y.openAt with
      | some t =>
        if t + s.gp i 5 * usU ≤ s.now && s.flag (PRT_BAY1_CB_EN b) then
          (s.setBay b { y with openAt := none, coldEnd := some (s.now + s.gp i 6 * usU), clpf := s.gp i 0 }).setFlag
            (PRT_BSTAT_CLP b) true
        else s.setBay b { y with openAt := none }
      | none => s
  let s := match (s.bay b).coldEnd with
    | some e => if e ≤ s.now then (s.setBay b { s.bay b with coldEnd := none }).setFlag (PRT_BSTAT_CLP b) false else s
    | none => s
  s.publish i { s.inst i with op2 := s.flag (PRT_BSTAT_CLP b), blocked := false, tag := .valid }

/-- R135, R148 to R150: a blocked instance at its evaluation. What is no timer or accumulator runs on: θ of 49 with its alarm, and the
polarising memory of 67 and 67N. -/
def State.blockedEval (s : State) (h : PhHalf) (tau i : Nat) (x : InstInt) : InstInt :=
  let b := s.elBay i
  let y := { blockInst x with lastTau := tau }
  match s.elType i with
  | 0x08 =>
    { y with ph := (upto 3).map (fun p =>
        s.dirRest i (s.iph h b p) (s.vpp h b ((p + 1) % 3)) h.m true (lget resetPhase y.ph p)) }
  | 0x09 =>
    let o := s.gp i 4
    { y with ph := [s.dirRest i (s.i0 h b (bitN o 24)) (s.v0 h b (bitN o 25)).neg h.m true (lget resetPhase y.ph 0), resetPhase, resetPhase] }
  | 0x0F =>
    let r := s.theta49 h i (if x.lastTau = 0 then 0 else tau - x.lastTau) x.theta
    { y with theta := r.2.2, tag := r.1, op2 := if r.2.1 then x.op2 else s.gp i 4 % 65536 * 16384 ≤ r.2.2 }
  | _ => y

/-- R131, R135, R147: the evaluation of a slow-list instance on the half of its index; 81 and 81R in the list of the index that ends
their cycle, the first after f_est is published (log 111). 27 is blocked below VBLK even where a tag asks it to hold (DESIGN CHOICE,
log 130). -/
def State.slowEval (s : State) (h : PhHalf) (tau i : Nat) : State :=
  let ty := s.elType i
  let x := s.inst i
  let b := s.elBay i
  let cyc := ty = 0x0D || ty = 0x0E
  if !s.elOn i || (cyc && h.m % 256 != 0) then s
  else if s.elBlocked i then
    (s.publish i (s.blockedEval h tau i x)).clearOuter i
  else
    let d := if x.lastTau = 0 then 0 else tau - x.lastTau
    let x := { x with lastTau := tau, blocked := false, held := false }
    let par := s.elPar i (s.slowLim i)
    match ty with
    | 0x02 => s.runPhases i x par d ((upto 3).map (fun p => let c := s.iph h b p; s.overPh i true (some p) c.mag c.tag))
    | 0x03 => s.runPhases i x par d ((upto 3).map (fun p => let c := s.iph h b p; s.overPh i true (some p) c.mag c.tag))
    | 0x04 => let m := bitN (s.gp i 4) 0; let c := s.i0 h b m; s.runPhases i x par d [s.overPh i m none c.mag c.tag]
    | 0x05 => let m := bitN (s.gp i 4) 0; let c := s.i0 h b m; s.runPhases i x par d [s.overPh i m none c.mag c.tag]
    | 0x06 => let c := s.i0 h b true; s.runPhases i x par d [s.overPh i true none c.mag c.tag]
    | 0x07 => let c := s.i2 h b; s.runPhases i x par d [s.overPh i false none (seqMag c) c.tag]
    | 0x08 =>
      let rs := (upto 3).map (fun p => s.dirPh i (some p) (s.iph h b p) (s.vpp h b ((p + 1) % 3)) h.m (lget resetPhase x.ph p))
      s.runPhases i { x with ph := rs.map (·.1) } par d (rs.map (·.2))
    | 0x09 =>
      let o := s.gp i 4
      let r := s.dirPh i none (s.i0 h b (bitN o 24)) (s.v0 h b (bitN o 25)).neg h.m (lget resetPhase x.ph 0)
      s.runPhases i { x with ph := [r.1, resetPhase, resetPhase] } par d [r.2]
    | 0x0A =>
      let es := s.voltEvals h i
      if maxN (es.map (·.q)) < s.gp i 5 then s.publish i { blockInst x with tag := tagsMax (es.map (·.tag)) }
      else s.runPhases i x par d es
    | 0x0B => s.runPhases i x par d (s.voltEvals h i)
    | 0x0C => let c := s.v0 h b (bitN (s.gp i 4) 0); s.runPhases i x par d [s.overPh i true none c.mag c.tag]
    | 0x0D => s.evalFreq h i x
    | 0x0E => s.evalFreq h i x
    | 0x0F => s.eval49 h i d x
    | 0x10 => s.eval32 h i d x
    | 0x11 => s.evalVs h i d x
    | 0x13 => s.evalClp i
    | 0x14 => s.evalInrush h i d x
    | _ => s

/-! ### Busbar zones (R156 to R158) -/

/-- R157: the members of a zone by its static bits and the logic outputs. -/
def State.zoneMembers (s : State) (z : Nat) : Nat :=
  (upto 12).foldl (fun m b =>
    if bitN (s.getF (PRT_ZMAP_STAT z)) b ||
        (bitN (s.getF (PRT_ZMAP_DYNB z)) b && s.logicOut (s.getF (PRT_ZCFG_ZDBASE z) + b)) then m + 2 ^ b else m) 0

/-- R156: of phase p: the square of Id and Ir, both scaled by 2^22, and the tag. -/
def State.zoneSums (s : State) (h : PhHalf) (z p : Nat) : Nat × Nat × Tag :=
  let r := (upto 12).foldl (fun (a : (Int × Int) × Nat × Tag) b =>
    if bitN (s.getF (PRT_ZSTAT_MEMB z)) b then
      let i := s.iph h b p
      let k := s.getF (PRT_KB_KB b)
      ((a.1.1 + (k : Int) * i.re, a.1.2 + (k : Int) * i.im), a.2.1 + k * i.mag, tagMax a.2.2 i.tag)
    else a) ((0, 0), 0, .valid)
  (absN r.1.1 * absN r.1.1 + absN r.1.2 * absN r.1.2, r.2.1, r.2.2)

/-- The zone's state that no register shows. -/
def State.zone (s : State) (z : Nat) : ZoneInt := lget resetZone s.prt.zones z

/-- Replace it and publish OP and PU. -/
def State.setZone (s : State) (z : Nat) (x : ZoneInt) : State :=
  let s := { s with prt := { s.prt with zones := lset s.prt.zones z x } }
  (s.setF (PRT_ZSTAT_OP z) (phBits (x.ph.map (·.op)))).setF (PRT_ZSTAT_PU z) (phBits (x.ph.map (·.pu)))

/-- A zone phase dropped. -/
def clearZonePh (p : ZonePh) : ZonePh := { p with pu := false, op := false, cnt := 0 }

/-- R139, R156 to R158: one phase of a zone at a slow tick, `d` after the previous one; true when a hold has expired. While blanking
lasts a phase that has not operated may drop, but neither picks up nor counts (log 112). A held tick leaves the count of ticks in a row
(DESIGN CHOICE, log 130). -/
def State.zonePhase (s : State) (h : PhHalf) (z p d : Nat) (blank blocked chkOk : Bool) (x : ZonePh) : ZonePh × Bool :=
  let q := s.zoneSums h z p
  let idm := s.getF (PRT_ZIDMIN_IDMIN z) * 4194304
  let ida := s.getF (PRT_ZIDALM_IDALM z) * 4194304
  let kir := s.getF (PRT_ZCFG_K z) * q.2.1
  let up := idm * idm ≤ q.1 && kir * kir ≤ q.1 * 1073741824
  let holds := react 0x14 false q.2.2 = .hold
  let x := if holds then x
    else { x with alm := if ida = 0 || q.1 < ida * ida then none else match x.alm with | some t => some (t + d) | none => some 0 }
  if blocked then ({ clearZonePh x with hold := 0 }, false)
  else if blank && x.op then (x, false)
  else if holds then
    let n := x.hold + 1
    if 512 ≤ n then ({ clearZonePh x with hold := n }, x.pu || x.op) else ({ x with hold := n }, false)
  else
    let x := { x with hold := 0 }
    if !up then (clearZonePh x, false)
    else if blank then (x, false)
    else
      let n := x.cnt + 1
      ({ x with pu := true, cnt := n, op := x.op || (s.getF (PRT_ZCFG_NCON z) ≤ n && chkOk) }, false)

/-- R158: the alarm of a zone: a phase's Id at or above IDALM for TALM sets it, Id below on all phases clears it. -/
def State.zoneAlarm (s : State) (z : Nat) : State :=
  let x := s.zone z
  let lim := s.getF (PRT_ZTALM_TALM z) * 1000 * usTau
  if s.getF (PRT_ZIDALM_IDALM z) = 0 then s
  else if x.ph.all (fun p => p.alm.isNone) then s.setFlag (PRT_ZSTAT_ALM z) false
  else if x.ph.any (fun p => match p.alm with | some t => decide (lim ≤ t) | none => false) && !s.flag (PRT_ZSTAT_ALM z) then
    (s.setFlag (PRT_ZSTAT_ALM z) true).raise 42 z (phBits (x.ph.map (fun p => p.alm.isSome)))
  else s

/-- R157: take a change of membership at the slow tick of index `m`, or end a blanking. -/
def State.zoneBlank (s : State) (z m : Nat) : State :=
  let w := s.zoneMembers z
  if w != s.getF (PRT_ZSTAT_MEMB z) then
    ((s.setF (PRT_ZSTAT_MEMB z) w).setFlag (PRT_ZSTAT_BLANK z) true).setZone z { s.zone z with blank := m + 256 }
  else if s.flag (PRT_ZSTAT_BLANK z) && (s.zone z).blank ≤ m then s.setFlag (PRT_ZSTAT_BLANK z) false
  else s

/-- R156 to R158: the evaluation of a zone at a slow tick; `chk` holds the check zone's phases where Z0 has one. -/
def State.zoneEval (s : State) (h : PhHalf) (tau z : Nat) (chk : Option (List ZonePh)) : State :=
  if !s.flag (PRT_ZCFG_ZEN z) then s
  else
    let s := s.zoneBlank z h.m
    let x := s.zone z
    let d := if x.lastTau = 0 then 0 else tau - x.lastTau
    let blank := s.flag (PRT_ZSTAT_BLANK z)
    let blocked := s.flag (PRT_ZCFG_ALM_BLK z) && s.flag (PRT_ZSTAT_ALM z) && s.getF (PRT_ZIDALM_IDALM z) != 0
    let ok (p : Nat) : Bool := match chk with | some l => (lget resetZonePh l p).op | none => true
    let rs := x.ph.mapIdx (fun p y => s.zonePhase h z p d blank blocked (ok p) y)
    let s := s.setZone z { x with ph := rs.map (·.1), lastTau := tau }
    let s := (rs.mapIdx (fun p r => (r.2, (s.zoneSums h z p).2.2))).foldl (fun s r =>
      if r.1 then s.raise 41 (512 + z) (tagCode r.2) else s) s
    s.zoneAlarm z

/-- R156, R173: 87B of a zone in its slot. With CHK set a phase of Z0 operates only where Z1's operates in this tick, whichever comes
first in the list. -/
def State.evalZone (s : State) (h : PhHalf) (tau z : Nat) : State :=
  if z = 0 && s.flag (PRT_ZCFG_CHK 1) then
    let c := if (s.zone 1).lastTau = tau then s else s.zoneEval h tau 1 none
    s.zoneEval h tau 0 (some (c.zone 1).ph)
  else s.zoneEval h tau z none

end Sys2Proof.Machine
end

