-- ==== Sys2Proof/Machine/Protection.lean ====
section
/-!
DEFINITION. Protection as the pods run it (04, 05 R170 to R176): the fast tick with 50P-fast and 50BF, the slow list, setting
groups and setting writes, the incremental surge element, and the instants of the timed elements.
-/
namespace Sys2Proof.Machine

/-- R203 to R223: does pod `p` execute (TRIPLE, DUAL_RESYNC or DUAL)? -/
def State.podRuns (s : State) (p : Nat) : Bool :=
  let st := s.getF (POD_STAT_STATE p)
  st = 1 || st = 2 || st = 3

/-- R232: is a pod halted by the debugger? -/
def State.podHalted (s : State) (p : Nat) : Bool := s.getF (POD_STAT_STATE p) = 5

/-! ### Groups and setting writes (R128 to R130) -/

/-- R129: put an accepted group change of a bay in force at a slow-tick boundary after its acceptance. -/
def State.takeGroup (s : State) (b : Nat) : State :=
  match (s.bay b).grpReq with
  | some r =>
    if r.2 = s.flt.m then s
    else
      let s := (s.setBay b { s.bay b with grpReq := none }).setFlag (PRT_BSTAT_GRP_PEND b) false
      if r.1 = s.getF (PRT_BSTAT_GRP b) then s
      else ((s.setF (PRT_BSTAT_GRP b) r.1).incWrap (PRT_BSTAT_GRP_CHG b)).raise 40 b r.1
  | none => s

/-- R21, R129: GROUP_CHANGE_EFFECT, in RUN and TEST. -/
def groupChangeEffectEff (b : Nat) (s : State) : State := if s.protecting then s.takeGroup b else s

/-- R128, R129: accept a group selection from its source; the group in force is no change, and ends a change accepted before and not yet
in force (log 109). -/
def State.requestGroup (s : State) (b g : Nat) : State :=
  if g = s.getF (PRT_BSTAT_GRP b) then
    (s.setBay b { s.bay b with grpReq := none }).setFlag (PRT_BSTAT_GRP_PEND b) false
  else (s.setBay b { s.bay b with grpReq := some (g, s.flt.m) }).setFlag (PRT_BSTAT_GRP_PEND b) true

/-- R128: at a commit, the two logic outputs that select the group of a bay whose source is the logic. -/
def State.logicGroups (s : State) : State :=
  (upto 12).foldl (fun s b =>
    if s.flag (PRT_BAY1_EN b) && s.flag (PRT_BAY1_GSRC b) then
      let o := s.getF (PRT_BAY1_GSEL b)
      let g := b2n (s.logicOut o) + 2 * b2n (s.logicOut (o + 1))
      match (s.bay b).grpReq with
      | some r => if r.1 = g then s else s.requestGroup b g
      | none => if g = s.getF (PRT_BSTAT_GRP b) then s else s.requestGroup b g
    else s) s

/-- R130, R135: a surge element forgets an open window, its result and the surge on record. -/
def State.clearSurge (s : State) (i : Nat) : State :=
  if s.elType i = 0x15 then
    let b := s.elBay i
    (s.setBay b { s.bay b with ise := { (s.bay b).ise with inc := none, ovr := false, fwdAt := none, res := none } }).setFlag
      (PRT_BSTAT_ISE_FWD b) false
  else s

/-- R130: setting words accepted before the boundary take effect, and the instance restarts dropped; θ of 49 stands (log 110). -/
def State.takeSettings (s : State) (i : Nat) : State :=
  let x := s.inst i
  let due := x.setReq.filter (fun r => r.2.2 != s.flt.m)
  if due.isEmpty then s
  else
    let s := due.foldl (fun s r => s.wr (PRT_SET i r.1) (BitVec.ofNat 32 r.2.1)) ((s.clearOuter i).clearSurge i)
    s.publish i { resetInst with theta := x.theta, v1 := x.v1, lastTau := x.lastTau, tag := x.tag
                                 setReq := x.setReq.filter (fun r => r.2.2 = s.flt.m) }

/-- R21, R130: SETTING_WRITE_EFFECT, in RUN and TEST. -/
def settingWriteEffectEff (i : Nat) (s : State) : State := if s.protecting then s.takeSettings i else s

/-! ### The fast tick (R142, R153, R171) -/

/-- R139: the hold limit of a fast element in fast ticks. -/
def State.fastLim (s : State) (i : Nat) : Nat := s.hdr i 0 17 7 * (if s.flag FLT_TCFG_FNOM then 1067 else 1280)

/-- The Geyser estimate of a bay's phase (a virtual channel has none: 0 tagged MISSING). -/
def State.geyOf (s : State) (b p : Nat) : Sample :=
  let c := s.getF (PRT_BAY0_IPH b) + p
  if c < 48 then lget ⟨0, .settling⟩ s.flt.geyRead c else ⟨0, .missing⟩

/-- R142: one phase of 50P-fast; true when a hold has expired. A held tick leaves the count of ticks in a row (DESIGN CHOICE, log 130). -/
def fastPhase (puS dor lim : Nat) (may flagged : Bool) (e : Sample) (x : PhaseInt) : PhaseInt × Bool :=
  let r := react 0x01 true e.tag
  if r = .hold then
    let n := x.hold + 1
    if lim ≤ n then ({ clearPhase x with hold := n }, x.pu || x.op) else ({ x with hold := n }, false)
  else
    let c := flagEval flagged (overEval puS dor (fullScale r fsPeak e.v.toNat))
    if c.2 then ({ clearPhase x with hold := 0 }, false)
    else if c.1 then
      ({ x with pu := true, cnt := satInc 2 x.cnt, op := x.op || (may && 1 ≤ x.cnt), hold := 0 }, false)
    else ({ x with cnt := 0, hold := 0 }, false)

/-- R142: 50P-fast in a fast tick. -/
def State.evalFast (s : State) (i : Nat) : State :=
  let b := s.elBay i
  let x := s.inst i
  if s.elBlocked i then s.publish i (blockInst x)
  else
    let es := (upto 3).map (fun p => s.geyOf b p)
    let par := s.elPar i (s.fastLim i)
    let rs := (upto 3).map (fun p =>
      fastPhase par.puS (s.gp i 2 % 65536) par.holdLim par.may (s.inrush i (some p)) (lget ⟨0, .settling⟩ es p)
        (lget resetPhase x.ph p))
    let t := tagsMax (es.map (·.tag))
    let s := s.publish i { x with ph := rs.map (·.1), tag := t, held := es.any (fun e => react 0x01 true e.tag = .hold)
                                  blocked := false }
    s.holdsExpired i (rs.mapIdx (fun p r => (r.2, (lget ⟨0, .settling⟩ es p).tag)))

/-- R153: is a 50BF started? -/
def State.bfStart (s : State) (i : Nat) : Bool :=
  bitN (s.getF TRP_FIRE_ST_FIRE) (s.gp i 4 % 32) || (s.hdr i 1 9 1 = 1 && s.logicOut (s.hdr i 1 0 8))

/-- R153, R163: an evaluation of 50BF's time with the check `chk`, `d` after the previous one; it operates only where it `may`. -/
def bfStep (may chk : Bool) (t1 t2 d : Nat) (x : InstInt) : InstInt :=
  let tm := match x.bfTime with
    | some t => some (t + d)
    | none => if x.bfWait && !chk then none else some 0
  let n := if chk then 0 else x.bfFalse + 1
  if 2 ≤ n then
    { x with bfTime := none, bfFalse := 0, bfWait := true, bfCheck := chk, op2 := false
             ph := x.ph.map (fun p => { p with op := false }) }
  else
    let r1 := may && chk && (match tm with | some t => decide (t1 ≤ t) | none => false)
    let r2 := may && chk && (match tm with | some t => decide (t2 ≤ t) | none => false)
    { x with bfTime := tm, bfFalse := n, bfWait := x.bfWait && tm.isNone, bfCheck := chk, op2 := x.op2 || r2
             ph := x.ph.mapIdx (fun k p => if k = 0 then { p with op := p.op || r1 } else p) }

/-- R153, R154: 50BF in a fast tick: a phase flagged for inrush does not make the check true. PU shows that it is started. -/
def State.evalBf (s : State) (i : Nat) : State :=
  let b := s.elBay i
  let x := s.inst i
  if s.elBlocked i then s.publish i (blockInst x)
  else
    let es := (upto 3).map (fun p => s.geyOf b p)
    let hold (e : Sample) : Bool := react 0x12 true e.tag = .hold
    let ovr (k : Nat) (e : Sample) : Bool :=
      !hold e && !s.inrush i (some k) && s.puS i ≤ fullScale (react 0x12 true e.tag) fsPeak e.v.toNat * 8192
    let chk := (es.mapIdx ovr).any id || (bitN (s.gp i 4) 5 && s.flag (PRT_BSTAT_CB b))
    let t := tagsMax (es.map (·.tag))
    let held := !chk && es.any hold
    let p0 := lget resetPhase x.ph 0
    let x := { x with tag := t, blocked := false, held := held }
    if held then
      let n := p0.hold + 1
      if s.fastLim i ≤ n then
        let y := { blockInst x with blocked := false, held := true, ph := [{ resetPhase with hold := n }, resetPhase, resetPhase] }
        let s := s.publish i y
        if p0.pu || p0.op || x.op2 then s.holdExpired i t else s
      else s.publish i { x with ph := [{ p0 with hold := n }, resetPhase, resetPhase] }
    else if s.bfStart i then
      let y := bfStep (s.elPar i 0).may chk (s.gp i 5 * usTau) (s.gp i 6 * usTau) (fastU * 4294967296)
        { x with ph := [{ p0 with hold := 0, pu := true }, resetPhase, resetPhase] }
      s.publish i y
    else s.publish i { blockInst x with blocked := false }

/-- R155, R194: the breaker state of each bay as the pods read it. -/
def State.readBreakers (s : State) : State :=
  (upto 12).foldl (fun s b =>
    if s.flag (PRT_BAY1_EN b) then
      s.setFlag (PRT_BSTAT_CB b) (s.flag (PRT_BAY1_CB_EN b) && s.bin (s.getF (PRT_BAY1_CBBI b)))
    else s) s

/-! ### The slow list (R173 to R176) -/

/-- A pod's slow list. -/
def State.slowOf (s : State) (p : Nat) : SlowPod := lget resetSlow s.prt.slow p

/-- Replace it. -/
def State.setSlow (s : State) (p : Nat) (x : SlowPod) : State := { s with prt := { s.prt with slow := lset s.prt.slow p x } }

/-- R176: the index of the list a pod starts next: after the one last started or given up, but of the two halves held. -/
def State.nextList (s : State) (p : Nat) : Nat :=
  match (s.slowOf p).idx with
  | none => s.flt.cur.m
  | some k => k + 1

/-- R232: the instant a pod has come to: now, or that of its halt while the debugger halts it. -/
def State.podNow (s : State) (p : Nat) : Nat :=
  if s.podHalted p then Nat.min s.now (lget resetPod s.pod.pods p).haltAt else s.now

/-- R176: is a list in progress at this instant? -/
def State.slowBusy (s : State) (p : Nat) : Bool :=
  match (s.slowOf p).endAt with
  | some e => decide (s.podNow p < e)
  | none => false

/-- R176: at a boundary, a list of the index before that is still running counts as late. -/
def State.slowLate (s : State) : State :=
  (upto 2).foldl (fun s p =>
    if s.slowBusy p then (s.incSat (TRP_SCHED2_LATE p)).raise 44 p (s.slowOf p).cycles else s) s

/-- The instant, on the clock of the model, of boundary B of a tracked instant `tau` (R111). -/
def State.boundaryOf (s : State) (tau : Nat) : Int :=
  (s.flt.strobeT : Int) + (tau : Int) / 4294967296 - ((s.ana.strobe : Int) - 1) * 15625 + 7360000

/-- R176: the instant 2.865 µs before the next boundary, at which the half of the index before the latest begins to be written. -/
def State.slowLimit (s : State) : Nat := (s.boundaryOf s.flt.tau - 45840).toNat

/-- R173: an entry of a slow list: an instance, or 512 + z for a busbar zone. -/
def State.slowEntry (s : State) (h : PhHalf) (tau e : Nat) : State :=
  if e < 512 then s.slowEval h tau e else s.evalZone h tau (e - 512)

/-- R173, R176: a pod evaluates, each at the end of its slot and on the half of the list's own index, the entries whose slots end by `t`;
those of a pod that does not run keep their state, and those of a halted pod wait. -/
def State.slowTo (s : State) (p t : Nat) : State :=
  let x := s.slowOf p
  let due := x.left.takeWhile (fun e => decide (e.2 ≤ t))
  match x.idx with
  | none => s
  | some k =>
    if due.isEmpty || s.podHalted p then s
    else
      let s := s.setSlow p { x with left := x.left.drop due.length }
      if !s.protecting || !s.podRuns p then s
      else
        let h := if k = s.flt.cur.m then s.flt.cur else s.flt.prev
        let tau := s.tauAt k
        { due.foldl (fun s e => { s with now := e.2 }.slowEntry h tau e.1) s with now := s.now }

/-- R176: until when a pod's list in progress may be evaluated at this instant. -/
def State.slowUpTo (s : State) (p : Nat) : Nat :=
  if (s.slowOf p).idx = some s.flt.cur.m then s.podNow p else Nat.min (s.podNow p) s.slowLimit

/-- R173: the state with every slot that has ended evaluated on both pods: what the words released and the registers show. -/
def State.ahead (s : State) : State :=
  let s := s.slowTo 0 (s.slowUpTo 0)
  s.slowTo 1 (s.slowUpTo 1)

/-- R176: 2.865 µs before B_(m+2) a list of index m still running is abandoned and one not started is skipped; each counts as SKIP, for a halted
pod too (R232). A pod that is stopped or in FAIL starts no list (log 107). -/
def State.slowTrim (s : State) (p : Nat) : State :=
  if !s.protecting || !(s.podRuns p || s.podHalted p) then s.setSlow p { s.slowOf p with idx := some s.flt.cur.m, endAt := none, left := [] }
  else
    let s := s.slowTo p (s.slowUpTo p)
    let x := s.slowOf p
    let t := s.slowUpTo p
    let runs := match x.endAt with | some e => decide (t < e) | none => false
    let k := if runs then x.idx.getD 0 else s.nextList p
    if k + 1 < s.flt.cur.m || (k + 1 = s.flt.cur.m && s.slowLimit ≤ s.now) then
      (s.setSlow p { x with idx := some k, endAt := none, left := [] }).incSat (TRP_SCHED2_SKIP p)
    else s

/-- R173: the entries of a list with the instants their slots end, one after the other: `ends` in pod cycles from the start, the last of
them, and any not given, at the list's end. -/
def slotEnds (t0 cycles : Nat) : Nat → List Nat → List Nat → List (Nat × Nat)
  | _, _, [] => []
  | last, ends, e :: es =>
    let c := Nat.min cycles (Nat.max last (ends.headD cycles))
    (e, t0 + c * 20) :: slotEnds t0 cycles c (ends.drop 1) es

/-- R173, R176: SLOW_LIST_START: a pod's slow list of the next index, `cycles` pod cycles long, its slots ending at `ends`. -/
def slowListStartEff (p cycles : Nat) (ends : List Nat) (s : State) : State :=
  if !s.protecting || !s.podRuns p then s
  else
  let s := s.slowTrim p
  let k := s.nextList p
  if s.slowBusy p || s.flt.m = 0 || s.flt.cur.m < k then s
  else
    let l := lget [] s.prt.order p
    let s := s.setSlow p ⟨some k, some (s.now + cycles * 20), cycles, slotEnds s.now cycles 0 ends l⟩
    let s := s.setF (TRP_SCHED_SLOW_MAX p) (Nat.max (s.getF (TRP_SCHED_SLOW_MAX p)) (satAt 0xFFFF cycles))
    let s := (upto 12).foldl (fun s b => if s.bayPod b = p then s.takeGroup b else s) s
    (l.filter (· < 512)).foldl (fun s i => s.takeSettings i) s

/-- R176: SLOW_LIST_ABANDON. -/
def slowListAbandonEff (p : Nat) (s : State) : State :=
  if s.protecting && (s.podRuns p || s.podHalted p) then s.slowTrim p else s

/-! ### Timed elements (R133 to R158) -/

/-- R173: is an instance evaluated: protection active, its pod running, EN set? -/
def State.elRuns (s : State) (i : Nat) : Bool := s.protecting && s.elOn i && s.podRuns (s.bayPod (s.elBay i))

/-- Change one phase of an instance and publish it. -/
def State.phaseEvent (s : State) (i k : Nat) (f : PhaseInt → PhaseInt) : State :=
  let x := s.inst i
  s.publish i { x with ph := lmod x.ph k f }

/-- R133: DEFINITE_TIME_EXPIRY: a picked-up phase whose timer has reached DLY operates. -/
def definiteTimeExpiryEff (i k : Nat) (s : State) : State :=
  let x := lget resetPhase (s.inst i).ph k
  let p := s.elPar i (s.slowLim i)
  if s.elRuns i && x.pu && !x.op && p.crv.isNone && p.may && s.elType i != 0x12 && s.elType i != 0x14 &&
      s.elType i != 0x01 && p.dly ≤ x.timer then
    s.phaseEvent i k (fun y => { y with op := true })
  else s

/-- R145: INVERSE_TIME_OPERATE: a phase whose accumulator has reached 1.0 with TMIN elapsed operates. -/
def inverseTimeOperateEff (i k : Nat) (s : State) : State :=
  let x := lget resetPhase (s.inst i).ph k
  let p := s.elPar i (s.slowLim i)
  if s.elRuns i && x.pu && !x.op && p.crv.isSome && p.may && 0x40000000 ≤ x.acc && p.dly ≤ x.timer then
    s.phaseEvent i k (fun y => { y with op := true })
  else s

/-- R134: RESET_TIME_EXPIRY: TRST after a definite-reset dropout, timer and accumulator go to 0. -/
def resetTimeExpiryEff (i k : Nat) (s : State) : State :=
  match (lget resetPhase (s.inst i).ph k).drop with
  | some t => if s.elRuns i && s.gp i 3 * usTau ≤ t then s.phaseEvent i k (fun y => { y with timer := 0, acc := 0, drop := none }) else s
  | none => s

/-- R139: HOLD_LIMIT_EXPIRY: a phase held for its limit drops out. -/
def holdLimitExpiryEff (i k : Nat) (s : State) : State :=
  let x := lget resetPhase (s.inst i).ph k
  let ty := s.elType i
  let lim := if ty = 0x01 || ty = 0x12 then s.fastLim i else if ty = 0x0D || ty = 0x0E then s.hdr i 0 17 7 else s.slowLim i
  if s.elRuns i && lim != 0 && lim ≤ x.hold && (x.pu || x.op) then
    (s.phaseEvent i k (fun y => clearPhase y)).holdExpired i (s.inst i).tag
  else s

/-- R152: VECTOR_SHIFT_PULSE_END: PULSE after the last tick with vs ≥ PU. -/
def vectorShiftPulseEndEff (i : Nat) (s : State) : State :=
  match (s.inst i).vsAt with
  | some t =>
    if s.elRuns i && s.elType i = 0x11 && t + s.gp i 6 * usU ≤ s.now then
      s.publish i { s.inst i with vsAt := none, ph := (s.inst i).ph.map (fun p => { p with pu := false, op := false }) }
    else s
  | none => s

/-- R153: BF_RETRIP_TIME: the time has reached T1 with the check true. -/
def bfRetripTimeEff (i : Nat) (s : State) : State :=
  let x := s.inst i
  match x.bfTime with
  | some t =>
    if s.elRuns i && s.elType i = 0x12 && x.bfCheck && (s.elPar i 0).may && s.gp i 5 * usTau ≤ t then s.phaseEvent i 0 (fun y => { y with op := true }) else s
  | none => s

/-- R153: BF_BACKTRIP_TIME: the time has reached T2 with the check true. -/
def bfBacktripTimeEff (i : Nat) (s : State) : State :=
  let x := s.inst i
  match x.bfTime with
  | some t =>
    if s.elRuns i && s.elType i = 0x12 && x.bfCheck && (s.elPar i 0).may && s.gp i 6 * usTau ≤ t then s.publish i { x with op2 := true } else s
  | none => s

/-- The CLP instance of a bay, if any. -/
def State.clpOf (s : State) (b : Nat) : Option Nat :=
  instNums.find? (fun i => s.elOn i && s.elType i = 0x13 && s.elBay i = b)

/-- R155, R194: COLD_LOAD_ENTRY: the breaker, as the pods last read it, reports closed after open for TCOLD. -/
def coldLoadEntryEff (b : Nat) (s : State) : State :=
  match s.clpOf b with
  | some i => if s.elRuns i && !s.elBlocked i then s.evalClp i else s
  | none => s

/-- R155: COLD_LOAD_END: TCLP expires. -/
def coldLoadEndEff (b : Nat) (s : State) : State :=
  match s.clpOf b, (s.bay b).coldEnd with
  | some i, some e =>
    if s.protecting && e ≤ s.now then
      let s := (s.setBay b { s.bay b with coldEnd := none }).setFlag (PRT_BSTAT_CLP b) false
      s.publish i { s.inst i with op2 := false }
    else s
  | _, _ => s

/-- R156: ZONE_NCON_REACHED: a zone phase with NCON consecutive ticks of pickup operates. -/
def zoneNconReachedEff (z k : Nat) (s : State) : State :=
  let x := s.zone z
  let p := lget resetZonePh x.ph k
  let chk := z = 0 && s.flag (PRT_ZCFG_CHK 1)
  let z1 := (lget resetZonePh (s.zone 1).ph k).op
  if s.protecting && s.podRuns 1 && s.flag (PRT_ZCFG_ZEN z) && p.pu && s.getF (PRT_ZCFG_NCON z) ≤ p.cnt && (!chk || z1) &&
      !s.flag (PRT_ZSTAT_BLANK z) then
    s.setZone z { x with ph := lmod x.ph k (fun y => { y with op := true }) }
  else s

/-- R157: ZONE_BLANK_END: 256 slow ticks after a change of membership. -/
def zoneBlankEndEff (z : Nat) (s : State) : State :=
  if s.flag (PRT_ZSTAT_BLANK z) && (s.zone z).blank ≤ s.flt.cur.m then s.setFlag (PRT_ZSTAT_BLANK z) false else s

/-- R158: ZONE_ALARM_TIME: Id at or above IDALM for TALM. -/
def zoneAlarmTimeEff (z : Nat) (s : State) : State :=
  if s.protecting && s.podRuns 1 && s.flag (PRT_ZCFG_ZEN z) then s.zoneAlarm z else s

/-! ### The incremental surge element (R159 to R163) -/

/-- The fused sample of channel `c` at strobe `n`. -/
def State.xAt (s : State) (c n : Nat) : Sample := lget ⟨0, .settling⟩ (s.fch c).x (s.ana.strobe - 1 - n)

/-- R159: Δx[n] = x[n] − x[n − Nc]. -/
def State.dx (s : State) (c nc n : Nat) : Int := (s.xAt c n).v - (s.xAt c (n - nc)).v

/-- R159: the first of a bay's voltage channels, where they are physical. -/
def State.iseVolt (s : State) (b : Nat) : Option Nat :=
  let v := s.getF (PRT_BAY0_VPH b)
  if s.flag (PRT_BAY0_V_EN b) && v < 64 then some v else none

/-- R162: the tags of a bay's physical inputs at strobe n and one Nc before. -/
def State.iseTags (s : State) (b nc n : Nat) : List Tag :=
  let i := s.getF (PRT_BAY0_IPH b)
  let cs := (upto 3).map (i + ·) ++ (match s.iseVolt b with | some v => (upto 3).map (v + ·) | none => [])
  (cs.map (fun c => [(s.xAt c n).tag, (s.xAt c (n - nc)).tag])).flatten

/-- R138: does the surge element hold on a tag? -/
def iseHolds (t : Tag) : Bool := t = .settling || t = .refUnsettled || t = .missing

/-- R154, R155, R159: has a phase current of a bay |Δi| ≥ THR at strobe n and at least THR/2 at the four that follow? -/
def State.iseHit (s : State) (b i nc n k : Nat) : Bool :=
  let c := s.getF (PRT_BAY0_IPH b) + k
  !s.inrush i (some k) && s.puS i ≤ absN (s.dx c nc n) * 8192 &&
    (upto 4).all (fun j => s.puS i ≤ 2 * (absN (s.dx c nc (n + 1 + j)) * 8192))

/-- R159: SURGE_INCEPTION: at sample n (four samples ago) a phase current has |Δi| ≥ THR and the four that follow at least
THR/2; the search window opens, for the first of the phases that do so at n (log 113). -/
def surgeInceptionEff (b k : Nat) (s : State) : State :=
  match s.iseOf b with
  | none => s
  | some i =>
    let x := (s.bay b).ise
    let n := s.ana.strobe - 5
    let nc := s.flt.nc
    let tags := ((upto 5).map (fun j => s.iseTags b nc (n + j))).flatten
    let free := match x.last with | some l => decide (l.1 + 2 * l.2 ≤ n) | none => true
    if s.protecting && nc + 5 ≤ s.ana.strobe && s.getF (PRT_BAY0_IPH b) < 48 && x.inc.isNone && free && s.iseHit b i nc n k &&
        !s.elBlocked i && !tags.any iseHolds then
      let k0 := ((upto 3).find? (s.iseHit b i nc n)).getD k
      s.setBay b { s.bay b with ise := { x with inc := some (n, k0, nc), ovr := tags.any (· = .overrange), last := some (n, nc) } }
    else s

/-- R159, R161: strobe position, in 2^−32 strobes, of the crossing of THR/2 between samples n − 1 and n of magnitude a, b. -/
def crossing (n thr a b : Nat) : Int :=
  if b = a then ((n : Int) - 1) * 4294967296
  else ((n : Int) - 1) * 4294967296 + ((thr : Int) - 2 * (a : Int)) * 2147483648 / ((b : Int) - (a : Int))

/-- R160: direction over 16 samples from n: 1 forward, 2 reverse, 3 unknown. -/
def State.iseDir (s : State) (b i nc n ph : Nat) : Nat :=
  match s.iseVolt b with
  | none => 3
  | some v =>
    let ci := s.getF (PRT_BAY0_IPH b) + ph
    let t := (upto 16).foldl (fun a k => a + s.dx (v + ph) nc (n + k) * s.dx ci nc (n + k)) 0
    let lim : Int := (s.gp i 5 * 4294967296 : Nat)
    if ((upto 16).map (fun j => s.iseTags b nc (n + j))).flatten.any iseHolds then 3
    else if t ≤ -lim then 1 else if lim ≤ t then 2 else 3

/-- R161: the instant, in 2^−32 strobes, of the next arrival after n on the same phase with the same sign, among `win` samples, with the
four samples after it taken (log 113). -/
def State.iseArrival (s : State) (i c nc n win : Nat) : Option Int :=
  let d0 := s.dx c nc n
  let sg : Int := if 0 ≤ d0 then 1 else -1
  let thr := s.puS i
  let ch (j : Nat) : Int := (s.dx c nc j - d0) * sg * 8192
  let held (j : Nat) : Bool := (upto 5).any (fun k => iseHolds (s.xAt c (j + k)).tag)
  let hit (j : Nat) : Bool := (thr : Int) ≤ ch j && (upto 4).all (fun k => thr ≤ 2 * absN (ch (j + 1 + k))) && decide (j + 4 < s.ana.strobe) && !held j
  ((upto win).find? (fun k => hit (n + 1 + k))).map (fun k => crossing (n + 1 + k) thr (absN (ch (n + k))) (absN (ch (n + 1 + k))))

/-- R162: ISE_WINDOW_CLOSE: the search window, 2 × LMAX/VPROP from the inception, has closed; what was found waits for the pod's next
fast tick. -/
def iseWindowCloseEff (b : Nat) (s : State) : State :=
  match s.iseOf b, (s.bay b).ise.inc with
  | some i, some (n, k, nc) =>
    let x := (s.bay b).ise
    let vp := s.gp i 4 % 65536
    let lm := s.gp i 4 / 65536
    let win := if vp = 0 then 0 else 2 * lm * 1024 / (vp * 1000)
    let t1 := crossing n (s.puS i) (absN (s.dx (s.getF (PRT_BAY0_IPH b) + k) nc (n - 1)) * 8192)
      (absN (s.dx (s.getF (PRT_BAY0_IPH b) + k) nc n) * 8192)
    let within (d : Int) : Bool := vp != 0 && decide (d * (vp : Int) ≤ 2 * (lm : Int) * 1000 * 16 * 4294967296)
    if !s.protecting || s.ana.strobe < n + 16 || within (s.strobeTime - t1 * 15625) then s
    else
      let i0 := s.getF (PRT_BAY0_IPH b)
      let ovr := x.ovr || ((upto (Nat.min (s.ana.strobe - n) (Nat.max 16 (win + 6)))).map (fun j => s.iseTags b nc (n + j))).flatten.any (· = .overrange)
      let ph := (upto 3).foldl (fun p q => if absN (s.dx (i0 + p) nc n) < absN (s.dx (i0 + q) nc n) then q else p) 0
      let t2 := match (if ovr then none else s.iseArrival i (i0 + k) nc n (win + 1)) with
        | some t => if within ((t - t1) * 15625) then some t else none
        | none => none
      let lab := splitTime (s.labelOf (t1 * 15625 - s.getI (FLT_TRIM_TRIM (i0 + k)) * 68719476736))
      let r : IseRes :=
        { sec := lab.1, ns := lab.2.1, ph := phBits ((upto 3).map (s.iseHit b i nc n)), dir := if ovr then 3 else s.iseDir b i nc n ph
          dist := t2.map (fun t => satAt 0xFFFF (divHalfEven ((vp : Int) * (t - t1) * 15625) 137438953472000).toNat) }
      s.setBay b { s.bay b with ise := { x with inc := none, res := some r } }
  | _, _ => s

/-- R138, R162, R169: the surge-result intake of a fast tick: the tags of the element's inputs, and a result delivered. A surge that is not
forward leaves an earlier forward one on record (DESIGN CHOICE, log 130). -/
def State.iseIntake (s : State) (i : Nat) : State :=
  let b := s.elBay i
  let ts := s.iseTags b s.flt.nc (s.ana.strobe - 1)
  let y := { s.inst i with tag := tagsMax ts }
  if s.elBlocked i then (s.publish i { blockInst y with tag := y.tag }).clearSurge i
  else
    let s := s.publish i { y with held := ts.any iseHolds, blocked := false }
    let x := (s.bay b).ise
    match x.res with
    | none => s
    | some r =>
      let s := s.setBay b { s.bay b with ise := { x with res := none, fwdAt := if r.dir = 1 then some s.now else x.fwdAt } }
      let s := if r.dir = 1 then s.setFlag (PRT_BSTAT_ISE_FWD b) true else s
      let d := r.dist.getD 0
      let s := (s.setF (PRT_ISE_TLO_NS b) r.ns).setF (PRT_ISE_THI_SEC b) r.sec
      let s := (s.setF (PRT_ISE_RES_DIR b) r.dir).setFlag (PRT_ISE_RES_DVALID b) r.dist.isSome
      let s := (s.setFlag (PRT_ISE_RES_NEW b) true).setF (PRT_ISE_RES_PH b) r.ph
      let s := (s.setF (PRT_ISE_RES_DIST b) d).incWrap (PRT_ISE_RES_SURGES b)
      s.raise 43 b (d + 65536 * r.dir)

/-- R163: ISE_WIN_EXPIRY: WIN after a forward surge was reported. -/
def iseWinExpiryEff (b : Nat) (s : State) : State :=
  match s.iseOf b, (s.bay b).ise.fwdAt with
  | some i, some t =>
    if s.sys.refPresent && t + s.gp i 6 * usU ≤ s.now then
      (s.setBay b { s.bay b with ise := { (s.bay b).ise with fwdAt := none } }).setFlag (PRT_BSTAT_ISE_FWD b) false
    else s
  | _, _ => s

/-! ### Ticks (R111, R170 to R173) -/

/-- R170, R171, R396: FAST_TICK: estimate set k becomes readable, a heartbeat is due 3.0 µs later, the slots of the slow lists that have ended count, and each protection pod
runs its Geyser window: 50P-fast, 50BF, surge-result intake. -/
def fastTickEff (s : State) : State :=
  let s := if s.sampling then { s with flt := { s.flt with geyRead := s.flt.geyNew, geyK := (s.ana.strobe - 1) / 16 } } else s
  let s := if s.sys.refPresent then { s with oz := { s.oz with hbDue := some (s.now + 48000) } } else s
  if !s.protecting then s
  else
    let s := { s with trp := { s.trp with binF := s.getF BIO_STATE_LO_ST + 4294967296 * s.getF BIO_STATE_HI_ST } }
    let s := s.ahead.readBreakers
    instNums.foldl (fun s i =>
      if !s.elOn i || !s.podRuns (s.bayPod (s.elBay i)) then s
      else if s.elType i = 0x01 then s.evalFast i
      else if s.elType i = 0x12 then s.evalBf i
      else if s.elType i = 0x15 then s.iseIntake i
      else s) s

/-- R111, R152, R173, R176: PHASOR_SWAP: the boundary B_m as both the filter island and the pods see it. -/
def slowBoundaryEff (s : State) : State :=
  if !s.gridRuns || !s.swapReady then s
  else
    let t := ((s.slowTrim 0).slowTrim 1).swapHalves
    (if t.protecting then t.keepV1 t.flt.cur else t).slowLate

end Sys2Proof.Machine
end

