-- ==== Sys2Proof/Machine/Trip.lean ====
section
/-!
DEFINITION. The trip path (05 R177 to R202): the trip matrix, the trip commit, the dynamic drive, WDOG_OK, binary inputs.
-/
namespace Sys2Proof.Machine

/-! ### The matrix (R177, R178) -/

/-- R177: the value of element source `n`. -/
def State.srcValue (s : State) (n : Nat) : Bool :=
  let i := s.getF (TRP_ESRC_INST n)
  match s.getF (TRP_ESRC_SIG n) with
  | 0 => s.flag (PRT_ST_PU i)
  | 1 => s.flag (PRT_ST_OP i)
  | 2 => s.flag (PRT_ST_AUX i)
  | 3 => s.getF (PRT_ZSTAT_OP i) != 0
  | _ => s.getF (PRT_ZSTAT_PU i) != 0

/-- R177: the pod a source belongs to. -/
def State.srcPod (s : State) (n : Nat) : Nat :=
  if 3 ≤ s.getF (TRP_ESRC_SIG n) then 1 else s.bayPod (s.elBay (s.getF (TRP_ESRC_INST n)))

/-- R178: bit `k` of an output's ARM or FIRE map. -/
def State.mapBit (s : State) (fire : Bool) (n k : Nat) : Bool :=
  bitN ((if fire then s.rd (TRP_FMAP n (k / 32)) else s.rd (TRP_AMAP n (k / 32))).toNat) (k % 32)

/-- A word with one bit per output. -/
def outWord (f : Nat → Bool) : Nat := (upto 32).foldl (fun w n => if f n then w + 2 ^ n else w) 0

/-- R178: a pod's contribution to the ARM or FIRE word. -/
def State.podWord (s : State) (fire : Bool) (p : Nat) : Nat :=
  let on := (upto 512).filter (fun n => s.flag (TRP_ESRC_EN n) && s.srcPod n = p && s.srcValue n)
  outWord (fun n => on.any (fun k => s.mapBit fire n k))

/-- R178: the logic's contribution. -/
def State.logicWord (s : State) (fire : Bool) : Nat :=
  let on := (upto 256).filter (fun o => s.logicOut o)
  outWord (fun n => on.any (fun o => s.mapBit fire n (512 + o)))

/-- R182, R184: does a pod (2: L) contribute to an output? -/
def State.contributes (s : State) (p n : Nat) : Bool :=
  if p = 2 then (upto 256).any (fun o => s.mapBit false n (512 + o) || s.mapBit true n (512 + o))
  else (upto 512).any (fun k => s.flag (TRP_ESRC_EN k) && s.srcPod k = p && (s.mapBit false n k || s.mapBit true n k))

/-! ### Release and commit (R171, R180 to R185) -/

/-- R171, R173, R180: WORD_RELEASE: each protection pod that commits releases three copies of its words, over the elements whose slots
have ended; `flips` upset copies: pod, copy, bits of ARM, bits of FIRE. -/
def wordReleaseEff (flips : List (Nat × Nat × Nat × Nat)) (s : State) : State :=
  let v := s.ahead
  let one (p : Nat) : Option PodWords :=
    if s.podRuns p then
      let a := v.podWord false p
      let f := v.podWord true p
      let x (k : Nat) (sel : Nat × Nat × Nat × Nat → Nat) : Nat :=
        (flips.filter (fun e => e.1 = p && e.2.1 = k)).foldl (fun w e => Nat.xor w (sel e % 4294967296)) 0
      some ⟨(upto 3).map (fun k => Nat.xor a (x k (·.2.2.1))), (upto 3).map (fun k => Nat.xor f (x k (·.2.2.2)))⟩
    else none
  if s.protecting then
    { s with
      trp := { s.trp with rel := [one 0, one 1] }
      lgc := { s.lgc with
        elemRel := (upto 512).map (fun i => (v.rd (PRT_ST i)).toNat)
        zoneRel := (upto 2).map (fun z => (v.rd (PRT_ZSTAT z)).toNat) } }
  else s

/-- Bitwise majority of three. -/
def maj3 (a b c : Nat) : Nat := Nat.lor (Nat.lor (Nat.land a b) (Nat.land a c)) (Nat.land b c)

/-- Majority of three copies. -/
def majCopies (l : List Nat) : Nat := maj3 (lget 0 l 0) (lget 0 l 1) (lget 0 l 2)

/-- Outputs on which three copies differ. -/
def diffCopies (l : List Nat) : Nat :=
  Nat.lor (Nat.xor (lget 0 l 0) (lget 0 l 1)) (Nat.xor (lget 0 l 0) (lget 0 l 2))

/-- R185: a count of `l` replaced at pod p. -/
def State.setTrp (s : State) (f : TrpSt → TrpSt) : State := { s with trp := f s.trp }

/-- R185: the fields of a pod in TRP_STAT and TRP_CNT. -/
def podOkF (p : Nat) : Field := if p = 0 then TRP_STAT_P0_OK else TRP_STAT_P1_OK

/-- R185: MISS_Pp. -/
def missF (p : Nat) : Field := if p = 0 then TRP_CNT_MISS_P0 else TRP_CNT_MISS_P1

/-- R185: four missing commits count as a failure of the pod. -/
def State.commitFail (s : State) (p : Nat) : State :=
  ((s.setTrp (fun x => { x with missFail := lset x.missFail p true })).setFlag (podOkF p) false).raise 46 p 0

/-- R180, R185, R201: take a pod's words at a commit: `lost` when they are not readable. Pp_OK says whether they were present at the last
four commits; every run of four missing ones is a failure. -/
def State.takeWords (s : State) (p : Nat) (lost : Bool) : State :=
  match (if lost || s.podHalted p then none else lget none s.trp.rel p) with
  | some w =>
    let a := majCopies w.arm
    let f := majCopies w.fire
    let d := Nat.lor (diffCopies w.arm) (diffCopies w.fire)
    let n := satInc 4 (lget 0 s.trp.present p)
    let s := s.setTrp (fun x => { x with last := lset x.last p (a, f), miss := lset x.miss p 0, present := lset x.present p n })
    let s := s.setFlag (podOkF p) (n = 4)
    if d = 0 then s else (s.incSat TRP_CNT_VMM).raise 45 p d
  | none =>
    let s := s.setFlag (podOkF p) false
    if s.podHalted p then
      s.setTrp (fun x => { x with last := lset x.last p (0, 0), miss := lset x.miss p 0, present := lset x.present p 0 })
    else
      let n := lget 0 s.trp.miss p
      let s := s.setTrp (fun x => { x with miss := lset x.miss p (satInc 4 n), present := lset x.present p 0 })
      let s := s.incSat (missF p)
      if n = 3 then s.commitFail p else s

/-- R184, R185: is a pod (2: L) failed for the trip island? -/
def State.podFailed (s : State) (p : Nat) : Bool :=
  s.getF (POD_STAT_STATE p) = 4 || (p < 2 && lget false s.trp.missFail p)

/-- A pod's contribution used at a commit: 0 once it has failed. -/
def State.usedWord (s : State) (fire : Bool) (p : Nat) : Nat :=
  if s.podFailed p then 0
  else if p = 2 then s.logicWord fire
  else if fire then (lget (0, 0) s.trp.last p).2 else (lget (0, 0) s.trp.last p).1

/-- R178: the ARM or FIRE word of a commit, before R182. -/
def State.matrix (s : State) (fire : Bool) : Nat :=
  Nat.lor (Nat.lor (s.usedWord fire 0) (s.usedWord fire 1)) (s.usedWord fire 2)

/-- R183: is a reset of output n received at this commit? -/
def State.latchReset (s : State) (n : Nat) : Bool :=
  bitN s.trp.resets n ||
    (s.flag (TRP_OCFG_RST_EN n) && s.logicOut (s.getF (TRP_OCFG_RSTSRC n)) && !bitN s.trp.loAtCommit (s.getF (TRP_OCFG_RSTSRC n)))

/-- R182: what a row of the table gives an output: ARM, FIRE, whether row 7 applies, whether under FAILACT. -/
structure Driven where
  arm : Bool
  fire : Bool
  row7 : Bool
  failact : Bool
  deriving DecidableEq, Repr

/-- R183: has MINON not yet elapsed since an output's FIRE asserted under row 7? -/
def State.minonRuns (s : State) (n : Nat) : Bool :=
  match lget none s.trp.firedAt n with
  | some t => decide (s.now < t + s.getF (TRP_OCFG_MINON n) * msU)
  | none => false

/-- R183: FIRE under row 6 or 7: a term, or the hold of MINON or of the latch. -/
def State.heldFire (s : State) (n : Nat) (term latched : Bool) : Bool :=
  term || s.minonRuns n || latched

/-- R182: the first row that applies to output n. -/
def State.driveRow (s : State) (n arm fire : Nat) (latched : Bool) : Driven :=
  let failed := (upto 3).any (fun p => s.podFailed p && s.contributes p n)
  let f := s.heldFire n (bitN fire n) latched
  if !s.protecting || !s.flag (TRP_OCFG_EN n) then ⟨false, false, false, false⟩
  else if s.mode == .test && bitN s.trp.forced n then
    ⟨bitN (s.getF TRP_FRC_ARM_FARM) n, bitN (s.getF TRP_FRC_FIRE_FFIRE) n, false, false⟩
  else if s.mode == .test then ⟨false, false, false, false⟩
  else if failed then
    match s.getF (TRP_OCFG_FAILACT n) with
    | 0 => ⟨bitN arm n || f, f, false, true⟩
    | 2 => ⟨true, true, false, true⟩
    | _ => ⟨false, false, false, true⟩
  else ⟨bitN arm n || f, f, true, false⟩

/-- R182, R183, R200: one output at a trip commit. A hold of MINON runs on under rows 1 to 5, which override it while they apply. -/
def State.commitOutput (s : State) (n arm fire : Nat) : State :=
  let lat0 := bitN (s.getF TRP_LATCH_LAT) n
  let lat := lat0 && !(s.latchReset n && !bitN fire n)
  let d := s.driveRow n arm fire lat
  let was := bitN s.trp.firing n
  let rise := d.row7 && d.fire && !was
  let keep := d.fire && (d.row7 || (was && d.failact))
  let s := s.setTrp (fun x => { x with
    firing := setBitN x.firing n keep
    firedAt := if rise && bitN fire n then lset x.firedAt n (some s.now)
      else if keep || s.minonRuns n then x.firedAt else lset x.firedAt n none })
  let s := s.setF TRP_LATCH_LAT (setBitN (s.getF TRP_LATCH_LAT) n (lat || (rise && s.flag (TRP_OCFG_LATCH n))))
  let s := s.setF TRP_DRV_ARM_DARM (setBitN (s.getF TRP_DRV_ARM_DARM) n d.arm)
  let s := s.setF TRP_DRV_FIRE_DFIRE (setBitN (s.getF TRP_DRV_FIRE_DFIRE) n d.fire)
  let s := s.setF TRP_FAILST_FAIL (setBitN (s.getF TRP_FAILST_FAIL) n d.failact)
  if rise then
    let c := satInc 0xFFFFFFFF (Store.get 0 s.mram.opCnt n)
    ({ s with mram := { s.mram with opCnt := Store.set 0 s.mram.opCnt n c } }).raise 48 n c
  else s

/-- R201: TRP_STAT after a commit. -/
def State.tripStat (s : State) : State :=
  let f := b2n (s.podFailed 0) + 2 * b2n (s.podFailed 1) + 4 * b2n (s.podFailed 2)
  ((s.setFlag TRP_STAT_L_OK (!s.podFailed 2)).setF TRP_STAT_FAILACT_P f).setFlag TRP_STAT_BLOCKED (s.mode == .test)

/-- R244: the bytes of a bit set. -/
def bitBytes (n : Nat) (f : Nat → Bool) : List Nat :=
  (upto n).map (fun k => (upto 8).foldl (fun b j => if f (8 * k + j) then b + 2 ^ j else b) 0)

/-- R244: a zone byte of a PRT_ZSTAT word. -/
def zoneByte (w : Nat) : Nat := w % 8 + 8 * (w / 8 % 8)

/-- R244: the BIN frame of a commit behind its strobe index: what the commit took and drives. -/
def State.binFrame (s : State) : List Nat :=
  let pods (v : Nat) : Nat := (upto 3).foldl (fun b p => if s.getF (POD_STAT_STATE p) = v then b + 2 ^ p else b) 0
  leBytes 8 s.trp.binF ++ bitBytes 64 (fun i => bitN (lget 0 s.lgc.elemRel i) 0) ++ bitBytes 64 (fun i => bitN (lget 0 s.lgc.elemRel i) 1)
    ++ leBytes 32 s.trp.loAtCommit ++ leBytes 4 (s.getF TRP_DRV_ARM_DARM) ++ leBytes 4 (s.getF TRP_DRV_FIRE_DFIRE)
    ++ [zoneByte (lget 0 s.lgc.zoneRel 0), zoneByte (lget 0 s.lgc.zoneRel 1), pods 1 + 8 * pods 4] ++ List.replicate 9 0

/-- R181 to R185, R244: TRIP_COMMIT: the trip island applies the contributions of P0, P1 and L; `miss0`, `miss1`: the pod's words
are not readable at this commit. -/
def tripCommitEff (miss0 miss1 : Bool) (s : State) : State :=
  if !s.protecting then
    ((s.setTrp (fun x => { x with prevArm := s.getF TRP_DRV_ARM_DARM, prevFire := s.getF TRP_DRV_FIRE_DFIRE, commitAt := s.now
                                  rel := [none, none], resets := 0, present := [0, 0] })).setFlag TRP_STAT_P0_OK false).setFlag
      TRP_STAT_P1_OK false
  else
    let pa := s.getF TRP_DRV_ARM_DARM
    let pf := s.getF TRP_DRV_FIRE_DFIRE
    let p0 := s.trp.present
    let s := (s.takeWords 0 miss0).takeWords 1 miss1
    let a := s.matrix false
    let f := s.matrix true
    let s := (s.setF TRP_ARM_ST_ARM a).setF TRP_FIRE_ST_FIRE f
    let s := (upto 32).foldl (fun s n => s.commitOutput n a f) s
    let s := s.setTrp (fun x => { x with prevArm := pa, prevFire := pf, commitAt := s.now, rel := [none, none], resets := 0
                                         loAtCommit := x.lo, fullAt := if p0.all (· = 4) then x.fullAt else s.now })
    (s.setTrp (fun x => { x with frame := s.binFrame })).logicGroups.tripStat

/-- R182, R201: outside RUN and TEST every output is static low at once, and TEST blocking ends. -/
def State.outputsLow (s : State) : State :=
  (((s.setF TRP_DRV_ARM_DARM 0).setF TRP_DRV_FIRE_DFIRE 0).setFlag TRP_STAT_BLOCKED false).setTrp (fun x => { x with firing := 0 })

/-- R185: COMMIT_MISSING_LIMIT: the fourth consecutive missing commit of a pod, where the commit has not counted it yet. -/
def commitMissingLimitEff (p : Nat) (s : State) : State :=
  if lget 0 s.trp.miss p = 4 && !lget false s.trp.missFail p then (s.commitFail p).tripStat else s

/-- R183: MINON_EXPIRY: MINON has elapsed since an output's FIRE assertion. -/
def minonExpiryEff (n : Nat) (s : State) : State :=
  match lget none s.trp.firedAt n with
  | some t => if s.sys.refPresent && t + s.getF (TRP_OCFG_MINON n) * msU ≤ s.now then s.setTrp (fun x => { x with firedAt := lset x.firedAt n none }) else s
  | none => s

/-! ### Drive, readback, watchdog (R186 to R189) -/

/-- R186, R420: DRIVE_HALF_PERIOD: at a half-period boundary asserted outputs toggle, others become static low, after a restart too; a
commit at this very instant does not count yet. -/
def driveHalfPeriodEff (s : State) : State :=
  if s.sys.por || (s.sys.step < 8 && s.trp.lvlArm = 0 && s.trp.lvlFire = 0) || (s.now - s.trp.grid0) % 32000 != 0 then s
  else
    let same := s.now = s.trp.commitAt
    let a := if same then s.trp.prevArm else s.getF TRP_DRV_ARM_DARM
    let f := if same then s.trp.prevFire else s.getF TRP_DRV_FIRE_DFIRE
    let a := if s.protecting then a else 0
    let f := if s.protecting then f else 0
    s.setTrp (fun x => { x with lvlArm := outWord (fun n => bitN a n && !bitN x.lvlArm n)
                                lvlFire := outWord (fun n => bitN f n && !bitN x.lvlFire n) })

/-- R188: READBACK_MISMATCH: a ball differs from its driven level for eight cycles. -/
def readbackMismatchEff (n : Nat) (fire : Bool) (s : State) : State :=
  let fd := if fire then TRP_RBF_RBF else TRP_RBA_RBA
  if s.sys.step < 8 || !s.sys.refPresent || bitN (s.getF fd) n then s
  else (s.setF fd (setBitN (s.getF fd) n true)).raise 47 n (b2n fire)

/-- R189: do all conditions of WDOG_OK hold? -/
def State.wdogOk (s : State) : Bool :=
  s.protecting && s.trp.present.all (fun n => n = 4) &&
    (!s.flag TRP_WDCFG_WD_PODFAIL || !(s.podFailed 0 || s.podFailed 1)) && s.sys.refPresent

/-- R189, R420: WDOG_HALF_PERIOD: at a 50 µs grid boundary strictly after all conditions came to hold (the words of four commits are
the last of them) WDOG_OK toggles; else it becomes static low. -/
def wdogHalfPeriodEff (s : State) : State :=
  if s.sys.por || (s.sys.step < 8 && !s.trp.wdLevel) || (s.now - s.trp.grid0) % 800000 != 0 then s
  else
    let on := s.wdogOk && decide (s.trp.fullAt < s.now)
    (s.setTrp (fun x => { x with wdLevel := on && !x.wdLevel })).setFlag TRP_STAT_WDOG on

/-! ### Binary inputs (R191 to R195) -/

/-- R191, R195: is an input in use, and its ball not assigned to trigger use? -/
def State.bioOn (s : State) (i : Nat) : Bool :=
  s.flag (BIO_CFG_EN i) && !(56 ≤ i && bitN s.sys.ballMap (2 + (i - 56) / 2))

/-- The two halves of a 64-bit register field. -/
def setHalf (s : State) (lo hi : Field) (i : Nat) (b : Bool) : State :=
  if i < 32 then s.setF lo (setBitN (s.getF lo) i b) else s.setF hi (setBitN (s.getF hi) (i - 32) b)

/-- A binary input's state that no register shows. -/
def State.bio (s : State) (i : Nat) : BioInt := lget resetBio s.trp.bio i

/-- The strobe that samples the present instant: the one just taken, or the next. -/
def State.strobeNow (s : State) : Nat := if s.ana.strobe != 0 && s.flt.strobeT = s.now then s.ana.strobe - 1 else s.ana.strobe

/-- R191, R192: an input is sampled at `level`; a run shorter than DEB + 1 is counted. -/
def State.bioSample (s : State) (i : Nat) (level : Bool) : State :=
  let x := s.bio i
  let raw := s.bioOn i && (level != s.flag (BIO_CFG_INV i))
  let s := s.setTrp (fun y => { y with bio := lset y.bio i { x with level := level } })
  if s.sys.step < 9 || !s.sys.refPresent || raw = x.raw then s
  else
    let s := if x.raw != s.bin i then s.incSat (BIO_CHG_GLITCH i) else s
    let s := s.setTrp (fun y => { y with bio := lset y.bio i ⟨level, raw, s.strobeNow⟩ })
    setHalf s BIO_RAW_LO_RAW BIO_RAW_HI_RAW i raw

/-- R191: every input as it stands is sampled when sampling starts. -/
def State.bioStart (s : State) : State := (upto 64).foldl (fun s i => s.bioSample i (s.bio i).level) s

/-- R192, R193: DEBOUNCED_CHANGE: the raw state has held its new level for DEB + 1 strobes. -/
def debouncedChangeEff (i : Nat) (s : State) : State :=
  let x := s.bio i
  if s.sys.step < 9 || !s.sys.refPresent || !s.bioOn i || x.raw = s.bin i || s.ana.strobe < x.runFrom + s.getF (BIO_CFG_DEB i) + 1 then s
  else
    let lab := splitTime (s.labelOf ((x.runFrom : Int) * 15625 * 4294967296))
    let s := setHalf s BIO_STATE_LO_ST BIO_STATE_HI_ST i x.raw
    let s := (s.setF (BIO_IDX_IDX i) x.runFrom).setF (BIO_TLO_NS i) lab.2.1
    ((s.setF (BIO_THI_SEC i) lab.1).incWrap (BIO_CHG_CHG i)).setFlag (BIO_CHG_DIR i) x.raw

/-- R191, R192: BINARY_INPUT_EDGE: the level at an input's ball changes at a strobe. A change that is due by then comes first: only a run
shorter than DEB + 1 counts in GLITCH. -/
def binaryInputEdgeEff (i : Nat) (level : Bool) (s : State) : State :=
  let due := (s.bio i).runFrom + s.getF (BIO_CFG_DEB i) + 1 ≤ s.strobeNow
  (if due then debouncedChangeEff i s else s).bioSample i level

end Sys2Proof.Machine
end

