-- ==== Sys2Proof/Machine/Pods.lean ====
section
/-!
DEFINITION. The pods (06 R203 to R226): commit packets, verdicts and votes, odd cores and their resync, FAIL, memory errors and
the scrubber.
-/
namespace Sys2Proof.Machine

/-! ### Pods and their memory -/

/-- What no register shows of pod `p`. -/
def State.podOf (s : State) (p : Nat) : PodInt := lget resetPod s.pod.pods p

/-- Replace it. -/
def State.setPod (s : State) (p : Nat) (x : PodInt) : State := { s with pod := { s.pod with pods := lset s.pod.pods p x } }

/-- POD_STAT STATE. -/
def State.podState (s : State) (p : Nat) : Nat := s.getF (POD_STAT_STATE p)

/-- R210: ROM words of a pod (they come first), and all its words, of 64 bits. -/
def podRom (p : Nat) : Nat := if p < 2 then 49152 else 0

/-- R210: words of a pod's memory, ROM and SRAM. -/
def podWords (p : Nat) : Nat := if p < 2 then 81920 else 221184

/-- R235: first word of Pod L's analysis area. -/
def anaBase : Nat := 196608

/-- R240: which cores execute, and the reader of R208. -/
def State.setRun (s : State) (p run : Nat) : State :=
  (s.setF (POD_STAT_RUN p) run).setF (POD_STAT_READER p) (if bitN run 0 then 0 else 1)

/-! ### FAIL (R213, R216, R222, R223) -/

/-- R288: change the logic mode: 0 Stop, 1 Run, 2 Hold, 3 Failed. -/
def State.setLogicMode (s : State) (m : Nat) : State :=
  if s.getF LGC_MODE_MODE = m then s else (s.setF LGC_MODE_MODE m).incWrap LGC_MODE_MCHG

/-- R223, R235, R291: a pod enters FAIL. -/
def State.podFail (s : State) (p cause : Nat) : State :=
  if s.podState p = 4 || s.podState p = 0 then s
  else
    let s := (s.setF (POD_STAT_STATE p) 4).setF (POD_STAT_FAILCAUSE p) cause
    let s := (s.setF (POD_STAT_RUN p) 0).setPod p { s.podOf p with resync := none, haltReq := false, stopping := none }
    let s := s.raise 2 p cause
    if p = 2 then
      let s := (s.setFlag POD_LSTAT_SPLIT false).setFlag POD_LSTAT_ANA_RUN false
      s.setLogicMode 3
    else s

/-! ### Odd cores (R216 to R219, R224) -/

/-- R224: resyncs of a core within the last 3,600 s. -/
def State.resyncs (s : State) (p x : Nat) : List Nat :=
  (lget [] (s.podOf p).hist x).filter (fun t => s.now < t + 3600 * secU)

/-- R224: the field W of a core. -/
def winF (p x : Nat) : Field := ⟨POD_RWIN p, 4 * x, 4⟩

/-- R240: the field RS of a core. -/
def rsF (p x : Nat) : Field := ⟨POD_RCNT p, 8 * x, 8⟩

/-- R218, R222, R224: core `x` of a pod is declared odd: its copies are replaced from now, and it stops at its next commit boundary. -/
def State.oddCore (s : State) (p x : Nat) : State :=
  let st := s.podState p
  if st = 2 || st = 3 then s.podFail p 1
  else if st != 1 then s
  else
    let s := (s.setF (POD_STAT_ODD p) x).setPod p { s.podOf p with stopping := some x }
    if 8 ≤ (s.resyncs p x).length then
      let s := (s.setF (POD_STAT_STATE p) 3).setF (POD_STAT_RETIRED p) (setBitN (s.getF (POD_STAT_RETIRED p)) x true)
      (s.raise 0 p x).raise 1 p x
    else
      let s := (s.setF (POD_STAT_STATE p) 2).setPod p { s.podOf p with resync := some (x, s.now) }
      s.raise 0 p x

/-- R214: the verdict of three packets. -/
def verdict (a b c : Packet) : Verdict :=
  if a = b && b = c then .agree
  else if a = b then .odd 2
  else if a = c then .odd 1
  else if b = c then .odd 0
  else .none

/-- How many of three verdicts satisfy a test. -/
def countV (l : List Verdict) (f : Verdict → Bool) : Nat := (l.filter f).length

/-- R216: what the resync controller does with three verdicts: nothing, an odd core, or FAIL. -/
inductive Ruling where
  | nothing | odd (x : Nat) | fail
  deriving DecidableEq, Repr

/-- R216: the first row of the table that applies. -/
def ruling (l : List Verdict) : Ruling :=
  if countV l (· = .agree) = 3 then .nothing
  else
    match (upto 3).find? (fun x => 2 ≤ countV l (· = .odd x)) with
    | some x => .odd x
    | none =>
      if countV l (· = .agree) = 2 then
        match (upto 3).find? (fun k => lget Verdict.agree l k != .agree) with
        | some k => .odd k
        | none => .nothing
      else .fail

/-- R215: bitwise majority of three packets. -/
def majPacket (a b c : Packet) : Packet :=
  ⟨maj3 a.port b.port c.port, maj3 a.addr b.addr c.addr, maj3 a.data b.data c.data, maj3 a.mask b.mask c.mask,
   maj3 a.sig b.sig c.sig⟩

/-- R217: SINK_REPORT: a sink reports the copy of a core that differs. -/
def sinkReportEff (p core : Nat) (s : State) : State :=
  let st := s.podState p
  if st = 1 then (s.incSat (POD_VCNT_SINK p)).oddCore p core
  else if st = 2 || st = 3 then
    let s := s.incSat (POD_VCNT_SINK p)
    if bitN (s.getF (POD_STAT_RUN p)) core && (s.podOf p).stopping != some core then s.podFail p 1 else s
  else s

/-- R219: RESYNC_COMPLETE: the odd core rejoins after `cycles` pod cycles. -/
def resyncCompleteEff (p cycles : Nat) (s : State) : State :=
  match (s.podOf p).resync with
  | some (x, _) =>
    if s.podState p != 2 then s
    else
      let h := s.now :: s.resyncs p x
      let s := s.setPod p { s.podOf p with resync := none, stopping := none, hist := lset (s.podOf p).hist x h }
      let s := ((s.setF (POD_STAT_STATE p) 1).setRun p 7).incSat (rsF p x)
      let s := (s.setF (winF p x) h.length).setF (POD_RSDUR_LAST p) cycles
      s.setF (POD_RSDUR_MAX p) (Nat.max (s.getF (POD_RSDUR_MAX p)) (cycles % 4096))
  | none => s

/-- R224: RESYNC_WINDOW_AGEING: resyncs older than 3,600 s leave a core's window. -/
def resyncWindowAgeingEff (p core : Nat) (s : State) : State :=
  let h := s.resyncs p core
  (s.setPod p { s.podOf p with hist := lset (s.podOf p).hist core h }).setF (winF p core) h.length

/-! ### Pod memory errors (R211 to R213) -/

/-- R240: POD_ERRADDR. -/
def State.podErr (s : State) (p a : Nat) (double scrub : Bool) : State :=
  let s := (s.setF (POD_ERRADDR_ADDR p) a).setFlag (POD_ERRADDR_KIND p) double
  (s.setFlag (POD_ERRADDR_SRC p) scrub).setFlag (POD_ERRADDR_ROM p) (a < podRom p)

/-- R211, R213: `bits` bits in error in word `a`. -/
def State.memError (s : State) (p a bits : Nat) (scrub : Bool) : State :=
  if bits = 0 then s
  else if bits = 1 then (s.incSat (POD_MEMCNT_SEC p)).podErr p a false scrub
  else
    let s := (s.incSat (POD_MEMCNT_DED p)).podErr p a true scrub
    let s := s.raise 4 p (s.rd (POD_ERRADDR p)).toNat
    s.podFail p 3

/-- R211, R213: CORE_MEMORY_READ: a core reads word `a` with `bits` bits in error; in JOINING it is L0. -/
def coreMemoryReadEff (p a bits : Nat) (s : State) : State :=
  if (s.podRuns p || s.podState p = 6 || s.podState p = 7) && a < podWords p then s.memError p a bits false else s

/-- R212, R213: SCRUB_SLOT: the scrubber checks the word at NEXT, repairs it, and goes on. -/
def scrubSlotEff (p bits : Nat) (s : State) : State :=
  if s.podState p = 0 || s.podState p = 4 then s
  else
    let a := s.getF (POD_SCRUB_NEXT p)
    let first := bits = 1 && !(s.podOf p).passSec
    let s := s.memError p a bits true
    let s := if bits = 1 then s.setPod p { s.podOf p with passSec := true } else s
    let s := if first then s.raise 3 p (s.getF (POD_MEMCNT_SEC p)) else s
    if a + 1 < podWords p then s.setF (POD_SCRUB_NEXT p) (a + 1)
    else ((s.setF (POD_SCRUB_NEXT p) 0).incWrap (POD_MEMCNT_PASS p)).setPod p { s.podOf p with passSec := false }

end Sys2Proof.Machine
end

