-- ==== Sys2Proof/Machine/Real32.lean ====
section
/-!
DEFINITION. REAL32 arithmetic of Skelca block code (09 R317 to R319): IEEE 754 binary32, round to nearest even, subnormals
taken as zero of the same sign, infinities and NaN replaced.
-/
namespace Sys2Proof.Machine

/-- The sign of a pattern. -/
def fNeg (b : Nat) : Bool := bitN b 31

/-- Its exponent field. -/
def fExp (b : Nat) : Nat := b / 8388608 % 256

/-- R319: the value of a pattern as m × 2^(e − 150), m an integer; subnormals are zero. -/
def fMant (b : Nat) : Int :=
  if fExp b = 0 then 0 else if fNeg b then -((8388608 + b % 8388608 : Nat) : Int) else ((8388608 + b % 8388608 : Nat) : Int)

/-- A NaN or an infinity. -/
def fSpecial (b : Nat) : Bool := fExp b == 255

/-- An infinity. -/
def fInf (b : Nat) : Bool := fExp b == 255 && b % 8388608 == 0

/-- A NaN. -/
def fNan (b : Nat) : Bool := fExp b == 255 && b % 8388608 != 0

/-- A zero of a sign. -/
def fZero (neg : Bool) : Nat := if neg then 0x80000000 else 0

/-- R319: the largest magnitude, ±3.402823 × 10^38. -/
def fMax (neg : Bool) : Nat := if neg then 0xFF7FFFFD else 0x7F7FFFFD

/-- The number of bits of n (structural on `fuel`). -/
def bitLen : Nat → Nat → Nat
  | 0, _ => 0
  | fuel + 1, n => if n = 0 then 0 else bitLen fuel (n / 2) + 1

/-- R319: round n / d × 2^x (n, d > 0) to a pattern; true when the result would have been infinite. -/
def fRound (neg : Bool) (n d : Nat) (x : Int) : Nat × Bool :=
  let k : Int := (bitLen 4096 n : Int) - (bitLen 4096 d : Int)
  -- 2^(k-1) < n/d < 2^(k+1): the exponent of the leading bit is k or k - 1
  let ge (j : Int) : Bool := if 0 ≤ j then decide (d * 2 ^ j.toNat ≤ n) else decide (d ≤ n * 2 ^ (-j).toNat)
  let j := if ge k then k else k - 1
  let sh := 23 - j
  let m := if 0 ≤ sh then divHalfEven ((n * 2 ^ sh.toNat : Nat) : Int) d else divHalfEven (n : Int) (d * 2 ^ (-sh).toNat)
  let (m, j) := if m = 16777216 then ((8388608 : Int), j + 1) else (m, j)
  let e := j + x + 127
  let s := if neg then 0x80000000 else 0
  if e ≤ 0 then (fZero neg, false)
  else if 255 ≤ e then (fMax neg, true)
  else (s + e.toNat * 8388608 + (m.toNat - 8388608), false)

/-- A signed rational n / d × 2^x as a pattern; an exact zero takes sign `z`. -/
def fOf (z : Bool) (n : Int) (d : Nat) (x : Int) : Nat × Bool := if n = 0 then (fZero z, false) else fRound (decide (n < 0)) n.natAbs d x

/-- R319: an operand's own result when it is a NaN (0.0) or an infinity (the largest magnitude), which no block gives. -/
def fClean (b : Nat) : Nat × Bool :=
  if !fSpecial b then (if fExp b = 0 then fZero (fNeg b) else b, false)
  else if b % 8388608 = 0 then (fMax (fNeg b), true)
  else (0, true)

/-- R319: a + b where an operand is a NaN or an infinity: opposite infinities give a NaN. -/
def fAddX (a b : Nat) : Nat × Bool :=
  if fNan a || fNan b || (fInf a && fInf b && fNeg a != fNeg b) then (0, true)
  else (fMax (if fInf a then fNeg a else fNeg b), true)

/-- a + b. -/
def fAdd (a b : Nat) : Nat × Bool :=
  if fSpecial a || fSpecial b then fAddX a b else
  let ea := fExp a
  let eb := fExp b
  let lo := Nat.min ea eb
  let n := fMant a * 2 ^ (ea - lo) + fMant b * 2 ^ (eb - lo)
  fOf (fNeg a && fNeg b) n 1 ((lo : Int) - 150)

/-- −a. -/
def fNegate (a : Nat) : Nat := if fNeg a then a - 0x80000000 else a + 0x80000000

/-- a − b. -/
def fSub (a b : Nat) : Nat × Bool := fAdd a (fNegate b)

/-- R319: a × b where an operand is a NaN or an infinity: zero times an infinity is a NaN. -/
def fMulX (a b : Nat) : Nat × Bool :=
  if fNan a || fNan b || fMant a = 0 || fMant b = 0 then (0, true) else (fMax (fNeg a != fNeg b), true)

/-- a × b. -/
def fMul (a b : Nat) : Nat × Bool := if fSpecial a || fSpecial b then fMulX a b else fOf (fNeg a != fNeg b) (fMant a * fMant b) 1 ((fExp a : Int) + (fExp b : Int) - 300)

/-- R319: a ÷ b where an operand is a NaN or an infinity. -/
def fDivX (a b : Nat) : Nat × Bool :=
  if fNan a || fNan b || (fInf a && fInf b) then (0, true)
  else if fInf a then (fMax (fNeg a != fNeg b), true)
  else (fZero (fNeg a != fNeg b), false)

/-- a ÷ b; x/0 is the largest magnitude, 0/0 is 0.0, both out of range. -/
def fDiv (a b : Nat) : Nat × Bool :=
  if fSpecial a || fSpecial b then fDivX a b else
  let mb := fMant b
  if mb = 0 then (if fMant a = 0 then (0, true) else (fMax (fNeg a != fNeg b), true))
  else
    let n := if mb < 0 then -fMant a else fMant a
    fOf (fNeg a != fNeg b) n mb.natAbs ((fExp a : Int) - (fExp b : Int))

/-- √a for a ≥ 0: the mantissa is brought to an even exponent and 60 more bits, with a sticky bit below. -/
def fSqrt (a : Nat) : Nat × Bool :=
  if fSpecial a then fClean a else
  let m := (fMant a).natAbs
  if m = 0 then (fZero (fNeg a), false)
  else
    let x : Int := (fExp a : Int) - 150
    let (m, x) := if x % 2 = 0 then (m, x) else (m * 2, x - 1)
    let r := isqrt (m * 1152921504606846976)
    let sticky := if r * r = m * 1152921504606846976 then 0 else 1
    fRound false (2 * r + sticky) 1 (x / 2 - 31)

/-- a < b; a NaN is not comparable (IEEE 754, log 28). -/
def fLt (a b : Nat) : Bool :=
  let lo := Nat.min (fExp a) (fExp b)
  !fNan a && !fNan b && decide (fMant a * 2 ^ (fExp a - lo) < fMant b * 2 ^ (fExp b - lo))

/-- a ≤ b; −0.0 equals +0.0. -/
def fLe (a b : Nat) : Bool := !fNan a && !fNan b && !fLt b a

/-- An integer as REAL32, rounded to nearest even. -/
def fOfInt (n : Int) : Nat := (fOf false n 1 0).1

/-- A REAL32 times num/den, rounded half to even to an integer. -/
def fToInt (a num den : Nat) : Int :=
  let x : Int := (fExp a : Int) - 150
  let n := fMant a * (num : Int)
  if 0 ≤ x then divHalfEven (n * 2 ^ x.toNat) den else divHalfEven n (den * 2 ^ (-x).toNat)

end Sys2Proof.Machine
end

