-- ==== Sys2Proof/Machine/Blocks.lean ====
section
/-!
DEFINITION. Skelca block code (09 R310 to R333): call words and bindings, instance memory, and the block library. A block
command executes the next call of the scan in progress when that call is of its type.
-/
namespace Sys2Proof.Machine

/-! ### Decoding (R310 to R314) -/

/-- R314: a 32-bit binding entry; KIND 0x8 to 0xF is no binding. -/
def decBind (w : Nat) : Option Bind :=
  let i := w % 134217728
  let q := bitN w 27
  match w / 268435456 % 16 with
  | 0 => some .none
  | 1 => some (.const i)
  | 2 => some (.out i)
  | 3 => some (.elem (i / 4) (i % 4) q)
  | 4 => some (.bin (i % 64) (bitN i 6) q)
  | 5 => some (.sub (i / 128 % 256) (i % 128) q)
  | 6 => some (.drv (i % 32) (bitN i 5) q)
  | 7 => some (.lout (i % 256))
  | _ => none

/-- The 64-bit word at a word offset of a bank. -/
def bankWord (code : Store Nat) (o : Nat) : Nat := Store.get 0 code o

/-- R312, R314: entry k of a binding list at word BOFS. -/
def bindEntry (code : Store Nat) (bofs k : Nat) : Nat :=
  let w := bankWord code (bofs + k / 2)
  if k % 2 = 0 then w % 4294967296 else w / 4294967296 % 4294967296

/-- R312: a call word with its binding list. -/
def decCall (code : Store Nat) (w : Nat) : Call :=
  let n := w / 2097152 % 64
  let bofs := w / 134217728 % 32768
  let bs := (upto n).map (fun k => decBind (bindEntry code bofs k))
  { type := w / 72057594037927936 % 256, inst := w / 4398046511104 % 16384, iofs := w / 16 % 131072, ret := bitN w 3
    bad := w % 8 != 0 || bs.any (·.isNone) || (w / 72057594037927936 % 256 = 0 && w != 0)
    binds := bs.map (·.getD .none) }

/-- R310: the first call word of a task, if defined. -/
def taskFirst (code : Store Nat) (t : Nat) : Option Nat :=
  let w := bankWord code t
  if bitN w 15 then some (w % 32768) else none

/-- The first task that is defined, where its calls begin, and the tasks after it. -/
def nextTask (code : Store Nat) : List Nat → Option Nat × List Nat
  | [] => (none, [])
  | t :: ts =>
    match taskFirst code t with
    | some o => (some o, ts)
    | none => nextTask code ts

/-- R311: the calls from a word offset to the first END word, within the bank. -/
def walkTask (code : Store Nat) : Nat → Nat → Store Call → Store Call
  | 0, _, acc => acc
  | fuel + 1, o, acc =>
    let c := decCall code (bankWord code o)
    let acc := Store.put c acc o
    if c.type = 0 then acc else walkTask code fuel (o + 1) acc

/-- R310, R314: the word at which the constant pool begins: behind the call words and binding lists (DEDUCED, log 119). -/
def poolBase (code : Store Nat) (calls : Store Call) : Nat :=
  calls.foldl (fun n e =>
    let w := bankWord code e.1
    let list := if w / 2097152 % 64 = 0 then 0 else w / 134217728 % 32768 + (w / 2097152 % 64 + 1) / 2
    Nat.max n (Nat.max (e.1 + 1) list)) 8

/-- R314: a binding whose constant names the word of the bank it stands in. -/
def bindAbs (pool : Nat) (b : Bind) : Bind :=
  match b with
  | .const w => .const (pool + w)
  | _ => b

/-- The calls of every task of a program, by word offset. -/
def progCalls (img : ProgImg) : Store Call :=
  let calls := (upto 5).foldl (fun acc t =>
    match taskFirst img.code t with
    | some o => walkTask img.code (img.size - o) o acc
    | none => acc) []
  let pool := poolBase img.code calls
  calls.map (fun e => (e.1, { e.2 with binds := e.2.binds.map (bindAbs pool) }))

/-! ### The library's types (R317, R320, R323) -/

/-- R323: types of the outputs of a block type; `n` is the type where the library says N. -/
def outTys (ty : Nat) (n : VT) : List VT :=
  if ty ≤ 0x0A then [.bool]
  else if ty ≤ 0x0D then [.bool, .time]
  else if ty ≤ 0x0F then [.bool, .int]
  else if ty = 0x10 then [.bool, .bool, .int]
  else if ty ≤ 0x17 then [.bool]
  else if ty ≤ 0x1B then [n, .bool]
  else if ty = 0x1C then [.int, .bool]
  else if ty ≤ 0x1E then [n, .bool]
  else if ty = 0x1F then [.real, .bool]
  else if ty ≤ 0x22 then [n]
  else if ty = 0x23 || ty = 0x24 then [n, .bool]
  else if ty = 0x25 then [n]
  else if ty = 0x26 then [.int]
  else if ty = 0x27 then List.replicate 16 .bool
  else if ty ≤ 0x2C then [.int]
  else match ty with
  | 0x2D => [.real]
  | 0x2E => [.int, .bool]
  | 0x2F => [.int]
  | 0x30 => [.bool]
  | 0x31 => [.int, .bool]
  | 0x32 => [.time]
  | 0x33 => [.real]
  | 0x34 => [.time, .bool]
  | 0x35 => [.time]
  | 0x36 => [.real]
  | 0x37 => [n, .bool]
  | 0x38 => [.bool, .bool]
  | 0x39 => [.int, .bool]
  | 0x3A => [.int, .int]
  | 0x3B => [.int, .int, .int]
  | 0x3C => [.bool, .bool, .bool, .int]
  | 0x3D => [.int, .int, .bool]
  | 0x3E => [.bool, .bool, .bool]
  | 0x3F => [.bool, .bool, .bool, .int]
  | 0x40 => [.bool, .bool, .bool, .int]
  | 0x41 => [.bool, .bool]
  | 0x46 => [.bool]
  | 0x47 => [.int, .bool]
  | 0x48 => [.bool]
  | _ => []

/-- R323: the type of input `i` of a block type. -/
def inTy (ty : Nat) (n : VT) (i : Nat) : VT :=
  if [0x08, 0x23].contains ty then (if i = 0 then .int else if ty = 0x08 then .bool else n)
  else if ty ≤ 0x0A then .bool
  else if ty ≤ 0x0D then (if i = 0 then .bool else .time)
  else if ty = 0x0E || ty = 0x0F then (if i = 2 then .int else .bool)
  else if ty = 0x10 then (if i = 4 then .int else .bool)
  else if ty ≤ 0x16 then n
  else if ty = 0x17 then .real
  else if ty = 0x1C then .int
  else if ty = 0x1F then .real
  else if ty = 0x22 then (if i = 0 then .bool else n)
  else if ty ≤ 0x25 then n
  else if ty = 0x26 then .bool
  else if ty ≤ 0x2D then .int
  else match ty with
  | 0x2E => .real
  | 0x2F => .bool
  | 0x30 => .int
  | 0x31 => .time
  | 0x32 => .int
  | 0x33 => .time
  | 0x34 => .real
  | 0x36 => .real
  | 0x37 => n
  | 0x3F => lget .bool [.int, .time, .time, .bool, .int, .bool] i
  | 0x40 => lget .bool [.int, .time, .time, .time, .time, .time, .time, .time, .bool, .int] i
  | 0x41 => .bool
  | 0x42 => if i = 0 then .int else .bool
  | 0x43 => if i < 3 then .int else .bool
  | 0x44 => .int
  | 0x45 => if i < 3 then .int else .real
  | 0x46 => if i = 0 then .int else .bool
  | 0x47 => if i = 2 then .time else .bool
  | 0x48 => .bool
  | _ => .int

/-- R317: bytes of a type. -/
def vtSize (t : VT) : Nat := if t = .time then 8 else 4

/-- R320: byte offsets of outputs, in library order, each aligned to its size. -/
def outOfs : Nat → List VT → List Nat
  | _, [] => []
  | o, t :: ts =>
    let a := if t = .time then (o + 7) / 8 * 8 else o
    a :: outOfs (a + vtSize t) ts

/-- R323: the inputs of which one fixes a type named N. -/
def nInputs (ty : Nat) : Bool :=
  (0x11 ≤ ty && ty ≤ 0x16) || (0x18 ≤ ty && ty ≤ 0x1E && ty != 0x1C) || (0x20 ≤ ty && ty ≤ 0x25) || ty = 0x37

/-- The type of the output that starts at a byte of instance memory; `vt` gives the type N of an instance. -/
def outTypeAt (calls : Store Call) (vt : Call → VT) (addr : Nat) : Option VT :=
  match calls.find? (fun e => e.2.iofs * 8 ≤ addr && e.2.type != 0 &&
      ((outOfs 0 (outTys e.2.type (vt e.2))).any (fun o => e.2.iofs * 8 + o = addr))) with
  | some e =>
    let c := e.2
    let tys := outTys c.type (vt c)
    ((outOfs 0 tys).zip tys).findSome? (fun p => if c.iofs * 8 + p.1 = addr then some p.2 else none)
  | none => none

/-- R323: is the first output of a block type of type N? -/
def nOutput (ty : Nat) : Bool := (outTys ty .time).head? != (outTys ty .int).head?

/-- R323: is input `i` of a block type of type N? -/
def nInput (ty i : Nat) : Bool := nInputs ty && inTy ty .time i != inTy ty .int i

/-- R317: what tells an instance's type N: a type, or another instance whose type N is the same. -/
inductive VtTell where
  | known (t : VT)
  | same (c : Call)
  | nothing

/-- R317, R323: what a binding at an input of type N tells; an output behind one of type TIME stands at +8. -/
def bindTell (calls : Store Call) (items : Nat → Nat → VT) (b : Bind) : VtTell :=
  match b with
  | .out a =>
    match calls.find? (fun e => e.2.type != 0 && nOutput e.2.type && e.2.iofs * 8 = a) with
    | some e => .same e.2
    | none => match (outTypeAt calls (fun _ => .int) a).or (outTypeAt calls (fun _ => .time) a) with
      | some t => .known t
      | none => .nothing
  | .elem _ _ q => .known (if q then .int else .bool)
  | .bin _ tag q => .known (if q then .int else if tag then .time else .bool)
  | .sub j i q => .known (if q then .int else items j i)
  | .drv _ _ q => .known (if q then .int else .bool)
  | _ => .nothing

/-- R317: what the inputs that read an instance's output of type N tell. -/
def readTells (calls : Store Call) (c : Call) : List VtTell :=
  if !nOutput c.type then []
  else calls.foldl (fun l e =>
    (e.2.binds.zip (upto e.2.binds.length)).foldl (fun l p =>
      if p.1 = .out (c.iofs * 8) then l ++ [if nInput e.2.type p.2 then .same e.2 else .known (inTy e.2.type .int p.2)] else l) l) []

/-- R315, R323: what the bindings of one call word tell of its instance's type N: its inputs of type N, and a logic output at its
output of type N, which is BOOL. -/
def callTells (calls : Store Call) (items : Nat → Nat → VT) (c : Call) : List VtTell :=
  let n := c.binds.length - (outTys c.type .int).length
  (c.binds.zip (upto c.binds.length)).filterMap (fun p =>
    if p.2 < n then (if nInput c.type p.2 then some (bindTell calls items p.1) else none)
    else if p.2 = n && nOutput c.type then (match p.1 with | .lout _ => some (.known .bool) | _ => none)
    else none)

/-- R323: one instance uses one type N throughout: what all its call words tell. -/
def instTells (calls : Store Call) (items : Nat → Nat → VT) (c : Call) : List VtTell :=
  calls.foldl (fun l e => if e.2.inst = c.inst && e.2.type = c.type then l ++ callTells calls items e.2 else l) []

/-- R317, R323: the type N that the bindings around a list of instances tell, through as many more instances as `fuel`: `seen`
holds those taken up. INT32 where only constants are bound (DEDUCED, log 120). -/
def vtSearch (calls : Store Call) (items : Nat → Nat → VT) : Nat → List Call → List Nat → VT
  | 0, _, _ => .int
  | _, [], _ => .int
  | fuel + 1, c :: q, seen =>
    let tells := instTells calls items c ++ readTells calls c
    match tells.findSome? (fun x => match x with | .known t => some t | _ => none) with
    | some t => t
    | none =>
      let more := tells.foldl (fun (l : List Call) x =>
        match x with
        | .same d => if seen.contains d.inst || l.any (fun e => e.inst = d.inst) then l else l ++ [d]
        | _ => l) []
      vtSearch calls items fuel (q ++ more) (seen ++ more.map (·.inst))

/-- R317, R323: the type N of an instance, fixed by the bindings. -/
def callVt (calls : Store Call) (items : Nat → Nat → VT) (c : Call) : VT :=
  if !nInputs c.type then .int else vtSearch calls items (calls.length + 1) [c] [c.inst]

/-! ### Programs and instance memory -/

/-- Program `k` of Pod L: 0 control, 1 analysis. -/
def State.prog (s : State) (k : Nat) : ProgSt := lget resetProg s.lgc.progs k

/-- Replace it. -/
def State.setProg (s : State) (k : Nat) (p : ProgSt) : State :=
  { s with lgc := { s.lgc with progs := lset s.lgc.progs k p } }

/-- n bytes of instance memory, little-endian. -/
def memRd (m : Store Nat) (a n : Nat) : Nat := ofLe ((upto n).map (fun i => Store.get 0 m (a + i)))

/-- Write n bytes of instance memory. -/
def memWr (m : Store Nat) (a n v : Nat) : Store Nat :=
  ((leBytes n v).zip (upto n)).foldl (fun m e => Store.set 0 m (a + e.2) e.1) m

/-- A value of a type as an input takes it: its bits. -/
def vtBits (t : VT) (v : Nat) : Nat :=
  match t with
  | .bool => v % 2
  | .time => v % 18446744073709551616
  | .int => v % 4294967296
  | .real => v % 4294967296

/-- R319: a value of a type as it leaves a block: no NaN, no infinity, no subnormal. -/
def vtCut (t : VT) (v : Nat) : Nat := if t = .real then (fClean (v % 4294967296)).1 else vtBits t v

/-- R280: TEST in LQ while the device mode is TEST. -/
def imgTest (i : InImage) : Nat := if i.mode = 1 then 16 else 0

/-- R12, R223: is the pod that holds an instance (or a zone, on P1) in FAIL in the input image? -/
def State.elFailed (s : State) (i : InImage) (n : Nat) : Bool :=
  lget 0 i.pods (if 512 ≤ n then 1 else s.bayPod (s.elBay n)) = 2

/-- R278, R314: an element or zone state of the input image. -/
def State.elemIn (s : State) (i : InImage) (n sig : Nat) : Bool :=
  if s.elFailed i n then false
  else if n < 512 then bitN (lget 0 i.elems n) (if sig = 2 then 18 else sig)
  else
    let w := lget 0 i.zones (n - 512)
    if sig = 0 then w / 8 % 8 != 0 else w % 8 != 0

/-- R316: the value and LQ a binding gives an input of type `t`. -/
def State.bindIn (s : State) (p : ProgSt) (i : InImage) (t : VT) (b : Bind) : Nat × Nat :=
  match b with
  | .none => (0, 0)
  | .const w => (vtBits t (bankWord p.img.code w), 0)
  | .out a => (vtBits t (memRd p.mem a (vtSize t)), 0)
  | .elem n sig q =>
    let lq := (if s.elFailed i n then 1 else 0) + imgTest i
    (if q then lq else b2n (s.elemIn i n sig), lq)
  | .bin n tag q =>
    (if q then imgTest i else if tag then tcBits 64 (lget 0 i.binTags n) else b2n (bitN i.bins n), imgTest i)
  | .sub j n q =>
    let e := lget (0, 1) (lget [] i.subs j) n
    (if q then e.2 else vtBits t e.1, e.2)
  | .drv n fire q => (if q then imgTest i else b2n (bitN (if fire then i.fire else i.arm) n), imgTest i)
  | .lout _ => (0, 0)

/-- R372: the type of a subscription item. -/
def State.itemTy (s : State) (j n : Nat) : VT :=
  if j < 128 then (lget noItem (lget ⟨0, 0, [], 0, 0, []⟩ s.gsv.gsubs j).items n).ty else .int

/-- What a call sees: the call, the type N, input values with LQ, outputs as they stand, internal state, dt (R292). -/
structure CallCtx where
  call : Call
  vt : VT
  ins : List (Nat × Nat)
  outs : List Nat
  x : BlkInt
  dt : Int
  img : InImage

/-- Input `i` of a call. -/
def CallCtx.i (c : CallCtx) (i : Nat) : Nat := (lget (0, 0) c.ins i).1

/-- Input `i` as a truth value. -/
def CallCtx.b (c : CallCtx) (i : Nat) : Bool := c.i i % 2 == 1

/-- Input `i` as INT32. -/
def CallCtx.n (c : CallCtx) (i : Nat) : Int := sext 32 (c.i i)

/-- Input `i` as TIME. -/
def CallCtx.t (c : CallCtx) (i : Nat) : Int := sext 64 (c.i i)

/-- Output `i` as it stands. -/
def CallCtx.o (c : CallCtx) (i : Nat) : Nat := lget 0 c.outs i

/-- R293: the nominal period in ns. -/
def tNom (img : ProgImg) : Int := if img.free then (img.wcet * 10 : Nat) else (img.period * 1000 : Nat)

/-- R292: what the sampling time, or across a step or a change of base the reference, counts from one latch to another (ns). -/
def tlDiff (l n : TLast) : Int :=
  if l.tb = n.tb && l.step = n.step then n.ns - l.ns else (((n.at_ / 160 - l.at_ / 160) * 10 : Nat) : Int)

/-- R292: dt of an execution. -/
def callDt (p : ProgSt) (sc : Scan) (x : BlkInt) : Int :=
  match x.tl with
  | none => 0
  | some l =>
    let d := tlDiff l sc.img.tl
    if sc.afterHold && tNom p.img < d then tNom p.img else d

/-- The context of a call. -/
def State.callCtx (s : State) (p : ProgSt) (sc : Scan) (c : Call) : CallCtx :=
  let vt := callVt p.calls s.itemTy c
  let tys := outTys c.type vt
  let nIn := c.binds.length - tys.length
  let x := Store.get resetBlk p.ints c.inst
  { call := c, vt := vt, x := x, dt := callDt p sc x, img := sc.img
    ins := (c.binds.take nIn).mapIdx (fun i b => s.bindIn p sc.img (inTy c.type vt i) b)
    outs := ((outOfs 0 tys).zip tys).map (fun e => memRd p.mem (c.iofs * 8 + e.1) (vtSize e.2)) }

/-- Write a call's outputs into instance memory. -/
def writeOuts (m : Store Nat) (c : Call) (vt : VT) (outs : List Nat) : Store Nat :=
  let tys := outTys c.type vt
  (((outOfs 0 tys).zip tys).zip outs).foldl (fun m e => memWr m (c.iofs * 8 + e.1.1) (vtSize e.1.2) (vtCut e.1.2 e.2)) m

/-- R316: outputs bound to logic outputs enter the output image at the end of the call. -/
def takeLouts (out : Nat) (c : Call) (nOut : Nat) (outs : List Nat) : Nat :=
  ((c.binds.drop (c.binds.length - nOut)).zip outs).foldl (fun o e =>
    match e.1 with
    | .lout k => setBitN o k (e.2 % 2 == 1)
    | _ => o) out

/-- End a call of program `k`: its outputs, its internal state, and the next call word. -/
def State.endCall (s : State) (k : Nat) (c : CallCtx) (outs : List Nat) (x : BlkInt) : State :=
  let p := s.prog k
  match p.scan with
  | some sc =>
    let n := (outTys c.call.type c.vt).length
    let x := { x with prime := false, ran := true, tl := some sc.img.tl }
    s.setProg k { p with
      mem := writeOuts p.mem c.call c.vt outs
      ints := Store.set resetBlk p.ints c.call.inst x
      scan := some { sc with out := takeLouts sc.out c.call n outs, pc := sc.pc.map (· + 1) } }
  | none => s

/-- Does program `k` execute now: control in Run, analysis running, and the pod able to? -/
def State.progRuns (s : State) (k : Nat) : Bool :=
  (s.podRuns 2 || s.podState 2 = 6 || (k = 0 && s.podState 2 = 7)) &&
    (if k = 0 then s.getF LGC_MODE_MODE = 1 else s.flag POD_LSTAT_ANA_RUN)

/-- R288: does LOGIC_HOLD await the next block call of program `k`? -/
def State.holding (s : State) (k : Nat) : Bool := k = 0 && s.lgc.holdReq

/-- The next call of the scan in progress of program `k`. -/
def State.nextCall (s : State) (k : Nat) : Option CallCtx :=
  let p := s.prog k
  match p.scan with
  | some sc =>
    match sc.pc with
    | some o => some (s.callCtx p sc (Store.get ⟨0, 0, 0, false, false, []⟩ p.calls o))
    | none => none
  | none => none

/-! ### Block functions: outputs and internal state -/

/-- A truth value as an output. -/
def ob (b : Bool) : Nat := b2n b

/-- All inputs from `i` as truth values. -/
def CallCtx.bs (c : CallCtx) (i : Nat) : List Bool := (c.ins.drop i).map (fun e => e.1 % 2 == 1)

/-- What a block function answers. -/
abbrev BlkOut := List Nat × BlkInt

/-- R323: AND. -/
def fnAnd (c : CallCtx) : BlkOut := ([ob ((c.bs 0).all id)], c.x)
/-- R323: OR. -/
def fnOr (c : CallCtx) : BlkOut := ([ob ((c.bs 0).any id)], c.x)
/-- R323: XOR. -/
def fnXor (c : CallCtx) : BlkOut := ([ob (c.b 0 != c.b 1)], c.x)
/-- R323: NOT. -/
def fnNot (c : CallCtx) : BlkOut := ([ob (!c.b 0)], c.x)
/-- R323: SR, set dominant. -/
def fnSr (c : CallCtx) : BlkOut := ([ob (c.b 0 || (c.o 0 % 2 == 1 && !c.b 1))], c.x)
/-- R323: RS, reset dominant. -/
def fnRs (c : CallCtx) : BlkOut := ([ob (!c.b 1 && (c.b 0 || c.o 0 % 2 == 1))], c.x)
/-- R323: MAJ3. -/
def fnMaj3 (c : CallCtx) : BlkOut := ([ob (decide (2 ≤ ((c.bs 0).filter id).length))], c.x)
/-- R323: KOFN. -/
def fnKofn (c : CallCtx) : BlkOut := ([ob (decide (c.n 0 ≤ (((c.bs 1).filter id).length : Nat)))], c.x)

/-- The edge memory an execution compares with (R295, R304: the input itself where it is to be taken from it). -/
def edgeMem (c : CallCtx) (m : Bool) (i : Nat) : Bool := if c.x.prime then c.b i else m

/-- R324: R_TRIG. -/
def fnRtrig (c : CallCtx) : BlkOut := ([ob (c.b 0 && !edgeMem c c.x.m1 0)], { c.x with m1 := c.b 0 })
/-- R324: F_TRIG. -/
def fnFtrig (c : CallCtx) : BlkOut := ([ob (edgeMem c c.x.m1 0 && !c.b 0)], { c.x with m1 := c.b 0 })

/-- R325: E + dt, saturating. -/
def eAdd (e d : Int) : Int := clampI 0 9223372036854775807 (e + d)

/-- R325: PT, at least 0. -/
def ptOf (c : CallCtx) : Int := if c.t 1 < 0 then 0 else c.t 1

/-- R325: Q and ET of a timer. -/
def timerOut (q : Bool) (e pt : Int) : List Nat := [ob q, tcBits 64 (if e < pt then e else pt)]

/-- R325: TON. -/
def fnTon (c : CallCtx) : BlkOut :=
  let pt := ptOf c
  if !c.b 0 then (timerOut false 0 pt, { c.x with m1 := false, e := 0 })
  else
    let e := if c.x.m1 then eAdd c.x.e c.dt else c.x.e
    (timerOut (decide (pt ≤ e)) e pt, { c.x with m1 := true, e := e })

/-- R325: TOF. -/
def fnTof (c : CallCtx) : BlkOut :=
  let pt := ptOf c
  if c.b 0 then (timerOut true 0 pt, { c.x with m1 := true, st := 1, e := 0 })
  else if c.x.st = 0 then (timerOut false c.x.e pt, { c.x with m1 := false })
  else
    let e := if c.x.m1 then 0 else eAdd c.x.e c.dt
    (timerOut (decide (e < pt)) e pt, { c.x with m1 := false, e := e })

/-- R325: TP. -/
def fnTp (c : CallCtx) : BlkOut :=
  let pt := ptOf c
  let start := c.x.st = 0 && c.b 0 && !c.x.m1
  let e := if start then 0 else if c.x.st = 1 then eAdd c.x.e c.dt else c.x.e
  let on := (start || c.x.st = 1) && decide (e < pt)
  (timerOut on e pt, { c.x with m1 := c.b 0, st := b2n on, e := e })

/-- A counter's value one up, held at the limit. -/
def cvUp (v : Int) : Int := clampI (-2147483648) 2147483647 (v + 1)
/-- A counter's value one down, held at the limit. -/
def cvDown (v : Int) : Int := clampI (-2147483648) 2147483647 (v - 1)

/-- R326: CTU. -/
def fnCtu (c : CallCtx) : BlkOut :=
  let v := sext 32 (c.o 1)
  let v := if c.b 1 then 0 else if c.b 0 && !c.x.m1 then cvUp v else v
  ([ob (decide (c.n 2 ≤ v)), tcBits 32 v], { c.x with m1 := c.b 0 })
/-- R326: CTD. -/
def fnCtd (c : CallCtx) : BlkOut :=
  let v := sext 32 (c.o 1)
  let v := if c.b 1 then c.n 2 else if c.b 0 && !c.x.m1 then cvDown v else v
  ([ob (decide (v ≤ 0)), tcBits 32 v], { c.x with m1 := c.b 0 })
/-- R326: CTUD. -/
def fnCtud (c : CallCtx) : BlkOut :=
  let v := sext 32 (c.o 2)
  let u := c.b 0 && !c.x.m1
  let d := c.b 1 && !c.x.m2
  let v := if c.b 2 then 0 else if c.b 3 then c.n 4 else if u && !d then cvUp v else if d && !u then cvDown v else v
  ([ob (decide (c.n 4 ≤ v)), ob (decide (v ≤ 0)), tcBits 32 v], { c.x with m1 := c.b 0, m2 := c.b 1 })

/-- Values of a type compared: a < b. -/
def vtLt (t : VT) (a b : Nat) : Bool :=
  match t with
  | .real => fLt a b
  | .time => decide (sext 64 a < sext 64 b)
  | .int => decide (sext 32 a < sext 32 b)
  | .bool => decide (a % 2 < b % 2)

/-- Values of a type compared: a ≤ b. -/
def vtLe (t : VT) (a b : Nat) : Bool := if t = .real then fLe a b else !vtLt t b a

/-- Values of a type compared: a = b. -/
def vtEq (t : VT) (a b : Nat) : Bool := vtLe t a b && vtLe t b a

/-- R323: EQ. -/
def fnEq (c : CallCtx) : BlkOut := ([ob (vtEq c.vt (c.i 0) (c.i 1))], c.x)
/-- R323: NE. -/
def fnNe (c : CallCtx) : BlkOut := ([ob (!vtEq c.vt (c.i 0) (c.i 1))], c.x)
/-- R323: GT. -/
def fnGt (c : CallCtx) : BlkOut := ([ob (vtLt c.vt (c.i 1) (c.i 0))], c.x)
/-- R323: GE. -/
def fnGe (c : CallCtx) : BlkOut := ([ob (vtLe c.vt (c.i 1) (c.i 0))], c.x)
/-- R323: LT. -/
def fnLt (c : CallCtx) : BlkOut := ([ob (vtLt c.vt (c.i 0) (c.i 1))], c.x)
/-- R323: LE. -/
def fnLe (c : CallCtx) : BlkOut := ([ob (vtLe c.vt (c.i 0) (c.i 1))], c.x)

/-- R323: HYST. -/
def fnHyst (c : CallCtx) : BlkOut :=
  let ge := fLe (c.i 1) (c.i 0)
  let q := if fLe (c.i 1) (c.i 2) then ge
    else if ge then true else if fLe (c.i 0) (c.i 2) then false else c.o 0 % 2 == 1
  ([ob q], c.x)

/-- R318: an exact INT32 or TIME result and OVF. -/
def satOut (t : VT) (v : Int) : List Nat :=
  let n := if t = .time then 64 else 32
  let hi : Int := ((2 ^ (n - 1) : Nat) : Int) - 1
  let w := clampI (-hi - 1) hi v
  [tcBits n w, ob (w != v)]

/-- A REAL32 result and OVF. -/
def realOut (r : Nat × Bool) : List Nat := [r.1, ob r.2]

/-- Inputs 0 and 1 as integers of the type. -/
def CallCtx.z (c : CallCtx) (i : Nat) : Int := if c.vt = .time then c.t i else c.n i

/-- R318, R319: ADD. -/
def fnAdd (c : CallCtx) : BlkOut :=
  (if c.vt = .real then realOut (fAdd (c.i 0) (c.i 1)) else satOut c.vt (c.z 0 + c.z 1), c.x)
/-- R318, R319: SUB. -/
def fnSub (c : CallCtx) : BlkOut :=
  (if c.vt = .real then realOut (fSub (c.i 0) (c.i 1)) else satOut c.vt (c.z 0 - c.z 1), c.x)
/-- R318, R319: MUL. -/
def fnMul (c : CallCtx) : BlkOut :=
  (if c.vt = .real then realOut (fMul (c.i 0) (c.i 1)) else satOut c.vt (c.z 0 * c.z 1), c.x)
/-- R323: DIV. -/
def fnDiv (c : CallCtx) : BlkOut :=
  (if c.vt = .real then realOut (fDiv (c.i 0) (c.i 1))
   else if c.n 1 = 0 then [0, 1] else satOut .int ((c.n 0).tdiv (c.n 1)), c.x)
/-- R323: MOD. -/
def fnMod (c : CallCtx) : BlkOut := (if c.n 1 = 0 then [0, 1] else [tcBits 32 ((c.n 0).tmod (c.n 1)), 0], c.x)
/-- R323: ABS. -/
def fnAbs (c : CallCtx) : BlkOut :=
  (if c.vt = .real then realOut (fClean (c.i 0 % 2147483648)) else satOut .int ((absN (c.n 0) : Nat) : Int), c.x)
/-- R323: NEG. -/
def fnNeg (c : CallCtx) : BlkOut := (if c.vt = .real then realOut (fClean (fNegate (c.i 0))) else satOut c.vt (-c.z 0), c.x)
/-- R323: SQRT. -/
def fnSqrt (c : CallCtx) : BlkOut :=
  (if fLt (c.i 0) 0 then [0, 1] else realOut (fSqrt (c.i 0)), c.x)
/-- R323: MIN. -/
def fnMin (c : CallCtx) : BlkOut := ([if vtLt c.vt (c.i 1) (c.i 0) then c.i 1 else c.i 0], c.x)
/-- R323: MAX. -/
def fnMax (c : CallCtx) : BlkOut := ([if vtLt c.vt (c.i 0) (c.i 1) then c.i 1 else c.i 0], c.x)
/-- R323: SEL. -/
def fnSel (c : CallCtx) : BlkOut := ([if c.b 0 then c.i 2 else c.i 1], c.x)
/-- R323: MUX. -/
def fnMux (c : CallCtx) : BlkOut :=
  let k := c.n 0
  (if 0 ≤ k && k < ((c.ins.length - 1 : Nat) : Int) then [c.i (1 + k.toNat), 0] else [c.o 0, 1], c.x)
/-- R323: LIMIT. -/
def fnLimit (c : CallCtx) : BlkOut :=
  (if vtLt c.vt (c.i 2) (c.i 0) then [c.i 0, 1]
   else if vtLt c.vt (c.i 1) (c.i 0) then [c.i 0, 0]
   else if vtLt c.vt (c.i 2) (c.i 1) then [c.i 2, 0] else [c.i 1, 0], c.x)
/-- R323: MOVE. -/
def fnMove (c : CallCtx) : BlkOut := ([c.i 0], c.x)
/-- R323: PACK. -/
def fnPack (c : CallCtx) : BlkOut :=
  ([(c.bs 0).foldr (fun b r => b2n b + 2 * r) 0 % 4294967296], c.x)
/-- R323: UNPACK. -/
def fnUnpack (c : CallCtx) : BlkOut := ((upto 16).map (fun k => ob (bitN (c.i 0) k)), c.x)
/-- R323: BAND. -/
def fnBand (c : CallCtx) : BlkOut := ([Nat.land (c.i 0) (c.i 1)], c.x)
/-- R323: BOR. -/
def fnBor (c : CallCtx) : BlkOut := ([Nat.lor (c.i 0) (c.i 1)], c.x)
/-- R323: BXOR. -/
def fnBxor (c : CallCtx) : BlkOut := ([Nat.xor (c.i 0) (c.i 1)], c.x)
/-- R323: SHL. -/
def fnShl (c : CallCtx) : BlkOut :=
  ([if 0 ≤ c.n 1 && c.n 1 ≤ 31 then c.i 0 * 2 ^ (c.n 1).toNat % 4294967296 else 0], c.x)
/-- R323: SHR, logical. -/
def fnShr (c : CallCtx) : BlkOut := ([if 0 ≤ c.n 1 && c.n 1 ≤ 31 then c.i 0 / 2 ^ (c.n 1).toNat else 0], c.x)
/-- R323: I2R. -/
def fnI2r (c : CallCtx) : BlkOut := ([fOfInt (c.n 0)], c.x)
/-- R323: R2I. -/
def fnR2i (c : CallCtx) : BlkOut := (if fNan (c.i 0) then [0, 1] else satOut .int (fToInt (c.i 0) 1 1), c.x)
/-- R323: B2I. -/
def fnB2i (c : CallCtx) : BlkOut := ([c.i 0 % 2], c.x)
/-- R323: I2B. -/
def fnI2b (c : CallCtx) : BlkOut := ([ob (c.i 0 != 0)], c.x)
/-- R323: T2I, in ms. -/
def fnT2i (c : CallCtx) : BlkOut := (satOut .int (divHalfEven (c.t 0) 1000000), c.x)
/-- R323: I2T, from ms. -/
def fnI2t (c : CallCtx) : BlkOut := ([tcBits 64 (c.n 0 * 1000000)], c.x)
/-- R323: T2R, in seconds. -/
def fnT2r (c : CallCtx) : BlkOut := ([(fOf false (c.t 0) 1000000000 0).1], c.x)
/-- R323: R2T, from seconds. -/
def fnR2t (c : CallCtx) : BlkOut := (if fNan (c.i 0) then [0, 1] else satOut .time (fToInt (c.i 0) 1000000000 1), c.x)
/-- R323: NOW. -/
def fnNow (c : CallCtx) : BlkOut := ([tcBits 64 c.img.ns], c.x)

/-- R323: LAG; TC in seconds. An X or Y that is no number goes through the formula as IEEE 754 has it (R319, log 28). -/
def fnLag (c : CallCtx) : BlkOut :=
  let x := c.i 0
  let y := c.o 0
  if !fLt 0 (c.i 1) then ([x], c.x)
  else if fSpecial x || fSpecial y then ([if fInf x && !fSpecial y && c.dt != 0 then x else 0], c.x)
  else
    let r := (fDiv (fOf false c.dt 1000000000 0).1 (c.i 1)).1
    let r := if fLt 0x3F800000 r then 0x3F800000 else r
    ([(fAdd y (fMul r (fSub x y).1).1).1], c.x)

/-- R323: DELTA; the previous input is kept as a pattern. -/
def fnDelta (c : CallCtx) : BlkOut :=
  let x := { c.x with a := (c.i 0 : Nat) }
  if !c.x.ran then ([0, 0], x)
  else if c.vt = .real then (realOut (fSub (c.i 0) c.x.a.toNat), x)
  else (satOut .int (c.n 0 - sext 32 c.x.a.toNat), x)

/-- R323: QGOOD. -/
def fnQgood (c : CallCtx) : BlkOut := ([ob (c.i 0 % 4 = 0), ob (bitN (c.i 0) 4)], c.x)
/-- R323: SUBSTATE. -/
def fnSubstate (c : CallCtx) : BlkOut :=
  let e := lget (0, false) c.img.subSt (c.i 0)
  ([e.1, ob e.2], c.x)
/-- R323: PODSTATE. -/
def fnPodstate (c : CallCtx) : BlkOut := ([lget 0 c.img.pods 0, lget 0 c.img.pods 1], c.x)

/-- R328: DPS. -/
def fnDps (c : CallCtx) : BlkOut :=
  let pos := if c.b 0 then (if c.b 1 then 3 else 1) else if c.b 1 then 2 else 0
  if pos = 1 || pos = 2 then ([pos, 0], { c.x with st := 0, e := 0 })
  else
    let e := if c.x.st = 1 then eAdd c.x.e c.dt else 0
    ([pos, ob (decide (c.t 2 ≤ e))], { c.x with st := 1, e := e })

/-- R332: LOCKOUT. -/
def fnLockout (c : CallCtx) : BlkOut :=
  let rise := c.b 1 && !c.x.m1
  let q := if c.b 0 then true else if rise then false else c.o 0 % 2 == 1
  ([ob q], { c.x with m1 := c.b 1 })

/-- R332: ILK: a permit bound to an item of the input image counts only while its VALIDITY is good. -/
def fnIlk (c : CallCtx) : BlkOut :=
  let ps := (c.ins.drop 1).map (fun e => e.1 % 2 == 1 && e.2 % 4 == 0)
  ([ob (ps.all id || c.b 0), ob (c.b 0 && !ps.all id)], c.x)

/-- R327: SGSEL. -/
def fnSgsel (c : CallCtx) : BlkOut :=
  let g := c.n 1
  (if 0 ≤ g && g ≤ 3 then [ob (bitN g.toNat 0), ob (bitN g.toNat 1), 0] else [c.o 0, c.o 1, 1], c.x)

/-- R323: DEVSTATE; START as LGC_MODE shows it. -/
def fnDevstate (start : Nat) (c : CallCtx) : BlkOut := ([c.img.mode, start, c.img.tq], c.x)

/-- R327: ELEM. -/
def State.fnElem (s : State) (c : CallCtx) : BlkOut :=
  let n := c.i 0
  let w := if s.elFailed c.img n then 0 else lget 0 c.img.elems n
  ([ob (s.elemIn c.img n 0), ob (s.elemIn c.img n 1), ob (s.elemIn c.img n 2), w / 32 % 8], c.x)

/-- R327: ZONE. -/
def State.fnZone (s : State) (c : CallCtx) : BlkOut :=
  let w := if s.elFailed c.img 512 then 0 else lget 0 c.img.zones (c.i 0)
  ([w / 8 % 8, w % 8, ob (bitN w 6)], c.x)

/-! ### Autoreclose (R331) -/

/-- R331: states of AR: 0 INIT, 1 READY, 2 WAIT_OPEN, 3 DEAD, 4 CLOSING, 5 RECLAIM, 6 LOCKOUT. One execution: the next
state, SHOT, whether CL is TRUE. -/
def arNext (c : CallCtx) : Nat × Nat × Bool :=
  let st := c.x.st
  let shot := c.x.k
  let n := c.i 0
  let e := eAdd c.x.e c.dt
  let start := c.b 8 && !c.x.m1
  let pos := c.n 9
  let rdy := c.b 10
  let blk := c.b 11
  let rst := c.b 12 && !c.x.m2
  match st with
  | 0 => if pos = 2 then (5, 0, false) else (6, shot, false)
  | 1 => if start then (if blk then (6, shot, false) else (2, 1, false)) else (1, shot, false)
  | 2 => if pos = 1 && e ≤ c.t 5 then (3, shot, false) else if c.t 5 ≤ e then (6, shot, false) else (2, shot, false)
  | 3 =>
    if blk || pos != 1 then (6, shot, false)
    else if c.t shot ≤ e && rdy then (4, shot, true) else (3, shot, false)
  | 4 => if pos = 2 && e ≤ c.t 6 then (5, shot, false) else if c.t 6 ≤ e then (6, shot, false) else (4, shot, false)
  | 5 =>
    if start then
      (if blk || n ≤ shot then (6, shot, false) else (2, shot + 1, false))
    else if c.t 7 ≤ e then (1, 0, false) else (5, shot, false)
  | _ => if (rst && pos = 2) || (pos = 2 && c.x.a = 1) then (5, n, false) else (6, shot, false)

/-- R331: AR's outputs and internal state. -/
def fnAr (c : CallCtx) : BlkOut :=
  let r := arNext c
  let e := if r.1 = c.x.st then eAdd c.x.e c.dt else 0
  ([ob r.2.2, ob (r.1 = 2 || r.1 = 3 || r.1 = 4), ob (r.1 = 6), r.2.1],
   { c.x with st := r.1, k := r.2.1, e := e, m1 := c.b 8, m2 := c.b 12, a := c.n 9 })

/-! ### Breaker control (R329, R330) -/

/-- A BKR in the course of an execution: state (0 IDLE, 1 SELECTED open, 2 SELECTED close, 3 PULSE, 4 SUPERVISE), direction
(1 open, 2 close), t_sel and t_op on the block's clock, CODE, the four flags ILK, SPLIT, POS_TIMEOUT, AUTO. -/
structure BkrX where
  st : Nat
  dir : Nat
  tsel : Int
  top : Int
  code : Nat
  flags : Nat
  deriving DecidableEq, Repr

/-- R329: STAT. -/
def bkrStat (b : BkrX) : Nat := b.code + 256 * b.st + 2048 * b.flags

/-- R329, R330: start a pulse, unless Pod L is split without leave. -/
def bkrPulse (b : BkrX) (dir : Nat) (now : Int) (auto split : Bool) : BkrX :=
  if split then { b with st := 0, code := 0x11, flags := 2 }
  else { b with st := 3, dir := dir, top := now, code := 0, flags := if auto then 8 else 0 }

/-- R329: one request of BKR at a latch. -/
def bkrReq (now : Int) (ilk split : Bool) (kind : Nat) (b : BkrX) : BkrX :=
  let dir := if kind = 0 || kind = 2 then 1 else 2
  if kind < 2 then
    if b.st != 0 then { b with code := 0x09 }
    else if kind = 1 && !ilk then { b with code := 0x11, flags := 1 }
    else { b with st := dir, dir := dir, tsel := now, code := 0, flags := 0 }
  else if kind < 4 then
    if b.st = 0 then { b with code := 0x0A }
    else if b.st = 1 || b.st = 2 then
      if 30000000000 < now - b.tsel then { b with st := 0, code := 0x0B }
      else if b.st != dir then { b with code := 0x02 }
      else if kind = 3 && !ilk then { b with st := 0, code := 0x11, flags := 1 }
      else bkrPulse b dir now false split
    else { b with code := 0x09 }
  else if b.st = 1 || b.st = 2 then { b with st := 0, code := 0, flags := 0 }
  else if b.st = 0 then { b with code := 0x0A }
  else { b with code := 0x09 }

/-- R329: a rising AUTOCL. -/
def bkrAuto (now : Int) (ilk split : Bool) (b : BkrX) : BkrX :=
  if b.st != 0 then { b with code := 0x09 }
  else if ilk then bkrPulse b 2 now true split
  else { b with code := 0x11, flags := 1 }

/-- R329: BKR's timers; true when the supervision has run out. -/
def bkrTime (now pls tsup pos : Int) (b : BkrX) : BkrX × Bool :=
  if b.st = 1 || b.st = 2 then (if 30000000000 < now - b.tsel then { b with st := 0, code := 0x0B } else b, false)
  else if b.st = 3 then (if pls ≤ now - b.top then { b with st := 4 } else b, false)
  else if b.st = 4 then
    if pos = (b.dir : Int) then ({ b with st := 0, code := 0 }, false)
    else if tsup ≤ now - b.top then ({ b with st := 0, code := 0x11, flags := Nat.lor b.flags 4 }, true)
    else (b, false)
  else (b, false)

/-- BKR's state from its internal state and STAT. -/
def bkrOf (c : CallCtx) : BkrX :=
  { st := c.x.st, dir := c.x.k, tsel := c.x.a, top := c.x.b, code := c.o 3 % 256, flags := c.o 3 / 2048 % 16 }

/-- BKR's outputs. -/
def bkrOuts (b : BkrX) : List Nat := [ob (b.st = 3 && b.dir = 1), ob (b.st = 3 && b.dir = 2), ob (b.st = 1 || b.st = 2), bkrStat b]

/-- R236: is Pod L split without leave to act on protection? A join that is done has released what was held (step 3 of R238). -/
def State.splitHolds (s : State) : Bool := s.flag POD_LSTAT_SPLIT && !s.lgc.joinDone && !s.flag POD_LCFG_ALLOW_UNCHECKED_TRIP

/-- Change the scan in progress of a program. -/
def State.mapScan (s : State) (k : Nat) (f : Scan → Scan) : State :=
  s.setProg k { s.prog k with scan := (s.prog k).scan.map f }

/-- R282: an event of the scan in progress, which leaves at its output write. -/
def State.scanEvt (s : State) (k n p1 p2 : Nat) : State := s.mapScan k (fun sc => { sc with evts := sc.evts ++ [(n, p1, p2)] })

/-- R329, R343: BKR's clock at an execution: what R292 counts between its latches, so that a step moves no breaker time (log 131). -/
def bkrClock (c : CallCtx) : Int :=
  c.x.e + (match c.x.tl with
    | none => 0
    | some l => tlDiff l c.img.tl)

/-- R329: BKR at an execution: requests in order, AUTOCL, timers; a select expires by itself only where no request came. -/
def State.runBkr (s : State) (k : Nat) (c : CallCtx) : State :=
  let split := s.splitHolds
  let now := bkrClock c
  let ilk := c.b 3
  let mine := c.img.reqs.filter (fun r => r.brk = c.i 0)
  let step (a : BkrX × List (BkrReq × Nat) × Nat) (r : BkrReq) : BkrX × List (BkrReq × Nat) × Nat :=
    let b := bkrReq now ilk split r.kind a.1
    (b, a.2.1 ++ [(r, bkrStat b)], a.2.2 + b2n (b.code = 0x11 && b.flags = 2))
  let r := mine.foldl step (bkrOf c, [], 0)
  let rise := c.b 5 && !c.x.m1
  let b := if rise then bkrAuto now ilk split r.1 else r.1
  let refused := r.2.2 + b2n (rise && b.code = 0x11 && b.flags = 2)
  let t := if !mine.isEmpty && (b.st = 1 || b.st = 2) then (b, false) else bkrTime now (c.t 1) (c.t 2) (c.n 4) b
  let s := s.addSat POD_LHELD_BRK refused
  let s := { s with lgc := { s.lgc with bkrDone := s.lgc.bkrDone ++ r.2.1 } }
  let s := if t.2 then s.scanEvt k 68 (c.i 0) (bkrStat t.1) else s
  s.endCall k c (bkrOuts t.1) { c.x with st := t.1.st, k := t.1.dir, a := t.1.tsel, b := t.1.top, e := now, m1 := c.b 5 }

/-! ### Blocks that act beyond their instance -/

/-- R331: AR; each entry to LOCKOUT raises AR_LOCKOUT at the output write. -/
def State.runAr (s : State) (k : Nat) (c : CallCtx) : State :=
  let r := fnAr c
  let enter := r.2.st = 6 && c.x.st != 6
  (if enter then s.scanEvt k 66 c.call.inst r.2.k else s).endCall k c r.1 r.2

/-- R333: ALARM. -/
def State.runAlarm (s : State) (k : Nat) (c : CallCtx) : State :=
  let set := c.b 1 && !c.x.m1
  let clr := c.b 2 && !c.x.m2 && !c.b 1
  let q := if set then true else if clr then false else c.o 0 % 2 == 1
  (if set then s.scanEvt k 67 (c.i 0) c.call.inst else s).endCall k c [ob q] { c.x with m1 := c.b 1, m2 := c.b 2 }

/-- R333: RECTRG offers IN as the state of trigger block ID at the output write. -/
def State.runRectrg (s : State) (k : Nat) (c : CallCtx) : State :=
  (s.mapScan k (fun sc => { sc with trig := setBitN sc.trig (c.i 0) (c.b 1) })).endCall k c [] c.x

/-- R333: GSET_B, GSET_I, GSET_R give IN to item ITEM of control block CB at the output write. -/
def State.runGset (s : State) (k : Nat) (c : CallCtx) : State :=
  (s.mapScan k (fun sc => { sc with gset := sc.gset ++ [(c.i 0, c.i 1, if c.call.type = 0x45 then vtCut .real (c.i 3) else c.i 3)] })).endCall k c [] c.x

/-- Run a pure block. -/
def State.runPure (s : State) (k : Nat) (c : CallCtx) (f : CallCtx → BlkOut) : State :=
  let r := f c
  s.endCall k c r.1 r.2

/-- R311: an END word ends the task; the next task of the scan begins, or the tasks have ended. -/
def State.runEnd (s : State) (k : Nat) : State :=
  let p := s.prog k
  s.mapScan k (fun sc =>
    let n := nextTask p.img.code sc.tasks
    { sc with tasks := n.2, pc := n.1 })

/-- R323: the pure block function of a type. -/
def State.pureFn (s : State) (ty : Nat) : Option (CallCtx → BlkOut) :=
  match ty with
  | 0x01 => some fnAnd | 0x02 => some fnOr | 0x03 => some fnXor | 0x04 => some fnNot | 0x05 => some fnSr
  | 0x06 => some fnRs | 0x07 => some fnMaj3 | 0x08 => some fnKofn | 0x09 => some fnRtrig | 0x0A => some fnFtrig
  | 0x0B => some fnTon | 0x0C => some fnTof | 0x0D => some fnTp | 0x0E => some fnCtu | 0x0F => some fnCtd
  | 0x10 => some fnCtud | 0x11 => some fnEq | 0x12 => some fnNe | 0x13 => some fnGt | 0x14 => some fnGe
  | 0x15 => some fnLt | 0x16 => some fnLe | 0x17 => some fnHyst | 0x18 => some fnAdd | 0x19 => some fnSub
  | 0x1A => some fnMul | 0x1B => some fnDiv | 0x1C => some fnMod | 0x1D => some fnAbs | 0x1E => some fnNeg
  | 0x1F => some fnSqrt | 0x20 => some fnMin | 0x21 => some fnMax | 0x22 => some fnSel | 0x23 => some fnMux
  | 0x24 => some fnLimit | 0x25 => some fnMove | 0x26 => some fnPack | 0x27 => some fnUnpack | 0x28 => some fnBand
  | 0x29 => some fnBor | 0x2A => some fnBxor | 0x2B => some fnShl | 0x2C => some fnShr | 0x2D => some fnI2r
  | 0x2E => some fnR2i | 0x2F => some fnB2i | 0x30 => some fnI2b | 0x31 => some fnT2i | 0x32 => some fnI2t
  | 0x33 => some fnT2r | 0x34 => some fnR2t | 0x35 => some fnNow | 0x36 => some fnLag | 0x37 => some fnDelta
  | 0x38 => some fnQgood | 0x39 => some fnSubstate | 0x3A => some fnPodstate
  | 0x3B => some (fnDevstate (s.getF LGC_MODE_START)) | 0x3C => some s.fnElem | 0x3D => some s.fnZone
  | 0x3E => some fnSgsel | 0x41 => some fnIlk | 0x47 => some fnDps | 0x48 => some fnLockout
  | _ => none

/-- Execute the next call of program `k`, whatever its type (LOGIC_STEP). -/
def State.execNext (s : State) (k : Nat) : State :=
  match s.nextCall k with
  | none => s
  | some c =>
    match s.pureFn c.call.type with
    | some f => s.runPure k c f
    | none =>
      match c.call.type with
      | 0x00 => s.runEnd k
      | 0x3F => s.runBkr k c
      | 0x40 => s.runAr k c
      | 0x42 => s.runRectrg k c
      | 0x46 => s.runAlarm k c
      | _ => s.runGset k c

/-- Run `f` on the next call of program `k` when the program executes and the call is of type `ty`. -/
def State.onCall (s : State) (k ty : Nat) (f : CallCtx → State → State) : State :=
  match s.nextCall k with
  | some c => if s.progRuns k && !s.holding k && c.call.type = ty then f c s else s
  | none => s

/-- R311: END. -/
def blkEndEff (k : Nat) (s : State) : State := s.onCall k 0x00 (fun _ s => s.runEnd k)
/-- R329: BKR. -/
def blkBkrEff (k : Nat) (s : State) : State := s.onCall k 0x3F (fun c s => s.runBkr k c)
/-- R331: AR. -/
def blkArEff (k : Nat) (s : State) : State := s.onCall k 0x40 (fun c s => s.runAr k c)
/-- R333: RECTRG. -/
def blkRectrgEff (k : Nat) (s : State) : State := s.onCall k 0x42 (fun c s => s.runRectrg k c)
/-- R333: GSET_B. -/
def blkGsetBEff (k : Nat) (s : State) : State := s.onCall k 0x43 (fun c s => s.runGset k c)
/-- R333: GSET_I. -/
def blkGsetIEff (k : Nat) (s : State) : State := s.onCall k 0x44 (fun c s => s.runGset k c)
/-- R333: GSET_R. -/
def blkGsetREff (k : Nat) (s : State) : State := s.onCall k 0x45 (fun c s => s.runGset k c)
/-- R333: ALARM. -/
def blkAlarmEff (k : Nat) (s : State) : State := s.onCall k 0x46 (fun c s => s.runAlarm k c)
/-- R327: ELEM. -/
def blkElemEff (k : Nat) (s : State) : State := s.onCall k 0x3C (fun c s => s.runPure k c s.fnElem)
/-- R327: ZONE. -/
def blkZoneEff (k : Nat) (s : State) : State := s.onCall k 0x3D (fun c s => s.runPure k c s.fnZone)
/-- R323: DEVSTATE. -/
def blkDevstateEff (k : Nat) (s : State) : State :=
  s.onCall k 0x3B (fun c s => s.runPure k c (fnDevstate (s.getF LGC_MODE_START)))
/-- R323: AND. -/
def blkAndEff (k : Nat) (s : State) : State := s.onCall k 0x01 (fun c s => s.runPure k c fnAnd)
/-- R323: OR. -/
def blkOrEff (k : Nat) (s : State) : State := s.onCall k 0x02 (fun c s => s.runPure k c fnOr)
/-- R323: XOR. -/
def blkXorEff (k : Nat) (s : State) : State := s.onCall k 0x03 (fun c s => s.runPure k c fnXor)
/-- R323: NOT. -/
def blkNotEff (k : Nat) (s : State) : State := s.onCall k 0x04 (fun c s => s.runPure k c fnNot)
/-- R323: SR. -/
def blkSrEff (k : Nat) (s : State) : State := s.onCall k 0x05 (fun c s => s.runPure k c fnSr)
/-- R323: RS. -/
def blkRsEff (k : Nat) (s : State) : State := s.onCall k 0x06 (fun c s => s.runPure k c fnRs)
/-- R323: MAJ3. -/
def blkMaj3Eff (k : Nat) (s : State) : State := s.onCall k 0x07 (fun c s => s.runPure k c fnMaj3)
/-- R323: KOFN. -/
def blkKofnEff (k : Nat) (s : State) : State := s.onCall k 0x08 (fun c s => s.runPure k c fnKofn)
/-- R324: R_TRIG. -/
def blkRTrigEff (k : Nat) (s : State) : State := s.onCall k 0x09 (fun c s => s.runPure k c fnRtrig)
/-- R324: F_TRIG. -/
def blkFTrigEff (k : Nat) (s : State) : State := s.onCall k 0x0A (fun c s => s.runPure k c fnFtrig)
/-- R325: TON. -/
def blkTonEff (k : Nat) (s : State) : State := s.onCall k 0x0B (fun c s => s.runPure k c fnTon)
/-- R325: TOF. -/
def blkTofEff (k : Nat) (s : State) : State := s.onCall k 0x0C (fun c s => s.runPure k c fnTof)
/-- R325: TP. -/
def blkTpEff (k : Nat) (s : State) : State := s.onCall k 0x0D (fun c s => s.runPure k c fnTp)
/-- R326: CTU. -/
def blkCtuEff (k : Nat) (s : State) : State := s.onCall k 0x0E (fun c s => s.runPure k c fnCtu)
/-- R326: CTD. -/
def blkCtdEff (k : Nat) (s : State) : State := s.onCall k 0x0F (fun c s => s.runPure k c fnCtd)
/-- R326: CTUD. -/
def blkCtudEff (k : Nat) (s : State) : State := s.onCall k 0x10 (fun c s => s.runPure k c fnCtud)
/-- R323: EQ. -/
def blkEqEff (k : Nat) (s : State) : State := s.onCall k 0x11 (fun c s => s.runPure k c fnEq)
/-- R323: NE. -/
def blkNeEff (k : Nat) (s : State) : State := s.onCall k 0x12 (fun c s => s.runPure k c fnNe)
/-- R323: GT. -/
def blkGtEff (k : Nat) (s : State) : State := s.onCall k 0x13 (fun c s => s.runPure k c fnGt)
/-- R323: GE. -/
def blkGeEff (k : Nat) (s : State) : State := s.onCall k 0x14 (fun c s => s.runPure k c fnGe)
/-- R323: LT. -/
def blkLtEff (k : Nat) (s : State) : State := s.onCall k 0x15 (fun c s => s.runPure k c fnLt)
/-- R323: LE. -/
def blkLeEff (k : Nat) (s : State) : State := s.onCall k 0x16 (fun c s => s.runPure k c fnLe)
/-- R323: HYST. -/
def blkHystEff (k : Nat) (s : State) : State := s.onCall k 0x17 (fun c s => s.runPure k c fnHyst)
/-- R318: ADD. -/
def blkAddEff (k : Nat) (s : State) : State := s.onCall k 0x18 (fun c s => s.runPure k c fnAdd)
/-- R318: SUB. -/
def blkSubEff (k : Nat) (s : State) : State := s.onCall k 0x19 (fun c s => s.runPure k c fnSub)
/-- R318: MUL. -/
def blkMulEff (k : Nat) (s : State) : State := s.onCall k 0x1A (fun c s => s.runPure k c fnMul)
/-- R323: DIV. -/
def blkDivEff (k : Nat) (s : State) : State := s.onCall k 0x1B (fun c s => s.runPure k c fnDiv)
/-- R323: MOD. -/
def blkModEff (k : Nat) (s : State) : State := s.onCall k 0x1C (fun c s => s.runPure k c fnMod)
/-- R323: ABS. -/
def blkAbsEff (k : Nat) (s : State) : State := s.onCall k 0x1D (fun c s => s.runPure k c fnAbs)
/-- R323: NEG. -/
def blkNegEff (k : Nat) (s : State) : State := s.onCall k 0x1E (fun c s => s.runPure k c fnNeg)
/-- R323: SQRT. -/
def blkSqrtEff (k : Nat) (s : State) : State := s.onCall k 0x1F (fun c s => s.runPure k c fnSqrt)
/-- R323: MIN. -/
def blkMinEff (k : Nat) (s : State) : State := s.onCall k 0x20 (fun c s => s.runPure k c fnMin)
/-- R323: MAX. -/
def blkMaxEff (k : Nat) (s : State) : State := s.onCall k 0x21 (fun c s => s.runPure k c fnMax)
/-- R323: SEL. -/
def blkSelEff (k : Nat) (s : State) : State := s.onCall k 0x22 (fun c s => s.runPure k c fnSel)
/-- R323: MUX. -/
def blkMuxEff (k : Nat) (s : State) : State := s.onCall k 0x23 (fun c s => s.runPure k c fnMux)
/-- R323: LIMIT. -/
def blkLimitEff (k : Nat) (s : State) : State := s.onCall k 0x24 (fun c s => s.runPure k c fnLimit)
/-- R323: MOVE. -/
def blkMoveEff (k : Nat) (s : State) : State := s.onCall k 0x25 (fun c s => s.runPure k c fnMove)
/-- R323: PACK. -/
def blkPackEff (k : Nat) (s : State) : State := s.onCall k 0x26 (fun c s => s.runPure k c fnPack)
/-- R323: UNPACK. -/
def blkUnpackEff (k : Nat) (s : State) : State := s.onCall k 0x27 (fun c s => s.runPure k c fnUnpack)
/-- R323: BAND. -/
def blkBandEff (k : Nat) (s : State) : State := s.onCall k 0x28 (fun c s => s.runPure k c fnBand)
/-- R323: BOR. -/
def blkBorEff (k : Nat) (s : State) : State := s.onCall k 0x29 (fun c s => s.runPure k c fnBor)
/-- R323: BXOR. -/
def blkBxorEff (k : Nat) (s : State) : State := s.onCall k 0x2A (fun c s => s.runPure k c fnBxor)
/-- R323: SHL. -/
def blkShlEff (k : Nat) (s : State) : State := s.onCall k 0x2B (fun c s => s.runPure k c fnShl)
/-- R323: SHR. -/
def blkShrEff (k : Nat) (s : State) : State := s.onCall k 0x2C (fun c s => s.runPure k c fnShr)
/-- R323: I2R. -/
def blkI2rEff (k : Nat) (s : State) : State := s.onCall k 0x2D (fun c s => s.runPure k c fnI2r)
/-- R323: R2I. -/
def blkR2iEff (k : Nat) (s : State) : State := s.onCall k 0x2E (fun c s => s.runPure k c fnR2i)
/-- R323: B2I. -/
def blkB2iEff (k : Nat) (s : State) : State := s.onCall k 0x2F (fun c s => s.runPure k c fnB2i)
/-- R323: I2B. -/
def blkI2bEff (k : Nat) (s : State) : State := s.onCall k 0x30 (fun c s => s.runPure k c fnI2b)
/-- R323: T2I. -/
def blkT2iEff (k : Nat) (s : State) : State := s.onCall k 0x31 (fun c s => s.runPure k c fnT2i)
/-- R323: I2T. -/
def blkI2tEff (k : Nat) (s : State) : State := s.onCall k 0x32 (fun c s => s.runPure k c fnI2t)
/-- R323: T2R. -/
def blkT2rEff (k : Nat) (s : State) : State := s.onCall k 0x33 (fun c s => s.runPure k c fnT2r)
/-- R323: R2T. -/
def blkR2tEff (k : Nat) (s : State) : State := s.onCall k 0x34 (fun c s => s.runPure k c fnR2t)
/-- R323: NOW. -/
def blkNowEff (k : Nat) (s : State) : State := s.onCall k 0x35 (fun c s => s.runPure k c fnNow)
/-- R323: LAG. -/
def blkLagEff (k : Nat) (s : State) : State := s.onCall k 0x36 (fun c s => s.runPure k c fnLag)
/-- R323: DELTA. -/
def blkDeltaEff (k : Nat) (s : State) : State := s.onCall k 0x37 (fun c s => s.runPure k c fnDelta)
/-- R323: QGOOD. -/
def blkQgoodEff (k : Nat) (s : State) : State := s.onCall k 0x38 (fun c s => s.runPure k c fnQgood)
/-- R323: SUBSTATE. -/
def blkSubstateEff (k : Nat) (s : State) : State := s.onCall k 0x39 (fun c s => s.runPure k c fnSubstate)
/-- R323: PODSTATE. -/
def blkPodstateEff (k : Nat) (s : State) : State := s.onCall k 0x3A (fun c s => s.runPure k c fnPodstate)
/-- R327: SGSEL. -/
def blkSgselEff (k : Nat) (s : State) : State := s.onCall k 0x3E (fun c s => s.runPure k c fnSgsel)
/-- R332: ILK. -/
def blkIlkEff (k : Nat) (s : State) : State := s.onCall k 0x41 (fun c s => s.runPure k c fnIlk)
/-- R328: DPS. -/
def blkDpsEff (k : Nat) (s : State) : State := s.onCall k 0x47 (fun c s => s.runPure k c fnDps)
/-- R332: LOCKOUT. -/
def blkLockoutEff (k : Nat) (s : State) : State := s.onCall k 0x48 (fun c s => s.runPure k c fnLockout)

end Sys2Proof.Machine
end

