-- ==== Sys2Proof/Machine/ProgCheck.lean ====
section
/-!
DEFINITION. The checks of a program of block code at load and at an exchange (09 R310 to R315, R320 to R323, R327, R329,
R331, R333; 06 R237): call words, binding lists, instance data, constants, and the blocks that bind outputs of the device.
-/
namespace Sys2Proof.Machine

/-! ### What the library gives each type (R323) -/

/-- R323: bytes of an instance of a type; `n` is the type where the library says N. -/
def blkBytes (ty : Nat) (n : VT) : Nat :=
  let t := n = .time
  if ty ≤ 0x08 then 4
  else if ty ≤ 0x0A then 8
  else if ty ≤ 0x0D then 32
  else if ty ≤ 0x0F then 12
  else if ty = 0x10 then 20
  else if ty ≤ 0x17 then 4
  else if ty ≤ 0x1F then (if t then 16 else 8)
  else if ty ≤ 0x22 || ty = 0x25 then (if t then 8 else 4)
  else if ty ≤ 0x24 then (if t then 16 else 8)
  else if ty = 0x26 then 4
  else if ty = 0x27 then 64
  else lget 8 [4, 4, 4, 4, 4, 4, 8, 4, 4, 8, 8, 4, 16, 8, 16, 12, 8, 8, 8, 12, 16, 12, 12, 48, 64, 8, 4, 8, 8, 8, 8, 24, 8] (ty - 0x28)

/-- R322: the types with a variable number of inputs, with the inputs before them. -/
def variadic (ty : Nat) : Option Nat :=
  if [0x01, 0x02, 0x26].contains ty then some 0 else if [0x08, 0x23, 0x41].contains ty then some 1 else none

/-- R323: the number of inputs of a type whose number is fixed. -/
def nIn (ty : Nat) : Nat :=
  if ty ≤ 0x03 then 2
  else if ty = 0x04 then 1
  else if ty ≤ 0x06 then 2
  else if ty = 0x07 then 3
  else if ty ≤ 0x0A then 1
  else if ty ≤ 0x0D then 2
  else if ty ≤ 0x0F then 3
  else if ty = 0x10 then 5
  else if ty ≤ 0x16 then 2
  else if ty = 0x17 then 3
  else if ty ≤ 0x1C then 2
  else if ty ≤ 0x1F then 1
  else if ty ≤ 0x21 then 2
  else if ty = 0x22 || ty = 0x24 then 3
  else if ty = 0x25 || ty = 0x27 then 1
  else if ty ≤ 0x2C then 2
  else lget 0 [1, 1, 1, 1, 1, 1, 1, 1, 0, 2, 1, 1, 1, 0, 0, 1, 1, 2, 6, 13, 0, 2, 4, 4, 4, 3, 3, 2] (ty - 0x2D)

/-- R315, R323: is input `i` of a type constant-only? -/
def constOnly (ty i : Nat) : Bool :=
  match ty with
  | 0x08 | 0x39 | 0x3C | 0x3D | 0x3E | 0x42 | 0x46 => i = 0
  | 0x3F => i < 3
  | 0x40 => i < 8
  | 0x43 | 0x44 | 0x45 => i < 3
  | 0x47 => i = 2
  | _ => false

/-- R323: the types a type's N may stand for. -/
def vtAllowed (ty : Nat) (t : VT) : Bool :=
  if !nInputs ty || ty = 0x25 then true
  else if ty = 0x22 || ty = 0x23 then true
  else if [0x1A, 0x1B, 0x1D, 0x37].contains ty then t = .int || t = .real
  else t != .bool

/-! ### Call words and binding entries (R310 to R314) -/

/-- R314: a binding entry whose codes and unused bits are as stated. -/
def bindRawOk (w : Nat) : Bool :=
  let i := w % 134217728
  let q := bitN w 27
  match w / 268435456 % 16 with
  | 0 => !q && i = 0
  | 1 => !q && i < 32768
  | 2 => !q && i < 1048576
  | 3 => i / 4 < 512 && i % 4 < 3 || (i / 4 = 512 || i / 4 = 513) && i % 4 < 2
  | 4 => i < 128
  | 5 => i / 128 < 144
  | 6 => i < 64
  | 7 => !q && i < 256
  | _ => false

/-- BOFS and NBIND of the call word at offset `o`. -/
def callList (code : Store Nat) (o : Nat) : Nat × Nat :=
  let w := bankWord code o
  (w / 134217728 % 32768, w / 2097152 % 64)

/-- R311: a task ends with an END word within the program. -/
def taskEnds (code : Store Nat) : Nat → Nat → Bool
  | 0, _ => false
  | fuel + 1, o => (bankWord code o / 72057594037927936 % 256 = 0) || taskEnds code fuel (o + 1)

/-- R310: the directory's reserved words and bits are 0 and each task ends. -/
def dirOk (img : ProgImg) : Bool :=
  (upto 8).all (fun t =>
    let w := bankWord img.code t
    if 5 ≤ t then w = 0
    else w < 65536 && (!bitN w 15 || taskEnds img.code (img.size - w % 32768) (w % 32768)))

/-- Row 6 of R414 for a program: the instance of the first bad call word or binding entry (R313, R314). -/
def progCodes (img : ProgImg) : Option Nat :=
  if !dirOk img then some 0
  else (progCalls img).findSome? (fun e =>
    let l := callList img.code e.1
    let bad := bankWord img.code e.1 % 8 != 0 || (e.2.type = 0 && bankWord img.code e.1 != 0) ||
      (upto l.2).any (fun k => !bindRawOk (bindEntry img.code l.1 k))
    if bad then some e.2.inst else none)

/-! ### Counts (R322) -/

/-- The calls of a program, each instance once. -/
def instList (calls : Store Call) : List Call :=
  calls.foldl (fun l e => if e.2.type = 0 || l.any (fun c => c.inst = e.2.inst) then l else l ++ [e.2]) []

/-- R321: are an instance's data retain-marked (in the control program)? -/
def callRet (c : Call) : Bool := c.ret || c.type = 0x48

/-- R296, R321: bytes of a control program's retain-marked data. -/
def retBytes (calls : Store Call) (items : Nat → Nat → VT) : Nat :=
  (instList calls).foldl (fun n c => if callRet c then n + blkBytes c.type (callVt calls items c) else n) 0

/-- R322: bytes of a program's instances. -/
def instBytes (calls : Store Call) (items : Nat → Nat → VT) : Nat :=
  (instList calls).foldl (fun n c => n + blkBytes c.type (callVt calls items c)) 0

/-- Row 7 of R414 for a program of `words` of bank, `max` instances and `mem` bytes of instance memory: the instance, or 0, that
exceeds R322. -/
def progSizes (img : ProgImg) (items : Nat → Nat → VT) (words max mem : Nat) (retOk : Bool) : Option Nat :=
  let calls := progCalls img
  if words < img.size || max < (instList calls).length || mem < instBytes calls items then some 0
  else calls.findSome? (fun e =>
    let c := e.2
    let ovr := match variadic c.type with
      | some k => decide (16 + k + (outTys c.type .int).length < c.binds.length)
      | none => false
    if ovr || (c.ret && !retOk) then some c.inst else none)

/-! ### References (R313, R315) -/

/-- R313: NBIND is the count the library gives. -/
def nbindOk (c : Call) : Bool :=
  let outs := (outTys c.type .int).length
  match variadic c.type with
  | some k => 2 + k + outs ≤ c.binds.length && c.binds.length ≤ 16 + k + outs
  | none => c.binds.length = nIn c.type + outs

/-- The constant of input `i` of a call. -/
def callConst (img : ProgImg) (c : Call) (i : Nat) : Nat :=
  match lget .none c.binds i with
  | .const w => bankWord img.code w
  | _ => 0

/-- A constant of type INT32 or TIME within bounds. -/
def constIn (img : ProgImg) (c : Call) (i : Nat) (lo hi : Int) : Bool :=
  let v := if inTy c.type .int i = .time then sext 64 (callConst img c i) else sext 32 (callConst img c i)
  decide (lo ≤ v) && decide (v ≤ hi)

/-- Milliseconds in ns. -/
def msNs (n : Int) : Int := n * 1000000

/-- R323, R327 to R333: the constants of a call lie in range. -/
def constsOk (img : ProgImg) (c : Call) : Bool :=
  match c.type with
  | 0x08 => constIn img c 0 1 (((c.binds.length - 2 : Nat)) : Int)
  | 0x39 => constIn img c 0 0 143
  | 0x3C => constIn img c 0 0 511
  | 0x3D => constIn img c 0 0 1
  | 0x3E => constIn img c 0 0 11
  | 0x3F => constIn img c 0 0 31 && constIn img c 1 (msNs 10) (msNs 10000) && constIn img c 2 (msNs 10) (msNs 60000)
  | 0x40 => constIn img c 0 1 4 && [1, 2, 3, 4].all (fun k => constIn img c k (msNs 100) (msNs 300000)) &&
      constIn img c 5 (msNs 20) (msNs 5000) && constIn img c 6 (msNs 50) (msNs 10000) &&
      constIn img c 7 (msNs 1000) (msNs 600000)
  | 0x42 => constIn img c 0 0 63
  | 0x43 | 0x44 | 0x45 => constIn img c 0 0 31 && constIn img c 1 0 63 && constIn img c 2 0 3
  | 0x46 => constIn img c 0 0 255
  | 0x47 => constIn img c 2 (msNs 10) (msNs 60000)
  | _ => true

/-- What a program is checked against: item types, item counts of the enabled subscriptions, dataset entries that GSET
blocks may write with their types, bays whose group the logic chooses with their first logic output, logic outputs that a
trip-matrix map or a bay's group select takes. -/
structure ProgEnv where
  items : Nat → Nat → VT
  subItems : Nat → Nat
  gset : Nat → Nat → Option VT
  bayGsel : Nat → Option Nat
  mapped : Nat → Bool

/-- R315: the type of what a binding names (none: a constant, of any type). -/
def bindTy (calls : Store Call) (env : ProgEnv) (c : Call) : Bind → Option VT
  | .out a =>
    outTypeAt (calls.filter (fun e => e.2.inst != c.inst)) (callVt calls env.items) a
  | .elem _ _ q => some (if q then .int else .bool)
  | .bin _ tag q => some (if q then .int else if tag then .time else .bool)
  | .sub j i q => some (if q then .int else env.items j i)
  | .drv _ _ q => some (if q then .int else .bool)
  | _ => none

/-- R315: is input `i` of a call bound as it may be? -/
def inputOk (calls : Store Call) (env : ProgEnv) (c : Call) (i : Nat) (b : Bind) : Bool :=
  let t := inTy c.type (callVt calls env.items c) i
  match b with
  | .none => c.type = 0x41 && i = 0
  | .const _ => true
  | .lout _ => false
  | .sub j n _ => !constOnly c.type i && decide (n < env.subItems j) && bindTy calls env c b = some t
  | _ => !constOnly c.type i && bindTy calls env c b = some t

/-- R315: is output `k` of a call bound as it may be? -/
def outputOk (calls : Store Call) (env : ProgEnv) (c : Call) (k : Nat) (b : Bind) : Bool :=
  match b with
  | .none => true
  | .lout _ => lget .int (outTys c.type (callVt calls env.items c)) k = .bool
  | _ => false

/-- The bytes an instance's data take: first, and one past the last. -/
def instSpan (calls : Store Call) (env : ProgEnv) (c : Call) : Nat × Nat :=
  (c.iofs * 8, c.iofs * 8 + blkBytes c.type (callVt calls env.items c))

/-- The binding lists' output entries that name logic outputs: entry number in the bank, instance, output. -/
def loutEntries (img : ProgImg) : List (Nat × Nat × Nat) :=
  (progCalls img).foldl (fun l e =>
    let b := callList img.code e.1
    (e.2.binds.zip (upto e.2.binds.length)).foldl (fun l p =>
      match p.1 with
      | .lout n => if l.any (fun x => x.1 = b.1 * 2 + p.2) then l else l ++ [(b.1 * 2 + p.2, e.2.inst, n)]
      | _ => l) l) []

/-- The first instance of a list with an earlier one that makes it a second of something. -/
def secondOf (l : List Call) (key : Call → Option Nat) : Option Nat :=
  (l.zip (upto l.length)).findSome? (fun p =>
    match key p.1 with
    | some k => if (l.take p.2).any (fun c => key c = some k) then some p.1.inst else none
    | none => none)

/-- R331: what reads the byte at `a` in any call word of a program: instance type, input position and instance, each once. -/
def readersOf (calls : Store Call) (a : Nat) : List (Nat × Nat × Nat) :=
  calls.foldl (fun l e => (e.2.binds.zip (upto e.2.binds.length)).foldl (fun l p =>
    if p.1 = .out a && !l.contains (e.2.type, p.2, e.2.inst) then l ++ [(e.2.type, p.2, e.2.inst)] else l) l) []

/-- R327, R329, R331: the outputs that SGSEL, BKR and AR must bind. -/
def devOutsOk (img : ProgImg) (env : ProgEnv) (calls : Store Call) (c : Call) : Bool :=
  let out (k : Nat) : Bind := lget .none c.binds (nIn c.type + k)
  match c.type with
  | 0x3E => match env.bayGsel (callConst img c 0) with
    | some g => out 0 = .lout g && out 1 = .lout (g + 1)
    | none => false
  | 0x3F => (match out 0 with | .lout _ => true | _ => false) && (match out 1 with | .lout _ => true | _ => false)
  | 0x40 => (readersOf calls (c.iofs * 8)).map (fun r => (r.1, r.2.1)) = [(0x3F, 5)] && out 0 = .none
  | 0x43 | 0x44 | 0x45 =>
    env.gset (callConst img c 0 % 4294967296) (callConst img c 1 % 4294967296) = some (inTy c.type .int 3)
  | _ => true

/-- R327: only a bay's SGSEL writes GSEL and GSEL + 1 of a bay whose group the logic sets. -/
def gselOk (img : ProgImg) (env : ProgEnv) (c : Call) : Bool :=
  (upto 12).all (fun b => match env.bayGsel b with
    | some g => (c.type = 0x3E && callConst img c 0 = b) || !(c.binds.contains (.lout g) || c.binds.contains (.lout (g + 1)))
    | none => true)

/-- R333: the identifiers of the ALARM and RECTRG blocks of a program, with the type. -/
def blockIds (img : ProgImg) : List (Nat × Nat) :=
  (instList (progCalls img)).filterMap (fun c => if c.type = 0x42 || c.type = 0x46 then some (c.type, callConst img c 0) else none)

/-- Row 8 of R414 for a program with a bank of `words`, instance memory of `mem` bytes; the analysis program is checked beside
the control program `ctrl`: the first instance that R313, R315, R323, R327, R329, R331, R333 or R237 refuses. -/
def progRefs (img : ProgImg) (env : ProgEnv) (words mem : Nat) (ctrl : Option ProgImg) : Option Nat :=
  let taken : List Nat := match ctrl with
    | some p => (loutEntries p).map (fun x => x.2.2)
    | none => []
  let ids : List (Nat × Nat) := match ctrl with
    | some p => blockIds p
    | none => []
  let calls := progCalls img
  let cs := instList calls
  let each := calls.findSome? (fun e =>
    let c := e.2
    if c.type = 0 then none
    else
      let l := callList img.code e.1
      let n := c.binds.length - (outTys c.type .int).length
      let pos := c.binds.zip (upto c.binds.length)
      let span := instSpan calls env c
      let bad := 0x48 < c.type || !nbindOk c || words * 2 < l.1 * 2 + l.2 || mem < span.2 ||
        cs.any (fun d => if d.inst = c.inst then d.type != c.type || d.iofs != c.iofs || d.ret != c.ret
          else let sd := instSpan calls env d; decide (span.1 < sd.2 && sd.1 < span.2)) ||
        !vtAllowed c.type (callVt calls env.items c) ||
        pos.any (fun p => if p.2 < n then !inputOk calls env c p.2 p.1 else !outputOk calls env c (p.2 - n) p.1) ||
        !constsOk img c || !devOutsOk img env calls c || !gselOk img env c ||
        (ctrl.isSome && (ids.contains (c.type, callConst img c 0) || [0x3E, 0x3F, 0x40, 0x43, 0x44, 0x45].contains c.type ||
          c.binds.any (fun b => match b with | .lout o => taken.contains o || env.mapped o | _ => false)))
      if bad then some c.inst else none)
  let louts := loutEntries img
  let twice := (louts.zip (upto louts.length)).findSome? (fun p =>
    if (louts.take p.2).any (fun q => q.2.2 = p.1.2.2) then some p.1.2.1 else none)
  let id (ty : Nat) (c : Call) : Option Nat := if c.type = ty then some (callConst img c 0) else none
  each.or (twice.or ((secondOf cs (id 0x3E)).or ((secondOf cs (id 0x3F)).or ((secondOf cs (id 0x42)).or
    ((secondOf cs (id 0x46)).or (secondOf cs (fun c =>
      if 0x43 ≤ c.type && c.type ≤ 0x45 then some (callConst img c 0 * 4294967296 + callConst img c 1) else none)))))))

/-- What the configuration of a state gives a program's checks. -/
def State.progEnv (s : State) : ProgEnv :=
  { items := s.itemTy
    subItems := fun j =>
      if !s.flag (LGC_SUBCFG_EN j) then 0
      else if j < 128 then (lget ⟨0, 0, [], 0, 0, []⟩ s.gsv.gsubs j).items.length
      else (lget ⟨0, 0, 0, 0, 0⟩ s.gsv.svsubs (j - 128)).n
    gset := fun cb item =>
      match (lget noGcb s.gsv.gcbs cb).entries[item]? with
      | some (.gset t) => some t
      | _ => none
    bayGsel := fun b =>
      if s.flag (PRT_BAY1_EN b) && s.flag (PRT_BAY1_GSRC b) then some (s.getF (PRT_BAY1_GSEL b)) else none
    mapped := fun o =>
      (upto 32).any (fun n => s.mapBit false n (512 + o) || s.mapBit true n (512 + o)) ||
      (upto 12).any (fun b => s.flag (PRT_BAY1_EN b) && s.flag (PRT_BAY1_GSRC b) &&
        (s.getF (PRT_BAY1_GSEL b) = o || s.getF (PRT_BAY1_GSEL b) + 1 = o)) }

/-- R195: is a binary input's pair in trigger use by the ball map? -/
def trigUse (bm i : Nat) : Bool := 56 ≤ i && bitN bm (2 + (i - 56) / 2)

/-- The binary inputs a program binds. -/
def progBins (img : ProgImg) : List (Nat × Nat) :=
  (progCalls img).foldl (fun l e => e.2.binds.foldl (fun l b =>
    match b with | .bin i _ _ => if l.any (fun x => x.2 = i) then l else l ++ [(e.2.inst, i)] | _ => l) l) []

end Sys2Proof.Machine
end

