-- ==== Sys2Proof/Machine/Logic.lean ====
section
/-!
DEFINITION. The logic scan of Pod L (08 R277 to R309): latch, tasks, output write; Run, Stop and Hold; starts and retain data;
station drop-out; program exchange; and the split and join of Pod L at scan ends (06 R233 to R239).
-/
namespace Sys2Proof.Machine

/-! ### Completions (R454, R458) -/

/-- R454, R461: the completion ring takes an entry, CMD_LAST and CMD_LASTSEQ show it, and COMMAND_COMPLETE is raised. -/
def State.complete (s : State) (op tr status seq detail : Nat) : State :=
  let c : Completion := ⟨op, tr, status, seq, detail, s.getF TIM_IDX_IDX⟩
  let s := { s with cmd := { s.cmd with ring := (c :: s.cmd.ring).take 16 } }
  let s := ((s.setF CMD_LAST_OPCODE op).setF CMD_LAST_STATUS status).setF CMD_LAST_TRANSPORT tr
  (s.setF CMD_LASTSEQ_SEQ seq).raise 119 tr (op + 65536 * status)

/-- R458: the opcode of a breaker request. -/
def bkrOp (r : BkrReq) : Nat := if r.kind < 2 then 0x0301 else if r.kind < 4 then 0x0302 else 0x0303

/-- R458: the STAT word of a breaker's BKR block as it stands in instance memory; none where no block has that BRK. -/
def State.bkrStatOf (s : State) (brk : Nat) : Option Nat :=
  let p := s.prog 0
  (p.calls.find? (fun e => e.2.type = 0x3F && (s.bindIn p ⟨[], [], [], 0, [], 0, 0, [], [], 0, ⟨0, 0, 0, none⟩, 0, 0, []⟩ .int
    (lget .none e.2.binds 0)).1 = brk)).map (fun e => memRd p.mem (e.2.iofs * 8 + 12) 4)

/-- R458: a request ends with a completion. -/
def State.bkrEnd (s : State) (r : BkrReq) (stat : Nat) : State := s.complete (bkrOp r) r.tr (stat % 256) r.seq stat

/-- R458: one answer of a BKR block: a select completes, an operate that started a pulse waits for the block's return to
IDLE. -/
def State.bkrAnswer (s : State) (e : BkrReq × Nat) : State :=
  let r := e.1
  let ok := e.2 % 256 = 0
  if r.kind < 2 then
    let s := s.bkrEnd r e.2
    if ok then { s with lgc := { s.lgc with selOpen := s.lgc.selOpen.filter (·.brk != r.brk) ++ [r] } } else s
  else
    let drop := ok || e.2 % 256 = 0x0B
    let s := if drop then { s with lgc := { s.lgc with selOpen := s.lgc.selOpen.filter (·.brk != r.brk) } } else s
    if r.kind < 4 && ok then { s with lgc := { s.lgc with opOpen := s.lgc.opOpen ++ [r] } } else s.bkrEnd r e.2

/-- R458: operates whose block has returned to IDLE complete; selects that expired unused add a completion. -/
def State.bkrSettle (s : State) : State :=
  let st (r : BkrReq) : Nat := (s.bkrStatOf r.brk).getD 0
  let idle (r : BkrReq) : Bool := st r / 256 % 8 = 0
  let opsDone := s.lgc.opOpen.filter idle
  let expired := s.lgc.selOpen.filter (fun r => idle r && st r % 256 = 0x0B)
  let s' := { s with lgc := { s.lgc with opOpen := s.lgc.opOpen.filter (fun r => !idle r)
                                         selOpen := s.lgc.selOpen.filter (fun r => !idle r) } }
  (opsDone ++ expired).foldl (fun x r => x.bkrEnd r (st r)) s'

/-- R458: the scan's answers at its output write. -/
def State.bkrFinish (s : State) : State :=
  let done := s.lgc.bkrDone
  (done.foldl State.bkrAnswer { s with lgc := { s.lgc with bkrDone := [] } }).bkrSettle

/-- R458: requests still awaiting their latch when the logic leaves Run complete with STATE_DENIED. -/
def State.dropReqs (s : State) : State :=
  let rs := s.lgc.reqs
  rs.foldl (fun x r => x.complete (bkrOp r) r.tr 0x11 r.seq ((x.bkrStatOf r.brk).getD 0)) { s with lgc := { s.lgc with reqs := [] } }

/-! ### Retain data (R295 to R297, R321) -/

/-- The bytes of an instance's outputs; `n` is its type N. -/
def callBytes (n : VT) (c : Call) : List Nat :=
  let tys := outTys c.type n
  ((outOfs 0 tys).zip tys).foldl (fun l e => l ++ (upto (vtSize e.2)).map (fun i => c.iofs * 8 + e.1 + i)) []

/-- The type N of an instance of a program. -/
def State.typeOf (s : State) (p : ProgSt) (c : Call) : VT := callVt p.calls s.itemTy c

/-- The calls of a program, each instance once. -/
def instCalls (calls : Store Call) : List Call :=
  calls.foldl (fun l e => if e.2.type = 0 || l.any (fun c => c.inst = e.2.inst) then l else l ++ [e.2]) []

/-- Copy bytes from one store to another. -/
def copyBytes (src dst : Store Nat) (as : List Nat) : Store Nat :=
  as.foldl (fun m a => Store.set 0 m a (Store.get 0 src a)) dst

/-- R296: the retain layout of a program. -/
def retLayout (calls : Store Call) : List (Nat × Nat × Nat) :=
  (instCalls calls).filterMap (fun c => if callRet c then some (c.inst, c.type, c.iofs) else none)

/-- R296: the retain-marked data as they stand. -/
def State.retSnap (s : State) : RetainCopy :=
  let p := s.prog 0
  let cs := (instCalls p.calls).filter callRet
  { ok := true, count := 0, layout := retLayout p.calls
    mem := cs.foldl (fun m c => copyBytes p.mem m (callBytes (s.typeOf p c) c)) []
    ints := cs.foldl (fun m c => Store.set resetBlk m c.inst { Store.get resetBlk p.ints c.inst with tl := none, ran := false }) [] }

/-- R297: the copy with the higher commit count whose CRC verifies. -/
def bestCopy (a b : RetainCopy) : Option RetainCopy :=
  if a.ok && b.ok then (if a.count < b.count then some b else some a)
  else if a.ok then some a else if b.ok then some b else none

/-- R296: at a scan end at which retain-marked data have changed a commit starts, or is deferred. -/
def State.retain (s : State) : State :=
  let snap := s.retSnap
  let changed := match s.lgc.retBase with
    | some b => b.mem != snap.mem || b.ints != snap.ints
    | none => false
  if !changed then s
  else if s.flag LGC_RTN_BUSY then s.incSat LGC_RTN_DEFER
  else
    let n := Nat.max (if s.mram.retA.ok then s.mram.retA.count else 0) (if s.mram.retB.ok then s.mram.retB.count else 0) + 1
    let m := if s.mram.retLast = 0 then { s.mram with retB := { s.mram.retB with ok := false } }
      else { s.mram with retA := { s.mram.retA with ok := false } }
    ({ s with mram := m, lgc := { s.lgc with commit := some { snap with count := n }, retBase := some snap } }).setFlag LGC_RTN_BUSY true

/-- R296: RETAIN_COMMIT_DONE. -/
def retainCommitDoneEff (s : State) : State :=
  match s.lgc.commit with
  | some c =>
    let cp := if s.mram.retLast = 0 then 1 else 0
    let m := if cp = 1 then { s.mram with retB := c, retLast := 1 } else { s.mram with retA := c, retLast := 0 }
    if !s.sys.refPresent then s
    else (({ s with mram := m, lgc := { s.lgc with commit := none } }).setFlag LGC_RTN_BUSY false).setF LGC_RTN_COPY cp
  | none => s

/-! ### Logic outputs (R182, R236, R282) -/

/-- LGC_OUT as one number of 256 bits. -/
def State.lgcOut (s : State) : Nat := (upto 8).foldl (fun n w => n + s.getF (LGC_OUT_OUT w) * 2 ^ (32 * w)) 0

/-- Set LGC_OUT. -/
def State.setLgcOut (s : State) (n : Nat) : State := (upto 8).foldl (fun s w => s.setF (LGC_OUT_OUT w) (n / 2 ^ (32 * w))) s

/-- The logic outputs a program's calls write. -/
def boundOuts (calls : Store Call) : Nat :=
  calls.foldl (fun m e => e.2.binds.foldl (fun m b => match b with | .lout k => setBitN m k true | _ => m) m) 0

/-- Bits of `a` under `mask`, of `b` elsewhere (256 bits). -/
def mergeBits (mask a b : Nat) : Nat :=
  (upto 256).foldl (fun n k => if (if bitN mask k then bitN a k else bitN b k) then n + 2 ^ k else n) 0

/-- R236: does a logic output act on protection? -/
def State.actsOnProt (s : State) (o : Nat) : Bool :=
  (upto 32).any (fun n => s.mapBit false n (512 + o) || s.mapBit true n (512 + o) ||
      (s.flag (TRP_OCFG_RST_EN n) && s.getF (TRP_OCFG_RSTSRC n) = o)) ||
    (upto 512).any (fun i => s.elType i != 0 && (s.hdr i 1 8 1 = 1 || s.hdr i 1 9 1 = 1) && s.hdr i 1 0 8 = o) ||
    (upto 12).any (fun b => s.flag (PRT_BAY1_EN b) && s.flag (PRT_BAY1_GSRC b) &&
      (s.getF (PRT_BAY1_GSEL b) = o || s.getF (PRT_BAY1_GSEL b) + 1 = o)) ||
    (upto 2).any (fun z => (upto 12).any (fun b => bitN (s.getF (PRT_ZMAP_DYNB z)) b && s.getF (PRT_ZCFG_ZDBASE z) + b = o))

/-- R236: the held-off outputs: those that act on protection, while split without leave. -/
def State.heldMask (s : State) : Nat :=
  if s.splitHolds then (upto 256).foldl (fun n o => if s.actsOnProt o then n + 2 ^ o else n) 0 else 0

/-- The lowest set bit. -/
def lowBit (n : Nat) : Nat := ((upto 256).find? (fun k => bitN n k)).getD 0

/-- R236: the held-off outputs that differ from the control program's values. -/
def State.heldDiff (s : State) : Nat := Nat.land s.heldMask (Nat.xor s.trp.lo s.lgcOut)

/-- R236, R282: give 256 logic outputs to LGC_OUT and, but for held-off ones, to the trip island and the pods. -/
def State.giveOuts (s : State) (out : Nat) : State :=
  let s := s.setLgcOut out
  let s := s.setTrp (fun x => { x with lo := mergeBits s.heldMask s.trp.lo out })
  s.setFlag POD_LSTAT_HELD (s.heldDiff != 0)

/-- R236: a scan end of the control program at which a held-off output differs. -/
def State.heldScan (s : State) : State :=
  if s.heldDiff = 0 then s
  else
    let s := s.incSat POD_LHELD_HSCAN
    if s.lgc.heldSeen then s else ({ s with lgc := { s.lgc with heldSeen := true } }).raise 63 0 (lowBit s.heldDiff)

/-- R282: a scan's logic outputs: the analysis program keeps its own. -/
def State.scanOuts (s : State) (k out : Nat) : State :=
  let ana := boundOuts (s.prog 1).calls
  s.giveOuts (if k = 0 then mergeBits ana s.lgcOut out else mergeBits ana out s.lgcOut)

/-! ### GOOSE set values (R282, R333) -/

/-- Put a value into data item `item` of control block `cb`. -/
def State.gsetPut (s : State) (cb item v : Nat) : State :=
  let g := lget resetGcb s.gsv.gcbInts cb
  { s with gsv := { s.gsv with gcbInts := lset s.gsv.gcbInts cb { g with gset := lset g.gset item v } } }

/-- R333: on entry to Stop each GSET block's item takes the block's stop action. -/
def State.gsetStop (s : State) : State :=
  let p := s.prog 0
  let k (c : Call) (i : Nat) : Nat := match lget .none c.binds i with | .const w => bankWord p.img.code w % 4294967296 | _ => 0
  (instCalls p.calls).foldl (fun s c =>
    if 0x43 ≤ c.type && c.type ≤ 0x45 then
      let cb := k c 0
      let item := k c 1
      match k c 2 with
      | 1 => s.gsetPut cb item 0
      | 2 => s.gsetPut cb item (if c.type = 0x45 then 0x3F800000 else 1)
      | 3 => s.gsetPut cb item (lget 0 (lget noGcb s.gsv.gcbs cb).init item)
      | _ => s
    else s) s

/-! ### Starts and stops (R288 to R295) -/

/-- R331: the AR blocks of a list of instances are in INIT until their first execution. -/
def arInit (cs : List Call) (ints : Store BlkInt) : Store BlkInt :=
  cs.foldl (fun m c => if c.type = 0x40 then Store.set resetBlk m c.inst { Store.get resetBlk m c.inst with st := 0 } else m) ints

/-- R295: a program as a start initialises it; `warm`: restored retain data, if it is a warm start. -/
def startProg (p : ProgSt) (items : Nat → Nat → VT) (warm : Option RetainCopy) : ProgSt :=
  let cs := instCalls p.calls
  let base := { p with mem := p.img.init, ints := arInit cs p.img.ints0, scan := none, startReq := 0, firstLatch := none
                       holdNext := false, out := p.img.outInit, trig := 0, initOver := false
                       pres := List.replicate 144 (0, false, false) }
  match warm with
  | none => { base with first := 1 }
  | some r =>
    let mem := (cs.filter callRet).foldl (fun m c => copyBytes r.mem m (callBytes (callVt p.calls items c) c)) base.mem
    let ints := cs.foldl (fun m c =>
      if callRet c then Store.set resetBlk m c.inst { Store.get resetBlk r.ints c.inst with tl := none }
      else if c.type = 9 || c.type = 10 then Store.set resetBlk m c.inst { Store.get resetBlk m c.inst with prime := true }
      else m) base.ints
    { base with mem := mem, ints := arInit cs ints, first := 2 }

/-- R301: every enabled subscription is presented AWAITED. -/
def State.subsAwaited (s : State) : State :=
  ((upto 144).foldl (fun s j =>
    if s.flag (LGC_SUBCFG_EN j) then
      ((s.setF (LGC_SUBST_STATE j) 0).setFlag (LGC_SUBST_PEND_DROP j) false).setFlag (LGC_SUBST_PEND_REST j) false
    else s) s).setFlag LGC_STAT_DROP_ANY false

/-- R297: the retain copy a start takes its values from, and whether a warm start falls back to a cold one. -/
def State.startCopy (s : State) (warm : Bool) : Option RetainCopy × Bool :=
  let lay := retLayout (s.prog 0).calls
  if !warm then (none, false)
  else
    match bestCopy s.mram.retA s.mram.retB with
    | some c => if c.layout = lay then (some c, false) else (none, true)
    | none => (none, true)

/-- R295: memory and block states of program 0, and the scan's registers, at a start of the logic. -/
def State.startProg0 (s : State) (copy : Option RetainCopy) (start : Nat) : State :=
  let s := s.setProg 0 (startProg (s.prog 0) s.itemTy copy)
  let s := (s.setF LGC_MODE_START start).setFlag LGC_MODE_FIRST true
  let s := ((s.setF LGC_SCAN_LAST_LAST 0).setF LGC_SCAN_MIN_MIN 0xFFFFFFFF).setF LGC_SCAN_MAX_MAX 0
  ((s.setF LGC_OVR_OVR 0).setF LGC_OVR_SKIPPED 0).setF LGC_STAT_LONG 0

/-- The outputs' initial words, and what no start of the logic keeps. -/
def State.startOuts0 (s : State) (out : Nat) : State :=
  let s := s.subsAwaited.scanOuts 0 out
  { s with lgc := { s.lgc with longRun := false, selOpen := [], joinSkip := false, retBase := some s.retSnap } }

/-- R289, R295, R330: cancel every open breaker select. -/
def State.cancelSelects (s : State) : State :=
  let p := s.prog 0
  let q := (instCalls p.calls).foldl (fun q c =>
    if c.type != 0x3F then q
    else
      let x := Store.get resetBlk q.ints c.inst
      if x.st = 1 || x.st = 2 then
        let stat := memRd q.mem (c.iofs * 8 + 12) 4
        { q with ints := Store.set resetBlk q.ints c.inst { x with st := 0 }
                 mem := memWr (memWr q.mem (c.iofs * 8 + 8) 4 0) (c.iofs * 8 + 12) 4 (stat - stat / 256 % 8 * 256) }
      else q) p
  let s := s.setProg 0 q
  { s with lgc := { s.lgc with selOpen := [] } }

/-- R294, R295, R297: start the control program; `warm` as asked for. -/
def State.startLogic (s : State) (warm : Bool) : State :=
  let c := s.startCopy warm
  let out := (s.prog 0).img.outInit
  let s := if c.2 then (s.setFlag LGC_STAT_RET_FAULT true).raise 59 0 0 else s
  ((s.startProg0 c.1 (if c.2 then 3 else if warm then 2 else 1)).cancelSelects.startOuts0 out).setLogicMode 1

/-- R289: alarms become inactive. -/
def State.alarmsOff (s : State) : State :=
  let p := s.prog 0
  s.setProg 0 { p with mem := (instCalls p.calls).foldl (fun m c => if c.type = 0x46 then memWr m (c.iofs * 8) 4 0 else m) p.mem }

/-- R289: the stop action of logic output o. -/
def State.stopAct (s : State) (o : Nat) : Nat := s.getF (LGC_STOPACT_ACT (o / 16) (o % 16))

/-- R291: the logic of a pod in FAIL. -/
def State.logicFailed (s : State) : State :=
  let s := s.setProg 0 { s.prog 0 with scan := none, startReq := 0 }
  let s := s.setProg 1 { s.prog 1 with scan := none }
  let s := { s with lgc := { s.lgc with joinFrom := none, joinDone := false, joinSkip := false, holdReq := false } }
  let s := (s.setFlag POD_LSTAT_SPLIT_PEND false).setFlag POD_LSTAT_JOIN_PEND false
  ((s.setFlag LGC_MODE_STOP_PEND false).setFlag LGC_STAT_SCANNING false).dropReqs

/-! ### Subscriptions at a latch (R298 to R301) -/

/-- What program `k` is presented of subscription `j`: state, drop-out pending, recovery pending. -/
def State.presOf (s : State) (k j : Nat) : Nat × Bool × Bool :=
  if k = 0 then (s.getF (LGC_SUBST_STATE j), s.flag (LGC_SUBST_PEND_DROP j), s.flag (LGC_SUBST_PEND_REST j))
  else lget (0, false, false) (s.prog 1).pres j

/-- Replace it. -/
def State.setPres (s : State) (k j : Nat) (x : Nat × Bool × Bool) : State :=
  if k = 0 then ((s.setF (LGC_SUBST_STATE j) x.1).setFlag (LGC_SUBST_PEND_DROP j) x.2.1).setFlag (LGC_SUBST_PEND_REST j) x.2.2
  else s.setProg 1 { s.prog 1 with pres := lset (s.prog 1).pres j x }

/-- A subscription of the state. -/
def State.subOf (s : State) (j : Nat) : SubInt := lget resetSub s.gsv.subs j

/-- Is subscription `j` now received? -/
def State.subLive (s : State) (j : Nat) : Bool := if j < 128 then s.flag (GSV_SSTAT_RX j) else s.flag (GSV_SVSSTAT_RX (j - 128))

/-- R299: the presented state at a latch, what is still pending, and the task requested: 0 none, 3 STATION_ERROR,
4 STATION_RESTORED. -/
def presStep (live waited : Bool) (x : Nat × Bool × Bool) : (Nat × Bool × Bool) × Nat :=
  if x.2.1 then ((2, false, x.2.2), 3)
  else if x.1 = 2 && live then ((1, false, false), 4)
  else if x.1 = 0 && live then ((1, false, false), 0)
  else if x.1 = 0 && waited then ((2, false, x.2.2), 3)
  else (x, 0)

/-- R301: has INIT_WAIT passed since the first latch? -/
def State.waited (s : State) (k : Nat) : Bool :=
  let p := s.prog k
  p.initOver || (match p.firstLatch with | some t => decide (t + p.img.initWait * msU ≤ s.now) | none => false)

/-- R299, R301, R309: one subscription at a latch: what it presents with its change flag, and the step taken; a drop-out that
INIT_WAIT presents is counted. -/
def State.presentSub (s : State) (k j : Nat) (w : Bool) : State × (Nat × Bool) × Nat :=
  if s.flag (LGC_SUBCFG_EN j) then
    let x := s.presOf k j
    let y := presStep (s.subLive j) w x
    let s := if k = 0 && y.1.1 = 2 && y.2 = 3 && !x.2.1 then s.incSat (LGC_SUBST_DROPS j) else s
    (s.setPres k j y.1, (y.1.1, y.1.1 != x.1 || y.2 != 0), y.2)
  else (s, (0, false), 0)

/-- R299, R309: all subscriptions at a latch of program `k`, with a drop-out that INIT_WAIT presents counted: the state, newly-changed flags, the tasks requested. -/
def State.presentSubs (s : State) (k : Nat) : State × List (Nat × Bool) × Bool × Bool :=
  let w := s.waited k
  let r := (upto 144).foldl (fun (a : State × List (Nat × Bool) × Bool × Bool) j =>
    let b := a.1.presentSub k j w
    (b.1, a.2.1 ++ [b.2.1], a.2.2.1 || b.2.2 = 3, a.2.2.2 || b.2.2 = 4)) (s, [], false, false)
  if k = 0 then (r.1.setFlag LGC_STAT_DROP_ANY (r.2.1.any (fun e => e.1 = 2)), r.2) else r

/-- R280: VALIDITY of a virtual-channel sample. -/
def tagLq (t : Tag) : Nat :=
  match t with
  | .missing => 1
  | .settling | .refUnsettled | .overrange => 3
  | _ => 0

/-- R278: the items of a stream: entry n through the virtual channel that takes it. -/
def State.svItems (s : State) (st : Nat) : List (Nat × Nat) :=
  (upto 24).map (fun n =>
    match (upto 64).find? (fun v => s.flag (GSV_VCH_EN v) && s.getF (GSV_VCH_STREAM v) = st && s.getF (GSV_VCH_ELEM v) = n) with
    | some v =>
      match lget [] s.flt.vsmp v with
      | e :: _ => (tcBits 32 e.2.v, tagLq e.2.tag + (if (lget resetSv s.gsv.svInts st).test then 16 else 0))
      | [] => (0, 1)
    | none => (0, 1))

/-- R280, R300: one item of a subscription in state `pres`; a value held keeps the TEST bit of its frame. -/
def subItem (pres : Nat) (hold ever : Bool) (subst : Nat) (x : Nat × Nat) : Nat × Nat :=
  if pres = 1 then x
  else
    let validity := if pres = 2 then 1 else 3
    if hold && ever then (x.1, validity + 4 + x.2 / 16 % 2 * 16) else (subst, validity + 12)

/-- R319: a REAL32 item that is a NaN or infinite enters as 0.0 with VALIDITY invalid. -/
def realItem (t : VT) (e : Nat × Nat) : Nat × Nat :=
  if t = .real && e.1 / 8388608 % 256 = 255 then (0, e.2 / 4 * 4 + 1) else e

/-- R278, R300: the items of subscription `j` as they enter the input image. -/
def State.subItems (s : State) (j pres : Nat) : List (Nat × Nat) :=
  let hold := s.flag (LGC_SUBCFG_SUBMODE j)
  let x := s.subOf j
  let t := if s.mode == .test then 16 else 0
  let its := (lget ⟨0, 0, [], 0, 0, []⟩ s.gsv.gsubs j).items
  let vals := if j < 128 then its.mapIdx (fun n _ => lget (0, 0) x.vals n) else s.svItems (j - 128)
  vals.mapIdx (fun n v =>
    let e := subItem pres hold x.ever (if j < 128 then (lget noItem its n).subst else 0) v
    realItem (s.itemTy j n) (e.1, Nat.lor e.2 t))

/-! ### The latch (R277 to R281) -/

/-- R278: TRIPLE 0, DUAL 1, FAIL 2. -/
def podCode (st : Nat) : Nat := if st = 4 then 2 else if st = 2 || st = 3 then 1 else 0

/-- R278: the input image at this instant, with presented subscriptions and the requests taken. -/
def State.latch (s : State) (subSt : List (Nat × Bool)) (reqs : List BkrReq) : InImage :=
  let ns := s.sampAt s.now / 65536
  { elems := s.lgc.elemRel, zones := s.lgc.zoneRel, pods := [podCode (s.podState 0), podCode (s.podState 1)]
    bins := s.getF BIO_STATE_LO_ST + 4294967296 * s.getF BIO_STATE_HI_ST
    binTags := (upto 64).map (fun i => ((s.getF (BIO_THI_SEC i) * 1000000000 + s.getF (BIO_TLO_NS i) : Nat) : Int))
    arm := s.getF TRP_DRV_ARM_DARM, fire := s.getF TRP_DRV_FIRE_DFIRE
    subs := subSt.mapIdx (fun j e => if s.flag (LGC_SUBCFG_EN j) then s.subItems j e.1 else [])
    subSt := subSt, ns := ns, tl := ⟨ns, s.now, s.sampTb, s.tim.stepStrobe⟩, tq := s.sampQual
    mode := if s.mode == .test then 1 else 0, reqs := reqs }

/-- R281: the tasks of a scan in order. -/
def scanTasks (first : Nat) (err rest : Bool) : List Nat :=
  (if first = 1 then [1] else if first = 2 then [2] else []) ++ (if err then [3] else []) ++ (if rest then [4] else []) ++ [0]

/-- R234, R238 step 4: a join in course completes as the pod starts locked. -/
def State.joinEnd (s : State) : State :=
  if s.lgc.joinDone then
    let s := { s with lgc := { s.lgc with joinDone := false, joinFrom := none } }
    let s := (s.setFlag POD_LSTAT_SPLIT false).setF (POD_STAT_STATE 2) 1
    (s.setRun 2 7).raise 64 0 (s.getF POD_LJOIN_LAST)
  else s

/-- R277 to R281: a scan of program `k` starts with its latch. -/
def State.startScan (s : State) (k : Nat) : State :=
  let s := if k = 0 then s.joinEnd else s
  let s := if (s.prog k).firstLatch.isNone then s.setProg k { s.prog k with firstLatch := some s.now } else s
  let r := s.presentSubs k
  let s := r.1
  let p := s.prog k
  let reqs := if k = 0 then s.lgc.reqs else []
  let img := s.latch r.2.1 reqs
  let nt := nextTask p.img.code (scanTasks p.first r.2.2.1 r.2.2.2)
  let sc : Scan := { img := img, tasks := nt.2, pc := nt.1, out := p.out, gset := [], trig := p.trig
                     afterHold := p.holdNext, held := false, start := s.now, evts := [] }
  let s := s.setProg k { p with scan := some sc, holdNext := false }
  if k = 0 then ({ s with lgc := { s.lgc with reqs := [] } }).setFlag LGC_STAT_SCANNING true else s

/-- Does program `k` exist? -/
def State.hasProg (s : State) (k : Nat) : Bool := !(s.prog k).calls.isEmpty && (k != 0 || s.getF LGC_SIZE_NINST != 0)

/-- R288, R294: a start that waits for the next period takes effect. -/
def State.takeStart (s : State) : State :=
  let q := (s.prog 0).startReq
  if q != 0 && s.getF LGC_MODE_MODE = 0 && (s.podRuns 2 || s.podState 2 = 6) && s.hasProg 0 then s.startLogic (q = 2) else s

/-- R288, R294: in free-running mode a start takes effect at once. -/
def State.startFree (s : State) : State := if (s.prog 0).img.free then s.takeStart else s

/-- R284: is this instant a period start of a program: a whole number of periods from those before, on the reference? The first one
sets the grid (DESIGN CHOICE, log 121). -/
def State.onGrid (s : State) (p : ProgSt) : Bool :=
  match p.grid with
  | some g => p.gridLast < s.now && (s.now - g) % (p.img.period * usU) = 0
  | none => true

/-- R284: a period start has fallen. -/
def State.gridMark (s : State) (k : Nat) : State :=
  let p := s.prog k
  s.setProg k { p with grid := some (p.grid.getD s.now), gridLast := s.now }

/-- R284, R285, R238, R239: PERIOD_START: a fixed-period start falls. -/
def periodStartEff (k : Nat) (s : State) : State :=
  if (s.prog k).img.free || !s.protecting || !s.onGrid (s.prog k) then s
  else
    let s := s.gridMark k
    let s := if k = 0 then s.takeStart else s
    if !s.progRuns k || !s.hasProg k then s
    else
      match (s.prog k).scan with
      | some sc => if k = 0 && !sc.held then s.incSat LGC_OVR_SKIPPED else s
      | none =>
        if k = 0 && s.lgc.joinSkip then ({ s with lgc := { s.lgc with joinSkip := false } }).incSat LGC_OVR_SKIPPED
        else if k = 0 && s.lgc.joinFrom.isSome && !s.lgc.joinDone then s.incSat LGC_OVR_SKIPPED
        else s.startScan k

/-- R286: FREE_RUN_SCAN_START: a free-running scan starts. -/
def freeRunScanStartEff (k : Nat) (s : State) : State :=
  if !(s.prog k).img.free || !s.protecting then s
  else
    let s := if k = 0 then s.takeStart else s
    let p := s.prog k
    if !s.progRuns k || !s.hasProg k || p.scan.isSome || (k = 0 && s.lgc.joinFrom.isSome && !s.lgc.joinDone) then s
    else if p.first = 0 && s.now < p.lastWrite + usU && !(k = 0 && s.lgc.joinDone) then s
    else s.startScan k

/-- R299 row 4, R301: INIT_WAIT_EXPIRY. -/
def initWaitExpiryEff (k : Nat) (s : State) : State :=
  let p := s.prog k
  match p.firstLatch with
  | some t => if s.sys.refPresent && t + p.img.initWait * msU ≤ s.now then s.setProg k { p with initOver := true } else s
  | none => s

/-! ### Overrun and scan times (R285 to R287) -/

/-- R285: an overrun. -/
def State.overrun (s : State) : State :=
  let s := (s.incSat LGC_OVR_OVR).setFlag LGC_STAT_OVR_SEEN true
  s.raise 56 0 (s.getF LGC_OVR_OVR)

/-- Cycles of 10 ns from `t` to now. -/
def State.cyc10 (s : State) (t : Nat) : Nat := (s.now - t) / 160

/-- R286: the check against SCANLIM in free-running mode. -/
def State.scanLimit (s : State) (sc : Scan) : State :=
  let lim := s.getF LGC_LIM_SCANLIM
  if !(s.prog 0).img.free || lim = 0 then s
  else if s.now ≤ sc.start + lim * 10 * usU then { s with lgc := { s.lgc with longRun := false } }
  else
    let s' := (s.incSat LGC_STAT_LONG).setFlag LGC_STAT_LONG_SEEN true
    if s.lgc.longRun then s' else ({ s' with lgc := { s'.lgc with longRun := true } }).raise 57 0 (satAt 0xFFFFFFFF (s.cyc10 sc.start))

/-- R287: enter the scan's time. -/
def State.scanTime (s : State) (sc : Scan) : State :=
  if sc.held then s
  else
    let d := satAt 0xFFFFFFFF (s.cyc10 sc.start)
    let s := s.setF LGC_SCAN_LAST_LAST d
    let s := if d < s.getF LGC_SCAN_MIN_MIN then s.setF LGC_SCAN_MIN_MIN d else s
    if s.getF LGC_SCAN_MAX_MAX < d then s.setF LGC_SCAN_MAX_MAX d else s

/-- R285: the start of the period after `start` that lies after now. -/
def nextPeriod (start per now : Nat) : Nat := if per = 0 then now else start + ((now - start) / per + 1) * per

/-! ### Split and join (R234, R238, R239) -/

/-- R234, R295: an accepted split takes effect at a scan end of the control program; the analysis program starts cold, its logic outputs at
their initial values. -/
def State.takeSplit (s : State) : State :=
  if !s.flag POD_LSTAT_SPLIT_PEND then s
  else
    let s := (s.setFlag POD_LSTAT_SPLIT_PEND false).setFlag POD_LSTAT_SPLIT true
    let s := (s.setF (POD_STAT_STATE 2) 6).incWrap POD_LSTAT_SPLITS
    let s := ((s.setF POD_LHELD_HSCAN 0).setF POD_LHELD_BRK 0).setFlag POD_LSTAT_HELD false
    let s := (s.setProg 1 (startProg (s.prog 1) s.itemTy none)).setFlag POD_LSTAT_ANA_RUN true
    let s := { s with lgc := { s.lgc with heldSeen := false } }
    (s.scanOuts 1 (s.prog 1).out).raise 62 0 0

/-- R238 steps 1 to 3, R239: a join is taken at `start`, the start of the scan that ends now. -/
def State.takeJoin (s : State) (start : Option Nat) : State :=
  if !s.flag POD_LSTAT_JOIN_PEND then s
  else
    let p := s.prog 0
    let per := p.img.period * usU
    let absorbed := match start with
      | none => true
      | some t => !p.img.free && decide (s.now + 6 * usU ≤ nextPeriod t per s.now)
    let s := (s.setFlag POD_LSTAT_JOIN_PEND false).setFlag POD_LSTAT_ANA_RUN false
    let s := (s.setF (POD_STAT_STATE 2) 7).setRun 2 1
    let s := s.setProg 1 { s.prog 1 with scan := none }
    let s := { s with lgc := { s.lgc with joinFrom := some s.now, joinDone := false, joinSkip := !absorbed && !p.img.free } }
    if absorbed then s else s.overrun

/-- R238 steps 3 and 4: JOIN_COMPLETE: the join has taken `cycles` pod cycles. -/
def joinCompleteEff (cycles : Nat) (s : State) : State :=
  if s.lgc.joinFrom.isNone || s.lgc.joinDone then s
  else
    let c := cycles % 8192
    let s := s.setF POD_LJOIN_LAST c
    let s := if s.getF POD_LJOIN_MAX < c then s.setF POD_LJOIN_MAX c else s
    let s := (s.setTrp (fun x => { x with lo := s.lgcOut })).setFlag POD_LSTAT_HELD false
    let s := { s with lgc := { s.lgc with joinDone := true } }
    if s.getF LGC_MODE_MODE = 0 then s.joinEnd else s

/-! ### Exchange (R302 to R306) -/

/-- An instance of a program by identifier. -/
def instOf (cs : List Call) (n : Nat) : Option Call := cs.find? (fun c => c.inst = n)

/-- R302 row 4: a matched instance with another address or size. -/
def moved (cs cs' : List Call) (calls calls' : Store Call) (items : Nat → Nat → VT) : Bool :=
  cs'.any (fun c' => match instOf cs c'.inst with
    | some c => c.type = c'.type && (c.iofs != c'.iofs || (callBytes (callVt calls items c) c).length != (callBytes (callVt calls' items c') c').length)
    | none => false)

/-- R283: does a control program free-run: more than 2,048 instances? -/
def progFree (img : ProgImg) : Bool := 2048 < (instList (progCalls img)).length

/-- R283, R307: a control program with the period and the INIT_WAIT in force. -/
def State.progAs (s : State) (img : ProgImg) : ProgImg :=
  { img with free := progFree img, period := s.getF LGC_CFG_PERIOD, initWait := s.getF LGC_CFG_INIT_WAIT }

/-- R195, R302: the first status of the check of another slot's program that applies. -/
def State.exchStatus (s : State) (e : ExchLoad) : Status :=
  let calls' := progCalls e.prog
  let cs' := instCalls calls'
  let cs := instCalls (s.prog 0).calls
  let hasAna := e.ana.size != 0
  if !e.formatOk || (progCodes e.prog).isSome || (progCodes e.ana).isSome || hasAna != s.flag POD_LCFG_ANA_EN ||
      (hasAna && !(decide (125 ≤ e.ana.period && e.ana.period ≤ 10000) && decide (10 ≤ e.ana.initWait && e.ana.initWait ≤ 60000))) then
    .imageInvalid
  else if (progSizes e.prog s.itemTy 32768 16384 1048576 true).isSome || (progSizes e.ana s.itemTy 8192 2048 131072 false).isSome then
    .lenRange
  else if e.otherDiff || (progRefs e.prog s.progEnv 32768 1048576 none).isSome ||
      (progRefs e.ana s.progEnv 8192 131072 (some e.prog)).isSome then .loadConflict
  else if moved cs cs' (s.prog 0).calls calls' s.itemTy then .loadConflict
  else if 120 < e.retainKiB || 122880 < retBytes calls' s.itemTy ||
      (!progFree e.prog && s.getF LGC_CFG_PERIOD * 100 < e.prog.wcet) || e.ana.period * 100 < e.ana.wcet then .loadConflict
  else if (progBins e.prog ++ progBins e.ana).any (fun b => trigUse s.sys.ballMap b.2) then .resourceBusy
  else .ok

/-- R304: the program after the swap. -/
def swapProg (p : ProgSt) (e : ExchLoad) (items : Nat → Nat → VT) : ProgSt :=
  let calls' := progCalls e.prog
  let cs := instCalls p.calls
  let same (c' : Call) : Option Call := match instOf cs c'.inst with
    | some c => if c.type = c'.type then some c else none
    | none => none
  let kept := (instCalls calls').filter (fun c => (same c).isSome)
  let mem := kept.foldl (fun m c => copyBytes p.mem m (callBytes (callVt calls' items c) c)) e.prog.init
  let ints := kept.foldl (fun m c' =>
    let x := Store.get resetBlk p.ints c'.inst
    let rebound := (c'.type = 9 || c'.type = 10) &&
      (match same c' with | some c => (lget .none c.binds 0) != (lget .none c'.binds 0) | none => false)
    Store.set resetBlk m c'.inst (if rebound then { x with prime := true } else x)) (arInit (instCalls calls') e.prog.ints0)
  { p with img := e.prog, calls := calls', mem := mem, ints := ints
           out := mergeBits (boundOuts calls') p.out e.prog.outInit }

/-- R303 to R306, R408: a pending exchange swaps; `start`: the start of the scan that ends now, if one does. -/
def State.takeSwap (s : State) (start : Option Nat) : State :=
  match s.lgc.exch with
  | none => s
  | some e =>
    if s.getF LGC_XSTAT_XSTATE != 2 || s.podState 2 = 2 then s
    else
      let p := s.prog 0
      let plan := s.getF LGC_XWORK_PLAN
      let absorbed := match start with
        | none => true
        | some t => !p.img.free && decide (s.now + plan * 20 ≤ nextPeriod t (p.img.period * usU) s.now)
      let img := s.progAs e.prog
      let q := swapProg p { e with prog := img } s.itemTy
      let s := (s.setProg 0 q).setFlag LGC_CFG_FREE img.free
      let s := s.setProg 1 { s.prog 1 with img := { e.ana with free := false }, calls := progCalls e.ana }
      let s := { s with lgc := { s.lgc with exch := none, bank := some p.img.code, joinSkip := s.lgc.joinSkip || (!absorbed && !p.img.free)
                                            retBase := some s.retSnap
                                            selOpen := s.lgc.selOpen.filter (fun r => (s.bkrStatOf r.brk).isSome) } }
      let s := if absorbed then s else s.overrun
      let s := ((s.setF LGC_XSTAT_XSTATE 0).setF LGC_XSTAT_SLOT (1 - s.getF LGC_XSTAT_SLOT)).incWrap LGC_XSTAT_XCNT
      let slot := s.getF LGC_XSTAT_SLOT
      let s := s.bootUpd (fun b => { b with pref := slot, booted := slot })
      let s := (s.setF LGC_XSTAT_XCODE 0).setF LGC_XWORK_LAST (satAt 0xFFFF (Config.swapWork s.freeCtr))
      let s := s.bumpFree
      let s := s.raise 60 0 (s.getF LGC_XSTAT_XCNT)
      match s.lgc.exchReq with
      | some r => ({ s with lgc := { s.lgc with exchReq := none } }).complete 0x0508 r.1 0 r.2 0
      | none => s

/-- R289: entry to Stop: one output write by the stop actions. -/
def State.stopWrite (s : State) : State :=
  let p := s.prog 0
  let out := (upto 256).foldl (fun n o =>
    let b := match s.stopAct o with
      | 0 => bitN s.lgcOut o
      | 1 => false
      | 2 => true
      | _ => bitN p.img.outInit o
    if b then n + 2 ^ o else n) 0
  let s := s.setProg 0 { p with scan := none, startReq := 0, trig := 0, holdNext := false, out := out }
  let s := { s with lgc := { s.lgc with holdReq := false } }
  let s := (s.cancelSelects).alarmsOff
  let s := (s.giveOuts out).gsetStop
  let s := s.dropReqs
  let s := ((s.setLogicMode 0).setFlag LGC_MODE_STOP_PEND false).setFlag LGC_STAT_SCANNING false
  s.raise 58 0 0

/-- R238, R289, R303: entry to Stop; a join or an exchange that waits for a scan end is taken at once, and a join that is done is at
its end. -/
def State.enterStop (s : State) : State :=
  let s := s.stopWrite
  ((if s.lgc.joinDone then s.joinEnd else s).takeJoin none).takeSwap none

/-- R302: EXCHANGE_LOADED: the background load and check ends. -/
def exchangeLoadedEff (res : ExchLoad) (s : State) : State :=
  if s.getF LGC_XSTAT_XSTATE != 1 || !s.sys.refPresent then s
  else
    match s.exchStatus res with
    | .ok =>
      let res := { res with prog := progCanon res.prog, ana := progCanon res.ana }
      let s := ({ s with lgc := { s.lgc with exch := some res, bank := some res.prog.code } }).setF LGC_XSTAT_XSTATE 2
      let s := s.setF LGC_XWORK_PLAN res.plan
      if s.getF LGC_MODE_MODE = 0 then s.takeSwap none else s
    | st =>
      let s := ((s.setF LGC_XSTAT_XSTATE 0).setF LGC_XSTAT_XCODE (stCode st)).raise 61 0 (stCode st)
      match s.lgc.exchReq with
      | some r => ({ s with lgc := { s.lgc with exchReq := none } }).complete 0x0508 r.1 (stCode st) r.2 0
      | none => s

/-! ### The output write (R282, R285, R290) -/

/-- R282: what the control program's write gives to the other crossings. -/
def State.writeControl (s : State) (sc : Scan) : State :=
  let s := s.heldScan
  let s := sc.gset.foldl (fun s g => s.gsetPut g.1 g.2.1 g.2.2) s
  let s := (s.scanTime sc).scanLimit sc
  let s := (s.incWrap LGC_SCANCNT_SCANS).setFlag LGC_MODE_FIRST false
  let s := (s.setFlag LGC_STAT_SCANNING false).bkrFinish
  let p := s.prog 0
  let late := !p.img.free && !sc.held && decide (sc.start + p.img.period * usU < s.now)
  let s := if late then s.overrun else s
  let s := ((s.retain.takeSplit).takeJoin (some sc.start)).takeSwap (some sc.start)
  if s.flag LGC_MODE_STOP_PEND then s.enterStop else s

/-- R282: LOGIC_OUTPUT_WRITE: the tasks have ended and the scan's outputs leave in one write. -/
def logicOutputWriteEff (k : Nat) (s : State) : State :=
  let p := s.prog k
  match p.scan with
  | none => s
  | some sc =>
    if !s.progRuns k || s.holding k || sc.pc.isSome then s
    else
      let p := { p with scan := none, out := sc.out, trig := sc.trig, first := 0 }
      let s := s.setProg k { p with lastWrite := s.now, wrote := sc.img.ns }
      let s := s.scanOuts k sc.out
      let s := sc.evts.foldl (fun s e => s.raise e.1 e.2.1 e.2.2) s
      if k = 0 then s.writeControl sc else s

/-- R290, R293: the logic returns from Hold to Run: a scan halted mid-way continues, the next latch is the first after a
Hold. -/
def State.leaveHold (s : State) : State :=
  let f (p : ProgSt) : ProgSt := { p with holdNext := true, scan := p.scan.map (fun sc => { sc with held := true }) }
  ({ s with lgc := { s.lgc with progs := lmod s.lgc.progs 0 f } }).setLogicMode 1

/-- R288, R458: HOLD_ENTRY: before the next block call the program enters Hold; requests that await their latch are discarded. -/
def holdEntryEff (k : Nat) (s : State) : State :=
  if k = 0 && s.getF LGC_MODE_MODE = 1 && s.lgc.holdReq then
    (State.dropReqs { s with lgc := { s.lgc with holdReq := false } }).setLogicMode 2
  else s

/-! ### Breaker timers (R329) -/

/-- R329, R330: the scan in which BKR's timers run: the one in progress; in Stop none is, and the block's inputs are taken as they
stand (DESIGN CHOICE, log 131). -/
def State.bkrScan (s : State) : Option Scan :=
  match (s.prog 0).scan with
  | some sc => if s.progRuns 0 && !s.holding 0 then some sc else none
  | none =>
    if s.getF LGC_MODE_MODE = 0 && (s.podRuns 2 || s.podState 2 = 6 || s.podState 2 = 7) then
      some { img := s.latch [] [], tasks := [], pc := none, out := 0, gset := [], trig := 0, afterHold := false, held := false, start := s.now, evts := [] }
    else none

/-- R329, R330: the timers of the BKR block of breaker `brk` run, when the block stands in a state: in the scan in progress, whose
latched requests for the breaker come first; or in Stop, where its outputs and events leave at once. -/
def State.bkrTimer (s : State) (brk : Nat) (want : BkrX → Bool) : State :=
  let p := s.prog 0
  match s.bkrScan with
  | none => s
  | some sc =>
    match (instCalls p.calls).find? (fun c => c.type = 0x3F && callConst p.img c 0 = brk) with
    | none => s
    | some c =>
      let x := s.callCtx p sc c
      let b := bkrOf x
      if !want b || ((b.st = 1 || b.st = 2) && sc.img.reqs.any (fun r => r.brk = brk)) then s
      else
        let t := bkrTime (bkrClock x) (x.t 1) (x.t 2) (x.n 4) b
        let outs := bkrOuts t.1
        let i := { x.x with st := t.1.st, k := t.1.dir, a := t.1.tsel, b := t.1.top, e := bkrClock x, tl := some sc.img.tl }
        let s := s.setProg 0 { p with
          mem := writeOuts p.mem c x.vt outs
          ints := Store.set resetBlk p.ints c.inst i
          scan := p.scan.map (fun sc => { sc with out := takeLouts sc.out c 4 outs }) }
        if p.scan.isSome then (if t.2 then s.scanEvt 0 68 brk (bkrStat t.1) else s)
        else (if t.2 then s.raise 68 brk (bkrStat t.1) else s).bkrSettle

/-- R329: BKR_PULSE_END: PLS has elapsed since the operate. -/
def bkrPulseEndEff (brk : Nat) (s : State) : State := s.bkrTimer brk (fun b => b.st = 3)

/-- R329: BKR_SUPERVISION_TIMEOUT: TSUP has elapsed since the operate. -/
def bkrSupervisionTimeoutEff (brk : Nat) (s : State) : State := s.bkrTimer brk (fun b => b.st = 4)

/-- R329: BKR_SELECT_EXPIRY: a select is older than 30 s. -/
def bkrSelectExpiryEff (brk : Nat) (s : State) : State := s.bkrTimer brk (fun b => b.st = 1 || b.st = 2)

end Sys2Proof.Machine
end

