-- ==== Sys2Proof/Machine/PodMem.lean ====
section
/-!
DEFINITION. Pod memory, commit boundaries and debug (06 R205, R206, R210, R214 to R218, R222, R227 to R232, R234, R235): what the
words of a pod's memory are, what a voted write and the debugger change in them, and debug through the TAP.
-/
namespace Sys2Proof.Machine

/-! ### Pod memory (R206, R210) -/

/-- R206, R210: the word a pod's memory holds where nothing has been written since its image was loaded: ROM, and what the image
load wrote into SRAM; free values. -/
def podBase (img p a : Nat) : Nat := if a < podRom p then Config.podRomWord p a else Config.podMem img p a

/-- Where a word of Pod L's memory stands (R210): a code word of a program, a word of the code bank not in use, a word of a
program's instance memory. -/
inductive LgcPlace where
  | code (k o : Nat)
  | spare (o : Nat)
  | inst (k o : Nat)
  deriving DecidableEq, Repr

/-- R210, R302: the place of a word of Pod L. Code banks come first, then instance memory, then the analysis area, code before
data; a load takes the first bank and each exchange the other (DESIGN CHOICE, log 117). -/
def State.lgcPlace (s : State) (a : Nat) : LgcPlace :=
  if a < 65536 then (if a / 32768 = s.getF LGC_XSTAT_XCNT % 2 then .code 0 (a % 32768) else .spare (a % 32768))
  else if a < anaBase then .inst 0 (a - 65536)
  else if a < anaBase + 8192 then .code 1 (a - anaBase)
  else .inst 1 (a - anaBase - 8192)

/-- R320: the instance whose data take byte `a` of a program's instance memory behind its outputs, and the byte's offset. -/
def State.innerAt (s : State) (p : ProgSt) (a : Nat) : Option (Call × Nat) :=
  (instCalls p.calls).findSome? (fun c =>
    if c.iofs * 8 ≤ a && a < c.iofs * 8 + blkBytes c.type (s.typeOf p c) && !(callBytes (s.typeOf p c) c).contains a
    then some (c, a - c.iofs * 8) else none)

/-- R320: a byte of an instance's internal state, whose layout the spec does not give: a free value of that state. -/
def blkByte (ty o : Nat) (x : BlkInt) : Nat := Config.instByte ty o x.m1 x.m2 x.e x.st x.k x.a x.b % 256

/-- R320: an instance's internal state after a byte of it has been written: free values, unless the byte stands as it was. -/
def blkPoke (ty o v : Nat) (x : BlkInt) : BlkInt :=
  if blkByte ty o x = v then x
  else
    let f (k : Nat) (old : Int) : Int := Config.instPoke k ty o v old
    { x with m1 := f 0 (b2n x.m1) % 2 = 1, m2 := f 1 (b2n x.m2) % 2 = 1, e := f 2 x.e, st := (f 3 x.st).toNat
             k := (f 4 x.k).toNat, a := f 5 x.a, b := f 6 x.b }

/-- A byte of a program's instance memory. -/
def State.instRd (s : State) (p : ProgSt) (a : Nat) : Nat :=
  match s.innerAt p a with
  | some e => blkByte e.1.type e.2 (Store.get resetBlk p.ints e.1.inst)
  | none => Store.get 0 p.mem a

/-- Write a byte of a program's instance memory. -/
def State.instWr (s : State) (p : ProgSt) (a v : Nat) : ProgSt :=
  match s.innerAt p a with
  | some e => { p with ints := Store.set resetBlk p.ints e.1.inst (blkPoke e.1.type e.2 v (Store.get resetBlk p.ints e.1.inst)) }
  | none => { p with mem := Store.set 0 p.mem a v }

/-- A program with a code word written: its calls are what the code now spells. -/
def codeWr (p : ProgSt) (o d : Nat) : ProgSt :=
  let img := { p.img with code := Store.set 0 p.img.code o d, size := Nat.max p.img.size (o + 1) }
  { p with img := img, calls := progCalls img }

/-- The word of a pod's SRAM that the model keeps apart: as last written, or as loaded. -/
def State.sramAt (s : State) (p a : Nat) : Nat := Store.get (podBase (s.podOf p).img p a) (s.podOf p).mem a

/-- Write it. -/
def State.sramSet (s : State) (p a d : Nat) : State :=
  s.setPod p { s.podOf p with mem := Store.set (podBase (s.podOf p).img p a) (s.podOf p).mem a (d % 18446744073709551616) }

/-- R210: the word at an address of Pod L's memory. -/
def State.lgcWordAt (s : State) (a : Nat) : Nat :=
  match s.lgcPlace a with
  | .code k o => Store.get 0 (s.prog k).img.code o
  | .spare o => match s.lgc.bank with
    | some b => Store.get 0 b o
    | none => s.sramAt 2 a
  | .inst k o => ofLe ((upto 8).map (fun i => s.instRd (s.prog k) (o * 8 + i)))

/-- R206, R210: write a word of Pod L's memory. -/
def State.lgcWrite (s : State) (a d : Nat) : State :=
  match s.lgcPlace a with
  | .code k o => s.setProg k (codeWr (s.prog k) o (d % 18446744073709551616))
  | .spare o => match s.lgc.bank with
    | some b => { s with lgc := { s.lgc with bank := some (Store.set 0 b o (d % 18446744073709551616)) } }
    | none => s.sramSet 2 a d
  | .inst k o => s.setProg k (((leBytes 8 d).zip (upto 8)).foldl (fun p e => s.instWr p (o * 8 + e.2) e.1) (s.prog k))

/-- The word at a pod memory address. -/
def State.podWordAt (s : State) (p a : Nat) : Nat := if p = 2 then s.lgcWordAt a else s.sramAt p a

/-- Write a pod memory word. -/
def State.podWrite (s : State) (p a d : Nat) : State := if p = 2 then s.lgcWrite a d else s.sramSet p a d

/-- R205: merge data into a word under byte enables. -/
def mergeBytes (old new mask : Nat) : Nat :=
  ofLe ((upto 8).map (fun k => if bitN mask k then new / 256 ^ k % 256 else old / 256 ^ k % 256))

/-! ### Commit boundaries (R214 to R218, R222, R230, R234, R235) -/

/-- R210: the words a pod's voted writes may change: its SRAM, but for Pod L's analysis area, which only the pair writes. -/
def sramEnd (p : Nat) : Nat := if p < 2 then podWords p else anaBase

/-- R205, R206: a committed SRAM write below word `hi` lands in pod memory; other ports leave the pod. -/
def State.commitWrite (s : State) (p hi : Nat) (k : Packet) : State :=
  let a := k.addr / 8
  if k.port = 0 && podRom p ≤ a && a < hi then s.podWrite p a (mergeBytes (s.podWordAt p a) k.data k.mask) else s

/-- R234: the pair L1 and L2 differs: the analysis program stops. -/
def State.anaFault (s : State) : State :=
  if s.flag POD_LSTAT_ANA_RUN then
    ((s.setFlag POD_LSTAT_ANA_RUN false).setFlag POD_LSTAT_ANA_FAULT true).raise 65 0 0
  else s

/-- R235: while split, L0 writes only the control program's memory and the pair only the analysis area. -/
def State.splitWrite (s : State) (k : Packet) (ana : Bool) : State :=
  if k.port = 0 && decide (anaBase ≤ k.addr / 8) != ana then s.raise 112 2 k.addr else s.commitWrite 2 (podWords 2) k

/-- R230, R232: halt a pod at c0's commit boundary; a halt of Pod L is logic mode Hold, which discards requests that await their latch (R458). -/
def State.haltPod (s : State) (p : Nat) : State :=
  let s := if p < 2 then s.slowTo p (s.slowUpTo p) else s
  let s := ((s.setF (POD_STAT_STATE p) 5).setF (POD_STAT_RUN p) 0).incSat DBG_CNT_HALTS
  let s := s.setPod p { s.podOf p with haltReq := false, haltAt := s.now }
  if p = 2 && s.getF LGC_MODE_MODE = 1 then s.dropReqs.setLogicMode 2 else s

/-- R230: a halt asked for is taken at a commit boundary after which the pod is TRIPLE. -/
def State.takeHalt (s : State) (p : Nat) : State :=
  if (s.podOf p).haltReq && s.podState p = 1 then s.haltPod p else s

/-- R218: an odd core reaches its next commit boundary and stops; its packet there does not count. -/
def State.stopOdd (s : State) (p : Nat) : State :=
  match (s.podOf p).stopping with
  | some x => (s.setPod p { s.podOf p with stopping := none }).setRun p (7 - 2 ^ x)
  | none => s

/-- R214 to R218, R222, R230, R234, R235: COMMIT_BOUNDARY: the packets of c0, c1, c2 at a commit boundary; `over` holds verdicts a
comparator returns in place of those its packets give. -/
def commitBoundaryEff (p : Nat) (packets : List Packet) (ovr : List (Option Verdict)) (s : State) : State :=
  let z : Packet := ⟨15, 0, 0, 0, 0⟩
  let a := lget z packets 0
  let b := lget z packets 1
  let c := lget z packets 2
  let st := s.podState p
  let s := if st = 2 || st = 3 then s.stopOdd p else s
  if st = 1 then
    let v := verdict a b c
    let vs := (upto 3).map (fun k => (lget none ovr k).getD v)
    let s := s.commitWrite p (sramEnd p) (majPacket a b c)
    (match ruling vs with
    | .nothing => s
    | .odd x => (s.incSat (POD_VCNT_VERD p)).oddCore p x
    | .fail => s.podFail p 2).takeHalt p
  else if st = 2 || st = 3 then
    let run := (upto 3).filter (fun k => bitN (s.getF (POD_STAT_RUN p)) k)
    let x := lget z packets (lget 0 run 0)
    let y := lget z packets (lget 1 run 1)
    let odd := (upto 3).any (fun k => match lget none ovr k with | some v => v != .agree | none => false)
    if x != y || odd then s.podFail p 1 else s.commitWrite p (sramEnd p) x
  else if st = 6 && p = 2 then
    let s := s.splitWrite a false
    if b != c then s.anaFault else s.splitWrite b true
  else if st = 7 && p = 2 then s.splitWrite a false
  else s

/-! ### Debug (R227 to R232) -/

/-- R21, R228: is debug of pod code `sel` (1 P0, 2 P1, 3 L) open: in TEST with DEBUG_UNLOCK in force, or, for Pod L in RUN and TEST, by
LDBG_EN? -/
def State.dbgOpen (s : State) (sel : Nat) : Bool :=
  if sel = 3 then s.protecting && s.flag POD_LCFG_LDBG_EN else s.mode == .test && s.flag DBG_STAT_UNLOCK

/-- R228: the pod selected on the TAP: 0 none, 1 P0, 2 P1, 3 L; the selection holds only while debug of that pod is open. -/
def State.dbgSel (s : State) : Nat :=
  let sel := s.getF DBG_STAT_TARGET
  if s.dbgOpen sel then sel else 0

/-- R227, R242: is the selected pod halted? -/
def State.dbgHalted (s : State) : Bool := s.dbgSel != 0 && s.podState (s.dbgSel - 1) = 5

/-- R227: the 16-bit word of DBG_STATUS. -/
def State.dbgStatus (s : State) : Nat :=
  b2n s.pod.dbg.done + 2 * b2n s.dbgHalted + 4 * (s.pod.dbg.status % 32) + 128 * (s.pod.dbg.log.length % 64)

/-- R227: put an instruction into the TAP's instruction register. -/
def State.tapIr (s : State) (t : TapInst) : State := { s with sys := { s.sys with tap := t } }

/-- R227: a DBG_CMD, or a POD_SEL, ends with a status; DBG_STATUS and DBG_DATA are then read out over the TAP. DONE is set as the
engine takes an operation (DESIGN CHOICE, log 118). -/
def State.dbgDone (s : State) (st : Status) : State :=
  let s := { s with pod := { s.pod with dbg := { s.pod.dbg with done := true, status := stCode st } } }
  let s := (s.setF DBG_STAT_LOG s.pod.dbg.log.length).tapIr .dbgStatus
  { s with sys := { s.sys with readBuf := [s.dbgStatus, s.pod.dbg.data] } }

/-- R228: POD_SEL. -/
def podSelEff (sel : Nat) (s : State) : State :=
  if sel = 0 || s.dbgOpen sel then (s.setF DBG_STAT_TARGET sel).dbgDone .ok else (s.setF DBG_STAT_TARGET 0).dbgDone .stateDenied

/-- R227, R229: write data stand in DBG_DATA before the DBG_CMD. -/
def State.dbgPut (s : State) (d : Nat) : State :=
  { s with pod := { s.pod with dbg := { s.pod.dbg with data := d % 18446744073709551616 } } }

/-- R229: an operation other than NOP and READ_MEM on the selected pod: why it is refused, if it is. -/
def State.dbgRefused (s : State) (needHalt : Bool) : Option Status :=
  let sel := s.dbgSel
  let p := sel - 1
  let st := s.podState p
  if sel = 0 then some .stateDenied
  else if st = 2 then some .busyRecovery
  else if bitN (s.getF (POD_STAT_RETIRED p)) 0 || st = 3 || st = 4 || st = 0 || st = 6 || st = 7 then some .stateDenied
  else if needHalt then (if st = 5 then none else some .stateDenied)
  else if st = 1 then none
  else some .stateDenied

/-- R230: c0 is to halt at its next commit boundary. -/
def State.askHalt (s : State) (p : Nat) : State := s.setPod p { s.podOf p with haltReq := true }

/-- R231: the replay log is applied to c1 and c2, and c0's registers run on. -/
def State.replay (s : State) (p : Nat) : State :=
  let s := { s with pod := { s.pod with dbg := { s.pod.dbg with log := [] } } }
  s.setPod p { s.podOf p with cregs := [], epoch := (s.podOf p).epoch + 1 }

/-- R229: NOP. -/
def nopEff (s : State) : State := if s.dbgSel = 0 then s.dbgDone .stateDenied else s.dbgDone .ok

/-- R229, R230: HALT: taken at the next commit boundary. -/
def haltEff (s : State) : State :=
  match s.dbgRefused false with
  | some st => s.dbgDone st
  | none => (s.askHalt (s.dbgSel - 1)).dbgDone .ok

/-- R232: a protection pod goes on from its halt: what is left of its slow list ends later by the time it stood. -/
def State.slowGoOn (s : State) (p : Nat) : State :=
  let d := s.now - (s.podOf p).haltAt
  let x := s.slowOf p
  if p < 2 then s.setSlow p { x with endAt := x.endAt.map (· + d), left := x.left.map (fun e => (e.1, e.2 + d)) } else s

/-- R229, R231: RESUME. -/
def resumeEff (s : State) : State :=
  match s.dbgRefused true with
  | some st => s.dbgDone st
  | none =>
    let p := s.dbgSel - 1
    let s := (((s.slowGoOn p).replay p).setF (POD_STAT_STATE p) 1).setRun p 7
    let s := if p = 2 && s.getF LGC_MODE_MODE = 2 then s.leaveHold else s
    s.dbgDone .ok

/-- R229, R230: STEP: the pod runs, and halts at its next commit boundary; Pod L stays in logic mode Hold (DESIGN CHOICE, log 118). -/
def stepEff (s : State) : State :=
  match s.dbgRefused true with
  | some st => s.dbgDone st
  | none =>
    let p := s.dbgSel - 1
    (((((s.slowGoOn p).replay p).setF (POD_STAT_STATE p) 1).setRun p 7).askHalt p).dbgDone .ok

/-- R229: READ_REG. -/
def readRegEff (a : Nat) (s : State) : State :=
  match s.dbgRefused true with
  | some st => s.dbgDone st
  | none =>
    let p := s.dbgSel - 1
    let x := s.podOf p
    let v := Store.get (Config.coreReg p a x.epoch) x.cregs a
    (s.dbgPut v).dbgDone .ok

/-- R231: enter an operation in the replay log, when it has room. -/
def State.logged (s : State) (e : LogEntry) (f : State → State) : State :=
  match s.dbgRefused true with
  | some st => s.dbgDone st
  | none =>
    if 32 ≤ s.pod.dbg.log.length then s.dbgDone .busyRecovery
    else (f { s with pod := { s.pod with dbg := { s.pod.dbg with log := s.pod.dbg.log ++ [e] } } }).dbgDone .ok

/-- R229, R231: WRITE_REG. -/
def writeRegEff (a d : Nat) (s : State) : State :=
  let s := s.dbgPut d
  let p := s.dbgSel - 1
  s.logged (.reg a d) (fun s => (s.setPod p { s.podOf p with cregs := Store.put d (s.podOf p).cregs a }).incSat DBG_CNT_WRITES)

/-- R229: READ_MEM. -/
def readMemEff (a : Nat) (s : State) : State :=
  let p := s.dbgSel - 1
  if s.dbgSel = 0 then s.dbgDone .stateDenied
  else if podWords p ≤ a then s.dbgDone .valueRange
  else (s.dbgPut (s.podWordAt p a)).dbgDone .ok

/-- R229, R231: WRITE_MEM. -/
def writeMemEff (a d : Nat) (s : State) : State :=
  let s := s.dbgPut d
  let p := s.dbgSel - 1
  match s.dbgRefused true with
  | some st => s.dbgDone st
  | none =>
    if a < podRom p || podWords p ≤ a then s.dbgDone .valueRange
    else ((s.podWrite p a d).incSat DBG_CNT_WRITES).dbgDone .ok

/-- Replace a breakpoint of a pod. -/
def State.setBpAt (s : State) (p i : Nat) (b : Option Nat) : State :=
  s.setPod p { s.podOf p with bps := lset (s.podOf p).bps i b }

/-- R229, R231: SET_BP. -/
def setBpEff (i d : Nat) (s : State) : State := (s.dbgPut d).logged (.setBp i d) (fun s => s.setBpAt (s.dbgSel - 1) i (some d))

/-- R229, R231: CLR_BP. -/
def clrBpEff (i : Nat) (s : State) : State := s.logged (.clrBp i) (fun s => s.setBpAt (s.dbgSel - 1) i none)

/-- R230: BREAKPOINT_HIT: c0 of a pod reaches breakpoint `i`: it halts at its next commit boundary, while debug of the pod is open
(R21, R228; DEDUCED, log 128). -/
def breakpointHitEff (p i : Nat) (s : State) : State :=
  if s.podState p = 1 && s.dbgOpen (p + 1) && (lget none (s.podOf p).bps i).isSome then s.askHalt p else s

/-- R228: DEBUG_LOCK: the selection of P0 or P1 and a halt that either still awaits end (DESIGN CHOICE, log 118). -/
def State.debugLock (s : State) : State :=
  let s := s.setFlag DBG_STAT_UNLOCK false
  let s := if s.getF DBG_STAT_TARGET = 3 then s else s.setF DBG_STAT_TARGET 0
  (upto 2).foldl (fun s p => s.setPod p { s.podOf p with haltReq := false }) s

/-- R229: a DBG_CMD with OP 0xA to 0xF. -/
def dbgUndefinedOpEff (op : Nat) (s : State) : State := if 10 ≤ op && op < 16 then s.dbgDone .unknownOpcode else s

end Sys2Proof.Machine
end

