-- ==== Sys2Proof/Machine/Crc.lean ====
section
/-!
DEFINITION. CRC-32 of IEEE 802.3 (R265, R401, R405) and the CRC-16 of Ozaux frames and event entries (R384, R466).
-/
namespace Sys2Proof.Machine

/-- One bit of the reflected CRC-32 register. -/
def crcBit (r : Nat) (b : Bool) : Nat :=
  if (r % 2 == 1) != b then Nat.xor (r / 2) 0xEDB88320 else r / 2

/-- CRC-32 over bits in the order they are sent. -/
def crcBits (bs : List Bool) : Nat := Nat.xor (bs.foldl crcBit 0xFFFFFFFF) 0xFFFFFFFF

/-- The bits of a byte, least significant first. -/
def byteBits (b : Nat) : List Bool := (upto 8).map (fun k => bitN b k)

/-- CRC-32 over bytes. -/
def crc32 (bs : List Nat) : Nat :=
  Nat.xor (bs.foldl (fun r b => (byteBits b).foldl crcBit r) 0xFFFFFFFF) 0xFFFFFFFF

/-- CRC-16 of R384 and R466: polynomial 0x1021, initial 0xFFFF, most significant bit first (PRESUMED, log 12). -/
def crc16 (bs : List Nat) : Nat :=
  bs.foldl (fun r b => (upto 8).foldl (fun r _ => if 32768 ≤ r then Nat.xor (2 * r % 65536) 0x1021 else 2 * r) (Nat.xor r (b * 256))) 0xFFFF

end Sys2Proof.Machine
end

