-- ==== Sys2Proof/Machine/Link.lean ====
section
/-!
DEFINITION. Sending on an Ozaux link (12 R384 to R387, R390): frames, retried types, aborts; originating a trigger.
-/
namespace Sys2Proof.Machine

/-- A link of the state. -/
def State.link (s : State) (l : Nat) : OzLink := lget resetLink s.oz.links l

/-- Replace it. -/
def State.setLink (s : State) (l : Nat) (x : OzLink) : State := { s with oz := { s.oz with links := lset s.oz.links l x } }

/-- R10, R383: is a link UP or READY, with the reference present? -/
def State.linkUp (s : State) (l : Nat) : Bool := s.sys.refPresent && decide (2 ≤ s.getF (OZX_LSTAT_STATE l))

/-- R383: is a link READY? -/
def State.linkReady (s : State) (l : Nat) : Bool := s.getF (OZX_LSTAT_STATE l) = 3

/-- R404: is a link enabled? -/
def State.linkEn (s : State) (l : Nat) : Bool := bitN (s.getF OZX_CFG_LINK_EN) l

/-- R390: is a link of the trigger domain? -/
def State.linkDom (s : State) (l : Nat) : Bool := s.flag OZX_CFG_DOM_EN && bitN (s.getF OZX_CFG_LINK_DOM) l

/-- R385: is a message of a retried type? -/
def ozRetried (m : OzMsg) : Bool :=
  match m with
  | .trig .. | .heartbeat .. | .pubseq .. | .image .. => true
  | _ => false

/-- R387: does a message abort another in progress? -/
def ozUrgent (m : OzMsg) : Bool :=
  match m with
  | .trig .. | .heartbeat .. => true
  | _ => false

/-- R384: characters of a frame. -/
def ozChars (m : OzMsg) : Nat :=
  match m with
  | .dlyReq .. | .dlyResp .. | .ack .. | .nak .. => 8
  | _ => 13

/-- One character, 25 ns. -/
def charU : Nat := 400

/-- R384, R385: TYPE and payload of a message. -/
def ozWord (m : OzMsg) : Nat × Nat :=
  match m with
  | .trig id hops orig age ns sec => (1, id + 16 * hops + 128 * orig + 1024 * age + 4194304 * ns + 2 ^ 52 * sec)
  | .heartbeat tick podOk test holds role =>
    (2, tick + 2 ^ 32 * podOk + 2 ^ 35 * b2n test + 2 ^ 36 * b2n holds + 2 ^ 37 * role)
  | .state digest tau => (3, digest + 2 ^ 32 * tau)
  | .time ns sec qual => (4, ns + 2 ^ 30 * sec + 2 ^ 46 * qual)
  | .pubseq cb st => (5, cb + 32 * st)
  | .image digest => (6, digest)
  | .dlyReq word => (8, word)
  | .dlyResp turn => (9, turn)
  | .ack lseq => (10, lseq)
  | .nak lseq => (11, lseq)

/-- R384: the bytes of a frame after its start comma; the CRC's low byte first (PRESUMED, log 124). -/
def ozBytes (f : OzFrame) : List Nat :=
  let w := ozWord f.msg
  let bs := if ozChars f.msg = 8 then w.1 :: leBytes 4 w.2 else w.1 :: f.lseq :: leBytes 8 w.2
  bs ++ leBytes 2 (crc16 bs)

/-- R384: how long a frame takes. -/
def ozLen (f : OzFrame) : Nat := ozChars f.msg * charU

/-- R389: a frame whose start comma leaves later than it was to: a DLY_RESP reports that much more turnaround (0.25 ns units). -/
def ozMoved (f : OzFrame) (d : Nat) : OzFrame :=
  match f.msg with
  | .dlyResp n => { f with msg := .dlyResp (n + d / 4) }
  | _ => f

/-- Frames with their former starts, one after the other from an instant on. -/
def ozSched (t : Nat) : List (OzFrame × Nat) → List (OzFrame × Nat)
  | [] => []
  | e :: es => (ozMoved e.1 (t - e.2), t) :: ozSched (t + ozLen e.1) es

/-- When the frames of a link are through. -/
def ozFree (now : Nat) (l : List (OzFrame × Nat)) : Nat := l.foldl (fun n e => Nat.max n (e.2 + ozLen e.1)) now

/-- R387: the frames of a link with a new one: after those before it, or, for an urgent one, in place of one of another type in progress,
which follows it again, and before all that wait. -/
def ozLine (now : Nat) (f : OzFrame) (l : List (OzFrame × Nat)) : List (OzFrame × Nat) :=
  let l := l.filter (fun e => decide (now < e.2 + ozLen e.1))
  if ozUrgent f.msg then
    match l with
    | [] => [(f, now)]
    | e :: _ =>
      let head := l.takeWhile (fun e => ozUrgent e.1.msg)
      let t := if ozUrgent e.1.msg then ozFree now head else now + charU
      head ++ ozSched t ((f, t) :: l.dropWhile (fun e => ozUrgent e.1.msg))
  else l ++ [(f, ozFree now l)]

/-- The start comma of a frame of a link. -/
def ozStart (f : OzFrame) (l : List (OzFrame × Nat)) : Option Nat := (l.find? (fun e => e.1 = f)).map (·.2)

/-- R386, R387, R389: put a frame on a link; the frames that wait for an ACK and an open DLY_REQ follow what it moves. -/
def ozPut (now : Nat) (f : OzFrame) (x : OzLink) : OzLink :=
  let l := ozLine now f x.line
  { x with
    sent := some (f, (ozStart f l).getD now)
    wire := ozBytes f
    line := l
    waits := x.waits.map (fun w => match ozStart w.frame l with
      | some t => { w with ends := t + ozLen w.frame }
      | none => w)
    reqAt := match l.find? (fun e => ozWord e.1.msg = (8, 0)) with
      | some e => some e.2
      | none => x.reqAt }

/-- R385: a TIME message whose start comma has not left carries the sampling time of the instant it leaves at. -/
def State.ozStamp (s : State) (e : OzFrame × Nat) : OzFrame × Nat :=
  match e.1.msg with
  | .time .. =>
    if s.now ≤ e.2 then
      let tm := splitTime (s.sampAt e.2)
      ({ e.1 with msg := .time tm.2.1 (tm.1 % 65536) s.sampQual }, e.2)
    else e
  | _ => e

/-- Put a frame on a link of the engine; TIME messages it moves are stamped anew. -/
def State.ozPutOn (s : State) (l : Nat) (f : OzFrame) (x : OzLink) : State :=
  let x := ozPut s.now f x
  s.setLink l { x with line := x.line.map s.ozStamp }

/-- R384 to R386: send a new message on a link that carries messages. -/
def State.ozSend (s : State) (l : Nat) (m : OzMsg) : State :=
  if !s.linkUp l then s
  else
    let x := s.link l
    match m with
    | .dlyReq _ | .dlyResp _ | .ack _ | .nak _ => s.ozPutOn l ⟨0, m⟩ x
    | _ =>
      let f : OzFrame := ⟨x.next, m⟩
      let x := { x with next := (x.next + 1) % 256 }
      s.ozPutOn l f (if ozRetried m then { x with waits := x.waits ++ [⟨f, 0, 0⟩] } else x)

/-- R386: send a frame again with its LSEQ. -/
def State.ozResend (s : State) (l : Nat) (f : OzFrame) : State := s.ozPutOn l f (s.link l)

/-- R387, R391: when the start comma of an urgent frame put on a link now leaves. -/
def State.ozUrgentAt (s : State) (l : Nat) (m : OzMsg) : Nat :=
  let f : OzFrame := ⟨(s.link l).next, m⟩
  (ozStart f (ozLine s.now f (s.link l).line)).getD s.now

/-- The instant the start comma of the frame last put on a link leaves. -/
def State.ozSentAt (s : State) (l : Nat) : Nat :=
  match (s.link l).sent with
  | some e => e.2
  | none => s.now

/-- R390, R392, R395: a trigger accepted with TX_EN: a TRIG message on every READY domain link, and delivery here 4.000 µs after
its send instant: with two links, the earlier start comma (DESIGN CHOICE, log 127). -/
def State.trigSend (s : State) (id : Nat) (lab : Int) : State :=
  let t := splitTime lab
  let ls := (upto 2).filter (fun l => s.linkDom l && s.linkReady l)
  if !s.flag OZX_CFG_DOM_EN || (s.flag OZX_CFG_PAIR && !s.flag OZX_PSTAT_HOLDS) then s
  else
    let s := ls.foldl (fun s l => s.ozSend l (.trig id 7 (s.getF OZX_CFG_ENGID) 0 t.2.1 (t.1 % 256))) s
    let s := s.incWrap OZX_TCNT_TX
    let at_ := match ls with
      | [] => s.now
      | l :: ks => ks.foldl (fun t k => Nat.min t (s.ozSentAt k)) (s.ozSentAt l)
    { s with oz := { s.oz with trigs := s.oz.trigs ++ [⟨id, at_ + 64000, t.2.1, t.1 % 256, false⟩] } }

/-- R395: does this engine hold the lead duties? -/
def State.leads (s : State) : Bool := s.flag OZX_PSTAT_HOLDS

end Sys2Proof.Machine
end

