-- ==== Sys2Proof/Machine/Goose.lean ====
section
/-!
DEFINITION. GOOSE and sampled values (11 R366 to R381): publication, subscription, virtual channels.
-/
namespace Sys2Proof.Machine

/-! ### GOOSE publication (R367 to R370) -/

/-- A published control block's table. -/
def State.gcb (s : State) (n : Nat) : GcbCfg := lget noGcb s.gsv.gcbs n

/-- A published control block beside its registers. -/
def State.gcbInt (s : State) (n : Nat) : GcbInt := lget resetGcb s.gsv.gcbInts n

/-- Replace it. -/
def State.setGcb (s : State) (n : Nat) (g : GcbInt) : State := { s with gsv := { s.gsv with gcbInts := lset s.gsv.gcbInts n g } }

/-- R369: stNum and sqNum wrap from 0xFFFF_FFFF to 1. -/
def incGoose (n : Nat) : Nat := if 0xFFFFFFFF ≤ n then 1 else n + 1

/-- R375: is the stream of a virtual channel received? A physical channel has none. -/
def State.chanRx (s : State) (c : Nat) : Bool := c < 64 || s.flag (GSV_SVSSTAT_RX (s.getF (GSV_VCH_STREAM (c - 64))))

/-- R122: the channels a bay uses. -/
def State.bayChans (s : State) (b : Nat) : List Nat :=
  let i := s.getF (PRT_BAY0_IPH b)
  let v := s.getF (PRT_BAY0_VPH b)
  [i, i + 1, i + 2] ++ (if s.flag (PRT_BAY0_IN_EN b) then [s.getF (PRT_BAY0_IN b)] else []) ++
    (if s.flag (PRT_BAY0_V_EN b) then [v, v + 1, v + 2] else []) ++
    (if s.flag (PRT_BAY0_VN_EN b) then [s.getF (PRT_BAY0_VN b)] else [])

/-- R368: a quality entry: 0 good, 1 invalid when the pod of the entry before it is in FAIL, or (DEDUCED, log 123) when a stream its bay
takes channels from is not received. -/
def State.qualEntry (s : State) (e : Option DsSrc) : Nat :=
  match e with
  | some (.elem i _) => b2n (s.podState (s.bayPod (s.elBay i)) = 4 || !(s.bayChans (s.elBay i)).all s.chanRx)
  | some (.zone z _) => b2n (s.podState 1 = 4 || (upto 12).any (fun b =>
      bitN (Nat.lor (s.getF (PRT_ZMAP_STAT z)) (s.getF (PRT_ZMAP_DYNB z))) b && !(s.bayChans b).all s.chanRx))
  | some (.gset _) => b2n (s.podState 2 = 4)
  | _ => 0

/-- R368: the value of a dataset entry now; `k` its position, `prev` the entry before it. -/
def State.dsValue (s : State) (g : GcbInt) (k : Nat) (prev : Option DsSrc) (e : DsSrc) : Nat :=
  match e with
  | .elem i sig => b2n (bitN (lget 0 s.lgc.elemRel i) (if sig = 2 then 18 else sig))
  | .zone z op => let w := lget 0 s.lgc.zoneRel z; b2n (if op then w % 8 != 0 else w / 8 % 8 != 0)
  | .bin i => b2n (bitN s.trp.binF i)
  | .gset _ => lget 0 g.gset k
  | .quality => s.qualEntry prev
  | .const v => v

/-- The values of a control block's dataset now. -/
def State.dsValues (s : State) (n : Nat) : List Nat :=
  let es := (s.gcb n).entries
  let g := s.gcbInt n
  es.mapIdx (fun k e => s.dsValue g k (if k = 0 then none else (es.drop (k - 1)).head?) e)

/-- R21, R367: does the engine send GOOSE and SV now? -/
def State.publishes (s : State) : Bool := s.protecting && s.leads

/-- Is a frame one of control block `n`? -/
def isGoose (n : Nat) (f : TxFrame) : Bool :=
  match f with
  | .goose cb .. => cb = n
  | _ => false

/-- R369: does a frame of control block `n` wait in the egress queue of port `p`? -/
def State.gooseWaits (s : State) (n p : Nat) : Bool := (s.portNow p (s.port p)).queue.any (fun e => isGoose n e.f)

/-- R369: the frames of control block `n` that wait in the egress queues of some ports take the content of `f`. -/
def State.gooseReplace (s : State) (n : Nat) (ports : List Nat) (f : TxFrame) : State :=
  ports.foldl (fun s p => s.setPort p (let x := s.portNow p (s.port p)
    { x with queue := x.queue.map (fun e => if isGoose n e.f then { e with f := f } else e) })) s

/-- R369, R370: send a frame of control block `n`: stNum, sqNum, values and t as they stand; timeAllowedtoLive twice the interval to
the next frame. Where a frame of it still waits in an egress queue, that frame takes the content. -/
def State.gooseSend (s : State) (n : Nat) : State :=
  let g := s.gcbInt n
  let f := TxFrame.goose n (s.gcb n).hdr (s.getF (GSV_PSTNUM_STNUM n)) (s.getF (GSV_PSQNUM_SQNUM n)) (2 * g.gap) g.t (s.mode == .test) g.vals
  let ps := s.ownPorts [0, 1, 2]
  let waits := ps.filter (s.gooseWaits n)
  let s := (s.gooseReplace n waits f).txOwn (ps.filter (fun p => !waits.contains p)) f
  let s := if waits.isEmpty then s.incWrap (GSV_PCNT_FRAMES n) else s
  if s.flag OZX_CFG_PAIR then s.ozSend 0 (.pubseq n (s.getF (GSV_PSTNUM_STNUM n))) else s

/-- R369, R370, R398: start a retransmission sequence of a control block with a new stNum. -/
def State.gooseNew (s : State) (n stNum : Nat) : State :=
  let g := s.gcbInt n
  let mint := s.getF (GSV_PCB_MINT n)
  let s := (s.setF (GSV_PSTNUM_STNUM n) stNum).setF (GSV_PSQNUM_SQNUM n) 0
  (s.setGcb n { g with gap := mint, next := some (s.now + mint * msU), bump := false }).gooseSend n

/-- R398: the stNum one above the larger of the engine's own and the last one reported to it. -/
def State.stAbove (s : State) (n : Nat) : Nat :=
  incGoose (Nat.max (s.getF (GSV_PSTNUM_STNUM n)) ((lget none s.oz.pubSeq n).getD 0))

/-- R369: a frame of control block `n` takes the values now in force. -/
def withVals (n : Nat) (v : List Nat) (f : TxFrame) : TxFrame :=
  match f with
  | .goose cb h st sq tal t test w => .goose cb h st sq tal t test (if cb = n then v else w)
  | f => f

/-- R369: a further change within the fast tick of a state change: the frame of the control block that a port sends or holds takes it, and no
frame leaves with the values it replaces. -/
def State.gooseAmend (s : State) (n : Nat) (v : List Nat) : State :=
  { s with net := { s.net with ports := s.net.ports.map (fun x =>
      { x with last := x.last.map (withVals n v), queue := x.queue.map (fun e => { e with f := withVals n v e.f }) }) } }

/-- R369: GOOSE_STATE_CHANGE: entries of a control block change; an engine without the duties builds and sends nothing. Changes
within one fast tick are one state change. -/
def gooseStateChangeEff (n : Nat) (s : State) : State :=
  if !s.flag (GSV_PCB_EN n) || !s.protecting then s
  else
    let g := s.gcbInt n
    let v := s.dsValues n
    if v = g.vals then s
    else if g.tick = some s.flt.geyK then (s.setGcb n { g with vals := v }).gooseAmend n v
    else
      let s := s.setGcb n { g with vals := v, t := s.sampAt s.now, tick := some s.flt.geyK }
      if s.publishes then s.gooseNew n (if g.bump then s.stAbove n else incGoose (s.getF (GSV_PSTNUM_STNUM n))) else s

/-- R370: GOOSE_RETRANSMIT: the next frame of a control block is due. -/
def gooseRetransmitEff (n : Nat) (s : State) : State :=
  let g := s.gcbInt n
  match g.next with
  | some t =>
    if !s.flag (GSV_PCB_EN n) || !s.publishes || s.now < t then s
    else if g.bump then s.gooseNew n (s.stAbove n)
    else
      let gap := Nat.min (2 * g.gap) (s.getF (GSV_PCB_MAXT n))
      let s := s.setF (GSV_PSQNUM_SQNUM n) (incGoose (s.getF (GSV_PSQNUM_SQNUM n)))
      (s.setGcb n { g with gap := gap, next := some (s.now + gap * msU) }).gooseSend n
  | none => s

/-- R398: the engine takes the duties: every enabled control block sends with the stNum after the last one reported. -/
def State.goosePublish (s : State) : State :=
  (upto 32).foldl (fun s n =>
    if s.flag (GSV_PCB_EN n) then
      s.gooseNew n (match lget none s.oz.pubSeq n with | some k => incGoose k | none => 1)
    else s) s

/-- R398: the engine releases the duties: no control block sends any more. -/
def State.gooseStop (s : State) : State :=
  (upto 32).foldl (fun s n => s.setGcb n { s.gcbInt n with next := none }) s

/-! ### GOOSE subscription (R372 to R374) -/

/-- Replace a subscription. -/
def State.setSub (s : State) (j : Nat) (x : SubInt) : State := { s with gsv := { s.gsv with subs := lset s.gsv.subs j x } }

/-- R309, R374: both programs are to be presented a drop-out. -/
def State.pendDrop (s : State) (j : Nat) : State :=
  let s := s.setPres 0 j ((s.presOf 0 j).1, true, (s.presOf 0 j).2.2)
  s.setPres 1 j ((s.presOf 1 j).1, true, (s.presOf 1 j).2.2)

/-- R309: a recovery is seen. -/
def State.pendRest (s : State) (j : Nat) : State :=
  let s := s.setPres 0 j ((s.presOf 0 j).1, (s.presOf 0 j).2.1, true)
  s.setPres 1 j ((s.presOf 1 j).1, (s.presOf 1 j).2.1, true)

/-- R374: a subscription is declared dropped; DROPS counts it (log 34). -/
def State.subDrop (s : State) (j : Nat) : State :=
  let s := (s.pendDrop j).incSat (LGC_SUBST_DROPS j)
  (s.setSub j { s.subOf j with dropped := true, until_ := none }).raise 97 j (s.getF (LGC_SUBST_DROPS j))

/-- R372: does a received value have the type of a mapped item: an INTEGER of 8, 16 or 32 bits, or a Dbpos, where it is one? -/
def typeFits (i : GItem) (v : GVal) : Bool :=
  match i.ty, v with
  | .bool, .bool _ => true
  | .int, .int w n => !i.dbpos && [8, 16, 32].contains w && decide (-2 ^ (w - 1) ≤ n ∧ n < 2 ^ (w - 1))
  | .int, .dbpos _ => i.dbpos
  | .real, .float _ => true
  | _, _ => false

/-- R372: the value delivered. -/
def valueOf (v : GVal) : Nat :=
  match v with
  | .bool b => b2n b
  | .int _ n => tcBits 32 n
  | .dbpos d => d % 4
  | .float w => w % 4294967296
  | .quality q => q
  | .timestamp => 0

/-- R280, R372: the VALIDITY of the quality entry a value is paired with. -/
def pairedLq (vals : List GVal) (q : Option Nat) : Nat :=
  match q with
  | some k => match (vals.drop k).head? with
    | some (.quality v) => v % 4
    | _ => 0
  | none => 0

/-- R372: is the entry an item is paired with a quality, where it is paired? -/
def qualityAt (vals : List GVal) (q : Option Nat) : Bool :=
  match q with
  | some k => match (vals.drop k).head? with
    | some (.quality _) => true
    | _ => false
  | none => true

/-- R372 row 2: does a frame agree with the table? -/
def frameFits (c : GsubCfg) (f : GooseFrame) : Bool :=
  f.confRev = c.confRev && f.vals.length = c.n && !f.ndsCom &&
    c.items.all (fun i => (match (f.vals.drop i.pos).head? with
      | some v => typeFits i v
      | none => false) && qualityAt f.vals i.qpos)

/-- R373: is a frame new? -/
def frameNew (last : Option (Nat × Nat)) (dropped : Bool) (st sq : Nat) : Bool :=
  match last with
  | none => true
  | some (a, b) => if st = a then decide (b < sq) else if st < a then sq = 0 || dropped else true

/-- R372 to R374: an accepted frame for subscription `j`. -/
def State.gooseAccept (s : State) (j : Nat) (c : GsubCfg) (f : GooseFrame) : State :=
  let x := s.subOf j
  let lq := if f.test then 16 else 0
  let vals := c.items.map (fun i => (valueOf ((f.vals.drop i.pos).headD .timestamp), pairedLq f.vals i.qpos + lq))
  let s := s.setSub j { x with last := some (f.stNum, f.sqNum), until_ := some (s.now + f.tal * msU), dropped := false
                               mism := false, vals := vals, ever := true }
  let s := s.setFlag (GSV_SSTAT_RX j) true
  if x.dropped then s.pendRest j else s

/-- R372: a frame that passed the port's filter, for subscription `j`. -/
def State.gooseFor (s : State) (j : Nat) (f : GooseFrame) : State :=
  let c := lget ⟨0, 0, [], 0, 0, []⟩ s.gsv.gsubs j
  let x := s.subOf j
  if !s.flag (GSV_SCFG_EN j) || f.dst != c.dst || f.appid != c.appid || f.names != c.names then s
  else if !frameFits c f then
    let s := s.incSat (GSV_SSTAT_CFGERR j)
    if x.mism then s else (s.setSub j { x with mism := true }).raise 98 j 0
  else
    let s := s.setSub j { x with mism := false }
    if f.test && s.mode == .run && !s.flag (GSV_SCFG_TEST_ACC j) then s.incSat (GSV_SSTAT_TSTDISC j)
    else if !frameNew x.last x.dropped f.stNum f.sqNum then s.incSat (GSV_SSTAT_DUP j)
    else s.gooseAccept j c f

/-- R21, R372: GOOSE_RECEIVE: a GOOSE frame arrives on port p. -/
def gooseReceiveEff (p : Nat) (f : GooseFrame) (s : State) : State :=
  if s.timeOn && s.flag (NET_PCFG_EN p) then (upto 128).foldl (fun s j => s.gooseFor j f) s else s

/-- R21, R374: GOOSE_LIVE_TIMEOUT: a subscription's live timer expires. -/
def gooseLiveTimeoutEff (j : Nat) (s : State) : State :=
  match (s.subOf j).until_ with
  | some t => if s.timeOn && t ≤ s.now then (s.setFlag (GSV_SSTAT_RX j) false).subDrop j else s
  | none => s

/-! ### SV subscription (R375 to R378) -/

/-- A stream beside its registers. -/
def State.svOf (s : State) (st : Nat) : SvInt := lget resetSv s.gsv.svInts st

/-- Replace it. -/
def State.setSv (s : State) (st : Nat) (x : SvInt) : State := { s with gsv := { s.gsv with svInts := lset s.gsv.svInts st x } }

/-- R375: samples per second of a stream. -/
def State.svSubRate (s : State) (st : Nat) : Nat := if s.flag (GSV_SVSCFG_RATE st) then 14400 else 4800

/-- R376: second × rate + count of a sample: the second that makes its instant the latest not after the arrival. -/
def svKey (rate cnt : Nat) (at_ : Int) : Nat :=
  let a := (at_ * (rate : Int) / 65536000000000).toNat
  let k := a / rate * rate + cnt
  if k ≤ a then k else k - rate

/-- R7, R376: the tag of a sample by its quality: the worst of the rows that apply. A validity that is none of good, invalid and
questionable counts as questionable (DESIGN CHOICE, log 126). -/
def svTag (accTest : Bool) (e : SvVal) : Tag :=
  let base : Tag :=
    if e.validity = 1 || (e.test && !accTest) then .missing
    else if e.validity = 0 && !e.detail then .valid else .substituted
  tagMax base (tagIf e.overflow .overrange)

/-- R375: v × gain (REAL32) rounded half to even and clamped, with OVERRANGE when it saturates. -/
def svScale (v : Int) (gain : Nat) : Int × Bool :=
  let e := gain / 8388608 % 256
  let m := gain % 8388608 + (if e = 0 then 0 else 8388608)
  let x := (if e = 0 then 1 else e)
  let r := if 150 ≤ x then v * (m : Int) * ((2 ^ (x - 150) : Nat) : Int) else divHalfEven (v * (m : Int)) (2 ^ (150 - x))
  if absN r ≤ 2147483647 then (r, false) else (clampI (-2147483647) 2147483647 r, true)

/-- R377: has the resampler of virtual channel `v` used a sample's place? -/
def State.svUsed (s : State) (v key : Nat) : Bool :=
  let c := 64 + v
  let x := s.fch c
  if x.tNext = 0 || !s.chainOn c then false
  else
    let ax := s.axis c ((s.tauAt (x.tNext - 1) : Nat) : Int)
    decide ((key : Int) ≤ ax.1 / (ax.2 : Int) + 4)

/-- R375, R376: put one ASDU's samples into the virtual channels of a stream; true when one came too late. -/
def State.svPlace (s : State) (st key : Nat) (sync : Bool) (a : SvAsdu) : State × Bool :=
  let acc := s.flag (GSV_SVSCFG_TEST_ACC st) || s.mode == .test
  (upto 64).foldl (fun r v =>
    let s := r.1
    if !s.flag (GSV_VCH_EN v) || s.getF (GSV_VCH_STREAM v) != st then r
    else if s.svUsed v key then (s, true)
    else
      match (a.vals.drop (s.getF (GSV_VCH_ELEM v))).head? with
      | none => r
      | some e =>
        let q := svScale e.v (s.getF (GSV_VGAIN_VGAIN v))
        let tag := if sync then tagMax (svTag acc e) (tagIf q.2 .overrange) else .missing
        let l := ((key, ⟨q.1, tag⟩) :: lget [] s.flt.vsmp v).take 256
        ({ s with flt := { s.flt with vsmp := lset s.flt.vsmp v l } }, r.2)) (s, false)

/-- R378: a stream is declared dropped. -/
def State.svDrop (s : State) (st : Nat) : State :=
  let s := (s.setSv st { s.svOf st with dropped := true, run := 0 }).setFlag (GSV_SVSSTAT_RX st) false
  s.subDrop (128 + st)

/-- R376 to R378: one accepted ASDU of a stream. -/
def State.svAsdu (s : State) (st : Nat) (sim : Bool) (a : SvAsdu) : State :=
  let rate := s.svSubRate st
  let key := svKey rate a.cnt (s.sampAt s.now)
  let x := s.svOf st
  if x.recent.any (fun e => e.1 = a.cnt && s.now < e.2 + secU) then s.incSat (GSV_SVSSTAT_DUP st)
  else
    let sync := s.getF (GSV_SVSCFG_SYNCMIN st) ≤ a.synch
    let s := s.setFlag (GSV_SVSSTAT_SYNC st) sync
    let s := if sync || x.low then s else s.raise 99 st a.synch
    let gap := match x.key with
      | some k => (a.cnt + rate - k % rate) % rate
      | none => 1
    let s := if !x.dropped && 5 ≤ gap then s.svDrop st else s
    let x := s.svOf st
    let run := if !sync then 0 else if gap = 1 then satInc 8 x.run else 1
    let back := x.dropped && 8 ≤ run
    let s := s.setSv st { x with key := some key, at_ := s.now, run := run, low := !sync, dropped := x.dropped && !back
                                 test := sim || a.vals.any (·.test)
                                 recent := (a.cnt, s.now) :: x.recent.filter (fun e => s.now < e.2 + secU) }
    let s := if back then
        let j := 128 + st
        let first := (s.presOf 0 j).1 = 0
        let s := (s.setFlag (GSV_SVSSTAT_RX st) true).setSub j { s.subOf j with dropped := false, ever := true }
        if first then s else s.pendRest j
      else s
    let r := s.svPlace st key sync a
    if r.2 then r.1.incSat (GSV_SVSSTAT_LATE st) else r.1

/-- R375: a frame that passed the port's filter, for stream `st`. -/
def State.svFor (s : State) (st : Nat) (f : SvFrame) : State :=
  let c := lget ⟨0, 0, 0, 0, 0⟩ s.gsv.svsubs st
  let x := s.subOf (128 + st)
  if !s.flag (GSV_SVSCFG_EN st) || f.dst != c.dst || f.appid != c.appid || f.svid != c.svid then s
  else if f.confRev != c.confRev || f.asdus.isEmpty || 8 < f.asdus.length ||
      f.asdus.any (fun a => a.vals.length != c.n || s.svSubRate st ≤ a.cnt) then
    let s := s.incSat (GSV_SVSSTAT_CFGERR st)
    if x.mism then s else (s.setSub (128 + st) { x with mism := true }).raise 98 (128 + st) 0
  else
    let s := s.setSub (128 + st) { x with mism := false }
    if f.sim && s.mode == .run && !s.flag (GSV_SVSCFG_TEST_ACC st) then s
    else f.asdus.foldl (fun s a => s.svAsdu st f.sim a) s

/-- R375: SV_RECEIVE: a sampled-values frame arrives on port p. -/
def svReceiveEff (p : Nat) (f : SvFrame) (s : State) : State :=
  if s.timeOn && s.flag (NET_PCFG_EN p) then (upto 16).foldl (fun s st => s.svFor st f) s else s

/-- R21, R378: SV_STREAM_TIMEOUT: 4 sample periods and JTOL have passed since the last accepted sample. -/
def svStreamTimeoutEff (st : Nat) (s : State) : State :=
  let x := s.svOf st
  if x.dropped || x.key.isNone || !s.timeOn then s
  else if 4 * secU + (x.at_ + s.getF (GSV_SVSCFG_JTOL st) * usU) * s.svSubRate st ≤ s.now * s.svSubRate st then s.svDrop st else s

/-! ### SV publication (R379, R380) -/

/-- R379: the channel of entry `i` of stream `q`. -/
def State.svpCh (s : State) (q i : Nat) : Nat := s.getF (GSV_SVPCH_CH q (i / 4) (i % 4))

/-- R379: the quality of an entry: 0 good, 1 questionable inaccurate, 2 invalid overflow, 3 invalid failure. -/
def svpQual (t : Tag) (sat : Bool) : Nat :=
  match t with
  | .missing => 3
  | .overrange => 2
  | .valid | .recomputed => if sat then 2 else 0
  | _ => if sat then 2 else 1

/-- R380: smpSynch. -/
def State.svSynch (s : State) : Nat :=
  let b := s.sampTb
  if s.carryHeld 0 then 1 else
  match s.getF (TIM_STAT_STATE b) with
  | 2 => 2
  | 3 => if s.tqc b ≤ 5 then 2 else 1
  | 0 | 5 => 0
  | _ => 1

/-- R379, R380: the ASDU of stream `q` for sample `key`; 16 more in the quality is its test bit. -/
def State.svpAsdu (s : State) (q key : Nat) : SvpAsdu :=
  ⟨key % s.svRate, s.svSynch, (upto 8).map (fun i =>
    let y := (s.fch (s.svpCh q i)).fix
    let v := svScale y.v (s.getF (GSV_PGAIN_PGAIN q i))
    (v.1, svpQual y.tag v.2 + (if s.mode == .test then 16 else 0)))⟩

/-- R379, R380: when all eight channels of a stream have a fixed-rate sample, its ASDU is formed; a full frame leaves. -/
def State.svPublish (s : State) : State :=
  if !s.flag FLT_SVCFG_SV_EN || !s.protecting then s
  else (upto 8).foldl (fun s q =>
    let k := (s.fch (s.svpCh q 0)).fixK
    if !s.flag (GSV_SVPCFG_EN q) || k.isNone || lget none s.gsv.svLast q = k ||
        !(upto 8).all (fun i => (s.fch (s.svpCh q i)).fixK = k) then s
    else
      let as_ := lget [] s.gsv.svOut q ++ [s.svpAsdu q (k.getD 0)]
      let full := s.getF (GSV_SVPCFG_NASDU q) ≤ as_.length
      let s := { s with gsv := { s.gsv with svOut := lset s.gsv.svOut q (if full then [] else as_)
                                            svLast := lset s.gsv.svLast q k } }
      if full && s.leads then
        s.txOwn (s.ownPorts [0, 1, 2]) (.sv q (lget noFrameHdr s.gsv.svpubs q) (s.mode == .test) as_)
      else s) s

/-- R96, R379: FIXED_RATE_SAMPLE with the publication it completes. -/
def fixedRatePublishEff (c : Nat) (up : Upset) (s : State) : State := (fixedRateSampleEff c up s).svPublish

/-- R98, R379: RECOMPUTE_DONE with the publication it completes. -/
def recomputePublishEff (g st c : Nat) (r1 r2 : Int) (s : State) : State :=
  if st = 3 then (recomputeDoneEff g st c r1 r2 s).svPublish else recomputeDoneEff g st c r1 r2 s

end Sys2Proof.Machine
end

