-- ==== Sys2Proof/Machine/Recorder.lean ====
section
/-!
DEFINITION. The recorder Tephra (07 R243 to R276): rows, classes and segments, triggers, mask tests, headers, views of the
record window, the record index.
-/
namespace Sys2Proof.Machine

/-- A class beside its registers. -/
def State.rcls (s : State) (c : Nat) : RecClass := lget resetClass s.tph.classes c

/-- Replace it. -/
def State.setCls (s : State) (c : Nat) (x : RecClass) : State := { s with tph := { s.tph with classes := lset s.tph.classes c x } }

/-- A segment of record memory. -/
def State.seg (s : State) (g : Nat) : RecSeg := Store.get resetSeg s.tph.segs g

/-- Replace it. -/
def State.setSeg (s : State) (g : Nat) (x : RecSeg) : State := { s with tph := { s.tph with segs := Store.set resetSeg s.tph.segs g x } }

/-- An index entry (R272). -/
def State.ridx (s : State) (g : Nat) : RecIdxEntry := Store.get resetIdx s.mram.recIdx g

/-- Replace it. -/
def State.setRidx (s : State) (g : Nat) (e : RecIdxEntry) : State :=
  { s with mram := { s.mram with recIdx := Store.set resetIdx s.mram.recIdx g e } }

/-- REC_CSTAT STATE: 0 DISARMED, 1 ARMED, 2 POST, 3 FULL. -/
def State.recState (s : State) (c : Nat) : Nat := s.getF (REC_CSTAT_STATE c)

/-- R275: show a class's state and segments. -/
def State.recShow (s : State) (c st : Nat) : State :=
  let x := s.rcls c
  let g := match x.open_ with | some r => r.seg | none => x.ring.getD 0
  ((s.setF (REC_CSTAT_STATE c) st).setF (REC_CSTAT_SEG c) g).setF (REC_CSTAT_NEXT c) (x.next.getD 0x1FFF)

/-! ### Segments (R247, R254, R258) -/

/-- R247: segments of a class that is in use. -/
def State.nseg (s : State) (c : Nat) : Nat := if s.flag (REC_CCFG_EN c) then s.getF (REC_CCFG_NSEG c) else 0

/-- R247: the first segment of a class. -/
def State.segFirst (s : State) (c : Nat) : Nat := (upto c).foldl (fun n k => n + s.nseg k) 0

/-- R247: bytes of a class's segment. -/
def State.segSize (s : State) (c : Nat) : Nat := s.getF (REC_CSEG_SEGSIZE c) * 65536

/-- The class that owns a segment. -/
def State.segClass (s : State) (g : Nat) : Option Nat :=
  (upto 8).find? (fun c => s.segFirst c ≤ g && g < s.segFirst c + s.nseg c)

/-- The record-memory byte at which a segment begins. -/
def State.segByte (s : State) (g : Nat) : Nat :=
  match s.segClass g with
  | some c => (upto c).foldl (fun n k => n + s.nseg k * s.segSize k) 0 + (g - s.segFirst c) * s.segSize c
  | none => 0

/-- R271, R273: may a segment be taken (FREE, RELEASED or LOST)? -/
def State.segFree (s : State) (g : Nat) : Bool := let st := (s.ridx g).st; st = 0 || st = 4 || st = 5

/-- The oldest accepted of a list of segments. -/
def State.oldest (s : State) : List Nat → Option Nat
  | [] => none
  | g :: gs => match s.oldest gs with
    | none => some g
    | some h => if (s.seg h).acc < (s.seg g).acc then some h else some g

/-- R254, R258: the next segment of a class other than `ex`: the lowest-numbered free one, else by FULLPOL. -/
def State.takeSeg (s : State) (c : Nat) (ex : Option Nat) : Option Nat × State :=
  let gs := ((upto (s.nseg c)).map (fun k => s.segFirst c + k)).filter (fun g => some g != ex)
  match gs.find? s.segFree with
  | some g => (some g, s)
  | none =>
    if s.flag (REC_CCFG_FULLPOL c) then
      match s.oldest (gs.filter (fun g => (s.ridx g).st = 3 && s.tph.wsel != some g)) with
      | some g => (some g, (s.incSat (REC_CCNT_LOST c)).raise 74 c g)
      | none => (none, s)
    else (none, s)

/-- R272: a segment is armed. -/
def State.armSeg (s : State) (c g : Nat) : State := (s.setSeg g resetSeg).setRidx g { resetIdx with st := 1, cls := c }

/-- A segment becomes FREE and its rows are discarded. -/
def State.freeSeg (s : State) (c : Nat) (g : Option Nat) : State :=
  match g with
  | some g => (s.setSeg g resetSeg).setRidx g { resetIdx with st := 0, cls := c }
  | none => s

/-! ### Rows (R243 to R245) -/

/-- Channels of a class below `n`. -/
def State.recChans (s : State) (c n : Nat) : List Nat :=
  (upto n).filter (fun k => bitN (s.getF (REC_CCH_CH c (k / 32))) (k % 32))

/-- R243: 4-bit tags packed two per byte, low nibble first. -/
def packTags : List Nat → List Nat
  | [] => []
  | [a] => [a % 16]
  | a :: b :: rest => (a % 16 + 16 * (b % 16)) :: packTags rest

/-- R243: samples of `n` bytes, then their tags. -/
def sampleBytes (n : Nat) (l : List Sample) : List Nat :=
  (l.map (fun x => leBytes n (tcBits (8 * n) x.v))).flatten ++ packTags (l.map (fun x => tagCode x.tag))

/-- R245: a sample of a channel, tagged SETTLING while its group is STOPPED. -/
def State.held (s : State) (c : Nat) (x : Sample) : Sample := if s.chainOn c then x else { x with tag := .settling }

/-- R244: the BIN frame of the last trip commit; `idx` its strobe. -/
def State.binBytes (s : State) (idx : Nat) : List Nat := leBytes 4 idx ++ (s.trp.frame ++ List.replicate 188 0).take 188

/-- One strobe in the units of strobe time. -/
def strobeTau : Int := 15625 * 4294967296

/-- R243: the fused sample of a physical channel at the latest strobe. -/
def State.fusedNow (s : State) (k : Nat) : Sample := ⟨(s.chan k).last, tagOf (s.getF (CNV_CH_TAG k))⟩

/-- R243, R245: the newest tracked index that every running channel of a class has released. -/
def State.rowIdx (s : State) (c : Nat) : Nat :=
  match ((s.recChans c 128).filter s.chainOn).map (fun k => (s.fch k).tNext - 1) with
  | [] => s.flt.m - 1
  | m :: ms => ms.foldl Nat.min m

/-- R86, R243: the newest stage-2 index that every running channel of a class has released (those with none stand out). -/
def State.stdIdx (s : State) (c : Nat) : Nat :=
  match ((s.recChans c 64).filter s.chainOn).filterMap (fun k => (s.fch k).last2) with
  | [] => (s.ana.strobe - 1) / 32
  | q :: qs => qs.foldl Nat.min q

/-- R243, R245: stage-2 output `q` of a channel; its last value, tagged SETTLING, while its group is STOPPED. -/
def State.stdAt (s : State) (q k : Nat) : Sample :=
  let x := s.fch k
  s.held k (lget ⟨0, .settling⟩ x.y2 (if s.chainOn k then x.q2 - q else 0))

/-- R243, R245: tracked sample `m` of a channel; its last value, tagged SETTLING, while its group is STOPPED. -/
def State.trkAt (s : State) (m k : Nat) : Sample :=
  let x := s.fch k
  s.held k (lget ⟨0, .settling⟩ x.hist (if s.chainOn k then x.tNext - 1 - m else 0))

/-- R245: the row of a stream that is due now: index, instant, bytes. -/
def State.rowNow (s : State) (c st : Nat) : RecRow :=
  let n := s.ana.strobe - 1
  let mk (idx : Nat) (tau : Int) (bytes : List Nat) : RecRow := ⟨idx, tau, s.labelOf tau, bytes⟩
  match st with
  | 0 => mk n ((n : Int) * strobeTau) (sampleBytes 3 ((s.recChans c 64).map s.fusedNow))
  | 1 =>
    let q := 32 * ((s.stdIdx c : Nat) : Int) - 320
    mk (tcBits 32 q) (q * strobeTau) (sampleBytes 4 ((s.recChans c 64).map (s.stdAt (s.stdIdx c))))
  | 2 =>
    let m := s.rowIdx c
    mk m ((s.tauAt m : Nat) : Int) (sampleBytes 4 ((s.recChans c 128).map (s.trkAt m)))
  | 3 => mk s.flt.cur.m ((s.tauAt s.flt.cur.m : Nat) : Int)
      (((s.recChans c 128).map (fun k => ((phWords (halfAt s.flt.cur k)).map (leBytes 4)).flatten)).flatten)
  | _ =>
    let d := (s.trp.commitAt : Int) - (s.flt.strobeT : Int)
    let idx := ((n : Int) + d / 15625).toNat
    mk idx ((n : Int) * strobeTau + d * 4294967296) (s.binBytes idx)

/-! ### Rings and records (R249, R253 to R257) -/

/-- Rows newer than `t`, and the last one at or before it (newest first). -/
def keepFrom (t : Int) : List RecRow → List RecRow
  | [] => []
  | r :: rs => if r.tau ≤ t then [r] else r :: keepFrom t rs

/-- R249: bring every other stream to the span of the base rows held. -/
def spanTo (base : Nat) (rows : List (List RecRow)) : List (List RecRow) :=
  match (lget [] rows base).getLast? with
  | some o => rows.mapIdx (fun k l => if k = base then l else keepFrom o.tau l)
  | none => rows

/-- The rows up to the first one at or after `t` (newest first). -/
def keepTo (t : Int) : List RecRow → List RecRow
  | a :: b :: rs => if t ≤ b.tau then keepTo t (b :: rs) else a :: b :: rs
  | l => l

/-- R249: bring every other stream to the whole span of the base rows, the newest one included. -/
def spanBoth (base : Nat) (rows : List (List RecRow)) : List (List RecRow) :=
  match (lget [] rows base).head? with
  | some n => (spanTo base rows).mapIdx (fun k l => if k = base then l else keepTo n.tau l)
  | none => rows

/-- R253: a row enters a ring of at most `cap` base rows. -/
def ringAdd (cap base st : Nat) (r : RecRow) (g : RecSeg) : RecSeg :=
  let rows := lmod g.rows st (fun l => r :: l)
  { g with rows := spanTo base (lmod rows base (fun l => l.take cap)) }

/-- Is a row new to a segment's stream? -/
def rowNew (g : RecSeg) (st : Nat) (r : RecRow) : Bool :=
  match (lget [] g.rows st).head? with
  | some x => decide (x.tau < r.tau)
  | none => true

/-- R261, R257: the period of base rows in strobe time. -/
def State.basePeriod (s : State) (base : Nat) : Int :=
  let f := s.getF FLT_FTRK_FTRK
  let trk := divHalfEven (62500000 * 72057594037927936) f
  match base with
  | 0 => strobeTau
  | 1 => 32 * strobeTau
  | 2 => trk
  | 3 => 256 * trk
  | _ => 16 * strobeTau

/-- R257, R261, R265: the place of b_T among base rows (newest first), counted from the oldest; negative where b_T is older, by
the period of base rows. -/
def trigPlace (per tau : Int) (rows : List RecRow) : Int :=
  let before := (rows.filter (fun r => decide (r.tau ≤ tau))).length
  if before = 0 then
    let t0 := (match rows.getLast? with | some r => r.tau | none => tau)
    0 - (t0 - tau + per - 1) / per
  else ((before : Nat) : Int) - 1

/-- R249, R257: the instant of the record's last base row, once it has been written, whether or not it is still held. -/
def endTau (per : Int) (g : RecSeg) (base : Nat) (o : RecOpen) : Option Int :=
  let rows := (lget [] g.rows base).reverse
  let k := trigPlace per o.tau (lget [] g.rows base) + ((o.post : Nat) : Int)
  if rows.isEmpty then none else (rows[k.toNat]?).map (·.tau)

/-- R254: does a record still need a row of stream `st`? -/
def needsRow (per : Int) (g : RecSeg) (base st : Nat) (o : RecOpen) : Bool :=
  match endTau per g base o with
  | none => true
  | some t => if st = base then false else match (lget [] g.rows st).head? with
    | some x => decide (x.tau < t)
    | none => true

/-- R255: has the record's last row been written? -/
def recDone (per : Int) (g : RecSeg) (base streams : Nat) (o : RecOpen) : Bool :=
  (endTau per g base o).isSome && (upto 5).all (fun st => !bitN streams st || !needsRow per g base st o)

/-- R256, R257: PRE_ACT, TRIG_BIDX, POST_ACT, and the base rows the record keeps (newest first). -/
def State.cutBase (s : State) (base : Nat) (o : RecOpen) (rows : List RecRow) : Nat × Int × Nat × List RecRow :=
  let after := (rows.filter (fun r => decide (o.tau < r.tau))).length
  let p := rows.length - after
  if p = 0 then (0, trigPlace (s.basePeriod base) o.tau rows, after, rows)
  else
    let pre := Nat.min o.pre (p - 1)
    (pre, (pre : Nat), after, rows.take (after + pre + 1))

/-! ### Headers (R265) -/

/-- R265: bytes of a stream's descriptor. -/
def State.descr (s : State) (c st : Nat) (rows : List RecRow) : List Nat :=
  if !bitN (s.getF (REC_CCFG_STREAMS c)) st then List.replicate 32 0
  else
    let n := if st = 4 then 0 else (s.recChans c (if st < 2 then 64 else 128)).length
    let rb := match st with
      | 0 => 3 * n + (n + 1) / 2
      | 1 => 4 * n + (n + 1) / 2
      | 2 => 4 * n + (n + 1) / 2
      | 3 => 128 * n
      | _ => 192
    let first := rows.getLast?
    let lab := splitTime (match first with | some r => r.lab | none => 0)
    [1, 0] ++ leBytes 2 n ++ leBytes 4 rb ++ leBytes 4 rows.length ++ leBytes 4 (match first with | some r => r.idx | none => 0)
      ++ leBytes 6 lab.1 ++ [0, 0] ++ leBytes 4 lab.2.1
      ++ leBytes 4 (match st with | 0 => 1024000 | 1 => 32000 | 4 => 64000 | _ => 0)

/-- The strobe index of an instant of strobe time. -/
def strobeOf (tau : Int) : Nat := tcBits 32 (tau / strobeTau)

/-- R265: the segment header without its CRC. -/
def State.headerBody (s : State) (c : Nat) (o : RecOpen) (late trunc : Bool) (pre : Nat) (bidx : Int) (post : Nat)
    (rows : List (List RecRow)) : List Nat :=
  let base := s.getF (REC_CCFG_BASE c)
  let t := splitTime o.lab
  let first := splitTime (match (lget [] rows base).getLast? with | some r => r.lab | none => 0)
  let flags := b2n (pre < o.pre) + 2 * b2n late + 4 * b2n trunc + 8 * b2n o.mask + 16 * b2n o.drop + 32 * b2n (15 < o.nadd)
  leBytes 4 1 ++ leBytes 4 o.seq ++ leBytes 2 o.seg ++ [c, flags] ++ leBytes 4 (o.word % 65536 + 65536 * (o.entry % 32))
    ++ leBytes 6 t.1 ++ [o.tb, o.qual] ++ leBytes 4 t.2.1 ++ leBytes 2 o.utc ++ leBytes 2 o.nadd
    ++ leBytes 4 (strobeOf o.tau) ++ leBytes 4 (tcBits 32 bidx) ++ leBytes 6 first.1 ++ [0, 0] ++ leBytes 4 first.2.1
    ++ leBytes 4 pre ++ leBytes 4 post ++ leBytes 4 o.fest
    ++ ((upto 15).map (fun k => let a := lget (0, 0) o.adds k; leBytes 4 a.1 ++ leBytes 4 a.2)).flatten ++ leBytes 8 0
    ++ ((upto 5).map (fun st => s.descr c st (lget [] rows st))).flatten
    ++ ((upto 128).map (fun k => leBytes 4 (s.getF (REC_CHSCL_CHSCL k)) ++ leBytes 4 (s.getF (REC_CHRAT_CHRAT k)))).flatten
    ++ ((upto 128).map (fun k => leBytes 2 (lget 0 o.skew k))).flatten
    ++ ((upto 4).map (fun w => leBytes 4 (s.getF (REC_CCH_CH c w)))).flatten ++ [s.getF (REC_CSEG_BINSEL c)]
    ++ List.replicate 2443 0

/-- R255, R257, R260: a record closes: its segment holds the rows of R249 and the header; the index entry follows. -/
def State.closeRec (s : State) (c : Nat) (o : RecOpen) (late trunc : Bool) : State :=
  let base := s.getF (REC_CCFG_BASE c)
  let g := s.seg o.seg
  let k := s.cutBase base o (lget [] g.rows base)
  let rows := spanBoth base (lset g.rows base k.2.2.2)
  let hd := s.headerBody c o late trunc k.1 k.2.1 k.2.2.1 rows
  let hd := hd ++ leBytes 4 (crc32 hd)
  let s := s.setSeg o.seg { rows := rows, header := hd, streams := s.getF (REC_CCFG_STREAMS c)
                            chans := (upto 4).foldl (fun n w => n + s.getF (REC_CCH_CH c w) * 2 ^ (32 * w)) 0
                            binSel := s.getF (REC_CSEG_BINSEL c), acc := o.acc }
  { s with tph := { s.tph with done := s.tph.done ++ [(c, o.seg, o.seq, trunc)] } }

/-- R255, R258, R264: what the class does after its record: re-arm, FULL, or DISARMED. -/
def State.afterRec (s : State) (c : Nat) (o : RecOpen) : State :=
  let x := s.rcls c
  let stop := o.mask && s.flag (REC_CCFG_STOP_ON_MASK c)
  let y := { x with open_ := none, next := none, disarm := false }
  if stop || x.disarm then
    let s := (s.freeSeg c x.next).setCls c { y with ring := none }
    let s := if stop then (s.setFlag (REC_CSTAT_MASKSTOP c) true).raise 76 c o.seg else s
    s.recShow c 0
  else match x.next with
    | some g => (s.setCls c { y with ring := some g }).recShow c 1
    | none => ((s.setCls c { y with ring := none }).recShow c 3).raise 73 c 0

/-! ### ROW_WRITE (R253 to R255, R270) -/

/-- R270: a row a FIFO cannot take is discarded. -/
def State.rowLost (s : State) (c : Nat) : State :=
  let x := s.rcls c
  let s := s.setCls c { x with open_ := x.open_.map (fun o => { o with drop := true }) }
  let s := s.incSat REC_SLOT_FOVR
  s.raise 77 c (s.getF REC_SLOT_FOVR)

/-- R253, R254: put a row of a class into ring segment `g`. -/
def State.ringRow (s : State) (c st : Nat) (r : RecRow) (g : Option Nat) : State :=
  match g with
  | some g =>
    let x := s.seg g
    if rowNew x st r then s.setSeg g (ringAdd (s.getF (REC_CCAP_CAP c)) (s.getF (REC_CCFG_BASE c)) st r x) else s
  | none => s

/-- R16, R268: the memory slot of this instant (0, 8, … 56 are fixed and never a class's); frames of 1 µs follow one another on the reference (log 122). -/
def State.slotNow (s : State) : Nat := s.now / 250 % 64

/-- R16, R253 to R255: ROW_WRITE, in a slot of the class: the row of a stream that is due is written for a class; `fifoFull`: its FIFO cannot take it. -/
def rowWriteEff (c st : Nat) (fifoFull : Bool) (s : State) : State :=
  let x := s.rcls c
  let streams := s.getF (REC_CCFG_STREAMS c)
  let cst := s.recState c
  if !s.protecting || !s.flag (REC_CCFG_EN c) || !bitN streams st || !(cst = 1 || cst = 2) || s.ana.strobe = 0
      || (st = 3 && s.flt.cur.m % 256 != 0) || lget 8 s.tph.slots s.slotNow != c || s.slotNow % 8 = 0 then s
  else if fifoFull then s.rowLost c
  else
    let r := s.rowNow c st
    if cst = 1 then s.ringRow c st r x.ring
    else
      let s := s.ringRow c st r x.next
      match x.open_ with
      | none => s
      | some o =>
        let base := s.getF (REC_CCFG_BASE c)
        let per := s.basePeriod base
        let g := s.seg o.seg
        let g' := if rowNew g st r && needsRow per g base st o then ringAdd (s.getF (REC_CCAP_CAP c)) base st r g else g
        let s := s.setSeg o.seg g'
        if recDone per g' base streams o then (s.closeRec c o false false).afterRec c o else s

/-- R255, R272: RECORD_INDEX_COMPLETE: a closed record's index entry becomes COMPLETE. -/
def recordIndexCompleteEff (c : Nat) (s : State) : State :=
  match (if s.sys.refPresent then s.tph.done.find? (fun d => d.1 = c) else none) with
  | none => s
  | some d =>
    let s := { s with tph := { s.tph with done := s.tph.done.filter (fun e => e.2.1 != d.2.1) } }
    let e := s.ridx d.2.1
    (s.setRidx d.2.1 { e with st := 3, trunc := d.2.2.2 }).raise 72 c d.2.2.1

/-! ### Triggers (R254, R257 to R262) -/

/-- R261: does an entry of a class match a trigger? -/
def State.entryHits (s : State) (c e : Nat) (t : RecTrig) : Bool :=
  s.flag (REC_CTRG_EN c e) && s.getF (REC_CTRG_KIND c e) = t.kind && s.getF (REC_CTRG_INDEX c e) = t.index
    && bitN (s.getF (REC_CTRG_EDGE c e)) (if t.rising then 0 else 1)

/-- R259: the entries of a class that the triggers of one cycle hit, by entry number. A command needs no entry of kind 0xA. -/
def State.hits (s : State) (c : Nat) (ts : List RecTrig) : List (Nat × RecTrig) :=
  let ts := ts.filter (fun t => t.cls.isNone || t.cls = some c)
  let es := (upto 32).foldl (fun l e => l ++ (ts.filter (s.entryHits c e)).map (fun t => (e, t))) []
  let bare := ts.filter (fun t => t.kind = 10 && !(upto 32).any (fun e => s.entryHits c e t))
  bare.map (fun t => (0, t)) ++ es

/-- The entry word of a hit (REC_CTRG format). -/
def State.hitWord (s : State) (c : Nat) (h : Nat × RecTrig) : Nat :=
  if s.entryHits c h.1 h.2 then (s.rd (REC_CTRG c h.1)).toNat % 65536 else 0xA00A

/-- R262: TX_EN and TOUT. -/
def State.trigOuts (s : State) (c : Nat) (t : RecTrig) : State :=
  if t.kind = 7 then s
  else
    let s := if s.flag (REC_CCFG_TX_EN c) then s.trigSend (s.getF (REC_CCFG_TXID c)) t.lab else s
    { s with tph := { s.tph with touts := s.tph.touts.mapIdx (fun i o =>
        if bitN (s.getF (REC_CCFG_TOUT c)) i then some (s.ana.strobe + 16) else o) } }

/-- R254: a primary trigger: the ring becomes the record and the next segment its parallel ring. -/
def State.primary (s : State) (c : Nat) (h : Nat × RecTrig) (g : Nat) : RecOpen × State :=
  let x := s.rcls c
  let t := h.2
  let seq := (s.mram.recSeq + 1) % 4294967296
  let s := { s with mram := { s.mram with recSeq := seq } }
  let b := s.sampTb
  let tm := splitTime t.lab
  let o : RecOpen := { seg := g, word := s.hitWord c h, entry := h.1, tau := t.tau, lab := t.lab, tb := b
                       qual := s.sampQual, utc := s.getF TIM_UTC_UTCOFS, fest := s.getF FLT_FEST_FEST
                       seq := seq, pre := x.pre, post := x.post
                       skew := (upto 128).map (fun k => tcBits 16 (s.getI (FLT_TRIM_TRIM k)))
                       adds := [], nadd := 0, mask := t.kind = 6, drop := false, acc := s.now }
  let n := s.takeSeg c (some g)
  let s := match n.1 with | some k => n.2.armSeg c k | none => n.2
  let s := s.setRidx g { st := 2, cls := c, read := false, trunc := false, tb := b, seq := seq, trigS := tm.1, trigNs := tm.2.1 }
  let s := (s.setCls c { x with ring := none, next := n.1, open_ := some o }).incWrap (REC_CCNT_TRIGS c)
  (o, (s.recShow c 2).trigOuts c t)

/-- R259: an additional trigger. -/
def State.additional (s : State) (c : Nat) (h : Nat × RecTrig) (o : RecOpen) : RecOpen :=
  { o with
    nadd := satInc 0xFFFF o.nadd
    adds := if o.adds.length < 15 then o.adds ++ [(s.hitWord c h % 65536 + 65536 * h.1, strobeOf h.2.tau)] else o.adds
    mask := o.mask || h.2.kind = 6 }

/-- R259: the triggers of one Tephra cycle at class `c`. -/
def State.trigClass (s : State) (c : Nat) (ts : List RecTrig) : State :=
  let hs := s.hits c ts
  if !s.flag (REC_CCFG_EN c) || hs.isEmpty then s
  else
    let x := s.rcls c
    match s.recState c with
    | 1 =>
      match hs, x.ring with
      | h :: rest, some g =>
        let p := s.primary c h g
        let o := rest.foldl (fun o a => p.2.additional c a o) p.1
        let s := p.2.setCls c { p.2.rcls c with open_ := some o }
        let base := s.getF (REC_CCFG_BASE c)
        if (endTau (s.basePeriod base) (s.seg g) base o).isSome then
          ((s.raise 75 c g).closeRec c o true false).afterRec c o
        else s
      | _, _ => s
    | 2 => s.setCls c { x with open_ := x.open_.map (fun o => hs.foldl (fun o a => s.additional c a o) o) }
    | _ => s.addSat (REC_CCNT_MISSED c) hs.length

/-- R259: triggers that arrive in one cycle, at every class. -/
def State.trigCycle (s : State) (ts : List RecTrig) : State := (upto 8).foldl (fun s c => s.trigClass c ts) s

/-- R259: TRIGGER_ARRIVAL: the oldest `n` triggers offered reach Tephra in one cycle. -/
def triggerArrivalEff (n : Nat) (s : State) : State :=
  let ts := if s.sys.refPresent then s.tph.offered.take n else []
  ({ s with tph := { s.tph with offered := s.tph.offered.drop ts.length } }).trigCycle ts

/-- R262: TRIG_OUT_PULSE_END: a pulse ends after 16 strobes. -/
def trigOutPulseEndEff (i : Nat) (s : State) : State :=
  match lget none s.tph.touts i with
  | some n => if s.sys.refPresent && n ≤ s.ana.strobe then { s with tph := { s.tph with touts := lset s.tph.touts i none } } else s
  | none => s

/-- Offer a trigger to Tephra. -/
def State.offer (s : State) (t : RecTrig) : State := { s with tph := { s.tph with offered := s.tph.offered ++ [t] } }

/-- R195, R261: TRIG_IN_EDGE: an edge on TRIG_IN[i], sampled at the strobe. -/
def trigInEdgeEff (i : Nat) (rising : Bool) (s : State) : State :=
  if s.protecting && bitN s.sys.ballMap (2 + i) then
    let tau := (s.strobeNow : Int) * strobeTau
    s.offer ⟨8, i, rising, tau, s.labelOf tau, none⟩
  else s

/-- R261: the instant of the quantity an instance was evaluated on: a fast estimate, τ of the f_est cycle, or τ_m. -/
def State.elTau (s : State) (i : Nat) : Int :=
  let ty := s.elType i
  if ty = 0x01 || ty = 0x12 then (16 * (s.flt.geyK : Int) - 128) * strobeTau
  else if ty = 0x0D || ty = 0x0E then (s.flt.tauCyc : Nat)
  else ((s.inst i).lastTau : Nat)

/-- R261: the input latch of a program's scan last written, in strobe time. -/
def State.latchTau (s : State) (k : Nat) : Int := s.tauOf ((s.prog k).wrote * 65536)

/-- R237, R261: the program that writes a logic output. -/
def State.outProg (s : State) (o : Nat) : Nat := b2n (bitN (boundOuts (s.prog 1).calls) o)

/-- R237, R333: the program that holds the RECTRG block of an identifier. -/
def State.trigProg (s : State) (i : Nat) : Nat :=
  b2n ((s.prog 1).calls.any (fun e => e.2.type = 0x42 && callConst (s.prog 1).img e.2 0 = i))

/-- R261: a source's state: PU, OP of an instance, a zone, a binary input, a logic output, a trigger block, FIRE. -/
def State.trigLevel (s : State) (kind i : Nat) : Bool :=
  match kind with
  | 0 => s.flag (PRT_ST_PU i)
  | 1 => s.flag (PRT_ST_OP i)
  | 2 => s.getF (PRT_ZSTAT_OP i) != 0
  | 3 => s.bin i
  | 4 => bitN s.lgcOut i
  | 5 => bitN (s.prog (s.trigProg i)).trig i
  | 9 => bitN (s.getF TRP_DRV_FIRE_DFIRE) i
  | _ => false

/-- R261: the trigger time of a source's edge, in strobe time. -/
def State.trigTau (s : State) (kind i : Nat) : Int :=
  match kind with
  | 0 => s.elTau i
  | 1 => s.elTau i
  | 2 => ((s.zone i).lastTau : Nat)
  | 3 => ((s.strobeNow : Int) - (((s.strobeNow + 4294967296 - s.getF (BIO_IDX_IDX i)) % 4294967296 : Nat) : Int)) * strobeTau
  | 4 => s.latchTau (s.outProg i)
  | 5 => s.latchTau (s.trigProg i)
  | _ => s.tauOf (s.sampAt s.now)

/-- R261: offer the edges between two states that an entry in use names. -/
def State.offerEdges (s0 s : State) : State :=
  (upto 8).foldl (fun s c =>
    if !s.flag (REC_CCFG_EN c) then s
    else (upto 32).foldl (fun s e =>
      let k := s.getF (REC_CTRG_KIND c e)
      let i := s.getF (REC_CTRG_INDEX c e)
      let was := s0.trigLevel k i
      let is := s.trigLevel k i
      if !s.flag (REC_CTRG_EN c e) || was = is
          || s.tph.offered.any (fun t => t.kind = k && t.index = i && t.rising = is && t.tau = s.trigTau k i) then s
      else s.offer ⟨k, i, is, s.trigTau k i, s.labelOf (s.trigTau k i), none⟩) s) s

/-! ### Mask tests (R263) -/

/-- R263: is a tag tested? -/
def maskTag (t : Tag) : Bool := t = .valid || t = .recomputed || t = .substituted

/-- R263: does a sample violate the mask? -/
def maskViol (abs rel : Nat) (x ref : Int) : Bool := decide (abs * 65536 + rel * absN ref < absN (x - ref) * 65536)

/-- R263: a class's count for channel `k` after tracked sample `x` with reference `ref` at `tau`. -/
def State.maskStep (s : State) (c k : Nat) (x ref : Sample) (tau : Int) : State :=
  if !s.flag (REC_CCFG_EN c) || !s.flag (REC_CCFG_MASK_EN c) || !bitN (s.getF (REC_CMCH_MCH c (k / 32))) (k % 32) then s
  else
    let r := s.rcls c
    let run := Store.get (0, 0) r.runs k
    let viol := maskTag x.tag && maskTag ref.tag && maskViol (s.getF (REC_CMABS_TOL_ABS c)) (s.getF (REC_CMASK_TOL_REL c)) x.v ref.v
    let run := if viol then (satInc (s.getF (REC_CMASK_NVIOL c)) run.1, if run.1 = 0 then tau else run.2) else (0, 0)
    s.setCls c { r with runs := Store.set (0, 0) r.runs k run }

/-- R263: the mask tests on the tracked sample of channel `k` that has been released since `s`. -/
def State.maskNew (s : State) (k : Nat) (t : State) : State :=
  if (t.fch k).tNext = (s.fch k).tNext then t
  else
    let x := lget ⟨0, .settling⟩ (t.fch k).hist 0
    let ref := lget ⟨0, .settling⟩ (s.fch k).hist 255
    (upto 8).foldl (fun t c => t.maskStep c k x ref ((s.tauAt (s.fch k).tNext : Nat) : Int)) t

/-- R94, R263: TRACKED_SAMPLE, and the mask tests on the sample it releases. -/
def trackedMaskEff (k : Nat) (up : Upset) (s : State) : State := s.maskNew k (trackedSampleEff k up s)

/-- R99, R263: RECOMPUTE_DONE, and the mask tests on the tracked sample it releases. -/
def recomputeMaskEff (g st c : Nat) (r1 r2 : Int) (s : State) : State := s.maskNew c (recomputePublishEff g st c r1 r2 s)

/-- R263: MASK_VIOLATION: a channel's count has reached NVIOL; the count starts again from 0. -/
def maskViolationEff (c k : Nat) (s : State) : State :=
  let r := s.rcls c
  let run := Store.get (0, 0) r.runs k
  if !s.sys.refPresent || !s.flag (REC_CCFG_EN c) || !s.flag (REC_CCFG_MASK_EN c) || run.1 = 0 || run.1 < s.getF (REC_CMASK_NVIOL c) then s
  else
    let s := s.setCls c { r with runs := Store.set (0, 0) r.runs k (0, 0) }
    s.offer ⟨6, 0, true, run.2, s.labelOf run.2, some c⟩

/-! ### Requests (R252, R260) -/

/-- R21, R260: ARM. -/
def State.recArm (c : Nat) (s : State) : Status × State :=
  if !s.protecting || s.recState c = 3 then (.stateDenied, s)
  else
    let s := s.setFlag (REC_CSTAT_MASKSTOP c) false
    if s.recState c != 0 then (.ok, s)
    else
      let n := s.takeSeg c none
      match n.1 with
      | some g => (.ok, ((n.2.armSeg c g).setCls c { n.2.rcls c with ring := some g }).recShow c 1)
      | none => (.ok, n.2.recShow c 3)

/-- R260: DISARM. -/
def State.recDisarm (c : Nat) (s : State) : Status × State :=
  let x := s.rcls c
  match s.recState c with
  | 1 => (.ok, ((s.freeSeg c x.ring).setCls c { x with ring := none }).recShow c 0)
  | 2 => (.ok, s.setCls c { x with disarm := true })
  | _ => (.ok, s.recShow c 0)

/-- R250 to R252: APPLY: the pair as written. -/
def State.recApply (c : Nat) (s : State) : Status × State :=
  let x := s.rcls c
  let pre := s.getF (REC_CPRE_PRE c)
  let post := s.getF (REC_CPOST_POST c)
  let cap := s.getF (REC_CCAP_CAP c)
  let back := (s.setF (REC_CPRE_PRE c) x.pre).setF (REC_CPOST_POST c) x.post
  if !s.protecting then (.stateDenied, back)
  else if post = 0 || cap < post || cap ≤ pre then (.valueRange, back)
  else if cap < pre + post then (.lenRange, back)
  else (.ok, s.setCls c { x with pre := pre, post := post })

/-- R259, R260: TRIG: a trigger of kind command, at its acceptance. -/
def State.recTrig (c : Nat) (s : State) : Status × State :=
  if !s.protecting then (.stateDenied, s)
  else
    let lab := s.sampAt s.now
    (.ok, s.trigClass c [⟨10, 0, true, s.tauOf lab, lab, some c⟩])

/-- R260, R275: a word written to REC_CCTL[c]: TRIG, ARM, DISARM, APPLY in that order, to the first one refused. -/
def State.recCctlW (c v : Nat) (s : State) : Status × State :=
  if v % 16 = 0 then (.ok, s)
  else if !s.flag (REC_CCFG_EN c) then (.valueRange, s)
  else
    let go (b : Nat) (f : State → Status × State) (r : Status × State) : Status × State :=
      if r.1 = .ok && bitN v b then f r.2 else r
    go 2 (State.recApply c) (go 1 (State.recDisarm c) (go 0 (State.recArm c) (go 3 (State.recTrig c) (.ok, s))))

/-- R252, R481: a refused APPLY restores the registers although the write is refused. -/
def State.cctlWrite (s : State) (r : Requester) (c v : Nat) : Status × State :=
  let o := s.hostWrite r (REC_CCTL c) (State.recCctlW c v)
  if o.1 != .ok && bitN v 2 && s.judge r (REC_CCTL c) = .allowed && s.flag (REC_CCFG_EN c) then
    (o.1, (o.2.setF (REC_CPRE_PRE c) (s.rcls c).pre).setF (REC_CPOST_POST c) (s.rcls c).post)
  else o

/-- R260: REC_CCTL_ARM. -/
def recCctlArmEff (r : Requester) (c : Nat) (s : State) : State := (s.cctlWrite r c 1).2
/-- R260: REC_CCTL_DISARM. -/
def recCctlDisarmEff (r : Requester) (c : Nat) (s : State) : State := (s.cctlWrite r c 2).2
/-- R252: REC_CCTL_APPLY. -/
def recCctlApplyEff (r : Requester) (c : Nat) (s : State) : State := (s.cctlWrite r c 4).2
/-- R261: REC_CCTL_TRIG. -/
def recCctlTrigEff (r : Requester) (c : Nat) (s : State) : State := (s.cctlWrite r c 8).2

/-- R260: a class with AUTOARM arms when the device mode first becomes RUN. -/
def State.recAutoArm (s : State) : State :=
  if s.tph.armed then s
  else (upto 8).foldl (fun s c =>
    if s.flag (REC_CCFG_EN c) && s.flag (REC_CCFG_AUTOARM c) then (s.recArm c).2 else s)
    { s with tph := { s.tph with armed := true } }

/-- R260: a class at entry to SAFE: its record in POST closes truncated, its segments become FREE, it is DISARMED. -/
def State.recSafeCls (s : State) (c : Nat) : State :=
  let x := s.rcls c
  let s := match x.open_ with
    | some o => s.closeRec c o false true
    | none => s
  let s := ((s.freeSeg c x.ring).freeSeg c x.next).setCls c { x with ring := none, next := none, open_ := none, disarm := false }
  if s.flag (REC_CCFG_EN c) then s.recShow c 0 else s

/-- R260: entry to SAFE: records in POST close truncated and COMPLETE, rings become FREE, classes DISARMED. -/
def State.recSafe (s : State) : State :=
  let s := (upto 8).foldl (fun s c => s.recSafeCls c) s
  (upto 8).foldl (fun s c => (s.tph.done.filter (fun d => d.1 = c)).foldl (fun s _ => recordIndexCompleteEff c s) s) s

/-- R273: record memory is lost at a start: ARMED becomes FREE, POST and COMPLETE become LOST. -/
def State.recStart (s : State) : State :=
  let lost (e : RecIdxEntry) : RecIdxEntry :=
    if e.st = 1 then { e with st := 0 } else if e.st = 2 || e.st = 3 then { e with st := 5 } else e
  let idx := (s.mram.recIdx.map (fun e => (e.1, lost e.2))).filter (fun e => e.2 != resetIdx)
  { s with tph := resetRec, mram := { s.mram with recIdx := idx } }

/-! ### The record window (R266, R271) -/

/-- R266: Q of a tag code: 0 for VALID and RECOMPUTED. -/
def qBit (t : Nat) : Bool := !(t = 0 || t = 5)

/-- Status bits packed 16 per 2-byte word. -/
def packStatus (l : List Bool) : List Nat :=
  bitBytes (2 * ((l.length + 15) / 16)) (fun k => lget false l k)

/-- R266: one channel's value of a RAW, STD or TRK row in the COMTRADE view. -/
def ctValue (st n k : Nat) (bytes : List Nat) : List Nat :=
  let w := if st = 0 then 3 else 4
  let tags := bytes.drop (w * n)
  let tag := lget 0 tags (k / 2) / (if k % 2 = 0 then 1 else 16) % 16
  let v := ofLe ((bytes.drop (w * k)).take w)
  if tag = 7 then leBytes 4 0x80000000 else leBytes 4 (tcBits 32 (sext (8 * w) v))

/-- The tag code of a channel in a RAW, STD or TRK row. -/
def rowTag (st n k : Nat) (bytes : List Nat) : Nat :=
  lget 0 (bytes.drop ((if st = 0 then 3 else 4) * n)) (k / 2) / (if k % 2 = 0 then 1 else 16) % 16

/-- R266: one data record of the COMTRADE view; `i` the sample number, `t0` the first row's instant. -/
def ctRow (st n binSel : Nat) (i : Nat) (t0 : Int) (r : RecRow) : List Nat :=
  let us := tcBits 32 (divHalfEven (r.lab - t0) 65536000)
  leBytes 4 i ++ leBytes 4 us ++
    (match st with
     | 3 => ((upto n).map (fun k =>
         let e := r.bytes.drop (128 * k)
         if lget 0 e 0 % 16 = 7 then leBytes 4 0x80000000 ++ leBytes 4 0x80000000 ++ leBytes 4 0x80000000
         else (e.drop 4).take 12)).flatten ++ packStatus ((upto n).map (fun k => qBit (lget 0 r.bytes (128 * k) % 16)))
     | 4 =>
       let sec (on : Bool) (a b : Nat) : List Nat := if on then (r.bytes.drop a).take b else []
       sec (bitN binSel 0) 4 8 ++ sec (bitN binSel 1) 12 128 ++ sec (bitN binSel 2) 140 32 ++ sec (bitN binSel 3) 172 8
     | _ => ((upto n).map (fun k => ctValue st n k r.bytes)).flatten ++ packStatus ((upto n).map (fun k => qBit (rowTag st n k r.bytes))))

/-- Channels of a stored record's stream. -/
def segChans (g : RecSeg) (st : Nat) : Nat := ((upto (if st < 2 then 64 else 128)).filter (fun k => bitN g.chans k)).length

/-- R266, R271: the bytes of a view. -/
def viewBytes (g : RecSeg) (st : Nat) (native : Bool) : List Nat :=
  if native then g.header ++ (g.rows.map (fun l => (l.reverse.map (·.bytes)).flatten)).flatten
  else
    let rows := (lget [] g.rows st).reverse
    let t0 := match rows.head? with | some r => r.lab | none => 0
    (rows.mapIdx (fun i r => ctRow st (segChans g st) g.binSel (i + 1) t0 r)).flatten

/-- R276: REC_WLEN. -/
def State.recWlen (s : State) : Nat :=
  match s.tph.wsel with
  | some g => (viewBytes (s.seg g) (s.getF REC_WSEL_STREAM) (s.flag REC_WSEL_VIEW)).length
  | none => 0

/-- R266: where in its stored row each byte of a COMTRADE data record stands; none for the sample number, the timestamp and the Q
bits, which are no bytes of record memory. -/
def ctSrc (st n binSel : Nat) : List (Option Nat) :=
  let q := List.replicate (2 * ((n + 15) / 16)) none
  List.replicate 8 none ++
    match st with
    | 3 => (upto n).flatMap (fun k => (upto 12).map (fun j => some (128 * k + 4 + j))) ++ q
    | 4 => [(0, 4, 8), (1, 12, 128), (2, 140, 32), (3, 172, 8)].flatMap (fun (e : Nat × Nat × Nat) =>
        if bitN binSel e.1 then (upto e.2.2).map (fun j => some (e.2.1 + j)) else [])
    | _ =>
      let w := if st = 0 then 3 else 4
      (upto n).flatMap (fun k => (upto 4).map (fun j => some (w * k + Nat.min j (w - 1)))) ++ q

/-- R265, R266, R271: where in the segment the byte at an offset of a view stands. -/
def viewByte (g : RecSeg) (st : Nat) (native : Bool) (o : Nat) : Option Nat :=
  if native then some o
  else
    let size (r : List RecRow) : Nat := r.foldl (fun n x => n + x.bytes.length) 0
    let src := ctSrc st (segChans g st) g.binSel
    let row := match lget [] g.rows st with | r :: _ => r.bytes.length | [] => 0
    (lget none src (o % src.length)).map (fun b => g.header.length + ((g.rows.take st).map size).foldl (· + ·) 0 + o / src.length * row + b)

/-- R427: is an access to the record window secure? A word is judged by the first of its bytes that is one of record memory, a word with
none by the segment's first byte (DESIGN CHOICE, log 136). -/
def State.windowSecure (s : State) (a : Nat) : Bool :=
  match s.tph.wsel with
  | none => false
  | some g =>
    let o := s.getF REC_WIN_BASE_OFS * 4096 + (a - 0x200000) / 4 * 4
    let size := match s.segClass g with | some c => s.segSize c | none => 1
    let byte (j : Nat) : Option Nat := viewByte (s.seg g) (s.getF REC_WSEL_STREAM) (s.flag REC_WSEL_VIEW) (o + j)
    let at_ := if o < s.recWlen then ((upto 4).findSome? byte).getD 0 else 0
    s.regionSecure (s.segByte g + Nat.min at_ (size - 1))

/-- R271, R427, R431: RECORD_WINDOW_READ: one word of the window. -/
def State.windowRead (s : State) (r : Requester) (a : Nat) : Nat × State :=
  if !s.sys.mapOn then (0, s)
  else if s.windowSecure a && !s.reqSecure r then (0, s.deny r a false)
  else
    match s.tph.wsel with
    | none => (0, s.setFlag REC_WSTAT_EOV true)
    | some g =>
      let v := viewBytes (s.seg g) (s.getF REC_WSEL_STREAM) (s.flag REC_WSEL_VIEW)
      let o := s.getF REC_WIN_BASE_OFS * 4096 + (a - 0x200000) / 4 * 4
      if v.length ≤ o then (0, s.setFlag REC_WSTAT_EOV true)
      else (ofLe ((v.drop o).take 4), s.setRidx g { s.ridx g with read := true })

/-- R271, R482: RECORD_WINDOW_WRITE: changes nothing and records VALUE_RANGE. -/
def State.windowWrite (s : State) (r : Requester) (a : Nat) : Status × State :=
  if !s.sys.mapOn then (.stateDenied, s.recordWrite r a .stateDenied)
  else if s.windowSecure a && !s.reqSecure r then (.worldDenied, (s.deny r a true).recordWrite r a .worldDenied)
  else (.valueRange, s.recordWrite r a .valueRange)

/-- RECORD_WINDOW_READ. -/
def recordWindowReadEff (r : Requester) (o : Nat) (s : State) : State :=
  let x := s.windowRead r (0x200000 + o)
  { x.2 with sys := { x.2.sys with readBuf := [x.1] } }

/-- RECORD_WINDOW_WRITE. -/
def recordWindowWriteEff (r : Requester) (o : Nat) (s : State) : State := (s.windowWrite r (0x200000 + o)).2

/-- R427, R431: a write that names a segment, judged by the region of the segment's first byte. -/
def State.segWrite (s : State) (r : Requester) (a g : Nat) (eff : State → Status × State) : Status × State :=
  if s.judge r a = .allowed && s.regionSecure (s.segByte g) && !s.reqSecure r then
    (.worldDenied, (s.deny r a true).recordWrite r a .worldDenied)
  else s.hostWrite r a eff

/-- R271: REC_WSEL. -/
def State.recWselW (v : Nat) (s : State) : Status × State :=
  let g := v % 4096
  let st := v / 4096 % 8
  if 5 ≤ st then (.valueRange, s)
  else if (s.ridx g).st != 3 then (.stateDenied, s)
  else if !bitN (s.seg g).streams st then (.valueRange, s)
  else (.ok, (({ s with tph := { s.tph with wsel := some g } }).setFlag REC_WSTAT_SEL true).wr REC_WSEL (BitVec.ofNat 32 (v % 65536)))

/-- R258, R271: release a segment. -/
def State.recRelease (g : Nat) (s : State) : Status × State :=
  if 4096 ≤ g then (.valueRange, s)
  else if (s.ridx g).st != 3 then (.stateDenied, s)
  else
    let s := s.setRidx g { s.ridx g with st := 4 }
    let s := if s.tph.wsel = some g then ({ s with tph := { s.tph with wsel := none } }).setFlag REC_WSTAT_SEL false else s
    match s.segClass g with
    | some c =>
      if s.flag (REC_CCFG_EN c) && s.recState c = 3 then
        (.ok, ((s.armSeg c g).setCls c { s.rcls c with ring := some g }).recShow c 1)
      else (.ok, s.setSeg g resetSeg)
    | none => (.ok, s.setSeg g resetSeg)

/-- R271: REC_WSEL_WRITE. -/
def recWselWriteEff (r : Requester) (v : Nat) (s : State) : State := (s.segWrite r REC_WSEL (v % 4096) (State.recWselW v)).2

/-- R271: REC_REL_WRITE. -/
def recRelWriteEff (r : Requester) (v : Nat) (s : State) : State := (s.segWrite r REC_REL (v % 4096) (State.recRelease v)).2

/-- R272: word `k` of an index entry. -/
def idxWord (e : RecIdxEntry) (k : Nat) : Nat :=
  match k with
  | 0 => e.seq % 4294967296
  | 1 => e.trigS % 4294967296
  | 2 => e.trigNs % 1073741824
  | _ => e.st % 8 + 8 * (e.cls % 8) + 64 * b2n e.read + 128 * b2n e.trunc + 256 * (e.tb % 16) + 65536 * (e.trigS / 4294967296 % 65536)

end Sys2Proof.Machine
end

