-- ==== Sys2Proof/Machine/Access.lean ====
section
/-!
DEFINITION. Host accesses (17 R478 to R492; 16 R466, R470 to R472, R477; 10 R346): what each register reads as, what a write
does, the two-halves rule, reserved space, and the xSPI target.
-/
namespace Sys2Proof.Machine

/-! ### Event entries as bytes (R466) -/

/-- R466: the 32 bytes of an entry; `log` for the copy in the log, which alone shows DROPPED_BEFORE (R471). -/
def entryBytes (log : Bool) (e : EvtEntry) : List Nat :=
  let flags := e.sev % 4 + 4 * b2n e.prestart + 8 * b2n e.notime + 128 * b2n (log && e.dropped)
  let b := leBytes 4 e.eseq ++ [e.src, flags] ++ leBytes 2 e.inst ++ leBytes 6 e.sec ++ [e.qual % 256, e.tb % 256] ++
    leBytes 4 e.ns ++ leBytes 4 e.idx ++ leBytes 4 e.data ++ leBytes 2 e.rep
  b ++ leBytes 2 (crc16 b)

/-- The eight words of an entry. -/
def entryWords (log : Bool) (e : EvtEntry) : List Nat := leWords 8 (entryBytes log e)

/-- R471: the log entry EVT_LSEL names, if one has been written there. -/
def State.logSel (s : State) : Option EvtEntry :=
  (s.mram.log.find? (fun p => p.1 = s.getF EVT_LSEL_IDX)).map (·.2)

/-- R472: is a log entry that of a secure source? -/
def State.logSecure (s : State) : Bool :=
  match s.logSel with
  | some e => if e.src = 127 then e.inst = 1 else s.srcSecure e.src
  | none => false

/-! ### Live values of registers (R490, R492, R444, R477, R276, R363, R80, R201) -/

/-- R434: the key check value of a slot. -/
def kcv (k : KeySlot) : List Nat := (hmacSha256 k.key (List.replicate 32 0)).take 3

/-- R490: SYS_MODE. -/
def State.sysMode (s : State) : Nat :=
  let b := s.mram.boot
  let mode := match s.mode with | .boot => 0 | .run => 1 | .test => 2 | .safe => 3
  mode + 4 * s.getF SYS_MODE_ACTIVE + 8 * (b.startCause % 8) + 64 * (if s.mode == .safe then b.safeCause % 8 else 0) +
    512 * (if s.sys.mapOn then b.booted % 2 else 0) + 1024 * (b.pref % 2) + 2048 * b2n s.sys.straps.partner +
    4096 * b2n s.sys.straps.slotB + 8192 * b2n s.sys.straps.hold + 16384 * b2n s.sys.held

/-- R492: SYS_XSTAT. -/
def State.sysXstat (s : State) : Nat :=
  s.getF CMD_STAT_BUSY + 2 * s.getF CMD_STAT_RDY + 4 * b2n (!s.evt.q0.isEmpty) + 8 * b2n (!s.evt.q1.isEmpty) +
    16 * (s.sysMode % 4) + 64 * s.getF SYS_MODE_ACTIVE + 128 * s.getF (SYS_ACC_STALE_HALF 0)

/-- R469: is a queue's ball driven low? -/
def State.ballLow (s : State) (q : Nat) : Bool := s.evt.ballsHeld || (s.sys.mapOn && !(s.queue q).isEmpty)

/-- A word with a field replaced. -/
def putF (w : Nat) (f : Field) (v : Nat) : Nat := (setBits (BitVec.ofNat 32 w) f.lo f.width v).toNat

/-- R444: SEC_STAT. -/
def State.secStat (s : State) : Nat :=
  let w := (s.rd SEC_STAT).toNat
  let w := putF (putF w SEC_STAT_TRNG_OK (b2n s.sec.trngOk)) SEC_STAT_RL (b2n (s.limited 0) + 2 * b2n (s.limited 1))
  putF (putF w SEC_STAT_OTP0 (lget ⟨0, 0⟩ s.sec.otp 0).st) SEC_STAT_OTP1 (lget ⟨0, 0⟩ s.sec.otp 1).st

/-- R444: SEC_KSTAT of a slot. -/
def State.secKstat (s : State) (k : Nat) : Nat :=
  let x := s.keySlot k
  let m := s.getF (SEC_WMAP_MAP 7)
  x.st + 4 * b2n (bitN m (8 + k)) + 8 * b2n (bitN m (16 + k)) + 256 * (if x.st = 1 then ofLe (kcv x) else 0)

/-- R444: SEC_OTPH: bytes 4w to 4w + 3 of a slot's hash. -/
def State.secOtph (s : State) (h w : Nat) : Nat :=
  let o := lget ⟨0, 0⟩ s.sec.otp h
  if o.st = 0 then 0 else leAt (beBytes 32 o.hash) (4 * w) 4

/-- R477: the oldest entry's word of a queue, 0 when it is empty. -/
def State.qWord (s : State) (q k : Nat) : Nat :=
  match s.queue q with
  | [] => 0
  | e :: _ => lget 0 (entryWords false e) k

/-- R477: EVT_SEEN as a requester sees it. -/
def State.seenMask (s : State) (r : Requester) (w : Nat) : Nat :=
  if s.reqSecure r then 0xFFFFFFFF
  else (upto 32).foldl (fun m i => if s.srcSecure (32 * w + i) then m else m + 2 ^ i) 0

/-- R348: CARRY in ns, saturated. -/
def State.carryNs (s : State) : Nat := tcBits 32 (clampI (-2147483647) 2147483647 (s.carryAt s.now / 65536))

/-- R363: the three words of a time base's present time. -/
def State.nowWord (s : State) (b k : Nat) : Nat :=
  let v := splitTime (s.tbAt b s.now)
  match k with
  | 0 => v.2.1
  | 1 => v.1 % 4294967296
  | _ => v.1 / 4294967296 % 65536 + 65536 * v.2.2

/-- R155, R163, R167: PRT_BSTAT of a bay: cold load and a forward surge are shown for as long as they last. -/
def State.bayStat (s : State) (b : Nat) : Nat :=
  let v := s.ahead
  putF (putF (v.rd (PRT_BSTAT b)).toNat (PRT_BSTAT_CLP b) (b2n (v.inClp b))) (PRT_BSTAT_ISE_FWD b) (b2n (v.iseFwd b))

/-- What a register reads as to a requester: the register file's word, or where the value stands elsewhere, that. -/
def State.live (s : State) (r : Requester) (f : RegFam) (i j a : Nat) : Nat :=
  let w := (s.rd a).toNat
  match f.name with
  | .SYS_ROM => putF w SYS_ROM_GRADE (b2n Config.gradeXB)
  | .SYS_MODE => s.sysMode
  | .SYS_UPTIME => s.mram.boot.uptime % 4294967296
  | .SYS_ACC => putF w (SYS_ACC_CAPT i) (b2n (lget none s.sys.caps i).isSome)
  | .SYS_XSTAT => s.sysXstat
  | .SEC_STAT => s.secStat
  | .SEC_KSTAT => s.secKstat i
  | .SEC_KCNT_LO => lget 0 s.mram.keyCnt i % 4294967296
  | .SEC_KCNT_HI => lget 0 s.mram.keyCnt i / 4294967296
  | .SEC_OTPH => s.secOtph i j
  | .AUX_QSTAT => putF w AUX_QSTAT_LEVEL s.aux.queue.length
  | .AUX_QDATA_HI => match s.aux.queue with | [] => 0 | e :: _ => lget 0 (auxWords e) 1
  | .PRT_ST => if s.elType i = 0 then 0 else (s.ahead.rd a).toNat
  | .PRT_ACC => if s.elType i = 0 then 0 else (s.ahead.rd a).toNat
  | .PRT_ZSTAT => (s.ahead.rd a).toNat
  | .PRT_BSTAT => s.bayStat i
  | .DBG_STAT => putF (putF w DBG_STAT_TARGET s.dbgSel) DBG_STAT_HALTED (b2n s.dbgHalted)
  | .LGC_XSTAT => putF w LGC_XSTAT_SLOT s.mram.boot.booted
  | .OZX_PSTAT => putF w OZX_PSTAT_ROLE (b2n s.sys.straps.partner)
  | .TRP_OPCNT => Store.get 0 s.mram.opCnt i
  | .REC_WLEN => s.recWlen
  | .REC_IDXW => idxWord (s.ridx (s.getF REC_IDXSEL_SEG)) i
  | .REC_SEQ => s.mram.recSeq
  | .TIM_NOW_LO => s.nowWord i 0
  | .TIM_NOW_HI => s.nowWord i 1
  | .TIM_NOW_X => s.nowWord i 2
  | .TIM_CARRY => s.carryNs
  | .NET_DDT => putF w NET_DDT_LEVEL (s.ddtLive s.net.ddt).length
  | .EVT_QSTAT => putF (putF w (EVT_QSTAT_LEVEL i) (s.queue i).length) (EVT_QSTAT_BALL i) (b2n (s.ballLow i))
  | .EVT_QDATA => s.qWord i j
  | .EVT_SEEN => Nat.land w (s.seenMask r i)
  | .EVT_LOG => putF (putF w EVT_LOG_HEAD s.mram.logHead) EVT_LOG_WRAPPED (b2n s.mram.logWrapped)
  | .EVT_ESEQ => s.mram.eseq
  | .EVT_LDATA => match s.logSel with | some e => lget 0 (entryWords true e) i | none => 0
  | _ => w

/-- The live value of the register at an address (0 where there is none). -/
def State.liveAt (s : State) (r : Requester) (a : Nat) : Nat :=
  match regAt a with
  | some (f, i, j) => s.live r f i j a
  | none => 0

/-! ### Reads (R431, R483, R484, R487, R488) -/

/-- R487: the quantity a register is a word of: its capture word's address, its number of words, which word. -/
def capOf (n : RegName) (i j : Nat) : Option (Nat × Nat × Nat) :=
  match n with
  | .SYS_IMGID_LO => some (SYS_IMGID_LO, 2, 0)
  | .SYS_IMGID_HI => some (SYS_IMGID_LO, 2, 1)
  | .AUX_QDATA_LO => some (AUX_QDATA_LO, 2, 0)
  | .AUX_QDATA_HI => some (AUX_QDATA_LO, 2, 1)
  | .PRT_ISE_TLO => some (PRT_ISE_TLO i, 2, 0)
  | .PRT_ISE_THI => some (PRT_ISE_TLO i, 2, 1)
  | .BIO_STATE_LO => some (BIO_STATE_LO, 2, 0)
  | .BIO_STATE_HI => some (BIO_STATE_LO, 2, 1)
  | .BIO_RAW_LO => some (BIO_RAW_LO, 2, 0)
  | .BIO_RAW_HI => some (BIO_RAW_LO, 2, 1)
  | .BIO_TLO => some (BIO_TLO i, 2, 0)
  | .BIO_THI => some (BIO_TLO i, 2, 1)
  | .TIM_NOW_LO => some (TIM_NOW_LO i, 3, 0)
  | .TIM_NOW_HI => some (TIM_NOW_LO i, 3, 1)
  | .TIM_NOW_X => some (TIM_NOW_LO i, 3, 2)
  | .TIM_PEND_LO => some (TIM_PEND_LO i, 2, 0)
  | .TIM_PEND_HI => some (TIM_PEND_LO i, 2, 1)
  | .TIM_GM_LO => some (TIM_GM_LO i, 2, 0)
  | .TIM_GM_HI => some (TIM_GM_LO i, 2, 1)
  | .NET_MAC_LO => some (NET_MAC_LO, 2, 0)
  | .NET_MAC_HI => some (NET_MAC_LO, 2, 1)
  | .SEC_KCNT_LO => some (SEC_KCNT_LO i, 2, 0)
  | .SEC_KCNT_HI => some (SEC_KCNT_LO i, 2, 1)
  | .EVT_QDATA => some (EVT_QDATA i 0, 8, j)
  | .EVT_LDATA => some (EVT_LDATA 0, 8, i)
  | _ => none

/-- R483: an access to reserved space is noted. -/
def State.rsvSeen (s : State) (r : Requester) (a : Nat) : State :=
  (s.setFlag (SYS_ACC_RSV_SEEN (reqIdx r)) true).setF (SYS_RSVA_ADDR (reqIdx r)) a

/-- R488: a following word: the buffered one, or the live one noted as stale. -/
def State.followWord (s : State) (r : Requester) (c k a : Nat) : Nat × State :=
  let stale : Nat × State :=
    (s.liveAt r a, (s.setFlag (SYS_ACC_STALE_HALF (reqIdx r)) true).setF (SYS_STALEA_ADDR (reqIdx r)) a)
  match lget none s.sys.caps (reqIdx r) with
  | some b => if b.at_ = c then (lget 0 b.words k, s) else stale
  | none => stale

/-- A read of the register at an address that the world check allows. -/
def State.readReg (s : State) (r : Requester) (a : Nat) : Nat × State :=
  match regAt a with
  | none => (0, s.rsvSeen r a)
  | some (f, i, j) =>
    if f.name = .EVT_LDATA && s.logSecure && !s.reqSecure r then (0, s.deny r a false)
    else
      match capOf f.name i j with
      | none => (s.live r f i j a, s)
      | some (c, n, k) =>
        if k != 0 then s.followWord r c k a
        else if f.name = .AUX_QDATA_LO then s.auxPop r
        else
          let ws := (upto n).map (fun k => s.liveAt r (c + 4 * k))
          (lget 0 ws 0, s.capture r c ws)

/-- R431, R478, R483, R484: a requester reads the word at a word address. -/
def State.readWord (s : State) (r : Requester) (a : Nat) : Nat × State :=
  if a < 0x200000 then s.hostRead r a (fun s => s.readReg r a)
  else if a < 0x800000 then s.windowRead r a
  else if s.sys.mapOn then (0, s.rsvSeen r a)
  else (0, s)

/-! ### Writes (R431, R481 to R484) -/

/-- R5, R480, R481: a write to a register whose fields have no behaviour of their own; a W1C or RWS bit that the engine has set in this
very instant stays set (log 134). -/
def State.plainWrite (f : RegFam) (a v : Nat) (s : State) : Status × State :=
  let old := s.rd a
  let fresh := old &&& ~~~(Store.get (rstWord a) s.regs0 a)
  let w := BitVec.ofNat 32 v
  let set := (old &&& ~~~(BitVec.ofNat 32 f.rw)) ||| (w &&& BitVec.ofNat 32 f.rw)
  (.ok, s.wr a (set &&& ~~~(w &&& ~~~fresh &&& BitVec.ofNat 32 (Nat.lor f.w1c f.rws))))

/-- R492: SYS_XCFG. -/
def State.sysXcfgW (v : Nat) (s : State) : Status × State :=
  if 8 ≤ v % 32 then (.ok, s.setF SYS_XCFG_LAT v) else (.valueRange, s)

/-- Actions of one register in turn; the first refusal refuses the write. -/
def actAll : List (Bool × (State → Status × State)) → State → Status × State
  | [], s => (.ok, s)
  | (on, f) :: rest, s =>
    if !on then actAll rest s
    else
      match f s with
      | (.ok, s') => actAll rest s'
      | e => e

/-- R80: AUX_CTL, its actions in bit order. -/
def State.auxCtlW (v : Nat) (s : State) : Status × State :=
  actAll [(bitN v 0, State.auxStartW), (bitN v 1, State.auxStopW), (bitN v 2, State.auxClrW), (bitN v 3, State.auxFlushW)] s

/-- R346: a write to TIM_SAMP. -/
def State.timSampW (v : Nat) (s : State) : Status × State :=
  let b := v % 4
  let st := s.getF (TIM_STAT_STATE b)
  if !(s.mode == .test) then (.notInTest, s)
  else if s.flag TIM_SAMP_COMPAT || st = 0 || st = 5 then (.stateDenied, s)
  else if b = s.getF TIM_SAMP_SAMP_TB then (.ok, s)
  else
    let s := (s.setF TIM_SAMP_SAMP_TB b).putUtc
    let s := (upto 8).foldl (fun s g =>
      if s.chainState g != 0 then s.setFgrp g { s.fgrp g with resetReq := true } else s) s
    (.ok, s.raise 94 0 b)

/-- R364: a write to TIM_IRIG. -/
def State.timIrigW (v : Nat) (s : State) : Status × State :=
  let y := v / 65536 % 65536
  if 2000 ≤ y && y ≤ 2255 then (.ok, s.setF TIM_IRIG_YEAR y) else (.valueRange, s)

/-- R470: remove the `n` oldest entries of a queue. -/
def State.ackEvents (s : State) (q n : Nat) : State := s.setQueue q ((s.queue q).drop n)

/-- R470: may `n` entries of a queue be acknowledged? -/
def State.ackOk (s : State) (q n : Nat) : Bool := n != 0 && decide (n ≤ (s.queue q).length)

/-- R470, R477: a write to EVT_QACK. -/
def State.qackW (q v : Nat) (s : State) : Status × State :=
  let n := v % 8192
  if s.ackOk q n then (.ok, s.ackEvents q n) else (.ok, s.setFlag (EVT_QSTAT_ACK_ERR q) true)

/-- Has a write to a register a command of its own? -/
def hasOwnWrite (n : RegName) : Bool :=
  match n with
  | .CMD_DB | .CNV_REFREQ | .AUX_CTL | .AUX_SNAP_GO | .FLT_CTL | .FLT_BANK | .FLT_CDATA | .FLT_CCMT | .FLT_PHSEL | .FLT_TRIM
  | .REC_CCTL | .REC_WSEL | .REC_REL | .TIM_SAMP | .NET_MDIO | .EVT_QACK => true
  | _ => false

/-- What a write to a register does once the world check has allowed it. -/
def State.regWrite (r : Requester) (f : RegFam) (i _j a v : Nat) (s : State) : Status × State :=
  match f.name with
  | .SYS_XCFG => s.sysXcfgW v
  | .CMD_REQ => s.cmdReqW i v
  | .CMD_DB => s.cmdDbW v
  | .CNV_REFREQ => s.refReq i v
  | .AUX_CFG => s.auxCfgW v
  | .AUX_PERIOD => s.auxPeriodW v
  | .AUX_CTL => s.auxCtlW v
  | .AUX_SNAP_GO => if bitN v 0 then s.auxSnapW else (.ok, s)
  | .AUX_ENT => s.auxEntW i v
  | .FLT_CTL => s.fltCtlW i v
  | .FLT_BANK => s.fltBankW i v
  | .FLT_CADDR => s.fltCaddrW v
  | .FLT_CDATA => s.fltCdataW v
  | .FLT_CCMT => s.fltCcmtW v
  | .FLT_PHSEL => s.fltPhselW v
  | .FLT_TRIM => s.fltTrimW i v
  | .REC_WSEL => s.recWselW v
  | .REC_REL => s.recRelease v
  | .TIM_SAMP => s.timSampW v
  | .TIM_IRIG => s.timIrigW v
  | .NET_MDIO => s.mdioW v
  | .EVT_QACK => s.qackW i v
  | .EVT_SEEN => State.plainWrite f a (Nat.land v (s.seenMask r i)) s
  | _ => State.plainWrite f a v s

/-- R483: a write to reserved space, once the world check has allowed it. -/
def State.reservedWrite (s : State) (r : Requester) (a : Nat) : Status × State :=
  (.valueRange, (s.rsvSeen r a).recordWrite r a .valueRange)

/-- R431, R478, R482 to R484: a requester writes the word at a word address. -/
def State.writeWord (s : State) (r : Requester) (a v : Nat) : Status × State :=
  if a < 0x200000 then
    match regAt a with
    | some (f, i, j) =>
      if f.name = .REC_CCTL then s.cctlWrite r i v
      else if f.name = .REC_WSEL || f.name = .REC_REL then s.segWrite r a (v % 4096) (State.regWrite r f i j a v)
      else s.hostWrite r a (State.regWrite r f i j a v)
    | none => if s.judge r a = .allowed then s.reservedWrite r a else s.hostWrite r a (fun s => (.ok, s))
  else if a < 0x800000 then s.windowWrite r a
  else if s.sys.mapOn then s.reservedWrite r a
  else (.stateDenied, s.recordWrite r a .stateDenied)

/-! ### Bursts (R456, R485, R486) -/

/-- Words from an address upwards. -/
def State.readWords (r : Requester) : Nat → Nat → State → List Nat × State
  | 0, _, s => ([], s)
  | n + 1, a, s =>
    let x := s.readWord r a
    let y := State.readWords r n (a + 4) x.2
    (x.1 :: y.1, y.2)

/-- R486: words of a burst before it crosses 0x0020_0000 or 0x0080_0000. -/
def burstRoom (a n : Nat) : Nat :=
  if a < 0x200000 then Nat.min n ((0x200000 - a) / 4)
  else if a < 0x800000 then Nat.min n ((0x800000 - a) / 4)
  else n

/-- R486: the xSPI target notes an error. -/
def State.xerr (s : State) : State := s.setFlag (SYS_ACC_XERR 0) true

/-- Write words from an address upwards, each whatever the one before answered. -/
def State.writeWords (r : Requester) : List Nat → Nat → State → State
  | [], _, s => s
  | v :: vs, a, s => State.writeWords r vs (a + 4) (s.writeWord r a v).2

/-- The words a host has read. -/
def State.readOut (s : State) (ws : List Nat) : State := { s with sys := { s.sys with readBuf := ws } }

/-- READ (R485, R486): `n` words from address `a`. -/
def xspiReadEff (a n : Nat) (s : State) : State :=
  if !s.trAlive 0 then s
  else
    let a4 := a / 4 * 4
    let room := burstRoom a4 n
    let s := if a % 4 != 0 then s.xerr else s
    let x := State.readWords .xspi room a4 s
    let s := if room < n then x.2.xerr else x.2
    s.readOut (x.1 ++ List.replicate (n - room) 0)

/-- WRITE (R485, R486): words from address `a`; `part` when chip select rises inside a word. -/
def xspiWriteEff (a : Nat) (ws : List Nat) (part : Bool) (s : State) : State :=
  if !s.trAlive 0 then s
  else
    let a4 := a / 4 * 4
    let room := burstRoom a4 ws.length
    let s := if a % 4 != 0 then s.xerr else s
    let s := State.writeWords .xspi (ws.take room) a4 s
    if room < ws.length || part then s.xerr else s

/-- READ_STAT (R485, R486): SYS_XSTAT, repeated `n` times, judged against window 0. -/
def xspiReadStatEff (n : Nat) (s : State) : State :=
  if !s.trAlive 0 then s
  else
    let x := s.hostRead .xspi SYS_XSTAT (fun s => (s.sysXstat, s))
    x.2.readOut (List.replicate n x.1)

/-- R485: the command that the bytes driven while chip select is low spell: its code and the code's complement, 4 bytes of address with the
most significant first, the data words with bits [7:0] first. A code without its complement is none of the table (log 134). -/
def xspiDecode (bs : List Nat) : Option XspiCmd :=
  match bs with
  | c :: k :: r =>
    let addr := ofLe (r.take 4).reverse
    let data := r.drop 4
    if c + k != 255 then some (.undefinedCode 0)
    else if c = 0xB1 then (if r.length = 4 then some (.read addr) else none)
    else if c = 0xB2 then (if 4 ≤ r.length then some (.write addr (leWords (data.length / 4) data) (data.length % 4 != 0)) else none)
    else if c = 0xB5 then (if r.isEmpty then some .readStat else none)
    else some (.undefinedCode c)
  | _ => none

/-- XSPI_UNDEFINED_CODE (R485). -/
def xspiUndefinedCodeEff (code : Nat) (s : State) : State :=
  if s.trAlive 0 && code != 0xB1 && code != 0xB2 && code != 0xB5 then s.xerr else s

/-! ### Single accesses of a requester -/

/-- CAPTURE_READ (R488): a read of a capture word. -/
def captureReadEff (r : Requester) (a : Nat) (s : State) : State :=
  match regAt a with
  | some (f, i, j) =>
    match capOf f.name i j with
    | some (_, _, 0) => let x := s.readWord r a; x.2.readOut [x.1]
    | _ => s
  | none => s

/-- EVT_QDATA_CAPTURE (R477): a read of EVT_QDATA[q][0]. -/
def evtQdataCaptureEff (r : Requester) (q : Nat) (s : State) : State :=
  let x := s.readWord r (EVT_QDATA q 0)
  x.2.readOut [x.1]

/-- EVT_LDATA_READ (R472, R477): a read of EVT_LDATA[0]. -/
def evtLdataReadEff (r : Requester) (s : State) : State :=
  let x := s.readWord r (EVT_LDATA 0)
  x.2.readOut [x.1]

/-- EVT_QACK_WRITE (R470). -/
def evtQackWriteEff (r : Requester) (q n : Nat) (s : State) : State := (s.writeWord r (EVT_QACK q) n).2

/-- TIM_SAMP_WRITE (R346). -/
def timSampWriteEff (r : Requester) (v : Nat) (s : State) : State := (s.writeWord r TIM_SAMP v).2

/-- Is a word address reserved space (R483)? -/
def isReserved (a : Nat) : Bool := if a < 0x200000 then (regAt a).isNone else decide (0x800000 ≤ a)

/-- RESERVED_ACCESS (R483): a read or a write of reserved space. -/
def reservedAccessEff (r : Requester) (a : Nat) (wr : Bool) (s : State) : State :=
  let a := a / 4 * 4
  if !isReserved a then s
  else if wr then (s.writeWord r a 0).2
  else
    let x := s.readWord r a
    x.2.readOut [x.1]

/-- REGISTER_WRITE (R481): a write to a register that has no command of its own. -/
def registerWriteEff (r : Requester) (a v : Nat) (s : State) : State :=
  match regAt a with
  | some (f, _, _) => if hasOwnWrite f.name then s else (s.writeWord r a v).2
  | none => s

/-- R471: is the log writer through with the entry before: one every 0.75 µs? -/
def State.logReady (s : State) : Bool :=
  match s.evt.logAt with
  | some t => decide (t + 12000 ≤ s.now)
  | none => true

/-- LOG_WRITE (R471): the log writer puts the oldest buffered entry into the ring. -/
def logWriteEff (s : State) : State :=
  match s.evt.logBuf with
  | [] => s
  | e :: rest =>
    if !s.logReady then s
    else
    { s.logPut e with evt := { s.evt with logBuf := rest, logAt := some s.now } }

end Sys2Proof.Machine
end

