-- ==== Sys2Proof/Machine/Ozaux.lean ====
section
/-!
DEFINITION. The Ozaux links received and the redundant pair (12 R382 to R404).
-/
namespace Sys2Proof.Machine

/-- R21: do the links work (from step 8 of the start, reference present)? -/
def State.ozOn (s : State) : Bool := s.sys.mapOn && s.sys.refPresent

/-- R25: is the engine one of a redundant pair? -/
def State.paired (s : State) : Bool := s.flag OZX_CFG_PAIR

/-! ### Link states (R382, R383) -/

/-- R383: an entry to DOWN or READY sets CHG and raises OZ_LINK_CHANGE. -/
def State.linkEnter (s : State) (l st : Nat) : State :=
  let s := s.setF (OZX_LSTAT_STATE l) st
  if st = 0 || st = 3 then (s.setFlag (OZX_LSTAT_CHG l) true).raise 104 l st else s

/-- R382: OZ_LINK_DOWN: no valid character for 1 µs; `clk`: the clock is still present. What waited for an ACK is dropped
with the link's delay measurements. -/
def ozLinkDownEff (l : Nat) (clk : Bool) (s : State) : State :=
  let s := if s.ozOn then s.setFlag (OZX_LSTAT_CLKIN l) clk else s
  if s.getF (OZX_LSTAT_STATE l) = 0 then s
  else
    let x := s.link l
    let s := s.setLink l { x with waits := [], sent := none, line := [], reqAt := none, dlys := [], far := false, exchAt := none }
    s.linkEnter l 0

/-- R383: OZ_CLOCK_DETECT: a clock appears on an enabled link and comma alignment starts. -/
def ozClockDetectEff (l : Nat) (s : State) : State :=
  if !s.ozOn then s
  else
    let s := s.setFlag (OZX_LSTAT_CLKIN l) true
    if s.linkEn l && s.getF (OZX_LSTAT_STATE l) = 0 then s.linkEnter l 1 else s

/-- R383, R385: OZ_LINK_UP: 64 consecutive valid characters; OZ0 of a pair sends IMAGE. -/
def ozLinkUpEff (l : Nat) (s : State) : State :=
  if s.ozOn && s.getF (OZX_LSTAT_STATE l) = 1 then
    let s := s.linkEnter l 2
    if l = 0 && s.paired then s.ozSend 0 (.image s.oz.imgDig) else s
  else s

/-! ### Retried frames (R386) -/

/-- R386: a frame of a retried type is acknowledged; true when it is new. An LSEQ accepted in the last 5 µs is a copy. -/
def State.ozAccept (s : State) (l lseq : Nat) : Bool × State :=
  let x := s.link l
  let live := x.seen.filter (fun e => s.now < e.2 + 5 * usU)
  let new := !live.any (fun e => e.1 = lseq)
  let s := s.setLink l { x with seen := if new then (lseq, s.now) :: live else live }
  (new, s.ozSend l (.ack lseq))

/-- R386: ACK_RECEIVE. -/
def ackReceiveEff (l lseq : Nat) (s : State) : State :=
  let x := s.link l
  if !s.linkUp l then s
  else s.setLink l { x with waits := x.waits.filter (fun w => w.frame.lseq != lseq) }

/-- R386: a frame needs another attempt: at most three retransmissions, then the message is dropped. -/
def State.ozRetry (s : State) (l lseq : Nat) : State :=
  let x := s.link l
  match x.waits.find? (fun w => w.frame.lseq = lseq) with
  | none => s
  | some w =>
    if w.tries < 3 then
      let ws := x.waits.map (fun v => if v.frame.lseq = lseq then { v with tries := v.tries + 1 } else v)
      ((s.setLink l { x with waits := ws }).incSat (OZX_LCNT_RETRY l)).ozResend l w.frame
    else
      let sec := s.now / secU
      let s := s.setLink l { x with waits := x.waits.filter (fun v => v.frame.lseq != lseq), lostSec := some sec }
      let s := s.incSat (OZX_LCNT_LOST l)
      if x.lostSec = some sec then s else s.raise 105 l (s.getF (OZX_LCNT_LOST l))

/-- R386: NAK_RECEIVE. -/
def nakReceiveEff (l lseq : Nat) (s : State) : State := if s.linkUp l then s.ozRetry l lseq else s

/-- R386: ACK_TIMEOUT: no ACK 700 ns after the frame's end. -/
def ackTimeoutEff (l lseq : Nat) (s : State) : State :=
  match (s.link l).waits.find? (fun w => w.frame.lseq = lseq) with
  | some w => if s.linkUp l && w.ends + 11200 ≤ s.now then s.ozRetry l lseq else s
  | none => s

/-- R385, R386: OZAUX_CRC_ERROR: a frame with a CRC error or an undefined TYPE is discarded and counted; one of a retried
type is answered with NAK. -/
def ozauxCrcErrorEff (l ty lseq : Nat) (s : State) : State :=
  if !s.linkUp l then s
  else
    let s := s.incSat (OZX_LCNT_CRCERR l)
    if ty = 1 || ty = 2 || ty = 5 || ty = 6 then s.ozSend l (.nak lseq) else s

/-! ### Delay and time (R389, R393) -/

/-- R389: has 1 ms passed since the latest delay exchange of a link? -/
def State.exchDue (s : State) (l : Nat) : Bool :=
  match (s.link l).exchAt with
  | some t => decide (t + msU ≤ s.now)
  | none => true

/-- R385, R389: DELAY_EXCHANGE: every 1 ms DLY_REQ, and just after it TIME, with the sampling time at its own start comma. -/
def delayExchangeEff (l : Nat) (s : State) : State :=
  if !s.linkUp l || !s.exchDue l then s
  else
    let s := (s.setLink l { s.link l with exchAt := some s.now }).ozSend l (.dlyReq 0)
    let tm := splitTime (s.sampAt (ozFree s.now (s.link l).line))
    s.ozSend l (.time tm.2.1 (tm.1 % 65536) s.sampQual)

/-- R389: DLY_REQ_RECEIVE: answered with DLY_RESP, which reports the turnaround (0.25 ns): from the arrival, now, to the departure
of its own start comma. -/
def dlyReqReceiveEff (l : Nat) (s : State) : State :=
  s.ozSend l (.dlyResp ((ozFree s.now ((s.link l).line.filter (fun e => decide (s.now < e.2 + ozLen e.1))) - s.now) / 4))

/-- R389: the mean of accepted measurements, to the nearest unit. -/
def meanDly (l : List Nat) : Nat := if l.isEmpty then 0xFFFF else (l.foldl (· + ·) 0 + l.length / 2) / l.length

/-- R389: DLY_RESP_RECEIVE: one-way delay is half of round trip less turnaround, in 0.25 ns (4 of the model's units). -/
def dlyRespReceiveEff (l turn : Nat) (s : State) : State :=
  let x := s.link l
  match x.reqAt with
  | none => s
  | some t =>
    let s := if s.linkUp l then s.setLink l { x with reqAt := none } else s
    let d := ((s.now - t) / 4 - turn) / 2
    let mean := meanDly x.dlys
    if !s.linkUp l then s
    else if !x.dlys.isEmpty && 20 < absN ((d : Int) - (mean : Int)) then s.incSat (OZX_LCNT_DLYDISC l)
    else
      let ds := (d :: x.dlys).take 8
      let m := meanDly ds
      let far := decide (400 < m)
      let s := (s.setF (OZX_LDLY_DLY l) (satAt 0xFFFE m)).setLink l { s.link l with dlys := ds, far := far }
      let s := if far && !x.far then s.raise 106 l (s.getF (OZX_LDLY_DLY l)) else s
      if far then (if s.linkReady l then s.setF (OZX_LSTAT_STATE l) 2 else s)
      else if ds.length = 8 && !s.linkReady l then s.linkEnter l 3
      else s

/-- R389: a link's one-way delay in 0.25 ns. -/
def State.linkDly (s : State) (l : Nat) : Nat :=
  let d := s.getF (OZX_LDLY_DLY l)
  if d = 0xFFFF then Config.linkDelayUnmeasured else d

/-- The value congruent to `low` modulo `m` that is nearest to `x`. -/
def nearest (m low : Int) (x : Int) : Int :=
  let d := (low - x) % m
  if 2 * d < m then x + d else x + d - m

/-- R393: may a time base take its time from a link? -/
def State.followsLink (s : State) (b l : Nat) : Bool := s.tbSrc b = 5 && s.getF OZX_CFG_TSRC_LINK = l

/-- R393: TIME_RECEIVE: an update with offset carried time + link delay − local time; QUAL STATE FREE or UNSET loses the
source. -/
def timeReceiveEff (l ns sec qual : Nat) (s : State) : State :=
  if !s.timeOn || !s.linkUp l then s
  else (upto 4).foldl (fun s b =>
    if !s.followsLink b l then s
    else if 2 ≤ qual / 16 % 4 then s.srcLost b
    else
      let v := s.tbAt b s.now
      let at_ := ((sec * 1000000000 + ns : Nat) : Int) * 65536 + ((s.linkDly l : Nat) : Int) * 16384
      s.servoUpdate b (nearest (65536 * subPerSec) at_ v - v) (qual % 16)) s

/-- R340, R393: PARTNER_TIME_LOSS: three consecutive TIME messages are missing. -/
def partnerTimeLossEff (s : State) : State :=
  if !s.timeOn then s
  else (upto 4).foldl (fun s b =>
    match (s.tb b).lastUpd with
    | some t => if s.tbSrc b = 5 && t + 3 * msU ≤ s.now then s.srcLost b else s
    | none => s) s

/-! ### Trigger domains (R390 to R392) -/

/-- R392: the origin label with its seconds completed from the sampling time base to the nearest value, 2^−16 ns. -/
def State.trigLab (s : State) (ns sec : Nat) : Int :=
  nearest (256 * subPerSec) (((sec * 1000000000 + ns : Nat) : Int) * 65536) (s.sampAt s.now)

/-- R392: a domain trigger is presented to every class. -/
def State.ozDeliver (s : State) (t : OzTrig) : State :=
  let lab := s.trigLab t.ns t.sec
  let s := if t.other then s.incWrap OZX_TCNT_RX else s
  s.trigCycle [⟨7, t.id, true, s.tauOf lab, lab, none⟩]

/-- R392: OZ_TRIG_DELIVERY. -/
def ozTrigDeliveryEff (s : State) : State :=
  if !s.ozOn then s
  else
  let due := s.oz.trigs.filter (fun t => decide (t.at_ ≤ s.now))
  let s := { s with oz := { s.oz with trigs := s.oz.trigs.filter (fun t => decide (s.now < t.at_)) } }
  due.foldl (fun s t => s.ozDeliver t) s

/-- R391: the AGE of a TRIG message when it is forwarded now on a link: the ingress link's delay (0.25 ns units) and the residence
from its start comma, 325 ns before it was complete, to the egress start comma are added (log 124). -/
def State.trigAge (s : State) (other age dly : Nat) (m : OzMsg) : Nat :=
  (age + (dly + 2) / 4 + (s.ozUrgentAt other m + 5200 - s.now + 8) / 16) % 4096

/-- R391, R392: a new TRIG message: forwarded, and delivered at its send instant + 4.000 µs or, past that, at once. The frame's
last character arrives 325 ns after its first. -/
def State.trigTake (s : State) (l id hops orig age ns sec : Nat) : State :=
  let dly := s.linkDly l
  let other := 1 - l
  let s := if 0 < hops && s.linkDom other && s.linkReady other then
      let m (n : Nat) : OzMsg := .trig id (hops - 1) orig n ns sec
      s.ozSend other (m (s.trigAge other age dly (m age)))
    else s
  let due := (s.now : Int) - 5200 + 64000 - ((16 * age + 4 * dly : Nat) : Int)
  let t : OzTrig := ⟨id, due.toNat, ns, sec, true⟩
  if due < (s.now : Int) then ((s.ozDeliver t).incSat OZX_TCNT_LATE).raise 107 l id
  else { s with oz := { s.oz with trigs := s.oz.trigs ++ [t] } }

/-- R391: OZ_TRIG_RECEIVE: a TRIG message is complete. -/
def ozTrigReceiveEff (l lseq id hops orig age ns sec : Nat) (s : State) : State :=
  if !s.linkUp l then s
  else
    let a := s.ozAccept l lseq
    let s := a.2
    if !a.1 || !s.linkDom l then s
    else if orig = s.getF OZX_CFG_ENGID then (s.incSat OZX_TCNT_LOOP).raise 108 l id
    else s.trigTake l id hops orig age ns sec

/-! ### The pair (R394 to R402) -/

/-- R398: the engine takes the lead duties. -/
def State.takeDuties (s : State) : State :=
  let s := s.setFlag OZX_PSTAT_HOLDS true
  if s.protecting then s.goosePublish else s

/-- R398: the engine releases the lead duties. -/
def State.releaseDuties (s : State) : State :=
  ({ s with oz := { s.oz with relNext := false } }.setFlag OZX_PSTAT_HOLDS false).gooseStop

/-- R385: one bit per pod not in FAIL: P0, P1, L. -/
def State.podOkBits (s : State) : Nat := (upto 3).foldl (fun n p => n + (if s.podState p = 4 then 0 else 2 ^ p)) 0

/-- R396: is the heartbeat of this fast tick due: at F_k + 3.0 µs, one per fast tick? -/
def State.hbReady (s : State) : Bool :=
  match s.oz.hbDue with
  | some t => decide (t ≤ s.now)
  | none => false

/-- R396, R397 row 4: HEARTBEAT_SEND. -/
def heartbeatSendEff (s : State) : State :=
  if !s.paired || !s.protecting || !s.hbReady then s
  else
    let s := { s with oz := { s.oz with hbDue := none } }
    let s := if s.oz.relNext then s.releaseDuties else s
    let n := (s.oz.tick + 1) % 4294967296
    let s := { s with oz := { s.oz with tick := n } }
    s.ozSend 0 (.heartbeat n s.podOkBits (s.mode == .test) s.leads (b2n s.sys.straps.partner))

/-- R397 rows 2 and 3: what a good heartbeat settles. -/
def State.settleDuties (s : State) (test holds : Bool) : State :=
  if holds && s.leads then
    let s := (s.setFlag OZX_PSTAT_DUAL_SEEN true).raise 6 0 0
    if s.sys.straps.partner then s.releaseDuties
    else { s with gsv := { s.gsv with gcbInts := s.gsv.gcbInts.map (fun g => { g with bump := true }) } }
  else if !holds && !s.leads && s.mode == .run && (test || !s.sys.straps.partner) then s.takeDuties
  else s

/-- R396, R397: HEARTBEAT_RECEIVE: a good heartbeat on OZ0 is complete, now (log 124). -/
def heartbeatReceiveEff (lseq podOk : Nat) (test holds : Bool) (s : State) : State :=
  if !s.paired || !s.linkUp 0 then s
  else
    let a := s.ozAccept 0 lseq
    if !a.1 then a.2
    else
      let s := a.2
      let s := { s with oz := { s.oz with hbAt := some s.now, hbHeld := s.oz.hbHeld || holds, waitFrom := none } }
      let s := ((s.setFlag OZX_PSTAT_PARTNER_OK true).setFlag OZX_PSTAT_P_HOLDS holds).setFlag OZX_PSTAT_P_TEST test
      (s.setF OZX_PSTAT_P_PODOK podOk).settleDuties test holds

/-- R396, R397 row 1: PARTNER_OK_TIMEOUT: 17.6 µs after the last good heartbeat. -/
def partnerOkTimeoutEff (s : State) : State :=
  match s.oz.hbAt with
  | none => s
  | some t =>
    if s.ozOn && s.flag OZX_PSTAT_PARTNER_OK && t + 281600 ≤ s.now then
      let s := (s.setFlag OZX_PSTAT_PARTNER_OK false).incSat OZX_PCNT_HBLOST
      if s.protecting && !s.leads then
        let s := s.incSat OZX_PCNT_TAKEOVER
        (s.raise 5 0 (s.getF OZX_PCNT_TAKEOVER)).takeDuties
      else s
    else s

/-- R399: at protection ACTIVE the LEAD (a single engine with it) takes the duties unless a heartbeat has shown the other
holding them; a PARTNER begins PAIR_WAIT. -/
def State.dutiesAtActive (s : State) : State :=
  if s.sys.straps.partner && s.paired then { s with oz := { s.oz with waitFrom := some s.now } }
  else if s.paired && s.oz.hbHeld then s
  else s.takeDuties

/-- R399: PAIR_WAIT_EXPIRY. -/
def pairWaitExpiryEff (s : State) : State :=
  match s.oz.waitFrom with
  | none => s
  | some t =>
    if s.protecting && t + s.getF OZX_PCFG_PAIR_WAIT * msU ≤ s.now then
      let s := { s with oz := { s.oz with waitFrom := none } }
      if s.leads then s else s.takeDuties
    else s

/-- R401: the digest of PU and OP of the instances, then 6 bits of the zones' PU and OP (which six is a free value). -/
def State.digest (s : State) : Nat :=
  let z := Config.zoneDigestBits (s.getF (PRT_ZSTAT_PU 0)) (s.getF (PRT_ZSTAT_OP 0)) (s.getF (PRT_ZSTAT_PU 1)) (s.getF (PRT_ZSTAT_OP 1))
  crcBits (((upto 512).map (fun i => [s.flag (PRT_ST_PU i), s.flag (PRT_ST_OP i)])).flatten
    ++ (upto 6).map (fun k => bitN z k))

/-- R401: at a slow tick of a pair the digest is formed and sent. -/
def State.digestSend (s : State) : State :=
  if !s.paired || !s.protecting then s
  else
    let d := s.digest
    let tm := splitTime (s.labelOf ((s.tauAt s.flt.cur.m : Nat) : Int))
    let s := { s with oz := { s.oz with digs := ((d, tm.2.1) :: s.oz.digs).take 64 } }
    s.ozSend 0 (.state d tm.2.1)

/-- R401: do two instants of a second lie within half a slow tick of each other? -/
def State.tauNear (s : State) (a b : Nat) : Bool :=
  let half := 1000000000 * 16777216 / (512 * Nat.max 1 s.flt.cur.ftrk)
  let d := (a + 1000000000 - b) % 1000000000
  d ≤ half || 1000000000 - d ≤ half

/-- R401: STATE_RECEIVE. -/
def stateReceiveEff (digest tau : Nat) (s : State) : State :=
  if !s.paired || !s.linkUp 0 then s
  else match s.oz.digs.find? (fun e => s.tauNear e.2 tau) with
    | none => s
    | some e =>
      if e.1 = digest then { s with oz := { s.oz with mism := 0 } }
      else
        let n := s.oz.mism + 1
        let s := { s with oz := { s.oz with mism := n } }.incSat OZX_PCNT_DIGCNT
        if n = s.getF OZX_PCFG_DIG_N then (s.setFlag OZX_PSTAT_DIGMM true).raise 7 0 (s.getF OZX_PCNT_DIGCNT) else s

/-- R395: PUBSEQ_RECEIVE. -/
def pubseqReceiveEff (lseq cb st : Nat) (s : State) : State :=
  if !s.paired || !s.linkUp 0 then s
  else
    let a := s.ozAccept 0 lseq
    if a.1 then { a.2 with oz := { a.2.oz with pubSeq := lset a.2.oz.pubSeq cb (some st) } } else a.2

/-- R402: IMAGE_RECEIVE. -/
def imageReceiveEff (lseq dig : Nat) (s : State) : State :=
  if !s.paired || !s.linkUp 0 then s
  else
    let a := s.ozAccept 0 lseq
    if !a.1 then a.2
    else if dig = a.2.oz.imgDig then a.2.setFlag OZX_PSTAT_IMGDIFF false
    else (a.2.setFlag OZX_PSTAT_IMGDIFF true).raise 8 0 (dig % 4294967296)

/-- R397: PAIR_HANDOVER's effect: the holder releases the duties. -/
def State.handover (s : State) : Status × State :=
  if s.paired && s.leads && s.flag OZX_PSTAT_PARTNER_OK && !s.flag OZX_PSTAT_P_TEST then (.ok, s.releaseDuties)
  else (.stateDenied, s)

end Sys2Proof.Machine
end

