-- ==== Sys2Proof/Machine/Load.lean ====
section
/-!
DEFINITION. The Claras image: what a load writes into the registers (13 R412), and the checks of R414 with the reports of
R415. A check answers the report of the first failure, or none.
-/
namespace Sys2Proof.Machine

/-! ### Registers at image load (R5, R412) -/

/-- Every address of a register family. -/
def famAddrs (f : RegFam) : List Nat :=
  (upto f.n1).flatMap (fun i => (upto f.n2).map (fun j => f.base + i * f.s1 + j * f.s2))

/-- Bits `m` of `w`, the rest of `d`. -/
def mixBits (m w d : Nat) : Word :=
  (BitVec.ofNat 32 m &&& BitVec.ofNat 32 w) ||| (BitVec.ofNat 32 d &&& ~~~(BitVec.ofNat 32 m))

/-- R5: a register word as an image load leaves it before the SETTINGS records: kept bits, defaults elsewhere. -/
def loadWord (f : RegFam) (old : Word) (a : Nat) : Word :=
  if f.name = .PRT_SET then rstWord a else mixBits f.keep old.toNat f.dflt

/-- R412: the register file after an image load with the given SETTINGS records. -/
def loadRegs (old : Store Word) (settings : List (Nat × Nat)) : Store Word :=
  let base := regFams.foldl (fun m f =>
    if f.name != .PRT_SET && mixBits f.keep f.rst f.dflt != BitVec.ofNat 32 f.rst then
      (famAddrs f).foldl (fun m a => Store.set (rstWord a) m a (loadWord f (rstWord a) a)) m
    else m) []
  let kept := old.foldl (fun m e =>
    match regAt e.1 with
    | some r => Store.set (rstWord e.1) m e.1 (loadWord r.1 e.2 e.1)
    | none => m) base
  settings.foldl (fun m e =>
    match regAt e.1 with
    | some r => Store.set (rstWord e.1) m e.1 (mixBits r.1.img e.2 (Store.get (rstWord e.1) m e.1).toNat)
    | none => m) kept

/-! ### Reports (R415) -/

/-- A failure of step 7: status, section, kind and number of the object. -/
def fail7 (st : Status) (sec kind obj : Nat) : LoadReport := ⟨stCode st, 7, sec, kind, 0, obj, 0⟩

/-- IMAGE_INVALID or another status naming a register of the SETTINGS section. -/
def failReg (st : Status) (a : Nat) : LoadReport := fail7 st 1 0x11 a

/-- The failure, unless the condition holds. -/
def need (ok : Bool) (r : LoadReport) : Option LoadReport := if ok then none else some r

/-- The first failure of a list of checks. -/
def firstFail (l : List (Option LoadReport)) : Option LoadReport := l.findSome? id

/-- R415, 00 Conventions: a ball's code: row in the order A to AU, column. -/
def ballCode (row col : Nat) : Nat := row * 256 + col

/-- R514: the ball of binary input `i`. -/
def ballBi (i : Nat) : Nat := ballCode (31 + i / 32) (i % 32 + 2)

/-- R514: the ball of auxiliary input `i`. -/
def ballAux (i : Nat) : Nat := ballCode 6 (i + 2)

/-! ### Rows 1 to 5 (R410, R411, R413, R436) -/

/-- Rows 1 and 2 of R414: the header. -/
def hdrOk (h : ImgHdr) : Bool :=
  h.magicOk && h.hcrcOk && h.fmt = 3 && (h.nsec = 11 || h.nsec = 12) && h.len % 4096 = 0 && 8192 ≤ h.len && h.len ≤ 67108864 &&
  h.silicon = 0xB0 && h.rom = 0x302

/-- Row 3 of R414: the hash of the public key against OTP slot KEYSLOT (R436), and the signature. -/
def State.sigCheck (s : State) (h : ImgHdr) (sigOk : Bool) : Bool :=
  h.keySlot < 2 && sigOk && (lget ⟨0, 0⟩ s.sec.otp h.keySlot).st = 1 && (lget ⟨0, 0⟩ s.sec.otp h.keySlot).hash = h.keyHash

/-- R411: may a section be of length 0 (LOGIC: when NINST is 0, a check of row 6)? -/
def zeroLenOk (ty : Nat) : Bool := [3, 6, 8].contains ty

/-- R411: the contents of an image are those of the sections its directory names: without an ANALYSIS section, or with CURVES, LOGIC or
FRAMES of length 0, there is no such content. -/
def heldBy (dir : List DirEntry) (img : Image) : Image :=
  let has (t : Nat) : Bool := dir.any (fun e => e.type = t && e.len != 0)
  { img with
    curves := if has 3 then img.curves else []
    prog := progCanon (if has 6 then img.prog else { img.prog with size := 0 })
    ana := if has 7 then img.ana.map progCanon else none
    gcbs := if has 8 then img.gcbs else []
    gsubs := if has 8 then img.gsubs else []
    svsubs := if has 8 then img.svsubs else []
    svpubs := if has 8 then img.svpubs else [] }

/-- R410 to R412, R417, R422: the length a section's contents take, where the spec gives it: 8 bytes a settings record, one word for
BALLMAP and RESTART. -/
def lenFits (img : Image) (t : Nat) : Bool :=
  img.dir.all (fun e => e.type != t || e.len = (if t = 1 then 8 * img.settings.length else 4))

/-- Row 4 of R414: known types, ascending, required sections present, bounds, no overlap. -/
def dirCheck (len nsec : Nat) (dir : List DirEntry) : Bool :=
  dir.length = nsec && dir.all (fun e => 1 ≤ e.type && e.type ≤ 12 && e.ofs % 64 = 0 && 4096 ≤ e.ofs && e.ofs + e.len ≤ len &&
    (e.len != 0 || zeroLenOk e.type)) &&
  (dir.zip (dir.drop 1)).all (fun p => decide (p.1.type < p.2.type)) &&
  [1, 2, 3, 4, 5, 6, 8, 9, 10, 11, 12].all (fun t => dir.any (fun e => e.type = t)) &&
  (dir.zip (upto dir.length)).all (fun p => (dir.take p.2).all (fun q =>
    p.1.len = 0 || q.len = 0 || decide (p.1.ofs + p.1.len ≤ q.ofs) || decide (q.ofs + q.len ≤ p.1.ofs)))

/-- Rows 4 and 5 of R414: the directory, then the hashes of the sections as read a second time (R413). -/
def sectionsCheck (h : ImgHdr) (img : Image) (badHash : List Nat) : Option LoadReport :=
  if !dirCheck h.len h.nsec img.dir then some ⟨stCode .imageInvalid, 6, 0, 0, 0, 0, 0⟩
  else match (img.dir.map (·.type)).find? (fun t => badHash.contains t) with
    | some t => some ⟨stCode .imageInvalid, 6, t, 0x13, 0, t, 0⟩
    | none => none

/-! ### Row 6: fields of the SETTINGS section -/

/-- Bits [hi:lo] of a settings value. -/
def bf (w hi lo : Nat) : Nat := w / 2 ^ lo % 2 ^ (hi - lo + 1)

/-- A number within bounds. -/
def within (lo hi v : Nat) : Bool := decide (lo ≤ v) && decide (v ≤ hi)

/-- A positive REAL32 (finite). -/
def realPos (w : Nat) : Bool := within 1 0x7F7FFFFF w

/-- Is a channel a current channel (R122): CH00 to CH47, or a virtual channel whose KIND says so? -/
def State.currentCh (c : State) (k : Nat) : Bool := k < 48 || (64 ≤ k && k < 128 && !c.flag (GSV_VCH_KIND (k - 64)))

/-- Is a channel a voltage channel? -/
def State.voltageCh (c : State) (k : Nat) : Bool := within 48 63 k || (64 ≤ k && k < 128 && c.flag (GSV_VCH_KIND (k - 64)))

/-- R122: three consecutive channels, all physical or all virtual, of one kind. -/
def State.set3 (c : State) (volt : Bool) (k : Nat) : Bool :=
  [k, k + 1, k + 2].all (fun k => if volt then c.voltageCh k else c.currentCh k) && (decide (k + 2 < 64) || decide (64 ≤ k))

/-- R261: how many values INDEX may take for a KIND. -/
def trigRange (kind : Nat) : Nat := lget 0 [512, 512, 2, 64, 256, 64, 1, 16, 2, 32, 1] kind

/-- R261: is EDGE allowed for KIND? -/
def edgeOk (kind edge : Nat) : Bool := edge = 1 || (edge != 0 && [3, 4, 8].contains kind)

/-- Row 6 of R414: is the value of a named register within the ranges its rule states (R73, R80, R120, R167, R168, R199, R251,
R261, R274, R307, R363 to R365, R381, R404, R492)? `c` is the state the image would give. -/
def State.rangeOk (c : State) (n : RegName) (i j w : Nat) : Bool :=
  match n with
  | .SYS_XCFG => within 8 31 (bf w 4 0)
  | .CNV_GCFG => bf w 1 0 != 3 && within 8 256 (bf w 15 4)
  | .AUX_CFG => bf w 1 0 != 3 && within 1 32 (bf w 7 2)
  | .AUX_PERIOD => 16 ≤ bf w 19 0
  | .AUX_ENT => auxEntOk w
  | .FLT_TCFG => within 1 200 (bf w 8 1) && within 4 64 (bf w 16 10)
  | .FLT_TSRC =>
    let v := bf w 6 0
    let k := bf w 14 8
    48 ≤ v && (k < 48 || 64 ≤ k) && (!bitN w 7 || c.set3 true v) && (!bitN w 15 || c.set3 false k)
  | .FLT_TLIM => within 1 500 (bf w 8 0) && within 1 500 (bf w 24 16)
  | .FLT_TRIM => absN (sext 12 (bf w 11 0)) ≤ 2000
  | .PRT_BAY0 => (bf w 6 0 < 48 || 64 ≤ bf w 6 0) && 48 ≤ bf w 21 15
  | .PRT_BAY1 => bf w 15 8 ≤ 254
  | .PRT_KB => within 1048576 16735272 (bf w 23 0)
  | .PRT_ZIDMIN => w != 0
  | .PRT_ZCFG => within 3277 29491 (bf w 15 0) && within 1 8 (bf w 19 16) && (i = 1 || !bitN w 20) && bf w 28 21 + 11 ≤ 255
  | .PRT_ZMAP => Nat.land (bf w 11 0) (bf w 23 12) = 0
  | .PRT_ZIDALM => w = 0 || w < c.getF (PRT_ZIDMIN_IDMIN i)
  | .PRT_ZTALM => within 10 60000 (bf w 15 0)
  | .TRP_OCFG => bf w 4 3 != 3 && bf w 14 5 ≤ 1000
  | .TRP_ESRC => bf w 11 9 ≤ 4 && (bf w 11 9 < 3 || bf w 8 0 ≤ 1)
  | .LGC_CFG => within 10 60000 (bf w 31 16) && (if 2048 < c.getF LGC_SIZE_NINST then bf w 13 0 = 0 else within 125 10000 (bf w 13 0))
  | .LGC_SIZE => bf w 14 0 ≤ 16384 && bf w 26 16 ≤ 120
  | .REC_CCFG => bf w 8 6 ≤ 4 && (!bitN w 0 || (bf w 5 1 != 0 && 2 ≤ bf w 30 19 && bitN (bf w 5 1) (bf w 8 6)))
  | .REC_CSEG => !c.flag (REC_CCFG_EN i) || within 1 31744 (bf w 14 0)
  | .REC_CPOST => w != 0
  | .REC_CMASK => within 1 16 (bf w 20 16)
  | .REC_CMABS => within 1 2147483647 w
  | .REC_CTRG => bf w 3 0 ≤ 0xA && bf w 12 4 < trigRange (bf w 3 0) && edgeOk (bf w 3 0) (bf w 14 13)
  | .REC_SLOT => bf w 5 0 ≤ 56
  | .TIM_CFG => bf w 2 0 ≤ 5 && bf w 11 10 != 3
  | .TIM_THR => within 50 1000000000 (bf w 29 0)
  | .TIM_SERVO => within 1 64 (bf w 6 0) && within 1 1000 (bf w 16 7) && within 1 10000 (bf w 31 17)
  | .TIM_IRIG => absN (sext 7 (bf w 10 4)) ≤ 56 && within 2000 2255 (bf w 31 16)
  | .TIM_PPSO => within 1 500 (bf w 12 4)
  | .NET_MODE => bf w 1 0 != 3
  | .NET_MAC_HI => !bitN w 8
  | .NET_RCFG => within 10 1000 (bf w 9 0) && within 1 100 (bf w 22 16)
  | .GSV_PCB => within 1 1000 (bf w 10 1) && within (bf w 10 1) 60000 (bf w 26 11)
  | .GSV_SVSCFG => bf w 3 2 != 3 && bf w 14 5 ≤ 1000
  | .GSV_VCH => bf w 9 5 ≤ 23
  | .GSV_VGAIN => realPos w
  | .GSV_PGAIN => realPos w
  | .GSV_SVPCFG => bf w 3 1 = 1 || bf w 3 1 = (if c.flag FLT_SVCFG_RATE then 6 else 2)
  | .OZX_CFG => bf w 1 0 != 3
  | .OZX_PCFG => within 100 1000 (bf w 9 0) && within 1 511 (bf w 18 10)
  | .OZX_OUTW => (upto 16).all (fun k => bf w (2 * k + 1) (2 * k) != 3)
  | _ => j ≤ w || w < j

/-- R283, R307, R381: the ranges of what the image omits, or computes from another register: a class in use has a segment size, a
virtual channel and a published entry in use a positive gain, a free-running program no period. -/
def State.impliedOk (c : State) : List (Nat × Option LoadReport) :=
  (upto 8).map (fun k => (REC_CSEG k,
    need (!c.flag (REC_CCFG_EN k) || within 1 31744 (c.getF (REC_CSEG_SEGSIZE k))) (fail7 .imageInvalid 1 0x08 k))) ++
  (upto 64).map (fun v => (GSV_VGAIN v,
    need (!c.flag (GSV_VCH_EN v) || realPos (c.getF (GSV_VGAIN_VGAIN v))) (failReg .imageInvalid (GSV_VGAIN v)))) ++
  (upto 8).flatMap (fun q => (upto 8).map (fun i => (GSV_PGAIN q i,
    need (!c.flag (GSV_SVPCFG_EN q) || realPos (c.getF (GSV_PGAIN_PGAIN q i))) (failReg .imageInvalid (GSV_PGAIN q i))))) ++
  [(LGC_CFG, need (if c.flag LGC_CFG_FREE then c.getF LGC_CFG_PERIOD = 0 else within 125 10000 (c.getF LGC_CFG_PERIOD))
    (failReg .imageInvalid LGC_CFG))]

/-- Row 6: the status and object a rule gives for a register out of range (R73, R167, R274, R364). -/
def rangeFail (n : RegName) (i j a w : Nat) : LoadReport :=
  match n with
  | .CNV_GCFG => fail7 .imageInvalid 1 0x05 i
  | .PRT_BAY0 | .PRT_BAY1 | .PRT_KB => fail7 .imageInvalid 1 0x01 i
  | .REC_CCFG | .REC_CSEG | .REC_CPOST | .REC_CMASK | .REC_CMABS => fail7 .imageInvalid 1 0x08 i
  | .REC_CTRG => { fail7 .imageInvalid 1 0x08 i with obj2 := j }
  | .TIM_IRIG => failReg (if within 2000 2255 (bf w 31 16) then .imageInvalid else .valueRange) a
  | _ => failReg .imageInvalid a

/-- R412: the bits of a register with an image field that are neither image fields nor reserved nor computed: a record may hold
anything there. -/
def passBits (n : RegName) : Nat :=
  match n with
  | .TRP_SCHED => 0xFFFF0000
  | .TRP_SCHED2 => 0xFFFF0000
  | .REC_SLOT => 0x00FF0000
  | .TIM_SAMP => 8
  | .TIM_UTC => 0x0007FFFF
  | _ => 0

/-- R412 and the ranges: one SETTINGS record; `prev` is the address of the record before it. -/
def State.recordCheck (c : State) (prev : Option Nat) (e : Nat × Nat) : Option LoadReport :=
  let order := match prev with
    | some p => decide (p < e.1)
    | none => true
  match regAt e.1 with
  | none => some (failReg .imageInvalid e.1)
  | some (f, i, j) =>
    if !order || f.img = 0 || e.2 &&& (0xFFFFFFFF - (f.img ||| passBits f.name)) != 0 then some (failReg .imageInvalid e.1)
    else need (c.rangeOk f.name i j e.2) (rangeFail f.name i j e.1 e.2)

/-- R412: the SETTINGS records in order: the first failure, with the address up to which the section was in order. -/
def State.settingsCheck (c : State) : Option Nat → List (Nat × Nat) → Option (Nat × LoadReport)
  | _, [] => none
  | prev, e :: es =>
    match c.recordCheck prev e with
    | some r => some (Nat.max (prev.getD 0) e.1, r)
    | none => c.settingsCheck (some e.1) es

/-- The failure whose object stands first: of those with the lowest address the first of the list. -/
def firstAt (l : List (Nat × Option LoadReport)) : Option LoadReport :=
  (l.foldl (fun (m : Option (Nat × LoadReport)) e =>
    match e.2, m with
    | some r, none => some (e.1, r)
    | some r, some x => if e.1 < x.1 then some (e.1, r) else m
    | none, _ => m) none).map (·.2)

/-! ### Row 6: bays and elements (R122, R125, R132, R134, R150, R153, R164 to R167) -/

/-- R122: the channels of an enabled bay. -/
def State.bayOk (c : State) (b : Nat) : Bool :=
  !c.flag (PRT_BAY1_EN b) ||
    (c.set3 false (c.getF (PRT_BAY0_IPH b)) && (!c.flag (PRT_BAY0_IN_EN b) || c.currentCh (c.getF (PRT_BAY0_IN b))) &&
      (!c.flag (PRT_BAY0_V_EN b) || c.set3 true (c.getF (PRT_BAY0_VPH b))) &&
      (!c.flag (PRT_BAY0_VN_EN b) || c.voltageCh (c.getF (PRT_BAY0_VN b))))

/-- R166: the bits of OPT, LIM1 and LIM2 a type uses. -/
def optMasks (ty : Nat) : Nat × Nat × Nat :=
  let all := 0xFFFFFFFF
  match ty with
  | 0x04 | 0x05 => (1, 0, 0)
  | 0x08 => (0xFFFFFF, all, 0xFF)
  | 0x09 => (0x3FFFFFF, all, 0xFF)
  | 0x0A => (3, all, 0)
  | 0x0B => (3, 0, 0)
  | 0x0C => (1, 0, 0)
  | 0x0D => (1, all, 0)
  | 0x0E => (0x3FF, all, 0)
  | 0x0F => (all, all, all)
  | 0x10 => (1, 0, 0)
  | 0x11 => (0, all, all)
  | 0x12 => (0x3F, all, all)
  | 0x13 => (0, all, all)
  | 0x14 => (1, all, 0)
  | 0x15 => (all, all, all)
  | _ => (0, 0, 0)

/-- R125, R151, R152, R154, R155, R166: the range of a type's pickup. -/
def puRange (ty : Nat) : Nat × Nat :=
  match ty with
  | 0x01 | 0x12 => (0, fsPeak)
  | 0x0D => (671088640, 1174405120)
  | 0x0E => (50, 10000)
  | 0x10 => (0, 0xFFFFFFFF)
  | 0x11 => (200, 3000)
  | 0x13 => (8192, 32768)
  | 0x14 => (820, 8192)
  | 0x15 => (64, 8388607)
  | _ => (0, fsRms)

/-- R132: DOR (Q2.14) of a type that uses it: 1.01 to 1.20 for 27, the under-element, 0.80 to 0.99 for the over-elements. -/
def dorOk (ty dor : Nat) : Bool :=
  if ty = 0x0A then within 16548 19660 dor
  else if ty ≤ 0x0C || ty = 0x10 then within 13108 16220 dor
  else true

/-- R148, R150 to R155, R159, R166: the type's own options and limits. -/
def optOk (ty opt l1 l2 : Nat) : Bool :=
  match ty with
  | 0x08 | 0x09 =>
    absN (sext 16 (opt % 65536)) ≤ 18000 && within 1 2 (bf opt 17 16) && bf opt 23 19 ≤ 15 && l2 ≤ 50
  | 0x0E => within 2 50 (bf opt 7 0) && bf opt 9 8 != 0
  | 0x0F => decide (l1 % 65536 < opt / 65536) && within 60 60000 l2
  | 0x11 => l2 ≤ 1000000
  | 0x12 => l1 ≤ l2
  | 0x15 => within 50 300 (opt % 65536) && 100 ≤ opt / 65536 && within 10 1000000 l2
  | _ => true

/-- R143: the types that may follow an inverse-time curve. -/
def curveType (ty : Nat) : Bool := within 3 9 ty

/-- R145, R165: DLY, which is TMIN for an element on a curve. -/
def dlyOk (ty crv dly : Nat) : Bool := dly ≤ (if curveType ty && crv < 0x800 then 10000000 else 100000000)

/-- Row 6 for one group's seven words. -/
def groupOk (ty pu dly w2 trst opt l1 l2 : Nat) : Bool :=
  let m := optMasks ty
  let crv := bf w2 29 18
  let rstm := bf w2 17 16
  within (puRange ty).1 (puRange ty).2 pu && dlyOk ty crv dly && dorOk ty (w2 % 65536) && rstm != 3 &&
  (rstm != 2 || (curveType ty && crv < 0x800)) && w2 / 1073741824 = 0 && (crv < 0x800 || crv = 0xFFF) && trst ≤ 100000000 &&
  opt &&& (0xFFFFFFFF - m.1) = 0 && l1 &&& (0xFFFFFFFF - m.2.1) = 0 && l2 &&& (0xFFFFFFFF - m.2.2) = 0 && optOk ty opt l1 l2

/-- Word `k` of an instance's settings. -/
def State.setW (c : State) (i k : Nat) : Nat := (c.rd (PRT_SET i k)).toNat

/-- Row 6 for a group of an instance. -/
def State.instGroupOk (c : State) (i g : Nat) : Bool :=
  let w (k : Nat) : Nat := c.setW i (2 + 7 * g + k)
  groupOk (c.elType i) (w 0) (w 1) (w 2) (w 3) (w 4) (w 5) (w 6)

/-- Row 6 for an instance in use (R164 to R166): header and four groups. -/
def State.instOk (c : State) (i : Nat) : Bool :=
  let h0 := c.setW i 0
  let h1 := c.setW i 1
  let b := c.elBay i
  within 1 0x15 (c.elType i) && b < 12 && c.flag (PRT_BAY1_EN b) && within 1 64 (bf h0 23 17) && bf h0 31 24 = 0 &&
  bf h1 15 10 = 0 && !(c.elType i = 0x12 && bitN h1 8 && bitN h1 9) && c.setW i 30 = 0 && c.setW i 31 = 0 &&
  (upto 4).all (c.instGroupOk i)

/-- R166: an unused instance: EN clear, and every other word of its record that the image names is 0. -/
def unusedOk (settings : List (Nat × Nat)) (i : Nat) : Bool :=
  settings.all (fun e => if e.1 = PRT_SET i 0 then !bitN e.2 12 else !(within (PRT_SET i 1) (PRT_SET i 31) e.1) || e.2 = 0)

/-- Row 6 for every instance, at the first word of its record. -/
def State.elementsCheck (c : State) (settings : List (Nat × Nat)) : List (Nat × Option LoadReport) :=
  instNums.map (fun i => (PRT_SET i 0,
    need (if c.elType i = 0 then unusedOk settings i else c.instOk i) (fail7 .imageInvalid 1 0x02 i)))

/-- R355, R366: an IRIG-B code or an option of the FRAMES section that the engine does not support. -/
def asksIrig (a : ImgAsk) : Bool := a.opt == .irigModulated || a.opt == .irigManchester

/-- Row 6 over the SETTINGS section in the order of its addresses, an object of several registers standing at the first of them
(log 52): records, bays (R122), zones, instances, the analysis program's enable (R241), the IRIG-B code (R355). -/
def State.row6Settings (c : State) (img : Image) : Option LoadReport :=
  firstAt ((match c.settingsCheck none img.settings with | some e => [(e.1, some e.2)] | none => []) ++
    (upto 12).map (fun b => (PRT_BAY0 b, need (c.bayOk b) (fail7 .imageInvalid 1 0x01 b))) ++
    (upto 2).map (fun z => (PRT_ZCFG z,
      need (!c.flag (PRT_ZCFG_ZEN z) || c.getF (PRT_ZIDMIN_IDMIN z) != 0) (failReg .imageInvalid (PRT_ZIDMIN z)))) ++
    c.elementsCheck img.settings ++
    [(POD_LCFG, need (!c.flag POD_LCFG_ANA_EN || img.ana.isSome) (failReg .imageInvalid POD_LCFG)),
     (TIM_IRIG, need (!img.asks.any asksIrig) (failReg .notSupported TIM_IRIG))] ++ c.impliedOk)

/-! ### Row 6: the other sections -/

/-- R144: a curve table. -/
def curveOk (t : List Nat) : Bool :=
  let op := t.take 256
  let rr := t.drop 256
  t.length = 320 && op.head? = some 0 && (op.zip (op.drop 1)).all (fun p => decide (p.1 ≤ p.2)) &&
  (rr.zip (rr.drop 1)).all (fun p => decide (p.2 ≤ p.1))

/-- R90, R140: a Geyser set. -/
def geyOk (z : GeySet) : Bool :=
  let sum (l : List Int) : Nat := l.foldl (fun n x => n + absN x) 0
  z.gc.length = 5 && z.gs.length = 4 && z.shq ≤ 7 && sum (geyC z) < 16777216 && sum (geyS z) < 16777216

/-- R115: is a Geyser set held at all? -/
def geyHeld (z : GeySet) : Bool := !(z.gc.isEmpty && z.gs.isEmpty)

/-- R90, R115, R140: the COEFF section: each set held is valid, each bank selected holds one. -/
def State.coeffCheck (c : State) (img : Image) : Option LoadReport :=
  (upto 8).findSome? (fun g => (upto 3).findSome? (fun st => (upto 2).findSome? (fun b =>
    let bank := lget ⟨[], [], false⟩ img.banks (g * 6 + st * 2 + b)
    let z := lget ⟨[], [], 0⟩ (lget [] img.gey g) b
    let ok := (!bank.full || setOk st bank) && (st != 0 || !geyHeld z || geyOk z) &&
      (c.selBank g st != b || (bank.full && (st != 0 || geyHeld z)))
    need ok { fail7 .imageInvalid 4 0x05 g with obj2 := st * 2 + b })))

/-- Row 6 for LOGIC and ANALYSIS (R241, R310 to R314, R411). -/
def State.row6Progs (c : State) (img : Image) : Option LoadReport :=
  let lgc := if img.prog.size = 0 then need (c.getF LGC_SIZE_NINST = 0) (fail7 .imageInvalid 6 0x13 6)
    else (progCodes img.prog).map (fun i => fail7 .imageInvalid 6 0x0A i)
  let ana := match img.ana with
    | some p => if !c.flag POD_LCFG_ANA_EN then some (fail7 .imageInvalid 7 0x13 7)
      else ((progCodes p).map (fun i => fail7 .imageInvalid 7 0x0A i)).or
        (need (within 125 10000 p.period && within 10 60000 p.initWait) (fail7 .imageInvalid 7 0x13 7))
    | none => none
  lgc.or ana

/-- R428, R429: the WORLDMAP section. -/
def worldMapOk (len : Nat) (m : List Nat) : Bool :=
  let w (k : Nat) : Nat := lget 0 m k
  len = 32 && bf (w 0) 3 2 = 0 && bf (w 0) 7 4 = 15 && bitN (w 2) 31 && bf (w 7) 7 2 = 0 && bf (w 7) 31 24 = 0 &&
  (upto 8).all (fun k => !bitN (w 7) (16 + k) || bitN (w 7) (8 + k))

/-- R422: the RESTART word. -/
def restartOk (w : Nat) : Bool :=
  bf w 1 0 != 3 && bf w 3 2 != 3 && bf w 5 4 != 3 && bf w 7 6 = 0 && bf w 23 12 != 0 && bf w 31 25 = 0

/-- R366, R368, R372, R375, R379: the FRAMES section: options, positions, sizes; a subscribed stream in use has 1 to 24 entries, a published one its frame. -/
def State.framesCheck (c : State) (img : Image) : Option LoadReport :=
  firstFail [
    (img.asks.find? (fun a => !asksIrig a)).map (fun a => fail7 .notSupported 8 a.kind a.obj),
    (img.gsubs.zip (upto img.gsubs.length)).findSome? (fun p =>
      need (p.1.items.all (fun it => it.pos < p.1.n)) (fail7 .imageInvalid 8 0x0D p.2)),
    (img.svsubs.zip (upto img.svsubs.length)).findSome? (fun p =>
      need ((p.1.n = 0 && !c.flag (GSV_SVSCFG_EN p.2)) || within 1 24 p.1.n) (fail7 .imageInvalid 8 0x0E p.2)),
    (upto 16).findSome? (fun st =>
      need (!c.flag (GSV_SVSCFG_EN st) || decide (st < img.svsubs.length)) (fail7 .imageInvalid 8 0x0E st)),
    (upto 8).findSome? (fun q =>
      need (!c.flag (GSV_SVPCFG_EN q) || decide (q < img.svpubs.length)) (fail7 .imageInvalid 8 0x0F q))]

/-- R411: may a TRIPMAT record stand at an address: the element sources and the maps (R177 to R179)? -/
def tripmatAt (a : Nat) : Bool :=
  match regAt a with
  | some (f, _, _) => f.name == .TRP_ESRC || f.name == .TRP_AMAP || f.name == .TRP_FMAP
  | none => false

/-- Row 6 for TRIPMAT: its records, as those of SETTINGS. -/
def State.tripmatCheck (c : State) (img : Image) : Option LoadReport :=
  (img.tripmat.findSome? (fun e => need (tripmatAt e.1) (failReg .imageInvalid e.1))).or
    ((c.settingsCheck none img.tripmat).map (·.2)) |>.map (fun r => { r with section_ := 5 })

/-- Row 6 of R414, section by section in TYPE order. SCHEDULE lists instances (or zones) and crossings of R14, SLOTTAB classes (8: none). -/
def State.row6 (c : State) (img : Image) : Option LoadReport :=
  firstFail [
    c.row6Settings img,
    need (img.order.all (fun l => l.all (fun i => decide (i < 514))) && img.crossings.all (fun x => within 1 11 x))
      (fail7 .imageInvalid 2 0x13 2),
    img.curves.findSome? (fun e => need (curveOk e.2) (fail7 .imageInvalid 3 0x12 e.1)),
    c.coeffCheck img,
    c.tripmatCheck img,
    c.row6Progs img,
    c.framesCheck img,
    need (img.slots.all (fun k => decide (k ≤ 8))) (fail7 .imageInvalid 9 0x13 9),
    need (img.ballMap < 64) (fail7 .imageInvalid 10 0x13 10),
    need (worldMapOk img.worldLen img.worldMap) (fail7 .imageInvalid 11 0x13 11),
    need (restartOk img.restart) (fail7 .imageInvalid 12 0x13 12)]

/-! ### Row 7: counts (R127, R144, R322, R368, R372) -/

/-- Row 7 of R414. -/
def State.row7 (c : State) (img : Image) : Option LoadReport :=
  firstFail [
    (instNums.filter (fun i => c.elType i = 0x15)).findSome? (fun i =>
      need (!(upto i).any (fun k => c.elType k = 0x15 && c.elBay k = c.elBay i)) (fail7 .lenRange 1 0x02 i)),
    need (lenFits img 1) (fail7 .lenRange 1 0x13 1),
    need (img.order.length = 2 && img.window.length = 2 && img.segment.length = 2) (fail7 .lenRange 2 0x13 2),
    (img.curves.find? (fun e => decide (2047 < e.1))).map (fun e => fail7 .lenRange 3 0x12 e.1),
    (progSizes img.prog c.itemTy 32768 16384 1048576 true).map (fun i => fail7 .lenRange 6 (if i = 0 then 0x13 else 0x0A) (if i = 0 then 6 else i)),
    need (retBytes (progCalls img.prog) c.itemTy ≤ 122880) (fail7 .loadConflict 6 0x09 2),
    (match img.ana with
      | some p => (progSizes p c.itemTy 8192 2048 131072 false).map (fun i => fail7 .lenRange 7 (if i = 0 then 0x13 else 0x0A) (if i = 0 then 7 else i))
      | none => none),
    (img.gcbs.zip (upto img.gcbs.length)).findSome? (fun p =>
      need (p.2 < 32 && p.1.entries.length ≤ 64 && p.1.hdr.len ≤ 1024) (fail7 .lenRange 8 0x0C p.2)),
    (img.gsubs.zip (upto img.gsubs.length)).findSome? (fun p =>
      need (p.2 < 128 && p.1.items.length ≤ 128) (fail7 .lenRange 8 0x0D p.2)),
    need (img.gsubs.foldl (fun n g => n + g.items.length) 0 ≤ 4096) (fail7 .lenRange 8 0x13 8),
    need (img.svsubs.length ≤ 16) (fail7 .lenRange 8 0x0E 16),
    need (img.svpubs.length ≤ 8) (fail7 .lenRange 8 0x0F 8),
    need (img.slots.length = 64) (fail7 .lenRange 9 0x13 9),
    need (lenFits img 10) (fail7 .lenRange 10 0x13 10),
    need (lenFits img 12) (fail7 .lenRange 12 0x13 12)]

/-! ### Row 8: references -/

/-- LOAD_CONFLICT naming an object of a section. -/
def conflict (sec kind obj : Nat) : LoadReport := fail7 .loadConflict sec kind obj

/-- R57: references and auxiliary entries against the ball map. -/
def State.refConflicts (c : State) (bm : Nat) : Option LoadReport :=
  ((upto 8).findSome? (fun g =>
    need (c.getF (CNV_GCFG_REF_SEL g) != 1 || bitN bm (g / 4))
      { conflict 1 0x05 g with ball := ballAux (if g < 4 then 12 else 14) })).or
  ((upto 32).findSome? (fun e =>
    let i := c.getF (AUX_ENT_INPUT e)
    need (!auxBallBusy bm i) { conflict 1 0x06 e with ball := ballAux i }))

/-- R195, R202: a binary input that something binds: not in trigger use, and enabled. -/
def State.binBound (c : State) (bm sec i : Nat) : Option LoadReport :=
  if trigUse bm i then some { conflict sec 0x07 i with ball := ballBi i }
  else need (c.flag (BIO_CFG_EN i)) (conflict sec 0x07 i)

/-- R195: a BIO_CFG entry with EN set of a pair in trigger use. -/
def State.bioConflicts (c : State) (bm : Nat) : Option LoadReport :=
  (upto 8).findSome? (fun k =>
    need (!(c.flag (BIO_CFG_EN (56 + k)) && bitN bm (2 + k / 2))) { conflict 1 0x07 (56 + k) with ball := ballBi (56 + k) })

/-- R124: what an instance needs of its bay. -/
def State.bayNeeds (c : State) (i g : Nat) : Bool :=
  let b := c.elBay i
  let o := c.setW i (2 + 7 * g + 4)
  let v := c.flag (PRT_BAY0_V_EN b)
  let n := c.flag (PRT_BAY0_IN_EN b)
  let vn := c.flag (PRT_BAY0_VN_EN b)
  match c.elType i with
  | 0x04 | 0x05 => !bitN o 0 || n
  | 0x06 => n
  | 0x08 | 0x0A | 0x0B | 0x10 | 0x11 => v
  | 0x09 => (if bitN o 25 then vn else v) && (!bitN o 24 || n)
  | 0x0C => if bitN o 0 then vn else v
  | _ => true

/-- R124, R163, R165: references of an instance. -/
def State.instRefs (c : State) (img : Image) (i : Nat) : Option LoadReport :=
  let ty := c.elType i
  if ty = 0 then none
  else
    let missing := (upto 4).find? (fun g => let crv := bf (c.setW i (4 + 7 * g)) 29 18
      crv < 0x800 && (Store.get [] img.curves crv).isEmpty)
    match missing with
    | some g => some { conflict 1 0x02 i with obj2 := bf (c.setW i (4 + 7 * g)) 29 18 }
    | none =>
      let sup := bf (c.setW i 0) 16 15 != 0
      need ((upto 4).all (c.bayNeeds i) && (!sup || instNums.any (fun k => c.elType k = 0x15 && c.elBay k = c.elBay i)))
        (conflict 1 0x02 i)

/-- R157: the bays of an enabled zone are configured. -/
def State.zoneRefs (c : State) : Option LoadReport :=
  (upto 2).findSome? (fun z =>
    if !c.flag (PRT_ZCFG_ZEN z) then none
    else (upto 12).findSome? (fun b =>
      let m := Nat.lor (c.getF (PRT_ZMAP_STAT z)) (c.getF (PRT_ZMAP_DYNB z))
      need (!bitN m b || c.flag (PRT_BAY1_EN b)) { conflict 1 0x01 b with obj2 := z }))

/-- The types evaluated in a slow list. -/
def slowType (ty : Nat) : Bool := ty != 0 && ty != 0x01 && ty != 0x12 && ty != 0x15

/-- R12: each bay belongs to one pod: no slow list of the other pod holds an instance of it, and one of its pod holds them. -/
def State.allotment (c : State) (img : Image) : Option LoadReport :=
  (upto 12).findSome? (fun b =>
    let other := (lget [] img.order (1 - c.bayPod b)).any (fun i => i < 512 && c.elType i != 0 && c.elBay i = b)
    let slow := instNums.filter (fun i => c.elOn i && slowType (c.elType i) && c.elBay i = b)
    let own := slow.all (fun i => (lget [] img.order (c.bayPod b)).contains i)
    need (!c.flag (PRT_BAY1_EN b) || (!other && own)) (conflict 2 0x01 b))

/-- R173: P1's slow list, and no other, evaluates 87B of every zone in use. -/
def State.zoneAllotment (c : State) (img : Image) : Option LoadReport :=
  let has (p z : Nat) : Bool := (lget [] img.order p).contains (512 + z)
  (upto 2).findSome? (fun z => need (!has 0 z && (!c.flag (PRT_ZCFG_ZEN z) || has 1 z)) (conflict 2 0x09 (b2n (!has 0 z))))

/-- R154: an inrush instance precedes every other of its bay in the slow list. -/
def State.inrushOrder (c : State) (img : Image) : Option LoadReport :=
  (upto 2).findSome? (fun p =>
    let l := lget [] img.order p
    let bad := (l.zip (upto l.length)).any (fun e => e.1 < 512 && c.elType e.1 = 0x14 && (l.take e.2).any (fun k => k < 512 && c.elBay k = c.elBay e.1))
    need (!bad) (conflict 2 0x09 p))

/-- R177, R179: is a bit of an output's maps that of a source in use? -/
def State.srcInUse (c : State) (k : Nat) : Bool :=
  if 512 ≤ k then true
  else
    let i := c.getF (TRP_ESRC_INST k)
    c.flag (TRP_ESRC_EN k) && (if c.getF (TRP_ESRC_SIG k) < 3 then c.hdr i 0 12 1 == 1 else c.flag (PRT_ZCFG_ZEN i))

/-- R179: is a FIRE source covered in the ARM map? -/
def State.covered (c : State) (n k : Nat) : Bool :=
  c.mapBit false n k ||
    (k < 512 && (upto 512).any (fun a => c.mapBit false n a && c.flag (TRP_ESRC_EN a) &&
      c.getF (TRP_ESRC_INST a) = c.getF (TRP_ESRC_INST k) &&
      ((c.getF (TRP_ESRC_SIG k) < 3 && c.getF (TRP_ESRC_SIG a) = 0) ||
        (c.getF (TRP_ESRC_SIG k) = 3 && c.getF (TRP_ESRC_SIG a) = 4))))

/-- R163, R177, R179: the trip matrix. -/
def State.matrixRefs (c : State) : Option LoadReport :=
  ((upto 512).findSome? (fun k =>
    let i := c.getF (TRP_ESRC_INST k)
    need (!(c.flag (TRP_ESRC_EN k) && c.getF (TRP_ESRC_SIG k) < 3 && c.elType i = 0x15)) (conflict 5 0x02 i))).or
  ((upto 32).findSome? (fun n => (upto 768).findSome? (fun k =>
    let arm := c.mapBit false n k
    let fire := c.mapBit true n k
    need ((!arm && !fire) || (c.flag (TRP_OCFG_EN n) && c.srcInUse k && (!fire || c.covered n k)))
      { conflict 5 0x03 n with obj2 := k })))

/-- R243, R248: row bytes, and largest and smallest rows per second over 40 to 70 Hz, of a stream of a class. -/
def State.streamRow (c : State) (k st : Nat) : Nat × Nat × Nat :=
  let n := (c.recChans k (if st < 2 then 64 else 128)).length
  match st with
  | 0 => (3 * n + (n + 1) / 2, 1024000, 1024000)
  | 1 => (4 * n + (n + 1) / 2, 32000, 32000)
  | 2 => (4 * n + (n + 1) / 2, 17920, 10240)
  | 3 => (128 * n, 70, 40)
  | _ => (192, 64000, 64000)

/-- The streams of a class. -/
def State.clsStreams (c : State) (k : Nat) : List Nat := (upto 5).filter (fun st => bitN (c.getF (REC_CCFG_STREAMS k)) st)

/-- R248: the capacity of a class in base rows. -/
def State.recCap (c : State) (k : Nat) : Nat :=
  let base := c.getF (REC_CCFG_BASE k)
  let b := c.streamRow k base
  let sts := c.clsStreams k
  let sum := sts.foldl (fun n st =>
    let r := c.streamRow k st
    let cyc (x : Nat) : Bool := x = 2 || x = 3
    n + r.1 * (if cyc st && cyc base then r.2.2 else r.2.1)) 0
  let e := sts.foldl (fun n st => if st = base then n else n + 2 * (c.streamRow k st).1) 0
  let size := c.segSize k
  if sum = 0 || size < 4096 + e then 0 else (size - 4096 - e) * b.2.2 / sum

/-- R247, R248, R250, R261 to R263: the record classes. -/
def State.classRefs (c : State) (bm k : Nat) : Option LoadReport :=
  let txDom := need (!c.flag (REC_CCFG_TX_EN k) || c.flag OZX_CFG_DOM_EN) (failReg .loadConflict OZX_CFG)
  let kindDom := (upto 32).findSome? (fun e => need (c.getF (REC_CTRG_KIND k e) != 7 || c.flag OZX_CFG_DOM_EN) (failReg .loadConflict OZX_CFG))
  if !c.flag (REC_CCFG_EN k) then firstFail [kindDom, txDom]
  else
    let base := c.getF (REC_CCFG_BASE k)
    let cap := c.recCap k
    let segs := c.segFirst k + c.nseg k
    let bytes := (upto (k + 1)).foldl (fun n q => n + c.nseg q * c.segSize q) 0
    let sts := c.clsStreams k
    let trk := c.recChans k 128
    let trigs := (upto 32).filter (fun e => c.flag (REC_CTRG_EN k e))
    let sizeOk := 2 ≤ c.nseg k && segs ≤ 4096 && bytes ≤ 2080374784 && cap ≤ 4294 * (c.streamRow k base).2.2 &&
      c.getF (REC_CPRE_PRE k) + c.getF (REC_CPOST_POST k) ≤ cap
    let entry := trigs.findSome? (fun e =>
      let i := c.getF (REC_CTRG_INDEX k e)
      match c.getF (REC_CTRG_KIND k e) with
      | 0 | 1 => need (c.elOn i) { conflict 1 0x08 k with obj2 := e }
      | 2 => need (i < 2 && c.flag (PRT_ZCFG_ZEN i)) { conflict 1 0x08 k with obj2 := e }
      | 3 => if i < 64 then c.binBound bm 1 i else some { conflict 1 0x08 k with obj2 := e }
      | 8 => need (i < 2 && bitN bm (2 + i)) { conflict 1 0x08 k with ball := ballBi (56 + 2 * i), obj2 := e }
      | 9 => need (i < 32 && c.flag (TRP_OCFG_EN i)) { conflict 1 0x08 k with obj2 := e }
      | _ => none)
    let tout := (upto 2).findSome? (fun i =>
      need (!bitN (c.getF (REC_CCFG_TOUT k)) i || bitN bm (4 + i)) { conflict 1 0x08 k with ball := ballBi (60 + 2 * i) })
    let mask := !c.flag (REC_CCFG_MASK_EN k) || (sts.contains 2 && trigs.any (fun e => c.getF (REC_CTRG_KIND k e) = 6) &&
      (upto 128).all (fun q => !bitN (c.getF (REC_CMCH_MCH k (q / 32))) (q % 32) || trk.contains q))
    firstFail [need sizeOk (conflict 1 0x08 k), entry, kindDom, tout, need mask (conflict 1 0x08 k), txDom]

/-- R335, R347, R352, R404: the time bases. -/
def State.timeRefs (c : State) : Option LoadReport :=
  ((upto 4).findSome? (fun b =>
    let src := c.tbSrc b
    let twice := (upto b).any (fun k => match src with
      | 1 => c.tbSrc k = 1 && c.getF (TIM_CFG_DOMAIN k) = c.getF (TIM_CFG_DOMAIN b)
      | 2 | 3 => c.tbSrc k = 2 || c.tbSrc k = 3 || (src = 3 && c.tbSrc k = 4)
      | 4 => c.tbSrc k = 3 || c.tbSrc k = 4
      | _ => false)
    (need (!twice && !(src = 1 && c.flag (TIM_CFG_GM_EN b))) (conflict 1 0x0B b)).or
      (need (src != 5 || c.linkEn (c.getF OZX_CFG_TSRC_LINK)) (failReg .loadConflict OZX_CFG)))).or
  (need (!c.flag TIM_SAMP_COMPAT || (c.tbSrc 0 = 1 && c.tbSrc 1 = 1 && c.getF (TIM_CFG_DOMAIN 0) != c.getF (TIM_CFG_DOMAIN 1) &&
    c.getF TIM_SAMP_SAMP_TB = 0 && c.getF (TIM_THR_STEP_THR 0) = c.getF (TIM_THR_STEP_THR 1))) (failReg .loadConflict TIM_SAMP))

/-- R400, R404: the pair and the trigger domain. -/
def State.ozRefs (c : State) : Option LoadReport :=
  let wiring (n : Nat) : Nat := c.getF (OZX_OUTW_WIRING (n / 16) (n % 16))
  let dom := (upto 2).all (fun l => !bitN (c.getF OZX_CFG_LINK_DOM) l || (c.linkEn l && c.flag OZX_CFG_DOM_EN))
  let pair := if c.flag OZX_CFG_PAIR then
      c.linkEn 0 && c.getF OZX_CFG_REFSEL = 0 &&
      (upto 32).all (fun n => wiring n != 2 || (c.flag TRP_WDCFG_WD_PODFAIL && c.getF (TRP_OCFG_FAILACT n) != 2))
    else (upto 32).all (fun n => wiring n = 0)
  need (dom && pair) (failReg .loadConflict OZX_CFG)

/-- R313, R315, R237, R195, R202: the programs. -/
def State.progConflicts (c : State) (img : Image) : Option LoadReport :=
  let env := c.progEnv
  let bins (sec : Nat) (p : ProgImg) : Option LoadReport := (progBins p).findSome? (fun e => c.binBound img.ballMap sec e.2)
  firstFail [
    (progRefs img.prog env 32768 1048576 none).map (fun i => conflict 6 0x0A i),
    bins 6 img.prog,
    (match img.ana with
      | some p => ((progRefs p env 8192 131072 (some img.prog)).map (fun i => conflict 7 0x0A i)).or (bins 7 p)
      | none => none)]

/-- R25, R410: CONFIG against PAIR, the role strap and the OZ0 clock balls. -/
def State.configCheck (c : State) (config : Nat) : Option LoadReport :=
  let r : LoadReport := ⟨stCode .loadConflict, 7, 0, 0, 0, 0, 0⟩
  if config = 1 then (need (c.flag OZX_CFG_PAIR) r).or (need (!c.sys.straps.ozTied) { r with ball := ballCode 15 6 })
  else need (config = 0 && !c.flag OZX_CFG_PAIR && !c.sys.straps.partner) r

/-- Row 8 of R414, section by section. -/
def State.row8 (c : State) (img : Image) (config : Nat) : Option LoadReport :=
  let bm := img.ballMap
  firstFail [
    c.configCheck config,
    c.refConflicts bm,
    (upto 12).findSome? (fun b =>
      if c.flag (PRT_BAY1_EN b) && c.flag (PRT_BAY1_CB_EN b) then c.binBound bm 1 (c.getF (PRT_BAY1_CBBI b)) else none),
    c.zoneRefs,
    instNums.findSome? (c.instRefs img),
    c.bioConflicts bm,
    (upto 8).findSome? (c.classRefs bm),
    c.timeRefs,
    c.ozRefs,
    c.allotment img,
    c.zoneAllotment img,
    c.inrushOrder img,
    c.matrixRefs,
    c.progConflicts img]

/-! ### Row 9: timing proofs (R172, R175, R269, R283) -/

/-- R269: the slots of a class, and the level its FIFO can reach with rows arriving evenly, both doubled for the parallel
ring, over every window of a frame. -/
def State.slotsOk (c : State) (slots : List Nat) (k : Nat) : Bool :=
  let r := (c.clsStreams k).foldl (fun n st => let x := c.streamRow k st; n + x.1 * x.2.1) 0
  let mine (q : Nat) : Bool := q % 8 != 0 && lget 8 slots q = k
  let n := ((upto 64).filter mine).length
  decide (2 * r ≤ n * 64 * 1000000) && (upto 64).all (fun a => (upto 64).all (fun w =>
    decide (r * (w + 1) ≤ (2048 + 64 * ((upto (w + 1)).filter (fun q => mine ((a + q) % 64))).length) * 32000000)))

/-- Row 9 of R414; an image whose schedules do not prove R14 names its SCHEDULE section and the crossing (log 52). -/
def State.row9 (c : State) (img : Image) : Option LoadReport :=
  firstFail [
    need (c.flag LGC_CFG_FREE || c.getF LGC_WCET_WCET ≤ c.getF LGC_CFG_PERIOD * 100) (conflict 1 0x09 2),
    (upto 2).findSome? (fun p =>
      need (Nat.max (lget 0 img.window p) (c.getF (TRP_SCHED2_GEY_PLAN p)) ≤ 1500 && lget 0 img.segment p ≤ 200 &&
        c.getF (TRP_SCHED_SLOW_END p) ≤ 33482) (conflict 2 0x09 p)),
    (img.crossings.head?).map (fun x => { conflict 2 0x13 2 with obj2 := x }),
    (match img.ana with
      | some p => need (p.wcet ≤ p.period * 100) (conflict 7 0x09 2)
      | none => none),
    (upto 8).findSome? (fun k => need (!c.flag (REC_CCFG_EN k) || c.slotsOk img.slots k) (conflict 9 0x08 k)),
    (((upto 64).map (lget 8 img.slots)).filter (fun k => decide (k < 8)))[56]?.map (fun k => conflict 9 0x08 k)]

/-! ### The image as a whole -/

/-- R307, R283: the registers an image gives, with the computed fields FREE (R283) and CAP (R248). -/
def State.withImage (s : State) (img : Image) : State :=
  let s := { s with regs := loadRegs s.regs (img.settings ++ img.tripmat), gsv := { s.gsv with gcbs := img.gcbs, gsubs := img.gsubs, svsubs := img.svsubs, svpubs := img.svpubs } }
  let s := s.setFlag LGC_CFG_FREE (2048 < s.getF LGC_SIZE_NINST)
  (upto 8).foldl (fun s k => if s.flag (REC_CCFG_EN k) then s.setF (REC_CCAP_CAP k) (s.recCap k) else s) s

/-- Rows 6 to 9 of R414 (step 7). -/
def State.validate (s : State) (img : Image) (config : Nat) : Option LoadReport :=
  let c := s.withImage img
  (c.row6 img).or ((c.row7 img).or ((c.row8 img config).or (c.row9 img)))

end Sys2Proof.Machine
end

