-- ==== Sys2Proof/Machine/Start.lean ====
section
/-!
DEFINITION. Start-up, device modes and restarts (13 R405 to R423, 01 R18 to R22): power-on reset, the slot chosen, the steps
of R405, SAFE, changes between RUN and TEST, loss of the reference, restarts by command and by policy.
-/
namespace Sys2Proof.Machine

/-- Change the start-up state. -/
def State.sysUpd (s : State) (f : SysSt → SysSt) : State := { s with sys := f s.sys }

/-- R511: the TAP's instruction when BOOT_HOLD no longer holds the start. -/
def tapUnheld (t : TapInst) : TapInst :=
  match t with
  | .extest | .highz | .clamp => .bypass
  | t => t

/-! ### SAFE (R18, R21, R23) -/

/-- R18, R451: a MODE_SET that awaits its change is answered. -/
def State.answerMode (s : State) (st : Status) : State :=
  match s.cmd.modeWait with
  | some q => { s with cmd := { s.cmd with modeWait := none } }.respond q st 0 []
  | none => s

/-- R10, R420, R433: a MODE_SET that awaits its change ends without a response. -/
def State.dropMode (s : State) : State :=
  match s.cmd.modeWait with
  | some q => { s with cmd := { s.cmd with modeWait := none } }.retireLast q
  | none => s

/-- R21: the time bases stop where they stand (log 101). -/
def State.stopTime (s : State) : State :=
  let hold (b : Nat) : TbInt :=
    let t := splitTime (s.tbAt b s.now)
    { s.tb b with run := false, sec := t.1, ns := t.2.1, sub := t.2.2 }
  { s with tim := { s.tim with bases := (upto 4).map hold } }

/-- R240: the pods enter STOPPED, Pod L no longer split; a pod in FAIL stays there (R223). -/
def State.podsStop (s : State) : State :=
  let s := (upto 3).foldl (fun s p =>
    let s := s.setPod p { s.podOf p with resync := none, haltReq := false, stopping := none }
    if s.podState p = 4 then s else (s.setF (POD_STAT_STATE p) 0).setF (POD_STAT_RUN p) 0) s
  let s := s.setProg 1 { s.prog 1 with scan := none }
  let s := { s with lgc := { s.lgc with joinFrom := none, joinDone := false, joinSkip := false } }
  let s := (s.setFlag POD_LSTAT_SPLIT false).setFlag POD_LSTAT_ANA_RUN false
  ((s.setFlag POD_LSTAT_SPLIT_PEND false).setFlag POD_LSTAT_JOIN_PEND false).setFlag POD_LSTAT_HELD false

/-- R18, R21, R23, R421: SAFE is entered: outputs static low, logic in Stop, records closed, duties released, time bases stopped,
SAFE_CAUSE in the boot record. A requested mode change no longer happens; only a loss of the reference after the start leaves a
policy restart that waits, and the SAFE command cancels one asked for by policy (R422). A restart asked for before a SAFE at start-up is not taken either (R10). -/
def State.enterSafe (s : State) (cause : Nat) : State :=
  let m := s.getF LGC_MODE_MODE
  let s := if m = 1 || m = 2 then s.enterStop else s
  let s := s.recSafe.releaseDuties.outputsLow.stopTime.podsStop
  let s := { s with mode := .safe }.sysUpd (fun x => { x with
    tap := tapUnheld x.tap, modeReq := none, safeAtStart := !x.ran, policy := if cause = 3 && x.ran then x.policy else none
    restart := if x.ran then x.restart.filter (fun r => cause = 3 || !r.byPolicy) else none })
  s.bootUpd (fun b => { b with safeCause := cause })

/-! ### Slots (R408, R415, R416) -/

/-- Write a slot's load report. -/
def State.report (s : State) (slot : Nat) (r : LoadReport) : State :=
  s.bootUpd (fun b => if slot = 0 then { b with repA := r } else { b with repB := r })

/-- A header that was not read. -/
def noHdr : ImgHdr := ⟨false, false, 0, 0, 0, 0, 0, 0, 0, 0, 0, 0⟩

/-- The header of a slot as read. -/
def State.hdrOf (s : State) (slot : Nat) : ImgHdr := lget noHdr s.sys.hdrs slot

/-- IMAGE_INVALID at a step, naming the header. -/
def hdrFail (step : Nat) : LoadReport := ⟨stCode .imageInvalid, step, 0, 0, 0, 0, 0⟩

/-- R416: the second slot tried is invalid too: SAFE with SAFE_CAUSE 0x1. -/
def State.bothInvalid (s : State) (r : LoadReport) : State := (s.report s.sys.slot r).enterSafe 1

/-- R416: the slot tried is invalid: IMAGE_FALLBACK and the other one, or SAFE. -/
def State.slotFailed (s : State) (r : LoadReport) : State :=
  if !s.sys.tried.isEmpty then s.bothInvalid r
  else
    let k := s.sys.slot
    let s := (s.report k r).raise 120 k r.status
    let s := s.sysUpd (fun x => { x with tried := [k], slot := 1 - k, cand := none })
    if hdrOk (s.hdrOf s.sys.slot) then s.sysUpd (fun x => { x with step := 3 }) else s.bothInvalid (hdrFail 3)

/-- Step 3 of R405: the header of the chosen slot (rows 1 and 2 of R414). -/
def State.startSlot (s : State) : State :=
  if hdrOk (s.hdrOf s.sys.slot) then s.sysUpd (fun x => { x with step := 3 }) else s.slotFailed (hdrFail 3)

/-- Steps 1 and 2 of R405: TRNG health, the flash's octal DDR, then the hold of BOOT_HOLD or step 3. -/
def State.stepTwo (s : State) (hdrs : List ImgHdr) (octal trngOk hold : Bool) : State :=
  let s := { s with sec := { s.sec with trngOk := trngOk } }
  let s := s.sysUpd (fun x => { x with step := 2, hdrs := hdrs, flashFast := octal, held := hold })
  let s := if trngOk then s else s.raise 118 0 2
  let s := if octal then s else s.raise 122 0 0
  if hold then s else s.startSlot

/-- R408, R409: the slot to read; a hold at power-on reset, or no valid boot record, writes IMG_SLOT to PREF_SLOT. -/
def State.chooseSlot (s : State) (held : Bool) : State :=
  let strap := b2n s.sys.straps.slotB
  let s := s.bootRead
  if held || !s.mram.boot.valid then
    (s.bootUpd (fun b => { b with pref := strap })).sysUpd (fun x => { x with slot := strap })
  else s.sysUpd (fun x => { x with slot := s.mram.boot.pref })

/-- R409: START_CAUSE of this start; SAFE_CAUSE 0 until SAFE is entered; the one before goes to ENGINE_STARTED. -/
def State.startRecord (s : State) (cause : Nat) : State :=
  let prev := s.mram.boot.safeCause
  (s.bootUpd (fun b => { b with startCause := cause, safeCause := 0 })).sysUpd (fun x => { x with prevSafe := prev })

/-! ### Power-on reset (R420, R421, R495) -/

/-- What every start leaves of the state: the model's own fields, MRAM, keys and OTP, and the levels at the input balls. -/
def State.cleared (s : State) : State :=
  { State.reset with
    now := s.now, pending := s.pending, freeCtr := s.freeCtr, mram := s.mram
    sec := { resetSec with keys := s.sec.keys, otp := s.sec.otp }
    trp := { resetTrp with bio := s.trp.bio.map (fun b => { resetBio with level := b.level }) } }

/-- SUPPLY_OUT_OF_RANGE (R495, R421): power-on reset is asserted. The log's buffer is written (R471, log 62); outputs stop at their
present level, which the pull-downs then bring low (R496, log 134). -/
def supplyOutOfRangeEff (s : State) : State :=
  let t := s.dropMode.logFlush.cleared
  { t with trp := { t.trp with lvlArm := s.trp.lvlArm, lvlFire := s.trp.lvlFire, wdLevel := s.trp.wdLevel } }

/-- POWER_ON_RESET_RELEASE (R405 steps 1 and 2, R407, R408): straps latched, boot record read, headers of both slots as the
flash holds them. -/
def powerOnResetReleaseEff (straps : Straps) (hdrs : List ImgHdr) (octal trngOk : Bool) (s : State) : State :=
  if !s.sys.por then s
  else
    let s := s.sysUpd (fun x => { x with por := false, straps := straps, refPresent := true })
    let s := { s with trp := { s.trp with lvlArm := 0, lvlFire := 0, wdLevel := false } }
    ((s.chooseSlot straps.hold).startRecord 0).stepTwo hdrs octal trngOk straps.hold

/-- BOOT_HOLD_FALL (R407): the start continues at step 3 with what the flash now holds. -/
def bootHoldFallEff (hdrs : List ImgHdr) (s : State) : State :=
  if !s.sys.held || !(s.mode == .boot) then s
  else
    (s.sysUpd (fun x => { x with held := false, hdrs := hdrs, tap := tapUnheld x.tap })).startSlot

/-! ### Steps 4 to 7 (R405, R413 to R416) -/

/-- IMAGE_HASH_DONE (R405 step 4, row 3 of R414). -/
def imageHashDoneEff (sigOk : Bool) (s : State) : State :=
  if !(s.mode == .boot) || s.sys.held || s.sys.step != 3 then s
  else if s.sigCheck (s.hdrOf s.sys.slot) sigOk then s.sysUpd (fun x => { x with step := 4 })
  else s.slotFailed (hdrFail 4)

/-- LPDDR4X_TRAINING_DONE (R405 step 5, R416): training ends; when it fails, SAFE with SAFE_CAUSE 0x2. -/
def lpddr4xTrainingDoneEff (ok : Bool) (s : State) : State :=
  if !(s.mode == .boot) || s.sys.held || s.sys.step < 3 || 4 < s.sys.step || s.sys.trained then s
  else if ok then s.sysUpd (fun x => { x with trained := true })
  else s.enterSafe 2

/-- SECTIONS_LOADED (R405 step 6, R413, rows 4 and 5 of R414): the sections as read a second time, with the types of those
whose hash differs. -/
def sectionsLoadedEff (img : Image) (badHash : List Nat) (s : State) : State :=
  if !(s.mode == .boot) || s.sys.step != 4 || !s.sys.trained then s
  else
    match sectionsCheck (s.hdrOf s.sys.slot) img badHash with
    | some r => s.slotFailed r
    | none => s.sysUpd (fun x => { x with step := 6, cand := some (heldBy img.dir img) })

/-! ### Step 8: the islands start (R405, R412, R421) -/

/-- R491: what is measured stays as measured through an image load. -/
def State.keepMeasured (s s0 : State) : State :=
  let s := (upto 5).foldl (fun s k => s.wr (SYS_VMON k) (s0.rd (SYS_VMON k))) s
  ((s.wr SYS_TEMP (s0.rd SYS_TEMP)).wr SYS_CLK (s0.rd SYS_CLK)).setFlag SYS_CLK_SAMP_LOCK false

/-- R490, R428, R444: the registers the header and the WORLDMAP section give. -/
def State.loadIdent (s : State) (h : ImgHdr) (img : Image) : State :=
  let s := (((s.setF SYS_IMGVER_IMG_VER h.ver).setF SYS_IMGID_LO_IDL h.ident).setF SYS_IMGID_HI_IDH (h.ident / 4294967296))
  let s := (upto 8).foldl (fun s w => s.setF (SEC_WMAP_MAP w) (lget 0 img.worldMap w)) s
  s.setF SEC_STAT_BOOTKEY h.keySlot

/-- R56, R75: the references as the image selects them. -/
def State.loadRefs (s : State) : State :=
  (upto 8).foldl (fun s g =>
    let r := s.getF (CNV_GCFG_REF_SEL g)
    (s.setF (CNV_GSTAT_REF_ACT g) r).setF (CNV_REFREQ_REF_REQ g) r) s

/-- R89, R115, R140: coefficient banks and Geyser sets of every chain group. -/
def State.loadBanks (s : State) (img : Image) : State :=
  (upto 8).foldl (fun s g =>
    let s := (upto 6).foldl (fun s k => s.setBank g (k / 2) (k % 2) (lget ⟨[], [], false⟩ img.banks (g * 6 + k))) s
    s.setFgrp g { s.fgrp g with gey := lget [] img.gey g }) s

/-- R159: the channels of bays with a surge instance. -/
def State.surgeChans (s : State) : List Nat :=
  (upto 12).flatMap (fun b =>
    if instNums.any (fun i => s.elType i = 0x15 && s.elBay i = b) then
      let ip := s.getF (PRT_BAY0_IPH b)
      let vp := s.getF (PRT_BAY0_VPH b)
      [ip, ip + 1, ip + 2] ++ (if s.flag (PRT_BAY0_V_EN b) then [vp, vp + 1, vp + 2] else [])
    else [])

/-- R97, R103, R120: the filter island: nominal frequency, virtual channels' rates. -/
def State.loadFilter (s : State) : State :=
  let f := s.fnom
  let rate (k : Nat) : Nat :=
    if s.flag (GSV_VCH_EN k) && s.flag (GSV_SVSCFG_RATE (s.getF (GSV_VCH_STREAM k))) then 14400 else 4800
  let s := { s with flt := { s.flt with fTgt := f, vrate := (upto 64).map rate, iseChans := s.surgeChans } }
  let s := (upto 128).foldl (fun s c => s.setFch c { s.fch c with trim := s.getI (FLT_TRIM_TRIM c) }) s
  (s.setF FLT_FEST_FEST f).setF FLT_FTRK_FTRK f

/-- R128, R168: an instance in use as it starts: dropped, DIR none for directional types, SETTLING, its bay's group. -/
def State.loadInst (s : State) (i : Nat) : State :=
  let ty := s.elType i
  if ty = 0 then s
  else
    let s := s.setF (PRT_ST_DIR i) (if ty = 8 || ty = 9 then 3 else 0)
    let s := (s.setF (PRT_ST_GRP i) (s.getF (PRT_BSTAT_GRP (s.elBay i)))).setF (PRT_ST_TAG i) 1
    if ty = 0x0F then s.setInst i { resetInst with theta := (s.gp i 5) / 65536 * 16384 } else s

/-- R128, R157, R168: protection: groups, zone members, curves, evaluation order, instances. -/
def State.loadProt (s : State) (img : Image) : State :=
  let s := { s with prt := { s.prt with curves := img.curves, order := img.order } }
  let s := (upto 12).foldl (fun s b => s.setF (PRT_BSTAT_GRP b) (s.getF (PRT_BAY1_IGRP b))) s
  let s := (upto 2).foldl (fun s z => s.setF (PRT_ZSTAT_MEMB z) (s.getF (PRT_ZMAP_STAT z))) s
  instNums.foldl State.loadInst s

/-- R206, R240: the pods' memory is as the image load leaves it; the pods leave STOPPED. -/
def State.loadPods (s : State) (img : Nat) : State :=
  (upto 3).foldl (fun s p => ((s.setPod p { resetPod with img := img }).setF (POD_STAT_STATE p) 1).setRun p 7) s

/-- A program as loaded. -/
def loadProg (img : ProgImg) : ProgSt :=
  { resetProg with img := img, calls := progCalls img, mem := img.init, ints := img.ints0, out := img.outInit }

/-- R283, R307, R310: the programs, the logic outputs at their initial values. -/
def State.loadLogic (s : State) (img : Image) (slot : Nat) : State :=
  let ctl := { img.prog with
    period := s.getF LGC_CFG_PERIOD, free := s.flag LGC_CFG_FREE, wcet := s.getF LGC_WCET_WCET, initWait := s.getF LGC_CFG_INIT_WAIT }
  let ana := match img.ana with
    | some p => loadProg { p with free := false }
    | none => resetProg
  let s := { s with lgc := { s.lgc with progs := [loadProg ctl, ana] } }
  let s := { s with trp := { s.trp with lo := img.prog.outInit, loAtCommit := img.prog.outInit, grid0 := s.now } }
  (s.setLgcOut img.prog.outInit).setF LGC_XSTAT_SLOT slot

/-- R250, R268, R273: the recorder: memory lost, counts and slot table of the image in force. -/
def State.loadRec (s : State) (slots : List Nat) : State :=
  let s := (upto 8).foldl (fun s c => s.setCls c { s.rcls c with pre := s.getF (REC_CPRE_PRE c), post := s.getF (REC_CPOST_POST c) }) s.recStart
  { s with tph := { s.tph with slots := slots } }

/-- R334, R336, R363: the time bases run from 0 s, UNSET, or FREE with SRC 0b000. -/
def State.loadTime (s : State) : State :=
  let s := { s with tim := { s.tim with bases := (upto 4).map (fun _ => { resetTb with run := true, refT := s.now }) } }
  let s := s.setF TIM_UTC_UTCOFS (s.getF TIM_UTC_UTCDEF)
  (upto 4).foldl (fun s b => (s.setF (TIM_STAT_STATE b) (if s.tbSrc b = 0 then 5 else 0)).setQual b) s

/-- R368, R395, R402: GOOSE control blocks at their initial values; the pair's role and the image's digest. -/
def State.loadComm (s : State) (img : Image) : State :=
  let gi (k : Nat) : GcbInt :=
    let c := lget noGcb img.gcbs k
    { resetGcb with vals := c.init, gset := c.init }
  let s := { s with gsv := { s.gsv with gcbInts := (upto 32).map gi }, oz := { s.oz with imgDig := img.digest } }
  s.setF OZX_PSTAT_ROLE (b2n s.sys.straps.partner)

/-- Step 8 of R405; RL and CAPT are 0 at image load (R444, R492). -/
def State.startIslands (s : State) (img : Image) : State :=
  let slot := s.sys.slot
  let h := s.hdrOf slot
  let s := ((s.withImage img).keepMeasured s).loadIdent h img
  let s := (((s.loadRefs).loadBanks img).loadFilter).loadProt img
  let s := (((s.loadPods img.digest).loadLogic img slot).loadRec img.slots).loadTime
  let s := s.loadComm img
  let s := s.bootUpd (fun b => { b with booted := slot })
  let s := s.sysUpd (fun x => { x with
    step := 8, mapOn := true, ballMap := img.ballMap, rp0 := img.restart, ran := false, caps := [none, none] })
  let s := { s with sec := { s.sec with limit := [none, none] } }
  let s := if img.auxAuto then s.auxRun else s
  s.queuePre.raise 126 slot (s.mram.boot.startCause + 256 * s.sys.prevSafe)

/-- IMAGE_VALIDATION (R405 steps 7 and 8, R414, R415). -/
def imageValidationEff (s : State) : State :=
  if !(s.mode == .boot) || s.sys.step != 6 then s
  else
    match s.sys.cand with
    | none => s
    | some img =>
      match s.validate img (s.hdrOf s.sys.slot).config with
      | some r => s.slotFailed r
      | none => (s.report s.sys.slot resetReport).startIslands img

/-! ### Steps 9 and 10 (R38, R116, R117, R405) -/

/-- STARTUP_CALIBRATION_DONE (R38, R405 step 9): what the calibration found per group and position; the chain groups start. -/
def startupCalibrationDoneEff (cals : List (List SliceCal)) (s : State) : State :=
  if s.sys.step != 8 || !(s.mode == .boot) then s
  else
    let s := (upto 8).foldl (fun s g => s.startCal g (lget [] cals g)) s
    let s := (upto 8).foldl (fun s g => s.syncReset g) s.chainStart
    (s.sysUpd (fun x => { x with step := 9 })).bioStart

/-- Step 10: the first clean boundary: every chain group RUNNING. -/
def State.cleanBoundary (s : State) : State :=
  if s.sys.step = 9 && s.mode == .boot && (upto 8).all (fun g => s.chainState g = 2) then s.sysUpd (fun x => { x with step := 10 })
  else s

/-- R18, R405 step 10: protection ACTIVE and device mode RUN: the logic starts (R294), classes arm (R260), lead duties (R399). -/
def State.toRun (s : State) : State :=
  let s := { s with mode := .run }.sysUpd (fun x => { x with ran := true })
  let s := s.setFlag SYS_MODE_ACTIVE true
  let s := if s.flag LGC_CFG_AUTORUN && s.hasProg 0 then
      (s.setProg 0 { s.prog 0 with startReq := if s.sys.warm then 2 else 1 }).startFree
    else s
  s.recAutoArm.dutiesAtActive

/-- R18: at a fast tick with every protection pod running, a start that has reached its clean boundary becomes RUN. -/
def State.activeAtTick (s : State) : State :=
  if s.sys.step = 10 && s.mode == .boot && s.podRuns 0 && s.podRuns 1 then s.toRun else s

/-! ### RUN and TEST (R18 to R22, R397) -/

/-- R20, R22: the return to RUN ends every force. -/
def State.endForce (s : State) : State :=
  let s := (s.setF TRP_FRC_ARM_FARM 0).setF TRP_FRC_FIRE_FFIRE 0
  { s with trp := { s.trp with forced := 0 }, cmd := { s.cmd with forceEnd := none } }

/-- MODE_CHANGE_EFFECT (R18): an accepted change takes effect at the first slow-tick boundary after its acceptance, and MODE_SET is
answered. -/
def modeChangeEffectEff (s : State) : State :=
  match s.sys.modeReq with
  | none => s
  | some (m, from_) =>
    if !s.protecting || s.flt.m ≤ from_ then s
    else
      let s := { s with mode := m }.sysUpd (fun x => { x with modeReq := none })
      let s := if m == .run then s.endForce else s
      let s := if m == .test && s.paired && s.leads && s.flag OZX_PSTAT_PARTNER_OK then { s with oz := { s.oz with relNext := true } }
        else s
      s.tripStat.answerMode .ok

/-! ### Restarts (R420 to R423) -/

/-- R420, R423: of two restarts asked for, one is taken: cold if either is; a policy restart only if both are. -/
def mergeReq (a : Option RestartReq) (b : RestartReq) : RestartReq :=
  match a with
  | some x => ⟨x.cold || b.cold, x.byPolicy && b.byPolicy⟩
  | none => b

/-- A restart is to be taken. -/
def State.reqRestart (s : State) (cold byPolicy : Bool) : State :=
  s.sysUpd (fun x => { x with restart := some (mergeReq x.restart ⟨cold, byPolicy⟩) })

/-- R10, R422: a SAFE that no policy restart ends: one entered at start-up, or by the SAFE command. -/
def State.safeStays (s : State) : Bool := s.mode == .safe && (s.sys.safeAtStart || s.mram.boot.safeCause != 3)

/-- R10: a SAFE that only a power-on reset ends: the reference was lost before protection was active. -/
def State.safeTillPor (s : State) : Bool := s.mode == .safe && s.sys.safeAtStart && s.mram.boot.safeCause = 3

/-- R422: a cause of the policy with its action: 0 NONE, 1 WARM, 2 COLD. -/
def State.policyCause (s : State) (act : Nat) : State :=
  if act = 0 || s.safeStays then s else s.sysUpd (fun x => { x with policy := some (mergeReq x.policy ⟨act == 2, true⟩) })

/-- R422: P0, P1 or L newly in FAIL; the logic of a failed Pod L ends (R291). -/
def State.podHook (s0 s : State) : State :=
  let newly (p : Nat) : Bool := s.podState p = 4 && s0.podState p != 4
  let s1 := if newly 2 then s.logicFailed else s
  let s1 := if newly 2 then s1.policyCause (bf s.sys.rp0 3 2) else s1
  if newly 0 || newly 1 then s1.policyCause (bf s.sys.rp0 1 0) else s1

/-- R471, R423 rule 4: is a cause of a policy restart still waiting to reach the log? -/
def State.causeUnlogged (s : State) : Bool := s.evt.logBuf.any (fun e => e.src = 2 || e.src = 123)

/-- R423 rule 1: a window of UPTIME that has passed starts afresh. -/
def State.restartWindow (s : State) : State :=
  let b := s.mram.boot
  if 60 * bf s.sys.rp0 23 12 ≤ b.uptime - b.rwStart then s.bootUpd (fun b => { b with rwStart := b.uptime, rcount := 0 }) else s

/-- R423 rule 3: does a redundant pair defer the restart? -/
def State.pairDefers (s : State) : Bool :=
  bitN s.sys.rp0 24 && s.paired &&
    (!s.flag OZX_PSTAT_PARTNER_OK || (s.sys.straps.partner && s.getF OZX_PSTAT_P_PODOK % 4 != 3))

/-- POLICY_RESTART (R423): the rules in order; an RCOUNT above MAXR, as a new image can leave it, is at its limit too (log 102). -/
def policyRestartEff (s : State) : State :=
  match s.sys.policy with
  | none => s
  | some p =>
    if !s.sys.refPresent || s.safeStays then s
    else
    let s := s.restartWindow
    let n := s.mram.boot.rcount
    if bf s.sys.rp0 11 8 ≤ n then (s.sysUpd (fun x => { x with policy := none })).raise 121 0 n
    else if s.pairDefers || s.causeUnlogged then s
    else
      let s := s.bootUpd (fun b => { b with rcount := satInc 255 n })
      (s.sysUpd (fun x => { x with policy := none })).reqRestart p.cold true

/-- R5: the RWS bits of a register file; everything else at reset. -/
def rwsKept (old : Store Word) : Store Word :=
  old.foldl (fun m e =>
    match regAt e.1 with
    | some r => Store.set (rstWord e.1) m e.1 (mixBits r.1.rws e.2.toNat (rstWord e.1).toNat)
    | none => m) []

/-- R421: a cold or warm restart: what stays beside what every start leaves. -/
def State.restarted (s : State) (warm : Bool) : State :=
  let t := s.cleared
  { t with
    regs := rwsKept s.regs
    evt := { t.evt with logBuf := s.evt.logBuf, logDropNext := s.evt.logDropNext }
    sys := { t.sys with
      por := false, straps := s.sys.straps, refPresent := s.sys.refPresent, excursions := s.sys.excursions, tap := s.sys.tap
      warm := warm } }

/-- RESTART_TAKE (R420, R421, R405 from step 1): headers, flash and TRNG as the new start finds them, and the level of
BOOT_HOLD (R407). -/
def restartTakeEff (hdrs : List ImgHdr) (octal trngOk holdLvl : Bool) (s : State) : State :=
  match s.sys.restart with
  | none => s
  | some r =>
    if s.sys.por || !s.sys.refPresent || s.safeTillPor then s
    else
      let cold := r.cold || (match s.sys.policy with | some p => p.cold | none => false)
      let cause := if r.byPolicy then (if cold then 3 else 4) else (if cold then 1 else 2)
      let old := s.trp
      let s := s.dropMode.restarted (!cold)
      let s := s.setTrp (fun x => { x with
        lvlArm := old.lvlArm, lvlFire := old.lvlFire, wdLevel := old.wdLevel, grid0 := old.grid0 })
      ((s.chooseSlot s.sys.straps.hold).startRecord cause).stepTwo hdrs octal trngOk (s.sys.straps.hold && holdLvl)

/-! ### The reference (R10, R422, R469) -/

/-- R10, R469: CLOCK_LOSS reaches the log alone. -/
def State.logOnly (s : State) (src : Nat) : State :=
  let s := s.seen src
  let e := s.mkEntry ⟨src, 0, 0⟩
  { s with mram := { s.mram with eseq := e.eseq } }.logPush e

/-- REFERENCE_LOSS (R10, R18, R469): Caldera logs CLOCK_LOSS and holds both balls low; the engine enters SAFE. -/
def referenceLossEff (s : State) : State :=
  if s.sys.por || !s.sys.refPresent then s
  else
    let s := ((s.sysUpd (fun x => { x with refPresent := false })).logOnly 123)
    let s := { s.dropMode with evt := { s.dropMode.evt with ballsHeld := true } }
    let s := (s.setFlag SYS_CLK_REF_OK false).setFlag SYS_CLK_LOSS_SEEN true
    if s.mode == .safe then s else s.enterSafe 3

/-- R382, R388, R10: OZ_LINK_DOWN; the clock of a link that REFSEL names is the engine's reference, whose loss it then is. -/
def ozLinkFallEff (l : Nat) (clk : Bool) (s : State) : State :=
  let a := ozLinkDownEff l clk s
  if !clk && s.ozOn && s.getF OZX_CFG_REFSEL = l + 1 then referenceLossEff a else a

/-- REFERENCE_RETURN_RESTART (R422): the reference has been present for 100 ms. -/
def referenceReturnRestartEff (s : State) : State :=
  if s.sys.por || s.sys.refPresent then s
  else
    let s := (s.sysUpd (fun x => { x with refPresent := true })).setFlag SYS_CLK_REF_OK true
    if s.mode == .safe then s.policyCause (bf s.sys.rp0 5 4) else s

/-- UPTIME_UPDATE (R409). -/
def uptimeUpdateEff (s : State) : State :=
  if s.sys.por then s else s.bootUpd (fun b => { b with uptime := (b.uptime + 1) % 4294967296 })

end Sys2Proof.Machine
end

