-- ==== Sys2Proof/Machine/Tick.lean ====
section
/-!
DEFINITION. What a command does around its own effect: its instant and the queue it leaves alone; and the two ticks on which
several islands act at once.
-/
namespace Sys2Proof.Machine

/-- Every command's step: the clock of the model comes to its instant, the effect follows, the waiting commands are left as
they are. -/
def State.happen (s : State) (t : Nat) (f : State → State) : Host.Outcome State Fault Refusal :=
  let a := s.at t
  .next { f a with now := a.now, pending := s.pending }

/-- R18, R171: FAST_TICK: a start that has reached its clean boundary becomes RUN before the tick's evaluation. -/
def startTickEff (s : State) : State := fastTickEff s.activeAtTick

/-- R14: a third entry on a crossing: its overrun counter, and event 124. -/
def State.crossOverrun (s : State) (c : Nat) : State :=
  if 1 ≤ c ∧ c < 12 then
    (s.sysUpd (fun x => { x with overruns := lset x.overruns (c - 1) (lget 0 x.overruns (c - 1) + 1) })).raise 124 c 0
  else s

/-- R14, R17, R111, R173, R401, R405: PHASOR_SWAP: the boundary B_m with the pair's digest and step 10 of the start. Where the DFT unit
has not finished its half by the boundary, the halves stand and crossing X2 counts an overrun (log 31). -/
def swapTickEff (s : State) : State :=
  let a := slowBoundaryEff s
  if a.flt.m != s.flt.m then a.digestSend.cleanBoundary
  else if s.gridRuns && s.boundaryDue && !s.halfDone then a.crossOverrun 2
  else a

/-- R14: the virtual-channel samples overwritten on X8 never reach the pods: of every channel those two before the latest. -/
def State.loseVirtual (s : State) : State :=
  { s with flt := { s.flt with vsmp := s.flt.vsmp.map (fun l => l.eraseIdx 2) } }

/-- R14: the samples of a strobe overwritten on X1 never reach the filter island: those of the strobe two before the latest. -/
def State.loseSample (s : State) : State :=
  (upto 64).foldl (fun s c => if s.chainOn c then s.setFch c { s.fch c with x := (s.fch c).x.eraseIdx 2 } else s) s

/-- R14, R31: FUSED_SAMPLE with the crossings on which a third entry is offered. -/
def crossedSampleEff (raw : List (List Int)) (refA refB : Bool) (third : List Nat) (s : State) : State :=
  let b := fusedSampleEff raw refA refB s
  if s.sampling then
    let b := if third.contains 1 then b.loseSample else b
    third.foldl State.crossOverrun (if third.contains 8 then b.loseVirtual else b)
  else b

/-- R14, R171: WORD_RELEASE with the crossings on which a third entry is offered; the words released latest stand in X3. -/
def crossedReleaseEff (flips : List (Nat × Nat × Nat × Nat)) (third : List Nat) (s : State) : State :=
  let b := wordReleaseEff flips s
  if s.protecting then third.foldl State.crossOverrun b else b

end Sys2Proof.Machine
end

