-- ==== Sys2Proof/Machine/AccessCmds.lean ====
section
/-!
DEFINITION. The commands of host accesses (17, 16, 10): a meaning per row of the table, over the operations of Access.lean. An operand outside the
range its unit has changes nothing but the clock.
-/
namespace Sys2Proof.Machine

/-- EVT_QACK_WRITE (R470). -/
def execEvtQackWrite (t : Nat) (r : Requester) (q n : Nat) (s : State) : Host.Outcome State Fault Refusal :=
  s.happen t (fun s => if decide (q < 2) && s.trAlive (reqIdx r) then evtQackWriteEff r q n s else s)

/-- LOG_WRITE (R471). -/
def execLogWrite (t : Nat) (s : State) : Host.Outcome State Fault Refusal :=
  s.happen t logWriteEff

/-- EVT_QDATA_CAPTURE (R477). -/
def execEvtQdataCapture (t : Nat) (r : Requester) (q : Nat) (s : State) : Host.Outcome State Fault Refusal :=
  s.happen t (fun s => if decide (q < 2) && s.trAlive (reqIdx r) then evtQdataCaptureEff r q s else s)

/-- EVT_LDATA_READ (R472). -/
def execEvtLdataRead (t : Nat) (r : Requester) (s : State) : Host.Outcome State Fault Refusal :=
  s.happen t (fun s => if s.trAlive (reqIdx r) then evtLdataReadEff r s else s)

/-- CAPTURE_READ (R488). -/
def execCaptureRead (t : Nat) (r : Requester) (a : Nat) (s : State) : Host.Outcome State Fault Refusal :=
  s.happen t (fun s => if s.trAlive (reqIdx r) then captureReadEff r a s else s)

/-- TIM_SAMP_WRITE (R346). -/
def execTimSampWrite (t : Nat) (r : Requester) (v : Nat) (s : State) : Host.Outcome State Fault Refusal :=
  s.happen t (fun s => if s.trAlive (reqIdx r) then timSampWriteEff r v s else s)

/-- RESERVED_ACCESS (R483). -/
def execReservedAccess (t : Nat) (r : Requester) (a : Nat) (wr : Bool) (s : State) : Host.Outcome State Fault Refusal :=
  s.happen t (fun s => if decide (a < 4294967296) && s.trAlive (reqIdx r) then reservedAccessEff r a wr s else s)

/-- REGISTER_WRITE (R481). -/
def execRegisterWrite (t : Nat) (r : Requester) (a v : Nat) (s : State) : Host.Outcome State Fault Refusal :=
  s.happen t (fun s => if decide (v < 4294967296) && s.trAlive (reqIdx r) then registerWriteEff r a v s else s)

/-- READ (R485). -/
def execXspiRead (t a n : Nat) (s : State) : Host.Outcome State Fault Refusal :=
  s.happen t (fun s => if decide (a < 4294967296) then xspiReadEff a n s else s)

/-- WRITE (R485). -/
def execXspiWrite (t a : Nat) (ws : List Nat) (part : Bool) (s : State) : Host.Outcome State Fault Refusal :=
  s.happen t (fun s => if decide (a < 4294967296) && ws.all (fun b => decide (b < 4294967296)) then xspiWriteEff a ws part s else s)

/-- READ_STAT (R485). -/
def execXspiReadStat (t n : Nat) (s : State) : Host.Outcome State Fault Refusal :=
  s.happen t (xspiReadStatEff n)

/-- XSPI_UNDEFINED_CODE (R485). -/
def execXspiUndefinedCode (t code : Nat) (s : State) : Host.Outcome State Fault Refusal :=
  s.happen t (fun s => if decide (code < 256) then xspiUndefinedCodeEff code s else s)

end Sys2Proof.Machine
end

