-- ==== Sys2Proof/Machine/AnalogCmds.lean ====
section
/-!
DEFINITION. The commands of the analogue island and the auxiliary converter (02): a meaning per row of the table, over the operations of Analog.lean. An operand outside the
range its unit has changes nothing but the clock.
-/
namespace Sys2Proof.Machine

/-- ARBITRATION_OPEN (R48). -/
def execArbitrationOpen (t g : Nat) (s : State) : Host.Outcome State Fault Refusal :=
  s.happen t (fun s => if decide (g < 8) then arbitrationOpenEff g s else s)

/-- ARBITRATION_DECISION (R49). -/
def execArbitrationDecision (t g : Nat) (s : State) : Host.Outcome State Fault Refusal :=
  s.happen t (fun s => if decide (g < 8) then arbitrationDecisionEff g s else s)

/-- ROTATION_STEP_START (R40). -/
def execRotationStepStart (t g : Nat) (s : State) : Host.Outcome State Fault Refusal :=
  s.happen t (fun s => if decide (g < 8) then rotationStepStartEff g s else s)

/-- SHADOW_END (R41). -/
def execShadowEnd (t g : Nat) (s : State) : Host.Outcome State Fault Refusal :=
  s.happen t (fun s => if decide (g < 8) then shadowEndEff g s else s)

/-- SLICE_CALIBRATION_DONE (R36). -/
def execSliceCalibrationDone (t g : Nat) (cal : SliceCal) (s : State) : Host.Outcome State Fault Refusal :=
  s.happen t (fun s => if decide (g < 8) then sliceCalibrationDoneEff g cal s else s)

/-- CNV_REFREQ_WRITE (R58). -/
def execCnvRefreqWrite (t : Nat) (r : Requester) (g v : Nat) (s : State) : Host.Outcome State Fault Refusal :=
  s.happen t (fun s => if decide (g < 8) && s.trAlive (reqIdx r) then cnvRefreqWriteEff r g v s else s)

/-- REF_SETTLED_RISE (R59). -/
def execRefSettledRise (t g : Nat) (s : State) : Host.Outcome State Fault Refusal :=
  s.happen t (fun s => if decide (g < 8) then refSettledRiseEff g s else s)

/-- REF_WINDOW_FAULT (R60). -/
def execRefWindowFault (t g : Nat) (s : State) : Host.Outcome State Fault Refusal :=
  s.happen t (fun s => if decide (g < 8) then refWindowFaultEff g s else s)

/-- REF_SETTLING_FAULT (R60). -/
def execRefSettlingFault (t g : Nat) (s : State) : Host.Outcome State Fault Refusal :=
  s.happen t (fun s => if decide (g < 8) then refSettlingFaultEff g s else s)

/-- AUX_START (R64). -/
def execAuxStart (t : Nat) (r : Requester) (s : State) : Host.Outcome State Fault Refusal :=
  s.happen t (fun s => if s.trAlive (reqIdx r) then auxStartEff r s else s)

/-- AUX_STOP (R66). -/
def execAuxStop (t : Nat) (r : Requester) (s : State) : Host.Outcome State Fault Refusal :=
  s.happen t (fun s => if s.trAlive (reqIdx r) then auxStopEff r s else s)

/-- AUX_CLR_CNT (R71). -/
def execAuxClrCnt (t : Nat) (r : Requester) (s : State) : Host.Outcome State Fault Refusal :=
  s.happen t (fun s => if s.trAlive (reqIdx r) then auxClrCntEff r s else s)

/-- AUX_FLUSH (R80). -/
def execAuxFlush (t : Nat) (r : Requester) (s : State) : Host.Outcome State Fault Refusal :=
  s.happen t (fun s => if s.trAlive (reqIdx r) then auxFlushEff r s else s)

/-- AUX_ENTRY_DONE (R61). -/
def execAuxEntryDone (t : Nat) (codes : List Int) (s : State) : Host.Outcome State Fault Refusal :=
  s.happen t (auxEntryDoneEff codes)

/-- AUX_PERIOD_START (R65). -/
def execAuxPeriodStart (t : Nat) (s : State) : Host.Outcome State Fault Refusal :=
  s.happen t auxPeriodStartEff

/-- AUX_SNAP_GO (R69). -/
def execAuxSnapGo (t : Nat) (r : Requester) (s : State) : Host.Outcome State Fault Refusal :=
  s.happen t (fun s => if s.trAlive (reqIdx r) then auxSnapGoEff r s else s)

/-- AUX_SNAP_CAPTURE (R69). -/
def execAuxSnapCapture (t : Nat) (s : State) : Host.Outcome State Fault Refusal :=
  s.happen t auxSnapCaptureEff

/-- AUX_QDATA_READ (R72). -/
def execAuxQdataRead (t : Nat) (r : Requester) (s : State) : Host.Outcome State Fault Refusal :=
  s.happen t (fun s => if s.trAlive (reqIdx r) then auxQdataReadEff r s else s)

end Sys2Proof.Machine
end

