-- ==== Sys2Proof/Machine/BlocksCmds.lean ====
section
/-!
DEFINITION. The commands of block code: each executes the next call of a program when it is of its type (09): a meaning per row of the table, over the operations of Blocks.lean. An operand outside the
range its unit has changes nothing but the clock.
-/
namespace Sys2Proof.Machine

/-- END (R311). -/
def execBlkEnd (t k : Nat) (s : State) : Host.Outcome State Fault Refusal :=
  s.happen t (fun s => if decide (k < 2) then blkEndEff k s else s)

/-- AND (R323). -/
def execBlkAnd (t k : Nat) (s : State) : Host.Outcome State Fault Refusal :=
  s.happen t (fun s => if decide (k < 2) then blkAndEff k s else s)

/-- OR (R323). -/
def execBlkOr (t k : Nat) (s : State) : Host.Outcome State Fault Refusal :=
  s.happen t (fun s => if decide (k < 2) then blkOrEff k s else s)

/-- XOR (R323). -/
def execBlkXor (t k : Nat) (s : State) : Host.Outcome State Fault Refusal :=
  s.happen t (fun s => if decide (k < 2) then blkXorEff k s else s)

/-- NOT (R323). -/
def execBlkNot (t k : Nat) (s : State) : Host.Outcome State Fault Refusal :=
  s.happen t (fun s => if decide (k < 2) then blkNotEff k s else s)

/-- SR (R323). -/
def execBlkSr (t k : Nat) (s : State) : Host.Outcome State Fault Refusal :=
  s.happen t (fun s => if decide (k < 2) then blkSrEff k s else s)

/-- RS (R323). -/
def execBlkRs (t k : Nat) (s : State) : Host.Outcome State Fault Refusal :=
  s.happen t (fun s => if decide (k < 2) then blkRsEff k s else s)

/-- MAJ3 (R323). -/
def execBlkMaj3 (t k : Nat) (s : State) : Host.Outcome State Fault Refusal :=
  s.happen t (fun s => if decide (k < 2) then blkMaj3Eff k s else s)

/-- KOFN (R323). -/
def execBlkKofn (t k : Nat) (s : State) : Host.Outcome State Fault Refusal :=
  s.happen t (fun s => if decide (k < 2) then blkKofnEff k s else s)

/-- R_TRIG (R324). -/
def execBlkRTrig (t k : Nat) (s : State) : Host.Outcome State Fault Refusal :=
  s.happen t (fun s => if decide (k < 2) then blkRTrigEff k s else s)

/-- F_TRIG (R324). -/
def execBlkFTrig (t k : Nat) (s : State) : Host.Outcome State Fault Refusal :=
  s.happen t (fun s => if decide (k < 2) then blkFTrigEff k s else s)

/-- TON (R325). -/
def execBlkTon (t k : Nat) (s : State) : Host.Outcome State Fault Refusal :=
  s.happen t (fun s => if decide (k < 2) then blkTonEff k s else s)

/-- TOF (R325). -/
def execBlkTof (t k : Nat) (s : State) : Host.Outcome State Fault Refusal :=
  s.happen t (fun s => if decide (k < 2) then blkTofEff k s else s)

/-- TP (R325). -/
def execBlkTp (t k : Nat) (s : State) : Host.Outcome State Fault Refusal :=
  s.happen t (fun s => if decide (k < 2) then blkTpEff k s else s)

/-- CTU (R326). -/
def execBlkCtu (t k : Nat) (s : State) : Host.Outcome State Fault Refusal :=
  s.happen t (fun s => if decide (k < 2) then blkCtuEff k s else s)

/-- CTD (R326). -/
def execBlkCtd (t k : Nat) (s : State) : Host.Outcome State Fault Refusal :=
  s.happen t (fun s => if decide (k < 2) then blkCtdEff k s else s)

/-- CTUD (R326). -/
def execBlkCtud (t k : Nat) (s : State) : Host.Outcome State Fault Refusal :=
  s.happen t (fun s => if decide (k < 2) then blkCtudEff k s else s)

/-- EQ (R323). -/
def execBlkEq (t k : Nat) (s : State) : Host.Outcome State Fault Refusal :=
  s.happen t (fun s => if decide (k < 2) then blkEqEff k s else s)

/-- NE (R323). -/
def execBlkNe (t k : Nat) (s : State) : Host.Outcome State Fault Refusal :=
  s.happen t (fun s => if decide (k < 2) then blkNeEff k s else s)

/-- GT (R323). -/
def execBlkGt (t k : Nat) (s : State) : Host.Outcome State Fault Refusal :=
  s.happen t (fun s => if decide (k < 2) then blkGtEff k s else s)

/-- GE (R323). -/
def execBlkGe (t k : Nat) (s : State) : Host.Outcome State Fault Refusal :=
  s.happen t (fun s => if decide (k < 2) then blkGeEff k s else s)

/-- LT (R323). -/
def execBlkLt (t k : Nat) (s : State) : Host.Outcome State Fault Refusal :=
  s.happen t (fun s => if decide (k < 2) then blkLtEff k s else s)

/-- LE (R323). -/
def execBlkLe (t k : Nat) (s : State) : Host.Outcome State Fault Refusal :=
  s.happen t (fun s => if decide (k < 2) then blkLeEff k s else s)

/-- HYST (R323). -/
def execBlkHyst (t k : Nat) (s : State) : Host.Outcome State Fault Refusal :=
  s.happen t (fun s => if decide (k < 2) then blkHystEff k s else s)

/-- ADD (R318). -/
def execBlkAdd (t k : Nat) (s : State) : Host.Outcome State Fault Refusal :=
  s.happen t (fun s => if decide (k < 2) then blkAddEff k s else s)

/-- SUB (R318). -/
def execBlkSub (t k : Nat) (s : State) : Host.Outcome State Fault Refusal :=
  s.happen t (fun s => if decide (k < 2) then blkSubEff k s else s)

/-- MUL (R318). -/
def execBlkMul (t k : Nat) (s : State) : Host.Outcome State Fault Refusal :=
  s.happen t (fun s => if decide (k < 2) then blkMulEff k s else s)

/-- DIV (R323). -/
def execBlkDiv (t k : Nat) (s : State) : Host.Outcome State Fault Refusal :=
  s.happen t (fun s => if decide (k < 2) then blkDivEff k s else s)

/-- MOD (R323). -/
def execBlkMod (t k : Nat) (s : State) : Host.Outcome State Fault Refusal :=
  s.happen t (fun s => if decide (k < 2) then blkModEff k s else s)

/-- ABS (R323). -/
def execBlkAbs (t k : Nat) (s : State) : Host.Outcome State Fault Refusal :=
  s.happen t (fun s => if decide (k < 2) then blkAbsEff k s else s)

/-- NEG (R323). -/
def execBlkNeg (t k : Nat) (s : State) : Host.Outcome State Fault Refusal :=
  s.happen t (fun s => if decide (k < 2) then blkNegEff k s else s)

/-- SQRT (R323). -/
def execBlkSqrt (t k : Nat) (s : State) : Host.Outcome State Fault Refusal :=
  s.happen t (fun s => if decide (k < 2) then blkSqrtEff k s else s)

/-- MIN (R323). -/
def execBlkMin (t k : Nat) (s : State) : Host.Outcome State Fault Refusal :=
  s.happen t (fun s => if decide (k < 2) then blkMinEff k s else s)

/-- MAX (R323). -/
def execBlkMax (t k : Nat) (s : State) : Host.Outcome State Fault Refusal :=
  s.happen t (fun s => if decide (k < 2) then blkMaxEff k s else s)

/-- SEL (R323). -/
def execBlkSel (t k : Nat) (s : State) : Host.Outcome State Fault Refusal :=
  s.happen t (fun s => if decide (k < 2) then blkSelEff k s else s)

/-- MUX (R323). -/
def execBlkMux (t k : Nat) (s : State) : Host.Outcome State Fault Refusal :=
  s.happen t (fun s => if decide (k < 2) then blkMuxEff k s else s)

/-- LIMIT (R323). -/
def execBlkLimit (t k : Nat) (s : State) : Host.Outcome State Fault Refusal :=
  s.happen t (fun s => if decide (k < 2) then blkLimitEff k s else s)

/-- MOVE (R323). -/
def execBlkMove (t k : Nat) (s : State) : Host.Outcome State Fault Refusal :=
  s.happen t (fun s => if decide (k < 2) then blkMoveEff k s else s)

/-- PACK (R323). -/
def execBlkPack (t k : Nat) (s : State) : Host.Outcome State Fault Refusal :=
  s.happen t (fun s => if decide (k < 2) then blkPackEff k s else s)

/-- UNPACK (R323). -/
def execBlkUnpack (t k : Nat) (s : State) : Host.Outcome State Fault Refusal :=
  s.happen t (fun s => if decide (k < 2) then blkUnpackEff k s else s)

/-- BAND (R323). -/
def execBlkBand (t k : Nat) (s : State) : Host.Outcome State Fault Refusal :=
  s.happen t (fun s => if decide (k < 2) then blkBandEff k s else s)

/-- BOR (R323). -/
def execBlkBor (t k : Nat) (s : State) : Host.Outcome State Fault Refusal :=
  s.happen t (fun s => if decide (k < 2) then blkBorEff k s else s)

/-- BXOR (R323). -/
def execBlkBxor (t k : Nat) (s : State) : Host.Outcome State Fault Refusal :=
  s.happen t (fun s => if decide (k < 2) then blkBxorEff k s else s)

/-- SHL (R323). -/
def execBlkShl (t k : Nat) (s : State) : Host.Outcome State Fault Refusal :=
  s.happen t (fun s => if decide (k < 2) then blkShlEff k s else s)

/-- SHR (R323). -/
def execBlkShr (t k : Nat) (s : State) : Host.Outcome State Fault Refusal :=
  s.happen t (fun s => if decide (k < 2) then blkShrEff k s else s)

/-- I2R (R323). -/
def execBlkI2r (t k : Nat) (s : State) : Host.Outcome State Fault Refusal :=
  s.happen t (fun s => if decide (k < 2) then blkI2rEff k s else s)

/-- BLOCK_R2I (R323). -/
def execBlkR2i (t k : Nat) (s : State) : Host.Outcome State Fault Refusal :=
  s.happen t (fun s => if decide (k < 2) then blkR2iEff k s else s)

/-- B2I (R323). -/
def execBlkB2i (t k : Nat) (s : State) : Host.Outcome State Fault Refusal :=
  s.happen t (fun s => if decide (k < 2) then blkB2iEff k s else s)

/-- I2B (R323). -/
def execBlkI2b (t k : Nat) (s : State) : Host.Outcome State Fault Refusal :=
  s.happen t (fun s => if decide (k < 2) then blkI2bEff k s else s)

/-- T2I (R323). -/
def execBlkT2i (t k : Nat) (s : State) : Host.Outcome State Fault Refusal :=
  s.happen t (fun s => if decide (k < 2) then blkT2iEff k s else s)

/-- I2T (R323). -/
def execBlkI2t (t k : Nat) (s : State) : Host.Outcome State Fault Refusal :=
  s.happen t (fun s => if decide (k < 2) then blkI2tEff k s else s)

/-- T2R (R323). -/
def execBlkT2r (t k : Nat) (s : State) : Host.Outcome State Fault Refusal :=
  s.happen t (fun s => if decide (k < 2) then blkT2rEff k s else s)

/-- BLOCK_R2T (R323). -/
def execBlkR2t (t k : Nat) (s : State) : Host.Outcome State Fault Refusal :=
  s.happen t (fun s => if decide (k < 2) then blkR2tEff k s else s)

/-- NOW (R323). -/
def execBlkNow (t k : Nat) (s : State) : Host.Outcome State Fault Refusal :=
  s.happen t (fun s => if decide (k < 2) then blkNowEff k s else s)

/-- LAG (R323). -/
def execBlkLag (t k : Nat) (s : State) : Host.Outcome State Fault Refusal :=
  s.happen t (fun s => if decide (k < 2) then blkLagEff k s else s)

/-- DELTA (R323). -/
def execBlkDelta (t k : Nat) (s : State) : Host.Outcome State Fault Refusal :=
  s.happen t (fun s => if decide (k < 2) then blkDeltaEff k s else s)

/-- QGOOD (R323). -/
def execBlkQgood (t k : Nat) (s : State) : Host.Outcome State Fault Refusal :=
  s.happen t (fun s => if decide (k < 2) then blkQgoodEff k s else s)

/-- SUBSTATE (R323). -/
def execBlkSubstate (t k : Nat) (s : State) : Host.Outcome State Fault Refusal :=
  s.happen t (fun s => if decide (k < 2) then blkSubstateEff k s else s)

/-- PODSTATE (R323). -/
def execBlkPodstate (t k : Nat) (s : State) : Host.Outcome State Fault Refusal :=
  s.happen t (fun s => if decide (k < 2) then blkPodstateEff k s else s)

/-- DEVSTATE (R323). -/
def execBlkDevstate (t k : Nat) (s : State) : Host.Outcome State Fault Refusal :=
  s.happen t (fun s => if decide (k < 2) then blkDevstateEff k s else s)

/-- ELEM (R327). -/
def execBlkElem (t k : Nat) (s : State) : Host.Outcome State Fault Refusal :=
  s.happen t (fun s => if decide (k < 2) then blkElemEff k s else s)

/-- ZONE (R327). -/
def execBlkZone (t k : Nat) (s : State) : Host.Outcome State Fault Refusal :=
  s.happen t (fun s => if decide (k < 2) then blkZoneEff k s else s)

/-- SGSEL (R327). -/
def execBlkSgsel (t k : Nat) (s : State) : Host.Outcome State Fault Refusal :=
  s.happen t (fun s => if decide (k < 2) then blkSgselEff k s else s)

/-- BKR (R329). -/
def execBlkBkr (t k : Nat) (s : State) : Host.Outcome State Fault Refusal :=
  s.happen t (fun s => if decide (k < 2) then blkBkrEff k s else s)

/-- AR (R331). -/
def execBlkAr (t k : Nat) (s : State) : Host.Outcome State Fault Refusal :=
  s.happen t (fun s => if decide (k < 2) then blkArEff k s else s)

/-- ILK (R332). -/
def execBlkIlk (t k : Nat) (s : State) : Host.Outcome State Fault Refusal :=
  s.happen t (fun s => if decide (k < 2) then blkIlkEff k s else s)

/-- RECTRG (R333). -/
def execBlkRectrg (t k : Nat) (s : State) : Host.Outcome State Fault Refusal :=
  s.happen t (fun s => if decide (k < 2) then blkRectrgEff k s else s)

/-- GSET_B (R333). -/
def execBlkGsetB (t k : Nat) (s : State) : Host.Outcome State Fault Refusal :=
  s.happen t (fun s => if decide (k < 2) then blkGsetBEff k s else s)

/-- GSET_I (R333). -/
def execBlkGsetI (t k : Nat) (s : State) : Host.Outcome State Fault Refusal :=
  s.happen t (fun s => if decide (k < 2) then blkGsetIEff k s else s)

/-- GSET_R (R333). -/
def execBlkGsetR (t k : Nat) (s : State) : Host.Outcome State Fault Refusal :=
  s.happen t (fun s => if decide (k < 2) then blkGsetREff k s else s)

/-- ALARM (R333). -/
def execBlkAlarm (t k : Nat) (s : State) : Host.Outcome State Fault Refusal :=
  s.happen t (fun s => if decide (k < 2) then blkAlarmEff k s else s)

/-- DPS (R328). -/
def execBlkDps (t k : Nat) (s : State) : Host.Outcome State Fault Refusal :=
  s.happen t (fun s => if decide (k < 2) then blkDpsEff k s else s)

/-- LOCKOUT (R332). -/
def execBlkLockout (t k : Nat) (s : State) : Host.Outcome State Fault Refusal :=
  s.happen t (fun s => if decide (k < 2) then blkLockoutEff k s else s)

end Sys2Proof.Machine
end

