-- ==== Sys2Proof/Machine/Board.lean ====
section
/-!
DEFINITION. The board's side (16 R464, 17 R491, 18 R493 to R495, R511, 14 R443): rails, temperature, monitors, the TRNG's
continuous tests, the TAP's standard instructions.
-/
namespace Sys2Proof.Machine

/-- R493: a rail's nominal voltage in mV. -/
def railNom (r : Nat) : Nat := if r < 2 then 900 else 1800

/-- Is a voltage within `n` tenths of a per cent of nominal? -/
def nearNom (r mv n : Nat) : Bool := absN ((mv : Int) - (railNom r : Int)) * 1000 ≤ n * railNom r

/-- SUPPLY_WARN_EXCURSION (R464, R495): a rail outside ±3 % inside its reset range; once per excursion. -/
def supplyWarnExcursionEff (rail mv : Nat) (s : State) : State :=
  if s.sys.por || s.sys.excursions.contains rail || nearNom rail mv 30 || !nearNom rail mv 60 then s
  else (s.sysUpd (fun x => { x with excursions := x.excursions ++ [rail] })).raise 125 rail mv

/-- R3: the grade's highest junction temperature, in 0.1 °C: 110 °C or 125 °C. -/
def gradeLimit : Int := if Config.gradeXB then 1250 else 1100

/-- TEMPERATURE_EXCURSION (R464): the junction temperature, in 0.1 °C, passes 10 °C below the grade's limit. -/
def temperatureExcursionEff (dC : Int) (s : State) : State :=
  if s.sys.por || s.sys.excursions.contains 8 || dC < gradeLimit - 100 then s
  else (s.sysUpd (fun x => { x with excursions := x.excursions ++ [8] })).raise 125 8 (tcBits 32 dC)

/-- SUPPLY_EXCURSION_END (R464): a rail back within ±2.5 %, or the temperature 15 °C below the limit. -/
def supplyExcursionEndEff (i : Nat) (v : Int) (s : State) : State :=
  let ovr := if i = 8 then decide (v ≤ gradeLimit - 150) else i < 5 && nearNom i v.toNat 25
  if ovr then s.sysUpd (fun x => { x with excursions := x.excursions.filter (fun k => k != i) }) else s

/-- R491: has 1.0 ms passed since the monitors were refreshed? -/
def State.monDue (s : State) : Bool :=
  match s.sys.monAt with
  | some t => decide (t + msU ≤ s.now)
  | none => true

/-- MONITOR_REFRESH (R491): every 1.0 ms, rails in mV, junction temperature in 0.1 °C, locks of SYS_CLK [5:1]. -/
def monitorRefreshEff (mvs : List Nat) (tj : Int) (locks : Nat) (s : State) : State :=
  if s.sys.por || !s.sys.refPresent || !s.monDue then s
  else
    let s := s.sysUpd (fun x => { x with monAt := some s.now })
    let s := (upto 5).foldl (fun s k => s.setF (SYS_VMON_MV k) (lget 0 mvs k)) s
    let s := (s.setF SYS_TEMP_TJ (tcBits 16 tj)).setFlag SYS_CLK_REF_OK true
    let s := ((s.setFlag SYS_CLK_SYS_LOCK (bitN locks 0)).setFlag SYS_CLK_POD_LOCK (bitN locks 1)).setFlag SYS_CLK_MEM_LOCK (bitN locks 2)
    (s.setFlag SYS_CLK_NET_LOCK (bitN locks 3)).setFlag SYS_CLK_SAMP_LOCK (bitN locks 4 && s.sys.mapOn)

/-- TRNG_TEST_FAIL (R443): repetition count (0) or adaptive proportion (1). -/
def trngTestFailEff (test : Nat) (s : State) : State :=
  if s.sys.por then s else { s with sec := { s.sec with trngOk := false } }.raise 118 0 test

/-! ### The TAP (R511) -/

/-- Put an instruction into the TAP's instruction register. -/
def State.setTap (s : State) (t : TapInst) : State := s.sysUpd (fun x => { x with tap := t })

/-- R511: an instruction available only while BOOT_HOLD holds the start; otherwise as BYPASS. -/
def State.heldTap (s : State) (t : TapInst) : State := s.setTap (if s.sys.held && s.mode == .boot then t else .bypass)

/-- R511: the 1,024 boundary cells take what stands at the balls; which cell is which ball's the spec does not give (a free value,
log 75). -/
def State.scanCells (s : State) : State := ({ s with sys := { s.sys with bsr := (Config.boundaryCells s.freeCtr).toNat } }).bumpFree

/-- R407, R511: does BOOT_HOLD hold the start, so that EXTEST, HIGHZ and CLAMP act? -/
def State.scanHeld (s : State) : Bool := s.sys.held && s.mode == .boot

/-- R496, R511: are the output balls high-impedance: under power-on reset, or by HIGHZ? -/
def State.ballsFloat (s : State) : Bool := s.sys.por || (s.scanHeld && s.sys.tap = .highz)

/-- R511: the preloaded cells, where EXTEST or CLAMP puts them on the output balls in place of the engine's levels. -/
def State.ballsScan (s : State) : Option Nat :=
  if s.scanHeld && (s.sys.tap = .extest || s.sys.tap = .clamp) then some s.sys.cells else none

/-- R227, R511: the instruction of a code of the 8-bit instruction register. -/
def tapOfCode (code : Nat) : TapInst :=
  match code with
  | 0x00 => .extest | 0x01 => .idcode | 0x02 => .sample | 0x03 => .highz | 0x04 => .clamp
  | 0x20 => .podSel | 0x21 => .dbgCmd | 0x22 => .dbgData | 0x23 => .dbgStatus
  | _ => .bypass

/-- EXTEST. -/
def tapExtestEff (s : State) : State := s.heldTap .extest
/-- IDCODE: the word shifted out. -/
def tapIdcodeEff (s : State) : State := (s.setTap .idcode).readOut [0xB64129AB]
/-- R511: what is shifted in is preloaded, a free value (log 75). -/
def State.preload (s : State) : State :=
  ({ s with sys := { s.sys with cells := (Config.boundaryCells s.freeCtr).toNat } }).bumpFree

/-- SAMPLE/PRELOAD: the boundary cells are sampled, and preloaded with what is shifted in. -/
def tapSamplePreloadEff (s : State) : State := ((s.setTap .sample).scanCells).preload
/-- HIGHZ. -/
def tapHighzEff (s : State) : State := s.heldTap .highz
/-- CLAMP. -/
def tapClampEff (s : State) : State := s.heldTap .clamp
/-- BYPASS. -/
def tapBypassEff (s : State) : State := s.setTap .bypass

end Sys2Proof.Machine
end

