-- ==== Sys2Proof/Machine/BoardCmds.lean ====
section
/-!
DEFINITION. The commands of the board and the TAP (16 to 18): a meaning per row of the table, over the operations of Board.lean. An operand outside the
range its unit has changes nothing but the clock.
-/
namespace Sys2Proof.Machine

/-- SUPPLY_WARN_EXCURSION (R464). -/
def execSupplyWarnExcursion (t rail mv : Nat) (s : State) : Host.Outcome State Fault Refusal :=
  s.happen t (fun s => if decide (rail < 5) then supplyWarnExcursionEff rail mv s else s)

/-- SUPPLY_EXCURSION_END (R464). -/
def execSupplyExcursionEnd (t i : Nat) (v : Int) (s : State) : Host.Outcome State Fault Refusal :=
  s.happen t (fun s => if decide (i < 9) then supplyExcursionEndEff i v s else s)

/-- TEMPERATURE_EXCURSION (R464). -/
def execTemperatureExcursion (t : Nat) (dC : Int) (s : State) : Host.Outcome State Fault Refusal :=
  s.happen t (temperatureExcursionEff dC)

/-- MONITOR_REFRESH (R491). -/
def execMonitorRefresh (t : Nat) (mvs : List Nat) (tj : Int) (locks : Nat) (s : State) : Host.Outcome State Fault Refusal :=
  s.happen t (fun s => if decide (locks < 32) then monitorRefreshEff mvs tj locks s else s)

/-- TRNG_TEST_FAIL (R443). -/
def execTrngTestFail (t test : Nat) (s : State) : Host.Outcome State Fault Refusal :=
  s.happen t (fun s => if decide (test < 2) then trngTestFailEff test s else s)

/-- EXTEST (R511). -/
def execTapExtest (t : Nat) (s : State) : Host.Outcome State Fault Refusal :=
  s.happen t tapExtestEff

/-- IDCODE (R511). -/
def execTapIdcode (t : Nat) (s : State) : Host.Outcome State Fault Refusal :=
  s.happen t tapIdcodeEff

/-- SAMPLE_PRELOAD (R511). -/
def execTapSamplePreload (t : Nat) (s : State) : Host.Outcome State Fault Refusal :=
  s.happen t tapSamplePreloadEff

/-- HIGHZ (R511). -/
def execTapHighz (t : Nat) (s : State) : Host.Outcome State Fault Refusal :=
  s.happen t tapHighzEff

/-- CLAMP (R511). -/
def execTapClamp (t : Nat) (s : State) : Host.Outcome State Fault Refusal :=
  s.happen t tapClampEff

/-- BYPASS (R511). -/
def execTapBypass (t : Nat) (s : State) : Host.Outcome State Fault Refusal :=
  s.happen t tapBypassEff

end Sys2Proof.Machine
end

