-- ==== Sys2Proof/Machine/FilterCmds.lean ====
section
/-!
DEFINITION. The commands of the filter island (03): a meaning per row of the table, over the operations of Filter.lean. An operand outside the
range its unit has changes nothing but the clock.
-/
namespace Sys2Proof.Machine

/-- FUSED_SAMPLE (R31). -/
def execFusedSample (t : Nat) (raw : List (List Int)) (refA refB : Bool) (third : List Nat) (s : State) : Host.Outcome State Fault Refusal :=
  s.happen t (crossedSampleEff raw refA refB third)

/-- STAGE1_OUTPUT (R85). -/
def execStage1Output (t c : Nat) (up : Upset) (s : State) : Host.Outcome State Fault Refusal :=
  s.happen t (fun s => if decide (c < 64) then stage1OutputEff c up s else s)

/-- STAGE2_OUTPUT (R86). -/
def execStage2Output (t c : Nat) (up : Upset) (s : State) : Host.Outcome State Fault Refusal :=
  s.happen t (fun s => if decide (c < 64) then stage2OutputEff c up s else s)

/-- RECOMPUTE_DONE (R99). -/
def execRecomputeDone (t g st c : Nat) (r1 r2 : Int) (s : State) : Host.Outcome State Fault Refusal :=
  s.happen t (fun s => if decide (g < 8) && decide (st < 4) && decide (c < 128) then recomputeMaskEff g st c r1 r2 s else s)

/-- TRACKED_SAMPLE (R94). -/
def execTrackedSample (t c : Nat) (up : Upset) (s : State) : Host.Outcome State Fault Refusal :=
  s.happen t (fun s => if decide (c < 128) then trackedMaskEff c up s else s)

/-- FIXED_RATE_SAMPLE (R96). -/
def execFixedRateSample (t c : Nat) (up : Upset) (s : State) : Host.Outcome State Fault Refusal :=
  s.happen t (fun s => if decide (c < 128) then fixedRatePublishEff c up s else s)

/-- PHASOR_SWAP (R111). -/
def execPhasorSwap (t : Nat) (s : State) : Host.Outcome State Fault Refusal :=
  s.happen t (fun s => State.offerEdges s (swapTickEff s))

/-- FLT_STOP (R114). -/
def execFltStop (t : Nat) (r : Requester) (g : Nat) (s : State) : Host.Outcome State Fault Refusal :=
  s.happen t (fun s => if decide (g < 8) && s.trAlive (reqIdx r) then fltStopEff r g s else s)

/-- FLT_START (R114). -/
def execFltStart (t : Nat) (r : Requester) (g : Nat) (s : State) : Host.Outcome State Fault Refusal :=
  s.happen t (fun s => if decide (g < 8) && s.trAlive (reqIdx r) then fltStartEff r g s else s)

/-- CHAIN_STOP_TAKEN (R114). -/
def execChainStopTaken (t g : Nat) (s : State) : Host.Outcome State Fault Refusal :=
  s.happen t (fun s => if decide (g < 8) then chainStopTakenEff g s else s)

/-- SYNC_RESET (R116). -/
def execSyncReset (t g : Nat) (s : State) : Host.Outcome State Fault Refusal :=
  s.happen t (fun s => if decide (g < 8) then syncResetEff g s else s)

/-- FLT_BANK_WRITE (R115). -/
def execFltBankWrite (t : Nat) (r : Requester) (g v : Nat) (s : State) : Host.Outcome State Fault Refusal :=
  s.happen t (fun s => if decide (g < 8) && s.trAlive (reqIdx r) then fltBankWriteEff r g v s else s)

/-- FLT_CDATA_WRITE (R121). -/
def execFltCdataWrite (t : Nat) (r : Requester) (v : Nat) (s : State) : Host.Outcome State Fault Refusal :=
  s.happen t (fun s => if s.trAlive (reqIdx r) then fltCdataWriteEff r v s else s)

/-- FLT_CCMT_COMMIT (R90). -/
def execFltCcmtCommit (t : Nat) (r : Requester) (s : State) : Host.Outcome State Fault Refusal :=
  s.happen t (fun s => if s.trAlive (reqIdx r) then fltCcmtCommitEff r s else s)

/-- FLT_TRIM_WRITE (R95). -/
def execFltTrimWrite (t : Nat) (r : Requester) (c v : Nat) (s : State) : Host.Outcome State Fault Refusal :=
  s.happen t (fun s => if decide (c < 128) && s.trAlive (reqIdx r) then fltTrimWriteEff r c v s else s)

/-- FLT_PHSEL_WRITE (R121). -/
def execFltPhselWrite (t : Nat) (r : Requester) (v : Nat) (s : State) : Host.Outcome State Fault Refusal :=
  s.happen t (fun s => if s.trAlive (reqIdx r) then fltPhselWriteEff r v s else s)

end Sys2Proof.Machine
end

