-- ==== Sys2Proof/Machine/FramesCmds.lean ====
section
/-!
DEFINITION. The commands of command frames (15, 14): a meaning per row of the table, over the operations of Frames.lean. An operand outside the
range its unit has changes nothing but the clock.
-/
namespace Sys2Proof.Machine

/-- DOORBELL (R446). -/
def execDoorbell (t : Nat) (r : Requester) (s : State) : Host.Outcome State Fault Refusal :=
  s.happen t (fun s => if s.trAlive (reqIdx r) then doorbellEff r s else s)

/-- CMD_FRAGMENT (R447). -/
def execCmdFragment (t p dst src : Nat) (bytes : List Nat) (s : State) : Host.Outcome State Fault Refusal :=
  s.happen t (fun s => if decide (p < 3) && decide (dst < 2 ^ 48) && decide (src < 2 ^ 48) && bytes.all (fun b => decide (b < 256)) then cmdFragmentEff p dst src bytes s else s)

/-- FRAGMENT_TIMEOUT (R447). -/
def execFragmentTimeout (t : Nat) (s : State) : Host.Outcome State Fault Refusal :=
  s.happen t fragmentTimeoutEff

/-- RATE_LIMIT_END (R441). -/
def execRateLimitEnd (t tr : Nat) (s : State) : Host.Outcome State Fault Refusal :=
  s.happen t (fun s => if decide (tr < 2) then rateLimitEndEff tr s else s)

end Sys2Proof.Machine
end

