-- ==== Sys2Proof/Machine/GooseCmds.lean ====
section
/-!
DEFINITION. The commands of GOOSE and sampled values (11): a meaning per row of the table, over the operations of Goose.lean. An operand outside the
range its unit has changes nothing but the clock.
-/
namespace Sys2Proof.Machine

/-- GOOSE_STATE_CHANGE (R369). -/
def execGooseStateChange (t n : Nat) (s : State) : Host.Outcome State Fault Refusal :=
  s.happen t (fun s => if decide (n < 32) then gooseStateChangeEff n s else s)

/-- GOOSE_RETRANSMIT (R370). -/
def execGooseRetransmit (t n : Nat) (s : State) : Host.Outcome State Fault Refusal :=
  s.happen t (fun s => if decide (n < 32) then gooseRetransmitEff n s else s)

/-- GOOSE_RECEIVE (R372). -/
def execGooseReceive (t p : Nat) (f : GooseFrame) (s : State) : Host.Outcome State Fault Refusal :=
  s.happen t (fun s => if decide (p < 3) then gooseReceiveEff p f s else s)

/-- GOOSE_LIVE_TIMEOUT (R374). -/
def execGooseLiveTimeout (t j : Nat) (s : State) : Host.Outcome State Fault Refusal :=
  s.happen t (fun s => if decide (j < 128) then gooseLiveTimeoutEff j s else s)

/-- SV_RECEIVE (R376). -/
def execSvReceive (t p : Nat) (f : SvFrame) (s : State) : Host.Outcome State Fault Refusal :=
  s.happen t (fun s => if decide (p < 3) then svReceiveEff p f s else s)

/-- SV_STREAM_TIMEOUT (R378). -/
def execSvStreamTimeout (t st : Nat) (s : State) : Host.Outcome State Fault Refusal :=
  s.happen t (fun s => if decide (st < 16) then svStreamTimeoutEff st s else s)

end Sys2Proof.Machine
end

