-- ==== Sys2Proof/Machine/LogicCmds.lean ====
section
/-!
DEFINITION. The commands of the scan (08): a meaning per row of the table, over the operations of Logic.lean. An operand outside the
range its unit has changes nothing but the clock.
-/
namespace Sys2Proof.Machine

/-- PERIOD_START (R284). -/
def execPeriodStart (t k : Nat) (s : State) : Host.Outcome State Fault Refusal :=
  s.happen t (fun s => if decide (k < 2) then State.offerEdges s (periodStartEff k s) else s)

/-- FREE_RUN_SCAN_START (R286). -/
def execFreeRunScanStart (t k : Nat) (s : State) : Host.Outcome State Fault Refusal :=
  s.happen t (fun s => if decide (k < 2) then State.offerEdges s (freeRunScanStartEff k s) else s)

/-- LOGIC_OUTPUT_WRITE (R282). -/
def execLogicOutputWrite (t k : Nat) (s : State) : Host.Outcome State Fault Refusal :=
  s.happen t (fun s => if decide (k < 2) then State.offerEdges s (logicOutputWriteEff k s) else s)

/-- JOIN_COMPLETE (R238). -/
def execJoinComplete (t cycles : Nat) (s : State) : Host.Outcome State Fault Refusal :=
  s.happen t (fun s => State.offerEdges s (joinCompleteEff cycles s))

/-- EXCHANGE_LOADED (R302). -/
def execExchangeLoaded (t : Nat) (res : ExchLoad) (s : State) : Host.Outcome State Fault Refusal :=
  s.happen t (fun s => State.offerEdges s (exchangeLoadedEff res s))

/-- RETAIN_COMMIT_DONE (R296). -/
def execRetainCommitDone (t : Nat) (s : State) : Host.Outcome State Fault Refusal :=
  s.happen t (fun s => State.offerEdges s (retainCommitDoneEff s))

/-- HOLD_ENTRY (R288). -/
def execHoldEntry (t k : Nat) (s : State) : Host.Outcome State Fault Refusal :=
  s.happen t (fun s => if decide (k < 2) then State.offerEdges s (holdEntryEff k s) else s)

/-- INIT_WAIT_EXPIRY (R301). -/
def execInitWaitExpiry (t k : Nat) (s : State) : Host.Outcome State Fault Refusal :=
  s.happen t (fun s => if decide (k < 2) then State.offerEdges s (initWaitExpiryEff k s) else s)

/-- BKR_PULSE_END (R329). -/
def execBkrPulseEnd (t brk : Nat) (s : State) : Host.Outcome State Fault Refusal :=
  s.happen t (fun s => if decide (brk < 32) then State.offerEdges s (bkrPulseEndEff brk s) else s)

/-- BKR_SUPERVISION_TIMEOUT (R329). -/
def execBkrSupervisionTimeout (t brk : Nat) (s : State) : Host.Outcome State Fault Refusal :=
  s.happen t (fun s => if decide (brk < 32) then State.offerEdges s (bkrSupervisionTimeoutEff brk s) else s)

/-- BKR_SELECT_EXPIRY (R329). -/
def execBkrSelectExpiry (t brk : Nat) (s : State) : Host.Outcome State Fault Refusal :=
  s.happen t (fun s => if decide (brk < 32) then State.offerEdges s (bkrSelectExpiryEff brk s) else s)

end Sys2Proof.Machine
end

