-- ==== Sys2Proof/Machine/NetCmds.lean ====
section
/-!
DEFINITION. The commands of the switch (10): a meaning per row of the table, over the operations of Net.lean. An operand outside the
range its unit has changes nothing but the clock.
-/
namespace Sys2Proof.Machine

/-- PDELAY_REQ_RECEIVE (R353). -/
def execPdelayReqReceive (t p seq : Nat) (turn : Int) (s : State) : Host.Outcome State Fault Refusal :=
  s.happen t (fun s => if decide (p < 3) && decide (seq < 65536) then pdelayReqReceiveEff p seq turn s else s)

/-- PDELAY_RESP_RECEIVE (R353). -/
def execPdelayRespReceive (t p seq : Nat) (corr : Int) (s : State) : Host.Outcome State Fault Refusal :=
  s.happen t (fun s => if decide (p < 3) && decide (seq < 65536) then pdelayRespReceiveEff p seq corr s else s)

/-- PDELAY_MEASURE (R353). -/
def execPdelayMeasure (t p : Nat) (s : State) : Host.Outcome State Fault Refusal :=
  s.happen t (fun s => if decide (p < 3) then pdelayMeasureEff p s else s)

/-- FRAME_RECEIVE (R358). -/
def execFrameReceive (t p : Nat) (f : EthFrame) (res : List Nat) (full : List Bool) (s : State) : Host.Outcome State Fault Refusal :=
  s.happen t (fun s => if decide (p < 3) then frameReceiveEff p f res full s else s)

/-- DDT_ENTRY_EXPIRY (R360). -/
def execDdtEntryExpiry (t : Nat) (s : State) : Host.Outcome State Fault Refusal :=
  s.happen t ddtEntryExpiryEff

/-- ADDRESS_AGEING (R359). -/
def execAddressAgeing (t : Nat) (s : State) : Host.Outcome State Fault Refusal :=
  s.happen t addressAgeingEff

/-- SUPERVISION_TX (R361). -/
def execSupervisionTx (t : Nat) (s : State) : Host.Outcome State Fault Refusal :=
  s.happen t supervisionTxEff

/-- REDUNDANCY_FAULT_DETECT (R361). -/
def execRedundancyFaultDetect (t : Nat) (s : State) : Host.Outcome State Fault Refusal :=
  s.happen t redundancyFaultDetectEff

/-- PORT_LINK_CHANGE (R358). -/
def execPortLinkChange (t p : Nat) (up slow an : Bool) (s : State) : Host.Outcome State Fault Refusal :=
  s.happen t (fun s => if decide (p < 3) then portLinkChangeEff p up slow an s else s)

/-- C22_READ (R358). -/
def execC22Read (t : Nat) (r : Requester) (v : Nat) (s : State) : Host.Outcome State Fault Refusal :=
  s.happen t (fun s => if s.trAlive (reqIdx r) then mdioEff .c22Read r v s else s)

/-- C22_WRITE (R358). -/
def execC22Write (t : Nat) (r : Requester) (v : Nat) (s : State) : Host.Outcome State Fault Refusal :=
  s.happen t (fun s => if s.trAlive (reqIdx r) then mdioEff .c22Write r v s else s)

/-- C45_ADDRESS (R358). -/
def execC45Address (t : Nat) (r : Requester) (v : Nat) (s : State) : Host.Outcome State Fault Refusal :=
  s.happen t (fun s => if s.trAlive (reqIdx r) then mdioEff .c45Address r v s else s)

/-- C45_READ (R358). -/
def execC45Read (t : Nat) (r : Requester) (v : Nat) (s : State) : Host.Outcome State Fault Refusal :=
  s.happen t (fun s => if s.trAlive (reqIdx r) then mdioEff .c45Read r v s else s)

/-- C45_WRITE (R358). -/
def execC45Write (t : Nat) (r : Requester) (v : Nat) (s : State) : Host.Outcome State Fault Refusal :=
  s.happen t (fun s => if s.trAlive (reqIdx r) then mdioEff .c45Write r v s else s)

/-- MDIO_FRAME_DONE (R358). -/
def execMdioFrameDone (t data : Nat) (s : State) : Host.Outcome State Fault Refusal :=
  s.happen t (mdioFrameDoneEff data)

end Sys2Proof.Machine
end

