-- ==== Sys2Proof/Machine/Orders.lean ====
section
/-!
DEFINITION. The opcodes (15 R456 to R460): for each, rows 10 and 11 of R450 and the effect, with the ends of operations they
start (R436, R455). Each acts on the request the Service core executes next (Frames.lean).
-/
namespace Sys2Proof.Machine

/-- The number of `n` payload bytes from byte `i`. -/
def payN (q : CmdReq) (i n : Nat) : Nat := leAt q.payload i n

/-! ### Status and registers (R456, R457) -/

/-- R415: a load report's 16 bytes. -/
def reportBytes (r : LoadReport) : List Nat :=
  [r.status % 256, r.step % 256] ++ leBytes 2 r.section_ ++ [r.kind % 256, 0] ++ leBytes 2 r.ball ++ leBytes 4 r.obj ++ leBytes 4 r.obj2

/-- R409: the boot record's 64 bytes. -/
def bootBytes (b : BootRecord) : List Nat :=
  let body := leBytes 4 b.bseq ++ [b.pref % 256, b.booted % 256, b.startCause % 256, b.safeCause % 256] ++ leBytes 4 b.uptime ++
    leBytes 4 b.rwStart ++ [b.rcount % 256, 0, 0, 0] ++ reportBytes b.repA ++ reportBytes b.repB ++ List.replicate 8 0
  body ++ leBytes 4 (crc32 body)

/-- R18: the code of a device mode. -/
def modeCode : Mode → Nat
  | .boot => 0 | .run => 1 | .test => 2 | .safe => 3

/-- R457: the STATUS payload. -/
def State.statusBytes (s : State) : List Nat :=
  let tm := splitTime (s.sampAt s.now)
  let time := if s.sys.mapOn then
      leBytes 4 tm.2.1 ++ leBytes 6 tm.1 ++ [s.sampQual, s.sampTb]
    else List.replicate 12 0
  let boot := if s.mram.boot.valid then bootBytes s.mram.boot else List.replicate 64 0
  [modeCode s.mode, (s.rd LGC_MODE).toNat % 256, s.podState 0, s.podState 1, s.podState 2, (s.rd OZX_PSTAT).toNat % 256, 0, 0] ++
    leBytes 2 (s.getF SYS_ID_SILICON) ++ leBytes 2 (s.getF SYS_ROM_ROM) ++ leBytes 4 (s.getF SYS_IMGVER_IMG_VER) ++
    leBytes 4 (s.getF SYS_IMGID_LO_IDL) ++ leBytes 4 (s.getF SYS_IMGID_HI_IDH) ++ leBytes 4 s.sys.rp0 ++
    leBytes 4 (s.rd TRP_DRV_FIRE).toNat ++ boot ++ time ++
    leBytes 2 s.evt.q1.length ++ leBytes 2 s.evt.q0.length ++ List.replicate 16 0

/-- STATUS. -/
def orderStatus (_q : CmdReq) (s : State) : CmdRes := okOut s s.statusBytes

/-- R456: ADDR and COUNT as both register opcodes check them. -/
def rangeBad (q : CmdReq) : Bool := payN q 0 4 % 4 != 0 || payN q 4 4 = 0

/-- REG_READ: its words in order, with no access between them (R489, log 125). -/
def orderRegRead (q : CmdReq) (s : State) : CmdRes :=
  let a := payN q 0 4
  let n := payN q 4 4
  if rangeBad q then refused s .valueRange
  else if 1024 < n || 0x800000 < a + 4 * n then refused s .lenRange
  else
    let r := State.readWords (trReq q.tr) n a s
    okOut r.2 (r.1.flatMap (leBytes 4))

/-- R456: words written upwards until one is refused: its status and index. -/
def State.writeUntil (r : Requester) : List Nat → Nat → Nat → State → Status × Nat × State
  | [], _, _, s => (.ok, 0, s)
  | v :: vs, a, i, s =>
    match s.writeWord r a v with
    | (.ok, s') => State.writeUntil r vs (a + 4) (i + 1) s'
    | (st, s') => (st, i, s')

/-- REG_WRITE. -/
def orderRegWrite (q : CmdReq) (s : State) : CmdRes :=
  let n := payN q 4 4
  if rangeBad q then refused s .valueRange
  else if 1022 < n || q.payload.length != 8 + 4 * n then refused s .lenRange
  else
    let r := State.writeUntil (trReq q.tr) (leWords n (q.payload.drop 8)) (payN q 0 4) 0 s
    ⟨r.1, r.2.2, [], r.2.1, false⟩

/-! ### Modes, outputs, settings, debug, the pair (R456) -/

/-- RESTART. -/
def orderRestart (q : CmdReq) (s : State) : CmdRes :=
  if 1 < payN q 0 4 then refused s .valueRange else okRes (s.reqRestart (payN q 0 4 = 0) false)

/-- SAFE. -/
def orderSafe (_q : CmdReq) (s : State) : CmdRes := okRes (s.enterSafe 4)

/-- R454: an entry of the completion ring. -/
def complBytes (c : Completion) : List Nat :=
  leBytes 2 c.op ++ [c.tr % 256, c.status % 256] ++ leBytes 4 c.seq ++ leBytes 4 c.detail ++ leBytes 4 c.strobe

/-- RESULT_READ. -/
def orderResultRead (_q : CmdReq) (s : State) : CmdRes :=
  okOut s (((s.cmd.ring.flatMap complBytes) ++ List.replicate 256 0).take 256)

/-- R19, R403: may TEST not be entered? -/
def State.testDenied (s : State) : Bool :=
  s.getF TRP_DRV_ARM_DARM != 0 || s.getF TRP_DRV_FIRE_DFIRE != 0 ||
    (s.paired && s.flag OZX_PSTAT_PARTNER_OK && s.flag OZX_PSTAT_P_TEST)

/-- R20: may RUN not be entered? -/
def State.runDenied (s : State) : Bool :=
  (upto 8).any (fun g => s.chainState g = 0) || s.podState 0 = 5 || s.podState 1 = 5 || s.flag DBG_STAT_UNLOCK

/-- MODE_SET: an accepted change waits for the slow-tick boundary, and its response for the change. -/
def orderModeSet (q : CmdReq) (s : State) : CmdRes :=
  let m := payN q 0 4
  if m != 1 && m != 2 then refused s .valueRange
  else if modeCode s.mode = m then okRes s
  else if m = 2 then
    if s.testDenied then refused s .stateDenied else ⟨.ok, s.sysUpd (fun x => { x with modeReq := some (.test, s.flt.m) }), [], 0, true⟩
  else if s.runDenied then refused s .stateDenied
  else ⟨.ok, s.sysUpd (fun x => { x with modeReq := some (.run, s.flt.m) }), [], 0, true⟩

/-- Outputs whose EN is set. -/
def State.outputsOn (s : State) : Nat := (upto 32).foldl (fun n k => if s.flag (TRP_OCFG_EN k) then n + 2 ^ k else n) 0

/-- OUTPUT_FORCE. -/
def orderOutputForce (q : CmdReq) (s : State) : CmdRes :=
  let arm := payN q 0 4
  let fire := payN q 4 4
  let dur := payN q 8 4
  if s.mode != .test then refused s .notInTest
  else if arm = 0 && fire = 0 then okRes s.endForce
  else if dur = 0 || 60000 < dur || Nat.land fire arm != fire || Nat.land (Nat.lor arm fire) s.outputsOn != Nat.lor arm fire then
    refused s .valueRange
  else
    let s := (s.setF TRP_FRC_ARM_FARM arm).setF TRP_FRC_FIRE_FFIRE fire
    okRes { s with trp := { s.trp with forced := arm }, cmd := { s.cmd with forceEnd := some (s.now + dur * msU) } }

/-- FORCE_EXPIRY (R456): DUR has elapsed. -/
def forceExpiryEff (s : State) : State :=
  match s.cmd.forceEnd with
  | some t => if s.sys.refPresent && t ≤ s.now then s.endForce else s
  | none => s

/-- TRIP_RESET. -/
def orderTripReset (q : CmdReq) (s : State) : CmdRes :=
  okRes { s with trp := { s.trp with resets := Nat.lor s.trp.resets (payN q 0 4) } }

/-- R130, R165, R166: would an instance's group be within its ranges, with its curve present, after a word changed? -/
def State.settingOk (s : State) (i w v : Nat) : Bool :=
  let c := s.wr (PRT_SET i w) (BitVec.ofNat 32 v)
  let g := (w - 2) / 7
  let crv := bf (c.setW i (4 + 7 * g)) 29 18
  c.instGroupOk i g && (0x800 ≤ crv || !(Store.get [] s.prt.curves crv).isEmpty)

/-- SETTING_WRITE. -/
def orderSettingWrite (q : CmdReq) (s : State) : CmdRes :=
  let i := payN q 0 2
  let w := payN q 2 1
  let v := payN q 4 4
  if s.mode != .test then refused s .notInTest
  else if i < 512 && s.podState (s.bayPod (s.elBay i)) = 2 then refused s .busyRecovery
  else if 512 ≤ i || s.elType i = 0 || w < 2 || 29 < w || !s.settingOk i w v then refused s .valueRange
  else okRes (s.setInst i { s.inst i with setReq := (s.inst i).setReq ++ [(w, v, s.flt.m)] })

/-- GROUP_SELECT. -/
def orderGroupSelect (q : CmdReq) (s : State) : CmdRes :=
  let b := payN q 0 2
  let g := payN q 2 2
  if 12 ≤ b || !s.flag (PRT_BAY1_EN b) || 3 < g then refused s .valueRange
  else if s.flag (PRT_BAY1_GSRC b) then refused s .resourceBusy
  else okRes (s.requestGroup b g)

/-- DEBUG_UNLOCK (R442). -/
def orderDebugUnlock (q : CmdReq) (s : State) : CmdRes :=
  let kdbg := match q.auth with
    | some (slot, _) => bitN (s.getF (SEC_WMAP_MAP 7)) (16 + slot)
    | none => false
  if s.mode != .test then refused s .notInTest
  else if !kdbg then s.worldRefused q
  else okRes (s.setFlag DBG_STAT_UNLOCK true)

/-- DEBUG_LOCK. -/
def orderDebugLock (_q : CmdReq) (s : State) : CmdRes :=
  if s.podState 0 = 5 || s.podState 1 = 5 then refused s .stateDenied else okRes s.debugLock

/-- PAIR_HANDOVER (R397). -/
def orderPairHandover (_q : CmdReq) (s : State) : CmdRes := ofPair s s.handover

/-! ### Breakers (R458, R455) -/

/-- R458: BRK 0 to 31 with a BKR block. -/
def State.hasBkr (s : State) (brk : Nat) : Bool := brk < 32 && (s.bkrStatOf brk).isSome

/-- R458, R236, R455: why a request to a BKR block is refused after its parameters have passed. -/
def State.bkrRefusal (s : State) (brk : Nat) : Option Status :=
  if s.getF LGC_MODE_MODE != 1 || (s.flag POD_LSTAT_SPLIT && !s.flag POD_LCFG_ALLOW_UNCHECKED_TRIP) then some .stateDenied
  else if s.lgc.reqs.any (fun r => r.brk = brk) then some .resourceBusy
  else none

/-- R458: submit a request of kind `k` to a BKR block. -/
def State.bkrSubmit (s : State) (q : CmdReq) (k : Nat) : CmdRes :=
  let brk := payN q 0 2
  match s.bkrRefusal brk with
  | some st => refused s st
  | none => okRes { s with lgc := { s.lgc with reqs := s.lgc.reqs ++ [⟨brk, k, q.tr, q.seq⟩] } }

/-- BKR_SELECT. -/
def orderBkrSelect (q : CmdReq) (s : State) : CmdRes :=
  let d := payN q 2 2
  if !s.hasBkr (payN q 0 2) || d = 0 || 2 < d then refused s .valueRange else s.bkrSubmit q (d - 1)

/-- BKR_OPERATE. -/
def orderBkrOperate (q : CmdReq) (s : State) : CmdRes :=
  let d := payN q 2 2
  if !s.hasBkr (payN q 0 2) || d = 0 || 2 < d then refused s .valueRange else s.bkrSubmit q (d + 1)

/-- BKR_CANCEL. -/
def orderBkrCancel (q : CmdReq) (s : State) : CmdRes :=
  if !s.hasBkr (payN q 0 2) then refused s .valueRange else s.bkrSubmit q 4

/-- BKR_STATUS. -/
def orderBkrStatus (q : CmdReq) (s : State) : CmdRes :=
  match if payN q 0 2 < 32 then s.bkrStatOf (payN q 0 2) else none with
  | some st => okOut s (leBytes 4 st)
  | none => refused s .valueRange

/-! ### Recorder (R459) -/

/-- R459: CLASS 0 to 7 with EN set. -/
def State.clsOk (s : State) (q : CmdReq) : Bool := payN q 0 4 < 8 && s.flag (REC_CCFG_EN (payN q 0 4))

/-- REC_ARM. -/
def orderRecArm (q : CmdReq) (s : State) : CmdRes :=
  if !s.clsOk q then refused s .valueRange else ofPair s (s.recArm (payN q 0 4))

/-- REC_DISARM. -/
def orderRecDisarm (q : CmdReq) (s : State) : CmdRes :=
  if !s.clsOk q then refused s .valueRange else ofPair s (s.recDisarm (payN q 0 4))

/-- REC_TRIG. -/
def orderRecTrig (q : CmdReq) (s : State) : CmdRes :=
  if !s.clsOk q then refused s .valueRange else ofPair s (s.recTrig (payN q 0 4))

/-- REC_APPLY: after a refused APPLY both registers read back the counts in force (R252). -/
def orderRecApply (q : CmdReq) (s : State) : CmdRes :=
  let c := payN q 0 4
  if !s.clsOk q then refused s .valueRange
  else
    let r := State.recApply c ((s.setF (REC_CPRE_PRE c) (payN q 4 4)).setF (REC_CPOST_POST c) (payN q 8 4))
    ⟨r.1, r.2, [], 0, false⟩

/-- REC_RELEASE (R271); a segment in a secure region is out of a non-secure command's reach (row 10 of R450). -/
def orderRecRelease (q : CmdReq) (s : State) : CmdRes :=
  let g := payN q 0 4
  if g < 4096 && s.regionSecure (s.segByte g) && !s.reqSecure (trReq q.tr) then s.worldRefused q
  else ofPair s (s.recRelease g)

/-! ### Scheme logic (R459, R288, R233, R238, R302) -/

/-- LOGIC_RUN. -/
def orderLogicRun (q : CmdReq) (s : State) : CmdRes :=
  let k := payN q 0 4
  if 1 < k then refused s .valueRange
  else if s.getF LGC_MODE_MODE != 0 || s.flag POD_LSTAT_SPLIT || !s.hasProg 0 then refused s .stateDenied
  else okRes (s.setProg 0 { s.prog 0 with startReq := k + 1 }).startFree

/-- LOGIC_STOP: at the end of the scan in progress, or at once. -/
def orderLogicStop (_q : CmdReq) (s : State) : CmdRes :=
  let m := s.getF LGC_MODE_MODE
  if m = 1 && (s.prog 0).scan.isSome then okRes (s.setFlag LGC_MODE_STOP_PEND true)
  else if m = 1 || m = 2 then okRes s.enterStop
  else refused s .stateDenied

/-- LOGIC_HOLD: before the next block call (HOLD_ENTRY). -/
def orderLogicHold (_q : CmdReq) (s : State) : CmdRes :=
  if s.getF LGC_MODE_MODE != 1 || s.flag POD_LSTAT_SPLIT then refused s .stateDenied
  else okRes { s with lgc := { s.lgc with holdReq := true } }

/-- LOGIC_RESUME. -/
def orderLogicResume (_q : CmdReq) (s : State) : CmdRes :=
  if s.getF LGC_MODE_MODE != 2 || s.flag POD_LSTAT_SPLIT then refused s .stateDenied else okRes s.leaveHold

/-- LOGIC_STEP: one block call. -/
def orderLogicStep (_q : CmdReq) (s : State) : CmdRes :=
  if s.getF LGC_MODE_MODE != 2 || s.flag POD_LSTAT_SPLIT then refused s .stateDenied else okRes (s.execNext 0)

/-- R233: does a breaker block hold a select or an operate, or is an autoreclose block not idle (R331)? -/
def State.bkrBusy (s : State) : Bool :=
  let p := s.prog 0
  (instCalls p.calls).any (fun c =>
    (c.type = 0x3F && memRd p.mem (c.iofs * 8 + 12) 4 / 256 % 8 != 0) ||
      (c.type = 0x40 && !([1, 6].contains (Store.get resetBlk p.ints c.inst).st)))

/-- LOGIC_SPLIT. -/
def orderLogicSplit (_q : CmdReq) (s : State) : CmdRes :=
  if s.podState 2 = 2 then refused s .busyRecovery
  else if s.podState 2 != 1 || s.getF LGC_MODE_MODE != 1 || !s.flag POD_LCFG_ANA_EN || s.bkrBusy || s.getF LGC_XSTAT_XSTATE != 0 then
    refused s .stateDenied
  else okRes (s.setFlag POD_LSTAT_SPLIT_PEND true)

/-- LOGIC_JOIN. -/
def orderLogicJoin (_q : CmdReq) (s : State) : CmdRes :=
  if s.podState 2 = 2 then refused s .busyRecovery
  else if s.podState 2 != 6 then refused s .stateDenied
  else
    let s := s.setFlag POD_LSTAT_JOIN_PEND true
    okRes (if s.getF LGC_MODE_MODE = 0 then s.takeJoin none else s)

/-- R410: the slot of a flash byte. -/
def slotOf (a : Nat) : Nat := a / 0x4000000

/-- R425, R455: is a flash erase or program running on the slot that is not booted? -/
def State.flashWriting (s : State) : Bool :=
  match s.cmd.run with
  | some (.flashErase a _, _, _) | some (.flashProgram a _, _, _) => slotOf a != s.mram.boot.booted
  | _ => false

/-- LOGIC_EXCHANGE: the background load begins. -/
def orderLogicExchange (q : CmdReq) (s : State) : CmdRes :=
  if s.getF LGC_MODE_MODE = 3 || s.flag POD_LSTAT_SPLIT || s.lgc.joinFrom.isSome || s.getF LGC_XSTAT_XSTATE != 0 then
    refused s .stateDenied
  else if s.flashWriting then refused s .resourceBusy
  else okRes ({ s with lgc := { s.lgc with exchReq := some (q.tr, q.seq) } }.setF LGC_XSTAT_XSTATE 1)

/-! ### Time (R459, R342, R344) -/

/-- TIME_SET. -/
def orderTimeSet (q : CmdReq) (s : State) : CmdRes :=
  let b := payN q 0 4
  let ns := payN q 4 4
  let sec := payN q 8 8
  if 3 < b || 1000000000 ≤ ns || 281474976710656 ≤ sec then refused s .valueRange
  else if s.tbSrc b = 0 then
    let want : Int := (((sec * 1000000000 + ns) * 65536 : Nat) : Int)
    let d := want - s.tbAt b s.now
    if b = s.sampTb then okRes (s.setTb b { s.tb b with setTime := some d }) else okRes (s.applyStep b d)
  else if s.tbSrc b = 4 then okRes (s.setTb b { s.tb b with setSec := some sec })
  else refused s .stateDenied

/-- TIME_ACCEPT_STEP. -/
def orderTimeAcceptStep (q : CmdReq) (s : State) : CmdRes :=
  let b := payN q 0 4
  if 3 < b then refused s .valueRange
  else if s.tbState b != 4 then refused s .stateDenied
  else if b = s.sampTb || (s.flag TIM_SAMP_COMPAT && b = 0) then okRes (s.setTb b { s.tb b with stepAt := some s.now })
  else okRes (s.takeStep b)

/-! ### Keys, worlds, OTP (R434 to R436, R460) -/

/-- KEY_INIT. -/
def orderKeyInit (q : CmdReq) (s : State) : CmdRes :=
  let slot := payN q 0 1
  if q.auth.isSome || 7 < slot then refused s .valueRange
  else if q.tr != 0 || !s.provisioning || (s.keySlot slot).st != 0 then refused s .stateDenied
  else
    let k : KeySlot := ⟨1, q.payload.drop 4⟩
    okOut (s.setKey slot k) (kcv k ++ [0])

/-- R435: the ASCII bytes FJ6412-KDF. -/
def kdfLabel : List Nat := [0x46, 0x4A, 0x36, 0x34, 0x31, 0x32, 0x2D, 0x4B, 0x44, 0x46]

/-- KEY_ROTATE with the nonce the TRNG gives. -/
def orderKeyRotate (nonce : Nat) (q : CmdReq) (s : State) : CmdRes :=
  let t := payN q 0 1
  match q.auth with
  | none => refused s .authFail
  | some (p, _) =>
    if 7 < t || t = p then refused s .valueRange
    else if (s.keySlot t).st = 1 || !s.sec.trngOk then refused s .stateDenied
    else
      let nb := beBytes 16 nonce
      let k : KeySlot := ⟨1, hmacSha256 (s.keySlot p).key (kdfLabel ++ [t] ++ (q.payload.drop 4).take 16 ++ nb)⟩
      okOut (s.setKey t k) (nb ++ kcv k ++ [0])

/-- R434: is slot `k` the last ACTIVE one with KWORLD set? -/
def State.lastWorldKey (s : State) (k : Nat) : Bool :=
  let w (i : Nat) : Bool := (s.keySlot i).st = 1 && bitN (s.getF (SEC_WMAP_MAP 7)) (8 + i)
  w k && !(upto 8).any (fun i => i != k && w i)

/-- KEY_RETIRE. -/
def orderKeyRetire (q : CmdReq) (s : State) : CmdRes :=
  let k := payN q 0 4
  if 7 < k then refused s .valueRange
  else if (s.keySlot k).st != 1 || s.lastWorldKey k then refused s .stateDenied
  else okRes (s.setKey k ⟨2, []⟩)

/-- WORLD_SET. -/
def orderWorldSet (q : CmdReq) (s : State) : CmdRes :=
  let w := payN q 0 4
  let v := payN q 4 4
  let m := lset ((upto 8).map (fun k => s.getF (SEC_WMAP_MAP k))) w v
  if 6 < w || !worldMapOk 32 m then refused s .valueRange
  else okRes (((s.setF (SEC_WMAP_MAP w) v).setFlag SEC_STAT_CHG true).raise 113 w v)

/-- Start a flash or OTP command of class C. -/
def State.startRun (s : State) (q : CmdReq) (c : ClassC) : CmdRes :=
  okRes { s with cmd := { s.cmd with run := some (c, q.tr, q.seq) } }

/-- An OTP slot. -/
def State.otpSlot (s : State) (h : Nat) : OtpSlot := lget ⟨0, 0⟩ s.sec.otp h

/-- OTP_PROGRAM. -/
def orderOtpProgram (q : CmdReq) (s : State) : CmdRes :=
  let h := payN q 0 4
  if 1 < h then refused s .valueRange
  else if (s.otpSlot h).st != 0 then refused s .stateDenied
  else if s.cmd.run.isSome then refused s .resourceBusy
  else s.startRun q (.otpProgram h (ofBe (q.payload.drop 4)))

/-- OTP_REVOKE. -/
def orderOtpRevoke (q : CmdReq) (s : State) : CmdRes :=
  let h := payN q 0 4
  if 1 < h then refused s .valueRange
  else if (s.otpSlot h).st != 1 || (s.otpSlot (1 - h)).st != 1 then refused s .stateDenied
  else if s.cmd.run.isSome then refused s .resourceBusy
  else s.startRun q (.otpRevoke h)

/-- Set an OTP slot: OTP_CHANGED. -/
def State.setOtp (s : State) (h : Nat) (o : OtpSlot) : State :=
  { s with sec := { s.sec with otp := lset s.sec.otp h o } }.raise 115 h o.st

/-- The class C command in progress has ended. -/
def State.endRun (s : State) : State := { s with cmd := { s.cmd with run := none } }

/-- OTP_OPERATION_DONE (R436): `ok`: the read-back agrees. -/
def otpOperationDoneEff (ok : Bool) (s : State) : State :=
  match s.cmd.run with
  | some (.otpProgram h hash, tr, seq) =>
    if ok then ((s.endRun).setOtp h ⟨1, hash⟩).complete 0x0705 tr 0 seq 0
    else (((s.endRun).setFlag SEC_STAT_OTP_ERR true).setOtp h ⟨2, (Config.otpFailed h hash).toNat⟩).complete 0x0705 tr (stCode .valueRange) seq 0
  | some (.otpRevoke h, tr, seq) => ((s.endRun).setOtp h { s.otpSlot h with st := 2 }).complete 0x0706 tr 0 seq 0
  | _ => s

/-! ### Flash (R460, R425, R410) -/

/-- Bytes within one slot. -/
def inOneSlot (a n : Nat) : Bool := n != 0 && a + n ≤ 0x8000000 && slotOf a = slotOf (a + n - 1)

/-- R425: why an erase or program of a slot is refused, if it is. -/
def State.flashRefusal (s : State) (slot : Nat) : Option Status :=
  if slot = s.mram.boot.booted || slot = s.mram.boot.pref then some .stateDenied
  else if s.cmd.run.isSome || (s.getF LGC_XSTAT_XSTATE = 1 && slot != s.getF LGC_XSTAT_SLOT) then some .resourceBusy
  else none

/-- FLASH_READ; `data` is what the flash holds there. -/
def orderFlashRead (data : List Nat) (q : CmdReq) (s : State) : CmdRes :=
  let a := payN q 0 4
  let n := payN q 4 4
  if n = 0 || 0x8000000 < a + n then refused s .valueRange
  else if 4096 < n then refused s .lenRange
  else if s.flashWriting then refused s .resourceBusy
  else okOut s (((data ++ List.replicate n 0).take n).map (· % 256))

/-- FLASH_ERASE. -/
def orderFlashErase (q : CmdReq) (s : State) : CmdRes :=
  let a := payN q 0 4
  let n := payN q 4 4
  if a % 0x10000 != 0 || n = 0 || !inOneSlot a (n * 0x10000) then refused s .valueRange
  else if 1024 < n then refused s .lenRange
  else
    match s.flashRefusal (slotOf a) with
    | some st => refused s st
    | none => s.startRun q (.flashErase a n)

/-- FLASH_PROGRAM. -/
def orderFlashProgram (q : CmdReq) (s : State) : CmdRes :=
  let a := payN q 0 4
  let d := q.payload.drop 4
  if a % 256 != 0 || d.length % 256 != 0 || !inOneSlot a d.length then refused s .valueRange
  else
    match s.flashRefusal (slotOf a) with
    | some st => refused s st
    | none => s.startRun q (.flashProgram a d)

/-- FLASH_SLOT. -/
def orderFlashSlot (q : CmdReq) (s : State) : CmdRes :=
  let k := payN q 0 4
  if 1 < k then refused s .valueRange
  else if s.cmd.run.isSome then refused s .resourceBusy
  else s.startRun q (.flashSlot k)

/-- FLASH_OPERATION_DONE (R455, R425): for FLASH_SLOT with the slot's header and signature as checked. -/
def flashOperationDoneEff (h : ImgHdr) (sigOk : Bool) (s : State) : State :=
  if !s.sys.refPresent then s
  else
  match s.cmd.run with
  | some (.flashErase _ _, tr, seq) => s.endRun.complete 0x0802 tr 0 seq 0
  | some (.flashProgram _ _, tr, seq) => s.endRun.complete 0x0803 tr 0 seq 0
  | some (.flashSlot k, tr, seq) =>
    if hdrOk h && s.sigCheck h sigOk then (s.endRun.bootUpd (fun b => { b with pref := k })).complete 0x0804 tr 0 seq 0
    else s.endRun.complete 0x0804 tr (stCode .imageInvalid) seq 0
  | _ => s

/-! ### Events (R460, R470) -/

/-- Row 10 of R450 for the event opcodes: the secure queue from the non-secure world. -/
def State.queueDenied (s : State) (q : CmdReq) : Bool := payN q 0 2 = 1 && !s.reqSecure (trReq q.tr)

/-- EVT_READ. -/
def orderEvtRead (q : CmdReq) (s : State) : CmdRes :=
  let w := payN q 0 2
  let m := payN q 2 2
  if s.queueDenied q then s.worldRefused q
  else if 1 < w || m = 0 then refused s .valueRange
  else if 127 < m then refused s .lenRange
  else
    let es := (s.queue w).take m
    okOut s (leBytes 4 es.length ++ es.flatMap (entryBytes false))

/-- EVT_ACK. -/
def orderEvtAck (q : CmdReq) (s : State) : CmdRes :=
  let w := payN q 0 2
  let n := payN q 2 2
  if s.queueDenied q then s.worldRefused q
  else if 1 < w || !s.ackOk w n then refused s .valueRange
  else okRes (s.ackEvents w n)

/-! ### The commands -/

/-- Each opcode's command: the Service core executes the oldest request, if it is that opcode's. -/
def cmdStatusEff (s : State) : State := s.onOpcode 0x0101 orderStatus
/-- REG_READ. -/
def cmdRegReadEff (s : State) : State := s.onOpcode 0x0102 orderRegRead
/-- REG_WRITE. -/
def cmdRegWriteEff (s : State) : State := s.onOpcode 0x0103 orderRegWrite
/-- RESTART. -/
def cmdRestartEff (s : State) : State := s.onOpcode 0x0104 orderRestart
/-- SAFE. -/
def cmdSafeEff (s : State) : State := s.onOpcode 0x0105 orderSafe
/-- RESULT_READ. -/
def cmdResultReadEff (s : State) : State := s.onOpcode 0x0106 orderResultRead
/-- MODE_SET. -/
def cmdModeSetEff (s : State) : State := s.onOpcode 0x0201 orderModeSet
/-- OUTPUT_FORCE. -/
def cmdOutputForceEff (s : State) : State := s.onOpcode 0x0202 orderOutputForce
/-- TRIP_RESET. -/
def cmdTripResetEff (s : State) : State := s.onOpcode 0x0203 orderTripReset
/-- SETTING_WRITE. -/
def cmdSettingWriteEff (s : State) : State := s.onOpcode 0x0204 orderSettingWrite
/-- GROUP_SELECT. -/
def cmdGroupSelectEff (s : State) : State := s.onOpcode 0x0205 orderGroupSelect
/-- DEBUG_UNLOCK. -/
def cmdDebugUnlockEff (s : State) : State := s.onOpcode 0x0206 orderDebugUnlock
/-- DEBUG_LOCK. -/
def cmdDebugLockEff (s : State) : State := s.onOpcode 0x0207 orderDebugLock
/-- PAIR_HANDOVER. -/
def cmdPairHandoverEff (s : State) : State := s.onOpcode 0x0A01 orderPairHandover
/-- BKR_SELECT. -/
def cmdBkrSelectEff (s : State) : State := s.onOpcode 0x0301 orderBkrSelect
/-- BKR_OPERATE. -/
def cmdBkrOperateEff (s : State) : State := s.onOpcode 0x0302 orderBkrOperate
/-- BKR_CANCEL. -/
def cmdBkrCancelEff (s : State) : State := s.onOpcode 0x0303 orderBkrCancel
/-- BKR_STATUS. -/
def cmdBkrStatusEff (s : State) : State := s.onOpcode 0x0304 orderBkrStatus
/-- REC_ARM. -/
def cmdRecArmEff (s : State) : State := s.onOpcode 0x0401 orderRecArm
/-- REC_DISARM. -/
def cmdRecDisarmEff (s : State) : State := s.onOpcode 0x0402 orderRecDisarm
/-- REC_TRIG. -/
def cmdRecTrigEff (s : State) : State := s.onOpcode 0x0403 orderRecTrig
/-- REC_APPLY. -/
def cmdRecApplyEff (s : State) : State := s.onOpcode 0x0404 orderRecApply
/-- REC_RELEASE. -/
def cmdRecReleaseEff (s : State) : State := s.onOpcode 0x0405 orderRecRelease
/-- LOGIC_RUN. -/
def cmdLogicRunEff (s : State) : State := s.onOpcode 0x0501 orderLogicRun
/-- LOGIC_STOP. -/
def cmdLogicStopEff (s : State) : State := s.onOpcode 0x0502 orderLogicStop
/-- LOGIC_HOLD. -/
def cmdLogicHoldEff (s : State) : State := s.onOpcode 0x0503 orderLogicHold
/-- LOGIC_RESUME. -/
def cmdLogicResumeEff (s : State) : State := s.onOpcode 0x0504 orderLogicResume
/-- LOGIC_STEP. -/
def cmdLogicStepEff (s : State) : State := s.onOpcode 0x0505 orderLogicStep
/-- LOGIC_SPLIT. -/
def cmdLogicSplitEff (s : State) : State := s.onOpcode 0x0506 orderLogicSplit
/-- LOGIC_JOIN. -/
def cmdLogicJoinEff (s : State) : State := s.onOpcode 0x0507 orderLogicJoin
/-- LOGIC_EXCHANGE. -/
def cmdLogicExchangeEff (s : State) : State := s.onOpcode 0x0508 orderLogicExchange
/-- TIME_SET. -/
def cmdTimeSetEff (s : State) : State := s.onOpcode 0x0601 orderTimeSet
/-- TIME_ACCEPT_STEP. -/
def cmdTimeAcceptStepEff (s : State) : State := s.onOpcode 0x0604 orderTimeAcceptStep
/-- KEY_INIT. -/
def cmdKeyInitEff (s : State) : State := s.onOpcode 0x0701 orderKeyInit
/-- KEY_ROTATE. -/
def cmdKeyRotateEff (nonce : Nat) (s : State) : State := s.onOpcode 0x0702 (orderKeyRotate nonce)
/-- KEY_RETIRE. -/
def cmdKeyRetireEff (s : State) : State := s.onOpcode 0x0703 orderKeyRetire
/-- WORLD_SET. -/
def cmdWorldSetEff (s : State) : State := s.onOpcode 0x0704 orderWorldSet
/-- OTP_PROGRAM. -/
def cmdOtpProgramEff (s : State) : State := s.onOpcode 0x0705 orderOtpProgram
/-- OTP_REVOKE. -/
def cmdOtpRevokeEff (s : State) : State := s.onOpcode 0x0706 orderOtpRevoke
/-- FLASH_READ. -/
def cmdFlashReadEff (data : List Nat) (s : State) : State := s.onOpcode 0x0801 (orderFlashRead data)
/-- FLASH_ERASE. -/
def cmdFlashEraseEff (s : State) : State := s.onOpcode 0x0802 orderFlashErase
/-- FLASH_PROGRAM. -/
def cmdFlashProgramEff (s : State) : State := s.onOpcode 0x0803 orderFlashProgram
/-- FLASH_SLOT. -/
def cmdFlashSlotEff (s : State) : State := s.onOpcode 0x0804 orderFlashSlot
/-- EVT_READ. -/
def cmdEvtReadEff (s : State) : State := s.onOpcode 0x0901 orderEvtRead
/-- EVT_ACK. -/
def cmdEvtAckEff (s : State) : State := s.onOpcode 0x0902 orderEvtAck

end Sys2Proof.Machine
end

