-- ==== Sys2Proof/Machine/OrdersCmds.lean ====
section
/-!
DEFINITION. The commands of the opcodes: each executes the oldest received request when it is of its opcode (15): a meaning per row of the table, over the operations of Orders.lean. An operand outside the
range its unit has changes nothing but the clock.
-/
namespace Sys2Proof.Machine

/-- STATUS (R457). -/
def execCmdStatus (t : Nat) (s : State) : Host.Outcome State Fault Refusal :=
  s.happen t cmdStatusEff

/-- REG_READ (R456). -/
def execCmdRegRead (t : Nat) (s : State) : Host.Outcome State Fault Refusal :=
  s.happen t cmdRegReadEff

/-- REG_WRITE (R456). -/
def execCmdRegWrite (t : Nat) (s : State) : Host.Outcome State Fault Refusal :=
  s.happen t cmdRegWriteEff

/-- RESTART (R456). -/
def execCmdRestart (t : Nat) (s : State) : Host.Outcome State Fault Refusal :=
  s.happen t cmdRestartEff

/-- SAFE (R456). -/
def execCmdSafe (t : Nat) (s : State) : Host.Outcome State Fault Refusal :=
  s.happen t cmdSafeEff

/-- RESULT_READ (R456). -/
def execCmdResultRead (t : Nat) (s : State) : Host.Outcome State Fault Refusal :=
  s.happen t cmdResultReadEff

/-- MODE_SET (R456). -/
def execCmdModeSet (t : Nat) (s : State) : Host.Outcome State Fault Refusal :=
  s.happen t cmdModeSetEff

/-- OUTPUT_FORCE (R456). -/
def execCmdOutputForce (t : Nat) (s : State) : Host.Outcome State Fault Refusal :=
  s.happen t cmdOutputForceEff

/-- FORCE_EXPIRY (R456). -/
def execForceExpiry (t : Nat) (s : State) : Host.Outcome State Fault Refusal :=
  s.happen t forceExpiryEff

/-- TRIP_RESET (R456). -/
def execCmdTripReset (t : Nat) (s : State) : Host.Outcome State Fault Refusal :=
  s.happen t cmdTripResetEff

/-- SETTING_WRITE (R456). -/
def execCmdSettingWrite (t : Nat) (s : State) : Host.Outcome State Fault Refusal :=
  s.happen t cmdSettingWriteEff

/-- GROUP_SELECT (R456). -/
def execCmdGroupSelect (t : Nat) (s : State) : Host.Outcome State Fault Refusal :=
  s.happen t cmdGroupSelectEff

/-- DEBUG_UNLOCK (R442). -/
def execCmdDebugUnlock (t : Nat) (s : State) : Host.Outcome State Fault Refusal :=
  s.happen t cmdDebugUnlockEff

/-- DEBUG_LOCK (R456). -/
def execCmdDebugLock (t : Nat) (s : State) : Host.Outcome State Fault Refusal :=
  s.happen t cmdDebugLockEff

/-- PAIR_HANDOVER (R397). -/
def execCmdPairHandover (t : Nat) (s : State) : Host.Outcome State Fault Refusal :=
  s.happen t cmdPairHandoverEff

/-- BKR_SELECT (R458). -/
def execCmdBkrSelect (t : Nat) (s : State) : Host.Outcome State Fault Refusal :=
  s.happen t cmdBkrSelectEff

/-- BKR_OPERATE (R458). -/
def execCmdBkrOperate (t : Nat) (s : State) : Host.Outcome State Fault Refusal :=
  s.happen t cmdBkrOperateEff

/-- BKR_CANCEL (R458). -/
def execCmdBkrCancel (t : Nat) (s : State) : Host.Outcome State Fault Refusal :=
  s.happen t cmdBkrCancelEff

/-- BKR_STATUS (R458). -/
def execCmdBkrStatus (t : Nat) (s : State) : Host.Outcome State Fault Refusal :=
  s.happen t cmdBkrStatusEff

/-- REC_ARM (R459). -/
def execCmdRecArm (t : Nat) (s : State) : Host.Outcome State Fault Refusal :=
  s.happen t cmdRecArmEff

/-- REC_DISARM (R459). -/
def execCmdRecDisarm (t : Nat) (s : State) : Host.Outcome State Fault Refusal :=
  s.happen t cmdRecDisarmEff

/-- REC_TRIG (R459). -/
def execCmdRecTrig (t : Nat) (s : State) : Host.Outcome State Fault Refusal :=
  s.happen t cmdRecTrigEff

/-- REC_APPLY (R459). -/
def execCmdRecApply (t : Nat) (s : State) : Host.Outcome State Fault Refusal :=
  s.happen t cmdRecApplyEff

/-- REC_RELEASE (R459). -/
def execCmdRecRelease (t : Nat) (s : State) : Host.Outcome State Fault Refusal :=
  s.happen t cmdRecReleaseEff

/-- LOGIC_RUN (R288). -/
def execCmdLogicRun (t : Nat) (s : State) : Host.Outcome State Fault Refusal :=
  s.happen t cmdLogicRunEff

/-- LOGIC_STOP (R288). -/
def execCmdLogicStop (t : Nat) (s : State) : Host.Outcome State Fault Refusal :=
  s.happen t cmdLogicStopEff

/-- LOGIC_HOLD (R288). -/
def execCmdLogicHold (t : Nat) (s : State) : Host.Outcome State Fault Refusal :=
  s.happen t cmdLogicHoldEff

/-- LOGIC_RESUME (R290). -/
def execCmdLogicResume (t : Nat) (s : State) : Host.Outcome State Fault Refusal :=
  s.happen t cmdLogicResumeEff

/-- LOGIC_STEP (R288). -/
def execCmdLogicStep (t : Nat) (s : State) : Host.Outcome State Fault Refusal :=
  s.happen t cmdLogicStepEff

/-- LOGIC_SPLIT (R233). -/
def execCmdLogicSplit (t : Nat) (s : State) : Host.Outcome State Fault Refusal :=
  s.happen t cmdLogicSplitEff

/-- LOGIC_JOIN (R238). -/
def execCmdLogicJoin (t : Nat) (s : State) : Host.Outcome State Fault Refusal :=
  s.happen t cmdLogicJoinEff

/-- LOGIC_EXCHANGE (R302). -/
def execCmdLogicExchange (t : Nat) (s : State) : Host.Outcome State Fault Refusal :=
  s.happen t cmdLogicExchangeEff

/-- TIME_SET (R459). -/
def execCmdTimeSet (t : Nat) (s : State) : Host.Outcome State Fault Refusal :=
  s.happen t cmdTimeSetEff

/-- TIME_ACCEPT_STEP (R342). -/
def execCmdTimeAcceptStep (t : Nat) (s : State) : Host.Outcome State Fault Refusal :=
  s.happen t cmdTimeAcceptStepEff

/-- KEY_INIT (R434). -/
def execCmdKeyInit (t : Nat) (s : State) : Host.Outcome State Fault Refusal :=
  s.happen t cmdKeyInitEff

/-- KEY_ROTATE (R435). -/
def execCmdKeyRotate (t nonce : Nat) (s : State) : Host.Outcome State Fault Refusal :=
  s.happen t (fun s => if decide (nonce < 2 ^ 128) then cmdKeyRotateEff nonce s else s)

/-- KEY_RETIRE (R434). -/
def execCmdKeyRetire (t : Nat) (s : State) : Host.Outcome State Fault Refusal :=
  s.happen t cmdKeyRetireEff

/-- WORLD_SET (R434). -/
def execCmdWorldSet (t : Nat) (s : State) : Host.Outcome State Fault Refusal :=
  s.happen t cmdWorldSetEff

/-- OTP_PROGRAM (R436). -/
def execCmdOtpProgram (t : Nat) (s : State) : Host.Outcome State Fault Refusal :=
  s.happen t cmdOtpProgramEff

/-- OTP_REVOKE (R436). -/
def execCmdOtpRevoke (t : Nat) (s : State) : Host.Outcome State Fault Refusal :=
  s.happen t cmdOtpRevokeEff

/-- OTP_OPERATION_DONE (R436). -/
def execOtpOperationDone (t : Nat) (ok : Bool) (s : State) : Host.Outcome State Fault Refusal :=
  s.happen t (otpOperationDoneEff ok)

/-- FLASH_READ (R460). -/
def execCmdFlashRead (t : Nat) (data : List Nat) (s : State) : Host.Outcome State Fault Refusal :=
  s.happen t (fun s => if data.all (fun b => decide (b < 256)) then cmdFlashReadEff data s else s)

/-- FLASH_ERASE (R460). -/
def execCmdFlashErase (t : Nat) (s : State) : Host.Outcome State Fault Refusal :=
  s.happen t cmdFlashEraseEff

/-- FLASH_PROGRAM (R460). -/
def execCmdFlashProgram (t : Nat) (s : State) : Host.Outcome State Fault Refusal :=
  s.happen t cmdFlashProgramEff

/-- FLASH_SLOT (R425). -/
def execCmdFlashSlot (t : Nat) (s : State) : Host.Outcome State Fault Refusal :=
  s.happen t cmdFlashSlotEff

/-- FLASH_OPERATION_DONE (R455). -/
def execFlashOperationDone (t : Nat) (h : ImgHdr) (sigOk : Bool) (s : State) : Host.Outcome State Fault Refusal :=
  s.happen t (flashOperationDoneEff h sigOk)

/-- EVT_READ (R460). -/
def execCmdEvtRead (t : Nat) (s : State) : Host.Outcome State Fault Refusal :=
  s.happen t cmdEvtReadEff

/-- EVT_ACK (R470). -/
def execCmdEvtAck (t : Nat) (s : State) : Host.Outcome State Fault Refusal :=
  s.happen t cmdEvtAckEff

end Sys2Proof.Machine
end

