-- ==== Sys2Proof/Machine/OzauxCmds.lean ====
section
/-!
DEFINITION. The commands of the Ozaux link and the pair (12): a meaning per row of the table, over the operations of Ozaux.lean. An operand outside the
range its unit has changes nothing but the clock.
-/
namespace Sys2Proof.Machine

/-- PARTNER_TIME_LOSS (R393). -/
def execPartnerTimeLoss (t : Nat) (s : State) : Host.Outcome State Fault Refusal :=
  s.happen t partnerTimeLossEff

/-- OZ_LINK_DOWN (R382, R388). -/
def execOzLinkDown (t l : Nat) (clk : Bool) (s : State) : Host.Outcome State Fault Refusal :=
  s.happen t (fun s => if decide (l < 2) then ozLinkFallEff l clk s else s)

/-- OZ_CLOCK_DETECT (R383). -/
def execOzClockDetect (t l : Nat) (s : State) : Host.Outcome State Fault Refusal :=
  s.happen t (fun s => if decide (l < 2) then ozClockDetectEff l s else s)

/-- OZ_LINK_UP (R383). -/
def execOzLinkUp (t l : Nat) (s : State) : Host.Outcome State Fault Refusal :=
  s.happen t (fun s => if decide (l < 2) then ozLinkUpEff l s else s)

/-- DELAY_EXCHANGE (R389). -/
def execDelayExchange (t l : Nat) (s : State) : Host.Outcome State Fault Refusal :=
  s.happen t (fun s => if decide (l < 2) then delayExchangeEff l s else s)

/-- DLY_REQ_RECEIVE (R389); the message's payload has no effect. -/
def execDlyReqReceive (t l _word : Nat) (s : State) : Host.Outcome State Fault Refusal :=
  s.happen t (fun s => if decide (l < 2) then dlyReqReceiveEff l s else s)

/-- DLY_RESP_RECEIVE (R389). -/
def execDlyRespReceive (t l turn : Nat) (s : State) : Host.Outcome State Fault Refusal :=
  s.happen t (fun s => if decide (l < 2) then dlyRespReceiveEff l turn s else s)

/-- OZ_TRIG_RECEIVE (R391); `top` is payload [63:60], sent as 0 (R385) and without effect. -/
def execOzTrigReceive (t l lseq id hops orig age ns sec top : Nat) (s : State) : Host.Outcome State Fault Refusal :=
  s.happen t (fun s => if decide (l < 2) && decide (lseq < 256) && decide (id < 16) && decide (hops < 8) && decide (orig < 8) && decide (age < 4096) && decide (ns < 1000000000) && decide (sec < 256) && decide (top < 16) then ozTrigReceiveEff l lseq id hops orig age ns sec s else s)

/-- OZ_TRIG_DELIVERY (R392). -/
def execOzTrigDelivery (t : Nat) (s : State) : Host.Outcome State Fault Refusal :=
  s.happen t ozTrigDeliveryEff

/-- HEARTBEAT_SEND (R396). -/
def execHeartbeatSend (t : Nat) (s : State) : Host.Outcome State Fault Refusal :=
  s.happen t heartbeatSendEff

/-- HEARTBEAT_RECEIVE (R396). -/
def execHeartbeatReceive (t lseq podOk : Nat) (test holds : Bool) (s : State) : Host.Outcome State Fault Refusal :=
  s.happen t (fun s => if decide (lseq < 256) && decide (podOk < 8) then heartbeatReceiveEff lseq podOk test holds s else s)

/-- PARTNER_OK_TIMEOUT (R397). -/
def execPartnerOkTimeout (t : Nat) (s : State) : Host.Outcome State Fault Refusal :=
  s.happen t partnerOkTimeoutEff

/-- PAIR_WAIT_EXPIRY (R399). -/
def execPairWaitExpiry (t : Nat) (s : State) : Host.Outcome State Fault Refusal :=
  s.happen t pairWaitExpiryEff

/-- STATE_RECEIVE (R401). -/
def execStateReceive (t digest tau : Nat) (s : State) : Host.Outcome State Fault Refusal :=
  s.happen t (fun s => if decide (tau < 1000000000) then stateReceiveEff digest tau s else s)

/-- TIME_RECEIVE (R393). -/
def execTimeReceive (t l ns sec qual : Nat) (s : State) : Host.Outcome State Fault Refusal :=
  s.happen t (fun s => if decide (l < 2) && decide (ns < 1000000000) && decide (sec < 65536) && decide (qual < 256) then timeReceiveEff l ns sec qual s else s)

/-- PUBSEQ_RECEIVE (R395). -/
def execPubseqReceive (t lseq cb st : Nat) (s : State) : Host.Outcome State Fault Refusal :=
  s.happen t (fun s => if decide (lseq < 256) && decide (cb < 32) && decide (st < 4294967296) then pubseqReceiveEff lseq cb st s else s)

/-- IMAGE_RECEIVE (R402). -/
def execImageReceive (t lseq dig : Nat) (s : State) : Host.Outcome State Fault Refusal :=
  s.happen t (fun s => if decide (lseq < 256) && decide (dig < 2 ^ 64) then imageReceiveEff lseq dig s else s)

/-- ACK_RECEIVE (R386). -/
def execAckReceive (t l lseq : Nat) (s : State) : Host.Outcome State Fault Refusal :=
  s.happen t (fun s => if decide (l < 2) && decide (lseq < 256) then ackReceiveEff l lseq s else s)

/-- NAK_RECEIVE (R386). -/
def execNakReceive (t l lseq : Nat) (s : State) : Host.Outcome State Fault Refusal :=
  s.happen t (fun s => if decide (l < 2) && decide (lseq < 256) then nakReceiveEff l lseq s else s)

/-- ACK_TIMEOUT (R386). -/
def execAckTimeout (t l lseq : Nat) (s : State) : Host.Outcome State Fault Refusal :=
  s.happen t (fun s => if decide (l < 2) && decide (lseq < 256) then ackTimeoutEff l lseq s else s)

/-- OZAUX_CRC_ERROR (R385). -/
def execOzauxCrcError (t l ty lseq : Nat) (s : State) : Host.Outcome State Fault Refusal :=
  s.happen t (fun s => if decide (l < 2) && decide (ty < 256) && decide (lseq < 256) then ozauxCrcErrorEff l ty lseq s else s)

end Sys2Proof.Machine
end

