-- ==== Sys2Proof/Machine/PodsCmds.lean ====
section
/-!
DEFINITION. The commands of the pods and their debug port (06): a meaning per row of the table, over the operations of Pods.lean. An operand outside the
range its unit has changes nothing but the clock.
-/
namespace Sys2Proof.Machine

/-- COMMIT_BOUNDARY (R214). -/
def execCommitBoundary (t p : Nat) (packets : List Packet) (ovr : List (Option Verdict)) (s : State) : Host.Outcome State Fault Refusal :=
  s.happen t (fun s => if decide (p < 3) then State.offerEdges s (State.podHook s (commitBoundaryEff p packets ovr s)) else s)

/-- SINK_REPORT (R217). -/
def execSinkReport (t p core : Nat) (s : State) : Host.Outcome State Fault Refusal :=
  s.happen t (fun s => if decide (p < 3) && decide (core < 3) then State.offerEdges s (State.podHook s (sinkReportEff p core s)) else s)

/-- RESYNC_COMPLETE (R219). -/
def execResyncComplete (t p cycles : Nat) (s : State) : Host.Outcome State Fault Refusal :=
  s.happen t (fun s => if decide (p < 3) then State.offerEdges s (resyncCompleteEff p cycles s) else s)

/-- CORE_MEMORY_READ (R211). -/
def execCoreMemoryRead (t p a bits : Nat) (s : State) : Host.Outcome State Fault Refusal :=
  s.happen t (fun s => if decide (p < 3) then State.offerEdges s (State.podHook s (coreMemoryReadEff p a bits s)) else s)

/-- SCRUB_SLOT (R212). -/
def execScrubSlot (t p bits : Nat) (s : State) : Host.Outcome State Fault Refusal :=
  s.happen t (fun s => if decide (p < 3) then State.offerEdges s (State.podHook s (scrubSlotEff p bits s)) else s)

/-- POD_SEL (R228). -/
def execPodSel (t sel : Nat) (s : State) : Host.Outcome State Fault Refusal :=
  s.happen t (fun s => if decide (sel < 4) then podSelEff sel s else s)

/-- NOP (R229). -/
def execDbgNop (t : Nat) (s : State) : Host.Outcome State Fault Refusal :=
  s.happen t nopEff

/-- HALT (R229). -/
def execDbgHalt (t : Nat) (s : State) : Host.Outcome State Fault Refusal :=
  s.happen t haltEff

/-- RESUME (R231). -/
def execDbgResume (t : Nat) (s : State) : Host.Outcome State Fault Refusal :=
  s.happen t resumeEff

/-- STEP (R230). -/
def execDbgStep (t : Nat) (s : State) : Host.Outcome State Fault Refusal :=
  s.happen t stepEff

/-- READ_REG (R229). -/
def execDbgReadReg (t a : Nat) (s : State) : Host.Outcome State Fault Refusal :=
  s.happen t (readRegEff a)

/-- WRITE_REG (R231). -/
def execDbgWriteReg (t a d : Nat) (s : State) : Host.Outcome State Fault Refusal :=
  s.happen t (writeRegEff a d)

/-- READ_MEM (R229). -/
def execDbgReadMem (t a : Nat) (s : State) : Host.Outcome State Fault Refusal :=
  s.happen t (readMemEff a)

/-- WRITE_MEM (R231). -/
def execDbgWriteMem (t a d : Nat) (s : State) : Host.Outcome State Fault Refusal :=
  s.happen t (writeMemEff a d)

/-- SET_BP (R231). -/
def execDbgSetBp (t i d : Nat) (s : State) : Host.Outcome State Fault Refusal :=
  s.happen t (fun s => if decide (i < 4) then setBpEff i d s else s)

/-- CLR_BP (R231). -/
def execDbgClrBp (t i : Nat) (s : State) : Host.Outcome State Fault Refusal :=
  s.happen t (fun s => if decide (i < 4) then clrBpEff i s else s)

/-- BREAKPOINT_HIT (R230). -/
def execBreakpointHit (t p i : Nat) (s : State) : Host.Outcome State Fault Refusal :=
  s.happen t (fun s => if decide (p < 3) && decide (i < 4) then breakpointHitEff p i s else s)

/-- RESYNC_WINDOW_AGEING (R224). -/
def execResyncWindowAgeing (t p core : Nat) (s : State) : Host.Outcome State Fault Refusal :=
  s.happen t (fun s => if decide (p < 3) && decide (core < 3) then resyncWindowAgeingEff p core s else s)

/-- DBG_UNDEFINED_OP (R229). -/
def execDbgUndefinedOp (t op : Nat) (s : State) : Host.Outcome State Fault Refusal :=
  s.happen t (dbgUndefinedOpEff op)

end Sys2Proof.Machine
end

