-- ==== Sys2Proof/Machine/ProtectionCmds.lean ====
section
/-!
DEFINITION. The commands of the protection elements (04): a meaning per row of the table, over the operations of Protection.lean. An operand outside the
range its unit has changes nothing but the clock.
-/
namespace Sys2Proof.Machine

/-- FAST_TICK (R171). -/
def execFastTick (t : Nat) (s : State) : Host.Outcome State Fault Refusal :=
  s.happen t (fun s => State.offerEdges s (startTickEff s))

/-- SLOW_LIST_START (R173). -/
def execSlowListStart (t p cycles : Nat) (ends : List Nat) (s : State) : Host.Outcome State Fault Refusal :=
  s.happen t (fun s => if decide (p < 2) then State.offerEdges s (slowListStartEff p cycles ends s) else s)

/-- SLOW_LIST_ABANDON (R176). -/
def execSlowListAbandon (t p : Nat) (s : State) : Host.Outcome State Fault Refusal :=
  s.happen t (fun s => if decide (p < 2) then State.offerEdges s (slowListAbandonEff p s) else s)

/-- DEFINITE_TIME_EXPIRY (R133). -/
def execDefiniteTimeExpiry (t i ph : Nat) (s : State) : Host.Outcome State Fault Refusal :=
  s.happen t (fun s => if decide (i < 512) && decide (ph < 3) then State.offerEdges s (definiteTimeExpiryEff i ph s) else s)

/-- INVERSE_TIME_OPERATE (R145). -/
def execInverseTimeOperate (t i ph : Nat) (s : State) : Host.Outcome State Fault Refusal :=
  s.happen t (fun s => if decide (i < 512) && decide (ph < 3) then State.offerEdges s (inverseTimeOperateEff i ph s) else s)

/-- RESET_TIME_EXPIRY (R134). -/
def execResetTimeExpiry (t i ph : Nat) (s : State) : Host.Outcome State Fault Refusal :=
  s.happen t (fun s => if decide (i < 512) && decide (ph < 3) then State.offerEdges s (resetTimeExpiryEff i ph s) else s)

/-- HOLD_LIMIT_EXPIRY (R139). -/
def execHoldLimitExpiry (t i ph : Nat) (s : State) : Host.Outcome State Fault Refusal :=
  s.happen t (fun s => if decide (i < 512) && decide (ph < 3) then State.offerEdges s (holdLimitExpiryEff i ph s) else s)

/-- VECTOR_SHIFT_PULSE_END (R152). -/
def execVectorShiftPulseEnd (t i : Nat) (s : State) : Host.Outcome State Fault Refusal :=
  s.happen t (fun s => if decide (i < 512) then State.offerEdges s (vectorShiftPulseEndEff i s) else s)

/-- BF_RETRIP_TIME (R153). -/
def execBfRetripTime (t i : Nat) (s : State) : Host.Outcome State Fault Refusal :=
  s.happen t (fun s => if decide (i < 512) then State.offerEdges s (bfRetripTimeEff i s) else s)

/-- BF_BACKTRIP_TIME (R153). -/
def execBfBacktripTime (t i : Nat) (s : State) : Host.Outcome State Fault Refusal :=
  s.happen t (fun s => if decide (i < 512) then State.offerEdges s (bfBacktripTimeEff i s) else s)

/-- COLD_LOAD_ENTRY (R155). -/
def execColdLoadEntry (t b : Nat) (s : State) : Host.Outcome State Fault Refusal :=
  s.happen t (fun s => if decide (b < 12) then State.offerEdges s (coldLoadEntryEff b s) else s)

/-- COLD_LOAD_END (R155). -/
def execColdLoadEnd (t b : Nat) (s : State) : Host.Outcome State Fault Refusal :=
  s.happen t (fun s => if decide (b < 12) then State.offerEdges s (coldLoadEndEff b s) else s)

/-- ZONE_NCON_REACHED (R156). -/
def execZoneNconReached (t z ph : Nat) (s : State) : Host.Outcome State Fault Refusal :=
  s.happen t (fun s => if decide (z < 2) && decide (ph < 3) then State.offerEdges s (zoneNconReachedEff z ph s) else s)

/-- ZONE_BLANK_END (R157). -/
def execZoneBlankEnd (t z : Nat) (s : State) : Host.Outcome State Fault Refusal :=
  s.happen t (fun s => if decide (z < 2) then State.offerEdges s (zoneBlankEndEff z s) else s)

/-- ZONE_ALARM_TIME (R158). -/
def execZoneAlarmTime (t z : Nat) (s : State) : Host.Outcome State Fault Refusal :=
  s.happen t (fun s => if decide (z < 2) then State.offerEdges s (zoneAlarmTimeEff z s) else s)

/-- SURGE_INCEPTION (R159). -/
def execSurgeInception (t b ph : Nat) (s : State) : Host.Outcome State Fault Refusal :=
  s.happen t (fun s => if decide (b < 12) && decide (ph < 3) then State.offerEdges s (surgeInceptionEff b ph s) else s)

/-- ISE_WINDOW_CLOSE (R162). -/
def execIseWindowClose (t b : Nat) (s : State) : Host.Outcome State Fault Refusal :=
  s.happen t (fun s => if decide (b < 12) then State.offerEdges s (iseWindowCloseEff b s) else s)

/-- ISE_WIN_EXPIRY (R163). -/
def execIseWinExpiry (t b : Nat) (s : State) : Host.Outcome State Fault Refusal :=
  s.happen t (fun s => if decide (b < 12) then State.offerEdges s (iseWinExpiryEff b s) else s)

/-- GROUP_CHANGE_EFFECT (R129). -/
def execGroupChangeEffect (t b : Nat) (s : State) : Host.Outcome State Fault Refusal :=
  s.happen t (fun s => if decide (b < 12) then State.offerEdges s (groupChangeEffectEff b s) else s)

/-- SETTING_WRITE_EFFECT (R130). -/
def execSettingWriteEffect (t i : Nat) (s : State) : Host.Outcome State Fault Refusal :=
  s.happen t (fun s => if decide (i < 512) then State.offerEdges s (settingWriteEffectEff i s) else s)

end Sys2Proof.Machine
end

