-- ==== Sys2Proof/Machine/RecorderCmds.lean ====
section
/-!
DEFINITION. The commands of the recorder (07): a meaning per row of the table, over the operations of Recorder.lean. An operand outside the
range its unit has changes nothing but the clock.
-/
namespace Sys2Proof.Machine

/-- TRIG_IN_EDGE (R261). -/
def execTrigInEdge (t i : Nat) (rising : Bool) (s : State) : Host.Outcome State Fault Refusal :=
  s.happen t (fun s => if decide (i < 2) then trigInEdgeEff i rising s else s)

/-- ROW_WRITE (R253). -/
def execRowWrite (t c st : Nat) (fifoFull : Bool) (s : State) : Host.Outcome State Fault Refusal :=
  s.happen t (fun s => if decide (c < 8) && decide (st < 5) then rowWriteEff c st fifoFull s else s)

/-- RECORD_INDEX_COMPLETE (R255). -/
def execRecordIndexComplete (t c : Nat) (s : State) : Host.Outcome State Fault Refusal :=
  s.happen t (fun s => if decide (c < 8) then recordIndexCompleteEff c s else s)

/-- TRIGGER_ARRIVAL (R259). -/
def execTriggerArrival (t n : Nat) (s : State) : Host.Outcome State Fault Refusal :=
  s.happen t (triggerArrivalEff n)

/-- TRIG_OUT_PULSE_END (R262). -/
def execTrigOutPulseEnd (t i : Nat) (s : State) : Host.Outcome State Fault Refusal :=
  s.happen t (fun s => if decide (i < 2) then trigOutPulseEndEff i s else s)

/-- MASK_VIOLATION (R263). -/
def execMaskViolation (t c k : Nat) (s : State) : Host.Outcome State Fault Refusal :=
  s.happen t (fun s => if decide (c < 8) && decide (k < 128) then maskViolationEff c k s else s)

/-- REC_CCTL_ARM (R260). -/
def execRecCctlArm (t : Nat) (r : Requester) (c : Nat) (s : State) : Host.Outcome State Fault Refusal :=
  s.happen t (fun s => if decide (c < 8) && s.trAlive (reqIdx r) then recCctlArmEff r c s else s)

/-- REC_CCTL_DISARM (R260). -/
def execRecCctlDisarm (t : Nat) (r : Requester) (c : Nat) (s : State) : Host.Outcome State Fault Refusal :=
  s.happen t (fun s => if decide (c < 8) && s.trAlive (reqIdx r) then recCctlDisarmEff r c s else s)

/-- REC_CCTL_APPLY (R252). -/
def execRecCctlApply (t : Nat) (r : Requester) (c : Nat) (s : State) : Host.Outcome State Fault Refusal :=
  s.happen t (fun s => if decide (c < 8) && s.trAlive (reqIdx r) then recCctlApplyEff r c s else s)

/-- REC_CCTL_TRIG (R261). -/
def execRecCctlTrig (t : Nat) (r : Requester) (c : Nat) (s : State) : Host.Outcome State Fault Refusal :=
  s.happen t (fun s => if decide (c < 8) && s.trAlive (reqIdx r) then recCctlTrigEff r c s else s)

/-- REC_WSEL_WRITE (R271). -/
def execRecWselWrite (t : Nat) (r : Requester) (v : Nat) (s : State) : Host.Outcome State Fault Refusal :=
  s.happen t (fun s => if s.trAlive (reqIdx r) then recWselWriteEff r v s else s)

/-- REC_REL_WRITE (R271). -/
def execRecRelWrite (t : Nat) (r : Requester) (v : Nat) (s : State) : Host.Outcome State Fault Refusal :=
  s.happen t (fun s => if s.trAlive (reqIdx r) then recRelWriteEff r v s else s)

/-- RECORD_WINDOW_READ (R271). -/
def execRecordWindowRead (t : Nat) (r : Requester) (o : Nat) (s : State) : Host.Outcome State Fault Refusal :=
  s.happen t (fun s => if decide (o < 0x600000) && s.trAlive (reqIdx r) then recordWindowReadEff r o s else s)

/-- RECORD_WINDOW_WRITE (R271). -/
def execRecordWindowWrite (t : Nat) (r : Requester) (o : Nat) (s : State) : Host.Outcome State Fault Refusal :=
  s.happen t (fun s => if decide (o < 0x600000) && s.trAlive (reqIdx r) then recordWindowWriteEff r o s else s)

end Sys2Proof.Machine
end

