-- ==== Sys2Proof/Machine/StartCmds.lean ====
section
/-!
DEFINITION. The commands of start-up, modes and restarts (13): a meaning per row of the table, over the operations of Start.lean. An operand outside the
range its unit has changes nothing but the clock.
-/
namespace Sys2Proof.Machine

/-- SUPPLY_OUT_OF_RANGE (R495). -/
def execSupplyOutOfRange (t : Nat) (s : State) : Host.Outcome State Fault Refusal :=
  s.happen t supplyOutOfRangeEff

/-- POWER_ON_RESET_RELEASE (R405). -/
def execPowerOnResetRelease (t : Nat) (straps : Straps) (hdrs : List ImgHdr) (octal trngOk : Bool) (s : State) : Host.Outcome State Fault Refusal :=
  s.happen t (powerOnResetReleaseEff straps hdrs octal trngOk)

/-- BOOT_HOLD_FALL (R407). -/
def execBootHoldFall (t : Nat) (hdrs : List ImgHdr) (s : State) : Host.Outcome State Fault Refusal :=
  s.happen t (bootHoldFallEff hdrs)

/-- IMAGE_HASH_DONE (R405). -/
def execImageHashDone (t : Nat) (sigOk : Bool) (s : State) : Host.Outcome State Fault Refusal :=
  s.happen t (imageHashDoneEff sigOk)

/-- LPDDR4X_TRAINING_DONE (R405). -/
def execLpddr4xTrainingDone (t : Nat) (ok : Bool) (s : State) : Host.Outcome State Fault Refusal :=
  s.happen t (lpddr4xTrainingDoneEff ok)

/-- SECTIONS_LOADED (R413). -/
def execSectionsLoaded (t : Nat) (img : Image) (badHash : List Nat) (s : State) : Host.Outcome State Fault Refusal :=
  s.happen t (sectionsLoadedEff img badHash)

/-- IMAGE_VALIDATION (R414). -/
def execImageValidation (t : Nat) (s : State) : Host.Outcome State Fault Refusal :=
  s.happen t imageValidationEff

/-- STARTUP_CALIBRATION_DONE (R38). -/
def execStartupCalibrationDone (t : Nat) (cals : List (List SliceCal)) (s : State) : Host.Outcome State Fault Refusal :=
  s.happen t (startupCalibrationDoneEff cals)

/-- MODE_CHANGE_EFFECT (R18). -/
def execModeChangeEffect (t : Nat) (s : State) : Host.Outcome State Fault Refusal :=
  s.happen t modeChangeEffectEff

/-- REFERENCE_LOSS (R10). -/
def execReferenceLoss (t : Nat) (s : State) : Host.Outcome State Fault Refusal :=
  s.happen t referenceLossEff

/-- REFERENCE_RETURN_RESTART (R422). -/
def execReferenceReturnRestart (t : Nat) (s : State) : Host.Outcome State Fault Refusal :=
  s.happen t referenceReturnRestartEff

/-- POLICY_RESTART (R423). -/
def execPolicyRestart (t : Nat) (s : State) : Host.Outcome State Fault Refusal :=
  s.happen t policyRestartEff

/-- RESTART_TAKE (R420). -/
def execRestartTake (t : Nat) (hdrs : List ImgHdr) (octal trngOk holdLvl : Bool) (s : State) : Host.Outcome State Fault Refusal :=
  s.happen t (restartTakeEff hdrs octal trngOk holdLvl)

/-- UPTIME_UPDATE (R409). -/
def execUptimeUpdate (t : Nat) (s : State) : Host.Outcome State Fault Refusal :=
  s.happen t uptimeUpdateEff

end Sys2Proof.Machine
end

