-- ==== Sys2Proof/Machine/TimingCmds.lean ====
section
/-!
DEFINITION. The commands of the time bases (10): a meaning per row of the table, over the operations of Timing.lean. An operand outside the
range its unit has changes nothing but the clock.
-/
namespace Sys2Proof.Machine

/-- SYNC_RECEIVE (R351). -/
def execSyncReceive (t p : Nat) (m : SyncMsg) (s : State) : Host.Outcome State Fault Refusal :=
  s.happen t (fun s => if decide (p < 3) then syncReceiveEff p m s else s)

/-- FOLLOW_UP_RECEIVE (R351). -/
def execFollowUpReceive (t p : Nat) (m : SyncMsg) (s : State) : Host.Outcome State Fault Refusal :=
  s.happen t (fun s => if decide (p < 3) then followUpReceiveEff p m s else s)

/-- ANNOUNCE_RECEIVE (R351). -/
def execAnnounceReceive (t p : Nat) (m : AnnounceMsg) (s : State) : Host.Outcome State Fault Refusal :=
  s.happen t (fun s => if decide (p < 3) then announceReceiveEff p m s else s)

/-- IRIGB_FRAME (R355). -/
def execIrigbFrame (t mark : Nat) (f : IrigFrame) (s : State) : Host.Outcome State Fault Refusal :=
  s.happen t (irigbFrameEff mark f)

/-- PPS_IN_EDGE (R356). -/
def execPpsInEdge (t : Nat) (s : State) : Host.Outcome State Fault Refusal :=
  s.happen t ppsInEdgeEff

/-- SYNC_LOSS (R340). -/
def execSyncLoss (t b : Nat) (s : State) : Host.Outcome State Fault Refusal :=
  s.happen t (fun s => if decide (b < 4) then syncLossEff b s else s)

/-- ANNOUNCE_RECEIPT_TIMEOUT (R340). -/
def execAnnounceReceiptTimeout (t b : Nat) (s : State) : Host.Outcome State Fault Refusal :=
  s.happen t (fun s => if decide (b < 4) then announceReceiptTimeoutEff b s else s)

/-- IRIGB_LOSS (R340). -/
def execIrigbLoss (t : Nat) (s : State) : Host.Outcome State Fault Refusal :=
  s.happen t irigbLossEff

/-- PPS_LOSS (R340). -/
def execPpsLoss (t : Nat) (s : State) : Host.Outcome State Fault Refusal :=
  s.happen t ppsLossEff

/-- STEP_APPLY (R342). -/
def execStepApply (t b : Nat) (s : State) : Host.Outcome State Fault Refusal :=
  s.happen t (fun s => if decide (b < 4) then stepApplyEff b s else s)

/-- COMPAT_SWITCH (R348). -/
def execCompatSwitch (t : Nat) (s : State) : Host.Outcome State Fault Refusal :=
  s.happen t compatSwitchEff

/-- PPS_OUT_RISE (R357). -/
def execPpsOutRise (t : Nat) (s : State) : Host.Outcome State Fault Refusal :=
  s.happen t ppsOutRiseEff

/-- PPS_OUT_FALL (R357). -/
def execPpsOutFall (t : Nat) (s : State) : Host.Outcome State Fault Refusal :=
  s.happen t ppsOutFallEff

/-- GM_TRANSMIT (R352). -/
def execGmTransmit (t b : Nat) (s : State) : Host.Outcome State Fault Refusal :=
  s.happen t (fun s => if decide (b < 4) then gmTransmitEff b s else s)

/-- TQC_DEGRADE (R338). -/
def execTqcDegrade (t b : Nat) (s : State) : Host.Outcome State Fault Refusal :=
  s.happen t (fun s => if decide (b < 4) then tqcDegradeEff b s else s)

end Sys2Proof.Machine
end

