-- ==== Sys2Proof/Machine/TripCmds.lean ====
section
/-!
DEFINITION. The commands of the trip path and the binary inputs (05): a meaning per row of the table, over the operations of Trip.lean. An operand outside the
range its unit has changes nothing but the clock.
-/
namespace Sys2Proof.Machine

/-- WORD_RELEASE (R171). -/
def execWordRelease (t : Nat) (flips : List (Nat × Nat × Nat × Nat)) (third : List Nat) (s : State) : Host.Outcome State Fault Refusal :=
  s.happen t (fun s => State.offerEdges s (crossedReleaseEff flips third s))

/-- TRIP_COMMIT (R182). -/
def execTripCommit (t : Nat) (miss0 miss1 : Bool) (s : State) : Host.Outcome State Fault Refusal :=
  s.happen t (fun s => State.offerEdges s (tripCommitEff miss0 miss1 s))

/-- COMMIT_MISSING_LIMIT (R185). -/
def execCommitMissingLimit (t p : Nat) (s : State) : Host.Outcome State Fault Refusal :=
  s.happen t (fun s => if decide (p < 2) then State.offerEdges s (commitMissingLimitEff p s) else s)

/-- MINON_EXPIRY (R183). -/
def execMinonExpiry (t n : Nat) (s : State) : Host.Outcome State Fault Refusal :=
  s.happen t (fun s => if decide (n < 32) then State.offerEdges s (minonExpiryEff n s) else s)

/-- DRIVE_HALF_PERIOD (R186). -/
def execDriveHalfPeriod (t : Nat) (s : State) : Host.Outcome State Fault Refusal :=
  s.happen t (fun s => State.offerEdges s (driveHalfPeriodEff s))

/-- READBACK_MISMATCH (R188). -/
def execReadbackMismatch (t n : Nat) (fire : Bool) (s : State) : Host.Outcome State Fault Refusal :=
  s.happen t (fun s => if decide (n < 32) then State.offerEdges s (readbackMismatchEff n fire s) else s)

/-- WDOG_HALF_PERIOD (R189). -/
def execWdogHalfPeriod (t : Nat) (s : State) : Host.Outcome State Fault Refusal :=
  s.happen t (fun s => State.offerEdges s (wdogHalfPeriodEff s))

/-- BINARY_INPUT_EDGE (R192). -/
def execBinaryInputEdge (t i : Nat) (level : Bool) (s : State) : Host.Outcome State Fault Refusal :=
  s.happen t (fun s => if decide (i < 64) then State.offerEdges s (binaryInputEdgeEff i level s) else s)

/-- DEBOUNCED_CHANGE (R192). -/
def execDebouncedChange (t i : Nat) (s : State) : Host.Outcome State Fault Refusal :=
  s.happen t (fun s => if decide (i < 64) then State.offerEdges s (debouncedChangeEff i s) else s)

end Sys2Proof.Machine
end

