-- ==== Sys2Proof/Machine/Dispatch.lean ====
section
/-!
DEFINITION. What a command does: its meaning, by constructor.
-/
namespace Sys2Proof.Machine

def exec (i : Instr) (s : State) : Host.Outcome State Fault Refusal :=
  match i with
  | .supplyOutOfRange t => Sys2Proof.Machine.execSupplyOutOfRange t s
  | .powerOnResetRelease t straps hdrs octal trngOk => Sys2Proof.Machine.execPowerOnResetRelease t straps hdrs octal trngOk s
  | .bootHoldFall t hdrs => Sys2Proof.Machine.execBootHoldFall t hdrs s
  | .imageHashDone t sigOk => Sys2Proof.Machine.execImageHashDone t sigOk s
  | .lpddr4xTrainingDone t ok => Sys2Proof.Machine.execLpddr4xTrainingDone t ok s
  | .sectionsLoaded t img badHash => Sys2Proof.Machine.execSectionsLoaded t img badHash s
  | .imageValidation t => Sys2Proof.Machine.execImageValidation t s
  | .startupCalibrationDone t cals => Sys2Proof.Machine.execStartupCalibrationDone t cals s
  | .modeChangeEffect t => Sys2Proof.Machine.execModeChangeEffect t s
  | .referenceLoss t => Sys2Proof.Machine.execReferenceLoss t s
  | .referenceReturnRestart t => Sys2Proof.Machine.execReferenceReturnRestart t s
  | .policyRestart t => Sys2Proof.Machine.execPolicyRestart t s
  | .restartTake t hdrs octal trngOk holdLvl => Sys2Proof.Machine.execRestartTake t hdrs octal trngOk holdLvl s
  | .supplyWarnExcursion t rail mv => Sys2Proof.Machine.execSupplyWarnExcursion t rail mv s
  | .supplyExcursionEnd t n v => Sys2Proof.Machine.execSupplyExcursionEnd t n v s
  | .temperatureExcursion t dC => Sys2Proof.Machine.execTemperatureExcursion t dC s
  | .monitorRefresh t mvs tj locks => Sys2Proof.Machine.execMonitorRefresh t mvs tj locks s
  | .trngTestFail t test => Sys2Proof.Machine.execTrngTestFail t test s
  | .fusedSample t raw refA refB third => Sys2Proof.Machine.execFusedSample t raw refA refB third s
  | .arbitrationOpen t g => Sys2Proof.Machine.execArbitrationOpen t g s
  | .arbitrationDecision t g => Sys2Proof.Machine.execArbitrationDecision t g s
  | .rotationStepStart t g => Sys2Proof.Machine.execRotationStepStart t g s
  | .shadowEnd t g => Sys2Proof.Machine.execShadowEnd t g s
  | .sliceCalibrationDone t g cal => Sys2Proof.Machine.execSliceCalibrationDone t g cal s
  | .cnvRefreqWrite t r g v => Sys2Proof.Machine.execCnvRefreqWrite t r g v s
  | .refSettledRise t g => Sys2Proof.Machine.execRefSettledRise t g s
  | .refWindowFault t g => Sys2Proof.Machine.execRefWindowFault t g s
  | .refSettlingFault t g => Sys2Proof.Machine.execRefSettlingFault t g s
  | .auxStart t r => Sys2Proof.Machine.execAuxStart t r s
  | .auxStop t r => Sys2Proof.Machine.execAuxStop t r s
  | .auxClrCnt t r => Sys2Proof.Machine.execAuxClrCnt t r s
  | .auxFlush t r => Sys2Proof.Machine.execAuxFlush t r s
  | .auxEntryDone t codes => Sys2Proof.Machine.execAuxEntryDone t codes s
  | .auxPeriodStart t => Sys2Proof.Machine.execAuxPeriodStart t s
  | .auxSnapGo t r => Sys2Proof.Machine.execAuxSnapGo t r s
  | .auxSnapCapture t => Sys2Proof.Machine.execAuxSnapCapture t s
  | .auxQdataRead t r => Sys2Proof.Machine.execAuxQdataRead t r s
  | .stage1Output t c up => Sys2Proof.Machine.execStage1Output t c up s
  | .stage2Output t c up => Sys2Proof.Machine.execStage2Output t c up s
  | .recomputeDone t g st c r1 r2 => Sys2Proof.Machine.execRecomputeDone t g st c r1 r2 s
  | .trackedSample t c up => Sys2Proof.Machine.execTrackedSample t c up s
  | .fixedRateSample t c up => Sys2Proof.Machine.execFixedRateSample t c up s
  | .phasorSwap t => Sys2Proof.Machine.execPhasorSwap t s
  | .fltStop t r g => Sys2Proof.Machine.execFltStop t r g s
  | .fltStart t r g => Sys2Proof.Machine.execFltStart t r g s
  | .chainStopTaken t g => Sys2Proof.Machine.execChainStopTaken t g s
  | .syncReset t g => Sys2Proof.Machine.execSyncReset t g s
  | .fltBankWrite t r g v => Sys2Proof.Machine.execFltBankWrite t r g v s
  | .fltCdataWrite t r v => Sys2Proof.Machine.execFltCdataWrite t r v s
  | .fltCcmtCommit t r => Sys2Proof.Machine.execFltCcmtCommit t r s
  | .fltTrimWrite t r c v => Sys2Proof.Machine.execFltTrimWrite t r c v s
  | .fltPhselWrite t r v => Sys2Proof.Machine.execFltPhselWrite t r v s
  | .fastTick t => Sys2Proof.Machine.execFastTick t s
  | .wordRelease t flips third => Sys2Proof.Machine.execWordRelease t flips third s
  | .tripCommit t miss0 miss1 => Sys2Proof.Machine.execTripCommit t miss0 miss1 s
  | .commitMissingLimit t p => Sys2Proof.Machine.execCommitMissingLimit t p s
  | .minonExpiry t n => Sys2Proof.Machine.execMinonExpiry t n s
  | .driveHalfPeriod t => Sys2Proof.Machine.execDriveHalfPeriod t s
  | .readbackMismatch t n fire => Sys2Proof.Machine.execReadbackMismatch t n fire s
  | .wdogHalfPeriod t => Sys2Proof.Machine.execWdogHalfPeriod t s
  | .slowListStart t p cycles ends => Sys2Proof.Machine.execSlowListStart t p cycles ends s
  | .slowListAbandon t p => Sys2Proof.Machine.execSlowListAbandon t p s
  | .definiteTimeExpiry t n ph => Sys2Proof.Machine.execDefiniteTimeExpiry t n ph s
  | .inverseTimeOperate t n ph => Sys2Proof.Machine.execInverseTimeOperate t n ph s
  | .resetTimeExpiry t n ph => Sys2Proof.Machine.execResetTimeExpiry t n ph s
  | .holdLimitExpiry t n ph => Sys2Proof.Machine.execHoldLimitExpiry t n ph s
  | .vectorShiftPulseEnd t n => Sys2Proof.Machine.execVectorShiftPulseEnd t n s
  | .bfRetripTime t n => Sys2Proof.Machine.execBfRetripTime t n s
  | .bfBacktripTime t n => Sys2Proof.Machine.execBfBacktripTime t n s
  | .coldLoadEntry t b => Sys2Proof.Machine.execColdLoadEntry t b s
  | .coldLoadEnd t b => Sys2Proof.Machine.execColdLoadEnd t b s
  | .zoneNconReached t z ph => Sys2Proof.Machine.execZoneNconReached t z ph s
  | .zoneBlankEnd t z => Sys2Proof.Machine.execZoneBlankEnd t z s
  | .zoneAlarmTime t z => Sys2Proof.Machine.execZoneAlarmTime t z s
  | .surgeInception t b ph => Sys2Proof.Machine.execSurgeInception t b ph s
  | .iseWindowClose t b => Sys2Proof.Machine.execIseWindowClose t b s
  | .iseWinExpiry t b => Sys2Proof.Machine.execIseWinExpiry t b s
  | .groupChangeEffect t b => Sys2Proof.Machine.execGroupChangeEffect t b s
  | .settingWriteEffect t n => Sys2Proof.Machine.execSettingWriteEffect t n s
  | .binaryInputEdge t n level => Sys2Proof.Machine.execBinaryInputEdge t n level s
  | .debouncedChange t n => Sys2Proof.Machine.execDebouncedChange t n s
  | .trigInEdge t n rising => Sys2Proof.Machine.execTrigInEdge t n rising s
  | .commitBoundary t p packets ovr => Sys2Proof.Machine.execCommitBoundary t p packets ovr s
  | .sinkReport t p core => Sys2Proof.Machine.execSinkReport t p core s
  | .resyncComplete t p cycles => Sys2Proof.Machine.execResyncComplete t p cycles s
  | .coreMemoryRead t p a bits => Sys2Proof.Machine.execCoreMemoryRead t p a bits s
  | .scrubSlot t p bits => Sys2Proof.Machine.execScrubSlot t p bits s
  | .podSel t sel => Sys2Proof.Machine.execPodSel t sel s
  | .dbgNop t => Sys2Proof.Machine.execDbgNop t s
  | .dbgHalt t => Sys2Proof.Machine.execDbgHalt t s
  | .dbgResume t => Sys2Proof.Machine.execDbgResume t s
  | .dbgStep t => Sys2Proof.Machine.execDbgStep t s
  | .dbgReadReg t a => Sys2Proof.Machine.execDbgReadReg t a s
  | .dbgWriteReg t a d => Sys2Proof.Machine.execDbgWriteReg t a d s
  | .dbgReadMem t a => Sys2Proof.Machine.execDbgReadMem t a s
  | .dbgWriteMem t a d => Sys2Proof.Machine.execDbgWriteMem t a d s
  | .dbgSetBp t n d => Sys2Proof.Machine.execDbgSetBp t n d s
  | .dbgClrBp t n => Sys2Proof.Machine.execDbgClrBp t n s
  | .breakpointHit t p n => Sys2Proof.Machine.execBreakpointHit t p n s
  | .tapExtest t => Sys2Proof.Machine.execTapExtest t s
  | .tapIdcode t => Sys2Proof.Machine.execTapIdcode t s
  | .tapSamplePreload t => Sys2Proof.Machine.execTapSamplePreload t s
  | .tapHighz t => Sys2Proof.Machine.execTapHighz t s
  | .tapClamp t => Sys2Proof.Machine.execTapClamp t s
  | .tapBypass t => Sys2Proof.Machine.execTapBypass t s
  | .periodStart t k => Sys2Proof.Machine.execPeriodStart t k s
  | .freeRunScanStart t k => Sys2Proof.Machine.execFreeRunScanStart t k s
  | .logicOutputWrite t k => Sys2Proof.Machine.execLogicOutputWrite t k s
  | .joinComplete t cycles => Sys2Proof.Machine.execJoinComplete t cycles s
  | .exchangeLoaded t res => Sys2Proof.Machine.execExchangeLoaded t res s
  | .retainCommitDone t => Sys2Proof.Machine.execRetainCommitDone t s
  | .holdEntry t k => Sys2Proof.Machine.execHoldEntry t k s
  | .initWaitExpiry t k => Sys2Proof.Machine.execInitWaitExpiry t k s
  | .blkEnd t k => Sys2Proof.Machine.execBlkEnd t k s
  | .blkAnd t k => Sys2Proof.Machine.execBlkAnd t k s
  | .blkOr t k => Sys2Proof.Machine.execBlkOr t k s
  | .blkXor t k => Sys2Proof.Machine.execBlkXor t k s
  | .blkNot t k => Sys2Proof.Machine.execBlkNot t k s
  | .blkSr t k => Sys2Proof.Machine.execBlkSr t k s
  | .blkRs t k => Sys2Proof.Machine.execBlkRs t k s
  | .blkMaj3 t k => Sys2Proof.Machine.execBlkMaj3 t k s
  | .blkKofn t k => Sys2Proof.Machine.execBlkKofn t k s
  | .blkRTrig t k => Sys2Proof.Machine.execBlkRTrig t k s
  | .blkFTrig t k => Sys2Proof.Machine.execBlkFTrig t k s
  | .blkTon t k => Sys2Proof.Machine.execBlkTon t k s
  | .blkTof t k => Sys2Proof.Machine.execBlkTof t k s
  | .blkTp t k => Sys2Proof.Machine.execBlkTp t k s
  | .blkCtu t k => Sys2Proof.Machine.execBlkCtu t k s
  | .blkCtd t k => Sys2Proof.Machine.execBlkCtd t k s
  | .blkCtud t k => Sys2Proof.Machine.execBlkCtud t k s
  | .blkEq t k => Sys2Proof.Machine.execBlkEq t k s
  | .blkNe t k => Sys2Proof.Machine.execBlkNe t k s
  | .blkGt t k => Sys2Proof.Machine.execBlkGt t k s
  | .blkGe t k => Sys2Proof.Machine.execBlkGe t k s
  | .blkLt t k => Sys2Proof.Machine.execBlkLt t k s
  | .blkLe t k => Sys2Proof.Machine.execBlkLe t k s
  | .blkHyst t k => Sys2Proof.Machine.execBlkHyst t k s
  | .blkAdd t k => Sys2Proof.Machine.execBlkAdd t k s
  | .blkSub t k => Sys2Proof.Machine.execBlkSub t k s
  | .blkMul t k => Sys2Proof.Machine.execBlkMul t k s
  | .blkDiv t k => Sys2Proof.Machine.execBlkDiv t k s
  | .blkMod t k => Sys2Proof.Machine.execBlkMod t k s
  | .blkAbs t k => Sys2Proof.Machine.execBlkAbs t k s
  | .blkNeg t k => Sys2Proof.Machine.execBlkNeg t k s
  | .blkSqrt t k => Sys2Proof.Machine.execBlkSqrt t k s
  | .blkMin t k => Sys2Proof.Machine.execBlkMin t k s
  | .blkMax t k => Sys2Proof.Machine.execBlkMax t k s
  | .blkSel t k => Sys2Proof.Machine.execBlkSel t k s
  | .blkMux t k => Sys2Proof.Machine.execBlkMux t k s
  | .blkLimit t k => Sys2Proof.Machine.execBlkLimit t k s
  | .blkMove t k => Sys2Proof.Machine.execBlkMove t k s
  | .blkPack t k => Sys2Proof.Machine.execBlkPack t k s
  | .blkUnpack t k => Sys2Proof.Machine.execBlkUnpack t k s
  | .blkBand t k => Sys2Proof.Machine.execBlkBand t k s
  | .blkBor t k => Sys2Proof.Machine.execBlkBor t k s
  | .blkBxor t k => Sys2Proof.Machine.execBlkBxor t k s
  | .blkShl t k => Sys2Proof.Machine.execBlkShl t k s
  | .blkShr t k => Sys2Proof.Machine.execBlkShr t k s
  | .blkI2r t k => Sys2Proof.Machine.execBlkI2r t k s
  | .blkR2i t k => Sys2Proof.Machine.execBlkR2i t k s
  | .blkB2i t k => Sys2Proof.Machine.execBlkB2i t k s
  | .blkI2b t k => Sys2Proof.Machine.execBlkI2b t k s
  | .blkT2i t k => Sys2Proof.Machine.execBlkT2i t k s
  | .blkI2t t k => Sys2Proof.Machine.execBlkI2t t k s
  | .blkT2r t k => Sys2Proof.Machine.execBlkT2r t k s
  | .blkR2t t k => Sys2Proof.Machine.execBlkR2t t k s
  | .blkNow t k => Sys2Proof.Machine.execBlkNow t k s
  | .blkLag t k => Sys2Proof.Machine.execBlkLag t k s
  | .blkDelta t k => Sys2Proof.Machine.execBlkDelta t k s
  | .blkQgood t k => Sys2Proof.Machine.execBlkQgood t k s
  | .blkSubstate t k => Sys2Proof.Machine.execBlkSubstate t k s
  | .blkPodstate t k => Sys2Proof.Machine.execBlkPodstate t k s
  | .blkDevstate t k => Sys2Proof.Machine.execBlkDevstate t k s
  | .blkElem t k => Sys2Proof.Machine.execBlkElem t k s
  | .blkZone t k => Sys2Proof.Machine.execBlkZone t k s
  | .blkSgsel t k => Sys2Proof.Machine.execBlkSgsel t k s
  | .blkBkr t k => Sys2Proof.Machine.execBlkBkr t k s
  | .bkrPulseEnd t brk => Sys2Proof.Machine.execBkrPulseEnd t brk s
  | .bkrSupervisionTimeout t brk => Sys2Proof.Machine.execBkrSupervisionTimeout t brk s
  | .bkrSelectExpiry t brk => Sys2Proof.Machine.execBkrSelectExpiry t brk s
  | .blkAr t k => Sys2Proof.Machine.execBlkAr t k s
  | .blkIlk t k => Sys2Proof.Machine.execBlkIlk t k s
  | .blkRectrg t k => Sys2Proof.Machine.execBlkRectrg t k s
  | .blkGsetB t k => Sys2Proof.Machine.execBlkGsetB t k s
  | .blkGsetI t k => Sys2Proof.Machine.execBlkGsetI t k s
  | .blkGsetR t k => Sys2Proof.Machine.execBlkGsetR t k s
  | .blkAlarm t k => Sys2Proof.Machine.execBlkAlarm t k s
  | .blkDps t k => Sys2Proof.Machine.execBlkDps t k s
  | .blkLockout t k => Sys2Proof.Machine.execBlkLockout t k s
  | .rowWrite t c st fifoFull => Sys2Proof.Machine.execRowWrite t c st fifoFull s
  | .recordIndexComplete t c => Sys2Proof.Machine.execRecordIndexComplete t c s
  | .triggerArrival t n => Sys2Proof.Machine.execTriggerArrival t n s
  | .trigOutPulseEnd t n => Sys2Proof.Machine.execTrigOutPulseEnd t n s
  | .maskViolation t c k => Sys2Proof.Machine.execMaskViolation t c k s
  | .recCctlArm t r c => Sys2Proof.Machine.execRecCctlArm t r c s
  | .recCctlDisarm t r c => Sys2Proof.Machine.execRecCctlDisarm t r c s
  | .recCctlApply t r c => Sys2Proof.Machine.execRecCctlApply t r c s
  | .recCctlTrig t r c => Sys2Proof.Machine.execRecCctlTrig t r c s
  | .recWselWrite t r v => Sys2Proof.Machine.execRecWselWrite t r v s
  | .recRelWrite t r v => Sys2Proof.Machine.execRecRelWrite t r v s
  | .recordWindowRead t r o => Sys2Proof.Machine.execRecordWindowRead t r o s
  | .recordWindowWrite t r o => Sys2Proof.Machine.execRecordWindowWrite t r o s
  | .syncReceive t p m => Sys2Proof.Machine.execSyncReceive t p m s
  | .followUpReceive t p m => Sys2Proof.Machine.execFollowUpReceive t p m s
  | .announceReceive t p m => Sys2Proof.Machine.execAnnounceReceive t p m s
  | .pdelayReqReceive t p seq turn => Sys2Proof.Machine.execPdelayReqReceive t p seq turn s
  | .pdelayRespReceive t p seq corr => Sys2Proof.Machine.execPdelayRespReceive t p seq corr s
  | .pdelayMeasure t p => Sys2Proof.Machine.execPdelayMeasure t p s
  | .irigbFrame t mark f => Sys2Proof.Machine.execIrigbFrame t mark f s
  | .ppsInEdge t => Sys2Proof.Machine.execPpsInEdge t s
  | .syncLoss t b => Sys2Proof.Machine.execSyncLoss t b s
  | .announceReceiptTimeout t b => Sys2Proof.Machine.execAnnounceReceiptTimeout t b s
  | .irigbLoss t => Sys2Proof.Machine.execIrigbLoss t s
  | .ppsLoss t => Sys2Proof.Machine.execPpsLoss t s
  | .partnerTimeLoss t => Sys2Proof.Machine.execPartnerTimeLoss t s
  | .stepApply t b => Sys2Proof.Machine.execStepApply t b s
  | .compatSwitch t => Sys2Proof.Machine.execCompatSwitch t s
  | .ppsOutRise t => Sys2Proof.Machine.execPpsOutRise t s
  | .ppsOutFall t => Sys2Proof.Machine.execPpsOutFall t s
  | .gmTransmit t b => Sys2Proof.Machine.execGmTransmit t b s
  | .frameReceive t p f res full => Sys2Proof.Machine.execFrameReceive t p f res full s
  | .ddtEntryExpiry t => Sys2Proof.Machine.execDdtEntryExpiry t s
  | .addressAgeing t => Sys2Proof.Machine.execAddressAgeing t s
  | .supervisionTx t => Sys2Proof.Machine.execSupervisionTx t s
  | .redundancyFaultDetect t => Sys2Proof.Machine.execRedundancyFaultDetect t s
  | .portLinkChange t p up slow an => Sys2Proof.Machine.execPortLinkChange t p up slow an s
  | .c22Read t r v => Sys2Proof.Machine.execC22Read t r v s
  | .c22Write t r v => Sys2Proof.Machine.execC22Write t r v s
  | .c45Address t r v => Sys2Proof.Machine.execC45Address t r v s
  | .c45Read t r v => Sys2Proof.Machine.execC45Read t r v s
  | .c45Write t r v => Sys2Proof.Machine.execC45Write t r v s
  | .mdioFrameDone t data => Sys2Proof.Machine.execMdioFrameDone t data s
  | .gooseStateChange t n => Sys2Proof.Machine.execGooseStateChange t n s
  | .gooseRetransmit t n => Sys2Proof.Machine.execGooseRetransmit t n s
  | .gooseReceive t p f => Sys2Proof.Machine.execGooseReceive t p f s
  | .gooseLiveTimeout t j => Sys2Proof.Machine.execGooseLiveTimeout t j s
  | .svReceive t p f => Sys2Proof.Machine.execSvReceive t p f s
  | .svStreamTimeout t st => Sys2Proof.Machine.execSvStreamTimeout t st s
  | .ozLinkDown t l clk => Sys2Proof.Machine.execOzLinkDown t l clk s
  | .ozClockDetect t l => Sys2Proof.Machine.execOzClockDetect t l s
  | .ozLinkUp t l => Sys2Proof.Machine.execOzLinkUp t l s
  | .delayExchange t l => Sys2Proof.Machine.execDelayExchange t l s
  | .dlyReqReceive t l word => Sys2Proof.Machine.execDlyReqReceive t l word s
  | .dlyRespReceive t l turn => Sys2Proof.Machine.execDlyRespReceive t l turn s
  | .ozTrigReceive t l lseq id hops orig age ns sec top => Sys2Proof.Machine.execOzTrigReceive t l lseq id hops orig age ns sec top s
  | .ozTrigDelivery t => Sys2Proof.Machine.execOzTrigDelivery t s
  | .heartbeatSend t => Sys2Proof.Machine.execHeartbeatSend t s
  | .heartbeatReceive t lseq podOk test holds => Sys2Proof.Machine.execHeartbeatReceive t lseq podOk test holds s
  | .partnerOkTimeout t => Sys2Proof.Machine.execPartnerOkTimeout t s
  | .pairWaitExpiry t => Sys2Proof.Machine.execPairWaitExpiry t s
  | .stateReceive t digest tau => Sys2Proof.Machine.execStateReceive t digest tau s
  | .timeReceive t l ns sec qual => Sys2Proof.Machine.execTimeReceive t l ns sec qual s
  | .pubseqReceive t lseq cb st => Sys2Proof.Machine.execPubseqReceive t lseq cb st s
  | .imageReceive t lseq dig => Sys2Proof.Machine.execImageReceive t lseq dig s
  | .ackReceive t l lseq => Sys2Proof.Machine.execAckReceive t l lseq s
  | .nakReceive t l lseq => Sys2Proof.Machine.execNakReceive t l lseq s
  | .ackTimeout t l lseq => Sys2Proof.Machine.execAckTimeout t l lseq s
  | .doorbell t r => Sys2Proof.Machine.execDoorbell t r s
  | .cmdFragment t p dst src bytes => Sys2Proof.Machine.execCmdFragment t p dst src bytes s
  | .fragmentTimeout t => Sys2Proof.Machine.execFragmentTimeout t s
  | .rateLimitEnd t tr => Sys2Proof.Machine.execRateLimitEnd t tr s
  | .cmdStatus t => Sys2Proof.Machine.execCmdStatus t s
  | .cmdRegRead t => Sys2Proof.Machine.execCmdRegRead t s
  | .cmdRegWrite t => Sys2Proof.Machine.execCmdRegWrite t s
  | .cmdRestart t => Sys2Proof.Machine.execCmdRestart t s
  | .cmdSafe t => Sys2Proof.Machine.execCmdSafe t s
  | .cmdResultRead t => Sys2Proof.Machine.execCmdResultRead t s
  | .cmdModeSet t => Sys2Proof.Machine.execCmdModeSet t s
  | .cmdOutputForce t => Sys2Proof.Machine.execCmdOutputForce t s
  | .forceExpiry t => Sys2Proof.Machine.execForceExpiry t s
  | .cmdTripReset t => Sys2Proof.Machine.execCmdTripReset t s
  | .cmdSettingWrite t => Sys2Proof.Machine.execCmdSettingWrite t s
  | .cmdGroupSelect t => Sys2Proof.Machine.execCmdGroupSelect t s
  | .cmdDebugUnlock t => Sys2Proof.Machine.execCmdDebugUnlock t s
  | .cmdDebugLock t => Sys2Proof.Machine.execCmdDebugLock t s
  | .cmdPairHandover t => Sys2Proof.Machine.execCmdPairHandover t s
  | .cmdBkrSelect t => Sys2Proof.Machine.execCmdBkrSelect t s
  | .cmdBkrOperate t => Sys2Proof.Machine.execCmdBkrOperate t s
  | .cmdBkrCancel t => Sys2Proof.Machine.execCmdBkrCancel t s
  | .cmdBkrStatus t => Sys2Proof.Machine.execCmdBkrStatus t s
  | .cmdRecArm t => Sys2Proof.Machine.execCmdRecArm t s
  | .cmdRecDisarm t => Sys2Proof.Machine.execCmdRecDisarm t s
  | .cmdRecTrig t => Sys2Proof.Machine.execCmdRecTrig t s
  | .cmdRecApply t => Sys2Proof.Machine.execCmdRecApply t s
  | .cmdRecRelease t => Sys2Proof.Machine.execCmdRecRelease t s
  | .cmdLogicRun t => Sys2Proof.Machine.execCmdLogicRun t s
  | .cmdLogicStop t => Sys2Proof.Machine.execCmdLogicStop t s
  | .cmdLogicHold t => Sys2Proof.Machine.execCmdLogicHold t s
  | .cmdLogicResume t => Sys2Proof.Machine.execCmdLogicResume t s
  | .cmdLogicStep t => Sys2Proof.Machine.execCmdLogicStep t s
  | .cmdLogicSplit t => Sys2Proof.Machine.execCmdLogicSplit t s
  | .cmdLogicJoin t => Sys2Proof.Machine.execCmdLogicJoin t s
  | .cmdLogicExchange t => Sys2Proof.Machine.execCmdLogicExchange t s
  | .cmdTimeSet t => Sys2Proof.Machine.execCmdTimeSet t s
  | .cmdTimeAcceptStep t => Sys2Proof.Machine.execCmdTimeAcceptStep t s
  | .cmdKeyInit t => Sys2Proof.Machine.execCmdKeyInit t s
  | .cmdKeyRotate t nonce => Sys2Proof.Machine.execCmdKeyRotate t nonce s
  | .cmdKeyRetire t => Sys2Proof.Machine.execCmdKeyRetire t s
  | .cmdWorldSet t => Sys2Proof.Machine.execCmdWorldSet t s
  | .cmdOtpProgram t => Sys2Proof.Machine.execCmdOtpProgram t s
  | .cmdOtpRevoke t => Sys2Proof.Machine.execCmdOtpRevoke t s
  | .otpOperationDone t ok => Sys2Proof.Machine.execOtpOperationDone t ok s
  | .cmdFlashRead t data => Sys2Proof.Machine.execCmdFlashRead t data s
  | .cmdFlashErase t => Sys2Proof.Machine.execCmdFlashErase t s
  | .cmdFlashProgram t => Sys2Proof.Machine.execCmdFlashProgram t s
  | .cmdFlashSlot t => Sys2Proof.Machine.execCmdFlashSlot t s
  | .flashOperationDone t h sigOk => Sys2Proof.Machine.execFlashOperationDone t h sigOk s
  | .cmdEvtRead t => Sys2Proof.Machine.execCmdEvtRead t s
  | .cmdEvtAck t => Sys2Proof.Machine.execCmdEvtAck t s
  | .evtQackWrite t r q n => Sys2Proof.Machine.execEvtQackWrite t r q n s
  | .logWrite t => Sys2Proof.Machine.execLogWrite t s
  | .evtQdataCapture t r q => Sys2Proof.Machine.execEvtQdataCapture t r q s
  | .evtLdataRead t r => Sys2Proof.Machine.execEvtLdataRead t r s
  | .captureRead t r a => Sys2Proof.Machine.execCaptureRead t r a s
  | .timSampWrite t r v => Sys2Proof.Machine.execTimSampWrite t r v s
  | .reservedAccess t r a wr => Sys2Proof.Machine.execReservedAccess t r a wr s
  | .registerWrite t r a v => Sys2Proof.Machine.execRegisterWrite t r a v s
  | .xspiRead t a n => Sys2Proof.Machine.execXspiRead t a n s
  | .xspiWrite t a ws part => Sys2Proof.Machine.execXspiWrite t a ws part s
  | .xspiReadStat t n => Sys2Proof.Machine.execXspiReadStat t n s
  | .uptimeUpdate t => Sys2Proof.Machine.execUptimeUpdate t s
  | .tqcDegrade t b => Sys2Proof.Machine.execTqcDegrade t b s
  | .resyncWindowAgeing t p core => Sys2Proof.Machine.execResyncWindowAgeing t p core s
  | .xspiUndefinedCode t code => Sys2Proof.Machine.execXspiUndefinedCode t code s
  | .dbgUndefinedOp t op => Sys2Proof.Machine.execDbgUndefinedOp t op s
  | .ozauxCrcError t l ty lseq => Sys2Proof.Machine.execOzauxCrcError t l ty lseq s

end Sys2Proof.Machine
end

