-- ==== Sys2Proof/Safety.lean ====
section
/-!
DEFINITION. The notions the statements are written in: how a block call and a command frame answer, the canonical form of every addressed store (Memory.wf), and the
invariant of the OTP slots.
-/
namespace Sys2Proof.Machine

/-- A program's code and initial bytes have the canonical form. -/
def progWf (g : ProgImg) : Bool := Store.wf (fun _ => 0) g.code && Store.wf (fun _ => 0) g.init

/-- The canonical form of what the state lists by address: addresses strictly rising, no entry equal to what an unlisted address reads as.
It covers the register file, the memory of the three pods, the instance memory, code and initial bytes of the two programs, the code
bank not in use, and the programs of an image being loaded and of a pending exchange. -/
def Memory.wf (s : State) : Bool :=
  Store.wf rstWord s.regs && (upto 3).all (fun p => Store.wf (podBase (s.podOf p).img p) (s.podOf p).mem) &&
    (upto 2).all (fun k => Store.wf (fun _ => 0) (s.prog k).mem && progWf (s.prog k).img) &&
    ((match s.lgc.bank with | some b => Store.wf (fun _ => 0) b | none => true) &&
      ((match s.lgc.exch with | some e => progWf e.prog && progWf e.ana | none => true) &&
        (match s.sys.cand with
        | some i => progWf i.prog && (match i.ana with | some a => progWf a | none => true)
        | none => true)))
/-- The command `ins` runs the next call of program `k`, of type `ty`, with the outputs and the internal state `f` gives: whenever the
program executes, is not being held (R288) and that call is of that type, for every instant, state and binding. -/
def BlockAnswers (ins : Nat → Nat → Instr) (ty : Nat) (f : CallCtx → List Nat × BlkInt) : Prop :=
  ∀ (t k : Nat) (c : CallCtx) (s : State), k < 2 → (s.at t).progRuns k = true → (s.at t).holding k = false →
    (s.at t).nextCall k = some c → c.call.type = ty →
    exec (ins t k) s = .next ((s.at t).endCall k c (f c).1 (f c).2)

/-- R450: request `q` is the next the Service core executes, it has opcode `op`, and rows 7 to 9 pass it in state `b`: a request that needs
no authentication and carries none goes as it is, any other as authentication verified it; its length is one of its row, and the device
mode allows it. -/
def Admitted (a : State) (op : Nat) (q : CmdReq) (b : State) : Prop :=
  ∃ (q0 : CmdReq) (rest : List CmdReq) (row : OpRow),
    a.cmd.svc = q0 :: rest ∧ q0.op = op ∧ opRow op = some row ∧ a.cmd.modeWait = none ∧ a.refLost = false ∧
    row.lo ≤ q.payload.length ∧ q.payload.length ≤ row.hi ∧ b.modeAllows q = true ∧
    (let c : State := { a with cmd := { a.cmd with svc := rest } }
     let need := c.critOf q0 row.crit
     (need.1 = false ∧ byteAt q0.frame 2 % 2 = 0 ∧ q = q0 ∧ b = c) ∨
     ((need.1 = true ∨ byteAt q0.frame 2 % 2 = 1) ∧ c.authenticate q0 need.2 = (.run q, b)))

/-- R426: the accesses a command makes carry its world. -/
def inWorld (sec : Bool) (s : State) : State := { s with sys := { s.sys with elevated := sec } }

/-- The command `ins`, of opcode `op`, has the result `res` gives whenever a request it executes meets `cond`: the state `res` gives with
the response sent, or with the request waiting for its answer. -/
def OrderAnswers (ins : Nat → Instr) (op : Nat) (cond : CmdReq → State → Prop) (res : CmdReq → State → CmdRes) : Prop :=
  ∀ (t : Nat) (s : State) (q : CmdReq) (b : State), Admitted (s.at t) op q b → cond q (inWorld q.secure b) →
    let r := res q (inWorld q.secure b)
    let e := inWorld false r.s
    exec (ins t) s = .next (if r.wait then { e with cmd := { e.cmd with modeWait := some q } } else e.respond q r.st r.detail r.out)

/-- R450 rows 8 and 9, R451: the command `ins` answers a request of its opcode whose length its row does not allow with LEN_RANGE and one that the
device mode does not allow with STATE_DENIED, and does nothing else; a request that authentication verified as one that needs none. -/
def RefusedByRow (ins : Nat → Instr) (op : Nat) : Prop :=
  ∀ (t : Nat) (s : State) (q v : CmdReq) (rest : List CmdReq) (row : OpRow) (b : State), let a := s.at t
    let c : State := { a with cmd := { a.cmd with svc := rest } }
    let need := c.critOf q row.crit
    a.cmd.svc = q :: rest → q.op = op → opRow op = some row → a.cmd.modeWait = none → a.refLost = false →
    ((need.1 = false ∧ byteAt q.frame 2 % 2 = 0 ∧ v = q ∧ b = c) ∨
     ((need.1 = true ∨ byteAt q.frame 2 % 2 = 1) ∧ c.authenticate q need.2 = (.run v, b))) →
    ((v.payload.length < row.lo ∨ row.hi < v.payload.length) → exec (ins t) s = .next (b.respond v .lenRange 0 [])) ∧
    (row.lo ≤ v.payload.length → v.payload.length ≤ row.hi → b.modeAllows v = false →
      exec (ins t) s = .next (b.respond v .stateDenied 0 []))

/-- R436: the operation on an OTP slot that is running fits the slot: a program finds it UNPROGRAMMED, a revocation finds it ACTIVE. -/
def OtpSound (s : State) : Prop :=
  s.sec.otp.length = 2 ∧ (∀ h, (s.otpSlot h).st ≤ 2) ∧
  match s.cmd.run with
  | some (.otpProgram h _, _, _) => h < 2 ∧ (s.otpSlot h).st = 0
  | some (.otpRevoke h, _, _) => h < 2 ∧ (s.otpSlot h).st = 1
  | _ => True

end Sys2Proof.Machine
end

