-- ==== Sys2Proof/Certificates/Slice0/Obligations.lean ====
section
/-!
DEFINITION. What is claimed of the model: the statements for the provers, one definition each, in the order of the spec's files. `s.at t` is
the state at the instant of the command.
-/
open Sys2Proof Sys2Proof.Machine

/-- R27, R31, R345: while the inputs are sampled a strobe puts the strobe's number into TIM_IDX, the absolute number advances,
every group forms its samples from its fifteen codes, EXTERNAL_A standing for groups 0 to 3 and EXTERNAL_B for 4 to 7, and the
filter island takes the strobe's samples, behind those a snapshot captures. R14: a third entry on a crossing counts in that
crossing's overrun counter and raises event 124; which samples an entry on X1 or X8 overwrites is the model's choice (log entry
31). R48, R49, R52, R53: the spare is called by the channels whose count is 4, lowest first; a window of 64 strobes ends with the
decision on its counts, the channel resumes, and the next waiting channel's window opens. R49 to R51, R55: what a window's counts
decide: the H slice retired, the L slice retired, or, in every other case, a void decision (event 19), whose fourth within 1.0 s
retires the H slice. Each of its commands completes in every state: its effect takes place where its operands are of its row and
its requester is there, and else nothing happens. -/
def Obligations.StrobeAndArbitration : Prop :=
  (∀ (t : Nat) (raw : List (List Int)) (refA refB : Bool) (s : State), let a := s.at t; a.sampling = true →
    exec (.fusedSample t raw refA refB []) s = .next (((upto 8).foldl
      (fun b g => State.groupStrobe b a.ana.strobe g (lget [] raw g) (if g < 4 then refA else refB))
      ({ a with ana := { a.ana with strobe := a.ana.strobe + 1 } }.setF TIM_IDX_IDX a.ana.strobe)).snapTake.fltPush)) ∧
  (∀ (t : Nat) (raw : List (List Int)) (refA refB : Bool) (third : List Nat) (s : State), (s.at t).sampling = true →
    ∃ b, exec (.fusedSample t raw refA refB []) s = .next b ∧ exec (.fusedSample t raw refA refB third) s = .next
      (third.foldl State.crossOverrun
        (let c := if third.contains 1 then b.loseSample else b; if third.contains 8 then c.loseVirtual else c))) ∧
  (∀ (c : Nat) (s : State), 1 ≤ c → c < 12 → s.crossOverrun c = ({ s with sys := { s.sys with
    overruns := lset s.sys.overruns (c - 1) (lget 0 s.sys.overruns (c - 1) + 1) } }).raise 124 c 0) ∧
  (∀ (t g : Nat) (s : State), let a := s.at t; g < 8 → a.sampling = true →
    exec (.arbitrationOpen t g) s = .next ((upto 6).foldl (fun b j => b.callSpare g (6 * g + j)) a)) ∧
  (∀ (g c : Nat) (s : State), s.getF (CNV_CH_DIS_RUN c) = 4 → s.flag (CNV_CH_ARB c) = false →
    s.flag (CNV_CH_ARB_WAIT c) = false → s.flag (CNV_CH_SINGLE_L c) = false →
    s.callSpare g c = if (s.spare g).isNone then s.singleL g c
      else if (s.grp g).arb.isNone then s.openWindow g c (s.chan c).n4 else s.setFlag (CNV_CH_ARB_WAIT c) true) ∧
  (∀ (t g : Nat) (w : ArbWin) (s : State), let a := s.at t; g < 8 → (a.grp g).arb = some w → w.n0 + 64 ≤ a.ana.strobe →
    exec (.arbitrationDecision t g) s = .next
      ((((((a.setGrp g { a.grp g with arb := none }).setFlag (CNV_GSTAT_ARB_BUSY g) false).setFlag (CNV_CH_ARB w.ch) false).arbDecide
        g w).resumeChan w.ch).nextWaiting g (w.n0 + 64))) ∧
  (∀ (g : Nat) (w : ArbWin) (s : State),
    (w.unsettled = false → 16 ≤ w.n → w.n ≤ 2 * w.dH → 8 * w.dL ≤ w.n →
      s.arbDecide g w = s.retireToSpare g (lowRole w.ch + 1) 1) ∧
    (w.unsettled = false → 16 ≤ w.n → w.n ≤ 2 * w.dL → 8 * w.dH ≤ w.n →
      s.arbDecide g w = s.retireToSpare g (lowRole w.ch) 1) ∧
    (w.unsettled = true ∨ w.n < 16 ∨ (¬ (w.n ≤ 2 * w.dH ∧ 8 * w.dL ≤ w.n) ∧ ¬ (w.n ≤ 2 * w.dL ∧ 8 * w.dH ≤ w.n)) →
      let vs := w.n0 :: (s.chan w.ch).voids.filter (fun v => decide (w.n0 < v + 1024000))
      let b := ((s.incSat (CNV_ACNT_VOID_CNT g)).raise 19 g w.ch).setChan w.ch { s.chan w.ch with voids := vs.take 4 }
      s.arbDecide g w = if 4 ≤ vs.length then b.retireToSpare g (lowRole w.ch + 1) 2 else b)) ∧
  (∀ (t g : Nat) (s : State), let a := s.at t; exec (.arbitrationOpen t g) s = .next (if g < 8 then arbitrationOpenEff g a else a)) ∧
  (∀ (t g : Nat) (s : State), let a := s.at t; exec (.arbitrationDecision t g) s = .next
    (if g < 8 then arbitrationDecisionEff g a else a)) ∧
  (∀ (t : Nat) (raw : List (List Int)) (refA refB : Bool) (third : List Nat) (s : State), exec (.fusedSample t raw refA refB third) s = .next
    (crossedSampleEff raw refA refB third (s.at t)))

/-- R36 to R46: the steps of the rotation: the spare shadows the next role; the comparison's outcome hands the role over, extends
the comparison (its counts run on: log entry 95), passes the role over or calls the spare; a calibration that passes replaces the
set, segment corrections with it, one that fails retires the slice. R45, R57 to R60, R75: a request for a reference in TEST is
accepted and taken at the next strobe, but for EXTERNAL without its ball and for the reserved value (that REF_REQ also keeps a
request equal to REF_ACT is log entry 96's choice); the reference settles, and the rotation step it interrupted starts again or, in
its last phase, goes on; it leaves its window (event 20, INTERNAL requested) or does not settle (event 20, INTERNAL). Each of its
commands completes in every state: its effect takes place where its operands are of its row and its requester is there, and else
nothing happens. -/
def Obligations.RotationAndReferences : Prop :=
  (∀ (t g : Nat) (s : State), let a := s.at t; g < 8 → a.rotReady g = true →
    let first := a.getF (CNV_GSTAT_ROT_PHASE g) = 3 ∧ a.flag (CNV_GSTAT_ROT_RUN g) = false
    let role := if first then 0 else (a.getF (CNV_GSTAT_ROT_ROLE g) + 1) % 14
    let b := if role = 0 ∧ ¬ first then a.incWrap (CNV_GCNT_ROT_DONE g) else a
    exec (.rotationStepStart t g) s = .next
      ((((b.setFlag (CNV_GSTAT_ROT_RUN g) true).setF (CNV_GSTAT_ROT_PHASE g) 0).setF (CNV_GSTAT_ROT_ROLE g) role).setGrp g
        { a.grp g with s0 := a.ana.strobe, cmp := 0, dif := 0, ext := 0, vFailed := false })) ∧
  (∀ (t g : Nat) (s : State), let a := s.at t; let x := a.grp g; g < 8 → a.flag (CNV_GSTAT_ROT_RUN g) = true →
    a.getF (CNV_GSTAT_ROT_PHASE g) = 0 → x.arb = none → a.flag (CNV_GSTAT_REF_SETTLED g) = true →
    x.s0 + 1024 * (x.ext + 1) ≤ a.ana.strobe → 256 ≤ x.cmp →
    exec (.shadowEnd t g) s = .next
      (let role := a.getF (CNV_GSTAT_ROT_ROLE g)
       let b := (a.incSat (CNV_GCNT_SHADOW_MM g)).raise 18 g role
       if x.dif ≤ 4 then a.handOver g role .freed
       else if role < 12 then b.openWindow g (roleChan g role) b.ana.strobe
       else if x.vFailed then b.handOver g role .freedV
       else match b.spare g with
        | some k => (b.setGrp g { x with vFailed := true, cal := some (k, .repeatSpare), calFrom := b.ana.strobe }).setF
            (CNV_GSTAT_ROT_PHASE g) 1
        | none => b)) ∧
  (∀ (t g : Nat) (s : State), let a := s.at t; let x := a.grp g; g < 8 → a.flag (CNV_GSTAT_ROT_RUN g) = true →
    a.getF (CNV_GSTAT_ROT_PHASE g) = 0 → x.arb = none → a.flag (CNV_GSTAT_REF_SETTLED g) = true →
    x.s0 + 1024 * (x.ext + 1) ≤ a.ana.strobe → x.cmp < 256 →
    exec (.shadowEnd t g) s = .next
      (if x.ext < 8 then a.setGrp g { x with ext := x.ext + 1 }
       else ((a.setGrp g { x with ext := 9 }).incSat (CNV_GCNT_SKIP g)).setF (CNV_GSTAT_ROT_PHASE g) 2)) ∧
  (∀ (t g k : Nat) (why : CalWhy) (cal : SliceCal) (s : State), let a := s.at t; g < 8 → (a.grp g).cal = some (k, why) →
    (a.grp g).arb = none → a.flag (CNV_GSTAT_REF_SETTLED g) = true → (a.grp g).calFrom + 49152 ≤ a.ana.strobe →
    exec (.sliceCalibrationDone t g cal) s = .next
      (let b := ((a.setGrp g { a.grp g with cal := none, prepFrom := a.ana.strobe }).setF (mapF g k) 0xE).setF
         (CNV_GSTAT_SPARE_POS g) k
       if calPass cal then
        let c := b.setCal g k cal
        if why = .repeatSpare then
          (c.setGrp g { c.grp g with s0 := c.ana.strobe, cmp := 0, dif := 0, ext := 0 }).setF (CNV_GSTAT_ROT_PHASE g) 0
        else c.setF (CNV_GSTAT_ROT_PHASE g) 2
       else (b.retire g k 0).degrade g)) ∧
  (∀ (g k : Nat) (cal : SliceCal) (s : State), let b := s.setCal g k cal
    b.segs g k false = cal.seg1 ∧ b.segs g k true = cal.seg16) ∧
  (∀ (t g v : Nat) (r : Requester) (s : State), let a := s.at t; g < 8 → a.trAlive (reqIdx r) = true →
    a.judge r (CNV_REFREQ g) = .allowed → a.mode = .test →
    exec (.cnvRefreqWrite t r g v) s = .next
      (let b := a.setF (CNV_REFREQ_REF_REQ g) (v % 4)
       if v % 4 = 1 ∧ bitN a.sys.ballMap (if g < 4 then 0 else 1) = false then a.recordWrite r (CNV_REFREQ g) .resourceBusy
       else if v % 4 = 3 then a.recordWrite r (CNV_REFREQ g) .valueRange
       else (if v % 4 = a.getF (CNV_GSTAT_REF_ACT g) then b else b.setGrp g { a.grp g with refPend := some (v % 4) }).recordWrite r
        (CNV_REFREQ g) .ok)) ∧
  (∀ (t g v : Nat) (r : Requester) (s : State), let a := s.at t; g < 8 → a.trAlive (reqIdx r) = true →
    a.judge r (CNV_REFREQ g) = .allowed → a.mode ≠ .test →
    exec (.cnvRefreqWrite t r g v) s = .next (a.recordWrite r (CNV_REFREQ g) .notInTest)) ∧
  (∀ (t g f : Nat) (s : State), let a := s.at t; g < 8 → (a.grp g).refFall = some f → a.ana.strobe ≤ f + 2048 →
    exec (.refSettledRise t g) s = .next
      (let b := (a.setGrp g { a.grp g with refFall := none }).setFlag (CNV_GSTAT_REF_SETTLED g) true
       if (a.grp g).arb.isSome = true then b
       else match b.getF (CNV_GSTAT_ROT_PHASE g) with
        | 0 => b.setGrp g { b.grp g with s0 := b.ana.strobe, cmp := 0, dif := 0, ext := 0 }
        | 1 => b.setGrp g { b.grp g with calFrom := b.ana.strobe }
        | 2 => b.setGrp g { b.grp g with prepFrom := (a.grp g).prepFrom + (b.ana.strobe - (a.grp g).refLow) }
        | _ => b)) ∧
  (∀ (t g : Nat) (s : State), let a := s.at t; g < 8 → 16 ≤ (a.grp g).winRun →
    exec (.refWindowFault t g) s = .next
      (((a.setGrp g { a.grp g with winRun := 0, refPend := some 0 }).setFlag (CNV_GSTAT_REF_FAULT g) true).raise 20 g 0)) ∧
  (∀ (t g f : Nat) (s : State), let a := s.at t; g < 8 → (a.grp g).refFall = some f → f + 2048 ≤ a.ana.strobe →
    exec (.refSettlingFault t g) s = .next
      ((((a.setGrp g { a.grp g with refFall := some (f + 2048), refTo := 0 }).setF (CNV_GSTAT_REF_ACT g) 0).setFlag
        (CNV_GSTAT_REF_FAULT g) true).raise 20 g 1)) ∧
  (∀ (t g : Nat) (s : State), let a := s.at t; exec (.rotationStepStart t g) s = .next
    (if g < 8 then rotationStepStartEff g a else a)) ∧
  (∀ (t g : Nat) (s : State), let a := s.at t; exec (.shadowEnd t g) s = .next (if g < 8 then shadowEndEff g a else a)) ∧
  (∀ (t g : Nat) (cal : SliceCal) (s : State), let a := s.at t; exec (.sliceCalibrationDone t g cal) s = .next
    (if g < 8 then sliceCalibrationDoneEff g cal a else a)) ∧
  (∀ (t : Nat) (r : Requester) (g v : Nat) (s : State), let a := s.at t; exec (.cnvRefreqWrite t r g v) s = .next
    (if g < 8 ∧ a.trAlive (reqIdx r) = true then cnvRefreqWriteEff r g v a else a)) ∧
  (∀ (t g : Nat) (s : State), let a := s.at t; exec (.refSettledRise t g) s = .next (if g < 8 then refSettledRiseEff g a else a)) ∧
  (∀ (t g : Nat) (s : State), let a := s.at t; exec (.refWindowFault t g) s = .next (if g < 8 then refWindowFaultEff g a else a)) ∧
  (∀ (t g : Nat) (s : State), let a := s.at t; exec (.refSettlingFault t g) s = .next
    (if g < 8 then refSettlingFaultEff g a else a))

/-- R61, R64 to R66, R68, R69, R71, R72, R80: the auxiliary converter's actions (a STOP between periods: log entry 91). R61, R65,
R67, R69, R70: an entry's result is queued with the number of its sequence and the sequencer goes on; a period starts the sequence,
or counts an overrun while it is still running; a snapshot's strobe (masks and SEQ as they stand there: log entry 89; a marker that
is discarded counts in SEQ: log entry 90) captures a block, its marker and the samples of the masks' channels, which is queued
whole or discarded whole, in front of what waited behind it. Each of its commands completes in every state: its effect takes place
where its operands are of its row and its requester is there, and else nothing happens. -/
def Obligations.AuxiliaryConverter : Prop :=
  (∀ (t : Nat) (r : Requester) (s : State), let a := s.at t; a.trAlive (reqIdx r) = true →
  (a.judge r AUX_CTL = .allowed →
    (a.flag AUX_STAT_RUN = false → exec (.auxStart t r) s = .next
      ((({ a with aux := { a.aux with stopReq := false, periodFrom := some a.ana.strobe } }.setFlag AUX_STAT_RUN true).auxSeq).recordWrite
        r AUX_CTL .ok)) ∧
    (a.flag AUX_STAT_RUN = true → exec (.auxStart t r) s = .next (a.recordWrite r AUX_CTL .stateDenied)) ∧
    exec (.auxStop t r) s = .next
      ((if a.flag AUX_STAT_RUN = false then a
        else if a.aux.busy = true then { a with aux := { a.aux with stopReq := true } }
        else a.setFlag AUX_STAT_RUN false).recordWrite r AUX_CTL .ok) ∧
    exec (.auxClrCnt t r) s = .next
      (((a.setF AUX_CNT_DROP_CNT 0).setF AUX_CNT_SEQ_OVR_CNT 0).recordWrite r AUX_CTL .ok) ∧
    exec (.auxFlush t r) s = .next ({ a with aux := { a.aux with queue := [] } }.recordWrite r AUX_CTL .ok)) ∧
  (a.judge r AUX_SNAP_GO = .allowed → exec (.auxSnapGo t r) s = .next
    (if a.getF AUX_SNAP_LO_MASK_LO = 0 ∧ a.getF AUX_SNAP_HI_MASK_HI = 0 then a.recordWrite r AUX_SNAP_GO .valueRange
     else { a with aux := { a.aux with snapReq := a.aux.snapReq + 1 } }.recordWrite r AUX_SNAP_GO .ok)) ∧
  (a.judge r AUX_QDATA_LO = .allowed → exec (.auxQdataRead t r) s = .next
    (match a.aux.queue with
     | [] => ((a.setFlag AUX_QSTAT_EMPTY_READ true).capture r AUX_QDATA_LO [0, 0]).readOut [0]
     | e :: rest =>
       ({ a with aux := { a.aux with queue := rest } }.capture r AUX_QDATA_LO (auxWords e)).readOut [e.value % 4294967296]))) ∧
  (∀ (t : Nat) (codes : List Int) (s : State), let a := s.at t; let e := a.getF AUX_STAT_ENTRY
    a.sys.refPresent = true → a.flag AUX_STAT_RUN = true → a.aux.busy = true → codes.length = 2 ^ a.getF (AUX_ENT_AVG e) →
    exec (.auxEntryDone t codes) s = .next (a.auxPush ⟨a.getF (AUX_ENT_INPUT e), false,
      a.getF (AUX_ENT_AVG e) * 8 + b2n (a.flag (AUX_ENT_LEFT e)) * 4 + b2n (a.flag (AUX_ENT_SIGNED e)) * 2 +
        b2n (a.flag (AUX_ENT_DIFF e)), a.aux.runSeq,
      auxValue (a.flag (AUX_ENT_DIFF e)) (a.flag (AUX_ENT_SIGNED e)) (a.flag (AUX_ENT_LEFT e)) (a.getF (AUX_ENT_AVG e))
        (a.getF (AUX_ENT_SHIFT e)) codes⟩).auxNext) ∧
  (∀ (t p : Nat) (s : State), let a := s.at t; a.aux.periodFrom = some p → a.sys.refPresent = true → a.flag AUX_STAT_RUN = true →
    a.getF AUX_CFG_MODE = 2 → p + a.getF AUX_PERIOD_PERIOD ≤ a.ana.strobe → a.aux.busy = false →
    exec (.auxPeriodStart t) s = .next
      { a with aux := { a.aux with periodFrom := some (p + a.getF AUX_PERIOD_PERIOD) } }.auxSeq) ∧
  (∀ (t p : Nat) (s : State), let a := s.at t; a.aux.periodFrom = some p → a.sys.refPresent = true → a.flag AUX_STAT_RUN = true →
    a.getF AUX_CFG_MODE = 2 → p + a.getF AUX_PERIOD_PERIOD ≤ a.ana.strobe → a.aux.busy = true →
    exec (.auxPeriodStart t) s = .next
      (let b := ({ a with aux := { a.aux with periodFrom := some (p + a.getF AUX_PERIOD_PERIOD) } }.setFlag AUX_QSTAT_SEQ_OVR true).incSat
         AUX_CNT_SEQ_OVR_CNT
       b.raise 22 0 (b.getF AUX_CNT_SEQ_OVR_CNT))) ∧
  (∀ (s : State), s.aux.snapReq = 1 →
    let b := { s with aux := { s.aux with held := s.aux.held ++ [AuxItem.block (s.auxMarker 1 :: s.snapChans.map (fun c =>
      ⟨0x10 + c, false, s.getF (CNV_CH_TAG c), (s.getF AUX_STAT_SEQ + 1) % 65536, tcBits 32 (s.chan c).last⟩))] } }.incWrap AUX_STAT_SEQ
    s.snapTake = { b with aux := { b.aux with snapReq := 0 } }) ∧
  (∀ (t : Nat) (es : List AuxEntry) (s : State), let a := s.at t; a.aux.held = [.block es] →
    exec (.auxSnapCapture t) s = .next
      (let b := if a.aux.queue.length + es.length ≤ 512 then es.foldl State.auxStore a else a.auxDrop es.length
       { b with aux := { b.aux with held := [] } })) ∧
  (∀ (e : AuxEntry) (s : State), s.aux.queue.length < 512 → s.auxStore e =
    { s with aux := { s.aux with queue := s.aux.queue ++ [{ e with dropBefore := s.aux.dropNext }], dropNext := false } }) ∧
  (∀ (t : Nat) (r : Requester) (s : State), let a := s.at t; exec (.auxStart t r) s = .next
    (if a.trAlive (reqIdx r) = true then auxStartEff r a else a)) ∧
  (∀ (t : Nat) (r : Requester) (s : State), let a := s.at t; exec (.auxStop t r) s = .next
    (if a.trAlive (reqIdx r) = true then auxStopEff r a else a)) ∧
  (∀ (t : Nat) (r : Requester) (s : State), let a := s.at t; exec (.auxClrCnt t r) s = .next
    (if a.trAlive (reqIdx r) = true then auxClrCntEff r a else a)) ∧
  (∀ (t : Nat) (r : Requester) (s : State), let a := s.at t; exec (.auxFlush t r) s = .next
    (if a.trAlive (reqIdx r) = true then auxFlushEff r a else a)) ∧
  (∀ (t : Nat) (codes : List Int) (s : State), exec (.auxEntryDone t codes) s = .next (auxEntryDoneEff codes (s.at t))) ∧
  (∀ (t : Nat) (s : State), exec (.auxPeriodStart t) s = .next (auxPeriodStartEff (s.at t))) ∧
  (∀ (t : Nat) (r : Requester) (s : State), let a := s.at t; exec (.auxSnapGo t r) s = .next
    (if a.trAlive (reqIdx r) = true then auxSnapGoEff r a else a)) ∧
  (∀ (t : Nat) (s : State), exec (.auxSnapCapture t) s = .next (auxSnapCaptureEff (s.at t))) ∧
  (∀ (t : Nat) (r : Requester) (s : State), let a := s.at t; exec (.auxQdataRead t r) s = .next
    (if a.trAlive (reqIdx r) = true then auxQdataReadEff r a else a))

/-- R84 to R87, R92: a stage output of a running channel is the sum of products of its window with the taps of its bank, rounded,
with the tag of the window, given to the comparison of the datapaths; a tracked and a fixed-rate output are blends at their
instants. R92, R94, R96, R112: the next tracked sample of a channel is released at its instant, once the samples its window needs
stand, and a fixed-rate sample of a published channel for a slot that has none yet (no instant of the old grid after a step); the
value is the blend of the two phases (nu floored: log entry 98). Both leave the other channels' chains as they were. Each of its
commands completes in every state: its effect takes place where its operands are of its row and its requester is there, and else
nothing happens. -/
def Obligations.FilterOutputs : Prop :=
  (∀ (t c m : Nat) (s : State), let a := s.at t; let x := a.fch c; let n := a.ana.strobe - 1
    c < 64 → a.chainOn c = true → a.ana.strobe ≠ 0 → a.recWaits 0 c = false → x.last1 = some m → 16 * (m + 1) ≤ n →
    n - 16 * (m + 1) ≤ x.x.length →
    exec (.stage1Output t c ⟨none, []⟩) s = .next
      (a.stageOut 0 c (m + 1) 0 (dot (mirror (a.bank (fltGroupOf c) 0 (a.selBank (fltGroupOf c) 0)).words)
        ((window 129 (x.x.drop (n - 16 * (m + 1)))).map (·.v))) (winTag (window 129 (x.x.drop (n - 16 * (m + 1))))) ⟨none, []⟩)) ∧
  (∀ (t c m : Nat) (s : State), let a := s.at t; let x := a.fch c
    c < 64 → a.chainOn c = true → a.recWaits 0 c = false → a.recWaits 1 c = false → x.last1 = some m → m % 2 = 0 →
    x.last2 ≠ some (m / 2) →
    exec (.stage2Output t c ⟨none, []⟩) s = .next
      (a.stageOut 1 c (m / 2) 0 (dot (mirror (a.bank (fltGroupOf c) 1 (a.selBank (fltGroupOf c) 1)).words)
        ((window 33 x.y1).map (·.v))) (winTag (window 33 x.y1)) ⟨none, []⟩)) ∧
  (∀ (s : State) (st c idx : Nat) (base acc : Int) (tag : Tag), s.flag (FLT_GSTAT_DP_SINGLE (fltGroupOf c)) = false →
    s.stageOut st c idx base acc tag ⟨none, []⟩ = s.release st c idx (stageRound st base acc tag)) ∧
  (∀ (t c : Nat) (up : Upset) (s : State), let a := s.at t; let x := a.fch c
    let ax := a.axis c ((a.tauAt x.tNext : Nat) : Int)
    c < 128 → a.chainOn c = true → x.tNext ≤ a.dueIdx c → (64 ≤ c → a.getF FLT_TCFG_VLAG ≤ a.flt.m) → a.recWaits 2 c = false →
    a.releaseAt c x.tNext ≤ a.strobeTime → (c < 64 → x.last2.isNone = false ∧ ax.1 / (ax.2 : Int) + 4 ≤ (x.q2 : Int) - 10) →
    up = ⟨none, []⟩ → a.flag (FLT_GSTAT_DP_SINGLE (fltGroupOf c)) = false → a.flt.chans.length = 128 →
    ∃ s', exec (.trackedSample t c up) s = .next s' ∧ (s'.fch c).tNext = x.tNext + 1 ∧
      (lget ⟨0, .settling⟩ (s'.fch c).hist 0).v =
        (clampOut ((a.blend c ax.1 ax.2).1 + divHalfEven (a.blend c ax.1 ax.2).2.1 65536) .valid).v ∧
      (∀ d, d ≠ c → s'.fch d = a.fch d)) ∧
  (∀ (t c : Nat) (up : Upset) (s : State), let a := s.at t; let x := a.fch c
    let pos := a.strobeTime - nsTau (439510 + x.trim)
    let lab := a.labelOf pos
    let key := (lab * (a.svRate : Int) / 65536000000000).toNat
    let tau := pos + ((key : Int) * 65536000000000 / (a.svRate : Int) - lab) * 1048576
    let ax := a.axis c tau
    c < 128 → a.chainOn c = true → a.flag FLT_SVCFG_SV_EN = true → a.published c = true → x.fixK ≠ some key → a.recWaits 3 c = false →
    (a.oldGrid tau = true → a.oldGrid pos = true) →
    (c < 64 → x.last2.isNone = false ∧ ax.1 / (ax.2 : Int) + 4 ≤ (x.q2 : Int) - 10) →
    up = ⟨none, []⟩ → a.flag (FLT_GSTAT_DP_SINGLE (fltGroupOf c)) = false → a.flt.chans.length = 128 →
    ∃ s', exec (.fixedRateSample t c up) s = .next s' ∧ (s'.fch c).fixK = some key ∧
      (s'.fch c).fix.v = (clampOut ((a.blend c ax.1 ax.2).1 + divHalfEven (a.blend c ax.1 ax.2).2.1 65536) .valid).v ∧
      (∀ d, d ≠ c → s'.fch d = a.fch d)) ∧
  (∀ (t c : Nat) (up : Upset) (s : State), let a := s.at t; exec (.stage1Output t c up) s = .next
    (if c < 64 then stage1OutputEff c up a else a)) ∧
  (∀ (t c : Nat) (up : Upset) (s : State), let a := s.at t; exec (.stage2Output t c up) s = .next
    (if c < 64 then stage2OutputEff c up a else a)) ∧
  (∀ (t c : Nat) (up : Upset) (s : State), let a := s.at t; exec (.trackedSample t c up) s = .next
    (if c < 128 then trackedMaskEff c up a else a)) ∧
  (∀ (t c : Nat) (up : Upset) (s : State), let a := s.at t; exec (.fixedRateSample t c up) s = .next
    (if c < 128 then fixedRatePublishEff c up a else a))

/-- R98 to R100: the recompute unit's two results: equal to one datapath's, the output is that result tagged RECOMPUTED and the
other datapath takes a strike; equal to neither, it is the unit's; different from each other, the previous output stands, tagged
SETTLING, and the failure is reported. Simultaneous mismatches are served in group order; the sample released meets the masks
(R263) and completes its publication (R379). R14, R17, R111, R114: at B_m the two halves swap: the half read until now becomes the
previous one, the new half carries index m and the tracked index advances by one, whether or not a group is stopped; where the DFT
unit has not finished its half, the halves stand and crossing X2 counts an overrun. Each of its commands completes in every state:
its effect takes place where its operands are of its row and its requester is there, and else nothing happens. -/
def Obligations.RecomputeAndHalves : Prop :=
  (∀ (t g st c : Nat) (r1 r2 : Int) (p : RecPend) (s : State), let a := s.at t
  let b : State := { a with flt := { a.flt with pend := a.flt.pend.filter (fun q => !(q.g = g && q.stage = st && q.ch = c)) } }
  let goes : State → State := fun u => a.maskNew c (if st = 3 then u.svPublish else u)
  g < 8 → st < 4 → c < 128 → a.flt.pend.find? (fun q => q.g = g && q.stage = st && q.ch = c) = some p →
  a.sampling = true → a.recTurn p = true →
  (r1 = r2 → r1 = p.a → exec (.recomputeDone t g st c r1 r2) s = .next
    (goes ((b.strike g true).release st c p.idx (stageRound st p.base p.a (tagMax p.tag .recomputed))))) ∧
  (r1 = r2 → r1 ≠ p.a → r1 = p.b → exec (.recomputeDone t g st c r1 r2) s = .next
    (goes ((b.strike g false).release st c p.idx (stageRound st p.base p.b (tagMax p.tag .recomputed))))) ∧
  (r1 = r2 → r1 ≠ p.a → r1 ≠ p.b → exec (.recomputeDone t g st c r1 r2) s = .next
    (goes ((b.incSat (FLT_DPCNT_RFAIL g)).release st c p.idx (stageRound st p.base r1 (tagMax p.tag .recomputed))))) ∧
  (r1 ≠ r2 → exec (.recomputeDone t g st c r1 r2) s = .next
    (let f := ((b.incSat (FLT_DPCNT_RFAIL g)).setFlag (FLT_GSTAT_DP_FAULT g) true).raise 35 g 0
     goes (f.release st c p.idx ⟨f.prevOut st c, .settling⟩)))) ∧
  (∀ (t : Nat) (s : State), let a := s.at t
    a.gridRuns = true → a.swapReady = true →
    ∃ s', exec (.phasorSwap t) s = .next s' ∧ s'.flt.m = a.flt.m + 1 ∧ s'.flt.prev = a.flt.cur ∧ s'.flt.cur.m = a.flt.m ∧
      s'.flt.taus = (a.flt.tau :: a.flt.taus).take 400 ∧ s'.trp = a.trp ∧ s'.ana = a.ana ∧ s'.sec = a.sec) ∧
  (∀ (t : Nat) (s : State), let a := s.at t
    a.gridRuns = true → a.boundaryDue = true → a.halfDone = false →
    exec (.phasorSwap t) s = .next (State.offerEdges a (a.crossOverrun 2))) ∧
  (∀ (t g st c : Nat) (r1 r2 : Int) (s : State), let a := s.at t; exec (.recomputeDone t g st c r1 r2) s = .next
    (if g < 8 ∧ st < 4 ∧ c < 128 then recomputeMaskEff g st c r1 r2 a else a)) ∧
  (∀ (t : Nat) (s : State), let a := s.at t; exec (.phasorSwap t) s = .next (State.offerEdges a (swapTickEff a)))

/-- R114 to R116: stops are asked for in TEST and taken at a strobe divisible by 32 with no recompute pending; a start with valid
banks asks for a synchronising reset, which empties the histories of the group and makes it SETTLING. R90, R95, R115, R121:
coefficient words, their commit, the choice of banks, trims and the phasor mirror's channel: each write a requester may make has
its effect and is recorded as OK; refused, it changes nothing else. Each of its commands completes in every state: its effect takes
place where its operands are of its row and its requester is there, and else nothing happens. -/
def Obligations.ChainStopsAndStarts : Prop :=
  (∀ (t g : Nat) (r : Requester) (s : State), let a := s.at t
    g < 8 → a.trAlive (reqIdx r) = true → a.judge r (FLT_CTL g) = .allowed →
    (exec (.fltStop t r g) s = .next
      (if a.mode ≠ .test then a.recordWrite r (FLT_CTL g) .notInTest
       else if a.chainState g = 0 then a.recordWrite r (FLT_CTL g) .ok
       else (a.setFgrp g { a.fgrp g with stopReq := true }).recordWrite r (FLT_CTL g) .ok)) ∧
    (a.chainState g = 0 → a.gridRuns = true →
      exec (.fltStart t r g) s = .next
        (if (upto 3).all (fun st => bitN (a.getF (FLT_GSTAT_VALID g)) (st * 2 + a.selBank g st))
         then (a.setFgrp g { a.fgrp g with startReq := true }).recordWrite r (FLT_CTL g) .ok
         else a.recordWrite r (FLT_CTL g) .bankInvalid)) ∧
    (a.chainState g ≠ 0 → exec (.fltStart t r g) s = .next (a.recordWrite r (FLT_CTL g) .stateDenied))) ∧
  (∀ (t g : Nat) (s : State), let a := s.at t
    g < 8 → a.gridRuns = true → (a.fgrp g).stopReq = true → a.ana.strobe % 32 = 0 → (∀ p ∈ a.flt.pend, p.g ≠ g) →
    ∃ s', exec (.chainStopTaken t g) s = .next s' ∧ s'.chainState g = 0 ∧ s'.flt.pend = a.flt.pend ∧
      s'.flt.chans = a.flt.chans ∧ s'.ana = a.ana ∧
      (a.flt.groups.length = 8 → (s'.fgrp g).stopReq = false ∧ (s'.fgrp g).resetReq = false)) ∧
  (∀ (t g : Nat) (s : State), let a := s.at t
    g < 8 → a.gridRuns = true → a.ana.strobe % 32 = 0 →
    ((a.chainState g = 0 ∧ (a.fgrp g).startReq = true) ∨ (a.chainState g ≠ 0 ∧ (a.fgrp g).resetReq = true)) →
    ∃ s', exec (.syncReset t g) s = .next s' ∧ s'.chainState g = 1 ∧ (∀ p ∈ s'.flt.pend, p.g ≠ g) ∧
      (∀ c, c < 128 → a.flt.chans.length = 128 → fltGroupOf c = g → (s'.fch c).hist = [] ∧ (s'.fch c).y1 = [] ∧ (s'.fch c).y2 = [])) ∧
  (∀ (t : Nat) (r : Requester) (s : State), let a := s.at t; a.trAlive (reqIdx r) = true →
  (∀ g v, g < 8 → a.judge r (FLT_BANK g) = .allowed → a.mode = .test → a.chainState g = 0 →
    exec (.fltBankWrite t r g v) s = .next
      (if (upto 3).all (fun st => bitN (a.getF (FLT_GSTAT_VALID g)) (st * 2 + b2n (bitN v st)))
       then (a.wr (FLT_BANK g) (BitVec.ofNat 32 (v % 8))).recordWrite r (FLT_BANK g) .ok
       else a.recordWrite r (FLT_BANK g) .bankInvalid)) ∧
  (∀ v, let g := a.getF FLT_CADDR_GRP; let st := a.getF FLT_CADDR_STG; let b := a.getF FLT_CADDR_BANK; let i := a.getF FLT_CADDR_IDX
    let k := a.bank g st b
    a.judge r FLT_CDATA = .allowed → a.mode = .test → a.chainState g = 0 →
    exec (.fltCdataWrite t r v) s = .next
      (if setLen st ≤ i then a.recordWrite r FLT_CDATA .lenRange
       else ((a.setBank g st b
          { words := lset (k.words ++ List.replicate (setLen st - k.words.length) 0) i (sext 24 v)
            have_ := if k.have_.contains i then k.have_ else i :: k.have_, full := false }).incWrap FLT_CADDR_IDX).recordWrite r
          FLT_CDATA .ok)) ∧
  (let g := a.getF FLT_CADDR_GRP; let st := a.getF FLT_CADDR_STG; let b := a.getF FLT_CADDR_BANK
    a.judge r FLT_CCMT = .allowed → a.mode = .test → a.chainState g = 0 →
    exec (.fltCcmtCommit t r) s = .next
      (if (a.bank g st b).have_.length < setLen st then a.recordWrite r FLT_CCMT .lenRange
       else if setOk st (a.bank g st b) = true then
         (a.setBank g st b { a.bank g st b with full := true }).recordWrite r FLT_CCMT .ok
       else a.recordWrite r FLT_CCMT .valueRange)) ∧
  (∀ c v, c < 128 → a.judge r (FLT_TRIM c) = .allowed → a.mode = .test →
    exec (.fltTrimWrite t r c v) s = .next
      (if -2000 ≤ sext 12 v ∧ sext 12 v ≤ 2000
       then ((a.setFch c { a.fch c with trimReq := true }).setF (FLT_TRIM_TRIM c) v).recordWrite r (FLT_TRIM c) .ok
       else a.recordWrite r (FLT_TRIM c) .valueRange)) ∧
  (∀ v, a.judge r FLT_PHSEL = .allowed → exec (.fltPhselWrite t r v) s = .next
    ((let b := a.wr FLT_PHSEL (BitVec.ofNat 32 (v % 256))
      if b.getF FLT_PHSEL_CH = a.getF FLT_PHSEL_CH then b else b.mirrorPh).recordWrite r FLT_PHSEL .ok))) ∧
  (∀ (t : Nat) (r : Requester) (g : Nat) (s : State), let a := s.at t; exec (.fltStop t r g) s = .next
    (if g < 8 ∧ a.trAlive (reqIdx r) = true then fltStopEff r g a else a)) ∧
  (∀ (t : Nat) (r : Requester) (g : Nat) (s : State), let a := s.at t; exec (.fltStart t r g) s = .next
    (if g < 8 ∧ a.trAlive (reqIdx r) = true then fltStartEff r g a else a)) ∧
  (∀ (t g : Nat) (s : State), let a := s.at t; exec (.chainStopTaken t g) s = .next (if g < 8 then chainStopTakenEff g a else a)) ∧
  (∀ (t g : Nat) (s : State), let a := s.at t; exec (.syncReset t g) s = .next (if g < 8 then syncResetEff g a else a)) ∧
  (∀ (t : Nat) (r : Requester) (g v : Nat) (s : State), let a := s.at t; exec (.fltBankWrite t r g v) s = .next
    (if g < 8 ∧ a.trAlive (reqIdx r) = true then fltBankWriteEff r g v a else a)) ∧
  (∀ (t : Nat) (r : Requester) (v : Nat) (s : State), let a := s.at t; exec (.fltCdataWrite t r v) s = .next
    (if a.trAlive (reqIdx r) = true then fltCdataWriteEff r v a else a)) ∧
  (∀ (t : Nat) (r : Requester) (s : State), let a := s.at t; exec (.fltCcmtCommit t r) s = .next
    (if a.trAlive (reqIdx r) = true then fltCcmtCommitEff r a else a)) ∧
  (∀ (t : Nat) (r : Requester) (c v : Nat) (s : State), let a := s.at t; exec (.fltTrimWrite t r c v) s = .next
    (if c < 128 ∧ a.trAlive (reqIdx r) = true then fltTrimWriteEff r c v a else a)) ∧
  (∀ (t : Nat) (r : Requester) (v : Nat) (s : State), let a := s.at t; exec (.fltPhselWrite t r v) s = .next
    (if a.trAlive (reqIdx r) = true then fltPhselWriteEff r v a else a))

/-- R132, R169: what the publishing of an evaluated instance leaves in its status word: PU and OP say that a phase is picked up or
operated, PH_PU and PH_OP which, AUX the second output of 50BF, TAG the tag; OPCNT counts the rises of OP and wraps. No event is
raised, and no state outside the registers and the instance changes. R133, R134, R139, R145, R152, R153: the timed instants of an
element: a picked-up phase operates when its timer reaches DLY or its accumulator 1.0 with TMIN elapsed; a definite reset empties
timer and accumulator at TRST; a phase held for its limit drops out and event 41 says so; the pulse of vector shift ends PULSE
after its last tick; 50BF operates OP at T1 and OP2 at T2. Each of its commands completes in every state: its effect takes place
where its operands are of its row and its requester is there, and else nothing happens. -/
def Obligations.ElementInstants : Prop :=
  (∀ (s : State) (i : Nat) (x : InstInt), i < 512 →
  let b := s.publish i x
  let pu := phBits (x.ph.map (·.pu))
  let op := phBits (x.ph.map (·.op))
  b.inst i = x ∧ b.flag (PRT_ST_PU i) = (pu != 0) ∧ b.flag (PRT_ST_OP i) = (op != 0) ∧ b.getF (PRT_ST_PH_PU i) = pu ∧
  b.getF (PRT_ST_PH_OP i) = op ∧ b.flag (PRT_ST_AUX i) = x.op2 ∧ b.flag (PRT_ST_HELD i) = x.held ∧
  b.flag (PRT_ST_BLOCKED i) = x.blocked ∧ b.getF (PRT_ST_TAG i) = tagCode x.tag ∧
  b.getF (PRT_ST_OPCNT i) =
    (if op ≠ 0 ∧ s.flag (PRT_ST_OP i) = false then (s.getF (PRT_ST_OPCNT i) + 1) % 4096 else s.getF (PRT_ST_OPCNT i)) ∧
  b.evt = s.evt ∧ b.trp = s.trp ∧ (∀ j, j ≠ i → b.inst j = s.inst j) ∧
  (∀ a, a ≠ PRT_ST i → a ≠ PRT_ACC i → b.rd a = s.rd a)) ∧
  (∀ (t i k : Nat) (s : State), let a := s.at t; let x := lget resetPhase (a.inst i).ph k; let p := a.elPar i (a.slowLim i)
    i < 512 → k < 3 → a.elRuns i = true → x.pu = true → x.op = false → p.may = true →
    (p.crv = none → a.elType i ≠ 0x12 → a.elType i ≠ 0x14 → a.elType i ≠ 0x01 → p.dly ≤ x.timer →
      exec (.definiteTimeExpiry t i k) s = .next (State.offerEdges a
        (a.publish i { a.inst i with ph := lmod (a.inst i).ph k (fun y => { y with op := true }) }))) ∧
    (p.crv ≠ none → 0x40000000 ≤ x.acc → p.dly ≤ x.timer →
      exec (.inverseTimeOperate t i k) s = .next (State.offerEdges a
        (a.publish i { a.inst i with ph := lmod (a.inst i).ph k (fun y => { y with op := true }) })))) ∧
  (∀ (t i k d : Nat) (s : State), let a := s.at t
    i < 512 → k < 3 → a.elRuns i = true → (lget resetPhase (a.inst i).ph k).drop = some d → a.gp i 3 * usTau ≤ d →
    exec (.resetTimeExpiry t i k) s = .next (State.offerEdges a
      (a.publish i { a.inst i with ph := lmod (a.inst i).ph k (fun y => { y with timer := 0, acc := 0, drop := none }) }))) ∧
  (∀ (t i k : Nat) (s : State), let a := s.at t; let x := lget resetPhase (a.inst i).ph k
    let ty := a.elType i
    let lim := if ty = 0x01 ∨ ty = 0x12 then a.fastLim i else if ty = 0x0D ∨ ty = 0x0E then a.hdr i 0 17 7 else a.slowLim i
    i < 512 → k < 3 → a.elRuns i = true → lim ≠ 0 → lim ≤ x.hold → (x.pu = true ∨ x.op = true) →
    exec (.holdLimitExpiry t i k) s = .next (State.offerEdges a
      (((a.publish i { a.inst i with ph := lmod (a.inst i).ph k clearPhase }).setFlag (PRT_ST_HOLD_EXP i) true).raise 41 i
        (tagCode (a.inst i).tag)))) ∧
  (∀ (t i v : Nat) (s : State), let a := s.at t
    i < 512 → a.elRuns i = true → (a.inst i).vsAt = some v → a.elType i = 0x11 → v + a.gp i 6 * usU ≤ a.now →
    exec (.vectorShiftPulseEnd t i) s = .next (State.offerEdges a (a.publish i
      { a.inst i with vsAt := none, ph := (a.inst i).ph.map (fun p => { p with pu := false, op := false }) }))) ∧
  (∀ (t i v : Nat) (s : State), let a := s.at t
    i < 512 → a.elRuns i = true → (a.inst i).bfTime = some v → a.elType i = 0x12 → (a.inst i).bfCheck = true →
    (a.elPar i 0).may = true →
    (a.gp i 5 * usTau ≤ v → exec (.bfRetripTime t i) s = .next (State.offerEdges a
      (a.publish i { a.inst i with ph := lmod (a.inst i).ph 0 (fun y => { y with op := true }) }))) ∧
    (a.gp i 6 * usTau ≤ v → exec (.bfBacktripTime t i) s = .next (State.offerEdges a
      (a.publish i { a.inst i with op2 := true })))) ∧
  (∀ (t i ph : Nat) (s : State), let a := s.at t; exec (.definiteTimeExpiry t i ph) s = .next
    (if i < 512 ∧ ph < 3 then State.offerEdges a (definiteTimeExpiryEff i ph a) else a)) ∧
  (∀ (t i ph : Nat) (s : State), let a := s.at t; exec (.inverseTimeOperate t i ph) s = .next
    (if i < 512 ∧ ph < 3 then State.offerEdges a (inverseTimeOperateEff i ph a) else a)) ∧
  (∀ (t i ph : Nat) (s : State), let a := s.at t; exec (.resetTimeExpiry t i ph) s = .next
    (if i < 512 ∧ ph < 3 then State.offerEdges a (resetTimeExpiryEff i ph a) else a)) ∧
  (∀ (t i ph : Nat) (s : State), let a := s.at t; exec (.holdLimitExpiry t i ph) s = .next
    (if i < 512 ∧ ph < 3 then State.offerEdges a (holdLimitExpiryEff i ph a) else a)) ∧
  (∀ (t i : Nat) (s : State), let a := s.at t; exec (.vectorShiftPulseEnd t i) s = .next
    (if i < 512 then State.offerEdges a (vectorShiftPulseEndEff i a) else a)) ∧
  (∀ (t i : Nat) (s : State), let a := s.at t; exec (.bfRetripTime t i) s = .next
    (if i < 512 then State.offerEdges a (bfRetripTimeEff i a) else a)) ∧
  (∀ (t i : Nat) (s : State), let a := s.at t; exec (.bfBacktripTime t i) s = .next
    (if i < 512 then State.offerEdges a (bfBacktripTimeEff i a) else a))

/-- R155 to R158: cold load begins for the settings' time when a breaker closes after TCOLD open, and ends with it; a bay is a
member of a zone by its static bit, or by its bit in DYNB while its logic output is true, and a change of members starts 256 ticks
of blanking; a zone phase with NCON ticks of pickup operates, but not in the blanked time and not without the check zone; the
blanked time of a zone ends; Id at or above IDALM for TALM raises event 42. Each of its commands completes in every state: its
effect takes place where its operands are of its row and its requester is there, and else nothing happens. -/
def Obligations.ColdLoadAndZones : Prop :=
  (∀ (t b i : Nat) (s : State), let a := s.at t
    b < 12 → a.clpOf b = some i → a.elRuns i = true → a.elBlocked i = false →
    exec (.coldLoadEntry t b) s = .next (State.offerEdges a (a.evalClp i))) ∧
  (∀ (i o : Nat) (s : State), let b := s.elBay i
    s.flag (PRT_BSTAT_CB b) = true → (s.bay b).openAt = some o → o + s.gp i 5 * usU ≤ s.now → s.flag (PRT_BAY1_CB_EN b) = true →
    s.gp i 6 ≠ 0 → b < s.prt.bays.length →
    let c := (s.setBay b { s.bay b with
      openAt := none, coldEnd := some (s.now + s.gp i 6 * usU), clpf := s.gp i 0 }).setFlag (PRT_BSTAT_CLP b) true
    s.evalClp i = c.publish i { c.inst i with op2 := c.flag (PRT_BSTAT_CLP b), blocked := false, tag := .valid }) ∧
  (∀ (t b i e : Nat) (s : State), let a := s.at t
    b < 12 → a.protecting = true → a.clpOf b = some i → (a.bay b).coldEnd = some e → e ≤ a.now →
    exec (.coldLoadEnd t b) s = .next (State.offerEdges a
      (((a.setBay b { a.bay b with coldEnd := none }).setFlag (PRT_BSTAT_CLP b) false).publish i { a.inst i with op2 := false }))) ∧
  (∀ (t z k : Nat) (s : State), let a := s.at t; let p := lget resetZonePh (a.zone z).ph k
    z < 2 → k < 3 → a.protecting = true → a.podRuns 1 = true → a.flag (PRT_ZCFG_ZEN z) = true → p.pu = true →
    a.getF (PRT_ZCFG_NCON z) ≤ p.cnt → a.flag (PRT_ZSTAT_BLANK z) = false →
    (z = 1 ∨ a.flag (PRT_ZCFG_CHK 1) = false ∨ (lget resetZonePh (a.zone 1).ph k).op = true) →
    exec (.zoneNconReached t z k) s = .next (State.offerEdges a
      (a.setZone z { a.zone z with ph := lmod (a.zone z).ph k (fun y => { y with op := true }) }))) ∧
  (∀ (t z k : Nat) (s : State), let a := s.at t
    z < 2 → k < 3 → (a.flag (PRT_ZSTAT_BLANK z) = true ∨
      (z = 0 ∧ a.flag (PRT_ZCFG_CHK 1) = true ∧ (lget resetZonePh (a.zone 1).ph k).op = false)) →
    exec (.zoneNconReached t z k) s = .next a) ∧
  (∀ (z b : Nat) (s : State), b < 12 → bitN (s.zoneMembers z) b =
    (bitN (s.getF (PRT_ZMAP_STAT z)) b || (bitN (s.getF (PRT_ZMAP_DYNB z)) b && s.logicOut (s.getF (PRT_ZCFG_ZDBASE z) + b)))) ∧
  (∀ (z m : Nat) (s : State), s.zoneMembers z ≠ s.getF (PRT_ZSTAT_MEMB z) → s.zoneBlank z m =
    ((s.setF (PRT_ZSTAT_MEMB z) (s.zoneMembers z)).setFlag (PRT_ZSTAT_BLANK z) true).setZone z { s.zone z with blank := m + 256 }) ∧
  (∀ (t z : Nat) (s : State), let a := s.at t
    z < 2 → a.flag (PRT_ZSTAT_BLANK z) = true → (a.zone z).blank ≤ a.flt.cur.m →
    exec (.zoneBlankEnd t z) s = .next (State.offerEdges a (a.setFlag (PRT_ZSTAT_BLANK z) false))) ∧
  (∀ (t z v : Nat) (s : State), let a := s.at t
    z < 2 → a.protecting = true → a.podRuns 1 = true → a.flag (PRT_ZCFG_ZEN z) = true → a.getF (PRT_ZIDALM_IDALM z) ≠ 0 →
    (∃ p ∈ (a.zone z).ph, p.alm = some v) → a.getF (PRT_ZTALM_TALM z) * 1000 * usTau ≤ v → a.flag (PRT_ZSTAT_ALM z) = false →
    exec (.zoneAlarmTime t z) s = .next (State.offerEdges a
      ((a.setFlag (PRT_ZSTAT_ALM z) true).raise 42 z (phBits ((a.zone z).ph.map (·.alm.isSome)))))) ∧
  (∀ (t b : Nat) (s : State), let a := s.at t; exec (.coldLoadEntry t b) s = .next
    (if b < 12 then State.offerEdges a (coldLoadEntryEff b a) else a)) ∧
  (∀ (t b : Nat) (s : State), let a := s.at t; exec (.coldLoadEnd t b) s = .next
    (if b < 12 then State.offerEdges a (coldLoadEndEff b a) else a)) ∧
  (∀ (t z ph : Nat) (s : State), let a := s.at t; exec (.zoneNconReached t z ph) s = .next
    (if z < 2 ∧ ph < 3 then State.offerEdges a (zoneNconReachedEff z ph a) else a)) ∧
  (∀ (t z : Nat) (s : State), let a := s.at t; exec (.zoneBlankEnd t z) s = .next
    (if z < 2 then State.offerEdges a (zoneBlankEndEff z a) else a)) ∧
  (∀ (t z : Nat) (s : State), let a := s.at t; exec (.zoneAlarmTime t z) s = .next
    (if z < 2 then State.offerEdges a (zoneAlarmTimeEff z a) else a))

/-- R154, R155, R159 to R163: an inception, |Δi| at or above THR and half of it for four samples more in a phase without inrush,
opens the search window; when it closes, what was found waits for the pod's fast tick, which publishes it with event 43; the
forward flag lasts WIN (the phases and instants an inception names, and that the window closes once its last sample stands: log
entry 113). R129, R130: an accepted group change and accepted setting words take effect at a slow-tick boundary after their
acceptance, the group with event 40 (what an instance keeps over its restart: log entry 110). Each of its commands completes in
every state: its effect takes place where its operands are of its row and its requester is there, and else nothing happens. -/
def Obligations.SurgesAndGroups : Prop :=
  (∀ (t b k i : Nat) (s : State), let a := s.at t; let n := a.ana.strobe - 5; let nc := a.flt.nc
    let tags := ((upto 5).map (fun j => a.iseTags b nc (n + j))).flatten
    b < 12 → k < 3 → a.iseOf b = some i → a.protecting = true → nc + 5 ≤ a.ana.strobe → a.getF (PRT_BAY0_IPH b) < 48 →
    (a.bay b).ise.inc = none → (∀ l, (a.bay b).ise.last = some l → l.1 + 2 * l.2 ≤ n) → a.iseHit b i nc n k = true →
    a.elBlocked i = false → (∀ g ∈ tags, g ≠ .settling ∧ g ≠ .refUnsettled ∧ g ≠ .missing) →
    exec (.surgeInception t b k) s = .next (State.offerEdges a
      (a.setBay b { a.bay b with ise := { (a.bay b).ise with
        inc := some (n, ((upto 3).find? (a.iseHit b i nc n)).getD k, nc), ovr := tags.any (· = .overrange), last := some (n, nc) } }))) ∧
  (∀ (b i nc n k : Nat) (s : State), let c := s.getF (PRT_BAY0_IPH b) + k
    s.inrush i (some k) = false → s.puS i ≤ absN (s.dx c nc n) * 8192 →
    (∀ j, j < 4 → s.puS i ≤ 2 * (absN (s.dx c nc (n + 1 + j)) * 8192)) → s.iseHit b i nc n k = true) ∧
  (∀ (t b k i n nc : Nat) (s : State), let a := s.at t; let vp := a.gp i 4 % 65536
    let c := a.getF (PRT_BAY0_IPH b) + k
    let t1 := crossing n (a.puS i) (absN (a.dx c nc (n - 1)) * 8192) (absN (a.dx c nc n) * 8192)
    b < 12 → a.iseOf b = some i → (a.bay b).ise.inc = some (n, k, nc) → a.protecting = true → n + 16 ≤ a.ana.strobe →
    (vp ≠ 0 → ((2 * (a.gp i 4 / 65536) * 1000 * 16 * 4294967296 : Nat) : Int) < (a.strobeTime - t1 * 15625) * (vp : Int)) →
    ∃ r : IseRes, exec (.iseWindowClose t b) s = .next (State.offerEdges a
        (a.setBay b { a.bay b with ise := { (a.bay b).ise with inc := none, res := some r } })) ∧
      r.ph = phBits ((upto 3).map (a.iseHit b i nc n)) ∧ (r.dir = 1 ∨ r.dir = 2 ∨ r.dir = 3)) ∧
  (∀ (i : Nat) (r : IseRes) (s : State), let b := s.elBay i
    i < 512 → b < 12 → s.elBlocked i = false → (s.bay b).ise.res = some r →
    ∃ u : State, s.iseIntake i = u.raise 43 b (r.dist.getD 0 + 65536 * r.dir) ∧ u.flag (PRT_ISE_RES_NEW b) = true ∧
      u.getF (PRT_ISE_RES_SURGES b) = (s.getF (PRT_ISE_RES_SURGES b) + 1) % 256 ∧ u.trp = s.trp ∧ u.flt = s.flt) ∧
  (∀ (t b i v : Nat) (s : State), let a := s.at t
    b < 12 → a.sys.refPresent = true → a.iseOf b = some i → (a.bay b).ise.fwdAt = some v → v + a.gp i 6 * usU ≤ a.now →
    exec (.iseWinExpiry t b) s = .next (State.offerEdges a
      ((a.setBay b { a.bay b with ise := { (a.bay b).ise with fwdAt := none } }).setFlag (PRT_BSTAT_ISE_FWD b) false))) ∧
  (∀ (t b g m : Nat) (s : State), let a := s.at t
    b < 12 → a.protecting = true → (a.bay b).grpReq = some (g, m) → m ≠ a.flt.m →
    exec (.groupChangeEffect t b) s = .next (State.offerEdges a
      (let c := (a.setBay b { a.bay b with grpReq := none }).setFlag (PRT_BSTAT_GRP_PEND b) false
       if g = c.getF (PRT_BSTAT_GRP b) then c
       else ((c.setF (PRT_BSTAT_GRP b) g).incWrap (PRT_BSTAT_GRP_CHG b)).raise 40 b g))) ∧
  (∀ (t i w v m : Nat) (s : State), let a := s.at t; let x := a.inst i
    i < 512 → a.protecting = true → x.setReq = [(w, v, m)] → m ≠ a.flt.m →
    exec (.settingWriteEffect t i) s = .next (State.offerEdges a
      ((((a.clearOuter i).clearSurge i).wr (PRT_SET i w) (BitVec.ofNat 32 v)).publish i
        { resetInst with theta := x.theta, v1 := x.v1, lastTau := x.lastTau, tag := x.tag, setReq := [] }))) ∧
  (∀ (t b ph : Nat) (s : State), let a := s.at t; exec (.surgeInception t b ph) s = .next
    (if b < 12 ∧ ph < 3 then State.offerEdges a (surgeInceptionEff b ph a) else a)) ∧
  (∀ (t b : Nat) (s : State), let a := s.at t; exec (.iseWindowClose t b) s = .next
    (if b < 12 then State.offerEdges a (iseWindowCloseEff b a) else a)) ∧
  (∀ (t b : Nat) (s : State), let a := s.at t; exec (.iseWinExpiry t b) s = .next
    (if b < 12 then State.offerEdges a (iseWinExpiryEff b a) else a)) ∧
  (∀ (t b : Nat) (s : State), let a := s.at t; exec (.groupChangeEffect t b) s = .next
    (if b < 12 then State.offerEdges a (groupChangeEffectEff b a) else a)) ∧
  (∀ (t i : Nat) (s : State), let a := s.at t; exec (.settingWriteEffect t i) s = .next
    (if i < 512 then State.offerEdges a (settingWriteEffectEff i a) else a))

/-- R170, R171, R173, R176, R396: at a fast tick the estimate set becomes readable and the heartbeat due 3.0 µs later; a pod's slow
list starts with the index after the last, keeps the longest run in SLOW_MAX and takes group changes and setting words, its entries
then due at their slots' ends; each is evaluated at its slot's end on the half of the list's index. A list running 2.865 µs before
the boundary after next is given up and one not started is skipped, each counted, a halted pod's too (that the ends of the slots
are operands, and that a stopped pod counts no list: log entry 107). Each of its commands completes in every state: its effect
takes place where its operands are of its row and its requester is there, and else nothing happens. -/
def Obligations.FastAndSlowLists : Prop :=
  (∀ (t : Nat) (s : State), let a := s.at t
    a.sampling = true → a.sys.refPresent = true →
    ∃ s', exec (.fastTick t) s = .next s' ∧ s'.flt.geyRead = a.flt.geyNew ∧ s'.flt.geyK = (a.ana.strobe - 1) / 16 ∧
      s'.oz.hbDue = some (a.now + 48000) ∧ s'.ana = a.ana ∧ s'.tim = a.tim ∧ s'.sec = a.sec) ∧
  (∀ (t p cycles : Nat) (ends : List Nat) (s : State), let a := s.at t; let b := a.slowTrim p; let k := b.nextList p
    let l := lget [] b.prt.order p
    let c := b.setSlow p ⟨some k, some (b.now + cycles * 20), cycles, slotEnds b.now cycles 0 ends l⟩
    let d := c.setF (TRP_SCHED_SLOW_MAX p) (Nat.max (c.getF (TRP_SCHED_SLOW_MAX p)) (satAt 0xFFFF cycles))
    let e := (upto 12).foldl (fun b y => if b.bayPod y = p then b.takeGroup y else b) d
    p < 2 → a.protecting = true → a.podRuns p = true → b.slowBusy p = false → b.flt.m ≠ 0 → k ≤ b.flt.cur.m →
    exec (.slowListStart t p cycles ends) s = .next (State.offerEdges a
      ((l.filter (· < 512)).foldl (fun b i => b.takeSettings i) e))) ∧
  (∀ (p u k e v : Nat) (rest : List (Nat × Nat)) (s : State), (s.slowOf p).idx = some k → (s.slowOf p).left = (e, v) :: rest → v ≤ u →
    (∀ r ∈ rest, u < r.2) → s.protecting = true → s.podRuns p = true →
    let b := s.setSlow p { s.slowOf p with left := rest }
    s.slowTo p u = ({ { b with now := v }.slowEntry (if k = s.flt.cur.m then s.flt.cur else s.flt.prev) (s.tauAt k) e with now := s.now })) ∧
  (∀ (t p : Nat) (s : State), let a := s.at t
    p < 2 → a.protecting = true → (a.podRuns p = true ∨ a.podHalted p = true) →
    exec (.slowListAbandon t p) s = .next (State.offerEdges a (a.slowTrim p))) ∧
  (∀ (p k : Nat) (s : State), s.protecting = true → (s.podRuns p = true ∨ s.podHalted p = true) → (s.slowOf p).left = [] →
    (∀ e, (s.slowOf p).endAt = some e → s.slowUpTo p < e → k = (s.slowOf p).idx.getD 0) →
    ((∀ e, (s.slowOf p).endAt = some e → e ≤ s.slowUpTo p) → k = s.nextList p) → k + 1 = s.flt.cur.m → s.slowLimit ≤ s.now →
    s.slowTrim p = (s.setSlow p { s.slowOf p with idx := some k, endAt := none, left := [] }).incSat (TRP_SCHED2_SKIP p)) ∧
  (∀ (t : Nat) (s : State), let a := s.at t; exec (.fastTick t) s = .next (State.offerEdges a (startTickEff a))) ∧
  (∀ (t p cycles : Nat) (ends : List Nat) (s : State), let a := s.at t; exec (.slowListStart t p cycles ends) s = .next
    (if p < 2 then State.offerEdges a (slowListStartEff p cycles ends a) else a)) ∧
  (∀ (t p : Nat) (s : State), let a := s.at t; exec (.slowListAbandon t p) s = .next
    (if p < 2 then State.offerEdges a (slowListAbandonEff p a) else a))

/-- R180, R184, R185: a pod's words at a commit are the bitwise majority of their three copies, and a difference counts in VMM and
raises event 45 (TRIP_VOTE_MISMATCH) with the outputs concerned; words that are not readable leave the previous words in use and
count in MISS of the pod, every fourth in a row counts as its failure and raises event 46; a pod halted by the debugger contributes
0 and counts nothing; the pod's OK bit says whether its words were present at the last four commits (R201). R171, R173, R180 to
R185: a release in RUN or TEST gives each pod that commits three copies of its words over the elements whose slots have ended,
whatever crossing is overrun (R14; that the newest value stands there is log entry 31's reading); the commit takes the words of
both pods, forms ARM and FIRE of the matrix and sets every output by its row; outside RUN and TEST it only takes the released words
away; the fourth missing commit of a pod counts as its failure; the least on-time of an output ends. Each of its commands completes
in every state: its effect takes place where its operands are of its row and its requester is there, and else nothing happens. -/
def Obligations.TripCommits : Prop :=
  (∀ a b c n : Nat, (majCopies [a, b, c]).testBit n =
    ((a.testBit n && b.testBit n) || (a.testBit n && c.testBit n) || (b.testBit n && c.testBit n))) ∧
  (∀ a b c n : Nat, (diffCopies [a, b, c]).testBit n = ((a.testBit n != b.testBit n) || (a.testBit n != c.testBit n))) ∧
  (∀ (s : State) (p : Nat) (w : PodWords), p < 2 → lget none s.trp.rel p = some w → s.trp.last.length = 2 →
    let b := s.takeWords p false
    let d := Nat.lor (diffCopies w.arm) (diffCopies w.fire)
    lget (0, 0) b.trp.last p = (majCopies w.arm, majCopies w.fire) ∧
    lget (0, 0) b.trp.last (1 - p) = lget (0, 0) s.trp.last (1 - p) ∧
    b.flag (podOkF p) = decide (3 ≤ lget 0 s.trp.present p) ∧
    b.getF TRP_CNT_VMM = (if d = 0 then s.getF TRP_CNT_VMM else satInc (2 ^ TRP_CNT_VMM.width - 1) (s.getF TRP_CNT_VMM)) ∧
    (d = 0 → b.evt = s.evt)) ∧
  (∀ (s : State) (p : Nat), p < 2 → s.podHalted p = false → s.trp.miss.length = 2 → s.trp.missFail.length = 2 →
    let b := s.takeWords p true
    b.trp.last = s.trp.last ∧ lget 0 b.trp.miss p = satInc 4 (lget 0 s.trp.miss p) ∧
    b.getF (missF p) = satInc (2 ^ (missF p).width - 1) (s.getF (missF p)) ∧
    b.flag (podOkF p) = false ∧
    (lget 0 s.trp.miss p = 3 → lget false b.trp.missFail p = true) ∧
    (lget 0 s.trp.miss p ≠ 3 → b.trp.missFail = s.trp.missFail ∧ b.evt = s.evt)) ∧
  (∀ (s : State) (p : Nat) (lost : Bool), p < 2 → s.podHalted p = true → s.trp.last.length = 2 →
    (lost = true ∨ lget none s.trp.rel p = none) →
    let b := s.takeWords p lost
    lget (0, 0) b.trp.last p = (0, 0) ∧ b.evt = s.evt ∧ b.flag (podOkF p) = false ∧ b.getF (missF p) = s.getF (missF p)) ∧
  (∀ (t : Nat) (s : State), let a := s.at t; a.protecting = true → a.podRuns 0 = true → a.podRuns 1 = true →
    let v := a.ahead
    ∃ s', exec (.wordRelease t [] []) s = .next s' ∧ s'.regs = a.regs ∧ s'.evt = a.evt ∧
      (∀ p, p < 2 → lget none s'.trp.rel p =
        some ⟨[v.podWord false p, v.podWord false p, v.podWord false p], [v.podWord true p, v.podWord true p, v.podWord true p]⟩)) ∧
  (∀ (t : Nat) (flips : List (Nat × Nat × Nat × Nat)) (third : List Nat) (s : State), let a := s.at t; a.protecting = true →
    exec (.wordRelease t flips third) s = .next (State.offerEdges a (third.foldl State.crossOverrun (wordReleaseEff flips a)))) ∧
  (∀ (t : Nat) (m0 m1 : Bool) (s : State), let a := s.at t; let w := (a.takeWords 0 m0).takeWords 1 m1
    let b := (w.setF TRP_ARM_ST_ARM (w.matrix false)).setF TRP_FIRE_ST_FIRE (w.matrix true)
    let c := (upto 32).foldl (fun c n => c.commitOutput n (w.matrix false) (w.matrix true)) b
    let d : State := { c with trp := { c.trp with
      prevArm := a.getF TRP_DRV_ARM_DARM, prevFire := a.getF TRP_DRV_FIRE_DFIRE, commitAt := c.now, rel := [none, none], resets := 0
      loAtCommit := c.trp.lo, fullAt := if a.trp.present.all (· = 4) then c.trp.fullAt else c.now } }
    a.protecting = true → exec (.tripCommit t m0 m1) s = .next (State.offerEdges a
      ({ d with trp := { d.trp with frame := d.binFrame } }.logicGroups.tripStat))) ∧
  (∀ (t : Nat) (m0 m1 : Bool) (s : State), let a := s.at t; a.protecting = false →
    exec (.tripCommit t m0 m1) s = .next (State.offerEdges a
      (({ a with trp := { a.trp with prevArm := a.getF TRP_DRV_ARM_DARM, prevFire := a.getF TRP_DRV_FIRE_DFIRE, commitAt := a.now
                                     rel := [none, none], resets := 0, present := [0, 0] } }.setFlag TRP_STAT_P0_OK false).setFlag
        TRP_STAT_P1_OK false))) ∧
  (∀ (t p : Nat) (s : State), let a := s.at t; p < 2 → lget 0 a.trp.miss p = 4 →
    exec (.commitMissingLimit t p) s = .next (State.offerEdges a
      (if lget false a.trp.missFail p = true then a else (a.commitFail p).tripStat))) ∧
  (∀ (t n f : Nat) (s : State), let a := s.at t; n < 32 → lget none a.trp.firedAt n = some f →
    a.sys.refPresent = true → f + a.getF (TRP_OCFG_MINON n) * msU ≤ a.now →
    exec (.minonExpiry t n) s = .next (State.offerEdges a { a with trp := { a.trp with firedAt := lset a.trp.firedAt n none } })) ∧
  (∀ (t : Nat) (flips : List (Nat × Nat × Nat × Nat)) (third : List Nat) (s : State), let a := s.at t; exec (.wordRelease t flips third) s = .next
    (State.offerEdges a (crossedReleaseEff flips third a))) ∧
  (∀ (t : Nat) (miss0 miss1 : Bool) (s : State), let a := s.at t; exec (.tripCommit t miss0 miss1) s = .next
    (State.offerEdges a (tripCommitEff miss0 miss1 a))) ∧
  (∀ (t p : Nat) (s : State), let a := s.at t; exec (.commitMissingLimit t p) s = .next
    (if p < 2 then State.offerEdges a (commitMissingLimitEff p a) else a)) ∧
  (∀ (t n : Nat) (s : State), let a := s.at t; exec (.minonExpiry t n) s = .next
    (if n < 32 then State.offerEdges a (minonExpiryEff n a) else a))

/-- R182: what an output's row gives it, in the order of the table: outside RUN and TEST and for an output not enabled both states
are 0; in TEST a forced output has its forced states and an unforced one 0; with a contributing pod failed FAILACT decides (0: the
terms as they are, 1: both states 0, 2: both 1); else the ARM and FIRE terms, an asserted FIRE asserting ARM too, the latch and the
least on-time (while it runs) holding FIRE (R183). R186, R188, R189, R420: at a half-period boundary from step 8 on, or while a
ball is high, every asserted output's ball changes its level and every other is low, a commit at the very instant not counting yet;
WDOG_OK toggles at its own boundary strictly after its conditions came to hold (which of them is the last: log entry 115), else is
low; while power-on reset holds, no level changes (log entry 134); a ball off its level sets its bit once with event 47
(TRIP_DRIVE_FAULT), and no level changes by it. Each of its commands completes in every state: its effect takes place where its
operands are of its row and its requester is there, and else nothing happens. -/
def Obligations.OutputDrives : Prop :=
  (∀ (s : State) (n arm fire : Nat) (lat : Bool), n < 32 →
  let failed := (upto 3).any (fun p => s.podFailed p && s.contributes p n)
  let f := s.heldFire n (fire.testBit n) lat
  ((s.protecting = false ∨ s.flag (TRP_OCFG_EN n) = false) → s.driveRow n arm fire lat = ⟨false, false, false, false⟩) ∧
  (s.mode = .test → s.flag (TRP_OCFG_EN n) = true → s.driveRow n arm fire lat =
    if s.trp.forced.testBit n then
      ⟨(s.getF TRP_FRC_ARM_FARM).testBit n, (s.getF TRP_FRC_FIRE_FFIRE).testBit n, false, false⟩
    else ⟨false, false, false, false⟩) ∧
  (s.mode = .run → s.flag (TRP_OCFG_EN n) = true → failed = true →
    (s.getF (TRP_OCFG_FAILACT n) = 0 → s.driveRow n arm fire lat = ⟨arm.testBit n || f, f, false, true⟩) ∧
    (s.getF (TRP_OCFG_FAILACT n) = 1 → s.driveRow n arm fire lat = ⟨false, false, false, true⟩) ∧
    (s.getF (TRP_OCFG_FAILACT n) = 2 → s.driveRow n arm fire lat = ⟨true, true, false, true⟩)) ∧
  (s.mode = .run → s.flag (TRP_OCFG_EN n) = true → failed = false →
    s.driveRow n arm fire lat = ⟨arm.testBit n || f, f, true, false⟩) ∧
  (lat = true → s.heldFire n (fire.testBit n) lat = true) ∧
  (lat = false → s.minonRuns n = false → s.heldFire n (fire.testBit n) lat = fire.testBit n)) ∧
  (∀ (t n : Nat) (s : State), let a := s.at t
    a.sys.por = false → (8 ≤ a.sys.step ∨ a.trp.lvlArm ≠ 0 ∨ a.trp.lvlFire ≠ 0) → (a.now - a.trp.grid0) % 32000 = 0 → n < 32 →
    let arm := if a.now = a.trp.commitAt then a.trp.prevArm else a.getF TRP_DRV_ARM_DARM
    let fire := if a.now = a.trp.commitAt then a.trp.prevFire else a.getF TRP_DRV_FIRE_DFIRE
    ∃ s', exec (.driveHalfPeriod t) s = .next s' ∧ s'.regs = a.regs ∧
      s'.trp.lvlArm.testBit n = (a.protecting && arm.testBit n && !a.trp.lvlArm.testBit n) ∧
      s'.trp.lvlFire.testBit n = (a.protecting && fire.testBit n && !a.trp.lvlFire.testBit n)) ∧
  (∀ (t : Nat) (s : State), let a := s.at t
    a.sys.por = false → (8 ≤ a.sys.step ∨ a.trp.wdLevel = true) → (a.now - a.trp.grid0) % 800000 = 0 →
    let on := a.wdogOk && decide (a.trp.fullAt < a.now)
    exec (.wdogHalfPeriod t) s = .next (State.offerEdges a
      ({ a with trp := { a.trp with wdLevel := on && !a.trp.wdLevel } }.setFlag TRP_STAT_WDOG on))) ∧
  (∀ (t n : Nat) (fire : Bool) (s : State), let a := s.at t; let f := if fire then TRP_RBF_RBF else TRP_RBA_RBA
    n < 32 → a.sys.step ≥ 8 → a.sys.refPresent = true → (a.getF f).testBit n = false →
    exec (.readbackMismatch t n fire) s = .next (State.offerEdges a ((a.setF f (setBitN (a.getF f) n true)).raise 47 n (b2n fire)))) ∧
  (∀ (t n : Nat) (fire : Bool) (s : State), let a := s.at t; let f := if fire then TRP_RBF_RBF else TRP_RBA_RBA
    n < 32 → (a.getF f).testBit n = true → exec (.readbackMismatch t n fire) s = .next a) ∧
  (∀ (t : Nat) (s : State), let a := s.at t; a.sys.por = true →
    exec (.driveHalfPeriod t) s = .next a ∧ exec (.wdogHalfPeriod t) s = .next a) ∧
  (∀ (t : Nat) (s : State), let a := s.at t; exec (.driveHalfPeriod t) s = .next (State.offerEdges a (driveHalfPeriodEff a))) ∧
  (∀ (t n : Nat) (fire : Bool) (s : State), let a := s.at t; exec (.readbackMismatch t n fire) s = .next
    (if n < 32 then State.offerEdges a (readbackMismatchEff n fire a) else a)) ∧
  (∀ (t : Nat) (s : State), let a := s.at t; exec (.wdogHalfPeriod t) s = .next (State.offerEdges a (wdogHalfPeriodEff a)))

/-- R191 to R193: an edge at an input's ball changes its level and, where the input is sampled, its raw state, begins a new run and
counts a run shorter than DEB + 1 strobes as a glitch, while a longer one has changed the debounced state first; the debounced
state follows once the raw state has held DEB + 1 strobes, with the strobe of the first sample of the run as its index, that
strobe's label as its time, and one more in CHG. Each of its commands completes in every state: its effect takes place where its
operands are of its row and its requester is there, and else nothing happens. -/
def Obligations.BinaryInputs : Prop :=
  (∀ (t i : Nat) (level : Bool) (s : State), let a := s.at t; let x := a.bio i; let raw := a.bioOn i && (level != a.flag (BIO_CFG_INV i))
    i < 64 → (a.sys.step < 9 ∨ a.sys.refPresent = false ∨
      (raw = x.raw ∧ (x.raw = a.bin i ∨ a.strobeNow < x.runFrom + a.getF (BIO_CFG_DEB i) + 1))) →
    exec (.binaryInputEdge t i level) s = .next (State.offerEdges a
      { a with trp := { a.trp with bio := lset a.trp.bio i { x with level := level } } })) ∧
  (∀ (t i : Nat) (level : Bool) (s : State), let a := s.at t; let raw := a.bioOn i && (level != a.flag (BIO_CFG_INV i))
    i < 64 → a.sys.step ≥ 9 → a.sys.refPresent = true → raw ≠ (a.bio i).raw → (a.bio i).raw = a.bin i →
    exec (.binaryInputEdge t i level) s = .next (State.offerEdges a
      (setHalf { a with trp := { a.trp with bio := lset (lset a.trp.bio i { a.bio i with level := level }) i ⟨level, raw, a.strobeNow⟩ } }
        BIO_RAW_LO_RAW BIO_RAW_HI_RAW i raw))) ∧
  (∀ (t i : Nat) (level : Bool) (s : State), let a := s.at t; let x := a.bio i; let raw := a.bioOn i && (level != a.flag (BIO_CFG_INV i))
    i < 64 → a.sys.step ≥ 9 → a.sys.refPresent = true → raw ≠ x.raw → x.raw ≠ a.bin i → a.trp.bio.length = 64 →
    a.strobeNow < x.runFrom + a.getF (BIO_CFG_DEB i) + 1 →
    ∃ s', exec (.binaryInputEdge t i level) s = .next s' ∧ s'.bio i = ⟨level, raw, a.strobeNow⟩ ∧
      s'.getF (BIO_CHG_GLITCH i) = satInc (2 ^ (BIO_CHG_GLITCH i).width - 1) (a.getF (BIO_CHG_GLITCH i)) ∧
      s'.bin i = a.bin i ∧ (∀ j, j ≠ i → s'.bio j = a.bio j)) ∧
  (∀ (t i : Nat) (level : Bool) (s : State), let a := s.at t; let x := a.bio i; let raw := a.bioOn i && (level != a.flag (BIO_CFG_INV i))
    i < 64 → a.sys.step ≥ 9 → a.sys.refPresent = true → a.bioOn i = true → raw ≠ x.raw → x.raw ≠ a.bin i → a.trp.bio.length = 64 →
    x.runFrom + a.getF (BIO_CFG_DEB i) + 1 ≤ a.strobeNow →
    ∃ s', exec (.binaryInputEdge t i level) s = .next s' ∧ s'.bio i = ⟨level, raw, a.strobeNow⟩ ∧
      s'.getF (BIO_CHG_GLITCH i) = a.getF (BIO_CHG_GLITCH i) ∧ s'.bin i = x.raw ∧
      s'.getF (BIO_CHG_CHG i) = (a.getF (BIO_CHG_CHG i) + 1) % 2 ^ (BIO_CHG_CHG i).width) ∧
  (∀ (t i : Nat) (s : State), let a := s.at t; let x := a.bio i
    let lab := splitTime (a.labelOf ((x.runFrom : Int) * 15625 * 4294967296))
    let b := setHalf a BIO_STATE_LO_ST BIO_STATE_HI_ST i x.raw
    i < 64 → a.sys.step ≥ 9 → a.sys.refPresent = true → a.bioOn i = true → x.raw ≠ a.bin i →
    x.runFrom + a.getF (BIO_CFG_DEB i) + 1 ≤ a.ana.strobe →
    exec (.debouncedChange t i) s = .next (State.offerEdges a
      (((((b.setF (BIO_IDX_IDX i) x.runFrom).setF (BIO_TLO_NS i) lab.2.1).setF (BIO_THI_SEC i) lab.1).incWrap (BIO_CHG_CHG i)).setFlag
        (BIO_CHG_DIR i) x.raw)) ∧ (setHalf a BIO_STATE_LO_ST BIO_STATE_HI_ST i x.raw).bin i = x.raw) ∧
  (∀ (t i : Nat) (s : State), let a := s.at t; let x := a.bio i
    i < 64 → (x.raw = a.bin i ∨ a.ana.strobe < x.runFrom + a.getF (BIO_CFG_DEB i) + 1) →
    exec (.debouncedChange t i) s = .next a) ∧
  (∀ (t i : Nat) (level : Bool) (s : State), let a := s.at t; exec (.binaryInputEdge t i level) s = .next
    (if i < 64 then State.offerEdges a (binaryInputEdgeEff i level a) else a)) ∧
  (∀ (t i : Nat) (s : State), let a := s.at t; exec (.debouncedChange t i) s = .next
    (if i < 64 then State.offerEdges a (debouncedChangeEff i a) else a))

/-- R16, R253, R255, R259, R261 to R263, R268, R270: in its slot a row of an armed class enters its ring; in POST it enters the
next ring and, while the record needs it, extends the record, which closes with its last row; a row its FIFO cannot take is
discarded, with event 77; outside its slot nothing is written; a closed record's entry becomes COMPLETE with event 72; the triggers
of one cycle go to every class and leave the queue of offered ones: in ARMED the first is primary and opens the record, in POST all
are additional, else they are missed; an edge at a trigger ball is offered; a trigger output ends 16 strobes after it began; a mask
count at NVIOL offers its trigger. Each of its commands completes in every state: its effect takes place where its operands are of
its row and its requester is there, and else nothing happens. -/
def Obligations.RowsAndTriggers : Prop :=
  (∀ (t c st : Nat) (s : State), let a := s.at t
    c < 8 → st < 5 → a.protecting = true → a.flag (REC_CCFG_EN c) = true → bitN (a.getF (REC_CCFG_STREAMS c)) st = true →
    a.ana.strobe ≠ 0 → (st = 3 → a.flt.cur.m % 256 = 0) →
    ((lget 8 a.tph.slots a.slotNow ≠ c ∨ a.slotNow % 8 = 0) → ∀ full, exec (.rowWrite t c st full) s = .next a) ∧
    (lget 8 a.tph.slots a.slotNow = c → a.slotNow % 8 ≠ 0 →
    (a.recState c = 1 → exec (.rowWrite t c st false) s = .next (a.ringRow c st (a.rowNow c st) (a.rcls c).ring)) ∧
    (∀ o, a.recState c = 2 → (a.rcls c).open_ = some o →
      let b := a.ringRow c st (a.rowNow c st) (a.rcls c).next
      let base := b.getF (REC_CCFG_BASE c); let per := b.basePeriod base; let g := b.seg o.seg
      let g' := if rowNew g st (a.rowNow c st) = true ∧ needsRow per g base st o = true then
        ringAdd (b.getF (REC_CCAP_CAP c)) base st (a.rowNow c st) g else g
      exec (.rowWrite t c st false) s = .next
        (if recDone per g' base (a.getF (REC_CCFG_STREAMS c)) o = true then ((b.setSeg o.seg g').closeRec c o false false).afterRec c o
         else b.setSeg o.seg g')) ∧
    ((a.recState c = 1 ∨ a.recState c = 2) → exec (.rowWrite t c st true) s = .next (a.rowLost c)) ∧
    ((a.recState c = 0 ∨ a.recState c = 3) → ∀ full, exec (.rowWrite t c st full) s = .next a))) ∧
  (∀ (t c : Nat) (s : State), let a := s.at t
    c < 8 → a.sys.refPresent = true →
    (a.tph.done.find? (fun d => d.1 = c) = none → exec (.recordIndexComplete t c) s = .next a) ∧
    (∀ d, a.tph.done.find? (fun d => d.1 = c) = some d → exec (.recordIndexComplete t c) s = .next
      (({ a with tph := { a.tph with done := a.tph.done.filter (fun e => e.2.1 != d.2.1) } }.setRidx d.2.1
        { a.ridx d.2.1 with st := 3, trunc := d.2.2.2 }).raise 72 c d.2.2.1))) ∧
  (∀ (t n : Nat) (s : State), let a := s.at t
    a.sys.refPresent = true → exec (.triggerArrival t n) s = .next
      ((upto 8).foldl (fun b c => b.trigClass c (a.tph.offered.take n))
        { a with tph := { a.tph with offered := a.tph.offered.drop n } })) ∧
  (∀ (s : State) (c : Nat) (ts : List RecTrig), s.recState c = 3 → s.flag (REC_CCFG_EN c) = true → s.hits c ts ≠ [] →
    s.trigClass c ts = s.addSat (REC_CCNT_MISSED c) (s.hits c ts).length) ∧
  (∀ (s : State) (c g : Nat) (h : Nat × RecTrig) (rest : List (Nat × RecTrig)) (ts : List RecTrig),
    s.recState c = 1 → s.flag (REC_CCFG_EN c) = true → s.hits c ts = h :: rest → (s.rcls c).ring = some g →
    let p := s.primary c h g
    let o := rest.foldl (fun o e => p.2.additional c e o) p.1
    let b := p.2.setCls c { p.2.rcls c with open_ := some o }
    endTau (b.basePeriod (b.getF (REC_CCFG_BASE c))) (b.seg g) (b.getF (REC_CCFG_BASE c)) o = none → s.trigClass c ts = b) ∧
  (∀ (s : State) (c : Nat) (o : RecOpen) (ts : List RecTrig), s.recState c = 2 → s.flag (REC_CCFG_EN c) = true → s.hits c ts ≠ [] →
    (s.rcls c).open_ = some o →
    s.trigClass c ts = s.setCls c { s.rcls c with open_ := some ((s.hits c ts).foldl (fun o e => s.additional c e o) o) }) ∧
  (∀ (s : State) (c : Nat) (e : Nat × RecTrig) (o : RecOpen), let o' := s.additional c e o
    o'.nadd = satInc 0xFFFF o.nadd ∧ o'.post = o.post ∧ o'.pre = o.pre ∧ o'.tau = o.tau ∧ o'.seg = o.seg ∧
    (15 ≤ o.adds.length → o'.adds = o.adds)) ∧
  (∀ (t i : Nat) (rising : Bool) (s : State), let a := s.at t; let tau := (a.strobeNow : Int) * 15625 * 4294967296
    i < 2 → exec (.trigInEdge t i rising) s = .next
      (if (a.protecting && bitN a.sys.ballMap (2 + i)) = false then a else
      { a with tph := { a.tph with offered := a.tph.offered ++ [⟨8, i, rising, tau, a.labelOf tau, none⟩] } })) ∧
  (∀ (t i n : Nat) (s : State), let a := s.at t
    i < 2 → (lget none a.tph.touts i = none → exec (.trigOutPulseEnd t i) s = .next a) ∧
    (lget none a.tph.touts i = some n → exec (.trigOutPulseEnd t i) s = .next
      (if a.ana.strobe < n ∨ a.sys.refPresent = false then a else { a with tph := { a.tph with touts := lset a.tph.touts i none } }))) ∧
  (∀ (t c k : Nat) (s : State), let a := s.at t; let run := Store.get (0, 0) (a.rcls c).runs k
    c < 8 → k < 128 → a.sys.refPresent = true → a.flag (REC_CCFG_EN c) = true → a.flag (REC_CCFG_MASK_EN c) = true →
    (run.1 = 0 ∨ run.1 < a.getF (REC_CMASK_NVIOL c) → exec (.maskViolation t c k) s = .next a) ∧
    (run.1 ≠ 0 → a.getF (REC_CMASK_NVIOL c) ≤ run.1 → ∃ s', exec (.maskViolation t c k) s = .next s' ∧ s'.tph.offered.length = a.tph.offered.length + 1 ∧ s'.regs = a.regs ∧
      s'.evt = a.evt)) ∧
  (∀ (t i : Nat) (rising : Bool) (s : State), let a := s.at t; exec (.trigInEdge t i rising) s = .next
    (if i < 2 then trigInEdgeEff i rising a else a)) ∧
  (∀ (t c st : Nat) (fifoFull : Bool) (s : State), let a := s.at t; exec (.rowWrite t c st fifoFull) s = .next
    (if c < 8 ∧ st < 5 then rowWriteEff c st fifoFull a else a)) ∧
  (∀ (t c : Nat) (s : State), let a := s.at t; exec (.recordIndexComplete t c) s = .next
    (if c < 8 then recordIndexCompleteEff c a else a)) ∧
  (∀ (t n : Nat) (s : State), exec (.triggerArrival t n) s = .next (triggerArrivalEff n (s.at t))) ∧
  (∀ (t i : Nat) (s : State), let a := s.at t; exec (.trigOutPulseEnd t i) s = .next (if i < 2 then trigOutPulseEndEff i a else a)) ∧
  (∀ (t c k : Nat) (s : State), let a := s.at t; exec (.maskViolation t c k) s = .next
    (if c < 8 ∧ k < 128 then maskViolationEff c k a else a))

/-- R252, R254, R258, R260, R261, R271: the control words of a class: ARM of a DISARMED class takes its lowest free segment and
makes it ARMED (FULL where none is to be had), ARM of a FULL one is STATE_DENIED, DISARM gives the ring back or lets the record
finish, APPLY takes PRE and POST or, refused, restores them with the reason, TRIG is a trigger of kind command; a window selection
needs a COMPLETE segment and a stream of it; a release ends it, and a FULL class arms with the segment; beyond the view the window
reads 0 with EOV, and a write to the window is VALUE_RANGE. Each of its commands completes in every state: its effect takes place
where its operands are of its row and its requester is there, and else nothing happens. -/
def Obligations.RecorderCommands : Prop :=
  (∀ (t c : Nat) (r : Requester) (s : State), let a := s.at t
    c < 8 → a.trAlive (reqIdx r) = true → a.judge r (REC_CCTL c) = .allowed → a.flag (REC_CCFG_EN c) = true →
    (a.protecting = false → exec (.recCctlArm t r c) s = .next (a.recordWrite r (REC_CCTL c) .stateDenied)) ∧
    (a.protecting = true → a.recState c ≠ 3 → a.recState c ≠ 0 → exec (.recCctlArm t r c) s = .next
      ((a.setFlag (REC_CSTAT_MASKSTOP c) false).recordWrite r (REC_CCTL c) .ok)) ∧
    (a.protecting = true → a.recState c = 0 →
      let n := (a.setFlag (REC_CSTAT_MASKSTOP c) false).takeSeg c none
      (∀ g, n.1 = some g → exec (.recCctlArm t r c) s = .next
        ((((n.2.armSeg c g).setCls c { n.2.rcls c with ring := some g }).recShow c 1).recordWrite r (REC_CCTL c) .ok)) ∧
      (n.1 = none → exec (.recCctlArm t r c) s = .next ((n.2.recShow c 3).recordWrite r (REC_CCTL c) .ok))) ∧
    (a.recState c = 3 → exec (.recCctlArm t r c) s = .next (a.recordWrite r (REC_CCTL c) .stateDenied)) ∧
    ((a.recState c = 0 ∨ a.recState c = 3) → exec (.recCctlDisarm t r c) s = .next ((a.recShow c 0).recordWrite r (REC_CCTL c) .ok)) ∧
    (a.recState c = 2 → exec (.recCctlDisarm t r c) s = .next
      ((a.setCls c { a.rcls c with disarm := true }).recordWrite r (REC_CCTL c) .ok)) ∧
    (a.recState c = 1 → exec (.recCctlDisarm t r c) s = .next
      ((((a.freeSeg c (a.rcls c).ring).setCls c { a.rcls c with ring := none }).recShow c 0).recordWrite r (REC_CCTL c) .ok)) ∧
    (a.protecting = true → a.getF (REC_CPOST_POST c) ≠ 0 → a.getF (REC_CPRE_PRE c) + a.getF (REC_CPOST_POST c) ≤ a.getF (REC_CCAP_CAP c) →
      exec (.recCctlApply t r c) s = .next
        ((a.setCls c { a.rcls c with pre := a.getF (REC_CPRE_PRE c), post := a.getF (REC_CPOST_POST c) }).recordWrite r
          (REC_CCTL c) .ok)) ∧
    (∀ st, st = (if a.protecting = false then Status.stateDenied
        else if a.getF (REC_CPOST_POST c) = 0 ∨ a.getF (REC_CCAP_CAP c) < a.getF (REC_CPOST_POST c) ∨
          a.getF (REC_CCAP_CAP c) ≤ a.getF (REC_CPRE_PRE c) then .valueRange
        else if a.getF (REC_CCAP_CAP c) < a.getF (REC_CPRE_PRE c) + a.getF (REC_CPOST_POST c) then .lenRange else .ok) → st ≠ .ok →
      exec (.recCctlApply t r c) s = .next
        (((a.recordWrite r (REC_CCTL c) st).setF (REC_CPRE_PRE c) (a.rcls c).pre).setF (REC_CPOST_POST c) (a.rcls c).post)) ∧
    (a.protecting = true → exec (.recCctlTrig t r c) s = .next
      ((a.trigClass c [⟨10, 0, true, a.tauOf (a.sampAt a.now), a.sampAt a.now, some c⟩]).recordWrite r (REC_CCTL c) .ok))) ∧
  (∀ (t v : Nat) (r : Requester) (s : State), let a := s.at t; let g := v % 4096; let st := v / 4096 % 8
    a.trAlive (reqIdx r) = true → a.judge r REC_WSEL = .allowed → (a.regionSecure (a.segByte g) = false ∨ a.reqSecure r = true) →
    st < 5 → (a.ridx g).st = 3 → bitN (a.seg g).streams st = true →
    exec (.recWselWrite t r v) s = .next
      (((({ a with tph := { a.tph with wsel := some g } }).setFlag REC_WSTAT_SEL true).wr REC_WSEL (BitVec.ofNat 32 (v % 65536))).recordWrite
        r REC_WSEL .ok)) ∧
  (∀ (t v : Nat) (r : Requester) (s : State), let a := s.at t
    a.trAlive (reqIdx r) = true → a.judge r REC_REL = .allowed → (a.regionSecure (a.segByte (v % 4096)) = false ∨ a.reqSecure r = true) →
    (4096 ≤ v → exec (.recRelWrite t r v) s = .next (a.recordWrite r REC_REL .valueRange)) ∧
    (v < 4096 → (a.ridx v).st ≠ 3 → exec (.recRelWrite t r v) s = .next (a.recordWrite r REC_REL .stateDenied)) ∧
    (v < 4096 → (a.ridx v).st = 3 →
      let b := a.setRidx v { a.ridx v with st := 4 }
      let d := if a.tph.wsel = some v then { b with tph := { b.tph with wsel := none } }.setFlag REC_WSTAT_SEL false else b
      (∀ c, a.segClass v = some c → d.flag (REC_CCFG_EN c) = true → d.recState c = 3 → exec (.recRelWrite t r v) s = .next
        ((((d.armSeg c v).setCls c { d.rcls c with ring := some v }).recShow c 1).recordWrite r REC_REL .ok)) ∧
      ((∀ c, a.segClass v = some c → d.flag (REC_CCFG_EN c) = false ∨ d.recState c ≠ 3) → exec (.recRelWrite t r v) s = .next
        ((d.setSeg v resetSeg).recordWrite r REC_REL .ok)))) ∧
  (∀ (c g : Nat) (s : State), s.segFirst c ≤ g → g < s.segFirst c + s.nseg c → s.segFree g = true →
    (∀ h, s.segFirst c ≤ h → h < g → s.segFree h = false) → s.takeSeg c none = (some g, s)) ∧
  (∀ (t o : Nat) (r : Requester) (s : State), let a := s.at t
    o < 0x600000 → a.trAlive (reqIdx r) = true → a.sys.mapOn = true → (a.windowSecure (0x200000 + o) = false ∨ a.reqSecure r = true) →
    (a.tph.wsel = none → exec (.recordWindowRead t r o) s = .next ((a.setFlag REC_WSTAT_EOV true).readOut [0])) ∧
    (∀ g, a.tph.wsel = some g →
      let v := viewBytes (a.seg g) (a.getF REC_WSEL_STREAM) (a.flag REC_WSEL_VIEW)
      let p := a.getF REC_WIN_BASE_OFS * 4096 + o / 4 * 4
      exec (.recordWindowRead t r o) s = .next
        (if v.length ≤ p then (a.setFlag REC_WSTAT_EOV true).readOut [0]
         else (a.setRidx g { a.ridx g with read := true }).readOut [ofLe ((v.drop p).take 4)])) ∧
    exec (.recordWindowWrite t r o) s = .next (a.recordWrite r (0x200000 + o) .valueRange)) ∧
  (∀ (t : Nat) (r : Requester) (c : Nat) (s : State), let a := s.at t; exec (.recCctlArm t r c) s = .next
    (if c < 8 ∧ a.trAlive (reqIdx r) = true then recCctlArmEff r c a else a)) ∧
  (∀ (t : Nat) (r : Requester) (c : Nat) (s : State), let a := s.at t; exec (.recCctlDisarm t r c) s = .next
    (if c < 8 ∧ a.trAlive (reqIdx r) = true then recCctlDisarmEff r c a else a)) ∧
  (∀ (t : Nat) (r : Requester) (c : Nat) (s : State), let a := s.at t; exec (.recCctlApply t r c) s = .next
    (if c < 8 ∧ a.trAlive (reqIdx r) = true then recCctlApplyEff r c a else a)) ∧
  (∀ (t : Nat) (r : Requester) (c : Nat) (s : State), let a := s.at t; exec (.recCctlTrig t r c) s = .next
    (if c < 8 ∧ a.trAlive (reqIdx r) = true then recCctlTrigEff r c a else a)) ∧
  (∀ (t : Nat) (r : Requester) (v : Nat) (s : State), let a := s.at t; exec (.recWselWrite t r v) s = .next
    (if a.trAlive (reqIdx r) = true then recWselWriteEff r v a else a)) ∧
  (∀ (t : Nat) (r : Requester) (v : Nat) (s : State), let a := s.at t; exec (.recRelWrite t r v) s = .next
    (if a.trAlive (reqIdx r) = true then recRelWriteEff r v a else a)) ∧
  (∀ (t : Nat) (r : Requester) (o : Nat) (s : State), let a := s.at t; exec (.recordWindowRead t r o) s = .next
    (if o < 0x600000 ∧ a.trAlive (reqIdx r) = true then recordWindowReadEff r o a else a)) ∧
  (∀ (t : Nat) (r : Requester) (o : Nat) (s : State), let a := s.at t; exec (.recordWindowWrite t r o) s = .next
    (if o < 0x600000 ∧ a.trAlive (reqIdx r) = true then recordWindowWriteEff r o a else a))

/-- R214 to R216: the verdict of three packets names the odd one, and the controller acts on three verdicts: nothing when all
agree, the core two of them name, the core whose verdict stands alone when the other two agree, and FAIL otherwise; three equal
packets make the packet committed, and so do two of three. R205, R214 to R219, R222, R224, R230, R234, R235: a commit boundary in
TRIPLE commits the majority and declares a core odd, or the pod fails, whether the verdicts are those of the packets or a
comparator returns another, and a halt asked for is then taken; an odd core stops at its next commit boundary; in DUAL a
difference, or a verdict other than AGREE, fails the pod; while Pod L is split, L0 commits alone and so does the pair, whose
difference stops the analysis; while it joins, L0 commits alone; a sink's report counts and declares the core odd; a core declared
odd is resynced (event 0) and rejoins as TRIPLE, and one that has been resynced eight times within the hour is retired (events 0
and 1). Each of its commands completes in every state: its effect takes place where its operands are of its row and its requester
is there, and else nothing happens. -/
def Obligations.PodVoting : Prop :=
  (∀ a b c : Packet,
    (verdict a b c = .agree ↔ a = b ∧ b = c) ∧ (verdict a b c = .odd 2 ↔ a = b ∧ b ≠ c) ∧ (verdict a b c = .odd 1 ↔ a = c ∧ a ≠ b) ∧
    (verdict a b c = .odd 0 ↔ b = c ∧ a ≠ b) ∧ (verdict a b c = .none ↔ a ≠ b ∧ a ≠ c ∧ b ≠ c)) ∧
  (∀ u v w : Verdict,
    (u = .agree ∧ v = .agree ∧ w = .agree → ruling [u, v, w] = .nothing) ∧
    (∀ x, x < 3 → (u = .odd x ∧ v = .odd x ∨ u = .odd x ∧ w = .odd x ∨ v = .odd x ∧ w = .odd x) → ruling [u, v, w] = .odd x) ∧
    (u ≠ .agree ∧ v = .agree ∧ w = .agree → ruling [u, v, w] = .odd 0) ∧
    (u = .agree ∧ v ≠ .agree ∧ w = .agree → ruling [u, v, w] = .odd 1) ∧
    (u = .agree ∧ v = .agree ∧ w ≠ .agree → ruling [u, v, w] = .odd 2) ∧
    (u = .none ∧ v = .none ∨ u = .none ∧ w = .none ∨ v = .none ∧ w = .none ∨ u ≠ v ∧ u ≠ w ∧ v ≠ w → ruling [u, v, w] = .fail)) ∧
  (∀ a b : Packet, majPacket a a b = a ∧ majPacket a b a = a ∧ majPacket b a a = a) ∧
  (∀ (t p : Nat) (x y z : Packet) (s : State), let a := s.at t
    let w := a.commitWrite p (sramEnd p) (majPacket x y z)
    p < 3 → a.podState p = 1 →
    (x = y → y = z → exec (.commitBoundary t p [x, y, z] []) s = .next (State.offerEdges a (State.podHook a (w.takeHalt p)))) ∧
    (x = y → y ≠ z → exec (.commitBoundary t p [x, y, z] []) s = .next (State.offerEdges a (State.podHook a
      (((w.incSat (POD_VCNT_VERD p)).oddCore p 2).takeHalt p)))) ∧
    (x ≠ y → x ≠ z → y ≠ z → exec (.commitBoundary t p [x, y, z] []) s = .next (State.offerEdges a (State.podHook a
      ((w.podFail p 2).takeHalt p)))) ∧
    (∀ o : List (Option Verdict), exec (.commitBoundary t p [x, y, z] o) s = .next (State.offerEdges a (State.podHook a
      ((match ruling ((upto 3).map (fun k => (lget none o k).getD (verdict x y z))) with
        | .nothing => w | .odd k => (w.incSat (POD_VCNT_VERD p)).oddCore p k | .fail => w.podFail p 2).takeHalt p))))) ∧
  (∀ (t p : Nat) (x y z : Packet) (s : State), let a := s.at t
    p < 3 → (a.podState p = 2 ∨ a.podState p = 3) →
    let d := a.stopOdd p
    let u := if d.getF (POD_STAT_RUN p) = 6 then y else x
    let v := if d.getF (POD_STAT_RUN p) = 3 then y else z
    (d.getF (POD_STAT_RUN p) = 3 ∨ d.getF (POD_STAT_RUN p) = 5 ∨ d.getF (POD_STAT_RUN p) = 6) →
    exec (.commitBoundary t p [x, y, z] []) s = .next (State.offerEdges a (State.podHook a
      (if u = v then d.commitWrite p (sramEnd p) u else d.podFail p 1))) ∧
    (∀ o k w, k < 3 → lget none o k = some w → w ≠ .agree →
      exec (.commitBoundary t p [x, y, z] o) s = .next (State.offerEdges a (State.podHook a (d.podFail p 1))))) ∧
  (∀ (p x : Nat) (s : State),
    ((s.podOf p).stopping = some x → s.stopOdd p = (s.setPod p { s.podOf p with stopping := none }).setRun p (7 - 2 ^ x)) ∧
    ((s.podOf p).stopping = none → s.stopOdd p = s)) ∧
  (∀ (t : Nat) (x y z : Packet) (s : State), let a := s.at t; let l := a.splitWrite x false
    a.podState 2 = 6 → exec (.commitBoundary t 2 [x, y, z] []) s = .next (State.offerEdges a (State.podHook a
      (if y = z then l.splitWrite y true else l.anaFault)))) ∧
  (∀ (t p : Nat) (k : List Packet) (o : List (Option Verdict)) (s : State), let a := s.at t
    p < 3 → (a.podState p = 0 ∨ a.podState p = 4 ∨ a.podState p = 5) →
    exec (.commitBoundary t p k o) s = .next (State.offerEdges a (State.podHook a a))) ∧
  (∀ (t : Nat) (x y z : Packet) (o : List (Option Verdict)) (s : State), let a := s.at t; a.podState 2 = 7 →
    exec (.commitBoundary t 2 [x, y, z] o) s = .next (State.offerEdges a (State.podHook a (a.splitWrite x false)))) ∧
  (∀ (t p core : Nat) (s : State), let a := s.at t
    p < 3 → core < 3 → a.podState p = 1 →
    exec (.sinkReport t p core) s = .next (State.offerEdges a (State.podHook a ((a.incSat (POD_VCNT_SINK p)).oddCore p core)))) ∧
  (∀ (s : State) (p x : Nat), p < 3 → x < 3 → s.podState p = 1 →
    let b := (s.setF (POD_STAT_ODD p) x).setPod p { s.podOf p with stopping := some x }
    s.oddCore p x =
      if 8 ≤ (s.resyncs p x).length then
        (((b.setF (POD_STAT_STATE p) 3).setF (POD_STAT_RETIRED p) (setBitN (b.getF (POD_STAT_RETIRED p)) x true)).raise 0 p x).raise 1 p x
      else ((b.setF (POD_STAT_STATE p) 2).setPod p { b.podOf p with resync := some (x, b.now) }).raise 0 p x) ∧
  (∀ (t p cycles x f : Nat) (s : State), let a := s.at t
    p < 3 → (a.podOf p).resync = some (x, f) → a.podState p = 2 → x < 3 → a.pod.pods.length = 3 →
    ∃ s', exec (.resyncComplete t p cycles) s = .next s' ∧ s'.podState p = 1 ∧ (s'.podOf p).stopping = none ∧ s'.getF (POD_STAT_RUN p) = 7 ∧
      s'.getF (rsF p x) = satInc 255 (a.getF (rsF p x)) ∧ (s'.podOf p).resync = none ∧ s'.evt = a.evt ∧
      s'.trp = a.trp ∧ (∀ q, q ≠ p → s'.podOf q = a.podOf q)) ∧
  (∀ (t p core : Nat) (s : State), let a := s.at t
    p < 3 → core < 3 → exec (.resyncWindowAgeing t p core) s = .next
      ((a.setPod p { a.podOf p with hist := lset (a.podOf p).hist core (a.resyncs p core) }).setF (winF p core)
        (a.resyncs p core).length)) ∧
  (∀ (t p : Nat) (packets : List Packet) (ovr : List (Option Verdict)) (s : State), let a := s.at t; exec (.commitBoundary t p packets ovr) s = .next
    (if p < 3 then State.offerEdges a (State.podHook a (commitBoundaryEff p packets ovr a)) else a)) ∧
  (∀ (t p core : Nat) (s : State), let a := s.at t; exec (.sinkReport t p core) s = .next
    (if p < 3 ∧ core < 3 then State.offerEdges a (State.podHook a (sinkReportEff p core a)) else a)) ∧
  (∀ (t p cycles : Nat) (s : State), let a := s.at t; exec (.resyncComplete t p cycles) s = .next
    (if p < 3 then State.offerEdges a (resyncCompleteEff p cycles a) else a)) ∧
  (∀ (t p core : Nat) (s : State), let a := s.at t; exec (.resyncWindowAgeing t p core) s = .next
    (if p < 3 ∧ core < 3 then resyncWindowAgeingEff p core a else a))

/-- R211 to R213, R223, R240: a pod word read with one bit in error counts in SEC and is shown in POD_ERRADDR; with two or more it
counts in DED, raises event 4 and the pod fails; the scrubber goes on to the next word and counts its passes; FAIL raises event 2
and, of Pod L, puts the logic into Failed. Each of its commands completes in every state: its effect takes place where its operands
are of its row and its requester is there, and else nothing happens. -/
def Obligations.PodMemoryErrors : Prop :=
  (∀ (t p w n : Nat) (s : State), let a := s.at t
    p < 3 → w < podWords p → (a.podRuns p = true ∨ a.podState p = 6 ∨ a.podState p = 7) →
    (n = 0 → exec (.coreMemoryRead t p w n) s = .next (State.offerEdges a (State.podHook a a))) ∧
    (n = 1 → exec (.coreMemoryRead t p w n) s = .next (State.offerEdges a (State.podHook a
      ((a.incSat (POD_MEMCNT_SEC p)).podErr p w false false)))) ∧
    (2 ≤ n → exec (.coreMemoryRead t p w n) s = .next (State.offerEdges a (State.podHook a
      ((((a.incSat (POD_MEMCNT_DED p)).podErr p w true false).raise 4 p
        (((a.incSat (POD_MEMCNT_DED p)).podErr p w true false).rd (POD_ERRADDR p)).toNat).podFail p 3))))) ∧
  (∀ (t p : Nat) (s : State), let a := s.at t; let w := a.getF (POD_SCRUB_NEXT p)
    p < 3 → a.podState p ≠ 0 → a.podState p ≠ 4 →
    (w + 1 < podWords p → exec (.scrubSlot t p 0) s = .next (State.offerEdges a (State.podHook a
      (a.setF (POD_SCRUB_NEXT p) (w + 1))))) ∧
    (podWords p ≤ w + 1 → exec (.scrubSlot t p 0) s = .next (State.offerEdges a (State.podHook a
      (((a.setF (POD_SCRUB_NEXT p) 0).incWrap (POD_MEMCNT_PASS p)).setPod p { a.podOf p with passSec := false }))))) ∧
  (∀ (s : State) (p cause : Nat), p < 2 → s.podState p ≠ 4 → s.podState p ≠ 0 →
    s.podFail p cause = ((((s.setF (POD_STAT_STATE p) 4).setF (POD_STAT_FAILCAUSE p) cause).setF (POD_STAT_RUN p) 0).setPod p
      { s.podOf p with resync := none, haltReq := false, stopping := none }).raise 2 p cause) ∧
  (∀ (s : State) (cause : Nat), s.podState 2 ≠ 4 → s.podState 2 ≠ 0 →
    (s.podFail 2 cause).getF LGC_MODE_MODE = 3 ∧ (s.podFail 2 cause).flag POD_LSTAT_SPLIT = false) ∧
  (∀ (s : State) (p cause : Nat), (s.podState p = 4 ∨ s.podState p = 0) → s.podFail p cause = s) ∧
  (∀ (t p a bits : Nat) (s : State), let x := s.at t; exec (.coreMemoryRead t p a bits) s = .next
    (if p < 3 then State.offerEdges x (State.podHook x (coreMemoryReadEff p a bits x)) else x)) ∧
  (∀ (t p bits : Nat) (s : State), let a := s.at t; exec (.scrubSlot t p bits) s = .next
    (if p < 3 then State.offerEdges a (State.podHook a (scrubSlotEff p bits a)) else a))

/-- R227 to R231: the debug operations on a pod: a selection without its permission (the mode counts too, as R21's table says: log
entry 128) is refused and selects none; without a selection, or while debug of the pod selected is no longer open, every operation
is refused; (when each takes effect is log entry 118's choice:) HALT asks a TRIPLE pod to halt at its next commit boundary, a
breakpoint does the same, STEP lets a halted one run to its next commit boundary and RESUME makes it TRIPLE again; registers,
memory and breakpoints of a halted pod are read and written, and every write but that to memory enters the replay log, which holds
32; READ_MEM needs no halt, and a write to ROM or beyond memory is VALUE_RANGE; an undefined operation is UNKNOWN_OPCODE; write
data stand in DBG_DATA. Each of its commands completes in every state: its effect takes place where its operands are of its row and
its requester is there, and else nothing happens. -/
def Obligations.DebugOperations : Prop :=
  (∀ (t sel : Nat) (s : State), let a := s.at t
    sel < 4 → exec (.podSel t sel) s = .next
      (if sel = 0 ∨ (sel = 3 ∧ a.protecting = true ∧ a.flag POD_LCFG_LDBG_EN = true) ∨
          ((sel = 1 ∨ sel = 2) ∧ a.mode = .test ∧ a.flag DBG_STAT_UNLOCK = true)
       then (a.setF DBG_STAT_TARGET sel).dbgDone .ok else (a.setF DBG_STAT_TARGET 0).dbgDone .stateDenied)) ∧
  (∀ (t x y : Nat) (s : State), let a := s.at t; let d := a.dbgDone .stateDenied; let e := (a.dbgPut y).dbgDone .stateDenied
    a.dbgSel = 0 → exec (.dbgNop t) s = .next d ∧ exec (.dbgHalt t) s = .next d ∧ exec (.dbgResume t) s = .next d ∧
      exec (.dbgStep t) s = .next d ∧ exec (.dbgReadReg t x) s = .next d ∧ exec (.dbgWriteReg t x y) s = .next e ∧
      exec (.dbgReadMem t x) s = .next d ∧ exec (.dbgWriteMem t x y) s = .next e ∧
      (x < 4 → exec (.dbgSetBp t x y) s = .next e ∧ exec (.dbgClrBp t x) s = .next d)) ∧
  (∀ (t op : Nat) (s : State), 10 ≤ op → op < 16 →
    exec (.dbgUndefinedOp t op) s = .next ((s.at t).dbgDone .unknownOpcode)) ∧
  (∀ (t p : Nat) (s : State), let a := s.at t
    p < 3 → a.dbgSel = p + 1 → a.podState p = 1 → bitN (a.getF (POD_STAT_RETIRED p)) 0 = false →
    exec (.dbgNop t) s = .next (a.dbgDone .ok) ∧ exec (.dbgHalt t) s = .next ((a.askHalt p).dbgDone .ok) ∧
    exec (.dbgResume t) s = .next (a.dbgDone .stateDenied) ∧ exec (.dbgStep t) s = .next (a.dbgDone .stateDenied)) ∧
  (∀ (t p i : Nat) (s : State), let a := s.at t
    p < 3 → i < 4 → exec (.breakpointHit t p i) s = .next
      (if a.podState p = 1 ∧ a.dbgOpen (p + 1) = true ∧ (lget none (a.podOf p).bps i).isSome = true then a.askHalt p else a)) ∧
  (∀ (s : State) (p : Nat), p < 3 → s.podState p = 1 → (s.podOf p).haltReq = true →
    (s.takeHalt p).podState p = 5 ∧ (s.takeHalt p).getF (POD_STAT_RUN p) = 0 ∧ (s.takeHalt p).evt = s.evt) ∧
  (∀ (t p x y : Nat) (s : State), let a := s.at t
    let w := a.dbgPut y
    let lg (b : State) (e : LogEntry) : State := { b with pod := { b.pod with dbg := { b.pod.dbg with log := b.pod.dbg.log ++ [e] } } }
    p < 3 → a.dbgSel = p + 1 → a.podState p = 5 → bitN (a.getF (POD_STAT_RETIRED p)) 0 = false →
    exec (.dbgStep t) s = .next ((((((a.slowGoOn p).replay p).setF (POD_STAT_STATE p) 1).setRun p 7).askHalt p).dbgDone .ok) ∧
    (p < 2 → exec (.dbgResume t) s = .next (((((a.slowGoOn p).replay p).setF (POD_STAT_STATE p) 1).setRun p 7).dbgDone .ok)) ∧
    exec (.dbgReadReg t x) s = .next
      ((a.dbgPut (Store.get (Config.coreReg p x (a.podOf p).epoch) (a.podOf p).cregs x)).dbgDone .ok) ∧
    (x < podWords p → exec (.dbgReadMem t x) s = .next ((a.dbgPut (a.podWordAt p x)).dbgDone .ok)) ∧
    (podWords p ≤ x → exec (.dbgReadMem t x) s = .next (a.dbgDone .valueRange)) ∧
    (podRom p ≤ x → x < podWords p → exec (.dbgWriteMem t x y) s = .next
      (((w.podWrite p x y).incSat DBG_CNT_WRITES).dbgDone .ok)) ∧
    ((x < podRom p ∨ podWords p ≤ x) → exec (.dbgWriteMem t x y) s = .next (w.dbgDone .valueRange)) ∧
    (32 ≤ a.pod.dbg.log.length → exec (.dbgWriteReg t x y) s = .next (w.dbgDone .busyRecovery)) ∧
    (a.pod.dbg.log.length < 32 →
      exec (.dbgWriteReg t x y) s = .next
        ((((lg w (.reg x y)).setPod p { a.podOf p with cregs := Store.put y (a.podOf p).cregs x }).incSat DBG_CNT_WRITES).dbgDone .ok) ∧
      (x < 4 → exec (.dbgSetBp t x y) s = .next (((lg w (.setBp x y)).setBpAt p x (some y)).dbgDone .ok) ∧
        exec (.dbgClrBp t x) s = .next (((lg a (.clrBp x)).setBpAt p x none).dbgDone .ok)))) ∧
  (∀ (t sel : Nat) (s : State), let a := s.at t; exec (.podSel t sel) s = .next (if sel < 4 then podSelEff sel a else a)) ∧
  (∀ (t : Nat) (s : State), exec (.dbgNop t) s = .next (nopEff (s.at t))) ∧
  (∀ (t : Nat) (s : State), exec (.dbgHalt t) s = .next (haltEff (s.at t))) ∧
  (∀ (t : Nat) (s : State), exec (.dbgResume t) s = .next (resumeEff (s.at t))) ∧
  (∀ (t : Nat) (s : State), exec (.dbgStep t) s = .next (stepEff (s.at t))) ∧
  (∀ (t a : Nat) (s : State), exec (.dbgReadReg t a) s = .next (readRegEff a (s.at t))) ∧
  (∀ (t a d : Nat) (s : State), exec (.dbgWriteReg t a d) s = .next (writeRegEff a d (s.at t))) ∧
  (∀ (t a : Nat) (s : State), exec (.dbgReadMem t a) s = .next (readMemEff a (s.at t))) ∧
  (∀ (t a d : Nat) (s : State), exec (.dbgWriteMem t a d) s = .next (writeMemEff a d (s.at t))) ∧
  (∀ (t i d : Nat) (s : State), let a := s.at t; exec (.dbgSetBp t i d) s = .next (if i < 4 then setBpEff i d a else a)) ∧
  (∀ (t i : Nat) (s : State), let a := s.at t; exec (.dbgClrBp t i) s = .next (if i < 4 then clrBpEff i a else a)) ∧
  (∀ (t p i : Nat) (s : State), let a := s.at t; exec (.breakpointHit t p i) s = .next
    (if p < 3 ∧ i < 4 then breakpointHitEff p i a else a)) ∧
  (∀ (t op : Nat) (s : State), exec (.dbgUndefinedOp t op) s = .next (dbgUndefinedOpEff op (s.at t)))

/-- R443, R464, R491, R495, R511: a rail outside 3 per cent inside its reset range, and the temperature from 10 °C below the
grade's limit, raise event 125 once per excursion, which ends inside 2.5 per cent or 15 °C below the limit; the monitors show, 1.0
ms or more after they last did, the values measured (which bound counts as inside: log entry 74); a failed continuous test of the
random-number source raises event 118. The TAP's instruction codes; IDCODE is shifted out; SAMPLE/PRELOAD samples the boundary
cells and preloads them (what they hold is a free value: log entry 75); EXTEST, HIGHZ and CLAMP act only while BOOT_HOLD holds the
start, else as BYPASS: EXTEST and CLAMP put the preloaded cells on the balls, HIGHZ floats them. Each of its commands completes in
every state: its effect takes place where its operands are of its row and its requester is there, and else nothing happens. -/
def Obligations.BoardAndTap : Prop :=
  (∀ (t rail mv : Nat) (s : State), let a := s.at t
    rail < 5 → a.sys.por = false →
    (a.sys.excursions.contains rail = false → nearNom rail mv 30 = false → nearNom rail mv 60 = true →
      exec (.supplyWarnExcursion t rail mv) s = .next
        ({ a with sys := { a.sys with excursions := a.sys.excursions ++ [rail] } }.raise 125 rail mv)) ∧
    ((rail ∈ a.sys.excursions ∨ nearNom rail mv 30 = true ∨ nearNom rail mv 60 = false) → exec (.supplyWarnExcursion t rail mv) s = .next a)) ∧
  (∀ (t : Nat) (dC : Int) (s : State), let a := s.at t
    a.sys.por = false →
    (8 ∉ a.sys.excursions → gradeLimit - 100 ≤ dC → exec (.temperatureExcursion t dC) s = .next
      ({ a with sys := { a.sys with excursions := a.sys.excursions ++ [8] } }.raise 125 8 (tcBits 32 dC))) ∧
    ((8 ∈ a.sys.excursions ∨ dC < gradeLimit - 100) → exec (.temperatureExcursion t dC) s = .next a)) ∧
  (∀ (t : Nat) (s : State), let a := s.at t
    (∀ v, v ≤ gradeLimit - 150 → exec (.supplyExcursionEnd t 8 v) s = .next
      { a with sys := { a.sys with excursions := a.sys.excursions.filter (fun k => k != 8) } }) ∧
    (∀ i mv, i < 5 → nearNom i mv 25 = true → exec (.supplyExcursionEnd t i mv) s = .next
      { a with sys := { a.sys with excursions := a.sys.excursions.filter (fun k => k != i) } })) ∧
  (∀ (t locks k : Nat) (mvs : List Nat) (tj : Int) (s : State), let a := s.at t
    locks < 32 → k < 5 → a.sys.por = false → a.sys.refPresent = true →
    (∀ m, a.sys.monAt = some m → m + 250000 ≤ a.now) →
    ∃ s', exec (.monitorRefresh t mvs tj locks) s = .next s' ∧ s'.getF (SYS_VMON_MV k) = lget 0 mvs k % 2 ^ (SYS_VMON_MV k).width ∧
      s'.getF SYS_TEMP_TJ = tcBits 16 tj ∧ s'.flag SYS_CLK_REF_OK = true ∧ s'.flag SYS_CLK_SYS_LOCK = bitN locks 0 ∧
      s'.flag SYS_CLK_POD_LOCK = bitN locks 1 ∧ s'.flag SYS_CLK_MEM_LOCK = bitN locks 2 ∧
      s'.flag SYS_CLK_NET_LOCK = bitN locks 3 ∧ s'.sys = { a.sys with monAt := some a.now } ∧ s'.evt = a.evt) ∧
  (∀ (t test : Nat) (s : State), let a := s.at t
    test < 2 → a.sys.por = false → exec (.trngTestFail t test) s = .next
      ({ a with sec := { a.sec with trngOk := false } }.raise 118 0 test)) ∧
  (∀ (t : Nat) (s : State), let a := s.at t; let tap (i : TapInst) : State := { a with sys := { a.sys with tap := i } }
    exec (.tapIdcode t) s = .next ((tap .idcode).readOut [0xB64129AB]) ∧
    exec (.tapSamplePreload t) s = .next
      { a with freeCtr := a.freeCtr + 2
               sys := { a.sys with tap := .sample, bsr := (Config.boundaryCells a.freeCtr).toNat
                                   cells := (Config.boundaryCells (a.freeCtr + 1)).toNat } } ∧ exec (.tapBypass t) s = .next (tap .bypass) ∧
    ((a.sys.held = true ∧ a.mode = .boot) →
      exec (.tapExtest t) s = .next (tap .extest) ∧ exec (.tapHighz t) s = .next (tap .highz) ∧
      exec (.tapClamp t) s = .next (tap .clamp)) ∧
    ((a.sys.held = false ∨ a.mode ≠ .boot) →
      exec (.tapExtest t) s = .next (tap .bypass) ∧ exec (.tapHighz t) s = .next (tap .bypass) ∧
      exec (.tapClamp t) s = .next (tap .bypass))) ∧
  (tapOfCode 0x00 = .extest ∧ tapOfCode 0x01 = .idcode ∧ tapOfCode 0x02 = .sample ∧ tapOfCode 0x03 = .highz ∧ tapOfCode 0x04 = .clamp ∧
    tapOfCode 0x20 = .podSel ∧ tapOfCode 0x21 = .dbgCmd ∧ tapOfCode 0x22 = .dbgData ∧ tapOfCode 0x23 = .dbgStatus ∧
    (∀ c, 4 < c → c < 0x20 ∨ 0x23 < c → tapOfCode c = .bypass)) ∧
  (∀ (s : State), s.sys.held = true → s.mode = .boot →
    ((s.sys.tap = .extest ∨ s.sys.tap = .clamp) → s.ballsScan = some s.sys.cells) ∧ (s.sys.tap = .highz → s.ballsFloat = true)) ∧
  (∀ (s : State), (s.sys.held = false ∨ s.mode ≠ .boot) → s.ballsScan = none ∧ s.ballsFloat = s.sys.por) ∧
  (∀ (t rail mv : Nat) (s : State), let a := s.at t; exec (.supplyWarnExcursion t rail mv) s = .next
    (if rail < 5 then supplyWarnExcursionEff rail mv a else a)) ∧
  (∀ (t i : Nat) (v : Int) (s : State), let a := s.at t; exec (.supplyExcursionEnd t i v) s = .next
    (if i < 9 then supplyExcursionEndEff i v a else a)) ∧
  (∀ (t : Nat) (dC : Int) (s : State), exec (.temperatureExcursion t dC) s = .next (temperatureExcursionEff dC (s.at t))) ∧
  (∀ (t : Nat) (mvs : List Nat) (tj : Int) (locks : Nat) (s : State), let a := s.at t; exec (.monitorRefresh t mvs tj locks) s = .next
    (if locks < 32 then monitorRefreshEff mvs tj locks a else a)) ∧
  (∀ (t test : Nat) (s : State), let a := s.at t; exec (.trngTestFail t test) s = .next
    (if test < 2 then trngTestFailEff test a else a)) ∧
  (∀ (t : Nat) (s : State), exec (.tapExtest t) s = .next (tapExtestEff (s.at t))) ∧
  (∀ (t : Nat) (s : State), exec (.tapIdcode t) s = .next (tapIdcodeEff (s.at t))) ∧
  (∀ (t : Nat) (s : State), exec (.tapSamplePreload t) s = .next (tapSamplePreloadEff (s.at t))) ∧
  (∀ (t : Nat) (s : State), exec (.tapHighz t) s = .next (tapHighzEff (s.at t))) ∧
  (∀ (t : Nat) (s : State), exec (.tapClamp t) s = .next (tapClampEff (s.at t))) ∧
  (∀ (t : Nat) (s : State), exec (.tapBypass t) s = .next (tapBypassEff (s.at t)))

/-- R277, R281, R285, R286, R288, R301, R329: at a period start on the program's grid and at a free-running start a scan begins
with its latch unless the program does not run or a scan is still in progress, which a period start of the control program counts
as skipped; off its grid (from the first period start after the program's start: the model's choice, log 121) a period start does
nothing; a scan of the control program shows SCANNING; Hold is entered before the next call, and requests that await their latch
are discarded; the wait of INIT ends; the timers of a breaker's block run in the scan in progress, whose latched requests come
before a select's expiry: a pulse ends, and a failed supervision puts event 68 among those the scan's write raises; in Stop, where
no scan runs, they run on the inputs as they stand and the event leaves at once (log entry 131). Each of its commands completes in
every state: its effect takes place where its operands are of its row and its requester is there, and else nothing happens. -/
def Obligations.ScansStart : Prop :=
  (∀ (t k : Nat) (s : State), let a := s.at t
    k < 2 → a.protecting = true → (a.prog k).img.free = false → a.progRuns k = true → a.hasProg k = true →
    (k = 0 → a.getF LGC_MODE_MODE = 1) →
    let g := a.setProg k { a.prog k with grid := some ((a.prog k).grid.getD a.now), gridLast := a.now }
    (a.onGrid (a.prog k) = false → exec (.periodStart t k) s = .next (State.offerEdges a a)) ∧
    (a.onGrid (a.prog k) = true →
      ((a.prog k).scan = none → (k = 0 → a.lgc.joinSkip = false ∧ (a.lgc.joinFrom = none ∨ a.lgc.joinDone = true)) →
        exec (.periodStart t k) s = .next (State.offerEdges a (g.startScan k))) ∧
      (∀ sc, k = 0 → (a.prog k).scan = some sc → sc.held = false →
        exec (.periodStart t k) s = .next (State.offerEdges a (g.incSat LGC_OVR_SKIPPED))))) ∧
  (∀ (s : State) (p : ProgSt), (p.grid = none → s.onGrid p = true) ∧
    (∀ g, p.grid = some g → (s.onGrid p = true ↔ p.gridLast < s.now ∧ (s.now - g) % (p.img.period * usU) = 0))) ∧
  (∀ (t k : Nat) (s : State), let a := s.at t
    k < 2 → a.protecting = true → (a.prog k).img.free = true → a.progRuns k = true → a.hasProg k = true →
    (k = 0 → a.getF LGC_MODE_MODE = 1 ∧ (a.lgc.joinFrom = none ∨ a.lgc.joinDone = true)) → (a.prog k).scan = none →
    ((a.prog k).first ≠ 0 ∨ (a.prog k).lastWrite + usU ≤ a.now ∨ k = 0 ∧ a.lgc.joinDone = true) →
    exec (.freeRunScanStart t k) s = .next (State.offerEdges a (a.startScan k))) ∧
  (∀ s : State, (s.startScan 0).flag LGC_STAT_SCANNING = true ∧ (s.startScan 0).lgc.reqs = []) ∧
  (∀ (t : Nat) (s : State), let a := s.at t
    a.getF LGC_MODE_MODE = 1 → a.lgc.holdReq = true →
    ∃ s', exec (.holdEntry t 0) s = .next s' ∧ s'.getF LGC_MODE_MODE = 2 ∧ s'.getF LGC_MODE_MCHG = (a.getF LGC_MODE_MCHG + 1) % 2 ^ LGC_MODE_MCHG.width ∧
      s'.lgc.holdReq = false ∧ s'.lgc.reqs = [] ∧ s'.trp = a.trp ∧ (a.lgc.reqs = [] → s'.evt = a.evt)) ∧
  (∀ (t k f : Nat) (s : State), let a := s.at t
    k < 2 → a.sys.refPresent = true → (a.prog k).firstLatch = some f → f + (a.prog k).img.initWait * msU ≤ a.now →
    exec (.initWaitExpiry t k) s = .next (State.offerEdges a (a.setProg k { a.prog k with initOver := true }))) ∧
  (∀ (t brk : Nat) (sc : Scan) (c : Call) (s : State), let a := s.at t; let x := a.callCtx (a.prog 0) sc c
    let tm := bkrTime (bkrClock x) (x.t 1) (x.t 2) (x.n 4) (bkrOf x)
    let b := a.setProg 0 { a.prog 0 with
      mem := writeOuts (a.prog 0).mem c x.vt (bkrOuts tm.1)
      ints := Store.set resetBlk (a.prog 0).ints c.inst
        { x.x with st := tm.1.st, k := tm.1.dir, a := tm.1.tsel, b := tm.1.top, e := bkrClock x, tl := some sc.img.tl }
      scan := (a.prog 0).scan.map (fun sc => { sc with out := takeLouts sc.out c 4 (bkrOuts tm.1) }) }
    let r := State.offerEdges a (if (a.prog 0).scan.isSome = true
       then (if tm.2 then b.scanEvt 0 68 brk (bkrStat tm.1) else b)
       else (if tm.2 then b.raise 68 brk (bkrStat tm.1) else b).bkrSettle)
    brk < 32 → a.bkrScan = some sc →
    (instCalls (a.prog 0).calls).find? (fun c => c.type = 0x3F && callConst (a.prog 0).img c 0 = brk) = some c →
    ((bkrOf x).st = 3 → exec (.bkrPulseEnd t brk) s = .next r) ∧ ((bkrOf x).st = 4 → exec (.bkrSupervisionTimeout t brk) s = .next r) ∧
    (((bkrOf x).st = 1 ∨ (bkrOf x).st = 2) →
      ((∀ q ∈ sc.img.reqs, q.brk ≠ brk) → exec (.bkrSelectExpiry t brk) s = .next r) ∧
      ((∃ q ∈ sc.img.reqs, q.brk = brk) → exec (.bkrSelectExpiry t brk) s = .next (State.offerEdges a a)))) ∧
  (∀ (s : State) (sc : Scan), (s.prog 0).scan = some sc → s.progRuns 0 = true → s.holding 0 = false → s.bkrScan = some sc) ∧
  (∀ (s : State), (s.prog 0).scan = none → s.getF LGC_MODE_MODE = 0 → s.podRuns 2 = true →
    ∃ sc, s.bkrScan = some sc ∧ sc.img = s.latch [] []) ∧
  (∀ (t k : Nat) (s : State), let a := s.at t; exec (.periodStart t k) s = .next
    (if k < 2 then State.offerEdges a (periodStartEff k a) else a)) ∧
  (∀ (t k : Nat) (s : State), let a := s.at t; exec (.freeRunScanStart t k) s = .next
    (if k < 2 then State.offerEdges a (freeRunScanStartEff k a) else a)) ∧
  (∀ (t k : Nat) (s : State), let a := s.at t; exec (.holdEntry t k) s = .next
    (if k < 2 then State.offerEdges a (holdEntryEff k a) else a)) ∧
  (∀ (t k : Nat) (s : State), let a := s.at t; exec (.initWaitExpiry t k) s = .next
    (if k < 2 then State.offerEdges a (initWaitExpiryEff k a) else a)) ∧
  (∀ (t brk : Nat) (s : State), let a := s.at t; exec (.bkrPulseEnd t brk) s = .next
    (if brk < 32 then State.offerEdges a (bkrPulseEndEff brk a) else a)) ∧
  (∀ (t brk : Nat) (s : State), let a := s.at t; exec (.bkrSupervisionTimeout t brk) s = .next
    (if brk < 32 then State.offerEdges a (bkrSupervisionTimeoutEff brk a) else a)) ∧
  (∀ (t brk : Nat) (s : State), let a := s.at t; exec (.bkrSelectExpiry t brk) s = .next
    (if brk < 32 then State.offerEdges a (bkrSelectExpiryEff brk a) else a))

/-- R238, R282, R296, R302 to R304: the output write ends the scan and gives its outputs and the alarms its blocks raised away in
one write; a completed join ends the split with event 64 at the next start of the program; a retain commit becomes the current
copy, and the other copy stays as it was; a loaded program that passes the check waits for the swap, one that does not is refused
with its status and event 61. Each of its commands completes in every state: its effect takes place where its operands are of its
row and its requester is there, and else nothing happens. -/
def Obligations.ScansEndAndPrograms : Prop :=
  (∀ (t : Nat) (sc : Scan) (s : State), let a := s.at t
    (a.prog 1).scan = some sc → a.progRuns 1 = true → sc.pc = none →
    exec (.logicOutputWrite t 1) s = .next (State.offerEdges a
      (sc.evts.foldl (fun s e => s.raise e.1 e.2.1 e.2.2)
        ((a.setProg 1 { a.prog 1 with scan := none, out := sc.out, trig := sc.trig, first := 0, lastWrite := a.now,
                                      wrote := sc.img.ns }).scanOuts 1 sc.out)))) ∧
  (∀ (t : Nat) (sc : Scan) (s : State), let a := s.at t
    (a.prog 0).scan = some sc → a.progRuns 0 = true → sc.pc = none → a.lgc.holdReq = false →
    exec (.logicOutputWrite t 0) s = .next (State.offerEdges a
      ((sc.evts.foldl (fun s e => s.raise e.1 e.2.1 e.2.2)
        ((a.setProg 0 { a.prog 0 with scan := none, out := sc.out, trig := sc.trig, first := 0, lastWrite := a.now,
                                      wrote := sc.img.ns }).scanOuts 0 sc.out)).writeControl sc))) ∧
  (∀ (t k : Nat) (s : State), let a := s.at t
    k < 2 → ((a.prog k).scan = none ∨ a.progRuns k = false ∨ k = 0 ∧ a.lgc.holdReq = true) → exec (.logicOutputWrite t k) s = .next (State.offerEdges a a)) ∧
  (∀ (t cycles f : Nat) (s : State), let a := s.at t
    a.lgc.joinFrom = some f → a.lgc.joinDone = false → a.getF LGC_MODE_MODE ≠ 0 →
    ∃ s', exec (.joinComplete t cycles) s = .next s' ∧ s'.getF POD_LJOIN_LAST = cycles % 8192 ∧
      s'.getF POD_LJOIN_MAX = Nat.max (a.getF POD_LJOIN_MAX) (cycles % 8192) ∧ s'.lgc.joinDone = true ∧
      s'.flag POD_LSTAT_HELD = false ∧ s'.evt = a.evt ∧ s'.pod = a.pod) ∧
  (∀ s : State, s.lgc.joinDone = true →
    ∃ u : State, s.joinEnd = u.raise 64 0 (s.getF POD_LJOIN_LAST) ∧ u.flag POD_LSTAT_SPLIT = false ∧ u.podState 2 = 1 ∧
      u.getF (POD_STAT_RUN 2) = 7 ∧ u.lgc.joinDone = false ∧ u.lgc.joinFrom = none ∧ u.evt = s.evt) ∧
  (∀ (t : Nat) (c : RetainCopy) (s : State), let a := s.at t
    a.lgc.commit = some c → a.sys.refPresent = true →
    ∃ s', exec (.retainCommitDone t) s = .next s' ∧ s'.flag LGC_RTN_BUSY = false ∧ s'.lgc.commit = none ∧ s'.evt = a.evt ∧
      (a.mram.retLast = 0 → s'.mram = { a.mram with retB := c, retLast := 1 } ∧ s'.getF LGC_RTN_COPY = 1) ∧
      (a.mram.retLast ≠ 0 → s'.mram = { a.mram with retA := c, retLast := 0 } ∧ s'.getF LGC_RTN_COPY = 0)) ∧
  (∀ (t : Nat) (res : ExchLoad) (s : State), let a := s.at t
    let e := { res with prog := progCanon res.prog, ana := progCanon res.ana }
    a.getF LGC_XSTAT_XSTATE = 1 → a.sys.refPresent = true →
    (a.exchStatus res = .ok → a.getF LGC_MODE_MODE ≠ 0 → exec (.exchangeLoaded t res) s = .next (State.offerEdges a
      ((({ a with lgc := { a.lgc with exch := some e, bank := some e.prog.code } }).setF LGC_XSTAT_XSTATE 2).setF LGC_XWORK_PLAN res.plan))) ∧
    (a.exchStatus res ≠ .ok → a.lgc.exchReq = none → exec (.exchangeLoaded t res) s = .next (State.offerEdges a
      (((a.setF LGC_XSTAT_XSTATE 0).setF LGC_XSTAT_XCODE (stCode (a.exchStatus res))).raise 61 0 (stCode (a.exchStatus res)))))) ∧
  (∀ (t k : Nat) (s : State), let a := s.at t; exec (.logicOutputWrite t k) s = .next
    (if k < 2 then State.offerEdges a (logicOutputWriteEff k a) else a)) ∧
  (∀ (t cycles : Nat) (s : State), let a := s.at t; exec (.joinComplete t cycles) s = .next
    (State.offerEdges a (joinCompleteEff cycles a))) ∧
  (∀ (t : Nat) (res : ExchLoad) (s : State), let a := s.at t; exec (.exchangeLoaded t res) s = .next
    (State.offerEdges a (exchangeLoadedEff res a))) ∧
  (∀ (t : Nat) (s : State), let a := s.at t; exec (.retainCommitDone t) s = .next (State.offerEdges a (retainCommitDoneEff a)))

/-- R311, R316, R320: the end of a call: its outputs stand in instance memory, the internal state is kept, the output image takes
bound outputs, and the next word of the task follows; the other program, every register and every event stay as they were; an alarm
of a block waits for the scan's write (R282). Each of its commands completes in every state: its effect takes place where its
operands are of its row and its requester is there, and else nothing happens. -/
def Obligations.CallEnds : Prop :=
  (∀ (s : State) (k : Nat) (c : CallCtx) (outs : List Nat) (x : BlkInt) (sc : Scan), (s.prog k).scan = some sc → k < s.lgc.progs.length →
    let b := s.endCall k c outs x
    (b.prog k).mem = writeOuts (s.prog k).mem c.call c.vt outs ∧
    Store.get resetBlk (b.prog k).ints c.call.inst = { x with prime := false, ran := true, tl := some sc.img.tl } ∧
    (∀ i, i ≠ c.call.inst → Store.get resetBlk (b.prog k).ints i = Store.get resetBlk (s.prog k).ints i) ∧
    (b.prog k).scan = some { sc with out := takeLouts sc.out c.call (outTys c.call.type c.vt).length outs, pc := sc.pc.map (· + 1) } ∧
    (∀ j, j ≠ k → b.prog j = s.prog j) ∧ b.regs = s.regs ∧ b.evt = s.evt ∧ b.trp = s.trp) ∧
  (∀ (t k : Nat) (c : CallCtx) (sc : Scan) (s : State), let a := s.at t
    k < 2 → a.progRuns k = true → a.holding k = false → a.nextCall k = some c → c.call.type = 0 → (a.prog k).scan = some sc →
    exec (.blkEnd t k) s = .next (a.setProg k { a.prog k with
      scan := some { sc with tasks := (nextTask (a.prog k).img.code sc.tasks).2, pc := (nextTask (a.prog k).img.code sc.tasks).1 } })) ∧
  (∀ (s : State) (k n x y : Nat) (sc : Scan), (s.prog k).scan = some sc → k < s.lgc.progs.length →
    ((s.scanEvt k n x y).prog k).scan = some { sc with evts := sc.evts ++ [(n, x, y)] } ∧ (s.scanEvt k n x y).evt = s.evt) ∧
  (∀ (m : Store Nat) (a n v : Nat), v < 256 ^ n → memRd (memWr m a n v) a n = v) ∧
  (∀ (m : Store Nat) (a n v b : Nat), (b < a ∨ a + n ≤ b) → memRd (memWr m a n v) b 1 = memRd m b 1) ∧
  (∀ (t k : Nat) (s : State), let a := s.at t; exec (.blkEnd t k) s = .next (if k < 2 then blkEndEff k a else a))

/-- R323, R324: the truth-value blocks AND, OR, XOR, NOT, SR, RS, MAJ3, KOFN, R_TRIG and F_TRIG. Each of its commands completes in
every state: its effect takes place where its operands are of its row and its requester is there, and else nothing happens. -/
def Obligations.TruthValueBlocks : Prop :=
  (BlockAnswers .blkAnd 0x01 (fun c => ([if ∀ e ∈ c.ins, e.1 % 2 = 1 then 1 else 0], c.x)) ∧
  BlockAnswers .blkOr 0x02 (fun c => ([if ∃ e ∈ c.ins, e.1 % 2 = 1 then 1 else 0], c.x)) ∧
  BlockAnswers .blkXor 0x03 (fun c => ([if c.i 0 % 2 = c.i 1 % 2 then 0 else 1], c.x)) ∧
  BlockAnswers .blkNot 0x04 (fun c => ([1 - c.i 0 % 2], c.x)) ∧
  BlockAnswers .blkSr 0x05 (fun c => ([if c.i 0 % 2 = 1 then 1 else if c.i 1 % 2 = 1 then 0 else c.o 0 % 2], c.x)) ∧
  BlockAnswers .blkRs 0x06 (fun c => ([if c.i 1 % 2 = 1 then 0 else if c.i 0 % 2 = 1 then 1 else c.o 0 % 2], c.x)) ∧
  BlockAnswers .blkMaj3 0x07 (fun c => ([if 2 ≤ (c.ins.filter (fun e => e.1 % 2 = 1)).length then 1 else 0], c.x)) ∧
  BlockAnswers .blkKofn 0x08
    (fun c => ([if c.n 0 ≤ (((c.ins.drop 1).filter (fun e => e.1 % 2 = 1)).length : Nat) then 1 else 0], c.x)) ∧
  BlockAnswers .blkRTrig 0x09 (fun c => ([if c.x.prime = false ∧ c.x.m1 = false then c.i 0 % 2 else 0], { c.x with m1 := c.b 0 })) ∧
  BlockAnswers .blkFTrig 0x0A
    (fun c => ([if c.x.prime = false ∧ c.x.m1 = true then 1 - c.i 0 % 2 else 0], { c.x with m1 := c.b 0 }))) ∧
  (∀ (t k : Nat) (s : State), let a := s.at t; exec (.blkAnd t k) s = .next (if k < 2 then blkAndEff k a else a)) ∧
  (∀ (t k : Nat) (s : State), let a := s.at t; exec (.blkOr t k) s = .next (if k < 2 then blkOrEff k a else a)) ∧
  (∀ (t k : Nat) (s : State), let a := s.at t; exec (.blkXor t k) s = .next (if k < 2 then blkXorEff k a else a)) ∧
  (∀ (t k : Nat) (s : State), let a := s.at t; exec (.blkNot t k) s = .next (if k < 2 then blkNotEff k a else a)) ∧
  (∀ (t k : Nat) (s : State), let a := s.at t; exec (.blkSr t k) s = .next (if k < 2 then blkSrEff k a else a)) ∧
  (∀ (t k : Nat) (s : State), let a := s.at t; exec (.blkRs t k) s = .next (if k < 2 then blkRsEff k a else a)) ∧
  (∀ (t k : Nat) (s : State), let a := s.at t; exec (.blkMaj3 t k) s = .next (if k < 2 then blkMaj3Eff k a else a)) ∧
  (∀ (t k : Nat) (s : State), let a := s.at t; exec (.blkKofn t k) s = .next (if k < 2 then blkKofnEff k a else a)) ∧
  (∀ (t k : Nat) (s : State), let a := s.at t; exec (.blkRTrig t k) s = .next (if k < 2 then blkRTrigEff k a else a)) ∧
  (∀ (t k : Nat) (s : State), let a := s.at t; exec (.blkFTrig t k) s = .next (if k < 2 then blkFTrigEff k a else a))

/-- R325, R326, R328, R331, R332: the timers TON, TOF and TP, the counters CTU, CTD and CTUD, DPS, LOCKOUT and AR (whose entry into
LOCKOUT puts event 66 among those the scan's write raises). Each of its commands completes in every state: its effect takes place
where its operands are of its row and its requester is there, and else nothing happens. -/
def Obligations.TimersAndCounters : Prop :=
  (BlockAnswers .blkTon 0x0B (fun c =>
    let pt := Max.max 0 (c.t 1)
    if c.b 0 then
      let e := if c.x.m1 then clampI 0 9223372036854775807 (c.x.e + c.dt) else c.x.e
      ([if pt ≤ e then 1 else 0, tcBits 64 (Min.min e pt)], { c.x with m1 := true, e := e })
    else ([0, tcBits 64 0], { c.x with m1 := false, e := 0 })) ∧
  BlockAnswers .blkTof 0x0C (fun c =>
    let pt := Max.max 0 (c.t 1)
    if c.b 0 then ([1, tcBits 64 0], { c.x with m1 := true, st := 1, e := 0 })
    else if c.x.st = 0 then ([0, tcBits 64 (Min.min c.x.e pt)], { c.x with m1 := false })
    else
      let e := if c.x.m1 then 0 else clampI 0 9223372036854775807 (c.x.e + c.dt)
      ([if e < pt then 1 else 0, tcBits 64 (Min.min e pt)], { c.x with m1 := false, e := e })) ∧
  BlockAnswers .blkTp 0x0D (fun c =>
    let pt := Max.max 0 (c.t 1)
    let start := c.x.st = 0 ∧ c.b 0 = true ∧ c.x.m1 = false
    let e := if start then 0 else if c.x.st = 1 then clampI 0 9223372036854775807 (c.x.e + c.dt) else c.x.e
    let q : Nat := if (start ∨ c.x.st = 1) ∧ e < pt then 1 else 0
    ([q, tcBits 64 (Min.min e pt)], { c.x with m1 := c.b 0, st := q, e := e })) ∧
  BlockAnswers .blkCtu 0x0E (fun c =>
    let v := if c.b 1 then 0 else if c.b 0 = true ∧ c.x.m1 = false then Min.min 2147483647 (sext 32 (c.o 1) + 1) else sext 32 (c.o 1)
    ([if c.n 2 ≤ v then 1 else 0, tcBits 32 v], { c.x with m1 := c.b 0 })) ∧
  BlockAnswers .blkCtd 0x0F (fun c =>
    let v := if c.b 1 then c.n 2 else if c.b 0 = true ∧ c.x.m1 = false then Max.max (-2147483648) (sext 32 (c.o 1) - 1) else sext 32 (c.o 1)
    ([if v ≤ 0 then 1 else 0, tcBits 32 v], { c.x with m1 := c.b 0 })) ∧
  BlockAnswers .blkCtud 0x10 (fun c =>
    let u := c.b 0 = true ∧ c.x.m1 = false
    let d := c.b 1 = true ∧ c.x.m2 = false
    let v := if c.b 2 then 0 else if c.b 3 then c.n 4 else if u ∧ ¬ d then Min.min 2147483647 (sext 32 (c.o 2) + 1)
      else if d ∧ ¬ u then Max.max (-2147483648) (sext 32 (c.o 2) - 1) else sext 32 (c.o 2)
    ([if c.n 4 ≤ v then 1 else 0, if v ≤ 0 then 1 else 0, tcBits 32 v], { c.x with m1 := c.b 0, m2 := c.b 1 })) ∧
  BlockAnswers .blkDps 0x47 (fun c =>
    let pos := 2 * (c.i 1 % 2) + c.i 0 % 2
    if pos = 1 ∨ pos = 2 then ([pos, 0], { c.x with st := 0, e := 0 })
    else
      let e := if c.x.st = 1 then clampI 0 9223372036854775807 (c.x.e + c.dt) else 0
      ([pos, if c.t 2 ≤ e then 1 else 0], { c.x with st := 1, e := e })) ∧
  BlockAnswers .blkLockout 0x48 (fun c =>
    ([if c.i 0 % 2 = 1 then 1 else if c.b 1 = true ∧ c.x.m1 = false then 0 else c.o 0 % 2], { c.x with m1 := c.b 1 })) ∧
  (∀ (t k : Nat) (c : CallCtx) (s : State), let a := s.at t; let r := fnAr c
    k < 2 → a.progRuns k = true → a.holding k = false → a.nextCall k = some c → c.call.type = 0x40 →
    exec (.blkAr t k) s = .next
      ((if r.2.st = 6 ∧ c.x.st ≠ 6 then a.scanEvt k 66 c.call.inst r.2.k else a).endCall k c r.1 r.2))) ∧
  (∀ (t k : Nat) (s : State), let a := s.at t; exec (.blkTon t k) s = .next (if k < 2 then blkTonEff k a else a)) ∧
  (∀ (t k : Nat) (s : State), let a := s.at t; exec (.blkTof t k) s = .next (if k < 2 then blkTofEff k a else a)) ∧
  (∀ (t k : Nat) (s : State), let a := s.at t; exec (.blkTp t k) s = .next (if k < 2 then blkTpEff k a else a)) ∧
  (∀ (t k : Nat) (s : State), let a := s.at t; exec (.blkCtu t k) s = .next (if k < 2 then blkCtuEff k a else a)) ∧
  (∀ (t k : Nat) (s : State), let a := s.at t; exec (.blkCtd t k) s = .next (if k < 2 then blkCtdEff k a else a)) ∧
  (∀ (t k : Nat) (s : State), let a := s.at t; exec (.blkCtud t k) s = .next (if k < 2 then blkCtudEff k a else a)) ∧
  (∀ (t k : Nat) (s : State), let a := s.at t; exec (.blkAr t k) s = .next (if k < 2 then blkArEff k a else a)) ∧
  (∀ (t k : Nat) (s : State), let a := s.at t; exec (.blkDps t k) s = .next (if k < 2 then blkDpsEff k a else a)) ∧
  (∀ (t k : Nat) (s : State), let a := s.at t; exec (.blkLockout t k) s = .next (if k < 2 then blkLockoutEff k a else a))

/-- R318, R319, R323: the comparisons, the arithmetic blocks (INT32 and TIME saturate and say so in OVF, a division by 0 gives 0
with the error bit), the choices, the bit operations on INT32 and the conversions; REAL32 arithmetic is that of the
single-precision operations of the model, NaN and infinite operands are taken as IEEE 754 has them and leave no block (log entry
28): a finite operand that is no subnormal is its own clean value. Each of its commands completes in every state: its effect takes
place where its operands are of its row and its requester is there, and else nothing happens. -/
def Obligations.NumberBlocks : Prop :=
  (BlockAnswers .blkEq 0x11 (fun c => ([if vtEq c.vt (c.i 0) (c.i 1) then 1 else 0], c.x)) ∧
  BlockAnswers .blkNe 0x12 (fun c => ([if vtEq c.vt (c.i 0) (c.i 1) then 0 else 1], c.x)) ∧
  BlockAnswers .blkGt 0x13 (fun c => ([if vtLt c.vt (c.i 1) (c.i 0) then 1 else 0], c.x)) ∧
  BlockAnswers .blkGe 0x14 (fun c => ([if vtLe c.vt (c.i 1) (c.i 0) then 1 else 0], c.x)) ∧
  BlockAnswers .blkLt 0x15 (fun c => ([if vtLt c.vt (c.i 0) (c.i 1) then 1 else 0], c.x)) ∧
  BlockAnswers .blkLe 0x16 (fun c => ([if vtLe c.vt (c.i 0) (c.i 1) then 1 else 0], c.x)) ∧
  BlockAnswers .blkHyst 0x17 (fun c => ([if fLe (c.i 1) (c.i 2) then (if fLe (c.i 1) (c.i 0) then 1 else 0)
    else if fLe (c.i 1) (c.i 0) then 1 else if fLe (c.i 0) (c.i 2) then 0 else c.o 0 % 2], c.x)) ∧
  BlockAnswers .blkAdd 0x18 (fun c => (if c.vt = .real then [(fAdd (c.i 0) (c.i 1)).1, b2n (fAdd (c.i 0) (c.i 1)).2]
    else satOut c.vt (c.z 0 + c.z 1), c.x)) ∧
  BlockAnswers .blkSub 0x19 (fun c => (if c.vt = .real then [(fSub (c.i 0) (c.i 1)).1, b2n (fSub (c.i 0) (c.i 1)).2]
    else satOut c.vt (c.z 0 - c.z 1), c.x)) ∧
  BlockAnswers .blkMul 0x1A (fun c => (if c.vt = .real then [(fMul (c.i 0) (c.i 1)).1, b2n (fMul (c.i 0) (c.i 1)).2]
    else satOut c.vt (c.z 0 * c.z 1), c.x)) ∧
  BlockAnswers .blkDiv 0x1B (fun c => (if c.vt = .real then [(fDiv (c.i 0) (c.i 1)).1, b2n (fDiv (c.i 0) (c.i 1)).2]
    else if c.n 1 = 0 then [0, 1] else satOut .int ((c.n 0).tdiv (c.n 1)), c.x)) ∧
  BlockAnswers .blkMod 0x1C (fun c => (if c.n 1 = 0 then [0, 1] else [tcBits 32 ((c.n 0).tmod (c.n 1)), 0], c.x)) ∧
  BlockAnswers .blkAbs 0x1D (fun c => (if c.vt = .real then realOut (fClean (c.i 0 % 2147483648)) else satOut .int (absN (c.n 0) : Nat), c.x)) ∧
  BlockAnswers .blkNeg 0x1E (fun c => (if c.vt = .real then realOut (fClean (fNegate (c.i 0))) else satOut c.vt (-c.z 0), c.x)) ∧
  BlockAnswers .blkSqrt 0x1F (fun c => (if fLt (c.i 0) 0 then [0, 1] else [(fSqrt (c.i 0)).1, b2n (fSqrt (c.i 0)).2], c.x)) ∧
  BlockAnswers .blkMin 0x20 (fun c => ([if vtLt c.vt (c.i 1) (c.i 0) then c.i 1 else c.i 0], c.x)) ∧
  BlockAnswers .blkMax 0x21 (fun c => ([if vtLt c.vt (c.i 0) (c.i 1) then c.i 1 else c.i 0], c.x)) ∧
  BlockAnswers .blkSel 0x22 (fun c => ([if c.i 0 % 2 = 1 then c.i 2 else c.i 1], c.x)) ∧
  BlockAnswers .blkMux 0x23 (fun c => (if 0 ≤ c.n 0 ∧ c.n 0 < ((c.ins.length - 1 : Nat) : Int) then [c.i (1 + (c.n 0).toNat), 0]
    else [c.o 0, 1], c.x)) ∧
  BlockAnswers .blkLimit 0x24 (fun c => (if vtLt c.vt (c.i 2) (c.i 0) then [c.i 0, 1] else if vtLt c.vt (c.i 1) (c.i 0) then [c.i 0, 0]
    else if vtLt c.vt (c.i 2) (c.i 1) then [c.i 2, 0] else [c.i 1, 0], c.x)) ∧
  BlockAnswers .blkMove 0x25 (fun c => ([c.i 0], c.x)) ∧
  BlockAnswers .blkPack 0x26 (fun c => ([(c.ins.foldr (fun e r => e.1 % 2 + 2 * r) 0) % 4294967296], c.x)) ∧
  BlockAnswers .blkUnpack 0x27 (fun c => ((upto 16).map (fun k => c.i 0 / 2 ^ k % 2), c.x)) ∧
  BlockAnswers .blkBand 0x28 (fun c => ([c.i 0 &&& c.i 1], c.x)) ∧
  BlockAnswers .blkBor 0x29 (fun c => ([c.i 0 ||| c.i 1], c.x)) ∧
  BlockAnswers .blkBxor 0x2A (fun c => ([c.i 0 ^^^ c.i 1], c.x)) ∧
  BlockAnswers .blkShl 0x2B (fun c => ([if 0 ≤ c.n 1 ∧ c.n 1 ≤ 31 then c.i 0 * 2 ^ (c.n 1).toNat % 4294967296 else 0], c.x)) ∧
  BlockAnswers .blkShr 0x2C (fun c => ([if 0 ≤ c.n 1 ∧ c.n 1 ≤ 31 then c.i 0 / 2 ^ (c.n 1).toNat else 0], c.x)) ∧
  BlockAnswers .blkI2r 0x2D (fun c => ([fOfInt (c.n 0)], c.x)) ∧
  BlockAnswers .blkR2i 0x2E (fun c => (if fNan (c.i 0) then [0, 1] else satOut .int (fToInt (c.i 0) 1 1), c.x)) ∧
  BlockAnswers .blkB2i 0x2F (fun c => ([c.i 0 % 2], c.x)) ∧
  BlockAnswers .blkI2b 0x30 (fun c => ([if c.i 0 = 0 then 0 else 1], c.x)) ∧
  BlockAnswers .blkT2i 0x31 (fun c => (satOut .int (divHalfEven (c.t 0) 1000000), c.x)) ∧
  BlockAnswers .blkI2t 0x32 (fun c => ([tcBits 64 (c.n 0 * 1000000)], c.x)) ∧
  BlockAnswers .blkT2r 0x33 (fun c => ([(fOf false (c.t 0) 1000000000 0).1], c.x)) ∧
  BlockAnswers .blkR2t 0x34 (fun c => (if fNan (c.i 0) then [0, 1] else satOut .time (fToInt (c.i 0) 1000000000 1), c.x)) ∧
  (∀ b : Nat, fExp b ≠ 255 → fExp b ≠ 0 → fClean b = (b, false)) ∧ (∀ b : Nat, fNan b = true → fClean b = (0, true)) ∧
  (∀ a b : Nat, fNan a = true ∨ fNan b = true → fLt a b = false ∧ fLe a b = false) ∧
  (∀ v : Int, -2147483648 ≤ v → v ≤ 2147483647 → satOut .int v = [tcBits 32 v, 0]) ∧
  (∀ v : Int, 2147483647 < v → satOut .int v = [2147483647, 1]) ∧ (∀ v : Int, v < -2147483648 → satOut .int v = [2147483648, 1])) ∧
  (∀ (t k : Nat) (s : State), let a := s.at t; exec (.blkEq t k) s = .next (if k < 2 then blkEqEff k a else a)) ∧
  (∀ (t k : Nat) (s : State), let a := s.at t; exec (.blkNe t k) s = .next (if k < 2 then blkNeEff k a else a)) ∧
  (∀ (t k : Nat) (s : State), let a := s.at t; exec (.blkGt t k) s = .next (if k < 2 then blkGtEff k a else a)) ∧
  (∀ (t k : Nat) (s : State), let a := s.at t; exec (.blkGe t k) s = .next (if k < 2 then blkGeEff k a else a)) ∧
  (∀ (t k : Nat) (s : State), let a := s.at t; exec (.blkLt t k) s = .next (if k < 2 then blkLtEff k a else a)) ∧
  (∀ (t k : Nat) (s : State), let a := s.at t; exec (.blkLe t k) s = .next (if k < 2 then blkLeEff k a else a)) ∧
  (∀ (t k : Nat) (s : State), let a := s.at t; exec (.blkHyst t k) s = .next (if k < 2 then blkHystEff k a else a)) ∧
  (∀ (t k : Nat) (s : State), let a := s.at t; exec (.blkAdd t k) s = .next (if k < 2 then blkAddEff k a else a)) ∧
  (∀ (t k : Nat) (s : State), let a := s.at t; exec (.blkSub t k) s = .next (if k < 2 then blkSubEff k a else a)) ∧
  (∀ (t k : Nat) (s : State), let a := s.at t; exec (.blkMul t k) s = .next (if k < 2 then blkMulEff k a else a)) ∧
  (∀ (t k : Nat) (s : State), let a := s.at t; exec (.blkDiv t k) s = .next (if k < 2 then blkDivEff k a else a)) ∧
  (∀ (t k : Nat) (s : State), let a := s.at t; exec (.blkMod t k) s = .next (if k < 2 then blkModEff k a else a)) ∧
  (∀ (t k : Nat) (s : State), let a := s.at t; exec (.blkAbs t k) s = .next (if k < 2 then blkAbsEff k a else a)) ∧
  (∀ (t k : Nat) (s : State), let a := s.at t; exec (.blkNeg t k) s = .next (if k < 2 then blkNegEff k a else a)) ∧
  (∀ (t k : Nat) (s : State), let a := s.at t; exec (.blkSqrt t k) s = .next (if k < 2 then blkSqrtEff k a else a)) ∧
  (∀ (t k : Nat) (s : State), let a := s.at t; exec (.blkMin t k) s = .next (if k < 2 then blkMinEff k a else a)) ∧
  (∀ (t k : Nat) (s : State), let a := s.at t; exec (.blkMax t k) s = .next (if k < 2 then blkMaxEff k a else a)) ∧
  (∀ (t k : Nat) (s : State), let a := s.at t; exec (.blkSel t k) s = .next (if k < 2 then blkSelEff k a else a)) ∧
  (∀ (t k : Nat) (s : State), let a := s.at t; exec (.blkMux t k) s = .next (if k < 2 then blkMuxEff k a else a)) ∧
  (∀ (t k : Nat) (s : State), let a := s.at t; exec (.blkLimit t k) s = .next (if k < 2 then blkLimitEff k a else a)) ∧
  (∀ (t k : Nat) (s : State), let a := s.at t; exec (.blkMove t k) s = .next (if k < 2 then blkMoveEff k a else a)) ∧
  (∀ (t k : Nat) (s : State), let a := s.at t; exec (.blkPack t k) s = .next (if k < 2 then blkPackEff k a else a)) ∧
  (∀ (t k : Nat) (s : State), let a := s.at t; exec (.blkUnpack t k) s = .next (if k < 2 then blkUnpackEff k a else a)) ∧
  (∀ (t k : Nat) (s : State), let a := s.at t; exec (.blkBand t k) s = .next (if k < 2 then blkBandEff k a else a)) ∧
  (∀ (t k : Nat) (s : State), let a := s.at t; exec (.blkBor t k) s = .next (if k < 2 then blkBorEff k a else a)) ∧
  (∀ (t k : Nat) (s : State), let a := s.at t; exec (.blkBxor t k) s = .next (if k < 2 then blkBxorEff k a else a)) ∧
  (∀ (t k : Nat) (s : State), let a := s.at t; exec (.blkShl t k) s = .next (if k < 2 then blkShlEff k a else a)) ∧
  (∀ (t k : Nat) (s : State), let a := s.at t; exec (.blkShr t k) s = .next (if k < 2 then blkShrEff k a else a)) ∧
  (∀ (t k : Nat) (s : State), let a := s.at t; exec (.blkI2r t k) s = .next (if k < 2 then blkI2rEff k a else a)) ∧
  (∀ (t k : Nat) (s : State), let a := s.at t; exec (.blkR2i t k) s = .next (if k < 2 then blkR2iEff k a else a)) ∧
  (∀ (t k : Nat) (s : State), let a := s.at t; exec (.blkB2i t k) s = .next (if k < 2 then blkB2iEff k a else a)) ∧
  (∀ (t k : Nat) (s : State), let a := s.at t; exec (.blkI2b t k) s = .next (if k < 2 then blkI2bEff k a else a)) ∧
  (∀ (t k : Nat) (s : State), let a := s.at t; exec (.blkT2i t k) s = .next (if k < 2 then blkT2iEff k a else a)) ∧
  (∀ (t k : Nat) (s : State), let a := s.at t; exec (.blkI2t t k) s = .next (if k < 2 then blkI2tEff k a else a)) ∧
  (∀ (t k : Nat) (s : State), let a := s.at t; exec (.blkT2r t k) s = .next (if k < 2 then blkT2rEff k a else a)) ∧
  (∀ (t k : Nat) (s : State), let a := s.at t; exec (.blkR2t t k) s = .next (if k < 2 then blkR2tEff k a else a))

/-- R278 to R280, R314, R323, R327, R329, R332, R333: the blocks that read the input image and those that act beyond their
instance: NOW, QGOOD, SUBSTATE, PODSTATE, DEVSTATE, ELEM, ZONE, SGSEL, ILK, LAG and DELTA; RECTRG and the GSET blocks enter their
values for the output write; ALARM adds event 67 to it on a rising SET; BKR runs its requests in order, its clock counting what
R292 counts between its latches (that clock, and the codes of a cancel outside SELECTED: log entry 131). Each of its commands
completes in every state: its effect takes place where its operands are of its row and its requester is there, and else nothing
happens. -/
def Obligations.SystemBlocks : Prop :=
  (BlockAnswers .blkNow 0x35 (fun c => ([tcBits 64 c.img.ns], c.x)) ∧
  BlockAnswers .blkLag 0x36 (fun c =>
    (if fLt 0 (c.i 1) = false then [c.i 0]
     else if fSpecial (c.i 0) ∨ fSpecial (c.o 0) then [if fInf (c.i 0) ∧ ¬ fSpecial (c.o 0) ∧ c.dt ≠ 0 then c.i 0 else 0]
     else
      let q := (fDiv (fOf false c.dt 1000000000 0).1 (c.i 1)).1
      let r := if fLt 0x3F800000 q then 0x3F800000 else q
      [(fAdd (c.o 0) (fMul r (fSub (c.i 0) (c.o 0)).1).1).1], c.x)) ∧
  BlockAnswers .blkDelta 0x37 (fun c =>
    (if c.x.ran = false then [0, 0]
     else if c.vt = .real then [(fSub (c.i 0) c.x.a.toNat).1, b2n (fSub (c.i 0) c.x.a.toNat).2]
     else satOut .int (c.n 0 - sext 32 c.x.a.toNat), { c.x with a := (c.i 0 : Nat) })) ∧
  BlockAnswers .blkQgood 0x38 (fun c => ([if c.i 0 % 4 = 0 then 1 else 0, c.i 0 / 16 % 2], c.x)) ∧
  BlockAnswers .blkSubstate 0x39
    (fun c => ([(lget (0, false) c.img.subSt (c.i 0)).1, b2n (lget (0, false) c.img.subSt (c.i 0)).2], c.x)) ∧
  BlockAnswers .blkPodstate 0x3A (fun c => ([lget 0 c.img.pods 0, lget 0 c.img.pods 1], c.x)) ∧
  BlockAnswers .blkSgsel 0x3E (fun c => (if 0 ≤ c.n 1 ∧ c.n 1 ≤ 3 then [(c.n 1).toNat % 2, (c.n 1).toNat / 2 % 2, 0]
    else [c.o 0, c.o 1, 1], c.x)) ∧
  BlockAnswers .blkIlk 0x41 (fun c =>
    let all := ∀ e ∈ c.ins.drop 1, e.1 % 2 = 1 ∧ e.2 % 4 = 0
    ([if all ∨ c.i 0 % 2 = 1 then 1 else 0, if all then 0 else c.i 0 % 2], c.x)) ∧
  (∀ (t k : Nat) (c : CallCtx) (s : State), let a := s.at t
    k < 2 → a.progRuns k = true → a.holding k = false → a.nextCall k = some c →
    (c.call.type = 0x3B → exec (.blkDevstate t k) s = .next
      (a.endCall k c [c.img.mode, a.getF LGC_MODE_START, c.img.tq] c.x)) ∧
    (c.call.type = 0x3C → exec (.blkElem t k) s = .next (a.endCall k c
      [b2n (a.elemIn c.img (c.i 0) 0), b2n (a.elemIn c.img (c.i 0) 1), b2n (a.elemIn c.img (c.i 0) 2),
       if a.elFailed c.img (c.i 0) then 0 else lget 0 c.img.elems (c.i 0) / 32 % 8] c.x)) ∧
    (c.call.type = 0x3D → exec (.blkZone t k) s = .next (a.endCall k c
      (let w := if a.elFailed c.img 512 then 0 else lget 0 c.img.zones (c.i 0)
       [w / 8 % 8, w % 8, w / 64 % 2]) c.x)) ∧
    (c.call.type = 0x42 → exec (.blkRectrg t k) s = .next
      ((a.mapScan k (fun sc => { sc with trig := setBitN sc.trig (c.i 0) (c.b 1) })).endCall k c [] c.x)) ∧
    (let g := (a.mapScan k (fun sc => { sc with gset := sc.gset ++ [(c.i 0, c.i 1, c.i 3)] })).endCall k c [] c.x
     (c.call.type = 0x43 → exec (.blkGsetB t k) s = .next g) ∧ (c.call.type = 0x44 → exec (.blkGsetI t k) s = .next g) ∧
     (c.call.type = 0x45 → exec (.blkGsetR t k) s = .next g)) ∧
    (c.call.type = 0x46 → c.b 1 = true → c.x.m1 = false → exec (.blkAlarm t k) s = .next
      ((a.scanEvt k 67 (c.i 0) c.call.inst).endCall k c [1] { c.x with m1 := true, m2 := c.b 2 })) ∧
    (c.call.type = 0x46 → (c.b 1 = false ∨ c.x.m1 = true) → exec (.blkAlarm t k) s = .next
      (a.endCall k c [if c.b 2 = true ∧ c.x.m2 = false ∧ c.b 1 = false then 0 else c.o 0 % 2] { c.x with m1 := c.b 1, m2 := c.b 2 })) ∧
    (c.call.type = 0x3F → c.img.reqs.filter (fun r => r.brk = c.i 0) = [] → (c.b 5 = false ∨ c.x.m1 = true) →
      (bkrTime (bkrClock c) (c.t 1) (c.t 2) (c.n 4) (bkrOf c)).2 = false →
      let b := (bkrTime (bkrClock c) (c.t 1) (c.t 2) (c.n 4) (bkrOf c)).1
      ∃ s', exec (.blkBkr t k) s = .next s' ∧ s'.prog k = (a.endCall k c (bkrOuts b)
        { c.x with st := b.st, k := b.dir, a := b.tsel, b := b.top, e := bkrClock c, m1 := c.b 5 }).prog k ∧ s'.evt = a.evt)) ∧
  (∀ c : CallCtx, bkrClock c = c.x.e + (match c.x.tl with | none => 0 | some l => tlDiff l c.img.tl)) ∧
  (∀ (now : Int) (ilk : Bool) (b : BkrX), b.st = 0 →
    bkrReq now ilk false 0 b = { b with st := 1, dir := 1, tsel := now, code := 0, flags := 0 } ∧
    bkrReq now true false 1 b = { b with st := 2, dir := 2, tsel := now, code := 0, flags := 0 } ∧
    bkrReq now false false 1 b = { b with code := 0x11, flags := 1 } ∧
    bkrReq now ilk false 2 b = { b with code := 0x0A } ∧ bkrReq now ilk false 4 b = { b with code := 0x0A }) ∧
  (∀ (now : Int) (ilk : Bool) (b : BkrX), b.st = 1 → now - b.tsel ≤ 30000000000 →
    bkrReq now ilk false 2 b = { b with st := 3, dir := 1, top := now, code := 0, flags := 0 } ∧
    bkrReq now ilk true 2 b = { b with st := 0, code := 0x11, flags := 2 } ∧
    bkrReq now ilk false 3 b = { b with code := 0x02 } ∧ bkrReq now ilk false 4 b = { b with st := 0, code := 0, flags := 0 }) ∧
  (∀ (now : Int) (ilk split : Bool) (b : BkrX), (b.st = 1 ∨ b.st = 2) → 30000000000 < now - b.tsel →
    bkrReq now ilk split 2 b = { b with st := 0, code := 0x0B } ∧ bkrReq now ilk split 3 b = { b with st := 0, code := 0x0B })) ∧
  (∀ (t k : Nat) (s : State), let a := s.at t; exec (.blkNow t k) s = .next (if k < 2 then blkNowEff k a else a)) ∧
  (∀ (t k : Nat) (s : State), let a := s.at t; exec (.blkLag t k) s = .next (if k < 2 then blkLagEff k a else a)) ∧
  (∀ (t k : Nat) (s : State), let a := s.at t; exec (.blkDelta t k) s = .next (if k < 2 then blkDeltaEff k a else a)) ∧
  (∀ (t k : Nat) (s : State), let a := s.at t; exec (.blkQgood t k) s = .next (if k < 2 then blkQgoodEff k a else a)) ∧
  (∀ (t k : Nat) (s : State), let a := s.at t; exec (.blkSubstate t k) s = .next (if k < 2 then blkSubstateEff k a else a)) ∧
  (∀ (t k : Nat) (s : State), let a := s.at t; exec (.blkPodstate t k) s = .next (if k < 2 then blkPodstateEff k a else a)) ∧
  (∀ (t k : Nat) (s : State), let a := s.at t; exec (.blkDevstate t k) s = .next (if k < 2 then blkDevstateEff k a else a)) ∧
  (∀ (t k : Nat) (s : State), let a := s.at t; exec (.blkElem t k) s = .next (if k < 2 then blkElemEff k a else a)) ∧
  (∀ (t k : Nat) (s : State), let a := s.at t; exec (.blkZone t k) s = .next (if k < 2 then blkZoneEff k a else a)) ∧
  (∀ (t k : Nat) (s : State), let a := s.at t; exec (.blkSgsel t k) s = .next (if k < 2 then blkSgselEff k a else a)) ∧
  (∀ (t k : Nat) (s : State), let a := s.at t; exec (.blkBkr t k) s = .next (if k < 2 then blkBkrEff k a else a)) ∧
  (∀ (t k : Nat) (s : State), let a := s.at t; exec (.blkIlk t k) s = .next (if k < 2 then blkIlkEff k a else a)) ∧
  (∀ (t k : Nat) (s : State), let a := s.at t; exec (.blkRectrg t k) s = .next (if k < 2 then blkRectrgEff k a else a)) ∧
  (∀ (t k : Nat) (s : State), let a := s.at t; exec (.blkGsetB t k) s = .next (if k < 2 then blkGsetBEff k a else a)) ∧
  (∀ (t k : Nat) (s : State), let a := s.at t; exec (.blkGsetI t k) s = .next (if k < 2 then blkGsetIEff k a else a)) ∧
  (∀ (t k : Nat) (s : State), let a := s.at t; exec (.blkGsetR t k) s = .next (if k < 2 then blkGsetREff k a else a)) ∧
  (∀ (t k : Nat) (s : State), let a := s.at t; exec (.blkAlarm t k) s = .next (if k < 2 then blkAlarmEff k a else a))

/-- R339 to R341, R344: one update of a time base with an offset: the first one steps when AUTO_FIRST says so; one beyond STEP_THR,
or of half a second where a PPS edge serves a time code, is refused with event 90 and its size in TIM_PEND, the time base going to
STEP_HELD; while held, the sixteenth in a row within the threshold lets it go on, LOCKED at once where the sixteen lay within
LOCK_THR too; a time base the sampling time has left by a refused CARRY stays held (log entry 105, the model's reading of R348);
else the loop steers, and sixteen in a row within LOCK_THR lock, four beyond it unlock. TIM_OFS and the quality follow every
update. -/
def Obligations.ServoUpdates : Prop :=
  ∀ (s : State) (b q : Nat) (o : Int), b < 4 → s.tim.bases.length = 4 →
  let r := ((s.setI (TIM_OFS_OFS b) (nsSat o)).setFlag (TIM_STAT_SRC_OK b) true)
  let u := r.setTb b { r.tb b with lastUpd := some s.now, srcTqc := q }
  let v := u.setTb b { u.tb b with lastOfs := o }
  let w := v.countLock b o
  let fin (x : State) := (x.setTb b { x.tb b with lastOfs := o }).setQual b
  (s.tbState b = 0 → s.flag (TIM_CFG_AUTO_FIRST b) = true → s.servoUpdate b o q = fin (v.applyStep b o)) ∧
  ((s.tbState b ≠ 0 ∨ s.flag (TIM_CFG_AUTO_FIRST b) = false) →
    (s.carryHeld b = true → s.servoUpdate b o q = fin (if s.jumps b o = true then u else v.steer b o)) ∧
    (s.carryHeld b = false → s.jumps b o = true → s.servoUpdate b o q = fin (u.refuseJump b o)) ∧
    (s.carryHeld b = false → s.jumps b o = false → s.tbState b = 4 → (s.tb b).within < 15 →
      s.servoUpdate b o q = fin (w.setTb b { w.tb b with within := (s.tb b).within + 1 })) ∧
    (s.carryHeld b = false → s.jumps b o = false → s.tbState b = 4 → 15 ≤ (s.tb b).within →
      let y := (w.setPend b 0).tbEnter b (if 16 ≤ (w.tb b).inLock then 2 else 1);
      s.servoUpdate b o q = fin ((y.setTb b { y.tb b with inLock := (w.tb b).inLock }).steer b o)) ∧
    (s.carryHeld b = false → s.jumps b o = false → (s.tbState b = 1 ∨ s.tbState b = 2) →
      s.servoUpdate b o q = fin ((v.steer b o).lockCount b o)) ∧
    (s.carryHeld b = false → s.jumps b o = false → (s.tbState b = 0 ∨ s.tbState b = 3) →
      s.servoUpdate b o q = fin (((v.tbEnter b 1).steer b o).lockCount b o))) ∧
  (s.jumps b o = true ↔ s.stepThr b < absN o ∨ s.tbSrc b = 3 ∧ subPerSec ≤ 2 * (absN o : Int)) ∧
  (s.tbState b ≠ 4 → (s.refuseJump b o).tbState b = 4 ∧ (s.refuseJump b o).flag (TIM_STAT_REFUSED b) = true ∧
    s.refuseJump b o = ((((s.keepE0 b).setPend b (divHalfEven o 65536)).setFlag (TIM_STAT_REFUSED b) true).incSat
      (TIM_CNT_REFUSE b) |>.tbEnter b 4).raise 90 b (tcBits 32 (nsSat o))) ∧
  (s.tbState b = 4 → let h := s.setPend b (divHalfEven o 65536);
    s.refuseJump b o = h.setTb b { s.tb b with within := 0, inLock := 0 }) ∧
  (let c := (s.countLock b o).tb b;
    c = (if absN o ≤ s.lockThr b then { s.tb b with inLock := satInc 16 (s.tb b).inLock, outLock := 0 }
      else { s.tb b with inLock := 0, outLock := satInc 4 (s.tb b).outLock })) ∧
  (s.tbState b = 1 → absN o ≤ s.lockThr b → 15 ≤ (s.tb b).inLock → (s.lockCount b o).tbState b = 2) ∧
  (s.tbState b = 2 → s.lockThr b < absN o → 3 ≤ (s.tb b).outLock → (s.lockCount b o).tbState b = 1) ∧
  (s.tbState b = 2 → absN o ≤ s.lockThr b → (s.lockCount b o).tbState b = 2)

/-- R340, R342, R348: a lost source counts, shows LOST_SEEN and makes the time base HOLDOVER (event 89); a source that is not there
is not lost again; a pending step is applied at a strobe divisible by 32 (event 91), a TIME_SET of the sampling time base too (log
entry 72, the model's choice); the switch of compatibility mode gives ACT to the other time base with event 93 and leaves the
sampling time where it was by CARRY, one above STEP_THR being held as a refused step of TB0 with event 90 (how it stays held: log
entry 105); the receipt timers and IRIG-B and PPS losses do the same, but in a redundant network the Sync messages of the other
port take over. Each of its commands completes in every state: its effect takes place where its operands are of its row and its
requester is there, and else nothing happens. -/
def Obligations.LossesAndSteps : Prop :=
  (∀ (s : State) (b : Nat), b < 4 → s.flag (TIM_STAT_SRC_OK b) = true →
    let r := s.srcLost b
    r.flag (TIM_STAT_SRC_OK b) = false ∧ r.flag (TIM_STAT_LOST_SEEN b) = true ∧
    r.getF (TIM_CNT_LOSS b) = satInc (2 ^ (TIM_CNT_LOSS b).width - 1) (s.getF (TIM_CNT_LOSS b)) ∧
    r.tbState b = (if s.tbState b = 0 then 0 else if s.carryHeld b = true then s.tbState b else 3) ∧
    (s.tbState b ≠ 0 → s.carryHeld b = false → s.flag TIM_SAMP_COMPAT = false →
      let l := ((s.setFlag (TIM_STAT_SRC_OK b) false).setFlag (TIM_STAT_LOST_SEEN b) true).incSat (TIM_CNT_LOSS b);
      r = ((l.keepE0 b).setAdj b (l.avgAdj b)).tbEnter b 3) ∧
    (s.tbState b ≠ 3 → let m := s.setF (TIM_STAT_STATE b) 3;
      s.tbEnter b 3 = ((m.setTb b { m.tb b with inLock := 0, outLock := 0, within := 0 }).setQual b).raise 89 b 0)) ∧
  (∀ (s : State) (b : Nat), s.flag (TIM_STAT_SRC_OK b) = false → s.srcLost b = s) ∧
  (∀ (t b : Nat) (s : State), let a := s.at t; let x := a.tb b
    let port := if a.getF NET_MODE_MODE = 0 then a.getF (TIM_CFG_PORTSEL b) else x.gmPort
    let late (p : Nat) := (syncSeen x p).getD x.gmAt + 3 * intervalU x.syncIv ≤ a.now
    b < 4 → a.timeOn = true → a.tbSrc b = 1 → x.gm.isSome = true →
    (¬ late port → exec (.syncLoss t b) s = .next a) ∧
    (late port → (a.getF NET_MODE_MODE = 0 ∨ 2 ≤ port ∨ late (1 - port)) → exec (.syncLoss t b) s = .next (a.srcLost b)) ∧
    (late port → a.getF NET_MODE_MODE ≠ 0 → port < 2 → ¬ late (1 - port) →
      exec (.syncLoss t b) s = .next (a.setTb b { x with gmPort := 1 - port, fuWait := none }))) ∧
  (∀ (t b : Nat) (f : ForeignMaster) (s : State), let a := s.at t; let x := a.tb b
    let r := a.setTb b { x with foreign := x.foreign.filter (fun g => !(some g.msg.gm == x.gm)) }
    b < 4 → a.timeOn = true → a.tbSrc b = 1 → x.foreign.find? (fun f => some f.msg.gm = x.gm) = some f →
    exec (.announceReceiptTimeout t b) s = .next
      (if a.now < f.last + 3 * intervalU f.msg.interval then a
       else if ((r.tb b).foreign.filter r.qualified).isEmpty then r.srcLost b else r.runBmca b)) ∧
  (∀ (t : Nat) (s : State), let a := s.at t
    a.timeOn = true →
    exec (.irigbLoss t) s = .next ((upto 4).foldl (fun s b =>
      if (s.tbSrc b = 2 ∨ s.tbSrc b = 3) ∧ (3 ≤ (s.tb b).badFrames ∨ (s.tb b).irigAt.any (fun w => decide (w + 3 * secU ≤ s.now)) = true)
      then (if s.tbSrc b = 3 then (s.srcLost b).setTb b { (s.srcLost b).tb b with srcSec := none } else s.srcLost b) else s) a) ∧
    exec (.ppsLoss t) s = .next ((upto 4).foldl (fun s b =>
      if (s.tbSrc b = 3 ∨ s.tbSrc b = 4) ∧ (s.tb b).edgeAt.any (fun e => decide (e + 2 * secU + msU ≤ s.now)) = true then s.srcLost b else s) a)) ∧
  (∀ (t b : Nat) (s : State), let a := s.at t
    b < 4 → a.timeOn = true → a.ana.strobe % 32 = 0 →
    (∀ d, (a.tb b).setTime = some d → exec (.stepApply t b) s = .next (a.applyStep b d)) ∧
    ((a.tb b).setTime = none → (a.tb b).stepAt.isSome = true → exec (.stepApply t b) s = .next (a.takeStep b))) ∧
  (∀ (s : State) (b : Nat) (d : Int), b < 4 →
    (s.applyStep b d).tbState b = (if s.tbSrc b = 0 then 5 else 1) ∧ (s.applyStep b d).pend b = 0 ∧
    (let m := (((s.rebase b d).markStep b d).setPend b 0).incSat (TIM_CNT_STEPS b);
      s.applyStep b d = ((m.setTb b { m.tb b with stepAt := none, setTime := none }).tbEnter b (if s.tbSrc b = 0 then 5 else 1)).raise
        91 b (tcBits 32 (nsSat d)))) ∧
  (∀ (t : Nat) (s : State), let a := s.at t
    a.timeOn = true → (∃ n, a.tim.switchDue = some n ∧ n < a.ana.strobe) → a.flag TIM_SAMP_COMPAT = true →
    let c := a.carryAt a.now + (a.tbAt a.sampTb a.now - a.tbAt (1 - a.sampTb) a.now)
    let d := { a with tim := { a.tim with switchDue := none } }
    let w := (((d.setF TIM_SAMP_ACT (1 - a.sampTb)).setCarry c).putUtc).raise 93 0 (1 - a.sampTb);
    (absN c ≤ a.stepThr 0 → exec (.compatSwitch t) s = .next w ∧ w.getF TIM_SAMP_ACT = (1 - a.sampTb) % 2 ^ TIM_SAMP_ACT.width ∧
      w.tim.switchDue = none ∧ w.tim.carry = c ∧ w.ana = a.ana ∧ w.trp = a.trp) ∧
    (w.stepThr 0 < absN c → exec (.compatSwitch t) s = .next
      (((((w.keepE0 0).setPend 0 (divHalfEven (-c) 65536)).setFlag (TIM_STAT_REFUSED 0) true).incSat (TIM_CNT_REFUSE 0)).tbEnter 0 4
        |>.raise 90 0 (tcBits 32 (nsSat (-c)))))) ∧
  (∀ (t b : Nat) (s : State), let a := s.at t
    b < 4 → a.timeOn = true → (a.tbState b = 3 ∨ a.tbState b = 4) → exec (.tqcDegrade t b) s = .next (a.setQual b)) ∧
  (∀ (t b : Nat) (s : State), let a := s.at t; exec (.syncLoss t b) s = .next (if b < 4 then syncLossEff b a else a)) ∧
  (∀ (t b : Nat) (s : State), let a := s.at t; exec (.announceReceiptTimeout t b) s = .next
    (if b < 4 then announceReceiptTimeoutEff b a else a)) ∧
  (∀ (t : Nat) (s : State), exec (.irigbLoss t) s = .next (irigbLossEff (s.at t))) ∧
  (∀ (t : Nat) (s : State), exec (.ppsLoss t) s = .next (ppsLossEff (s.at t))) ∧
  (∀ (t b : Nat) (s : State), let a := s.at t; exec (.stepApply t b) s = .next (if b < 4 then stepApplyEff b a else a)) ∧
  (∀ (t : Nat) (s : State), exec (.compatSwitch t) s = .next (compatSwitchEff (s.at t))) ∧
  (∀ (t b : Nat) (s : State), let a := s.at t; exec (.tqcDegrade t b) s = .next (if b < 4 then tqcDegradeEff b a else a))

/-- R351, R352, R355 to R357: a Sync, Follow_Up or Announce goes to every time base that listens to its domain and port; a Sync's
offset is its origin plus its corrections and the peer delay less the local time; a frame that fails counts (its pulses are 2, 5 or
8 ms within 0.5 ms, R510), an edge outside its window is discarded and counted, one in it steers by the second the frame before it
labelled, both sampled at 2 ns (log entry 132); PPS_OUT rises at a whole second and falls PW after; in master state a Sync and an
Announce leave at each of its ports every second. Each of its commands completes in every state: its effect takes place where its
operands are of its row and its requester is there, and else nothing happens. -/
def Obligations.TimeMessages : Prop :=
  (∀ (t p : Nat) (m : SyncMsg) (s : State), let a := s.at t
    p < 3 → a.timeOn = true → m.supported = true → -4 ≤ m.interval → m.interval ≤ 1 →
    exec (.syncReceive t p m) s = .next ((upto 4).foldl (fun s b => s.syncFor b p m) a) ∧
    exec (.followUpReceive t p m) s = .next ((upto 4).foldl (fun s b => s.followFor b p m) a)) ∧
  (∀ (s : State) (b p : Nat) (m : SyncMsg), let x := s.tb b
    let r := s.setTb b { x with syncAt := (p, s.now) :: x.syncAt.filter (fun e => e.1 != p), syncIv := m.interval }
    s.tbSrc b = 1 → s.getF (TIM_CFG_DOMAIN b) = m.domain → x.gm = some m.gm → s.ptpPort b p = true →
    s.getF NET_MODE_MODE = 0 → m.twoStep = false → s.tim.bases.length = 4 → b < 4 →
    s.syncFor b p m = r.servoUpdate b ((((m.sec * 1000000000 + m.ns) * 65536 : Nat) : Int) + m.corr +
      ((s.peerDelay p * 65536 : Nat) : Int) - s.tbAt b s.now) (r.gmTqc b)) ∧
  (∀ (s : State) (b p : Nat) (m : SyncMsg),
    (s.tbSrc b ≠ 1 ∨ s.getF (TIM_CFG_DOMAIN b) ≠ m.domain ∨ (s.tb b).gm ≠ some m.gm ∨ s.ptpPort b p = false) →
    s.syncFor b p m = s) ∧
  (∀ (t p : Nat) (m : AnnounceMsg) (s : State), let a := s.at t
    p < 3 → a.timeOn = true → m.supported = true → 0 ≤ m.interval → m.interval ≤ 2 →
    exec (.announceReceive t p m) s = .next ((upto 4).foldl (fun s b => s.announceFor b p m) a)) ∧
  (∀ (t mark : Nat) (f : IrigFrame) (s : State), let a := s.at t
    a.timeOn = true → mark ≤ a.now →
    exec (.irigbFrame t mark f) s = .next ((upto 4).foldl (fun s b =>
      if s.tbSrc b = 2 ∨ s.tbSrc b = 3 then
        (if f.ok = true ∧ (∀ p ∈ f.pulses, irigWidthOk p = true) ∧ (a.flag TIM_IRIG_CFEXT = false ∨ f.cfParityOk = true) then s.irigGood b mark f
         else s.setTb b { s.tb b with badFrames := (s.tb b).badFrames + 1 })
      else s) a)) ∧
  (∀ (t : Nat) (s : State), let a := s.at t
    a.timeOn = true →
    exec (.ppsInEdge t) s = .next ((upto 4).foldl (fun s b => if s.tbSrc b = 3 ∨ s.tbSrc b = 4 then s.ppsFor b else s) a)) ∧
  (∀ (s : State) (b : Nat), s.tbState b ≠ 0 → (s.tb b).edgeAt.isSome = true → s.nearSecond b (edgeSample s.now) = false →
    s.ppsFor b = s.setTb b { s.tb b with ppsDisc := (s.tb b).ppsDisc + 1 }) ∧
  (∀ (s : State) (b v e : Nat), s.nearSecond b (edgeSample s.now) = true → (s.tb b).setSec = none → (s.tb b).srcSec = some v →
    (s.tb b).edgeAt = some e → let n := edgeSample s.now; let k := v + (n - e + secU / 2) / secU
    let r := s.setTb b { s.tb b with edgeAt := some n, srcSec := some k, setSec := none };
    s.ppsFor b = r.servoUpdate b ((k : Int) * subPerSec - r.tbAt b n) (s.tb b).srcTqc) ∧
  (∀ (t : Nat) (s : State), let a := s.at t
    let r := (a.tbAt (a.getF TIM_PPSO_TB) a.now + a.getI TIM_PPSO_COMP * 65536) % subPerSec
    a.timeOn = true → a.ppsoOn = true → a.tim.ppsOut = false → (r ≤ 327680 ∨ subPerSec - 327680 ≤ r) →
    exec (.ppsOutRise t) s = .next { a with tim := { a.tim with ppsOut := true, ppsRose := a.now } }) ∧
  (∀ (t : Nat) (s : State), let a := s.at t
    a.tim.ppsOut = true → a.tim.ppsRose + a.getF TIM_PPSO_PW * msU ≤ a.now →
    exec (.ppsOutFall t) s = .next { a with tim := { a.tim with ppsOut := false } }) ∧
  (∀ (t b : Nat) (s : State), let a := s.at t; let n := ((a.tb b).txSeq + 1) % 65536; let v := splitTime (a.tbAt b a.now)
    let r := a.setTb b { a.tb b with txSeq := n, txLast := some a.now }
    b < 4 → a.timeOn = true → a.mayMaster b = true → (∀ w, (a.tb b).txLast = some w → w + secU ≤ a.now) →
    exec (.gmTransmit t b) s = .next (let ps := r.ownPorts [r.getF (TIM_CFG_PORTSEL b)]; let o := a.ownAnnounce b
      (r.txOwn ps (.ptpSync o.domain n v.1 v.2.1)).txOwn ps (.ptpAnnounce o.domain n o.prio1 o.prio2 o.cls o.acc [o.gm]))) ∧
  (∀ (t p : Nat) (m : SyncMsg) (s : State), let a := s.at t; exec (.syncReceive t p m) s = .next
    (if p < 3 then syncReceiveEff p m a else a)) ∧
  (∀ (t p : Nat) (m : SyncMsg) (s : State), let a := s.at t; exec (.followUpReceive t p m) s = .next
    (if p < 3 then followUpReceiveEff p m a else a)) ∧
  (∀ (t p : Nat) (m : AnnounceMsg) (s : State), let a := s.at t; exec (.announceReceive t p m) s = .next
    (if p < 3 then announceReceiveEff p m a else a)) ∧
  (∀ (t mark : Nat) (f : IrigFrame) (s : State), exec (.irigbFrame t mark f) s = .next (irigbFrameEff mark f (s.at t))) ∧
  (∀ (t : Nat) (s : State), exec (.ppsInEdge t) s = .next (ppsInEdgeEff (s.at t))) ∧
  (∀ (t : Nat) (s : State), exec (.ppsOutRise t) s = .next (ppsOutRiseEff (s.at t))) ∧
  (∀ (t : Nat) (s : State), exec (.ppsOutFall t) s = .next (ppsOutFallEff (s.at t))) ∧
  (∀ (t b : Nat) (s : State), let a := s.at t; exec (.gmTransmit t b) s = .next (if b < 4 then gmTransmitEff b a else a))

/-- R358 to R362: a frame in counts in RX; one whose FCS fails counts in ERR and one too long in OVS, and neither is forwarded; the
second copy of a live entry of the duplicate table is discarded and counted, a first copy enters it; in INDEPENDENT mode a group
address leaves by the other ports and a learned one by its own; HSR passes the ring on and takes the engine's own frames off it; a
frame of the wrong LAN counts; each port's copy joins that port's egress queue, which leaves in strict priority, a full queue
counting in OVS; a RedBox adds and removes the tag or trailer (its numbers: log entry 133); live entries and addresses are the ones
kept when others age out. Each of its commands completes in every state: its effect takes place where its operands are of its row
and its requester is there, and else nothing happens. -/
def Obligations.SwitchFrames : Prop :=
  (∀ (t p : Nat) (n : List Nat) (f : EthFrame) (full : List Bool) (s : State), let a := s.at t; let r := a.incWrap (NET_PRX_RX p)
    p < 3 → a.switchOn = true → a.flag (NET_PCFG_EN p) = true →
    (f.fcsOk = false → exec (.frameReceive t p f n full) s = .next (r.incSat (NET_PDROP_ERR p))) ∧
    (f.fcsOk = true → 1528 < f.len → exec (.frameReceive t p f n full) s = .next (r.incSat (NET_PDROP_OVS p))) ∧
    (f.fcsOk = true → f.len ≤ 1528 → exec (.frameReceive t p f n full) s = .next (r.switchFrame p f n full))) ∧
  (∀ (s : State) (p : Nat) (f : EthFrame) (res : List Nat) (full : List Bool),
    let r := s.setPort p { s.port p with lastRx := some s.now }
    let w := if r.wrongLan p f = true then r.incSat (if p = 0 then NET_WLAN_WRONGLAN_A else NET_WLAN_WRONGLAN_B) else r
    let u := if f.superv = true ∧ f.src = w.mac then w.setPort p { w.port p with ownSup := some w.now } else w
    (f.src = w.mac → u.getF NET_MODE_MODE = 1 → p < 2 → s.switchFrame p f res full = u) ∧
    ((f.src ≠ w.mac ∨ u.getF NET_MODE_MODE ≠ 1 ∨ 2 ≤ p) →
      ((u.dupCheck f).1 = true → s.switchFrame p f res full = (u.dupCheck f).2) ∧
      ((u.dupCheck f).1 = false → let d := (u.dupCheck f).2
        let l := if d.getF NET_MODE_MODE = 0 then d.learn f.src p else d
        let outs := (l.egressPorts p f).filter (fun q => l.flag (NET_PCFG_EN q))
        let n := if p = 2 then (l.tcMax f res outs).nextRedSeq else l.tcMax f res outs
        s.switchFrame p f res full = outs.foldl (fun s q => s.forward p f (n.egressQueue p f) res full q) n))) ∧
  (∀ (s : State) (p q k : Nat) (f : EthFrame) (res : List Nat) (full : List Bool),
    (s.flag (NET_PCFG_EN q) = true → lget false full q = true → s.forward p f k res full q = s.incSat (NET_PDROP_OVS q)) ∧
    (s.flag (NET_PCFG_EN q) = true → lget false full q = false →
      s.forward p f k res full q = s.txFrame q (.forwarded { s.redBox p q f with corr := s.residence p f (lget 0 res q) } k)) ∧
    (s.getF NET_MODE_MODE = 0 → s.redBox p q f = f) ∧
    (s.getF NET_MODE_MODE = 1 → p = 2 → q < 2 → s.redBox p q f = { f with hsr := some s.net.redSeq, len := f.len + 6 }) ∧
    (s.getF NET_MODE_MODE = 1 → f.hsr.isSome = true → s.redBox p 2 f = { f with hsr := none, len := f.len - 6 }) ∧
    (s.getF NET_MODE_MODE = 2 → p = 2 → q < 2 → f.ptp = .none →
      s.redBox p q f = { f with prp := some (q, s.net.redSeq), len := f.len + 6 }) ∧
    (s.getF NET_MODE_MODE = 2 → f.prp.isSome = true → s.redBox p 2 f = { f with prp := none, len := f.len - 6 }) ∧
    (s.wrongLan p f = true ↔ p < 2 ∧ (s.getF NET_MODE_MODE = 1 ∧ f.hsr = none ∨
      s.getF NET_MODE_MODE = 2 ∧ ∃ x, f.prp = some x ∧ x.1 ≠ p)) ∧
    (f.ptp ≠ .none → s.egressQueue p f = 3) ∧
    (f.ptp = .none → s.egressQueue p f = (match f.pcp with | some c => c % 8 | none => s.getF (NET_PCFG_PCP_DEF p)) / 2)) ∧
  (∀ (s : State) (p : Nat) (g : TxFrame), s.flag (NET_PCFG_EN p) = true →
    let e : EgFrame := ⟨txQueue g, txKind g, txBytes g + (if (s.txSeqNo p g).isSome then 6 else 0), s.now, s.txSeqNo p g, g⟩
    s.txFrame p g = ({ s with net := { s.net with ports := lmod s.net.ports p (fun x =>
      s.portNow p { s.portNow p x with queue := (s.portNow p x).queue ++ [e] }) } } : State).incWrap (NET_PTX_TX p)) ∧
  (∀ (t : Nat) (l : List EgFrame) (e f : EgFrame), egressPick t l = some e → f ∈ l → f.at_ ≤ t →
    f.queue ≤ e.queue ∧ (f.queue = 3 → e.queue = 3 → f.kind ≤ 2 → e.kind ≤ 2 → e.kind ≤ f.kind)) ∧
  (∀ (s : State) (f : EthFrame) (q : Nat), dupSeq (s.getF NET_MODE_MODE) f = some q →
    (∀ e ∈ s.net.ddt, s.now < e.born + s.getF NET_RCFG_FORGET * msU) →
    ((∃ e ∈ s.net.ddt, e.src = f.src ∧ e.seq = q) → s.dupCheck f = (true, (s.setDdt s.net.ddt).incSat NET_DUP_DUP)) ∧
    ((∀ e ∈ s.net.ddt, e.src ≠ f.src ∨ e.seq ≠ q) → s.net.ddt.length < 1024 →
      s.dupCheck f = (false, s.setDdt (s.net.ddt ++ [⟨f.src, q, s.now⟩]))) ∧
    ((∀ e ∈ s.net.ddt, e.src ≠ f.src ∨ e.seq ≠ q) → 1024 ≤ s.net.ddt.length →
      s.dupCheck f = (false, (s.setDdt (s.net.ddt.drop 1 ++ [⟨f.src, q, s.now⟩])).incSat NET_DDT_EVICT))) ∧
  (∀ (s : State) (p : Nat) (f : EthFrame), s.getF NET_MODE_MODE = 0 → f.dst ≠ s.mac →
    (s.flag NET_MODE_ISO = true → s.egressPorts p f = []) ∧
    (s.flag NET_MODE_ISO = false → groupMac f.dst = true → s.egressPorts p f = (upto 3).filter (fun q => q != p)) ∧
    (∀ q, s.flag NET_MODE_ISO = false → groupMac f.dst = false → s.macPort f.dst = some q → q ≠ p → s.egressPorts p f = [q])) ∧
  (∀ (s : State) (p : Nat) (f : EthFrame), s.getF NET_MODE_MODE = 1 → p < 2 → f.src ≠ s.mac → f.dst ≠ s.mac →
    s.egressPorts p f = (1 - p) :: (if s.flag NET_MODE_C_BRIDGE = true then [2] else [])) ∧
  (∀ (t : Nat) (s : State), let a := s.at t
    a.switchOn = true →
    exec (.ddtEntryExpiry t) s = .next (a.setDdt (a.net.ddt.filter (fun e => a.now < e.born + a.getF NET_RCFG_FORGET * msU))) ∧
    exec (.addressAgeing t) s = .next
      { a with net := { a.net with macs := a.net.macs.filter (fun e => a.now < e.seen + 300 * secU) } }) ∧
  (∀ (t p : Nat) (f : EthFrame) (res : List Nat) (full : List Bool) (s : State), let a := s.at t; exec (.frameReceive t p f res full) s = .next
    (if p < 3 then frameReceiveEff p f res full a else a)) ∧
  (∀ (t : Nat) (s : State), exec (.ddtEntryExpiry t) s = .next (ddtEntryExpiryEff (s.at t))) ∧
  (∀ (t : Nat) (s : State), exec (.addressAgeing t) s = .next (addressAgeingEff (s.at t)))

/-- R353, R358, R361, R365: a link that changes raises event 95 and shows LINK_CHG, one that does not changes only what it
negotiated, port C runs at the speed C_SPEED sets (a link at the other speed is no link: log entry 133); a redundancy fault raises
event 96 on entry and on clearing; a supervision frame leaves by both redundant ports when it is due; the peer delay is measured
once per second and is half of the round trip less the turnaround; a word written to NET_MDIO starts its frame, refused while one
is in progress. Each of its commands completes in every state: its effect takes place where its operands are of its row and its
requester is there, and else nothing happens. -/
def Obligations.PortsAndMdio : Prop :=
  (∀ (t p : Nat) (lane slow an : Bool) (s : State), let a := s.at t
    let speed := decide (p = 2) && a.flag NET_MODE_C_SPEED
    let up := lane && slow == speed
    let r := ((a.setFlag (NET_PSTAT_LINK p) up).setFlag (NET_PSTAT_SPEED p) speed).setFlag (NET_PSTAT_AN_DONE p) an
    p < 3 → a.switchOn = true →
    (a.flag (NET_PCFG_EN p) = false → exec (.portLinkChange t p lane slow an) s = .next a) ∧
    (a.flag (NET_PCFG_EN p) = true → up = a.flag (NET_PSTAT_LINK p) → exec (.portLinkChange t p lane slow an) s = .next r) ∧
    (a.flag (NET_PCFG_EN p) = true → up = true → a.flag (NET_PSTAT_LINK p) = false → exec (.portLinkChange t p lane slow an) s = .next
      ((r.setFlag (NET_PSTAT_LINK_CHG p) true).raise 95 p 1)) ∧
    (a.flag (NET_PCFG_EN p) = true → up = false → a.flag (NET_PSTAT_LINK p) = true → exec (.portLinkChange t p lane slow an) s = .next
      (((r.incWrap (NET_PSTAT_LDOWN p)).setFlag (NET_PSTAT_LINK_CHG p) true).raise 95 p 0))) ∧
  (∀ (t : Nat) (s : State), let a := s.at t; let x := a.redFaults; let fault := x.1 || x.2
    let r := ((a.setFlag NET_RSTAT_FLT_A x.1).setFlag NET_RSTAT_FLT_B x.2).setFlag NET_RSTAT_RFAULT fault
    let u := if fault then r.setFlag NET_RSTAT_RF_SEEN true else r
    a.timeOn = true → a.redundant = true →
    (fault = a.flag NET_RSTAT_RFAULT → exec (.redundancyFaultDetect t) s = .next u) ∧
    (fault ≠ a.flag NET_RSTAT_RFAULT → exec (.redundancyFaultDetect t) s = .next
      (u.raise 96 0 (getBits (u.rd NET_RSTAT) 0 4)))) ∧
  (∀ (t : Nat) (s : State), let a := s.at t; let n := (a.net.supSeq + 1) % 65536
    let r : State := { a with net := { a.net with supSeq := n, supFrom := some (a.net.supFrom.getD a.now), supLast := some a.now } }
    a.timeOn = true → a.redundant = true → (∀ u, a.net.supLast = some u → u + a.supInterval ≤ a.now) →
    exec (.supervisionTx t) s = .next
      (let g := r.nextRedSeq; (g.txFrame 0 (.supervision (r.getF NET_RCFG_SVADDR) n)).txFrame 1 (.supervision (r.getF NET_RCFG_SVADDR) n))) ∧
  (∀ (t p : Nat) (s : State), let a := s.at t; let n := ((a.port p).pdSeq + 1) % 65536
    p < 3 → a.timeOn = true → a.flag (NET_PCFG_EN p) = true →
    exec (.pdelayMeasure t p) s = .next (if a.secondPassed (a.port p).pdLast = true
      then (a.setPort p { a.port p with pdSeq := n, pdSent := some a.now, pdLast := some a.now }).nextRedSeq.txFrame p (.pdelayReq n) else a) ∧
    (∀ q turn, q < 65536 → exec (.pdelayReqReceive t p q turn) s = .next (a.nextRedSeq.txFrame p (.pdelayResp q turn)))) ∧
  (∀ (t p t1 : Nat) (corr : Int) (s : State), let a := s.at t; let d := (((a.now - t1) * 4096 : Nat) : Int) - corr
    p < 3 → a.timeOn = true → a.flag (NET_PCFG_EN p) = true → (a.port p).pdSent = some t1 → (a.port p).pdSeq < 65536 →
    exec (.pdelayRespReceive t p (a.port p).pdSeq corr) s = .next
      ((a.setPort p { a.port p with pdSent := none }).setF (NET_PDLY_PDLY p) (clampI 0 0xFFFFFFFE (divHalfEven d 131072)).toNat)) ∧
  (∀ (t v : Nat) (r : Requester) (s : State), let a := s.at t
    let go (op : MdioOp) : State :=
      ({ ((((a.setF NET_MDIO_PHYAD v).setF NET_MDIO_DEVAD (v / 32)).setF NET_MDIO_DATA (v / 65536)).setFlag NET_MDIO_BUSY true) with
         net := { a.net with mdio := some op } }).recordWrite r NET_MDIO .ok
    a.trAlive (reqIdx r) = true → a.judge r NET_MDIO = .allowed →
    (a.flag NET_MDIO_BUSY = false →
      (v / 1024 % 4 = 0 → exec (.c22Read t r v) s = .next (go .c22Read)) ∧
      (v / 1024 % 4 = 1 → bitN v 12 = false → exec (.c22Write t r v) s = .next (go .c22Write)) ∧
      (v / 1024 % 4 = 1 → bitN v 12 = true → exec (.c45Write t r v) s = .next (go .c45Write)) ∧
      (v / 1024 % 4 = 2 → exec (.c45Address t r v) s = .next (go .c45Address)) ∧
      (v / 1024 % 4 = 3 → exec (.c45Read t r v) s = .next (go .c45Read))) ∧
    (a.flag NET_MDIO_BUSY = true → v / 1024 % 4 = 0 → exec (.c22Read t r v) s = .next (a.recordWrite r NET_MDIO .stateDenied))) ∧
  (∀ (t data : Nat) (s : State), let a := s.at t
    let r := ({ a with net := { a.net with mdio := none } }).setFlag NET_MDIO_BUSY false
    a.sys.refPresent = true → ((a.net.mdio = some .c22Read ∨ a.net.mdio = some .c45Read) →
      exec (.mdioFrameDone t data) s = .next (r.setF NET_MDIO_DATA data)) ∧
    ((a.net.mdio = some .c22Write ∨ a.net.mdio = some .c45Write ∨ a.net.mdio = some .c45Address) →
      exec (.mdioFrameDone t data) s = .next r)) ∧
  (∀ (t p seq : Nat) (turn : Int) (s : State), let a := s.at t; exec (.pdelayReqReceive t p seq turn) s = .next
    (if p < 3 ∧ seq < 65536 then pdelayReqReceiveEff p seq turn a else a)) ∧
  (∀ (t p seq : Nat) (corr : Int) (s : State), let a := s.at t; exec (.pdelayRespReceive t p seq corr) s = .next
    (if p < 3 ∧ seq < 65536 then pdelayRespReceiveEff p seq corr a else a)) ∧
  (∀ (t p : Nat) (s : State), let a := s.at t; exec (.pdelayMeasure t p) s = .next (if p < 3 then pdelayMeasureEff p a else a)) ∧
  (∀ (t : Nat) (s : State), exec (.supervisionTx t) s = .next (supervisionTxEff (s.at t))) ∧
  (∀ (t : Nat) (s : State), exec (.redundancyFaultDetect t) s = .next (redundancyFaultDetectEff (s.at t))) ∧
  (∀ (t p : Nat) (up slow an : Bool) (s : State), let a := s.at t; exec (.portLinkChange t p up slow an) s = .next
    (if p < 3 then portLinkChangeEff p up slow an a else a)) ∧
  (∀ (t : Nat) (r : Requester) (v : Nat) (s : State), let a := s.at t; exec (.c22Read t r v) s = .next
    (if a.trAlive (reqIdx r) = true then mdioEff .c22Read r v a else a)) ∧
  (∀ (t : Nat) (r : Requester) (v : Nat) (s : State), let a := s.at t; exec (.c22Write t r v) s = .next
    (if a.trAlive (reqIdx r) = true then mdioEff .c22Write r v a else a)) ∧
  (∀ (t : Nat) (r : Requester) (v : Nat) (s : State), let a := s.at t; exec (.c45Address t r v) s = .next
    (if a.trAlive (reqIdx r) = true then mdioEff .c45Address r v a else a)) ∧
  (∀ (t : Nat) (r : Requester) (v : Nat) (s : State), let a := s.at t; exec (.c45Read t r v) s = .next
    (if a.trAlive (reqIdx r) = true then mdioEff .c45Read r v a else a)) ∧
  (∀ (t : Nat) (r : Requester) (v : Nat) (s : State), let a := s.at t; exec (.c45Write t r v) s = .next
    (if a.trAlive (reqIdx r) = true then mdioEff .c45Write r v a else a)) ∧
  (∀ (t data : Nat) (s : State), exec (.mdioFrameDone t data) s = .next (mdioFrameDoneEff data (s.at t)))

/-- R367 to R370: a change of a dataset entry of an enabled control block takes the new values with their time; an engine that
holds the duties sends at once with the next stNum (after the one reported where the partner's is larger) and sqNum 0, and one that
does not sends nothing; a frame of the control block still waiting in a port's queue is replaced by the new one, and where none
waits a frame is counted; a further change within the same fast tick joins it (log 123); a retransmission doubles its interval up
to MAXT and takes the next sqNum; both numbers go from 0xFFFFFFFF to 1. R372 to R374: a received frame is offered to every
subscription; one for another address, application or name changes nothing; one that does not fit the table counts in CFGERR and
raises event 98 once; a test frame in RUN without TEST_ACC counts in TSTDISC and an old one in DUP; an accepted one restarts the
live timer; a live timer that expires drops the subscription with event 97. Each of its commands completes in every state: its
effect takes place where its operands are of its row and its requester is there, and else nothing happens. -/
def Obligations.GooseMessages : Prop :=
  (∀ n, incGoose n = if n < 0xFFFFFFFF then n + 1 else 1) ∧
  (∀ (t n : Nat) (s : State), let a := s.at t; let g := a.gcbInt n
    let r := a.setGcb n { g with vals := a.dsValues n, t := a.sampAt a.now, tick := some a.flt.geyK }
    n < 32 → a.flag (GSV_PCB_EN n) = true → a.protecting = true → a.dsValues n ≠ g.vals →
    (g.tick = some a.flt.geyK → exec (.gooseStateChange t n) s = .next
      ((a.setGcb n { g with vals := a.dsValues n }).gooseAmend n (a.dsValues n))) ∧
    (g.tick ≠ some a.flt.geyK → a.leads = true → exec (.gooseStateChange t n) s = .next
      (r.gooseNew n (if g.bump = true then r.stAbove n else incGoose (r.getF (GSV_PSTNUM_STNUM n))))) ∧
    (g.tick ≠ some a.flt.geyK → a.leads = false → exec (.gooseStateChange t n) s = .next r)) ∧
  (∀ (t n : Nat) (s : State), let a := s.at t
    n < 32 → (a.flag (GSV_PCB_EN n) = false ∨ a.protecting = false ∨ a.dsValues n = (a.gcbInt n).vals) →
    exec (.gooseStateChange t n) s = .next a) ∧
  (∀ (t n due : Nat) (s : State), let a := s.at t; let g := a.gcbInt n; let gap := Nat.min (2 * g.gap) (a.getF (GSV_PCB_MAXT n))
    let r := a.setF (GSV_PSQNUM_SQNUM n) (incGoose (a.getF (GSV_PSQNUM_SQNUM n)))
    n < 32 → g.next = some due → a.flag (GSV_PCB_EN n) = true → a.protecting = true → a.leads = true →
    (a.now < due → exec (.gooseRetransmit t n) s = .next a) ∧
    (due ≤ a.now → g.bump = true → exec (.gooseRetransmit t n) s = .next (a.gooseNew n (a.stAbove n))) ∧
    (due ≤ a.now → g.bump = false → exec (.gooseRetransmit t n) s = .next ((r.setGcb n { r.gcbInt n with gap := gap, next := some (a.now + gap * msU) }).gooseSend n))) ∧
  (∀ (s : State) (n v : Nat), n < 32 →
    (s.gooseNew n v).getF (GSV_PSTNUM_STNUM n) = v % 2 ^ 32 ∧ (s.gooseNew n v).getF (GSV_PSQNUM_SQNUM n) = 0 ∧
    ((∀ p ∈ s.ownPorts [0, 1, 2], s.gooseWaits n p = false) →
      (s.gooseNew n v).getF (GSV_PCNT_FRAMES n) = (s.getF (GSV_PCNT_FRAMES n) + 1) % 2 ^ (GSV_PCNT_FRAMES n).width) ∧
    ((∃ p ∈ s.ownPorts [0, 1, 2], s.gooseWaits n p = true) →
      (s.gooseNew n v).getF (GSV_PCNT_FRAMES n) = s.getF (GSV_PCNT_FRAMES n))) ∧
  (∀ (s : State) (n : Nat), s.flag OZX_CFG_PAIR = false → (∀ p ∈ s.ownPorts [0, 1, 2], s.gooseWaits n p = false) →
    let g := s.gcbInt n
    s.gooseSend n = (s.txOwn (s.ownPorts [0, 1, 2]) (.goose n (s.gcb n).hdr (s.getF (GSV_PSTNUM_STNUM n)) (s.getF (GSV_PSQNUM_SQNUM n))
      (2 * g.gap) g.t (s.mode == .test) g.vals)).incWrap (GSV_PCNT_FRAMES n)) ∧
  (∀ (s : State) (n p : Nat) (f : TxFrame), s.gooseReplace n [p] f = s.setPort p (let x := s.portNow p (s.port p)
    { x with queue := x.queue.map (fun e => if isGoose n e.f = true then { e with f := f } else e) })) ∧
  (∀ (t p : Nat) (f : GooseFrame) (s : State), let a := s.at t
    p < 3 → a.timeOn = true → a.flag (NET_PCFG_EN p) = true →
    exec (.gooseReceive t p f) s = .next ((upto 128).foldl (fun s j => s.gooseFor j f) a)) ∧
  (∀ (s : State) (j : Nat) (f : GooseFrame), let c := lget ⟨0, 0, [], 0, 0, []⟩ s.gsv.gsubs j; let x := s.subOf j
    let ok := s.setSub j { x with mism := false }
    ((s.flag (GSV_SCFG_EN j) = false ∨ f.dst ≠ c.dst ∨ f.appid ≠ c.appid ∨ f.names ≠ c.names) → s.gooseFor j f = s) ∧
    (s.flag (GSV_SCFG_EN j) = true → f.dst = c.dst → f.appid = c.appid → f.names = c.names →
      (frameFits c f = false → x.mism = true → s.gooseFor j f = s.incSat (GSV_SSTAT_CFGERR j)) ∧
      (frameFits c f = false → x.mism = false → s.gooseFor j f =
        ((s.incSat (GSV_SSTAT_CFGERR j)).setSub j { x with mism := true }).raise 98 j 0) ∧
      (frameFits c f = true → f.test = true → s.mode = .run → s.flag (GSV_SCFG_TEST_ACC j) = false →
        s.gooseFor j f = ok.incSat (GSV_SSTAT_TSTDISC j)) ∧
      (frameFits c f = true → (f.test = false ∨ s.mode ≠ .run ∨ s.flag (GSV_SCFG_TEST_ACC j) = true) →
        frameNew x.last x.dropped f.stNum f.sqNum = false →
        s.gooseFor j f = ok.incSat (GSV_SSTAT_DUP j)) ∧
      (frameFits c f = true → (f.test = false ∨ s.mode ≠ .run ∨ s.flag (GSV_SCFG_TEST_ACC j) = true) →
        frameNew x.last x.dropped f.stNum f.sqNum = true →
        s.gooseFor j f = ok.gooseAccept j c f))) ∧
  (∀ (s : State) (j : Nat) (c : GsubCfg) (f : GooseFrame), j < 128 → s.gsv.subs.length = 144 → (s.subOf j).dropped = false →
    let b := s.gooseAccept j c f
    b.flag (GSV_SSTAT_RX j) = true ∧ (b.subOf j).last = some (f.stNum, f.sqNum) ∧
    (b.subOf j).until_ = some (s.now + f.tal * msU) ∧ (b.subOf j).dropped = false ∧ b.evt = s.evt) ∧
  (∀ (t j u : Nat) (s : State), let a := s.at t
    j < 128 → (a.subOf j).until_ = some u → exec (.gooseLiveTimeout t j) s = .next
      (if a.timeOn = true ∧ u ≤ a.now then (a.setFlag (GSV_SSTAT_RX j) false).subDrop j else a)) ∧
  (∀ (s : State) (j : Nat), j < 144 → s.gsv.subs.length = 144 →
    (s.subDrop j).getF (LGC_SUBST_DROPS j) = satInc (2 ^ (LGC_SUBST_DROPS j).width - 1) (s.getF (LGC_SUBST_DROPS j)) ∧
    ((s.subDrop j).subOf j).dropped = true ∧ ((s.subDrop j).subOf j).until_ = none ∧
    (let d := (s.pendDrop j).incSat (LGC_SUBST_DROPS j);
      s.subDrop j = (d.setSub j { s.subOf j with dropped := true, until_ := none }).raise 97 j (d.getF (LGC_SUBST_DROPS j)))) ∧
  (∀ (t n : Nat) (s : State), let a := s.at t; exec (.gooseStateChange t n) s = .next
    (if n < 32 then gooseStateChangeEff n a else a)) ∧
  (∀ (t n : Nat) (s : State), let a := s.at t; exec (.gooseRetransmit t n) s = .next (if n < 32 then gooseRetransmitEff n a else a)) ∧
  (∀ (t p : Nat) (f : GooseFrame) (s : State), let a := s.at t; exec (.gooseReceive t p f) s = .next
    (if p < 3 then gooseReceiveEff p f a else a)) ∧
  (∀ (t j : Nat) (s : State), let a := s.at t; exec (.gooseLiveTimeout t j) s = .next
    (if j < 128 then gooseLiveTimeoutEff j a else a))

/-- R375 to R378: a sampled-values frame is offered to every stream; one for another stream changes nothing, one that does not fit
counts in CFGERR and raises event 98 once; a simulated frame in RUN without TEST_ACC is not taken; a repeated count is discarded; a
stream below SYNCMIN raises event 99 once; a stream without a sample for four periods and JTOL, or whose count runs five or more
ahead, is dropped, counts it and shows it; eight consecutive samples recover it; a sample is kept for each channel of the stream at
its instant, scaled and tagged; a stream of the engine's own sends a frame when its last ASDU is there. Each of its commands
completes in every state: its effect takes place where its operands are of its row and its requester is there, and else nothing
happens. -/
def Obligations.SampledValues : Prop :=
  (∀ (t p : Nat) (f : SvFrame) (s : State), let a := s.at t
    p < 3 → a.timeOn = true → a.flag (NET_PCFG_EN p) = true →
    exec (.svReceive t p f) s = .next ((upto 16).foldl (fun s st => s.svFor st f) a)) ∧
  (∀ (s : State) (st : Nat) (f : SvFrame), let c := lget ⟨0, 0, 0, 0, 0⟩ s.gsv.svsubs st; let x := s.subOf (128 + st)
    ((s.flag (GSV_SVSCFG_EN st) = false ∨ f.dst ≠ c.dst ∨ f.appid ≠ c.appid ∨ f.svid ≠ c.svid) → s.svFor st f = s) ∧
    (s.flag (GSV_SVSCFG_EN st) = true → f.dst = c.dst → f.appid = c.appid → f.svid = c.svid →
      ((f.confRev ≠ c.confRev ∨ f.asdus = [] ∨ 8 < f.asdus.length) → x.mism = true →
        s.svFor st f = s.incSat (GSV_SVSSTAT_CFGERR st)) ∧
      ((f.confRev ≠ c.confRev ∨ f.asdus = [] ∨ 8 < f.asdus.length) → x.mism = false →
        s.svFor st f = ((s.incSat (GSV_SVSSTAT_CFGERR st)).setSub (128 + st) { x with mism := true }).raise 98 (128 + st) 0) ∧
      (f.confRev = c.confRev → f.asdus ≠ [] → f.asdus.length ≤ 8 → (∀ a ∈ f.asdus, a.vals.length = c.n ∧ a.cnt < s.svSubRate st) →
        let ok := s.setSub (128 + st) { x with mism := false }
        (f.sim = true → s.mode = .run → s.flag (GSV_SVSCFG_TEST_ACC st) = false → s.svFor st f = ok) ∧
        ((f.sim = false ∨ s.mode ≠ .run ∨ s.flag (GSV_SVSCFG_TEST_ACC st) = true) →
          s.svFor st f = f.asdus.foldl (fun s a => s.svAsdu st f.sim a) ok)))) ∧
  (∀ (s : State) (st : Nat) (sim : Bool) (a : SvAsdu), (∃ e ∈ (s.svOf st).recent, e.1 = a.cnt ∧ s.now < e.2 + secU) →
    s.svAsdu st sim a = s.incSat (GSV_SVSSTAT_DUP st)) ∧
  (∀ (s : State) (st : Nat) (sim : Bool) (a : SvAsdu), (∀ e ∈ (s.svOf st).recent, e.1 ≠ a.cnt ∨ e.2 + secU ≤ s.now) →
    st < 16 → s.gsv.svInts.length = 16 → s.gsv.subs.length = 144 →
    let x := s.svOf st; let y := s.svAsdu st sim a
    let sync := decide (s.getF (GSV_SVSCFG_SYNCMIN st) ≤ a.synch)
    let key := svKey (s.svSubRate st) a.cnt (s.sampAt s.now)
    let gap := match x.key with | some k => (a.cnt + s.svSubRate st - k % s.svSubRate st) % s.svSubRate st | none => 1
    (y.svOf st).key = some key ∧ (y.svOf st).at_ = s.now ∧ (y.svOf st).low = !sync ∧ y.flag (GSV_SVSSTAT_SYNC st) = sync ∧
    ((x.dropped = true ∨ gap < 5) → y.evt = (if sync = true ∨ x.low = true then s else
      (s.setFlag (GSV_SVSSTAT_SYNC st) false).raise 99 st a.synch).evt ∧
      (y.getF (LGC_SUBST_DROPS (128 + st)) = s.getF (LGC_SUBST_DROPS (128 + st)))) ∧
    (x.dropped = false → 5 ≤ gap → (y.svOf st).dropped = true ∧ y.flag (GSV_SVSSTAT_RX st) = false ∧
      y.getF (LGC_SUBST_DROPS (128 + st)) =
        satInc (2 ^ (LGC_SUBST_DROPS (128 + st)).width - 1) (s.getF (LGC_SUBST_DROPS (128 + st)))) ∧
    (sync = false → (y.svOf st).run = 0 ∧ (x.dropped = true → (y.svOf st).dropped = true)) ∧
    (sync = true → (x.dropped = true ∨ gap < 5) → (y.svOf st).run = (if gap = 1 then satInc 8 x.run else 1)) ∧
    (x.dropped = true → sync = true → gap = 1 → 7 ≤ x.run →
      (y.svOf st).dropped = false ∧ y.flag (GSV_SVSSTAT_RX st) = true ∧ (y.subOf (128 + st)).dropped = false) ∧
    (x.dropped = true → (gap ≠ 1 ∨ x.run < 7) → (y.svOf st).dropped = true)) ∧
  (∀ (s : State) (st key v : Nat) (sync : Bool) (a : SvAsdu) (e : SvVal), v < 64 → s.flt.vsmp.length = 64 →
    s.flag (GSV_VCH_EN v) = true → s.getF (GSV_VCH_STREAM v) = st → s.svUsed v key = false →
    (a.vals.drop (s.getF (GSV_VCH_ELEM v))).head? = some e →
    let q := svScale e.v (s.getF (GSV_VGAIN_VGAIN v))
    let acc := s.flag (GSV_SVSCFG_TEST_ACC st) || s.mode == .test
    lget [] (s.svPlace st key sync a).1.flt.vsmp v =
      ((key, ⟨q.1, if sync = true then tagMax (svTag acc e) (tagIf q.2 .overrange) else .missing⟩) :: lget [] s.flt.vsmp v).take 256) ∧
  (∀ (s : State) (q k : Nat), q < 8 → s.flag FLT_SVCFG_SV_EN = true → s.protecting = true → s.flag (GSV_SVPCFG_EN q) = true →
    (∀ r < 8, r ≠ q → s.flag (GSV_SVPCFG_EN r) = false) → s.gsv.svOut.length = 8 → s.gsv.svLast.length = 8 →
    (∀ i < 8, (s.fch (s.svpCh q i)).fixK = some k) → lget none s.gsv.svLast q ≠ some k →
    let l := lget [] s.gsv.svOut q ++ [s.svpAsdu q k]
    let put (m : List SvpAsdu) : State :=
      { s with gsv := { s.gsv with svOut := lset s.gsv.svOut q m, svLast := lset s.gsv.svLast q (some k) } }
    (l.length < s.getF (GSV_SVPCFG_NASDU q) → s.svPublish = put l) ∧
    (s.getF (GSV_SVPCFG_NASDU q) ≤ l.length → s.leads = false → s.svPublish = put []) ∧
    (s.getF (GSV_SVPCFG_NASDU q) ≤ l.length → s.leads = true →
      s.svPublish = (put []).txOwn (s.ownPorts [0, 1, 2]) (.sv q (lget noFrameHdr s.gsv.svpubs q) (s.mode == .test) l))) ∧
  (∀ (t st : Nat) (s : State), let a := s.at t; let x := a.svOf st
    st < 16 → x.dropped = false → x.key.isSome = true → a.timeOn = true →
    exec (.svStreamTimeout t st) s = .next
      (if 4 * secU + (x.at_ + a.getF (GSV_SVSCFG_JTOL st) * usU) * a.svSubRate st ≤ a.now * a.svSubRate st then a.svDrop st else a)) ∧
  (∀ (s : State) (st : Nat), st < 16 → s.gsv.svInts.length = 16 →
    (s.svDrop st).flag (GSV_SVSSTAT_RX st) = false ∧ ((s.svDrop st).svOf st).dropped = true ∧ ((s.svDrop st).svOf st).run = 0) ∧
  (∀ (t p : Nat) (f : SvFrame) (s : State), let a := s.at t; exec (.svReceive t p f) s = .next
    (if p < 3 then svReceiveEff p f a else a)) ∧
  (∀ (t st : Nat) (s : State), let a := s.at t; exec (.svStreamTimeout t st) s = .next
    (if st < 16 then svStreamTimeoutEff st a else a))

/-- R382 to R388: a link that loses its characters goes DOWN with event 104 and drops what waited (log entry 44), the loss of the
clock that REFSEL names as the reference being the loss of the reference (R388); a clock brings an enabled link to the alignment
state and 64 valid characters make it UP; an ACK removes its frame; a NAK, or a timeout 700 ns after the frame's end, sends it
again up to three times, the fourth drops it (event 105 once per second); a repeated LSEQ (one accepted in the last 5 µs: log entry
44) is acknowledged and otherwise ignored; a frame with a CRC error counts, and a retried type gets a NAK. Each of its commands
completes in every state: its effect takes place where its operands are of its row and its requester is there, and else nothing
happens. -/
def Obligations.OzauxLinks : Prop :=
  (∀ (t l : Nat) (clk : Bool) (s : State), let a := s.at t; let r := a.setFlag (OZX_LSTAT_CLKIN l) clk; let x := a.link l
    let d := (r.setLink l { x with waits := [], sent := none, line := [], reqAt := none, dlys := [], far := false, exchAt := none }).linkEnter l 0
    l < 2 → a.ozOn = true → a.getF (OZX_LSTAT_STATE l) ≠ 0 →
    ((clk = true ∨ a.getF OZX_CFG_REFSEL ≠ l + 1) → exec (.ozLinkDown t l clk) s = .next d) ∧
    (clk = false → a.getF OZX_CFG_REFSEL = l + 1 → exec (.ozLinkDown t l clk) s = .next (referenceLossEff d))) ∧
  (∀ (t l : Nat) (clk : Bool) (s : State), let a := s.at t
    l < 2 → a.getF (OZX_LSTAT_STATE l) = 0 →
    (clk = true ∨ a.ozOn = false ∨ a.getF OZX_CFG_REFSEL ≠ l + 1) → exec (.ozLinkDown t l clk) s = .next
      (if a.ozOn = true then a.setFlag (OZX_LSTAT_CLKIN l) clk else a)) ∧
  (∀ (t l : Nat) (s : State), let a := s.at t; let r := a.setFlag (OZX_LSTAT_CLKIN l) true
    l < 2 → a.ozOn = true →
    (a.linkEn l = true → a.getF (OZX_LSTAT_STATE l) = 0 → exec (.ozClockDetect t l) s = .next (r.linkEnter l 1)) ∧
    (a.linkEn l = false → exec (.ozClockDetect t l) s = .next r) ∧
    (a.getF (OZX_LSTAT_STATE l) = 1 → exec (.ozLinkUp t l) s = .next
      (if l = 0 ∧ a.paired = true then (a.linkEnter l 2).ozSend 0 (.image a.oz.imgDig) else a.linkEnter l 2))) ∧
  (∀ (s : State) (l st : Nat), l < 2 → st < 4 →
    (s.linkEnter l st).getF (OZX_LSTAT_STATE l) = st ∧ ((st = 0 ∨ st = 3) → (s.linkEnter l st).flag (OZX_LSTAT_CHG l) = true) ∧
    ((st = 0 ∨ st = 3) → s.linkEnter l st = ((s.setF (OZX_LSTAT_STATE l) st).setFlag (OZX_LSTAT_CHG l) true).raise 104 l st) ∧
    ((st = 1 ∨ st = 2) → (s.linkEnter l st).evt = s.evt)) ∧
  (∀ (t l q : Nat) (s : State), let a := s.at t; let x := a.link l
    l < 2 → q < 256 → a.linkUp l = true →
    exec (.ackReceive t l q) s = .next (a.setLink l { x with waits := x.waits.filter (fun w => w.frame.lseq != q) }) ∧
    (∀ w, x.waits.find? (fun w => w.frame.lseq = q) = some w →
      (w.tries < 3 →
        let r := ((a.setLink l { x with waits := x.waits.map (fun v => if v.frame.lseq = q then { v with tries := v.tries + 1 } else v) }).incSat
          (OZX_LCNT_RETRY l)).ozResend l w.frame
        exec (.nakReceive t l q) s = .next r ∧
        exec (.ackTimeout t l q) s = .next (if w.ends + 11200 ≤ a.now then r else a)) ∧
      (3 ≤ w.tries → x.lostSec = some (a.now / secU) →
        let r := (a.setLink l { x with waits := x.waits.filter (fun v => v.frame.lseq != q), lostSec := some (a.now / secU) }).incSat
          (OZX_LCNT_LOST l)
        exec (.nakReceive t l q) s = .next r ∧
        exec (.ackTimeout t l q) s = .next (if w.ends + 11200 ≤ a.now then r else a)) ∧
      (3 ≤ w.tries → x.lostSec ≠ some (a.now / secU) →
        let r := (a.setLink l { x with waits := x.waits.filter (fun v => v.frame.lseq != q), lostSec := some (a.now / secU) }).incSat
          (OZX_LCNT_LOST l)
        exec (.nakReceive t l q) s = .next (r.raise 105 l (r.getF (OZX_LCNT_LOST l))) ∧
        exec (.ackTimeout t l q) s = .next (if w.ends + 11200 ≤ a.now then r.raise 105 l (r.getF (OZX_LCNT_LOST l)) else a))) ∧
    (x.waits.find? (fun w => w.frame.lseq = q) = none →
      exec (.nakReceive t l q) s = .next a ∧ exec (.ackTimeout t l q) s = .next a)) ∧
  (∀ (t l ty q : Nat) (s : State), let a := s.at t
    l < 2 → ty < 256 → q < 256 →
    (a.linkUp l = true → ty = 1 ∨ ty = 2 ∨ ty = 5 ∨ ty = 6 →
      exec (.ozauxCrcError t l ty q) s = .next ((a.incSat (OZX_LCNT_CRCERR l)).ozSend l (.nak q))) ∧
    (a.linkUp l = true → ty ≠ 1 → ty ≠ 2 → ty ≠ 5 → ty ≠ 6 →
      exec (.ozauxCrcError t l ty q) s = .next (a.incSat (OZX_LCNT_CRCERR l))) ∧
    (a.linkUp l = false → exec (.ozauxCrcError t l ty q) s = .next a)) ∧
  (∀ (s : State) (l q : Nat), l < 2 → s.oz.links.length = 2 →
    ((∃ e ∈ (s.link l).seen, e.1 = q ∧ s.now < e.2 + 5 * usU) → (s.ozAccept l q).1 = false) ∧
    ((∀ e ∈ (s.link l).seen, e.1 ≠ q ∨ e.2 + 5 * usU ≤ s.now) → (s.ozAccept l q).1 = true)) ∧
  (∀ (t l : Nat) (clk : Bool) (s : State), let a := s.at t; exec (.ozLinkDown t l clk) s = .next
    (if l < 2 then ozLinkFallEff l clk a else a)) ∧
  (∀ (t l : Nat) (s : State), let a := s.at t; exec (.ozClockDetect t l) s = .next (if l < 2 then ozClockDetectEff l a else a)) ∧
  (∀ (t l : Nat) (s : State), let a := s.at t; exec (.ozLinkUp t l) s = .next (if l < 2 then ozLinkUpEff l a else a)) ∧
  (∀ (t l lseq : Nat) (s : State), let a := s.at t; exec (.ackReceive t l lseq) s = .next
    (if l < 2 ∧ lseq < 256 then ackReceiveEff l lseq a else a)) ∧
  (∀ (t l lseq : Nat) (s : State), let a := s.at t; exec (.nakReceive t l lseq) s = .next
    (if l < 2 ∧ lseq < 256 then nakReceiveEff l lseq a else a)) ∧
  (∀ (t l lseq : Nat) (s : State), let a := s.at t; exec (.ackTimeout t l lseq) s = .next
    (if l < 2 ∧ lseq < 256 then ackTimeoutEff l lseq a else a)) ∧
  (∀ (t l ty lseq : Nat) (s : State), let a := s.at t; exec (.ozauxCrcError t l ty lseq) s = .next
    (if l < 2 ∧ ty < 256 ∧ lseq < 256 then ozauxCrcErrorEff l ty lseq a else a))

/-- R389 to R393: a delay exchange, once per 1 ms, sends DLY_REQ and just after it TIME with the sampling time of its own start
comma; a request is answered; a response gives half of the round trip less the turnaround, more than 5 ns from the mean is
discarded; a TIME message updates the time bases that follow the link; a TRIG message of the engine's own is a loop (event 108),
another is taken once, forwarded with one hop less and the age it has by its own departure, and delivered at its instant, one that
came too late at once with event 107; three missing TIME messages are a lost source. How the short time fields are completed and
ages rounded is log entry 45's choice, which instant a received frame's command names is log entry 124's. Each of its commands
completes in every state: its effect takes place where its operands are of its row and its requester is there, and else nothing
happens. -/
def Obligations.OzauxTimeAndTriggers : Prop :=
  (∀ (t l : Nat) (s : State), let a := s.at t
    let r := (a.setLink l { a.link l with exchAt := some a.now }).ozSend l (.dlyReq 0)
    let v := splitTime (r.sampAt (ozFree r.now (r.link l).line))
    l < 2 → a.linkUp l = true →
    (a.exchDue l = true → exec (.delayExchange t l) s = .next (r.ozSend l (.time v.2.1 (v.1 % 65536) r.sampQual))) ∧
    (a.exchDue l = false → exec (.delayExchange t l) s = .next a)) ∧
  (∀ (t l word : Nat) (s : State), let a := s.at t
    l < 2 → exec (.dlyReqReceive t l word) s = .next (a.ozSend l (.dlyResp
      ((ozFree a.now ((a.link l).line.filter (fun e => decide (a.now < e.2 + ozLen e.1))) - a.now) / 4)))) ∧
  (∀ (t l turn u : Nat) (s : State), let a := s.at t; let x := a.link l; let d := ((a.now - u) / 4 - turn) / 2
    l < 2 → x.reqAt = some u → a.linkUp l = true → x.dlys ≠ [] → 20 < absN ((d : Int) - (meanDly x.dlys : Int)) →
    exec (.dlyRespReceive t l turn) s = .next ((a.setLink l { x with reqAt := none }).incSat (OZX_LCNT_DLYDISC l))) ∧
  (∀ (t l turn u : Nat) (s : State), let a := s.at t; let x := a.link l; let d := ((a.now - u) / 4 - turn) / 2
    let m := meanDly ((d :: x.dlys).take 8)
    l < 2 → a.oz.links.length = 2 → x.reqAt = some u → a.linkUp l = true → (x.dlys = [] ∨ absN ((d : Int) - (meanDly x.dlys : Int)) ≤ 20) →
    m ≤ 400 →
    ∃ s', exec (.dlyRespReceive t l turn) s = .next s' ∧ s'.getF (OZX_LDLY_DLY l) = m ∧ (s'.link l).dlys = (d :: x.dlys).take 8 ∧
      (s'.link l).reqAt = none ∧ (x.dlys.length < 7 → s'.evt = a.evt)) ∧
  (∀ (t l ns sec q : Nat) (s : State), let a := s.at t
    l < 2 → ns < 1000000000 → sec < 65536 → q < 256 → a.timeOn = true → a.linkUp l = true →
    exec (.timeReceive t l ns sec q) s = .next ((upto 4).foldl (fun s b =>
      if s.followsLink b l = false then s
      else if 2 ≤ q / 16 % 4 then s.srcLost b
      else s.servoUpdate b (nearest (65536 * subPerSec) (((sec * 1000000000 + ns : Nat) : Int) * 65536 +
        ((s.linkDly l : Nat) : Int) * 16384) (s.tbAt b s.now) - s.tbAt b s.now) (q % 16)) a)) ∧
  (∀ (t : Nat) (s : State), let a := s.at t
    a.timeOn = true → exec (.partnerTimeLoss t) s = .next ((upto 4).foldl (fun s b =>
      if s.tbSrc b = 5 ∧ (s.tb b).lastUpd.any (fun u => decide (u + 3 * msU ≤ s.now)) = true then s.srcLost b else s) a)) ∧
  (∀ (t l q id hops orig age ns sec top : Nat) (s : State), let a := s.at t; let r := (a.ozAccept l q).2
    l < 2 → q < 256 → id < 16 → hops < 8 → orig < 8 → age < 4096 → ns < 1000000000 → sec < 256 → top < 16 → a.linkUp l = true →
    ((a.ozAccept l q).1 = false → exec (.ozTrigReceive t l q id hops orig age ns sec top) s = .next r) ∧
    ((a.ozAccept l q).1 = true → r.linkDom l = true → orig = r.getF OZX_CFG_ENGID →
      exec (.ozTrigReceive t l q id hops orig age ns sec top) s = .next ((r.incSat OZX_TCNT_LOOP).raise 108 l id)) ∧
    ((a.ozAccept l q).1 = true → r.linkDom l = true → orig ≠ r.getF OZX_CFG_ENGID →
      exec (.ozTrigReceive t l q id hops orig age ns sec top) s = .next (r.trigTake l id hops orig age ns sec))) ∧
  (∀ (s : State) (l id hops orig age ns sec : Nat), let o := 1 - l; let dly := s.linkDly l
    let due : Int := (s.now : Int) - 5200 + 64000 - ((16 * age + 4 * dly : Nat) : Int)
    let m (n : Nat) : OzMsg := .trig id (hops - 1) orig n ns sec
    let u := if 0 < hops ∧ s.linkDom o = true ∧ s.linkReady o = true then s.ozSend o
      (m ((age + (dly + 2) / 4 + (s.ozUrgentAt o (m age) + 5200 - s.now + 8) / 16) % 4096)) else s
    ((s.now : Int) ≤ due → s.trigTake l id hops orig age ns sec =
      { u with oz := { u.oz with trigs := u.oz.trigs ++ [⟨id, due.toNat, ns, sec, true⟩] } }) ∧
    (due < (s.now : Int) → s.trigTake l id hops orig age ns sec =
      ((u.ozDeliver ⟨id, due.toNat, ns, sec, true⟩).incSat OZX_TCNT_LATE).raise 107 l id)) ∧
  (∀ (t : Nat) (s : State), let a := s.at t
    a.ozOn = true → exec (.ozTrigDelivery t) s = .next ((a.oz.trigs.filter (fun t => decide (t.at_ ≤ a.now))).foldl (fun s t => s.ozDeliver t)
      { a with oz := { a.oz with trigs := a.oz.trigs.filter (fun t => decide (a.now < t.at_)) } })) ∧
  (∀ (t : Nat) (s : State), exec (.partnerTimeLoss t) s = .next (partnerTimeLossEff (s.at t))) ∧
  (∀ (t l : Nat) (s : State), let a := s.at t; exec (.delayExchange t l) s = .next (if l < 2 then delayExchangeEff l a else a)) ∧
  (∀ (t l word : Nat) (s : State), let a := s.at t; exec (.dlyReqReceive t l word) s = .next
    (if l < 2 then dlyReqReceiveEff l a else a)) ∧
  (∀ (t l turn : Nat) (s : State), let a := s.at t; exec (.dlyRespReceive t l turn) s = .next
    (if l < 2 then dlyRespReceiveEff l turn a else a)) ∧
  (∀ (t l lseq id hops orig age ns sec top : Nat) (s : State), let a := s.at t; exec (.ozTrigReceive t l lseq id hops orig age ns sec top) s = .next
    (if l < 2 ∧ lseq < 256 ∧ id < 16 ∧ hops < 8 ∧ orig < 8 ∧ age < 4096 ∧ ns < 1000000000 ∧ sec < 256 ∧ top < 16 then
      ozTrigReceiveEff l lseq id hops orig age ns sec a else a)) ∧
  (∀ (t : Nat) (s : State), exec (.ozTrigDelivery t) s = .next (ozTrigDeliveryEff (s.at t))) ∧
  (∀ (t l ns sec qual : Nat) (s : State), let a := s.at t; exec (.timeReceive t l ns sec qual) s = .next
    (if l < 2 ∧ ns < 1000000000 ∧ sec < 65536 ∧ qual < 256 then timeReceiveEff l ns sec qual a else a))

/-- R395 to R402: the engine that finds its partner's heartbeats missing for 17.6 µs shows it, counts it and, without the duties,
takes them with event 5; a heartbeat leaves once per fast tick, at F_k and 3.0 µs; two holders are reported with event 6 and the
PARTNER releases; a PARTNER waits PAIR_WAIT before it takes them; the digest of a slow tick that differs as often as DIG_N in a row
raises event 7, and a different image event 8. When the partner and the heartbeats are looked at is log entry 124's choice; that
event 6 comes at every such heartbeat, that duties settle at each of them and that the handover is told by the next one is log
entry 46's. Each of its commands completes in every state: its effect takes place where its operands are of its row and its
requester is there, and else nothing happens. -/
def Obligations.RedundantPair : Prop :=
  (∀ (t h : Nat) (s : State), let a := s.at t; let r := (a.setFlag OZX_PSTAT_PARTNER_OK false).incSat OZX_PCNT_HBLOST
    a.ozOn = true → a.oz.hbAt = some h → a.flag OZX_PSTAT_PARTNER_OK = true → h + 281600 ≤ a.now →
    ((a.protecting = false ∨ a.leads = true) → exec (.partnerOkTimeout t) s = .next r) ∧
    (a.protecting = true → a.leads = false → exec (.partnerOkTimeout t) s = .next
      (((r.incSat OZX_PCNT_TAKEOVER).raise 5 0 ((r.incSat OZX_PCNT_TAKEOVER).getF OZX_PCNT_TAKEOVER)).takeDuties))) ∧
  (∀ (t : Nat) (s : State), let a := s.at t; let n := (a.oz.tick + 1) % 4294967296
    a.paired = true → a.protecting = true → (∀ d, a.oz.hbDue = some d → a.oz.relNext = false →
    exec (.heartbeatSend t) s = .next (if a.now < d then a else ({ a with oz := { a.oz with tick := n, hbDue := none } }).ozSend 0
      (.heartbeat n a.podOkBits (a.mode == Mode.test) a.leads (b2n a.sys.straps.partner)))) ∧
    (a.oz.hbDue = none → exec (.heartbeatSend t) s = .next a)) ∧
  (∀ (t q pk : Nat) (test holds : Bool) (s : State), let a := s.at t; let b := (a.ozAccept 0 q).2
    let r := (((({ b with oz := { b.oz with hbAt := some b.now, hbHeld := b.oz.hbHeld || holds, waitFrom := none } }).setFlag
      OZX_PSTAT_PARTNER_OK true).setFlag OZX_PSTAT_P_HOLDS holds).setFlag OZX_PSTAT_P_TEST test).setF OZX_PSTAT_P_PODOK pk
    q < 256 → pk < 8 → a.paired = true → a.linkUp 0 = true → (a.ozAccept 0 q).1 = true →
    exec (.heartbeatReceive t q pk test holds) s = .next (r.settleDuties test holds)) ∧
  (∀ (s : State) (test : Bool),
    (s.leads = true → s.sys.straps.partner = true →
      s.settleDuties test true = ((s.setFlag OZX_PSTAT_DUAL_SEEN true).raise 6 0 0).releaseDuties) ∧
    (s.leads = false → s.settleDuties test true = s) ∧
    (s.leads = true → s.sys.straps.partner = false → (s.settleDuties test true).leads = true ∧
      (s.settleDuties test true).gsv = { s.gsv with gcbInts := s.gsv.gcbInts.map (fun g => { g with bump := true }) }) ∧
    (s.leads = false → s.mode = .run → (test = true ∨ s.sys.straps.partner = false) → s.settleDuties test false = s.takeDuties) ∧
    (s.leads = false → (s.mode ≠ .run ∨ test = false ∧ s.sys.straps.partner = true) → s.settleDuties test false = s) ∧
    (s.leads = true → s.settleDuties test false = s)) ∧
  (∀ s : State, s.takeDuties.leads = true ∧ s.releaseDuties.leads = false) ∧
  (∀ (t w : Nat) (s : State), let a := s.at t; let r : State := { a with oz := { a.oz with waitFrom := none } }
    a.oz.waitFrom = some w → a.protecting = true → w + a.getF OZX_PCFG_PAIR_WAIT * msU ≤ a.now →
    (a.leads = true → exec (.pairWaitExpiry t) s = .next r) ∧ (a.leads = false → exec (.pairWaitExpiry t) s = .next r.takeDuties)) ∧
  (∀ (t d ns : Nat) (e : Nat × Nat) (s : State), let a := s.at t
    let r := ({ a with oz := { a.oz with mism := a.oz.mism + 1 } }).incSat OZX_PCNT_DIGCNT
    ns < 1000000000 → a.paired = true → a.linkUp 0 = true → a.oz.digs.find? (fun e => a.tauNear e.2 ns) = some e →
    (e.1 = d → exec (.stateReceive t d ns) s = .next { a with oz := { a.oz with mism := 0 } }) ∧
    (e.1 ≠ d → a.oz.mism + 1 ≠ r.getF OZX_PCFG_DIG_N → exec (.stateReceive t d ns) s = .next r) ∧
    (e.1 ≠ d → a.oz.mism + 1 = r.getF OZX_PCFG_DIG_N → exec (.stateReceive t d ns) s = .next
      ((r.setFlag OZX_PSTAT_DIGMM true).raise 7 0 ((r.setFlag OZX_PSTAT_DIGMM true).getF OZX_PCNT_DIGCNT)))) ∧
  (∀ (t q cb st : Nat) (s : State), let a := s.at t; let r := (a.ozAccept 0 q).2
    q < 256 → a.paired = true → a.linkUp 0 = true → (a.ozAccept 0 q).1 = true →
    (cb < 32 → st < 4294967296 → exec (.pubseqReceive t q cb st) s = .next
      { r with oz := { r.oz with pubSeq := lset r.oz.pubSeq cb (some st) } }) ∧
    (st < 2 ^ 64 → st = r.oz.imgDig → exec (.imageReceive t q st) s = .next (r.setFlag OZX_PSTAT_IMGDIFF false)) ∧
    (st < 2 ^ 64 → st ≠ r.oz.imgDig → exec (.imageReceive t q st) s = .next
      ((r.setFlag OZX_PSTAT_IMGDIFF true).raise 8 0 (st % 4294967296)))) ∧
  (∀ (t : Nat) (s : State), exec (.heartbeatSend t) s = .next (heartbeatSendEff (s.at t))) ∧
  (∀ (t lseq podOk : Nat) (test holds : Bool) (s : State), let a := s.at t; exec (.heartbeatReceive t lseq podOk test holds) s = .next
    (if lseq < 256 ∧ podOk < 8 then heartbeatReceiveEff lseq podOk test holds a else a)) ∧
  (∀ (t : Nat) (s : State), exec (.partnerOkTimeout t) s = .next (partnerOkTimeoutEff (s.at t))) ∧
  (∀ (t : Nat) (s : State), exec (.pairWaitExpiry t) s = .next (pairWaitExpiryEff (s.at t))) ∧
  (∀ (t digest tau : Nat) (s : State), let a := s.at t; exec (.stateReceive t digest tau) s = .next
    (if tau < 1000000000 then stateReceiveEff digest tau a else a)) ∧
  (∀ (t lseq cb st : Nat) (s : State), let a := s.at t; exec (.pubseqReceive t lseq cb st) s = .next
    (if lseq < 256 ∧ cb < 32 ∧ st < 4294967296 then pubseqReceiveEff lseq cb st a else a)) ∧
  (∀ (t lseq dig : Nat) (s : State), let a := s.at t; exec (.imageReceive t lseq dig) s = .next
    (if lseq < 256 ∧ dig < 2 ^ 64 then imageReceiveEff lseq dig a else a))

/-- R446, R447, R450: a doorbell takes the mailbox as a request, and one while BUSY is set shows DB_BUSY and nothing more; a
request of one fragment on port C is received whole; the first of two fragments waits with its instant, its successor completes it,
one out of order or under another XID discards it and counts in FRAGTO, and so does the end of 10 ms; rows 2 to 6 answer the first
failure untagged and count it in REFUSED, and a request that passes them waits for the Service core behind those before it, an xSPI
request before those of port C of the same instant. How XID is read and what ends a reassembly is log entry 57's choice, that
requests run in the order of their reception log entry 54's, what the same instant is log entry 134's. Each of its commands
completes in every state: its effect takes place where its operands are of its row and its requester is there, and else nothing
happens. -/
def Obligations.CommandReception : Prop :=
  (∀ (t : Nat) (r : Requester) (s : State), let a := s.at t
    a.trAlive (reqIdx r) = true → a.trAlive 0 = true → a.judge r CMD_DB = .allowed →
    (a.flag CMD_STAT_BUSY = false → exec (.doorbell t r) s = .next
      (((a.setFlag CMD_STAT_BUSY true).receiveFrame 0 0 0 a.mailBytes).recordWrite r CMD_DB .ok)) ∧
    (a.flag CMD_STAT_BUSY = true → exec (.doorbell t r) s = .next ((a.setFlag CMD_STAT_DB_BUSY true).recordWrite r CMD_DB .ok))) ∧
  (∀ (t src frag n x0 x1 : Nat) (d : List Nat) (s : State), let a := s.at t; let xid := x0 + 256 * x1
    let dst := a.getF NET_MAC_LO_MACL + 4294967296 * a.getF NET_MAC_HI_MACH
    let go := exec (.cmdFragment t 2 dst src (frag :: n :: x0 :: x1 :: d)) s
    let off : State := ({ a with cmd := { a.cmd with reasm := none } }).incSat CMD_ECNT_FRAGTO
    a.trAlive 1 = true → a.flag (NET_PCFG_EN 2) = true → dst < 2 ^ 48 → src < 2 ^ 48 → frag < 256 → n < 256 → x0 < 256 → x1 < 256 →
    d.length ≤ 1496 → (∀ b ∈ d, b < 256) →
    (a.cmd.reasm = none → frag = 0 → n = 1 → 16 ≤ d.length →
      go = .next (({ a with cmd := { a.cmd with reasm := none } }).receiveFrame 1 xid src d)) ∧
    (a.cmd.reasm = none → frag = 0 → (n = 2 ∨ n = 3) → d.length = 1496 →
      go = .next { a with cmd := { a.cmd with reasm := some ⟨xid, n, 1, d, a.now⟩ } }) ∧
    (∀ q, a.cmd.reasm = some q → a.now ≤ q.from_ + 10 * msU → q.xid = xid → q.next = frag → q.n = n → frag + 1 = n → 16 ≤ q.bytes.length →
      go = .next (({ a with cmd := { a.cmd with reasm := none } }).receiveFrame 1 xid src (q.bytes ++ d))) ∧
    (∀ q, a.cmd.reasm = some q → a.now ≤ q.from_ + 10 * msU → q.xid = xid → q.next ≠ frag → go = .next off) ∧
    (∀ q, a.cmd.reasm = some q → a.now ≤ q.from_ + 10 * msU → q.xid ≠ xid → frag = 0 → n = 1 → 16 ≤ d.length →
      go = .next (off.receiveFrame 1 xid src d))) ∧
  (∀ (t : Nat) (r : Reasm) (s : State), let a := s.at t
    a.cmd.reasm = some r → r.from_ + 10 * msU < a.now →
    exec (.fragmentTimeout t) s = .next (({ a with cmd := { a.cmd with reasm := none } }).incSat CMD_ECNT_FRAGTO)) ∧
  (∀ (s : State) (tr xid src : Nat) (bs : List Nat), let op := leAt bs 0 2; let seq := leAt bs 8 4
    let refuse (s : State) (st : Status) : State := (s.incSat CMD_CNT_REFUSED).sendRsp tr xid src (rspHdr op 0x4000 0 seq st 0)
    (4096 < leAt bs 4 4 → s.receiveFrame tr xid src bs = refuse s .lenRange) ∧
    (leAt bs 4 4 ≤ 4096 → (leAt bs 12 4 ≠ 0 ∨ 16 ≤ leAt bs 2 2) → s.receiveFrame tr xid src bs = refuse s .valueRange) ∧
    (leAt bs 4 4 ≤ 4096 → leAt bs 12 4 = 0 → leAt bs 2 2 < 16 → frameLen bs ≤ bs.length →
      (opRow op = none → s.receiveFrame tr xid src bs = refuse s .unknownOpcode) ∧
      (opRow op ≠ none → tr = 1 → s.portCBusy = true → s.receiveFrame tr xid src bs = refuse (s.incSat CMD_ECNT_BUSY) .resourceBusy) ∧
      (opRow op ≠ none → (tr = 0 ∨ s.portCBusy = false) → ∃ q, s.receiveFrame tr xid src bs =
          s.queueReq q ∧
        q.tr = tr ∧ q.op = op ∧ q.seq = seq ∧ q.payload.length = leAt bs 4 4 ∧ q.frame = bs.take (frameLen bs) ∧ q.auth = none))) ∧
  (∀ (s : State) (q : CmdReq),
    (q.tr ≠ 0 ∨ s.cmd.recvC ≠ s.now →
      s.queueReq q = { s with cmd := { s.cmd with svc := s.cmd.svc ++ [q], recvC := if q.tr = 1 then s.now else s.cmd.recvC } }) ∧
    (q.tr = 0 → s.cmd.recvC = s.now → s.queueReq q = { s with cmd := { s.cmd with
      svc := s.cmd.svc.filter (fun x => x.tr != 1) ++ q :: s.cmd.svc.filter (fun x => x.tr = 1) } })) ∧
  (∀ (t : Nat) (r : Requester) (s : State), let a := s.at t; exec (.doorbell t r) s = .next
    (if a.trAlive (reqIdx r) = true then doorbellEff r a else a)) ∧
  (∀ (t p dst src : Nat) (bytes : List Nat) (s : State), let a := s.at t; exec (.cmdFragment t p dst src bytes) s = .next
    (if p < 3 ∧ dst < 2 ^ 48 ∧ src < 2 ^ 48 ∧ bytes.all (fun b => decide (b < 256)) = true then cmdFragmentEff p dst src bytes a
      else a)) ∧
  (∀ (t : Nat) (s : State), exec (.fragmentTimeout t) s = .next (fragmentTimeoutEff (s.at t)))

/-- R438 to R441, R433: the checks of authentication in their order, the first failure deciding: a limited transport, AUTH or an
ACTIVE slot missing, a wrong tag, the secure world missing, a counter that does not exceed the last accepted one (the very frame
last accepted is answered from the cache, any other is stale); a request that passes commits its counter; the sixteenth failure
within 60 s limits its transport for 10 s, counts afresh and raises event 117; the first failure seen raises event 116; the end of
a limit lifts it. That AUTH_FAIL goes untagged, that refusals of row 4 and 5 neither commit nor cache and that the window is
strictly less than 60 s are log entry 56's choices. Each of its commands completes in every state: its effect takes place where its
operands are of its row and its requester is there, and else nothing happens. -/
def Obligations.Authentication : Prop :=
  (∀ (s : State) (q : CmdReq) (sec : Bool), let slot := byteAt q.frame 2 / 2 % 8; let k := s.keySlot slot
    let fl := byteAt q.frame 2; let n := q.frame.length - 16
    let world := bitN (s.getF (SEC_WMAP_MAP 7)) q.tr || bitN (s.getF (SEC_WMAP_MAP 7)) (8 + slot)
    let ctr := leAt q.frame 16 8; let last := lget 0 s.mram.keyCnt slot
    let v : CmdReq := { q with auth := some (slot, ctr), key := k.key, secure := world }
    let good := s.limited q.tr = false ∧ fl % 2 = 1 ∧ k.st = 1 ∧ q.frame.drop n = tagOfMsg k.key (q.frame.take n)
    (s.limited q.tr = true → s.authenticate q sec = (.fail, s.authFailed q.tr slot false)) ∧
    (s.limited q.tr = false → (fl % 2 = 0 ∨ k.st ≠ 1) → s.authenticate q sec = (.fail, s.authFailed q.tr slot true)) ∧
    (s.limited q.tr = false → fl % 2 = 1 → k.st = 1 → q.frame.drop n ≠ tagOfMsg k.key (q.frame.take n) →
      s.authenticate q sec = (.fail, s.authFailed q.tr slot true)) ∧
    (good → sec = true → world = false → s.authenticate q sec = (.refuse v .worldDenied, s.deny (trReq q.tr) 0x10000 true)) ∧
    (good → (sec = false ∨ world = true) →
      (last < ctr → s.authenticate q sec = (.run v, { s with mram := { s.mram with keyCnt := lset s.mram.keyCnt slot ctr } })) ∧
      (ctr < last → s.authenticate q sec = (.refuse v .counterStale, s.incSat SEC_AUTHCNT_STALE)) ∧
      (∀ rsp, ctr = last → lget none s.sec.cache slot = some (q.frame, rsp) →
        s.authenticate q sec = (.replay (replayRsp k.key rsp), s.incSat SEC_AUTHCNT_REPLAY)) ∧
      (ctr = last → (∀ rsp, lget none s.sec.cache slot ≠ some (q.frame, rsp)) →
        s.authenticate q sec = (.refuse v .counterStale, s.incSat SEC_AUTHCNT_STALE)))) ∧
  (∀ (s : State) (tr slot : Nat), s.flag SEC_STAT_AFAIL_SEEN = true → s.sec.limit.length = 2 → s.sec.fails.length = 2 → tr < 2 →
    let c := s.incSat SEC_AUTHCNT_AFAIL
    let old := (lget [] s.sec.fails tr).filter (fun u => s.now < u + 60 * secU)
    (15 ≤ old.length → (s.authFailed tr slot true).sec.limit = lset s.sec.limit tr (some (s.now + 10 * secU)) ∧
      lget [] (s.authFailed tr slot true).sec.fails tr = [] ∧
      s.authFailed tr slot true = ({ c with sec := { c.sec with
        fails := lset s.sec.fails tr [], limit := lset s.sec.limit tr (some (s.now + 10 * secU)) } } : State).raise 117 tr 0) ∧
    (old.length < 15 → s.authFailed tr slot true = { c with sec := { c.sec with fails := lset s.sec.fails tr (s.now :: old) } }) ∧
    s.authFailed tr slot false = c) ∧
  (∀ (s : State) (tr slot : Nat), s.flag SEC_STAT_AFAIL_SEEN = false →
    s.authFailed tr slot false = ((s.incSat SEC_AUTHCNT_AFAIL).setFlag SEC_STAT_AFAIL_SEEN true).raise 116 tr slot) ∧
  (∀ (t tr e : Nat) (s : State), let a := s.at t
    tr < 2 → lget none a.sec.limit tr = some e → e ≤ a.now →
    exec (.rateLimitEnd t tr) s = .next { a with sec := { a.sec with limit := lset a.sec.limit tr none } }) ∧
  (∀ (t tr : Nat) (s : State), let a := s.at t; exec (.rateLimitEnd t tr) s = .next (if tr < 2 then rateLimitEndEff tr a else a))

/-- R448 to R451: a refusal by row 8 or 9 changes nothing but the queue of requests and is answered, whatever the opcode; an
untagged response in the mailbox clears BUSY, sets RDY, shows its words, echoes SEQ and counts in CMDS; an authenticated one is
kept for a repeat of its frame. Each of its commands completes in every state: its effect takes place where its operands are of its
row and its requester is there, and else nothing happens. -/
def Obligations.RefusalsAndResponses : Prop :=
  (RefusedByRow .cmdStatus 0x0101 ∧ RefusedByRow .cmdRegRead 0x0102 ∧ RefusedByRow .cmdRegWrite 0x0103 ∧ RefusedByRow .cmdRestart 0x0104 ∧
  RefusedByRow .cmdSafe 0x0105 ∧ RefusedByRow .cmdResultRead 0x0106 ∧ RefusedByRow .cmdModeSet 0x0201 ∧
  RefusedByRow .cmdOutputForce 0x0202 ∧ RefusedByRow .cmdTripReset 0x0203 ∧ RefusedByRow .cmdSettingWrite 0x0204 ∧
  RefusedByRow .cmdGroupSelect 0x0205 ∧ RefusedByRow .cmdDebugUnlock 0x0206 ∧ RefusedByRow .cmdDebugLock 0x0207 ∧
  RefusedByRow .cmdBkrSelect 0x0301 ∧ RefusedByRow .cmdBkrOperate 0x0302 ∧ RefusedByRow .cmdBkrCancel 0x0303 ∧
  RefusedByRow .cmdBkrStatus 0x0304 ∧ RefusedByRow .cmdRecArm 0x0401 ∧ RefusedByRow .cmdRecDisarm 0x0402 ∧
  RefusedByRow .cmdRecTrig 0x0403 ∧ RefusedByRow .cmdRecApply 0x0404 ∧ RefusedByRow .cmdRecRelease 0x0405 ∧
  RefusedByRow .cmdLogicRun 0x0501 ∧ RefusedByRow .cmdLogicStop 0x0502 ∧ RefusedByRow .cmdLogicHold 0x0503 ∧
  RefusedByRow .cmdLogicResume 0x0504 ∧ RefusedByRow .cmdLogicStep 0x0505 ∧ RefusedByRow .cmdLogicSplit 0x0506 ∧
  RefusedByRow .cmdLogicJoin 0x0507 ∧ RefusedByRow .cmdLogicExchange 0x0508 ∧ RefusedByRow .cmdTimeSet 0x0601 ∧
  RefusedByRow .cmdTimeAcceptStep 0x0604 ∧ RefusedByRow .cmdKeyInit 0x0701 ∧ RefusedByRow .cmdKeyRetire 0x0703 ∧
  RefusedByRow .cmdWorldSet 0x0704 ∧ RefusedByRow .cmdOtpProgram 0x0705 ∧ RefusedByRow .cmdOtpRevoke 0x0706 ∧
  RefusedByRow .cmdFlashErase 0x0802 ∧ RefusedByRow .cmdFlashProgram 0x0803 ∧ RefusedByRow .cmdFlashSlot 0x0804 ∧
  RefusedByRow .cmdEvtRead 0x0901 ∧ RefusedByRow .cmdEvtAck 0x0902 ∧ RefusedByRow .cmdPairHandover 0x0A01 ∧
  (∀ n, n < 2 ^ 128 → RefusedByRow (fun t => .cmdKeyRotate t n) 0x0702) ∧
  (∀ d, (∀ x ∈ d, x < 256) → RefusedByRow (fun t => .cmdFlashRead t d) 0x0801) ∧
  (∀ (s : State) (q : CmdReq), (s.mode = .run ∨ s.mode = .test → s.modeAllows q = true) ∧
    (s.mode = .safe → (s.modeAllows q = true ↔
      q.op ∈ [0x0101, 0x0102, 0x0104, 0x0106, 0x0304, 0x0801, 0x0802, 0x0803, 0x0804, 0x0901, 0x0902])) ∧
    (s.mode = .boot → (s.modeAllows q = true ↔
      q.op = 0x0101 ∨ s.sys.held = true ∧ q.tr = 0 ∧ (q.op = 0x0701 ∨ q.op = 0x0705)))) ∧
  (∀ (t : Nat) (s : State) (q : CmdReq) (rest : List CmdReq) (row : OpRow), let a := s.at t
    let c : State := { a with cmd := { a.cmd with svc := rest } }
    a.cmd.svc = q :: rest → q.op = 0x0601 → opRow q.op = some row → a.cmd.modeWait = none → a.refLost = false →
    ∀ v b, c.authenticate q false = (.run v, b) →
    (v.payload.length ≠ 16 → exec (.cmdTimeSet t) s = .next (b.respond v .lenRange 0 [])) ∧
    (v.payload.length = 16 → b.mode = .safe → v.op = 0x0601 → exec (.cmdTimeSet t) s = .next (b.respond v .stateDenied 0 [])) ∧
    (v.payload.length = 16 → b.mode = .boot → v.op = 0x0601 → exec (.cmdTimeSet t) s = .next (b.respond v .stateDenied 0 []))) ∧
  (∀ (s : State) (q : CmdReq) (st : Status) (d : Nat) (out : List Nat), q.auth = none → q.tr = 0 → out.length ≤ 4096 →
    let bs := rspHdr q.op 0x4000 out.length q.seq st d ++ out
    s.respond q st d out = (s.incWrap CMD_CNT_CMDS).mailRsp bs ∧ (s.respond q st d out).flag CMD_STAT_BUSY = false ∧
    (s.respond q st d out).flag CMD_STAT_RDY = true ∧ (s.respond q st d out).getF CMD_STAT_RLEN = (out.length + 19) / 4 ∧
    (s.respond q st d out).mram = s.mram ∧ (s.respond q st d out).evt = s.evt) ∧
  (∀ (s : State) (q : CmdReq) (st : Status) (d slot ctr : Nat) (out : List Nat), q.auth = some (slot, ctr) → ctr ≠ 0xFFFFFFFFFFFFFFFF →
    slot < s.sec.cache.length →
    let m := rspHdr q.op (0x4001 + 2 * slot) out.length q.seq st d ++ leBytes 8 ctr ++ out
    lget none (s.respond q st d out).sec.cache slot = some (q.frame, m ++ tagOfMsg q.key m) ∧
    (s.respond q st d out).sec.keys = s.sec.keys ∧ (s.respond q st d out).mram.keyCnt = s.mram.keyCnt)) ∧
  (∀ (t : Nat) (s : State), exec (.cmdStatus t) s = .next (cmdStatusEff (s.at t))) ∧
  (∀ (t : Nat) (s : State), exec (.cmdRegRead t) s = .next (cmdRegReadEff (s.at t))) ∧
  (∀ (t : Nat) (s : State), exec (.cmdRegWrite t) s = .next (cmdRegWriteEff (s.at t))) ∧
  (∀ (t : Nat) (s : State), exec (.cmdRestart t) s = .next (cmdRestartEff (s.at t))) ∧
  (∀ (t : Nat) (s : State), exec (.cmdSafe t) s = .next (cmdSafeEff (s.at t))) ∧
  (∀ (t : Nat) (s : State), exec (.cmdResultRead t) s = .next (cmdResultReadEff (s.at t))) ∧
  (∀ (t : Nat) (s : State), exec (.cmdModeSet t) s = .next (cmdModeSetEff (s.at t))) ∧
  (∀ (t : Nat) (s : State), exec (.cmdOutputForce t) s = .next (cmdOutputForceEff (s.at t))) ∧
  (∀ (t : Nat) (s : State), exec (.cmdTripReset t) s = .next (cmdTripResetEff (s.at t))) ∧
  (∀ (t : Nat) (s : State), exec (.cmdSettingWrite t) s = .next (cmdSettingWriteEff (s.at t))) ∧
  (∀ (t : Nat) (s : State), exec (.cmdGroupSelect t) s = .next (cmdGroupSelectEff (s.at t))) ∧
  (∀ (t : Nat) (s : State), exec (.cmdDebugUnlock t) s = .next (cmdDebugUnlockEff (s.at t))) ∧
  (∀ (t : Nat) (s : State), exec (.cmdDebugLock t) s = .next (cmdDebugLockEff (s.at t))) ∧
  (∀ (t : Nat) (s : State), exec (.cmdPairHandover t) s = .next (cmdPairHandoverEff (s.at t))) ∧
  (∀ (t : Nat) (s : State), exec (.cmdBkrSelect t) s = .next (cmdBkrSelectEff (s.at t))) ∧
  (∀ (t : Nat) (s : State), exec (.cmdBkrOperate t) s = .next (cmdBkrOperateEff (s.at t))) ∧
  (∀ (t : Nat) (s : State), exec (.cmdBkrCancel t) s = .next (cmdBkrCancelEff (s.at t))) ∧
  (∀ (t : Nat) (s : State), exec (.cmdBkrStatus t) s = .next (cmdBkrStatusEff (s.at t))) ∧
  (∀ (t : Nat) (s : State), exec (.cmdRecArm t) s = .next (cmdRecArmEff (s.at t))) ∧
  (∀ (t : Nat) (s : State), exec (.cmdRecDisarm t) s = .next (cmdRecDisarmEff (s.at t))) ∧
  (∀ (t : Nat) (s : State), exec (.cmdRecTrig t) s = .next (cmdRecTrigEff (s.at t))) ∧
  (∀ (t : Nat) (s : State), exec (.cmdRecApply t) s = .next (cmdRecApplyEff (s.at t))) ∧
  (∀ (t : Nat) (s : State), exec (.cmdRecRelease t) s = .next (cmdRecReleaseEff (s.at t))) ∧
  (∀ (t : Nat) (s : State), exec (.cmdLogicRun t) s = .next (cmdLogicRunEff (s.at t))) ∧
  (∀ (t : Nat) (s : State), exec (.cmdLogicStop t) s = .next (cmdLogicStopEff (s.at t))) ∧
  (∀ (t : Nat) (s : State), exec (.cmdLogicHold t) s = .next (cmdLogicHoldEff (s.at t))) ∧
  (∀ (t : Nat) (s : State), exec (.cmdLogicResume t) s = .next (cmdLogicResumeEff (s.at t))) ∧
  (∀ (t : Nat) (s : State), exec (.cmdLogicStep t) s = .next (cmdLogicStepEff (s.at t))) ∧
  (∀ (t : Nat) (s : State), exec (.cmdLogicSplit t) s = .next (cmdLogicSplitEff (s.at t))) ∧
  (∀ (t : Nat) (s : State), exec (.cmdLogicJoin t) s = .next (cmdLogicJoinEff (s.at t))) ∧
  (∀ (t : Nat) (s : State), exec (.cmdLogicExchange t) s = .next (cmdLogicExchangeEff (s.at t))) ∧
  (∀ (t : Nat) (s : State), exec (.cmdTimeSet t) s = .next (cmdTimeSetEff (s.at t))) ∧
  (∀ (t : Nat) (s : State), exec (.cmdTimeAcceptStep t) s = .next (cmdTimeAcceptStepEff (s.at t))) ∧
  (∀ (t : Nat) (s : State), exec (.cmdKeyInit t) s = .next (cmdKeyInitEff (s.at t))) ∧
  (∀ (t nonce : Nat) (s : State), let a := s.at t; exec (.cmdKeyRotate t nonce) s = .next
    (if nonce < 2 ^ 128 then cmdKeyRotateEff nonce a else a)) ∧
  (∀ (t : Nat) (s : State), exec (.cmdKeyRetire t) s = .next (cmdKeyRetireEff (s.at t))) ∧
  (∀ (t : Nat) (s : State), exec (.cmdWorldSet t) s = .next (cmdWorldSetEff (s.at t))) ∧
  (∀ (t : Nat) (s : State), exec (.cmdOtpProgram t) s = .next (cmdOtpProgramEff (s.at t))) ∧
  (∀ (t : Nat) (s : State), exec (.cmdOtpRevoke t) s = .next (cmdOtpRevokeEff (s.at t))) ∧
  (∀ (t : Nat) (data : List Nat) (s : State), let a := s.at t; exec (.cmdFlashRead t data) s = .next
    (if data.all (fun b => decide (b < 256)) = true then cmdFlashReadEff data a else a)) ∧
  (∀ (t : Nat) (s : State), exec (.cmdFlashErase t) s = .next (cmdFlashEraseEff (s.at t))) ∧
  (∀ (t : Nat) (s : State), exec (.cmdFlashProgram t) s = .next (cmdFlashProgramEff (s.at t))) ∧
  (∀ (t : Nat) (s : State), exec (.cmdFlashSlot t) s = .next (cmdFlashSlotEff (s.at t))) ∧
  (∀ (t : Nat) (s : State), exec (.cmdEvtRead t) s = .next (cmdEvtReadEff (s.at t))) ∧
  (∀ (t : Nat) (s : State), exec (.cmdEvtAck t) s = .next (cmdEvtAckEff (s.at t)))

/-- R456, R457, R454, R18 to R20, R442: STATUS, register reads and writes, RESTART, SAFE, RESULT_READ, MODE_SET (an accepted change
waits for its boundary), OUTPUT_FORCE and its end, debug lock (which ends a selection of P0 or P1: log entry 118) and the pair's
handover, with the refusals of each in their order. When a force ends and what a SETTING_WRITE is judged against is log entry 70's
choice, when a handover is told log entry 46's. Each of its commands completes in every state: its effect takes place where its
operands are of its row and its requester is there, and else nothing happens. -/
def Obligations.SystemOrders : Prop :=
  (OrderAnswers .cmdStatus 0x0101 (fun _ _ => True) (fun _ s => ⟨.ok, s, s.statusBytes, 0, false⟩)) ∧
  (OrderAnswers .cmdRegRead 0x0102 (fun q _ => payN q 0 4 % 4 = 0 ∧ 1 ≤ payN q 4 4 ∧ payN q 4 4 ≤ 1024 ∧ payN q 0 4 + 4 * payN q 4 4 ≤ 0x800000)
    (fun q s => let r := State.readWords (trReq q.tr) (payN q 4 4) (payN q 0 4) s; ⟨.ok, r.2, r.1.flatMap (leBytes 4), 0, false⟩)) ∧
  (OrderAnswers .cmdRegRead 0x0102 (fun q _ => payN q 0 4 % 4 ≠ 0 ∨ payN q 4 4 = 0) (fun _ s => ⟨.valueRange, s, [], 0, false⟩)) ∧
  (OrderAnswers .cmdRegWrite 0x0103 (fun q _ => payN q 0 4 % 4 = 0 ∧ 1 ≤ payN q 4 4 ∧ payN q 4 4 ≤ 1022 ∧ q.payload.length = 8 + 4 * payN q 4 4)
    (fun q s => let r := State.writeUntil (trReq q.tr) (leWords (payN q 4 4) (q.payload.drop 8)) (payN q 0 4) 0 s
      ⟨r.1, r.2.2, [], r.2.1, false⟩)) ∧
  (OrderAnswers .cmdRestart 0x0104 (fun q _ => payN q 0 4 ≤ 1) (fun q s => ⟨.ok, s.reqRestart (payN q 0 4 = 0) false, [], 0, false⟩)) ∧
  (OrderAnswers .cmdRestart 0x0104 (fun q _ => 1 < payN q 0 4) (fun _ s => ⟨.valueRange, s, [], 0, false⟩)) ∧
  (OrderAnswers .cmdSafe 0x0105 (fun _ _ => True) (fun _ s => ⟨.ok, s.enterSafe 4, [], 0, false⟩)) ∧
  (OrderAnswers .cmdResultRead 0x0106 (fun _ _ => True)
    (fun _ s => ⟨.ok, s, ((s.cmd.ring.flatMap complBytes) ++ List.replicate 256 0).take 256, 0, false⟩)) ∧
  (OrderAnswers .cmdModeSet 0x0201 (fun q s => payN q 0 4 = 2 ∧ s.mode = .run ∧ s.testDenied = false)
    (fun _ s => ⟨.ok, { s with sys := { s.sys with modeReq := some (.test, s.flt.m) } }, [], 0, true⟩)) ∧
  (OrderAnswers .cmdModeSet 0x0201 (fun q s => payN q 0 4 = 1 ∧ s.mode = .test ∧ s.runDenied = false)
    (fun _ s => ⟨.ok, { s with sys := { s.sys with modeReq := some (.run, s.flt.m) } }, [], 0, true⟩)) ∧
  (OrderAnswers .cmdModeSet 0x0201
    (fun q s => (payN q 0 4 = 2 ∧ s.mode = .run ∧ s.testDenied = true) ∨ (payN q 0 4 = 1 ∧ s.mode = .test ∧ s.runDenied = true))
    (fun _ s => ⟨.stateDenied, s, [], 0, false⟩)) ∧
  (OrderAnswers .cmdOutputForce 0x0202 (fun q s => s.mode = .test ∧ payN q 0 4 ≠ 0 ∧ 1 ≤ payN q 8 4 ∧ payN q 8 4 ≤ 60000 ∧
      Nat.land (payN q 4 4) (payN q 0 4) = payN q 4 4 ∧
      Nat.land (Nat.lor (payN q 0 4) (payN q 4 4)) s.outputsOn = Nat.lor (payN q 0 4) (payN q 4 4))
    (fun q s =>
      let r := (s.setF TRP_FRC_ARM_FARM (payN q 0 4)).setF TRP_FRC_FIRE_FFIRE (payN q 4 4)
      ⟨.ok, { r with trp := { r.trp with forced := payN q 0 4 }, cmd := { r.cmd with forceEnd := some (s.now + payN q 8 4 * msU) } },
        [], 0, false⟩)) ∧
  (OrderAnswers .cmdOutputForce 0x0202 (fun _ s => s.mode ≠ .test) (fun _ s => ⟨.notInTest, s, [], 0, false⟩)) ∧
  (∀ (t u : Nat) (s : State), let a := s.at t; let r := (a.setF TRP_FRC_ARM_FARM 0).setF TRP_FRC_FIRE_FFIRE 0
    a.sys.refPresent = true → a.cmd.forceEnd = some u → u ≤ a.now → exec (.forceExpiry t) s =
      .next { r with trp := { r.trp with forced := 0 }, cmd := { r.cmd with forceEnd := none } }) ∧
  (OrderAnswers .cmdDebugUnlock 0x0206
    (fun q s => s.mode = .test ∧ ∃ k c, q.auth = some (k, c) ∧ bitN (s.getF (SEC_WMAP_MAP 7)) (16 + k) = true)
    (fun _ s => ⟨.ok, s.setFlag DBG_STAT_UNLOCK true, [], 0, false⟩)) ∧
  (OrderAnswers .cmdDebugLock 0x0207 (fun _ s => s.podState 0 ≠ 5 ∧ s.podState 1 ≠ 5)
    (fun _ s => ⟨.ok, s.debugLock, [], 0, false⟩)) ∧
  (∀ s : State, s.debugLock.flag DBG_STAT_UNLOCK = false ∧
    s.debugLock.getF DBG_STAT_TARGET = (if s.getF DBG_STAT_TARGET = 3 then 3 else 0) ∧ s.debugLock.evt = s.evt ∧
    (s.pod.pods.length = 3 → ∀ p, p < 2 → (s.debugLock.podOf p).haltReq = false)) ∧
  (OrderAnswers .cmdDebugLock 0x0207 (fun _ s => s.podState 0 = 5 ∨ s.podState 1 = 5) (fun _ s => ⟨.stateDenied, s, [], 0, false⟩)) ∧
  (OrderAnswers .cmdPairHandover 0x0A01
    (fun _ s => s.paired = true ∧ s.leads = true ∧ s.flag OZX_PSTAT_PARTNER_OK = true ∧ s.flag OZX_PSTAT_P_TEST = false)
    (fun _ s => ⟨.ok, s.releaseDuties, [], 0, false⟩)) ∧
  (OrderAnswers .cmdPairHandover 0x0A01 (fun _ s => s.leads = false) (fun _ s => ⟨.stateDenied, s, [], 0, false⟩)) ∧
  (∀ (t : Nat) (s : State), exec (.forceExpiry t) s = .next (forceExpiryEff (s.at t)))

/-- R456, R458, R459: latches reset, settings and groups requested, breaker requests submitted and read back, recorder classes
armed (an ARM of a DISARMED class takes a free segment or makes it FULL), disarmed, triggered and given their counts, or refused
them, segments released (the one of a FULL class is armed again), with the refusals of each. -/
def Obligations.BayAndRecorderOrders : Prop :=
  (OrderAnswers .cmdTripReset 0x0203 (fun _ _ => True)
    (fun q s => ⟨.ok, { s with trp := { s.trp with resets := Nat.lor s.trp.resets (payN q 0 4) } }, [], 0, false⟩)) ∧
  (OrderAnswers .cmdSettingWrite 0x0204 (fun q s => s.mode = .test ∧ payN q 0 2 < 512 ∧ s.podState (s.bayPod (s.elBay (payN q 0 2))) ≠ 2 ∧
      s.elType (payN q 0 2) ≠ 0 ∧ 2 ≤ payN q 2 1 ∧ payN q 2 1 ≤ 29 ∧ s.settingOk (payN q 0 2) (payN q 2 1) (payN q 4 4) = true)
    (fun q s => let i := payN q 0 2
      ⟨.ok, s.setInst i { s.inst i with setReq := (s.inst i).setReq ++ [(payN q 2 1, payN q 4 4, s.flt.m)] }, [], 0, false⟩)) ∧
  (OrderAnswers .cmdSettingWrite 0x0204 (fun q s => s.mode = .test ∧ payN q 0 2 < 512 ∧ s.podState (s.bayPod (s.elBay (payN q 0 2))) = 2)
    (fun _ s => ⟨.busyRecovery, s, [], 0, false⟩)) ∧
  (OrderAnswers .cmdGroupSelect 0x0205 (fun q s => payN q 0 2 < 12 ∧ s.flag (PRT_BAY1_EN (payN q 0 2)) = true ∧ payN q 2 2 < 4 ∧
      s.flag (PRT_BAY1_GSRC (payN q 0 2)) = false)
    (fun q s => ⟨.ok, s.requestGroup (payN q 0 2) (payN q 2 2), [], 0, false⟩)) ∧
  (OrderAnswers .cmdGroupSelect 0x0205 (fun q s => payN q 0 2 < 12 ∧ s.flag (PRT_BAY1_EN (payN q 0 2)) = true ∧ payN q 2 2 < 4 ∧
      s.flag (PRT_BAY1_GSRC (payN q 0 2)) = true) (fun _ s => ⟨.resourceBusy, s, [], 0, false⟩)) ∧
  (let ready (q : CmdReq) (s : State) : Prop := s.hasBkr (payN q 0 2) = true ∧ s.getF LGC_MODE_MODE = 1 ∧
      (s.flag POD_LSTAT_SPLIT = false ∨ s.flag POD_LCFG_ALLOW_UNCHECKED_TRIP = true) ∧ ∀ r ∈ s.lgc.reqs, r.brk ≠ payN q 0 2
   let ask (k : Nat) (q : CmdReq) (s : State) : CmdRes :=
     ⟨.ok, { s with lgc := { s.lgc with reqs := s.lgc.reqs ++ [⟨payN q 0 2, k, q.tr, q.seq⟩] } }, [], 0, false⟩
   (OrderAnswers .cmdBkrSelect 0x0301 (fun q s => ready q s ∧ payN q 2 2 = 1) (ask 0)) ∧
   (OrderAnswers .cmdBkrSelect 0x0301 (fun q s => ready q s ∧ payN q 2 2 = 2) (ask 1)) ∧
   (OrderAnswers .cmdBkrOperate 0x0302 (fun q s => ready q s ∧ payN q 2 2 = 1) (ask 2)) ∧
   (OrderAnswers .cmdBkrOperate 0x0302 (fun q s => ready q s ∧ payN q 2 2 = 2) (ask 3)) ∧
   (OrderAnswers .cmdBkrCancel 0x0303 ready (ask 4)) ∧
   (OrderAnswers .cmdBkrOperate 0x0302 (fun q s => s.hasBkr (payN q 0 2) = true ∧ payN q 2 2 = 1 ∧ s.getF LGC_MODE_MODE ≠ 1)
     (fun _ s => ⟨.stateDenied, s, [], 0, false⟩))) ∧
  (∀ st, OrderAnswers .cmdBkrStatus 0x0304 (fun q s => payN q 0 2 < 32 ∧ s.bkrStatOf (payN q 0 2) = some st)
    (fun _ s => ⟨.ok, s, leBytes 4 st, 0, false⟩)) ∧
  (let on (q : CmdReq) (s : State) : Prop := payN q 0 4 < 8 ∧ s.flag (REC_CCFG_EN (payN q 0 4)) = true
   let given (q : CmdReq) (s : State) : State :=
     let b := s.setRidx (payN q 0 4) { s.ridx (payN q 0 4) with st := 4 }
     if s.tph.wsel = some (payN q 0 4) then { b with tph := { b.tph with wsel := none } }.setFlag REC_WSTAT_SEL false else b
   let free (q : CmdReq) (s : State) := (s.setFlag (REC_CSTAT_MASKSTOP (payN q 0 4)) false).takeSeg (payN q 0 4) none
   let set (q : CmdReq) (s : State) : State :=
     (s.setF (REC_CPRE_PRE (payN q 0 4)) (payN q 4 4)).setF (REC_CPOST_POST (payN q 0 4)) (payN q 8 4)
   let back (q : CmdReq) (s : State) : State :=
     ((set q s).setF (REC_CPRE_PRE (payN q 0 4)) ((set q s).rcls (payN q 0 4)).pre).setF (REC_CPOST_POST (payN q 0 4))
       ((set q s).rcls (payN q 0 4)).post
   let pre (q : CmdReq) (s : State) := (set q s).getF (REC_CPRE_PRE (payN q 0 4))
   let post (q : CmdReq) (s : State) := (set q s).getF (REC_CPOST_POST (payN q 0 4))
   let cap (q : CmdReq) (s : State) := (set q s).getF (REC_CCAP_CAP (payN q 0 4))
   (∀ g, OrderAnswers .cmdRecArm 0x0401
     (fun q s => on q s ∧ s.protecting = true ∧ s.recState (payN q 0 4) = 0 ∧ (free q s).1 = some g)
     (fun q s => let c := payN q 0 4; let n := (free q s).2
       ⟨.ok, ((n.armSeg c g).setCls c { n.rcls c with ring := some g }).recShow c 1, [], 0, false⟩)) ∧
   (OrderAnswers .cmdRecArm 0x0401
     (fun q s => on q s ∧ s.protecting = true ∧ s.recState (payN q 0 4) = 0 ∧ (free q s).1 = none)
     (fun q s => ⟨.ok, (free q s).2.recShow (payN q 0 4) 3, [], 0, false⟩)) ∧
   (OrderAnswers .cmdRecArm 0x0401
     (fun q s => on q s ∧ s.protecting = true ∧ s.recState (payN q 0 4) ≠ 0 ∧ s.recState (payN q 0 4) ≠ 3)
     (fun q s => ⟨.ok, s.setFlag (REC_CSTAT_MASKSTOP (payN q 0 4)) false, [], 0, false⟩)) ∧
   (OrderAnswers .cmdRecApply 0x0404
     (fun q s => on q s ∧ s.protecting = true ∧ (post q s = 0 ∨ cap q s < post q s ∨ cap q s ≤ pre q s))
     (fun q s => ⟨.valueRange, back q s, [], 0, false⟩)) ∧
   (OrderAnswers .cmdRecApply 0x0404
     (fun q s => on q s ∧ s.protecting = true ∧ post q s ≠ 0 ∧ post q s ≤ cap q s ∧ pre q s < cap q s ∧ cap q s < pre q s + post q s)
     (fun q s => ⟨.lenRange, back q s, [], 0, false⟩)) ∧
   (OrderAnswers .cmdRecApply 0x0404
     (fun q s => on q s ∧ s.protecting = true ∧ post q s ≠ 0 ∧ pre q s < cap q s ∧ pre q s + post q s ≤ cap q s)
     (fun q s => let c := payN q 0 4
       ⟨.ok, (set q s).setCls c { (set q s).rcls c with pre := pre q s, post := post q s }, [], 0, false⟩)) ∧
   (OrderAnswers .cmdRecArm 0x0401
     (fun q s => on q s ∧ s.protecting = true ∧ s.recState (payN q 0 4) ≠ 3 ∧ (s.recArm (payN q 0 4)).1 = .ok)
     (fun q s => ⟨.ok, (s.recArm (payN q 0 4)).2, [], 0, false⟩)) ∧
   (OrderAnswers .cmdRecArm 0x0401 (fun q s => on q s ∧ (s.protecting = false ∨ s.recState (payN q 0 4) = 3))
     (fun _ s => ⟨.stateDenied, s, [], 0, false⟩)) ∧
   (OrderAnswers .cmdRecDisarm 0x0402 (fun q s => on q s ∧ s.recState (payN q 0 4) = 2)
     (fun q s => ⟨.ok, s.setCls (payN q 0 4) { s.rcls (payN q 0 4) with disarm := true }, [], 0, false⟩)) ∧
   (OrderAnswers .cmdRecTrig 0x0403 (fun q s => on q s ∧ s.protecting = true)
     (fun q s => let l := s.sampAt s.now
       ⟨.ok, s.trigClass (payN q 0 4) [⟨10, 0, true, s.tauOf l, l, some (payN q 0 4)⟩], [], 0, false⟩)) ∧
   (OrderAnswers .cmdRecTrig 0x0403 (fun q _ => 8 ≤ payN q 0 4) (fun _ s => ⟨.valueRange, s, [], 0, false⟩)) ∧
   (OrderAnswers .cmdRecApply 0x0404 (fun q s => on q s)
     (fun q s => let c := payN q 0 4
       let r := State.recApply c ((s.setF (REC_CPRE_PRE c) (payN q 4 4)).setF (REC_CPOST_POST c) (payN q 8 4)); ⟨r.1, r.2, [], 0, false⟩)) ∧
   (OrderAnswers .cmdRecRelease 0x0405
     (fun q s => payN q 0 4 < 4096 ∧ (s.regionSecure (s.segByte (payN q 0 4)) = false ∨ s.reqSecure (trReq q.tr) = true) ∧
       (s.ridx (payN q 0 4)).st ≠ 3) (fun _ s => ⟨.stateDenied, s, [], 0, false⟩)) ∧
   (OrderAnswers .cmdRecRelease 0x0405
     (fun q s => payN q 0 4 < 4096 ∧ (s.regionSecure (s.segByte (payN q 0 4)) = false ∨ s.reqSecure (trReq q.tr) = true) ∧
       (s.ridx (payN q 0 4)).st = 3 ∧ ∀ c, s.segClass (payN q 0 4) = some c →
         (given q s).flag (REC_CCFG_EN c) = false ∨ (given q s).recState c ≠ 3)
     (fun q s => ⟨.ok, (given q s).setSeg (payN q 0 4) resetSeg, [], 0, false⟩)) ∧
   (∀ c, OrderAnswers .cmdRecRelease 0x0405
     (fun q s => payN q 0 4 < 4096 ∧ (s.regionSecure (s.segByte (payN q 0 4)) = false ∨ s.reqSecure (trReq q.tr) = true) ∧
       (s.ridx (payN q 0 4)).st = 3 ∧ s.segClass (payN q 0 4) = some c ∧
       (given q s).flag (REC_CCFG_EN c) = true ∧ (given q s).recState c = 3)
     (fun q s => let d := given q s; let g := payN q 0 4
       ⟨.ok, ((d.armSeg c g).setCls c { d.rcls c with ring := some g }).recShow c 1, [], 0, false⟩)) ∧
   (OrderAnswers .cmdRecRelease 0x0405
     (fun q s => payN q 0 4 < 4096 ∧ s.regionSecure (s.segByte (payN q 0 4)) = true ∧ s.reqSecure (trReq q.tr) = false)
     (fun q s => ⟨.worldDenied, s.deny (trReq q.tr) 0x10000 true, [], 0, false⟩)))

/-- R459, R233, R288, R302, R342, R344: the scheme logic is run, stopped, held, resumed, stepped, split, joined and exchanged in
the states that allow it; a time base is set or a step of it accepted by its source and state. The order of BUSY_RECOVERY and
STATE_DENIED and what a LOGIC_RUN without a program answers are log entry 71's choices, that TIME_SET of the sampling time base
waits for the next strobe divisible by 32 is log entry 72's. -/
def Obligations.LogicAndTimeOrders : Prop :=
  (∀ k, k < 2 → OrderAnswers .cmdLogicRun 0x0501
    (fun q s => payN q 0 4 = k ∧ s.getF LGC_MODE_MODE = 0 ∧ s.flag POD_LSTAT_SPLIT = false ∧ s.hasProg 0 = true)
    (fun _ s => ⟨.ok, (s.setProg 0 { s.prog 0 with startReq := k + 1 }).startFree, [], 0, false⟩)) ∧
  (OrderAnswers .cmdLogicRun 0x0501 (fun q s => payN q 0 4 ≤ 1 ∧ (s.getF LGC_MODE_MODE ≠ 0 ∨ s.flag POD_LSTAT_SPLIT = true))
    (fun _ s => ⟨.stateDenied, s, [], 0, false⟩)) ∧
  (OrderAnswers .cmdLogicStop 0x0502 (fun _ s => s.getF LGC_MODE_MODE = 1 ∧ (s.prog 0).scan.isSome = true)
    (fun _ s => ⟨.ok, s.setFlag LGC_MODE_STOP_PEND true, [], 0, false⟩)) ∧
  (OrderAnswers .cmdLogicStop 0x0502 (fun _ s => s.getF LGC_MODE_MODE = 2) (fun _ s => ⟨.ok, s.enterStop, [], 0, false⟩)) ∧
  (OrderAnswers .cmdLogicStop 0x0502 (fun _ s => s.getF LGC_MODE_MODE = 0 ∨ s.getF LGC_MODE_MODE = 3)
    (fun _ s => ⟨.stateDenied, s, [], 0, false⟩)) ∧
  (OrderAnswers .cmdLogicHold 0x0503 (fun _ s => s.getF LGC_MODE_MODE = 1 ∧ s.flag POD_LSTAT_SPLIT = false)
    (fun _ s => ⟨.ok, { s with lgc := { s.lgc with holdReq := true } }, [], 0, false⟩)) ∧
  (OrderAnswers .cmdLogicHold 0x0503 (fun _ s => s.getF LGC_MODE_MODE ≠ 1 ∨ s.flag POD_LSTAT_SPLIT = true)
    (fun _ s => ⟨.stateDenied, s, [], 0, false⟩)) ∧
  (OrderAnswers .cmdLogicResume 0x0504 (fun _ s => s.getF LGC_MODE_MODE = 2 ∧ s.flag POD_LSTAT_SPLIT = false)
    (fun _ s => ⟨.ok, s.leaveHold, [], 0, false⟩)) ∧
  (OrderAnswers .cmdLogicStep 0x0505 (fun _ s => s.getF LGC_MODE_MODE = 2 ∧ s.flag POD_LSTAT_SPLIT = false)
    (fun _ s => ⟨.ok, s.execNext 0, [], 0, false⟩)) ∧
  (OrderAnswers .cmdLogicSplit 0x0506 (fun _ s => s.podState 2 = 1 ∧ s.getF LGC_MODE_MODE = 1 ∧ s.flag POD_LCFG_ANA_EN = true ∧
      s.bkrBusy = false ∧ s.getF LGC_XSTAT_XSTATE = 0)
    (fun _ s => ⟨.ok, s.setFlag POD_LSTAT_SPLIT_PEND true, [], 0, false⟩)) ∧
  (OrderAnswers .cmdLogicSplit 0x0506 (fun _ s => s.podState 2 = 2) (fun _ s => ⟨.busyRecovery, s, [], 0, false⟩)) ∧
  (OrderAnswers .cmdLogicSplit 0x0506 (fun _ s => s.podState 2 = 1 ∧ s.bkrBusy = true) (fun _ s => ⟨.stateDenied, s, [], 0, false⟩)) ∧
  (OrderAnswers .cmdLogicJoin 0x0507 (fun _ s => s.podState 2 = 6 ∧ s.getF LGC_MODE_MODE ≠ 0)
    (fun _ s => ⟨.ok, s.setFlag POD_LSTAT_JOIN_PEND true, [], 0, false⟩)) ∧
  (OrderAnswers .cmdLogicJoin 0x0507 (fun _ s => s.podState 2 = 6 ∧ s.getF LGC_MODE_MODE = 0)
    (fun _ s => ⟨.ok, (s.setFlag POD_LSTAT_JOIN_PEND true).takeJoin none, [], 0, false⟩)) ∧
  (OrderAnswers .cmdLogicExchange 0x0508 (fun _ s => s.getF LGC_MODE_MODE ≠ 3 ∧ s.flag POD_LSTAT_SPLIT = false ∧ s.lgc.joinFrom = none ∧
      s.getF LGC_XSTAT_XSTATE = 0 ∧ s.flashWriting = false)
    (fun q s => ⟨.ok, ({ s with lgc := { s.lgc with exchReq := some (q.tr, q.seq) } }).setF LGC_XSTAT_XSTATE 1, [], 0, false⟩)) ∧
  (OrderAnswers .cmdLogicExchange 0x0508 (fun _ s => s.getF LGC_MODE_MODE ≠ 3 ∧ s.flag POD_LSTAT_SPLIT = false ∧ s.lgc.joinFrom = none ∧
      s.getF LGC_XSTAT_XSTATE = 0 ∧ s.flashWriting = true) (fun _ s => ⟨.resourceBusy, s, [], 0, false⟩)) ∧
  (∀ s : State, s.flashWriting = true ↔ ∃ k x, slotOf k ≠ s.mram.boot.booted ∧
    ((∃ n, s.cmd.run = some (.flashErase k n, x)) ∨ ∃ d, s.cmd.run = some (.flashProgram k d, x))) ∧
  (let ok (q : CmdReq) : Prop := payN q 0 4 < 4 ∧ payN q 4 4 < 1000000000 ∧ payN q 8 8 < 2 ^ 48
   let diff (q : CmdReq) (s : State) : Int :=
     (((payN q 8 8 * 1000000000 + payN q 4 4) * 65536 : Nat) : Int) - s.tbAt (payN q 0 4) s.now
   (OrderAnswers .cmdTimeSet 0x0601 (fun q s => ok q ∧ s.tbSrc (payN q 0 4) = 0 ∧ payN q 0 4 ≠ s.sampTb)
     (fun q s => ⟨.ok, s.applyStep (payN q 0 4) (diff q s), [], 0, false⟩)) ∧
   (OrderAnswers .cmdTimeSet 0x0601 (fun q s => ok q ∧ s.tbSrc (payN q 0 4) = 0 ∧ payN q 0 4 = s.sampTb)
     (fun q s => ⟨.ok, s.setTb (payN q 0 4) { s.tb (payN q 0 4) with setTime := some (diff q s) }, [], 0, false⟩)) ∧
   (OrderAnswers .cmdTimeSet 0x0601 (fun q s => ok q ∧ s.tbSrc (payN q 0 4) = 4)
     (fun q s => ⟨.ok, s.setTb (payN q 0 4) { s.tb (payN q 0 4) with setSec := some (payN q 8 8) }, [], 0, false⟩)) ∧
   (OrderAnswers .cmdTimeSet 0x0601 (fun q s => ok q ∧ s.tbSrc (payN q 0 4) ≠ 0 ∧ s.tbSrc (payN q 0 4) ≠ 4)
     (fun _ s => ⟨.stateDenied, s, [], 0, false⟩)) ∧
   (OrderAnswers .cmdTimeSet 0x0601 (fun q _ => ¬ ok q) (fun _ s => ⟨.valueRange, s, [], 0, false⟩))) ∧
  (OrderAnswers .cmdTimeAcceptStep 0x0604 (fun q s => payN q 0 4 < 4 ∧ s.tbState (payN q 0 4) = 4 ∧ payN q 0 4 = s.sampTb)
    (fun q s => ⟨.ok, s.setTb (payN q 0 4) { s.tb (payN q 0 4) with stepAt := some s.now }, [], 0, false⟩)) ∧
  (OrderAnswers .cmdTimeAcceptStep 0x0604
    (fun q s => payN q 0 4 < 4 ∧ s.tbState (payN q 0 4) = 4 ∧ payN q 0 4 ≠ s.sampTb ∧ s.flag TIM_SAMP_COMPAT = false)
    (fun q s => ⟨.ok, s.takeStep (payN q 0 4), [], 0, false⟩)) ∧
  (OrderAnswers .cmdTimeAcceptStep 0x0604 (fun q s => payN q 0 4 < 4 ∧ s.tbState (payN q 0 4) ≠ 4) (fun _ s => ⟨.stateDenied, s, [], 0, false⟩))

/-- R434 to R436, R443, R460, R425, R470: keys are provisioned, derived and retired, the world map is changed, OTP and flash
operations start and end with their completions, and event queues are read and acknowledged, with the refusals of each. What an OTP
slot holds after a failed programming is free (log entry 125). Each of its commands completes in every state: its effect takes
place where its operands are of its row and its requester is there, and else nothing happens. -/
def Obligations.KeyFlashAndEventOrders : Prop :=
  (OrderAnswers .cmdKeyInit 0x0701 (fun q s => q.auth = none ∧ payN q 0 1 < 8 ∧ q.tr = 0 ∧ s.provisioning = true ∧ (s.keySlot (payN q 0 1)).st = 0)
    (fun q s => let k : KeySlot := ⟨1, q.payload.drop 4⟩; ⟨.ok, s.setKey (payN q 0 1) k, kcv k ++ [0], 0, false⟩)) ∧
  (OrderAnswers .cmdKeyInit 0x0701 (fun q s => q.auth = none ∧ payN q 0 1 < 8 ∧ (s.keySlot (payN q 0 1)).st ≠ 0)
    (fun _ s => ⟨.stateDenied, s, [], 0, false⟩)) ∧
  (∀ nonce p c, nonce < 2 ^ 128 → OrderAnswers (fun t => .cmdKeyRotate t nonce) 0x0702
    (fun q s => q.auth = some (p, c) ∧ payN q 0 1 < 8 ∧ payN q 0 1 ≠ p ∧ (s.keySlot (payN q 0 1)).st ≠ 1 ∧ s.sec.trngOk = true)
    (fun q s =>
      let k : KeySlot := ⟨1, hmacSha256 (s.keySlot p).key (kdfLabel ++ [payN q 0 1] ++ (q.payload.drop 4).take 16 ++ beBytes 16 nonce)⟩
      ⟨.ok, s.setKey (payN q 0 1) k, beBytes 16 nonce ++ kcv k ++ [0], 0, false⟩)) ∧
  (OrderAnswers .cmdKeyRetire 0x0703
    (fun q s => payN q 0 4 < 8 ∧ (s.keySlot (payN q 0 4)).st = 1 ∧ bitN (s.getF (SEC_WMAP_MAP 7)) (8 + payN q 0 4) = false)
    (fun q s => ⟨.ok, s.setKey (payN q 0 4) ⟨2, []⟩, [], 0, false⟩)) ∧
  (OrderAnswers .cmdKeyRetire 0x0703 (fun q s => payN q 0 4 < 8 ∧ (s.keySlot (payN q 0 4)).st ≠ 1) (fun _ s => ⟨.stateDenied, s, [], 0, false⟩)) ∧
  (OrderAnswers .cmdWorldSet 0x0704
    (fun q s => payN q 0 4 ≤ 6 ∧ worldMapOk 32 (lset ((upto 8).map (fun k => s.getF (SEC_WMAP_MAP k))) (payN q 0 4) (payN q 4 4)) = true)
    (fun q s => ⟨.ok, ((s.setF (SEC_WMAP_MAP (payN q 0 4)) (payN q 4 4)).setFlag SEC_STAT_CHG true).raise 113 (payN q 0 4) (payN q 4 4),
      [], 0, false⟩)) ∧
  (OrderAnswers .cmdWorldSet 0x0704 (fun q _ => 6 < payN q 0 4) (fun _ s => ⟨.valueRange, s, [], 0, false⟩)) ∧
  (let run (c : ClassC) (q : CmdReq) (s : State) : CmdRes := ⟨.ok, { s with cmd := { s.cmd with run := some (c, q.tr, q.seq) } }, [], 0, false⟩
   (OrderAnswers .cmdOtpProgram 0x0705 (fun q s => payN q 0 4 ≤ 1 ∧ (s.otpSlot (payN q 0 4)).st = 0 ∧ s.cmd.run = none)
     (fun q => run (.otpProgram (payN q 0 4) (ofBe (q.payload.drop 4))) q)) ∧
   (OrderAnswers .cmdOtpRevoke 0x0706 (fun q s => payN q 0 4 ≤ 1 ∧ (s.otpSlot 0).st = 1 ∧ (s.otpSlot 1).st = 1 ∧ s.cmd.run = none)
     (fun q => run (.otpRevoke (payN q 0 4)) q)) ∧
   (OrderAnswers .cmdFlashErase 0x0802 (fun q s => payN q 0 4 % 0x10000 = 0 ∧ 1 ≤ payN q 4 4 ∧ payN q 4 4 ≤ 1024 ∧
       inOneSlot (payN q 0 4) (payN q 4 4 * 0x10000) = true ∧ s.flashRefusal (slotOf (payN q 0 4)) = none)
     (fun q => run (.flashErase (payN q 0 4) (payN q 4 4)) q)) ∧
   (OrderAnswers .cmdFlashErase 0x0802 (fun q _ => payN q 0 4 % 0x10000 ≠ 0 ∨ payN q 4 4 = 0 ∨
       inOneSlot (payN q 0 4) (payN q 4 4 * 0x10000) = false) (fun _ s => ⟨.valueRange, s, [], 0, false⟩)) ∧
   (OrderAnswers .cmdFlashProgram 0x0803 (fun q s => payN q 0 4 % 256 = 0 ∧ (q.payload.drop 4).length % 256 = 0 ∧
       inOneSlot (payN q 0 4) (q.payload.drop 4).length = true ∧ s.flashRefusal (slotOf (payN q 0 4)) = none)
     (fun q => run (.flashProgram (payN q 0 4) (q.payload.drop 4)) q)) ∧
   (OrderAnswers .cmdFlashSlot 0x0804 (fun q s => payN q 0 4 ≤ 1 ∧ s.cmd.run = none) (fun q => run (.flashSlot (payN q 0 4)) q)) ∧
   (OrderAnswers .cmdFlashSlot 0x0804 (fun q s => payN q 0 4 ≤ 1 ∧ s.cmd.run.isSome = true) (fun _ s => ⟨.resourceBusy, s, [], 0, false⟩))) ∧
  (∀ data, (∀ b ∈ data, b < 256) → OrderAnswers (fun t => .cmdFlashRead t data) 0x0801
    (fun q s => 1 ≤ payN q 4 4 ∧ payN q 4 4 = data.length ∧ payN q 0 4 + payN q 4 4 ≤ 0x8000000 ∧ payN q 4 4 ≤ 4096 ∧ s.flashWriting = false)
    (fun _ s => ⟨.ok, s, data, 0, false⟩)) ∧
  (∀ (t h hash tr seq : Nat) (s : State), let a := s.at t; let e : State := { a with cmd := { a.cmd with run := none } }
    (a.cmd.run = some (.otpProgram h hash, tr, seq) →
      exec (.otpOperationDone t true) s = .next ((e.setOtp h ⟨1, hash⟩).complete 0x0705 tr 0 seq 0) ∧
      exec (.otpOperationDone t false) s =
        .next (((e.setFlag SEC_STAT_OTP_ERR true).setOtp h ⟨2, (Config.otpFailed h hash).toNat⟩).complete 0x0705 tr (stCode .valueRange) seq 0)) ∧
    (a.cmd.run = some (.otpRevoke h, tr, seq) → ∀ ok,
      exec (.otpOperationDone t ok) s = .next ((e.setOtp h ⟨2, (a.otpSlot h).hash⟩).complete 0x0706 tr 0 seq 0))) ∧
  (∀ (t k n tr seq : Nat) (d : List Nat) (h : ImgHdr) (sig : Bool) (s : State), let a := s.at t
    let e : State := { a with cmd := { a.cmd with run := none } }
    a.sys.refPresent = true →
    (a.cmd.run = some (.flashErase k n, tr, seq) → exec (.flashOperationDone t h sig) s = .next (e.complete 0x0802 tr 0 seq 0)) ∧
    (a.cmd.run = some (.flashProgram k d, tr, seq) → exec (.flashOperationDone t h sig) s = .next (e.complete 0x0803 tr 0 seq 0)) ∧
    (a.cmd.run = some (.flashSlot k, tr, seq) → hdrOk h = true → a.sigCheck h sig = true →
      exec (.flashOperationDone t h sig) s = .next ((e.bootUpd (fun b => { b with pref := k })).complete 0x0804 tr 0 seq 0)) ∧
    (a.cmd.run = some (.flashSlot k, tr, seq) → (hdrOk h = false ∨ a.sigCheck h sig = false) →
      exec (.flashOperationDone t h sig) s = .next (e.complete 0x0804 tr (stCode .imageInvalid) seq 0))) ∧
  (OrderAnswers .cmdEvtRead 0x0901
    (fun q s => (payN q 0 2 = 0 ∨ (payN q 0 2 = 1 ∧ s.reqSecure (trReq q.tr) = true)) ∧ 1 ≤ payN q 2 2 ∧ payN q 2 2 ≤ 127)
    (fun q s => let es := (s.queue (payN q 0 2)).take (payN q 2 2); ⟨.ok, s, leBytes 4 es.length ++ es.flatMap (entryBytes false), 0, false⟩)) ∧
  (OrderAnswers .cmdEvtAck 0x0902
    (fun q s => (payN q 0 2 = 0 ∨ (payN q 0 2 = 1 ∧ s.reqSecure (trReq q.tr) = true)) ∧ 1 ≤ payN q 2 2 ∧
      payN q 2 2 ≤ (s.queue (payN q 0 2)).length)
    (fun q s => ⟨.ok, s.setQueue (payN q 0 2) ((s.queue (payN q 0 2)).drop (payN q 2 2)), [], 0, false⟩)) ∧
  (OrderAnswers .cmdEvtAck 0x0902 (fun q s => payN q 0 2 = 1 ∧ s.reqSecure (trReq q.tr) = false)
    (fun q s => ⟨.worldDenied, s.deny (trReq q.tr) 0x10000 true, [], 0, false⟩)) ∧
  (∀ (t : Nat) (ok : Bool) (s : State), exec (.otpOperationDone t ok) s = .next (otpOperationDoneEff ok (s.at t))) ∧
  (∀ (t : Nat) (h : ImgHdr) (sigOk : Bool) (s : State), exec (.flashOperationDone t h sigOk) s = .next
    (flashOperationDoneEff h sigOk (s.at t)))

/-- R431, R481 to R484: a write the map denies or that no map covers changes nothing but its record and the denial's; an allowed
write sets read-write bits as written, clears the bits written 1 of the write-1-to-clear kind, save those the engine set at the
same instant (R480; log entry 134), and leaves the rest, each outcome recorded; the registers with checks of their own take or
refuse the value (SYS_XCFG, AUX_CFG, AUX_PERIOD, AUX_ENT, FLT_CADDR, TIM_IRIG), EVT_SEEN clears only what the requester may see, a
write of CMD_REQ while BUSY is recorded OK and stores nothing (log entry 47); reserved space reads 0 and refuses writes with
VALUE_RANGE, both noted. Each of its commands completes in every state: its effect takes place where its operands are of its row
and its requester is there, and else nothing happens. -/
def Obligations.RegisterWrites : Prop :=
  (∀ (t a v i j : Nat) (r : Requester) (f : RegFam) (s : State), let b := s.at t
    v < 4294967296 → b.trAlive (reqIdx r) = true → a < 0x200000 → regAt a = some (f, i, j) → hasOwnWrite f.name = false →
    (b.judge r a = .noMap → exec (.registerWrite t r a v) s = .next (b.recordWrite r a .stateDenied)) ∧
    (b.judge r a = .denied → exec (.registerWrite t r a v) s = .next ((b.deny r a true).recordWrite r a .worldDenied)) ∧
    (b.judge r a = .allowed →
      f.name ∉ [.SYS_XCFG, .CMD_REQ, .AUX_CFG, .AUX_PERIOD, .AUX_ENT, .FLT_CADDR, .TIM_IRIG, .EVT_SEEN] →
      ∃ w : Word, exec (.registerWrite t r a v) s = .next ((b.wr a w).recordWrite r a .ok) ∧
        ∀ n, n < 32 → w.getLsbD n =
          (if (bitN f.w1c n || bitN f.rws n) && bitN v n then
              (if bitN f.rw n then true else (b.rd a).getLsbD n) && ((b.rd a).getLsbD n && !(Store.get (rstWord a) b.regs0 a).getLsbD n)
            else if bitN f.rw n then bitN v n else (b.rd a).getLsbD n)) ∧
    (b.judge r a = .allowed → f.name = .EVT_SEEN → ∃ w : Word, exec (.registerWrite t r a v) s = .next ((b.wr a w).recordWrite r a .ok) ∧
        ∀ n, n < 32 → w.getLsbD n =
          (if (bitN f.w1c n || bitN f.rws n) && (bitN v n && (b.reqSecure r || !b.srcSecure (32 * i + n))) then
              (if bitN f.rw n then true else (b.rd a).getLsbD n) && ((b.rd a).getLsbD n && !(Store.get (rstWord a) b.regs0 a).getLsbD n)
            else if bitN f.rw n then bitN v n && (b.reqSecure r || !b.srcSecure (32 * i + n)) else (b.rd a).getLsbD n)) ∧
    (b.judge r a = .allowed → f.name = .SYS_XCFG → exec (.registerWrite t r a v) s = .next
      (if 8 ≤ v % 32 then (b.setF SYS_XCFG_LAT v).recordWrite r a .ok else b.recordWrite r a .valueRange)) ∧
    (b.judge r a = .allowed → b.flag AUX_STAT_RUN = true → (f.name = .AUX_CFG ∨ f.name = .AUX_PERIOD ∨ f.name = .AUX_ENT) →
      exec (.registerWrite t r a v) s = .next (b.recordWrite r a .stateDenied)) ∧
    (b.judge r a = .allowed → b.flag AUX_STAT_RUN = false → f.name = .AUX_CFG → exec (.registerWrite t r a v) s = .next
      (if v % 4 = 3 ∨ v / 4 % 64 = 0 ∨ 32 < v / 4 % 64 then b.recordWrite r a .valueRange
       else ((b.setF AUX_CFG_MODE v).setF AUX_CFG_LEN (v / 4 % 64)).recordWrite r a .ok)) ∧
    (b.judge r a = .allowed → b.flag AUX_STAT_RUN = false → f.name = .AUX_PERIOD → exec (.registerWrite t r a v) s = .next
      (if v % 1048576 < 16 then b.recordWrite r a .valueRange
       else (b.setF AUX_PERIOD_PERIOD (v % 1048576)).recordWrite r a .ok)) ∧
    (b.judge r a = .allowed → b.flag AUX_STAT_RUN = false → f.name = .AUX_ENT → exec (.registerWrite t r a v) s = .next
      (if auxBallBusy b.sys.ballMap (v % 16) = true then b.recordWrite r a .resourceBusy
       else if auxEntOk v = false then b.recordWrite r a .valueRange
       else (b.wr (AUX_ENT i) (BitVec.ofNat 32 v &&& 0x3FF1F#32)).recordWrite r a .ok)) ∧
    (b.judge r a = .allowed → f.name = .FLT_CADDR → exec (.registerWrite t r a v) s = .next
      (if v / 8 % 4 = 3 then b.recordWrite r a .valueRange
       else (b.wr FLT_CADDR (BitVec.ofNat 32 (v % 131072))).recordWrite r a .ok)) ∧
    (b.judge r a = .allowed → f.name = .CMD_REQ →
      (b.flag CMD_STAT_BUSY = true → exec (.registerWrite t r a v) s = .next ((b.setFlag CMD_STAT_WR_BUSY true).recordWrite r a .ok)) ∧
      (b.flag CMD_STAT_BUSY = false → exec (.registerWrite t r a v) s = .next ((b.setF (CMD_REQ_DATA i) v).recordWrite r a .ok))) ∧
    (b.judge r a = .allowed → f.name = .TIM_IRIG →
      exec (.registerWrite t r a v) s = .next
        (if 2000 ≤ v / 65536 ∧ v / 65536 ≤ 2255 then (b.setF TIM_IRIG_YEAR (v / 65536)).recordWrite r a .ok else b.recordWrite r a .valueRange))) ∧
  (∀ (t a : Nat) (r : Requester) (s : State), let b := s.at t
    let note : State := (b.setFlag (SYS_ACC_RSV_SEEN (reqIdx r)) true).setF (SYS_RSVA_ADDR (reqIdx r)) a
    b.trAlive (reqIdx r) = true → b.sys.mapOn = true → a % 4 = 0 →
    (0x800000 ≤ a → a < 4294967296 →
      exec (.reservedAccess t r a true) s = .next (note.recordWrite r a .valueRange) ∧
      exec (.reservedAccess t r a false) s = .next (note.readOut [0])) ∧
    (a < 0x200000 → regAt a = none → b.judge r a = .allowed →
      exec (.reservedAccess t r a true) s = .next (note.recordWrite r a .valueRange) ∧
      exec (.reservedAccess t r a false) s = .next (note.readOut [0]))) ∧
  (∀ (t : Nat) (r : Requester) (a : Nat) (wr : Bool) (s : State), let x := s.at t; exec (.reservedAccess t r a wr) s = .next
    (if a < 4294967296 ∧ x.trAlive (reqIdx r) = true then reservedAccessEff r a wr x else x)) ∧
  (∀ (t : Nat) (r : Requester) (a v : Nat) (s : State), let x := s.at t; exec (.registerWrite t r a v) s = .next
    (if v < 4294967296 ∧ x.trAlive (reqIdx r) = true then registerWriteEff r a v x else x))

/-- R485 to R488, R492: READ takes the words of a burst in address order and notes an unaligned address or a crossed boundary,
beyond which words read 0; WRITE is the same with words; READ_STAT repeats SYS_XSTAT; an undefined code is noted (a code without
its complement as one: log entry 134); the bytes of a command are its code, the code's complement, the address from its highest
byte and the data words from their lowest; a capture word takes its whole quantity, and a following word then comes from what was
captured. Each of its commands completes in every state: its effect takes place where its operands are of its row and its requester
is there, and else nothing happens. -/
def Obligations.BusAccesses : Prop :=
  (∀ (t a n : Nat) (s : State), let b := s.at t
    a < 4294967296 → b.trAlive 0 = true →
    (a % 4 = 0 → burstRoom a n = n → exec (.xspiRead t a n) s =
      .next ((State.readWords .xspi n a b).2.readOut (State.readWords .xspi n a b).1)) ∧
    (a % 4 ≠ 0 → burstRoom (a / 4 * 4) n = n → exec (.xspiRead t a n) s =
      .next ((State.readWords .xspi n (a / 4 * 4) b.xerr).2.readOut (State.readWords .xspi n (a / 4 * 4) b.xerr).1)) ∧
    (∀ k, a = 0x200000 - 4 * k → 1 ≤ k → k ≤ 0x80000 → k < n → let x := State.readWords .xspi k a b
      exec (.xspiRead t a n) s = .next (x.2.xerr.readOut (x.1 ++ List.replicate (n - k) 0))) ∧
    (let k := burstRoom (a / 4 * 4) n; let c := if a % 4 = 0 then b else b.xerr; let x := State.readWords .xspi k (a / 4 * 4) c
     exec (.xspiRead t a n) s = .next ((if k < n then x.2.xerr else x.2).readOut (x.1 ++ List.replicate (n - k) 0)))) ∧
  (∀ (t a : Nat) (ws : List Nat) (s : State), let b := s.at t
    a < 4294967296 → b.trAlive 0 = true → (∀ w ∈ ws, w < 4294967296) →
    (a % 4 = 0 → burstRoom a ws.length = ws.length →
      exec (.xspiWrite t a ws false) s = .next (State.writeWords .xspi ws a b) ∧
      exec (.xspiWrite t a ws true) s = .next (State.writeWords .xspi ws a b).xerr) ∧
    (let k := burstRoom (a / 4 * 4) ws.length; let c := if a % 4 = 0 then b else b.xerr
     let x := State.writeWords .xspi (ws.take k) (a / 4 * 4) c
     exec (.xspiWrite t a ws false) s = .next (if k < ws.length then x.xerr else x))) ∧
  (∀ (t n : Nat) (s : State), let b := s.at t
    b.trAlive 0 = true → b.judge .xspi SYS_XSTAT = .allowed → exec (.xspiReadStat t n) s = .next (b.readOut (List.replicate n b.sysXstat))) ∧
  (∀ (t c : Nat) (s : State), let b := s.at t
    c < 256 → b.trAlive 0 = true → c ≠ 0xB1 → c ≠ 0xB2 → c ≠ 0xB5 → exec (.xspiUndefinedCode t c) s = .next b.xerr) ∧
  (∀ a, a < 4294967296 → xspiDecode ([0xB1, 0x4E] ++ (leBytes 4 a).reverse) = some (.read a)) ∧
  (∀ a ws, a < 4294967296 → (∀ w ∈ ws, w < 4294967296) →
    xspiDecode ([0xB2, 0x4D] ++ (leBytes 4 a).reverse ++ ws.flatMap (leBytes 4)) = some (.write a ws false)) ∧
  (xspiDecode [0xB5, 0x4A] = some .readStat) ∧
  (∀ c k r, c + k = 255 → c ≠ 0xB1 → c ≠ 0xB2 → c ≠ 0xB5 → xspiDecode (c :: k :: r) = some (.undefinedCode c)) ∧
  (∀ c k r, c + k ≠ 255 → xspiDecode (c :: k :: r) = some (.undefinedCode 0)) ∧
  (∀ (t a n i j : Nat) (r : Requester) (f : RegFam) (s : State), let b := s.at t
    let ws := (upto n).map (fun k => b.liveAt r (a + 4 * k))
    b.trAlive (reqIdx r) = true → a < 0x200000 → regAt a = some (f, i, j) → capOf f.name i j = some (a, n, 0) →
    f.name ≠ .EVT_LDATA → f.name ≠ .AUX_QDATA_LO → b.judge r a = .allowed →
    exec (.captureRead t r a) s = .next ((b.capture r a ws).readOut [lget 0 ws 0])) ∧
  (∀ (s : State) (r : Requester) (f : RegFam) (a c n k i j : Nat) (ws : List Nat), let u := s.capture r c ws
    a < 0x200000 → regAt a = some (f, i, j) → capOf f.name i j = some (c, n, k) → k ≠ 0 → f.name ≠ .EVT_LDATA → u.judge r a = .allowed →
    s.sys.caps.length = 2 → u.readWord r a = (lget 0 ws k, u)) ∧
  (∀ (s : State) (r : Requester) (f : RegFam) (a c n k i j : Nat),
    a < 0x200000 → regAt a = some (f, i, j) → capOf f.name i j = some (c, n, k) → k ≠ 0 → f.name ≠ .EVT_LDATA → s.judge r a = .allowed →
    lget none s.sys.caps (reqIdx r) = none → s.readWord r a =
      (s.liveAt r a, (s.setFlag (SYS_ACC_STALE_HALF (reqIdx r)) true).setF (SYS_STALEA_ADDR (reqIdx r)) a)) ∧
  (∀ (t : Nat) (r : Requester) (a : Nat) (s : State), let x := s.at t; exec (.captureRead t r a) s = .next
    (if x.trAlive (reqIdx r) = true then captureReadEff r a x else x)) ∧
  (∀ (t a n : Nat) (s : State), let x := s.at t; exec (.xspiRead t a n) s = .next (if a < 4294967296 then xspiReadEff a n x else x)) ∧
  (∀ (t a : Nat) (ws : List Nat) (part : Bool) (s : State), let x := s.at t; exec (.xspiWrite t a ws part) s = .next
    (if a < 4294967296 ∧ ws.all (fun b => decide (b < 4294967296)) = true then xspiWriteEff a ws part x else x)) ∧
  (∀ (t n : Nat) (s : State), exec (.xspiReadStat t n) s = .next (xspiReadStatEff n (s.at t))) ∧
  (∀ (t code : Nat) (s : State), let a := s.at t; exec (.xspiUndefinedCode t code) s = .next
    (if code < 256 then xspiUndefinedCodeEff code a else a))

/-- R470 to R472, R477, R346: the oldest entry of a queue is captured whole, an empty queue reads 0; an acknowledgement removes the
oldest entries, one of none or of too many sets ACK_ERR; the log writer moves, at most one every 0.75 µs, the oldest buffered entry
into the ring, whose head goes round; log data of a secure source is denied to the other world; TIM_SAMP changes the sampling base
in TEST only, and every running chain group is to reset. What an acknowledgement of none is recorded as and what an unwritten log
entry reads are log entry 60's choices, the order of the refusals of TIM_SAMP is log entry 61's. Each of its commands completes in
every state: its effect takes place where its operands are of its row and its requester is there, and else nothing happens. -/
def Obligations.EventAndLogAccess : Prop :=
  (∀ (t q : Nat) (r : Requester) (s : State), let b := s.at t
    q < 2 → b.trAlive (reqIdx r) = true → b.judge r (EVT_QDATA q 0) = .allowed →
    (b.queue q = [] → exec (.evtQdataCapture t r q) s =
      .next ((b.capture r (EVT_QDATA q 0) (List.replicate 8 0)).readOut [0])) ∧
    (∀ e es, b.queue q = e :: es → exec (.evtQdataCapture t r q) s =
      .next ((b.capture r (EVT_QDATA q 0) ((upto 8).map (lget 0 (entryWords false e)))).readOut [lget 0 (entryWords false e) 0]))) ∧
  (∀ (t q n : Nat) (r : Requester) (s : State), let b := s.at t
    q < 2 → b.trAlive (reqIdx r) = true → b.judge r (EVT_QACK q) = .allowed → n < 8192 →
    (1 ≤ n → n ≤ (b.queue q).length →
      exec (.evtQackWrite t r q n) s = .next ((b.setQueue q ((b.queue q).drop n)).recordWrite r (EVT_QACK q) .ok)) ∧
    ((n = 0 ∨ (b.queue q).length < n) →
      exec (.evtQackWrite t r q n) s = .next ((b.setFlag (EVT_QSTAT_ACK_ERR q) true).recordWrite r (EVT_QACK q) .ok))) ∧
  (∀ (t : Nat) (s : State) (e : EvtEntry) (es : List EvtEntry), let b := s.at t
    b.evt.logBuf = e :: es → b.mram.logHead < 4096 → (∀ u, b.evt.logAt = some u → u + 12000 ≤ b.now) →
    ∃ b' : State, exec (.logWrite t) s = .next b' ∧ b'.evt = { b.evt with logBuf := es, logAt := some b.now } ∧ b'.regs = b.regs ∧
      (∀ d, Store.get d b'.mram.log b.mram.logHead = e) ∧
      (∀ d i, i ≠ b.mram.logHead → Store.get d b'.mram.log i = Store.get d b.mram.log i) ∧
      b'.mram.logHead = (if b.mram.logHead = 4095 then 0 else b.mram.logHead + 1) ∧
      b'.mram.logWrapped = (b.mram.logWrapped || b.mram.logHead = 4095) ∧ b'.mram.keyCnt = b.mram.keyCnt) ∧
  (∀ (t : Nat) (r : Requester) (s : State), let b := s.at t; let a := EVT_LDATA 0
    b.trAlive (reqIdx r) = true → b.judge r a = .allowed →
    (b.logSecure = true → b.reqSecure r = false → exec (.evtLdataRead t r) s = .next ((b.deny r a false).readOut [0])) ∧
    (∀ e, b.logSel = some e → (b.logSecure = false ∨ b.reqSecure r = true) → exec (.evtLdataRead t r) s =
      .next ((b.capture r a ((upto 8).map (lget 0 (entryWords true e)))).readOut [lget 0 (entryWords true e) 0]))) ∧
  (∀ (t v : Nat) (r : Requester) (s : State), let b := s.at t; let k := v % 4
    b.trAlive (reqIdx r) = true → b.judge r TIM_SAMP = .allowed →
    (b.mode ≠ .test → exec (.timSampWrite t r v) s = .next (b.recordWrite r TIM_SAMP .notInTest)) ∧
    (b.mode = .test → (b.flag TIM_SAMP_COMPAT = true ∨ b.tbState k = 0 ∨ b.tbState k = 5) →
      exec (.timSampWrite t r v) s = .next (b.recordWrite r TIM_SAMP .stateDenied)) ∧
    (b.mode = .test → b.flag TIM_SAMP_COMPAT = false → b.tbState k ≠ 0 → b.tbState k ≠ 5 →
      (k = b.getF TIM_SAMP_SAMP_TB → exec (.timSampWrite t r v) s = .next (b.recordWrite r TIM_SAMP .ok)) ∧
      (k ≠ b.getF TIM_SAMP_SAMP_TB → exec (.timSampWrite t r v) s = .next
        ((((upto 8).foldl (fun s g => if s.chainState g = 0 then s else s.setFgrp g { s.fgrp g with resetReq := true })
          (b.setF TIM_SAMP_SAMP_TB k).putUtc).raise 94 0 k).recordWrite r TIM_SAMP .ok)))) ∧
  (∀ (t : Nat) (r : Requester) (q n : Nat) (s : State), let a := s.at t; exec (.evtQackWrite t r q n) s = .next
    (if q < 2 ∧ a.trAlive (reqIdx r) = true then evtQackWriteEff r q n a else a)) ∧
  (∀ (t : Nat) (s : State), exec (.logWrite t) s = .next (logWriteEff (s.at t))) ∧
  (∀ (t : Nat) (r : Requester) (q : Nat) (s : State), let a := s.at t; exec (.evtQdataCapture t r q) s = .next
    (if q < 2 ∧ a.trAlive (reqIdx r) = true then evtQdataCaptureEff r q a else a)) ∧
  (∀ (t : Nat) (r : Requester) (s : State), let a := s.at t; exec (.evtLdataRead t r) s = .next
    (if a.trAlive (reqIdx r) = true then evtLdataReadEff r a else a)) ∧
  (∀ (t : Nat) (r : Requester) (v : Nat) (s : State), let a := s.at t; exec (.timSampWrite t r v) s = .next
    (if a.trAlive (reqIdx r) = true then timSampWriteEff r v a else a))

/-- R405, R407, R408, R414 to R416: power-on release latches the straps, reads the boot record and goes to step 3, holds, or tries
the other slot; each later step waits for the one before; a slot that fails is reported, raises event 120 and leaves the start to
the other slot, and when both have failed the engine enters SAFE with cause 1, as it does with cause 2 when training fails. Each of
its commands completes in every state: its effect takes place where its operands are of its row and its requester is there, and
else nothing happens. -/
def Obligations.StartSequence : Prop :=
  (∀ (t : Nat) (st : Straps) (hdrs : List ImgHdr) (s : State), let a := s.at t
    let p : State := { a with sys := { a.sys with por := false, straps := st, refPresent := true },
                              trp := { a.trp with lvlArm := 0, lvlFire := 0, wdLevel := false } }
    let r : State := (p.chooseSlot st.hold).startRecord 0
    let g : State := { r with sec := { r.sec with trngOk := true }, sys := { r.sys with step := 2, hdrs := hdrs, flashFast := true, held := st.hold } }
    a.sys.por = true →
    (st.hold = true → exec (.powerOnResetRelease t st hdrs true true) s = .next g) ∧
    (st.hold = false → hdrOk (lget noHdr hdrs r.sys.slot) = true →
      exec (.powerOnResetRelease t st hdrs true true) s = .next { g with sys := { g.sys with step := 3 } }) ∧
    (st.hold = false → hdrOk (lget noHdr hdrs r.sys.slot) = false →
      exec (.powerOnResetRelease t st hdrs true true) s = .next (g.slotFailed (hdrFail 3)))) ∧
  (∀ (t : Nat) (hdrs : List ImgHdr) (s : State), let a := s.at t
    a.sys.held = true → a.mode = .boot → hdrOk (lget noHdr hdrs a.sys.slot) = true →
    exec (.bootHoldFall t hdrs) s = .next
      { a with sys := { a.sys with held := false, hdrs := hdrs, tap := tapUnheld a.sys.tap, step := 3 } }) ∧
  (∀ (t : Nat) (sig : Bool) (s : State), let a := s.at t
    a.mode = .boot → a.sys.held = false → a.sys.step = 3 →
    (a.sigCheck (a.hdrOf a.sys.slot) sig = true → exec (.imageHashDone t sig) s = .next { a with sys := { a.sys with step := 4 } }) ∧
    (a.sigCheck (a.hdrOf a.sys.slot) sig = false → exec (.imageHashDone t sig) s = .next (a.slotFailed (hdrFail 4)))) ∧
  (∀ (t : Nat) (s : State), let a := s.at t
    a.mode = .boot → a.sys.held = false → (a.sys.step = 3 ∨ a.sys.step = 4) → a.sys.trained = false →
    exec (.lpddr4xTrainingDone t true) s = .next { a with sys := { a.sys with trained := true } } ∧
    exec (.lpddr4xTrainingDone t false) s = .next (a.enterSafe 2)) ∧
  (∀ (t : Nat) (img : Image) (bad : List Nat) (s : State), let a := s.at t
    a.mode = .boot → a.sys.step = 4 → a.sys.trained = true →
    (sectionsCheck (a.hdrOf a.sys.slot) img bad = none →
      exec (.sectionsLoaded t img bad) s = .next { a with sys := { a.sys with step := 6, cand := some (heldBy img.dir img) } }) ∧
    (∀ r, sectionsCheck (a.hdrOf a.sys.slot) img bad = some r → exec (.sectionsLoaded t img bad) s = .next (a.slotFailed r))) ∧
  (∀ (t : Nat) (img : Image) (s : State), let a := s.at t
    a.mode = .boot → a.sys.step = 6 → a.sys.cand = some img →
    (a.validate img (a.hdrOf a.sys.slot).config = none → ∃ b, exec (.imageValidation t) s = .next b ∧ b.mode = .boot ∧ b.sys.step = 8 ∧
      b.sys.mapOn = true ∧ b.mram.boot.booted = a.sys.slot ∧ b.sys.rp0 = img.restart ∧ b.now = a.now ∧ b.sec.otp = a.sec.otp) ∧
    (∀ r, a.validate img (a.hdrOf a.sys.slot).config = some r → exec (.imageValidation t) s = .next (a.slotFailed r))) ∧
  (∀ (s : State) (r : LoadReport), let k := s.sys.slot; let v := (s.report k r).raise 120 k r.status
    (s.sys.tried = [] → hdrOk (s.hdrOf (1 - k)) = true →
      s.slotFailed r = { v with sys := { v.sys with tried := [k], slot := 1 - k, cand := none, step := 3 } }) ∧
    (s.sys.tried = [] → hdrOk (s.hdrOf (1 - k)) = false →
      let u : State := { v with sys := { v.sys with tried := [k], slot := 1 - k, cand := none } };
      s.slotFailed r = (u.report (1 - k) (hdrFail 3)).enterSafe 1) ∧
    (s.sys.tried ≠ [] → s.slotFailed r = (s.report k r).enterSafe 1)) ∧
  (∀ (t : Nat) (cals : List (List SliceCal)) (s : State), let a := s.at t
    let u : State := (upto 8).foldl (fun s g => s.syncReset g) ((upto 8).foldl (fun s g => s.startCal g (lget [] cals g)) a).chainStart
    a.mode = .boot → a.sys.step = 8 → exec (.startupCalibrationDone t cals) s = .next ({ u with sys := { u.sys with step := 9 } }).bioStart) ∧
  (∀ (t : Nat) (straps : Straps) (hdrs : List ImgHdr) (octal trngOk : Bool) (s : State), exec (.powerOnResetRelease t straps hdrs octal trngOk) s = .next
    (powerOnResetReleaseEff straps hdrs octal trngOk (s.at t))) ∧
  (∀ (t : Nat) (hdrs : List ImgHdr) (s : State), exec (.bootHoldFall t hdrs) s = .next (bootHoldFallEff hdrs (s.at t))) ∧
  (∀ (t : Nat) (sigOk : Bool) (s : State), exec (.imageHashDone t sigOk) s = .next (imageHashDoneEff sigOk (s.at t))) ∧
  (∀ (t : Nat) (ok : Bool) (s : State), exec (.lpddr4xTrainingDone t ok) s = .next (lpddr4xTrainingDoneEff ok (s.at t))) ∧
  (∀ (t : Nat) (img : Image) (badHash : List Nat) (s : State), exec (.sectionsLoaded t img badHash) s = .next
    (sectionsLoadedEff img badHash (s.at t))) ∧
  (∀ (t : Nat) (s : State), exec (.imageValidation t) s = .next (imageValidationEff (s.at t))) ∧
  (∀ (t : Nat) (cals : List (List SliceCal)) (s : State), exec (.startupCalibrationDone t cals) s = .next
    (startupCalibrationDoneEff cals (s.at t)))

/-- R10, R18, R409, R420 to R423: a supply out of range clears all but MRAM (into which the log's buffer goes), keys, OTP and the
levels of the pads (log entry 62, the model's choice); a restart taken keeps straps, the log on its way and the bits that survive,
and begins at step 1, but in a SAFE that only power-on reset ends; SAFE stops pods, logic and outputs and writes its cause; a loss
of the reference is logged and enters SAFE with cause 3, its return asks for what the policy says; the policy counts its restarts
within its window and stops at its limit (an RCOUNT above MAXR is at it too: log entry 102); an accepted mode change, to TEST or to
RUN, happens once, at the first slow boundary after it, and is answered; UPTIME counts. When SAFE_CAUSE is 0 is log entry 66's
choice, which requests SAFE cancels log entry 67's. Each of its commands completes in every state: its effect takes place where its
operands are of its row and its requester is there, and else nothing happens. -/
def Obligations.ModesAndRestarts : Prop :=
  (∀ (t : Nat) (s : State), let a := s.at t
    ∃ b, exec (.supplyOutOfRange t) s = .next b ∧ b.mode = .boot ∧ b.regs = [] ∧ b.mram = a.dropMode.logFlush.mram ∧
      b.mram.boot = a.mram.boot ∧ b.mram.keyCnt = a.mram.keyCnt ∧ b.sec.keys = a.dropMode.sec.keys ∧
      (a.cmd.modeWait = none → a.evt.logBuf = [] → b.mram = a.mram ∧ b.sec.keys = a.sec.keys) ∧
      b.sec.otp = a.sec.otp ∧ b.sys.por = true ∧ b.sys.mapOn = false ∧ b.evt = State.reset.evt ∧ b.now = a.now ∧ b.pending = a.pending ∧
      b.trp.lvlArm = a.trp.lvlArm ∧ b.trp.lvlFire = a.trp.lvlFire ∧ b.trp.wdLevel = a.trp.wdLevel ∧ b.ballsFloat = true) ∧
  (∀ (t : Nat) (hdrs : List ImgHdr) (r : RestartReq) (s : State), let a := s.at t; let d := a.dropMode; let k := d.bootRead.mram.boot
    a.sys.restart = some r → a.sys.por = false → a.sys.refPresent = true → a.safeTillPor = false → a.sys.policy = none → k.valid = true → a.sys.straps.hold = false →
    hdrOk (lget noHdr hdrs k.pref) = true →
    ∃ b, exec (.restartTake t hdrs true true false) s = .next b ∧ b.mode = .boot ∧ b.sys.step = 3 ∧ b.sys.slot = k.pref ∧
      b.sys.warm = !r.cold ∧ b.sys.restart = none ∧ b.sys.straps = a.sys.straps ∧ b.evt.logBuf = d.evt.logBuf ∧
      b.mram.boot.startCause = (if r.byPolicy then (if r.cold then 3 else 4) else (if r.cold then 1 else 2)) ∧
      b.mram.boot.safeCause = 0 ∧ b.mram.keyCnt = a.mram.keyCnt ∧ b.sec.keys = d.sec.keys ∧ b.sec.otp = a.sec.otp ∧
      b.regs = rwsKept d.regs ∧ b.trp.lvlArm = a.trp.lvlArm ∧ b.trp.lvlFire = a.trp.lvlFire) ∧
  (∀ (s : State) (c : Nat), (s.enterSafe c).mode = .safe ∧ (s.enterSafe c).mram.boot.safeCause = c ∧
    (s.enterSafe c).sys.modeReq = none ∧ (s.enterSafe c).mram.keyCnt = s.mram.keyCnt ∧ (s.enterSafe c).sec = s.sec ∧
    (s.enterSafe c).sys.policy = (if c = 3 ∧ s.sys.ran = true then s.sys.policy else none) ∧
    (s.enterSafe c).sys.restart = (if s.sys.ran = true then s.sys.restart.filter (fun r => decide (c = 3) || !r.byPolicy) else none) ∧
    (s.enterSafe c).sys.tap = tapUnheld s.sys.tap ∧
    (∀ p, p < 3 → (s.enterSafe c).podState p = 4 ∨ (s.enterSafe c).podState p = 0)) ∧
  (∀ (t : Nat) (s : State), let a := s.at t
    a.sys.por = false → a.sys.refPresent = true →
    ∃ b, exec (.referenceLoss t) s = .next b ∧ b.mode = .safe ∧ b.evt.ballsHeld = true ∧ b.sys.refPresent = false ∧
      b.flag SYS_CLK_REF_OK = false ∧ b.cmd.modeWait = none ∧
      (a.mode ≠ .safe → b.mram.boot.safeCause = 3) ∧ (a.evt.logBuf.length < 64 → a.evt.logBuf.length < b.evt.logBuf.length)) ∧
  (∀ (t : Nat) (s : State), let a := s.at t
    let b : State := ({ a with sys := { a.sys with refPresent := true } }).setFlag SYS_CLK_REF_OK true
    a.sys.por = false → a.sys.refPresent = false →
    (a.mode ≠ .safe → exec (.referenceReturnRestart t) s = .next b) ∧
    (a.mode = .safe → a.mram.boot.safeCause = 3 → a.sys.safeAtStart = false →
      exec (.referenceReturnRestart t) s = .next (b.policyCause (bf a.sys.rp0 5 4)))) ∧
  (∀ (t : Nat) (p : RestartReq) (s : State), let a := s.at t; let n := a.mram.boot.rcount
    a.sys.policy = some p → a.sys.refPresent = true → a.safeStays = false → a.mram.boot.uptime - a.mram.boot.rwStart < 60 * bf a.sys.rp0 23 12 →
    (bf a.sys.rp0 11 8 ≤ n →
      exec (.policyRestart t) s = .next (({ a with sys := { a.sys with policy := none } }).raise 121 0 n)) ∧
    (n < bf a.sys.rp0 11 8 → (a.pairDefers = true ∨ a.causeUnlogged = true) → exec (.policyRestart t) s = .next a) ∧
    (n < bf a.sys.rp0 11 8 → a.pairDefers = false → a.causeUnlogged = false →
      ∃ b, exec (.policyRestart t) s = .next b ∧ b.mram.boot.rcount = satInc 255 n ∧ b.sys.policy = none ∧
        b.sys.restart = some (mergeReq a.sys.restart ⟨p.cold, true⟩) ∧ b.regs = a.regs ∧ b.evt = a.evt)) ∧
  (∀ (t : Nat) (p : RestartReq) (s : State), let a := s.at t
    a.sys.policy = some p → a.sys.refPresent = true → a.safeStays = false → 60 * bf a.sys.rp0 23 12 ≤ a.mram.boot.uptime - a.mram.boot.rwStart →
    0 < bf a.sys.rp0 11 8 → a.pairDefers = false → a.causeUnlogged = false →
    ∃ b, exec (.policyRestart t) s = .next b ∧ b.mram.boot.rcount = 1 ∧ b.mram.boot.rwStart = a.mram.boot.uptime ∧ b.sys.policy = none ∧
      b.sys.restart = some (mergeReq a.sys.restart ⟨p.cold, true⟩)) ∧
  (∀ (t n : Nat) (q : CmdReq) (s : State), let a := s.at t
    let b : State := { a with mode := .test, sys := { a.sys with modeReq := none } }
    let c : State := (if a.paired = true ∧ a.leads = true ∧ a.flag OZX_PSTAT_PARTNER_OK = true
      then { b with oz := { b.oz with relNext := true } } else b).tripStat
    a.mode = .run → a.sys.modeReq = some (.test, n) → a.cmd.modeWait = some q → exec (.modeChangeEffect t) s = .next
      (if a.flt.m ≤ n then a else ({ c with cmd := { c.cmd with modeWait := none } }).respond q .ok 0 [])) ∧
  (∀ (t : Nat) (q : CmdReq) (s : State), let a := s.at t
    let b : State := { a with mode := .run, sys := { a.sys with modeReq := none } }
    let c : State := b.endForce.tripStat
    ∀ n, a.mode = .test → a.sys.modeReq = some (.run, n) → a.cmd.modeWait = some q → exec (.modeChangeEffect t) s = .next
      (if a.flt.m ≤ n then a else ({ c with cmd := { c.cmd with modeWait := none } }).respond q .ok 0 [])) ∧
  (∀ s : State, (s.safeStays = true ↔ s.mode = .safe ∧ (s.sys.safeAtStart = true ∨ s.mram.boot.safeCause ≠ 3)) ∧
    (s.safeTillPor = true ↔ s.mode = .safe ∧ s.sys.safeAtStart = true ∧ s.mram.boot.safeCause = 3) ∧
    (s.safeStays = true → ∀ c, s.policyCause c = s)) ∧
  (∀ (t : Nat) (s : State), let a := s.at t
    a.sys.por = false → exec (.uptimeUpdate t) s = .next (a.bootUpd (fun b => { b with uptime := (b.uptime + 1) % 4294967296 }))) ∧
  (∀ (t : Nat) (s : State), exec (.supplyOutOfRange t) s = .next (supplyOutOfRangeEff (s.at t))) ∧
  (∀ (t : Nat) (s : State), exec (.modeChangeEffect t) s = .next (modeChangeEffectEff (s.at t))) ∧
  (∀ (t : Nat) (s : State), exec (.referenceLoss t) s = .next (referenceLossEff (s.at t))) ∧
  (∀ (t : Nat) (s : State), exec (.referenceReturnRestart t) s = .next (referenceReturnRestartEff (s.at t))) ∧
  (∀ (t : Nat) (s : State), exec (.policyRestart t) s = .next (policyRestartEff (s.at t))) ∧
  (∀ (t : Nat) (hdrs : List ImgHdr) (octal trngOk holdLvl : Bool) (s : State), exec (.restartTake t hdrs octal trngOk holdLvl) s = .next
    (restartTakeEff hdrs octal trngOk holdLvl (s.at t))) ∧
  (∀ (t : Nat) (s : State), exec (.uptimeUpdate t) s = .next (uptimeUpdateEff (s.at t)))

/-- Commands are taken first in, first out: a step with command c in front is exec of c on the state with the queue's rest; with
nothing waiting the block idles, which is the model's choice (log entry 3). -/
def Obligations.QueueOrder : Prop :=
  (∀ (c : Instr) (rest : List Instr) (s : State), step { s with pending := c :: rest } = exec c { s with pending := rest }) ∧
  (∀ s : State, s.pending = [] → step s = .next s)

/-- R5, R421, R18, R433, R436, R465, R484: what power-on reset leaves: BOOT with no map in force, every register at its reset
value, every memory in its canonical form, no event queued or logged, outputs low, no segment selected, no request waiting; no key,
no hash and counters of 0, which is how the model takes a part to be delivered (log entry 5). -/
def Obligations.StateAtReset : Prop :=
  State.reset.mode = .boot ∧ State.reset.pending = [] ∧ Memory.wf State.reset = true ∧ State.reset.sys.mapOn = false ∧ State.reset.sys.por = true ∧
  (∀ a, State.reset.rd a = rstWord a) ∧
  (∀ q, State.reset.queue q = []) ∧ State.reset.evt.logBuf = [] ∧ State.reset.mram.log = [] ∧
  State.reset.getF TRP_DRV_ARM_DARM = 0 ∧ State.reset.getF TRP_DRV_FIRE_DFIRE = 0 ∧ State.reset.getF LGC_MODE_MODE = 0 ∧
  (∀ p, p < 3 → State.reset.podState p = 0) ∧ State.reset.tph.wsel = none ∧ State.reset.cmd.svc = [] ∧ State.reset.cmd.run = none ∧
  (∀ k, k < 8 → (State.reset.keySlot k).st = 0 ∧ lget 0 State.reset.mram.keyCnt k = 0) ∧ (∀ h, h < 2 → (State.reset.otpSlot h).st = 0) ∧
  (∀ a : Nat, a < 4 → State.reset.judge .xspi (a * 0x8000) = .allowed) ∧ State.reset.judge .xspi 0x20000 = .noMap

/-- R4: whatever the command and the state, the machine goes on: the command answers a next state, later commands keep their order,
and the clock does not run backwards. A command whose operands are not of its row, or which finds nothing to act on, changes
nothing else: the model's choice, log entry 9. -/
def Obligations.EveryCommandGoesOn : Prop :=
  ∀ (i : Instr) (s : State), ∃ s', exec i s = .next s' ∧ s'.pending = s.pending ∧ s.now ≤ s'.now

/-- R462, R464 to R468, R471: an event takes the next sequence number and a place in the log's buffer; before step 8 it waits as
raised; from step 8 an enabled one enters the queue of its world, one whose source and instance already stand there only counts in
that entry, the last place of a queue goes to event 127, and a full queue loses it and counts it in DROP. Entries of one cycle
stand in the order of their source numbers (R467); that the cycle is the instant is the model's choice, log entry 134. -/
def Obligations.EventsRaised : Prop :=
  (∀ (s : State) (src inst data : Nat), src < 127 →
    let r := s.raise src inst data
    let q := if s.srcSecure src then 1 else 0
    let e := s.mkEntry ⟨src, inst, data⟩
    let fresh := (s.evt.cyc.1 ≠ s.now ∨ ∀ x ∈ s.evt.cyc.2, x ≤ src) ∧ ∀ x ∈ s.queue q, x.src ≠ src ∨ x.inst ≠ inst % 65536
    (e.src = src ∧ e.inst = inst % 65536 ∧ e.data = data % 4294967296 ∧ e.eseq = (s.mram.eseq + 1) % 4294967296 ∧ e.rep = 0) ∧
    (s.sys.mapOn = false → (s.evt.cyc.1 ≠ s.now ∨ ∀ x ∈ s.evt.cyc.2, x ≤ src) → r.evt.pre = s.evt.pre ++ [e] ∧ r.queue 0 = s.queue 0 ∧ r.queue 1 = s.queue 1 ∧ r.mram.eseq = e.eseq) ∧
    (s.sys.mapOn = true → fresh → s.evt.logBuf.length < 64 → (s.evtEnabled src = false ∨ (s.queue q).length ≠ 4095) →
      r.evt.logBuf = s.evt.logBuf ++ [{ e with dropped := s.evt.logDropNext }] ∧ r.mram.eseq = e.eseq) ∧
    (s.sys.mapOn = true → fresh → s.evtEnabled src = true → (s.queue q).length < 4095 →
      r.queue q = s.queue q ++ [e] ∧ r.queue (1 - q) = s.queue (1 - q)) ∧
    (s.sys.mapOn = true → fresh → s.evtEnabled src = false → r.queue q = s.queue q) ∧
    (s.sys.mapOn = true → fresh → s.evtEnabled src = true → (s.queue q).length = 4095 →
      ∃ o : EvtEntry, r.queue q = s.queue q ++ [o] ∧ o.src = 127 ∧ o.inst = q ∧ r.flag (EVT_QSTAT_OVF q) = true) ∧
    (s.sys.mapOn = true → fresh → s.evtEnabled src = true → 4095 < (s.queue q).length →
      r.queue q = s.queue q ∧ r.getF (EVT_QCNT_DROP q) = satInc 65535 (s.getF (EVT_QCNT_DROP q))) ∧
    (∀ x, s.sys.mapOn = true → evtNoCoalesce src = false → (s.queue q).find? (fun x => x.src = src && x.inst = inst % 65536) = some x →
      r.queue q = (s.queue q).map (fun y => if y.eseq = x.eseq then { y with rep := satInc 0xFFFF y.rep } else y) ∧
      r.mram.eseq = s.mram.eseq ∧ r.evt.logBuf.length = s.evt.logBuf.length)) ∧
  (∀ (s : State) (x ix dx y iy dy : Nat), s.sys.mapOn = true → y < x → x < 127 → s.evt.cyc.1 ≠ s.now →
    s.evtEnabled x = true → s.evtEnabled y = true → s.srcSecure x = s.srcSecure y →
    let q := if s.srcSecure x then 1 else 0
    s.queue q = [] →
    ((s.raise x ix dx).raise y iy dy).queue q =
      [s.mkEntry ⟨y, iy, dy⟩, { s.mkEntry ⟨x, ix, dx⟩ with eseq := (s.mram.eseq + 2) % 4294967296 }])

/-- R484: until a map is in force only windows 0 to 3 answer: every other address reads 0 and a write to it is recorded as
STATE_DENIED; step 8, which IMAGE_VALIDATION ends, puts the map of the loaded image in force; no other step does, and entering SAFE
leaves it so. -/
def Obligations.NoMapBeforeStepEight : Prop :=
  (∀ (s : State) (r : Requester) (a v : Nat), s.sys.mapOn = false →
    (a < 0x20000 → s.judge r a = .allowed) ∧
    (0x20000 ≤ a → a % 4 = 0 → s.readWord r a = (0, s)) ∧
    (0x20000 ≤ a → a % 4 = 0 → s.writeWord r a v = (.stateDenied, s.recordWrite r a .stateDenied))) ∧
  (∀ (t : Nat) (img : Image) (s : State), let a := s.at t
    a.mode = .boot → a.sys.step = 6 → a.sys.cand = some img → a.validate img (a.hdrOf a.sys.slot).config = none →
    ∃ b, exec (.imageValidation t) s = .next b ∧ b.sys.mapOn = true ∧
      ∀ k, k < 8 → b.getF (SEC_WMAP_MAP k) = lget 0 img.worldMap k % 2 ^ 32) ∧
  (∀ s s' : State, step s = .next s' → s.sys.mapOn = false → s'.sys.mapOn = true →
    ∃ (t : Nat) (rest : List Instr), s.pending = .imageValidation t :: rest ∧ s.mode = .boot ∧ s.sys.step = 6) ∧
  (∀ (s : State) (c : Nat), (s.enterSafe c).sys.mapOn = s.sys.mapOn)

/-- R439: a counter equal to the last accepted one with the very frame last accepted is answered from the cache and not executed
again; in every other case the response is COUNTER_STALE; a restart empties the cache. -/
def Obligations.CounterReplay : Prop :=
  (∀ (s : State) (q : CmdReq) (sec : Bool), let slot := byteAt q.frame 2 / 2 % 8; let k := s.keySlot slot
    let n := q.frame.length - 16; let ctr := leAt q.frame 16 8; let last := lget 0 s.mram.keyCnt slot
    let world := bitN (s.getF (SEC_WMAP_MAP 7)) q.tr || bitN (s.getF (SEC_WMAP_MAP 7)) (8 + slot)
    let v : CmdReq := { q with auth := some (slot, ctr), key := k.key, secure := world }
    s.limited q.tr = false → byteAt q.frame 2 % 2 = 1 → k.st = 1 → q.frame.drop n = tagOfMsg k.key (q.frame.take n) →
    (sec = false ∨ world = true) → ctr ≤ last →
    (∀ rsp, ctr = last → lget none s.sec.cache slot = some (q.frame, rsp) →
      s.authenticate q sec = (.replay (replayRsp k.key rsp), s.incSat SEC_AUTHCNT_REPLAY)) ∧
    ((ctr < last ∨ ∀ rsp, lget none s.sec.cache slot ≠ some (q.frame, rsp)) →
      s.authenticate q sec = (.refuse v .counterStale, s.incSat SEC_AUTHCNT_STALE))) ∧
  (∀ (a b : State) (op : Nat) (f : CmdReq → State → CmdRes) (q : CmdReq) (rest : List CmdReq) (row : OpRow) (bs : List Nat),
    let c : State := { a with cmd := { a.cmd with svc := rest } }
    a.cmd.svc = q :: rest → q.op = op → opRow op = some row → a.cmd.modeWait = none → a.refLost = false →
    byteAt q.frame 2 % 2 = 1 → c.authenticate q (c.critOf q row.crit).2 = (.replay bs, b) →
    a.onOpcode op f = b.sendRsp q.tr q.xid q.src bs) ∧
  (∀ (t slot : Nat) (hdrs : List ImgHdr) (r : RestartReq) (o trng hold : Bool) (s : State), let a := s.at t
    a.sys.restart = some r → a.sys.por = false → a.sys.refPresent = true → a.safeTillPor = false →
    ∃ b, exec (.restartTake t hdrs o trng hold) s = .next b ∧ lget none b.sec.cache slot = none)

/-- R20: a return to RUN is refused with STATE_DENIED while a chain group is STOPPED, a protection pod is halted by the debugger or
DEBUG_UNLOCK is in force; every force ends when RUN takes effect. -/
def Obligations.ReturnToRun : Prop :=
  (OrderAnswers .cmdModeSet 0x0201
    (fun q s => payN q 0 4 = 1 ∧ s.mode = .test ∧
      ((∃ g, g < 8 ∧ s.chainState g = 0) ∨ s.podState 0 = 5 ∨ s.podState 1 = 5 ∨ s.flag DBG_STAT_UNLOCK = true))
    (fun _ s => ⟨.stateDenied, s, [], 0, false⟩)) ∧
  (∀ (t : Nat) (s : State), let a := s.at t
    ∀ n, a.mode = .test → a.sys.modeReq = some (.run, n) → n < a.flt.m →
    ∃ b, exec (.modeChangeEffect t) s = .next b ∧ b.mode = .run ∧ b.getF TRP_FRC_ARM_FARM = 0 ∧ b.getF TRP_FRC_FIRE_FFIRE = 0 ∧
      b.trp.forced = 0 ∧ b.cmd.forceEnd = none)

/-- R18: a step changes the device mode only by a transition the table of R18 allows: TEST is entered from RUN alone, RUN from BOOT
and TEST alone, and SAFE is left for BOOT alone. -/
def Obligations.ModeTransitions : Prop :=
  ∀ s s' : State, step s = .next s' →
    (s'.mode = .test → s.mode = .run ∨ s.mode = .test) ∧
    (s'.mode = .run → s.mode ≠ .safe) ∧
    (s.mode = .safe → s'.mode = .safe ∨ s'.mode = .boot)

/-- R433, R440: no step makes the counter of a key slot smaller, through restarts, retirement and new keys alike. -/
def Obligations.KeyCountersNeverFall : Prop :=
  ∀ (s s' : State), step s = .next s' →
    s'.mram.keyCnt.length = s.mram.keyCnt.length ∧ ∀ k, lget 0 s.mram.keyCnt k ≤ lget 0 s'.mram.keyCnt k

/-- R436: no change to an OTP slot can be undone: every step keeps the invariant of the running operation, no slot goes back from
REVOKED or ACTIVE, and a hash once programmed stays. -/
def Obligations.OtpNeverUndone : Prop :=
  ∀ s s' : State, OtpSound s → step s = .next s' →
    OtpSound s' ∧ ∀ h, (s.otpSlot h).st ≤ (s'.otpSlot h).st ∧ ((s.otpSlot h).st ≠ 0 → (s'.otpSlot h).hash = (s.otpSlot h).hash)

/-- R436: the invariant of the OTP slots holds after reset. -/
def Obligations.OtpSoundAtReset : Prop :=
  OtpSound State.reset

/-- Every step keeps the canonical form of what the state lists by address: the register file, the memory of the pods, instance
memory, the programs' code and initial bytes, the code bank not in use, and the programs of an image being loaded or of a pending
exchange. The form is the model's own, so that equal contents are equal states. -/
def Obligations.MemoryFormKept : Prop :=
  ∀ s s' : State, Memory.wf s = true → step s = .next s' → Memory.wf s' = true
end

