-- ==== Sys2Proof/Laws/Edges.lean ====
section
/-!
SUPPORT. Recorder triggers are offered for levels that changed: between a state and itself there is none.
-/
namespace Sys2Proof.Machine

/-- No level changes between a state and itself, so no trigger is offered. -/
theorem State.offerEdges_self (a : State) : State.offerEdges a a = a := by
  unfold State.offerEdges
  generalize upto 8 = l
  induction l with
  | nil => rfl
  | cons c l ih =>
    rw [List.foldl_cons]
    have none_offered : ∀ (es : List Nat), es.foldl (fun s e =>
        let k := s.getF (REC_CTRG_KIND c e)
        let i := s.getF (REC_CTRG_INDEX c e)
        let was := a.trigLevel k i
        let is := s.trigLevel k i
        if !s.flag (REC_CTRG_EN c e) || was = is
            || s.tph.offered.any (fun t => t.kind = k && t.index = i && t.rising = is && t.tau = s.trigTau k i) then s
        else s.offer ⟨k, i, is, s.trigTau k i, s.labelOf (s.trigTau k i), none⟩) a = a := by
      intro es
      induction es with
      | nil => rfl
      | cons e es ih =>
        rw [List.foldl_cons]
        simp only [decide_true, Bool.or_true, Bool.true_or, if_true]
        exact ih
    split
    · exact ih
    · rw [none_offered]; exact ih

end Sys2Proof.Machine
end

