-- ==== Sys2Proof/Laws/Frame.lean ====
section
/-!
SUPPORT. How each part of the state is read through a state written out, through a choice and through a fold.
-/
set_option linter.all false
set_option Elab.async false
namespace Sys2Proof.Machine
@[simp ↓] theorem State.now_mk (x0 x1 x2 x3 x4 x5 x6 x7 x8 x9 x10 x11 x12 x13 x14 x15 x16 x17 x18 x19 x20 x21 x22) :
    (State.mk x0 x1 x2 x3 x4 x5 x6 x7 x8 x9 x10 x11 x12 x13 x14 x15 x16 x17 x18 x19 x20 x21 x22).now = x0 := by simp

@[simp ↓] theorem State.pending_mk (x0 x1 x2 x3 x4 x5 x6 x7 x8 x9 x10 x11 x12 x13 x14 x15 x16 x17 x18 x19 x20 x21 x22) :
    (State.mk x0 x1 x2 x3 x4 x5 x6 x7 x8 x9 x10 x11 x12 x13 x14 x15 x16 x17 x18 x19 x20 x21 x22).pending = x1 := by simp

@[simp ↓] theorem State.regs0_mk (x0 x1 x2 x3 x4 x5 x6 x7 x8 x9 x10 x11 x12 x13 x14 x15 x16 x17 x18 x19 x20 x21 x22) :
    (State.mk x0 x1 x2 x3 x4 x5 x6 x7 x8 x9 x10 x11 x12 x13 x14 x15 x16 x17 x18 x19 x20 x21 x22).regs0 = x2 := by simp

@[simp ↓] theorem State.freeCtr_mk (x0 x1 x2 x3 x4 x5 x6 x7 x8 x9 x10 x11 x12 x13 x14 x15 x16 x17 x18 x19 x20 x21 x22) :
    (State.mk x0 x1 x2 x3 x4 x5 x6 x7 x8 x9 x10 x11 x12 x13 x14 x15 x16 x17 x18 x19 x20 x21 x22).freeCtr = x3 := by simp

@[simp ↓] theorem State.mode_mk (x0 x1 x2 x3 x4 x5 x6 x7 x8 x9 x10 x11 x12 x13 x14 x15 x16 x17 x18 x19 x20 x21 x22) :
    (State.mk x0 x1 x2 x3 x4 x5 x6 x7 x8 x9 x10 x11 x12 x13 x14 x15 x16 x17 x18 x19 x20 x21 x22).mode = x4 := by simp

@[simp ↓] theorem State.mram_mk (x0 x1 x2 x3 x4 x5 x6 x7 x8 x9 x10 x11 x12 x13 x14 x15 x16 x17 x18 x19 x20 x21 x22) :
    (State.mk x0 x1 x2 x3 x4 x5 x6 x7 x8 x9 x10 x11 x12 x13 x14 x15 x16 x17 x18 x19 x20 x21 x22).mram = x5 := by simp

@[simp ↓] theorem State.sys_mk (x0 x1 x2 x3 x4 x5 x6 x7 x8 x9 x10 x11 x12 x13 x14 x15 x16 x17 x18 x19 x20 x21 x22) :
    (State.mk x0 x1 x2 x3 x4 x5 x6 x7 x8 x9 x10 x11 x12 x13 x14 x15 x16 x17 x18 x19 x20 x21 x22).sys = x6 := by simp

@[simp ↓] theorem State.evt_mk (x0 x1 x2 x3 x4 x5 x6 x7 x8 x9 x10 x11 x12 x13 x14 x15 x16 x17 x18 x19 x20 x21 x22) :
    (State.mk x0 x1 x2 x3 x4 x5 x6 x7 x8 x9 x10 x11 x12 x13 x14 x15 x16 x17 x18 x19 x20 x21 x22).evt = x7 := by simp

@[simp ↓] theorem State.ana_mk (x0 x1 x2 x3 x4 x5 x6 x7 x8 x9 x10 x11 x12 x13 x14 x15 x16 x17 x18 x19 x20 x21 x22) :
    (State.mk x0 x1 x2 x3 x4 x5 x6 x7 x8 x9 x10 x11 x12 x13 x14 x15 x16 x17 x18 x19 x20 x21 x22).ana = x8 := by simp

@[simp ↓] theorem State.aux_mk (x0 x1 x2 x3 x4 x5 x6 x7 x8 x9 x10 x11 x12 x13 x14 x15 x16 x17 x18 x19 x20 x21 x22) :
    (State.mk x0 x1 x2 x3 x4 x5 x6 x7 x8 x9 x10 x11 x12 x13 x14 x15 x16 x17 x18 x19 x20 x21 x22).aux = x9 := by simp

@[simp ↓] theorem State.flt_mk (x0 x1 x2 x3 x4 x5 x6 x7 x8 x9 x10 x11 x12 x13 x14 x15 x16 x17 x18 x19 x20 x21 x22) :
    (State.mk x0 x1 x2 x3 x4 x5 x6 x7 x8 x9 x10 x11 x12 x13 x14 x15 x16 x17 x18 x19 x20 x21 x22).flt = x10 := by simp

@[simp ↓] theorem State.tim_mk (x0 x1 x2 x3 x4 x5 x6 x7 x8 x9 x10 x11 x12 x13 x14 x15 x16 x17 x18 x19 x20 x21 x22) :
    (State.mk x0 x1 x2 x3 x4 x5 x6 x7 x8 x9 x10 x11 x12 x13 x14 x15 x16 x17 x18 x19 x20 x21 x22).tim = x11 := by simp

@[simp ↓] theorem State.net_mk (x0 x1 x2 x3 x4 x5 x6 x7 x8 x9 x10 x11 x12 x13 x14 x15 x16 x17 x18 x19 x20 x21 x22) :
    (State.mk x0 x1 x2 x3 x4 x5 x6 x7 x8 x9 x10 x11 x12 x13 x14 x15 x16 x17 x18 x19 x20 x21 x22).net = x12 := by simp

@[simp ↓] theorem State.prt_mk (x0 x1 x2 x3 x4 x5 x6 x7 x8 x9 x10 x11 x12 x13 x14 x15 x16 x17 x18 x19 x20 x21 x22) :
    (State.mk x0 x1 x2 x3 x4 x5 x6 x7 x8 x9 x10 x11 x12 x13 x14 x15 x16 x17 x18 x19 x20 x21 x22).prt = x13 := by simp

@[simp ↓] theorem State.trp_mk (x0 x1 x2 x3 x4 x5 x6 x7 x8 x9 x10 x11 x12 x13 x14 x15 x16 x17 x18 x19 x20 x21 x22) :
    (State.mk x0 x1 x2 x3 x4 x5 x6 x7 x8 x9 x10 x11 x12 x13 x14 x15 x16 x17 x18 x19 x20 x21 x22).trp = x14 := by simp

@[simp ↓] theorem State.pod_mk (x0 x1 x2 x3 x4 x5 x6 x7 x8 x9 x10 x11 x12 x13 x14 x15 x16 x17 x18 x19 x20 x21 x22) :
    (State.mk x0 x1 x2 x3 x4 x5 x6 x7 x8 x9 x10 x11 x12 x13 x14 x15 x16 x17 x18 x19 x20 x21 x22).pod = x15 := by simp

@[simp ↓] theorem State.lgc_mk (x0 x1 x2 x3 x4 x5 x6 x7 x8 x9 x10 x11 x12 x13 x14 x15 x16 x17 x18 x19 x20 x21 x22) :
    (State.mk x0 x1 x2 x3 x4 x5 x6 x7 x8 x9 x10 x11 x12 x13 x14 x15 x16 x17 x18 x19 x20 x21 x22).lgc = x16 := by simp

@[simp ↓] theorem State.gsv_mk (x0 x1 x2 x3 x4 x5 x6 x7 x8 x9 x10 x11 x12 x13 x14 x15 x16 x17 x18 x19 x20 x21 x22) :
    (State.mk x0 x1 x2 x3 x4 x5 x6 x7 x8 x9 x10 x11 x12 x13 x14 x15 x16 x17 x18 x19 x20 x21 x22).gsv = x17 := by simp

@[simp ↓] theorem State.tph_mk (x0 x1 x2 x3 x4 x5 x6 x7 x8 x9 x10 x11 x12 x13 x14 x15 x16 x17 x18 x19 x20 x21 x22) :
    (State.mk x0 x1 x2 x3 x4 x5 x6 x7 x8 x9 x10 x11 x12 x13 x14 x15 x16 x17 x18 x19 x20 x21 x22).tph = x18 := by simp

@[simp ↓] theorem State.oz_mk (x0 x1 x2 x3 x4 x5 x6 x7 x8 x9 x10 x11 x12 x13 x14 x15 x16 x17 x18 x19 x20 x21 x22) :
    (State.mk x0 x1 x2 x3 x4 x5 x6 x7 x8 x9 x10 x11 x12 x13 x14 x15 x16 x17 x18 x19 x20 x21 x22).oz = x19 := by simp

@[simp ↓] theorem State.sec_mk (x0 x1 x2 x3 x4 x5 x6 x7 x8 x9 x10 x11 x12 x13 x14 x15 x16 x17 x18 x19 x20 x21 x22) :
    (State.mk x0 x1 x2 x3 x4 x5 x6 x7 x8 x9 x10 x11 x12 x13 x14 x15 x16 x17 x18 x19 x20 x21 x22).sec = x20 := by simp

@[simp ↓] theorem State.cmd_mk (x0 x1 x2 x3 x4 x5 x6 x7 x8 x9 x10 x11 x12 x13 x14 x15 x16 x17 x18 x19 x20 x21 x22) :
    (State.mk x0 x1 x2 x3 x4 x5 x6 x7 x8 x9 x10 x11 x12 x13 x14 x15 x16 x17 x18 x19 x20 x21 x22).cmd = x21 := by simp

@[simp ↓] theorem State.regs_mk (x0 x1 x2 x3 x4 x5 x6 x7 x8 x9 x10 x11 x12 x13 x14 x15 x16 x17 x18 x19 x20 x21 x22) :
    (State.mk x0 x1 x2 x3 x4 x5 x6 x7 x8 x9 x10 x11 x12 x13 x14 x15 x16 x17 x18 x19 x20 x21 x22).regs = x22 := by simp

@[simp ↓] theorem MramSt_keyCnt_mk (x0 x1 x2 x3 x4 x5 x6 x7 x8 x9 x10 x11 x12) : (MramSt.mk x0 x1 x2 x3 x4 x5 x6 x7 x8 x9 x10 x11 x12).keyCnt = x6 := by simp

@[simp ↓] theorem MramSt_boot_mk (x0 x1 x2 x3 x4 x5 x6 x7 x8 x9 x10 x11 x12) : (MramSt.mk x0 x1 x2 x3 x4 x5 x6 x7 x8 x9 x10 x11 x12).boot = x0 := by simp

@[simp ↓] theorem SecSt_otp_mk (x0 x1 x2 x3 x4 x5) : (SecSt.mk x0 x1 x2 x3 x4 x5).otp = x1 := by simp

@[simp ↓] theorem SecSt_keys_mk (x0 x1 x2 x3 x4 x5) : (SecSt.mk x0 x1 x2 x3 x4 x5).keys = x0 := by simp

@[simp ↓] theorem CmdSt_run_mk (x0 x1 x2 x3 x4 x5 x6) : (CmdSt.mk x0 x1 x2 x3 x4 x5 x6).run = x3 := by simp

@[simp ↓] theorem CmdSt_svc_mk (x0 x1 x2 x3 x4 x5 x6) : (CmdSt.mk x0 x1 x2 x3 x4 x5 x6).svc = x1 := by simp

@[simp ↓] theorem SysSt_straps_mk (x0 x1 x2 x3 x4 x5 x6 x7 x8 x9 x10 x11 x12 x13 x14 x15 x16 x17 x18 x19 x20 x21 x22 x23 x24 x25 x26 x27 x28 x29) : (SysSt.mk x0 x1 x2 x3 x4 x5 x6 x7 x8 x9 x10 x11 x12 x13 x14 x15 x16 x17 x18 x19 x20 x21 x22 x23 x24 x25 x26 x27 x28 x29).straps = x4 := by simp

@[simp ↓] theorem SysSt_por_mk (x0 x1 x2 x3 x4 x5 x6 x7 x8 x9 x10 x11 x12 x13 x14 x15 x16 x17 x18 x19 x20 x21 x22 x23 x24 x25 x26 x27 x28 x29) : (SysSt.mk x0 x1 x2 x3 x4 x5 x6 x7 x8 x9 x10 x11 x12 x13 x14 x15 x16 x17 x18 x19 x20 x21 x22 x23 x24 x25 x26 x27 x28 x29).por = x0 := by simp

@[simp ↓] theorem SysSt_mapOn_mk (x0 x1 x2 x3 x4 x5 x6 x7 x8 x9 x10 x11 x12 x13 x14 x15 x16 x17 x18 x19 x20 x21 x22 x23 x24 x25 x26 x27 x28 x29) : (SysSt.mk x0 x1 x2 x3 x4 x5 x6 x7 x8 x9 x10 x11 x12 x13 x14 x15 x16 x17 x18 x19 x20 x21 x22 x23 x24 x25 x26 x27 x28 x29).mapOn = x3 := by simp

theorem State.now_ite (p : Prop) [Decidable p] (a b : State) :
    (if p then a else b).now = if p then a.now else b.now := apply_ite State.now p a b

theorem State.pending_ite (p : Prop) [Decidable p] (a b : State) :
    (if p then a else b).pending = if p then a.pending else b.pending := apply_ite State.pending p a b

theorem State.regs0_ite (p : Prop) [Decidable p] (a b : State) :
    (if p then a else b).regs0 = if p then a.regs0 else b.regs0 := apply_ite State.regs0 p a b

theorem State.freeCtr_ite (p : Prop) [Decidable p] (a b : State) :
    (if p then a else b).freeCtr = if p then a.freeCtr else b.freeCtr := apply_ite State.freeCtr p a b

theorem State.mode_ite (p : Prop) [Decidable p] (a b : State) :
    (if p then a else b).mode = if p then a.mode else b.mode := apply_ite State.mode p a b

theorem State.mram_ite (p : Prop) [Decidable p] (a b : State) :
    (if p then a else b).mram = if p then a.mram else b.mram := apply_ite State.mram p a b

theorem State.sys_ite (p : Prop) [Decidable p] (a b : State) :
    (if p then a else b).sys = if p then a.sys else b.sys := apply_ite State.sys p a b

theorem State.evt_ite (p : Prop) [Decidable p] (a b : State) :
    (if p then a else b).evt = if p then a.evt else b.evt := apply_ite State.evt p a b

theorem State.ana_ite (p : Prop) [Decidable p] (a b : State) :
    (if p then a else b).ana = if p then a.ana else b.ana := apply_ite State.ana p a b

theorem State.aux_ite (p : Prop) [Decidable p] (a b : State) :
    (if p then a else b).aux = if p then a.aux else b.aux := apply_ite State.aux p a b

theorem State.flt_ite (p : Prop) [Decidable p] (a b : State) :
    (if p then a else b).flt = if p then a.flt else b.flt := apply_ite State.flt p a b

theorem State.tim_ite (p : Prop) [Decidable p] (a b : State) :
    (if p then a else b).tim = if p then a.tim else b.tim := apply_ite State.tim p a b

theorem State.net_ite (p : Prop) [Decidable p] (a b : State) :
    (if p then a else b).net = if p then a.net else b.net := apply_ite State.net p a b

theorem State.prt_ite (p : Prop) [Decidable p] (a b : State) :
    (if p then a else b).prt = if p then a.prt else b.prt := apply_ite State.prt p a b

theorem State.trp_ite (p : Prop) [Decidable p] (a b : State) :
    (if p then a else b).trp = if p then a.trp else b.trp := apply_ite State.trp p a b

theorem State.pod_ite (p : Prop) [Decidable p] (a b : State) :
    (if p then a else b).pod = if p then a.pod else b.pod := apply_ite State.pod p a b

theorem State.lgc_ite (p : Prop) [Decidable p] (a b : State) :
    (if p then a else b).lgc = if p then a.lgc else b.lgc := apply_ite State.lgc p a b

theorem State.gsv_ite (p : Prop) [Decidable p] (a b : State) :
    (if p then a else b).gsv = if p then a.gsv else b.gsv := apply_ite State.gsv p a b

theorem State.tph_ite (p : Prop) [Decidable p] (a b : State) :
    (if p then a else b).tph = if p then a.tph else b.tph := apply_ite State.tph p a b

theorem State.oz_ite (p : Prop) [Decidable p] (a b : State) :
    (if p then a else b).oz = if p then a.oz else b.oz := apply_ite State.oz p a b

theorem State.sec_ite (p : Prop) [Decidable p] (a b : State) :
    (if p then a else b).sec = if p then a.sec else b.sec := apply_ite State.sec p a b

theorem State.cmd_ite (p : Prop) [Decidable p] (a b : State) :
    (if p then a else b).cmd = if p then a.cmd else b.cmd := apply_ite State.cmd p a b

theorem State.regs_ite (p : Prop) [Decidable p] (a b : State) :
    (if p then a else b).regs = if p then a.regs else b.regs := apply_ite State.regs p a b

/-- Each part of a choice between two states is the choice between that part of the two. -/
theorem State.ite_frame (p : Prop) [Decidable p] (a b : State) :
    (if p then a else b).now = (if p then a.now else b.now) ∧
    (if p then a else b).pending = (if p then a.pending else b.pending) ∧
    (if p then a else b).regs0 = (if p then a.regs0 else b.regs0) ∧
    (if p then a else b).freeCtr = (if p then a.freeCtr else b.freeCtr) ∧
    (if p then a else b).mode = (if p then a.mode else b.mode) ∧
    (if p then a else b).mram = (if p then a.mram else b.mram) ∧
    (if p then a else b).sys = (if p then a.sys else b.sys) ∧
    (if p then a else b).evt = (if p then a.evt else b.evt) ∧
    (if p then a else b).ana = (if p then a.ana else b.ana) ∧
    (if p then a else b).aux = (if p then a.aux else b.aux) ∧
    (if p then a else b).flt = (if p then a.flt else b.flt) ∧
    (if p then a else b).tim = (if p then a.tim else b.tim) ∧
    (if p then a else b).net = (if p then a.net else b.net) ∧
    (if p then a else b).prt = (if p then a.prt else b.prt) ∧
    (if p then a else b).trp = (if p then a.trp else b.trp) ∧
    (if p then a else b).pod = (if p then a.pod else b.pod) ∧
    (if p then a else b).lgc = (if p then a.lgc else b.lgc) ∧
    (if p then a else b).gsv = (if p then a.gsv else b.gsv) ∧
    (if p then a else b).tph = (if p then a.tph else b.tph) ∧
    (if p then a else b).oz = (if p then a.oz else b.oz) ∧
    (if p then a else b).sec = (if p then a.sec else b.sec) ∧
    (if p then a else b).cmd = (if p then a.cmd else b.cmd) ∧
    (if p then a else b).regs = (if p then a.regs else b.regs) :=
  ⟨State.now_ite p a b, State.pending_ite p a b, State.regs0_ite p a b, State.freeCtr_ite p a b, State.mode_ite p a b, State.mram_ite p a b, State.sys_ite p a b, State.evt_ite p a b, State.ana_ite p a b, State.aux_ite p a b, State.flt_ite p a b, State.tim_ite p a b, State.net_ite p a b, State.prt_ite p a b, State.trp_ite p a b, State.pod_ite p a b, State.lgc_ite p a b, State.gsv_ite p a b, State.tph_ite p a b, State.oz_ite p a b, State.sec_ite p a b, State.cmd_ite p a b, State.regs_ite p a b⟩

@[simp ↓] theorem MramSt_keyCnt_ite (p : Prop) [Decidable p] (a b : MramSt) :
    (if p then a else b).keyCnt = if p then a.keyCnt else b.keyCnt := apply_ite MramSt.keyCnt p a b

@[simp ↓] theorem MramSt_boot_ite (p : Prop) [Decidable p] (a b : MramSt) :
    (if p then a else b).boot = if p then a.boot else b.boot := apply_ite MramSt.boot p a b

@[simp ↓] theorem SecSt_otp_ite (p : Prop) [Decidable p] (a b : SecSt) :
    (if p then a else b).otp = if p then a.otp else b.otp := apply_ite SecSt.otp p a b

@[simp ↓] theorem SecSt_keys_ite (p : Prop) [Decidable p] (a b : SecSt) :
    (if p then a else b).keys = if p then a.keys else b.keys := apply_ite SecSt.keys p a b

@[simp ↓] theorem CmdSt_run_ite (p : Prop) [Decidable p] (a b : CmdSt) :
    (if p then a else b).run = if p then a.run else b.run := apply_ite CmdSt.run p a b

@[simp ↓] theorem CmdSt_svc_ite (p : Prop) [Decidable p] (a b : CmdSt) :
    (if p then a else b).svc = if p then a.svc else b.svc := apply_ite CmdSt.svc p a b

@[simp ↓] theorem SysSt_straps_ite (p : Prop) [Decidable p] (a b : SysSt) :
    (if p then a else b).straps = if p then a.straps else b.straps := apply_ite SysSt.straps p a b

@[simp ↓] theorem SysSt_por_ite (p : Prop) [Decidable p] (a b : SysSt) :
    (if p then a else b).por = if p then a.por else b.por := apply_ite SysSt.por p a b

@[simp ↓] theorem SysSt_mapOn_ite (p : Prop) [Decidable p] (a b : SysSt) :
    (if p then a else b).mapOn = if p then a.mapOn else b.mapOn := apply_ite SysSt.mapOn p a b

@[simp ↓] theorem foldl_now {β : Type} (l : List β) (f : State → β → State) (s : State)
    (h : ∀ s x, (f s x).now = s.now) : (l.foldl f s).now = s.now := by
  induction l generalizing s with
  | nil => rfl
  | cons a l ih => rw [List.foldl, ih, h]

@[simp ↓] theorem foldl_pending {β : Type} (l : List β) (f : State → β → State) (s : State)
    (h : ∀ s x, (f s x).pending = s.pending) : (l.foldl f s).pending = s.pending := by
  induction l generalizing s with
  | nil => rfl
  | cons a l ih => rw [List.foldl, ih, h]

@[simp ↓] theorem foldl_regs0 {β : Type} (l : List β) (f : State → β → State) (s : State)
    (h : ∀ s x, (f s x).regs0 = s.regs0) : (l.foldl f s).regs0 = s.regs0 := by
  induction l generalizing s with
  | nil => rfl
  | cons a l ih => rw [List.foldl, ih, h]

@[simp ↓] theorem foldl_freeCtr {β : Type} (l : List β) (f : State → β → State) (s : State)
    (h : ∀ s x, (f s x).freeCtr = s.freeCtr) : (l.foldl f s).freeCtr = s.freeCtr := by
  induction l generalizing s with
  | nil => rfl
  | cons a l ih => rw [List.foldl, ih, h]

@[simp ↓] theorem foldl_mode {β : Type} (l : List β) (f : State → β → State) (s : State)
    (h : ∀ s x, (f s x).mode = s.mode) : (l.foldl f s).mode = s.mode := by
  induction l generalizing s with
  | nil => rfl
  | cons a l ih => rw [List.foldl, ih, h]

@[simp ↓] theorem foldl_mram {β : Type} (l : List β) (f : State → β → State) (s : State)
    (h : ∀ s x, (f s x).mram = s.mram) : (l.foldl f s).mram = s.mram := by
  induction l generalizing s with
  | nil => rfl
  | cons a l ih => rw [List.foldl, ih, h]

@[simp ↓] theorem foldl_sys {β : Type} (l : List β) (f : State → β → State) (s : State)
    (h : ∀ s x, (f s x).sys = s.sys) : (l.foldl f s).sys = s.sys := by
  induction l generalizing s with
  | nil => rfl
  | cons a l ih => rw [List.foldl, ih, h]

@[simp ↓] theorem foldl_evt {β : Type} (l : List β) (f : State → β → State) (s : State)
    (h : ∀ s x, (f s x).evt = s.evt) : (l.foldl f s).evt = s.evt := by
  induction l generalizing s with
  | nil => rfl
  | cons a l ih => rw [List.foldl, ih, h]

@[simp ↓] theorem foldl_ana {β : Type} (l : List β) (f : State → β → State) (s : State)
    (h : ∀ s x, (f s x).ana = s.ana) : (l.foldl f s).ana = s.ana := by
  induction l generalizing s with
  | nil => rfl
  | cons a l ih => rw [List.foldl, ih, h]

@[simp ↓] theorem foldl_aux {β : Type} (l : List β) (f : State → β → State) (s : State)
    (h : ∀ s x, (f s x).aux = s.aux) : (l.foldl f s).aux = s.aux := by
  induction l generalizing s with
  | nil => rfl
  | cons a l ih => rw [List.foldl, ih, h]

@[simp ↓] theorem foldl_flt {β : Type} (l : List β) (f : State → β → State) (s : State)
    (h : ∀ s x, (f s x).flt = s.flt) : (l.foldl f s).flt = s.flt := by
  induction l generalizing s with
  | nil => rfl
  | cons a l ih => rw [List.foldl, ih, h]

@[simp ↓] theorem foldl_tim {β : Type} (l : List β) (f : State → β → State) (s : State)
    (h : ∀ s x, (f s x).tim = s.tim) : (l.foldl f s).tim = s.tim := by
  induction l generalizing s with
  | nil => rfl
  | cons a l ih => rw [List.foldl, ih, h]

@[simp ↓] theorem foldl_net {β : Type} (l : List β) (f : State → β → State) (s : State)
    (h : ∀ s x, (f s x).net = s.net) : (l.foldl f s).net = s.net := by
  induction l generalizing s with
  | nil => rfl
  | cons a l ih => rw [List.foldl, ih, h]

@[simp ↓] theorem foldl_prt {β : Type} (l : List β) (f : State → β → State) (s : State)
    (h : ∀ s x, (f s x).prt = s.prt) : (l.foldl f s).prt = s.prt := by
  induction l generalizing s with
  | nil => rfl
  | cons a l ih => rw [List.foldl, ih, h]

@[simp ↓] theorem foldl_trp {β : Type} (l : List β) (f : State → β → State) (s : State)
    (h : ∀ s x, (f s x).trp = s.trp) : (l.foldl f s).trp = s.trp := by
  induction l generalizing s with
  | nil => rfl
  | cons a l ih => rw [List.foldl, ih, h]

@[simp ↓] theorem foldl_pod {β : Type} (l : List β) (f : State → β → State) (s : State)
    (h : ∀ s x, (f s x).pod = s.pod) : (l.foldl f s).pod = s.pod := by
  induction l generalizing s with
  | nil => rfl
  | cons a l ih => rw [List.foldl, ih, h]

@[simp ↓] theorem foldl_lgc {β : Type} (l : List β) (f : State → β → State) (s : State)
    (h : ∀ s x, (f s x).lgc = s.lgc) : (l.foldl f s).lgc = s.lgc := by
  induction l generalizing s with
  | nil => rfl
  | cons a l ih => rw [List.foldl, ih, h]

@[simp ↓] theorem foldl_gsv {β : Type} (l : List β) (f : State → β → State) (s : State)
    (h : ∀ s x, (f s x).gsv = s.gsv) : (l.foldl f s).gsv = s.gsv := by
  induction l generalizing s with
  | nil => rfl
  | cons a l ih => rw [List.foldl, ih, h]

@[simp ↓] theorem foldl_tph {β : Type} (l : List β) (f : State → β → State) (s : State)
    (h : ∀ s x, (f s x).tph = s.tph) : (l.foldl f s).tph = s.tph := by
  induction l generalizing s with
  | nil => rfl
  | cons a l ih => rw [List.foldl, ih, h]

@[simp ↓] theorem foldl_oz {β : Type} (l : List β) (f : State → β → State) (s : State)
    (h : ∀ s x, (f s x).oz = s.oz) : (l.foldl f s).oz = s.oz := by
  induction l generalizing s with
  | nil => rfl
  | cons a l ih => rw [List.foldl, ih, h]

@[simp ↓] theorem foldl_sec {β : Type} (l : List β) (f : State → β → State) (s : State)
    (h : ∀ s x, (f s x).sec = s.sec) : (l.foldl f s).sec = s.sec := by
  induction l generalizing s with
  | nil => rfl
  | cons a l ih => rw [List.foldl, ih, h]

@[simp ↓] theorem foldl_cmd {β : Type} (l : List β) (f : State → β → State) (s : State)
    (h : ∀ s x, (f s x).cmd = s.cmd) : (l.foldl f s).cmd = s.cmd := by
  induction l generalizing s with
  | nil => rfl
  | cons a l ih => rw [List.foldl, ih, h]

@[simp ↓] theorem foldl_regs {β : Type} (l : List β) (f : State → β → State) (s : State)
    (h : ∀ s x, (f s x).regs = s.regs) : (l.foldl f s).regs = s.regs := by
  induction l generalizing s with
  | nil => rfl
  | cons a l ih => rw [List.foldl, ih, h]

@[simp ↓] theorem foldl_mram_keyCnt {β : Type} (l : List β) (f : State → β → State) (s : State)
    (h : ∀ s x, (f s x).mram.keyCnt = s.mram.keyCnt) : (l.foldl f s).mram.keyCnt = s.mram.keyCnt := by
  induction l generalizing s with
  | nil => rfl
  | cons a l ih => rw [List.foldl, ih, h]

@[simp ↓] theorem foldl_mram_boot {β : Type} (l : List β) (f : State → β → State) (s : State)
    (h : ∀ s x, (f s x).mram.boot = s.mram.boot) : (l.foldl f s).mram.boot = s.mram.boot := by
  induction l generalizing s with
  | nil => rfl
  | cons a l ih => rw [List.foldl, ih, h]

@[simp ↓] theorem foldl_sec_otp {β : Type} (l : List β) (f : State → β → State) (s : State)
    (h : ∀ s x, (f s x).sec.otp = s.sec.otp) : (l.foldl f s).sec.otp = s.sec.otp := by
  induction l generalizing s with
  | nil => rfl
  | cons a l ih => rw [List.foldl, ih, h]

@[simp ↓] theorem foldl_sec_keys {β : Type} (l : List β) (f : State → β → State) (s : State)
    (h : ∀ s x, (f s x).sec.keys = s.sec.keys) : (l.foldl f s).sec.keys = s.sec.keys := by
  induction l generalizing s with
  | nil => rfl
  | cons a l ih => rw [List.foldl, ih, h]

@[simp ↓] theorem foldl_cmd_run {β : Type} (l : List β) (f : State → β → State) (s : State)
    (h : ∀ s x, (f s x).cmd.run = s.cmd.run) : (l.foldl f s).cmd.run = s.cmd.run := by
  induction l generalizing s with
  | nil => rfl
  | cons a l ih => rw [List.foldl, ih, h]

@[simp ↓] theorem foldl_cmd_svc {β : Type} (l : List β) (f : State → β → State) (s : State)
    (h : ∀ s x, (f s x).cmd.svc = s.cmd.svc) : (l.foldl f s).cmd.svc = s.cmd.svc := by
  induction l generalizing s with
  | nil => rfl
  | cons a l ih => rw [List.foldl, ih, h]

@[simp ↓] theorem foldl_sys_straps {β : Type} (l : List β) (f : State → β → State) (s : State)
    (h : ∀ s x, (f s x).sys.straps = s.sys.straps) : (l.foldl f s).sys.straps = s.sys.straps := by
  induction l generalizing s with
  | nil => rfl
  | cons a l ih => rw [List.foldl, ih, h]

@[simp ↓] theorem foldl_sys_por {β : Type} (l : List β) (f : State → β → State) (s : State)
    (h : ∀ s x, (f s x).sys.por = s.sys.por) : (l.foldl f s).sys.por = s.sys.por := by
  induction l generalizing s with
  | nil => rfl
  | cons a l ih => rw [List.foldl, ih, h]

@[simp ↓] theorem foldl_sys_mapOn {β : Type} (l : List β) (f : State → β → State) (s : State)
    (h : ∀ s x, (f s x).sys.mapOn = s.sys.mapOn) : (l.foldl f s).sys.mapOn = s.sys.mapOn := by
  induction l generalizing s with
  | nil => rfl
  | cons a l ih => rw [List.foldl, ih, h]

@[simp ↓] theorem foldl_fst_now {α β : Type} (l : List β) (f : State × α → β → State × α) (r : State × α)
    (h : ∀ r x, (f r x).1.now = r.1.now) : (l.foldl f r).1.now = r.1.now := by
  induction l generalizing r with
  | nil => rfl
  | cons a l ih => rw [List.foldl, ih, h]

@[simp ↓] theorem foldl_fst_pending {α β : Type} (l : List β) (f : State × α → β → State × α) (r : State × α)
    (h : ∀ r x, (f r x).1.pending = r.1.pending) : (l.foldl f r).1.pending = r.1.pending := by
  induction l generalizing r with
  | nil => rfl
  | cons a l ih => rw [List.foldl, ih, h]

@[simp ↓] theorem foldl_fst_regs0 {α β : Type} (l : List β) (f : State × α → β → State × α) (r : State × α)
    (h : ∀ r x, (f r x).1.regs0 = r.1.regs0) : (l.foldl f r).1.regs0 = r.1.regs0 := by
  induction l generalizing r with
  | nil => rfl
  | cons a l ih => rw [List.foldl, ih, h]

@[simp ↓] theorem foldl_fst_freeCtr {α β : Type} (l : List β) (f : State × α → β → State × α) (r : State × α)
    (h : ∀ r x, (f r x).1.freeCtr = r.1.freeCtr) : (l.foldl f r).1.freeCtr = r.1.freeCtr := by
  induction l generalizing r with
  | nil => rfl
  | cons a l ih => rw [List.foldl, ih, h]

@[simp ↓] theorem foldl_fst_mode {α β : Type} (l : List β) (f : State × α → β → State × α) (r : State × α)
    (h : ∀ r x, (f r x).1.mode = r.1.mode) : (l.foldl f r).1.mode = r.1.mode := by
  induction l generalizing r with
  | nil => rfl
  | cons a l ih => rw [List.foldl, ih, h]

@[simp ↓] theorem foldl_fst_mram {α β : Type} (l : List β) (f : State × α → β → State × α) (r : State × α)
    (h : ∀ r x, (f r x).1.mram = r.1.mram) : (l.foldl f r).1.mram = r.1.mram := by
  induction l generalizing r with
  | nil => rfl
  | cons a l ih => rw [List.foldl, ih, h]

@[simp ↓] theorem foldl_fst_sys {α β : Type} (l : List β) (f : State × α → β → State × α) (r : State × α)
    (h : ∀ r x, (f r x).1.sys = r.1.sys) : (l.foldl f r).1.sys = r.1.sys := by
  induction l generalizing r with
  | nil => rfl
  | cons a l ih => rw [List.foldl, ih, h]

@[simp ↓] theorem foldl_fst_evt {α β : Type} (l : List β) (f : State × α → β → State × α) (r : State × α)
    (h : ∀ r x, (f r x).1.evt = r.1.evt) : (l.foldl f r).1.evt = r.1.evt := by
  induction l generalizing r with
  | nil => rfl
  | cons a l ih => rw [List.foldl, ih, h]

@[simp ↓] theorem foldl_fst_ana {α β : Type} (l : List β) (f : State × α → β → State × α) (r : State × α)
    (h : ∀ r x, (f r x).1.ana = r.1.ana) : (l.foldl f r).1.ana = r.1.ana := by
  induction l generalizing r with
  | nil => rfl
  | cons a l ih => rw [List.foldl, ih, h]

@[simp ↓] theorem foldl_fst_aux {α β : Type} (l : List β) (f : State × α → β → State × α) (r : State × α)
    (h : ∀ r x, (f r x).1.aux = r.1.aux) : (l.foldl f r).1.aux = r.1.aux := by
  induction l generalizing r with
  | nil => rfl
  | cons a l ih => rw [List.foldl, ih, h]

@[simp ↓] theorem foldl_fst_flt {α β : Type} (l : List β) (f : State × α → β → State × α) (r : State × α)
    (h : ∀ r x, (f r x).1.flt = r.1.flt) : (l.foldl f r).1.flt = r.1.flt := by
  induction l generalizing r with
  | nil => rfl
  | cons a l ih => rw [List.foldl, ih, h]

@[simp ↓] theorem foldl_fst_tim {α β : Type} (l : List β) (f : State × α → β → State × α) (r : State × α)
    (h : ∀ r x, (f r x).1.tim = r.1.tim) : (l.foldl f r).1.tim = r.1.tim := by
  induction l generalizing r with
  | nil => rfl
  | cons a l ih => rw [List.foldl, ih, h]

@[simp ↓] theorem foldl_fst_net {α β : Type} (l : List β) (f : State × α → β → State × α) (r : State × α)
    (h : ∀ r x, (f r x).1.net = r.1.net) : (l.foldl f r).1.net = r.1.net := by
  induction l generalizing r with
  | nil => rfl
  | cons a l ih => rw [List.foldl, ih, h]

@[simp ↓] theorem foldl_fst_prt {α β : Type} (l : List β) (f : State × α → β → State × α) (r : State × α)
    (h : ∀ r x, (f r x).1.prt = r.1.prt) : (l.foldl f r).1.prt = r.1.prt := by
  induction l generalizing r with
  | nil => rfl
  | cons a l ih => rw [List.foldl, ih, h]

@[simp ↓] theorem foldl_fst_trp {α β : Type} (l : List β) (f : State × α → β → State × α) (r : State × α)
    (h : ∀ r x, (f r x).1.trp = r.1.trp) : (l.foldl f r).1.trp = r.1.trp := by
  induction l generalizing r with
  | nil => rfl
  | cons a l ih => rw [List.foldl, ih, h]

@[simp ↓] theorem foldl_fst_pod {α β : Type} (l : List β) (f : State × α → β → State × α) (r : State × α)
    (h : ∀ r x, (f r x).1.pod = r.1.pod) : (l.foldl f r).1.pod = r.1.pod := by
  induction l generalizing r with
  | nil => rfl
  | cons a l ih => rw [List.foldl, ih, h]

@[simp ↓] theorem foldl_fst_lgc {α β : Type} (l : List β) (f : State × α → β → State × α) (r : State × α)
    (h : ∀ r x, (f r x).1.lgc = r.1.lgc) : (l.foldl f r).1.lgc = r.1.lgc := by
  induction l generalizing r with
  | nil => rfl
  | cons a l ih => rw [List.foldl, ih, h]

@[simp ↓] theorem foldl_fst_gsv {α β : Type} (l : List β) (f : State × α → β → State × α) (r : State × α)
    (h : ∀ r x, (f r x).1.gsv = r.1.gsv) : (l.foldl f r).1.gsv = r.1.gsv := by
  induction l generalizing r with
  | nil => rfl
  | cons a l ih => rw [List.foldl, ih, h]

@[simp ↓] theorem foldl_fst_tph {α β : Type} (l : List β) (f : State × α → β → State × α) (r : State × α)
    (h : ∀ r x, (f r x).1.tph = r.1.tph) : (l.foldl f r).1.tph = r.1.tph := by
  induction l generalizing r with
  | nil => rfl
  | cons a l ih => rw [List.foldl, ih, h]

@[simp ↓] theorem foldl_fst_oz {α β : Type} (l : List β) (f : State × α → β → State × α) (r : State × α)
    (h : ∀ r x, (f r x).1.oz = r.1.oz) : (l.foldl f r).1.oz = r.1.oz := by
  induction l generalizing r with
  | nil => rfl
  | cons a l ih => rw [List.foldl, ih, h]

@[simp ↓] theorem foldl_fst_sec {α β : Type} (l : List β) (f : State × α → β → State × α) (r : State × α)
    (h : ∀ r x, (f r x).1.sec = r.1.sec) : (l.foldl f r).1.sec = r.1.sec := by
  induction l generalizing r with
  | nil => rfl
  | cons a l ih => rw [List.foldl, ih, h]

@[simp ↓] theorem foldl_fst_cmd {α β : Type} (l : List β) (f : State × α → β → State × α) (r : State × α)
    (h : ∀ r x, (f r x).1.cmd = r.1.cmd) : (l.foldl f r).1.cmd = r.1.cmd := by
  induction l generalizing r with
  | nil => rfl
  | cons a l ih => rw [List.foldl, ih, h]

@[simp ↓] theorem foldl_fst_regs {α β : Type} (l : List β) (f : State × α → β → State × α) (r : State × α)
    (h : ∀ r x, (f r x).1.regs = r.1.regs) : (l.foldl f r).1.regs = r.1.regs := by
  induction l generalizing r with
  | nil => rfl
  | cons a l ih => rw [List.foldl, ih, h]

@[simp ↓] theorem foldl_fst_mram_keyCnt {α β : Type} (l : List β) (f : State × α → β → State × α) (r : State × α)
    (h : ∀ r x, (f r x).1.mram.keyCnt = r.1.mram.keyCnt) : (l.foldl f r).1.mram.keyCnt = r.1.mram.keyCnt := by
  induction l generalizing r with
  | nil => rfl
  | cons a l ih => rw [List.foldl, ih, h]

@[simp ↓] theorem foldl_fst_mram_boot {α β : Type} (l : List β) (f : State × α → β → State × α) (r : State × α)
    (h : ∀ r x, (f r x).1.mram.boot = r.1.mram.boot) : (l.foldl f r).1.mram.boot = r.1.mram.boot := by
  induction l generalizing r with
  | nil => rfl
  | cons a l ih => rw [List.foldl, ih, h]

@[simp ↓] theorem foldl_fst_sec_otp {α β : Type} (l : List β) (f : State × α → β → State × α) (r : State × α)
    (h : ∀ r x, (f r x).1.sec.otp = r.1.sec.otp) : (l.foldl f r).1.sec.otp = r.1.sec.otp := by
  induction l generalizing r with
  | nil => rfl
  | cons a l ih => rw [List.foldl, ih, h]

@[simp ↓] theorem foldl_fst_sec_keys {α β : Type} (l : List β) (f : State × α → β → State × α) (r : State × α)
    (h : ∀ r x, (f r x).1.sec.keys = r.1.sec.keys) : (l.foldl f r).1.sec.keys = r.1.sec.keys := by
  induction l generalizing r with
  | nil => rfl
  | cons a l ih => rw [List.foldl, ih, h]

@[simp ↓] theorem foldl_fst_cmd_run {α β : Type} (l : List β) (f : State × α → β → State × α) (r : State × α)
    (h : ∀ r x, (f r x).1.cmd.run = r.1.cmd.run) : (l.foldl f r).1.cmd.run = r.1.cmd.run := by
  induction l generalizing r with
  | nil => rfl
  | cons a l ih => rw [List.foldl, ih, h]

@[simp ↓] theorem foldl_fst_cmd_svc {α β : Type} (l : List β) (f : State × α → β → State × α) (r : State × α)
    (h : ∀ r x, (f r x).1.cmd.svc = r.1.cmd.svc) : (l.foldl f r).1.cmd.svc = r.1.cmd.svc := by
  induction l generalizing r with
  | nil => rfl
  | cons a l ih => rw [List.foldl, ih, h]

@[simp ↓] theorem foldl_fst_sys_straps {α β : Type} (l : List β) (f : State × α → β → State × α) (r : State × α)
    (h : ∀ r x, (f r x).1.sys.straps = r.1.sys.straps) : (l.foldl f r).1.sys.straps = r.1.sys.straps := by
  induction l generalizing r with
  | nil => rfl
  | cons a l ih => rw [List.foldl, ih, h]

@[simp ↓] theorem foldl_fst_sys_por {α β : Type} (l : List β) (f : State × α → β → State × α) (r : State × α)
    (h : ∀ r x, (f r x).1.sys.por = r.1.sys.por) : (l.foldl f r).1.sys.por = r.1.sys.por := by
  induction l generalizing r with
  | nil => rfl
  | cons a l ih => rw [List.foldl, ih, h]

@[simp ↓] theorem foldl_fst_sys_mapOn {α β : Type} (l : List β) (f : State × α → β → State × α) (r : State × α)
    (h : ∀ r x, (f r x).1.sys.mapOn = r.1.sys.mapOn) : (l.foldl f r).1.sys.mapOn = r.1.sys.mapOn := by
  induction l generalizing r with
  | nil => rfl
  | cons a l ih => rw [List.foldl, ih, h]

end Sys2Proof.Machine
end

