-- ==== Sys2Proof/Laws/FrameOps.lean ====
section
/-!
SUPPORT. What the operations of Machine/Ops.lean leave as it was: one lemma per operation, over the parts of the state.
-/
set_option linter.all false
set_option Elab.async false
namespace Sys2Proof.Machine
theorem State.wr_frame (s : State) (a : ℕ) (w : Word) :
    (State.wr s a w).now = s.now ∧ (State.wr s a w).pending = s.pending ∧ (State.wr s a w).regs0 = s.regs0 ∧
    (State.wr s a w).freeCtr = s.freeCtr ∧ (State.wr s a w).mode = s.mode ∧ (State.wr s a w).mram = s.mram ∧
    (State.wr s a w).sys = s.sys ∧ (State.wr s a w).evt = s.evt ∧ (State.wr s a w).ana = s.ana ∧
    (State.wr s a w).aux = s.aux ∧ (State.wr s a w).flt = s.flt ∧ (State.wr s a w).tim = s.tim ∧
    (State.wr s a w).net = s.net ∧ (State.wr s a w).prt = s.prt ∧ (State.wr s a w).trp = s.trp ∧
    (State.wr s a w).pod = s.pod ∧ (State.wr s a w).lgc = s.lgc ∧ (State.wr s a w).gsv = s.gsv ∧
    (State.wr s a w).tph = s.tph ∧ (State.wr s a w).oz = s.oz ∧ (State.wr s a w).sec = s.sec ∧
    (State.wr s a w).cmd = s.cmd := by
  simp [State.wr]

theorem State.setF_frame (s : State) (f : Field) (v : ℕ) :
    (State.setF s f v).now = s.now ∧ (State.setF s f v).pending = s.pending ∧ (State.setF s f v).regs0 = s.regs0 ∧
    (State.setF s f v).freeCtr = s.freeCtr ∧ (State.setF s f v).mode = s.mode ∧ (State.setF s f v).mram = s.mram ∧
    (State.setF s f v).sys = s.sys ∧ (State.setF s f v).evt = s.evt ∧ (State.setF s f v).ana = s.ana ∧
    (State.setF s f v).aux = s.aux ∧ (State.setF s f v).flt = s.flt ∧ (State.setF s f v).tim = s.tim ∧
    (State.setF s f v).net = s.net ∧ (State.setF s f v).prt = s.prt ∧ (State.setF s f v).trp = s.trp ∧
    (State.setF s f v).pod = s.pod ∧ (State.setF s f v).lgc = s.lgc ∧ (State.setF s f v).gsv = s.gsv ∧
    (State.setF s f v).tph = s.tph ∧ (State.setF s f v).oz = s.oz ∧ (State.setF s f v).sec = s.sec ∧
    (State.setF s f v).cmd = s.cmd := by
  have hf1 := @State.wr_frame
  simp [↓hf1, State.setF]

theorem State.setFlag_frame (s : State) (f : Field) (b : Bool) :
    (State.setFlag s f b).now = s.now ∧ (State.setFlag s f b).pending = s.pending ∧
    (State.setFlag s f b).regs0 = s.regs0 ∧ (State.setFlag s f b).freeCtr = s.freeCtr ∧
    (State.setFlag s f b).mode = s.mode ∧ (State.setFlag s f b).mram = s.mram ∧ (State.setFlag s f b).sys = s.sys ∧
    (State.setFlag s f b).evt = s.evt ∧ (State.setFlag s f b).ana = s.ana ∧ (State.setFlag s f b).aux = s.aux ∧
    (State.setFlag s f b).flt = s.flt ∧ (State.setFlag s f b).tim = s.tim ∧ (State.setFlag s f b).net = s.net ∧
    (State.setFlag s f b).prt = s.prt ∧ (State.setFlag s f b).trp = s.trp ∧ (State.setFlag s f b).pod = s.pod ∧
    (State.setFlag s f b).lgc = s.lgc ∧ (State.setFlag s f b).gsv = s.gsv ∧ (State.setFlag s f b).tph = s.tph ∧
    (State.setFlag s f b).oz = s.oz ∧ (State.setFlag s f b).sec = s.sec ∧ (State.setFlag s f b).cmd = s.cmd := by
  have hf1 := @State.setF_frame
  simp [↓hf1, State.setFlag]

theorem State.setI_frame (s : State) (f : Field) (v : ℤ) :
    (State.setI s f v).now = s.now ∧ (State.setI s f v).pending = s.pending ∧ (State.setI s f v).regs0 = s.regs0 ∧
    (State.setI s f v).freeCtr = s.freeCtr ∧ (State.setI s f v).mode = s.mode ∧ (State.setI s f v).mram = s.mram ∧
    (State.setI s f v).sys = s.sys ∧ (State.setI s f v).evt = s.evt ∧ (State.setI s f v).ana = s.ana ∧
    (State.setI s f v).aux = s.aux ∧ (State.setI s f v).flt = s.flt ∧ (State.setI s f v).tim = s.tim ∧
    (State.setI s f v).net = s.net ∧ (State.setI s f v).prt = s.prt ∧ (State.setI s f v).trp = s.trp ∧
    (State.setI s f v).pod = s.pod ∧ (State.setI s f v).lgc = s.lgc ∧ (State.setI s f v).gsv = s.gsv ∧
    (State.setI s f v).tph = s.tph ∧ (State.setI s f v).oz = s.oz ∧ (State.setI s f v).sec = s.sec ∧
    (State.setI s f v).cmd = s.cmd := by
  have hf1 := @State.setF_frame
  simp [↓hf1, State.setI]

theorem State.incSat_frame (s : State) (f : Field) :
    (State.incSat s f).now = s.now ∧ (State.incSat s f).pending = s.pending ∧ (State.incSat s f).regs0 = s.regs0 ∧
    (State.incSat s f).freeCtr = s.freeCtr ∧ (State.incSat s f).mode = s.mode ∧ (State.incSat s f).mram = s.mram ∧
    (State.incSat s f).sys = s.sys ∧ (State.incSat s f).evt = s.evt ∧ (State.incSat s f).ana = s.ana ∧
    (State.incSat s f).aux = s.aux ∧ (State.incSat s f).flt = s.flt ∧ (State.incSat s f).tim = s.tim ∧
    (State.incSat s f).net = s.net ∧ (State.incSat s f).prt = s.prt ∧ (State.incSat s f).trp = s.trp ∧
    (State.incSat s f).pod = s.pod ∧ (State.incSat s f).lgc = s.lgc ∧ (State.incSat s f).gsv = s.gsv ∧
    (State.incSat s f).tph = s.tph ∧ (State.incSat s f).oz = s.oz ∧ (State.incSat s f).sec = s.sec ∧
    (State.incSat s f).cmd = s.cmd := by
  have hf1 := @State.setF_frame
  simp [↓hf1, State.incSat]

theorem State.addSat_frame (s : State) (f : Field) (n : ℕ) :
    (State.addSat s f n).now = s.now ∧ (State.addSat s f n).pending = s.pending ∧
    (State.addSat s f n).regs0 = s.regs0 ∧ (State.addSat s f n).freeCtr = s.freeCtr ∧
    (State.addSat s f n).mode = s.mode ∧ (State.addSat s f n).mram = s.mram ∧ (State.addSat s f n).sys = s.sys ∧
    (State.addSat s f n).evt = s.evt ∧ (State.addSat s f n).ana = s.ana ∧ (State.addSat s f n).aux = s.aux ∧
    (State.addSat s f n).flt = s.flt ∧ (State.addSat s f n).tim = s.tim ∧ (State.addSat s f n).net = s.net ∧
    (State.addSat s f n).prt = s.prt ∧ (State.addSat s f n).trp = s.trp ∧ (State.addSat s f n).pod = s.pod ∧
    (State.addSat s f n).lgc = s.lgc ∧ (State.addSat s f n).gsv = s.gsv ∧ (State.addSat s f n).tph = s.tph ∧
    (State.addSat s f n).oz = s.oz ∧ (State.addSat s f n).sec = s.sec ∧ (State.addSat s f n).cmd = s.cmd := by
  have hf1 := @State.setF_frame
  simp [↓hf1, State.addSat]

theorem State.incWrap_frame (s : State) (f : Field) :
    (State.incWrap s f).now = s.now ∧ (State.incWrap s f).pending = s.pending ∧ (State.incWrap s f).regs0 = s.regs0 ∧
    (State.incWrap s f).freeCtr = s.freeCtr ∧ (State.incWrap s f).mode = s.mode ∧ (State.incWrap s f).mram = s.mram ∧
    (State.incWrap s f).sys = s.sys ∧ (State.incWrap s f).evt = s.evt ∧ (State.incWrap s f).ana = s.ana ∧
    (State.incWrap s f).aux = s.aux ∧ (State.incWrap s f).flt = s.flt ∧ (State.incWrap s f).tim = s.tim ∧
    (State.incWrap s f).net = s.net ∧ (State.incWrap s f).prt = s.prt ∧ (State.incWrap s f).trp = s.trp ∧
    (State.incWrap s f).pod = s.pod ∧ (State.incWrap s f).lgc = s.lgc ∧ (State.incWrap s f).gsv = s.gsv ∧
    (State.incWrap s f).tph = s.tph ∧ (State.incWrap s f).oz = s.oz ∧ (State.incWrap s f).sec = s.sec ∧
    (State.incWrap s f).cmd = s.cmd := by
  have hf1 := @State.setF_frame
  simp [↓hf1, State.incWrap]

theorem State.at_frame (s : State) (t : ℕ) :
    (State.at s t).pending = s.pending ∧ (State.at s t).freeCtr = s.freeCtr ∧ (State.at s t).mode = s.mode ∧
    (State.at s t).mram = s.mram ∧ (State.at s t).sys = s.sys ∧ (State.at s t).evt = s.evt ∧
    (State.at s t).ana = s.ana ∧ (State.at s t).aux = s.aux ∧ (State.at s t).flt = s.flt ∧
    (State.at s t).tim = s.tim ∧ (State.at s t).net = s.net ∧ (State.at s t).prt = s.prt ∧
    (State.at s t).trp = s.trp ∧ (State.at s t).pod = s.pod ∧ (State.at s t).lgc = s.lgc ∧
    (State.at s t).gsv = s.gsv ∧ (State.at s t).tph = s.tph ∧ (State.at s t).oz = s.oz ∧ (State.at s t).sec = s.sec ∧
    (State.at s t).cmd = s.cmd ∧ (State.at s t).regs = s.regs := by
  simp [State.at]

theorem State.bumpFree_frame (s : State) :
    (State.bumpFree s).now = s.now ∧ (State.bumpFree s).pending = s.pending ∧ (State.bumpFree s).regs0 = s.regs0 ∧
    (State.bumpFree s).mode = s.mode ∧ (State.bumpFree s).mram = s.mram ∧ (State.bumpFree s).sys = s.sys ∧
    (State.bumpFree s).evt = s.evt ∧ (State.bumpFree s).ana = s.ana ∧ (State.bumpFree s).aux = s.aux ∧
    (State.bumpFree s).flt = s.flt ∧ (State.bumpFree s).tim = s.tim ∧ (State.bumpFree s).net = s.net ∧
    (State.bumpFree s).prt = s.prt ∧ (State.bumpFree s).trp = s.trp ∧ (State.bumpFree s).pod = s.pod ∧
    (State.bumpFree s).lgc = s.lgc ∧ (State.bumpFree s).gsv = s.gsv ∧ (State.bumpFree s).tph = s.tph ∧
    (State.bumpFree s).oz = s.oz ∧ (State.bumpFree s).sec = s.sec ∧ (State.bumpFree s).cmd = s.cmd ∧
    (State.bumpFree s).regs = s.regs := by
  simp [State.bumpFree]

theorem State.logPush_frame (s : State) (e : EvtEntry) :
    (State.logPush s e).now = s.now ∧ (State.logPush s e).pending = s.pending ∧ (State.logPush s e).regs0 = s.regs0 ∧
    (State.logPush s e).freeCtr = s.freeCtr ∧ (State.logPush s e).mode = s.mode ∧ (State.logPush s e).mram = s.mram ∧
    (State.logPush s e).sys = s.sys ∧ (State.logPush s e).ana = s.ana ∧ (State.logPush s e).aux = s.aux ∧
    (State.logPush s e).flt = s.flt ∧ (State.logPush s e).tim = s.tim ∧ (State.logPush s e).net = s.net ∧
    (State.logPush s e).prt = s.prt ∧ (State.logPush s e).trp = s.trp ∧ (State.logPush s e).pod = s.pod ∧
    (State.logPush s e).lgc = s.lgc ∧ (State.logPush s e).gsv = s.gsv ∧ (State.logPush s e).tph = s.tph ∧
    (State.logPush s e).oz = s.oz ∧ (State.logPush s e).sec = s.sec ∧ (State.logPush s e).cmd = s.cmd := by
  have hfite := @State.ite_frame
  have hf1 := @State.incSat_frame
  simp [↓hfite, ↓hf1, State.logPush]

theorem State.logPut_frame (s : State) (e : EvtEntry) :
    (State.logPut s e).now = s.now ∧ (State.logPut s e).pending = s.pending ∧ (State.logPut s e).regs0 = s.regs0 ∧
    (State.logPut s e).freeCtr = s.freeCtr ∧ (State.logPut s e).mode = s.mode ∧
    (State.logPut s e).mram.keyCnt = s.mram.keyCnt ∧ (State.logPut s e).mram.boot = s.mram.boot ∧
    (State.logPut s e).sys = s.sys ∧ (State.logPut s e).evt = s.evt ∧ (State.logPut s e).ana = s.ana ∧
    (State.logPut s e).aux = s.aux ∧ (State.logPut s e).flt = s.flt ∧ (State.logPut s e).tim = s.tim ∧
    (State.logPut s e).net = s.net ∧ (State.logPut s e).prt = s.prt ∧ (State.logPut s e).trp = s.trp ∧
    (State.logPut s e).pod = s.pod ∧ (State.logPut s e).lgc = s.lgc ∧ (State.logPut s e).gsv = s.gsv ∧
    (State.logPut s e).tph = s.tph ∧ (State.logPut s e).oz = s.oz ∧ (State.logPut s e).sec = s.sec ∧
    (State.logPut s e).cmd = s.cmd ∧ (State.logPut s e).regs = s.regs := by
  have hfite := @State.ite_frame
  simp [↓hfite, State.logPut]

theorem State.logFlush_frame (s : State) :
    (State.logFlush s).now = s.now ∧ (State.logFlush s).pending = s.pending ∧ (State.logFlush s).regs0 = s.regs0 ∧
    (State.logFlush s).freeCtr = s.freeCtr ∧ (State.logFlush s).mode = s.mode ∧
    (State.logFlush s).mram.keyCnt = s.mram.keyCnt ∧ (State.logFlush s).mram.boot = s.mram.boot ∧
    (State.logFlush s).sys = s.sys ∧ (State.logFlush s).evt = s.evt ∧ (State.logFlush s).ana = s.ana ∧
    (State.logFlush s).aux = s.aux ∧ (State.logFlush s).flt = s.flt ∧ (State.logFlush s).tim = s.tim ∧
    (State.logFlush s).net = s.net ∧ (State.logFlush s).prt = s.prt ∧ (State.logFlush s).trp = s.trp ∧
    (State.logFlush s).pod = s.pod ∧ (State.logFlush s).lgc = s.lgc ∧ (State.logFlush s).gsv = s.gsv ∧
    (State.logFlush s).tph = s.tph ∧ (State.logFlush s).oz = s.oz ∧ (State.logFlush s).sec = s.sec ∧
    (State.logFlush s).cmd = s.cmd ∧ (State.logFlush s).regs = s.regs := by
  have hfite := @State.ite_frame
  have hf1 := @State.logPut_frame
  unfold State.logFlush
  (repeat' split) <;> first | (simp [↓hfite, ↓hf1]; done) | exact ⟨foldl_now _ _ _ (fun s x => by (try dsimp only); (repeat' split) <;> simp [↓hfite, ↓hf1]), foldl_pending _ _ _ (fun s x => by (try dsimp only); (repeat' split) <;> simp [↓hfite, ↓hf1]), foldl_freeCtr _ _ _ (fun s x => by (try dsimp only); (repeat' split) <;> simp [↓hfite, ↓hf1]), foldl_mode _ _ _ (fun s x => by (try dsimp only); (repeat' split) <;> simp [↓hfite, ↓hf1]), foldl_mram_keyCnt _ _ _ (fun s x => by (try dsimp only); (repeat' split) <;> simp [↓hfite, ↓hf1]), foldl_mram_boot _ _ _ (fun s x => by (try dsimp only); (repeat' split) <;> simp [↓hfite, ↓hf1]), foldl_sys _ _ _ (fun s x => by (try dsimp only); (repeat' split) <;> simp [↓hfite, ↓hf1]), foldl_evt _ _ _ (fun s x => by (try dsimp only); (repeat' split) <;> simp [↓hfite, ↓hf1]), foldl_ana _ _ _ (fun s x => by (try dsimp only); (repeat' split) <;> simp [↓hfite, ↓hf1]), foldl_aux _ _ _ (fun s x => by (try dsimp only); (repeat' split) <;> simp [↓hfite, ↓hf1]), foldl_flt _ _ _ (fun s x => by (try dsimp only); (repeat' split) <;> simp [↓hfite, ↓hf1]), foldl_tim _ _ _ (fun s x => by (try dsimp only); (repeat' split) <;> simp [↓hfite, ↓hf1]), foldl_net _ _ _ (fun s x => by (try dsimp only); (repeat' split) <;> simp [↓hfite, ↓hf1]), foldl_prt _ _ _ (fun s x => by (try dsimp only); (repeat' split) <;> simp [↓hfite, ↓hf1]), foldl_trp _ _ _ (fun s x => by (try dsimp only); (repeat' split) <;> simp [↓hfite, ↓hf1]), foldl_pod _ _ _ (fun s x => by (try dsimp only); (repeat' split) <;> simp [↓hfite, ↓hf1]), foldl_lgc _ _ _ (fun s x => by (try dsimp only); (repeat' split) <;> simp [↓hfite, ↓hf1]), foldl_gsv _ _ _ (fun s x => by (try dsimp only); (repeat' split) <;> simp [↓hfite, ↓hf1]), foldl_tph _ _ _ (fun s x => by (try dsimp only); (repeat' split) <;> simp [↓hfite, ↓hf1]), foldl_oz _ _ _ (fun s x => by (try dsimp only); (repeat' split) <;> simp [↓hfite, ↓hf1]), foldl_sec _ _ _ (fun s x => by (try dsimp only); (repeat' split) <;> simp [↓hfite, ↓hf1]), foldl_cmd _ _ _ (fun s x => by (try dsimp only); (repeat' split) <;> simp [↓hfite, ↓hf1]), foldl_regs _ _ _ (fun s x => by (try dsimp only); (repeat' split) <;> simp [↓hfite, ↓hf1])⟩

theorem State.setQueue_frame (s : State) (q : ℕ) (l : List EvtEntry) :
    (State.setQueue s q l).now = s.now ∧ (State.setQueue s q l).pending = s.pending ∧
    (State.setQueue s q l).regs0 = s.regs0 ∧ (State.setQueue s q l).freeCtr = s.freeCtr ∧
    (State.setQueue s q l).mode = s.mode ∧ (State.setQueue s q l).mram = s.mram ∧
    (State.setQueue s q l).sys = s.sys ∧ (State.setQueue s q l).ana = s.ana ∧ (State.setQueue s q l).aux = s.aux ∧
    (State.setQueue s q l).flt = s.flt ∧ (State.setQueue s q l).tim = s.tim ∧ (State.setQueue s q l).net = s.net ∧
    (State.setQueue s q l).prt = s.prt ∧ (State.setQueue s q l).trp = s.trp ∧ (State.setQueue s q l).pod = s.pod ∧
    (State.setQueue s q l).lgc = s.lgc ∧ (State.setQueue s q l).gsv = s.gsv ∧ (State.setQueue s q l).tph = s.tph ∧
    (State.setQueue s q l).oz = s.oz ∧ (State.setQueue s q l).sec = s.sec ∧ (State.setQueue s q l).cmd = s.cmd ∧
    (State.setQueue s q l).regs = s.regs := by
  have hfite := @State.ite_frame
  simp [↓hfite, State.setQueue]

theorem State.seen_frame (s : State) (src : ℕ) :
    (State.seen s src).now = s.now ∧ (State.seen s src).pending = s.pending ∧ (State.seen s src).regs0 = s.regs0 ∧
    (State.seen s src).freeCtr = s.freeCtr ∧ (State.seen s src).mode = s.mode ∧ (State.seen s src).mram = s.mram ∧
    (State.seen s src).sys = s.sys ∧ (State.seen s src).evt = s.evt ∧ (State.seen s src).ana = s.ana ∧
    (State.seen s src).aux = s.aux ∧ (State.seen s src).flt = s.flt ∧ (State.seen s src).tim = s.tim ∧
    (State.seen s src).net = s.net ∧ (State.seen s src).prt = s.prt ∧ (State.seen s src).trp = s.trp ∧
    (State.seen s src).pod = s.pod ∧ (State.seen s src).lgc = s.lgc ∧ (State.seen s src).gsv = s.gsv ∧
    (State.seen s src).tph = s.tph ∧ (State.seen s src).oz = s.oz ∧ (State.seen s src).sec = s.sec ∧
    (State.seen s src).cmd = s.cmd := by
  have hf1 := @State.setF_frame
  simp [↓hf1, State.seen]

theorem State.enqueue_frame (s : State) (q : ℕ) (e : EvtEntry) :
    (State.enqueue s q e).now = s.now ∧ (State.enqueue s q e).pending = s.pending ∧
    (State.enqueue s q e).regs0 = s.regs0 ∧ (State.enqueue s q e).freeCtr = s.freeCtr ∧
    (State.enqueue s q e).mode = s.mode ∧ (State.enqueue s q e).mram.keyCnt = s.mram.keyCnt ∧
    (State.enqueue s q e).mram.boot = s.mram.boot ∧ (State.enqueue s q e).sys = s.sys ∧
    (State.enqueue s q e).ana = s.ana ∧ (State.enqueue s q e).aux = s.aux ∧ (State.enqueue s q e).flt = s.flt ∧
    (State.enqueue s q e).tim = s.tim ∧ (State.enqueue s q e).net = s.net ∧ (State.enqueue s q e).prt = s.prt ∧
    (State.enqueue s q e).trp = s.trp ∧ (State.enqueue s q e).pod = s.pod ∧ (State.enqueue s q e).lgc = s.lgc ∧
    (State.enqueue s q e).gsv = s.gsv ∧ (State.enqueue s q e).tph = s.tph ∧ (State.enqueue s q e).oz = s.oz ∧
    (State.enqueue s q e).sec = s.sec ∧ (State.enqueue s q e).cmd = s.cmd := by
  have hfite := @State.ite_frame
  have hf1 := @State.setQueue_frame
  have hf2 := @State.setFlag_frame
  have hf3 := @State.incSat_frame
  have hf4 := @State.logPush_frame
  have hf5 := @State.seen_frame
  simp [↓hfite, ↓hf1, ↓hf2, ↓hf3, ↓hf4, ↓hf5, State.enqueue]

theorem State.logBump_frame (s : State) (n : ℕ) :
    (State.logBump s n).now = s.now ∧ (State.logBump s n).pending = s.pending ∧ (State.logBump s n).regs0 = s.regs0 ∧
    (State.logBump s n).freeCtr = s.freeCtr ∧ (State.logBump s n).mode = s.mode ∧
    (State.logBump s n).mram.keyCnt = s.mram.keyCnt ∧ (State.logBump s n).mram.boot = s.mram.boot ∧
    (State.logBump s n).sys = s.sys ∧ (State.logBump s n).ana = s.ana ∧ (State.logBump s n).aux = s.aux ∧
    (State.logBump s n).flt = s.flt ∧ (State.logBump s n).tim = s.tim ∧ (State.logBump s n).net = s.net ∧
    (State.logBump s n).prt = s.prt ∧ (State.logBump s n).trp = s.trp ∧ (State.logBump s n).pod = s.pod ∧
    (State.logBump s n).lgc = s.lgc ∧ (State.logBump s n).gsv = s.gsv ∧ (State.logBump s n).tph = s.tph ∧
    (State.logBump s n).oz = s.oz ∧ (State.logBump s n).sec = s.sec ∧ (State.logBump s n).cmd = s.cmd ∧
    (State.logBump s n).regs = s.regs := by
  simp [State.logBump]

theorem State.orderCycle_frame (s : State) (e0 : ℕ) (src : ℕ) :
    (State.orderCycle s e0 src).now = s.now ∧ (State.orderCycle s e0 src).pending = s.pending ∧
    (State.orderCycle s e0 src).regs0 = s.regs0 ∧ (State.orderCycle s e0 src).freeCtr = s.freeCtr ∧
    (State.orderCycle s e0 src).mode = s.mode ∧ (State.orderCycle s e0 src).mram = s.mram ∧
    (State.orderCycle s e0 src).sys = s.sys ∧ (State.orderCycle s e0 src).ana = s.ana ∧
    (State.orderCycle s e0 src).aux = s.aux ∧ (State.orderCycle s e0 src).flt = s.flt ∧
    (State.orderCycle s e0 src).tim = s.tim ∧ (State.orderCycle s e0 src).net = s.net ∧
    (State.orderCycle s e0 src).prt = s.prt ∧ (State.orderCycle s e0 src).trp = s.trp ∧
    (State.orderCycle s e0 src).pod = s.pod ∧ (State.orderCycle s e0 src).lgc = s.lgc ∧
    (State.orderCycle s e0 src).gsv = s.gsv ∧ (State.orderCycle s e0 src).tph = s.tph ∧
    (State.orderCycle s e0 src).oz = s.oz ∧ (State.orderCycle s e0 src).sec = s.sec ∧
    (State.orderCycle s e0 src).cmd = s.cmd ∧ (State.orderCycle s e0 src).regs = s.regs := by
  have hfite := @State.ite_frame
  simp [↓hfite, State.orderCycle]

theorem State.addEvent_frame (s : State) (src : ℕ) (inst : ℕ) (data : ℕ) :
    (State.addEvent s src inst data).now = s.now ∧ (State.addEvent s src inst data).pending = s.pending ∧
    (State.addEvent s src inst data).regs0 = s.regs0 ∧ (State.addEvent s src inst data).freeCtr = s.freeCtr ∧
    (State.addEvent s src inst data).mode = s.mode ∧ (State.addEvent s src inst data).mram.keyCnt = s.mram.keyCnt ∧
    (State.addEvent s src inst data).mram.boot = s.mram.boot ∧ (State.addEvent s src inst data).sys = s.sys ∧
    (State.addEvent s src inst data).ana = s.ana ∧ (State.addEvent s src inst data).aux = s.aux ∧
    (State.addEvent s src inst data).flt = s.flt ∧ (State.addEvent s src inst data).tim = s.tim ∧
    (State.addEvent s src inst data).net = s.net ∧ (State.addEvent s src inst data).prt = s.prt ∧
    (State.addEvent s src inst data).trp = s.trp ∧ (State.addEvent s src inst data).pod = s.pod ∧
    (State.addEvent s src inst data).lgc = s.lgc ∧ (State.addEvent s src inst data).gsv = s.gsv ∧
    (State.addEvent s src inst data).tph = s.tph ∧ (State.addEvent s src inst data).oz = s.oz ∧
    (State.addEvent s src inst data).sec = s.sec ∧ (State.addEvent s src inst data).cmd = s.cmd := by
  have hfite := @State.ite_frame
  have hf1 := @State.incSat_frame
  have hf2 := @State.setQueue_frame
  have hf3 := @State.enqueue_frame
  have hf4 := @State.logPush_frame
  have hf5 := @State.seen_frame
  have hf6 := @State.logBump_frame
  simp [↓hfite, ↓hf1, ↓hf2, ↓hf3, ↓hf4, ↓hf5, ↓hf6, State.addEvent]
  (repeat' split) <;> simp [↓hfite, ↓hf1, ↓hf2, ↓hf3, ↓hf4, ↓hf5, ↓hf6]

theorem State.raise_frame (s : State) (src : ℕ) (inst : ℕ) (data : ℕ) :
    (State.raise s src inst data).now = s.now ∧ (State.raise s src inst data).pending = s.pending ∧
    (State.raise s src inst data).regs0 = s.regs0 ∧ (State.raise s src inst data).freeCtr = s.freeCtr ∧
    (State.raise s src inst data).mode = s.mode ∧ (State.raise s src inst data).mram.keyCnt = s.mram.keyCnt ∧
    (State.raise s src inst data).mram.boot = s.mram.boot ∧ (State.raise s src inst data).sys = s.sys ∧
    (State.raise s src inst data).ana = s.ana ∧ (State.raise s src inst data).aux = s.aux ∧
    (State.raise s src inst data).flt = s.flt ∧ (State.raise s src inst data).tim = s.tim ∧
    (State.raise s src inst data).net = s.net ∧ (State.raise s src inst data).prt = s.prt ∧
    (State.raise s src inst data).trp = s.trp ∧ (State.raise s src inst data).pod = s.pod ∧
    (State.raise s src inst data).lgc = s.lgc ∧ (State.raise s src inst data).gsv = s.gsv ∧
    (State.raise s src inst data).tph = s.tph ∧ (State.raise s src inst data).oz = s.oz ∧
    (State.raise s src inst data).sec = s.sec ∧ (State.raise s src inst data).cmd = s.cmd := by
  have hfite := @State.ite_frame
  have hf1 := @State.addEvent_frame
  have hf2 := @State.orderCycle_frame
  simp [↓hfite, ↓hf1, ↓hf2, State.raise]

theorem State.queuePre_frame (s : State) :
    (State.queuePre s).now = s.now ∧ (State.queuePre s).pending = s.pending ∧ (State.queuePre s).regs0 = s.regs0 ∧
    (State.queuePre s).freeCtr = s.freeCtr ∧ (State.queuePre s).mode = s.mode ∧
    (State.queuePre s).mram.keyCnt = s.mram.keyCnt ∧ (State.queuePre s).mram.boot = s.mram.boot ∧
    (State.queuePre s).sys = s.sys ∧ (State.queuePre s).ana = s.ana ∧ (State.queuePre s).aux = s.aux ∧
    (State.queuePre s).flt = s.flt ∧ (State.queuePre s).tim = s.tim ∧ (State.queuePre s).net = s.net ∧
    (State.queuePre s).prt = s.prt ∧ (State.queuePre s).trp = s.trp ∧ (State.queuePre s).pod = s.pod ∧
    (State.queuePre s).lgc = s.lgc ∧ (State.queuePre s).gsv = s.gsv ∧ (State.queuePre s).tph = s.tph ∧
    (State.queuePre s).oz = s.oz ∧ (State.queuePre s).sec = s.sec ∧ (State.queuePre s).cmd = s.cmd := by
  have hfite := @State.ite_frame
  have hf1 := @State.enqueue_frame
  simp [↓hfite, ↓hf1, State.queuePre]

theorem State.deny_frame (s : State) (r : Requester) (a : ℕ) (wr : Bool) :
    (State.deny s r a wr).now = s.now ∧ (State.deny s r a wr).pending = s.pending ∧
    (State.deny s r a wr).regs0 = s.regs0 ∧ (State.deny s r a wr).freeCtr = s.freeCtr ∧
    (State.deny s r a wr).mode = s.mode ∧ (State.deny s r a wr).mram.keyCnt = s.mram.keyCnt ∧
    (State.deny s r a wr).mram.boot = s.mram.boot ∧ (State.deny s r a wr).sys = s.sys ∧
    (State.deny s r a wr).ana = s.ana ∧ (State.deny s r a wr).aux = s.aux ∧ (State.deny s r a wr).flt = s.flt ∧
    (State.deny s r a wr).tim = s.tim ∧ (State.deny s r a wr).net = s.net ∧ (State.deny s r a wr).prt = s.prt ∧
    (State.deny s r a wr).trp = s.trp ∧ (State.deny s r a wr).pod = s.pod ∧ (State.deny s r a wr).lgc = s.lgc ∧
    (State.deny s r a wr).gsv = s.gsv ∧ (State.deny s r a wr).tph = s.tph ∧ (State.deny s r a wr).oz = s.oz ∧
    (State.deny s r a wr).sec = s.sec ∧ (State.deny s r a wr).cmd = s.cmd := by
  have hfite := @State.ite_frame
  have hf1 := @State.incSat_frame
  have hf2 := @State.setFlag_frame
  have hf3 := @State.setF_frame
  have hf4 := @State.raise_frame
  simp [↓hfite, ↓hf1, ↓hf2, ↓hf3, ↓hf4, State.deny]

theorem State.recordWrite_frame (s : State) (r : Requester) (a : ℕ) (st : Status) :
    (State.recordWrite s r a st).now = s.now ∧ (State.recordWrite s r a st).pending = s.pending ∧
    (State.recordWrite s r a st).regs0 = s.regs0 ∧ (State.recordWrite s r a st).freeCtr = s.freeCtr ∧
    (State.recordWrite s r a st).mode = s.mode ∧ (State.recordWrite s r a st).mram = s.mram ∧
    (State.recordWrite s r a st).sys = s.sys ∧ (State.recordWrite s r a st).evt = s.evt ∧
    (State.recordWrite s r a st).ana = s.ana ∧ (State.recordWrite s r a st).aux = s.aux ∧
    (State.recordWrite s r a st).flt = s.flt ∧ (State.recordWrite s r a st).tim = s.tim ∧
    (State.recordWrite s r a st).net = s.net ∧ (State.recordWrite s r a st).prt = s.prt ∧
    (State.recordWrite s r a st).trp = s.trp ∧ (State.recordWrite s r a st).pod = s.pod ∧
    (State.recordWrite s r a st).lgc = s.lgc ∧ (State.recordWrite s r a st).gsv = s.gsv ∧
    (State.recordWrite s r a st).tph = s.tph ∧ (State.recordWrite s r a st).oz = s.oz ∧
    (State.recordWrite s r a st).sec = s.sec ∧ (State.recordWrite s r a st).cmd = s.cmd := by
  have hfite := @State.ite_frame
  have hf1 := @State.setF_frame
  have hf2 := @State.incSat_frame
  have hf3 := @State.setFlag_frame
  simp [↓hfite, ↓hf1, ↓hf2, ↓hf3, State.recordWrite]

@[simp ↓] theorem State.hostWrite_now (s : State) (r : Requester) (a : Nat) (eff : State → Status × State)
    (h : ∀ s, (eff s).2.now = s.now) : (s.hostWrite r a eff).2.now = s.now := by
  have hf1 := @State.recordWrite_frame
  have hf2 := @State.deny_frame
  have h1 := h s
  unfold State.hostWrite
  (repeat' split) <;> simp_all

@[simp ↓] theorem State.hostWrite_pending (s : State) (r : Requester) (a : Nat) (eff : State → Status × State)
    (h : ∀ s, (eff s).2.pending = s.pending) : (s.hostWrite r a eff).2.pending = s.pending := by
  have hf1 := @State.recordWrite_frame
  have hf2 := @State.deny_frame
  have h1 := h s
  unfold State.hostWrite
  (repeat' split) <;> simp_all

@[simp ↓] theorem State.hostWrite_regs0 (s : State) (r : Requester) (a : Nat) (eff : State → Status × State)
    (h : ∀ s, (eff s).2.regs0 = s.regs0) : (s.hostWrite r a eff).2.regs0 = s.regs0 := by
  have hf1 := @State.recordWrite_frame
  have hf2 := @State.deny_frame
  have h1 := h s
  unfold State.hostWrite
  (repeat' split) <;> simp_all

@[simp ↓] theorem State.hostWrite_freeCtr (s : State) (r : Requester) (a : Nat) (eff : State → Status × State)
    (h : ∀ s, (eff s).2.freeCtr = s.freeCtr) : (s.hostWrite r a eff).2.freeCtr = s.freeCtr := by
  have hf1 := @State.recordWrite_frame
  have hf2 := @State.deny_frame
  have h1 := h s
  unfold State.hostWrite
  (repeat' split) <;> simp_all

@[simp ↓] theorem State.hostWrite_mode (s : State) (r : Requester) (a : Nat) (eff : State → Status × State)
    (h : ∀ s, (eff s).2.mode = s.mode) : (s.hostWrite r a eff).2.mode = s.mode := by
  have hf1 := @State.recordWrite_frame
  have hf2 := @State.deny_frame
  have h1 := h s
  unfold State.hostWrite
  (repeat' split) <;> simp_all

@[simp ↓] theorem State.hostWrite_sys (s : State) (r : Requester) (a : Nat) (eff : State → Status × State)
    (h : ∀ s, (eff s).2.sys = s.sys) : (s.hostWrite r a eff).2.sys = s.sys := by
  have hf1 := @State.recordWrite_frame
  have hf2 := @State.deny_frame
  have h1 := h s
  unfold State.hostWrite
  (repeat' split) <;> simp_all

@[simp ↓] theorem State.hostWrite_ana (s : State) (r : Requester) (a : Nat) (eff : State → Status × State)
    (h : ∀ s, (eff s).2.ana = s.ana) : (s.hostWrite r a eff).2.ana = s.ana := by
  have hf1 := @State.recordWrite_frame
  have hf2 := @State.deny_frame
  have h1 := h s
  unfold State.hostWrite
  (repeat' split) <;> simp_all

@[simp ↓] theorem State.hostWrite_aux (s : State) (r : Requester) (a : Nat) (eff : State → Status × State)
    (h : ∀ s, (eff s).2.aux = s.aux) : (s.hostWrite r a eff).2.aux = s.aux := by
  have hf1 := @State.recordWrite_frame
  have hf2 := @State.deny_frame
  have h1 := h s
  unfold State.hostWrite
  (repeat' split) <;> simp_all

@[simp ↓] theorem State.hostWrite_flt (s : State) (r : Requester) (a : Nat) (eff : State → Status × State)
    (h : ∀ s, (eff s).2.flt = s.flt) : (s.hostWrite r a eff).2.flt = s.flt := by
  have hf1 := @State.recordWrite_frame
  have hf2 := @State.deny_frame
  have h1 := h s
  unfold State.hostWrite
  (repeat' split) <;> simp_all

@[simp ↓] theorem State.hostWrite_tim (s : State) (r : Requester) (a : Nat) (eff : State → Status × State)
    (h : ∀ s, (eff s).2.tim = s.tim) : (s.hostWrite r a eff).2.tim = s.tim := by
  have hf1 := @State.recordWrite_frame
  have hf2 := @State.deny_frame
  have h1 := h s
  unfold State.hostWrite
  (repeat' split) <;> simp_all

@[simp ↓] theorem State.hostWrite_net (s : State) (r : Requester) (a : Nat) (eff : State → Status × State)
    (h : ∀ s, (eff s).2.net = s.net) : (s.hostWrite r a eff).2.net = s.net := by
  have hf1 := @State.recordWrite_frame
  have hf2 := @State.deny_frame
  have h1 := h s
  unfold State.hostWrite
  (repeat' split) <;> simp_all

@[simp ↓] theorem State.hostWrite_prt (s : State) (r : Requester) (a : Nat) (eff : State → Status × State)
    (h : ∀ s, (eff s).2.prt = s.prt) : (s.hostWrite r a eff).2.prt = s.prt := by
  have hf1 := @State.recordWrite_frame
  have hf2 := @State.deny_frame
  have h1 := h s
  unfold State.hostWrite
  (repeat' split) <;> simp_all

@[simp ↓] theorem State.hostWrite_trp (s : State) (r : Requester) (a : Nat) (eff : State → Status × State)
    (h : ∀ s, (eff s).2.trp = s.trp) : (s.hostWrite r a eff).2.trp = s.trp := by
  have hf1 := @State.recordWrite_frame
  have hf2 := @State.deny_frame
  have h1 := h s
  unfold State.hostWrite
  (repeat' split) <;> simp_all

@[simp ↓] theorem State.hostWrite_pod (s : State) (r : Requester) (a : Nat) (eff : State → Status × State)
    (h : ∀ s, (eff s).2.pod = s.pod) : (s.hostWrite r a eff).2.pod = s.pod := by
  have hf1 := @State.recordWrite_frame
  have hf2 := @State.deny_frame
  have h1 := h s
  unfold State.hostWrite
  (repeat' split) <;> simp_all

@[simp ↓] theorem State.hostWrite_lgc (s : State) (r : Requester) (a : Nat) (eff : State → Status × State)
    (h : ∀ s, (eff s).2.lgc = s.lgc) : (s.hostWrite r a eff).2.lgc = s.lgc := by
  have hf1 := @State.recordWrite_frame
  have hf2 := @State.deny_frame
  have h1 := h s
  unfold State.hostWrite
  (repeat' split) <;> simp_all

@[simp ↓] theorem State.hostWrite_gsv (s : State) (r : Requester) (a : Nat) (eff : State → Status × State)
    (h : ∀ s, (eff s).2.gsv = s.gsv) : (s.hostWrite r a eff).2.gsv = s.gsv := by
  have hf1 := @State.recordWrite_frame
  have hf2 := @State.deny_frame
  have h1 := h s
  unfold State.hostWrite
  (repeat' split) <;> simp_all

@[simp ↓] theorem State.hostWrite_tph (s : State) (r : Requester) (a : Nat) (eff : State → Status × State)
    (h : ∀ s, (eff s).2.tph = s.tph) : (s.hostWrite r a eff).2.tph = s.tph := by
  have hf1 := @State.recordWrite_frame
  have hf2 := @State.deny_frame
  have h1 := h s
  unfold State.hostWrite
  (repeat' split) <;> simp_all

@[simp ↓] theorem State.hostWrite_oz (s : State) (r : Requester) (a : Nat) (eff : State → Status × State)
    (h : ∀ s, (eff s).2.oz = s.oz) : (s.hostWrite r a eff).2.oz = s.oz := by
  have hf1 := @State.recordWrite_frame
  have hf2 := @State.deny_frame
  have h1 := h s
  unfold State.hostWrite
  (repeat' split) <;> simp_all

@[simp ↓] theorem State.hostWrite_sec (s : State) (r : Requester) (a : Nat) (eff : State → Status × State)
    (h : ∀ s, (eff s).2.sec = s.sec) : (s.hostWrite r a eff).2.sec = s.sec := by
  have hf1 := @State.recordWrite_frame
  have hf2 := @State.deny_frame
  have h1 := h s
  unfold State.hostWrite
  (repeat' split) <;> simp_all

@[simp ↓] theorem State.hostWrite_cmd (s : State) (r : Requester) (a : Nat) (eff : State → Status × State)
    (h : ∀ s, (eff s).2.cmd = s.cmd) : (s.hostWrite r a eff).2.cmd = s.cmd := by
  have hf1 := @State.recordWrite_frame
  have hf2 := @State.deny_frame
  have h1 := h s
  unfold State.hostWrite
  (repeat' split) <;> simp_all

@[simp ↓] theorem State.hostWrite_mram_keyCnt (s : State) (r : Requester) (a : Nat) (eff : State → Status × State)
    (h : ∀ s, (eff s).2.mram.keyCnt = s.mram.keyCnt) : (s.hostWrite r a eff).2.mram.keyCnt = s.mram.keyCnt := by
  have hf1 := @State.recordWrite_frame
  have hf2 := @State.deny_frame
  have h1 := h s
  unfold State.hostWrite
  (repeat' split) <;> simp_all

@[simp ↓] theorem State.hostWrite_mram_boot (s : State) (r : Requester) (a : Nat) (eff : State → Status × State)
    (h : ∀ s, (eff s).2.mram.boot = s.mram.boot) : (s.hostWrite r a eff).2.mram.boot = s.mram.boot := by
  have hf1 := @State.recordWrite_frame
  have hf2 := @State.deny_frame
  have h1 := h s
  unfold State.hostWrite
  (repeat' split) <;> simp_all

@[simp ↓] theorem State.hostWrite_sec_otp (s : State) (r : Requester) (a : Nat) (eff : State → Status × State)
    (h : ∀ s, (eff s).2.sec.otp = s.sec.otp) : (s.hostWrite r a eff).2.sec.otp = s.sec.otp := by
  have hf1 := @State.recordWrite_frame
  have hf2 := @State.deny_frame
  have h1 := h s
  unfold State.hostWrite
  (repeat' split) <;> simp_all

@[simp ↓] theorem State.hostWrite_sec_keys (s : State) (r : Requester) (a : Nat) (eff : State → Status × State)
    (h : ∀ s, (eff s).2.sec.keys = s.sec.keys) : (s.hostWrite r a eff).2.sec.keys = s.sec.keys := by
  have hf1 := @State.recordWrite_frame
  have hf2 := @State.deny_frame
  have h1 := h s
  unfold State.hostWrite
  (repeat' split) <;> simp_all

@[simp ↓] theorem State.hostWrite_cmd_run (s : State) (r : Requester) (a : Nat) (eff : State → Status × State)
    (h : ∀ s, (eff s).2.cmd.run = s.cmd.run) : (s.hostWrite r a eff).2.cmd.run = s.cmd.run := by
  have hf1 := @State.recordWrite_frame
  have hf2 := @State.deny_frame
  have h1 := h s
  unfold State.hostWrite
  (repeat' split) <;> simp_all

@[simp ↓] theorem State.hostWrite_cmd_svc (s : State) (r : Requester) (a : Nat) (eff : State → Status × State)
    (h : ∀ s, (eff s).2.cmd.svc = s.cmd.svc) : (s.hostWrite r a eff).2.cmd.svc = s.cmd.svc := by
  have hf1 := @State.recordWrite_frame
  have hf2 := @State.deny_frame
  have h1 := h s
  unfold State.hostWrite
  (repeat' split) <;> simp_all

@[simp ↓] theorem State.hostWrite_sys_straps (s : State) (r : Requester) (a : Nat) (eff : State → Status × State)
    (h : ∀ s, (eff s).2.sys.straps = s.sys.straps) : (s.hostWrite r a eff).2.sys.straps = s.sys.straps := by
  have hf1 := @State.recordWrite_frame
  have hf2 := @State.deny_frame
  have h1 := h s
  unfold State.hostWrite
  (repeat' split) <;> simp_all

@[simp ↓] theorem State.hostWrite_sys_por (s : State) (r : Requester) (a : Nat) (eff : State → Status × State)
    (h : ∀ s, (eff s).2.sys.por = s.sys.por) : (s.hostWrite r a eff).2.sys.por = s.sys.por := by
  have hf1 := @State.recordWrite_frame
  have hf2 := @State.deny_frame
  have h1 := h s
  unfold State.hostWrite
  (repeat' split) <;> simp_all

@[simp ↓] theorem State.hostWrite_sys_mapOn (s : State) (r : Requester) (a : Nat) (eff : State → Status × State)
    (h : ∀ s, (eff s).2.sys.mapOn = s.sys.mapOn) : (s.hostWrite r a eff).2.sys.mapOn = s.sys.mapOn := by
  have hf1 := @State.recordWrite_frame
  have hf2 := @State.deny_frame
  have h1 := h s
  unfold State.hostWrite
  (repeat' split) <;> simp_all

@[simp ↓] theorem State.hostRead_now (s : State) (r : Requester) (a : Nat) (eff : State → Nat × State)
    (h : ∀ s, (eff s).2.now = s.now) : (s.hostRead r a eff).2.now = s.now := by
  have hf1 := @State.deny_frame
  have h1 := h s
  unfold State.hostRead
  (repeat' split) <;> simp_all

@[simp ↓] theorem State.hostRead_pending (s : State) (r : Requester) (a : Nat) (eff : State → Nat × State)
    (h : ∀ s, (eff s).2.pending = s.pending) : (s.hostRead r a eff).2.pending = s.pending := by
  have hf1 := @State.deny_frame
  have h1 := h s
  unfold State.hostRead
  (repeat' split) <;> simp_all

@[simp ↓] theorem State.hostRead_regs0 (s : State) (r : Requester) (a : Nat) (eff : State → Nat × State)
    (h : ∀ s, (eff s).2.regs0 = s.regs0) : (s.hostRead r a eff).2.regs0 = s.regs0 := by
  have hf1 := @State.deny_frame
  have h1 := h s
  unfold State.hostRead
  (repeat' split) <;> simp_all

@[simp ↓] theorem State.hostRead_freeCtr (s : State) (r : Requester) (a : Nat) (eff : State → Nat × State)
    (h : ∀ s, (eff s).2.freeCtr = s.freeCtr) : (s.hostRead r a eff).2.freeCtr = s.freeCtr := by
  have hf1 := @State.deny_frame
  have h1 := h s
  unfold State.hostRead
  (repeat' split) <;> simp_all

@[simp ↓] theorem State.hostRead_mode (s : State) (r : Requester) (a : Nat) (eff : State → Nat × State)
    (h : ∀ s, (eff s).2.mode = s.mode) : (s.hostRead r a eff).2.mode = s.mode := by
  have hf1 := @State.deny_frame
  have h1 := h s
  unfold State.hostRead
  (repeat' split) <;> simp_all

@[simp ↓] theorem State.hostRead_sys (s : State) (r : Requester) (a : Nat) (eff : State → Nat × State)
    (h : ∀ s, (eff s).2.sys = s.sys) : (s.hostRead r a eff).2.sys = s.sys := by
  have hf1 := @State.deny_frame
  have h1 := h s
  unfold State.hostRead
  (repeat' split) <;> simp_all

@[simp ↓] theorem State.hostRead_ana (s : State) (r : Requester) (a : Nat) (eff : State → Nat × State)
    (h : ∀ s, (eff s).2.ana = s.ana) : (s.hostRead r a eff).2.ana = s.ana := by
  have hf1 := @State.deny_frame
  have h1 := h s
  unfold State.hostRead
  (repeat' split) <;> simp_all

@[simp ↓] theorem State.hostRead_aux (s : State) (r : Requester) (a : Nat) (eff : State → Nat × State)
    (h : ∀ s, (eff s).2.aux = s.aux) : (s.hostRead r a eff).2.aux = s.aux := by
  have hf1 := @State.deny_frame
  have h1 := h s
  unfold State.hostRead
  (repeat' split) <;> simp_all

@[simp ↓] theorem State.hostRead_flt (s : State) (r : Requester) (a : Nat) (eff : State → Nat × State)
    (h : ∀ s, (eff s).2.flt = s.flt) : (s.hostRead r a eff).2.flt = s.flt := by
  have hf1 := @State.deny_frame
  have h1 := h s
  unfold State.hostRead
  (repeat' split) <;> simp_all

@[simp ↓] theorem State.hostRead_tim (s : State) (r : Requester) (a : Nat) (eff : State → Nat × State)
    (h : ∀ s, (eff s).2.tim = s.tim) : (s.hostRead r a eff).2.tim = s.tim := by
  have hf1 := @State.deny_frame
  have h1 := h s
  unfold State.hostRead
  (repeat' split) <;> simp_all

@[simp ↓] theorem State.hostRead_net (s : State) (r : Requester) (a : Nat) (eff : State → Nat × State)
    (h : ∀ s, (eff s).2.net = s.net) : (s.hostRead r a eff).2.net = s.net := by
  have hf1 := @State.deny_frame
  have h1 := h s
  unfold State.hostRead
  (repeat' split) <;> simp_all

@[simp ↓] theorem State.hostRead_prt (s : State) (r : Requester) (a : Nat) (eff : State → Nat × State)
    (h : ∀ s, (eff s).2.prt = s.prt) : (s.hostRead r a eff).2.prt = s.prt := by
  have hf1 := @State.deny_frame
  have h1 := h s
  unfold State.hostRead
  (repeat' split) <;> simp_all

@[simp ↓] theorem State.hostRead_trp (s : State) (r : Requester) (a : Nat) (eff : State → Nat × State)
    (h : ∀ s, (eff s).2.trp = s.trp) : (s.hostRead r a eff).2.trp = s.trp := by
  have hf1 := @State.deny_frame
  have h1 := h s
  unfold State.hostRead
  (repeat' split) <;> simp_all

@[simp ↓] theorem State.hostRead_pod (s : State) (r : Requester) (a : Nat) (eff : State → Nat × State)
    (h : ∀ s, (eff s).2.pod = s.pod) : (s.hostRead r a eff).2.pod = s.pod := by
  have hf1 := @State.deny_frame
  have h1 := h s
  unfold State.hostRead
  (repeat' split) <;> simp_all

@[simp ↓] theorem State.hostRead_lgc (s : State) (r : Requester) (a : Nat) (eff : State → Nat × State)
    (h : ∀ s, (eff s).2.lgc = s.lgc) : (s.hostRead r a eff).2.lgc = s.lgc := by
  have hf1 := @State.deny_frame
  have h1 := h s
  unfold State.hostRead
  (repeat' split) <;> simp_all

@[simp ↓] theorem State.hostRead_gsv (s : State) (r : Requester) (a : Nat) (eff : State → Nat × State)
    (h : ∀ s, (eff s).2.gsv = s.gsv) : (s.hostRead r a eff).2.gsv = s.gsv := by
  have hf1 := @State.deny_frame
  have h1 := h s
  unfold State.hostRead
  (repeat' split) <;> simp_all

@[simp ↓] theorem State.hostRead_tph (s : State) (r : Requester) (a : Nat) (eff : State → Nat × State)
    (h : ∀ s, (eff s).2.tph = s.tph) : (s.hostRead r a eff).2.tph = s.tph := by
  have hf1 := @State.deny_frame
  have h1 := h s
  unfold State.hostRead
  (repeat' split) <;> simp_all

@[simp ↓] theorem State.hostRead_oz (s : State) (r : Requester) (a : Nat) (eff : State → Nat × State)
    (h : ∀ s, (eff s).2.oz = s.oz) : (s.hostRead r a eff).2.oz = s.oz := by
  have hf1 := @State.deny_frame
  have h1 := h s
  unfold State.hostRead
  (repeat' split) <;> simp_all

@[simp ↓] theorem State.hostRead_sec (s : State) (r : Requester) (a : Nat) (eff : State → Nat × State)
    (h : ∀ s, (eff s).2.sec = s.sec) : (s.hostRead r a eff).2.sec = s.sec := by
  have hf1 := @State.deny_frame
  have h1 := h s
  unfold State.hostRead
  (repeat' split) <;> simp_all

@[simp ↓] theorem State.hostRead_cmd (s : State) (r : Requester) (a : Nat) (eff : State → Nat × State)
    (h : ∀ s, (eff s).2.cmd = s.cmd) : (s.hostRead r a eff).2.cmd = s.cmd := by
  have hf1 := @State.deny_frame
  have h1 := h s
  unfold State.hostRead
  (repeat' split) <;> simp_all

@[simp ↓] theorem State.hostRead_mram_keyCnt (s : State) (r : Requester) (a : Nat) (eff : State → Nat × State)
    (h : ∀ s, (eff s).2.mram.keyCnt = s.mram.keyCnt) : (s.hostRead r a eff).2.mram.keyCnt = s.mram.keyCnt := by
  have hf1 := @State.deny_frame
  have h1 := h s
  unfold State.hostRead
  (repeat' split) <;> simp_all

@[simp ↓] theorem State.hostRead_mram_boot (s : State) (r : Requester) (a : Nat) (eff : State → Nat × State)
    (h : ∀ s, (eff s).2.mram.boot = s.mram.boot) : (s.hostRead r a eff).2.mram.boot = s.mram.boot := by
  have hf1 := @State.deny_frame
  have h1 := h s
  unfold State.hostRead
  (repeat' split) <;> simp_all

@[simp ↓] theorem State.hostRead_sec_otp (s : State) (r : Requester) (a : Nat) (eff : State → Nat × State)
    (h : ∀ s, (eff s).2.sec.otp = s.sec.otp) : (s.hostRead r a eff).2.sec.otp = s.sec.otp := by
  have hf1 := @State.deny_frame
  have h1 := h s
  unfold State.hostRead
  (repeat' split) <;> simp_all

@[simp ↓] theorem State.hostRead_sec_keys (s : State) (r : Requester) (a : Nat) (eff : State → Nat × State)
    (h : ∀ s, (eff s).2.sec.keys = s.sec.keys) : (s.hostRead r a eff).2.sec.keys = s.sec.keys := by
  have hf1 := @State.deny_frame
  have h1 := h s
  unfold State.hostRead
  (repeat' split) <;> simp_all

@[simp ↓] theorem State.hostRead_cmd_run (s : State) (r : Requester) (a : Nat) (eff : State → Nat × State)
    (h : ∀ s, (eff s).2.cmd.run = s.cmd.run) : (s.hostRead r a eff).2.cmd.run = s.cmd.run := by
  have hf1 := @State.deny_frame
  have h1 := h s
  unfold State.hostRead
  (repeat' split) <;> simp_all

@[simp ↓] theorem State.hostRead_cmd_svc (s : State) (r : Requester) (a : Nat) (eff : State → Nat × State)
    (h : ∀ s, (eff s).2.cmd.svc = s.cmd.svc) : (s.hostRead r a eff).2.cmd.svc = s.cmd.svc := by
  have hf1 := @State.deny_frame
  have h1 := h s
  unfold State.hostRead
  (repeat' split) <;> simp_all

@[simp ↓] theorem State.hostRead_sys_straps (s : State) (r : Requester) (a : Nat) (eff : State → Nat × State)
    (h : ∀ s, (eff s).2.sys.straps = s.sys.straps) : (s.hostRead r a eff).2.sys.straps = s.sys.straps := by
  have hf1 := @State.deny_frame
  have h1 := h s
  unfold State.hostRead
  (repeat' split) <;> simp_all

@[simp ↓] theorem State.hostRead_sys_por (s : State) (r : Requester) (a : Nat) (eff : State → Nat × State)
    (h : ∀ s, (eff s).2.sys.por = s.sys.por) : (s.hostRead r a eff).2.sys.por = s.sys.por := by
  have hf1 := @State.deny_frame
  have h1 := h s
  unfold State.hostRead
  (repeat' split) <;> simp_all

@[simp ↓] theorem State.hostRead_sys_mapOn (s : State) (r : Requester) (a : Nat) (eff : State → Nat × State)
    (h : ∀ s, (eff s).2.sys.mapOn = s.sys.mapOn) : (s.hostRead r a eff).2.sys.mapOn = s.sys.mapOn := by
  have hf1 := @State.deny_frame
  have h1 := h s
  unfold State.hostRead
  (repeat' split) <;> simp_all

theorem State.capture_frame (s : State) (r : Requester) (a : ℕ) (ws : List ℕ) :
    (State.capture s r a ws).now = s.now ∧ (State.capture s r a ws).pending = s.pending ∧
    (State.capture s r a ws).regs0 = s.regs0 ∧ (State.capture s r a ws).freeCtr = s.freeCtr ∧
    (State.capture s r a ws).mode = s.mode ∧ (State.capture s r a ws).mram = s.mram ∧
    (State.capture s r a ws).sys.straps = s.sys.straps ∧ (State.capture s r a ws).sys.por = s.sys.por ∧
    (State.capture s r a ws).sys.mapOn = s.sys.mapOn ∧ (State.capture s r a ws).evt = s.evt ∧
    (State.capture s r a ws).ana = s.ana ∧ (State.capture s r a ws).aux = s.aux ∧
    (State.capture s r a ws).flt = s.flt ∧ (State.capture s r a ws).tim = s.tim ∧
    (State.capture s r a ws).net = s.net ∧ (State.capture s r a ws).prt = s.prt ∧
    (State.capture s r a ws).trp = s.trp ∧ (State.capture s r a ws).pod = s.pod ∧
    (State.capture s r a ws).lgc = s.lgc ∧ (State.capture s r a ws).gsv = s.gsv ∧
    (State.capture s r a ws).tph = s.tph ∧ (State.capture s r a ws).oz = s.oz ∧
    (State.capture s r a ws).sec = s.sec ∧ (State.capture s r a ws).cmd = s.cmd ∧
    (State.capture s r a ws).regs = s.regs := by
  simp [State.capture]

theorem State.bootUpd_frame (s : State) (f : BootRecord → BootRecord) :
    (State.bootUpd s f).now = s.now ∧ (State.bootUpd s f).pending = s.pending ∧ (State.bootUpd s f).regs0 = s.regs0 ∧
    (State.bootUpd s f).freeCtr = s.freeCtr ∧ (State.bootUpd s f).mode = s.mode ∧
    (State.bootUpd s f).mram.keyCnt = s.mram.keyCnt ∧ (State.bootUpd s f).sys = s.sys ∧
    (State.bootUpd s f).evt = s.evt ∧ (State.bootUpd s f).ana = s.ana ∧ (State.bootUpd s f).aux = s.aux ∧
    (State.bootUpd s f).flt = s.flt ∧ (State.bootUpd s f).tim = s.tim ∧ (State.bootUpd s f).net = s.net ∧
    (State.bootUpd s f).prt = s.prt ∧ (State.bootUpd s f).trp = s.trp ∧ (State.bootUpd s f).pod = s.pod ∧
    (State.bootUpd s f).lgc = s.lgc ∧ (State.bootUpd s f).gsv = s.gsv ∧ (State.bootUpd s f).tph = s.tph ∧
    (State.bootUpd s f).oz = s.oz ∧ (State.bootUpd s f).sec = s.sec ∧ (State.bootUpd s f).cmd = s.cmd ∧
    (State.bootUpd s f).regs = s.regs := by
  simp [State.bootUpd]
theorem State.bootRead_frame (s : State) :
    (State.bootRead s).now = s.now ∧ (State.bootRead s).pending = s.pending ∧ (State.bootRead s).regs0 = s.regs0 ∧
    (State.bootRead s).freeCtr = s.freeCtr ∧ (State.bootRead s).mode = s.mode ∧
    (State.bootRead s).mram.keyCnt = s.mram.keyCnt ∧ (State.bootRead s).sys = s.sys ∧
    (State.bootRead s).evt = s.evt ∧ (State.bootRead s).ana = s.ana ∧ (State.bootRead s).aux = s.aux ∧
    (State.bootRead s).flt = s.flt ∧ (State.bootRead s).tim = s.tim ∧ (State.bootRead s).net = s.net ∧
    (State.bootRead s).prt = s.prt ∧ (State.bootRead s).trp = s.trp ∧ (State.bootRead s).pod = s.pod ∧
    (State.bootRead s).lgc = s.lgc ∧ (State.bootRead s).gsv = s.gsv ∧ (State.bootRead s).tph = s.tph ∧
    (State.bootRead s).oz = s.oz ∧ (State.bootRead s).sec = s.sec ∧ (State.bootRead s).cmd = s.cmd ∧
    (State.bootRead s).regs = s.regs := by
  have hfite := @State.ite_frame
  simp only [↓hfite, State.bootRead]
  (repeat' split) <;> simp [↓hfite]

end Sys2Proof.Machine
end

