-- ==== Sys2Proof/Laws/FrameTiming.lean ====
section
/-!
SUPPORT. What the operations of Machine/Timing.lean leave as it was: one lemma per operation, over the parts of the state.
-/
set_option linter.all false
set_option Elab.async false
namespace Sys2Proof.Machine
theorem State.setTb_frame (s : State) (b : ℕ) (x : TbInt) :
    (State.setTb s b x).now = s.now ∧ (State.setTb s b x).pending = s.pending ∧ (State.setTb s b x).regs0 = s.regs0 ∧
    (State.setTb s b x).freeCtr = s.freeCtr ∧ (State.setTb s b x).mode = s.mode ∧ (State.setTb s b x).mram = s.mram ∧
    (State.setTb s b x).sys = s.sys ∧ (State.setTb s b x).evt = s.evt ∧ (State.setTb s b x).ana = s.ana ∧
    (State.setTb s b x).aux = s.aux ∧ (State.setTb s b x).flt = s.flt ∧ (State.setTb s b x).net = s.net ∧
    (State.setTb s b x).prt = s.prt ∧ (State.setTb s b x).trp = s.trp ∧ (State.setTb s b x).pod = s.pod ∧
    (State.setTb s b x).lgc = s.lgc ∧ (State.setTb s b x).gsv = s.gsv ∧ (State.setTb s b x).tph = s.tph ∧
    (State.setTb s b x).oz = s.oz ∧ (State.setTb s b x).sec = s.sec ∧ (State.setTb s b x).cmd = s.cmd ∧
    (State.setTb s b x).regs = s.regs := by
  simp [State.setTb]

theorem State.rebase_frame (s : State) (b : ℕ) (d : ℤ) :
    (State.rebase s b d).now = s.now ∧ (State.rebase s b d).pending = s.pending ∧
    (State.rebase s b d).regs0 = s.regs0 ∧ (State.rebase s b d).freeCtr = s.freeCtr ∧
    (State.rebase s b d).mode = s.mode ∧ (State.rebase s b d).mram = s.mram ∧ (State.rebase s b d).sys = s.sys ∧
    (State.rebase s b d).evt = s.evt ∧ (State.rebase s b d).ana = s.ana ∧ (State.rebase s b d).aux = s.aux ∧
    (State.rebase s b d).flt = s.flt ∧ (State.rebase s b d).net = s.net ∧ (State.rebase s b d).prt = s.prt ∧
    (State.rebase s b d).trp = s.trp ∧ (State.rebase s b d).pod = s.pod ∧ (State.rebase s b d).lgc = s.lgc ∧
    (State.rebase s b d).gsv = s.gsv ∧ (State.rebase s b d).tph = s.tph ∧ (State.rebase s b d).oz = s.oz ∧
    (State.rebase s b d).sec = s.sec ∧ (State.rebase s b d).cmd = s.cmd ∧ (State.rebase s b d).regs = s.regs := by
  have hf1 := @State.setTb_frame
  simp [↓hf1, State.rebase]

theorem State.setQual_frame (s : State) (b : ℕ) :
    (State.setQual s b).now = s.now ∧ (State.setQual s b).pending = s.pending ∧ (State.setQual s b).regs0 = s.regs0 ∧
    (State.setQual s b).freeCtr = s.freeCtr ∧ (State.setQual s b).mode = s.mode ∧ (State.setQual s b).mram = s.mram ∧
    (State.setQual s b).sys = s.sys ∧ (State.setQual s b).evt = s.evt ∧ (State.setQual s b).ana = s.ana ∧
    (State.setQual s b).aux = s.aux ∧ (State.setQual s b).flt = s.flt ∧ (State.setQual s b).tim = s.tim ∧
    (State.setQual s b).net = s.net ∧ (State.setQual s b).prt = s.prt ∧ (State.setQual s b).trp = s.trp ∧
    (State.setQual s b).pod = s.pod ∧ (State.setQual s b).lgc = s.lgc ∧ (State.setQual s b).gsv = s.gsv ∧
    (State.setQual s b).tph = s.tph ∧ (State.setQual s b).oz = s.oz ∧ (State.setQual s b).sec = s.sec ∧
    (State.setQual s b).cmd = s.cmd := by
  have hf1 := @State.setF_frame
  simp [↓hf1, State.setQual]

theorem State.tbEnter_frame (s : State) (b : ℕ) (st : ℕ) :
    (State.tbEnter s b st).now = s.now ∧ (State.tbEnter s b st).pending = s.pending ∧
    (State.tbEnter s b st).regs0 = s.regs0 ∧ (State.tbEnter s b st).freeCtr = s.freeCtr ∧
    (State.tbEnter s b st).mode = s.mode ∧ (State.tbEnter s b st).mram.keyCnt = s.mram.keyCnt ∧
    (State.tbEnter s b st).mram.boot = s.mram.boot ∧ (State.tbEnter s b st).sys = s.sys ∧
    (State.tbEnter s b st).ana = s.ana ∧ (State.tbEnter s b st).aux = s.aux ∧ (State.tbEnter s b st).flt = s.flt ∧
    (State.tbEnter s b st).net = s.net ∧ (State.tbEnter s b st).prt = s.prt ∧ (State.tbEnter s b st).trp = s.trp ∧
    (State.tbEnter s b st).pod = s.pod ∧ (State.tbEnter s b st).lgc = s.lgc ∧ (State.tbEnter s b st).gsv = s.gsv ∧
    (State.tbEnter s b st).tph = s.tph ∧ (State.tbEnter s b st).oz = s.oz ∧ (State.tbEnter s b st).sec = s.sec ∧
    (State.tbEnter s b st).cmd = s.cmd := by
  have hfite := @State.ite_frame
  have hf1 := @State.raise_frame
  have hf2 := @State.setQual_frame
  have hf3 := @State.setTb_frame
  have hf4 := @State.setF_frame
  simp [↓hfite, ↓hf1, ↓hf2, ↓hf3, ↓hf4, State.tbEnter]

theorem State.setAdj_frame (s : State) (b : ℕ) (adj : ℤ) :
    (State.setAdj s b adj).now = s.now ∧ (State.setAdj s b adj).pending = s.pending ∧
    (State.setAdj s b adj).regs0 = s.regs0 ∧ (State.setAdj s b adj).freeCtr = s.freeCtr ∧
    (State.setAdj s b adj).mode = s.mode ∧ (State.setAdj s b adj).mram = s.mram ∧
    (State.setAdj s b adj).sys = s.sys ∧ (State.setAdj s b adj).evt = s.evt ∧ (State.setAdj s b adj).ana = s.ana ∧
    (State.setAdj s b adj).aux = s.aux ∧ (State.setAdj s b adj).flt = s.flt ∧ (State.setAdj s b adj).net = s.net ∧
    (State.setAdj s b adj).prt = s.prt ∧ (State.setAdj s b adj).trp = s.trp ∧ (State.setAdj s b adj).pod = s.pod ∧
    (State.setAdj s b adj).lgc = s.lgc ∧ (State.setAdj s b adj).gsv = s.gsv ∧ (State.setAdj s b adj).tph = s.tph ∧
    (State.setAdj s b adj).oz = s.oz ∧ (State.setAdj s b adj).sec = s.sec ∧ (State.setAdj s b adj).cmd = s.cmd := by
  have hf1 := @State.setI_frame
  have hf2 := @State.rebase_frame
  have hf3 := @State.setTb_frame
  simp [↓hf1, ↓hf2, ↓hf3, State.setAdj]

theorem State.steer_frame (s : State) (b : ℕ) (o : ℤ) :
    (State.steer s b o).now = s.now ∧ (State.steer s b o).pending = s.pending ∧ (State.steer s b o).regs0 = s.regs0 ∧
    (State.steer s b o).freeCtr = s.freeCtr ∧ (State.steer s b o).mode = s.mode ∧ (State.steer s b o).mram = s.mram ∧
    (State.steer s b o).sys = s.sys ∧ (State.steer s b o).evt = s.evt ∧ (State.steer s b o).ana = s.ana ∧
    (State.steer s b o).aux = s.aux ∧ (State.steer s b o).flt = s.flt ∧ (State.steer s b o).net = s.net ∧
    (State.steer s b o).prt = s.prt ∧ (State.steer s b o).trp = s.trp ∧ (State.steer s b o).pod = s.pod ∧
    (State.steer s b o).lgc = s.lgc ∧ (State.steer s b o).gsv = s.gsv ∧ (State.steer s b o).tph = s.tph ∧
    (State.steer s b o).oz = s.oz ∧ (State.steer s b o).sec = s.sec ∧ (State.steer s b o).cmd = s.cmd := by
  have hf1 := @State.setTb_frame
  have hf2 := @State.setAdj_frame
  simp [↓hf1, ↓hf2, State.steer]

theorem State.keepE0_frame (s : State) (b : ℕ) :
    (State.keepE0 s b).now = s.now ∧ (State.keepE0 s b).pending = s.pending ∧ (State.keepE0 s b).regs0 = s.regs0 ∧
    (State.keepE0 s b).freeCtr = s.freeCtr ∧ (State.keepE0 s b).mode = s.mode ∧ (State.keepE0 s b).mram = s.mram ∧
    (State.keepE0 s b).sys = s.sys ∧ (State.keepE0 s b).evt = s.evt ∧ (State.keepE0 s b).ana = s.ana ∧
    (State.keepE0 s b).aux = s.aux ∧ (State.keepE0 s b).flt = s.flt ∧ (State.keepE0 s b).net = s.net ∧
    (State.keepE0 s b).prt = s.prt ∧ (State.keepE0 s b).trp = s.trp ∧ (State.keepE0 s b).pod = s.pod ∧
    (State.keepE0 s b).lgc = s.lgc ∧ (State.keepE0 s b).gsv = s.gsv ∧ (State.keepE0 s b).tph = s.tph ∧
    (State.keepE0 s b).oz = s.oz ∧ (State.keepE0 s b).sec = s.sec ∧ (State.keepE0 s b).cmd = s.cmd ∧
    (State.keepE0 s b).regs = s.regs := by
  have hfite := @State.ite_frame
  have hf1 := @State.setTb_frame
  simp [↓hfite, ↓hf1, State.keepE0]

theorem State.setPend_frame (s : State) (b : ℕ) (ns : ℤ) :
    (State.setPend s b ns).now = s.now ∧ (State.setPend s b ns).pending = s.pending ∧
    (State.setPend s b ns).regs0 = s.regs0 ∧ (State.setPend s b ns).freeCtr = s.freeCtr ∧
    (State.setPend s b ns).mode = s.mode ∧ (State.setPend s b ns).mram = s.mram ∧
    (State.setPend s b ns).sys = s.sys ∧ (State.setPend s b ns).evt = s.evt ∧ (State.setPend s b ns).ana = s.ana ∧
    (State.setPend s b ns).aux = s.aux ∧ (State.setPend s b ns).flt = s.flt ∧ (State.setPend s b ns).tim = s.tim ∧
    (State.setPend s b ns).net = s.net ∧ (State.setPend s b ns).prt = s.prt ∧ (State.setPend s b ns).trp = s.trp ∧
    (State.setPend s b ns).pod = s.pod ∧ (State.setPend s b ns).lgc = s.lgc ∧ (State.setPend s b ns).gsv = s.gsv ∧
    (State.setPend s b ns).tph = s.tph ∧ (State.setPend s b ns).oz = s.oz ∧ (State.setPend s b ns).sec = s.sec ∧
    (State.setPend s b ns).cmd = s.cmd := by
  have hf1 := @State.setF_frame
  simp [↓hf1, State.setPend]

theorem State.markStep_frame (s : State) (b : ℕ) (d : ℤ) :
    (State.markStep s b d).now = s.now ∧ (State.markStep s b d).pending = s.pending ∧
    (State.markStep s b d).regs0 = s.regs0 ∧ (State.markStep s b d).freeCtr = s.freeCtr ∧
    (State.markStep s b d).mode = s.mode ∧ (State.markStep s b d).mram = s.mram ∧
    (State.markStep s b d).sys = s.sys ∧ (State.markStep s b d).evt = s.evt ∧ (State.markStep s b d).ana = s.ana ∧
    (State.markStep s b d).aux = s.aux ∧ (State.markStep s b d).flt = s.flt ∧ (State.markStep s b d).net = s.net ∧
    (State.markStep s b d).prt = s.prt ∧ (State.markStep s b d).trp = s.trp ∧ (State.markStep s b d).pod = s.pod ∧
    (State.markStep s b d).lgc = s.lgc ∧ (State.markStep s b d).gsv = s.gsv ∧ (State.markStep s b d).tph = s.tph ∧
    (State.markStep s b d).oz = s.oz ∧ (State.markStep s b d).sec = s.sec ∧ (State.markStep s b d).cmd = s.cmd ∧
    (State.markStep s b d).regs = s.regs := by
  have hfite := @State.ite_frame
  simp [↓hfite, State.markStep]

theorem State.applyStep_frame (s : State) (b : ℕ) (d : ℤ) :
    (State.applyStep s b d).now = s.now ∧ (State.applyStep s b d).pending = s.pending ∧
    (State.applyStep s b d).regs0 = s.regs0 ∧ (State.applyStep s b d).freeCtr = s.freeCtr ∧
    (State.applyStep s b d).mode = s.mode ∧ (State.applyStep s b d).mram.keyCnt = s.mram.keyCnt ∧
    (State.applyStep s b d).mram.boot = s.mram.boot ∧ (State.applyStep s b d).sys = s.sys ∧
    (State.applyStep s b d).ana = s.ana ∧ (State.applyStep s b d).aux = s.aux ∧ (State.applyStep s b d).flt = s.flt ∧
    (State.applyStep s b d).net = s.net ∧ (State.applyStep s b d).prt = s.prt ∧ (State.applyStep s b d).trp = s.trp ∧
    (State.applyStep s b d).pod = s.pod ∧ (State.applyStep s b d).lgc = s.lgc ∧ (State.applyStep s b d).gsv = s.gsv ∧
    (State.applyStep s b d).tph = s.tph ∧ (State.applyStep s b d).oz = s.oz ∧ (State.applyStep s b d).sec = s.sec ∧
    (State.applyStep s b d).cmd = s.cmd := by
  have hf1 := @State.raise_frame
  have hf2 := @State.tbEnter_frame
  have hf3 := @State.setTb_frame
  have hf4 := @State.incSat_frame
  have hf5 := @State.setPend_frame
  have hf6 := @State.markStep_frame
  have hf7 := @State.rebase_frame
  simp [↓hf1, ↓hf2, ↓hf3, ↓hf4, ↓hf5, ↓hf6, ↓hf7, State.applyStep]

theorem State.refuseJump_frame (s : State) (b : ℕ) (o : ℤ) :
    (State.refuseJump s b o).now = s.now ∧ (State.refuseJump s b o).pending = s.pending ∧
    (State.refuseJump s b o).regs0 = s.regs0 ∧ (State.refuseJump s b o).freeCtr = s.freeCtr ∧
    (State.refuseJump s b o).mode = s.mode ∧ (State.refuseJump s b o).mram.keyCnt = s.mram.keyCnt ∧
    (State.refuseJump s b o).mram.boot = s.mram.boot ∧ (State.refuseJump s b o).sys = s.sys ∧
    (State.refuseJump s b o).ana = s.ana ∧ (State.refuseJump s b o).aux = s.aux ∧
    (State.refuseJump s b o).flt = s.flt ∧ (State.refuseJump s b o).net = s.net ∧
    (State.refuseJump s b o).prt = s.prt ∧ (State.refuseJump s b o).trp = s.trp ∧
    (State.refuseJump s b o).pod = s.pod ∧ (State.refuseJump s b o).lgc = s.lgc ∧
    (State.refuseJump s b o).gsv = s.gsv ∧ (State.refuseJump s b o).tph = s.tph ∧
    (State.refuseJump s b o).oz = s.oz ∧ (State.refuseJump s b o).sec = s.sec ∧ (State.refuseJump s b o).cmd = s.cmd := by
  have hfite := @State.ite_frame
  have hf1 := @State.setTb_frame
  have hf2 := @State.setPend_frame
  have hf3 := @State.raise_frame
  have hf4 := @State.tbEnter_frame
  have hf5 := @State.incSat_frame
  have hf6 := @State.setFlag_frame
  have hf7 := @State.keepE0_frame
  simp [↓hfite, ↓hf1, ↓hf2, ↓hf3, ↓hf4, ↓hf5, ↓hf6, ↓hf7, State.refuseJump]

theorem State.countLock_frame (s : State) (b : ℕ) (o : ℤ) :
    (State.countLock s b o).now = s.now ∧ (State.countLock s b o).pending = s.pending ∧
    (State.countLock s b o).regs0 = s.regs0 ∧ (State.countLock s b o).freeCtr = s.freeCtr ∧
    (State.countLock s b o).mode = s.mode ∧ (State.countLock s b o).mram = s.mram ∧
    (State.countLock s b o).sys = s.sys ∧ (State.countLock s b o).evt = s.evt ∧ (State.countLock s b o).ana = s.ana ∧
    (State.countLock s b o).aux = s.aux ∧ (State.countLock s b o).flt = s.flt ∧ (State.countLock s b o).net = s.net ∧
    (State.countLock s b o).prt = s.prt ∧ (State.countLock s b o).trp = s.trp ∧ (State.countLock s b o).pod = s.pod ∧
    (State.countLock s b o).lgc = s.lgc ∧ (State.countLock s b o).gsv = s.gsv ∧ (State.countLock s b o).tph = s.tph ∧
    (State.countLock s b o).oz = s.oz ∧ (State.countLock s b o).sec = s.sec ∧ (State.countLock s b o).cmd = s.cmd ∧
    (State.countLock s b o).regs = s.regs := by
  have hfite := @State.ite_frame
  have hf1 := @State.setTb_frame
  simp [↓hfite, ↓hf1, State.countLock]

theorem State.lockCount_frame (s : State) (b : ℕ) (o : ℤ) :
    (State.lockCount s b o).now = s.now ∧ (State.lockCount s b o).pending = s.pending ∧
    (State.lockCount s b o).regs0 = s.regs0 ∧ (State.lockCount s b o).freeCtr = s.freeCtr ∧
    (State.lockCount s b o).mode = s.mode ∧ (State.lockCount s b o).mram.keyCnt = s.mram.keyCnt ∧
    (State.lockCount s b o).mram.boot = s.mram.boot ∧ (State.lockCount s b o).sys = s.sys ∧
    (State.lockCount s b o).ana = s.ana ∧ (State.lockCount s b o).aux = s.aux ∧ (State.lockCount s b o).flt = s.flt ∧
    (State.lockCount s b o).net = s.net ∧ (State.lockCount s b o).prt = s.prt ∧ (State.lockCount s b o).trp = s.trp ∧
    (State.lockCount s b o).pod = s.pod ∧ (State.lockCount s b o).lgc = s.lgc ∧ (State.lockCount s b o).gsv = s.gsv ∧
    (State.lockCount s b o).tph = s.tph ∧ (State.lockCount s b o).oz = s.oz ∧ (State.lockCount s b o).sec = s.sec ∧
    (State.lockCount s b o).cmd = s.cmd := by
  have hfite := @State.ite_frame
  have hf1 := @State.countLock_frame
  have hf2 := @State.tbEnter_frame
  simp [↓hfite, ↓hf1, ↓hf2, State.lockCount]

theorem State.heldOffset_frame (s : State) (b : ℕ) (o : ℤ) :
    (State.heldOffset s b o).now = s.now ∧ (State.heldOffset s b o).pending = s.pending ∧
    (State.heldOffset s b o).regs0 = s.regs0 ∧ (State.heldOffset s b o).freeCtr = s.freeCtr ∧
    (State.heldOffset s b o).mode = s.mode ∧ (State.heldOffset s b o).mram.keyCnt = s.mram.keyCnt ∧
    (State.heldOffset s b o).mram.boot = s.mram.boot ∧ (State.heldOffset s b o).sys = s.sys ∧
    (State.heldOffset s b o).ana = s.ana ∧ (State.heldOffset s b o).aux = s.aux ∧
    (State.heldOffset s b o).flt = s.flt ∧ (State.heldOffset s b o).net = s.net ∧
    (State.heldOffset s b o).prt = s.prt ∧ (State.heldOffset s b o).trp = s.trp ∧
    (State.heldOffset s b o).pod = s.pod ∧ (State.heldOffset s b o).lgc = s.lgc ∧
    (State.heldOffset s b o).gsv = s.gsv ∧ (State.heldOffset s b o).tph = s.tph ∧
    (State.heldOffset s b o).oz = s.oz ∧ (State.heldOffset s b o).sec = s.sec ∧ (State.heldOffset s b o).cmd = s.cmd := by
  have hfite := @State.ite_frame
  have hf1 := @State.setTb_frame
  have hf2 := @State.setPend_frame
  have hf3 := @State.countLock_frame
  have hf4 := @State.tbEnter_frame
  have hf5 := @State.steer_frame
  simp [↓hfite, ↓hf1, ↓hf2, ↓hf3, ↓hf4, ↓hf5, State.heldOffset]

theorem State.servoUpdate_frame (s : State) (b : ℕ) (o : ℤ) (srcTqc : ℕ) :
    (State.servoUpdate s b o srcTqc).now = s.now ∧ (State.servoUpdate s b o srcTqc).pending = s.pending ∧
    (State.servoUpdate s b o srcTqc).regs0 = s.regs0 ∧ (State.servoUpdate s b o srcTqc).freeCtr = s.freeCtr ∧
    (State.servoUpdate s b o srcTqc).mode = s.mode ∧ (State.servoUpdate s b o srcTqc).mram.keyCnt = s.mram.keyCnt ∧
    (State.servoUpdate s b o srcTqc).mram.boot = s.mram.boot ∧ (State.servoUpdate s b o srcTqc).sys = s.sys ∧
    (State.servoUpdate s b o srcTqc).ana = s.ana ∧ (State.servoUpdate s b o srcTqc).aux = s.aux ∧
    (State.servoUpdate s b o srcTqc).flt = s.flt ∧ (State.servoUpdate s b o srcTqc).net = s.net ∧
    (State.servoUpdate s b o srcTqc).prt = s.prt ∧ (State.servoUpdate s b o srcTqc).trp = s.trp ∧
    (State.servoUpdate s b o srcTqc).pod = s.pod ∧ (State.servoUpdate s b o srcTqc).lgc = s.lgc ∧
    (State.servoUpdate s b o srcTqc).gsv = s.gsv ∧ (State.servoUpdate s b o srcTqc).tph = s.tph ∧
    (State.servoUpdate s b o srcTqc).oz = s.oz ∧ (State.servoUpdate s b o srcTqc).sec = s.sec ∧
    (State.servoUpdate s b o srcTqc).cmd = s.cmd := by
  have hfite := @State.ite_frame
  have hf1 := @State.setFlag_frame
  have hf2 := @State.setTb_frame
  have hf3 := @State.applyStep_frame
  have hf4 := @State.setI_frame
  have hf5 := @State.setQual_frame
  have hf6 := @State.tbEnter_frame
  have hf7 := @State.heldOffset_frame
  have hf8 := @State.lockCount_frame
  have hf9 := @State.refuseJump_frame
  have hf10 := @State.steer_frame
  simp [↓hfite, ↓hf1, ↓hf2, ↓hf3, ↓hf4, ↓hf5, ↓hf6, ↓hf7, ↓hf8, ↓hf9, ↓hf10, State.servoUpdate]

theorem State.srcLost_frame (s : State) (b : ℕ) :
    (State.srcLost s b).now = s.now ∧ (State.srcLost s b).pending = s.pending ∧ (State.srcLost s b).regs0 = s.regs0 ∧
    (State.srcLost s b).freeCtr = s.freeCtr ∧ (State.srcLost s b).mode = s.mode ∧
    (State.srcLost s b).mram.keyCnt = s.mram.keyCnt ∧ (State.srcLost s b).mram.boot = s.mram.boot ∧
    (State.srcLost s b).sys = s.sys ∧ (State.srcLost s b).ana = s.ana ∧ (State.srcLost s b).aux = s.aux ∧
    (State.srcLost s b).flt = s.flt ∧ (State.srcLost s b).net = s.net ∧ (State.srcLost s b).prt = s.prt ∧
    (State.srcLost s b).trp = s.trp ∧ (State.srcLost s b).pod = s.pod ∧ (State.srcLost s b).lgc = s.lgc ∧
    (State.srcLost s b).gsv = s.gsv ∧ (State.srcLost s b).tph = s.tph ∧ (State.srcLost s b).oz = s.oz ∧
    (State.srcLost s b).sec = s.sec ∧ (State.srcLost s b).cmd = s.cmd := by
  have hfite := @State.ite_frame
  have hf1 := @State.tbEnter_frame
  have hf2 := @State.setAdj_frame
  have hf3 := @State.keepE0_frame
  have hf4 := @State.incSat_frame
  have hf5 := @State.setFlag_frame
  simp [↓hfite, ↓hf1, ↓hf2, ↓hf3, ↓hf4, ↓hf5, State.srcLost]

theorem State.syncFor_frame (s : State) (b : ℕ) (p : ℕ) (m : SyncMsg) :
    (State.syncFor s b p m).now = s.now ∧ (State.syncFor s b p m).pending = s.pending ∧
    (State.syncFor s b p m).regs0 = s.regs0 ∧ (State.syncFor s b p m).freeCtr = s.freeCtr ∧
    (State.syncFor s b p m).mode = s.mode ∧ (State.syncFor s b p m).mram.keyCnt = s.mram.keyCnt ∧
    (State.syncFor s b p m).mram.boot = s.mram.boot ∧ (State.syncFor s b p m).sys = s.sys ∧
    (State.syncFor s b p m).ana = s.ana ∧ (State.syncFor s b p m).aux = s.aux ∧ (State.syncFor s b p m).flt = s.flt ∧
    (State.syncFor s b p m).net = s.net ∧ (State.syncFor s b p m).prt = s.prt ∧ (State.syncFor s b p m).trp = s.trp ∧
    (State.syncFor s b p m).pod = s.pod ∧ (State.syncFor s b p m).lgc = s.lgc ∧ (State.syncFor s b p m).gsv = s.gsv ∧
    (State.syncFor s b p m).tph = s.tph ∧ (State.syncFor s b p m).oz = s.oz ∧ (State.syncFor s b p m).sec = s.sec ∧
    (State.syncFor s b p m).cmd = s.cmd := by
  have hfite := @State.ite_frame
  have hf1 := @State.setTb_frame
  have hf2 := @State.servoUpdate_frame
  simp [↓hfite, ↓hf1, ↓hf2, State.syncFor]

theorem syncReceiveEff_frame (p : ℕ) (m : SyncMsg) (s : State) :
    (syncReceiveEff p m s).now = s.now ∧ (syncReceiveEff p m s).pending = s.pending ∧
    (syncReceiveEff p m s).regs0 = s.regs0 ∧ (syncReceiveEff p m s).freeCtr = s.freeCtr ∧
    (syncReceiveEff p m s).mode = s.mode ∧ (syncReceiveEff p m s).mram.keyCnt = s.mram.keyCnt ∧
    (syncReceiveEff p m s).mram.boot = s.mram.boot ∧ (syncReceiveEff p m s).sys = s.sys ∧
    (syncReceiveEff p m s).ana = s.ana ∧ (syncReceiveEff p m s).aux = s.aux ∧ (syncReceiveEff p m s).flt = s.flt ∧
    (syncReceiveEff p m s).net = s.net ∧ (syncReceiveEff p m s).prt = s.prt ∧ (syncReceiveEff p m s).trp = s.trp ∧
    (syncReceiveEff p m s).pod = s.pod ∧ (syncReceiveEff p m s).lgc = s.lgc ∧ (syncReceiveEff p m s).gsv = s.gsv ∧
    (syncReceiveEff p m s).tph = s.tph ∧ (syncReceiveEff p m s).oz = s.oz ∧ (syncReceiveEff p m s).sec = s.sec ∧
    (syncReceiveEff p m s).cmd = s.cmd := by
  have hfite := @State.ite_frame
  have hf1 := @State.syncFor_frame
  simp [↓hfite, ↓hf1, syncReceiveEff]

theorem State.followFor_frame (s : State) (b : ℕ) (p : ℕ) (m : SyncMsg) :
    (State.followFor s b p m).now = s.now ∧ (State.followFor s b p m).pending = s.pending ∧
    (State.followFor s b p m).regs0 = s.regs0 ∧ (State.followFor s b p m).freeCtr = s.freeCtr ∧
    (State.followFor s b p m).mode = s.mode ∧ (State.followFor s b p m).mram.keyCnt = s.mram.keyCnt ∧
    (State.followFor s b p m).mram.boot = s.mram.boot ∧ (State.followFor s b p m).sys = s.sys ∧
    (State.followFor s b p m).ana = s.ana ∧ (State.followFor s b p m).aux = s.aux ∧
    (State.followFor s b p m).flt = s.flt ∧ (State.followFor s b p m).net = s.net ∧
    (State.followFor s b p m).prt = s.prt ∧ (State.followFor s b p m).trp = s.trp ∧
    (State.followFor s b p m).pod = s.pod ∧ (State.followFor s b p m).lgc = s.lgc ∧
    (State.followFor s b p m).gsv = s.gsv ∧ (State.followFor s b p m).tph = s.tph ∧
    (State.followFor s b p m).oz = s.oz ∧ (State.followFor s b p m).sec = s.sec ∧
    (State.followFor s b p m).cmd = s.cmd := by
  have hf1 := @State.servoUpdate_frame
  have hf2 := @State.setTb_frame
  unfold State.followFor
  (repeat' split) <;> simp [↓hf1, ↓hf2]

theorem followUpReceiveEff_frame (p : ℕ) (m : SyncMsg) (s : State) :
    (followUpReceiveEff p m s).now = s.now ∧ (followUpReceiveEff p m s).pending = s.pending ∧
    (followUpReceiveEff p m s).regs0 = s.regs0 ∧ (followUpReceiveEff p m s).freeCtr = s.freeCtr ∧
    (followUpReceiveEff p m s).mode = s.mode ∧ (followUpReceiveEff p m s).mram.keyCnt = s.mram.keyCnt ∧
    (followUpReceiveEff p m s).mram.boot = s.mram.boot ∧ (followUpReceiveEff p m s).sys = s.sys ∧
    (followUpReceiveEff p m s).ana = s.ana ∧ (followUpReceiveEff p m s).aux = s.aux ∧
    (followUpReceiveEff p m s).flt = s.flt ∧ (followUpReceiveEff p m s).net = s.net ∧
    (followUpReceiveEff p m s).prt = s.prt ∧ (followUpReceiveEff p m s).trp = s.trp ∧
    (followUpReceiveEff p m s).pod = s.pod ∧ (followUpReceiveEff p m s).lgc = s.lgc ∧
    (followUpReceiveEff p m s).gsv = s.gsv ∧ (followUpReceiveEff p m s).tph = s.tph ∧
    (followUpReceiveEff p m s).oz = s.oz ∧ (followUpReceiveEff p m s).sec = s.sec ∧
    (followUpReceiveEff p m s).cmd = s.cmd := by
  have hfite := @State.ite_frame
  have hf1 := @State.followFor_frame
  simp [↓hfite, ↓hf1, followUpReceiveEff]

theorem State.putUtc_frame (s : State) :
    (State.putUtc s).now = s.now ∧ (State.putUtc s).pending = s.pending ∧ (State.putUtc s).regs0 = s.regs0 ∧
    (State.putUtc s).freeCtr = s.freeCtr ∧ (State.putUtc s).mode = s.mode ∧ (State.putUtc s).mram = s.mram ∧
    (State.putUtc s).sys = s.sys ∧ (State.putUtc s).evt = s.evt ∧ (State.putUtc s).ana = s.ana ∧
    (State.putUtc s).aux = s.aux ∧ (State.putUtc s).flt = s.flt ∧ (State.putUtc s).tim = s.tim ∧
    (State.putUtc s).net = s.net ∧ (State.putUtc s).prt = s.prt ∧ (State.putUtc s).trp = s.trp ∧
    (State.putUtc s).pod = s.pod ∧ (State.putUtc s).lgc = s.lgc ∧ (State.putUtc s).gsv = s.gsv ∧
    (State.putUtc s).tph = s.tph ∧ (State.putUtc s).oz = s.oz ∧ (State.putUtc s).sec = s.sec ∧
    (State.putUtc s).cmd = s.cmd := by
  have hfite := @State.ite_frame
  have hf1 := @State.setFlag_frame
  have hf2 := @State.setF_frame
  have hf3 := @State.setI_frame
  simp [↓hfite, ↓hf1, ↓hf2, ↓hf3, State.putUtc]
  (repeat' split) <;> simp [↓hfite, ↓hf1, ↓hf2, ↓hf3]

theorem State.utcFrom_frame (s : State) (b : ℕ) (utc : Option ℤ) (lp : Bool) (ld : Bool) :
    (State.utcFrom s b utc lp ld).now = s.now ∧ (State.utcFrom s b utc lp ld).pending = s.pending ∧
    (State.utcFrom s b utc lp ld).regs0 = s.regs0 ∧ (State.utcFrom s b utc lp ld).freeCtr = s.freeCtr ∧
    (State.utcFrom s b utc lp ld).mode = s.mode ∧ (State.utcFrom s b utc lp ld).mram = s.mram ∧
    (State.utcFrom s b utc lp ld).sys = s.sys ∧ (State.utcFrom s b utc lp ld).evt = s.evt ∧
    (State.utcFrom s b utc lp ld).ana = s.ana ∧ (State.utcFrom s b utc lp ld).aux = s.aux ∧
    (State.utcFrom s b utc lp ld).flt = s.flt ∧ (State.utcFrom s b utc lp ld).net = s.net ∧
    (State.utcFrom s b utc lp ld).prt = s.prt ∧ (State.utcFrom s b utc lp ld).trp = s.trp ∧
    (State.utcFrom s b utc lp ld).pod = s.pod ∧ (State.utcFrom s b utc lp ld).lgc = s.lgc ∧
    (State.utcFrom s b utc lp ld).gsv = s.gsv ∧ (State.utcFrom s b utc lp ld).tph = s.tph ∧
    (State.utcFrom s b utc lp ld).oz = s.oz ∧ (State.utcFrom s b utc lp ld).sec = s.sec ∧
    (State.utcFrom s b utc lp ld).cmd = s.cmd := by
  have hfite := @State.ite_frame
  have hf1 := @State.setTb_frame
  have hf2 := @State.putUtc_frame
  have hf3 := @State.setQual_frame
  simp [↓hfite, ↓hf1, ↓hf2, ↓hf3, State.utcFrom]

theorem State.selectGm_frame (s : State) (b : ℕ) (f : ForeignMaster) :
    (State.selectGm s b f).now = s.now ∧ (State.selectGm s b f).pending = s.pending ∧
    (State.selectGm s b f).regs0 = s.regs0 ∧ (State.selectGm s b f).freeCtr = s.freeCtr ∧
    (State.selectGm s b f).mode = s.mode ∧ (State.selectGm s b f).mram.keyCnt = s.mram.keyCnt ∧
    (State.selectGm s b f).mram.boot = s.mram.boot ∧ (State.selectGm s b f).sys = s.sys ∧
    (State.selectGm s b f).ana = s.ana ∧ (State.selectGm s b f).aux = s.aux ∧ (State.selectGm s b f).flt = s.flt ∧
    (State.selectGm s b f).net = s.net ∧ (State.selectGm s b f).prt = s.prt ∧ (State.selectGm s b f).trp = s.trp ∧
    (State.selectGm s b f).pod = s.pod ∧ (State.selectGm s b f).lgc = s.lgc ∧ (State.selectGm s b f).gsv = s.gsv ∧
    (State.selectGm s b f).tph = s.tph ∧ (State.selectGm s b f).oz = s.oz ∧ (State.selectGm s b f).sec = s.sec ∧
    (State.selectGm s b f).cmd = s.cmd := by
  have hfite := @State.ite_frame
  have hf1 := @State.raise_frame
  have hf2 := @State.incSat_frame
  have hf3 := @State.setF_frame
  have hf4 := @State.setTb_frame
  simp [↓hfite, ↓hf1, ↓hf2, ↓hf3, ↓hf4, State.selectGm]

theorem State.runBmca_frame (s : State) (b : ℕ) :
    (State.runBmca s b).now = s.now ∧ (State.runBmca s b).pending = s.pending ∧ (State.runBmca s b).regs0 = s.regs0 ∧
    (State.runBmca s b).freeCtr = s.freeCtr ∧ (State.runBmca s b).mode = s.mode ∧
    (State.runBmca s b).mram.keyCnt = s.mram.keyCnt ∧ (State.runBmca s b).mram.boot = s.mram.boot ∧
    (State.runBmca s b).sys = s.sys ∧ (State.runBmca s b).ana = s.ana ∧ (State.runBmca s b).aux = s.aux ∧
    (State.runBmca s b).flt = s.flt ∧ (State.runBmca s b).net = s.net ∧ (State.runBmca s b).prt = s.prt ∧
    (State.runBmca s b).trp = s.trp ∧ (State.runBmca s b).pod = s.pod ∧ (State.runBmca s b).lgc = s.lgc ∧
    (State.runBmca s b).gsv = s.gsv ∧ (State.runBmca s b).tph = s.tph ∧ (State.runBmca s b).oz = s.oz ∧
    (State.runBmca s b).sec = s.sec ∧ (State.runBmca s b).cmd = s.cmd := by
  have hf1 := @State.selectGm_frame
  unfold State.runBmca
  (repeat' split) <;> simp [↓hf1]

theorem State.announceFor_frame (s : State) (b : ℕ) (p : ℕ) (m : AnnounceMsg) :
    (State.announceFor s b p m).now = s.now ∧ (State.announceFor s b p m).pending = s.pending ∧
    (State.announceFor s b p m).regs0 = s.regs0 ∧ (State.announceFor s b p m).freeCtr = s.freeCtr ∧
    (State.announceFor s b p m).mode = s.mode ∧ (State.announceFor s b p m).mram.keyCnt = s.mram.keyCnt ∧
    (State.announceFor s b p m).mram.boot = s.mram.boot ∧ (State.announceFor s b p m).sys = s.sys ∧
    (State.announceFor s b p m).ana = s.ana ∧ (State.announceFor s b p m).aux = s.aux ∧
    (State.announceFor s b p m).flt = s.flt ∧ (State.announceFor s b p m).net = s.net ∧
    (State.announceFor s b p m).prt = s.prt ∧ (State.announceFor s b p m).trp = s.trp ∧
    (State.announceFor s b p m).pod = s.pod ∧ (State.announceFor s b p m).lgc = s.lgc ∧
    (State.announceFor s b p m).gsv = s.gsv ∧ (State.announceFor s b p m).tph = s.tph ∧
    (State.announceFor s b p m).oz = s.oz ∧ (State.announceFor s b p m).sec = s.sec ∧
    (State.announceFor s b p m).cmd = s.cmd := by
  have hfite := @State.ite_frame
  have hf1 := @State.utcFrom_frame
  have hf2 := @State.runBmca_frame
  have hf3 := @State.setTb_frame
  simp [↓hfite, ↓hf1, ↓hf2, ↓hf3, State.announceFor]

theorem announceReceiveEff_frame (p : ℕ) (m : AnnounceMsg) (s : State) :
    (announceReceiveEff p m s).now = s.now ∧ (announceReceiveEff p m s).pending = s.pending ∧
    (announceReceiveEff p m s).regs0 = s.regs0 ∧ (announceReceiveEff p m s).freeCtr = s.freeCtr ∧
    (announceReceiveEff p m s).mode = s.mode ∧ (announceReceiveEff p m s).mram.keyCnt = s.mram.keyCnt ∧
    (announceReceiveEff p m s).mram.boot = s.mram.boot ∧ (announceReceiveEff p m s).sys = s.sys ∧
    (announceReceiveEff p m s).ana = s.ana ∧ (announceReceiveEff p m s).aux = s.aux ∧
    (announceReceiveEff p m s).flt = s.flt ∧ (announceReceiveEff p m s).net = s.net ∧
    (announceReceiveEff p m s).prt = s.prt ∧ (announceReceiveEff p m s).trp = s.trp ∧
    (announceReceiveEff p m s).pod = s.pod ∧ (announceReceiveEff p m s).lgc = s.lgc ∧
    (announceReceiveEff p m s).gsv = s.gsv ∧ (announceReceiveEff p m s).tph = s.tph ∧
    (announceReceiveEff p m s).oz = s.oz ∧ (announceReceiveEff p m s).sec = s.sec ∧
    (announceReceiveEff p m s).cmd = s.cmd := by
  have hfite := @State.ite_frame
  have hf1 := @State.announceFor_frame
  simp [↓hfite, ↓hf1, announceReceiveEff]

theorem syncLossEff_frame (b : ℕ) (s : State) :
    (syncLossEff b s).now = s.now ∧ (syncLossEff b s).pending = s.pending ∧ (syncLossEff b s).regs0 = s.regs0 ∧
    (syncLossEff b s).freeCtr = s.freeCtr ∧ (syncLossEff b s).mode = s.mode ∧
    (syncLossEff b s).mram.keyCnt = s.mram.keyCnt ∧ (syncLossEff b s).mram.boot = s.mram.boot ∧
    (syncLossEff b s).sys = s.sys ∧ (syncLossEff b s).ana = s.ana ∧ (syncLossEff b s).aux = s.aux ∧
    (syncLossEff b s).flt = s.flt ∧ (syncLossEff b s).net = s.net ∧ (syncLossEff b s).prt = s.prt ∧
    (syncLossEff b s).trp = s.trp ∧ (syncLossEff b s).pod = s.pod ∧ (syncLossEff b s).lgc = s.lgc ∧
    (syncLossEff b s).gsv = s.gsv ∧ (syncLossEff b s).tph = s.tph ∧ (syncLossEff b s).oz = s.oz ∧
    (syncLossEff b s).sec = s.sec ∧ (syncLossEff b s).cmd = s.cmd := by
  have hfite := @State.ite_frame
  have hf1 := @State.setTb_frame
  have hf2 := @State.srcLost_frame
  simp [↓hfite, ↓hf1, ↓hf2, syncLossEff]

theorem announceReceiptTimeoutEff_frame (b : ℕ) (s : State) :
    (announceReceiptTimeoutEff b s).now = s.now ∧ (announceReceiptTimeoutEff b s).pending = s.pending ∧
    (announceReceiptTimeoutEff b s).regs0 = s.regs0 ∧ (announceReceiptTimeoutEff b s).freeCtr = s.freeCtr ∧
    (announceReceiptTimeoutEff b s).mode = s.mode ∧ (announceReceiptTimeoutEff b s).mram.keyCnt = s.mram.keyCnt ∧
    (announceReceiptTimeoutEff b s).mram.boot = s.mram.boot ∧ (announceReceiptTimeoutEff b s).sys = s.sys ∧
    (announceReceiptTimeoutEff b s).ana = s.ana ∧ (announceReceiptTimeoutEff b s).aux = s.aux ∧
    (announceReceiptTimeoutEff b s).flt = s.flt ∧ (announceReceiptTimeoutEff b s).net = s.net ∧
    (announceReceiptTimeoutEff b s).prt = s.prt ∧ (announceReceiptTimeoutEff b s).trp = s.trp ∧
    (announceReceiptTimeoutEff b s).pod = s.pod ∧ (announceReceiptTimeoutEff b s).lgc = s.lgc ∧
    (announceReceiptTimeoutEff b s).gsv = s.gsv ∧ (announceReceiptTimeoutEff b s).tph = s.tph ∧
    (announceReceiptTimeoutEff b s).oz = s.oz ∧ (announceReceiptTimeoutEff b s).sec = s.sec ∧
    (announceReceiptTimeoutEff b s).cmd = s.cmd := by
  have hf1 := @State.runBmca_frame
  have hf2 := @State.setTb_frame
  have hf3 := @State.srcLost_frame
  simp [↓hf1, ↓hf2, ↓hf3, announceReceiptTimeoutEff]
  (repeat' split) <;> simp [↓hf1, ↓hf2, ↓hf3]

theorem State.txFrame_frame (s : State) (p : ℕ) (f : TxFrame) :
    (State.txFrame s p f).now = s.now ∧ (State.txFrame s p f).pending = s.pending ∧
    (State.txFrame s p f).regs0 = s.regs0 ∧ (State.txFrame s p f).freeCtr = s.freeCtr ∧
    (State.txFrame s p f).mode = s.mode ∧ (State.txFrame s p f).mram = s.mram ∧ (State.txFrame s p f).sys = s.sys ∧
    (State.txFrame s p f).evt = s.evt ∧ (State.txFrame s p f).ana = s.ana ∧ (State.txFrame s p f).aux = s.aux ∧
    (State.txFrame s p f).flt = s.flt ∧ (State.txFrame s p f).tim = s.tim ∧ (State.txFrame s p f).prt = s.prt ∧
    (State.txFrame s p f).trp = s.trp ∧ (State.txFrame s p f).pod = s.pod ∧ (State.txFrame s p f).lgc = s.lgc ∧
    (State.txFrame s p f).gsv = s.gsv ∧ (State.txFrame s p f).tph = s.tph ∧ (State.txFrame s p f).oz = s.oz ∧
    (State.txFrame s p f).sec = s.sec ∧ (State.txFrame s p f).cmd = s.cmd := by
  have hfite := @State.ite_frame
  have hf1 := @State.incWrap_frame
  simp [↓hfite, ↓hf1, State.txFrame]

theorem State.nextRedSeq_frame (s : State) :
    (State.nextRedSeq s).now = s.now ∧ (State.nextRedSeq s).pending = s.pending ∧
    (State.nextRedSeq s).regs0 = s.regs0 ∧ (State.nextRedSeq s).freeCtr = s.freeCtr ∧
    (State.nextRedSeq s).mode = s.mode ∧ (State.nextRedSeq s).mram = s.mram ∧ (State.nextRedSeq s).sys = s.sys ∧
    (State.nextRedSeq s).evt = s.evt ∧ (State.nextRedSeq s).ana = s.ana ∧ (State.nextRedSeq s).aux = s.aux ∧
    (State.nextRedSeq s).flt = s.flt ∧ (State.nextRedSeq s).tim = s.tim ∧ (State.nextRedSeq s).prt = s.prt ∧
    (State.nextRedSeq s).trp = s.trp ∧ (State.nextRedSeq s).pod = s.pod ∧ (State.nextRedSeq s).lgc = s.lgc ∧
    (State.nextRedSeq s).gsv = s.gsv ∧ (State.nextRedSeq s).tph = s.tph ∧ (State.nextRedSeq s).oz = s.oz ∧
    (State.nextRedSeq s).sec = s.sec ∧ (State.nextRedSeq s).cmd = s.cmd ∧ (State.nextRedSeq s).regs = s.regs := by
  have hfite := @State.ite_frame
  simp [↓hfite, State.nextRedSeq]

theorem State.txOwn_frame (s : State) (ports : List ℕ) (f : TxFrame) :
    (State.txOwn s ports f).now = s.now ∧ (State.txOwn s ports f).pending = s.pending ∧
    (State.txOwn s ports f).regs0 = s.regs0 ∧ (State.txOwn s ports f).freeCtr = s.freeCtr ∧
    (State.txOwn s ports f).mode = s.mode ∧ (State.txOwn s ports f).mram = s.mram ∧
    (State.txOwn s ports f).sys = s.sys ∧ (State.txOwn s ports f).evt = s.evt ∧ (State.txOwn s ports f).ana = s.ana ∧
    (State.txOwn s ports f).aux = s.aux ∧ (State.txOwn s ports f).flt = s.flt ∧ (State.txOwn s ports f).tim = s.tim ∧
    (State.txOwn s ports f).prt = s.prt ∧ (State.txOwn s ports f).trp = s.trp ∧ (State.txOwn s ports f).pod = s.pod ∧
    (State.txOwn s ports f).lgc = s.lgc ∧ (State.txOwn s ports f).gsv = s.gsv ∧ (State.txOwn s ports f).tph = s.tph ∧
    (State.txOwn s ports f).oz = s.oz ∧ (State.txOwn s ports f).sec = s.sec ∧ (State.txOwn s ports f).cmd = s.cmd := by
  have hfite := @State.ite_frame
  have hf1 := @State.nextRedSeq_frame
  have hf2 := @State.txFrame_frame
  simp [↓hfite, ↓hf1, ↓hf2, State.txOwn]

theorem gmTransmitEff_frame (b : ℕ) (s : State) :
    (gmTransmitEff b s).now = s.now ∧ (gmTransmitEff b s).pending = s.pending ∧ (gmTransmitEff b s).regs0 = s.regs0 ∧
    (gmTransmitEff b s).freeCtr = s.freeCtr ∧ (gmTransmitEff b s).mode = s.mode ∧ (gmTransmitEff b s).mram = s.mram ∧
    (gmTransmitEff b s).sys = s.sys ∧ (gmTransmitEff b s).evt = s.evt ∧ (gmTransmitEff b s).ana = s.ana ∧
    (gmTransmitEff b s).aux = s.aux ∧ (gmTransmitEff b s).flt = s.flt ∧ (gmTransmitEff b s).prt = s.prt ∧
    (gmTransmitEff b s).trp = s.trp ∧ (gmTransmitEff b s).pod = s.pod ∧ (gmTransmitEff b s).lgc = s.lgc ∧
    (gmTransmitEff b s).gsv = s.gsv ∧ (gmTransmitEff b s).tph = s.tph ∧ (gmTransmitEff b s).oz = s.oz ∧
    (gmTransmitEff b s).sec = s.sec ∧ (gmTransmitEff b s).cmd = s.cmd := by
  have hfite := @State.ite_frame
  have hf1 := @State.setTb_frame
  have hf2 := @State.txOwn_frame
  simp [↓hfite, ↓hf1, ↓hf2, gmTransmitEff]

theorem State.irigGood_frame (s : State) (b : ℕ) (at_ : ℕ) (f : IrigFrame) :
    (State.irigGood s b at_ f).now = s.now ∧ (State.irigGood s b at_ f).pending = s.pending ∧
    (State.irigGood s b at_ f).regs0 = s.regs0 ∧ (State.irigGood s b at_ f).freeCtr = s.freeCtr ∧
    (State.irigGood s b at_ f).mode = s.mode ∧ (State.irigGood s b at_ f).mram.keyCnt = s.mram.keyCnt ∧
    (State.irigGood s b at_ f).mram.boot = s.mram.boot ∧ (State.irigGood s b at_ f).sys = s.sys ∧
    (State.irigGood s b at_ f).ana = s.ana ∧ (State.irigGood s b at_ f).aux = s.aux ∧
    (State.irigGood s b at_ f).flt = s.flt ∧ (State.irigGood s b at_ f).net = s.net ∧
    (State.irigGood s b at_ f).prt = s.prt ∧ (State.irigGood s b at_ f).trp = s.trp ∧
    (State.irigGood s b at_ f).pod = s.pod ∧ (State.irigGood s b at_ f).lgc = s.lgc ∧
    (State.irigGood s b at_ f).gsv = s.gsv ∧ (State.irigGood s b at_ f).tph = s.tph ∧
    (State.irigGood s b at_ f).oz = s.oz ∧ (State.irigGood s b at_ f).sec = s.sec ∧
    (State.irigGood s b at_ f).cmd = s.cmd := by
  have hfite := @State.ite_frame
  have hf1 := @State.setTb_frame
  have hf2 := @State.putUtc_frame
  have hf3 := @State.setQual_frame
  have hf4 := @State.servoUpdate_frame
  simp [↓hfite, ↓hf1, ↓hf2, ↓hf3, ↓hf4, State.irigGood]
  (repeat' split) <;> simp [↓hfite, ↓hf1, ↓hf2, ↓hf3, ↓hf4]

theorem irigbFrameEff_frame (mark : ℕ) (f : IrigFrame) (s : State) :
    (irigbFrameEff mark f s).now = s.now ∧ (irigbFrameEff mark f s).pending = s.pending ∧
    (irigbFrameEff mark f s).regs0 = s.regs0 ∧ (irigbFrameEff mark f s).freeCtr = s.freeCtr ∧
    (irigbFrameEff mark f s).mode = s.mode ∧ (irigbFrameEff mark f s).mram.keyCnt = s.mram.keyCnt ∧
    (irigbFrameEff mark f s).mram.boot = s.mram.boot ∧ (irigbFrameEff mark f s).sys = s.sys ∧
    (irigbFrameEff mark f s).ana = s.ana ∧ (irigbFrameEff mark f s).aux = s.aux ∧
    (irigbFrameEff mark f s).flt = s.flt ∧ (irigbFrameEff mark f s).net = s.net ∧
    (irigbFrameEff mark f s).prt = s.prt ∧ (irigbFrameEff mark f s).trp = s.trp ∧
    (irigbFrameEff mark f s).pod = s.pod ∧ (irigbFrameEff mark f s).lgc = s.lgc ∧
    (irigbFrameEff mark f s).gsv = s.gsv ∧ (irigbFrameEff mark f s).tph = s.tph ∧
    (irigbFrameEff mark f s).oz = s.oz ∧ (irigbFrameEff mark f s).sec = s.sec ∧ (irigbFrameEff mark f s).cmd = s.cmd := by
  have hfite := @State.ite_frame
  have hf1 := @State.irigGood_frame
  have hf2 := @State.setTb_frame
  simp [↓hfite, ↓hf1, ↓hf2, irigbFrameEff]

theorem irigbLossEff_frame (s : State) :
    (irigbLossEff s).now = s.now ∧ (irigbLossEff s).pending = s.pending ∧ (irigbLossEff s).regs0 = s.regs0 ∧
    (irigbLossEff s).freeCtr = s.freeCtr ∧ (irigbLossEff s).mode = s.mode ∧
    (irigbLossEff s).mram.keyCnt = s.mram.keyCnt ∧ (irigbLossEff s).mram.boot = s.mram.boot ∧
    (irigbLossEff s).sys = s.sys ∧ (irigbLossEff s).ana = s.ana ∧ (irigbLossEff s).aux = s.aux ∧
    (irigbLossEff s).flt = s.flt ∧ (irigbLossEff s).net = s.net ∧ (irigbLossEff s).prt = s.prt ∧
    (irigbLossEff s).trp = s.trp ∧ (irigbLossEff s).pod = s.pod ∧ (irigbLossEff s).lgc = s.lgc ∧
    (irigbLossEff s).gsv = s.gsv ∧ (irigbLossEff s).tph = s.tph ∧ (irigbLossEff s).oz = s.oz ∧
    (irigbLossEff s).sec = s.sec ∧ (irigbLossEff s).cmd = s.cmd := by
  have hfite := @State.ite_frame
  have hf1 := @State.setTb_frame
  have hf2 := @State.srcLost_frame
  simp [↓hfite, ↓hf1, ↓hf2, irigbLossEff]

theorem State.ppsFor_frame (s : State) (b : ℕ) :
    (State.ppsFor s b).now = s.now ∧ (State.ppsFor s b).pending = s.pending ∧ (State.ppsFor s b).regs0 = s.regs0 ∧
    (State.ppsFor s b).freeCtr = s.freeCtr ∧ (State.ppsFor s b).mode = s.mode ∧
    (State.ppsFor s b).mram.keyCnt = s.mram.keyCnt ∧ (State.ppsFor s b).mram.boot = s.mram.boot ∧
    (State.ppsFor s b).sys = s.sys ∧ (State.ppsFor s b).ana = s.ana ∧ (State.ppsFor s b).aux = s.aux ∧
    (State.ppsFor s b).flt = s.flt ∧ (State.ppsFor s b).net = s.net ∧ (State.ppsFor s b).prt = s.prt ∧
    (State.ppsFor s b).trp = s.trp ∧ (State.ppsFor s b).pod = s.pod ∧ (State.ppsFor s b).lgc = s.lgc ∧
    (State.ppsFor s b).gsv = s.gsv ∧ (State.ppsFor s b).tph = s.tph ∧ (State.ppsFor s b).oz = s.oz ∧
    (State.ppsFor s b).sec = s.sec ∧ (State.ppsFor s b).cmd = s.cmd := by
  have hfite := @State.ite_frame
  have hf1 := @State.setTb_frame
  have hf2 := @State.servoUpdate_frame
  simp [↓hfite, ↓hf1, ↓hf2, State.ppsFor]
  (repeat' split) <;> simp [↓hfite, ↓hf1, ↓hf2]

theorem ppsInEdgeEff_frame (s : State) :
    (ppsInEdgeEff s).now = s.now ∧ (ppsInEdgeEff s).pending = s.pending ∧ (ppsInEdgeEff s).regs0 = s.regs0 ∧
    (ppsInEdgeEff s).freeCtr = s.freeCtr ∧ (ppsInEdgeEff s).mode = s.mode ∧
    (ppsInEdgeEff s).mram.keyCnt = s.mram.keyCnt ∧ (ppsInEdgeEff s).mram.boot = s.mram.boot ∧
    (ppsInEdgeEff s).sys = s.sys ∧ (ppsInEdgeEff s).ana = s.ana ∧ (ppsInEdgeEff s).aux = s.aux ∧
    (ppsInEdgeEff s).flt = s.flt ∧ (ppsInEdgeEff s).net = s.net ∧ (ppsInEdgeEff s).prt = s.prt ∧
    (ppsInEdgeEff s).trp = s.trp ∧ (ppsInEdgeEff s).pod = s.pod ∧ (ppsInEdgeEff s).lgc = s.lgc ∧
    (ppsInEdgeEff s).gsv = s.gsv ∧ (ppsInEdgeEff s).tph = s.tph ∧ (ppsInEdgeEff s).oz = s.oz ∧
    (ppsInEdgeEff s).sec = s.sec ∧ (ppsInEdgeEff s).cmd = s.cmd := by
  have hfite := @State.ite_frame
  have hf1 := @State.ppsFor_frame
  simp [↓hfite, ↓hf1, ppsInEdgeEff]

theorem ppsLossEff_frame (s : State) :
    (ppsLossEff s).now = s.now ∧ (ppsLossEff s).pending = s.pending ∧ (ppsLossEff s).regs0 = s.regs0 ∧
    (ppsLossEff s).freeCtr = s.freeCtr ∧ (ppsLossEff s).mode = s.mode ∧ (ppsLossEff s).mram.keyCnt = s.mram.keyCnt ∧
    (ppsLossEff s).mram.boot = s.mram.boot ∧ (ppsLossEff s).sys = s.sys ∧ (ppsLossEff s).ana = s.ana ∧
    (ppsLossEff s).aux = s.aux ∧ (ppsLossEff s).flt = s.flt ∧ (ppsLossEff s).net = s.net ∧
    (ppsLossEff s).prt = s.prt ∧ (ppsLossEff s).trp = s.trp ∧ (ppsLossEff s).pod = s.pod ∧
    (ppsLossEff s).lgc = s.lgc ∧ (ppsLossEff s).gsv = s.gsv ∧ (ppsLossEff s).tph = s.tph ∧ (ppsLossEff s).oz = s.oz ∧
    (ppsLossEff s).sec = s.sec ∧ (ppsLossEff s).cmd = s.cmd := by
  have hfite := @State.ite_frame
  have hf1 := @State.srcLost_frame
  unfold ppsLossEff
  (repeat' split) <;> first | (simp [↓hfite, ↓hf1]; done) | exact ⟨foldl_now _ _ _ (fun s x => by (try dsimp only); (repeat' split) <;> simp [↓hfite, ↓hf1]), foldl_pending _ _ _ (fun s x => by (try dsimp only); (repeat' split) <;> simp [↓hfite, ↓hf1]), foldl_regs0 _ _ _ (fun s x => by (try dsimp only); (repeat' split) <;> simp [↓hfite, ↓hf1]), foldl_freeCtr _ _ _ (fun s x => by (try dsimp only); (repeat' split) <;> simp [↓hfite, ↓hf1]), foldl_mode _ _ _ (fun s x => by (try dsimp only); (repeat' split) <;> simp [↓hfite, ↓hf1]), foldl_mram_keyCnt _ _ _ (fun s x => by (try dsimp only); (repeat' split) <;> simp [↓hfite, ↓hf1]), foldl_mram_boot _ _ _ (fun s x => by (try dsimp only); (repeat' split) <;> simp [↓hfite, ↓hf1]), foldl_sys _ _ _ (fun s x => by (try dsimp only); (repeat' split) <;> simp [↓hfite, ↓hf1]), foldl_ana _ _ _ (fun s x => by (try dsimp only); (repeat' split) <;> simp [↓hfite, ↓hf1]), foldl_aux _ _ _ (fun s x => by (try dsimp only); (repeat' split) <;> simp [↓hfite, ↓hf1]), foldl_flt _ _ _ (fun s x => by (try dsimp only); (repeat' split) <;> simp [↓hfite, ↓hf1]), foldl_net _ _ _ (fun s x => by (try dsimp only); (repeat' split) <;> simp [↓hfite, ↓hf1]), foldl_prt _ _ _ (fun s x => by (try dsimp only); (repeat' split) <;> simp [↓hfite, ↓hf1]), foldl_trp _ _ _ (fun s x => by (try dsimp only); (repeat' split) <;> simp [↓hfite, ↓hf1]), foldl_pod _ _ _ (fun s x => by (try dsimp only); (repeat' split) <;> simp [↓hfite, ↓hf1]), foldl_lgc _ _ _ (fun s x => by (try dsimp only); (repeat' split) <;> simp [↓hfite, ↓hf1]), foldl_gsv _ _ _ (fun s x => by (try dsimp only); (repeat' split) <;> simp [↓hfite, ↓hf1]), foldl_tph _ _ _ (fun s x => by (try dsimp only); (repeat' split) <;> simp [↓hfite, ↓hf1]), foldl_oz _ _ _ (fun s x => by (try dsimp only); (repeat' split) <;> simp [↓hfite, ↓hf1]), foldl_sec _ _ _ (fun s x => by (try dsimp only); (repeat' split) <;> simp [↓hfite, ↓hf1]), foldl_cmd _ _ _ (fun s x => by (try dsimp only); (repeat' split) <;> simp [↓hfite, ↓hf1])⟩

theorem ppsOutRiseEff_frame (s : State) :
    (ppsOutRiseEff s).now = s.now ∧ (ppsOutRiseEff s).pending = s.pending ∧ (ppsOutRiseEff s).regs0 = s.regs0 ∧
    (ppsOutRiseEff s).freeCtr = s.freeCtr ∧ (ppsOutRiseEff s).mode = s.mode ∧ (ppsOutRiseEff s).mram = s.mram ∧
    (ppsOutRiseEff s).sys = s.sys ∧ (ppsOutRiseEff s).evt = s.evt ∧ (ppsOutRiseEff s).ana = s.ana ∧
    (ppsOutRiseEff s).aux = s.aux ∧ (ppsOutRiseEff s).flt = s.flt ∧ (ppsOutRiseEff s).net = s.net ∧
    (ppsOutRiseEff s).prt = s.prt ∧ (ppsOutRiseEff s).trp = s.trp ∧ (ppsOutRiseEff s).pod = s.pod ∧
    (ppsOutRiseEff s).lgc = s.lgc ∧ (ppsOutRiseEff s).gsv = s.gsv ∧ (ppsOutRiseEff s).tph = s.tph ∧
    (ppsOutRiseEff s).oz = s.oz ∧ (ppsOutRiseEff s).sec = s.sec ∧ (ppsOutRiseEff s).cmd = s.cmd ∧
    (ppsOutRiseEff s).regs = s.regs := by
  have hfite := @State.ite_frame
  simp [↓hfite, ppsOutRiseEff]

theorem ppsOutFallEff_frame (s : State) :
    (ppsOutFallEff s).now = s.now ∧ (ppsOutFallEff s).pending = s.pending ∧ (ppsOutFallEff s).regs0 = s.regs0 ∧
    (ppsOutFallEff s).freeCtr = s.freeCtr ∧ (ppsOutFallEff s).mode = s.mode ∧ (ppsOutFallEff s).mram = s.mram ∧
    (ppsOutFallEff s).sys = s.sys ∧ (ppsOutFallEff s).evt = s.evt ∧ (ppsOutFallEff s).ana = s.ana ∧
    (ppsOutFallEff s).aux = s.aux ∧ (ppsOutFallEff s).flt = s.flt ∧ (ppsOutFallEff s).net = s.net ∧
    (ppsOutFallEff s).prt = s.prt ∧ (ppsOutFallEff s).trp = s.trp ∧ (ppsOutFallEff s).pod = s.pod ∧
    (ppsOutFallEff s).lgc = s.lgc ∧ (ppsOutFallEff s).gsv = s.gsv ∧ (ppsOutFallEff s).tph = s.tph ∧
    (ppsOutFallEff s).oz = s.oz ∧ (ppsOutFallEff s).sec = s.sec ∧ (ppsOutFallEff s).cmd = s.cmd ∧
    (ppsOutFallEff s).regs = s.regs := by
  have hfite := @State.ite_frame
  simp [↓hfite, ppsOutFallEff]

theorem State.setCarry_frame (s : State) (c : ℤ) :
    (State.setCarry s c).now = s.now ∧ (State.setCarry s c).pending = s.pending ∧
    (State.setCarry s c).regs0 = s.regs0 ∧ (State.setCarry s c).freeCtr = s.freeCtr ∧
    (State.setCarry s c).mode = s.mode ∧ (State.setCarry s c).mram = s.mram ∧ (State.setCarry s c).sys = s.sys ∧
    (State.setCarry s c).evt = s.evt ∧ (State.setCarry s c).ana = s.ana ∧ (State.setCarry s c).aux = s.aux ∧
    (State.setCarry s c).flt = s.flt ∧ (State.setCarry s c).net = s.net ∧ (State.setCarry s c).prt = s.prt ∧
    (State.setCarry s c).trp = s.trp ∧ (State.setCarry s c).pod = s.pod ∧ (State.setCarry s c).lgc = s.lgc ∧
    (State.setCarry s c).gsv = s.gsv ∧ (State.setCarry s c).tph = s.tph ∧ (State.setCarry s c).oz = s.oz ∧
    (State.setCarry s c).sec = s.sec ∧ (State.setCarry s c).cmd = s.cmd ∧ (State.setCarry s c).regs = s.regs := by
  simp [State.setCarry]

theorem State.takeStep_frame (s : State) (b : ℕ) :
    (State.takeStep s b).now = s.now ∧ (State.takeStep s b).pending = s.pending ∧
    (State.takeStep s b).regs0 = s.regs0 ∧ (State.takeStep s b).freeCtr = s.freeCtr ∧
    (State.takeStep s b).mode = s.mode ∧ (State.takeStep s b).mram.keyCnt = s.mram.keyCnt ∧
    (State.takeStep s b).mram.boot = s.mram.boot ∧ (State.takeStep s b).sys = s.sys ∧
    (State.takeStep s b).ana = s.ana ∧ (State.takeStep s b).aux = s.aux ∧ (State.takeStep s b).flt = s.flt ∧
    (State.takeStep s b).net = s.net ∧ (State.takeStep s b).prt = s.prt ∧ (State.takeStep s b).trp = s.trp ∧
    (State.takeStep s b).pod = s.pod ∧ (State.takeStep s b).lgc = s.lgc ∧ (State.takeStep s b).gsv = s.gsv ∧
    (State.takeStep s b).tph = s.tph ∧ (State.takeStep s b).oz = s.oz ∧ (State.takeStep s b).sec = s.sec ∧
    (State.takeStep s b).cmd = s.cmd := by
  have hfite := @State.ite_frame
  have hf1 := @State.setCarry_frame
  have hf2 := @State.raise_frame
  have hf3 := @State.tbEnter_frame
  have hf4 := @State.setTb_frame
  have hf5 := @State.incSat_frame
  have hf6 := @State.setPend_frame
  have hf7 := @State.applyStep_frame
  simp [↓hfite, ↓hf1, ↓hf2, ↓hf3, ↓hf4, ↓hf5, ↓hf6, ↓hf7, State.takeStep]

theorem stepApplyEff_frame (b : ℕ) (s : State) :
    (stepApplyEff b s).now = s.now ∧ (stepApplyEff b s).pending = s.pending ∧ (stepApplyEff b s).regs0 = s.regs0 ∧
    (stepApplyEff b s).freeCtr = s.freeCtr ∧ (stepApplyEff b s).mode = s.mode ∧
    (stepApplyEff b s).mram.keyCnt = s.mram.keyCnt ∧ (stepApplyEff b s).mram.boot = s.mram.boot ∧
    (stepApplyEff b s).sys = s.sys ∧ (stepApplyEff b s).ana = s.ana ∧ (stepApplyEff b s).aux = s.aux ∧
    (stepApplyEff b s).flt = s.flt ∧ (stepApplyEff b s).net = s.net ∧ (stepApplyEff b s).prt = s.prt ∧
    (stepApplyEff b s).trp = s.trp ∧ (stepApplyEff b s).pod = s.pod ∧ (stepApplyEff b s).lgc = s.lgc ∧
    (stepApplyEff b s).gsv = s.gsv ∧ (stepApplyEff b s).tph = s.tph ∧ (stepApplyEff b s).oz = s.oz ∧
    (stepApplyEff b s).sec = s.sec ∧ (stepApplyEff b s).cmd = s.cmd := by
  have hf1 := @State.applyStep_frame
  have hf2 := @State.takeStep_frame
  unfold stepApplyEff
  (repeat' split) <;> simp [↓hf1, ↓hf2]

theorem compatSwitchEff_frame (s : State) :
    (compatSwitchEff s).now = s.now ∧ (compatSwitchEff s).pending = s.pending ∧ (compatSwitchEff s).regs0 = s.regs0 ∧
    (compatSwitchEff s).freeCtr = s.freeCtr ∧ (compatSwitchEff s).mode = s.mode ∧
    (compatSwitchEff s).mram.keyCnt = s.mram.keyCnt ∧ (compatSwitchEff s).mram.boot = s.mram.boot ∧
    (compatSwitchEff s).sys = s.sys ∧ (compatSwitchEff s).ana = s.ana ∧ (compatSwitchEff s).aux = s.aux ∧
    (compatSwitchEff s).flt = s.flt ∧ (compatSwitchEff s).net = s.net ∧ (compatSwitchEff s).prt = s.prt ∧
    (compatSwitchEff s).trp = s.trp ∧ (compatSwitchEff s).pod = s.pod ∧ (compatSwitchEff s).lgc = s.lgc ∧
    (compatSwitchEff s).gsv = s.gsv ∧ (compatSwitchEff s).tph = s.tph ∧ (compatSwitchEff s).oz = s.oz ∧
    (compatSwitchEff s).sec = s.sec ∧ (compatSwitchEff s).cmd = s.cmd := by
  have hfite := @State.ite_frame
  have hf1 := @State.incSat_frame
  have hf2 := @State.setFlag_frame
  have hf3 := @State.setF_frame
  have hf4 := @State.keepE0_frame
  have hf5 := @State.putUtc_frame
  have hf6 := @State.setCarry_frame
  have hf7 := @State.setPend_frame
  have hf8 := @State.raise_frame
  have hf9 := @State.tbEnter_frame
  simp [↓hfite, ↓hf1, ↓hf2, ↓hf3, ↓hf4, ↓hf5, ↓hf6, ↓hf7, ↓hf8, ↓hf9, compatSwitchEff]

theorem tqcDegradeEff_frame (b : ℕ) (s : State) :
    (tqcDegradeEff b s).now = s.now ∧ (tqcDegradeEff b s).pending = s.pending ∧ (tqcDegradeEff b s).regs0 = s.regs0 ∧
    (tqcDegradeEff b s).freeCtr = s.freeCtr ∧ (tqcDegradeEff b s).mode = s.mode ∧ (tqcDegradeEff b s).mram = s.mram ∧
    (tqcDegradeEff b s).sys = s.sys ∧ (tqcDegradeEff b s).evt = s.evt ∧ (tqcDegradeEff b s).ana = s.ana ∧
    (tqcDegradeEff b s).aux = s.aux ∧ (tqcDegradeEff b s).flt = s.flt ∧ (tqcDegradeEff b s).tim = s.tim ∧
    (tqcDegradeEff b s).net = s.net ∧ (tqcDegradeEff b s).prt = s.prt ∧ (tqcDegradeEff b s).trp = s.trp ∧
    (tqcDegradeEff b s).pod = s.pod ∧ (tqcDegradeEff b s).lgc = s.lgc ∧ (tqcDegradeEff b s).gsv = s.gsv ∧
    (tqcDegradeEff b s).tph = s.tph ∧ (tqcDegradeEff b s).oz = s.oz ∧ (tqcDegradeEff b s).sec = s.sec ∧
    (tqcDegradeEff b s).cmd = s.cmd := by
  have hfite := @State.ite_frame
  have hf1 := @State.setQual_frame
  simp [↓hfite, ↓hf1, tqcDegradeEff]
end Sys2Proof.Machine
end

