-- ==== Sys2Proof/Laws/FrameFrames.lean ====
section
/-!
SUPPORT. What the operations of Machine/Frames.lean leave as it was: one lemma per operation, over the parts of the state.
-/
set_option linter.all false
set_option Elab.async false
namespace Sys2Proof.Machine
theorem State.mailRsp_frame (s : State) (bs : List ℕ) :
    (State.mailRsp s bs).now = s.now ∧ (State.mailRsp s bs).pending = s.pending ∧
    (State.mailRsp s bs).regs0 = s.regs0 ∧ (State.mailRsp s bs).freeCtr = s.freeCtr ∧
    (State.mailRsp s bs).mode = s.mode ∧ (State.mailRsp s bs).mram = s.mram ∧ (State.mailRsp s bs).sys = s.sys ∧
    (State.mailRsp s bs).evt = s.evt ∧ (State.mailRsp s bs).ana = s.ana ∧ (State.mailRsp s bs).aux = s.aux ∧
    (State.mailRsp s bs).flt = s.flt ∧ (State.mailRsp s bs).tim = s.tim ∧ (State.mailRsp s bs).net = s.net ∧
    (State.mailRsp s bs).prt = s.prt ∧ (State.mailRsp s bs).trp = s.trp ∧ (State.mailRsp s bs).pod = s.pod ∧
    (State.mailRsp s bs).lgc = s.lgc ∧ (State.mailRsp s bs).gsv = s.gsv ∧ (State.mailRsp s bs).tph = s.tph ∧
    (State.mailRsp s bs).oz = s.oz ∧ (State.mailRsp s bs).sec = s.sec ∧ (State.mailRsp s bs).cmd = s.cmd := by
  have hf1 := @State.setFlag_frame
  have hf2 := @State.setF_frame
  simp [↓hf1, ↓hf2, State.mailRsp]

theorem State.portRsp_frame (s : State) (dst : ℕ) (xid : ℕ) (bs : List ℕ) :
    (State.portRsp s dst xid bs).now = s.now ∧ (State.portRsp s dst xid bs).pending = s.pending ∧
    (State.portRsp s dst xid bs).regs0 = s.regs0 ∧ (State.portRsp s dst xid bs).freeCtr = s.freeCtr ∧
    (State.portRsp s dst xid bs).mode = s.mode ∧ (State.portRsp s dst xid bs).mram = s.mram ∧
    (State.portRsp s dst xid bs).sys = s.sys ∧ (State.portRsp s dst xid bs).evt = s.evt ∧
    (State.portRsp s dst xid bs).ana = s.ana ∧ (State.portRsp s dst xid bs).aux = s.aux ∧
    (State.portRsp s dst xid bs).flt = s.flt ∧ (State.portRsp s dst xid bs).tim = s.tim ∧
    (State.portRsp s dst xid bs).prt = s.prt ∧ (State.portRsp s dst xid bs).trp = s.trp ∧
    (State.portRsp s dst xid bs).pod = s.pod ∧ (State.portRsp s dst xid bs).lgc = s.lgc ∧
    (State.portRsp s dst xid bs).gsv = s.gsv ∧ (State.portRsp s dst xid bs).tph = s.tph ∧
    (State.portRsp s dst xid bs).oz = s.oz ∧ (State.portRsp s dst xid bs).sec = s.sec ∧
    (State.portRsp s dst xid bs).cmd = s.cmd := by
  have hfite := @State.ite_frame
  have hf1 := @State.txFrame_frame
  simp [↓hfite, ↓hf1, State.portRsp]

theorem State.sendRsp_frame (s : State) (tr : ℕ) (xid : ℕ) (src : ℕ) (bs : List ℕ) :
    (State.sendRsp s tr xid src bs).now = s.now ∧ (State.sendRsp s tr xid src bs).pending = s.pending ∧
    (State.sendRsp s tr xid src bs).regs0 = s.regs0 ∧ (State.sendRsp s tr xid src bs).freeCtr = s.freeCtr ∧
    (State.sendRsp s tr xid src bs).mode = s.mode ∧ (State.sendRsp s tr xid src bs).mram = s.mram ∧
    (State.sendRsp s tr xid src bs).sys = s.sys ∧ (State.sendRsp s tr xid src bs).evt = s.evt ∧
    (State.sendRsp s tr xid src bs).ana = s.ana ∧ (State.sendRsp s tr xid src bs).aux = s.aux ∧
    (State.sendRsp s tr xid src bs).flt = s.flt ∧ (State.sendRsp s tr xid src bs).tim = s.tim ∧
    (State.sendRsp s tr xid src bs).prt = s.prt ∧ (State.sendRsp s tr xid src bs).trp = s.trp ∧
    (State.sendRsp s tr xid src bs).pod = s.pod ∧ (State.sendRsp s tr xid src bs).lgc = s.lgc ∧
    (State.sendRsp s tr xid src bs).gsv = s.gsv ∧ (State.sendRsp s tr xid src bs).tph = s.tph ∧
    (State.sendRsp s tr xid src bs).oz = s.oz ∧ (State.sendRsp s tr xid src bs).sec = s.sec ∧
    (State.sendRsp s tr xid src bs).cmd = s.cmd := by
  have hfite := @State.ite_frame
  have hf1 := @State.mailRsp_frame
  have hf2 := @State.incWrap_frame
  have hf3 := @State.portRsp_frame
  simp [↓hfite, ↓hf1, ↓hf2, ↓hf3, State.sendRsp]

theorem State.setKey_frame (s : State) (slot : ℕ) (k : KeySlot) :
    (State.setKey s slot k).now = s.now ∧ (State.setKey s slot k).pending = s.pending ∧
    (State.setKey s slot k).regs0 = s.regs0 ∧ (State.setKey s slot k).freeCtr = s.freeCtr ∧
    (State.setKey s slot k).mode = s.mode ∧ (State.setKey s slot k).mram.keyCnt = s.mram.keyCnt ∧
    (State.setKey s slot k).mram.boot = s.mram.boot ∧ (State.setKey s slot k).sys = s.sys ∧
    (State.setKey s slot k).ana = s.ana ∧ (State.setKey s slot k).aux = s.aux ∧ (State.setKey s slot k).flt = s.flt ∧
    (State.setKey s slot k).tim = s.tim ∧ (State.setKey s slot k).net = s.net ∧ (State.setKey s slot k).prt = s.prt ∧
    (State.setKey s slot k).trp = s.trp ∧ (State.setKey s slot k).pod = s.pod ∧ (State.setKey s slot k).lgc = s.lgc ∧
    (State.setKey s slot k).gsv = s.gsv ∧ (State.setKey s slot k).tph = s.tph ∧ (State.setKey s slot k).oz = s.oz ∧
    (State.setKey s slot k).sec.otp = s.sec.otp ∧ (State.setKey s slot k).cmd = s.cmd := by
  have hf1 := @State.raise_frame
  simp [↓hf1, State.setKey]

theorem State.retireLast_frame (s : State) (q : CmdReq) :
    (State.retireLast s q).now = s.now ∧ (State.retireLast s q).pending = s.pending ∧
    (State.retireLast s q).regs0 = s.regs0 ∧ (State.retireLast s q).freeCtr = s.freeCtr ∧
    (State.retireLast s q).mode = s.mode ∧ (State.retireLast s q).mram.keyCnt = s.mram.keyCnt ∧
    (State.retireLast s q).mram.boot = s.mram.boot ∧ (State.retireLast s q).sys = s.sys ∧
    (State.retireLast s q).ana = s.ana ∧ (State.retireLast s q).aux = s.aux ∧ (State.retireLast s q).flt = s.flt ∧
    (State.retireLast s q).tim = s.tim ∧ (State.retireLast s q).net = s.net ∧ (State.retireLast s q).prt = s.prt ∧
    (State.retireLast s q).trp = s.trp ∧ (State.retireLast s q).pod = s.pod ∧ (State.retireLast s q).lgc = s.lgc ∧
    (State.retireLast s q).gsv = s.gsv ∧ (State.retireLast s q).tph = s.tph ∧ (State.retireLast s q).oz = s.oz ∧
    (State.retireLast s q).sec.otp = s.sec.otp ∧ (State.retireLast s q).cmd = s.cmd := by
  have hfite := @State.ite_frame
  have hf1 := @State.setKey_frame
  unfold State.retireLast
  (repeat' split) <;> simp [↓hfite, ↓hf1]

theorem State.respond_frame (s : State) (q : CmdReq) (st : Status) (detail : ℕ) (out : List ℕ) :
    (State.respond s q st detail out).now = s.now ∧ (State.respond s q st detail out).pending = s.pending ∧
    (State.respond s q st detail out).regs0 = s.regs0 ∧ (State.respond s q st detail out).freeCtr = s.freeCtr ∧
    (State.respond s q st detail out).mode = s.mode ∧ (State.respond s q st detail out).mram.keyCnt = s.mram.keyCnt ∧
    (State.respond s q st detail out).mram.boot = s.mram.boot ∧ (State.respond s q st detail out).sys = s.sys ∧
    (State.respond s q st detail out).ana = s.ana ∧ (State.respond s q st detail out).aux = s.aux ∧
    (State.respond s q st detail out).flt = s.flt ∧ (State.respond s q st detail out).tim = s.tim ∧
    (State.respond s q st detail out).prt = s.prt ∧ (State.respond s q st detail out).trp = s.trp ∧
    (State.respond s q st detail out).pod = s.pod ∧ (State.respond s q st detail out).lgc = s.lgc ∧
    (State.respond s q st detail out).gsv = s.gsv ∧ (State.respond s q st detail out).tph = s.tph ∧
    (State.respond s q st detail out).oz = s.oz ∧ (State.respond s q st detail out).sec.otp = s.sec.otp ∧
    (State.respond s q st detail out).cmd = s.cmd := by
  have hfite := @State.ite_frame
  have hf1 := @State.sendRsp_frame
  have hf2 := @State.retireLast_frame
  unfold State.respond
  (repeat' split) <;> simp [↓hfite, ↓hf1, ↓hf2]

theorem State.queueReq_frame (s : State) (q : CmdReq) :
    (State.queueReq s q).now = s.now ∧ (State.queueReq s q).pending = s.pending ∧
    (State.queueReq s q).regs0 = s.regs0 ∧ (State.queueReq s q).freeCtr = s.freeCtr ∧
    (State.queueReq s q).mode = s.mode ∧ (State.queueReq s q).mram = s.mram ∧ (State.queueReq s q).sys = s.sys ∧
    (State.queueReq s q).evt = s.evt ∧ (State.queueReq s q).ana = s.ana ∧ (State.queueReq s q).aux = s.aux ∧
    (State.queueReq s q).flt = s.flt ∧ (State.queueReq s q).tim = s.tim ∧ (State.queueReq s q).net = s.net ∧
    (State.queueReq s q).prt = s.prt ∧ (State.queueReq s q).trp = s.trp ∧ (State.queueReq s q).pod = s.pod ∧
    (State.queueReq s q).lgc = s.lgc ∧ (State.queueReq s q).gsv = s.gsv ∧ (State.queueReq s q).tph = s.tph ∧
    (State.queueReq s q).oz = s.oz ∧ (State.queueReq s q).sec = s.sec ∧ (State.queueReq s q).cmd.run = s.cmd.run ∧
    (State.queueReq s q).regs = s.regs := by
  have hfite := @State.ite_frame
  simp [↓hfite, State.queueReq]

theorem State.receiveFrame_frame (s : State) (tr : ℕ) (xid : ℕ) (src : ℕ) (bs : List ℕ) :
    (State.receiveFrame s tr xid src bs).now = s.now ∧ (State.receiveFrame s tr xid src bs).pending = s.pending ∧
    (State.receiveFrame s tr xid src bs).regs0 = s.regs0 ∧ (State.receiveFrame s tr xid src bs).freeCtr = s.freeCtr ∧
    (State.receiveFrame s tr xid src bs).mode = s.mode ∧ (State.receiveFrame s tr xid src bs).mram = s.mram ∧
    (State.receiveFrame s tr xid src bs).sys = s.sys ∧ (State.receiveFrame s tr xid src bs).evt = s.evt ∧
    (State.receiveFrame s tr xid src bs).ana = s.ana ∧ (State.receiveFrame s tr xid src bs).aux = s.aux ∧
    (State.receiveFrame s tr xid src bs).flt = s.flt ∧ (State.receiveFrame s tr xid src bs).tim = s.tim ∧
    (State.receiveFrame s tr xid src bs).prt = s.prt ∧ (State.receiveFrame s tr xid src bs).trp = s.trp ∧
    (State.receiveFrame s tr xid src bs).pod = s.pod ∧ (State.receiveFrame s tr xid src bs).lgc = s.lgc ∧
    (State.receiveFrame s tr xid src bs).gsv = s.gsv ∧ (State.receiveFrame s tr xid src bs).tph = s.tph ∧
    (State.receiveFrame s tr xid src bs).oz = s.oz ∧ (State.receiveFrame s tr xid src bs).sec = s.sec ∧
    (State.receiveFrame s tr xid src bs).cmd.run = s.cmd.run := by
  have hfite := @State.ite_frame
  have hf1 := @State.incSat_frame
  have hf2 := @State.sendRsp_frame
  have hf3 := @State.queueReq_frame
  unfold State.receiveFrame
  (repeat' split) <;> simp [↓hfite, ↓hf1, ↓hf2, ↓hf3]

theorem State.cmdReqW_frame (w : ℕ) (v : ℕ) (s : State) :
    (State.cmdReqW w v s).2.now = s.now ∧ (State.cmdReqW w v s).2.pending = s.pending ∧
    (State.cmdReqW w v s).2.regs0 = s.regs0 ∧ (State.cmdReqW w v s).2.freeCtr = s.freeCtr ∧
    (State.cmdReqW w v s).2.mode = s.mode ∧ (State.cmdReqW w v s).2.mram = s.mram ∧
    (State.cmdReqW w v s).2.sys = s.sys ∧ (State.cmdReqW w v s).2.evt = s.evt ∧ (State.cmdReqW w v s).2.ana = s.ana ∧
    (State.cmdReqW w v s).2.aux = s.aux ∧ (State.cmdReqW w v s).2.flt = s.flt ∧ (State.cmdReqW w v s).2.tim = s.tim ∧
    (State.cmdReqW w v s).2.net = s.net ∧ (State.cmdReqW w v s).2.prt = s.prt ∧ (State.cmdReqW w v s).2.trp = s.trp ∧
    (State.cmdReqW w v s).2.pod = s.pod ∧ (State.cmdReqW w v s).2.lgc = s.lgc ∧ (State.cmdReqW w v s).2.gsv = s.gsv ∧
    (State.cmdReqW w v s).2.tph = s.tph ∧ (State.cmdReqW w v s).2.oz = s.oz ∧ (State.cmdReqW w v s).2.sec = s.sec ∧
    (State.cmdReqW w v s).2.cmd = s.cmd := by
  have hf1 := @State.setF_frame
  have hf2 := @State.setFlag_frame
  unfold State.cmdReqW
  (repeat' split) <;> simp [↓hf1, ↓hf2]

theorem State.cmdDbW_frame (v : ℕ) (s : State) :
    (State.cmdDbW v s).2.now = s.now ∧ (State.cmdDbW v s).2.pending = s.pending ∧
    (State.cmdDbW v s).2.regs0 = s.regs0 ∧ (State.cmdDbW v s).2.freeCtr = s.freeCtr ∧
    (State.cmdDbW v s).2.mode = s.mode ∧ (State.cmdDbW v s).2.mram = s.mram ∧ (State.cmdDbW v s).2.sys = s.sys ∧
    (State.cmdDbW v s).2.evt = s.evt ∧ (State.cmdDbW v s).2.ana = s.ana ∧ (State.cmdDbW v s).2.aux = s.aux ∧
    (State.cmdDbW v s).2.flt = s.flt ∧ (State.cmdDbW v s).2.tim = s.tim ∧ (State.cmdDbW v s).2.prt = s.prt ∧
    (State.cmdDbW v s).2.trp = s.trp ∧ (State.cmdDbW v s).2.pod = s.pod ∧ (State.cmdDbW v s).2.lgc = s.lgc ∧
    (State.cmdDbW v s).2.gsv = s.gsv ∧ (State.cmdDbW v s).2.tph = s.tph ∧ (State.cmdDbW v s).2.oz = s.oz ∧
    (State.cmdDbW v s).2.sec = s.sec ∧ (State.cmdDbW v s).2.cmd.run = s.cmd.run := by
  have hf1 := @State.receiveFrame_frame
  have hf2 := @State.setFlag_frame
  unfold State.cmdDbW
  (repeat' split) <;> simp [↓hf1, ↓hf2]

theorem doorbellEff_frame (r : Requester) (s : State) :
    (doorbellEff r s).now = s.now ∧ (doorbellEff r s).pending = s.pending ∧ (doorbellEff r s).regs0 = s.regs0 ∧
    (doorbellEff r s).freeCtr = s.freeCtr ∧ (doorbellEff r s).mode = s.mode ∧
    (doorbellEff r s).mram.keyCnt = s.mram.keyCnt ∧ (doorbellEff r s).mram.boot = s.mram.boot ∧
    (doorbellEff r s).sys = s.sys ∧ (doorbellEff r s).ana = s.ana ∧ (doorbellEff r s).aux = s.aux ∧
    (doorbellEff r s).flt = s.flt ∧ (doorbellEff r s).tim = s.tim ∧ (doorbellEff r s).prt = s.prt ∧
    (doorbellEff r s).trp = s.trp ∧ (doorbellEff r s).pod = s.pod ∧ (doorbellEff r s).lgc = s.lgc ∧
    (doorbellEff r s).gsv = s.gsv ∧ (doorbellEff r s).tph = s.tph ∧ (doorbellEff r s).oz = s.oz ∧
    (doorbellEff r s).sec = s.sec ∧ (doorbellEff r s).cmd.run = s.cmd.run := by
  have hf1 := @State.cmdDbW_frame
  simp [↓hf1, doorbellEff]

theorem State.fragOff_frame (s : State) :
    (State.fragOff s).now = s.now ∧ (State.fragOff s).pending = s.pending ∧ (State.fragOff s).regs0 = s.regs0 ∧
    (State.fragOff s).freeCtr = s.freeCtr ∧ (State.fragOff s).mode = s.mode ∧ (State.fragOff s).mram = s.mram ∧
    (State.fragOff s).sys = s.sys ∧ (State.fragOff s).evt = s.evt ∧ (State.fragOff s).ana = s.ana ∧
    (State.fragOff s).aux = s.aux ∧ (State.fragOff s).flt = s.flt ∧ (State.fragOff s).tim = s.tim ∧
    (State.fragOff s).net = s.net ∧ (State.fragOff s).prt = s.prt ∧ (State.fragOff s).trp = s.trp ∧
    (State.fragOff s).pod = s.pod ∧ (State.fragOff s).lgc = s.lgc ∧ (State.fragOff s).gsv = s.gsv ∧
    (State.fragOff s).tph = s.tph ∧ (State.fragOff s).oz = s.oz ∧ (State.fragOff s).sec = s.sec ∧
    (State.fragOff s).cmd.run = s.cmd.run ∧ (State.fragOff s).cmd.svc = s.cmd.svc := by
  have hf1 := @State.incSat_frame
  simp [↓hf1, State.fragOff]

theorem State.fragment_frame (s : State) (src : ℕ) (frag : ℕ) (n : ℕ) (xid : ℕ) (data : List ℕ) :
    (State.fragment s src frag n xid data).now = s.now ∧ (State.fragment s src frag n xid data).pending = s.pending ∧
    (State.fragment s src frag n xid data).regs0 = s.regs0 ∧
    (State.fragment s src frag n xid data).freeCtr = s.freeCtr ∧
    (State.fragment s src frag n xid data).mode = s.mode ∧ (State.fragment s src frag n xid data).mram = s.mram ∧
    (State.fragment s src frag n xid data).sys = s.sys ∧ (State.fragment s src frag n xid data).evt = s.evt ∧
    (State.fragment s src frag n xid data).ana = s.ana ∧ (State.fragment s src frag n xid data).aux = s.aux ∧
    (State.fragment s src frag n xid data).flt = s.flt ∧ (State.fragment s src frag n xid data).tim = s.tim ∧
    (State.fragment s src frag n xid data).prt = s.prt ∧ (State.fragment s src frag n xid data).trp = s.trp ∧
    (State.fragment s src frag n xid data).pod = s.pod ∧ (State.fragment s src frag n xid data).lgc = s.lgc ∧
    (State.fragment s src frag n xid data).gsv = s.gsv ∧ (State.fragment s src frag n xid data).tph = s.tph ∧
    (State.fragment s src frag n xid data).oz = s.oz ∧ (State.fragment s src frag n xid data).sec = s.sec ∧
    (State.fragment s src frag n xid data).cmd.run = s.cmd.run := by
  have hfite := @State.ite_frame
  have hf1 := @State.fragOff_frame
  have hf2 := @State.incSat_frame
  have hf3 := @State.receiveFrame_frame
  unfold State.fragment
  (repeat' split) <;> simp [↓hfite, ↓hf1, ↓hf2, ↓hf3]

theorem cmdFragmentEff_frame (p : ℕ) (dst : ℕ) (src : ℕ) (bytes : List ℕ) (s : State) :
    (cmdFragmentEff p dst src bytes s).now = s.now ∧ (cmdFragmentEff p dst src bytes s).pending = s.pending ∧
    (cmdFragmentEff p dst src bytes s).regs0 = s.regs0 ∧ (cmdFragmentEff p dst src bytes s).freeCtr = s.freeCtr ∧
    (cmdFragmentEff p dst src bytes s).mode = s.mode ∧ (cmdFragmentEff p dst src bytes s).mram = s.mram ∧
    (cmdFragmentEff p dst src bytes s).sys = s.sys ∧ (cmdFragmentEff p dst src bytes s).evt = s.evt ∧
    (cmdFragmentEff p dst src bytes s).ana = s.ana ∧ (cmdFragmentEff p dst src bytes s).aux = s.aux ∧
    (cmdFragmentEff p dst src bytes s).flt = s.flt ∧ (cmdFragmentEff p dst src bytes s).tim = s.tim ∧
    (cmdFragmentEff p dst src bytes s).prt = s.prt ∧ (cmdFragmentEff p dst src bytes s).trp = s.trp ∧
    (cmdFragmentEff p dst src bytes s).pod = s.pod ∧ (cmdFragmentEff p dst src bytes s).lgc = s.lgc ∧
    (cmdFragmentEff p dst src bytes s).gsv = s.gsv ∧ (cmdFragmentEff p dst src bytes s).tph = s.tph ∧
    (cmdFragmentEff p dst src bytes s).oz = s.oz ∧ (cmdFragmentEff p dst src bytes s).sec = s.sec ∧
    (cmdFragmentEff p dst src bytes s).cmd.run = s.cmd.run := by
  have hfite := @State.ite_frame
  have hf1 := @State.incSat_frame
  have hf2 := @State.fragment_frame
  have hf3 := @State.fragOff_frame
  simp [↓hfite, ↓hf1, ↓hf2, ↓hf3, cmdFragmentEff]
  (repeat' split) <;> simp [↓hfite, ↓hf1, ↓hf2, ↓hf3]

theorem fragmentTimeoutEff_frame (s : State) :
    (fragmentTimeoutEff s).now = s.now ∧ (fragmentTimeoutEff s).pending = s.pending ∧
    (fragmentTimeoutEff s).regs0 = s.regs0 ∧ (fragmentTimeoutEff s).freeCtr = s.freeCtr ∧
    (fragmentTimeoutEff s).mode = s.mode ∧ (fragmentTimeoutEff s).mram = s.mram ∧
    (fragmentTimeoutEff s).sys = s.sys ∧ (fragmentTimeoutEff s).evt = s.evt ∧ (fragmentTimeoutEff s).ana = s.ana ∧
    (fragmentTimeoutEff s).aux = s.aux ∧ (fragmentTimeoutEff s).flt = s.flt ∧ (fragmentTimeoutEff s).tim = s.tim ∧
    (fragmentTimeoutEff s).net = s.net ∧ (fragmentTimeoutEff s).prt = s.prt ∧ (fragmentTimeoutEff s).trp = s.trp ∧
    (fragmentTimeoutEff s).pod = s.pod ∧ (fragmentTimeoutEff s).lgc = s.lgc ∧ (fragmentTimeoutEff s).gsv = s.gsv ∧
    (fragmentTimeoutEff s).tph = s.tph ∧ (fragmentTimeoutEff s).oz = s.oz ∧ (fragmentTimeoutEff s).sec = s.sec ∧
    (fragmentTimeoutEff s).cmd.run = s.cmd.run ∧ (fragmentTimeoutEff s).cmd.svc = s.cmd.svc := by
  have hfite := @State.ite_frame
  have hf1 := @State.fragOff_frame
  simp [↓hfite, ↓hf1, fragmentTimeoutEff]

theorem State.authFailed_frame (s : State) (tr : ℕ) (slot : ℕ) (counts : Bool) :
    (State.authFailed s tr slot counts).now = s.now ∧ (State.authFailed s tr slot counts).pending = s.pending ∧
    (State.authFailed s tr slot counts).regs0 = s.regs0 ∧ (State.authFailed s tr slot counts).freeCtr = s.freeCtr ∧
    (State.authFailed s tr slot counts).mode = s.mode ∧
    (State.authFailed s tr slot counts).mram.keyCnt = s.mram.keyCnt ∧
    (State.authFailed s tr slot counts).mram.boot = s.mram.boot ∧ (State.authFailed s tr slot counts).sys = s.sys ∧
    (State.authFailed s tr slot counts).ana = s.ana ∧ (State.authFailed s tr slot counts).aux = s.aux ∧
    (State.authFailed s tr slot counts).flt = s.flt ∧ (State.authFailed s tr slot counts).tim = s.tim ∧
    (State.authFailed s tr slot counts).net = s.net ∧ (State.authFailed s tr slot counts).prt = s.prt ∧
    (State.authFailed s tr slot counts).trp = s.trp ∧ (State.authFailed s tr slot counts).pod = s.pod ∧
    (State.authFailed s tr slot counts).lgc = s.lgc ∧ (State.authFailed s tr slot counts).gsv = s.gsv ∧
    (State.authFailed s tr slot counts).tph = s.tph ∧ (State.authFailed s tr slot counts).oz = s.oz ∧
    (State.authFailed s tr slot counts).sec.otp = s.sec.otp ∧
    (State.authFailed s tr slot counts).sec.keys = s.sec.keys ∧ (State.authFailed s tr slot counts).cmd = s.cmd := by
  have hfite := @State.ite_frame
  have hf1 := @State.incSat_frame
  have hf2 := @State.raise_frame
  have hf3 := @State.setFlag_frame
  simp [↓hfite, ↓hf1, ↓hf2, ↓hf3, State.authFailed]

theorem State.authenticate_frame (s : State) (q : CmdReq) (needSecure : Bool) :
    (State.authenticate s q needSecure).2.now = s.now ∧ (State.authenticate s q needSecure).2.pending = s.pending ∧
    (State.authenticate s q needSecure).2.regs0 = s.regs0 ∧
    (State.authenticate s q needSecure).2.freeCtr = s.freeCtr ∧ (State.authenticate s q needSecure).2.mode = s.mode ∧
    (State.authenticate s q needSecure).2.mram.boot = s.mram.boot ∧
    (State.authenticate s q needSecure).2.sys = s.sys ∧ (State.authenticate s q needSecure).2.ana = s.ana ∧
    (State.authenticate s q needSecure).2.aux = s.aux ∧ (State.authenticate s q needSecure).2.flt = s.flt ∧
    (State.authenticate s q needSecure).2.tim = s.tim ∧ (State.authenticate s q needSecure).2.net = s.net ∧
    (State.authenticate s q needSecure).2.prt = s.prt ∧ (State.authenticate s q needSecure).2.trp = s.trp ∧
    (State.authenticate s q needSecure).2.pod = s.pod ∧ (State.authenticate s q needSecure).2.lgc = s.lgc ∧
    (State.authenticate s q needSecure).2.gsv = s.gsv ∧ (State.authenticate s q needSecure).2.tph = s.tph ∧
    (State.authenticate s q needSecure).2.oz = s.oz ∧ (State.authenticate s q needSecure).2.sec.otp = s.sec.otp ∧
    (State.authenticate s q needSecure).2.sec.keys = s.sec.keys ∧ (State.authenticate s q needSecure).2.cmd = s.cmd := by
  have hf1 := @State.authFailed_frame
  have hf2 := @State.incSat_frame
  have hf3 := @State.deny_frame
  simp [↓hf1, ↓hf2, ↓hf3, State.authenticate]
  (repeat' split) <;> simp [↓hf1, ↓hf2, ↓hf3]

theorem rateLimitEndEff_frame (tr : ℕ) (s : State) :
    (rateLimitEndEff tr s).now = s.now ∧ (rateLimitEndEff tr s).pending = s.pending ∧
    (rateLimitEndEff tr s).regs0 = s.regs0 ∧ (rateLimitEndEff tr s).freeCtr = s.freeCtr ∧
    (rateLimitEndEff tr s).mode = s.mode ∧ (rateLimitEndEff tr s).mram = s.mram ∧
    (rateLimitEndEff tr s).sys = s.sys ∧ (rateLimitEndEff tr s).evt = s.evt ∧ (rateLimitEndEff tr s).ana = s.ana ∧
    (rateLimitEndEff tr s).aux = s.aux ∧ (rateLimitEndEff tr s).flt = s.flt ∧ (rateLimitEndEff tr s).tim = s.tim ∧
    (rateLimitEndEff tr s).net = s.net ∧ (rateLimitEndEff tr s).prt = s.prt ∧ (rateLimitEndEff tr s).trp = s.trp ∧
    (rateLimitEndEff tr s).pod = s.pod ∧ (rateLimitEndEff tr s).lgc = s.lgc ∧ (rateLimitEndEff tr s).gsv = s.gsv ∧
    (rateLimitEndEff tr s).tph = s.tph ∧ (rateLimitEndEff tr s).oz = s.oz ∧
    (rateLimitEndEff tr s).sec.otp = s.sec.otp ∧ (rateLimitEndEff tr s).sec.keys = s.sec.keys ∧
    (rateLimitEndEff tr s).cmd = s.cmd ∧ (rateLimitEndEff tr s).regs = s.regs := by
  unfold rateLimitEndEff
  (repeat' split) <;> simp

@[simp ↓] theorem refused_s (s : State) (st : Status) : (refused s st).s = s := by simp [refused]

@[simp ↓] theorem okRes_s (s : State) : (okRes s).s = s := by simp [okRes]

@[simp ↓] theorem okOut_s (s : State) (out : List Nat) : (okOut s out).s = s := by simp [okOut]

@[simp ↓] theorem CmdRes_s_ite (p : Prop) [Decidable p] (a b : CmdRes) :
    (if p then a else b).s = if p then a.s else b.s := apply_ite CmdRes.s p a b

@[simp ↓] theorem CmdRes_s_mk (a b c d e) : (CmdRes.mk a b c d e).s = b := by simp

@[simp ↓] theorem ofPair_s (s : State) (r : Status × State) : (ofPair s r).s = if r.1 = .ok then r.2 else s := by
  simp [ofPair]

theorem State.worldRefused_frame (s : State) (q : CmdReq) :
    (State.worldRefused s q).s.now = s.now ∧ (State.worldRefused s q).s.pending = s.pending ∧
    (State.worldRefused s q).s.regs0 = s.regs0 ∧ (State.worldRefused s q).s.freeCtr = s.freeCtr ∧
    (State.worldRefused s q).s.mode = s.mode ∧ (State.worldRefused s q).s.mram.keyCnt = s.mram.keyCnt ∧
    (State.worldRefused s q).s.mram.boot = s.mram.boot ∧ (State.worldRefused s q).s.sys = s.sys ∧
    (State.worldRefused s q).s.ana = s.ana ∧ (State.worldRefused s q).s.aux = s.aux ∧
    (State.worldRefused s q).s.flt = s.flt ∧ (State.worldRefused s q).s.tim = s.tim ∧
    (State.worldRefused s q).s.net = s.net ∧ (State.worldRefused s q).s.prt = s.prt ∧
    (State.worldRefused s q).s.trp = s.trp ∧ (State.worldRefused s q).s.pod = s.pod ∧
    (State.worldRefused s q).s.lgc = s.lgc ∧ (State.worldRefused s q).s.gsv = s.gsv ∧
    (State.worldRefused s q).s.tph = s.tph ∧ (State.worldRefused s q).s.oz = s.oz ∧
    (State.worldRefused s q).s.sec = s.sec ∧ (State.worldRefused s q).s.cmd = s.cmd := by
  have hf1 := @State.deny_frame
  simp [↓hf1, State.worldRefused]

@[simp ↓] theorem State.asWorld_now (s : State) (q : CmdReq) (f : State → CmdRes) (h : ∀ s, (f s).s.now = s.now) :
    (s.asWorld q f).s.now = s.now := by
  simp [State.asWorld, h]

@[simp ↓] theorem State.asWorld_pending (s : State) (q : CmdReq) (f : State → CmdRes) (h : ∀ s, (f s).s.pending = s.pending) :
    (s.asWorld q f).s.pending = s.pending := by
  simp [State.asWorld, h]

@[simp ↓] theorem State.asWorld_regs0 (s : State) (q : CmdReq) (f : State → CmdRes) (h : ∀ s, (f s).s.regs0 = s.regs0) :
    (s.asWorld q f).s.regs0 = s.regs0 := by
  simp [State.asWorld, h]

@[simp ↓] theorem State.asWorld_freeCtr (s : State) (q : CmdReq) (f : State → CmdRes) (h : ∀ s, (f s).s.freeCtr = s.freeCtr) :
    (s.asWorld q f).s.freeCtr = s.freeCtr := by
  simp [State.asWorld, h]

@[simp ↓] theorem State.asWorld_mode (s : State) (q : CmdReq) (f : State → CmdRes) (h : ∀ s, (f s).s.mode = s.mode) :
    (s.asWorld q f).s.mode = s.mode := by
  simp [State.asWorld, h]

@[simp ↓] theorem State.asWorld_mram (s : State) (q : CmdReq) (f : State → CmdRes) (h : ∀ s, (f s).s.mram = s.mram) :
    (s.asWorld q f).s.mram = s.mram := by
  simp [State.asWorld, h]

@[simp ↓] theorem State.asWorld_evt (s : State) (q : CmdReq) (f : State → CmdRes) (h : ∀ s, (f s).s.evt = s.evt) :
    (s.asWorld q f).s.evt = s.evt := by
  simp [State.asWorld, h]

@[simp ↓] theorem State.asWorld_ana (s : State) (q : CmdReq) (f : State → CmdRes) (h : ∀ s, (f s).s.ana = s.ana) :
    (s.asWorld q f).s.ana = s.ana := by
  simp [State.asWorld, h]

@[simp ↓] theorem State.asWorld_aux (s : State) (q : CmdReq) (f : State → CmdRes) (h : ∀ s, (f s).s.aux = s.aux) :
    (s.asWorld q f).s.aux = s.aux := by
  simp [State.asWorld, h]

@[simp ↓] theorem State.asWorld_flt (s : State) (q : CmdReq) (f : State → CmdRes) (h : ∀ s, (f s).s.flt = s.flt) :
    (s.asWorld q f).s.flt = s.flt := by
  simp [State.asWorld, h]

@[simp ↓] theorem State.asWorld_tim (s : State) (q : CmdReq) (f : State → CmdRes) (h : ∀ s, (f s).s.tim = s.tim) :
    (s.asWorld q f).s.tim = s.tim := by
  simp [State.asWorld, h]

@[simp ↓] theorem State.asWorld_net (s : State) (q : CmdReq) (f : State → CmdRes) (h : ∀ s, (f s).s.net = s.net) :
    (s.asWorld q f).s.net = s.net := by
  simp [State.asWorld, h]

@[simp ↓] theorem State.asWorld_prt (s : State) (q : CmdReq) (f : State → CmdRes) (h : ∀ s, (f s).s.prt = s.prt) :
    (s.asWorld q f).s.prt = s.prt := by
  simp [State.asWorld, h]

@[simp ↓] theorem State.asWorld_trp (s : State) (q : CmdReq) (f : State → CmdRes) (h : ∀ s, (f s).s.trp = s.trp) :
    (s.asWorld q f).s.trp = s.trp := by
  simp [State.asWorld, h]

@[simp ↓] theorem State.asWorld_pod (s : State) (q : CmdReq) (f : State → CmdRes) (h : ∀ s, (f s).s.pod = s.pod) :
    (s.asWorld q f).s.pod = s.pod := by
  simp [State.asWorld, h]

@[simp ↓] theorem State.asWorld_lgc (s : State) (q : CmdReq) (f : State → CmdRes) (h : ∀ s, (f s).s.lgc = s.lgc) :
    (s.asWorld q f).s.lgc = s.lgc := by
  simp [State.asWorld, h]

@[simp ↓] theorem State.asWorld_gsv (s : State) (q : CmdReq) (f : State → CmdRes) (h : ∀ s, (f s).s.gsv = s.gsv) :
    (s.asWorld q f).s.gsv = s.gsv := by
  simp [State.asWorld, h]

@[simp ↓] theorem State.asWorld_tph (s : State) (q : CmdReq) (f : State → CmdRes) (h : ∀ s, (f s).s.tph = s.tph) :
    (s.asWorld q f).s.tph = s.tph := by
  simp [State.asWorld, h]

@[simp ↓] theorem State.asWorld_oz (s : State) (q : CmdReq) (f : State → CmdRes) (h : ∀ s, (f s).s.oz = s.oz) :
    (s.asWorld q f).s.oz = s.oz := by
  simp [State.asWorld, h]

@[simp ↓] theorem State.asWorld_sec (s : State) (q : CmdReq) (f : State → CmdRes) (h : ∀ s, (f s).s.sec = s.sec) :
    (s.asWorld q f).s.sec = s.sec := by
  simp [State.asWorld, h]

@[simp ↓] theorem State.asWorld_cmd (s : State) (q : CmdReq) (f : State → CmdRes) (h : ∀ s, (f s).s.cmd = s.cmd) :
    (s.asWorld q f).s.cmd = s.cmd := by
  simp [State.asWorld, h]

@[simp ↓] theorem State.asWorld_regs (s : State) (q : CmdReq) (f : State → CmdRes) (h : ∀ s, (f s).s.regs = s.regs) :
    (s.asWorld q f).s.regs = s.regs := by
  simp [State.asWorld, h]

@[simp ↓] theorem State.asWorld_mram_keyCnt (s : State) (q : CmdReq) (f : State → CmdRes) (h : ∀ s, (f s).s.mram.keyCnt = s.mram.keyCnt) :
    (s.asWorld q f).s.mram.keyCnt = s.mram.keyCnt := by
  simp [State.asWorld, h]

@[simp ↓] theorem State.asWorld_mram_boot (s : State) (q : CmdReq) (f : State → CmdRes) (h : ∀ s, (f s).s.mram.boot = s.mram.boot) :
    (s.asWorld q f).s.mram.boot = s.mram.boot := by
  simp [State.asWorld, h]

@[simp ↓] theorem State.asWorld_sec_otp (s : State) (q : CmdReq) (f : State → CmdRes) (h : ∀ s, (f s).s.sec.otp = s.sec.otp) :
    (s.asWorld q f).s.sec.otp = s.sec.otp := by
  simp [State.asWorld, h]

@[simp ↓] theorem State.asWorld_sec_keys (s : State) (q : CmdReq) (f : State → CmdRes) (h : ∀ s, (f s).s.sec.keys = s.sec.keys) :
    (s.asWorld q f).s.sec.keys = s.sec.keys := by
  simp [State.asWorld, h]

@[simp ↓] theorem State.asWorld_cmd_run (s : State) (q : CmdReq) (f : State → CmdRes) (h : ∀ s, (f s).s.cmd.run = s.cmd.run) :
    (s.asWorld q f).s.cmd.run = s.cmd.run := by
  simp [State.asWorld, h]

@[simp ↓] theorem State.asWorld_cmd_svc (s : State) (q : CmdReq) (f : State → CmdRes) (h : ∀ s, (f s).s.cmd.svc = s.cmd.svc) :
    (s.asWorld q f).s.cmd.svc = s.cmd.svc := by
  simp [State.asWorld, h]

@[simp ↓] theorem State.asWorld_sys_straps (s : State) (q : CmdReq) (f : State → CmdRes) (h : ∀ s, (f s).s.sys.straps = s.sys.straps) :
    (s.asWorld q f).s.sys.straps = s.sys.straps := by
  simp [State.asWorld, h]

@[simp ↓] theorem State.asWorld_sys_por (s : State) (q : CmdReq) (f : State → CmdRes) (h : ∀ s, (f s).s.sys.por = s.sys.por) :
    (s.asWorld q f).s.sys.por = s.sys.por := by
  simp [State.asWorld, h]

@[simp ↓] theorem State.asWorld_sys_mapOn (s : State) (q : CmdReq) (f : State → CmdRes) (h : ∀ s, (f s).s.sys.mapOn = s.sys.mapOn) :
    (s.asWorld q f).s.sys.mapOn = s.sys.mapOn := by
  simp [State.asWorld, h]

@[simp ↓] theorem State.runReq_now (s : State) (q : CmdReq) (row : OpRow) (f : CmdReq → State → CmdRes)
    (h : ∀ q s, (f q s).s.now = s.now) : (s.runReq q row f).now = s.now := by
  have hfite := @State.ite_frame
  have hf1 := @State.respond_frame
  have h1 := State.asWorld_now s q (f q) (h q)
  unfold State.runReq
  (repeat' split) <;> (try simp [↓hfite, ↓hf1]) <;> (try split) <;> simp [↓hfite, ↓hf1, h1]

@[simp ↓] theorem State.runReq_pending (s : State) (q : CmdReq) (row : OpRow) (f : CmdReq → State → CmdRes)
    (h : ∀ q s, (f q s).s.pending = s.pending) : (s.runReq q row f).pending = s.pending := by
  have hfite := @State.ite_frame
  have hf1 := @State.respond_frame
  have h1 := State.asWorld_pending s q (f q) (h q)
  unfold State.runReq
  (repeat' split) <;> (try simp [↓hfite, ↓hf1]) <;> (try split) <;> simp [↓hfite, ↓hf1, h1]

@[simp ↓] theorem State.runReq_regs0 (s : State) (q : CmdReq) (row : OpRow) (f : CmdReq → State → CmdRes)
    (h : ∀ q s, (f q s).s.regs0 = s.regs0) : (s.runReq q row f).regs0 = s.regs0 := by
  have hfite := @State.ite_frame
  have hf1 := @State.respond_frame
  have h1 := State.asWorld_regs0 s q (f q) (h q)
  unfold State.runReq
  (repeat' split) <;> (try simp [↓hfite, ↓hf1]) <;> (try split) <;> simp [↓hfite, ↓hf1, h1]

@[simp ↓] theorem State.runReq_freeCtr (s : State) (q : CmdReq) (row : OpRow) (f : CmdReq → State → CmdRes)
    (h : ∀ q s, (f q s).s.freeCtr = s.freeCtr) : (s.runReq q row f).freeCtr = s.freeCtr := by
  have hfite := @State.ite_frame
  have hf1 := @State.respond_frame
  have h1 := State.asWorld_freeCtr s q (f q) (h q)
  unfold State.runReq
  (repeat' split) <;> (try simp [↓hfite, ↓hf1]) <;> (try split) <;> simp [↓hfite, ↓hf1, h1]

@[simp ↓] theorem State.runReq_mode (s : State) (q : CmdReq) (row : OpRow) (f : CmdReq → State → CmdRes)
    (h : ∀ q s, (f q s).s.mode = s.mode) : (s.runReq q row f).mode = s.mode := by
  have hfite := @State.ite_frame
  have hf1 := @State.respond_frame
  have h1 := State.asWorld_mode s q (f q) (h q)
  unfold State.runReq
  (repeat' split) <;> (try simp [↓hfite, ↓hf1]) <;> (try split) <;> simp [↓hfite, ↓hf1, h1]

@[simp ↓] theorem State.runReq_ana (s : State) (q : CmdReq) (row : OpRow) (f : CmdReq → State → CmdRes)
    (h : ∀ q s, (f q s).s.ana = s.ana) : (s.runReq q row f).ana = s.ana := by
  have hfite := @State.ite_frame
  have hf1 := @State.respond_frame
  have h1 := State.asWorld_ana s q (f q) (h q)
  unfold State.runReq
  (repeat' split) <;> (try simp [↓hfite, ↓hf1]) <;> (try split) <;> simp [↓hfite, ↓hf1, h1]

@[simp ↓] theorem State.runReq_aux (s : State) (q : CmdReq) (row : OpRow) (f : CmdReq → State → CmdRes)
    (h : ∀ q s, (f q s).s.aux = s.aux) : (s.runReq q row f).aux = s.aux := by
  have hfite := @State.ite_frame
  have hf1 := @State.respond_frame
  have h1 := State.asWorld_aux s q (f q) (h q)
  unfold State.runReq
  (repeat' split) <;> (try simp [↓hfite, ↓hf1]) <;> (try split) <;> simp [↓hfite, ↓hf1, h1]

@[simp ↓] theorem State.runReq_flt (s : State) (q : CmdReq) (row : OpRow) (f : CmdReq → State → CmdRes)
    (h : ∀ q s, (f q s).s.flt = s.flt) : (s.runReq q row f).flt = s.flt := by
  have hfite := @State.ite_frame
  have hf1 := @State.respond_frame
  have h1 := State.asWorld_flt s q (f q) (h q)
  unfold State.runReq
  (repeat' split) <;> (try simp [↓hfite, ↓hf1]) <;> (try split) <;> simp [↓hfite, ↓hf1, h1]

@[simp ↓] theorem State.runReq_tim (s : State) (q : CmdReq) (row : OpRow) (f : CmdReq → State → CmdRes)
    (h : ∀ q s, (f q s).s.tim = s.tim) : (s.runReq q row f).tim = s.tim := by
  have hfite := @State.ite_frame
  have hf1 := @State.respond_frame
  have h1 := State.asWorld_tim s q (f q) (h q)
  unfold State.runReq
  (repeat' split) <;> (try simp [↓hfite, ↓hf1]) <;> (try split) <;> simp [↓hfite, ↓hf1, h1]

@[simp ↓] theorem State.runReq_prt (s : State) (q : CmdReq) (row : OpRow) (f : CmdReq → State → CmdRes)
    (h : ∀ q s, (f q s).s.prt = s.prt) : (s.runReq q row f).prt = s.prt := by
  have hfite := @State.ite_frame
  have hf1 := @State.respond_frame
  have h1 := State.asWorld_prt s q (f q) (h q)
  unfold State.runReq
  (repeat' split) <;> (try simp [↓hfite, ↓hf1]) <;> (try split) <;> simp [↓hfite, ↓hf1, h1]

@[simp ↓] theorem State.runReq_trp (s : State) (q : CmdReq) (row : OpRow) (f : CmdReq → State → CmdRes)
    (h : ∀ q s, (f q s).s.trp = s.trp) : (s.runReq q row f).trp = s.trp := by
  have hfite := @State.ite_frame
  have hf1 := @State.respond_frame
  have h1 := State.asWorld_trp s q (f q) (h q)
  unfold State.runReq
  (repeat' split) <;> (try simp [↓hfite, ↓hf1]) <;> (try split) <;> simp [↓hfite, ↓hf1, h1]

@[simp ↓] theorem State.runReq_pod (s : State) (q : CmdReq) (row : OpRow) (f : CmdReq → State → CmdRes)
    (h : ∀ q s, (f q s).s.pod = s.pod) : (s.runReq q row f).pod = s.pod := by
  have hfite := @State.ite_frame
  have hf1 := @State.respond_frame
  have h1 := State.asWorld_pod s q (f q) (h q)
  unfold State.runReq
  (repeat' split) <;> (try simp [↓hfite, ↓hf1]) <;> (try split) <;> simp [↓hfite, ↓hf1, h1]

@[simp ↓] theorem State.runReq_lgc (s : State) (q : CmdReq) (row : OpRow) (f : CmdReq → State → CmdRes)
    (h : ∀ q s, (f q s).s.lgc = s.lgc) : (s.runReq q row f).lgc = s.lgc := by
  have hfite := @State.ite_frame
  have hf1 := @State.respond_frame
  have h1 := State.asWorld_lgc s q (f q) (h q)
  unfold State.runReq
  (repeat' split) <;> (try simp [↓hfite, ↓hf1]) <;> (try split) <;> simp [↓hfite, ↓hf1, h1]

@[simp ↓] theorem State.runReq_gsv (s : State) (q : CmdReq) (row : OpRow) (f : CmdReq → State → CmdRes)
    (h : ∀ q s, (f q s).s.gsv = s.gsv) : (s.runReq q row f).gsv = s.gsv := by
  have hfite := @State.ite_frame
  have hf1 := @State.respond_frame
  have h1 := State.asWorld_gsv s q (f q) (h q)
  unfold State.runReq
  (repeat' split) <;> (try simp [↓hfite, ↓hf1]) <;> (try split) <;> simp [↓hfite, ↓hf1, h1]

@[simp ↓] theorem State.runReq_tph (s : State) (q : CmdReq) (row : OpRow) (f : CmdReq → State → CmdRes)
    (h : ∀ q s, (f q s).s.tph = s.tph) : (s.runReq q row f).tph = s.tph := by
  have hfite := @State.ite_frame
  have hf1 := @State.respond_frame
  have h1 := State.asWorld_tph s q (f q) (h q)
  unfold State.runReq
  (repeat' split) <;> (try simp [↓hfite, ↓hf1]) <;> (try split) <;> simp [↓hfite, ↓hf1, h1]

@[simp ↓] theorem State.runReq_oz (s : State) (q : CmdReq) (row : OpRow) (f : CmdReq → State → CmdRes)
    (h : ∀ q s, (f q s).s.oz = s.oz) : (s.runReq q row f).oz = s.oz := by
  have hfite := @State.ite_frame
  have hf1 := @State.respond_frame
  have h1 := State.asWorld_oz s q (f q) (h q)
  unfold State.runReq
  (repeat' split) <;> (try simp [↓hfite, ↓hf1]) <;> (try split) <;> simp [↓hfite, ↓hf1, h1]

@[simp ↓] theorem State.runReq_mram_keyCnt (s : State) (q : CmdReq) (row : OpRow) (f : CmdReq → State → CmdRes)
    (h : ∀ q s, (f q s).s.mram.keyCnt = s.mram.keyCnt) : (s.runReq q row f).mram.keyCnt = s.mram.keyCnt := by
  have hfite := @State.ite_frame
  have hf1 := @State.respond_frame
  have h1 := State.asWorld_mram_keyCnt s q (f q) (h q)
  unfold State.runReq
  (repeat' split) <;> (try simp [↓hfite, ↓hf1]) <;> (try split) <;> simp [↓hfite, ↓hf1, h1]

@[simp ↓] theorem State.runReq_mram_boot (s : State) (q : CmdReq) (row : OpRow) (f : CmdReq → State → CmdRes)
    (h : ∀ q s, (f q s).s.mram.boot = s.mram.boot) : (s.runReq q row f).mram.boot = s.mram.boot := by
  have hfite := @State.ite_frame
  have hf1 := @State.respond_frame
  have h1 := State.asWorld_mram_boot s q (f q) (h q)
  unfold State.runReq
  (repeat' split) <;> (try simp [↓hfite, ↓hf1]) <;> (try split) <;> simp [↓hfite, ↓hf1, h1]

@[simp ↓] theorem State.runReq_sec_otp (s : State) (q : CmdReq) (row : OpRow) (f : CmdReq → State → CmdRes)
    (h : ∀ q s, (f q s).s.sec.otp = s.sec.otp) : (s.runReq q row f).sec.otp = s.sec.otp := by
  have hfite := @State.ite_frame
  have hf1 := @State.respond_frame
  have h1 := State.asWorld_sec_otp s q (f q) (h q)
  unfold State.runReq
  (repeat' split) <;> (try simp [↓hfite, ↓hf1]) <;> (try split) <;> simp [↓hfite, ↓hf1, h1]

@[simp ↓] theorem State.runReq_cmd_run (s : State) (q : CmdReq) (row : OpRow) (f : CmdReq → State → CmdRes)
    (h : ∀ q s, (f q s).s.cmd.run = s.cmd.run) : (s.runReq q row f).cmd.run = s.cmd.run := by
  have hfite := @State.ite_frame
  have hf1 := @State.respond_frame
  have h1 := State.asWorld_cmd_run s q (f q) (h q)
  unfold State.runReq
  (repeat' split) <;> (try simp [↓hfite, ↓hf1]) <;> (try split) <;> simp [↓hfite, ↓hf1, h1]

@[simp ↓] theorem State.runReq_cmd_svc (s : State) (q : CmdReq) (row : OpRow) (f : CmdReq → State → CmdRes)
    (h : ∀ q s, (f q s).s.cmd.svc = s.cmd.svc) : (s.runReq q row f).cmd.svc = s.cmd.svc := by
  have hfite := @State.ite_frame
  have hf1 := @State.respond_frame
  have h1 := State.asWorld_cmd_svc s q (f q) (h q)
  unfold State.runReq
  (repeat' split) <;> (try simp [↓hfite, ↓hf1]) <;> (try split) <;> simp [↓hfite, ↓hf1, h1]

@[simp ↓] theorem State.runReq_sys_straps (s : State) (q : CmdReq) (row : OpRow) (f : CmdReq → State → CmdRes)
    (h : ∀ q s, (f q s).s.sys.straps = s.sys.straps) : (s.runReq q row f).sys.straps = s.sys.straps := by
  have hfite := @State.ite_frame
  have hf1 := @State.respond_frame
  have h1 := State.asWorld_sys_straps s q (f q) (h q)
  unfold State.runReq
  (repeat' split) <;> (try simp [↓hfite, ↓hf1]) <;> (try split) <;> simp [↓hfite, ↓hf1, h1]

@[simp ↓] theorem State.runReq_sys_por (s : State) (q : CmdReq) (row : OpRow) (f : CmdReq → State → CmdRes)
    (h : ∀ q s, (f q s).s.sys.por = s.sys.por) : (s.runReq q row f).sys.por = s.sys.por := by
  have hfite := @State.ite_frame
  have hf1 := @State.respond_frame
  have h1 := State.asWorld_sys_por s q (f q) (h q)
  unfold State.runReq
  (repeat' split) <;> (try simp [↓hfite, ↓hf1]) <;> (try split) <;> simp [↓hfite, ↓hf1, h1]

@[simp ↓] theorem State.runReq_sys_mapOn (s : State) (q : CmdReq) (row : OpRow) (f : CmdReq → State → CmdRes)
    (h : ∀ q s, (f q s).s.sys.mapOn = s.sys.mapOn) : (s.runReq q row f).sys.mapOn = s.sys.mapOn := by
  have hfite := @State.ite_frame
  have hf1 := @State.respond_frame
  have h1 := State.asWorld_sys_mapOn s q (f q) (h q)
  unfold State.runReq
  (repeat' split) <;> (try simp [↓hfite, ↓hf1]) <;> (try split) <;> simp [↓hfite, ↓hf1, h1]

@[simp ↓] theorem State.onOpcode_now (s : State) (op : Nat) (f : CmdReq → State → CmdRes)
    (h : ∀ q s, (f q s).s.now = s.now) : (s.onOpcode op f).now = s.now := by
  have hf1 := @State.authenticate_frame
  have hf2 := @State.sendRsp_frame
  unfold State.onOpcode
  split
  · split
    · rfl
    · dsimp only
      split
      · split <;> (rename_i heq; have h2 := congrArg (fun x => x.2.now) heq; simp [↓hf1, ↓hf2] at h2; simp [↓hf1, ↓hf2, h, ← h2])
      · simp [↓hf1, ↓hf2, h]
  · rfl

@[simp ↓] theorem State.onOpcode_pending (s : State) (op : Nat) (f : CmdReq → State → CmdRes)
    (h : ∀ q s, (f q s).s.pending = s.pending) : (s.onOpcode op f).pending = s.pending := by
  have hf1 := @State.authenticate_frame
  have hf2 := @State.sendRsp_frame
  unfold State.onOpcode
  split
  · split
    · rfl
    · dsimp only
      split
      · split <;> (rename_i heq; have h2 := congrArg (fun x => x.2.pending) heq; simp [↓hf1, ↓hf2] at h2; simp [↓hf1, ↓hf2, h, ← h2])
      · simp [↓hf1, ↓hf2, h]
  · rfl

@[simp ↓] theorem State.onOpcode_regs0 (s : State) (op : Nat) (f : CmdReq → State → CmdRes)
    (h : ∀ q s, (f q s).s.regs0 = s.regs0) : (s.onOpcode op f).regs0 = s.regs0 := by
  have hf1 := @State.authenticate_frame
  have hf2 := @State.sendRsp_frame
  unfold State.onOpcode
  split
  · split
    · rfl
    · dsimp only
      split
      · split <;> (rename_i heq; have h2 := congrArg (fun x => x.2.regs0) heq; simp [↓hf1, ↓hf2] at h2; simp [↓hf1, ↓hf2, h, ← h2])
      · simp [↓hf1, ↓hf2, h]
  · rfl

@[simp ↓] theorem State.onOpcode_freeCtr (s : State) (op : Nat) (f : CmdReq → State → CmdRes)
    (h : ∀ q s, (f q s).s.freeCtr = s.freeCtr) : (s.onOpcode op f).freeCtr = s.freeCtr := by
  have hf1 := @State.authenticate_frame
  have hf2 := @State.sendRsp_frame
  unfold State.onOpcode
  split
  · split
    · rfl
    · dsimp only
      split
      · split <;> (rename_i heq; have h2 := congrArg (fun x => x.2.freeCtr) heq; simp [↓hf1, ↓hf2] at h2; simp [↓hf1, ↓hf2, h, ← h2])
      · simp [↓hf1, ↓hf2, h]
  · rfl

@[simp ↓] theorem State.onOpcode_mode (s : State) (op : Nat) (f : CmdReq → State → CmdRes)
    (h : ∀ q s, (f q s).s.mode = s.mode) : (s.onOpcode op f).mode = s.mode := by
  have hf1 := @State.authenticate_frame
  have hf2 := @State.sendRsp_frame
  unfold State.onOpcode
  split
  · split
    · rfl
    · dsimp only
      split
      · split <;> (rename_i heq; have h2 := congrArg (fun x => x.2.mode) heq; simp [↓hf1, ↓hf2] at h2; simp [↓hf1, ↓hf2, h, ← h2])
      · simp [↓hf1, ↓hf2, h]
  · rfl

@[simp ↓] theorem State.onOpcode_ana (s : State) (op : Nat) (f : CmdReq → State → CmdRes)
    (h : ∀ q s, (f q s).s.ana = s.ana) : (s.onOpcode op f).ana = s.ana := by
  have hf1 := @State.authenticate_frame
  have hf2 := @State.sendRsp_frame
  unfold State.onOpcode
  split
  · split
    · rfl
    · dsimp only
      split
      · split <;> (rename_i heq; have h2 := congrArg (fun x => x.2.ana) heq; simp [↓hf1, ↓hf2] at h2; simp [↓hf1, ↓hf2, h, ← h2])
      · simp [↓hf1, ↓hf2, h]
  · rfl

@[simp ↓] theorem State.onOpcode_aux (s : State) (op : Nat) (f : CmdReq → State → CmdRes)
    (h : ∀ q s, (f q s).s.aux = s.aux) : (s.onOpcode op f).aux = s.aux := by
  have hf1 := @State.authenticate_frame
  have hf2 := @State.sendRsp_frame
  unfold State.onOpcode
  split
  · split
    · rfl
    · dsimp only
      split
      · split <;> (rename_i heq; have h2 := congrArg (fun x => x.2.aux) heq; simp [↓hf1, ↓hf2] at h2; simp [↓hf1, ↓hf2, h, ← h2])
      · simp [↓hf1, ↓hf2, h]
  · rfl

@[simp ↓] theorem State.onOpcode_flt (s : State) (op : Nat) (f : CmdReq → State → CmdRes)
    (h : ∀ q s, (f q s).s.flt = s.flt) : (s.onOpcode op f).flt = s.flt := by
  have hf1 := @State.authenticate_frame
  have hf2 := @State.sendRsp_frame
  unfold State.onOpcode
  split
  · split
    · rfl
    · dsimp only
      split
      · split <;> (rename_i heq; have h2 := congrArg (fun x => x.2.flt) heq; simp [↓hf1, ↓hf2] at h2; simp [↓hf1, ↓hf2, h, ← h2])
      · simp [↓hf1, ↓hf2, h]
  · rfl

@[simp ↓] theorem State.onOpcode_tim (s : State) (op : Nat) (f : CmdReq → State → CmdRes)
    (h : ∀ q s, (f q s).s.tim = s.tim) : (s.onOpcode op f).tim = s.tim := by
  have hf1 := @State.authenticate_frame
  have hf2 := @State.sendRsp_frame
  unfold State.onOpcode
  split
  · split
    · rfl
    · dsimp only
      split
      · split <;> (rename_i heq; have h2 := congrArg (fun x => x.2.tim) heq; simp [↓hf1, ↓hf2] at h2; simp [↓hf1, ↓hf2, h, ← h2])
      · simp [↓hf1, ↓hf2, h]
  · rfl

@[simp ↓] theorem State.onOpcode_prt (s : State) (op : Nat) (f : CmdReq → State → CmdRes)
    (h : ∀ q s, (f q s).s.prt = s.prt) : (s.onOpcode op f).prt = s.prt := by
  have hf1 := @State.authenticate_frame
  have hf2 := @State.sendRsp_frame
  unfold State.onOpcode
  split
  · split
    · rfl
    · dsimp only
      split
      · split <;> (rename_i heq; have h2 := congrArg (fun x => x.2.prt) heq; simp [↓hf1, ↓hf2] at h2; simp [↓hf1, ↓hf2, h, ← h2])
      · simp [↓hf1, ↓hf2, h]
  · rfl

@[simp ↓] theorem State.onOpcode_trp (s : State) (op : Nat) (f : CmdReq → State → CmdRes)
    (h : ∀ q s, (f q s).s.trp = s.trp) : (s.onOpcode op f).trp = s.trp := by
  have hf1 := @State.authenticate_frame
  have hf2 := @State.sendRsp_frame
  unfold State.onOpcode
  split
  · split
    · rfl
    · dsimp only
      split
      · split <;> (rename_i heq; have h2 := congrArg (fun x => x.2.trp) heq; simp [↓hf1, ↓hf2] at h2; simp [↓hf1, ↓hf2, h, ← h2])
      · simp [↓hf1, ↓hf2, h]
  · rfl

@[simp ↓] theorem State.onOpcode_pod (s : State) (op : Nat) (f : CmdReq → State → CmdRes)
    (h : ∀ q s, (f q s).s.pod = s.pod) : (s.onOpcode op f).pod = s.pod := by
  have hf1 := @State.authenticate_frame
  have hf2 := @State.sendRsp_frame
  unfold State.onOpcode
  split
  · split
    · rfl
    · dsimp only
      split
      · split <;> (rename_i heq; have h2 := congrArg (fun x => x.2.pod) heq; simp [↓hf1, ↓hf2] at h2; simp [↓hf1, ↓hf2, h, ← h2])
      · simp [↓hf1, ↓hf2, h]
  · rfl

@[simp ↓] theorem State.onOpcode_lgc (s : State) (op : Nat) (f : CmdReq → State → CmdRes)
    (h : ∀ q s, (f q s).s.lgc = s.lgc) : (s.onOpcode op f).lgc = s.lgc := by
  have hf1 := @State.authenticate_frame
  have hf2 := @State.sendRsp_frame
  unfold State.onOpcode
  split
  · split
    · rfl
    · dsimp only
      split
      · split <;> (rename_i heq; have h2 := congrArg (fun x => x.2.lgc) heq; simp [↓hf1, ↓hf2] at h2; simp [↓hf1, ↓hf2, h, ← h2])
      · simp [↓hf1, ↓hf2, h]
  · rfl

@[simp ↓] theorem State.onOpcode_gsv (s : State) (op : Nat) (f : CmdReq → State → CmdRes)
    (h : ∀ q s, (f q s).s.gsv = s.gsv) : (s.onOpcode op f).gsv = s.gsv := by
  have hf1 := @State.authenticate_frame
  have hf2 := @State.sendRsp_frame
  unfold State.onOpcode
  split
  · split
    · rfl
    · dsimp only
      split
      · split <;> (rename_i heq; have h2 := congrArg (fun x => x.2.gsv) heq; simp [↓hf1, ↓hf2] at h2; simp [↓hf1, ↓hf2, h, ← h2])
      · simp [↓hf1, ↓hf2, h]
  · rfl

@[simp ↓] theorem State.onOpcode_tph (s : State) (op : Nat) (f : CmdReq → State → CmdRes)
    (h : ∀ q s, (f q s).s.tph = s.tph) : (s.onOpcode op f).tph = s.tph := by
  have hf1 := @State.authenticate_frame
  have hf2 := @State.sendRsp_frame
  unfold State.onOpcode
  split
  · split
    · rfl
    · dsimp only
      split
      · split <;> (rename_i heq; have h2 := congrArg (fun x => x.2.tph) heq; simp [↓hf1, ↓hf2] at h2; simp [↓hf1, ↓hf2, h, ← h2])
      · simp [↓hf1, ↓hf2, h]
  · rfl

@[simp ↓] theorem State.onOpcode_oz (s : State) (op : Nat) (f : CmdReq → State → CmdRes)
    (h : ∀ q s, (f q s).s.oz = s.oz) : (s.onOpcode op f).oz = s.oz := by
  have hf1 := @State.authenticate_frame
  have hf2 := @State.sendRsp_frame
  unfold State.onOpcode
  split
  · split
    · rfl
    · dsimp only
      split
      · split <;> (rename_i heq; have h2 := congrArg (fun x => x.2.oz) heq; simp [↓hf1, ↓hf2] at h2; simp [↓hf1, ↓hf2, h, ← h2])
      · simp [↓hf1, ↓hf2, h]
  · rfl

@[simp ↓] theorem State.onOpcode_mram_boot (s : State) (op : Nat) (f : CmdReq → State → CmdRes)
    (h : ∀ q s, (f q s).s.mram.boot = s.mram.boot) : (s.onOpcode op f).mram.boot = s.mram.boot := by
  have hf1 := @State.authenticate_frame
  have hf2 := @State.sendRsp_frame
  unfold State.onOpcode
  split
  · split
    · rfl
    · dsimp only
      split
      · split <;> (rename_i heq; have h2 := congrArg (fun x => x.2.mram.boot) heq; simp [↓hf1, ↓hf2] at h2; simp [↓hf1, ↓hf2, h, ← h2])
      · simp [↓hf1, ↓hf2, h]
  · rfl

@[simp ↓] theorem State.onOpcode_sec_otp (s : State) (op : Nat) (f : CmdReq → State → CmdRes)
    (h : ∀ q s, (f q s).s.sec.otp = s.sec.otp) : (s.onOpcode op f).sec.otp = s.sec.otp := by
  have hf1 := @State.authenticate_frame
  have hf2 := @State.sendRsp_frame
  unfold State.onOpcode
  split
  · split
    · rfl
    · dsimp only
      split
      · split <;> (rename_i heq; have h2 := congrArg (fun x => x.2.sec.otp) heq; simp [↓hf1, ↓hf2] at h2; simp [↓hf1, ↓hf2, h, ← h2])
      · simp [↓hf1, ↓hf2, h]
  · rfl

@[simp ↓] theorem State.onOpcode_cmd_run (s : State) (op : Nat) (f : CmdReq → State → CmdRes)
    (h : ∀ q s, (f q s).s.cmd.run = s.cmd.run) : (s.onOpcode op f).cmd.run = s.cmd.run := by
  have hf1 := @State.authenticate_frame
  have hf2 := @State.sendRsp_frame
  unfold State.onOpcode
  split
  · split
    · rfl
    · dsimp only
      split
      · split <;> (rename_i heq; have h2 := congrArg (fun x => x.2.cmd.run) heq; simp [↓hf1, ↓hf2] at h2; simp [↓hf1, ↓hf2, h, ← h2])
      · simp [↓hf1, ↓hf2, h]
  · rfl

@[simp ↓] theorem State.onOpcode_sys_straps (s : State) (op : Nat) (f : CmdReq → State → CmdRes)
    (h : ∀ q s, (f q s).s.sys.straps = s.sys.straps) : (s.onOpcode op f).sys.straps = s.sys.straps := by
  have hf1 := @State.authenticate_frame
  have hf2 := @State.sendRsp_frame
  unfold State.onOpcode
  split
  · split
    · rfl
    · dsimp only
      split
      · split <;> (rename_i heq; have h2 := congrArg (fun x => x.2.sys.straps) heq; simp [↓hf1, ↓hf2] at h2; simp [↓hf1, ↓hf2, h, ← h2])
      · simp [↓hf1, ↓hf2, h]
  · rfl

@[simp ↓] theorem State.onOpcode_sys_por (s : State) (op : Nat) (f : CmdReq → State → CmdRes)
    (h : ∀ q s, (f q s).s.sys.por = s.sys.por) : (s.onOpcode op f).sys.por = s.sys.por := by
  have hf1 := @State.authenticate_frame
  have hf2 := @State.sendRsp_frame
  unfold State.onOpcode
  split
  · split
    · rfl
    · dsimp only
      split
      · split <;> (rename_i heq; have h2 := congrArg (fun x => x.2.sys.por) heq; simp [↓hf1, ↓hf2] at h2; simp [↓hf1, ↓hf2, h, ← h2])
      · simp [↓hf1, ↓hf2, h]
  · rfl

@[simp ↓] theorem State.onOpcode_sys_mapOn (s : State) (op : Nat) (f : CmdReq → State → CmdRes)
    (h : ∀ q s, (f q s).s.sys.mapOn = s.sys.mapOn) : (s.onOpcode op f).sys.mapOn = s.sys.mapOn := by
  have hf1 := @State.authenticate_frame
  have hf2 := @State.sendRsp_frame
  unfold State.onOpcode
  split
  · split
    · rfl
    · dsimp only
      split
      · split <;> (rename_i heq; have h2 := congrArg (fun x => x.2.sys.mapOn) heq; simp [↓hf1, ↓hf2] at h2; simp [↓hf1, ↓hf2, h, ← h2])
      · simp [↓hf1, ↓hf2, h]
  · rfl

end Sys2Proof.Machine
end

