-- ==== Sys2Proof/Laws/FrameNet.lean ====
section
/-!
SUPPORT. What the operations of Machine/Net.lean leave as it was: one lemma per operation, over the parts of the state.
-/
set_option linter.all false
set_option Elab.async false
namespace Sys2Proof.Machine
theorem State.setPort_frame (s : State) (p : ℕ) (x : PortInt) :
    (State.setPort s p x).now = s.now ∧ (State.setPort s p x).pending = s.pending ∧
    (State.setPort s p x).regs0 = s.regs0 ∧ (State.setPort s p x).freeCtr = s.freeCtr ∧
    (State.setPort s p x).mode = s.mode ∧ (State.setPort s p x).mram = s.mram ∧ (State.setPort s p x).sys = s.sys ∧
    (State.setPort s p x).evt = s.evt ∧ (State.setPort s p x).ana = s.ana ∧ (State.setPort s p x).aux = s.aux ∧
    (State.setPort s p x).flt = s.flt ∧ (State.setPort s p x).tim = s.tim ∧ (State.setPort s p x).prt = s.prt ∧
    (State.setPort s p x).trp = s.trp ∧ (State.setPort s p x).pod = s.pod ∧ (State.setPort s p x).lgc = s.lgc ∧
    (State.setPort s p x).gsv = s.gsv ∧ (State.setPort s p x).tph = s.tph ∧ (State.setPort s p x).oz = s.oz ∧
    (State.setPort s p x).sec = s.sec ∧ (State.setPort s p x).cmd = s.cmd ∧ (State.setPort s p x).regs = s.regs := by
  simp [State.setPort]

theorem State.setDdt_frame (s : State) (l : List DdtEntry) :
    (State.setDdt s l).now = s.now ∧ (State.setDdt s l).pending = s.pending ∧ (State.setDdt s l).regs0 = s.regs0 ∧
    (State.setDdt s l).freeCtr = s.freeCtr ∧ (State.setDdt s l).mode = s.mode ∧ (State.setDdt s l).mram = s.mram ∧
    (State.setDdt s l).sys = s.sys ∧ (State.setDdt s l).evt = s.evt ∧ (State.setDdt s l).ana = s.ana ∧
    (State.setDdt s l).aux = s.aux ∧ (State.setDdt s l).flt = s.flt ∧ (State.setDdt s l).tim = s.tim ∧
    (State.setDdt s l).prt = s.prt ∧ (State.setDdt s l).trp = s.trp ∧ (State.setDdt s l).pod = s.pod ∧
    (State.setDdt s l).lgc = s.lgc ∧ (State.setDdt s l).gsv = s.gsv ∧ (State.setDdt s l).tph = s.tph ∧
    (State.setDdt s l).oz = s.oz ∧ (State.setDdt s l).sec = s.sec ∧ (State.setDdt s l).cmd = s.cmd := by
  have hf1 := @State.setF_frame
  simp [↓hf1, State.setDdt]

theorem State.dupCheck_frame (s : State) (f : EthFrame) :
    (State.dupCheck s f).2.now = s.now ∧ (State.dupCheck s f).2.pending = s.pending ∧
    (State.dupCheck s f).2.regs0 = s.regs0 ∧ (State.dupCheck s f).2.freeCtr = s.freeCtr ∧
    (State.dupCheck s f).2.mode = s.mode ∧ (State.dupCheck s f).2.mram = s.mram ∧
    (State.dupCheck s f).2.sys = s.sys ∧ (State.dupCheck s f).2.evt = s.evt ∧ (State.dupCheck s f).2.ana = s.ana ∧
    (State.dupCheck s f).2.aux = s.aux ∧ (State.dupCheck s f).2.flt = s.flt ∧ (State.dupCheck s f).2.tim = s.tim ∧
    (State.dupCheck s f).2.prt = s.prt ∧ (State.dupCheck s f).2.trp = s.trp ∧ (State.dupCheck s f).2.pod = s.pod ∧
    (State.dupCheck s f).2.lgc = s.lgc ∧ (State.dupCheck s f).2.gsv = s.gsv ∧ (State.dupCheck s f).2.tph = s.tph ∧
    (State.dupCheck s f).2.oz = s.oz ∧ (State.dupCheck s f).2.sec = s.sec ∧ (State.dupCheck s f).2.cmd = s.cmd := by
  have hf1 := @State.incSat_frame
  have hf2 := @State.setDdt_frame
  simp [↓hf1, ↓hf2, State.dupCheck]
  (repeat' split) <;> simp [↓hf1, ↓hf2]

theorem State.learn_frame (s : State) (a : ℕ) (p : ℕ) :
    (State.learn s a p).now = s.now ∧ (State.learn s a p).pending = s.pending ∧ (State.learn s a p).regs0 = s.regs0 ∧
    (State.learn s a p).freeCtr = s.freeCtr ∧ (State.learn s a p).mode = s.mode ∧ (State.learn s a p).mram = s.mram ∧
    (State.learn s a p).sys = s.sys ∧ (State.learn s a p).evt = s.evt ∧ (State.learn s a p).ana = s.ana ∧
    (State.learn s a p).aux = s.aux ∧ (State.learn s a p).flt = s.flt ∧ (State.learn s a p).tim = s.tim ∧
    (State.learn s a p).prt = s.prt ∧ (State.learn s a p).trp = s.trp ∧ (State.learn s a p).pod = s.pod ∧
    (State.learn s a p).lgc = s.lgc ∧ (State.learn s a p).gsv = s.gsv ∧ (State.learn s a p).tph = s.tph ∧
    (State.learn s a p).oz = s.oz ∧ (State.learn s a p).sec = s.sec ∧ (State.learn s a p).cmd = s.cmd ∧
    (State.learn s a p).regs = s.regs := by
  have hfite := @State.ite_frame
  simp [↓hfite, State.learn]

theorem State.forward_frame (s : State) (p : ℕ) (f : EthFrame) (queue : ℕ) (res : List ℕ) (full : List Bool) (q : ℕ) :
    (State.forward s p f queue res full q).now = s.now ∧ (State.forward s p f queue res full q).pending = s.pending ∧
    (State.forward s p f queue res full q).regs0 = s.regs0 ∧
    (State.forward s p f queue res full q).freeCtr = s.freeCtr ∧
    (State.forward s p f queue res full q).mode = s.mode ∧ (State.forward s p f queue res full q).mram = s.mram ∧
    (State.forward s p f queue res full q).sys = s.sys ∧ (State.forward s p f queue res full q).evt = s.evt ∧
    (State.forward s p f queue res full q).ana = s.ana ∧ (State.forward s p f queue res full q).aux = s.aux ∧
    (State.forward s p f queue res full q).flt = s.flt ∧ (State.forward s p f queue res full q).tim = s.tim ∧
    (State.forward s p f queue res full q).prt = s.prt ∧ (State.forward s p f queue res full q).trp = s.trp ∧
    (State.forward s p f queue res full q).pod = s.pod ∧ (State.forward s p f queue res full q).lgc = s.lgc ∧
    (State.forward s p f queue res full q).gsv = s.gsv ∧ (State.forward s p f queue res full q).tph = s.tph ∧
    (State.forward s p f queue res full q).oz = s.oz ∧ (State.forward s p f queue res full q).sec = s.sec ∧
    (State.forward s p f queue res full q).cmd = s.cmd := by
  have hfite := @State.ite_frame
  have hf1 := @State.incSat_frame
  have hf2 := @State.txFrame_frame
  simp [↓hfite, ↓hf1, ↓hf2, State.forward]

theorem State.tcMax_frame (s : State) (f : EthFrame) (res : List ℕ) (outs : List ℕ) :
    (State.tcMax s f res outs).now = s.now ∧ (State.tcMax s f res outs).pending = s.pending ∧
    (State.tcMax s f res outs).regs0 = s.regs0 ∧ (State.tcMax s f res outs).freeCtr = s.freeCtr ∧
    (State.tcMax s f res outs).mode = s.mode ∧ (State.tcMax s f res outs).mram = s.mram ∧
    (State.tcMax s f res outs).sys = s.sys ∧ (State.tcMax s f res outs).evt = s.evt ∧
    (State.tcMax s f res outs).ana = s.ana ∧ (State.tcMax s f res outs).aux = s.aux ∧
    (State.tcMax s f res outs).flt = s.flt ∧ (State.tcMax s f res outs).tim = s.tim ∧
    (State.tcMax s f res outs).net = s.net ∧ (State.tcMax s f res outs).prt = s.prt ∧
    (State.tcMax s f res outs).trp = s.trp ∧ (State.tcMax s f res outs).pod = s.pod ∧
    (State.tcMax s f res outs).lgc = s.lgc ∧ (State.tcMax s f res outs).gsv = s.gsv ∧
    (State.tcMax s f res outs).tph = s.tph ∧ (State.tcMax s f res outs).oz = s.oz ∧
    (State.tcMax s f res outs).sec = s.sec ∧ (State.tcMax s f res outs).cmd = s.cmd := by
  have hfite := @State.ite_frame
  have hf1 := @State.setF_frame
  simp [↓hfite, ↓hf1, State.tcMax]

theorem State.switchFrame_frame (s : State) (p : ℕ) (f : EthFrame) (res : List ℕ) (full : List Bool) :
    (State.switchFrame s p f res full).now = s.now ∧ (State.switchFrame s p f res full).pending = s.pending ∧
    (State.switchFrame s p f res full).regs0 = s.regs0 ∧ (State.switchFrame s p f res full).freeCtr = s.freeCtr ∧
    (State.switchFrame s p f res full).mode = s.mode ∧ (State.switchFrame s p f res full).mram = s.mram ∧
    (State.switchFrame s p f res full).sys = s.sys ∧ (State.switchFrame s p f res full).evt = s.evt ∧
    (State.switchFrame s p f res full).ana = s.ana ∧ (State.switchFrame s p f res full).aux = s.aux ∧
    (State.switchFrame s p f res full).flt = s.flt ∧ (State.switchFrame s p f res full).tim = s.tim ∧
    (State.switchFrame s p f res full).prt = s.prt ∧ (State.switchFrame s p f res full).trp = s.trp ∧
    (State.switchFrame s p f res full).pod = s.pod ∧ (State.switchFrame s p f res full).lgc = s.lgc ∧
    (State.switchFrame s p f res full).gsv = s.gsv ∧ (State.switchFrame s p f res full).tph = s.tph ∧
    (State.switchFrame s p f res full).oz = s.oz ∧ (State.switchFrame s p f res full).sec = s.sec ∧
    (State.switchFrame s p f res full).cmd = s.cmd := by
  have hfite := @State.ite_frame
  have hf1 := @State.incSat_frame
  have hf2 := @State.tcMax_frame
  have hf3 := @State.setPort_frame
  have hf4 := @State.nextRedSeq_frame
  have hf5 := @State.dupCheck_frame
  have hf6 := @State.forward_frame
  have hf7 := @State.learn_frame
  simp [↓hfite, ↓hf1, ↓hf2, ↓hf3, ↓hf4, ↓hf5, ↓hf6, ↓hf7, State.switchFrame]

theorem frameReceiveEff_frame (p : ℕ) (f : EthFrame) (res : List ℕ) (full : List Bool) (s : State) :
    (frameReceiveEff p f res full s).now = s.now ∧ (frameReceiveEff p f res full s).pending = s.pending ∧
    (frameReceiveEff p f res full s).regs0 = s.regs0 ∧ (frameReceiveEff p f res full s).freeCtr = s.freeCtr ∧
    (frameReceiveEff p f res full s).mode = s.mode ∧ (frameReceiveEff p f res full s).mram = s.mram ∧
    (frameReceiveEff p f res full s).sys = s.sys ∧ (frameReceiveEff p f res full s).evt = s.evt ∧
    (frameReceiveEff p f res full s).ana = s.ana ∧ (frameReceiveEff p f res full s).aux = s.aux ∧
    (frameReceiveEff p f res full s).flt = s.flt ∧ (frameReceiveEff p f res full s).tim = s.tim ∧
    (frameReceiveEff p f res full s).prt = s.prt ∧ (frameReceiveEff p f res full s).trp = s.trp ∧
    (frameReceiveEff p f res full s).pod = s.pod ∧ (frameReceiveEff p f res full s).lgc = s.lgc ∧
    (frameReceiveEff p f res full s).gsv = s.gsv ∧ (frameReceiveEff p f res full s).tph = s.tph ∧
    (frameReceiveEff p f res full s).oz = s.oz ∧ (frameReceiveEff p f res full s).sec = s.sec ∧
    (frameReceiveEff p f res full s).cmd = s.cmd := by
  have hfite := @State.ite_frame
  have hf1 := @State.incSat_frame
  have hf2 := @State.incWrap_frame
  have hf3 := @State.switchFrame_frame
  simp [↓hfite, ↓hf1, ↓hf2, ↓hf3, frameReceiveEff]

theorem ddtEntryExpiryEff_frame (s : State) :
    (ddtEntryExpiryEff s).now = s.now ∧ (ddtEntryExpiryEff s).pending = s.pending ∧
    (ddtEntryExpiryEff s).regs0 = s.regs0 ∧ (ddtEntryExpiryEff s).freeCtr = s.freeCtr ∧
    (ddtEntryExpiryEff s).mode = s.mode ∧ (ddtEntryExpiryEff s).mram = s.mram ∧ (ddtEntryExpiryEff s).sys = s.sys ∧
    (ddtEntryExpiryEff s).evt = s.evt ∧ (ddtEntryExpiryEff s).ana = s.ana ∧ (ddtEntryExpiryEff s).aux = s.aux ∧
    (ddtEntryExpiryEff s).flt = s.flt ∧ (ddtEntryExpiryEff s).tim = s.tim ∧ (ddtEntryExpiryEff s).prt = s.prt ∧
    (ddtEntryExpiryEff s).trp = s.trp ∧ (ddtEntryExpiryEff s).pod = s.pod ∧ (ddtEntryExpiryEff s).lgc = s.lgc ∧
    (ddtEntryExpiryEff s).gsv = s.gsv ∧ (ddtEntryExpiryEff s).tph = s.tph ∧ (ddtEntryExpiryEff s).oz = s.oz ∧
    (ddtEntryExpiryEff s).sec = s.sec ∧ (ddtEntryExpiryEff s).cmd = s.cmd := by
  have hfite := @State.ite_frame
  have hf1 := @State.setDdt_frame
  simp [↓hfite, ↓hf1, ddtEntryExpiryEff]

theorem addressAgeingEff_frame (s : State) :
    (addressAgeingEff s).now = s.now ∧ (addressAgeingEff s).pending = s.pending ∧
    (addressAgeingEff s).regs0 = s.regs0 ∧ (addressAgeingEff s).freeCtr = s.freeCtr ∧
    (addressAgeingEff s).mode = s.mode ∧ (addressAgeingEff s).mram = s.mram ∧ (addressAgeingEff s).sys = s.sys ∧
    (addressAgeingEff s).evt = s.evt ∧ (addressAgeingEff s).ana = s.ana ∧ (addressAgeingEff s).aux = s.aux ∧
    (addressAgeingEff s).flt = s.flt ∧ (addressAgeingEff s).tim = s.tim ∧ (addressAgeingEff s).prt = s.prt ∧
    (addressAgeingEff s).trp = s.trp ∧ (addressAgeingEff s).pod = s.pod ∧ (addressAgeingEff s).lgc = s.lgc ∧
    (addressAgeingEff s).gsv = s.gsv ∧ (addressAgeingEff s).tph = s.tph ∧ (addressAgeingEff s).oz = s.oz ∧
    (addressAgeingEff s).sec = s.sec ∧ (addressAgeingEff s).cmd = s.cmd ∧ (addressAgeingEff s).regs = s.regs := by
  have hfite := @State.ite_frame
  simp [↓hfite, addressAgeingEff]

theorem supervisionTxEff_frame (s : State) :
    (supervisionTxEff s).now = s.now ∧ (supervisionTxEff s).pending = s.pending ∧
    (supervisionTxEff s).regs0 = s.regs0 ∧ (supervisionTxEff s).freeCtr = s.freeCtr ∧
    (supervisionTxEff s).mode = s.mode ∧ (supervisionTxEff s).mram = s.mram ∧ (supervisionTxEff s).sys = s.sys ∧
    (supervisionTxEff s).evt = s.evt ∧ (supervisionTxEff s).ana = s.ana ∧ (supervisionTxEff s).aux = s.aux ∧
    (supervisionTxEff s).flt = s.flt ∧ (supervisionTxEff s).tim = s.tim ∧ (supervisionTxEff s).prt = s.prt ∧
    (supervisionTxEff s).trp = s.trp ∧ (supervisionTxEff s).pod = s.pod ∧ (supervisionTxEff s).lgc = s.lgc ∧
    (supervisionTxEff s).gsv = s.gsv ∧ (supervisionTxEff s).tph = s.tph ∧ (supervisionTxEff s).oz = s.oz ∧
    (supervisionTxEff s).sec = s.sec ∧ (supervisionTxEff s).cmd = s.cmd := by
  have hfite := @State.ite_frame
  have hf1 := @State.txOwn_frame
  simp [↓hfite, ↓hf1, supervisionTxEff]

theorem redundancyFaultDetectEff_frame (s : State) :
    (redundancyFaultDetectEff s).now = s.now ∧ (redundancyFaultDetectEff s).pending = s.pending ∧
    (redundancyFaultDetectEff s).regs0 = s.regs0 ∧ (redundancyFaultDetectEff s).freeCtr = s.freeCtr ∧
    (redundancyFaultDetectEff s).mode = s.mode ∧ (redundancyFaultDetectEff s).mram.keyCnt = s.mram.keyCnt ∧
    (redundancyFaultDetectEff s).mram.boot = s.mram.boot ∧ (redundancyFaultDetectEff s).sys = s.sys ∧
    (redundancyFaultDetectEff s).ana = s.ana ∧ (redundancyFaultDetectEff s).aux = s.aux ∧
    (redundancyFaultDetectEff s).flt = s.flt ∧ (redundancyFaultDetectEff s).tim = s.tim ∧
    (redundancyFaultDetectEff s).net = s.net ∧ (redundancyFaultDetectEff s).prt = s.prt ∧
    (redundancyFaultDetectEff s).trp = s.trp ∧ (redundancyFaultDetectEff s).pod = s.pod ∧
    (redundancyFaultDetectEff s).lgc = s.lgc ∧ (redundancyFaultDetectEff s).gsv = s.gsv ∧
    (redundancyFaultDetectEff s).tph = s.tph ∧ (redundancyFaultDetectEff s).oz = s.oz ∧
    (redundancyFaultDetectEff s).sec = s.sec ∧ (redundancyFaultDetectEff s).cmd = s.cmd := by
  have hfite := @State.ite_frame
  have hf1 := @State.setFlag_frame
  have hf2 := @State.raise_frame
  simp [↓hfite, ↓hf1, ↓hf2, redundancyFaultDetectEff]

theorem portLinkChangeEff_frame (p : ℕ) (lane : Bool) (slow : Bool) (an : Bool) (s : State) :
    (portLinkChangeEff p lane slow an s).now = s.now ∧ (portLinkChangeEff p lane slow an s).pending = s.pending ∧
    (portLinkChangeEff p lane slow an s).regs0 = s.regs0 ∧ (portLinkChangeEff p lane slow an s).freeCtr = s.freeCtr ∧
    (portLinkChangeEff p lane slow an s).mode = s.mode ∧
    (portLinkChangeEff p lane slow an s).mram.keyCnt = s.mram.keyCnt ∧
    (portLinkChangeEff p lane slow an s).mram.boot = s.mram.boot ∧ (portLinkChangeEff p lane slow an s).sys = s.sys ∧
    (portLinkChangeEff p lane slow an s).ana = s.ana ∧ (portLinkChangeEff p lane slow an s).aux = s.aux ∧
    (portLinkChangeEff p lane slow an s).flt = s.flt ∧ (portLinkChangeEff p lane slow an s).tim = s.tim ∧
    (portLinkChangeEff p lane slow an s).net = s.net ∧ (portLinkChangeEff p lane slow an s).prt = s.prt ∧
    (portLinkChangeEff p lane slow an s).trp = s.trp ∧ (portLinkChangeEff p lane slow an s).pod = s.pod ∧
    (portLinkChangeEff p lane slow an s).lgc = s.lgc ∧ (portLinkChangeEff p lane slow an s).gsv = s.gsv ∧
    (portLinkChangeEff p lane slow an s).tph = s.tph ∧ (portLinkChangeEff p lane slow an s).oz = s.oz ∧
    (portLinkChangeEff p lane slow an s).sec = s.sec ∧ (portLinkChangeEff p lane slow an s).cmd = s.cmd := by
  have hfite := @State.ite_frame
  have hf1 := @State.setFlag_frame
  have hf2 := @State.raise_frame
  have hf3 := @State.incWrap_frame
  simp [↓hfite, ↓hf1, ↓hf2, ↓hf3, portLinkChangeEff]

theorem pdelayMeasureEff_frame (p : ℕ) (s : State) :
    (pdelayMeasureEff p s).now = s.now ∧ (pdelayMeasureEff p s).pending = s.pending ∧
    (pdelayMeasureEff p s).regs0 = s.regs0 ∧ (pdelayMeasureEff p s).freeCtr = s.freeCtr ∧
    (pdelayMeasureEff p s).mode = s.mode ∧ (pdelayMeasureEff p s).mram = s.mram ∧
    (pdelayMeasureEff p s).sys = s.sys ∧ (pdelayMeasureEff p s).evt = s.evt ∧ (pdelayMeasureEff p s).ana = s.ana ∧
    (pdelayMeasureEff p s).aux = s.aux ∧ (pdelayMeasureEff p s).flt = s.flt ∧ (pdelayMeasureEff p s).tim = s.tim ∧
    (pdelayMeasureEff p s).prt = s.prt ∧ (pdelayMeasureEff p s).trp = s.trp ∧ (pdelayMeasureEff p s).pod = s.pod ∧
    (pdelayMeasureEff p s).lgc = s.lgc ∧ (pdelayMeasureEff p s).gsv = s.gsv ∧ (pdelayMeasureEff p s).tph = s.tph ∧
    (pdelayMeasureEff p s).oz = s.oz ∧ (pdelayMeasureEff p s).sec = s.sec ∧ (pdelayMeasureEff p s).cmd = s.cmd := by
  have hfite := @State.ite_frame
  have hf1 := @State.setPort_frame
  have hf2 := @State.txOwn_frame
  simp [↓hfite, ↓hf1, ↓hf2, pdelayMeasureEff]

theorem pdelayReqReceiveEff_frame (p : ℕ) (seq : ℕ) (turn : ℤ) (s : State) :
    (pdelayReqReceiveEff p seq turn s).now = s.now ∧ (pdelayReqReceiveEff p seq turn s).pending = s.pending ∧
    (pdelayReqReceiveEff p seq turn s).regs0 = s.regs0 ∧ (pdelayReqReceiveEff p seq turn s).freeCtr = s.freeCtr ∧
    (pdelayReqReceiveEff p seq turn s).mode = s.mode ∧ (pdelayReqReceiveEff p seq turn s).mram = s.mram ∧
    (pdelayReqReceiveEff p seq turn s).sys = s.sys ∧ (pdelayReqReceiveEff p seq turn s).evt = s.evt ∧
    (pdelayReqReceiveEff p seq turn s).ana = s.ana ∧ (pdelayReqReceiveEff p seq turn s).aux = s.aux ∧
    (pdelayReqReceiveEff p seq turn s).flt = s.flt ∧ (pdelayReqReceiveEff p seq turn s).tim = s.tim ∧
    (pdelayReqReceiveEff p seq turn s).prt = s.prt ∧ (pdelayReqReceiveEff p seq turn s).trp = s.trp ∧
    (pdelayReqReceiveEff p seq turn s).pod = s.pod ∧ (pdelayReqReceiveEff p seq turn s).lgc = s.lgc ∧
    (pdelayReqReceiveEff p seq turn s).gsv = s.gsv ∧ (pdelayReqReceiveEff p seq turn s).tph = s.tph ∧
    (pdelayReqReceiveEff p seq turn s).oz = s.oz ∧ (pdelayReqReceiveEff p seq turn s).sec = s.sec ∧
    (pdelayReqReceiveEff p seq turn s).cmd = s.cmd := by
  have hfite := @State.ite_frame
  have hf1 := @State.txOwn_frame
  simp [↓hfite, ↓hf1, pdelayReqReceiveEff]

theorem pdelayRespReceiveEff_frame (p : ℕ) (seq : ℕ) (corr : ℤ) (s : State) :
    (pdelayRespReceiveEff p seq corr s).now = s.now ∧ (pdelayRespReceiveEff p seq corr s).pending = s.pending ∧
    (pdelayRespReceiveEff p seq corr s).regs0 = s.regs0 ∧ (pdelayRespReceiveEff p seq corr s).freeCtr = s.freeCtr ∧
    (pdelayRespReceiveEff p seq corr s).mode = s.mode ∧ (pdelayRespReceiveEff p seq corr s).mram = s.mram ∧
    (pdelayRespReceiveEff p seq corr s).sys = s.sys ∧ (pdelayRespReceiveEff p seq corr s).evt = s.evt ∧
    (pdelayRespReceiveEff p seq corr s).ana = s.ana ∧ (pdelayRespReceiveEff p seq corr s).aux = s.aux ∧
    (pdelayRespReceiveEff p seq corr s).flt = s.flt ∧ (pdelayRespReceiveEff p seq corr s).tim = s.tim ∧
    (pdelayRespReceiveEff p seq corr s).prt = s.prt ∧ (pdelayRespReceiveEff p seq corr s).trp = s.trp ∧
    (pdelayRespReceiveEff p seq corr s).pod = s.pod ∧ (pdelayRespReceiveEff p seq corr s).lgc = s.lgc ∧
    (pdelayRespReceiveEff p seq corr s).gsv = s.gsv ∧ (pdelayRespReceiveEff p seq corr s).tph = s.tph ∧
    (pdelayRespReceiveEff p seq corr s).oz = s.oz ∧ (pdelayRespReceiveEff p seq corr s).sec = s.sec ∧
    (pdelayRespReceiveEff p seq corr s).cmd = s.cmd := by
  have hf1 := @State.setF_frame
  have hf2 := @State.setPort_frame
  unfold pdelayRespReceiveEff
  (repeat' split) <;> simp [↓hf1, ↓hf2]

theorem State.mdioW_frame (v : ℕ) (s : State) :
    (State.mdioW v s).2.now = s.now ∧ (State.mdioW v s).2.pending = s.pending ∧ (State.mdioW v s).2.regs0 = s.regs0 ∧
    (State.mdioW v s).2.freeCtr = s.freeCtr ∧ (State.mdioW v s).2.mode = s.mode ∧ (State.mdioW v s).2.mram = s.mram ∧
    (State.mdioW v s).2.sys = s.sys ∧ (State.mdioW v s).2.evt = s.evt ∧ (State.mdioW v s).2.ana = s.ana ∧
    (State.mdioW v s).2.aux = s.aux ∧ (State.mdioW v s).2.flt = s.flt ∧ (State.mdioW v s).2.tim = s.tim ∧
    (State.mdioW v s).2.prt = s.prt ∧ (State.mdioW v s).2.trp = s.trp ∧ (State.mdioW v s).2.pod = s.pod ∧
    (State.mdioW v s).2.lgc = s.lgc ∧ (State.mdioW v s).2.gsv = s.gsv ∧ (State.mdioW v s).2.tph = s.tph ∧
    (State.mdioW v s).2.oz = s.oz ∧ (State.mdioW v s).2.sec = s.sec ∧ (State.mdioW v s).2.cmd = s.cmd := by
  have hf1 := @State.setFlag_frame
  have hf2 := @State.setF_frame
  simp [↓hf1, ↓hf2, State.mdioW]
  (repeat' split) <;> simp [↓hf1, ↓hf2]

theorem mdioEff_frame (op : MdioOp) (r : Requester) (v : ℕ) (s : State) :
    (mdioEff op r v s).now = s.now ∧ (mdioEff op r v s).pending = s.pending ∧ (mdioEff op r v s).regs0 = s.regs0 ∧
    (mdioEff op r v s).freeCtr = s.freeCtr ∧ (mdioEff op r v s).mode = s.mode ∧
    (mdioEff op r v s).mram.keyCnt = s.mram.keyCnt ∧ (mdioEff op r v s).mram.boot = s.mram.boot ∧
    (mdioEff op r v s).sys = s.sys ∧ (mdioEff op r v s).ana = s.ana ∧ (mdioEff op r v s).aux = s.aux ∧
    (mdioEff op r v s).flt = s.flt ∧ (mdioEff op r v s).tim = s.tim ∧ (mdioEff op r v s).prt = s.prt ∧
    (mdioEff op r v s).trp = s.trp ∧ (mdioEff op r v s).pod = s.pod ∧ (mdioEff op r v s).lgc = s.lgc ∧
    (mdioEff op r v s).gsv = s.gsv ∧ (mdioEff op r v s).tph = s.tph ∧ (mdioEff op r v s).oz = s.oz ∧
    (mdioEff op r v s).sec = s.sec ∧ (mdioEff op r v s).cmd = s.cmd := by
  have hfite := @State.ite_frame
  have hf1 := @State.mdioW_frame
  simp [↓hfite, ↓hf1, mdioEff]

theorem mdioFrameDoneEff_frame (data : ℕ) (s : State) :
    (mdioFrameDoneEff data s).now = s.now ∧ (mdioFrameDoneEff data s).pending = s.pending ∧
    (mdioFrameDoneEff data s).regs0 = s.regs0 ∧ (mdioFrameDoneEff data s).freeCtr = s.freeCtr ∧
    (mdioFrameDoneEff data s).mode = s.mode ∧ (mdioFrameDoneEff data s).mram = s.mram ∧
    (mdioFrameDoneEff data s).sys = s.sys ∧ (mdioFrameDoneEff data s).evt = s.evt ∧
    (mdioFrameDoneEff data s).ana = s.ana ∧ (mdioFrameDoneEff data s).aux = s.aux ∧
    (mdioFrameDoneEff data s).flt = s.flt ∧ (mdioFrameDoneEff data s).tim = s.tim ∧
    (mdioFrameDoneEff data s).prt = s.prt ∧ (mdioFrameDoneEff data s).trp = s.trp ∧
    (mdioFrameDoneEff data s).pod = s.pod ∧ (mdioFrameDoneEff data s).lgc = s.lgc ∧
    (mdioFrameDoneEff data s).gsv = s.gsv ∧ (mdioFrameDoneEff data s).tph = s.tph ∧
    (mdioFrameDoneEff data s).oz = s.oz ∧ (mdioFrameDoneEff data s).sec = s.sec ∧
    (mdioFrameDoneEff data s).cmd = s.cmd := by
  have hf1 := @State.setF_frame
  have hf2 := @State.setFlag_frame
  unfold mdioFrameDoneEff
  (repeat' split) <;> simp [↓hf1, ↓hf2]
end Sys2Proof.Machine
end

