-- ==== Sys2Proof/Laws/FrameAnalog.lean ====
section
/-!
SUPPORT. What the operations of Machine/Analog.lean leave as it was: one lemma per operation, over the parts of the state.
-/
set_option linter.all false
set_option Elab.async false
namespace Sys2Proof.Machine
theorem State.setGrp_frame (s : State) (g : ℕ) (x : GroupInt) :
    (State.setGrp s g x).now = s.now ∧ (State.setGrp s g x).pending = s.pending ∧
    (State.setGrp s g x).regs0 = s.regs0 ∧ (State.setGrp s g x).freeCtr = s.freeCtr ∧
    (State.setGrp s g x).mode = s.mode ∧ (State.setGrp s g x).mram = s.mram ∧ (State.setGrp s g x).sys = s.sys ∧
    (State.setGrp s g x).evt = s.evt ∧ (State.setGrp s g x).aux = s.aux ∧ (State.setGrp s g x).flt = s.flt ∧
    (State.setGrp s g x).tim = s.tim ∧ (State.setGrp s g x).net = s.net ∧ (State.setGrp s g x).prt = s.prt ∧
    (State.setGrp s g x).trp = s.trp ∧ (State.setGrp s g x).pod = s.pod ∧ (State.setGrp s g x).lgc = s.lgc ∧
    (State.setGrp s g x).gsv = s.gsv ∧ (State.setGrp s g x).tph = s.tph ∧ (State.setGrp s g x).oz = s.oz ∧
    (State.setGrp s g x).sec = s.sec ∧ (State.setGrp s g x).cmd = s.cmd ∧ (State.setGrp s g x).regs = s.regs := by
  simp [State.setGrp]

theorem State.setChan_frame (s : State) (c : ℕ) (x : ChanInt) :
    (State.setChan s c x).now = s.now ∧ (State.setChan s c x).pending = s.pending ∧
    (State.setChan s c x).regs0 = s.regs0 ∧ (State.setChan s c x).freeCtr = s.freeCtr ∧
    (State.setChan s c x).mode = s.mode ∧ (State.setChan s c x).mram = s.mram ∧ (State.setChan s c x).sys = s.sys ∧
    (State.setChan s c x).evt = s.evt ∧ (State.setChan s c x).aux = s.aux ∧ (State.setChan s c x).flt = s.flt ∧
    (State.setChan s c x).tim = s.tim ∧ (State.setChan s c x).net = s.net ∧ (State.setChan s c x).prt = s.prt ∧
    (State.setChan s c x).trp = s.trp ∧ (State.setChan s c x).pod = s.pod ∧ (State.setChan s c x).lgc = s.lgc ∧
    (State.setChan s c x).gsv = s.gsv ∧ (State.setChan s c x).tph = s.tph ∧ (State.setChan s c x).oz = s.oz ∧
    (State.setChan s c x).sec = s.sec ∧ (State.setChan s c x).cmd = s.cmd ∧ (State.setChan s c x).regs = s.regs := by
  simp [State.setChan]

theorem State.outSample_frame (s : State) (c : ℕ) (v : ℤ) (tag : Tag) :
    (State.outSample s c v tag).now = s.now ∧ (State.outSample s c v tag).pending = s.pending ∧
    (State.outSample s c v tag).regs0 = s.regs0 ∧ (State.outSample s c v tag).freeCtr = s.freeCtr ∧
    (State.outSample s c v tag).mode = s.mode ∧ (State.outSample s c v tag).mram = s.mram ∧
    (State.outSample s c v tag).sys = s.sys ∧ (State.outSample s c v tag).evt = s.evt ∧
    (State.outSample s c v tag).aux = s.aux ∧ (State.outSample s c v tag).flt = s.flt ∧
    (State.outSample s c v tag).tim = s.tim ∧ (State.outSample s c v tag).net = s.net ∧
    (State.outSample s c v tag).prt = s.prt ∧ (State.outSample s c v tag).trp = s.trp ∧
    (State.outSample s c v tag).pod = s.pod ∧ (State.outSample s c v tag).lgc = s.lgc ∧
    (State.outSample s c v tag).gsv = s.gsv ∧ (State.outSample s c v tag).tph = s.tph ∧
    (State.outSample s c v tag).oz = s.oz ∧ (State.outSample s c v tag).sec = s.sec ∧
    (State.outSample s c v tag).cmd = s.cmd := by
  have hf1 := @State.setF_frame
  have hf2 := @State.setChan_frame
  simp [↓hf1, ↓hf2, State.outSample]

theorem State.setRange_frame (s : State) (c : ℕ) (r : ℕ) :
    (State.setRange s c r).now = s.now ∧ (State.setRange s c r).pending = s.pending ∧
    (State.setRange s c r).regs0 = s.regs0 ∧ (State.setRange s c r).freeCtr = s.freeCtr ∧
    (State.setRange s c r).mode = s.mode ∧ (State.setRange s c r).mram = s.mram ∧
    (State.setRange s c r).sys = s.sys ∧ (State.setRange s c r).evt = s.evt ∧ (State.setRange s c r).ana = s.ana ∧
    (State.setRange s c r).aux = s.aux ∧ (State.setRange s c r).flt = s.flt ∧ (State.setRange s c r).tim = s.tim ∧
    (State.setRange s c r).net = s.net ∧ (State.setRange s c r).prt = s.prt ∧ (State.setRange s c r).trp = s.trp ∧
    (State.setRange s c r).pod = s.pod ∧ (State.setRange s c r).lgc = s.lgc ∧ (State.setRange s c r).gsv = s.gsv ∧
    (State.setRange s c r).tph = s.tph ∧ (State.setRange s c r).oz = s.oz ∧ (State.setRange s c r).sec = s.sec ∧
    (State.setRange s c r).cmd = s.cmd := by
  have hfite := @State.ite_frame
  have hf1 := @State.incWrap_frame
  have hf2 := @State.setF_frame
  simp [↓hfite, ↓hf1, ↓hf2, State.setRange]

theorem State.fuseCurrent_frame (s : State) (g : ℕ) (c : ℕ) (base : Tag) (kl : ℕ) (kh : ℕ) (l : ℤ) (h : ℤ) :
    (State.fuseCurrent s g c base kl kh l h).now = s.now ∧
    (State.fuseCurrent s g c base kl kh l h).pending = s.pending ∧
    (State.fuseCurrent s g c base kl kh l h).regs0 = s.regs0 ∧
    (State.fuseCurrent s g c base kl kh l h).freeCtr = s.freeCtr ∧
    (State.fuseCurrent s g c base kl kh l h).mode = s.mode ∧ (State.fuseCurrent s g c base kl kh l h).mram = s.mram ∧
    (State.fuseCurrent s g c base kl kh l h).sys = s.sys ∧ (State.fuseCurrent s g c base kl kh l h).evt = s.evt ∧
    (State.fuseCurrent s g c base kl kh l h).aux = s.aux ∧ (State.fuseCurrent s g c base kl kh l h).flt = s.flt ∧
    (State.fuseCurrent s g c base kl kh l h).tim = s.tim ∧ (State.fuseCurrent s g c base kl kh l h).net = s.net ∧
    (State.fuseCurrent s g c base kl kh l h).prt = s.prt ∧ (State.fuseCurrent s g c base kl kh l h).trp = s.trp ∧
    (State.fuseCurrent s g c base kl kh l h).pod = s.pod ∧ (State.fuseCurrent s g c base kl kh l h).lgc = s.lgc ∧
    (State.fuseCurrent s g c base kl kh l h).gsv = s.gsv ∧ (State.fuseCurrent s g c base kl kh l h).tph = s.tph ∧
    (State.fuseCurrent s g c base kl kh l h).oz = s.oz ∧ (State.fuseCurrent s g c base kl kh l h).sec = s.sec ∧
    (State.fuseCurrent s g c base kl kh l h).cmd = s.cmd := by
  have hfite := @State.ite_frame
  have hf1 := @State.outSample_frame
  have hf2 := @State.setF_frame
  have hf3 := @State.setChan_frame
  have hf4 := @State.setRange_frame
  simp [↓hfite, ↓hf1, ↓hf2, ↓hf3, ↓hf4, State.fuseCurrent]

theorem State.fuseChan_frame (s : State) (codes : List ℤ) (c : ℕ) :
    (State.fuseChan s codes c).now = s.now ∧ (State.fuseChan s codes c).pending = s.pending ∧
    (State.fuseChan s codes c).regs0 = s.regs0 ∧ (State.fuseChan s codes c).freeCtr = s.freeCtr ∧
    (State.fuseChan s codes c).mode = s.mode ∧ (State.fuseChan s codes c).mram = s.mram ∧
    (State.fuseChan s codes c).sys = s.sys ∧ (State.fuseChan s codes c).evt = s.evt ∧
    (State.fuseChan s codes c).aux = s.aux ∧ (State.fuseChan s codes c).flt = s.flt ∧
    (State.fuseChan s codes c).tim = s.tim ∧ (State.fuseChan s codes c).net = s.net ∧
    (State.fuseChan s codes c).prt = s.prt ∧ (State.fuseChan s codes c).trp = s.trp ∧
    (State.fuseChan s codes c).pod = s.pod ∧ (State.fuseChan s codes c).lgc = s.lgc ∧
    (State.fuseChan s codes c).gsv = s.gsv ∧ (State.fuseChan s codes c).tph = s.tph ∧
    (State.fuseChan s codes c).oz = s.oz ∧ (State.fuseChan s codes c).sec = s.sec ∧
    (State.fuseChan s codes c).cmd = s.cmd := by
  have hfite := @State.ite_frame
  have hf1 := @State.outSample_frame
  have hf2 := @State.fuseCurrent_frame
  simp [↓hfite, ↓hf1, ↓hf2, State.fuseChan]
  (repeat' split) <;> simp [↓hfite, ↓hf1, ↓hf2]

theorem State.arbCount_frame (s : State) (g : ℕ) (n : ℕ) (codes : List ℤ) :
    (State.arbCount s g n codes).now = s.now ∧ (State.arbCount s g n codes).pending = s.pending ∧
    (State.arbCount s g n codes).regs0 = s.regs0 ∧ (State.arbCount s g n codes).freeCtr = s.freeCtr ∧
    (State.arbCount s g n codes).mode = s.mode ∧ (State.arbCount s g n codes).mram = s.mram ∧
    (State.arbCount s g n codes).sys = s.sys ∧ (State.arbCount s g n codes).evt = s.evt ∧
    (State.arbCount s g n codes).aux = s.aux ∧ (State.arbCount s g n codes).flt = s.flt ∧
    (State.arbCount s g n codes).tim = s.tim ∧ (State.arbCount s g n codes).net = s.net ∧
    (State.arbCount s g n codes).prt = s.prt ∧ (State.arbCount s g n codes).trp = s.trp ∧
    (State.arbCount s g n codes).pod = s.pod ∧ (State.arbCount s g n codes).lgc = s.lgc ∧
    (State.arbCount s g n codes).gsv = s.gsv ∧ (State.arbCount s g n codes).tph = s.tph ∧
    (State.arbCount s g n codes).oz = s.oz ∧ (State.arbCount s g n codes).sec = s.sec ∧
    (State.arbCount s g n codes).cmd = s.cmd ∧ (State.arbCount s g n codes).regs = s.regs := by
  have hf1 := @State.setGrp_frame
  unfold State.arbCount
  (repeat' split) <;> simp [↓hf1]

theorem State.shadowCount_frame (s : State) (g : ℕ) (n : ℕ) (codes : List ℤ) :
    (State.shadowCount s g n codes).now = s.now ∧ (State.shadowCount s g n codes).pending = s.pending ∧
    (State.shadowCount s g n codes).regs0 = s.regs0 ∧ (State.shadowCount s g n codes).freeCtr = s.freeCtr ∧
    (State.shadowCount s g n codes).mode = s.mode ∧ (State.shadowCount s g n codes).mram = s.mram ∧
    (State.shadowCount s g n codes).sys = s.sys ∧ (State.shadowCount s g n codes).evt = s.evt ∧
    (State.shadowCount s g n codes).aux = s.aux ∧ (State.shadowCount s g n codes).flt = s.flt ∧
    (State.shadowCount s g n codes).tim = s.tim ∧ (State.shadowCount s g n codes).net = s.net ∧
    (State.shadowCount s g n codes).prt = s.prt ∧ (State.shadowCount s g n codes).trp = s.trp ∧
    (State.shadowCount s g n codes).pod = s.pod ∧ (State.shadowCount s g n codes).lgc = s.lgc ∧
    (State.shadowCount s g n codes).gsv = s.gsv ∧ (State.shadowCount s g n codes).tph = s.tph ∧
    (State.shadowCount s g n codes).oz = s.oz ∧ (State.shadowCount s g n codes).sec = s.sec ∧
    (State.shadowCount s g n codes).cmd = s.cmd ∧ (State.shadowCount s g n codes).regs = s.regs := by
  have hfite := @State.ite_frame
  have hf1 := @State.setGrp_frame
  simp [↓hfite, ↓hf1, State.shadowCount]
  (repeat' split) <;> simp [↓hfite, ↓hf1]

theorem State.refStrobe_frame (s : State) (g : ℕ) (n : ℕ) :
    (State.refStrobe s g n).now = s.now ∧ (State.refStrobe s g n).pending = s.pending ∧
    (State.refStrobe s g n).regs0 = s.regs0 ∧ (State.refStrobe s g n).freeCtr = s.freeCtr ∧
    (State.refStrobe s g n).mode = s.mode ∧ (State.refStrobe s g n).mram = s.mram ∧
    (State.refStrobe s g n).sys = s.sys ∧ (State.refStrobe s g n).evt = s.evt ∧ (State.refStrobe s g n).aux = s.aux ∧
    (State.refStrobe s g n).flt = s.flt ∧ (State.refStrobe s g n).tim = s.tim ∧ (State.refStrobe s g n).net = s.net ∧
    (State.refStrobe s g n).prt = s.prt ∧ (State.refStrobe s g n).trp = s.trp ∧ (State.refStrobe s g n).pod = s.pod ∧
    (State.refStrobe s g n).lgc = s.lgc ∧ (State.refStrobe s g n).gsv = s.gsv ∧ (State.refStrobe s g n).tph = s.tph ∧
    (State.refStrobe s g n).oz = s.oz ∧ (State.refStrobe s g n).sec = s.sec ∧ (State.refStrobe s g n).cmd = s.cmd := by
  have hfite := @State.ite_frame
  have hf1 := @State.setFlag_frame
  have hf2 := @State.setF_frame
  have hf3 := @State.setGrp_frame
  simp [↓hfite, ↓hf1, ↓hf2, ↓hf3, State.refStrobe]
  (repeat' split) <;> simp [↓hfite, ↓hf1, ↓hf2, ↓hf3]

theorem State.refMonitor_frame (s : State) (g : ℕ) (inWindow : Bool) :
    (State.refMonitor s g inWindow).now = s.now ∧ (State.refMonitor s g inWindow).pending = s.pending ∧
    (State.refMonitor s g inWindow).regs0 = s.regs0 ∧ (State.refMonitor s g inWindow).freeCtr = s.freeCtr ∧
    (State.refMonitor s g inWindow).mode = s.mode ∧ (State.refMonitor s g inWindow).mram = s.mram ∧
    (State.refMonitor s g inWindow).sys = s.sys ∧ (State.refMonitor s g inWindow).evt = s.evt ∧
    (State.refMonitor s g inWindow).aux = s.aux ∧ (State.refMonitor s g inWindow).flt = s.flt ∧
    (State.refMonitor s g inWindow).tim = s.tim ∧ (State.refMonitor s g inWindow).net = s.net ∧
    (State.refMonitor s g inWindow).prt = s.prt ∧ (State.refMonitor s g inWindow).trp = s.trp ∧
    (State.refMonitor s g inWindow).pod = s.pod ∧ (State.refMonitor s g inWindow).lgc = s.lgc ∧
    (State.refMonitor s g inWindow).gsv = s.gsv ∧ (State.refMonitor s g inWindow).tph = s.tph ∧
    (State.refMonitor s g inWindow).oz = s.oz ∧ (State.refMonitor s g inWindow).sec = s.sec ∧
    (State.refMonitor s g inWindow).cmd = s.cmd ∧ (State.refMonitor s g inWindow).regs = s.regs := by
  have hfite := @State.ite_frame
  have hf1 := @State.setGrp_frame
  simp [↓hfite, ↓hf1, State.refMonitor]

theorem State.groupStrobe_frame (s : State) (n : ℕ) (g : ℕ) (codes : List ℤ) (inWindow : Bool) :
    (State.groupStrobe s n g codes inWindow).now = s.now ∧
    (State.groupStrobe s n g codes inWindow).pending = s.pending ∧
    (State.groupStrobe s n g codes inWindow).regs0 = s.regs0 ∧
    (State.groupStrobe s n g codes inWindow).freeCtr = s.freeCtr ∧
    (State.groupStrobe s n g codes inWindow).mode = s.mode ∧ (State.groupStrobe s n g codes inWindow).mram = s.mram ∧
    (State.groupStrobe s n g codes inWindow).sys = s.sys ∧ (State.groupStrobe s n g codes inWindow).evt = s.evt ∧
    (State.groupStrobe s n g codes inWindow).aux = s.aux ∧ (State.groupStrobe s n g codes inWindow).flt = s.flt ∧
    (State.groupStrobe s n g codes inWindow).tim = s.tim ∧ (State.groupStrobe s n g codes inWindow).net = s.net ∧
    (State.groupStrobe s n g codes inWindow).prt = s.prt ∧ (State.groupStrobe s n g codes inWindow).trp = s.trp ∧
    (State.groupStrobe s n g codes inWindow).pod = s.pod ∧ (State.groupStrobe s n g codes inWindow).lgc = s.lgc ∧
    (State.groupStrobe s n g codes inWindow).gsv = s.gsv ∧ (State.groupStrobe s n g codes inWindow).tph = s.tph ∧
    (State.groupStrobe s n g codes inWindow).oz = s.oz ∧ (State.groupStrobe s n g codes inWindow).sec = s.sec ∧
    (State.groupStrobe s n g codes inWindow).cmd = s.cmd := by
  have hf1 := @State.shadowCount_frame
  have hf2 := @State.arbCount_frame
  have hf3 := @State.fuseChan_frame
  have hf4 := @State.refMonitor_frame
  have hf5 := @State.refStrobe_frame
  simp [↓hf1, ↓hf2, ↓hf3, ↓hf4, ↓hf5, State.groupStrobe]

theorem State.snapTake_frame (s : State) :
    (State.snapTake s).now = s.now ∧ (State.snapTake s).pending = s.pending ∧ (State.snapTake s).regs0 = s.regs0 ∧
    (State.snapTake s).freeCtr = s.freeCtr ∧ (State.snapTake s).mode = s.mode ∧ (State.snapTake s).mram = s.mram ∧
    (State.snapTake s).sys = s.sys ∧ (State.snapTake s).evt = s.evt ∧ (State.snapTake s).ana = s.ana ∧
    (State.snapTake s).flt = s.flt ∧ (State.snapTake s).tim = s.tim ∧ (State.snapTake s).net = s.net ∧
    (State.snapTake s).prt = s.prt ∧ (State.snapTake s).trp = s.trp ∧ (State.snapTake s).pod = s.pod ∧
    (State.snapTake s).lgc = s.lgc ∧ (State.snapTake s).gsv = s.gsv ∧ (State.snapTake s).tph = s.tph ∧
    (State.snapTake s).oz = s.oz ∧ (State.snapTake s).sec = s.sec ∧ (State.snapTake s).cmd = s.cmd := by
  have hfite := @State.ite_frame
  have hf1 := @State.incWrap_frame
  simp [↓hfite, ↓hf1, State.snapTake]

theorem State.strobe_frame (s : State) (raw : List (List ℤ)) (refA : Bool) (refB : Bool) :
    (State.strobe s raw refA refB).now = s.now ∧ (State.strobe s raw refA refB).pending = s.pending ∧
    (State.strobe s raw refA refB).regs0 = s.regs0 ∧ (State.strobe s raw refA refB).freeCtr = s.freeCtr ∧
    (State.strobe s raw refA refB).mode = s.mode ∧ (State.strobe s raw refA refB).mram = s.mram ∧
    (State.strobe s raw refA refB).sys = s.sys ∧ (State.strobe s raw refA refB).evt = s.evt ∧
    (State.strobe s raw refA refB).flt = s.flt ∧ (State.strobe s raw refA refB).tim = s.tim ∧
    (State.strobe s raw refA refB).net = s.net ∧ (State.strobe s raw refA refB).prt = s.prt ∧
    (State.strobe s raw refA refB).trp = s.trp ∧ (State.strobe s raw refA refB).pod = s.pod ∧
    (State.strobe s raw refA refB).lgc = s.lgc ∧ (State.strobe s raw refA refB).gsv = s.gsv ∧
    (State.strobe s raw refA refB).tph = s.tph ∧ (State.strobe s raw refA refB).oz = s.oz ∧
    (State.strobe s raw refA refB).sec = s.sec ∧ (State.strobe s raw refA refB).cmd = s.cmd := by
  have hfite := @State.ite_frame
  have hf1 := @State.snapTake_frame
  have hf2 := @State.setF_frame
  have hf3 := @State.groupStrobe_frame
  simp [↓hfite, ↓hf1, ↓hf2, ↓hf3, State.strobe]

theorem State.degrade_frame (s : State) (g : ℕ) :
    (State.degrade s g).now = s.now ∧ (State.degrade s g).pending = s.pending ∧ (State.degrade s g).regs0 = s.regs0 ∧
    (State.degrade s g).freeCtr = s.freeCtr ∧ (State.degrade s g).mode = s.mode ∧
    (State.degrade s g).mram.keyCnt = s.mram.keyCnt ∧ (State.degrade s g).mram.boot = s.mram.boot ∧
    (State.degrade s g).sys = s.sys ∧ (State.degrade s g).aux = s.aux ∧ (State.degrade s g).flt = s.flt ∧
    (State.degrade s g).tim = s.tim ∧ (State.degrade s g).net = s.net ∧ (State.degrade s g).prt = s.prt ∧
    (State.degrade s g).trp = s.trp ∧ (State.degrade s g).pod = s.pod ∧ (State.degrade s g).lgc = s.lgc ∧
    (State.degrade s g).gsv = s.gsv ∧ (State.degrade s g).tph = s.tph ∧ (State.degrade s g).oz = s.oz ∧
    (State.degrade s g).sec = s.sec ∧ (State.degrade s g).cmd = s.cmd := by
  have hf1 := @State.raise_frame
  have hf2 := @State.setFlag_frame
  have hf3 := @State.setF_frame
  have hf4 := @State.setGrp_frame
  simp [↓hf1, ↓hf2, ↓hf3, ↓hf4, State.degrade]

theorem State.retire_frame (s : State) (g : ℕ) (k : ℕ) (cause : ℕ) :
    (State.retire s g k cause).now = s.now ∧ (State.retire s g k cause).pending = s.pending ∧
    (State.retire s g k cause).regs0 = s.regs0 ∧ (State.retire s g k cause).freeCtr = s.freeCtr ∧
    (State.retire s g k cause).mode = s.mode ∧ (State.retire s g k cause).mram.keyCnt = s.mram.keyCnt ∧
    (State.retire s g k cause).mram.boot = s.mram.boot ∧ (State.retire s g k cause).sys = s.sys ∧
    (State.retire s g k cause).ana = s.ana ∧ (State.retire s g k cause).aux = s.aux ∧
    (State.retire s g k cause).flt = s.flt ∧ (State.retire s g k cause).tim = s.tim ∧
    (State.retire s g k cause).net = s.net ∧ (State.retire s g k cause).prt = s.prt ∧
    (State.retire s g k cause).trp = s.trp ∧ (State.retire s g k cause).pod = s.pod ∧
    (State.retire s g k cause).lgc = s.lgc ∧ (State.retire s g k cause).gsv = s.gsv ∧
    (State.retire s g k cause).tph = s.tph ∧ (State.retire s g k cause).oz = s.oz ∧
    (State.retire s g k cause).sec = s.sec ∧ (State.retire s g k cause).cmd = s.cmd := by
  have hf1 := @State.raise_frame
  have hf2 := @State.setF_frame
  simp [↓hf1, ↓hf2, State.retire]

theorem State.retireToSpare_frame (s : State) (g : ℕ) (role : ℕ) (cause : ℕ) :
    (State.retireToSpare s g role cause).now = s.now ∧ (State.retireToSpare s g role cause).pending = s.pending ∧
    (State.retireToSpare s g role cause).regs0 = s.regs0 ∧ (State.retireToSpare s g role cause).freeCtr = s.freeCtr ∧
    (State.retireToSpare s g role cause).mode = s.mode ∧
    (State.retireToSpare s g role cause).mram.keyCnt = s.mram.keyCnt ∧
    (State.retireToSpare s g role cause).mram.boot = s.mram.boot ∧ (State.retireToSpare s g role cause).sys = s.sys ∧
    (State.retireToSpare s g role cause).aux = s.aux ∧ (State.retireToSpare s g role cause).flt = s.flt ∧
    (State.retireToSpare s g role cause).tim = s.tim ∧ (State.retireToSpare s g role cause).net = s.net ∧
    (State.retireToSpare s g role cause).prt = s.prt ∧ (State.retireToSpare s g role cause).trp = s.trp ∧
    (State.retireToSpare s g role cause).pod = s.pod ∧ (State.retireToSpare s g role cause).lgc = s.lgc ∧
    (State.retireToSpare s g role cause).gsv = s.gsv ∧ (State.retireToSpare s g role cause).tph = s.tph ∧
    (State.retireToSpare s g role cause).oz = s.oz ∧ (State.retireToSpare s g role cause).sec = s.sec ∧
    (State.retireToSpare s g role cause).cmd = s.cmd := by
  have hf1 := @State.degrade_frame
  have hf2 := @State.setF_frame
  have hf3 := @State.retire_frame
  simp [↓hf1, ↓hf2, ↓hf3, State.retireToSpare]
  (repeat' split) <;> simp [↓hf1, ↓hf2, ↓hf3]

theorem State.singleL_frame (s : State) (g : ℕ) (c : ℕ) :
    (State.singleL s g c).now = s.now ∧ (State.singleL s g c).pending = s.pending ∧
    (State.singleL s g c).regs0 = s.regs0 ∧ (State.singleL s g c).freeCtr = s.freeCtr ∧
    (State.singleL s g c).mode = s.mode ∧ (State.singleL s g c).mram.keyCnt = s.mram.keyCnt ∧
    (State.singleL s g c).mram.boot = s.mram.boot ∧ (State.singleL s g c).sys = s.sys ∧
    (State.singleL s g c).ana = s.ana ∧ (State.singleL s g c).aux = s.aux ∧ (State.singleL s g c).flt = s.flt ∧
    (State.singleL s g c).tim = s.tim ∧ (State.singleL s g c).net = s.net ∧ (State.singleL s g c).prt = s.prt ∧
    (State.singleL s g c).trp = s.trp ∧ (State.singleL s g c).pod = s.pod ∧ (State.singleL s g c).lgc = s.lgc ∧
    (State.singleL s g c).gsv = s.gsv ∧ (State.singleL s g c).tph = s.tph ∧ (State.singleL s g c).oz = s.oz ∧
    (State.singleL s g c).sec = s.sec ∧ (State.singleL s g c).cmd = s.cmd := by
  have hf1 := @State.setF_frame
  have hf2 := @State.setFlag_frame
  have hf3 := @State.retire_frame
  unfold State.singleL
  (repeat' split) <;> simp [↓hf1, ↓hf2, ↓hf3]

theorem State.openWindow_frame (s : State) (g : ℕ) (c : ℕ) (n0 : ℕ) :
    (State.openWindow s g c n0).now = s.now ∧ (State.openWindow s g c n0).pending = s.pending ∧
    (State.openWindow s g c n0).regs0 = s.regs0 ∧ (State.openWindow s g c n0).freeCtr = s.freeCtr ∧
    (State.openWindow s g c n0).mode = s.mode ∧ (State.openWindow s g c n0).mram = s.mram ∧
    (State.openWindow s g c n0).sys = s.sys ∧ (State.openWindow s g c n0).evt = s.evt ∧
    (State.openWindow s g c n0).aux = s.aux ∧ (State.openWindow s g c n0).flt = s.flt ∧
    (State.openWindow s g c n0).tim = s.tim ∧ (State.openWindow s g c n0).net = s.net ∧
    (State.openWindow s g c n0).prt = s.prt ∧ (State.openWindow s g c n0).trp = s.trp ∧
    (State.openWindow s g c n0).pod = s.pod ∧ (State.openWindow s g c n0).lgc = s.lgc ∧
    (State.openWindow s g c n0).gsv = s.gsv ∧ (State.openWindow s g c n0).tph = s.tph ∧
    (State.openWindow s g c n0).oz = s.oz ∧ (State.openWindow s g c n0).sec = s.sec ∧
    (State.openWindow s g c n0).cmd = s.cmd := by
  have hf1 := @State.incSat_frame
  have hf2 := @State.setFlag_frame
  have hf3 := @State.setF_frame
  have hf4 := @State.setGrp_frame
  simp [↓hf1, ↓hf2, ↓hf3, ↓hf4, State.openWindow]

theorem State.callSpare_frame (s : State) (g : ℕ) (c : ℕ) :
    (State.callSpare s g c).now = s.now ∧ (State.callSpare s g c).pending = s.pending ∧
    (State.callSpare s g c).regs0 = s.regs0 ∧ (State.callSpare s g c).freeCtr = s.freeCtr ∧
    (State.callSpare s g c).mode = s.mode ∧ (State.callSpare s g c).mram.keyCnt = s.mram.keyCnt ∧
    (State.callSpare s g c).mram.boot = s.mram.boot ∧ (State.callSpare s g c).sys = s.sys ∧
    (State.callSpare s g c).aux = s.aux ∧ (State.callSpare s g c).flt = s.flt ∧ (State.callSpare s g c).tim = s.tim ∧
    (State.callSpare s g c).net = s.net ∧ (State.callSpare s g c).prt = s.prt ∧ (State.callSpare s g c).trp = s.trp ∧
    (State.callSpare s g c).pod = s.pod ∧ (State.callSpare s g c).lgc = s.lgc ∧ (State.callSpare s g c).gsv = s.gsv ∧
    (State.callSpare s g c).tph = s.tph ∧ (State.callSpare s g c).oz = s.oz ∧ (State.callSpare s g c).sec = s.sec ∧
    (State.callSpare s g c).cmd = s.cmd := by
  have hfite := @State.ite_frame
  have hf1 := @State.singleL_frame
  have hf2 := @State.openWindow_frame
  have hf3 := @State.setFlag_frame
  simp [↓hfite, ↓hf1, ↓hf2, ↓hf3, State.callSpare]

theorem arbitrationOpenEff_frame (g : ℕ) (s : State) :
    (arbitrationOpenEff g s).now = s.now ∧ (arbitrationOpenEff g s).pending = s.pending ∧
    (arbitrationOpenEff g s).regs0 = s.regs0 ∧ (arbitrationOpenEff g s).freeCtr = s.freeCtr ∧
    (arbitrationOpenEff g s).mode = s.mode ∧ (arbitrationOpenEff g s).mram.keyCnt = s.mram.keyCnt ∧
    (arbitrationOpenEff g s).mram.boot = s.mram.boot ∧ (arbitrationOpenEff g s).sys = s.sys ∧
    (arbitrationOpenEff g s).aux = s.aux ∧ (arbitrationOpenEff g s).flt = s.flt ∧
    (arbitrationOpenEff g s).tim = s.tim ∧ (arbitrationOpenEff g s).net = s.net ∧
    (arbitrationOpenEff g s).prt = s.prt ∧ (arbitrationOpenEff g s).trp = s.trp ∧
    (arbitrationOpenEff g s).pod = s.pod ∧ (arbitrationOpenEff g s).lgc = s.lgc ∧
    (arbitrationOpenEff g s).gsv = s.gsv ∧ (arbitrationOpenEff g s).tph = s.tph ∧
    (arbitrationOpenEff g s).oz = s.oz ∧ (arbitrationOpenEff g s).sec = s.sec ∧ (arbitrationOpenEff g s).cmd = s.cmd := by
  have hfite := @State.ite_frame
  have hf1 := @State.callSpare_frame
  simp [↓hfite, ↓hf1, arbitrationOpenEff]

theorem State.resumeChan_frame (s : State) (c : ℕ) :
    (State.resumeChan s c).now = s.now ∧ (State.resumeChan s c).pending = s.pending ∧
    (State.resumeChan s c).regs0 = s.regs0 ∧ (State.resumeChan s c).freeCtr = s.freeCtr ∧
    (State.resumeChan s c).mode = s.mode ∧ (State.resumeChan s c).mram = s.mram ∧
    (State.resumeChan s c).sys = s.sys ∧ (State.resumeChan s c).evt = s.evt ∧ (State.resumeChan s c).aux = s.aux ∧
    (State.resumeChan s c).flt = s.flt ∧ (State.resumeChan s c).tim = s.tim ∧ (State.resumeChan s c).net = s.net ∧
    (State.resumeChan s c).prt = s.prt ∧ (State.resumeChan s c).trp = s.trp ∧ (State.resumeChan s c).pod = s.pod ∧
    (State.resumeChan s c).lgc = s.lgc ∧ (State.resumeChan s c).gsv = s.gsv ∧ (State.resumeChan s c).tph = s.tph ∧
    (State.resumeChan s c).oz = s.oz ∧ (State.resumeChan s c).sec = s.sec ∧ (State.resumeChan s c).cmd = s.cmd := by
  have hf1 := @State.setF_frame
  have hf2 := @State.setChan_frame
  have hf3 := @State.setRange_frame
  simp [↓hf1, ↓hf2, ↓hf3, State.resumeChan]

theorem State.rotResume_frame (s : State) (g : ℕ) :
    (State.rotResume s g).now = s.now ∧ (State.rotResume s g).pending = s.pending ∧
    (State.rotResume s g).regs0 = s.regs0 ∧ (State.rotResume s g).freeCtr = s.freeCtr ∧
    (State.rotResume s g).mode = s.mode ∧ (State.rotResume s g).mram = s.mram ∧ (State.rotResume s g).sys = s.sys ∧
    (State.rotResume s g).evt = s.evt ∧ (State.rotResume s g).aux = s.aux ∧ (State.rotResume s g).flt = s.flt ∧
    (State.rotResume s g).tim = s.tim ∧ (State.rotResume s g).net = s.net ∧ (State.rotResume s g).prt = s.prt ∧
    (State.rotResume s g).trp = s.trp ∧ (State.rotResume s g).pod = s.pod ∧ (State.rotResume s g).lgc = s.lgc ∧
    (State.rotResume s g).gsv = s.gsv ∧ (State.rotResume s g).tph = s.tph ∧ (State.rotResume s g).oz = s.oz ∧
    (State.rotResume s g).sec = s.sec ∧ (State.rotResume s g).cmd = s.cmd := by
  have hf1 := @State.setGrp_frame
  have hf2 := @State.setF_frame
  unfold State.rotResume
  (repeat' split) <;> simp [↓hf1, ↓hf2]

theorem State.nextWaiting_frame (s : State) (g : ℕ) (n0 : ℕ) :
    (State.nextWaiting s g n0).now = s.now ∧ (State.nextWaiting s g n0).pending = s.pending ∧
    (State.nextWaiting s g n0).regs0 = s.regs0 ∧ (State.nextWaiting s g n0).freeCtr = s.freeCtr ∧
    (State.nextWaiting s g n0).mode = s.mode ∧ (State.nextWaiting s g n0).mram.keyCnt = s.mram.keyCnt ∧
    (State.nextWaiting s g n0).mram.boot = s.mram.boot ∧ (State.nextWaiting s g n0).sys = s.sys ∧
    (State.nextWaiting s g n0).aux = s.aux ∧ (State.nextWaiting s g n0).flt = s.flt ∧
    (State.nextWaiting s g n0).tim = s.tim ∧ (State.nextWaiting s g n0).net = s.net ∧
    (State.nextWaiting s g n0).prt = s.prt ∧ (State.nextWaiting s g n0).trp = s.trp ∧
    (State.nextWaiting s g n0).pod = s.pod ∧ (State.nextWaiting s g n0).lgc = s.lgc ∧
    (State.nextWaiting s g n0).gsv = s.gsv ∧ (State.nextWaiting s g n0).tph = s.tph ∧
    (State.nextWaiting s g n0).oz = s.oz ∧ (State.nextWaiting s g n0).sec = s.sec ∧
    (State.nextWaiting s g n0).cmd = s.cmd := by
  have hf1 := @State.rotResume_frame
  have hf2 := @State.singleL_frame
  have hf3 := @State.openWindow_frame
  simp [↓hf1, ↓hf2, ↓hf3, State.nextWaiting]
  (repeat' split) <;> simp [↓hf1, ↓hf2, ↓hf3]

theorem State.arbDecide_frame (s : State) (g : ℕ) (w : ArbWin) :
    (State.arbDecide s g w).now = s.now ∧ (State.arbDecide s g w).pending = s.pending ∧
    (State.arbDecide s g w).regs0 = s.regs0 ∧ (State.arbDecide s g w).freeCtr = s.freeCtr ∧
    (State.arbDecide s g w).mode = s.mode ∧ (State.arbDecide s g w).mram.keyCnt = s.mram.keyCnt ∧
    (State.arbDecide s g w).mram.boot = s.mram.boot ∧ (State.arbDecide s g w).sys = s.sys ∧
    (State.arbDecide s g w).aux = s.aux ∧ (State.arbDecide s g w).flt = s.flt ∧ (State.arbDecide s g w).tim = s.tim ∧
    (State.arbDecide s g w).net = s.net ∧ (State.arbDecide s g w).prt = s.prt ∧ (State.arbDecide s g w).trp = s.trp ∧
    (State.arbDecide s g w).pod = s.pod ∧ (State.arbDecide s g w).lgc = s.lgc ∧ (State.arbDecide s g w).gsv = s.gsv ∧
    (State.arbDecide s g w).tph = s.tph ∧ (State.arbDecide s g w).oz = s.oz ∧ (State.arbDecide s g w).sec = s.sec ∧
    (State.arbDecide s g w).cmd = s.cmd := by
  have hfite := @State.ite_frame
  have hf1 := @State.retireToSpare_frame
  have hf2 := @State.setChan_frame
  have hf3 := @State.raise_frame
  have hf4 := @State.incSat_frame
  simp [↓hfite, ↓hf1, ↓hf2, ↓hf3, ↓hf4, State.arbDecide]

theorem arbitrationDecisionEff_frame (g : ℕ) (s : State) :
    (arbitrationDecisionEff g s).now = s.now ∧ (arbitrationDecisionEff g s).pending = s.pending ∧
    (arbitrationDecisionEff g s).regs0 = s.regs0 ∧ (arbitrationDecisionEff g s).freeCtr = s.freeCtr ∧
    (arbitrationDecisionEff g s).mode = s.mode ∧ (arbitrationDecisionEff g s).mram.keyCnt = s.mram.keyCnt ∧
    (arbitrationDecisionEff g s).mram.boot = s.mram.boot ∧ (arbitrationDecisionEff g s).sys = s.sys ∧
    (arbitrationDecisionEff g s).aux = s.aux ∧ (arbitrationDecisionEff g s).flt = s.flt ∧
    (arbitrationDecisionEff g s).tim = s.tim ∧ (arbitrationDecisionEff g s).net = s.net ∧
    (arbitrationDecisionEff g s).prt = s.prt ∧ (arbitrationDecisionEff g s).trp = s.trp ∧
    (arbitrationDecisionEff g s).pod = s.pod ∧ (arbitrationDecisionEff g s).lgc = s.lgc ∧
    (arbitrationDecisionEff g s).gsv = s.gsv ∧ (arbitrationDecisionEff g s).tph = s.tph ∧
    (arbitrationDecisionEff g s).oz = s.oz ∧ (arbitrationDecisionEff g s).sec = s.sec ∧
    (arbitrationDecisionEff g s).cmd = s.cmd := by
  have hf1 := @State.nextWaiting_frame
  have hf2 := @State.resumeChan_frame
  have hf3 := @State.arbDecide_frame
  have hf4 := @State.setFlag_frame
  have hf5 := @State.setGrp_frame
  unfold arbitrationDecisionEff
  (repeat' split) <;> simp [↓hf1, ↓hf2, ↓hf3, ↓hf4, ↓hf5]

theorem rotationStepStartEff_frame (g : ℕ) (s : State) :
    (rotationStepStartEff g s).now = s.now ∧ (rotationStepStartEff g s).pending = s.pending ∧
    (rotationStepStartEff g s).regs0 = s.regs0 ∧ (rotationStepStartEff g s).freeCtr = s.freeCtr ∧
    (rotationStepStartEff g s).mode = s.mode ∧ (rotationStepStartEff g s).mram = s.mram ∧
    (rotationStepStartEff g s).sys = s.sys ∧ (rotationStepStartEff g s).evt = s.evt ∧
    (rotationStepStartEff g s).aux = s.aux ∧ (rotationStepStartEff g s).flt = s.flt ∧
    (rotationStepStartEff g s).tim = s.tim ∧ (rotationStepStartEff g s).net = s.net ∧
    (rotationStepStartEff g s).prt = s.prt ∧ (rotationStepStartEff g s).trp = s.trp ∧
    (rotationStepStartEff g s).pod = s.pod ∧ (rotationStepStartEff g s).lgc = s.lgc ∧
    (rotationStepStartEff g s).gsv = s.gsv ∧ (rotationStepStartEff g s).tph = s.tph ∧
    (rotationStepStartEff g s).oz = s.oz ∧ (rotationStepStartEff g s).sec = s.sec ∧
    (rotationStepStartEff g s).cmd = s.cmd := by
  have hfite := @State.ite_frame
  have hf1 := @State.setF_frame
  have hf2 := @State.setFlag_frame
  have hf3 := @State.incWrap_frame
  have hf4 := @State.setGrp_frame
  simp [↓hfite, ↓hf1, ↓hf2, ↓hf3, ↓hf4, rotationStepStartEff]

theorem State.handOver_frame (s : State) (g : ℕ) (role : ℕ) (why : CalWhy) :
    (State.handOver s g role why).now = s.now ∧ (State.handOver s g role why).pending = s.pending ∧
    (State.handOver s g role why).regs0 = s.regs0 ∧ (State.handOver s g role why).freeCtr = s.freeCtr ∧
    (State.handOver s g role why).mode = s.mode ∧ (State.handOver s g role why).mram = s.mram ∧
    (State.handOver s g role why).sys = s.sys ∧ (State.handOver s g role why).evt = s.evt ∧
    (State.handOver s g role why).aux = s.aux ∧ (State.handOver s g role why).flt = s.flt ∧
    (State.handOver s g role why).tim = s.tim ∧ (State.handOver s g role why).net = s.net ∧
    (State.handOver s g role why).prt = s.prt ∧ (State.handOver s g role why).trp = s.trp ∧
    (State.handOver s g role why).pod = s.pod ∧ (State.handOver s g role why).lgc = s.lgc ∧
    (State.handOver s g role why).gsv = s.gsv ∧ (State.handOver s g role why).tph = s.tph ∧
    (State.handOver s g role why).oz = s.oz ∧ (State.handOver s g role why).sec = s.sec ∧
    (State.handOver s g role why).cmd = s.cmd := by
  have hf1 := @State.setGrp_frame
  have hf2 := @State.setF_frame
  unfold State.handOver
  (repeat' split) <;> simp [↓hf1, ↓hf2]

theorem shadowEndEff_frame (g : ℕ) (s : State) :
    (shadowEndEff g s).now = s.now ∧ (shadowEndEff g s).pending = s.pending ∧ (shadowEndEff g s).regs0 = s.regs0 ∧
    (shadowEndEff g s).freeCtr = s.freeCtr ∧ (shadowEndEff g s).mode = s.mode ∧
    (shadowEndEff g s).mram.keyCnt = s.mram.keyCnt ∧ (shadowEndEff g s).mram.boot = s.mram.boot ∧
    (shadowEndEff g s).sys = s.sys ∧ (shadowEndEff g s).aux = s.aux ∧ (shadowEndEff g s).flt = s.flt ∧
    (shadowEndEff g s).tim = s.tim ∧ (shadowEndEff g s).net = s.net ∧ (shadowEndEff g s).prt = s.prt ∧
    (shadowEndEff g s).trp = s.trp ∧ (shadowEndEff g s).pod = s.pod ∧ (shadowEndEff g s).lgc = s.lgc ∧
    (shadowEndEff g s).gsv = s.gsv ∧ (shadowEndEff g s).tph = s.tph ∧ (shadowEndEff g s).oz = s.oz ∧
    (shadowEndEff g s).sec = s.sec ∧ (shadowEndEff g s).cmd = s.cmd := by
  have hfite := @State.ite_frame
  have hf1 := @State.raise_frame
  have hf2 := @State.incSat_frame
  have hf3 := @State.setGrp_frame
  have hf4 := @State.setF_frame
  have hf5 := @State.handOver_frame
  have hf6 := @State.openWindow_frame
  simp [↓hfite, ↓hf1, ↓hf2, ↓hf3, ↓hf4, ↓hf5, ↓hf6, shadowEndEff]
  (repeat' split) <;> simp [↓hfite, ↓hf1, ↓hf2, ↓hf3, ↓hf4, ↓hf5, ↓hf6]

theorem State.setCal_frame (s : State) (g : ℕ) (k : ℕ) (c : SliceCal) :
    (State.setCal s g k c).now = s.now ∧ (State.setCal s g k c).pending = s.pending ∧
    (State.setCal s g k c).regs0 = s.regs0 ∧ (State.setCal s g k c).freeCtr = s.freeCtr ∧
    (State.setCal s g k c).mode = s.mode ∧ (State.setCal s g k c).mram = s.mram ∧
    (State.setCal s g k c).sys = s.sys ∧ (State.setCal s g k c).evt = s.evt ∧ (State.setCal s g k c).aux = s.aux ∧
    (State.setCal s g k c).flt = s.flt ∧ (State.setCal s g k c).tim = s.tim ∧ (State.setCal s g k c).net = s.net ∧
    (State.setCal s g k c).prt = s.prt ∧ (State.setCal s g k c).trp = s.trp ∧ (State.setCal s g k c).pod = s.pod ∧
    (State.setCal s g k c).lgc = s.lgc ∧ (State.setCal s g k c).gsv = s.gsv ∧ (State.setCal s g k c).tph = s.tph ∧
    (State.setCal s g k c).oz = s.oz ∧ (State.setCal s g k c).sec = s.sec ∧ (State.setCal s g k c).cmd = s.cmd := by
  have hf1 := @State.setF_frame
  have hf2 := @State.setI_frame
  simp [↓hf1, ↓hf2, State.setCal]

theorem sliceCalibrationDoneEff_frame (g : ℕ) (c : SliceCal) (s : State) :
    (sliceCalibrationDoneEff g c s).now = s.now ∧ (sliceCalibrationDoneEff g c s).pending = s.pending ∧
    (sliceCalibrationDoneEff g c s).regs0 = s.regs0 ∧ (sliceCalibrationDoneEff g c s).freeCtr = s.freeCtr ∧
    (sliceCalibrationDoneEff g c s).mode = s.mode ∧ (sliceCalibrationDoneEff g c s).mram.keyCnt = s.mram.keyCnt ∧
    (sliceCalibrationDoneEff g c s).mram.boot = s.mram.boot ∧ (sliceCalibrationDoneEff g c s).sys = s.sys ∧
    (sliceCalibrationDoneEff g c s).aux = s.aux ∧ (sliceCalibrationDoneEff g c s).flt = s.flt ∧
    (sliceCalibrationDoneEff g c s).tim = s.tim ∧ (sliceCalibrationDoneEff g c s).net = s.net ∧
    (sliceCalibrationDoneEff g c s).prt = s.prt ∧ (sliceCalibrationDoneEff g c s).trp = s.trp ∧
    (sliceCalibrationDoneEff g c s).pod = s.pod ∧ (sliceCalibrationDoneEff g c s).lgc = s.lgc ∧
    (sliceCalibrationDoneEff g c s).gsv = s.gsv ∧ (sliceCalibrationDoneEff g c s).tph = s.tph ∧
    (sliceCalibrationDoneEff g c s).oz = s.oz ∧ (sliceCalibrationDoneEff g c s).sec = s.sec ∧
    (sliceCalibrationDoneEff g c s).cmd = s.cmd := by
  have hf1 := @State.setCal_frame
  have hf2 := @State.degrade_frame
  have hf3 := @State.retire_frame
  have hf4 := @State.setGrp_frame
  have hf5 := @State.setF_frame
  simp [↓hf1, ↓hf2, ↓hf3, ↓hf4, ↓hf5, sliceCalibrationDoneEff]
  (repeat' split) <;> simp [↓hf1, ↓hf2, ↓hf3, ↓hf4, ↓hf5]

theorem State.vacate_frame (s : State) (g : ℕ) (role : ℕ) :
    (State.vacate s g role).now = s.now ∧ (State.vacate s g role).pending = s.pending ∧
    (State.vacate s g role).regs0 = s.regs0 ∧ (State.vacate s g role).freeCtr = s.freeCtr ∧
    (State.vacate s g role).mode = s.mode ∧ (State.vacate s g role).mram = s.mram ∧
    (State.vacate s g role).sys = s.sys ∧ (State.vacate s g role).evt = s.evt ∧ (State.vacate s g role).ana = s.ana ∧
    (State.vacate s g role).aux = s.aux ∧ (State.vacate s g role).flt = s.flt ∧ (State.vacate s g role).tim = s.tim ∧
    (State.vacate s g role).net = s.net ∧ (State.vacate s g role).prt = s.prt ∧ (State.vacate s g role).trp = s.trp ∧
    (State.vacate s g role).pod = s.pod ∧ (State.vacate s g role).lgc = s.lgc ∧ (State.vacate s g role).gsv = s.gsv ∧
    (State.vacate s g role).tph = s.tph ∧ (State.vacate s g role).oz = s.oz ∧ (State.vacate s g role).sec = s.sec ∧
    (State.vacate s g role).cmd = s.cmd := by
  have hfite := @State.ite_frame
  have hf1 := @State.setFlag_frame
  simp [↓hfite, ↓hf1, State.vacate]

theorem State.takeCals_frame (s : State) (g : ℕ) (cals : List SliceCal) :
    (State.takeCals s g cals).now = s.now ∧ (State.takeCals s g cals).pending = s.pending ∧
    (State.takeCals s g cals).regs0 = s.regs0 ∧ (State.takeCals s g cals).freeCtr = s.freeCtr ∧
    (State.takeCals s g cals).mode = s.mode ∧ (State.takeCals s g cals).mram = s.mram ∧
    (State.takeCals s g cals).sys = s.sys ∧ (State.takeCals s g cals).evt = s.evt ∧
    (State.takeCals s g cals).aux = s.aux ∧ (State.takeCals s g cals).flt = s.flt ∧
    (State.takeCals s g cals).tim = s.tim ∧ (State.takeCals s g cals).net = s.net ∧
    (State.takeCals s g cals).prt = s.prt ∧ (State.takeCals s g cals).trp = s.trp ∧
    (State.takeCals s g cals).pod = s.pod ∧ (State.takeCals s g cals).lgc = s.lgc ∧
    (State.takeCals s g cals).gsv = s.gsv ∧ (State.takeCals s g cals).tph = s.tph ∧
    (State.takeCals s g cals).oz = s.oz ∧ (State.takeCals s g cals).sec = s.sec ∧
    (State.takeCals s g cals).cmd = s.cmd := by
  have hfite := @State.ite_frame
  have hf1 := @State.setCal_frame
  unfold State.takeCals
  (repeat' split) <;> first | (simp [↓hfite, ↓hf1]; done) | exact ⟨foldl_now _ _ _ (fun s x => by (try dsimp only); (repeat' split) <;> simp [↓hfite, ↓hf1]), foldl_pending _ _ _ (fun s x => by (try dsimp only); (repeat' split) <;> simp [↓hfite, ↓hf1]), foldl_regs0 _ _ _ (fun s x => by (try dsimp only); (repeat' split) <;> simp [↓hfite, ↓hf1]), foldl_freeCtr _ _ _ (fun s x => by (try dsimp only); (repeat' split) <;> simp [↓hfite, ↓hf1]), foldl_mode _ _ _ (fun s x => by (try dsimp only); (repeat' split) <;> simp [↓hfite, ↓hf1]), foldl_mram _ _ _ (fun s x => by (try dsimp only); (repeat' split) <;> simp [↓hfite, ↓hf1]), foldl_sys _ _ _ (fun s x => by (try dsimp only); (repeat' split) <;> simp [↓hfite, ↓hf1]), foldl_evt _ _ _ (fun s x => by (try dsimp only); (repeat' split) <;> simp [↓hfite, ↓hf1]), foldl_aux _ _ _ (fun s x => by (try dsimp only); (repeat' split) <;> simp [↓hfite, ↓hf1]), foldl_flt _ _ _ (fun s x => by (try dsimp only); (repeat' split) <;> simp [↓hfite, ↓hf1]), foldl_tim _ _ _ (fun s x => by (try dsimp only); (repeat' split) <;> simp [↓hfite, ↓hf1]), foldl_net _ _ _ (fun s x => by (try dsimp only); (repeat' split) <;> simp [↓hfite, ↓hf1]), foldl_prt _ _ _ (fun s x => by (try dsimp only); (repeat' split) <;> simp [↓hfite, ↓hf1]), foldl_trp _ _ _ (fun s x => by (try dsimp only); (repeat' split) <;> simp [↓hfite, ↓hf1]), foldl_pod _ _ _ (fun s x => by (try dsimp only); (repeat' split) <;> simp [↓hfite, ↓hf1]), foldl_lgc _ _ _ (fun s x => by (try dsimp only); (repeat' split) <;> simp [↓hfite, ↓hf1]), foldl_gsv _ _ _ (fun s x => by (try dsimp only); (repeat' split) <;> simp [↓hfite, ↓hf1]), foldl_tph _ _ _ (fun s x => by (try dsimp only); (repeat' split) <;> simp [↓hfite, ↓hf1]), foldl_oz _ _ _ (fun s x => by (try dsimp only); (repeat' split) <;> simp [↓hfite, ↓hf1]), foldl_sec _ _ _ (fun s x => by (try dsimp only); (repeat' split) <;> simp [↓hfite, ↓hf1]), foldl_cmd _ _ _ (fun s x => by (try dsimp only); (repeat' split) <;> simp [↓hfite, ↓hf1])⟩

theorem State.vacateAll_frame (s : State) (g : ℕ) (rs : List ℕ) :
    (State.vacateAll s g rs).now = s.now ∧ (State.vacateAll s g rs).pending = s.pending ∧
    (State.vacateAll s g rs).regs0 = s.regs0 ∧ (State.vacateAll s g rs).freeCtr = s.freeCtr ∧
    (State.vacateAll s g rs).mode = s.mode ∧ (State.vacateAll s g rs).mram = s.mram ∧
    (State.vacateAll s g rs).sys = s.sys ∧ (State.vacateAll s g rs).evt = s.evt ∧
    (State.vacateAll s g rs).ana = s.ana ∧ (State.vacateAll s g rs).aux = s.aux ∧
    (State.vacateAll s g rs).flt = s.flt ∧ (State.vacateAll s g rs).tim = s.tim ∧
    (State.vacateAll s g rs).net = s.net ∧ (State.vacateAll s g rs).prt = s.prt ∧
    (State.vacateAll s g rs).trp = s.trp ∧ (State.vacateAll s g rs).pod = s.pod ∧
    (State.vacateAll s g rs).lgc = s.lgc ∧ (State.vacateAll s g rs).gsv = s.gsv ∧
    (State.vacateAll s g rs).tph = s.tph ∧ (State.vacateAll s g rs).oz = s.oz ∧
    (State.vacateAll s g rs).sec = s.sec ∧ (State.vacateAll s g rs).cmd = s.cmd := by
  have hfite := @State.ite_frame
  have hf1 := @State.vacate_frame
  simp [↓hfite, ↓hf1, State.vacateAll]

theorem State.startCal_frame (s : State) (g : ℕ) (cals : List SliceCal) :
    (State.startCal s g cals).now = s.now ∧ (State.startCal s g cals).pending = s.pending ∧
    (State.startCal s g cals).regs0 = s.regs0 ∧ (State.startCal s g cals).freeCtr = s.freeCtr ∧
    (State.startCal s g cals).mode = s.mode ∧ (State.startCal s g cals).mram.keyCnt = s.mram.keyCnt ∧
    (State.startCal s g cals).mram.boot = s.mram.boot ∧ (State.startCal s g cals).sys = s.sys ∧
    (State.startCal s g cals).aux = s.aux ∧ (State.startCal s g cals).flt = s.flt ∧
    (State.startCal s g cals).tim = s.tim ∧ (State.startCal s g cals).net = s.net ∧
    (State.startCal s g cals).prt = s.prt ∧ (State.startCal s g cals).trp = s.trp ∧
    (State.startCal s g cals).pod = s.pod ∧ (State.startCal s g cals).lgc = s.lgc ∧
    (State.startCal s g cals).gsv = s.gsv ∧ (State.startCal s g cals).tph = s.tph ∧
    (State.startCal s g cals).oz = s.oz ∧ (State.startCal s g cals).sec = s.sec ∧
    (State.startCal s g cals).cmd = s.cmd := by
  have hfite := @State.ite_frame
  have hf1 := @State.setFlag_frame
  have hf2 := @State.retire_frame
  have hf3 := @State.setF_frame
  have hf4 := @State.takeCals_frame
  have hf5 := @State.vacateAll_frame
  have hf6 := @State.degrade_frame
  simp [↓hfite, ↓hf1, ↓hf2, ↓hf3, ↓hf4, ↓hf5, ↓hf6, State.startCal]
  (repeat' split) <;> simp [↓hfite, ↓hf1, ↓hf2, ↓hf3, ↓hf4, ↓hf5, ↓hf6]

theorem State.refReq_frame (g : ℕ) (v : ℕ) (s : State) :
    (State.refReq g v s).2.now = s.now ∧ (State.refReq g v s).2.pending = s.pending ∧
    (State.refReq g v s).2.regs0 = s.regs0 ∧ (State.refReq g v s).2.freeCtr = s.freeCtr ∧
    (State.refReq g v s).2.mode = s.mode ∧ (State.refReq g v s).2.mram = s.mram ∧
    (State.refReq g v s).2.sys = s.sys ∧ (State.refReq g v s).2.evt = s.evt ∧ (State.refReq g v s).2.aux = s.aux ∧
    (State.refReq g v s).2.flt = s.flt ∧ (State.refReq g v s).2.tim = s.tim ∧ (State.refReq g v s).2.net = s.net ∧
    (State.refReq g v s).2.prt = s.prt ∧ (State.refReq g v s).2.trp = s.trp ∧ (State.refReq g v s).2.pod = s.pod ∧
    (State.refReq g v s).2.lgc = s.lgc ∧ (State.refReq g v s).2.gsv = s.gsv ∧ (State.refReq g v s).2.tph = s.tph ∧
    (State.refReq g v s).2.oz = s.oz ∧ (State.refReq g v s).2.sec = s.sec ∧ (State.refReq g v s).2.cmd = s.cmd := by
  have hf1 := @State.setGrp_frame
  have hf2 := @State.setF_frame
  simp [↓hf1, ↓hf2, State.refReq]
  (repeat' split) <;> simp [↓hf1, ↓hf2]

theorem cnvRefreqWriteEff_frame (r : Requester) (g : ℕ) (v : ℕ) (s : State) :
    (cnvRefreqWriteEff r g v s).now = s.now ∧ (cnvRefreqWriteEff r g v s).pending = s.pending ∧
    (cnvRefreqWriteEff r g v s).regs0 = s.regs0 ∧ (cnvRefreqWriteEff r g v s).freeCtr = s.freeCtr ∧
    (cnvRefreqWriteEff r g v s).mode = s.mode ∧ (cnvRefreqWriteEff r g v s).mram.keyCnt = s.mram.keyCnt ∧
    (cnvRefreqWriteEff r g v s).mram.boot = s.mram.boot ∧ (cnvRefreqWriteEff r g v s).sys = s.sys ∧
    (cnvRefreqWriteEff r g v s).aux = s.aux ∧ (cnvRefreqWriteEff r g v s).flt = s.flt ∧
    (cnvRefreqWriteEff r g v s).tim = s.tim ∧ (cnvRefreqWriteEff r g v s).net = s.net ∧
    (cnvRefreqWriteEff r g v s).prt = s.prt ∧ (cnvRefreqWriteEff r g v s).trp = s.trp ∧
    (cnvRefreqWriteEff r g v s).pod = s.pod ∧ (cnvRefreqWriteEff r g v s).lgc = s.lgc ∧
    (cnvRefreqWriteEff r g v s).gsv = s.gsv ∧ (cnvRefreqWriteEff r g v s).tph = s.tph ∧
    (cnvRefreqWriteEff r g v s).oz = s.oz ∧ (cnvRefreqWriteEff r g v s).sec = s.sec ∧
    (cnvRefreqWriteEff r g v s).cmd = s.cmd := by
  have hfite := @State.ite_frame
  have hf1 := @State.refReq_frame
  simp [↓hfite, ↓hf1, cnvRefreqWriteEff]

theorem refSettledRiseEff_frame (g : ℕ) (s : State) :
    (refSettledRiseEff g s).now = s.now ∧ (refSettledRiseEff g s).pending = s.pending ∧
    (refSettledRiseEff g s).regs0 = s.regs0 ∧ (refSettledRiseEff g s).freeCtr = s.freeCtr ∧
    (refSettledRiseEff g s).mode = s.mode ∧ (refSettledRiseEff g s).mram = s.mram ∧
    (refSettledRiseEff g s).sys = s.sys ∧ (refSettledRiseEff g s).evt = s.evt ∧ (refSettledRiseEff g s).aux = s.aux ∧
    (refSettledRiseEff g s).flt = s.flt ∧ (refSettledRiseEff g s).tim = s.tim ∧ (refSettledRiseEff g s).net = s.net ∧
    (refSettledRiseEff g s).prt = s.prt ∧ (refSettledRiseEff g s).trp = s.trp ∧ (refSettledRiseEff g s).pod = s.pod ∧
    (refSettledRiseEff g s).lgc = s.lgc ∧ (refSettledRiseEff g s).gsv = s.gsv ∧ (refSettledRiseEff g s).tph = s.tph ∧
    (refSettledRiseEff g s).oz = s.oz ∧ (refSettledRiseEff g s).sec = s.sec ∧ (refSettledRiseEff g s).cmd = s.cmd := by
  have hf1 := @State.setFlag_frame
  have hf2 := @State.setGrp_frame
  simp [↓hf1, ↓hf2, refSettledRiseEff]
  (repeat' split) <;> simp [↓hf1, ↓hf2]

theorem refWindowFaultEff_frame (g : ℕ) (s : State) :
    (refWindowFaultEff g s).now = s.now ∧ (refWindowFaultEff g s).pending = s.pending ∧
    (refWindowFaultEff g s).regs0 = s.regs0 ∧ (refWindowFaultEff g s).freeCtr = s.freeCtr ∧
    (refWindowFaultEff g s).mode = s.mode ∧ (refWindowFaultEff g s).mram.keyCnt = s.mram.keyCnt ∧
    (refWindowFaultEff g s).mram.boot = s.mram.boot ∧ (refWindowFaultEff g s).sys = s.sys ∧
    (refWindowFaultEff g s).aux = s.aux ∧ (refWindowFaultEff g s).flt = s.flt ∧ (refWindowFaultEff g s).tim = s.tim ∧
    (refWindowFaultEff g s).net = s.net ∧ (refWindowFaultEff g s).prt = s.prt ∧ (refWindowFaultEff g s).trp = s.trp ∧
    (refWindowFaultEff g s).pod = s.pod ∧ (refWindowFaultEff g s).lgc = s.lgc ∧ (refWindowFaultEff g s).gsv = s.gsv ∧
    (refWindowFaultEff g s).tph = s.tph ∧ (refWindowFaultEff g s).oz = s.oz ∧ (refWindowFaultEff g s).sec = s.sec ∧
    (refWindowFaultEff g s).cmd = s.cmd := by
  have hfite := @State.ite_frame
  have hf1 := @State.raise_frame
  have hf2 := @State.setFlag_frame
  have hf3 := @State.setGrp_frame
  simp [↓hfite, ↓hf1, ↓hf2, ↓hf3, refWindowFaultEff]

theorem refSettlingFaultEff_frame (g : ℕ) (s : State) :
    (refSettlingFaultEff g s).now = s.now ∧ (refSettlingFaultEff g s).pending = s.pending ∧
    (refSettlingFaultEff g s).regs0 = s.regs0 ∧ (refSettlingFaultEff g s).freeCtr = s.freeCtr ∧
    (refSettlingFaultEff g s).mode = s.mode ∧ (refSettlingFaultEff g s).mram.keyCnt = s.mram.keyCnt ∧
    (refSettlingFaultEff g s).mram.boot = s.mram.boot ∧ (refSettlingFaultEff g s).sys = s.sys ∧
    (refSettlingFaultEff g s).aux = s.aux ∧ (refSettlingFaultEff g s).flt = s.flt ∧
    (refSettlingFaultEff g s).tim = s.tim ∧ (refSettlingFaultEff g s).net = s.net ∧
    (refSettlingFaultEff g s).prt = s.prt ∧ (refSettlingFaultEff g s).trp = s.trp ∧
    (refSettlingFaultEff g s).pod = s.pod ∧ (refSettlingFaultEff g s).lgc = s.lgc ∧
    (refSettlingFaultEff g s).gsv = s.gsv ∧ (refSettlingFaultEff g s).tph = s.tph ∧
    (refSettlingFaultEff g s).oz = s.oz ∧ (refSettlingFaultEff g s).sec = s.sec ∧
    (refSettlingFaultEff g s).cmd = s.cmd := by
  have hf1 := @State.raise_frame
  have hf2 := @State.setFlag_frame
  have hf3 := @State.setF_frame
  have hf4 := @State.setGrp_frame
  simp [↓hf1, ↓hf2, ↓hf3, ↓hf4, refSettlingFaultEff]
  (repeat' split) <;> simp [↓hf1, ↓hf2, ↓hf3, ↓hf4]

theorem State.auxDrop_frame (s : State) (n : ℕ) :
    (State.auxDrop s n).now = s.now ∧ (State.auxDrop s n).pending = s.pending ∧ (State.auxDrop s n).regs0 = s.regs0 ∧
    (State.auxDrop s n).freeCtr = s.freeCtr ∧ (State.auxDrop s n).mode = s.mode ∧
    (State.auxDrop s n).mram.keyCnt = s.mram.keyCnt ∧ (State.auxDrop s n).mram.boot = s.mram.boot ∧
    (State.auxDrop s n).sys = s.sys ∧ (State.auxDrop s n).ana = s.ana ∧ (State.auxDrop s n).flt = s.flt ∧
    (State.auxDrop s n).tim = s.tim ∧ (State.auxDrop s n).net = s.net ∧ (State.auxDrop s n).prt = s.prt ∧
    (State.auxDrop s n).trp = s.trp ∧ (State.auxDrop s n).pod = s.pod ∧ (State.auxDrop s n).lgc = s.lgc ∧
    (State.auxDrop s n).gsv = s.gsv ∧ (State.auxDrop s n).tph = s.tph ∧ (State.auxDrop s n).oz = s.oz ∧
    (State.auxDrop s n).sec = s.sec ∧ (State.auxDrop s n).cmd = s.cmd := by
  have hfite := @State.ite_frame
  have hf1 := @State.addSat_frame
  have hf2 := @State.raise_frame
  have hf3 := @State.setFlag_frame
  simp [↓hfite, ↓hf1, ↓hf2, ↓hf3, State.auxDrop]

theorem State.auxStore_frame (s : State) (e : AuxEntry) :
    (State.auxStore s e).now = s.now ∧ (State.auxStore s e).pending = s.pending ∧
    (State.auxStore s e).regs0 = s.regs0 ∧ (State.auxStore s e).freeCtr = s.freeCtr ∧
    (State.auxStore s e).mode = s.mode ∧ (State.auxStore s e).mram.keyCnt = s.mram.keyCnt ∧
    (State.auxStore s e).mram.boot = s.mram.boot ∧ (State.auxStore s e).sys = s.sys ∧
    (State.auxStore s e).ana = s.ana ∧ (State.auxStore s e).flt = s.flt ∧ (State.auxStore s e).tim = s.tim ∧
    (State.auxStore s e).net = s.net ∧ (State.auxStore s e).prt = s.prt ∧ (State.auxStore s e).trp = s.trp ∧
    (State.auxStore s e).pod = s.pod ∧ (State.auxStore s e).lgc = s.lgc ∧ (State.auxStore s e).gsv = s.gsv ∧
    (State.auxStore s e).tph = s.tph ∧ (State.auxStore s e).oz = s.oz ∧ (State.auxStore s e).sec = s.sec ∧
    (State.auxStore s e).cmd = s.cmd := by
  have hfite := @State.ite_frame
  have hf1 := @State.auxDrop_frame
  simp [↓hfite, ↓hf1, State.auxStore]

theorem State.auxPush_frame (s : State) (e : AuxEntry) :
    (State.auxPush s e).now = s.now ∧ (State.auxPush s e).pending = s.pending ∧ (State.auxPush s e).regs0 = s.regs0 ∧
    (State.auxPush s e).freeCtr = s.freeCtr ∧ (State.auxPush s e).mode = s.mode ∧
    (State.auxPush s e).mram.keyCnt = s.mram.keyCnt ∧ (State.auxPush s e).mram.boot = s.mram.boot ∧
    (State.auxPush s e).sys = s.sys ∧ (State.auxPush s e).ana = s.ana ∧ (State.auxPush s e).flt = s.flt ∧
    (State.auxPush s e).tim = s.tim ∧ (State.auxPush s e).net = s.net ∧ (State.auxPush s e).prt = s.prt ∧
    (State.auxPush s e).trp = s.trp ∧ (State.auxPush s e).pod = s.pod ∧ (State.auxPush s e).lgc = s.lgc ∧
    (State.auxPush s e).gsv = s.gsv ∧ (State.auxPush s e).tph = s.tph ∧ (State.auxPush s e).oz = s.oz ∧
    (State.auxPush s e).sec = s.sec ∧ (State.auxPush s e).cmd = s.cmd := by
  have hfite := @State.ite_frame
  have hf1 := @State.auxStore_frame
  simp [↓hfite, ↓hf1, State.auxPush]

theorem State.auxBlock_frame (s : State) (es : List AuxEntry) :
    (State.auxBlock s es).now = s.now ∧ (State.auxBlock s es).pending = s.pending ∧
    (State.auxBlock s es).regs0 = s.regs0 ∧ (State.auxBlock s es).freeCtr = s.freeCtr ∧
    (State.auxBlock s es).mode = s.mode ∧ (State.auxBlock s es).mram.keyCnt = s.mram.keyCnt ∧
    (State.auxBlock s es).mram.boot = s.mram.boot ∧ (State.auxBlock s es).sys = s.sys ∧
    (State.auxBlock s es).ana = s.ana ∧ (State.auxBlock s es).flt = s.flt ∧ (State.auxBlock s es).tim = s.tim ∧
    (State.auxBlock s es).net = s.net ∧ (State.auxBlock s es).prt = s.prt ∧ (State.auxBlock s es).trp = s.trp ∧
    (State.auxBlock s es).pod = s.pod ∧ (State.auxBlock s es).lgc = s.lgc ∧ (State.auxBlock s es).gsv = s.gsv ∧
    (State.auxBlock s es).tph = s.tph ∧ (State.auxBlock s es).oz = s.oz ∧ (State.auxBlock s es).sec = s.sec ∧
    (State.auxBlock s es).cmd = s.cmd := by
  have hfite := @State.ite_frame
  have hf1 := @State.auxDrop_frame
  have hf2 := @State.auxStore_frame
  simp [↓hfite, ↓hf1, ↓hf2, State.auxBlock]

theorem State.auxFollow_frame (l : List AuxItem) (s : State) :
    (State.auxFollow l s).now = s.now ∧ (State.auxFollow l s).pending = s.pending ∧
    (State.auxFollow l s).regs0 = s.regs0 ∧ (State.auxFollow l s).freeCtr = s.freeCtr ∧
    (State.auxFollow l s).mode = s.mode ∧ (State.auxFollow l s).mram.keyCnt = s.mram.keyCnt ∧
    (State.auxFollow l s).mram.boot = s.mram.boot ∧ (State.auxFollow l s).sys = s.sys ∧
    (State.auxFollow l s).ana = s.ana ∧ (State.auxFollow l s).flt = s.flt ∧ (State.auxFollow l s).tim = s.tim ∧
    (State.auxFollow l s).net = s.net ∧ (State.auxFollow l s).prt = s.prt ∧ (State.auxFollow l s).trp = s.trp ∧
    (State.auxFollow l s).pod = s.pod ∧ (State.auxFollow l s).lgc = s.lgc ∧ (State.auxFollow l s).gsv = s.gsv ∧
    (State.auxFollow l s).tph = s.tph ∧ (State.auxFollow l s).oz = s.oz ∧ (State.auxFollow l s).sec = s.sec ∧
    (State.auxFollow l s).cmd = s.cmd := by
  have hfite := @State.ite_frame
  have hf1 := @State.auxStore_frame
  fun_induction State.auxFollow l s <;> simp_all

theorem State.auxSeq_frame (s : State) :
    (State.auxSeq s).now = s.now ∧ (State.auxSeq s).pending = s.pending ∧ (State.auxSeq s).regs0 = s.regs0 ∧
    (State.auxSeq s).freeCtr = s.freeCtr ∧ (State.auxSeq s).mode = s.mode ∧
    (State.auxSeq s).mram.keyCnt = s.mram.keyCnt ∧ (State.auxSeq s).mram.boot = s.mram.boot ∧
    (State.auxSeq s).sys = s.sys ∧ (State.auxSeq s).ana = s.ana ∧ (State.auxSeq s).flt = s.flt ∧
    (State.auxSeq s).tim = s.tim ∧ (State.auxSeq s).net = s.net ∧ (State.auxSeq s).prt = s.prt ∧
    (State.auxSeq s).trp = s.trp ∧ (State.auxSeq s).pod = s.pod ∧ (State.auxSeq s).lgc = s.lgc ∧
    (State.auxSeq s).gsv = s.gsv ∧ (State.auxSeq s).tph = s.tph ∧ (State.auxSeq s).oz = s.oz ∧
    (State.auxSeq s).sec = s.sec ∧ (State.auxSeq s).cmd = s.cmd := by
  have hf1 := @State.incWrap_frame
  have hf2 := @State.auxPush_frame
  have hf3 := @State.setF_frame
  simp [↓hf1, ↓hf2, ↓hf3, State.auxSeq]

theorem State.auxRun_frame (s : State) :
    (State.auxRun s).now = s.now ∧ (State.auxRun s).pending = s.pending ∧ (State.auxRun s).regs0 = s.regs0 ∧
    (State.auxRun s).freeCtr = s.freeCtr ∧ (State.auxRun s).mode = s.mode ∧
    (State.auxRun s).mram.keyCnt = s.mram.keyCnt ∧ (State.auxRun s).mram.boot = s.mram.boot ∧
    (State.auxRun s).sys = s.sys ∧ (State.auxRun s).ana = s.ana ∧ (State.auxRun s).flt = s.flt ∧
    (State.auxRun s).tim = s.tim ∧ (State.auxRun s).net = s.net ∧ (State.auxRun s).prt = s.prt ∧
    (State.auxRun s).trp = s.trp ∧ (State.auxRun s).pod = s.pod ∧ (State.auxRun s).lgc = s.lgc ∧
    (State.auxRun s).gsv = s.gsv ∧ (State.auxRun s).tph = s.tph ∧ (State.auxRun s).oz = s.oz ∧
    (State.auxRun s).sec = s.sec ∧ (State.auxRun s).cmd = s.cmd := by
  have hf1 := @State.auxSeq_frame
  have hf2 := @State.setFlag_frame
  simp [↓hf1, ↓hf2, State.auxRun]

theorem State.auxStartW_frame (s : State) :
    (State.auxStartW s).2.now = s.now ∧ (State.auxStartW s).2.pending = s.pending ∧
    (State.auxStartW s).2.regs0 = s.regs0 ∧ (State.auxStartW s).2.freeCtr = s.freeCtr ∧
    (State.auxStartW s).2.mode = s.mode ∧ (State.auxStartW s).2.mram.keyCnt = s.mram.keyCnt ∧
    (State.auxStartW s).2.mram.boot = s.mram.boot ∧ (State.auxStartW s).2.sys = s.sys ∧
    (State.auxStartW s).2.ana = s.ana ∧ (State.auxStartW s).2.flt = s.flt ∧ (State.auxStartW s).2.tim = s.tim ∧
    (State.auxStartW s).2.net = s.net ∧ (State.auxStartW s).2.prt = s.prt ∧ (State.auxStartW s).2.trp = s.trp ∧
    (State.auxStartW s).2.pod = s.pod ∧ (State.auxStartW s).2.lgc = s.lgc ∧ (State.auxStartW s).2.gsv = s.gsv ∧
    (State.auxStartW s).2.tph = s.tph ∧ (State.auxStartW s).2.oz = s.oz ∧ (State.auxStartW s).2.sec = s.sec ∧
    (State.auxStartW s).2.cmd = s.cmd := by
  have hf1 := @State.auxRun_frame
  unfold State.auxStartW
  (repeat' split) <;> simp [↓hf1]

theorem State.auxStopW_frame (s : State) :
    (State.auxStopW s).2.now = s.now ∧ (State.auxStopW s).2.pending = s.pending ∧
    (State.auxStopW s).2.regs0 = s.regs0 ∧ (State.auxStopW s).2.freeCtr = s.freeCtr ∧
    (State.auxStopW s).2.mode = s.mode ∧ (State.auxStopW s).2.mram = s.mram ∧ (State.auxStopW s).2.sys = s.sys ∧
    (State.auxStopW s).2.evt = s.evt ∧ (State.auxStopW s).2.ana = s.ana ∧ (State.auxStopW s).2.flt = s.flt ∧
    (State.auxStopW s).2.tim = s.tim ∧ (State.auxStopW s).2.net = s.net ∧ (State.auxStopW s).2.prt = s.prt ∧
    (State.auxStopW s).2.trp = s.trp ∧ (State.auxStopW s).2.pod = s.pod ∧ (State.auxStopW s).2.lgc = s.lgc ∧
    (State.auxStopW s).2.gsv = s.gsv ∧ (State.auxStopW s).2.tph = s.tph ∧ (State.auxStopW s).2.oz = s.oz ∧
    (State.auxStopW s).2.sec = s.sec ∧ (State.auxStopW s).2.cmd = s.cmd := by
  have hf1 := @State.setFlag_frame
  unfold State.auxStopW
  (repeat' split) <;> simp [↓hf1]

theorem State.auxClrW_frame (s : State) :
    (State.auxClrW s).2.now = s.now ∧ (State.auxClrW s).2.pending = s.pending ∧ (State.auxClrW s).2.regs0 = s.regs0 ∧
    (State.auxClrW s).2.freeCtr = s.freeCtr ∧ (State.auxClrW s).2.mode = s.mode ∧ (State.auxClrW s).2.mram = s.mram ∧
    (State.auxClrW s).2.sys = s.sys ∧ (State.auxClrW s).2.evt = s.evt ∧ (State.auxClrW s).2.ana = s.ana ∧
    (State.auxClrW s).2.aux = s.aux ∧ (State.auxClrW s).2.flt = s.flt ∧ (State.auxClrW s).2.tim = s.tim ∧
    (State.auxClrW s).2.net = s.net ∧ (State.auxClrW s).2.prt = s.prt ∧ (State.auxClrW s).2.trp = s.trp ∧
    (State.auxClrW s).2.pod = s.pod ∧ (State.auxClrW s).2.lgc = s.lgc ∧ (State.auxClrW s).2.gsv = s.gsv ∧
    (State.auxClrW s).2.tph = s.tph ∧ (State.auxClrW s).2.oz = s.oz ∧ (State.auxClrW s).2.sec = s.sec ∧
    (State.auxClrW s).2.cmd = s.cmd := by
  have hf1 := @State.setF_frame
  simp [↓hf1, State.auxClrW]

theorem State.auxFlushW_frame (s : State) :
    (State.auxFlushW s).2.now = s.now ∧ (State.auxFlushW s).2.pending = s.pending ∧
    (State.auxFlushW s).2.regs0 = s.regs0 ∧ (State.auxFlushW s).2.freeCtr = s.freeCtr ∧
    (State.auxFlushW s).2.mode = s.mode ∧ (State.auxFlushW s).2.mram = s.mram ∧ (State.auxFlushW s).2.sys = s.sys ∧
    (State.auxFlushW s).2.evt = s.evt ∧ (State.auxFlushW s).2.ana = s.ana ∧ (State.auxFlushW s).2.flt = s.flt ∧
    (State.auxFlushW s).2.tim = s.tim ∧ (State.auxFlushW s).2.net = s.net ∧ (State.auxFlushW s).2.prt = s.prt ∧
    (State.auxFlushW s).2.trp = s.trp ∧ (State.auxFlushW s).2.pod = s.pod ∧ (State.auxFlushW s).2.lgc = s.lgc ∧
    (State.auxFlushW s).2.gsv = s.gsv ∧ (State.auxFlushW s).2.tph = s.tph ∧ (State.auxFlushW s).2.oz = s.oz ∧
    (State.auxFlushW s).2.sec = s.sec ∧ (State.auxFlushW s).2.cmd = s.cmd ∧ (State.auxFlushW s).2.regs = s.regs := by
  simp [State.auxFlushW]

theorem auxStartEff_frame (r : Requester) (s : State) :
    (auxStartEff r s).now = s.now ∧ (auxStartEff r s).pending = s.pending ∧ (auxStartEff r s).regs0 = s.regs0 ∧
    (auxStartEff r s).freeCtr = s.freeCtr ∧ (auxStartEff r s).mode = s.mode ∧
    (auxStartEff r s).mram.keyCnt = s.mram.keyCnt ∧ (auxStartEff r s).mram.boot = s.mram.boot ∧
    (auxStartEff r s).sys = s.sys ∧ (auxStartEff r s).ana = s.ana ∧ (auxStartEff r s).flt = s.flt ∧
    (auxStartEff r s).tim = s.tim ∧ (auxStartEff r s).net = s.net ∧ (auxStartEff r s).prt = s.prt ∧
    (auxStartEff r s).trp = s.trp ∧ (auxStartEff r s).pod = s.pod ∧ (auxStartEff r s).lgc = s.lgc ∧
    (auxStartEff r s).gsv = s.gsv ∧ (auxStartEff r s).tph = s.tph ∧ (auxStartEff r s).oz = s.oz ∧
    (auxStartEff r s).sec = s.sec ∧ (auxStartEff r s).cmd = s.cmd := by
  have hf1 := @State.auxStartW_frame
  simp [↓hf1, auxStartEff]

theorem auxStopEff_frame (r : Requester) (s : State) :
    (auxStopEff r s).now = s.now ∧ (auxStopEff r s).pending = s.pending ∧ (auxStopEff r s).regs0 = s.regs0 ∧
    (auxStopEff r s).freeCtr = s.freeCtr ∧ (auxStopEff r s).mode = s.mode ∧
    (auxStopEff r s).mram.keyCnt = s.mram.keyCnt ∧ (auxStopEff r s).mram.boot = s.mram.boot ∧
    (auxStopEff r s).sys = s.sys ∧ (auxStopEff r s).ana = s.ana ∧ (auxStopEff r s).flt = s.flt ∧
    (auxStopEff r s).tim = s.tim ∧ (auxStopEff r s).net = s.net ∧ (auxStopEff r s).prt = s.prt ∧
    (auxStopEff r s).trp = s.trp ∧ (auxStopEff r s).pod = s.pod ∧ (auxStopEff r s).lgc = s.lgc ∧
    (auxStopEff r s).gsv = s.gsv ∧ (auxStopEff r s).tph = s.tph ∧ (auxStopEff r s).oz = s.oz ∧
    (auxStopEff r s).sec = s.sec ∧ (auxStopEff r s).cmd = s.cmd := by
  have hf1 := @State.auxStopW_frame
  simp [↓hf1, auxStopEff]

theorem auxClrCntEff_frame (r : Requester) (s : State) :
    (auxClrCntEff r s).now = s.now ∧ (auxClrCntEff r s).pending = s.pending ∧ (auxClrCntEff r s).regs0 = s.regs0 ∧
    (auxClrCntEff r s).freeCtr = s.freeCtr ∧ (auxClrCntEff r s).mode = s.mode ∧
    (auxClrCntEff r s).mram.keyCnt = s.mram.keyCnt ∧ (auxClrCntEff r s).mram.boot = s.mram.boot ∧
    (auxClrCntEff r s).sys = s.sys ∧ (auxClrCntEff r s).ana = s.ana ∧ (auxClrCntEff r s).aux = s.aux ∧
    (auxClrCntEff r s).flt = s.flt ∧ (auxClrCntEff r s).tim = s.tim ∧ (auxClrCntEff r s).net = s.net ∧
    (auxClrCntEff r s).prt = s.prt ∧ (auxClrCntEff r s).trp = s.trp ∧ (auxClrCntEff r s).pod = s.pod ∧
    (auxClrCntEff r s).lgc = s.lgc ∧ (auxClrCntEff r s).gsv = s.gsv ∧ (auxClrCntEff r s).tph = s.tph ∧
    (auxClrCntEff r s).oz = s.oz ∧ (auxClrCntEff r s).sec = s.sec ∧ (auxClrCntEff r s).cmd = s.cmd := by
  have hf1 := @State.auxClrW_frame
  simp [↓hf1, auxClrCntEff]

theorem auxFlushEff_frame (r : Requester) (s : State) :
    (auxFlushEff r s).now = s.now ∧ (auxFlushEff r s).pending = s.pending ∧ (auxFlushEff r s).regs0 = s.regs0 ∧
    (auxFlushEff r s).freeCtr = s.freeCtr ∧ (auxFlushEff r s).mode = s.mode ∧
    (auxFlushEff r s).mram.keyCnt = s.mram.keyCnt ∧ (auxFlushEff r s).mram.boot = s.mram.boot ∧
    (auxFlushEff r s).sys = s.sys ∧ (auxFlushEff r s).ana = s.ana ∧ (auxFlushEff r s).flt = s.flt ∧
    (auxFlushEff r s).tim = s.tim ∧ (auxFlushEff r s).net = s.net ∧ (auxFlushEff r s).prt = s.prt ∧
    (auxFlushEff r s).trp = s.trp ∧ (auxFlushEff r s).pod = s.pod ∧ (auxFlushEff r s).lgc = s.lgc ∧
    (auxFlushEff r s).gsv = s.gsv ∧ (auxFlushEff r s).tph = s.tph ∧ (auxFlushEff r s).oz = s.oz ∧
    (auxFlushEff r s).sec = s.sec ∧ (auxFlushEff r s).cmd = s.cmd := by
  have hf1 := @State.auxFlushW_frame
  simp [↓hf1, auxFlushEff]

theorem State.auxNext_frame (s : State) :
    (State.auxNext s).now = s.now ∧ (State.auxNext s).pending = s.pending ∧ (State.auxNext s).regs0 = s.regs0 ∧
    (State.auxNext s).freeCtr = s.freeCtr ∧ (State.auxNext s).mode = s.mode ∧
    (State.auxNext s).mram.keyCnt = s.mram.keyCnt ∧ (State.auxNext s).mram.boot = s.mram.boot ∧
    (State.auxNext s).sys = s.sys ∧ (State.auxNext s).ana = s.ana ∧ (State.auxNext s).flt = s.flt ∧
    (State.auxNext s).tim = s.tim ∧ (State.auxNext s).net = s.net ∧ (State.auxNext s).prt = s.prt ∧
    (State.auxNext s).trp = s.trp ∧ (State.auxNext s).pod = s.pod ∧ (State.auxNext s).lgc = s.lgc ∧
    (State.auxNext s).gsv = s.gsv ∧ (State.auxNext s).tph = s.tph ∧ (State.auxNext s).oz = s.oz ∧
    (State.auxNext s).sec = s.sec ∧ (State.auxNext s).cmd = s.cmd := by
  have hfite := @State.ite_frame
  have hf1 := @State.setF_frame
  have hf2 := @State.setFlag_frame
  have hf3 := @State.auxSeq_frame
  unfold State.auxNext
  (repeat' split) <;> simp [↓hfite, ↓hf1, ↓hf2, ↓hf3]

theorem auxEntryDoneEff_frame (codes : List ℤ) (s : State) :
    (auxEntryDoneEff codes s).now = s.now ∧ (auxEntryDoneEff codes s).pending = s.pending ∧
    (auxEntryDoneEff codes s).regs0 = s.regs0 ∧ (auxEntryDoneEff codes s).freeCtr = s.freeCtr ∧
    (auxEntryDoneEff codes s).mode = s.mode ∧ (auxEntryDoneEff codes s).mram.keyCnt = s.mram.keyCnt ∧
    (auxEntryDoneEff codes s).mram.boot = s.mram.boot ∧ (auxEntryDoneEff codes s).sys = s.sys ∧
    (auxEntryDoneEff codes s).ana = s.ana ∧ (auxEntryDoneEff codes s).flt = s.flt ∧
    (auxEntryDoneEff codes s).tim = s.tim ∧ (auxEntryDoneEff codes s).net = s.net ∧
    (auxEntryDoneEff codes s).prt = s.prt ∧ (auxEntryDoneEff codes s).trp = s.trp ∧
    (auxEntryDoneEff codes s).pod = s.pod ∧ (auxEntryDoneEff codes s).lgc = s.lgc ∧
    (auxEntryDoneEff codes s).gsv = s.gsv ∧ (auxEntryDoneEff codes s).tph = s.tph ∧
    (auxEntryDoneEff codes s).oz = s.oz ∧ (auxEntryDoneEff codes s).sec = s.sec ∧
    (auxEntryDoneEff codes s).cmd = s.cmd := by
  have hfite := @State.ite_frame
  have hf1 := @State.auxNext_frame
  have hf2 := @State.auxPush_frame
  simp [↓hfite, ↓hf1, ↓hf2, auxEntryDoneEff]

theorem auxPeriodStartEff_frame (s : State) :
    (auxPeriodStartEff s).now = s.now ∧ (auxPeriodStartEff s).pending = s.pending ∧
    (auxPeriodStartEff s).regs0 = s.regs0 ∧ (auxPeriodStartEff s).freeCtr = s.freeCtr ∧
    (auxPeriodStartEff s).mode = s.mode ∧ (auxPeriodStartEff s).mram.keyCnt = s.mram.keyCnt ∧
    (auxPeriodStartEff s).mram.boot = s.mram.boot ∧ (auxPeriodStartEff s).sys = s.sys ∧
    (auxPeriodStartEff s).ana = s.ana ∧ (auxPeriodStartEff s).flt = s.flt ∧ (auxPeriodStartEff s).tim = s.tim ∧
    (auxPeriodStartEff s).net = s.net ∧ (auxPeriodStartEff s).prt = s.prt ∧ (auxPeriodStartEff s).trp = s.trp ∧
    (auxPeriodStartEff s).pod = s.pod ∧ (auxPeriodStartEff s).lgc = s.lgc ∧ (auxPeriodStartEff s).gsv = s.gsv ∧
    (auxPeriodStartEff s).tph = s.tph ∧ (auxPeriodStartEff s).oz = s.oz ∧ (auxPeriodStartEff s).sec = s.sec ∧
    (auxPeriodStartEff s).cmd = s.cmd := by
  have hfite := @State.ite_frame
  have hf1 := @State.raise_frame
  have hf2 := @State.incSat_frame
  have hf3 := @State.setFlag_frame
  have hf4 := @State.auxSeq_frame
  unfold auxPeriodStartEff
  (repeat' split) <;> simp [↓hfite, ↓hf1, ↓hf2, ↓hf3, ↓hf4]

theorem State.auxSnapW_frame (s : State) :
    (State.auxSnapW s).2.now = s.now ∧ (State.auxSnapW s).2.pending = s.pending ∧
    (State.auxSnapW s).2.regs0 = s.regs0 ∧ (State.auxSnapW s).2.freeCtr = s.freeCtr ∧
    (State.auxSnapW s).2.mode = s.mode ∧ (State.auxSnapW s).2.mram = s.mram ∧ (State.auxSnapW s).2.sys = s.sys ∧
    (State.auxSnapW s).2.evt = s.evt ∧ (State.auxSnapW s).2.ana = s.ana ∧ (State.auxSnapW s).2.flt = s.flt ∧
    (State.auxSnapW s).2.tim = s.tim ∧ (State.auxSnapW s).2.net = s.net ∧ (State.auxSnapW s).2.prt = s.prt ∧
    (State.auxSnapW s).2.trp = s.trp ∧ (State.auxSnapW s).2.pod = s.pod ∧ (State.auxSnapW s).2.lgc = s.lgc ∧
    (State.auxSnapW s).2.gsv = s.gsv ∧ (State.auxSnapW s).2.tph = s.tph ∧ (State.auxSnapW s).2.oz = s.oz ∧
    (State.auxSnapW s).2.sec = s.sec ∧ (State.auxSnapW s).2.cmd = s.cmd ∧ (State.auxSnapW s).2.regs = s.regs := by
  unfold State.auxSnapW
  (repeat' split) <;> simp

theorem auxSnapGoEff_frame (r : Requester) (s : State) :
    (auxSnapGoEff r s).now = s.now ∧ (auxSnapGoEff r s).pending = s.pending ∧ (auxSnapGoEff r s).regs0 = s.regs0 ∧
    (auxSnapGoEff r s).freeCtr = s.freeCtr ∧ (auxSnapGoEff r s).mode = s.mode ∧
    (auxSnapGoEff r s).mram.keyCnt = s.mram.keyCnt ∧ (auxSnapGoEff r s).mram.boot = s.mram.boot ∧
    (auxSnapGoEff r s).sys = s.sys ∧ (auxSnapGoEff r s).ana = s.ana ∧ (auxSnapGoEff r s).flt = s.flt ∧
    (auxSnapGoEff r s).tim = s.tim ∧ (auxSnapGoEff r s).net = s.net ∧ (auxSnapGoEff r s).prt = s.prt ∧
    (auxSnapGoEff r s).trp = s.trp ∧ (auxSnapGoEff r s).pod = s.pod ∧ (auxSnapGoEff r s).lgc = s.lgc ∧
    (auxSnapGoEff r s).gsv = s.gsv ∧ (auxSnapGoEff r s).tph = s.tph ∧ (auxSnapGoEff r s).oz = s.oz ∧
    (auxSnapGoEff r s).sec = s.sec ∧ (auxSnapGoEff r s).cmd = s.cmd := by
  have hf1 := @State.auxSnapW_frame
  simp [↓hf1, auxSnapGoEff]

theorem auxSnapCaptureEff_frame (s : State) :
    (auxSnapCaptureEff s).now = s.now ∧ (auxSnapCaptureEff s).pending = s.pending ∧
    (auxSnapCaptureEff s).regs0 = s.regs0 ∧ (auxSnapCaptureEff s).freeCtr = s.freeCtr ∧
    (auxSnapCaptureEff s).mode = s.mode ∧ (auxSnapCaptureEff s).mram.keyCnt = s.mram.keyCnt ∧
    (auxSnapCaptureEff s).mram.boot = s.mram.boot ∧ (auxSnapCaptureEff s).sys = s.sys ∧
    (auxSnapCaptureEff s).ana = s.ana ∧ (auxSnapCaptureEff s).flt = s.flt ∧ (auxSnapCaptureEff s).tim = s.tim ∧
    (auxSnapCaptureEff s).net = s.net ∧ (auxSnapCaptureEff s).prt = s.prt ∧ (auxSnapCaptureEff s).trp = s.trp ∧
    (auxSnapCaptureEff s).pod = s.pod ∧ (auxSnapCaptureEff s).lgc = s.lgc ∧ (auxSnapCaptureEff s).gsv = s.gsv ∧
    (auxSnapCaptureEff s).tph = s.tph ∧ (auxSnapCaptureEff s).oz = s.oz ∧ (auxSnapCaptureEff s).sec = s.sec ∧
    (auxSnapCaptureEff s).cmd = s.cmd := by
  have hfite := @State.ite_frame
  have hf1 := @State.auxFollow_frame
  have hf2 := @State.auxBlock_frame
  unfold auxSnapCaptureEff
  (repeat' split) <;> simp [↓hfite, ↓hf1, ↓hf2]

theorem State.auxPop_frame (r : Requester) (s : State) :
    (State.auxPop r s).2.now = s.now ∧ (State.auxPop r s).2.pending = s.pending ∧
    (State.auxPop r s).2.regs0 = s.regs0 ∧ (State.auxPop r s).2.freeCtr = s.freeCtr ∧
    (State.auxPop r s).2.mode = s.mode ∧ (State.auxPop r s).2.mram = s.mram ∧
    (State.auxPop r s).2.sys.straps = s.sys.straps ∧ (State.auxPop r s).2.sys.por = s.sys.por ∧
    (State.auxPop r s).2.sys.mapOn = s.sys.mapOn ∧ (State.auxPop r s).2.evt = s.evt ∧
    (State.auxPop r s).2.ana = s.ana ∧ (State.auxPop r s).2.flt = s.flt ∧ (State.auxPop r s).2.tim = s.tim ∧
    (State.auxPop r s).2.net = s.net ∧ (State.auxPop r s).2.prt = s.prt ∧ (State.auxPop r s).2.trp = s.trp ∧
    (State.auxPop r s).2.pod = s.pod ∧ (State.auxPop r s).2.lgc = s.lgc ∧ (State.auxPop r s).2.gsv = s.gsv ∧
    (State.auxPop r s).2.tph = s.tph ∧ (State.auxPop r s).2.oz = s.oz ∧ (State.auxPop r s).2.sec = s.sec ∧
    (State.auxPop r s).2.cmd = s.cmd := by
  have hf1 := @State.capture_frame
  have hf2 := @State.setFlag_frame
  unfold State.auxPop
  (repeat' split) <;> simp [↓hf1, ↓hf2]

theorem auxQdataReadEff_frame (r : Requester) (s : State) :
    (auxQdataReadEff r s).now = s.now ∧ (auxQdataReadEff r s).pending = s.pending ∧
    (auxQdataReadEff r s).regs0 = s.regs0 ∧ (auxQdataReadEff r s).freeCtr = s.freeCtr ∧
    (auxQdataReadEff r s).mode = s.mode ∧ (auxQdataReadEff r s).mram.keyCnt = s.mram.keyCnt ∧
    (auxQdataReadEff r s).mram.boot = s.mram.boot ∧ (auxQdataReadEff r s).sys.straps = s.sys.straps ∧
    (auxQdataReadEff r s).sys.por = s.sys.por ∧ (auxQdataReadEff r s).sys.mapOn = s.sys.mapOn ∧
    (auxQdataReadEff r s).ana = s.ana ∧ (auxQdataReadEff r s).flt = s.flt ∧ (auxQdataReadEff r s).tim = s.tim ∧
    (auxQdataReadEff r s).net = s.net ∧ (auxQdataReadEff r s).prt = s.prt ∧ (auxQdataReadEff r s).trp = s.trp ∧
    (auxQdataReadEff r s).pod = s.pod ∧ (auxQdataReadEff r s).lgc = s.lgc ∧ (auxQdataReadEff r s).gsv = s.gsv ∧
    (auxQdataReadEff r s).tph = s.tph ∧ (auxQdataReadEff r s).oz = s.oz ∧ (auxQdataReadEff r s).sec = s.sec ∧
    (auxQdataReadEff r s).cmd = s.cmd := by
  have hf1 := @State.auxPop_frame
  simp [↓hf1, auxQdataReadEff]

theorem State.auxCfgW_frame (v : ℕ) (s : State) :
    (State.auxCfgW v s).2.now = s.now ∧ (State.auxCfgW v s).2.pending = s.pending ∧
    (State.auxCfgW v s).2.regs0 = s.regs0 ∧ (State.auxCfgW v s).2.freeCtr = s.freeCtr ∧
    (State.auxCfgW v s).2.mode = s.mode ∧ (State.auxCfgW v s).2.mram = s.mram ∧ (State.auxCfgW v s).2.sys = s.sys ∧
    (State.auxCfgW v s).2.evt = s.evt ∧ (State.auxCfgW v s).2.ana = s.ana ∧ (State.auxCfgW v s).2.aux = s.aux ∧
    (State.auxCfgW v s).2.flt = s.flt ∧ (State.auxCfgW v s).2.tim = s.tim ∧ (State.auxCfgW v s).2.net = s.net ∧
    (State.auxCfgW v s).2.prt = s.prt ∧ (State.auxCfgW v s).2.trp = s.trp ∧ (State.auxCfgW v s).2.pod = s.pod ∧
    (State.auxCfgW v s).2.lgc = s.lgc ∧ (State.auxCfgW v s).2.gsv = s.gsv ∧ (State.auxCfgW v s).2.tph = s.tph ∧
    (State.auxCfgW v s).2.oz = s.oz ∧ (State.auxCfgW v s).2.sec = s.sec ∧ (State.auxCfgW v s).2.cmd = s.cmd := by
  have hf1 := @State.setF_frame
  simp [↓hf1, State.auxCfgW]
  (repeat' split) <;> simp [↓hf1]

theorem State.auxPeriodW_frame (v : ℕ) (s : State) :
    (State.auxPeriodW v s).2.now = s.now ∧ (State.auxPeriodW v s).2.pending = s.pending ∧
    (State.auxPeriodW v s).2.regs0 = s.regs0 ∧ (State.auxPeriodW v s).2.freeCtr = s.freeCtr ∧
    (State.auxPeriodW v s).2.mode = s.mode ∧ (State.auxPeriodW v s).2.mram = s.mram ∧
    (State.auxPeriodW v s).2.sys = s.sys ∧ (State.auxPeriodW v s).2.evt = s.evt ∧
    (State.auxPeriodW v s).2.ana = s.ana ∧ (State.auxPeriodW v s).2.aux = s.aux ∧
    (State.auxPeriodW v s).2.flt = s.flt ∧ (State.auxPeriodW v s).2.tim = s.tim ∧
    (State.auxPeriodW v s).2.net = s.net ∧ (State.auxPeriodW v s).2.prt = s.prt ∧
    (State.auxPeriodW v s).2.trp = s.trp ∧ (State.auxPeriodW v s).2.pod = s.pod ∧
    (State.auxPeriodW v s).2.lgc = s.lgc ∧ (State.auxPeriodW v s).2.gsv = s.gsv ∧
    (State.auxPeriodW v s).2.tph = s.tph ∧ (State.auxPeriodW v s).2.oz = s.oz ∧
    (State.auxPeriodW v s).2.sec = s.sec ∧ (State.auxPeriodW v s).2.cmd = s.cmd := by
  have hf1 := @State.setF_frame
  simp [↓hf1, State.auxPeriodW]
  (repeat' split) <;> simp [↓hf1]

theorem State.auxEntW_frame (e : ℕ) (v : ℕ) (s : State) :
    (State.auxEntW e v s).2.now = s.now ∧ (State.auxEntW e v s).2.pending = s.pending ∧
    (State.auxEntW e v s).2.regs0 = s.regs0 ∧ (State.auxEntW e v s).2.freeCtr = s.freeCtr ∧
    (State.auxEntW e v s).2.mode = s.mode ∧ (State.auxEntW e v s).2.mram = s.mram ∧
    (State.auxEntW e v s).2.sys = s.sys ∧ (State.auxEntW e v s).2.evt = s.evt ∧ (State.auxEntW e v s).2.ana = s.ana ∧
    (State.auxEntW e v s).2.aux = s.aux ∧ (State.auxEntW e v s).2.flt = s.flt ∧ (State.auxEntW e v s).2.tim = s.tim ∧
    (State.auxEntW e v s).2.net = s.net ∧ (State.auxEntW e v s).2.prt = s.prt ∧ (State.auxEntW e v s).2.trp = s.trp ∧
    (State.auxEntW e v s).2.pod = s.pod ∧ (State.auxEntW e v s).2.lgc = s.lgc ∧ (State.auxEntW e v s).2.gsv = s.gsv ∧
    (State.auxEntW e v s).2.tph = s.tph ∧ (State.auxEntW e v s).2.oz = s.oz ∧ (State.auxEntW e v s).2.sec = s.sec ∧
    (State.auxEntW e v s).2.cmd = s.cmd := by
  have hf1 := @State.wr_frame
  unfold State.auxEntW
  (repeat' split) <;> simp [↓hf1]
end Sys2Proof.Machine
end

