-- ==== Sys2Proof/Laws/FrameFilter.lean ====
section
/-!
SUPPORT. What the operations of Machine/Filter.lean leave as it was: one lemma per operation, over the parts of the state.
-/
set_option linter.all false
set_option Elab.async false
namespace Sys2Proof.Machine
theorem State.setFch_frame (s : State) (c : ℕ) (x : FltChan) :
    (State.setFch s c x).now = s.now ∧ (State.setFch s c x).pending = s.pending ∧
    (State.setFch s c x).regs0 = s.regs0 ∧ (State.setFch s c x).freeCtr = s.freeCtr ∧
    (State.setFch s c x).mode = s.mode ∧ (State.setFch s c x).mram = s.mram ∧ (State.setFch s c x).sys = s.sys ∧
    (State.setFch s c x).evt = s.evt ∧ (State.setFch s c x).ana = s.ana ∧ (State.setFch s c x).aux = s.aux ∧
    (State.setFch s c x).tim = s.tim ∧ (State.setFch s c x).net = s.net ∧ (State.setFch s c x).prt = s.prt ∧
    (State.setFch s c x).trp = s.trp ∧ (State.setFch s c x).pod = s.pod ∧ (State.setFch s c x).lgc = s.lgc ∧
    (State.setFch s c x).gsv = s.gsv ∧ (State.setFch s c x).tph = s.tph ∧ (State.setFch s c x).oz = s.oz ∧
    (State.setFch s c x).sec = s.sec ∧ (State.setFch s c x).cmd = s.cmd ∧ (State.setFch s c x).regs = s.regs := by
  simp [State.setFch]

theorem State.setFgrp_frame (s : State) (g : ℕ) (x : FltGroup) :
    (State.setFgrp s g x).now = s.now ∧ (State.setFgrp s g x).pending = s.pending ∧
    (State.setFgrp s g x).regs0 = s.regs0 ∧ (State.setFgrp s g x).freeCtr = s.freeCtr ∧
    (State.setFgrp s g x).mode = s.mode ∧ (State.setFgrp s g x).mram = s.mram ∧ (State.setFgrp s g x).sys = s.sys ∧
    (State.setFgrp s g x).evt = s.evt ∧ (State.setFgrp s g x).ana = s.ana ∧ (State.setFgrp s g x).aux = s.aux ∧
    (State.setFgrp s g x).tim = s.tim ∧ (State.setFgrp s g x).net = s.net ∧ (State.setFgrp s g x).prt = s.prt ∧
    (State.setFgrp s g x).trp = s.trp ∧ (State.setFgrp s g x).pod = s.pod ∧ (State.setFgrp s g x).lgc = s.lgc ∧
    (State.setFgrp s g x).gsv = s.gsv ∧ (State.setFgrp s g x).tph = s.tph ∧ (State.setFgrp s g x).oz = s.oz ∧
    (State.setFgrp s g x).sec = s.sec ∧ (State.setFgrp s g x).cmd = s.cmd ∧ (State.setFgrp s g x).regs = s.regs := by
  simp [State.setFgrp]

theorem State.setBank_frame (s : State) (g : ℕ) (st : ℕ) (b : ℕ) (x : CoefBank) :
    (State.setBank s g st b x).now = s.now ∧ (State.setBank s g st b x).pending = s.pending ∧
    (State.setBank s g st b x).regs0 = s.regs0 ∧ (State.setBank s g st b x).freeCtr = s.freeCtr ∧
    (State.setBank s g st b x).mode = s.mode ∧ (State.setBank s g st b x).mram = s.mram ∧
    (State.setBank s g st b x).sys = s.sys ∧ (State.setBank s g st b x).evt = s.evt ∧
    (State.setBank s g st b x).ana = s.ana ∧ (State.setBank s g st b x).aux = s.aux ∧
    (State.setBank s g st b x).tim = s.tim ∧ (State.setBank s g st b x).net = s.net ∧
    (State.setBank s g st b x).prt = s.prt ∧ (State.setBank s g st b x).trp = s.trp ∧
    (State.setBank s g st b x).pod = s.pod ∧ (State.setBank s g st b x).lgc = s.lgc ∧
    (State.setBank s g st b x).gsv = s.gsv ∧ (State.setBank s g st b x).tph = s.tph ∧
    (State.setBank s g st b x).oz = s.oz ∧ (State.setBank s g st b x).sec = s.sec ∧
    (State.setBank s g st b x).cmd = s.cmd := by
  have hf1 := @State.setF_frame
  simp [↓hf1, State.setBank]

theorem State.fltPush_frame (s : State) :
    (State.fltPush s).now = s.now ∧ (State.fltPush s).pending = s.pending ∧ (State.fltPush s).regs0 = s.regs0 ∧
    (State.fltPush s).freeCtr = s.freeCtr ∧ (State.fltPush s).mode = s.mode ∧ (State.fltPush s).mram = s.mram ∧
    (State.fltPush s).sys = s.sys ∧ (State.fltPush s).evt = s.evt ∧ (State.fltPush s).ana = s.ana ∧
    (State.fltPush s).aux = s.aux ∧ (State.fltPush s).tim = s.tim ∧ (State.fltPush s).net = s.net ∧
    (State.fltPush s).prt = s.prt ∧ (State.fltPush s).trp = s.trp ∧ (State.fltPush s).pod = s.pod ∧
    (State.fltPush s).lgc = s.lgc ∧ (State.fltPush s).gsv = s.gsv ∧ (State.fltPush s).tph = s.tph ∧
    (State.fltPush s).oz = s.oz ∧ (State.fltPush s).sec = s.sec ∧ (State.fltPush s).cmd = s.cmd ∧
    (State.fltPush s).regs = s.regs := by
  have hfite := @State.ite_frame
  have hf1 := @State.setFch_frame
  simp [↓hfite, ↓hf1, State.fltPush]

theorem State.dedReport_frame (s : State) (g : ℕ) (ded : List ℕ) :
    (State.dedReport s g ded).now = s.now ∧ (State.dedReport s g ded).pending = s.pending ∧
    (State.dedReport s g ded).regs0 = s.regs0 ∧ (State.dedReport s g ded).freeCtr = s.freeCtr ∧
    (State.dedReport s g ded).mode = s.mode ∧ (State.dedReport s g ded).mram.keyCnt = s.mram.keyCnt ∧
    (State.dedReport s g ded).mram.boot = s.mram.boot ∧ (State.dedReport s g ded).sys = s.sys ∧
    (State.dedReport s g ded).ana = s.ana ∧ (State.dedReport s g ded).aux = s.aux ∧
    (State.dedReport s g ded).flt = s.flt ∧ (State.dedReport s g ded).tim = s.tim ∧
    (State.dedReport s g ded).net = s.net ∧ (State.dedReport s g ded).prt = s.prt ∧
    (State.dedReport s g ded).trp = s.trp ∧ (State.dedReport s g ded).pod = s.pod ∧
    (State.dedReport s g ded).lgc = s.lgc ∧ (State.dedReport s g ded).gsv = s.gsv ∧
    (State.dedReport s g ded).tph = s.tph ∧ (State.dedReport s g ded).oz = s.oz ∧
    (State.dedReport s g ded).sec = s.sec ∧ (State.dedReport s g ded).cmd = s.cmd := by
  have hf1 := @State.raise_frame
  have hf2 := @State.setFlag_frame
  have hf3 := @State.incSat_frame
  simp [↓hf1, ↓hf2, ↓hf3, State.dedReport]

theorem State.mismatch_frame (s : State) (p : RecPend) :
    (State.mismatch s p).now = s.now ∧ (State.mismatch s p).pending = s.pending ∧
    (State.mismatch s p).regs0 = s.regs0 ∧ (State.mismatch s p).freeCtr = s.freeCtr ∧
    (State.mismatch s p).mode = s.mode ∧ (State.mismatch s p).mram.keyCnt = s.mram.keyCnt ∧
    (State.mismatch s p).mram.boot = s.mram.boot ∧ (State.mismatch s p).sys = s.sys ∧
    (State.mismatch s p).ana = s.ana ∧ (State.mismatch s p).aux = s.aux ∧ (State.mismatch s p).tim = s.tim ∧
    (State.mismatch s p).net = s.net ∧ (State.mismatch s p).prt = s.prt ∧ (State.mismatch s p).trp = s.trp ∧
    (State.mismatch s p).pod = s.pod ∧ (State.mismatch s p).lgc = s.lgc ∧ (State.mismatch s p).gsv = s.gsv ∧
    (State.mismatch s p).tph = s.tph ∧ (State.mismatch s p).oz = s.oz ∧ (State.mismatch s p).sec = s.sec ∧
    (State.mismatch s p).cmd = s.cmd := by
  have hf1 := @State.raise_frame
  have hf2 := @State.incSat_frame
  simp [↓hf1, ↓hf2, State.mismatch]

theorem State.strike_frame (s : State) (g : ℕ) (b : Bool) :
    (State.strike s g b).now = s.now ∧ (State.strike s g b).pending = s.pending ∧
    (State.strike s g b).regs0 = s.regs0 ∧ (State.strike s g b).freeCtr = s.freeCtr ∧
    (State.strike s g b).mode = s.mode ∧ (State.strike s g b).mram.keyCnt = s.mram.keyCnt ∧
    (State.strike s g b).mram.boot = s.mram.boot ∧ (State.strike s g b).sys = s.sys ∧
    (State.strike s g b).ana = s.ana ∧ (State.strike s g b).aux = s.aux ∧ (State.strike s g b).tim = s.tim ∧
    (State.strike s g b).net = s.net ∧ (State.strike s g b).prt = s.prt ∧ (State.strike s g b).trp = s.trp ∧
    (State.strike s g b).pod = s.pod ∧ (State.strike s g b).lgc = s.lgc ∧ (State.strike s g b).gsv = s.gsv ∧
    (State.strike s g b).tph = s.tph ∧ (State.strike s g b).oz = s.oz ∧ (State.strike s g b).sec = s.sec ∧
    (State.strike s g b).cmd = s.cmd := by
  have hfite := @State.ite_frame
  have hf1 := @State.setFgrp_frame
  have hf2 := @State.raise_frame
  have hf3 := @State.setFlag_frame
  simp [↓hfite, ↓hf1, ↓hf2, ↓hf3, State.strike]

theorem State.release1_frame (s : State) (c : ℕ) (m : ℕ) (y : Sample) :
    (State.release1 s c m y).now = s.now ∧ (State.release1 s c m y).pending = s.pending ∧
    (State.release1 s c m y).regs0 = s.regs0 ∧ (State.release1 s c m y).freeCtr = s.freeCtr ∧
    (State.release1 s c m y).mode = s.mode ∧ (State.release1 s c m y).mram = s.mram ∧
    (State.release1 s c m y).sys = s.sys ∧ (State.release1 s c m y).evt = s.evt ∧
    (State.release1 s c m y).ana = s.ana ∧ (State.release1 s c m y).aux = s.aux ∧
    (State.release1 s c m y).tim = s.tim ∧ (State.release1 s c m y).net = s.net ∧
    (State.release1 s c m y).prt = s.prt ∧ (State.release1 s c m y).trp = s.trp ∧
    (State.release1 s c m y).pod = s.pod ∧ (State.release1 s c m y).lgc = s.lgc ∧
    (State.release1 s c m y).gsv = s.gsv ∧ (State.release1 s c m y).tph = s.tph ∧
    (State.release1 s c m y).oz = s.oz ∧ (State.release1 s c m y).sec = s.sec ∧
    (State.release1 s c m y).cmd = s.cmd ∧ (State.release1 s c m y).regs = s.regs := by
  have hfite := @State.ite_frame
  have hf1 := @State.setFch_frame
  simp [↓hfite, ↓hf1, State.release1]

theorem State.takeTrims_frame (s : State) (g : ℕ) :
    (State.takeTrims s g).now = s.now ∧ (State.takeTrims s g).pending = s.pending ∧
    (State.takeTrims s g).regs0 = s.regs0 ∧ (State.takeTrims s g).freeCtr = s.freeCtr ∧
    (State.takeTrims s g).mode = s.mode ∧ (State.takeTrims s g).mram = s.mram ∧ (State.takeTrims s g).sys = s.sys ∧
    (State.takeTrims s g).evt = s.evt ∧ (State.takeTrims s g).ana = s.ana ∧ (State.takeTrims s g).aux = s.aux ∧
    (State.takeTrims s g).tim = s.tim ∧ (State.takeTrims s g).net = s.net ∧ (State.takeTrims s g).prt = s.prt ∧
    (State.takeTrims s g).trp = s.trp ∧ (State.takeTrims s g).pod = s.pod ∧ (State.takeTrims s g).lgc = s.lgc ∧
    (State.takeTrims s g).gsv = s.gsv ∧ (State.takeTrims s g).tph = s.tph ∧ (State.takeTrims s g).oz = s.oz ∧
    (State.takeTrims s g).sec = s.sec ∧ (State.takeTrims s g).cmd = s.cmd ∧ (State.takeTrims s g).regs = s.regs := by
  have hfite := @State.ite_frame
  have hf1 := @State.setFch_frame
  simp [↓hfite, ↓hf1, State.takeTrims]

theorem State.release2_frame (s : State) (c : ℕ) (q : ℕ) (y : Sample) :
    (State.release2 s c q y).now = s.now ∧ (State.release2 s c q y).pending = s.pending ∧
    (State.release2 s c q y).regs0 = s.regs0 ∧ (State.release2 s c q y).freeCtr = s.freeCtr ∧
    (State.release2 s c q y).mode = s.mode ∧ (State.release2 s c q y).mram = s.mram ∧
    (State.release2 s c q y).sys = s.sys ∧ (State.release2 s c q y).evt = s.evt ∧
    (State.release2 s c q y).ana = s.ana ∧ (State.release2 s c q y).aux = s.aux ∧
    (State.release2 s c q y).tim = s.tim ∧ (State.release2 s c q y).net = s.net ∧
    (State.release2 s c q y).prt = s.prt ∧ (State.release2 s c q y).trp = s.trp ∧
    (State.release2 s c q y).pod = s.pod ∧ (State.release2 s c q y).lgc = s.lgc ∧
    (State.release2 s c q y).gsv = s.gsv ∧ (State.release2 s c q y).tph = s.tph ∧
    (State.release2 s c q y).oz = s.oz ∧ (State.release2 s c q y).sec = s.sec ∧
    (State.release2 s c q y).cmd = s.cmd ∧ (State.release2 s c q y).regs = s.regs := by
  have hf1 := @State.takeTrims_frame
  have hf2 := @State.setFch_frame
  simp [↓hf1, ↓hf2, State.release2]

theorem State.releaseT_frame (s : State) (c : ℕ) (m : ℕ) (y : Sample) :
    (State.releaseT s c m y).now = s.now ∧ (State.releaseT s c m y).pending = s.pending ∧
    (State.releaseT s c m y).regs0 = s.regs0 ∧ (State.releaseT s c m y).freeCtr = s.freeCtr ∧
    (State.releaseT s c m y).mode = s.mode ∧ (State.releaseT s c m y).mram = s.mram ∧
    (State.releaseT s c m y).sys = s.sys ∧ (State.releaseT s c m y).evt = s.evt ∧
    (State.releaseT s c m y).ana = s.ana ∧ (State.releaseT s c m y).aux = s.aux ∧
    (State.releaseT s c m y).tim = s.tim ∧ (State.releaseT s c m y).net = s.net ∧
    (State.releaseT s c m y).prt = s.prt ∧ (State.releaseT s c m y).trp = s.trp ∧
    (State.releaseT s c m y).pod = s.pod ∧ (State.releaseT s c m y).lgc = s.lgc ∧
    (State.releaseT s c m y).gsv = s.gsv ∧ (State.releaseT s c m y).tph = s.tph ∧
    (State.releaseT s c m y).oz = s.oz ∧ (State.releaseT s c m y).sec = s.sec ∧
    (State.releaseT s c m y).cmd = s.cmd ∧ (State.releaseT s c m y).regs = s.regs := by
  have hf1 := @State.setFch_frame
  simp [↓hf1, State.releaseT]

theorem State.releaseF_frame (s : State) (c : ℕ) (k : ℕ) (y : Sample) :
    (State.releaseF s c k y).now = s.now ∧ (State.releaseF s c k y).pending = s.pending ∧
    (State.releaseF s c k y).regs0 = s.regs0 ∧ (State.releaseF s c k y).freeCtr = s.freeCtr ∧
    (State.releaseF s c k y).mode = s.mode ∧ (State.releaseF s c k y).mram = s.mram ∧
    (State.releaseF s c k y).sys = s.sys ∧ (State.releaseF s c k y).evt = s.evt ∧
    (State.releaseF s c k y).ana = s.ana ∧ (State.releaseF s c k y).aux = s.aux ∧
    (State.releaseF s c k y).tim = s.tim ∧ (State.releaseF s c k y).net = s.net ∧
    (State.releaseF s c k y).prt = s.prt ∧ (State.releaseF s c k y).trp = s.trp ∧
    (State.releaseF s c k y).pod = s.pod ∧ (State.releaseF s c k y).lgc = s.lgc ∧
    (State.releaseF s c k y).gsv = s.gsv ∧ (State.releaseF s c k y).tph = s.tph ∧
    (State.releaseF s c k y).oz = s.oz ∧ (State.releaseF s c k y).sec = s.sec ∧
    (State.releaseF s c k y).cmd = s.cmd ∧ (State.releaseF s c k y).regs = s.regs := by
  have hf1 := @State.setFch_frame
  simp [↓hf1, State.releaseF]

theorem State.release_frame (s : State) (st : ℕ) (c : ℕ) (idx : ℕ) (y : Sample) :
    (State.release s st c idx y).now = s.now ∧ (State.release s st c idx y).pending = s.pending ∧
    (State.release s st c idx y).regs0 = s.regs0 ∧ (State.release s st c idx y).freeCtr = s.freeCtr ∧
    (State.release s st c idx y).mode = s.mode ∧ (State.release s st c idx y).mram = s.mram ∧
    (State.release s st c idx y).sys = s.sys ∧ (State.release s st c idx y).evt = s.evt ∧
    (State.release s st c idx y).ana = s.ana ∧ (State.release s st c idx y).aux = s.aux ∧
    (State.release s st c idx y).tim = s.tim ∧ (State.release s st c idx y).net = s.net ∧
    (State.release s st c idx y).prt = s.prt ∧ (State.release s st c idx y).trp = s.trp ∧
    (State.release s st c idx y).pod = s.pod ∧ (State.release s st c idx y).lgc = s.lgc ∧
    (State.release s st c idx y).gsv = s.gsv ∧ (State.release s st c idx y).tph = s.tph ∧
    (State.release s st c idx y).oz = s.oz ∧ (State.release s st c idx y).sec = s.sec ∧
    (State.release s st c idx y).cmd = s.cmd ∧ (State.release s st c idx y).regs = s.regs := by
  have hf1 := @State.release1_frame
  have hf2 := @State.release2_frame
  have hf3 := @State.releaseT_frame
  have hf4 := @State.releaseF_frame
  unfold State.release
  (repeat' split) <;> simp [↓hf1, ↓hf2, ↓hf3, ↓hf4]

theorem State.stageOut_frame (s : State) (st : ℕ) (c : ℕ) (idx : ℕ) (base : ℤ) (acc : ℤ) (tag : Tag) (up : Upset) :
    (State.stageOut s st c idx base acc tag up).now = s.now ∧
    (State.stageOut s st c idx base acc tag up).pending = s.pending ∧
    (State.stageOut s st c idx base acc tag up).regs0 = s.regs0 ∧
    (State.stageOut s st c idx base acc tag up).freeCtr = s.freeCtr ∧
    (State.stageOut s st c idx base acc tag up).mode = s.mode ∧
    (State.stageOut s st c idx base acc tag up).mram.keyCnt = s.mram.keyCnt ∧
    (State.stageOut s st c idx base acc tag up).mram.boot = s.mram.boot ∧
    (State.stageOut s st c idx base acc tag up).sys = s.sys ∧
    (State.stageOut s st c idx base acc tag up).ana = s.ana ∧
    (State.stageOut s st c idx base acc tag up).aux = s.aux ∧
    (State.stageOut s st c idx base acc tag up).tim = s.tim ∧
    (State.stageOut s st c idx base acc tag up).net = s.net ∧
    (State.stageOut s st c idx base acc tag up).prt = s.prt ∧
    (State.stageOut s st c idx base acc tag up).trp = s.trp ∧
    (State.stageOut s st c idx base acc tag up).pod = s.pod ∧
    (State.stageOut s st c idx base acc tag up).lgc = s.lgc ∧
    (State.stageOut s st c idx base acc tag up).gsv = s.gsv ∧
    (State.stageOut s st c idx base acc tag up).tph = s.tph ∧ (State.stageOut s st c idx base acc tag up).oz = s.oz ∧
    (State.stageOut s st c idx base acc tag up).sec = s.sec ∧ (State.stageOut s st c idx base acc tag up).cmd = s.cmd := by
  have hf1 := @State.release_frame
  have hf2 := @State.dedReport_frame
  have hf3 := @State.mismatch_frame
  simp [↓hf1, ↓hf2, ↓hf3, State.stageOut]
  (repeat' split) <;> simp [↓hf1, ↓hf2, ↓hf3]

theorem stage1OutputEff_frame (c : ℕ) (up : Upset) (s : State) :
    (stage1OutputEff c up s).now = s.now ∧ (stage1OutputEff c up s).pending = s.pending ∧
    (stage1OutputEff c up s).regs0 = s.regs0 ∧ (stage1OutputEff c up s).freeCtr = s.freeCtr ∧
    (stage1OutputEff c up s).mode = s.mode ∧ (stage1OutputEff c up s).mram.keyCnt = s.mram.keyCnt ∧
    (stage1OutputEff c up s).mram.boot = s.mram.boot ∧ (stage1OutputEff c up s).sys = s.sys ∧
    (stage1OutputEff c up s).ana = s.ana ∧ (stage1OutputEff c up s).aux = s.aux ∧
    (stage1OutputEff c up s).tim = s.tim ∧ (stage1OutputEff c up s).net = s.net ∧
    (stage1OutputEff c up s).prt = s.prt ∧ (stage1OutputEff c up s).trp = s.trp ∧
    (stage1OutputEff c up s).pod = s.pod ∧ (stage1OutputEff c up s).lgc = s.lgc ∧
    (stage1OutputEff c up s).gsv = s.gsv ∧ (stage1OutputEff c up s).tph = s.tph ∧
    (stage1OutputEff c up s).oz = s.oz ∧ (stage1OutputEff c up s).sec = s.sec ∧ (stage1OutputEff c up s).cmd = s.cmd := by
  have hfite := @State.ite_frame
  have hf1 := @State.stageOut_frame
  have hf2 := @State.setFch_frame
  simp [↓hfite, ↓hf1, ↓hf2, stage1OutputEff]

theorem stage2OutputEff_frame (c : ℕ) (up : Upset) (s : State) :
    (stage2OutputEff c up s).now = s.now ∧ (stage2OutputEff c up s).pending = s.pending ∧
    (stage2OutputEff c up s).regs0 = s.regs0 ∧ (stage2OutputEff c up s).freeCtr = s.freeCtr ∧
    (stage2OutputEff c up s).mode = s.mode ∧ (stage2OutputEff c up s).mram.keyCnt = s.mram.keyCnt ∧
    (stage2OutputEff c up s).mram.boot = s.mram.boot ∧ (stage2OutputEff c up s).sys = s.sys ∧
    (stage2OutputEff c up s).ana = s.ana ∧ (stage2OutputEff c up s).aux = s.aux ∧
    (stage2OutputEff c up s).tim = s.tim ∧ (stage2OutputEff c up s).net = s.net ∧
    (stage2OutputEff c up s).prt = s.prt ∧ (stage2OutputEff c up s).trp = s.trp ∧
    (stage2OutputEff c up s).pod = s.pod ∧ (stage2OutputEff c up s).lgc = s.lgc ∧
    (stage2OutputEff c up s).gsv = s.gsv ∧ (stage2OutputEff c up s).tph = s.tph ∧
    (stage2OutputEff c up s).oz = s.oz ∧ (stage2OutputEff c up s).sec = s.sec ∧ (stage2OutputEff c up s).cmd = s.cmd := by
  have hf1 := @State.stageOut_frame
  have hf2 := @State.setFch_frame
  simp [↓hf1, ↓hf2, stage2OutputEff]
  (repeat' split) <;> simp [↓hf1, ↓hf2]

theorem State.spoil_frame (s : State) (c : ℕ) (i : ℤ) :
    (State.spoil s c i).now = s.now ∧ (State.spoil s c i).pending = s.pending ∧ (State.spoil s c i).regs0 = s.regs0 ∧
    (State.spoil s c i).freeCtr = s.freeCtr ∧ (State.spoil s c i).mode = s.mode ∧ (State.spoil s c i).mram = s.mram ∧
    (State.spoil s c i).sys = s.sys ∧ (State.spoil s c i).evt = s.evt ∧ (State.spoil s c i).ana = s.ana ∧
    (State.spoil s c i).aux = s.aux ∧ (State.spoil s c i).tim = s.tim ∧ (State.spoil s c i).net = s.net ∧
    (State.spoil s c i).prt = s.prt ∧ (State.spoil s c i).trp = s.trp ∧ (State.spoil s c i).pod = s.pod ∧
    (State.spoil s c i).lgc = s.lgc ∧ (State.spoil s c i).gsv = s.gsv ∧ (State.spoil s c i).tph = s.tph ∧
    (State.spoil s c i).oz = s.oz ∧ (State.spoil s c i).sec = s.sec ∧ (State.spoil s c i).cmd = s.cmd ∧
    (State.spoil s c i).regs = s.regs := by
  have hfite := @State.ite_frame
  have hf1 := @State.setFch_frame
  simp [↓hfite, ↓hf1, State.spoil]

theorem State.spoilAll_frame (s : State) (c : ℕ) (n : ℤ) (ded : List ℕ) :
    (State.spoilAll s c n ded).now = s.now ∧ (State.spoilAll s c n ded).pending = s.pending ∧
    (State.spoilAll s c n ded).regs0 = s.regs0 ∧ (State.spoilAll s c n ded).freeCtr = s.freeCtr ∧
    (State.spoilAll s c n ded).mode = s.mode ∧ (State.spoilAll s c n ded).mram = s.mram ∧
    (State.spoilAll s c n ded).sys = s.sys ∧ (State.spoilAll s c n ded).evt = s.evt ∧
    (State.spoilAll s c n ded).ana = s.ana ∧ (State.spoilAll s c n ded).aux = s.aux ∧
    (State.spoilAll s c n ded).tim = s.tim ∧ (State.spoilAll s c n ded).net = s.net ∧
    (State.spoilAll s c n ded).prt = s.prt ∧ (State.spoilAll s c n ded).trp = s.trp ∧
    (State.spoilAll s c n ded).pod = s.pod ∧ (State.spoilAll s c n ded).lgc = s.lgc ∧
    (State.spoilAll s c n ded).gsv = s.gsv ∧ (State.spoilAll s c n ded).tph = s.tph ∧
    (State.spoilAll s c n ded).oz = s.oz ∧ (State.spoilAll s c n ded).sec = s.sec ∧
    (State.spoilAll s c n ded).cmd = s.cmd ∧ (State.spoilAll s c n ded).regs = s.regs := by
  have hfite := @State.ite_frame
  have hf1 := @State.spoil_frame
  simp [↓hfite, ↓hf1, State.spoilAll]

theorem trackedSampleEff_frame (c : ℕ) (up : Upset) (s : State) :
    (trackedSampleEff c up s).now = s.now ∧ (trackedSampleEff c up s).pending = s.pending ∧
    (trackedSampleEff c up s).regs0 = s.regs0 ∧ (trackedSampleEff c up s).freeCtr = s.freeCtr ∧
    (trackedSampleEff c up s).mode = s.mode ∧ (trackedSampleEff c up s).mram.keyCnt = s.mram.keyCnt ∧
    (trackedSampleEff c up s).mram.boot = s.mram.boot ∧ (trackedSampleEff c up s).sys = s.sys ∧
    (trackedSampleEff c up s).ana = s.ana ∧ (trackedSampleEff c up s).aux = s.aux ∧
    (trackedSampleEff c up s).tim = s.tim ∧ (trackedSampleEff c up s).net = s.net ∧
    (trackedSampleEff c up s).prt = s.prt ∧ (trackedSampleEff c up s).trp = s.trp ∧
    (trackedSampleEff c up s).pod = s.pod ∧ (trackedSampleEff c up s).lgc = s.lgc ∧
    (trackedSampleEff c up s).gsv = s.gsv ∧ (trackedSampleEff c up s).tph = s.tph ∧
    (trackedSampleEff c up s).oz = s.oz ∧ (trackedSampleEff c up s).sec = s.sec ∧
    (trackedSampleEff c up s).cmd = s.cmd := by
  have hfite := @State.ite_frame
  have hf1 := @State.setFch_frame
  have hf2 := @State.spoilAll_frame
  have hf3 := @State.stageOut_frame
  simp [↓hfite, ↓hf1, ↓hf2, ↓hf3, trackedSampleEff]

theorem fixedRateSampleEff_frame (c : ℕ) (up : Upset) (s : State) :
    (fixedRateSampleEff c up s).now = s.now ∧ (fixedRateSampleEff c up s).pending = s.pending ∧
    (fixedRateSampleEff c up s).regs0 = s.regs0 ∧ (fixedRateSampleEff c up s).freeCtr = s.freeCtr ∧
    (fixedRateSampleEff c up s).mode = s.mode ∧ (fixedRateSampleEff c up s).mram.keyCnt = s.mram.keyCnt ∧
    (fixedRateSampleEff c up s).mram.boot = s.mram.boot ∧ (fixedRateSampleEff c up s).sys = s.sys ∧
    (fixedRateSampleEff c up s).ana = s.ana ∧ (fixedRateSampleEff c up s).aux = s.aux ∧
    (fixedRateSampleEff c up s).tim = s.tim ∧ (fixedRateSampleEff c up s).net = s.net ∧
    (fixedRateSampleEff c up s).prt = s.prt ∧ (fixedRateSampleEff c up s).trp = s.trp ∧
    (fixedRateSampleEff c up s).pod = s.pod ∧ (fixedRateSampleEff c up s).lgc = s.lgc ∧
    (fixedRateSampleEff c up s).gsv = s.gsv ∧ (fixedRateSampleEff c up s).tph = s.tph ∧
    (fixedRateSampleEff c up s).oz = s.oz ∧ (fixedRateSampleEff c up s).sec = s.sec ∧
    (fixedRateSampleEff c up s).cmd = s.cmd := by
  have hfite := @State.ite_frame
  have hf1 := @State.setFch_frame
  have hf2 := @State.spoilAll_frame
  have hf3 := @State.stageOut_frame
  simp [↓hfite, ↓hf1, ↓hf2, ↓hf3, fixedRateSampleEff]

theorem recomputeDoneEff_frame (g : ℕ) (st : ℕ) (c : ℕ) (r1 : ℤ) (r2 : ℤ) (s : State) :
    (recomputeDoneEff g st c r1 r2 s).now = s.now ∧ (recomputeDoneEff g st c r1 r2 s).pending = s.pending ∧
    (recomputeDoneEff g st c r1 r2 s).regs0 = s.regs0 ∧ (recomputeDoneEff g st c r1 r2 s).freeCtr = s.freeCtr ∧
    (recomputeDoneEff g st c r1 r2 s).mode = s.mode ∧ (recomputeDoneEff g st c r1 r2 s).mram.keyCnt = s.mram.keyCnt ∧
    (recomputeDoneEff g st c r1 r2 s).mram.boot = s.mram.boot ∧ (recomputeDoneEff g st c r1 r2 s).sys = s.sys ∧
    (recomputeDoneEff g st c r1 r2 s).ana = s.ana ∧ (recomputeDoneEff g st c r1 r2 s).aux = s.aux ∧
    (recomputeDoneEff g st c r1 r2 s).tim = s.tim ∧ (recomputeDoneEff g st c r1 r2 s).net = s.net ∧
    (recomputeDoneEff g st c r1 r2 s).prt = s.prt ∧ (recomputeDoneEff g st c r1 r2 s).trp = s.trp ∧
    (recomputeDoneEff g st c r1 r2 s).pod = s.pod ∧ (recomputeDoneEff g st c r1 r2 s).lgc = s.lgc ∧
    (recomputeDoneEff g st c r1 r2 s).gsv = s.gsv ∧ (recomputeDoneEff g st c r1 r2 s).tph = s.tph ∧
    (recomputeDoneEff g st c r1 r2 s).oz = s.oz ∧ (recomputeDoneEff g st c r1 r2 s).sec = s.sec ∧
    (recomputeDoneEff g st c r1 r2 s).cmd = s.cmd := by
  have hf1 := @State.release_frame
  have hf2 := @State.incSat_frame
  have hf3 := @State.strike_frame
  have hf4 := @State.raise_frame
  have hf5 := @State.setFlag_frame
  unfold recomputeDoneEff
  (repeat' split) <;> simp [↓hf1, ↓hf2, ↓hf3, ↓hf4, ↓hf5]

theorem State.mirrorPh_frame (s : State) :
    (State.mirrorPh s).now = s.now ∧ (State.mirrorPh s).pending = s.pending ∧ (State.mirrorPh s).regs0 = s.regs0 ∧
    (State.mirrorPh s).freeCtr = s.freeCtr ∧ (State.mirrorPh s).mode = s.mode ∧ (State.mirrorPh s).mram = s.mram ∧
    (State.mirrorPh s).sys = s.sys ∧ (State.mirrorPh s).evt = s.evt ∧ (State.mirrorPh s).ana = s.ana ∧
    (State.mirrorPh s).aux = s.aux ∧ (State.mirrorPh s).flt = s.flt ∧ (State.mirrorPh s).tim = s.tim ∧
    (State.mirrorPh s).net = s.net ∧ (State.mirrorPh s).prt = s.prt ∧ (State.mirrorPh s).trp = s.trp ∧
    (State.mirrorPh s).pod = s.pod ∧ (State.mirrorPh s).lgc = s.lgc ∧ (State.mirrorPh s).gsv = s.gsv ∧
    (State.mirrorPh s).tph = s.tph ∧ (State.mirrorPh s).oz = s.oz ∧ (State.mirrorPh s).sec = s.sec ∧
    (State.mirrorPh s).cmd = s.cmd := by
  have hf1 := @State.setF_frame
  simp [↓hf1, State.mirrorPh]

theorem State.putFest_frame (s : State) (f : ℕ) :
    (State.putFest s f).now = s.now ∧ (State.putFest s f).pending = s.pending ∧ (State.putFest s f).regs0 = s.regs0 ∧
    (State.putFest s f).freeCtr = s.freeCtr ∧ (State.putFest s f).mode = s.mode ∧ (State.putFest s f).mram = s.mram ∧
    (State.putFest s f).sys = s.sys ∧ (State.putFest s f).evt = s.evt ∧ (State.putFest s f).ana = s.ana ∧
    (State.putFest s f).aux = s.aux ∧ (State.putFest s f).flt = s.flt ∧ (State.putFest s f).tim = s.tim ∧
    (State.putFest s f).net = s.net ∧ (State.putFest s f).prt = s.prt ∧ (State.putFest s f).trp = s.trp ∧
    (State.putFest s f).pod = s.pod ∧ (State.putFest s f).lgc = s.lgc ∧ (State.putFest s f).gsv = s.gsv ∧
    (State.putFest s f).tph = s.tph ∧ (State.putFest s f).oz = s.oz ∧ (State.putFest s f).sec = s.sec ∧
    (State.putFest s f).cmd = s.cmd := by
  have hfite := @State.ite_frame
  have hf1 := @State.incWrap_frame
  have hf2 := @State.setF_frame
  simp [↓hfite, ↓hf1, ↓hf2, State.putFest]

theorem State.takeFest_frame (s : State) (f : ℕ) (follow : Bool) :
    (State.takeFest s f follow).now = s.now ∧ (State.takeFest s f follow).pending = s.pending ∧
    (State.takeFest s f follow).regs0 = s.regs0 ∧ (State.takeFest s f follow).freeCtr = s.freeCtr ∧
    (State.takeFest s f follow).mode = s.mode ∧ (State.takeFest s f follow).mram.keyCnt = s.mram.keyCnt ∧
    (State.takeFest s f follow).mram.boot = s.mram.boot ∧ (State.takeFest s f follow).sys = s.sys ∧
    (State.takeFest s f follow).ana = s.ana ∧ (State.takeFest s f follow).aux = s.aux ∧
    (State.takeFest s f follow).tim = s.tim ∧ (State.takeFest s f follow).net = s.net ∧
    (State.takeFest s f follow).prt = s.prt ∧ (State.takeFest s f follow).trp = s.trp ∧
    (State.takeFest s f follow).pod = s.pod ∧ (State.takeFest s f follow).lgc = s.lgc ∧
    (State.takeFest s f follow).gsv = s.gsv ∧ (State.takeFest s f follow).tph = s.tph ∧
    (State.takeFest s f follow).oz = s.oz ∧ (State.takeFest s f follow).sec = s.sec ∧
    (State.takeFest s f follow).cmd = s.cmd := by
  have hfite := @State.ite_frame
  have hf1 := @State.setFlag_frame
  have hf2 := @State.raise_frame
  have hf3 := @State.putFest_frame
  simp [↓hfite, ↓hf1, ↓hf2, ↓hf3, State.takeFest]

theorem State.cycleEnd_frame (s : State) (h : PhHalf) (tau : ℕ) :
    (State.cycleEnd s h tau).now = s.now ∧ (State.cycleEnd s h tau).pending = s.pending ∧
    (State.cycleEnd s h tau).regs0 = s.regs0 ∧ (State.cycleEnd s h tau).freeCtr = s.freeCtr ∧
    (State.cycleEnd s h tau).mode = s.mode ∧ (State.cycleEnd s h tau).mram.keyCnt = s.mram.keyCnt ∧
    (State.cycleEnd s h tau).mram.boot = s.mram.boot ∧ (State.cycleEnd s h tau).sys = s.sys ∧
    (State.cycleEnd s h tau).ana = s.ana ∧ (State.cycleEnd s h tau).aux = s.aux ∧
    (State.cycleEnd s h tau).tim = s.tim ∧ (State.cycleEnd s h tau).net = s.net ∧
    (State.cycleEnd s h tau).prt = s.prt ∧ (State.cycleEnd s h tau).trp = s.trp ∧
    (State.cycleEnd s h tau).pod = s.pod ∧ (State.cycleEnd s h tau).lgc = s.lgc ∧
    (State.cycleEnd s h tau).gsv = s.gsv ∧ (State.cycleEnd s h tau).tph = s.tph ∧
    (State.cycleEnd s h tau).oz = s.oz ∧ (State.cycleEnd s h tau).sec = s.sec ∧ (State.cycleEnd s h tau).cmd = s.cmd := by
  have hfite := @State.ite_frame
  have hf1 := @State.takeFest_frame
  have hf2 := @State.setF_frame
  have hf3 := @State.raise_frame
  have hf4 := @State.putFest_frame
  simp [↓hfite, ↓hf1, ↓hf2, ↓hf3, ↓hf4, State.cycleEnd]

theorem State.slew_frame (s : State) :
    (State.slew s).now = s.now ∧ (State.slew s).pending = s.pending ∧ (State.slew s).regs0 = s.regs0 ∧
    (State.slew s).freeCtr = s.freeCtr ∧ (State.slew s).mode = s.mode ∧ (State.slew s).mram = s.mram ∧
    (State.slew s).sys = s.sys ∧ (State.slew s).evt = s.evt ∧ (State.slew s).ana = s.ana ∧
    (State.slew s).aux = s.aux ∧ (State.slew s).flt = s.flt ∧ (State.slew s).tim = s.tim ∧
    (State.slew s).net = s.net ∧ (State.slew s).prt = s.prt ∧ (State.slew s).trp = s.trp ∧
    (State.slew s).pod = s.pod ∧ (State.slew s).lgc = s.lgc ∧ (State.slew s).gsv = s.gsv ∧
    (State.slew s).tph = s.tph ∧ (State.slew s).oz = s.oz ∧ (State.slew s).sec = s.sec ∧ (State.slew s).cmd = s.cmd := by
  have hf1 := @State.setFlag_frame
  have hf2 := @State.setF_frame
  simp [↓hf1, ↓hf2, State.slew]

theorem State.settleGroups_frame (s : State) (m : ℕ) :
    (State.settleGroups s m).now = s.now ∧ (State.settleGroups s m).pending = s.pending ∧
    (State.settleGroups s m).regs0 = s.regs0 ∧ (State.settleGroups s m).freeCtr = s.freeCtr ∧
    (State.settleGroups s m).mode = s.mode ∧ (State.settleGroups s m).mram = s.mram ∧
    (State.settleGroups s m).sys = s.sys ∧ (State.settleGroups s m).evt = s.evt ∧
    (State.settleGroups s m).ana = s.ana ∧ (State.settleGroups s m).aux = s.aux ∧
    (State.settleGroups s m).flt = s.flt ∧ (State.settleGroups s m).tim = s.tim ∧
    (State.settleGroups s m).net = s.net ∧ (State.settleGroups s m).prt = s.prt ∧
    (State.settleGroups s m).trp = s.trp ∧ (State.settleGroups s m).pod = s.pod ∧
    (State.settleGroups s m).lgc = s.lgc ∧ (State.settleGroups s m).gsv = s.gsv ∧
    (State.settleGroups s m).tph = s.tph ∧ (State.settleGroups s m).oz = s.oz ∧
    (State.settleGroups s m).sec = s.sec ∧ (State.settleGroups s m).cmd = s.cmd := by
  have hfite := @State.ite_frame
  have hf1 := @State.setF_frame
  simp [↓hfite, ↓hf1, State.settleGroups]

theorem State.keepFest_frame (s : State) :
    (State.keepFest s).now = s.now ∧ (State.keepFest s).pending = s.pending ∧ (State.keepFest s).regs0 = s.regs0 ∧
    (State.keepFest s).freeCtr = s.freeCtr ∧ (State.keepFest s).mode = s.mode ∧ (State.keepFest s).mram = s.mram ∧
    (State.keepFest s).sys = s.sys ∧ (State.keepFest s).evt = s.evt ∧ (State.keepFest s).ana = s.ana ∧
    (State.keepFest s).aux = s.aux ∧ (State.keepFest s).tim = s.tim ∧ (State.keepFest s).net = s.net ∧
    (State.keepFest s).prt = s.prt ∧ (State.keepFest s).trp = s.trp ∧ (State.keepFest s).pod = s.pod ∧
    (State.keepFest s).lgc = s.lgc ∧ (State.keepFest s).gsv = s.gsv ∧ (State.keepFest s).tph = s.tph ∧
    (State.keepFest s).oz = s.oz ∧ (State.keepFest s).sec = s.sec ∧ (State.keepFest s).cmd = s.cmd ∧
    (State.keepFest s).regs = s.regs := by
  have hfite := @State.ite_frame
  simp [↓hfite, State.keepFest]

theorem State.swapHalves_frame (s : State) :
    (State.swapHalves s).now = s.now ∧ (State.swapHalves s).pending = s.pending ∧
    (State.swapHalves s).regs0 = s.regs0 ∧ (State.swapHalves s).freeCtr = s.freeCtr ∧
    (State.swapHalves s).mode = s.mode ∧ (State.swapHalves s).mram.keyCnt = s.mram.keyCnt ∧
    (State.swapHalves s).mram.boot = s.mram.boot ∧ (State.swapHalves s).sys = s.sys ∧
    (State.swapHalves s).ana = s.ana ∧ (State.swapHalves s).aux = s.aux ∧ (State.swapHalves s).tim = s.tim ∧
    (State.swapHalves s).net = s.net ∧ (State.swapHalves s).prt = s.prt ∧ (State.swapHalves s).trp = s.trp ∧
    (State.swapHalves s).pod = s.pod ∧ (State.swapHalves s).lgc = s.lgc ∧ (State.swapHalves s).gsv = s.gsv ∧
    (State.swapHalves s).tph = s.tph ∧ (State.swapHalves s).oz = s.oz ∧ (State.swapHalves s).sec = s.sec ∧
    (State.swapHalves s).cmd = s.cmd := by
  have hfite := @State.ite_frame
  have hf1 := @State.cycleEnd_frame
  have hf2 := @State.mirrorPh_frame
  have hf3 := @State.settleGroups_frame
  have hf4 := @State.setF_frame
  have hf5 := @State.slew_frame
  have hf6 := @State.keepFest_frame
  simp [↓hfite, ↓hf1, ↓hf2, ↓hf3, ↓hf4, ↓hf5, ↓hf6, State.swapHalves]

theorem State.fltStopW_frame (g : ℕ) (s : State) :
    (State.fltStopW g s).2.now = s.now ∧ (State.fltStopW g s).2.pending = s.pending ∧
    (State.fltStopW g s).2.regs0 = s.regs0 ∧ (State.fltStopW g s).2.freeCtr = s.freeCtr ∧
    (State.fltStopW g s).2.mode = s.mode ∧ (State.fltStopW g s).2.mram = s.mram ∧
    (State.fltStopW g s).2.sys = s.sys ∧ (State.fltStopW g s).2.evt = s.evt ∧ (State.fltStopW g s).2.ana = s.ana ∧
    (State.fltStopW g s).2.aux = s.aux ∧ (State.fltStopW g s).2.tim = s.tim ∧ (State.fltStopW g s).2.net = s.net ∧
    (State.fltStopW g s).2.prt = s.prt ∧ (State.fltStopW g s).2.trp = s.trp ∧ (State.fltStopW g s).2.pod = s.pod ∧
    (State.fltStopW g s).2.lgc = s.lgc ∧ (State.fltStopW g s).2.gsv = s.gsv ∧ (State.fltStopW g s).2.tph = s.tph ∧
    (State.fltStopW g s).2.oz = s.oz ∧ (State.fltStopW g s).2.sec = s.sec ∧ (State.fltStopW g s).2.cmd = s.cmd ∧
    (State.fltStopW g s).2.regs = s.regs := by
  have hf1 := @State.setFgrp_frame
  unfold State.fltStopW
  (repeat' split) <;> simp [↓hf1]

theorem State.fltStartW_frame (g : ℕ) (s : State) :
    (State.fltStartW g s).2.now = s.now ∧ (State.fltStartW g s).2.pending = s.pending ∧
    (State.fltStartW g s).2.regs0 = s.regs0 ∧ (State.fltStartW g s).2.freeCtr = s.freeCtr ∧
    (State.fltStartW g s).2.mode = s.mode ∧ (State.fltStartW g s).2.mram = s.mram ∧
    (State.fltStartW g s).2.sys = s.sys ∧ (State.fltStartW g s).2.evt = s.evt ∧ (State.fltStartW g s).2.ana = s.ana ∧
    (State.fltStartW g s).2.aux = s.aux ∧ (State.fltStartW g s).2.tim = s.tim ∧ (State.fltStartW g s).2.net = s.net ∧
    (State.fltStartW g s).2.prt = s.prt ∧ (State.fltStartW g s).2.trp = s.trp ∧ (State.fltStartW g s).2.pod = s.pod ∧
    (State.fltStartW g s).2.lgc = s.lgc ∧ (State.fltStartW g s).2.gsv = s.gsv ∧ (State.fltStartW g s).2.tph = s.tph ∧
    (State.fltStartW g s).2.oz = s.oz ∧ (State.fltStartW g s).2.sec = s.sec ∧ (State.fltStartW g s).2.cmd = s.cmd ∧
    (State.fltStartW g s).2.regs = s.regs := by
  have hf1 := @State.setFgrp_frame
  unfold State.fltStartW
  (repeat' split) <;> simp [↓hf1]

theorem State.fltCtlW_frame (g : ℕ) (v : ℕ) (s : State) :
    (State.fltCtlW g v s).2.now = s.now ∧ (State.fltCtlW g v s).2.pending = s.pending ∧
    (State.fltCtlW g v s).2.regs0 = s.regs0 ∧ (State.fltCtlW g v s).2.freeCtr = s.freeCtr ∧
    (State.fltCtlW g v s).2.mode = s.mode ∧ (State.fltCtlW g v s).2.mram = s.mram ∧
    (State.fltCtlW g v s).2.sys = s.sys ∧ (State.fltCtlW g v s).2.evt = s.evt ∧ (State.fltCtlW g v s).2.ana = s.ana ∧
    (State.fltCtlW g v s).2.aux = s.aux ∧ (State.fltCtlW g v s).2.tim = s.tim ∧ (State.fltCtlW g v s).2.net = s.net ∧
    (State.fltCtlW g v s).2.prt = s.prt ∧ (State.fltCtlW g v s).2.trp = s.trp ∧ (State.fltCtlW g v s).2.pod = s.pod ∧
    (State.fltCtlW g v s).2.lgc = s.lgc ∧ (State.fltCtlW g v s).2.gsv = s.gsv ∧ (State.fltCtlW g v s).2.tph = s.tph ∧
    (State.fltCtlW g v s).2.oz = s.oz ∧ (State.fltCtlW g v s).2.sec = s.sec ∧ (State.fltCtlW g v s).2.cmd = s.cmd ∧
    (State.fltCtlW g v s).2.regs = s.regs := by
  have hf1 := @State.fltStartW_frame
  have hf2 := @State.fltStopW_frame
  unfold State.fltCtlW
  (repeat' split) <;> simp [↓hf1, ↓hf2]

theorem fltStopEff_frame (r : Requester) (g : ℕ) (s : State) :
    (fltStopEff r g s).now = s.now ∧ (fltStopEff r g s).pending = s.pending ∧ (fltStopEff r g s).regs0 = s.regs0 ∧
    (fltStopEff r g s).freeCtr = s.freeCtr ∧ (fltStopEff r g s).mode = s.mode ∧
    (fltStopEff r g s).mram.keyCnt = s.mram.keyCnt ∧ (fltStopEff r g s).mram.boot = s.mram.boot ∧
    (fltStopEff r g s).sys = s.sys ∧ (fltStopEff r g s).ana = s.ana ∧ (fltStopEff r g s).aux = s.aux ∧
    (fltStopEff r g s).tim = s.tim ∧ (fltStopEff r g s).net = s.net ∧ (fltStopEff r g s).prt = s.prt ∧
    (fltStopEff r g s).trp = s.trp ∧ (fltStopEff r g s).pod = s.pod ∧ (fltStopEff r g s).lgc = s.lgc ∧
    (fltStopEff r g s).gsv = s.gsv ∧ (fltStopEff r g s).tph = s.tph ∧ (fltStopEff r g s).oz = s.oz ∧
    (fltStopEff r g s).sec = s.sec ∧ (fltStopEff r g s).cmd = s.cmd := by
  have hf1 := @State.fltCtlW_frame
  simp [↓hf1, fltStopEff]

theorem fltStartEff_frame (r : Requester) (g : ℕ) (s : State) :
    (fltStartEff r g s).now = s.now ∧ (fltStartEff r g s).pending = s.pending ∧ (fltStartEff r g s).regs0 = s.regs0 ∧
    (fltStartEff r g s).freeCtr = s.freeCtr ∧ (fltStartEff r g s).mode = s.mode ∧
    (fltStartEff r g s).mram.keyCnt = s.mram.keyCnt ∧ (fltStartEff r g s).mram.boot = s.mram.boot ∧
    (fltStartEff r g s).sys = s.sys ∧ (fltStartEff r g s).ana = s.ana ∧ (fltStartEff r g s).aux = s.aux ∧
    (fltStartEff r g s).tim = s.tim ∧ (fltStartEff r g s).net = s.net ∧ (fltStartEff r g s).prt = s.prt ∧
    (fltStartEff r g s).trp = s.trp ∧ (fltStartEff r g s).pod = s.pod ∧ (fltStartEff r g s).lgc = s.lgc ∧
    (fltStartEff r g s).gsv = s.gsv ∧ (fltStartEff r g s).tph = s.tph ∧ (fltStartEff r g s).oz = s.oz ∧
    (fltStartEff r g s).sec = s.sec ∧ (fltStartEff r g s).cmd = s.cmd := by
  have hf1 := @State.fltCtlW_frame
  simp [↓hf1, fltStartEff]

theorem chainStopTakenEff_frame (g : ℕ) (s : State) :
    (chainStopTakenEff g s).now = s.now ∧ (chainStopTakenEff g s).pending = s.pending ∧
    (chainStopTakenEff g s).regs0 = s.regs0 ∧ (chainStopTakenEff g s).freeCtr = s.freeCtr ∧
    (chainStopTakenEff g s).mode = s.mode ∧ (chainStopTakenEff g s).mram = s.mram ∧
    (chainStopTakenEff g s).sys = s.sys ∧ (chainStopTakenEff g s).evt = s.evt ∧ (chainStopTakenEff g s).ana = s.ana ∧
    (chainStopTakenEff g s).aux = s.aux ∧ (chainStopTakenEff g s).tim = s.tim ∧ (chainStopTakenEff g s).net = s.net ∧
    (chainStopTakenEff g s).prt = s.prt ∧ (chainStopTakenEff g s).trp = s.trp ∧ (chainStopTakenEff g s).pod = s.pod ∧
    (chainStopTakenEff g s).lgc = s.lgc ∧ (chainStopTakenEff g s).gsv = s.gsv ∧ (chainStopTakenEff g s).tph = s.tph ∧
    (chainStopTakenEff g s).oz = s.oz ∧ (chainStopTakenEff g s).sec = s.sec ∧ (chainStopTakenEff g s).cmd = s.cmd := by
  have hfite := @State.ite_frame
  have hf1 := @State.setF_frame
  have hf2 := @State.setFgrp_frame
  simp [↓hfite, ↓hf1, ↓hf2, chainStopTakenEff]

theorem State.syncReset_frame (s : State) (g : ℕ) :
    (State.syncReset s g).now = s.now ∧ (State.syncReset s g).pending = s.pending ∧
    (State.syncReset s g).regs0 = s.regs0 ∧ (State.syncReset s g).freeCtr = s.freeCtr ∧
    (State.syncReset s g).mode = s.mode ∧ (State.syncReset s g).mram = s.mram ∧ (State.syncReset s g).sys = s.sys ∧
    (State.syncReset s g).evt = s.evt ∧ (State.syncReset s g).ana = s.ana ∧ (State.syncReset s g).aux = s.aux ∧
    (State.syncReset s g).tim = s.tim ∧ (State.syncReset s g).net = s.net ∧ (State.syncReset s g).prt = s.prt ∧
    (State.syncReset s g).trp = s.trp ∧ (State.syncReset s g).pod = s.pod ∧ (State.syncReset s g).lgc = s.lgc ∧
    (State.syncReset s g).gsv = s.gsv ∧ (State.syncReset s g).tph = s.tph ∧ (State.syncReset s g).oz = s.oz ∧
    (State.syncReset s g).sec = s.sec ∧ (State.syncReset s g).cmd = s.cmd := by
  have hfite := @State.ite_frame
  have hf1 := @State.setFch_frame
  have hf2 := @State.setF_frame
  have hf3 := @State.setFgrp_frame
  simp [↓hfite, ↓hf1, ↓hf2, ↓hf3, State.syncReset]

theorem syncResetEff_frame (g : ℕ) (s : State) :
    (syncResetEff g s).now = s.now ∧ (syncResetEff g s).pending = s.pending ∧ (syncResetEff g s).regs0 = s.regs0 ∧
    (syncResetEff g s).freeCtr = s.freeCtr ∧ (syncResetEff g s).mode = s.mode ∧ (syncResetEff g s).mram = s.mram ∧
    (syncResetEff g s).sys = s.sys ∧ (syncResetEff g s).evt = s.evt ∧ (syncResetEff g s).ana = s.ana ∧
    (syncResetEff g s).aux = s.aux ∧ (syncResetEff g s).tim = s.tim ∧ (syncResetEff g s).net = s.net ∧
    (syncResetEff g s).prt = s.prt ∧ (syncResetEff g s).trp = s.trp ∧ (syncResetEff g s).pod = s.pod ∧
    (syncResetEff g s).lgc = s.lgc ∧ (syncResetEff g s).gsv = s.gsv ∧ (syncResetEff g s).tph = s.tph ∧
    (syncResetEff g s).oz = s.oz ∧ (syncResetEff g s).sec = s.sec ∧ (syncResetEff g s).cmd = s.cmd := by
  have hfite := @State.ite_frame
  have hf1 := @State.syncReset_frame
  simp [↓hfite, ↓hf1, syncResetEff]

theorem State.chainStart_frame (s : State) :
    (State.chainStart s).now = s.now ∧ (State.chainStart s).pending = s.pending ∧
    (State.chainStart s).regs0 = s.regs0 ∧ (State.chainStart s).freeCtr = s.freeCtr ∧
    (State.chainStart s).mode = s.mode ∧ (State.chainStart s).mram = s.mram ∧ (State.chainStart s).sys = s.sys ∧
    (State.chainStart s).evt = s.evt ∧ (State.chainStart s).ana = s.ana ∧ (State.chainStart s).aux = s.aux ∧
    (State.chainStart s).tim = s.tim ∧ (State.chainStart s).net = s.net ∧ (State.chainStart s).prt = s.prt ∧
    (State.chainStart s).trp = s.trp ∧ (State.chainStart s).pod = s.pod ∧ (State.chainStart s).lgc = s.lgc ∧
    (State.chainStart s).gsv = s.gsv ∧ (State.chainStart s).tph = s.tph ∧ (State.chainStart s).oz = s.oz ∧
    (State.chainStart s).sec = s.sec ∧ (State.chainStart s).cmd = s.cmd := by
  have hfite := @State.ite_frame
  have hf1 := @State.setF_frame
  simp [↓hfite, ↓hf1, State.chainStart]

theorem State.fltBankW_frame (g : ℕ) (v : ℕ) (s : State) :
    (State.fltBankW g v s).2.now = s.now ∧ (State.fltBankW g v s).2.pending = s.pending ∧
    (State.fltBankW g v s).2.regs0 = s.regs0 ∧ (State.fltBankW g v s).2.freeCtr = s.freeCtr ∧
    (State.fltBankW g v s).2.mode = s.mode ∧ (State.fltBankW g v s).2.mram = s.mram ∧
    (State.fltBankW g v s).2.sys = s.sys ∧ (State.fltBankW g v s).2.evt = s.evt ∧
    (State.fltBankW g v s).2.ana = s.ana ∧ (State.fltBankW g v s).2.aux = s.aux ∧
    (State.fltBankW g v s).2.flt = s.flt ∧ (State.fltBankW g v s).2.tim = s.tim ∧
    (State.fltBankW g v s).2.net = s.net ∧ (State.fltBankW g v s).2.prt = s.prt ∧
    (State.fltBankW g v s).2.trp = s.trp ∧ (State.fltBankW g v s).2.pod = s.pod ∧
    (State.fltBankW g v s).2.lgc = s.lgc ∧ (State.fltBankW g v s).2.gsv = s.gsv ∧
    (State.fltBankW g v s).2.tph = s.tph ∧ (State.fltBankW g v s).2.oz = s.oz ∧
    (State.fltBankW g v s).2.sec = s.sec ∧ (State.fltBankW g v s).2.cmd = s.cmd := by
  have hf1 := @State.wr_frame
  unfold State.fltBankW
  (repeat' split) <;> simp [↓hf1]

theorem fltBankWriteEff_frame (r : Requester) (g : ℕ) (v : ℕ) (s : State) :
    (fltBankWriteEff r g v s).now = s.now ∧ (fltBankWriteEff r g v s).pending = s.pending ∧
    (fltBankWriteEff r g v s).regs0 = s.regs0 ∧ (fltBankWriteEff r g v s).freeCtr = s.freeCtr ∧
    (fltBankWriteEff r g v s).mode = s.mode ∧ (fltBankWriteEff r g v s).mram.keyCnt = s.mram.keyCnt ∧
    (fltBankWriteEff r g v s).mram.boot = s.mram.boot ∧ (fltBankWriteEff r g v s).sys = s.sys ∧
    (fltBankWriteEff r g v s).ana = s.ana ∧ (fltBankWriteEff r g v s).aux = s.aux ∧
    (fltBankWriteEff r g v s).flt = s.flt ∧ (fltBankWriteEff r g v s).tim = s.tim ∧
    (fltBankWriteEff r g v s).net = s.net ∧ (fltBankWriteEff r g v s).prt = s.prt ∧
    (fltBankWriteEff r g v s).trp = s.trp ∧ (fltBankWriteEff r g v s).pod = s.pod ∧
    (fltBankWriteEff r g v s).lgc = s.lgc ∧ (fltBankWriteEff r g v s).gsv = s.gsv ∧
    (fltBankWriteEff r g v s).tph = s.tph ∧ (fltBankWriteEff r g v s).oz = s.oz ∧
    (fltBankWriteEff r g v s).sec = s.sec ∧ (fltBankWriteEff r g v s).cmd = s.cmd := by
  have hf1 := @State.fltBankW_frame
  simp [↓hf1, fltBankWriteEff]

theorem State.fltCaddrW_frame (v : ℕ) (s : State) :
    (State.fltCaddrW v s).2.now = s.now ∧ (State.fltCaddrW v s).2.pending = s.pending ∧
    (State.fltCaddrW v s).2.regs0 = s.regs0 ∧ (State.fltCaddrW v s).2.freeCtr = s.freeCtr ∧
    (State.fltCaddrW v s).2.mode = s.mode ∧ (State.fltCaddrW v s).2.mram = s.mram ∧
    (State.fltCaddrW v s).2.sys = s.sys ∧ (State.fltCaddrW v s).2.evt = s.evt ∧ (State.fltCaddrW v s).2.ana = s.ana ∧
    (State.fltCaddrW v s).2.aux = s.aux ∧ (State.fltCaddrW v s).2.flt = s.flt ∧ (State.fltCaddrW v s).2.tim = s.tim ∧
    (State.fltCaddrW v s).2.net = s.net ∧ (State.fltCaddrW v s).2.prt = s.prt ∧ (State.fltCaddrW v s).2.trp = s.trp ∧
    (State.fltCaddrW v s).2.pod = s.pod ∧ (State.fltCaddrW v s).2.lgc = s.lgc ∧ (State.fltCaddrW v s).2.gsv = s.gsv ∧
    (State.fltCaddrW v s).2.tph = s.tph ∧ (State.fltCaddrW v s).2.oz = s.oz ∧ (State.fltCaddrW v s).2.sec = s.sec ∧
    (State.fltCaddrW v s).2.cmd = s.cmd := by
  have hf1 := @State.wr_frame
  unfold State.fltCaddrW
  (repeat' split) <;> simp [↓hf1]

theorem State.fltCdataW_frame (v : ℕ) (s : State) :
    (State.fltCdataW v s).2.now = s.now ∧ (State.fltCdataW v s).2.pending = s.pending ∧
    (State.fltCdataW v s).2.regs0 = s.regs0 ∧ (State.fltCdataW v s).2.freeCtr = s.freeCtr ∧
    (State.fltCdataW v s).2.mode = s.mode ∧ (State.fltCdataW v s).2.mram = s.mram ∧
    (State.fltCdataW v s).2.sys = s.sys ∧ (State.fltCdataW v s).2.evt = s.evt ∧ (State.fltCdataW v s).2.ana = s.ana ∧
    (State.fltCdataW v s).2.aux = s.aux ∧ (State.fltCdataW v s).2.tim = s.tim ∧ (State.fltCdataW v s).2.net = s.net ∧
    (State.fltCdataW v s).2.prt = s.prt ∧ (State.fltCdataW v s).2.trp = s.trp ∧ (State.fltCdataW v s).2.pod = s.pod ∧
    (State.fltCdataW v s).2.lgc = s.lgc ∧ (State.fltCdataW v s).2.gsv = s.gsv ∧ (State.fltCdataW v s).2.tph = s.tph ∧
    (State.fltCdataW v s).2.oz = s.oz ∧ (State.fltCdataW v s).2.sec = s.sec ∧ (State.fltCdataW v s).2.cmd = s.cmd := by
  have hf1 := @State.incWrap_frame
  have hf2 := @State.setBank_frame
  simp [↓hf1, ↓hf2, State.fltCdataW]
  (repeat' split) <;> simp [↓hf1, ↓hf2]

theorem fltCdataWriteEff_frame (r : Requester) (v : ℕ) (s : State) :
    (fltCdataWriteEff r v s).now = s.now ∧ (fltCdataWriteEff r v s).pending = s.pending ∧
    (fltCdataWriteEff r v s).regs0 = s.regs0 ∧ (fltCdataWriteEff r v s).freeCtr = s.freeCtr ∧
    (fltCdataWriteEff r v s).mode = s.mode ∧ (fltCdataWriteEff r v s).mram.keyCnt = s.mram.keyCnt ∧
    (fltCdataWriteEff r v s).mram.boot = s.mram.boot ∧ (fltCdataWriteEff r v s).sys = s.sys ∧
    (fltCdataWriteEff r v s).ana = s.ana ∧ (fltCdataWriteEff r v s).aux = s.aux ∧
    (fltCdataWriteEff r v s).tim = s.tim ∧ (fltCdataWriteEff r v s).net = s.net ∧
    (fltCdataWriteEff r v s).prt = s.prt ∧ (fltCdataWriteEff r v s).trp = s.trp ∧
    (fltCdataWriteEff r v s).pod = s.pod ∧ (fltCdataWriteEff r v s).lgc = s.lgc ∧
    (fltCdataWriteEff r v s).gsv = s.gsv ∧ (fltCdataWriteEff r v s).tph = s.tph ∧
    (fltCdataWriteEff r v s).oz = s.oz ∧ (fltCdataWriteEff r v s).sec = s.sec ∧ (fltCdataWriteEff r v s).cmd = s.cmd := by
  have hf1 := @State.fltCdataW_frame
  simp [↓hf1, fltCdataWriteEff]

theorem State.fltCcmtW_frame (v : ℕ) (s : State) :
    (State.fltCcmtW v s).2.now = s.now ∧ (State.fltCcmtW v s).2.pending = s.pending ∧
    (State.fltCcmtW v s).2.regs0 = s.regs0 ∧ (State.fltCcmtW v s).2.freeCtr = s.freeCtr ∧
    (State.fltCcmtW v s).2.mode = s.mode ∧ (State.fltCcmtW v s).2.mram = s.mram ∧
    (State.fltCcmtW v s).2.sys = s.sys ∧ (State.fltCcmtW v s).2.evt = s.evt ∧ (State.fltCcmtW v s).2.ana = s.ana ∧
    (State.fltCcmtW v s).2.aux = s.aux ∧ (State.fltCcmtW v s).2.tim = s.tim ∧ (State.fltCcmtW v s).2.net = s.net ∧
    (State.fltCcmtW v s).2.prt = s.prt ∧ (State.fltCcmtW v s).2.trp = s.trp ∧ (State.fltCcmtW v s).2.pod = s.pod ∧
    (State.fltCcmtW v s).2.lgc = s.lgc ∧ (State.fltCcmtW v s).2.gsv = s.gsv ∧ (State.fltCcmtW v s).2.tph = s.tph ∧
    (State.fltCcmtW v s).2.oz = s.oz ∧ (State.fltCcmtW v s).2.sec = s.sec ∧ (State.fltCcmtW v s).2.cmd = s.cmd := by
  have hf1 := @State.setBank_frame
  simp [↓hf1, State.fltCcmtW]
  (repeat' split) <;> simp [↓hf1]

theorem fltCcmtCommitEff_frame (r : Requester) (s : State) :
    (fltCcmtCommitEff r s).now = s.now ∧ (fltCcmtCommitEff r s).pending = s.pending ∧
    (fltCcmtCommitEff r s).regs0 = s.regs0 ∧ (fltCcmtCommitEff r s).freeCtr = s.freeCtr ∧
    (fltCcmtCommitEff r s).mode = s.mode ∧ (fltCcmtCommitEff r s).mram.keyCnt = s.mram.keyCnt ∧
    (fltCcmtCommitEff r s).mram.boot = s.mram.boot ∧ (fltCcmtCommitEff r s).sys = s.sys ∧
    (fltCcmtCommitEff r s).ana = s.ana ∧ (fltCcmtCommitEff r s).aux = s.aux ∧ (fltCcmtCommitEff r s).tim = s.tim ∧
    (fltCcmtCommitEff r s).net = s.net ∧ (fltCcmtCommitEff r s).prt = s.prt ∧ (fltCcmtCommitEff r s).trp = s.trp ∧
    (fltCcmtCommitEff r s).pod = s.pod ∧ (fltCcmtCommitEff r s).lgc = s.lgc ∧ (fltCcmtCommitEff r s).gsv = s.gsv ∧
    (fltCcmtCommitEff r s).tph = s.tph ∧ (fltCcmtCommitEff r s).oz = s.oz ∧ (fltCcmtCommitEff r s).sec = s.sec ∧
    (fltCcmtCommitEff r s).cmd = s.cmd := by
  have hf1 := @State.fltCcmtW_frame
  simp [↓hf1, fltCcmtCommitEff]

theorem State.fltTrimW_frame (c : ℕ) (v : ℕ) (s : State) :
    (State.fltTrimW c v s).2.now = s.now ∧ (State.fltTrimW c v s).2.pending = s.pending ∧
    (State.fltTrimW c v s).2.regs0 = s.regs0 ∧ (State.fltTrimW c v s).2.freeCtr = s.freeCtr ∧
    (State.fltTrimW c v s).2.mode = s.mode ∧ (State.fltTrimW c v s).2.mram = s.mram ∧
    (State.fltTrimW c v s).2.sys = s.sys ∧ (State.fltTrimW c v s).2.evt = s.evt ∧
    (State.fltTrimW c v s).2.ana = s.ana ∧ (State.fltTrimW c v s).2.aux = s.aux ∧
    (State.fltTrimW c v s).2.tim = s.tim ∧ (State.fltTrimW c v s).2.net = s.net ∧
    (State.fltTrimW c v s).2.prt = s.prt ∧ (State.fltTrimW c v s).2.trp = s.trp ∧
    (State.fltTrimW c v s).2.pod = s.pod ∧ (State.fltTrimW c v s).2.lgc = s.lgc ∧
    (State.fltTrimW c v s).2.gsv = s.gsv ∧ (State.fltTrimW c v s).2.tph = s.tph ∧
    (State.fltTrimW c v s).2.oz = s.oz ∧ (State.fltTrimW c v s).2.sec = s.sec ∧ (State.fltTrimW c v s).2.cmd = s.cmd := by
  have hfite := @State.ite_frame
  have hf1 := @State.setF_frame
  have hf2 := @State.setFch_frame
  unfold State.fltTrimW
  (repeat' split) <;> simp [↓hfite, ↓hf1, ↓hf2]

theorem fltTrimWriteEff_frame (r : Requester) (c : ℕ) (v : ℕ) (s : State) :
    (fltTrimWriteEff r c v s).now = s.now ∧ (fltTrimWriteEff r c v s).pending = s.pending ∧
    (fltTrimWriteEff r c v s).regs0 = s.regs0 ∧ (fltTrimWriteEff r c v s).freeCtr = s.freeCtr ∧
    (fltTrimWriteEff r c v s).mode = s.mode ∧ (fltTrimWriteEff r c v s).mram.keyCnt = s.mram.keyCnt ∧
    (fltTrimWriteEff r c v s).mram.boot = s.mram.boot ∧ (fltTrimWriteEff r c v s).sys = s.sys ∧
    (fltTrimWriteEff r c v s).ana = s.ana ∧ (fltTrimWriteEff r c v s).aux = s.aux ∧
    (fltTrimWriteEff r c v s).tim = s.tim ∧ (fltTrimWriteEff r c v s).net = s.net ∧
    (fltTrimWriteEff r c v s).prt = s.prt ∧ (fltTrimWriteEff r c v s).trp = s.trp ∧
    (fltTrimWriteEff r c v s).pod = s.pod ∧ (fltTrimWriteEff r c v s).lgc = s.lgc ∧
    (fltTrimWriteEff r c v s).gsv = s.gsv ∧ (fltTrimWriteEff r c v s).tph = s.tph ∧
    (fltTrimWriteEff r c v s).oz = s.oz ∧ (fltTrimWriteEff r c v s).sec = s.sec ∧
    (fltTrimWriteEff r c v s).cmd = s.cmd := by
  have hf1 := @State.fltTrimW_frame
  simp [↓hf1, fltTrimWriteEff]

theorem State.fltPhselW_frame (v : ℕ) (s : State) :
    (State.fltPhselW v s).2.now = s.now ∧ (State.fltPhselW v s).2.pending = s.pending ∧
    (State.fltPhselW v s).2.regs0 = s.regs0 ∧ (State.fltPhselW v s).2.freeCtr = s.freeCtr ∧
    (State.fltPhselW v s).2.mode = s.mode ∧ (State.fltPhselW v s).2.mram = s.mram ∧
    (State.fltPhselW v s).2.sys = s.sys ∧ (State.fltPhselW v s).2.evt = s.evt ∧ (State.fltPhselW v s).2.ana = s.ana ∧
    (State.fltPhselW v s).2.aux = s.aux ∧ (State.fltPhselW v s).2.flt = s.flt ∧ (State.fltPhselW v s).2.tim = s.tim ∧
    (State.fltPhselW v s).2.net = s.net ∧ (State.fltPhselW v s).2.prt = s.prt ∧ (State.fltPhselW v s).2.trp = s.trp ∧
    (State.fltPhselW v s).2.pod = s.pod ∧ (State.fltPhselW v s).2.lgc = s.lgc ∧ (State.fltPhselW v s).2.gsv = s.gsv ∧
    (State.fltPhselW v s).2.tph = s.tph ∧ (State.fltPhselW v s).2.oz = s.oz ∧ (State.fltPhselW v s).2.sec = s.sec ∧
    (State.fltPhselW v s).2.cmd = s.cmd := by
  have hfite := @State.ite_frame
  have hf1 := @State.wr_frame
  have hf2 := @State.mirrorPh_frame
  simp [↓hfite, ↓hf1, ↓hf2, State.fltPhselW]

theorem fltPhselWriteEff_frame (r : Requester) (v : ℕ) (s : State) :
    (fltPhselWriteEff r v s).now = s.now ∧ (fltPhselWriteEff r v s).pending = s.pending ∧
    (fltPhselWriteEff r v s).regs0 = s.regs0 ∧ (fltPhselWriteEff r v s).freeCtr = s.freeCtr ∧
    (fltPhselWriteEff r v s).mode = s.mode ∧ (fltPhselWriteEff r v s).mram.keyCnt = s.mram.keyCnt ∧
    (fltPhselWriteEff r v s).mram.boot = s.mram.boot ∧ (fltPhselWriteEff r v s).sys = s.sys ∧
    (fltPhselWriteEff r v s).ana = s.ana ∧ (fltPhselWriteEff r v s).aux = s.aux ∧
    (fltPhselWriteEff r v s).flt = s.flt ∧ (fltPhselWriteEff r v s).tim = s.tim ∧
    (fltPhselWriteEff r v s).net = s.net ∧ (fltPhselWriteEff r v s).prt = s.prt ∧
    (fltPhselWriteEff r v s).trp = s.trp ∧ (fltPhselWriteEff r v s).pod = s.pod ∧
    (fltPhselWriteEff r v s).lgc = s.lgc ∧ (fltPhselWriteEff r v s).gsv = s.gsv ∧
    (fltPhselWriteEff r v s).tph = s.tph ∧ (fltPhselWriteEff r v s).oz = s.oz ∧
    (fltPhselWriteEff r v s).sec = s.sec ∧ (fltPhselWriteEff r v s).cmd = s.cmd := by
  have hf1 := @State.fltPhselW_frame
  simp [↓hf1, fltPhselWriteEff]

theorem fusedSampleEff_frame (raw : List (List ℤ)) (refA : Bool) (refB : Bool) (s : State) :
    (fusedSampleEff raw refA refB s).now = s.now ∧ (fusedSampleEff raw refA refB s).pending = s.pending ∧
    (fusedSampleEff raw refA refB s).regs0 = s.regs0 ∧ (fusedSampleEff raw refA refB s).freeCtr = s.freeCtr ∧
    (fusedSampleEff raw refA refB s).mode = s.mode ∧ (fusedSampleEff raw refA refB s).mram = s.mram ∧
    (fusedSampleEff raw refA refB s).sys = s.sys ∧ (fusedSampleEff raw refA refB s).evt = s.evt ∧
    (fusedSampleEff raw refA refB s).tim = s.tim ∧ (fusedSampleEff raw refA refB s).net = s.net ∧
    (fusedSampleEff raw refA refB s).prt = s.prt ∧ (fusedSampleEff raw refA refB s).trp = s.trp ∧
    (fusedSampleEff raw refA refB s).pod = s.pod ∧ (fusedSampleEff raw refA refB s).lgc = s.lgc ∧
    (fusedSampleEff raw refA refB s).gsv = s.gsv ∧ (fusedSampleEff raw refA refB s).tph = s.tph ∧
    (fusedSampleEff raw refA refB s).oz = s.oz ∧ (fusedSampleEff raw refA refB s).sec = s.sec ∧
    (fusedSampleEff raw refA refB s).cmd = s.cmd := by
  have hfite := @State.ite_frame
  have hf1 := @State.fltPush_frame
  have hf2 := @State.strobe_frame
  simp [↓hfite, ↓hf1, ↓hf2, fusedSampleEff]
end Sys2Proof.Machine
end

