-- ==== Sys2Proof/Laws/FrameElements.lean ====
section
/-!
SUPPORT. What the operations of Machine/Elements.lean leave as it was: one lemma per operation, over the parts of the state.
-/
set_option linter.all false
set_option Elab.async false
namespace Sys2Proof.Machine
theorem State.setInst_frame (s : State) (i : ℕ) (x : InstInt) :
    (State.setInst s i x).now = s.now ∧ (State.setInst s i x).pending = s.pending ∧
    (State.setInst s i x).regs0 = s.regs0 ∧ (State.setInst s i x).freeCtr = s.freeCtr ∧
    (State.setInst s i x).mode = s.mode ∧ (State.setInst s i x).mram = s.mram ∧ (State.setInst s i x).sys = s.sys ∧
    (State.setInst s i x).evt = s.evt ∧ (State.setInst s i x).ana = s.ana ∧ (State.setInst s i x).aux = s.aux ∧
    (State.setInst s i x).flt = s.flt ∧ (State.setInst s i x).tim = s.tim ∧ (State.setInst s i x).net = s.net ∧
    (State.setInst s i x).trp = s.trp ∧ (State.setInst s i x).pod = s.pod ∧ (State.setInst s i x).lgc = s.lgc ∧
    (State.setInst s i x).gsv = s.gsv ∧ (State.setInst s i x).tph = s.tph ∧ (State.setInst s i x).oz = s.oz ∧
    (State.setInst s i x).sec = s.sec ∧ (State.setInst s i x).cmd = s.cmd ∧ (State.setInst s i x).regs = s.regs := by
  simp [State.setInst]

theorem State.setBay_frame (s : State) (b : ℕ) (x : BayInt) :
    (State.setBay s b x).now = s.now ∧ (State.setBay s b x).pending = s.pending ∧
    (State.setBay s b x).regs0 = s.regs0 ∧ (State.setBay s b x).freeCtr = s.freeCtr ∧
    (State.setBay s b x).mode = s.mode ∧ (State.setBay s b x).mram = s.mram ∧ (State.setBay s b x).sys = s.sys ∧
    (State.setBay s b x).evt = s.evt ∧ (State.setBay s b x).ana = s.ana ∧ (State.setBay s b x).aux = s.aux ∧
    (State.setBay s b x).flt = s.flt ∧ (State.setBay s b x).tim = s.tim ∧ (State.setBay s b x).net = s.net ∧
    (State.setBay s b x).trp = s.trp ∧ (State.setBay s b x).pod = s.pod ∧ (State.setBay s b x).lgc = s.lgc ∧
    (State.setBay s b x).gsv = s.gsv ∧ (State.setBay s b x).tph = s.tph ∧ (State.setBay s b x).oz = s.oz ∧
    (State.setBay s b x).sec = s.sec ∧ (State.setBay s b x).cmd = s.cmd ∧ (State.setBay s b x).regs = s.regs := by
  simp [State.setBay]

theorem State.publish_frame (s : State) (i : ℕ) (x : InstInt) :
    (State.publish s i x).now = s.now ∧ (State.publish s i x).pending = s.pending ∧
    (State.publish s i x).regs0 = s.regs0 ∧ (State.publish s i x).freeCtr = s.freeCtr ∧
    (State.publish s i x).mode = s.mode ∧ (State.publish s i x).mram = s.mram ∧ (State.publish s i x).sys = s.sys ∧
    (State.publish s i x).evt = s.evt ∧ (State.publish s i x).ana = s.ana ∧ (State.publish s i x).aux = s.aux ∧
    (State.publish s i x).flt = s.flt ∧ (State.publish s i x).tim = s.tim ∧ (State.publish s i x).net = s.net ∧
    (State.publish s i x).trp = s.trp ∧ (State.publish s i x).pod = s.pod ∧ (State.publish s i x).lgc = s.lgc ∧
    (State.publish s i x).gsv = s.gsv ∧ (State.publish s i x).tph = s.tph ∧ (State.publish s i x).oz = s.oz ∧
    (State.publish s i x).sec = s.sec ∧ (State.publish s i x).cmd = s.cmd := by
  have hfite := @State.ite_frame
  have hf1 := @State.setF_frame
  have hf2 := @State.incWrap_frame
  have hf3 := @State.setFlag_frame
  have hf4 := @State.setInst_frame
  simp [↓hfite, ↓hf1, ↓hf2, ↓hf3, ↓hf4, State.publish]

theorem State.holdExpired_frame (s : State) (i : ℕ) (t : Tag) :
    (State.holdExpired s i t).now = s.now ∧ (State.holdExpired s i t).pending = s.pending ∧
    (State.holdExpired s i t).regs0 = s.regs0 ∧ (State.holdExpired s i t).freeCtr = s.freeCtr ∧
    (State.holdExpired s i t).mode = s.mode ∧ (State.holdExpired s i t).mram.keyCnt = s.mram.keyCnt ∧
    (State.holdExpired s i t).mram.boot = s.mram.boot ∧ (State.holdExpired s i t).sys = s.sys ∧
    (State.holdExpired s i t).ana = s.ana ∧ (State.holdExpired s i t).aux = s.aux ∧
    (State.holdExpired s i t).flt = s.flt ∧ (State.holdExpired s i t).tim = s.tim ∧
    (State.holdExpired s i t).net = s.net ∧ (State.holdExpired s i t).prt = s.prt ∧
    (State.holdExpired s i t).trp = s.trp ∧ (State.holdExpired s i t).pod = s.pod ∧
    (State.holdExpired s i t).lgc = s.lgc ∧ (State.holdExpired s i t).gsv = s.gsv ∧
    (State.holdExpired s i t).tph = s.tph ∧ (State.holdExpired s i t).oz = s.oz ∧
    (State.holdExpired s i t).sec = s.sec ∧ (State.holdExpired s i t).cmd = s.cmd := by
  have hf1 := @State.raise_frame
  have hf2 := @State.setFlag_frame
  simp [↓hf1, ↓hf2, State.holdExpired]

theorem State.holdsExpired_frame (s : State) (i : ℕ) (l : List (Bool × Tag)) :
    (State.holdsExpired s i l).now = s.now ∧ (State.holdsExpired s i l).pending = s.pending ∧
    (State.holdsExpired s i l).regs0 = s.regs0 ∧ (State.holdsExpired s i l).freeCtr = s.freeCtr ∧
    (State.holdsExpired s i l).mode = s.mode ∧ (State.holdsExpired s i l).mram.keyCnt = s.mram.keyCnt ∧
    (State.holdsExpired s i l).mram.boot = s.mram.boot ∧ (State.holdsExpired s i l).sys = s.sys ∧
    (State.holdsExpired s i l).ana = s.ana ∧ (State.holdsExpired s i l).aux = s.aux ∧
    (State.holdsExpired s i l).flt = s.flt ∧ (State.holdsExpired s i l).tim = s.tim ∧
    (State.holdsExpired s i l).net = s.net ∧ (State.holdsExpired s i l).prt = s.prt ∧
    (State.holdsExpired s i l).trp = s.trp ∧ (State.holdsExpired s i l).pod = s.pod ∧
    (State.holdsExpired s i l).lgc = s.lgc ∧ (State.holdsExpired s i l).gsv = s.gsv ∧
    (State.holdsExpired s i l).tph = s.tph ∧ (State.holdsExpired s i l).oz = s.oz ∧
    (State.holdsExpired s i l).sec = s.sec ∧ (State.holdsExpired s i l).cmd = s.cmd := by
  have hfite := @State.ite_frame
  have hf1 := @State.holdExpired_frame
  simp [↓hfite, ↓hf1, State.holdsExpired]

theorem State.runPhases_frame (s : State) (i : ℕ) (x : InstInt) (p : ElPar) (d : ℕ) (es : List PhEval) :
    (State.runPhases s i x p d es).now = s.now ∧ (State.runPhases s i x p d es).pending = s.pending ∧
    (State.runPhases s i x p d es).regs0 = s.regs0 ∧ (State.runPhases s i x p d es).freeCtr = s.freeCtr ∧
    (State.runPhases s i x p d es).mode = s.mode ∧ (State.runPhases s i x p d es).mram.keyCnt = s.mram.keyCnt ∧
    (State.runPhases s i x p d es).mram.boot = s.mram.boot ∧ (State.runPhases s i x p d es).sys = s.sys ∧
    (State.runPhases s i x p d es).ana = s.ana ∧ (State.runPhases s i x p d es).aux = s.aux ∧
    (State.runPhases s i x p d es).flt = s.flt ∧ (State.runPhases s i x p d es).tim = s.tim ∧
    (State.runPhases s i x p d es).net = s.net ∧ (State.runPhases s i x p d es).trp = s.trp ∧
    (State.runPhases s i x p d es).pod = s.pod ∧ (State.runPhases s i x p d es).lgc = s.lgc ∧
    (State.runPhases s i x p d es).gsv = s.gsv ∧ (State.runPhases s i x p d es).tph = s.tph ∧
    (State.runPhases s i x p d es).oz = s.oz ∧ (State.runPhases s i x p d es).sec = s.sec ∧
    (State.runPhases s i x p d es).cmd = s.cmd := by
  have hfite := @State.ite_frame
  have hf1 := @State.publish_frame
  have hf2 := @State.holdsExpired_frame
  simp [↓hfite, ↓hf1, ↓hf2, State.runPhases]

theorem State.eval49_frame (s : State) (h : PhHalf) (i : ℕ) (d : ℕ) (x : InstInt) :
    (State.eval49 s h i d x).now = s.now ∧ (State.eval49 s h i d x).pending = s.pending ∧
    (State.eval49 s h i d x).regs0 = s.regs0 ∧ (State.eval49 s h i d x).freeCtr = s.freeCtr ∧
    (State.eval49 s h i d x).mode = s.mode ∧ (State.eval49 s h i d x).mram.keyCnt = s.mram.keyCnt ∧
    (State.eval49 s h i d x).mram.boot = s.mram.boot ∧ (State.eval49 s h i d x).sys = s.sys ∧
    (State.eval49 s h i d x).ana = s.ana ∧ (State.eval49 s h i d x).aux = s.aux ∧
    (State.eval49 s h i d x).flt = s.flt ∧ (State.eval49 s h i d x).tim = s.tim ∧
    (State.eval49 s h i d x).net = s.net ∧ (State.eval49 s h i d x).trp = s.trp ∧
    (State.eval49 s h i d x).pod = s.pod ∧ (State.eval49 s h i d x).lgc = s.lgc ∧
    (State.eval49 s h i d x).gsv = s.gsv ∧ (State.eval49 s h i d x).tph = s.tph ∧
    (State.eval49 s h i d x).oz = s.oz ∧ (State.eval49 s h i d x).sec = s.sec ∧ (State.eval49 s h i d x).cmd = s.cmd := by
  have hfite := @State.ite_frame
  have hf1 := @State.runPhases_frame
  have hf2 := @State.publish_frame
  simp [↓hfite, ↓hf1, ↓hf2, State.eval49]

theorem State.eval32_frame (s : State) (h : PhHalf) (i : ℕ) (d : ℕ) (x : InstInt) :
    (State.eval32 s h i d x).now = s.now ∧ (State.eval32 s h i d x).pending = s.pending ∧
    (State.eval32 s h i d x).regs0 = s.regs0 ∧ (State.eval32 s h i d x).freeCtr = s.freeCtr ∧
    (State.eval32 s h i d x).mode = s.mode ∧ (State.eval32 s h i d x).mram.keyCnt = s.mram.keyCnt ∧
    (State.eval32 s h i d x).mram.boot = s.mram.boot ∧ (State.eval32 s h i d x).sys = s.sys ∧
    (State.eval32 s h i d x).ana = s.ana ∧ (State.eval32 s h i d x).aux = s.aux ∧
    (State.eval32 s h i d x).flt = s.flt ∧ (State.eval32 s h i d x).tim = s.tim ∧
    (State.eval32 s h i d x).net = s.net ∧ (State.eval32 s h i d x).trp = s.trp ∧
    (State.eval32 s h i d x).pod = s.pod ∧ (State.eval32 s h i d x).lgc = s.lgc ∧
    (State.eval32 s h i d x).gsv = s.gsv ∧ (State.eval32 s h i d x).tph = s.tph ∧
    (State.eval32 s h i d x).oz = s.oz ∧ (State.eval32 s h i d x).sec = s.sec ∧ (State.eval32 s h i d x).cmd = s.cmd := by
  have hf1 := @State.runPhases_frame
  simp [↓hf1, State.eval32]

theorem State.keepV1_frame (s : State) (h : PhHalf) :
    (State.keepV1 s h).now = s.now ∧ (State.keepV1 s h).pending = s.pending ∧ (State.keepV1 s h).regs0 = s.regs0 ∧
    (State.keepV1 s h).freeCtr = s.freeCtr ∧ (State.keepV1 s h).mode = s.mode ∧ (State.keepV1 s h).mram = s.mram ∧
    (State.keepV1 s h).sys = s.sys ∧ (State.keepV1 s h).evt = s.evt ∧ (State.keepV1 s h).ana = s.ana ∧
    (State.keepV1 s h).aux = s.aux ∧ (State.keepV1 s h).flt = s.flt ∧ (State.keepV1 s h).tim = s.tim ∧
    (State.keepV1 s h).net = s.net ∧ (State.keepV1 s h).trp = s.trp ∧ (State.keepV1 s h).pod = s.pod ∧
    (State.keepV1 s h).lgc = s.lgc ∧ (State.keepV1 s h).gsv = s.gsv ∧ (State.keepV1 s h).tph = s.tph ∧
    (State.keepV1 s h).oz = s.oz ∧ (State.keepV1 s h).sec = s.sec ∧ (State.keepV1 s h).cmd = s.cmd ∧
    (State.keepV1 s h).regs = s.regs := by
  have hfite := @State.ite_frame
  have hf1 := @State.setInst_frame
  simp [↓hfite, ↓hf1, State.keepV1]

theorem State.evalVs_frame (s : State) (h : PhHalf) (i : ℕ) (d : ℕ) (x : InstInt) :
    (State.evalVs s h i d x).now = s.now ∧ (State.evalVs s h i d x).pending = s.pending ∧
    (State.evalVs s h i d x).regs0 = s.regs0 ∧ (State.evalVs s h i d x).freeCtr = s.freeCtr ∧
    (State.evalVs s h i d x).mode = s.mode ∧ (State.evalVs s h i d x).mram.keyCnt = s.mram.keyCnt ∧
    (State.evalVs s h i d x).mram.boot = s.mram.boot ∧ (State.evalVs s h i d x).sys = s.sys ∧
    (State.evalVs s h i d x).ana = s.ana ∧ (State.evalVs s h i d x).aux = s.aux ∧
    (State.evalVs s h i d x).flt = s.flt ∧ (State.evalVs s h i d x).tim = s.tim ∧
    (State.evalVs s h i d x).net = s.net ∧ (State.evalVs s h i d x).trp = s.trp ∧
    (State.evalVs s h i d x).pod = s.pod ∧ (State.evalVs s h i d x).lgc = s.lgc ∧
    (State.evalVs s h i d x).gsv = s.gsv ∧ (State.evalVs s h i d x).tph = s.tph ∧
    (State.evalVs s h i d x).oz = s.oz ∧ (State.evalVs s h i d x).sec = s.sec ∧ (State.evalVs s h i d x).cmd = s.cmd := by
  have hfite := @State.ite_frame
  have hf1 := @State.publish_frame
  have hf2 := @State.runPhases_frame
  simp [↓hfite, ↓hf1, ↓hf2, State.evalVs]

theorem State.evalFreq_frame (s : State) (h : PhHalf) (i : ℕ) (x : InstInt) :
    (State.evalFreq s h i x).now = s.now ∧ (State.evalFreq s h i x).pending = s.pending ∧
    (State.evalFreq s h i x).regs0 = s.regs0 ∧ (State.evalFreq s h i x).freeCtr = s.freeCtr ∧
    (State.evalFreq s h i x).mode = s.mode ∧ (State.evalFreq s h i x).mram.keyCnt = s.mram.keyCnt ∧
    (State.evalFreq s h i x).mram.boot = s.mram.boot ∧ (State.evalFreq s h i x).sys = s.sys ∧
    (State.evalFreq s h i x).ana = s.ana ∧ (State.evalFreq s h i x).aux = s.aux ∧
    (State.evalFreq s h i x).flt = s.flt ∧ (State.evalFreq s h i x).tim = s.tim ∧
    (State.evalFreq s h i x).net = s.net ∧ (State.evalFreq s h i x).trp = s.trp ∧
    (State.evalFreq s h i x).pod = s.pod ∧ (State.evalFreq s h i x).lgc = s.lgc ∧
    (State.evalFreq s h i x).gsv = s.gsv ∧ (State.evalFreq s h i x).tph = s.tph ∧
    (State.evalFreq s h i x).oz = s.oz ∧ (State.evalFreq s h i x).sec = s.sec ∧ (State.evalFreq s h i x).cmd = s.cmd := by
  have hfite := @State.ite_frame
  have hf1 := @State.publish_frame
  have hf2 := @State.runPhases_frame
  simp [↓hfite, ↓hf1, ↓hf2, State.evalFreq]

theorem State.evalInrush_frame (s : State) (h : PhHalf) (i : ℕ) (d : ℕ) (x : InstInt) :
    (State.evalInrush s h i d x).now = s.now ∧ (State.evalInrush s h i d x).pending = s.pending ∧
    (State.evalInrush s h i d x).regs0 = s.regs0 ∧ (State.evalInrush s h i d x).freeCtr = s.freeCtr ∧
    (State.evalInrush s h i d x).mode = s.mode ∧ (State.evalInrush s h i d x).mram.keyCnt = s.mram.keyCnt ∧
    (State.evalInrush s h i d x).mram.boot = s.mram.boot ∧ (State.evalInrush s h i d x).sys = s.sys ∧
    (State.evalInrush s h i d x).ana = s.ana ∧ (State.evalInrush s h i d x).aux = s.aux ∧
    (State.evalInrush s h i d x).flt = s.flt ∧ (State.evalInrush s h i d x).tim = s.tim ∧
    (State.evalInrush s h i d x).net = s.net ∧ (State.evalInrush s h i d x).trp = s.trp ∧
    (State.evalInrush s h i d x).pod = s.pod ∧ (State.evalInrush s h i d x).lgc = s.lgc ∧
    (State.evalInrush s h i d x).gsv = s.gsv ∧ (State.evalInrush s h i d x).tph = s.tph ∧
    (State.evalInrush s h i d x).oz = s.oz ∧ (State.evalInrush s h i d x).sec = s.sec ∧
    (State.evalInrush s h i d x).cmd = s.cmd := by
  have hf1 := @State.setF_frame
  have hf2 := @State.runPhases_frame
  simp [↓hf1, ↓hf2, State.evalInrush]

theorem State.clearOuter_frame (s : State) (i : ℕ) :
    (State.clearOuter s i).now = s.now ∧ (State.clearOuter s i).pending = s.pending ∧
    (State.clearOuter s i).regs0 = s.regs0 ∧ (State.clearOuter s i).freeCtr = s.freeCtr ∧
    (State.clearOuter s i).mode = s.mode ∧ (State.clearOuter s i).mram = s.mram ∧
    (State.clearOuter s i).sys = s.sys ∧ (State.clearOuter s i).evt = s.evt ∧ (State.clearOuter s i).ana = s.ana ∧
    (State.clearOuter s i).aux = s.aux ∧ (State.clearOuter s i).flt = s.flt ∧ (State.clearOuter s i).tim = s.tim ∧
    (State.clearOuter s i).net = s.net ∧ (State.clearOuter s i).trp = s.trp ∧ (State.clearOuter s i).pod = s.pod ∧
    (State.clearOuter s i).lgc = s.lgc ∧ (State.clearOuter s i).gsv = s.gsv ∧ (State.clearOuter s i).tph = s.tph ∧
    (State.clearOuter s i).oz = s.oz ∧ (State.clearOuter s i).sec = s.sec ∧ (State.clearOuter s i).cmd = s.cmd := by
  have hfite := @State.ite_frame
  have hf1 := @State.setFlag_frame
  have hf2 := @State.setF_frame
  have hf3 := @State.setBay_frame
  unfold State.clearOuter
  (repeat' split) <;> simp [↓hfite, ↓hf1, ↓hf2, ↓hf3]

theorem State.evalClp_frame (s : State) (i : ℕ) :
    (State.evalClp s i).now = s.now ∧ (State.evalClp s i).pending = s.pending ∧ (State.evalClp s i).regs0 = s.regs0 ∧
    (State.evalClp s i).freeCtr = s.freeCtr ∧ (State.evalClp s i).mode = s.mode ∧ (State.evalClp s i).mram = s.mram ∧
    (State.evalClp s i).sys = s.sys ∧ (State.evalClp s i).evt = s.evt ∧ (State.evalClp s i).ana = s.ana ∧
    (State.evalClp s i).aux = s.aux ∧ (State.evalClp s i).flt = s.flt ∧ (State.evalClp s i).tim = s.tim ∧
    (State.evalClp s i).net = s.net ∧ (State.evalClp s i).trp = s.trp ∧ (State.evalClp s i).pod = s.pod ∧
    (State.evalClp s i).lgc = s.lgc ∧ (State.evalClp s i).gsv = s.gsv ∧ (State.evalClp s i).tph = s.tph ∧
    (State.evalClp s i).oz = s.oz ∧ (State.evalClp s i).sec = s.sec ∧ (State.evalClp s i).cmd = s.cmd := by
  have hfite := @State.ite_frame
  have hf1 := @State.setBay_frame
  have hf2 := @State.publish_frame
  have hf3 := @State.setFlag_frame
  simp [↓hfite, ↓hf1, ↓hf2, ↓hf3, State.evalClp]
  (repeat' split) <;> simp [↓hfite, ↓hf1, ↓hf2, ↓hf3]

theorem State.slowEval_frame (s : State) (h : PhHalf) (tau : ℕ) (i : ℕ) :
    (State.slowEval s h tau i).now = s.now ∧ (State.slowEval s h tau i).pending = s.pending ∧
    (State.slowEval s h tau i).regs0 = s.regs0 ∧ (State.slowEval s h tau i).freeCtr = s.freeCtr ∧
    (State.slowEval s h tau i).mode = s.mode ∧ (State.slowEval s h tau i).mram.keyCnt = s.mram.keyCnt ∧
    (State.slowEval s h tau i).mram.boot = s.mram.boot ∧ (State.slowEval s h tau i).sys = s.sys ∧
    (State.slowEval s h tau i).ana = s.ana ∧ (State.slowEval s h tau i).aux = s.aux ∧
    (State.slowEval s h tau i).flt = s.flt ∧ (State.slowEval s h tau i).tim = s.tim ∧
    (State.slowEval s h tau i).net = s.net ∧ (State.slowEval s h tau i).trp = s.trp ∧
    (State.slowEval s h tau i).pod = s.pod ∧ (State.slowEval s h tau i).lgc = s.lgc ∧
    (State.slowEval s h tau i).gsv = s.gsv ∧ (State.slowEval s h tau i).tph = s.tph ∧
    (State.slowEval s h tau i).oz = s.oz ∧ (State.slowEval s h tau i).sec = s.sec ∧
    (State.slowEval s h tau i).cmd = s.cmd := by
  have hfite := @State.ite_frame
  have hf1 := @State.clearOuter_frame
  have hf2 := @State.eval49_frame
  have hf3 := @State.runPhases_frame
  have hf4 := @State.eval32_frame
  have hf5 := @State.evalVs_frame
  have hf6 := @State.publish_frame
  have hf7 := @State.evalFreq_frame
  have hf8 := @State.evalClp_frame
  have hf9 := @State.evalInrush_frame
  simp [↓hfite, ↓hf1, ↓hf2, ↓hf3, ↓hf4, ↓hf5, ↓hf6, ↓hf7, ↓hf8, ↓hf9, State.slowEval]
  (repeat' split) <;> simp [↓hfite, ↓hf1, ↓hf2, ↓hf3, ↓hf4, ↓hf5, ↓hf6, ↓hf7, ↓hf8, ↓hf9]

theorem State.setZone_frame (s : State) (z : ℕ) (x : ZoneInt) :
    (State.setZone s z x).now = s.now ∧ (State.setZone s z x).pending = s.pending ∧
    (State.setZone s z x).regs0 = s.regs0 ∧ (State.setZone s z x).freeCtr = s.freeCtr ∧
    (State.setZone s z x).mode = s.mode ∧ (State.setZone s z x).mram = s.mram ∧ (State.setZone s z x).sys = s.sys ∧
    (State.setZone s z x).evt = s.evt ∧ (State.setZone s z x).ana = s.ana ∧ (State.setZone s z x).aux = s.aux ∧
    (State.setZone s z x).flt = s.flt ∧ (State.setZone s z x).tim = s.tim ∧ (State.setZone s z x).net = s.net ∧
    (State.setZone s z x).trp = s.trp ∧ (State.setZone s z x).pod = s.pod ∧ (State.setZone s z x).lgc = s.lgc ∧
    (State.setZone s z x).gsv = s.gsv ∧ (State.setZone s z x).tph = s.tph ∧ (State.setZone s z x).oz = s.oz ∧
    (State.setZone s z x).sec = s.sec ∧ (State.setZone s z x).cmd = s.cmd := by
  have hf1 := @State.setF_frame
  simp [↓hf1, State.setZone]

theorem State.zoneAlarm_frame (s : State) (z : ℕ) :
    (State.zoneAlarm s z).now = s.now ∧ (State.zoneAlarm s z).pending = s.pending ∧
    (State.zoneAlarm s z).regs0 = s.regs0 ∧ (State.zoneAlarm s z).freeCtr = s.freeCtr ∧
    (State.zoneAlarm s z).mode = s.mode ∧ (State.zoneAlarm s z).mram.keyCnt = s.mram.keyCnt ∧
    (State.zoneAlarm s z).mram.boot = s.mram.boot ∧ (State.zoneAlarm s z).sys = s.sys ∧
    (State.zoneAlarm s z).ana = s.ana ∧ (State.zoneAlarm s z).aux = s.aux ∧ (State.zoneAlarm s z).flt = s.flt ∧
    (State.zoneAlarm s z).tim = s.tim ∧ (State.zoneAlarm s z).net = s.net ∧ (State.zoneAlarm s z).prt = s.prt ∧
    (State.zoneAlarm s z).trp = s.trp ∧ (State.zoneAlarm s z).pod = s.pod ∧ (State.zoneAlarm s z).lgc = s.lgc ∧
    (State.zoneAlarm s z).gsv = s.gsv ∧ (State.zoneAlarm s z).tph = s.tph ∧ (State.zoneAlarm s z).oz = s.oz ∧
    (State.zoneAlarm s z).sec = s.sec ∧ (State.zoneAlarm s z).cmd = s.cmd := by
  have hfite := @State.ite_frame
  have hf1 := @State.raise_frame
  have hf2 := @State.setFlag_frame
  have hf3 := @State.setZone_frame
  simp [↓hfite, ↓hf1, ↓hf2, ↓hf3, State.zoneAlarm]

theorem State.zoneBlank_frame (s : State) (z : ℕ) (m : ℕ) :
    (State.zoneBlank s z m).now = s.now ∧ (State.zoneBlank s z m).pending = s.pending ∧
    (State.zoneBlank s z m).regs0 = s.regs0 ∧ (State.zoneBlank s z m).freeCtr = s.freeCtr ∧
    (State.zoneBlank s z m).mode = s.mode ∧ (State.zoneBlank s z m).mram = s.mram ∧
    (State.zoneBlank s z m).sys = s.sys ∧ (State.zoneBlank s z m).evt = s.evt ∧ (State.zoneBlank s z m).ana = s.ana ∧
    (State.zoneBlank s z m).aux = s.aux ∧ (State.zoneBlank s z m).flt = s.flt ∧ (State.zoneBlank s z m).tim = s.tim ∧
    (State.zoneBlank s z m).net = s.net ∧ (State.zoneBlank s z m).trp = s.trp ∧ (State.zoneBlank s z m).pod = s.pod ∧
    (State.zoneBlank s z m).lgc = s.lgc ∧ (State.zoneBlank s z m).gsv = s.gsv ∧ (State.zoneBlank s z m).tph = s.tph ∧
    (State.zoneBlank s z m).oz = s.oz ∧ (State.zoneBlank s z m).sec = s.sec ∧ (State.zoneBlank s z m).cmd = s.cmd := by
  have hfite := @State.ite_frame
  have hf1 := @State.setFlag_frame
  have hf2 := @State.setZone_frame
  have hf3 := @State.setF_frame
  simp [↓hfite, ↓hf1, ↓hf2, ↓hf3, State.zoneBlank]

theorem State.zoneEval_frame (s : State) (h : PhHalf) (tau : ℕ) (z : ℕ) (chk : Option (List ZonePh)) :
    (State.zoneEval s h tau z chk).now = s.now ∧ (State.zoneEval s h tau z chk).pending = s.pending ∧
    (State.zoneEval s h tau z chk).regs0 = s.regs0 ∧ (State.zoneEval s h tau z chk).freeCtr = s.freeCtr ∧
    (State.zoneEval s h tau z chk).mode = s.mode ∧ (State.zoneEval s h tau z chk).mram.keyCnt = s.mram.keyCnt ∧
    (State.zoneEval s h tau z chk).mram.boot = s.mram.boot ∧ (State.zoneEval s h tau z chk).sys = s.sys ∧
    (State.zoneEval s h tau z chk).ana = s.ana ∧ (State.zoneEval s h tau z chk).aux = s.aux ∧
    (State.zoneEval s h tau z chk).flt = s.flt ∧ (State.zoneEval s h tau z chk).tim = s.tim ∧
    (State.zoneEval s h tau z chk).net = s.net ∧ (State.zoneEval s h tau z chk).trp = s.trp ∧
    (State.zoneEval s h tau z chk).pod = s.pod ∧ (State.zoneEval s h tau z chk).lgc = s.lgc ∧
    (State.zoneEval s h tau z chk).gsv = s.gsv ∧ (State.zoneEval s h tau z chk).tph = s.tph ∧
    (State.zoneEval s h tau z chk).oz = s.oz ∧ (State.zoneEval s h tau z chk).sec = s.sec ∧
    (State.zoneEval s h tau z chk).cmd = s.cmd := by
  have hfite := @State.ite_frame
  have hf1 := @State.setZone_frame
  have hf2 := @State.raise_frame
  have hf3 := @State.zoneBlank_frame
  have hf4 := @State.zoneAlarm_frame
  simp [↓hfite, ↓hf1, ↓hf2, ↓hf3, ↓hf4, State.zoneEval]

theorem State.evalZone_frame (s : State) (h : PhHalf) (tau : ℕ) (z : ℕ) :
    (State.evalZone s h tau z).now = s.now ∧ (State.evalZone s h tau z).pending = s.pending ∧
    (State.evalZone s h tau z).regs0 = s.regs0 ∧ (State.evalZone s h tau z).freeCtr = s.freeCtr ∧
    (State.evalZone s h tau z).mode = s.mode ∧ (State.evalZone s h tau z).mram.keyCnt = s.mram.keyCnt ∧
    (State.evalZone s h tau z).mram.boot = s.mram.boot ∧ (State.evalZone s h tau z).sys = s.sys ∧
    (State.evalZone s h tau z).ana = s.ana ∧ (State.evalZone s h tau z).aux = s.aux ∧
    (State.evalZone s h tau z).flt = s.flt ∧ (State.evalZone s h tau z).tim = s.tim ∧
    (State.evalZone s h tau z).net = s.net ∧ (State.evalZone s h tau z).trp = s.trp ∧
    (State.evalZone s h tau z).pod = s.pod ∧ (State.evalZone s h tau z).lgc = s.lgc ∧
    (State.evalZone s h tau z).gsv = s.gsv ∧ (State.evalZone s h tau z).tph = s.tph ∧
    (State.evalZone s h tau z).oz = s.oz ∧ (State.evalZone s h tau z).sec = s.sec ∧
    (State.evalZone s h tau z).cmd = s.cmd := by
  have hfite := @State.ite_frame
  have hf1 := @State.zoneEval_frame
  simp [↓hfite, ↓hf1, State.evalZone]

end Sys2Proof.Machine
end

