-- ==== Sys2Proof/Laws/FrameProtection.lean ====
section
/-!
SUPPORT. What the operations of Machine/Protection.lean leave as it was: one lemma per operation, over the parts of the state.
-/
set_option linter.all false
set_option Elab.async false
namespace Sys2Proof.Machine
theorem State.takeGroup_frame (s : State) (b : ℕ) :
    (State.takeGroup s b).now = s.now ∧ (State.takeGroup s b).pending = s.pending ∧
    (State.takeGroup s b).regs0 = s.regs0 ∧ (State.takeGroup s b).freeCtr = s.freeCtr ∧
    (State.takeGroup s b).mode = s.mode ∧ (State.takeGroup s b).mram.keyCnt = s.mram.keyCnt ∧
    (State.takeGroup s b).mram.boot = s.mram.boot ∧ (State.takeGroup s b).sys = s.sys ∧
    (State.takeGroup s b).ana = s.ana ∧ (State.takeGroup s b).aux = s.aux ∧ (State.takeGroup s b).flt = s.flt ∧
    (State.takeGroup s b).tim = s.tim ∧ (State.takeGroup s b).net = s.net ∧ (State.takeGroup s b).trp = s.trp ∧
    (State.takeGroup s b).pod = s.pod ∧ (State.takeGroup s b).lgc = s.lgc ∧ (State.takeGroup s b).gsv = s.gsv ∧
    (State.takeGroup s b).tph = s.tph ∧ (State.takeGroup s b).oz = s.oz ∧ (State.takeGroup s b).sec = s.sec ∧
    (State.takeGroup s b).cmd = s.cmd := by
  have hfite := @State.ite_frame
  have hf1 := @State.setFlag_frame
  have hf2 := @State.setBay_frame
  have hf3 := @State.raise_frame
  have hf4 := @State.incWrap_frame
  have hf5 := @State.setF_frame
  unfold State.takeGroup
  (repeat' split) <;> simp [↓hfite, ↓hf1, ↓hf2, ↓hf3, ↓hf4, ↓hf5]

theorem groupChangeEffectEff_frame (b : ℕ) (s : State) :
    (groupChangeEffectEff b s).now = s.now ∧ (groupChangeEffectEff b s).pending = s.pending ∧
    (groupChangeEffectEff b s).regs0 = s.regs0 ∧ (groupChangeEffectEff b s).freeCtr = s.freeCtr ∧
    (groupChangeEffectEff b s).mode = s.mode ∧ (groupChangeEffectEff b s).mram.keyCnt = s.mram.keyCnt ∧
    (groupChangeEffectEff b s).mram.boot = s.mram.boot ∧ (groupChangeEffectEff b s).sys = s.sys ∧
    (groupChangeEffectEff b s).ana = s.ana ∧ (groupChangeEffectEff b s).aux = s.aux ∧
    (groupChangeEffectEff b s).flt = s.flt ∧ (groupChangeEffectEff b s).tim = s.tim ∧
    (groupChangeEffectEff b s).net = s.net ∧ (groupChangeEffectEff b s).trp = s.trp ∧
    (groupChangeEffectEff b s).pod = s.pod ∧ (groupChangeEffectEff b s).lgc = s.lgc ∧
    (groupChangeEffectEff b s).gsv = s.gsv ∧ (groupChangeEffectEff b s).tph = s.tph ∧
    (groupChangeEffectEff b s).oz = s.oz ∧ (groupChangeEffectEff b s).sec = s.sec ∧
    (groupChangeEffectEff b s).cmd = s.cmd := by
  have hfite := @State.ite_frame
  have hf1 := @State.takeGroup_frame
  simp [↓hfite, ↓hf1, groupChangeEffectEff]

theorem State.requestGroup_frame (s : State) (b : ℕ) (g : ℕ) :
    (State.requestGroup s b g).now = s.now ∧ (State.requestGroup s b g).pending = s.pending ∧
    (State.requestGroup s b g).regs0 = s.regs0 ∧ (State.requestGroup s b g).freeCtr = s.freeCtr ∧
    (State.requestGroup s b g).mode = s.mode ∧ (State.requestGroup s b g).mram = s.mram ∧
    (State.requestGroup s b g).sys = s.sys ∧ (State.requestGroup s b g).evt = s.evt ∧
    (State.requestGroup s b g).ana = s.ana ∧ (State.requestGroup s b g).aux = s.aux ∧
    (State.requestGroup s b g).flt = s.flt ∧ (State.requestGroup s b g).tim = s.tim ∧
    (State.requestGroup s b g).net = s.net ∧ (State.requestGroup s b g).trp = s.trp ∧
    (State.requestGroup s b g).pod = s.pod ∧ (State.requestGroup s b g).lgc = s.lgc ∧
    (State.requestGroup s b g).gsv = s.gsv ∧ (State.requestGroup s b g).tph = s.tph ∧
    (State.requestGroup s b g).oz = s.oz ∧ (State.requestGroup s b g).sec = s.sec ∧
    (State.requestGroup s b g).cmd = s.cmd := by
  have hfite := @State.ite_frame
  have hf1 := @State.setFlag_frame
  have hf2 := @State.setBay_frame
  simp [↓hfite, ↓hf1, ↓hf2, State.requestGroup]

theorem State.logicGroups_frame (s : State) :
    (State.logicGroups s).now = s.now ∧ (State.logicGroups s).pending = s.pending ∧
    (State.logicGroups s).regs0 = s.regs0 ∧ (State.logicGroups s).freeCtr = s.freeCtr ∧
    (State.logicGroups s).mode = s.mode ∧ (State.logicGroups s).mram = s.mram ∧ (State.logicGroups s).sys = s.sys ∧
    (State.logicGroups s).evt = s.evt ∧ (State.logicGroups s).ana = s.ana ∧ (State.logicGroups s).aux = s.aux ∧
    (State.logicGroups s).flt = s.flt ∧ (State.logicGroups s).tim = s.tim ∧ (State.logicGroups s).net = s.net ∧
    (State.logicGroups s).trp = s.trp ∧ (State.logicGroups s).pod = s.pod ∧ (State.logicGroups s).lgc = s.lgc ∧
    (State.logicGroups s).gsv = s.gsv ∧ (State.logicGroups s).tph = s.tph ∧ (State.logicGroups s).oz = s.oz ∧
    (State.logicGroups s).sec = s.sec ∧ (State.logicGroups s).cmd = s.cmd := by
  have hfite := @State.ite_frame
  have hf1 := @State.requestGroup_frame
  unfold State.logicGroups
  (repeat' split) <;> first | (simp [↓hfite, ↓hf1]; done) | exact ⟨foldl_now _ _ _ (fun s x => by (try dsimp only); (repeat' split) <;> simp [↓hfite, ↓hf1]), foldl_pending _ _ _ (fun s x => by (try dsimp only); (repeat' split) <;> simp [↓hfite, ↓hf1]), foldl_regs0 _ _ _ (fun s x => by (try dsimp only); (repeat' split) <;> simp [↓hfite, ↓hf1]), foldl_freeCtr _ _ _ (fun s x => by (try dsimp only); (repeat' split) <;> simp [↓hfite, ↓hf1]), foldl_mode _ _ _ (fun s x => by (try dsimp only); (repeat' split) <;> simp [↓hfite, ↓hf1]), foldl_mram _ _ _ (fun s x => by (try dsimp only); (repeat' split) <;> simp [↓hfite, ↓hf1]), foldl_sys _ _ _ (fun s x => by (try dsimp only); (repeat' split) <;> simp [↓hfite, ↓hf1]), foldl_evt _ _ _ (fun s x => by (try dsimp only); (repeat' split) <;> simp [↓hfite, ↓hf1]), foldl_ana _ _ _ (fun s x => by (try dsimp only); (repeat' split) <;> simp [↓hfite, ↓hf1]), foldl_aux _ _ _ (fun s x => by (try dsimp only); (repeat' split) <;> simp [↓hfite, ↓hf1]), foldl_flt _ _ _ (fun s x => by (try dsimp only); (repeat' split) <;> simp [↓hfite, ↓hf1]), foldl_tim _ _ _ (fun s x => by (try dsimp only); (repeat' split) <;> simp [↓hfite, ↓hf1]), foldl_net _ _ _ (fun s x => by (try dsimp only); (repeat' split) <;> simp [↓hfite, ↓hf1]), foldl_trp _ _ _ (fun s x => by (try dsimp only); (repeat' split) <;> simp [↓hfite, ↓hf1]), foldl_pod _ _ _ (fun s x => by (try dsimp only); (repeat' split) <;> simp [↓hfite, ↓hf1]), foldl_lgc _ _ _ (fun s x => by (try dsimp only); (repeat' split) <;> simp [↓hfite, ↓hf1]), foldl_gsv _ _ _ (fun s x => by (try dsimp only); (repeat' split) <;> simp [↓hfite, ↓hf1]), foldl_tph _ _ _ (fun s x => by (try dsimp only); (repeat' split) <;> simp [↓hfite, ↓hf1]), foldl_oz _ _ _ (fun s x => by (try dsimp only); (repeat' split) <;> simp [↓hfite, ↓hf1]), foldl_sec _ _ _ (fun s x => by (try dsimp only); (repeat' split) <;> simp [↓hfite, ↓hf1]), foldl_cmd _ _ _ (fun s x => by (try dsimp only); (repeat' split) <;> simp [↓hfite, ↓hf1])⟩

theorem State.clearSurge_frame (s : State) (i : ℕ) :
    (State.clearSurge s i).now = s.now ∧ (State.clearSurge s i).pending = s.pending ∧
    (State.clearSurge s i).regs0 = s.regs0 ∧ (State.clearSurge s i).freeCtr = s.freeCtr ∧
    (State.clearSurge s i).mode = s.mode ∧ (State.clearSurge s i).mram = s.mram ∧
    (State.clearSurge s i).sys = s.sys ∧ (State.clearSurge s i).evt = s.evt ∧ (State.clearSurge s i).ana = s.ana ∧
    (State.clearSurge s i).aux = s.aux ∧ (State.clearSurge s i).flt = s.flt ∧ (State.clearSurge s i).tim = s.tim ∧
    (State.clearSurge s i).net = s.net ∧ (State.clearSurge s i).trp = s.trp ∧ (State.clearSurge s i).pod = s.pod ∧
    (State.clearSurge s i).lgc = s.lgc ∧ (State.clearSurge s i).gsv = s.gsv ∧ (State.clearSurge s i).tph = s.tph ∧
    (State.clearSurge s i).oz = s.oz ∧ (State.clearSurge s i).sec = s.sec ∧ (State.clearSurge s i).cmd = s.cmd := by
  have hfite := @State.ite_frame
  have hf1 := @State.setFlag_frame
  have hf2 := @State.setBay_frame
  simp [↓hfite, ↓hf1, ↓hf2, State.clearSurge]

theorem State.takeSettings_frame (s : State) (i : ℕ) :
    (State.takeSettings s i).now = s.now ∧ (State.takeSettings s i).pending = s.pending ∧
    (State.takeSettings s i).regs0 = s.regs0 ∧ (State.takeSettings s i).freeCtr = s.freeCtr ∧
    (State.takeSettings s i).mode = s.mode ∧ (State.takeSettings s i).mram = s.mram ∧
    (State.takeSettings s i).sys = s.sys ∧ (State.takeSettings s i).evt = s.evt ∧
    (State.takeSettings s i).ana = s.ana ∧ (State.takeSettings s i).aux = s.aux ∧
    (State.takeSettings s i).flt = s.flt ∧ (State.takeSettings s i).tim = s.tim ∧
    (State.takeSettings s i).net = s.net ∧ (State.takeSettings s i).trp = s.trp ∧
    (State.takeSettings s i).pod = s.pod ∧ (State.takeSettings s i).lgc = s.lgc ∧
    (State.takeSettings s i).gsv = s.gsv ∧ (State.takeSettings s i).tph = s.tph ∧
    (State.takeSettings s i).oz = s.oz ∧ (State.takeSettings s i).sec = s.sec ∧ (State.takeSettings s i).cmd = s.cmd := by
  have hfite := @State.ite_frame
  have hf1 := @State.clearOuter_frame
  have hf2 := @State.wr_frame
  have hf3 := @State.publish_frame
  have hf4 := @State.clearSurge_frame
  simp [↓hfite, ↓hf1, ↓hf2, ↓hf3, ↓hf4, State.takeSettings]

theorem settingWriteEffectEff_frame (i : ℕ) (s : State) :
    (settingWriteEffectEff i s).now = s.now ∧ (settingWriteEffectEff i s).pending = s.pending ∧
    (settingWriteEffectEff i s).regs0 = s.regs0 ∧ (settingWriteEffectEff i s).freeCtr = s.freeCtr ∧
    (settingWriteEffectEff i s).mode = s.mode ∧ (settingWriteEffectEff i s).mram = s.mram ∧
    (settingWriteEffectEff i s).sys = s.sys ∧ (settingWriteEffectEff i s).evt = s.evt ∧
    (settingWriteEffectEff i s).ana = s.ana ∧ (settingWriteEffectEff i s).aux = s.aux ∧
    (settingWriteEffectEff i s).flt = s.flt ∧ (settingWriteEffectEff i s).tim = s.tim ∧
    (settingWriteEffectEff i s).net = s.net ∧ (settingWriteEffectEff i s).trp = s.trp ∧
    (settingWriteEffectEff i s).pod = s.pod ∧ (settingWriteEffectEff i s).lgc = s.lgc ∧
    (settingWriteEffectEff i s).gsv = s.gsv ∧ (settingWriteEffectEff i s).tph = s.tph ∧
    (settingWriteEffectEff i s).oz = s.oz ∧ (settingWriteEffectEff i s).sec = s.sec ∧
    (settingWriteEffectEff i s).cmd = s.cmd := by
  have hfite := @State.ite_frame
  have hf1 := @State.takeSettings_frame
  simp [↓hfite, ↓hf1, settingWriteEffectEff]

theorem State.evalFast_frame (s : State) (i : ℕ) :
    (State.evalFast s i).now = s.now ∧ (State.evalFast s i).pending = s.pending ∧
    (State.evalFast s i).regs0 = s.regs0 ∧ (State.evalFast s i).freeCtr = s.freeCtr ∧
    (State.evalFast s i).mode = s.mode ∧ (State.evalFast s i).mram.keyCnt = s.mram.keyCnt ∧
    (State.evalFast s i).mram.boot = s.mram.boot ∧ (State.evalFast s i).sys = s.sys ∧
    (State.evalFast s i).ana = s.ana ∧ (State.evalFast s i).aux = s.aux ∧ (State.evalFast s i).flt = s.flt ∧
    (State.evalFast s i).tim = s.tim ∧ (State.evalFast s i).net = s.net ∧ (State.evalFast s i).trp = s.trp ∧
    (State.evalFast s i).pod = s.pod ∧ (State.evalFast s i).lgc = s.lgc ∧ (State.evalFast s i).gsv = s.gsv ∧
    (State.evalFast s i).tph = s.tph ∧ (State.evalFast s i).oz = s.oz ∧ (State.evalFast s i).sec = s.sec ∧
    (State.evalFast s i).cmd = s.cmd := by
  have hfite := @State.ite_frame
  have hf1 := @State.publish_frame
  have hf2 := @State.holdsExpired_frame
  simp [↓hfite, ↓hf1, ↓hf2, State.evalFast]

theorem State.evalBf_frame (s : State) (i : ℕ) :
    (State.evalBf s i).now = s.now ∧ (State.evalBf s i).pending = s.pending ∧ (State.evalBf s i).regs0 = s.regs0 ∧
    (State.evalBf s i).freeCtr = s.freeCtr ∧ (State.evalBf s i).mode = s.mode ∧
    (State.evalBf s i).mram.keyCnt = s.mram.keyCnt ∧ (State.evalBf s i).mram.boot = s.mram.boot ∧
    (State.evalBf s i).sys = s.sys ∧ (State.evalBf s i).ana = s.ana ∧ (State.evalBf s i).aux = s.aux ∧
    (State.evalBf s i).flt = s.flt ∧ (State.evalBf s i).tim = s.tim ∧ (State.evalBf s i).net = s.net ∧
    (State.evalBf s i).trp = s.trp ∧ (State.evalBf s i).pod = s.pod ∧ (State.evalBf s i).lgc = s.lgc ∧
    (State.evalBf s i).gsv = s.gsv ∧ (State.evalBf s i).tph = s.tph ∧ (State.evalBf s i).oz = s.oz ∧
    (State.evalBf s i).sec = s.sec ∧ (State.evalBf s i).cmd = s.cmd := by
  have hfite := @State.ite_frame
  have hf1 := @State.publish_frame
  have hf2 := @State.holdExpired_frame
  simp [↓hfite, ↓hf1, ↓hf2, State.evalBf]

theorem State.readBreakers_frame (s : State) :
    (State.readBreakers s).now = s.now ∧ (State.readBreakers s).pending = s.pending ∧
    (State.readBreakers s).regs0 = s.regs0 ∧ (State.readBreakers s).freeCtr = s.freeCtr ∧
    (State.readBreakers s).mode = s.mode ∧ (State.readBreakers s).mram = s.mram ∧
    (State.readBreakers s).sys = s.sys ∧ (State.readBreakers s).evt = s.evt ∧ (State.readBreakers s).ana = s.ana ∧
    (State.readBreakers s).aux = s.aux ∧ (State.readBreakers s).flt = s.flt ∧ (State.readBreakers s).tim = s.tim ∧
    (State.readBreakers s).net = s.net ∧ (State.readBreakers s).prt = s.prt ∧ (State.readBreakers s).trp = s.trp ∧
    (State.readBreakers s).pod = s.pod ∧ (State.readBreakers s).lgc = s.lgc ∧ (State.readBreakers s).gsv = s.gsv ∧
    (State.readBreakers s).tph = s.tph ∧ (State.readBreakers s).oz = s.oz ∧ (State.readBreakers s).sec = s.sec ∧
    (State.readBreakers s).cmd = s.cmd := by
  have hfite := @State.ite_frame
  have hf1 := @State.setFlag_frame
  simp [↓hfite, ↓hf1, State.readBreakers]

theorem State.setSlow_frame (s : State) (p : ℕ) (x : SlowPod) :
    (State.setSlow s p x).now = s.now ∧ (State.setSlow s p x).pending = s.pending ∧
    (State.setSlow s p x).regs0 = s.regs0 ∧ (State.setSlow s p x).freeCtr = s.freeCtr ∧
    (State.setSlow s p x).mode = s.mode ∧ (State.setSlow s p x).mram = s.mram ∧ (State.setSlow s p x).sys = s.sys ∧
    (State.setSlow s p x).evt = s.evt ∧ (State.setSlow s p x).ana = s.ana ∧ (State.setSlow s p x).aux = s.aux ∧
    (State.setSlow s p x).flt = s.flt ∧ (State.setSlow s p x).tim = s.tim ∧ (State.setSlow s p x).net = s.net ∧
    (State.setSlow s p x).trp = s.trp ∧ (State.setSlow s p x).pod = s.pod ∧ (State.setSlow s p x).lgc = s.lgc ∧
    (State.setSlow s p x).gsv = s.gsv ∧ (State.setSlow s p x).tph = s.tph ∧ (State.setSlow s p x).oz = s.oz ∧
    (State.setSlow s p x).sec = s.sec ∧ (State.setSlow s p x).cmd = s.cmd ∧ (State.setSlow s p x).regs = s.regs := by
  simp [State.setSlow]

theorem State.slowLate_frame (s : State) :
    (State.slowLate s).now = s.now ∧ (State.slowLate s).pending = s.pending ∧ (State.slowLate s).regs0 = s.regs0 ∧
    (State.slowLate s).freeCtr = s.freeCtr ∧ (State.slowLate s).mode = s.mode ∧
    (State.slowLate s).mram.keyCnt = s.mram.keyCnt ∧ (State.slowLate s).mram.boot = s.mram.boot ∧
    (State.slowLate s).sys = s.sys ∧ (State.slowLate s).ana = s.ana ∧ (State.slowLate s).aux = s.aux ∧
    (State.slowLate s).flt = s.flt ∧ (State.slowLate s).tim = s.tim ∧ (State.slowLate s).net = s.net ∧
    (State.slowLate s).prt = s.prt ∧ (State.slowLate s).trp = s.trp ∧ (State.slowLate s).pod = s.pod ∧
    (State.slowLate s).lgc = s.lgc ∧ (State.slowLate s).gsv = s.gsv ∧ (State.slowLate s).tph = s.tph ∧
    (State.slowLate s).oz = s.oz ∧ (State.slowLate s).sec = s.sec ∧ (State.slowLate s).cmd = s.cmd := by
  have hfite := @State.ite_frame
  have hf1 := @State.raise_frame
  have hf2 := @State.incSat_frame
  simp [↓hfite, ↓hf1, ↓hf2, State.slowLate]

theorem State.slowEntry_frame (s : State) (h : PhHalf) (tau : ℕ) (e : ℕ) :
    (State.slowEntry s h tau e).now = s.now ∧ (State.slowEntry s h tau e).pending = s.pending ∧
    (State.slowEntry s h tau e).regs0 = s.regs0 ∧ (State.slowEntry s h tau e).freeCtr = s.freeCtr ∧
    (State.slowEntry s h tau e).mode = s.mode ∧ (State.slowEntry s h tau e).mram.keyCnt = s.mram.keyCnt ∧
    (State.slowEntry s h tau e).mram.boot = s.mram.boot ∧ (State.slowEntry s h tau e).sys = s.sys ∧
    (State.slowEntry s h tau e).ana = s.ana ∧ (State.slowEntry s h tau e).aux = s.aux ∧
    (State.slowEntry s h tau e).flt = s.flt ∧ (State.slowEntry s h tau e).tim = s.tim ∧
    (State.slowEntry s h tau e).net = s.net ∧ (State.slowEntry s h tau e).trp = s.trp ∧
    (State.slowEntry s h tau e).pod = s.pod ∧ (State.slowEntry s h tau e).lgc = s.lgc ∧
    (State.slowEntry s h tau e).gsv = s.gsv ∧ (State.slowEntry s h tau e).tph = s.tph ∧
    (State.slowEntry s h tau e).oz = s.oz ∧ (State.slowEntry s h tau e).sec = s.sec ∧
    (State.slowEntry s h tau e).cmd = s.cmd := by
  have hfite := @State.ite_frame
  have hf1 := @State.slowEval_frame
  have hf2 := @State.evalZone_frame
  simp [↓hfite, ↓hf1, ↓hf2, State.slowEntry]

theorem State.slowTo_frame (s : State) (p : ℕ) (t : ℕ) :
    (State.slowTo s p t).now = s.now ∧ (State.slowTo s p t).pending = s.pending ∧
    (State.slowTo s p t).regs0 = s.regs0 ∧ (State.slowTo s p t).freeCtr = s.freeCtr ∧
    (State.slowTo s p t).mode = s.mode ∧ (State.slowTo s p t).mram.keyCnt = s.mram.keyCnt ∧
    (State.slowTo s p t).mram.boot = s.mram.boot ∧ (State.slowTo s p t).sys = s.sys ∧
    (State.slowTo s p t).ana = s.ana ∧ (State.slowTo s p t).aux = s.aux ∧ (State.slowTo s p t).flt = s.flt ∧
    (State.slowTo s p t).tim = s.tim ∧ (State.slowTo s p t).net = s.net ∧ (State.slowTo s p t).trp = s.trp ∧
    (State.slowTo s p t).pod = s.pod ∧ (State.slowTo s p t).lgc = s.lgc ∧ (State.slowTo s p t).gsv = s.gsv ∧
    (State.slowTo s p t).tph = s.tph ∧ (State.slowTo s p t).oz = s.oz ∧ (State.slowTo s p t).sec = s.sec ∧
    (State.slowTo s p t).cmd = s.cmd := by
  have hfite := @State.ite_frame
  have hf1 := @State.slowEntry_frame
  have hf2 := @State.setSlow_frame
  simp [↓hfite, ↓hf1, ↓hf2, State.slowTo]
  (repeat' split) <;> simp [↓hfite, ↓hf1, ↓hf2]

theorem State.ahead_frame (s : State) :
    (State.ahead s).now = s.now ∧ (State.ahead s).pending = s.pending ∧ (State.ahead s).regs0 = s.regs0 ∧
    (State.ahead s).freeCtr = s.freeCtr ∧ (State.ahead s).mode = s.mode ∧
    (State.ahead s).mram.keyCnt = s.mram.keyCnt ∧ (State.ahead s).mram.boot = s.mram.boot ∧
    (State.ahead s).sys = s.sys ∧ (State.ahead s).ana = s.ana ∧ (State.ahead s).aux = s.aux ∧
    (State.ahead s).flt = s.flt ∧ (State.ahead s).tim = s.tim ∧ (State.ahead s).net = s.net ∧
    (State.ahead s).trp = s.trp ∧ (State.ahead s).pod = s.pod ∧ (State.ahead s).lgc = s.lgc ∧
    (State.ahead s).gsv = s.gsv ∧ (State.ahead s).tph = s.tph ∧ (State.ahead s).oz = s.oz ∧
    (State.ahead s).sec = s.sec ∧ (State.ahead s).cmd = s.cmd := by
  have hfite := @State.ite_frame
  have hf1 := @State.slowTo_frame
  simp [↓hfite, ↓hf1, State.ahead]

theorem State.slowTrim_frame (s : State) (p : ℕ) :
    (State.slowTrim s p).now = s.now ∧ (State.slowTrim s p).pending = s.pending ∧
    (State.slowTrim s p).regs0 = s.regs0 ∧ (State.slowTrim s p).freeCtr = s.freeCtr ∧
    (State.slowTrim s p).mode = s.mode ∧ (State.slowTrim s p).mram.keyCnt = s.mram.keyCnt ∧
    (State.slowTrim s p).mram.boot = s.mram.boot ∧ (State.slowTrim s p).sys = s.sys ∧
    (State.slowTrim s p).ana = s.ana ∧ (State.slowTrim s p).aux = s.aux ∧ (State.slowTrim s p).flt = s.flt ∧
    (State.slowTrim s p).tim = s.tim ∧ (State.slowTrim s p).net = s.net ∧ (State.slowTrim s p).trp = s.trp ∧
    (State.slowTrim s p).pod = s.pod ∧ (State.slowTrim s p).lgc = s.lgc ∧ (State.slowTrim s p).gsv = s.gsv ∧
    (State.slowTrim s p).tph = s.tph ∧ (State.slowTrim s p).oz = s.oz ∧ (State.slowTrim s p).sec = s.sec ∧
    (State.slowTrim s p).cmd = s.cmd := by
  have hfite := @State.ite_frame
  have hf1 := @State.incSat_frame
  have hf2 := @State.setSlow_frame
  have hf3 := @State.slowTo_frame
  simp [↓hfite, ↓hf1, ↓hf2, ↓hf3, State.slowTrim]

theorem slowListStartEff_frame (p : ℕ) (cycles : ℕ) (ends : List ℕ) (s : State) :
    (slowListStartEff p cycles ends s).now = s.now ∧ (slowListStartEff p cycles ends s).pending = s.pending ∧
    (slowListStartEff p cycles ends s).regs0 = s.regs0 ∧ (slowListStartEff p cycles ends s).freeCtr = s.freeCtr ∧
    (slowListStartEff p cycles ends s).mode = s.mode ∧
    (slowListStartEff p cycles ends s).mram.keyCnt = s.mram.keyCnt ∧
    (slowListStartEff p cycles ends s).mram.boot = s.mram.boot ∧ (slowListStartEff p cycles ends s).sys = s.sys ∧
    (slowListStartEff p cycles ends s).ana = s.ana ∧ (slowListStartEff p cycles ends s).aux = s.aux ∧
    (slowListStartEff p cycles ends s).flt = s.flt ∧ (slowListStartEff p cycles ends s).tim = s.tim ∧
    (slowListStartEff p cycles ends s).net = s.net ∧ (slowListStartEff p cycles ends s).trp = s.trp ∧
    (slowListStartEff p cycles ends s).pod = s.pod ∧ (slowListStartEff p cycles ends s).lgc = s.lgc ∧
    (slowListStartEff p cycles ends s).gsv = s.gsv ∧ (slowListStartEff p cycles ends s).tph = s.tph ∧
    (slowListStartEff p cycles ends s).oz = s.oz ∧ (slowListStartEff p cycles ends s).sec = s.sec ∧
    (slowListStartEff p cycles ends s).cmd = s.cmd := by
  have hfite := @State.ite_frame
  have hf1 := @State.takeSettings_frame
  have hf2 := @State.setF_frame
  have hf3 := @State.slowTrim_frame
  have hf4 := @State.takeGroup_frame
  have hf5 := @State.setSlow_frame
  simp [↓hfite, ↓hf1, ↓hf2, ↓hf3, ↓hf4, ↓hf5, slowListStartEff]

theorem slowListAbandonEff_frame (p : ℕ) (s : State) :
    (slowListAbandonEff p s).now = s.now ∧ (slowListAbandonEff p s).pending = s.pending ∧
    (slowListAbandonEff p s).regs0 = s.regs0 ∧ (slowListAbandonEff p s).freeCtr = s.freeCtr ∧
    (slowListAbandonEff p s).mode = s.mode ∧ (slowListAbandonEff p s).mram.keyCnt = s.mram.keyCnt ∧
    (slowListAbandonEff p s).mram.boot = s.mram.boot ∧ (slowListAbandonEff p s).sys = s.sys ∧
    (slowListAbandonEff p s).ana = s.ana ∧ (slowListAbandonEff p s).aux = s.aux ∧
    (slowListAbandonEff p s).flt = s.flt ∧ (slowListAbandonEff p s).tim = s.tim ∧
    (slowListAbandonEff p s).net = s.net ∧ (slowListAbandonEff p s).trp = s.trp ∧
    (slowListAbandonEff p s).pod = s.pod ∧ (slowListAbandonEff p s).lgc = s.lgc ∧
    (slowListAbandonEff p s).gsv = s.gsv ∧ (slowListAbandonEff p s).tph = s.tph ∧
    (slowListAbandonEff p s).oz = s.oz ∧ (slowListAbandonEff p s).sec = s.sec ∧ (slowListAbandonEff p s).cmd = s.cmd := by
  have hfite := @State.ite_frame
  have hf1 := @State.slowTrim_frame
  simp [↓hfite, ↓hf1, slowListAbandonEff]

theorem State.phaseEvent_frame (s : State) (i : ℕ) (k : ℕ) (f : PhaseInt → PhaseInt) :
    (State.phaseEvent s i k f).now = s.now ∧ (State.phaseEvent s i k f).pending = s.pending ∧
    (State.phaseEvent s i k f).regs0 = s.regs0 ∧ (State.phaseEvent s i k f).freeCtr = s.freeCtr ∧
    (State.phaseEvent s i k f).mode = s.mode ∧ (State.phaseEvent s i k f).mram = s.mram ∧
    (State.phaseEvent s i k f).sys = s.sys ∧ (State.phaseEvent s i k f).evt = s.evt ∧
    (State.phaseEvent s i k f).ana = s.ana ∧ (State.phaseEvent s i k f).aux = s.aux ∧
    (State.phaseEvent s i k f).flt = s.flt ∧ (State.phaseEvent s i k f).tim = s.tim ∧
    (State.phaseEvent s i k f).net = s.net ∧ (State.phaseEvent s i k f).trp = s.trp ∧
    (State.phaseEvent s i k f).pod = s.pod ∧ (State.phaseEvent s i k f).lgc = s.lgc ∧
    (State.phaseEvent s i k f).gsv = s.gsv ∧ (State.phaseEvent s i k f).tph = s.tph ∧
    (State.phaseEvent s i k f).oz = s.oz ∧ (State.phaseEvent s i k f).sec = s.sec ∧
    (State.phaseEvent s i k f).cmd = s.cmd := by
  have hf1 := @State.publish_frame
  simp [↓hf1, State.phaseEvent]

theorem definiteTimeExpiryEff_frame (i : ℕ) (k : ℕ) (s : State) :
    (definiteTimeExpiryEff i k s).now = s.now ∧ (definiteTimeExpiryEff i k s).pending = s.pending ∧
    (definiteTimeExpiryEff i k s).regs0 = s.regs0 ∧ (definiteTimeExpiryEff i k s).freeCtr = s.freeCtr ∧
    (definiteTimeExpiryEff i k s).mode = s.mode ∧ (definiteTimeExpiryEff i k s).mram = s.mram ∧
    (definiteTimeExpiryEff i k s).sys = s.sys ∧ (definiteTimeExpiryEff i k s).evt = s.evt ∧
    (definiteTimeExpiryEff i k s).ana = s.ana ∧ (definiteTimeExpiryEff i k s).aux = s.aux ∧
    (definiteTimeExpiryEff i k s).flt = s.flt ∧ (definiteTimeExpiryEff i k s).tim = s.tim ∧
    (definiteTimeExpiryEff i k s).net = s.net ∧ (definiteTimeExpiryEff i k s).trp = s.trp ∧
    (definiteTimeExpiryEff i k s).pod = s.pod ∧ (definiteTimeExpiryEff i k s).lgc = s.lgc ∧
    (definiteTimeExpiryEff i k s).gsv = s.gsv ∧ (definiteTimeExpiryEff i k s).tph = s.tph ∧
    (definiteTimeExpiryEff i k s).oz = s.oz ∧ (definiteTimeExpiryEff i k s).sec = s.sec ∧
    (definiteTimeExpiryEff i k s).cmd = s.cmd := by
  have hfite := @State.ite_frame
  have hf1 := @State.phaseEvent_frame
  simp [↓hfite, ↓hf1, definiteTimeExpiryEff]

theorem inverseTimeOperateEff_frame (i : ℕ) (k : ℕ) (s : State) :
    (inverseTimeOperateEff i k s).now = s.now ∧ (inverseTimeOperateEff i k s).pending = s.pending ∧
    (inverseTimeOperateEff i k s).regs0 = s.regs0 ∧ (inverseTimeOperateEff i k s).freeCtr = s.freeCtr ∧
    (inverseTimeOperateEff i k s).mode = s.mode ∧ (inverseTimeOperateEff i k s).mram = s.mram ∧
    (inverseTimeOperateEff i k s).sys = s.sys ∧ (inverseTimeOperateEff i k s).evt = s.evt ∧
    (inverseTimeOperateEff i k s).ana = s.ana ∧ (inverseTimeOperateEff i k s).aux = s.aux ∧
    (inverseTimeOperateEff i k s).flt = s.flt ∧ (inverseTimeOperateEff i k s).tim = s.tim ∧
    (inverseTimeOperateEff i k s).net = s.net ∧ (inverseTimeOperateEff i k s).trp = s.trp ∧
    (inverseTimeOperateEff i k s).pod = s.pod ∧ (inverseTimeOperateEff i k s).lgc = s.lgc ∧
    (inverseTimeOperateEff i k s).gsv = s.gsv ∧ (inverseTimeOperateEff i k s).tph = s.tph ∧
    (inverseTimeOperateEff i k s).oz = s.oz ∧ (inverseTimeOperateEff i k s).sec = s.sec ∧
    (inverseTimeOperateEff i k s).cmd = s.cmd := by
  have hfite := @State.ite_frame
  have hf1 := @State.phaseEvent_frame
  simp [↓hfite, ↓hf1, inverseTimeOperateEff]

theorem resetTimeExpiryEff_frame (i : ℕ) (k : ℕ) (s : State) :
    (resetTimeExpiryEff i k s).now = s.now ∧ (resetTimeExpiryEff i k s).pending = s.pending ∧
    (resetTimeExpiryEff i k s).regs0 = s.regs0 ∧ (resetTimeExpiryEff i k s).freeCtr = s.freeCtr ∧
    (resetTimeExpiryEff i k s).mode = s.mode ∧ (resetTimeExpiryEff i k s).mram = s.mram ∧
    (resetTimeExpiryEff i k s).sys = s.sys ∧ (resetTimeExpiryEff i k s).evt = s.evt ∧
    (resetTimeExpiryEff i k s).ana = s.ana ∧ (resetTimeExpiryEff i k s).aux = s.aux ∧
    (resetTimeExpiryEff i k s).flt = s.flt ∧ (resetTimeExpiryEff i k s).tim = s.tim ∧
    (resetTimeExpiryEff i k s).net = s.net ∧ (resetTimeExpiryEff i k s).trp = s.trp ∧
    (resetTimeExpiryEff i k s).pod = s.pod ∧ (resetTimeExpiryEff i k s).lgc = s.lgc ∧
    (resetTimeExpiryEff i k s).gsv = s.gsv ∧ (resetTimeExpiryEff i k s).tph = s.tph ∧
    (resetTimeExpiryEff i k s).oz = s.oz ∧ (resetTimeExpiryEff i k s).sec = s.sec ∧
    (resetTimeExpiryEff i k s).cmd = s.cmd := by
  have hf1 := @State.phaseEvent_frame
  unfold resetTimeExpiryEff
  (repeat' split) <;> simp [↓hf1]

theorem holdLimitExpiryEff_frame (i : ℕ) (k : ℕ) (s : State) :
    (holdLimitExpiryEff i k s).now = s.now ∧ (holdLimitExpiryEff i k s).pending = s.pending ∧
    (holdLimitExpiryEff i k s).regs0 = s.regs0 ∧ (holdLimitExpiryEff i k s).freeCtr = s.freeCtr ∧
    (holdLimitExpiryEff i k s).mode = s.mode ∧ (holdLimitExpiryEff i k s).mram.keyCnt = s.mram.keyCnt ∧
    (holdLimitExpiryEff i k s).mram.boot = s.mram.boot ∧ (holdLimitExpiryEff i k s).sys = s.sys ∧
    (holdLimitExpiryEff i k s).ana = s.ana ∧ (holdLimitExpiryEff i k s).aux = s.aux ∧
    (holdLimitExpiryEff i k s).flt = s.flt ∧ (holdLimitExpiryEff i k s).tim = s.tim ∧
    (holdLimitExpiryEff i k s).net = s.net ∧ (holdLimitExpiryEff i k s).trp = s.trp ∧
    (holdLimitExpiryEff i k s).pod = s.pod ∧ (holdLimitExpiryEff i k s).lgc = s.lgc ∧
    (holdLimitExpiryEff i k s).gsv = s.gsv ∧ (holdLimitExpiryEff i k s).tph = s.tph ∧
    (holdLimitExpiryEff i k s).oz = s.oz ∧ (holdLimitExpiryEff i k s).sec = s.sec ∧
    (holdLimitExpiryEff i k s).cmd = s.cmd := by
  have hfite := @State.ite_frame
  have hf1 := @State.holdExpired_frame
  have hf2 := @State.phaseEvent_frame
  simp [↓hfite, ↓hf1, ↓hf2, holdLimitExpiryEff]

theorem vectorShiftPulseEndEff_frame (i : ℕ) (s : State) :
    (vectorShiftPulseEndEff i s).now = s.now ∧ (vectorShiftPulseEndEff i s).pending = s.pending ∧
    (vectorShiftPulseEndEff i s).regs0 = s.regs0 ∧ (vectorShiftPulseEndEff i s).freeCtr = s.freeCtr ∧
    (vectorShiftPulseEndEff i s).mode = s.mode ∧ (vectorShiftPulseEndEff i s).mram = s.mram ∧
    (vectorShiftPulseEndEff i s).sys = s.sys ∧ (vectorShiftPulseEndEff i s).evt = s.evt ∧
    (vectorShiftPulseEndEff i s).ana = s.ana ∧ (vectorShiftPulseEndEff i s).aux = s.aux ∧
    (vectorShiftPulseEndEff i s).flt = s.flt ∧ (vectorShiftPulseEndEff i s).tim = s.tim ∧
    (vectorShiftPulseEndEff i s).net = s.net ∧ (vectorShiftPulseEndEff i s).trp = s.trp ∧
    (vectorShiftPulseEndEff i s).pod = s.pod ∧ (vectorShiftPulseEndEff i s).lgc = s.lgc ∧
    (vectorShiftPulseEndEff i s).gsv = s.gsv ∧ (vectorShiftPulseEndEff i s).tph = s.tph ∧
    (vectorShiftPulseEndEff i s).oz = s.oz ∧ (vectorShiftPulseEndEff i s).sec = s.sec ∧
    (vectorShiftPulseEndEff i s).cmd = s.cmd := by
  have hf1 := @State.publish_frame
  unfold vectorShiftPulseEndEff
  (repeat' split) <;> simp [↓hf1]

theorem bfRetripTimeEff_frame (i : ℕ) (s : State) :
    (bfRetripTimeEff i s).now = s.now ∧ (bfRetripTimeEff i s).pending = s.pending ∧
    (bfRetripTimeEff i s).regs0 = s.regs0 ∧ (bfRetripTimeEff i s).freeCtr = s.freeCtr ∧
    (bfRetripTimeEff i s).mode = s.mode ∧ (bfRetripTimeEff i s).mram = s.mram ∧ (bfRetripTimeEff i s).sys = s.sys ∧
    (bfRetripTimeEff i s).evt = s.evt ∧ (bfRetripTimeEff i s).ana = s.ana ∧ (bfRetripTimeEff i s).aux = s.aux ∧
    (bfRetripTimeEff i s).flt = s.flt ∧ (bfRetripTimeEff i s).tim = s.tim ∧ (bfRetripTimeEff i s).net = s.net ∧
    (bfRetripTimeEff i s).trp = s.trp ∧ (bfRetripTimeEff i s).pod = s.pod ∧ (bfRetripTimeEff i s).lgc = s.lgc ∧
    (bfRetripTimeEff i s).gsv = s.gsv ∧ (bfRetripTimeEff i s).tph = s.tph ∧ (bfRetripTimeEff i s).oz = s.oz ∧
    (bfRetripTimeEff i s).sec = s.sec ∧ (bfRetripTimeEff i s).cmd = s.cmd := by
  have hf1 := @State.phaseEvent_frame
  simp [↓hf1, bfRetripTimeEff]
  (repeat' split) <;> simp [↓hf1]

theorem bfBacktripTimeEff_frame (i : ℕ) (s : State) :
    (bfBacktripTimeEff i s).now = s.now ∧ (bfBacktripTimeEff i s).pending = s.pending ∧
    (bfBacktripTimeEff i s).regs0 = s.regs0 ∧ (bfBacktripTimeEff i s).freeCtr = s.freeCtr ∧
    (bfBacktripTimeEff i s).mode = s.mode ∧ (bfBacktripTimeEff i s).mram = s.mram ∧
    (bfBacktripTimeEff i s).sys = s.sys ∧ (bfBacktripTimeEff i s).evt = s.evt ∧ (bfBacktripTimeEff i s).ana = s.ana ∧
    (bfBacktripTimeEff i s).aux = s.aux ∧ (bfBacktripTimeEff i s).flt = s.flt ∧ (bfBacktripTimeEff i s).tim = s.tim ∧
    (bfBacktripTimeEff i s).net = s.net ∧ (bfBacktripTimeEff i s).trp = s.trp ∧ (bfBacktripTimeEff i s).pod = s.pod ∧
    (bfBacktripTimeEff i s).lgc = s.lgc ∧ (bfBacktripTimeEff i s).gsv = s.gsv ∧ (bfBacktripTimeEff i s).tph = s.tph ∧
    (bfBacktripTimeEff i s).oz = s.oz ∧ (bfBacktripTimeEff i s).sec = s.sec ∧ (bfBacktripTimeEff i s).cmd = s.cmd := by
  have hf1 := @State.publish_frame
  simp [↓hf1, bfBacktripTimeEff]
  (repeat' split) <;> simp [↓hf1]

theorem coldLoadEntryEff_frame (b : ℕ) (s : State) :
    (coldLoadEntryEff b s).now = s.now ∧ (coldLoadEntryEff b s).pending = s.pending ∧
    (coldLoadEntryEff b s).regs0 = s.regs0 ∧ (coldLoadEntryEff b s).freeCtr = s.freeCtr ∧
    (coldLoadEntryEff b s).mode = s.mode ∧ (coldLoadEntryEff b s).mram = s.mram ∧
    (coldLoadEntryEff b s).sys = s.sys ∧ (coldLoadEntryEff b s).evt = s.evt ∧ (coldLoadEntryEff b s).ana = s.ana ∧
    (coldLoadEntryEff b s).aux = s.aux ∧ (coldLoadEntryEff b s).flt = s.flt ∧ (coldLoadEntryEff b s).tim = s.tim ∧
    (coldLoadEntryEff b s).net = s.net ∧ (coldLoadEntryEff b s).trp = s.trp ∧ (coldLoadEntryEff b s).pod = s.pod ∧
    (coldLoadEntryEff b s).lgc = s.lgc ∧ (coldLoadEntryEff b s).gsv = s.gsv ∧ (coldLoadEntryEff b s).tph = s.tph ∧
    (coldLoadEntryEff b s).oz = s.oz ∧ (coldLoadEntryEff b s).sec = s.sec ∧ (coldLoadEntryEff b s).cmd = s.cmd := by
  have hf1 := @State.evalClp_frame
  have hf2 := @State.readBreakers_frame
  unfold coldLoadEntryEff
  (repeat' split) <;> simp [↓hf1, ↓hf2]

theorem coldLoadEndEff_frame (b : ℕ) (s : State) :
    (coldLoadEndEff b s).now = s.now ∧ (coldLoadEndEff b s).pending = s.pending ∧
    (coldLoadEndEff b s).regs0 = s.regs0 ∧ (coldLoadEndEff b s).freeCtr = s.freeCtr ∧
    (coldLoadEndEff b s).mode = s.mode ∧ (coldLoadEndEff b s).mram = s.mram ∧ (coldLoadEndEff b s).sys = s.sys ∧
    (coldLoadEndEff b s).evt = s.evt ∧ (coldLoadEndEff b s).ana = s.ana ∧ (coldLoadEndEff b s).aux = s.aux ∧
    (coldLoadEndEff b s).flt = s.flt ∧ (coldLoadEndEff b s).tim = s.tim ∧ (coldLoadEndEff b s).net = s.net ∧
    (coldLoadEndEff b s).trp = s.trp ∧ (coldLoadEndEff b s).pod = s.pod ∧ (coldLoadEndEff b s).lgc = s.lgc ∧
    (coldLoadEndEff b s).gsv = s.gsv ∧ (coldLoadEndEff b s).tph = s.tph ∧ (coldLoadEndEff b s).oz = s.oz ∧
    (coldLoadEndEff b s).sec = s.sec ∧ (coldLoadEndEff b s).cmd = s.cmd := by
  have hf1 := @State.publish_frame
  have hf2 := @State.setFlag_frame
  have hf3 := @State.setBay_frame
  unfold coldLoadEndEff
  (repeat' split) <;> simp [↓hf1, ↓hf2, ↓hf3]

theorem zoneNconReachedEff_frame (z : ℕ) (k : ℕ) (s : State) :
    (zoneNconReachedEff z k s).now = s.now ∧ (zoneNconReachedEff z k s).pending = s.pending ∧
    (zoneNconReachedEff z k s).regs0 = s.regs0 ∧ (zoneNconReachedEff z k s).freeCtr = s.freeCtr ∧
    (zoneNconReachedEff z k s).mode = s.mode ∧ (zoneNconReachedEff z k s).mram = s.mram ∧
    (zoneNconReachedEff z k s).sys = s.sys ∧ (zoneNconReachedEff z k s).evt = s.evt ∧
    (zoneNconReachedEff z k s).ana = s.ana ∧ (zoneNconReachedEff z k s).aux = s.aux ∧
    (zoneNconReachedEff z k s).flt = s.flt ∧ (zoneNconReachedEff z k s).tim = s.tim ∧
    (zoneNconReachedEff z k s).net = s.net ∧ (zoneNconReachedEff z k s).trp = s.trp ∧
    (zoneNconReachedEff z k s).pod = s.pod ∧ (zoneNconReachedEff z k s).lgc = s.lgc ∧
    (zoneNconReachedEff z k s).gsv = s.gsv ∧ (zoneNconReachedEff z k s).tph = s.tph ∧
    (zoneNconReachedEff z k s).oz = s.oz ∧ (zoneNconReachedEff z k s).sec = s.sec ∧
    (zoneNconReachedEff z k s).cmd = s.cmd := by
  have hfite := @State.ite_frame
  have hf1 := @State.setZone_frame
  simp [↓hfite, ↓hf1, zoneNconReachedEff]

theorem zoneBlankEndEff_frame (z : ℕ) (s : State) :
    (zoneBlankEndEff z s).now = s.now ∧ (zoneBlankEndEff z s).pending = s.pending ∧
    (zoneBlankEndEff z s).regs0 = s.regs0 ∧ (zoneBlankEndEff z s).freeCtr = s.freeCtr ∧
    (zoneBlankEndEff z s).mode = s.mode ∧ (zoneBlankEndEff z s).mram = s.mram ∧ (zoneBlankEndEff z s).sys = s.sys ∧
    (zoneBlankEndEff z s).evt = s.evt ∧ (zoneBlankEndEff z s).ana = s.ana ∧ (zoneBlankEndEff z s).aux = s.aux ∧
    (zoneBlankEndEff z s).flt = s.flt ∧ (zoneBlankEndEff z s).tim = s.tim ∧ (zoneBlankEndEff z s).net = s.net ∧
    (zoneBlankEndEff z s).prt = s.prt ∧ (zoneBlankEndEff z s).trp = s.trp ∧ (zoneBlankEndEff z s).pod = s.pod ∧
    (zoneBlankEndEff z s).lgc = s.lgc ∧ (zoneBlankEndEff z s).gsv = s.gsv ∧ (zoneBlankEndEff z s).tph = s.tph ∧
    (zoneBlankEndEff z s).oz = s.oz ∧ (zoneBlankEndEff z s).sec = s.sec ∧ (zoneBlankEndEff z s).cmd = s.cmd := by
  have hfite := @State.ite_frame
  have hf1 := @State.setFlag_frame
  simp [↓hfite, ↓hf1, zoneBlankEndEff]

theorem zoneAlarmTimeEff_frame (z : ℕ) (s : State) :
    (zoneAlarmTimeEff z s).now = s.now ∧ (zoneAlarmTimeEff z s).pending = s.pending ∧
    (zoneAlarmTimeEff z s).regs0 = s.regs0 ∧ (zoneAlarmTimeEff z s).freeCtr = s.freeCtr ∧
    (zoneAlarmTimeEff z s).mode = s.mode ∧ (zoneAlarmTimeEff z s).mram.keyCnt = s.mram.keyCnt ∧
    (zoneAlarmTimeEff z s).mram.boot = s.mram.boot ∧ (zoneAlarmTimeEff z s).sys = s.sys ∧
    (zoneAlarmTimeEff z s).ana = s.ana ∧ (zoneAlarmTimeEff z s).aux = s.aux ∧ (zoneAlarmTimeEff z s).flt = s.flt ∧
    (zoneAlarmTimeEff z s).tim = s.tim ∧ (zoneAlarmTimeEff z s).net = s.net ∧ (zoneAlarmTimeEff z s).prt = s.prt ∧
    (zoneAlarmTimeEff z s).trp = s.trp ∧ (zoneAlarmTimeEff z s).pod = s.pod ∧ (zoneAlarmTimeEff z s).lgc = s.lgc ∧
    (zoneAlarmTimeEff z s).gsv = s.gsv ∧ (zoneAlarmTimeEff z s).tph = s.tph ∧ (zoneAlarmTimeEff z s).oz = s.oz ∧
    (zoneAlarmTimeEff z s).sec = s.sec ∧ (zoneAlarmTimeEff z s).cmd = s.cmd := by
  have hfite := @State.ite_frame
  have hf1 := @State.zoneAlarm_frame
  simp [↓hfite, ↓hf1, zoneAlarmTimeEff]

theorem surgeInceptionEff_frame (b : ℕ) (k : ℕ) (s : State) :
    (surgeInceptionEff b k s).now = s.now ∧ (surgeInceptionEff b k s).pending = s.pending ∧
    (surgeInceptionEff b k s).regs0 = s.regs0 ∧ (surgeInceptionEff b k s).freeCtr = s.freeCtr ∧
    (surgeInceptionEff b k s).mode = s.mode ∧ (surgeInceptionEff b k s).mram = s.mram ∧
    (surgeInceptionEff b k s).sys = s.sys ∧ (surgeInceptionEff b k s).evt = s.evt ∧
    (surgeInceptionEff b k s).ana = s.ana ∧ (surgeInceptionEff b k s).aux = s.aux ∧
    (surgeInceptionEff b k s).flt = s.flt ∧ (surgeInceptionEff b k s).tim = s.tim ∧
    (surgeInceptionEff b k s).net = s.net ∧ (surgeInceptionEff b k s).trp = s.trp ∧
    (surgeInceptionEff b k s).pod = s.pod ∧ (surgeInceptionEff b k s).lgc = s.lgc ∧
    (surgeInceptionEff b k s).gsv = s.gsv ∧ (surgeInceptionEff b k s).tph = s.tph ∧
    (surgeInceptionEff b k s).oz = s.oz ∧ (surgeInceptionEff b k s).sec = s.sec ∧
    (surgeInceptionEff b k s).cmd = s.cmd ∧ (surgeInceptionEff b k s).regs = s.regs := by
  have hfite := @State.ite_frame
  have hf1 := @State.setBay_frame
  unfold surgeInceptionEff
  (repeat' split) <;> simp [↓hfite, ↓hf1]

theorem iseWindowCloseEff_frame (b : ℕ) (s : State) :
    (iseWindowCloseEff b s).now = s.now ∧ (iseWindowCloseEff b s).pending = s.pending ∧
    (iseWindowCloseEff b s).regs0 = s.regs0 ∧ (iseWindowCloseEff b s).freeCtr = s.freeCtr ∧
    (iseWindowCloseEff b s).mode = s.mode ∧ (iseWindowCloseEff b s).mram = s.mram ∧
    (iseWindowCloseEff b s).sys = s.sys ∧ (iseWindowCloseEff b s).evt = s.evt ∧ (iseWindowCloseEff b s).ana = s.ana ∧
    (iseWindowCloseEff b s).aux = s.aux ∧ (iseWindowCloseEff b s).flt = s.flt ∧ (iseWindowCloseEff b s).tim = s.tim ∧
    (iseWindowCloseEff b s).net = s.net ∧ (iseWindowCloseEff b s).trp = s.trp ∧ (iseWindowCloseEff b s).pod = s.pod ∧
    (iseWindowCloseEff b s).lgc = s.lgc ∧ (iseWindowCloseEff b s).gsv = s.gsv ∧ (iseWindowCloseEff b s).tph = s.tph ∧
    (iseWindowCloseEff b s).oz = s.oz ∧ (iseWindowCloseEff b s).sec = s.sec ∧ (iseWindowCloseEff b s).cmd = s.cmd ∧
    (iseWindowCloseEff b s).regs = s.regs := by
  have hfite := @State.ite_frame
  have hf1 := @State.raise_frame
  have hf2 := @State.incWrap_frame
  have hf3 := @State.setF_frame
  have hf4 := @State.setFlag_frame
  have hf5 := @State.setBay_frame
  unfold iseWindowCloseEff
  (repeat' split) <;> simp [↓hfite, ↓hf1, ↓hf2, ↓hf3, ↓hf4, ↓hf5]

theorem State.iseIntake_frame (s : State) (i : ℕ) :
    (State.iseIntake s i).now = s.now ∧ (State.iseIntake s i).pending = s.pending ∧
    (State.iseIntake s i).regs0 = s.regs0 ∧ (State.iseIntake s i).freeCtr = s.freeCtr ∧
    (State.iseIntake s i).mode = s.mode ∧ (State.iseIntake s i).mram.keyCnt = s.mram.keyCnt ∧
    (State.iseIntake s i).mram.boot = s.mram.boot ∧ (State.iseIntake s i).sys = s.sys ∧
    (State.iseIntake s i).ana = s.ana ∧ (State.iseIntake s i).aux = s.aux ∧ (State.iseIntake s i).flt = s.flt ∧
    (State.iseIntake s i).tim = s.tim ∧ (State.iseIntake s i).net = s.net ∧ (State.iseIntake s i).trp = s.trp ∧
    (State.iseIntake s i).pod = s.pod ∧ (State.iseIntake s i).lgc = s.lgc ∧ (State.iseIntake s i).gsv = s.gsv ∧
    (State.iseIntake s i).tph = s.tph ∧ (State.iseIntake s i).oz = s.oz ∧ (State.iseIntake s i).sec = s.sec ∧
    (State.iseIntake s i).cmd = s.cmd := by
  have hfite := @State.ite_frame
  have hf1 := @State.setFlag_frame
  have hf2 := @State.incWrap_frame
  have hf3 := @State.setF_frame
  have hf4 := @State.publish_frame
  have hf5 := @State.clearSurge_frame
  have hf6 := @State.setBay_frame
  have hf7 := @State.raise_frame
  simp [↓hfite, ↓hf1, ↓hf2, ↓hf3, ↓hf4, ↓hf5, ↓hf6, ↓hf7, State.iseIntake]
  (repeat' split) <;> simp [↓hfite, ↓hf1, ↓hf2, ↓hf3, ↓hf4, ↓hf5, ↓hf6, ↓hf7]

theorem fastTickEff_frame (s : State) :
    (fastTickEff s).now = s.now ∧ (fastTickEff s).pending = s.pending ∧ (fastTickEff s).regs0 = s.regs0 ∧
    (fastTickEff s).freeCtr = s.freeCtr ∧ (fastTickEff s).mode = s.mode ∧
    (fastTickEff s).mram.keyCnt = s.mram.keyCnt ∧ (fastTickEff s).mram.boot = s.mram.boot ∧
    (fastTickEff s).sys = s.sys ∧ (fastTickEff s).ana = s.ana ∧ (fastTickEff s).aux = s.aux ∧
    (fastTickEff s).tim = s.tim ∧ (fastTickEff s).net = s.net ∧ (fastTickEff s).pod = s.pod ∧
    (fastTickEff s).lgc = s.lgc ∧ (fastTickEff s).gsv = s.gsv ∧ (fastTickEff s).tph = s.tph ∧
    (fastTickEff s).sec = s.sec ∧ (fastTickEff s).cmd = s.cmd := by
  have hfite := @State.ite_frame
  have hf1 := @State.ahead_frame
  have hf2 := @State.readBreakers_frame
  have hf3 := @State.evalBf_frame
  have hf4 := @State.evalFast_frame
  have hf5 := @State.iseIntake_frame
  simp [↓hfite, ↓hf1, ↓hf2, ↓hf3, ↓hf4, ↓hf5, fastTickEff]

theorem iseWinExpiryEff_frame (b : ℕ) (s : State) :
    (iseWinExpiryEff b s).now = s.now ∧ (iseWinExpiryEff b s).pending = s.pending ∧
    (iseWinExpiryEff b s).regs0 = s.regs0 ∧ (iseWinExpiryEff b s).freeCtr = s.freeCtr ∧
    (iseWinExpiryEff b s).mode = s.mode ∧ (iseWinExpiryEff b s).mram = s.mram ∧ (iseWinExpiryEff b s).sys = s.sys ∧
    (iseWinExpiryEff b s).evt = s.evt ∧ (iseWinExpiryEff b s).ana = s.ana ∧ (iseWinExpiryEff b s).aux = s.aux ∧
    (iseWinExpiryEff b s).flt = s.flt ∧ (iseWinExpiryEff b s).tim = s.tim ∧ (iseWinExpiryEff b s).net = s.net ∧
    (iseWinExpiryEff b s).trp = s.trp ∧ (iseWinExpiryEff b s).pod = s.pod ∧ (iseWinExpiryEff b s).lgc = s.lgc ∧
    (iseWinExpiryEff b s).gsv = s.gsv ∧ (iseWinExpiryEff b s).tph = s.tph ∧ (iseWinExpiryEff b s).oz = s.oz ∧
    (iseWinExpiryEff b s).sec = s.sec ∧ (iseWinExpiryEff b s).cmd = s.cmd := by
  have hf1 := @State.setFlag_frame
  have hf2 := @State.setBay_frame
  unfold iseWinExpiryEff
  (repeat' split) <;> simp [↓hf1, ↓hf2]

theorem slowBoundaryEff_frame (s : State) :
    (slowBoundaryEff s).now = s.now ∧ (slowBoundaryEff s).pending = s.pending ∧ (slowBoundaryEff s).regs0 = s.regs0 ∧
    (slowBoundaryEff s).freeCtr = s.freeCtr ∧ (slowBoundaryEff s).mode = s.mode ∧
    (slowBoundaryEff s).mram.keyCnt = s.mram.keyCnt ∧ (slowBoundaryEff s).mram.boot = s.mram.boot ∧
    (slowBoundaryEff s).sys = s.sys ∧ (slowBoundaryEff s).ana = s.ana ∧ (slowBoundaryEff s).aux = s.aux ∧
    (slowBoundaryEff s).tim = s.tim ∧ (slowBoundaryEff s).net = s.net ∧ (slowBoundaryEff s).trp = s.trp ∧
    (slowBoundaryEff s).pod = s.pod ∧ (slowBoundaryEff s).lgc = s.lgc ∧ (slowBoundaryEff s).gsv = s.gsv ∧
    (slowBoundaryEff s).tph = s.tph ∧ (slowBoundaryEff s).oz = s.oz ∧ (slowBoundaryEff s).sec = s.sec ∧
    (slowBoundaryEff s).cmd = s.cmd := by
  have hfite := @State.ite_frame
  have hf1 := @State.slowLate_frame
  have hf2 := @State.swapHalves_frame
  have hf3 := @State.slowTrim_frame
  have hf4 := @State.keepV1_frame
  simp [↓hfite, ↓hf1, ↓hf2, ↓hf3, ↓hf4, slowBoundaryEff]

end Sys2Proof.Machine
end

