-- ==== Sys2Proof/Laws/FrameTrip.lean ====
section
/-!
SUPPORT. What the operations of Machine/Trip.lean leave as it was: one lemma per operation, over the parts of the state.
-/
set_option linter.all false
set_option Elab.async false
namespace Sys2Proof.Machine
theorem wordReleaseEff_frame (flips : List (ℕ × ℕ × ℕ × ℕ)) (s : State) :
    (wordReleaseEff flips s).now = s.now ∧ (wordReleaseEff flips s).pending = s.pending ∧
    (wordReleaseEff flips s).regs0 = s.regs0 ∧ (wordReleaseEff flips s).freeCtr = s.freeCtr ∧
    (wordReleaseEff flips s).mode = s.mode ∧ (wordReleaseEff flips s).mram.keyCnt = s.mram.keyCnt ∧
    (wordReleaseEff flips s).mram.boot = s.mram.boot ∧ (wordReleaseEff flips s).sys = s.sys ∧
    (wordReleaseEff flips s).ana = s.ana ∧ (wordReleaseEff flips s).aux = s.aux ∧
    (wordReleaseEff flips s).flt = s.flt ∧ (wordReleaseEff flips s).tim = s.tim ∧
    (wordReleaseEff flips s).net = s.net ∧ (wordReleaseEff flips s).pod = s.pod ∧
    (wordReleaseEff flips s).gsv = s.gsv ∧ (wordReleaseEff flips s).tph = s.tph ∧
    (wordReleaseEff flips s).oz = s.oz ∧ (wordReleaseEff flips s).sec = s.sec ∧ (wordReleaseEff flips s).cmd = s.cmd := by
  have hfite := @State.ite_frame
  simp [↓hfite, wordReleaseEff]

theorem State.setTrp_frame (s : State) (f : TrpSt → TrpSt) :
    (State.setTrp s f).now = s.now ∧ (State.setTrp s f).pending = s.pending ∧ (State.setTrp s f).regs0 = s.regs0 ∧
    (State.setTrp s f).freeCtr = s.freeCtr ∧ (State.setTrp s f).mode = s.mode ∧ (State.setTrp s f).mram = s.mram ∧
    (State.setTrp s f).sys = s.sys ∧ (State.setTrp s f).evt = s.evt ∧ (State.setTrp s f).ana = s.ana ∧
    (State.setTrp s f).aux = s.aux ∧ (State.setTrp s f).flt = s.flt ∧ (State.setTrp s f).tim = s.tim ∧
    (State.setTrp s f).net = s.net ∧ (State.setTrp s f).prt = s.prt ∧ (State.setTrp s f).pod = s.pod ∧
    (State.setTrp s f).lgc = s.lgc ∧ (State.setTrp s f).gsv = s.gsv ∧ (State.setTrp s f).tph = s.tph ∧
    (State.setTrp s f).oz = s.oz ∧ (State.setTrp s f).sec = s.sec ∧ (State.setTrp s f).cmd = s.cmd ∧
    (State.setTrp s f).regs = s.regs := by
  simp [State.setTrp]

theorem State.commitFail_frame (s : State) (p : ℕ) :
    (State.commitFail s p).now = s.now ∧ (State.commitFail s p).pending = s.pending ∧
    (State.commitFail s p).regs0 = s.regs0 ∧ (State.commitFail s p).freeCtr = s.freeCtr ∧
    (State.commitFail s p).mode = s.mode ∧ (State.commitFail s p).mram.keyCnt = s.mram.keyCnt ∧
    (State.commitFail s p).mram.boot = s.mram.boot ∧ (State.commitFail s p).sys = s.sys ∧
    (State.commitFail s p).ana = s.ana ∧ (State.commitFail s p).aux = s.aux ∧ (State.commitFail s p).flt = s.flt ∧
    (State.commitFail s p).tim = s.tim ∧ (State.commitFail s p).net = s.net ∧ (State.commitFail s p).prt = s.prt ∧
    (State.commitFail s p).pod = s.pod ∧ (State.commitFail s p).lgc = s.lgc ∧ (State.commitFail s p).gsv = s.gsv ∧
    (State.commitFail s p).tph = s.tph ∧ (State.commitFail s p).oz = s.oz ∧ (State.commitFail s p).sec = s.sec ∧
    (State.commitFail s p).cmd = s.cmd := by
  have hfite := @State.ite_frame
  have hf1 := @State.raise_frame
  have hf2 := @State.setFlag_frame
  have hf3 := @State.setTrp_frame
  simp [↓hfite, ↓hf1, ↓hf2, ↓hf3, State.commitFail]

theorem State.takeWords_frame (s : State) (p : ℕ) (lost : Bool) :
    (State.takeWords s p lost).now = s.now ∧ (State.takeWords s p lost).pending = s.pending ∧
    (State.takeWords s p lost).regs0 = s.regs0 ∧ (State.takeWords s p lost).freeCtr = s.freeCtr ∧
    (State.takeWords s p lost).mode = s.mode ∧ (State.takeWords s p lost).mram.keyCnt = s.mram.keyCnt ∧
    (State.takeWords s p lost).mram.boot = s.mram.boot ∧ (State.takeWords s p lost).sys = s.sys ∧
    (State.takeWords s p lost).ana = s.ana ∧ (State.takeWords s p lost).aux = s.aux ∧
    (State.takeWords s p lost).flt = s.flt ∧ (State.takeWords s p lost).tim = s.tim ∧
    (State.takeWords s p lost).net = s.net ∧ (State.takeWords s p lost).prt = s.prt ∧
    (State.takeWords s p lost).pod = s.pod ∧ (State.takeWords s p lost).lgc = s.lgc ∧
    (State.takeWords s p lost).gsv = s.gsv ∧ (State.takeWords s p lost).tph = s.tph ∧
    (State.takeWords s p lost).oz = s.oz ∧ (State.takeWords s p lost).sec = s.sec ∧
    (State.takeWords s p lost).cmd = s.cmd := by
  have hfite := @State.ite_frame
  have hf1 := @State.setFlag_frame
  have hf2 := @State.setTrp_frame
  have hf3 := @State.raise_frame
  have hf4 := @State.incSat_frame
  have hf5 := @State.commitFail_frame
  unfold State.takeWords
  (repeat' split) <;> simp [↓hfite, ↓hf1, ↓hf2, ↓hf3, ↓hf4, ↓hf5]

theorem State.commitOutput_frame (s : State) (n : ℕ) (arm : ℕ) (fire : ℕ) :
    (State.commitOutput s n arm fire).now = s.now ∧ (State.commitOutput s n arm fire).pending = s.pending ∧
    (State.commitOutput s n arm fire).regs0 = s.regs0 ∧ (State.commitOutput s n arm fire).freeCtr = s.freeCtr ∧
    (State.commitOutput s n arm fire).mode = s.mode ∧ (State.commitOutput s n arm fire).mram.keyCnt = s.mram.keyCnt ∧
    (State.commitOutput s n arm fire).mram.boot = s.mram.boot ∧ (State.commitOutput s n arm fire).sys = s.sys ∧
    (State.commitOutput s n arm fire).ana = s.ana ∧ (State.commitOutput s n arm fire).aux = s.aux ∧
    (State.commitOutput s n arm fire).flt = s.flt ∧ (State.commitOutput s n arm fire).tim = s.tim ∧
    (State.commitOutput s n arm fire).net = s.net ∧ (State.commitOutput s n arm fire).prt = s.prt ∧
    (State.commitOutput s n arm fire).pod = s.pod ∧ (State.commitOutput s n arm fire).lgc = s.lgc ∧
    (State.commitOutput s n arm fire).gsv = s.gsv ∧ (State.commitOutput s n arm fire).tph = s.tph ∧
    (State.commitOutput s n arm fire).oz = s.oz ∧ (State.commitOutput s n arm fire).sec = s.sec ∧
    (State.commitOutput s n arm fire).cmd = s.cmd := by
  have hfite := @State.ite_frame
  have hf1 := @State.setF_frame
  have hf2 := @State.setTrp_frame
  have hf3 := @State.raise_frame
  simp [↓hfite, ↓hf1, ↓hf2, ↓hf3, State.commitOutput]

theorem State.tripStat_frame (s : State) :
    (State.tripStat s).now = s.now ∧ (State.tripStat s).pending = s.pending ∧ (State.tripStat s).regs0 = s.regs0 ∧
    (State.tripStat s).freeCtr = s.freeCtr ∧ (State.tripStat s).mode = s.mode ∧ (State.tripStat s).mram = s.mram ∧
    (State.tripStat s).sys = s.sys ∧ (State.tripStat s).evt = s.evt ∧ (State.tripStat s).ana = s.ana ∧
    (State.tripStat s).aux = s.aux ∧ (State.tripStat s).flt = s.flt ∧ (State.tripStat s).tim = s.tim ∧
    (State.tripStat s).net = s.net ∧ (State.tripStat s).prt = s.prt ∧ (State.tripStat s).trp = s.trp ∧
    (State.tripStat s).pod = s.pod ∧ (State.tripStat s).lgc = s.lgc ∧ (State.tripStat s).gsv = s.gsv ∧
    (State.tripStat s).tph = s.tph ∧ (State.tripStat s).oz = s.oz ∧ (State.tripStat s).sec = s.sec ∧
    (State.tripStat s).cmd = s.cmd := by
  have hf1 := @State.setFlag_frame
  have hf2 := @State.setF_frame
  simp [↓hf1, ↓hf2, State.tripStat]

theorem tripCommitEff_frame (miss0 : Bool) (miss1 : Bool) (s : State) :
    (tripCommitEff miss0 miss1 s).now = s.now ∧ (tripCommitEff miss0 miss1 s).pending = s.pending ∧
    (tripCommitEff miss0 miss1 s).regs0 = s.regs0 ∧ (tripCommitEff miss0 miss1 s).freeCtr = s.freeCtr ∧
    (tripCommitEff miss0 miss1 s).mode = s.mode ∧ (tripCommitEff miss0 miss1 s).mram.keyCnt = s.mram.keyCnt ∧
    (tripCommitEff miss0 miss1 s).mram.boot = s.mram.boot ∧ (tripCommitEff miss0 miss1 s).sys = s.sys ∧
    (tripCommitEff miss0 miss1 s).ana = s.ana ∧ (tripCommitEff miss0 miss1 s).aux = s.aux ∧
    (tripCommitEff miss0 miss1 s).flt = s.flt ∧ (tripCommitEff miss0 miss1 s).tim = s.tim ∧
    (tripCommitEff miss0 miss1 s).net = s.net ∧ (tripCommitEff miss0 miss1 s).pod = s.pod ∧
    (tripCommitEff miss0 miss1 s).lgc = s.lgc ∧ (tripCommitEff miss0 miss1 s).gsv = s.gsv ∧
    (tripCommitEff miss0 miss1 s).tph = s.tph ∧ (tripCommitEff miss0 miss1 s).oz = s.oz ∧
    (tripCommitEff miss0 miss1 s).sec = s.sec ∧ (tripCommitEff miss0 miss1 s).cmd = s.cmd := by
  have hfite := @State.ite_frame
  have hf1 := @State.setFlag_frame
  have hf2 := @State.setF_frame
  have hf3 := @State.takeWords_frame
  have hf4 := @State.commitOutput_frame
  have hf5 := @State.logicGroups_frame
  have hf6 := @State.tripStat_frame
  have hf7 := @State.setTrp_frame
  simp [↓hfite, ↓hf1, ↓hf2, ↓hf3, ↓hf4, ↓hf5, ↓hf6, ↓hf7, tripCommitEff]

theorem State.outputsLow_frame (s : State) :
    (State.outputsLow s).now = s.now ∧ (State.outputsLow s).pending = s.pending ∧
    (State.outputsLow s).regs0 = s.regs0 ∧ (State.outputsLow s).freeCtr = s.freeCtr ∧
    (State.outputsLow s).mode = s.mode ∧ (State.outputsLow s).mram = s.mram ∧ (State.outputsLow s).sys = s.sys ∧
    (State.outputsLow s).evt = s.evt ∧ (State.outputsLow s).ana = s.ana ∧ (State.outputsLow s).aux = s.aux ∧
    (State.outputsLow s).flt = s.flt ∧ (State.outputsLow s).tim = s.tim ∧ (State.outputsLow s).net = s.net ∧
    (State.outputsLow s).prt = s.prt ∧ (State.outputsLow s).pod = s.pod ∧ (State.outputsLow s).lgc = s.lgc ∧
    (State.outputsLow s).gsv = s.gsv ∧ (State.outputsLow s).tph = s.tph ∧ (State.outputsLow s).oz = s.oz ∧
    (State.outputsLow s).sec = s.sec ∧ (State.outputsLow s).cmd = s.cmd := by
  have hfite := @State.ite_frame
  have hf1 := @State.setFlag_frame
  have hf2 := @State.setF_frame
  have hf3 := @State.setTrp_frame
  simp [↓hfite, ↓hf1, ↓hf2, ↓hf3, State.outputsLow]

theorem commitMissingLimitEff_frame (p : ℕ) (s : State) :
    (commitMissingLimitEff p s).now = s.now ∧ (commitMissingLimitEff p s).pending = s.pending ∧
    (commitMissingLimitEff p s).regs0 = s.regs0 ∧ (commitMissingLimitEff p s).freeCtr = s.freeCtr ∧
    (commitMissingLimitEff p s).mode = s.mode ∧ (commitMissingLimitEff p s).mram.keyCnt = s.mram.keyCnt ∧
    (commitMissingLimitEff p s).mram.boot = s.mram.boot ∧ (commitMissingLimitEff p s).sys = s.sys ∧
    (commitMissingLimitEff p s).ana = s.ana ∧ (commitMissingLimitEff p s).aux = s.aux ∧
    (commitMissingLimitEff p s).flt = s.flt ∧ (commitMissingLimitEff p s).tim = s.tim ∧
    (commitMissingLimitEff p s).net = s.net ∧ (commitMissingLimitEff p s).prt = s.prt ∧
    (commitMissingLimitEff p s).pod = s.pod ∧ (commitMissingLimitEff p s).lgc = s.lgc ∧
    (commitMissingLimitEff p s).gsv = s.gsv ∧ (commitMissingLimitEff p s).tph = s.tph ∧
    (commitMissingLimitEff p s).oz = s.oz ∧ (commitMissingLimitEff p s).sec = s.sec ∧
    (commitMissingLimitEff p s).cmd = s.cmd := by
  have hfite := @State.ite_frame
  have hf1 := @State.tripStat_frame
  have hf2 := @State.commitFail_frame
  simp [↓hfite, ↓hf1, ↓hf2, commitMissingLimitEff]

theorem minonExpiryEff_frame (n : ℕ) (s : State) :
    (minonExpiryEff n s).now = s.now ∧ (minonExpiryEff n s).pending = s.pending ∧
    (minonExpiryEff n s).regs0 = s.regs0 ∧ (minonExpiryEff n s).freeCtr = s.freeCtr ∧
    (minonExpiryEff n s).mode = s.mode ∧ (minonExpiryEff n s).mram = s.mram ∧ (minonExpiryEff n s).sys = s.sys ∧
    (minonExpiryEff n s).evt = s.evt ∧ (minonExpiryEff n s).ana = s.ana ∧ (minonExpiryEff n s).aux = s.aux ∧
    (minonExpiryEff n s).flt = s.flt ∧ (minonExpiryEff n s).tim = s.tim ∧ (minonExpiryEff n s).net = s.net ∧
    (minonExpiryEff n s).prt = s.prt ∧ (minonExpiryEff n s).pod = s.pod ∧ (minonExpiryEff n s).lgc = s.lgc ∧
    (minonExpiryEff n s).gsv = s.gsv ∧ (minonExpiryEff n s).tph = s.tph ∧ (minonExpiryEff n s).oz = s.oz ∧
    (minonExpiryEff n s).sec = s.sec ∧ (minonExpiryEff n s).cmd = s.cmd ∧ (minonExpiryEff n s).regs = s.regs := by
  have hf1 := @State.setTrp_frame
  unfold minonExpiryEff
  (repeat' split) <;> simp [↓hf1]

theorem driveHalfPeriodEff_frame (s : State) :
    (driveHalfPeriodEff s).now = s.now ∧ (driveHalfPeriodEff s).pending = s.pending ∧
    (driveHalfPeriodEff s).regs0 = s.regs0 ∧ (driveHalfPeriodEff s).freeCtr = s.freeCtr ∧
    (driveHalfPeriodEff s).mode = s.mode ∧ (driveHalfPeriodEff s).mram = s.mram ∧
    (driveHalfPeriodEff s).sys = s.sys ∧ (driveHalfPeriodEff s).evt = s.evt ∧ (driveHalfPeriodEff s).ana = s.ana ∧
    (driveHalfPeriodEff s).aux = s.aux ∧ (driveHalfPeriodEff s).flt = s.flt ∧ (driveHalfPeriodEff s).tim = s.tim ∧
    (driveHalfPeriodEff s).net = s.net ∧ (driveHalfPeriodEff s).prt = s.prt ∧ (driveHalfPeriodEff s).pod = s.pod ∧
    (driveHalfPeriodEff s).lgc = s.lgc ∧ (driveHalfPeriodEff s).gsv = s.gsv ∧ (driveHalfPeriodEff s).tph = s.tph ∧
    (driveHalfPeriodEff s).oz = s.oz ∧ (driveHalfPeriodEff s).sec = s.sec ∧ (driveHalfPeriodEff s).cmd = s.cmd ∧
    (driveHalfPeriodEff s).regs = s.regs := by
  have hfite := @State.ite_frame
  have hf1 := @State.setTrp_frame
  simp [↓hfite, ↓hf1, driveHalfPeriodEff]

theorem readbackMismatchEff_frame (n : ℕ) (fire : Bool) (s : State) :
    (readbackMismatchEff n fire s).now = s.now ∧ (readbackMismatchEff n fire s).pending = s.pending ∧
    (readbackMismatchEff n fire s).regs0 = s.regs0 ∧ (readbackMismatchEff n fire s).freeCtr = s.freeCtr ∧
    (readbackMismatchEff n fire s).mode = s.mode ∧ (readbackMismatchEff n fire s).mram.keyCnt = s.mram.keyCnt ∧
    (readbackMismatchEff n fire s).mram.boot = s.mram.boot ∧ (readbackMismatchEff n fire s).sys = s.sys ∧
    (readbackMismatchEff n fire s).ana = s.ana ∧ (readbackMismatchEff n fire s).aux = s.aux ∧
    (readbackMismatchEff n fire s).flt = s.flt ∧ (readbackMismatchEff n fire s).tim = s.tim ∧
    (readbackMismatchEff n fire s).net = s.net ∧ (readbackMismatchEff n fire s).prt = s.prt ∧
    (readbackMismatchEff n fire s).trp = s.trp ∧ (readbackMismatchEff n fire s).pod = s.pod ∧
    (readbackMismatchEff n fire s).lgc = s.lgc ∧ (readbackMismatchEff n fire s).gsv = s.gsv ∧
    (readbackMismatchEff n fire s).tph = s.tph ∧ (readbackMismatchEff n fire s).oz = s.oz ∧
    (readbackMismatchEff n fire s).sec = s.sec ∧ (readbackMismatchEff n fire s).cmd = s.cmd := by
  have hfite := @State.ite_frame
  have hf1 := @State.raise_frame
  have hf2 := @State.setF_frame
  simp [↓hfite, ↓hf1, ↓hf2, readbackMismatchEff]

theorem wdogHalfPeriodEff_frame (s : State) :
    (wdogHalfPeriodEff s).now = s.now ∧ (wdogHalfPeriodEff s).pending = s.pending ∧
    (wdogHalfPeriodEff s).regs0 = s.regs0 ∧ (wdogHalfPeriodEff s).freeCtr = s.freeCtr ∧
    (wdogHalfPeriodEff s).mode = s.mode ∧ (wdogHalfPeriodEff s).mram = s.mram ∧ (wdogHalfPeriodEff s).sys = s.sys ∧
    (wdogHalfPeriodEff s).evt = s.evt ∧ (wdogHalfPeriodEff s).ana = s.ana ∧ (wdogHalfPeriodEff s).aux = s.aux ∧
    (wdogHalfPeriodEff s).flt = s.flt ∧ (wdogHalfPeriodEff s).tim = s.tim ∧ (wdogHalfPeriodEff s).net = s.net ∧
    (wdogHalfPeriodEff s).prt = s.prt ∧ (wdogHalfPeriodEff s).pod = s.pod ∧ (wdogHalfPeriodEff s).lgc = s.lgc ∧
    (wdogHalfPeriodEff s).gsv = s.gsv ∧ (wdogHalfPeriodEff s).tph = s.tph ∧ (wdogHalfPeriodEff s).oz = s.oz ∧
    (wdogHalfPeriodEff s).sec = s.sec ∧ (wdogHalfPeriodEff s).cmd = s.cmd := by
  have hfite := @State.ite_frame
  have hf1 := @State.setFlag_frame
  have hf2 := @State.setTrp_frame
  simp [↓hfite, ↓hf1, ↓hf2, wdogHalfPeriodEff]

theorem setHalf_frame (s : State) (lo : Field) (hi : Field) (i : ℕ) (b : Bool) :
    (setHalf s lo hi i b).now = s.now ∧ (setHalf s lo hi i b).pending = s.pending ∧
    (setHalf s lo hi i b).regs0 = s.regs0 ∧ (setHalf s lo hi i b).freeCtr = s.freeCtr ∧
    (setHalf s lo hi i b).mode = s.mode ∧ (setHalf s lo hi i b).mram = s.mram ∧ (setHalf s lo hi i b).sys = s.sys ∧
    (setHalf s lo hi i b).evt = s.evt ∧ (setHalf s lo hi i b).ana = s.ana ∧ (setHalf s lo hi i b).aux = s.aux ∧
    (setHalf s lo hi i b).flt = s.flt ∧ (setHalf s lo hi i b).tim = s.tim ∧ (setHalf s lo hi i b).net = s.net ∧
    (setHalf s lo hi i b).prt = s.prt ∧ (setHalf s lo hi i b).trp = s.trp ∧ (setHalf s lo hi i b).pod = s.pod ∧
    (setHalf s lo hi i b).lgc = s.lgc ∧ (setHalf s lo hi i b).gsv = s.gsv ∧ (setHalf s lo hi i b).tph = s.tph ∧
    (setHalf s lo hi i b).oz = s.oz ∧ (setHalf s lo hi i b).sec = s.sec ∧ (setHalf s lo hi i b).cmd = s.cmd := by
  have hfite := @State.ite_frame
  have hf1 := @State.setF_frame
  simp [↓hfite, ↓hf1, setHalf]

theorem State.bioSample_frame (s : State) (i : ℕ) (level : Bool) :
    (State.bioSample s i level).now = s.now ∧ (State.bioSample s i level).pending = s.pending ∧
    (State.bioSample s i level).regs0 = s.regs0 ∧ (State.bioSample s i level).freeCtr = s.freeCtr ∧
    (State.bioSample s i level).mode = s.mode ∧ (State.bioSample s i level).mram = s.mram ∧
    (State.bioSample s i level).sys = s.sys ∧ (State.bioSample s i level).evt = s.evt ∧
    (State.bioSample s i level).ana = s.ana ∧ (State.bioSample s i level).aux = s.aux ∧
    (State.bioSample s i level).flt = s.flt ∧ (State.bioSample s i level).tim = s.tim ∧
    (State.bioSample s i level).net = s.net ∧ (State.bioSample s i level).prt = s.prt ∧
    (State.bioSample s i level).pod = s.pod ∧ (State.bioSample s i level).lgc = s.lgc ∧
    (State.bioSample s i level).gsv = s.gsv ∧ (State.bioSample s i level).tph = s.tph ∧
    (State.bioSample s i level).oz = s.oz ∧ (State.bioSample s i level).sec = s.sec ∧
    (State.bioSample s i level).cmd = s.cmd := by
  have hfite := @State.ite_frame
  have hf1 := @State.incSat_frame
  have hf2 := @setHalf_frame
  have hf3 := @State.setTrp_frame
  simp [↓hfite, ↓hf1, ↓hf2, ↓hf3, State.bioSample]

theorem State.bioStart_frame (s : State) :
    (State.bioStart s).now = s.now ∧ (State.bioStart s).pending = s.pending ∧ (State.bioStart s).regs0 = s.regs0 ∧
    (State.bioStart s).freeCtr = s.freeCtr ∧ (State.bioStart s).mode = s.mode ∧ (State.bioStart s).mram = s.mram ∧
    (State.bioStart s).sys = s.sys ∧ (State.bioStart s).evt = s.evt ∧ (State.bioStart s).ana = s.ana ∧
    (State.bioStart s).aux = s.aux ∧ (State.bioStart s).flt = s.flt ∧ (State.bioStart s).tim = s.tim ∧
    (State.bioStart s).net = s.net ∧ (State.bioStart s).prt = s.prt ∧ (State.bioStart s).pod = s.pod ∧
    (State.bioStart s).lgc = s.lgc ∧ (State.bioStart s).gsv = s.gsv ∧ (State.bioStart s).tph = s.tph ∧
    (State.bioStart s).oz = s.oz ∧ (State.bioStart s).sec = s.sec ∧ (State.bioStart s).cmd = s.cmd := by
  have hfite := @State.ite_frame
  have hf1 := @State.bioSample_frame
  simp [↓hfite, ↓hf1, State.bioStart]

theorem debouncedChangeEff_frame (i : ℕ) (s : State) :
    (debouncedChangeEff i s).now = s.now ∧ (debouncedChangeEff i s).pending = s.pending ∧
    (debouncedChangeEff i s).regs0 = s.regs0 ∧ (debouncedChangeEff i s).freeCtr = s.freeCtr ∧
    (debouncedChangeEff i s).mode = s.mode ∧ (debouncedChangeEff i s).mram = s.mram ∧
    (debouncedChangeEff i s).sys = s.sys ∧ (debouncedChangeEff i s).evt = s.evt ∧
    (debouncedChangeEff i s).ana = s.ana ∧ (debouncedChangeEff i s).aux = s.aux ∧
    (debouncedChangeEff i s).flt = s.flt ∧ (debouncedChangeEff i s).tim = s.tim ∧
    (debouncedChangeEff i s).net = s.net ∧ (debouncedChangeEff i s).prt = s.prt ∧
    (debouncedChangeEff i s).trp = s.trp ∧ (debouncedChangeEff i s).pod = s.pod ∧
    (debouncedChangeEff i s).lgc = s.lgc ∧ (debouncedChangeEff i s).gsv = s.gsv ∧
    (debouncedChangeEff i s).tph = s.tph ∧ (debouncedChangeEff i s).oz = s.oz ∧
    (debouncedChangeEff i s).sec = s.sec ∧ (debouncedChangeEff i s).cmd = s.cmd := by
  have hfite := @State.ite_frame
  have hf1 := @State.setFlag_frame
  have hf2 := @State.incWrap_frame
  have hf3 := @State.setF_frame
  have hf4 := @setHalf_frame
  simp [↓hfite, ↓hf1, ↓hf2, ↓hf3, ↓hf4, debouncedChangeEff]
theorem binaryInputEdgeEff_frame (i : ℕ) (level : Bool) (s : State) :
    (binaryInputEdgeEff i level s).now = s.now ∧ (binaryInputEdgeEff i level s).pending = s.pending ∧
    (binaryInputEdgeEff i level s).regs0 = s.regs0 ∧ (binaryInputEdgeEff i level s).freeCtr = s.freeCtr ∧
    (binaryInputEdgeEff i level s).mode = s.mode ∧ (binaryInputEdgeEff i level s).mram = s.mram ∧
    (binaryInputEdgeEff i level s).sys = s.sys ∧ (binaryInputEdgeEff i level s).evt = s.evt ∧
    (binaryInputEdgeEff i level s).ana = s.ana ∧ (binaryInputEdgeEff i level s).aux = s.aux ∧
    (binaryInputEdgeEff i level s).flt = s.flt ∧ (binaryInputEdgeEff i level s).tim = s.tim ∧
    (binaryInputEdgeEff i level s).net = s.net ∧ (binaryInputEdgeEff i level s).prt = s.prt ∧
    (binaryInputEdgeEff i level s).pod = s.pod ∧ (binaryInputEdgeEff i level s).lgc = s.lgc ∧
    (binaryInputEdgeEff i level s).gsv = s.gsv ∧ (binaryInputEdgeEff i level s).tph = s.tph ∧
    (binaryInputEdgeEff i level s).oz = s.oz ∧ (binaryInputEdgeEff i level s).sec = s.sec ∧
    (binaryInputEdgeEff i level s).cmd = s.cmd := by
  have hfite := @State.ite_frame
  have hf1 := @debouncedChangeEff_frame
  have hf2 := @State.bioSample_frame
  simp [↓hfite, ↓hf1, ↓hf2, binaryInputEdgeEff]

end Sys2Proof.Machine
end

