-- ==== Sys2Proof/Laws/FramePods.lean ====
section
/-!
SUPPORT. What the operations of Machine/Pods.lean leave as it was: one lemma per operation, over the parts of the state.
-/
set_option linter.all false
set_option Elab.async false
namespace Sys2Proof.Machine
theorem State.setPod_frame (s : State) (p : ℕ) (x : PodInt) :
    (State.setPod s p x).now = s.now ∧ (State.setPod s p x).pending = s.pending ∧
    (State.setPod s p x).regs0 = s.regs0 ∧ (State.setPod s p x).freeCtr = s.freeCtr ∧
    (State.setPod s p x).mode = s.mode ∧ (State.setPod s p x).mram = s.mram ∧ (State.setPod s p x).sys = s.sys ∧
    (State.setPod s p x).evt = s.evt ∧ (State.setPod s p x).ana = s.ana ∧ (State.setPod s p x).aux = s.aux ∧
    (State.setPod s p x).flt = s.flt ∧ (State.setPod s p x).tim = s.tim ∧ (State.setPod s p x).net = s.net ∧
    (State.setPod s p x).prt = s.prt ∧ (State.setPod s p x).trp = s.trp ∧ (State.setPod s p x).lgc = s.lgc ∧
    (State.setPod s p x).gsv = s.gsv ∧ (State.setPod s p x).tph = s.tph ∧ (State.setPod s p x).oz = s.oz ∧
    (State.setPod s p x).sec = s.sec ∧ (State.setPod s p x).cmd = s.cmd ∧ (State.setPod s p x).regs = s.regs := by
  simp [State.setPod]

theorem State.setRun_frame (s : State) (p : ℕ) (run : ℕ) :
    (State.setRun s p run).now = s.now ∧ (State.setRun s p run).pending = s.pending ∧
    (State.setRun s p run).regs0 = s.regs0 ∧ (State.setRun s p run).freeCtr = s.freeCtr ∧
    (State.setRun s p run).mode = s.mode ∧ (State.setRun s p run).mram = s.mram ∧
    (State.setRun s p run).sys = s.sys ∧ (State.setRun s p run).evt = s.evt ∧ (State.setRun s p run).ana = s.ana ∧
    (State.setRun s p run).aux = s.aux ∧ (State.setRun s p run).flt = s.flt ∧ (State.setRun s p run).tim = s.tim ∧
    (State.setRun s p run).net = s.net ∧ (State.setRun s p run).prt = s.prt ∧ (State.setRun s p run).trp = s.trp ∧
    (State.setRun s p run).pod = s.pod ∧ (State.setRun s p run).lgc = s.lgc ∧ (State.setRun s p run).gsv = s.gsv ∧
    (State.setRun s p run).tph = s.tph ∧ (State.setRun s p run).oz = s.oz ∧ (State.setRun s p run).sec = s.sec ∧
    (State.setRun s p run).cmd = s.cmd := by
  have hf1 := @State.setF_frame
  simp [↓hf1, State.setRun]

theorem State.setLogicMode_frame (s : State) (m : ℕ) :
    (State.setLogicMode s m).now = s.now ∧ (State.setLogicMode s m).pending = s.pending ∧
    (State.setLogicMode s m).regs0 = s.regs0 ∧ (State.setLogicMode s m).freeCtr = s.freeCtr ∧
    (State.setLogicMode s m).mode = s.mode ∧ (State.setLogicMode s m).mram = s.mram ∧
    (State.setLogicMode s m).sys = s.sys ∧ (State.setLogicMode s m).evt = s.evt ∧
    (State.setLogicMode s m).ana = s.ana ∧ (State.setLogicMode s m).aux = s.aux ∧
    (State.setLogicMode s m).flt = s.flt ∧ (State.setLogicMode s m).tim = s.tim ∧
    (State.setLogicMode s m).net = s.net ∧ (State.setLogicMode s m).prt = s.prt ∧
    (State.setLogicMode s m).trp = s.trp ∧ (State.setLogicMode s m).pod = s.pod ∧
    (State.setLogicMode s m).lgc = s.lgc ∧ (State.setLogicMode s m).gsv = s.gsv ∧
    (State.setLogicMode s m).tph = s.tph ∧ (State.setLogicMode s m).oz = s.oz ∧
    (State.setLogicMode s m).sec = s.sec ∧ (State.setLogicMode s m).cmd = s.cmd := by
  have hfite := @State.ite_frame
  have hf1 := @State.incWrap_frame
  have hf2 := @State.setF_frame
  simp [↓hfite, ↓hf1, ↓hf2, State.setLogicMode]

theorem State.podFail_frame (s : State) (p : ℕ) (cause : ℕ) :
    (State.podFail s p cause).now = s.now ∧ (State.podFail s p cause).pending = s.pending ∧
    (State.podFail s p cause).regs0 = s.regs0 ∧ (State.podFail s p cause).freeCtr = s.freeCtr ∧
    (State.podFail s p cause).mode = s.mode ∧ (State.podFail s p cause).mram.keyCnt = s.mram.keyCnt ∧
    (State.podFail s p cause).mram.boot = s.mram.boot ∧ (State.podFail s p cause).sys = s.sys ∧
    (State.podFail s p cause).ana = s.ana ∧ (State.podFail s p cause).aux = s.aux ∧
    (State.podFail s p cause).flt = s.flt ∧ (State.podFail s p cause).tim = s.tim ∧
    (State.podFail s p cause).net = s.net ∧ (State.podFail s p cause).prt = s.prt ∧
    (State.podFail s p cause).trp = s.trp ∧ (State.podFail s p cause).lgc = s.lgc ∧
    (State.podFail s p cause).gsv = s.gsv ∧ (State.podFail s p cause).tph = s.tph ∧
    (State.podFail s p cause).oz = s.oz ∧ (State.podFail s p cause).sec = s.sec ∧
    (State.podFail s p cause).cmd = s.cmd := by
  have hfite := @State.ite_frame
  have hf1 := @State.setLogicMode_frame
  have hf2 := @State.setFlag_frame
  have hf3 := @State.raise_frame
  have hf4 := @State.setPod_frame
  have hf5 := @State.setF_frame
  simp [↓hfite, ↓hf1, ↓hf2, ↓hf3, ↓hf4, ↓hf5, State.podFail]

theorem State.oddCore_frame (s : State) (p : ℕ) (x : ℕ) :
    (State.oddCore s p x).now = s.now ∧ (State.oddCore s p x).pending = s.pending ∧
    (State.oddCore s p x).regs0 = s.regs0 ∧ (State.oddCore s p x).freeCtr = s.freeCtr ∧
    (State.oddCore s p x).mode = s.mode ∧ (State.oddCore s p x).mram.keyCnt = s.mram.keyCnt ∧
    (State.oddCore s p x).mram.boot = s.mram.boot ∧ (State.oddCore s p x).sys = s.sys ∧
    (State.oddCore s p x).ana = s.ana ∧ (State.oddCore s p x).aux = s.aux ∧ (State.oddCore s p x).flt = s.flt ∧
    (State.oddCore s p x).tim = s.tim ∧ (State.oddCore s p x).net = s.net ∧ (State.oddCore s p x).prt = s.prt ∧
    (State.oddCore s p x).trp = s.trp ∧ (State.oddCore s p x).lgc = s.lgc ∧ (State.oddCore s p x).gsv = s.gsv ∧
    (State.oddCore s p x).tph = s.tph ∧ (State.oddCore s p x).oz = s.oz ∧ (State.oddCore s p x).sec = s.sec ∧
    (State.oddCore s p x).cmd = s.cmd := by
  have hfite := @State.ite_frame
  have hf1 := @State.setRun_frame
  have hf2 := @State.setF_frame
  have hf3 := @State.podFail_frame
  have hf4 := @State.raise_frame
  have hf5 := @State.setPod_frame
  simp [↓hfite, ↓hf1, ↓hf2, ↓hf3, ↓hf4, ↓hf5, State.oddCore]

theorem sinkReportEff_frame (p : ℕ) (core : ℕ) (s : State) :
    (sinkReportEff p core s).now = s.now ∧ (sinkReportEff p core s).pending = s.pending ∧
    (sinkReportEff p core s).regs0 = s.regs0 ∧ (sinkReportEff p core s).freeCtr = s.freeCtr ∧
    (sinkReportEff p core s).mode = s.mode ∧ (sinkReportEff p core s).mram.keyCnt = s.mram.keyCnt ∧
    (sinkReportEff p core s).mram.boot = s.mram.boot ∧ (sinkReportEff p core s).sys = s.sys ∧
    (sinkReportEff p core s).ana = s.ana ∧ (sinkReportEff p core s).aux = s.aux ∧
    (sinkReportEff p core s).flt = s.flt ∧ (sinkReportEff p core s).tim = s.tim ∧
    (sinkReportEff p core s).net = s.net ∧ (sinkReportEff p core s).prt = s.prt ∧
    (sinkReportEff p core s).trp = s.trp ∧ (sinkReportEff p core s).lgc = s.lgc ∧
    (sinkReportEff p core s).gsv = s.gsv ∧ (sinkReportEff p core s).tph = s.tph ∧
    (sinkReportEff p core s).oz = s.oz ∧ (sinkReportEff p core s).sec = s.sec ∧ (sinkReportEff p core s).cmd = s.cmd := by
  have hfite := @State.ite_frame
  have hf1 := @State.oddCore_frame
  have hf2 := @State.incSat_frame
  have hf3 := @State.podFail_frame
  simp [↓hfite, ↓hf1, ↓hf2, ↓hf3, sinkReportEff]

theorem resyncCompleteEff_frame (p : ℕ) (cycles : ℕ) (s : State) :
    (resyncCompleteEff p cycles s).now = s.now ∧ (resyncCompleteEff p cycles s).pending = s.pending ∧
    (resyncCompleteEff p cycles s).regs0 = s.regs0 ∧ (resyncCompleteEff p cycles s).freeCtr = s.freeCtr ∧
    (resyncCompleteEff p cycles s).mode = s.mode ∧ (resyncCompleteEff p cycles s).mram = s.mram ∧
    (resyncCompleteEff p cycles s).sys = s.sys ∧ (resyncCompleteEff p cycles s).evt = s.evt ∧
    (resyncCompleteEff p cycles s).ana = s.ana ∧ (resyncCompleteEff p cycles s).aux = s.aux ∧
    (resyncCompleteEff p cycles s).flt = s.flt ∧ (resyncCompleteEff p cycles s).tim = s.tim ∧
    (resyncCompleteEff p cycles s).net = s.net ∧ (resyncCompleteEff p cycles s).prt = s.prt ∧
    (resyncCompleteEff p cycles s).trp = s.trp ∧ (resyncCompleteEff p cycles s).lgc = s.lgc ∧
    (resyncCompleteEff p cycles s).gsv = s.gsv ∧ (resyncCompleteEff p cycles s).tph = s.tph ∧
    (resyncCompleteEff p cycles s).oz = s.oz ∧ (resyncCompleteEff p cycles s).sec = s.sec ∧
    (resyncCompleteEff p cycles s).cmd = s.cmd := by
  have hf1 := @State.setF_frame
  have hf2 := @State.incSat_frame
  have hf3 := @State.setRun_frame
  have hf4 := @State.setPod_frame
  unfold resyncCompleteEff
  (repeat' split) <;> simp [↓hf1, ↓hf2, ↓hf3, ↓hf4]

theorem resyncWindowAgeingEff_frame (p : ℕ) (core : ℕ) (s : State) :
    (resyncWindowAgeingEff p core s).now = s.now ∧ (resyncWindowAgeingEff p core s).pending = s.pending ∧
    (resyncWindowAgeingEff p core s).regs0 = s.regs0 ∧ (resyncWindowAgeingEff p core s).freeCtr = s.freeCtr ∧
    (resyncWindowAgeingEff p core s).mode = s.mode ∧ (resyncWindowAgeingEff p core s).mram = s.mram ∧
    (resyncWindowAgeingEff p core s).sys = s.sys ∧ (resyncWindowAgeingEff p core s).evt = s.evt ∧
    (resyncWindowAgeingEff p core s).ana = s.ana ∧ (resyncWindowAgeingEff p core s).aux = s.aux ∧
    (resyncWindowAgeingEff p core s).flt = s.flt ∧ (resyncWindowAgeingEff p core s).tim = s.tim ∧
    (resyncWindowAgeingEff p core s).net = s.net ∧ (resyncWindowAgeingEff p core s).prt = s.prt ∧
    (resyncWindowAgeingEff p core s).trp = s.trp ∧ (resyncWindowAgeingEff p core s).lgc = s.lgc ∧
    (resyncWindowAgeingEff p core s).gsv = s.gsv ∧ (resyncWindowAgeingEff p core s).tph = s.tph ∧
    (resyncWindowAgeingEff p core s).oz = s.oz ∧ (resyncWindowAgeingEff p core s).sec = s.sec ∧
    (resyncWindowAgeingEff p core s).cmd = s.cmd := by
  have hf1 := @State.setF_frame
  have hf2 := @State.setPod_frame
  simp [↓hf1, ↓hf2, resyncWindowAgeingEff]

theorem State.podErr_frame (s : State) (p : ℕ) (a : ℕ) (double : Bool) (scrub : Bool) :
    (State.podErr s p a double scrub).now = s.now ∧ (State.podErr s p a double scrub).pending = s.pending ∧
    (State.podErr s p a double scrub).regs0 = s.regs0 ∧ (State.podErr s p a double scrub).freeCtr = s.freeCtr ∧
    (State.podErr s p a double scrub).mode = s.mode ∧ (State.podErr s p a double scrub).mram = s.mram ∧
    (State.podErr s p a double scrub).sys = s.sys ∧ (State.podErr s p a double scrub).evt = s.evt ∧
    (State.podErr s p a double scrub).ana = s.ana ∧ (State.podErr s p a double scrub).aux = s.aux ∧
    (State.podErr s p a double scrub).flt = s.flt ∧ (State.podErr s p a double scrub).tim = s.tim ∧
    (State.podErr s p a double scrub).net = s.net ∧ (State.podErr s p a double scrub).prt = s.prt ∧
    (State.podErr s p a double scrub).trp = s.trp ∧ (State.podErr s p a double scrub).pod = s.pod ∧
    (State.podErr s p a double scrub).lgc = s.lgc ∧ (State.podErr s p a double scrub).gsv = s.gsv ∧
    (State.podErr s p a double scrub).tph = s.tph ∧ (State.podErr s p a double scrub).oz = s.oz ∧
    (State.podErr s p a double scrub).sec = s.sec ∧ (State.podErr s p a double scrub).cmd = s.cmd := by
  have hf1 := @State.setFlag_frame
  have hf2 := @State.setF_frame
  simp [↓hf1, ↓hf2, State.podErr]

theorem State.memError_frame (s : State) (p : ℕ) (a : ℕ) (bits : ℕ) (scrub : Bool) :
    (State.memError s p a bits scrub).now = s.now ∧ (State.memError s p a bits scrub).pending = s.pending ∧
    (State.memError s p a bits scrub).regs0 = s.regs0 ∧ (State.memError s p a bits scrub).freeCtr = s.freeCtr ∧
    (State.memError s p a bits scrub).mode = s.mode ∧ (State.memError s p a bits scrub).mram.keyCnt = s.mram.keyCnt ∧
    (State.memError s p a bits scrub).mram.boot = s.mram.boot ∧ (State.memError s p a bits scrub).sys = s.sys ∧
    (State.memError s p a bits scrub).ana = s.ana ∧ (State.memError s p a bits scrub).aux = s.aux ∧
    (State.memError s p a bits scrub).flt = s.flt ∧ (State.memError s p a bits scrub).tim = s.tim ∧
    (State.memError s p a bits scrub).net = s.net ∧ (State.memError s p a bits scrub).prt = s.prt ∧
    (State.memError s p a bits scrub).trp = s.trp ∧ (State.memError s p a bits scrub).lgc = s.lgc ∧
    (State.memError s p a bits scrub).gsv = s.gsv ∧ (State.memError s p a bits scrub).tph = s.tph ∧
    (State.memError s p a bits scrub).oz = s.oz ∧ (State.memError s p a bits scrub).sec = s.sec ∧
    (State.memError s p a bits scrub).cmd = s.cmd := by
  have hfite := @State.ite_frame
  have hf1 := @State.podErr_frame
  have hf2 := @State.incSat_frame
  have hf3 := @State.podFail_frame
  have hf4 := @State.raise_frame
  simp [↓hfite, ↓hf1, ↓hf2, ↓hf3, ↓hf4, State.memError]

theorem coreMemoryReadEff_frame (p : ℕ) (a : ℕ) (bits : ℕ) (s : State) :
    (coreMemoryReadEff p a bits s).now = s.now ∧ (coreMemoryReadEff p a bits s).pending = s.pending ∧
    (coreMemoryReadEff p a bits s).regs0 = s.regs0 ∧ (coreMemoryReadEff p a bits s).freeCtr = s.freeCtr ∧
    (coreMemoryReadEff p a bits s).mode = s.mode ∧ (coreMemoryReadEff p a bits s).mram.keyCnt = s.mram.keyCnt ∧
    (coreMemoryReadEff p a bits s).mram.boot = s.mram.boot ∧ (coreMemoryReadEff p a bits s).sys = s.sys ∧
    (coreMemoryReadEff p a bits s).ana = s.ana ∧ (coreMemoryReadEff p a bits s).aux = s.aux ∧
    (coreMemoryReadEff p a bits s).flt = s.flt ∧ (coreMemoryReadEff p a bits s).tim = s.tim ∧
    (coreMemoryReadEff p a bits s).net = s.net ∧ (coreMemoryReadEff p a bits s).prt = s.prt ∧
    (coreMemoryReadEff p a bits s).trp = s.trp ∧ (coreMemoryReadEff p a bits s).lgc = s.lgc ∧
    (coreMemoryReadEff p a bits s).gsv = s.gsv ∧ (coreMemoryReadEff p a bits s).tph = s.tph ∧
    (coreMemoryReadEff p a bits s).oz = s.oz ∧ (coreMemoryReadEff p a bits s).sec = s.sec ∧
    (coreMemoryReadEff p a bits s).cmd = s.cmd := by
  have hfite := @State.ite_frame
  have hf1 := @State.memError_frame
  simp [↓hfite, ↓hf1, coreMemoryReadEff]

theorem scrubSlotEff_frame (p : ℕ) (bits : ℕ) (s : State) :
    (scrubSlotEff p bits s).now = s.now ∧ (scrubSlotEff p bits s).pending = s.pending ∧
    (scrubSlotEff p bits s).regs0 = s.regs0 ∧ (scrubSlotEff p bits s).freeCtr = s.freeCtr ∧
    (scrubSlotEff p bits s).mode = s.mode ∧ (scrubSlotEff p bits s).mram.keyCnt = s.mram.keyCnt ∧
    (scrubSlotEff p bits s).mram.boot = s.mram.boot ∧ (scrubSlotEff p bits s).sys = s.sys ∧
    (scrubSlotEff p bits s).ana = s.ana ∧ (scrubSlotEff p bits s).aux = s.aux ∧ (scrubSlotEff p bits s).flt = s.flt ∧
    (scrubSlotEff p bits s).tim = s.tim ∧ (scrubSlotEff p bits s).net = s.net ∧ (scrubSlotEff p bits s).prt = s.prt ∧
    (scrubSlotEff p bits s).trp = s.trp ∧ (scrubSlotEff p bits s).lgc = s.lgc ∧ (scrubSlotEff p bits s).gsv = s.gsv ∧
    (scrubSlotEff p bits s).tph = s.tph ∧ (scrubSlotEff p bits s).oz = s.oz ∧ (scrubSlotEff p bits s).sec = s.sec ∧
    (scrubSlotEff p bits s).cmd = s.cmd := by
  have hfite := @State.ite_frame
  have hf1 := @State.setF_frame
  have hf2 := @State.raise_frame
  have hf3 := @State.setPod_frame
  have hf4 := @State.memError_frame
  have hf5 := @State.incWrap_frame
  simp [↓hfite, ↓hf1, ↓hf2, ↓hf3, ↓hf4, ↓hf5, scrubSlotEff]

end Sys2Proof.Machine
end

