-- ==== Sys2Proof/Laws/FrameBlocks.lean ====
section
/-!
SUPPORT. What the operations of Machine/Blocks.lean leave as it was: one lemma per operation, over the parts of the state.
-/
set_option linter.all false
set_option Elab.async false
namespace Sys2Proof.Machine
theorem State.setProg_frame (s : State) (k : ℕ) (p : ProgSt) :
    (State.setProg s k p).now = s.now ∧ (State.setProg s k p).pending = s.pending ∧
    (State.setProg s k p).regs0 = s.regs0 ∧ (State.setProg s k p).freeCtr = s.freeCtr ∧
    (State.setProg s k p).mode = s.mode ∧ (State.setProg s k p).mram = s.mram ∧ (State.setProg s k p).sys = s.sys ∧
    (State.setProg s k p).evt = s.evt ∧ (State.setProg s k p).ana = s.ana ∧ (State.setProg s k p).aux = s.aux ∧
    (State.setProg s k p).flt = s.flt ∧ (State.setProg s k p).tim = s.tim ∧ (State.setProg s k p).net = s.net ∧
    (State.setProg s k p).prt = s.prt ∧ (State.setProg s k p).trp = s.trp ∧ (State.setProg s k p).pod = s.pod ∧
    (State.setProg s k p).gsv = s.gsv ∧ (State.setProg s k p).tph = s.tph ∧ (State.setProg s k p).oz = s.oz ∧
    (State.setProg s k p).sec = s.sec ∧ (State.setProg s k p).cmd = s.cmd ∧ (State.setProg s k p).regs = s.regs := by
  simp [State.setProg]

theorem State.endCall_frame (s : State) (k : ℕ) (c : CallCtx) (outs : List ℕ) (x : BlkInt) :
    (State.endCall s k c outs x).now = s.now ∧ (State.endCall s k c outs x).pending = s.pending ∧
    (State.endCall s k c outs x).regs0 = s.regs0 ∧ (State.endCall s k c outs x).freeCtr = s.freeCtr ∧
    (State.endCall s k c outs x).mode = s.mode ∧ (State.endCall s k c outs x).mram = s.mram ∧
    (State.endCall s k c outs x).sys = s.sys ∧ (State.endCall s k c outs x).evt = s.evt ∧
    (State.endCall s k c outs x).ana = s.ana ∧ (State.endCall s k c outs x).aux = s.aux ∧
    (State.endCall s k c outs x).flt = s.flt ∧ (State.endCall s k c outs x).tim = s.tim ∧
    (State.endCall s k c outs x).net = s.net ∧ (State.endCall s k c outs x).prt = s.prt ∧
    (State.endCall s k c outs x).trp = s.trp ∧ (State.endCall s k c outs x).pod = s.pod ∧
    (State.endCall s k c outs x).gsv = s.gsv ∧ (State.endCall s k c outs x).tph = s.tph ∧
    (State.endCall s k c outs x).oz = s.oz ∧ (State.endCall s k c outs x).sec = s.sec ∧
    (State.endCall s k c outs x).cmd = s.cmd ∧ (State.endCall s k c outs x).regs = s.regs := by
  have hf1 := @State.setProg_frame
  simp [↓hf1, State.endCall]
  (repeat' split) <;> simp [↓hf1]

theorem State.mapScan_frame (s : State) (k : ℕ) (f : Scan → Scan) :
    (State.mapScan s k f).now = s.now ∧ (State.mapScan s k f).pending = s.pending ∧
    (State.mapScan s k f).regs0 = s.regs0 ∧ (State.mapScan s k f).freeCtr = s.freeCtr ∧
    (State.mapScan s k f).mode = s.mode ∧ (State.mapScan s k f).mram = s.mram ∧ (State.mapScan s k f).sys = s.sys ∧
    (State.mapScan s k f).evt = s.evt ∧ (State.mapScan s k f).ana = s.ana ∧ (State.mapScan s k f).aux = s.aux ∧
    (State.mapScan s k f).flt = s.flt ∧ (State.mapScan s k f).tim = s.tim ∧ (State.mapScan s k f).net = s.net ∧
    (State.mapScan s k f).prt = s.prt ∧ (State.mapScan s k f).trp = s.trp ∧ (State.mapScan s k f).pod = s.pod ∧
    (State.mapScan s k f).gsv = s.gsv ∧ (State.mapScan s k f).tph = s.tph ∧ (State.mapScan s k f).oz = s.oz ∧
    (State.mapScan s k f).sec = s.sec ∧ (State.mapScan s k f).cmd = s.cmd ∧ (State.mapScan s k f).regs = s.regs := by
  have hf1 := @State.setProg_frame
  simp [↓hf1, State.mapScan]

theorem State.scanEvt_frame (s : State) (k : ℕ) (n : ℕ) (p1 : ℕ) (p2 : ℕ) :
    (State.scanEvt s k n p1 p2).now = s.now ∧ (State.scanEvt s k n p1 p2).pending = s.pending ∧
    (State.scanEvt s k n p1 p2).regs0 = s.regs0 ∧ (State.scanEvt s k n p1 p2).freeCtr = s.freeCtr ∧
    (State.scanEvt s k n p1 p2).mode = s.mode ∧ (State.scanEvt s k n p1 p2).mram = s.mram ∧
    (State.scanEvt s k n p1 p2).sys = s.sys ∧ (State.scanEvt s k n p1 p2).evt = s.evt ∧
    (State.scanEvt s k n p1 p2).ana = s.ana ∧ (State.scanEvt s k n p1 p2).aux = s.aux ∧
    (State.scanEvt s k n p1 p2).flt = s.flt ∧ (State.scanEvt s k n p1 p2).tim = s.tim ∧
    (State.scanEvt s k n p1 p2).net = s.net ∧ (State.scanEvt s k n p1 p2).prt = s.prt ∧
    (State.scanEvt s k n p1 p2).trp = s.trp ∧ (State.scanEvt s k n p1 p2).pod = s.pod ∧
    (State.scanEvt s k n p1 p2).gsv = s.gsv ∧ (State.scanEvt s k n p1 p2).tph = s.tph ∧
    (State.scanEvt s k n p1 p2).oz = s.oz ∧ (State.scanEvt s k n p1 p2).sec = s.sec ∧
    (State.scanEvt s k n p1 p2).cmd = s.cmd ∧ (State.scanEvt s k n p1 p2).regs = s.regs := by
  have hfite := @State.ite_frame
  have hf1 := @State.mapScan_frame
  simp [↓hfite, ↓hf1, State.scanEvt]

theorem State.runAlarm_frame (s : State) (k : ℕ) (c : CallCtx) :
    (State.runAlarm s k c).now = s.now ∧ (State.runAlarm s k c).pending = s.pending ∧
    (State.runAlarm s k c).regs0 = s.regs0 ∧ (State.runAlarm s k c).freeCtr = s.freeCtr ∧
    (State.runAlarm s k c).mode = s.mode ∧ (State.runAlarm s k c).mram = s.mram ∧
    (State.runAlarm s k c).sys = s.sys ∧ (State.runAlarm s k c).evt = s.evt ∧ (State.runAlarm s k c).ana = s.ana ∧
    (State.runAlarm s k c).aux = s.aux ∧ (State.runAlarm s k c).flt = s.flt ∧ (State.runAlarm s k c).tim = s.tim ∧
    (State.runAlarm s k c).net = s.net ∧ (State.runAlarm s k c).prt = s.prt ∧ (State.runAlarm s k c).trp = s.trp ∧
    (State.runAlarm s k c).pod = s.pod ∧ (State.runAlarm s k c).gsv = s.gsv ∧ (State.runAlarm s k c).tph = s.tph ∧
    (State.runAlarm s k c).oz = s.oz ∧ (State.runAlarm s k c).sec = s.sec ∧ (State.runAlarm s k c).cmd = s.cmd ∧
    (State.runAlarm s k c).regs = s.regs := by
  have hfite := @State.ite_frame
  have hf1 := @State.scanEvt_frame
  have hf2 := @State.endCall_frame
  simp [↓hfite, ↓hf1, ↓hf2, State.runAlarm]

theorem State.runAr_frame (s : State) (k : ℕ) (c : CallCtx) :
    (State.runAr s k c).now = s.now ∧ (State.runAr s k c).pending = s.pending ∧ (State.runAr s k c).regs0 = s.regs0 ∧
    (State.runAr s k c).freeCtr = s.freeCtr ∧ (State.runAr s k c).mode = s.mode ∧ (State.runAr s k c).mram = s.mram ∧
    (State.runAr s k c).sys = s.sys ∧ (State.runAr s k c).evt = s.evt ∧ (State.runAr s k c).ana = s.ana ∧
    (State.runAr s k c).aux = s.aux ∧ (State.runAr s k c).flt = s.flt ∧ (State.runAr s k c).tim = s.tim ∧
    (State.runAr s k c).net = s.net ∧ (State.runAr s k c).prt = s.prt ∧ (State.runAr s k c).trp = s.trp ∧
    (State.runAr s k c).pod = s.pod ∧ (State.runAr s k c).gsv = s.gsv ∧ (State.runAr s k c).tph = s.tph ∧
    (State.runAr s k c).oz = s.oz ∧ (State.runAr s k c).sec = s.sec ∧ (State.runAr s k c).cmd = s.cmd ∧
    (State.runAr s k c).regs = s.regs := by
  have hfite := @State.ite_frame
  have hf1 := @State.scanEvt_frame
  have hf2 := @State.endCall_frame
  simp [↓hfite, ↓hf1, ↓hf2, State.runAr]

theorem State.runBkr_frame (s : State) (k : ℕ) (c : CallCtx) :
    (State.runBkr s k c).now = s.now ∧ (State.runBkr s k c).pending = s.pending ∧
    (State.runBkr s k c).regs0 = s.regs0 ∧ (State.runBkr s k c).freeCtr = s.freeCtr ∧
    (State.runBkr s k c).mode = s.mode ∧ (State.runBkr s k c).mram = s.mram ∧ (State.runBkr s k c).sys = s.sys ∧
    (State.runBkr s k c).evt = s.evt ∧ (State.runBkr s k c).ana = s.ana ∧ (State.runBkr s k c).aux = s.aux ∧
    (State.runBkr s k c).flt = s.flt ∧ (State.runBkr s k c).tim = s.tim ∧ (State.runBkr s k c).net = s.net ∧
    (State.runBkr s k c).prt = s.prt ∧ (State.runBkr s k c).trp = s.trp ∧ (State.runBkr s k c).pod = s.pod ∧
    (State.runBkr s k c).gsv = s.gsv ∧ (State.runBkr s k c).tph = s.tph ∧ (State.runBkr s k c).oz = s.oz ∧
    (State.runBkr s k c).sec = s.sec ∧ (State.runBkr s k c).cmd = s.cmd := by
  have hfite := @State.ite_frame
  have hf1 := @State.addSat_frame
  have hf2 := @State.scanEvt_frame
  have hf3 := @State.endCall_frame
  simp [↓hfite, ↓hf1, ↓hf2, ↓hf3, State.runBkr]

theorem State.runRectrg_frame (s : State) (k : ℕ) (c : CallCtx) :
    (State.runRectrg s k c).now = s.now ∧ (State.runRectrg s k c).pending = s.pending ∧
    (State.runRectrg s k c).regs0 = s.regs0 ∧ (State.runRectrg s k c).freeCtr = s.freeCtr ∧
    (State.runRectrg s k c).mode = s.mode ∧ (State.runRectrg s k c).mram = s.mram ∧
    (State.runRectrg s k c).sys = s.sys ∧ (State.runRectrg s k c).evt = s.evt ∧ (State.runRectrg s k c).ana = s.ana ∧
    (State.runRectrg s k c).aux = s.aux ∧ (State.runRectrg s k c).flt = s.flt ∧ (State.runRectrg s k c).tim = s.tim ∧
    (State.runRectrg s k c).net = s.net ∧ (State.runRectrg s k c).prt = s.prt ∧ (State.runRectrg s k c).trp = s.trp ∧
    (State.runRectrg s k c).pod = s.pod ∧ (State.runRectrg s k c).gsv = s.gsv ∧ (State.runRectrg s k c).tph = s.tph ∧
    (State.runRectrg s k c).oz = s.oz ∧ (State.runRectrg s k c).sec = s.sec ∧ (State.runRectrg s k c).cmd = s.cmd ∧
    (State.runRectrg s k c).regs = s.regs := by
  have hf1 := @State.endCall_frame
  have hf2 := @State.mapScan_frame
  simp [↓hf1, ↓hf2, State.runRectrg]

theorem State.runGset_frame (s : State) (k : ℕ) (c : CallCtx) :
    (State.runGset s k c).now = s.now ∧ (State.runGset s k c).pending = s.pending ∧
    (State.runGset s k c).regs0 = s.regs0 ∧ (State.runGset s k c).freeCtr = s.freeCtr ∧
    (State.runGset s k c).mode = s.mode ∧ (State.runGset s k c).mram = s.mram ∧ (State.runGset s k c).sys = s.sys ∧
    (State.runGset s k c).evt = s.evt ∧ (State.runGset s k c).ana = s.ana ∧ (State.runGset s k c).aux = s.aux ∧
    (State.runGset s k c).flt = s.flt ∧ (State.runGset s k c).tim = s.tim ∧ (State.runGset s k c).net = s.net ∧
    (State.runGset s k c).prt = s.prt ∧ (State.runGset s k c).trp = s.trp ∧ (State.runGset s k c).pod = s.pod ∧
    (State.runGset s k c).gsv = s.gsv ∧ (State.runGset s k c).tph = s.tph ∧ (State.runGset s k c).oz = s.oz ∧
    (State.runGset s k c).sec = s.sec ∧ (State.runGset s k c).cmd = s.cmd ∧ (State.runGset s k c).regs = s.regs := by
  have hf1 := @State.endCall_frame
  have hf2 := @State.mapScan_frame
  simp [↓hf1, ↓hf2, State.runGset]

theorem State.runPure_frame (s : State) (k : ℕ) (c : CallCtx) (f : CallCtx → BlkOut) :
    (State.runPure s k c f).now = s.now ∧ (State.runPure s k c f).pending = s.pending ∧
    (State.runPure s k c f).regs0 = s.regs0 ∧ (State.runPure s k c f).freeCtr = s.freeCtr ∧
    (State.runPure s k c f).mode = s.mode ∧ (State.runPure s k c f).mram = s.mram ∧
    (State.runPure s k c f).sys = s.sys ∧ (State.runPure s k c f).evt = s.evt ∧ (State.runPure s k c f).ana = s.ana ∧
    (State.runPure s k c f).aux = s.aux ∧ (State.runPure s k c f).flt = s.flt ∧ (State.runPure s k c f).tim = s.tim ∧
    (State.runPure s k c f).net = s.net ∧ (State.runPure s k c f).prt = s.prt ∧ (State.runPure s k c f).trp = s.trp ∧
    (State.runPure s k c f).pod = s.pod ∧ (State.runPure s k c f).gsv = s.gsv ∧ (State.runPure s k c f).tph = s.tph ∧
    (State.runPure s k c f).oz = s.oz ∧ (State.runPure s k c f).sec = s.sec ∧ (State.runPure s k c f).cmd = s.cmd ∧
    (State.runPure s k c f).regs = s.regs := by
  have hf1 := @State.endCall_frame
  simp [↓hf1, State.runPure]

theorem State.runEnd_frame (s : State) (k : ℕ) :
    (State.runEnd s k).now = s.now ∧ (State.runEnd s k).pending = s.pending ∧ (State.runEnd s k).regs0 = s.regs0 ∧
    (State.runEnd s k).freeCtr = s.freeCtr ∧ (State.runEnd s k).mode = s.mode ∧ (State.runEnd s k).mram = s.mram ∧
    (State.runEnd s k).sys = s.sys ∧ (State.runEnd s k).evt = s.evt ∧ (State.runEnd s k).ana = s.ana ∧
    (State.runEnd s k).aux = s.aux ∧ (State.runEnd s k).flt = s.flt ∧ (State.runEnd s k).tim = s.tim ∧
    (State.runEnd s k).net = s.net ∧ (State.runEnd s k).prt = s.prt ∧ (State.runEnd s k).trp = s.trp ∧
    (State.runEnd s k).pod = s.pod ∧ (State.runEnd s k).gsv = s.gsv ∧ (State.runEnd s k).tph = s.tph ∧
    (State.runEnd s k).oz = s.oz ∧ (State.runEnd s k).sec = s.sec ∧ (State.runEnd s k).cmd = s.cmd ∧
    (State.runEnd s k).regs = s.regs := by
  have hf1 := @State.mapScan_frame
  simp [↓hf1, State.runEnd]

theorem State.execNext_frame (s : State) (k : ℕ) :
    (State.execNext s k).now = s.now ∧ (State.execNext s k).pending = s.pending ∧
    (State.execNext s k).regs0 = s.regs0 ∧ (State.execNext s k).freeCtr = s.freeCtr ∧
    (State.execNext s k).mode = s.mode ∧ (State.execNext s k).mram = s.mram ∧ (State.execNext s k).sys = s.sys ∧
    (State.execNext s k).evt = s.evt ∧ (State.execNext s k).ana = s.ana ∧ (State.execNext s k).aux = s.aux ∧
    (State.execNext s k).flt = s.flt ∧ (State.execNext s k).tim = s.tim ∧ (State.execNext s k).net = s.net ∧
    (State.execNext s k).prt = s.prt ∧ (State.execNext s k).trp = s.trp ∧ (State.execNext s k).pod = s.pod ∧
    (State.execNext s k).gsv = s.gsv ∧ (State.execNext s k).tph = s.tph ∧ (State.execNext s k).oz = s.oz ∧
    (State.execNext s k).sec = s.sec ∧ (State.execNext s k).cmd = s.cmd := by
  have hf1 := @State.runPure_frame
  have hf2 := @State.runEnd_frame
  have hf3 := @State.runBkr_frame
  have hf4 := @State.runAr_frame
  have hf5 := @State.runRectrg_frame
  have hf6 := @State.runAlarm_frame
  have hf7 := @State.runGset_frame
  unfold State.execNext
  (repeat' split) <;> simp [↓hf1, ↓hf2, ↓hf3, ↓hf4, ↓hf5, ↓hf6, ↓hf7]

theorem State.onCall_now (s : State) (k ty : Nat) (f : CallCtx → State → State)
    (h : ∀ c s, (f c s).now = s.now) : (s.onCall k ty f).now = s.now := by
  unfold State.onCall
  (repeat' split) <;> simp [h]

theorem State.onCall_pending (s : State) (k ty : Nat) (f : CallCtx → State → State)
    (h : ∀ c s, (f c s).pending = s.pending) : (s.onCall k ty f).pending = s.pending := by
  unfold State.onCall
  (repeat' split) <;> simp [h]

theorem State.onCall_regs0 (s : State) (k ty : Nat) (f : CallCtx → State → State)
    (h : ∀ c s, (f c s).regs0 = s.regs0) : (s.onCall k ty f).regs0 = s.regs0 := by
  unfold State.onCall
  (repeat' split) <;> simp [h]

theorem State.onCall_freeCtr (s : State) (k ty : Nat) (f : CallCtx → State → State)
    (h : ∀ c s, (f c s).freeCtr = s.freeCtr) : (s.onCall k ty f).freeCtr = s.freeCtr := by
  unfold State.onCall
  (repeat' split) <;> simp [h]

theorem State.onCall_mode (s : State) (k ty : Nat) (f : CallCtx → State → State)
    (h : ∀ c s, (f c s).mode = s.mode) : (s.onCall k ty f).mode = s.mode := by
  unfold State.onCall
  (repeat' split) <;> simp [h]

theorem State.onCall_mram (s : State) (k ty : Nat) (f : CallCtx → State → State)
    (h : ∀ c s, (f c s).mram = s.mram) : (s.onCall k ty f).mram = s.mram := by
  unfold State.onCall
  (repeat' split) <;> simp [h]

theorem State.onCall_sys (s : State) (k ty : Nat) (f : CallCtx → State → State)
    (h : ∀ c s, (f c s).sys = s.sys) : (s.onCall k ty f).sys = s.sys := by
  unfold State.onCall
  (repeat' split) <;> simp [h]

theorem State.onCall_evt (s : State) (k ty : Nat) (f : CallCtx → State → State)
    (h : ∀ c s, (f c s).evt = s.evt) : (s.onCall k ty f).evt = s.evt := by
  unfold State.onCall
  (repeat' split) <;> simp [h]

theorem State.onCall_ana (s : State) (k ty : Nat) (f : CallCtx → State → State)
    (h : ∀ c s, (f c s).ana = s.ana) : (s.onCall k ty f).ana = s.ana := by
  unfold State.onCall
  (repeat' split) <;> simp [h]

theorem State.onCall_aux (s : State) (k ty : Nat) (f : CallCtx → State → State)
    (h : ∀ c s, (f c s).aux = s.aux) : (s.onCall k ty f).aux = s.aux := by
  unfold State.onCall
  (repeat' split) <;> simp [h]

theorem State.onCall_flt (s : State) (k ty : Nat) (f : CallCtx → State → State)
    (h : ∀ c s, (f c s).flt = s.flt) : (s.onCall k ty f).flt = s.flt := by
  unfold State.onCall
  (repeat' split) <;> simp [h]

theorem State.onCall_tim (s : State) (k ty : Nat) (f : CallCtx → State → State)
    (h : ∀ c s, (f c s).tim = s.tim) : (s.onCall k ty f).tim = s.tim := by
  unfold State.onCall
  (repeat' split) <;> simp [h]

theorem State.onCall_net (s : State) (k ty : Nat) (f : CallCtx → State → State)
    (h : ∀ c s, (f c s).net = s.net) : (s.onCall k ty f).net = s.net := by
  unfold State.onCall
  (repeat' split) <;> simp [h]

theorem State.onCall_prt (s : State) (k ty : Nat) (f : CallCtx → State → State)
    (h : ∀ c s, (f c s).prt = s.prt) : (s.onCall k ty f).prt = s.prt := by
  unfold State.onCall
  (repeat' split) <;> simp [h]

theorem State.onCall_trp (s : State) (k ty : Nat) (f : CallCtx → State → State)
    (h : ∀ c s, (f c s).trp = s.trp) : (s.onCall k ty f).trp = s.trp := by
  unfold State.onCall
  (repeat' split) <;> simp [h]

theorem State.onCall_pod (s : State) (k ty : Nat) (f : CallCtx → State → State)
    (h : ∀ c s, (f c s).pod = s.pod) : (s.onCall k ty f).pod = s.pod := by
  unfold State.onCall
  (repeat' split) <;> simp [h]

theorem State.onCall_lgc (s : State) (k ty : Nat) (f : CallCtx → State → State)
    (h : ∀ c s, (f c s).lgc = s.lgc) : (s.onCall k ty f).lgc = s.lgc := by
  unfold State.onCall
  (repeat' split) <;> simp [h]

theorem State.onCall_gsv (s : State) (k ty : Nat) (f : CallCtx → State → State)
    (h : ∀ c s, (f c s).gsv = s.gsv) : (s.onCall k ty f).gsv = s.gsv := by
  unfold State.onCall
  (repeat' split) <;> simp [h]

theorem State.onCall_tph (s : State) (k ty : Nat) (f : CallCtx → State → State)
    (h : ∀ c s, (f c s).tph = s.tph) : (s.onCall k ty f).tph = s.tph := by
  unfold State.onCall
  (repeat' split) <;> simp [h]

theorem State.onCall_oz (s : State) (k ty : Nat) (f : CallCtx → State → State)
    (h : ∀ c s, (f c s).oz = s.oz) : (s.onCall k ty f).oz = s.oz := by
  unfold State.onCall
  (repeat' split) <;> simp [h]

theorem State.onCall_sec (s : State) (k ty : Nat) (f : CallCtx → State → State)
    (h : ∀ c s, (f c s).sec = s.sec) : (s.onCall k ty f).sec = s.sec := by
  unfold State.onCall
  (repeat' split) <;> simp [h]

theorem State.onCall_cmd (s : State) (k ty : Nat) (f : CallCtx → State → State)
    (h : ∀ c s, (f c s).cmd = s.cmd) : (s.onCall k ty f).cmd = s.cmd := by
  unfold State.onCall
  (repeat' split) <;> simp [h]

theorem State.onCall_regs (s : State) (k ty : Nat) (f : CallCtx → State → State)
    (h : ∀ c s, (f c s).regs = s.regs) : (s.onCall k ty f).regs = s.regs := by
  unfold State.onCall
  (repeat' split) <;> simp [h]

theorem State.onCall_mram_keyCnt (s : State) (k ty : Nat) (f : CallCtx → State → State)
    (h : ∀ c s, (f c s).mram.keyCnt = s.mram.keyCnt) : (s.onCall k ty f).mram.keyCnt = s.mram.keyCnt := by
  unfold State.onCall
  (repeat' split) <;> simp [h]

theorem State.onCall_mram_boot (s : State) (k ty : Nat) (f : CallCtx → State → State)
    (h : ∀ c s, (f c s).mram.boot = s.mram.boot) : (s.onCall k ty f).mram.boot = s.mram.boot := by
  unfold State.onCall
  (repeat' split) <;> simp [h]

theorem State.onCall_sec_otp (s : State) (k ty : Nat) (f : CallCtx → State → State)
    (h : ∀ c s, (f c s).sec.otp = s.sec.otp) : (s.onCall k ty f).sec.otp = s.sec.otp := by
  unfold State.onCall
  (repeat' split) <;> simp [h]

theorem State.onCall_sec_keys (s : State) (k ty : Nat) (f : CallCtx → State → State)
    (h : ∀ c s, (f c s).sec.keys = s.sec.keys) : (s.onCall k ty f).sec.keys = s.sec.keys := by
  unfold State.onCall
  (repeat' split) <;> simp [h]

theorem State.onCall_cmd_run (s : State) (k ty : Nat) (f : CallCtx → State → State)
    (h : ∀ c s, (f c s).cmd.run = s.cmd.run) : (s.onCall k ty f).cmd.run = s.cmd.run := by
  unfold State.onCall
  (repeat' split) <;> simp [h]

theorem State.onCall_cmd_svc (s : State) (k ty : Nat) (f : CallCtx → State → State)
    (h : ∀ c s, (f c s).cmd.svc = s.cmd.svc) : (s.onCall k ty f).cmd.svc = s.cmd.svc := by
  unfold State.onCall
  (repeat' split) <;> simp [h]

theorem State.onCall_sys_straps (s : State) (k ty : Nat) (f : CallCtx → State → State)
    (h : ∀ c s, (f c s).sys.straps = s.sys.straps) : (s.onCall k ty f).sys.straps = s.sys.straps := by
  unfold State.onCall
  (repeat' split) <;> simp [h]

theorem State.onCall_sys_por (s : State) (k ty : Nat) (f : CallCtx → State → State)
    (h : ∀ c s, (f c s).sys.por = s.sys.por) : (s.onCall k ty f).sys.por = s.sys.por := by
  unfold State.onCall
  (repeat' split) <;> simp [h]

theorem State.onCall_sys_mapOn (s : State) (k ty : Nat) (f : CallCtx → State → State)
    (h : ∀ c s, (f c s).sys.mapOn = s.sys.mapOn) : (s.onCall k ty f).sys.mapOn = s.sys.mapOn := by
  unfold State.onCall
  (repeat' split) <;> simp [h]

/-- A call leaves alone every part of the state that the block it runs leaves alone. -/
theorem State.onCall_frame (s : State) (k ty : Nat) (f : CallCtx → State → State) :
    ((∀ c s, (f c s).now = s.now) → (s.onCall k ty f).now = s.now) ∧
    ((∀ c s, (f c s).pending = s.pending) → (s.onCall k ty f).pending = s.pending) ∧
    ((∀ c s, (f c s).regs0 = s.regs0) → (s.onCall k ty f).regs0 = s.regs0) ∧
    ((∀ c s, (f c s).freeCtr = s.freeCtr) → (s.onCall k ty f).freeCtr = s.freeCtr) ∧
    ((∀ c s, (f c s).mode = s.mode) → (s.onCall k ty f).mode = s.mode) ∧
    ((∀ c s, (f c s).mram = s.mram) → (s.onCall k ty f).mram = s.mram) ∧
    ((∀ c s, (f c s).sys = s.sys) → (s.onCall k ty f).sys = s.sys) ∧
    ((∀ c s, (f c s).evt = s.evt) → (s.onCall k ty f).evt = s.evt) ∧
    ((∀ c s, (f c s).ana = s.ana) → (s.onCall k ty f).ana = s.ana) ∧
    ((∀ c s, (f c s).aux = s.aux) → (s.onCall k ty f).aux = s.aux) ∧
    ((∀ c s, (f c s).flt = s.flt) → (s.onCall k ty f).flt = s.flt) ∧
    ((∀ c s, (f c s).tim = s.tim) → (s.onCall k ty f).tim = s.tim) ∧
    ((∀ c s, (f c s).net = s.net) → (s.onCall k ty f).net = s.net) ∧
    ((∀ c s, (f c s).prt = s.prt) → (s.onCall k ty f).prt = s.prt) ∧
    ((∀ c s, (f c s).trp = s.trp) → (s.onCall k ty f).trp = s.trp) ∧
    ((∀ c s, (f c s).pod = s.pod) → (s.onCall k ty f).pod = s.pod) ∧
    ((∀ c s, (f c s).lgc = s.lgc) → (s.onCall k ty f).lgc = s.lgc) ∧
    ((∀ c s, (f c s).gsv = s.gsv) → (s.onCall k ty f).gsv = s.gsv) ∧
    ((∀ c s, (f c s).tph = s.tph) → (s.onCall k ty f).tph = s.tph) ∧
    ((∀ c s, (f c s).oz = s.oz) → (s.onCall k ty f).oz = s.oz) ∧
    ((∀ c s, (f c s).sec = s.sec) → (s.onCall k ty f).sec = s.sec) ∧
    ((∀ c s, (f c s).cmd = s.cmd) → (s.onCall k ty f).cmd = s.cmd) ∧
    ((∀ c s, (f c s).regs = s.regs) → (s.onCall k ty f).regs = s.regs) ∧
    ((∀ c s, (f c s).mram.keyCnt = s.mram.keyCnt) → (s.onCall k ty f).mram.keyCnt = s.mram.keyCnt) ∧
    ((∀ c s, (f c s).mram.boot = s.mram.boot) → (s.onCall k ty f).mram.boot = s.mram.boot) ∧
    ((∀ c s, (f c s).sec.otp = s.sec.otp) → (s.onCall k ty f).sec.otp = s.sec.otp) ∧
    ((∀ c s, (f c s).sec.keys = s.sec.keys) → (s.onCall k ty f).sec.keys = s.sec.keys) ∧
    ((∀ c s, (f c s).cmd.run = s.cmd.run) → (s.onCall k ty f).cmd.run = s.cmd.run) ∧
    ((∀ c s, (f c s).cmd.svc = s.cmd.svc) → (s.onCall k ty f).cmd.svc = s.cmd.svc) ∧
    ((∀ c s, (f c s).sys.straps = s.sys.straps) → (s.onCall k ty f).sys.straps = s.sys.straps) ∧
    ((∀ c s, (f c s).sys.por = s.sys.por) → (s.onCall k ty f).sys.por = s.sys.por) ∧
    ((∀ c s, (f c s).sys.mapOn = s.sys.mapOn) → (s.onCall k ty f).sys.mapOn = s.sys.mapOn) :=
  ⟨State.onCall_now s k ty f, State.onCall_pending s k ty f, State.onCall_regs0 s k ty f, State.onCall_freeCtr s k ty f, State.onCall_mode s k ty f, State.onCall_mram s k ty f, State.onCall_sys s k ty f, State.onCall_evt s k ty f, State.onCall_ana s k ty f, State.onCall_aux s k ty f, State.onCall_flt s k ty f, State.onCall_tim s k ty f, State.onCall_net s k ty f, State.onCall_prt s k ty f, State.onCall_trp s k ty f, State.onCall_pod s k ty f, State.onCall_lgc s k ty f, State.onCall_gsv s k ty f, State.onCall_tph s k ty f, State.onCall_oz s k ty f, State.onCall_sec s k ty f, State.onCall_cmd s k ty f, State.onCall_regs s k ty f, State.onCall_mram_keyCnt s k ty f, State.onCall_mram_boot s k ty f, State.onCall_sec_otp s k ty f, State.onCall_sec_keys s k ty f, State.onCall_cmd_run s k ty f, State.onCall_cmd_svc s k ty f, State.onCall_sys_straps s k ty f, State.onCall_sys_por s k ty f, State.onCall_sys_mapOn s k ty f⟩

theorem blkEndEff_frame (k : ℕ) (s : State) :
    (blkEndEff k s).now = s.now ∧ (blkEndEff k s).pending = s.pending ∧ (blkEndEff k s).regs0 = s.regs0 ∧
    (blkEndEff k s).freeCtr = s.freeCtr ∧ (blkEndEff k s).mode = s.mode ∧ (blkEndEff k s).mram = s.mram ∧
    (blkEndEff k s).sys = s.sys ∧ (blkEndEff k s).evt = s.evt ∧ (blkEndEff k s).ana = s.ana ∧
    (blkEndEff k s).aux = s.aux ∧ (blkEndEff k s).flt = s.flt ∧ (blkEndEff k s).tim = s.tim ∧
    (blkEndEff k s).net = s.net ∧ (blkEndEff k s).prt = s.prt ∧ (blkEndEff k s).trp = s.trp ∧
    (blkEndEff k s).pod = s.pod ∧ (blkEndEff k s).gsv = s.gsv ∧ (blkEndEff k s).tph = s.tph ∧
    (blkEndEff k s).oz = s.oz ∧ (blkEndEff k s).sec = s.sec ∧ (blkEndEff k s).cmd = s.cmd ∧
    (blkEndEff k s).regs = s.regs := by
  have hfonCall := @State.onCall_frame
  have hf1 := @State.runEnd_frame
  simp [↓hfonCall, ↓hf1, blkEndEff]

theorem blkBkrEff_frame (k : ℕ) (s : State) :
    (blkBkrEff k s).now = s.now ∧ (blkBkrEff k s).pending = s.pending ∧ (blkBkrEff k s).regs0 = s.regs0 ∧
    (blkBkrEff k s).freeCtr = s.freeCtr ∧ (blkBkrEff k s).mode = s.mode ∧ (blkBkrEff k s).mram = s.mram ∧
    (blkBkrEff k s).sys = s.sys ∧ (blkBkrEff k s).evt = s.evt ∧ (blkBkrEff k s).ana = s.ana ∧
    (blkBkrEff k s).aux = s.aux ∧ (blkBkrEff k s).flt = s.flt ∧ (blkBkrEff k s).tim = s.tim ∧
    (blkBkrEff k s).net = s.net ∧ (blkBkrEff k s).prt = s.prt ∧ (blkBkrEff k s).trp = s.trp ∧
    (blkBkrEff k s).pod = s.pod ∧ (blkBkrEff k s).gsv = s.gsv ∧ (blkBkrEff k s).tph = s.tph ∧
    (blkBkrEff k s).oz = s.oz ∧ (blkBkrEff k s).sec = s.sec ∧ (blkBkrEff k s).cmd = s.cmd := by
  have hfonCall := @State.onCall_frame
  have hf1 := @State.runBkr_frame
  simp [↓hfonCall, ↓hf1, blkBkrEff]

theorem blkArEff_frame (k : ℕ) (s : State) :
    (blkArEff k s).now = s.now ∧ (blkArEff k s).pending = s.pending ∧ (blkArEff k s).regs0 = s.regs0 ∧
    (blkArEff k s).freeCtr = s.freeCtr ∧ (blkArEff k s).mode = s.mode ∧ (blkArEff k s).mram = s.mram ∧
    (blkArEff k s).sys = s.sys ∧ (blkArEff k s).evt = s.evt ∧ (blkArEff k s).ana = s.ana ∧
    (blkArEff k s).aux = s.aux ∧ (blkArEff k s).flt = s.flt ∧ (blkArEff k s).tim = s.tim ∧
    (blkArEff k s).net = s.net ∧ (blkArEff k s).prt = s.prt ∧ (blkArEff k s).trp = s.trp ∧
    (blkArEff k s).pod = s.pod ∧ (blkArEff k s).gsv = s.gsv ∧ (blkArEff k s).tph = s.tph ∧ (blkArEff k s).oz = s.oz ∧
    (blkArEff k s).sec = s.sec ∧ (blkArEff k s).cmd = s.cmd ∧ (blkArEff k s).regs = s.regs := by
  have hfonCall := @State.onCall_frame
  have hf1 := @State.runAr_frame
  simp [↓hfonCall, ↓hf1, blkArEff]

theorem blkRectrgEff_frame (k : ℕ) (s : State) :
    (blkRectrgEff k s).now = s.now ∧ (blkRectrgEff k s).pending = s.pending ∧ (blkRectrgEff k s).regs0 = s.regs0 ∧
    (blkRectrgEff k s).freeCtr = s.freeCtr ∧ (blkRectrgEff k s).mode = s.mode ∧ (blkRectrgEff k s).mram = s.mram ∧
    (blkRectrgEff k s).sys = s.sys ∧ (blkRectrgEff k s).evt = s.evt ∧ (blkRectrgEff k s).ana = s.ana ∧
    (blkRectrgEff k s).aux = s.aux ∧ (blkRectrgEff k s).flt = s.flt ∧ (blkRectrgEff k s).tim = s.tim ∧
    (blkRectrgEff k s).net = s.net ∧ (blkRectrgEff k s).prt = s.prt ∧ (blkRectrgEff k s).trp = s.trp ∧
    (blkRectrgEff k s).pod = s.pod ∧ (blkRectrgEff k s).gsv = s.gsv ∧ (blkRectrgEff k s).tph = s.tph ∧
    (blkRectrgEff k s).oz = s.oz ∧ (blkRectrgEff k s).sec = s.sec ∧ (blkRectrgEff k s).cmd = s.cmd ∧
    (blkRectrgEff k s).regs = s.regs := by
  have hfonCall := @State.onCall_frame
  have hf1 := @State.runRectrg_frame
  simp [↓hfonCall, ↓hf1, blkRectrgEff]

theorem blkGsetBEff_frame (k : ℕ) (s : State) :
    (blkGsetBEff k s).now = s.now ∧ (blkGsetBEff k s).pending = s.pending ∧ (blkGsetBEff k s).regs0 = s.regs0 ∧
    (blkGsetBEff k s).freeCtr = s.freeCtr ∧ (blkGsetBEff k s).mode = s.mode ∧ (blkGsetBEff k s).mram = s.mram ∧
    (blkGsetBEff k s).sys = s.sys ∧ (blkGsetBEff k s).evt = s.evt ∧ (blkGsetBEff k s).ana = s.ana ∧
    (blkGsetBEff k s).aux = s.aux ∧ (blkGsetBEff k s).flt = s.flt ∧ (blkGsetBEff k s).tim = s.tim ∧
    (blkGsetBEff k s).net = s.net ∧ (blkGsetBEff k s).prt = s.prt ∧ (blkGsetBEff k s).trp = s.trp ∧
    (blkGsetBEff k s).pod = s.pod ∧ (blkGsetBEff k s).gsv = s.gsv ∧ (blkGsetBEff k s).tph = s.tph ∧
    (blkGsetBEff k s).oz = s.oz ∧ (blkGsetBEff k s).sec = s.sec ∧ (blkGsetBEff k s).cmd = s.cmd ∧
    (blkGsetBEff k s).regs = s.regs := by
  have hfonCall := @State.onCall_frame
  have hf1 := @State.runGset_frame
  simp [↓hfonCall, ↓hf1, blkGsetBEff]

theorem blkGsetIEff_frame (k : ℕ) (s : State) :
    (blkGsetIEff k s).now = s.now ∧ (blkGsetIEff k s).pending = s.pending ∧ (blkGsetIEff k s).regs0 = s.regs0 ∧
    (blkGsetIEff k s).freeCtr = s.freeCtr ∧ (blkGsetIEff k s).mode = s.mode ∧ (blkGsetIEff k s).mram = s.mram ∧
    (blkGsetIEff k s).sys = s.sys ∧ (blkGsetIEff k s).evt = s.evt ∧ (blkGsetIEff k s).ana = s.ana ∧
    (blkGsetIEff k s).aux = s.aux ∧ (blkGsetIEff k s).flt = s.flt ∧ (blkGsetIEff k s).tim = s.tim ∧
    (blkGsetIEff k s).net = s.net ∧ (blkGsetIEff k s).prt = s.prt ∧ (blkGsetIEff k s).trp = s.trp ∧
    (blkGsetIEff k s).pod = s.pod ∧ (blkGsetIEff k s).gsv = s.gsv ∧ (blkGsetIEff k s).tph = s.tph ∧
    (blkGsetIEff k s).oz = s.oz ∧ (blkGsetIEff k s).sec = s.sec ∧ (blkGsetIEff k s).cmd = s.cmd ∧
    (blkGsetIEff k s).regs = s.regs := by
  have hfonCall := @State.onCall_frame
  have hf1 := @State.runGset_frame
  simp [↓hfonCall, ↓hf1, blkGsetIEff]

theorem blkGsetREff_frame (k : ℕ) (s : State) :
    (blkGsetREff k s).now = s.now ∧ (blkGsetREff k s).pending = s.pending ∧ (blkGsetREff k s).regs0 = s.regs0 ∧
    (blkGsetREff k s).freeCtr = s.freeCtr ∧ (blkGsetREff k s).mode = s.mode ∧ (blkGsetREff k s).mram = s.mram ∧
    (blkGsetREff k s).sys = s.sys ∧ (blkGsetREff k s).evt = s.evt ∧ (blkGsetREff k s).ana = s.ana ∧
    (blkGsetREff k s).aux = s.aux ∧ (blkGsetREff k s).flt = s.flt ∧ (blkGsetREff k s).tim = s.tim ∧
    (blkGsetREff k s).net = s.net ∧ (blkGsetREff k s).prt = s.prt ∧ (blkGsetREff k s).trp = s.trp ∧
    (blkGsetREff k s).pod = s.pod ∧ (blkGsetREff k s).gsv = s.gsv ∧ (blkGsetREff k s).tph = s.tph ∧
    (blkGsetREff k s).oz = s.oz ∧ (blkGsetREff k s).sec = s.sec ∧ (blkGsetREff k s).cmd = s.cmd ∧
    (blkGsetREff k s).regs = s.regs := by
  have hfonCall := @State.onCall_frame
  have hf1 := @State.runGset_frame
  simp [↓hfonCall, ↓hf1, blkGsetREff]

theorem blkAlarmEff_frame (k : ℕ) (s : State) :
    (blkAlarmEff k s).now = s.now ∧ (blkAlarmEff k s).pending = s.pending ∧ (blkAlarmEff k s).regs0 = s.regs0 ∧
    (blkAlarmEff k s).freeCtr = s.freeCtr ∧ (blkAlarmEff k s).mode = s.mode ∧ (blkAlarmEff k s).mram = s.mram ∧
    (blkAlarmEff k s).sys = s.sys ∧ (blkAlarmEff k s).evt = s.evt ∧ (blkAlarmEff k s).ana = s.ana ∧
    (blkAlarmEff k s).aux = s.aux ∧ (blkAlarmEff k s).flt = s.flt ∧ (blkAlarmEff k s).tim = s.tim ∧
    (blkAlarmEff k s).net = s.net ∧ (blkAlarmEff k s).prt = s.prt ∧ (blkAlarmEff k s).trp = s.trp ∧
    (blkAlarmEff k s).pod = s.pod ∧ (blkAlarmEff k s).gsv = s.gsv ∧ (blkAlarmEff k s).tph = s.tph ∧
    (blkAlarmEff k s).oz = s.oz ∧ (blkAlarmEff k s).sec = s.sec ∧ (blkAlarmEff k s).cmd = s.cmd ∧
    (blkAlarmEff k s).regs = s.regs := by
  have hfonCall := @State.onCall_frame
  have hf1 := @State.runAlarm_frame
  simp [↓hfonCall, ↓hf1, blkAlarmEff]

theorem blkElemEff_frame (k : ℕ) (s : State) :
    (blkElemEff k s).now = s.now ∧ (blkElemEff k s).pending = s.pending ∧ (blkElemEff k s).regs0 = s.regs0 ∧
    (blkElemEff k s).freeCtr = s.freeCtr ∧ (blkElemEff k s).mode = s.mode ∧ (blkElemEff k s).mram = s.mram ∧
    (blkElemEff k s).sys = s.sys ∧ (blkElemEff k s).evt = s.evt ∧ (blkElemEff k s).ana = s.ana ∧
    (blkElemEff k s).aux = s.aux ∧ (blkElemEff k s).flt = s.flt ∧ (blkElemEff k s).tim = s.tim ∧
    (blkElemEff k s).net = s.net ∧ (blkElemEff k s).prt = s.prt ∧ (blkElemEff k s).trp = s.trp ∧
    (blkElemEff k s).pod = s.pod ∧ (blkElemEff k s).gsv = s.gsv ∧ (blkElemEff k s).tph = s.tph ∧
    (blkElemEff k s).oz = s.oz ∧ (blkElemEff k s).sec = s.sec ∧ (blkElemEff k s).cmd = s.cmd ∧
    (blkElemEff k s).regs = s.regs := by
  have hfonCall := @State.onCall_frame
  have hf1 := @State.runPure_frame
  simp [↓hfonCall, ↓hf1, blkElemEff]

theorem blkZoneEff_frame (k : ℕ) (s : State) :
    (blkZoneEff k s).now = s.now ∧ (blkZoneEff k s).pending = s.pending ∧ (blkZoneEff k s).regs0 = s.regs0 ∧
    (blkZoneEff k s).freeCtr = s.freeCtr ∧ (blkZoneEff k s).mode = s.mode ∧ (blkZoneEff k s).mram = s.mram ∧
    (blkZoneEff k s).sys = s.sys ∧ (blkZoneEff k s).evt = s.evt ∧ (blkZoneEff k s).ana = s.ana ∧
    (blkZoneEff k s).aux = s.aux ∧ (blkZoneEff k s).flt = s.flt ∧ (blkZoneEff k s).tim = s.tim ∧
    (blkZoneEff k s).net = s.net ∧ (blkZoneEff k s).prt = s.prt ∧ (blkZoneEff k s).trp = s.trp ∧
    (blkZoneEff k s).pod = s.pod ∧ (blkZoneEff k s).gsv = s.gsv ∧ (blkZoneEff k s).tph = s.tph ∧
    (blkZoneEff k s).oz = s.oz ∧ (blkZoneEff k s).sec = s.sec ∧ (blkZoneEff k s).cmd = s.cmd ∧
    (blkZoneEff k s).regs = s.regs := by
  have hfonCall := @State.onCall_frame
  have hf1 := @State.runPure_frame
  simp [↓hfonCall, ↓hf1, blkZoneEff]

theorem blkDevstateEff_frame (k : ℕ) (s : State) :
    (blkDevstateEff k s).now = s.now ∧ (blkDevstateEff k s).pending = s.pending ∧
    (blkDevstateEff k s).regs0 = s.regs0 ∧ (blkDevstateEff k s).freeCtr = s.freeCtr ∧
    (blkDevstateEff k s).mode = s.mode ∧ (blkDevstateEff k s).mram = s.mram ∧ (blkDevstateEff k s).sys = s.sys ∧
    (blkDevstateEff k s).evt = s.evt ∧ (blkDevstateEff k s).ana = s.ana ∧ (blkDevstateEff k s).aux = s.aux ∧
    (blkDevstateEff k s).flt = s.flt ∧ (blkDevstateEff k s).tim = s.tim ∧ (blkDevstateEff k s).net = s.net ∧
    (blkDevstateEff k s).prt = s.prt ∧ (blkDevstateEff k s).trp = s.trp ∧ (blkDevstateEff k s).pod = s.pod ∧
    (blkDevstateEff k s).gsv = s.gsv ∧ (blkDevstateEff k s).tph = s.tph ∧ (blkDevstateEff k s).oz = s.oz ∧
    (blkDevstateEff k s).sec = s.sec ∧ (blkDevstateEff k s).cmd = s.cmd ∧ (blkDevstateEff k s).regs = s.regs := by
  have hfonCall := @State.onCall_frame
  have hf1 := @State.runPure_frame
  simp [↓hfonCall, ↓hf1, blkDevstateEff]

theorem blkAndEff_frame (k : ℕ) (s : State) :
    (blkAndEff k s).now = s.now ∧ (blkAndEff k s).pending = s.pending ∧ (blkAndEff k s).regs0 = s.regs0 ∧
    (blkAndEff k s).freeCtr = s.freeCtr ∧ (blkAndEff k s).mode = s.mode ∧ (blkAndEff k s).mram = s.mram ∧
    (blkAndEff k s).sys = s.sys ∧ (blkAndEff k s).evt = s.evt ∧ (blkAndEff k s).ana = s.ana ∧
    (blkAndEff k s).aux = s.aux ∧ (blkAndEff k s).flt = s.flt ∧ (blkAndEff k s).tim = s.tim ∧
    (blkAndEff k s).net = s.net ∧ (blkAndEff k s).prt = s.prt ∧ (blkAndEff k s).trp = s.trp ∧
    (blkAndEff k s).pod = s.pod ∧ (blkAndEff k s).gsv = s.gsv ∧ (blkAndEff k s).tph = s.tph ∧
    (blkAndEff k s).oz = s.oz ∧ (blkAndEff k s).sec = s.sec ∧ (blkAndEff k s).cmd = s.cmd ∧
    (blkAndEff k s).regs = s.regs := by
  have hfonCall := @State.onCall_frame
  have hf1 := @State.runPure_frame
  simp [↓hfonCall, ↓hf1, blkAndEff]

theorem blkOrEff_frame (k : ℕ) (s : State) :
    (blkOrEff k s).now = s.now ∧ (blkOrEff k s).pending = s.pending ∧ (blkOrEff k s).regs0 = s.regs0 ∧
    (blkOrEff k s).freeCtr = s.freeCtr ∧ (blkOrEff k s).mode = s.mode ∧ (blkOrEff k s).mram = s.mram ∧
    (blkOrEff k s).sys = s.sys ∧ (blkOrEff k s).evt = s.evt ∧ (blkOrEff k s).ana = s.ana ∧
    (blkOrEff k s).aux = s.aux ∧ (blkOrEff k s).flt = s.flt ∧ (blkOrEff k s).tim = s.tim ∧
    (blkOrEff k s).net = s.net ∧ (blkOrEff k s).prt = s.prt ∧ (blkOrEff k s).trp = s.trp ∧
    (blkOrEff k s).pod = s.pod ∧ (blkOrEff k s).gsv = s.gsv ∧ (blkOrEff k s).tph = s.tph ∧ (blkOrEff k s).oz = s.oz ∧
    (blkOrEff k s).sec = s.sec ∧ (blkOrEff k s).cmd = s.cmd ∧ (blkOrEff k s).regs = s.regs := by
  have hfonCall := @State.onCall_frame
  have hf1 := @State.runPure_frame
  simp [↓hfonCall, ↓hf1, blkOrEff]

theorem blkXorEff_frame (k : ℕ) (s : State) :
    (blkXorEff k s).now = s.now ∧ (blkXorEff k s).pending = s.pending ∧ (blkXorEff k s).regs0 = s.regs0 ∧
    (blkXorEff k s).freeCtr = s.freeCtr ∧ (blkXorEff k s).mode = s.mode ∧ (blkXorEff k s).mram = s.mram ∧
    (blkXorEff k s).sys = s.sys ∧ (blkXorEff k s).evt = s.evt ∧ (blkXorEff k s).ana = s.ana ∧
    (blkXorEff k s).aux = s.aux ∧ (blkXorEff k s).flt = s.flt ∧ (blkXorEff k s).tim = s.tim ∧
    (blkXorEff k s).net = s.net ∧ (blkXorEff k s).prt = s.prt ∧ (blkXorEff k s).trp = s.trp ∧
    (blkXorEff k s).pod = s.pod ∧ (blkXorEff k s).gsv = s.gsv ∧ (blkXorEff k s).tph = s.tph ∧
    (blkXorEff k s).oz = s.oz ∧ (blkXorEff k s).sec = s.sec ∧ (blkXorEff k s).cmd = s.cmd ∧
    (blkXorEff k s).regs = s.regs := by
  have hfonCall := @State.onCall_frame
  have hf1 := @State.runPure_frame
  simp [↓hfonCall, ↓hf1, blkXorEff]

theorem blkNotEff_frame (k : ℕ) (s : State) :
    (blkNotEff k s).now = s.now ∧ (blkNotEff k s).pending = s.pending ∧ (blkNotEff k s).regs0 = s.regs0 ∧
    (blkNotEff k s).freeCtr = s.freeCtr ∧ (blkNotEff k s).mode = s.mode ∧ (blkNotEff k s).mram = s.mram ∧
    (blkNotEff k s).sys = s.sys ∧ (blkNotEff k s).evt = s.evt ∧ (blkNotEff k s).ana = s.ana ∧
    (blkNotEff k s).aux = s.aux ∧ (blkNotEff k s).flt = s.flt ∧ (blkNotEff k s).tim = s.tim ∧
    (blkNotEff k s).net = s.net ∧ (blkNotEff k s).prt = s.prt ∧ (blkNotEff k s).trp = s.trp ∧
    (blkNotEff k s).pod = s.pod ∧ (blkNotEff k s).gsv = s.gsv ∧ (blkNotEff k s).tph = s.tph ∧
    (blkNotEff k s).oz = s.oz ∧ (blkNotEff k s).sec = s.sec ∧ (blkNotEff k s).cmd = s.cmd ∧
    (blkNotEff k s).regs = s.regs := by
  have hfonCall := @State.onCall_frame
  have hf1 := @State.runPure_frame
  simp [↓hfonCall, ↓hf1, blkNotEff]

theorem blkSrEff_frame (k : ℕ) (s : State) :
    (blkSrEff k s).now = s.now ∧ (blkSrEff k s).pending = s.pending ∧ (blkSrEff k s).regs0 = s.regs0 ∧
    (blkSrEff k s).freeCtr = s.freeCtr ∧ (blkSrEff k s).mode = s.mode ∧ (blkSrEff k s).mram = s.mram ∧
    (blkSrEff k s).sys = s.sys ∧ (blkSrEff k s).evt = s.evt ∧ (blkSrEff k s).ana = s.ana ∧
    (blkSrEff k s).aux = s.aux ∧ (blkSrEff k s).flt = s.flt ∧ (blkSrEff k s).tim = s.tim ∧
    (blkSrEff k s).net = s.net ∧ (blkSrEff k s).prt = s.prt ∧ (blkSrEff k s).trp = s.trp ∧
    (blkSrEff k s).pod = s.pod ∧ (blkSrEff k s).gsv = s.gsv ∧ (blkSrEff k s).tph = s.tph ∧ (blkSrEff k s).oz = s.oz ∧
    (blkSrEff k s).sec = s.sec ∧ (blkSrEff k s).cmd = s.cmd ∧ (blkSrEff k s).regs = s.regs := by
  have hfonCall := @State.onCall_frame
  have hf1 := @State.runPure_frame
  simp [↓hfonCall, ↓hf1, blkSrEff]

theorem blkRsEff_frame (k : ℕ) (s : State) :
    (blkRsEff k s).now = s.now ∧ (blkRsEff k s).pending = s.pending ∧ (blkRsEff k s).regs0 = s.regs0 ∧
    (blkRsEff k s).freeCtr = s.freeCtr ∧ (blkRsEff k s).mode = s.mode ∧ (blkRsEff k s).mram = s.mram ∧
    (blkRsEff k s).sys = s.sys ∧ (blkRsEff k s).evt = s.evt ∧ (blkRsEff k s).ana = s.ana ∧
    (blkRsEff k s).aux = s.aux ∧ (blkRsEff k s).flt = s.flt ∧ (blkRsEff k s).tim = s.tim ∧
    (blkRsEff k s).net = s.net ∧ (blkRsEff k s).prt = s.prt ∧ (blkRsEff k s).trp = s.trp ∧
    (blkRsEff k s).pod = s.pod ∧ (blkRsEff k s).gsv = s.gsv ∧ (blkRsEff k s).tph = s.tph ∧ (blkRsEff k s).oz = s.oz ∧
    (blkRsEff k s).sec = s.sec ∧ (blkRsEff k s).cmd = s.cmd ∧ (blkRsEff k s).regs = s.regs := by
  have hfonCall := @State.onCall_frame
  have hf1 := @State.runPure_frame
  simp [↓hfonCall, ↓hf1, blkRsEff]

theorem blkMaj3Eff_frame (k : ℕ) (s : State) :
    (blkMaj3Eff k s).now = s.now ∧ (blkMaj3Eff k s).pending = s.pending ∧ (blkMaj3Eff k s).regs0 = s.regs0 ∧
    (blkMaj3Eff k s).freeCtr = s.freeCtr ∧ (blkMaj3Eff k s).mode = s.mode ∧ (blkMaj3Eff k s).mram = s.mram ∧
    (blkMaj3Eff k s).sys = s.sys ∧ (blkMaj3Eff k s).evt = s.evt ∧ (blkMaj3Eff k s).ana = s.ana ∧
    (blkMaj3Eff k s).aux = s.aux ∧ (blkMaj3Eff k s).flt = s.flt ∧ (blkMaj3Eff k s).tim = s.tim ∧
    (blkMaj3Eff k s).net = s.net ∧ (blkMaj3Eff k s).prt = s.prt ∧ (blkMaj3Eff k s).trp = s.trp ∧
    (blkMaj3Eff k s).pod = s.pod ∧ (blkMaj3Eff k s).gsv = s.gsv ∧ (blkMaj3Eff k s).tph = s.tph ∧
    (blkMaj3Eff k s).oz = s.oz ∧ (blkMaj3Eff k s).sec = s.sec ∧ (blkMaj3Eff k s).cmd = s.cmd ∧
    (blkMaj3Eff k s).regs = s.regs := by
  have hfonCall := @State.onCall_frame
  have hf1 := @State.runPure_frame
  simp [↓hfonCall, ↓hf1, blkMaj3Eff]

theorem blkKofnEff_frame (k : ℕ) (s : State) :
    (blkKofnEff k s).now = s.now ∧ (blkKofnEff k s).pending = s.pending ∧ (blkKofnEff k s).regs0 = s.regs0 ∧
    (blkKofnEff k s).freeCtr = s.freeCtr ∧ (blkKofnEff k s).mode = s.mode ∧ (blkKofnEff k s).mram = s.mram ∧
    (blkKofnEff k s).sys = s.sys ∧ (blkKofnEff k s).evt = s.evt ∧ (blkKofnEff k s).ana = s.ana ∧
    (blkKofnEff k s).aux = s.aux ∧ (blkKofnEff k s).flt = s.flt ∧ (blkKofnEff k s).tim = s.tim ∧
    (blkKofnEff k s).net = s.net ∧ (blkKofnEff k s).prt = s.prt ∧ (blkKofnEff k s).trp = s.trp ∧
    (blkKofnEff k s).pod = s.pod ∧ (blkKofnEff k s).gsv = s.gsv ∧ (blkKofnEff k s).tph = s.tph ∧
    (blkKofnEff k s).oz = s.oz ∧ (blkKofnEff k s).sec = s.sec ∧ (blkKofnEff k s).cmd = s.cmd ∧
    (blkKofnEff k s).regs = s.regs := by
  have hfonCall := @State.onCall_frame
  have hf1 := @State.runPure_frame
  simp [↓hfonCall, ↓hf1, blkKofnEff]

theorem blkRTrigEff_frame (k : ℕ) (s : State) :
    (blkRTrigEff k s).now = s.now ∧ (blkRTrigEff k s).pending = s.pending ∧ (blkRTrigEff k s).regs0 = s.regs0 ∧
    (blkRTrigEff k s).freeCtr = s.freeCtr ∧ (blkRTrigEff k s).mode = s.mode ∧ (blkRTrigEff k s).mram = s.mram ∧
    (blkRTrigEff k s).sys = s.sys ∧ (blkRTrigEff k s).evt = s.evt ∧ (blkRTrigEff k s).ana = s.ana ∧
    (blkRTrigEff k s).aux = s.aux ∧ (blkRTrigEff k s).flt = s.flt ∧ (blkRTrigEff k s).tim = s.tim ∧
    (blkRTrigEff k s).net = s.net ∧ (blkRTrigEff k s).prt = s.prt ∧ (blkRTrigEff k s).trp = s.trp ∧
    (blkRTrigEff k s).pod = s.pod ∧ (blkRTrigEff k s).gsv = s.gsv ∧ (blkRTrigEff k s).tph = s.tph ∧
    (blkRTrigEff k s).oz = s.oz ∧ (blkRTrigEff k s).sec = s.sec ∧ (blkRTrigEff k s).cmd = s.cmd ∧
    (blkRTrigEff k s).regs = s.regs := by
  have hfonCall := @State.onCall_frame
  have hf1 := @State.runPure_frame
  simp [↓hfonCall, ↓hf1, blkRTrigEff]

theorem blkFTrigEff_frame (k : ℕ) (s : State) :
    (blkFTrigEff k s).now = s.now ∧ (blkFTrigEff k s).pending = s.pending ∧ (blkFTrigEff k s).regs0 = s.regs0 ∧
    (blkFTrigEff k s).freeCtr = s.freeCtr ∧ (blkFTrigEff k s).mode = s.mode ∧ (blkFTrigEff k s).mram = s.mram ∧
    (blkFTrigEff k s).sys = s.sys ∧ (blkFTrigEff k s).evt = s.evt ∧ (blkFTrigEff k s).ana = s.ana ∧
    (blkFTrigEff k s).aux = s.aux ∧ (blkFTrigEff k s).flt = s.flt ∧ (blkFTrigEff k s).tim = s.tim ∧
    (blkFTrigEff k s).net = s.net ∧ (blkFTrigEff k s).prt = s.prt ∧ (blkFTrigEff k s).trp = s.trp ∧
    (blkFTrigEff k s).pod = s.pod ∧ (blkFTrigEff k s).gsv = s.gsv ∧ (blkFTrigEff k s).tph = s.tph ∧
    (blkFTrigEff k s).oz = s.oz ∧ (blkFTrigEff k s).sec = s.sec ∧ (blkFTrigEff k s).cmd = s.cmd ∧
    (blkFTrigEff k s).regs = s.regs := by
  have hfonCall := @State.onCall_frame
  have hf1 := @State.runPure_frame
  simp [↓hfonCall, ↓hf1, blkFTrigEff]

theorem blkTonEff_frame (k : ℕ) (s : State) :
    (blkTonEff k s).now = s.now ∧ (blkTonEff k s).pending = s.pending ∧ (blkTonEff k s).regs0 = s.regs0 ∧
    (blkTonEff k s).freeCtr = s.freeCtr ∧ (blkTonEff k s).mode = s.mode ∧ (blkTonEff k s).mram = s.mram ∧
    (blkTonEff k s).sys = s.sys ∧ (blkTonEff k s).evt = s.evt ∧ (blkTonEff k s).ana = s.ana ∧
    (blkTonEff k s).aux = s.aux ∧ (blkTonEff k s).flt = s.flt ∧ (blkTonEff k s).tim = s.tim ∧
    (blkTonEff k s).net = s.net ∧ (blkTonEff k s).prt = s.prt ∧ (blkTonEff k s).trp = s.trp ∧
    (blkTonEff k s).pod = s.pod ∧ (blkTonEff k s).gsv = s.gsv ∧ (blkTonEff k s).tph = s.tph ∧
    (blkTonEff k s).oz = s.oz ∧ (blkTonEff k s).sec = s.sec ∧ (blkTonEff k s).cmd = s.cmd ∧
    (blkTonEff k s).regs = s.regs := by
  have hfonCall := @State.onCall_frame
  have hf1 := @State.runPure_frame
  simp [↓hfonCall, ↓hf1, blkTonEff]

theorem blkTofEff_frame (k : ℕ) (s : State) :
    (blkTofEff k s).now = s.now ∧ (blkTofEff k s).pending = s.pending ∧ (blkTofEff k s).regs0 = s.regs0 ∧
    (blkTofEff k s).freeCtr = s.freeCtr ∧ (blkTofEff k s).mode = s.mode ∧ (blkTofEff k s).mram = s.mram ∧
    (blkTofEff k s).sys = s.sys ∧ (blkTofEff k s).evt = s.evt ∧ (blkTofEff k s).ana = s.ana ∧
    (blkTofEff k s).aux = s.aux ∧ (blkTofEff k s).flt = s.flt ∧ (blkTofEff k s).tim = s.tim ∧
    (blkTofEff k s).net = s.net ∧ (blkTofEff k s).prt = s.prt ∧ (blkTofEff k s).trp = s.trp ∧
    (blkTofEff k s).pod = s.pod ∧ (blkTofEff k s).gsv = s.gsv ∧ (blkTofEff k s).tph = s.tph ∧
    (blkTofEff k s).oz = s.oz ∧ (blkTofEff k s).sec = s.sec ∧ (blkTofEff k s).cmd = s.cmd ∧
    (blkTofEff k s).regs = s.regs := by
  have hfonCall := @State.onCall_frame
  have hf1 := @State.runPure_frame
  simp [↓hfonCall, ↓hf1, blkTofEff]

theorem blkTpEff_frame (k : ℕ) (s : State) :
    (blkTpEff k s).now = s.now ∧ (blkTpEff k s).pending = s.pending ∧ (blkTpEff k s).regs0 = s.regs0 ∧
    (blkTpEff k s).freeCtr = s.freeCtr ∧ (blkTpEff k s).mode = s.mode ∧ (blkTpEff k s).mram = s.mram ∧
    (blkTpEff k s).sys = s.sys ∧ (blkTpEff k s).evt = s.evt ∧ (blkTpEff k s).ana = s.ana ∧
    (blkTpEff k s).aux = s.aux ∧ (blkTpEff k s).flt = s.flt ∧ (blkTpEff k s).tim = s.tim ∧
    (blkTpEff k s).net = s.net ∧ (blkTpEff k s).prt = s.prt ∧ (blkTpEff k s).trp = s.trp ∧
    (blkTpEff k s).pod = s.pod ∧ (blkTpEff k s).gsv = s.gsv ∧ (blkTpEff k s).tph = s.tph ∧ (blkTpEff k s).oz = s.oz ∧
    (blkTpEff k s).sec = s.sec ∧ (blkTpEff k s).cmd = s.cmd ∧ (blkTpEff k s).regs = s.regs := by
  have hfonCall := @State.onCall_frame
  have hf1 := @State.runPure_frame
  simp [↓hfonCall, ↓hf1, blkTpEff]

theorem blkCtuEff_frame (k : ℕ) (s : State) :
    (blkCtuEff k s).now = s.now ∧ (blkCtuEff k s).pending = s.pending ∧ (blkCtuEff k s).regs0 = s.regs0 ∧
    (blkCtuEff k s).freeCtr = s.freeCtr ∧ (blkCtuEff k s).mode = s.mode ∧ (blkCtuEff k s).mram = s.mram ∧
    (blkCtuEff k s).sys = s.sys ∧ (blkCtuEff k s).evt = s.evt ∧ (blkCtuEff k s).ana = s.ana ∧
    (blkCtuEff k s).aux = s.aux ∧ (blkCtuEff k s).flt = s.flt ∧ (blkCtuEff k s).tim = s.tim ∧
    (blkCtuEff k s).net = s.net ∧ (blkCtuEff k s).prt = s.prt ∧ (blkCtuEff k s).trp = s.trp ∧
    (blkCtuEff k s).pod = s.pod ∧ (blkCtuEff k s).gsv = s.gsv ∧ (blkCtuEff k s).tph = s.tph ∧
    (blkCtuEff k s).oz = s.oz ∧ (blkCtuEff k s).sec = s.sec ∧ (blkCtuEff k s).cmd = s.cmd ∧
    (blkCtuEff k s).regs = s.regs := by
  have hfonCall := @State.onCall_frame
  have hf1 := @State.runPure_frame
  simp [↓hfonCall, ↓hf1, blkCtuEff]

theorem blkCtdEff_frame (k : ℕ) (s : State) :
    (blkCtdEff k s).now = s.now ∧ (blkCtdEff k s).pending = s.pending ∧ (blkCtdEff k s).regs0 = s.regs0 ∧
    (blkCtdEff k s).freeCtr = s.freeCtr ∧ (blkCtdEff k s).mode = s.mode ∧ (blkCtdEff k s).mram = s.mram ∧
    (blkCtdEff k s).sys = s.sys ∧ (blkCtdEff k s).evt = s.evt ∧ (blkCtdEff k s).ana = s.ana ∧
    (blkCtdEff k s).aux = s.aux ∧ (blkCtdEff k s).flt = s.flt ∧ (blkCtdEff k s).tim = s.tim ∧
    (blkCtdEff k s).net = s.net ∧ (blkCtdEff k s).prt = s.prt ∧ (blkCtdEff k s).trp = s.trp ∧
    (blkCtdEff k s).pod = s.pod ∧ (blkCtdEff k s).gsv = s.gsv ∧ (blkCtdEff k s).tph = s.tph ∧
    (blkCtdEff k s).oz = s.oz ∧ (blkCtdEff k s).sec = s.sec ∧ (blkCtdEff k s).cmd = s.cmd ∧
    (blkCtdEff k s).regs = s.regs := by
  have hfonCall := @State.onCall_frame
  have hf1 := @State.runPure_frame
  simp [↓hfonCall, ↓hf1, blkCtdEff]

theorem blkCtudEff_frame (k : ℕ) (s : State) :
    (blkCtudEff k s).now = s.now ∧ (blkCtudEff k s).pending = s.pending ∧ (blkCtudEff k s).regs0 = s.regs0 ∧
    (blkCtudEff k s).freeCtr = s.freeCtr ∧ (blkCtudEff k s).mode = s.mode ∧ (blkCtudEff k s).mram = s.mram ∧
    (blkCtudEff k s).sys = s.sys ∧ (blkCtudEff k s).evt = s.evt ∧ (blkCtudEff k s).ana = s.ana ∧
    (blkCtudEff k s).aux = s.aux ∧ (blkCtudEff k s).flt = s.flt ∧ (blkCtudEff k s).tim = s.tim ∧
    (blkCtudEff k s).net = s.net ∧ (blkCtudEff k s).prt = s.prt ∧ (blkCtudEff k s).trp = s.trp ∧
    (blkCtudEff k s).pod = s.pod ∧ (blkCtudEff k s).gsv = s.gsv ∧ (blkCtudEff k s).tph = s.tph ∧
    (blkCtudEff k s).oz = s.oz ∧ (blkCtudEff k s).sec = s.sec ∧ (blkCtudEff k s).cmd = s.cmd ∧
    (blkCtudEff k s).regs = s.regs := by
  have hfonCall := @State.onCall_frame
  have hf1 := @State.runPure_frame
  simp [↓hfonCall, ↓hf1, blkCtudEff]

theorem blkEqEff_frame (k : ℕ) (s : State) :
    (blkEqEff k s).now = s.now ∧ (blkEqEff k s).pending = s.pending ∧ (blkEqEff k s).regs0 = s.regs0 ∧
    (blkEqEff k s).freeCtr = s.freeCtr ∧ (blkEqEff k s).mode = s.mode ∧ (blkEqEff k s).mram = s.mram ∧
    (blkEqEff k s).sys = s.sys ∧ (blkEqEff k s).evt = s.evt ∧ (blkEqEff k s).ana = s.ana ∧
    (blkEqEff k s).aux = s.aux ∧ (blkEqEff k s).flt = s.flt ∧ (blkEqEff k s).tim = s.tim ∧
    (blkEqEff k s).net = s.net ∧ (blkEqEff k s).prt = s.prt ∧ (blkEqEff k s).trp = s.trp ∧
    (blkEqEff k s).pod = s.pod ∧ (blkEqEff k s).gsv = s.gsv ∧ (blkEqEff k s).tph = s.tph ∧ (blkEqEff k s).oz = s.oz ∧
    (blkEqEff k s).sec = s.sec ∧ (blkEqEff k s).cmd = s.cmd ∧ (blkEqEff k s).regs = s.regs := by
  have hfonCall := @State.onCall_frame
  have hf1 := @State.runPure_frame
  simp [↓hfonCall, ↓hf1, blkEqEff]

theorem blkNeEff_frame (k : ℕ) (s : State) :
    (blkNeEff k s).now = s.now ∧ (blkNeEff k s).pending = s.pending ∧ (blkNeEff k s).regs0 = s.regs0 ∧
    (blkNeEff k s).freeCtr = s.freeCtr ∧ (blkNeEff k s).mode = s.mode ∧ (blkNeEff k s).mram = s.mram ∧
    (blkNeEff k s).sys = s.sys ∧ (blkNeEff k s).evt = s.evt ∧ (blkNeEff k s).ana = s.ana ∧
    (blkNeEff k s).aux = s.aux ∧ (blkNeEff k s).flt = s.flt ∧ (blkNeEff k s).tim = s.tim ∧
    (blkNeEff k s).net = s.net ∧ (blkNeEff k s).prt = s.prt ∧ (blkNeEff k s).trp = s.trp ∧
    (blkNeEff k s).pod = s.pod ∧ (blkNeEff k s).gsv = s.gsv ∧ (blkNeEff k s).tph = s.tph ∧ (blkNeEff k s).oz = s.oz ∧
    (blkNeEff k s).sec = s.sec ∧ (blkNeEff k s).cmd = s.cmd ∧ (blkNeEff k s).regs = s.regs := by
  have hfonCall := @State.onCall_frame
  have hf1 := @State.runPure_frame
  simp [↓hfonCall, ↓hf1, blkNeEff]

theorem blkGtEff_frame (k : ℕ) (s : State) :
    (blkGtEff k s).now = s.now ∧ (blkGtEff k s).pending = s.pending ∧ (blkGtEff k s).regs0 = s.regs0 ∧
    (blkGtEff k s).freeCtr = s.freeCtr ∧ (blkGtEff k s).mode = s.mode ∧ (blkGtEff k s).mram = s.mram ∧
    (blkGtEff k s).sys = s.sys ∧ (blkGtEff k s).evt = s.evt ∧ (blkGtEff k s).ana = s.ana ∧
    (blkGtEff k s).aux = s.aux ∧ (blkGtEff k s).flt = s.flt ∧ (blkGtEff k s).tim = s.tim ∧
    (blkGtEff k s).net = s.net ∧ (blkGtEff k s).prt = s.prt ∧ (blkGtEff k s).trp = s.trp ∧
    (blkGtEff k s).pod = s.pod ∧ (blkGtEff k s).gsv = s.gsv ∧ (blkGtEff k s).tph = s.tph ∧ (blkGtEff k s).oz = s.oz ∧
    (blkGtEff k s).sec = s.sec ∧ (blkGtEff k s).cmd = s.cmd ∧ (blkGtEff k s).regs = s.regs := by
  have hfonCall := @State.onCall_frame
  have hf1 := @State.runPure_frame
  simp [↓hfonCall, ↓hf1, blkGtEff]

theorem blkGeEff_frame (k : ℕ) (s : State) :
    (blkGeEff k s).now = s.now ∧ (blkGeEff k s).pending = s.pending ∧ (blkGeEff k s).regs0 = s.regs0 ∧
    (blkGeEff k s).freeCtr = s.freeCtr ∧ (blkGeEff k s).mode = s.mode ∧ (blkGeEff k s).mram = s.mram ∧
    (blkGeEff k s).sys = s.sys ∧ (blkGeEff k s).evt = s.evt ∧ (blkGeEff k s).ana = s.ana ∧
    (blkGeEff k s).aux = s.aux ∧ (blkGeEff k s).flt = s.flt ∧ (blkGeEff k s).tim = s.tim ∧
    (blkGeEff k s).net = s.net ∧ (blkGeEff k s).prt = s.prt ∧ (blkGeEff k s).trp = s.trp ∧
    (blkGeEff k s).pod = s.pod ∧ (blkGeEff k s).gsv = s.gsv ∧ (blkGeEff k s).tph = s.tph ∧ (blkGeEff k s).oz = s.oz ∧
    (blkGeEff k s).sec = s.sec ∧ (blkGeEff k s).cmd = s.cmd ∧ (blkGeEff k s).regs = s.regs := by
  have hfonCall := @State.onCall_frame
  have hf1 := @State.runPure_frame
  simp [↓hfonCall, ↓hf1, blkGeEff]

theorem blkLtEff_frame (k : ℕ) (s : State) :
    (blkLtEff k s).now = s.now ∧ (blkLtEff k s).pending = s.pending ∧ (blkLtEff k s).regs0 = s.regs0 ∧
    (blkLtEff k s).freeCtr = s.freeCtr ∧ (blkLtEff k s).mode = s.mode ∧ (blkLtEff k s).mram = s.mram ∧
    (blkLtEff k s).sys = s.sys ∧ (blkLtEff k s).evt = s.evt ∧ (blkLtEff k s).ana = s.ana ∧
    (blkLtEff k s).aux = s.aux ∧ (blkLtEff k s).flt = s.flt ∧ (blkLtEff k s).tim = s.tim ∧
    (blkLtEff k s).net = s.net ∧ (blkLtEff k s).prt = s.prt ∧ (blkLtEff k s).trp = s.trp ∧
    (blkLtEff k s).pod = s.pod ∧ (blkLtEff k s).gsv = s.gsv ∧ (blkLtEff k s).tph = s.tph ∧ (blkLtEff k s).oz = s.oz ∧
    (blkLtEff k s).sec = s.sec ∧ (blkLtEff k s).cmd = s.cmd ∧ (blkLtEff k s).regs = s.regs := by
  have hfonCall := @State.onCall_frame
  have hf1 := @State.runPure_frame
  simp [↓hfonCall, ↓hf1, blkLtEff]

theorem blkLeEff_frame (k : ℕ) (s : State) :
    (blkLeEff k s).now = s.now ∧ (blkLeEff k s).pending = s.pending ∧ (blkLeEff k s).regs0 = s.regs0 ∧
    (blkLeEff k s).freeCtr = s.freeCtr ∧ (blkLeEff k s).mode = s.mode ∧ (blkLeEff k s).mram = s.mram ∧
    (blkLeEff k s).sys = s.sys ∧ (blkLeEff k s).evt = s.evt ∧ (blkLeEff k s).ana = s.ana ∧
    (blkLeEff k s).aux = s.aux ∧ (blkLeEff k s).flt = s.flt ∧ (blkLeEff k s).tim = s.tim ∧
    (blkLeEff k s).net = s.net ∧ (blkLeEff k s).prt = s.prt ∧ (blkLeEff k s).trp = s.trp ∧
    (blkLeEff k s).pod = s.pod ∧ (blkLeEff k s).gsv = s.gsv ∧ (blkLeEff k s).tph = s.tph ∧ (blkLeEff k s).oz = s.oz ∧
    (blkLeEff k s).sec = s.sec ∧ (blkLeEff k s).cmd = s.cmd ∧ (blkLeEff k s).regs = s.regs := by
  have hfonCall := @State.onCall_frame
  have hf1 := @State.runPure_frame
  simp [↓hfonCall, ↓hf1, blkLeEff]

theorem blkHystEff_frame (k : ℕ) (s : State) :
    (blkHystEff k s).now = s.now ∧ (blkHystEff k s).pending = s.pending ∧ (blkHystEff k s).regs0 = s.regs0 ∧
    (blkHystEff k s).freeCtr = s.freeCtr ∧ (blkHystEff k s).mode = s.mode ∧ (blkHystEff k s).mram = s.mram ∧
    (blkHystEff k s).sys = s.sys ∧ (blkHystEff k s).evt = s.evt ∧ (blkHystEff k s).ana = s.ana ∧
    (blkHystEff k s).aux = s.aux ∧ (blkHystEff k s).flt = s.flt ∧ (blkHystEff k s).tim = s.tim ∧
    (blkHystEff k s).net = s.net ∧ (blkHystEff k s).prt = s.prt ∧ (blkHystEff k s).trp = s.trp ∧
    (blkHystEff k s).pod = s.pod ∧ (blkHystEff k s).gsv = s.gsv ∧ (blkHystEff k s).tph = s.tph ∧
    (blkHystEff k s).oz = s.oz ∧ (blkHystEff k s).sec = s.sec ∧ (blkHystEff k s).cmd = s.cmd ∧
    (blkHystEff k s).regs = s.regs := by
  have hfonCall := @State.onCall_frame
  have hf1 := @State.runPure_frame
  simp [↓hfonCall, ↓hf1, blkHystEff]

theorem blkAddEff_frame (k : ℕ) (s : State) :
    (blkAddEff k s).now = s.now ∧ (blkAddEff k s).pending = s.pending ∧ (blkAddEff k s).regs0 = s.regs0 ∧
    (blkAddEff k s).freeCtr = s.freeCtr ∧ (blkAddEff k s).mode = s.mode ∧ (blkAddEff k s).mram = s.mram ∧
    (blkAddEff k s).sys = s.sys ∧ (blkAddEff k s).evt = s.evt ∧ (blkAddEff k s).ana = s.ana ∧
    (blkAddEff k s).aux = s.aux ∧ (blkAddEff k s).flt = s.flt ∧ (blkAddEff k s).tim = s.tim ∧
    (blkAddEff k s).net = s.net ∧ (blkAddEff k s).prt = s.prt ∧ (blkAddEff k s).trp = s.trp ∧
    (blkAddEff k s).pod = s.pod ∧ (blkAddEff k s).gsv = s.gsv ∧ (blkAddEff k s).tph = s.tph ∧
    (blkAddEff k s).oz = s.oz ∧ (blkAddEff k s).sec = s.sec ∧ (blkAddEff k s).cmd = s.cmd ∧
    (blkAddEff k s).regs = s.regs := by
  have hfonCall := @State.onCall_frame
  have hf1 := @State.runPure_frame
  simp [↓hfonCall, ↓hf1, blkAddEff]

theorem blkSubEff_frame (k : ℕ) (s : State) :
    (blkSubEff k s).now = s.now ∧ (blkSubEff k s).pending = s.pending ∧ (blkSubEff k s).regs0 = s.regs0 ∧
    (blkSubEff k s).freeCtr = s.freeCtr ∧ (blkSubEff k s).mode = s.mode ∧ (blkSubEff k s).mram = s.mram ∧
    (blkSubEff k s).sys = s.sys ∧ (blkSubEff k s).evt = s.evt ∧ (blkSubEff k s).ana = s.ana ∧
    (blkSubEff k s).aux = s.aux ∧ (blkSubEff k s).flt = s.flt ∧ (blkSubEff k s).tim = s.tim ∧
    (blkSubEff k s).net = s.net ∧ (blkSubEff k s).prt = s.prt ∧ (blkSubEff k s).trp = s.trp ∧
    (blkSubEff k s).pod = s.pod ∧ (blkSubEff k s).gsv = s.gsv ∧ (blkSubEff k s).tph = s.tph ∧
    (blkSubEff k s).oz = s.oz ∧ (blkSubEff k s).sec = s.sec ∧ (blkSubEff k s).cmd = s.cmd ∧
    (blkSubEff k s).regs = s.regs := by
  have hfonCall := @State.onCall_frame
  have hf1 := @State.runPure_frame
  simp [↓hfonCall, ↓hf1, blkSubEff]

theorem blkMulEff_frame (k : ℕ) (s : State) :
    (blkMulEff k s).now = s.now ∧ (blkMulEff k s).pending = s.pending ∧ (blkMulEff k s).regs0 = s.regs0 ∧
    (blkMulEff k s).freeCtr = s.freeCtr ∧ (blkMulEff k s).mode = s.mode ∧ (blkMulEff k s).mram = s.mram ∧
    (blkMulEff k s).sys = s.sys ∧ (blkMulEff k s).evt = s.evt ∧ (blkMulEff k s).ana = s.ana ∧
    (blkMulEff k s).aux = s.aux ∧ (blkMulEff k s).flt = s.flt ∧ (blkMulEff k s).tim = s.tim ∧
    (blkMulEff k s).net = s.net ∧ (blkMulEff k s).prt = s.prt ∧ (blkMulEff k s).trp = s.trp ∧
    (blkMulEff k s).pod = s.pod ∧ (blkMulEff k s).gsv = s.gsv ∧ (blkMulEff k s).tph = s.tph ∧
    (blkMulEff k s).oz = s.oz ∧ (blkMulEff k s).sec = s.sec ∧ (blkMulEff k s).cmd = s.cmd ∧
    (blkMulEff k s).regs = s.regs := by
  have hfonCall := @State.onCall_frame
  have hf1 := @State.runPure_frame
  simp [↓hfonCall, ↓hf1, blkMulEff]

theorem blkDivEff_frame (k : ℕ) (s : State) :
    (blkDivEff k s).now = s.now ∧ (blkDivEff k s).pending = s.pending ∧ (blkDivEff k s).regs0 = s.regs0 ∧
    (blkDivEff k s).freeCtr = s.freeCtr ∧ (blkDivEff k s).mode = s.mode ∧ (blkDivEff k s).mram = s.mram ∧
    (blkDivEff k s).sys = s.sys ∧ (blkDivEff k s).evt = s.evt ∧ (blkDivEff k s).ana = s.ana ∧
    (blkDivEff k s).aux = s.aux ∧ (blkDivEff k s).flt = s.flt ∧ (blkDivEff k s).tim = s.tim ∧
    (blkDivEff k s).net = s.net ∧ (blkDivEff k s).prt = s.prt ∧ (blkDivEff k s).trp = s.trp ∧
    (blkDivEff k s).pod = s.pod ∧ (blkDivEff k s).gsv = s.gsv ∧ (blkDivEff k s).tph = s.tph ∧
    (blkDivEff k s).oz = s.oz ∧ (blkDivEff k s).sec = s.sec ∧ (blkDivEff k s).cmd = s.cmd ∧
    (blkDivEff k s).regs = s.regs := by
  have hfonCall := @State.onCall_frame
  have hf1 := @State.runPure_frame
  simp [↓hfonCall, ↓hf1, blkDivEff]

theorem blkModEff_frame (k : ℕ) (s : State) :
    (blkModEff k s).now = s.now ∧ (blkModEff k s).pending = s.pending ∧ (blkModEff k s).regs0 = s.regs0 ∧
    (blkModEff k s).freeCtr = s.freeCtr ∧ (blkModEff k s).mode = s.mode ∧ (blkModEff k s).mram = s.mram ∧
    (blkModEff k s).sys = s.sys ∧ (blkModEff k s).evt = s.evt ∧ (blkModEff k s).ana = s.ana ∧
    (blkModEff k s).aux = s.aux ∧ (blkModEff k s).flt = s.flt ∧ (blkModEff k s).tim = s.tim ∧
    (blkModEff k s).net = s.net ∧ (blkModEff k s).prt = s.prt ∧ (blkModEff k s).trp = s.trp ∧
    (blkModEff k s).pod = s.pod ∧ (blkModEff k s).gsv = s.gsv ∧ (blkModEff k s).tph = s.tph ∧
    (blkModEff k s).oz = s.oz ∧ (blkModEff k s).sec = s.sec ∧ (blkModEff k s).cmd = s.cmd ∧
    (blkModEff k s).regs = s.regs := by
  have hfonCall := @State.onCall_frame
  have hf1 := @State.runPure_frame
  simp [↓hfonCall, ↓hf1, blkModEff]

theorem blkAbsEff_frame (k : ℕ) (s : State) :
    (blkAbsEff k s).now = s.now ∧ (blkAbsEff k s).pending = s.pending ∧ (blkAbsEff k s).regs0 = s.regs0 ∧
    (blkAbsEff k s).freeCtr = s.freeCtr ∧ (blkAbsEff k s).mode = s.mode ∧ (blkAbsEff k s).mram = s.mram ∧
    (blkAbsEff k s).sys = s.sys ∧ (blkAbsEff k s).evt = s.evt ∧ (blkAbsEff k s).ana = s.ana ∧
    (blkAbsEff k s).aux = s.aux ∧ (blkAbsEff k s).flt = s.flt ∧ (blkAbsEff k s).tim = s.tim ∧
    (blkAbsEff k s).net = s.net ∧ (blkAbsEff k s).prt = s.prt ∧ (blkAbsEff k s).trp = s.trp ∧
    (blkAbsEff k s).pod = s.pod ∧ (blkAbsEff k s).gsv = s.gsv ∧ (blkAbsEff k s).tph = s.tph ∧
    (blkAbsEff k s).oz = s.oz ∧ (blkAbsEff k s).sec = s.sec ∧ (blkAbsEff k s).cmd = s.cmd ∧
    (blkAbsEff k s).regs = s.regs := by
  have hfonCall := @State.onCall_frame
  have hf1 := @State.runPure_frame
  simp [↓hfonCall, ↓hf1, blkAbsEff]

theorem blkNegEff_frame (k : ℕ) (s : State) :
    (blkNegEff k s).now = s.now ∧ (blkNegEff k s).pending = s.pending ∧ (blkNegEff k s).regs0 = s.regs0 ∧
    (blkNegEff k s).freeCtr = s.freeCtr ∧ (blkNegEff k s).mode = s.mode ∧ (blkNegEff k s).mram = s.mram ∧
    (blkNegEff k s).sys = s.sys ∧ (blkNegEff k s).evt = s.evt ∧ (blkNegEff k s).ana = s.ana ∧
    (blkNegEff k s).aux = s.aux ∧ (blkNegEff k s).flt = s.flt ∧ (blkNegEff k s).tim = s.tim ∧
    (blkNegEff k s).net = s.net ∧ (blkNegEff k s).prt = s.prt ∧ (blkNegEff k s).trp = s.trp ∧
    (blkNegEff k s).pod = s.pod ∧ (blkNegEff k s).gsv = s.gsv ∧ (blkNegEff k s).tph = s.tph ∧
    (blkNegEff k s).oz = s.oz ∧ (blkNegEff k s).sec = s.sec ∧ (blkNegEff k s).cmd = s.cmd ∧
    (blkNegEff k s).regs = s.regs := by
  have hfonCall := @State.onCall_frame
  have hf1 := @State.runPure_frame
  simp [↓hfonCall, ↓hf1, blkNegEff]

theorem blkSqrtEff_frame (k : ℕ) (s : State) :
    (blkSqrtEff k s).now = s.now ∧ (blkSqrtEff k s).pending = s.pending ∧ (blkSqrtEff k s).regs0 = s.regs0 ∧
    (blkSqrtEff k s).freeCtr = s.freeCtr ∧ (blkSqrtEff k s).mode = s.mode ∧ (blkSqrtEff k s).mram = s.mram ∧
    (blkSqrtEff k s).sys = s.sys ∧ (blkSqrtEff k s).evt = s.evt ∧ (blkSqrtEff k s).ana = s.ana ∧
    (blkSqrtEff k s).aux = s.aux ∧ (blkSqrtEff k s).flt = s.flt ∧ (blkSqrtEff k s).tim = s.tim ∧
    (blkSqrtEff k s).net = s.net ∧ (blkSqrtEff k s).prt = s.prt ∧ (blkSqrtEff k s).trp = s.trp ∧
    (blkSqrtEff k s).pod = s.pod ∧ (blkSqrtEff k s).gsv = s.gsv ∧ (blkSqrtEff k s).tph = s.tph ∧
    (blkSqrtEff k s).oz = s.oz ∧ (blkSqrtEff k s).sec = s.sec ∧ (blkSqrtEff k s).cmd = s.cmd ∧
    (blkSqrtEff k s).regs = s.regs := by
  have hfonCall := @State.onCall_frame
  have hf1 := @State.runPure_frame
  simp [↓hfonCall, ↓hf1, blkSqrtEff]

theorem blkMinEff_frame (k : ℕ) (s : State) :
    (blkMinEff k s).now = s.now ∧ (blkMinEff k s).pending = s.pending ∧ (blkMinEff k s).regs0 = s.regs0 ∧
    (blkMinEff k s).freeCtr = s.freeCtr ∧ (blkMinEff k s).mode = s.mode ∧ (blkMinEff k s).mram = s.mram ∧
    (blkMinEff k s).sys = s.sys ∧ (blkMinEff k s).evt = s.evt ∧ (blkMinEff k s).ana = s.ana ∧
    (blkMinEff k s).aux = s.aux ∧ (blkMinEff k s).flt = s.flt ∧ (blkMinEff k s).tim = s.tim ∧
    (blkMinEff k s).net = s.net ∧ (blkMinEff k s).prt = s.prt ∧ (blkMinEff k s).trp = s.trp ∧
    (blkMinEff k s).pod = s.pod ∧ (blkMinEff k s).gsv = s.gsv ∧ (blkMinEff k s).tph = s.tph ∧
    (blkMinEff k s).oz = s.oz ∧ (blkMinEff k s).sec = s.sec ∧ (blkMinEff k s).cmd = s.cmd ∧
    (blkMinEff k s).regs = s.regs := by
  have hfonCall := @State.onCall_frame
  have hf1 := @State.runPure_frame
  simp [↓hfonCall, ↓hf1, blkMinEff]

theorem blkMaxEff_frame (k : ℕ) (s : State) :
    (blkMaxEff k s).now = s.now ∧ (blkMaxEff k s).pending = s.pending ∧ (blkMaxEff k s).regs0 = s.regs0 ∧
    (blkMaxEff k s).freeCtr = s.freeCtr ∧ (blkMaxEff k s).mode = s.mode ∧ (blkMaxEff k s).mram = s.mram ∧
    (blkMaxEff k s).sys = s.sys ∧ (blkMaxEff k s).evt = s.evt ∧ (blkMaxEff k s).ana = s.ana ∧
    (blkMaxEff k s).aux = s.aux ∧ (blkMaxEff k s).flt = s.flt ∧ (blkMaxEff k s).tim = s.tim ∧
    (blkMaxEff k s).net = s.net ∧ (blkMaxEff k s).prt = s.prt ∧ (blkMaxEff k s).trp = s.trp ∧
    (blkMaxEff k s).pod = s.pod ∧ (blkMaxEff k s).gsv = s.gsv ∧ (blkMaxEff k s).tph = s.tph ∧
    (blkMaxEff k s).oz = s.oz ∧ (blkMaxEff k s).sec = s.sec ∧ (blkMaxEff k s).cmd = s.cmd ∧
    (blkMaxEff k s).regs = s.regs := by
  have hfonCall := @State.onCall_frame
  have hf1 := @State.runPure_frame
  simp [↓hfonCall, ↓hf1, blkMaxEff]

theorem blkSelEff_frame (k : ℕ) (s : State) :
    (blkSelEff k s).now = s.now ∧ (blkSelEff k s).pending = s.pending ∧ (blkSelEff k s).regs0 = s.regs0 ∧
    (blkSelEff k s).freeCtr = s.freeCtr ∧ (blkSelEff k s).mode = s.mode ∧ (blkSelEff k s).mram = s.mram ∧
    (blkSelEff k s).sys = s.sys ∧ (blkSelEff k s).evt = s.evt ∧ (blkSelEff k s).ana = s.ana ∧
    (blkSelEff k s).aux = s.aux ∧ (blkSelEff k s).flt = s.flt ∧ (blkSelEff k s).tim = s.tim ∧
    (blkSelEff k s).net = s.net ∧ (blkSelEff k s).prt = s.prt ∧ (blkSelEff k s).trp = s.trp ∧
    (blkSelEff k s).pod = s.pod ∧ (blkSelEff k s).gsv = s.gsv ∧ (blkSelEff k s).tph = s.tph ∧
    (blkSelEff k s).oz = s.oz ∧ (blkSelEff k s).sec = s.sec ∧ (blkSelEff k s).cmd = s.cmd ∧
    (blkSelEff k s).regs = s.regs := by
  have hfonCall := @State.onCall_frame
  have hf1 := @State.runPure_frame
  simp [↓hfonCall, ↓hf1, blkSelEff]

theorem blkMuxEff_frame (k : ℕ) (s : State) :
    (blkMuxEff k s).now = s.now ∧ (blkMuxEff k s).pending = s.pending ∧ (blkMuxEff k s).regs0 = s.regs0 ∧
    (blkMuxEff k s).freeCtr = s.freeCtr ∧ (blkMuxEff k s).mode = s.mode ∧ (blkMuxEff k s).mram = s.mram ∧
    (blkMuxEff k s).sys = s.sys ∧ (blkMuxEff k s).evt = s.evt ∧ (blkMuxEff k s).ana = s.ana ∧
    (blkMuxEff k s).aux = s.aux ∧ (blkMuxEff k s).flt = s.flt ∧ (blkMuxEff k s).tim = s.tim ∧
    (blkMuxEff k s).net = s.net ∧ (blkMuxEff k s).prt = s.prt ∧ (blkMuxEff k s).trp = s.trp ∧
    (blkMuxEff k s).pod = s.pod ∧ (blkMuxEff k s).gsv = s.gsv ∧ (blkMuxEff k s).tph = s.tph ∧
    (blkMuxEff k s).oz = s.oz ∧ (blkMuxEff k s).sec = s.sec ∧ (blkMuxEff k s).cmd = s.cmd ∧
    (blkMuxEff k s).regs = s.regs := by
  have hfonCall := @State.onCall_frame
  have hf1 := @State.runPure_frame
  simp [↓hfonCall, ↓hf1, blkMuxEff]

theorem blkLimitEff_frame (k : ℕ) (s : State) :
    (blkLimitEff k s).now = s.now ∧ (blkLimitEff k s).pending = s.pending ∧ (blkLimitEff k s).regs0 = s.regs0 ∧
    (blkLimitEff k s).freeCtr = s.freeCtr ∧ (blkLimitEff k s).mode = s.mode ∧ (blkLimitEff k s).mram = s.mram ∧
    (blkLimitEff k s).sys = s.sys ∧ (blkLimitEff k s).evt = s.evt ∧ (blkLimitEff k s).ana = s.ana ∧
    (blkLimitEff k s).aux = s.aux ∧ (blkLimitEff k s).flt = s.flt ∧ (blkLimitEff k s).tim = s.tim ∧
    (blkLimitEff k s).net = s.net ∧ (blkLimitEff k s).prt = s.prt ∧ (blkLimitEff k s).trp = s.trp ∧
    (blkLimitEff k s).pod = s.pod ∧ (blkLimitEff k s).gsv = s.gsv ∧ (blkLimitEff k s).tph = s.tph ∧
    (blkLimitEff k s).oz = s.oz ∧ (blkLimitEff k s).sec = s.sec ∧ (blkLimitEff k s).cmd = s.cmd ∧
    (blkLimitEff k s).regs = s.regs := by
  have hfonCall := @State.onCall_frame
  have hf1 := @State.runPure_frame
  simp [↓hfonCall, ↓hf1, blkLimitEff]

theorem blkMoveEff_frame (k : ℕ) (s : State) :
    (blkMoveEff k s).now = s.now ∧ (blkMoveEff k s).pending = s.pending ∧ (blkMoveEff k s).regs0 = s.regs0 ∧
    (blkMoveEff k s).freeCtr = s.freeCtr ∧ (blkMoveEff k s).mode = s.mode ∧ (blkMoveEff k s).mram = s.mram ∧
    (blkMoveEff k s).sys = s.sys ∧ (blkMoveEff k s).evt = s.evt ∧ (blkMoveEff k s).ana = s.ana ∧
    (blkMoveEff k s).aux = s.aux ∧ (blkMoveEff k s).flt = s.flt ∧ (blkMoveEff k s).tim = s.tim ∧
    (blkMoveEff k s).net = s.net ∧ (blkMoveEff k s).prt = s.prt ∧ (blkMoveEff k s).trp = s.trp ∧
    (blkMoveEff k s).pod = s.pod ∧ (blkMoveEff k s).gsv = s.gsv ∧ (blkMoveEff k s).tph = s.tph ∧
    (blkMoveEff k s).oz = s.oz ∧ (blkMoveEff k s).sec = s.sec ∧ (blkMoveEff k s).cmd = s.cmd ∧
    (blkMoveEff k s).regs = s.regs := by
  have hfonCall := @State.onCall_frame
  have hf1 := @State.runPure_frame
  simp [↓hfonCall, ↓hf1, blkMoveEff]

theorem blkPackEff_frame (k : ℕ) (s : State) :
    (blkPackEff k s).now = s.now ∧ (blkPackEff k s).pending = s.pending ∧ (blkPackEff k s).regs0 = s.regs0 ∧
    (blkPackEff k s).freeCtr = s.freeCtr ∧ (blkPackEff k s).mode = s.mode ∧ (blkPackEff k s).mram = s.mram ∧
    (blkPackEff k s).sys = s.sys ∧ (blkPackEff k s).evt = s.evt ∧ (blkPackEff k s).ana = s.ana ∧
    (blkPackEff k s).aux = s.aux ∧ (blkPackEff k s).flt = s.flt ∧ (blkPackEff k s).tim = s.tim ∧
    (blkPackEff k s).net = s.net ∧ (blkPackEff k s).prt = s.prt ∧ (blkPackEff k s).trp = s.trp ∧
    (blkPackEff k s).pod = s.pod ∧ (blkPackEff k s).gsv = s.gsv ∧ (blkPackEff k s).tph = s.tph ∧
    (blkPackEff k s).oz = s.oz ∧ (blkPackEff k s).sec = s.sec ∧ (blkPackEff k s).cmd = s.cmd ∧
    (blkPackEff k s).regs = s.regs := by
  have hfonCall := @State.onCall_frame
  have hf1 := @State.runPure_frame
  simp [↓hfonCall, ↓hf1, blkPackEff]

theorem blkUnpackEff_frame (k : ℕ) (s : State) :
    (blkUnpackEff k s).now = s.now ∧ (blkUnpackEff k s).pending = s.pending ∧ (blkUnpackEff k s).regs0 = s.regs0 ∧
    (blkUnpackEff k s).freeCtr = s.freeCtr ∧ (blkUnpackEff k s).mode = s.mode ∧ (blkUnpackEff k s).mram = s.mram ∧
    (blkUnpackEff k s).sys = s.sys ∧ (blkUnpackEff k s).evt = s.evt ∧ (blkUnpackEff k s).ana = s.ana ∧
    (blkUnpackEff k s).aux = s.aux ∧ (blkUnpackEff k s).flt = s.flt ∧ (blkUnpackEff k s).tim = s.tim ∧
    (blkUnpackEff k s).net = s.net ∧ (blkUnpackEff k s).prt = s.prt ∧ (blkUnpackEff k s).trp = s.trp ∧
    (blkUnpackEff k s).pod = s.pod ∧ (blkUnpackEff k s).gsv = s.gsv ∧ (blkUnpackEff k s).tph = s.tph ∧
    (blkUnpackEff k s).oz = s.oz ∧ (blkUnpackEff k s).sec = s.sec ∧ (blkUnpackEff k s).cmd = s.cmd ∧
    (blkUnpackEff k s).regs = s.regs := by
  have hfonCall := @State.onCall_frame
  have hf1 := @State.runPure_frame
  simp [↓hfonCall, ↓hf1, blkUnpackEff]

theorem blkBandEff_frame (k : ℕ) (s : State) :
    (blkBandEff k s).now = s.now ∧ (blkBandEff k s).pending = s.pending ∧ (blkBandEff k s).regs0 = s.regs0 ∧
    (blkBandEff k s).freeCtr = s.freeCtr ∧ (blkBandEff k s).mode = s.mode ∧ (blkBandEff k s).mram = s.mram ∧
    (blkBandEff k s).sys = s.sys ∧ (blkBandEff k s).evt = s.evt ∧ (blkBandEff k s).ana = s.ana ∧
    (blkBandEff k s).aux = s.aux ∧ (blkBandEff k s).flt = s.flt ∧ (blkBandEff k s).tim = s.tim ∧
    (blkBandEff k s).net = s.net ∧ (blkBandEff k s).prt = s.prt ∧ (blkBandEff k s).trp = s.trp ∧
    (blkBandEff k s).pod = s.pod ∧ (blkBandEff k s).gsv = s.gsv ∧ (blkBandEff k s).tph = s.tph ∧
    (blkBandEff k s).oz = s.oz ∧ (blkBandEff k s).sec = s.sec ∧ (blkBandEff k s).cmd = s.cmd ∧
    (blkBandEff k s).regs = s.regs := by
  have hfonCall := @State.onCall_frame
  have hf1 := @State.runPure_frame
  simp [↓hfonCall, ↓hf1, blkBandEff]

theorem blkBorEff_frame (k : ℕ) (s : State) :
    (blkBorEff k s).now = s.now ∧ (blkBorEff k s).pending = s.pending ∧ (blkBorEff k s).regs0 = s.regs0 ∧
    (blkBorEff k s).freeCtr = s.freeCtr ∧ (blkBorEff k s).mode = s.mode ∧ (blkBorEff k s).mram = s.mram ∧
    (blkBorEff k s).sys = s.sys ∧ (blkBorEff k s).evt = s.evt ∧ (blkBorEff k s).ana = s.ana ∧
    (blkBorEff k s).aux = s.aux ∧ (blkBorEff k s).flt = s.flt ∧ (blkBorEff k s).tim = s.tim ∧
    (blkBorEff k s).net = s.net ∧ (blkBorEff k s).prt = s.prt ∧ (blkBorEff k s).trp = s.trp ∧
    (blkBorEff k s).pod = s.pod ∧ (blkBorEff k s).gsv = s.gsv ∧ (blkBorEff k s).tph = s.tph ∧
    (blkBorEff k s).oz = s.oz ∧ (blkBorEff k s).sec = s.sec ∧ (blkBorEff k s).cmd = s.cmd ∧
    (blkBorEff k s).regs = s.regs := by
  have hfonCall := @State.onCall_frame
  have hf1 := @State.runPure_frame
  simp [↓hfonCall, ↓hf1, blkBorEff]

theorem blkBxorEff_frame (k : ℕ) (s : State) :
    (blkBxorEff k s).now = s.now ∧ (blkBxorEff k s).pending = s.pending ∧ (blkBxorEff k s).regs0 = s.regs0 ∧
    (blkBxorEff k s).freeCtr = s.freeCtr ∧ (blkBxorEff k s).mode = s.mode ∧ (blkBxorEff k s).mram = s.mram ∧
    (blkBxorEff k s).sys = s.sys ∧ (blkBxorEff k s).evt = s.evt ∧ (blkBxorEff k s).ana = s.ana ∧
    (blkBxorEff k s).aux = s.aux ∧ (blkBxorEff k s).flt = s.flt ∧ (blkBxorEff k s).tim = s.tim ∧
    (blkBxorEff k s).net = s.net ∧ (blkBxorEff k s).prt = s.prt ∧ (blkBxorEff k s).trp = s.trp ∧
    (blkBxorEff k s).pod = s.pod ∧ (blkBxorEff k s).gsv = s.gsv ∧ (blkBxorEff k s).tph = s.tph ∧
    (blkBxorEff k s).oz = s.oz ∧ (blkBxorEff k s).sec = s.sec ∧ (blkBxorEff k s).cmd = s.cmd ∧
    (blkBxorEff k s).regs = s.regs := by
  have hfonCall := @State.onCall_frame
  have hf1 := @State.runPure_frame
  simp [↓hfonCall, ↓hf1, blkBxorEff]

theorem blkShlEff_frame (k : ℕ) (s : State) :
    (blkShlEff k s).now = s.now ∧ (blkShlEff k s).pending = s.pending ∧ (blkShlEff k s).regs0 = s.regs0 ∧
    (blkShlEff k s).freeCtr = s.freeCtr ∧ (blkShlEff k s).mode = s.mode ∧ (blkShlEff k s).mram = s.mram ∧
    (blkShlEff k s).sys = s.sys ∧ (blkShlEff k s).evt = s.evt ∧ (blkShlEff k s).ana = s.ana ∧
    (blkShlEff k s).aux = s.aux ∧ (blkShlEff k s).flt = s.flt ∧ (blkShlEff k s).tim = s.tim ∧
    (blkShlEff k s).net = s.net ∧ (blkShlEff k s).prt = s.prt ∧ (blkShlEff k s).trp = s.trp ∧
    (blkShlEff k s).pod = s.pod ∧ (blkShlEff k s).gsv = s.gsv ∧ (blkShlEff k s).tph = s.tph ∧
    (blkShlEff k s).oz = s.oz ∧ (blkShlEff k s).sec = s.sec ∧ (blkShlEff k s).cmd = s.cmd ∧
    (blkShlEff k s).regs = s.regs := by
  have hfonCall := @State.onCall_frame
  have hf1 := @State.runPure_frame
  simp [↓hfonCall, ↓hf1, blkShlEff]

theorem blkShrEff_frame (k : ℕ) (s : State) :
    (blkShrEff k s).now = s.now ∧ (blkShrEff k s).pending = s.pending ∧ (blkShrEff k s).regs0 = s.regs0 ∧
    (blkShrEff k s).freeCtr = s.freeCtr ∧ (blkShrEff k s).mode = s.mode ∧ (blkShrEff k s).mram = s.mram ∧
    (blkShrEff k s).sys = s.sys ∧ (blkShrEff k s).evt = s.evt ∧ (blkShrEff k s).ana = s.ana ∧
    (blkShrEff k s).aux = s.aux ∧ (blkShrEff k s).flt = s.flt ∧ (blkShrEff k s).tim = s.tim ∧
    (blkShrEff k s).net = s.net ∧ (blkShrEff k s).prt = s.prt ∧ (blkShrEff k s).trp = s.trp ∧
    (blkShrEff k s).pod = s.pod ∧ (blkShrEff k s).gsv = s.gsv ∧ (blkShrEff k s).tph = s.tph ∧
    (blkShrEff k s).oz = s.oz ∧ (blkShrEff k s).sec = s.sec ∧ (blkShrEff k s).cmd = s.cmd ∧
    (blkShrEff k s).regs = s.regs := by
  have hfonCall := @State.onCall_frame
  have hf1 := @State.runPure_frame
  simp [↓hfonCall, ↓hf1, blkShrEff]

theorem blkI2rEff_frame (k : ℕ) (s : State) :
    (blkI2rEff k s).now = s.now ∧ (blkI2rEff k s).pending = s.pending ∧ (blkI2rEff k s).regs0 = s.regs0 ∧
    (blkI2rEff k s).freeCtr = s.freeCtr ∧ (blkI2rEff k s).mode = s.mode ∧ (blkI2rEff k s).mram = s.mram ∧
    (blkI2rEff k s).sys = s.sys ∧ (blkI2rEff k s).evt = s.evt ∧ (blkI2rEff k s).ana = s.ana ∧
    (blkI2rEff k s).aux = s.aux ∧ (blkI2rEff k s).flt = s.flt ∧ (blkI2rEff k s).tim = s.tim ∧
    (blkI2rEff k s).net = s.net ∧ (blkI2rEff k s).prt = s.prt ∧ (blkI2rEff k s).trp = s.trp ∧
    (blkI2rEff k s).pod = s.pod ∧ (blkI2rEff k s).gsv = s.gsv ∧ (blkI2rEff k s).tph = s.tph ∧
    (blkI2rEff k s).oz = s.oz ∧ (blkI2rEff k s).sec = s.sec ∧ (blkI2rEff k s).cmd = s.cmd ∧
    (blkI2rEff k s).regs = s.regs := by
  have hfonCall := @State.onCall_frame
  have hf1 := @State.runPure_frame
  simp [↓hfonCall, ↓hf1, blkI2rEff]

theorem blkR2iEff_frame (k : ℕ) (s : State) :
    (blkR2iEff k s).now = s.now ∧ (blkR2iEff k s).pending = s.pending ∧ (blkR2iEff k s).regs0 = s.regs0 ∧
    (blkR2iEff k s).freeCtr = s.freeCtr ∧ (blkR2iEff k s).mode = s.mode ∧ (blkR2iEff k s).mram = s.mram ∧
    (blkR2iEff k s).sys = s.sys ∧ (blkR2iEff k s).evt = s.evt ∧ (blkR2iEff k s).ana = s.ana ∧
    (blkR2iEff k s).aux = s.aux ∧ (blkR2iEff k s).flt = s.flt ∧ (blkR2iEff k s).tim = s.tim ∧
    (blkR2iEff k s).net = s.net ∧ (blkR2iEff k s).prt = s.prt ∧ (blkR2iEff k s).trp = s.trp ∧
    (blkR2iEff k s).pod = s.pod ∧ (blkR2iEff k s).gsv = s.gsv ∧ (blkR2iEff k s).tph = s.tph ∧
    (blkR2iEff k s).oz = s.oz ∧ (blkR2iEff k s).sec = s.sec ∧ (blkR2iEff k s).cmd = s.cmd ∧
    (blkR2iEff k s).regs = s.regs := by
  have hfonCall := @State.onCall_frame
  have hf1 := @State.runPure_frame
  simp [↓hfonCall, ↓hf1, blkR2iEff]

theorem blkB2iEff_frame (k : ℕ) (s : State) :
    (blkB2iEff k s).now = s.now ∧ (blkB2iEff k s).pending = s.pending ∧ (blkB2iEff k s).regs0 = s.regs0 ∧
    (blkB2iEff k s).freeCtr = s.freeCtr ∧ (blkB2iEff k s).mode = s.mode ∧ (blkB2iEff k s).mram = s.mram ∧
    (blkB2iEff k s).sys = s.sys ∧ (blkB2iEff k s).evt = s.evt ∧ (blkB2iEff k s).ana = s.ana ∧
    (blkB2iEff k s).aux = s.aux ∧ (blkB2iEff k s).flt = s.flt ∧ (blkB2iEff k s).tim = s.tim ∧
    (blkB2iEff k s).net = s.net ∧ (blkB2iEff k s).prt = s.prt ∧ (blkB2iEff k s).trp = s.trp ∧
    (blkB2iEff k s).pod = s.pod ∧ (blkB2iEff k s).gsv = s.gsv ∧ (blkB2iEff k s).tph = s.tph ∧
    (blkB2iEff k s).oz = s.oz ∧ (blkB2iEff k s).sec = s.sec ∧ (blkB2iEff k s).cmd = s.cmd ∧
    (blkB2iEff k s).regs = s.regs := by
  have hfonCall := @State.onCall_frame
  have hf1 := @State.runPure_frame
  simp [↓hfonCall, ↓hf1, blkB2iEff]

theorem blkI2bEff_frame (k : ℕ) (s : State) :
    (blkI2bEff k s).now = s.now ∧ (blkI2bEff k s).pending = s.pending ∧ (blkI2bEff k s).regs0 = s.regs0 ∧
    (blkI2bEff k s).freeCtr = s.freeCtr ∧ (blkI2bEff k s).mode = s.mode ∧ (blkI2bEff k s).mram = s.mram ∧
    (blkI2bEff k s).sys = s.sys ∧ (blkI2bEff k s).evt = s.evt ∧ (blkI2bEff k s).ana = s.ana ∧
    (blkI2bEff k s).aux = s.aux ∧ (blkI2bEff k s).flt = s.flt ∧ (blkI2bEff k s).tim = s.tim ∧
    (blkI2bEff k s).net = s.net ∧ (blkI2bEff k s).prt = s.prt ∧ (blkI2bEff k s).trp = s.trp ∧
    (blkI2bEff k s).pod = s.pod ∧ (blkI2bEff k s).gsv = s.gsv ∧ (blkI2bEff k s).tph = s.tph ∧
    (blkI2bEff k s).oz = s.oz ∧ (blkI2bEff k s).sec = s.sec ∧ (blkI2bEff k s).cmd = s.cmd ∧
    (blkI2bEff k s).regs = s.regs := by
  have hfonCall := @State.onCall_frame
  have hf1 := @State.runPure_frame
  simp [↓hfonCall, ↓hf1, blkI2bEff]

theorem blkT2iEff_frame (k : ℕ) (s : State) :
    (blkT2iEff k s).now = s.now ∧ (blkT2iEff k s).pending = s.pending ∧ (blkT2iEff k s).regs0 = s.regs0 ∧
    (blkT2iEff k s).freeCtr = s.freeCtr ∧ (blkT2iEff k s).mode = s.mode ∧ (blkT2iEff k s).mram = s.mram ∧
    (blkT2iEff k s).sys = s.sys ∧ (blkT2iEff k s).evt = s.evt ∧ (blkT2iEff k s).ana = s.ana ∧
    (blkT2iEff k s).aux = s.aux ∧ (blkT2iEff k s).flt = s.flt ∧ (blkT2iEff k s).tim = s.tim ∧
    (blkT2iEff k s).net = s.net ∧ (blkT2iEff k s).prt = s.prt ∧ (blkT2iEff k s).trp = s.trp ∧
    (blkT2iEff k s).pod = s.pod ∧ (blkT2iEff k s).gsv = s.gsv ∧ (blkT2iEff k s).tph = s.tph ∧
    (blkT2iEff k s).oz = s.oz ∧ (blkT2iEff k s).sec = s.sec ∧ (blkT2iEff k s).cmd = s.cmd ∧
    (blkT2iEff k s).regs = s.regs := by
  have hfonCall := @State.onCall_frame
  have hf1 := @State.runPure_frame
  simp [↓hfonCall, ↓hf1, blkT2iEff]

theorem blkI2tEff_frame (k : ℕ) (s : State) :
    (blkI2tEff k s).now = s.now ∧ (blkI2tEff k s).pending = s.pending ∧ (blkI2tEff k s).regs0 = s.regs0 ∧
    (blkI2tEff k s).freeCtr = s.freeCtr ∧ (blkI2tEff k s).mode = s.mode ∧ (blkI2tEff k s).mram = s.mram ∧
    (blkI2tEff k s).sys = s.sys ∧ (blkI2tEff k s).evt = s.evt ∧ (blkI2tEff k s).ana = s.ana ∧
    (blkI2tEff k s).aux = s.aux ∧ (blkI2tEff k s).flt = s.flt ∧ (blkI2tEff k s).tim = s.tim ∧
    (blkI2tEff k s).net = s.net ∧ (blkI2tEff k s).prt = s.prt ∧ (blkI2tEff k s).trp = s.trp ∧
    (blkI2tEff k s).pod = s.pod ∧ (blkI2tEff k s).gsv = s.gsv ∧ (blkI2tEff k s).tph = s.tph ∧
    (blkI2tEff k s).oz = s.oz ∧ (blkI2tEff k s).sec = s.sec ∧ (blkI2tEff k s).cmd = s.cmd ∧
    (blkI2tEff k s).regs = s.regs := by
  have hfonCall := @State.onCall_frame
  have hf1 := @State.runPure_frame
  simp [↓hfonCall, ↓hf1, blkI2tEff]

theorem blkT2rEff_frame (k : ℕ) (s : State) :
    (blkT2rEff k s).now = s.now ∧ (blkT2rEff k s).pending = s.pending ∧ (blkT2rEff k s).regs0 = s.regs0 ∧
    (blkT2rEff k s).freeCtr = s.freeCtr ∧ (blkT2rEff k s).mode = s.mode ∧ (blkT2rEff k s).mram = s.mram ∧
    (blkT2rEff k s).sys = s.sys ∧ (blkT2rEff k s).evt = s.evt ∧ (blkT2rEff k s).ana = s.ana ∧
    (blkT2rEff k s).aux = s.aux ∧ (blkT2rEff k s).flt = s.flt ∧ (blkT2rEff k s).tim = s.tim ∧
    (blkT2rEff k s).net = s.net ∧ (blkT2rEff k s).prt = s.prt ∧ (blkT2rEff k s).trp = s.trp ∧
    (blkT2rEff k s).pod = s.pod ∧ (blkT2rEff k s).gsv = s.gsv ∧ (blkT2rEff k s).tph = s.tph ∧
    (blkT2rEff k s).oz = s.oz ∧ (blkT2rEff k s).sec = s.sec ∧ (blkT2rEff k s).cmd = s.cmd ∧
    (blkT2rEff k s).regs = s.regs := by
  have hfonCall := @State.onCall_frame
  have hf1 := @State.runPure_frame
  simp [↓hfonCall, ↓hf1, blkT2rEff]

theorem blkR2tEff_frame (k : ℕ) (s : State) :
    (blkR2tEff k s).now = s.now ∧ (blkR2tEff k s).pending = s.pending ∧ (blkR2tEff k s).regs0 = s.regs0 ∧
    (blkR2tEff k s).freeCtr = s.freeCtr ∧ (blkR2tEff k s).mode = s.mode ∧ (blkR2tEff k s).mram = s.mram ∧
    (blkR2tEff k s).sys = s.sys ∧ (blkR2tEff k s).evt = s.evt ∧ (blkR2tEff k s).ana = s.ana ∧
    (blkR2tEff k s).aux = s.aux ∧ (blkR2tEff k s).flt = s.flt ∧ (blkR2tEff k s).tim = s.tim ∧
    (blkR2tEff k s).net = s.net ∧ (blkR2tEff k s).prt = s.prt ∧ (blkR2tEff k s).trp = s.trp ∧
    (blkR2tEff k s).pod = s.pod ∧ (blkR2tEff k s).gsv = s.gsv ∧ (blkR2tEff k s).tph = s.tph ∧
    (blkR2tEff k s).oz = s.oz ∧ (blkR2tEff k s).sec = s.sec ∧ (blkR2tEff k s).cmd = s.cmd ∧
    (blkR2tEff k s).regs = s.regs := by
  have hfonCall := @State.onCall_frame
  have hf1 := @State.runPure_frame
  simp [↓hfonCall, ↓hf1, blkR2tEff]

theorem blkNowEff_frame (k : ℕ) (s : State) :
    (blkNowEff k s).now = s.now ∧ (blkNowEff k s).pending = s.pending ∧ (blkNowEff k s).regs0 = s.regs0 ∧
    (blkNowEff k s).freeCtr = s.freeCtr ∧ (blkNowEff k s).mode = s.mode ∧ (blkNowEff k s).mram = s.mram ∧
    (blkNowEff k s).sys = s.sys ∧ (blkNowEff k s).evt = s.evt ∧ (blkNowEff k s).ana = s.ana ∧
    (blkNowEff k s).aux = s.aux ∧ (blkNowEff k s).flt = s.flt ∧ (blkNowEff k s).tim = s.tim ∧
    (blkNowEff k s).net = s.net ∧ (blkNowEff k s).prt = s.prt ∧ (blkNowEff k s).trp = s.trp ∧
    (blkNowEff k s).pod = s.pod ∧ (blkNowEff k s).gsv = s.gsv ∧ (blkNowEff k s).tph = s.tph ∧
    (blkNowEff k s).oz = s.oz ∧ (blkNowEff k s).sec = s.sec ∧ (blkNowEff k s).cmd = s.cmd ∧
    (blkNowEff k s).regs = s.regs := by
  have hfonCall := @State.onCall_frame
  have hf1 := @State.runPure_frame
  simp [↓hfonCall, ↓hf1, blkNowEff]

theorem blkLagEff_frame (k : ℕ) (s : State) :
    (blkLagEff k s).now = s.now ∧ (blkLagEff k s).pending = s.pending ∧ (blkLagEff k s).regs0 = s.regs0 ∧
    (blkLagEff k s).freeCtr = s.freeCtr ∧ (blkLagEff k s).mode = s.mode ∧ (blkLagEff k s).mram = s.mram ∧
    (blkLagEff k s).sys = s.sys ∧ (blkLagEff k s).evt = s.evt ∧ (blkLagEff k s).ana = s.ana ∧
    (blkLagEff k s).aux = s.aux ∧ (blkLagEff k s).flt = s.flt ∧ (blkLagEff k s).tim = s.tim ∧
    (blkLagEff k s).net = s.net ∧ (blkLagEff k s).prt = s.prt ∧ (blkLagEff k s).trp = s.trp ∧
    (blkLagEff k s).pod = s.pod ∧ (blkLagEff k s).gsv = s.gsv ∧ (blkLagEff k s).tph = s.tph ∧
    (blkLagEff k s).oz = s.oz ∧ (blkLagEff k s).sec = s.sec ∧ (blkLagEff k s).cmd = s.cmd ∧
    (blkLagEff k s).regs = s.regs := by
  have hfonCall := @State.onCall_frame
  have hf1 := @State.runPure_frame
  simp [↓hfonCall, ↓hf1, blkLagEff]

theorem blkDeltaEff_frame (k : ℕ) (s : State) :
    (blkDeltaEff k s).now = s.now ∧ (blkDeltaEff k s).pending = s.pending ∧ (blkDeltaEff k s).regs0 = s.regs0 ∧
    (blkDeltaEff k s).freeCtr = s.freeCtr ∧ (blkDeltaEff k s).mode = s.mode ∧ (blkDeltaEff k s).mram = s.mram ∧
    (blkDeltaEff k s).sys = s.sys ∧ (blkDeltaEff k s).evt = s.evt ∧ (blkDeltaEff k s).ana = s.ana ∧
    (blkDeltaEff k s).aux = s.aux ∧ (blkDeltaEff k s).flt = s.flt ∧ (blkDeltaEff k s).tim = s.tim ∧
    (blkDeltaEff k s).net = s.net ∧ (blkDeltaEff k s).prt = s.prt ∧ (blkDeltaEff k s).trp = s.trp ∧
    (blkDeltaEff k s).pod = s.pod ∧ (blkDeltaEff k s).gsv = s.gsv ∧ (blkDeltaEff k s).tph = s.tph ∧
    (blkDeltaEff k s).oz = s.oz ∧ (blkDeltaEff k s).sec = s.sec ∧ (blkDeltaEff k s).cmd = s.cmd ∧
    (blkDeltaEff k s).regs = s.regs := by
  have hfonCall := @State.onCall_frame
  have hf1 := @State.runPure_frame
  simp [↓hfonCall, ↓hf1, blkDeltaEff]

theorem blkQgoodEff_frame (k : ℕ) (s : State) :
    (blkQgoodEff k s).now = s.now ∧ (blkQgoodEff k s).pending = s.pending ∧ (blkQgoodEff k s).regs0 = s.regs0 ∧
    (blkQgoodEff k s).freeCtr = s.freeCtr ∧ (blkQgoodEff k s).mode = s.mode ∧ (blkQgoodEff k s).mram = s.mram ∧
    (blkQgoodEff k s).sys = s.sys ∧ (blkQgoodEff k s).evt = s.evt ∧ (blkQgoodEff k s).ana = s.ana ∧
    (blkQgoodEff k s).aux = s.aux ∧ (blkQgoodEff k s).flt = s.flt ∧ (blkQgoodEff k s).tim = s.tim ∧
    (blkQgoodEff k s).net = s.net ∧ (blkQgoodEff k s).prt = s.prt ∧ (blkQgoodEff k s).trp = s.trp ∧
    (blkQgoodEff k s).pod = s.pod ∧ (blkQgoodEff k s).gsv = s.gsv ∧ (blkQgoodEff k s).tph = s.tph ∧
    (blkQgoodEff k s).oz = s.oz ∧ (blkQgoodEff k s).sec = s.sec ∧ (blkQgoodEff k s).cmd = s.cmd ∧
    (blkQgoodEff k s).regs = s.regs := by
  have hfonCall := @State.onCall_frame
  have hf1 := @State.runPure_frame
  simp [↓hfonCall, ↓hf1, blkQgoodEff]

theorem blkSubstateEff_frame (k : ℕ) (s : State) :
    (blkSubstateEff k s).now = s.now ∧ (blkSubstateEff k s).pending = s.pending ∧
    (blkSubstateEff k s).regs0 = s.regs0 ∧ (blkSubstateEff k s).freeCtr = s.freeCtr ∧
    (blkSubstateEff k s).mode = s.mode ∧ (blkSubstateEff k s).mram = s.mram ∧ (blkSubstateEff k s).sys = s.sys ∧
    (blkSubstateEff k s).evt = s.evt ∧ (blkSubstateEff k s).ana = s.ana ∧ (blkSubstateEff k s).aux = s.aux ∧
    (blkSubstateEff k s).flt = s.flt ∧ (blkSubstateEff k s).tim = s.tim ∧ (blkSubstateEff k s).net = s.net ∧
    (blkSubstateEff k s).prt = s.prt ∧ (blkSubstateEff k s).trp = s.trp ∧ (blkSubstateEff k s).pod = s.pod ∧
    (blkSubstateEff k s).gsv = s.gsv ∧ (blkSubstateEff k s).tph = s.tph ∧ (blkSubstateEff k s).oz = s.oz ∧
    (blkSubstateEff k s).sec = s.sec ∧ (blkSubstateEff k s).cmd = s.cmd ∧ (blkSubstateEff k s).regs = s.regs := by
  have hfonCall := @State.onCall_frame
  have hf1 := @State.runPure_frame
  simp [↓hfonCall, ↓hf1, blkSubstateEff]

theorem blkPodstateEff_frame (k : ℕ) (s : State) :
    (blkPodstateEff k s).now = s.now ∧ (blkPodstateEff k s).pending = s.pending ∧
    (blkPodstateEff k s).regs0 = s.regs0 ∧ (blkPodstateEff k s).freeCtr = s.freeCtr ∧
    (blkPodstateEff k s).mode = s.mode ∧ (blkPodstateEff k s).mram = s.mram ∧ (blkPodstateEff k s).sys = s.sys ∧
    (blkPodstateEff k s).evt = s.evt ∧ (blkPodstateEff k s).ana = s.ana ∧ (blkPodstateEff k s).aux = s.aux ∧
    (blkPodstateEff k s).flt = s.flt ∧ (blkPodstateEff k s).tim = s.tim ∧ (blkPodstateEff k s).net = s.net ∧
    (blkPodstateEff k s).prt = s.prt ∧ (blkPodstateEff k s).trp = s.trp ∧ (blkPodstateEff k s).pod = s.pod ∧
    (blkPodstateEff k s).gsv = s.gsv ∧ (blkPodstateEff k s).tph = s.tph ∧ (blkPodstateEff k s).oz = s.oz ∧
    (blkPodstateEff k s).sec = s.sec ∧ (blkPodstateEff k s).cmd = s.cmd ∧ (blkPodstateEff k s).regs = s.regs := by
  have hfonCall := @State.onCall_frame
  have hf1 := @State.runPure_frame
  simp [↓hfonCall, ↓hf1, blkPodstateEff]

theorem blkSgselEff_frame (k : ℕ) (s : State) :
    (blkSgselEff k s).now = s.now ∧ (blkSgselEff k s).pending = s.pending ∧ (blkSgselEff k s).regs0 = s.regs0 ∧
    (blkSgselEff k s).freeCtr = s.freeCtr ∧ (blkSgselEff k s).mode = s.mode ∧ (blkSgselEff k s).mram = s.mram ∧
    (blkSgselEff k s).sys = s.sys ∧ (blkSgselEff k s).evt = s.evt ∧ (blkSgselEff k s).ana = s.ana ∧
    (blkSgselEff k s).aux = s.aux ∧ (blkSgselEff k s).flt = s.flt ∧ (blkSgselEff k s).tim = s.tim ∧
    (blkSgselEff k s).net = s.net ∧ (blkSgselEff k s).prt = s.prt ∧ (blkSgselEff k s).trp = s.trp ∧
    (blkSgselEff k s).pod = s.pod ∧ (blkSgselEff k s).gsv = s.gsv ∧ (blkSgselEff k s).tph = s.tph ∧
    (blkSgselEff k s).oz = s.oz ∧ (blkSgselEff k s).sec = s.sec ∧ (blkSgselEff k s).cmd = s.cmd ∧
    (blkSgselEff k s).regs = s.regs := by
  have hfonCall := @State.onCall_frame
  have hf1 := @State.runPure_frame
  simp [↓hfonCall, ↓hf1, blkSgselEff]

theorem blkIlkEff_frame (k : ℕ) (s : State) :
    (blkIlkEff k s).now = s.now ∧ (blkIlkEff k s).pending = s.pending ∧ (blkIlkEff k s).regs0 = s.regs0 ∧
    (blkIlkEff k s).freeCtr = s.freeCtr ∧ (blkIlkEff k s).mode = s.mode ∧ (blkIlkEff k s).mram = s.mram ∧
    (blkIlkEff k s).sys = s.sys ∧ (blkIlkEff k s).evt = s.evt ∧ (blkIlkEff k s).ana = s.ana ∧
    (blkIlkEff k s).aux = s.aux ∧ (blkIlkEff k s).flt = s.flt ∧ (blkIlkEff k s).tim = s.tim ∧
    (blkIlkEff k s).net = s.net ∧ (blkIlkEff k s).prt = s.prt ∧ (blkIlkEff k s).trp = s.trp ∧
    (blkIlkEff k s).pod = s.pod ∧ (blkIlkEff k s).gsv = s.gsv ∧ (blkIlkEff k s).tph = s.tph ∧
    (blkIlkEff k s).oz = s.oz ∧ (blkIlkEff k s).sec = s.sec ∧ (blkIlkEff k s).cmd = s.cmd ∧
    (blkIlkEff k s).regs = s.regs := by
  have hfonCall := @State.onCall_frame
  have hf1 := @State.runPure_frame
  simp [↓hfonCall, ↓hf1, blkIlkEff]

theorem blkDpsEff_frame (k : ℕ) (s : State) :
    (blkDpsEff k s).now = s.now ∧ (blkDpsEff k s).pending = s.pending ∧ (blkDpsEff k s).regs0 = s.regs0 ∧
    (blkDpsEff k s).freeCtr = s.freeCtr ∧ (blkDpsEff k s).mode = s.mode ∧ (blkDpsEff k s).mram = s.mram ∧
    (blkDpsEff k s).sys = s.sys ∧ (blkDpsEff k s).evt = s.evt ∧ (blkDpsEff k s).ana = s.ana ∧
    (blkDpsEff k s).aux = s.aux ∧ (blkDpsEff k s).flt = s.flt ∧ (blkDpsEff k s).tim = s.tim ∧
    (blkDpsEff k s).net = s.net ∧ (blkDpsEff k s).prt = s.prt ∧ (blkDpsEff k s).trp = s.trp ∧
    (blkDpsEff k s).pod = s.pod ∧ (blkDpsEff k s).gsv = s.gsv ∧ (blkDpsEff k s).tph = s.tph ∧
    (blkDpsEff k s).oz = s.oz ∧ (blkDpsEff k s).sec = s.sec ∧ (blkDpsEff k s).cmd = s.cmd ∧
    (blkDpsEff k s).regs = s.regs := by
  have hfonCall := @State.onCall_frame
  have hf1 := @State.runPure_frame
  simp [↓hfonCall, ↓hf1, blkDpsEff]

theorem blkLockoutEff_frame (k : ℕ) (s : State) :
    (blkLockoutEff k s).now = s.now ∧ (blkLockoutEff k s).pending = s.pending ∧ (blkLockoutEff k s).regs0 = s.regs0 ∧
    (blkLockoutEff k s).freeCtr = s.freeCtr ∧ (blkLockoutEff k s).mode = s.mode ∧ (blkLockoutEff k s).mram = s.mram ∧
    (blkLockoutEff k s).sys = s.sys ∧ (blkLockoutEff k s).evt = s.evt ∧ (blkLockoutEff k s).ana = s.ana ∧
    (blkLockoutEff k s).aux = s.aux ∧ (blkLockoutEff k s).flt = s.flt ∧ (blkLockoutEff k s).tim = s.tim ∧
    (blkLockoutEff k s).net = s.net ∧ (blkLockoutEff k s).prt = s.prt ∧ (blkLockoutEff k s).trp = s.trp ∧
    (blkLockoutEff k s).pod = s.pod ∧ (blkLockoutEff k s).gsv = s.gsv ∧ (blkLockoutEff k s).tph = s.tph ∧
    (blkLockoutEff k s).oz = s.oz ∧ (blkLockoutEff k s).sec = s.sec ∧ (blkLockoutEff k s).cmd = s.cmd ∧
    (blkLockoutEff k s).regs = s.regs := by
  have hfonCall := @State.onCall_frame
  have hf1 := @State.runPure_frame
  simp [↓hfonCall, ↓hf1, blkLockoutEff]
end Sys2Proof.Machine
end

