-- ==== Sys2Proof/Laws/FrameLogic.lean ====
section
/-!
SUPPORT. What the operations of Machine/Logic.lean leave as it was: one lemma per operation, over the parts of the state.
-/
set_option linter.all false
set_option Elab.async false
namespace Sys2Proof.Machine
theorem State.complete_frame (s : State) (op : ℕ) (tr : ℕ) (status : ℕ) (seq : ℕ) (detail : ℕ) :
    (State.complete s op tr status seq detail).now = s.now ∧
    (State.complete s op tr status seq detail).pending = s.pending ∧
    (State.complete s op tr status seq detail).regs0 = s.regs0 ∧
    (State.complete s op tr status seq detail).freeCtr = s.freeCtr ∧
    (State.complete s op tr status seq detail).mode = s.mode ∧
    (State.complete s op tr status seq detail).mram.keyCnt = s.mram.keyCnt ∧
    (State.complete s op tr status seq detail).mram.boot = s.mram.boot ∧
    (State.complete s op tr status seq detail).sys = s.sys ∧ (State.complete s op tr status seq detail).ana = s.ana ∧
    (State.complete s op tr status seq detail).aux = s.aux ∧ (State.complete s op tr status seq detail).flt = s.flt ∧
    (State.complete s op tr status seq detail).tim = s.tim ∧ (State.complete s op tr status seq detail).net = s.net ∧
    (State.complete s op tr status seq detail).prt = s.prt ∧ (State.complete s op tr status seq detail).trp = s.trp ∧
    (State.complete s op tr status seq detail).pod = s.pod ∧ (State.complete s op tr status seq detail).lgc = s.lgc ∧
    (State.complete s op tr status seq detail).gsv = s.gsv ∧ (State.complete s op tr status seq detail).tph = s.tph ∧
    (State.complete s op tr status seq detail).oz = s.oz ∧ (State.complete s op tr status seq detail).sec = s.sec ∧
    (State.complete s op tr status seq detail).cmd.run = s.cmd.run ∧
    (State.complete s op tr status seq detail).cmd.svc = s.cmd.svc := by
  have hf1 := @State.raise_frame
  have hf2 := @State.setF_frame
  simp [↓hf1, ↓hf2, State.complete]

theorem State.bkrEnd_frame (s : State) (r : BkrReq) (stat : ℕ) :
    (State.bkrEnd s r stat).now = s.now ∧ (State.bkrEnd s r stat).pending = s.pending ∧
    (State.bkrEnd s r stat).regs0 = s.regs0 ∧ (State.bkrEnd s r stat).freeCtr = s.freeCtr ∧
    (State.bkrEnd s r stat).mode = s.mode ∧ (State.bkrEnd s r stat).mram.keyCnt = s.mram.keyCnt ∧
    (State.bkrEnd s r stat).mram.boot = s.mram.boot ∧ (State.bkrEnd s r stat).sys = s.sys ∧
    (State.bkrEnd s r stat).ana = s.ana ∧ (State.bkrEnd s r stat).aux = s.aux ∧ (State.bkrEnd s r stat).flt = s.flt ∧
    (State.bkrEnd s r stat).tim = s.tim ∧ (State.bkrEnd s r stat).net = s.net ∧ (State.bkrEnd s r stat).prt = s.prt ∧
    (State.bkrEnd s r stat).trp = s.trp ∧ (State.bkrEnd s r stat).pod = s.pod ∧ (State.bkrEnd s r stat).lgc = s.lgc ∧
    (State.bkrEnd s r stat).gsv = s.gsv ∧ (State.bkrEnd s r stat).tph = s.tph ∧ (State.bkrEnd s r stat).oz = s.oz ∧
    (State.bkrEnd s r stat).sec = s.sec ∧ (State.bkrEnd s r stat).cmd.run = s.cmd.run ∧
    (State.bkrEnd s r stat).cmd.svc = s.cmd.svc := by
  have hf1 := @State.complete_frame
  simp [↓hf1, State.bkrEnd]

theorem State.bkrAnswer_frame (s : State) (e : BkrReq × ℕ) :
    (State.bkrAnswer s e).now = s.now ∧ (State.bkrAnswer s e).pending = s.pending ∧
    (State.bkrAnswer s e).regs0 = s.regs0 ∧ (State.bkrAnswer s e).freeCtr = s.freeCtr ∧
    (State.bkrAnswer s e).mode = s.mode ∧ (State.bkrAnswer s e).mram.keyCnt = s.mram.keyCnt ∧
    (State.bkrAnswer s e).mram.boot = s.mram.boot ∧ (State.bkrAnswer s e).sys = s.sys ∧
    (State.bkrAnswer s e).ana = s.ana ∧ (State.bkrAnswer s e).aux = s.aux ∧ (State.bkrAnswer s e).flt = s.flt ∧
    (State.bkrAnswer s e).tim = s.tim ∧ (State.bkrAnswer s e).net = s.net ∧ (State.bkrAnswer s e).prt = s.prt ∧
    (State.bkrAnswer s e).trp = s.trp ∧ (State.bkrAnswer s e).pod = s.pod ∧ (State.bkrAnswer s e).gsv = s.gsv ∧
    (State.bkrAnswer s e).tph = s.tph ∧ (State.bkrAnswer s e).oz = s.oz ∧ (State.bkrAnswer s e).sec = s.sec ∧
    (State.bkrAnswer s e).cmd.run = s.cmd.run ∧ (State.bkrAnswer s e).cmd.svc = s.cmd.svc := by
  have hfite := @State.ite_frame
  have hf1 := @State.bkrEnd_frame
  simp [↓hfite, ↓hf1, State.bkrAnswer]

theorem State.bkrSettle_frame (s : State) :
    (State.bkrSettle s).now = s.now ∧ (State.bkrSettle s).pending = s.pending ∧ (State.bkrSettle s).regs0 = s.regs0 ∧
    (State.bkrSettle s).freeCtr = s.freeCtr ∧ (State.bkrSettle s).mode = s.mode ∧
    (State.bkrSettle s).mram.keyCnt = s.mram.keyCnt ∧ (State.bkrSettle s).mram.boot = s.mram.boot ∧
    (State.bkrSettle s).sys = s.sys ∧ (State.bkrSettle s).ana = s.ana ∧ (State.bkrSettle s).aux = s.aux ∧
    (State.bkrSettle s).flt = s.flt ∧ (State.bkrSettle s).tim = s.tim ∧ (State.bkrSettle s).net = s.net ∧
    (State.bkrSettle s).prt = s.prt ∧ (State.bkrSettle s).trp = s.trp ∧ (State.bkrSettle s).pod = s.pod ∧
    (State.bkrSettle s).gsv = s.gsv ∧ (State.bkrSettle s).tph = s.tph ∧ (State.bkrSettle s).oz = s.oz ∧
    (State.bkrSettle s).sec = s.sec ∧ (State.bkrSettle s).cmd.run = s.cmd.run ∧
    (State.bkrSettle s).cmd.svc = s.cmd.svc := by
  have hf1 := @State.bkrEnd_frame
  simp [↓hf1, State.bkrSettle]

theorem State.bkrFinish_frame (s : State) :
    (State.bkrFinish s).now = s.now ∧ (State.bkrFinish s).pending = s.pending ∧ (State.bkrFinish s).regs0 = s.regs0 ∧
    (State.bkrFinish s).freeCtr = s.freeCtr ∧ (State.bkrFinish s).mode = s.mode ∧
    (State.bkrFinish s).mram.keyCnt = s.mram.keyCnt ∧ (State.bkrFinish s).mram.boot = s.mram.boot ∧
    (State.bkrFinish s).sys = s.sys ∧ (State.bkrFinish s).ana = s.ana ∧ (State.bkrFinish s).aux = s.aux ∧
    (State.bkrFinish s).flt = s.flt ∧ (State.bkrFinish s).tim = s.tim ∧ (State.bkrFinish s).net = s.net ∧
    (State.bkrFinish s).prt = s.prt ∧ (State.bkrFinish s).trp = s.trp ∧ (State.bkrFinish s).pod = s.pod ∧
    (State.bkrFinish s).gsv = s.gsv ∧ (State.bkrFinish s).tph = s.tph ∧ (State.bkrFinish s).oz = s.oz ∧
    (State.bkrFinish s).sec = s.sec ∧ (State.bkrFinish s).cmd.run = s.cmd.run ∧
    (State.bkrFinish s).cmd.svc = s.cmd.svc := by
  have hf1 := @State.bkrSettle_frame
  have hf2 := @State.bkrAnswer_frame
  simp [↓hf1, ↓hf2, State.bkrFinish]

theorem State.dropReqs_frame (s : State) :
    (State.dropReqs s).now = s.now ∧ (State.dropReqs s).pending = s.pending ∧ (State.dropReqs s).regs0 = s.regs0 ∧
    (State.dropReqs s).freeCtr = s.freeCtr ∧ (State.dropReqs s).mode = s.mode ∧
    (State.dropReqs s).mram.keyCnt = s.mram.keyCnt ∧ (State.dropReqs s).mram.boot = s.mram.boot ∧
    (State.dropReqs s).sys = s.sys ∧ (State.dropReqs s).ana = s.ana ∧ (State.dropReqs s).aux = s.aux ∧
    (State.dropReqs s).flt = s.flt ∧ (State.dropReqs s).tim = s.tim ∧ (State.dropReqs s).net = s.net ∧
    (State.dropReqs s).prt = s.prt ∧ (State.dropReqs s).trp = s.trp ∧ (State.dropReqs s).pod = s.pod ∧
    (State.dropReqs s).gsv = s.gsv ∧ (State.dropReqs s).tph = s.tph ∧ (State.dropReqs s).oz = s.oz ∧
    (State.dropReqs s).sec = s.sec ∧ (State.dropReqs s).cmd.run = s.cmd.run ∧ (State.dropReqs s).cmd.svc = s.cmd.svc := by
  have hf1 := @State.complete_frame
  simp [↓hf1, State.dropReqs]

theorem State.retain_frame (s : State) :
    (State.retain s).now = s.now ∧ (State.retain s).pending = s.pending ∧ (State.retain s).regs0 = s.regs0 ∧
    (State.retain s).freeCtr = s.freeCtr ∧ (State.retain s).mode = s.mode ∧
    (State.retain s).mram.keyCnt = s.mram.keyCnt ∧ (State.retain s).mram.boot = s.mram.boot ∧
    (State.retain s).sys = s.sys ∧ (State.retain s).evt = s.evt ∧ (State.retain s).ana = s.ana ∧
    (State.retain s).aux = s.aux ∧ (State.retain s).flt = s.flt ∧ (State.retain s).tim = s.tim ∧
    (State.retain s).net = s.net ∧ (State.retain s).prt = s.prt ∧ (State.retain s).trp = s.trp ∧
    (State.retain s).pod = s.pod ∧ (State.retain s).gsv = s.gsv ∧ (State.retain s).tph = s.tph ∧
    (State.retain s).oz = s.oz ∧ (State.retain s).sec = s.sec ∧ (State.retain s).cmd = s.cmd := by
  have hfite := @State.ite_frame
  have hf1 := @State.incSat_frame
  have hf2 := @State.setFlag_frame
  simp [↓hfite, ↓hf1, ↓hf2, State.retain]

theorem retainCommitDoneEff_frame (s : State) :
    (retainCommitDoneEff s).now = s.now ∧ (retainCommitDoneEff s).pending = s.pending ∧
    (retainCommitDoneEff s).regs0 = s.regs0 ∧ (retainCommitDoneEff s).freeCtr = s.freeCtr ∧
    (retainCommitDoneEff s).mode = s.mode ∧ (retainCommitDoneEff s).mram.keyCnt = s.mram.keyCnt ∧
    (retainCommitDoneEff s).mram.boot = s.mram.boot ∧ (retainCommitDoneEff s).sys = s.sys ∧
    (retainCommitDoneEff s).evt = s.evt ∧ (retainCommitDoneEff s).ana = s.ana ∧ (retainCommitDoneEff s).aux = s.aux ∧
    (retainCommitDoneEff s).flt = s.flt ∧ (retainCommitDoneEff s).tim = s.tim ∧ (retainCommitDoneEff s).net = s.net ∧
    (retainCommitDoneEff s).prt = s.prt ∧ (retainCommitDoneEff s).trp = s.trp ∧ (retainCommitDoneEff s).pod = s.pod ∧
    (retainCommitDoneEff s).gsv = s.gsv ∧ (retainCommitDoneEff s).tph = s.tph ∧ (retainCommitDoneEff s).oz = s.oz ∧
    (retainCommitDoneEff s).sec = s.sec ∧ (retainCommitDoneEff s).cmd = s.cmd := by
  have hfite := @State.ite_frame
  have hf1 := @State.setFlag_frame
  have hf2 := @State.setF_frame
  unfold retainCommitDoneEff
  (repeat' split) <;> simp [↓hfite, ↓hf1, ↓hf2]

theorem State.setLgcOut_frame (s : State) (n : ℕ) :
    (State.setLgcOut s n).now = s.now ∧ (State.setLgcOut s n).pending = s.pending ∧
    (State.setLgcOut s n).regs0 = s.regs0 ∧ (State.setLgcOut s n).freeCtr = s.freeCtr ∧
    (State.setLgcOut s n).mode = s.mode ∧ (State.setLgcOut s n).mram = s.mram ∧ (State.setLgcOut s n).sys = s.sys ∧
    (State.setLgcOut s n).evt = s.evt ∧ (State.setLgcOut s n).ana = s.ana ∧ (State.setLgcOut s n).aux = s.aux ∧
    (State.setLgcOut s n).flt = s.flt ∧ (State.setLgcOut s n).tim = s.tim ∧ (State.setLgcOut s n).net = s.net ∧
    (State.setLgcOut s n).prt = s.prt ∧ (State.setLgcOut s n).trp = s.trp ∧ (State.setLgcOut s n).pod = s.pod ∧
    (State.setLgcOut s n).lgc = s.lgc ∧ (State.setLgcOut s n).gsv = s.gsv ∧ (State.setLgcOut s n).tph = s.tph ∧
    (State.setLgcOut s n).oz = s.oz ∧ (State.setLgcOut s n).sec = s.sec ∧ (State.setLgcOut s n).cmd = s.cmd := by
  have hf1 := @State.setF_frame
  simp [↓hf1, State.setLgcOut]

theorem State.giveOuts_frame (s : State) (out : ℕ) :
    (State.giveOuts s out).now = s.now ∧ (State.giveOuts s out).pending = s.pending ∧
    (State.giveOuts s out).regs0 = s.regs0 ∧ (State.giveOuts s out).freeCtr = s.freeCtr ∧
    (State.giveOuts s out).mode = s.mode ∧ (State.giveOuts s out).mram = s.mram ∧
    (State.giveOuts s out).sys = s.sys ∧ (State.giveOuts s out).evt = s.evt ∧ (State.giveOuts s out).ana = s.ana ∧
    (State.giveOuts s out).aux = s.aux ∧ (State.giveOuts s out).flt = s.flt ∧ (State.giveOuts s out).tim = s.tim ∧
    (State.giveOuts s out).net = s.net ∧ (State.giveOuts s out).prt = s.prt ∧ (State.giveOuts s out).pod = s.pod ∧
    (State.giveOuts s out).lgc = s.lgc ∧ (State.giveOuts s out).gsv = s.gsv ∧ (State.giveOuts s out).tph = s.tph ∧
    (State.giveOuts s out).oz = s.oz ∧ (State.giveOuts s out).sec = s.sec ∧ (State.giveOuts s out).cmd = s.cmd := by
  have hfite := @State.ite_frame
  have hf1 := @State.setLgcOut_frame
  have hf2 := @State.setFlag_frame
  have hf3 := @State.incSat_frame
  have hf4 := @State.setTrp_frame
  have hf5 := @State.raise_frame
  simp [↓hfite, ↓hf1, ↓hf2, ↓hf3, ↓hf4, ↓hf5, State.giveOuts]

theorem State.heldScan_frame (s : State) :
    (State.heldScan s).now = s.now ∧ (State.heldScan s).pending = s.pending ∧ (State.heldScan s).regs0 = s.regs0 ∧
    (State.heldScan s).freeCtr = s.freeCtr ∧ (State.heldScan s).mode = s.mode ∧
    (State.heldScan s).mram.keyCnt = s.mram.keyCnt ∧ (State.heldScan s).mram.boot = s.mram.boot ∧
    (State.heldScan s).sys = s.sys ∧ (State.heldScan s).ana = s.ana ∧ (State.heldScan s).aux = s.aux ∧
    (State.heldScan s).flt = s.flt ∧ (State.heldScan s).tim = s.tim ∧ (State.heldScan s).net = s.net ∧
    (State.heldScan s).prt = s.prt ∧ (State.heldScan s).trp = s.trp ∧ (State.heldScan s).pod = s.pod ∧
    (State.heldScan s).gsv = s.gsv ∧ (State.heldScan s).tph = s.tph ∧ (State.heldScan s).oz = s.oz ∧
    (State.heldScan s).sec = s.sec ∧ (State.heldScan s).cmd = s.cmd := by
  have hfite := @State.ite_frame
  have hf1 := @State.incSat_frame
  have hf2 := @State.raise_frame
  simp [↓hfite, ↓hf1, ↓hf2, State.heldScan]

theorem State.scanOuts_frame (s : State) (k : ℕ) (out : ℕ) :
    (State.scanOuts s k out).now = s.now ∧ (State.scanOuts s k out).pending = s.pending ∧
    (State.scanOuts s k out).regs0 = s.regs0 ∧ (State.scanOuts s k out).freeCtr = s.freeCtr ∧
    (State.scanOuts s k out).mode = s.mode ∧ (State.scanOuts s k out).mram = s.mram ∧
    (State.scanOuts s k out).sys = s.sys ∧ (State.scanOuts s k out).evt = s.evt ∧
    (State.scanOuts s k out).ana = s.ana ∧ (State.scanOuts s k out).aux = s.aux ∧
    (State.scanOuts s k out).flt = s.flt ∧ (State.scanOuts s k out).tim = s.tim ∧
    (State.scanOuts s k out).net = s.net ∧ (State.scanOuts s k out).prt = s.prt ∧
    (State.scanOuts s k out).pod = s.pod ∧ (State.scanOuts s k out).lgc = s.lgc ∧
    (State.scanOuts s k out).gsv = s.gsv ∧ (State.scanOuts s k out).tph = s.tph ∧
    (State.scanOuts s k out).oz = s.oz ∧ (State.scanOuts s k out).sec = s.sec ∧ (State.scanOuts s k out).cmd = s.cmd := by
  have hf1 := @State.giveOuts_frame
  simp [↓hf1, State.scanOuts]

theorem State.gsetPut_frame (s : State) (cb : ℕ) (item : ℕ) (v : ℕ) :
    (State.gsetPut s cb item v).now = s.now ∧ (State.gsetPut s cb item v).pending = s.pending ∧
    (State.gsetPut s cb item v).regs0 = s.regs0 ∧ (State.gsetPut s cb item v).freeCtr = s.freeCtr ∧
    (State.gsetPut s cb item v).mode = s.mode ∧ (State.gsetPut s cb item v).mram = s.mram ∧
    (State.gsetPut s cb item v).sys = s.sys ∧ (State.gsetPut s cb item v).evt = s.evt ∧
    (State.gsetPut s cb item v).ana = s.ana ∧ (State.gsetPut s cb item v).aux = s.aux ∧
    (State.gsetPut s cb item v).flt = s.flt ∧ (State.gsetPut s cb item v).tim = s.tim ∧
    (State.gsetPut s cb item v).net = s.net ∧ (State.gsetPut s cb item v).prt = s.prt ∧
    (State.gsetPut s cb item v).trp = s.trp ∧ (State.gsetPut s cb item v).pod = s.pod ∧
    (State.gsetPut s cb item v).lgc = s.lgc ∧ (State.gsetPut s cb item v).tph = s.tph ∧
    (State.gsetPut s cb item v).oz = s.oz ∧ (State.gsetPut s cb item v).sec = s.sec ∧
    (State.gsetPut s cb item v).cmd = s.cmd ∧ (State.gsetPut s cb item v).regs = s.regs := by
  simp [State.gsetPut]

theorem State.gsetStop_frame (s : State) :
    (State.gsetStop s).now = s.now ∧ (State.gsetStop s).pending = s.pending ∧ (State.gsetStop s).regs0 = s.regs0 ∧
    (State.gsetStop s).freeCtr = s.freeCtr ∧ (State.gsetStop s).mode = s.mode ∧ (State.gsetStop s).mram = s.mram ∧
    (State.gsetStop s).sys = s.sys ∧ (State.gsetStop s).evt = s.evt ∧ (State.gsetStop s).ana = s.ana ∧
    (State.gsetStop s).aux = s.aux ∧ (State.gsetStop s).flt = s.flt ∧ (State.gsetStop s).tim = s.tim ∧
    (State.gsetStop s).net = s.net ∧ (State.gsetStop s).prt = s.prt ∧ (State.gsetStop s).trp = s.trp ∧
    (State.gsetStop s).pod = s.pod ∧ (State.gsetStop s).lgc = s.lgc ∧ (State.gsetStop s).tph = s.tph ∧
    (State.gsetStop s).oz = s.oz ∧ (State.gsetStop s).sec = s.sec ∧ (State.gsetStop s).cmd = s.cmd ∧
    (State.gsetStop s).regs = s.regs := by
  have hfite := @State.ite_frame
  have hf1 := @State.gsetPut_frame
  unfold State.gsetStop
  (repeat' split) <;> first | (simp [↓hfite, ↓hf1]; done) | exact ⟨foldl_now _ _ _ (fun s x => by (try dsimp only); (repeat' split) <;> simp [↓hfite, ↓hf1]), foldl_pending _ _ _ (fun s x => by (try dsimp only); (repeat' split) <;> simp [↓hfite, ↓hf1]), foldl_regs0 _ _ _ (fun s x => by (try dsimp only); (repeat' split) <;> simp [↓hfite, ↓hf1]), foldl_freeCtr _ _ _ (fun s x => by (try dsimp only); (repeat' split) <;> simp [↓hfite, ↓hf1]), foldl_mode _ _ _ (fun s x => by (try dsimp only); (repeat' split) <;> simp [↓hfite, ↓hf1]), foldl_mram _ _ _ (fun s x => by (try dsimp only); (repeat' split) <;> simp [↓hfite, ↓hf1]), foldl_sys _ _ _ (fun s x => by (try dsimp only); (repeat' split) <;> simp [↓hfite, ↓hf1]), foldl_evt _ _ _ (fun s x => by (try dsimp only); (repeat' split) <;> simp [↓hfite, ↓hf1]), foldl_ana _ _ _ (fun s x => by (try dsimp only); (repeat' split) <;> simp [↓hfite, ↓hf1]), foldl_aux _ _ _ (fun s x => by (try dsimp only); (repeat' split) <;> simp [↓hfite, ↓hf1]), foldl_flt _ _ _ (fun s x => by (try dsimp only); (repeat' split) <;> simp [↓hfite, ↓hf1]), foldl_tim _ _ _ (fun s x => by (try dsimp only); (repeat' split) <;> simp [↓hfite, ↓hf1]), foldl_net _ _ _ (fun s x => by (try dsimp only); (repeat' split) <;> simp [↓hfite, ↓hf1]), foldl_prt _ _ _ (fun s x => by (try dsimp only); (repeat' split) <;> simp [↓hfite, ↓hf1]), foldl_trp _ _ _ (fun s x => by (try dsimp only); (repeat' split) <;> simp [↓hfite, ↓hf1]), foldl_pod _ _ _ (fun s x => by (try dsimp only); (repeat' split) <;> simp [↓hfite, ↓hf1]), foldl_lgc _ _ _ (fun s x => by (try dsimp only); (repeat' split) <;> simp [↓hfite, ↓hf1]), foldl_tph _ _ _ (fun s x => by (try dsimp only); (repeat' split) <;> simp [↓hfite, ↓hf1]), foldl_oz _ _ _ (fun s x => by (try dsimp only); (repeat' split) <;> simp [↓hfite, ↓hf1]), foldl_sec _ _ _ (fun s x => by (try dsimp only); (repeat' split) <;> simp [↓hfite, ↓hf1]), foldl_cmd _ _ _ (fun s x => by (try dsimp only); (repeat' split) <;> simp [↓hfite, ↓hf1]), foldl_regs _ _ _ (fun s x => by (try dsimp only); (repeat' split) <;> simp [↓hfite, ↓hf1])⟩

theorem State.subsAwaited_frame (s : State) :
    (State.subsAwaited s).now = s.now ∧ (State.subsAwaited s).pending = s.pending ∧
    (State.subsAwaited s).regs0 = s.regs0 ∧ (State.subsAwaited s).freeCtr = s.freeCtr ∧
    (State.subsAwaited s).mode = s.mode ∧ (State.subsAwaited s).mram = s.mram ∧ (State.subsAwaited s).sys = s.sys ∧
    (State.subsAwaited s).evt = s.evt ∧ (State.subsAwaited s).ana = s.ana ∧ (State.subsAwaited s).aux = s.aux ∧
    (State.subsAwaited s).flt = s.flt ∧ (State.subsAwaited s).tim = s.tim ∧ (State.subsAwaited s).net = s.net ∧
    (State.subsAwaited s).prt = s.prt ∧ (State.subsAwaited s).trp = s.trp ∧ (State.subsAwaited s).pod = s.pod ∧
    (State.subsAwaited s).lgc = s.lgc ∧ (State.subsAwaited s).gsv = s.gsv ∧ (State.subsAwaited s).tph = s.tph ∧
    (State.subsAwaited s).oz = s.oz ∧ (State.subsAwaited s).sec = s.sec ∧ (State.subsAwaited s).cmd = s.cmd := by
  have hfite := @State.ite_frame
  have hf1 := @State.setFlag_frame
  have hf2 := @State.setF_frame
  simp [↓hfite, ↓hf1, ↓hf2, State.subsAwaited]

theorem State.startProg0_frame (s : State) (copy : Option RetainCopy) (start : ℕ) :
    (State.startProg0 s copy start).now = s.now ∧ (State.startProg0 s copy start).pending = s.pending ∧
    (State.startProg0 s copy start).regs0 = s.regs0 ∧ (State.startProg0 s copy start).freeCtr = s.freeCtr ∧
    (State.startProg0 s copy start).mode = s.mode ∧ (State.startProg0 s copy start).mram = s.mram ∧
    (State.startProg0 s copy start).sys = s.sys ∧ (State.startProg0 s copy start).evt = s.evt ∧
    (State.startProg0 s copy start).ana = s.ana ∧ (State.startProg0 s copy start).aux = s.aux ∧
    (State.startProg0 s copy start).flt = s.flt ∧ (State.startProg0 s copy start).tim = s.tim ∧
    (State.startProg0 s copy start).net = s.net ∧ (State.startProg0 s copy start).prt = s.prt ∧
    (State.startProg0 s copy start).trp = s.trp ∧ (State.startProg0 s copy start).pod = s.pod ∧
    (State.startProg0 s copy start).gsv = s.gsv ∧ (State.startProg0 s copy start).tph = s.tph ∧
    (State.startProg0 s copy start).oz = s.oz ∧ (State.startProg0 s copy start).sec = s.sec ∧
    (State.startProg0 s copy start).cmd = s.cmd := by
  have hf1 := @State.setF_frame
  have hf2 := @State.setFlag_frame
  have hf3 := @State.setProg_frame
  simp [↓hf1, ↓hf2, ↓hf3, State.startProg0]

theorem State.startOuts0_frame (s : State) (out : ℕ) :
    (State.startOuts0 s out).now = s.now ∧ (State.startOuts0 s out).pending = s.pending ∧
    (State.startOuts0 s out).regs0 = s.regs0 ∧ (State.startOuts0 s out).freeCtr = s.freeCtr ∧
    (State.startOuts0 s out).mode = s.mode ∧ (State.startOuts0 s out).mram = s.mram ∧
    (State.startOuts0 s out).sys = s.sys ∧ (State.startOuts0 s out).evt = s.evt ∧
    (State.startOuts0 s out).ana = s.ana ∧ (State.startOuts0 s out).aux = s.aux ∧
    (State.startOuts0 s out).flt = s.flt ∧ (State.startOuts0 s out).tim = s.tim ∧
    (State.startOuts0 s out).net = s.net ∧ (State.startOuts0 s out).prt = s.prt ∧
    (State.startOuts0 s out).pod = s.pod ∧ (State.startOuts0 s out).gsv = s.gsv ∧
    (State.startOuts0 s out).tph = s.tph ∧ (State.startOuts0 s out).oz = s.oz ∧
    (State.startOuts0 s out).sec = s.sec ∧ (State.startOuts0 s out).cmd = s.cmd := by
  have hf1 := @State.scanOuts_frame
  have hf2 := @State.subsAwaited_frame
  simp [↓hf1, ↓hf2, State.startOuts0]

theorem State.cancelSelects_frame (s : State) :
    (State.cancelSelects s).now = s.now ∧ (State.cancelSelects s).pending = s.pending ∧
    (State.cancelSelects s).regs0 = s.regs0 ∧ (State.cancelSelects s).freeCtr = s.freeCtr ∧
    (State.cancelSelects s).mode = s.mode ∧ (State.cancelSelects s).mram = s.mram ∧
    (State.cancelSelects s).sys = s.sys ∧ (State.cancelSelects s).evt = s.evt ∧ (State.cancelSelects s).ana = s.ana ∧
    (State.cancelSelects s).aux = s.aux ∧ (State.cancelSelects s).flt = s.flt ∧ (State.cancelSelects s).tim = s.tim ∧
    (State.cancelSelects s).net = s.net ∧ (State.cancelSelects s).prt = s.prt ∧ (State.cancelSelects s).trp = s.trp ∧
    (State.cancelSelects s).pod = s.pod ∧ (State.cancelSelects s).gsv = s.gsv ∧ (State.cancelSelects s).tph = s.tph ∧
    (State.cancelSelects s).oz = s.oz ∧ (State.cancelSelects s).sec = s.sec ∧ (State.cancelSelects s).cmd = s.cmd ∧
    (State.cancelSelects s).regs = s.regs := by
  have hf1 := @State.setProg_frame
  simp [↓hf1, State.cancelSelects]

theorem State.startLogic_frame (s : State) (warm : Bool) :
    (State.startLogic s warm).now = s.now ∧ (State.startLogic s warm).pending = s.pending ∧
    (State.startLogic s warm).regs0 = s.regs0 ∧ (State.startLogic s warm).freeCtr = s.freeCtr ∧
    (State.startLogic s warm).mode = s.mode ∧ (State.startLogic s warm).mram.keyCnt = s.mram.keyCnt ∧
    (State.startLogic s warm).mram.boot = s.mram.boot ∧ (State.startLogic s warm).sys = s.sys ∧
    (State.startLogic s warm).ana = s.ana ∧ (State.startLogic s warm).aux = s.aux ∧
    (State.startLogic s warm).flt = s.flt ∧ (State.startLogic s warm).tim = s.tim ∧
    (State.startLogic s warm).net = s.net ∧ (State.startLogic s warm).prt = s.prt ∧
    (State.startLogic s warm).pod = s.pod ∧ (State.startLogic s warm).gsv = s.gsv ∧
    (State.startLogic s warm).tph = s.tph ∧ (State.startLogic s warm).oz = s.oz ∧
    (State.startLogic s warm).sec = s.sec ∧ (State.startLogic s warm).cmd = s.cmd := by
  have hfite := @State.ite_frame
  have hf1 := @State.setFlag_frame
  have hf2 := @State.cancelSelects_frame
  have hf3 := @State.setLogicMode_frame
  have hf4 := @State.raise_frame
  have hf5 := @State.startOuts0_frame
  have hf6 := @State.startProg0_frame
  simp [↓hfite, ↓hf1, ↓hf2, ↓hf3, ↓hf4, ↓hf5, ↓hf6, State.startLogic]

theorem State.alarmsOff_frame (s : State) :
    (State.alarmsOff s).now = s.now ∧ (State.alarmsOff s).pending = s.pending ∧ (State.alarmsOff s).regs0 = s.regs0 ∧
    (State.alarmsOff s).freeCtr = s.freeCtr ∧ (State.alarmsOff s).mode = s.mode ∧ (State.alarmsOff s).mram = s.mram ∧
    (State.alarmsOff s).sys = s.sys ∧ (State.alarmsOff s).evt = s.evt ∧ (State.alarmsOff s).ana = s.ana ∧
    (State.alarmsOff s).aux = s.aux ∧ (State.alarmsOff s).flt = s.flt ∧ (State.alarmsOff s).tim = s.tim ∧
    (State.alarmsOff s).net = s.net ∧ (State.alarmsOff s).prt = s.prt ∧ (State.alarmsOff s).trp = s.trp ∧
    (State.alarmsOff s).pod = s.pod ∧ (State.alarmsOff s).gsv = s.gsv ∧ (State.alarmsOff s).tph = s.tph ∧
    (State.alarmsOff s).oz = s.oz ∧ (State.alarmsOff s).sec = s.sec ∧ (State.alarmsOff s).cmd = s.cmd ∧
    (State.alarmsOff s).regs = s.regs := by
  have hf1 := @State.setProg_frame
  simp [↓hf1, State.alarmsOff]

theorem State.logicFailed_frame (s : State) :
    (State.logicFailed s).now = s.now ∧ (State.logicFailed s).pending = s.pending ∧
    (State.logicFailed s).regs0 = s.regs0 ∧ (State.logicFailed s).freeCtr = s.freeCtr ∧
    (State.logicFailed s).mode = s.mode ∧ (State.logicFailed s).mram.keyCnt = s.mram.keyCnt ∧
    (State.logicFailed s).mram.boot = s.mram.boot ∧ (State.logicFailed s).sys = s.sys ∧
    (State.logicFailed s).ana = s.ana ∧ (State.logicFailed s).aux = s.aux ∧ (State.logicFailed s).flt = s.flt ∧
    (State.logicFailed s).tim = s.tim ∧ (State.logicFailed s).net = s.net ∧ (State.logicFailed s).prt = s.prt ∧
    (State.logicFailed s).trp = s.trp ∧ (State.logicFailed s).pod = s.pod ∧ (State.logicFailed s).gsv = s.gsv ∧
    (State.logicFailed s).tph = s.tph ∧ (State.logicFailed s).oz = s.oz ∧ (State.logicFailed s).sec = s.sec ∧
    (State.logicFailed s).cmd.run = s.cmd.run ∧ (State.logicFailed s).cmd.svc = s.cmd.svc := by
  have hf1 := @State.setProg_frame
  have hf2 := @State.dropReqs_frame
  have hf3 := @State.setFlag_frame
  simp [↓hf1, ↓hf2, ↓hf3, State.logicFailed]

theorem State.setPres_frame (s : State) (k : ℕ) (j : ℕ) (x : ℕ × Bool × Bool) :
    (State.setPres s k j x).now = s.now ∧ (State.setPres s k j x).pending = s.pending ∧
    (State.setPres s k j x).regs0 = s.regs0 ∧ (State.setPres s k j x).freeCtr = s.freeCtr ∧
    (State.setPres s k j x).mode = s.mode ∧ (State.setPres s k j x).mram = s.mram ∧
    (State.setPres s k j x).sys = s.sys ∧ (State.setPres s k j x).evt = s.evt ∧ (State.setPres s k j x).ana = s.ana ∧
    (State.setPres s k j x).aux = s.aux ∧ (State.setPres s k j x).flt = s.flt ∧ (State.setPres s k j x).tim = s.tim ∧
    (State.setPres s k j x).net = s.net ∧ (State.setPres s k j x).prt = s.prt ∧ (State.setPres s k j x).trp = s.trp ∧
    (State.setPres s k j x).pod = s.pod ∧ (State.setPres s k j x).gsv = s.gsv ∧ (State.setPres s k j x).tph = s.tph ∧
    (State.setPres s k j x).oz = s.oz ∧ (State.setPres s k j x).sec = s.sec ∧ (State.setPres s k j x).cmd = s.cmd := by
  have hfite := @State.ite_frame
  have hf1 := @State.setFlag_frame
  have hf2 := @State.setF_frame
  have hf3 := @State.setProg_frame
  simp [↓hfite, ↓hf1, ↓hf2, ↓hf3, State.setPres]

theorem State.presentSub_frame (s : State) (k : ℕ) (j : ℕ) (w : Bool) :
    (State.presentSub s k j w).1.now = s.now ∧ (State.presentSub s k j w).1.pending = s.pending ∧
    (State.presentSub s k j w).1.regs0 = s.regs0 ∧ (State.presentSub s k j w).1.freeCtr = s.freeCtr ∧
    (State.presentSub s k j w).1.mode = s.mode ∧ (State.presentSub s k j w).1.mram = s.mram ∧
    (State.presentSub s k j w).1.sys = s.sys ∧ (State.presentSub s k j w).1.evt = s.evt ∧
    (State.presentSub s k j w).1.ana = s.ana ∧ (State.presentSub s k j w).1.aux = s.aux ∧
    (State.presentSub s k j w).1.flt = s.flt ∧ (State.presentSub s k j w).1.tim = s.tim ∧
    (State.presentSub s k j w).1.net = s.net ∧ (State.presentSub s k j w).1.prt = s.prt ∧
    (State.presentSub s k j w).1.trp = s.trp ∧ (State.presentSub s k j w).1.pod = s.pod ∧
    (State.presentSub s k j w).1.gsv = s.gsv ∧ (State.presentSub s k j w).1.tph = s.tph ∧
    (State.presentSub s k j w).1.oz = s.oz ∧ (State.presentSub s k j w).1.sec = s.sec ∧
    (State.presentSub s k j w).1.cmd = s.cmd := by
  have hfite := @State.ite_frame
  have hf1 := @State.setPres_frame
  have hf2 := @State.incSat_frame
  unfold State.presentSub
  (repeat' split) <;> simp [↓hfite, ↓hf1, ↓hf2]

theorem State.presentSubs_frame (s : State) (k : ℕ) :
    (State.presentSubs s k).1.now = s.now ∧ (State.presentSubs s k).1.pending = s.pending ∧
    (State.presentSubs s k).1.regs0 = s.regs0 ∧ (State.presentSubs s k).1.freeCtr = s.freeCtr ∧
    (State.presentSubs s k).1.mode = s.mode ∧ (State.presentSubs s k).1.mram = s.mram ∧
    (State.presentSubs s k).1.sys = s.sys ∧ (State.presentSubs s k).1.evt = s.evt ∧
    (State.presentSubs s k).1.ana = s.ana ∧ (State.presentSubs s k).1.aux = s.aux ∧
    (State.presentSubs s k).1.flt = s.flt ∧ (State.presentSubs s k).1.tim = s.tim ∧
    (State.presentSubs s k).1.net = s.net ∧ (State.presentSubs s k).1.prt = s.prt ∧
    (State.presentSubs s k).1.trp = s.trp ∧ (State.presentSubs s k).1.pod = s.pod ∧
    (State.presentSubs s k).1.gsv = s.gsv ∧ (State.presentSubs s k).1.tph = s.tph ∧
    (State.presentSubs s k).1.oz = s.oz ∧ (State.presentSubs s k).1.sec = s.sec ∧
    (State.presentSubs s k).1.cmd = s.cmd := by
  have hfite := @State.ite_frame
  have hf1 := @State.presentSub_frame
  have hf2 := @State.setFlag_frame
  unfold State.presentSubs
  (repeat' split) <;> simp [↓hfite, ↓hf1, ↓hf2]

theorem State.joinEnd_frame (s : State) :
    (State.joinEnd s).now = s.now ∧ (State.joinEnd s).pending = s.pending ∧ (State.joinEnd s).regs0 = s.regs0 ∧
    (State.joinEnd s).freeCtr = s.freeCtr ∧ (State.joinEnd s).mode = s.mode ∧
    (State.joinEnd s).mram.keyCnt = s.mram.keyCnt ∧ (State.joinEnd s).mram.boot = s.mram.boot ∧
    (State.joinEnd s).sys = s.sys ∧ (State.joinEnd s).ana = s.ana ∧ (State.joinEnd s).aux = s.aux ∧
    (State.joinEnd s).flt = s.flt ∧ (State.joinEnd s).tim = s.tim ∧ (State.joinEnd s).net = s.net ∧
    (State.joinEnd s).prt = s.prt ∧ (State.joinEnd s).trp = s.trp ∧ (State.joinEnd s).pod = s.pod ∧
    (State.joinEnd s).gsv = s.gsv ∧ (State.joinEnd s).tph = s.tph ∧ (State.joinEnd s).oz = s.oz ∧
    (State.joinEnd s).sec = s.sec ∧ (State.joinEnd s).cmd = s.cmd := by
  have hfite := @State.ite_frame
  have hf1 := @State.raise_frame
  have hf2 := @State.setRun_frame
  have hf3 := @State.setF_frame
  have hf4 := @State.setFlag_frame
  simp [↓hfite, ↓hf1, ↓hf2, ↓hf3, ↓hf4, State.joinEnd]

theorem State.startScan_frame (s : State) (k : ℕ) :
    (State.startScan s k).now = s.now ∧ (State.startScan s k).pending = s.pending ∧
    (State.startScan s k).regs0 = s.regs0 ∧ (State.startScan s k).freeCtr = s.freeCtr ∧
    (State.startScan s k).mode = s.mode ∧ (State.startScan s k).mram.keyCnt = s.mram.keyCnt ∧
    (State.startScan s k).mram.boot = s.mram.boot ∧ (State.startScan s k).sys = s.sys ∧
    (State.startScan s k).ana = s.ana ∧ (State.startScan s k).aux = s.aux ∧ (State.startScan s k).flt = s.flt ∧
    (State.startScan s k).tim = s.tim ∧ (State.startScan s k).net = s.net ∧ (State.startScan s k).prt = s.prt ∧
    (State.startScan s k).trp = s.trp ∧ (State.startScan s k).pod = s.pod ∧ (State.startScan s k).gsv = s.gsv ∧
    (State.startScan s k).tph = s.tph ∧ (State.startScan s k).oz = s.oz ∧ (State.startScan s k).sec = s.sec ∧
    (State.startScan s k).cmd = s.cmd := by
  have hfite := @State.ite_frame
  have hf1 := @State.setProg_frame
  have hf2 := @State.presentSubs_frame
  have hf3 := @State.joinEnd_frame
  have hf4 := @State.setFlag_frame
  simp [↓hfite, ↓hf1, ↓hf2, ↓hf3, ↓hf4, State.startScan]

theorem State.takeStart_frame (s : State) :
    (State.takeStart s).now = s.now ∧ (State.takeStart s).pending = s.pending ∧ (State.takeStart s).regs0 = s.regs0 ∧
    (State.takeStart s).freeCtr = s.freeCtr ∧ (State.takeStart s).mode = s.mode ∧
    (State.takeStart s).mram.keyCnt = s.mram.keyCnt ∧ (State.takeStart s).mram.boot = s.mram.boot ∧
    (State.takeStart s).sys = s.sys ∧ (State.takeStart s).ana = s.ana ∧ (State.takeStart s).aux = s.aux ∧
    (State.takeStart s).flt = s.flt ∧ (State.takeStart s).tim = s.tim ∧ (State.takeStart s).net = s.net ∧
    (State.takeStart s).prt = s.prt ∧ (State.takeStart s).pod = s.pod ∧ (State.takeStart s).gsv = s.gsv ∧
    (State.takeStart s).tph = s.tph ∧ (State.takeStart s).oz = s.oz ∧ (State.takeStart s).sec = s.sec ∧
    (State.takeStart s).cmd = s.cmd := by
  have hfite := @State.ite_frame
  have hf1 := @State.startLogic_frame
  simp [↓hfite, ↓hf1, State.takeStart]

theorem State.startFree_frame (s : State) :
    (State.startFree s).now = s.now ∧ (State.startFree s).pending = s.pending ∧ (State.startFree s).regs0 = s.regs0 ∧
    (State.startFree s).freeCtr = s.freeCtr ∧ (State.startFree s).mode = s.mode ∧
    (State.startFree s).mram.keyCnt = s.mram.keyCnt ∧ (State.startFree s).mram.boot = s.mram.boot ∧
    (State.startFree s).sys = s.sys ∧ (State.startFree s).ana = s.ana ∧ (State.startFree s).aux = s.aux ∧
    (State.startFree s).flt = s.flt ∧ (State.startFree s).tim = s.tim ∧ (State.startFree s).net = s.net ∧
    (State.startFree s).prt = s.prt ∧ (State.startFree s).pod = s.pod ∧ (State.startFree s).gsv = s.gsv ∧
    (State.startFree s).tph = s.tph ∧ (State.startFree s).oz = s.oz ∧ (State.startFree s).sec = s.sec ∧
    (State.startFree s).cmd = s.cmd := by
  have hfite := @State.ite_frame
  have hf1 := @State.takeStart_frame
  simp [↓hfite, ↓hf1, State.startFree]

theorem State.gridMark_frame (s : State) (k : ℕ) :
    (State.gridMark s k).now = s.now ∧ (State.gridMark s k).pending = s.pending ∧
    (State.gridMark s k).regs0 = s.regs0 ∧ (State.gridMark s k).freeCtr = s.freeCtr ∧
    (State.gridMark s k).mode = s.mode ∧ (State.gridMark s k).mram = s.mram ∧ (State.gridMark s k).sys = s.sys ∧
    (State.gridMark s k).evt = s.evt ∧ (State.gridMark s k).ana = s.ana ∧ (State.gridMark s k).aux = s.aux ∧
    (State.gridMark s k).flt = s.flt ∧ (State.gridMark s k).tim = s.tim ∧ (State.gridMark s k).net = s.net ∧
    (State.gridMark s k).prt = s.prt ∧ (State.gridMark s k).trp = s.trp ∧ (State.gridMark s k).pod = s.pod ∧
    (State.gridMark s k).gsv = s.gsv ∧ (State.gridMark s k).tph = s.tph ∧ (State.gridMark s k).oz = s.oz ∧
    (State.gridMark s k).sec = s.sec ∧ (State.gridMark s k).cmd = s.cmd ∧ (State.gridMark s k).regs = s.regs := by
  have hfite := @State.ite_frame
  have hf1 := @State.setProg_frame
  simp [↓hfite, ↓hf1, State.gridMark]

theorem periodStartEff_frame (k : ℕ) (s : State) :
    (periodStartEff k s).now = s.now ∧ (periodStartEff k s).pending = s.pending ∧
    (periodStartEff k s).regs0 = s.regs0 ∧ (periodStartEff k s).freeCtr = s.freeCtr ∧
    (periodStartEff k s).mode = s.mode ∧ (periodStartEff k s).mram.keyCnt = s.mram.keyCnt ∧
    (periodStartEff k s).mram.boot = s.mram.boot ∧ (periodStartEff k s).sys = s.sys ∧
    (periodStartEff k s).ana = s.ana ∧ (periodStartEff k s).aux = s.aux ∧ (periodStartEff k s).flt = s.flt ∧
    (periodStartEff k s).tim = s.tim ∧ (periodStartEff k s).net = s.net ∧ (periodStartEff k s).prt = s.prt ∧
    (periodStartEff k s).pod = s.pod ∧ (periodStartEff k s).gsv = s.gsv ∧ (periodStartEff k s).tph = s.tph ∧
    (periodStartEff k s).oz = s.oz ∧ (periodStartEff k s).sec = s.sec ∧ (periodStartEff k s).cmd = s.cmd := by
  have hfite := @State.ite_frame
  have hf1 := @State.incSat_frame
  have hf2 := @State.takeStart_frame
  have hf3 := @State.gridMark_frame
  have hf4 := @State.startScan_frame
  simp [↓hfite, ↓hf1, ↓hf2, ↓hf3, ↓hf4, periodStartEff]
  (repeat' split) <;> simp [↓hfite, ↓hf1, ↓hf2, ↓hf3, ↓hf4]

theorem freeRunScanStartEff_frame (k : ℕ) (s : State) :
    (freeRunScanStartEff k s).now = s.now ∧ (freeRunScanStartEff k s).pending = s.pending ∧
    (freeRunScanStartEff k s).regs0 = s.regs0 ∧ (freeRunScanStartEff k s).freeCtr = s.freeCtr ∧
    (freeRunScanStartEff k s).mode = s.mode ∧ (freeRunScanStartEff k s).mram.keyCnt = s.mram.keyCnt ∧
    (freeRunScanStartEff k s).mram.boot = s.mram.boot ∧ (freeRunScanStartEff k s).sys = s.sys ∧
    (freeRunScanStartEff k s).ana = s.ana ∧ (freeRunScanStartEff k s).aux = s.aux ∧
    (freeRunScanStartEff k s).flt = s.flt ∧ (freeRunScanStartEff k s).tim = s.tim ∧
    (freeRunScanStartEff k s).net = s.net ∧ (freeRunScanStartEff k s).prt = s.prt ∧
    (freeRunScanStartEff k s).pod = s.pod ∧ (freeRunScanStartEff k s).gsv = s.gsv ∧
    (freeRunScanStartEff k s).tph = s.tph ∧ (freeRunScanStartEff k s).oz = s.oz ∧
    (freeRunScanStartEff k s).sec = s.sec ∧ (freeRunScanStartEff k s).cmd = s.cmd := by
  have hfite := @State.ite_frame
  have hf1 := @State.takeStart_frame
  have hf2 := @State.startScan_frame
  simp [↓hfite, ↓hf1, ↓hf2, freeRunScanStartEff]

theorem initWaitExpiryEff_frame (k : ℕ) (s : State) :
    (initWaitExpiryEff k s).now = s.now ∧ (initWaitExpiryEff k s).pending = s.pending ∧
    (initWaitExpiryEff k s).regs0 = s.regs0 ∧ (initWaitExpiryEff k s).freeCtr = s.freeCtr ∧
    (initWaitExpiryEff k s).mode = s.mode ∧ (initWaitExpiryEff k s).mram = s.mram ∧
    (initWaitExpiryEff k s).sys = s.sys ∧ (initWaitExpiryEff k s).evt = s.evt ∧ (initWaitExpiryEff k s).ana = s.ana ∧
    (initWaitExpiryEff k s).aux = s.aux ∧ (initWaitExpiryEff k s).flt = s.flt ∧ (initWaitExpiryEff k s).tim = s.tim ∧
    (initWaitExpiryEff k s).net = s.net ∧ (initWaitExpiryEff k s).prt = s.prt ∧ (initWaitExpiryEff k s).trp = s.trp ∧
    (initWaitExpiryEff k s).pod = s.pod ∧ (initWaitExpiryEff k s).gsv = s.gsv ∧ (initWaitExpiryEff k s).tph = s.tph ∧
    (initWaitExpiryEff k s).oz = s.oz ∧ (initWaitExpiryEff k s).sec = s.sec ∧ (initWaitExpiryEff k s).cmd = s.cmd ∧
    (initWaitExpiryEff k s).regs = s.regs := by
  have hf1 := @State.setProg_frame
  simp [↓hf1, initWaitExpiryEff]
  (repeat' split) <;> simp [↓hf1]

theorem State.overrun_frame (s : State) :
    (State.overrun s).now = s.now ∧ (State.overrun s).pending = s.pending ∧ (State.overrun s).regs0 = s.regs0 ∧
    (State.overrun s).freeCtr = s.freeCtr ∧ (State.overrun s).mode = s.mode ∧
    (State.overrun s).mram.keyCnt = s.mram.keyCnt ∧ (State.overrun s).mram.boot = s.mram.boot ∧
    (State.overrun s).sys = s.sys ∧ (State.overrun s).ana = s.ana ∧ (State.overrun s).aux = s.aux ∧
    (State.overrun s).flt = s.flt ∧ (State.overrun s).tim = s.tim ∧ (State.overrun s).net = s.net ∧
    (State.overrun s).prt = s.prt ∧ (State.overrun s).trp = s.trp ∧ (State.overrun s).pod = s.pod ∧
    (State.overrun s).lgc = s.lgc ∧ (State.overrun s).gsv = s.gsv ∧ (State.overrun s).tph = s.tph ∧
    (State.overrun s).oz = s.oz ∧ (State.overrun s).sec = s.sec ∧ (State.overrun s).cmd = s.cmd := by
  have hf1 := @State.raise_frame
  have hf2 := @State.setFlag_frame
  have hf3 := @State.incSat_frame
  simp [↓hf1, ↓hf2, ↓hf3, State.overrun]

theorem State.scanLimit_frame (s : State) (sc : Scan) :
    (State.scanLimit s sc).now = s.now ∧ (State.scanLimit s sc).pending = s.pending ∧
    (State.scanLimit s sc).regs0 = s.regs0 ∧ (State.scanLimit s sc).freeCtr = s.freeCtr ∧
    (State.scanLimit s sc).mode = s.mode ∧ (State.scanLimit s sc).mram.keyCnt = s.mram.keyCnt ∧
    (State.scanLimit s sc).mram.boot = s.mram.boot ∧ (State.scanLimit s sc).sys = s.sys ∧
    (State.scanLimit s sc).ana = s.ana ∧ (State.scanLimit s sc).aux = s.aux ∧ (State.scanLimit s sc).flt = s.flt ∧
    (State.scanLimit s sc).tim = s.tim ∧ (State.scanLimit s sc).net = s.net ∧ (State.scanLimit s sc).prt = s.prt ∧
    (State.scanLimit s sc).trp = s.trp ∧ (State.scanLimit s sc).pod = s.pod ∧ (State.scanLimit s sc).gsv = s.gsv ∧
    (State.scanLimit s sc).tph = s.tph ∧ (State.scanLimit s sc).oz = s.oz ∧ (State.scanLimit s sc).sec = s.sec ∧
    (State.scanLimit s sc).cmd = s.cmd := by
  have hfite := @State.ite_frame
  have hf1 := @State.setFlag_frame
  have hf2 := @State.incSat_frame
  have hf3 := @State.raise_frame
  simp [↓hfite, ↓hf1, ↓hf2, ↓hf3, State.scanLimit]

theorem State.scanTime_frame (s : State) (sc : Scan) :
    (State.scanTime s sc).now = s.now ∧ (State.scanTime s sc).pending = s.pending ∧
    (State.scanTime s sc).regs0 = s.regs0 ∧ (State.scanTime s sc).freeCtr = s.freeCtr ∧
    (State.scanTime s sc).mode = s.mode ∧ (State.scanTime s sc).mram = s.mram ∧ (State.scanTime s sc).sys = s.sys ∧
    (State.scanTime s sc).evt = s.evt ∧ (State.scanTime s sc).ana = s.ana ∧ (State.scanTime s sc).aux = s.aux ∧
    (State.scanTime s sc).flt = s.flt ∧ (State.scanTime s sc).tim = s.tim ∧ (State.scanTime s sc).net = s.net ∧
    (State.scanTime s sc).prt = s.prt ∧ (State.scanTime s sc).trp = s.trp ∧ (State.scanTime s sc).pod = s.pod ∧
    (State.scanTime s sc).lgc = s.lgc ∧ (State.scanTime s sc).gsv = s.gsv ∧ (State.scanTime s sc).tph = s.tph ∧
    (State.scanTime s sc).oz = s.oz ∧ (State.scanTime s sc).sec = s.sec ∧ (State.scanTime s sc).cmd = s.cmd := by
  have hfite := @State.ite_frame
  have hf1 := @State.setF_frame
  simp [↓hfite, ↓hf1, State.scanTime]

theorem State.takeSplit_frame (s : State) :
    (State.takeSplit s).now = s.now ∧ (State.takeSplit s).pending = s.pending ∧ (State.takeSplit s).regs0 = s.regs0 ∧
    (State.takeSplit s).freeCtr = s.freeCtr ∧ (State.takeSplit s).mode = s.mode ∧
    (State.takeSplit s).mram.keyCnt = s.mram.keyCnt ∧ (State.takeSplit s).mram.boot = s.mram.boot ∧
    (State.takeSplit s).sys = s.sys ∧ (State.takeSplit s).ana = s.ana ∧ (State.takeSplit s).aux = s.aux ∧
    (State.takeSplit s).flt = s.flt ∧ (State.takeSplit s).tim = s.tim ∧ (State.takeSplit s).net = s.net ∧
    (State.takeSplit s).prt = s.prt ∧ (State.takeSplit s).pod = s.pod ∧ (State.takeSplit s).gsv = s.gsv ∧
    (State.takeSplit s).tph = s.tph ∧ (State.takeSplit s).oz = s.oz ∧ (State.takeSplit s).sec = s.sec ∧
    (State.takeSplit s).cmd = s.cmd := by
  have hfite := @State.ite_frame
  have hf1 := @State.setFlag_frame
  have hf2 := @State.incWrap_frame
  have hf3 := @State.setF_frame
  have hf4 := @State.raise_frame
  have hf5 := @State.scanOuts_frame
  have hf6 := @State.setProg_frame
  simp [↓hfite, ↓hf1, ↓hf2, ↓hf3, ↓hf4, ↓hf5, ↓hf6, State.takeSplit]

theorem State.takeJoin_frame (s : State) (start : Option ℕ) :
    (State.takeJoin s start).now = s.now ∧ (State.takeJoin s start).pending = s.pending ∧
    (State.takeJoin s start).regs0 = s.regs0 ∧ (State.takeJoin s start).freeCtr = s.freeCtr ∧
    (State.takeJoin s start).mode = s.mode ∧ (State.takeJoin s start).mram.keyCnt = s.mram.keyCnt ∧
    (State.takeJoin s start).mram.boot = s.mram.boot ∧ (State.takeJoin s start).sys = s.sys ∧
    (State.takeJoin s start).ana = s.ana ∧ (State.takeJoin s start).aux = s.aux ∧
    (State.takeJoin s start).flt = s.flt ∧ (State.takeJoin s start).tim = s.tim ∧
    (State.takeJoin s start).net = s.net ∧ (State.takeJoin s start).prt = s.prt ∧
    (State.takeJoin s start).trp = s.trp ∧ (State.takeJoin s start).pod = s.pod ∧
    (State.takeJoin s start).gsv = s.gsv ∧ (State.takeJoin s start).tph = s.tph ∧
    (State.takeJoin s start).oz = s.oz ∧ (State.takeJoin s start).sec = s.sec ∧ (State.takeJoin s start).cmd = s.cmd := by
  have hfite := @State.ite_frame
  have hf1 := @State.setFlag_frame
  have hf2 := @State.overrun_frame
  have hf3 := @State.setF_frame
  have hf4 := @State.setRun_frame
  have hf5 := @State.setProg_frame
  simp [↓hfite, ↓hf1, ↓hf2, ↓hf3, ↓hf4, ↓hf5, State.takeJoin]

theorem joinCompleteEff_frame (cycles : ℕ) (s : State) :
    (joinCompleteEff cycles s).now = s.now ∧ (joinCompleteEff cycles s).pending = s.pending ∧
    (joinCompleteEff cycles s).regs0 = s.regs0 ∧ (joinCompleteEff cycles s).freeCtr = s.freeCtr ∧
    (joinCompleteEff cycles s).mode = s.mode ∧ (joinCompleteEff cycles s).mram.keyCnt = s.mram.keyCnt ∧
    (joinCompleteEff cycles s).mram.boot = s.mram.boot ∧ (joinCompleteEff cycles s).sys = s.sys ∧
    (joinCompleteEff cycles s).ana = s.ana ∧ (joinCompleteEff cycles s).aux = s.aux ∧
    (joinCompleteEff cycles s).flt = s.flt ∧ (joinCompleteEff cycles s).tim = s.tim ∧
    (joinCompleteEff cycles s).net = s.net ∧ (joinCompleteEff cycles s).prt = s.prt ∧
    (joinCompleteEff cycles s).pod = s.pod ∧ (joinCompleteEff cycles s).gsv = s.gsv ∧
    (joinCompleteEff cycles s).tph = s.tph ∧ (joinCompleteEff cycles s).oz = s.oz ∧
    (joinCompleteEff cycles s).sec = s.sec ∧ (joinCompleteEff cycles s).cmd = s.cmd := by
  have hfite := @State.ite_frame
  have hf1 := @State.setFlag_frame
  have hf2 := @State.setTrp_frame
  have hf3 := @State.setF_frame
  have hf4 := @State.joinEnd_frame
  simp [↓hfite, ↓hf1, ↓hf2, ↓hf3, ↓hf4, joinCompleteEff]

theorem State.takeSwap_frame (s : State) (start : Option ℕ) :
    (State.takeSwap s start).now = s.now ∧ (State.takeSwap s start).pending = s.pending ∧
    (State.takeSwap s start).regs0 = s.regs0 ∧ (State.takeSwap s start).mode = s.mode ∧
    (State.takeSwap s start).mram.keyCnt = s.mram.keyCnt ∧ (State.takeSwap s start).sys = s.sys ∧
    (State.takeSwap s start).ana = s.ana ∧ (State.takeSwap s start).aux = s.aux ∧
    (State.takeSwap s start).flt = s.flt ∧ (State.takeSwap s start).tim = s.tim ∧
    (State.takeSwap s start).net = s.net ∧ (State.takeSwap s start).prt = s.prt ∧
    (State.takeSwap s start).trp = s.trp ∧ (State.takeSwap s start).pod = s.pod ∧
    (State.takeSwap s start).gsv = s.gsv ∧ (State.takeSwap s start).tph = s.tph ∧
    (State.takeSwap s start).oz = s.oz ∧ (State.takeSwap s start).sec = s.sec ∧
    (State.takeSwap s start).cmd.run = s.cmd.run ∧ (State.takeSwap s start).cmd.svc = s.cmd.svc := by
  have hfite := @State.ite_frame
  have hf1 := @State.setFlag_frame
  have hf2 := @State.incWrap_frame
  have hf3 := @State.bootUpd_frame
  have hf4 := @State.overrun_frame
  have hf5 := @State.setF_frame
  have hf6 := @State.complete_frame
  have hf7 := @State.raise_frame
  have hf8 := @State.bumpFree_frame
  have hf9 := @State.setProg_frame
  simp [↓hfite, ↓hf1, ↓hf2, ↓hf3, ↓hf4, ↓hf5, ↓hf6, ↓hf7, ↓hf8, ↓hf9, State.takeSwap]
  (repeat' split) <;> simp [↓hfite, ↓hf1, ↓hf2, ↓hf3, ↓hf4, ↓hf5, ↓hf6, ↓hf7, ↓hf8, ↓hf9]

theorem State.stopWrite_frame (s : State) :
    (State.stopWrite s).now = s.now ∧ (State.stopWrite s).pending = s.pending ∧ (State.stopWrite s).regs0 = s.regs0 ∧
    (State.stopWrite s).freeCtr = s.freeCtr ∧ (State.stopWrite s).mode = s.mode ∧
    (State.stopWrite s).mram.keyCnt = s.mram.keyCnt ∧ (State.stopWrite s).mram.boot = s.mram.boot ∧
    (State.stopWrite s).sys = s.sys ∧ (State.stopWrite s).ana = s.ana ∧ (State.stopWrite s).aux = s.aux ∧
    (State.stopWrite s).flt = s.flt ∧ (State.stopWrite s).tim = s.tim ∧ (State.stopWrite s).net = s.net ∧
    (State.stopWrite s).prt = s.prt ∧ (State.stopWrite s).pod = s.pod ∧ (State.stopWrite s).tph = s.tph ∧
    (State.stopWrite s).oz = s.oz ∧ (State.stopWrite s).sec = s.sec ∧ (State.stopWrite s).cmd.run = s.cmd.run ∧
    (State.stopWrite s).cmd.svc = s.cmd.svc := by
  have hfite := @State.ite_frame
  have hf1 := @State.setFlag_frame
  have hf2 := @State.alarmsOff_frame
  have hf3 := @State.gsetStop_frame
  have hf4 := @State.cancelSelects_frame
  have hf5 := @State.setLogicMode_frame
  have hf6 := @State.giveOuts_frame
  have hf7 := @State.raise_frame
  have hf8 := @State.setProg_frame
  have hf9 := @State.dropReqs_frame
  simp [↓hfite, ↓hf1, ↓hf2, ↓hf3, ↓hf4, ↓hf5, ↓hf6, ↓hf7, ↓hf8, ↓hf9, State.stopWrite]

theorem State.enterStop_frame (s : State) :
    (State.enterStop s).now = s.now ∧ (State.enterStop s).pending = s.pending ∧ (State.enterStop s).regs0 = s.regs0 ∧
    (State.enterStop s).mode = s.mode ∧ (State.enterStop s).mram.keyCnt = s.mram.keyCnt ∧
    (State.enterStop s).sys = s.sys ∧ (State.enterStop s).ana = s.ana ∧ (State.enterStop s).aux = s.aux ∧
    (State.enterStop s).flt = s.flt ∧ (State.enterStop s).tim = s.tim ∧ (State.enterStop s).net = s.net ∧
    (State.enterStop s).prt = s.prt ∧ (State.enterStop s).pod = s.pod ∧ (State.enterStop s).tph = s.tph ∧
    (State.enterStop s).oz = s.oz ∧ (State.enterStop s).sec = s.sec ∧ (State.enterStop s).cmd.run = s.cmd.run ∧
    (State.enterStop s).cmd.svc = s.cmd.svc := by
  have hfite := @State.ite_frame
  have hf1 := @State.takeJoin_frame
  have hf2 := @State.stopWrite_frame
  have hf3 := @State.takeSwap_frame
  have hf4 := @State.joinEnd_frame
  simp [↓hfite, ↓hf1, ↓hf2, ↓hf3, ↓hf4, State.enterStop]

theorem exchangeLoadedEff_frame (res : ExchLoad) (s : State) :
    (exchangeLoadedEff res s).now = s.now ∧ (exchangeLoadedEff res s).pending = s.pending ∧
    (exchangeLoadedEff res s).regs0 = s.regs0 ∧ (exchangeLoadedEff res s).mode = s.mode ∧
    (exchangeLoadedEff res s).mram.keyCnt = s.mram.keyCnt ∧ (exchangeLoadedEff res s).sys = s.sys ∧
    (exchangeLoadedEff res s).ana = s.ana ∧ (exchangeLoadedEff res s).aux = s.aux ∧
    (exchangeLoadedEff res s).flt = s.flt ∧ (exchangeLoadedEff res s).tim = s.tim ∧
    (exchangeLoadedEff res s).net = s.net ∧ (exchangeLoadedEff res s).prt = s.prt ∧
    (exchangeLoadedEff res s).trp = s.trp ∧ (exchangeLoadedEff res s).pod = s.pod ∧
    (exchangeLoadedEff res s).gsv = s.gsv ∧ (exchangeLoadedEff res s).tph = s.tph ∧
    (exchangeLoadedEff res s).oz = s.oz ∧ (exchangeLoadedEff res s).sec = s.sec ∧
    (exchangeLoadedEff res s).cmd.run = s.cmd.run ∧ (exchangeLoadedEff res s).cmd.svc = s.cmd.svc := by
  have hfite := @State.ite_frame
  have hf1 := @State.raise_frame
  have hf2 := @State.setF_frame
  have hf3 := @State.takeSwap_frame
  have hf4 := @State.complete_frame
  simp [↓hfite, ↓hf1, ↓hf2, ↓hf3, ↓hf4, exchangeLoadedEff]
  (repeat' split) <;> simp [↓hfite, ↓hf1, ↓hf2, ↓hf3, ↓hf4]

theorem State.writeControl_frame (s : State) (sc : Scan) :
    (State.writeControl s sc).now = s.now ∧ (State.writeControl s sc).pending = s.pending ∧
    (State.writeControl s sc).regs0 = s.regs0 ∧ (State.writeControl s sc).mode = s.mode ∧
    (State.writeControl s sc).mram.keyCnt = s.mram.keyCnt ∧ (State.writeControl s sc).sys = s.sys ∧
    (State.writeControl s sc).ana = s.ana ∧ (State.writeControl s sc).aux = s.aux ∧
    (State.writeControl s sc).flt = s.flt ∧ (State.writeControl s sc).tim = s.tim ∧
    (State.writeControl s sc).net = s.net ∧ (State.writeControl s sc).prt = s.prt ∧
    (State.writeControl s sc).pod = s.pod ∧ (State.writeControl s sc).tph = s.tph ∧
    (State.writeControl s sc).oz = s.oz ∧ (State.writeControl s sc).sec = s.sec ∧
    (State.writeControl s sc).cmd.run = s.cmd.run ∧ (State.writeControl s sc).cmd.svc = s.cmd.svc := by
  have hfite := @State.ite_frame
  have hf1 := @State.setFlag_frame
  have hf2 := @State.incWrap_frame
  have hf3 := @State.takeJoin_frame
  have hf4 := @State.overrun_frame
  have hf5 := @State.gsetPut_frame
  have hf6 := @State.scanLimit_frame
  have hf7 := @State.retain_frame
  have hf8 := @State.scanTime_frame
  have hf9 := @State.enterStop_frame
  have hf10 := @State.takeSwap_frame
  have hf11 := @State.takeSplit_frame
  have hf12 := @State.heldScan_frame
  have hf13 := @State.bkrFinish_frame
  simp [↓hfite, ↓hf1, ↓hf2, ↓hf3, ↓hf4, ↓hf5, ↓hf6, ↓hf7, ↓hf8, ↓hf9, ↓hf10, ↓hf11, ↓hf12, ↓hf13, State.writeControl]

theorem logicOutputWriteEff_frame (k : ℕ) (s : State) :
    (logicOutputWriteEff k s).now = s.now ∧ (logicOutputWriteEff k s).pending = s.pending ∧
    (logicOutputWriteEff k s).regs0 = s.regs0 ∧ (logicOutputWriteEff k s).mode = s.mode ∧
    (logicOutputWriteEff k s).mram.keyCnt = s.mram.keyCnt ∧ (logicOutputWriteEff k s).sys = s.sys ∧
    (logicOutputWriteEff k s).ana = s.ana ∧ (logicOutputWriteEff k s).aux = s.aux ∧
    (logicOutputWriteEff k s).flt = s.flt ∧ (logicOutputWriteEff k s).tim = s.tim ∧
    (logicOutputWriteEff k s).net = s.net ∧ (logicOutputWriteEff k s).prt = s.prt ∧
    (logicOutputWriteEff k s).pod = s.pod ∧ (logicOutputWriteEff k s).tph = s.tph ∧
    (logicOutputWriteEff k s).oz = s.oz ∧ (logicOutputWriteEff k s).sec = s.sec ∧
    (logicOutputWriteEff k s).cmd.run = s.cmd.run ∧ (logicOutputWriteEff k s).cmd.svc = s.cmd.svc := by
  have hfite := @State.ite_frame
  have hf1 := @State.raise_frame
  have hf2 := @State.scanOuts_frame
  have hf3 := @State.writeControl_frame
  have hf4 := @State.setProg_frame
  simp [↓hfite, ↓hf1, ↓hf2, ↓hf3, ↓hf4, logicOutputWriteEff]
  (repeat' split) <;> simp [↓hfite, ↓hf1, ↓hf2, ↓hf3, ↓hf4]

theorem State.leaveHold_frame (s : State) :
    (State.leaveHold s).now = s.now ∧ (State.leaveHold s).pending = s.pending ∧ (State.leaveHold s).regs0 = s.regs0 ∧
    (State.leaveHold s).freeCtr = s.freeCtr ∧ (State.leaveHold s).mode = s.mode ∧ (State.leaveHold s).mram = s.mram ∧
    (State.leaveHold s).sys = s.sys ∧ (State.leaveHold s).evt = s.evt ∧ (State.leaveHold s).ana = s.ana ∧
    (State.leaveHold s).aux = s.aux ∧ (State.leaveHold s).flt = s.flt ∧ (State.leaveHold s).tim = s.tim ∧
    (State.leaveHold s).net = s.net ∧ (State.leaveHold s).prt = s.prt ∧ (State.leaveHold s).trp = s.trp ∧
    (State.leaveHold s).pod = s.pod ∧ (State.leaveHold s).gsv = s.gsv ∧ (State.leaveHold s).tph = s.tph ∧
    (State.leaveHold s).oz = s.oz ∧ (State.leaveHold s).sec = s.sec ∧ (State.leaveHold s).cmd = s.cmd := by
  have hfite := @State.ite_frame
  have hf1 := @State.setLogicMode_frame
  simp [↓hfite, ↓hf1, State.leaveHold]

theorem holdEntryEff_frame (k : ℕ) (s : State) :
    (holdEntryEff k s).now = s.now ∧ (holdEntryEff k s).pending = s.pending ∧ (holdEntryEff k s).regs0 = s.regs0 ∧
    (holdEntryEff k s).freeCtr = s.freeCtr ∧ (holdEntryEff k s).mode = s.mode ∧
    (holdEntryEff k s).mram.keyCnt = s.mram.keyCnt ∧ (holdEntryEff k s).mram.boot = s.mram.boot ∧
    (holdEntryEff k s).sys = s.sys ∧ (holdEntryEff k s).ana = s.ana ∧ (holdEntryEff k s).aux = s.aux ∧
    (holdEntryEff k s).flt = s.flt ∧ (holdEntryEff k s).tim = s.tim ∧ (holdEntryEff k s).net = s.net ∧
    (holdEntryEff k s).prt = s.prt ∧ (holdEntryEff k s).trp = s.trp ∧ (holdEntryEff k s).pod = s.pod ∧
    (holdEntryEff k s).gsv = s.gsv ∧ (holdEntryEff k s).tph = s.tph ∧ (holdEntryEff k s).oz = s.oz ∧
    (holdEntryEff k s).sec = s.sec ∧ (holdEntryEff k s).cmd.run = s.cmd.run ∧ (holdEntryEff k s).cmd.svc = s.cmd.svc := by
  have hfite := @State.ite_frame
  have hf1 := @State.setLogicMode_frame
  have hf2 := @State.dropReqs_frame
  simp [↓hfite, ↓hf1, ↓hf2, holdEntryEff]

theorem State.bkrTimer_frame (s : State) (brk : ℕ) (want : BkrX → Bool) :
    (State.bkrTimer s brk want).now = s.now ∧ (State.bkrTimer s brk want).pending = s.pending ∧
    (State.bkrTimer s brk want).regs0 = s.regs0 ∧ (State.bkrTimer s brk want).freeCtr = s.freeCtr ∧
    (State.bkrTimer s brk want).mode = s.mode ∧ (State.bkrTimer s brk want).mram.keyCnt = s.mram.keyCnt ∧
    (State.bkrTimer s brk want).mram.boot = s.mram.boot ∧ (State.bkrTimer s brk want).sys = s.sys ∧
    (State.bkrTimer s brk want).ana = s.ana ∧ (State.bkrTimer s brk want).aux = s.aux ∧
    (State.bkrTimer s brk want).flt = s.flt ∧ (State.bkrTimer s brk want).tim = s.tim ∧
    (State.bkrTimer s brk want).net = s.net ∧ (State.bkrTimer s brk want).prt = s.prt ∧
    (State.bkrTimer s brk want).trp = s.trp ∧ (State.bkrTimer s brk want).pod = s.pod ∧
    (State.bkrTimer s brk want).gsv = s.gsv ∧ (State.bkrTimer s brk want).tph = s.tph ∧
    (State.bkrTimer s brk want).oz = s.oz ∧ (State.bkrTimer s brk want).sec = s.sec ∧
    (State.bkrTimer s brk want).cmd.run = s.cmd.run ∧ (State.bkrTimer s brk want).cmd.svc = s.cmd.svc := by
  have hfite := @State.ite_frame
  have hf1 := @State.scanEvt_frame
  have hf2 := @State.bkrSettle_frame
  have hf3 := @State.raise_frame
  have hf4 := @State.setProg_frame
  simp [↓hfite, ↓hf1, ↓hf2, ↓hf3, ↓hf4, State.bkrTimer]
  (repeat' split) <;> simp [↓hfite, ↓hf1, ↓hf2, ↓hf3, ↓hf4]

theorem bkrPulseEndEff_frame (brk : ℕ) (s : State) :
    (bkrPulseEndEff brk s).now = s.now ∧ (bkrPulseEndEff brk s).pending = s.pending ∧
    (bkrPulseEndEff brk s).regs0 = s.regs0 ∧ (bkrPulseEndEff brk s).freeCtr = s.freeCtr ∧
    (bkrPulseEndEff brk s).mode = s.mode ∧ (bkrPulseEndEff brk s).mram.keyCnt = s.mram.keyCnt ∧
    (bkrPulseEndEff brk s).mram.boot = s.mram.boot ∧ (bkrPulseEndEff brk s).sys = s.sys ∧
    (bkrPulseEndEff brk s).ana = s.ana ∧ (bkrPulseEndEff brk s).aux = s.aux ∧ (bkrPulseEndEff brk s).flt = s.flt ∧
    (bkrPulseEndEff brk s).tim = s.tim ∧ (bkrPulseEndEff brk s).net = s.net ∧ (bkrPulseEndEff brk s).prt = s.prt ∧
    (bkrPulseEndEff brk s).trp = s.trp ∧ (bkrPulseEndEff brk s).pod = s.pod ∧ (bkrPulseEndEff brk s).gsv = s.gsv ∧
    (bkrPulseEndEff brk s).tph = s.tph ∧ (bkrPulseEndEff brk s).oz = s.oz ∧ (bkrPulseEndEff brk s).sec = s.sec ∧
    (bkrPulseEndEff brk s).cmd.run = s.cmd.run ∧ (bkrPulseEndEff brk s).cmd.svc = s.cmd.svc := by
  have hfite := @State.ite_frame
  have hf1 := @State.bkrTimer_frame
  simp [↓hfite, ↓hf1, bkrPulseEndEff]

theorem bkrSupervisionTimeoutEff_frame (brk : ℕ) (s : State) :
    (bkrSupervisionTimeoutEff brk s).now = s.now ∧ (bkrSupervisionTimeoutEff brk s).pending = s.pending ∧
    (bkrSupervisionTimeoutEff brk s).regs0 = s.regs0 ∧ (bkrSupervisionTimeoutEff brk s).freeCtr = s.freeCtr ∧
    (bkrSupervisionTimeoutEff brk s).mode = s.mode ∧ (bkrSupervisionTimeoutEff brk s).mram.keyCnt = s.mram.keyCnt ∧
    (bkrSupervisionTimeoutEff brk s).mram.boot = s.mram.boot ∧ (bkrSupervisionTimeoutEff brk s).sys = s.sys ∧
    (bkrSupervisionTimeoutEff brk s).ana = s.ana ∧ (bkrSupervisionTimeoutEff brk s).aux = s.aux ∧
    (bkrSupervisionTimeoutEff brk s).flt = s.flt ∧ (bkrSupervisionTimeoutEff brk s).tim = s.tim ∧
    (bkrSupervisionTimeoutEff brk s).net = s.net ∧ (bkrSupervisionTimeoutEff brk s).prt = s.prt ∧
    (bkrSupervisionTimeoutEff brk s).trp = s.trp ∧ (bkrSupervisionTimeoutEff brk s).pod = s.pod ∧
    (bkrSupervisionTimeoutEff brk s).gsv = s.gsv ∧ (bkrSupervisionTimeoutEff brk s).tph = s.tph ∧
    (bkrSupervisionTimeoutEff brk s).oz = s.oz ∧ (bkrSupervisionTimeoutEff brk s).sec = s.sec ∧
    (bkrSupervisionTimeoutEff brk s).cmd.run = s.cmd.run ∧ (bkrSupervisionTimeoutEff brk s).cmd.svc = s.cmd.svc := by
  have hfite := @State.ite_frame
  have hf1 := @State.bkrTimer_frame
  simp [↓hfite, ↓hf1, bkrSupervisionTimeoutEff]

theorem bkrSelectExpiryEff_frame (brk : ℕ) (s : State) :
    (bkrSelectExpiryEff brk s).now = s.now ∧ (bkrSelectExpiryEff brk s).pending = s.pending ∧
    (bkrSelectExpiryEff brk s).regs0 = s.regs0 ∧ (bkrSelectExpiryEff brk s).freeCtr = s.freeCtr ∧
    (bkrSelectExpiryEff brk s).mode = s.mode ∧ (bkrSelectExpiryEff brk s).mram.keyCnt = s.mram.keyCnt ∧
    (bkrSelectExpiryEff brk s).mram.boot = s.mram.boot ∧ (bkrSelectExpiryEff brk s).sys = s.sys ∧
    (bkrSelectExpiryEff brk s).ana = s.ana ∧ (bkrSelectExpiryEff brk s).aux = s.aux ∧
    (bkrSelectExpiryEff brk s).flt = s.flt ∧ (bkrSelectExpiryEff brk s).tim = s.tim ∧
    (bkrSelectExpiryEff brk s).net = s.net ∧ (bkrSelectExpiryEff brk s).prt = s.prt ∧
    (bkrSelectExpiryEff brk s).trp = s.trp ∧ (bkrSelectExpiryEff brk s).pod = s.pod ∧
    (bkrSelectExpiryEff brk s).gsv = s.gsv ∧ (bkrSelectExpiryEff brk s).tph = s.tph ∧
    (bkrSelectExpiryEff brk s).oz = s.oz ∧ (bkrSelectExpiryEff brk s).sec = s.sec ∧
    (bkrSelectExpiryEff brk s).cmd.run = s.cmd.run ∧ (bkrSelectExpiryEff brk s).cmd.svc = s.cmd.svc := by
  have hfite := @State.ite_frame
  have hf1 := @State.bkrTimer_frame
  simp [↓hfite, ↓hf1, bkrSelectExpiryEff]

end Sys2Proof.Machine
end

