-- ==== Sys2Proof/Laws/FrameLink.lean ====
section
/-!
SUPPORT. What the operations of Machine/Link.lean leave as it was: one lemma per operation, over the parts of the state.
-/
set_option linter.all false
set_option Elab.async false
namespace Sys2Proof.Machine
theorem State.setLink_frame (s : State) (l : ℕ) (x : OzLink) :
    (State.setLink s l x).now = s.now ∧ (State.setLink s l x).pending = s.pending ∧
    (State.setLink s l x).regs0 = s.regs0 ∧ (State.setLink s l x).freeCtr = s.freeCtr ∧
    (State.setLink s l x).mode = s.mode ∧ (State.setLink s l x).mram = s.mram ∧ (State.setLink s l x).sys = s.sys ∧
    (State.setLink s l x).evt = s.evt ∧ (State.setLink s l x).ana = s.ana ∧ (State.setLink s l x).aux = s.aux ∧
    (State.setLink s l x).flt = s.flt ∧ (State.setLink s l x).tim = s.tim ∧ (State.setLink s l x).net = s.net ∧
    (State.setLink s l x).prt = s.prt ∧ (State.setLink s l x).trp = s.trp ∧ (State.setLink s l x).pod = s.pod ∧
    (State.setLink s l x).lgc = s.lgc ∧ (State.setLink s l x).gsv = s.gsv ∧ (State.setLink s l x).tph = s.tph ∧
    (State.setLink s l x).sec = s.sec ∧ (State.setLink s l x).cmd = s.cmd ∧ (State.setLink s l x).regs = s.regs := by
  simp [State.setLink]

theorem State.ozPutOn_frame (s : State) (l : ℕ) (f : OzFrame) (x : OzLink) :
    (State.ozPutOn s l f x).now = s.now ∧ (State.ozPutOn s l f x).pending = s.pending ∧
    (State.ozPutOn s l f x).regs0 = s.regs0 ∧ (State.ozPutOn s l f x).freeCtr = s.freeCtr ∧
    (State.ozPutOn s l f x).mode = s.mode ∧ (State.ozPutOn s l f x).mram = s.mram ∧
    (State.ozPutOn s l f x).sys = s.sys ∧ (State.ozPutOn s l f x).evt = s.evt ∧ (State.ozPutOn s l f x).ana = s.ana ∧
    (State.ozPutOn s l f x).aux = s.aux ∧ (State.ozPutOn s l f x).flt = s.flt ∧ (State.ozPutOn s l f x).tim = s.tim ∧
    (State.ozPutOn s l f x).net = s.net ∧ (State.ozPutOn s l f x).prt = s.prt ∧ (State.ozPutOn s l f x).trp = s.trp ∧
    (State.ozPutOn s l f x).pod = s.pod ∧ (State.ozPutOn s l f x).lgc = s.lgc ∧ (State.ozPutOn s l f x).gsv = s.gsv ∧
    (State.ozPutOn s l f x).tph = s.tph ∧ (State.ozPutOn s l f x).sec = s.sec ∧ (State.ozPutOn s l f x).cmd = s.cmd ∧
    (State.ozPutOn s l f x).regs = s.regs := by
  have hfite := @State.ite_frame
  have hf1 := @State.setLink_frame
  simp [↓hfite, ↓hf1, State.ozPutOn]

theorem State.ozSend_frame (s : State) (l : ℕ) (m : OzMsg) :
    (State.ozSend s l m).now = s.now ∧ (State.ozSend s l m).pending = s.pending ∧
    (State.ozSend s l m).regs0 = s.regs0 ∧ (State.ozSend s l m).freeCtr = s.freeCtr ∧
    (State.ozSend s l m).mode = s.mode ∧ (State.ozSend s l m).mram = s.mram ∧ (State.ozSend s l m).sys = s.sys ∧
    (State.ozSend s l m).evt = s.evt ∧ (State.ozSend s l m).ana = s.ana ∧ (State.ozSend s l m).aux = s.aux ∧
    (State.ozSend s l m).flt = s.flt ∧ (State.ozSend s l m).tim = s.tim ∧ (State.ozSend s l m).net = s.net ∧
    (State.ozSend s l m).prt = s.prt ∧ (State.ozSend s l m).trp = s.trp ∧ (State.ozSend s l m).pod = s.pod ∧
    (State.ozSend s l m).lgc = s.lgc ∧ (State.ozSend s l m).gsv = s.gsv ∧ (State.ozSend s l m).tph = s.tph ∧
    (State.ozSend s l m).sec = s.sec ∧ (State.ozSend s l m).cmd = s.cmd ∧ (State.ozSend s l m).regs = s.regs := by
  have hfite := @State.ite_frame
  have hf1 := @State.ozPutOn_frame
  unfold State.ozSend
  (repeat' split) <;> simp [↓hfite, ↓hf1]

theorem State.ozResend_frame (s : State) (l : ℕ) (f : OzFrame) :
    (State.ozResend s l f).now = s.now ∧ (State.ozResend s l f).pending = s.pending ∧
    (State.ozResend s l f).regs0 = s.regs0 ∧ (State.ozResend s l f).freeCtr = s.freeCtr ∧
    (State.ozResend s l f).mode = s.mode ∧ (State.ozResend s l f).mram = s.mram ∧
    (State.ozResend s l f).sys = s.sys ∧ (State.ozResend s l f).evt = s.evt ∧ (State.ozResend s l f).ana = s.ana ∧
    (State.ozResend s l f).aux = s.aux ∧ (State.ozResend s l f).flt = s.flt ∧ (State.ozResend s l f).tim = s.tim ∧
    (State.ozResend s l f).net = s.net ∧ (State.ozResend s l f).prt = s.prt ∧ (State.ozResend s l f).trp = s.trp ∧
    (State.ozResend s l f).pod = s.pod ∧ (State.ozResend s l f).lgc = s.lgc ∧ (State.ozResend s l f).gsv = s.gsv ∧
    (State.ozResend s l f).tph = s.tph ∧ (State.ozResend s l f).sec = s.sec ∧ (State.ozResend s l f).cmd = s.cmd ∧
    (State.ozResend s l f).regs = s.regs := by
  have hfite := @State.ite_frame
  have hf1 := @State.ozPutOn_frame
  simp [↓hfite, ↓hf1, State.ozResend]

theorem State.trigSend_frame (s : State) (id : ℕ) (lab : ℤ) :
    (State.trigSend s id lab).now = s.now ∧ (State.trigSend s id lab).pending = s.pending ∧
    (State.trigSend s id lab).regs0 = s.regs0 ∧ (State.trigSend s id lab).freeCtr = s.freeCtr ∧
    (State.trigSend s id lab).mode = s.mode ∧ (State.trigSend s id lab).mram = s.mram ∧
    (State.trigSend s id lab).sys = s.sys ∧ (State.trigSend s id lab).evt = s.evt ∧
    (State.trigSend s id lab).ana = s.ana ∧ (State.trigSend s id lab).aux = s.aux ∧
    (State.trigSend s id lab).flt = s.flt ∧ (State.trigSend s id lab).tim = s.tim ∧
    (State.trigSend s id lab).net = s.net ∧ (State.trigSend s id lab).prt = s.prt ∧
    (State.trigSend s id lab).trp = s.trp ∧ (State.trigSend s id lab).pod = s.pod ∧
    (State.trigSend s id lab).lgc = s.lgc ∧ (State.trigSend s id lab).gsv = s.gsv ∧
    (State.trigSend s id lab).tph = s.tph ∧ (State.trigSend s id lab).sec = s.sec ∧
    (State.trigSend s id lab).cmd = s.cmd := by
  have hfite := @State.ite_frame
  have hf1 := @State.incWrap_frame
  have hf2 := @State.ozSend_frame
  simp [↓hfite, ↓hf1, ↓hf2, State.trigSend]
end Sys2Proof.Machine
end

