-- ==== Sys2Proof/Laws/FrameGoose.lean ====
section
/-!
SUPPORT. What the operations of Machine/Goose.lean leave as it was: one lemma per operation, over the parts of the state.
-/
set_option linter.all false
set_option Elab.async false
namespace Sys2Proof.Machine
theorem State.setGcb_frame (s : State) (n : ℕ) (g : GcbInt) :
    (State.setGcb s n g).now = s.now ∧ (State.setGcb s n g).pending = s.pending ∧
    (State.setGcb s n g).regs0 = s.regs0 ∧ (State.setGcb s n g).freeCtr = s.freeCtr ∧
    (State.setGcb s n g).mode = s.mode ∧ (State.setGcb s n g).mram = s.mram ∧ (State.setGcb s n g).sys = s.sys ∧
    (State.setGcb s n g).evt = s.evt ∧ (State.setGcb s n g).ana = s.ana ∧ (State.setGcb s n g).aux = s.aux ∧
    (State.setGcb s n g).flt = s.flt ∧ (State.setGcb s n g).tim = s.tim ∧ (State.setGcb s n g).net = s.net ∧
    (State.setGcb s n g).prt = s.prt ∧ (State.setGcb s n g).trp = s.trp ∧ (State.setGcb s n g).pod = s.pod ∧
    (State.setGcb s n g).lgc = s.lgc ∧ (State.setGcb s n g).tph = s.tph ∧ (State.setGcb s n g).oz = s.oz ∧
    (State.setGcb s n g).sec = s.sec ∧ (State.setGcb s n g).cmd = s.cmd ∧ (State.setGcb s n g).regs = s.regs := by
  simp [State.setGcb]

theorem State.gooseReplace_frame (s : State) (n : ℕ) (ports : List ℕ) (f : TxFrame) :
    (State.gooseReplace s n ports f).now = s.now ∧ (State.gooseReplace s n ports f).pending = s.pending ∧
    (State.gooseReplace s n ports f).regs0 = s.regs0 ∧ (State.gooseReplace s n ports f).freeCtr = s.freeCtr ∧
    (State.gooseReplace s n ports f).mode = s.mode ∧ (State.gooseReplace s n ports f).mram = s.mram ∧
    (State.gooseReplace s n ports f).sys = s.sys ∧ (State.gooseReplace s n ports f).evt = s.evt ∧
    (State.gooseReplace s n ports f).ana = s.ana ∧ (State.gooseReplace s n ports f).aux = s.aux ∧
    (State.gooseReplace s n ports f).flt = s.flt ∧ (State.gooseReplace s n ports f).tim = s.tim ∧
    (State.gooseReplace s n ports f).prt = s.prt ∧ (State.gooseReplace s n ports f).trp = s.trp ∧
    (State.gooseReplace s n ports f).pod = s.pod ∧ (State.gooseReplace s n ports f).lgc = s.lgc ∧
    (State.gooseReplace s n ports f).gsv = s.gsv ∧ (State.gooseReplace s n ports f).tph = s.tph ∧
    (State.gooseReplace s n ports f).oz = s.oz ∧ (State.gooseReplace s n ports f).sec = s.sec ∧
    (State.gooseReplace s n ports f).cmd = s.cmd ∧ (State.gooseReplace s n ports f).regs = s.regs := by
  have hfite := @State.ite_frame
  have hf1 := @State.setPort_frame
  simp [↓hfite, ↓hf1, State.gooseReplace]

theorem State.gooseSend_frame (s : State) (n : ℕ) :
    (State.gooseSend s n).now = s.now ∧ (State.gooseSend s n).pending = s.pending ∧
    (State.gooseSend s n).regs0 = s.regs0 ∧ (State.gooseSend s n).freeCtr = s.freeCtr ∧
    (State.gooseSend s n).mode = s.mode ∧ (State.gooseSend s n).mram = s.mram ∧ (State.gooseSend s n).sys = s.sys ∧
    (State.gooseSend s n).evt = s.evt ∧ (State.gooseSend s n).ana = s.ana ∧ (State.gooseSend s n).aux = s.aux ∧
    (State.gooseSend s n).flt = s.flt ∧ (State.gooseSend s n).tim = s.tim ∧ (State.gooseSend s n).prt = s.prt ∧
    (State.gooseSend s n).trp = s.trp ∧ (State.gooseSend s n).pod = s.pod ∧ (State.gooseSend s n).lgc = s.lgc ∧
    (State.gooseSend s n).gsv = s.gsv ∧ (State.gooseSend s n).tph = s.tph ∧ (State.gooseSend s n).sec = s.sec ∧
    (State.gooseSend s n).cmd = s.cmd := by
  have hfite := @State.ite_frame
  have hf1 := @State.incWrap_frame
  have hf2 := @State.txOwn_frame
  have hf3 := @State.gooseReplace_frame
  have hf4 := @State.ozSend_frame
  simp [↓hfite, ↓hf1, ↓hf2, ↓hf3, ↓hf4, State.gooseSend]

theorem State.gooseNew_frame (s : State) (n : ℕ) (stNum : ℕ) :
    (State.gooseNew s n stNum).now = s.now ∧ (State.gooseNew s n stNum).pending = s.pending ∧
    (State.gooseNew s n stNum).regs0 = s.regs0 ∧ (State.gooseNew s n stNum).freeCtr = s.freeCtr ∧
    (State.gooseNew s n stNum).mode = s.mode ∧ (State.gooseNew s n stNum).mram = s.mram ∧
    (State.gooseNew s n stNum).sys = s.sys ∧ (State.gooseNew s n stNum).evt = s.evt ∧
    (State.gooseNew s n stNum).ana = s.ana ∧ (State.gooseNew s n stNum).aux = s.aux ∧
    (State.gooseNew s n stNum).flt = s.flt ∧ (State.gooseNew s n stNum).tim = s.tim ∧
    (State.gooseNew s n stNum).prt = s.prt ∧ (State.gooseNew s n stNum).trp = s.trp ∧
    (State.gooseNew s n stNum).pod = s.pod ∧ (State.gooseNew s n stNum).lgc = s.lgc ∧
    (State.gooseNew s n stNum).tph = s.tph ∧ (State.gooseNew s n stNum).sec = s.sec ∧
    (State.gooseNew s n stNum).cmd = s.cmd := by
  have hf1 := @State.setF_frame
  have hf2 := @State.gooseSend_frame
  have hf3 := @State.setGcb_frame
  simp [↓hf1, ↓hf2, ↓hf3, State.gooseNew]

theorem State.gooseAmend_frame (s : State) (n : ℕ) (v : List ℕ) :
    (State.gooseAmend s n v).now = s.now ∧ (State.gooseAmend s n v).pending = s.pending ∧
    (State.gooseAmend s n v).regs0 = s.regs0 ∧ (State.gooseAmend s n v).freeCtr = s.freeCtr ∧
    (State.gooseAmend s n v).mode = s.mode ∧ (State.gooseAmend s n v).mram = s.mram ∧
    (State.gooseAmend s n v).sys = s.sys ∧ (State.gooseAmend s n v).evt = s.evt ∧
    (State.gooseAmend s n v).ana = s.ana ∧ (State.gooseAmend s n v).aux = s.aux ∧
    (State.gooseAmend s n v).flt = s.flt ∧ (State.gooseAmend s n v).tim = s.tim ∧
    (State.gooseAmend s n v).prt = s.prt ∧ (State.gooseAmend s n v).trp = s.trp ∧
    (State.gooseAmend s n v).pod = s.pod ∧ (State.gooseAmend s n v).lgc = s.lgc ∧
    (State.gooseAmend s n v).gsv = s.gsv ∧ (State.gooseAmend s n v).tph = s.tph ∧
    (State.gooseAmend s n v).oz = s.oz ∧ (State.gooseAmend s n v).sec = s.sec ∧
    (State.gooseAmend s n v).cmd = s.cmd ∧ (State.gooseAmend s n v).regs = s.regs := by
  have hfite := @State.ite_frame
  simp [↓hfite, State.gooseAmend]

theorem gooseStateChangeEff_frame (n : ℕ) (s : State) :
    (gooseStateChangeEff n s).now = s.now ∧ (gooseStateChangeEff n s).pending = s.pending ∧
    (gooseStateChangeEff n s).regs0 = s.regs0 ∧ (gooseStateChangeEff n s).freeCtr = s.freeCtr ∧
    (gooseStateChangeEff n s).mode = s.mode ∧ (gooseStateChangeEff n s).mram = s.mram ∧
    (gooseStateChangeEff n s).sys = s.sys ∧ (gooseStateChangeEff n s).evt = s.evt ∧
    (gooseStateChangeEff n s).ana = s.ana ∧ (gooseStateChangeEff n s).aux = s.aux ∧
    (gooseStateChangeEff n s).flt = s.flt ∧ (gooseStateChangeEff n s).tim = s.tim ∧
    (gooseStateChangeEff n s).prt = s.prt ∧ (gooseStateChangeEff n s).trp = s.trp ∧
    (gooseStateChangeEff n s).pod = s.pod ∧ (gooseStateChangeEff n s).lgc = s.lgc ∧
    (gooseStateChangeEff n s).tph = s.tph ∧ (gooseStateChangeEff n s).sec = s.sec ∧
    (gooseStateChangeEff n s).cmd = s.cmd := by
  have hfite := @State.ite_frame
  have hf1 := @State.setGcb_frame
  have hf2 := @State.gooseAmend_frame
  have hf3 := @State.gooseNew_frame
  simp [↓hfite, ↓hf1, ↓hf2, ↓hf3, gooseStateChangeEff]

theorem gooseRetransmitEff_frame (n : ℕ) (s : State) :
    (gooseRetransmitEff n s).now = s.now ∧ (gooseRetransmitEff n s).pending = s.pending ∧
    (gooseRetransmitEff n s).regs0 = s.regs0 ∧ (gooseRetransmitEff n s).freeCtr = s.freeCtr ∧
    (gooseRetransmitEff n s).mode = s.mode ∧ (gooseRetransmitEff n s).mram = s.mram ∧
    (gooseRetransmitEff n s).sys = s.sys ∧ (gooseRetransmitEff n s).evt = s.evt ∧
    (gooseRetransmitEff n s).ana = s.ana ∧ (gooseRetransmitEff n s).aux = s.aux ∧
    (gooseRetransmitEff n s).flt = s.flt ∧ (gooseRetransmitEff n s).tim = s.tim ∧
    (gooseRetransmitEff n s).prt = s.prt ∧ (gooseRetransmitEff n s).trp = s.trp ∧
    (gooseRetransmitEff n s).pod = s.pod ∧ (gooseRetransmitEff n s).lgc = s.lgc ∧
    (gooseRetransmitEff n s).tph = s.tph ∧ (gooseRetransmitEff n s).sec = s.sec ∧
    (gooseRetransmitEff n s).cmd = s.cmd := by
  have hf1 := @State.setF_frame
  have hf2 := @State.gooseSend_frame
  have hf3 := @State.setGcb_frame
  have hf4 := @State.gooseNew_frame
  simp [↓hf1, ↓hf2, ↓hf3, ↓hf4, gooseRetransmitEff]
  (repeat' split) <;> simp [↓hf1, ↓hf2, ↓hf3, ↓hf4]

theorem State.goosePublish_frame (s : State) :
    (State.goosePublish s).now = s.now ∧ (State.goosePublish s).pending = s.pending ∧
    (State.goosePublish s).regs0 = s.regs0 ∧ (State.goosePublish s).freeCtr = s.freeCtr ∧
    (State.goosePublish s).mode = s.mode ∧ (State.goosePublish s).mram = s.mram ∧
    (State.goosePublish s).sys = s.sys ∧ (State.goosePublish s).evt = s.evt ∧ (State.goosePublish s).ana = s.ana ∧
    (State.goosePublish s).aux = s.aux ∧ (State.goosePublish s).flt = s.flt ∧ (State.goosePublish s).tim = s.tim ∧
    (State.goosePublish s).prt = s.prt ∧ (State.goosePublish s).trp = s.trp ∧ (State.goosePublish s).pod = s.pod ∧
    (State.goosePublish s).lgc = s.lgc ∧ (State.goosePublish s).tph = s.tph ∧ (State.goosePublish s).sec = s.sec ∧
    (State.goosePublish s).cmd = s.cmd := by
  have hfite := @State.ite_frame
  have hf1 := @State.gooseNew_frame
  simp [↓hfite, ↓hf1, State.goosePublish]

theorem State.gooseStop_frame (s : State) :
    (State.gooseStop s).now = s.now ∧ (State.gooseStop s).pending = s.pending ∧ (State.gooseStop s).regs0 = s.regs0 ∧
    (State.gooseStop s).freeCtr = s.freeCtr ∧ (State.gooseStop s).mode = s.mode ∧ (State.gooseStop s).mram = s.mram ∧
    (State.gooseStop s).sys = s.sys ∧ (State.gooseStop s).evt = s.evt ∧ (State.gooseStop s).ana = s.ana ∧
    (State.gooseStop s).aux = s.aux ∧ (State.gooseStop s).flt = s.flt ∧ (State.gooseStop s).tim = s.tim ∧
    (State.gooseStop s).net = s.net ∧ (State.gooseStop s).prt = s.prt ∧ (State.gooseStop s).trp = s.trp ∧
    (State.gooseStop s).pod = s.pod ∧ (State.gooseStop s).lgc = s.lgc ∧ (State.gooseStop s).tph = s.tph ∧
    (State.gooseStop s).oz = s.oz ∧ (State.gooseStop s).sec = s.sec ∧ (State.gooseStop s).cmd = s.cmd ∧
    (State.gooseStop s).regs = s.regs := by
  have hf1 := @State.setGcb_frame
  simp [↓hf1, State.gooseStop]

theorem State.setSub_frame (s : State) (j : ℕ) (x : SubInt) :
    (State.setSub s j x).now = s.now ∧ (State.setSub s j x).pending = s.pending ∧
    (State.setSub s j x).regs0 = s.regs0 ∧ (State.setSub s j x).freeCtr = s.freeCtr ∧
    (State.setSub s j x).mode = s.mode ∧ (State.setSub s j x).mram = s.mram ∧ (State.setSub s j x).sys = s.sys ∧
    (State.setSub s j x).evt = s.evt ∧ (State.setSub s j x).ana = s.ana ∧ (State.setSub s j x).aux = s.aux ∧
    (State.setSub s j x).flt = s.flt ∧ (State.setSub s j x).tim = s.tim ∧ (State.setSub s j x).net = s.net ∧
    (State.setSub s j x).prt = s.prt ∧ (State.setSub s j x).trp = s.trp ∧ (State.setSub s j x).pod = s.pod ∧
    (State.setSub s j x).lgc = s.lgc ∧ (State.setSub s j x).tph = s.tph ∧ (State.setSub s j x).oz = s.oz ∧
    (State.setSub s j x).sec = s.sec ∧ (State.setSub s j x).cmd = s.cmd ∧ (State.setSub s j x).regs = s.regs := by
  simp [State.setSub]

theorem State.pendDrop_frame (s : State) (j : ℕ) :
    (State.pendDrop s j).now = s.now ∧ (State.pendDrop s j).pending = s.pending ∧
    (State.pendDrop s j).regs0 = s.regs0 ∧ (State.pendDrop s j).freeCtr = s.freeCtr ∧
    (State.pendDrop s j).mode = s.mode ∧ (State.pendDrop s j).mram = s.mram ∧ (State.pendDrop s j).sys = s.sys ∧
    (State.pendDrop s j).evt = s.evt ∧ (State.pendDrop s j).ana = s.ana ∧ (State.pendDrop s j).aux = s.aux ∧
    (State.pendDrop s j).flt = s.flt ∧ (State.pendDrop s j).tim = s.tim ∧ (State.pendDrop s j).net = s.net ∧
    (State.pendDrop s j).prt = s.prt ∧ (State.pendDrop s j).trp = s.trp ∧ (State.pendDrop s j).pod = s.pod ∧
    (State.pendDrop s j).gsv = s.gsv ∧ (State.pendDrop s j).tph = s.tph ∧ (State.pendDrop s j).oz = s.oz ∧
    (State.pendDrop s j).sec = s.sec ∧ (State.pendDrop s j).cmd = s.cmd := by
  have hf1 := @State.setPres_frame
  simp [↓hf1, State.pendDrop]

theorem State.pendRest_frame (s : State) (j : ℕ) :
    (State.pendRest s j).now = s.now ∧ (State.pendRest s j).pending = s.pending ∧
    (State.pendRest s j).regs0 = s.regs0 ∧ (State.pendRest s j).freeCtr = s.freeCtr ∧
    (State.pendRest s j).mode = s.mode ∧ (State.pendRest s j).mram = s.mram ∧ (State.pendRest s j).sys = s.sys ∧
    (State.pendRest s j).evt = s.evt ∧ (State.pendRest s j).ana = s.ana ∧ (State.pendRest s j).aux = s.aux ∧
    (State.pendRest s j).flt = s.flt ∧ (State.pendRest s j).tim = s.tim ∧ (State.pendRest s j).net = s.net ∧
    (State.pendRest s j).prt = s.prt ∧ (State.pendRest s j).trp = s.trp ∧ (State.pendRest s j).pod = s.pod ∧
    (State.pendRest s j).gsv = s.gsv ∧ (State.pendRest s j).tph = s.tph ∧ (State.pendRest s j).oz = s.oz ∧
    (State.pendRest s j).sec = s.sec ∧ (State.pendRest s j).cmd = s.cmd := by
  have hf1 := @State.setPres_frame
  simp [↓hf1, State.pendRest]

theorem State.subDrop_frame (s : State) (j : ℕ) :
    (State.subDrop s j).now = s.now ∧ (State.subDrop s j).pending = s.pending ∧ (State.subDrop s j).regs0 = s.regs0 ∧
    (State.subDrop s j).freeCtr = s.freeCtr ∧ (State.subDrop s j).mode = s.mode ∧
    (State.subDrop s j).mram.keyCnt = s.mram.keyCnt ∧ (State.subDrop s j).mram.boot = s.mram.boot ∧
    (State.subDrop s j).sys = s.sys ∧ (State.subDrop s j).ana = s.ana ∧ (State.subDrop s j).aux = s.aux ∧
    (State.subDrop s j).flt = s.flt ∧ (State.subDrop s j).tim = s.tim ∧ (State.subDrop s j).net = s.net ∧
    (State.subDrop s j).prt = s.prt ∧ (State.subDrop s j).trp = s.trp ∧ (State.subDrop s j).pod = s.pod ∧
    (State.subDrop s j).tph = s.tph ∧ (State.subDrop s j).oz = s.oz ∧ (State.subDrop s j).sec = s.sec ∧
    (State.subDrop s j).cmd = s.cmd := by
  have hf1 := @State.raise_frame
  have hf2 := @State.setSub_frame
  have hf3 := @State.incSat_frame
  have hf4 := @State.pendDrop_frame
  simp [↓hf1, ↓hf2, ↓hf3, ↓hf4, State.subDrop]

theorem State.gooseAccept_frame (s : State) (j : ℕ) (c : GsubCfg) (f : GooseFrame) :
    (State.gooseAccept s j c f).now = s.now ∧ (State.gooseAccept s j c f).pending = s.pending ∧
    (State.gooseAccept s j c f).regs0 = s.regs0 ∧ (State.gooseAccept s j c f).freeCtr = s.freeCtr ∧
    (State.gooseAccept s j c f).mode = s.mode ∧ (State.gooseAccept s j c f).mram = s.mram ∧
    (State.gooseAccept s j c f).sys = s.sys ∧ (State.gooseAccept s j c f).evt = s.evt ∧
    (State.gooseAccept s j c f).ana = s.ana ∧ (State.gooseAccept s j c f).aux = s.aux ∧
    (State.gooseAccept s j c f).flt = s.flt ∧ (State.gooseAccept s j c f).tim = s.tim ∧
    (State.gooseAccept s j c f).net = s.net ∧ (State.gooseAccept s j c f).prt = s.prt ∧
    (State.gooseAccept s j c f).trp = s.trp ∧ (State.gooseAccept s j c f).pod = s.pod ∧
    (State.gooseAccept s j c f).tph = s.tph ∧ (State.gooseAccept s j c f).oz = s.oz ∧
    (State.gooseAccept s j c f).sec = s.sec ∧ (State.gooseAccept s j c f).cmd = s.cmd := by
  have hfite := @State.ite_frame
  have hf1 := @State.pendRest_frame
  have hf2 := @State.setFlag_frame
  have hf3 := @State.setSub_frame
  simp [↓hfite, ↓hf1, ↓hf2, ↓hf3, State.gooseAccept]

theorem State.gooseFor_frame (s : State) (j : ℕ) (f : GooseFrame) :
    (State.gooseFor s j f).now = s.now ∧ (State.gooseFor s j f).pending = s.pending ∧
    (State.gooseFor s j f).regs0 = s.regs0 ∧ (State.gooseFor s j f).freeCtr = s.freeCtr ∧
    (State.gooseFor s j f).mode = s.mode ∧ (State.gooseFor s j f).mram.keyCnt = s.mram.keyCnt ∧
    (State.gooseFor s j f).mram.boot = s.mram.boot ∧ (State.gooseFor s j f).sys = s.sys ∧
    (State.gooseFor s j f).ana = s.ana ∧ (State.gooseFor s j f).aux = s.aux ∧ (State.gooseFor s j f).flt = s.flt ∧
    (State.gooseFor s j f).tim = s.tim ∧ (State.gooseFor s j f).net = s.net ∧ (State.gooseFor s j f).prt = s.prt ∧
    (State.gooseFor s j f).trp = s.trp ∧ (State.gooseFor s j f).pod = s.pod ∧ (State.gooseFor s j f).tph = s.tph ∧
    (State.gooseFor s j f).oz = s.oz ∧ (State.gooseFor s j f).sec = s.sec ∧ (State.gooseFor s j f).cmd = s.cmd := by
  have hfite := @State.ite_frame
  have hf1 := @State.setSub_frame
  have hf2 := @State.incSat_frame
  have hf3 := @State.raise_frame
  have hf4 := @State.gooseAccept_frame
  simp [↓hfite, ↓hf1, ↓hf2, ↓hf3, ↓hf4, State.gooseFor]

theorem gooseReceiveEff_frame (p : ℕ) (f : GooseFrame) (s : State) :
    (gooseReceiveEff p f s).now = s.now ∧ (gooseReceiveEff p f s).pending = s.pending ∧
    (gooseReceiveEff p f s).regs0 = s.regs0 ∧ (gooseReceiveEff p f s).freeCtr = s.freeCtr ∧
    (gooseReceiveEff p f s).mode = s.mode ∧ (gooseReceiveEff p f s).mram.keyCnt = s.mram.keyCnt ∧
    (gooseReceiveEff p f s).mram.boot = s.mram.boot ∧ (gooseReceiveEff p f s).sys = s.sys ∧
    (gooseReceiveEff p f s).ana = s.ana ∧ (gooseReceiveEff p f s).aux = s.aux ∧ (gooseReceiveEff p f s).flt = s.flt ∧
    (gooseReceiveEff p f s).tim = s.tim ∧ (gooseReceiveEff p f s).net = s.net ∧ (gooseReceiveEff p f s).prt = s.prt ∧
    (gooseReceiveEff p f s).trp = s.trp ∧ (gooseReceiveEff p f s).pod = s.pod ∧ (gooseReceiveEff p f s).tph = s.tph ∧
    (gooseReceiveEff p f s).oz = s.oz ∧ (gooseReceiveEff p f s).sec = s.sec ∧ (gooseReceiveEff p f s).cmd = s.cmd := by
  have hfite := @State.ite_frame
  have hf1 := @State.gooseFor_frame
  simp [↓hfite, ↓hf1, gooseReceiveEff]

theorem gooseLiveTimeoutEff_frame (j : ℕ) (s : State) :
    (gooseLiveTimeoutEff j s).now = s.now ∧ (gooseLiveTimeoutEff j s).pending = s.pending ∧
    (gooseLiveTimeoutEff j s).regs0 = s.regs0 ∧ (gooseLiveTimeoutEff j s).freeCtr = s.freeCtr ∧
    (gooseLiveTimeoutEff j s).mode = s.mode ∧ (gooseLiveTimeoutEff j s).mram.keyCnt = s.mram.keyCnt ∧
    (gooseLiveTimeoutEff j s).mram.boot = s.mram.boot ∧ (gooseLiveTimeoutEff j s).sys = s.sys ∧
    (gooseLiveTimeoutEff j s).ana = s.ana ∧ (gooseLiveTimeoutEff j s).aux = s.aux ∧
    (gooseLiveTimeoutEff j s).flt = s.flt ∧ (gooseLiveTimeoutEff j s).tim = s.tim ∧
    (gooseLiveTimeoutEff j s).net = s.net ∧ (gooseLiveTimeoutEff j s).prt = s.prt ∧
    (gooseLiveTimeoutEff j s).trp = s.trp ∧ (gooseLiveTimeoutEff j s).pod = s.pod ∧
    (gooseLiveTimeoutEff j s).tph = s.tph ∧ (gooseLiveTimeoutEff j s).oz = s.oz ∧
    (gooseLiveTimeoutEff j s).sec = s.sec ∧ (gooseLiveTimeoutEff j s).cmd = s.cmd := by
  have hf1 := @State.subDrop_frame
  have hf2 := @State.setFlag_frame
  unfold gooseLiveTimeoutEff
  (repeat' split) <;> simp [↓hf1, ↓hf2]

theorem State.setSv_frame (s : State) (st : ℕ) (x : SvInt) :
    (State.setSv s st x).now = s.now ∧ (State.setSv s st x).pending = s.pending ∧
    (State.setSv s st x).regs0 = s.regs0 ∧ (State.setSv s st x).freeCtr = s.freeCtr ∧
    (State.setSv s st x).mode = s.mode ∧ (State.setSv s st x).mram = s.mram ∧ (State.setSv s st x).sys = s.sys ∧
    (State.setSv s st x).evt = s.evt ∧ (State.setSv s st x).ana = s.ana ∧ (State.setSv s st x).aux = s.aux ∧
    (State.setSv s st x).flt = s.flt ∧ (State.setSv s st x).tim = s.tim ∧ (State.setSv s st x).net = s.net ∧
    (State.setSv s st x).prt = s.prt ∧ (State.setSv s st x).trp = s.trp ∧ (State.setSv s st x).pod = s.pod ∧
    (State.setSv s st x).lgc = s.lgc ∧ (State.setSv s st x).tph = s.tph ∧ (State.setSv s st x).oz = s.oz ∧
    (State.setSv s st x).sec = s.sec ∧ (State.setSv s st x).cmd = s.cmd ∧ (State.setSv s st x).regs = s.regs := by
  simp [State.setSv]

theorem State.svPlace_frame (s : State) (st : ℕ) (key : ℕ) (sync : Bool) (a : SvAsdu) :
    (State.svPlace s st key sync a).1.now = s.now ∧ (State.svPlace s st key sync a).1.pending = s.pending ∧
    (State.svPlace s st key sync a).1.regs0 = s.regs0 ∧ (State.svPlace s st key sync a).1.freeCtr = s.freeCtr ∧
    (State.svPlace s st key sync a).1.mode = s.mode ∧ (State.svPlace s st key sync a).1.mram = s.mram ∧
    (State.svPlace s st key sync a).1.sys = s.sys ∧ (State.svPlace s st key sync a).1.evt = s.evt ∧
    (State.svPlace s st key sync a).1.ana = s.ana ∧ (State.svPlace s st key sync a).1.aux = s.aux ∧
    (State.svPlace s st key sync a).1.tim = s.tim ∧ (State.svPlace s st key sync a).1.net = s.net ∧
    (State.svPlace s st key sync a).1.prt = s.prt ∧ (State.svPlace s st key sync a).1.trp = s.trp ∧
    (State.svPlace s st key sync a).1.pod = s.pod ∧ (State.svPlace s st key sync a).1.lgc = s.lgc ∧
    (State.svPlace s st key sync a).1.gsv = s.gsv ∧ (State.svPlace s st key sync a).1.tph = s.tph ∧
    (State.svPlace s st key sync a).1.oz = s.oz ∧ (State.svPlace s st key sync a).1.sec = s.sec ∧
    (State.svPlace s st key sync a).1.cmd = s.cmd ∧ (State.svPlace s st key sync a).1.regs = s.regs := by
  have hfite := @State.ite_frame
  unfold State.svPlace
  exact ⟨foldl_fst_now _ _ _ (fun r x => by (try dsimp only); (repeat' split) <;> simp), foldl_fst_pending _ _ _ (fun r x => by (try dsimp only); (repeat' split) <;> simp), foldl_fst_regs0 _ _ _ (fun r x => by (try dsimp only); (repeat' split) <;> simp), foldl_fst_freeCtr _ _ _ (fun r x => by (try dsimp only); (repeat' split) <;> simp), foldl_fst_mode _ _ _ (fun r x => by (try dsimp only); (repeat' split) <;> simp), foldl_fst_mram _ _ _ (fun r x => by (try dsimp only); (repeat' split) <;> simp), foldl_fst_sys _ _ _ (fun r x => by (try dsimp only); (repeat' split) <;> simp), foldl_fst_evt _ _ _ (fun r x => by (try dsimp only); (repeat' split) <;> simp), foldl_fst_ana _ _ _ (fun r x => by (try dsimp only); (repeat' split) <;> simp), foldl_fst_aux _ _ _ (fun r x => by (try dsimp only); (repeat' split) <;> simp), foldl_fst_tim _ _ _ (fun r x => by (try dsimp only); (repeat' split) <;> simp), foldl_fst_net _ _ _ (fun r x => by (try dsimp only); (repeat' split) <;> simp), foldl_fst_prt _ _ _ (fun r x => by (try dsimp only); (repeat' split) <;> simp), foldl_fst_trp _ _ _ (fun r x => by (try dsimp only); (repeat' split) <;> simp), foldl_fst_pod _ _ _ (fun r x => by (try dsimp only); (repeat' split) <;> simp), foldl_fst_lgc _ _ _ (fun r x => by (try dsimp only); (repeat' split) <;> simp), foldl_fst_gsv _ _ _ (fun r x => by (try dsimp only); (repeat' split) <;> simp), foldl_fst_tph _ _ _ (fun r x => by (try dsimp only); (repeat' split) <;> simp), foldl_fst_oz _ _ _ (fun r x => by (try dsimp only); (repeat' split) <;> simp), foldl_fst_sec _ _ _ (fun r x => by (try dsimp only); (repeat' split) <;> simp), foldl_fst_cmd _ _ _ (fun r x => by (try dsimp only); (repeat' split) <;> simp), foldl_fst_regs _ _ _ (fun r x => by (try dsimp only); (repeat' split) <;> simp)⟩

theorem State.svDrop_frame (s : State) (st : ℕ) :
    (State.svDrop s st).now = s.now ∧ (State.svDrop s st).pending = s.pending ∧ (State.svDrop s st).regs0 = s.regs0 ∧
    (State.svDrop s st).freeCtr = s.freeCtr ∧ (State.svDrop s st).mode = s.mode ∧
    (State.svDrop s st).mram.keyCnt = s.mram.keyCnt ∧ (State.svDrop s st).mram.boot = s.mram.boot ∧
    (State.svDrop s st).sys = s.sys ∧ (State.svDrop s st).ana = s.ana ∧ (State.svDrop s st).aux = s.aux ∧
    (State.svDrop s st).flt = s.flt ∧ (State.svDrop s st).tim = s.tim ∧ (State.svDrop s st).net = s.net ∧
    (State.svDrop s st).prt = s.prt ∧ (State.svDrop s st).trp = s.trp ∧ (State.svDrop s st).pod = s.pod ∧
    (State.svDrop s st).tph = s.tph ∧ (State.svDrop s st).oz = s.oz ∧ (State.svDrop s st).sec = s.sec ∧
    (State.svDrop s st).cmd = s.cmd := by
  have hf1 := @State.subDrop_frame
  have hf2 := @State.setFlag_frame
  have hf3 := @State.setSv_frame
  simp [↓hf1, ↓hf2, ↓hf3, State.svDrop]

theorem State.svAsdu_frame (s : State) (st : ℕ) (sim : Bool) (a : SvAsdu) :
    (State.svAsdu s st sim a).now = s.now ∧ (State.svAsdu s st sim a).pending = s.pending ∧
    (State.svAsdu s st sim a).regs0 = s.regs0 ∧ (State.svAsdu s st sim a).freeCtr = s.freeCtr ∧
    (State.svAsdu s st sim a).mode = s.mode ∧ (State.svAsdu s st sim a).mram.keyCnt = s.mram.keyCnt ∧
    (State.svAsdu s st sim a).mram.boot = s.mram.boot ∧ (State.svAsdu s st sim a).sys = s.sys ∧
    (State.svAsdu s st sim a).ana = s.ana ∧ (State.svAsdu s st sim a).aux = s.aux ∧
    (State.svAsdu s st sim a).tim = s.tim ∧ (State.svAsdu s st sim a).net = s.net ∧
    (State.svAsdu s st sim a).prt = s.prt ∧ (State.svAsdu s st sim a).trp = s.trp ∧
    (State.svAsdu s st sim a).pod = s.pod ∧ (State.svAsdu s st sim a).tph = s.tph ∧
    (State.svAsdu s st sim a).oz = s.oz ∧ (State.svAsdu s st sim a).sec = s.sec ∧
    (State.svAsdu s st sim a).cmd = s.cmd := by
  have hfite := @State.ite_frame
  have hf1 := @State.svDrop_frame
  have hf2 := @State.setFlag_frame
  have hf3 := @State.raise_frame
  have hf4 := @State.incSat_frame
  have hf5 := @State.svPlace_frame
  have hf6 := @State.setSub_frame
  have hf7 := @State.setSv_frame
  have hf8 := @State.pendRest_frame
  simp [↓hfite, ↓hf1, ↓hf2, ↓hf3, ↓hf4, ↓hf5, ↓hf6, ↓hf7, ↓hf8, State.svAsdu]

theorem State.svFor_frame (s : State) (st : ℕ) (f : SvFrame) :
    (State.svFor s st f).now = s.now ∧ (State.svFor s st f).pending = s.pending ∧
    (State.svFor s st f).regs0 = s.regs0 ∧ (State.svFor s st f).freeCtr = s.freeCtr ∧
    (State.svFor s st f).mode = s.mode ∧ (State.svFor s st f).mram.keyCnt = s.mram.keyCnt ∧
    (State.svFor s st f).mram.boot = s.mram.boot ∧ (State.svFor s st f).sys = s.sys ∧
    (State.svFor s st f).ana = s.ana ∧ (State.svFor s st f).aux = s.aux ∧ (State.svFor s st f).tim = s.tim ∧
    (State.svFor s st f).net = s.net ∧ (State.svFor s st f).prt = s.prt ∧ (State.svFor s st f).trp = s.trp ∧
    (State.svFor s st f).pod = s.pod ∧ (State.svFor s st f).tph = s.tph ∧ (State.svFor s st f).oz = s.oz ∧
    (State.svFor s st f).sec = s.sec ∧ (State.svFor s st f).cmd = s.cmd := by
  have hfite := @State.ite_frame
  have hf1 := @State.setSub_frame
  have hf2 := @State.incSat_frame
  have hf3 := @State.raise_frame
  have hf4 := @State.svAsdu_frame
  simp [↓hfite, ↓hf1, ↓hf2, ↓hf3, ↓hf4, State.svFor]

theorem svReceiveEff_frame (p : ℕ) (f : SvFrame) (s : State) :
    (svReceiveEff p f s).now = s.now ∧ (svReceiveEff p f s).pending = s.pending ∧
    (svReceiveEff p f s).regs0 = s.regs0 ∧ (svReceiveEff p f s).freeCtr = s.freeCtr ∧
    (svReceiveEff p f s).mode = s.mode ∧ (svReceiveEff p f s).mram.keyCnt = s.mram.keyCnt ∧
    (svReceiveEff p f s).mram.boot = s.mram.boot ∧ (svReceiveEff p f s).sys = s.sys ∧
    (svReceiveEff p f s).ana = s.ana ∧ (svReceiveEff p f s).aux = s.aux ∧ (svReceiveEff p f s).tim = s.tim ∧
    (svReceiveEff p f s).net = s.net ∧ (svReceiveEff p f s).prt = s.prt ∧ (svReceiveEff p f s).trp = s.trp ∧
    (svReceiveEff p f s).pod = s.pod ∧ (svReceiveEff p f s).tph = s.tph ∧ (svReceiveEff p f s).oz = s.oz ∧
    (svReceiveEff p f s).sec = s.sec ∧ (svReceiveEff p f s).cmd = s.cmd := by
  have hfite := @State.ite_frame
  have hf1 := @State.svFor_frame
  simp [↓hfite, ↓hf1, svReceiveEff]

theorem svStreamTimeoutEff_frame (st : ℕ) (s : State) :
    (svStreamTimeoutEff st s).now = s.now ∧ (svStreamTimeoutEff st s).pending = s.pending ∧
    (svStreamTimeoutEff st s).regs0 = s.regs0 ∧ (svStreamTimeoutEff st s).freeCtr = s.freeCtr ∧
    (svStreamTimeoutEff st s).mode = s.mode ∧ (svStreamTimeoutEff st s).mram.keyCnt = s.mram.keyCnt ∧
    (svStreamTimeoutEff st s).mram.boot = s.mram.boot ∧ (svStreamTimeoutEff st s).sys = s.sys ∧
    (svStreamTimeoutEff st s).ana = s.ana ∧ (svStreamTimeoutEff st s).aux = s.aux ∧
    (svStreamTimeoutEff st s).flt = s.flt ∧ (svStreamTimeoutEff st s).tim = s.tim ∧
    (svStreamTimeoutEff st s).net = s.net ∧ (svStreamTimeoutEff st s).prt = s.prt ∧
    (svStreamTimeoutEff st s).trp = s.trp ∧ (svStreamTimeoutEff st s).pod = s.pod ∧
    (svStreamTimeoutEff st s).tph = s.tph ∧ (svStreamTimeoutEff st s).oz = s.oz ∧
    (svStreamTimeoutEff st s).sec = s.sec ∧ (svStreamTimeoutEff st s).cmd = s.cmd := by
  have hfite := @State.ite_frame
  have hf1 := @State.svDrop_frame
  simp [↓hfite, ↓hf1, svStreamTimeoutEff]

theorem State.svPublish_frame (s : State) :
    (State.svPublish s).now = s.now ∧ (State.svPublish s).pending = s.pending ∧ (State.svPublish s).regs0 = s.regs0 ∧
    (State.svPublish s).freeCtr = s.freeCtr ∧ (State.svPublish s).mode = s.mode ∧ (State.svPublish s).mram = s.mram ∧
    (State.svPublish s).sys = s.sys ∧ (State.svPublish s).evt = s.evt ∧ (State.svPublish s).ana = s.ana ∧
    (State.svPublish s).aux = s.aux ∧ (State.svPublish s).flt = s.flt ∧ (State.svPublish s).tim = s.tim ∧
    (State.svPublish s).prt = s.prt ∧ (State.svPublish s).trp = s.trp ∧ (State.svPublish s).pod = s.pod ∧
    (State.svPublish s).lgc = s.lgc ∧ (State.svPublish s).tph = s.tph ∧ (State.svPublish s).oz = s.oz ∧
    (State.svPublish s).sec = s.sec ∧ (State.svPublish s).cmd = s.cmd := by
  have hfite := @State.ite_frame
  have hf1 := @State.txOwn_frame
  simp [↓hfite, ↓hf1, State.svPublish]

theorem fixedRatePublishEff_frame (c : ℕ) (up : Upset) (s : State) :
    (fixedRatePublishEff c up s).now = s.now ∧ (fixedRatePublishEff c up s).pending = s.pending ∧
    (fixedRatePublishEff c up s).regs0 = s.regs0 ∧ (fixedRatePublishEff c up s).freeCtr = s.freeCtr ∧
    (fixedRatePublishEff c up s).mode = s.mode ∧ (fixedRatePublishEff c up s).mram.keyCnt = s.mram.keyCnt ∧
    (fixedRatePublishEff c up s).mram.boot = s.mram.boot ∧ (fixedRatePublishEff c up s).sys = s.sys ∧
    (fixedRatePublishEff c up s).ana = s.ana ∧ (fixedRatePublishEff c up s).aux = s.aux ∧
    (fixedRatePublishEff c up s).tim = s.tim ∧ (fixedRatePublishEff c up s).prt = s.prt ∧
    (fixedRatePublishEff c up s).trp = s.trp ∧ (fixedRatePublishEff c up s).pod = s.pod ∧
    (fixedRatePublishEff c up s).lgc = s.lgc ∧ (fixedRatePublishEff c up s).tph = s.tph ∧
    (fixedRatePublishEff c up s).oz = s.oz ∧ (fixedRatePublishEff c up s).sec = s.sec ∧
    (fixedRatePublishEff c up s).cmd = s.cmd := by
  have hf1 := @State.svPublish_frame
  have hf2 := @fixedRateSampleEff_frame
  simp [↓hf1, ↓hf2, fixedRatePublishEff]

theorem recomputePublishEff_frame (g : ℕ) (st : ℕ) (c : ℕ) (r1 : ℤ) (r2 : ℤ) (s : State) :
    (recomputePublishEff g st c r1 r2 s).now = s.now ∧ (recomputePublishEff g st c r1 r2 s).pending = s.pending ∧
    (recomputePublishEff g st c r1 r2 s).regs0 = s.regs0 ∧ (recomputePublishEff g st c r1 r2 s).freeCtr = s.freeCtr ∧
    (recomputePublishEff g st c r1 r2 s).mode = s.mode ∧
    (recomputePublishEff g st c r1 r2 s).mram.keyCnt = s.mram.keyCnt ∧
    (recomputePublishEff g st c r1 r2 s).mram.boot = s.mram.boot ∧ (recomputePublishEff g st c r1 r2 s).sys = s.sys ∧
    (recomputePublishEff g st c r1 r2 s).ana = s.ana ∧ (recomputePublishEff g st c r1 r2 s).aux = s.aux ∧
    (recomputePublishEff g st c r1 r2 s).tim = s.tim ∧ (recomputePublishEff g st c r1 r2 s).prt = s.prt ∧
    (recomputePublishEff g st c r1 r2 s).trp = s.trp ∧ (recomputePublishEff g st c r1 r2 s).pod = s.pod ∧
    (recomputePublishEff g st c r1 r2 s).lgc = s.lgc ∧ (recomputePublishEff g st c r1 r2 s).tph = s.tph ∧
    (recomputePublishEff g st c r1 r2 s).oz = s.oz ∧ (recomputePublishEff g st c r1 r2 s).sec = s.sec ∧
    (recomputePublishEff g st c r1 r2 s).cmd = s.cmd := by
  have hfite := @State.ite_frame
  have hf1 := @State.svPublish_frame
  have hf2 := @recomputeDoneEff_frame
  simp [↓hfite, ↓hf1, ↓hf2, recomputePublishEff]
end Sys2Proof.Machine
end

