-- ==== Sys2Proof/Laws/FrameRecorder.lean ====
section
/-!
SUPPORT. What the operations of Machine/Recorder.lean leave as it was: one lemma per operation, over the parts of the state.
-/
set_option linter.all false
set_option Elab.async false
namespace Sys2Proof.Machine
theorem State.setCls_frame (s : State) (c : ℕ) (x : RecClass) :
    (State.setCls s c x).now = s.now ∧ (State.setCls s c x).pending = s.pending ∧
    (State.setCls s c x).regs0 = s.regs0 ∧ (State.setCls s c x).freeCtr = s.freeCtr ∧
    (State.setCls s c x).mode = s.mode ∧ (State.setCls s c x).mram = s.mram ∧ (State.setCls s c x).sys = s.sys ∧
    (State.setCls s c x).evt = s.evt ∧ (State.setCls s c x).ana = s.ana ∧ (State.setCls s c x).aux = s.aux ∧
    (State.setCls s c x).flt = s.flt ∧ (State.setCls s c x).tim = s.tim ∧ (State.setCls s c x).net = s.net ∧
    (State.setCls s c x).prt = s.prt ∧ (State.setCls s c x).trp = s.trp ∧ (State.setCls s c x).pod = s.pod ∧
    (State.setCls s c x).lgc = s.lgc ∧ (State.setCls s c x).gsv = s.gsv ∧ (State.setCls s c x).oz = s.oz ∧
    (State.setCls s c x).sec = s.sec ∧ (State.setCls s c x).cmd = s.cmd ∧ (State.setCls s c x).regs = s.regs := by
  simp [State.setCls]

theorem State.setSeg_frame (s : State) (g : ℕ) (x : RecSeg) :
    (State.setSeg s g x).now = s.now ∧ (State.setSeg s g x).pending = s.pending ∧
    (State.setSeg s g x).regs0 = s.regs0 ∧ (State.setSeg s g x).freeCtr = s.freeCtr ∧
    (State.setSeg s g x).mode = s.mode ∧ (State.setSeg s g x).mram = s.mram ∧ (State.setSeg s g x).sys = s.sys ∧
    (State.setSeg s g x).evt = s.evt ∧ (State.setSeg s g x).ana = s.ana ∧ (State.setSeg s g x).aux = s.aux ∧
    (State.setSeg s g x).flt = s.flt ∧ (State.setSeg s g x).tim = s.tim ∧ (State.setSeg s g x).net = s.net ∧
    (State.setSeg s g x).prt = s.prt ∧ (State.setSeg s g x).trp = s.trp ∧ (State.setSeg s g x).pod = s.pod ∧
    (State.setSeg s g x).lgc = s.lgc ∧ (State.setSeg s g x).gsv = s.gsv ∧ (State.setSeg s g x).oz = s.oz ∧
    (State.setSeg s g x).sec = s.sec ∧ (State.setSeg s g x).cmd = s.cmd ∧ (State.setSeg s g x).regs = s.regs := by
  simp [State.setSeg]

theorem State.setRidx_frame (s : State) (g : ℕ) (e : RecIdxEntry) :
    (State.setRidx s g e).now = s.now ∧ (State.setRidx s g e).pending = s.pending ∧
    (State.setRidx s g e).regs0 = s.regs0 ∧ (State.setRidx s g e).freeCtr = s.freeCtr ∧
    (State.setRidx s g e).mode = s.mode ∧ (State.setRidx s g e).mram.keyCnt = s.mram.keyCnt ∧
    (State.setRidx s g e).mram.boot = s.mram.boot ∧ (State.setRidx s g e).sys = s.sys ∧
    (State.setRidx s g e).evt = s.evt ∧ (State.setRidx s g e).ana = s.ana ∧ (State.setRidx s g e).aux = s.aux ∧
    (State.setRidx s g e).flt = s.flt ∧ (State.setRidx s g e).tim = s.tim ∧ (State.setRidx s g e).net = s.net ∧
    (State.setRidx s g e).prt = s.prt ∧ (State.setRidx s g e).trp = s.trp ∧ (State.setRidx s g e).pod = s.pod ∧
    (State.setRidx s g e).lgc = s.lgc ∧ (State.setRidx s g e).gsv = s.gsv ∧ (State.setRidx s g e).tph = s.tph ∧
    (State.setRidx s g e).oz = s.oz ∧ (State.setRidx s g e).sec = s.sec ∧ (State.setRidx s g e).cmd = s.cmd ∧
    (State.setRidx s g e).regs = s.regs := by
  simp [State.setRidx]

theorem State.recShow_frame (s : State) (c : ℕ) (st : ℕ) :
    (State.recShow s c st).now = s.now ∧ (State.recShow s c st).pending = s.pending ∧
    (State.recShow s c st).regs0 = s.regs0 ∧ (State.recShow s c st).freeCtr = s.freeCtr ∧
    (State.recShow s c st).mode = s.mode ∧ (State.recShow s c st).mram = s.mram ∧
    (State.recShow s c st).sys = s.sys ∧ (State.recShow s c st).evt = s.evt ∧ (State.recShow s c st).ana = s.ana ∧
    (State.recShow s c st).aux = s.aux ∧ (State.recShow s c st).flt = s.flt ∧ (State.recShow s c st).tim = s.tim ∧
    (State.recShow s c st).net = s.net ∧ (State.recShow s c st).prt = s.prt ∧ (State.recShow s c st).trp = s.trp ∧
    (State.recShow s c st).pod = s.pod ∧ (State.recShow s c st).lgc = s.lgc ∧ (State.recShow s c st).gsv = s.gsv ∧
    (State.recShow s c st).tph = s.tph ∧ (State.recShow s c st).oz = s.oz ∧ (State.recShow s c st).sec = s.sec ∧
    (State.recShow s c st).cmd = s.cmd := by
  have hf1 := @State.setF_frame
  simp [↓hf1, State.recShow]

theorem State.takeSeg_frame (s : State) (c : ℕ) (ex : Option ℕ) :
    (State.takeSeg s c ex).2.now = s.now ∧ (State.takeSeg s c ex).2.pending = s.pending ∧
    (State.takeSeg s c ex).2.regs0 = s.regs0 ∧ (State.takeSeg s c ex).2.freeCtr = s.freeCtr ∧
    (State.takeSeg s c ex).2.mode = s.mode ∧ (State.takeSeg s c ex).2.mram.keyCnt = s.mram.keyCnt ∧
    (State.takeSeg s c ex).2.mram.boot = s.mram.boot ∧ (State.takeSeg s c ex).2.sys = s.sys ∧
    (State.takeSeg s c ex).2.ana = s.ana ∧ (State.takeSeg s c ex).2.aux = s.aux ∧
    (State.takeSeg s c ex).2.flt = s.flt ∧ (State.takeSeg s c ex).2.tim = s.tim ∧
    (State.takeSeg s c ex).2.net = s.net ∧ (State.takeSeg s c ex).2.prt = s.prt ∧
    (State.takeSeg s c ex).2.trp = s.trp ∧ (State.takeSeg s c ex).2.pod = s.pod ∧
    (State.takeSeg s c ex).2.lgc = s.lgc ∧ (State.takeSeg s c ex).2.gsv = s.gsv ∧
    (State.takeSeg s c ex).2.tph = s.tph ∧ (State.takeSeg s c ex).2.oz = s.oz ∧
    (State.takeSeg s c ex).2.sec = s.sec ∧ (State.takeSeg s c ex).2.cmd = s.cmd := by
  have hf1 := @State.raise_frame
  have hf2 := @State.incSat_frame
  simp [↓hf1, ↓hf2, State.takeSeg]
  (repeat' split) <;> simp [↓hf1, ↓hf2]

theorem State.armSeg_frame (s : State) (c : ℕ) (g : ℕ) :
    (State.armSeg s c g).now = s.now ∧ (State.armSeg s c g).pending = s.pending ∧
    (State.armSeg s c g).regs0 = s.regs0 ∧ (State.armSeg s c g).freeCtr = s.freeCtr ∧
    (State.armSeg s c g).mode = s.mode ∧ (State.armSeg s c g).mram.keyCnt = s.mram.keyCnt ∧
    (State.armSeg s c g).mram.boot = s.mram.boot ∧ (State.armSeg s c g).sys = s.sys ∧
    (State.armSeg s c g).evt = s.evt ∧ (State.armSeg s c g).ana = s.ana ∧ (State.armSeg s c g).aux = s.aux ∧
    (State.armSeg s c g).flt = s.flt ∧ (State.armSeg s c g).tim = s.tim ∧ (State.armSeg s c g).net = s.net ∧
    (State.armSeg s c g).prt = s.prt ∧ (State.armSeg s c g).trp = s.trp ∧ (State.armSeg s c g).pod = s.pod ∧
    (State.armSeg s c g).lgc = s.lgc ∧ (State.armSeg s c g).gsv = s.gsv ∧ (State.armSeg s c g).oz = s.oz ∧
    (State.armSeg s c g).sec = s.sec ∧ (State.armSeg s c g).cmd = s.cmd ∧ (State.armSeg s c g).regs = s.regs := by
  have hf1 := @State.setRidx_frame
  have hf2 := @State.setSeg_frame
  simp [↓hf1, ↓hf2, State.armSeg]

theorem State.freeSeg_frame (s : State) (c : ℕ) (g : Option ℕ) :
    (State.freeSeg s c g).now = s.now ∧ (State.freeSeg s c g).pending = s.pending ∧
    (State.freeSeg s c g).regs0 = s.regs0 ∧ (State.freeSeg s c g).freeCtr = s.freeCtr ∧
    (State.freeSeg s c g).mode = s.mode ∧ (State.freeSeg s c g).mram.keyCnt = s.mram.keyCnt ∧
    (State.freeSeg s c g).mram.boot = s.mram.boot ∧ (State.freeSeg s c g).sys = s.sys ∧
    (State.freeSeg s c g).evt = s.evt ∧ (State.freeSeg s c g).ana = s.ana ∧ (State.freeSeg s c g).aux = s.aux ∧
    (State.freeSeg s c g).flt = s.flt ∧ (State.freeSeg s c g).tim = s.tim ∧ (State.freeSeg s c g).net = s.net ∧
    (State.freeSeg s c g).prt = s.prt ∧ (State.freeSeg s c g).trp = s.trp ∧ (State.freeSeg s c g).pod = s.pod ∧
    (State.freeSeg s c g).lgc = s.lgc ∧ (State.freeSeg s c g).gsv = s.gsv ∧ (State.freeSeg s c g).oz = s.oz ∧
    (State.freeSeg s c g).sec = s.sec ∧ (State.freeSeg s c g).cmd = s.cmd ∧ (State.freeSeg s c g).regs = s.regs := by
  have hf1 := @State.setRidx_frame
  have hf2 := @State.setSeg_frame
  unfold State.freeSeg
  (repeat' split) <;> simp [↓hf1, ↓hf2]

theorem State.closeRec_frame (s : State) (c : ℕ) (o : RecOpen) (late : Bool) (trunc : Bool) :
    (State.closeRec s c o late trunc).now = s.now ∧ (State.closeRec s c o late trunc).pending = s.pending ∧
    (State.closeRec s c o late trunc).regs0 = s.regs0 ∧ (State.closeRec s c o late trunc).freeCtr = s.freeCtr ∧
    (State.closeRec s c o late trunc).mode = s.mode ∧ (State.closeRec s c o late trunc).mram = s.mram ∧
    (State.closeRec s c o late trunc).sys = s.sys ∧ (State.closeRec s c o late trunc).evt = s.evt ∧
    (State.closeRec s c o late trunc).ana = s.ana ∧ (State.closeRec s c o late trunc).aux = s.aux ∧
    (State.closeRec s c o late trunc).flt = s.flt ∧ (State.closeRec s c o late trunc).tim = s.tim ∧
    (State.closeRec s c o late trunc).net = s.net ∧ (State.closeRec s c o late trunc).prt = s.prt ∧
    (State.closeRec s c o late trunc).trp = s.trp ∧ (State.closeRec s c o late trunc).pod = s.pod ∧
    (State.closeRec s c o late trunc).lgc = s.lgc ∧ (State.closeRec s c o late trunc).gsv = s.gsv ∧
    (State.closeRec s c o late trunc).oz = s.oz ∧ (State.closeRec s c o late trunc).sec = s.sec ∧
    (State.closeRec s c o late trunc).cmd = s.cmd ∧ (State.closeRec s c o late trunc).regs = s.regs := by
  have hf1 := @State.setSeg_frame
  simp [↓hf1, State.closeRec]

theorem State.afterRec_frame (s : State) (c : ℕ) (o : RecOpen) :
    (State.afterRec s c o).now = s.now ∧ (State.afterRec s c o).pending = s.pending ∧
    (State.afterRec s c o).regs0 = s.regs0 ∧ (State.afterRec s c o).freeCtr = s.freeCtr ∧
    (State.afterRec s c o).mode = s.mode ∧ (State.afterRec s c o).mram.keyCnt = s.mram.keyCnt ∧
    (State.afterRec s c o).mram.boot = s.mram.boot ∧ (State.afterRec s c o).sys = s.sys ∧
    (State.afterRec s c o).ana = s.ana ∧ (State.afterRec s c o).aux = s.aux ∧ (State.afterRec s c o).flt = s.flt ∧
    (State.afterRec s c o).tim = s.tim ∧ (State.afterRec s c o).net = s.net ∧ (State.afterRec s c o).prt = s.prt ∧
    (State.afterRec s c o).trp = s.trp ∧ (State.afterRec s c o).pod = s.pod ∧ (State.afterRec s c o).lgc = s.lgc ∧
    (State.afterRec s c o).gsv = s.gsv ∧ (State.afterRec s c o).oz = s.oz ∧ (State.afterRec s c o).sec = s.sec ∧
    (State.afterRec s c o).cmd = s.cmd := by
  have hfite := @State.ite_frame
  have hf1 := @State.recShow_frame
  have hf2 := @State.raise_frame
  have hf3 := @State.setFlag_frame
  have hf4 := @State.setCls_frame
  have hf5 := @State.freeSeg_frame
  simp [↓hfite, ↓hf1, ↓hf2, ↓hf3, ↓hf4, ↓hf5, State.afterRec]
  (repeat' split) <;> simp [↓hfite, ↓hf1, ↓hf2, ↓hf3, ↓hf4, ↓hf5]

theorem State.rowLost_frame (s : State) (c : ℕ) :
    (State.rowLost s c).now = s.now ∧ (State.rowLost s c).pending = s.pending ∧ (State.rowLost s c).regs0 = s.regs0 ∧
    (State.rowLost s c).freeCtr = s.freeCtr ∧ (State.rowLost s c).mode = s.mode ∧
    (State.rowLost s c).mram.keyCnt = s.mram.keyCnt ∧ (State.rowLost s c).mram.boot = s.mram.boot ∧
    (State.rowLost s c).sys = s.sys ∧ (State.rowLost s c).ana = s.ana ∧ (State.rowLost s c).aux = s.aux ∧
    (State.rowLost s c).flt = s.flt ∧ (State.rowLost s c).tim = s.tim ∧ (State.rowLost s c).net = s.net ∧
    (State.rowLost s c).prt = s.prt ∧ (State.rowLost s c).trp = s.trp ∧ (State.rowLost s c).pod = s.pod ∧
    (State.rowLost s c).lgc = s.lgc ∧ (State.rowLost s c).gsv = s.gsv ∧ (State.rowLost s c).oz = s.oz ∧
    (State.rowLost s c).sec = s.sec ∧ (State.rowLost s c).cmd = s.cmd := by
  have hf1 := @State.raise_frame
  have hf2 := @State.incSat_frame
  have hf3 := @State.setCls_frame
  simp [↓hf1, ↓hf2, ↓hf3, State.rowLost]

theorem State.ringRow_frame (s : State) (c : ℕ) (st : ℕ) (r : RecRow) (g : Option ℕ) :
    (State.ringRow s c st r g).now = s.now ∧ (State.ringRow s c st r g).pending = s.pending ∧
    (State.ringRow s c st r g).regs0 = s.regs0 ∧ (State.ringRow s c st r g).freeCtr = s.freeCtr ∧
    (State.ringRow s c st r g).mode = s.mode ∧ (State.ringRow s c st r g).mram = s.mram ∧
    (State.ringRow s c st r g).sys = s.sys ∧ (State.ringRow s c st r g).evt = s.evt ∧
    (State.ringRow s c st r g).ana = s.ana ∧ (State.ringRow s c st r g).aux = s.aux ∧
    (State.ringRow s c st r g).flt = s.flt ∧ (State.ringRow s c st r g).tim = s.tim ∧
    (State.ringRow s c st r g).net = s.net ∧ (State.ringRow s c st r g).prt = s.prt ∧
    (State.ringRow s c st r g).trp = s.trp ∧ (State.ringRow s c st r g).pod = s.pod ∧
    (State.ringRow s c st r g).lgc = s.lgc ∧ (State.ringRow s c st r g).gsv = s.gsv ∧
    (State.ringRow s c st r g).oz = s.oz ∧ (State.ringRow s c st r g).sec = s.sec ∧
    (State.ringRow s c st r g).cmd = s.cmd ∧ (State.ringRow s c st r g).regs = s.regs := by
  have hfite := @State.ite_frame
  have hf1 := @State.setSeg_frame
  unfold State.ringRow
  (repeat' split) <;> simp [↓hfite, ↓hf1]

theorem rowWriteEff_frame (c : ℕ) (st : ℕ) (fifoFull : Bool) (s : State) :
    (rowWriteEff c st fifoFull s).now = s.now ∧ (rowWriteEff c st fifoFull s).pending = s.pending ∧
    (rowWriteEff c st fifoFull s).regs0 = s.regs0 ∧ (rowWriteEff c st fifoFull s).freeCtr = s.freeCtr ∧
    (rowWriteEff c st fifoFull s).mode = s.mode ∧ (rowWriteEff c st fifoFull s).mram.keyCnt = s.mram.keyCnt ∧
    (rowWriteEff c st fifoFull s).mram.boot = s.mram.boot ∧ (rowWriteEff c st fifoFull s).sys = s.sys ∧
    (rowWriteEff c st fifoFull s).ana = s.ana ∧ (rowWriteEff c st fifoFull s).aux = s.aux ∧
    (rowWriteEff c st fifoFull s).flt = s.flt ∧ (rowWriteEff c st fifoFull s).tim = s.tim ∧
    (rowWriteEff c st fifoFull s).net = s.net ∧ (rowWriteEff c st fifoFull s).prt = s.prt ∧
    (rowWriteEff c st fifoFull s).trp = s.trp ∧ (rowWriteEff c st fifoFull s).pod = s.pod ∧
    (rowWriteEff c st fifoFull s).lgc = s.lgc ∧ (rowWriteEff c st fifoFull s).gsv = s.gsv ∧
    (rowWriteEff c st fifoFull s).oz = s.oz ∧ (rowWriteEff c st fifoFull s).sec = s.sec ∧
    (rowWriteEff c st fifoFull s).cmd = s.cmd := by
  have hfite := @State.ite_frame
  have hf1 := @State.rowLost_frame
  have hf2 := @State.ringRow_frame
  have hf3 := @State.setSeg_frame
  have hf4 := @State.afterRec_frame
  have hf5 := @State.closeRec_frame
  simp [↓hfite, ↓hf1, ↓hf2, ↓hf3, ↓hf4, ↓hf5, rowWriteEff]
  (repeat' split) <;> simp [↓hfite, ↓hf1, ↓hf2, ↓hf3, ↓hf4, ↓hf5]

theorem recordIndexCompleteEff_frame (c : ℕ) (s : State) :
    (recordIndexCompleteEff c s).now = s.now ∧ (recordIndexCompleteEff c s).pending = s.pending ∧
    (recordIndexCompleteEff c s).regs0 = s.regs0 ∧ (recordIndexCompleteEff c s).freeCtr = s.freeCtr ∧
    (recordIndexCompleteEff c s).mode = s.mode ∧ (recordIndexCompleteEff c s).mram.keyCnt = s.mram.keyCnt ∧
    (recordIndexCompleteEff c s).mram.boot = s.mram.boot ∧ (recordIndexCompleteEff c s).sys = s.sys ∧
    (recordIndexCompleteEff c s).ana = s.ana ∧ (recordIndexCompleteEff c s).aux = s.aux ∧
    (recordIndexCompleteEff c s).flt = s.flt ∧ (recordIndexCompleteEff c s).tim = s.tim ∧
    (recordIndexCompleteEff c s).net = s.net ∧ (recordIndexCompleteEff c s).prt = s.prt ∧
    (recordIndexCompleteEff c s).trp = s.trp ∧ (recordIndexCompleteEff c s).pod = s.pod ∧
    (recordIndexCompleteEff c s).lgc = s.lgc ∧ (recordIndexCompleteEff c s).gsv = s.gsv ∧
    (recordIndexCompleteEff c s).oz = s.oz ∧ (recordIndexCompleteEff c s).sec = s.sec ∧
    (recordIndexCompleteEff c s).cmd = s.cmd := by
  have hf1 := @State.raise_frame
  have hf2 := @State.setRidx_frame
  unfold recordIndexCompleteEff
  (repeat' split) <;> simp [↓hf1, ↓hf2]

theorem State.trigOuts_frame (s : State) (c : ℕ) (t : RecTrig) :
    (State.trigOuts s c t).now = s.now ∧ (State.trigOuts s c t).pending = s.pending ∧
    (State.trigOuts s c t).regs0 = s.regs0 ∧ (State.trigOuts s c t).freeCtr = s.freeCtr ∧
    (State.trigOuts s c t).mode = s.mode ∧ (State.trigOuts s c t).mram = s.mram ∧
    (State.trigOuts s c t).sys = s.sys ∧ (State.trigOuts s c t).evt = s.evt ∧ (State.trigOuts s c t).ana = s.ana ∧
    (State.trigOuts s c t).aux = s.aux ∧ (State.trigOuts s c t).flt = s.flt ∧ (State.trigOuts s c t).tim = s.tim ∧
    (State.trigOuts s c t).net = s.net ∧ (State.trigOuts s c t).prt = s.prt ∧ (State.trigOuts s c t).trp = s.trp ∧
    (State.trigOuts s c t).pod = s.pod ∧ (State.trigOuts s c t).lgc = s.lgc ∧ (State.trigOuts s c t).gsv = s.gsv ∧
    (State.trigOuts s c t).sec = s.sec ∧ (State.trigOuts s c t).cmd = s.cmd := by
  have hfite := @State.ite_frame
  have hf1 := @State.trigSend_frame
  simp [↓hfite, ↓hf1, State.trigOuts]

theorem State.primary_frame (s : State) (c : ℕ) (h : ℕ × RecTrig) (g : ℕ) :
    (State.primary s c h g).2.now = s.now ∧ (State.primary s c h g).2.pending = s.pending ∧
    (State.primary s c h g).2.regs0 = s.regs0 ∧ (State.primary s c h g).2.freeCtr = s.freeCtr ∧
    (State.primary s c h g).2.mode = s.mode ∧ (State.primary s c h g).2.mram.keyCnt = s.mram.keyCnt ∧
    (State.primary s c h g).2.mram.boot = s.mram.boot ∧ (State.primary s c h g).2.sys = s.sys ∧
    (State.primary s c h g).2.ana = s.ana ∧ (State.primary s c h g).2.aux = s.aux ∧
    (State.primary s c h g).2.flt = s.flt ∧ (State.primary s c h g).2.tim = s.tim ∧
    (State.primary s c h g).2.net = s.net ∧ (State.primary s c h g).2.prt = s.prt ∧
    (State.primary s c h g).2.trp = s.trp ∧ (State.primary s c h g).2.pod = s.pod ∧
    (State.primary s c h g).2.lgc = s.lgc ∧ (State.primary s c h g).2.gsv = s.gsv ∧
    (State.primary s c h g).2.sec = s.sec ∧ (State.primary s c h g).2.cmd = s.cmd := by
  have hf1 := @State.trigOuts_frame
  have hf2 := @State.recShow_frame
  have hf3 := @State.incWrap_frame
  have hf4 := @State.setCls_frame
  have hf5 := @State.setRidx_frame
  have hf6 := @State.armSeg_frame
  have hf7 := @State.takeSeg_frame
  simp [↓hf1, ↓hf2, ↓hf3, ↓hf4, ↓hf5, ↓hf6, ↓hf7, State.primary]
  (repeat' split) <;> simp [↓hf1, ↓hf2, ↓hf3, ↓hf4, ↓hf5, ↓hf6, ↓hf7]

theorem State.trigClass_frame (s : State) (c : ℕ) (ts : List RecTrig) :
    (State.trigClass s c ts).now = s.now ∧ (State.trigClass s c ts).pending = s.pending ∧
    (State.trigClass s c ts).regs0 = s.regs0 ∧ (State.trigClass s c ts).freeCtr = s.freeCtr ∧
    (State.trigClass s c ts).mode = s.mode ∧ (State.trigClass s c ts).mram.keyCnt = s.mram.keyCnt ∧
    (State.trigClass s c ts).mram.boot = s.mram.boot ∧ (State.trigClass s c ts).sys = s.sys ∧
    (State.trigClass s c ts).ana = s.ana ∧ (State.trigClass s c ts).aux = s.aux ∧
    (State.trigClass s c ts).flt = s.flt ∧ (State.trigClass s c ts).tim = s.tim ∧
    (State.trigClass s c ts).net = s.net ∧ (State.trigClass s c ts).prt = s.prt ∧
    (State.trigClass s c ts).trp = s.trp ∧ (State.trigClass s c ts).pod = s.pod ∧
    (State.trigClass s c ts).lgc = s.lgc ∧ (State.trigClass s c ts).gsv = s.gsv ∧
    (State.trigClass s c ts).sec = s.sec ∧ (State.trigClass s c ts).cmd = s.cmd := by
  have hfite := @State.ite_frame
  have hf1 := @State.setCls_frame
  have hf2 := @State.primary_frame
  have hf3 := @State.afterRec_frame
  have hf4 := @State.closeRec_frame
  have hf5 := @State.raise_frame
  have hf6 := @State.addSat_frame
  simp [↓hfite, ↓hf1, ↓hf2, ↓hf3, ↓hf4, ↓hf5, ↓hf6, State.trigClass]
  (repeat' split) <;> simp [↓hfite, ↓hf1, ↓hf2, ↓hf3, ↓hf4, ↓hf5, ↓hf6]

theorem State.trigCycle_frame (s : State) (ts : List RecTrig) :
    (State.trigCycle s ts).now = s.now ∧ (State.trigCycle s ts).pending = s.pending ∧
    (State.trigCycle s ts).regs0 = s.regs0 ∧ (State.trigCycle s ts).freeCtr = s.freeCtr ∧
    (State.trigCycle s ts).mode = s.mode ∧ (State.trigCycle s ts).mram.keyCnt = s.mram.keyCnt ∧
    (State.trigCycle s ts).mram.boot = s.mram.boot ∧ (State.trigCycle s ts).sys = s.sys ∧
    (State.trigCycle s ts).ana = s.ana ∧ (State.trigCycle s ts).aux = s.aux ∧ (State.trigCycle s ts).flt = s.flt ∧
    (State.trigCycle s ts).tim = s.tim ∧ (State.trigCycle s ts).net = s.net ∧ (State.trigCycle s ts).prt = s.prt ∧
    (State.trigCycle s ts).trp = s.trp ∧ (State.trigCycle s ts).pod = s.pod ∧ (State.trigCycle s ts).lgc = s.lgc ∧
    (State.trigCycle s ts).gsv = s.gsv ∧ (State.trigCycle s ts).sec = s.sec ∧ (State.trigCycle s ts).cmd = s.cmd := by
  have hf1 := @State.trigClass_frame
  simp [↓hf1, State.trigCycle]

theorem triggerArrivalEff_frame (n : ℕ) (s : State) :
    (triggerArrivalEff n s).now = s.now ∧ (triggerArrivalEff n s).pending = s.pending ∧
    (triggerArrivalEff n s).regs0 = s.regs0 ∧ (triggerArrivalEff n s).freeCtr = s.freeCtr ∧
    (triggerArrivalEff n s).mode = s.mode ∧ (triggerArrivalEff n s).mram.keyCnt = s.mram.keyCnt ∧
    (triggerArrivalEff n s).mram.boot = s.mram.boot ∧ (triggerArrivalEff n s).sys = s.sys ∧
    (triggerArrivalEff n s).ana = s.ana ∧ (triggerArrivalEff n s).aux = s.aux ∧ (triggerArrivalEff n s).flt = s.flt ∧
    (triggerArrivalEff n s).tim = s.tim ∧ (triggerArrivalEff n s).net = s.net ∧ (triggerArrivalEff n s).prt = s.prt ∧
    (triggerArrivalEff n s).trp = s.trp ∧ (triggerArrivalEff n s).pod = s.pod ∧ (triggerArrivalEff n s).lgc = s.lgc ∧
    (triggerArrivalEff n s).gsv = s.gsv ∧ (triggerArrivalEff n s).sec = s.sec ∧ (triggerArrivalEff n s).cmd = s.cmd := by
  have hf1 := @State.trigCycle_frame
  simp [↓hf1, triggerArrivalEff]

theorem trigOutPulseEndEff_frame (i : ℕ) (s : State) :
    (trigOutPulseEndEff i s).now = s.now ∧ (trigOutPulseEndEff i s).pending = s.pending ∧
    (trigOutPulseEndEff i s).regs0 = s.regs0 ∧ (trigOutPulseEndEff i s).freeCtr = s.freeCtr ∧
    (trigOutPulseEndEff i s).mode = s.mode ∧ (trigOutPulseEndEff i s).mram = s.mram ∧
    (trigOutPulseEndEff i s).sys = s.sys ∧ (trigOutPulseEndEff i s).evt = s.evt ∧
    (trigOutPulseEndEff i s).ana = s.ana ∧ (trigOutPulseEndEff i s).aux = s.aux ∧
    (trigOutPulseEndEff i s).flt = s.flt ∧ (trigOutPulseEndEff i s).tim = s.tim ∧
    (trigOutPulseEndEff i s).net = s.net ∧ (trigOutPulseEndEff i s).prt = s.prt ∧
    (trigOutPulseEndEff i s).trp = s.trp ∧ (trigOutPulseEndEff i s).pod = s.pod ∧
    (trigOutPulseEndEff i s).lgc = s.lgc ∧ (trigOutPulseEndEff i s).gsv = s.gsv ∧
    (trigOutPulseEndEff i s).oz = s.oz ∧ (trigOutPulseEndEff i s).sec = s.sec ∧
    (trigOutPulseEndEff i s).cmd = s.cmd ∧ (trigOutPulseEndEff i s).regs = s.regs := by
  unfold trigOutPulseEndEff
  (repeat' split) <;> simp

theorem State.offer_frame (s : State) (t : RecTrig) :
    (State.offer s t).now = s.now ∧ (State.offer s t).pending = s.pending ∧ (State.offer s t).regs0 = s.regs0 ∧
    (State.offer s t).freeCtr = s.freeCtr ∧ (State.offer s t).mode = s.mode ∧ (State.offer s t).mram = s.mram ∧
    (State.offer s t).sys = s.sys ∧ (State.offer s t).evt = s.evt ∧ (State.offer s t).ana = s.ana ∧
    (State.offer s t).aux = s.aux ∧ (State.offer s t).flt = s.flt ∧ (State.offer s t).tim = s.tim ∧
    (State.offer s t).net = s.net ∧ (State.offer s t).prt = s.prt ∧ (State.offer s t).trp = s.trp ∧
    (State.offer s t).pod = s.pod ∧ (State.offer s t).lgc = s.lgc ∧ (State.offer s t).gsv = s.gsv ∧
    (State.offer s t).oz = s.oz ∧ (State.offer s t).sec = s.sec ∧ (State.offer s t).cmd = s.cmd ∧
    (State.offer s t).regs = s.regs := by
  simp [State.offer]

theorem trigInEdgeEff_frame (i : ℕ) (rising : Bool) (s : State) :
    (trigInEdgeEff i rising s).now = s.now ∧ (trigInEdgeEff i rising s).pending = s.pending ∧
    (trigInEdgeEff i rising s).regs0 = s.regs0 ∧ (trigInEdgeEff i rising s).freeCtr = s.freeCtr ∧
    (trigInEdgeEff i rising s).mode = s.mode ∧ (trigInEdgeEff i rising s).mram = s.mram ∧
    (trigInEdgeEff i rising s).sys = s.sys ∧ (trigInEdgeEff i rising s).evt = s.evt ∧
    (trigInEdgeEff i rising s).ana = s.ana ∧ (trigInEdgeEff i rising s).aux = s.aux ∧
    (trigInEdgeEff i rising s).flt = s.flt ∧ (trigInEdgeEff i rising s).tim = s.tim ∧
    (trigInEdgeEff i rising s).net = s.net ∧ (trigInEdgeEff i rising s).prt = s.prt ∧
    (trigInEdgeEff i rising s).trp = s.trp ∧ (trigInEdgeEff i rising s).pod = s.pod ∧
    (trigInEdgeEff i rising s).lgc = s.lgc ∧ (trigInEdgeEff i rising s).gsv = s.gsv ∧
    (trigInEdgeEff i rising s).oz = s.oz ∧ (trigInEdgeEff i rising s).sec = s.sec ∧
    (trigInEdgeEff i rising s).cmd = s.cmd ∧ (trigInEdgeEff i rising s).regs = s.regs := by
  have hfite := @State.ite_frame
  have hf1 := @State.offer_frame
  simp [↓hfite, ↓hf1, trigInEdgeEff]

theorem State.offerEdges_frame (s0 : State) (s : State) :
    (State.offerEdges s0 s).now = s.now ∧ (State.offerEdges s0 s).pending = s.pending ∧
    (State.offerEdges s0 s).regs0 = s.regs0 ∧ (State.offerEdges s0 s).freeCtr = s.freeCtr ∧
    (State.offerEdges s0 s).mode = s.mode ∧ (State.offerEdges s0 s).mram = s.mram ∧
    (State.offerEdges s0 s).sys = s.sys ∧ (State.offerEdges s0 s).evt = s.evt ∧ (State.offerEdges s0 s).ana = s.ana ∧
    (State.offerEdges s0 s).aux = s.aux ∧ (State.offerEdges s0 s).flt = s.flt ∧ (State.offerEdges s0 s).tim = s.tim ∧
    (State.offerEdges s0 s).net = s.net ∧ (State.offerEdges s0 s).prt = s.prt ∧ (State.offerEdges s0 s).trp = s.trp ∧
    (State.offerEdges s0 s).pod = s.pod ∧ (State.offerEdges s0 s).lgc = s.lgc ∧ (State.offerEdges s0 s).gsv = s.gsv ∧
    (State.offerEdges s0 s).oz = s.oz ∧ (State.offerEdges s0 s).sec = s.sec ∧ (State.offerEdges s0 s).cmd = s.cmd ∧
    (State.offerEdges s0 s).regs = s.regs := by
  have hfite := @State.ite_frame
  have hf1 := @State.offer_frame
  simp [↓hfite, ↓hf1, State.offerEdges]

theorem State.maskStep_frame (s : State) (c : ℕ) (k : ℕ) (x : Sample) (ref : Sample) (tau : ℤ) :
    (State.maskStep s c k x ref tau).now = s.now ∧ (State.maskStep s c k x ref tau).pending = s.pending ∧
    (State.maskStep s c k x ref tau).regs0 = s.regs0 ∧ (State.maskStep s c k x ref tau).freeCtr = s.freeCtr ∧
    (State.maskStep s c k x ref tau).mode = s.mode ∧ (State.maskStep s c k x ref tau).mram = s.mram ∧
    (State.maskStep s c k x ref tau).sys = s.sys ∧ (State.maskStep s c k x ref tau).evt = s.evt ∧
    (State.maskStep s c k x ref tau).ana = s.ana ∧ (State.maskStep s c k x ref tau).aux = s.aux ∧
    (State.maskStep s c k x ref tau).flt = s.flt ∧ (State.maskStep s c k x ref tau).tim = s.tim ∧
    (State.maskStep s c k x ref tau).net = s.net ∧ (State.maskStep s c k x ref tau).prt = s.prt ∧
    (State.maskStep s c k x ref tau).trp = s.trp ∧ (State.maskStep s c k x ref tau).pod = s.pod ∧
    (State.maskStep s c k x ref tau).lgc = s.lgc ∧ (State.maskStep s c k x ref tau).gsv = s.gsv ∧
    (State.maskStep s c k x ref tau).oz = s.oz ∧ (State.maskStep s c k x ref tau).sec = s.sec ∧
    (State.maskStep s c k x ref tau).cmd = s.cmd ∧ (State.maskStep s c k x ref tau).regs = s.regs := by
  have hfite := @State.ite_frame
  have hf1 := @State.setCls_frame
  simp [↓hfite, ↓hf1, State.maskStep]

theorem State.maskNew_frame (s : State) (k : ℕ) (t : State) :
    (State.maskNew s k t).now = t.now ∧ (State.maskNew s k t).pending = t.pending ∧
    (State.maskNew s k t).regs0 = t.regs0 ∧ (State.maskNew s k t).freeCtr = t.freeCtr ∧
    (State.maskNew s k t).mode = t.mode ∧ (State.maskNew s k t).mram = t.mram ∧ (State.maskNew s k t).sys = t.sys ∧
    (State.maskNew s k t).evt = t.evt ∧ (State.maskNew s k t).ana = t.ana ∧ (State.maskNew s k t).aux = t.aux ∧
    (State.maskNew s k t).flt = t.flt ∧ (State.maskNew s k t).tim = t.tim ∧ (State.maskNew s k t).net = t.net ∧
    (State.maskNew s k t).prt = t.prt ∧ (State.maskNew s k t).trp = t.trp ∧ (State.maskNew s k t).pod = t.pod ∧
    (State.maskNew s k t).lgc = t.lgc ∧ (State.maskNew s k t).gsv = t.gsv ∧ (State.maskNew s k t).oz = t.oz ∧
    (State.maskNew s k t).sec = t.sec ∧ (State.maskNew s k t).cmd = t.cmd ∧ (State.maskNew s k t).regs = t.regs := by
  have hfite := @State.ite_frame
  have hf1 := @State.maskStep_frame
  simp [↓hfite, ↓hf1, State.maskNew]

theorem trackedMaskEff_frame (k : ℕ) (up : Upset) (s : State) :
    (trackedMaskEff k up s).now = s.now ∧ (trackedMaskEff k up s).pending = s.pending ∧
    (trackedMaskEff k up s).regs0 = s.regs0 ∧ (trackedMaskEff k up s).freeCtr = s.freeCtr ∧
    (trackedMaskEff k up s).mode = s.mode ∧ (trackedMaskEff k up s).mram.keyCnt = s.mram.keyCnt ∧
    (trackedMaskEff k up s).mram.boot = s.mram.boot ∧ (trackedMaskEff k up s).sys = s.sys ∧
    (trackedMaskEff k up s).ana = s.ana ∧ (trackedMaskEff k up s).aux = s.aux ∧ (trackedMaskEff k up s).tim = s.tim ∧
    (trackedMaskEff k up s).net = s.net ∧ (trackedMaskEff k up s).prt = s.prt ∧ (trackedMaskEff k up s).trp = s.trp ∧
    (trackedMaskEff k up s).pod = s.pod ∧ (trackedMaskEff k up s).lgc = s.lgc ∧ (trackedMaskEff k up s).gsv = s.gsv ∧
    (trackedMaskEff k up s).oz = s.oz ∧ (trackedMaskEff k up s).sec = s.sec ∧ (trackedMaskEff k up s).cmd = s.cmd := by
  have hfite := @State.ite_frame
  have hf1 := @trackedSampleEff_frame
  have hf2 := @State.maskNew_frame
  simp [↓hfite, ↓hf1, ↓hf2, trackedMaskEff]

theorem recomputeMaskEff_frame (g : ℕ) (st : ℕ) (c : ℕ) (r1 : ℤ) (r2 : ℤ) (s : State) :
    (recomputeMaskEff g st c r1 r2 s).now = s.now ∧ (recomputeMaskEff g st c r1 r2 s).pending = s.pending ∧
    (recomputeMaskEff g st c r1 r2 s).regs0 = s.regs0 ∧ (recomputeMaskEff g st c r1 r2 s).freeCtr = s.freeCtr ∧
    (recomputeMaskEff g st c r1 r2 s).mode = s.mode ∧ (recomputeMaskEff g st c r1 r2 s).mram.keyCnt = s.mram.keyCnt ∧
    (recomputeMaskEff g st c r1 r2 s).mram.boot = s.mram.boot ∧ (recomputeMaskEff g st c r1 r2 s).sys = s.sys ∧
    (recomputeMaskEff g st c r1 r2 s).ana = s.ana ∧ (recomputeMaskEff g st c r1 r2 s).aux = s.aux ∧
    (recomputeMaskEff g st c r1 r2 s).tim = s.tim ∧ (recomputeMaskEff g st c r1 r2 s).prt = s.prt ∧
    (recomputeMaskEff g st c r1 r2 s).trp = s.trp ∧ (recomputeMaskEff g st c r1 r2 s).pod = s.pod ∧
    (recomputeMaskEff g st c r1 r2 s).lgc = s.lgc ∧ (recomputeMaskEff g st c r1 r2 s).oz = s.oz ∧
    (recomputeMaskEff g st c r1 r2 s).sec = s.sec ∧ (recomputeMaskEff g st c r1 r2 s).cmd = s.cmd := by
  have hfite := @State.ite_frame
  have hf1 := @recomputePublishEff_frame
  have hf2 := @State.maskNew_frame
  simp [↓hfite, ↓hf1, ↓hf2, recomputeMaskEff]

theorem maskViolationEff_frame (c : ℕ) (k : ℕ) (s : State) :
    (maskViolationEff c k s).now = s.now ∧ (maskViolationEff c k s).pending = s.pending ∧
    (maskViolationEff c k s).regs0 = s.regs0 ∧ (maskViolationEff c k s).freeCtr = s.freeCtr ∧
    (maskViolationEff c k s).mode = s.mode ∧ (maskViolationEff c k s).mram = s.mram ∧
    (maskViolationEff c k s).sys = s.sys ∧ (maskViolationEff c k s).evt = s.evt ∧
    (maskViolationEff c k s).ana = s.ana ∧ (maskViolationEff c k s).aux = s.aux ∧
    (maskViolationEff c k s).flt = s.flt ∧ (maskViolationEff c k s).tim = s.tim ∧
    (maskViolationEff c k s).net = s.net ∧ (maskViolationEff c k s).prt = s.prt ∧
    (maskViolationEff c k s).trp = s.trp ∧ (maskViolationEff c k s).pod = s.pod ∧
    (maskViolationEff c k s).lgc = s.lgc ∧ (maskViolationEff c k s).gsv = s.gsv ∧
    (maskViolationEff c k s).oz = s.oz ∧ (maskViolationEff c k s).sec = s.sec ∧
    (maskViolationEff c k s).cmd = s.cmd ∧ (maskViolationEff c k s).regs = s.regs := by
  have hfite := @State.ite_frame
  have hf1 := @State.offer_frame
  have hf2 := @State.setCls_frame
  simp [↓hfite, ↓hf1, ↓hf2, maskViolationEff]

theorem State.recArm_frame (c : ℕ) (s : State) :
    (State.recArm c s).2.now = s.now ∧ (State.recArm c s).2.pending = s.pending ∧
    (State.recArm c s).2.regs0 = s.regs0 ∧ (State.recArm c s).2.freeCtr = s.freeCtr ∧
    (State.recArm c s).2.mode = s.mode ∧ (State.recArm c s).2.mram.keyCnt = s.mram.keyCnt ∧
    (State.recArm c s).2.mram.boot = s.mram.boot ∧ (State.recArm c s).2.sys = s.sys ∧
    (State.recArm c s).2.ana = s.ana ∧ (State.recArm c s).2.aux = s.aux ∧ (State.recArm c s).2.flt = s.flt ∧
    (State.recArm c s).2.tim = s.tim ∧ (State.recArm c s).2.net = s.net ∧ (State.recArm c s).2.prt = s.prt ∧
    (State.recArm c s).2.trp = s.trp ∧ (State.recArm c s).2.pod = s.pod ∧ (State.recArm c s).2.lgc = s.lgc ∧
    (State.recArm c s).2.gsv = s.gsv ∧ (State.recArm c s).2.oz = s.oz ∧ (State.recArm c s).2.sec = s.sec ∧
    (State.recArm c s).2.cmd = s.cmd := by
  have hf1 := @State.setFlag_frame
  have hf2 := @State.recShow_frame
  have hf3 := @State.setCls_frame
  have hf4 := @State.armSeg_frame
  have hf5 := @State.takeSeg_frame
  simp [↓hf1, ↓hf2, ↓hf3, ↓hf4, ↓hf5, State.recArm]
  (repeat' split) <;> simp [↓hf1, ↓hf2, ↓hf3, ↓hf4, ↓hf5]

theorem State.recDisarm_frame (c : ℕ) (s : State) :
    (State.recDisarm c s).2.now = s.now ∧ (State.recDisarm c s).2.pending = s.pending ∧
    (State.recDisarm c s).2.regs0 = s.regs0 ∧ (State.recDisarm c s).2.freeCtr = s.freeCtr ∧
    (State.recDisarm c s).2.mode = s.mode ∧ (State.recDisarm c s).2.mram.keyCnt = s.mram.keyCnt ∧
    (State.recDisarm c s).2.mram.boot = s.mram.boot ∧ (State.recDisarm c s).2.sys = s.sys ∧
    (State.recDisarm c s).2.evt = s.evt ∧ (State.recDisarm c s).2.ana = s.ana ∧ (State.recDisarm c s).2.aux = s.aux ∧
    (State.recDisarm c s).2.flt = s.flt ∧ (State.recDisarm c s).2.tim = s.tim ∧ (State.recDisarm c s).2.net = s.net ∧
    (State.recDisarm c s).2.prt = s.prt ∧ (State.recDisarm c s).2.trp = s.trp ∧ (State.recDisarm c s).2.pod = s.pod ∧
    (State.recDisarm c s).2.lgc = s.lgc ∧ (State.recDisarm c s).2.gsv = s.gsv ∧ (State.recDisarm c s).2.oz = s.oz ∧
    (State.recDisarm c s).2.sec = s.sec ∧ (State.recDisarm c s).2.cmd = s.cmd := by
  have hf1 := @State.recShow_frame
  have hf2 := @State.setCls_frame
  have hf3 := @State.freeSeg_frame
  unfold State.recDisarm
  (repeat' split) <;> simp [↓hf1, ↓hf2, ↓hf3]

theorem State.recApply_frame (c : ℕ) (s : State) :
    (State.recApply c s).2.now = s.now ∧ (State.recApply c s).2.pending = s.pending ∧
    (State.recApply c s).2.regs0 = s.regs0 ∧ (State.recApply c s).2.freeCtr = s.freeCtr ∧
    (State.recApply c s).2.mode = s.mode ∧ (State.recApply c s).2.mram = s.mram ∧
    (State.recApply c s).2.sys = s.sys ∧ (State.recApply c s).2.evt = s.evt ∧ (State.recApply c s).2.ana = s.ana ∧
    (State.recApply c s).2.aux = s.aux ∧ (State.recApply c s).2.flt = s.flt ∧ (State.recApply c s).2.tim = s.tim ∧
    (State.recApply c s).2.net = s.net ∧ (State.recApply c s).2.prt = s.prt ∧ (State.recApply c s).2.trp = s.trp ∧
    (State.recApply c s).2.pod = s.pod ∧ (State.recApply c s).2.lgc = s.lgc ∧ (State.recApply c s).2.gsv = s.gsv ∧
    (State.recApply c s).2.oz = s.oz ∧ (State.recApply c s).2.sec = s.sec ∧ (State.recApply c s).2.cmd = s.cmd := by
  have hf1 := @State.setCls_frame
  have hf2 := @State.setF_frame
  simp [↓hf1, ↓hf2, State.recApply]
  (repeat' split) <;> simp [↓hf1, ↓hf2]

theorem State.recTrig_frame (c : ℕ) (s : State) :
    (State.recTrig c s).2.now = s.now ∧ (State.recTrig c s).2.pending = s.pending ∧
    (State.recTrig c s).2.regs0 = s.regs0 ∧ (State.recTrig c s).2.freeCtr = s.freeCtr ∧
    (State.recTrig c s).2.mode = s.mode ∧ (State.recTrig c s).2.mram.keyCnt = s.mram.keyCnt ∧
    (State.recTrig c s).2.mram.boot = s.mram.boot ∧ (State.recTrig c s).2.sys = s.sys ∧
    (State.recTrig c s).2.ana = s.ana ∧ (State.recTrig c s).2.aux = s.aux ∧ (State.recTrig c s).2.flt = s.flt ∧
    (State.recTrig c s).2.tim = s.tim ∧ (State.recTrig c s).2.net = s.net ∧ (State.recTrig c s).2.prt = s.prt ∧
    (State.recTrig c s).2.trp = s.trp ∧ (State.recTrig c s).2.pod = s.pod ∧ (State.recTrig c s).2.lgc = s.lgc ∧
    (State.recTrig c s).2.gsv = s.gsv ∧ (State.recTrig c s).2.sec = s.sec ∧ (State.recTrig c s).2.cmd = s.cmd := by
  have hf1 := @State.trigClass_frame
  unfold State.recTrig
  (repeat' split) <;> simp [↓hf1]

theorem State.recCctlW_frame (c : ℕ) (v : ℕ) (s : State) :
    (State.recCctlW c v s).2.now = s.now ∧ (State.recCctlW c v s).2.pending = s.pending ∧
    (State.recCctlW c v s).2.regs0 = s.regs0 ∧ (State.recCctlW c v s).2.freeCtr = s.freeCtr ∧
    (State.recCctlW c v s).2.mode = s.mode ∧ (State.recCctlW c v s).2.mram.keyCnt = s.mram.keyCnt ∧
    (State.recCctlW c v s).2.mram.boot = s.mram.boot ∧ (State.recCctlW c v s).2.sys = s.sys ∧
    (State.recCctlW c v s).2.ana = s.ana ∧ (State.recCctlW c v s).2.aux = s.aux ∧
    (State.recCctlW c v s).2.flt = s.flt ∧ (State.recCctlW c v s).2.tim = s.tim ∧
    (State.recCctlW c v s).2.net = s.net ∧ (State.recCctlW c v s).2.prt = s.prt ∧
    (State.recCctlW c v s).2.trp = s.trp ∧ (State.recCctlW c v s).2.pod = s.pod ∧
    (State.recCctlW c v s).2.lgc = s.lgc ∧ (State.recCctlW c v s).2.gsv = s.gsv ∧
    (State.recCctlW c v s).2.sec = s.sec ∧ (State.recCctlW c v s).2.cmd = s.cmd := by
  have hf1 := @State.recApply_frame
  have hf2 := @State.recDisarm_frame
  have hf3 := @State.recArm_frame
  have hf4 := @State.recTrig_frame
  simp [↓hf1, ↓hf2, ↓hf3, ↓hf4, State.recCctlW]
  (repeat' split) <;> simp [↓hf1, ↓hf2, ↓hf3, ↓hf4]

theorem State.cctlWrite_frame (s : State) (r : Requester) (c : ℕ) (v : ℕ) :
    (State.cctlWrite s r c v).2.now = s.now ∧ (State.cctlWrite s r c v).2.pending = s.pending ∧
    (State.cctlWrite s r c v).2.regs0 = s.regs0 ∧ (State.cctlWrite s r c v).2.freeCtr = s.freeCtr ∧
    (State.cctlWrite s r c v).2.mode = s.mode ∧ (State.cctlWrite s r c v).2.mram.keyCnt = s.mram.keyCnt ∧
    (State.cctlWrite s r c v).2.mram.boot = s.mram.boot ∧ (State.cctlWrite s r c v).2.sys = s.sys ∧
    (State.cctlWrite s r c v).2.ana = s.ana ∧ (State.cctlWrite s r c v).2.aux = s.aux ∧
    (State.cctlWrite s r c v).2.flt = s.flt ∧ (State.cctlWrite s r c v).2.tim = s.tim ∧
    (State.cctlWrite s r c v).2.net = s.net ∧ (State.cctlWrite s r c v).2.prt = s.prt ∧
    (State.cctlWrite s r c v).2.trp = s.trp ∧ (State.cctlWrite s r c v).2.pod = s.pod ∧
    (State.cctlWrite s r c v).2.lgc = s.lgc ∧ (State.cctlWrite s r c v).2.gsv = s.gsv ∧
    (State.cctlWrite s r c v).2.sec = s.sec ∧ (State.cctlWrite s r c v).2.cmd = s.cmd := by
  have hf1 := @State.recCctlW_frame
  have hf2 := @State.setF_frame
  simp [↓hf1, ↓hf2, State.cctlWrite]
  (repeat' split) <;> simp [↓hf1, ↓hf2]

theorem recCctlArmEff_frame (r : Requester) (c : ℕ) (s : State) :
    (recCctlArmEff r c s).now = s.now ∧ (recCctlArmEff r c s).pending = s.pending ∧
    (recCctlArmEff r c s).regs0 = s.regs0 ∧ (recCctlArmEff r c s).freeCtr = s.freeCtr ∧
    (recCctlArmEff r c s).mode = s.mode ∧ (recCctlArmEff r c s).mram.keyCnt = s.mram.keyCnt ∧
    (recCctlArmEff r c s).mram.boot = s.mram.boot ∧ (recCctlArmEff r c s).sys = s.sys ∧
    (recCctlArmEff r c s).ana = s.ana ∧ (recCctlArmEff r c s).aux = s.aux ∧ (recCctlArmEff r c s).flt = s.flt ∧
    (recCctlArmEff r c s).tim = s.tim ∧ (recCctlArmEff r c s).net = s.net ∧ (recCctlArmEff r c s).prt = s.prt ∧
    (recCctlArmEff r c s).trp = s.trp ∧ (recCctlArmEff r c s).pod = s.pod ∧ (recCctlArmEff r c s).lgc = s.lgc ∧
    (recCctlArmEff r c s).gsv = s.gsv ∧ (recCctlArmEff r c s).sec = s.sec ∧ (recCctlArmEff r c s).cmd = s.cmd := by
  have hf1 := @State.cctlWrite_frame
  simp [↓hf1, recCctlArmEff]

theorem recCctlDisarmEff_frame (r : Requester) (c : ℕ) (s : State) :
    (recCctlDisarmEff r c s).now = s.now ∧ (recCctlDisarmEff r c s).pending = s.pending ∧
    (recCctlDisarmEff r c s).regs0 = s.regs0 ∧ (recCctlDisarmEff r c s).freeCtr = s.freeCtr ∧
    (recCctlDisarmEff r c s).mode = s.mode ∧ (recCctlDisarmEff r c s).mram.keyCnt = s.mram.keyCnt ∧
    (recCctlDisarmEff r c s).mram.boot = s.mram.boot ∧ (recCctlDisarmEff r c s).sys = s.sys ∧
    (recCctlDisarmEff r c s).ana = s.ana ∧ (recCctlDisarmEff r c s).aux = s.aux ∧
    (recCctlDisarmEff r c s).flt = s.flt ∧ (recCctlDisarmEff r c s).tim = s.tim ∧
    (recCctlDisarmEff r c s).net = s.net ∧ (recCctlDisarmEff r c s).prt = s.prt ∧
    (recCctlDisarmEff r c s).trp = s.trp ∧ (recCctlDisarmEff r c s).pod = s.pod ∧
    (recCctlDisarmEff r c s).lgc = s.lgc ∧ (recCctlDisarmEff r c s).gsv = s.gsv ∧
    (recCctlDisarmEff r c s).sec = s.sec ∧ (recCctlDisarmEff r c s).cmd = s.cmd := by
  have hf1 := @State.cctlWrite_frame
  simp [↓hf1, recCctlDisarmEff]

theorem recCctlApplyEff_frame (r : Requester) (c : ℕ) (s : State) :
    (recCctlApplyEff r c s).now = s.now ∧ (recCctlApplyEff r c s).pending = s.pending ∧
    (recCctlApplyEff r c s).regs0 = s.regs0 ∧ (recCctlApplyEff r c s).freeCtr = s.freeCtr ∧
    (recCctlApplyEff r c s).mode = s.mode ∧ (recCctlApplyEff r c s).mram.keyCnt = s.mram.keyCnt ∧
    (recCctlApplyEff r c s).mram.boot = s.mram.boot ∧ (recCctlApplyEff r c s).sys = s.sys ∧
    (recCctlApplyEff r c s).ana = s.ana ∧ (recCctlApplyEff r c s).aux = s.aux ∧ (recCctlApplyEff r c s).flt = s.flt ∧
    (recCctlApplyEff r c s).tim = s.tim ∧ (recCctlApplyEff r c s).net = s.net ∧ (recCctlApplyEff r c s).prt = s.prt ∧
    (recCctlApplyEff r c s).trp = s.trp ∧ (recCctlApplyEff r c s).pod = s.pod ∧ (recCctlApplyEff r c s).lgc = s.lgc ∧
    (recCctlApplyEff r c s).gsv = s.gsv ∧ (recCctlApplyEff r c s).sec = s.sec ∧ (recCctlApplyEff r c s).cmd = s.cmd := by
  have hf1 := @State.cctlWrite_frame
  simp [↓hf1, recCctlApplyEff]

theorem recCctlTrigEff_frame (r : Requester) (c : ℕ) (s : State) :
    (recCctlTrigEff r c s).now = s.now ∧ (recCctlTrigEff r c s).pending = s.pending ∧
    (recCctlTrigEff r c s).regs0 = s.regs0 ∧ (recCctlTrigEff r c s).freeCtr = s.freeCtr ∧
    (recCctlTrigEff r c s).mode = s.mode ∧ (recCctlTrigEff r c s).mram.keyCnt = s.mram.keyCnt ∧
    (recCctlTrigEff r c s).mram.boot = s.mram.boot ∧ (recCctlTrigEff r c s).sys = s.sys ∧
    (recCctlTrigEff r c s).ana = s.ana ∧ (recCctlTrigEff r c s).aux = s.aux ∧ (recCctlTrigEff r c s).flt = s.flt ∧
    (recCctlTrigEff r c s).tim = s.tim ∧ (recCctlTrigEff r c s).net = s.net ∧ (recCctlTrigEff r c s).prt = s.prt ∧
    (recCctlTrigEff r c s).trp = s.trp ∧ (recCctlTrigEff r c s).pod = s.pod ∧ (recCctlTrigEff r c s).lgc = s.lgc ∧
    (recCctlTrigEff r c s).gsv = s.gsv ∧ (recCctlTrigEff r c s).sec = s.sec ∧ (recCctlTrigEff r c s).cmd = s.cmd := by
  have hf1 := @State.cctlWrite_frame
  simp [↓hf1, recCctlTrigEff]

theorem State.recAutoArm_frame (s : State) :
    (State.recAutoArm s).now = s.now ∧ (State.recAutoArm s).pending = s.pending ∧
    (State.recAutoArm s).regs0 = s.regs0 ∧ (State.recAutoArm s).freeCtr = s.freeCtr ∧
    (State.recAutoArm s).mode = s.mode ∧ (State.recAutoArm s).mram.keyCnt = s.mram.keyCnt ∧
    (State.recAutoArm s).mram.boot = s.mram.boot ∧ (State.recAutoArm s).sys = s.sys ∧
    (State.recAutoArm s).ana = s.ana ∧ (State.recAutoArm s).aux = s.aux ∧ (State.recAutoArm s).flt = s.flt ∧
    (State.recAutoArm s).tim = s.tim ∧ (State.recAutoArm s).net = s.net ∧ (State.recAutoArm s).prt = s.prt ∧
    (State.recAutoArm s).trp = s.trp ∧ (State.recAutoArm s).pod = s.pod ∧ (State.recAutoArm s).lgc = s.lgc ∧
    (State.recAutoArm s).gsv = s.gsv ∧ (State.recAutoArm s).oz = s.oz ∧ (State.recAutoArm s).sec = s.sec ∧
    (State.recAutoArm s).cmd = s.cmd := by
  have hfite := @State.ite_frame
  have hf1 := @State.recArm_frame
  simp [↓hfite, ↓hf1, State.recAutoArm]

theorem State.recSafeCls_frame (s : State) (c : ℕ) :
    (State.recSafeCls s c).now = s.now ∧ (State.recSafeCls s c).pending = s.pending ∧
    (State.recSafeCls s c).regs0 = s.regs0 ∧ (State.recSafeCls s c).freeCtr = s.freeCtr ∧
    (State.recSafeCls s c).mode = s.mode ∧ (State.recSafeCls s c).mram.keyCnt = s.mram.keyCnt ∧
    (State.recSafeCls s c).mram.boot = s.mram.boot ∧ (State.recSafeCls s c).sys = s.sys ∧
    (State.recSafeCls s c).evt = s.evt ∧ (State.recSafeCls s c).ana = s.ana ∧ (State.recSafeCls s c).aux = s.aux ∧
    (State.recSafeCls s c).flt = s.flt ∧ (State.recSafeCls s c).tim = s.tim ∧ (State.recSafeCls s c).net = s.net ∧
    (State.recSafeCls s c).prt = s.prt ∧ (State.recSafeCls s c).trp = s.trp ∧ (State.recSafeCls s c).pod = s.pod ∧
    (State.recSafeCls s c).lgc = s.lgc ∧ (State.recSafeCls s c).gsv = s.gsv ∧ (State.recSafeCls s c).oz = s.oz ∧
    (State.recSafeCls s c).sec = s.sec ∧ (State.recSafeCls s c).cmd = s.cmd := by
  have hfite := @State.ite_frame
  have hf1 := @State.recShow_frame
  have hf2 := @State.setCls_frame
  have hf3 := @State.freeSeg_frame
  have hf4 := @State.closeRec_frame
  simp [↓hfite, ↓hf1, ↓hf2, ↓hf3, ↓hf4, State.recSafeCls]
  (repeat' split) <;> simp [↓hfite, ↓hf1, ↓hf2, ↓hf3, ↓hf4]

theorem State.recSafe_frame (s : State) :
    (State.recSafe s).now = s.now ∧ (State.recSafe s).pending = s.pending ∧ (State.recSafe s).regs0 = s.regs0 ∧
    (State.recSafe s).freeCtr = s.freeCtr ∧ (State.recSafe s).mode = s.mode ∧
    (State.recSafe s).mram.keyCnt = s.mram.keyCnt ∧ (State.recSafe s).mram.boot = s.mram.boot ∧
    (State.recSafe s).sys = s.sys ∧ (State.recSafe s).ana = s.ana ∧ (State.recSafe s).aux = s.aux ∧
    (State.recSafe s).flt = s.flt ∧ (State.recSafe s).tim = s.tim ∧ (State.recSafe s).net = s.net ∧
    (State.recSafe s).prt = s.prt ∧ (State.recSafe s).trp = s.trp ∧ (State.recSafe s).pod = s.pod ∧
    (State.recSafe s).lgc = s.lgc ∧ (State.recSafe s).gsv = s.gsv ∧ (State.recSafe s).oz = s.oz ∧
    (State.recSafe s).sec = s.sec ∧ (State.recSafe s).cmd = s.cmd := by
  have hf1 := @recordIndexCompleteEff_frame
  have hf2 := @State.recSafeCls_frame
  simp [↓hf1, ↓hf2, State.recSafe]

theorem State.recStart_frame (s : State) :
    (State.recStart s).now = s.now ∧ (State.recStart s).pending = s.pending ∧ (State.recStart s).regs0 = s.regs0 ∧
    (State.recStart s).freeCtr = s.freeCtr ∧ (State.recStart s).mode = s.mode ∧
    (State.recStart s).mram.keyCnt = s.mram.keyCnt ∧ (State.recStart s).mram.boot = s.mram.boot ∧
    (State.recStart s).sys = s.sys ∧ (State.recStart s).evt = s.evt ∧ (State.recStart s).ana = s.ana ∧
    (State.recStart s).aux = s.aux ∧ (State.recStart s).flt = s.flt ∧ (State.recStart s).tim = s.tim ∧
    (State.recStart s).net = s.net ∧ (State.recStart s).prt = s.prt ∧ (State.recStart s).trp = s.trp ∧
    (State.recStart s).pod = s.pod ∧ (State.recStart s).lgc = s.lgc ∧ (State.recStart s).gsv = s.gsv ∧
    (State.recStart s).oz = s.oz ∧ (State.recStart s).sec = s.sec ∧ (State.recStart s).cmd = s.cmd ∧
    (State.recStart s).regs = s.regs := by
  simp [State.recStart]

theorem State.windowRead_frame (s : State) (r : Requester) (a : ℕ) :
    (State.windowRead s r a).2.now = s.now ∧ (State.windowRead s r a).2.pending = s.pending ∧
    (State.windowRead s r a).2.regs0 = s.regs0 ∧ (State.windowRead s r a).2.freeCtr = s.freeCtr ∧
    (State.windowRead s r a).2.mode = s.mode ∧ (State.windowRead s r a).2.mram.keyCnt = s.mram.keyCnt ∧
    (State.windowRead s r a).2.mram.boot = s.mram.boot ∧ (State.windowRead s r a).2.sys = s.sys ∧
    (State.windowRead s r a).2.ana = s.ana ∧ (State.windowRead s r a).2.aux = s.aux ∧
    (State.windowRead s r a).2.flt = s.flt ∧ (State.windowRead s r a).2.tim = s.tim ∧
    (State.windowRead s r a).2.net = s.net ∧ (State.windowRead s r a).2.prt = s.prt ∧
    (State.windowRead s r a).2.trp = s.trp ∧ (State.windowRead s r a).2.pod = s.pod ∧
    (State.windowRead s r a).2.lgc = s.lgc ∧ (State.windowRead s r a).2.gsv = s.gsv ∧
    (State.windowRead s r a).2.tph = s.tph ∧ (State.windowRead s r a).2.oz = s.oz ∧
    (State.windowRead s r a).2.sec = s.sec ∧ (State.windowRead s r a).2.cmd = s.cmd := by
  have hf1 := @State.setFlag_frame
  have hf2 := @State.setRidx_frame
  have hf3 := @State.deny_frame
  simp [↓hf1, ↓hf2, ↓hf3, State.windowRead]
  (repeat' split) <;> simp [↓hf1, ↓hf2, ↓hf3]

theorem State.windowWrite_frame (s : State) (r : Requester) (a : ℕ) :
    (State.windowWrite s r a).2.now = s.now ∧ (State.windowWrite s r a).2.pending = s.pending ∧
    (State.windowWrite s r a).2.regs0 = s.regs0 ∧ (State.windowWrite s r a).2.freeCtr = s.freeCtr ∧
    (State.windowWrite s r a).2.mode = s.mode ∧ (State.windowWrite s r a).2.mram.keyCnt = s.mram.keyCnt ∧
    (State.windowWrite s r a).2.mram.boot = s.mram.boot ∧ (State.windowWrite s r a).2.sys = s.sys ∧
    (State.windowWrite s r a).2.ana = s.ana ∧ (State.windowWrite s r a).2.aux = s.aux ∧
    (State.windowWrite s r a).2.flt = s.flt ∧ (State.windowWrite s r a).2.tim = s.tim ∧
    (State.windowWrite s r a).2.net = s.net ∧ (State.windowWrite s r a).2.prt = s.prt ∧
    (State.windowWrite s r a).2.trp = s.trp ∧ (State.windowWrite s r a).2.pod = s.pod ∧
    (State.windowWrite s r a).2.lgc = s.lgc ∧ (State.windowWrite s r a).2.gsv = s.gsv ∧
    (State.windowWrite s r a).2.tph = s.tph ∧ (State.windowWrite s r a).2.oz = s.oz ∧
    (State.windowWrite s r a).2.sec = s.sec ∧ (State.windowWrite s r a).2.cmd = s.cmd := by
  have hf1 := @State.recordWrite_frame
  have hf2 := @State.deny_frame
  unfold State.windowWrite
  (repeat' split) <;> simp [↓hf1, ↓hf2]

theorem recordWindowReadEff_frame (r : Requester) (o : ℕ) (s : State) :
    (recordWindowReadEff r o s).now = s.now ∧ (recordWindowReadEff r o s).pending = s.pending ∧
    (recordWindowReadEff r o s).regs0 = s.regs0 ∧ (recordWindowReadEff r o s).freeCtr = s.freeCtr ∧
    (recordWindowReadEff r o s).mode = s.mode ∧ (recordWindowReadEff r o s).mram.keyCnt = s.mram.keyCnt ∧
    (recordWindowReadEff r o s).mram.boot = s.mram.boot ∧ (recordWindowReadEff r o s).sys.straps = s.sys.straps ∧
    (recordWindowReadEff r o s).sys.por = s.sys.por ∧ (recordWindowReadEff r o s).sys.mapOn = s.sys.mapOn ∧
    (recordWindowReadEff r o s).ana = s.ana ∧ (recordWindowReadEff r o s).aux = s.aux ∧
    (recordWindowReadEff r o s).flt = s.flt ∧ (recordWindowReadEff r o s).tim = s.tim ∧
    (recordWindowReadEff r o s).net = s.net ∧ (recordWindowReadEff r o s).prt = s.prt ∧
    (recordWindowReadEff r o s).trp = s.trp ∧ (recordWindowReadEff r o s).pod = s.pod ∧
    (recordWindowReadEff r o s).lgc = s.lgc ∧ (recordWindowReadEff r o s).gsv = s.gsv ∧
    (recordWindowReadEff r o s).tph = s.tph ∧ (recordWindowReadEff r o s).oz = s.oz ∧
    (recordWindowReadEff r o s).sec = s.sec ∧ (recordWindowReadEff r o s).cmd = s.cmd := by
  have hf1 := @State.windowRead_frame
  simp [↓hf1, recordWindowReadEff]

theorem recordWindowWriteEff_frame (r : Requester) (o : ℕ) (s : State) :
    (recordWindowWriteEff r o s).now = s.now ∧ (recordWindowWriteEff r o s).pending = s.pending ∧
    (recordWindowWriteEff r o s).regs0 = s.regs0 ∧ (recordWindowWriteEff r o s).freeCtr = s.freeCtr ∧
    (recordWindowWriteEff r o s).mode = s.mode ∧ (recordWindowWriteEff r o s).mram.keyCnt = s.mram.keyCnt ∧
    (recordWindowWriteEff r o s).mram.boot = s.mram.boot ∧ (recordWindowWriteEff r o s).sys = s.sys ∧
    (recordWindowWriteEff r o s).ana = s.ana ∧ (recordWindowWriteEff r o s).aux = s.aux ∧
    (recordWindowWriteEff r o s).flt = s.flt ∧ (recordWindowWriteEff r o s).tim = s.tim ∧
    (recordWindowWriteEff r o s).net = s.net ∧ (recordWindowWriteEff r o s).prt = s.prt ∧
    (recordWindowWriteEff r o s).trp = s.trp ∧ (recordWindowWriteEff r o s).pod = s.pod ∧
    (recordWindowWriteEff r o s).lgc = s.lgc ∧ (recordWindowWriteEff r o s).gsv = s.gsv ∧
    (recordWindowWriteEff r o s).tph = s.tph ∧ (recordWindowWriteEff r o s).oz = s.oz ∧
    (recordWindowWriteEff r o s).sec = s.sec ∧ (recordWindowWriteEff r o s).cmd = s.cmd := by
  have hf1 := @State.windowWrite_frame
  simp [↓hf1, recordWindowWriteEff]

@[simp ↓] theorem State.segWrite_now (s : State) (r : Requester) (a g : Nat) (eff : State → Status × State)
    (h : ∀ s, (eff s).2.now = s.now) : (s.segWrite r a g eff).2.now = s.now := by
  have hf1 := @State.recordWrite_frame
  have hf2 := @State.deny_frame
  unfold State.segWrite
  split <;> simp [↓hf1, ↓hf2, h]

@[simp ↓] theorem State.segWrite_pending (s : State) (r : Requester) (a g : Nat) (eff : State → Status × State)
    (h : ∀ s, (eff s).2.pending = s.pending) : (s.segWrite r a g eff).2.pending = s.pending := by
  have hf1 := @State.recordWrite_frame
  have hf2 := @State.deny_frame
  unfold State.segWrite
  split <;> simp [↓hf1, ↓hf2, h]

@[simp ↓] theorem State.segWrite_regs0 (s : State) (r : Requester) (a g : Nat) (eff : State → Status × State)
    (h : ∀ s, (eff s).2.regs0 = s.regs0) : (s.segWrite r a g eff).2.regs0 = s.regs0 := by
  have hf1 := @State.recordWrite_frame
  have hf2 := @State.deny_frame
  unfold State.segWrite
  split <;> simp [↓hf1, ↓hf2, h]

@[simp ↓] theorem State.segWrite_freeCtr (s : State) (r : Requester) (a g : Nat) (eff : State → Status × State)
    (h : ∀ s, (eff s).2.freeCtr = s.freeCtr) : (s.segWrite r a g eff).2.freeCtr = s.freeCtr := by
  have hf1 := @State.recordWrite_frame
  have hf2 := @State.deny_frame
  unfold State.segWrite
  split <;> simp [↓hf1, ↓hf2, h]

@[simp ↓] theorem State.segWrite_mode (s : State) (r : Requester) (a g : Nat) (eff : State → Status × State)
    (h : ∀ s, (eff s).2.mode = s.mode) : (s.segWrite r a g eff).2.mode = s.mode := by
  have hf1 := @State.recordWrite_frame
  have hf2 := @State.deny_frame
  unfold State.segWrite
  split <;> simp [↓hf1, ↓hf2, h]

@[simp ↓] theorem State.segWrite_sys (s : State) (r : Requester) (a g : Nat) (eff : State → Status × State)
    (h : ∀ s, (eff s).2.sys = s.sys) : (s.segWrite r a g eff).2.sys = s.sys := by
  have hf1 := @State.recordWrite_frame
  have hf2 := @State.deny_frame
  unfold State.segWrite
  split <;> simp [↓hf1, ↓hf2, h]

@[simp ↓] theorem State.segWrite_ana (s : State) (r : Requester) (a g : Nat) (eff : State → Status × State)
    (h : ∀ s, (eff s).2.ana = s.ana) : (s.segWrite r a g eff).2.ana = s.ana := by
  have hf1 := @State.recordWrite_frame
  have hf2 := @State.deny_frame
  unfold State.segWrite
  split <;> simp [↓hf1, ↓hf2, h]

@[simp ↓] theorem State.segWrite_aux (s : State) (r : Requester) (a g : Nat) (eff : State → Status × State)
    (h : ∀ s, (eff s).2.aux = s.aux) : (s.segWrite r a g eff).2.aux = s.aux := by
  have hf1 := @State.recordWrite_frame
  have hf2 := @State.deny_frame
  unfold State.segWrite
  split <;> simp [↓hf1, ↓hf2, h]

@[simp ↓] theorem State.segWrite_flt (s : State) (r : Requester) (a g : Nat) (eff : State → Status × State)
    (h : ∀ s, (eff s).2.flt = s.flt) : (s.segWrite r a g eff).2.flt = s.flt := by
  have hf1 := @State.recordWrite_frame
  have hf2 := @State.deny_frame
  unfold State.segWrite
  split <;> simp [↓hf1, ↓hf2, h]

@[simp ↓] theorem State.segWrite_tim (s : State) (r : Requester) (a g : Nat) (eff : State → Status × State)
    (h : ∀ s, (eff s).2.tim = s.tim) : (s.segWrite r a g eff).2.tim = s.tim := by
  have hf1 := @State.recordWrite_frame
  have hf2 := @State.deny_frame
  unfold State.segWrite
  split <;> simp [↓hf1, ↓hf2, h]

@[simp ↓] theorem State.segWrite_net (s : State) (r : Requester) (a g : Nat) (eff : State → Status × State)
    (h : ∀ s, (eff s).2.net = s.net) : (s.segWrite r a g eff).2.net = s.net := by
  have hf1 := @State.recordWrite_frame
  have hf2 := @State.deny_frame
  unfold State.segWrite
  split <;> simp [↓hf1, ↓hf2, h]

@[simp ↓] theorem State.segWrite_prt (s : State) (r : Requester) (a g : Nat) (eff : State → Status × State)
    (h : ∀ s, (eff s).2.prt = s.prt) : (s.segWrite r a g eff).2.prt = s.prt := by
  have hf1 := @State.recordWrite_frame
  have hf2 := @State.deny_frame
  unfold State.segWrite
  split <;> simp [↓hf1, ↓hf2, h]

@[simp ↓] theorem State.segWrite_trp (s : State) (r : Requester) (a g : Nat) (eff : State → Status × State)
    (h : ∀ s, (eff s).2.trp = s.trp) : (s.segWrite r a g eff).2.trp = s.trp := by
  have hf1 := @State.recordWrite_frame
  have hf2 := @State.deny_frame
  unfold State.segWrite
  split <;> simp [↓hf1, ↓hf2, h]

@[simp ↓] theorem State.segWrite_pod (s : State) (r : Requester) (a g : Nat) (eff : State → Status × State)
    (h : ∀ s, (eff s).2.pod = s.pod) : (s.segWrite r a g eff).2.pod = s.pod := by
  have hf1 := @State.recordWrite_frame
  have hf2 := @State.deny_frame
  unfold State.segWrite
  split <;> simp [↓hf1, ↓hf2, h]

@[simp ↓] theorem State.segWrite_lgc (s : State) (r : Requester) (a g : Nat) (eff : State → Status × State)
    (h : ∀ s, (eff s).2.lgc = s.lgc) : (s.segWrite r a g eff).2.lgc = s.lgc := by
  have hf1 := @State.recordWrite_frame
  have hf2 := @State.deny_frame
  unfold State.segWrite
  split <;> simp [↓hf1, ↓hf2, h]

@[simp ↓] theorem State.segWrite_gsv (s : State) (r : Requester) (a g : Nat) (eff : State → Status × State)
    (h : ∀ s, (eff s).2.gsv = s.gsv) : (s.segWrite r a g eff).2.gsv = s.gsv := by
  have hf1 := @State.recordWrite_frame
  have hf2 := @State.deny_frame
  unfold State.segWrite
  split <;> simp [↓hf1, ↓hf2, h]

@[simp ↓] theorem State.segWrite_tph (s : State) (r : Requester) (a g : Nat) (eff : State → Status × State)
    (h : ∀ s, (eff s).2.tph = s.tph) : (s.segWrite r a g eff).2.tph = s.tph := by
  have hf1 := @State.recordWrite_frame
  have hf2 := @State.deny_frame
  unfold State.segWrite
  split <;> simp [↓hf1, ↓hf2, h]

@[simp ↓] theorem State.segWrite_oz (s : State) (r : Requester) (a g : Nat) (eff : State → Status × State)
    (h : ∀ s, (eff s).2.oz = s.oz) : (s.segWrite r a g eff).2.oz = s.oz := by
  have hf1 := @State.recordWrite_frame
  have hf2 := @State.deny_frame
  unfold State.segWrite
  split <;> simp [↓hf1, ↓hf2, h]

@[simp ↓] theorem State.segWrite_sec (s : State) (r : Requester) (a g : Nat) (eff : State → Status × State)
    (h : ∀ s, (eff s).2.sec = s.sec) : (s.segWrite r a g eff).2.sec = s.sec := by
  have hf1 := @State.recordWrite_frame
  have hf2 := @State.deny_frame
  unfold State.segWrite
  split <;> simp [↓hf1, ↓hf2, h]

@[simp ↓] theorem State.segWrite_cmd (s : State) (r : Requester) (a g : Nat) (eff : State → Status × State)
    (h : ∀ s, (eff s).2.cmd = s.cmd) : (s.segWrite r a g eff).2.cmd = s.cmd := by
  have hf1 := @State.recordWrite_frame
  have hf2 := @State.deny_frame
  unfold State.segWrite
  split <;> simp [↓hf1, ↓hf2, h]

@[simp ↓] theorem State.segWrite_mram_keyCnt (s : State) (r : Requester) (a g : Nat) (eff : State → Status × State)
    (h : ∀ s, (eff s).2.mram.keyCnt = s.mram.keyCnt) : (s.segWrite r a g eff).2.mram.keyCnt = s.mram.keyCnt := by
  have hf1 := @State.recordWrite_frame
  have hf2 := @State.deny_frame
  unfold State.segWrite
  split <;> simp [↓hf1, ↓hf2, h]

@[simp ↓] theorem State.segWrite_mram_boot (s : State) (r : Requester) (a g : Nat) (eff : State → Status × State)
    (h : ∀ s, (eff s).2.mram.boot = s.mram.boot) : (s.segWrite r a g eff).2.mram.boot = s.mram.boot := by
  have hf1 := @State.recordWrite_frame
  have hf2 := @State.deny_frame
  unfold State.segWrite
  split <;> simp [↓hf1, ↓hf2, h]

@[simp ↓] theorem State.segWrite_sec_otp (s : State) (r : Requester) (a g : Nat) (eff : State → Status × State)
    (h : ∀ s, (eff s).2.sec.otp = s.sec.otp) : (s.segWrite r a g eff).2.sec.otp = s.sec.otp := by
  have hf1 := @State.recordWrite_frame
  have hf2 := @State.deny_frame
  unfold State.segWrite
  split <;> simp [↓hf1, ↓hf2, h]

@[simp ↓] theorem State.segWrite_sec_keys (s : State) (r : Requester) (a g : Nat) (eff : State → Status × State)
    (h : ∀ s, (eff s).2.sec.keys = s.sec.keys) : (s.segWrite r a g eff).2.sec.keys = s.sec.keys := by
  have hf1 := @State.recordWrite_frame
  have hf2 := @State.deny_frame
  unfold State.segWrite
  split <;> simp [↓hf1, ↓hf2, h]

@[simp ↓] theorem State.segWrite_cmd_run (s : State) (r : Requester) (a g : Nat) (eff : State → Status × State)
    (h : ∀ s, (eff s).2.cmd.run = s.cmd.run) : (s.segWrite r a g eff).2.cmd.run = s.cmd.run := by
  have hf1 := @State.recordWrite_frame
  have hf2 := @State.deny_frame
  unfold State.segWrite
  split <;> simp [↓hf1, ↓hf2, h]

@[simp ↓] theorem State.segWrite_cmd_svc (s : State) (r : Requester) (a g : Nat) (eff : State → Status × State)
    (h : ∀ s, (eff s).2.cmd.svc = s.cmd.svc) : (s.segWrite r a g eff).2.cmd.svc = s.cmd.svc := by
  have hf1 := @State.recordWrite_frame
  have hf2 := @State.deny_frame
  unfold State.segWrite
  split <;> simp [↓hf1, ↓hf2, h]

@[simp ↓] theorem State.segWrite_sys_straps (s : State) (r : Requester) (a g : Nat) (eff : State → Status × State)
    (h : ∀ s, (eff s).2.sys.straps = s.sys.straps) : (s.segWrite r a g eff).2.sys.straps = s.sys.straps := by
  have hf1 := @State.recordWrite_frame
  have hf2 := @State.deny_frame
  unfold State.segWrite
  split <;> simp [↓hf1, ↓hf2, h]

@[simp ↓] theorem State.segWrite_sys_por (s : State) (r : Requester) (a g : Nat) (eff : State → Status × State)
    (h : ∀ s, (eff s).2.sys.por = s.sys.por) : (s.segWrite r a g eff).2.sys.por = s.sys.por := by
  have hf1 := @State.recordWrite_frame
  have hf2 := @State.deny_frame
  unfold State.segWrite
  split <;> simp [↓hf1, ↓hf2, h]

@[simp ↓] theorem State.segWrite_sys_mapOn (s : State) (r : Requester) (a g : Nat) (eff : State → Status × State)
    (h : ∀ s, (eff s).2.sys.mapOn = s.sys.mapOn) : (s.segWrite r a g eff).2.sys.mapOn = s.sys.mapOn := by
  have hf1 := @State.recordWrite_frame
  have hf2 := @State.deny_frame
  unfold State.segWrite
  split <;> simp [↓hf1, ↓hf2, h]

theorem State.recWselW_frame (v : ℕ) (s : State) :
    (State.recWselW v s).2.now = s.now ∧ (State.recWselW v s).2.pending = s.pending ∧
    (State.recWselW v s).2.regs0 = s.regs0 ∧ (State.recWselW v s).2.freeCtr = s.freeCtr ∧
    (State.recWselW v s).2.mode = s.mode ∧ (State.recWselW v s).2.mram = s.mram ∧
    (State.recWselW v s).2.sys = s.sys ∧ (State.recWselW v s).2.evt = s.evt ∧ (State.recWselW v s).2.ana = s.ana ∧
    (State.recWselW v s).2.aux = s.aux ∧ (State.recWselW v s).2.flt = s.flt ∧ (State.recWselW v s).2.tim = s.tim ∧
    (State.recWselW v s).2.net = s.net ∧ (State.recWselW v s).2.prt = s.prt ∧ (State.recWselW v s).2.trp = s.trp ∧
    (State.recWselW v s).2.pod = s.pod ∧ (State.recWselW v s).2.lgc = s.lgc ∧ (State.recWselW v s).2.gsv = s.gsv ∧
    (State.recWselW v s).2.oz = s.oz ∧ (State.recWselW v s).2.sec = s.sec ∧ (State.recWselW v s).2.cmd = s.cmd := by
  have hf1 := @State.wr_frame
  have hf2 := @State.setFlag_frame
  simp [↓hf1, ↓hf2, State.recWselW]
  (repeat' split) <;> simp [↓hf1, ↓hf2]

theorem State.recRelease_frame (g : ℕ) (s : State) :
    (State.recRelease g s).2.now = s.now ∧ (State.recRelease g s).2.pending = s.pending ∧
    (State.recRelease g s).2.regs0 = s.regs0 ∧ (State.recRelease g s).2.freeCtr = s.freeCtr ∧
    (State.recRelease g s).2.mode = s.mode ∧ (State.recRelease g s).2.mram.keyCnt = s.mram.keyCnt ∧
    (State.recRelease g s).2.mram.boot = s.mram.boot ∧ (State.recRelease g s).2.sys = s.sys ∧
    (State.recRelease g s).2.evt = s.evt ∧ (State.recRelease g s).2.ana = s.ana ∧
    (State.recRelease g s).2.aux = s.aux ∧ (State.recRelease g s).2.flt = s.flt ∧
    (State.recRelease g s).2.tim = s.tim ∧ (State.recRelease g s).2.net = s.net ∧
    (State.recRelease g s).2.prt = s.prt ∧ (State.recRelease g s).2.trp = s.trp ∧
    (State.recRelease g s).2.pod = s.pod ∧ (State.recRelease g s).2.lgc = s.lgc ∧
    (State.recRelease g s).2.gsv = s.gsv ∧ (State.recRelease g s).2.oz = s.oz ∧
    (State.recRelease g s).2.sec = s.sec ∧ (State.recRelease g s).2.cmd = s.cmd := by
  have hf1 := @State.setRidx_frame
  have hf2 := @State.setSeg_frame
  have hf3 := @State.recShow_frame
  have hf4 := @State.setCls_frame
  have hf5 := @State.armSeg_frame
  have hf6 := @State.setFlag_frame
  simp [↓hf1, ↓hf2, ↓hf3, ↓hf4, ↓hf5, ↓hf6, State.recRelease]
  (repeat' split) <;> simp [↓hf1, ↓hf2, ↓hf3, ↓hf4, ↓hf5, ↓hf6]

theorem recWselWriteEff_frame (r : Requester) (v : ℕ) (s : State) :
    (recWselWriteEff r v s).now = s.now ∧ (recWselWriteEff r v s).pending = s.pending ∧
    (recWselWriteEff r v s).regs0 = s.regs0 ∧ (recWselWriteEff r v s).freeCtr = s.freeCtr ∧
    (recWselWriteEff r v s).mode = s.mode ∧ (recWselWriteEff r v s).mram.keyCnt = s.mram.keyCnt ∧
    (recWselWriteEff r v s).mram.boot = s.mram.boot ∧ (recWselWriteEff r v s).sys = s.sys ∧
    (recWselWriteEff r v s).ana = s.ana ∧ (recWselWriteEff r v s).aux = s.aux ∧ (recWselWriteEff r v s).flt = s.flt ∧
    (recWselWriteEff r v s).tim = s.tim ∧ (recWselWriteEff r v s).net = s.net ∧ (recWselWriteEff r v s).prt = s.prt ∧
    (recWselWriteEff r v s).trp = s.trp ∧ (recWselWriteEff r v s).pod = s.pod ∧ (recWselWriteEff r v s).lgc = s.lgc ∧
    (recWselWriteEff r v s).gsv = s.gsv ∧ (recWselWriteEff r v s).oz = s.oz ∧ (recWselWriteEff r v s).sec = s.sec ∧
    (recWselWriteEff r v s).cmd = s.cmd := by
  have hf1 := @State.recWselW_frame
  simp [↓hf1, recWselWriteEff]

theorem recRelWriteEff_frame (r : Requester) (v : ℕ) (s : State) :
    (recRelWriteEff r v s).now = s.now ∧ (recRelWriteEff r v s).pending = s.pending ∧
    (recRelWriteEff r v s).regs0 = s.regs0 ∧ (recRelWriteEff r v s).freeCtr = s.freeCtr ∧
    (recRelWriteEff r v s).mode = s.mode ∧ (recRelWriteEff r v s).mram.keyCnt = s.mram.keyCnt ∧
    (recRelWriteEff r v s).mram.boot = s.mram.boot ∧ (recRelWriteEff r v s).sys = s.sys ∧
    (recRelWriteEff r v s).ana = s.ana ∧ (recRelWriteEff r v s).aux = s.aux ∧ (recRelWriteEff r v s).flt = s.flt ∧
    (recRelWriteEff r v s).tim = s.tim ∧ (recRelWriteEff r v s).net = s.net ∧ (recRelWriteEff r v s).prt = s.prt ∧
    (recRelWriteEff r v s).trp = s.trp ∧ (recRelWriteEff r v s).pod = s.pod ∧ (recRelWriteEff r v s).lgc = s.lgc ∧
    (recRelWriteEff r v s).gsv = s.gsv ∧ (recRelWriteEff r v s).oz = s.oz ∧ (recRelWriteEff r v s).sec = s.sec ∧
    (recRelWriteEff r v s).cmd = s.cmd := by
  have hf1 := @State.recRelease_frame
  simp [↓hf1, recRelWriteEff]
end Sys2Proof.Machine
end

