-- ==== Sys2Proof/Laws/FramePodMem.lean ====
section
/-!
SUPPORT. What the operations of Machine/PodMem.lean leave as it was: one lemma per operation, over the parts of the state.
-/
set_option linter.all false
set_option Elab.async false
namespace Sys2Proof.Machine
theorem State.sramSet_frame (s : State) (p : ℕ) (a : ℕ) (d : ℕ) :
    (State.sramSet s p a d).now = s.now ∧ (State.sramSet s p a d).pending = s.pending ∧
    (State.sramSet s p a d).regs0 = s.regs0 ∧ (State.sramSet s p a d).freeCtr = s.freeCtr ∧
    (State.sramSet s p a d).mode = s.mode ∧ (State.sramSet s p a d).mram = s.mram ∧
    (State.sramSet s p a d).sys = s.sys ∧ (State.sramSet s p a d).evt = s.evt ∧ (State.sramSet s p a d).ana = s.ana ∧
    (State.sramSet s p a d).aux = s.aux ∧ (State.sramSet s p a d).flt = s.flt ∧ (State.sramSet s p a d).tim = s.tim ∧
    (State.sramSet s p a d).net = s.net ∧ (State.sramSet s p a d).prt = s.prt ∧ (State.sramSet s p a d).trp = s.trp ∧
    (State.sramSet s p a d).lgc = s.lgc ∧ (State.sramSet s p a d).gsv = s.gsv ∧ (State.sramSet s p a d).tph = s.tph ∧
    (State.sramSet s p a d).oz = s.oz ∧ (State.sramSet s p a d).sec = s.sec ∧ (State.sramSet s p a d).cmd = s.cmd ∧
    (State.sramSet s p a d).regs = s.regs := by
  have hfite := @State.ite_frame
  have hf1 := @State.setPod_frame
  simp [↓hfite, ↓hf1, State.sramSet]

theorem State.lgcWrite_frame (s : State) (a : ℕ) (d : ℕ) :
    (State.lgcWrite s a d).now = s.now ∧ (State.lgcWrite s a d).pending = s.pending ∧
    (State.lgcWrite s a d).regs0 = s.regs0 ∧ (State.lgcWrite s a d).freeCtr = s.freeCtr ∧
    (State.lgcWrite s a d).mode = s.mode ∧ (State.lgcWrite s a d).mram = s.mram ∧
    (State.lgcWrite s a d).sys = s.sys ∧ (State.lgcWrite s a d).evt = s.evt ∧ (State.lgcWrite s a d).ana = s.ana ∧
    (State.lgcWrite s a d).aux = s.aux ∧ (State.lgcWrite s a d).flt = s.flt ∧ (State.lgcWrite s a d).tim = s.tim ∧
    (State.lgcWrite s a d).net = s.net ∧ (State.lgcWrite s a d).prt = s.prt ∧ (State.lgcWrite s a d).trp = s.trp ∧
    (State.lgcWrite s a d).gsv = s.gsv ∧ (State.lgcWrite s a d).tph = s.tph ∧ (State.lgcWrite s a d).oz = s.oz ∧
    (State.lgcWrite s a d).sec = s.sec ∧ (State.lgcWrite s a d).cmd = s.cmd ∧ (State.lgcWrite s a d).regs = s.regs := by
  have hfite := @State.ite_frame
  have hf1 := @State.setProg_frame
  have hf2 := @State.sramSet_frame
  unfold State.lgcWrite
  (repeat' split) <;> simp [↓hfite, ↓hf1, ↓hf2]

theorem State.podWrite_frame (s : State) (p : ℕ) (a : ℕ) (d : ℕ) :
    (State.podWrite s p a d).now = s.now ∧ (State.podWrite s p a d).pending = s.pending ∧
    (State.podWrite s p a d).regs0 = s.regs0 ∧ (State.podWrite s p a d).freeCtr = s.freeCtr ∧
    (State.podWrite s p a d).mode = s.mode ∧ (State.podWrite s p a d).mram = s.mram ∧
    (State.podWrite s p a d).sys = s.sys ∧ (State.podWrite s p a d).evt = s.evt ∧
    (State.podWrite s p a d).ana = s.ana ∧ (State.podWrite s p a d).aux = s.aux ∧
    (State.podWrite s p a d).flt = s.flt ∧ (State.podWrite s p a d).tim = s.tim ∧
    (State.podWrite s p a d).net = s.net ∧ (State.podWrite s p a d).prt = s.prt ∧
    (State.podWrite s p a d).trp = s.trp ∧ (State.podWrite s p a d).gsv = s.gsv ∧
    (State.podWrite s p a d).tph = s.tph ∧ (State.podWrite s p a d).oz = s.oz ∧
    (State.podWrite s p a d).sec = s.sec ∧ (State.podWrite s p a d).cmd = s.cmd ∧
    (State.podWrite s p a d).regs = s.regs := by
  have hfite := @State.ite_frame
  have hf1 := @State.lgcWrite_frame
  have hf2 := @State.sramSet_frame
  simp [↓hfite, ↓hf1, ↓hf2, State.podWrite]

theorem State.commitWrite_frame (s : State) (p : ℕ) (hi : ℕ) (k : Packet) :
    (State.commitWrite s p hi k).now = s.now ∧ (State.commitWrite s p hi k).pending = s.pending ∧
    (State.commitWrite s p hi k).regs0 = s.regs0 ∧ (State.commitWrite s p hi k).freeCtr = s.freeCtr ∧
    (State.commitWrite s p hi k).mode = s.mode ∧ (State.commitWrite s p hi k).mram = s.mram ∧
    (State.commitWrite s p hi k).sys = s.sys ∧ (State.commitWrite s p hi k).evt = s.evt ∧
    (State.commitWrite s p hi k).ana = s.ana ∧ (State.commitWrite s p hi k).aux = s.aux ∧
    (State.commitWrite s p hi k).flt = s.flt ∧ (State.commitWrite s p hi k).tim = s.tim ∧
    (State.commitWrite s p hi k).net = s.net ∧ (State.commitWrite s p hi k).prt = s.prt ∧
    (State.commitWrite s p hi k).trp = s.trp ∧ (State.commitWrite s p hi k).gsv = s.gsv ∧
    (State.commitWrite s p hi k).tph = s.tph ∧ (State.commitWrite s p hi k).oz = s.oz ∧
    (State.commitWrite s p hi k).sec = s.sec ∧ (State.commitWrite s p hi k).cmd = s.cmd ∧
    (State.commitWrite s p hi k).regs = s.regs := by
  have hfite := @State.ite_frame
  have hf1 := @State.podWrite_frame
  simp [↓hfite, ↓hf1, State.commitWrite]

theorem State.anaFault_frame (s : State) :
    (State.anaFault s).now = s.now ∧ (State.anaFault s).pending = s.pending ∧ (State.anaFault s).regs0 = s.regs0 ∧
    (State.anaFault s).freeCtr = s.freeCtr ∧ (State.anaFault s).mode = s.mode ∧
    (State.anaFault s).mram.keyCnt = s.mram.keyCnt ∧ (State.anaFault s).mram.boot = s.mram.boot ∧
    (State.anaFault s).sys = s.sys ∧ (State.anaFault s).ana = s.ana ∧ (State.anaFault s).aux = s.aux ∧
    (State.anaFault s).flt = s.flt ∧ (State.anaFault s).tim = s.tim ∧ (State.anaFault s).net = s.net ∧
    (State.anaFault s).prt = s.prt ∧ (State.anaFault s).trp = s.trp ∧ (State.anaFault s).pod = s.pod ∧
    (State.anaFault s).lgc = s.lgc ∧ (State.anaFault s).gsv = s.gsv ∧ (State.anaFault s).tph = s.tph ∧
    (State.anaFault s).oz = s.oz ∧ (State.anaFault s).sec = s.sec ∧ (State.anaFault s).cmd = s.cmd := by
  have hfite := @State.ite_frame
  have hf1 := @State.setFlag_frame
  have hf2 := @State.raise_frame
  simp [↓hfite, ↓hf1, ↓hf2, State.anaFault]

theorem State.splitWrite_frame (s : State) (k : Packet) (ana : Bool) :
    (State.splitWrite s k ana).now = s.now ∧ (State.splitWrite s k ana).pending = s.pending ∧
    (State.splitWrite s k ana).regs0 = s.regs0 ∧ (State.splitWrite s k ana).freeCtr = s.freeCtr ∧
    (State.splitWrite s k ana).mode = s.mode ∧ (State.splitWrite s k ana).mram.keyCnt = s.mram.keyCnt ∧
    (State.splitWrite s k ana).mram.boot = s.mram.boot ∧ (State.splitWrite s k ana).sys = s.sys ∧
    (State.splitWrite s k ana).ana = s.ana ∧ (State.splitWrite s k ana).aux = s.aux ∧
    (State.splitWrite s k ana).flt = s.flt ∧ (State.splitWrite s k ana).tim = s.tim ∧
    (State.splitWrite s k ana).net = s.net ∧ (State.splitWrite s k ana).prt = s.prt ∧
    (State.splitWrite s k ana).trp = s.trp ∧ (State.splitWrite s k ana).gsv = s.gsv ∧
    (State.splitWrite s k ana).tph = s.tph ∧ (State.splitWrite s k ana).oz = s.oz ∧
    (State.splitWrite s k ana).sec = s.sec ∧ (State.splitWrite s k ana).cmd = s.cmd := by
  have hfite := @State.ite_frame
  have hf1 := @State.commitWrite_frame
  have hf2 := @State.raise_frame
  simp [↓hfite, ↓hf1, ↓hf2, State.splitWrite]

theorem State.haltPod_frame (s : State) (p : ℕ) :
    (State.haltPod s p).now = s.now ∧ (State.haltPod s p).pending = s.pending ∧ (State.haltPod s p).regs0 = s.regs0 ∧
    (State.haltPod s p).freeCtr = s.freeCtr ∧ (State.haltPod s p).mode = s.mode ∧
    (State.haltPod s p).mram.keyCnt = s.mram.keyCnt ∧ (State.haltPod s p).mram.boot = s.mram.boot ∧
    (State.haltPod s p).sys = s.sys ∧ (State.haltPod s p).ana = s.ana ∧ (State.haltPod s p).aux = s.aux ∧
    (State.haltPod s p).flt = s.flt ∧ (State.haltPod s p).tim = s.tim ∧ (State.haltPod s p).net = s.net ∧
    (State.haltPod s p).trp = s.trp ∧ (State.haltPod s p).gsv = s.gsv ∧ (State.haltPod s p).tph = s.tph ∧
    (State.haltPod s p).oz = s.oz ∧ (State.haltPod s p).sec = s.sec ∧ (State.haltPod s p).cmd.run = s.cmd.run ∧
    (State.haltPod s p).cmd.svc = s.cmd.svc := by
  have hfite := @State.ite_frame
  have hf1 := @State.incSat_frame
  have hf2 := @State.setF_frame
  have hf3 := @State.setLogicMode_frame
  have hf4 := @State.setPod_frame
  have hf5 := @State.slowTo_frame
  have hf6 := @State.dropReqs_frame
  simp [↓hfite, ↓hf1, ↓hf2, ↓hf3, ↓hf4, ↓hf5, ↓hf6, State.haltPod]

theorem State.takeHalt_frame (s : State) (p : ℕ) :
    (State.takeHalt s p).now = s.now ∧ (State.takeHalt s p).pending = s.pending ∧
    (State.takeHalt s p).regs0 = s.regs0 ∧ (State.takeHalt s p).freeCtr = s.freeCtr ∧
    (State.takeHalt s p).mode = s.mode ∧ (State.takeHalt s p).mram.keyCnt = s.mram.keyCnt ∧
    (State.takeHalt s p).mram.boot = s.mram.boot ∧ (State.takeHalt s p).sys = s.sys ∧
    (State.takeHalt s p).ana = s.ana ∧ (State.takeHalt s p).aux = s.aux ∧ (State.takeHalt s p).flt = s.flt ∧
    (State.takeHalt s p).tim = s.tim ∧ (State.takeHalt s p).net = s.net ∧ (State.takeHalt s p).trp = s.trp ∧
    (State.takeHalt s p).gsv = s.gsv ∧ (State.takeHalt s p).tph = s.tph ∧ (State.takeHalt s p).oz = s.oz ∧
    (State.takeHalt s p).sec = s.sec ∧ (State.takeHalt s p).cmd.run = s.cmd.run ∧
    (State.takeHalt s p).cmd.svc = s.cmd.svc := by
  have hfite := @State.ite_frame
  have hf1 := @State.haltPod_frame
  simp [↓hfite, ↓hf1, State.takeHalt]

theorem State.stopOdd_frame (s : State) (p : ℕ) :
    (State.stopOdd s p).now = s.now ∧ (State.stopOdd s p).pending = s.pending ∧ (State.stopOdd s p).regs0 = s.regs0 ∧
    (State.stopOdd s p).freeCtr = s.freeCtr ∧ (State.stopOdd s p).mode = s.mode ∧ (State.stopOdd s p).mram = s.mram ∧
    (State.stopOdd s p).sys = s.sys ∧ (State.stopOdd s p).evt = s.evt ∧ (State.stopOdd s p).ana = s.ana ∧
    (State.stopOdd s p).aux = s.aux ∧ (State.stopOdd s p).flt = s.flt ∧ (State.stopOdd s p).tim = s.tim ∧
    (State.stopOdd s p).net = s.net ∧ (State.stopOdd s p).prt = s.prt ∧ (State.stopOdd s p).trp = s.trp ∧
    (State.stopOdd s p).lgc = s.lgc ∧ (State.stopOdd s p).gsv = s.gsv ∧ (State.stopOdd s p).tph = s.tph ∧
    (State.stopOdd s p).oz = s.oz ∧ (State.stopOdd s p).sec = s.sec ∧ (State.stopOdd s p).cmd = s.cmd := by
  have hfite := @State.ite_frame
  have hf1 := @State.setPod_frame
  have hf2 := @State.setRun_frame
  unfold State.stopOdd
  (repeat' split) <;> simp [↓hfite, ↓hf1, ↓hf2]

theorem commitBoundaryEff_frame (p : ℕ) (packets : List Packet) (ovr : List (Option Verdict)) (s : State) :
    (commitBoundaryEff p packets ovr s).now = s.now ∧ (commitBoundaryEff p packets ovr s).pending = s.pending ∧
    (commitBoundaryEff p packets ovr s).regs0 = s.regs0 ∧ (commitBoundaryEff p packets ovr s).freeCtr = s.freeCtr ∧
    (commitBoundaryEff p packets ovr s).mode = s.mode ∧
    (commitBoundaryEff p packets ovr s).mram.keyCnt = s.mram.keyCnt ∧
    (commitBoundaryEff p packets ovr s).mram.boot = s.mram.boot ∧ (commitBoundaryEff p packets ovr s).sys = s.sys ∧
    (commitBoundaryEff p packets ovr s).ana = s.ana ∧ (commitBoundaryEff p packets ovr s).aux = s.aux ∧
    (commitBoundaryEff p packets ovr s).flt = s.flt ∧ (commitBoundaryEff p packets ovr s).tim = s.tim ∧
    (commitBoundaryEff p packets ovr s).net = s.net ∧ (commitBoundaryEff p packets ovr s).trp = s.trp ∧
    (commitBoundaryEff p packets ovr s).gsv = s.gsv ∧ (commitBoundaryEff p packets ovr s).tph = s.tph ∧
    (commitBoundaryEff p packets ovr s).oz = s.oz ∧ (commitBoundaryEff p packets ovr s).sec = s.sec ∧
    (commitBoundaryEff p packets ovr s).cmd.run = s.cmd.run ∧ (commitBoundaryEff p packets ovr s).cmd.svc = s.cmd.svc := by
  have hfite := @State.ite_frame
  have hf1 := @State.incSat_frame
  have hf2 := @State.commitWrite_frame
  have hf3 := @State.takeHalt_frame
  have hf4 := @State.splitWrite_frame
  have hf5 := @State.anaFault_frame
  have hf6 := @State.oddCore_frame
  have hf7 := @State.stopOdd_frame
  have hf8 := @State.podFail_frame
  simp [↓hfite, ↓hf1, ↓hf2, ↓hf3, ↓hf4, ↓hf5, ↓hf6, ↓hf7, ↓hf8, commitBoundaryEff]
  (repeat' split) <;> simp [↓hfite, ↓hf1, ↓hf2, ↓hf3, ↓hf4, ↓hf5, ↓hf6, ↓hf7, ↓hf8]

theorem State.tapIr_frame (s : State) (t : TapInst) :
    (State.tapIr s t).now = s.now ∧ (State.tapIr s t).pending = s.pending ∧ (State.tapIr s t).regs0 = s.regs0 ∧
    (State.tapIr s t).freeCtr = s.freeCtr ∧ (State.tapIr s t).mode = s.mode ∧ (State.tapIr s t).mram = s.mram ∧
    (State.tapIr s t).sys.straps = s.sys.straps ∧ (State.tapIr s t).sys.por = s.sys.por ∧
    (State.tapIr s t).sys.mapOn = s.sys.mapOn ∧ (State.tapIr s t).evt = s.evt ∧ (State.tapIr s t).ana = s.ana ∧
    (State.tapIr s t).aux = s.aux ∧ (State.tapIr s t).flt = s.flt ∧ (State.tapIr s t).tim = s.tim ∧
    (State.tapIr s t).net = s.net ∧ (State.tapIr s t).prt = s.prt ∧ (State.tapIr s t).trp = s.trp ∧
    (State.tapIr s t).pod = s.pod ∧ (State.tapIr s t).lgc = s.lgc ∧ (State.tapIr s t).gsv = s.gsv ∧
    (State.tapIr s t).tph = s.tph ∧ (State.tapIr s t).oz = s.oz ∧ (State.tapIr s t).sec = s.sec ∧
    (State.tapIr s t).cmd = s.cmd ∧ (State.tapIr s t).regs = s.regs := by
  have hfite := @State.ite_frame
  simp [↓hfite, State.tapIr]

theorem State.dbgDone_frame (s : State) (st : Status) :
    (State.dbgDone s st).now = s.now ∧ (State.dbgDone s st).pending = s.pending ∧
    (State.dbgDone s st).regs0 = s.regs0 ∧ (State.dbgDone s st).freeCtr = s.freeCtr ∧
    (State.dbgDone s st).mode = s.mode ∧ (State.dbgDone s st).mram = s.mram ∧
    (State.dbgDone s st).sys.straps = s.sys.straps ∧ (State.dbgDone s st).sys.por = s.sys.por ∧
    (State.dbgDone s st).sys.mapOn = s.sys.mapOn ∧ (State.dbgDone s st).evt = s.evt ∧
    (State.dbgDone s st).ana = s.ana ∧ (State.dbgDone s st).aux = s.aux ∧ (State.dbgDone s st).flt = s.flt ∧
    (State.dbgDone s st).tim = s.tim ∧ (State.dbgDone s st).net = s.net ∧ (State.dbgDone s st).prt = s.prt ∧
    (State.dbgDone s st).trp = s.trp ∧ (State.dbgDone s st).lgc = s.lgc ∧ (State.dbgDone s st).gsv = s.gsv ∧
    (State.dbgDone s st).tph = s.tph ∧ (State.dbgDone s st).oz = s.oz ∧ (State.dbgDone s st).sec = s.sec ∧
    (State.dbgDone s st).cmd = s.cmd := by
  have hfite := @State.ite_frame
  have hf1 := @State.tapIr_frame
  have hf2 := @State.setF_frame
  simp [↓hfite, ↓hf1, ↓hf2, State.dbgDone]

theorem podSelEff_frame (sel : ℕ) (s : State) :
    (podSelEff sel s).now = s.now ∧ (podSelEff sel s).pending = s.pending ∧ (podSelEff sel s).regs0 = s.regs0 ∧
    (podSelEff sel s).freeCtr = s.freeCtr ∧ (podSelEff sel s).mode = s.mode ∧ (podSelEff sel s).mram = s.mram ∧
    (podSelEff sel s).sys.straps = s.sys.straps ∧ (podSelEff sel s).sys.por = s.sys.por ∧
    (podSelEff sel s).sys.mapOn = s.sys.mapOn ∧ (podSelEff sel s).evt = s.evt ∧ (podSelEff sel s).ana = s.ana ∧
    (podSelEff sel s).aux = s.aux ∧ (podSelEff sel s).flt = s.flt ∧ (podSelEff sel s).tim = s.tim ∧
    (podSelEff sel s).net = s.net ∧ (podSelEff sel s).prt = s.prt ∧ (podSelEff sel s).trp = s.trp ∧
    (podSelEff sel s).lgc = s.lgc ∧ (podSelEff sel s).gsv = s.gsv ∧ (podSelEff sel s).tph = s.tph ∧
    (podSelEff sel s).oz = s.oz ∧ (podSelEff sel s).sec = s.sec ∧ (podSelEff sel s).cmd = s.cmd := by
  have hfite := @State.ite_frame
  have hf1 := @State.setF_frame
  have hf2 := @State.dbgDone_frame
  simp [↓hfite, ↓hf1, ↓hf2, podSelEff]

theorem State.dbgPut_frame (s : State) (d : ℕ) :
    (State.dbgPut s d).now = s.now ∧ (State.dbgPut s d).pending = s.pending ∧ (State.dbgPut s d).regs0 = s.regs0 ∧
    (State.dbgPut s d).freeCtr = s.freeCtr ∧ (State.dbgPut s d).mode = s.mode ∧ (State.dbgPut s d).mram = s.mram ∧
    (State.dbgPut s d).sys = s.sys ∧ (State.dbgPut s d).evt = s.evt ∧ (State.dbgPut s d).ana = s.ana ∧
    (State.dbgPut s d).aux = s.aux ∧ (State.dbgPut s d).flt = s.flt ∧ (State.dbgPut s d).tim = s.tim ∧
    (State.dbgPut s d).net = s.net ∧ (State.dbgPut s d).prt = s.prt ∧ (State.dbgPut s d).trp = s.trp ∧
    (State.dbgPut s d).lgc = s.lgc ∧ (State.dbgPut s d).gsv = s.gsv ∧ (State.dbgPut s d).tph = s.tph ∧
    (State.dbgPut s d).oz = s.oz ∧ (State.dbgPut s d).sec = s.sec ∧ (State.dbgPut s d).cmd = s.cmd ∧
    (State.dbgPut s d).regs = s.regs := by
  have hfite := @State.ite_frame
  simp [↓hfite, State.dbgPut]

theorem State.askHalt_frame (s : State) (p : ℕ) :
    (State.askHalt s p).now = s.now ∧ (State.askHalt s p).pending = s.pending ∧ (State.askHalt s p).regs0 = s.regs0 ∧
    (State.askHalt s p).freeCtr = s.freeCtr ∧ (State.askHalt s p).mode = s.mode ∧ (State.askHalt s p).mram = s.mram ∧
    (State.askHalt s p).sys = s.sys ∧ (State.askHalt s p).evt = s.evt ∧ (State.askHalt s p).ana = s.ana ∧
    (State.askHalt s p).aux = s.aux ∧ (State.askHalt s p).flt = s.flt ∧ (State.askHalt s p).tim = s.tim ∧
    (State.askHalt s p).net = s.net ∧ (State.askHalt s p).prt = s.prt ∧ (State.askHalt s p).trp = s.trp ∧
    (State.askHalt s p).lgc = s.lgc ∧ (State.askHalt s p).gsv = s.gsv ∧ (State.askHalt s p).tph = s.tph ∧
    (State.askHalt s p).oz = s.oz ∧ (State.askHalt s p).sec = s.sec ∧ (State.askHalt s p).cmd = s.cmd ∧
    (State.askHalt s p).regs = s.regs := by
  have hfite := @State.ite_frame
  have hf1 := @State.setPod_frame
  simp [↓hfite, ↓hf1, State.askHalt]

theorem State.replay_frame (s : State) (p : ℕ) :
    (State.replay s p).now = s.now ∧ (State.replay s p).pending = s.pending ∧ (State.replay s p).regs0 = s.regs0 ∧
    (State.replay s p).freeCtr = s.freeCtr ∧ (State.replay s p).mode = s.mode ∧ (State.replay s p).mram = s.mram ∧
    (State.replay s p).sys = s.sys ∧ (State.replay s p).evt = s.evt ∧ (State.replay s p).ana = s.ana ∧
    (State.replay s p).aux = s.aux ∧ (State.replay s p).flt = s.flt ∧ (State.replay s p).tim = s.tim ∧
    (State.replay s p).net = s.net ∧ (State.replay s p).prt = s.prt ∧ (State.replay s p).trp = s.trp ∧
    (State.replay s p).lgc = s.lgc ∧ (State.replay s p).gsv = s.gsv ∧ (State.replay s p).tph = s.tph ∧
    (State.replay s p).oz = s.oz ∧ (State.replay s p).sec = s.sec ∧ (State.replay s p).cmd = s.cmd ∧
    (State.replay s p).regs = s.regs := by
  have hfite := @State.ite_frame
  have hf1 := @State.setPod_frame
  simp [↓hfite, ↓hf1, State.replay]

theorem nopEff_frame (s : State) :
    (nopEff s).now = s.now ∧ (nopEff s).pending = s.pending ∧ (nopEff s).regs0 = s.regs0 ∧
    (nopEff s).freeCtr = s.freeCtr ∧ (nopEff s).mode = s.mode ∧ (nopEff s).mram = s.mram ∧
    (nopEff s).sys.straps = s.sys.straps ∧ (nopEff s).sys.por = s.sys.por ∧ (nopEff s).sys.mapOn = s.sys.mapOn ∧
    (nopEff s).evt = s.evt ∧ (nopEff s).ana = s.ana ∧ (nopEff s).aux = s.aux ∧ (nopEff s).flt = s.flt ∧
    (nopEff s).tim = s.tim ∧ (nopEff s).net = s.net ∧ (nopEff s).prt = s.prt ∧ (nopEff s).trp = s.trp ∧
    (nopEff s).lgc = s.lgc ∧ (nopEff s).gsv = s.gsv ∧ (nopEff s).tph = s.tph ∧ (nopEff s).oz = s.oz ∧
    (nopEff s).sec = s.sec ∧ (nopEff s).cmd = s.cmd := by
  have hfite := @State.ite_frame
  have hf1 := @State.dbgDone_frame
  simp [↓hfite, ↓hf1, nopEff]

theorem haltEff_frame (s : State) :
    (haltEff s).now = s.now ∧ (haltEff s).pending = s.pending ∧ (haltEff s).regs0 = s.regs0 ∧
    (haltEff s).freeCtr = s.freeCtr ∧ (haltEff s).mode = s.mode ∧ (haltEff s).mram = s.mram ∧
    (haltEff s).sys.straps = s.sys.straps ∧ (haltEff s).sys.por = s.sys.por ∧ (haltEff s).sys.mapOn = s.sys.mapOn ∧
    (haltEff s).evt = s.evt ∧ (haltEff s).ana = s.ana ∧ (haltEff s).aux = s.aux ∧ (haltEff s).flt = s.flt ∧
    (haltEff s).tim = s.tim ∧ (haltEff s).net = s.net ∧ (haltEff s).prt = s.prt ∧ (haltEff s).trp = s.trp ∧
    (haltEff s).lgc = s.lgc ∧ (haltEff s).gsv = s.gsv ∧ (haltEff s).tph = s.tph ∧ (haltEff s).oz = s.oz ∧
    (haltEff s).sec = s.sec ∧ (haltEff s).cmd = s.cmd := by
  have hfite := @State.ite_frame
  have hf1 := @State.askHalt_frame
  have hf2 := @State.dbgDone_frame
  unfold haltEff
  (repeat' split) <;> simp [↓hfite, ↓hf1, ↓hf2]

theorem State.slowGoOn_frame (s : State) (p : ℕ) :
    (State.slowGoOn s p).now = s.now ∧ (State.slowGoOn s p).pending = s.pending ∧
    (State.slowGoOn s p).regs0 = s.regs0 ∧ (State.slowGoOn s p).freeCtr = s.freeCtr ∧
    (State.slowGoOn s p).mode = s.mode ∧ (State.slowGoOn s p).mram = s.mram ∧ (State.slowGoOn s p).sys = s.sys ∧
    (State.slowGoOn s p).evt = s.evt ∧ (State.slowGoOn s p).ana = s.ana ∧ (State.slowGoOn s p).aux = s.aux ∧
    (State.slowGoOn s p).flt = s.flt ∧ (State.slowGoOn s p).tim = s.tim ∧ (State.slowGoOn s p).net = s.net ∧
    (State.slowGoOn s p).trp = s.trp ∧ (State.slowGoOn s p).pod = s.pod ∧ (State.slowGoOn s p).lgc = s.lgc ∧
    (State.slowGoOn s p).gsv = s.gsv ∧ (State.slowGoOn s p).tph = s.tph ∧ (State.slowGoOn s p).oz = s.oz ∧
    (State.slowGoOn s p).sec = s.sec ∧ (State.slowGoOn s p).cmd = s.cmd ∧ (State.slowGoOn s p).regs = s.regs := by
  have hfite := @State.ite_frame
  have hf1 := @State.setSlow_frame
  simp [↓hfite, ↓hf1, State.slowGoOn]

theorem resumeEff_frame (s : State) :
    (resumeEff s).now = s.now ∧ (resumeEff s).pending = s.pending ∧ (resumeEff s).regs0 = s.regs0 ∧
    (resumeEff s).freeCtr = s.freeCtr ∧ (resumeEff s).mode = s.mode ∧ (resumeEff s).mram = s.mram ∧
    (resumeEff s).sys.straps = s.sys.straps ∧ (resumeEff s).sys.por = s.sys.por ∧
    (resumeEff s).sys.mapOn = s.sys.mapOn ∧ (resumeEff s).evt = s.evt ∧ (resumeEff s).ana = s.ana ∧
    (resumeEff s).aux = s.aux ∧ (resumeEff s).flt = s.flt ∧ (resumeEff s).tim = s.tim ∧ (resumeEff s).net = s.net ∧
    (resumeEff s).trp = s.trp ∧ (resumeEff s).gsv = s.gsv ∧ (resumeEff s).tph = s.tph ∧ (resumeEff s).oz = s.oz ∧
    (resumeEff s).sec = s.sec ∧ (resumeEff s).cmd = s.cmd := by
  have hfite := @State.ite_frame
  have hf1 := @State.replay_frame
  have hf2 := @State.setF_frame
  have hf3 := @State.slowGoOn_frame
  have hf4 := @State.dbgDone_frame
  have hf5 := @State.setRun_frame
  have hf6 := @State.leaveHold_frame
  unfold resumeEff
  (repeat' split) <;> simp [↓hfite, ↓hf1, ↓hf2, ↓hf3, ↓hf4, ↓hf5, ↓hf6]

theorem stepEff_frame (s : State) :
    (stepEff s).now = s.now ∧ (stepEff s).pending = s.pending ∧ (stepEff s).regs0 = s.regs0 ∧
    (stepEff s).freeCtr = s.freeCtr ∧ (stepEff s).mode = s.mode ∧ (stepEff s).mram = s.mram ∧
    (stepEff s).sys.straps = s.sys.straps ∧ (stepEff s).sys.por = s.sys.por ∧ (stepEff s).sys.mapOn = s.sys.mapOn ∧
    (stepEff s).evt = s.evt ∧ (stepEff s).ana = s.ana ∧ (stepEff s).aux = s.aux ∧ (stepEff s).flt = s.flt ∧
    (stepEff s).tim = s.tim ∧ (stepEff s).net = s.net ∧ (stepEff s).trp = s.trp ∧ (stepEff s).lgc = s.lgc ∧
    (stepEff s).gsv = s.gsv ∧ (stepEff s).tph = s.tph ∧ (stepEff s).oz = s.oz ∧ (stepEff s).sec = s.sec ∧
    (stepEff s).cmd = s.cmd := by
  have hfite := @State.ite_frame
  have hf1 := @State.askHalt_frame
  have hf2 := @State.replay_frame
  have hf3 := @State.setF_frame
  have hf4 := @State.slowGoOn_frame
  have hf5 := @State.dbgDone_frame
  have hf6 := @State.setRun_frame
  unfold stepEff
  (repeat' split) <;> simp [↓hfite, ↓hf1, ↓hf2, ↓hf3, ↓hf4, ↓hf5, ↓hf6]

theorem readRegEff_frame (a : ℕ) (s : State) :
    (readRegEff a s).now = s.now ∧ (readRegEff a s).pending = s.pending ∧ (readRegEff a s).regs0 = s.regs0 ∧
    (readRegEff a s).freeCtr = s.freeCtr ∧ (readRegEff a s).mode = s.mode ∧ (readRegEff a s).mram = s.mram ∧
    (readRegEff a s).sys.straps = s.sys.straps ∧ (readRegEff a s).sys.por = s.sys.por ∧
    (readRegEff a s).sys.mapOn = s.sys.mapOn ∧ (readRegEff a s).evt = s.evt ∧ (readRegEff a s).ana = s.ana ∧
    (readRegEff a s).aux = s.aux ∧ (readRegEff a s).flt = s.flt ∧ (readRegEff a s).tim = s.tim ∧
    (readRegEff a s).net = s.net ∧ (readRegEff a s).prt = s.prt ∧ (readRegEff a s).trp = s.trp ∧
    (readRegEff a s).lgc = s.lgc ∧ (readRegEff a s).gsv = s.gsv ∧ (readRegEff a s).tph = s.tph ∧
    (readRegEff a s).oz = s.oz ∧ (readRegEff a s).sec = s.sec ∧ (readRegEff a s).cmd = s.cmd := by
  have hfite := @State.ite_frame
  have hf1 := @State.dbgDone_frame
  have hf2 := @State.dbgPut_frame
  unfold readRegEff
  (repeat' split) <;> simp [↓hfite, ↓hf1, ↓hf2]

theorem readMemEff_frame (a : ℕ) (s : State) :
    (readMemEff a s).now = s.now ∧ (readMemEff a s).pending = s.pending ∧ (readMemEff a s).regs0 = s.regs0 ∧
    (readMemEff a s).freeCtr = s.freeCtr ∧ (readMemEff a s).mode = s.mode ∧ (readMemEff a s).mram = s.mram ∧
    (readMemEff a s).sys.straps = s.sys.straps ∧ (readMemEff a s).sys.por = s.sys.por ∧
    (readMemEff a s).sys.mapOn = s.sys.mapOn ∧ (readMemEff a s).evt = s.evt ∧ (readMemEff a s).ana = s.ana ∧
    (readMemEff a s).aux = s.aux ∧ (readMemEff a s).flt = s.flt ∧ (readMemEff a s).tim = s.tim ∧
    (readMemEff a s).net = s.net ∧ (readMemEff a s).prt = s.prt ∧ (readMemEff a s).trp = s.trp ∧
    (readMemEff a s).lgc = s.lgc ∧ (readMemEff a s).gsv = s.gsv ∧ (readMemEff a s).tph = s.tph ∧
    (readMemEff a s).oz = s.oz ∧ (readMemEff a s).sec = s.sec ∧ (readMemEff a s).cmd = s.cmd := by
  have hfite := @State.ite_frame
  have hf1 := @State.dbgDone_frame
  have hf2 := @State.dbgPut_frame
  simp [↓hfite, ↓hf1, ↓hf2, readMemEff]

theorem writeMemEff_frame (a : ℕ) (d : ℕ) (s : State) :
    (writeMemEff a d s).now = s.now ∧ (writeMemEff a d s).pending = s.pending ∧ (writeMemEff a d s).regs0 = s.regs0 ∧
    (writeMemEff a d s).freeCtr = s.freeCtr ∧ (writeMemEff a d s).mode = s.mode ∧ (writeMemEff a d s).mram = s.mram ∧
    (writeMemEff a d s).sys.straps = s.sys.straps ∧ (writeMemEff a d s).sys.por = s.sys.por ∧
    (writeMemEff a d s).sys.mapOn = s.sys.mapOn ∧ (writeMemEff a d s).evt = s.evt ∧ (writeMemEff a d s).ana = s.ana ∧
    (writeMemEff a d s).aux = s.aux ∧ (writeMemEff a d s).flt = s.flt ∧ (writeMemEff a d s).tim = s.tim ∧
    (writeMemEff a d s).net = s.net ∧ (writeMemEff a d s).prt = s.prt ∧ (writeMemEff a d s).trp = s.trp ∧
    (writeMemEff a d s).gsv = s.gsv ∧ (writeMemEff a d s).tph = s.tph ∧ (writeMemEff a d s).oz = s.oz ∧
    (writeMemEff a d s).sec = s.sec ∧ (writeMemEff a d s).cmd = s.cmd := by
  have hfite := @State.ite_frame
  have hf1 := @State.incSat_frame
  have hf2 := @State.podWrite_frame
  have hf3 := @State.dbgDone_frame
  have hf4 := @State.dbgPut_frame
  simp [↓hfite, ↓hf1, ↓hf2, ↓hf3, ↓hf4, writeMemEff]
  (repeat' split) <;> simp [↓hfite, ↓hf1, ↓hf2, ↓hf3, ↓hf4]

theorem State.setBpAt_frame (s : State) (p : ℕ) (i : ℕ) (b : Option ℕ) :
    (State.setBpAt s p i b).now = s.now ∧ (State.setBpAt s p i b).pending = s.pending ∧
    (State.setBpAt s p i b).regs0 = s.regs0 ∧ (State.setBpAt s p i b).freeCtr = s.freeCtr ∧
    (State.setBpAt s p i b).mode = s.mode ∧ (State.setBpAt s p i b).mram = s.mram ∧
    (State.setBpAt s p i b).sys = s.sys ∧ (State.setBpAt s p i b).evt = s.evt ∧ (State.setBpAt s p i b).ana = s.ana ∧
    (State.setBpAt s p i b).aux = s.aux ∧ (State.setBpAt s p i b).flt = s.flt ∧ (State.setBpAt s p i b).tim = s.tim ∧
    (State.setBpAt s p i b).net = s.net ∧ (State.setBpAt s p i b).prt = s.prt ∧ (State.setBpAt s p i b).trp = s.trp ∧
    (State.setBpAt s p i b).lgc = s.lgc ∧ (State.setBpAt s p i b).gsv = s.gsv ∧ (State.setBpAt s p i b).tph = s.tph ∧
    (State.setBpAt s p i b).oz = s.oz ∧ (State.setBpAt s p i b).sec = s.sec ∧ (State.setBpAt s p i b).cmd = s.cmd ∧
    (State.setBpAt s p i b).regs = s.regs := by
  have hfite := @State.ite_frame
  have hf1 := @State.setPod_frame
  simp [↓hfite, ↓hf1, State.setBpAt]

theorem breakpointHitEff_frame (p : ℕ) (i : ℕ) (s : State) :
    (breakpointHitEff p i s).now = s.now ∧ (breakpointHitEff p i s).pending = s.pending ∧
    (breakpointHitEff p i s).regs0 = s.regs0 ∧ (breakpointHitEff p i s).freeCtr = s.freeCtr ∧
    (breakpointHitEff p i s).mode = s.mode ∧ (breakpointHitEff p i s).mram = s.mram ∧
    (breakpointHitEff p i s).sys = s.sys ∧ (breakpointHitEff p i s).evt = s.evt ∧
    (breakpointHitEff p i s).ana = s.ana ∧ (breakpointHitEff p i s).aux = s.aux ∧
    (breakpointHitEff p i s).flt = s.flt ∧ (breakpointHitEff p i s).tim = s.tim ∧
    (breakpointHitEff p i s).net = s.net ∧ (breakpointHitEff p i s).prt = s.prt ∧
    (breakpointHitEff p i s).trp = s.trp ∧ (breakpointHitEff p i s).lgc = s.lgc ∧
    (breakpointHitEff p i s).gsv = s.gsv ∧ (breakpointHitEff p i s).tph = s.tph ∧
    (breakpointHitEff p i s).oz = s.oz ∧ (breakpointHitEff p i s).sec = s.sec ∧
    (breakpointHitEff p i s).cmd = s.cmd ∧ (breakpointHitEff p i s).regs = s.regs := by
  have hfite := @State.ite_frame
  have hf1 := @State.askHalt_frame
  simp [↓hfite, ↓hf1, breakpointHitEff]

theorem State.debugLock_frame (s : State) :
    (State.debugLock s).now = s.now ∧ (State.debugLock s).pending = s.pending ∧ (State.debugLock s).regs0 = s.regs0 ∧
    (State.debugLock s).freeCtr = s.freeCtr ∧ (State.debugLock s).mode = s.mode ∧ (State.debugLock s).mram = s.mram ∧
    (State.debugLock s).sys = s.sys ∧ (State.debugLock s).evt = s.evt ∧ (State.debugLock s).ana = s.ana ∧
    (State.debugLock s).aux = s.aux ∧ (State.debugLock s).flt = s.flt ∧ (State.debugLock s).tim = s.tim ∧
    (State.debugLock s).net = s.net ∧ (State.debugLock s).prt = s.prt ∧ (State.debugLock s).trp = s.trp ∧
    (State.debugLock s).lgc = s.lgc ∧ (State.debugLock s).gsv = s.gsv ∧ (State.debugLock s).tph = s.tph ∧
    (State.debugLock s).oz = s.oz ∧ (State.debugLock s).sec = s.sec ∧ (State.debugLock s).cmd = s.cmd := by
  have hfite := @State.ite_frame
  have hf1 := @State.setFlag_frame
  have hf2 := @State.setF_frame
  have hf3 := @State.setPod_frame
  simp [↓hfite, ↓hf1, ↓hf2, ↓hf3, State.debugLock]

theorem dbgUndefinedOpEff_frame (op : ℕ) (s : State) :
    (dbgUndefinedOpEff op s).now = s.now ∧ (dbgUndefinedOpEff op s).pending = s.pending ∧
    (dbgUndefinedOpEff op s).regs0 = s.regs0 ∧ (dbgUndefinedOpEff op s).freeCtr = s.freeCtr ∧
    (dbgUndefinedOpEff op s).mode = s.mode ∧ (dbgUndefinedOpEff op s).mram = s.mram ∧
    (dbgUndefinedOpEff op s).sys.straps = s.sys.straps ∧ (dbgUndefinedOpEff op s).sys.por = s.sys.por ∧
    (dbgUndefinedOpEff op s).sys.mapOn = s.sys.mapOn ∧ (dbgUndefinedOpEff op s).evt = s.evt ∧
    (dbgUndefinedOpEff op s).ana = s.ana ∧ (dbgUndefinedOpEff op s).aux = s.aux ∧
    (dbgUndefinedOpEff op s).flt = s.flt ∧ (dbgUndefinedOpEff op s).tim = s.tim ∧
    (dbgUndefinedOpEff op s).net = s.net ∧ (dbgUndefinedOpEff op s).prt = s.prt ∧
    (dbgUndefinedOpEff op s).trp = s.trp ∧ (dbgUndefinedOpEff op s).lgc = s.lgc ∧
    (dbgUndefinedOpEff op s).gsv = s.gsv ∧ (dbgUndefinedOpEff op s).tph = s.tph ∧
    (dbgUndefinedOpEff op s).oz = s.oz ∧ (dbgUndefinedOpEff op s).sec = s.sec ∧ (dbgUndefinedOpEff op s).cmd = s.cmd := by
  have hfite := @State.ite_frame
  have hf1 := @State.dbgDone_frame
  simp [↓hfite, ↓hf1, dbgUndefinedOpEff]


@[simp ↓] theorem State.logged_now (s : State) (e : LogEntry) (f : State → State)
    (h : ∀ s, (f s).now = s.now) : (s.logged e f).now = s.now := by
  have hf1 := @State.dbgDone_frame
  unfold State.logged
  (repeat' split) <;> simp [↓hf1, h]

@[simp ↓] theorem State.logged_pending (s : State) (e : LogEntry) (f : State → State)
    (h : ∀ s, (f s).pending = s.pending) : (s.logged e f).pending = s.pending := by
  have hf1 := @State.dbgDone_frame
  unfold State.logged
  (repeat' split) <;> simp [↓hf1, h]

@[simp ↓] theorem State.logged_regs0 (s : State) (e : LogEntry) (f : State → State)
    (h : ∀ s, (f s).regs0 = s.regs0) : (s.logged e f).regs0 = s.regs0 := by
  have hf1 := @State.dbgDone_frame
  unfold State.logged
  (repeat' split) <;> simp [↓hf1, h]

@[simp ↓] theorem State.logged_freeCtr (s : State) (e : LogEntry) (f : State → State)
    (h : ∀ s, (f s).freeCtr = s.freeCtr) : (s.logged e f).freeCtr = s.freeCtr := by
  have hf1 := @State.dbgDone_frame
  unfold State.logged
  (repeat' split) <;> simp [↓hf1, h]

@[simp ↓] theorem State.logged_mode (s : State) (e : LogEntry) (f : State → State)
    (h : ∀ s, (f s).mode = s.mode) : (s.logged e f).mode = s.mode := by
  have hf1 := @State.dbgDone_frame
  unfold State.logged
  (repeat' split) <;> simp [↓hf1, h]

@[simp ↓] theorem State.logged_mram (s : State) (e : LogEntry) (f : State → State)
    (h : ∀ s, (f s).mram = s.mram) : (s.logged e f).mram = s.mram := by
  have hf1 := @State.dbgDone_frame
  unfold State.logged
  (repeat' split) <;> simp [↓hf1, h]

@[simp ↓] theorem State.logged_evt (s : State) (e : LogEntry) (f : State → State)
    (h : ∀ s, (f s).evt = s.evt) : (s.logged e f).evt = s.evt := by
  have hf1 := @State.dbgDone_frame
  unfold State.logged
  (repeat' split) <;> simp [↓hf1, h]

@[simp ↓] theorem State.logged_ana (s : State) (e : LogEntry) (f : State → State)
    (h : ∀ s, (f s).ana = s.ana) : (s.logged e f).ana = s.ana := by
  have hf1 := @State.dbgDone_frame
  unfold State.logged
  (repeat' split) <;> simp [↓hf1, h]

@[simp ↓] theorem State.logged_aux (s : State) (e : LogEntry) (f : State → State)
    (h : ∀ s, (f s).aux = s.aux) : (s.logged e f).aux = s.aux := by
  have hf1 := @State.dbgDone_frame
  unfold State.logged
  (repeat' split) <;> simp [↓hf1, h]

@[simp ↓] theorem State.logged_flt (s : State) (e : LogEntry) (f : State → State)
    (h : ∀ s, (f s).flt = s.flt) : (s.logged e f).flt = s.flt := by
  have hf1 := @State.dbgDone_frame
  unfold State.logged
  (repeat' split) <;> simp [↓hf1, h]

@[simp ↓] theorem State.logged_tim (s : State) (e : LogEntry) (f : State → State)
    (h : ∀ s, (f s).tim = s.tim) : (s.logged e f).tim = s.tim := by
  have hf1 := @State.dbgDone_frame
  unfold State.logged
  (repeat' split) <;> simp [↓hf1, h]

@[simp ↓] theorem State.logged_net (s : State) (e : LogEntry) (f : State → State)
    (h : ∀ s, (f s).net = s.net) : (s.logged e f).net = s.net := by
  have hf1 := @State.dbgDone_frame
  unfold State.logged
  (repeat' split) <;> simp [↓hf1, h]

@[simp ↓] theorem State.logged_prt (s : State) (e : LogEntry) (f : State → State)
    (h : ∀ s, (f s).prt = s.prt) : (s.logged e f).prt = s.prt := by
  have hf1 := @State.dbgDone_frame
  unfold State.logged
  (repeat' split) <;> simp [↓hf1, h]

@[simp ↓] theorem State.logged_trp (s : State) (e : LogEntry) (f : State → State)
    (h : ∀ s, (f s).trp = s.trp) : (s.logged e f).trp = s.trp := by
  have hf1 := @State.dbgDone_frame
  unfold State.logged
  (repeat' split) <;> simp [↓hf1, h]

@[simp ↓] theorem State.logged_lgc (s : State) (e : LogEntry) (f : State → State)
    (h : ∀ s, (f s).lgc = s.lgc) : (s.logged e f).lgc = s.lgc := by
  have hf1 := @State.dbgDone_frame
  unfold State.logged
  (repeat' split) <;> simp [↓hf1, h]

@[simp ↓] theorem State.logged_gsv (s : State) (e : LogEntry) (f : State → State)
    (h : ∀ s, (f s).gsv = s.gsv) : (s.logged e f).gsv = s.gsv := by
  have hf1 := @State.dbgDone_frame
  unfold State.logged
  (repeat' split) <;> simp [↓hf1, h]

@[simp ↓] theorem State.logged_tph (s : State) (e : LogEntry) (f : State → State)
    (h : ∀ s, (f s).tph = s.tph) : (s.logged e f).tph = s.tph := by
  have hf1 := @State.dbgDone_frame
  unfold State.logged
  (repeat' split) <;> simp [↓hf1, h]

@[simp ↓] theorem State.logged_oz (s : State) (e : LogEntry) (f : State → State)
    (h : ∀ s, (f s).oz = s.oz) : (s.logged e f).oz = s.oz := by
  have hf1 := @State.dbgDone_frame
  unfold State.logged
  (repeat' split) <;> simp [↓hf1, h]

@[simp ↓] theorem State.logged_sec (s : State) (e : LogEntry) (f : State → State)
    (h : ∀ s, (f s).sec = s.sec) : (s.logged e f).sec = s.sec := by
  have hf1 := @State.dbgDone_frame
  unfold State.logged
  (repeat' split) <;> simp [↓hf1, h]

@[simp ↓] theorem State.logged_cmd (s : State) (e : LogEntry) (f : State → State)
    (h : ∀ s, (f s).cmd = s.cmd) : (s.logged e f).cmd = s.cmd := by
  have hf1 := @State.dbgDone_frame
  unfold State.logged
  (repeat' split) <;> simp [↓hf1, h]

@[simp ↓] theorem State.logged_mram_keyCnt (s : State) (e : LogEntry) (f : State → State)
    (h : ∀ s, (f s).mram.keyCnt = s.mram.keyCnt) : (s.logged e f).mram.keyCnt = s.mram.keyCnt := by
  have hf1 := @State.dbgDone_frame
  unfold State.logged
  (repeat' split) <;> simp [↓hf1, h]

@[simp ↓] theorem State.logged_mram_boot (s : State) (e : LogEntry) (f : State → State)
    (h : ∀ s, (f s).mram.boot = s.mram.boot) : (s.logged e f).mram.boot = s.mram.boot := by
  have hf1 := @State.dbgDone_frame
  unfold State.logged
  (repeat' split) <;> simp [↓hf1, h]

@[simp ↓] theorem State.logged_sec_otp (s : State) (e : LogEntry) (f : State → State)
    (h : ∀ s, (f s).sec.otp = s.sec.otp) : (s.logged e f).sec.otp = s.sec.otp := by
  have hf1 := @State.dbgDone_frame
  unfold State.logged
  (repeat' split) <;> simp [↓hf1, h]

@[simp ↓] theorem State.logged_sec_keys (s : State) (e : LogEntry) (f : State → State)
    (h : ∀ s, (f s).sec.keys = s.sec.keys) : (s.logged e f).sec.keys = s.sec.keys := by
  have hf1 := @State.dbgDone_frame
  unfold State.logged
  (repeat' split) <;> simp [↓hf1, h]

@[simp ↓] theorem State.logged_cmd_run (s : State) (e : LogEntry) (f : State → State)
    (h : ∀ s, (f s).cmd.run = s.cmd.run) : (s.logged e f).cmd.run = s.cmd.run := by
  have hf1 := @State.dbgDone_frame
  unfold State.logged
  (repeat' split) <;> simp [↓hf1, h]

@[simp ↓] theorem State.logged_cmd_svc (s : State) (e : LogEntry) (f : State → State)
    (h : ∀ s, (f s).cmd.svc = s.cmd.svc) : (s.logged e f).cmd.svc = s.cmd.svc := by
  have hf1 := @State.dbgDone_frame
  unfold State.logged
  (repeat' split) <;> simp [↓hf1, h]

@[simp ↓] theorem State.logged_sys_straps (s : State) (e : LogEntry) (f : State → State)
    (h : ∀ s, (f s).sys.straps = s.sys.straps) : (s.logged e f).sys.straps = s.sys.straps := by
  have hf1 := @State.dbgDone_frame
  unfold State.logged
  (repeat' split) <;> simp [↓hf1, h]

@[simp ↓] theorem State.logged_sys_por (s : State) (e : LogEntry) (f : State → State)
    (h : ∀ s, (f s).sys.por = s.sys.por) : (s.logged e f).sys.por = s.sys.por := by
  have hf1 := @State.dbgDone_frame
  unfold State.logged
  (repeat' split) <;> simp [↓hf1, h]

@[simp ↓] theorem State.logged_sys_mapOn (s : State) (e : LogEntry) (f : State → State)
    (h : ∀ s, (f s).sys.mapOn = s.sys.mapOn) : (s.logged e f).sys.mapOn = s.sys.mapOn := by
  have hf1 := @State.dbgDone_frame
  unfold State.logged
  (repeat' split) <;> simp [↓hf1, h]

theorem clrBpEff_frame (i : ℕ) (s : State) :
    (clrBpEff i s).now = s.now ∧ (clrBpEff i s).pending = s.pending ∧ (clrBpEff i s).regs0 = s.regs0 ∧
    (clrBpEff i s).freeCtr = s.freeCtr ∧ (clrBpEff i s).mode = s.mode ∧ (clrBpEff i s).mram = s.mram ∧
    (clrBpEff i s).sys.straps = s.sys.straps ∧ (clrBpEff i s).sys.por = s.sys.por ∧
    (clrBpEff i s).sys.mapOn = s.sys.mapOn ∧ (clrBpEff i s).evt = s.evt ∧ (clrBpEff i s).ana = s.ana ∧
    (clrBpEff i s).aux = s.aux ∧ (clrBpEff i s).flt = s.flt ∧ (clrBpEff i s).tim = s.tim ∧
    (clrBpEff i s).net = s.net ∧ (clrBpEff i s).prt = s.prt ∧ (clrBpEff i s).trp = s.trp ∧
    (clrBpEff i s).lgc = s.lgc ∧ (clrBpEff i s).gsv = s.gsv ∧ (clrBpEff i s).tph = s.tph ∧ (clrBpEff i s).oz = s.oz ∧
    (clrBpEff i s).sec = s.sec ∧ (clrBpEff i s).cmd = s.cmd := by
  have hfite := @State.ite_frame
  have hf1 := @State.setBpAt_frame
  simp [↓hfite, ↓hf1, clrBpEff]

theorem setBpEff_frame (i : ℕ) (d : ℕ) (s : State) :
    (setBpEff i d s).now = s.now ∧ (setBpEff i d s).pending = s.pending ∧ (setBpEff i d s).regs0 = s.regs0 ∧
    (setBpEff i d s).freeCtr = s.freeCtr ∧ (setBpEff i d s).mode = s.mode ∧ (setBpEff i d s).mram = s.mram ∧
    (setBpEff i d s).sys.straps = s.sys.straps ∧ (setBpEff i d s).sys.por = s.sys.por ∧
    (setBpEff i d s).sys.mapOn = s.sys.mapOn ∧ (setBpEff i d s).evt = s.evt ∧ (setBpEff i d s).ana = s.ana ∧
    (setBpEff i d s).aux = s.aux ∧ (setBpEff i d s).flt = s.flt ∧ (setBpEff i d s).tim = s.tim ∧
    (setBpEff i d s).net = s.net ∧ (setBpEff i d s).prt = s.prt ∧ (setBpEff i d s).trp = s.trp ∧
    (setBpEff i d s).lgc = s.lgc ∧ (setBpEff i d s).gsv = s.gsv ∧ (setBpEff i d s).tph = s.tph ∧
    (setBpEff i d s).oz = s.oz ∧ (setBpEff i d s).sec = s.sec ∧ (setBpEff i d s).cmd = s.cmd := by
  have hfite := @State.ite_frame
  have hf1 := @State.setBpAt_frame
  have hf2 := @State.dbgPut_frame
  simp [↓hfite, ↓hf1, ↓hf2, setBpEff]

theorem writeRegEff_frame (a : ℕ) (d : ℕ) (s : State) :
    (writeRegEff a d s).now = s.now ∧ (writeRegEff a d s).pending = s.pending ∧ (writeRegEff a d s).regs0 = s.regs0 ∧
    (writeRegEff a d s).freeCtr = s.freeCtr ∧ (writeRegEff a d s).mode = s.mode ∧ (writeRegEff a d s).mram = s.mram ∧
    (writeRegEff a d s).sys.straps = s.sys.straps ∧ (writeRegEff a d s).sys.por = s.sys.por ∧
    (writeRegEff a d s).sys.mapOn = s.sys.mapOn ∧ (writeRegEff a d s).evt = s.evt ∧ (writeRegEff a d s).ana = s.ana ∧
    (writeRegEff a d s).aux = s.aux ∧ (writeRegEff a d s).flt = s.flt ∧ (writeRegEff a d s).tim = s.tim ∧
    (writeRegEff a d s).net = s.net ∧ (writeRegEff a d s).prt = s.prt ∧ (writeRegEff a d s).trp = s.trp ∧
    (writeRegEff a d s).lgc = s.lgc ∧ (writeRegEff a d s).gsv = s.gsv ∧ (writeRegEff a d s).tph = s.tph ∧
    (writeRegEff a d s).oz = s.oz ∧ (writeRegEff a d s).sec = s.sec ∧ (writeRegEff a d s).cmd = s.cmd := by
  have hfite := @State.ite_frame
  have hf1 := @State.incSat_frame
  have hf2 := @State.setPod_frame
  have hf3 := @State.dbgPut_frame
  simp [↓hfite, ↓hf1, ↓hf2, ↓hf3, writeRegEff]

end Sys2Proof.Machine
end

