-- ==== Sys2Proof/Laws/FrameAccess.lean ====
section
/-!
SUPPORT. What the operations of Machine/Access.lean leave as it was: one lemma per operation, over the parts of the state.
-/
set_option linter.all false
set_option Elab.async false
namespace Sys2Proof.Machine
theorem State.rsvSeen_frame (s : State) (r : Requester) (a : ℕ) :
    (State.rsvSeen s r a).now = s.now ∧ (State.rsvSeen s r a).pending = s.pending ∧
    (State.rsvSeen s r a).regs0 = s.regs0 ∧ (State.rsvSeen s r a).freeCtr = s.freeCtr ∧
    (State.rsvSeen s r a).mode = s.mode ∧ (State.rsvSeen s r a).mram = s.mram ∧ (State.rsvSeen s r a).sys = s.sys ∧
    (State.rsvSeen s r a).evt = s.evt ∧ (State.rsvSeen s r a).ana = s.ana ∧ (State.rsvSeen s r a).aux = s.aux ∧
    (State.rsvSeen s r a).flt = s.flt ∧ (State.rsvSeen s r a).tim = s.tim ∧ (State.rsvSeen s r a).net = s.net ∧
    (State.rsvSeen s r a).prt = s.prt ∧ (State.rsvSeen s r a).trp = s.trp ∧ (State.rsvSeen s r a).pod = s.pod ∧
    (State.rsvSeen s r a).lgc = s.lgc ∧ (State.rsvSeen s r a).gsv = s.gsv ∧ (State.rsvSeen s r a).tph = s.tph ∧
    (State.rsvSeen s r a).oz = s.oz ∧ (State.rsvSeen s r a).sec = s.sec ∧ (State.rsvSeen s r a).cmd = s.cmd := by
  have hf1 := @State.setF_frame
  have hf2 := @State.setFlag_frame
  simp [↓hf1, ↓hf2, State.rsvSeen]

theorem State.followWord_frame (s : State) (r : Requester) (c : ℕ) (k : ℕ) (a : ℕ) :
    (State.followWord s r c k a).2.now = s.now ∧ (State.followWord s r c k a).2.pending = s.pending ∧
    (State.followWord s r c k a).2.regs0 = s.regs0 ∧ (State.followWord s r c k a).2.freeCtr = s.freeCtr ∧
    (State.followWord s r c k a).2.mode = s.mode ∧ (State.followWord s r c k a).2.mram = s.mram ∧
    (State.followWord s r c k a).2.sys = s.sys ∧ (State.followWord s r c k a).2.evt = s.evt ∧
    (State.followWord s r c k a).2.ana = s.ana ∧ (State.followWord s r c k a).2.aux = s.aux ∧
    (State.followWord s r c k a).2.flt = s.flt ∧ (State.followWord s r c k a).2.tim = s.tim ∧
    (State.followWord s r c k a).2.net = s.net ∧ (State.followWord s r c k a).2.prt = s.prt ∧
    (State.followWord s r c k a).2.trp = s.trp ∧ (State.followWord s r c k a).2.pod = s.pod ∧
    (State.followWord s r c k a).2.lgc = s.lgc ∧ (State.followWord s r c k a).2.gsv = s.gsv ∧
    (State.followWord s r c k a).2.tph = s.tph ∧ (State.followWord s r c k a).2.oz = s.oz ∧
    (State.followWord s r c k a).2.sec = s.sec ∧ (State.followWord s r c k a).2.cmd = s.cmd := by
  have hf1 := @State.setF_frame
  have hf2 := @State.setFlag_frame
  unfold State.followWord
  (repeat' split) <;> simp [↓hf1, ↓hf2]

theorem State.readReg_frame (s : State) (r : Requester) (a : ℕ) :
    (State.readReg s r a).2.now = s.now ∧ (State.readReg s r a).2.pending = s.pending ∧
    (State.readReg s r a).2.regs0 = s.regs0 ∧ (State.readReg s r a).2.freeCtr = s.freeCtr ∧
    (State.readReg s r a).2.mode = s.mode ∧ (State.readReg s r a).2.mram.keyCnt = s.mram.keyCnt ∧
    (State.readReg s r a).2.mram.boot = s.mram.boot ∧ (State.readReg s r a).2.sys.straps = s.sys.straps ∧
    (State.readReg s r a).2.sys.por = s.sys.por ∧ (State.readReg s r a).2.sys.mapOn = s.sys.mapOn ∧
    (State.readReg s r a).2.ana = s.ana ∧ (State.readReg s r a).2.flt = s.flt ∧ (State.readReg s r a).2.tim = s.tim ∧
    (State.readReg s r a).2.net = s.net ∧ (State.readReg s r a).2.prt = s.prt ∧ (State.readReg s r a).2.trp = s.trp ∧
    (State.readReg s r a).2.pod = s.pod ∧ (State.readReg s r a).2.lgc = s.lgc ∧ (State.readReg s r a).2.gsv = s.gsv ∧
    (State.readReg s r a).2.tph = s.tph ∧ (State.readReg s r a).2.oz = s.oz ∧ (State.readReg s r a).2.sec = s.sec ∧
    (State.readReg s r a).2.cmd = s.cmd := by
  have hf1 := @State.rsvSeen_frame
  have hf2 := @State.capture_frame
  have hf3 := @State.auxPop_frame
  have hf4 := @State.followWord_frame
  have hf5 := @State.deny_frame
  unfold State.readReg
  (repeat' split) <;> simp [↓hf1, ↓hf2, ↓hf3, ↓hf4, ↓hf5]

theorem State.readWord_frame (s : State) (r : Requester) (a : ℕ) :
    (State.readWord s r a).2.now = s.now ∧ (State.readWord s r a).2.pending = s.pending ∧
    (State.readWord s r a).2.regs0 = s.regs0 ∧ (State.readWord s r a).2.freeCtr = s.freeCtr ∧
    (State.readWord s r a).2.mode = s.mode ∧ (State.readWord s r a).2.mram.keyCnt = s.mram.keyCnt ∧
    (State.readWord s r a).2.mram.boot = s.mram.boot ∧ (State.readWord s r a).2.sys.straps = s.sys.straps ∧
    (State.readWord s r a).2.sys.por = s.sys.por ∧ (State.readWord s r a).2.sys.mapOn = s.sys.mapOn ∧
    (State.readWord s r a).2.ana = s.ana ∧ (State.readWord s r a).2.flt = s.flt ∧
    (State.readWord s r a).2.tim = s.tim ∧ (State.readWord s r a).2.net = s.net ∧
    (State.readWord s r a).2.prt = s.prt ∧ (State.readWord s r a).2.trp = s.trp ∧
    (State.readWord s r a).2.pod = s.pod ∧ (State.readWord s r a).2.lgc = s.lgc ∧
    (State.readWord s r a).2.gsv = s.gsv ∧ (State.readWord s r a).2.tph = s.tph ∧
    (State.readWord s r a).2.oz = s.oz ∧ (State.readWord s r a).2.sec = s.sec ∧ (State.readWord s r a).2.cmd = s.cmd := by
  have hf1 := @State.rsvSeen_frame
  have hf2 := @State.windowRead_frame
  have hf3 := @State.readReg_frame
  unfold State.readWord
  (repeat' split) <;> simp [↓hf1, ↓hf2, ↓hf3]

theorem State.plainWrite_frame (f : RegFam) (a : ℕ) (v : ℕ) (s : State) :
    (State.plainWrite f a v s).2.now = s.now ∧ (State.plainWrite f a v s).2.pending = s.pending ∧
    (State.plainWrite f a v s).2.regs0 = s.regs0 ∧ (State.plainWrite f a v s).2.freeCtr = s.freeCtr ∧
    (State.plainWrite f a v s).2.mode = s.mode ∧ (State.plainWrite f a v s).2.mram = s.mram ∧
    (State.plainWrite f a v s).2.sys = s.sys ∧ (State.plainWrite f a v s).2.evt = s.evt ∧
    (State.plainWrite f a v s).2.ana = s.ana ∧ (State.plainWrite f a v s).2.aux = s.aux ∧
    (State.plainWrite f a v s).2.flt = s.flt ∧ (State.plainWrite f a v s).2.tim = s.tim ∧
    (State.plainWrite f a v s).2.net = s.net ∧ (State.plainWrite f a v s).2.prt = s.prt ∧
    (State.plainWrite f a v s).2.trp = s.trp ∧ (State.plainWrite f a v s).2.pod = s.pod ∧
    (State.plainWrite f a v s).2.lgc = s.lgc ∧ (State.plainWrite f a v s).2.gsv = s.gsv ∧
    (State.plainWrite f a v s).2.tph = s.tph ∧ (State.plainWrite f a v s).2.oz = s.oz ∧
    (State.plainWrite f a v s).2.sec = s.sec ∧ (State.plainWrite f a v s).2.cmd = s.cmd := by
  have hf1 := @State.wr_frame
  simp [↓hf1, State.plainWrite]

theorem State.sysXcfgW_frame (v : ℕ) (s : State) :
    (State.sysXcfgW v s).2.now = s.now ∧ (State.sysXcfgW v s).2.pending = s.pending ∧
    (State.sysXcfgW v s).2.regs0 = s.regs0 ∧ (State.sysXcfgW v s).2.freeCtr = s.freeCtr ∧
    (State.sysXcfgW v s).2.mode = s.mode ∧ (State.sysXcfgW v s).2.mram = s.mram ∧
    (State.sysXcfgW v s).2.sys = s.sys ∧ (State.sysXcfgW v s).2.evt = s.evt ∧ (State.sysXcfgW v s).2.ana = s.ana ∧
    (State.sysXcfgW v s).2.aux = s.aux ∧ (State.sysXcfgW v s).2.flt = s.flt ∧ (State.sysXcfgW v s).2.tim = s.tim ∧
    (State.sysXcfgW v s).2.net = s.net ∧ (State.sysXcfgW v s).2.prt = s.prt ∧ (State.sysXcfgW v s).2.trp = s.trp ∧
    (State.sysXcfgW v s).2.pod = s.pod ∧ (State.sysXcfgW v s).2.lgc = s.lgc ∧ (State.sysXcfgW v s).2.gsv = s.gsv ∧
    (State.sysXcfgW v s).2.tph = s.tph ∧ (State.sysXcfgW v s).2.oz = s.oz ∧ (State.sysXcfgW v s).2.sec = s.sec ∧
    (State.sysXcfgW v s).2.cmd = s.cmd := by
  have hf1 := @State.setF_frame
  unfold State.sysXcfgW
  (repeat' split) <;> simp [↓hf1]

@[simp ↓] theorem actAll_now (l : List (Bool × (State → Status × State))) (s : State)
    (h : ∀ p ∈ l, ∀ s, (p.2 s).2.now = s.now) : (actAll l s).2.now = s.now := by
  induction l generalizing s with
  | nil => rfl
  | cons p l ih =>
    have h1 := h p (List.mem_cons_self ..) s
    have h2 := fun s => ih s (fun q hq => h q (List.mem_cons_of_mem _ hq))
    unfold actAll
    (repeat' split) <;> simp_all

@[simp ↓] theorem actAll_pending (l : List (Bool × (State → Status × State))) (s : State)
    (h : ∀ p ∈ l, ∀ s, (p.2 s).2.pending = s.pending) : (actAll l s).2.pending = s.pending := by
  induction l generalizing s with
  | nil => rfl
  | cons p l ih =>
    have h1 := h p (List.mem_cons_self ..) s
    have h2 := fun s => ih s (fun q hq => h q (List.mem_cons_of_mem _ hq))
    unfold actAll
    (repeat' split) <;> simp_all

@[simp ↓] theorem actAll_regs0 (l : List (Bool × (State → Status × State))) (s : State)
    (h : ∀ p ∈ l, ∀ s, (p.2 s).2.regs0 = s.regs0) : (actAll l s).2.regs0 = s.regs0 := by
  induction l generalizing s with
  | nil => rfl
  | cons p l ih =>
    have h1 := h p (List.mem_cons_self ..) s
    have h2 := fun s => ih s (fun q hq => h q (List.mem_cons_of_mem _ hq))
    unfold actAll
    (repeat' split) <;> simp_all

@[simp ↓] theorem actAll_freeCtr (l : List (Bool × (State → Status × State))) (s : State)
    (h : ∀ p ∈ l, ∀ s, (p.2 s).2.freeCtr = s.freeCtr) : (actAll l s).2.freeCtr = s.freeCtr := by
  induction l generalizing s with
  | nil => rfl
  | cons p l ih =>
    have h1 := h p (List.mem_cons_self ..) s
    have h2 := fun s => ih s (fun q hq => h q (List.mem_cons_of_mem _ hq))
    unfold actAll
    (repeat' split) <;> simp_all

@[simp ↓] theorem actAll_mode (l : List (Bool × (State → Status × State))) (s : State)
    (h : ∀ p ∈ l, ∀ s, (p.2 s).2.mode = s.mode) : (actAll l s).2.mode = s.mode := by
  induction l generalizing s with
  | nil => rfl
  | cons p l ih =>
    have h1 := h p (List.mem_cons_self ..) s
    have h2 := fun s => ih s (fun q hq => h q (List.mem_cons_of_mem _ hq))
    unfold actAll
    (repeat' split) <;> simp_all

@[simp ↓] theorem actAll_mram (l : List (Bool × (State → Status × State))) (s : State)
    (h : ∀ p ∈ l, ∀ s, (p.2 s).2.mram = s.mram) : (actAll l s).2.mram = s.mram := by
  induction l generalizing s with
  | nil => rfl
  | cons p l ih =>
    have h1 := h p (List.mem_cons_self ..) s
    have h2 := fun s => ih s (fun q hq => h q (List.mem_cons_of_mem _ hq))
    unfold actAll
    (repeat' split) <;> simp_all

@[simp ↓] theorem actAll_sys (l : List (Bool × (State → Status × State))) (s : State)
    (h : ∀ p ∈ l, ∀ s, (p.2 s).2.sys = s.sys) : (actAll l s).2.sys = s.sys := by
  induction l generalizing s with
  | nil => rfl
  | cons p l ih =>
    have h1 := h p (List.mem_cons_self ..) s
    have h2 := fun s => ih s (fun q hq => h q (List.mem_cons_of_mem _ hq))
    unfold actAll
    (repeat' split) <;> simp_all

@[simp ↓] theorem actAll_evt (l : List (Bool × (State → Status × State))) (s : State)
    (h : ∀ p ∈ l, ∀ s, (p.2 s).2.evt = s.evt) : (actAll l s).2.evt = s.evt := by
  induction l generalizing s with
  | nil => rfl
  | cons p l ih =>
    have h1 := h p (List.mem_cons_self ..) s
    have h2 := fun s => ih s (fun q hq => h q (List.mem_cons_of_mem _ hq))
    unfold actAll
    (repeat' split) <;> simp_all

@[simp ↓] theorem actAll_ana (l : List (Bool × (State → Status × State))) (s : State)
    (h : ∀ p ∈ l, ∀ s, (p.2 s).2.ana = s.ana) : (actAll l s).2.ana = s.ana := by
  induction l generalizing s with
  | nil => rfl
  | cons p l ih =>
    have h1 := h p (List.mem_cons_self ..) s
    have h2 := fun s => ih s (fun q hq => h q (List.mem_cons_of_mem _ hq))
    unfold actAll
    (repeat' split) <;> simp_all

@[simp ↓] theorem actAll_aux (l : List (Bool × (State → Status × State))) (s : State)
    (h : ∀ p ∈ l, ∀ s, (p.2 s).2.aux = s.aux) : (actAll l s).2.aux = s.aux := by
  induction l generalizing s with
  | nil => rfl
  | cons p l ih =>
    have h1 := h p (List.mem_cons_self ..) s
    have h2 := fun s => ih s (fun q hq => h q (List.mem_cons_of_mem _ hq))
    unfold actAll
    (repeat' split) <;> simp_all

@[simp ↓] theorem actAll_flt (l : List (Bool × (State → Status × State))) (s : State)
    (h : ∀ p ∈ l, ∀ s, (p.2 s).2.flt = s.flt) : (actAll l s).2.flt = s.flt := by
  induction l generalizing s with
  | nil => rfl
  | cons p l ih =>
    have h1 := h p (List.mem_cons_self ..) s
    have h2 := fun s => ih s (fun q hq => h q (List.mem_cons_of_mem _ hq))
    unfold actAll
    (repeat' split) <;> simp_all

@[simp ↓] theorem actAll_tim (l : List (Bool × (State → Status × State))) (s : State)
    (h : ∀ p ∈ l, ∀ s, (p.2 s).2.tim = s.tim) : (actAll l s).2.tim = s.tim := by
  induction l generalizing s with
  | nil => rfl
  | cons p l ih =>
    have h1 := h p (List.mem_cons_self ..) s
    have h2 := fun s => ih s (fun q hq => h q (List.mem_cons_of_mem _ hq))
    unfold actAll
    (repeat' split) <;> simp_all

@[simp ↓] theorem actAll_net (l : List (Bool × (State → Status × State))) (s : State)
    (h : ∀ p ∈ l, ∀ s, (p.2 s).2.net = s.net) : (actAll l s).2.net = s.net := by
  induction l generalizing s with
  | nil => rfl
  | cons p l ih =>
    have h1 := h p (List.mem_cons_self ..) s
    have h2 := fun s => ih s (fun q hq => h q (List.mem_cons_of_mem _ hq))
    unfold actAll
    (repeat' split) <;> simp_all

@[simp ↓] theorem actAll_prt (l : List (Bool × (State → Status × State))) (s : State)
    (h : ∀ p ∈ l, ∀ s, (p.2 s).2.prt = s.prt) : (actAll l s).2.prt = s.prt := by
  induction l generalizing s with
  | nil => rfl
  | cons p l ih =>
    have h1 := h p (List.mem_cons_self ..) s
    have h2 := fun s => ih s (fun q hq => h q (List.mem_cons_of_mem _ hq))
    unfold actAll
    (repeat' split) <;> simp_all

@[simp ↓] theorem actAll_trp (l : List (Bool × (State → Status × State))) (s : State)
    (h : ∀ p ∈ l, ∀ s, (p.2 s).2.trp = s.trp) : (actAll l s).2.trp = s.trp := by
  induction l generalizing s with
  | nil => rfl
  | cons p l ih =>
    have h1 := h p (List.mem_cons_self ..) s
    have h2 := fun s => ih s (fun q hq => h q (List.mem_cons_of_mem _ hq))
    unfold actAll
    (repeat' split) <;> simp_all

@[simp ↓] theorem actAll_pod (l : List (Bool × (State → Status × State))) (s : State)
    (h : ∀ p ∈ l, ∀ s, (p.2 s).2.pod = s.pod) : (actAll l s).2.pod = s.pod := by
  induction l generalizing s with
  | nil => rfl
  | cons p l ih =>
    have h1 := h p (List.mem_cons_self ..) s
    have h2 := fun s => ih s (fun q hq => h q (List.mem_cons_of_mem _ hq))
    unfold actAll
    (repeat' split) <;> simp_all

@[simp ↓] theorem actAll_lgc (l : List (Bool × (State → Status × State))) (s : State)
    (h : ∀ p ∈ l, ∀ s, (p.2 s).2.lgc = s.lgc) : (actAll l s).2.lgc = s.lgc := by
  induction l generalizing s with
  | nil => rfl
  | cons p l ih =>
    have h1 := h p (List.mem_cons_self ..) s
    have h2 := fun s => ih s (fun q hq => h q (List.mem_cons_of_mem _ hq))
    unfold actAll
    (repeat' split) <;> simp_all

@[simp ↓] theorem actAll_gsv (l : List (Bool × (State → Status × State))) (s : State)
    (h : ∀ p ∈ l, ∀ s, (p.2 s).2.gsv = s.gsv) : (actAll l s).2.gsv = s.gsv := by
  induction l generalizing s with
  | nil => rfl
  | cons p l ih =>
    have h1 := h p (List.mem_cons_self ..) s
    have h2 := fun s => ih s (fun q hq => h q (List.mem_cons_of_mem _ hq))
    unfold actAll
    (repeat' split) <;> simp_all

@[simp ↓] theorem actAll_tph (l : List (Bool × (State → Status × State))) (s : State)
    (h : ∀ p ∈ l, ∀ s, (p.2 s).2.tph = s.tph) : (actAll l s).2.tph = s.tph := by
  induction l generalizing s with
  | nil => rfl
  | cons p l ih =>
    have h1 := h p (List.mem_cons_self ..) s
    have h2 := fun s => ih s (fun q hq => h q (List.mem_cons_of_mem _ hq))
    unfold actAll
    (repeat' split) <;> simp_all

@[simp ↓] theorem actAll_oz (l : List (Bool × (State → Status × State))) (s : State)
    (h : ∀ p ∈ l, ∀ s, (p.2 s).2.oz = s.oz) : (actAll l s).2.oz = s.oz := by
  induction l generalizing s with
  | nil => rfl
  | cons p l ih =>
    have h1 := h p (List.mem_cons_self ..) s
    have h2 := fun s => ih s (fun q hq => h q (List.mem_cons_of_mem _ hq))
    unfold actAll
    (repeat' split) <;> simp_all

@[simp ↓] theorem actAll_sec (l : List (Bool × (State → Status × State))) (s : State)
    (h : ∀ p ∈ l, ∀ s, (p.2 s).2.sec = s.sec) : (actAll l s).2.sec = s.sec := by
  induction l generalizing s with
  | nil => rfl
  | cons p l ih =>
    have h1 := h p (List.mem_cons_self ..) s
    have h2 := fun s => ih s (fun q hq => h q (List.mem_cons_of_mem _ hq))
    unfold actAll
    (repeat' split) <;> simp_all

@[simp ↓] theorem actAll_cmd (l : List (Bool × (State → Status × State))) (s : State)
    (h : ∀ p ∈ l, ∀ s, (p.2 s).2.cmd = s.cmd) : (actAll l s).2.cmd = s.cmd := by
  induction l generalizing s with
  | nil => rfl
  | cons p l ih =>
    have h1 := h p (List.mem_cons_self ..) s
    have h2 := fun s => ih s (fun q hq => h q (List.mem_cons_of_mem _ hq))
    unfold actAll
    (repeat' split) <;> simp_all

@[simp ↓] theorem actAll_regs (l : List (Bool × (State → Status × State))) (s : State)
    (h : ∀ p ∈ l, ∀ s, (p.2 s).2.regs = s.regs) : (actAll l s).2.regs = s.regs := by
  induction l generalizing s with
  | nil => rfl
  | cons p l ih =>
    have h1 := h p (List.mem_cons_self ..) s
    have h2 := fun s => ih s (fun q hq => h q (List.mem_cons_of_mem _ hq))
    unfold actAll
    (repeat' split) <;> simp_all

@[simp ↓] theorem actAll_mram_keyCnt (l : List (Bool × (State → Status × State))) (s : State)
    (h : ∀ p ∈ l, ∀ s, (p.2 s).2.mram.keyCnt = s.mram.keyCnt) : (actAll l s).2.mram.keyCnt = s.mram.keyCnt := by
  induction l generalizing s with
  | nil => rfl
  | cons p l ih =>
    have h1 := h p (List.mem_cons_self ..) s
    have h2 := fun s => ih s (fun q hq => h q (List.mem_cons_of_mem _ hq))
    unfold actAll
    (repeat' split) <;> simp_all

@[simp ↓] theorem actAll_mram_boot (l : List (Bool × (State → Status × State))) (s : State)
    (h : ∀ p ∈ l, ∀ s, (p.2 s).2.mram.boot = s.mram.boot) : (actAll l s).2.mram.boot = s.mram.boot := by
  induction l generalizing s with
  | nil => rfl
  | cons p l ih =>
    have h1 := h p (List.mem_cons_self ..) s
    have h2 := fun s => ih s (fun q hq => h q (List.mem_cons_of_mem _ hq))
    unfold actAll
    (repeat' split) <;> simp_all

@[simp ↓] theorem actAll_sec_otp (l : List (Bool × (State → Status × State))) (s : State)
    (h : ∀ p ∈ l, ∀ s, (p.2 s).2.sec.otp = s.sec.otp) : (actAll l s).2.sec.otp = s.sec.otp := by
  induction l generalizing s with
  | nil => rfl
  | cons p l ih =>
    have h1 := h p (List.mem_cons_self ..) s
    have h2 := fun s => ih s (fun q hq => h q (List.mem_cons_of_mem _ hq))
    unfold actAll
    (repeat' split) <;> simp_all

@[simp ↓] theorem actAll_sec_keys (l : List (Bool × (State → Status × State))) (s : State)
    (h : ∀ p ∈ l, ∀ s, (p.2 s).2.sec.keys = s.sec.keys) : (actAll l s).2.sec.keys = s.sec.keys := by
  induction l generalizing s with
  | nil => rfl
  | cons p l ih =>
    have h1 := h p (List.mem_cons_self ..) s
    have h2 := fun s => ih s (fun q hq => h q (List.mem_cons_of_mem _ hq))
    unfold actAll
    (repeat' split) <;> simp_all

@[simp ↓] theorem actAll_cmd_run (l : List (Bool × (State → Status × State))) (s : State)
    (h : ∀ p ∈ l, ∀ s, (p.2 s).2.cmd.run = s.cmd.run) : (actAll l s).2.cmd.run = s.cmd.run := by
  induction l generalizing s with
  | nil => rfl
  | cons p l ih =>
    have h1 := h p (List.mem_cons_self ..) s
    have h2 := fun s => ih s (fun q hq => h q (List.mem_cons_of_mem _ hq))
    unfold actAll
    (repeat' split) <;> simp_all

@[simp ↓] theorem actAll_cmd_svc (l : List (Bool × (State → Status × State))) (s : State)
    (h : ∀ p ∈ l, ∀ s, (p.2 s).2.cmd.svc = s.cmd.svc) : (actAll l s).2.cmd.svc = s.cmd.svc := by
  induction l generalizing s with
  | nil => rfl
  | cons p l ih =>
    have h1 := h p (List.mem_cons_self ..) s
    have h2 := fun s => ih s (fun q hq => h q (List.mem_cons_of_mem _ hq))
    unfold actAll
    (repeat' split) <;> simp_all

@[simp ↓] theorem actAll_sys_straps (l : List (Bool × (State → Status × State))) (s : State)
    (h : ∀ p ∈ l, ∀ s, (p.2 s).2.sys.straps = s.sys.straps) : (actAll l s).2.sys.straps = s.sys.straps := by
  induction l generalizing s with
  | nil => rfl
  | cons p l ih =>
    have h1 := h p (List.mem_cons_self ..) s
    have h2 := fun s => ih s (fun q hq => h q (List.mem_cons_of_mem _ hq))
    unfold actAll
    (repeat' split) <;> simp_all

@[simp ↓] theorem actAll_sys_por (l : List (Bool × (State → Status × State))) (s : State)
    (h : ∀ p ∈ l, ∀ s, (p.2 s).2.sys.por = s.sys.por) : (actAll l s).2.sys.por = s.sys.por := by
  induction l generalizing s with
  | nil => rfl
  | cons p l ih =>
    have h1 := h p (List.mem_cons_self ..) s
    have h2 := fun s => ih s (fun q hq => h q (List.mem_cons_of_mem _ hq))
    unfold actAll
    (repeat' split) <;> simp_all

@[simp ↓] theorem actAll_sys_mapOn (l : List (Bool × (State → Status × State))) (s : State)
    (h : ∀ p ∈ l, ∀ s, (p.2 s).2.sys.mapOn = s.sys.mapOn) : (actAll l s).2.sys.mapOn = s.sys.mapOn := by
  induction l generalizing s with
  | nil => rfl
  | cons p l ih =>
    have h1 := h p (List.mem_cons_self ..) s
    have h2 := fun s => ih s (fun q hq => h q (List.mem_cons_of_mem _ hq))
    unfold actAll
    (repeat' split) <;> simp_all

theorem State.auxCtlW_frame (v : ℕ) (s : State) :
    (State.auxCtlW v s).2.now = s.now ∧ (State.auxCtlW v s).2.pending = s.pending ∧
    (State.auxCtlW v s).2.regs0 = s.regs0 ∧ (State.auxCtlW v s).2.freeCtr = s.freeCtr ∧
    (State.auxCtlW v s).2.mode = s.mode ∧ (State.auxCtlW v s).2.mram.keyCnt = s.mram.keyCnt ∧
    (State.auxCtlW v s).2.mram.boot = s.mram.boot ∧ (State.auxCtlW v s).2.sys = s.sys ∧
    (State.auxCtlW v s).2.ana = s.ana ∧ (State.auxCtlW v s).2.flt = s.flt ∧ (State.auxCtlW v s).2.tim = s.tim ∧
    (State.auxCtlW v s).2.net = s.net ∧ (State.auxCtlW v s).2.prt = s.prt ∧ (State.auxCtlW v s).2.trp = s.trp ∧
    (State.auxCtlW v s).2.pod = s.pod ∧ (State.auxCtlW v s).2.lgc = s.lgc ∧ (State.auxCtlW v s).2.gsv = s.gsv ∧
    (State.auxCtlW v s).2.tph = s.tph ∧ (State.auxCtlW v s).2.oz = s.oz ∧ (State.auxCtlW v s).2.sec = s.sec ∧
    (State.auxCtlW v s).2.cmd = s.cmd := by
  have hf1 := @State.auxStartW_frame
  have hf2 := @State.auxStopW_frame
  have hf3 := @State.auxClrW_frame
  have hf4 := @State.auxFlushW_frame
  simp [↓hf1, ↓hf2, ↓hf3, ↓hf4, State.auxCtlW]

theorem State.timSampW_frame (v : ℕ) (s : State) :
    (State.timSampW v s).2.now = s.now ∧ (State.timSampW v s).2.pending = s.pending ∧
    (State.timSampW v s).2.regs0 = s.regs0 ∧ (State.timSampW v s).2.freeCtr = s.freeCtr ∧
    (State.timSampW v s).2.mode = s.mode ∧ (State.timSampW v s).2.mram.keyCnt = s.mram.keyCnt ∧
    (State.timSampW v s).2.mram.boot = s.mram.boot ∧ (State.timSampW v s).2.sys = s.sys ∧
    (State.timSampW v s).2.ana = s.ana ∧ (State.timSampW v s).2.aux = s.aux ∧ (State.timSampW v s).2.tim = s.tim ∧
    (State.timSampW v s).2.net = s.net ∧ (State.timSampW v s).2.prt = s.prt ∧ (State.timSampW v s).2.trp = s.trp ∧
    (State.timSampW v s).2.pod = s.pod ∧ (State.timSampW v s).2.lgc = s.lgc ∧ (State.timSampW v s).2.gsv = s.gsv ∧
    (State.timSampW v s).2.tph = s.tph ∧ (State.timSampW v s).2.oz = s.oz ∧ (State.timSampW v s).2.sec = s.sec ∧
    (State.timSampW v s).2.cmd = s.cmd := by
  have hfite := @State.ite_frame
  have hf1 := @State.setF_frame
  have hf2 := @State.putUtc_frame
  have hf3 := @State.setFgrp_frame
  have hf4 := @State.raise_frame
  simp [↓hfite, ↓hf1, ↓hf2, ↓hf3, ↓hf4, State.timSampW]
  (repeat' split) <;> simp [↓hfite, ↓hf1, ↓hf2, ↓hf3, ↓hf4]

theorem State.timIrigW_frame (v : ℕ) (s : State) :
    (State.timIrigW v s).2.now = s.now ∧ (State.timIrigW v s).2.pending = s.pending ∧
    (State.timIrigW v s).2.regs0 = s.regs0 ∧ (State.timIrigW v s).2.freeCtr = s.freeCtr ∧
    (State.timIrigW v s).2.mode = s.mode ∧ (State.timIrigW v s).2.mram = s.mram ∧
    (State.timIrigW v s).2.sys = s.sys ∧ (State.timIrigW v s).2.evt = s.evt ∧ (State.timIrigW v s).2.ana = s.ana ∧
    (State.timIrigW v s).2.aux = s.aux ∧ (State.timIrigW v s).2.flt = s.flt ∧ (State.timIrigW v s).2.tim = s.tim ∧
    (State.timIrigW v s).2.net = s.net ∧ (State.timIrigW v s).2.prt = s.prt ∧ (State.timIrigW v s).2.trp = s.trp ∧
    (State.timIrigW v s).2.pod = s.pod ∧ (State.timIrigW v s).2.lgc = s.lgc ∧ (State.timIrigW v s).2.gsv = s.gsv ∧
    (State.timIrigW v s).2.tph = s.tph ∧ (State.timIrigW v s).2.oz = s.oz ∧ (State.timIrigW v s).2.sec = s.sec ∧
    (State.timIrigW v s).2.cmd = s.cmd := by
  have hf1 := @State.setF_frame
  simp [↓hf1, State.timIrigW]
  (repeat' split) <;> simp [↓hf1]

theorem State.ackEvents_frame (s : State) (q : ℕ) (n : ℕ) :
    (State.ackEvents s q n).now = s.now ∧ (State.ackEvents s q n).pending = s.pending ∧
    (State.ackEvents s q n).regs0 = s.regs0 ∧ (State.ackEvents s q n).freeCtr = s.freeCtr ∧
    (State.ackEvents s q n).mode = s.mode ∧ (State.ackEvents s q n).mram = s.mram ∧
    (State.ackEvents s q n).sys = s.sys ∧ (State.ackEvents s q n).ana = s.ana ∧ (State.ackEvents s q n).aux = s.aux ∧
    (State.ackEvents s q n).flt = s.flt ∧ (State.ackEvents s q n).tim = s.tim ∧ (State.ackEvents s q n).net = s.net ∧
    (State.ackEvents s q n).prt = s.prt ∧ (State.ackEvents s q n).trp = s.trp ∧ (State.ackEvents s q n).pod = s.pod ∧
    (State.ackEvents s q n).lgc = s.lgc ∧ (State.ackEvents s q n).gsv = s.gsv ∧ (State.ackEvents s q n).tph = s.tph ∧
    (State.ackEvents s q n).oz = s.oz ∧ (State.ackEvents s q n).sec = s.sec ∧ (State.ackEvents s q n).cmd = s.cmd ∧
    (State.ackEvents s q n).regs = s.regs := by
  have hf1 := @State.setQueue_frame
  simp [↓hf1, State.ackEvents]

theorem State.qackW_frame (q : ℕ) (v : ℕ) (s : State) :
    (State.qackW q v s).2.now = s.now ∧ (State.qackW q v s).2.pending = s.pending ∧
    (State.qackW q v s).2.regs0 = s.regs0 ∧ (State.qackW q v s).2.freeCtr = s.freeCtr ∧
    (State.qackW q v s).2.mode = s.mode ∧ (State.qackW q v s).2.mram = s.mram ∧ (State.qackW q v s).2.sys = s.sys ∧
    (State.qackW q v s).2.ana = s.ana ∧ (State.qackW q v s).2.aux = s.aux ∧ (State.qackW q v s).2.flt = s.flt ∧
    (State.qackW q v s).2.tim = s.tim ∧ (State.qackW q v s).2.net = s.net ∧ (State.qackW q v s).2.prt = s.prt ∧
    (State.qackW q v s).2.trp = s.trp ∧ (State.qackW q v s).2.pod = s.pod ∧ (State.qackW q v s).2.lgc = s.lgc ∧
    (State.qackW q v s).2.gsv = s.gsv ∧ (State.qackW q v s).2.tph = s.tph ∧ (State.qackW q v s).2.oz = s.oz ∧
    (State.qackW q v s).2.sec = s.sec ∧ (State.qackW q v s).2.cmd = s.cmd := by
  have hf1 := @State.setFlag_frame
  have hf2 := @State.ackEvents_frame
  simp [↓hf1, ↓hf2, State.qackW]
  (repeat' split) <;> simp [↓hf1, ↓hf2]

theorem State.regWrite_frame (r : Requester) (f : RegFam) (i : ℕ) (x3 : ℕ) (a : ℕ) (v : ℕ) (s : State) :
    (State.regWrite r f i x3 a v s).2.now = s.now ∧ (State.regWrite r f i x3 a v s).2.pending = s.pending ∧
    (State.regWrite r f i x3 a v s).2.regs0 = s.regs0 ∧ (State.regWrite r f i x3 a v s).2.freeCtr = s.freeCtr ∧
    (State.regWrite r f i x3 a v s).2.mode = s.mode ∧ (State.regWrite r f i x3 a v s).2.mram.keyCnt = s.mram.keyCnt ∧
    (State.regWrite r f i x3 a v s).2.mram.boot = s.mram.boot ∧ (State.regWrite r f i x3 a v s).2.sys = s.sys ∧
    (State.regWrite r f i x3 a v s).2.tim = s.tim ∧ (State.regWrite r f i x3 a v s).2.prt = s.prt ∧
    (State.regWrite r f i x3 a v s).2.trp = s.trp ∧ (State.regWrite r f i x3 a v s).2.pod = s.pod ∧
    (State.regWrite r f i x3 a v s).2.lgc = s.lgc ∧ (State.regWrite r f i x3 a v s).2.gsv = s.gsv ∧
    (State.regWrite r f i x3 a v s).2.oz = s.oz ∧ (State.regWrite r f i x3 a v s).2.sec = s.sec ∧
    (State.regWrite r f i x3 a v s).2.cmd.run = s.cmd.run := by
  have hf1 := @State.sysXcfgW_frame
  have hf2 := @State.cmdReqW_frame
  have hf3 := @State.cmdDbW_frame
  have hf4 := @State.refReq_frame
  have hf5 := @State.auxCfgW_frame
  have hf6 := @State.auxPeriodW_frame
  have hf7 := @State.auxCtlW_frame
  have hf8 := @State.auxSnapW_frame
  have hf9 := @State.auxEntW_frame
  have hf10 := @State.fltCtlW_frame
  have hf11 := @State.fltBankW_frame
  have hf12 := @State.fltCaddrW_frame
  have hf13 := @State.fltCdataW_frame
  have hf14 := @State.fltCcmtW_frame
  have hf15 := @State.fltPhselW_frame
  have hf16 := @State.fltTrimW_frame
  have hf17 := @State.recWselW_frame
  have hf18 := @State.recRelease_frame
  have hf19 := @State.timSampW_frame
  have hf20 := @State.timIrigW_frame
  have hf21 := @State.mdioW_frame
  have hf22 := @State.qackW_frame
  have hf23 := @State.plainWrite_frame
  unfold State.regWrite
  (repeat' split) <;> simp [↓hf1, ↓hf2, ↓hf3, ↓hf4, ↓hf5, ↓hf6, ↓hf7, ↓hf8, ↓hf9, ↓hf10, ↓hf11, ↓hf12, ↓hf13, ↓hf14, ↓hf15, ↓hf16, ↓hf17, ↓hf18, ↓hf19, ↓hf20, ↓hf21, ↓hf22, ↓hf23]

theorem State.reservedWrite_frame (s : State) (r : Requester) (a : ℕ) :
    (State.reservedWrite s r a).2.now = s.now ∧ (State.reservedWrite s r a).2.pending = s.pending ∧
    (State.reservedWrite s r a).2.regs0 = s.regs0 ∧ (State.reservedWrite s r a).2.freeCtr = s.freeCtr ∧
    (State.reservedWrite s r a).2.mode = s.mode ∧ (State.reservedWrite s r a).2.mram = s.mram ∧
    (State.reservedWrite s r a).2.sys = s.sys ∧ (State.reservedWrite s r a).2.evt = s.evt ∧
    (State.reservedWrite s r a).2.ana = s.ana ∧ (State.reservedWrite s r a).2.aux = s.aux ∧
    (State.reservedWrite s r a).2.flt = s.flt ∧ (State.reservedWrite s r a).2.tim = s.tim ∧
    (State.reservedWrite s r a).2.net = s.net ∧ (State.reservedWrite s r a).2.prt = s.prt ∧
    (State.reservedWrite s r a).2.trp = s.trp ∧ (State.reservedWrite s r a).2.pod = s.pod ∧
    (State.reservedWrite s r a).2.lgc = s.lgc ∧ (State.reservedWrite s r a).2.gsv = s.gsv ∧
    (State.reservedWrite s r a).2.tph = s.tph ∧ (State.reservedWrite s r a).2.oz = s.oz ∧
    (State.reservedWrite s r a).2.sec = s.sec ∧ (State.reservedWrite s r a).2.cmd = s.cmd := by
  have hf1 := @State.recordWrite_frame
  have hf2 := @State.rsvSeen_frame
  simp [↓hf1, ↓hf2, State.reservedWrite]

theorem State.writeWord_frame (s : State) (r : Requester) (a : ℕ) (v : ℕ) :
    (State.writeWord s r a v).2.now = s.now ∧ (State.writeWord s r a v).2.pending = s.pending ∧
    (State.writeWord s r a v).2.regs0 = s.regs0 ∧ (State.writeWord s r a v).2.freeCtr = s.freeCtr ∧
    (State.writeWord s r a v).2.mode = s.mode ∧ (State.writeWord s r a v).2.mram.keyCnt = s.mram.keyCnt ∧
    (State.writeWord s r a v).2.mram.boot = s.mram.boot ∧ (State.writeWord s r a v).2.sys = s.sys ∧
    (State.writeWord s r a v).2.tim = s.tim ∧ (State.writeWord s r a v).2.prt = s.prt ∧
    (State.writeWord s r a v).2.trp = s.trp ∧ (State.writeWord s r a v).2.pod = s.pod ∧
    (State.writeWord s r a v).2.lgc = s.lgc ∧ (State.writeWord s r a v).2.gsv = s.gsv ∧
    (State.writeWord s r a v).2.sec = s.sec ∧ (State.writeWord s r a v).2.cmd.run = s.cmd.run := by
  have hf1 := @State.recordWrite_frame
  have hf2 := @State.reservedWrite_frame
  have hf3 := @State.windowWrite_frame
  have hf4 := @State.regWrite_frame
  have hf5 := @State.cctlWrite_frame
  unfold State.writeWord
  (repeat' split) <;> simp [↓hf1, ↓hf2, ↓hf3, ↓hf4, ↓hf5]

@[simp ↓] theorem State.readWords_now (r : Requester) (n a : Nat) (s : State) :
    (State.readWords r n a s).2.now = s.now := by
  have hf1 := @State.readWord_frame
  induction n generalizing a s with
  | zero => simp [↓hf1, State.readWords]
  | succ n ih => simp [↓hf1, State.readWords, ih]

@[simp ↓] theorem State.readWords_pending (r : Requester) (n a : Nat) (s : State) :
    (State.readWords r n a s).2.pending = s.pending := by
  have hf1 := @State.readWord_frame
  induction n generalizing a s with
  | zero => simp [↓hf1, State.readWords]
  | succ n ih => simp [↓hf1, State.readWords, ih]

@[simp ↓] theorem State.readWords_regs0 (r : Requester) (n a : Nat) (s : State) :
    (State.readWords r n a s).2.regs0 = s.regs0 := by
  have hf1 := @State.readWord_frame
  induction n generalizing a s with
  | zero => simp [↓hf1, State.readWords]
  | succ n ih => simp [↓hf1, State.readWords, ih]

@[simp ↓] theorem State.readWords_freeCtr (r : Requester) (n a : Nat) (s : State) :
    (State.readWords r n a s).2.freeCtr = s.freeCtr := by
  have hf1 := @State.readWord_frame
  induction n generalizing a s with
  | zero => simp [↓hf1, State.readWords]
  | succ n ih => simp [↓hf1, State.readWords, ih]

@[simp ↓] theorem State.readWords_mode (r : Requester) (n a : Nat) (s : State) :
    (State.readWords r n a s).2.mode = s.mode := by
  have hf1 := @State.readWord_frame
  induction n generalizing a s with
  | zero => simp [↓hf1, State.readWords]
  | succ n ih => simp [↓hf1, State.readWords, ih]

@[simp ↓] theorem State.readWords_ana (r : Requester) (n a : Nat) (s : State) :
    (State.readWords r n a s).2.ana = s.ana := by
  have hf1 := @State.readWord_frame
  induction n generalizing a s with
  | zero => simp [↓hf1, State.readWords]
  | succ n ih => simp [↓hf1, State.readWords, ih]

@[simp ↓] theorem State.readWords_flt (r : Requester) (n a : Nat) (s : State) :
    (State.readWords r n a s).2.flt = s.flt := by
  have hf1 := @State.readWord_frame
  induction n generalizing a s with
  | zero => simp [↓hf1, State.readWords]
  | succ n ih => simp [↓hf1, State.readWords, ih]

@[simp ↓] theorem State.readWords_tim (r : Requester) (n a : Nat) (s : State) :
    (State.readWords r n a s).2.tim = s.tim := by
  have hf1 := @State.readWord_frame
  induction n generalizing a s with
  | zero => simp [↓hf1, State.readWords]
  | succ n ih => simp [↓hf1, State.readWords, ih]

@[simp ↓] theorem State.readWords_net (r : Requester) (n a : Nat) (s : State) :
    (State.readWords r n a s).2.net = s.net := by
  have hf1 := @State.readWord_frame
  induction n generalizing a s with
  | zero => simp [↓hf1, State.readWords]
  | succ n ih => simp [↓hf1, State.readWords, ih]

@[simp ↓] theorem State.readWords_prt (r : Requester) (n a : Nat) (s : State) :
    (State.readWords r n a s).2.prt = s.prt := by
  have hf1 := @State.readWord_frame
  induction n generalizing a s with
  | zero => simp [↓hf1, State.readWords]
  | succ n ih => simp [↓hf1, State.readWords, ih]

@[simp ↓] theorem State.readWords_trp (r : Requester) (n a : Nat) (s : State) :
    (State.readWords r n a s).2.trp = s.trp := by
  have hf1 := @State.readWord_frame
  induction n generalizing a s with
  | zero => simp [↓hf1, State.readWords]
  | succ n ih => simp [↓hf1, State.readWords, ih]

@[simp ↓] theorem State.readWords_pod (r : Requester) (n a : Nat) (s : State) :
    (State.readWords r n a s).2.pod = s.pod := by
  have hf1 := @State.readWord_frame
  induction n generalizing a s with
  | zero => simp [↓hf1, State.readWords]
  | succ n ih => simp [↓hf1, State.readWords, ih]

@[simp ↓] theorem State.readWords_lgc (r : Requester) (n a : Nat) (s : State) :
    (State.readWords r n a s).2.lgc = s.lgc := by
  have hf1 := @State.readWord_frame
  induction n generalizing a s with
  | zero => simp [↓hf1, State.readWords]
  | succ n ih => simp [↓hf1, State.readWords, ih]

@[simp ↓] theorem State.readWords_gsv (r : Requester) (n a : Nat) (s : State) :
    (State.readWords r n a s).2.gsv = s.gsv := by
  have hf1 := @State.readWord_frame
  induction n generalizing a s with
  | zero => simp [↓hf1, State.readWords]
  | succ n ih => simp [↓hf1, State.readWords, ih]

@[simp ↓] theorem State.readWords_tph (r : Requester) (n a : Nat) (s : State) :
    (State.readWords r n a s).2.tph = s.tph := by
  have hf1 := @State.readWord_frame
  induction n generalizing a s with
  | zero => simp [↓hf1, State.readWords]
  | succ n ih => simp [↓hf1, State.readWords, ih]

@[simp ↓] theorem State.readWords_oz (r : Requester) (n a : Nat) (s : State) :
    (State.readWords r n a s).2.oz = s.oz := by
  have hf1 := @State.readWord_frame
  induction n generalizing a s with
  | zero => simp [↓hf1, State.readWords]
  | succ n ih => simp [↓hf1, State.readWords, ih]

@[simp ↓] theorem State.readWords_sec (r : Requester) (n a : Nat) (s : State) :
    (State.readWords r n a s).2.sec = s.sec := by
  have hf1 := @State.readWord_frame
  induction n generalizing a s with
  | zero => simp [↓hf1, State.readWords]
  | succ n ih => simp [↓hf1, State.readWords, ih]

@[simp ↓] theorem State.readWords_cmd (r : Requester) (n a : Nat) (s : State) :
    (State.readWords r n a s).2.cmd = s.cmd := by
  have hf1 := @State.readWord_frame
  induction n generalizing a s with
  | zero => simp [↓hf1, State.readWords]
  | succ n ih => simp [↓hf1, State.readWords, ih]

@[simp ↓] theorem State.readWords_mram_keyCnt (r : Requester) (n a : Nat) (s : State) :
    (State.readWords r n a s).2.mram.keyCnt = s.mram.keyCnt := by
  have hf1 := @State.readWord_frame
  induction n generalizing a s with
  | zero => simp [↓hf1, State.readWords]
  | succ n ih => simp [↓hf1, State.readWords, ih]

@[simp ↓] theorem State.readWords_mram_boot (r : Requester) (n a : Nat) (s : State) :
    (State.readWords r n a s).2.mram.boot = s.mram.boot := by
  have hf1 := @State.readWord_frame
  induction n generalizing a s with
  | zero => simp [↓hf1, State.readWords]
  | succ n ih => simp [↓hf1, State.readWords, ih]

@[simp ↓] theorem State.readWords_sys_straps (r : Requester) (n a : Nat) (s : State) :
    (State.readWords r n a s).2.sys.straps = s.sys.straps := by
  have hf1 := @State.readWord_frame
  induction n generalizing a s with
  | zero => simp [↓hf1, State.readWords]
  | succ n ih => simp [↓hf1, State.readWords, ih]

@[simp ↓] theorem State.readWords_sys_por (r : Requester) (n a : Nat) (s : State) :
    (State.readWords r n a s).2.sys.por = s.sys.por := by
  have hf1 := @State.readWord_frame
  induction n generalizing a s with
  | zero => simp [↓hf1, State.readWords]
  | succ n ih => simp [↓hf1, State.readWords, ih]

@[simp ↓] theorem State.readWords_sys_mapOn (r : Requester) (n a : Nat) (s : State) :
    (State.readWords r n a s).2.sys.mapOn = s.sys.mapOn := by
  have hf1 := @State.readWord_frame
  induction n generalizing a s with
  | zero => simp [↓hf1, State.readWords]
  | succ n ih => simp [↓hf1, State.readWords, ih]

theorem State.xerr_frame (s : State) :
    (State.xerr s).now = s.now ∧ (State.xerr s).pending = s.pending ∧ (State.xerr s).regs0 = s.regs0 ∧
    (State.xerr s).freeCtr = s.freeCtr ∧ (State.xerr s).mode = s.mode ∧ (State.xerr s).mram = s.mram ∧
    (State.xerr s).sys = s.sys ∧ (State.xerr s).evt = s.evt ∧ (State.xerr s).ana = s.ana ∧
    (State.xerr s).aux = s.aux ∧ (State.xerr s).flt = s.flt ∧ (State.xerr s).tim = s.tim ∧
    (State.xerr s).net = s.net ∧ (State.xerr s).prt = s.prt ∧ (State.xerr s).trp = s.trp ∧
    (State.xerr s).pod = s.pod ∧ (State.xerr s).lgc = s.lgc ∧ (State.xerr s).gsv = s.gsv ∧
    (State.xerr s).tph = s.tph ∧ (State.xerr s).oz = s.oz ∧ (State.xerr s).sec = s.sec ∧ (State.xerr s).cmd = s.cmd := by
  have hf1 := @State.setFlag_frame
  simp [↓hf1, State.xerr]

@[simp ↓] theorem State.writeWords_now (r : Requester) (l : List Nat) (a : Nat) (s : State) :
    (State.writeWords r l a s).now = s.now := by
  have hf1 := @State.writeWord_frame
  induction l generalizing a s with
  | nil => simp [↓hf1, State.writeWords]
  | cons v l ih => simp [↓hf1, State.writeWords, ih]

@[simp ↓] theorem State.writeWords_pending (r : Requester) (l : List Nat) (a : Nat) (s : State) :
    (State.writeWords r l a s).pending = s.pending := by
  have hf1 := @State.writeWord_frame
  induction l generalizing a s with
  | nil => simp [↓hf1, State.writeWords]
  | cons v l ih => simp [↓hf1, State.writeWords, ih]

@[simp ↓] theorem State.writeWords_regs0 (r : Requester) (l : List Nat) (a : Nat) (s : State) :
    (State.writeWords r l a s).regs0 = s.regs0 := by
  have hf1 := @State.writeWord_frame
  induction l generalizing a s with
  | nil => simp [↓hf1, State.writeWords]
  | cons v l ih => simp [↓hf1, State.writeWords, ih]

@[simp ↓] theorem State.writeWords_freeCtr (r : Requester) (l : List Nat) (a : Nat) (s : State) :
    (State.writeWords r l a s).freeCtr = s.freeCtr := by
  have hf1 := @State.writeWord_frame
  induction l generalizing a s with
  | nil => simp [↓hf1, State.writeWords]
  | cons v l ih => simp [↓hf1, State.writeWords, ih]

@[simp ↓] theorem State.writeWords_mode (r : Requester) (l : List Nat) (a : Nat) (s : State) :
    (State.writeWords r l a s).mode = s.mode := by
  have hf1 := @State.writeWord_frame
  induction l generalizing a s with
  | nil => simp [↓hf1, State.writeWords]
  | cons v l ih => simp [↓hf1, State.writeWords, ih]

@[simp ↓] theorem State.writeWords_sys (r : Requester) (l : List Nat) (a : Nat) (s : State) :
    (State.writeWords r l a s).sys = s.sys := by
  have hf1 := @State.writeWord_frame
  induction l generalizing a s with
  | nil => simp [↓hf1, State.writeWords]
  | cons v l ih => simp [↓hf1, State.writeWords, ih]

@[simp ↓] theorem State.writeWords_tim (r : Requester) (l : List Nat) (a : Nat) (s : State) :
    (State.writeWords r l a s).tim = s.tim := by
  have hf1 := @State.writeWord_frame
  induction l generalizing a s with
  | nil => simp [↓hf1, State.writeWords]
  | cons v l ih => simp [↓hf1, State.writeWords, ih]

@[simp ↓] theorem State.writeWords_prt (r : Requester) (l : List Nat) (a : Nat) (s : State) :
    (State.writeWords r l a s).prt = s.prt := by
  have hf1 := @State.writeWord_frame
  induction l generalizing a s with
  | nil => simp [↓hf1, State.writeWords]
  | cons v l ih => simp [↓hf1, State.writeWords, ih]

@[simp ↓] theorem State.writeWords_trp (r : Requester) (l : List Nat) (a : Nat) (s : State) :
    (State.writeWords r l a s).trp = s.trp := by
  have hf1 := @State.writeWord_frame
  induction l generalizing a s with
  | nil => simp [↓hf1, State.writeWords]
  | cons v l ih => simp [↓hf1, State.writeWords, ih]

@[simp ↓] theorem State.writeWords_pod (r : Requester) (l : List Nat) (a : Nat) (s : State) :
    (State.writeWords r l a s).pod = s.pod := by
  have hf1 := @State.writeWord_frame
  induction l generalizing a s with
  | nil => simp [↓hf1, State.writeWords]
  | cons v l ih => simp [↓hf1, State.writeWords, ih]

@[simp ↓] theorem State.writeWords_lgc (r : Requester) (l : List Nat) (a : Nat) (s : State) :
    (State.writeWords r l a s).lgc = s.lgc := by
  have hf1 := @State.writeWord_frame
  induction l generalizing a s with
  | nil => simp [↓hf1, State.writeWords]
  | cons v l ih => simp [↓hf1, State.writeWords, ih]

@[simp ↓] theorem State.writeWords_gsv (r : Requester) (l : List Nat) (a : Nat) (s : State) :
    (State.writeWords r l a s).gsv = s.gsv := by
  have hf1 := @State.writeWord_frame
  induction l generalizing a s with
  | nil => simp [↓hf1, State.writeWords]
  | cons v l ih => simp [↓hf1, State.writeWords, ih]

@[simp ↓] theorem State.writeWords_sec (r : Requester) (l : List Nat) (a : Nat) (s : State) :
    (State.writeWords r l a s).sec = s.sec := by
  have hf1 := @State.writeWord_frame
  induction l generalizing a s with
  | nil => simp [↓hf1, State.writeWords]
  | cons v l ih => simp [↓hf1, State.writeWords, ih]

@[simp ↓] theorem State.writeWords_mram_keyCnt (r : Requester) (l : List Nat) (a : Nat) (s : State) :
    (State.writeWords r l a s).mram.keyCnt = s.mram.keyCnt := by
  have hf1 := @State.writeWord_frame
  induction l generalizing a s with
  | nil => simp [↓hf1, State.writeWords]
  | cons v l ih => simp [↓hf1, State.writeWords, ih]

@[simp ↓] theorem State.writeWords_mram_boot (r : Requester) (l : List Nat) (a : Nat) (s : State) :
    (State.writeWords r l a s).mram.boot = s.mram.boot := by
  have hf1 := @State.writeWord_frame
  induction l generalizing a s with
  | nil => simp [↓hf1, State.writeWords]
  | cons v l ih => simp [↓hf1, State.writeWords, ih]

@[simp ↓] theorem State.writeWords_cmd_run (r : Requester) (l : List Nat) (a : Nat) (s : State) :
    (State.writeWords r l a s).cmd.run = s.cmd.run := by
  have hf1 := @State.writeWord_frame
  induction l generalizing a s with
  | nil => simp [↓hf1, State.writeWords]
  | cons v l ih => simp [↓hf1, State.writeWords, ih]

theorem State.readOut_frame (s : State) (ws : List ℕ) :
    (State.readOut s ws).now = s.now ∧ (State.readOut s ws).pending = s.pending ∧
    (State.readOut s ws).regs0 = s.regs0 ∧ (State.readOut s ws).freeCtr = s.freeCtr ∧
    (State.readOut s ws).mode = s.mode ∧ (State.readOut s ws).mram = s.mram ∧
    (State.readOut s ws).sys.straps = s.sys.straps ∧ (State.readOut s ws).sys.por = s.sys.por ∧
    (State.readOut s ws).sys.mapOn = s.sys.mapOn ∧ (State.readOut s ws).evt = s.evt ∧
    (State.readOut s ws).ana = s.ana ∧ (State.readOut s ws).aux = s.aux ∧ (State.readOut s ws).flt = s.flt ∧
    (State.readOut s ws).tim = s.tim ∧ (State.readOut s ws).net = s.net ∧ (State.readOut s ws).prt = s.prt ∧
    (State.readOut s ws).trp = s.trp ∧ (State.readOut s ws).pod = s.pod ∧ (State.readOut s ws).lgc = s.lgc ∧
    (State.readOut s ws).gsv = s.gsv ∧ (State.readOut s ws).tph = s.tph ∧ (State.readOut s ws).oz = s.oz ∧
    (State.readOut s ws).sec = s.sec ∧ (State.readOut s ws).cmd = s.cmd ∧ (State.readOut s ws).regs = s.regs := by
  simp [State.readOut]

theorem xspiReadEff_frame (a : ℕ) (n : ℕ) (s : State) :
    (xspiReadEff a n s).now = s.now ∧ (xspiReadEff a n s).pending = s.pending ∧ (xspiReadEff a n s).regs0 = s.regs0 ∧
    (xspiReadEff a n s).freeCtr = s.freeCtr ∧ (xspiReadEff a n s).mode = s.mode ∧
    (xspiReadEff a n s).mram.keyCnt = s.mram.keyCnt ∧ (xspiReadEff a n s).mram.boot = s.mram.boot ∧
    (xspiReadEff a n s).sys.straps = s.sys.straps ∧ (xspiReadEff a n s).sys.por = s.sys.por ∧
    (xspiReadEff a n s).sys.mapOn = s.sys.mapOn ∧ (xspiReadEff a n s).ana = s.ana ∧ (xspiReadEff a n s).flt = s.flt ∧
    (xspiReadEff a n s).tim = s.tim ∧ (xspiReadEff a n s).net = s.net ∧ (xspiReadEff a n s).prt = s.prt ∧
    (xspiReadEff a n s).trp = s.trp ∧ (xspiReadEff a n s).pod = s.pod ∧ (xspiReadEff a n s).lgc = s.lgc ∧
    (xspiReadEff a n s).gsv = s.gsv ∧ (xspiReadEff a n s).tph = s.tph ∧ (xspiReadEff a n s).oz = s.oz ∧
    (xspiReadEff a n s).sec = s.sec ∧ (xspiReadEff a n s).cmd = s.cmd := by
  have hfite := @State.ite_frame
  have hf1 := @State.readOut_frame
  have hf2 := @State.xerr_frame
  simp [↓hfite, ↓hf1, ↓hf2, xspiReadEff]

theorem xspiWriteEff_frame (a : ℕ) (ws : List ℕ) (part : Bool) (s : State) :
    (xspiWriteEff a ws part s).now = s.now ∧ (xspiWriteEff a ws part s).pending = s.pending ∧
    (xspiWriteEff a ws part s).regs0 = s.regs0 ∧ (xspiWriteEff a ws part s).freeCtr = s.freeCtr ∧
    (xspiWriteEff a ws part s).mode = s.mode ∧ (xspiWriteEff a ws part s).mram.keyCnt = s.mram.keyCnt ∧
    (xspiWriteEff a ws part s).mram.boot = s.mram.boot ∧ (xspiWriteEff a ws part s).sys = s.sys ∧
    (xspiWriteEff a ws part s).tim = s.tim ∧ (xspiWriteEff a ws part s).prt = s.prt ∧
    (xspiWriteEff a ws part s).trp = s.trp ∧ (xspiWriteEff a ws part s).pod = s.pod ∧
    (xspiWriteEff a ws part s).lgc = s.lgc ∧ (xspiWriteEff a ws part s).gsv = s.gsv ∧
    (xspiWriteEff a ws part s).sec = s.sec ∧ (xspiWriteEff a ws part s).cmd.run = s.cmd.run := by
  have hfite := @State.ite_frame
  have hf1 := @State.xerr_frame
  simp [↓hfite, ↓hf1, xspiWriteEff]

theorem xspiReadStatEff_frame (n : ℕ) (s : State) :
    (xspiReadStatEff n s).now = s.now ∧ (xspiReadStatEff n s).pending = s.pending ∧
    (xspiReadStatEff n s).regs0 = s.regs0 ∧ (xspiReadStatEff n s).freeCtr = s.freeCtr ∧
    (xspiReadStatEff n s).mode = s.mode ∧ (xspiReadStatEff n s).mram.keyCnt = s.mram.keyCnt ∧
    (xspiReadStatEff n s).mram.boot = s.mram.boot ∧ (xspiReadStatEff n s).sys.straps = s.sys.straps ∧
    (xspiReadStatEff n s).sys.por = s.sys.por ∧ (xspiReadStatEff n s).sys.mapOn = s.sys.mapOn ∧
    (xspiReadStatEff n s).ana = s.ana ∧ (xspiReadStatEff n s).aux = s.aux ∧ (xspiReadStatEff n s).flt = s.flt ∧
    (xspiReadStatEff n s).tim = s.tim ∧ (xspiReadStatEff n s).net = s.net ∧ (xspiReadStatEff n s).prt = s.prt ∧
    (xspiReadStatEff n s).trp = s.trp ∧ (xspiReadStatEff n s).pod = s.pod ∧ (xspiReadStatEff n s).lgc = s.lgc ∧
    (xspiReadStatEff n s).gsv = s.gsv ∧ (xspiReadStatEff n s).tph = s.tph ∧ (xspiReadStatEff n s).oz = s.oz ∧
    (xspiReadStatEff n s).sec = s.sec ∧ (xspiReadStatEff n s).cmd = s.cmd := by
  have hfite := @State.ite_frame
  have hf1 := @State.readOut_frame
  simp [↓hfite, ↓hf1, xspiReadStatEff]

theorem xspiUndefinedCodeEff_frame (code : ℕ) (s : State) :
    (xspiUndefinedCodeEff code s).now = s.now ∧ (xspiUndefinedCodeEff code s).pending = s.pending ∧
    (xspiUndefinedCodeEff code s).regs0 = s.regs0 ∧ (xspiUndefinedCodeEff code s).freeCtr = s.freeCtr ∧
    (xspiUndefinedCodeEff code s).mode = s.mode ∧ (xspiUndefinedCodeEff code s).mram = s.mram ∧
    (xspiUndefinedCodeEff code s).sys = s.sys ∧ (xspiUndefinedCodeEff code s).evt = s.evt ∧
    (xspiUndefinedCodeEff code s).ana = s.ana ∧ (xspiUndefinedCodeEff code s).aux = s.aux ∧
    (xspiUndefinedCodeEff code s).flt = s.flt ∧ (xspiUndefinedCodeEff code s).tim = s.tim ∧
    (xspiUndefinedCodeEff code s).net = s.net ∧ (xspiUndefinedCodeEff code s).prt = s.prt ∧
    (xspiUndefinedCodeEff code s).trp = s.trp ∧ (xspiUndefinedCodeEff code s).pod = s.pod ∧
    (xspiUndefinedCodeEff code s).lgc = s.lgc ∧ (xspiUndefinedCodeEff code s).gsv = s.gsv ∧
    (xspiUndefinedCodeEff code s).tph = s.tph ∧ (xspiUndefinedCodeEff code s).oz = s.oz ∧
    (xspiUndefinedCodeEff code s).sec = s.sec ∧ (xspiUndefinedCodeEff code s).cmd = s.cmd := by
  have hfite := @State.ite_frame
  have hf1 := @State.xerr_frame
  simp [↓hfite, ↓hf1, xspiUndefinedCodeEff]

theorem captureReadEff_frame (r : Requester) (a : ℕ) (s : State) :
    (captureReadEff r a s).now = s.now ∧ (captureReadEff r a s).pending = s.pending ∧
    (captureReadEff r a s).regs0 = s.regs0 ∧ (captureReadEff r a s).freeCtr = s.freeCtr ∧
    (captureReadEff r a s).mode = s.mode ∧ (captureReadEff r a s).mram.keyCnt = s.mram.keyCnt ∧
    (captureReadEff r a s).mram.boot = s.mram.boot ∧ (captureReadEff r a s).sys.straps = s.sys.straps ∧
    (captureReadEff r a s).sys.por = s.sys.por ∧ (captureReadEff r a s).sys.mapOn = s.sys.mapOn ∧
    (captureReadEff r a s).ana = s.ana ∧ (captureReadEff r a s).flt = s.flt ∧ (captureReadEff r a s).tim = s.tim ∧
    (captureReadEff r a s).net = s.net ∧ (captureReadEff r a s).prt = s.prt ∧ (captureReadEff r a s).trp = s.trp ∧
    (captureReadEff r a s).pod = s.pod ∧ (captureReadEff r a s).lgc = s.lgc ∧ (captureReadEff r a s).gsv = s.gsv ∧
    (captureReadEff r a s).tph = s.tph ∧ (captureReadEff r a s).oz = s.oz ∧ (captureReadEff r a s).sec = s.sec ∧
    (captureReadEff r a s).cmd = s.cmd := by
  have hf1 := @State.readOut_frame
  have hf2 := @State.readWord_frame
  unfold captureReadEff
  (repeat' split) <;> simp [↓hf1, ↓hf2]

theorem evtQdataCaptureEff_frame (r : Requester) (q : ℕ) (s : State) :
    (evtQdataCaptureEff r q s).now = s.now ∧ (evtQdataCaptureEff r q s).pending = s.pending ∧
    (evtQdataCaptureEff r q s).regs0 = s.regs0 ∧ (evtQdataCaptureEff r q s).freeCtr = s.freeCtr ∧
    (evtQdataCaptureEff r q s).mode = s.mode ∧ (evtQdataCaptureEff r q s).mram.keyCnt = s.mram.keyCnt ∧
    (evtQdataCaptureEff r q s).mram.boot = s.mram.boot ∧ (evtQdataCaptureEff r q s).sys.straps = s.sys.straps ∧
    (evtQdataCaptureEff r q s).sys.por = s.sys.por ∧ (evtQdataCaptureEff r q s).sys.mapOn = s.sys.mapOn ∧
    (evtQdataCaptureEff r q s).ana = s.ana ∧ (evtQdataCaptureEff r q s).flt = s.flt ∧
    (evtQdataCaptureEff r q s).tim = s.tim ∧ (evtQdataCaptureEff r q s).net = s.net ∧
    (evtQdataCaptureEff r q s).prt = s.prt ∧ (evtQdataCaptureEff r q s).trp = s.trp ∧
    (evtQdataCaptureEff r q s).pod = s.pod ∧ (evtQdataCaptureEff r q s).lgc = s.lgc ∧
    (evtQdataCaptureEff r q s).gsv = s.gsv ∧ (evtQdataCaptureEff r q s).tph = s.tph ∧
    (evtQdataCaptureEff r q s).oz = s.oz ∧ (evtQdataCaptureEff r q s).sec = s.sec ∧
    (evtQdataCaptureEff r q s).cmd = s.cmd := by
  have hf1 := @State.readOut_frame
  have hf2 := @State.readWord_frame
  simp [↓hf1, ↓hf2, evtQdataCaptureEff]

theorem evtLdataReadEff_frame (r : Requester) (s : State) :
    (evtLdataReadEff r s).now = s.now ∧ (evtLdataReadEff r s).pending = s.pending ∧
    (evtLdataReadEff r s).regs0 = s.regs0 ∧ (evtLdataReadEff r s).freeCtr = s.freeCtr ∧
    (evtLdataReadEff r s).mode = s.mode ∧ (evtLdataReadEff r s).mram.keyCnt = s.mram.keyCnt ∧
    (evtLdataReadEff r s).mram.boot = s.mram.boot ∧ (evtLdataReadEff r s).sys.straps = s.sys.straps ∧
    (evtLdataReadEff r s).sys.por = s.sys.por ∧ (evtLdataReadEff r s).sys.mapOn = s.sys.mapOn ∧
    (evtLdataReadEff r s).ana = s.ana ∧ (evtLdataReadEff r s).flt = s.flt ∧ (evtLdataReadEff r s).tim = s.tim ∧
    (evtLdataReadEff r s).net = s.net ∧ (evtLdataReadEff r s).prt = s.prt ∧ (evtLdataReadEff r s).trp = s.trp ∧
    (evtLdataReadEff r s).pod = s.pod ∧ (evtLdataReadEff r s).lgc = s.lgc ∧ (evtLdataReadEff r s).gsv = s.gsv ∧
    (evtLdataReadEff r s).tph = s.tph ∧ (evtLdataReadEff r s).oz = s.oz ∧ (evtLdataReadEff r s).sec = s.sec ∧
    (evtLdataReadEff r s).cmd = s.cmd := by
  have hf1 := @State.readOut_frame
  have hf2 := @State.readWord_frame
  simp [↓hf1, ↓hf2, evtLdataReadEff]

theorem evtQackWriteEff_frame (r : Requester) (q : ℕ) (n : ℕ) (s : State) :
    (evtQackWriteEff r q n s).now = s.now ∧ (evtQackWriteEff r q n s).pending = s.pending ∧
    (evtQackWriteEff r q n s).regs0 = s.regs0 ∧ (evtQackWriteEff r q n s).freeCtr = s.freeCtr ∧
    (evtQackWriteEff r q n s).mode = s.mode ∧ (evtQackWriteEff r q n s).mram.keyCnt = s.mram.keyCnt ∧
    (evtQackWriteEff r q n s).mram.boot = s.mram.boot ∧ (evtQackWriteEff r q n s).sys = s.sys ∧
    (evtQackWriteEff r q n s).tim = s.tim ∧ (evtQackWriteEff r q n s).prt = s.prt ∧
    (evtQackWriteEff r q n s).trp = s.trp ∧ (evtQackWriteEff r q n s).pod = s.pod ∧
    (evtQackWriteEff r q n s).lgc = s.lgc ∧ (evtQackWriteEff r q n s).gsv = s.gsv ∧
    (evtQackWriteEff r q n s).sec = s.sec ∧ (evtQackWriteEff r q n s).cmd.run = s.cmd.run := by
  have hf1 := @State.writeWord_frame
  simp [↓hf1, evtQackWriteEff]

theorem timSampWriteEff_frame (r : Requester) (v : ℕ) (s : State) :
    (timSampWriteEff r v s).now = s.now ∧ (timSampWriteEff r v s).pending = s.pending ∧
    (timSampWriteEff r v s).regs0 = s.regs0 ∧ (timSampWriteEff r v s).freeCtr = s.freeCtr ∧
    (timSampWriteEff r v s).mode = s.mode ∧ (timSampWriteEff r v s).mram.keyCnt = s.mram.keyCnt ∧
    (timSampWriteEff r v s).mram.boot = s.mram.boot ∧ (timSampWriteEff r v s).sys = s.sys ∧
    (timSampWriteEff r v s).tim = s.tim ∧ (timSampWriteEff r v s).prt = s.prt ∧ (timSampWriteEff r v s).trp = s.trp ∧
    (timSampWriteEff r v s).pod = s.pod ∧ (timSampWriteEff r v s).lgc = s.lgc ∧ (timSampWriteEff r v s).gsv = s.gsv ∧
    (timSampWriteEff r v s).sec = s.sec ∧ (timSampWriteEff r v s).cmd.run = s.cmd.run := by
  have hf1 := @State.writeWord_frame
  simp [↓hf1, timSampWriteEff]

theorem reservedAccessEff_frame (r : Requester) (a : ℕ) (wr : Bool) (s : State) :
    (reservedAccessEff r a wr s).now = s.now ∧ (reservedAccessEff r a wr s).pending = s.pending ∧
    (reservedAccessEff r a wr s).regs0 = s.regs0 ∧ (reservedAccessEff r a wr s).freeCtr = s.freeCtr ∧
    (reservedAccessEff r a wr s).mode = s.mode ∧ (reservedAccessEff r a wr s).mram.keyCnt = s.mram.keyCnt ∧
    (reservedAccessEff r a wr s).mram.boot = s.mram.boot ∧ (reservedAccessEff r a wr s).sys.straps = s.sys.straps ∧
    (reservedAccessEff r a wr s).sys.por = s.sys.por ∧ (reservedAccessEff r a wr s).sys.mapOn = s.sys.mapOn ∧
    (reservedAccessEff r a wr s).tim = s.tim ∧ (reservedAccessEff r a wr s).prt = s.prt ∧
    (reservedAccessEff r a wr s).trp = s.trp ∧ (reservedAccessEff r a wr s).pod = s.pod ∧
    (reservedAccessEff r a wr s).lgc = s.lgc ∧ (reservedAccessEff r a wr s).gsv = s.gsv ∧
    (reservedAccessEff r a wr s).sec = s.sec ∧ (reservedAccessEff r a wr s).cmd.run = s.cmd.run := by
  have hfite := @State.ite_frame
  have hf1 := @State.writeWord_frame
  have hf2 := @State.readOut_frame
  have hf3 := @State.readWord_frame
  simp [↓hfite, ↓hf1, ↓hf2, ↓hf3, reservedAccessEff]

theorem registerWriteEff_frame (r : Requester) (a : ℕ) (v : ℕ) (s : State) :
    (registerWriteEff r a v s).now = s.now ∧ (registerWriteEff r a v s).pending = s.pending ∧
    (registerWriteEff r a v s).regs0 = s.regs0 ∧ (registerWriteEff r a v s).freeCtr = s.freeCtr ∧
    (registerWriteEff r a v s).mode = s.mode ∧ (registerWriteEff r a v s).mram.keyCnt = s.mram.keyCnt ∧
    (registerWriteEff r a v s).mram.boot = s.mram.boot ∧ (registerWriteEff r a v s).sys = s.sys ∧
    (registerWriteEff r a v s).tim = s.tim ∧ (registerWriteEff r a v s).prt = s.prt ∧
    (registerWriteEff r a v s).trp = s.trp ∧ (registerWriteEff r a v s).pod = s.pod ∧
    (registerWriteEff r a v s).lgc = s.lgc ∧ (registerWriteEff r a v s).gsv = s.gsv ∧
    (registerWriteEff r a v s).sec = s.sec ∧ (registerWriteEff r a v s).cmd.run = s.cmd.run := by
  have hf1 := @State.writeWord_frame
  unfold registerWriteEff
  (repeat' split) <;> simp [↓hf1]

theorem logWriteEff_frame (s : State) :
    (logWriteEff s).now = s.now ∧ (logWriteEff s).pending = s.pending ∧ (logWriteEff s).regs0 = s.regs0 ∧
    (logWriteEff s).freeCtr = s.freeCtr ∧ (logWriteEff s).mode = s.mode ∧
    (logWriteEff s).mram.keyCnt = s.mram.keyCnt ∧ (logWriteEff s).mram.boot = s.mram.boot ∧
    (logWriteEff s).sys = s.sys ∧ (logWriteEff s).ana = s.ana ∧ (logWriteEff s).aux = s.aux ∧
    (logWriteEff s).flt = s.flt ∧ (logWriteEff s).tim = s.tim ∧ (logWriteEff s).net = s.net ∧
    (logWriteEff s).prt = s.prt ∧ (logWriteEff s).trp = s.trp ∧ (logWriteEff s).pod = s.pod ∧
    (logWriteEff s).lgc = s.lgc ∧ (logWriteEff s).gsv = s.gsv ∧ (logWriteEff s).tph = s.tph ∧
    (logWriteEff s).oz = s.oz ∧ (logWriteEff s).sec = s.sec ∧ (logWriteEff s).cmd = s.cmd ∧
    (logWriteEff s).regs = s.regs := by
  have hfite := @State.ite_frame
  have hf1 := @State.logPut_frame
  unfold logWriteEff
  (repeat' split) <;> simp [↓hfite, ↓hf1]

end Sys2Proof.Machine
end

