-- ==== Sys2Proof/Laws/FrameOzaux.lean ====
section
/-!
SUPPORT. What the operations of Machine/Ozaux.lean leave as it was: one lemma per operation, over the parts of the state.
-/
set_option linter.all false
set_option Elab.async false
namespace Sys2Proof.Machine
theorem State.linkEnter_frame (s : State) (l : ℕ) (st : ℕ) :
    (State.linkEnter s l st).now = s.now ∧ (State.linkEnter s l st).pending = s.pending ∧
    (State.linkEnter s l st).regs0 = s.regs0 ∧ (State.linkEnter s l st).freeCtr = s.freeCtr ∧
    (State.linkEnter s l st).mode = s.mode ∧ (State.linkEnter s l st).mram.keyCnt = s.mram.keyCnt ∧
    (State.linkEnter s l st).mram.boot = s.mram.boot ∧ (State.linkEnter s l st).sys = s.sys ∧
    (State.linkEnter s l st).ana = s.ana ∧ (State.linkEnter s l st).aux = s.aux ∧
    (State.linkEnter s l st).flt = s.flt ∧ (State.linkEnter s l st).tim = s.tim ∧
    (State.linkEnter s l st).net = s.net ∧ (State.linkEnter s l st).prt = s.prt ∧
    (State.linkEnter s l st).trp = s.trp ∧ (State.linkEnter s l st).pod = s.pod ∧
    (State.linkEnter s l st).lgc = s.lgc ∧ (State.linkEnter s l st).gsv = s.gsv ∧
    (State.linkEnter s l st).tph = s.tph ∧ (State.linkEnter s l st).oz = s.oz ∧
    (State.linkEnter s l st).sec = s.sec ∧ (State.linkEnter s l st).cmd = s.cmd := by
  have hfite := @State.ite_frame
  have hf1 := @State.raise_frame
  have hf2 := @State.setFlag_frame
  have hf3 := @State.setF_frame
  simp [↓hfite, ↓hf1, ↓hf2, ↓hf3, State.linkEnter]

theorem ozLinkDownEff_frame (l : ℕ) (clk : Bool) (s : State) :
    (ozLinkDownEff l clk s).now = s.now ∧ (ozLinkDownEff l clk s).pending = s.pending ∧
    (ozLinkDownEff l clk s).regs0 = s.regs0 ∧ (ozLinkDownEff l clk s).freeCtr = s.freeCtr ∧
    (ozLinkDownEff l clk s).mode = s.mode ∧ (ozLinkDownEff l clk s).mram.keyCnt = s.mram.keyCnt ∧
    (ozLinkDownEff l clk s).mram.boot = s.mram.boot ∧ (ozLinkDownEff l clk s).sys = s.sys ∧
    (ozLinkDownEff l clk s).ana = s.ana ∧ (ozLinkDownEff l clk s).aux = s.aux ∧ (ozLinkDownEff l clk s).flt = s.flt ∧
    (ozLinkDownEff l clk s).tim = s.tim ∧ (ozLinkDownEff l clk s).net = s.net ∧ (ozLinkDownEff l clk s).prt = s.prt ∧
    (ozLinkDownEff l clk s).trp = s.trp ∧ (ozLinkDownEff l clk s).pod = s.pod ∧ (ozLinkDownEff l clk s).lgc = s.lgc ∧
    (ozLinkDownEff l clk s).gsv = s.gsv ∧ (ozLinkDownEff l clk s).tph = s.tph ∧ (ozLinkDownEff l clk s).sec = s.sec ∧
    (ozLinkDownEff l clk s).cmd = s.cmd := by
  have hfite := @State.ite_frame
  have hf1 := @State.setFlag_frame
  have hf2 := @State.linkEnter_frame
  have hf3 := @State.setLink_frame
  simp [↓hfite, ↓hf1, ↓hf2, ↓hf3, ozLinkDownEff]

theorem ozClockDetectEff_frame (l : ℕ) (s : State) :
    (ozClockDetectEff l s).now = s.now ∧ (ozClockDetectEff l s).pending = s.pending ∧
    (ozClockDetectEff l s).regs0 = s.regs0 ∧ (ozClockDetectEff l s).freeCtr = s.freeCtr ∧
    (ozClockDetectEff l s).mode = s.mode ∧ (ozClockDetectEff l s).mram.keyCnt = s.mram.keyCnt ∧
    (ozClockDetectEff l s).mram.boot = s.mram.boot ∧ (ozClockDetectEff l s).sys = s.sys ∧
    (ozClockDetectEff l s).ana = s.ana ∧ (ozClockDetectEff l s).aux = s.aux ∧ (ozClockDetectEff l s).flt = s.flt ∧
    (ozClockDetectEff l s).tim = s.tim ∧ (ozClockDetectEff l s).net = s.net ∧ (ozClockDetectEff l s).prt = s.prt ∧
    (ozClockDetectEff l s).trp = s.trp ∧ (ozClockDetectEff l s).pod = s.pod ∧ (ozClockDetectEff l s).lgc = s.lgc ∧
    (ozClockDetectEff l s).gsv = s.gsv ∧ (ozClockDetectEff l s).tph = s.tph ∧ (ozClockDetectEff l s).oz = s.oz ∧
    (ozClockDetectEff l s).sec = s.sec ∧ (ozClockDetectEff l s).cmd = s.cmd := by
  have hfite := @State.ite_frame
  have hf1 := @State.linkEnter_frame
  have hf2 := @State.setFlag_frame
  simp [↓hfite, ↓hf1, ↓hf2, ozClockDetectEff]

theorem ozLinkUpEff_frame (l : ℕ) (s : State) :
    (ozLinkUpEff l s).now = s.now ∧ (ozLinkUpEff l s).pending = s.pending ∧ (ozLinkUpEff l s).regs0 = s.regs0 ∧
    (ozLinkUpEff l s).freeCtr = s.freeCtr ∧ (ozLinkUpEff l s).mode = s.mode ∧
    (ozLinkUpEff l s).mram.keyCnt = s.mram.keyCnt ∧ (ozLinkUpEff l s).mram.boot = s.mram.boot ∧
    (ozLinkUpEff l s).sys = s.sys ∧ (ozLinkUpEff l s).ana = s.ana ∧ (ozLinkUpEff l s).aux = s.aux ∧
    (ozLinkUpEff l s).flt = s.flt ∧ (ozLinkUpEff l s).tim = s.tim ∧ (ozLinkUpEff l s).net = s.net ∧
    (ozLinkUpEff l s).prt = s.prt ∧ (ozLinkUpEff l s).trp = s.trp ∧ (ozLinkUpEff l s).pod = s.pod ∧
    (ozLinkUpEff l s).lgc = s.lgc ∧ (ozLinkUpEff l s).gsv = s.gsv ∧ (ozLinkUpEff l s).tph = s.tph ∧
    (ozLinkUpEff l s).sec = s.sec ∧ (ozLinkUpEff l s).cmd = s.cmd := by
  have hfite := @State.ite_frame
  have hf1 := @State.linkEnter_frame
  have hf2 := @State.ozSend_frame
  simp [↓hfite, ↓hf1, ↓hf2, ozLinkUpEff]

theorem State.ozAccept_frame (s : State) (l : ℕ) (lseq : ℕ) :
    (State.ozAccept s l lseq).2.now = s.now ∧ (State.ozAccept s l lseq).2.pending = s.pending ∧
    (State.ozAccept s l lseq).2.regs0 = s.regs0 ∧ (State.ozAccept s l lseq).2.freeCtr = s.freeCtr ∧
    (State.ozAccept s l lseq).2.mode = s.mode ∧ (State.ozAccept s l lseq).2.mram = s.mram ∧
    (State.ozAccept s l lseq).2.sys = s.sys ∧ (State.ozAccept s l lseq).2.evt = s.evt ∧
    (State.ozAccept s l lseq).2.ana = s.ana ∧ (State.ozAccept s l lseq).2.aux = s.aux ∧
    (State.ozAccept s l lseq).2.flt = s.flt ∧ (State.ozAccept s l lseq).2.tim = s.tim ∧
    (State.ozAccept s l lseq).2.net = s.net ∧ (State.ozAccept s l lseq).2.prt = s.prt ∧
    (State.ozAccept s l lseq).2.trp = s.trp ∧ (State.ozAccept s l lseq).2.pod = s.pod ∧
    (State.ozAccept s l lseq).2.lgc = s.lgc ∧ (State.ozAccept s l lseq).2.gsv = s.gsv ∧
    (State.ozAccept s l lseq).2.tph = s.tph ∧ (State.ozAccept s l lseq).2.sec = s.sec ∧
    (State.ozAccept s l lseq).2.cmd = s.cmd ∧ (State.ozAccept s l lseq).2.regs = s.regs := by
  have hf1 := @State.ozSend_frame
  have hf2 := @State.setLink_frame
  simp [↓hf1, ↓hf2, State.ozAccept]

theorem ackReceiveEff_frame (l : ℕ) (lseq : ℕ) (s : State) :
    (ackReceiveEff l lseq s).now = s.now ∧ (ackReceiveEff l lseq s).pending = s.pending ∧
    (ackReceiveEff l lseq s).regs0 = s.regs0 ∧ (ackReceiveEff l lseq s).freeCtr = s.freeCtr ∧
    (ackReceiveEff l lseq s).mode = s.mode ∧ (ackReceiveEff l lseq s).mram = s.mram ∧
    (ackReceiveEff l lseq s).sys = s.sys ∧ (ackReceiveEff l lseq s).evt = s.evt ∧
    (ackReceiveEff l lseq s).ana = s.ana ∧ (ackReceiveEff l lseq s).aux = s.aux ∧
    (ackReceiveEff l lseq s).flt = s.flt ∧ (ackReceiveEff l lseq s).tim = s.tim ∧
    (ackReceiveEff l lseq s).net = s.net ∧ (ackReceiveEff l lseq s).prt = s.prt ∧
    (ackReceiveEff l lseq s).trp = s.trp ∧ (ackReceiveEff l lseq s).pod = s.pod ∧
    (ackReceiveEff l lseq s).lgc = s.lgc ∧ (ackReceiveEff l lseq s).gsv = s.gsv ∧
    (ackReceiveEff l lseq s).tph = s.tph ∧ (ackReceiveEff l lseq s).sec = s.sec ∧
    (ackReceiveEff l lseq s).cmd = s.cmd ∧ (ackReceiveEff l lseq s).regs = s.regs := by
  have hfite := @State.ite_frame
  have hf1 := @State.setLink_frame
  simp [↓hfite, ↓hf1, ackReceiveEff]

theorem State.ozRetry_frame (s : State) (l : ℕ) (lseq : ℕ) :
    (State.ozRetry s l lseq).now = s.now ∧ (State.ozRetry s l lseq).pending = s.pending ∧
    (State.ozRetry s l lseq).regs0 = s.regs0 ∧ (State.ozRetry s l lseq).freeCtr = s.freeCtr ∧
    (State.ozRetry s l lseq).mode = s.mode ∧ (State.ozRetry s l lseq).mram.keyCnt = s.mram.keyCnt ∧
    (State.ozRetry s l lseq).mram.boot = s.mram.boot ∧ (State.ozRetry s l lseq).sys = s.sys ∧
    (State.ozRetry s l lseq).ana = s.ana ∧ (State.ozRetry s l lseq).aux = s.aux ∧
    (State.ozRetry s l lseq).flt = s.flt ∧ (State.ozRetry s l lseq).tim = s.tim ∧
    (State.ozRetry s l lseq).net = s.net ∧ (State.ozRetry s l lseq).prt = s.prt ∧
    (State.ozRetry s l lseq).trp = s.trp ∧ (State.ozRetry s l lseq).pod = s.pod ∧
    (State.ozRetry s l lseq).lgc = s.lgc ∧ (State.ozRetry s l lseq).gsv = s.gsv ∧
    (State.ozRetry s l lseq).tph = s.tph ∧ (State.ozRetry s l lseq).sec = s.sec ∧
    (State.ozRetry s l lseq).cmd = s.cmd := by
  have hf1 := @State.raise_frame
  have hf2 := @State.incSat_frame
  have hf3 := @State.setLink_frame
  have hf4 := @State.ozResend_frame
  simp [↓hf1, ↓hf2, ↓hf3, ↓hf4, State.ozRetry]
  (repeat' split) <;> simp [↓hf1, ↓hf2, ↓hf3, ↓hf4]

theorem nakReceiveEff_frame (l : ℕ) (lseq : ℕ) (s : State) :
    (nakReceiveEff l lseq s).now = s.now ∧ (nakReceiveEff l lseq s).pending = s.pending ∧
    (nakReceiveEff l lseq s).regs0 = s.regs0 ∧ (nakReceiveEff l lseq s).freeCtr = s.freeCtr ∧
    (nakReceiveEff l lseq s).mode = s.mode ∧ (nakReceiveEff l lseq s).mram.keyCnt = s.mram.keyCnt ∧
    (nakReceiveEff l lseq s).mram.boot = s.mram.boot ∧ (nakReceiveEff l lseq s).sys = s.sys ∧
    (nakReceiveEff l lseq s).ana = s.ana ∧ (nakReceiveEff l lseq s).aux = s.aux ∧
    (nakReceiveEff l lseq s).flt = s.flt ∧ (nakReceiveEff l lseq s).tim = s.tim ∧
    (nakReceiveEff l lseq s).net = s.net ∧ (nakReceiveEff l lseq s).prt = s.prt ∧
    (nakReceiveEff l lseq s).trp = s.trp ∧ (nakReceiveEff l lseq s).pod = s.pod ∧
    (nakReceiveEff l lseq s).lgc = s.lgc ∧ (nakReceiveEff l lseq s).gsv = s.gsv ∧
    (nakReceiveEff l lseq s).tph = s.tph ∧ (nakReceiveEff l lseq s).sec = s.sec ∧
    (nakReceiveEff l lseq s).cmd = s.cmd := by
  have hfite := @State.ite_frame
  have hf1 := @State.ozRetry_frame
  simp [↓hfite, ↓hf1, nakReceiveEff]

theorem ackTimeoutEff_frame (l : ℕ) (lseq : ℕ) (s : State) :
    (ackTimeoutEff l lseq s).now = s.now ∧ (ackTimeoutEff l lseq s).pending = s.pending ∧
    (ackTimeoutEff l lseq s).regs0 = s.regs0 ∧ (ackTimeoutEff l lseq s).freeCtr = s.freeCtr ∧
    (ackTimeoutEff l lseq s).mode = s.mode ∧ (ackTimeoutEff l lseq s).mram.keyCnt = s.mram.keyCnt ∧
    (ackTimeoutEff l lseq s).mram.boot = s.mram.boot ∧ (ackTimeoutEff l lseq s).sys = s.sys ∧
    (ackTimeoutEff l lseq s).ana = s.ana ∧ (ackTimeoutEff l lseq s).aux = s.aux ∧
    (ackTimeoutEff l lseq s).flt = s.flt ∧ (ackTimeoutEff l lseq s).tim = s.tim ∧
    (ackTimeoutEff l lseq s).net = s.net ∧ (ackTimeoutEff l lseq s).prt = s.prt ∧
    (ackTimeoutEff l lseq s).trp = s.trp ∧ (ackTimeoutEff l lseq s).pod = s.pod ∧
    (ackTimeoutEff l lseq s).lgc = s.lgc ∧ (ackTimeoutEff l lseq s).gsv = s.gsv ∧
    (ackTimeoutEff l lseq s).tph = s.tph ∧ (ackTimeoutEff l lseq s).sec = s.sec ∧
    (ackTimeoutEff l lseq s).cmd = s.cmd := by
  have hfite := @State.ite_frame
  have hf1 := @State.ozRetry_frame
  unfold ackTimeoutEff
  (repeat' split) <;> simp [↓hfite, ↓hf1]

theorem ozauxCrcErrorEff_frame (l : ℕ) (ty : ℕ) (lseq : ℕ) (s : State) :
    (ozauxCrcErrorEff l ty lseq s).now = s.now ∧ (ozauxCrcErrorEff l ty lseq s).pending = s.pending ∧
    (ozauxCrcErrorEff l ty lseq s).regs0 = s.regs0 ∧ (ozauxCrcErrorEff l ty lseq s).freeCtr = s.freeCtr ∧
    (ozauxCrcErrorEff l ty lseq s).mode = s.mode ∧ (ozauxCrcErrorEff l ty lseq s).mram = s.mram ∧
    (ozauxCrcErrorEff l ty lseq s).sys = s.sys ∧ (ozauxCrcErrorEff l ty lseq s).evt = s.evt ∧
    (ozauxCrcErrorEff l ty lseq s).ana = s.ana ∧ (ozauxCrcErrorEff l ty lseq s).aux = s.aux ∧
    (ozauxCrcErrorEff l ty lseq s).flt = s.flt ∧ (ozauxCrcErrorEff l ty lseq s).tim = s.tim ∧
    (ozauxCrcErrorEff l ty lseq s).net = s.net ∧ (ozauxCrcErrorEff l ty lseq s).prt = s.prt ∧
    (ozauxCrcErrorEff l ty lseq s).trp = s.trp ∧ (ozauxCrcErrorEff l ty lseq s).pod = s.pod ∧
    (ozauxCrcErrorEff l ty lseq s).lgc = s.lgc ∧ (ozauxCrcErrorEff l ty lseq s).gsv = s.gsv ∧
    (ozauxCrcErrorEff l ty lseq s).tph = s.tph ∧ (ozauxCrcErrorEff l ty lseq s).sec = s.sec ∧
    (ozauxCrcErrorEff l ty lseq s).cmd = s.cmd := by
  have hfite := @State.ite_frame
  have hf1 := @State.ozSend_frame
  have hf2 := @State.incSat_frame
  simp [↓hfite, ↓hf1, ↓hf2, ozauxCrcErrorEff]

theorem delayExchangeEff_frame (l : ℕ) (s : State) :
    (delayExchangeEff l s).now = s.now ∧ (delayExchangeEff l s).pending = s.pending ∧
    (delayExchangeEff l s).regs0 = s.regs0 ∧ (delayExchangeEff l s).freeCtr = s.freeCtr ∧
    (delayExchangeEff l s).mode = s.mode ∧ (delayExchangeEff l s).mram = s.mram ∧
    (delayExchangeEff l s).sys = s.sys ∧ (delayExchangeEff l s).evt = s.evt ∧ (delayExchangeEff l s).ana = s.ana ∧
    (delayExchangeEff l s).aux = s.aux ∧ (delayExchangeEff l s).flt = s.flt ∧ (delayExchangeEff l s).tim = s.tim ∧
    (delayExchangeEff l s).net = s.net ∧ (delayExchangeEff l s).prt = s.prt ∧ (delayExchangeEff l s).trp = s.trp ∧
    (delayExchangeEff l s).pod = s.pod ∧ (delayExchangeEff l s).lgc = s.lgc ∧ (delayExchangeEff l s).gsv = s.gsv ∧
    (delayExchangeEff l s).tph = s.tph ∧ (delayExchangeEff l s).sec = s.sec ∧ (delayExchangeEff l s).cmd = s.cmd ∧
    (delayExchangeEff l s).regs = s.regs := by
  have hfite := @State.ite_frame
  have hf1 := @State.setLink_frame
  have hf2 := @State.ozSend_frame
  simp [↓hfite, ↓hf1, ↓hf2, delayExchangeEff]

theorem dlyReqReceiveEff_frame (l : ℕ) (s : State) :
    (dlyReqReceiveEff l s).now = s.now ∧ (dlyReqReceiveEff l s).pending = s.pending ∧
    (dlyReqReceiveEff l s).regs0 = s.regs0 ∧ (dlyReqReceiveEff l s).freeCtr = s.freeCtr ∧
    (dlyReqReceiveEff l s).mode = s.mode ∧ (dlyReqReceiveEff l s).mram = s.mram ∧
    (dlyReqReceiveEff l s).sys = s.sys ∧ (dlyReqReceiveEff l s).evt = s.evt ∧ (dlyReqReceiveEff l s).ana = s.ana ∧
    (dlyReqReceiveEff l s).aux = s.aux ∧ (dlyReqReceiveEff l s).flt = s.flt ∧ (dlyReqReceiveEff l s).tim = s.tim ∧
    (dlyReqReceiveEff l s).net = s.net ∧ (dlyReqReceiveEff l s).prt = s.prt ∧ (dlyReqReceiveEff l s).trp = s.trp ∧
    (dlyReqReceiveEff l s).pod = s.pod ∧ (dlyReqReceiveEff l s).lgc = s.lgc ∧ (dlyReqReceiveEff l s).gsv = s.gsv ∧
    (dlyReqReceiveEff l s).tph = s.tph ∧ (dlyReqReceiveEff l s).sec = s.sec ∧ (dlyReqReceiveEff l s).cmd = s.cmd ∧
    (dlyReqReceiveEff l s).regs = s.regs := by
  have hf1 := @State.ozSend_frame
  simp [↓hf1, dlyReqReceiveEff]

theorem dlyRespReceiveEff_frame (l : ℕ) (turn : ℕ) (s : State) :
    (dlyRespReceiveEff l turn s).now = s.now ∧ (dlyRespReceiveEff l turn s).pending = s.pending ∧
    (dlyRespReceiveEff l turn s).regs0 = s.regs0 ∧ (dlyRespReceiveEff l turn s).freeCtr = s.freeCtr ∧
    (dlyRespReceiveEff l turn s).mode = s.mode ∧ (dlyRespReceiveEff l turn s).mram.keyCnt = s.mram.keyCnt ∧
    (dlyRespReceiveEff l turn s).mram.boot = s.mram.boot ∧ (dlyRespReceiveEff l turn s).sys = s.sys ∧
    (dlyRespReceiveEff l turn s).ana = s.ana ∧ (dlyRespReceiveEff l turn s).aux = s.aux ∧
    (dlyRespReceiveEff l turn s).flt = s.flt ∧ (dlyRespReceiveEff l turn s).tim = s.tim ∧
    (dlyRespReceiveEff l turn s).net = s.net ∧ (dlyRespReceiveEff l turn s).prt = s.prt ∧
    (dlyRespReceiveEff l turn s).trp = s.trp ∧ (dlyRespReceiveEff l turn s).pod = s.pod ∧
    (dlyRespReceiveEff l turn s).lgc = s.lgc ∧ (dlyRespReceiveEff l turn s).gsv = s.gsv ∧
    (dlyRespReceiveEff l turn s).tph = s.tph ∧ (dlyRespReceiveEff l turn s).sec = s.sec ∧
    (dlyRespReceiveEff l turn s).cmd = s.cmd := by
  have hf1 := @State.setLink_frame
  have hf2 := @State.setF_frame
  have hf3 := @State.linkEnter_frame
  have hf4 := @State.raise_frame
  have hf5 := @State.incSat_frame
  simp [↓hf1, ↓hf2, ↓hf3, ↓hf4, ↓hf5, dlyRespReceiveEff]
  (repeat' split) <;> simp [↓hf1, ↓hf2, ↓hf3, ↓hf4, ↓hf5]

theorem timeReceiveEff_frame (l : ℕ) (ns : ℕ) (sec : ℕ) (qual : ℕ) (s : State) :
    (timeReceiveEff l ns sec qual s).now = s.now ∧ (timeReceiveEff l ns sec qual s).pending = s.pending ∧
    (timeReceiveEff l ns sec qual s).regs0 = s.regs0 ∧ (timeReceiveEff l ns sec qual s).freeCtr = s.freeCtr ∧
    (timeReceiveEff l ns sec qual s).mode = s.mode ∧ (timeReceiveEff l ns sec qual s).mram.keyCnt = s.mram.keyCnt ∧
    (timeReceiveEff l ns sec qual s).mram.boot = s.mram.boot ∧ (timeReceiveEff l ns sec qual s).sys = s.sys ∧
    (timeReceiveEff l ns sec qual s).ana = s.ana ∧ (timeReceiveEff l ns sec qual s).aux = s.aux ∧
    (timeReceiveEff l ns sec qual s).flt = s.flt ∧ (timeReceiveEff l ns sec qual s).net = s.net ∧
    (timeReceiveEff l ns sec qual s).prt = s.prt ∧ (timeReceiveEff l ns sec qual s).trp = s.trp ∧
    (timeReceiveEff l ns sec qual s).pod = s.pod ∧ (timeReceiveEff l ns sec qual s).lgc = s.lgc ∧
    (timeReceiveEff l ns sec qual s).gsv = s.gsv ∧ (timeReceiveEff l ns sec qual s).tph = s.tph ∧
    (timeReceiveEff l ns sec qual s).oz = s.oz ∧ (timeReceiveEff l ns sec qual s).sec = s.sec ∧
    (timeReceiveEff l ns sec qual s).cmd = s.cmd := by
  have hfite := @State.ite_frame
  have hf1 := @State.srcLost_frame
  have hf2 := @State.servoUpdate_frame
  simp [↓hfite, ↓hf1, ↓hf2, timeReceiveEff]

theorem partnerTimeLossEff_frame (s : State) :
    (partnerTimeLossEff s).now = s.now ∧ (partnerTimeLossEff s).pending = s.pending ∧
    (partnerTimeLossEff s).regs0 = s.regs0 ∧ (partnerTimeLossEff s).freeCtr = s.freeCtr ∧
    (partnerTimeLossEff s).mode = s.mode ∧ (partnerTimeLossEff s).mram.keyCnt = s.mram.keyCnt ∧
    (partnerTimeLossEff s).mram.boot = s.mram.boot ∧ (partnerTimeLossEff s).sys = s.sys ∧
    (partnerTimeLossEff s).ana = s.ana ∧ (partnerTimeLossEff s).aux = s.aux ∧ (partnerTimeLossEff s).flt = s.flt ∧
    (partnerTimeLossEff s).net = s.net ∧ (partnerTimeLossEff s).prt = s.prt ∧ (partnerTimeLossEff s).trp = s.trp ∧
    (partnerTimeLossEff s).pod = s.pod ∧ (partnerTimeLossEff s).lgc = s.lgc ∧ (partnerTimeLossEff s).gsv = s.gsv ∧
    (partnerTimeLossEff s).tph = s.tph ∧ (partnerTimeLossEff s).oz = s.oz ∧ (partnerTimeLossEff s).sec = s.sec ∧
    (partnerTimeLossEff s).cmd = s.cmd := by
  have hfite := @State.ite_frame
  have hf1 := @State.srcLost_frame
  unfold partnerTimeLossEff
  (repeat' split) <;> first | (simp [↓hfite, ↓hf1]; done) | exact ⟨foldl_now _ _ _ (fun s x => by (try dsimp only); (repeat' split) <;> simp [↓hfite, ↓hf1]), foldl_pending _ _ _ (fun s x => by (try dsimp only); (repeat' split) <;> simp [↓hfite, ↓hf1]), foldl_regs0 _ _ _ (fun s x => by (try dsimp only); (repeat' split) <;> simp [↓hfite, ↓hf1]), foldl_freeCtr _ _ _ (fun s x => by (try dsimp only); (repeat' split) <;> simp [↓hfite, ↓hf1]), foldl_mode _ _ _ (fun s x => by (try dsimp only); (repeat' split) <;> simp [↓hfite, ↓hf1]), foldl_mram_keyCnt _ _ _ (fun s x => by (try dsimp only); (repeat' split) <;> simp [↓hfite, ↓hf1]), foldl_mram_boot _ _ _ (fun s x => by (try dsimp only); (repeat' split) <;> simp [↓hfite, ↓hf1]), foldl_sys _ _ _ (fun s x => by (try dsimp only); (repeat' split) <;> simp [↓hfite, ↓hf1]), foldl_ana _ _ _ (fun s x => by (try dsimp only); (repeat' split) <;> simp [↓hfite, ↓hf1]), foldl_aux _ _ _ (fun s x => by (try dsimp only); (repeat' split) <;> simp [↓hfite, ↓hf1]), foldl_flt _ _ _ (fun s x => by (try dsimp only); (repeat' split) <;> simp [↓hfite, ↓hf1]), foldl_net _ _ _ (fun s x => by (try dsimp only); (repeat' split) <;> simp [↓hfite, ↓hf1]), foldl_prt _ _ _ (fun s x => by (try dsimp only); (repeat' split) <;> simp [↓hfite, ↓hf1]), foldl_trp _ _ _ (fun s x => by (try dsimp only); (repeat' split) <;> simp [↓hfite, ↓hf1]), foldl_pod _ _ _ (fun s x => by (try dsimp only); (repeat' split) <;> simp [↓hfite, ↓hf1]), foldl_lgc _ _ _ (fun s x => by (try dsimp only); (repeat' split) <;> simp [↓hfite, ↓hf1]), foldl_gsv _ _ _ (fun s x => by (try dsimp only); (repeat' split) <;> simp [↓hfite, ↓hf1]), foldl_tph _ _ _ (fun s x => by (try dsimp only); (repeat' split) <;> simp [↓hfite, ↓hf1]), foldl_oz _ _ _ (fun s x => by (try dsimp only); (repeat' split) <;> simp [↓hfite, ↓hf1]), foldl_sec _ _ _ (fun s x => by (try dsimp only); (repeat' split) <;> simp [↓hfite, ↓hf1]), foldl_cmd _ _ _ (fun s x => by (try dsimp only); (repeat' split) <;> simp [↓hfite, ↓hf1])⟩

theorem State.ozDeliver_frame (s : State) (t : OzTrig) :
    (State.ozDeliver s t).now = s.now ∧ (State.ozDeliver s t).pending = s.pending ∧
    (State.ozDeliver s t).regs0 = s.regs0 ∧ (State.ozDeliver s t).freeCtr = s.freeCtr ∧
    (State.ozDeliver s t).mode = s.mode ∧ (State.ozDeliver s t).mram.keyCnt = s.mram.keyCnt ∧
    (State.ozDeliver s t).mram.boot = s.mram.boot ∧ (State.ozDeliver s t).sys = s.sys ∧
    (State.ozDeliver s t).ana = s.ana ∧ (State.ozDeliver s t).aux = s.aux ∧ (State.ozDeliver s t).flt = s.flt ∧
    (State.ozDeliver s t).tim = s.tim ∧ (State.ozDeliver s t).net = s.net ∧ (State.ozDeliver s t).prt = s.prt ∧
    (State.ozDeliver s t).trp = s.trp ∧ (State.ozDeliver s t).pod = s.pod ∧ (State.ozDeliver s t).lgc = s.lgc ∧
    (State.ozDeliver s t).gsv = s.gsv ∧ (State.ozDeliver s t).sec = s.sec ∧ (State.ozDeliver s t).cmd = s.cmd := by
  have hfite := @State.ite_frame
  have hf1 := @State.trigCycle_frame
  have hf2 := @State.incWrap_frame
  simp [↓hfite, ↓hf1, ↓hf2, State.ozDeliver]

theorem ozTrigDeliveryEff_frame (s : State) :
    (ozTrigDeliveryEff s).now = s.now ∧ (ozTrigDeliveryEff s).pending = s.pending ∧
    (ozTrigDeliveryEff s).regs0 = s.regs0 ∧ (ozTrigDeliveryEff s).freeCtr = s.freeCtr ∧
    (ozTrigDeliveryEff s).mode = s.mode ∧ (ozTrigDeliveryEff s).mram.keyCnt = s.mram.keyCnt ∧
    (ozTrigDeliveryEff s).mram.boot = s.mram.boot ∧ (ozTrigDeliveryEff s).sys = s.sys ∧
    (ozTrigDeliveryEff s).ana = s.ana ∧ (ozTrigDeliveryEff s).aux = s.aux ∧ (ozTrigDeliveryEff s).flt = s.flt ∧
    (ozTrigDeliveryEff s).tim = s.tim ∧ (ozTrigDeliveryEff s).net = s.net ∧ (ozTrigDeliveryEff s).prt = s.prt ∧
    (ozTrigDeliveryEff s).trp = s.trp ∧ (ozTrigDeliveryEff s).pod = s.pod ∧ (ozTrigDeliveryEff s).lgc = s.lgc ∧
    (ozTrigDeliveryEff s).gsv = s.gsv ∧ (ozTrigDeliveryEff s).sec = s.sec ∧ (ozTrigDeliveryEff s).cmd = s.cmd := by
  have hfite := @State.ite_frame
  have hf1 := @State.ozDeliver_frame
  simp [↓hfite, ↓hf1, ozTrigDeliveryEff]

theorem State.trigTake_frame (s : State) (l : ℕ) (id : ℕ) (hops : ℕ) (orig : ℕ) (age : ℕ) (ns : ℕ) (sec : ℕ) :
    (State.trigTake s l id hops orig age ns sec).now = s.now ∧
    (State.trigTake s l id hops orig age ns sec).pending = s.pending ∧
    (State.trigTake s l id hops orig age ns sec).regs0 = s.regs0 ∧
    (State.trigTake s l id hops orig age ns sec).freeCtr = s.freeCtr ∧
    (State.trigTake s l id hops orig age ns sec).mode = s.mode ∧
    (State.trigTake s l id hops orig age ns sec).mram.keyCnt = s.mram.keyCnt ∧
    (State.trigTake s l id hops orig age ns sec).mram.boot = s.mram.boot ∧
    (State.trigTake s l id hops orig age ns sec).sys = s.sys ∧
    (State.trigTake s l id hops orig age ns sec).ana = s.ana ∧
    (State.trigTake s l id hops orig age ns sec).aux = s.aux ∧
    (State.trigTake s l id hops orig age ns sec).flt = s.flt ∧
    (State.trigTake s l id hops orig age ns sec).tim = s.tim ∧
    (State.trigTake s l id hops orig age ns sec).net = s.net ∧
    (State.trigTake s l id hops orig age ns sec).prt = s.prt ∧
    (State.trigTake s l id hops orig age ns sec).trp = s.trp ∧
    (State.trigTake s l id hops orig age ns sec).pod = s.pod ∧
    (State.trigTake s l id hops orig age ns sec).lgc = s.lgc ∧
    (State.trigTake s l id hops orig age ns sec).gsv = s.gsv ∧
    (State.trigTake s l id hops orig age ns sec).sec = s.sec ∧
    (State.trigTake s l id hops orig age ns sec).cmd = s.cmd := by
  have hfite := @State.ite_frame
  have hf1 := @State.ozSend_frame
  have hf2 := @State.raise_frame
  have hf3 := @State.incSat_frame
  have hf4 := @State.ozDeliver_frame
  simp [↓hfite, ↓hf1, ↓hf2, ↓hf3, ↓hf4, State.trigTake]

theorem ozTrigReceiveEff_frame (l : ℕ) (lseq : ℕ) (id : ℕ) (hops : ℕ) (orig : ℕ) (age : ℕ) (ns : ℕ) (sec : ℕ) (s : State) :
    (ozTrigReceiveEff l lseq id hops orig age ns sec s).now = s.now ∧
    (ozTrigReceiveEff l lseq id hops orig age ns sec s).pending = s.pending ∧
    (ozTrigReceiveEff l lseq id hops orig age ns sec s).regs0 = s.regs0 ∧
    (ozTrigReceiveEff l lseq id hops orig age ns sec s).freeCtr = s.freeCtr ∧
    (ozTrigReceiveEff l lseq id hops orig age ns sec s).mode = s.mode ∧
    (ozTrigReceiveEff l lseq id hops orig age ns sec s).mram.keyCnt = s.mram.keyCnt ∧
    (ozTrigReceiveEff l lseq id hops orig age ns sec s).mram.boot = s.mram.boot ∧
    (ozTrigReceiveEff l lseq id hops orig age ns sec s).sys = s.sys ∧
    (ozTrigReceiveEff l lseq id hops orig age ns sec s).ana = s.ana ∧
    (ozTrigReceiveEff l lseq id hops orig age ns sec s).aux = s.aux ∧
    (ozTrigReceiveEff l lseq id hops orig age ns sec s).flt = s.flt ∧
    (ozTrigReceiveEff l lseq id hops orig age ns sec s).tim = s.tim ∧
    (ozTrigReceiveEff l lseq id hops orig age ns sec s).net = s.net ∧
    (ozTrigReceiveEff l lseq id hops orig age ns sec s).prt = s.prt ∧
    (ozTrigReceiveEff l lseq id hops orig age ns sec s).trp = s.trp ∧
    (ozTrigReceiveEff l lseq id hops orig age ns sec s).pod = s.pod ∧
    (ozTrigReceiveEff l lseq id hops orig age ns sec s).lgc = s.lgc ∧
    (ozTrigReceiveEff l lseq id hops orig age ns sec s).gsv = s.gsv ∧
    (ozTrigReceiveEff l lseq id hops orig age ns sec s).sec = s.sec ∧
    (ozTrigReceiveEff l lseq id hops orig age ns sec s).cmd = s.cmd := by
  have hfite := @State.ite_frame
  have hf1 := @State.ozAccept_frame
  have hf2 := @State.raise_frame
  have hf3 := @State.incSat_frame
  have hf4 := @State.trigTake_frame
  simp [↓hfite, ↓hf1, ↓hf2, ↓hf3, ↓hf4, ozTrigReceiveEff]

theorem State.takeDuties_frame (s : State) :
    (State.takeDuties s).now = s.now ∧ (State.takeDuties s).pending = s.pending ∧
    (State.takeDuties s).regs0 = s.regs0 ∧ (State.takeDuties s).freeCtr = s.freeCtr ∧
    (State.takeDuties s).mode = s.mode ∧ (State.takeDuties s).mram = s.mram ∧ (State.takeDuties s).sys = s.sys ∧
    (State.takeDuties s).evt = s.evt ∧ (State.takeDuties s).ana = s.ana ∧ (State.takeDuties s).aux = s.aux ∧
    (State.takeDuties s).flt = s.flt ∧ (State.takeDuties s).tim = s.tim ∧ (State.takeDuties s).prt = s.prt ∧
    (State.takeDuties s).trp = s.trp ∧ (State.takeDuties s).pod = s.pod ∧ (State.takeDuties s).lgc = s.lgc ∧
    (State.takeDuties s).tph = s.tph ∧ (State.takeDuties s).sec = s.sec ∧ (State.takeDuties s).cmd = s.cmd := by
  have hfite := @State.ite_frame
  have hf1 := @State.goosePublish_frame
  have hf2 := @State.setFlag_frame
  simp [↓hfite, ↓hf1, ↓hf2, State.takeDuties]

theorem State.releaseDuties_frame (s : State) :
    (State.releaseDuties s).now = s.now ∧ (State.releaseDuties s).pending = s.pending ∧
    (State.releaseDuties s).regs0 = s.regs0 ∧ (State.releaseDuties s).freeCtr = s.freeCtr ∧
    (State.releaseDuties s).mode = s.mode ∧ (State.releaseDuties s).mram = s.mram ∧
    (State.releaseDuties s).sys = s.sys ∧ (State.releaseDuties s).evt = s.evt ∧ (State.releaseDuties s).ana = s.ana ∧
    (State.releaseDuties s).aux = s.aux ∧ (State.releaseDuties s).flt = s.flt ∧ (State.releaseDuties s).tim = s.tim ∧
    (State.releaseDuties s).net = s.net ∧ (State.releaseDuties s).prt = s.prt ∧ (State.releaseDuties s).trp = s.trp ∧
    (State.releaseDuties s).pod = s.pod ∧ (State.releaseDuties s).lgc = s.lgc ∧ (State.releaseDuties s).tph = s.tph ∧
    (State.releaseDuties s).sec = s.sec ∧ (State.releaseDuties s).cmd = s.cmd := by
  have hf1 := @State.gooseStop_frame
  have hf2 := @State.setFlag_frame
  simp [↓hf1, ↓hf2, State.releaseDuties]

theorem heartbeatSendEff_frame (s : State) :
    (heartbeatSendEff s).now = s.now ∧ (heartbeatSendEff s).pending = s.pending ∧
    (heartbeatSendEff s).regs0 = s.regs0 ∧ (heartbeatSendEff s).freeCtr = s.freeCtr ∧
    (heartbeatSendEff s).mode = s.mode ∧ (heartbeatSendEff s).mram = s.mram ∧ (heartbeatSendEff s).sys = s.sys ∧
    (heartbeatSendEff s).evt = s.evt ∧ (heartbeatSendEff s).ana = s.ana ∧ (heartbeatSendEff s).aux = s.aux ∧
    (heartbeatSendEff s).flt = s.flt ∧ (heartbeatSendEff s).tim = s.tim ∧ (heartbeatSendEff s).net = s.net ∧
    (heartbeatSendEff s).prt = s.prt ∧ (heartbeatSendEff s).trp = s.trp ∧ (heartbeatSendEff s).pod = s.pod ∧
    (heartbeatSendEff s).lgc = s.lgc ∧ (heartbeatSendEff s).tph = s.tph ∧ (heartbeatSendEff s).sec = s.sec ∧
    (heartbeatSendEff s).cmd = s.cmd := by
  have hfite := @State.ite_frame
  have hf1 := @State.releaseDuties_frame
  have hf2 := @State.ozSend_frame
  simp [↓hfite, ↓hf1, ↓hf2, heartbeatSendEff]

theorem State.settleDuties_frame (s : State) (test : Bool) (holds : Bool) :
    (State.settleDuties s test holds).now = s.now ∧ (State.settleDuties s test holds).pending = s.pending ∧
    (State.settleDuties s test holds).regs0 = s.regs0 ∧ (State.settleDuties s test holds).freeCtr = s.freeCtr ∧
    (State.settleDuties s test holds).mode = s.mode ∧ (State.settleDuties s test holds).mram.keyCnt = s.mram.keyCnt ∧
    (State.settleDuties s test holds).mram.boot = s.mram.boot ∧ (State.settleDuties s test holds).sys = s.sys ∧
    (State.settleDuties s test holds).ana = s.ana ∧ (State.settleDuties s test holds).aux = s.aux ∧
    (State.settleDuties s test holds).flt = s.flt ∧ (State.settleDuties s test holds).tim = s.tim ∧
    (State.settleDuties s test holds).prt = s.prt ∧ (State.settleDuties s test holds).trp = s.trp ∧
    (State.settleDuties s test holds).pod = s.pod ∧ (State.settleDuties s test holds).lgc = s.lgc ∧
    (State.settleDuties s test holds).tph = s.tph ∧ (State.settleDuties s test holds).sec = s.sec ∧
    (State.settleDuties s test holds).cmd = s.cmd := by
  have hfite := @State.ite_frame
  have hf1 := @State.raise_frame
  have hf2 := @State.setFlag_frame
  have hf3 := @State.releaseDuties_frame
  have hf4 := @State.takeDuties_frame
  simp [↓hfite, ↓hf1, ↓hf2, ↓hf3, ↓hf4, State.settleDuties]

theorem heartbeatReceiveEff_frame (lseq : ℕ) (podOk : ℕ) (test : Bool) (holds : Bool) (s : State) :
    (heartbeatReceiveEff lseq podOk test holds s).now = s.now ∧
    (heartbeatReceiveEff lseq podOk test holds s).pending = s.pending ∧
    (heartbeatReceiveEff lseq podOk test holds s).regs0 = s.regs0 ∧
    (heartbeatReceiveEff lseq podOk test holds s).freeCtr = s.freeCtr ∧
    (heartbeatReceiveEff lseq podOk test holds s).mode = s.mode ∧
    (heartbeatReceiveEff lseq podOk test holds s).mram.keyCnt = s.mram.keyCnt ∧
    (heartbeatReceiveEff lseq podOk test holds s).mram.boot = s.mram.boot ∧
    (heartbeatReceiveEff lseq podOk test holds s).sys = s.sys ∧
    (heartbeatReceiveEff lseq podOk test holds s).ana = s.ana ∧
    (heartbeatReceiveEff lseq podOk test holds s).aux = s.aux ∧
    (heartbeatReceiveEff lseq podOk test holds s).flt = s.flt ∧
    (heartbeatReceiveEff lseq podOk test holds s).tim = s.tim ∧
    (heartbeatReceiveEff lseq podOk test holds s).prt = s.prt ∧
    (heartbeatReceiveEff lseq podOk test holds s).trp = s.trp ∧
    (heartbeatReceiveEff lseq podOk test holds s).pod = s.pod ∧
    (heartbeatReceiveEff lseq podOk test holds s).lgc = s.lgc ∧
    (heartbeatReceiveEff lseq podOk test holds s).tph = s.tph ∧
    (heartbeatReceiveEff lseq podOk test holds s).sec = s.sec ∧
    (heartbeatReceiveEff lseq podOk test holds s).cmd = s.cmd := by
  have hfite := @State.ite_frame
  have hf1 := @State.ozAccept_frame
  have hf2 := @State.settleDuties_frame
  have hf3 := @State.setF_frame
  have hf4 := @State.setFlag_frame
  simp [↓hfite, ↓hf1, ↓hf2, ↓hf3, ↓hf4, heartbeatReceiveEff]

theorem partnerOkTimeoutEff_frame (s : State) :
    (partnerOkTimeoutEff s).now = s.now ∧ (partnerOkTimeoutEff s).pending = s.pending ∧
    (partnerOkTimeoutEff s).regs0 = s.regs0 ∧ (partnerOkTimeoutEff s).freeCtr = s.freeCtr ∧
    (partnerOkTimeoutEff s).mode = s.mode ∧ (partnerOkTimeoutEff s).mram.keyCnt = s.mram.keyCnt ∧
    (partnerOkTimeoutEff s).mram.boot = s.mram.boot ∧ (partnerOkTimeoutEff s).sys = s.sys ∧
    (partnerOkTimeoutEff s).ana = s.ana ∧ (partnerOkTimeoutEff s).aux = s.aux ∧ (partnerOkTimeoutEff s).flt = s.flt ∧
    (partnerOkTimeoutEff s).tim = s.tim ∧ (partnerOkTimeoutEff s).prt = s.prt ∧ (partnerOkTimeoutEff s).trp = s.trp ∧
    (partnerOkTimeoutEff s).pod = s.pod ∧ (partnerOkTimeoutEff s).lgc = s.lgc ∧ (partnerOkTimeoutEff s).tph = s.tph ∧
    (partnerOkTimeoutEff s).sec = s.sec ∧ (partnerOkTimeoutEff s).cmd = s.cmd := by
  have hfite := @State.ite_frame
  have hf1 := @State.takeDuties_frame
  have hf2 := @State.raise_frame
  have hf3 := @State.incSat_frame
  have hf4 := @State.setFlag_frame
  unfold partnerOkTimeoutEff
  (repeat' split) <;> simp [↓hfite, ↓hf1, ↓hf2, ↓hf3, ↓hf4]

theorem State.dutiesAtActive_frame (s : State) :
    (State.dutiesAtActive s).now = s.now ∧ (State.dutiesAtActive s).pending = s.pending ∧
    (State.dutiesAtActive s).regs0 = s.regs0 ∧ (State.dutiesAtActive s).freeCtr = s.freeCtr ∧
    (State.dutiesAtActive s).mode = s.mode ∧ (State.dutiesAtActive s).mram = s.mram ∧
    (State.dutiesAtActive s).sys = s.sys ∧ (State.dutiesAtActive s).evt = s.evt ∧
    (State.dutiesAtActive s).ana = s.ana ∧ (State.dutiesAtActive s).aux = s.aux ∧
    (State.dutiesAtActive s).flt = s.flt ∧ (State.dutiesAtActive s).tim = s.tim ∧
    (State.dutiesAtActive s).prt = s.prt ∧ (State.dutiesAtActive s).trp = s.trp ∧
    (State.dutiesAtActive s).pod = s.pod ∧ (State.dutiesAtActive s).lgc = s.lgc ∧
    (State.dutiesAtActive s).tph = s.tph ∧ (State.dutiesAtActive s).sec = s.sec ∧
    (State.dutiesAtActive s).cmd = s.cmd := by
  have hfite := @State.ite_frame
  have hf1 := @State.takeDuties_frame
  simp [↓hfite, ↓hf1, State.dutiesAtActive]

theorem pairWaitExpiryEff_frame (s : State) :
    (pairWaitExpiryEff s).now = s.now ∧ (pairWaitExpiryEff s).pending = s.pending ∧
    (pairWaitExpiryEff s).regs0 = s.regs0 ∧ (pairWaitExpiryEff s).freeCtr = s.freeCtr ∧
    (pairWaitExpiryEff s).mode = s.mode ∧ (pairWaitExpiryEff s).mram = s.mram ∧ (pairWaitExpiryEff s).sys = s.sys ∧
    (pairWaitExpiryEff s).evt = s.evt ∧ (pairWaitExpiryEff s).ana = s.ana ∧ (pairWaitExpiryEff s).aux = s.aux ∧
    (pairWaitExpiryEff s).flt = s.flt ∧ (pairWaitExpiryEff s).tim = s.tim ∧ (pairWaitExpiryEff s).prt = s.prt ∧
    (pairWaitExpiryEff s).trp = s.trp ∧ (pairWaitExpiryEff s).pod = s.pod ∧ (pairWaitExpiryEff s).lgc = s.lgc ∧
    (pairWaitExpiryEff s).tph = s.tph ∧ (pairWaitExpiryEff s).sec = s.sec ∧ (pairWaitExpiryEff s).cmd = s.cmd := by
  have hfite := @State.ite_frame
  have hf1 := @State.takeDuties_frame
  unfold pairWaitExpiryEff
  (repeat' split) <;> simp [↓hfite, ↓hf1]

theorem State.digestSend_frame (s : State) :
    (State.digestSend s).now = s.now ∧ (State.digestSend s).pending = s.pending ∧
    (State.digestSend s).regs0 = s.regs0 ∧ (State.digestSend s).freeCtr = s.freeCtr ∧
    (State.digestSend s).mode = s.mode ∧ (State.digestSend s).mram = s.mram ∧ (State.digestSend s).sys = s.sys ∧
    (State.digestSend s).evt = s.evt ∧ (State.digestSend s).ana = s.ana ∧ (State.digestSend s).aux = s.aux ∧
    (State.digestSend s).flt = s.flt ∧ (State.digestSend s).tim = s.tim ∧ (State.digestSend s).net = s.net ∧
    (State.digestSend s).prt = s.prt ∧ (State.digestSend s).trp = s.trp ∧ (State.digestSend s).pod = s.pod ∧
    (State.digestSend s).lgc = s.lgc ∧ (State.digestSend s).gsv = s.gsv ∧ (State.digestSend s).tph = s.tph ∧
    (State.digestSend s).sec = s.sec ∧ (State.digestSend s).cmd = s.cmd ∧ (State.digestSend s).regs = s.regs := by
  have hfite := @State.ite_frame
  have hf1 := @State.ozSend_frame
  simp [↓hfite, ↓hf1, State.digestSend]

theorem stateReceiveEff_frame (digest : ℕ) (tau : ℕ) (s : State) :
    (stateReceiveEff digest tau s).now = s.now ∧ (stateReceiveEff digest tau s).pending = s.pending ∧
    (stateReceiveEff digest tau s).regs0 = s.regs0 ∧ (stateReceiveEff digest tau s).freeCtr = s.freeCtr ∧
    (stateReceiveEff digest tau s).mode = s.mode ∧ (stateReceiveEff digest tau s).mram.keyCnt = s.mram.keyCnt ∧
    (stateReceiveEff digest tau s).mram.boot = s.mram.boot ∧ (stateReceiveEff digest tau s).sys = s.sys ∧
    (stateReceiveEff digest tau s).ana = s.ana ∧ (stateReceiveEff digest tau s).aux = s.aux ∧
    (stateReceiveEff digest tau s).flt = s.flt ∧ (stateReceiveEff digest tau s).tim = s.tim ∧
    (stateReceiveEff digest tau s).net = s.net ∧ (stateReceiveEff digest tau s).prt = s.prt ∧
    (stateReceiveEff digest tau s).trp = s.trp ∧ (stateReceiveEff digest tau s).pod = s.pod ∧
    (stateReceiveEff digest tau s).lgc = s.lgc ∧ (stateReceiveEff digest tau s).gsv = s.gsv ∧
    (stateReceiveEff digest tau s).tph = s.tph ∧ (stateReceiveEff digest tau s).sec = s.sec ∧
    (stateReceiveEff digest tau s).cmd = s.cmd := by
  have hfite := @State.ite_frame
  have hf1 := @State.incSat_frame
  have hf2 := @State.raise_frame
  have hf3 := @State.setFlag_frame
  simp [↓hfite, ↓hf1, ↓hf2, ↓hf3, stateReceiveEff]
  (repeat' split) <;> simp [↓hfite, ↓hf1, ↓hf2, ↓hf3]

theorem pubseqReceiveEff_frame (lseq : ℕ) (cb : ℕ) (st : ℕ) (s : State) :
    (pubseqReceiveEff lseq cb st s).now = s.now ∧ (pubseqReceiveEff lseq cb st s).pending = s.pending ∧
    (pubseqReceiveEff lseq cb st s).regs0 = s.regs0 ∧ (pubseqReceiveEff lseq cb st s).freeCtr = s.freeCtr ∧
    (pubseqReceiveEff lseq cb st s).mode = s.mode ∧ (pubseqReceiveEff lseq cb st s).mram = s.mram ∧
    (pubseqReceiveEff lseq cb st s).sys = s.sys ∧ (pubseqReceiveEff lseq cb st s).evt = s.evt ∧
    (pubseqReceiveEff lseq cb st s).ana = s.ana ∧ (pubseqReceiveEff lseq cb st s).aux = s.aux ∧
    (pubseqReceiveEff lseq cb st s).flt = s.flt ∧ (pubseqReceiveEff lseq cb st s).tim = s.tim ∧
    (pubseqReceiveEff lseq cb st s).net = s.net ∧ (pubseqReceiveEff lseq cb st s).prt = s.prt ∧
    (pubseqReceiveEff lseq cb st s).trp = s.trp ∧ (pubseqReceiveEff lseq cb st s).pod = s.pod ∧
    (pubseqReceiveEff lseq cb st s).lgc = s.lgc ∧ (pubseqReceiveEff lseq cb st s).gsv = s.gsv ∧
    (pubseqReceiveEff lseq cb st s).tph = s.tph ∧ (pubseqReceiveEff lseq cb st s).sec = s.sec ∧
    (pubseqReceiveEff lseq cb st s).cmd = s.cmd ∧ (pubseqReceiveEff lseq cb st s).regs = s.regs := by
  have hfite := @State.ite_frame
  have hf1 := @State.ozAccept_frame
  simp [↓hfite, ↓hf1, pubseqReceiveEff]

theorem imageReceiveEff_frame (lseq : ℕ) (dig : ℕ) (s : State) :
    (imageReceiveEff lseq dig s).now = s.now ∧ (imageReceiveEff lseq dig s).pending = s.pending ∧
    (imageReceiveEff lseq dig s).regs0 = s.regs0 ∧ (imageReceiveEff lseq dig s).freeCtr = s.freeCtr ∧
    (imageReceiveEff lseq dig s).mode = s.mode ∧ (imageReceiveEff lseq dig s).mram.keyCnt = s.mram.keyCnt ∧
    (imageReceiveEff lseq dig s).mram.boot = s.mram.boot ∧ (imageReceiveEff lseq dig s).sys = s.sys ∧
    (imageReceiveEff lseq dig s).ana = s.ana ∧ (imageReceiveEff lseq dig s).aux = s.aux ∧
    (imageReceiveEff lseq dig s).flt = s.flt ∧ (imageReceiveEff lseq dig s).tim = s.tim ∧
    (imageReceiveEff lseq dig s).net = s.net ∧ (imageReceiveEff lseq dig s).prt = s.prt ∧
    (imageReceiveEff lseq dig s).trp = s.trp ∧ (imageReceiveEff lseq dig s).pod = s.pod ∧
    (imageReceiveEff lseq dig s).lgc = s.lgc ∧ (imageReceiveEff lseq dig s).gsv = s.gsv ∧
    (imageReceiveEff lseq dig s).tph = s.tph ∧ (imageReceiveEff lseq dig s).sec = s.sec ∧
    (imageReceiveEff lseq dig s).cmd = s.cmd := by
  have hfite := @State.ite_frame
  have hf1 := @State.ozAccept_frame
  have hf2 := @State.setFlag_frame
  have hf3 := @State.raise_frame
  simp [↓hfite, ↓hf1, ↓hf2, ↓hf3, imageReceiveEff]

theorem State.handover_frame (s : State) :
    (State.handover s).2.now = s.now ∧ (State.handover s).2.pending = s.pending ∧
    (State.handover s).2.regs0 = s.regs0 ∧ (State.handover s).2.freeCtr = s.freeCtr ∧
    (State.handover s).2.mode = s.mode ∧ (State.handover s).2.mram = s.mram ∧ (State.handover s).2.sys = s.sys ∧
    (State.handover s).2.evt = s.evt ∧ (State.handover s).2.ana = s.ana ∧ (State.handover s).2.aux = s.aux ∧
    (State.handover s).2.flt = s.flt ∧ (State.handover s).2.tim = s.tim ∧ (State.handover s).2.net = s.net ∧
    (State.handover s).2.prt = s.prt ∧ (State.handover s).2.trp = s.trp ∧ (State.handover s).2.pod = s.pod ∧
    (State.handover s).2.lgc = s.lgc ∧ (State.handover s).2.tph = s.tph ∧ (State.handover s).2.sec = s.sec ∧
    (State.handover s).2.cmd = s.cmd := by
  have hf1 := @State.releaseDuties_frame
  unfold State.handover
  (repeat' split) <;> simp [↓hf1]
end Sys2Proof.Machine
end

