-- ==== Sys2Proof/Laws/FrameLoad.lean ====
section
/-!
SUPPORT. What the operations of Machine/Load.lean leave as it was: one lemma per operation, over the parts of the state.
-/
set_option linter.all false
set_option Elab.async false
namespace Sys2Proof.Machine
theorem State.withImage_frame (s : State) (img : Image) :
    (State.withImage s img).now = s.now ∧ (State.withImage s img).pending = s.pending ∧
    (State.withImage s img).regs0 = s.regs0 ∧ (State.withImage s img).freeCtr = s.freeCtr ∧
    (State.withImage s img).mode = s.mode ∧ (State.withImage s img).mram = s.mram ∧
    (State.withImage s img).sys = s.sys ∧ (State.withImage s img).evt = s.evt ∧ (State.withImage s img).ana = s.ana ∧
    (State.withImage s img).aux = s.aux ∧ (State.withImage s img).flt = s.flt ∧ (State.withImage s img).tim = s.tim ∧
    (State.withImage s img).net = s.net ∧ (State.withImage s img).prt = s.prt ∧ (State.withImage s img).trp = s.trp ∧
    (State.withImage s img).pod = s.pod ∧ (State.withImage s img).lgc = s.lgc ∧ (State.withImage s img).tph = s.tph ∧
    (State.withImage s img).oz = s.oz ∧ (State.withImage s img).sec = s.sec ∧ (State.withImage s img).cmd = s.cmd := by
  have hfite := @State.ite_frame
  have hf1 := @State.setF_frame
  have hf2 := @State.setFlag_frame
  simp [↓hfite, ↓hf1, ↓hf2, State.withImage]
end Sys2Proof.Machine
end

