-- ==== Sys2Proof/Laws/FrameStart.lean ====
section
/-!
SUPPORT. What the operations of Machine/Start.lean leave as it was: one lemma per operation, over the parts of the state.
-/
set_option linter.all false
set_option Elab.async false
namespace Sys2Proof.Machine
@[simp ↓] theorem State.sysUpd_sys (s : State) (f : SysSt → SysSt) : (s.sysUpd f).sys = f s.sys := by
  simp [State.sysUpd]

theorem State.sysUpd_frame (s : State) (f : SysSt → SysSt) :
    (s.sysUpd f).now = s.now ∧ (s.sysUpd f).pending = s.pending ∧ (s.sysUpd f).regs0 = s.regs0 ∧ (s.sysUpd f).freeCtr = s.freeCtr ∧
    (s.sysUpd f).mode = s.mode ∧ (s.sysUpd f).mram = s.mram ∧ (s.sysUpd f).evt = s.evt ∧ (s.sysUpd f).ana = s.ana ∧
    (s.sysUpd f).aux = s.aux ∧ (s.sysUpd f).flt = s.flt ∧ (s.sysUpd f).tim = s.tim ∧ (s.sysUpd f).net = s.net ∧
    (s.sysUpd f).prt = s.prt ∧ (s.sysUpd f).trp = s.trp ∧ (s.sysUpd f).pod = s.pod ∧ (s.sysUpd f).lgc = s.lgc ∧
    (s.sysUpd f).gsv = s.gsv ∧ (s.sysUpd f).tph = s.tph ∧ (s.sysUpd f).oz = s.oz ∧ (s.sysUpd f).sec = s.sec ∧
    (s.sysUpd f).cmd = s.cmd ∧ (s.sysUpd f).regs = s.regs := by
  simp [State.sysUpd]

theorem State.answerMode_frame (s : State) (st : Status) :
    (State.answerMode s st).now = s.now ∧ (State.answerMode s st).pending = s.pending ∧
    (State.answerMode s st).regs0 = s.regs0 ∧ (State.answerMode s st).freeCtr = s.freeCtr ∧
    (State.answerMode s st).mode = s.mode ∧ (State.answerMode s st).mram.keyCnt = s.mram.keyCnt ∧
    (State.answerMode s st).mram.boot = s.mram.boot ∧ (State.answerMode s st).sys = s.sys ∧
    (State.answerMode s st).ana = s.ana ∧ (State.answerMode s st).aux = s.aux ∧ (State.answerMode s st).flt = s.flt ∧
    (State.answerMode s st).tim = s.tim ∧ (State.answerMode s st).prt = s.prt ∧ (State.answerMode s st).trp = s.trp ∧
    (State.answerMode s st).pod = s.pod ∧ (State.answerMode s st).lgc = s.lgc ∧ (State.answerMode s st).gsv = s.gsv ∧
    (State.answerMode s st).tph = s.tph ∧ (State.answerMode s st).oz = s.oz ∧
    (State.answerMode s st).sec.otp = s.sec.otp ∧ (State.answerMode s st).cmd.run = s.cmd.run ∧
    (State.answerMode s st).cmd.svc = s.cmd.svc := by
  have hf1 := @State.respond_frame
  unfold State.answerMode
  (repeat' split) <;> simp [↓hf1]

theorem State.dropMode_frame (s : State) :
    (State.dropMode s).now = s.now ∧ (State.dropMode s).pending = s.pending ∧ (State.dropMode s).regs0 = s.regs0 ∧
    (State.dropMode s).freeCtr = s.freeCtr ∧ (State.dropMode s).mode = s.mode ∧
    (State.dropMode s).mram.keyCnt = s.mram.keyCnt ∧ (State.dropMode s).mram.boot = s.mram.boot ∧
    (State.dropMode s).sys = s.sys ∧ (State.dropMode s).ana = s.ana ∧ (State.dropMode s).aux = s.aux ∧
    (State.dropMode s).flt = s.flt ∧ (State.dropMode s).tim = s.tim ∧ (State.dropMode s).net = s.net ∧
    (State.dropMode s).prt = s.prt ∧ (State.dropMode s).trp = s.trp ∧ (State.dropMode s).pod = s.pod ∧
    (State.dropMode s).lgc = s.lgc ∧ (State.dropMode s).gsv = s.gsv ∧ (State.dropMode s).tph = s.tph ∧
    (State.dropMode s).oz = s.oz ∧ (State.dropMode s).sec.otp = s.sec.otp ∧ (State.dropMode s).cmd.run = s.cmd.run ∧
    (State.dropMode s).cmd.svc = s.cmd.svc := by
  have hfite := @State.ite_frame
  have hf1 := @State.retireLast_frame
  unfold State.dropMode
  (repeat' split) <;> simp [↓hfite, ↓hf1]

theorem State.stopTime_frame (s : State) :
    (State.stopTime s).now = s.now ∧ (State.stopTime s).pending = s.pending ∧ (State.stopTime s).regs0 = s.regs0 ∧
    (State.stopTime s).freeCtr = s.freeCtr ∧ (State.stopTime s).mode = s.mode ∧ (State.stopTime s).mram = s.mram ∧
    (State.stopTime s).sys = s.sys ∧ (State.stopTime s).evt = s.evt ∧ (State.stopTime s).ana = s.ana ∧
    (State.stopTime s).aux = s.aux ∧ (State.stopTime s).flt = s.flt ∧ (State.stopTime s).net = s.net ∧
    (State.stopTime s).prt = s.prt ∧ (State.stopTime s).trp = s.trp ∧ (State.stopTime s).pod = s.pod ∧
    (State.stopTime s).lgc = s.lgc ∧ (State.stopTime s).gsv = s.gsv ∧ (State.stopTime s).tph = s.tph ∧
    (State.stopTime s).oz = s.oz ∧ (State.stopTime s).sec = s.sec ∧ (State.stopTime s).cmd = s.cmd ∧
    (State.stopTime s).regs = s.regs := by
  have hfite := @State.ite_frame
  simp [↓hfite, State.stopTime]

theorem State.podsStop_frame (s : State) :
    (State.podsStop s).now = s.now ∧ (State.podsStop s).pending = s.pending ∧ (State.podsStop s).regs0 = s.regs0 ∧
    (State.podsStop s).freeCtr = s.freeCtr ∧ (State.podsStop s).mode = s.mode ∧ (State.podsStop s).mram = s.mram ∧
    (State.podsStop s).sys = s.sys ∧ (State.podsStop s).evt = s.evt ∧ (State.podsStop s).ana = s.ana ∧
    (State.podsStop s).aux = s.aux ∧ (State.podsStop s).flt = s.flt ∧ (State.podsStop s).tim = s.tim ∧
    (State.podsStop s).net = s.net ∧ (State.podsStop s).prt = s.prt ∧ (State.podsStop s).trp = s.trp ∧
    (State.podsStop s).gsv = s.gsv ∧ (State.podsStop s).tph = s.tph ∧ (State.podsStop s).oz = s.oz ∧
    (State.podsStop s).sec = s.sec ∧ (State.podsStop s).cmd = s.cmd := by
  have hfite := @State.ite_frame
  have hf1 := @State.setFlag_frame
  have hf2 := @State.setF_frame
  have hf3 := @State.setPod_frame
  have hf4 := @State.setProg_frame
  simp [↓hfite, ↓hf1, ↓hf2, ↓hf3, ↓hf4, State.podsStop]

theorem State.enterSafe_frame (s : State) (cause : ℕ) :
    (State.enterSafe s cause).now = s.now ∧ (State.enterSafe s cause).pending = s.pending ∧
    (State.enterSafe s cause).regs0 = s.regs0 ∧ (State.enterSafe s cause).mram.keyCnt = s.mram.keyCnt ∧
    (State.enterSafe s cause).sys.straps = s.sys.straps ∧ (State.enterSafe s cause).sys.por = s.sys.por ∧
    (State.enterSafe s cause).sys.mapOn = s.sys.mapOn ∧ (State.enterSafe s cause).ana = s.ana ∧
    (State.enterSafe s cause).aux = s.aux ∧ (State.enterSafe s cause).flt = s.flt ∧
    (State.enterSafe s cause).net = s.net ∧ (State.enterSafe s cause).prt = s.prt ∧
    (State.enterSafe s cause).sec = s.sec ∧ (State.enterSafe s cause).cmd.run = s.cmd.run ∧
    (State.enterSafe s cause).cmd.svc = s.cmd.svc := by
  have hfite := @State.ite_frame
  have hf1 := @State.bootUpd_frame
  have hf2 := @State.releaseDuties_frame
  have hf3 := @State.stopTime_frame
  have hf4 := @State.sysUpd_frame
  have hf5 := @State.recSafe_frame
  have hf6 := @State.enterStop_frame
  have hf7 := @State.podsStop_frame
  have hf8 := @State.outputsLow_frame
  simp [↓hfite, ↓hf1, ↓hf2, ↓hf3, ↓hf4, ↓hf5, ↓hf6, ↓hf7, ↓hf8, State.enterSafe]

theorem State.report_frame (s : State) (slot : ℕ) (r : LoadReport) :
    (State.report s slot r).now = s.now ∧ (State.report s slot r).pending = s.pending ∧
    (State.report s slot r).regs0 = s.regs0 ∧ (State.report s slot r).freeCtr = s.freeCtr ∧
    (State.report s slot r).mode = s.mode ∧ (State.report s slot r).mram.keyCnt = s.mram.keyCnt ∧
    (State.report s slot r).sys = s.sys ∧ (State.report s slot r).evt = s.evt ∧ (State.report s slot r).ana = s.ana ∧
    (State.report s slot r).aux = s.aux ∧ (State.report s slot r).flt = s.flt ∧ (State.report s slot r).tim = s.tim ∧
    (State.report s slot r).net = s.net ∧ (State.report s slot r).prt = s.prt ∧ (State.report s slot r).trp = s.trp ∧
    (State.report s slot r).pod = s.pod ∧ (State.report s slot r).lgc = s.lgc ∧ (State.report s slot r).gsv = s.gsv ∧
    (State.report s slot r).tph = s.tph ∧ (State.report s slot r).oz = s.oz ∧ (State.report s slot r).sec = s.sec ∧
    (State.report s slot r).cmd = s.cmd ∧ (State.report s slot r).regs = s.regs := by
  have hf1 := @State.bootUpd_frame
  simp [↓hf1, State.report]

theorem State.bothInvalid_frame (s : State) (r : LoadReport) :
    (State.bothInvalid s r).now = s.now ∧ (State.bothInvalid s r).pending = s.pending ∧
    (State.bothInvalid s r).regs0 = s.regs0 ∧ (State.bothInvalid s r).mram.keyCnt = s.mram.keyCnt ∧
    (State.bothInvalid s r).sys.straps = s.sys.straps ∧ (State.bothInvalid s r).sys.por = s.sys.por ∧
    (State.bothInvalid s r).sys.mapOn = s.sys.mapOn ∧ (State.bothInvalid s r).ana = s.ana ∧
    (State.bothInvalid s r).aux = s.aux ∧ (State.bothInvalid s r).flt = s.flt ∧ (State.bothInvalid s r).net = s.net ∧
    (State.bothInvalid s r).prt = s.prt ∧ (State.bothInvalid s r).sec = s.sec ∧
    (State.bothInvalid s r).cmd.run = s.cmd.run ∧ (State.bothInvalid s r).cmd.svc = s.cmd.svc := by
  have hf1 := @State.enterSafe_frame
  have hf2 := @State.report_frame
  simp [↓hf1, ↓hf2, State.bothInvalid]

theorem State.slotFailed_frame (s : State) (r : LoadReport) :
    (State.slotFailed s r).now = s.now ∧ (State.slotFailed s r).pending = s.pending ∧
    (State.slotFailed s r).regs0 = s.regs0 ∧ (State.slotFailed s r).mram.keyCnt = s.mram.keyCnt ∧
    (State.slotFailed s r).sys.straps = s.sys.straps ∧ (State.slotFailed s r).sys.por = s.sys.por ∧
    (State.slotFailed s r).sys.mapOn = s.sys.mapOn ∧ (State.slotFailed s r).ana = s.ana ∧
    (State.slotFailed s r).aux = s.aux ∧ (State.slotFailed s r).flt = s.flt ∧ (State.slotFailed s r).net = s.net ∧
    (State.slotFailed s r).prt = s.prt ∧ (State.slotFailed s r).sec = s.sec ∧
    (State.slotFailed s r).cmd.run = s.cmd.run ∧ (State.slotFailed s r).cmd.svc = s.cmd.svc := by
  have hfite := @State.ite_frame
  have hf1 := @State.raise_frame
  have hf2 := @State.report_frame
  have hf3 := @State.sysUpd_frame
  have hf4 := @State.bothInvalid_frame
  simp [↓hfite, ↓hf1, ↓hf2, ↓hf3, ↓hf4, State.slotFailed]

theorem State.startSlot_frame (s : State) :
    (State.startSlot s).now = s.now ∧ (State.startSlot s).pending = s.pending ∧ (State.startSlot s).regs0 = s.regs0 ∧
    (State.startSlot s).mram.keyCnt = s.mram.keyCnt ∧ (State.startSlot s).sys.straps = s.sys.straps ∧
    (State.startSlot s).sys.por = s.sys.por ∧ (State.startSlot s).sys.mapOn = s.sys.mapOn ∧
    (State.startSlot s).ana = s.ana ∧ (State.startSlot s).aux = s.aux ∧ (State.startSlot s).flt = s.flt ∧
    (State.startSlot s).net = s.net ∧ (State.startSlot s).prt = s.prt ∧ (State.startSlot s).sec = s.sec ∧
    (State.startSlot s).cmd.run = s.cmd.run ∧ (State.startSlot s).cmd.svc = s.cmd.svc := by
  have hfite := @State.ite_frame
  have hf1 := @State.sysUpd_frame
  have hf2 := @State.slotFailed_frame
  simp [↓hfite, ↓hf1, ↓hf2, State.startSlot]

theorem State.stepTwo_frame (s : State) (hdrs : List ImgHdr) (octal : Bool) (trngOk : Bool) (hold : Bool) :
    (State.stepTwo s hdrs octal trngOk hold).now = s.now ∧
    (State.stepTwo s hdrs octal trngOk hold).pending = s.pending ∧
    (State.stepTwo s hdrs octal trngOk hold).regs0 = s.regs0 ∧
    (State.stepTwo s hdrs octal trngOk hold).mram.keyCnt = s.mram.keyCnt ∧
    (State.stepTwo s hdrs octal trngOk hold).sys.straps = s.sys.straps ∧
    (State.stepTwo s hdrs octal trngOk hold).sys.por = s.sys.por ∧
    (State.stepTwo s hdrs octal trngOk hold).sys.mapOn = s.sys.mapOn ∧
    (State.stepTwo s hdrs octal trngOk hold).ana = s.ana ∧ (State.stepTwo s hdrs octal trngOk hold).aux = s.aux ∧
    (State.stepTwo s hdrs octal trngOk hold).flt = s.flt ∧ (State.stepTwo s hdrs octal trngOk hold).net = s.net ∧
    (State.stepTwo s hdrs octal trngOk hold).prt = s.prt ∧
    (State.stepTwo s hdrs octal trngOk hold).sec.otp = s.sec.otp ∧
    (State.stepTwo s hdrs octal trngOk hold).sec.keys = s.sec.keys ∧
    (State.stepTwo s hdrs octal trngOk hold).cmd.run = s.cmd.run ∧
    (State.stepTwo s hdrs octal trngOk hold).cmd.svc = s.cmd.svc := by
  have hfite := @State.ite_frame
  have hf1 := @State.sysUpd_frame
  have hf2 := @State.raise_frame
  have hf3 := @State.startSlot_frame
  simp [↓hfite, ↓hf1, ↓hf2, ↓hf3, State.stepTwo]

theorem State.chooseSlot_frame (s : State) (held : Bool) :
    (State.chooseSlot s held).now = s.now ∧ (State.chooseSlot s held).pending = s.pending ∧
    (State.chooseSlot s held).regs0 = s.regs0 ∧ (State.chooseSlot s held).freeCtr = s.freeCtr ∧
    (State.chooseSlot s held).mode = s.mode ∧ (State.chooseSlot s held).mram.keyCnt = s.mram.keyCnt ∧
    (State.chooseSlot s held).sys.straps = s.sys.straps ∧ (State.chooseSlot s held).sys.por = s.sys.por ∧
    (State.chooseSlot s held).sys.mapOn = s.sys.mapOn ∧ (State.chooseSlot s held).evt = s.evt ∧
    (State.chooseSlot s held).ana = s.ana ∧ (State.chooseSlot s held).aux = s.aux ∧
    (State.chooseSlot s held).flt = s.flt ∧ (State.chooseSlot s held).tim = s.tim ∧
    (State.chooseSlot s held).net = s.net ∧ (State.chooseSlot s held).prt = s.prt ∧
    (State.chooseSlot s held).trp = s.trp ∧ (State.chooseSlot s held).pod = s.pod ∧
    (State.chooseSlot s held).lgc = s.lgc ∧ (State.chooseSlot s held).gsv = s.gsv ∧
    (State.chooseSlot s held).tph = s.tph ∧ (State.chooseSlot s held).oz = s.oz ∧
    (State.chooseSlot s held).sec = s.sec ∧ (State.chooseSlot s held).cmd = s.cmd ∧
    (State.chooseSlot s held).regs = s.regs := by
  have hfite := @State.ite_frame
  have hf1 := @State.bootUpd_frame
  have hf2 := @State.bootRead_frame
  have hf3 := @State.sysUpd_frame
  simp [↓hfite, ↓hf1, ↓hf2, ↓hf3, State.chooseSlot]

theorem State.startRecord_frame (s : State) (cause : ℕ) :
    (State.startRecord s cause).now = s.now ∧ (State.startRecord s cause).pending = s.pending ∧
    (State.startRecord s cause).regs0 = s.regs0 ∧ (State.startRecord s cause).freeCtr = s.freeCtr ∧
    (State.startRecord s cause).mode = s.mode ∧ (State.startRecord s cause).mram.keyCnt = s.mram.keyCnt ∧
    (State.startRecord s cause).sys.straps = s.sys.straps ∧ (State.startRecord s cause).sys.por = s.sys.por ∧
    (State.startRecord s cause).sys.mapOn = s.sys.mapOn ∧ (State.startRecord s cause).evt = s.evt ∧
    (State.startRecord s cause).ana = s.ana ∧ (State.startRecord s cause).aux = s.aux ∧
    (State.startRecord s cause).flt = s.flt ∧ (State.startRecord s cause).tim = s.tim ∧
    (State.startRecord s cause).net = s.net ∧ (State.startRecord s cause).prt = s.prt ∧
    (State.startRecord s cause).trp = s.trp ∧ (State.startRecord s cause).pod = s.pod ∧
    (State.startRecord s cause).lgc = s.lgc ∧ (State.startRecord s cause).gsv = s.gsv ∧
    (State.startRecord s cause).tph = s.tph ∧ (State.startRecord s cause).oz = s.oz ∧
    (State.startRecord s cause).sec = s.sec ∧ (State.startRecord s cause).cmd = s.cmd ∧
    (State.startRecord s cause).regs = s.regs := by
  have hf1 := @State.sysUpd_frame
  have hf2 := @State.bootUpd_frame
  simp [↓hf1, ↓hf2, State.startRecord]

theorem State.cleared_frame (s : State) :
    (State.cleared s).now = s.now ∧ (State.cleared s).pending = s.pending ∧ (State.cleared s).freeCtr = s.freeCtr ∧
    (State.cleared s).mram = s.mram ∧ (State.cleared s).sec.otp = s.sec.otp ∧
    (State.cleared s).sec.keys = s.sec.keys := by
  simp [State.cleared]

theorem supplyOutOfRangeEff_frame (s : State) :
    (supplyOutOfRangeEff s).now = s.now ∧ (supplyOutOfRangeEff s).pending = s.pending ∧
    (supplyOutOfRangeEff s).freeCtr = s.freeCtr ∧ (supplyOutOfRangeEff s).mram.keyCnt = s.mram.keyCnt ∧
    (supplyOutOfRangeEff s).mram.boot = s.mram.boot ∧ (supplyOutOfRangeEff s).sec.otp = s.sec.otp := by
  have hfite := @State.ite_frame
  have hf1 := @State.logFlush_frame
  have hf2 := @State.cleared_frame
  have hf3 := @State.dropMode_frame
  simp [↓hfite, ↓hf1, ↓hf2, ↓hf3, supplyOutOfRangeEff]

theorem powerOnResetReleaseEff_frame (straps : Straps) (hdrs : List ImgHdr) (octal : Bool) (trngOk : Bool) (s : State) :
    (powerOnResetReleaseEff straps hdrs octal trngOk s).now = s.now ∧
    (powerOnResetReleaseEff straps hdrs octal trngOk s).pending = s.pending ∧
    (powerOnResetReleaseEff straps hdrs octal trngOk s).regs0 = s.regs0 ∧
    (powerOnResetReleaseEff straps hdrs octal trngOk s).mram.keyCnt = s.mram.keyCnt ∧
    (powerOnResetReleaseEff straps hdrs octal trngOk s).sys.mapOn = s.sys.mapOn ∧
    (powerOnResetReleaseEff straps hdrs octal trngOk s).ana = s.ana ∧
    (powerOnResetReleaseEff straps hdrs octal trngOk s).aux = s.aux ∧
    (powerOnResetReleaseEff straps hdrs octal trngOk s).flt = s.flt ∧
    (powerOnResetReleaseEff straps hdrs octal trngOk s).net = s.net ∧
    (powerOnResetReleaseEff straps hdrs octal trngOk s).prt = s.prt ∧
    (powerOnResetReleaseEff straps hdrs octal trngOk s).sec.otp = s.sec.otp ∧
    (powerOnResetReleaseEff straps hdrs octal trngOk s).sec.keys = s.sec.keys ∧
    (powerOnResetReleaseEff straps hdrs octal trngOk s).cmd.run = s.cmd.run ∧
    (powerOnResetReleaseEff straps hdrs octal trngOk s).cmd.svc = s.cmd.svc := by
  have hfite := @State.ite_frame
  have hf1 := @State.stepTwo_frame
  have hf2 := @State.startRecord_frame
  have hf3 := @State.chooseSlot_frame
  have hf4 := @State.sysUpd_frame
  simp [↓hfite, ↓hf1, ↓hf2, ↓hf3, ↓hf4, powerOnResetReleaseEff]

theorem bootHoldFallEff_frame (hdrs : List ImgHdr) (s : State) :
    (bootHoldFallEff hdrs s).now = s.now ∧ (bootHoldFallEff hdrs s).pending = s.pending ∧
    (bootHoldFallEff hdrs s).regs0 = s.regs0 ∧ (bootHoldFallEff hdrs s).mram.keyCnt = s.mram.keyCnt ∧
    (bootHoldFallEff hdrs s).sys.straps = s.sys.straps ∧ (bootHoldFallEff hdrs s).sys.por = s.sys.por ∧
    (bootHoldFallEff hdrs s).sys.mapOn = s.sys.mapOn ∧ (bootHoldFallEff hdrs s).ana = s.ana ∧
    (bootHoldFallEff hdrs s).aux = s.aux ∧ (bootHoldFallEff hdrs s).flt = s.flt ∧
    (bootHoldFallEff hdrs s).net = s.net ∧ (bootHoldFallEff hdrs s).prt = s.prt ∧
    (bootHoldFallEff hdrs s).sec = s.sec ∧ (bootHoldFallEff hdrs s).cmd.run = s.cmd.run ∧
    (bootHoldFallEff hdrs s).cmd.svc = s.cmd.svc := by
  have hfite := @State.ite_frame
  have hf1 := @State.startSlot_frame
  have hf2 := @State.sysUpd_frame
  simp [↓hfite, ↓hf1, ↓hf2, bootHoldFallEff]

theorem imageHashDoneEff_frame (sigOk : Bool) (s : State) :
    (imageHashDoneEff sigOk s).now = s.now ∧ (imageHashDoneEff sigOk s).pending = s.pending ∧
    (imageHashDoneEff sigOk s).regs0 = s.regs0 ∧ (imageHashDoneEff sigOk s).mram.keyCnt = s.mram.keyCnt ∧
    (imageHashDoneEff sigOk s).sys.straps = s.sys.straps ∧ (imageHashDoneEff sigOk s).sys.por = s.sys.por ∧
    (imageHashDoneEff sigOk s).sys.mapOn = s.sys.mapOn ∧ (imageHashDoneEff sigOk s).ana = s.ana ∧
    (imageHashDoneEff sigOk s).aux = s.aux ∧ (imageHashDoneEff sigOk s).flt = s.flt ∧
    (imageHashDoneEff sigOk s).net = s.net ∧ (imageHashDoneEff sigOk s).prt = s.prt ∧
    (imageHashDoneEff sigOk s).sec = s.sec ∧ (imageHashDoneEff sigOk s).cmd.run = s.cmd.run ∧
    (imageHashDoneEff sigOk s).cmd.svc = s.cmd.svc := by
  have hfite := @State.ite_frame
  have hf1 := @State.sysUpd_frame
  have hf2 := @State.slotFailed_frame
  simp [↓hfite, ↓hf1, ↓hf2, imageHashDoneEff]

theorem lpddr4xTrainingDoneEff_frame (ok : Bool) (s : State) :
    (lpddr4xTrainingDoneEff ok s).now = s.now ∧ (lpddr4xTrainingDoneEff ok s).pending = s.pending ∧
    (lpddr4xTrainingDoneEff ok s).regs0 = s.regs0 ∧ (lpddr4xTrainingDoneEff ok s).mram.keyCnt = s.mram.keyCnt ∧
    (lpddr4xTrainingDoneEff ok s).sys.straps = s.sys.straps ∧ (lpddr4xTrainingDoneEff ok s).sys.por = s.sys.por ∧
    (lpddr4xTrainingDoneEff ok s).sys.mapOn = s.sys.mapOn ∧ (lpddr4xTrainingDoneEff ok s).ana = s.ana ∧
    (lpddr4xTrainingDoneEff ok s).aux = s.aux ∧ (lpddr4xTrainingDoneEff ok s).flt = s.flt ∧
    (lpddr4xTrainingDoneEff ok s).net = s.net ∧ (lpddr4xTrainingDoneEff ok s).prt = s.prt ∧
    (lpddr4xTrainingDoneEff ok s).sec = s.sec ∧ (lpddr4xTrainingDoneEff ok s).cmd.run = s.cmd.run ∧
    (lpddr4xTrainingDoneEff ok s).cmd.svc = s.cmd.svc := by
  have hfite := @State.ite_frame
  have hf1 := @State.sysUpd_frame
  have hf2 := @State.enterSafe_frame
  simp [↓hfite, ↓hf1, ↓hf2, lpddr4xTrainingDoneEff]

theorem sectionsLoadedEff_frame (img : Image) (badHash : List ℕ) (s : State) :
    (sectionsLoadedEff img badHash s).now = s.now ∧ (sectionsLoadedEff img badHash s).pending = s.pending ∧
    (sectionsLoadedEff img badHash s).regs0 = s.regs0 ∧
    (sectionsLoadedEff img badHash s).mram.keyCnt = s.mram.keyCnt ∧
    (sectionsLoadedEff img badHash s).sys.straps = s.sys.straps ∧
    (sectionsLoadedEff img badHash s).sys.por = s.sys.por ∧
    (sectionsLoadedEff img badHash s).sys.mapOn = s.sys.mapOn ∧ (sectionsLoadedEff img badHash s).ana = s.ana ∧
    (sectionsLoadedEff img badHash s).aux = s.aux ∧ (sectionsLoadedEff img badHash s).flt = s.flt ∧
    (sectionsLoadedEff img badHash s).net = s.net ∧ (sectionsLoadedEff img badHash s).prt = s.prt ∧
    (sectionsLoadedEff img badHash s).sec = s.sec ∧ (sectionsLoadedEff img badHash s).cmd.run = s.cmd.run ∧
    (sectionsLoadedEff img badHash s).cmd.svc = s.cmd.svc := by
  have hf1 := @State.slotFailed_frame
  have hf2 := @State.sysUpd_frame
  unfold sectionsLoadedEff
  (repeat' split) <;> simp [↓hf1, ↓hf2]

theorem State.keepMeasured_frame (s : State) (s0 : State) :
    (State.keepMeasured s s0).now = s.now ∧ (State.keepMeasured s s0).pending = s.pending ∧
    (State.keepMeasured s s0).regs0 = s.regs0 ∧ (State.keepMeasured s s0).freeCtr = s.freeCtr ∧
    (State.keepMeasured s s0).mode = s.mode ∧ (State.keepMeasured s s0).mram = s.mram ∧
    (State.keepMeasured s s0).sys = s.sys ∧ (State.keepMeasured s s0).evt = s.evt ∧
    (State.keepMeasured s s0).ana = s.ana ∧ (State.keepMeasured s s0).aux = s.aux ∧
    (State.keepMeasured s s0).flt = s.flt ∧ (State.keepMeasured s s0).tim = s.tim ∧
    (State.keepMeasured s s0).net = s.net ∧ (State.keepMeasured s s0).prt = s.prt ∧
    (State.keepMeasured s s0).trp = s.trp ∧ (State.keepMeasured s s0).pod = s.pod ∧
    (State.keepMeasured s s0).lgc = s.lgc ∧ (State.keepMeasured s s0).gsv = s.gsv ∧
    (State.keepMeasured s s0).tph = s.tph ∧ (State.keepMeasured s s0).oz = s.oz ∧
    (State.keepMeasured s s0).sec = s.sec ∧ (State.keepMeasured s s0).cmd = s.cmd := by
  have hf1 := @State.setFlag_frame
  have hf2 := @State.wr_frame
  simp [↓hf1, ↓hf2, State.keepMeasured]

theorem State.loadIdent_frame (s : State) (h : ImgHdr) (img : Image) :
    (State.loadIdent s h img).now = s.now ∧ (State.loadIdent s h img).pending = s.pending ∧
    (State.loadIdent s h img).regs0 = s.regs0 ∧ (State.loadIdent s h img).freeCtr = s.freeCtr ∧
    (State.loadIdent s h img).mode = s.mode ∧ (State.loadIdent s h img).mram = s.mram ∧
    (State.loadIdent s h img).sys = s.sys ∧ (State.loadIdent s h img).evt = s.evt ∧
    (State.loadIdent s h img).ana = s.ana ∧ (State.loadIdent s h img).aux = s.aux ∧
    (State.loadIdent s h img).flt = s.flt ∧ (State.loadIdent s h img).tim = s.tim ∧
    (State.loadIdent s h img).net = s.net ∧ (State.loadIdent s h img).prt = s.prt ∧
    (State.loadIdent s h img).trp = s.trp ∧ (State.loadIdent s h img).pod = s.pod ∧
    (State.loadIdent s h img).lgc = s.lgc ∧ (State.loadIdent s h img).gsv = s.gsv ∧
    (State.loadIdent s h img).tph = s.tph ∧ (State.loadIdent s h img).oz = s.oz ∧
    (State.loadIdent s h img).sec = s.sec ∧ (State.loadIdent s h img).cmd = s.cmd := by
  have hf1 := @State.setF_frame
  simp [↓hf1, State.loadIdent]

theorem State.loadRefs_frame (s : State) :
    (State.loadRefs s).now = s.now ∧ (State.loadRefs s).pending = s.pending ∧ (State.loadRefs s).regs0 = s.regs0 ∧
    (State.loadRefs s).freeCtr = s.freeCtr ∧ (State.loadRefs s).mode = s.mode ∧ (State.loadRefs s).mram = s.mram ∧
    (State.loadRefs s).sys = s.sys ∧ (State.loadRefs s).evt = s.evt ∧ (State.loadRefs s).ana = s.ana ∧
    (State.loadRefs s).aux = s.aux ∧ (State.loadRefs s).flt = s.flt ∧ (State.loadRefs s).tim = s.tim ∧
    (State.loadRefs s).net = s.net ∧ (State.loadRefs s).prt = s.prt ∧ (State.loadRefs s).trp = s.trp ∧
    (State.loadRefs s).pod = s.pod ∧ (State.loadRefs s).lgc = s.lgc ∧ (State.loadRefs s).gsv = s.gsv ∧
    (State.loadRefs s).tph = s.tph ∧ (State.loadRefs s).oz = s.oz ∧ (State.loadRefs s).sec = s.sec ∧
    (State.loadRefs s).cmd = s.cmd := by
  have hf1 := @State.setF_frame
  simp [↓hf1, State.loadRefs]

theorem State.loadBanks_frame (s : State) (img : Image) :
    (State.loadBanks s img).now = s.now ∧ (State.loadBanks s img).pending = s.pending ∧
    (State.loadBanks s img).regs0 = s.regs0 ∧ (State.loadBanks s img).freeCtr = s.freeCtr ∧
    (State.loadBanks s img).mode = s.mode ∧ (State.loadBanks s img).mram = s.mram ∧
    (State.loadBanks s img).sys = s.sys ∧ (State.loadBanks s img).evt = s.evt ∧ (State.loadBanks s img).ana = s.ana ∧
    (State.loadBanks s img).aux = s.aux ∧ (State.loadBanks s img).tim = s.tim ∧ (State.loadBanks s img).net = s.net ∧
    (State.loadBanks s img).prt = s.prt ∧ (State.loadBanks s img).trp = s.trp ∧ (State.loadBanks s img).pod = s.pod ∧
    (State.loadBanks s img).lgc = s.lgc ∧ (State.loadBanks s img).gsv = s.gsv ∧ (State.loadBanks s img).tph = s.tph ∧
    (State.loadBanks s img).oz = s.oz ∧ (State.loadBanks s img).sec = s.sec ∧ (State.loadBanks s img).cmd = s.cmd := by
  have hf1 := @State.setFgrp_frame
  have hf2 := @State.setBank_frame
  simp [↓hf1, ↓hf2, State.loadBanks]

theorem State.loadFilter_frame (s : State) :
    (State.loadFilter s).now = s.now ∧ (State.loadFilter s).pending = s.pending ∧
    (State.loadFilter s).regs0 = s.regs0 ∧ (State.loadFilter s).freeCtr = s.freeCtr ∧
    (State.loadFilter s).mode = s.mode ∧ (State.loadFilter s).mram = s.mram ∧ (State.loadFilter s).sys = s.sys ∧
    (State.loadFilter s).evt = s.evt ∧ (State.loadFilter s).ana = s.ana ∧ (State.loadFilter s).aux = s.aux ∧
    (State.loadFilter s).tim = s.tim ∧ (State.loadFilter s).net = s.net ∧ (State.loadFilter s).prt = s.prt ∧
    (State.loadFilter s).trp = s.trp ∧ (State.loadFilter s).pod = s.pod ∧ (State.loadFilter s).lgc = s.lgc ∧
    (State.loadFilter s).gsv = s.gsv ∧ (State.loadFilter s).tph = s.tph ∧ (State.loadFilter s).oz = s.oz ∧
    (State.loadFilter s).sec = s.sec ∧ (State.loadFilter s).cmd = s.cmd := by
  have hfite := @State.ite_frame
  have hf1 := @State.setF_frame
  have hf2 := @State.setFch_frame
  simp [↓hfite, ↓hf1, ↓hf2, State.loadFilter]

theorem State.loadInst_frame (s : State) (i : ℕ) :
    (State.loadInst s i).now = s.now ∧ (State.loadInst s i).pending = s.pending ∧
    (State.loadInst s i).regs0 = s.regs0 ∧ (State.loadInst s i).freeCtr = s.freeCtr ∧
    (State.loadInst s i).mode = s.mode ∧ (State.loadInst s i).mram = s.mram ∧ (State.loadInst s i).sys = s.sys ∧
    (State.loadInst s i).evt = s.evt ∧ (State.loadInst s i).ana = s.ana ∧ (State.loadInst s i).aux = s.aux ∧
    (State.loadInst s i).flt = s.flt ∧ (State.loadInst s i).tim = s.tim ∧ (State.loadInst s i).net = s.net ∧
    (State.loadInst s i).trp = s.trp ∧ (State.loadInst s i).pod = s.pod ∧ (State.loadInst s i).lgc = s.lgc ∧
    (State.loadInst s i).gsv = s.gsv ∧ (State.loadInst s i).tph = s.tph ∧ (State.loadInst s i).oz = s.oz ∧
    (State.loadInst s i).sec = s.sec ∧ (State.loadInst s i).cmd = s.cmd := by
  have hfite := @State.ite_frame
  have hf1 := @State.setInst_frame
  have hf2 := @State.setF_frame
  simp [↓hfite, ↓hf1, ↓hf2, State.loadInst]

theorem State.loadProt_frame (s : State) (img : Image) :
    (State.loadProt s img).now = s.now ∧ (State.loadProt s img).pending = s.pending ∧
    (State.loadProt s img).regs0 = s.regs0 ∧ (State.loadProt s img).freeCtr = s.freeCtr ∧
    (State.loadProt s img).mode = s.mode ∧ (State.loadProt s img).mram = s.mram ∧
    (State.loadProt s img).sys = s.sys ∧ (State.loadProt s img).evt = s.evt ∧ (State.loadProt s img).ana = s.ana ∧
    (State.loadProt s img).aux = s.aux ∧ (State.loadProt s img).flt = s.flt ∧ (State.loadProt s img).tim = s.tim ∧
    (State.loadProt s img).net = s.net ∧ (State.loadProt s img).trp = s.trp ∧ (State.loadProt s img).pod = s.pod ∧
    (State.loadProt s img).lgc = s.lgc ∧ (State.loadProt s img).gsv = s.gsv ∧ (State.loadProt s img).tph = s.tph ∧
    (State.loadProt s img).oz = s.oz ∧ (State.loadProt s img).sec = s.sec ∧ (State.loadProt s img).cmd = s.cmd := by
  have hf1 := @State.loadInst_frame
  have hf2 := @State.setF_frame
  simp [↓hf1, ↓hf2, State.loadProt]

theorem State.loadPods_frame (s : State) (img : ℕ) :
    (State.loadPods s img).now = s.now ∧ (State.loadPods s img).pending = s.pending ∧
    (State.loadPods s img).regs0 = s.regs0 ∧ (State.loadPods s img).freeCtr = s.freeCtr ∧
    (State.loadPods s img).mode = s.mode ∧ (State.loadPods s img).mram = s.mram ∧
    (State.loadPods s img).sys = s.sys ∧ (State.loadPods s img).evt = s.evt ∧ (State.loadPods s img).ana = s.ana ∧
    (State.loadPods s img).aux = s.aux ∧ (State.loadPods s img).flt = s.flt ∧ (State.loadPods s img).tim = s.tim ∧
    (State.loadPods s img).net = s.net ∧ (State.loadPods s img).prt = s.prt ∧ (State.loadPods s img).trp = s.trp ∧
    (State.loadPods s img).lgc = s.lgc ∧ (State.loadPods s img).gsv = s.gsv ∧ (State.loadPods s img).tph = s.tph ∧
    (State.loadPods s img).oz = s.oz ∧ (State.loadPods s img).sec = s.sec ∧ (State.loadPods s img).cmd = s.cmd := by
  have hfite := @State.ite_frame
  have hf1 := @State.setF_frame
  have hf2 := @State.setPod_frame
  have hf3 := @State.setRun_frame
  simp [↓hfite, ↓hf1, ↓hf2, ↓hf3, State.loadPods]

theorem State.loadLogic_frame (s : State) (img : Image) (slot : ℕ) :
    (State.loadLogic s img slot).now = s.now ∧ (State.loadLogic s img slot).pending = s.pending ∧
    (State.loadLogic s img slot).regs0 = s.regs0 ∧ (State.loadLogic s img slot).freeCtr = s.freeCtr ∧
    (State.loadLogic s img slot).mode = s.mode ∧ (State.loadLogic s img slot).mram = s.mram ∧
    (State.loadLogic s img slot).sys = s.sys ∧ (State.loadLogic s img slot).evt = s.evt ∧
    (State.loadLogic s img slot).ana = s.ana ∧ (State.loadLogic s img slot).aux = s.aux ∧
    (State.loadLogic s img slot).flt = s.flt ∧ (State.loadLogic s img slot).tim = s.tim ∧
    (State.loadLogic s img slot).net = s.net ∧ (State.loadLogic s img slot).prt = s.prt ∧
    (State.loadLogic s img slot).pod = s.pod ∧ (State.loadLogic s img slot).gsv = s.gsv ∧
    (State.loadLogic s img slot).tph = s.tph ∧ (State.loadLogic s img slot).oz = s.oz ∧
    (State.loadLogic s img slot).sec = s.sec ∧ (State.loadLogic s img slot).cmd = s.cmd := by
  have hf1 := @State.setF_frame
  have hf2 := @State.setLgcOut_frame
  simp [↓hf1, ↓hf2, State.loadLogic]

theorem State.loadRec_frame (s : State) (slots : List ℕ) :
    (State.loadRec s slots).now = s.now ∧ (State.loadRec s slots).pending = s.pending ∧
    (State.loadRec s slots).regs0 = s.regs0 ∧ (State.loadRec s slots).freeCtr = s.freeCtr ∧
    (State.loadRec s slots).mode = s.mode ∧ (State.loadRec s slots).mram.keyCnt = s.mram.keyCnt ∧
    (State.loadRec s slots).mram.boot = s.mram.boot ∧ (State.loadRec s slots).sys = s.sys ∧
    (State.loadRec s slots).evt = s.evt ∧ (State.loadRec s slots).ana = s.ana ∧ (State.loadRec s slots).aux = s.aux ∧
    (State.loadRec s slots).flt = s.flt ∧ (State.loadRec s slots).tim = s.tim ∧ (State.loadRec s slots).net = s.net ∧
    (State.loadRec s slots).prt = s.prt ∧ (State.loadRec s slots).trp = s.trp ∧ (State.loadRec s slots).pod = s.pod ∧
    (State.loadRec s slots).lgc = s.lgc ∧ (State.loadRec s slots).gsv = s.gsv ∧ (State.loadRec s slots).oz = s.oz ∧
    (State.loadRec s slots).sec = s.sec ∧ (State.loadRec s slots).cmd = s.cmd ∧ (State.loadRec s slots).regs = s.regs := by
  have hf1 := @State.setCls_frame
  have hf2 := @State.recStart_frame
  simp [↓hf1, ↓hf2, State.loadRec]

theorem State.loadTime_frame (s : State) :
    (State.loadTime s).now = s.now ∧ (State.loadTime s).pending = s.pending ∧ (State.loadTime s).regs0 = s.regs0 ∧
    (State.loadTime s).freeCtr = s.freeCtr ∧ (State.loadTime s).mode = s.mode ∧ (State.loadTime s).mram = s.mram ∧
    (State.loadTime s).sys = s.sys ∧ (State.loadTime s).evt = s.evt ∧ (State.loadTime s).ana = s.ana ∧
    (State.loadTime s).aux = s.aux ∧ (State.loadTime s).flt = s.flt ∧ (State.loadTime s).net = s.net ∧
    (State.loadTime s).prt = s.prt ∧ (State.loadTime s).trp = s.trp ∧ (State.loadTime s).pod = s.pod ∧
    (State.loadTime s).lgc = s.lgc ∧ (State.loadTime s).gsv = s.gsv ∧ (State.loadTime s).tph = s.tph ∧
    (State.loadTime s).oz = s.oz ∧ (State.loadTime s).sec = s.sec ∧ (State.loadTime s).cmd = s.cmd := by
  have hf1 := @State.setQual_frame
  have hf2 := @State.setF_frame
  simp [↓hf1, ↓hf2, State.loadTime]

theorem State.loadComm_frame (s : State) (img : Image) :
    (State.loadComm s img).now = s.now ∧ (State.loadComm s img).pending = s.pending ∧
    (State.loadComm s img).regs0 = s.regs0 ∧ (State.loadComm s img).freeCtr = s.freeCtr ∧
    (State.loadComm s img).mode = s.mode ∧ (State.loadComm s img).mram = s.mram ∧
    (State.loadComm s img).sys = s.sys ∧ (State.loadComm s img).evt = s.evt ∧ (State.loadComm s img).ana = s.ana ∧
    (State.loadComm s img).aux = s.aux ∧ (State.loadComm s img).flt = s.flt ∧ (State.loadComm s img).tim = s.tim ∧
    (State.loadComm s img).net = s.net ∧ (State.loadComm s img).prt = s.prt ∧ (State.loadComm s img).trp = s.trp ∧
    (State.loadComm s img).pod = s.pod ∧ (State.loadComm s img).lgc = s.lgc ∧ (State.loadComm s img).tph = s.tph ∧
    (State.loadComm s img).sec = s.sec ∧ (State.loadComm s img).cmd = s.cmd := by
  have hf1 := @State.setF_frame
  simp [↓hf1, State.loadComm]

theorem State.startIslands_frame (s : State) (img : Image) :
    (State.startIslands s img).now = s.now ∧ (State.startIslands s img).pending = s.pending ∧
    (State.startIslands s img).regs0 = s.regs0 ∧ (State.startIslands s img).freeCtr = s.freeCtr ∧
    (State.startIslands s img).mode = s.mode ∧ (State.startIslands s img).mram.keyCnt = s.mram.keyCnt ∧
    (State.startIslands s img).sys.straps = s.sys.straps ∧ (State.startIslands s img).sys.por = s.sys.por ∧
    (State.startIslands s img).ana = s.ana ∧ (State.startIslands s img).net = s.net ∧
    (State.startIslands s img).sec.otp = s.sec.otp ∧ (State.startIslands s img).sec.keys = s.sec.keys ∧
    (State.startIslands s img).cmd = s.cmd := by
  have hfite := @State.ite_frame
  have hf1 := @State.sysUpd_frame
  have hf2 := @State.auxRun_frame
  have hf3 := @State.bootUpd_frame
  have hf4 := @State.loadComm_frame
  have hf5 := @State.loadTime_frame
  have hf6 := @State.loadRec_frame
  have hf7 := @State.loadLogic_frame
  have hf8 := @State.loadPods_frame
  have hf9 := @State.loadProt_frame
  have hf10 := @State.loadFilter_frame
  have hf11 := @State.loadBanks_frame
  have hf12 := @State.loadRefs_frame
  have hf13 := @State.loadIdent_frame
  have hf14 := @State.keepMeasured_frame
  have hf15 := @State.withImage_frame
  have hf16 := @State.raise_frame
  have hf17 := @State.queuePre_frame
  simp [↓hfite, ↓hf1, ↓hf2, ↓hf3, ↓hf4, ↓hf5, ↓hf6, ↓hf7, ↓hf8, ↓hf9, ↓hf10, ↓hf11, ↓hf12, ↓hf13, ↓hf14, ↓hf15, ↓hf16, ↓hf17, State.startIslands]

theorem imageValidationEff_frame (s : State) :
    (imageValidationEff s).now = s.now ∧ (imageValidationEff s).pending = s.pending ∧
    (imageValidationEff s).regs0 = s.regs0 ∧ (imageValidationEff s).mram.keyCnt = s.mram.keyCnt ∧
    (imageValidationEff s).sys.straps = s.sys.straps ∧ (imageValidationEff s).sys.por = s.sys.por ∧
    (imageValidationEff s).ana = s.ana ∧ (imageValidationEff s).net = s.net ∧
    (imageValidationEff s).sec.otp = s.sec.otp ∧ (imageValidationEff s).sec.keys = s.sec.keys ∧
    (imageValidationEff s).cmd.run = s.cmd.run ∧ (imageValidationEff s).cmd.svc = s.cmd.svc := by
  have hf1 := @State.slotFailed_frame
  have hf2 := @State.startIslands_frame
  have hf3 := @State.report_frame
  unfold imageValidationEff
  (repeat' split) <;> simp [↓hf1, ↓hf2, ↓hf3]

theorem startupCalibrationDoneEff_frame (cals : List (List SliceCal)) (s : State) :
    (startupCalibrationDoneEff cals s).now = s.now ∧ (startupCalibrationDoneEff cals s).pending = s.pending ∧
    (startupCalibrationDoneEff cals s).regs0 = s.regs0 ∧ (startupCalibrationDoneEff cals s).freeCtr = s.freeCtr ∧
    (startupCalibrationDoneEff cals s).mode = s.mode ∧
    (startupCalibrationDoneEff cals s).mram.keyCnt = s.mram.keyCnt ∧
    (startupCalibrationDoneEff cals s).mram.boot = s.mram.boot ∧
    (startupCalibrationDoneEff cals s).sys.straps = s.sys.straps ∧
    (startupCalibrationDoneEff cals s).sys.por = s.sys.por ∧
    (startupCalibrationDoneEff cals s).sys.mapOn = s.sys.mapOn ∧ (startupCalibrationDoneEff cals s).aux = s.aux ∧
    (startupCalibrationDoneEff cals s).tim = s.tim ∧ (startupCalibrationDoneEff cals s).net = s.net ∧
    (startupCalibrationDoneEff cals s).prt = s.prt ∧ (startupCalibrationDoneEff cals s).pod = s.pod ∧
    (startupCalibrationDoneEff cals s).lgc = s.lgc ∧ (startupCalibrationDoneEff cals s).gsv = s.gsv ∧
    (startupCalibrationDoneEff cals s).tph = s.tph ∧ (startupCalibrationDoneEff cals s).oz = s.oz ∧
    (startupCalibrationDoneEff cals s).sec = s.sec ∧ (startupCalibrationDoneEff cals s).cmd = s.cmd := by
  have hfite := @State.ite_frame
  have hf1 := @State.sysUpd_frame
  have hf2 := @State.chainStart_frame
  have hf3 := @State.startCal_frame
  have hf4 := @State.syncReset_frame
  have hf5 := @State.bioStart_frame
  simp [↓hfite, ↓hf1, ↓hf2, ↓hf3, ↓hf4, ↓hf5, startupCalibrationDoneEff]

theorem State.cleanBoundary_frame (s : State) :
    (State.cleanBoundary s).now = s.now ∧ (State.cleanBoundary s).pending = s.pending ∧
    (State.cleanBoundary s).regs0 = s.regs0 ∧ (State.cleanBoundary s).freeCtr = s.freeCtr ∧
    (State.cleanBoundary s).mode = s.mode ∧ (State.cleanBoundary s).mram = s.mram ∧
    (State.cleanBoundary s).sys.straps = s.sys.straps ∧ (State.cleanBoundary s).sys.por = s.sys.por ∧
    (State.cleanBoundary s).sys.mapOn = s.sys.mapOn ∧ (State.cleanBoundary s).evt = s.evt ∧
    (State.cleanBoundary s).ana = s.ana ∧ (State.cleanBoundary s).aux = s.aux ∧ (State.cleanBoundary s).flt = s.flt ∧
    (State.cleanBoundary s).tim = s.tim ∧ (State.cleanBoundary s).net = s.net ∧ (State.cleanBoundary s).prt = s.prt ∧
    (State.cleanBoundary s).trp = s.trp ∧ (State.cleanBoundary s).pod = s.pod ∧ (State.cleanBoundary s).lgc = s.lgc ∧
    (State.cleanBoundary s).gsv = s.gsv ∧ (State.cleanBoundary s).tph = s.tph ∧ (State.cleanBoundary s).oz = s.oz ∧
    (State.cleanBoundary s).sec = s.sec ∧ (State.cleanBoundary s).cmd = s.cmd ∧ (State.cleanBoundary s).regs = s.regs := by
  have hfite := @State.ite_frame
  have hf1 := @State.sysUpd_frame
  simp [↓hfite, ↓hf1, State.cleanBoundary]

theorem State.toRun_frame (s : State) :
    (State.toRun s).now = s.now ∧ (State.toRun s).pending = s.pending ∧ (State.toRun s).regs0 = s.regs0 ∧
    (State.toRun s).freeCtr = s.freeCtr ∧ (State.toRun s).mram.keyCnt = s.mram.keyCnt ∧
    (State.toRun s).mram.boot = s.mram.boot ∧ (State.toRun s).sys.straps = s.sys.straps ∧
    (State.toRun s).sys.por = s.sys.por ∧ (State.toRun s).sys.mapOn = s.sys.mapOn ∧ (State.toRun s).ana = s.ana ∧
    (State.toRun s).aux = s.aux ∧ (State.toRun s).flt = s.flt ∧ (State.toRun s).tim = s.tim ∧
    (State.toRun s).prt = s.prt ∧ (State.toRun s).pod = s.pod ∧ (State.toRun s).sec = s.sec ∧
    (State.toRun s).cmd = s.cmd := by
  have hfite := @State.ite_frame
  have hf1 := @State.setFlag_frame
  have hf2 := @State.dutiesAtActive_frame
  have hf3 := @State.sysUpd_frame
  have hf4 := @State.recAutoArm_frame
  have hf5 := @State.startFree_frame
  have hf6 := @State.setProg_frame
  simp [↓hfite, ↓hf1, ↓hf2, ↓hf3, ↓hf4, ↓hf5, ↓hf6, State.toRun]

theorem State.activeAtTick_frame (s : State) :
    (State.activeAtTick s).now = s.now ∧ (State.activeAtTick s).pending = s.pending ∧
    (State.activeAtTick s).regs0 = s.regs0 ∧ (State.activeAtTick s).freeCtr = s.freeCtr ∧
    (State.activeAtTick s).mram.keyCnt = s.mram.keyCnt ∧ (State.activeAtTick s).mram.boot = s.mram.boot ∧
    (State.activeAtTick s).sys.straps = s.sys.straps ∧ (State.activeAtTick s).sys.por = s.sys.por ∧
    (State.activeAtTick s).sys.mapOn = s.sys.mapOn ∧ (State.activeAtTick s).ana = s.ana ∧
    (State.activeAtTick s).aux = s.aux ∧ (State.activeAtTick s).flt = s.flt ∧ (State.activeAtTick s).tim = s.tim ∧
    (State.activeAtTick s).prt = s.prt ∧ (State.activeAtTick s).pod = s.pod ∧ (State.activeAtTick s).sec = s.sec ∧
    (State.activeAtTick s).cmd = s.cmd := by
  have hfite := @State.ite_frame
  have hf1 := @State.toRun_frame
  simp [↓hfite, ↓hf1, State.activeAtTick]

theorem State.endForce_frame (s : State) :
    (State.endForce s).now = s.now ∧ (State.endForce s).pending = s.pending ∧ (State.endForce s).regs0 = s.regs0 ∧
    (State.endForce s).freeCtr = s.freeCtr ∧ (State.endForce s).mode = s.mode ∧ (State.endForce s).mram = s.mram ∧
    (State.endForce s).sys = s.sys ∧ (State.endForce s).evt = s.evt ∧ (State.endForce s).ana = s.ana ∧
    (State.endForce s).aux = s.aux ∧ (State.endForce s).flt = s.flt ∧ (State.endForce s).tim = s.tim ∧
    (State.endForce s).net = s.net ∧ (State.endForce s).prt = s.prt ∧ (State.endForce s).pod = s.pod ∧
    (State.endForce s).lgc = s.lgc ∧ (State.endForce s).gsv = s.gsv ∧ (State.endForce s).tph = s.tph ∧
    (State.endForce s).oz = s.oz ∧ (State.endForce s).sec = s.sec ∧ (State.endForce s).cmd.run = s.cmd.run ∧
    (State.endForce s).cmd.svc = s.cmd.svc := by
  have hf1 := @State.setF_frame
  simp [↓hf1, State.endForce]

theorem modeChangeEffectEff_frame (s : State) :
    (modeChangeEffectEff s).now = s.now ∧ (modeChangeEffectEff s).pending = s.pending ∧
    (modeChangeEffectEff s).regs0 = s.regs0 ∧ (modeChangeEffectEff s).freeCtr = s.freeCtr ∧
    (modeChangeEffectEff s).mram.keyCnt = s.mram.keyCnt ∧ (modeChangeEffectEff s).mram.boot = s.mram.boot ∧
    (modeChangeEffectEff s).sys.straps = s.sys.straps ∧ (modeChangeEffectEff s).sys.por = s.sys.por ∧
    (modeChangeEffectEff s).sys.mapOn = s.sys.mapOn ∧ (modeChangeEffectEff s).ana = s.ana ∧
    (modeChangeEffectEff s).aux = s.aux ∧ (modeChangeEffectEff s).flt = s.flt ∧ (modeChangeEffectEff s).tim = s.tim ∧
    (modeChangeEffectEff s).prt = s.prt ∧ (modeChangeEffectEff s).pod = s.pod ∧ (modeChangeEffectEff s).lgc = s.lgc ∧
    (modeChangeEffectEff s).gsv = s.gsv ∧ (modeChangeEffectEff s).tph = s.tph ∧
    (modeChangeEffectEff s).sec.otp = s.sec.otp ∧ (modeChangeEffectEff s).cmd.run = s.cmd.run ∧
    (modeChangeEffectEff s).cmd.svc = s.cmd.svc := by
  have hfite := @State.ite_frame
  have hf1 := @State.answerMode_frame
  have hf2 := @State.tripStat_frame
  have hf3 := @State.sysUpd_frame
  have hf4 := @State.endForce_frame
  unfold modeChangeEffectEff
  (repeat' split) <;> simp [↓hfite, ↓hf1, ↓hf2, ↓hf3, ↓hf4]

theorem State.reqRestart_frame (s : State) (cold : Bool) (byPolicy : Bool) :
    (State.reqRestart s cold byPolicy).now = s.now ∧ (State.reqRestart s cold byPolicy).pending = s.pending ∧
    (State.reqRestart s cold byPolicy).regs0 = s.regs0 ∧ (State.reqRestart s cold byPolicy).freeCtr = s.freeCtr ∧
    (State.reqRestart s cold byPolicy).mode = s.mode ∧ (State.reqRestart s cold byPolicy).mram = s.mram ∧
    (State.reqRestart s cold byPolicy).sys.straps = s.sys.straps ∧
    (State.reqRestart s cold byPolicy).sys.por = s.sys.por ∧
    (State.reqRestart s cold byPolicy).sys.mapOn = s.sys.mapOn ∧ (State.reqRestart s cold byPolicy).evt = s.evt ∧
    (State.reqRestart s cold byPolicy).ana = s.ana ∧ (State.reqRestart s cold byPolicy).aux = s.aux ∧
    (State.reqRestart s cold byPolicy).flt = s.flt ∧ (State.reqRestart s cold byPolicy).tim = s.tim ∧
    (State.reqRestart s cold byPolicy).net = s.net ∧ (State.reqRestart s cold byPolicy).prt = s.prt ∧
    (State.reqRestart s cold byPolicy).trp = s.trp ∧ (State.reqRestart s cold byPolicy).pod = s.pod ∧
    (State.reqRestart s cold byPolicy).lgc = s.lgc ∧ (State.reqRestart s cold byPolicy).gsv = s.gsv ∧
    (State.reqRestart s cold byPolicy).tph = s.tph ∧ (State.reqRestart s cold byPolicy).oz = s.oz ∧
    (State.reqRestart s cold byPolicy).sec = s.sec ∧ (State.reqRestart s cold byPolicy).cmd = s.cmd ∧
    (State.reqRestart s cold byPolicy).regs = s.regs := by
  have hf1 := @State.sysUpd_frame
  simp [↓hf1, State.reqRestart]

theorem State.policyCause_frame (s : State) (act : ℕ) :
    (State.policyCause s act).now = s.now ∧ (State.policyCause s act).pending = s.pending ∧
    (State.policyCause s act).regs0 = s.regs0 ∧ (State.policyCause s act).freeCtr = s.freeCtr ∧
    (State.policyCause s act).mode = s.mode ∧ (State.policyCause s act).mram = s.mram ∧
    (State.policyCause s act).sys.straps = s.sys.straps ∧ (State.policyCause s act).sys.por = s.sys.por ∧
    (State.policyCause s act).sys.mapOn = s.sys.mapOn ∧ (State.policyCause s act).evt = s.evt ∧
    (State.policyCause s act).ana = s.ana ∧ (State.policyCause s act).aux = s.aux ∧
    (State.policyCause s act).flt = s.flt ∧ (State.policyCause s act).tim = s.tim ∧
    (State.policyCause s act).net = s.net ∧ (State.policyCause s act).prt = s.prt ∧
    (State.policyCause s act).trp = s.trp ∧ (State.policyCause s act).pod = s.pod ∧
    (State.policyCause s act).lgc = s.lgc ∧ (State.policyCause s act).gsv = s.gsv ∧
    (State.policyCause s act).tph = s.tph ∧ (State.policyCause s act).oz = s.oz ∧
    (State.policyCause s act).sec = s.sec ∧ (State.policyCause s act).cmd = s.cmd ∧
    (State.policyCause s act).regs = s.regs := by
  have hfite := @State.ite_frame
  have hf1 := @State.sysUpd_frame
  simp [↓hfite, ↓hf1, State.policyCause]

theorem State.podHook_frame (s0 : State) (s : State) :
    (State.podHook s0 s).now = s.now ∧ (State.podHook s0 s).pending = s.pending ∧
    (State.podHook s0 s).regs0 = s.regs0 ∧ (State.podHook s0 s).freeCtr = s.freeCtr ∧
    (State.podHook s0 s).mode = s.mode ∧ (State.podHook s0 s).mram.keyCnt = s.mram.keyCnt ∧
    (State.podHook s0 s).mram.boot = s.mram.boot ∧ (State.podHook s0 s).sys.straps = s.sys.straps ∧
    (State.podHook s0 s).sys.por = s.sys.por ∧ (State.podHook s0 s).sys.mapOn = s.sys.mapOn ∧
    (State.podHook s0 s).ana = s.ana ∧ (State.podHook s0 s).aux = s.aux ∧ (State.podHook s0 s).flt = s.flt ∧
    (State.podHook s0 s).tim = s.tim ∧ (State.podHook s0 s).net = s.net ∧ (State.podHook s0 s).prt = s.prt ∧
    (State.podHook s0 s).trp = s.trp ∧ (State.podHook s0 s).pod = s.pod ∧ (State.podHook s0 s).gsv = s.gsv ∧
    (State.podHook s0 s).tph = s.tph ∧ (State.podHook s0 s).oz = s.oz ∧ (State.podHook s0 s).sec = s.sec ∧
    (State.podHook s0 s).cmd.run = s.cmd.run ∧ (State.podHook s0 s).cmd.svc = s.cmd.svc := by
  have hfite := @State.ite_frame
  have hf1 := @State.policyCause_frame
  have hf2 := @State.logicFailed_frame
  simp [↓hfite, ↓hf1, ↓hf2, State.podHook]

theorem State.restartWindow_frame (s : State) :
    (State.restartWindow s).now = s.now ∧ (State.restartWindow s).pending = s.pending ∧
    (State.restartWindow s).regs0 = s.regs0 ∧ (State.restartWindow s).freeCtr = s.freeCtr ∧
    (State.restartWindow s).mode = s.mode ∧ (State.restartWindow s).mram.keyCnt = s.mram.keyCnt ∧
    (State.restartWindow s).sys = s.sys ∧ (State.restartWindow s).evt = s.evt ∧ (State.restartWindow s).ana = s.ana ∧
    (State.restartWindow s).aux = s.aux ∧ (State.restartWindow s).flt = s.flt ∧ (State.restartWindow s).tim = s.tim ∧
    (State.restartWindow s).net = s.net ∧ (State.restartWindow s).prt = s.prt ∧ (State.restartWindow s).trp = s.trp ∧
    (State.restartWindow s).pod = s.pod ∧ (State.restartWindow s).lgc = s.lgc ∧ (State.restartWindow s).gsv = s.gsv ∧
    (State.restartWindow s).tph = s.tph ∧ (State.restartWindow s).oz = s.oz ∧ (State.restartWindow s).sec = s.sec ∧
    (State.restartWindow s).cmd = s.cmd ∧ (State.restartWindow s).regs = s.regs := by
  have hfite := @State.ite_frame
  have hf1 := @State.bootUpd_frame
  simp [↓hfite, ↓hf1, State.restartWindow]

theorem policyRestartEff_frame (s : State) :
    (policyRestartEff s).now = s.now ∧ (policyRestartEff s).pending = s.pending ∧
    (policyRestartEff s).regs0 = s.regs0 ∧ (policyRestartEff s).freeCtr = s.freeCtr ∧
    (policyRestartEff s).mode = s.mode ∧ (policyRestartEff s).mram.keyCnt = s.mram.keyCnt ∧
    (policyRestartEff s).sys.straps = s.sys.straps ∧ (policyRestartEff s).sys.por = s.sys.por ∧
    (policyRestartEff s).sys.mapOn = s.sys.mapOn ∧ (policyRestartEff s).ana = s.ana ∧
    (policyRestartEff s).aux = s.aux ∧ (policyRestartEff s).flt = s.flt ∧ (policyRestartEff s).tim = s.tim ∧
    (policyRestartEff s).net = s.net ∧ (policyRestartEff s).prt = s.prt ∧ (policyRestartEff s).trp = s.trp ∧
    (policyRestartEff s).pod = s.pod ∧ (policyRestartEff s).lgc = s.lgc ∧ (policyRestartEff s).gsv = s.gsv ∧
    (policyRestartEff s).tph = s.tph ∧ (policyRestartEff s).oz = s.oz ∧ (policyRestartEff s).sec = s.sec ∧
    (policyRestartEff s).cmd = s.cmd := by
  have hfite := @State.ite_frame
  have hf1 := @State.restartWindow_frame
  have hf2 := @State.raise_frame
  have hf3 := @State.sysUpd_frame
  have hf4 := @State.reqRestart_frame
  have hf5 := @State.bootUpd_frame
  unfold policyRestartEff
  (repeat' split) <;> simp [↓hfite, ↓hf1, ↓hf2, ↓hf3, ↓hf4, ↓hf5]

theorem State.restarted_frame (s : State) (warm : Bool) :
    (State.restarted s warm).now = s.now ∧ (State.restarted s warm).pending = s.pending ∧
    (State.restarted s warm).freeCtr = s.freeCtr ∧ (State.restarted s warm).mram = s.mram ∧
    (State.restarted s warm).sec.otp = s.sec.otp ∧ (State.restarted s warm).sec.keys = s.sec.keys := by
  have hf1 := @State.cleared_frame
  simp [↓hf1, State.restarted]

theorem restartTakeEff_frame (hdrs : List ImgHdr) (octal : Bool) (trngOk : Bool) (holdLvl : Bool) (s : State) :
    (restartTakeEff hdrs octal trngOk holdLvl s).now = s.now ∧
    (restartTakeEff hdrs octal trngOk holdLvl s).pending = s.pending ∧
    (restartTakeEff hdrs octal trngOk holdLvl s).mram.keyCnt = s.mram.keyCnt ∧
    (restartTakeEff hdrs octal trngOk holdLvl s).sec.otp = s.sec.otp := by
  have hfite := @State.ite_frame
  have hf1 := @State.startRecord_frame
  have hf2 := @State.stepTwo_frame
  have hf3 := @State.restarted_frame
  have hf4 := @State.chooseSlot_frame
  have hf5 := @State.dropMode_frame
  have hf6 := @State.setTrp_frame
  unfold restartTakeEff
  (repeat' split) <;> simp [↓hfite, ↓hf1, ↓hf2, ↓hf3, ↓hf4, ↓hf5, ↓hf6]

theorem State.logOnly_frame (s : State) (src : ℕ) :
    (State.logOnly s src).now = s.now ∧ (State.logOnly s src).pending = s.pending ∧
    (State.logOnly s src).regs0 = s.regs0 ∧ (State.logOnly s src).freeCtr = s.freeCtr ∧
    (State.logOnly s src).mode = s.mode ∧ (State.logOnly s src).mram.keyCnt = s.mram.keyCnt ∧
    (State.logOnly s src).mram.boot = s.mram.boot ∧ (State.logOnly s src).sys = s.sys ∧
    (State.logOnly s src).ana = s.ana ∧ (State.logOnly s src).aux = s.aux ∧ (State.logOnly s src).flt = s.flt ∧
    (State.logOnly s src).tim = s.tim ∧ (State.logOnly s src).net = s.net ∧ (State.logOnly s src).prt = s.prt ∧
    (State.logOnly s src).trp = s.trp ∧ (State.logOnly s src).pod = s.pod ∧ (State.logOnly s src).lgc = s.lgc ∧
    (State.logOnly s src).gsv = s.gsv ∧ (State.logOnly s src).tph = s.tph ∧ (State.logOnly s src).oz = s.oz ∧
    (State.logOnly s src).sec = s.sec ∧ (State.logOnly s src).cmd = s.cmd := by
  have hf1 := @State.seen_frame
  have hf2 := @State.logPush_frame
  simp [↓hf1, ↓hf2, State.logOnly]

theorem referenceLossEff_frame (s : State) :
    (referenceLossEff s).now = s.now ∧ (referenceLossEff s).pending = s.pending ∧
    (referenceLossEff s).regs0 = s.regs0 ∧ (referenceLossEff s).mram.keyCnt = s.mram.keyCnt ∧
    (referenceLossEff s).sys.straps = s.sys.straps ∧ (referenceLossEff s).sys.por = s.sys.por ∧
    (referenceLossEff s).sys.mapOn = s.sys.mapOn ∧ (referenceLossEff s).ana = s.ana ∧
    (referenceLossEff s).aux = s.aux ∧ (referenceLossEff s).flt = s.flt ∧ (referenceLossEff s).net = s.net ∧
    (referenceLossEff s).prt = s.prt ∧ (referenceLossEff s).sec.otp = s.sec.otp ∧
    (referenceLossEff s).cmd.run = s.cmd.run ∧ (referenceLossEff s).cmd.svc = s.cmd.svc := by
  have hfite := @State.ite_frame
  have hf1 := @State.setFlag_frame
  have hf2 := @State.sysUpd_frame
  have hf3 := @State.enterSafe_frame
  have hf4 := @State.logOnly_frame
  have hf5 := @State.dropMode_frame
  simp [↓hfite, ↓hf1, ↓hf2, ↓hf3, ↓hf4, ↓hf5, referenceLossEff]

theorem ozLinkFallEff_frame (l : ℕ) (clk : Bool) (s : State) :
    (ozLinkFallEff l clk s).now = s.now ∧ (ozLinkFallEff l clk s).pending = s.pending ∧
    (ozLinkFallEff l clk s).regs0 = s.regs0 ∧ (ozLinkFallEff l clk s).mram.keyCnt = s.mram.keyCnt ∧
    (ozLinkFallEff l clk s).sys.straps = s.sys.straps ∧ (ozLinkFallEff l clk s).sys.por = s.sys.por ∧
    (ozLinkFallEff l clk s).sys.mapOn = s.sys.mapOn ∧ (ozLinkFallEff l clk s).ana = s.ana ∧
    (ozLinkFallEff l clk s).aux = s.aux ∧ (ozLinkFallEff l clk s).flt = s.flt ∧ (ozLinkFallEff l clk s).net = s.net ∧
    (ozLinkFallEff l clk s).prt = s.prt ∧ (ozLinkFallEff l clk s).sec.otp = s.sec.otp ∧
    (ozLinkFallEff l clk s).cmd.run = s.cmd.run ∧ (ozLinkFallEff l clk s).cmd.svc = s.cmd.svc := by
  have hfite := @State.ite_frame
  have hf1 := @referenceLossEff_frame
  have hf2 := @ozLinkDownEff_frame
  simp [↓hfite, ↓hf1, ↓hf2, ozLinkFallEff]

theorem referenceReturnRestartEff_frame (s : State) :
    (referenceReturnRestartEff s).now = s.now ∧ (referenceReturnRestartEff s).pending = s.pending ∧
    (referenceReturnRestartEff s).regs0 = s.regs0 ∧ (referenceReturnRestartEff s).freeCtr = s.freeCtr ∧
    (referenceReturnRestartEff s).mode = s.mode ∧ (referenceReturnRestartEff s).mram = s.mram ∧
    (referenceReturnRestartEff s).sys.straps = s.sys.straps ∧ (referenceReturnRestartEff s).sys.por = s.sys.por ∧
    (referenceReturnRestartEff s).sys.mapOn = s.sys.mapOn ∧ (referenceReturnRestartEff s).evt = s.evt ∧
    (referenceReturnRestartEff s).ana = s.ana ∧ (referenceReturnRestartEff s).aux = s.aux ∧
    (referenceReturnRestartEff s).flt = s.flt ∧ (referenceReturnRestartEff s).tim = s.tim ∧
    (referenceReturnRestartEff s).net = s.net ∧ (referenceReturnRestartEff s).prt = s.prt ∧
    (referenceReturnRestartEff s).trp = s.trp ∧ (referenceReturnRestartEff s).pod = s.pod ∧
    (referenceReturnRestartEff s).lgc = s.lgc ∧ (referenceReturnRestartEff s).gsv = s.gsv ∧
    (referenceReturnRestartEff s).tph = s.tph ∧ (referenceReturnRestartEff s).oz = s.oz ∧
    (referenceReturnRestartEff s).sec = s.sec ∧ (referenceReturnRestartEff s).cmd = s.cmd := by
  have hfite := @State.ite_frame
  have hf1 := @State.setFlag_frame
  have hf2 := @State.sysUpd_frame
  have hf3 := @State.policyCause_frame
  simp [↓hfite, ↓hf1, ↓hf2, ↓hf3, referenceReturnRestartEff]

theorem uptimeUpdateEff_frame (s : State) :
    (uptimeUpdateEff s).now = s.now ∧ (uptimeUpdateEff s).pending = s.pending ∧ (uptimeUpdateEff s).regs0 = s.regs0 ∧
    (uptimeUpdateEff s).freeCtr = s.freeCtr ∧ (uptimeUpdateEff s).mode = s.mode ∧
    (uptimeUpdateEff s).mram.keyCnt = s.mram.keyCnt ∧ (uptimeUpdateEff s).sys = s.sys ∧
    (uptimeUpdateEff s).evt = s.evt ∧ (uptimeUpdateEff s).ana = s.ana ∧ (uptimeUpdateEff s).aux = s.aux ∧
    (uptimeUpdateEff s).flt = s.flt ∧ (uptimeUpdateEff s).tim = s.tim ∧ (uptimeUpdateEff s).net = s.net ∧
    (uptimeUpdateEff s).prt = s.prt ∧ (uptimeUpdateEff s).trp = s.trp ∧ (uptimeUpdateEff s).pod = s.pod ∧
    (uptimeUpdateEff s).lgc = s.lgc ∧ (uptimeUpdateEff s).gsv = s.gsv ∧ (uptimeUpdateEff s).tph = s.tph ∧
    (uptimeUpdateEff s).oz = s.oz ∧ (uptimeUpdateEff s).sec = s.sec ∧ (uptimeUpdateEff s).cmd = s.cmd ∧
    (uptimeUpdateEff s).regs = s.regs := by
  have hfite := @State.ite_frame
  have hf1 := @State.bootUpd_frame
  simp [↓hfite, ↓hf1, uptimeUpdateEff]
end Sys2Proof.Machine
end

