-- ==== Sys2Proof/Laws/FrameTick.lean ====
section
/-!
SUPPORT. What the operations of Machine/Tick.lean leave as it was: one lemma per operation, over the parts of the state.
-/
set_option linter.all false
set_option Elab.async false
namespace Sys2Proof.Machine
theorem State.loseVirtual_frame (s : State) :
    (State.loseVirtual s).now = s.now ∧ (State.loseVirtual s).pending = s.pending ∧
    (State.loseVirtual s).regs0 = s.regs0 ∧ (State.loseVirtual s).freeCtr = s.freeCtr ∧
    (State.loseVirtual s).mode = s.mode ∧ (State.loseVirtual s).mram = s.mram ∧ (State.loseVirtual s).sys = s.sys ∧
    (State.loseVirtual s).evt = s.evt ∧ (State.loseVirtual s).ana = s.ana ∧ (State.loseVirtual s).aux = s.aux ∧
    (State.loseVirtual s).tim = s.tim ∧ (State.loseVirtual s).net = s.net ∧ (State.loseVirtual s).prt = s.prt ∧
    (State.loseVirtual s).trp = s.trp ∧ (State.loseVirtual s).pod = s.pod ∧ (State.loseVirtual s).lgc = s.lgc ∧
    (State.loseVirtual s).gsv = s.gsv ∧ (State.loseVirtual s).tph = s.tph ∧ (State.loseVirtual s).oz = s.oz ∧
    (State.loseVirtual s).sec = s.sec ∧ (State.loseVirtual s).cmd = s.cmd ∧ (State.loseVirtual s).regs = s.regs := by
  have hfite := @State.ite_frame
  simp [↓hfite, State.loseVirtual]

theorem startTickEff_frame (s : State) :
    (startTickEff s).now = s.now ∧ (startTickEff s).pending = s.pending ∧ (startTickEff s).regs0 = s.regs0 ∧
    (startTickEff s).freeCtr = s.freeCtr ∧ (startTickEff s).mram.keyCnt = s.mram.keyCnt ∧
    (startTickEff s).mram.boot = s.mram.boot ∧ (startTickEff s).sys.straps = s.sys.straps ∧
    (startTickEff s).sys.por = s.sys.por ∧ (startTickEff s).sys.mapOn = s.sys.mapOn ∧ (startTickEff s).ana = s.ana ∧
    (startTickEff s).aux = s.aux ∧ (startTickEff s).tim = s.tim ∧ (startTickEff s).pod = s.pod ∧
    (startTickEff s).sec = s.sec ∧ (startTickEff s).cmd = s.cmd := by
  have hf1 := @fastTickEff_frame
  have hf2 := @State.activeAtTick_frame
  simp [↓hf1, ↓hf2, startTickEff]

theorem State.crossOverrun_frame (s : State) (c : ℕ) :
    (State.crossOverrun s c).now = s.now ∧ (State.crossOverrun s c).pending = s.pending ∧
    (State.crossOverrun s c).regs0 = s.regs0 ∧ (State.crossOverrun s c).freeCtr = s.freeCtr ∧
    (State.crossOverrun s c).mode = s.mode ∧ (State.crossOverrun s c).mram.keyCnt = s.mram.keyCnt ∧
    (State.crossOverrun s c).mram.boot = s.mram.boot ∧ (State.crossOverrun s c).sys.straps = s.sys.straps ∧
    (State.crossOverrun s c).sys.por = s.sys.por ∧ (State.crossOverrun s c).sys.mapOn = s.sys.mapOn ∧
    (State.crossOverrun s c).ana = s.ana ∧ (State.crossOverrun s c).aux = s.aux ∧
    (State.crossOverrun s c).flt = s.flt ∧ (State.crossOverrun s c).tim = s.tim ∧
    (State.crossOverrun s c).net = s.net ∧ (State.crossOverrun s c).prt = s.prt ∧
    (State.crossOverrun s c).trp = s.trp ∧ (State.crossOverrun s c).pod = s.pod ∧
    (State.crossOverrun s c).lgc = s.lgc ∧ (State.crossOverrun s c).gsv = s.gsv ∧
    (State.crossOverrun s c).tph = s.tph ∧ (State.crossOverrun s c).oz = s.oz ∧
    (State.crossOverrun s c).sec = s.sec ∧ (State.crossOverrun s c).cmd = s.cmd := by
  have hfite := @State.ite_frame
  have hf1 := @State.raise_frame
  have hf2 := @State.sysUpd_frame
  simp [↓hfite, ↓hf1, ↓hf2, State.crossOverrun]

theorem swapTickEff_frame (s : State) :
    (swapTickEff s).now = s.now ∧ (swapTickEff s).pending = s.pending ∧ (swapTickEff s).regs0 = s.regs0 ∧
    (swapTickEff s).freeCtr = s.freeCtr ∧ (swapTickEff s).mode = s.mode ∧
    (swapTickEff s).mram.keyCnt = s.mram.keyCnt ∧ (swapTickEff s).mram.boot = s.mram.boot ∧
    (swapTickEff s).sys.straps = s.sys.straps ∧ (swapTickEff s).sys.por = s.sys.por ∧
    (swapTickEff s).sys.mapOn = s.sys.mapOn ∧ (swapTickEff s).ana = s.ana ∧ (swapTickEff s).aux = s.aux ∧
    (swapTickEff s).tim = s.tim ∧ (swapTickEff s).net = s.net ∧ (swapTickEff s).trp = s.trp ∧
    (swapTickEff s).pod = s.pod ∧ (swapTickEff s).lgc = s.lgc ∧ (swapTickEff s).gsv = s.gsv ∧
    (swapTickEff s).tph = s.tph ∧ (swapTickEff s).sec = s.sec ∧ (swapTickEff s).cmd = s.cmd := by
  have hfite := @State.ite_frame
  have hf1 := @State.crossOverrun_frame
  have hf2 := @slowBoundaryEff_frame
  have hf3 := @State.cleanBoundary_frame
  have hf4 := @State.digestSend_frame
  simp [↓hfite, ↓hf1, ↓hf2, ↓hf3, ↓hf4, swapTickEff]

theorem State.loseSample_frame (s : State) :
    (State.loseSample s).now = s.now ∧ (State.loseSample s).pending = s.pending ∧
    (State.loseSample s).regs0 = s.regs0 ∧ (State.loseSample s).freeCtr = s.freeCtr ∧
    (State.loseSample s).mode = s.mode ∧ (State.loseSample s).mram = s.mram ∧ (State.loseSample s).sys = s.sys ∧
    (State.loseSample s).evt = s.evt ∧ (State.loseSample s).ana = s.ana ∧ (State.loseSample s).aux = s.aux ∧
    (State.loseSample s).tim = s.tim ∧ (State.loseSample s).net = s.net ∧ (State.loseSample s).prt = s.prt ∧
    (State.loseSample s).trp = s.trp ∧ (State.loseSample s).pod = s.pod ∧ (State.loseSample s).lgc = s.lgc ∧
    (State.loseSample s).gsv = s.gsv ∧ (State.loseSample s).tph = s.tph ∧ (State.loseSample s).oz = s.oz ∧
    (State.loseSample s).sec = s.sec ∧ (State.loseSample s).cmd = s.cmd ∧ (State.loseSample s).regs = s.regs := by
  have hfite := @State.ite_frame
  have hf1 := @State.setFch_frame
  simp [↓hfite, ↓hf1, State.loseSample]

theorem crossedSampleEff_frame (raw : List (List ℤ)) (refA : Bool) (refB : Bool) (third : List ℕ) (s : State) :
    (crossedSampleEff raw refA refB third s).now = s.now ∧
    (crossedSampleEff raw refA refB third s).pending = s.pending ∧
    (crossedSampleEff raw refA refB third s).regs0 = s.regs0 ∧
    (crossedSampleEff raw refA refB third s).freeCtr = s.freeCtr ∧
    (crossedSampleEff raw refA refB third s).mode = s.mode ∧
    (crossedSampleEff raw refA refB third s).mram.keyCnt = s.mram.keyCnt ∧
    (crossedSampleEff raw refA refB third s).mram.boot = s.mram.boot ∧
    (crossedSampleEff raw refA refB third s).sys.straps = s.sys.straps ∧
    (crossedSampleEff raw refA refB third s).sys.por = s.sys.por ∧
    (crossedSampleEff raw refA refB third s).sys.mapOn = s.sys.mapOn ∧
    (crossedSampleEff raw refA refB third s).tim = s.tim ∧ (crossedSampleEff raw refA refB third s).net = s.net ∧
    (crossedSampleEff raw refA refB third s).prt = s.prt ∧ (crossedSampleEff raw refA refB third s).trp = s.trp ∧
    (crossedSampleEff raw refA refB third s).pod = s.pod ∧ (crossedSampleEff raw refA refB third s).lgc = s.lgc ∧
    (crossedSampleEff raw refA refB third s).gsv = s.gsv ∧ (crossedSampleEff raw refA refB third s).tph = s.tph ∧
    (crossedSampleEff raw refA refB third s).oz = s.oz ∧ (crossedSampleEff raw refA refB third s).sec = s.sec ∧
    (crossedSampleEff raw refA refB third s).cmd = s.cmd := by
  have hfite := @State.ite_frame
  have hf1 := @State.crossOverrun_frame
  have hf2 := @State.loseSample_frame
  have hf3 := @State.loseVirtual_frame
  have hf4 := @fusedSampleEff_frame
  simp [↓hfite, ↓hf1, ↓hf2, ↓hf3, ↓hf4, crossedSampleEff]

theorem crossedReleaseEff_frame (flips : List (ℕ × ℕ × ℕ × ℕ)) (third : List ℕ) (s : State) :
    (crossedReleaseEff flips third s).now = s.now ∧ (crossedReleaseEff flips third s).pending = s.pending ∧
    (crossedReleaseEff flips third s).regs0 = s.regs0 ∧ (crossedReleaseEff flips third s).freeCtr = s.freeCtr ∧
    (crossedReleaseEff flips third s).mode = s.mode ∧ (crossedReleaseEff flips third s).mram.keyCnt = s.mram.keyCnt ∧
    (crossedReleaseEff flips third s).mram.boot = s.mram.boot ∧
    (crossedReleaseEff flips third s).sys.straps = s.sys.straps ∧
    (crossedReleaseEff flips third s).sys.por = s.sys.por ∧
    (crossedReleaseEff flips third s).sys.mapOn = s.sys.mapOn ∧ (crossedReleaseEff flips third s).ana = s.ana ∧
    (crossedReleaseEff flips third s).aux = s.aux ∧ (crossedReleaseEff flips third s).flt = s.flt ∧
    (crossedReleaseEff flips third s).tim = s.tim ∧ (crossedReleaseEff flips third s).net = s.net ∧
    (crossedReleaseEff flips third s).pod = s.pod ∧ (crossedReleaseEff flips third s).gsv = s.gsv ∧
    (crossedReleaseEff flips third s).tph = s.tph ∧ (crossedReleaseEff flips third s).oz = s.oz ∧
    (crossedReleaseEff flips third s).sec = s.sec ∧ (crossedReleaseEff flips third s).cmd = s.cmd := by
  have hf1 := @wordReleaseEff_frame
  have hf2 := @State.crossOverrun_frame
  simp only [↓hf1, ↓hf2, crossedReleaseEff]
  (repeat' split) <;> simp [↓hf1, ↓hf2]

end Sys2Proof.Machine
end

