-- ==== Sys2Proof/Laws/FrameBoard.lean ====
section
/-!
SUPPORT. What the operations of Machine/Board.lean leave as it was: one lemma per operation, over the parts of the state.
-/
set_option linter.all false
set_option Elab.async false
namespace Sys2Proof.Machine
theorem supplyWarnExcursionEff_frame (rail : ℕ) (mv : ℕ) (s : State) :
    (supplyWarnExcursionEff rail mv s).now = s.now ∧ (supplyWarnExcursionEff rail mv s).pending = s.pending ∧
    (supplyWarnExcursionEff rail mv s).regs0 = s.regs0 ∧ (supplyWarnExcursionEff rail mv s).freeCtr = s.freeCtr ∧
    (supplyWarnExcursionEff rail mv s).mode = s.mode ∧
    (supplyWarnExcursionEff rail mv s).mram.keyCnt = s.mram.keyCnt ∧
    (supplyWarnExcursionEff rail mv s).mram.boot = s.mram.boot ∧
    (supplyWarnExcursionEff rail mv s).sys.straps = s.sys.straps ∧
    (supplyWarnExcursionEff rail mv s).sys.por = s.sys.por ∧
    (supplyWarnExcursionEff rail mv s).sys.mapOn = s.sys.mapOn ∧ (supplyWarnExcursionEff rail mv s).ana = s.ana ∧
    (supplyWarnExcursionEff rail mv s).aux = s.aux ∧ (supplyWarnExcursionEff rail mv s).flt = s.flt ∧
    (supplyWarnExcursionEff rail mv s).tim = s.tim ∧ (supplyWarnExcursionEff rail mv s).net = s.net ∧
    (supplyWarnExcursionEff rail mv s).prt = s.prt ∧ (supplyWarnExcursionEff rail mv s).trp = s.trp ∧
    (supplyWarnExcursionEff rail mv s).pod = s.pod ∧ (supplyWarnExcursionEff rail mv s).lgc = s.lgc ∧
    (supplyWarnExcursionEff rail mv s).gsv = s.gsv ∧ (supplyWarnExcursionEff rail mv s).tph = s.tph ∧
    (supplyWarnExcursionEff rail mv s).oz = s.oz ∧ (supplyWarnExcursionEff rail mv s).sec = s.sec ∧
    (supplyWarnExcursionEff rail mv s).cmd = s.cmd := by
  have hfite := @State.ite_frame
  have hf1 := @State.raise_frame
  have hf2 := @State.sysUpd_frame
  simp [↓hfite, ↓hf1, ↓hf2, supplyWarnExcursionEff]

theorem temperatureExcursionEff_frame (dC : ℤ) (s : State) :
    (temperatureExcursionEff dC s).now = s.now ∧ (temperatureExcursionEff dC s).pending = s.pending ∧
    (temperatureExcursionEff dC s).regs0 = s.regs0 ∧ (temperatureExcursionEff dC s).freeCtr = s.freeCtr ∧
    (temperatureExcursionEff dC s).mode = s.mode ∧ (temperatureExcursionEff dC s).mram.keyCnt = s.mram.keyCnt ∧
    (temperatureExcursionEff dC s).mram.boot = s.mram.boot ∧
    (temperatureExcursionEff dC s).sys.straps = s.sys.straps ∧ (temperatureExcursionEff dC s).sys.por = s.sys.por ∧
    (temperatureExcursionEff dC s).sys.mapOn = s.sys.mapOn ∧ (temperatureExcursionEff dC s).ana = s.ana ∧
    (temperatureExcursionEff dC s).aux = s.aux ∧ (temperatureExcursionEff dC s).flt = s.flt ∧
    (temperatureExcursionEff dC s).tim = s.tim ∧ (temperatureExcursionEff dC s).net = s.net ∧
    (temperatureExcursionEff dC s).prt = s.prt ∧ (temperatureExcursionEff dC s).trp = s.trp ∧
    (temperatureExcursionEff dC s).pod = s.pod ∧ (temperatureExcursionEff dC s).lgc = s.lgc ∧
    (temperatureExcursionEff dC s).gsv = s.gsv ∧ (temperatureExcursionEff dC s).tph = s.tph ∧
    (temperatureExcursionEff dC s).oz = s.oz ∧ (temperatureExcursionEff dC s).sec = s.sec ∧
    (temperatureExcursionEff dC s).cmd = s.cmd := by
  have hfite := @State.ite_frame
  have hf1 := @State.raise_frame
  have hf2 := @State.sysUpd_frame
  simp [↓hfite, ↓hf1, ↓hf2, temperatureExcursionEff]

theorem supplyExcursionEndEff_frame (i : ℕ) (v : ℤ) (s : State) :
    (supplyExcursionEndEff i v s).now = s.now ∧ (supplyExcursionEndEff i v s).pending = s.pending ∧
    (supplyExcursionEndEff i v s).regs0 = s.regs0 ∧ (supplyExcursionEndEff i v s).freeCtr = s.freeCtr ∧
    (supplyExcursionEndEff i v s).mode = s.mode ∧ (supplyExcursionEndEff i v s).mram = s.mram ∧
    (supplyExcursionEndEff i v s).sys.straps = s.sys.straps ∧ (supplyExcursionEndEff i v s).sys.por = s.sys.por ∧
    (supplyExcursionEndEff i v s).sys.mapOn = s.sys.mapOn ∧ (supplyExcursionEndEff i v s).evt = s.evt ∧
    (supplyExcursionEndEff i v s).ana = s.ana ∧ (supplyExcursionEndEff i v s).aux = s.aux ∧
    (supplyExcursionEndEff i v s).flt = s.flt ∧ (supplyExcursionEndEff i v s).tim = s.tim ∧
    (supplyExcursionEndEff i v s).net = s.net ∧ (supplyExcursionEndEff i v s).prt = s.prt ∧
    (supplyExcursionEndEff i v s).trp = s.trp ∧ (supplyExcursionEndEff i v s).pod = s.pod ∧
    (supplyExcursionEndEff i v s).lgc = s.lgc ∧ (supplyExcursionEndEff i v s).gsv = s.gsv ∧
    (supplyExcursionEndEff i v s).tph = s.tph ∧ (supplyExcursionEndEff i v s).oz = s.oz ∧
    (supplyExcursionEndEff i v s).sec = s.sec ∧ (supplyExcursionEndEff i v s).cmd = s.cmd ∧
    (supplyExcursionEndEff i v s).regs = s.regs := by
  have hfite := @State.ite_frame
  have hf1 := @State.sysUpd_frame
  simp [↓hfite, ↓hf1, supplyExcursionEndEff]

theorem monitorRefreshEff_frame (mvs : List ℕ) (tj : ℤ) (locks : ℕ) (s : State) :
    (monitorRefreshEff mvs tj locks s).now = s.now ∧ (monitorRefreshEff mvs tj locks s).pending = s.pending ∧
    (monitorRefreshEff mvs tj locks s).regs0 = s.regs0 ∧ (monitorRefreshEff mvs tj locks s).freeCtr = s.freeCtr ∧
    (monitorRefreshEff mvs tj locks s).mode = s.mode ∧ (monitorRefreshEff mvs tj locks s).mram = s.mram ∧
    (monitorRefreshEff mvs tj locks s).sys.straps = s.sys.straps ∧
    (monitorRefreshEff mvs tj locks s).sys.por = s.sys.por ∧
    (monitorRefreshEff mvs tj locks s).sys.mapOn = s.sys.mapOn ∧ (monitorRefreshEff mvs tj locks s).evt = s.evt ∧
    (monitorRefreshEff mvs tj locks s).ana = s.ana ∧ (monitorRefreshEff mvs tj locks s).aux = s.aux ∧
    (monitorRefreshEff mvs tj locks s).flt = s.flt ∧ (monitorRefreshEff mvs tj locks s).tim = s.tim ∧
    (monitorRefreshEff mvs tj locks s).net = s.net ∧ (monitorRefreshEff mvs tj locks s).prt = s.prt ∧
    (monitorRefreshEff mvs tj locks s).trp = s.trp ∧ (monitorRefreshEff mvs tj locks s).pod = s.pod ∧
    (monitorRefreshEff mvs tj locks s).lgc = s.lgc ∧ (monitorRefreshEff mvs tj locks s).gsv = s.gsv ∧
    (monitorRefreshEff mvs tj locks s).tph = s.tph ∧ (monitorRefreshEff mvs tj locks s).oz = s.oz ∧
    (monitorRefreshEff mvs tj locks s).sec = s.sec ∧ (monitorRefreshEff mvs tj locks s).cmd = s.cmd := by
  have hfite := @State.ite_frame
  have hf1 := @State.setFlag_frame
  have hf2 := @State.setF_frame
  have hf3 := @State.sysUpd_frame
  simp [↓hfite, ↓hf1, ↓hf2, ↓hf3, monitorRefreshEff]

theorem trngTestFailEff_frame (test : ℕ) (s : State) :
    (trngTestFailEff test s).now = s.now ∧ (trngTestFailEff test s).pending = s.pending ∧
    (trngTestFailEff test s).regs0 = s.regs0 ∧ (trngTestFailEff test s).freeCtr = s.freeCtr ∧
    (trngTestFailEff test s).mode = s.mode ∧ (trngTestFailEff test s).mram.keyCnt = s.mram.keyCnt ∧
    (trngTestFailEff test s).mram.boot = s.mram.boot ∧ (trngTestFailEff test s).sys = s.sys ∧
    (trngTestFailEff test s).ana = s.ana ∧ (trngTestFailEff test s).aux = s.aux ∧
    (trngTestFailEff test s).flt = s.flt ∧ (trngTestFailEff test s).tim = s.tim ∧
    (trngTestFailEff test s).net = s.net ∧ (trngTestFailEff test s).prt = s.prt ∧
    (trngTestFailEff test s).trp = s.trp ∧ (trngTestFailEff test s).pod = s.pod ∧
    (trngTestFailEff test s).lgc = s.lgc ∧ (trngTestFailEff test s).gsv = s.gsv ∧
    (trngTestFailEff test s).tph = s.tph ∧ (trngTestFailEff test s).oz = s.oz ∧
    (trngTestFailEff test s).sec.otp = s.sec.otp ∧ (trngTestFailEff test s).sec.keys = s.sec.keys ∧
    (trngTestFailEff test s).cmd = s.cmd := by
  have hfite := @State.ite_frame
  have hf1 := @State.raise_frame
  simp [↓hfite, ↓hf1, trngTestFailEff]

theorem State.setTap_frame (s : State) (t : TapInst) :
    (State.setTap s t).now = s.now ∧ (State.setTap s t).pending = s.pending ∧ (State.setTap s t).regs0 = s.regs0 ∧
    (State.setTap s t).freeCtr = s.freeCtr ∧ (State.setTap s t).mode = s.mode ∧ (State.setTap s t).mram = s.mram ∧
    (State.setTap s t).sys.straps = s.sys.straps ∧ (State.setTap s t).sys.por = s.sys.por ∧
    (State.setTap s t).sys.mapOn = s.sys.mapOn ∧ (State.setTap s t).evt = s.evt ∧ (State.setTap s t).ana = s.ana ∧
    (State.setTap s t).aux = s.aux ∧ (State.setTap s t).flt = s.flt ∧ (State.setTap s t).tim = s.tim ∧
    (State.setTap s t).net = s.net ∧ (State.setTap s t).prt = s.prt ∧ (State.setTap s t).trp = s.trp ∧
    (State.setTap s t).pod = s.pod ∧ (State.setTap s t).lgc = s.lgc ∧ (State.setTap s t).gsv = s.gsv ∧
    (State.setTap s t).tph = s.tph ∧ (State.setTap s t).oz = s.oz ∧ (State.setTap s t).sec = s.sec ∧
    (State.setTap s t).cmd = s.cmd ∧ (State.setTap s t).regs = s.regs := by
  have hf1 := @State.sysUpd_frame
  simp [↓hf1, State.setTap]

theorem State.heldTap_frame (s : State) (t : TapInst) :
    (State.heldTap s t).now = s.now ∧ (State.heldTap s t).pending = s.pending ∧ (State.heldTap s t).regs0 = s.regs0 ∧
    (State.heldTap s t).freeCtr = s.freeCtr ∧ (State.heldTap s t).mode = s.mode ∧ (State.heldTap s t).mram = s.mram ∧
    (State.heldTap s t).sys.straps = s.sys.straps ∧ (State.heldTap s t).sys.por = s.sys.por ∧
    (State.heldTap s t).sys.mapOn = s.sys.mapOn ∧ (State.heldTap s t).evt = s.evt ∧ (State.heldTap s t).ana = s.ana ∧
    (State.heldTap s t).aux = s.aux ∧ (State.heldTap s t).flt = s.flt ∧ (State.heldTap s t).tim = s.tim ∧
    (State.heldTap s t).net = s.net ∧ (State.heldTap s t).prt = s.prt ∧ (State.heldTap s t).trp = s.trp ∧
    (State.heldTap s t).pod = s.pod ∧ (State.heldTap s t).lgc = s.lgc ∧ (State.heldTap s t).gsv = s.gsv ∧
    (State.heldTap s t).tph = s.tph ∧ (State.heldTap s t).oz = s.oz ∧ (State.heldTap s t).sec = s.sec ∧
    (State.heldTap s t).cmd = s.cmd ∧ (State.heldTap s t).regs = s.regs := by
  have hf1 := @State.setTap_frame
  simp [↓hf1, State.heldTap]

theorem State.scanCells_frame (s : State) :
    (State.scanCells s).now = s.now ∧ (State.scanCells s).pending = s.pending ∧ (State.scanCells s).regs0 = s.regs0 ∧
    (State.scanCells s).mode = s.mode ∧ (State.scanCells s).mram = s.mram ∧
    (State.scanCells s).sys.straps = s.sys.straps ∧ (State.scanCells s).sys.por = s.sys.por ∧
    (State.scanCells s).sys.mapOn = s.sys.mapOn ∧ (State.scanCells s).evt = s.evt ∧ (State.scanCells s).ana = s.ana ∧
    (State.scanCells s).aux = s.aux ∧ (State.scanCells s).flt = s.flt ∧ (State.scanCells s).tim = s.tim ∧
    (State.scanCells s).net = s.net ∧ (State.scanCells s).prt = s.prt ∧ (State.scanCells s).trp = s.trp ∧
    (State.scanCells s).pod = s.pod ∧ (State.scanCells s).lgc = s.lgc ∧ (State.scanCells s).gsv = s.gsv ∧
    (State.scanCells s).tph = s.tph ∧ (State.scanCells s).oz = s.oz ∧ (State.scanCells s).sec = s.sec ∧
    (State.scanCells s).cmd = s.cmd ∧ (State.scanCells s).regs = s.regs := by
  have hfite := @State.ite_frame
  have hf1 := @State.bumpFree_frame
  simp [↓hfite, ↓hf1, State.scanCells]

theorem State.preload_frame (s : State) :
    (State.preload s).now = s.now ∧ (State.preload s).pending = s.pending ∧ (State.preload s).regs0 = s.regs0 ∧
    (State.preload s).mode = s.mode ∧ (State.preload s).mram = s.mram ∧ (State.preload s).sys.straps = s.sys.straps ∧
    (State.preload s).sys.por = s.sys.por ∧ (State.preload s).sys.mapOn = s.sys.mapOn ∧
    (State.preload s).evt = s.evt ∧ (State.preload s).ana = s.ana ∧ (State.preload s).aux = s.aux ∧
    (State.preload s).flt = s.flt ∧ (State.preload s).tim = s.tim ∧ (State.preload s).net = s.net ∧
    (State.preload s).prt = s.prt ∧ (State.preload s).trp = s.trp ∧ (State.preload s).pod = s.pod ∧
    (State.preload s).lgc = s.lgc ∧ (State.preload s).gsv = s.gsv ∧ (State.preload s).tph = s.tph ∧
    (State.preload s).oz = s.oz ∧ (State.preload s).sec = s.sec ∧ (State.preload s).cmd = s.cmd ∧
    (State.preload s).regs = s.regs := by
  have hfite := @State.ite_frame
  have hf1 := @State.bumpFree_frame
  simp [↓hfite, ↓hf1, State.preload]

theorem tapExtestEff_frame (s : State) :
    (tapExtestEff s).now = s.now ∧ (tapExtestEff s).pending = s.pending ∧ (tapExtestEff s).regs0 = s.regs0 ∧
    (tapExtestEff s).freeCtr = s.freeCtr ∧ (tapExtestEff s).mode = s.mode ∧ (tapExtestEff s).mram = s.mram ∧
    (tapExtestEff s).sys.straps = s.sys.straps ∧ (tapExtestEff s).sys.por = s.sys.por ∧
    (tapExtestEff s).sys.mapOn = s.sys.mapOn ∧ (tapExtestEff s).evt = s.evt ∧ (tapExtestEff s).ana = s.ana ∧
    (tapExtestEff s).aux = s.aux ∧ (tapExtestEff s).flt = s.flt ∧ (tapExtestEff s).tim = s.tim ∧
    (tapExtestEff s).net = s.net ∧ (tapExtestEff s).prt = s.prt ∧ (tapExtestEff s).trp = s.trp ∧
    (tapExtestEff s).pod = s.pod ∧ (tapExtestEff s).lgc = s.lgc ∧ (tapExtestEff s).gsv = s.gsv ∧
    (tapExtestEff s).tph = s.tph ∧ (tapExtestEff s).oz = s.oz ∧ (tapExtestEff s).sec = s.sec ∧
    (tapExtestEff s).cmd = s.cmd ∧ (tapExtestEff s).regs = s.regs := by
  have hf1 := @State.heldTap_frame
  simp [↓hf1, tapExtestEff]

theorem tapIdcodeEff_frame (s : State) :
    (tapIdcodeEff s).now = s.now ∧ (tapIdcodeEff s).pending = s.pending ∧ (tapIdcodeEff s).regs0 = s.regs0 ∧
    (tapIdcodeEff s).freeCtr = s.freeCtr ∧ (tapIdcodeEff s).mode = s.mode ∧ (tapIdcodeEff s).mram = s.mram ∧
    (tapIdcodeEff s).sys.straps = s.sys.straps ∧ (tapIdcodeEff s).sys.por = s.sys.por ∧
    (tapIdcodeEff s).sys.mapOn = s.sys.mapOn ∧ (tapIdcodeEff s).evt = s.evt ∧ (tapIdcodeEff s).ana = s.ana ∧
    (tapIdcodeEff s).aux = s.aux ∧ (tapIdcodeEff s).flt = s.flt ∧ (tapIdcodeEff s).tim = s.tim ∧
    (tapIdcodeEff s).net = s.net ∧ (tapIdcodeEff s).prt = s.prt ∧ (tapIdcodeEff s).trp = s.trp ∧
    (tapIdcodeEff s).pod = s.pod ∧ (tapIdcodeEff s).lgc = s.lgc ∧ (tapIdcodeEff s).gsv = s.gsv ∧
    (tapIdcodeEff s).tph = s.tph ∧ (tapIdcodeEff s).oz = s.oz ∧ (tapIdcodeEff s).sec = s.sec ∧
    (tapIdcodeEff s).cmd = s.cmd ∧ (tapIdcodeEff s).regs = s.regs := by
  have hf1 := @State.readOut_frame
  have hf2 := @State.setTap_frame
  simp [↓hf1, ↓hf2, tapIdcodeEff]

theorem tapSamplePreloadEff_frame (s : State) :
    (tapSamplePreloadEff s).now = s.now ∧ (tapSamplePreloadEff s).pending = s.pending ∧
    (tapSamplePreloadEff s).regs0 = s.regs0 ∧ (tapSamplePreloadEff s).mode = s.mode ∧
    (tapSamplePreloadEff s).mram = s.mram ∧ (tapSamplePreloadEff s).sys.straps = s.sys.straps ∧
    (tapSamplePreloadEff s).sys.por = s.sys.por ∧ (tapSamplePreloadEff s).sys.mapOn = s.sys.mapOn ∧
    (tapSamplePreloadEff s).evt = s.evt ∧ (tapSamplePreloadEff s).ana = s.ana ∧ (tapSamplePreloadEff s).aux = s.aux ∧
    (tapSamplePreloadEff s).flt = s.flt ∧ (tapSamplePreloadEff s).tim = s.tim ∧ (tapSamplePreloadEff s).net = s.net ∧
    (tapSamplePreloadEff s).prt = s.prt ∧ (tapSamplePreloadEff s).trp = s.trp ∧ (tapSamplePreloadEff s).pod = s.pod ∧
    (tapSamplePreloadEff s).lgc = s.lgc ∧ (tapSamplePreloadEff s).gsv = s.gsv ∧ (tapSamplePreloadEff s).tph = s.tph ∧
    (tapSamplePreloadEff s).oz = s.oz ∧ (tapSamplePreloadEff s).sec = s.sec ∧ (tapSamplePreloadEff s).cmd = s.cmd ∧
    (tapSamplePreloadEff s).regs = s.regs := by
  have hfite := @State.ite_frame
  have hf1 := @State.scanCells_frame
  have hf2 := @State.sysUpd_frame
  have hf3 := @State.setTap_frame
  have hf4 := @State.preload_frame
  simp [↓hfite, ↓hf1, ↓hf2, ↓hf3, ↓hf4, tapSamplePreloadEff]

theorem tapHighzEff_frame (s : State) :
    (tapHighzEff s).now = s.now ∧ (tapHighzEff s).pending = s.pending ∧ (tapHighzEff s).regs0 = s.regs0 ∧
    (tapHighzEff s).freeCtr = s.freeCtr ∧ (tapHighzEff s).mode = s.mode ∧ (tapHighzEff s).mram = s.mram ∧
    (tapHighzEff s).sys.straps = s.sys.straps ∧ (tapHighzEff s).sys.por = s.sys.por ∧
    (tapHighzEff s).sys.mapOn = s.sys.mapOn ∧ (tapHighzEff s).evt = s.evt ∧ (tapHighzEff s).ana = s.ana ∧
    (tapHighzEff s).aux = s.aux ∧ (tapHighzEff s).flt = s.flt ∧ (tapHighzEff s).tim = s.tim ∧
    (tapHighzEff s).net = s.net ∧ (tapHighzEff s).prt = s.prt ∧ (tapHighzEff s).trp = s.trp ∧
    (tapHighzEff s).pod = s.pod ∧ (tapHighzEff s).lgc = s.lgc ∧ (tapHighzEff s).gsv = s.gsv ∧
    (tapHighzEff s).tph = s.tph ∧ (tapHighzEff s).oz = s.oz ∧ (tapHighzEff s).sec = s.sec ∧
    (tapHighzEff s).cmd = s.cmd ∧ (tapHighzEff s).regs = s.regs := by
  have hf1 := @State.heldTap_frame
  simp [↓hf1, tapHighzEff]

theorem tapClampEff_frame (s : State) :
    (tapClampEff s).now = s.now ∧ (tapClampEff s).pending = s.pending ∧ (tapClampEff s).regs0 = s.regs0 ∧
    (tapClampEff s).freeCtr = s.freeCtr ∧ (tapClampEff s).mode = s.mode ∧ (tapClampEff s).mram = s.mram ∧
    (tapClampEff s).sys.straps = s.sys.straps ∧ (tapClampEff s).sys.por = s.sys.por ∧
    (tapClampEff s).sys.mapOn = s.sys.mapOn ∧ (tapClampEff s).evt = s.evt ∧ (tapClampEff s).ana = s.ana ∧
    (tapClampEff s).aux = s.aux ∧ (tapClampEff s).flt = s.flt ∧ (tapClampEff s).tim = s.tim ∧
    (tapClampEff s).net = s.net ∧ (tapClampEff s).prt = s.prt ∧ (tapClampEff s).trp = s.trp ∧
    (tapClampEff s).pod = s.pod ∧ (tapClampEff s).lgc = s.lgc ∧ (tapClampEff s).gsv = s.gsv ∧
    (tapClampEff s).tph = s.tph ∧ (tapClampEff s).oz = s.oz ∧ (tapClampEff s).sec = s.sec ∧
    (tapClampEff s).cmd = s.cmd ∧ (tapClampEff s).regs = s.regs := by
  have hf1 := @State.heldTap_frame
  simp [↓hf1, tapClampEff]

theorem tapBypassEff_frame (s : State) :
    (tapBypassEff s).now = s.now ∧ (tapBypassEff s).pending = s.pending ∧ (tapBypassEff s).regs0 = s.regs0 ∧
    (tapBypassEff s).freeCtr = s.freeCtr ∧ (tapBypassEff s).mode = s.mode ∧ (tapBypassEff s).mram = s.mram ∧
    (tapBypassEff s).sys.straps = s.sys.straps ∧ (tapBypassEff s).sys.por = s.sys.por ∧
    (tapBypassEff s).sys.mapOn = s.sys.mapOn ∧ (tapBypassEff s).evt = s.evt ∧ (tapBypassEff s).ana = s.ana ∧
    (tapBypassEff s).aux = s.aux ∧ (tapBypassEff s).flt = s.flt ∧ (tapBypassEff s).tim = s.tim ∧
    (tapBypassEff s).net = s.net ∧ (tapBypassEff s).prt = s.prt ∧ (tapBypassEff s).trp = s.trp ∧
    (tapBypassEff s).pod = s.pod ∧ (tapBypassEff s).lgc = s.lgc ∧ (tapBypassEff s).gsv = s.gsv ∧
    (tapBypassEff s).tph = s.tph ∧ (tapBypassEff s).oz = s.oz ∧ (tapBypassEff s).sec = s.sec ∧
    (tapBypassEff s).cmd = s.cmd ∧ (tapBypassEff s).regs = s.regs := by
  have hf1 := @State.setTap_frame
  simp [↓hf1, tapBypassEff]
end Sys2Proof.Machine
end

