-- ==== Sys2Proof/Laws/FrameOrders.lean ====
section
/-!
SUPPORT. What the operations of Machine/Orders.lean leave as it was: one lemma per operation, over the parts of the state.
-/
set_option linter.all false
set_option Elab.async false
namespace Sys2Proof.Machine
theorem orderStatus_frame (x0 : CmdReq) (s : State) :
    (orderStatus x0 s).s.now = s.now ∧ (orderStatus x0 s).s.pending = s.pending ∧
    (orderStatus x0 s).s.regs0 = s.regs0 ∧ (orderStatus x0 s).s.freeCtr = s.freeCtr ∧
    (orderStatus x0 s).s.mode = s.mode ∧ (orderStatus x0 s).s.mram = s.mram ∧ (orderStatus x0 s).s.sys = s.sys ∧
    (orderStatus x0 s).s.evt = s.evt ∧ (orderStatus x0 s).s.ana = s.ana ∧ (orderStatus x0 s).s.aux = s.aux ∧
    (orderStatus x0 s).s.flt = s.flt ∧ (orderStatus x0 s).s.tim = s.tim ∧ (orderStatus x0 s).s.net = s.net ∧
    (orderStatus x0 s).s.prt = s.prt ∧ (orderStatus x0 s).s.trp = s.trp ∧ (orderStatus x0 s).s.pod = s.pod ∧
    (orderStatus x0 s).s.lgc = s.lgc ∧ (orderStatus x0 s).s.gsv = s.gsv ∧ (orderStatus x0 s).s.tph = s.tph ∧
    (orderStatus x0 s).s.oz = s.oz ∧ (orderStatus x0 s).s.sec = s.sec ∧ (orderStatus x0 s).s.cmd = s.cmd ∧
    (orderStatus x0 s).s.regs = s.regs := by
  simp [orderStatus]

theorem orderRegRead_frame (q : CmdReq) (s : State) :
    (orderRegRead q s).s.now = s.now ∧ (orderRegRead q s).s.pending = s.pending ∧
    (orderRegRead q s).s.regs0 = s.regs0 ∧ (orderRegRead q s).s.freeCtr = s.freeCtr ∧
    (orderRegRead q s).s.mode = s.mode ∧ (orderRegRead q s).s.mram.keyCnt = s.mram.keyCnt ∧
    (orderRegRead q s).s.mram.boot = s.mram.boot ∧ (orderRegRead q s).s.sys.straps = s.sys.straps ∧
    (orderRegRead q s).s.sys.por = s.sys.por ∧ (orderRegRead q s).s.sys.mapOn = s.sys.mapOn ∧
    (orderRegRead q s).s.ana = s.ana ∧ (orderRegRead q s).s.flt = s.flt ∧ (orderRegRead q s).s.tim = s.tim ∧
    (orderRegRead q s).s.net = s.net ∧ (orderRegRead q s).s.prt = s.prt ∧ (orderRegRead q s).s.trp = s.trp ∧
    (orderRegRead q s).s.pod = s.pod ∧ (orderRegRead q s).s.lgc = s.lgc ∧ (orderRegRead q s).s.gsv = s.gsv ∧
    (orderRegRead q s).s.tph = s.tph ∧ (orderRegRead q s).s.oz = s.oz ∧ (orderRegRead q s).s.sec = s.sec ∧
    (orderRegRead q s).s.cmd = s.cmd := by
  have hfite := @State.ite_frame
  have hf1 := @State.readOut_frame
  simp [↓hfite, ↓hf1, orderRegRead]

@[simp ↓] theorem State.writeUntil_now (r : Requester) (l : List Nat) (a i : Nat) (s : State) :
    (State.writeUntil r l a i s).2.2.now = s.now := by
  have hf1 := @State.writeWord_frame
  induction l generalizing a i s with
  | nil => simp [↓hf1, State.writeUntil]
  | cons v l ih =>
    unfold State.writeUntil
    split <;> (rename_i heq; have h2 := congrArg (fun x => x.2.now) heq; simp [↓hf1] at h2; simp [↓hf1, ih, h2])

@[simp ↓] theorem State.writeUntil_pending (r : Requester) (l : List Nat) (a i : Nat) (s : State) :
    (State.writeUntil r l a i s).2.2.pending = s.pending := by
  have hf1 := @State.writeWord_frame
  induction l generalizing a i s with
  | nil => simp [↓hf1, State.writeUntil]
  | cons v l ih =>
    unfold State.writeUntil
    split <;> (rename_i heq; have h2 := congrArg (fun x => x.2.pending) heq; simp [↓hf1] at h2; simp [↓hf1, ih, h2])

@[simp ↓] theorem State.writeUntil_regs0 (r : Requester) (l : List Nat) (a i : Nat) (s : State) :
    (State.writeUntil r l a i s).2.2.regs0 = s.regs0 := by
  have hf1 := @State.writeWord_frame
  induction l generalizing a i s with
  | nil => simp [↓hf1, State.writeUntil]
  | cons v l ih =>
    unfold State.writeUntil
    split <;> (rename_i heq; have h2 := congrArg (fun x => x.2.regs0) heq; simp [↓hf1] at h2; simp [↓hf1, ih, h2])

@[simp ↓] theorem State.writeUntil_freeCtr (r : Requester) (l : List Nat) (a i : Nat) (s : State) :
    (State.writeUntil r l a i s).2.2.freeCtr = s.freeCtr := by
  have hf1 := @State.writeWord_frame
  induction l generalizing a i s with
  | nil => simp [↓hf1, State.writeUntil]
  | cons v l ih =>
    unfold State.writeUntil
    split <;> (rename_i heq; have h2 := congrArg (fun x => x.2.freeCtr) heq; simp [↓hf1] at h2; simp [↓hf1, ih, h2])

@[simp ↓] theorem State.writeUntil_mode (r : Requester) (l : List Nat) (a i : Nat) (s : State) :
    (State.writeUntil r l a i s).2.2.mode = s.mode := by
  have hf1 := @State.writeWord_frame
  induction l generalizing a i s with
  | nil => simp [↓hf1, State.writeUntil]
  | cons v l ih =>
    unfold State.writeUntil
    split <;> (rename_i heq; have h2 := congrArg (fun x => x.2.mode) heq; simp [↓hf1] at h2; simp [↓hf1, ih, h2])

@[simp ↓] theorem State.writeUntil_sys (r : Requester) (l : List Nat) (a i : Nat) (s : State) :
    (State.writeUntil r l a i s).2.2.sys = s.sys := by
  have hf1 := @State.writeWord_frame
  induction l generalizing a i s with
  | nil => simp [↓hf1, State.writeUntil]
  | cons v l ih =>
    unfold State.writeUntil
    split <;> (rename_i heq; have h2 := congrArg (fun x => x.2.sys) heq; simp [↓hf1] at h2; simp [↓hf1, ih, h2])

@[simp ↓] theorem State.writeUntil_tim (r : Requester) (l : List Nat) (a i : Nat) (s : State) :
    (State.writeUntil r l a i s).2.2.tim = s.tim := by
  have hf1 := @State.writeWord_frame
  induction l generalizing a i s with
  | nil => simp [↓hf1, State.writeUntil]
  | cons v l ih =>
    unfold State.writeUntil
    split <;> (rename_i heq; have h2 := congrArg (fun x => x.2.tim) heq; simp [↓hf1] at h2; simp [↓hf1, ih, h2])

@[simp ↓] theorem State.writeUntil_prt (r : Requester) (l : List Nat) (a i : Nat) (s : State) :
    (State.writeUntil r l a i s).2.2.prt = s.prt := by
  have hf1 := @State.writeWord_frame
  induction l generalizing a i s with
  | nil => simp [↓hf1, State.writeUntil]
  | cons v l ih =>
    unfold State.writeUntil
    split <;> (rename_i heq; have h2 := congrArg (fun x => x.2.prt) heq; simp [↓hf1] at h2; simp [↓hf1, ih, h2])

@[simp ↓] theorem State.writeUntil_trp (r : Requester) (l : List Nat) (a i : Nat) (s : State) :
    (State.writeUntil r l a i s).2.2.trp = s.trp := by
  have hf1 := @State.writeWord_frame
  induction l generalizing a i s with
  | nil => simp [↓hf1, State.writeUntil]
  | cons v l ih =>
    unfold State.writeUntil
    split <;> (rename_i heq; have h2 := congrArg (fun x => x.2.trp) heq; simp [↓hf1] at h2; simp [↓hf1, ih, h2])

@[simp ↓] theorem State.writeUntil_pod (r : Requester) (l : List Nat) (a i : Nat) (s : State) :
    (State.writeUntil r l a i s).2.2.pod = s.pod := by
  have hf1 := @State.writeWord_frame
  induction l generalizing a i s with
  | nil => simp [↓hf1, State.writeUntil]
  | cons v l ih =>
    unfold State.writeUntil
    split <;> (rename_i heq; have h2 := congrArg (fun x => x.2.pod) heq; simp [↓hf1] at h2; simp [↓hf1, ih, h2])

@[simp ↓] theorem State.writeUntil_lgc (r : Requester) (l : List Nat) (a i : Nat) (s : State) :
    (State.writeUntil r l a i s).2.2.lgc = s.lgc := by
  have hf1 := @State.writeWord_frame
  induction l generalizing a i s with
  | nil => simp [↓hf1, State.writeUntil]
  | cons v l ih =>
    unfold State.writeUntil
    split <;> (rename_i heq; have h2 := congrArg (fun x => x.2.lgc) heq; simp [↓hf1] at h2; simp [↓hf1, ih, h2])

@[simp ↓] theorem State.writeUntil_gsv (r : Requester) (l : List Nat) (a i : Nat) (s : State) :
    (State.writeUntil r l a i s).2.2.gsv = s.gsv := by
  have hf1 := @State.writeWord_frame
  induction l generalizing a i s with
  | nil => simp [↓hf1, State.writeUntil]
  | cons v l ih =>
    unfold State.writeUntil
    split <;> (rename_i heq; have h2 := congrArg (fun x => x.2.gsv) heq; simp [↓hf1] at h2; simp [↓hf1, ih, h2])

@[simp ↓] theorem State.writeUntil_sec (r : Requester) (l : List Nat) (a i : Nat) (s : State) :
    (State.writeUntil r l a i s).2.2.sec = s.sec := by
  have hf1 := @State.writeWord_frame
  induction l generalizing a i s with
  | nil => simp [↓hf1, State.writeUntil]
  | cons v l ih =>
    unfold State.writeUntil
    split <;> (rename_i heq; have h2 := congrArg (fun x => x.2.sec) heq; simp [↓hf1] at h2; simp [↓hf1, ih, h2])

@[simp ↓] theorem State.writeUntil_mram_keyCnt (r : Requester) (l : List Nat) (a i : Nat) (s : State) :
    (State.writeUntil r l a i s).2.2.mram.keyCnt = s.mram.keyCnt := by
  have hf1 := @State.writeWord_frame
  induction l generalizing a i s with
  | nil => simp [↓hf1, State.writeUntil]
  | cons v l ih =>
    unfold State.writeUntil
    split <;> (rename_i heq; have h2 := congrArg (fun x => x.2.mram.keyCnt) heq; simp [↓hf1] at h2; simp [↓hf1, ih, h2])

@[simp ↓] theorem State.writeUntil_mram_boot (r : Requester) (l : List Nat) (a i : Nat) (s : State) :
    (State.writeUntil r l a i s).2.2.mram.boot = s.mram.boot := by
  have hf1 := @State.writeWord_frame
  induction l generalizing a i s with
  | nil => simp [↓hf1, State.writeUntil]
  | cons v l ih =>
    unfold State.writeUntil
    split <;> (rename_i heq; have h2 := congrArg (fun x => x.2.mram.boot) heq; simp [↓hf1] at h2; simp [↓hf1, ih, h2])

@[simp ↓] theorem State.writeUntil_cmd_run (r : Requester) (l : List Nat) (a i : Nat) (s : State) :
    (State.writeUntil r l a i s).2.2.cmd.run = s.cmd.run := by
  have hf1 := @State.writeWord_frame
  induction l generalizing a i s with
  | nil => simp [↓hf1, State.writeUntil]
  | cons v l ih =>
    unfold State.writeUntil
    split <;> (rename_i heq; have h2 := congrArg (fun x => x.2.cmd.run) heq; simp [↓hf1] at h2; simp [↓hf1, ih, h2])

theorem orderRegWrite_frame (q : CmdReq) (s : State) :
    (orderRegWrite q s).s.now = s.now ∧ (orderRegWrite q s).s.pending = s.pending ∧
    (orderRegWrite q s).s.regs0 = s.regs0 ∧ (orderRegWrite q s).s.freeCtr = s.freeCtr ∧
    (orderRegWrite q s).s.mode = s.mode ∧ (orderRegWrite q s).s.mram.keyCnt = s.mram.keyCnt ∧
    (orderRegWrite q s).s.mram.boot = s.mram.boot ∧ (orderRegWrite q s).s.sys = s.sys ∧
    (orderRegWrite q s).s.tim = s.tim ∧ (orderRegWrite q s).s.prt = s.prt ∧ (orderRegWrite q s).s.trp = s.trp ∧
    (orderRegWrite q s).s.pod = s.pod ∧ (orderRegWrite q s).s.lgc = s.lgc ∧ (orderRegWrite q s).s.gsv = s.gsv ∧
    (orderRegWrite q s).s.sec = s.sec ∧ (orderRegWrite q s).s.cmd.run = s.cmd.run := by
  have hfite := @State.ite_frame
  simp [↓hfite, orderRegWrite]

theorem orderRestart_frame (q : CmdReq) (s : State) :
    (orderRestart q s).s.now = s.now ∧ (orderRestart q s).s.pending = s.pending ∧
    (orderRestart q s).s.regs0 = s.regs0 ∧ (orderRestart q s).s.freeCtr = s.freeCtr ∧
    (orderRestart q s).s.mode = s.mode ∧ (orderRestart q s).s.mram = s.mram ∧
    (orderRestart q s).s.sys.straps = s.sys.straps ∧ (orderRestart q s).s.sys.por = s.sys.por ∧
    (orderRestart q s).s.sys.mapOn = s.sys.mapOn ∧ (orderRestart q s).s.evt = s.evt ∧
    (orderRestart q s).s.ana = s.ana ∧ (orderRestart q s).s.aux = s.aux ∧ (orderRestart q s).s.flt = s.flt ∧
    (orderRestart q s).s.tim = s.tim ∧ (orderRestart q s).s.net = s.net ∧ (orderRestart q s).s.prt = s.prt ∧
    (orderRestart q s).s.trp = s.trp ∧ (orderRestart q s).s.pod = s.pod ∧ (orderRestart q s).s.lgc = s.lgc ∧
    (orderRestart q s).s.gsv = s.gsv ∧ (orderRestart q s).s.tph = s.tph ∧ (orderRestart q s).s.oz = s.oz ∧
    (orderRestart q s).s.sec = s.sec ∧ (orderRestart q s).s.cmd = s.cmd ∧ (orderRestart q s).s.regs = s.regs := by
  have hfite := @State.ite_frame
  have hf1 := @State.reqRestart_frame
  simp [↓hfite, ↓hf1, orderRestart]

theorem orderSafe_frame (x0 : CmdReq) (s : State) :
    (orderSafe x0 s).s.now = s.now ∧ (orderSafe x0 s).s.pending = s.pending ∧ (orderSafe x0 s).s.regs0 = s.regs0 ∧
    (orderSafe x0 s).s.mram.keyCnt = s.mram.keyCnt ∧ (orderSafe x0 s).s.sys.straps = s.sys.straps ∧
    (orderSafe x0 s).s.sys.por = s.sys.por ∧ (orderSafe x0 s).s.sys.mapOn = s.sys.mapOn ∧
    (orderSafe x0 s).s.ana = s.ana ∧ (orderSafe x0 s).s.aux = s.aux ∧ (orderSafe x0 s).s.flt = s.flt ∧
    (orderSafe x0 s).s.net = s.net ∧ (orderSafe x0 s).s.prt = s.prt ∧ (orderSafe x0 s).s.sec = s.sec ∧
    (orderSafe x0 s).s.cmd.run = s.cmd.run ∧ (orderSafe x0 s).s.cmd.svc = s.cmd.svc := by
  have hf1 := @State.enterSafe_frame
  simp [↓hf1, orderSafe]

theorem orderResultRead_frame (x0 : CmdReq) (s : State) :
    (orderResultRead x0 s).s.now = s.now ∧ (orderResultRead x0 s).s.pending = s.pending ∧
    (orderResultRead x0 s).s.regs0 = s.regs0 ∧ (orderResultRead x0 s).s.freeCtr = s.freeCtr ∧
    (orderResultRead x0 s).s.mode = s.mode ∧ (orderResultRead x0 s).s.mram = s.mram ∧
    (orderResultRead x0 s).s.sys = s.sys ∧ (orderResultRead x0 s).s.evt = s.evt ∧
    (orderResultRead x0 s).s.ana = s.ana ∧ (orderResultRead x0 s).s.aux = s.aux ∧
    (orderResultRead x0 s).s.flt = s.flt ∧ (orderResultRead x0 s).s.tim = s.tim ∧
    (orderResultRead x0 s).s.net = s.net ∧ (orderResultRead x0 s).s.prt = s.prt ∧
    (orderResultRead x0 s).s.trp = s.trp ∧ (orderResultRead x0 s).s.pod = s.pod ∧
    (orderResultRead x0 s).s.lgc = s.lgc ∧ (orderResultRead x0 s).s.gsv = s.gsv ∧
    (orderResultRead x0 s).s.tph = s.tph ∧ (orderResultRead x0 s).s.oz = s.oz ∧
    (orderResultRead x0 s).s.sec = s.sec ∧ (orderResultRead x0 s).s.cmd = s.cmd ∧
    (orderResultRead x0 s).s.regs = s.regs := by
  unfold orderResultRead
  (repeat' split) <;> simp

theorem orderModeSet_frame (q : CmdReq) (s : State) :
    (orderModeSet q s).s.now = s.now ∧ (orderModeSet q s).s.pending = s.pending ∧
    (orderModeSet q s).s.regs0 = s.regs0 ∧ (orderModeSet q s).s.freeCtr = s.freeCtr ∧
    (orderModeSet q s).s.mode = s.mode ∧ (orderModeSet q s).s.mram = s.mram ∧
    (orderModeSet q s).s.sys.straps = s.sys.straps ∧ (orderModeSet q s).s.sys.por = s.sys.por ∧
    (orderModeSet q s).s.sys.mapOn = s.sys.mapOn ∧ (orderModeSet q s).s.evt = s.evt ∧
    (orderModeSet q s).s.ana = s.ana ∧ (orderModeSet q s).s.aux = s.aux ∧ (orderModeSet q s).s.flt = s.flt ∧
    (orderModeSet q s).s.tim = s.tim ∧ (orderModeSet q s).s.net = s.net ∧ (orderModeSet q s).s.prt = s.prt ∧
    (orderModeSet q s).s.trp = s.trp ∧ (orderModeSet q s).s.pod = s.pod ∧ (orderModeSet q s).s.lgc = s.lgc ∧
    (orderModeSet q s).s.gsv = s.gsv ∧ (orderModeSet q s).s.tph = s.tph ∧ (orderModeSet q s).s.oz = s.oz ∧
    (orderModeSet q s).s.sec = s.sec ∧ (orderModeSet q s).s.cmd = s.cmd ∧ (orderModeSet q s).s.regs = s.regs := by
  have hfite := @State.ite_frame
  have hf1 := @State.sysUpd_frame
  simp [↓hfite, ↓hf1, orderModeSet]

theorem orderOutputForce_frame (q : CmdReq) (s : State) :
    (orderOutputForce q s).s.now = s.now ∧ (orderOutputForce q s).s.pending = s.pending ∧
    (orderOutputForce q s).s.regs0 = s.regs0 ∧ (orderOutputForce q s).s.freeCtr = s.freeCtr ∧
    (orderOutputForce q s).s.mode = s.mode ∧ (orderOutputForce q s).s.mram = s.mram ∧
    (orderOutputForce q s).s.sys = s.sys ∧ (orderOutputForce q s).s.evt = s.evt ∧
    (orderOutputForce q s).s.ana = s.ana ∧ (orderOutputForce q s).s.aux = s.aux ∧
    (orderOutputForce q s).s.flt = s.flt ∧ (orderOutputForce q s).s.tim = s.tim ∧
    (orderOutputForce q s).s.net = s.net ∧ (orderOutputForce q s).s.prt = s.prt ∧
    (orderOutputForce q s).s.pod = s.pod ∧ (orderOutputForce q s).s.lgc = s.lgc ∧
    (orderOutputForce q s).s.gsv = s.gsv ∧ (orderOutputForce q s).s.tph = s.tph ∧
    (orderOutputForce q s).s.oz = s.oz ∧ (orderOutputForce q s).s.sec = s.sec ∧
    (orderOutputForce q s).s.cmd.run = s.cmd.run ∧ (orderOutputForce q s).s.cmd.svc = s.cmd.svc := by
  have hfite := @State.ite_frame
  have hf1 := @State.setF_frame
  have hf2 := @State.endForce_frame
  simp [↓hfite, ↓hf1, ↓hf2, orderOutputForce]

theorem forceExpiryEff_frame (s : State) :
    (forceExpiryEff s).now = s.now ∧ (forceExpiryEff s).pending = s.pending ∧ (forceExpiryEff s).regs0 = s.regs0 ∧
    (forceExpiryEff s).freeCtr = s.freeCtr ∧ (forceExpiryEff s).mode = s.mode ∧ (forceExpiryEff s).mram = s.mram ∧
    (forceExpiryEff s).sys = s.sys ∧ (forceExpiryEff s).evt = s.evt ∧ (forceExpiryEff s).ana = s.ana ∧
    (forceExpiryEff s).aux = s.aux ∧ (forceExpiryEff s).flt = s.flt ∧ (forceExpiryEff s).tim = s.tim ∧
    (forceExpiryEff s).net = s.net ∧ (forceExpiryEff s).prt = s.prt ∧ (forceExpiryEff s).pod = s.pod ∧
    (forceExpiryEff s).lgc = s.lgc ∧ (forceExpiryEff s).gsv = s.gsv ∧ (forceExpiryEff s).tph = s.tph ∧
    (forceExpiryEff s).oz = s.oz ∧ (forceExpiryEff s).sec = s.sec ∧ (forceExpiryEff s).cmd.run = s.cmd.run ∧
    (forceExpiryEff s).cmd.svc = s.cmd.svc := by
  have hf1 := @State.endForce_frame
  unfold forceExpiryEff
  (repeat' split) <;> simp [↓hf1]

theorem orderTripReset_frame (q : CmdReq) (s : State) :
    (orderTripReset q s).s.now = s.now ∧ (orderTripReset q s).s.pending = s.pending ∧
    (orderTripReset q s).s.regs0 = s.regs0 ∧ (orderTripReset q s).s.freeCtr = s.freeCtr ∧
    (orderTripReset q s).s.mode = s.mode ∧ (orderTripReset q s).s.mram = s.mram ∧
    (orderTripReset q s).s.sys = s.sys ∧ (orderTripReset q s).s.evt = s.evt ∧ (orderTripReset q s).s.ana = s.ana ∧
    (orderTripReset q s).s.aux = s.aux ∧ (orderTripReset q s).s.flt = s.flt ∧ (orderTripReset q s).s.tim = s.tim ∧
    (orderTripReset q s).s.net = s.net ∧ (orderTripReset q s).s.prt = s.prt ∧ (orderTripReset q s).s.pod = s.pod ∧
    (orderTripReset q s).s.lgc = s.lgc ∧ (orderTripReset q s).s.gsv = s.gsv ∧ (orderTripReset q s).s.tph = s.tph ∧
    (orderTripReset q s).s.oz = s.oz ∧ (orderTripReset q s).s.sec = s.sec ∧ (orderTripReset q s).s.cmd = s.cmd ∧
    (orderTripReset q s).s.regs = s.regs := by
  simp [orderTripReset]

theorem orderSettingWrite_frame (q : CmdReq) (s : State) :
    (orderSettingWrite q s).s.now = s.now ∧ (orderSettingWrite q s).s.pending = s.pending ∧
    (orderSettingWrite q s).s.regs0 = s.regs0 ∧ (orderSettingWrite q s).s.freeCtr = s.freeCtr ∧
    (orderSettingWrite q s).s.mode = s.mode ∧ (orderSettingWrite q s).s.mram = s.mram ∧
    (orderSettingWrite q s).s.sys = s.sys ∧ (orderSettingWrite q s).s.evt = s.evt ∧
    (orderSettingWrite q s).s.ana = s.ana ∧ (orderSettingWrite q s).s.aux = s.aux ∧
    (orderSettingWrite q s).s.flt = s.flt ∧ (orderSettingWrite q s).s.tim = s.tim ∧
    (orderSettingWrite q s).s.net = s.net ∧ (orderSettingWrite q s).s.trp = s.trp ∧
    (orderSettingWrite q s).s.pod = s.pod ∧ (orderSettingWrite q s).s.lgc = s.lgc ∧
    (orderSettingWrite q s).s.gsv = s.gsv ∧ (orderSettingWrite q s).s.tph = s.tph ∧
    (orderSettingWrite q s).s.oz = s.oz ∧ (orderSettingWrite q s).s.sec = s.sec ∧
    (orderSettingWrite q s).s.cmd = s.cmd ∧ (orderSettingWrite q s).s.regs = s.regs := by
  have hfite := @State.ite_frame
  have hf1 := @State.setInst_frame
  simp [↓hfite, ↓hf1, orderSettingWrite]

theorem orderGroupSelect_frame (q : CmdReq) (s : State) :
    (orderGroupSelect q s).s.now = s.now ∧ (orderGroupSelect q s).s.pending = s.pending ∧
    (orderGroupSelect q s).s.regs0 = s.regs0 ∧ (orderGroupSelect q s).s.freeCtr = s.freeCtr ∧
    (orderGroupSelect q s).s.mode = s.mode ∧ (orderGroupSelect q s).s.mram = s.mram ∧
    (orderGroupSelect q s).s.sys = s.sys ∧ (orderGroupSelect q s).s.evt = s.evt ∧
    (orderGroupSelect q s).s.ana = s.ana ∧ (orderGroupSelect q s).s.aux = s.aux ∧
    (orderGroupSelect q s).s.flt = s.flt ∧ (orderGroupSelect q s).s.tim = s.tim ∧
    (orderGroupSelect q s).s.net = s.net ∧ (orderGroupSelect q s).s.trp = s.trp ∧
    (orderGroupSelect q s).s.pod = s.pod ∧ (orderGroupSelect q s).s.lgc = s.lgc ∧
    (orderGroupSelect q s).s.gsv = s.gsv ∧ (orderGroupSelect q s).s.tph = s.tph ∧
    (orderGroupSelect q s).s.oz = s.oz ∧ (orderGroupSelect q s).s.sec = s.sec ∧ (orderGroupSelect q s).s.cmd = s.cmd := by
  have hfite := @State.ite_frame
  have hf1 := @State.requestGroup_frame
  simp [↓hfite, ↓hf1, orderGroupSelect]

theorem orderDebugUnlock_frame (q : CmdReq) (s : State) :
    (orderDebugUnlock q s).s.now = s.now ∧ (orderDebugUnlock q s).s.pending = s.pending ∧
    (orderDebugUnlock q s).s.regs0 = s.regs0 ∧ (orderDebugUnlock q s).s.freeCtr = s.freeCtr ∧
    (orderDebugUnlock q s).s.mode = s.mode ∧ (orderDebugUnlock q s).s.mram.keyCnt = s.mram.keyCnt ∧
    (orderDebugUnlock q s).s.mram.boot = s.mram.boot ∧ (orderDebugUnlock q s).s.sys = s.sys ∧
    (orderDebugUnlock q s).s.ana = s.ana ∧ (orderDebugUnlock q s).s.aux = s.aux ∧
    (orderDebugUnlock q s).s.flt = s.flt ∧ (orderDebugUnlock q s).s.tim = s.tim ∧
    (orderDebugUnlock q s).s.net = s.net ∧ (orderDebugUnlock q s).s.prt = s.prt ∧
    (orderDebugUnlock q s).s.trp = s.trp ∧ (orderDebugUnlock q s).s.pod = s.pod ∧
    (orderDebugUnlock q s).s.lgc = s.lgc ∧ (orderDebugUnlock q s).s.gsv = s.gsv ∧
    (orderDebugUnlock q s).s.tph = s.tph ∧ (orderDebugUnlock q s).s.oz = s.oz ∧
    (orderDebugUnlock q s).s.sec = s.sec ∧ (orderDebugUnlock q s).s.cmd = s.cmd := by
  have hfite := @State.ite_frame
  have hf1 := @State.worldRefused_frame
  have hf2 := @State.setFlag_frame
  simp [↓hfite, ↓hf1, ↓hf2, orderDebugUnlock]

theorem orderDebugLock_frame (x0 : CmdReq) (s : State) :
    (orderDebugLock x0 s).s.now = s.now ∧ (orderDebugLock x0 s).s.pending = s.pending ∧
    (orderDebugLock x0 s).s.regs0 = s.regs0 ∧ (orderDebugLock x0 s).s.freeCtr = s.freeCtr ∧
    (orderDebugLock x0 s).s.mode = s.mode ∧ (orderDebugLock x0 s).s.mram = s.mram ∧
    (orderDebugLock x0 s).s.sys = s.sys ∧ (orderDebugLock x0 s).s.evt = s.evt ∧ (orderDebugLock x0 s).s.ana = s.ana ∧
    (orderDebugLock x0 s).s.aux = s.aux ∧ (orderDebugLock x0 s).s.flt = s.flt ∧ (orderDebugLock x0 s).s.tim = s.tim ∧
    (orderDebugLock x0 s).s.net = s.net ∧ (orderDebugLock x0 s).s.prt = s.prt ∧ (orderDebugLock x0 s).s.trp = s.trp ∧
    (orderDebugLock x0 s).s.lgc = s.lgc ∧ (orderDebugLock x0 s).s.gsv = s.gsv ∧ (orderDebugLock x0 s).s.tph = s.tph ∧
    (orderDebugLock x0 s).s.oz = s.oz ∧ (orderDebugLock x0 s).s.sec = s.sec ∧ (orderDebugLock x0 s).s.cmd = s.cmd := by
  have hfite := @State.ite_frame
  have hf1 := @State.debugLock_frame
  simp [↓hfite, ↓hf1, orderDebugLock]

theorem orderPairHandover_frame (x0 : CmdReq) (s : State) :
    (orderPairHandover x0 s).s.now = s.now ∧ (orderPairHandover x0 s).s.pending = s.pending ∧
    (orderPairHandover x0 s).s.regs0 = s.regs0 ∧ (orderPairHandover x0 s).s.freeCtr = s.freeCtr ∧
    (orderPairHandover x0 s).s.mode = s.mode ∧ (orderPairHandover x0 s).s.mram = s.mram ∧
    (orderPairHandover x0 s).s.sys = s.sys ∧ (orderPairHandover x0 s).s.evt = s.evt ∧
    (orderPairHandover x0 s).s.ana = s.ana ∧ (orderPairHandover x0 s).s.aux = s.aux ∧
    (orderPairHandover x0 s).s.flt = s.flt ∧ (orderPairHandover x0 s).s.tim = s.tim ∧
    (orderPairHandover x0 s).s.net = s.net ∧ (orderPairHandover x0 s).s.prt = s.prt ∧
    (orderPairHandover x0 s).s.trp = s.trp ∧ (orderPairHandover x0 s).s.pod = s.pod ∧
    (orderPairHandover x0 s).s.lgc = s.lgc ∧ (orderPairHandover x0 s).s.tph = s.tph ∧
    (orderPairHandover x0 s).s.sec = s.sec ∧ (orderPairHandover x0 s).s.cmd = s.cmd := by
  have hfite := @State.ite_frame
  have hf1 := @State.handover_frame
  simp [↓hfite, ↓hf1, orderPairHandover]

theorem State.bkrSubmit_frame (s : State) (q : CmdReq) (k : ℕ) :
    (State.bkrSubmit s q k).s.now = s.now ∧ (State.bkrSubmit s q k).s.pending = s.pending ∧
    (State.bkrSubmit s q k).s.regs0 = s.regs0 ∧ (State.bkrSubmit s q k).s.freeCtr = s.freeCtr ∧
    (State.bkrSubmit s q k).s.mode = s.mode ∧ (State.bkrSubmit s q k).s.mram = s.mram ∧
    (State.bkrSubmit s q k).s.sys = s.sys ∧ (State.bkrSubmit s q k).s.evt = s.evt ∧
    (State.bkrSubmit s q k).s.ana = s.ana ∧ (State.bkrSubmit s q k).s.aux = s.aux ∧
    (State.bkrSubmit s q k).s.flt = s.flt ∧ (State.bkrSubmit s q k).s.tim = s.tim ∧
    (State.bkrSubmit s q k).s.net = s.net ∧ (State.bkrSubmit s q k).s.prt = s.prt ∧
    (State.bkrSubmit s q k).s.trp = s.trp ∧ (State.bkrSubmit s q k).s.pod = s.pod ∧
    (State.bkrSubmit s q k).s.gsv = s.gsv ∧ (State.bkrSubmit s q k).s.tph = s.tph ∧
    (State.bkrSubmit s q k).s.oz = s.oz ∧ (State.bkrSubmit s q k).s.sec = s.sec ∧
    (State.bkrSubmit s q k).s.cmd = s.cmd ∧ (State.bkrSubmit s q k).s.regs = s.regs := by
  simp [State.bkrSubmit]
  (repeat' split) <;> simp

theorem orderBkrSelect_frame (q : CmdReq) (s : State) :
    (orderBkrSelect q s).s.now = s.now ∧ (orderBkrSelect q s).s.pending = s.pending ∧
    (orderBkrSelect q s).s.regs0 = s.regs0 ∧ (orderBkrSelect q s).s.freeCtr = s.freeCtr ∧
    (orderBkrSelect q s).s.mode = s.mode ∧ (orderBkrSelect q s).s.mram = s.mram ∧
    (orderBkrSelect q s).s.sys = s.sys ∧ (orderBkrSelect q s).s.evt = s.evt ∧ (orderBkrSelect q s).s.ana = s.ana ∧
    (orderBkrSelect q s).s.aux = s.aux ∧ (orderBkrSelect q s).s.flt = s.flt ∧ (orderBkrSelect q s).s.tim = s.tim ∧
    (orderBkrSelect q s).s.net = s.net ∧ (orderBkrSelect q s).s.prt = s.prt ∧ (orderBkrSelect q s).s.trp = s.trp ∧
    (orderBkrSelect q s).s.pod = s.pod ∧ (orderBkrSelect q s).s.gsv = s.gsv ∧ (orderBkrSelect q s).s.tph = s.tph ∧
    (orderBkrSelect q s).s.oz = s.oz ∧ (orderBkrSelect q s).s.sec = s.sec ∧ (orderBkrSelect q s).s.cmd = s.cmd ∧
    (orderBkrSelect q s).s.regs = s.regs := by
  have hfite := @State.ite_frame
  have hf1 := @State.bkrSubmit_frame
  simp [↓hfite, ↓hf1, orderBkrSelect]

theorem orderBkrOperate_frame (q : CmdReq) (s : State) :
    (orderBkrOperate q s).s.now = s.now ∧ (orderBkrOperate q s).s.pending = s.pending ∧
    (orderBkrOperate q s).s.regs0 = s.regs0 ∧ (orderBkrOperate q s).s.freeCtr = s.freeCtr ∧
    (orderBkrOperate q s).s.mode = s.mode ∧ (orderBkrOperate q s).s.mram = s.mram ∧
    (orderBkrOperate q s).s.sys = s.sys ∧ (orderBkrOperate q s).s.evt = s.evt ∧ (orderBkrOperate q s).s.ana = s.ana ∧
    (orderBkrOperate q s).s.aux = s.aux ∧ (orderBkrOperate q s).s.flt = s.flt ∧ (orderBkrOperate q s).s.tim = s.tim ∧
    (orderBkrOperate q s).s.net = s.net ∧ (orderBkrOperate q s).s.prt = s.prt ∧ (orderBkrOperate q s).s.trp = s.trp ∧
    (orderBkrOperate q s).s.pod = s.pod ∧ (orderBkrOperate q s).s.gsv = s.gsv ∧ (orderBkrOperate q s).s.tph = s.tph ∧
    (orderBkrOperate q s).s.oz = s.oz ∧ (orderBkrOperate q s).s.sec = s.sec ∧ (orderBkrOperate q s).s.cmd = s.cmd ∧
    (orderBkrOperate q s).s.regs = s.regs := by
  have hfite := @State.ite_frame
  have hf1 := @State.bkrSubmit_frame
  simp [↓hfite, ↓hf1, orderBkrOperate]

theorem orderBkrCancel_frame (q : CmdReq) (s : State) :
    (orderBkrCancel q s).s.now = s.now ∧ (orderBkrCancel q s).s.pending = s.pending ∧
    (orderBkrCancel q s).s.regs0 = s.regs0 ∧ (orderBkrCancel q s).s.freeCtr = s.freeCtr ∧
    (orderBkrCancel q s).s.mode = s.mode ∧ (orderBkrCancel q s).s.mram = s.mram ∧
    (orderBkrCancel q s).s.sys = s.sys ∧ (orderBkrCancel q s).s.evt = s.evt ∧ (orderBkrCancel q s).s.ana = s.ana ∧
    (orderBkrCancel q s).s.aux = s.aux ∧ (orderBkrCancel q s).s.flt = s.flt ∧ (orderBkrCancel q s).s.tim = s.tim ∧
    (orderBkrCancel q s).s.net = s.net ∧ (orderBkrCancel q s).s.prt = s.prt ∧ (orderBkrCancel q s).s.trp = s.trp ∧
    (orderBkrCancel q s).s.pod = s.pod ∧ (orderBkrCancel q s).s.gsv = s.gsv ∧ (orderBkrCancel q s).s.tph = s.tph ∧
    (orderBkrCancel q s).s.oz = s.oz ∧ (orderBkrCancel q s).s.sec = s.sec ∧ (orderBkrCancel q s).s.cmd = s.cmd ∧
    (orderBkrCancel q s).s.regs = s.regs := by
  have hfite := @State.ite_frame
  have hf1 := @State.bkrSubmit_frame
  simp [↓hfite, ↓hf1, orderBkrCancel]

theorem orderBkrStatus_frame (q : CmdReq) (s : State) :
    (orderBkrStatus q s).s.now = s.now ∧ (orderBkrStatus q s).s.pending = s.pending ∧
    (orderBkrStatus q s).s.regs0 = s.regs0 ∧ (orderBkrStatus q s).s.freeCtr = s.freeCtr ∧
    (orderBkrStatus q s).s.mode = s.mode ∧ (orderBkrStatus q s).s.mram = s.mram ∧
    (orderBkrStatus q s).s.sys = s.sys ∧ (orderBkrStatus q s).s.evt = s.evt ∧ (orderBkrStatus q s).s.ana = s.ana ∧
    (orderBkrStatus q s).s.aux = s.aux ∧ (orderBkrStatus q s).s.flt = s.flt ∧ (orderBkrStatus q s).s.tim = s.tim ∧
    (orderBkrStatus q s).s.net = s.net ∧ (orderBkrStatus q s).s.prt = s.prt ∧ (orderBkrStatus q s).s.trp = s.trp ∧
    (orderBkrStatus q s).s.pod = s.pod ∧ (orderBkrStatus q s).s.lgc = s.lgc ∧ (orderBkrStatus q s).s.gsv = s.gsv ∧
    (orderBkrStatus q s).s.tph = s.tph ∧ (orderBkrStatus q s).s.oz = s.oz ∧ (orderBkrStatus q s).s.sec = s.sec ∧
    (orderBkrStatus q s).s.cmd = s.cmd ∧ (orderBkrStatus q s).s.regs = s.regs := by
  unfold orderBkrStatus
  (repeat' split) <;> simp

theorem orderRecArm_frame (q : CmdReq) (s : State) :
    (orderRecArm q s).s.now = s.now ∧ (orderRecArm q s).s.pending = s.pending ∧ (orderRecArm q s).s.regs0 = s.regs0 ∧
    (orderRecArm q s).s.freeCtr = s.freeCtr ∧ (orderRecArm q s).s.mode = s.mode ∧
    (orderRecArm q s).s.mram.keyCnt = s.mram.keyCnt ∧ (orderRecArm q s).s.mram.boot = s.mram.boot ∧
    (orderRecArm q s).s.sys = s.sys ∧ (orderRecArm q s).s.ana = s.ana ∧ (orderRecArm q s).s.aux = s.aux ∧
    (orderRecArm q s).s.flt = s.flt ∧ (orderRecArm q s).s.tim = s.tim ∧ (orderRecArm q s).s.net = s.net ∧
    (orderRecArm q s).s.prt = s.prt ∧ (orderRecArm q s).s.trp = s.trp ∧ (orderRecArm q s).s.pod = s.pod ∧
    (orderRecArm q s).s.lgc = s.lgc ∧ (orderRecArm q s).s.gsv = s.gsv ∧ (orderRecArm q s).s.oz = s.oz ∧
    (orderRecArm q s).s.sec = s.sec ∧ (orderRecArm q s).s.cmd = s.cmd := by
  have hfite := @State.ite_frame
  have hf1 := @State.recArm_frame
  simp [↓hfite, ↓hf1, orderRecArm]

theorem orderRecDisarm_frame (q : CmdReq) (s : State) :
    (orderRecDisarm q s).s.now = s.now ∧ (orderRecDisarm q s).s.pending = s.pending ∧
    (orderRecDisarm q s).s.regs0 = s.regs0 ∧ (orderRecDisarm q s).s.freeCtr = s.freeCtr ∧
    (orderRecDisarm q s).s.mode = s.mode ∧ (orderRecDisarm q s).s.mram.keyCnt = s.mram.keyCnt ∧
    (orderRecDisarm q s).s.mram.boot = s.mram.boot ∧ (orderRecDisarm q s).s.sys = s.sys ∧
    (orderRecDisarm q s).s.evt = s.evt ∧ (orderRecDisarm q s).s.ana = s.ana ∧ (orderRecDisarm q s).s.aux = s.aux ∧
    (orderRecDisarm q s).s.flt = s.flt ∧ (orderRecDisarm q s).s.tim = s.tim ∧ (orderRecDisarm q s).s.net = s.net ∧
    (orderRecDisarm q s).s.prt = s.prt ∧ (orderRecDisarm q s).s.trp = s.trp ∧ (orderRecDisarm q s).s.pod = s.pod ∧
    (orderRecDisarm q s).s.lgc = s.lgc ∧ (orderRecDisarm q s).s.gsv = s.gsv ∧ (orderRecDisarm q s).s.oz = s.oz ∧
    (orderRecDisarm q s).s.sec = s.sec ∧ (orderRecDisarm q s).s.cmd = s.cmd := by
  have hfite := @State.ite_frame
  have hf1 := @State.recDisarm_frame
  simp [↓hfite, ↓hf1, orderRecDisarm]

theorem orderRecTrig_frame (q : CmdReq) (s : State) :
    (orderRecTrig q s).s.now = s.now ∧ (orderRecTrig q s).s.pending = s.pending ∧
    (orderRecTrig q s).s.regs0 = s.regs0 ∧ (orderRecTrig q s).s.freeCtr = s.freeCtr ∧
    (orderRecTrig q s).s.mode = s.mode ∧ (orderRecTrig q s).s.mram.keyCnt = s.mram.keyCnt ∧
    (orderRecTrig q s).s.mram.boot = s.mram.boot ∧ (orderRecTrig q s).s.sys = s.sys ∧
    (orderRecTrig q s).s.ana = s.ana ∧ (orderRecTrig q s).s.aux = s.aux ∧ (orderRecTrig q s).s.flt = s.flt ∧
    (orderRecTrig q s).s.tim = s.tim ∧ (orderRecTrig q s).s.net = s.net ∧ (orderRecTrig q s).s.prt = s.prt ∧
    (orderRecTrig q s).s.trp = s.trp ∧ (orderRecTrig q s).s.pod = s.pod ∧ (orderRecTrig q s).s.lgc = s.lgc ∧
    (orderRecTrig q s).s.gsv = s.gsv ∧ (orderRecTrig q s).s.sec = s.sec ∧ (orderRecTrig q s).s.cmd = s.cmd := by
  have hfite := @State.ite_frame
  have hf1 := @State.recTrig_frame
  simp [↓hfite, ↓hf1, orderRecTrig]

theorem orderRecApply_frame (q : CmdReq) (s : State) :
    (orderRecApply q s).s.now = s.now ∧ (orderRecApply q s).s.pending = s.pending ∧
    (orderRecApply q s).s.regs0 = s.regs0 ∧ (orderRecApply q s).s.freeCtr = s.freeCtr ∧
    (orderRecApply q s).s.mode = s.mode ∧ (orderRecApply q s).s.mram = s.mram ∧ (orderRecApply q s).s.sys = s.sys ∧
    (orderRecApply q s).s.evt = s.evt ∧ (orderRecApply q s).s.ana = s.ana ∧ (orderRecApply q s).s.aux = s.aux ∧
    (orderRecApply q s).s.flt = s.flt ∧ (orderRecApply q s).s.tim = s.tim ∧ (orderRecApply q s).s.net = s.net ∧
    (orderRecApply q s).s.prt = s.prt ∧ (orderRecApply q s).s.trp = s.trp ∧ (orderRecApply q s).s.pod = s.pod ∧
    (orderRecApply q s).s.lgc = s.lgc ∧ (orderRecApply q s).s.gsv = s.gsv ∧ (orderRecApply q s).s.oz = s.oz ∧
    (orderRecApply q s).s.sec = s.sec ∧ (orderRecApply q s).s.cmd = s.cmd := by
  have hfite := @State.ite_frame
  have hf1 := @State.recApply_frame
  have hf2 := @State.setF_frame
  simp [↓hfite, ↓hf1, ↓hf2, orderRecApply]

theorem orderRecRelease_frame (q : CmdReq) (s : State) :
    (orderRecRelease q s).s.now = s.now ∧ (orderRecRelease q s).s.pending = s.pending ∧
    (orderRecRelease q s).s.regs0 = s.regs0 ∧ (orderRecRelease q s).s.freeCtr = s.freeCtr ∧
    (orderRecRelease q s).s.mode = s.mode ∧ (orderRecRelease q s).s.mram.keyCnt = s.mram.keyCnt ∧
    (orderRecRelease q s).s.mram.boot = s.mram.boot ∧ (orderRecRelease q s).s.sys = s.sys ∧
    (orderRecRelease q s).s.ana = s.ana ∧ (orderRecRelease q s).s.aux = s.aux ∧ (orderRecRelease q s).s.flt = s.flt ∧
    (orderRecRelease q s).s.tim = s.tim ∧ (orderRecRelease q s).s.net = s.net ∧ (orderRecRelease q s).s.prt = s.prt ∧
    (orderRecRelease q s).s.trp = s.trp ∧ (orderRecRelease q s).s.pod = s.pod ∧ (orderRecRelease q s).s.lgc = s.lgc ∧
    (orderRecRelease q s).s.gsv = s.gsv ∧ (orderRecRelease q s).s.oz = s.oz ∧ (orderRecRelease q s).s.sec = s.sec ∧
    (orderRecRelease q s).s.cmd = s.cmd := by
  have hfite := @State.ite_frame
  have hf1 := @State.worldRefused_frame
  have hf2 := @State.recRelease_frame
  simp [↓hfite, ↓hf1, ↓hf2, orderRecRelease]

theorem orderLogicRun_frame (q : CmdReq) (s : State) :
    (orderLogicRun q s).s.now = s.now ∧ (orderLogicRun q s).s.pending = s.pending ∧
    (orderLogicRun q s).s.regs0 = s.regs0 ∧ (orderLogicRun q s).s.freeCtr = s.freeCtr ∧
    (orderLogicRun q s).s.mode = s.mode ∧ (orderLogicRun q s).s.mram.keyCnt = s.mram.keyCnt ∧
    (orderLogicRun q s).s.mram.boot = s.mram.boot ∧ (orderLogicRun q s).s.sys = s.sys ∧
    (orderLogicRun q s).s.ana = s.ana ∧ (orderLogicRun q s).s.aux = s.aux ∧ (orderLogicRun q s).s.flt = s.flt ∧
    (orderLogicRun q s).s.tim = s.tim ∧ (orderLogicRun q s).s.net = s.net ∧ (orderLogicRun q s).s.prt = s.prt ∧
    (orderLogicRun q s).s.pod = s.pod ∧ (orderLogicRun q s).s.gsv = s.gsv ∧ (orderLogicRun q s).s.tph = s.tph ∧
    (orderLogicRun q s).s.oz = s.oz ∧ (orderLogicRun q s).s.sec = s.sec ∧ (orderLogicRun q s).s.cmd = s.cmd := by
  have hfite := @State.ite_frame
  have hf1 := @State.startFree_frame
  have hf2 := @State.setProg_frame
  simp [↓hfite, ↓hf1, ↓hf2, orderLogicRun]

theorem orderLogicStop_frame (x0 : CmdReq) (s : State) :
    (orderLogicStop x0 s).s.now = s.now ∧ (orderLogicStop x0 s).s.pending = s.pending ∧
    (orderLogicStop x0 s).s.regs0 = s.regs0 ∧ (orderLogicStop x0 s).s.mode = s.mode ∧
    (orderLogicStop x0 s).s.mram.keyCnt = s.mram.keyCnt ∧ (orderLogicStop x0 s).s.sys = s.sys ∧
    (orderLogicStop x0 s).s.ana = s.ana ∧ (orderLogicStop x0 s).s.aux = s.aux ∧ (orderLogicStop x0 s).s.flt = s.flt ∧
    (orderLogicStop x0 s).s.tim = s.tim ∧ (orderLogicStop x0 s).s.net = s.net ∧ (orderLogicStop x0 s).s.prt = s.prt ∧
    (orderLogicStop x0 s).s.pod = s.pod ∧ (orderLogicStop x0 s).s.tph = s.tph ∧ (orderLogicStop x0 s).s.oz = s.oz ∧
    (orderLogicStop x0 s).s.sec = s.sec ∧ (orderLogicStop x0 s).s.cmd.run = s.cmd.run ∧
    (orderLogicStop x0 s).s.cmd.svc = s.cmd.svc := by
  have hfite := @State.ite_frame
  have hf1 := @State.setFlag_frame
  have hf2 := @State.enterStop_frame
  simp [↓hfite, ↓hf1, ↓hf2, orderLogicStop]

theorem orderLogicHold_frame (x0 : CmdReq) (s : State) :
    (orderLogicHold x0 s).s.now = s.now ∧ (orderLogicHold x0 s).s.pending = s.pending ∧
    (orderLogicHold x0 s).s.regs0 = s.regs0 ∧ (orderLogicHold x0 s).s.freeCtr = s.freeCtr ∧
    (orderLogicHold x0 s).s.mode = s.mode ∧ (orderLogicHold x0 s).s.mram = s.mram ∧
    (orderLogicHold x0 s).s.sys = s.sys ∧ (orderLogicHold x0 s).s.evt = s.evt ∧ (orderLogicHold x0 s).s.ana = s.ana ∧
    (orderLogicHold x0 s).s.aux = s.aux ∧ (orderLogicHold x0 s).s.flt = s.flt ∧ (orderLogicHold x0 s).s.tim = s.tim ∧
    (orderLogicHold x0 s).s.net = s.net ∧ (orderLogicHold x0 s).s.prt = s.prt ∧ (orderLogicHold x0 s).s.trp = s.trp ∧
    (orderLogicHold x0 s).s.pod = s.pod ∧ (orderLogicHold x0 s).s.gsv = s.gsv ∧ (orderLogicHold x0 s).s.tph = s.tph ∧
    (orderLogicHold x0 s).s.oz = s.oz ∧ (orderLogicHold x0 s).s.sec = s.sec ∧ (orderLogicHold x0 s).s.cmd = s.cmd ∧
    (orderLogicHold x0 s).s.regs = s.regs := by
  have hfite := @State.ite_frame
  simp [↓hfite, orderLogicHold]

theorem orderLogicResume_frame (x0 : CmdReq) (s : State) :
    (orderLogicResume x0 s).s.now = s.now ∧ (orderLogicResume x0 s).s.pending = s.pending ∧
    (orderLogicResume x0 s).s.regs0 = s.regs0 ∧ (orderLogicResume x0 s).s.freeCtr = s.freeCtr ∧
    (orderLogicResume x0 s).s.mode = s.mode ∧ (orderLogicResume x0 s).s.mram = s.mram ∧
    (orderLogicResume x0 s).s.sys = s.sys ∧ (orderLogicResume x0 s).s.evt = s.evt ∧
    (orderLogicResume x0 s).s.ana = s.ana ∧ (orderLogicResume x0 s).s.aux = s.aux ∧
    (orderLogicResume x0 s).s.flt = s.flt ∧ (orderLogicResume x0 s).s.tim = s.tim ∧
    (orderLogicResume x0 s).s.net = s.net ∧ (orderLogicResume x0 s).s.prt = s.prt ∧
    (orderLogicResume x0 s).s.trp = s.trp ∧ (orderLogicResume x0 s).s.pod = s.pod ∧
    (orderLogicResume x0 s).s.gsv = s.gsv ∧ (orderLogicResume x0 s).s.tph = s.tph ∧
    (orderLogicResume x0 s).s.oz = s.oz ∧ (orderLogicResume x0 s).s.sec = s.sec ∧
    (orderLogicResume x0 s).s.cmd = s.cmd := by
  have hfite := @State.ite_frame
  have hf1 := @State.leaveHold_frame
  simp [↓hfite, ↓hf1, orderLogicResume]

theorem orderLogicStep_frame (x0 : CmdReq) (s : State) :
    (orderLogicStep x0 s).s.now = s.now ∧ (orderLogicStep x0 s).s.pending = s.pending ∧
    (orderLogicStep x0 s).s.regs0 = s.regs0 ∧ (orderLogicStep x0 s).s.freeCtr = s.freeCtr ∧
    (orderLogicStep x0 s).s.mode = s.mode ∧ (orderLogicStep x0 s).s.mram = s.mram ∧
    (orderLogicStep x0 s).s.sys = s.sys ∧ (orderLogicStep x0 s).s.evt = s.evt ∧ (orderLogicStep x0 s).s.ana = s.ana ∧
    (orderLogicStep x0 s).s.aux = s.aux ∧ (orderLogicStep x0 s).s.flt = s.flt ∧ (orderLogicStep x0 s).s.tim = s.tim ∧
    (orderLogicStep x0 s).s.net = s.net ∧ (orderLogicStep x0 s).s.prt = s.prt ∧ (orderLogicStep x0 s).s.trp = s.trp ∧
    (orderLogicStep x0 s).s.pod = s.pod ∧ (orderLogicStep x0 s).s.gsv = s.gsv ∧ (orderLogicStep x0 s).s.tph = s.tph ∧
    (orderLogicStep x0 s).s.oz = s.oz ∧ (orderLogicStep x0 s).s.sec = s.sec ∧ (orderLogicStep x0 s).s.cmd = s.cmd := by
  have hfite := @State.ite_frame
  have hf1 := @State.execNext_frame
  simp [↓hfite, ↓hf1, orderLogicStep]

theorem orderLogicSplit_frame (x0 : CmdReq) (s : State) :
    (orderLogicSplit x0 s).s.now = s.now ∧ (orderLogicSplit x0 s).s.pending = s.pending ∧
    (orderLogicSplit x0 s).s.regs0 = s.regs0 ∧ (orderLogicSplit x0 s).s.freeCtr = s.freeCtr ∧
    (orderLogicSplit x0 s).s.mode = s.mode ∧ (orderLogicSplit x0 s).s.mram = s.mram ∧
    (orderLogicSplit x0 s).s.sys = s.sys ∧ (orderLogicSplit x0 s).s.evt = s.evt ∧
    (orderLogicSplit x0 s).s.ana = s.ana ∧ (orderLogicSplit x0 s).s.aux = s.aux ∧
    (orderLogicSplit x0 s).s.flt = s.flt ∧ (orderLogicSplit x0 s).s.tim = s.tim ∧
    (orderLogicSplit x0 s).s.net = s.net ∧ (orderLogicSplit x0 s).s.prt = s.prt ∧
    (orderLogicSplit x0 s).s.trp = s.trp ∧ (orderLogicSplit x0 s).s.pod = s.pod ∧
    (orderLogicSplit x0 s).s.lgc = s.lgc ∧ (orderLogicSplit x0 s).s.gsv = s.gsv ∧
    (orderLogicSplit x0 s).s.tph = s.tph ∧ (orderLogicSplit x0 s).s.oz = s.oz ∧
    (orderLogicSplit x0 s).s.sec = s.sec ∧ (orderLogicSplit x0 s).s.cmd = s.cmd := by
  have hfite := @State.ite_frame
  have hf1 := @State.setFlag_frame
  simp [↓hfite, ↓hf1, orderLogicSplit]

theorem orderLogicJoin_frame (x0 : CmdReq) (s : State) :
    (orderLogicJoin x0 s).s.now = s.now ∧ (orderLogicJoin x0 s).s.pending = s.pending ∧
    (orderLogicJoin x0 s).s.regs0 = s.regs0 ∧ (orderLogicJoin x0 s).s.freeCtr = s.freeCtr ∧
    (orderLogicJoin x0 s).s.mode = s.mode ∧ (orderLogicJoin x0 s).s.mram.keyCnt = s.mram.keyCnt ∧
    (orderLogicJoin x0 s).s.mram.boot = s.mram.boot ∧ (orderLogicJoin x0 s).s.sys = s.sys ∧
    (orderLogicJoin x0 s).s.ana = s.ana ∧ (orderLogicJoin x0 s).s.aux = s.aux ∧ (orderLogicJoin x0 s).s.flt = s.flt ∧
    (orderLogicJoin x0 s).s.tim = s.tim ∧ (orderLogicJoin x0 s).s.net = s.net ∧ (orderLogicJoin x0 s).s.prt = s.prt ∧
    (orderLogicJoin x0 s).s.trp = s.trp ∧ (orderLogicJoin x0 s).s.pod = s.pod ∧ (orderLogicJoin x0 s).s.gsv = s.gsv ∧
    (orderLogicJoin x0 s).s.tph = s.tph ∧ (orderLogicJoin x0 s).s.oz = s.oz ∧ (orderLogicJoin x0 s).s.sec = s.sec ∧
    (orderLogicJoin x0 s).s.cmd = s.cmd := by
  have hfite := @State.ite_frame
  have hf1 := @State.takeJoin_frame
  have hf2 := @State.setFlag_frame
  simp [↓hfite, ↓hf1, ↓hf2, orderLogicJoin]

theorem orderLogicExchange_frame (q : CmdReq) (s : State) :
    (orderLogicExchange q s).s.now = s.now ∧ (orderLogicExchange q s).s.pending = s.pending ∧
    (orderLogicExchange q s).s.regs0 = s.regs0 ∧ (orderLogicExchange q s).s.freeCtr = s.freeCtr ∧
    (orderLogicExchange q s).s.mode = s.mode ∧ (orderLogicExchange q s).s.mram = s.mram ∧
    (orderLogicExchange q s).s.sys = s.sys ∧ (orderLogicExchange q s).s.evt = s.evt ∧
    (orderLogicExchange q s).s.ana = s.ana ∧ (orderLogicExchange q s).s.aux = s.aux ∧
    (orderLogicExchange q s).s.flt = s.flt ∧ (orderLogicExchange q s).s.tim = s.tim ∧
    (orderLogicExchange q s).s.net = s.net ∧ (orderLogicExchange q s).s.prt = s.prt ∧
    (orderLogicExchange q s).s.trp = s.trp ∧ (orderLogicExchange q s).s.pod = s.pod ∧
    (orderLogicExchange q s).s.gsv = s.gsv ∧ (orderLogicExchange q s).s.tph = s.tph ∧
    (orderLogicExchange q s).s.oz = s.oz ∧ (orderLogicExchange q s).s.sec = s.sec ∧
    (orderLogicExchange q s).s.cmd = s.cmd := by
  have hfite := @State.ite_frame
  have hf1 := @State.setF_frame
  simp [↓hfite, ↓hf1, orderLogicExchange]

theorem orderTimeSet_frame (q : CmdReq) (s : State) :
    (orderTimeSet q s).s.now = s.now ∧ (orderTimeSet q s).s.pending = s.pending ∧
    (orderTimeSet q s).s.regs0 = s.regs0 ∧ (orderTimeSet q s).s.freeCtr = s.freeCtr ∧
    (orderTimeSet q s).s.mode = s.mode ∧ (orderTimeSet q s).s.mram.keyCnt = s.mram.keyCnt ∧
    (orderTimeSet q s).s.mram.boot = s.mram.boot ∧ (orderTimeSet q s).s.sys = s.sys ∧
    (orderTimeSet q s).s.ana = s.ana ∧ (orderTimeSet q s).s.aux = s.aux ∧ (orderTimeSet q s).s.flt = s.flt ∧
    (orderTimeSet q s).s.net = s.net ∧ (orderTimeSet q s).s.prt = s.prt ∧ (orderTimeSet q s).s.trp = s.trp ∧
    (orderTimeSet q s).s.pod = s.pod ∧ (orderTimeSet q s).s.lgc = s.lgc ∧ (orderTimeSet q s).s.gsv = s.gsv ∧
    (orderTimeSet q s).s.tph = s.tph ∧ (orderTimeSet q s).s.oz = s.oz ∧ (orderTimeSet q s).s.sec = s.sec ∧
    (orderTimeSet q s).s.cmd = s.cmd := by
  have hfite := @State.ite_frame
  have hf1 := @State.setTb_frame
  have hf2 := @State.applyStep_frame
  simp [↓hfite, ↓hf1, ↓hf2, orderTimeSet]

theorem orderTimeAcceptStep_frame (q : CmdReq) (s : State) :
    (orderTimeAcceptStep q s).s.now = s.now ∧ (orderTimeAcceptStep q s).s.pending = s.pending ∧
    (orderTimeAcceptStep q s).s.regs0 = s.regs0 ∧ (orderTimeAcceptStep q s).s.freeCtr = s.freeCtr ∧
    (orderTimeAcceptStep q s).s.mode = s.mode ∧ (orderTimeAcceptStep q s).s.mram.keyCnt = s.mram.keyCnt ∧
    (orderTimeAcceptStep q s).s.mram.boot = s.mram.boot ∧ (orderTimeAcceptStep q s).s.sys = s.sys ∧
    (orderTimeAcceptStep q s).s.ana = s.ana ∧ (orderTimeAcceptStep q s).s.aux = s.aux ∧
    (orderTimeAcceptStep q s).s.flt = s.flt ∧ (orderTimeAcceptStep q s).s.net = s.net ∧
    (orderTimeAcceptStep q s).s.prt = s.prt ∧ (orderTimeAcceptStep q s).s.trp = s.trp ∧
    (orderTimeAcceptStep q s).s.pod = s.pod ∧ (orderTimeAcceptStep q s).s.lgc = s.lgc ∧
    (orderTimeAcceptStep q s).s.gsv = s.gsv ∧ (orderTimeAcceptStep q s).s.tph = s.tph ∧
    (orderTimeAcceptStep q s).s.oz = s.oz ∧ (orderTimeAcceptStep q s).s.sec = s.sec ∧
    (orderTimeAcceptStep q s).s.cmd = s.cmd := by
  have hfite := @State.ite_frame
  have hf1 := @State.setTb_frame
  have hf2 := @State.takeStep_frame
  simp [↓hfite, ↓hf1, ↓hf2, orderTimeAcceptStep]

theorem orderKeyInit_frame (q : CmdReq) (s : State) :
    (orderKeyInit q s).s.now = s.now ∧ (orderKeyInit q s).s.pending = s.pending ∧
    (orderKeyInit q s).s.regs0 = s.regs0 ∧ (orderKeyInit q s).s.freeCtr = s.freeCtr ∧
    (orderKeyInit q s).s.mode = s.mode ∧ (orderKeyInit q s).s.mram.keyCnt = s.mram.keyCnt ∧
    (orderKeyInit q s).s.mram.boot = s.mram.boot ∧ (orderKeyInit q s).s.sys = s.sys ∧
    (orderKeyInit q s).s.ana = s.ana ∧ (orderKeyInit q s).s.aux = s.aux ∧ (orderKeyInit q s).s.flt = s.flt ∧
    (orderKeyInit q s).s.tim = s.tim ∧ (orderKeyInit q s).s.net = s.net ∧ (orderKeyInit q s).s.prt = s.prt ∧
    (orderKeyInit q s).s.trp = s.trp ∧ (orderKeyInit q s).s.pod = s.pod ∧ (orderKeyInit q s).s.lgc = s.lgc ∧
    (orderKeyInit q s).s.gsv = s.gsv ∧ (orderKeyInit q s).s.tph = s.tph ∧ (orderKeyInit q s).s.oz = s.oz ∧
    (orderKeyInit q s).s.sec.otp = s.sec.otp ∧ (orderKeyInit q s).s.cmd = s.cmd := by
  have hfite := @State.ite_frame
  have hf1 := @State.setKey_frame
  simp [↓hfite, ↓hf1, orderKeyInit]

theorem orderKeyRotate_frame (nonce : ℕ) (q : CmdReq) (s : State) :
    (orderKeyRotate nonce q s).s.now = s.now ∧ (orderKeyRotate nonce q s).s.pending = s.pending ∧
    (orderKeyRotate nonce q s).s.regs0 = s.regs0 ∧ (orderKeyRotate nonce q s).s.freeCtr = s.freeCtr ∧
    (orderKeyRotate nonce q s).s.mode = s.mode ∧ (orderKeyRotate nonce q s).s.mram.keyCnt = s.mram.keyCnt ∧
    (orderKeyRotate nonce q s).s.mram.boot = s.mram.boot ∧ (orderKeyRotate nonce q s).s.sys = s.sys ∧
    (orderKeyRotate nonce q s).s.ana = s.ana ∧ (orderKeyRotate nonce q s).s.aux = s.aux ∧
    (orderKeyRotate nonce q s).s.flt = s.flt ∧ (orderKeyRotate nonce q s).s.tim = s.tim ∧
    (orderKeyRotate nonce q s).s.net = s.net ∧ (orderKeyRotate nonce q s).s.prt = s.prt ∧
    (orderKeyRotate nonce q s).s.trp = s.trp ∧ (orderKeyRotate nonce q s).s.pod = s.pod ∧
    (orderKeyRotate nonce q s).s.lgc = s.lgc ∧ (orderKeyRotate nonce q s).s.gsv = s.gsv ∧
    (orderKeyRotate nonce q s).s.tph = s.tph ∧ (orderKeyRotate nonce q s).s.oz = s.oz ∧
    (orderKeyRotate nonce q s).s.sec.otp = s.sec.otp ∧ (orderKeyRotate nonce q s).s.cmd = s.cmd := by
  have hfite := @State.ite_frame
  have hf1 := @State.setKey_frame
  unfold orderKeyRotate
  (repeat' split) <;> simp [↓hfite, ↓hf1]

theorem orderKeyRetire_frame (q : CmdReq) (s : State) :
    (orderKeyRetire q s).s.now = s.now ∧ (orderKeyRetire q s).s.pending = s.pending ∧
    (orderKeyRetire q s).s.regs0 = s.regs0 ∧ (orderKeyRetire q s).s.freeCtr = s.freeCtr ∧
    (orderKeyRetire q s).s.mode = s.mode ∧ (orderKeyRetire q s).s.mram.keyCnt = s.mram.keyCnt ∧
    (orderKeyRetire q s).s.mram.boot = s.mram.boot ∧ (orderKeyRetire q s).s.sys = s.sys ∧
    (orderKeyRetire q s).s.ana = s.ana ∧ (orderKeyRetire q s).s.aux = s.aux ∧ (orderKeyRetire q s).s.flt = s.flt ∧
    (orderKeyRetire q s).s.tim = s.tim ∧ (orderKeyRetire q s).s.net = s.net ∧ (orderKeyRetire q s).s.prt = s.prt ∧
    (orderKeyRetire q s).s.trp = s.trp ∧ (orderKeyRetire q s).s.pod = s.pod ∧ (orderKeyRetire q s).s.lgc = s.lgc ∧
    (orderKeyRetire q s).s.gsv = s.gsv ∧ (orderKeyRetire q s).s.tph = s.tph ∧ (orderKeyRetire q s).s.oz = s.oz ∧
    (orderKeyRetire q s).s.sec.otp = s.sec.otp ∧ (orderKeyRetire q s).s.cmd = s.cmd := by
  have hfite := @State.ite_frame
  have hf1 := @State.setKey_frame
  simp [↓hfite, ↓hf1, orderKeyRetire]

theorem orderWorldSet_frame (q : CmdReq) (s : State) :
    (orderWorldSet q s).s.now = s.now ∧ (orderWorldSet q s).s.pending = s.pending ∧
    (orderWorldSet q s).s.regs0 = s.regs0 ∧ (orderWorldSet q s).s.freeCtr = s.freeCtr ∧
    (orderWorldSet q s).s.mode = s.mode ∧ (orderWorldSet q s).s.mram.keyCnt = s.mram.keyCnt ∧
    (orderWorldSet q s).s.mram.boot = s.mram.boot ∧ (orderWorldSet q s).s.sys = s.sys ∧
    (orderWorldSet q s).s.ana = s.ana ∧ (orderWorldSet q s).s.aux = s.aux ∧ (orderWorldSet q s).s.flt = s.flt ∧
    (orderWorldSet q s).s.tim = s.tim ∧ (orderWorldSet q s).s.net = s.net ∧ (orderWorldSet q s).s.prt = s.prt ∧
    (orderWorldSet q s).s.trp = s.trp ∧ (orderWorldSet q s).s.pod = s.pod ∧ (orderWorldSet q s).s.lgc = s.lgc ∧
    (orderWorldSet q s).s.gsv = s.gsv ∧ (orderWorldSet q s).s.tph = s.tph ∧ (orderWorldSet q s).s.oz = s.oz ∧
    (orderWorldSet q s).s.sec = s.sec ∧ (orderWorldSet q s).s.cmd = s.cmd := by
  have hfite := @State.ite_frame
  have hf1 := @State.raise_frame
  have hf2 := @State.setFlag_frame
  have hf3 := @State.setF_frame
  simp [↓hfite, ↓hf1, ↓hf2, ↓hf3, orderWorldSet]

theorem State.startRun_frame (s : State) (q : CmdReq) (c : ClassC) :
    (State.startRun s q c).s.now = s.now ∧ (State.startRun s q c).s.pending = s.pending ∧
    (State.startRun s q c).s.regs0 = s.regs0 ∧ (State.startRun s q c).s.freeCtr = s.freeCtr ∧
    (State.startRun s q c).s.mode = s.mode ∧ (State.startRun s q c).s.mram = s.mram ∧
    (State.startRun s q c).s.sys = s.sys ∧ (State.startRun s q c).s.evt = s.evt ∧
    (State.startRun s q c).s.ana = s.ana ∧ (State.startRun s q c).s.aux = s.aux ∧
    (State.startRun s q c).s.flt = s.flt ∧ (State.startRun s q c).s.tim = s.tim ∧
    (State.startRun s q c).s.net = s.net ∧ (State.startRun s q c).s.prt = s.prt ∧
    (State.startRun s q c).s.trp = s.trp ∧ (State.startRun s q c).s.pod = s.pod ∧
    (State.startRun s q c).s.lgc = s.lgc ∧ (State.startRun s q c).s.gsv = s.gsv ∧
    (State.startRun s q c).s.tph = s.tph ∧ (State.startRun s q c).s.oz = s.oz ∧
    (State.startRun s q c).s.sec = s.sec ∧ (State.startRun s q c).s.cmd.svc = s.cmd.svc ∧
    (State.startRun s q c).s.regs = s.regs := by
  simp [State.startRun]

theorem orderOtpProgram_frame (q : CmdReq) (s : State) :
    (orderOtpProgram q s).s.now = s.now ∧ (orderOtpProgram q s).s.pending = s.pending ∧
    (orderOtpProgram q s).s.regs0 = s.regs0 ∧ (orderOtpProgram q s).s.freeCtr = s.freeCtr ∧
    (orderOtpProgram q s).s.mode = s.mode ∧ (orderOtpProgram q s).s.mram = s.mram ∧
    (orderOtpProgram q s).s.sys = s.sys ∧ (orderOtpProgram q s).s.evt = s.evt ∧ (orderOtpProgram q s).s.ana = s.ana ∧
    (orderOtpProgram q s).s.aux = s.aux ∧ (orderOtpProgram q s).s.flt = s.flt ∧ (orderOtpProgram q s).s.tim = s.tim ∧
    (orderOtpProgram q s).s.net = s.net ∧ (orderOtpProgram q s).s.prt = s.prt ∧ (orderOtpProgram q s).s.trp = s.trp ∧
    (orderOtpProgram q s).s.pod = s.pod ∧ (orderOtpProgram q s).s.lgc = s.lgc ∧ (orderOtpProgram q s).s.gsv = s.gsv ∧
    (orderOtpProgram q s).s.tph = s.tph ∧ (orderOtpProgram q s).s.oz = s.oz ∧ (orderOtpProgram q s).s.sec = s.sec ∧
    (orderOtpProgram q s).s.cmd.svc = s.cmd.svc ∧ (orderOtpProgram q s).s.regs = s.regs := by
  have hfite := @State.ite_frame
  have hf1 := @State.startRun_frame
  simp [↓hfite, ↓hf1, orderOtpProgram]

theorem orderOtpRevoke_frame (q : CmdReq) (s : State) :
    (orderOtpRevoke q s).s.now = s.now ∧ (orderOtpRevoke q s).s.pending = s.pending ∧
    (orderOtpRevoke q s).s.regs0 = s.regs0 ∧ (orderOtpRevoke q s).s.freeCtr = s.freeCtr ∧
    (orderOtpRevoke q s).s.mode = s.mode ∧ (orderOtpRevoke q s).s.mram = s.mram ∧
    (orderOtpRevoke q s).s.sys = s.sys ∧ (orderOtpRevoke q s).s.evt = s.evt ∧ (orderOtpRevoke q s).s.ana = s.ana ∧
    (orderOtpRevoke q s).s.aux = s.aux ∧ (orderOtpRevoke q s).s.flt = s.flt ∧ (orderOtpRevoke q s).s.tim = s.tim ∧
    (orderOtpRevoke q s).s.net = s.net ∧ (orderOtpRevoke q s).s.prt = s.prt ∧ (orderOtpRevoke q s).s.trp = s.trp ∧
    (orderOtpRevoke q s).s.pod = s.pod ∧ (orderOtpRevoke q s).s.lgc = s.lgc ∧ (orderOtpRevoke q s).s.gsv = s.gsv ∧
    (orderOtpRevoke q s).s.tph = s.tph ∧ (orderOtpRevoke q s).s.oz = s.oz ∧ (orderOtpRevoke q s).s.sec = s.sec ∧
    (orderOtpRevoke q s).s.cmd.svc = s.cmd.svc ∧ (orderOtpRevoke q s).s.regs = s.regs := by
  have hfite := @State.ite_frame
  have hf1 := @State.startRun_frame
  simp [↓hfite, ↓hf1, orderOtpRevoke]

theorem State.setOtp_frame (s : State) (h : ℕ) (o : OtpSlot) :
    (State.setOtp s h o).now = s.now ∧ (State.setOtp s h o).pending = s.pending ∧
    (State.setOtp s h o).regs0 = s.regs0 ∧ (State.setOtp s h o).freeCtr = s.freeCtr ∧
    (State.setOtp s h o).mode = s.mode ∧ (State.setOtp s h o).mram.keyCnt = s.mram.keyCnt ∧
    (State.setOtp s h o).mram.boot = s.mram.boot ∧ (State.setOtp s h o).sys = s.sys ∧
    (State.setOtp s h o).ana = s.ana ∧ (State.setOtp s h o).aux = s.aux ∧ (State.setOtp s h o).flt = s.flt ∧
    (State.setOtp s h o).tim = s.tim ∧ (State.setOtp s h o).net = s.net ∧ (State.setOtp s h o).prt = s.prt ∧
    (State.setOtp s h o).trp = s.trp ∧ (State.setOtp s h o).pod = s.pod ∧ (State.setOtp s h o).lgc = s.lgc ∧
    (State.setOtp s h o).gsv = s.gsv ∧ (State.setOtp s h o).tph = s.tph ∧ (State.setOtp s h o).oz = s.oz ∧
    (State.setOtp s h o).sec.keys = s.sec.keys ∧ (State.setOtp s h o).cmd = s.cmd := by
  have hf1 := @State.raise_frame
  simp [↓hf1, State.setOtp]

theorem State.endRun_frame (s : State) :
    (State.endRun s).now = s.now ∧ (State.endRun s).pending = s.pending ∧ (State.endRun s).regs0 = s.regs0 ∧
    (State.endRun s).freeCtr = s.freeCtr ∧ (State.endRun s).mode = s.mode ∧ (State.endRun s).mram = s.mram ∧
    (State.endRun s).sys = s.sys ∧ (State.endRun s).evt = s.evt ∧ (State.endRun s).ana = s.ana ∧
    (State.endRun s).aux = s.aux ∧ (State.endRun s).flt = s.flt ∧ (State.endRun s).tim = s.tim ∧
    (State.endRun s).net = s.net ∧ (State.endRun s).prt = s.prt ∧ (State.endRun s).trp = s.trp ∧
    (State.endRun s).pod = s.pod ∧ (State.endRun s).lgc = s.lgc ∧ (State.endRun s).gsv = s.gsv ∧
    (State.endRun s).tph = s.tph ∧ (State.endRun s).oz = s.oz ∧ (State.endRun s).sec = s.sec ∧
    (State.endRun s).cmd.svc = s.cmd.svc ∧ (State.endRun s).regs = s.regs := by
  simp [State.endRun]

theorem otpOperationDoneEff_frame (ok : Bool) (s : State) :
    (otpOperationDoneEff ok s).now = s.now ∧ (otpOperationDoneEff ok s).pending = s.pending ∧
    (otpOperationDoneEff ok s).regs0 = s.regs0 ∧ (otpOperationDoneEff ok s).freeCtr = s.freeCtr ∧
    (otpOperationDoneEff ok s).mode = s.mode ∧ (otpOperationDoneEff ok s).mram.keyCnt = s.mram.keyCnt ∧
    (otpOperationDoneEff ok s).mram.boot = s.mram.boot ∧ (otpOperationDoneEff ok s).sys = s.sys ∧
    (otpOperationDoneEff ok s).ana = s.ana ∧ (otpOperationDoneEff ok s).aux = s.aux ∧
    (otpOperationDoneEff ok s).flt = s.flt ∧ (otpOperationDoneEff ok s).tim = s.tim ∧
    (otpOperationDoneEff ok s).net = s.net ∧ (otpOperationDoneEff ok s).prt = s.prt ∧
    (otpOperationDoneEff ok s).trp = s.trp ∧ (otpOperationDoneEff ok s).pod = s.pod ∧
    (otpOperationDoneEff ok s).lgc = s.lgc ∧ (otpOperationDoneEff ok s).gsv = s.gsv ∧
    (otpOperationDoneEff ok s).tph = s.tph ∧ (otpOperationDoneEff ok s).oz = s.oz ∧
    (otpOperationDoneEff ok s).sec.keys = s.sec.keys ∧ (otpOperationDoneEff ok s).cmd.svc = s.cmd.svc := by
  have hf1 := @State.complete_frame
  have hf2 := @State.setOtp_frame
  have hf3 := @State.setFlag_frame
  have hf4 := @State.endRun_frame
  unfold otpOperationDoneEff
  (repeat' split) <;> simp [↓hf1, ↓hf2, ↓hf3, ↓hf4]

theorem orderFlashRead_frame (data : List ℕ) (q : CmdReq) (s : State) :
    (orderFlashRead data q s).s.now = s.now ∧ (orderFlashRead data q s).s.pending = s.pending ∧
    (orderFlashRead data q s).s.regs0 = s.regs0 ∧ (orderFlashRead data q s).s.freeCtr = s.freeCtr ∧
    (orderFlashRead data q s).s.mode = s.mode ∧ (orderFlashRead data q s).s.mram = s.mram ∧
    (orderFlashRead data q s).s.sys = s.sys ∧ (orderFlashRead data q s).s.evt = s.evt ∧
    (orderFlashRead data q s).s.ana = s.ana ∧ (orderFlashRead data q s).s.aux = s.aux ∧
    (orderFlashRead data q s).s.flt = s.flt ∧ (orderFlashRead data q s).s.tim = s.tim ∧
    (orderFlashRead data q s).s.net = s.net ∧ (orderFlashRead data q s).s.prt = s.prt ∧
    (orderFlashRead data q s).s.trp = s.trp ∧ (orderFlashRead data q s).s.pod = s.pod ∧
    (orderFlashRead data q s).s.lgc = s.lgc ∧ (orderFlashRead data q s).s.gsv = s.gsv ∧
    (orderFlashRead data q s).s.tph = s.tph ∧ (orderFlashRead data q s).s.oz = s.oz ∧
    (orderFlashRead data q s).s.sec = s.sec ∧ (orderFlashRead data q s).s.cmd = s.cmd ∧
    (orderFlashRead data q s).s.regs = s.regs := by
  simp [orderFlashRead]

theorem orderFlashErase_frame (q : CmdReq) (s : State) :
    (orderFlashErase q s).s.now = s.now ∧ (orderFlashErase q s).s.pending = s.pending ∧
    (orderFlashErase q s).s.regs0 = s.regs0 ∧ (orderFlashErase q s).s.freeCtr = s.freeCtr ∧
    (orderFlashErase q s).s.mode = s.mode ∧ (orderFlashErase q s).s.mram = s.mram ∧
    (orderFlashErase q s).s.sys = s.sys ∧ (orderFlashErase q s).s.evt = s.evt ∧ (orderFlashErase q s).s.ana = s.ana ∧
    (orderFlashErase q s).s.aux = s.aux ∧ (orderFlashErase q s).s.flt = s.flt ∧ (orderFlashErase q s).s.tim = s.tim ∧
    (orderFlashErase q s).s.net = s.net ∧ (orderFlashErase q s).s.prt = s.prt ∧ (orderFlashErase q s).s.trp = s.trp ∧
    (orderFlashErase q s).s.pod = s.pod ∧ (orderFlashErase q s).s.lgc = s.lgc ∧ (orderFlashErase q s).s.gsv = s.gsv ∧
    (orderFlashErase q s).s.tph = s.tph ∧ (orderFlashErase q s).s.oz = s.oz ∧ (orderFlashErase q s).s.sec = s.sec ∧
    (orderFlashErase q s).s.cmd.svc = s.cmd.svc ∧ (orderFlashErase q s).s.regs = s.regs := by
  have hfite := @State.ite_frame
  have hf1 := @State.startRun_frame
  simp [↓hfite, ↓hf1, orderFlashErase]
  (repeat' split) <;> simp [↓hfite, ↓hf1]

theorem orderFlashProgram_frame (q : CmdReq) (s : State) :
    (orderFlashProgram q s).s.now = s.now ∧ (orderFlashProgram q s).s.pending = s.pending ∧
    (orderFlashProgram q s).s.regs0 = s.regs0 ∧ (orderFlashProgram q s).s.freeCtr = s.freeCtr ∧
    (orderFlashProgram q s).s.mode = s.mode ∧ (orderFlashProgram q s).s.mram = s.mram ∧
    (orderFlashProgram q s).s.sys = s.sys ∧ (orderFlashProgram q s).s.evt = s.evt ∧
    (orderFlashProgram q s).s.ana = s.ana ∧ (orderFlashProgram q s).s.aux = s.aux ∧
    (orderFlashProgram q s).s.flt = s.flt ∧ (orderFlashProgram q s).s.tim = s.tim ∧
    (orderFlashProgram q s).s.net = s.net ∧ (orderFlashProgram q s).s.prt = s.prt ∧
    (orderFlashProgram q s).s.trp = s.trp ∧ (orderFlashProgram q s).s.pod = s.pod ∧
    (orderFlashProgram q s).s.lgc = s.lgc ∧ (orderFlashProgram q s).s.gsv = s.gsv ∧
    (orderFlashProgram q s).s.tph = s.tph ∧ (orderFlashProgram q s).s.oz = s.oz ∧
    (orderFlashProgram q s).s.sec = s.sec ∧ (orderFlashProgram q s).s.cmd.svc = s.cmd.svc ∧
    (orderFlashProgram q s).s.regs = s.regs := by
  have hfite := @State.ite_frame
  have hf1 := @State.startRun_frame
  simp [↓hfite, ↓hf1, orderFlashProgram]
  (repeat' split) <;> simp [↓hfite, ↓hf1]

theorem orderFlashSlot_frame (q : CmdReq) (s : State) :
    (orderFlashSlot q s).s.now = s.now ∧ (orderFlashSlot q s).s.pending = s.pending ∧
    (orderFlashSlot q s).s.regs0 = s.regs0 ∧ (orderFlashSlot q s).s.freeCtr = s.freeCtr ∧
    (orderFlashSlot q s).s.mode = s.mode ∧ (orderFlashSlot q s).s.mram = s.mram ∧
    (orderFlashSlot q s).s.sys = s.sys ∧ (orderFlashSlot q s).s.evt = s.evt ∧ (orderFlashSlot q s).s.ana = s.ana ∧
    (orderFlashSlot q s).s.aux = s.aux ∧ (orderFlashSlot q s).s.flt = s.flt ∧ (orderFlashSlot q s).s.tim = s.tim ∧
    (orderFlashSlot q s).s.net = s.net ∧ (orderFlashSlot q s).s.prt = s.prt ∧ (orderFlashSlot q s).s.trp = s.trp ∧
    (orderFlashSlot q s).s.pod = s.pod ∧ (orderFlashSlot q s).s.lgc = s.lgc ∧ (orderFlashSlot q s).s.gsv = s.gsv ∧
    (orderFlashSlot q s).s.tph = s.tph ∧ (orderFlashSlot q s).s.oz = s.oz ∧ (orderFlashSlot q s).s.sec = s.sec ∧
    (orderFlashSlot q s).s.cmd.svc = s.cmd.svc ∧ (orderFlashSlot q s).s.regs = s.regs := by
  have hfite := @State.ite_frame
  have hf1 := @State.startRun_frame
  simp [↓hfite, ↓hf1, orderFlashSlot]

theorem flashOperationDoneEff_frame (h : ImgHdr) (sigOk : Bool) (s : State) :
    (flashOperationDoneEff h sigOk s).now = s.now ∧ (flashOperationDoneEff h sigOk s).pending = s.pending ∧
    (flashOperationDoneEff h sigOk s).regs0 = s.regs0 ∧ (flashOperationDoneEff h sigOk s).freeCtr = s.freeCtr ∧
    (flashOperationDoneEff h sigOk s).mode = s.mode ∧ (flashOperationDoneEff h sigOk s).mram.keyCnt = s.mram.keyCnt ∧
    (flashOperationDoneEff h sigOk s).sys = s.sys ∧ (flashOperationDoneEff h sigOk s).ana = s.ana ∧
    (flashOperationDoneEff h sigOk s).aux = s.aux ∧ (flashOperationDoneEff h sigOk s).flt = s.flt ∧
    (flashOperationDoneEff h sigOk s).tim = s.tim ∧ (flashOperationDoneEff h sigOk s).net = s.net ∧
    (flashOperationDoneEff h sigOk s).prt = s.prt ∧ (flashOperationDoneEff h sigOk s).trp = s.trp ∧
    (flashOperationDoneEff h sigOk s).pod = s.pod ∧ (flashOperationDoneEff h sigOk s).lgc = s.lgc ∧
    (flashOperationDoneEff h sigOk s).gsv = s.gsv ∧ (flashOperationDoneEff h sigOk s).tph = s.tph ∧
    (flashOperationDoneEff h sigOk s).oz = s.oz ∧ (flashOperationDoneEff h sigOk s).sec = s.sec ∧
    (flashOperationDoneEff h sigOk s).cmd.svc = s.cmd.svc := by
  have hf1 := @State.complete_frame
  have hf2 := @State.endRun_frame
  have hf3 := @State.bootUpd_frame
  unfold flashOperationDoneEff
  (repeat' split) <;> simp [↓hf1, ↓hf2, ↓hf3]

theorem orderEvtRead_frame (q : CmdReq) (s : State) :
    (orderEvtRead q s).s.now = s.now ∧ (orderEvtRead q s).s.pending = s.pending ∧
    (orderEvtRead q s).s.regs0 = s.regs0 ∧ (orderEvtRead q s).s.freeCtr = s.freeCtr ∧
    (orderEvtRead q s).s.mode = s.mode ∧ (orderEvtRead q s).s.mram.keyCnt = s.mram.keyCnt ∧
    (orderEvtRead q s).s.mram.boot = s.mram.boot ∧ (orderEvtRead q s).s.sys = s.sys ∧
    (orderEvtRead q s).s.ana = s.ana ∧ (orderEvtRead q s).s.aux = s.aux ∧ (orderEvtRead q s).s.flt = s.flt ∧
    (orderEvtRead q s).s.tim = s.tim ∧ (orderEvtRead q s).s.net = s.net ∧ (orderEvtRead q s).s.prt = s.prt ∧
    (orderEvtRead q s).s.trp = s.trp ∧ (orderEvtRead q s).s.pod = s.pod ∧ (orderEvtRead q s).s.lgc = s.lgc ∧
    (orderEvtRead q s).s.gsv = s.gsv ∧ (orderEvtRead q s).s.tph = s.tph ∧ (orderEvtRead q s).s.oz = s.oz ∧
    (orderEvtRead q s).s.sec = s.sec ∧ (orderEvtRead q s).s.cmd = s.cmd := by
  have hfite := @State.ite_frame
  have hf1 := @State.worldRefused_frame
  simp [↓hfite, ↓hf1, orderEvtRead]

theorem orderEvtAck_frame (q : CmdReq) (s : State) :
    (orderEvtAck q s).s.now = s.now ∧ (orderEvtAck q s).s.pending = s.pending ∧ (orderEvtAck q s).s.regs0 = s.regs0 ∧
    (orderEvtAck q s).s.freeCtr = s.freeCtr ∧ (orderEvtAck q s).s.mode = s.mode ∧
    (orderEvtAck q s).s.mram.keyCnt = s.mram.keyCnt ∧ (orderEvtAck q s).s.mram.boot = s.mram.boot ∧
    (orderEvtAck q s).s.sys = s.sys ∧ (orderEvtAck q s).s.ana = s.ana ∧ (orderEvtAck q s).s.aux = s.aux ∧
    (orderEvtAck q s).s.flt = s.flt ∧ (orderEvtAck q s).s.tim = s.tim ∧ (orderEvtAck q s).s.net = s.net ∧
    (orderEvtAck q s).s.prt = s.prt ∧ (orderEvtAck q s).s.trp = s.trp ∧ (orderEvtAck q s).s.pod = s.pod ∧
    (orderEvtAck q s).s.lgc = s.lgc ∧ (orderEvtAck q s).s.gsv = s.gsv ∧ (orderEvtAck q s).s.tph = s.tph ∧
    (orderEvtAck q s).s.oz = s.oz ∧ (orderEvtAck q s).s.sec = s.sec ∧ (orderEvtAck q s).s.cmd = s.cmd := by
  have hfite := @State.ite_frame
  have hf1 := @State.worldRefused_frame
  have hf2 := @State.ackEvents_frame
  simp [↓hfite, ↓hf1, ↓hf2, orderEvtAck]

theorem cmdStatusEff_frame (s : State) :
    (cmdStatusEff s).now = s.now ∧ (cmdStatusEff s).pending = s.pending ∧ (cmdStatusEff s).regs0 = s.regs0 ∧
    (cmdStatusEff s).freeCtr = s.freeCtr ∧ (cmdStatusEff s).mode = s.mode ∧
    (cmdStatusEff s).mram.boot = s.mram.boot ∧ (cmdStatusEff s).sys.straps = s.sys.straps ∧
    (cmdStatusEff s).sys.por = s.sys.por ∧ (cmdStatusEff s).sys.mapOn = s.sys.mapOn ∧ (cmdStatusEff s).ana = s.ana ∧
    (cmdStatusEff s).aux = s.aux ∧ (cmdStatusEff s).flt = s.flt ∧ (cmdStatusEff s).tim = s.tim ∧
    (cmdStatusEff s).prt = s.prt ∧ (cmdStatusEff s).trp = s.trp ∧ (cmdStatusEff s).pod = s.pod ∧
    (cmdStatusEff s).lgc = s.lgc ∧ (cmdStatusEff s).gsv = s.gsv ∧ (cmdStatusEff s).tph = s.tph ∧
    (cmdStatusEff s).oz = s.oz ∧ (cmdStatusEff s).sec.otp = s.sec.otp ∧ (cmdStatusEff s).cmd.run = s.cmd.run := by
  have hf1 := @orderStatus_frame
  simp [↓hf1, cmdStatusEff]

theorem cmdRegReadEff_frame (s : State) :
    (cmdRegReadEff s).now = s.now ∧ (cmdRegReadEff s).pending = s.pending ∧ (cmdRegReadEff s).regs0 = s.regs0 ∧
    (cmdRegReadEff s).freeCtr = s.freeCtr ∧ (cmdRegReadEff s).mode = s.mode ∧
    (cmdRegReadEff s).mram.boot = s.mram.boot ∧ (cmdRegReadEff s).sys.straps = s.sys.straps ∧
    (cmdRegReadEff s).sys.por = s.sys.por ∧ (cmdRegReadEff s).sys.mapOn = s.sys.mapOn ∧
    (cmdRegReadEff s).ana = s.ana ∧ (cmdRegReadEff s).flt = s.flt ∧ (cmdRegReadEff s).tim = s.tim ∧
    (cmdRegReadEff s).prt = s.prt ∧ (cmdRegReadEff s).trp = s.trp ∧ (cmdRegReadEff s).pod = s.pod ∧
    (cmdRegReadEff s).lgc = s.lgc ∧ (cmdRegReadEff s).gsv = s.gsv ∧ (cmdRegReadEff s).tph = s.tph ∧
    (cmdRegReadEff s).oz = s.oz ∧ (cmdRegReadEff s).sec.otp = s.sec.otp ∧ (cmdRegReadEff s).cmd.run = s.cmd.run := by
  have hf1 := @orderRegRead_frame
  simp [↓hf1, cmdRegReadEff]

theorem cmdRegWriteEff_frame (s : State) :
    (cmdRegWriteEff s).now = s.now ∧ (cmdRegWriteEff s).pending = s.pending ∧ (cmdRegWriteEff s).regs0 = s.regs0 ∧
    (cmdRegWriteEff s).freeCtr = s.freeCtr ∧ (cmdRegWriteEff s).mode = s.mode ∧
    (cmdRegWriteEff s).mram.boot = s.mram.boot ∧ (cmdRegWriteEff s).sys.straps = s.sys.straps ∧
    (cmdRegWriteEff s).sys.por = s.sys.por ∧ (cmdRegWriteEff s).sys.mapOn = s.sys.mapOn ∧
    (cmdRegWriteEff s).tim = s.tim ∧ (cmdRegWriteEff s).prt = s.prt ∧ (cmdRegWriteEff s).trp = s.trp ∧
    (cmdRegWriteEff s).pod = s.pod ∧ (cmdRegWriteEff s).lgc = s.lgc ∧ (cmdRegWriteEff s).gsv = s.gsv ∧
    (cmdRegWriteEff s).sec.otp = s.sec.otp ∧ (cmdRegWriteEff s).cmd.run = s.cmd.run := by
  have hf1 := @orderRegWrite_frame
  simp [↓hf1, cmdRegWriteEff]

theorem cmdRestartEff_frame (s : State) :
    (cmdRestartEff s).now = s.now ∧ (cmdRestartEff s).pending = s.pending ∧ (cmdRestartEff s).regs0 = s.regs0 ∧
    (cmdRestartEff s).freeCtr = s.freeCtr ∧ (cmdRestartEff s).mode = s.mode ∧
    (cmdRestartEff s).mram.boot = s.mram.boot ∧ (cmdRestartEff s).sys.straps = s.sys.straps ∧
    (cmdRestartEff s).sys.por = s.sys.por ∧ (cmdRestartEff s).sys.mapOn = s.sys.mapOn ∧
    (cmdRestartEff s).ana = s.ana ∧ (cmdRestartEff s).aux = s.aux ∧ (cmdRestartEff s).flt = s.flt ∧
    (cmdRestartEff s).tim = s.tim ∧ (cmdRestartEff s).prt = s.prt ∧ (cmdRestartEff s).trp = s.trp ∧
    (cmdRestartEff s).pod = s.pod ∧ (cmdRestartEff s).lgc = s.lgc ∧ (cmdRestartEff s).gsv = s.gsv ∧
    (cmdRestartEff s).tph = s.tph ∧ (cmdRestartEff s).oz = s.oz ∧ (cmdRestartEff s).sec.otp = s.sec.otp ∧
    (cmdRestartEff s).cmd.run = s.cmd.run := by
  have hf1 := @orderRestart_frame
  simp [↓hf1, cmdRestartEff]

theorem cmdSafeEff_frame (s : State) :
    (cmdSafeEff s).now = s.now ∧ (cmdSafeEff s).pending = s.pending ∧ (cmdSafeEff s).regs0 = s.regs0 ∧
    (cmdSafeEff s).sys.straps = s.sys.straps ∧ (cmdSafeEff s).sys.por = s.sys.por ∧
    (cmdSafeEff s).sys.mapOn = s.sys.mapOn ∧ (cmdSafeEff s).ana = s.ana ∧ (cmdSafeEff s).aux = s.aux ∧
    (cmdSafeEff s).flt = s.flt ∧ (cmdSafeEff s).prt = s.prt ∧ (cmdSafeEff s).sec.otp = s.sec.otp ∧
    (cmdSafeEff s).cmd.run = s.cmd.run := by
  have hf1 := @orderSafe_frame
  simp [↓hf1, cmdSafeEff]

theorem cmdResultReadEff_frame (s : State) :
    (cmdResultReadEff s).now = s.now ∧ (cmdResultReadEff s).pending = s.pending ∧
    (cmdResultReadEff s).regs0 = s.regs0 ∧ (cmdResultReadEff s).freeCtr = s.freeCtr ∧
    (cmdResultReadEff s).mode = s.mode ∧ (cmdResultReadEff s).mram.boot = s.mram.boot ∧
    (cmdResultReadEff s).sys.straps = s.sys.straps ∧ (cmdResultReadEff s).sys.por = s.sys.por ∧
    (cmdResultReadEff s).sys.mapOn = s.sys.mapOn ∧ (cmdResultReadEff s).ana = s.ana ∧
    (cmdResultReadEff s).aux = s.aux ∧ (cmdResultReadEff s).flt = s.flt ∧ (cmdResultReadEff s).tim = s.tim ∧
    (cmdResultReadEff s).prt = s.prt ∧ (cmdResultReadEff s).trp = s.trp ∧ (cmdResultReadEff s).pod = s.pod ∧
    (cmdResultReadEff s).lgc = s.lgc ∧ (cmdResultReadEff s).gsv = s.gsv ∧ (cmdResultReadEff s).tph = s.tph ∧
    (cmdResultReadEff s).oz = s.oz ∧ (cmdResultReadEff s).sec.otp = s.sec.otp ∧
    (cmdResultReadEff s).cmd.run = s.cmd.run := by
  have hf1 := @orderResultRead_frame
  simp [↓hf1, cmdResultReadEff]

theorem cmdModeSetEff_frame (s : State) :
    (cmdModeSetEff s).now = s.now ∧ (cmdModeSetEff s).pending = s.pending ∧ (cmdModeSetEff s).regs0 = s.regs0 ∧
    (cmdModeSetEff s).freeCtr = s.freeCtr ∧ (cmdModeSetEff s).mode = s.mode ∧
    (cmdModeSetEff s).mram.boot = s.mram.boot ∧ (cmdModeSetEff s).sys.straps = s.sys.straps ∧
    (cmdModeSetEff s).sys.por = s.sys.por ∧ (cmdModeSetEff s).sys.mapOn = s.sys.mapOn ∧
    (cmdModeSetEff s).ana = s.ana ∧ (cmdModeSetEff s).aux = s.aux ∧ (cmdModeSetEff s).flt = s.flt ∧
    (cmdModeSetEff s).tim = s.tim ∧ (cmdModeSetEff s).prt = s.prt ∧ (cmdModeSetEff s).trp = s.trp ∧
    (cmdModeSetEff s).pod = s.pod ∧ (cmdModeSetEff s).lgc = s.lgc ∧ (cmdModeSetEff s).gsv = s.gsv ∧
    (cmdModeSetEff s).tph = s.tph ∧ (cmdModeSetEff s).oz = s.oz ∧ (cmdModeSetEff s).sec.otp = s.sec.otp ∧
    (cmdModeSetEff s).cmd.run = s.cmd.run := by
  have hf1 := @orderModeSet_frame
  simp [↓hf1, cmdModeSetEff]

theorem cmdOutputForceEff_frame (s : State) :
    (cmdOutputForceEff s).now = s.now ∧ (cmdOutputForceEff s).pending = s.pending ∧
    (cmdOutputForceEff s).regs0 = s.regs0 ∧ (cmdOutputForceEff s).freeCtr = s.freeCtr ∧
    (cmdOutputForceEff s).mode = s.mode ∧ (cmdOutputForceEff s).mram.boot = s.mram.boot ∧
    (cmdOutputForceEff s).sys.straps = s.sys.straps ∧ (cmdOutputForceEff s).sys.por = s.sys.por ∧
    (cmdOutputForceEff s).sys.mapOn = s.sys.mapOn ∧ (cmdOutputForceEff s).ana = s.ana ∧
    (cmdOutputForceEff s).aux = s.aux ∧ (cmdOutputForceEff s).flt = s.flt ∧ (cmdOutputForceEff s).tim = s.tim ∧
    (cmdOutputForceEff s).prt = s.prt ∧ (cmdOutputForceEff s).pod = s.pod ∧ (cmdOutputForceEff s).lgc = s.lgc ∧
    (cmdOutputForceEff s).gsv = s.gsv ∧ (cmdOutputForceEff s).tph = s.tph ∧ (cmdOutputForceEff s).oz = s.oz ∧
    (cmdOutputForceEff s).sec.otp = s.sec.otp ∧ (cmdOutputForceEff s).cmd.run = s.cmd.run := by
  have hf1 := @orderOutputForce_frame
  simp [↓hf1, cmdOutputForceEff]

theorem cmdTripResetEff_frame (s : State) :
    (cmdTripResetEff s).now = s.now ∧ (cmdTripResetEff s).pending = s.pending ∧ (cmdTripResetEff s).regs0 = s.regs0 ∧
    (cmdTripResetEff s).freeCtr = s.freeCtr ∧ (cmdTripResetEff s).mode = s.mode ∧
    (cmdTripResetEff s).mram.boot = s.mram.boot ∧ (cmdTripResetEff s).sys.straps = s.sys.straps ∧
    (cmdTripResetEff s).sys.por = s.sys.por ∧ (cmdTripResetEff s).sys.mapOn = s.sys.mapOn ∧
    (cmdTripResetEff s).ana = s.ana ∧ (cmdTripResetEff s).aux = s.aux ∧ (cmdTripResetEff s).flt = s.flt ∧
    (cmdTripResetEff s).tim = s.tim ∧ (cmdTripResetEff s).prt = s.prt ∧ (cmdTripResetEff s).pod = s.pod ∧
    (cmdTripResetEff s).lgc = s.lgc ∧ (cmdTripResetEff s).gsv = s.gsv ∧ (cmdTripResetEff s).tph = s.tph ∧
    (cmdTripResetEff s).oz = s.oz ∧ (cmdTripResetEff s).sec.otp = s.sec.otp ∧ (cmdTripResetEff s).cmd.run = s.cmd.run := by
  have hf1 := @orderTripReset_frame
  simp [↓hf1, cmdTripResetEff]

theorem cmdSettingWriteEff_frame (s : State) :
    (cmdSettingWriteEff s).now = s.now ∧ (cmdSettingWriteEff s).pending = s.pending ∧
    (cmdSettingWriteEff s).regs0 = s.regs0 ∧ (cmdSettingWriteEff s).freeCtr = s.freeCtr ∧
    (cmdSettingWriteEff s).mode = s.mode ∧ (cmdSettingWriteEff s).mram.boot = s.mram.boot ∧
    (cmdSettingWriteEff s).sys.straps = s.sys.straps ∧ (cmdSettingWriteEff s).sys.por = s.sys.por ∧
    (cmdSettingWriteEff s).sys.mapOn = s.sys.mapOn ∧ (cmdSettingWriteEff s).ana = s.ana ∧
    (cmdSettingWriteEff s).aux = s.aux ∧ (cmdSettingWriteEff s).flt = s.flt ∧ (cmdSettingWriteEff s).tim = s.tim ∧
    (cmdSettingWriteEff s).trp = s.trp ∧ (cmdSettingWriteEff s).pod = s.pod ∧ (cmdSettingWriteEff s).lgc = s.lgc ∧
    (cmdSettingWriteEff s).gsv = s.gsv ∧ (cmdSettingWriteEff s).tph = s.tph ∧ (cmdSettingWriteEff s).oz = s.oz ∧
    (cmdSettingWriteEff s).sec.otp = s.sec.otp ∧ (cmdSettingWriteEff s).cmd.run = s.cmd.run := by
  have hf1 := @orderSettingWrite_frame
  simp [↓hf1, cmdSettingWriteEff]

theorem cmdGroupSelectEff_frame (s : State) :
    (cmdGroupSelectEff s).now = s.now ∧ (cmdGroupSelectEff s).pending = s.pending ∧
    (cmdGroupSelectEff s).regs0 = s.regs0 ∧ (cmdGroupSelectEff s).freeCtr = s.freeCtr ∧
    (cmdGroupSelectEff s).mode = s.mode ∧ (cmdGroupSelectEff s).mram.boot = s.mram.boot ∧
    (cmdGroupSelectEff s).sys.straps = s.sys.straps ∧ (cmdGroupSelectEff s).sys.por = s.sys.por ∧
    (cmdGroupSelectEff s).sys.mapOn = s.sys.mapOn ∧ (cmdGroupSelectEff s).ana = s.ana ∧
    (cmdGroupSelectEff s).aux = s.aux ∧ (cmdGroupSelectEff s).flt = s.flt ∧ (cmdGroupSelectEff s).tim = s.tim ∧
    (cmdGroupSelectEff s).trp = s.trp ∧ (cmdGroupSelectEff s).pod = s.pod ∧ (cmdGroupSelectEff s).lgc = s.lgc ∧
    (cmdGroupSelectEff s).gsv = s.gsv ∧ (cmdGroupSelectEff s).tph = s.tph ∧ (cmdGroupSelectEff s).oz = s.oz ∧
    (cmdGroupSelectEff s).sec.otp = s.sec.otp ∧ (cmdGroupSelectEff s).cmd.run = s.cmd.run := by
  have hf1 := @orderGroupSelect_frame
  simp [↓hf1, cmdGroupSelectEff]

theorem cmdDebugUnlockEff_frame (s : State) :
    (cmdDebugUnlockEff s).now = s.now ∧ (cmdDebugUnlockEff s).pending = s.pending ∧
    (cmdDebugUnlockEff s).regs0 = s.regs0 ∧ (cmdDebugUnlockEff s).freeCtr = s.freeCtr ∧
    (cmdDebugUnlockEff s).mode = s.mode ∧ (cmdDebugUnlockEff s).mram.boot = s.mram.boot ∧
    (cmdDebugUnlockEff s).sys.straps = s.sys.straps ∧ (cmdDebugUnlockEff s).sys.por = s.sys.por ∧
    (cmdDebugUnlockEff s).sys.mapOn = s.sys.mapOn ∧ (cmdDebugUnlockEff s).ana = s.ana ∧
    (cmdDebugUnlockEff s).aux = s.aux ∧ (cmdDebugUnlockEff s).flt = s.flt ∧ (cmdDebugUnlockEff s).tim = s.tim ∧
    (cmdDebugUnlockEff s).prt = s.prt ∧ (cmdDebugUnlockEff s).trp = s.trp ∧ (cmdDebugUnlockEff s).pod = s.pod ∧
    (cmdDebugUnlockEff s).lgc = s.lgc ∧ (cmdDebugUnlockEff s).gsv = s.gsv ∧ (cmdDebugUnlockEff s).tph = s.tph ∧
    (cmdDebugUnlockEff s).oz = s.oz ∧ (cmdDebugUnlockEff s).sec.otp = s.sec.otp ∧
    (cmdDebugUnlockEff s).cmd.run = s.cmd.run := by
  have hf1 := @orderDebugUnlock_frame
  simp [↓hf1, cmdDebugUnlockEff]

theorem cmdDebugLockEff_frame (s : State) :
    (cmdDebugLockEff s).now = s.now ∧ (cmdDebugLockEff s).pending = s.pending ∧ (cmdDebugLockEff s).regs0 = s.regs0 ∧
    (cmdDebugLockEff s).freeCtr = s.freeCtr ∧ (cmdDebugLockEff s).mode = s.mode ∧
    (cmdDebugLockEff s).mram.boot = s.mram.boot ∧ (cmdDebugLockEff s).sys.straps = s.sys.straps ∧
    (cmdDebugLockEff s).sys.por = s.sys.por ∧ (cmdDebugLockEff s).sys.mapOn = s.sys.mapOn ∧
    (cmdDebugLockEff s).ana = s.ana ∧ (cmdDebugLockEff s).aux = s.aux ∧ (cmdDebugLockEff s).flt = s.flt ∧
    (cmdDebugLockEff s).tim = s.tim ∧ (cmdDebugLockEff s).prt = s.prt ∧ (cmdDebugLockEff s).trp = s.trp ∧
    (cmdDebugLockEff s).lgc = s.lgc ∧ (cmdDebugLockEff s).gsv = s.gsv ∧ (cmdDebugLockEff s).tph = s.tph ∧
    (cmdDebugLockEff s).oz = s.oz ∧ (cmdDebugLockEff s).sec.otp = s.sec.otp ∧ (cmdDebugLockEff s).cmd.run = s.cmd.run := by
  have hf1 := @orderDebugLock_frame
  simp [↓hf1, cmdDebugLockEff]

theorem cmdPairHandoverEff_frame (s : State) :
    (cmdPairHandoverEff s).now = s.now ∧ (cmdPairHandoverEff s).pending = s.pending ∧
    (cmdPairHandoverEff s).regs0 = s.regs0 ∧ (cmdPairHandoverEff s).freeCtr = s.freeCtr ∧
    (cmdPairHandoverEff s).mode = s.mode ∧ (cmdPairHandoverEff s).mram.boot = s.mram.boot ∧
    (cmdPairHandoverEff s).sys.straps = s.sys.straps ∧ (cmdPairHandoverEff s).sys.por = s.sys.por ∧
    (cmdPairHandoverEff s).sys.mapOn = s.sys.mapOn ∧ (cmdPairHandoverEff s).ana = s.ana ∧
    (cmdPairHandoverEff s).aux = s.aux ∧ (cmdPairHandoverEff s).flt = s.flt ∧ (cmdPairHandoverEff s).tim = s.tim ∧
    (cmdPairHandoverEff s).prt = s.prt ∧ (cmdPairHandoverEff s).trp = s.trp ∧ (cmdPairHandoverEff s).pod = s.pod ∧
    (cmdPairHandoverEff s).lgc = s.lgc ∧ (cmdPairHandoverEff s).tph = s.tph ∧
    (cmdPairHandoverEff s).sec.otp = s.sec.otp ∧ (cmdPairHandoverEff s).cmd.run = s.cmd.run := by
  have hf1 := @orderPairHandover_frame
  simp [↓hf1, cmdPairHandoverEff]

theorem cmdBkrSelectEff_frame (s : State) :
    (cmdBkrSelectEff s).now = s.now ∧ (cmdBkrSelectEff s).pending = s.pending ∧ (cmdBkrSelectEff s).regs0 = s.regs0 ∧
    (cmdBkrSelectEff s).freeCtr = s.freeCtr ∧ (cmdBkrSelectEff s).mode = s.mode ∧
    (cmdBkrSelectEff s).mram.boot = s.mram.boot ∧ (cmdBkrSelectEff s).sys.straps = s.sys.straps ∧
    (cmdBkrSelectEff s).sys.por = s.sys.por ∧ (cmdBkrSelectEff s).sys.mapOn = s.sys.mapOn ∧
    (cmdBkrSelectEff s).ana = s.ana ∧ (cmdBkrSelectEff s).aux = s.aux ∧ (cmdBkrSelectEff s).flt = s.flt ∧
    (cmdBkrSelectEff s).tim = s.tim ∧ (cmdBkrSelectEff s).prt = s.prt ∧ (cmdBkrSelectEff s).trp = s.trp ∧
    (cmdBkrSelectEff s).pod = s.pod ∧ (cmdBkrSelectEff s).gsv = s.gsv ∧ (cmdBkrSelectEff s).tph = s.tph ∧
    (cmdBkrSelectEff s).oz = s.oz ∧ (cmdBkrSelectEff s).sec.otp = s.sec.otp ∧ (cmdBkrSelectEff s).cmd.run = s.cmd.run := by
  have hf1 := @orderBkrSelect_frame
  simp [↓hf1, cmdBkrSelectEff]

theorem cmdBkrOperateEff_frame (s : State) :
    (cmdBkrOperateEff s).now = s.now ∧ (cmdBkrOperateEff s).pending = s.pending ∧
    (cmdBkrOperateEff s).regs0 = s.regs0 ∧ (cmdBkrOperateEff s).freeCtr = s.freeCtr ∧
    (cmdBkrOperateEff s).mode = s.mode ∧ (cmdBkrOperateEff s).mram.boot = s.mram.boot ∧
    (cmdBkrOperateEff s).sys.straps = s.sys.straps ∧ (cmdBkrOperateEff s).sys.por = s.sys.por ∧
    (cmdBkrOperateEff s).sys.mapOn = s.sys.mapOn ∧ (cmdBkrOperateEff s).ana = s.ana ∧
    (cmdBkrOperateEff s).aux = s.aux ∧ (cmdBkrOperateEff s).flt = s.flt ∧ (cmdBkrOperateEff s).tim = s.tim ∧
    (cmdBkrOperateEff s).prt = s.prt ∧ (cmdBkrOperateEff s).trp = s.trp ∧ (cmdBkrOperateEff s).pod = s.pod ∧
    (cmdBkrOperateEff s).gsv = s.gsv ∧ (cmdBkrOperateEff s).tph = s.tph ∧ (cmdBkrOperateEff s).oz = s.oz ∧
    (cmdBkrOperateEff s).sec.otp = s.sec.otp ∧ (cmdBkrOperateEff s).cmd.run = s.cmd.run := by
  have hf1 := @orderBkrOperate_frame
  simp [↓hf1, cmdBkrOperateEff]

theorem cmdBkrCancelEff_frame (s : State) :
    (cmdBkrCancelEff s).now = s.now ∧ (cmdBkrCancelEff s).pending = s.pending ∧ (cmdBkrCancelEff s).regs0 = s.regs0 ∧
    (cmdBkrCancelEff s).freeCtr = s.freeCtr ∧ (cmdBkrCancelEff s).mode = s.mode ∧
    (cmdBkrCancelEff s).mram.boot = s.mram.boot ∧ (cmdBkrCancelEff s).sys.straps = s.sys.straps ∧
    (cmdBkrCancelEff s).sys.por = s.sys.por ∧ (cmdBkrCancelEff s).sys.mapOn = s.sys.mapOn ∧
    (cmdBkrCancelEff s).ana = s.ana ∧ (cmdBkrCancelEff s).aux = s.aux ∧ (cmdBkrCancelEff s).flt = s.flt ∧
    (cmdBkrCancelEff s).tim = s.tim ∧ (cmdBkrCancelEff s).prt = s.prt ∧ (cmdBkrCancelEff s).trp = s.trp ∧
    (cmdBkrCancelEff s).pod = s.pod ∧ (cmdBkrCancelEff s).gsv = s.gsv ∧ (cmdBkrCancelEff s).tph = s.tph ∧
    (cmdBkrCancelEff s).oz = s.oz ∧ (cmdBkrCancelEff s).sec.otp = s.sec.otp ∧ (cmdBkrCancelEff s).cmd.run = s.cmd.run := by
  have hf1 := @orderBkrCancel_frame
  simp [↓hf1, cmdBkrCancelEff]

theorem cmdBkrStatusEff_frame (s : State) :
    (cmdBkrStatusEff s).now = s.now ∧ (cmdBkrStatusEff s).pending = s.pending ∧ (cmdBkrStatusEff s).regs0 = s.regs0 ∧
    (cmdBkrStatusEff s).freeCtr = s.freeCtr ∧ (cmdBkrStatusEff s).mode = s.mode ∧
    (cmdBkrStatusEff s).mram.boot = s.mram.boot ∧ (cmdBkrStatusEff s).sys.straps = s.sys.straps ∧
    (cmdBkrStatusEff s).sys.por = s.sys.por ∧ (cmdBkrStatusEff s).sys.mapOn = s.sys.mapOn ∧
    (cmdBkrStatusEff s).ana = s.ana ∧ (cmdBkrStatusEff s).aux = s.aux ∧ (cmdBkrStatusEff s).flt = s.flt ∧
    (cmdBkrStatusEff s).tim = s.tim ∧ (cmdBkrStatusEff s).prt = s.prt ∧ (cmdBkrStatusEff s).trp = s.trp ∧
    (cmdBkrStatusEff s).pod = s.pod ∧ (cmdBkrStatusEff s).lgc = s.lgc ∧ (cmdBkrStatusEff s).gsv = s.gsv ∧
    (cmdBkrStatusEff s).tph = s.tph ∧ (cmdBkrStatusEff s).oz = s.oz ∧ (cmdBkrStatusEff s).sec.otp = s.sec.otp ∧
    (cmdBkrStatusEff s).cmd.run = s.cmd.run := by
  have hf1 := @orderBkrStatus_frame
  simp [↓hf1, cmdBkrStatusEff]

theorem cmdRecArmEff_frame (s : State) :
    (cmdRecArmEff s).now = s.now ∧ (cmdRecArmEff s).pending = s.pending ∧ (cmdRecArmEff s).regs0 = s.regs0 ∧
    (cmdRecArmEff s).freeCtr = s.freeCtr ∧ (cmdRecArmEff s).mode = s.mode ∧
    (cmdRecArmEff s).mram.boot = s.mram.boot ∧ (cmdRecArmEff s).sys.straps = s.sys.straps ∧
    (cmdRecArmEff s).sys.por = s.sys.por ∧ (cmdRecArmEff s).sys.mapOn = s.sys.mapOn ∧ (cmdRecArmEff s).ana = s.ana ∧
    (cmdRecArmEff s).aux = s.aux ∧ (cmdRecArmEff s).flt = s.flt ∧ (cmdRecArmEff s).tim = s.tim ∧
    (cmdRecArmEff s).prt = s.prt ∧ (cmdRecArmEff s).trp = s.trp ∧ (cmdRecArmEff s).pod = s.pod ∧
    (cmdRecArmEff s).lgc = s.lgc ∧ (cmdRecArmEff s).gsv = s.gsv ∧ (cmdRecArmEff s).oz = s.oz ∧
    (cmdRecArmEff s).sec.otp = s.sec.otp ∧ (cmdRecArmEff s).cmd.run = s.cmd.run := by
  have hf1 := @orderRecArm_frame
  simp [↓hf1, cmdRecArmEff]

theorem cmdRecDisarmEff_frame (s : State) :
    (cmdRecDisarmEff s).now = s.now ∧ (cmdRecDisarmEff s).pending = s.pending ∧ (cmdRecDisarmEff s).regs0 = s.regs0 ∧
    (cmdRecDisarmEff s).freeCtr = s.freeCtr ∧ (cmdRecDisarmEff s).mode = s.mode ∧
    (cmdRecDisarmEff s).mram.boot = s.mram.boot ∧ (cmdRecDisarmEff s).sys.straps = s.sys.straps ∧
    (cmdRecDisarmEff s).sys.por = s.sys.por ∧ (cmdRecDisarmEff s).sys.mapOn = s.sys.mapOn ∧
    (cmdRecDisarmEff s).ana = s.ana ∧ (cmdRecDisarmEff s).aux = s.aux ∧ (cmdRecDisarmEff s).flt = s.flt ∧
    (cmdRecDisarmEff s).tim = s.tim ∧ (cmdRecDisarmEff s).prt = s.prt ∧ (cmdRecDisarmEff s).trp = s.trp ∧
    (cmdRecDisarmEff s).pod = s.pod ∧ (cmdRecDisarmEff s).lgc = s.lgc ∧ (cmdRecDisarmEff s).gsv = s.gsv ∧
    (cmdRecDisarmEff s).oz = s.oz ∧ (cmdRecDisarmEff s).sec.otp = s.sec.otp ∧ (cmdRecDisarmEff s).cmd.run = s.cmd.run := by
  have hf1 := @orderRecDisarm_frame
  simp [↓hf1, cmdRecDisarmEff]

theorem cmdRecTrigEff_frame (s : State) :
    (cmdRecTrigEff s).now = s.now ∧ (cmdRecTrigEff s).pending = s.pending ∧ (cmdRecTrigEff s).regs0 = s.regs0 ∧
    (cmdRecTrigEff s).freeCtr = s.freeCtr ∧ (cmdRecTrigEff s).mode = s.mode ∧
    (cmdRecTrigEff s).mram.boot = s.mram.boot ∧ (cmdRecTrigEff s).sys.straps = s.sys.straps ∧
    (cmdRecTrigEff s).sys.por = s.sys.por ∧ (cmdRecTrigEff s).sys.mapOn = s.sys.mapOn ∧
    (cmdRecTrigEff s).ana = s.ana ∧ (cmdRecTrigEff s).aux = s.aux ∧ (cmdRecTrigEff s).flt = s.flt ∧
    (cmdRecTrigEff s).tim = s.tim ∧ (cmdRecTrigEff s).prt = s.prt ∧ (cmdRecTrigEff s).trp = s.trp ∧
    (cmdRecTrigEff s).pod = s.pod ∧ (cmdRecTrigEff s).lgc = s.lgc ∧ (cmdRecTrigEff s).gsv = s.gsv ∧
    (cmdRecTrigEff s).sec.otp = s.sec.otp ∧ (cmdRecTrigEff s).cmd.run = s.cmd.run := by
  have hf1 := @orderRecTrig_frame
  simp [↓hf1, cmdRecTrigEff]

theorem cmdRecApplyEff_frame (s : State) :
    (cmdRecApplyEff s).now = s.now ∧ (cmdRecApplyEff s).pending = s.pending ∧ (cmdRecApplyEff s).regs0 = s.regs0 ∧
    (cmdRecApplyEff s).freeCtr = s.freeCtr ∧ (cmdRecApplyEff s).mode = s.mode ∧
    (cmdRecApplyEff s).mram.boot = s.mram.boot ∧ (cmdRecApplyEff s).sys.straps = s.sys.straps ∧
    (cmdRecApplyEff s).sys.por = s.sys.por ∧ (cmdRecApplyEff s).sys.mapOn = s.sys.mapOn ∧
    (cmdRecApplyEff s).ana = s.ana ∧ (cmdRecApplyEff s).aux = s.aux ∧ (cmdRecApplyEff s).flt = s.flt ∧
    (cmdRecApplyEff s).tim = s.tim ∧ (cmdRecApplyEff s).prt = s.prt ∧ (cmdRecApplyEff s).trp = s.trp ∧
    (cmdRecApplyEff s).pod = s.pod ∧ (cmdRecApplyEff s).lgc = s.lgc ∧ (cmdRecApplyEff s).gsv = s.gsv ∧
    (cmdRecApplyEff s).oz = s.oz ∧ (cmdRecApplyEff s).sec.otp = s.sec.otp ∧ (cmdRecApplyEff s).cmd.run = s.cmd.run := by
  have hf1 := @orderRecApply_frame
  simp [↓hf1, cmdRecApplyEff]

theorem cmdRecReleaseEff_frame (s : State) :
    (cmdRecReleaseEff s).now = s.now ∧ (cmdRecReleaseEff s).pending = s.pending ∧
    (cmdRecReleaseEff s).regs0 = s.regs0 ∧ (cmdRecReleaseEff s).freeCtr = s.freeCtr ∧
    (cmdRecReleaseEff s).mode = s.mode ∧ (cmdRecReleaseEff s).mram.boot = s.mram.boot ∧
    (cmdRecReleaseEff s).sys.straps = s.sys.straps ∧ (cmdRecReleaseEff s).sys.por = s.sys.por ∧
    (cmdRecReleaseEff s).sys.mapOn = s.sys.mapOn ∧ (cmdRecReleaseEff s).ana = s.ana ∧
    (cmdRecReleaseEff s).aux = s.aux ∧ (cmdRecReleaseEff s).flt = s.flt ∧ (cmdRecReleaseEff s).tim = s.tim ∧
    (cmdRecReleaseEff s).prt = s.prt ∧ (cmdRecReleaseEff s).trp = s.trp ∧ (cmdRecReleaseEff s).pod = s.pod ∧
    (cmdRecReleaseEff s).lgc = s.lgc ∧ (cmdRecReleaseEff s).gsv = s.gsv ∧ (cmdRecReleaseEff s).oz = s.oz ∧
    (cmdRecReleaseEff s).sec.otp = s.sec.otp ∧ (cmdRecReleaseEff s).cmd.run = s.cmd.run := by
  have hf1 := @orderRecRelease_frame
  simp [↓hf1, cmdRecReleaseEff]

theorem cmdLogicRunEff_frame (s : State) :
    (cmdLogicRunEff s).now = s.now ∧ (cmdLogicRunEff s).pending = s.pending ∧ (cmdLogicRunEff s).regs0 = s.regs0 ∧
    (cmdLogicRunEff s).freeCtr = s.freeCtr ∧ (cmdLogicRunEff s).mode = s.mode ∧
    (cmdLogicRunEff s).mram.boot = s.mram.boot ∧ (cmdLogicRunEff s).sys.straps = s.sys.straps ∧
    (cmdLogicRunEff s).sys.por = s.sys.por ∧ (cmdLogicRunEff s).sys.mapOn = s.sys.mapOn ∧
    (cmdLogicRunEff s).ana = s.ana ∧ (cmdLogicRunEff s).aux = s.aux ∧ (cmdLogicRunEff s).flt = s.flt ∧
    (cmdLogicRunEff s).tim = s.tim ∧ (cmdLogicRunEff s).prt = s.prt ∧ (cmdLogicRunEff s).pod = s.pod ∧
    (cmdLogicRunEff s).gsv = s.gsv ∧ (cmdLogicRunEff s).tph = s.tph ∧ (cmdLogicRunEff s).oz = s.oz ∧
    (cmdLogicRunEff s).sec.otp = s.sec.otp ∧ (cmdLogicRunEff s).cmd.run = s.cmd.run := by
  have hf1 := @orderLogicRun_frame
  simp [↓hf1, cmdLogicRunEff]

theorem cmdLogicStopEff_frame (s : State) :
    (cmdLogicStopEff s).now = s.now ∧ (cmdLogicStopEff s).pending = s.pending ∧ (cmdLogicStopEff s).regs0 = s.regs0 ∧
    (cmdLogicStopEff s).mode = s.mode ∧ (cmdLogicStopEff s).sys.straps = s.sys.straps ∧
    (cmdLogicStopEff s).sys.por = s.sys.por ∧ (cmdLogicStopEff s).sys.mapOn = s.sys.mapOn ∧
    (cmdLogicStopEff s).ana = s.ana ∧ (cmdLogicStopEff s).aux = s.aux ∧ (cmdLogicStopEff s).flt = s.flt ∧
    (cmdLogicStopEff s).tim = s.tim ∧ (cmdLogicStopEff s).prt = s.prt ∧ (cmdLogicStopEff s).pod = s.pod ∧
    (cmdLogicStopEff s).tph = s.tph ∧ (cmdLogicStopEff s).oz = s.oz ∧ (cmdLogicStopEff s).sec.otp = s.sec.otp ∧
    (cmdLogicStopEff s).cmd.run = s.cmd.run := by
  have hf1 := @orderLogicStop_frame
  simp [↓hf1, cmdLogicStopEff]

theorem cmdLogicHoldEff_frame (s : State) :
    (cmdLogicHoldEff s).now = s.now ∧ (cmdLogicHoldEff s).pending = s.pending ∧ (cmdLogicHoldEff s).regs0 = s.regs0 ∧
    (cmdLogicHoldEff s).freeCtr = s.freeCtr ∧ (cmdLogicHoldEff s).mode = s.mode ∧
    (cmdLogicHoldEff s).mram.boot = s.mram.boot ∧ (cmdLogicHoldEff s).sys.straps = s.sys.straps ∧
    (cmdLogicHoldEff s).sys.por = s.sys.por ∧ (cmdLogicHoldEff s).sys.mapOn = s.sys.mapOn ∧
    (cmdLogicHoldEff s).ana = s.ana ∧ (cmdLogicHoldEff s).aux = s.aux ∧ (cmdLogicHoldEff s).flt = s.flt ∧
    (cmdLogicHoldEff s).tim = s.tim ∧ (cmdLogicHoldEff s).prt = s.prt ∧ (cmdLogicHoldEff s).trp = s.trp ∧
    (cmdLogicHoldEff s).pod = s.pod ∧ (cmdLogicHoldEff s).gsv = s.gsv ∧ (cmdLogicHoldEff s).tph = s.tph ∧
    (cmdLogicHoldEff s).oz = s.oz ∧ (cmdLogicHoldEff s).sec.otp = s.sec.otp ∧ (cmdLogicHoldEff s).cmd.run = s.cmd.run := by
  have hf1 := @orderLogicHold_frame
  simp [↓hf1, cmdLogicHoldEff]

theorem cmdLogicResumeEff_frame (s : State) :
    (cmdLogicResumeEff s).now = s.now ∧ (cmdLogicResumeEff s).pending = s.pending ∧
    (cmdLogicResumeEff s).regs0 = s.regs0 ∧ (cmdLogicResumeEff s).freeCtr = s.freeCtr ∧
    (cmdLogicResumeEff s).mode = s.mode ∧ (cmdLogicResumeEff s).mram.boot = s.mram.boot ∧
    (cmdLogicResumeEff s).sys.straps = s.sys.straps ∧ (cmdLogicResumeEff s).sys.por = s.sys.por ∧
    (cmdLogicResumeEff s).sys.mapOn = s.sys.mapOn ∧ (cmdLogicResumeEff s).ana = s.ana ∧
    (cmdLogicResumeEff s).aux = s.aux ∧ (cmdLogicResumeEff s).flt = s.flt ∧ (cmdLogicResumeEff s).tim = s.tim ∧
    (cmdLogicResumeEff s).prt = s.prt ∧ (cmdLogicResumeEff s).trp = s.trp ∧ (cmdLogicResumeEff s).pod = s.pod ∧
    (cmdLogicResumeEff s).gsv = s.gsv ∧ (cmdLogicResumeEff s).tph = s.tph ∧ (cmdLogicResumeEff s).oz = s.oz ∧
    (cmdLogicResumeEff s).sec.otp = s.sec.otp ∧ (cmdLogicResumeEff s).cmd.run = s.cmd.run := by
  have hf1 := @orderLogicResume_frame
  simp [↓hf1, cmdLogicResumeEff]

theorem cmdLogicStepEff_frame (s : State) :
    (cmdLogicStepEff s).now = s.now ∧ (cmdLogicStepEff s).pending = s.pending ∧ (cmdLogicStepEff s).regs0 = s.regs0 ∧
    (cmdLogicStepEff s).freeCtr = s.freeCtr ∧ (cmdLogicStepEff s).mode = s.mode ∧
    (cmdLogicStepEff s).mram.boot = s.mram.boot ∧ (cmdLogicStepEff s).sys.straps = s.sys.straps ∧
    (cmdLogicStepEff s).sys.por = s.sys.por ∧ (cmdLogicStepEff s).sys.mapOn = s.sys.mapOn ∧
    (cmdLogicStepEff s).ana = s.ana ∧ (cmdLogicStepEff s).aux = s.aux ∧ (cmdLogicStepEff s).flt = s.flt ∧
    (cmdLogicStepEff s).tim = s.tim ∧ (cmdLogicStepEff s).prt = s.prt ∧ (cmdLogicStepEff s).trp = s.trp ∧
    (cmdLogicStepEff s).pod = s.pod ∧ (cmdLogicStepEff s).gsv = s.gsv ∧ (cmdLogicStepEff s).tph = s.tph ∧
    (cmdLogicStepEff s).oz = s.oz ∧ (cmdLogicStepEff s).sec.otp = s.sec.otp ∧ (cmdLogicStepEff s).cmd.run = s.cmd.run := by
  have hf1 := @orderLogicStep_frame
  simp [↓hf1, cmdLogicStepEff]

theorem cmdLogicSplitEff_frame (s : State) :
    (cmdLogicSplitEff s).now = s.now ∧ (cmdLogicSplitEff s).pending = s.pending ∧
    (cmdLogicSplitEff s).regs0 = s.regs0 ∧ (cmdLogicSplitEff s).freeCtr = s.freeCtr ∧
    (cmdLogicSplitEff s).mode = s.mode ∧ (cmdLogicSplitEff s).mram.boot = s.mram.boot ∧
    (cmdLogicSplitEff s).sys.straps = s.sys.straps ∧ (cmdLogicSplitEff s).sys.por = s.sys.por ∧
    (cmdLogicSplitEff s).sys.mapOn = s.sys.mapOn ∧ (cmdLogicSplitEff s).ana = s.ana ∧
    (cmdLogicSplitEff s).aux = s.aux ∧ (cmdLogicSplitEff s).flt = s.flt ∧ (cmdLogicSplitEff s).tim = s.tim ∧
    (cmdLogicSplitEff s).prt = s.prt ∧ (cmdLogicSplitEff s).trp = s.trp ∧ (cmdLogicSplitEff s).pod = s.pod ∧
    (cmdLogicSplitEff s).lgc = s.lgc ∧ (cmdLogicSplitEff s).gsv = s.gsv ∧ (cmdLogicSplitEff s).tph = s.tph ∧
    (cmdLogicSplitEff s).oz = s.oz ∧ (cmdLogicSplitEff s).sec.otp = s.sec.otp ∧
    (cmdLogicSplitEff s).cmd.run = s.cmd.run := by
  have hf1 := @orderLogicSplit_frame
  simp [↓hf1, cmdLogicSplitEff]

theorem cmdLogicJoinEff_frame (s : State) :
    (cmdLogicJoinEff s).now = s.now ∧ (cmdLogicJoinEff s).pending = s.pending ∧ (cmdLogicJoinEff s).regs0 = s.regs0 ∧
    (cmdLogicJoinEff s).freeCtr = s.freeCtr ∧ (cmdLogicJoinEff s).mode = s.mode ∧
    (cmdLogicJoinEff s).mram.boot = s.mram.boot ∧ (cmdLogicJoinEff s).sys.straps = s.sys.straps ∧
    (cmdLogicJoinEff s).sys.por = s.sys.por ∧ (cmdLogicJoinEff s).sys.mapOn = s.sys.mapOn ∧
    (cmdLogicJoinEff s).ana = s.ana ∧ (cmdLogicJoinEff s).aux = s.aux ∧ (cmdLogicJoinEff s).flt = s.flt ∧
    (cmdLogicJoinEff s).tim = s.tim ∧ (cmdLogicJoinEff s).prt = s.prt ∧ (cmdLogicJoinEff s).trp = s.trp ∧
    (cmdLogicJoinEff s).pod = s.pod ∧ (cmdLogicJoinEff s).gsv = s.gsv ∧ (cmdLogicJoinEff s).tph = s.tph ∧
    (cmdLogicJoinEff s).oz = s.oz ∧ (cmdLogicJoinEff s).sec.otp = s.sec.otp ∧ (cmdLogicJoinEff s).cmd.run = s.cmd.run := by
  have hf1 := @orderLogicJoin_frame
  simp [↓hf1, cmdLogicJoinEff]

theorem cmdLogicExchangeEff_frame (s : State) :
    (cmdLogicExchangeEff s).now = s.now ∧ (cmdLogicExchangeEff s).pending = s.pending ∧
    (cmdLogicExchangeEff s).regs0 = s.regs0 ∧ (cmdLogicExchangeEff s).freeCtr = s.freeCtr ∧
    (cmdLogicExchangeEff s).mode = s.mode ∧ (cmdLogicExchangeEff s).mram.boot = s.mram.boot ∧
    (cmdLogicExchangeEff s).sys.straps = s.sys.straps ∧ (cmdLogicExchangeEff s).sys.por = s.sys.por ∧
    (cmdLogicExchangeEff s).sys.mapOn = s.sys.mapOn ∧ (cmdLogicExchangeEff s).ana = s.ana ∧
    (cmdLogicExchangeEff s).aux = s.aux ∧ (cmdLogicExchangeEff s).flt = s.flt ∧ (cmdLogicExchangeEff s).tim = s.tim ∧
    (cmdLogicExchangeEff s).prt = s.prt ∧ (cmdLogicExchangeEff s).trp = s.trp ∧ (cmdLogicExchangeEff s).pod = s.pod ∧
    (cmdLogicExchangeEff s).gsv = s.gsv ∧ (cmdLogicExchangeEff s).tph = s.tph ∧ (cmdLogicExchangeEff s).oz = s.oz ∧
    (cmdLogicExchangeEff s).sec.otp = s.sec.otp ∧ (cmdLogicExchangeEff s).cmd.run = s.cmd.run := by
  have hf1 := @orderLogicExchange_frame
  simp [↓hf1, cmdLogicExchangeEff]

theorem cmdTimeSetEff_frame (s : State) :
    (cmdTimeSetEff s).now = s.now ∧ (cmdTimeSetEff s).pending = s.pending ∧ (cmdTimeSetEff s).regs0 = s.regs0 ∧
    (cmdTimeSetEff s).freeCtr = s.freeCtr ∧ (cmdTimeSetEff s).mode = s.mode ∧
    (cmdTimeSetEff s).mram.boot = s.mram.boot ∧ (cmdTimeSetEff s).sys.straps = s.sys.straps ∧
    (cmdTimeSetEff s).sys.por = s.sys.por ∧ (cmdTimeSetEff s).sys.mapOn = s.sys.mapOn ∧
    (cmdTimeSetEff s).ana = s.ana ∧ (cmdTimeSetEff s).aux = s.aux ∧ (cmdTimeSetEff s).flt = s.flt ∧
    (cmdTimeSetEff s).prt = s.prt ∧ (cmdTimeSetEff s).trp = s.trp ∧ (cmdTimeSetEff s).pod = s.pod ∧
    (cmdTimeSetEff s).lgc = s.lgc ∧ (cmdTimeSetEff s).gsv = s.gsv ∧ (cmdTimeSetEff s).tph = s.tph ∧
    (cmdTimeSetEff s).oz = s.oz ∧ (cmdTimeSetEff s).sec.otp = s.sec.otp ∧ (cmdTimeSetEff s).cmd.run = s.cmd.run := by
  have hf1 := @orderTimeSet_frame
  simp [↓hf1, cmdTimeSetEff]

theorem cmdTimeAcceptStepEff_frame (s : State) :
    (cmdTimeAcceptStepEff s).now = s.now ∧ (cmdTimeAcceptStepEff s).pending = s.pending ∧
    (cmdTimeAcceptStepEff s).regs0 = s.regs0 ∧ (cmdTimeAcceptStepEff s).freeCtr = s.freeCtr ∧
    (cmdTimeAcceptStepEff s).mode = s.mode ∧ (cmdTimeAcceptStepEff s).mram.boot = s.mram.boot ∧
    (cmdTimeAcceptStepEff s).sys.straps = s.sys.straps ∧ (cmdTimeAcceptStepEff s).sys.por = s.sys.por ∧
    (cmdTimeAcceptStepEff s).sys.mapOn = s.sys.mapOn ∧ (cmdTimeAcceptStepEff s).ana = s.ana ∧
    (cmdTimeAcceptStepEff s).aux = s.aux ∧ (cmdTimeAcceptStepEff s).flt = s.flt ∧
    (cmdTimeAcceptStepEff s).prt = s.prt ∧ (cmdTimeAcceptStepEff s).trp = s.trp ∧
    (cmdTimeAcceptStepEff s).pod = s.pod ∧ (cmdTimeAcceptStepEff s).lgc = s.lgc ∧
    (cmdTimeAcceptStepEff s).gsv = s.gsv ∧ (cmdTimeAcceptStepEff s).tph = s.tph ∧
    (cmdTimeAcceptStepEff s).oz = s.oz ∧ (cmdTimeAcceptStepEff s).sec.otp = s.sec.otp ∧
    (cmdTimeAcceptStepEff s).cmd.run = s.cmd.run := by
  have hf1 := @orderTimeAcceptStep_frame
  simp [↓hf1, cmdTimeAcceptStepEff]

theorem cmdKeyInitEff_frame (s : State) :
    (cmdKeyInitEff s).now = s.now ∧ (cmdKeyInitEff s).pending = s.pending ∧ (cmdKeyInitEff s).regs0 = s.regs0 ∧
    (cmdKeyInitEff s).freeCtr = s.freeCtr ∧ (cmdKeyInitEff s).mode = s.mode ∧
    (cmdKeyInitEff s).mram.boot = s.mram.boot ∧ (cmdKeyInitEff s).sys.straps = s.sys.straps ∧
    (cmdKeyInitEff s).sys.por = s.sys.por ∧ (cmdKeyInitEff s).sys.mapOn = s.sys.mapOn ∧
    (cmdKeyInitEff s).ana = s.ana ∧ (cmdKeyInitEff s).aux = s.aux ∧ (cmdKeyInitEff s).flt = s.flt ∧
    (cmdKeyInitEff s).tim = s.tim ∧ (cmdKeyInitEff s).prt = s.prt ∧ (cmdKeyInitEff s).trp = s.trp ∧
    (cmdKeyInitEff s).pod = s.pod ∧ (cmdKeyInitEff s).lgc = s.lgc ∧ (cmdKeyInitEff s).gsv = s.gsv ∧
    (cmdKeyInitEff s).tph = s.tph ∧ (cmdKeyInitEff s).oz = s.oz ∧ (cmdKeyInitEff s).sec.otp = s.sec.otp ∧
    (cmdKeyInitEff s).cmd.run = s.cmd.run := by
  have hf1 := @orderKeyInit_frame
  simp [↓hf1, cmdKeyInitEff]

theorem cmdKeyRotateEff_frame (nonce : ℕ) (s : State) :
    (cmdKeyRotateEff nonce s).now = s.now ∧ (cmdKeyRotateEff nonce s).pending = s.pending ∧
    (cmdKeyRotateEff nonce s).regs0 = s.regs0 ∧ (cmdKeyRotateEff nonce s).freeCtr = s.freeCtr ∧
    (cmdKeyRotateEff nonce s).mode = s.mode ∧ (cmdKeyRotateEff nonce s).mram.boot = s.mram.boot ∧
    (cmdKeyRotateEff nonce s).sys.straps = s.sys.straps ∧ (cmdKeyRotateEff nonce s).sys.por = s.sys.por ∧
    (cmdKeyRotateEff nonce s).sys.mapOn = s.sys.mapOn ∧ (cmdKeyRotateEff nonce s).ana = s.ana ∧
    (cmdKeyRotateEff nonce s).aux = s.aux ∧ (cmdKeyRotateEff nonce s).flt = s.flt ∧
    (cmdKeyRotateEff nonce s).tim = s.tim ∧ (cmdKeyRotateEff nonce s).prt = s.prt ∧
    (cmdKeyRotateEff nonce s).trp = s.trp ∧ (cmdKeyRotateEff nonce s).pod = s.pod ∧
    (cmdKeyRotateEff nonce s).lgc = s.lgc ∧ (cmdKeyRotateEff nonce s).gsv = s.gsv ∧
    (cmdKeyRotateEff nonce s).tph = s.tph ∧ (cmdKeyRotateEff nonce s).oz = s.oz ∧
    (cmdKeyRotateEff nonce s).sec.otp = s.sec.otp ∧ (cmdKeyRotateEff nonce s).cmd.run = s.cmd.run := by
  have hf1 := @orderKeyRotate_frame
  simp [↓hf1, cmdKeyRotateEff]

theorem cmdKeyRetireEff_frame (s : State) :
    (cmdKeyRetireEff s).now = s.now ∧ (cmdKeyRetireEff s).pending = s.pending ∧ (cmdKeyRetireEff s).regs0 = s.regs0 ∧
    (cmdKeyRetireEff s).freeCtr = s.freeCtr ∧ (cmdKeyRetireEff s).mode = s.mode ∧
    (cmdKeyRetireEff s).mram.boot = s.mram.boot ∧ (cmdKeyRetireEff s).sys.straps = s.sys.straps ∧
    (cmdKeyRetireEff s).sys.por = s.sys.por ∧ (cmdKeyRetireEff s).sys.mapOn = s.sys.mapOn ∧
    (cmdKeyRetireEff s).ana = s.ana ∧ (cmdKeyRetireEff s).aux = s.aux ∧ (cmdKeyRetireEff s).flt = s.flt ∧
    (cmdKeyRetireEff s).tim = s.tim ∧ (cmdKeyRetireEff s).prt = s.prt ∧ (cmdKeyRetireEff s).trp = s.trp ∧
    (cmdKeyRetireEff s).pod = s.pod ∧ (cmdKeyRetireEff s).lgc = s.lgc ∧ (cmdKeyRetireEff s).gsv = s.gsv ∧
    (cmdKeyRetireEff s).tph = s.tph ∧ (cmdKeyRetireEff s).oz = s.oz ∧ (cmdKeyRetireEff s).sec.otp = s.sec.otp ∧
    (cmdKeyRetireEff s).cmd.run = s.cmd.run := by
  have hf1 := @orderKeyRetire_frame
  simp [↓hf1, cmdKeyRetireEff]

theorem cmdWorldSetEff_frame (s : State) :
    (cmdWorldSetEff s).now = s.now ∧ (cmdWorldSetEff s).pending = s.pending ∧ (cmdWorldSetEff s).regs0 = s.regs0 ∧
    (cmdWorldSetEff s).freeCtr = s.freeCtr ∧ (cmdWorldSetEff s).mode = s.mode ∧
    (cmdWorldSetEff s).mram.boot = s.mram.boot ∧ (cmdWorldSetEff s).sys.straps = s.sys.straps ∧
    (cmdWorldSetEff s).sys.por = s.sys.por ∧ (cmdWorldSetEff s).sys.mapOn = s.sys.mapOn ∧
    (cmdWorldSetEff s).ana = s.ana ∧ (cmdWorldSetEff s).aux = s.aux ∧ (cmdWorldSetEff s).flt = s.flt ∧
    (cmdWorldSetEff s).tim = s.tim ∧ (cmdWorldSetEff s).prt = s.prt ∧ (cmdWorldSetEff s).trp = s.trp ∧
    (cmdWorldSetEff s).pod = s.pod ∧ (cmdWorldSetEff s).lgc = s.lgc ∧ (cmdWorldSetEff s).gsv = s.gsv ∧
    (cmdWorldSetEff s).tph = s.tph ∧ (cmdWorldSetEff s).oz = s.oz ∧ (cmdWorldSetEff s).sec.otp = s.sec.otp ∧
    (cmdWorldSetEff s).cmd.run = s.cmd.run := by
  have hf1 := @orderWorldSet_frame
  simp [↓hf1, cmdWorldSetEff]

theorem cmdOtpProgramEff_frame (s : State) :
    (cmdOtpProgramEff s).now = s.now ∧ (cmdOtpProgramEff s).pending = s.pending ∧
    (cmdOtpProgramEff s).regs0 = s.regs0 ∧ (cmdOtpProgramEff s).freeCtr = s.freeCtr ∧
    (cmdOtpProgramEff s).mode = s.mode ∧ (cmdOtpProgramEff s).mram.boot = s.mram.boot ∧
    (cmdOtpProgramEff s).sys.straps = s.sys.straps ∧ (cmdOtpProgramEff s).sys.por = s.sys.por ∧
    (cmdOtpProgramEff s).sys.mapOn = s.sys.mapOn ∧ (cmdOtpProgramEff s).ana = s.ana ∧
    (cmdOtpProgramEff s).aux = s.aux ∧ (cmdOtpProgramEff s).flt = s.flt ∧ (cmdOtpProgramEff s).tim = s.tim ∧
    (cmdOtpProgramEff s).prt = s.prt ∧ (cmdOtpProgramEff s).trp = s.trp ∧ (cmdOtpProgramEff s).pod = s.pod ∧
    (cmdOtpProgramEff s).lgc = s.lgc ∧ (cmdOtpProgramEff s).gsv = s.gsv ∧ (cmdOtpProgramEff s).tph = s.tph ∧
    (cmdOtpProgramEff s).oz = s.oz ∧ (cmdOtpProgramEff s).sec.otp = s.sec.otp := by
  have hf1 := @orderOtpProgram_frame
  simp [↓hf1, cmdOtpProgramEff]

theorem cmdOtpRevokeEff_frame (s : State) :
    (cmdOtpRevokeEff s).now = s.now ∧ (cmdOtpRevokeEff s).pending = s.pending ∧ (cmdOtpRevokeEff s).regs0 = s.regs0 ∧
    (cmdOtpRevokeEff s).freeCtr = s.freeCtr ∧ (cmdOtpRevokeEff s).mode = s.mode ∧
    (cmdOtpRevokeEff s).mram.boot = s.mram.boot ∧ (cmdOtpRevokeEff s).sys.straps = s.sys.straps ∧
    (cmdOtpRevokeEff s).sys.por = s.sys.por ∧ (cmdOtpRevokeEff s).sys.mapOn = s.sys.mapOn ∧
    (cmdOtpRevokeEff s).ana = s.ana ∧ (cmdOtpRevokeEff s).aux = s.aux ∧ (cmdOtpRevokeEff s).flt = s.flt ∧
    (cmdOtpRevokeEff s).tim = s.tim ∧ (cmdOtpRevokeEff s).prt = s.prt ∧ (cmdOtpRevokeEff s).trp = s.trp ∧
    (cmdOtpRevokeEff s).pod = s.pod ∧ (cmdOtpRevokeEff s).lgc = s.lgc ∧ (cmdOtpRevokeEff s).gsv = s.gsv ∧
    (cmdOtpRevokeEff s).tph = s.tph ∧ (cmdOtpRevokeEff s).oz = s.oz ∧ (cmdOtpRevokeEff s).sec.otp = s.sec.otp := by
  have hf1 := @orderOtpRevoke_frame
  simp [↓hf1, cmdOtpRevokeEff]

theorem cmdFlashReadEff_frame (data : List ℕ) (s : State) :
    (cmdFlashReadEff data s).now = s.now ∧ (cmdFlashReadEff data s).pending = s.pending ∧
    (cmdFlashReadEff data s).regs0 = s.regs0 ∧ (cmdFlashReadEff data s).freeCtr = s.freeCtr ∧
    (cmdFlashReadEff data s).mode = s.mode ∧ (cmdFlashReadEff data s).mram.boot = s.mram.boot ∧
    (cmdFlashReadEff data s).sys.straps = s.sys.straps ∧ (cmdFlashReadEff data s).sys.por = s.sys.por ∧
    (cmdFlashReadEff data s).sys.mapOn = s.sys.mapOn ∧ (cmdFlashReadEff data s).ana = s.ana ∧
    (cmdFlashReadEff data s).aux = s.aux ∧ (cmdFlashReadEff data s).flt = s.flt ∧
    (cmdFlashReadEff data s).tim = s.tim ∧ (cmdFlashReadEff data s).prt = s.prt ∧
    (cmdFlashReadEff data s).trp = s.trp ∧ (cmdFlashReadEff data s).pod = s.pod ∧
    (cmdFlashReadEff data s).lgc = s.lgc ∧ (cmdFlashReadEff data s).gsv = s.gsv ∧
    (cmdFlashReadEff data s).tph = s.tph ∧ (cmdFlashReadEff data s).oz = s.oz ∧
    (cmdFlashReadEff data s).sec.otp = s.sec.otp ∧ (cmdFlashReadEff data s).cmd.run = s.cmd.run := by
  have hf1 := @orderFlashRead_frame
  simp [↓hf1, cmdFlashReadEff]

theorem cmdFlashEraseEff_frame (s : State) :
    (cmdFlashEraseEff s).now = s.now ∧ (cmdFlashEraseEff s).pending = s.pending ∧
    (cmdFlashEraseEff s).regs0 = s.regs0 ∧ (cmdFlashEraseEff s).freeCtr = s.freeCtr ∧
    (cmdFlashEraseEff s).mode = s.mode ∧ (cmdFlashEraseEff s).mram.boot = s.mram.boot ∧
    (cmdFlashEraseEff s).sys.straps = s.sys.straps ∧ (cmdFlashEraseEff s).sys.por = s.sys.por ∧
    (cmdFlashEraseEff s).sys.mapOn = s.sys.mapOn ∧ (cmdFlashEraseEff s).ana = s.ana ∧
    (cmdFlashEraseEff s).aux = s.aux ∧ (cmdFlashEraseEff s).flt = s.flt ∧ (cmdFlashEraseEff s).tim = s.tim ∧
    (cmdFlashEraseEff s).prt = s.prt ∧ (cmdFlashEraseEff s).trp = s.trp ∧ (cmdFlashEraseEff s).pod = s.pod ∧
    (cmdFlashEraseEff s).lgc = s.lgc ∧ (cmdFlashEraseEff s).gsv = s.gsv ∧ (cmdFlashEraseEff s).tph = s.tph ∧
    (cmdFlashEraseEff s).oz = s.oz ∧ (cmdFlashEraseEff s).sec.otp = s.sec.otp := by
  have hf1 := @orderFlashErase_frame
  simp [↓hf1, cmdFlashEraseEff]

theorem cmdFlashProgramEff_frame (s : State) :
    (cmdFlashProgramEff s).now = s.now ∧ (cmdFlashProgramEff s).pending = s.pending ∧
    (cmdFlashProgramEff s).regs0 = s.regs0 ∧ (cmdFlashProgramEff s).freeCtr = s.freeCtr ∧
    (cmdFlashProgramEff s).mode = s.mode ∧ (cmdFlashProgramEff s).mram.boot = s.mram.boot ∧
    (cmdFlashProgramEff s).sys.straps = s.sys.straps ∧ (cmdFlashProgramEff s).sys.por = s.sys.por ∧
    (cmdFlashProgramEff s).sys.mapOn = s.sys.mapOn ∧ (cmdFlashProgramEff s).ana = s.ana ∧
    (cmdFlashProgramEff s).aux = s.aux ∧ (cmdFlashProgramEff s).flt = s.flt ∧ (cmdFlashProgramEff s).tim = s.tim ∧
    (cmdFlashProgramEff s).prt = s.prt ∧ (cmdFlashProgramEff s).trp = s.trp ∧ (cmdFlashProgramEff s).pod = s.pod ∧
    (cmdFlashProgramEff s).lgc = s.lgc ∧ (cmdFlashProgramEff s).gsv = s.gsv ∧ (cmdFlashProgramEff s).tph = s.tph ∧
    (cmdFlashProgramEff s).oz = s.oz ∧ (cmdFlashProgramEff s).sec.otp = s.sec.otp := by
  have hf1 := @orderFlashProgram_frame
  simp [↓hf1, cmdFlashProgramEff]

theorem cmdFlashSlotEff_frame (s : State) :
    (cmdFlashSlotEff s).now = s.now ∧ (cmdFlashSlotEff s).pending = s.pending ∧ (cmdFlashSlotEff s).regs0 = s.regs0 ∧
    (cmdFlashSlotEff s).freeCtr = s.freeCtr ∧ (cmdFlashSlotEff s).mode = s.mode ∧
    (cmdFlashSlotEff s).mram.boot = s.mram.boot ∧ (cmdFlashSlotEff s).sys.straps = s.sys.straps ∧
    (cmdFlashSlotEff s).sys.por = s.sys.por ∧ (cmdFlashSlotEff s).sys.mapOn = s.sys.mapOn ∧
    (cmdFlashSlotEff s).ana = s.ana ∧ (cmdFlashSlotEff s).aux = s.aux ∧ (cmdFlashSlotEff s).flt = s.flt ∧
    (cmdFlashSlotEff s).tim = s.tim ∧ (cmdFlashSlotEff s).prt = s.prt ∧ (cmdFlashSlotEff s).trp = s.trp ∧
    (cmdFlashSlotEff s).pod = s.pod ∧ (cmdFlashSlotEff s).lgc = s.lgc ∧ (cmdFlashSlotEff s).gsv = s.gsv ∧
    (cmdFlashSlotEff s).tph = s.tph ∧ (cmdFlashSlotEff s).oz = s.oz ∧ (cmdFlashSlotEff s).sec.otp = s.sec.otp := by
  have hf1 := @orderFlashSlot_frame
  simp [↓hf1, cmdFlashSlotEff]

theorem cmdEvtReadEff_frame (s : State) :
    (cmdEvtReadEff s).now = s.now ∧ (cmdEvtReadEff s).pending = s.pending ∧ (cmdEvtReadEff s).regs0 = s.regs0 ∧
    (cmdEvtReadEff s).freeCtr = s.freeCtr ∧ (cmdEvtReadEff s).mode = s.mode ∧
    (cmdEvtReadEff s).mram.boot = s.mram.boot ∧ (cmdEvtReadEff s).sys.straps = s.sys.straps ∧
    (cmdEvtReadEff s).sys.por = s.sys.por ∧ (cmdEvtReadEff s).sys.mapOn = s.sys.mapOn ∧
    (cmdEvtReadEff s).ana = s.ana ∧ (cmdEvtReadEff s).aux = s.aux ∧ (cmdEvtReadEff s).flt = s.flt ∧
    (cmdEvtReadEff s).tim = s.tim ∧ (cmdEvtReadEff s).prt = s.prt ∧ (cmdEvtReadEff s).trp = s.trp ∧
    (cmdEvtReadEff s).pod = s.pod ∧ (cmdEvtReadEff s).lgc = s.lgc ∧ (cmdEvtReadEff s).gsv = s.gsv ∧
    (cmdEvtReadEff s).tph = s.tph ∧ (cmdEvtReadEff s).oz = s.oz ∧ (cmdEvtReadEff s).sec.otp = s.sec.otp ∧
    (cmdEvtReadEff s).cmd.run = s.cmd.run := by
  have hf1 := @orderEvtRead_frame
  simp [↓hf1, cmdEvtReadEff]

theorem cmdEvtAckEff_frame (s : State) :
    (cmdEvtAckEff s).now = s.now ∧ (cmdEvtAckEff s).pending = s.pending ∧ (cmdEvtAckEff s).regs0 = s.regs0 ∧
    (cmdEvtAckEff s).freeCtr = s.freeCtr ∧ (cmdEvtAckEff s).mode = s.mode ∧
    (cmdEvtAckEff s).mram.boot = s.mram.boot ∧ (cmdEvtAckEff s).sys.straps = s.sys.straps ∧
    (cmdEvtAckEff s).sys.por = s.sys.por ∧ (cmdEvtAckEff s).sys.mapOn = s.sys.mapOn ∧ (cmdEvtAckEff s).ana = s.ana ∧
    (cmdEvtAckEff s).aux = s.aux ∧ (cmdEvtAckEff s).flt = s.flt ∧ (cmdEvtAckEff s).tim = s.tim ∧
    (cmdEvtAckEff s).prt = s.prt ∧ (cmdEvtAckEff s).trp = s.trp ∧ (cmdEvtAckEff s).pod = s.pod ∧
    (cmdEvtAckEff s).lgc = s.lgc ∧ (cmdEvtAckEff s).gsv = s.gsv ∧ (cmdEvtAckEff s).tph = s.tph ∧
    (cmdEvtAckEff s).oz = s.oz ∧ (cmdEvtAckEff s).sec.otp = s.sec.otp ∧ (cmdEvtAckEff s).cmd.run = s.cmd.run := by
  have hf1 := @orderEvtAck_frame
  simp [↓hf1, cmdEvtAckEff]
end Sys2Proof.Machine
end

