-- ==== Sys2Proof/Laws/Store.lean ====
section
/-!
SUPPORT. The sparse stores: a read after a write, and that every write keeps the canonical form; the lists the blocks index;
the bit fields of a word.
-/
namespace Sys2Proof.Machine

variable {α : Type}

theorem Store.get_del_same (d : α) (m : Store α) (a : Nat) : Store.get d (Store.del m a) a = d := by
  induction m with
  | nil => rfl
  | cons e m ih =>
    obtain ⟨k, v⟩ := e
    by_cases h : a = k <;> simp [Store.del, Store.get, h]
    · simpa [h] using ih
    · exact ih

theorem Store.get_del_other (d : α) (m : Store α) (a b : Nat) (h : b ≠ a) : Store.get d (Store.del m a) b = Store.get d m b := by
  induction m with
  | nil => rfl
  | cons e m ih =>
    obtain ⟨k, v⟩ := e
    by_cases hk : a = k
    · subst hk; simp [Store.del, Store.get, h, ih]
    · by_cases hb : b = k <;> simp [Store.del, Store.get, hk, hb, ih]

theorem Store.get_put_same (d v : α) (m : Store α) (a : Nat) : Store.get d (Store.put v m a) a = v := by
  induction m with
  | nil => simp [Store.put, Store.get]
  | cons e m ih =>
    obtain ⟨k, w⟩ := e
    by_cases h1 : a < k
    · simp [Store.put, h1, Store.get]
    · by_cases h2 : a = k <;> simp [Store.put, h1, h2, Store.get]
      exact ih

theorem Store.get_put_other (d v : α) (m : Store α) (a b : Nat) (h : b ≠ a) :
    Store.get d (Store.put v m a) b = Store.get d m b := by
  induction m with
  | nil => simp [Store.put, Store.get, h]
  | cons e m ih =>
    obtain ⟨k, w⟩ := e
    by_cases h1 : a < k
    · simp [Store.put, h1, Store.get, h]
    · by_cases h2 : a = k
      · subst h2; simp [Store.put, Store.get, h]
      · by_cases hb : b = k <;> simp [Store.put, h1, h2, Store.get, hb, ih]

variable [DecidableEq α]

/-- A read of the key just written gives the value written. -/
theorem Store.get_set_same (d v : α) (m : Store α) (a : Nat) : Store.get d (Store.set d m a v) a = v := by
  unfold Store.set
  split
  · next h => rw [Store.get_del_same, h]
  · exact Store.get_put_same ..

/-- A write leaves every other key alone. -/
theorem Store.get_set_other (d d' v : α) (m : Store α) (a b : Nat) (h : b ≠ a) :
    Store.get d' (Store.set d m a v) b = Store.get d' m b := by
  unfold Store.set
  split
  · exact Store.get_del_other _ _ _ _ h
  · exact Store.get_put_other _ _ _ _ _ h

omit [DecidableEq α] in
theorem Store.rising_mono {lo hi : Nat} (m : Store α) (h : lo ≤ hi) (hm : Store.rising (some hi) m = true) :
    Store.rising (some lo) m = true := by
  cases m with
  | nil => rfl
  | cons e m => obtain ⟨k, v⟩ := e; simp [Store.rising] at *; exact ⟨by omega, hm.2⟩

omit [DecidableEq α] in
theorem Store.rising_none {lo : Nat} (m : Store α) (hm : Store.rising (some lo) m = true) : Store.rising none m = true := by
  cases m with
  | nil => rfl
  | cons e m => obtain ⟨k, v⟩ := e; simp [Store.rising] at *; exact hm.2

omit [DecidableEq α] in
theorem Store.rising_del (m : Store α) (a : Nat) : ∀ lo, Store.rising lo m = true → Store.rising lo (Store.del m a) = true := by
  induction m with
  | nil => intro lo h; exact h
  | cons e m ih =>
    obtain ⟨k, v⟩ := e
    intro lo h
    have hk : Store.rising (some k) m = true := by cases lo <;> simp_all [Store.rising]
    by_cases ha : a = k
    · have h1 := ih (some k) hk
      simp only [Store.del, ha, if_true]
      rw [ha] at h1
      cases lo with
      | none => exact Store.rising_none _ h1
      | some b => exact Store.rising_mono _ (by simp [Store.rising] at h; omega) h1
    · have h1 := ih (some k) hk
      cases lo <;> simp_all [Store.del, Store.rising]

omit [DecidableEq α] in
theorem Store.rising_put (v : α) (m : Store α) (a : Nat) :
    ∀ lo, (∀ b, lo = some b → b < a) → Store.rising lo m = true → Store.rising lo (Store.put v m a) = true := by
  induction m with
  | nil => intro lo hb _; cases lo <;> simp_all [Store.put, Store.rising]
  | cons e m ih =>
    obtain ⟨k, w⟩ := e
    intro lo hb h
    have hk : Store.rising (some k) m = true := by cases lo <;> simp_all [Store.rising]
    by_cases h1 : a < k
    · cases lo <;> simp_all [Store.put, Store.rising]
    · by_cases h2 : a = k
      · subst h2; cases lo <;> simp_all [Store.put, Store.rising]
      · have h3 := ih (some k) (by intro b hb'; cases hb'; omega) hk
        have h4 : Store.put v ((k, w) :: m) a = (k, w) :: Store.put v m a := by simp [Store.put, h1, h2]
        rw [h4]
        cases lo with
        | none => exact h3
        | some b => simp only [Store.rising, Bool.and_eq_true] at h ⊢; exact ⟨h.1, h3⟩

omit [DecidableEq α] in
theorem Store.mem_del (m : Store α) (a : Nat) (e : Nat × α) (h : e ∈ Store.del m a) : e ∈ m := by
  induction m with
  | nil => exact h
  | cons x m ih =>
    obtain ⟨k, v⟩ := x
    by_cases ha : a = k <;> simp [Store.del, ha] at h ⊢
    · right; exact ih (by rw [ha]; exact h)
    · rcases h with h | h
      · left; exact h
      · right; exact ih h

omit [DecidableEq α] in
theorem Store.mem_put (v : α) (m : Store α) (a : Nat) (e : Nat × α) (h : e ∈ Store.put v m a) : e = (a, v) ∨ e ∈ m := by
  induction m with
  | nil => simpa [Store.put] using h
  | cons x m ih =>
    obtain ⟨k, w⟩ := x
    by_cases h1 : a < k
    · simp only [Store.put, h1, if_true, List.mem_cons] at h ⊢; exact h
    · by_cases h2 : a = k
      · rw [show Store.put v ((k, w) :: m) a = (a, v) :: m by simp [Store.put, h2]] at h
        simp only [List.mem_cons] at h ⊢
        rcases h with h | h
        · left; exact h
        · right; right; exact h
      · simp only [Store.put, h1, h2, if_false, List.mem_cons] at h ⊢
        rcases h with h | h
        · right; left; exact h
        · rcases ih h with h | h
          · left; exact h
          · right; right; exact h

/-- Every write keeps the canonical form. -/
theorem Store.wf_set (d : Nat → α) (m : Store α) (a : Nat) (v : α) (h : Store.wf d m = true) :
    Store.wf d (Store.set (d a) m a v) = true := by
  simp only [Store.wf, Bool.and_eq_true, List.all_eq_true, decide_eq_true_eq] at h ⊢
  unfold Store.set
  split
  · exact ⟨Store.rising_del _ _ _ h.1, fun e he => h.2 e (Store.mem_del _ _ _ he)⟩
  · next hv =>
    refine ⟨Store.rising_put _ _ _ _ (by simp) h.1, fun e he => ?_⟩
    rcases Store.mem_put _ _ _ _ he with he | he
    · subst he; exact hv
    · exact h.2 e he

/-! ### Lists by index -/

omit [DecidableEq α] in
@[simp] theorem lset_length (l : List α) (i : Nat) (v : α) : (lset l i v).length = l.length := by
  induction l generalizing i with
  | nil => rfl
  | cons x l ih => cases i <;> simp [lset, ih]

omit [DecidableEq α] in
@[simp] theorem lmod_length (l : List α) (i : Nat) (f : α → α) : (lmod l i f).length = l.length := by
  induction l generalizing i with
  | nil => rfl
  | cons x l ih => cases i <;> simp [lmod, ih]

omit [DecidableEq α] in
/-- Nothing beyond the end of a list is replaced. -/
theorem lset_out (l : List α) (i : Nat) (v : α) (h : l.length ≤ i) : lset l i v = l := by
  induction l generalizing i with
  | nil => rfl
  | cons x l ih =>
    cases i with
    | zero => simp at h
    | succ i => rw [lset, ih i (by simpa using h)]

omit [DecidableEq α] in
theorem lget_lset_same (d v : α) (l : List α) (i : Nat) (h : i < l.length) : lget d (lset l i v) i = v := by
  induction l generalizing i with
  | nil => simp at h
  | cons x l ih => cases i with
    | zero => rfl
    | succ i => simpa [lset, lget] using ih i (by simpa using h)

omit [DecidableEq α] in
theorem lget_lset_other (d v : α) (l : List α) (i j : Nat) (h : j ≠ i) : lget d (lset l i v) j = lget d l j := by
  induction l generalizing i j with
  | nil => rfl
  | cons x l ih => cases i <;> cases j <;> simp_all [lset, lget]

omit [DecidableEq α] in
/-- What a list holds at `j` after a write at `i`: the value written where `i` is an index of it. -/
theorem lget_lset (d v : α) (l : List α) (i j : Nat) :
    lget d (lset l i v) j = if j = i ∧ i < l.length then v else lget d l j := by
  by_cases h : j = i
  · subst h
    by_cases hl : j < l.length
    · simp [lget_lset_same, hl]
    · simp only [hl, and_false, if_false]
      induction l generalizing j with
      | nil => rfl
      | cons x l ih => cases j with
        | zero => simp at hl
        | succ j => simpa [lset, lget] using ih j (by simpa using hl)
  · simp [lget_lset_other, h]

omit [DecidableEq α] in
theorem lget_lmod_same (d : α) (l : List α) (i : Nat) (f : α → α) (h : i < l.length) : lget d (lmod l i f) i = f (lget d l i) := by
  induction l generalizing i with
  | nil => simp at h
  | cons x l ih => cases i with
    | zero => rfl
    | succ i => simpa [lmod, lget] using ih i (by simpa using h)

omit [DecidableEq α] in
theorem lget_lmod_other (d : α) (l : List α) (i j : Nat) (f : α → α) (h : j ≠ i) : lget d (lmod l i f) j = lget d l j := by
  induction l generalizing i j with
  | nil => rfl
  | cons x l ih => cases i <;> cases j <;> simp_all [lmod, lget]

/-! ### Bit fields -/

theorem getBits_lt (w : Word) (lo n : Nat) : getBits w lo n < 2 ^ n := Nat.mod_lt _ (by positivity)

/-- The number a word with a field replaced spells. -/
theorem setBits_toNat (w : Word) (lo n v : Nat) (h : lo + n ≤ 32) :
    (setBits w lo n v).toNat = w.toNat / 2 ^ (lo + n) * 2 ^ (lo + n) + v % 2 ^ n * 2 ^ lo + w.toNat % 2 ^ lo := by
  have hw : w.toNat < 2 ^ 32 := w.isLt
  unfold setBits
  rw [BitVec.toNat_ofNat]
  apply Nat.mod_eq_of_lt
  have h1 : v % 2 ^ n < 2 ^ n := Nat.mod_lt _ (by positivity)
  have h2 : w.toNat % 2 ^ lo < 2 ^ lo := Nat.mod_lt _ (by positivity)
  have h3 : w.toNat / 2 ^ (lo + n) < 2 ^ (32 - (lo + n)) := by
    rw [Nat.div_lt_iff_lt_mul (by positivity), ← pow_add]
    rwa [show 32 - (lo + n) + (lo + n) = 32 by omega]
  have h4 : (v % 2 ^ n + 1) * 2 ^ lo ≤ 2 ^ n * 2 ^ lo := Nat.mul_le_mul_right _ h1
  have h5 : (w.toNat / 2 ^ (lo + n) + 1) * 2 ^ (lo + n) ≤ 2 ^ (32 - (lo + n)) * 2 ^ (lo + n) := Nat.mul_le_mul_right _ h3
  rw [← pow_add, show 32 - (lo + n) + (lo + n) = 32 by omega] at h5
  rw [← pow_add, show n + lo = lo + n by omega] at h4
  have h6 := Nat.add_mul (v % 2 ^ n) 1 (2 ^ lo)
  have h7 := Nat.add_mul (w.toNat / 2 ^ (lo + n)) 1 (2 ^ (lo + n))
  omega

/-- A field just written reads as the low bits of what was written. -/
theorem getBits_setBits_same (w : Word) (lo n v : Nat) (h : lo + n ≤ 32) : getBits (setBits w lo n v) lo n = v % 2 ^ n := by
  unfold getBits
  rw [setBits_toNat w lo n v h]
  have h2 : w.toNat % 2 ^ lo < 2 ^ lo := Nat.mod_lt _ (by positivity)
  have h8 : w.toNat / 2 ^ (lo + n) * 2 ^ (lo + n) + v % 2 ^ n * 2 ^ lo + w.toNat % 2 ^ lo =
      (w.toNat / 2 ^ (lo + n) * 2 ^ n + v % 2 ^ n) * 2 ^ lo + w.toNat % 2 ^ lo := by rw [pow_add]; ring
  rw [h8, Nat.add_comm, Nat.add_mul_div_right _ _ (by positivity), Nat.div_eq_of_lt h2, Nat.zero_add,
    Nat.add_comm, Nat.add_mul_mod_self_right, Nat.mod_mod]

/-- A field below the one written reads as before. -/
theorem getBits_setBits_below (w : Word) (lo n v lo' n' : Nat) (h : lo + n ≤ 32) (hd : lo' + n' ≤ lo) :
    getBits (setBits w lo n v) lo' n' = getBits w lo' n' := by
  unfold getBits
  rw [setBits_toNat w lo n v h]
  have e1 : 2 ^ lo = 2 ^ lo' * 2 ^ n' * 2 ^ (lo - lo' - n') := by rw [← pow_add, ← pow_add]; congr 1; omega
  have key : ∀ x : Nat, x / 2 ^ lo' % 2 ^ n' = x % 2 ^ lo / 2 ^ lo' % 2 ^ n' := by
    intro x
    rw [e1, mul_assoc, Nat.mod_mul_right_div_self, Nat.mod_mul_right_mod]
  rw [key, key w.toNat]
  congr 2
  have : w.toNat / 2 ^ (lo + n) * 2 ^ (lo + n) + v % 2 ^ n * 2 ^ lo + w.toNat % 2 ^ lo =
      (w.toNat / 2 ^ (lo + n) * 2 ^ n + v % 2 ^ n) * 2 ^ lo + w.toNat % 2 ^ lo := by rw [pow_add]; ring
  rw [this, Nat.add_comm, Nat.add_mul_mod_self_right, Nat.mod_mod]

/-- A field above the one written reads as before. -/
theorem getBits_setBits_above (w : Word) (lo n v lo' n' : Nat) (h : lo + n ≤ 32) (hd : lo + n ≤ lo') :
    getBits (setBits w lo n v) lo' n' = getBits w lo' n' := by
  unfold getBits
  rw [setBits_toNat w lo n v h]
  have e1 : 2 ^ lo' = 2 ^ (lo + n) * 2 ^ (lo' - (lo + n)) := by rw [← pow_add]; congr 1; omega
  rw [e1, ← Nat.div_div_eq_div_mul, ← Nat.div_div_eq_div_mul]
  congr 2
  have h1 : v % 2 ^ n < 2 ^ n := Nat.mod_lt _ (by positivity)
  have h2 : w.toNat % 2 ^ lo < 2 ^ lo := Nat.mod_lt _ (by positivity)
  have h4 : (v % 2 ^ n + 1) * 2 ^ lo ≤ 2 ^ n * 2 ^ lo := Nat.mul_le_mul_right _ h1
  rw [← pow_add, show n + lo = lo + n by omega] at h4
  have h6 := Nat.add_mul (v % 2 ^ n) 1 (2 ^ lo)
  rw [Nat.add_assoc, Nat.add_comm, Nat.add_mul_div_right _ _ (by positivity), Nat.div_eq_of_lt (by omega), Nat.zero_add]

end Sys2Proof.Machine
end

