-- ==== Sys2Proof/Laws/Regs.lean ====
section
/-!
SUPPORT. The register file: what a register or a field reads as after a write, and that every write keeps the file's canonical
form.
-/
namespace Sys2Proof.Machine

/-- A register just written reads as the word written. -/
theorem State.rd_wr_same (s : State) (a : Nat) (w : Word) : (s.wr a w).rd a = w := Store.get_set_same ..

/-- A write to a register leaves every other register as it was. -/
theorem State.rd_wr_other (s : State) (a b : Nat) (w : Word) (h : b ≠ a) : (s.wr a w).rd b = s.rd b :=
  Store.get_set_other _ _ _ _ _ _ h

/-- Every register write keeps the canonical form of the file. -/
theorem State.wr_wf (s : State) (a : Nat) (w : Word) (h : Store.wf rstWord s.regs = true) :
    Store.wf rstWord (s.wr a w).regs = true := Store.wf_set _ _ _ _ h

/-- Setting a field leaves every other register as it was. -/
theorem State.rd_setF_other (s : State) (f : Field) (v b : Nat) (h : b ≠ f.addr) : (s.setF f v).rd b = s.rd b :=
  State.rd_wr_other _ _ _ _ h

/-- The word of the register of a field just set. -/
theorem State.rd_setF_same (s : State) (f : Field) (v : Nat) :
    (s.setF f v).rd f.addr = setBits (s.rd f.addr) f.lo f.width v := State.rd_wr_same ..

/-- A field just set reads as the low bits of what was written. -/
theorem State.getF_setF_same (s : State) (f : Field) (v : Nat) (h : f.lo + f.width ≤ 32) :
    (s.setF f v).getF f = v % 2 ^ f.width := by
  rw [State.getF, State.rd_setF_same, getBits_setBits_same _ _ _ _ h]

/-- Setting a field leaves every field beside it as it was. -/
theorem State.getF_setF_other (s : State) (f g : Field) (v : Nat) (h : f.lo + f.width ≤ 32)
    (hd : g.addr ≠ f.addr ∨ g.lo + g.width ≤ f.lo ∨ f.lo + f.width ≤ g.lo) : (s.setF f v).getF g = s.getF g := by
  by_cases ha : g.addr = f.addr
  · unfold State.getF
    rw [ha, State.rd_setF_same]
    rcases hd with hd | hd | hd
    · exact absurd ha hd
    · exact getBits_setBits_below _ _ _ _ _ _ h hd
    · exact getBits_setBits_above _ _ _ _ _ _ h hd
  · unfold State.getF
    rw [State.rd_setF_other _ _ _ _ ha]

theorem State.flag_setFlag_same (s : State) (f : Field) (b : Bool) (h : f.lo + f.width ≤ 32) (hw : f.width = 1) :
    (s.setFlag f b).flag f = b := by
  unfold State.flag State.setFlag
  rw [State.getF_setF_same _ _ _ h, hw]
  cases b <;> rfl

/-- A state that differs outside the register file reads its registers the same. -/
theorem State.rd_of_regs {s s' : State} (h : s'.regs = s.regs) (a : Nat) : s'.rd a = s.rd a := by
  unfold State.rd; rw [h]

theorem State.getF_of_regs {s s' : State} (h : s'.regs = s.regs) (f : Field) : s'.getF f = s.getF f := by
  unfold State.getF; rw [State.rd_of_regs h]

/-- Every field operation keeps the canonical form of the file. -/
theorem State.setF_wf (s : State) (f : Field) (v : Nat) (h : Store.wf rstWord s.regs = true) :
    Store.wf rstWord (s.setF f v).regs = true := State.wr_wf _ _ _ h

end Sys2Proof.Machine
end

