-- ==== Sys2Proof/Laws/State.lean ====
section
/-!
SUPPORT. What each update of the state writes: by definition the part it names, and read back through that part's accessor. What the
updates leave as it was stands in the Frame files.
-/
namespace Sys2Proof.Machine

@[simp] theorem State.at_now (s : State) (t : Nat) :
    (s.at t).now = if s.now ≤ t then t else s.now := rfl

@[simp] theorem State.wr_regs (s : State) (a : Nat) (w : Word) :
    (s.wr a w).regs = Store.set (rstWord a) s.regs a w := rfl

@[simp] theorem State.readOut_readBuf (s : State) (ws : List Nat) :
    (s.readOut ws).sys.readBuf = ws := rfl

@[simp] theorem State.capture_caps (s : State) (r : Requester) (a : Nat) (ws : List Nat) :
    (s.capture r a ws).sys.caps = lset s.sys.caps (reqIdx r) (some ⟨a, ws⟩) := rfl

@[simp] theorem State.setTrp_trp (s : State) (f : TrpSt → TrpSt) :
    (s.setTrp f).trp = f s.trp := rfl

@[simp] theorem State.bootUpd_boot (s : State) (f : BootRecord → BootRecord) :
    (s.bootUpd f).mram.boot = { f s.mram.boot with valid := true, bseq := (s.mram.boot.bseq + 1) % 4294967296 } := rfl

@[simp] theorem State.bootUpd_keyCnt (s : State) (f : BootRecord → BootRecord) :
    (s.bootUpd f).mram.keyCnt = s.mram.keyCnt := rfl

theorem State.queue_setQueue_same (s : State) (q : Nat) (l : List EvtEntry) : (s.setQueue q l).queue q = l := by
  unfold State.setQueue State.queue; split <;> rfl

theorem State.queue_setQueue_other (s : State) (q p : Nat) (l : List EvtEntry) (h : (p = 0) ≠ (q = 0)) :
    (s.setQueue q l).queue p = s.queue p := by
  unfold State.setQueue State.queue; by_cases hp : p = 0 <;> by_cases hq : q = 0 <;> simp_all

@[simp] theorem State.setGrp_ana (s : State) (g : Nat) (x : GroupInt) :
    (s.setGrp g x).ana = { s.ana with groups := lset s.ana.groups g x } := rfl

theorem State.grp_setGrp_same (s : State) (g : Nat) (x : GroupInt) (h : g < s.ana.groups.length) :
    (s.setGrp g x).grp g = x := lget_lset_same _ x _ _ h

theorem State.grp_setGrp_other (s : State) (g j : Nat) (x : GroupInt) (h : j ≠ g) :
    (s.setGrp g x).grp j = s.grp j := lget_lset_other _ x _ _ _ h

@[simp] theorem State.setChan_ana (s : State) (c : Nat) (x : ChanInt) :
    (s.setChan c x).ana = { s.ana with chans := lset s.ana.chans c x } := rfl

theorem State.chan_setChan_same (s : State) (c : Nat) (x : ChanInt) (h : c < s.ana.chans.length) :
    (s.setChan c x).chan c = x := lget_lset_same _ x _ _ h

theorem State.chan_setChan_other (s : State) (c j : Nat) (x : ChanInt) (h : j ≠ c) :
    (s.setChan c x).chan j = s.chan j := lget_lset_other _ x _ _ _ h

@[simp] theorem State.setFch_flt (s : State) (c : Nat) (x : FltChan) :
    (s.setFch c x).flt = { s.flt with chans := lset s.flt.chans c x } := rfl

theorem State.fch_setFch_same (s : State) (c : Nat) (x : FltChan) (h : c < s.flt.chans.length) :
    (s.setFch c x).fch c = x := lget_lset_same _ x _ _ h

theorem State.fch_setFch_other (s : State) (c j : Nat) (x : FltChan) (h : j ≠ c) :
    (s.setFch c x).fch j = s.fch j := lget_lset_other _ x _ _ _ h

@[simp] theorem State.setFgrp_flt (s : State) (g : Nat) (x : FltGroup) :
    (s.setFgrp g x).flt = { s.flt with groups := lset s.flt.groups g x } := rfl

theorem State.fgrp_setFgrp_same (s : State) (g : Nat) (x : FltGroup) (h : g < s.flt.groups.length) :
    (s.setFgrp g x).fgrp g = x := lget_lset_same _ x _ _ h

theorem State.fgrp_setFgrp_other (s : State) (g j : Nat) (x : FltGroup) (h : j ≠ g) :
    (s.setFgrp g x).fgrp j = s.fgrp j := lget_lset_other _ x _ _ _ h

@[simp] theorem State.setBay_prt (s : State) (b : Nat) (x : BayInt) :
    (s.setBay b x).prt = { s.prt with bays := lset s.prt.bays b x } := rfl

theorem State.bay_setBay_same (s : State) (b : Nat) (x : BayInt) (h : b < s.prt.bays.length) :
    (s.setBay b x).bay b = x := lget_lset_same _ x _ _ h

theorem State.bay_setBay_other (s : State) (b j : Nat) (x : BayInt) (h : j ≠ b) :
    (s.setBay b x).bay j = s.bay j := lget_lset_other _ x _ _ _ h

@[simp] theorem State.setProg_lgc (s : State) (k : Nat) (x : ProgSt) :
    (s.setProg k x).lgc = { s.lgc with progs := lset s.lgc.progs k x } := rfl

theorem State.prog_setProg_same (s : State) (k : Nat) (x : ProgSt) (h : k < s.lgc.progs.length) :
    (s.setProg k x).prog k = x := lget_lset_same _ x _ _ h

theorem State.prog_setProg_other (s : State) (k j : Nat) (x : ProgSt) (h : j ≠ k) :
    (s.setProg k x).prog j = s.prog j := lget_lset_other _ x _ _ _ h

@[simp] theorem State.setCls_tph (s : State) (c : Nat) (x : RecClass) :
    (s.setCls c x).tph = { s.tph with classes := lset s.tph.classes c x } := rfl

theorem State.rcls_setCls_same (s : State) (c : Nat) (x : RecClass) (h : c < s.tph.classes.length) :
    (s.setCls c x).rcls c = x := lget_lset_same _ x _ _ h

theorem State.rcls_setCls_other (s : State) (c j : Nat) (x : RecClass) (h : j ≠ c) :
    (s.setCls c x).rcls j = s.rcls j := lget_lset_other _ x _ _ _ h

@[simp] theorem State.setTb_tim (s : State) (b : Nat) (x : TbInt) :
    (s.setTb b x).tim = { s.tim with bases := lset s.tim.bases b x } := rfl

theorem State.tb_setTb_same (s : State) (b : Nat) (x : TbInt) (h : b < s.tim.bases.length) :
    (s.setTb b x).tb b = x := lget_lset_same _ x _ _ h

theorem State.tb_setTb_other (s : State) (b j : Nat) (x : TbInt) (h : j ≠ b) :
    (s.setTb b x).tb j = s.tb j := lget_lset_other _ x _ _ _ h

@[simp] theorem State.setPort_net (s : State) (p : Nat) (x : PortInt) :
    (s.setPort p x).net = { s.net with ports := lset s.net.ports p x } := rfl

theorem State.port_setPort_same (s : State) (p : Nat) (x : PortInt) (h : p < s.net.ports.length) :
    (s.setPort p x).port p = x := lget_lset_same _ x _ _ h

theorem State.port_setPort_other (s : State) (p j : Nat) (x : PortInt) (h : j ≠ p) :
    (s.setPort p x).port j = s.port j := lget_lset_other _ x _ _ _ h

@[simp] theorem State.setInst_prt (s : State) (i : Nat) (x : InstInt) :
    (s.setInst i x).prt = { s.prt with insts := Store.set resetInst s.prt.insts i x } := rfl

theorem State.inst_setInst_same (s : State) (i : Nat) (x : InstInt) : (s.setInst i x).inst i = x :=
  Store.get_set_same _ x _ _

theorem State.inst_setInst_other (s : State) (i j : Nat) (x : InstInt) (h : j ≠ i) :
    (s.setInst i x).inst j = s.inst j := Store.get_set_other _ _ x _ _ _ h

@[simp] theorem State.setSeg_tph (s : State) (g : Nat) (x : RecSeg) :
    (s.setSeg g x).tph = { s.tph with segs := Store.set resetSeg s.tph.segs g x } := rfl

theorem State.seg_setSeg_same (s : State) (g : Nat) (x : RecSeg) : (s.setSeg g x).seg g = x :=
  Store.get_set_same _ x _ _

theorem State.seg_setSeg_other (s : State) (g j : Nat) (x : RecSeg) (h : j ≠ g) :
    (s.setSeg g x).seg j = s.seg j := Store.get_set_other _ _ x _ _ _ h

@[simp] theorem State.setRidx_mram (s : State) (g : Nat) (x : RecIdxEntry) :
    (s.setRidx g x).mram = { s.mram with recIdx := Store.set resetIdx s.mram.recIdx g x } := rfl

theorem State.ridx_setRidx_same (s : State) (g : Nat) (x : RecIdxEntry) : (s.setRidx g x).ridx g = x :=
  Store.get_set_same _ x _ _

theorem State.ridx_setRidx_other (s : State) (g j : Nat) (x : RecIdxEntry) (h : j ≠ g) :
    (s.setRidx g x).ridx j = s.ridx j := Store.get_set_other _ _ x _ _ _ h

end Sys2Proof.Machine
end

