-- ==== Sys2Proof/Laws/Memory.lean ====
section
/-!
SUPPORT. Every operation on the register file, on pod memory and on instance memory keeps the canonical form.
-/
namespace Sys2Proof.Machine

/-- Writing bytes of instance memory keeps its canonical form. -/
theorem memWr_wf (m : Store Nat) (a n v : Nat) (h : Store.wf (fun _ => 0) m = true) : Store.wf (fun _ => 0) (memWr m a n v) = true := by
  unfold memWr
  generalize (leBytes n v).zip (upto n) = l
  induction l generalizing m with
  | nil => exact h
  | cons e l ih => rw [List.foldl_cons]; exact ih _ (Store.wf_set (fun _ => 0) m (a + e.2) e.1 h)

/-- Copying bytes keeps the canonical form of what they are copied into. -/
theorem copyBytes_wf (src dst : Store Nat) (as : List Nat) (h : Store.wf (fun _ => 0) dst = true) :
    Store.wf (fun _ => 0) (copyBytes src dst as) = true := by
  unfold copyBytes
  induction as generalizing dst with
  | nil => exact h
  | cons a as ih => rw [List.foldl_cons]; exact ih _ (Store.wf_set (fun _ => 0) dst a _ h)

/-- What the model keeps of pod `q` after a word of pod `p`'s SRAM is written. -/
theorem State.podOf_sramSet (s : State) (p a d q : Nat) (h : p < s.pod.pods.length) :
    (s.sramSet p a d).podOf q = if q = p
      then { s.podOf p with mem := Store.set (podBase (s.podOf p).img p a) (s.podOf p).mem a (d % 18446744073709551616) } else s.podOf q := by
  by_cases hq : q = p
  · subst hq; rw [if_pos rfl]; exact lget_lset_same _ _ _ _ h
  · rw [if_neg hq]; exact lget_lset_other _ _ _ _ _ hq

/-- Reading a word of pod SRAM after writing it gives the word, of 64 bits. -/
theorem State.sramAt_sramSet_same (s : State) (p a d : Nat) (h : p < s.pod.pods.length) :
    (s.sramSet p a d).sramAt p a = d % 18446744073709551616 := by
  simp [State.sramAt, State.podOf_sramSet _ _ _ _ _ h, Store.get_set_same]

/-- A write to pod SRAM leaves every other word of the pod. -/
theorem State.sramAt_sramSet_other (s : State) (p a b d : Nat) (h : p < s.pod.pods.length) (hb : b ≠ a) :
    (s.sramSet p a d).sramAt p b = s.sramAt p b := by
  simp [State.sramAt, State.podOf_sramSet _ _ _ _ _ h, Store.get_set_other _ _ _ _ _ _ hb]

/-- A protection pod's word reads back as written. -/
theorem State.podWordAt_podWrite_same (s : State) (p a d : Nat) (h : p < s.pod.pods.length) (h2 : p ≠ 2) :
    (s.podWrite p a d).podWordAt p a = d % 18446744073709551616 := by
  simp [State.podWrite, State.podWordAt, h2, State.sramAt_sramSet_same _ _ _ _ h]

/-- A write to a protection pod's memory leaves every other word of it. -/
theorem State.podWordAt_podWrite_other (s : State) (p a b d : Nat) (h : p < s.pod.pods.length) (h2 : p ≠ 2) (hb : b ≠ a) :
    (s.podWrite p a d).podWordAt p b = s.podWordAt p b := by
  simp [State.podWrite, State.podWordAt, h2, State.sramAt_sramSet_other _ _ _ _ _ h hb]

/-- A byte written into instance memory keeps its canonical form and the code. -/
theorem State.instWr_wf (s : State) (p : ProgSt) (a v : Nat) (h : Store.wf (fun _ => 0) p.mem = true) :
    Store.wf (fun _ => 0) (s.instWr p a v).mem = true ∧ (s.instWr p a v).img = p.img := by
  unfold State.instWr
  split
  · exact ⟨h, rfl⟩
  · exact ⟨Store.wf_set (fun _ => 0) p.mem a v h, rfl⟩

/-- So do the bytes of a word. -/
theorem State.instWr_foldl_wf (s : State) (o : Nat) (l : List (Nat × Nat)) (p : ProgSt) (h : Store.wf (fun _ => 0) p.mem = true) :
    Store.wf (fun _ => 0) (l.foldl (fun p e => s.instWr p (o * 8 + e.2) e.1) p).mem = true ∧
      (l.foldl (fun p e => s.instWr p (o * 8 + e.2) e.1) p).img = p.img := by
  induction l generalizing p with
  | nil => exact ⟨h, rfl⟩
  | cons e l ih =>
    rw [List.foldl_cons]
    have h1 := State.instWr_wf s p (o * 8 + e.2) e.1 h
    exact ⟨(ih _ h1.1).1, (ih _ h1.1).2.trans h1.2⟩

/-- A word written into a pod's SRAM keeps the canonical form of all. -/
theorem Memory.wf_sramSet (s : State) (p a d : Nat) (hp : p < s.pod.pods.length) (h : Memory.wf s = true) :
    Memory.wf (s.sramSet p a d) = true := by
  unfold Memory.wf at h ⊢
  simp only [Bool.and_eq_true, List.all_eq_true] at h ⊢
  refine ⟨⟨⟨h.1.1.1, fun q hq => ?_⟩, h.1.2⟩, h.2⟩
  rw [State.podOf_sramSet _ _ _ _ _ hp]
  by_cases hqp : q = p
  · subst hqp; simpa using Store.wf_set (podBase (s.podOf q).img q) _ a _ (h.1.1.2 q hq)
  · simpa [hqp] using h.1.1.2 q hq

/-- A program replaced by one whose instance memory and code have the canonical form keeps that of all. -/
theorem Memory.wf_setProg (s : State) (k : Nat) (x : ProgSt) (hm : Store.wf (fun _ => 0) x.mem = true)
    (hc : progWf x.img = true) (h : Memory.wf s = true) : Memory.wf (s.setProg k x) = true := by
  unfold Memory.wf at h ⊢
  simp only [Bool.and_eq_true, List.all_eq_true] at h ⊢
  refine ⟨⟨h.1.1, fun q hq => ?_⟩, h.2⟩
  by_cases hqk : q = k ∧ k < s.lgc.progs.length
  · obtain ⟨rfl, hk⟩ := hqk
    rw [show (s.setProg q x).prog q = x from lget_lset_same _ _ _ _ hk]; exact ⟨hm, hc⟩
  · by_cases hq' : q = k
    · have : (s.setProg k x).prog q = s.prog q := by
        have hk : s.lgc.progs.length ≤ k := by omega
        subst hq'; simp only [State.setProg, State.prog, lset_out _ _ _ hk]
      rw [this]; exact h.1.2 q hq
    · rw [show (s.setProg k x).prog q = s.prog q from lget_lset_other _ _ _ _ _ hq']; exact h.1.2 q hq

/-- A code word written keeps the canonical form of a program. -/
theorem progWf_code (g : ProgImg) (o d n : Nat) (h : progWf g = true) :
    progWf { g with code := Store.set 0 g.code o d, size := n } = true := by
  simp only [progWf, Bool.and_eq_true] at h ⊢
  exact ⟨Store.wf_set (fun _ => 0) _ _ _ h.1, h.2⟩

/-- What canonical form makes of listed data has it. -/
theorem Store.wf_canon {α : Type} [DecidableEq α] (d : α) (m : Store α) : Store.wf (fun _ => d) (Store.canon d m) = true := by
  induction m with
  | nil => rfl
  | cons e m ih => exact Store.wf_set (fun _ => d) _ e.1 e.2 ih

/-- So has a program put into it. -/
theorem progWf_canon (g : ProgImg) : progWf (progCanon g) = true := by
  simp only [progWf, progCanon, Store.wf_canon, Bool.and_self]

/-- Every write to a pod's memory keeps the canonical form of all, Pod L's code and instance memory with it. -/
theorem Memory.wf_podWrite (s : State) (p a d : Nat) (hp : p < s.pod.pods.length) (h : Memory.wf s = true) :
    Memory.wf (s.podWrite p a d) = true := by
  have hprog : ∀ k, k < 2 → Store.wf (fun _ => 0) (s.prog k).mem = true ∧ progWf (s.prog k).img = true := by
    intro k hk
    have h' := h
    unfold Memory.wf at h'
    simp only [Bool.and_eq_true, List.all_eq_true] at h'
    exact h'.1.2 k (by simp [upto]; omega)
  have hplace : ∀ k o, (s.lgcPlace a = .code k o ∨ s.lgcPlace a = .inst k o) → k < 2 := by
    intro k o; unfold State.lgcPlace; (repeat' split) <;> simp <;> omega
  unfold State.podWrite
  split
  · unfold State.lgcWrite
    split
    · next k o hl =>
      have hk := hprog k (hplace k o (.inl hl))
      exact Memory.wf_setProg s k _ hk.1 (progWf_code _ _ _ _ hk.2) h
    · split
      · next b hb =>
        unfold Memory.wf at h ⊢
        simp only [Bool.and_eq_true, hb] at h ⊢
        exact ⟨h.1, Store.wf_set (fun _ => 0) b _ _ h.2.1, h.2.2⟩
      · exact Memory.wf_sramSet s 2 a d (by omega) h
    · next k o hl =>
      have hk := hprog k (hplace k o (.inr hl))
      have hf := State.instWr_foldl_wf s o ((leBytes 8 d).zip (upto 8)) (s.prog k) hk.1
      exact Memory.wf_setProg s k _ hf.1 (by rw [hf.2]; exact hk.2) h
  · exact Memory.wf_sramSet s p a d hp h

/-- A register write keeps the canonical form of all three. -/
theorem Memory.wf_wr (s : State) (a : Nat) (w : Word) (h : Memory.wf s = true) : Memory.wf (s.wr a w) = true := by
  unfold Memory.wf at h ⊢
  simp only [Bool.and_eq_true] at h ⊢
  exact ⟨⟨⟨State.wr_wf s a w h.1.1.1, h.1.1.2⟩, h.1.2⟩, h.2⟩

/-- The state after reset lists nothing. -/
theorem Memory.wf_reset : Memory.wf State.reset = true := by rfl

end Sys2Proof.Machine
end

