-- ==== Sys2Proof/Laws/Run.lean ====
section
/-!
SUPPORT. What exec answers for each command: a next state, the command's effect at its instant. No effect touches the clock or
the waiting commands.
-/
namespace Sys2Proof.Machine

/-- An effect that touches neither the clock nor the waiting commands is what its command does. -/
theorem State.happen_run (s : State) (t : Nat) (f : State → State) (h1 : ∀ s, (f s).now = s.now)
    (h2 : ∀ s, (f s).pending = s.pending) : s.happen t f = .next (f (s.at t)) := by
  unfold State.happen
  have h3 : (f (s.at t)).pending = s.pending := h2 _
  simp only [← h1 (s.at t), ← h3]

theorem exec_evtQackWrite (t : Nat) (r : Requester) (q n : Nat) (s : State) :
    exec (.evtQackWrite t r q n) s = .next (((fun s => if decide (q < 2) && s.trAlive (reqIdx r) then evtQackWriteEff r q n s else s)) (s.at t)) := by
  have hfite := @State.ite_frame
  have hf1 := @evtQackWriteEff_frame
  exact State.happen_run s t ((fun s => if decide (q < 2) && s.trAlive (reqIdx r) then evtQackWriteEff r q n s else s)) (fun s => by simp [↓hfite, ↓hf1]) (fun s => by simp [↓hfite, ↓hf1])

theorem exec_logWrite (t : Nat) (s : State) :
    exec (.logWrite t) s = .next ((logWriteEff) (s.at t)) := by
  have hf1 := @logWriteEff_frame
  exact State.happen_run s t (logWriteEff) (fun s => by simp [↓hf1]) (fun s => by simp [↓hf1])

theorem exec_evtQdataCapture (t : Nat) (r : Requester) (q : Nat) (s : State) :
    exec (.evtQdataCapture t r q) s = .next (((fun s => if decide (q < 2) && s.trAlive (reqIdx r) then evtQdataCaptureEff r q s else s)) (s.at t)) := by
  have hfite := @State.ite_frame
  have hf1 := @evtQdataCaptureEff_frame
  exact State.happen_run s t ((fun s => if decide (q < 2) && s.trAlive (reqIdx r) then evtQdataCaptureEff r q s else s)) (fun s => by simp [↓hfite, ↓hf1]) (fun s => by simp [↓hfite, ↓hf1])

theorem exec_evtLdataRead (t : Nat) (r : Requester) (s : State) :
    exec (.evtLdataRead t r) s = .next (((fun s => if s.trAlive (reqIdx r) then evtLdataReadEff r s else s)) (s.at t)) := by
  have hfite := @State.ite_frame
  have hf1 := @evtLdataReadEff_frame
  exact State.happen_run s t ((fun s => if s.trAlive (reqIdx r) then evtLdataReadEff r s else s)) (fun s => by simp [↓hfite, ↓hf1]) (fun s => by simp [↓hfite, ↓hf1])

theorem exec_captureRead (t : Nat) (r : Requester) (a : Nat) (s : State) :
    exec (.captureRead t r a) s = .next (((fun s => if s.trAlive (reqIdx r) then captureReadEff r a s else s)) (s.at t)) := by
  have hfite := @State.ite_frame
  have hf1 := @captureReadEff_frame
  exact State.happen_run s t ((fun s => if s.trAlive (reqIdx r) then captureReadEff r a s else s)) (fun s => by simp [↓hfite, ↓hf1]) (fun s => by simp [↓hfite, ↓hf1])

theorem exec_timSampWrite (t : Nat) (r : Requester) (v : Nat) (s : State) :
    exec (.timSampWrite t r v) s = .next (((fun s => if s.trAlive (reqIdx r) then timSampWriteEff r v s else s)) (s.at t)) := by
  have hfite := @State.ite_frame
  have hf1 := @timSampWriteEff_frame
  exact State.happen_run s t ((fun s => if s.trAlive (reqIdx r) then timSampWriteEff r v s else s)) (fun s => by simp [↓hfite, ↓hf1]) (fun s => by simp [↓hfite, ↓hf1])

theorem exec_reservedAccess (t : Nat) (r : Requester) (a : Nat) (wr : Bool) (s : State) :
    exec (.reservedAccess t r a wr) s = .next (((fun s => if decide (a < 4294967296) && s.trAlive (reqIdx r) then reservedAccessEff r a wr s else s)) (s.at t)) := by
  have hfite := @State.ite_frame
  have hf1 := @reservedAccessEff_frame
  exact State.happen_run s t ((fun s => if decide (a < 4294967296) && s.trAlive (reqIdx r) then reservedAccessEff r a wr s else s)) (fun s => by simp [↓hfite, ↓hf1]) (fun s => by simp [↓hfite, ↓hf1])

theorem exec_registerWrite (t : Nat) (r : Requester) (a v : Nat) (s : State) :
    exec (.registerWrite t r a v) s = .next (((fun s => if decide (v < 4294967296) && s.trAlive (reqIdx r) then registerWriteEff r a v s else s)) (s.at t)) := by
  have hfite := @State.ite_frame
  have hf1 := @registerWriteEff_frame
  exact State.happen_run s t ((fun s => if decide (v < 4294967296) && s.trAlive (reqIdx r) then registerWriteEff r a v s else s)) (fun s => by simp [↓hfite, ↓hf1]) (fun s => by simp [↓hfite, ↓hf1])

theorem exec_xspiRead (t a n : Nat) (s : State) :
    exec (.xspiRead t a n) s = .next (((fun s => if decide (a < 4294967296) then xspiReadEff a n s else s)) (s.at t)) := by
  have hfite := @State.ite_frame
  have hf1 := @xspiReadEff_frame
  exact State.happen_run s t ((fun s => if decide (a < 4294967296) then xspiReadEff a n s else s)) (fun s => by simp [↓hfite, ↓hf1]) (fun s => by simp [↓hfite, ↓hf1])

theorem exec_xspiWrite (t a : Nat) (ws : List Nat) (part : Bool) (s : State) :
    exec (.xspiWrite t a ws part) s = .next (((fun s => if decide (a < 4294967296) && ws.all (fun b => decide (b < 4294967296)) then xspiWriteEff a ws part s else s)) (s.at t)) := by
  have hfite := @State.ite_frame
  have hf1 := @xspiWriteEff_frame
  exact State.happen_run s t ((fun s => if decide (a < 4294967296) && ws.all (fun b => decide (b < 4294967296)) then xspiWriteEff a ws part s else s)) (fun s => by simp [↓hfite, ↓hf1]) (fun s => by simp [↓hfite, ↓hf1])

theorem exec_xspiReadStat (t n : Nat) (s : State) :
    exec (.xspiReadStat t n) s = .next (((xspiReadStatEff n)) (s.at t)) := by
  have hf1 := @xspiReadStatEff_frame
  exact State.happen_run s t ((xspiReadStatEff n)) (fun s => by simp [↓hf1]) (fun s => by simp [↓hf1])

theorem exec_xspiUndefinedCode (t code : Nat) (s : State) :
    exec (.xspiUndefinedCode t code) s = .next (((fun s => if decide (code < 256) then xspiUndefinedCodeEff code s else s)) (s.at t)) := by
  have hfite := @State.ite_frame
  have hf1 := @xspiUndefinedCodeEff_frame
  exact State.happen_run s t ((fun s => if decide (code < 256) then xspiUndefinedCodeEff code s else s)) (fun s => by simp [↓hfite, ↓hf1]) (fun s => by simp [↓hfite, ↓hf1])

theorem exec_arbitrationOpen (t g : Nat) (s : State) :
    exec (.arbitrationOpen t g) s = .next (((fun s => if decide (g < 8) then arbitrationOpenEff g s else s)) (s.at t)) := by
  have hfite := @State.ite_frame
  have hf1 := @arbitrationOpenEff_frame
  exact State.happen_run s t ((fun s => if decide (g < 8) then arbitrationOpenEff g s else s)) (fun s => by simp [↓hfite, ↓hf1]) (fun s => by simp [↓hfite, ↓hf1])

theorem exec_arbitrationDecision (t g : Nat) (s : State) :
    exec (.arbitrationDecision t g) s = .next (((fun s => if decide (g < 8) then arbitrationDecisionEff g s else s)) (s.at t)) := by
  have hfite := @State.ite_frame
  have hf1 := @arbitrationDecisionEff_frame
  exact State.happen_run s t ((fun s => if decide (g < 8) then arbitrationDecisionEff g s else s)) (fun s => by simp [↓hfite, ↓hf1]) (fun s => by simp [↓hfite, ↓hf1])

theorem exec_rotationStepStart (t g : Nat) (s : State) :
    exec (.rotationStepStart t g) s = .next (((fun s => if decide (g < 8) then rotationStepStartEff g s else s)) (s.at t)) := by
  have hfite := @State.ite_frame
  have hf1 := @rotationStepStartEff_frame
  exact State.happen_run s t ((fun s => if decide (g < 8) then rotationStepStartEff g s else s)) (fun s => by simp [↓hfite, ↓hf1]) (fun s => by simp [↓hfite, ↓hf1])

theorem exec_shadowEnd (t g : Nat) (s : State) :
    exec (.shadowEnd t g) s = .next (((fun s => if decide (g < 8) then shadowEndEff g s else s)) (s.at t)) := by
  have hfite := @State.ite_frame
  have hf1 := @shadowEndEff_frame
  exact State.happen_run s t ((fun s => if decide (g < 8) then shadowEndEff g s else s)) (fun s => by simp [↓hfite, ↓hf1]) (fun s => by simp [↓hfite, ↓hf1])

theorem exec_sliceCalibrationDone (t g : Nat) (cal : SliceCal) (s : State) :
    exec (.sliceCalibrationDone t g cal) s = .next (((fun s => if decide (g < 8) then sliceCalibrationDoneEff g cal s else s)) (s.at t)) := by
  have hfite := @State.ite_frame
  have hf1 := @sliceCalibrationDoneEff_frame
  exact State.happen_run s t ((fun s => if decide (g < 8) then sliceCalibrationDoneEff g cal s else s)) (fun s => by simp [↓hfite, ↓hf1]) (fun s => by simp [↓hfite, ↓hf1])

theorem exec_cnvRefreqWrite (t : Nat) (r : Requester) (g v : Nat) (s : State) :
    exec (.cnvRefreqWrite t r g v) s = .next (((fun s => if decide (g < 8) && s.trAlive (reqIdx r) then cnvRefreqWriteEff r g v s else s)) (s.at t)) := by
  have hfite := @State.ite_frame
  have hf1 := @cnvRefreqWriteEff_frame
  exact State.happen_run s t ((fun s => if decide (g < 8) && s.trAlive (reqIdx r) then cnvRefreqWriteEff r g v s else s)) (fun s => by simp [↓hfite, ↓hf1]) (fun s => by simp [↓hfite, ↓hf1])

theorem exec_refSettledRise (t g : Nat) (s : State) :
    exec (.refSettledRise t g) s = .next (((fun s => if decide (g < 8) then refSettledRiseEff g s else s)) (s.at t)) := by
  have hfite := @State.ite_frame
  have hf1 := @refSettledRiseEff_frame
  exact State.happen_run s t ((fun s => if decide (g < 8) then refSettledRiseEff g s else s)) (fun s => by simp [↓hfite, ↓hf1]) (fun s => by simp [↓hfite, ↓hf1])

theorem exec_refWindowFault (t g : Nat) (s : State) :
    exec (.refWindowFault t g) s = .next (((fun s => if decide (g < 8) then refWindowFaultEff g s else s)) (s.at t)) := by
  have hfite := @State.ite_frame
  have hf1 := @refWindowFaultEff_frame
  exact State.happen_run s t ((fun s => if decide (g < 8) then refWindowFaultEff g s else s)) (fun s => by simp [↓hfite, ↓hf1]) (fun s => by simp [↓hfite, ↓hf1])

theorem exec_refSettlingFault (t g : Nat) (s : State) :
    exec (.refSettlingFault t g) s = .next (((fun s => if decide (g < 8) then refSettlingFaultEff g s else s)) (s.at t)) := by
  have hfite := @State.ite_frame
  have hf1 := @refSettlingFaultEff_frame
  exact State.happen_run s t ((fun s => if decide (g < 8) then refSettlingFaultEff g s else s)) (fun s => by simp [↓hfite, ↓hf1]) (fun s => by simp [↓hfite, ↓hf1])

theorem exec_auxStart (t : Nat) (r : Requester) (s : State) :
    exec (.auxStart t r) s = .next (((fun s => if s.trAlive (reqIdx r) then auxStartEff r s else s)) (s.at t)) := by
  have hfite := @State.ite_frame
  have hf1 := @auxStartEff_frame
  exact State.happen_run s t ((fun s => if s.trAlive (reqIdx r) then auxStartEff r s else s)) (fun s => by simp [↓hfite, ↓hf1]) (fun s => by simp [↓hfite, ↓hf1])

theorem exec_auxStop (t : Nat) (r : Requester) (s : State) :
    exec (.auxStop t r) s = .next (((fun s => if s.trAlive (reqIdx r) then auxStopEff r s else s)) (s.at t)) := by
  have hfite := @State.ite_frame
  have hf1 := @auxStopEff_frame
  exact State.happen_run s t ((fun s => if s.trAlive (reqIdx r) then auxStopEff r s else s)) (fun s => by simp [↓hfite, ↓hf1]) (fun s => by simp [↓hfite, ↓hf1])

theorem exec_auxClrCnt (t : Nat) (r : Requester) (s : State) :
    exec (.auxClrCnt t r) s = .next (((fun s => if s.trAlive (reqIdx r) then auxClrCntEff r s else s)) (s.at t)) := by
  have hfite := @State.ite_frame
  have hf1 := @auxClrCntEff_frame
  exact State.happen_run s t ((fun s => if s.trAlive (reqIdx r) then auxClrCntEff r s else s)) (fun s => by simp [↓hfite, ↓hf1]) (fun s => by simp [↓hfite, ↓hf1])

theorem exec_auxFlush (t : Nat) (r : Requester) (s : State) :
    exec (.auxFlush t r) s = .next (((fun s => if s.trAlive (reqIdx r) then auxFlushEff r s else s)) (s.at t)) := by
  have hfite := @State.ite_frame
  have hf1 := @auxFlushEff_frame
  exact State.happen_run s t ((fun s => if s.trAlive (reqIdx r) then auxFlushEff r s else s)) (fun s => by simp [↓hfite, ↓hf1]) (fun s => by simp [↓hfite, ↓hf1])

theorem exec_auxEntryDone (t : Nat) (codes : List Int) (s : State) :
    exec (.auxEntryDone t codes) s = .next (((auxEntryDoneEff codes)) (s.at t)) := by
  have hf1 := @auxEntryDoneEff_frame
  exact State.happen_run s t ((auxEntryDoneEff codes)) (fun s => by simp [↓hf1]) (fun s => by simp [↓hf1])

theorem exec_auxPeriodStart (t : Nat) (s : State) :
    exec (.auxPeriodStart t) s = .next ((auxPeriodStartEff) (s.at t)) := by
  have hf1 := @auxPeriodStartEff_frame
  exact State.happen_run s t (auxPeriodStartEff) (fun s => by simp [↓hf1]) (fun s => by simp [↓hf1])

theorem exec_auxSnapGo (t : Nat) (r : Requester) (s : State) :
    exec (.auxSnapGo t r) s = .next (((fun s => if s.trAlive (reqIdx r) then auxSnapGoEff r s else s)) (s.at t)) := by
  have hfite := @State.ite_frame
  have hf1 := @auxSnapGoEff_frame
  exact State.happen_run s t ((fun s => if s.trAlive (reqIdx r) then auxSnapGoEff r s else s)) (fun s => by simp [↓hfite, ↓hf1]) (fun s => by simp [↓hfite, ↓hf1])

theorem exec_auxSnapCapture (t : Nat) (s : State) :
    exec (.auxSnapCapture t) s = .next ((auxSnapCaptureEff) (s.at t)) := by
  have hf1 := @auxSnapCaptureEff_frame
  exact State.happen_run s t (auxSnapCaptureEff) (fun s => by simp [↓hf1]) (fun s => by simp [↓hf1])

theorem exec_auxQdataRead (t : Nat) (r : Requester) (s : State) :
    exec (.auxQdataRead t r) s = .next (((fun s => if s.trAlive (reqIdx r) then auxQdataReadEff r s else s)) (s.at t)) := by
  have hfite := @State.ite_frame
  have hf1 := @auxQdataReadEff_frame
  exact State.happen_run s t ((fun s => if s.trAlive (reqIdx r) then auxQdataReadEff r s else s)) (fun s => by simp [↓hfite, ↓hf1]) (fun s => by simp [↓hfite, ↓hf1])

theorem exec_blkEnd (t k : Nat) (s : State) :
    exec (.blkEnd t k) s = .next (((fun s => if decide (k < 2) then blkEndEff k s else s)) (s.at t)) := by
  have hfite := @State.ite_frame
  have hf1 := @blkEndEff_frame
  exact State.happen_run s t ((fun s => if decide (k < 2) then blkEndEff k s else s)) (fun s => by simp [↓hfite, ↓hf1]) (fun s => by simp [↓hfite, ↓hf1])

theorem exec_blkAnd (t k : Nat) (s : State) :
    exec (.blkAnd t k) s = .next (((fun s => if decide (k < 2) then blkAndEff k s else s)) (s.at t)) := by
  have hfite := @State.ite_frame
  have hf1 := @blkAndEff_frame
  exact State.happen_run s t ((fun s => if decide (k < 2) then blkAndEff k s else s)) (fun s => by simp [↓hfite, ↓hf1]) (fun s => by simp [↓hfite, ↓hf1])

theorem exec_blkOr (t k : Nat) (s : State) :
    exec (.blkOr t k) s = .next (((fun s => if decide (k < 2) then blkOrEff k s else s)) (s.at t)) := by
  have hfite := @State.ite_frame
  have hf1 := @blkOrEff_frame
  exact State.happen_run s t ((fun s => if decide (k < 2) then blkOrEff k s else s)) (fun s => by simp [↓hfite, ↓hf1]) (fun s => by simp [↓hfite, ↓hf1])

theorem exec_blkXor (t k : Nat) (s : State) :
    exec (.blkXor t k) s = .next (((fun s => if decide (k < 2) then blkXorEff k s else s)) (s.at t)) := by
  have hfite := @State.ite_frame
  have hf1 := @blkXorEff_frame
  exact State.happen_run s t ((fun s => if decide (k < 2) then blkXorEff k s else s)) (fun s => by simp [↓hfite, ↓hf1]) (fun s => by simp [↓hfite, ↓hf1])

theorem exec_blkNot (t k : Nat) (s : State) :
    exec (.blkNot t k) s = .next (((fun s => if decide (k < 2) then blkNotEff k s else s)) (s.at t)) := by
  have hfite := @State.ite_frame
  have hf1 := @blkNotEff_frame
  exact State.happen_run s t ((fun s => if decide (k < 2) then blkNotEff k s else s)) (fun s => by simp [↓hfite, ↓hf1]) (fun s => by simp [↓hfite, ↓hf1])

theorem exec_blkSr (t k : Nat) (s : State) :
    exec (.blkSr t k) s = .next (((fun s => if decide (k < 2) then blkSrEff k s else s)) (s.at t)) := by
  have hfite := @State.ite_frame
  have hf1 := @blkSrEff_frame
  exact State.happen_run s t ((fun s => if decide (k < 2) then blkSrEff k s else s)) (fun s => by simp [↓hfite, ↓hf1]) (fun s => by simp [↓hfite, ↓hf1])

theorem exec_blkRs (t k : Nat) (s : State) :
    exec (.blkRs t k) s = .next (((fun s => if decide (k < 2) then blkRsEff k s else s)) (s.at t)) := by
  have hfite := @State.ite_frame
  have hf1 := @blkRsEff_frame
  exact State.happen_run s t ((fun s => if decide (k < 2) then blkRsEff k s else s)) (fun s => by simp [↓hfite, ↓hf1]) (fun s => by simp [↓hfite, ↓hf1])

theorem exec_blkMaj3 (t k : Nat) (s : State) :
    exec (.blkMaj3 t k) s = .next (((fun s => if decide (k < 2) then blkMaj3Eff k s else s)) (s.at t)) := by
  have hfite := @State.ite_frame
  have hf1 := @blkMaj3Eff_frame
  exact State.happen_run s t ((fun s => if decide (k < 2) then blkMaj3Eff k s else s)) (fun s => by simp [↓hfite, ↓hf1]) (fun s => by simp [↓hfite, ↓hf1])

theorem exec_blkKofn (t k : Nat) (s : State) :
    exec (.blkKofn t k) s = .next (((fun s => if decide (k < 2) then blkKofnEff k s else s)) (s.at t)) := by
  have hfite := @State.ite_frame
  have hf1 := @blkKofnEff_frame
  exact State.happen_run s t ((fun s => if decide (k < 2) then blkKofnEff k s else s)) (fun s => by simp [↓hfite, ↓hf1]) (fun s => by simp [↓hfite, ↓hf1])

theorem exec_blkRTrig (t k : Nat) (s : State) :
    exec (.blkRTrig t k) s = .next (((fun s => if decide (k < 2) then blkRTrigEff k s else s)) (s.at t)) := by
  have hfite := @State.ite_frame
  have hf1 := @blkRTrigEff_frame
  exact State.happen_run s t ((fun s => if decide (k < 2) then blkRTrigEff k s else s)) (fun s => by simp [↓hfite, ↓hf1]) (fun s => by simp [↓hfite, ↓hf1])

theorem exec_blkFTrig (t k : Nat) (s : State) :
    exec (.blkFTrig t k) s = .next (((fun s => if decide (k < 2) then blkFTrigEff k s else s)) (s.at t)) := by
  have hfite := @State.ite_frame
  have hf1 := @blkFTrigEff_frame
  exact State.happen_run s t ((fun s => if decide (k < 2) then blkFTrigEff k s else s)) (fun s => by simp [↓hfite, ↓hf1]) (fun s => by simp [↓hfite, ↓hf1])

theorem exec_blkTon (t k : Nat) (s : State) :
    exec (.blkTon t k) s = .next (((fun s => if decide (k < 2) then blkTonEff k s else s)) (s.at t)) := by
  have hfite := @State.ite_frame
  have hf1 := @blkTonEff_frame
  exact State.happen_run s t ((fun s => if decide (k < 2) then blkTonEff k s else s)) (fun s => by simp [↓hfite, ↓hf1]) (fun s => by simp [↓hfite, ↓hf1])

theorem exec_blkTof (t k : Nat) (s : State) :
    exec (.blkTof t k) s = .next (((fun s => if decide (k < 2) then blkTofEff k s else s)) (s.at t)) := by
  have hfite := @State.ite_frame
  have hf1 := @blkTofEff_frame
  exact State.happen_run s t ((fun s => if decide (k < 2) then blkTofEff k s else s)) (fun s => by simp [↓hfite, ↓hf1]) (fun s => by simp [↓hfite, ↓hf1])

theorem exec_blkTp (t k : Nat) (s : State) :
    exec (.blkTp t k) s = .next (((fun s => if decide (k < 2) then blkTpEff k s else s)) (s.at t)) := by
  have hfite := @State.ite_frame
  have hf1 := @blkTpEff_frame
  exact State.happen_run s t ((fun s => if decide (k < 2) then blkTpEff k s else s)) (fun s => by simp [↓hfite, ↓hf1]) (fun s => by simp [↓hfite, ↓hf1])

theorem exec_blkCtu (t k : Nat) (s : State) :
    exec (.blkCtu t k) s = .next (((fun s => if decide (k < 2) then blkCtuEff k s else s)) (s.at t)) := by
  have hfite := @State.ite_frame
  have hf1 := @blkCtuEff_frame
  exact State.happen_run s t ((fun s => if decide (k < 2) then blkCtuEff k s else s)) (fun s => by simp [↓hfite, ↓hf1]) (fun s => by simp [↓hfite, ↓hf1])

theorem exec_blkCtd (t k : Nat) (s : State) :
    exec (.blkCtd t k) s = .next (((fun s => if decide (k < 2) then blkCtdEff k s else s)) (s.at t)) := by
  have hfite := @State.ite_frame
  have hf1 := @blkCtdEff_frame
  exact State.happen_run s t ((fun s => if decide (k < 2) then blkCtdEff k s else s)) (fun s => by simp [↓hfite, ↓hf1]) (fun s => by simp [↓hfite, ↓hf1])

theorem exec_blkCtud (t k : Nat) (s : State) :
    exec (.blkCtud t k) s = .next (((fun s => if decide (k < 2) then blkCtudEff k s else s)) (s.at t)) := by
  have hfite := @State.ite_frame
  have hf1 := @blkCtudEff_frame
  exact State.happen_run s t ((fun s => if decide (k < 2) then blkCtudEff k s else s)) (fun s => by simp [↓hfite, ↓hf1]) (fun s => by simp [↓hfite, ↓hf1])

theorem exec_blkEq (t k : Nat) (s : State) :
    exec (.blkEq t k) s = .next (((fun s => if decide (k < 2) then blkEqEff k s else s)) (s.at t)) := by
  have hfite := @State.ite_frame
  have hf1 := @blkEqEff_frame
  exact State.happen_run s t ((fun s => if decide (k < 2) then blkEqEff k s else s)) (fun s => by simp [↓hfite, ↓hf1]) (fun s => by simp [↓hfite, ↓hf1])

theorem exec_blkNe (t k : Nat) (s : State) :
    exec (.blkNe t k) s = .next (((fun s => if decide (k < 2) then blkNeEff k s else s)) (s.at t)) := by
  have hfite := @State.ite_frame
  have hf1 := @blkNeEff_frame
  exact State.happen_run s t ((fun s => if decide (k < 2) then blkNeEff k s else s)) (fun s => by simp [↓hfite, ↓hf1]) (fun s => by simp [↓hfite, ↓hf1])

theorem exec_blkGt (t k : Nat) (s : State) :
    exec (.blkGt t k) s = .next (((fun s => if decide (k < 2) then blkGtEff k s else s)) (s.at t)) := by
  have hfite := @State.ite_frame
  have hf1 := @blkGtEff_frame
  exact State.happen_run s t ((fun s => if decide (k < 2) then blkGtEff k s else s)) (fun s => by simp [↓hfite, ↓hf1]) (fun s => by simp [↓hfite, ↓hf1])

theorem exec_blkGe (t k : Nat) (s : State) :
    exec (.blkGe t k) s = .next (((fun s => if decide (k < 2) then blkGeEff k s else s)) (s.at t)) := by
  have hfite := @State.ite_frame
  have hf1 := @blkGeEff_frame
  exact State.happen_run s t ((fun s => if decide (k < 2) then blkGeEff k s else s)) (fun s => by simp [↓hfite, ↓hf1]) (fun s => by simp [↓hfite, ↓hf1])

theorem exec_blkLt (t k : Nat) (s : State) :
    exec (.blkLt t k) s = .next (((fun s => if decide (k < 2) then blkLtEff k s else s)) (s.at t)) := by
  have hfite := @State.ite_frame
  have hf1 := @blkLtEff_frame
  exact State.happen_run s t ((fun s => if decide (k < 2) then blkLtEff k s else s)) (fun s => by simp [↓hfite, ↓hf1]) (fun s => by simp [↓hfite, ↓hf1])

theorem exec_blkLe (t k : Nat) (s : State) :
    exec (.blkLe t k) s = .next (((fun s => if decide (k < 2) then blkLeEff k s else s)) (s.at t)) := by
  have hfite := @State.ite_frame
  have hf1 := @blkLeEff_frame
  exact State.happen_run s t ((fun s => if decide (k < 2) then blkLeEff k s else s)) (fun s => by simp [↓hfite, ↓hf1]) (fun s => by simp [↓hfite, ↓hf1])

theorem exec_blkHyst (t k : Nat) (s : State) :
    exec (.blkHyst t k) s = .next (((fun s => if decide (k < 2) then blkHystEff k s else s)) (s.at t)) := by
  have hfite := @State.ite_frame
  have hf1 := @blkHystEff_frame
  exact State.happen_run s t ((fun s => if decide (k < 2) then blkHystEff k s else s)) (fun s => by simp [↓hfite, ↓hf1]) (fun s => by simp [↓hfite, ↓hf1])

theorem exec_blkAdd (t k : Nat) (s : State) :
    exec (.blkAdd t k) s = .next (((fun s => if decide (k < 2) then blkAddEff k s else s)) (s.at t)) := by
  have hfite := @State.ite_frame
  have hf1 := @blkAddEff_frame
  exact State.happen_run s t ((fun s => if decide (k < 2) then blkAddEff k s else s)) (fun s => by simp [↓hfite, ↓hf1]) (fun s => by simp [↓hfite, ↓hf1])

theorem exec_blkSub (t k : Nat) (s : State) :
    exec (.blkSub t k) s = .next (((fun s => if decide (k < 2) then blkSubEff k s else s)) (s.at t)) := by
  have hfite := @State.ite_frame
  have hf1 := @blkSubEff_frame
  exact State.happen_run s t ((fun s => if decide (k < 2) then blkSubEff k s else s)) (fun s => by simp [↓hfite, ↓hf1]) (fun s => by simp [↓hfite, ↓hf1])

theorem exec_blkMul (t k : Nat) (s : State) :
    exec (.blkMul t k) s = .next (((fun s => if decide (k < 2) then blkMulEff k s else s)) (s.at t)) := by
  have hfite := @State.ite_frame
  have hf1 := @blkMulEff_frame
  exact State.happen_run s t ((fun s => if decide (k < 2) then blkMulEff k s else s)) (fun s => by simp [↓hfite, ↓hf1]) (fun s => by simp [↓hfite, ↓hf1])

theorem exec_blkDiv (t k : Nat) (s : State) :
    exec (.blkDiv t k) s = .next (((fun s => if decide (k < 2) then blkDivEff k s else s)) (s.at t)) := by
  have hfite := @State.ite_frame
  have hf1 := @blkDivEff_frame
  exact State.happen_run s t ((fun s => if decide (k < 2) then blkDivEff k s else s)) (fun s => by simp [↓hfite, ↓hf1]) (fun s => by simp [↓hfite, ↓hf1])

theorem exec_blkMod (t k : Nat) (s : State) :
    exec (.blkMod t k) s = .next (((fun s => if decide (k < 2) then blkModEff k s else s)) (s.at t)) := by
  have hfite := @State.ite_frame
  have hf1 := @blkModEff_frame
  exact State.happen_run s t ((fun s => if decide (k < 2) then blkModEff k s else s)) (fun s => by simp [↓hfite, ↓hf1]) (fun s => by simp [↓hfite, ↓hf1])

theorem exec_blkAbs (t k : Nat) (s : State) :
    exec (.blkAbs t k) s = .next (((fun s => if decide (k < 2) then blkAbsEff k s else s)) (s.at t)) := by
  have hfite := @State.ite_frame
  have hf1 := @blkAbsEff_frame
  exact State.happen_run s t ((fun s => if decide (k < 2) then blkAbsEff k s else s)) (fun s => by simp [↓hfite, ↓hf1]) (fun s => by simp [↓hfite, ↓hf1])

theorem exec_blkNeg (t k : Nat) (s : State) :
    exec (.blkNeg t k) s = .next (((fun s => if decide (k < 2) then blkNegEff k s else s)) (s.at t)) := by
  have hfite := @State.ite_frame
  have hf1 := @blkNegEff_frame
  exact State.happen_run s t ((fun s => if decide (k < 2) then blkNegEff k s else s)) (fun s => by simp [↓hfite, ↓hf1]) (fun s => by simp [↓hfite, ↓hf1])

theorem exec_blkSqrt (t k : Nat) (s : State) :
    exec (.blkSqrt t k) s = .next (((fun s => if decide (k < 2) then blkSqrtEff k s else s)) (s.at t)) := by
  have hfite := @State.ite_frame
  have hf1 := @blkSqrtEff_frame
  exact State.happen_run s t ((fun s => if decide (k < 2) then blkSqrtEff k s else s)) (fun s => by simp [↓hfite, ↓hf1]) (fun s => by simp [↓hfite, ↓hf1])

theorem exec_blkMin (t k : Nat) (s : State) :
    exec (.blkMin t k) s = .next (((fun s => if decide (k < 2) then blkMinEff k s else s)) (s.at t)) := by
  have hfite := @State.ite_frame
  have hf1 := @blkMinEff_frame
  exact State.happen_run s t ((fun s => if decide (k < 2) then blkMinEff k s else s)) (fun s => by simp [↓hfite, ↓hf1]) (fun s => by simp [↓hfite, ↓hf1])

theorem exec_blkMax (t k : Nat) (s : State) :
    exec (.blkMax t k) s = .next (((fun s => if decide (k < 2) then blkMaxEff k s else s)) (s.at t)) := by
  have hfite := @State.ite_frame
  have hf1 := @blkMaxEff_frame
  exact State.happen_run s t ((fun s => if decide (k < 2) then blkMaxEff k s else s)) (fun s => by simp [↓hfite, ↓hf1]) (fun s => by simp [↓hfite, ↓hf1])

theorem exec_blkSel (t k : Nat) (s : State) :
    exec (.blkSel t k) s = .next (((fun s => if decide (k < 2) then blkSelEff k s else s)) (s.at t)) := by
  have hfite := @State.ite_frame
  have hf1 := @blkSelEff_frame
  exact State.happen_run s t ((fun s => if decide (k < 2) then blkSelEff k s else s)) (fun s => by simp [↓hfite, ↓hf1]) (fun s => by simp [↓hfite, ↓hf1])

theorem exec_blkMux (t k : Nat) (s : State) :
    exec (.blkMux t k) s = .next (((fun s => if decide (k < 2) then blkMuxEff k s else s)) (s.at t)) := by
  have hfite := @State.ite_frame
  have hf1 := @blkMuxEff_frame
  exact State.happen_run s t ((fun s => if decide (k < 2) then blkMuxEff k s else s)) (fun s => by simp [↓hfite, ↓hf1]) (fun s => by simp [↓hfite, ↓hf1])

theorem exec_blkLimit (t k : Nat) (s : State) :
    exec (.blkLimit t k) s = .next (((fun s => if decide (k < 2) then blkLimitEff k s else s)) (s.at t)) := by
  have hfite := @State.ite_frame
  have hf1 := @blkLimitEff_frame
  exact State.happen_run s t ((fun s => if decide (k < 2) then blkLimitEff k s else s)) (fun s => by simp [↓hfite, ↓hf1]) (fun s => by simp [↓hfite, ↓hf1])

theorem exec_blkMove (t k : Nat) (s : State) :
    exec (.blkMove t k) s = .next (((fun s => if decide (k < 2) then blkMoveEff k s else s)) (s.at t)) := by
  have hfite := @State.ite_frame
  have hf1 := @blkMoveEff_frame
  exact State.happen_run s t ((fun s => if decide (k < 2) then blkMoveEff k s else s)) (fun s => by simp [↓hfite, ↓hf1]) (fun s => by simp [↓hfite, ↓hf1])

theorem exec_blkPack (t k : Nat) (s : State) :
    exec (.blkPack t k) s = .next (((fun s => if decide (k < 2) then blkPackEff k s else s)) (s.at t)) := by
  have hfite := @State.ite_frame
  have hf1 := @blkPackEff_frame
  exact State.happen_run s t ((fun s => if decide (k < 2) then blkPackEff k s else s)) (fun s => by simp [↓hfite, ↓hf1]) (fun s => by simp [↓hfite, ↓hf1])

theorem exec_blkUnpack (t k : Nat) (s : State) :
    exec (.blkUnpack t k) s = .next (((fun s => if decide (k < 2) then blkUnpackEff k s else s)) (s.at t)) := by
  have hfite := @State.ite_frame
  have hf1 := @blkUnpackEff_frame
  exact State.happen_run s t ((fun s => if decide (k < 2) then blkUnpackEff k s else s)) (fun s => by simp [↓hfite, ↓hf1]) (fun s => by simp [↓hfite, ↓hf1])

theorem exec_blkBand (t k : Nat) (s : State) :
    exec (.blkBand t k) s = .next (((fun s => if decide (k < 2) then blkBandEff k s else s)) (s.at t)) := by
  have hfite := @State.ite_frame
  have hf1 := @blkBandEff_frame
  exact State.happen_run s t ((fun s => if decide (k < 2) then blkBandEff k s else s)) (fun s => by simp [↓hfite, ↓hf1]) (fun s => by simp [↓hfite, ↓hf1])

theorem exec_blkBor (t k : Nat) (s : State) :
    exec (.blkBor t k) s = .next (((fun s => if decide (k < 2) then blkBorEff k s else s)) (s.at t)) := by
  have hfite := @State.ite_frame
  have hf1 := @blkBorEff_frame
  exact State.happen_run s t ((fun s => if decide (k < 2) then blkBorEff k s else s)) (fun s => by simp [↓hfite, ↓hf1]) (fun s => by simp [↓hfite, ↓hf1])

theorem exec_blkBxor (t k : Nat) (s : State) :
    exec (.blkBxor t k) s = .next (((fun s => if decide (k < 2) then blkBxorEff k s else s)) (s.at t)) := by
  have hfite := @State.ite_frame
  have hf1 := @blkBxorEff_frame
  exact State.happen_run s t ((fun s => if decide (k < 2) then blkBxorEff k s else s)) (fun s => by simp [↓hfite, ↓hf1]) (fun s => by simp [↓hfite, ↓hf1])

theorem exec_blkShl (t k : Nat) (s : State) :
    exec (.blkShl t k) s = .next (((fun s => if decide (k < 2) then blkShlEff k s else s)) (s.at t)) := by
  have hfite := @State.ite_frame
  have hf1 := @blkShlEff_frame
  exact State.happen_run s t ((fun s => if decide (k < 2) then blkShlEff k s else s)) (fun s => by simp [↓hfite, ↓hf1]) (fun s => by simp [↓hfite, ↓hf1])

theorem exec_blkShr (t k : Nat) (s : State) :
    exec (.blkShr t k) s = .next (((fun s => if decide (k < 2) then blkShrEff k s else s)) (s.at t)) := by
  have hfite := @State.ite_frame
  have hf1 := @blkShrEff_frame
  exact State.happen_run s t ((fun s => if decide (k < 2) then blkShrEff k s else s)) (fun s => by simp [↓hfite, ↓hf1]) (fun s => by simp [↓hfite, ↓hf1])

theorem exec_blkI2r (t k : Nat) (s : State) :
    exec (.blkI2r t k) s = .next (((fun s => if decide (k < 2) then blkI2rEff k s else s)) (s.at t)) := by
  have hfite := @State.ite_frame
  have hf1 := @blkI2rEff_frame
  exact State.happen_run s t ((fun s => if decide (k < 2) then blkI2rEff k s else s)) (fun s => by simp [↓hfite, ↓hf1]) (fun s => by simp [↓hfite, ↓hf1])

theorem exec_blkR2i (t k : Nat) (s : State) :
    exec (.blkR2i t k) s = .next (((fun s => if decide (k < 2) then blkR2iEff k s else s)) (s.at t)) := by
  have hfite := @State.ite_frame
  have hf1 := @blkR2iEff_frame
  exact State.happen_run s t ((fun s => if decide (k < 2) then blkR2iEff k s else s)) (fun s => by simp [↓hfite, ↓hf1]) (fun s => by simp [↓hfite, ↓hf1])

theorem exec_blkB2i (t k : Nat) (s : State) :
    exec (.blkB2i t k) s = .next (((fun s => if decide (k < 2) then blkB2iEff k s else s)) (s.at t)) := by
  have hfite := @State.ite_frame
  have hf1 := @blkB2iEff_frame
  exact State.happen_run s t ((fun s => if decide (k < 2) then blkB2iEff k s else s)) (fun s => by simp [↓hfite, ↓hf1]) (fun s => by simp [↓hfite, ↓hf1])

theorem exec_blkI2b (t k : Nat) (s : State) :
    exec (.blkI2b t k) s = .next (((fun s => if decide (k < 2) then blkI2bEff k s else s)) (s.at t)) := by
  have hfite := @State.ite_frame
  have hf1 := @blkI2bEff_frame
  exact State.happen_run s t ((fun s => if decide (k < 2) then blkI2bEff k s else s)) (fun s => by simp [↓hfite, ↓hf1]) (fun s => by simp [↓hfite, ↓hf1])

theorem exec_blkT2i (t k : Nat) (s : State) :
    exec (.blkT2i t k) s = .next (((fun s => if decide (k < 2) then blkT2iEff k s else s)) (s.at t)) := by
  have hfite := @State.ite_frame
  have hf1 := @blkT2iEff_frame
  exact State.happen_run s t ((fun s => if decide (k < 2) then blkT2iEff k s else s)) (fun s => by simp [↓hfite, ↓hf1]) (fun s => by simp [↓hfite, ↓hf1])

theorem exec_blkI2t (t k : Nat) (s : State) :
    exec (.blkI2t t k) s = .next (((fun s => if decide (k < 2) then blkI2tEff k s else s)) (s.at t)) := by
  have hfite := @State.ite_frame
  have hf1 := @blkI2tEff_frame
  exact State.happen_run s t ((fun s => if decide (k < 2) then blkI2tEff k s else s)) (fun s => by simp [↓hfite, ↓hf1]) (fun s => by simp [↓hfite, ↓hf1])

theorem exec_blkT2r (t k : Nat) (s : State) :
    exec (.blkT2r t k) s = .next (((fun s => if decide (k < 2) then blkT2rEff k s else s)) (s.at t)) := by
  have hfite := @State.ite_frame
  have hf1 := @blkT2rEff_frame
  exact State.happen_run s t ((fun s => if decide (k < 2) then blkT2rEff k s else s)) (fun s => by simp [↓hfite, ↓hf1]) (fun s => by simp [↓hfite, ↓hf1])

theorem exec_blkR2t (t k : Nat) (s : State) :
    exec (.blkR2t t k) s = .next (((fun s => if decide (k < 2) then blkR2tEff k s else s)) (s.at t)) := by
  have hfite := @State.ite_frame
  have hf1 := @blkR2tEff_frame
  exact State.happen_run s t ((fun s => if decide (k < 2) then blkR2tEff k s else s)) (fun s => by simp [↓hfite, ↓hf1]) (fun s => by simp [↓hfite, ↓hf1])

theorem exec_blkNow (t k : Nat) (s : State) :
    exec (.blkNow t k) s = .next (((fun s => if decide (k < 2) then blkNowEff k s else s)) (s.at t)) := by
  have hfite := @State.ite_frame
  have hf1 := @blkNowEff_frame
  exact State.happen_run s t ((fun s => if decide (k < 2) then blkNowEff k s else s)) (fun s => by simp [↓hfite, ↓hf1]) (fun s => by simp [↓hfite, ↓hf1])

theorem exec_blkLag (t k : Nat) (s : State) :
    exec (.blkLag t k) s = .next (((fun s => if decide (k < 2) then blkLagEff k s else s)) (s.at t)) := by
  have hfite := @State.ite_frame
  have hf1 := @blkLagEff_frame
  exact State.happen_run s t ((fun s => if decide (k < 2) then blkLagEff k s else s)) (fun s => by simp [↓hfite, ↓hf1]) (fun s => by simp [↓hfite, ↓hf1])

theorem exec_blkDelta (t k : Nat) (s : State) :
    exec (.blkDelta t k) s = .next (((fun s => if decide (k < 2) then blkDeltaEff k s else s)) (s.at t)) := by
  have hfite := @State.ite_frame
  have hf1 := @blkDeltaEff_frame
  exact State.happen_run s t ((fun s => if decide (k < 2) then blkDeltaEff k s else s)) (fun s => by simp [↓hfite, ↓hf1]) (fun s => by simp [↓hfite, ↓hf1])

theorem exec_blkQgood (t k : Nat) (s : State) :
    exec (.blkQgood t k) s = .next (((fun s => if decide (k < 2) then blkQgoodEff k s else s)) (s.at t)) := by
  have hfite := @State.ite_frame
  have hf1 := @blkQgoodEff_frame
  exact State.happen_run s t ((fun s => if decide (k < 2) then blkQgoodEff k s else s)) (fun s => by simp [↓hfite, ↓hf1]) (fun s => by simp [↓hfite, ↓hf1])

theorem exec_blkSubstate (t k : Nat) (s : State) :
    exec (.blkSubstate t k) s = .next (((fun s => if decide (k < 2) then blkSubstateEff k s else s)) (s.at t)) := by
  have hfite := @State.ite_frame
  have hf1 := @blkSubstateEff_frame
  exact State.happen_run s t ((fun s => if decide (k < 2) then blkSubstateEff k s else s)) (fun s => by simp [↓hfite, ↓hf1]) (fun s => by simp [↓hfite, ↓hf1])

theorem exec_blkPodstate (t k : Nat) (s : State) :
    exec (.blkPodstate t k) s = .next (((fun s => if decide (k < 2) then blkPodstateEff k s else s)) (s.at t)) := by
  have hfite := @State.ite_frame
  have hf1 := @blkPodstateEff_frame
  exact State.happen_run s t ((fun s => if decide (k < 2) then blkPodstateEff k s else s)) (fun s => by simp [↓hfite, ↓hf1]) (fun s => by simp [↓hfite, ↓hf1])

theorem exec_blkDevstate (t k : Nat) (s : State) :
    exec (.blkDevstate t k) s = .next (((fun s => if decide (k < 2) then blkDevstateEff k s else s)) (s.at t)) := by
  have hfite := @State.ite_frame
  have hf1 := @blkDevstateEff_frame
  exact State.happen_run s t ((fun s => if decide (k < 2) then blkDevstateEff k s else s)) (fun s => by simp [↓hfite, ↓hf1]) (fun s => by simp [↓hfite, ↓hf1])

theorem exec_blkElem (t k : Nat) (s : State) :
    exec (.blkElem t k) s = .next (((fun s => if decide (k < 2) then blkElemEff k s else s)) (s.at t)) := by
  have hfite := @State.ite_frame
  have hf1 := @blkElemEff_frame
  exact State.happen_run s t ((fun s => if decide (k < 2) then blkElemEff k s else s)) (fun s => by simp [↓hfite, ↓hf1]) (fun s => by simp [↓hfite, ↓hf1])

theorem exec_blkZone (t k : Nat) (s : State) :
    exec (.blkZone t k) s = .next (((fun s => if decide (k < 2) then blkZoneEff k s else s)) (s.at t)) := by
  have hfite := @State.ite_frame
  have hf1 := @blkZoneEff_frame
  exact State.happen_run s t ((fun s => if decide (k < 2) then blkZoneEff k s else s)) (fun s => by simp [↓hfite, ↓hf1]) (fun s => by simp [↓hfite, ↓hf1])

theorem exec_blkSgsel (t k : Nat) (s : State) :
    exec (.blkSgsel t k) s = .next (((fun s => if decide (k < 2) then blkSgselEff k s else s)) (s.at t)) := by
  have hfite := @State.ite_frame
  have hf1 := @blkSgselEff_frame
  exact State.happen_run s t ((fun s => if decide (k < 2) then blkSgselEff k s else s)) (fun s => by simp [↓hfite, ↓hf1]) (fun s => by simp [↓hfite, ↓hf1])

theorem exec_blkBkr (t k : Nat) (s : State) :
    exec (.blkBkr t k) s = .next (((fun s => if decide (k < 2) then blkBkrEff k s else s)) (s.at t)) := by
  have hfite := @State.ite_frame
  have hf1 := @blkBkrEff_frame
  exact State.happen_run s t ((fun s => if decide (k < 2) then blkBkrEff k s else s)) (fun s => by simp [↓hfite, ↓hf1]) (fun s => by simp [↓hfite, ↓hf1])

theorem exec_blkAr (t k : Nat) (s : State) :
    exec (.blkAr t k) s = .next (((fun s => if decide (k < 2) then blkArEff k s else s)) (s.at t)) := by
  have hfite := @State.ite_frame
  have hf1 := @blkArEff_frame
  exact State.happen_run s t ((fun s => if decide (k < 2) then blkArEff k s else s)) (fun s => by simp [↓hfite, ↓hf1]) (fun s => by simp [↓hfite, ↓hf1])

theorem exec_blkIlk (t k : Nat) (s : State) :
    exec (.blkIlk t k) s = .next (((fun s => if decide (k < 2) then blkIlkEff k s else s)) (s.at t)) := by
  have hfite := @State.ite_frame
  have hf1 := @blkIlkEff_frame
  exact State.happen_run s t ((fun s => if decide (k < 2) then blkIlkEff k s else s)) (fun s => by simp [↓hfite, ↓hf1]) (fun s => by simp [↓hfite, ↓hf1])

theorem exec_blkRectrg (t k : Nat) (s : State) :
    exec (.blkRectrg t k) s = .next (((fun s => if decide (k < 2) then blkRectrgEff k s else s)) (s.at t)) := by
  have hfite := @State.ite_frame
  have hf1 := @blkRectrgEff_frame
  exact State.happen_run s t ((fun s => if decide (k < 2) then blkRectrgEff k s else s)) (fun s => by simp [↓hfite, ↓hf1]) (fun s => by simp [↓hfite, ↓hf1])

theorem exec_blkGsetB (t k : Nat) (s : State) :
    exec (.blkGsetB t k) s = .next (((fun s => if decide (k < 2) then blkGsetBEff k s else s)) (s.at t)) := by
  have hfite := @State.ite_frame
  have hf1 := @blkGsetBEff_frame
  exact State.happen_run s t ((fun s => if decide (k < 2) then blkGsetBEff k s else s)) (fun s => by simp [↓hfite, ↓hf1]) (fun s => by simp [↓hfite, ↓hf1])

theorem exec_blkGsetI (t k : Nat) (s : State) :
    exec (.blkGsetI t k) s = .next (((fun s => if decide (k < 2) then blkGsetIEff k s else s)) (s.at t)) := by
  have hfite := @State.ite_frame
  have hf1 := @blkGsetIEff_frame
  exact State.happen_run s t ((fun s => if decide (k < 2) then blkGsetIEff k s else s)) (fun s => by simp [↓hfite, ↓hf1]) (fun s => by simp [↓hfite, ↓hf1])

theorem exec_blkGsetR (t k : Nat) (s : State) :
    exec (.blkGsetR t k) s = .next (((fun s => if decide (k < 2) then blkGsetREff k s else s)) (s.at t)) := by
  have hfite := @State.ite_frame
  have hf1 := @blkGsetREff_frame
  exact State.happen_run s t ((fun s => if decide (k < 2) then blkGsetREff k s else s)) (fun s => by simp [↓hfite, ↓hf1]) (fun s => by simp [↓hfite, ↓hf1])

theorem exec_blkAlarm (t k : Nat) (s : State) :
    exec (.blkAlarm t k) s = .next (((fun s => if decide (k < 2) then blkAlarmEff k s else s)) (s.at t)) := by
  have hfite := @State.ite_frame
  have hf1 := @blkAlarmEff_frame
  exact State.happen_run s t ((fun s => if decide (k < 2) then blkAlarmEff k s else s)) (fun s => by simp [↓hfite, ↓hf1]) (fun s => by simp [↓hfite, ↓hf1])

theorem exec_blkDps (t k : Nat) (s : State) :
    exec (.blkDps t k) s = .next (((fun s => if decide (k < 2) then blkDpsEff k s else s)) (s.at t)) := by
  have hfite := @State.ite_frame
  have hf1 := @blkDpsEff_frame
  exact State.happen_run s t ((fun s => if decide (k < 2) then blkDpsEff k s else s)) (fun s => by simp [↓hfite, ↓hf1]) (fun s => by simp [↓hfite, ↓hf1])

theorem exec_blkLockout (t k : Nat) (s : State) :
    exec (.blkLockout t k) s = .next (((fun s => if decide (k < 2) then blkLockoutEff k s else s)) (s.at t)) := by
  have hfite := @State.ite_frame
  have hf1 := @blkLockoutEff_frame
  exact State.happen_run s t ((fun s => if decide (k < 2) then blkLockoutEff k s else s)) (fun s => by simp [↓hfite, ↓hf1]) (fun s => by simp [↓hfite, ↓hf1])

theorem exec_supplyWarnExcursion (t rail mv : Nat) (s : State) :
    exec (.supplyWarnExcursion t rail mv) s = .next (((fun s => if decide (rail < 5) then supplyWarnExcursionEff rail mv s else s)) (s.at t)) := by
  have hfite := @State.ite_frame
  have hf1 := @supplyWarnExcursionEff_frame
  exact State.happen_run s t ((fun s => if decide (rail < 5) then supplyWarnExcursionEff rail mv s else s)) (fun s => by simp [↓hfite, ↓hf1]) (fun s => by simp [↓hfite, ↓hf1])

theorem exec_supplyExcursionEnd (t i : Nat) (v : Int) (s : State) :
    exec (.supplyExcursionEnd t i v) s = .next (((fun s => if decide (i < 9) then supplyExcursionEndEff i v s else s)) (s.at t)) := by
  have hfite := @State.ite_frame
  have hf1 := @supplyExcursionEndEff_frame
  exact State.happen_run s t ((fun s => if decide (i < 9) then supplyExcursionEndEff i v s else s)) (fun s => by simp [↓hfite, ↓hf1]) (fun s => by simp [↓hfite, ↓hf1])

theorem exec_temperatureExcursion (t : Nat) (dC : Int) (s : State) :
    exec (.temperatureExcursion t dC) s = .next (((temperatureExcursionEff dC)) (s.at t)) := by
  have hf1 := @temperatureExcursionEff_frame
  exact State.happen_run s t ((temperatureExcursionEff dC)) (fun s => by simp [↓hf1]) (fun s => by simp [↓hf1])

theorem exec_monitorRefresh (t : Nat) (mvs : List Nat) (tj : Int) (locks : Nat) (s : State) :
    exec (.monitorRefresh t mvs tj locks) s = .next (((fun s => if decide (locks < 32) then monitorRefreshEff mvs tj locks s else s)) (s.at t)) := by
  have hfite := @State.ite_frame
  have hf1 := @monitorRefreshEff_frame
  exact State.happen_run s t ((fun s => if decide (locks < 32) then monitorRefreshEff mvs tj locks s else s)) (fun s => by simp [↓hfite, ↓hf1]) (fun s => by simp [↓hfite, ↓hf1])

theorem exec_trngTestFail (t test : Nat) (s : State) :
    exec (.trngTestFail t test) s = .next (((fun s => if decide (test < 2) then trngTestFailEff test s else s)) (s.at t)) := by
  have hfite := @State.ite_frame
  have hf1 := @trngTestFailEff_frame
  exact State.happen_run s t ((fun s => if decide (test < 2) then trngTestFailEff test s else s)) (fun s => by simp [↓hfite, ↓hf1]) (fun s => by simp [↓hfite, ↓hf1])

theorem exec_tapExtest (t : Nat) (s : State) :
    exec (.tapExtest t) s = .next ((tapExtestEff) (s.at t)) := by
  have hf1 := @tapExtestEff_frame
  exact State.happen_run s t (tapExtestEff) (fun s => by simp [↓hf1]) (fun s => by simp [↓hf1])

theorem exec_tapIdcode (t : Nat) (s : State) :
    exec (.tapIdcode t) s = .next ((tapIdcodeEff) (s.at t)) := by
  have hf1 := @tapIdcodeEff_frame
  exact State.happen_run s t (tapIdcodeEff) (fun s => by simp [↓hf1]) (fun s => by simp [↓hf1])

theorem exec_tapSamplePreload (t : Nat) (s : State) :
    exec (.tapSamplePreload t) s = .next ((tapSamplePreloadEff) (s.at t)) := by
  have hf1 := @tapSamplePreloadEff_frame
  exact State.happen_run s t (tapSamplePreloadEff) (fun s => by simp [↓hf1]) (fun s => by simp [↓hf1])

theorem exec_tapHighz (t : Nat) (s : State) :
    exec (.tapHighz t) s = .next ((tapHighzEff) (s.at t)) := by
  have hf1 := @tapHighzEff_frame
  exact State.happen_run s t (tapHighzEff) (fun s => by simp [↓hf1]) (fun s => by simp [↓hf1])

theorem exec_tapClamp (t : Nat) (s : State) :
    exec (.tapClamp t) s = .next ((tapClampEff) (s.at t)) := by
  have hf1 := @tapClampEff_frame
  exact State.happen_run s t (tapClampEff) (fun s => by simp [↓hf1]) (fun s => by simp [↓hf1])

theorem exec_tapBypass (t : Nat) (s : State) :
    exec (.tapBypass t) s = .next ((tapBypassEff) (s.at t)) := by
  have hf1 := @tapBypassEff_frame
  exact State.happen_run s t (tapBypassEff) (fun s => by simp [↓hf1]) (fun s => by simp [↓hf1])

theorem exec_fusedSample (t : Nat) (raw : List (List Int)) (refA refB : Bool) (third : List Nat) (s : State) :
    exec (.fusedSample t raw refA refB third) s = .next (((crossedSampleEff raw refA refB third)) (s.at t)) := by
  have hf1 := @crossedSampleEff_frame
  exact State.happen_run s t ((crossedSampleEff raw refA refB third)) (fun s => by simp [↓hf1]) (fun s => by simp [↓hf1])

theorem exec_stage1Output (t c : Nat) (up : Upset) (s : State) :
    exec (.stage1Output t c up) s = .next (((fun s => if decide (c < 64) then stage1OutputEff c up s else s)) (s.at t)) := by
  have hfite := @State.ite_frame
  have hf1 := @stage1OutputEff_frame
  exact State.happen_run s t ((fun s => if decide (c < 64) then stage1OutputEff c up s else s)) (fun s => by simp [↓hfite, ↓hf1]) (fun s => by simp [↓hfite, ↓hf1])

theorem exec_stage2Output (t c : Nat) (up : Upset) (s : State) :
    exec (.stage2Output t c up) s = .next (((fun s => if decide (c < 64) then stage2OutputEff c up s else s)) (s.at t)) := by
  have hfite := @State.ite_frame
  have hf1 := @stage2OutputEff_frame
  exact State.happen_run s t ((fun s => if decide (c < 64) then stage2OutputEff c up s else s)) (fun s => by simp [↓hfite, ↓hf1]) (fun s => by simp [↓hfite, ↓hf1])

theorem exec_recomputeDone (t g st c : Nat) (r1 r2 : Int) (s : State) :
    exec (.recomputeDone t g st c r1 r2) s = .next (((fun s => if decide (g < 8) && decide (st < 4) && decide (c < 128) then recomputeMaskEff g st c r1 r2 s else s)) (s.at t)) := by
  have hfite := @State.ite_frame
  have hf1 := @recomputeMaskEff_frame
  exact State.happen_run s t ((fun s => if decide (g < 8) && decide (st < 4) && decide (c < 128) then recomputeMaskEff g st c r1 r2 s else s)) (fun s => by simp [↓hfite, ↓hf1]) (fun s => by simp [↓hfite, ↓hf1])

theorem exec_trackedSample (t c : Nat) (up : Upset) (s : State) :
    exec (.trackedSample t c up) s = .next (((fun s => if decide (c < 128) then trackedMaskEff c up s else s)) (s.at t)) := by
  have hfite := @State.ite_frame
  have hf1 := @trackedMaskEff_frame
  exact State.happen_run s t ((fun s => if decide (c < 128) then trackedMaskEff c up s else s)) (fun s => by simp [↓hfite, ↓hf1]) (fun s => by simp [↓hfite, ↓hf1])

theorem exec_fixedRateSample (t c : Nat) (up : Upset) (s : State) :
    exec (.fixedRateSample t c up) s = .next (((fun s => if decide (c < 128) then fixedRatePublishEff c up s else s)) (s.at t)) := by
  have hfite := @State.ite_frame
  have hf1 := @fixedRatePublishEff_frame
  exact State.happen_run s t ((fun s => if decide (c < 128) then fixedRatePublishEff c up s else s)) (fun s => by simp [↓hfite, ↓hf1]) (fun s => by simp [↓hfite, ↓hf1])

theorem exec_phasorSwap (t : Nat) (s : State) :
    exec (.phasorSwap t) s = .next (((fun s => State.offerEdges s (swapTickEff s))) (s.at t)) := by
  have hf1 := @State.offerEdges_frame
  have hf2 := @swapTickEff_frame
  exact State.happen_run s t ((fun s => State.offerEdges s (swapTickEff s))) (fun s => by simp [↓hf1, ↓hf2]) (fun s => by simp [↓hf1, ↓hf2])

theorem exec_fltStop (t : Nat) (r : Requester) (g : Nat) (s : State) :
    exec (.fltStop t r g) s = .next (((fun s => if decide (g < 8) && s.trAlive (reqIdx r) then fltStopEff r g s else s)) (s.at t)) := by
  have hfite := @State.ite_frame
  have hf1 := @fltStopEff_frame
  exact State.happen_run s t ((fun s => if decide (g < 8) && s.trAlive (reqIdx r) then fltStopEff r g s else s)) (fun s => by simp [↓hfite, ↓hf1]) (fun s => by simp [↓hfite, ↓hf1])

theorem exec_fltStart (t : Nat) (r : Requester) (g : Nat) (s : State) :
    exec (.fltStart t r g) s = .next (((fun s => if decide (g < 8) && s.trAlive (reqIdx r) then fltStartEff r g s else s)) (s.at t)) := by
  have hfite := @State.ite_frame
  have hf1 := @fltStartEff_frame
  exact State.happen_run s t ((fun s => if decide (g < 8) && s.trAlive (reqIdx r) then fltStartEff r g s else s)) (fun s => by simp [↓hfite, ↓hf1]) (fun s => by simp [↓hfite, ↓hf1])

theorem exec_chainStopTaken (t g : Nat) (s : State) :
    exec (.chainStopTaken t g) s = .next (((fun s => if decide (g < 8) then chainStopTakenEff g s else s)) (s.at t)) := by
  have hfite := @State.ite_frame
  have hf1 := @chainStopTakenEff_frame
  exact State.happen_run s t ((fun s => if decide (g < 8) then chainStopTakenEff g s else s)) (fun s => by simp [↓hfite, ↓hf1]) (fun s => by simp [↓hfite, ↓hf1])

theorem exec_syncReset (t g : Nat) (s : State) :
    exec (.syncReset t g) s = .next (((fun s => if decide (g < 8) then syncResetEff g s else s)) (s.at t)) := by
  have hfite := @State.ite_frame
  have hf1 := @syncResetEff_frame
  exact State.happen_run s t ((fun s => if decide (g < 8) then syncResetEff g s else s)) (fun s => by simp [↓hfite, ↓hf1]) (fun s => by simp [↓hfite, ↓hf1])

theorem exec_fltBankWrite (t : Nat) (r : Requester) (g v : Nat) (s : State) :
    exec (.fltBankWrite t r g v) s = .next (((fun s => if decide (g < 8) && s.trAlive (reqIdx r) then fltBankWriteEff r g v s else s)) (s.at t)) := by
  have hfite := @State.ite_frame
  have hf1 := @fltBankWriteEff_frame
  exact State.happen_run s t ((fun s => if decide (g < 8) && s.trAlive (reqIdx r) then fltBankWriteEff r g v s else s)) (fun s => by simp [↓hfite, ↓hf1]) (fun s => by simp [↓hfite, ↓hf1])

theorem exec_fltCdataWrite (t : Nat) (r : Requester) (v : Nat) (s : State) :
    exec (.fltCdataWrite t r v) s = .next (((fun s => if s.trAlive (reqIdx r) then fltCdataWriteEff r v s else s)) (s.at t)) := by
  have hfite := @State.ite_frame
  have hf1 := @fltCdataWriteEff_frame
  exact State.happen_run s t ((fun s => if s.trAlive (reqIdx r) then fltCdataWriteEff r v s else s)) (fun s => by simp [↓hfite, ↓hf1]) (fun s => by simp [↓hfite, ↓hf1])

theorem exec_fltCcmtCommit (t : Nat) (r : Requester) (s : State) :
    exec (.fltCcmtCommit t r) s = .next (((fun s => if s.trAlive (reqIdx r) then fltCcmtCommitEff r s else s)) (s.at t)) := by
  have hfite := @State.ite_frame
  have hf1 := @fltCcmtCommitEff_frame
  exact State.happen_run s t ((fun s => if s.trAlive (reqIdx r) then fltCcmtCommitEff r s else s)) (fun s => by simp [↓hfite, ↓hf1]) (fun s => by simp [↓hfite, ↓hf1])

theorem exec_fltTrimWrite (t : Nat) (r : Requester) (c v : Nat) (s : State) :
    exec (.fltTrimWrite t r c v) s = .next (((fun s => if decide (c < 128) && s.trAlive (reqIdx r) then fltTrimWriteEff r c v s else s)) (s.at t)) := by
  have hfite := @State.ite_frame
  have hf1 := @fltTrimWriteEff_frame
  exact State.happen_run s t ((fun s => if decide (c < 128) && s.trAlive (reqIdx r) then fltTrimWriteEff r c v s else s)) (fun s => by simp [↓hfite, ↓hf1]) (fun s => by simp [↓hfite, ↓hf1])

theorem exec_fltPhselWrite (t : Nat) (r : Requester) (v : Nat) (s : State) :
    exec (.fltPhselWrite t r v) s = .next (((fun s => if s.trAlive (reqIdx r) then fltPhselWriteEff r v s else s)) (s.at t)) := by
  have hfite := @State.ite_frame
  have hf1 := @fltPhselWriteEff_frame
  exact State.happen_run s t ((fun s => if s.trAlive (reqIdx r) then fltPhselWriteEff r v s else s)) (fun s => by simp [↓hfite, ↓hf1]) (fun s => by simp [↓hfite, ↓hf1])

theorem exec_doorbell (t : Nat) (r : Requester) (s : State) :
    exec (.doorbell t r) s = .next (((fun s => if s.trAlive (reqIdx r) then doorbellEff r s else s)) (s.at t)) := by
  have hfite := @State.ite_frame
  have hf1 := @doorbellEff_frame
  exact State.happen_run s t ((fun s => if s.trAlive (reqIdx r) then doorbellEff r s else s)) (fun s => by simp [↓hfite, ↓hf1]) (fun s => by simp [↓hfite, ↓hf1])

theorem exec_cmdFragment (t p dst src : Nat) (bytes : List Nat) (s : State) :
    exec (.cmdFragment t p dst src bytes) s = .next (((fun s => if decide (p < 3) && decide (dst < 2 ^ 48) && decide (src < 2 ^ 48) && bytes.all (fun b => decide (b < 256)) then cmdFragmentEff p dst src bytes s else s)) (s.at t)) := by
  have hfite := @State.ite_frame
  have hf1 := @cmdFragmentEff_frame
  exact State.happen_run s t ((fun s => if decide (p < 3) && decide (dst < 2 ^ 48) && decide (src < 2 ^ 48) && bytes.all (fun b => decide (b < 256)) then cmdFragmentEff p dst src bytes s else s)) (fun s => by simp [↓hfite, ↓hf1]) (fun s => by simp [↓hfite, ↓hf1])

theorem exec_fragmentTimeout (t : Nat) (s : State) :
    exec (.fragmentTimeout t) s = .next ((fragmentTimeoutEff) (s.at t)) := by
  have hf1 := @fragmentTimeoutEff_frame
  exact State.happen_run s t (fragmentTimeoutEff) (fun s => by simp [↓hf1]) (fun s => by simp [↓hf1])

theorem exec_rateLimitEnd (t tr : Nat) (s : State) :
    exec (.rateLimitEnd t tr) s = .next (((fun s => if decide (tr < 2) then rateLimitEndEff tr s else s)) (s.at t)) := by
  have hfite := @State.ite_frame
  have hf1 := @rateLimitEndEff_frame
  exact State.happen_run s t ((fun s => if decide (tr < 2) then rateLimitEndEff tr s else s)) (fun s => by simp [↓hfite, ↓hf1]) (fun s => by simp [↓hfite, ↓hf1])

theorem exec_gooseStateChange (t n : Nat) (s : State) :
    exec (.gooseStateChange t n) s = .next (((fun s => if decide (n < 32) then gooseStateChangeEff n s else s)) (s.at t)) := by
  have hfite := @State.ite_frame
  have hf1 := @gooseStateChangeEff_frame
  exact State.happen_run s t ((fun s => if decide (n < 32) then gooseStateChangeEff n s else s)) (fun s => by simp [↓hfite, ↓hf1]) (fun s => by simp [↓hfite, ↓hf1])

theorem exec_gooseRetransmit (t n : Nat) (s : State) :
    exec (.gooseRetransmit t n) s = .next (((fun s => if decide (n < 32) then gooseRetransmitEff n s else s)) (s.at t)) := by
  have hfite := @State.ite_frame
  have hf1 := @gooseRetransmitEff_frame
  exact State.happen_run s t ((fun s => if decide (n < 32) then gooseRetransmitEff n s else s)) (fun s => by simp [↓hfite, ↓hf1]) (fun s => by simp [↓hfite, ↓hf1])

theorem exec_gooseReceive (t p : Nat) (f : GooseFrame) (s : State) :
    exec (.gooseReceive t p f) s = .next (((fun s => if decide (p < 3) then gooseReceiveEff p f s else s)) (s.at t)) := by
  have hfite := @State.ite_frame
  have hf1 := @gooseReceiveEff_frame
  exact State.happen_run s t ((fun s => if decide (p < 3) then gooseReceiveEff p f s else s)) (fun s => by simp [↓hfite, ↓hf1]) (fun s => by simp [↓hfite, ↓hf1])

theorem exec_gooseLiveTimeout (t j : Nat) (s : State) :
    exec (.gooseLiveTimeout t j) s = .next (((fun s => if decide (j < 128) then gooseLiveTimeoutEff j s else s)) (s.at t)) := by
  have hfite := @State.ite_frame
  have hf1 := @gooseLiveTimeoutEff_frame
  exact State.happen_run s t ((fun s => if decide (j < 128) then gooseLiveTimeoutEff j s else s)) (fun s => by simp [↓hfite, ↓hf1]) (fun s => by simp [↓hfite, ↓hf1])

theorem exec_svReceive (t p : Nat) (f : SvFrame) (s : State) :
    exec (.svReceive t p f) s = .next (((fun s => if decide (p < 3) then svReceiveEff p f s else s)) (s.at t)) := by
  have hfite := @State.ite_frame
  have hf1 := @svReceiveEff_frame
  exact State.happen_run s t ((fun s => if decide (p < 3) then svReceiveEff p f s else s)) (fun s => by simp [↓hfite, ↓hf1]) (fun s => by simp [↓hfite, ↓hf1])

theorem exec_svStreamTimeout (t st : Nat) (s : State) :
    exec (.svStreamTimeout t st) s = .next (((fun s => if decide (st < 16) then svStreamTimeoutEff st s else s)) (s.at t)) := by
  have hfite := @State.ite_frame
  have hf1 := @svStreamTimeoutEff_frame
  exact State.happen_run s t ((fun s => if decide (st < 16) then svStreamTimeoutEff st s else s)) (fun s => by simp [↓hfite, ↓hf1]) (fun s => by simp [↓hfite, ↓hf1])

theorem exec_periodStart (t k : Nat) (s : State) :
    exec (.periodStart t k) s = .next (((fun s => if decide (k < 2) then State.offerEdges s (periodStartEff k s) else s)) (s.at t)) := by
  have hfite := @State.ite_frame
  have hf1 := @State.offerEdges_frame
  have hf2 := @periodStartEff_frame
  exact State.happen_run s t ((fun s => if decide (k < 2) then State.offerEdges s (periodStartEff k s) else s)) (fun s => by simp [↓hfite, ↓hf1, ↓hf2]) (fun s => by simp [↓hfite, ↓hf1, ↓hf2])

theorem exec_freeRunScanStart (t k : Nat) (s : State) :
    exec (.freeRunScanStart t k) s = .next (((fun s => if decide (k < 2) then State.offerEdges s (freeRunScanStartEff k s) else s)) (s.at t)) := by
  have hfite := @State.ite_frame
  have hf1 := @State.offerEdges_frame
  have hf2 := @freeRunScanStartEff_frame
  exact State.happen_run s t ((fun s => if decide (k < 2) then State.offerEdges s (freeRunScanStartEff k s) else s)) (fun s => by simp [↓hfite, ↓hf1, ↓hf2]) (fun s => by simp [↓hfite, ↓hf1, ↓hf2])

theorem exec_logicOutputWrite (t k : Nat) (s : State) :
    exec (.logicOutputWrite t k) s = .next (((fun s => if decide (k < 2) then State.offerEdges s (logicOutputWriteEff k s) else s)) (s.at t)) := by
  have hfite := @State.ite_frame
  have hf1 := @State.offerEdges_frame
  have hf2 := @logicOutputWriteEff_frame
  exact State.happen_run s t ((fun s => if decide (k < 2) then State.offerEdges s (logicOutputWriteEff k s) else s)) (fun s => by simp [↓hfite, ↓hf1, ↓hf2]) (fun s => by simp [↓hfite, ↓hf1, ↓hf2])

theorem exec_joinComplete (t cycles : Nat) (s : State) :
    exec (.joinComplete t cycles) s = .next (((fun s => State.offerEdges s (joinCompleteEff cycles s))) (s.at t)) := by
  have hf1 := @State.offerEdges_frame
  have hf2 := @joinCompleteEff_frame
  exact State.happen_run s t ((fun s => State.offerEdges s (joinCompleteEff cycles s))) (fun s => by simp [↓hf1, ↓hf2]) (fun s => by simp [↓hf1, ↓hf2])

theorem exec_exchangeLoaded (t : Nat) (res : ExchLoad) (s : State) :
    exec (.exchangeLoaded t res) s = .next (((fun s => State.offerEdges s (exchangeLoadedEff res s))) (s.at t)) := by
  have hf1 := @State.offerEdges_frame
  have hf2 := @exchangeLoadedEff_frame
  exact State.happen_run s t ((fun s => State.offerEdges s (exchangeLoadedEff res s))) (fun s => by simp [↓hf1, ↓hf2]) (fun s => by simp [↓hf1, ↓hf2])

theorem exec_retainCommitDone (t : Nat) (s : State) :
    exec (.retainCommitDone t) s = .next (((fun s => State.offerEdges s (retainCommitDoneEff s))) (s.at t)) := by
  have hf1 := @State.offerEdges_frame
  have hf2 := @retainCommitDoneEff_frame
  exact State.happen_run s t ((fun s => State.offerEdges s (retainCommitDoneEff s))) (fun s => by simp [↓hf1, ↓hf2]) (fun s => by simp [↓hf1, ↓hf2])

theorem exec_holdEntry (t k : Nat) (s : State) :
    exec (.holdEntry t k) s = .next (((fun s => if decide (k < 2) then State.offerEdges s (holdEntryEff k s) else s)) (s.at t)) := by
  have hfite := @State.ite_frame
  have hf1 := @State.offerEdges_frame
  have hf2 := @holdEntryEff_frame
  exact State.happen_run s t ((fun s => if decide (k < 2) then State.offerEdges s (holdEntryEff k s) else s)) (fun s => by simp [↓hfite, ↓hf1, ↓hf2]) (fun s => by simp [↓hfite, ↓hf1, ↓hf2])

theorem exec_initWaitExpiry (t k : Nat) (s : State) :
    exec (.initWaitExpiry t k) s = .next (((fun s => if decide (k < 2) then State.offerEdges s (initWaitExpiryEff k s) else s)) (s.at t)) := by
  have hfite := @State.ite_frame
  have hf1 := @State.offerEdges_frame
  have hf2 := @initWaitExpiryEff_frame
  exact State.happen_run s t ((fun s => if decide (k < 2) then State.offerEdges s (initWaitExpiryEff k s) else s)) (fun s => by simp [↓hfite, ↓hf1, ↓hf2]) (fun s => by simp [↓hfite, ↓hf1, ↓hf2])

theorem exec_bkrPulseEnd (t brk : Nat) (s : State) :
    exec (.bkrPulseEnd t brk) s = .next (((fun s => if decide (brk < 32) then State.offerEdges s (bkrPulseEndEff brk s) else s)) (s.at t)) := by
  have hfite := @State.ite_frame
  have hf1 := @State.offerEdges_frame
  have hf2 := @bkrPulseEndEff_frame
  exact State.happen_run s t ((fun s => if decide (brk < 32) then State.offerEdges s (bkrPulseEndEff brk s) else s)) (fun s => by simp [↓hfite, ↓hf1, ↓hf2]) (fun s => by simp [↓hfite, ↓hf1, ↓hf2])

theorem exec_bkrSupervisionTimeout (t brk : Nat) (s : State) :
    exec (.bkrSupervisionTimeout t brk) s = .next (((fun s => if decide (brk < 32) then State.offerEdges s (bkrSupervisionTimeoutEff brk s) else s)) (s.at t)) := by
  have hfite := @State.ite_frame
  have hf1 := @State.offerEdges_frame
  have hf2 := @bkrSupervisionTimeoutEff_frame
  exact State.happen_run s t ((fun s => if decide (brk < 32) then State.offerEdges s (bkrSupervisionTimeoutEff brk s) else s)) (fun s => by simp [↓hfite, ↓hf1, ↓hf2]) (fun s => by simp [↓hfite, ↓hf1, ↓hf2])

theorem exec_bkrSelectExpiry (t brk : Nat) (s : State) :
    exec (.bkrSelectExpiry t brk) s = .next (((fun s => if decide (brk < 32) then State.offerEdges s (bkrSelectExpiryEff brk s) else s)) (s.at t)) := by
  have hfite := @State.ite_frame
  have hf1 := @State.offerEdges_frame
  have hf2 := @bkrSelectExpiryEff_frame
  exact State.happen_run s t ((fun s => if decide (brk < 32) then State.offerEdges s (bkrSelectExpiryEff brk s) else s)) (fun s => by simp [↓hfite, ↓hf1, ↓hf2]) (fun s => by simp [↓hfite, ↓hf1, ↓hf2])

theorem exec_pdelayReqReceive (t p seq : Nat) (turn : Int) (s : State) :
    exec (.pdelayReqReceive t p seq turn) s = .next (((fun s => if decide (p < 3) && decide (seq < 65536) then pdelayReqReceiveEff p seq turn s else s)) (s.at t)) := by
  have hfite := @State.ite_frame
  have hf1 := @pdelayReqReceiveEff_frame
  exact State.happen_run s t ((fun s => if decide (p < 3) && decide (seq < 65536) then pdelayReqReceiveEff p seq turn s else s)) (fun s => by simp [↓hfite, ↓hf1]) (fun s => by simp [↓hfite, ↓hf1])

theorem exec_pdelayRespReceive (t p seq : Nat) (corr : Int) (s : State) :
    exec (.pdelayRespReceive t p seq corr) s = .next (((fun s => if decide (p < 3) && decide (seq < 65536) then pdelayRespReceiveEff p seq corr s else s)) (s.at t)) := by
  have hfite := @State.ite_frame
  have hf1 := @pdelayRespReceiveEff_frame
  exact State.happen_run s t ((fun s => if decide (p < 3) && decide (seq < 65536) then pdelayRespReceiveEff p seq corr s else s)) (fun s => by simp [↓hfite, ↓hf1]) (fun s => by simp [↓hfite, ↓hf1])

theorem exec_pdelayMeasure (t p : Nat) (s : State) :
    exec (.pdelayMeasure t p) s = .next (((fun s => if decide (p < 3) then pdelayMeasureEff p s else s)) (s.at t)) := by
  have hfite := @State.ite_frame
  have hf1 := @pdelayMeasureEff_frame
  exact State.happen_run s t ((fun s => if decide (p < 3) then pdelayMeasureEff p s else s)) (fun s => by simp [↓hfite, ↓hf1]) (fun s => by simp [↓hfite, ↓hf1])

theorem exec_frameReceive (t p : Nat) (f : EthFrame) (res : List Nat) (full : List Bool) (s : State) :
    exec (.frameReceive t p f res full) s = .next (((fun s => if decide (p < 3) then frameReceiveEff p f res full s else s)) (s.at t)) := by
  have hfite := @State.ite_frame
  have hf1 := @frameReceiveEff_frame
  exact State.happen_run s t ((fun s => if decide (p < 3) then frameReceiveEff p f res full s else s)) (fun s => by simp [↓hfite, ↓hf1]) (fun s => by simp [↓hfite, ↓hf1])

theorem exec_ddtEntryExpiry (t : Nat) (s : State) :
    exec (.ddtEntryExpiry t) s = .next ((ddtEntryExpiryEff) (s.at t)) := by
  have hf1 := @ddtEntryExpiryEff_frame
  exact State.happen_run s t (ddtEntryExpiryEff) (fun s => by simp [↓hf1]) (fun s => by simp [↓hf1])

theorem exec_addressAgeing (t : Nat) (s : State) :
    exec (.addressAgeing t) s = .next ((addressAgeingEff) (s.at t)) := by
  have hf1 := @addressAgeingEff_frame
  exact State.happen_run s t (addressAgeingEff) (fun s => by simp [↓hf1]) (fun s => by simp [↓hf1])

theorem exec_supervisionTx (t : Nat) (s : State) :
    exec (.supervisionTx t) s = .next ((supervisionTxEff) (s.at t)) := by
  have hf1 := @supervisionTxEff_frame
  exact State.happen_run s t (supervisionTxEff) (fun s => by simp [↓hf1]) (fun s => by simp [↓hf1])

theorem exec_redundancyFaultDetect (t : Nat) (s : State) :
    exec (.redundancyFaultDetect t) s = .next ((redundancyFaultDetectEff) (s.at t)) := by
  have hf1 := @redundancyFaultDetectEff_frame
  exact State.happen_run s t (redundancyFaultDetectEff) (fun s => by simp [↓hf1]) (fun s => by simp [↓hf1])

theorem exec_portLinkChange (t p : Nat) (up slow an : Bool) (s : State) :
    exec (.portLinkChange t p up slow an) s = .next (((fun s => if decide (p < 3) then portLinkChangeEff p up slow an s else s)) (s.at t)) := by
  have hfite := @State.ite_frame
  have hf1 := @portLinkChangeEff_frame
  exact State.happen_run s t ((fun s => if decide (p < 3) then portLinkChangeEff p up slow an s else s)) (fun s => by simp [↓hfite, ↓hf1]) (fun s => by simp [↓hfite, ↓hf1])

theorem exec_c22Read (t : Nat) (r : Requester) (v : Nat) (s : State) :
    exec (.c22Read t r v) s = .next (((fun s => if s.trAlive (reqIdx r) then mdioEff .c22Read r v s else s)) (s.at t)) := by
  have hfite := @State.ite_frame
  have hf1 := @mdioEff_frame
  exact State.happen_run s t ((fun s => if s.trAlive (reqIdx r) then mdioEff .c22Read r v s else s)) (fun s => by simp [↓hfite, ↓hf1]) (fun s => by simp [↓hfite, ↓hf1])

theorem exec_c22Write (t : Nat) (r : Requester) (v : Nat) (s : State) :
    exec (.c22Write t r v) s = .next (((fun s => if s.trAlive (reqIdx r) then mdioEff .c22Write r v s else s)) (s.at t)) := by
  have hfite := @State.ite_frame
  have hf1 := @mdioEff_frame
  exact State.happen_run s t ((fun s => if s.trAlive (reqIdx r) then mdioEff .c22Write r v s else s)) (fun s => by simp [↓hfite, ↓hf1]) (fun s => by simp [↓hfite, ↓hf1])

theorem exec_c45Address (t : Nat) (r : Requester) (v : Nat) (s : State) :
    exec (.c45Address t r v) s = .next (((fun s => if s.trAlive (reqIdx r) then mdioEff .c45Address r v s else s)) (s.at t)) := by
  have hfite := @State.ite_frame
  have hf1 := @mdioEff_frame
  exact State.happen_run s t ((fun s => if s.trAlive (reqIdx r) then mdioEff .c45Address r v s else s)) (fun s => by simp [↓hfite, ↓hf1]) (fun s => by simp [↓hfite, ↓hf1])

theorem exec_c45Read (t : Nat) (r : Requester) (v : Nat) (s : State) :
    exec (.c45Read t r v) s = .next (((fun s => if s.trAlive (reqIdx r) then mdioEff .c45Read r v s else s)) (s.at t)) := by
  have hfite := @State.ite_frame
  have hf1 := @mdioEff_frame
  exact State.happen_run s t ((fun s => if s.trAlive (reqIdx r) then mdioEff .c45Read r v s else s)) (fun s => by simp [↓hfite, ↓hf1]) (fun s => by simp [↓hfite, ↓hf1])

theorem exec_c45Write (t : Nat) (r : Requester) (v : Nat) (s : State) :
    exec (.c45Write t r v) s = .next (((fun s => if s.trAlive (reqIdx r) then mdioEff .c45Write r v s else s)) (s.at t)) := by
  have hfite := @State.ite_frame
  have hf1 := @mdioEff_frame
  exact State.happen_run s t ((fun s => if s.trAlive (reqIdx r) then mdioEff .c45Write r v s else s)) (fun s => by simp [↓hfite, ↓hf1]) (fun s => by simp [↓hfite, ↓hf1])

theorem exec_mdioFrameDone (t data : Nat) (s : State) :
    exec (.mdioFrameDone t data) s = .next (((mdioFrameDoneEff data)) (s.at t)) := by
  have hf1 := @mdioFrameDoneEff_frame
  exact State.happen_run s t ((mdioFrameDoneEff data)) (fun s => by simp [↓hf1]) (fun s => by simp [↓hf1])

theorem exec_cmdStatus (t : Nat) (s : State) :
    exec (.cmdStatus t) s = .next ((cmdStatusEff) (s.at t)) := by
  have hf1 := @cmdStatusEff_frame
  exact State.happen_run s t (cmdStatusEff) (fun s => by simp [↓hf1]) (fun s => by simp [↓hf1])

theorem exec_cmdRegRead (t : Nat) (s : State) :
    exec (.cmdRegRead t) s = .next ((cmdRegReadEff) (s.at t)) := by
  have hf1 := @cmdRegReadEff_frame
  exact State.happen_run s t (cmdRegReadEff) (fun s => by simp [↓hf1]) (fun s => by simp [↓hf1])

theorem exec_cmdRegWrite (t : Nat) (s : State) :
    exec (.cmdRegWrite t) s = .next ((cmdRegWriteEff) (s.at t)) := by
  have hf1 := @cmdRegWriteEff_frame
  exact State.happen_run s t (cmdRegWriteEff) (fun s => by simp [↓hf1]) (fun s => by simp [↓hf1])

theorem exec_cmdRestart (t : Nat) (s : State) :
    exec (.cmdRestart t) s = .next ((cmdRestartEff) (s.at t)) := by
  have hf1 := @cmdRestartEff_frame
  exact State.happen_run s t (cmdRestartEff) (fun s => by simp [↓hf1]) (fun s => by simp [↓hf1])

theorem exec_cmdSafe (t : Nat) (s : State) :
    exec (.cmdSafe t) s = .next ((cmdSafeEff) (s.at t)) := by
  have hf1 := @cmdSafeEff_frame
  exact State.happen_run s t (cmdSafeEff) (fun s => by simp [↓hf1]) (fun s => by simp [↓hf1])

theorem exec_cmdResultRead (t : Nat) (s : State) :
    exec (.cmdResultRead t) s = .next ((cmdResultReadEff) (s.at t)) := by
  have hf1 := @cmdResultReadEff_frame
  exact State.happen_run s t (cmdResultReadEff) (fun s => by simp [↓hf1]) (fun s => by simp [↓hf1])

theorem exec_cmdModeSet (t : Nat) (s : State) :
    exec (.cmdModeSet t) s = .next ((cmdModeSetEff) (s.at t)) := by
  have hf1 := @cmdModeSetEff_frame
  exact State.happen_run s t (cmdModeSetEff) (fun s => by simp [↓hf1]) (fun s => by simp [↓hf1])

theorem exec_cmdOutputForce (t : Nat) (s : State) :
    exec (.cmdOutputForce t) s = .next ((cmdOutputForceEff) (s.at t)) := by
  have hf1 := @cmdOutputForceEff_frame
  exact State.happen_run s t (cmdOutputForceEff) (fun s => by simp [↓hf1]) (fun s => by simp [↓hf1])

theorem exec_forceExpiry (t : Nat) (s : State) :
    exec (.forceExpiry t) s = .next ((forceExpiryEff) (s.at t)) := by
  have hf1 := @forceExpiryEff_frame
  exact State.happen_run s t (forceExpiryEff) (fun s => by simp [↓hf1]) (fun s => by simp [↓hf1])

theorem exec_cmdTripReset (t : Nat) (s : State) :
    exec (.cmdTripReset t) s = .next ((cmdTripResetEff) (s.at t)) := by
  have hf1 := @cmdTripResetEff_frame
  exact State.happen_run s t (cmdTripResetEff) (fun s => by simp [↓hf1]) (fun s => by simp [↓hf1])

theorem exec_cmdSettingWrite (t : Nat) (s : State) :
    exec (.cmdSettingWrite t) s = .next ((cmdSettingWriteEff) (s.at t)) := by
  have hf1 := @cmdSettingWriteEff_frame
  exact State.happen_run s t (cmdSettingWriteEff) (fun s => by simp [↓hf1]) (fun s => by simp [↓hf1])

theorem exec_cmdGroupSelect (t : Nat) (s : State) :
    exec (.cmdGroupSelect t) s = .next ((cmdGroupSelectEff) (s.at t)) := by
  have hf1 := @cmdGroupSelectEff_frame
  exact State.happen_run s t (cmdGroupSelectEff) (fun s => by simp [↓hf1]) (fun s => by simp [↓hf1])

theorem exec_cmdDebugUnlock (t : Nat) (s : State) :
    exec (.cmdDebugUnlock t) s = .next ((cmdDebugUnlockEff) (s.at t)) := by
  have hf1 := @cmdDebugUnlockEff_frame
  exact State.happen_run s t (cmdDebugUnlockEff) (fun s => by simp [↓hf1]) (fun s => by simp [↓hf1])

theorem exec_cmdDebugLock (t : Nat) (s : State) :
    exec (.cmdDebugLock t) s = .next ((cmdDebugLockEff) (s.at t)) := by
  have hf1 := @cmdDebugLockEff_frame
  exact State.happen_run s t (cmdDebugLockEff) (fun s => by simp [↓hf1]) (fun s => by simp [↓hf1])

theorem exec_cmdPairHandover (t : Nat) (s : State) :
    exec (.cmdPairHandover t) s = .next ((cmdPairHandoverEff) (s.at t)) := by
  have hf1 := @cmdPairHandoverEff_frame
  exact State.happen_run s t (cmdPairHandoverEff) (fun s => by simp [↓hf1]) (fun s => by simp [↓hf1])

theorem exec_cmdBkrSelect (t : Nat) (s : State) :
    exec (.cmdBkrSelect t) s = .next ((cmdBkrSelectEff) (s.at t)) := by
  have hf1 := @cmdBkrSelectEff_frame
  exact State.happen_run s t (cmdBkrSelectEff) (fun s => by simp [↓hf1]) (fun s => by simp [↓hf1])

theorem exec_cmdBkrOperate (t : Nat) (s : State) :
    exec (.cmdBkrOperate t) s = .next ((cmdBkrOperateEff) (s.at t)) := by
  have hf1 := @cmdBkrOperateEff_frame
  exact State.happen_run s t (cmdBkrOperateEff) (fun s => by simp [↓hf1]) (fun s => by simp [↓hf1])

theorem exec_cmdBkrCancel (t : Nat) (s : State) :
    exec (.cmdBkrCancel t) s = .next ((cmdBkrCancelEff) (s.at t)) := by
  have hf1 := @cmdBkrCancelEff_frame
  exact State.happen_run s t (cmdBkrCancelEff) (fun s => by simp [↓hf1]) (fun s => by simp [↓hf1])

theorem exec_cmdBkrStatus (t : Nat) (s : State) :
    exec (.cmdBkrStatus t) s = .next ((cmdBkrStatusEff) (s.at t)) := by
  have hf1 := @cmdBkrStatusEff_frame
  exact State.happen_run s t (cmdBkrStatusEff) (fun s => by simp [↓hf1]) (fun s => by simp [↓hf1])

theorem exec_cmdRecArm (t : Nat) (s : State) :
    exec (.cmdRecArm t) s = .next ((cmdRecArmEff) (s.at t)) := by
  have hf1 := @cmdRecArmEff_frame
  exact State.happen_run s t (cmdRecArmEff) (fun s => by simp [↓hf1]) (fun s => by simp [↓hf1])

theorem exec_cmdRecDisarm (t : Nat) (s : State) :
    exec (.cmdRecDisarm t) s = .next ((cmdRecDisarmEff) (s.at t)) := by
  have hf1 := @cmdRecDisarmEff_frame
  exact State.happen_run s t (cmdRecDisarmEff) (fun s => by simp [↓hf1]) (fun s => by simp [↓hf1])

theorem exec_cmdRecTrig (t : Nat) (s : State) :
    exec (.cmdRecTrig t) s = .next ((cmdRecTrigEff) (s.at t)) := by
  have hf1 := @cmdRecTrigEff_frame
  exact State.happen_run s t (cmdRecTrigEff) (fun s => by simp [↓hf1]) (fun s => by simp [↓hf1])

theorem exec_cmdRecApply (t : Nat) (s : State) :
    exec (.cmdRecApply t) s = .next ((cmdRecApplyEff) (s.at t)) := by
  have hf1 := @cmdRecApplyEff_frame
  exact State.happen_run s t (cmdRecApplyEff) (fun s => by simp [↓hf1]) (fun s => by simp [↓hf1])

theorem exec_cmdRecRelease (t : Nat) (s : State) :
    exec (.cmdRecRelease t) s = .next ((cmdRecReleaseEff) (s.at t)) := by
  have hf1 := @cmdRecReleaseEff_frame
  exact State.happen_run s t (cmdRecReleaseEff) (fun s => by simp [↓hf1]) (fun s => by simp [↓hf1])

theorem exec_cmdLogicRun (t : Nat) (s : State) :
    exec (.cmdLogicRun t) s = .next ((cmdLogicRunEff) (s.at t)) := by
  have hf1 := @cmdLogicRunEff_frame
  exact State.happen_run s t (cmdLogicRunEff) (fun s => by simp [↓hf1]) (fun s => by simp [↓hf1])

theorem exec_cmdLogicStop (t : Nat) (s : State) :
    exec (.cmdLogicStop t) s = .next ((cmdLogicStopEff) (s.at t)) := by
  have hf1 := @cmdLogicStopEff_frame
  exact State.happen_run s t (cmdLogicStopEff) (fun s => by simp [↓hf1]) (fun s => by simp [↓hf1])

theorem exec_cmdLogicHold (t : Nat) (s : State) :
    exec (.cmdLogicHold t) s = .next ((cmdLogicHoldEff) (s.at t)) := by
  have hf1 := @cmdLogicHoldEff_frame
  exact State.happen_run s t (cmdLogicHoldEff) (fun s => by simp [↓hf1]) (fun s => by simp [↓hf1])

theorem exec_cmdLogicResume (t : Nat) (s : State) :
    exec (.cmdLogicResume t) s = .next ((cmdLogicResumeEff) (s.at t)) := by
  have hf1 := @cmdLogicResumeEff_frame
  exact State.happen_run s t (cmdLogicResumeEff) (fun s => by simp [↓hf1]) (fun s => by simp [↓hf1])

theorem exec_cmdLogicStep (t : Nat) (s : State) :
    exec (.cmdLogicStep t) s = .next ((cmdLogicStepEff) (s.at t)) := by
  have hf1 := @cmdLogicStepEff_frame
  exact State.happen_run s t (cmdLogicStepEff) (fun s => by simp [↓hf1]) (fun s => by simp [↓hf1])

theorem exec_cmdLogicSplit (t : Nat) (s : State) :
    exec (.cmdLogicSplit t) s = .next ((cmdLogicSplitEff) (s.at t)) := by
  have hf1 := @cmdLogicSplitEff_frame
  exact State.happen_run s t (cmdLogicSplitEff) (fun s => by simp [↓hf1]) (fun s => by simp [↓hf1])

theorem exec_cmdLogicJoin (t : Nat) (s : State) :
    exec (.cmdLogicJoin t) s = .next ((cmdLogicJoinEff) (s.at t)) := by
  have hf1 := @cmdLogicJoinEff_frame
  exact State.happen_run s t (cmdLogicJoinEff) (fun s => by simp [↓hf1]) (fun s => by simp [↓hf1])

theorem exec_cmdLogicExchange (t : Nat) (s : State) :
    exec (.cmdLogicExchange t) s = .next ((cmdLogicExchangeEff) (s.at t)) := by
  have hf1 := @cmdLogicExchangeEff_frame
  exact State.happen_run s t (cmdLogicExchangeEff) (fun s => by simp [↓hf1]) (fun s => by simp [↓hf1])

theorem exec_cmdTimeSet (t : Nat) (s : State) :
    exec (.cmdTimeSet t) s = .next ((cmdTimeSetEff) (s.at t)) := by
  have hf1 := @cmdTimeSetEff_frame
  exact State.happen_run s t (cmdTimeSetEff) (fun s => by simp [↓hf1]) (fun s => by simp [↓hf1])

theorem exec_cmdTimeAcceptStep (t : Nat) (s : State) :
    exec (.cmdTimeAcceptStep t) s = .next ((cmdTimeAcceptStepEff) (s.at t)) := by
  have hf1 := @cmdTimeAcceptStepEff_frame
  exact State.happen_run s t (cmdTimeAcceptStepEff) (fun s => by simp [↓hf1]) (fun s => by simp [↓hf1])

theorem exec_cmdKeyInit (t : Nat) (s : State) :
    exec (.cmdKeyInit t) s = .next ((cmdKeyInitEff) (s.at t)) := by
  have hf1 := @cmdKeyInitEff_frame
  exact State.happen_run s t (cmdKeyInitEff) (fun s => by simp [↓hf1]) (fun s => by simp [↓hf1])

theorem exec_cmdKeyRotate (t nonce : Nat) (s : State) :
    exec (.cmdKeyRotate t nonce) s = .next (((fun s => if decide (nonce < 2 ^ 128) then cmdKeyRotateEff nonce s else s)) (s.at t)) := by
  have hfite := @State.ite_frame
  have hf1 := @cmdKeyRotateEff_frame
  exact State.happen_run s t ((fun s => if decide (nonce < 2 ^ 128) then cmdKeyRotateEff nonce s else s)) (fun s => by simp [↓hfite, ↓hf1]) (fun s => by simp [↓hfite, ↓hf1])

theorem exec_cmdKeyRetire (t : Nat) (s : State) :
    exec (.cmdKeyRetire t) s = .next ((cmdKeyRetireEff) (s.at t)) := by
  have hf1 := @cmdKeyRetireEff_frame
  exact State.happen_run s t (cmdKeyRetireEff) (fun s => by simp [↓hf1]) (fun s => by simp [↓hf1])

theorem exec_cmdWorldSet (t : Nat) (s : State) :
    exec (.cmdWorldSet t) s = .next ((cmdWorldSetEff) (s.at t)) := by
  have hf1 := @cmdWorldSetEff_frame
  exact State.happen_run s t (cmdWorldSetEff) (fun s => by simp [↓hf1]) (fun s => by simp [↓hf1])

theorem exec_cmdOtpProgram (t : Nat) (s : State) :
    exec (.cmdOtpProgram t) s = .next ((cmdOtpProgramEff) (s.at t)) := by
  have hf1 := @cmdOtpProgramEff_frame
  exact State.happen_run s t (cmdOtpProgramEff) (fun s => by simp [↓hf1]) (fun s => by simp [↓hf1])

theorem exec_cmdOtpRevoke (t : Nat) (s : State) :
    exec (.cmdOtpRevoke t) s = .next ((cmdOtpRevokeEff) (s.at t)) := by
  have hf1 := @cmdOtpRevokeEff_frame
  exact State.happen_run s t (cmdOtpRevokeEff) (fun s => by simp [↓hf1]) (fun s => by simp [↓hf1])

theorem exec_otpOperationDone (t : Nat) (ok : Bool) (s : State) :
    exec (.otpOperationDone t ok) s = .next (((otpOperationDoneEff ok)) (s.at t)) := by
  have hf1 := @otpOperationDoneEff_frame
  exact State.happen_run s t ((otpOperationDoneEff ok)) (fun s => by simp [↓hf1]) (fun s => by simp [↓hf1])

theorem exec_cmdFlashRead (t : Nat) (data : List Nat) (s : State) :
    exec (.cmdFlashRead t data) s = .next (((fun s => if data.all (fun b => decide (b < 256)) then cmdFlashReadEff data s else s)) (s.at t)) := by
  have hfite := @State.ite_frame
  have hf1 := @cmdFlashReadEff_frame
  exact State.happen_run s t ((fun s => if data.all (fun b => decide (b < 256)) then cmdFlashReadEff data s else s)) (fun s => by simp [↓hfite, ↓hf1]) (fun s => by simp [↓hfite, ↓hf1])

theorem exec_cmdFlashErase (t : Nat) (s : State) :
    exec (.cmdFlashErase t) s = .next ((cmdFlashEraseEff) (s.at t)) := by
  have hf1 := @cmdFlashEraseEff_frame
  exact State.happen_run s t (cmdFlashEraseEff) (fun s => by simp [↓hf1]) (fun s => by simp [↓hf1])

theorem exec_cmdFlashProgram (t : Nat) (s : State) :
    exec (.cmdFlashProgram t) s = .next ((cmdFlashProgramEff) (s.at t)) := by
  have hf1 := @cmdFlashProgramEff_frame
  exact State.happen_run s t (cmdFlashProgramEff) (fun s => by simp [↓hf1]) (fun s => by simp [↓hf1])

theorem exec_cmdFlashSlot (t : Nat) (s : State) :
    exec (.cmdFlashSlot t) s = .next ((cmdFlashSlotEff) (s.at t)) := by
  have hf1 := @cmdFlashSlotEff_frame
  exact State.happen_run s t (cmdFlashSlotEff) (fun s => by simp [↓hf1]) (fun s => by simp [↓hf1])

theorem exec_flashOperationDone (t : Nat) (h : ImgHdr) (sigOk : Bool) (s : State) :
    exec (.flashOperationDone t h sigOk) s = .next (((flashOperationDoneEff h sigOk)) (s.at t)) := by
  have hf1 := @flashOperationDoneEff_frame
  exact State.happen_run s t ((flashOperationDoneEff h sigOk)) (fun s => by simp [↓hf1]) (fun s => by simp [↓hf1])

theorem exec_cmdEvtRead (t : Nat) (s : State) :
    exec (.cmdEvtRead t) s = .next ((cmdEvtReadEff) (s.at t)) := by
  have hf1 := @cmdEvtReadEff_frame
  exact State.happen_run s t (cmdEvtReadEff) (fun s => by simp [↓hf1]) (fun s => by simp [↓hf1])

theorem exec_cmdEvtAck (t : Nat) (s : State) :
    exec (.cmdEvtAck t) s = .next ((cmdEvtAckEff) (s.at t)) := by
  have hf1 := @cmdEvtAckEff_frame
  exact State.happen_run s t (cmdEvtAckEff) (fun s => by simp [↓hf1]) (fun s => by simp [↓hf1])

theorem exec_partnerTimeLoss (t : Nat) (s : State) :
    exec (.partnerTimeLoss t) s = .next ((partnerTimeLossEff) (s.at t)) := by
  have hf1 := @partnerTimeLossEff_frame
  exact State.happen_run s t (partnerTimeLossEff) (fun s => by simp [↓hf1]) (fun s => by simp [↓hf1])

theorem exec_ozLinkDown (t l : Nat) (clk : Bool) (s : State) :
    exec (.ozLinkDown t l clk) s = .next (((fun s => if decide (l < 2) then ozLinkFallEff l clk s else s)) (s.at t)) := by
  have hfite := @State.ite_frame
  have hf1 := @ozLinkFallEff_frame
  exact State.happen_run s t ((fun s => if decide (l < 2) then ozLinkFallEff l clk s else s)) (fun s => by simp [↓hfite, ↓hf1]) (fun s => by simp [↓hfite, ↓hf1])

theorem exec_ozClockDetect (t l : Nat) (s : State) :
    exec (.ozClockDetect t l) s = .next (((fun s => if decide (l < 2) then ozClockDetectEff l s else s)) (s.at t)) := by
  have hfite := @State.ite_frame
  have hf1 := @ozClockDetectEff_frame
  exact State.happen_run s t ((fun s => if decide (l < 2) then ozClockDetectEff l s else s)) (fun s => by simp [↓hfite, ↓hf1]) (fun s => by simp [↓hfite, ↓hf1])

theorem exec_ozLinkUp (t l : Nat) (s : State) :
    exec (.ozLinkUp t l) s = .next (((fun s => if decide (l < 2) then ozLinkUpEff l s else s)) (s.at t)) := by
  have hfite := @State.ite_frame
  have hf1 := @ozLinkUpEff_frame
  exact State.happen_run s t ((fun s => if decide (l < 2) then ozLinkUpEff l s else s)) (fun s => by simp [↓hfite, ↓hf1]) (fun s => by simp [↓hfite, ↓hf1])

theorem exec_delayExchange (t l : Nat) (s : State) :
    exec (.delayExchange t l) s = .next (((fun s => if decide (l < 2) then delayExchangeEff l s else s)) (s.at t)) := by
  have hfite := @State.ite_frame
  have hf1 := @delayExchangeEff_frame
  exact State.happen_run s t ((fun s => if decide (l < 2) then delayExchangeEff l s else s)) (fun s => by simp [↓hfite, ↓hf1]) (fun s => by simp [↓hfite, ↓hf1])

theorem exec_dlyReqReceive (t l word : Nat) (s : State) :
    exec (.dlyReqReceive t l word) s = .next (((fun s => if decide (l < 2) then dlyReqReceiveEff l s else s)) (s.at t)) := by
  have hfite := @State.ite_frame
  have hf1 := @dlyReqReceiveEff_frame
  exact State.happen_run s t ((fun s => if decide (l < 2) then dlyReqReceiveEff l s else s)) (fun s => by simp [↓hfite, ↓hf1]) (fun s => by simp [↓hfite, ↓hf1])

theorem exec_dlyRespReceive (t l turn : Nat) (s : State) :
    exec (.dlyRespReceive t l turn) s = .next (((fun s => if decide (l < 2) then dlyRespReceiveEff l turn s else s)) (s.at t)) := by
  have hfite := @State.ite_frame
  have hf1 := @dlyRespReceiveEff_frame
  exact State.happen_run s t ((fun s => if decide (l < 2) then dlyRespReceiveEff l turn s else s)) (fun s => by simp [↓hfite, ↓hf1]) (fun s => by simp [↓hfite, ↓hf1])

theorem exec_ozTrigReceive (t l lseq id hops orig age ns sec top : Nat) (s : State) :
    exec (.ozTrigReceive t l lseq id hops orig age ns sec top) s = .next (((fun s => if decide (l < 2) && decide (lseq < 256) && decide (id < 16) && decide (hops < 8) && decide (orig < 8) && decide (age < 4096) && decide (ns < 1000000000) && decide (sec < 256) && decide (top < 16) then ozTrigReceiveEff l lseq id hops orig age ns sec s else s)) (s.at t)) := by
  have hfite := @State.ite_frame
  have hf1 := @ozTrigReceiveEff_frame
  exact State.happen_run s t ((fun s => if decide (l < 2) && decide (lseq < 256) && decide (id < 16) && decide (hops < 8) && decide (orig < 8) && decide (age < 4096) && decide (ns < 1000000000) && decide (sec < 256) && decide (top < 16) then ozTrigReceiveEff l lseq id hops orig age ns sec s else s)) (fun s => by simp [↓hfite, ↓hf1]) (fun s => by simp [↓hfite, ↓hf1])

theorem exec_ozTrigDelivery (t : Nat) (s : State) :
    exec (.ozTrigDelivery t) s = .next ((ozTrigDeliveryEff) (s.at t)) := by
  have hf1 := @ozTrigDeliveryEff_frame
  exact State.happen_run s t (ozTrigDeliveryEff) (fun s => by simp [↓hf1]) (fun s => by simp [↓hf1])

theorem exec_heartbeatSend (t : Nat) (s : State) :
    exec (.heartbeatSend t) s = .next ((heartbeatSendEff) (s.at t)) := by
  have hf1 := @heartbeatSendEff_frame
  exact State.happen_run s t (heartbeatSendEff) (fun s => by simp [↓hf1]) (fun s => by simp [↓hf1])

theorem exec_heartbeatReceive (t lseq podOk : Nat) (test holds : Bool) (s : State) :
    exec (.heartbeatReceive t lseq podOk test holds) s = .next (((fun s => if decide (lseq < 256) && decide (podOk < 8) then heartbeatReceiveEff lseq podOk test holds s else s)) (s.at t)) := by
  have hfite := @State.ite_frame
  have hf1 := @heartbeatReceiveEff_frame
  exact State.happen_run s t ((fun s => if decide (lseq < 256) && decide (podOk < 8) then heartbeatReceiveEff lseq podOk test holds s else s)) (fun s => by simp [↓hfite, ↓hf1]) (fun s => by simp [↓hfite, ↓hf1])

theorem exec_partnerOkTimeout (t : Nat) (s : State) :
    exec (.partnerOkTimeout t) s = .next ((partnerOkTimeoutEff) (s.at t)) := by
  have hf1 := @partnerOkTimeoutEff_frame
  exact State.happen_run s t (partnerOkTimeoutEff) (fun s => by simp [↓hf1]) (fun s => by simp [↓hf1])

theorem exec_pairWaitExpiry (t : Nat) (s : State) :
    exec (.pairWaitExpiry t) s = .next ((pairWaitExpiryEff) (s.at t)) := by
  have hf1 := @pairWaitExpiryEff_frame
  exact State.happen_run s t (pairWaitExpiryEff) (fun s => by simp [↓hf1]) (fun s => by simp [↓hf1])

theorem exec_stateReceive (t digest tau : Nat) (s : State) :
    exec (.stateReceive t digest tau) s = .next (((fun s => if decide (tau < 1000000000) then stateReceiveEff digest tau s else s)) (s.at t)) := by
  have hfite := @State.ite_frame
  have hf1 := @stateReceiveEff_frame
  exact State.happen_run s t ((fun s => if decide (tau < 1000000000) then stateReceiveEff digest tau s else s)) (fun s => by simp [↓hfite, ↓hf1]) (fun s => by simp [↓hfite, ↓hf1])

theorem exec_timeReceive (t l ns sec qual : Nat) (s : State) :
    exec (.timeReceive t l ns sec qual) s = .next (((fun s => if decide (l < 2) && decide (ns < 1000000000) && decide (sec < 65536) && decide (qual < 256) then timeReceiveEff l ns sec qual s else s)) (s.at t)) := by
  have hfite := @State.ite_frame
  have hf1 := @timeReceiveEff_frame
  exact State.happen_run s t ((fun s => if decide (l < 2) && decide (ns < 1000000000) && decide (sec < 65536) && decide (qual < 256) then timeReceiveEff l ns sec qual s else s)) (fun s => by simp [↓hfite, ↓hf1]) (fun s => by simp [↓hfite, ↓hf1])

theorem exec_pubseqReceive (t lseq cb st : Nat) (s : State) :
    exec (.pubseqReceive t lseq cb st) s = .next (((fun s => if decide (lseq < 256) && decide (cb < 32) && decide (st < 4294967296) then pubseqReceiveEff lseq cb st s else s)) (s.at t)) := by
  have hfite := @State.ite_frame
  have hf1 := @pubseqReceiveEff_frame
  exact State.happen_run s t ((fun s => if decide (lseq < 256) && decide (cb < 32) && decide (st < 4294967296) then pubseqReceiveEff lseq cb st s else s)) (fun s => by simp [↓hfite, ↓hf1]) (fun s => by simp [↓hfite, ↓hf1])

theorem exec_imageReceive (t lseq dig : Nat) (s : State) :
    exec (.imageReceive t lseq dig) s = .next (((fun s => if decide (lseq < 256) && decide (dig < 2 ^ 64) then imageReceiveEff lseq dig s else s)) (s.at t)) := by
  have hfite := @State.ite_frame
  have hf1 := @imageReceiveEff_frame
  exact State.happen_run s t ((fun s => if decide (lseq < 256) && decide (dig < 2 ^ 64) then imageReceiveEff lseq dig s else s)) (fun s => by simp [↓hfite, ↓hf1]) (fun s => by simp [↓hfite, ↓hf1])

theorem exec_ackReceive (t l lseq : Nat) (s : State) :
    exec (.ackReceive t l lseq) s = .next (((fun s => if decide (l < 2) && decide (lseq < 256) then ackReceiveEff l lseq s else s)) (s.at t)) := by
  have hfite := @State.ite_frame
  have hf1 := @ackReceiveEff_frame
  exact State.happen_run s t ((fun s => if decide (l < 2) && decide (lseq < 256) then ackReceiveEff l lseq s else s)) (fun s => by simp [↓hfite, ↓hf1]) (fun s => by simp [↓hfite, ↓hf1])

theorem exec_nakReceive (t l lseq : Nat) (s : State) :
    exec (.nakReceive t l lseq) s = .next (((fun s => if decide (l < 2) && decide (lseq < 256) then nakReceiveEff l lseq s else s)) (s.at t)) := by
  have hfite := @State.ite_frame
  have hf1 := @nakReceiveEff_frame
  exact State.happen_run s t ((fun s => if decide (l < 2) && decide (lseq < 256) then nakReceiveEff l lseq s else s)) (fun s => by simp [↓hfite, ↓hf1]) (fun s => by simp [↓hfite, ↓hf1])

theorem exec_ackTimeout (t l lseq : Nat) (s : State) :
    exec (.ackTimeout t l lseq) s = .next (((fun s => if decide (l < 2) && decide (lseq < 256) then ackTimeoutEff l lseq s else s)) (s.at t)) := by
  have hfite := @State.ite_frame
  have hf1 := @ackTimeoutEff_frame
  exact State.happen_run s t ((fun s => if decide (l < 2) && decide (lseq < 256) then ackTimeoutEff l lseq s else s)) (fun s => by simp [↓hfite, ↓hf1]) (fun s => by simp [↓hfite, ↓hf1])

theorem exec_ozauxCrcError (t l ty lseq : Nat) (s : State) :
    exec (.ozauxCrcError t l ty lseq) s = .next (((fun s => if decide (l < 2) && decide (ty < 256) && decide (lseq < 256) then ozauxCrcErrorEff l ty lseq s else s)) (s.at t)) := by
  have hfite := @State.ite_frame
  have hf1 := @ozauxCrcErrorEff_frame
  exact State.happen_run s t ((fun s => if decide (l < 2) && decide (ty < 256) && decide (lseq < 256) then ozauxCrcErrorEff l ty lseq s else s)) (fun s => by simp [↓hfite, ↓hf1]) (fun s => by simp [↓hfite, ↓hf1])

theorem exec_commitBoundary (t p : Nat) (packets : List Packet) (ovr : List (Option Verdict)) (s : State) :
    exec (.commitBoundary t p packets ovr) s = .next (((fun s => if decide (p < 3) then State.offerEdges s (State.podHook s (commitBoundaryEff p packets ovr s)) else s)) (s.at t)) := by
  have hfite := @State.ite_frame
  have hf1 := @State.offerEdges_frame
  have hf2 := @State.podHook_frame
  have hf3 := @commitBoundaryEff_frame
  exact State.happen_run s t ((fun s => if decide (p < 3) then State.offerEdges s (State.podHook s (commitBoundaryEff p packets ovr s)) else s)) (fun s => by simp [↓hfite, ↓hf1, ↓hf2, ↓hf3]) (fun s => by simp [↓hfite, ↓hf1, ↓hf2, ↓hf3])

theorem exec_sinkReport (t p core : Nat) (s : State) :
    exec (.sinkReport t p core) s = .next (((fun s => if decide (p < 3) && decide (core < 3) then State.offerEdges s (State.podHook s (sinkReportEff p core s)) else s)) (s.at t)) := by
  have hfite := @State.ite_frame
  have hf1 := @State.offerEdges_frame
  have hf2 := @State.podHook_frame
  have hf3 := @sinkReportEff_frame
  exact State.happen_run s t ((fun s => if decide (p < 3) && decide (core < 3) then State.offerEdges s (State.podHook s (sinkReportEff p core s)) else s)) (fun s => by simp [↓hfite, ↓hf1, ↓hf2, ↓hf3]) (fun s => by simp [↓hfite, ↓hf1, ↓hf2, ↓hf3])

theorem exec_resyncComplete (t p cycles : Nat) (s : State) :
    exec (.resyncComplete t p cycles) s = .next (((fun s => if decide (p < 3) then State.offerEdges s (resyncCompleteEff p cycles s) else s)) (s.at t)) := by
  have hfite := @State.ite_frame
  have hf1 := @State.offerEdges_frame
  have hf2 := @resyncCompleteEff_frame
  exact State.happen_run s t ((fun s => if decide (p < 3) then State.offerEdges s (resyncCompleteEff p cycles s) else s)) (fun s => by simp [↓hfite, ↓hf1, ↓hf2]) (fun s => by simp [↓hfite, ↓hf1, ↓hf2])

theorem exec_coreMemoryRead (t p a bits : Nat) (s : State) :
    exec (.coreMemoryRead t p a bits) s = .next (((fun s => if decide (p < 3) then State.offerEdges s (State.podHook s (coreMemoryReadEff p a bits s)) else s)) (s.at t)) := by
  have hfite := @State.ite_frame
  have hf1 := @State.offerEdges_frame
  have hf2 := @State.podHook_frame
  have hf3 := @coreMemoryReadEff_frame
  exact State.happen_run s t ((fun s => if decide (p < 3) then State.offerEdges s (State.podHook s (coreMemoryReadEff p a bits s)) else s)) (fun s => by simp [↓hfite, ↓hf1, ↓hf2, ↓hf3]) (fun s => by simp [↓hfite, ↓hf1, ↓hf2, ↓hf3])

theorem exec_scrubSlot (t p bits : Nat) (s : State) :
    exec (.scrubSlot t p bits) s = .next (((fun s => if decide (p < 3) then State.offerEdges s (State.podHook s (scrubSlotEff p bits s)) else s)) (s.at t)) := by
  have hfite := @State.ite_frame
  have hf1 := @State.offerEdges_frame
  have hf2 := @State.podHook_frame
  have hf3 := @scrubSlotEff_frame
  exact State.happen_run s t ((fun s => if decide (p < 3) then State.offerEdges s (State.podHook s (scrubSlotEff p bits s)) else s)) (fun s => by simp [↓hfite, ↓hf1, ↓hf2, ↓hf3]) (fun s => by simp [↓hfite, ↓hf1, ↓hf2, ↓hf3])

theorem exec_podSel (t sel : Nat) (s : State) :
    exec (.podSel t sel) s = .next (((fun s => if decide (sel < 4) then podSelEff sel s else s)) (s.at t)) := by
  have hfite := @State.ite_frame
  have hf1 := @podSelEff_frame
  exact State.happen_run s t ((fun s => if decide (sel < 4) then podSelEff sel s else s)) (fun s => by simp [↓hfite, ↓hf1]) (fun s => by simp [↓hfite, ↓hf1])

theorem exec_dbgNop (t : Nat) (s : State) :
    exec (.dbgNop t) s = .next ((nopEff) (s.at t)) := by
  have hf1 := @nopEff_frame
  exact State.happen_run s t (nopEff) (fun s => by simp [↓hf1]) (fun s => by simp [↓hf1])

theorem exec_dbgHalt (t : Nat) (s : State) :
    exec (.dbgHalt t) s = .next ((haltEff) (s.at t)) := by
  have hf1 := @haltEff_frame
  exact State.happen_run s t (haltEff) (fun s => by simp [↓hf1]) (fun s => by simp [↓hf1])

theorem exec_dbgResume (t : Nat) (s : State) :
    exec (.dbgResume t) s = .next ((resumeEff) (s.at t)) := by
  have hf1 := @resumeEff_frame
  exact State.happen_run s t (resumeEff) (fun s => by simp [↓hf1]) (fun s => by simp [↓hf1])

theorem exec_dbgStep (t : Nat) (s : State) :
    exec (.dbgStep t) s = .next ((stepEff) (s.at t)) := by
  have hf1 := @stepEff_frame
  exact State.happen_run s t (stepEff) (fun s => by simp [↓hf1]) (fun s => by simp [↓hf1])

theorem exec_dbgReadReg (t a : Nat) (s : State) :
    exec (.dbgReadReg t a) s = .next (((readRegEff a)) (s.at t)) := by
  have hf1 := @readRegEff_frame
  exact State.happen_run s t ((readRegEff a)) (fun s => by simp [↓hf1]) (fun s => by simp [↓hf1])

theorem exec_dbgWriteReg (t a d : Nat) (s : State) :
    exec (.dbgWriteReg t a d) s = .next (((writeRegEff a d)) (s.at t)) := by
  have hf1 := @writeRegEff_frame
  exact State.happen_run s t ((writeRegEff a d)) (fun s => by simp [↓hf1]) (fun s => by simp [↓hf1])

theorem exec_dbgReadMem (t a : Nat) (s : State) :
    exec (.dbgReadMem t a) s = .next (((readMemEff a)) (s.at t)) := by
  have hf1 := @readMemEff_frame
  exact State.happen_run s t ((readMemEff a)) (fun s => by simp [↓hf1]) (fun s => by simp [↓hf1])

theorem exec_dbgWriteMem (t a d : Nat) (s : State) :
    exec (.dbgWriteMem t a d) s = .next (((writeMemEff a d)) (s.at t)) := by
  have hf1 := @writeMemEff_frame
  exact State.happen_run s t ((writeMemEff a d)) (fun s => by simp [↓hf1]) (fun s => by simp [↓hf1])

theorem exec_dbgSetBp (t i d : Nat) (s : State) :
    exec (.dbgSetBp t i d) s = .next (((fun s => if decide (i < 4) then setBpEff i d s else s)) (s.at t)) := by
  have hfite := @State.ite_frame
  have hf1 := @setBpEff_frame
  exact State.happen_run s t ((fun s => if decide (i < 4) then setBpEff i d s else s)) (fun s => by simp [↓hfite, ↓hf1]) (fun s => by simp [↓hfite, ↓hf1])

theorem exec_dbgClrBp (t i : Nat) (s : State) :
    exec (.dbgClrBp t i) s = .next (((fun s => if decide (i < 4) then clrBpEff i s else s)) (s.at t)) := by
  have hfite := @State.ite_frame
  have hf1 := @clrBpEff_frame
  exact State.happen_run s t ((fun s => if decide (i < 4) then clrBpEff i s else s)) (fun s => by simp [↓hfite, ↓hf1]) (fun s => by simp [↓hfite, ↓hf1])

theorem exec_breakpointHit (t p i : Nat) (s : State) :
    exec (.breakpointHit t p i) s = .next (((fun s => if decide (p < 3) && decide (i < 4) then breakpointHitEff p i s else s)) (s.at t)) := by
  have hfite := @State.ite_frame
  have hf1 := @breakpointHitEff_frame
  exact State.happen_run s t ((fun s => if decide (p < 3) && decide (i < 4) then breakpointHitEff p i s else s)) (fun s => by simp [↓hfite, ↓hf1]) (fun s => by simp [↓hfite, ↓hf1])

theorem exec_resyncWindowAgeing (t p core : Nat) (s : State) :
    exec (.resyncWindowAgeing t p core) s = .next (((fun s => if decide (p < 3) && decide (core < 3) then resyncWindowAgeingEff p core s else s)) (s.at t)) := by
  have hfite := @State.ite_frame
  have hf1 := @resyncWindowAgeingEff_frame
  exact State.happen_run s t ((fun s => if decide (p < 3) && decide (core < 3) then resyncWindowAgeingEff p core s else s)) (fun s => by simp [↓hfite, ↓hf1]) (fun s => by simp [↓hfite, ↓hf1])

theorem exec_dbgUndefinedOp (t op : Nat) (s : State) :
    exec (.dbgUndefinedOp t op) s = .next (((dbgUndefinedOpEff op)) (s.at t)) := by
  have hf1 := @dbgUndefinedOpEff_frame
  exact State.happen_run s t ((dbgUndefinedOpEff op)) (fun s => by simp [↓hf1]) (fun s => by simp [↓hf1])

theorem exec_fastTick (t : Nat) (s : State) :
    exec (.fastTick t) s = .next (((fun s => State.offerEdges s (startTickEff s))) (s.at t)) := by
  have hf1 := @State.offerEdges_frame
  have hf2 := @startTickEff_frame
  exact State.happen_run s t ((fun s => State.offerEdges s (startTickEff s))) (fun s => by simp [↓hf1, ↓hf2]) (fun s => by simp [↓hf1, ↓hf2])

theorem exec_slowListStart (t p cycles : Nat) (ends : List Nat) (s : State) :
    exec (.slowListStart t p cycles ends) s = .next (((fun s => if decide (p < 2) then State.offerEdges s (slowListStartEff p cycles ends s) else s)) (s.at t)) := by
  have hfite := @State.ite_frame
  have hf1 := @State.offerEdges_frame
  have hf2 := @slowListStartEff_frame
  exact State.happen_run s t ((fun s => if decide (p < 2) then State.offerEdges s (slowListStartEff p cycles ends s) else s)) (fun s => by simp [↓hfite, ↓hf1, ↓hf2]) (fun s => by simp [↓hfite, ↓hf1, ↓hf2])

theorem exec_slowListAbandon (t p : Nat) (s : State) :
    exec (.slowListAbandon t p) s = .next (((fun s => if decide (p < 2) then State.offerEdges s (slowListAbandonEff p s) else s)) (s.at t)) := by
  have hfite := @State.ite_frame
  have hf1 := @State.offerEdges_frame
  have hf2 := @slowListAbandonEff_frame
  exact State.happen_run s t ((fun s => if decide (p < 2) then State.offerEdges s (slowListAbandonEff p s) else s)) (fun s => by simp [↓hfite, ↓hf1, ↓hf2]) (fun s => by simp [↓hfite, ↓hf1, ↓hf2])

theorem exec_definiteTimeExpiry (t i ph : Nat) (s : State) :
    exec (.definiteTimeExpiry t i ph) s = .next (((fun s => if decide (i < 512) && decide (ph < 3) then State.offerEdges s (definiteTimeExpiryEff i ph s) else s)) (s.at t)) := by
  have hfite := @State.ite_frame
  have hf1 := @State.offerEdges_frame
  have hf2 := @definiteTimeExpiryEff_frame
  exact State.happen_run s t ((fun s => if decide (i < 512) && decide (ph < 3) then State.offerEdges s (definiteTimeExpiryEff i ph s) else s)) (fun s => by simp [↓hfite, ↓hf1, ↓hf2]) (fun s => by simp [↓hfite, ↓hf1, ↓hf2])

theorem exec_inverseTimeOperate (t i ph : Nat) (s : State) :
    exec (.inverseTimeOperate t i ph) s = .next (((fun s => if decide (i < 512) && decide (ph < 3) then State.offerEdges s (inverseTimeOperateEff i ph s) else s)) (s.at t)) := by
  have hfite := @State.ite_frame
  have hf1 := @State.offerEdges_frame
  have hf2 := @inverseTimeOperateEff_frame
  exact State.happen_run s t ((fun s => if decide (i < 512) && decide (ph < 3) then State.offerEdges s (inverseTimeOperateEff i ph s) else s)) (fun s => by simp [↓hfite, ↓hf1, ↓hf2]) (fun s => by simp [↓hfite, ↓hf1, ↓hf2])

theorem exec_resetTimeExpiry (t i ph : Nat) (s : State) :
    exec (.resetTimeExpiry t i ph) s = .next (((fun s => if decide (i < 512) && decide (ph < 3) then State.offerEdges s (resetTimeExpiryEff i ph s) else s)) (s.at t)) := by
  have hfite := @State.ite_frame
  have hf1 := @State.offerEdges_frame
  have hf2 := @resetTimeExpiryEff_frame
  exact State.happen_run s t ((fun s => if decide (i < 512) && decide (ph < 3) then State.offerEdges s (resetTimeExpiryEff i ph s) else s)) (fun s => by simp [↓hfite, ↓hf1, ↓hf2]) (fun s => by simp [↓hfite, ↓hf1, ↓hf2])

theorem exec_holdLimitExpiry (t i ph : Nat) (s : State) :
    exec (.holdLimitExpiry t i ph) s = .next (((fun s => if decide (i < 512) && decide (ph < 3) then State.offerEdges s (holdLimitExpiryEff i ph s) else s)) (s.at t)) := by
  have hfite := @State.ite_frame
  have hf1 := @State.offerEdges_frame
  have hf2 := @holdLimitExpiryEff_frame
  exact State.happen_run s t ((fun s => if decide (i < 512) && decide (ph < 3) then State.offerEdges s (holdLimitExpiryEff i ph s) else s)) (fun s => by simp [↓hfite, ↓hf1, ↓hf2]) (fun s => by simp [↓hfite, ↓hf1, ↓hf2])

theorem exec_vectorShiftPulseEnd (t i : Nat) (s : State) :
    exec (.vectorShiftPulseEnd t i) s = .next (((fun s => if decide (i < 512) then State.offerEdges s (vectorShiftPulseEndEff i s) else s)) (s.at t)) := by
  have hfite := @State.ite_frame
  have hf1 := @State.offerEdges_frame
  have hf2 := @vectorShiftPulseEndEff_frame
  exact State.happen_run s t ((fun s => if decide (i < 512) then State.offerEdges s (vectorShiftPulseEndEff i s) else s)) (fun s => by simp [↓hfite, ↓hf1, ↓hf2]) (fun s => by simp [↓hfite, ↓hf1, ↓hf2])

theorem exec_bfRetripTime (t i : Nat) (s : State) :
    exec (.bfRetripTime t i) s = .next (((fun s => if decide (i < 512) then State.offerEdges s (bfRetripTimeEff i s) else s)) (s.at t)) := by
  have hfite := @State.ite_frame
  have hf1 := @State.offerEdges_frame
  have hf2 := @bfRetripTimeEff_frame
  exact State.happen_run s t ((fun s => if decide (i < 512) then State.offerEdges s (bfRetripTimeEff i s) else s)) (fun s => by simp [↓hfite, ↓hf1, ↓hf2]) (fun s => by simp [↓hfite, ↓hf1, ↓hf2])

theorem exec_bfBacktripTime (t i : Nat) (s : State) :
    exec (.bfBacktripTime t i) s = .next (((fun s => if decide (i < 512) then State.offerEdges s (bfBacktripTimeEff i s) else s)) (s.at t)) := by
  have hfite := @State.ite_frame
  have hf1 := @State.offerEdges_frame
  have hf2 := @bfBacktripTimeEff_frame
  exact State.happen_run s t ((fun s => if decide (i < 512) then State.offerEdges s (bfBacktripTimeEff i s) else s)) (fun s => by simp [↓hfite, ↓hf1, ↓hf2]) (fun s => by simp [↓hfite, ↓hf1, ↓hf2])

theorem exec_coldLoadEntry (t b : Nat) (s : State) :
    exec (.coldLoadEntry t b) s = .next (((fun s => if decide (b < 12) then State.offerEdges s (coldLoadEntryEff b s) else s)) (s.at t)) := by
  have hfite := @State.ite_frame
  have hf1 := @State.offerEdges_frame
  have hf2 := @coldLoadEntryEff_frame
  exact State.happen_run s t ((fun s => if decide (b < 12) then State.offerEdges s (coldLoadEntryEff b s) else s)) (fun s => by simp [↓hfite, ↓hf1, ↓hf2]) (fun s => by simp [↓hfite, ↓hf1, ↓hf2])

theorem exec_coldLoadEnd (t b : Nat) (s : State) :
    exec (.coldLoadEnd t b) s = .next (((fun s => if decide (b < 12) then State.offerEdges s (coldLoadEndEff b s) else s)) (s.at t)) := by
  have hfite := @State.ite_frame
  have hf1 := @State.offerEdges_frame
  have hf2 := @coldLoadEndEff_frame
  exact State.happen_run s t ((fun s => if decide (b < 12) then State.offerEdges s (coldLoadEndEff b s) else s)) (fun s => by simp [↓hfite, ↓hf1, ↓hf2]) (fun s => by simp [↓hfite, ↓hf1, ↓hf2])

theorem exec_zoneNconReached (t z ph : Nat) (s : State) :
    exec (.zoneNconReached t z ph) s = .next (((fun s => if decide (z < 2) && decide (ph < 3) then State.offerEdges s (zoneNconReachedEff z ph s) else s)) (s.at t)) := by
  have hfite := @State.ite_frame
  have hf1 := @State.offerEdges_frame
  have hf2 := @zoneNconReachedEff_frame
  exact State.happen_run s t ((fun s => if decide (z < 2) && decide (ph < 3) then State.offerEdges s (zoneNconReachedEff z ph s) else s)) (fun s => by simp [↓hfite, ↓hf1, ↓hf2]) (fun s => by simp [↓hfite, ↓hf1, ↓hf2])

theorem exec_zoneBlankEnd (t z : Nat) (s : State) :
    exec (.zoneBlankEnd t z) s = .next (((fun s => if decide (z < 2) then State.offerEdges s (zoneBlankEndEff z s) else s)) (s.at t)) := by
  have hfite := @State.ite_frame
  have hf1 := @State.offerEdges_frame
  have hf2 := @zoneBlankEndEff_frame
  exact State.happen_run s t ((fun s => if decide (z < 2) then State.offerEdges s (zoneBlankEndEff z s) else s)) (fun s => by simp [↓hfite, ↓hf1, ↓hf2]) (fun s => by simp [↓hfite, ↓hf1, ↓hf2])

theorem exec_zoneAlarmTime (t z : Nat) (s : State) :
    exec (.zoneAlarmTime t z) s = .next (((fun s => if decide (z < 2) then State.offerEdges s (zoneAlarmTimeEff z s) else s)) (s.at t)) := by
  have hfite := @State.ite_frame
  have hf1 := @State.offerEdges_frame
  have hf2 := @zoneAlarmTimeEff_frame
  exact State.happen_run s t ((fun s => if decide (z < 2) then State.offerEdges s (zoneAlarmTimeEff z s) else s)) (fun s => by simp [↓hfite, ↓hf1, ↓hf2]) (fun s => by simp [↓hfite, ↓hf1, ↓hf2])

theorem exec_surgeInception (t b ph : Nat) (s : State) :
    exec (.surgeInception t b ph) s = .next (((fun s => if decide (b < 12) && decide (ph < 3) then State.offerEdges s (surgeInceptionEff b ph s) else s)) (s.at t)) := by
  have hfite := @State.ite_frame
  have hf1 := @State.offerEdges_frame
  have hf2 := @surgeInceptionEff_frame
  exact State.happen_run s t ((fun s => if decide (b < 12) && decide (ph < 3) then State.offerEdges s (surgeInceptionEff b ph s) else s)) (fun s => by simp [↓hfite, ↓hf1, ↓hf2]) (fun s => by simp [↓hfite, ↓hf1, ↓hf2])

theorem exec_iseWindowClose (t b : Nat) (s : State) :
    exec (.iseWindowClose t b) s = .next (((fun s => if decide (b < 12) then State.offerEdges s (iseWindowCloseEff b s) else s)) (s.at t)) := by
  have hfite := @State.ite_frame
  have hf1 := @State.offerEdges_frame
  have hf2 := @iseWindowCloseEff_frame
  exact State.happen_run s t ((fun s => if decide (b < 12) then State.offerEdges s (iseWindowCloseEff b s) else s)) (fun s => by simp [↓hfite, ↓hf1, ↓hf2]) (fun s => by simp [↓hfite, ↓hf1, ↓hf2])

theorem exec_iseWinExpiry (t b : Nat) (s : State) :
    exec (.iseWinExpiry t b) s = .next (((fun s => if decide (b < 12) then State.offerEdges s (iseWinExpiryEff b s) else s)) (s.at t)) := by
  have hfite := @State.ite_frame
  have hf1 := @State.offerEdges_frame
  have hf2 := @iseWinExpiryEff_frame
  exact State.happen_run s t ((fun s => if decide (b < 12) then State.offerEdges s (iseWinExpiryEff b s) else s)) (fun s => by simp [↓hfite, ↓hf1, ↓hf2]) (fun s => by simp [↓hfite, ↓hf1, ↓hf2])

theorem exec_groupChangeEffect (t b : Nat) (s : State) :
    exec (.groupChangeEffect t b) s = .next (((fun s => if decide (b < 12) then State.offerEdges s (groupChangeEffectEff b s) else s)) (s.at t)) := by
  have hfite := @State.ite_frame
  have hf1 := @State.offerEdges_frame
  have hf2 := @groupChangeEffectEff_frame
  exact State.happen_run s t ((fun s => if decide (b < 12) then State.offerEdges s (groupChangeEffectEff b s) else s)) (fun s => by simp [↓hfite, ↓hf1, ↓hf2]) (fun s => by simp [↓hfite, ↓hf1, ↓hf2])

theorem exec_settingWriteEffect (t i : Nat) (s : State) :
    exec (.settingWriteEffect t i) s = .next (((fun s => if decide (i < 512) then State.offerEdges s (settingWriteEffectEff i s) else s)) (s.at t)) := by
  have hfite := @State.ite_frame
  have hf1 := @State.offerEdges_frame
  have hf2 := @settingWriteEffectEff_frame
  exact State.happen_run s t ((fun s => if decide (i < 512) then State.offerEdges s (settingWriteEffectEff i s) else s)) (fun s => by simp [↓hfite, ↓hf1, ↓hf2]) (fun s => by simp [↓hfite, ↓hf1, ↓hf2])

theorem exec_trigInEdge (t i : Nat) (rising : Bool) (s : State) :
    exec (.trigInEdge t i rising) s = .next (((fun s => if decide (i < 2) then trigInEdgeEff i rising s else s)) (s.at t)) := by
  have hfite := @State.ite_frame
  have hf1 := @trigInEdgeEff_frame
  exact State.happen_run s t ((fun s => if decide (i < 2) then trigInEdgeEff i rising s else s)) (fun s => by simp [↓hfite, ↓hf1]) (fun s => by simp [↓hfite, ↓hf1])

theorem exec_rowWrite (t c st : Nat) (fifoFull : Bool) (s : State) :
    exec (.rowWrite t c st fifoFull) s = .next (((fun s => if decide (c < 8) && decide (st < 5) then rowWriteEff c st fifoFull s else s)) (s.at t)) := by
  have hfite := @State.ite_frame
  have hf1 := @rowWriteEff_frame
  exact State.happen_run s t ((fun s => if decide (c < 8) && decide (st < 5) then rowWriteEff c st fifoFull s else s)) (fun s => by simp [↓hfite, ↓hf1]) (fun s => by simp [↓hfite, ↓hf1])

theorem exec_recordIndexComplete (t c : Nat) (s : State) :
    exec (.recordIndexComplete t c) s = .next (((fun s => if decide (c < 8) then recordIndexCompleteEff c s else s)) (s.at t)) := by
  have hfite := @State.ite_frame
  have hf1 := @recordIndexCompleteEff_frame
  exact State.happen_run s t ((fun s => if decide (c < 8) then recordIndexCompleteEff c s else s)) (fun s => by simp [↓hfite, ↓hf1]) (fun s => by simp [↓hfite, ↓hf1])

theorem exec_triggerArrival (t n : Nat) (s : State) :
    exec (.triggerArrival t n) s = .next (((triggerArrivalEff n)) (s.at t)) := by
  have hf1 := @triggerArrivalEff_frame
  exact State.happen_run s t ((triggerArrivalEff n)) (fun s => by simp [↓hf1]) (fun s => by simp [↓hf1])

theorem exec_trigOutPulseEnd (t i : Nat) (s : State) :
    exec (.trigOutPulseEnd t i) s = .next (((fun s => if decide (i < 2) then trigOutPulseEndEff i s else s)) (s.at t)) := by
  have hfite := @State.ite_frame
  have hf1 := @trigOutPulseEndEff_frame
  exact State.happen_run s t ((fun s => if decide (i < 2) then trigOutPulseEndEff i s else s)) (fun s => by simp [↓hfite, ↓hf1]) (fun s => by simp [↓hfite, ↓hf1])

theorem exec_maskViolation (t c k : Nat) (s : State) :
    exec (.maskViolation t c k) s = .next (((fun s => if decide (c < 8) && decide (k < 128) then maskViolationEff c k s else s)) (s.at t)) := by
  have hfite := @State.ite_frame
  have hf1 := @maskViolationEff_frame
  exact State.happen_run s t ((fun s => if decide (c < 8) && decide (k < 128) then maskViolationEff c k s else s)) (fun s => by simp [↓hfite, ↓hf1]) (fun s => by simp [↓hfite, ↓hf1])

theorem exec_recCctlArm (t : Nat) (r : Requester) (c : Nat) (s : State) :
    exec (.recCctlArm t r c) s = .next (((fun s => if decide (c < 8) && s.trAlive (reqIdx r) then recCctlArmEff r c s else s)) (s.at t)) := by
  have hfite := @State.ite_frame
  have hf1 := @recCctlArmEff_frame
  exact State.happen_run s t ((fun s => if decide (c < 8) && s.trAlive (reqIdx r) then recCctlArmEff r c s else s)) (fun s => by simp [↓hfite, ↓hf1]) (fun s => by simp [↓hfite, ↓hf1])

theorem exec_recCctlDisarm (t : Nat) (r : Requester) (c : Nat) (s : State) :
    exec (.recCctlDisarm t r c) s = .next (((fun s => if decide (c < 8) && s.trAlive (reqIdx r) then recCctlDisarmEff r c s else s)) (s.at t)) := by
  have hfite := @State.ite_frame
  have hf1 := @recCctlDisarmEff_frame
  exact State.happen_run s t ((fun s => if decide (c < 8) && s.trAlive (reqIdx r) then recCctlDisarmEff r c s else s)) (fun s => by simp [↓hfite, ↓hf1]) (fun s => by simp [↓hfite, ↓hf1])

theorem exec_recCctlApply (t : Nat) (r : Requester) (c : Nat) (s : State) :
    exec (.recCctlApply t r c) s = .next (((fun s => if decide (c < 8) && s.trAlive (reqIdx r) then recCctlApplyEff r c s else s)) (s.at t)) := by
  have hfite := @State.ite_frame
  have hf1 := @recCctlApplyEff_frame
  exact State.happen_run s t ((fun s => if decide (c < 8) && s.trAlive (reqIdx r) then recCctlApplyEff r c s else s)) (fun s => by simp [↓hfite, ↓hf1]) (fun s => by simp [↓hfite, ↓hf1])

theorem exec_recCctlTrig (t : Nat) (r : Requester) (c : Nat) (s : State) :
    exec (.recCctlTrig t r c) s = .next (((fun s => if decide (c < 8) && s.trAlive (reqIdx r) then recCctlTrigEff r c s else s)) (s.at t)) := by
  have hfite := @State.ite_frame
  have hf1 := @recCctlTrigEff_frame
  exact State.happen_run s t ((fun s => if decide (c < 8) && s.trAlive (reqIdx r) then recCctlTrigEff r c s else s)) (fun s => by simp [↓hfite, ↓hf1]) (fun s => by simp [↓hfite, ↓hf1])

theorem exec_recWselWrite (t : Nat) (r : Requester) (v : Nat) (s : State) :
    exec (.recWselWrite t r v) s = .next (((fun s => if s.trAlive (reqIdx r) then recWselWriteEff r v s else s)) (s.at t)) := by
  have hfite := @State.ite_frame
  have hf1 := @recWselWriteEff_frame
  exact State.happen_run s t ((fun s => if s.trAlive (reqIdx r) then recWselWriteEff r v s else s)) (fun s => by simp [↓hfite, ↓hf1]) (fun s => by simp [↓hfite, ↓hf1])

theorem exec_recRelWrite (t : Nat) (r : Requester) (v : Nat) (s : State) :
    exec (.recRelWrite t r v) s = .next (((fun s => if s.trAlive (reqIdx r) then recRelWriteEff r v s else s)) (s.at t)) := by
  have hfite := @State.ite_frame
  have hf1 := @recRelWriteEff_frame
  exact State.happen_run s t ((fun s => if s.trAlive (reqIdx r) then recRelWriteEff r v s else s)) (fun s => by simp [↓hfite, ↓hf1]) (fun s => by simp [↓hfite, ↓hf1])

theorem exec_recordWindowRead (t : Nat) (r : Requester) (o : Nat) (s : State) :
    exec (.recordWindowRead t r o) s = .next (((fun s => if decide (o < 0x600000) && s.trAlive (reqIdx r) then recordWindowReadEff r o s else s)) (s.at t)) := by
  have hfite := @State.ite_frame
  have hf1 := @recordWindowReadEff_frame
  exact State.happen_run s t ((fun s => if decide (o < 0x600000) && s.trAlive (reqIdx r) then recordWindowReadEff r o s else s)) (fun s => by simp [↓hfite, ↓hf1]) (fun s => by simp [↓hfite, ↓hf1])

theorem exec_recordWindowWrite (t : Nat) (r : Requester) (o : Nat) (s : State) :
    exec (.recordWindowWrite t r o) s = .next (((fun s => if decide (o < 0x600000) && s.trAlive (reqIdx r) then recordWindowWriteEff r o s else s)) (s.at t)) := by
  have hfite := @State.ite_frame
  have hf1 := @recordWindowWriteEff_frame
  exact State.happen_run s t ((fun s => if decide (o < 0x600000) && s.trAlive (reqIdx r) then recordWindowWriteEff r o s else s)) (fun s => by simp [↓hfite, ↓hf1]) (fun s => by simp [↓hfite, ↓hf1])

theorem exec_supplyOutOfRange (t : Nat) (s : State) :
    exec (.supplyOutOfRange t) s = .next ((supplyOutOfRangeEff) (s.at t)) := by
  have hf1 := @supplyOutOfRangeEff_frame
  exact State.happen_run s t (supplyOutOfRangeEff) (fun s => by simp [↓hf1]) (fun s => by simp [↓hf1])

theorem exec_powerOnResetRelease (t : Nat) (straps : Straps) (hdrs : List ImgHdr) (octal trngOk : Bool) (s : State) :
    exec (.powerOnResetRelease t straps hdrs octal trngOk) s = .next (((powerOnResetReleaseEff straps hdrs octal trngOk)) (s.at t)) := by
  have hf1 := @powerOnResetReleaseEff_frame
  exact State.happen_run s t ((powerOnResetReleaseEff straps hdrs octal trngOk)) (fun s => by simp [↓hf1]) (fun s => by simp [↓hf1])

theorem exec_bootHoldFall (t : Nat) (hdrs : List ImgHdr) (s : State) :
    exec (.bootHoldFall t hdrs) s = .next (((bootHoldFallEff hdrs)) (s.at t)) := by
  have hf1 := @bootHoldFallEff_frame
  exact State.happen_run s t ((bootHoldFallEff hdrs)) (fun s => by simp [↓hf1]) (fun s => by simp [↓hf1])

theorem exec_imageHashDone (t : Nat) (sigOk : Bool) (s : State) :
    exec (.imageHashDone t sigOk) s = .next (((imageHashDoneEff sigOk)) (s.at t)) := by
  have hf1 := @imageHashDoneEff_frame
  exact State.happen_run s t ((imageHashDoneEff sigOk)) (fun s => by simp [↓hf1]) (fun s => by simp [↓hf1])

theorem exec_lpddr4xTrainingDone (t : Nat) (ok : Bool) (s : State) :
    exec (.lpddr4xTrainingDone t ok) s = .next (((lpddr4xTrainingDoneEff ok)) (s.at t)) := by
  have hf1 := @lpddr4xTrainingDoneEff_frame
  exact State.happen_run s t ((lpddr4xTrainingDoneEff ok)) (fun s => by simp [↓hf1]) (fun s => by simp [↓hf1])

theorem exec_sectionsLoaded (t : Nat) (img : Image) (badHash : List Nat) (s : State) :
    exec (.sectionsLoaded t img badHash) s = .next (((sectionsLoadedEff img badHash)) (s.at t)) := by
  have hf1 := @sectionsLoadedEff_frame
  exact State.happen_run s t ((sectionsLoadedEff img badHash)) (fun s => by simp [↓hf1]) (fun s => by simp [↓hf1])

theorem exec_imageValidation (t : Nat) (s : State) :
    exec (.imageValidation t) s = .next ((imageValidationEff) (s.at t)) := by
  have hf1 := @imageValidationEff_frame
  exact State.happen_run s t (imageValidationEff) (fun s => by simp [↓hf1]) (fun s => by simp [↓hf1])

theorem exec_startupCalibrationDone (t : Nat) (cals : List (List SliceCal)) (s : State) :
    exec (.startupCalibrationDone t cals) s = .next (((startupCalibrationDoneEff cals)) (s.at t)) := by
  have hf1 := @startupCalibrationDoneEff_frame
  exact State.happen_run s t ((startupCalibrationDoneEff cals)) (fun s => by simp [↓hf1]) (fun s => by simp [↓hf1])

theorem exec_modeChangeEffect (t : Nat) (s : State) :
    exec (.modeChangeEffect t) s = .next ((modeChangeEffectEff) (s.at t)) := by
  have hf1 := @modeChangeEffectEff_frame
  exact State.happen_run s t (modeChangeEffectEff) (fun s => by simp [↓hf1]) (fun s => by simp [↓hf1])

theorem exec_referenceLoss (t : Nat) (s : State) :
    exec (.referenceLoss t) s = .next ((referenceLossEff) (s.at t)) := by
  have hf1 := @referenceLossEff_frame
  exact State.happen_run s t (referenceLossEff) (fun s => by simp [↓hf1]) (fun s => by simp [↓hf1])

theorem exec_referenceReturnRestart (t : Nat) (s : State) :
    exec (.referenceReturnRestart t) s = .next ((referenceReturnRestartEff) (s.at t)) := by
  have hf1 := @referenceReturnRestartEff_frame
  exact State.happen_run s t (referenceReturnRestartEff) (fun s => by simp [↓hf1]) (fun s => by simp [↓hf1])

theorem exec_policyRestart (t : Nat) (s : State) :
    exec (.policyRestart t) s = .next ((policyRestartEff) (s.at t)) := by
  have hf1 := @policyRestartEff_frame
  exact State.happen_run s t (policyRestartEff) (fun s => by simp [↓hf1]) (fun s => by simp [↓hf1])

theorem exec_restartTake (t : Nat) (hdrs : List ImgHdr) (octal trngOk holdLvl : Bool) (s : State) :
    exec (.restartTake t hdrs octal trngOk holdLvl) s = .next (((restartTakeEff hdrs octal trngOk holdLvl)) (s.at t)) := by
  have hf1 := @restartTakeEff_frame
  exact State.happen_run s t ((restartTakeEff hdrs octal trngOk holdLvl)) (fun s => by simp [↓hf1]) (fun s => by simp [↓hf1])

theorem exec_uptimeUpdate (t : Nat) (s : State) :
    exec (.uptimeUpdate t) s = .next ((uptimeUpdateEff) (s.at t)) := by
  have hf1 := @uptimeUpdateEff_frame
  exact State.happen_run s t (uptimeUpdateEff) (fun s => by simp [↓hf1]) (fun s => by simp [↓hf1])

theorem exec_syncReceive (t p : Nat) (m : SyncMsg) (s : State) :
    exec (.syncReceive t p m) s = .next (((fun s => if decide (p < 3) then syncReceiveEff p m s else s)) (s.at t)) := by
  have hfite := @State.ite_frame
  have hf1 := @syncReceiveEff_frame
  exact State.happen_run s t ((fun s => if decide (p < 3) then syncReceiveEff p m s else s)) (fun s => by simp [↓hfite, ↓hf1]) (fun s => by simp [↓hfite, ↓hf1])

theorem exec_followUpReceive (t p : Nat) (m : SyncMsg) (s : State) :
    exec (.followUpReceive t p m) s = .next (((fun s => if decide (p < 3) then followUpReceiveEff p m s else s)) (s.at t)) := by
  have hfite := @State.ite_frame
  have hf1 := @followUpReceiveEff_frame
  exact State.happen_run s t ((fun s => if decide (p < 3) then followUpReceiveEff p m s else s)) (fun s => by simp [↓hfite, ↓hf1]) (fun s => by simp [↓hfite, ↓hf1])

theorem exec_announceReceive (t p : Nat) (m : AnnounceMsg) (s : State) :
    exec (.announceReceive t p m) s = .next (((fun s => if decide (p < 3) then announceReceiveEff p m s else s)) (s.at t)) := by
  have hfite := @State.ite_frame
  have hf1 := @announceReceiveEff_frame
  exact State.happen_run s t ((fun s => if decide (p < 3) then announceReceiveEff p m s else s)) (fun s => by simp [↓hfite, ↓hf1]) (fun s => by simp [↓hfite, ↓hf1])

theorem exec_irigbFrame (t mark : Nat) (f : IrigFrame) (s : State) :
    exec (.irigbFrame t mark f) s = .next (((irigbFrameEff mark f)) (s.at t)) := by
  have hf1 := @irigbFrameEff_frame
  exact State.happen_run s t ((irigbFrameEff mark f)) (fun s => by simp [↓hf1]) (fun s => by simp [↓hf1])

theorem exec_ppsInEdge (t : Nat) (s : State) :
    exec (.ppsInEdge t) s = .next ((ppsInEdgeEff) (s.at t)) := by
  have hf1 := @ppsInEdgeEff_frame
  exact State.happen_run s t (ppsInEdgeEff) (fun s => by simp [↓hf1]) (fun s => by simp [↓hf1])

theorem exec_syncLoss (t b : Nat) (s : State) :
    exec (.syncLoss t b) s = .next (((fun s => if decide (b < 4) then syncLossEff b s else s)) (s.at t)) := by
  have hfite := @State.ite_frame
  have hf1 := @syncLossEff_frame
  exact State.happen_run s t ((fun s => if decide (b < 4) then syncLossEff b s else s)) (fun s => by simp [↓hfite, ↓hf1]) (fun s => by simp [↓hfite, ↓hf1])

theorem exec_announceReceiptTimeout (t b : Nat) (s : State) :
    exec (.announceReceiptTimeout t b) s = .next (((fun s => if decide (b < 4) then announceReceiptTimeoutEff b s else s)) (s.at t)) := by
  have hfite := @State.ite_frame
  have hf1 := @announceReceiptTimeoutEff_frame
  exact State.happen_run s t ((fun s => if decide (b < 4) then announceReceiptTimeoutEff b s else s)) (fun s => by simp [↓hfite, ↓hf1]) (fun s => by simp [↓hfite, ↓hf1])

theorem exec_irigbLoss (t : Nat) (s : State) :
    exec (.irigbLoss t) s = .next ((irigbLossEff) (s.at t)) := by
  have hf1 := @irigbLossEff_frame
  exact State.happen_run s t (irigbLossEff) (fun s => by simp [↓hf1]) (fun s => by simp [↓hf1])

theorem exec_ppsLoss (t : Nat) (s : State) :
    exec (.ppsLoss t) s = .next ((ppsLossEff) (s.at t)) := by
  have hf1 := @ppsLossEff_frame
  exact State.happen_run s t (ppsLossEff) (fun s => by simp [↓hf1]) (fun s => by simp [↓hf1])

theorem exec_stepApply (t b : Nat) (s : State) :
    exec (.stepApply t b) s = .next (((fun s => if decide (b < 4) then stepApplyEff b s else s)) (s.at t)) := by
  have hfite := @State.ite_frame
  have hf1 := @stepApplyEff_frame
  exact State.happen_run s t ((fun s => if decide (b < 4) then stepApplyEff b s else s)) (fun s => by simp [↓hfite, ↓hf1]) (fun s => by simp [↓hfite, ↓hf1])

theorem exec_compatSwitch (t : Nat) (s : State) :
    exec (.compatSwitch t) s = .next ((compatSwitchEff) (s.at t)) := by
  have hf1 := @compatSwitchEff_frame
  exact State.happen_run s t (compatSwitchEff) (fun s => by simp [↓hf1]) (fun s => by simp [↓hf1])

theorem exec_ppsOutRise (t : Nat) (s : State) :
    exec (.ppsOutRise t) s = .next ((ppsOutRiseEff) (s.at t)) := by
  have hf1 := @ppsOutRiseEff_frame
  exact State.happen_run s t (ppsOutRiseEff) (fun s => by simp [↓hf1]) (fun s => by simp [↓hf1])

theorem exec_ppsOutFall (t : Nat) (s : State) :
    exec (.ppsOutFall t) s = .next ((ppsOutFallEff) (s.at t)) := by
  have hf1 := @ppsOutFallEff_frame
  exact State.happen_run s t (ppsOutFallEff) (fun s => by simp [↓hf1]) (fun s => by simp [↓hf1])

theorem exec_gmTransmit (t b : Nat) (s : State) :
    exec (.gmTransmit t b) s = .next (((fun s => if decide (b < 4) then gmTransmitEff b s else s)) (s.at t)) := by
  have hfite := @State.ite_frame
  have hf1 := @gmTransmitEff_frame
  exact State.happen_run s t ((fun s => if decide (b < 4) then gmTransmitEff b s else s)) (fun s => by simp [↓hfite, ↓hf1]) (fun s => by simp [↓hfite, ↓hf1])

theorem exec_tqcDegrade (t b : Nat) (s : State) :
    exec (.tqcDegrade t b) s = .next (((fun s => if decide (b < 4) then tqcDegradeEff b s else s)) (s.at t)) := by
  have hfite := @State.ite_frame
  have hf1 := @tqcDegradeEff_frame
  exact State.happen_run s t ((fun s => if decide (b < 4) then tqcDegradeEff b s else s)) (fun s => by simp [↓hfite, ↓hf1]) (fun s => by simp [↓hfite, ↓hf1])

theorem exec_wordRelease (t : Nat) (flips : List (Nat × Nat × Nat × Nat)) (third : List Nat) (s : State) :
    exec (.wordRelease t flips third) s = .next (((fun s => State.offerEdges s (crossedReleaseEff flips third s))) (s.at t)) := by
  have hf1 := @State.offerEdges_frame
  have hf2 := @crossedReleaseEff_frame
  exact State.happen_run s t ((fun s => State.offerEdges s (crossedReleaseEff flips third s))) (fun s => by simp [↓hf1, ↓hf2]) (fun s => by simp [↓hf1, ↓hf2])

theorem exec_tripCommit (t : Nat) (miss0 miss1 : Bool) (s : State) :
    exec (.tripCommit t miss0 miss1) s = .next (((fun s => State.offerEdges s (tripCommitEff miss0 miss1 s))) (s.at t)) := by
  have hf1 := @State.offerEdges_frame
  have hf2 := @tripCommitEff_frame
  exact State.happen_run s t ((fun s => State.offerEdges s (tripCommitEff miss0 miss1 s))) (fun s => by simp [↓hf1, ↓hf2]) (fun s => by simp [↓hf1, ↓hf2])

theorem exec_commitMissingLimit (t p : Nat) (s : State) :
    exec (.commitMissingLimit t p) s = .next (((fun s => if decide (p < 2) then State.offerEdges s (commitMissingLimitEff p s) else s)) (s.at t)) := by
  have hfite := @State.ite_frame
  have hf1 := @State.offerEdges_frame
  have hf2 := @commitMissingLimitEff_frame
  exact State.happen_run s t ((fun s => if decide (p < 2) then State.offerEdges s (commitMissingLimitEff p s) else s)) (fun s => by simp [↓hfite, ↓hf1, ↓hf2]) (fun s => by simp [↓hfite, ↓hf1, ↓hf2])

theorem exec_minonExpiry (t n : Nat) (s : State) :
    exec (.minonExpiry t n) s = .next (((fun s => if decide (n < 32) then State.offerEdges s (minonExpiryEff n s) else s)) (s.at t)) := by
  have hfite := @State.ite_frame
  have hf1 := @State.offerEdges_frame
  have hf2 := @minonExpiryEff_frame
  exact State.happen_run s t ((fun s => if decide (n < 32) then State.offerEdges s (minonExpiryEff n s) else s)) (fun s => by simp [↓hfite, ↓hf1, ↓hf2]) (fun s => by simp [↓hfite, ↓hf1, ↓hf2])

theorem exec_driveHalfPeriod (t : Nat) (s : State) :
    exec (.driveHalfPeriod t) s = .next (((fun s => State.offerEdges s (driveHalfPeriodEff s))) (s.at t)) := by
  have hf1 := @State.offerEdges_frame
  have hf2 := @driveHalfPeriodEff_frame
  exact State.happen_run s t ((fun s => State.offerEdges s (driveHalfPeriodEff s))) (fun s => by simp [↓hf1, ↓hf2]) (fun s => by simp [↓hf1, ↓hf2])

theorem exec_readbackMismatch (t n : Nat) (fire : Bool) (s : State) :
    exec (.readbackMismatch t n fire) s = .next (((fun s => if decide (n < 32) then State.offerEdges s (readbackMismatchEff n fire s) else s)) (s.at t)) := by
  have hfite := @State.ite_frame
  have hf1 := @State.offerEdges_frame
  have hf2 := @readbackMismatchEff_frame
  exact State.happen_run s t ((fun s => if decide (n < 32) then State.offerEdges s (readbackMismatchEff n fire s) else s)) (fun s => by simp [↓hfite, ↓hf1, ↓hf2]) (fun s => by simp [↓hfite, ↓hf1, ↓hf2])

theorem exec_wdogHalfPeriod (t : Nat) (s : State) :
    exec (.wdogHalfPeriod t) s = .next (((fun s => State.offerEdges s (wdogHalfPeriodEff s))) (s.at t)) := by
  have hf1 := @State.offerEdges_frame
  have hf2 := @wdogHalfPeriodEff_frame
  exact State.happen_run s t ((fun s => State.offerEdges s (wdogHalfPeriodEff s))) (fun s => by simp [↓hf1, ↓hf2]) (fun s => by simp [↓hf1, ↓hf2])

theorem exec_binaryInputEdge (t i : Nat) (level : Bool) (s : State) :
    exec (.binaryInputEdge t i level) s = .next (((fun s => if decide (i < 64) then State.offerEdges s (binaryInputEdgeEff i level s) else s)) (s.at t)) := by
  have hfite := @State.ite_frame
  have hf1 := @State.offerEdges_frame
  have hf2 := @binaryInputEdgeEff_frame
  exact State.happen_run s t ((fun s => if decide (i < 64) then State.offerEdges s (binaryInputEdgeEff i level s) else s)) (fun s => by simp [↓hfite, ↓hf1, ↓hf2]) (fun s => by simp [↓hfite, ↓hf1, ↓hf2])

theorem exec_debouncedChange (t i : Nat) (s : State) :
    exec (.debouncedChange t i) s = .next (((fun s => if decide (i < 64) then State.offerEdges s (debouncedChangeEff i s) else s)) (s.at t)) := by
  have hfite := @State.ite_frame
  have hf1 := @State.offerEdges_frame
  have hf2 := @debouncedChangeEff_frame
  exact State.happen_run s t ((fun s => if decide (i < 64) then State.offerEdges s (debouncedChangeEff i s) else s)) (fun s => by simp [↓hfite, ↓hf1, ↓hf2]) (fun s => by simp [↓hfite, ↓hf1, ↓hf2])

end Sys2Proof.Machine
end

