-- ==== Sys2Proof/Laws/Orders.lean ====
section
/-!
SUPPORT. What a command of an opcode and a command of a block call come to: the one lemma of each that its statements cite.
-/
namespace Sys2Proof.Machine

/-- R450: a request rows 7 to 9 have passed is run, and answered or left waiting. -/
theorem State.onOpcode_admitted (a : State) (op : Nat) (f : CmdReq → State → CmdRes) (q : CmdReq) (b : State) (h : Admitted a op q b) :
    a.onOpcode op f =
      (let r := f q (inWorld q.secure b)
       let e := inWorld false r.s
       if r.wait then { e with cmd := { e.cmd with modeWait := some q } } else e.respond q r.st r.detail r.out) := by
  obtain ⟨q0, rest, row, hq, hop, hrow, hwait, hlost, hlo, hhi, hmode, hauth⟩ := h
  have lo : ¬ q.payload.length < row.lo := by omega
  have hi : ¬ row.hi < q.payload.length := by omega
  have run : b.runReq q row f =
      (let r := f q (inWorld q.secure b)
       let e := inWorld false r.s
       if r.wait then { e with cmd := { e.cmd with modeWait := some q } } else e.respond q r.st r.detail r.out) := by
    unfold State.runReq; rw [if_neg (by simp [lo, hi]), if_neg (by simp [hmode])]; rfl
  rw [← run]
  unfold State.onOpcode
  simp only [hq, hrow]
  rcases hauth with ⟨hcrit, hflag, rfl, rfl⟩ | ⟨hneed, hrun⟩
  · rw [if_neg (by simp [hop, hwait, hlost]), if_neg (by rw [hcrit]; simp [bitN, hflag])]
  · have need : ((({ a with cmd := { a.cmd with svc := rest } } : State).critOf q0 row.crit).1 || bitN (byteAt q0.frame 2) 0) = true := by
      rcases hneed with h | h <;> simp [h, bitN]
    rw [if_neg (by simp [hop, hwait, hlost]), if_pos need, hrun]

/-- A command that runs the opcode `op` with `f` answers what `f` answers. -/
theorem OrderAnswers.of_onOpcode (ins : Nat → Instr) (op : Nat) (f : CmdReq → State → CmdRes) (cond : CmdReq → State → Prop)
    (res : CmdReq → State → CmdRes) (hrun : ∀ t s, exec (ins t) s = .next ((s.at t).onOpcode op f))
    (hres : ∀ q s, cond q s → f q s = res q s) : OrderAnswers ins op cond res := by
  intro t s q b ha hc
  rw [hrun, State.onOpcode_admitted _ _ _ _ _ ha, hres _ _ hc]

/-- The next call of a program that executes, when it is of the type a command runs. -/
theorem State.onCall_next (s : State) (k ty : Nat) (f : CallCtx → State → State) (c : CallCtx) (hrun : s.progRuns k = true)
    (hhold : s.holding k = false) (hcall : s.nextCall k = some c) (hty : c.call.type = ty) : s.onCall k ty f = f c s := by
  simp [State.onCall, hrun, hhold, hcall, hty]

/-- A block that only computes outputs and its internal state answers them. -/
theorem BlockAnswers.of_runPure (ins : Nat → Nat → Instr) (ty : Nat) (eff : Nat → State → State) (f g : CallCtx → List Nat × BlkInt)
    (hexec : ∀ t k s, exec (ins t k) s = .next ((fun s => if decide (k < 2) then eff k s else s) (s.at t)))
    (heff : ∀ k s, eff k s = s.onCall k ty (fun c s => s.runPure k c g)) (hg : ∀ c, g c = f c) : BlockAnswers ins ty f := by
  intro t k c s hk hr hh hn ht
  rw [hexec]
  simp only [hk, decide_true, if_true, heff]
  rw [State.onCall_next _ _ _ _ _ hr hh hn ht]
  simp only [State.runPure, hg]

end Sys2Proof.Machine
end

