-- ==== Sys2Proof/Laws/Raise.lean ====
section
/-!
SUPPORT. What raising an event does: the registers it leaves alone, the number it takes, where its entry goes.
-/
namespace Sys2Proof.Machine

/-- An operation of the registers from 0x001A_0000 up leaves every register below as it was. -/
theorem State.rd_setF_low (s : State) (f : Field) (v a : Nat) (h : a < 0x1A0000) (hf : 0x1A0000 ≤ f.addr) :
    (s.setF f v).rd a = s.rd a := State.rd_setF_other _ _ _ _ (by omega)

theorem State.rd_logPush (s : State) (e : EvtEntry) (a : Nat) (h : a < 0x1A0000) : (s.logPush e).rd a = s.rd a := by
  unfold State.logPush
  split
  · exact State.rd_of_regs (by simp) a
  · have h1 := State.rd_setF_low s EVT_LOG_LOGDROP (satInc (2 ^ EVT_LOG_LOGDROP.width - 1) (s.getF EVT_LOG_LOGDROP)) a h (by decide)
    exact Eq.trans (State.rd_of_regs (by simp only; rfl) a) h1

theorem State.rd_setQueue (s : State) (q : Nat) (l : List EvtEntry) (a : Nat) : (s.setQueue q l).rd a = s.rd a := by
  have hf1 := @State.setQueue_frame
  exact State.rd_of_regs (by simp [↓hf1]) a

theorem State.rd_seen (s : State) (src a : Nat) (h : a < 0x1A0000) : (s.seen src).rd a = s.rd a :=
  State.rd_setF_low s _ _ a h (by simp only [EVT_SEEN_SEEN, EVT_SEEN]; omega)

theorem State.rd_logBump (s : State) (n a : Nat) : (s.logBump n).rd a = s.rd a := by
  have hf1 := @State.logBump_frame
  exact State.rd_of_regs (by simp [↓hf1]) a

theorem State.rd_enqueue (s : State) (q : Nat) (e : EvtEntry) (a : Nat) (h : a < 0x1A0000) : (s.enqueue q e).rd a = s.rd a := by
  have d : ∀ s : State, (s.incSat (EVT_QCNT_DROP q)).rd a = s.rd a := fun s =>
    State.rd_setF_low s _ _ a h (by simp only [EVT_QCNT_DROP, EVT_QCNT]; omega)
  have o : ∀ s : State, (s.setFlag (EVT_QSTAT_OVF q) true).rd a = s.rd a := fun s =>
    State.rd_setF_low s _ _ a h (by simp only [EVT_QSTAT_OVF, EVT_QSTAT]; omega)
  unfold State.enqueue
  dsimp only
  split
  · exact State.rd_setQueue ..
  · split
    · rw [o, d, State.rd_setQueue, State.rd_logPush _ _ _ h, State.rd_seen _ _ _ h]
      exact State.rd_of_regs (by simp) a
    · exact d s

theorem State.rd_orderCycle (s : State) (e0 src a : Nat) : (s.orderCycle e0 src).rd a = s.rd a := by
  unfold State.orderCycle; split <;> rfl

theorem State.rd_addEvent (s : State) (src inst data a : Nat) (h : a < 0x1A0000) : (s.addEvent src inst data).rd a = s.rd a := by
  have hc : ∀ (s : State) (q : Nat), (s.incSat (EVT_QCNT_COALESCED q)).rd a = s.rd a := fun s q =>
    State.rd_setF_low s _ _ a h (by simp only [EVT_QCNT_COALESCED, EVT_QCNT]; omega)
  have hm : ∀ (s : State) (m : MramSt), ({ s with mram := m } : State).rd a = s.rd a := fun s m => rfl
  have he : ∀ (s : State) (m : EvtSt), ({ s with evt := m } : State).rd a = s.rd a := fun s m => rfl
  unfold State.addEvent
  dsimp only
  (repeat' split) <;>
    simp only [State.rd_enqueue _ _ _ _ h, State.rd_logPush _ _ _ h, State.rd_seen _ _ _ h, State.rd_setQueue, State.rd_logBump, hc, hm, he]

/-- Raising an event writes no register below 0x001A_0000. -/
theorem State.rd_raise (s : State) (src inst data a : Nat) (h : a < 0x1A0000) : (s.raise src inst data).rd a = s.rd a :=
  (State.rd_orderCycle _ _ _ a).trans (State.rd_addEvent s src inst data a h)

theorem State.getF_raise (s : State) (src inst data : Nat) (f : Field) (h : f.addr < 0x1A0000) :
    (s.raise src inst data).getF f = s.getF f := by
  unfold State.getF; rw [State.rd_raise _ _ _ _ _ h]

theorem State.flag_raise (s : State) (src inst data : Nat) (f : Field) (h : f.addr < 0x1A0000) :
    (s.raise src inst data).flag f = s.flag f := by
  unfold State.flag; rw [State.getF_raise _ _ _ _ _ h]

end Sys2Proof.Machine
end

