-- ==== Sys2Proof/WellFormed.lean ====
section
/-!
DEFINITION. Which commands name things the block has: groups, channels, ports, numbers of their fields' widths. Any other changes
nothing but the clock (Machine/Tick.lean).
-/
namespace Sys2Proof

/-- Are a command's operands within the ranges of what they name? -/
def Instr.wellFormed : Instr → Bool
  | .supplyOutOfRange _ => true
  | .powerOnResetRelease _ _ _ _ _ => true
  | .bootHoldFall _ _ => true
  | .imageHashDone _ _ => true
  | .lpddr4xTrainingDone _ _ => true
  | .sectionsLoaded _ _ _ => true
  | .imageValidation _ => true
  | .startupCalibrationDone _ _ => true
  | .modeChangeEffect _ => true
  | .referenceLoss _ => true
  | .referenceReturnRestart _ => true
  | .policyRestart _ => true
  | .restartTake _ _ _ _ _ => true
  | .supplyWarnExcursion _ rail _ => decide (rail < 5)
  | .supplyExcursionEnd _ i _ => decide (i < 9)
  | .temperatureExcursion _ _ => true
  | .monitorRefresh _ _ _ locks => decide (locks < 32)
  | .trngTestFail _ test => decide (test < 2)
  | .fusedSample _ _ _ _ third => third.all (fun c => decide (1 ≤ c) && decide (c < 12))
  | .arbitrationOpen _ g => decide (g < 8)
  | .arbitrationDecision _ g => decide (g < 8)
  | .rotationStepStart _ g => decide (g < 8)
  | .shadowEnd _ g => decide (g < 8)
  | .sliceCalibrationDone _ g _ => decide (g < 8)
  | .cnvRefreqWrite _ _ g _ => decide (g < 8)
  | .refSettledRise _ g => decide (g < 8)
  | .refWindowFault _ g => decide (g < 8)
  | .refSettlingFault _ g => decide (g < 8)
  | .auxStart _ _ => true
  | .auxStop _ _ => true
  | .auxClrCnt _ _ => true
  | .auxFlush _ _ => true
  | .auxEntryDone _ _ => true
  | .auxPeriodStart _ => true
  | .auxSnapGo _ _ => true
  | .auxSnapCapture _ => true
  | .auxQdataRead _ _ => true
  | .stage1Output _ c _ => decide (c < 64)
  | .stage2Output _ c _ => decide (c < 64)
  | .recomputeDone _ g st c _ _ => decide (g < 8) && decide (st < 4) && decide (c < 128)
  | .trackedSample _ c _ => decide (c < 128)
  | .fixedRateSample _ c _ => decide (c < 128)
  | .phasorSwap _ => true
  | .fltStop _ _ g => decide (g < 8)
  | .fltStart _ _ g => decide (g < 8)
  | .chainStopTaken _ g => decide (g < 8)
  | .syncReset _ g => decide (g < 8)
  | .fltBankWrite _ _ g _ => decide (g < 8)
  | .fltCdataWrite _ _ _ => true
  | .fltCcmtCommit _ _ => true
  | .fltTrimWrite _ _ c _ => decide (c < 128)
  | .fltPhselWrite _ _ _ => true
  | .fastTick _ => true
  | .wordRelease _ _ third => third.all (fun c => decide (1 ≤ c) && decide (c < 12))
  | .tripCommit _ _ _ => true
  | .commitMissingLimit _ p => decide (p < 2)
  | .minonExpiry _ n => decide (n < 32)
  | .driveHalfPeriod _ => true
  | .readbackMismatch _ n _ => decide (n < 32)
  | .wdogHalfPeriod _ => true
  | .slowListStart _ p _ _ => decide (p < 2)
  | .slowListAbandon _ p => decide (p < 2)
  | .definiteTimeExpiry _ i ph => decide (i < 512) && decide (ph < 3)
  | .inverseTimeOperate _ i ph => decide (i < 512) && decide (ph < 3)
  | .resetTimeExpiry _ i ph => decide (i < 512) && decide (ph < 3)
  | .holdLimitExpiry _ i ph => decide (i < 512) && decide (ph < 3)
  | .vectorShiftPulseEnd _ i => decide (i < 512)
  | .bfRetripTime _ i => decide (i < 512)
  | .bfBacktripTime _ i => decide (i < 512)
  | .coldLoadEntry _ b => decide (b < 12)
  | .coldLoadEnd _ b => decide (b < 12)
  | .zoneNconReached _ z ph => decide (z < 2) && decide (ph < 3)
  | .zoneBlankEnd _ z => decide (z < 2)
  | .zoneAlarmTime _ z => decide (z < 2)
  | .surgeInception _ b ph => decide (b < 12) && decide (ph < 3)
  | .iseWindowClose _ b => decide (b < 12)
  | .iseWinExpiry _ b => decide (b < 12)
  | .groupChangeEffect _ b => decide (b < 12)
  | .settingWriteEffect _ i => decide (i < 512)
  | .binaryInputEdge _ i _ => decide (i < 64)
  | .debouncedChange _ i => decide (i < 64)
  | .trigInEdge _ i _ => decide (i < 2)
  | .commitBoundary _ p _ _ => decide (p < 3)
  | .sinkReport _ p core => decide (p < 3) && decide (core < 3)
  | .resyncComplete _ p _ => decide (p < 3)
  | .coreMemoryRead _ p _ _ => decide (p < 3)
  | .scrubSlot _ p _ => decide (p < 3)
  | .podSel _ sel => decide (sel < 4)
  | .dbgNop _ => true
  | .dbgHalt _ => true
  | .dbgResume _ => true
  | .dbgStep _ => true
  | .dbgReadReg _ _ => true
  | .dbgWriteReg _ _ _ => true
  | .dbgReadMem _ _ => true
  | .dbgWriteMem _ _ _ => true
  | .dbgSetBp _ i _ => decide (i < 4)
  | .dbgClrBp _ i => decide (i < 4)
  | .breakpointHit _ p i => decide (p < 3) && decide (i < 4)
  | .tapExtest _ => true
  | .tapIdcode _ => true
  | .tapSamplePreload _ => true
  | .tapHighz _ => true
  | .tapClamp _ => true
  | .tapBypass _ => true
  | .periodStart _ k => decide (k < 2)
  | .freeRunScanStart _ k => decide (k < 2)
  | .logicOutputWrite _ k => decide (k < 2)
  | .joinComplete _ _ => true
  | .exchangeLoaded _ _ => true
  | .retainCommitDone _ => true
  | .holdEntry _ k => decide (k < 2)
  | .initWaitExpiry _ k => decide (k < 2)
  | .blkEnd _ k => decide (k < 2)
  | .blkAnd _ k => decide (k < 2)
  | .blkOr _ k => decide (k < 2)
  | .blkXor _ k => decide (k < 2)
  | .blkNot _ k => decide (k < 2)
  | .blkSr _ k => decide (k < 2)
  | .blkRs _ k => decide (k < 2)
  | .blkMaj3 _ k => decide (k < 2)
  | .blkKofn _ k => decide (k < 2)
  | .blkRTrig _ k => decide (k < 2)
  | .blkFTrig _ k => decide (k < 2)
  | .blkTon _ k => decide (k < 2)
  | .blkTof _ k => decide (k < 2)
  | .blkTp _ k => decide (k < 2)
  | .blkCtu _ k => decide (k < 2)
  | .blkCtd _ k => decide (k < 2)
  | .blkCtud _ k => decide (k < 2)
  | .blkEq _ k => decide (k < 2)
  | .blkNe _ k => decide (k < 2)
  | .blkGt _ k => decide (k < 2)
  | .blkGe _ k => decide (k < 2)
  | .blkLt _ k => decide (k < 2)
  | .blkLe _ k => decide (k < 2)
  | .blkHyst _ k => decide (k < 2)
  | .blkAdd _ k => decide (k < 2)
  | .blkSub _ k => decide (k < 2)
  | .blkMul _ k => decide (k < 2)
  | .blkDiv _ k => decide (k < 2)
  | .blkMod _ k => decide (k < 2)
  | .blkAbs _ k => decide (k < 2)
  | .blkNeg _ k => decide (k < 2)
  | .blkSqrt _ k => decide (k < 2)
  | .blkMin _ k => decide (k < 2)
  | .blkMax _ k => decide (k < 2)
  | .blkSel _ k => decide (k < 2)
  | .blkMux _ k => decide (k < 2)
  | .blkLimit _ k => decide (k < 2)
  | .blkMove _ k => decide (k < 2)
  | .blkPack _ k => decide (k < 2)
  | .blkUnpack _ k => decide (k < 2)
  | .blkBand _ k => decide (k < 2)
  | .blkBor _ k => decide (k < 2)
  | .blkBxor _ k => decide (k < 2)
  | .blkShl _ k => decide (k < 2)
  | .blkShr _ k => decide (k < 2)
  | .blkI2r _ k => decide (k < 2)
  | .blkR2i _ k => decide (k < 2)
  | .blkB2i _ k => decide (k < 2)
  | .blkI2b _ k => decide (k < 2)
  | .blkT2i _ k => decide (k < 2)
  | .blkI2t _ k => decide (k < 2)
  | .blkT2r _ k => decide (k < 2)
  | .blkR2t _ k => decide (k < 2)
  | .blkNow _ k => decide (k < 2)
  | .blkLag _ k => decide (k < 2)
  | .blkDelta _ k => decide (k < 2)
  | .blkQgood _ k => decide (k < 2)
  | .blkSubstate _ k => decide (k < 2)
  | .blkPodstate _ k => decide (k < 2)
  | .blkDevstate _ k => decide (k < 2)
  | .blkElem _ k => decide (k < 2)
  | .blkZone _ k => decide (k < 2)
  | .blkSgsel _ k => decide (k < 2)
  | .blkBkr _ k => decide (k < 2)
  | .bkrPulseEnd _ brk => decide (brk < 32)
  | .bkrSupervisionTimeout _ brk => decide (brk < 32)
  | .bkrSelectExpiry _ brk => decide (brk < 32)
  | .blkAr _ k => decide (k < 2)
  | .blkIlk _ k => decide (k < 2)
  | .blkRectrg _ k => decide (k < 2)
  | .blkGsetB _ k => decide (k < 2)
  | .blkGsetI _ k => decide (k < 2)
  | .blkGsetR _ k => decide (k < 2)
  | .blkAlarm _ k => decide (k < 2)
  | .blkDps _ k => decide (k < 2)
  | .blkLockout _ k => decide (k < 2)
  | .rowWrite _ c st _ => decide (c < 8) && decide (st < 5)
  | .recordIndexComplete _ c => decide (c < 8)
  | .triggerArrival _ _ => true
  | .trigOutPulseEnd _ i => decide (i < 2)
  | .maskViolation _ c k => decide (c < 8) && decide (k < 128)
  | .recCctlArm _ _ c => decide (c < 8)
  | .recCctlDisarm _ _ c => decide (c < 8)
  | .recCctlApply _ _ c => decide (c < 8)
  | .recCctlTrig _ _ c => decide (c < 8)
  | .recWselWrite _ _ _ => true
  | .recRelWrite _ _ _ => true
  | .recordWindowRead _ _ o => decide (o < 0x600000)
  | .recordWindowWrite _ _ o => decide (o < 0x600000)
  | .syncReceive _ p _ => decide (p < 3)
  | .followUpReceive _ p _ => decide (p < 3)
  | .announceReceive _ p _ => decide (p < 3)
  | .pdelayReqReceive _ p seq _ => decide (p < 3) && decide (seq < 65536)
  | .pdelayRespReceive _ p seq _ => decide (p < 3) && decide (seq < 65536)
  | .pdelayMeasure _ p => decide (p < 3)
  | .irigbFrame _ _ _ => true
  | .ppsInEdge _ => true
  | .syncLoss _ b => decide (b < 4)
  | .announceReceiptTimeout _ b => decide (b < 4)
  | .irigbLoss _ => true
  | .ppsLoss _ => true
  | .partnerTimeLoss _ => true
  | .stepApply _ b => decide (b < 4)
  | .compatSwitch _ => true
  | .ppsOutRise _ => true
  | .ppsOutFall _ => true
  | .gmTransmit _ b => decide (b < 4)
  | .frameReceive _ p _ _ _ => decide (p < 3)
  | .ddtEntryExpiry _ => true
  | .addressAgeing _ => true
  | .supervisionTx _ => true
  | .redundancyFaultDetect _ => true
  | .portLinkChange _ p _ _ _ => decide (p < 3)
  | .c22Read _ _ _ => true
  | .c22Write _ _ _ => true
  | .c45Address _ _ _ => true
  | .c45Read _ _ _ => true
  | .c45Write _ _ _ => true
  | .mdioFrameDone _ _ => true
  | .gooseStateChange _ n => decide (n < 32)
  | .gooseRetransmit _ n => decide (n < 32)
  | .gooseReceive _ p _ => decide (p < 3)
  | .gooseLiveTimeout _ j => decide (j < 128)
  | .svReceive _ p _ => decide (p < 3)
  | .svStreamTimeout _ st => decide (st < 16)
  | .ozLinkDown _ l _ => decide (l < 2)
  | .ozClockDetect _ l => decide (l < 2)
  | .ozLinkUp _ l => decide (l < 2)
  | .delayExchange _ l => decide (l < 2)
  | .dlyReqReceive _ l _ => decide (l < 2)
  | .dlyRespReceive _ l _ => decide (l < 2)
  | .ozTrigReceive _ l lseq id hops orig age ns sec top => decide (l < 2) && decide (lseq < 256) && decide (id < 16) && decide (hops < 8) && decide (orig < 8) && decide (age < 4096) && decide (ns < 1000000000) && decide (sec < 256) && decide (top < 16)
  | .ozTrigDelivery _ => true
  | .heartbeatSend _ => true
  | .heartbeatReceive _ lseq podOk _ _ => decide (lseq < 256) && decide (podOk < 8)
  | .partnerOkTimeout _ => true
  | .pairWaitExpiry _ => true
  | .stateReceive _ _ tau => decide (tau < 1000000000)
  | .timeReceive _ l ns sec qual => decide (l < 2) && decide (ns < 1000000000) && decide (sec < 65536) && decide (qual < 256)
  | .pubseqReceive _ lseq cb st => decide (lseq < 256) && decide (cb < 32) && decide (st < 4294967296)
  | .imageReceive _ lseq dig => decide (lseq < 256) && decide (dig < 2 ^ 64)
  | .ackReceive _ l lseq => decide (l < 2) && decide (lseq < 256)
  | .nakReceive _ l lseq => decide (l < 2) && decide (lseq < 256)
  | .ackTimeout _ l lseq => decide (l < 2) && decide (lseq < 256)
  | .doorbell _ _ => true
  | .cmdFragment _ p dst src bytes => decide (p < 3) && decide (dst < 2 ^ 48) && decide (src < 2 ^ 48) && bytes.all (fun b => decide (b < 256))
  | .fragmentTimeout _ => true
  | .rateLimitEnd _ tr => decide (tr < 2)
  | .cmdStatus _ => true
  | .cmdRegRead _ => true
  | .cmdRegWrite _ => true
  | .cmdRestart _ => true
  | .cmdSafe _ => true
  | .cmdResultRead _ => true
  | .cmdModeSet _ => true
  | .cmdOutputForce _ => true
  | .forceExpiry _ => true
  | .cmdTripReset _ => true
  | .cmdSettingWrite _ => true
  | .cmdGroupSelect _ => true
  | .cmdDebugUnlock _ => true
  | .cmdDebugLock _ => true
  | .cmdPairHandover _ => true
  | .cmdBkrSelect _ => true
  | .cmdBkrOperate _ => true
  | .cmdBkrCancel _ => true
  | .cmdBkrStatus _ => true
  | .cmdRecArm _ => true
  | .cmdRecDisarm _ => true
  | .cmdRecTrig _ => true
  | .cmdRecApply _ => true
  | .cmdRecRelease _ => true
  | .cmdLogicRun _ => true
  | .cmdLogicStop _ => true
  | .cmdLogicHold _ => true
  | .cmdLogicResume _ => true
  | .cmdLogicStep _ => true
  | .cmdLogicSplit _ => true
  | .cmdLogicJoin _ => true
  | .cmdLogicExchange _ => true
  | .cmdTimeSet _ => true
  | .cmdTimeAcceptStep _ => true
  | .cmdKeyInit _ => true
  | .cmdKeyRotate _ nonce => decide (nonce < 2 ^ 128)
  | .cmdKeyRetire _ => true
  | .cmdWorldSet _ => true
  | .cmdOtpProgram _ => true
  | .cmdOtpRevoke _ => true
  | .otpOperationDone _ _ => true
  | .cmdFlashRead _ data => data.all (fun b => decide (b < 256))
  | .cmdFlashErase _ => true
  | .cmdFlashProgram _ => true
  | .cmdFlashSlot _ => true
  | .flashOperationDone _ _ _ => true
  | .cmdEvtRead _ => true
  | .cmdEvtAck _ => true
  | .evtQackWrite _ _ q _ => decide (q < 2)
  | .logWrite _ => true
  | .evtQdataCapture _ _ q => decide (q < 2)
  | .evtLdataRead _ _ => true
  | .captureRead _ _ _ => true
  | .timSampWrite _ _ _ => true
  | .reservedAccess _ _ a _ => decide (a < 4294967296)
  | .registerWrite _ _ _ v => decide (v < 4294967296)
  | .xspiRead _ a _ => decide (a < 4294967296)
  | .xspiWrite _ a ws _ => decide (a < 4294967296) && ws.all (fun b => decide (b < 4294967296))
  | .xspiReadStat _ _ => true
  | .uptimeUpdate _ => true
  | .tqcDegrade _ b => decide (b < 4)
  | .resyncWindowAgeing _ p core => decide (p < 3) && decide (core < 3)
  | .xspiUndefinedCode _ code => decide (code < 256)
  | .dbgUndefinedOp _ _ => true
  | .ozauxCrcError _ l ty lseq => decide (l < 2) && decide (ty < 256) && decide (lseq < 256)

end Sys2Proof
end

