-- ==== Sys2Proof/Tests/Slice0.lean ====
section
/-!
SUPPORT. Tests: ill-formed commands refused, values worked out in the spec's text, and for each statement with hypotheses a state and
operands that meet them.
-/
set_option maxRecDepth 20000
set_option linter.all false
set_option Elab.async false

namespace Sys2Proof.Tests
open Sys2Proof.Machine

/-- An engine that has started, in mode `m`, with no secure window but the one that always is. -/
def live (m : Mode) : State := { State.reset with mode := m, sys := { resetSys with por := false, mapOn := true, step := 10 } }

/-- A slice calibration. -/
def cal0 : SliceCal := ⟨0, 8388608, [], 0, 8388608, []⟩

/-- A running engine, Pods P0 and P1 in step, with one enabled instance of a type on bay 0, its state and its type's parameters 0 to 6 in group 0. -/
def oneInst (i ty : Nat) (x : InstInt) (gps : List Nat) : State :=
  let s := ((live .run).setF (POD_STAT_STATE 0) 1).setF (POD_STAT_STATE 1) 1
  let s := s.wr (PRT_SET i 0) (BitVec.ofNat 32 (ty + 0x1000))
  let s := (gps.zip (upto 7)).foldl (fun s e => s.wr (PRT_SET i (2 + e.2)) (BitVec.ofNat 32 e.1)) s
  { s with prt := { s.prt with insts := [(i, x)] } }

/-- The same as an instance whose phases are all `p`. -/
def ofPhase (p : PhaseInt) : InstInt := { resetInst with ph := [p, p, p] }

/-- Bays all in one state. -/
def bays (s : State) (b : BayInt) : State := { s with prt := { s.prt with bays := List.replicate 12 b } }

/-- Zones all in one state. -/
def zones (s : State) (z : ZoneInt) : State := { s with prt := { s.prt with zones := [z, z] } }

/-- The trip island changed. -/
def trip (s : State) (f : TrpSt → TrpSt) : State := { s with trp := f s.trp }

/-- The recorder changed. -/
def recd (s : State) (f : RecSt → RecSt) : State := { s with tph := f s.tph }

/-- Output 31 enabled with a failed pod among its sources. -/
def bad31 : State :=
  trip ((((live .run).setFlag (TRP_OCFG_EN 31) true).setFlag (TRP_ESRC_EN 0) true).setF (TRP_AMAP_MAP 31 0) 1)
    (fun x => { x with missFail := [true, true] })

/-- Pod `p` in a state. -/
def pod (p st : Nat) : State := (live .run).setF (POD_STAT_STATE p) st

/-- Pod `p` in a state and selected for debug, its breakpoints set. -/
def dbg (p st : Nat) : State :=
  { (((pod p st).setF DBG_STAT_TARGET (p + 1)).setFlag DBG_STAT_UNLOCK true).setFlag POD_LCFG_LDBG_EN true with
    mode := .test, pod := { (live .run).pod with pods := List.replicate 3 { resetPod with bps := List.replicate 4 (some 0) } } }

/-- An open record. -/
def open0 : RecOpen := ⟨0, 0, 0, 0, 0, 0, 0, 0, 0, 0, 0, 1, [], [], 0, false, false, 0⟩

/-- An input image with binary input 0 set and subscription item (0, 0) at 31. -/
def img1 : InImage := ⟨[], [], [], 1, [], 0, 0, [[(31, 0)]], [], 0, ⟨0, 0, 0, none⟩, 0, 0, []⟩

/-- A scan of that image, at word `pc`. -/
def scan1 (pc : Option Nat) : Scan := ⟨img1, [], pc, 0, [], 0, false, false, 0, []⟩

/-- Pod L agreeing and in Run with both programs, the first scan begun or not, its one call of a type. -/
def lgc (ty : Nat) (binds : List Bind) (x : BlkInt) (sc : Option Scan) : State :=
  let p : ProgSt := { resetProg with calls := [(0, ⟨ty, 0, 0, false, false, binds⟩)], ints := [(0, x)], scan := sc }
  { ((((live .run).setF (POD_STAT_STATE 2) 1).setF LGC_MODE_MODE 1).setFlag POD_LSTAT_ANA_RUN true).setF LGC_SIZE_NINST 1 with
    lgc := { resetLgc with progs := [p, p] } }

/-- The programs of a state changed. -/
def progs (s : State) (f : ProgSt → ProgSt) : State := { s with lgc := { s.lgc with progs := s.lgc.progs.map f } }

/-- Every block command of the statements has a program that reaches a call of its type: `BlockAnswers` assumes no more. -/
theorem witness_block_answers (ty : Nat) :
    ∃ (t k : Nat) (c : CallCtx) (s : State), k < 2 ∧ (s.at t).progRuns k = true ∧ (s.at t).holding k = false ∧
      (s.at t).nextCall k = some c ∧ c.call.type = ty :=
  ⟨0, 1, _, lgc ty [] resetBlk (some (scan1 (some 0))), by decide,
    Eq.trans (b := ((lgc 0 [] resetBlk none).at 0).progRuns 1) rfl (by decide), rfl, rfl, rfl⟩

/-- Time base `b` in a state with a source, and what it holds. -/
def base (b st src : Nat) (f : TbInt → TbInt) : State :=
  let s := ((live .run).setF (TIM_STAT_STATE b) st).setF (TIM_CFG_SRC b) src
  { s with tim := { s.tim with bases := s.tim.bases.map f } }

/-- An Announce message. -/
def ann1 : AnnounceMsg := ⟨0, 1, 128, 248, 0x2F, 100, 128, 0, none, false, false, 0, true⟩

/-- The switch in a mode, every port enabled. -/
def net (m : Nat) : State :=
  (upto 3).foldl (fun s p => s.setFlag (NET_PCFG_EN p) true) (((live .run).setF NET_MODE_MODE m).setF NET_MAC_LO_MACL 1)

/-- A frame to an address. -/
def eth (len dst : Nat) : EthFrame := ⟨len, true, dst, 2, 0, none, some 65535, none, .none, 0, false⟩

/-- A GOOSE frame that carries nothing. -/
def gframe : GooseFrame := ⟨0, 0, [], 0, false, false, 1, 0, 0, []⟩

/-- Published control block 31, subscription 127 and stream 15 enabled, the engine holding the duties. -/
def gsv (f : GsvSt → GsvSt) : State :=
  let s := ((((live .run).setFlag (GSV_PCB_EN 31) true).setFlag (GSV_SCFG_EN 127) true).setFlag (GSV_SVSCFG_EN 15) true).setFlag
    OZX_PSTAT_HOLDS true
  { s with gsv := f s.gsv }

/-- A subscription or stream changed in every place. -/
def subs (f : SubInt → SubInt) : State := gsv (fun g => { g with subs := g.subs.map f })

/-- An Ozaux link 1 in a state and enabled. -/
def oz (st : Nat) (f : OzLink → OzLink) : State :=
  let s := ((live .run).setF (OZX_LSTAT_STATE 1) st).setF OZX_CFG_LINK_EN 3
  { s with oz := { s.oz with links := s.oz.links.map f } }

/-! ### Requests -/

/-- A request's first 24 bytes: AUTH with slot 0, the counter 1. -/
def msg1 : List Nat := [0, 0, 1, 0, 0, 0, 0, 0, 0, 0, 0, 0, 0, 0, 0, 0, 1, 0, 0, 0, 0, 0, 0, 0]

/-- The tag of that message under the empty key has its 16 bytes. -/
theorem tag1_length : (tagOfMsg [] msg1).length = 16 := by decide +kernel

/-- A request on the xSPI with a frame. -/
def req (op : Nat) (pay frame : List Nat) : CmdReq := ⟨0, op, 0, pay, frame, 0, 0, none, [], false⟩

/-- A state whose key slot 0 is ACTIVE and whose next request has an opcode and a payload, tagged. -/
def order (s : State) (op : Nat) (pay : List Nat) : State :=
  { s with cmd := { s.cmd with svc := [req op pay (msg1 ++ tagOfMsg [] msg1)], modeWait := none }
           sec := { s.sec with keys := ⟨1, []⟩ :: s.sec.keys.drop 1, limit := [none, none] }
           evt := { s.evt with ballsHeld := false }
           mram := { s.mram with keyCnt := List.replicate 8 0 } }

/-- Does WORLD_MAP give the xSPI or slot 0 the secure world? -/
def world0 (s : State) : Bool := bitN (s.getF (SEC_WMAP_MAP 7)) 0 || bitN (s.getF (SEC_WMAP_MAP 7)) 8

/-- The request once verified. -/
def vreq (s : State) (op : Nat) (pay : List Nat) : CmdReq :=
  { req op pay (msg1 ++ tagOfMsg [] msg1) with auth := some (0, 1), secure := world0 s }

/-- The state its effect begins from. -/
def ran (s : State) (op : Nat) (pay : List Nat) : State :=
  let a := order s op pay
  { a with cmd := { a.cmd with svc := [] }, mram := { a.mram with keyCnt := lset a.mram.keyCnt 0 1 } }

/-- Rows 7 to 9 of R450 pass it. -/
def passes (s : State) (op : Nat) (pay : List Nat) : Bool :=
  match opRow op with
  | some row => decide (row.lo ≤ pay.length) && decide (pay.length ≤ row.hi) && (ran s op pay).modeAllows (vreq s op pay) &&
      (!(row.crit == .secure || row.crit == .otp) || world0 s)
  | none => false

theorem at_now (s : State) : s.at s.now = s := by cases s; simp [State.at]

/-- A tagged request is verified. -/
theorem auth_runs (c : State) (op : Nat) (pay : List Nat) (need : Bool) (hl : c.limited 0 = false) (hk : c.keySlot 0 = ⟨1, []⟩)
    (hc : lget 0 c.mram.keyCnt 0 = 0) (hw : (!need || world0 c) = true) :
    c.authenticate (req op pay (msg1 ++ tagOfMsg [] msg1)) need =
      (.run { req op pay (msg1 ++ tagOfMsg [] msg1) with auth := some (0, 1), secure := world0 c },
        { c with mram := { c.mram with keyCnt := lset c.mram.keyCnt 0 1 } }) := by
  have hn : (msg1 ++ tagOfMsg [] msg1).length - 16 = msg1.length := by rw [List.length_append, tag1_length]; rfl
  have hf : byteAt (msg1 ++ tagOfMsg [] msg1) 2 = 1 := rfl
  have hx : leAt (msg1 ++ tagOfMsg [] msg1) 16 8 = 1 := rfl
  have hb : (need && !world0 c) = false := by revert hw; cases need <;> cases world0 c <;> decide
  have h0 : (1 / 2 % 8 : Nat) = 0 := rfl
  have h1 : bitN 1 0 = true := rfl
  simp only [world0] at hb
  simp only [State.authenticate, req, hf, hx, hn, h0, h1, hl, hk, hc, hb, List.drop_left, List.take_left, bne_self_eq_false, world0]
  rfl

/-- A request that passes rows 7 to 9 is one the Service core executes next. -/
theorem order_admitted (s : State) (op : Nat) (pay : List Nat) (h : passes s op pay = true) :
    Admitted ((order s op pay).at (order s op pay).now) op (vreq s op pay) (ran s op pay) := by
  rw [at_now]
  cases hr : opRow op with
  | none => simp [passes, hr] at h
  | some row =>
    simp only [passes, hr, Bool.and_eq_true, decide_eq_true_eq, Bool.or_eq_true, Bool.not_eq_true'] at h
    obtain ⟨⟨⟨h1, h2⟩, h3⟩, h4⟩ := h
    refine ⟨req op pay (msg1 ++ tagOfMsg [] msg1), [], row, rfl, rfl, hr, rfl, rfl, h1, h2, h3, Or.inr ⟨Or.inr rfl, ?_⟩⟩
    refine auth_runs { order s op pay with cmd := { (order s op pay).cmd with svc := [] } } op pay _ rfl rfl rfl ?_
    rcases h4 with h4 | h4
    · have : row.crit = .no ∨ row.crit = .yes := by revert h4; cases row.crit <;> decide
      rcases this with e | e <;> rw [e] <;> rfl
    · exact (congrArg (_ || ·) h4).trans (Bool.or_true _)

/-- A request of an opcode that a state's condition is about runs in some state. -/
def Meets (op : Nat) (cond : CmdReq → State → Prop) : Prop :=
  ∃ (t : Nat) (s : State) (q : CmdReq) (b : State), Admitted (s.at t) op q b ∧ cond q (inWorld q.secure b)

theorem meets {op : Nat} {cond : CmdReq → State → Prop} (s : State) (pay : List Nat) (h : passes s op pay = true)
    (hc : cond (vreq s op pay) (inWorld (world0 s) (ran s op pay))) : Meets op cond :=
  ⟨_, _, _, _, order_admitted s op pay h, hc⟩

/-- A state whose WORLD_MAP gives the xSPI the secure world, key slot 0 the right to retire others and to unlock debug. -/
def sec (s : State) : State := s.setF (SEC_WMAP_MAP 7) 0x10101

/-- Nothing but BKR block 0 in the control program. -/
def bkr : State := lgc 0x3F [.none, .none, .none, .none, .none, .none, .none, .none, .none, .none] resetBlk none

/-- An engine held in BOOT to be given its first key: a KEY_INIT for slot 7, slots in a state. -/
def keyInit (st : Nat) : State :=
  { live .boot with
    sys := { (live .boot).sys with held := true }
    sec := { (live .boot).sec with keys := List.replicate 8 ⟨st, []⟩ }
    cmd := { (live .boot).cmd with svc := [req 0x0701 (7 :: List.replicate 35 0) []] } }

theorem meets_plain (st : Nat) (cond : CmdReq → State → Prop)
    (h : cond (req 0x0701 (7 :: List.replicate 35 0) []) (inWorld false { keyInit st with cmd := { (keyInit st).cmd with svc := [] } })) :
    Meets 0x0701 cond :=
  ⟨0, keyInit st, _, _, ⟨_, [], ⟨.no, 36, 36⟩, rfl, rfl, rfl, rfl, rfl, by decide, by decide, rfl, Or.inl ⟨rfl, rfl, rfl, rfl⟩⟩, h⟩

/-- A header that passes row 2 of R414. -/
def hdr0 : ImgHdr := ⟨true, true, 3, 12, 8192, 0xB0, 0x302, 0, 0, 0, 0, 0⟩

/-- An engine of a pair, link 0 READY. -/
def pair (f : OzSt → OzSt) : State :=
  let s := ((live .run).setFlag OZX_CFG_PAIR true).setF (OZX_LSTAT_STATE 0) 3
  { s with oz := f s.oz }

/-- Port C enabled and a reassembly on it. -/
def portC (r : Option Reasm) : State :=
  { (live .run).setFlag (NET_PCFG_EN 2) true with cmd := { (live .run).cmd with reasm := r } }

/-- A frame's first 16 bytes: an opcode, a length. -/
def head0 (op len res : Nat) : List Nat := leBytes 2 op ++ [0, 0] ++ leBytes 4 len ++ leBytes 4 0 ++ leBytes 4 res

/-- Register windows all secure. -/
def secWin : State := (live .run).setF (SEC_WMAP_MAP 1) 0xFFFFFFFF

/-- No map in force yet. -/
def noMap : State := { live .run with sys := { (live .run).sys with mapOn := false } }

/-- An event entry of source 126. -/
def evt0 : EvtEntry := ⟨0, 126, 0, false, false, false, 0, 0, 0, 0, 0, 0, 0, 0⟩

/-- The events of a state changed. -/
def evts (s : State) (f : EvtSt → EvtSt) : State := { s with evt := f s.evt }

/-- A log that holds one entry of a secure source. -/
def logged : State :=
  { live .run with mram := { (live .run).mram with log := [(0, { evt0 with src := 118 })] } }

/-- Every event source enabled. -/
def enabled : State := (upto 4).foldl (fun s i => s.setF (EVT_EN_EN i) 0xFFFFFFFF) (live .run)

/-- A repeated request is answered from the cache. -/
theorem auth_replays (c : State) (op : Nat) (pay rsp : List Nat) (need : Bool) (hl : c.limited 0 = false) (hk : c.keySlot 0 = ⟨1, []⟩)
    (hc : lget 0 c.mram.keyCnt 0 = 1) (hs : lget none c.sec.cache 0 = some (msg1 ++ tagOfMsg [] msg1, rsp))
    (hw : (!need || world0 c) = true) :
    c.authenticate (req op pay (msg1 ++ tagOfMsg [] msg1)) need = (.replay (replayRsp [] rsp), c.incSat SEC_AUTHCNT_REPLAY) := by
  have hn : (msg1 ++ tagOfMsg [] msg1).length - 16 = msg1.length := by rw [List.length_append, tag1_length]; rfl
  have hf : byteAt (msg1 ++ tagOfMsg [] msg1) 2 = 1 := rfl
  have hx : leAt (msg1 ++ tagOfMsg [] msg1) 16 8 = 1 := rfl
  have hb : (need && !world0 c) = false := by revert hw; cases need <;> cases world0 c <;> decide
  have h0 : (1 / 2 % 8 : Nat) = 0 := rfl
  have h1 : bitN 1 0 = true := rfl
  simp only [world0] at hb
  simp only [State.authenticate, req, hf, hx, hn, h0, h1, hl, hk, hc, hs, hb, List.drop_left, List.take_left, bne_self_eq_false]
  simp

/-- Slot 0's last counter is that of the request, which is in the cache. -/
def replayed : State :=
  { sec (order (live .run) 0x0601 []) with
    mram := { (live .run).mram with keyCnt := List.replicate 8 1 }
    sec := { (order (live .run) 0x0601 []).sec with cache := [some (msg1 ++ tagOfMsg [] msg1, [])] } }

/-- The start has come to a step; slot 0's key is in OTP and both headers are good. -/
def starting (n : Nat) : State :=
  { live .boot with
    sys := { (live .boot).sys with step := n, hdrs := [hdr0, hdr0] }
    sec := { (live .boot).sec with otp := [⟨1, 0⟩, ⟨1, 0⟩] } }

/-- A directory of 12 sections of 64 bytes. -/
def dir0 : List DirEntry := (upto 12).map (fun i => ⟨i + 1, 4096 + 64 * i, 64⟩)

theorem mode_step (t : Nat) (s : State) : step { s with pending := [.modeChangeEffect t] } =
    .next (modeChangeEffectEff ({ s with pending := [] }.at t)) :=
  exec_modeChangeEffect t { s with pending := [] }

/-- A mode change accepted. -/
def chg (m m' : Mode) : State := { live m with sys := { (live m).sys with modeReq := some (m', 0) }, flt := { (live m).flt with m := 1 } }

/-- At step 4 with the memory trained. -/
def trained4 : State := { starting 4 with sys := { (starting 4).sys with trained := true } }

/-! ### An image that passes -/

/-- A stage's taps: one at the centre. -/
def fir1 : CoefBank := ⟨List.replicate 100 0 ++ [8388608], [], true⟩
/-- A resampler prototype. -/
def fir2 : CoefBank := ⟨List.replicate 512 4194304, [], true⟩
/-- A Geyser set. -/
def gey1 : GeySet := ⟨[1, 0, 0, 0, 0], [0, 0, 0, 0], 0⟩
/-- An image of little but filter banks. -/
def img0 : Image :=
  { dir := [], settings := [], tripmat := [], order := [[], []], window := [0, 0], segment := [0, 0], curves := []
    banks := (upto 8).flatMap (fun _ => [fir1, ⟨[], [], false⟩, fir1, ⟨[], [], false⟩, fir2, ⟨[], [], false⟩])
    gey := List.replicate 8 [gey1], prog := ⟨[], 0, [], 1000, false, 0, 2000, 0, []⟩, ana := none, gcbs := [], gsubs := [], svsubs := [], svpubs := []
    slots := List.replicate 64 8, ballMap := 0, worldLen := 32, worldMap := [0xF0, 0, 0x80000000, 0, 0, 0, 0, 0], restart := 0x0103C000
    auxAuto := false, asks := [], crossings := [], digest := 0 }
/-- An engine at step 6 of its start with that image. -/
def s6 : State := { State.reset with sys := { resetSys with por := false, step := 6, cand := some img0 } }
theorem lget_replicate (n k : Nat) (a : Int) : lget 0 (List.replicate n a) k = if k < n then a else 0 := by
  induction n generalizing k with
  | zero => rfl
  | succ n ih => cases k with
    | zero => rfl
    | succ k => simp only [List.replicate_succ, lget, ih, Nat.succ_lt_succ_iff]

/-- A prototype's value, worked out. -/
def hr2 (k : Nat) : Int := if k = 4095 then 0 else if k < 2048 then (if k < 512 then 4194304 else 0) else if 4094 - k < 512 then 4194304 else 0

theorem fir2_ok : setOk 2 fir2 = true := by
  have h : hr fir2 = hr2 := by
    funext k
    simp only [hr, coef, fir2, hr2, lget_replicate]
  simp only [setOk, h]
  decide +kernel


/-- Row 6's check of one bank. -/
def bankGood (c : State) (img : Image) (g st b : Nat) : Bool :=
  let bank := lget ⟨[], [], false⟩ img.banks (g * 6 + st * 2 + b)
  let z := lget ⟨[], [], 0⟩ (lget [] img.gey g) b
  (!bank.full || setOk st bank) && (st != 0 || !geyHeld z || geyOk z) && (c.selBank g st != b || (bank.full && (st != 0 || geyHeld z)))

theorem coeff_none (c : State) (img : Image) (h : ∀ g, g ∈ upto 8 → ∀ st, st ∈ upto 3 → ∀ b, b ∈ upto 2 → bankGood c img g st b = true) :
    c.coeffCheck img = none := by
  simp only [State.coeffCheck, List.findSome?_eq_none_iff]
  intro g hg st hst b hb
  exact if_pos (h g hg st hst b hb)

theorem bank_two (c : State) (img : Image) (F : CoefBank) (hF : setOk 2 F = true) (hf : F.full = true)
    (hb : ∀ g, g ∈ upto 8 → lget ⟨[], [], false⟩ img.banks (g * 6 + 2 * 2 + 0) = F)
    (he : ∀ g, g ∈ upto 8 → lget ⟨[], [], false⟩ img.banks (g * 6 + 2 * 2 + 1) = ⟨[], [], false⟩)
    (hs : ∀ g, g ∈ upto 8 → c.selBank g 2 = 0)
    (h01 : ∀ g, g ∈ upto 8 → ∀ st, st ∈ upto 2 → ∀ b, b ∈ upto 2 → bankGood c img g st b = true) :
    c.coeffCheck img = none := by
  refine coeff_none c img fun g hg st hst b hb2 => ?_
  have : st ∈ upto 2 ∨ st = 2 := by revert hst; revert st; decide
  rcases this with h2 | rfl
  · exact h01 g hg st h2 b hb2
  · have : b = 0 ∨ b = 1 := by revert hb2; revert b; decide
    rcases this with rfl | rfl
    · simp [bankGood, hb g hg, hF, hf]
    · simp [bankGood, he g hg, hs g hg]

theorem matrix_none (c : State) (h1 : ∀ k, k ∈ upto 512 → c.flag (TRP_ESRC_EN k) = false)
    (h2 : ∀ n, n ∈ upto 32 → ∀ w, w ∈ upto 24 → c.rd (TRP_AMAP n w) = 0 ∧ c.rd (TRP_FMAP n w) = 0) : c.matrixRefs = none := by
  have hm : ∀ n, n ∈ upto 32 → ∀ k, k ∈ upto 768 → ∀ f, c.mapBit f n k = false := by
    intro n hn k hk f
    have hw : k / 32 ∈ upto 24 := by revert hk; revert k; decide +kernel
    have := h2 n hn (k / 32) hw
    cases f <;> simp [State.mapBit, this, bitN]
  simp only [State.matrixRefs, Option.or_eq_none_iff, List.findSome?_eq_none_iff]
  refine ⟨fun k hk => ?_, fun n hn k hk => ?_⟩
  · simp [h1 k hk, need]
  · simp [hm n hn k hk, need]

theorem row6_none (c : State) (img : Image) (hc : c.coeffCheck img = none)
    (h : firstFail [c.row6Settings img,
      need (img.order.all (fun l => l.all (fun i => decide (i < 514))) && img.crossings.all (fun x => within 1 11 x)) (fail7 .imageInvalid 2 0x13 2),
      img.curves.findSome? (fun e => need (curveOk e.2) (fail7 .imageInvalid 3 0x12 e.1)),
      c.tripmatCheck img, c.row6Progs img, c.framesCheck img, need (img.slots.all (fun k => decide (k ≤ 8))) (fail7 .imageInvalid 9 0x13 9), need (img.ballMap < 64) (fail7 .imageInvalid 10 0x13 10),
      need (worldMapOk img.worldLen img.worldMap) (fail7 .imageInvalid 11 0x13 11),
      need (restartOk img.restart) (fail7 .imageInvalid 12 0x13 12)] = none) : c.row6 img = none := by
  simp only [firstFail, List.findSome?_eq_none_iff, List.forall_mem_cons, id] at h
  simp only [State.row6, firstFail, List.findSome?_eq_none_iff, List.forall_mem_cons, id]
  exact ⟨h.1, h.2.1, h.2.2.1, hc, h.2.2.2⟩

theorem row8_none (c : State) (img : Image) (hm : c.matrixRefs = none)
    (h : firstFail [c.configCheck 0, c.refConflicts img.ballMap,
      (upto 12).findSome? (fun b => if c.flag (PRT_BAY1_EN b) && c.flag (PRT_BAY1_CB_EN b) then
        c.binBound img.ballMap 1 (c.getF (PRT_BAY1_CBBI b)) else none),
      c.zoneRefs, instNums.findSome? (c.instRefs img), c.bioConflicts img.ballMap, (upto 8).findSome? (c.classRefs img.ballMap), c.timeRefs,
      c.ozRefs, c.allotment img, c.zoneAllotment img, c.inrushOrder img, c.progConflicts img] = none) : c.row8 img 0 = none := by
  simp only [firstFail, List.findSome?_eq_none_iff, List.forall_mem_cons, id] at h
  simp only [State.row8, firstFail, List.findSome?_eq_none_iff, List.forall_mem_cons, id]
  exact ⟨h.1, h.2.1, h.2.2.1, h.2.2.2.1, h.2.2.2.2.1, h.2.2.2.2.2.1, h.2.2.2.2.2.2.1, h.2.2.2.2.2.2.2.1, h.2.2.2.2.2.2.2.2.1,
    h.2.2.2.2.2.2.2.2.2.1, h.2.2.2.2.2.2.2.2.2.2.1,
    h.2.2.2.2.2.2.2.2.2.2.2.1, hm, h.2.2.2.2.2.2.2.2.2.2.2.2⟩

theorem validate_of (s : State) (img : Image) (h6 : (s.withImage img).row6 img = none) (h7 : (s.withImage img).row7 img = none)
    (h8 : (s.withImage img).row8 img 0 = none) (h9 : (s.withImage img).row9 img = none) : s.validate img 0 = none := by
  simp only [State.validate, h6, h7, h8, h9, Option.none_or]

theorem coeff_ok : (s6.withImage img0).coeffCheck img0 = none :=
  bank_two _ _ fir2 fir2_ok (by decide +kernel) (by decide +kernel) (by decide +kernel) (by decide +kernel) (by decide +kernel)

theorem matrix_ok : (s6.withImage img0).matrixRefs = none :=
  matrix_none _ (by decide +kernel) (by decide +kernel)

/-- The image passes the checks of R414. -/
theorem validate_none : s6.validate img0 0 = none :=
  validate_of _ _ (row6_none _ _ coeff_ok (by decide +kernel)) (by decide +kernel) (row8_none _ _ matrix_ok (by decide +kernel))
    (by decide +kernel)

/-- The step that ends the image's validation. -/
theorem step_s6 : step { s6 with pending := [.imageValidation 0] } = .next (imageValidationEff (s6.at 0)) := exec_imageValidation 0 s6

/-- The events raised at the islands' start leave the map. -/
theorem queued_mapOn (w : State) (a b c : Nat) (h : w.sys.mapOn = true) : (w.queuePre.raise a b c).sys.mapOn = true := by
  rw [(State.raise_frame _ _ _ _).2.2.2.2.2.2.2.1, (State.queuePre_frame _).2.2.2.2.2.2.2.1]; exact h

/-- The islands' start puts the map in force. -/
theorem startIslands_mapOn (s : State) (img : Image) (ha : img.auxAuto = false) : (s.startIslands img).sys.mapOn = true := by
  unfold State.startIslands
  refine queued_mapOn _ _ _ _ ?_
  rw [if_neg (by rw [ha]; exact Bool.false_ne_true)]
  exact rfl

/-- A validation that finds nothing puts the map in force. -/
theorem validation_mapOn (s : State) (img : Image) (hm : (!(s.mode == .boot) || s.sys.step != 6) = false) (hc : s.sys.cand = some img)
    (hv : s.validate img (s.hdrOf s.sys.slot).config = none) (ha : img.auxAuto = false) : (imageValidationEff s).sys.mapOn = true := by
  simp only [imageValidationEff, hm, hc, hv, Bool.false_eq_true, if_false]
  exact startIslands_mapOn _ _ ha

/-- That step puts the map in force. -/
theorem mapOn_s6 : (imageValidationEff (s6.at 0)).sys.mapOn = true := by
  have h : s6.at 0 = s6 := rfl
  have hd : (s6.hdrOf s6.sys.slot).config = 0 := rfl
  rw [h]
  exact validation_mapOn s6 img0 rfl rfl (by rw [hd]; exact validate_none) rfl

/-! ### Values the spec works out -/

/-- The worked example of section 02: the battery's entry. -/
theorem test_aux_sum : auxValue false false false 4 4 (List.replicate 16 57672) = 0xE148 := by decide

/-- The same example: the signed, left-aligned entry. -/
theorem test_aux_left : auxValue true true true 0 0 [-8192] = 0xE0000000 := by decide

/-- The same example: the queued word of entry 0. -/
theorem test_aux_word : auxWords ⟨0, false, 0x20, 0x123, 0xE148⟩ = [0x0000E148, 0x00200123] := by decide

/-- Vellmoor's channels, a class's streams, base and segment size (section 07's worked example). -/
def vellmoor (c streams base size : Nat) : State :=
  ((((((live .run).setF (REC_CCH_CH c 0) 0xFFFFFFCF).setF (REC_CCH_CH c 1) 0x000FFFFF).setF (REC_CCFG_STREAMS c) streams).setF
    (REC_CCFG_BASE c) base).setF (REC_CSEG_SEGSIZE c) size)

theorem test_rec_cap_class_0 : (vellmoor 0 0x13 1 1920).recCap 0 = 20264 := by decide +kernel

theorem test_rec_cap_class_1 : (vellmoor 1 0xC 2 1088).recCap 1 = 285145 := by decide +kernel

/-- Section 04's worked example: M = 10 lies at u = log2 10 × 42.5 = 141.18194, that is i = 141, f = 0.182. -/
theorem test_curve_position : curveU 10 1 = 9252500 := by decide +kernel

/-- Section 10's worked example: 40 ns, 100 ns and just over 1 µs of error. -/
theorem test_time_quality : tqcOf (40 * 65536) = 3 ∧ tqcOf (100 * 65536) = 4 ∧ tqcOf (1001 * 65536) = 5 := by decide

/-- A known digest (FIPS 180-4): that of "abc" begins BA 78 16 BF. -/
theorem test_sha256 : (sha256 [97, 98, 99]).take 4 = [0xBA, 0x78, 0x16, 0xBF] := by decide +kernel

/-- A known CRC (IEEE 802.3): that of "123456789". -/
theorem test_crc32 : crc32 [49, 50, 51, 52, 53, 54, 55, 56, 57] = 0xCBF43926 := by decide +kernel

/-- No word spells a command, so none is put in front. -/
theorem test_no_word (s : State) (n w : Nat) : decodeTableWord n w = none ∧ s.withFetchWord n w = s := ⟨rfl, rfl⟩

/-- Section 11's worked example: CB 2's first three retransmissions at 4, 12 and 28 ms. -/
def goose2 : State :=
  let s := (((live .run).setFlag (GSV_PCB_EN 2) true).setF (GSV_PCB_MINT 2) 4).setF (GSV_PCB_MAXT 2) 1000
  (s.setFlag OZX_PSTAT_HOLDS true).gooseNew 2 1

theorem test_goose_intervals :
    (goose2.gcbInt 2).next = some (4 * msU) ∧
    ((gooseRetransmitEff 2 { goose2 with now := 4 * msU }).gcbInt 2).next = some (12 * msU) := by decide +kernel

/-- Commands that name what the block does not have, one per check of `Instr.wellFormed`. -/
theorem test_ill_formed_0 :
    ([
    (.supplyWarnExcursion 0 5 0 : Instr), .supplyExcursionEnd 0 9 0, .monitorRefresh 0 [] 0 32, .trngTestFail 0 2,
    .fusedSample 0 [] false false [0], .fusedSample 0 [] false false [12],
    .wordRelease 0 [] [0], .wordRelease 0 [] [12], .arbitrationOpen 0 8, .arbitrationDecision 0 8, .rotationStepStart 0 8, .shadowEnd 0 8, .sliceCalibrationDone 0 8 cal0,
    .cnvRefreqWrite 0 .xspi 8 0, .refSettledRise 0 8, .refWindowFault 0 8, .refSettlingFault 0 8, .stage1Output 0 64 ⟨none, []⟩,
    .stage2Output 0 64 ⟨none, []⟩, .recomputeDone 0 8 0 0 0 0, .recomputeDone 0 0 4 0 0 0, .recomputeDone 0 0 0 128 0 0,
    .trackedSample 0 128 ⟨none, []⟩, .fixedRateSample 0 128 ⟨none, []⟩, .fltStop 0 .xspi 8, .fltStart 0 .xspi 8, .chainStopTaken 0 8,
    .syncReset 0 8, .fltBankWrite 0 .xspi 8 0, .fltTrimWrite 0 .xspi 128 0, .commitMissingLimit 0 2, .minonExpiry 0 32,
    .readbackMismatch 0 32 false, .slowListStart 0 2 0 [], .slowListAbandon 0 2, .definiteTimeExpiry 0 512 0, .definiteTimeExpiry 0 0 3,
    .inverseTimeOperate 0 512 0, .inverseTimeOperate 0 0 3, .resetTimeExpiry 0 512 0, .resetTimeExpiry 0 0 3, .holdLimitExpiry 0 512 0,
    .holdLimitExpiry 0 0 3, .vectorShiftPulseEnd 0 512]).all (fun i => !i.wellFormed) = true := by decide

/-- Commands that name what the block does not have, one per check of `Instr.wellFormed`. -/
theorem test_ill_formed_1 :
    ([
    (.bfRetripTime 0 512 : Instr), .bfBacktripTime 0 512, .coldLoadEntry 0 12, .coldLoadEnd 0 12, .zoneNconReached 0 2 0,
    .zoneNconReached 0 0 3, .zoneBlankEnd 0 2, .zoneAlarmTime 0 2, .surgeInception 0 12 0, .surgeInception 0 0 3, .iseWindowClose 0 12,
    .iseWinExpiry 0 12, .groupChangeEffect 0 12, .settingWriteEffect 0 512, .binaryInputEdge 0 64 false, .debouncedChange 0 64,
    .trigInEdge 0 2 false, .commitBoundary 0 3 [] [], .sinkReport 0 3 0, .sinkReport 0 0 3, .resyncComplete 0 3 0,
    .coreMemoryRead 0 3 0 0, .scrubSlot 0 3 0, .podSel 0 4, .dbgSetBp 0 4 0, .dbgClrBp 0 4, .breakpointHit 0 3 0, .breakpointHit 0 0 4,
    .periodStart 0 2, .freeRunScanStart 0 2, .logicOutputWrite 0 2, .holdEntry 0 2, .initWaitExpiry 0 2, .blkEnd 0 2, .blkAnd 0 2,
    .blkOr 0 2, .blkXor 0 2, .blkNot 0 2, .blkSr 0 2, .blkRs 0 2]).all (fun i => !i.wellFormed) = true := by decide

/-- Commands that name what the block does not have, one per check of `Instr.wellFormed`. -/
theorem test_ill_formed_2 :
    ([
    (.blkMaj3 0 2 : Instr), .blkKofn 0 2, .blkRTrig 0 2, .blkFTrig 0 2, .blkTon 0 2, .blkTof 0 2, .blkTp 0 2, .blkCtu 0 2, .blkCtd 0 2,
    .blkCtud 0 2, .blkEq 0 2, .blkNe 0 2, .blkGt 0 2, .blkGe 0 2, .blkLt 0 2, .blkLe 0 2, .blkHyst 0 2, .blkAdd 0 2, .blkSub 0 2,
    .blkMul 0 2, .blkDiv 0 2, .blkMod 0 2, .blkAbs 0 2, .blkNeg 0 2, .blkSqrt 0 2, .blkMin 0 2, .blkMax 0 2, .blkSel 0 2, .blkMux 0 2,
    .blkLimit 0 2, .blkMove 0 2, .blkPack 0 2, .blkUnpack 0 2, .blkBand 0 2, .blkBor 0 2, .blkBxor 0 2, .blkShl 0 2, .blkShr 0 2,
    .blkI2r 0 2, .blkR2i 0 2]).all (fun i => !i.wellFormed) = true := by decide

/-- Commands that name what the block does not have, one per check of `Instr.wellFormed`. -/
theorem test_ill_formed_3 :
    ([
    (.blkB2i 0 2 : Instr), .blkI2b 0 2, .blkT2i 0 2, .blkI2t 0 2, .blkT2r 0 2, .blkR2t 0 2, .blkNow 0 2, .blkLag 0 2, .blkDelta 0 2,
    .blkQgood 0 2, .blkSubstate 0 2, .blkPodstate 0 2, .blkDevstate 0 2, .blkElem 0 2, .blkZone 0 2, .blkSgsel 0 2, .blkBkr 0 2,
    .bkrPulseEnd 0 32, .bkrSupervisionTimeout 0 32, .bkrSelectExpiry 0 32, .blkAr 0 2, .blkIlk 0 2, .blkRectrg 0 2, .blkGsetB 0 2,
    .blkGsetI 0 2, .blkGsetR 0 2, .blkAlarm 0 2, .blkDps 0 2, .blkLockout 0 2, .rowWrite 0 8 0 false, .rowWrite 0 0 5 false,
    .recordIndexComplete 0 8, .trigOutPulseEnd 0 2, .maskViolation 0 8 0, .maskViolation 0 0 128, .recCctlArm 0 .xspi 8,
    .recCctlDisarm 0 .xspi 8, .recCctlApply 0 .xspi 8, .recCctlTrig 0 .xspi 8, .recordWindowRead 0 .xspi 0x600000]).all (fun i => !i.wellFormed) = true := by decide

/-- Commands that name what the block does not have, one per check of `Instr.wellFormed`. -/
theorem test_ill_formed_4 :
    ([
    (.recordWindowWrite 0 .xspi 0x600000 : Instr), .syncReceive 0 3 ⟨0, 1, 0, 0, 0, 0, false, 0, true⟩,
    .followUpReceive 0 3 ⟨0, 1, 0, 0, 0, 0, false, 0, true⟩, .announceReceive 0 3 ann1, .pdelayReqReceive 0 3 0 0,
    .pdelayReqReceive 0 0 65536 0, .pdelayRespReceive 0 3 0 0, .pdelayRespReceive 0 0 65536 0, .pdelayMeasure 0 3, .syncLoss 0 4,
    .announceReceiptTimeout 0 4, .stepApply 0 4, .gmTransmit 0 4, .frameReceive 0 3 (eth 64 0) [] [],
    .portLinkChange 0 3 false false false, .gooseStateChange 0 32, .gooseRetransmit 0 32, .gooseReceive 0 3 gframe,
    .gooseLiveTimeout 0 128, .svReceive 0 3 ⟨0, 0, 0, 0, false, []⟩, .svStreamTimeout 0 16, .ozLinkDown 0 2 false, .ozClockDetect 0 2,
    .ozLinkUp 0 2, .delayExchange 0 2, .dlyReqReceive 0 2 0, .dlyRespReceive 0 2 0, .ozTrigReceive 0 2 0 0 0 0 0 0 0 0,
    .ozTrigReceive 0 0 256 0 0 0 0 0 0 0, .ozTrigReceive 0 0 0 16 0 0 0 0 0 0, .ozTrigReceive 0 0 0 0 8 0 0 0 0 0,
    .ozTrigReceive 0 0 0 0 0 8 0 0 0 0, .ozTrigReceive 0 0 0 0 0 0 4096 0 0 0, .ozTrigReceive 0 0 0 0 0 0 0 1000000000 0 0,
    .ozTrigReceive 0 0 0 0 0 0 0 0 256 0, .ozTrigReceive 0 0 0 0 0 0 0 0 0 16, .heartbeatReceive 0 256 0 false false,
    .heartbeatReceive 0 0 8 false false, .stateReceive 0 0 1000000000, .timeReceive 0 2 0 0 0]).all (fun i => !i.wellFormed) = true := by decide

/-- Commands that name what the block does not have, one per check of `Instr.wellFormed`. -/
theorem test_ill_formed_5 :
    ([
    (.timeReceive 0 0 1000000000 0 0 : Instr), .timeReceive 0 0 0 65536 0, .timeReceive 0 0 0 0 256, .pubseqReceive 0 256 0 0,
    .pubseqReceive 0 0 32 0, .pubseqReceive 0 0 0 4294967296, .imageReceive 0 256 0, .ackReceive 0 2 0, .ackReceive 0 0 256,
    .nakReceive 0 2 0, .nakReceive 0 0 256, .ackTimeout 0 2 0, .ackTimeout 0 0 256, .rateLimitEnd 0 2, .evtQackWrite 0 .xspi 2 0,
    .evtQdataCapture 0 .xspi 2, .reservedAccess 0 .xspi 4294967296 false, .registerWrite 0 .xspi 0 4294967296,
    .xspiRead 0 4294967296 0, .tqcDegrade 0 4, .resyncWindowAgeing 0 3 0, .resyncWindowAgeing 0 0 3, .xspiUndefinedCode 0 256,
    .ozauxCrcError 0 2 0 0, .ozauxCrcError 0 0 256 0, .ozauxCrcError 0 0 0 256, .imageReceive 0 0 (2 ^ 64), .cmdFragment 0 0 0 0 [256],
    .cmdKeyRotate 0 (2 ^ 128), .cmdFlashRead 0 [256], .xspiWrite 0 0 [4294967296] false]).all (fun i => !i.wellFormed) = true := by decide

/-- What `Obligations.StrobeAndArbitration` assumes is met. -/
theorem witness_strobe_and_arbitration :
    (∃ (t : Nat) (raw : List (List Int)) (refA refB : Bool) (s : State), let a := s.at t; a.sampling = true) ∧
    (∃ (t : Nat) (raw : List (List Int)) (refA refB : Bool) (third : List Nat) (s : State), (s.at t).sampling = true) ∧
    (∃ (c : Nat) (s : State), 1 ≤ c ∧ c < 12) ∧
    (∃ (t g : Nat) (s : State), let a := s.at t; g < 8 ∧ a.sampling = true) ∧
    (∃ (g c : Nat) (s : State), s.getF (CNV_CH_DIS_RUN c) = 4 ∧ s.flag (CNV_CH_ARB c) = false ∧ s.flag (CNV_CH_ARB_WAIT c) = false ∧ s.flag (CNV_CH_SINGLE_L c) = false) ∧
    (∃ (t g : Nat) (w : ArbWin) (s : State), let a := s.at t; g < 8 ∧ (a.grp g).arb = some w ∧ w.n0 + 64 ≤ a.ana.strobe) ∧
    (∃ (g : Nat) (w : ArbWin) (s : State), w.unsettled = false ∧ 16 ≤ w.n ∧ w.n ≤ 2 * w.dH ∧ 8 * w.dL ≤ w.n) ∧
    (∃ (g : Nat) (w : ArbWin) (s : State), w.unsettled = false ∧ 16 ≤ w.n ∧ w.n ≤ 2 * w.dL ∧ 8 * w.dH ≤ w.n) ∧
    (∃ (g : Nat) (w : ArbWin) (s : State), (w.unsettled = true ∨ w.n < 16 ∨ (¬ (w.n ≤ 2 * w.dH ∧ 8 * w.dL ≤ w.n) ∧ ¬ (w.n ≤ 2 * w.dL ∧ 8 * w.dH ≤ w.n)))) :=
  ⟨⟨0, [], true, true, live .run, by decide⟩,
   ⟨0, [], true, true, [1, 11], live .run, by decide⟩,
   ⟨11, live .run, by decide⟩,
   ⟨0, 7, live .run, by decide⟩,
   ⟨7, 47, (live .run).setF (CNV_CH_DIS_RUN 47) 4, by decide⟩,
   ⟨0, 7, ⟨47, 0, 64, 0, 0, false⟩, { live .run with ana := { strobe := 64, chans := [], segs := [], groups := List.replicate 8 { resetGroup with arb := some ⟨47, 0, 64, 0, 0, false⟩ } } }, by decide⟩,
   ⟨7, ⟨47, 0, 16, 8, 2, false⟩, live .run, by decide⟩,
   ⟨7, ⟨47, 0, 16, 2, 8, false⟩, live .run, by decide⟩,
   ⟨7, ⟨47, 0, 16, 8, 3, false⟩, live .run, by decide⟩⟩

/-- What `Obligations.RotationAndReferences` assumes is met. -/
theorem witness_rotation_and_references :
    (∃ (t g : Nat) (s : State), let a := s.at t; g < 8 ∧ a.rotReady g = true) ∧
    (∃ (t g : Nat) (s : State), let a := s.at t; let x := a.grp g; g < 8 ∧ a.flag (CNV_GSTAT_ROT_RUN g) = true ∧ a.getF (CNV_GSTAT_ROT_PHASE g) = 0 ∧ x.arb = none ∧ a.flag (CNV_GSTAT_REF_SETTLED g) = true ∧ x.s0 + 1024 * (x.ext + 1) ≤ a.ana.strobe ∧ 256 ≤ x.cmp) ∧
    (∃ (t g : Nat) (s : State), let a := s.at t; let x := a.grp g; g < 8 ∧ a.flag (CNV_GSTAT_ROT_RUN g) = true ∧ a.getF (CNV_GSTAT_ROT_PHASE g) = 0 ∧ x.arb = none ∧ a.flag (CNV_GSTAT_REF_SETTLED g) = true ∧ x.s0 + 1024 * (x.ext + 1) ≤ a.ana.strobe ∧ x.cmp < 256) ∧
    (∃ (t g k : Nat) (why : CalWhy) (cal : SliceCal) (s : State), let a := s.at t; g < 8 ∧ (a.grp g).cal = some (k, why) ∧ (a.grp g).arb = none ∧ a.flag (CNV_GSTAT_REF_SETTLED g) = true ∧ (a.grp g).calFrom + 49152 ≤ a.ana.strobe) ∧
    (∃ (t g v : Nat) (r : Requester) (s : State), let a := s.at t; g < 8 ∧ a.trAlive (reqIdx r) = true ∧ a.judge r (CNV_REFREQ g) = .allowed ∧ a.mode = .test) ∧
    (∃ (t g v : Nat) (r : Requester) (s : State), let a := s.at t; g < 8 ∧ a.trAlive (reqIdx r) = true ∧ a.judge r (CNV_REFREQ g) = .allowed ∧ a.mode ≠ .test) ∧
    (∃ (t g f : Nat) (s : State), let a := s.at t; g < 8 ∧ (a.grp g).refFall = some f ∧ a.ana.strobe ≤ f + 2048) ∧
    (∃ (t g : Nat) (s : State), let a := s.at t; g < 8 ∧ 16 ≤ (a.grp g).winRun) ∧
    (∃ (t g f : Nat) (s : State), let a := s.at t; g < 8 ∧ (a.grp g).refFall = some f ∧ f + 2048 ≤ a.ana.strobe) :=
  ⟨⟨0, 7, ((((live .run).setFlag (CNV_GCFG_ROT_EN 7) true).setF (CNV_GSTAT_SPARE_POS 7) 14).setFlag (CNV_GSTAT_REF_SETTLED 7) true).setF (CNV_GSTAT_ROT_PHASE 7) 3, by decide⟩,
   ⟨0, 7, { (((((live .run).setFlag (CNV_GCFG_ROT_EN 7) true).setF (CNV_GSTAT_SPARE_POS 7) 14).setFlag (CNV_GSTAT_REF_SETTLED 7) true).setFlag (CNV_GSTAT_ROT_RUN 7) true).setF (CNV_GSTAT_ROT_PHASE 7) 0 with ana := { strobe := 1024, chans := [], segs := [], groups := List.replicate 8 { resetGroup with cmp := 256, dif := 4 } } }, by decide⟩,
   ⟨0, 7, { (((((live .run).setFlag (CNV_GCFG_ROT_EN 7) true).setF (CNV_GSTAT_SPARE_POS 7) 14).setFlag (CNV_GSTAT_REF_SETTLED 7) true).setFlag (CNV_GSTAT_ROT_RUN 7) true).setF (CNV_GSTAT_ROT_PHASE 7) 0 with ana := { strobe := 8192, chans := [], segs := [], groups := List.replicate 8 { resetGroup with cmp := 255, ext := 7 } } }, by decide⟩,
   ⟨0, 7, 14, .freed, cal0, { (((live .run).setFlag (CNV_GCFG_ROT_EN 7) true).setF (CNV_GSTAT_SPARE_POS 7) 14).setFlag (CNV_GSTAT_REF_SETTLED 7) true with ana := { strobe := 49152, chans := [], segs := [], groups := List.replicate 8 { resetGroup with cal := some (14, .freed) } } }, by decide⟩,
   ⟨0, 7, 2, .xspi, live .test, by decide⟩,
   ⟨0, 7, 2, .xspi, live .run, by decide⟩,
   ⟨0, 7, 0, { live .run with ana := { strobe := 2048, chans := [], segs := [], groups := List.replicate 8 { resetGroup with refFall := some 0, arb := some ⟨47, 0, 64, 0, 0, false⟩ } } }, by decide⟩,
   ⟨0, 7, { live .run with ana := { strobe := 2048, chans := [], segs := [], groups := List.replicate 8 { resetGroup with winRun := 16 } } }, by decide⟩,
   ⟨0, 7, 0, { live .run with ana := { strobe := 2048, chans := [], segs := [], groups := List.replicate 8 { resetGroup with refFall := some 0 } } }, by decide⟩⟩

/-- What `Obligations.AuxiliaryConverter` assumes is met. -/
theorem witness_auxiliary_converter :
    (∃ (t : Nat) (r : Requester) (s : State), let a := s.at t; a.trAlive (reqIdx r) = true ∧ a.judge r AUX_CTL = .allowed ∧ a.flag AUX_STAT_RUN = false) ∧
    (∃ (t : Nat) (r : Requester) (s : State), let a := s.at t; a.trAlive (reqIdx r) = true ∧ a.judge r AUX_CTL = .allowed ∧ a.flag AUX_STAT_RUN = true) ∧
    (∃ (t : Nat) (r : Requester) (s : State), let a := s.at t; a.trAlive (reqIdx r) = true ∧ a.judge r AUX_CTL = .allowed) ∧
    (∃ (t : Nat) (r : Requester) (s : State), let a := s.at t; a.trAlive (reqIdx r) = true ∧ a.judge r AUX_SNAP_GO = .allowed) ∧
    (∃ (t : Nat) (r : Requester) (s : State), let a := s.at t; a.trAlive (reqIdx r) = true ∧ a.judge r AUX_QDATA_LO = .allowed) ∧
    (∃ (t : Nat) (codes : List Int) (s : State), let a := s.at t; let e := a.getF AUX_STAT_ENTRY; a.sys.refPresent = true ∧ a.flag AUX_STAT_RUN = true ∧ a.aux.busy = true ∧ codes.length = 2 ^ a.getF (AUX_ENT_AVG e)) ∧
    (∃ (t p : Nat) (s : State), let a := s.at t; a.aux.periodFrom = some p ∧ a.sys.refPresent = true ∧ a.flag AUX_STAT_RUN = true ∧ a.getF AUX_CFG_MODE = 2 ∧ p + a.getF AUX_PERIOD_PERIOD ≤ a.ana.strobe ∧ a.aux.busy = false) ∧
    (∃ (t p : Nat) (s : State), let a := s.at t; a.aux.periodFrom = some p ∧ a.sys.refPresent = true ∧ a.flag AUX_STAT_RUN = true ∧ a.getF AUX_CFG_MODE = 2 ∧ p + a.getF AUX_PERIOD_PERIOD ≤ a.ana.strobe ∧ a.aux.busy = true) ∧
    (∃ (s : State), s.aux.snapReq = 1) ∧
    (∃ (t : Nat) (es : List AuxEntry) (s : State), let a := s.at t; a.aux.held = [.block es]) ∧
    (∃ (e : AuxEntry) (s : State), s.aux.queue.length < 512) :=
  ⟨⟨0, .xspi, live .run, by decide⟩,
   ⟨0, .portC, (live .run).setFlag AUX_STAT_RUN true, by decide⟩,
   ⟨0, .xspi, { (live .run).setFlag AUX_STAT_RUN true with aux := ⟨[], false, false, true, 0, 0, [], none⟩ }, by decide⟩,
   ⟨0, .xspi, (live .run).setF (AUX_SNAP_HI_MASK_HI) 0x80000000, by decide⟩,
   ⟨0, .xspi, { live .run with aux := ⟨[⟨0, false, 0, 0, 7⟩], false, false, false, 0, 0, [], none⟩ }, by decide⟩,
   ⟨0, [5], { (live .run).setFlag AUX_STAT_RUN true with aux := ⟨[], false, false, true, 0, 0, [], none⟩ }, by decide⟩,
   ⟨0, 0, { ((live .run).setFlag AUX_STAT_RUN true).setF AUX_CFG_MODE 2 with ana := { (live .run).ana with strobe := 4294967295 }, aux := ⟨[], false, false, false, 0, 0, [], some 0⟩ }, by decide⟩,
   ⟨0, 0, { ((live .run).setFlag AUX_STAT_RUN true).setF AUX_CFG_MODE 2 with ana := { (live .run).ana with strobe := 4294967295 }, aux := ⟨[], false, false, true, 0, 0, [], some 0⟩ }, by decide⟩,
   ⟨{ live .run with aux := ⟨[], false, false, false, 0, 1, [], none⟩ }, by decide⟩,
   ⟨0, [], { live .run with aux := ⟨[], false, false, false, 0, 0, [.block []], none⟩ }, by decide⟩,
   ⟨⟨0, false, 0, 0, 7⟩, live .run, by decide⟩⟩

/-- What `Obligations.FilterOutputs` assumes is met. -/
theorem witness_filter_outputs :
    (∃ (t c m : Nat) (s : State), let a := s.at t; let x := a.fch c; let n := a.ana.strobe - 1; c < 64 ∧ a.chainOn c = true ∧ a.ana.strobe ≠ 0 ∧ a.recWaits 0 c = false ∧ x.last1 = some m ∧ 16 * (m + 1) ≤ n ∧ n - 16 * (m + 1) ≤ x.x.length) ∧
    (∃ (t c m : Nat) (s : State), let a := s.at t; let x := a.fch c; c < 64 ∧ a.chainOn c = true ∧ a.recWaits 0 c = false ∧ a.recWaits 1 c = false ∧ x.last1 = some m ∧ m % 2 = 0 ∧ x.last2 ≠ some (m / 2)) ∧
    (∃ (s : State) (st c idx : Nat) (base acc : Int) (tag : Tag), s.flag (FLT_GSTAT_DP_SINGLE (fltGroupOf c)) = false) ∧
    (∃ (t c : Nat) (up : Upset) (s : State), let a := s.at t; let x := a.fch c; let ax := a.axis c ((a.tauAt x.tNext : Nat) : Int); c < 128 ∧ a.chainOn c = true ∧ x.tNext ≤ a.dueIdx c ∧ (64 ≤ c → a.getF FLT_TCFG_VLAG ≤ a.flt.m) ∧ a.recWaits 2 c = false ∧ a.releaseAt c x.tNext ≤ a.strobeTime ∧ (c < 64 → x.last2.isNone = false ∧ ax.1 / (ax.2 : Int) + 4 ≤ (x.q2 : Int) - 10) ∧ up = ⟨none, []⟩ ∧ a.flag (FLT_GSTAT_DP_SINGLE (fltGroupOf c)) = false ∧ a.flt.chans.length = 128) ∧
    (∃ (t c : Nat) (up : Upset) (s : State), let a := s.at t; let x := a.fch c; let pos := a.strobeTime - nsTau (439510 + x.trim); let lab := a.labelOf pos; let key := (lab * (a.svRate : Int) / 65536000000000).toNat; let tau := pos + ((key : Int) * 65536000000000 / (a.svRate : Int) - lab) * 1048576; let ax := a.axis c tau; c < 128 ∧ a.chainOn c = true ∧ a.flag FLT_SVCFG_SV_EN = true ∧ a.published c = true ∧ x.fixK ≠ some key ∧ a.recWaits 3 c = false ∧ (a.oldGrid tau = true → a.oldGrid pos = true) ∧ (c < 64 → x.last2.isNone = false ∧ ax.1 / (ax.2 : Int) + 4 ≤ (x.q2 : Int) - 10) ∧ up = ⟨none, []⟩ ∧ a.flag (FLT_GSTAT_DP_SINGLE (fltGroupOf c)) = false ∧ a.flt.chans.length = 128) :=
  ⟨⟨0, 63, 0, { (live .run).setF (FLT_GSTAT_STATE 7) 2 with ana := { (live .run).ana with strobe := 17 }, flt := { resetFlt with chans := List.replicate 128 { resetFltChan with last1 := some 0 } } }, by decide⟩,
   ⟨0, 63, 2, { (live .run).setF (FLT_GSTAT_STATE 7) 2 with flt := { resetFlt with chans := List.replicate 128 { resetFltChan with last1 := some 2 } } }, by decide⟩,
   ⟨live .run, 0, 127, 0, 0, 0, .valid, by decide⟩,
   ⟨0, 63, ⟨none, []⟩, { (live .run).setF (FLT_GSTAT_STATE 7) 2 with ana := { (live .run).ana with strobe := 452 }, flt := { resetFlt with tau := 0, chans := List.replicate 128 { resetFltChan with last2 := some 20, q2 := 20 } } }, by decide⟩,
   ⟨0, 127, ⟨none, []⟩, { ((((live .run).setF (FLT_GSTAT_STATE 7) 2).setFlag FLT_SVCFG_SV_EN true).setFlag (GSV_SVPCFG_EN 7) true).setF (GSV_SVPCH_CH 7 1 3) 127 with flt := { resetFlt with chans := List.replicate 128 resetFltChan } }, by decide⟩⟩

/-- What `Obligations.RecomputeAndHalves` assumes is met. -/
theorem witness_recompute_and_halves :
    (∃ (t g st c : Nat) (r1 r2 : Int) (p : RecPend) (s : State), let a := s.at t; g < 8 ∧ st < 4 ∧ c < 128 ∧ a.flt.pend.find? (fun q => q.g = g && q.stage = st && q.ch = c) = some p ∧ a.sampling = true ∧ a.recTurn p = true ∧ r1 = r2 ∧ r1 = p.a) ∧
    (∃ (t g st c : Nat) (r1 r2 : Int) (p : RecPend) (s : State), let a := s.at t; g < 8 ∧ st < 4 ∧ c < 128 ∧ a.flt.pend.find? (fun q => q.g = g && q.stage = st && q.ch = c) = some p ∧ a.sampling = true ∧ a.recTurn p = true ∧ r1 = r2 ∧ r1 ≠ p.a ∧ r1 = p.b) ∧
    (∃ (t g st c : Nat) (r1 r2 : Int) (p : RecPend) (s : State), let a := s.at t; g < 8 ∧ st < 4 ∧ c < 128 ∧ a.flt.pend.find? (fun q => q.g = g && q.stage = st && q.ch = c) = some p ∧ a.sampling = true ∧ a.recTurn p = true ∧ r1 = r2 ∧ r1 ≠ p.a ∧ r1 ≠ p.b) ∧
    (∃ (t g st c : Nat) (r1 r2 : Int) (p : RecPend) (s : State), let a := s.at t; g < 8 ∧ st < 4 ∧ c < 128 ∧ a.flt.pend.find? (fun q => q.g = g && q.stage = st && q.ch = c) = some p ∧ a.sampling = true ∧ a.recTurn p = true ∧ r1 ≠ r2) ∧
    (∃ (t : Nat) (s : State), let a := s.at t; a.gridRuns = true ∧ a.swapReady = true) ∧
    (∃ (t : Nat) (s : State), let a := s.at t; a.gridRuns = true ∧ a.boundaryDue = true ∧ a.halfDone = false) :=
  ⟨⟨0, 7, 2, 127, 5, 5, ⟨7, 2, 127, 0, 5, 6, .valid, 0, 0⟩, { live .run with flt := { resetFlt with pend := [⟨7, 2, 127, 0, 5, 6, .valid, 0, 0⟩] } }, by decide⟩,
   ⟨0, 7, 2, 127, 6, 6, ⟨7, 2, 127, 0, 5, 6, .valid, 0, 0⟩, { live .run with flt := { resetFlt with pend := [⟨7, 2, 127, 0, 5, 6, .valid, 0, 0⟩] } }, by decide⟩,
   ⟨0, 7, 2, 127, 7, 7, ⟨7, 2, 127, 0, 5, 6, .valid, 0, 0⟩, { live .run with flt := { resetFlt with pend := [⟨7, 2, 127, 0, 5, 6, .valid, 0, 0⟩] } }, by decide⟩,
   ⟨0, 7, 2, 127, 5, 6, ⟨7, 2, 127, 0, 5, 6, .valid, 0, 0⟩, { live .run with flt := { resetFlt with pend := [⟨7, 2, 127, 0, 5, 6, .valid, 0, 0⟩] } }, by decide⟩,
   ⟨0, { (live .run).setF (FLT_GSTAT_STATE 7) 1 with ana := { (live .run).ana with strobe := 473 }, flt := { resetFlt with m := 1, chans := List.replicate 128 { resetFltChan with tNext := 2 } } }, by decide⟩,
   ⟨0, { (live .run).setF (FLT_GSTAT_STATE 7) 1 with ana := { (live .run).ana with strobe := 473 }, flt := { resetFlt with m := 1 } }, by decide⟩⟩

/-- What `Obligations.ChainStopsAndStarts` assumes is met. -/
theorem witness_chain_stops_and_starts :
    (∃ (t g : Nat) (r : Requester) (s : State), let a := s.at t; g < 8 ∧ a.trAlive (reqIdx r) = true ∧ a.judge r (FLT_CTL g) = .allowed) ∧
    (∃ (t g : Nat) (r : Requester) (s : State), let a := s.at t; g < 8 ∧ a.trAlive (reqIdx r) = true ∧ a.judge r (FLT_CTL g) = .allowed ∧ a.chainState g = 0 ∧ a.gridRuns = true) ∧
    (∃ (t g : Nat) (r : Requester) (s : State), let a := s.at t; g < 8 ∧ a.trAlive (reqIdx r) = true ∧ a.judge r (FLT_CTL g) = .allowed ∧ a.chainState g ≠ 0) ∧
    (∃ (t g : Nat) (s : State), let a := s.at t; g < 8 ∧ a.gridRuns = true ∧ (a.fgrp g).stopReq = true ∧ a.ana.strobe % 32 = 0 ∧ (∀ p ∈ a.flt.pend, p.g ≠ g)) ∧
    (∃ (t g : Nat) (s : State), let a := s.at t; g < 8 ∧ a.gridRuns = true ∧ a.ana.strobe % 32 = 0 ∧ ((a.chainState g = 0 ∧ (a.fgrp g).startReq = true) ∨ (a.chainState g ≠ 0 ∧ (a.fgrp g).resetReq = true))) ∧
    (∃ (t : Nat) (r : Requester) (s : State), ∃ (g v : Nat), let a := s.at t; a.trAlive (reqIdx r) = true ∧ g < 8 ∧ a.judge r (FLT_BANK g) = .allowed ∧ a.mode = .test ∧ a.chainState g = 0) ∧
    (∃ (t : Nat) (r : Requester) (s : State), ∃ (v : Nat), let a := s.at t; let g := a.getF FLT_CADDR_GRP; a.trAlive (reqIdx r) = true ∧ a.judge r FLT_CDATA = .allowed ∧ a.mode = .test ∧ a.chainState g = 0) ∧
    (∃ (t : Nat) (r : Requester) (s : State), let a := s.at t; let g := a.getF FLT_CADDR_GRP; a.trAlive (reqIdx r) = true ∧ a.judge r FLT_CCMT = .allowed ∧ a.mode = .test ∧ a.chainState g = 0) ∧
    (∃ (t : Nat) (r : Requester) (s : State), ∃ (c v : Nat), let a := s.at t; a.trAlive (reqIdx r) = true ∧ c < 128 ∧ a.judge r (FLT_TRIM c) = .allowed ∧ a.mode = .test) ∧
    (∃ (t : Nat) (r : Requester) (s : State), ∃ (v : Nat), let a := s.at t; a.trAlive (reqIdx r) = true ∧ a.judge r FLT_PHSEL = .allowed) :=
  ⟨⟨0, 7, .xspi, (live .test).setF (FLT_GSTAT_STATE 7) 2, by decide⟩,
   ⟨0, 7, .xspi, (live .test).setF (FLT_GSTAT_VALID 7) 63, by decide⟩,
   ⟨0, 7, .xspi, (live .test).setF (FLT_GSTAT_STATE 7) 1, by decide⟩,
   ⟨0, 7, { live .test with flt := { resetFlt with groups := List.replicate 8 { resetFltGroup with stopReq := true } } }, by decide⟩,
   ⟨0, 7, { live .test with flt := { resetFlt with groups := List.replicate 8 { resetFltGroup with startReq := true } } }, by decide⟩,
   ⟨0, .xspi, (live .test).setF (FLT_GSTAT_VALID 7) 63, 7, 7, by decide⟩,
   ⟨0, .xspi, { (live .test).setF FLT_CADDR_IDX 64 with flt := { resetFlt with banks := List.replicate 48 ⟨List.replicate 65 0, [], false⟩ } }, 7, by decide⟩,
   ⟨0, .xspi, { live .test with flt := { resetFlt with banks := List.replicate 48 ⟨List.replicate 64 0 ++ [8388608], List.range 65, true⟩ } }, by decide⟩,
   ⟨0, .xspi, live .test, 127, 2000, by decide⟩,
   ⟨0, .xspi, live .test, 63, by decide⟩⟩

/-- What `Obligations.ElementInstants` assumes is met. -/
theorem witness_element_instants :
    (∃ (s : State) (i : Nat) (x : InstInt), i < 512) ∧
    (∃ (s : State) (i : Nat) (x : InstInt), ∃ (j : Nat), i < 512 ∧ j ≠ i) ∧
    (∃ (s : State) (i : Nat) (x : InstInt), ∃ (a : Nat), i < 512 ∧ a ≠ PRT_ST i ∧ a ≠ PRT_ACC i) ∧
    (∃ (t i k : Nat) (s : State), let a := s.at t; let x := lget resetPhase (a.inst i).ph k; let p := a.elPar i (a.slowLim i); i < 512 ∧ k < 3 ∧ a.elRuns i = true ∧ x.pu = true ∧ x.op = false ∧ p.may = true ∧ p.crv = none ∧ a.elType i ≠ 0x12 ∧ a.elType i ≠ 0x14 ∧ a.elType i ≠ 0x01 ∧ p.dly ≤ x.timer) ∧
    (∃ (t i k : Nat) (s : State), let a := s.at t; let x := lget resetPhase (a.inst i).ph k; let p := a.elPar i (a.slowLim i); i < 512 ∧ k < 3 ∧ a.elRuns i = true ∧ x.pu = true ∧ x.op = false ∧ p.may = true ∧ p.crv ≠ none ∧ 0x40000000 ≤ x.acc ∧ p.dly ≤ x.timer) ∧
    (∃ (t i k d : Nat) (s : State), let a := s.at t; i < 512 ∧ k < 3 ∧ a.elRuns i = true ∧ (lget resetPhase (a.inst i).ph k).drop = some d ∧ a.gp i 3 * usTau ≤ d) ∧
    (∃ (t i k : Nat) (s : State), let a := s.at t; let x := lget resetPhase (a.inst i).ph k; let ty := a.elType i; let lim := if ty = 0x01 ∨ ty = 0x12 then a.fastLim i else if ty = 0x0D ∨ ty = 0x0E then a.hdr i 0 17 7 else a.slowLim i; i < 512 ∧ k < 3 ∧ a.elRuns i = true ∧ lim ≠ 0 ∧ lim ≤ x.hold ∧ (x.pu = true ∨ x.op = true)) ∧
    (∃ (t i v : Nat) (s : State), let a := s.at t; i < 512 ∧ a.elRuns i = true ∧ (a.inst i).vsAt = some v ∧ a.elType i = 0x11 ∧ v + a.gp i 6 * usU ≤ a.now) ∧
    (∃ (t i v : Nat) (s : State), let a := s.at t; i < 512 ∧ a.elRuns i = true ∧ (a.inst i).bfTime = some v ∧ a.elType i = 0x12 ∧ (a.inst i).bfCheck = true ∧ (a.elPar i 0).may = true ∧ a.gp i 5 * usTau ≤ v) ∧
    (∃ (t i v : Nat) (s : State), let a := s.at t; i < 512 ∧ a.elRuns i = true ∧ (a.inst i).bfTime = some v ∧ a.elType i = 0x12 ∧ (a.inst i).bfCheck = true ∧ (a.elPar i 0).may = true ∧ a.gp i 6 * usTau ≤ v) :=
  ⟨⟨live .run, 511, resetInst, by decide⟩,
   ⟨live .run, 511, resetInst, 0, by decide⟩,
   ⟨live .run, 511, resetInst, 0, by decide⟩,
   ⟨0, 511, 2, oneInst 511 2 (ofPhase { resetPhase with pu := true, timer := 1000 }) [0, 0, 0, 0, 0, 0], by decide⟩,
   ⟨0, 511, 2, (oneInst 511 3 (ofPhase { resetPhase with pu := true, acc := 0x40000000 }) [0, 0, 4, 0, 0, 0]), by decide⟩,
   ⟨0, 511, 2, 0, oneInst 511 2 (ofPhase { resetPhase with drop := some 0 }) [], by decide⟩,
   ⟨0, 511, 2, (oneInst 511 2 (ofPhase { resetPhase with pu := true, hold := 512 }) []).wr (PRT_SET 511 0) (BitVec.ofNat 32 (2 + 0x1000 + 2 * 131072)), by decide⟩,
   ⟨0, 511, 0, oneInst 511 0x11 { resetInst with vsAt := some 0 } [], by decide⟩,
   ⟨0, 511, 0, oneInst 511 0x12 { resetInst with bfTime := some 0, bfCheck := true } [], by decide⟩,
   ⟨0, 511, 0, oneInst 511 0x12 { resetInst with bfTime := some 0, bfCheck := true } [], by decide⟩⟩

/-- What `Obligations.ColdLoadAndZones` assumes is met. -/
theorem witness_cold_load_and_zones :
    (∃ (t b i : Nat) (s : State), let a := s.at t; b < 12 ∧ a.clpOf b = some i ∧ a.elRuns i = true ∧ a.elBlocked i = false) ∧
    (∃ (i o : Nat) (s : State), let b := s.elBay i; s.flag (PRT_BSTAT_CB b) = true ∧ (s.bay b).openAt = some o ∧ o + s.gp i 5 * usU ≤ s.now ∧ s.flag (PRT_BAY1_CB_EN b) = true ∧ s.gp i 6 ≠ 0 ∧ b < s.prt.bays.length) ∧
    (∃ (t b i e : Nat) (s : State), let a := s.at t; b < 12 ∧ a.protecting = true ∧ a.clpOf b = some i ∧ (a.bay b).coldEnd = some e ∧ e ≤ a.now) ∧
    (∃ (t z k : Nat) (s : State), let a := s.at t; let p := lget resetZonePh (a.zone z).ph k; z < 2 ∧ k < 3 ∧ a.protecting = true ∧ a.podRuns 1 = true ∧ a.flag (PRT_ZCFG_ZEN z) = true ∧ p.pu = true ∧ a.getF (PRT_ZCFG_NCON z) ≤ p.cnt ∧ a.flag (PRT_ZSTAT_BLANK z) = false ∧ (z = 1 ∨ a.flag (PRT_ZCFG_CHK 1) = false ∨ (lget resetZonePh (a.zone 1).ph k).op = true)) ∧
    (∃ (t z k : Nat) (s : State), let a := s.at t; z < 2 ∧ k < 3 ∧ (a.flag (PRT_ZSTAT_BLANK z) = true ∨ (z = 0 ∧ a.flag (PRT_ZCFG_CHK 1) = true ∧ (lget resetZonePh (a.zone 1).ph k).op = false))) ∧
    (∃ (z b : Nat) (s : State), b < 12) ∧
    (∃ (z m : Nat) (s : State), s.zoneMembers z ≠ s.getF (PRT_ZSTAT_MEMB z)) ∧
    (∃ (t z : Nat) (s : State), let a := s.at t; z < 2 ∧ a.flag (PRT_ZSTAT_BLANK z) = true ∧ (a.zone z).blank ≤ a.flt.cur.m) ∧
    (∃ (t z v : Nat) (s : State), let a := s.at t; z < 2 ∧ a.protecting = true ∧ a.podRuns 1 = true ∧ a.flag (PRT_ZCFG_ZEN z) = true ∧ a.getF (PRT_ZIDALM_IDALM z) ≠ 0 ∧ (∃ p ∈ (a.zone z).ph, p.alm = some v) ∧ a.getF (PRT_ZTALM_TALM z) * 1000 * usTau ≤ v ∧ a.flag (PRT_ZSTAT_ALM z) = false) :=
  ⟨⟨0, 0, 0, oneInst 0 0x13 resetInst [0, 0, 0, 0, 0, 0, 1], by decide⟩,
   ⟨0, 0, (((bays (oneInst 0 0x13 resetInst [0, 0, 0, 0, 0, 0, 1]) { resetBay with openAt := some 0 }).setFlag (PRT_BAY1_EN 0) true).setFlag (PRT_BAY1_CB_EN 0) true).setFlag (PRT_BSTAT_CB 0) true, by decide⟩,
   ⟨0, 0, 0, 0, bays (oneInst 0 0x13 resetInst []) { resetBay with coldEnd := some 0 }, by decide⟩,
   ⟨0, 1, 2, ((zones (live .run) { resetZone with ph := List.replicate 3 ⟨true, false, 4, 0, none⟩ }).setFlag (PRT_ZCFG_ZEN 1) true).setF (POD_STAT_STATE 1) 1, by decide⟩,
   ⟨0, 0, 2, (live .run).setFlag (PRT_ZCFG_CHK 1) true, by decide⟩,
   ⟨1, 11, live .run, by decide⟩,
   ⟨1, 0, (live .run).setF (PRT_ZMAP_STAT 1) 0x800, by decide⟩,
   ⟨0, 1, (live .run).setFlag (PRT_ZSTAT_BLANK 1) true, by decide⟩,
   ⟨0, 1, 10 ^ 30, (((zones (live .run) { resetZone with ph := List.replicate 3 ⟨false, false, 0, 0, some (10 ^ 30)⟩ }).setFlag (PRT_ZCFG_ZEN 1) true).setF (PRT_ZIDALM_IDALM 1) 1).setF (POD_STAT_STATE 1) 1, by decide⟩⟩

/-- What `Obligations.SurgesAndGroups` assumes is met. -/
theorem witness_surges_and_groups :
    (∃ (t b k i : Nat) (s : State), let a := s.at t; let n := a.ana.strobe - 5; let nc := a.flt.nc; let tags := ((upto 5).map (fun j => a.iseTags b nc (n + j))).flatten; b < 12 ∧ k < 3 ∧ a.iseOf b = some i ∧ a.protecting = true ∧ nc + 5 ≤ a.ana.strobe ∧ a.getF (PRT_BAY0_IPH b) < 48 ∧ (a.bay b).ise.inc = none ∧ (∀ l, (a.bay b).ise.last = some l → l.1 + 2 * l.2 ≤ n) ∧ a.iseHit b i nc n k = true ∧ a.elBlocked i = false ∧ (∀ g ∈ tags, g ≠ .settling ∧ g ≠ .refUnsettled ∧ g ≠ .missing)) ∧
    (∃ (b i nc n k : Nat) (s : State), let c := s.getF (PRT_BAY0_IPH b) + k; s.inrush i (some k) = false ∧ s.puS i ≤ absN (s.dx c nc n) * 8192 ∧ (∀ j, j < 4 → s.puS i ≤ 2 * (absN (s.dx c nc (n + 1 + j)) * 8192))) ∧
    (∃ (t b k i n nc : Nat) (s : State), let a := s.at t; let vp := a.gp i 4 % 65536; let c := a.getF (PRT_BAY0_IPH b) + k; let t1 := crossing n (a.puS i) (absN (a.dx c nc (n - 1)) * 8192) (absN (a.dx c nc n) * 8192); b < 12 ∧ a.iseOf b = some i ∧ (a.bay b).ise.inc = some (n, k, nc) ∧ a.protecting = true ∧ n + 16 ≤ a.ana.strobe ∧ (vp ≠ 0 → ((2 * (a.gp i 4 / 65536) * 1000 * 16 * 4294967296 : Nat) : Int) < (a.strobeTime - t1 * 15625) * (vp : Int))) ∧
    (∃ (i : Nat) (r : IseRes) (s : State), let b := s.elBay i; i < 512 ∧ b < 12 ∧ s.elBlocked i = false ∧ (s.bay b).ise.res = some r) ∧
    (∃ (t b i v : Nat) (s : State), let a := s.at t; b < 12 ∧ a.sys.refPresent = true ∧ a.iseOf b = some i ∧ (a.bay b).ise.fwdAt = some v ∧ v + a.gp i 6 * usU ≤ a.now) ∧
    (∃ (t b g m : Nat) (s : State), let a := s.at t; b < 12 ∧ a.protecting = true ∧ (a.bay b).grpReq = some (g, m) ∧ m ≠ a.flt.m) ∧
    (∃ (t i w v m : Nat) (s : State), let a := s.at t; let x := a.inst i; i < 512 ∧ a.protecting = true ∧ x.setReq = [(w, v, m)] ∧ m ≠ a.flt.m) :=
  ⟨⟨0, 0, 2, 0, { oneInst 0 0x15 resetInst [1] with ana := { (live .run).ana with strobe := 30 }, flt := { resetFlt with nc := 16, chans := List.replicate 128 { resetFltChan with x := List.replicate 5 ⟨5, .valid⟩ ++ List.replicate 40 ⟨0, .valid⟩ } } }, by decide +kernel⟩,
   ⟨0, 0, 16, 25, 2, { oneInst 0 0x15 resetInst [1] with ana := { (live .run).ana with strobe := 30 }, flt := { resetFlt with nc := 16, chans := List.replicate 128 { resetFltChan with x := List.replicate 5 ⟨5, .valid⟩ ++ List.replicate 40 ⟨0, .valid⟩ } } }, by decide +kernel⟩,
   ⟨0, 0, 2, 0, 0, 20480, { bays (oneInst 0 0x15 resetInst []) { resetBay with ise := ⟨some (0, 2, 20480), false, none, none, none⟩ } with ana := { (live .run).ana with strobe := 16 } }, by decide⟩,
   ⟨0, ⟨0, 0, 1, 1, none⟩, bays (oneInst 0 0x15 resetInst []) { resetBay with ise := ⟨none, false, none, none, some ⟨0, 0, 1, 1, none⟩⟩ }, by decide⟩,
   ⟨0, 0, 0, 0, bays (oneInst 0 0x15 resetInst []) { resetBay with ise := ⟨none, false, none, some 0, none⟩ }, by decide⟩,
   ⟨0, 11, 3, 1, bays (live .run) { resetBay with grpReq := some (3, 1) }, by decide⟩,
   ⟨0, 511, 29, 0, 1, oneInst 511 2 { resetInst with setReq := [(29, 0, 1)] } [], by decide⟩⟩

/-- What `Obligations.FastAndSlowLists` assumes is met. -/
theorem witness_fast_and_slow_lists :
    (∃ (t : Nat) (s : State), let a := s.at t; a.sampling = true ∧ a.sys.refPresent = true) ∧
    (∃ (t p cycles : Nat) (ends : List Nat) (s : State), let a := s.at t; let b := a.slowTrim p; let k := b.nextList p; p < 2 ∧ a.protecting = true ∧ a.podRuns p = true ∧ b.slowBusy p = false ∧ b.flt.m ≠ 0 ∧ k ≤ b.flt.cur.m) ∧
    (∃ (p u k e v : Nat) (rest : List (Nat × Nat)) (s : State), (s.slowOf p).idx = some k ∧ (s.slowOf p).left = (e, v) :: rest ∧ v ≤ u ∧ (∀ r ∈ rest, u < r.2) ∧ s.protecting = true ∧ s.podRuns p = true) ∧
    (∃ (t p : Nat) (s : State), let a := s.at t; p < 2 ∧ a.protecting = true ∧ (a.podRuns p = true ∨ a.podHalted p = true)) ∧
    (∃ (p k : Nat) (s : State), s.protecting = true ∧ (s.podRuns p = true ∨ s.podHalted p = true) ∧ (s.slowOf p).left = [] ∧ (∀ e, (s.slowOf p).endAt = some e → s.slowUpTo p < e → k = (s.slowOf p).idx.getD 0) ∧ ((∀ e, (s.slowOf p).endAt = some e → e ≤ s.slowUpTo p) → k = s.nextList p) ∧ k + 1 = s.flt.cur.m ∧ s.slowLimit ≤ s.now) :=
  ⟨⟨0, live .run, by decide⟩,
   ⟨0, 1, 0, [], { (live .run).setF (POD_STAT_STATE 1) 1 with flt := { resetFlt with m := 1 } }, by decide⟩,
   ⟨1, 7, 0, 511, 7, [(510, 8)], { (live .run).setF (POD_STAT_STATE 1) 1 with prt := { (live .run).prt with slow := List.replicate 2 ⟨some 0, some 9, 0, [(511, 7), (510, 8)]⟩ } }, by decide⟩,
   ⟨0, 1, (live .run).setF (POD_STAT_STATE 1) 1, by decide⟩,
   ⟨1, 0, { (live .run).setF (POD_STAT_STATE 1) 1 with now := 7360000, prt := { (live .run).prt with slow := List.replicate 2 ⟨some 0, some 100000000, 0, []⟩ }, flt := { resetFlt with cur := { resetHalf with m := 1 } }, ana := { (live .run).ana with strobe := 1000 } }, ⟨by decide, by decide, by decide, fun e h1 h2 => by simp only [show (lget _ _ _ : SlowInt).endAt = some 100000000 from rfl] at h1; decide, fun h => absurd (h _ rfl) (by decide), by decide, by decide⟩⟩⟩

/-- What `Obligations.TripCommits` assumes is met. -/
theorem witness_trip_commits :
    (∃ (s : State) (p : Nat) (w : PodWords), p < 2 ∧ lget none s.trp.rel p = some w ∧ s.trp.last.length = 2) ∧
    (∃ (s : State) (p : Nat) (w : PodWords), let d := Nat.lor (diffCopies w.arm) (diffCopies w.fire); p < 2 ∧ lget none s.trp.rel p = some w ∧ s.trp.last.length = 2 ∧ d = 0) ∧
    (∃ (s : State) (p : Nat), p < 2 ∧ s.podHalted p = false ∧ s.trp.miss.length = 2 ∧ s.trp.missFail.length = 2) ∧
    (∃ (s : State) (p : Nat), p < 2 ∧ s.podHalted p = false ∧ s.trp.miss.length = 2 ∧ s.trp.missFail.length = 2 ∧ lget 0 s.trp.miss p = 3) ∧
    (∃ (s : State) (p : Nat), p < 2 ∧ s.podHalted p = false ∧ s.trp.miss.length = 2 ∧ s.trp.missFail.length = 2 ∧ lget 0 s.trp.miss p ≠ 3) ∧
    (∃ (s : State) (p : Nat) (lost : Bool), p < 2 ∧ s.podHalted p = true ∧ s.trp.last.length = 2 ∧ (lost = true ∨ lget none s.trp.rel p = none)) ∧
    (∃ (t : Nat) (s : State), let a := s.at t; a.protecting = true ∧ a.podRuns 0 = true ∧ a.podRuns 1 = true) ∧
    (∃ (t : Nat) (flips : List (Nat × Nat × Nat × Nat)) (third : List Nat) (s : State), let a := s.at t; a.protecting = true) ∧
    (∃ (t : Nat) (m0 m1 : Bool) (s : State), let a := s.at t; a.protecting = true) ∧
    (∃ (t : Nat) (m0 m1 : Bool) (s : State), let a := s.at t; a.protecting = false) ∧
    (∃ (t p : Nat) (s : State), let a := s.at t; p < 2 ∧ lget 0 a.trp.miss p = 4) ∧
    (∃ (t n f : Nat) (s : State), let a := s.at t; n < 32 ∧ lget none a.trp.firedAt n = some f ∧ a.sys.refPresent = true ∧ f + a.getF (TRP_OCFG_MINON n) * msU ≤ a.now) :=
  ⟨⟨trip (live .run) (fun x => { x with rel := [none, some ⟨[1, 1, 1], [0, 0, 0]⟩] }), 1, ⟨[1, 1, 1], [0, 0, 0]⟩, by decide⟩,
   ⟨trip (live .run) (fun x => { x with rel := [none, some ⟨[1, 1, 1], [0, 0, 0]⟩] }), 1, ⟨[1, 1, 1], [0, 0, 0]⟩, by decide⟩,
   ⟨live .run, 1, by decide⟩,
   ⟨trip (live .run) (fun x => { x with miss := [3, 3] }), 1, by decide⟩,
   ⟨trip (live .run) (fun x => { x with miss := [2, 2] }), 1, by decide⟩,
   ⟨(live .run).setF (POD_STAT_STATE 1) 5, 1, true, by decide⟩,
   ⟨0, ((live .run).setF (POD_STAT_STATE 0) 1).setF (POD_STAT_STATE 1) 3, by decide⟩,
   ⟨0, [(1, 2, 3, 4)], [3, 11], live .test, by decide⟩,
   ⟨0, false, false, live .test, by decide⟩,
   ⟨0, false, true, live .boot, by decide⟩,
   ⟨0, 1, trip (live .run) (fun x => { x with miss := [4, 4] }), by decide⟩,
   ⟨0, 31, 0, trip ((live .run).setF (TRP_OCFG_MINON 31) 0) (fun x => { x with firedAt := List.replicate 32 (some 0) }), by decide⟩⟩

/-- What `Obligations.OutputDrives` assumes is met. -/
theorem witness_output_drives :
    (∃ (s : State) (n arm fire : Nat) (lat : Bool), n < 32 ∧ (s.protecting = false ∨ s.flag (TRP_OCFG_EN n) = false)) ∧
    (∃ (s : State) (n arm fire : Nat) (lat : Bool), n < 32 ∧ s.mode = .test ∧ s.flag (TRP_OCFG_EN n) = true) ∧
    (∃ (s : State) (n arm fire : Nat) (lat : Bool), let failed := (upto 3).any (fun p => s.podFailed p && s.contributes p n); n < 32 ∧ s.mode = .run ∧ s.flag (TRP_OCFG_EN n) = true ∧ failed = true ∧ s.getF (TRP_OCFG_FAILACT n) = 0) ∧
    (∃ (s : State) (n arm fire : Nat) (lat : Bool), let failed := (upto 3).any (fun p => s.podFailed p && s.contributes p n); n < 32 ∧ s.mode = .run ∧ s.flag (TRP_OCFG_EN n) = true ∧ failed = true ∧ s.getF (TRP_OCFG_FAILACT n) = 1) ∧
    (∃ (s : State) (n arm fire : Nat) (lat : Bool), let failed := (upto 3).any (fun p => s.podFailed p && s.contributes p n); n < 32 ∧ s.mode = .run ∧ s.flag (TRP_OCFG_EN n) = true ∧ failed = true ∧ s.getF (TRP_OCFG_FAILACT n) = 2) ∧
    (∃ (s : State) (n arm fire : Nat) (lat : Bool), let failed := (upto 3).any (fun p => s.podFailed p && s.contributes p n); n < 32 ∧ s.mode = .run ∧ s.flag (TRP_OCFG_EN n) = true ∧ failed = false) ∧
    (∃ (s : State) (n arm fire : Nat) (lat : Bool), n < 32 ∧ lat = true) ∧
    (∃ (s : State) (n arm fire : Nat) (lat : Bool), n < 32 ∧ lat = false ∧ s.minonRuns n = false) ∧
    (∃ (t n : Nat) (s : State), let a := s.at t; a.sys.por = false ∧ (8 ≤ a.sys.step ∨ a.trp.lvlArm ≠ 0 ∨ a.trp.lvlFire ≠ 0) ∧ (a.now - a.trp.grid0) % 32000 = 0 ∧ n < 32) ∧
    (∃ (t : Nat) (s : State), let a := s.at t; a.sys.por = false ∧ (8 ≤ a.sys.step ∨ a.trp.wdLevel = true) ∧ (a.now - a.trp.grid0) % 800000 = 0) ∧
    (∃ (t n : Nat) (fire : Bool) (s : State), let a := s.at t; let f := if fire then TRP_RBF_RBF else TRP_RBA_RBA; n < 32 ∧ a.sys.step ≥ 8 ∧ a.sys.refPresent = true ∧ (a.getF f).testBit n = false) ∧
    (∃ (t n : Nat) (fire : Bool) (s : State), let a := s.at t; let f := if fire then TRP_RBF_RBF else TRP_RBA_RBA; n < 32 ∧ (a.getF f).testBit n = true) ∧
    (∃ (t : Nat) (s : State), let a := s.at t; a.sys.por = true) :=
  ⟨⟨live .run, 31, 0, 0, false, by decide⟩,
   ⟨(live .test).setFlag (TRP_OCFG_EN 31) true, 31, 0x80000000, 0, false, by decide⟩,
   ⟨((bad31).setF (TRP_OCFG_FAILACT 31) 0), 31, 0, 0, false, by decide⟩,
   ⟨((bad31).setF (TRP_OCFG_FAILACT 31) 1), 31, 0, 0, false, by decide⟩,
   ⟨((bad31).setF (TRP_OCFG_FAILACT 31) 2), 31, 0, 0, false, by decide⟩,
   ⟨(live .run).setFlag (TRP_OCFG_EN 31) true, 31, 0, 0, false, by decide⟩,
   ⟨live .run, 31, 0, 0, true, by decide⟩,
   ⟨live .run, 31, 0, 0x80000000, false, by decide⟩,
   ⟨0, 31, trip { live .run with now := 32000 } (fun x => x), by decide⟩,
   ⟨0, live .run, by decide⟩,
   ⟨0, 31, true, live .run, by decide⟩,
   ⟨0, 31, false, (live .run).setF TRP_RBA_RBA 0x80000000, by decide⟩,
   ⟨0, State.reset, by decide⟩⟩

/-- What `Obligations.BinaryInputs` assumes is met. -/
theorem witness_binary_inputs :
    (∃ (t i : Nat) (level : Bool) (s : State), let a := s.at t; let x := a.bio i; let raw := a.bioOn i && (level != a.flag (BIO_CFG_INV i)); i < 64 ∧ (a.sys.step < 9 ∨ a.sys.refPresent = false ∨ (raw = x.raw ∧ (x.raw = a.bin i ∨ a.strobeNow < x.runFrom + a.getF (BIO_CFG_DEB i) + 1)))) ∧
    (∃ (t i : Nat) (level : Bool) (s : State), let a := s.at t; let raw := a.bioOn i && (level != a.flag (BIO_CFG_INV i)); i < 64 ∧ a.sys.step ≥ 9 ∧ a.sys.refPresent = true ∧ raw ≠ (a.bio i).raw ∧ (a.bio i).raw = a.bin i) ∧
    (∃ (t i : Nat) (level : Bool) (s : State), let a := s.at t; let x := a.bio i; let raw := a.bioOn i && (level != a.flag (BIO_CFG_INV i)); i < 64 ∧ a.sys.step ≥ 9 ∧ a.sys.refPresent = true ∧ raw ≠ x.raw ∧ x.raw ≠ a.bin i ∧ a.trp.bio.length = 64 ∧ a.strobeNow < x.runFrom + a.getF (BIO_CFG_DEB i) + 1) ∧
    (∃ (t i : Nat) (level : Bool) (s : State), let a := s.at t; let x := a.bio i; let raw := a.bioOn i && (level != a.flag (BIO_CFG_INV i)); i < 64 ∧ a.sys.step ≥ 9 ∧ a.sys.refPresent = true ∧ a.bioOn i = true ∧ raw ≠ x.raw ∧ x.raw ≠ a.bin i ∧ a.trp.bio.length = 64 ∧ x.runFrom + a.getF (BIO_CFG_DEB i) + 1 ≤ a.strobeNow) ∧
    (∃ (t i : Nat) (s : State), let a := s.at t; let x := a.bio i; i < 64 ∧ a.sys.step ≥ 9 ∧ a.sys.refPresent = true ∧ a.bioOn i = true ∧ x.raw ≠ a.bin i ∧ x.runFrom + a.getF (BIO_CFG_DEB i) + 1 ≤ a.ana.strobe) ∧
    (∃ (t i : Nat) (s : State), let a := s.at t; let x := a.bio i; i < 64 ∧ (x.raw = a.bin i ∨ a.ana.strobe < x.runFrom + a.getF (BIO_CFG_DEB i) + 1)) :=
  ⟨⟨0, 63, false, (live .run).setFlag (BIO_CFG_EN 63) true, by decide⟩,
   ⟨0, 63, true, (live .run).setFlag (BIO_CFG_EN 63) true, by decide⟩,
   ⟨0, 63, false, trip ((live .run).setFlag (BIO_CFG_EN 63) true) (fun x => { x with bio := List.replicate 64 ⟨true, true, 0⟩ }), by decide⟩,
   ⟨0, 63, false, { trip ((live .run).setFlag (BIO_CFG_EN 63) true) (fun x => { x with bio := List.replicate 64 ⟨true, true, 0⟩ }) with ana := { (live .run).ana with strobe := 70000 } }, by decide⟩,
   ⟨0, 63, { trip ((live .run).setFlag (BIO_CFG_EN 63) true) (fun x => { x with bio := List.replicate 64 ⟨true, true, 0⟩ }) with ana := { (live .run).ana with strobe := 70000 } }, by decide⟩,
   ⟨0, 63, live .run, by decide⟩⟩

/-- What `Obligations.RowsAndTriggers` assumes is met. -/
theorem witness_rows_and_triggers :
    (∃ (t c st : Nat) (s : State), ∃ (full : Bool), let a := s.at t; c < 8 ∧ st < 5 ∧ a.protecting = true ∧ a.flag (REC_CCFG_EN c) = true ∧ bitN (a.getF (REC_CCFG_STREAMS c)) st = true ∧ a.ana.strobe ≠ 0 ∧ (st = 3 → a.flt.cur.m % 256 = 0) ∧ (lget 8 a.tph.slots a.slotNow ≠ c ∨ a.slotNow % 8 = 0)) ∧
    (∃ (t c st : Nat) (s : State), let a := s.at t; c < 8 ∧ st < 5 ∧ a.protecting = true ∧ a.flag (REC_CCFG_EN c) = true ∧ bitN (a.getF (REC_CCFG_STREAMS c)) st = true ∧ a.ana.strobe ≠ 0 ∧ (st = 3 → a.flt.cur.m % 256 = 0) ∧ lget 8 a.tph.slots a.slotNow = c ∧ a.slotNow % 8 ≠ 0 ∧ a.recState c = 1) ∧
    (∃ (t c st : Nat) (s : State), ∃ o, let a := s.at t; c < 8 ∧ st < 5 ∧ a.protecting = true ∧ a.flag (REC_CCFG_EN c) = true ∧ bitN (a.getF (REC_CCFG_STREAMS c)) st = true ∧ a.ana.strobe ≠ 0 ∧ (st = 3 → a.flt.cur.m % 256 = 0) ∧ lget 8 a.tph.slots a.slotNow = c ∧ a.slotNow % 8 ≠ 0 ∧ a.recState c = 2 ∧ (a.rcls c).open_ = some o) ∧
    (∃ (t c st : Nat) (s : State), let a := s.at t; c < 8 ∧ st < 5 ∧ a.protecting = true ∧ a.flag (REC_CCFG_EN c) = true ∧ bitN (a.getF (REC_CCFG_STREAMS c)) st = true ∧ a.ana.strobe ≠ 0 ∧ (st = 3 → a.flt.cur.m % 256 = 0) ∧ lget 8 a.tph.slots a.slotNow = c ∧ a.slotNow % 8 ≠ 0 ∧ (a.recState c = 1 ∨ a.recState c = 2)) ∧
    (∃ (t c st : Nat) (s : State), ∃ (full : Bool), let a := s.at t; c < 8 ∧ st < 5 ∧ a.protecting = true ∧ a.flag (REC_CCFG_EN c) = true ∧ bitN (a.getF (REC_CCFG_STREAMS c)) st = true ∧ a.ana.strobe ≠ 0 ∧ (st = 3 → a.flt.cur.m % 256 = 0) ∧ lget 8 a.tph.slots a.slotNow = c ∧ a.slotNow % 8 ≠ 0 ∧ (a.recState c = 0 ∨ a.recState c = 3)) ∧
    (∃ (t c : Nat) (s : State), let a := s.at t; c < 8 ∧ a.sys.refPresent = true ∧ a.tph.done.find? (fun d => d.1 = c) = none) ∧
    (∃ (t c : Nat) (s : State), ∃ (d : Nat × Nat × Nat × Bool), let a := s.at t; c < 8 ∧ a.sys.refPresent = true ∧ a.tph.done.find? (fun d => d.1 = c) = some d) ∧
    (∃ (t n : Nat) (s : State), let a := s.at t; a.sys.refPresent = true) ∧
    (∃ (s : State) (c : Nat) (ts : List RecTrig), s.recState c = 3 ∧ s.flag (REC_CCFG_EN c) = true ∧ s.hits c ts ≠ []) ∧
    (∃ (s : State) (c g : Nat) (h : Nat × RecTrig) (rest : List (Nat × RecTrig)) (ts : List RecTrig), let p := s.primary c h g; let o := rest.foldl (fun o e => p.2.additional c e o) p.1; let b := p.2.setCls c { p.2.rcls c with open_ := some o }; s.recState c = 1 ∧ s.flag (REC_CCFG_EN c) = true ∧ s.hits c ts = h :: rest ∧ (s.rcls c).ring = some g ∧ endTau (b.basePeriod (b.getF (REC_CCFG_BASE c))) (b.seg g) (b.getF (REC_CCFG_BASE c)) o = none) ∧
    (∃ (s : State) (c : Nat) (o : RecOpen) (ts : List RecTrig), s.recState c = 2 ∧ s.flag (REC_CCFG_EN c) = true ∧ s.hits c ts ≠ [] ∧ (s.rcls c).open_ = some o) ∧
    (∃ (s : State) (c : Nat) (e : Nat × RecTrig) (o : RecOpen), 15 ≤ o.adds.length) ∧
    (∃ (t i : Nat) (rising : Bool) (s : State), i < 2) ∧
    (∃ (t i n : Nat) (s : State), let a := s.at t; i < 2 ∧ lget none a.tph.touts i = none) ∧
    (∃ (t i n : Nat) (s : State), let a := s.at t; i < 2 ∧ lget none a.tph.touts i = some n) ∧
    (∃ (t c k : Nat) (s : State), let a := s.at t; let run := Store.get (0, 0) (a.rcls c).runs k; c < 8 ∧ k < 128 ∧ a.sys.refPresent = true ∧ a.flag (REC_CCFG_EN c) = true ∧ a.flag (REC_CCFG_MASK_EN c) = true ∧ (run.1 = 0 ∨ run.1 < a.getF (REC_CMASK_NVIOL c))) ∧
    (∃ (t c k : Nat) (s : State), let a := s.at t; let run := Store.get (0, 0) (a.rcls c).runs k; c < 8 ∧ k < 128 ∧ a.sys.refPresent = true ∧ a.flag (REC_CCFG_EN c) = true ∧ a.flag (REC_CCFG_MASK_EN c) = true ∧ run.1 ≠ 0 ∧ a.getF (REC_CMASK_NVIOL c) ≤ run.1) :=
  ⟨⟨0, 7, 4, { recd ((((live .run).setFlag (REC_CCFG_EN 7) true).setF (REC_CCFG_STREAMS 7) 31).setF (REC_CSTAT_STATE 7) 1) (fun x => { x with slots := List.replicate 64 7 }) with now := 0, ana := { (live .run).ana with strobe := 1 } }, true, by decide⟩,
   ⟨0, 7, 4, { recd ((((live .run).setFlag (REC_CCFG_EN 7) true).setF (REC_CCFG_STREAMS 7) 31).setF (REC_CSTAT_STATE 7) 1) (fun x => { x with slots := List.replicate 64 7 }) with now := 250, ana := { (live .run).ana with strobe := 1 } }, by decide⟩,
   ⟨0, 7, 4, { recd ((((live .run).setFlag (REC_CCFG_EN 7) true).setF (REC_CCFG_STREAMS 7) 31).setF (REC_CSTAT_STATE 7) 2) (fun x => { x with slots := List.replicate 64 7, classes := List.replicate 8 { resetClass with open_ := some open0 } }) with now := 250, ana := { (live .run).ana with strobe := 1 } }, open0, by decide⟩,
   ⟨0, 7, 4, { recd ((((live .run).setFlag (REC_CCFG_EN 7) true).setF (REC_CCFG_STREAMS 7) 31).setF (REC_CSTAT_STATE 7) 2) (fun x => { x with slots := List.replicate 64 7 }) with now := 250, ana := { (live .run).ana with strobe := 1 } }, by decide⟩,
   ⟨0, 7, 4, { recd ((((live .run).setFlag (REC_CCFG_EN 7) true).setF (REC_CCFG_STREAMS 7) 31).setF (REC_CSTAT_STATE 7) 3) (fun x => { x with slots := List.replicate 64 7 }) with now := 250, ana := { (live .run).ana with strobe := 1 } }, false, by decide⟩,
   ⟨0, 7, live .run, by decide⟩,
   ⟨0, 7, recd (live .run) (fun x => { x with done := [(7, 0, 1, false)] }), (7, 0, 1, false), by decide⟩,
   ⟨0, 0, live .run, by decide⟩,
   ⟨((live .run).setFlag (REC_CCFG_EN 7) true).setF (REC_CSTAT_STATE 7) 3, 7, [⟨10, 0, true, 0, 0, some 7⟩], by decide⟩,
   ⟨recd (((live .run).setFlag (REC_CCFG_EN 7) true).setF (REC_CSTAT_STATE 7) 1) (fun x => { x with classes := List.replicate 8 { resetClass with ring := some 0, open_ := some open0 } }), 7, 0, (0, ⟨10, 0, true, 0, 0, none⟩), [], [⟨10, 0, true, 0, 0, none⟩], by decide⟩,
   ⟨recd (((live .run).setFlag (REC_CCFG_EN 7) true).setF (REC_CSTAT_STATE 7) 2) (fun x => { x with classes := List.replicate 8 { resetClass with ring := some 0, open_ := some open0 } }), 7, open0, [⟨10, 0, true, 0, 0, none⟩], by decide⟩,
   ⟨live .run, 7, (0, ⟨10, 0, true, 0, 0, none⟩), { open0 with adds := List.replicate 15 (0, 0) }, by decide⟩,
   ⟨0, 1, true, { live .run with sys := { (live .run).sys with ballMap := 8 } }, by decide⟩,
   ⟨0, 1, 0, live .run, by decide⟩,
   ⟨0, 1, 0, recd (live .run) (fun x => { x with touts := [some 0, some 0] }), by decide⟩,
   ⟨0, 7, 127, recd ((((live .run).setFlag (REC_CCFG_EN 7) true).setFlag (REC_CCFG_MASK_EN 7) true).setF (REC_CMASK_NVIOL 7) 2) (fun x => { x with classes := List.replicate 8 { resetClass with runs := [(127, (1, 0))] } }), by decide⟩,
   ⟨0, 7, 127, recd ((((live .run).setFlag (REC_CCFG_EN 7) true).setFlag (REC_CCFG_MASK_EN 7) true).setF (REC_CMASK_NVIOL 7) 2) (fun x => { x with classes := List.replicate 8 { resetClass with runs := [(127, (2, 0))] } }), by decide⟩⟩

/-- What `Obligations.RecorderCommands` assumes is met. -/
theorem witness_recorder_commands :
    (∃ (t c : Nat) (r : Requester) (s : State), let a := s.at t; c < 8 ∧ a.trAlive (reqIdx r) = true ∧ a.judge r (REC_CCTL c) = .allowed ∧ a.flag (REC_CCFG_EN c) = true ∧ a.protecting = false) ∧
    (∃ (t c : Nat) (r : Requester) (s : State), let a := s.at t; c < 8 ∧ a.trAlive (reqIdx r) = true ∧ a.judge r (REC_CCTL c) = .allowed ∧ a.flag (REC_CCFG_EN c) = true ∧ a.protecting = true ∧ a.recState c ≠ 3 ∧ a.recState c ≠ 0) ∧
    (∃ (t c : Nat) (r : Requester) (s : State), ∃ (g : Nat), let a := s.at t; let n := (a.setFlag (REC_CSTAT_MASKSTOP c) false).takeSeg c none; c < 8 ∧ a.trAlive (reqIdx r) = true ∧ a.judge r (REC_CCTL c) = .allowed ∧ a.flag (REC_CCFG_EN c) = true ∧ a.protecting = true ∧ a.recState c = 0 ∧ n.1 = some g) ∧
    (∃ (t c : Nat) (r : Requester) (s : State), let a := s.at t; let n := (a.setFlag (REC_CSTAT_MASKSTOP c) false).takeSeg c none; c < 8 ∧ a.trAlive (reqIdx r) = true ∧ a.judge r (REC_CCTL c) = .allowed ∧ a.flag (REC_CCFG_EN c) = true ∧ a.protecting = true ∧ a.recState c = 0 ∧ n.1 = none) ∧
    (∃ (t c : Nat) (r : Requester) (s : State), let a := s.at t; c < 8 ∧ a.trAlive (reqIdx r) = true ∧ a.judge r (REC_CCTL c) = .allowed ∧ a.flag (REC_CCFG_EN c) = true ∧ a.recState c = 3) ∧
    (∃ (t c : Nat) (r : Requester) (s : State), let a := s.at t; c < 8 ∧ a.trAlive (reqIdx r) = true ∧ a.judge r (REC_CCTL c) = .allowed ∧ a.flag (REC_CCFG_EN c) = true ∧ (a.recState c = 0 ∨ a.recState c = 3)) ∧
    (∃ (t c : Nat) (r : Requester) (s : State), let a := s.at t; c < 8 ∧ a.trAlive (reqIdx r) = true ∧ a.judge r (REC_CCTL c) = .allowed ∧ a.flag (REC_CCFG_EN c) = true ∧ a.recState c = 2) ∧
    (∃ (t c : Nat) (r : Requester) (s : State), let a := s.at t; c < 8 ∧ a.trAlive (reqIdx r) = true ∧ a.judge r (REC_CCTL c) = .allowed ∧ a.flag (REC_CCFG_EN c) = true ∧ a.recState c = 1) ∧
    (∃ (t c : Nat) (r : Requester) (s : State), let a := s.at t; c < 8 ∧ a.trAlive (reqIdx r) = true ∧ a.judge r (REC_CCTL c) = .allowed ∧ a.flag (REC_CCFG_EN c) = true ∧ a.protecting = true ∧ a.getF (REC_CPOST_POST c) ≠ 0 ∧ a.getF (REC_CPRE_PRE c) + a.getF (REC_CPOST_POST c) ≤ a.getF (REC_CCAP_CAP c)) ∧
    (∃ (t c : Nat) (r : Requester) (s : State), ∃ (st : Status), let a := s.at t; c < 8 ∧ a.trAlive (reqIdx r) = true ∧ a.judge r (REC_CCTL c) = .allowed ∧ a.flag (REC_CCFG_EN c) = true ∧ (st = (if a.protecting = false then Status.stateDenied else if a.getF (REC_CPOST_POST c) = 0 ∨ a.getF (REC_CCAP_CAP c) < a.getF (REC_CPOST_POST c) ∨ a.getF (REC_CCAP_CAP c) ≤ a.getF (REC_CPRE_PRE c) then .valueRange else if a.getF (REC_CCAP_CAP c) < a.getF (REC_CPRE_PRE c) + a.getF (REC_CPOST_POST c) then .lenRange else .ok)) ∧ st ≠ .ok) ∧
    (∃ (t c : Nat) (r : Requester) (s : State), let a := s.at t; c < 8 ∧ a.trAlive (reqIdx r) = true ∧ a.judge r (REC_CCTL c) = .allowed ∧ a.flag (REC_CCFG_EN c) = true ∧ a.protecting = true) ∧
    (∃ (t v : Nat) (r : Requester) (s : State), let a := s.at t; let g := v % 4096; let st := v / 4096 % 8; a.trAlive (reqIdx r) = true ∧ a.judge r REC_WSEL = .allowed ∧ (a.regionSecure (a.segByte g) = false ∨ a.reqSecure r = true) ∧ st < 5 ∧ (a.ridx g).st = 3 ∧ bitN (a.seg g).streams st = true) ∧
    (∃ (t v : Nat) (r : Requester) (s : State), let a := s.at t; a.trAlive (reqIdx r) = true ∧ a.judge r REC_REL = .allowed ∧ (a.regionSecure (a.segByte (v % 4096)) = false ∨ a.reqSecure r = true) ∧ 4096 ≤ v) ∧
    (∃ (t v : Nat) (r : Requester) (s : State), let a := s.at t; a.trAlive (reqIdx r) = true ∧ a.judge r REC_REL = .allowed ∧ (a.regionSecure (a.segByte (v % 4096)) = false ∨ a.reqSecure r = true) ∧ v < 4096 ∧ (a.ridx v).st ≠ 3) ∧
    (∃ (t v : Nat) (r : Requester) (s : State), ∃ (c : Nat), let a := s.at t; let b := a.setRidx v { a.ridx v with st := 4 }; let d := if a.tph.wsel = some v then { b with tph := { b.tph with wsel := none } }.setFlag REC_WSTAT_SEL false else b; a.trAlive (reqIdx r) = true ∧ a.judge r REC_REL = .allowed ∧ (a.regionSecure (a.segByte (v % 4096)) = false ∨ a.reqSecure r = true) ∧ v < 4096 ∧ (a.ridx v).st = 3 ∧ a.segClass v = some c ∧ d.flag (REC_CCFG_EN c) = true ∧ d.recState c = 3) ∧
    (∃ (t v : Nat) (r : Requester) (s : State), let a := s.at t; let b := a.setRidx v { a.ridx v with st := 4 }; let d := if a.tph.wsel = some v then { b with tph := { b.tph with wsel := none } }.setFlag REC_WSTAT_SEL false else b; a.trAlive (reqIdx r) = true ∧ a.judge r REC_REL = .allowed ∧ (a.regionSecure (a.segByte (v % 4096)) = false ∨ a.reqSecure r = true) ∧ v < 4096 ∧ (a.ridx v).st = 3 ∧ (∀ c, a.segClass v = some c → d.flag (REC_CCFG_EN c) = false ∨ d.recState c ≠ 3)) ∧
    (∃ (c g : Nat) (s : State), s.segFirst c ≤ g ∧ g < s.segFirst c + s.nseg c ∧ s.segFree g = true ∧ (∀ h, s.segFirst c ≤ h → h < g → s.segFree h = false)) ∧
    (∃ (t o : Nat) (r : Requester) (s : State), let a := s.at t; o < 0x600000 ∧ a.trAlive (reqIdx r) = true ∧ a.sys.mapOn = true ∧ (a.windowSecure (0x200000 + o) = false ∨ a.reqSecure r = true) ∧ a.tph.wsel = none) ∧
    (∃ (t o : Nat) (r : Requester) (s : State), ∃ (g : Nat), let a := s.at t; o < 0x600000 ∧ a.trAlive (reqIdx r) = true ∧ a.sys.mapOn = true ∧ (a.windowSecure (0x200000 + o) = false ∨ a.reqSecure r = true) ∧ a.tph.wsel = some g) ∧
    (∃ (t o : Nat) (r : Requester) (s : State), let a := s.at t; o < 0x600000 ∧ a.trAlive (reqIdx r) = true ∧ a.sys.mapOn = true ∧ (a.windowSecure (0x200000 + o) = false ∨ a.reqSecure r = true)) :=
  ⟨⟨0, 7, .xspi, ((live .boot).setFlag (REC_CCFG_EN 7) true), by decide⟩,
   ⟨0, 7, .xspi, ((live .run).setFlag (REC_CCFG_EN 7) true).setF (REC_CSTAT_STATE 7) 2, by decide⟩,
   ⟨0, 7, .xspi, ((((live .run).setFlag (REC_CCFG_EN 7) true).setF (REC_CSTAT_STATE 7) 0).setF (REC_CCFG_NSEG 7) 1), 0, by decide⟩,
   ⟨0, 7, .xspi, ((((live .run).setFlag (REC_CCFG_EN 7) true).setF (REC_CSTAT_STATE 7) 0).setF (REC_CCFG_NSEG 7) 0), by decide⟩,
   ⟨0, 7, .xspi, ((((live .run).setFlag (REC_CCFG_EN 7) true).setF (REC_CSTAT_STATE 7) 3).setF (REC_CCFG_NSEG 7) 1), by decide⟩,
   ⟨0, 7, .xspi, ((((live .run).setFlag (REC_CCFG_EN 7) true).setF (REC_CSTAT_STATE 7) 3).setF (REC_CCFG_NSEG 7) 1), by decide⟩,
   ⟨0, 7, .xspi, ((live .run).setFlag (REC_CCFG_EN 7) true).setF (REC_CSTAT_STATE 7) 2, by decide⟩,
   ⟨0, 7, .xspi, ((live .run).setFlag (REC_CCFG_EN 7) true).setF (REC_CSTAT_STATE 7) 1, by decide⟩,
   ⟨0, 7, .xspi, ((((live .run).setFlag (REC_CCFG_EN 7) true).setF (REC_CPRE_PRE 7) 3).setF (REC_CPOST_POST 7) 5).setF (REC_CCAP_CAP 7) 8, by decide⟩,
   ⟨0, 7, .xspi, ((((live .run).setFlag (REC_CCFG_EN 7) true).setF (REC_CSTAT_STATE 7) 0).setF (REC_CCFG_NSEG 7) 1).setF (REC_CPOST_POST 7) 0, .valueRange, by decide⟩,
   ⟨0, 7, .portC, ((live .run).setFlag (REC_CCFG_EN 7) true), by decide⟩,
   ⟨0, 0x4FFF, .xspi, { recd (live .run) (fun x => { x with segs := [(4095, { resetSeg with streams := 31 })] }) with mram := { resetMram with recIdx := [(4095, { resetIdx with st := 3 })] } }, by decide⟩,
   ⟨0, 4096, .xspi, live .run, by decide⟩,
   ⟨0, 4095, .xspi, live .run, by decide⟩,
   ⟨0, 0, .xspi, { ((((live .run).setFlag (REC_CCFG_EN 7) true).setF (REC_CSTAT_STATE 7) 3).setF (REC_CCFG_NSEG 7) 1) with mram := { resetMram with recIdx := [(0, { resetIdx with st := 3 })] } }, 7, by decide⟩,
   ⟨0, 4095, .xspi, { recd (live .run) (fun x => { x with wsel := some 4095 }) with mram := { resetMram with recIdx := [(4095, { resetIdx with st := 3 })] } }, by decide⟩,
   ⟨7, 0, ((((live .run).setFlag (REC_CCFG_EN 7) true).setF (REC_CSTAT_STATE 7) 0).setF (REC_CCFG_NSEG 7) 1), by decide⟩,
   ⟨0, 0x5FFFFF, .xspi, live .run, by decide⟩,
   ⟨0, 0x5FFFFF, .xspi, recd (live .run) (fun x => { x with wsel := some 4095 }), 4095, by decide⟩,
   ⟨0, 0x5FFFFF, .xspi, live .run, by decide⟩⟩

/-- What `Obligations.PodVoting` assumes is met. -/
theorem witness_pod_voting :
    (∃ u v w : Verdict, u = .agree ∧ v = .agree ∧ w = .agree) ∧
    (∃ u v w : Verdict, ∃ x, x < 3 ∧ (u = .odd x ∧ v = .odd x ∨ u = .odd x ∧ w = .odd x ∨ v = .odd x ∧ w = .odd x)) ∧
    (∃ u v w : Verdict, u ≠ .agree ∧ v = .agree ∧ w = .agree) ∧
    (∃ u v w : Verdict, u = .agree ∧ v ≠ .agree ∧ w = .agree) ∧
    (∃ u v w : Verdict, u = .agree ∧ v = .agree ∧ w ≠ .agree) ∧
    (∃ u v w : Verdict, (u = .none ∧ v = .none ∨ u = .none ∧ w = .none ∨ v = .none ∧ w = .none ∨ u ≠ v ∧ u ≠ w ∧ v ≠ w)) ∧
    (∃ (t p : Nat) (x y z : Packet) (s : State), let a := s.at t; p < 3 ∧ a.podState p = 1 ∧ x = y ∧ y = z) ∧
    (∃ (t p : Nat) (x y z : Packet) (s : State), let a := s.at t; p < 3 ∧ a.podState p = 1 ∧ x = y ∧ y ≠ z) ∧
    (∃ (t p : Nat) (x y z : Packet) (s : State), let a := s.at t; p < 3 ∧ a.podState p = 1 ∧ x ≠ y ∧ x ≠ z ∧ y ≠ z) ∧
    (∃ (t p : Nat) (x y z : Packet) (s : State), ∃ o : List (Option Verdict), let a := s.at t; p < 3 ∧ a.podState p = 1) ∧
    (∃ (t p : Nat) (x y z : Packet) (s : State), let a := s.at t; let d := a.stopOdd p; p < 3 ∧ (a.podState p = 2 ∨ a.podState p = 3) ∧ (d.getF (POD_STAT_RUN p) = 3 ∨ d.getF (POD_STAT_RUN p) = 5 ∨ d.getF (POD_STAT_RUN p) = 6)) ∧
    (∃ (t p : Nat) (x y z : Packet) (s : State), ∃ (o : List (Option Verdict)) (k : Nat) (w : Verdict), let a := s.at t; let d := a.stopOdd p; p < 3 ∧ (a.podState p = 2 ∨ a.podState p = 3) ∧ (d.getF (POD_STAT_RUN p) = 3 ∨ d.getF (POD_STAT_RUN p) = 5 ∨ d.getF (POD_STAT_RUN p) = 6) ∧ k < 3 ∧ lget none o k = some w ∧ w ≠ .agree) ∧
    (∃ (p x : Nat) (s : State), (s.podOf p).stopping = some x) ∧
    (∃ (p x : Nat) (s : State), (s.podOf p).stopping = none) ∧
    (∃ (t : Nat) (x y z : Packet) (s : State), let a := s.at t; a.podState 2 = 6) ∧
    (∃ (t p : Nat) (k : List Packet) (o : List (Option Verdict)) (s : State), let a := s.at t; p < 3 ∧ (a.podState p = 0 ∨ a.podState p = 4 ∨ a.podState p = 5)) ∧
    (∃ (t : Nat) (x y z : Packet) (o : List (Option Verdict)) (s : State), let a := s.at t; a.podState 2 = 7) ∧
    (∃ (t p core : Nat) (s : State), let a := s.at t; p < 3 ∧ core < 3 ∧ a.podState p = 1) ∧
    (∃ (s : State) (p x : Nat), p < 3 ∧ x < 3 ∧ s.podState p = 1) ∧
    (∃ (t p cycles x f : Nat) (s : State), let a := s.at t; p < 3 ∧ (a.podOf p).resync = some (x, f) ∧ a.podState p = 2 ∧ x < 3 ∧ a.pod.pods.length = 3) ∧
    (∃ (t p core : Nat) (s : State), p < 3 ∧ core < 3) :=
  ⟨⟨.agree, .agree, .agree, by decide⟩,
   ⟨.odd 2, .none, .odd 2, 2, by decide⟩,
   ⟨.none, .agree, .agree, by decide⟩,
   ⟨.agree, .odd 0, .agree, by decide⟩,
   ⟨.agree, .agree, .none, by decide⟩,
   ⟨.none, .agree, .none, by decide⟩,
   ⟨0, 2, ⟨0, 0, 0, 0, 0⟩, ⟨0, 0, 0, 0, 0⟩, ⟨0, 0, 0, 0, 0⟩, pod 2 1, by decide⟩,
   ⟨0, 2, ⟨0, 0, 0, 0, 0⟩, ⟨0, 0, 0, 0, 0⟩, ⟨0, 0, 1, 0, 0⟩, pod 2 1, by decide⟩,
   ⟨0, 2, ⟨0, 0, 0, 0, 0⟩, ⟨0, 0, 1, 0, 0⟩, ⟨0, 0, 2, 0, 0⟩, pod 2 1, by decide⟩,
   ⟨0, 2, ⟨0, 0, 0, 0, 0⟩, ⟨0, 0, 1, 0, 0⟩, ⟨0, 0, 2, 0, 0⟩, pod 2 1, [], by decide⟩,
   ⟨0, 2, ⟨0, 0, 0, 0, 0⟩, ⟨0, 0, 1, 0, 0⟩, ⟨0, 0, 2, 0, 0⟩, (pod 2 3).setF (POD_STAT_RUN 2) 3, by decide⟩,
   ⟨0, 2, ⟨0, 0, 0, 0, 0⟩, ⟨0, 0, 1, 0, 0⟩, ⟨0, 0, 2, 0, 0⟩, (pod 2 3).setF (POD_STAT_RUN 2) 3, [none, some .none, none], 1, .none, by decide⟩,
   ⟨2, 1, { live .run with pod := { (live .run).pod with pods := (live .run).pod.pods.map (fun x => { x with stopping := some 1 }) } }, by decide⟩,
   ⟨2, 1, live .run, by decide⟩,
   ⟨0, ⟨0, 0, 0, 0, 0⟩, ⟨0, 0, 0, 0, 0⟩, ⟨0, 0, 0, 0, 0⟩, pod 2 6, by decide⟩,
   ⟨0, 2, [], [], pod 2 5, by decide⟩,
   ⟨0, ⟨0, 0, 0, 0, 0⟩, ⟨0, 0, 1, 0, 0⟩, ⟨0, 0, 2, 0, 0⟩, [], pod 2 7, by decide⟩,
   ⟨0, 2, 2, pod 2 1, by decide⟩,
   ⟨pod 2 1, 2, 2, by decide⟩,
   ⟨0, 2, 0, 2, 0, { pod 2 2 with pod := { (live .run).pod with pods := List.replicate 3 { resetPod with resync := some (2, 0) } } }, by decide⟩,
   ⟨0, 2, 2, live .run, by decide⟩⟩

/-- What `Obligations.PodMemoryErrors` assumes is met. -/
theorem witness_pod_memory_errors :
    (∃ (t p w n : Nat) (s : State), let a := s.at t; p < 3 ∧ w < podWords p ∧ (a.podRuns p = true ∨ a.podState p = 6 ∨ a.podState p = 7) ∧ n = 0) ∧
    (∃ (t p w n : Nat) (s : State), let a := s.at t; p < 3 ∧ w < podWords p ∧ (a.podRuns p = true ∨ a.podState p = 6 ∨ a.podState p = 7) ∧ n = 1) ∧
    (∃ (t p w n : Nat) (s : State), let a := s.at t; p < 3 ∧ w < podWords p ∧ (a.podRuns p = true ∨ a.podState p = 6 ∨ a.podState p = 7) ∧ 2 ≤ n) ∧
    (∃ (t p : Nat) (s : State), let a := s.at t; let w := a.getF (POD_SCRUB_NEXT p); p < 3 ∧ a.podState p ≠ 0 ∧ a.podState p ≠ 4 ∧ w + 1 < podWords p) ∧
    (∃ (t p : Nat) (s : State), let a := s.at t; let w := a.getF (POD_SCRUB_NEXT p); p < 3 ∧ a.podState p ≠ 0 ∧ a.podState p ≠ 4 ∧ podWords p ≤ w + 1) ∧
    (∃ (s : State) (p cause : Nat), p < 2 ∧ s.podState p ≠ 4 ∧ s.podState p ≠ 0) ∧
    (∃ (s : State) (cause : Nat), s.podState 2 ≠ 4 ∧ s.podState 2 ≠ 0) ∧
    (∃ (s : State) (p cause : Nat), (s.podState p = 4 ∨ s.podState p = 0)) :=
  ⟨⟨0, 2, 221183, 0, pod 2 7, by decide⟩,
   ⟨0, 2, 221183, 1, pod 2 7, by decide⟩,
   ⟨0, 2, 221183, 2, pod 2 7, by decide⟩,
   ⟨0, 2, (pod 2 1).setF (POD_SCRUB_NEXT 2) 221182, by decide⟩,
   ⟨0, 2, (pod 2 1).setF (POD_SCRUB_NEXT 2) 221183, by decide⟩,
   ⟨pod 1 1, 1, 1, by decide⟩,
   ⟨pod 2 1, 1, by decide⟩,
   ⟨pod 2 4, 2, 1, by decide⟩⟩

/-- What `Obligations.DebugOperations` assumes is met. -/
theorem witness_debug_operations :
    (∃ (t sel : Nat) (s : State), sel < 4) ∧
    (∃ (t x y : Nat) (s : State), let a := s.at t; a.dbgSel = 0) ∧
    (∃ (t x y : Nat) (s : State), let a := s.at t; a.dbgSel = 0 ∧ x < 4) ∧
    (∃ (t op : Nat) (s : State), 10 ≤ op ∧ op < 16) ∧
    (∃ (t p : Nat) (s : State), let a := s.at t; p < 3 ∧ a.dbgSel = p + 1 ∧ a.podState p = 1 ∧ bitN (a.getF (POD_STAT_RETIRED p)) 0 = false) ∧
    (∃ (t p i : Nat) (s : State), p < 3 ∧ i < 4) ∧
    (∃ (s : State) (p : Nat), p < 3 ∧ s.podState p = 1 ∧ (s.podOf p).haltReq = true) ∧
    (∃ (t p x y : Nat) (s : State), let a := s.at t; p < 3 ∧ a.dbgSel = p + 1 ∧ a.podState p = 5 ∧ bitN (a.getF (POD_STAT_RETIRED p)) 0 = false) ∧
    (∃ (t p x y : Nat) (s : State), let a := s.at t; p < 3 ∧ a.dbgSel = p + 1 ∧ a.podState p = 5 ∧ bitN (a.getF (POD_STAT_RETIRED p)) 0 = false ∧ p < 2) ∧
    (∃ (t p x y : Nat) (s : State), let a := s.at t; p < 3 ∧ a.dbgSel = p + 1 ∧ a.podState p = 5 ∧ bitN (a.getF (POD_STAT_RETIRED p)) 0 = false ∧ x < podWords p) ∧
    (∃ (t p x y : Nat) (s : State), let a := s.at t; p < 3 ∧ a.dbgSel = p + 1 ∧ a.podState p = 5 ∧ bitN (a.getF (POD_STAT_RETIRED p)) 0 = false ∧ podWords p ≤ x) ∧
    (∃ (t p x y : Nat) (s : State), let a := s.at t; p < 3 ∧ a.dbgSel = p + 1 ∧ a.podState p = 5 ∧ bitN (a.getF (POD_STAT_RETIRED p)) 0 = false ∧ podRom p ≤ x ∧ x < podWords p) ∧
    (∃ (t p x y : Nat) (s : State), let a := s.at t; p < 3 ∧ a.dbgSel = p + 1 ∧ a.podState p = 5 ∧ bitN (a.getF (POD_STAT_RETIRED p)) 0 = false ∧ (x < podRom p ∨ podWords p ≤ x)) ∧
    (∃ (t p x y : Nat) (s : State), let a := s.at t; p < 3 ∧ a.dbgSel = p + 1 ∧ a.podState p = 5 ∧ bitN (a.getF (POD_STAT_RETIRED p)) 0 = false ∧ 32 ≤ a.pod.dbg.log.length) ∧
    (∃ (t p x y : Nat) (s : State), let a := s.at t; p < 3 ∧ a.dbgSel = p + 1 ∧ a.podState p = 5 ∧ bitN (a.getF (POD_STAT_RETIRED p)) 0 = false ∧ a.pod.dbg.log.length < 32) ∧
    (∃ (t p x y : Nat) (s : State), let a := s.at t; p < 3 ∧ a.dbgSel = p + 1 ∧ a.podState p = 5 ∧ bitN (a.getF (POD_STAT_RETIRED p)) 0 = false ∧ a.pod.dbg.log.length < 32 ∧ x < 4) :=
  ⟨⟨0, 3, live .run, by decide⟩,
   ⟨0, 0, 0, live .run, by decide⟩,
   ⟨0, 3, 0, live .run, by decide⟩,
   ⟨0, 15, live .run, by decide⟩,
   ⟨0, 2, dbg 2 1, by decide⟩,
   ⟨0, 2, 3, dbg 2 1, by decide⟩,
   ⟨{ pod 2 1 with pod := { (live .run).pod with pods := List.replicate 3 { resetPod with haltReq := true } } }, 2, by decide⟩,
   ⟨0, 2, 0, 0, (dbg 2 5), by decide⟩,
   ⟨0, 1, 0, 0, dbg 1 5, by decide⟩,
   ⟨0, 2, 221183, 0, (dbg 2 5), by decide⟩,
   ⟨0, 2, 221184, 0, (dbg 2 5), by decide⟩,
   ⟨0, 1, 49152, 0, dbg 1 5, by decide⟩,
   ⟨0, 1, 49151, 0, dbg 1 5, by decide⟩,
   ⟨0, 2, 0, 0, { dbg 2 5 with pod := { (dbg 2 5).pod with dbg := { (dbg 2 5).pod.dbg with log := List.replicate 32 (.clrBp 0) } } }, by decide⟩,
   ⟨0, 2, 0, 0, { dbg 2 5 with pod := { (dbg 2 5).pod with dbg := { (dbg 2 5).pod.dbg with log := List.replicate 31 (.clrBp 0) } } }, by decide⟩,
   ⟨0, 2, 3, 0, { dbg 2 5 with pod := { (dbg 2 5).pod with dbg := { (dbg 2 5).pod.dbg with log := List.replicate 31 (.clrBp 0) } } }, by decide⟩⟩

/-- What `Obligations.BoardAndTap` assumes is met. -/
theorem witness_board_and_tap :
    (∃ (t rail mv : Nat) (s : State), let a := s.at t; rail < 5 ∧ a.sys.por = false ∧ a.sys.excursions.contains rail = false ∧ nearNom rail mv 30 = false ∧ nearNom rail mv 60 = true) ∧
    (∃ (t rail mv : Nat) (s : State), let a := s.at t; rail < 5 ∧ a.sys.por = false ∧ (rail ∈ a.sys.excursions ∨ nearNom rail mv 30 = true ∨ nearNom rail mv 60 = false)) ∧
    (∃ (t : Nat) (dC : Int) (s : State), let a := s.at t; a.sys.por = false ∧ 8 ∉ a.sys.excursions ∧ gradeLimit - 100 ≤ dC) ∧
    (∃ (t : Nat) (dC : Int) (s : State), let a := s.at t; a.sys.por = false ∧ (8 ∈ a.sys.excursions ∨ dC < gradeLimit - 100)) ∧
    (∃ v : Int, v ≤ gradeLimit - 150) ∧
    (∃ (t : Nat) (s : State), ∃ i mv, i < 5 ∧ nearNom i mv 25 = true) ∧
    (∃ (t locks k : Nat) (mvs : List Nat) (tj : Int) (s : State), let a := s.at t; locks < 32 ∧ k < 5 ∧ a.sys.por = false ∧ a.sys.refPresent = true ∧ (∀ m, a.sys.monAt = some m → m + 250000 ≤ a.now)) ∧
    (∃ (t test : Nat) (s : State), let a := s.at t; test < 2 ∧ a.sys.por = false) ∧
    (∃ (t : Nat) (s : State), let a := s.at t; (a.sys.held = true ∧ a.mode = .boot)) ∧
    (∃ (t : Nat) (s : State), let a := s.at t; (a.sys.held = false ∨ a.mode ≠ .boot)) ∧
    (∃ (c : Nat), 4 < c ∧ (c < 0x20 ∨ 0x23 < c)) ∧
    (∃ (s : State), s.sys.held = true ∧ s.mode = .boot ∧ (s.sys.tap = .extest ∨ s.sys.tap = .clamp)) ∧
    (∃ (s : State), s.sys.held = true ∧ s.mode = .boot ∧ s.sys.tap = .highz) ∧
    (∃ (s : State), (s.sys.held = false ∨ s.mode ≠ .boot)) :=
  ⟨⟨0, 0, railNom 0 + railNom 0 * 4 / 100, live .run, by decide⟩,
   ⟨0, 0, railNom 0, live .run, by decide⟩,
   ⟨0, gradeLimit - 100, live .run, ⟨rfl, by decide, Int.le_refl _⟩⟩,
   ⟨0, gradeLimit - 101, live .run, ⟨rfl, Or.inr (Int.sub_lt_sub_left (by decide) _)⟩⟩,
   ⟨gradeLimit - 150, Int.le_refl _⟩,
   ⟨0, live .run, 4, railNom 4, by decide⟩,
   ⟨0, 31, 4, [], 0, live .run, by decide⟩,
   ⟨0, 1, live .run, by decide⟩,
   ⟨0, { live .boot with sys := { (live .boot).sys with held := true } }, by decide⟩,
   ⟨0, live .run, by decide⟩,
   ⟨5, by decide⟩,
   ⟨{ live .boot with sys := { (live .boot).sys with held := true, tap := .extest } }, by decide⟩,
   ⟨{ live .boot with sys := { (live .boot).sys with held := true, tap := .highz } }, by decide⟩,
   ⟨{ live .boot with sys := { (live .boot).sys with held := true, tap := .extest } } |> fun s => { s with mode := .run }, by decide⟩⟩

/-- What `Obligations.ScansStart` assumes is met. -/
theorem witness_scans_start :
    (∃ (t k : Nat) (s : State), let a := s.at t; k < 2 ∧ a.protecting = true ∧ (a.prog k).img.free = false ∧ a.progRuns k = true ∧ a.hasProg k = true ∧ (k = 0 → a.getF LGC_MODE_MODE = 1) ∧ a.onGrid (a.prog k) = false) ∧
    (∃ (t k : Nat) (s : State), let a := s.at t; k < 2 ∧ a.protecting = true ∧ (a.prog k).img.free = false ∧ a.progRuns k = true ∧ a.hasProg k = true ∧ (k = 0 → a.getF LGC_MODE_MODE = 1) ∧ a.onGrid (a.prog k) = true ∧ (a.prog k).scan = none ∧ (k = 0 → a.lgc.joinSkip = false ∧ (a.lgc.joinFrom = none ∨ a.lgc.joinDone = true))) ∧
    (∃ (t k : Nat) (s : State), ∃ sc, let a := s.at t; k < 2 ∧ a.protecting = true ∧ (a.prog k).img.free = false ∧ a.progRuns k = true ∧ a.hasProg k = true ∧ (k = 0 → a.getF LGC_MODE_MODE = 1) ∧ a.onGrid (a.prog k) = true ∧ k = 0 ∧ (a.prog k).scan = some sc ∧ sc.held = false) ∧
    (∃ (s : State) (p : ProgSt), p.grid = none) ∧
    (∃ (s : State) (p : ProgSt), ∃ (g : Nat), p.grid = some g) ∧
    (∃ (t k : Nat) (s : State), let a := s.at t; k < 2 ∧ a.protecting = true ∧ (a.prog k).img.free = true ∧ a.progRuns k = true ∧ a.hasProg k = true ∧ (k = 0 → a.getF LGC_MODE_MODE = 1 ∧ (a.lgc.joinFrom = none ∨ a.lgc.joinDone = true)) ∧ (a.prog k).scan = none ∧ ((a.prog k).first ≠ 0 ∨ (a.prog k).lastWrite + usU ≤ a.now ∨ k = 0 ∧ a.lgc.joinDone = true)) ∧
    (∃ (t : Nat) (s : State), let a := s.at t; a.getF LGC_MODE_MODE = 1 ∧ a.lgc.holdReq = true) ∧
    (∃ (t k f : Nat) (s : State), let a := s.at t; k < 2 ∧ a.sys.refPresent = true ∧ (a.prog k).firstLatch = some f ∧ f + (a.prog k).img.initWait * msU ≤ a.now) ∧
    (∃ (t brk : Nat) (sc : Scan) (c : Call) (s : State), let a := s.at t; let x := a.callCtx (a.prog 0) sc c; brk < 32 ∧ a.bkrScan = some sc ∧ (instCalls (a.prog 0).calls).find? (fun c => c.type = 0x3F && callConst (a.prog 0).img c 0 = brk) = some c ∧ (bkrOf x).st = 3) ∧
    (∃ (t brk : Nat) (sc : Scan) (c : Call) (s : State), let a := s.at t; let x := a.callCtx (a.prog 0) sc c; brk < 32 ∧ a.bkrScan = some sc ∧ (instCalls (a.prog 0).calls).find? (fun c => c.type = 0x3F && callConst (a.prog 0).img c 0 = brk) = some c ∧ (bkrOf x).st = 4) ∧
    (∃ (t brk : Nat) (sc : Scan) (c : Call) (s : State), let a := s.at t; let x := a.callCtx (a.prog 0) sc c; brk < 32 ∧ a.bkrScan = some sc ∧ (instCalls (a.prog 0).calls).find? (fun c => c.type = 0x3F && callConst (a.prog 0).img c 0 = brk) = some c ∧ ((bkrOf x).st = 1 ∨ (bkrOf x).st = 2) ∧ (∀ q ∈ sc.img.reqs, q.brk ≠ brk)) ∧
    (∃ (t brk : Nat) (sc : Scan) (c : Call) (s : State), let a := s.at t; let x := a.callCtx (a.prog 0) sc c; brk < 32 ∧ a.bkrScan = some sc ∧ (instCalls (a.prog 0).calls).find? (fun c => c.type = 0x3F && callConst (a.prog 0).img c 0 = brk) = some c ∧ ((bkrOf x).st = 1 ∨ (bkrOf x).st = 2) ∧ (∃ q ∈ sc.img.reqs, q.brk = brk)) ∧
    (∃ (s : State) (sc : Scan), (s.prog 0).scan = some sc ∧ s.progRuns 0 = true ∧ s.holding 0 = false) ∧
    (∃ (s : State), (s.prog 0).scan = none ∧ s.getF LGC_MODE_MODE = 0 ∧ s.podRuns 2 = true) :=
  ⟨⟨0, 1, progs (lgc 0 [] resetBlk none) (fun p => { p with grid := some 0 }), by decide⟩,
   ⟨0, 1, lgc 0 [] resetBlk none, by decide⟩,
   ⟨0, 0, lgc 0 [] resetBlk (some (scan1 none)), scan1 none, by decide⟩,
   ⟨live .run, resetProg, by decide⟩,
   ⟨live .run, { resetProg with grid := some 7 }, 7, by decide⟩,
   ⟨0, 1, progs (lgc 0 [] resetBlk none) (fun p => { p with img := { resetImg with free := true } }) |> fun s => progs s (fun p => { p with first := 1 }), by decide⟩,
   ⟨0, { lgc 0 [] resetBlk none with lgc := { resetLgc with holdReq := true } }, by decide⟩,
   ⟨0, 1, 0, { progs (lgc 0 [] resetBlk none) (fun p => { p with firstLatch := some 0 }) with now := 2000 * msU }, by decide +kernel⟩,
   ⟨0, 31, scan1 none, ⟨0x3F, 0, 0, false, false, [.const 0, .none, .none, .none, .none, .none]⟩, progs (lgc 0x3F [.const 0, .none, .none, .none, .none, .none] { resetBlk with st := 3 } (some (scan1 none))) (fun p => { p with img := { p.img with code := [(0, 31)] } }), ⟨by decide, rfl, rfl, by decide⟩⟩,
   ⟨0, 31, scan1 none, ⟨0x3F, 0, 0, false, false, [.const 0, .none, .none, .none, .none, .none]⟩, progs (lgc 0x3F [.const 0, .none, .none, .none, .none, .none] { resetBlk with st := 4 } (some (scan1 none))) (fun p => { p with img := { p.img with code := [(0, 31)] } }), ⟨by decide, rfl, rfl, by decide⟩⟩,
   ⟨0, 31, scan1 none, ⟨0x3F, 0, 0, false, false, [.const 0, .none, .none, .none, .none, .none]⟩, progs (lgc 0x3F [.const 0, .none, .none, .none, .none, .none] { resetBlk with st := 2 } (some (scan1 none))) (fun p => { p with img := { p.img with code := [(0, 31)] } }), ⟨by decide, rfl, rfl, by decide, by decide⟩⟩,
   ⟨0, 31, { scan1 none with img := { img1 with reqs := [⟨31, 0, 0, 0⟩] } }, ⟨0x3F, 0, 0, false, false, [.const 0, .none, .none, .none, .none, .none]⟩, progs (lgc 0x3F [.const 0, .none, .none, .none, .none, .none] { resetBlk with st := 2 } (some ({ scan1 none with img := { img1 with reqs := [⟨31, 0, 0, 0⟩] } }))) (fun p => { p with img := { p.img with code := [(0, 31)] } }), ⟨by decide, rfl, rfl, by decide, by decide⟩⟩,
   ⟨lgc 0 [] resetBlk (some (scan1 none)), scan1 none, ⟨rfl, by decide, rfl⟩⟩,
   ⟨pod 2 1, by decide⟩⟩

/-- What `Obligations.ScansEndAndPrograms` assumes is met. -/
theorem witness_scans_end_and_programs :
    (∃ (t : Nat) (sc : Scan) (s : State), let a := s.at t; (a.prog 1).scan = some sc ∧ a.progRuns 1 = true ∧ sc.pc = none) ∧
    (∃ (t : Nat) (sc : Scan) (s : State), let a := s.at t; (a.prog 0).scan = some sc ∧ a.progRuns 0 = true ∧ sc.pc = none ∧ a.lgc.holdReq = false) ∧
    (∃ (t k : Nat) (s : State), let a := s.at t; k < 2 ∧ ((a.prog k).scan = none ∨ a.progRuns k = false ∨ k = 0 ∧ a.lgc.holdReq = true)) ∧
    (∃ (t cycles f : Nat) (s : State), let a := s.at t; a.lgc.joinFrom = some f ∧ a.lgc.joinDone = false ∧ a.getF LGC_MODE_MODE ≠ 0) ∧
    (∃ s : State, s.lgc.joinDone = true) ∧
    (∃ (t : Nat) (c : RetainCopy) (s : State), let a := s.at t; a.lgc.commit = some c ∧ a.sys.refPresent = true) ∧
    (∃ (t : Nat) (res : ExchLoad) (s : State), let a := s.at t; a.getF LGC_XSTAT_XSTATE = 1 ∧ a.sys.refPresent = true ∧ a.exchStatus res = .ok ∧ a.getF LGC_MODE_MODE ≠ 0) ∧
    (∃ (t : Nat) (res : ExchLoad) (s : State), let a := s.at t; a.getF LGC_XSTAT_XSTATE = 1 ∧ a.sys.refPresent = true ∧ a.exchStatus res ≠ .ok ∧ a.lgc.exchReq = none) :=
  ⟨⟨0, scan1 none, lgc 0 [] resetBlk (some (scan1 none)), by decide⟩,
   ⟨0, scan1 none, lgc 0 [] resetBlk (some (scan1 none)), by decide⟩,
   ⟨0, 1, lgc 0 [] resetBlk none, by decide⟩,
   ⟨0, 0, 0, { lgc 0 [] resetBlk none with lgc := { resetLgc with joinFrom := some 0 } }, by decide⟩,
   ⟨{ live .run with lgc := { resetLgc with joinDone := true } }, by decide⟩,
   ⟨0, ⟨true, 0, [], [], []⟩, { live .run with lgc := { resetLgc with commit := some ⟨true, 0, [], [], []⟩ } }, by decide⟩,
   ⟨0, ⟨true, false, resetImg, resetImg, 0, 0, 0⟩, (lgc 0 [] resetBlk none).setF LGC_XSTAT_XSTATE 1, by decide⟩,
   ⟨0, ⟨false, false, resetImg, resetImg, 0, 0, 0⟩, (lgc 0 [] resetBlk none).setF LGC_XSTAT_XSTATE 1, by decide⟩⟩

/-- What `Obligations.CallEnds` assumes is met. -/
theorem witness_call_ends :
    (∃ (s : State) (k : Nat) (c : CallCtx) (outs : List Nat) (x : BlkInt) (sc : Scan), (s.prog k).scan = some sc ∧ k < s.lgc.progs.length) ∧
    (∃ (s : State) (k : Nat) (c : CallCtx) (outs : List Nat) (x : BlkInt) (sc : Scan), ∃ (i : Nat), (s.prog k).scan = some sc ∧ k < s.lgc.progs.length ∧ i ≠ c.call.inst) ∧
    (∃ (s : State) (k : Nat) (c : CallCtx) (outs : List Nat) (x : BlkInt) (sc : Scan), ∃ (j : Nat), (s.prog k).scan = some sc ∧ k < s.lgc.progs.length ∧ j ≠ k) ∧
    (∃ (t k : Nat) (c : CallCtx) (sc : Scan) (s : State), let a := s.at t; k < 2 ∧ a.progRuns k = true ∧ a.holding k = false ∧ a.nextCall k = some c ∧ c.call.type = 0 ∧ (a.prog k).scan = some sc) ∧
    (∃ (s : State) (k n x y : Nat) (sc : Scan), (s.prog k).scan = some sc ∧ k < s.lgc.progs.length) ∧
    (∃ (m : Store Nat) (a n v : Nat), v < 256 ^ n) ∧
    (∃ (m : Store Nat) (a n v b : Nat), (b < a ∨ a + n ≤ b)) :=
  ⟨⟨live .run |> fun s => progs s (fun p => { p with scan := some (scan1 none) }), 1, (lgc 0 [] resetBlk none).callCtx resetProg (scan1 none) ⟨0, 0, 0, false, false, []⟩, [], resetBlk, scan1 none, by decide⟩,
   ⟨live .run |> fun s => progs s (fun p => { p with scan := some (scan1 none) }), 1, (lgc 0 [] resetBlk none).callCtx resetProg (scan1 none) ⟨0, 0, 0, false, false, []⟩, [], resetBlk, scan1 none, 1, by decide⟩,
   ⟨live .run |> fun s => progs s (fun p => { p with scan := some (scan1 none) }), 1, (lgc 0 [] resetBlk none).callCtx resetProg (scan1 none) ⟨0, 0, 0, false, false, []⟩, [], resetBlk, scan1 none, 0, by decide⟩,
   ⟨0, 1, _, scan1 (some 0), lgc 0 [] (resetBlk) (some (scan1 (some 0))), ⟨by decide, rfl, rfl, rfl, rfl, rfl⟩⟩,
   ⟨live .run |> fun s => progs s (fun p => { p with scan := some (scan1 none) }), 1, 67, 0, 0, scan1 none, by decide⟩,
   ⟨[], 0, 4, 0xFFFFFFFF, by decide⟩,
   ⟨[], 4, 4, 0, 8, by decide⟩⟩

/-- What `Obligations.TimersAndCounters` assumes is met. -/
theorem witness_timers_and_counters :
    (∃ (t k : Nat) (c : CallCtx) (s : State), let a := s.at t; k < 2 ∧ a.progRuns k = true ∧ a.holding k = false ∧ a.nextCall k = some c ∧ c.call.type = 0x40) :=
  ⟨0, 1, _, lgc 0x40 [] (resetBlk) (some (scan1 (some 0))), ⟨by decide, rfl, rfl, rfl, rfl⟩⟩

/-- What `Obligations.NumberBlocks` assumes is met. -/
theorem witness_number_blocks :
    (∃ b : Nat, fExp b ≠ 255 ∧ fExp b ≠ 0) ∧
    (∃ b : Nat, fNan b = true) ∧
    (∃ a b : Nat, (fNan a = true ∨ fNan b = true)) ∧
    (∃ v : Int, -2147483648 ≤ v ∧ v ≤ 2147483647) ∧
    (∃ v : Int, 2147483647 < v) ∧
    (∃ v : Int, v < -2147483648) :=
  ⟨⟨0x3F800000, by decide⟩,
   ⟨0x7FC00000, by decide⟩,
   ⟨0x3F800000, 0x7FC00000, by decide⟩,
   ⟨-2147483648, by decide⟩,
   ⟨2147483648, by decide⟩,
   ⟨-2147483649, by decide⟩⟩

/-- What `Obligations.SystemBlocks` assumes is met. -/
theorem witness_system_blocks :
    (∃ (t k : Nat) (c : CallCtx) (s : State), let a := s.at t; k < 2 ∧ a.progRuns k = true ∧ a.holding k = false ∧ a.nextCall k = some c ∧ c.call.type = 0x3B) ∧
    (∃ (t k : Nat) (c : CallCtx) (s : State), let a := s.at t; k < 2 ∧ a.progRuns k = true ∧ a.holding k = false ∧ a.nextCall k = some c ∧ c.call.type = 0x3C) ∧
    (∃ (t k : Nat) (c : CallCtx) (s : State), let a := s.at t; k < 2 ∧ a.progRuns k = true ∧ a.holding k = false ∧ a.nextCall k = some c ∧ c.call.type = 0x3D) ∧
    (∃ (t k : Nat) (c : CallCtx) (s : State), let a := s.at t; k < 2 ∧ a.progRuns k = true ∧ a.holding k = false ∧ a.nextCall k = some c ∧ c.call.type = 0x42) ∧
    (∃ (t k : Nat) (c : CallCtx) (s : State), let a := s.at t; k < 2 ∧ a.progRuns k = true ∧ a.holding k = false ∧ a.nextCall k = some c ∧ c.call.type = 0x43) ∧
    (∃ (t k : Nat) (c : CallCtx) (s : State), let a := s.at t; k < 2 ∧ a.progRuns k = true ∧ a.holding k = false ∧ a.nextCall k = some c ∧ c.call.type = 0x44) ∧
    (∃ (t k : Nat) (c : CallCtx) (s : State), let a := s.at t; k < 2 ∧ a.progRuns k = true ∧ a.holding k = false ∧ a.nextCall k = some c ∧ c.call.type = 0x45) ∧
    (∃ (t k : Nat) (c : CallCtx) (s : State), let a := s.at t; k < 2 ∧ a.progRuns k = true ∧ a.holding k = false ∧ a.nextCall k = some c ∧ c.call.type = 0x46 ∧ c.b 1 = true ∧ c.x.m1 = false) ∧
    (∃ (t k : Nat) (c : CallCtx) (s : State), let a := s.at t; k < 2 ∧ a.progRuns k = true ∧ a.holding k = false ∧ a.nextCall k = some c ∧ c.call.type = 0x46 ∧ (c.b 1 = false ∨ c.x.m1 = true)) ∧
    (∃ (t k : Nat) (c : CallCtx) (s : State), let a := s.at t; k < 2 ∧ a.progRuns k = true ∧ a.holding k = false ∧ a.nextCall k = some c ∧ c.call.type = 0x3F ∧ c.img.reqs.filter (fun r => r.brk = c.i 0) = [] ∧ (c.b 5 = false ∨ c.x.m1 = true) ∧ (bkrTime (bkrClock c) (c.t 1) (c.t 2) (c.n 4) (bkrOf c)).2 = false) ∧
    (∃ (now : Int) (ilk : Bool) (b : BkrX), b.st = 0) ∧
    (∃ (now : Int) (ilk : Bool) (b : BkrX), b.st = 1 ∧ now - b.tsel ≤ 30000000000) ∧
    (∃ (now : Int) (ilk split : Bool) (b : BkrX), (b.st = 1 ∨ b.st = 2) ∧ 30000000000 < now - b.tsel) :=
  ⟨⟨0, 1, _, lgc 0x3B [] (resetBlk) (some (scan1 (some 0))), ⟨by decide, rfl, rfl, rfl, rfl⟩⟩,
   ⟨0, 1, _, lgc 0x3C [] (resetBlk) (some (scan1 (some 0))), ⟨by decide, rfl, rfl, rfl, rfl⟩⟩,
   ⟨0, 1, _, lgc 0x3D [] (resetBlk) (some (scan1 (some 0))), ⟨by decide, rfl, rfl, rfl, rfl⟩⟩,
   ⟨0, 1, _, lgc 0x42 [] (resetBlk) (some (scan1 (some 0))), ⟨by decide, rfl, rfl, rfl, rfl⟩⟩,
   ⟨0, 1, _, lgc 0x43 [] (resetBlk) (some (scan1 (some 0))), ⟨by decide, rfl, rfl, rfl, rfl⟩⟩,
   ⟨0, 1, _, lgc 0x44 [] (resetBlk) (some (scan1 (some 0))), ⟨by decide, rfl, rfl, rfl, rfl⟩⟩,
   ⟨0, 1, _, lgc 0x45 [] (resetBlk) (some (scan1 (some 0))), ⟨by decide, rfl, rfl, rfl, rfl⟩⟩,
   ⟨0, 1, _, lgc 0x46 [.none, .bin 0 false false, .none, .none, .none] (resetBlk) (some (scan1 (some 0))), ⟨by decide, rfl, rfl, rfl, rfl, by decide, by decide⟩⟩,
   ⟨0, 1, _, lgc 0x46 [] (resetBlk) (some (scan1 (some 0))), ⟨by decide, rfl, rfl, rfl, rfl, by decide⟩⟩,
   ⟨0, 1, _, lgc 0x3F [] (resetBlk) (some (scan1 (some 0))), ⟨by decide, rfl, rfl, rfl, rfl, by decide, by decide, by decide⟩⟩,
   ⟨0, true, ⟨0, 0, 0, 0, 0, 0⟩, by decide⟩,
   ⟨30000000000, true, ⟨1, 0, 0, 0, 0, 0⟩, by decide⟩,
   ⟨30000000001, true, true, ⟨2, 0, 0, 0, 0, 0⟩, by decide⟩⟩

/-- What `Obligations.ServoUpdates` assumes is met. -/
theorem witness_servo_updates :
    (∃ (s : State) (b q : Nat) (o : Int), b < 4 ∧ s.tim.bases.length = 4 ∧ s.tbState b = 0 ∧ s.flag (TIM_CFG_AUTO_FIRST b) = true) ∧
    (∃ (s : State) (b q : Nat) (o : Int), b < 4 ∧ s.tim.bases.length = 4 ∧ (s.tbState b ≠ 0 ∨ s.flag (TIM_CFG_AUTO_FIRST b) = false) ∧ s.carryHeld b = true) ∧
    (∃ (s : State) (b q : Nat) (o : Int), b < 4 ∧ s.tim.bases.length = 4 ∧ (s.tbState b ≠ 0 ∨ s.flag (TIM_CFG_AUTO_FIRST b) = false) ∧ s.carryHeld b = false ∧ s.jumps b o = true) ∧
    (∃ (s : State) (b q : Nat) (o : Int), b < 4 ∧ s.tim.bases.length = 4 ∧ (s.tbState b ≠ 0 ∨ s.flag (TIM_CFG_AUTO_FIRST b) = false) ∧ s.carryHeld b = false ∧ s.jumps b o = false ∧ s.tbState b = 4 ∧ (s.tb b).within < 15) ∧
    (∃ (s : State) (b q : Nat) (o : Int), b < 4 ∧ s.tim.bases.length = 4 ∧ (s.tbState b ≠ 0 ∨ s.flag (TIM_CFG_AUTO_FIRST b) = false) ∧ s.carryHeld b = false ∧ s.jumps b o = false ∧ s.tbState b = 4 ∧ 15 ≤ (s.tb b).within) ∧
    (∃ (s : State) (b q : Nat) (o : Int), b < 4 ∧ s.tim.bases.length = 4 ∧ (s.tbState b ≠ 0 ∨ s.flag (TIM_CFG_AUTO_FIRST b) = false) ∧ s.carryHeld b = false ∧ s.jumps b o = false ∧ (s.tbState b = 1 ∨ s.tbState b = 2)) ∧
    (∃ (s : State) (b q : Nat) (o : Int), b < 4 ∧ s.tim.bases.length = 4 ∧ (s.tbState b ≠ 0 ∨ s.flag (TIM_CFG_AUTO_FIRST b) = false) ∧ s.carryHeld b = false ∧ s.jumps b o = false ∧ (s.tbState b = 0 ∨ s.tbState b = 3)) ∧
    (∃ (s : State) (b q : Nat) (o : Int), b < 4 ∧ s.tim.bases.length = 4) ∧
    (∃ (s : State) (b q : Nat) (o : Int), b < 4 ∧ s.tim.bases.length = 4 ∧ s.tbState b ≠ 4) ∧
    (∃ (s : State) (b q : Nat) (o : Int), b < 4 ∧ s.tim.bases.length = 4 ∧ s.tbState b = 4) ∧
    (∃ (s : State) (b q : Nat) (o : Int), b < 4 ∧ s.tim.bases.length = 4 ∧ s.tbState b = 1 ∧ absN o ≤ s.lockThr b ∧ 15 ≤ (s.tb b).inLock) ∧
    (∃ (s : State) (b q : Nat) (o : Int), b < 4 ∧ s.tim.bases.length = 4 ∧ s.tbState b = 2 ∧ s.lockThr b < absN o ∧ 3 ≤ (s.tb b).outLock) ∧
    (∃ (s : State) (b q : Nat) (o : Int), b < 4 ∧ s.tim.bases.length = 4 ∧ s.tbState b = 2 ∧ absN o ≤ s.lockThr b) :=
  ⟨⟨(base 3 0 1 (fun x => x)).setFlag (TIM_CFG_AUTO_FIRST 3) true, 3, 0, 0, by decide⟩,
   ⟨{ (base 0 1 1 (fun x => x)).setFlag TIM_SAMP_COMPAT true with tim := { (base 0 1 1 (fun x => x)).tim with carry := 5 } }, 0, 0, 0, by decide⟩,
   ⟨((base 3 1 1 (fun x => x)).setF (TIM_THR_STEP_THR 3) 1000), 3, 0, 65536001, by decide⟩,
   ⟨((base 3 4 1 (fun x => x)).setF (TIM_THR_STEP_THR 3) 1000), 3, 0, 65536000, by decide⟩,
   ⟨((base 3 4 1 (fun x => { x with within := 15 })).setF (TIM_THR_STEP_THR 3) 1000), 3, 0, 65536000, by decide⟩,
   ⟨((base 3 2 1 (fun x => x)).setF (TIM_THR_STEP_THR 3) 1000), 3, 0, 65536000, by decide⟩,
   ⟨base 3 3 1 (fun x => x), 3, 0, 0, by decide⟩,
   ⟨base 3 0 1 (fun x => x), 3, 0, 0, by decide⟩,
   ⟨base 3 0 1 (fun x => x), 3, 0, 0, by decide⟩,
   ⟨base 3 4 4 (fun x => x), 3, 0, 1, by decide⟩,
   ⟨base 3 1 1 (fun x => { x with inLock := 15 }), 3, 0, 0, by decide⟩,
   ⟨(base 3 2 1 (fun x => { x with outLock := 3 })).setF (TIM_SERVO_LOCK_THR 3) 1, 3, 0, 655361, by decide⟩,
   ⟨(base 3 2 1 (fun x => x)).setF (TIM_SERVO_LOCK_THR 3) 1, 3, 0, 655360, by decide⟩⟩

/-- What `Obligations.LossesAndSteps` assumes is met. -/
theorem witness_losses_and_steps :
    (∃ (s : State) (b : Nat), b < 4 ∧ s.flag (TIM_STAT_SRC_OK b) = true) ∧
    (∃ (s : State) (b : Nat), b < 4 ∧ s.flag (TIM_STAT_SRC_OK b) = true ∧ s.tbState b ≠ 0 ∧ s.carryHeld b = false ∧ s.flag TIM_SAMP_COMPAT = false) ∧
    (∃ (s : State) (b : Nat), b < 4 ∧ s.flag (TIM_STAT_SRC_OK b) = true ∧ s.tbState b ≠ 3) ∧
    (∃ (s : State) (b : Nat), s.flag (TIM_STAT_SRC_OK b) = false) ∧
    (∃ (t b : Nat) (s : State), let a := s.at t; let x := a.tb b; let port := if a.getF NET_MODE_MODE = 0 then a.getF (TIM_CFG_PORTSEL b) else x.gmPort; let late (p : Nat) := (syncSeen x p).getD x.gmAt + 3 * intervalU x.syncIv ≤ a.now; b < 4 ∧ a.timeOn = true ∧ a.tbSrc b = 1 ∧ x.gm.isSome = true ∧ ¬ late port) ∧
    (∃ (t b : Nat) (s : State), let a := s.at t; let x := a.tb b; let port := if a.getF NET_MODE_MODE = 0 then a.getF (TIM_CFG_PORTSEL b) else x.gmPort; let late (p : Nat) := (syncSeen x p).getD x.gmAt + 3 * intervalU x.syncIv ≤ a.now; b < 4 ∧ a.timeOn = true ∧ a.tbSrc b = 1 ∧ x.gm.isSome = true ∧ late port ∧ (a.getF NET_MODE_MODE = 0 ∨ 2 ≤ port ∨ late (1 - port))) ∧
    (∃ (t b : Nat) (s : State), let a := s.at t; let x := a.tb b; let port := if a.getF NET_MODE_MODE = 0 then a.getF (TIM_CFG_PORTSEL b) else x.gmPort; let late (p : Nat) := (syncSeen x p).getD x.gmAt + 3 * intervalU x.syncIv ≤ a.now; b < 4 ∧ a.timeOn = true ∧ a.tbSrc b = 1 ∧ x.gm.isSome = true ∧ late port ∧ a.getF NET_MODE_MODE ≠ 0 ∧ port < 2 ∧ ¬ late (1 - port)) ∧
    (∃ (t b : Nat) (f : ForeignMaster) (s : State), let a := s.at t; let x := a.tb b; b < 4 ∧ a.timeOn = true ∧ a.tbSrc b = 1 ∧ x.foreign.find? (fun f => some f.msg.gm = x.gm) = some f) ∧
    (∃ (t : Nat) (s : State), let a := s.at t; a.timeOn = true) ∧
    (∃ (t b : Nat) (s : State), ∃ (d : Nat), let a := s.at t; b < 4 ∧ a.timeOn = true ∧ a.ana.strobe % 32 = 0 ∧ (a.tb b).setTime = some d) ∧
    (∃ (t b : Nat) (s : State), let a := s.at t; b < 4 ∧ a.timeOn = true ∧ a.ana.strobe % 32 = 0 ∧ (a.tb b).setTime = none ∧ (a.tb b).stepAt.isSome = true) ∧
    (∃ (s : State) (b : Nat) (d : Int), b < 4) ∧
    (∃ (t : Nat) (s : State), let a := s.at t; let c := a.carryAt a.now + (a.tbAt a.sampTb a.now - a.tbAt (1 - a.sampTb) a.now); a.timeOn = true ∧ (∃ n, a.tim.switchDue = some n ∧ n < a.ana.strobe) ∧ a.flag TIM_SAMP_COMPAT = true ∧ absN c ≤ a.stepThr 0) ∧
    (∃ (t : Nat) (s : State), let a := s.at t; let c := a.carryAt a.now + (a.tbAt a.sampTb a.now - a.tbAt (1 - a.sampTb) a.now); let d := { a with tim := { a.tim with switchDue := none } }; let w := (((d.setF TIM_SAMP_ACT (1 - a.sampTb)).setCarry c).putUtc).raise 93 0 (1 - a.sampTb); a.timeOn = true ∧ (∃ n, a.tim.switchDue = some n ∧ n < a.ana.strobe) ∧ a.flag TIM_SAMP_COMPAT = true ∧ w.stepThr 0 < absN c) ∧
    (∃ (t b : Nat) (s : State), let a := s.at t; b < 4 ∧ a.timeOn = true ∧ (a.tbState b = 3 ∨ a.tbState b = 4)) :=
  ⟨⟨(base 3 2 1 (fun x => x)).setFlag (TIM_STAT_SRC_OK 3) true, 3, by decide⟩,
   ⟨(base 3 1 4 (fun x => x)).setFlag (TIM_STAT_SRC_OK 3) true, 3, by decide⟩,
   ⟨(base 3 1 4 (fun x => x)).setFlag (TIM_STAT_SRC_OK 3) true, 3, by decide⟩,
   ⟨base 3 2 1 (fun x => x), 3, by decide⟩,
   ⟨0, 3, (base 3 2 1 (fun x => { x with gm := some 1, syncAt := [(0, 0)] })).setF (TIM_CFG_PORTSEL 3) 0, by decide⟩,
   ⟨0, 3, { (base 3 2 1 (fun x => { x with gm := some 1, syncAt := [(0, 0)] })).setF (TIM_CFG_PORTSEL 3) 0 with now := 3 * secU }, by decide⟩,
   ⟨0, 3, { (base 3 2 1 (fun x => { x with gm := some 1, syncAt := [(0, 0), (1, 3 * secU)] })).setF NET_MODE_MODE 1 with now := 3 * secU }, by decide⟩,
   ⟨0, 3, ⟨ann1, 0, 0, 3⟩, { base 3 2 1 (fun x => { x with gm := some 1, foreign := [⟨ann1, 0, 0, 3⟩] }) with now := 3 * secU }, by decide⟩,
   ⟨0, live .run, by decide⟩,
   ⟨0, 3, base 3 2 1 (fun x => { x with setTime := some 5 }), 5, by decide⟩,
   ⟨0, 3, base 3 2 1 (fun x => { x with stepAt := some 5 }), by decide⟩,
   ⟨live .run, 3, 0, by decide⟩,
   ⟨0, { (live .run).setFlag TIM_SAMP_COMPAT true with tim := { (live .run).tim with switchDue := some 0 }, ana := { (live .run).ana with strobe := 1 } }, by decide⟩,
   ⟨0, { (live .run).setFlag TIM_SAMP_COMPAT true with ana := { (live .run).ana with strobe := 1 }, tim := { (live .run).tim with switchDue := some 0, carry := 2 ^ 60 } }, by decide⟩,
   ⟨0, 3, base 3 3 1 (fun x => x), by decide⟩⟩

/-- What `Obligations.TimeMessages` assumes is met. -/
theorem witness_time_messages :
    (∃ (t p : Nat) (m : SyncMsg) (s : State), let a := s.at t; p < 3 ∧ a.timeOn = true ∧ m.supported = true ∧ -4 ≤ m.interval ∧ m.interval ≤ 1) ∧
    (∃ (s : State) (b p : Nat) (m : SyncMsg), let x := s.tb b; s.tbSrc b = 1 ∧ s.getF (TIM_CFG_DOMAIN b) = m.domain ∧ x.gm = some m.gm ∧ s.ptpPort b p = true ∧ s.getF NET_MODE_MODE = 0 ∧ m.twoStep = false ∧ s.tim.bases.length = 4 ∧ b < 4) ∧
    (∃ (s : State) (b p : Nat) (m : SyncMsg), (s.tbSrc b ≠ 1 ∨ s.getF (TIM_CFG_DOMAIN b) ≠ m.domain ∨ (s.tb b).gm ≠ some m.gm ∨ s.ptpPort b p = false)) ∧
    (∃ (t p : Nat) (m : AnnounceMsg) (s : State), let a := s.at t; p < 3 ∧ a.timeOn = true ∧ m.supported = true ∧ 0 ≤ m.interval ∧ m.interval ≤ 2) ∧
    (∃ (t mark : Nat) (f : IrigFrame) (s : State), let a := s.at t; a.timeOn = true ∧ mark ≤ a.now) ∧
    (∃ (t : Nat) (s : State), let a := s.at t; a.timeOn = true) ∧
    (∃ (s : State) (b : Nat), s.tbState b ≠ 0 ∧ (s.tb b).edgeAt.isSome = true ∧ s.nearSecond b (edgeSample s.now) = false) ∧
    (∃ (s : State) (b v e : Nat), s.nearSecond b (edgeSample s.now) = true ∧ (s.tb b).setSec = none ∧ (s.tb b).srcSec = some v ∧ (s.tb b).edgeAt = some e) ∧
    (∃ (t : Nat) (s : State), let a := s.at t; let r := (a.tbAt (a.getF TIM_PPSO_TB) a.now + a.getI TIM_PPSO_COMP * 65536) % subPerSec; a.timeOn = true ∧ a.ppsoOn = true ∧ a.tim.ppsOut = false ∧ (r ≤ 327680 ∨ subPerSec - 327680 ≤ r)) ∧
    (∃ (t : Nat) (s : State), let a := s.at t; a.tim.ppsOut = true ∧ a.tim.ppsRose + a.getF TIM_PPSO_PW * msU ≤ a.now) ∧
    (∃ (t b : Nat) (s : State), let a := s.at t; b < 4 ∧ a.timeOn = true ∧ a.mayMaster b = true ∧ (∀ w, (a.tb b).txLast = some w → w + secU ≤ a.now)) :=
  ⟨⟨0, 2, ⟨0, 1, 0, 0, 0, 0, false, 0, true⟩, live .run, by decide⟩,
   ⟨(((base 3 1 1 (fun x => { x with gm := some 1 })).setFlag (NET_PCFG_EN 2) true).setF (TIM_CFG_PORTSEL 3) 2).setF (TIM_CFG_DOMAIN 3) 0, 3, 2, ⟨0, 1, 0, 0, 0, 0, false, 0, true⟩, by decide⟩,
   ⟨live .run, 3, 2, ⟨0, 1, 0, 0, 0, 0, false, 0, true⟩, by decide⟩,
   ⟨0, 2, ann1, live .run, by decide⟩,
   ⟨0, 0, ⟨true, [], none, 1, 0, 0, 0, true, 0, false, false, 0, 0⟩, live .run, by decide⟩,
   ⟨0, live .run, by decide⟩,
   ⟨base 3 1 4 (fun x => { x with edgeAt := some 0, ns := 500000000 }), 3, by decide⟩,
   ⟨base 3 1 4 (fun x => { x with edgeAt := some 0, srcSec := some 5 }), 3, 5, 0, by decide⟩,
   ⟨0, (live .run).setFlag TIM_PPSO_EN true |> fun s => s.setFlag TIM_PPSO_PPSO_FREE true, by decide⟩,
   ⟨0, { live .run with tim := { (live .run).tim with ppsOut := true }, now := 10 ^ 20 }, by decide⟩,
   ⟨0, 3, (base 3 2 4 (fun x => x)).setFlag (TIM_CFG_GM_EN 3) true, by decide⟩⟩

/-- What `Obligations.SwitchFrames` assumes is met. -/
theorem witness_switch_frames :
    (∃ (t p : Nat) (n : List Nat) (f : EthFrame) (full : List Bool) (s : State), let a := s.at t; p < 3 ∧ a.switchOn = true ∧ a.flag (NET_PCFG_EN p) = true ∧ f.fcsOk = false) ∧
    (∃ (t p : Nat) (n : List Nat) (f : EthFrame) (full : List Bool) (s : State), let a := s.at t; p < 3 ∧ a.switchOn = true ∧ a.flag (NET_PCFG_EN p) = true ∧ f.fcsOk = true ∧ 1528 < f.len) ∧
    (∃ (t p : Nat) (n : List Nat) (f : EthFrame) (full : List Bool) (s : State), let a := s.at t; p < 3 ∧ a.switchOn = true ∧ a.flag (NET_PCFG_EN p) = true ∧ f.fcsOk = true ∧ f.len ≤ 1528) ∧
    (∃ (s : State) (p : Nat) (f : EthFrame) (res : List Nat) (full : List Bool), let r := s.setPort p { s.port p with lastRx := some s.now }; let w := if r.wrongLan p f = true then r.incSat (if p = 0 then NET_WLAN_WRONGLAN_A else NET_WLAN_WRONGLAN_B) else r; let u := if f.superv = true ∧ f.src = w.mac then w.setPort p { w.port p with ownSup := some w.now } else w; f.src = w.mac ∧ u.getF NET_MODE_MODE = 1 ∧ p < 2) ∧
    (∃ (s : State) (p : Nat) (f : EthFrame) (res : List Nat) (full : List Bool), let r := s.setPort p { s.port p with lastRx := some s.now }; let w := if r.wrongLan p f = true then r.incSat (if p = 0 then NET_WLAN_WRONGLAN_A else NET_WLAN_WRONGLAN_B) else r; let u := if f.superv = true ∧ f.src = w.mac then w.setPort p { w.port p with ownSup := some w.now } else w; (f.src ≠ w.mac ∨ u.getF NET_MODE_MODE ≠ 1 ∨ 2 ≤ p) ∧ (u.dupCheck f).1 = true) ∧
    (∃ (s : State) (p : Nat) (f : EthFrame) (res : List Nat) (full : List Bool), let r := s.setPort p { s.port p with lastRx := some s.now }; let w := if r.wrongLan p f = true then r.incSat (if p = 0 then NET_WLAN_WRONGLAN_A else NET_WLAN_WRONGLAN_B) else r; let u := if f.superv = true ∧ f.src = w.mac then w.setPort p { w.port p with ownSup := some w.now } else w; (f.src ≠ w.mac ∨ u.getF NET_MODE_MODE ≠ 1 ∨ 2 ≤ p) ∧ (u.dupCheck f).1 = false) ∧
    (∃ (s : State) (p q k : Nat) (f : EthFrame) (res : List Nat) (full : List Bool), s.flag (NET_PCFG_EN q) = true ∧ lget false full q = true) ∧
    (∃ (s : State) (p q k : Nat) (f : EthFrame) (res : List Nat) (full : List Bool), s.flag (NET_PCFG_EN q) = true ∧ lget false full q = false) ∧
    (∃ (s : State) (p q k : Nat) (f : EthFrame) (res : List Nat) (full : List Bool), s.getF NET_MODE_MODE = 0) ∧
    (∃ (s : State) (p q k : Nat) (f : EthFrame) (res : List Nat) (full : List Bool), s.getF NET_MODE_MODE = 1 ∧ p = 2 ∧ q < 2) ∧
    (∃ (s : State) (p q k : Nat) (f : EthFrame) (res : List Nat) (full : List Bool), s.getF NET_MODE_MODE = 1 ∧ f.hsr.isSome = true) ∧
    (∃ (s : State) (p q k : Nat) (f : EthFrame) (res : List Nat) (full : List Bool), s.getF NET_MODE_MODE = 2 ∧ p = 2 ∧ q < 2 ∧ f.ptp = .none) ∧
    (∃ (s : State) (p q k : Nat) (f : EthFrame) (res : List Nat) (full : List Bool), s.getF NET_MODE_MODE = 2 ∧ f.prp.isSome = true) ∧
    (∃ (s : State) (p q k : Nat) (f : EthFrame) (res : List Nat) (full : List Bool), f.ptp ≠ .none) ∧
    (∃ (s : State) (p q k : Nat) (f : EthFrame) (res : List Nat) (full : List Bool), f.ptp = .none) ∧
    (∃ (s : State) (p : Nat) (g : TxFrame), s.flag (NET_PCFG_EN p) = true) ∧
    (∃ (t : Nat) (l : List EgFrame) (e f : EgFrame), egressPick t l = some e ∧ f ∈ l ∧ f.at_ ≤ t) ∧
    (∃ (t : Nat) (l : List EgFrame) (e f : EgFrame), egressPick t l = some e ∧ f ∈ l ∧ f.at_ ≤ t ∧ f.queue = 3 ∧ e.queue = 3 ∧ f.kind ≤ 2 ∧ e.kind ≤ 2) ∧
    (∃ (s : State) (f : EthFrame) (q : Nat), dupSeq (s.getF NET_MODE_MODE) f = some q ∧ (∀ e ∈ s.net.ddt, s.now < e.born + s.getF NET_RCFG_FORGET * msU) ∧ (∃ e ∈ s.net.ddt, e.src = f.src ∧ e.seq = q)) ∧
    (∃ (s : State) (f : EthFrame) (q : Nat), dupSeq (s.getF NET_MODE_MODE) f = some q ∧ (∀ e ∈ s.net.ddt, s.now < e.born + s.getF NET_RCFG_FORGET * msU) ∧ (∀ e ∈ s.net.ddt, e.src ≠ f.src ∨ e.seq ≠ q) ∧ s.net.ddt.length < 1024) ∧
    (∃ (s : State) (f : EthFrame) (q : Nat), dupSeq (s.getF NET_MODE_MODE) f = some q ∧ (∀ e ∈ s.net.ddt, s.now < e.born + s.getF NET_RCFG_FORGET * msU) ∧ (∀ e ∈ s.net.ddt, e.src ≠ f.src ∨ e.seq ≠ q) ∧ 1024 ≤ s.net.ddt.length) ∧
    (∃ (s : State) (p : Nat) (f : EthFrame), s.getF NET_MODE_MODE = 0 ∧ f.dst ≠ s.mac ∧ s.flag NET_MODE_ISO = true) ∧
    (∃ (s : State) (p : Nat) (f : EthFrame), s.getF NET_MODE_MODE = 0 ∧ f.dst ≠ s.mac ∧ s.flag NET_MODE_ISO = false ∧ groupMac f.dst = true) ∧
    (∃ (s : State) (p : Nat) (f : EthFrame), ∃ (q : Nat), s.getF NET_MODE_MODE = 0 ∧ f.dst ≠ s.mac ∧ s.flag NET_MODE_ISO = false ∧ groupMac f.dst = false ∧ s.macPort f.dst = some q ∧ q ≠ p) ∧
    (∃ (s : State) (p : Nat) (f : EthFrame), s.getF NET_MODE_MODE = 1 ∧ p < 2 ∧ f.src ≠ s.mac ∧ f.dst ≠ s.mac) ∧
    (∃ (t : Nat) (s : State), let a := s.at t; a.switchOn = true) :=
  ⟨⟨0, 2, [], { eth 64 5 with fcsOk := false }, [], net 0, by decide⟩,
   ⟨0, 2, [], eth 1529 5, [], net 0, by decide⟩,
   ⟨0, 2, [], eth 1528 5, [], net 0, by decide⟩,
   ⟨net 1, 0, { eth 64 5 with src := 1 }, [], [], by decide⟩,
   ⟨{ net 1 with net := { (net 1).net with ddt := [⟨2, 5, 0⟩] } }, 0, { eth 64 5 with hsr := some 5 }, [], [], by decide⟩,
   ⟨net 1, 0, { eth 64 5 with hsr := some 5 }, [], [], by decide⟩,
   ⟨net 0, 0, 2, 0, eth 64 5, [], [true, true, true], by decide⟩,
   ⟨net 0, 0, 2, 0, eth 64 5, [], [], by decide⟩,
   ⟨net 0, 0, 2, 0, eth 64 5, [], [], by decide⟩,
   ⟨net 1, 2, 1, 0, eth 64 5, [], [], by decide⟩,
   ⟨net 1, 0, 2, 0, { eth 64 5 with hsr := some 5 }, [], [], by decide⟩,
   ⟨net 2, 2, 1, 0, eth 64 5, [], [], by decide⟩,
   ⟨net 2, 0, 2, 0, { eth 64 5 with prp := some (0, 5) }, [], [], by decide⟩,
   ⟨net 0, 0, 2, 0, { eth 64 5 with ptp := .sync }, [], [], by decide⟩,
   ⟨net 0, 0, 2, 0, eth 64 5, [], [], by decide⟩,
   ⟨net 0, 2, .supervision 0 0, by decide⟩,
   ⟨0, [⟨3, 0, 64, 0, none, .supervision 0 0⟩], ⟨3, 0, 64, 0, none, .supervision 0 0⟩, ⟨3, 0, 64, 0, none, .supervision 0 0⟩, by decide⟩,
   ⟨0, [⟨3, 1, 64, 0, none, .supervision 0 0⟩, ⟨3, 0, 64, 0, none, .supervision 0 0⟩], ⟨3, 0, 64, 0, none, .supervision 0 0⟩, ⟨3, 1, 64, 0, none, .supervision 0 0⟩, by decide⟩,
   ⟨{ (net 1).setF NET_RCFG_FORGET 1 with net := { (net 1).net with ddt := [⟨2, 65535, 0⟩] } }, eth 64 5, 65535, by decide⟩,
   ⟨{ (net 1).setF NET_RCFG_FORGET 1 with net := { (net 1).net with ddt := List.replicate 1023 ⟨3, 65535, 0⟩ } }, eth 64 5, 65535, by decide⟩,
   ⟨{ (net 1).setF NET_RCFG_FORGET 1 with net := { (net 1).net with ddt := List.replicate 1024 ⟨3, 65535, 0⟩ } }, eth 64 5, 65535, by decide⟩,
   ⟨(net 0).setFlag NET_MODE_ISO true, 2, eth 64 5, by decide⟩,
   ⟨(net 0).setFlag NET_MODE_ISO false, 2, eth 64 0x010000000000, by decide⟩,
   ⟨{ (net 0).setFlag NET_MODE_ISO false with net := { (net 0).net with macs := [⟨5, 1, 0⟩] } }, 2, eth 64 5, 1, by decide⟩,
   ⟨net 1, 1, eth 64 5, by decide⟩,
   ⟨0, net 0, by decide⟩⟩

/-- What `Obligations.PortsAndMdio` assumes is met. -/
theorem witness_ports_and_mdio :
    (∃ (t p : Nat) (lane slow an : Bool) (s : State), let a := s.at t; p < 3 ∧ a.switchOn = true ∧ a.flag (NET_PCFG_EN p) = false) ∧
    (∃ (t p : Nat) (lane slow an : Bool) (s : State), let a := s.at t; let speed := decide (p = 2) && a.flag NET_MODE_C_SPEED; let up := lane && slow == speed; p < 3 ∧ a.switchOn = true ∧ a.flag (NET_PCFG_EN p) = true ∧ up = a.flag (NET_PSTAT_LINK p)) ∧
    (∃ (t p : Nat) (lane slow an : Bool) (s : State), let a := s.at t; let speed := decide (p = 2) && a.flag NET_MODE_C_SPEED; let up := lane && slow == speed; p < 3 ∧ a.switchOn = true ∧ a.flag (NET_PCFG_EN p) = true ∧ up = true ∧ a.flag (NET_PSTAT_LINK p) = false) ∧
    (∃ (t p : Nat) (lane slow an : Bool) (s : State), let a := s.at t; let speed := decide (p = 2) && a.flag NET_MODE_C_SPEED; let up := lane && slow == speed; p < 3 ∧ a.switchOn = true ∧ a.flag (NET_PCFG_EN p) = true ∧ up = false ∧ a.flag (NET_PSTAT_LINK p) = true) ∧
    (∃ (t : Nat) (s : State), let a := s.at t; let x := a.redFaults; let fault := x.1 || x.2; a.timeOn = true ∧ a.redundant = true ∧ fault = a.flag NET_RSTAT_RFAULT) ∧
    (∃ (t : Nat) (s : State), let a := s.at t; let x := a.redFaults; let fault := x.1 || x.2; a.timeOn = true ∧ a.redundant = true ∧ fault ≠ a.flag NET_RSTAT_RFAULT) ∧
    (∃ (t : Nat) (s : State), let a := s.at t; a.timeOn = true ∧ a.redundant = true ∧ (∀ u, a.net.supLast = some u → u + a.supInterval ≤ a.now)) ∧
    (∃ (t p : Nat) (s : State), let a := s.at t; p < 3 ∧ a.timeOn = true ∧ a.flag (NET_PCFG_EN p) = true) ∧
    (∃ (t p : Nat) (s : State), ∃ (q turn : Nat), let a := s.at t; p < 3 ∧ a.timeOn = true ∧ a.flag (NET_PCFG_EN p) = true ∧ q < 65536) ∧
    (∃ (t p t1 : Nat) (corr : Int) (s : State), let a := s.at t; p < 3 ∧ a.timeOn = true ∧ a.flag (NET_PCFG_EN p) = true ∧ (a.port p).pdSent = some t1 ∧ (a.port p).pdSeq < 65536) ∧
    (∃ (t v : Nat) (r : Requester) (s : State), let a := s.at t; a.trAlive (reqIdx r) = true ∧ a.judge r NET_MDIO = .allowed ∧ a.flag NET_MDIO_BUSY = false ∧ v / 1024 % 4 = 0) ∧
    (∃ (t v : Nat) (r : Requester) (s : State), let a := s.at t; a.trAlive (reqIdx r) = true ∧ a.judge r NET_MDIO = .allowed ∧ a.flag NET_MDIO_BUSY = false ∧ v / 1024 % 4 = 1 ∧ bitN v 12 = false) ∧
    (∃ (t v : Nat) (r : Requester) (s : State), let a := s.at t; a.trAlive (reqIdx r) = true ∧ a.judge r NET_MDIO = .allowed ∧ a.flag NET_MDIO_BUSY = false ∧ v / 1024 % 4 = 1 ∧ bitN v 12 = true) ∧
    (∃ (t v : Nat) (r : Requester) (s : State), let a := s.at t; a.trAlive (reqIdx r) = true ∧ a.judge r NET_MDIO = .allowed ∧ a.flag NET_MDIO_BUSY = false ∧ v / 1024 % 4 = 2) ∧
    (∃ (t v : Nat) (r : Requester) (s : State), let a := s.at t; a.trAlive (reqIdx r) = true ∧ a.judge r NET_MDIO = .allowed ∧ a.flag NET_MDIO_BUSY = false ∧ v / 1024 % 4 = 3) ∧
    (∃ (t v : Nat) (r : Requester) (s : State), let a := s.at t; a.trAlive (reqIdx r) = true ∧ a.judge r NET_MDIO = .allowed ∧ a.flag NET_MDIO_BUSY = true ∧ v / 1024 % 4 = 0) ∧
    (∃ (t data : Nat) (s : State), let a := s.at t; a.sys.refPresent = true ∧ (a.net.mdio = some .c22Read ∨ a.net.mdio = some .c45Read)) ∧
    (∃ (t data : Nat) (s : State), let a := s.at t; a.sys.refPresent = true ∧ (a.net.mdio = some .c22Write ∨ a.net.mdio = some .c45Write ∨ a.net.mdio = some .c45Address)) :=
  ⟨⟨0, 2, false, false, true, live .run, by decide⟩,
   ⟨0, 2, false, false, true, net 0, by decide⟩,
   ⟨0, 2, true, false, true, net 0, by decide⟩,
   ⟨0, 2, false, false, true, (net 0).setFlag (NET_PSTAT_LINK 2) true, by decide⟩,
   ⟨0, (net 2).setF NET_RCFG_FORGET 1, by decide⟩,
   ⟨0, ((net 2).setFlag NET_RSTAT_RFAULT true), by decide⟩,
   ⟨0, net 1, by decide⟩,
   ⟨0, 2, net 0, by decide⟩,
   ⟨0, 2, net 0, 65535, 0, by decide⟩,
   ⟨0, 2, 0, 0, { net 0 with net := { (net 0).net with ports := List.replicate 3 ⟨none, none, 0, some 0, none, none, none, [], 0⟩ } }, by decide⟩,
   ⟨0, 0x0, .portC, (live .run).setFlag NET_MDIO_BUSY false, by decide⟩,
   ⟨0, 0x400, .portC, (live .run).setFlag NET_MDIO_BUSY false, by decide⟩,
   ⟨0, 0x1400, .portC, (live .run).setFlag NET_MDIO_BUSY false, by decide⟩,
   ⟨0, 0x800, .portC, (live .run).setFlag NET_MDIO_BUSY false, by decide⟩,
   ⟨0, 0xC00, .portC, (live .run).setFlag NET_MDIO_BUSY false, by decide⟩,
   ⟨0, 0x0, .portC, (live .run).setFlag NET_MDIO_BUSY true, by decide⟩,
   ⟨0, 0xFFFF, { live .run with net := { (live .run).net with mdio := some .c45Read } }, by decide⟩,
   ⟨0, 0, { live .run with net := { (live .run).net with mdio := some .c45Address } }, by decide⟩⟩

/-- What `Obligations.GooseMessages` assumes is met. -/
theorem witness_goose_messages :
    (∃ (t n : Nat) (s : State), let a := s.at t; let g := a.gcbInt n; n < 32 ∧ a.flag (GSV_PCB_EN n) = true ∧ a.protecting = true ∧ a.dsValues n ≠ g.vals ∧ g.tick = some a.flt.geyK) ∧
    (∃ (t n : Nat) (s : State), let a := s.at t; let g := a.gcbInt n; n < 32 ∧ a.flag (GSV_PCB_EN n) = true ∧ a.protecting = true ∧ a.dsValues n ≠ g.vals ∧ g.tick ≠ some a.flt.geyK ∧ a.leads = true) ∧
    (∃ (t n : Nat) (s : State), let a := s.at t; let g := a.gcbInt n; n < 32 ∧ a.flag (GSV_PCB_EN n) = true ∧ a.protecting = true ∧ a.dsValues n ≠ g.vals ∧ g.tick ≠ some a.flt.geyK ∧ a.leads = false) ∧
    (∃ (t n : Nat) (s : State), let a := s.at t; n < 32 ∧ (a.flag (GSV_PCB_EN n) = false ∨ a.protecting = false ∨ a.dsValues n = (a.gcbInt n).vals)) ∧
    (∃ (t n due : Nat) (s : State), let a := s.at t; let g := a.gcbInt n; n < 32 ∧ g.next = some due ∧ a.flag (GSV_PCB_EN n) = true ∧ a.protecting = true ∧ a.leads = true ∧ a.now < due) ∧
    (∃ (t n due : Nat) (s : State), let a := s.at t; let g := a.gcbInt n; n < 32 ∧ g.next = some due ∧ a.flag (GSV_PCB_EN n) = true ∧ a.protecting = true ∧ a.leads = true ∧ due ≤ a.now ∧ g.bump = true) ∧
    (∃ (t n due : Nat) (s : State), let a := s.at t; let g := a.gcbInt n; n < 32 ∧ g.next = some due ∧ a.flag (GSV_PCB_EN n) = true ∧ a.protecting = true ∧ a.leads = true ∧ due ≤ a.now ∧ g.bump = false) ∧
    (∃ (s : State) (n v : Nat), n < 32) ∧
    (∃ (s : State) (n v : Nat), n < 32 ∧ (∀ p ∈ s.ownPorts [0, 1, 2], s.gooseWaits n p = false)) ∧
    (∃ (s : State) (n v : Nat), n < 32 ∧ (∃ p ∈ s.ownPorts [0, 1, 2], s.gooseWaits n p = true)) ∧
    (∃ (s : State) (n : Nat), s.flag OZX_CFG_PAIR = false ∧ (∀ p ∈ s.ownPorts [0, 1, 2], s.gooseWaits n p = false)) ∧
    (∃ (t p : Nat) (f : GooseFrame) (s : State), let a := s.at t; p < 3 ∧ a.timeOn = true ∧ a.flag (NET_PCFG_EN p) = true) ∧
    (∃ (s : State) (j : Nat) (f : GooseFrame), let c := lget ⟨0, 0, [], 0, 0, []⟩ s.gsv.gsubs j; (s.flag (GSV_SCFG_EN j) = false ∨ f.dst ≠ c.dst ∨ f.appid ≠ c.appid ∨ f.names ≠ c.names)) ∧
    (∃ (s : State) (j : Nat) (f : GooseFrame), let c := lget ⟨0, 0, [], 0, 0, []⟩ s.gsv.gsubs j; let x := s.subOf j; s.flag (GSV_SCFG_EN j) = true ∧ f.dst = c.dst ∧ f.appid = c.appid ∧ f.names = c.names ∧ frameFits c f = false ∧ x.mism = true) ∧
    (∃ (s : State) (j : Nat) (f : GooseFrame), let c := lget ⟨0, 0, [], 0, 0, []⟩ s.gsv.gsubs j; let x := s.subOf j; s.flag (GSV_SCFG_EN j) = true ∧ f.dst = c.dst ∧ f.appid = c.appid ∧ f.names = c.names ∧ frameFits c f = false ∧ x.mism = false) ∧
    (∃ (s : State) (j : Nat) (f : GooseFrame), let c := lget ⟨0, 0, [], 0, 0, []⟩ s.gsv.gsubs j; s.flag (GSV_SCFG_EN j) = true ∧ f.dst = c.dst ∧ f.appid = c.appid ∧ f.names = c.names ∧ frameFits c f = true ∧ f.test = true ∧ s.mode = .run ∧ s.flag (GSV_SCFG_TEST_ACC j) = false) ∧
    (∃ (s : State) (j : Nat) (f : GooseFrame), let c := lget ⟨0, 0, [], 0, 0, []⟩ s.gsv.gsubs j; let x := s.subOf j; s.flag (GSV_SCFG_EN j) = true ∧ f.dst = c.dst ∧ f.appid = c.appid ∧ f.names = c.names ∧ frameFits c f = true ∧ (f.test = false ∨ s.mode ≠ .run ∨ s.flag (GSV_SCFG_TEST_ACC j) = true) ∧ frameNew x.last x.dropped f.stNum f.sqNum = false) ∧
    (∃ (s : State) (j : Nat) (f : GooseFrame), let c := lget ⟨0, 0, [], 0, 0, []⟩ s.gsv.gsubs j; let x := s.subOf j; s.flag (GSV_SCFG_EN j) = true ∧ f.dst = c.dst ∧ f.appid = c.appid ∧ f.names = c.names ∧ frameFits c f = true ∧ (f.test = false ∨ s.mode ≠ .run ∨ s.flag (GSV_SCFG_TEST_ACC j) = true) ∧ frameNew x.last x.dropped f.stNum f.sqNum = true) ∧
    (∃ (s : State) (j : Nat) (c : GsubCfg) (f : GooseFrame), j < 128 ∧ s.gsv.subs.length = 144 ∧ (s.subOf j).dropped = false) ∧
    (∃ (t j u : Nat) (s : State), let a := s.at t; j < 128 ∧ (a.subOf j).until_ = some u) ∧
    (∃ (s : State) (j : Nat), j < 144 ∧ s.gsv.subs.length = 144) :=
  ⟨⟨0, 31, gsv (fun g => { g with gcbInts := g.gcbInts.map (fun x => { x with vals := [1], tick := some 0 }) }), by decide⟩,
   ⟨0, 31, gsv (fun g => { g with gcbInts := g.gcbInts.map (fun x => { x with vals := [1], tick := some 7 }) }), by decide⟩,
   ⟨0, 31, (gsv (fun g => { g with gcbInts := g.gcbInts.map (fun x => { x with vals := [1], tick := some 7 }) })).setFlag OZX_PSTAT_HOLDS false |> fun s => s.setFlag OZX_CFG_PAIR true, by decide⟩,
   ⟨0, 31, live .run, by decide⟩,
   ⟨0, 31, 7, gsv (fun g => { g with gcbInts := g.gcbInts.map (fun x => { x with next := some 7 }) }), by decide⟩,
   ⟨0, 31, 0, gsv (fun g => { g with gcbInts := g.gcbInts.map (fun x => { x with next := some 0, bump := true }) }), by decide⟩,
   ⟨0, 31, 0, gsv (fun g => { g with gcbInts := g.gcbInts.map (fun x => { x with vals := [1], next := some 0 }) }), by decide⟩,
   ⟨live .run, 31, 4294967295, by decide⟩,
   ⟨live .run, 31, 0, by decide⟩,
   ⟨{ net 0 with net := { (net 0).net with ports := List.replicate 3 ⟨none, none, 0, none, none, none, none, [⟨3, 2, 64, 0, none, .goose 31 noFrameHdr 0 0 0 0 false []⟩], 1000⟩ } }, 31, 0, by decide⟩,
   ⟨live .run, 31, by decide⟩,
   ⟨0, 2, gframe, net 0, by decide⟩,
   ⟨live .run, 127, gframe, by decide⟩,
   ⟨subs (fun x => { x with mism := true }), 127, { gframe with ndsCom := true }, by decide⟩,
   ⟨gsv (fun g => g), 127, { gframe with ndsCom := true }, by decide⟩,
   ⟨gsv (fun g => g), 127, { gframe with test := true }, by decide⟩,
   ⟨subs (fun x => { x with last := some (1, 0) }), 127, gframe, by decide⟩,
   ⟨subs (fun x => { x with last := some (1, 0) }), 127, { gframe with sqNum := 1 }, by decide⟩,
   ⟨gsv (fun g => g), 127, ⟨0, 0, [], 0, 0, []⟩, gframe, by decide⟩,
   ⟨0, 127, 0, subs (fun x => { x with until_ := some 0 }), by decide⟩,
   ⟨live .run, 143, by decide⟩⟩

/-- What `Obligations.SampledValues` assumes is met. -/
theorem witness_sampled_values :
    (∃ (t p : Nat) (f : SvFrame) (s : State), let a := s.at t; p < 3 ∧ a.timeOn = true ∧ a.flag (NET_PCFG_EN p) = true) ∧
    (∃ (s : State) (st : Nat) (f : SvFrame), let c := lget ⟨0, 0, 0, 0, 0⟩ s.gsv.svsubs st; (s.flag (GSV_SVSCFG_EN st) = false ∨ f.dst ≠ c.dst ∨ f.appid ≠ c.appid ∨ f.svid ≠ c.svid)) ∧
    (∃ (s : State) (st : Nat) (f : SvFrame), let c := lget ⟨0, 0, 0, 0, 0⟩ s.gsv.svsubs st; let x := s.subOf (128 + st); s.flag (GSV_SVSCFG_EN st) = true ∧ f.dst = c.dst ∧ f.appid = c.appid ∧ f.svid = c.svid ∧ (f.confRev ≠ c.confRev ∨ f.asdus = [] ∨ 8 < f.asdus.length) ∧ x.mism = true) ∧
    (∃ (s : State) (st : Nat) (f : SvFrame), let c := lget ⟨0, 0, 0, 0, 0⟩ s.gsv.svsubs st; let x := s.subOf (128 + st); s.flag (GSV_SVSCFG_EN st) = true ∧ f.dst = c.dst ∧ f.appid = c.appid ∧ f.svid = c.svid ∧ (f.confRev ≠ c.confRev ∨ f.asdus = [] ∨ 8 < f.asdus.length) ∧ x.mism = false) ∧
    (∃ (s : State) (st : Nat) (f : SvFrame), let c := lget ⟨0, 0, 0, 0, 0⟩ s.gsv.svsubs st; s.flag (GSV_SVSCFG_EN st) = true ∧ f.dst = c.dst ∧ f.appid = c.appid ∧ f.svid = c.svid ∧ f.confRev = c.confRev ∧ f.asdus ≠ [] ∧ f.asdus.length ≤ 8 ∧ (∀ a ∈ f.asdus, a.vals.length = c.n ∧ a.cnt < s.svSubRate st) ∧ f.sim = true ∧ s.mode = .run ∧ s.flag (GSV_SVSCFG_TEST_ACC st) = false) ∧
    (∃ (s : State) (st : Nat) (f : SvFrame), let c := lget ⟨0, 0, 0, 0, 0⟩ s.gsv.svsubs st; s.flag (GSV_SVSCFG_EN st) = true ∧ f.dst = c.dst ∧ f.appid = c.appid ∧ f.svid = c.svid ∧ f.confRev = c.confRev ∧ f.asdus ≠ [] ∧ f.asdus.length ≤ 8 ∧ (∀ a ∈ f.asdus, a.vals.length = c.n ∧ a.cnt < s.svSubRate st) ∧ (f.sim = false ∨ s.mode ≠ .run ∨ s.flag (GSV_SVSCFG_TEST_ACC st) = true)) ∧
    (∃ (s : State) (st : Nat) (sim : Bool) (a : SvAsdu), (∃ e ∈ (s.svOf st).recent, e.1 = a.cnt ∧ s.now < e.2 + secU)) ∧
    (∃ (s : State) (st : Nat) (sim : Bool) (a : SvAsdu), (∀ e ∈ (s.svOf st).recent, e.1 ≠ a.cnt ∨ e.2 + secU ≤ s.now) ∧ st < 16 ∧ s.gsv.svInts.length = 16 ∧ s.gsv.subs.length = 144) ∧
    (∃ (s : State) (st : Nat) (sim : Bool) (a : SvAsdu), let x := s.svOf st; let gap := match x.key with | some k => (a.cnt + s.svSubRate st - k % s.svSubRate st) % s.svSubRate st | none => 1; (∀ e ∈ (s.svOf st).recent, e.1 ≠ a.cnt ∨ e.2 + secU ≤ s.now) ∧ st < 16 ∧ s.gsv.svInts.length = 16 ∧ s.gsv.subs.length = 144 ∧ (x.dropped = true ∨ gap < 5)) ∧
    (∃ (s : State) (st : Nat) (sim : Bool) (a : SvAsdu), let x := s.svOf st; let gap := match x.key with | some k => (a.cnt + s.svSubRate st - k % s.svSubRate st) % s.svSubRate st | none => 1; (∀ e ∈ (s.svOf st).recent, e.1 ≠ a.cnt ∨ e.2 + secU ≤ s.now) ∧ st < 16 ∧ s.gsv.svInts.length = 16 ∧ s.gsv.subs.length = 144 ∧ x.dropped = false ∧ 5 ≤ gap) ∧
    (∃ (s : State) (st : Nat) (sim : Bool) (a : SvAsdu), let sync := decide (s.getF (GSV_SVSCFG_SYNCMIN st) ≤ a.synch); (∀ e ∈ (s.svOf st).recent, e.1 ≠ a.cnt ∨ e.2 + secU ≤ s.now) ∧ st < 16 ∧ s.gsv.svInts.length = 16 ∧ s.gsv.subs.length = 144 ∧ sync = false) ∧
    (∃ (s : State) (st : Nat) (sim : Bool) (a : SvAsdu), let x := s.svOf st; let sync := decide (s.getF (GSV_SVSCFG_SYNCMIN st) ≤ a.synch); (∀ e ∈ (s.svOf st).recent, e.1 ≠ a.cnt ∨ e.2 + secU ≤ s.now) ∧ st < 16 ∧ s.gsv.svInts.length = 16 ∧ s.gsv.subs.length = 144 ∧ sync = false ∧ x.dropped = true) ∧
    (∃ (s : State) (st : Nat) (sim : Bool) (a : SvAsdu), let x := s.svOf st; let sync := decide (s.getF (GSV_SVSCFG_SYNCMIN st) ≤ a.synch); let gap := match x.key with | some k => (a.cnt + s.svSubRate st - k % s.svSubRate st) % s.svSubRate st | none => 1; (∀ e ∈ (s.svOf st).recent, e.1 ≠ a.cnt ∨ e.2 + secU ≤ s.now) ∧ st < 16 ∧ s.gsv.svInts.length = 16 ∧ s.gsv.subs.length = 144 ∧ sync = true ∧ (x.dropped = true ∨ gap < 5)) ∧
    (∃ (s : State) (st : Nat) (sim : Bool) (a : SvAsdu), let x := s.svOf st; let sync := decide (s.getF (GSV_SVSCFG_SYNCMIN st) ≤ a.synch); let gap := match x.key with | some k => (a.cnt + s.svSubRate st - k % s.svSubRate st) % s.svSubRate st | none => 1; (∀ e ∈ (s.svOf st).recent, e.1 ≠ a.cnt ∨ e.2 + secU ≤ s.now) ∧ st < 16 ∧ s.gsv.svInts.length = 16 ∧ s.gsv.subs.length = 144 ∧ x.dropped = true ∧ sync = true ∧ gap = 1 ∧ 7 ≤ x.run) ∧
    (∃ (s : State) (st : Nat) (sim : Bool) (a : SvAsdu), let x := s.svOf st; let gap := match x.key with | some k => (a.cnt + s.svSubRate st - k % s.svSubRate st) % s.svSubRate st | none => 1; (∀ e ∈ (s.svOf st).recent, e.1 ≠ a.cnt ∨ e.2 + secU ≤ s.now) ∧ st < 16 ∧ s.gsv.svInts.length = 16 ∧ s.gsv.subs.length = 144 ∧ x.dropped = true ∧ (gap ≠ 1 ∨ x.run < 7)) ∧
    (∃ (s : State) (st key v : Nat) (sync : Bool) (a : SvAsdu) (e : SvVal), v < 64 ∧ s.flt.vsmp.length = 64 ∧ s.flag (GSV_VCH_EN v) = true ∧ s.getF (GSV_VCH_STREAM v) = st ∧ s.svUsed v key = false ∧ (a.vals.drop (s.getF (GSV_VCH_ELEM v))).head? = some e) ∧
    (∃ (s : State) (q k : Nat), let l := lget [] s.gsv.svOut q ++ [s.svpAsdu q k]; q < 8 ∧ s.flag FLT_SVCFG_SV_EN = true ∧ s.protecting = true ∧ s.flag (GSV_SVPCFG_EN q) = true ∧ (∀ r < 8, r ≠ q → s.flag (GSV_SVPCFG_EN r) = false) ∧ s.gsv.svOut.length = 8 ∧ s.gsv.svLast.length = 8 ∧ (∀ i < 8, (s.fch (s.svpCh q i)).fixK = some k) ∧ lget none s.gsv.svLast q ≠ some k ∧ l.length < s.getF (GSV_SVPCFG_NASDU q)) ∧
    (∃ (s : State) (q k : Nat), let l := lget [] s.gsv.svOut q ++ [s.svpAsdu q k]; q < 8 ∧ s.flag FLT_SVCFG_SV_EN = true ∧ s.protecting = true ∧ s.flag (GSV_SVPCFG_EN q) = true ∧ (∀ r < 8, r ≠ q → s.flag (GSV_SVPCFG_EN r) = false) ∧ s.gsv.svOut.length = 8 ∧ s.gsv.svLast.length = 8 ∧ (∀ i < 8, (s.fch (s.svpCh q i)).fixK = some k) ∧ lget none s.gsv.svLast q ≠ some k ∧ s.getF (GSV_SVPCFG_NASDU q) ≤ l.length ∧ s.leads = false) ∧
    (∃ (s : State) (q k : Nat), let l := lget [] s.gsv.svOut q ++ [s.svpAsdu q k]; q < 8 ∧ s.flag FLT_SVCFG_SV_EN = true ∧ s.protecting = true ∧ s.flag (GSV_SVPCFG_EN q) = true ∧ (∀ r < 8, r ≠ q → s.flag (GSV_SVPCFG_EN r) = false) ∧ s.gsv.svOut.length = 8 ∧ s.gsv.svLast.length = 8 ∧ (∀ i < 8, (s.fch (s.svpCh q i)).fixK = some k) ∧ lget none s.gsv.svLast q ≠ some k ∧ s.getF (GSV_SVPCFG_NASDU q) ≤ l.length ∧ s.leads = true) ∧
    (∃ (t st : Nat) (s : State), let a := s.at t; let x := a.svOf st; st < 16 ∧ x.dropped = false ∧ x.key.isSome = true ∧ a.timeOn = true) ∧
    (∃ (s : State) (st : Nat), st < 16 ∧ s.gsv.svInts.length = 16) :=
  ⟨⟨0, 2, ⟨0, 0, 0, 0, false, []⟩, net 0, by decide⟩,
   ⟨live .run, 15, ⟨0, 0, 0, 0, false, []⟩, by decide⟩,
   ⟨subs (fun x => { x with mism := true }), 15, ⟨0, 0, 0, 0, false, []⟩, by decide⟩,
   ⟨gsv (fun g => g), 15, ⟨0, 0, 0, 0, false, []⟩, by decide⟩,
   ⟨gsv (fun g => g), 15, ⟨0, 0, 0, 0, true, [⟨4799, 0, []⟩]⟩, by decide⟩,
   ⟨gsv (fun g => g), 15, ⟨0, 0, 0, 0, false, [⟨4799, 0, []⟩]⟩, by decide⟩,
   ⟨gsv (fun g => { g with svInts := g.svInts.map (fun x => { x with recent := [(5, 0)] }) }), 15, true, ⟨5, 0, []⟩, by decide⟩,
   ⟨gsv (fun g => { g with svInts := g.svInts.map (fun x => { x with key := some 0, dropped := false, run := 0 }) }), 15, true, ⟨1, 2, []⟩, by decide⟩,
   ⟨gsv (fun g => { g with svInts := g.svInts.map (fun x => { x with key := some 0, dropped := false, run := 0 }) }), 15, true, ⟨4, 2, []⟩, by decide⟩,
   ⟨gsv (fun g => { g with svInts := g.svInts.map (fun x => { x with key := some 0, dropped := false, run := 0 }) }), 15, true, ⟨5, 2, []⟩, by decide⟩,
   ⟨(gsv (fun g => { g with svInts := g.svInts.map (fun x => { x with key := some 0, dropped := false, run := 0 }) })).setF (GSV_SVSCFG_SYNCMIN 15) 2, 15, true, ⟨5, 1, []⟩, by decide⟩,
   ⟨(gsv (fun g => { g with svInts := g.svInts.map (fun x => { x with key := some 0, dropped := true, run := 7 }) })).setF (GSV_SVSCFG_SYNCMIN 15) 2, 15, true, ⟨1, 1, []⟩, by decide⟩,
   ⟨(gsv (fun g => { g with svInts := g.svInts.map (fun x => { x with key := none, dropped := false, run := 0 }) })).setF (GSV_SVSCFG_SYNCMIN 15) 2, 15, true, ⟨1, 2, []⟩, by decide⟩,
   ⟨(gsv (fun g => { g with svInts := g.svInts.map (fun x => { x with key := some 0, dropped := true, run := 7 }) })).setF (GSV_SVSCFG_SYNCMIN 15) 2, 15, true, ⟨1, 2, []⟩, by decide⟩,
   ⟨(gsv (fun g => { g with svInts := g.svInts.map (fun x => { x with key := some 0, dropped := true, run := 6 }) })).setF (GSV_SVSCFG_SYNCMIN 15) 2, 15, true, ⟨1, 2, []⟩, by decide⟩,
   ⟨((live .run).setFlag (GSV_VCH_EN 63) true).setF (GSV_VCH_STREAM 63) 15 |> fun s => { s with flt := { s.flt with vsmp := List.replicate 64 [] } }, 15, 0, 63, true, ⟨0, 2, [⟨5, 0, false, false, false⟩]⟩, ⟨5, 0, false, false, false⟩, by decide⟩,
   ⟨{ ((((live .run).setFlag FLT_SVCFG_SV_EN true).setFlag (GSV_SVPCFG_EN 7) true).setF (GSV_SVPCFG_NASDU 7) 2).setFlag OZX_CFG_PAIR false with flt := { resetFlt with chans := List.replicate 128 { resetFltChan with fixK := some 9 } } }, 7, 9, by decide⟩,
   ⟨{ ((((live .run).setFlag FLT_SVCFG_SV_EN true).setFlag (GSV_SVPCFG_EN 7) true).setF (GSV_SVPCFG_NASDU 7) 1).setFlag OZX_CFG_PAIR true with flt := { resetFlt with chans := List.replicate 128 { resetFltChan with fixK := some 9 } } }, 7, 9, by decide⟩,
   ⟨{ ((((live .run).setFlag FLT_SVCFG_SV_EN true).setFlag (GSV_SVPCFG_EN 7) true).setF (GSV_SVPCFG_NASDU 7) 1).setFlag OZX_PSTAT_HOLDS true |>.setFlag OZX_CFG_PAIR false with flt := { resetFlt with chans := List.replicate 128 { resetFltChan with fixK := some 9 } } }, 7, 9, by decide⟩,
   ⟨0, 15, { gsv (fun g => { g with svInts := g.svInts.map (fun x => { x with key := some 0, dropped := false }) }) with now := secU }, by decide⟩,
   ⟨live .run, 15, by decide⟩⟩

/-- What `Obligations.OzauxLinks` assumes is met. -/
theorem witness_ozaux_links :
    (∃ (t l : Nat) (clk : Bool) (s : State), let a := s.at t; l < 2 ∧ a.ozOn = true ∧ a.getF (OZX_LSTAT_STATE l) ≠ 0 ∧ (clk = true ∨ a.getF OZX_CFG_REFSEL ≠ l + 1)) ∧
    (∃ (t l : Nat) (clk : Bool) (s : State), let a := s.at t; l < 2 ∧ a.ozOn = true ∧ a.getF (OZX_LSTAT_STATE l) ≠ 0 ∧ clk = false ∧ a.getF OZX_CFG_REFSEL = l + 1) ∧
    (∃ (t l : Nat) (clk : Bool) (s : State), let a := s.at t; l < 2 ∧ a.getF (OZX_LSTAT_STATE l) = 0 ∧ (clk = true ∨ a.ozOn = false ∨ a.getF OZX_CFG_REFSEL ≠ l + 1)) ∧
    (∃ (t l : Nat) (s : State), let a := s.at t; l < 2 ∧ a.ozOn = true ∧ a.linkEn l = true ∧ a.getF (OZX_LSTAT_STATE l) = 0) ∧
    (∃ (t l : Nat) (s : State), let a := s.at t; l < 2 ∧ a.ozOn = true ∧ a.linkEn l = false) ∧
    (∃ (t l : Nat) (s : State), let a := s.at t; l < 2 ∧ a.ozOn = true ∧ a.getF (OZX_LSTAT_STATE l) = 1) ∧
    (∃ (s : State) (l st : Nat), l < 2 ∧ st < 4) ∧
    (∃ (s : State) (l st : Nat), l < 2 ∧ st < 4 ∧ (st = 0 ∨ st = 3)) ∧
    (∃ (s : State) (l st : Nat), l < 2 ∧ st < 4 ∧ (st = 1 ∨ st = 2)) ∧
    (∃ (t l q : Nat) (s : State), let a := s.at t; l < 2 ∧ q < 256 ∧ a.linkUp l = true) ∧
    (∃ (t l q : Nat) (s : State), ∃ w, let a := s.at t; let x := a.link l; l < 2 ∧ q < 256 ∧ a.linkUp l = true ∧ x.waits.find? (fun w => w.frame.lseq = q) = some w ∧ w.tries < 3) ∧
    (∃ (t l q : Nat) (s : State), ∃ w, let a := s.at t; let x := a.link l; l < 2 ∧ q < 256 ∧ a.linkUp l = true ∧ x.waits.find? (fun w => w.frame.lseq = q) = some w ∧ 3 ≤ w.tries ∧ x.lostSec = some (a.now / secU)) ∧
    (∃ (t l q : Nat) (s : State), ∃ w, let a := s.at t; let x := a.link l; l < 2 ∧ q < 256 ∧ a.linkUp l = true ∧ x.waits.find? (fun w => w.frame.lseq = q) = some w ∧ 3 ≤ w.tries ∧ x.lostSec ≠ some (a.now / secU)) ∧
    (∃ (t l q : Nat) (s : State), let a := s.at t; let x := a.link l; l < 2 ∧ q < 256 ∧ a.linkUp l = true ∧ x.waits.find? (fun w => w.frame.lseq = q) = none) ∧
    (∃ (t l ty q : Nat) (s : State), let a := s.at t; l < 2 ∧ ty < 256 ∧ q < 256 ∧ a.linkUp l = true ∧ (ty = 1 ∨ ty = 2 ∨ ty = 5 ∨ ty = 6)) ∧
    (∃ (t l ty q : Nat) (s : State), let a := s.at t; l < 2 ∧ ty < 256 ∧ q < 256 ∧ a.linkUp l = true ∧ ty ≠ 1 ∧ ty ≠ 2 ∧ ty ≠ 5 ∧ ty ≠ 6) ∧
    (∃ (t l ty q : Nat) (s : State), let a := s.at t; l < 2 ∧ ty < 256 ∧ q < 256 ∧ a.linkUp l = false) ∧
    (∃ (s : State) (l q : Nat), l < 2 ∧ s.oz.links.length = 2 ∧ (∃ e ∈ (s.link l).seen, e.1 = q ∧ s.now < e.2 + 5 * usU)) ∧
    (∃ (s : State) (l q : Nat), l < 2 ∧ s.oz.links.length = 2 ∧ (∀ e ∈ (s.link l).seen, e.1 ≠ q ∨ e.2 + 5 * usU ≤ s.now)) :=
  ⟨⟨0, 1, true, oz 1 (fun x => x), by decide⟩,
   ⟨0, 1, false, (oz 1 (fun x => x)).setF OZX_CFG_REFSEL 2, by decide⟩,
   ⟨0, 1, true, oz 0 (fun x => x), by decide⟩,
   ⟨0, 1, oz 0 (fun x => x), by decide⟩,
   ⟨0, 1, live .run |> fun s => s.setF OZX_CFG_LINK_EN 1, by decide⟩,
   ⟨0, 1, oz 1 (fun x => x), by decide⟩,
   ⟨live .run, 1, 3, by decide⟩,
   ⟨live .run, 1, 3, by decide⟩,
   ⟨live .run, 1, 2, by decide⟩,
   ⟨0, 1, 255, oz 3 (fun x => x), by decide⟩,
   ⟨0, 1, 255, oz 3 (fun x => { x with waits := [⟨⟨255, .heartbeat 0 0 false false 0⟩, 2, 0⟩], lostSec := none }), ⟨⟨255, .heartbeat 0 0 false false 0⟩, 2, 0⟩, by decide⟩,
   ⟨0, 1, 255, oz 3 (fun x => { x with waits := [⟨⟨255, .heartbeat 0 0 false false 0⟩, 3, 0⟩], lostSec := some 0 }), ⟨⟨255, .heartbeat 0 0 false false 0⟩, 3, 0⟩, by decide⟩,
   ⟨0, 1, 255, oz 3 (fun x => { x with waits := [⟨⟨255, .heartbeat 0 0 false false 0⟩, 3, 0⟩], lostSec := none }), ⟨⟨255, .heartbeat 0 0 false false 0⟩, 3, 0⟩, by decide⟩,
   ⟨0, 1, 255, oz 3 (fun x => x), by decide⟩,
   ⟨0, 1, 6, 255, oz 3 (fun x => x), by decide⟩,
   ⟨0, 1, 255, 255, oz 3 (fun x => x), by decide⟩,
   ⟨0, 1, 255, 255, oz 1 (fun x => x), by decide⟩,
   ⟨oz 3 (fun x => { x with seen := [(255, 0)] }), 1, 255, by decide⟩,
   ⟨{ oz 3 (fun x => { x with seen := [(255, 0)] }) with now := 5 * usU }, 1, 255, by decide⟩⟩

/-- What `Obligations.OzauxTimeAndTriggers` assumes is met. -/
theorem witness_ozaux_time_and_triggers :
    (∃ (t l : Nat) (s : State), let a := s.at t; l < 2 ∧ a.linkUp l = true ∧ a.exchDue l = true) ∧
    (∃ (t l : Nat) (s : State), let a := s.at t; l < 2 ∧ a.linkUp l = true ∧ a.exchDue l = false) ∧
    (∃ (t l word : Nat) (s : State), l < 2) ∧
    (∃ (t l turn u : Nat) (s : State), let a := s.at t; let x := a.link l; let d := ((a.now - u) / 4 - turn) / 2; l < 2 ∧ x.reqAt = some u ∧ a.linkUp l = true ∧ x.dlys ≠ [] ∧ 20 < absN ((d : Int) - (meanDly x.dlys : Int))) ∧
    (∃ (t l turn u : Nat) (s : State), let a := s.at t; let x := a.link l; let d := ((a.now - u) / 4 - turn) / 2; let m := meanDly ((d :: x.dlys).take 8); l < 2 ∧ a.oz.links.length = 2 ∧ x.reqAt = some u ∧ a.linkUp l = true ∧ (x.dlys = [] ∨ absN ((d : Int) - (meanDly x.dlys : Int)) ≤ 20) ∧ m ≤ 400) ∧
    (∃ (t l ns sec q : Nat) (s : State), let a := s.at t; l < 2 ∧ ns < 1000000000 ∧ sec < 65536 ∧ q < 256 ∧ a.timeOn = true ∧ a.linkUp l = true) ∧
    (∃ (t : Nat) (s : State), let a := s.at t; a.timeOn = true) ∧
    (∃ (t l q id hops orig age ns sec top : Nat) (s : State), let a := s.at t; l < 2 ∧ q < 256 ∧ id < 16 ∧ hops < 8 ∧ orig < 8 ∧ age < 4096 ∧ ns < 1000000000 ∧ sec < 256 ∧ top < 16 ∧ a.linkUp l = true ∧ (a.ozAccept l q).1 = false) ∧
    (∃ (t l q id hops orig age ns sec top : Nat) (s : State), let a := s.at t; let r := (a.ozAccept l q).2; l < 2 ∧ q < 256 ∧ id < 16 ∧ hops < 8 ∧ orig < 8 ∧ age < 4096 ∧ ns < 1000000000 ∧ sec < 256 ∧ top < 16 ∧ a.linkUp l = true ∧ (a.ozAccept l q).1 = true ∧ r.linkDom l = true ∧ orig = r.getF OZX_CFG_ENGID) ∧
    (∃ (t l q id hops orig age ns sec top : Nat) (s : State), let a := s.at t; let r := (a.ozAccept l q).2; l < 2 ∧ q < 256 ∧ id < 16 ∧ hops < 8 ∧ orig < 8 ∧ age < 4096 ∧ ns < 1000000000 ∧ sec < 256 ∧ top < 16 ∧ a.linkUp l = true ∧ (a.ozAccept l q).1 = true ∧ r.linkDom l = true ∧ orig ≠ r.getF OZX_CFG_ENGID) ∧
    (∃ (s : State) (l id hops orig age ns sec : Nat), let dly := s.linkDly l; let due : Int := (s.now : Int) - 5200 + 64000 - ((16 * age + 4 * dly : Nat) : Int); due < (s.now : Int)) ∧
    (∃ (t : Nat) (s : State), let a := s.at t; a.ozOn = true) :=
  ⟨⟨0, 1, oz 3 (fun x => x), by decide⟩,
   ⟨0, 1, oz 3 (fun x => { x with exchAt := some 0 }), by decide⟩,
   ⟨0, 1, 0, live .run, by decide⟩,
   ⟨0, 1, 0, 0, { oz 3 (fun x => { x with reqAt := some 0, dlys := [40] }) with now := 8 }, by decide⟩,
   ⟨0, 1, 0, 0, { oz 3 (fun x => { x with reqAt := some 0, dlys := [40] }) with now := 8 * 60 }, by decide⟩,
   ⟨0, 1, 999999999, 65535, 255, oz 3 (fun x => x), by decide⟩,
   ⟨0, live .run, by decide⟩,
   ⟨0, 1, 255, 15, 7, 7, 4095, 999999999, 255, 15, oz 3 (fun x => { x with seen := [(255, 0)] }), by decide⟩,
   ⟨0, 1, 255, 15, 7, 0, 4095, 999999999, 255, 15, ((oz 3 (fun x => x)).setFlag OZX_CFG_DOM_EN true).setF OZX_CFG_LINK_DOM 3, by decide⟩,
   ⟨0, 1, 255, 15, 7, 7, 4095, 999999999, 255, 15, ((oz 3 (fun x => x)).setFlag OZX_CFG_DOM_EN true).setF OZX_CFG_LINK_DOM 3, by decide⟩,
   ⟨(live .run).setF (OZX_LDLY_DLY 1) 0, 1, 0, 0, 0, 4095, 0, 0, by decide⟩,
   ⟨0, live .run, by decide⟩⟩

/-- What `Obligations.RedundantPair` assumes is met. -/
theorem witness_redundant_pair :
    (∃ (t h : Nat) (s : State), let a := s.at t; a.ozOn = true ∧ a.oz.hbAt = some h ∧ a.flag OZX_PSTAT_PARTNER_OK = true ∧ h + 281600 ≤ a.now ∧ (a.protecting = false ∨ a.leads = true)) ∧
    (∃ (t h : Nat) (s : State), let a := s.at t; a.ozOn = true ∧ a.oz.hbAt = some h ∧ a.flag OZX_PSTAT_PARTNER_OK = true ∧ h + 281600 ≤ a.now ∧ a.protecting = true ∧ a.leads = false) ∧
    (∃ (t : Nat) (s : State), ∃ (d : Nat), let a := s.at t; a.paired = true ∧ a.protecting = true ∧ a.oz.hbDue = some d ∧ a.oz.relNext = false) ∧
    (∃ (t : Nat) (s : State), let a := s.at t; a.paired = true ∧ a.protecting = true ∧ a.oz.hbDue = none) ∧
    (∃ (t q pk : Nat) (test holds : Bool) (s : State), let a := s.at t; q < 256 ∧ pk < 8 ∧ a.paired = true ∧ a.linkUp 0 = true ∧ (a.ozAccept 0 q).1 = true) ∧
    (∃ (s : State) (test : Bool), s.leads = true ∧ s.sys.straps.partner = true) ∧
    (∃ (s : State) (test : Bool), s.leads = false) ∧
    (∃ (s : State) (test : Bool), s.leads = true ∧ s.sys.straps.partner = false) ∧
    (∃ (s : State) (test : Bool), s.leads = false ∧ s.mode = .run ∧ (test = true ∨ s.sys.straps.partner = false)) ∧
    (∃ (s : State) (test : Bool), s.leads = false ∧ (s.mode ≠ .run ∨ test = false ∧ s.sys.straps.partner = true)) ∧
    (∃ (s : State) (test : Bool), s.leads = true) ∧
    (∃ (t w : Nat) (s : State), let a := s.at t; a.oz.waitFrom = some w ∧ a.protecting = true ∧ w + a.getF OZX_PCFG_PAIR_WAIT * msU ≤ a.now ∧ a.leads = true) ∧
    (∃ (t w : Nat) (s : State), let a := s.at t; a.oz.waitFrom = some w ∧ a.protecting = true ∧ w + a.getF OZX_PCFG_PAIR_WAIT * msU ≤ a.now ∧ a.leads = false) ∧
    (∃ (t d ns : Nat) (e : Nat × Nat) (s : State), let a := s.at t; ns < 1000000000 ∧ a.paired = true ∧ a.linkUp 0 = true ∧ a.oz.digs.find? (fun e => a.tauNear e.2 ns) = some e ∧ e.1 = d) ∧
    (∃ (t d ns : Nat) (e : Nat × Nat) (s : State), let a := s.at t; let r := ({ a with oz := { a.oz with mism := a.oz.mism + 1 } }).incSat OZX_PCNT_DIGCNT; ns < 1000000000 ∧ a.paired = true ∧ a.linkUp 0 = true ∧ a.oz.digs.find? (fun e => a.tauNear e.2 ns) = some e ∧ e.1 ≠ d ∧ a.oz.mism + 1 ≠ r.getF OZX_PCFG_DIG_N) ∧
    (∃ (t d ns : Nat) (e : Nat × Nat) (s : State), let a := s.at t; let r := ({ a with oz := { a.oz with mism := a.oz.mism + 1 } }).incSat OZX_PCNT_DIGCNT; ns < 1000000000 ∧ a.paired = true ∧ a.linkUp 0 = true ∧ a.oz.digs.find? (fun e => a.tauNear e.2 ns) = some e ∧ e.1 ≠ d ∧ a.oz.mism + 1 = r.getF OZX_PCFG_DIG_N) ∧
    (∃ (t q cb st : Nat) (s : State), let a := s.at t; q < 256 ∧ a.paired = true ∧ a.linkUp 0 = true ∧ (a.ozAccept 0 q).1 = true ∧ cb < 32 ∧ st < 4294967296) ∧
    (∃ (t q cb st : Nat) (s : State), let a := s.at t; let r := (a.ozAccept 0 q).2; q < 256 ∧ a.paired = true ∧ a.linkUp 0 = true ∧ (a.ozAccept 0 q).1 = true ∧ st < 2 ^ 64 ∧ st = r.oz.imgDig) ∧
    (∃ (t q cb st : Nat) (s : State), let a := s.at t; let r := (a.ozAccept 0 q).2; q < 256 ∧ a.paired = true ∧ a.linkUp 0 = true ∧ (a.ozAccept 0 q).1 = true ∧ st < 2 ^ 64 ∧ st ≠ r.oz.imgDig) :=
  ⟨⟨0, 0, { ((pair (fun o => { o with hbAt := some 0 })).setFlag OZX_PSTAT_PARTNER_OK true).setFlag OZX_PSTAT_HOLDS true with now := 281600 }, by decide⟩,
   ⟨0, 0, { (pair (fun o => { o with hbAt := some 0 })).setFlag OZX_PSTAT_PARTNER_OK true with now := 281600 }, by decide⟩,
   ⟨0, pair (fun o => { o with hbDue := some 7 }), 7, by decide⟩,
   ⟨0, pair (fun o => o), by decide⟩,
   ⟨0, 255, 7, true, true, pair (fun o => o), by decide⟩,
   ⟨({ live .run with sys := { (live .run).sys with straps := ⟨true, false, false, false⟩ } }).setFlag OZX_PSTAT_HOLDS true, true, by decide⟩,
   ⟨live .run |> fun s => s.setFlag OZX_CFG_PAIR true, true, by decide⟩,
   ⟨(live .run).setFlag OZX_PSTAT_HOLDS true, true, by decide⟩,
   ⟨live .run |> fun s => s.setFlag OZX_CFG_PAIR true, true, by decide⟩,
   ⟨live .test, false, by decide⟩,
   ⟨(live .run).setFlag OZX_PSTAT_HOLDS true, false, by decide⟩,
   ⟨0, 0, { (pair (fun o => { o with waitFrom := some 0 })).setFlag OZX_PSTAT_HOLDS true with now := 10 ^ 30 }, by decide⟩,
   ⟨0, 0, { pair (fun o => { o with waitFrom := some 0 }) with now := 10 ^ 30 }, by decide⟩,
   ⟨0, 5, 999999999, (5, 0), pair (fun o => { o with digs := [(5, 0)] }), by decide⟩,
   ⟨0, 6, 999999999, (5, 0), pair (fun o => { o with digs := [(5, 0)] }), by decide⟩,
   ⟨0, 6, 999999999, (5, 0), (pair (fun o => { o with digs := [(5, 0)] })).setF OZX_PCFG_DIG_N 1, by decide⟩,
   ⟨0, 255, 31, 4294967295, pair (fun o => o), by decide⟩,
   ⟨0, 255, 0, 2 ^ 64 - 1, pair (fun o => { o with imgDig := 2 ^ 64 - 1 }), by decide⟩,
   ⟨0, 255, 0, 2 ^ 64 - 1, pair (fun o => o), by decide⟩⟩

/-- What `Obligations.CommandReception` assumes is met. -/
theorem witness_command_reception :
    (∃ (t : Nat) (r : Requester) (s : State), let a := s.at t; a.trAlive (reqIdx r) = true ∧ a.trAlive 0 = true ∧ a.judge r CMD_DB = .allowed ∧ a.flag CMD_STAT_BUSY = false) ∧
    (∃ (t : Nat) (r : Requester) (s : State), let a := s.at t; a.trAlive (reqIdx r) = true ∧ a.trAlive 0 = true ∧ a.judge r CMD_DB = .allowed ∧ a.flag CMD_STAT_BUSY = true) ∧
    (∃ (t src frag n x0 x1 : Nat) (d : List Nat) (s : State), let a := s.at t; let dst := a.getF NET_MAC_LO_MACL + 4294967296 * a.getF NET_MAC_HI_MACH; a.trAlive 1 = true ∧ a.flag (NET_PCFG_EN 2) = true ∧ dst < 2 ^ 48 ∧ src < 2 ^ 48 ∧ frag < 256 ∧ n < 256 ∧ x0 < 256 ∧ x1 < 256 ∧ d.length ≤ 1496 ∧ (∀ b ∈ d, b < 256) ∧ a.cmd.reasm = none ∧ frag = 0 ∧ n = 1 ∧ 16 ≤ d.length) ∧
    (∃ (t src frag n x0 x1 : Nat) (d : List Nat) (s : State), let a := s.at t; let dst := a.getF NET_MAC_LO_MACL + 4294967296 * a.getF NET_MAC_HI_MACH; a.trAlive 1 = true ∧ a.flag (NET_PCFG_EN 2) = true ∧ dst < 2 ^ 48 ∧ src < 2 ^ 48 ∧ frag < 256 ∧ n < 256 ∧ x0 < 256 ∧ x1 < 256 ∧ d.length ≤ 1496 ∧ (∀ b ∈ d, b < 256) ∧ a.cmd.reasm = none ∧ frag = 0 ∧ (n = 2 ∨ n = 3) ∧ d.length = 1496) ∧
    (∃ (t src frag n x0 x1 : Nat) (d : List Nat) (s : State), ∃ q, let a := s.at t; let xid := x0 + 256 * x1; let dst := a.getF NET_MAC_LO_MACL + 4294967296 * a.getF NET_MAC_HI_MACH; a.trAlive 1 = true ∧ a.flag (NET_PCFG_EN 2) = true ∧ dst < 2 ^ 48 ∧ src < 2 ^ 48 ∧ frag < 256 ∧ n < 256 ∧ x0 < 256 ∧ x1 < 256 ∧ d.length ≤ 1496 ∧ (∀ b ∈ d, b < 256) ∧ a.cmd.reasm = some q ∧ a.now ≤ q.from_ + 10 * msU ∧ q.xid = xid ∧ q.next = frag ∧ q.n = n ∧ frag + 1 = n ∧ 16 ≤ q.bytes.length) ∧
    (∃ (t src frag n x0 x1 : Nat) (d : List Nat) (s : State), ∃ q, let a := s.at t; let xid := x0 + 256 * x1; let dst := a.getF NET_MAC_LO_MACL + 4294967296 * a.getF NET_MAC_HI_MACH; a.trAlive 1 = true ∧ a.flag (NET_PCFG_EN 2) = true ∧ dst < 2 ^ 48 ∧ src < 2 ^ 48 ∧ frag < 256 ∧ n < 256 ∧ x0 < 256 ∧ x1 < 256 ∧ d.length ≤ 1496 ∧ (∀ b ∈ d, b < 256) ∧ a.cmd.reasm = some q ∧ a.now ≤ q.from_ + 10 * msU ∧ q.xid = xid ∧ q.next ≠ frag) ∧
    (∃ (t src frag n x0 x1 : Nat) (d : List Nat) (s : State), ∃ q, let a := s.at t; let xid := x0 + 256 * x1; let dst := a.getF NET_MAC_LO_MACL + 4294967296 * a.getF NET_MAC_HI_MACH; a.trAlive 1 = true ∧ a.flag (NET_PCFG_EN 2) = true ∧ dst < 2 ^ 48 ∧ src < 2 ^ 48 ∧ frag < 256 ∧ n < 256 ∧ x0 < 256 ∧ x1 < 256 ∧ d.length ≤ 1496 ∧ (∀ b ∈ d, b < 256) ∧ a.cmd.reasm = some q ∧ a.now ≤ q.from_ + 10 * msU ∧ q.xid ≠ xid ∧ frag = 0 ∧ n = 1 ∧ 16 ≤ d.length) ∧
    (∃ (t : Nat) (r : Reasm) (s : State), let a := s.at t; a.cmd.reasm = some r ∧ r.from_ + 10 * msU < a.now) ∧
    (∃ (s : State) (tr xid src : Nat) (bs : List Nat), 4096 < leAt bs 4 4) ∧
    (∃ (s : State) (tr xid src : Nat) (bs : List Nat), leAt bs 4 4 ≤ 4096 ∧ (leAt bs 12 4 ≠ 0 ∨ 16 ≤ leAt bs 2 2)) ∧
    (∃ (s : State) (tr xid src : Nat) (bs : List Nat), let op := leAt bs 0 2; leAt bs 4 4 ≤ 4096 ∧ leAt bs 12 4 = 0 ∧ leAt bs 2 2 < 16 ∧ frameLen bs ≤ bs.length ∧ opRow op = none) ∧
    (∃ (s : State) (tr xid src : Nat) (bs : List Nat), let op := leAt bs 0 2; leAt bs 4 4 ≤ 4096 ∧ leAt bs 12 4 = 0 ∧ leAt bs 2 2 < 16 ∧ frameLen bs ≤ bs.length ∧ opRow op ≠ none ∧ tr = 1 ∧ s.portCBusy = true) ∧
    (∃ (s : State) (tr xid src : Nat) (bs : List Nat), let op := leAt bs 0 2; leAt bs 4 4 ≤ 4096 ∧ leAt bs 12 4 = 0 ∧ leAt bs 2 2 < 16 ∧ frameLen bs ≤ bs.length ∧ opRow op ≠ none ∧ (tr = 0 ∨ s.portCBusy = false)) ∧
    (∃ (s : State) (q : CmdReq), (q.tr ≠ 0 ∨ s.cmd.recvC ≠ s.now)) ∧
    (∃ (s : State) (q : CmdReq), q.tr = 0 ∧ s.cmd.recvC = s.now) :=
  ⟨⟨0, .portC, live .run, by decide⟩,
   ⟨0, .portC, (live .run).setFlag CMD_STAT_BUSY true, by decide⟩,
   ⟨0, 2 ^ 48 - 1, 0, 1, 255, 255, List.replicate 16 255, portC none, by decide⟩,
   ⟨0, 2 ^ 48 - 1, 0, 3, 255, 255, List.replicate 1496 255, portC none, by decide⟩,
   ⟨0, 2 ^ 48 - 1, 2, 3, 255, 255, [255], portC (some ⟨0xFFFF, 3, 2, List.replicate 1496 0, 0⟩), ⟨0xFFFF, 3, 2, List.replicate 1496 0, 0⟩, by decide⟩,
   ⟨0, 2 ^ 48 - 1, 2, 3, 255, 255, [255], portC (some ⟨0xFFFF, 3, 1, List.replicate 1496 0, 0⟩), ⟨0xFFFF, 3, 1, List.replicate 1496 0, 0⟩, by decide⟩,
   ⟨0, 2 ^ 48 - 1, 0, 1, 0, 255, List.replicate 16 255, portC (some ⟨0xFFFF, 3, 1, List.replicate 1496 0, 0⟩), ⟨0xFFFF, 3, 1, List.replicate 1496 0, 0⟩, by decide⟩,
   ⟨0, ⟨0xFFFF, 2, 1, List.replicate 1496 0, 0⟩, { portC (some ⟨0xFFFF, 2, 1, List.replicate 1496 0, 0⟩) with now := 10 * msU + 1 }, ⟨rfl, by decide⟩⟩,
   ⟨live .run, 1, 0xFFFF, 2 ^ 48 - 1, head0 0x0101 4097 0, by decide⟩,
   ⟨live .run, 1, 0xFFFF, 2 ^ 48 - 1, head0 0x0101 4096 1, by decide⟩,
   ⟨live .run, 1, 0xFFFF, 2 ^ 48 - 1, head0 0xFFFF 0 0, by decide⟩,
   ⟨{ live .run with cmd := { (live .run).cmd with svc := [⟨1, 0x0101, 0, [], [], 0, 0, none, [], false⟩] } }, 1, 0xFFFF, 2 ^ 48 - 1, head0 0x0101 0 0, by decide⟩,
   ⟨live .run, 1, 0xFFFF, 2 ^ 48 - 1, head0 0x0101 0 0, by decide⟩,
   ⟨{ live .run with now := 1 }, req 0x0601 [] [], by decide⟩,
   ⟨live .run, req 0x0601 [] [], by decide⟩⟩

/-- What `Obligations.Authentication` assumes is met. -/
theorem witness_authentication :
    (∃ (s : State) (q : CmdReq) (sec : Bool), s.limited q.tr = true) ∧
    (∃ (s : State) (q : CmdReq) (sec : Bool), let slot := byteAt q.frame 2 / 2 % 8; let k := s.keySlot slot; let fl := byteAt q.frame 2; s.limited q.tr = false ∧ (fl % 2 = 0 ∨ k.st ≠ 1)) ∧
    (∃ (s : State) (q : CmdReq) (sec : Bool), let slot := byteAt q.frame 2 / 2 % 8; let k := s.keySlot slot; let fl := byteAt q.frame 2; let n := q.frame.length - 16; s.limited q.tr = false ∧ fl % 2 = 1 ∧ k.st = 1 ∧ q.frame.drop n ≠ tagOfMsg k.key (q.frame.take n)) ∧
    (∃ (s : State) (q : CmdReq) (sec : Bool), let slot := byteAt q.frame 2 / 2 % 8; let k := s.keySlot slot; let fl := byteAt q.frame 2; let n := q.frame.length - 16; let world := bitN (s.getF (SEC_WMAP_MAP 7)) q.tr || bitN (s.getF (SEC_WMAP_MAP 7)) (8 + slot); let good := s.limited q.tr = false ∧ fl % 2 = 1 ∧ k.st = 1 ∧ q.frame.drop n = tagOfMsg k.key (q.frame.take n); good ∧ sec = true ∧ world = false) ∧
    (∃ (s : State) (q : CmdReq) (sec : Bool), let slot := byteAt q.frame 2 / 2 % 8; let k := s.keySlot slot; let fl := byteAt q.frame 2; let n := q.frame.length - 16; let world := bitN (s.getF (SEC_WMAP_MAP 7)) q.tr || bitN (s.getF (SEC_WMAP_MAP 7)) (8 + slot); let ctr := leAt q.frame 16 8; let last := lget 0 s.mram.keyCnt slot; let good := s.limited q.tr = false ∧ fl % 2 = 1 ∧ k.st = 1 ∧ q.frame.drop n = tagOfMsg k.key (q.frame.take n); good ∧ (sec = false ∨ world = true) ∧ last < ctr) ∧
    (∃ (s : State) (q : CmdReq) (sec : Bool), let slot := byteAt q.frame 2 / 2 % 8; let k := s.keySlot slot; let fl := byteAt q.frame 2; let n := q.frame.length - 16; let world := bitN (s.getF (SEC_WMAP_MAP 7)) q.tr || bitN (s.getF (SEC_WMAP_MAP 7)) (8 + slot); let ctr := leAt q.frame 16 8; let last := lget 0 s.mram.keyCnt slot; let good := s.limited q.tr = false ∧ fl % 2 = 1 ∧ k.st = 1 ∧ q.frame.drop n = tagOfMsg k.key (q.frame.take n); good ∧ (sec = false ∨ world = true) ∧ ctr < last) ∧
    (∃ (s : State) (q : CmdReq) (sec : Bool), ∃ rsp, let slot := byteAt q.frame 2 / 2 % 8; let k := s.keySlot slot; let fl := byteAt q.frame 2; let n := q.frame.length - 16; let world := bitN (s.getF (SEC_WMAP_MAP 7)) q.tr || bitN (s.getF (SEC_WMAP_MAP 7)) (8 + slot); let ctr := leAt q.frame 16 8; let last := lget 0 s.mram.keyCnt slot; let good := s.limited q.tr = false ∧ fl % 2 = 1 ∧ k.st = 1 ∧ q.frame.drop n = tagOfMsg k.key (q.frame.take n); good ∧ (sec = false ∨ world = true) ∧ ctr = last ∧ lget none s.sec.cache slot = some (q.frame, rsp)) ∧
    (∃ (s : State) (q : CmdReq) (sec : Bool), let slot := byteAt q.frame 2 / 2 % 8; let k := s.keySlot slot; let fl := byteAt q.frame 2; let n := q.frame.length - 16; let world := bitN (s.getF (SEC_WMAP_MAP 7)) q.tr || bitN (s.getF (SEC_WMAP_MAP 7)) (8 + slot); let ctr := leAt q.frame 16 8; let last := lget 0 s.mram.keyCnt slot; let good := s.limited q.tr = false ∧ fl % 2 = 1 ∧ k.st = 1 ∧ q.frame.drop n = tagOfMsg k.key (q.frame.take n); good ∧ (sec = false ∨ world = true) ∧ ctr = last ∧ (∀ rsp, lget none s.sec.cache slot ≠ some (q.frame, rsp))) ∧
    (∃ (s : State) (tr slot : Nat), let old := (lget [] s.sec.fails tr).filter (fun u => s.now < u + 60 * secU); s.flag SEC_STAT_AFAIL_SEEN = true ∧ s.sec.limit.length = 2 ∧ s.sec.fails.length = 2 ∧ tr < 2 ∧ 15 ≤ old.length) ∧
    (∃ (s : State) (tr slot : Nat), let old := (lget [] s.sec.fails tr).filter (fun u => s.now < u + 60 * secU); s.flag SEC_STAT_AFAIL_SEEN = true ∧ s.sec.limit.length = 2 ∧ s.sec.fails.length = 2 ∧ tr < 2 ∧ old.length < 15) ∧
    (∃ (s : State) (tr slot : Nat), s.flag SEC_STAT_AFAIL_SEEN = true ∧ s.sec.limit.length = 2 ∧ s.sec.fails.length = 2 ∧ tr < 2) ∧
    (∃ (s : State) (tr slot : Nat), s.flag SEC_STAT_AFAIL_SEEN = false) ∧
    (∃ (t tr e : Nat) (s : State), let a := s.at t; tr < 2 ∧ lget none a.sec.limit tr = some e ∧ e ≤ a.now) :=
  ⟨⟨{ live .run with sec := { (live .run).sec with limit := [some 1, none] } }, req 0 [] [], false, by decide⟩,
   ⟨live .run, req 0 [] [], false, by decide⟩,
   ⟨(order (live .run) 0x0601 []), req 0 [] (msg1 ++ List.replicate 16 255), false, by decide +kernel⟩,
   ⟨(order (live .run) 0x0601 []), (req 0x0601 [] (msg1 ++ tagOfMsg [] msg1)), true, by decide +kernel⟩,
   ⟨sec (order (live .run) 0x0601 []), (req 0x0601 [] (msg1 ++ tagOfMsg [] msg1)), true, by decide +kernel⟩,
   ⟨{ sec (order (live .run) 0x0601 []) with mram := { (live .run).mram with keyCnt := List.replicate 8 2 } }, (req 0x0601 [] (msg1 ++ tagOfMsg [] msg1)), true, by decide +kernel⟩,
   ⟨{ { sec (order (live .run) 0x0601 []) with mram := { (live .run).mram with keyCnt := List.replicate 8 1 } } with sec := { (order (live .run) 0x0601 []).sec with cache := [some (msg1 ++ tagOfMsg [] msg1, [])] } }, (req 0x0601 [] (msg1 ++ tagOfMsg [] msg1)), true, [], by decide +kernel⟩,
   ⟨{ sec (order (live .run) 0x0601 []) with mram := { (live .run).mram with keyCnt := List.replicate 8 1 } }, (req 0x0601 [] (msg1 ++ tagOfMsg [] msg1)), true, ⟨by decide +kernel, by decide +kernel, by decide +kernel, fun rsp h => by cases h⟩⟩,
   ⟨{ (live .run).setFlag SEC_STAT_AFAIL_SEEN true with sec := { (live .run).sec with fails := [[], List.replicate 15 0] } }, 1, 7, by decide⟩,
   ⟨{ (live .run).setFlag SEC_STAT_AFAIL_SEEN true with sec := { (live .run).sec with fails := [[], List.replicate 14 0] } }, 1, 7, by decide⟩,
   ⟨(live .run).setFlag SEC_STAT_AFAIL_SEEN true, 1, 7, by decide⟩,
   ⟨live .run, 1, 7, by decide⟩,
   ⟨0, 1, 0, { live .run with sec := { (live .run).sec with limit := [none, some 0] } }, by decide⟩⟩

/-- What `Obligations.RefusalsAndResponses` assumes is met. -/
theorem witness_refusals_and_responses :
    (∃ (n : Nat), n < 2 ^ 128) ∧
    (∃ (d : List Nat), (∀ x ∈ d, x < 256)) ∧
    (∃ (s : State) (q : CmdReq), (s.mode = .run ∨ s.mode = .test)) ∧
    (∃ (s : State) (q : CmdReq), s.mode = .safe) ∧
    (∃ (s : State) (q : CmdReq), s.mode = .boot) ∧
    (∃ (t : Nat) (s : State) (q : CmdReq) (rest : List CmdReq) (row : OpRow), ∃ v b, let a := s.at t; let c : State := { a with cmd := { a.cmd with svc := rest } }; a.cmd.svc = q :: rest ∧ q.op = 0x0601 ∧ opRow q.op = some row ∧ a.cmd.modeWait = none ∧ a.refLost = false ∧ c.authenticate q false = (.run v, b) ∧ v.payload.length ≠ 16) ∧
    (∃ (t : Nat) (s : State) (q : CmdReq) (rest : List CmdReq) (row : OpRow), ∃ v b, let a := s.at t; let c : State := { a with cmd := { a.cmd with svc := rest } }; a.cmd.svc = q :: rest ∧ q.op = 0x0601 ∧ opRow q.op = some row ∧ a.cmd.modeWait = none ∧ a.refLost = false ∧ c.authenticate q false = (.run v, b) ∧ v.payload.length = 16 ∧ b.mode = .safe ∧ v.op = 0x0601) ∧
    (∃ (t : Nat) (s : State) (q : CmdReq) (rest : List CmdReq) (row : OpRow), ∃ v b, let a := s.at t; let c : State := { a with cmd := { a.cmd with svc := rest } }; a.cmd.svc = q :: rest ∧ q.op = 0x0601 ∧ opRow q.op = some row ∧ a.cmd.modeWait = none ∧ a.refLost = false ∧ c.authenticate q false = (.run v, b) ∧ v.payload.length = 16 ∧ b.mode = .boot ∧ v.op = 0x0601) ∧
    (∃ (s : State) (q : CmdReq) (st : Status) (d : Nat) (out : List Nat), q.auth = none ∧ q.tr = 0 ∧ out.length ≤ 4096) ∧
    (∃ (s : State) (q : CmdReq) (st : Status) (d slot ctr : Nat) (out : List Nat), q.auth = some (slot, ctr) ∧ ctr ≠ 0xFFFFFFFFFFFFFFFF ∧ slot < s.sec.cache.length) ∧
    (∃ (s : State) (q v : CmdReq) (row : OpRow) (b : State), s.cmd.svc = [q] ∧ q.op = 0x0101 ∧ opRow 0x0101 = some row ∧ s.cmd.modeWait = none ∧
      s.refLost = false ∧ (s.critOf q row.crit).1 = false ∧ byteAt q.frame 2 % 2 = 0 ∧ v = q ∧ b = { s with cmd := { s.cmd with svc := [] } } ∧ row.hi < v.payload.length) ∧
    (∃ (s : State) (q v : CmdReq) (row : OpRow) (b : State), s.cmd.svc = [q] ∧ q.op = 0x0106 ∧ opRow 0x0106 = some row ∧ s.cmd.modeWait = none ∧
      s.refLost = false ∧ (s.critOf q row.crit).1 = false ∧ byteAt q.frame 2 % 2 = 0 ∧ v = q ∧ b = { s with cmd := { s.cmd with svc := [] } } ∧
      row.lo ≤ v.payload.length ∧ v.payload.length ≤ row.hi ∧ b.modeAllows v = false) :=
  ⟨⟨0, by decide⟩,
   ⟨[255], by decide⟩,
   ⟨live .run, req 0x0601 [] [], by decide⟩,
   ⟨live .safe, req 0x0601 [] [], by decide⟩,
   ⟨live .boot, req 0x0601 [] [], by decide⟩,
   ⟨0, order (live .run) 0x0601 (List.replicate 15 0), req 0x0601 (List.replicate 15 0) (msg1 ++ tagOfMsg [] msg1), [], ⟨.yes, 16, 16⟩, vreq (live .run) 0x0601 (List.replicate 15 0), ran (live .run) 0x0601 (List.replicate 15 0), ⟨rfl, rfl, rfl, rfl, rfl, auth_runs { order (live .run) 0x0601 (List.replicate 15 0) with cmd := { (order (live .run) 0x0601 (List.replicate 15 0)).cmd with svc := [] } } 0x0601 _ false rfl rfl rfl rfl, by decide⟩⟩,
   ⟨0, order (live .safe) 0x0601 (List.replicate 16 0), req 0x0601 (List.replicate 16 0) (msg1 ++ tagOfMsg [] msg1), [], ⟨.yes, 16, 16⟩, vreq (live .safe) 0x0601 (List.replicate 16 0), ran (live .safe) 0x0601 (List.replicate 16 0), ⟨rfl, rfl, rfl, rfl, rfl, auth_runs { order (live .safe) 0x0601 (List.replicate 16 0) with cmd := { (order (live .safe) 0x0601 (List.replicate 16 0)).cmd with svc := [] } } 0x0601 _ false rfl rfl rfl rfl, rfl, rfl, rfl⟩⟩,
   ⟨0, order (live .boot) 0x0601 (List.replicate 16 0), req 0x0601 (List.replicate 16 0) (msg1 ++ tagOfMsg [] msg1), [], ⟨.yes, 16, 16⟩, vreq (live .boot) 0x0601 (List.replicate 16 0), ran (live .boot) 0x0601 (List.replicate 16 0), ⟨rfl, rfl, rfl, rfl, rfl, auth_runs { order (live .boot) 0x0601 (List.replicate 16 0) with cmd := { (order (live .boot) 0x0601 (List.replicate 16 0)).cmd with svc := [] } } 0x0601 _ false rfl rfl rfl rfl, rfl, rfl, rfl⟩⟩,
   ⟨live .run, req 0x0101 [] [], .ok, 0, List.replicate 4096 255, by decide⟩,
   ⟨live .run, vreq (live .run) 0x0601 [], .ok, 0, 0, 1, [], by decide⟩,
   ⟨{ live .run with cmd := { (live .run).cmd with svc := [req 0x0101 [0] []] } }, req 0x0101 [0] [], _, _, _, rfl, rfl, rfl, rfl, rfl, rfl, rfl, rfl, rfl, by decide⟩,
   ⟨{ live .boot with cmd := { (live .boot).cmd with svc := [req 0x0106 [] []] } }, req 0x0106 [] [], _, _, _, rfl, rfl, rfl, rfl, rfl, rfl, rfl, rfl, rfl, by decide, by decide, by decide⟩⟩

/-- What `Obligations.SystemOrders` assumes is met. -/
theorem witness_system_orders :
    (∃ (t u : Nat) (s : State), let a := s.at t; a.sys.refPresent = true ∧ a.cmd.forceEnd = some u ∧ u ≤ a.now) ∧
    (∃ s : State, ∃ (p : Nat), s.pod.pods.length = 3 ∧ p < 2) ∧
    Meets 0x0101 (fun _ _ => True) ∧
    Meets 0x0102 (fun q _ => payN q 0 4 % 4 = 0 ∧ 1 ≤ payN q 4 4 ∧ payN q 4 4 ≤ 1024 ∧ payN q 0 4 + 4 * payN q 4 4 ≤ 0x800000) ∧
    Meets 0x0102 (fun q _ => payN q 0 4 % 4 ≠ 0 ∨ payN q 4 4 = 0) ∧
    Meets 0x0103 (fun q _ => payN q 0 4 % 4 = 0 ∧ 1 ≤ payN q 4 4 ∧ payN q 4 4 ≤ 1022 ∧ q.payload.length = 8 + 4 * payN q 4 4) ∧
    Meets 0x0104 (fun q _ => payN q 0 4 ≤ 1) ∧
    Meets 0x0104 (fun q _ => 1 < payN q 0 4) ∧
    Meets 0x0105 (fun _ _ => True) ∧
    Meets 0x0106 (fun _ _ => True) ∧
    Meets 0x0201 (fun q s => payN q 0 4 = 2 ∧ s.mode = .run ∧ s.testDenied = false) ∧
    Meets 0x0201 (fun q s => payN q 0 4 = 1 ∧ s.mode = .test ∧ s.runDenied = false) ∧
    Meets 0x0201 (fun q s => (payN q 0 4 = 2 ∧ s.mode = .run ∧ s.testDenied = true) ∨ (payN q 0 4 = 1 ∧ s.mode = .test ∧ s.runDenied = true)) ∧
    Meets 0x0202 (fun q s => s.mode = .test ∧ payN q 0 4 ≠ 0 ∧ 1 ≤ payN q 8 4 ∧ payN q 8 4 ≤ 60000 ∧ Nat.land (payN q 4 4) (payN q 0 4) = payN q 4 4 ∧ Nat.land (Nat.lor (payN q 0 4) (payN q 4 4)) s.outputsOn = Nat.lor (payN q 0 4) (payN q 4 4)) ∧
    Meets 0x0202 (fun _ s => s.mode ≠ .test) ∧
    Meets 0x0206 (fun q s => s.mode = .test ∧ ∃ k c, q.auth = some (k, c) ∧ bitN (s.getF (SEC_WMAP_MAP 7)) (16 + k) = true) ∧
    Meets 0x0207 (fun _ s => s.podState 0 ≠ 5 ∧ s.podState 1 ≠ 5) ∧
    Meets 0x0207 (fun _ s => s.podState 0 = 5 ∨ s.podState 1 = 5) ∧
    Meets 0x0A01 (fun _ s => s.paired = true ∧ s.leads = true ∧ s.flag OZX_PSTAT_PARTNER_OK = true ∧ s.flag OZX_PSTAT_P_TEST = false) ∧
    Meets 0x0A01 (fun _ s => s.leads = false) :=
  ⟨⟨0, 1, { live .run with cmd := { (live .run).cmd with forceEnd := some 1 }, now := 1 }, by decide⟩,
   ⟨live .run, 1, by decide⟩,
   meets (live .boot) [] (by decide) (by beta_reduce; decide),
   meets (live .run) (leBytes 4 0x7FFFFC ++ leBytes 4 0x1) (by decide) (by beta_reduce; decide),
   meets (live .run) (leBytes 4 0x0 ++ leBytes 4 0x0) (by decide) (by beta_reduce; decide),
   meets (live .run) (leBytes 4 0x0 ++ leBytes 4 0x1 ++ leBytes 4 0x0) (by decide) (by beta_reduce; decide),
   meets (live .run) (leBytes 4 0x1) (by decide) (by beta_reduce; decide),
   meets (live .run) (leBytes 4 0x2) (by decide) (by beta_reduce; decide),
   meets (live .run) [] (by decide) (by beta_reduce; decide),
   meets (live .run) [] (by decide) (by beta_reduce; decide),
   meets (live .run) (leBytes 4 0x2) (by decide) (by beta_reduce; decide),
   meets ((upto 8).foldl (fun s g => s.setF (FLT_GSTAT_STATE g) 1) (live .test)) (leBytes 4 0x1) (by decide) (by beta_reduce; decide),
   meets ((live .run).setF TRP_DRV_ARM_DARM 1) (leBytes 4 0x2) (by decide) (by beta_reduce; decide),
   meets (((live .test).setFlag (TRP_OCFG_EN 31) true)) (leBytes 4 0x80000000 ++ leBytes 4 0x80000000 ++ leBytes 4 0xEA60) (by decide) (by beta_reduce; decide),
   meets (live .run) (leBytes 4 0x0 ++ leBytes 4 0x0 ++ leBytes 4 0x0) (by decide) (by beta_reduce; decide),
   meets (sec (live .test)) [] (by decide) (⟨by decide, 0, 1, rfl, by decide⟩),
   meets (live .run) [] (by decide) (by beta_reduce; decide),
   meets ((live .run).setF (POD_STAT_STATE 1) 5) [] (by decide) (by beta_reduce; decide),
   meets ((((live .run).setFlag OZX_CFG_PAIR true).setFlag OZX_PSTAT_HOLDS true).setFlag OZX_PSTAT_PARTNER_OK true) [] (by decide) (by beta_reduce; decide),
   meets (live .run) [] (by decide) (by beta_reduce; decide)⟩

/-- What `Obligations.BayAndRecorderOrders` assumes is met. -/
theorem witness_bay_and_recorder_orders :
    Meets 0x0203 (fun _ _ => True) ∧
    Meets 0x0204 (fun q s => s.mode = .test ∧ payN q 0 2 < 512 ∧ s.podState (s.bayPod (s.elBay (payN q 0 2))) ≠ 2 ∧ s.elType (payN q 0 2) ≠ 0 ∧ 2 ≤ payN q 2 1 ∧ payN q 2 1 ≤ 29 ∧ s.settingOk (payN q 0 2) (payN q 2 1) (payN q 4 4) = true) ∧
    Meets 0x0204 (fun q s => s.mode = .test ∧ payN q 0 2 < 512 ∧ s.podState (s.bayPod (s.elBay (payN q 0 2))) = 2) ∧
    Meets 0x0205 (fun q s => payN q 0 2 < 12 ∧ s.flag (PRT_BAY1_EN (payN q 0 2)) = true ∧ payN q 2 2 < 4 ∧ s.flag (PRT_BAY1_GSRC (payN q 0 2)) = false) ∧
    Meets 0x0205 (fun q s => payN q 0 2 < 12 ∧ s.flag (PRT_BAY1_EN (payN q 0 2)) = true ∧ payN q 2 2 < 4 ∧ s.flag (PRT_BAY1_GSRC (payN q 0 2)) = true) ∧
    Meets 0x0301 (fun q s => (s.hasBkr (payN q 0 2) = true ∧ s.getF LGC_MODE_MODE = 1 ∧ (s.flag POD_LSTAT_SPLIT = false ∨ s.flag POD_LCFG_ALLOW_UNCHECKED_TRIP = true) ∧ ∀ r ∈ s.lgc.reqs, r.brk ≠ payN q 0 2) ∧ payN q 2 2 = 1) ∧
    Meets 0x0301 (fun q s => (s.hasBkr (payN q 0 2) = true ∧ s.getF LGC_MODE_MODE = 1 ∧ (s.flag POD_LSTAT_SPLIT = false ∨ s.flag POD_LCFG_ALLOW_UNCHECKED_TRIP = true) ∧ ∀ r ∈ s.lgc.reqs, r.brk ≠ payN q 0 2) ∧ payN q 2 2 = 2) ∧
    Meets 0x0302 (fun q s => (s.hasBkr (payN q 0 2) = true ∧ s.getF LGC_MODE_MODE = 1 ∧ (s.flag POD_LSTAT_SPLIT = false ∨ s.flag POD_LCFG_ALLOW_UNCHECKED_TRIP = true) ∧ ∀ r ∈ s.lgc.reqs, r.brk ≠ payN q 0 2) ∧ payN q 2 2 = 1) ∧
    Meets 0x0302 (fun q s => (s.hasBkr (payN q 0 2) = true ∧ s.getF LGC_MODE_MODE = 1 ∧ (s.flag POD_LSTAT_SPLIT = false ∨ s.flag POD_LCFG_ALLOW_UNCHECKED_TRIP = true) ∧ ∀ r ∈ s.lgc.reqs, r.brk ≠ payN q 0 2) ∧ payN q 2 2 = 2) ∧
    Meets 0x0303 (fun q s => (s.hasBkr (payN q 0 2) = true ∧ s.getF LGC_MODE_MODE = 1 ∧ (s.flag POD_LSTAT_SPLIT = false ∨ s.flag POD_LCFG_ALLOW_UNCHECKED_TRIP = true) ∧ ∀ r ∈ s.lgc.reqs, r.brk ≠ payN q 0 2)) ∧
    Meets 0x0302 (fun q s => s.hasBkr (payN q 0 2) = true ∧ payN q 2 2 = 1 ∧ s.getF LGC_MODE_MODE ≠ 1) ∧
    Meets 0x0304 (fun q s => payN q 0 2 < 32 ∧ s.bkrStatOf (payN q 0 2) = some 0) ∧
    Meets 0x0401 (fun q s => (payN q 0 4 < 8 ∧ s.flag (REC_CCFG_EN (payN q 0 4)) = true) ∧ s.protecting = true ∧ s.recState (payN q 0 4) ≠ 3 ∧ (s.recArm (payN q 0 4)).1 = .ok) ∧
    Meets 0x0401 (fun q s => (payN q 0 4 < 8 ∧ s.flag (REC_CCFG_EN (payN q 0 4)) = true) ∧ (s.protecting = false ∨ s.recState (payN q 0 4) = 3)) ∧
    Meets 0x0402 (fun q s => (payN q 0 4 < 8 ∧ s.flag (REC_CCFG_EN (payN q 0 4)) = true) ∧ s.recState (payN q 0 4) = 2) ∧
    Meets 0x0403 (fun q s => (payN q 0 4 < 8 ∧ s.flag (REC_CCFG_EN (payN q 0 4)) = true) ∧ s.protecting = true) ∧
    Meets 0x0403 (fun q _ => 8 ≤ payN q 0 4) ∧
    Meets 0x0404 (fun q s => (payN q 0 4 < 8 ∧ s.flag (REC_CCFG_EN (payN q 0 4)) = true)) ∧
    Meets 0x0405 (fun q s => payN q 0 4 < 4096 ∧ (s.regionSecure (s.segByte (payN q 0 4)) = false ∨ s.reqSecure (trReq q.tr) = true) ∧ (s.ridx (payN q 0 4)).st ≠ 3) ∧
    Meets 0x0405 (fun q s => payN q 0 4 < 4096 ∧ s.regionSecure (s.segByte (payN q 0 4)) = true ∧ s.reqSecure (trReq q.tr) = false) ∧
    Meets 0x0401 (fun q s => (payN q 0 4 < 8 ∧ s.flag (REC_CCFG_EN (payN q 0 4)) = true) ∧ s.protecting = true ∧ s.recState (payN q 0 4) = 0 ∧ ((s.setFlag (REC_CSTAT_MASKSTOP (payN q 0 4)) false).takeSeg (payN q 0 4) none).1 = some 0) ∧
    Meets 0x0401 (fun q s => (payN q 0 4 < 8 ∧ s.flag (REC_CCFG_EN (payN q 0 4)) = true) ∧ s.protecting = true ∧ s.recState (payN q 0 4) = 0 ∧ ((s.setFlag (REC_CSTAT_MASKSTOP (payN q 0 4)) false).takeSeg (payN q 0 4) none).1 = none) ∧
    Meets 0x0401 (fun q s => (payN q 0 4 < 8 ∧ s.flag (REC_CCFG_EN (payN q 0 4)) = true) ∧ s.protecting = true ∧ s.recState (payN q 0 4) ≠ 0 ∧ s.recState (payN q 0 4) ≠ 3) ∧
    Meets 0x0404 (fun q s => (payN q 0 4 < 8 ∧ s.flag (REC_CCFG_EN (payN q 0 4)) = true) ∧ s.protecting = true ∧ ((((s.setF (REC_CPRE_PRE (payN q 0 4)) (payN q 4 4)).setF (REC_CPOST_POST (payN q 0 4)) (payN q 8 4)).getF (REC_CPOST_POST (payN q 0 4))) = 0 ∨ (((s.setF (REC_CPRE_PRE (payN q 0 4)) (payN q 4 4)).setF (REC_CPOST_POST (payN q 0 4)) (payN q 8 4)).getF (REC_CCAP_CAP (payN q 0 4))) < (((s.setF (REC_CPRE_PRE (payN q 0 4)) (payN q 4 4)).setF (REC_CPOST_POST (payN q 0 4)) (payN q 8 4)).getF (REC_CPOST_POST (payN q 0 4))) ∨ (((s.setF (REC_CPRE_PRE (payN q 0 4)) (payN q 4 4)).setF (REC_CPOST_POST (payN q 0 4)) (payN q 8 4)).getF (REC_CCAP_CAP (payN q 0 4))) ≤ (((s.setF (REC_CPRE_PRE (payN q 0 4)) (payN q 4 4)).setF (REC_CPOST_POST (payN q 0 4)) (payN q 8 4)).getF (REC_CPRE_PRE (payN q 0 4))))) ∧
    Meets 0x0404 (fun q s => (payN q 0 4 < 8 ∧ s.flag (REC_CCFG_EN (payN q 0 4)) = true) ∧ s.protecting = true ∧ (((s.setF (REC_CPRE_PRE (payN q 0 4)) (payN q 4 4)).setF (REC_CPOST_POST (payN q 0 4)) (payN q 8 4)).getF (REC_CPOST_POST (payN q 0 4))) ≠ 0 ∧ (((s.setF (REC_CPRE_PRE (payN q 0 4)) (payN q 4 4)).setF (REC_CPOST_POST (payN q 0 4)) (payN q 8 4)).getF (REC_CPOST_POST (payN q 0 4))) ≤ (((s.setF (REC_CPRE_PRE (payN q 0 4)) (payN q 4 4)).setF (REC_CPOST_POST (payN q 0 4)) (payN q 8 4)).getF (REC_CCAP_CAP (payN q 0 4))) ∧ (((s.setF (REC_CPRE_PRE (payN q 0 4)) (payN q 4 4)).setF (REC_CPOST_POST (payN q 0 4)) (payN q 8 4)).getF (REC_CPRE_PRE (payN q 0 4))) < (((s.setF (REC_CPRE_PRE (payN q 0 4)) (payN q 4 4)).setF (REC_CPOST_POST (payN q 0 4)) (payN q 8 4)).getF (REC_CCAP_CAP (payN q 0 4))) ∧ (((s.setF (REC_CPRE_PRE (payN q 0 4)) (payN q 4 4)).setF (REC_CPOST_POST (payN q 0 4)) (payN q 8 4)).getF (REC_CCAP_CAP (payN q 0 4))) < (((s.setF (REC_CPRE_PRE (payN q 0 4)) (payN q 4 4)).setF (REC_CPOST_POST (payN q 0 4)) (payN q 8 4)).getF (REC_CPRE_PRE (payN q 0 4))) + (((s.setF (REC_CPRE_PRE (payN q 0 4)) (payN q 4 4)).setF (REC_CPOST_POST (payN q 0 4)) (payN q 8 4)).getF (REC_CPOST_POST (payN q 0 4)))) ∧
    Meets 0x0404 (fun q s => (payN q 0 4 < 8 ∧ s.flag (REC_CCFG_EN (payN q 0 4)) = true) ∧ s.protecting = true ∧ (((s.setF (REC_CPRE_PRE (payN q 0 4)) (payN q 4 4)).setF (REC_CPOST_POST (payN q 0 4)) (payN q 8 4)).getF (REC_CPOST_POST (payN q 0 4))) ≠ 0 ∧ (((s.setF (REC_CPRE_PRE (payN q 0 4)) (payN q 4 4)).setF (REC_CPOST_POST (payN q 0 4)) (payN q 8 4)).getF (REC_CPRE_PRE (payN q 0 4))) < (((s.setF (REC_CPRE_PRE (payN q 0 4)) (payN q 4 4)).setF (REC_CPOST_POST (payN q 0 4)) (payN q 8 4)).getF (REC_CCAP_CAP (payN q 0 4))) ∧ (((s.setF (REC_CPRE_PRE (payN q 0 4)) (payN q 4 4)).setF (REC_CPOST_POST (payN q 0 4)) (payN q 8 4)).getF (REC_CPRE_PRE (payN q 0 4))) + (((s.setF (REC_CPRE_PRE (payN q 0 4)) (payN q 4 4)).setF (REC_CPOST_POST (payN q 0 4)) (payN q 8 4)).getF (REC_CPOST_POST (payN q 0 4))) ≤ (((s.setF (REC_CPRE_PRE (payN q 0 4)) (payN q 4 4)).setF (REC_CPOST_POST (payN q 0 4)) (payN q 8 4)).getF (REC_CCAP_CAP (payN q 0 4)))) ∧
    Meets 0x0405 (fun q s => payN q 0 4 < 4096 ∧ (s.regionSecure (s.segByte (payN q 0 4)) = false ∨ s.reqSecure (trReq q.tr) = true) ∧ (s.ridx (payN q 0 4)).st = 3 ∧ ∀ c, s.segClass (payN q 0 4) = some c → (if s.tph.wsel = some (payN q 0 4) then { (s.setRidx (payN q 0 4) { s.ridx (payN q 0 4) with st := 4 }) with tph := { (s.setRidx (payN q 0 4) { s.ridx (payN q 0 4) with st := 4 }).tph with wsel := none } }.setFlag REC_WSTAT_SEL false else (s.setRidx (payN q 0 4) { s.ridx (payN q 0 4) with st := 4 })).flag (REC_CCFG_EN c) = false ∨ (if s.tph.wsel = some (payN q 0 4) then { (s.setRidx (payN q 0 4) { s.ridx (payN q 0 4) with st := 4 }) with tph := { (s.setRidx (payN q 0 4) { s.ridx (payN q 0 4) with st := 4 }).tph with wsel := none } }.setFlag REC_WSTAT_SEL false else (s.setRidx (payN q 0 4) { s.ridx (payN q 0 4) with st := 4 })).recState c ≠ 3) ∧
    Meets 0x0405 (fun q s => payN q 0 4 < 4096 ∧ (s.regionSecure (s.segByte (payN q 0 4)) = false ∨ s.reqSecure (trReq q.tr) = true) ∧ (s.ridx (payN q 0 4)).st = 3 ∧ s.segClass (payN q 0 4) = some 7 ∧ (if s.tph.wsel = some (payN q 0 4) then { (s.setRidx (payN q 0 4) { s.ridx (payN q 0 4) with st := 4 }) with tph := { (s.setRidx (payN q 0 4) { s.ridx (payN q 0 4) with st := 4 }).tph with wsel := none } }.setFlag REC_WSTAT_SEL false else (s.setRidx (payN q 0 4) { s.ridx (payN q 0 4) with st := 4 })).flag (REC_CCFG_EN 7) = true ∧ (if s.tph.wsel = some (payN q 0 4) then { (s.setRidx (payN q 0 4) { s.ridx (payN q 0 4) with st := 4 }) with tph := { (s.setRidx (payN q 0 4) { s.ridx (payN q 0 4) with st := 4 }).tph with wsel := none } }.setFlag REC_WSTAT_SEL false else (s.setRidx (payN q 0 4) { s.ridx (payN q 0 4) with st := 4 })).recState 7 = 3) :=
  ⟨meets (live .run) (leBytes 4 0xFFFFFFFF) (by decide) (by beta_reduce; decide),
   meets ({ oneInst 511 2 resetInst [0, 0, 0, 0, 0, 0, 0] with mode := .test }) [255, 1, 29, 0, 0, 0, 0, 0] (by decide) (by beta_reduce; decide),
   meets ((live .test).setF (POD_STAT_STATE 0) 2 |> fun s => s.setF (POD_STAT_STATE 1) 2) [255, 1, 29, 0, 0, 0, 0, 0] (by decide) (by beta_reduce; decide),
   meets (((live .run).setFlag (PRT_BAY1_EN 11) true).setFlag (PRT_BAY1_GSRC 11) false) (leBytes 2 0xB ++ leBytes 2 0x3) (by decide) (by beta_reduce; decide),
   meets (((live .run).setFlag (PRT_BAY1_EN 11) true).setFlag (PRT_BAY1_GSRC 11) true) (leBytes 2 0xB ++ leBytes 2 0x3) (by decide) (by beta_reduce; decide),
   meets (bkr) (leBytes 2 0x0 ++ leBytes 2 0x1) (by decide) (by beta_reduce; decide),
   meets (bkr) (leBytes 2 0x0 ++ leBytes 2 0x2) (by decide) (by beta_reduce; decide),
   meets (bkr) (leBytes 2 0x0 ++ leBytes 2 0x1) (by decide) (by beta_reduce; decide),
   meets (bkr) (leBytes 2 0x0 ++ leBytes 2 0x2) (by decide) (by beta_reduce; decide),
   meets (bkr) (leBytes 2 0x0 ++ leBytes 2 0x0) (by decide) (by beta_reduce; decide),
   meets (bkr.setF LGC_MODE_MODE 0) (leBytes 2 0x0 ++ leBytes 2 0x1) (by decide) (by beta_reduce; decide),
   meets (bkr) (leBytes 2 0x0 ++ leBytes 2 0x0) (by decide) (by beta_reduce; decide),
   meets ((live .run).setFlag (REC_CCFG_EN 7) true) (leBytes 4 0x7) (by decide) (by beta_reduce; decide),
   meets (((live .run).setFlag (REC_CCFG_EN 7) true).setF (REC_CSTAT_STATE 7) 3) (leBytes 4 0x7) (by decide) (by beta_reduce; decide),
   meets (((live .run).setFlag (REC_CCFG_EN 7) true).setF (REC_CSTAT_STATE 7) 2) (leBytes 4 0x7) (by decide) (by beta_reduce; decide),
   meets ((live .run).setFlag (REC_CCFG_EN 7) true) (leBytes 4 0x7) (by decide) (by beta_reduce; decide),
   meets (live .run) (leBytes 4 0x8) (by decide) (by beta_reduce; decide),
   meets ((live .run).setFlag (REC_CCFG_EN 7) true) (leBytes 4 0x7 ++ leBytes 4 0x0 ++ leBytes 4 0x0) (by decide) (by beta_reduce; decide),
   meets (live .run) (leBytes 4 0xFFF) (by decide) (by beta_reduce; decide),
   meets ((live .run).setF (SEC_WMAP_MAP 2) 0xFFFFFFFF) (leBytes 4 0xFFF) (by decide) (by beta_reduce; decide),
   meets (((live .run).setFlag (REC_CCFG_EN 7) true).setF (REC_CCFG_NSEG 7) 1) (leBytes 4 0x7) (by decide) (by beta_reduce; decide),
   meets (((live .run).setFlag (REC_CCFG_EN 7) true).setF (REC_CCFG_NSEG 7) 0) (leBytes 4 0x7) (by decide) (by beta_reduce; decide),
   meets (((live .run).setFlag (REC_CCFG_EN 7) true).setF (REC_CSTAT_STATE 7) 2) (leBytes 4 0x7) (by decide) (by beta_reduce; decide),
   meets (((live .run).setFlag (REC_CCFG_EN 7) true)) (leBytes 4 0x7 ++ leBytes 4 0x0 ++ leBytes 4 0x0) (by decide) (by beta_reduce; decide),
   meets (((live .run).setFlag (REC_CCFG_EN 7) true).setF (REC_CCAP_CAP 7) 10) (leBytes 4 0x7 ++ leBytes 4 0x5 ++ leBytes 4 0x6) (by decide) (by beta_reduce; decide),
   meets (((live .run).setFlag (REC_CCFG_EN 7) true).setF (REC_CCAP_CAP 7) 10) (leBytes 4 0x7 ++ leBytes 4 0x5 ++ leBytes 4 0x5) (by decide) (by beta_reduce; decide),
   meets ({ live .run with mram := { (live .run).mram with recIdx := [(4095, { resetIdx with st := 3 })] } }) (leBytes 4 0xFFF) (by decide) (⟨by decide, by decide, by decide, fun c h => absurd h (by rw [show State.segClass _ _ = none from by decide]; exact nofun)⟩),
   meets ({ (((live .run).setFlag (REC_CCFG_EN 7) true).setF (REC_CCFG_NSEG 7) 1).setF (REC_CSTAT_STATE 7) 3 with mram := { (live .run).mram with recIdx := [(0, { resetIdx with st := 3 })] } }) (leBytes 4 0x0) (by decide) (by beta_reduce; decide)⟩

/-- What `Obligations.LogicAndTimeOrders` assumes is met. -/
theorem witness_logic_and_time_orders :
    (∃ (k : Nat), k < 2) ∧
    Meets 0x0501 (fun q s => payN q 0 4 = 1 ∧ s.getF LGC_MODE_MODE = 0 ∧ s.flag POD_LSTAT_SPLIT = false ∧ s.hasProg 0 = true) ∧
    Meets 0x0501 (fun q s => payN q 0 4 ≤ 1 ∧ (s.getF LGC_MODE_MODE ≠ 0 ∨ s.flag POD_LSTAT_SPLIT = true)) ∧
    Meets 0x0502 (fun _ s => s.getF LGC_MODE_MODE = 1 ∧ (s.prog 0).scan.isSome = true) ∧
    Meets 0x0502 (fun _ s => s.getF LGC_MODE_MODE = 2) ∧
    Meets 0x0502 (fun _ s => s.getF LGC_MODE_MODE = 0 ∨ s.getF LGC_MODE_MODE = 3) ∧
    Meets 0x0503 (fun _ s => s.getF LGC_MODE_MODE = 1 ∧ s.flag POD_LSTAT_SPLIT = false) ∧
    Meets 0x0503 (fun _ s => s.getF LGC_MODE_MODE ≠ 1 ∨ s.flag POD_LSTAT_SPLIT = true) ∧
    Meets 0x0504 (fun _ s => s.getF LGC_MODE_MODE = 2 ∧ s.flag POD_LSTAT_SPLIT = false) ∧
    Meets 0x0505 (fun _ s => s.getF LGC_MODE_MODE = 2 ∧ s.flag POD_LSTAT_SPLIT = false) ∧
    Meets 0x0506 (fun _ s => s.podState 2 = 1 ∧ s.getF LGC_MODE_MODE = 1 ∧ s.flag POD_LCFG_ANA_EN = true ∧ s.bkrBusy = false ∧ s.getF LGC_XSTAT_XSTATE = 0) ∧
    Meets 0x0506 (fun _ s => s.podState 2 = 2) ∧
    Meets 0x0506 (fun _ s => s.podState 2 = 1 ∧ s.bkrBusy = true) ∧
    Meets 0x0507 (fun _ s => s.podState 2 = 6 ∧ s.getF LGC_MODE_MODE ≠ 0) ∧
    Meets 0x0507 (fun _ s => s.podState 2 = 6 ∧ s.getF LGC_MODE_MODE = 0) ∧
    Meets 0x0508 (fun _ s => s.getF LGC_MODE_MODE ≠ 3 ∧ s.flag POD_LSTAT_SPLIT = false ∧ s.lgc.joinFrom = none ∧ s.getF LGC_XSTAT_XSTATE = 0 ∧ s.flashWriting = false) ∧
    Meets 0x0508 (fun _ s => s.getF LGC_MODE_MODE ≠ 3 ∧ s.flag POD_LSTAT_SPLIT = false ∧ s.lgc.joinFrom = none ∧ s.getF LGC_XSTAT_XSTATE = 0 ∧ s.flashWriting = true) ∧
    Meets 0x0601 (fun q s => (payN q 0 4 < 4 ∧ payN q 4 4 < 1000000000 ∧ payN q 8 8 < 2 ^ 48) ∧ s.tbSrc (payN q 0 4) = 0 ∧ payN q 0 4 ≠ s.sampTb) ∧
    Meets 0x0601 (fun q s => (payN q 0 4 < 4 ∧ payN q 4 4 < 1000000000 ∧ payN q 8 8 < 2 ^ 48) ∧ s.tbSrc (payN q 0 4) = 0 ∧ payN q 0 4 = s.sampTb) ∧
    Meets 0x0601 (fun q s => (payN q 0 4 < 4 ∧ payN q 4 4 < 1000000000 ∧ payN q 8 8 < 2 ^ 48) ∧ s.tbSrc (payN q 0 4) = 4) ∧
    Meets 0x0601 (fun q s => (payN q 0 4 < 4 ∧ payN q 4 4 < 1000000000 ∧ payN q 8 8 < 2 ^ 48) ∧ s.tbSrc (payN q 0 4) ≠ 0 ∧ s.tbSrc (payN q 0 4) ≠ 4) ∧
    Meets 0x0601 (fun q _ => ¬ (payN q 0 4 < 4 ∧ payN q 4 4 < 1000000000 ∧ payN q 8 8 < 2 ^ 48)) ∧
    Meets 0x0604 (fun q s => payN q 0 4 < 4 ∧ s.tbState (payN q 0 4) = 4 ∧ payN q 0 4 = s.sampTb) ∧
    Meets 0x0604 (fun q s => payN q 0 4 < 4 ∧ s.tbState (payN q 0 4) = 4 ∧ payN q 0 4 ≠ s.sampTb ∧ s.flag TIM_SAMP_COMPAT = false) ∧
    Meets 0x0604 (fun q s => payN q 0 4 < 4 ∧ s.tbState (payN q 0 4) ≠ 4) :=
  ⟨⟨1, by decide⟩,
   meets ((lgc 0 [] resetBlk none).setF LGC_MODE_MODE 0) (leBytes 4 0x1) (by decide) (by beta_reduce; decide),
   meets (lgc 0 [] resetBlk none) (leBytes 4 0x1) (by decide) (by beta_reduce; decide),
   meets (lgc 0 [] resetBlk (some (scan1 none))) [] (by decide) (by beta_reduce; decide),
   meets ((lgc 0 [] resetBlk none).setF LGC_MODE_MODE 2) [] (by decide) (by beta_reduce; decide),
   meets ((lgc 0 [] resetBlk none).setF LGC_MODE_MODE 3) [] (by decide) (by beta_reduce; decide),
   meets (lgc 0 [] resetBlk none) [] (by decide) (by beta_reduce; decide),
   meets ((lgc 0 [] resetBlk none).setF LGC_MODE_MODE 2) [] (by decide) (by beta_reduce; decide),
   meets ((lgc 0 [] resetBlk none).setF LGC_MODE_MODE 2) [] (by decide) (by beta_reduce; decide),
   meets ((lgc 0 [] resetBlk none).setF LGC_MODE_MODE 2) [] (by decide) (by beta_reduce; decide),
   meets ((lgc 0 [] resetBlk none).setFlag POD_LCFG_ANA_EN true) [] (by decide) (by beta_reduce; decide),
   meets (pod 2 2) [] (by decide) (by beta_reduce; decide),
   meets (progs bkr (fun p => { p with mem := [(13, 1)] })) [] (by decide) (by beta_reduce; decide),
   meets ((lgc 0 [] resetBlk none).setF (POD_STAT_STATE 2) 6) [] (by decide) (by beta_reduce; decide),
   meets (((lgc 0 [] resetBlk none).setF LGC_MODE_MODE 0).setF (POD_STAT_STATE 2) 6) [] (by decide) (by beta_reduce; decide),
   meets (lgc 0 [] resetBlk none) [] (by decide) (by beta_reduce; decide),
   meets ({ lgc 0 [] resetBlk none with cmd := { (live .run).cmd with run := some (.flashErase 0x4000000 0, 0, 0) } }) [] (by decide) (by beta_reduce; decide),
   meets (live .run) (leBytes 4 0x3 ++ leBytes 4 0x3B9AC9FF ++ leBytes 4 0xFFFFFFFF ++ leBytes 4 0xFFFF) (by decide) (by beta_reduce; decide),
   meets (live .run) (leBytes 4 0x0 ++ leBytes 4 0x3B9AC9FF ++ leBytes 4 0xFFFFFFFF ++ leBytes 4 0xFFFF) (by decide) (by beta_reduce; decide),
   meets (base 3 1 4 (fun x => x)) (leBytes 4 0x3 ++ leBytes 4 0x0 ++ leBytes 4 0x0 ++ leBytes 4 0x0) (by decide) (by beta_reduce; decide),
   meets (base 3 1 3 (fun x => x)) (leBytes 4 0x3 ++ leBytes 4 0x0 ++ leBytes 4 0x0 ++ leBytes 4 0x0) (by decide) (by beta_reduce; decide),
   meets (live .run) (leBytes 4 0x4 ++ leBytes 4 0x0 ++ leBytes 4 0x0 ++ leBytes 4 0x0) (by decide) (by beta_reduce; decide),
   meets (base 0 4 1 (fun x => x)) (leBytes 4 0x0) (by decide) (by beta_reduce; decide),
   meets (base 3 4 1 (fun x => x)) (leBytes 4 0x3) (by decide) (by beta_reduce; decide),
   meets (base 3 1 1 (fun x => x)) (leBytes 4 0x3) (by decide) (by beta_reduce; decide)⟩

/-- What `Obligations.KeyFlashAndEventOrders` assumes is met. -/
theorem witness_key_flash_and_event_orders :
    (∃ nonce : Nat, nonce < 2 ^ 128) ∧
    (∃ data : List Nat, data.length = 2 ∧ ∀ b ∈ data, b < 256) ∧
    (∃ (t h hash tr seq : Nat) (s : State), let a := s.at t; a.cmd.run = some (.otpProgram h hash, tr, seq)) ∧
    (∃ (t h hash tr seq : Nat) (s : State), ∃ (ok : Bool), let a := s.at t; a.cmd.run = some (.otpRevoke h, tr, seq)) ∧
    (∃ (t k n tr seq : Nat) (d : List Nat) (h : ImgHdr) (sig : Bool) (s : State), let a := s.at t; a.sys.refPresent = true ∧ a.cmd.run = some (.flashErase k n, tr, seq)) ∧
    (∃ (t k n tr seq : Nat) (d : List Nat) (h : ImgHdr) (sig : Bool) (s : State), let a := s.at t; a.sys.refPresent = true ∧ a.cmd.run = some (.flashProgram k d, tr, seq)) ∧
    (∃ (t k n tr seq : Nat) (d : List Nat) (h : ImgHdr) (sig : Bool) (s : State), let a := s.at t; a.sys.refPresent = true ∧ a.cmd.run = some (.flashSlot k, tr, seq) ∧ hdrOk h = true ∧ a.sigCheck h sig = true) ∧
    (∃ (t k n tr seq : Nat) (d : List Nat) (h : ImgHdr) (sig : Bool) (s : State), let a := s.at t; a.sys.refPresent = true ∧ a.cmd.run = some (.flashSlot k, tr, seq) ∧ (hdrOk h = false ∨ a.sigCheck h sig = false)) ∧
    Meets 0x0701 (fun q s => q.auth = none ∧ payN q 0 1 < 8 ∧ q.tr = 0 ∧ s.provisioning = true ∧ (s.keySlot (payN q 0 1)).st = 0) ∧
    Meets 0x0701 (fun q s => q.auth = none ∧ payN q 0 1 < 8 ∧ (s.keySlot (payN q 0 1)).st ≠ 0) ∧
    Meets 0x0702 (fun q s => q.auth = some (0, 1) ∧ payN q 0 1 < 8 ∧ payN q 0 1 ≠ 0 ∧ (s.keySlot (payN q 0 1)).st ≠ 1 ∧ s.sec.trngOk = true) ∧
    Meets 0x0703 (fun q s => payN q 0 4 < 8 ∧ (s.keySlot (payN q 0 4)).st = 1 ∧ bitN (s.getF (SEC_WMAP_MAP 7)) (8 + payN q 0 4) = false) ∧
    Meets 0x0703 (fun q s => payN q 0 4 < 8 ∧ (s.keySlot (payN q 0 4)).st ≠ 1) ∧
    Meets 0x0704 (fun q s => payN q 0 4 ≤ 6 ∧ worldMapOk 32 (lset ((upto 8).map (fun k => s.getF (SEC_WMAP_MAP k))) (payN q 0 4) (payN q 4 4)) = true) ∧
    Meets 0x0704 (fun q _ => 6 < payN q 0 4) ∧
    Meets 0x0705 (fun q s => payN q 0 4 ≤ 1 ∧ (s.otpSlot (payN q 0 4)).st = 0 ∧ s.cmd.run = none) ∧
    Meets 0x0706 (fun q s => payN q 0 4 ≤ 1 ∧ (s.otpSlot 0).st = 1 ∧ (s.otpSlot 1).st = 1 ∧ s.cmd.run = none) ∧
    Meets 0x0802 (fun q s => payN q 0 4 % 0x10000 = 0 ∧ 1 ≤ payN q 4 4 ∧ payN q 4 4 ≤ 1024 ∧ inOneSlot (payN q 0 4) (payN q 4 4 * 0x10000) = true ∧ s.flashRefusal (slotOf (payN q 0 4)) = none) ∧
    Meets 0x0803 (fun q s => payN q 0 4 % 256 = 0 ∧ (q.payload.drop 4).length % 256 = 0 ∧ inOneSlot (payN q 0 4) (q.payload.drop 4).length = true ∧ s.flashRefusal (slotOf (payN q 0 4)) = none) ∧
    Meets 0x0804 (fun q s => payN q 0 4 ≤ 1 ∧ s.cmd.run = none) ∧
    Meets 0x0804 (fun q s => payN q 0 4 ≤ 1 ∧ s.cmd.run.isSome = true) ∧
    Meets 0x0801 (fun q s => 1 ≤ payN q 4 4 ∧ payN q 4 4 = 2 ∧ payN q 0 4 + payN q 4 4 ≤ 0x8000000 ∧ payN q 4 4 ≤ 4096 ∧ s.flashWriting = false) ∧
    Meets 0x0901 (fun q s => (payN q 0 2 = 0 ∨ (payN q 0 2 = 1 ∧ s.reqSecure (trReq q.tr) = true)) ∧ 1 ≤ payN q 2 2 ∧ payN q 2 2 ≤ 127) ∧
    Meets 0x0902 (fun q s => (payN q 0 2 = 0 ∨ (payN q 0 2 = 1 ∧ s.reqSecure (trReq q.tr) = true)) ∧ 1 ≤ payN q 2 2 ∧ payN q 2 2 ≤ (s.queue (payN q 0 2)).length) ∧
    Meets 0x0902 (fun q s => payN q 0 2 = 1 ∧ s.reqSecure (trReq q.tr) = false) ∧
    Meets 0x0802 (fun q _ => payN q 0 4 % 0x10000 ≠ 0 ∨ payN q 4 4 = 0 ∨ inOneSlot (payN q 0 4) (payN q 4 4 * 0x10000) = false) :=
  ⟨⟨2 ^ 128 - 1, by decide⟩,
   ⟨[255, 0], by decide⟩,
   ⟨0, 1, 0, 0, 0, { live .run with cmd := { (live .run).cmd with run := some (.otpProgram 1 0, 0, 0) } }, by decide⟩,
   ⟨0, 1, 0, 0, 0, { live .run with cmd := { (live .run).cmd with run := some (.otpRevoke 1, 0, 0) } }, true, by decide⟩,
   ⟨0, 0, 0, 0, 0, [], { hdr0 with magicOk := false }, false, { live .run with cmd := { (live .run).cmd with run := some (.flashErase 0 0, 0, 0) } }, by decide⟩,
   ⟨0, 0, 0, 0, 0, [], { hdr0 with magicOk := false }, false, { live .run with cmd := { (live .run).cmd with run := some (.flashProgram 0 [], 0, 0) } }, by decide⟩,
   ⟨0, 1, 0, 0, 0, [], hdr0, true, { { live .run with cmd := { (live .run).cmd with run := some (.flashSlot 1, 0, 0) } } with sec := { (live .run).sec with otp := [⟨1, 0⟩, ⟨1, 0⟩] } }, by decide⟩,
   ⟨0, 1, 0, 0, 0, [], { hdr0 with magicOk := false }, false, { live .run with cmd := { (live .run).cmd with run := some (.flashSlot 1, 0, 0) } }, by decide⟩,
   meets_plain 0 _ (by beta_reduce; decide),
   meets_plain 2 _ (by beta_reduce; decide),
   meets (sec (live .run) |> fun s => { s with sec := { s.sec with trngOk := true } }) ([7] ++ List.replicate 19 0) (by decide) (⟨rfl, by decide, by decide, by decide, rfl⟩),
   meets (sec (live .run) |> fun s => { s with sec := { s.sec with keys := List.replicate 8 ⟨1, []⟩ } }) (leBytes 4 0x7) (by decide) (by beta_reduce; decide),
   meets (sec (live .run)) (leBytes 4 0x7) (by decide) (by beta_reduce; decide),
   meets ((live .run).setF (SEC_WMAP_MAP 0) 0xF0 |> fun s => (s.setF (SEC_WMAP_MAP 2) 0x80000000).setF (SEC_WMAP_MAP 7) 1) (leBytes 4 0x6 ++ leBytes 4 0x0) (by decide) (by beta_reduce; decide),
   meets (sec (live .run)) (leBytes 4 0x7 ++ leBytes 4 0x0) (by decide) (by beta_reduce; decide),
   meets (sec (live .run)) ((leBytes 4 0x1) ++ List.replicate 32 0) (by decide) (by beta_reduce; decide),
   meets (sec (live .run) |> fun s => { s with sec := { s.sec with otp := [⟨1, 0⟩, ⟨1, 0⟩] } }) (leBytes 4 0x1) (by decide) (by beta_reduce; decide),
   meets ({ sec (live .run) with mram := { (live .run).mram with boot := { (live .run).mram.boot with booted := 0, pref := 0 } } }) (leBytes 4 0x4000000 ++ leBytes 4 0x400) (by decide) (by beta_reduce; decide),
   meets ({ sec (live .run) with mram := { (live .run).mram with boot := { (live .run).mram.boot with booted := 0, pref := 0 } } }) ((leBytes 4 0x4000000) ++ List.replicate 256 0) (by decide) (by beta_reduce; decide),
   meets (sec (live .run)) (leBytes 4 0x1) (by decide) (by beta_reduce; decide),
   meets ({ live .run with cmd := { (live .run).cmd with run := some (.flashErase 0 0, 0, 0) } }) (leBytes 4 0x1) (by decide) (by beta_reduce; decide),
   meets (live .run) (leBytes 4 0x7FFFFFE ++ leBytes 4 0x2) (by decide) (by beta_reduce; decide),
   meets (sec (live .run)) (leBytes 2 0x1 ++ leBytes 2 0x7F) (by decide) (by beta_reduce; decide),
   meets (sec (live .run) |> fun s => { s with evt := { s.evt with q1 := [⟨0, 0, 0, false, false, false, 0, 0, 0, 0, 0, 0, 0, 0⟩] } }) (leBytes 2 0x1 ++ leBytes 2 0x1) (by decide) (by beta_reduce; decide),
   meets (live .run) (leBytes 2 0x1 ++ leBytes 2 0x1) (by decide) (by beta_reduce; decide),
   meets (sec (live .run)) (leBytes 4 0x4000000 ++ leBytes 4 0x401) (by decide) (by beta_reduce; decide)⟩

/-- What `Obligations.RegisterWrites` assumes is met. -/
theorem witness_register_writes :
    (∃ (t a v i j : Nat) (r : Requester) (f : RegFam) (s : State), let b := s.at t; v < 4294967296 ∧ b.trAlive (reqIdx r) = true ∧ a < 0x200000 ∧ regAt a = some (f, i, j) ∧ hasOwnWrite f.name = false ∧ b.judge r a = .noMap) ∧
    (∃ (t a v i j : Nat) (r : Requester) (f : RegFam) (s : State), let b := s.at t; v < 4294967296 ∧ b.trAlive (reqIdx r) = true ∧ a < 0x200000 ∧ regAt a = some (f, i, j) ∧ hasOwnWrite f.name = false ∧ b.judge r a = .denied) ∧
    (∃ (t a v i j : Nat) (r : Requester) (f : RegFam) (s : State), let b := s.at t; v < 4294967296 ∧ b.trAlive (reqIdx r) = true ∧ a < 0x200000 ∧ regAt a = some (f, i, j) ∧ hasOwnWrite f.name = false ∧ b.judge r a = .allowed ∧ f.name ∉ [.SYS_XCFG, .CMD_REQ, .AUX_CFG, .AUX_PERIOD, .AUX_ENT, .FLT_CADDR, .TIM_IRIG, .EVT_SEEN]) ∧
    (∃ (t a v i j : Nat) (r : Requester) (f : RegFam) (s : State), let b := s.at t; v < 4294967296 ∧ b.trAlive (reqIdx r) = true ∧ a < 0x200000 ∧ regAt a = some (f, i, j) ∧ hasOwnWrite f.name = false ∧ b.judge r a = .allowed ∧ f.name = .EVT_SEEN) ∧
    (∃ (t a v i j : Nat) (r : Requester) (f : RegFam) (s : State), let b := s.at t; v < 4294967296 ∧ b.trAlive (reqIdx r) = true ∧ a < 0x200000 ∧ regAt a = some (f, i, j) ∧ hasOwnWrite f.name = false ∧ b.judge r a = .allowed ∧ f.name = .SYS_XCFG) ∧
    (∃ (t a v i j : Nat) (r : Requester) (f : RegFam) (s : State), let b := s.at t; v < 4294967296 ∧ b.trAlive (reqIdx r) = true ∧ a < 0x200000 ∧ regAt a = some (f, i, j) ∧ hasOwnWrite f.name = false ∧ b.judge r a = .allowed ∧ b.flag AUX_STAT_RUN = true ∧ (f.name = .AUX_CFG ∨ f.name = .AUX_PERIOD ∨ f.name = .AUX_ENT)) ∧
    (∃ (t a v i j : Nat) (r : Requester) (f : RegFam) (s : State), let b := s.at t; v < 4294967296 ∧ b.trAlive (reqIdx r) = true ∧ a < 0x200000 ∧ regAt a = some (f, i, j) ∧ hasOwnWrite f.name = false ∧ b.judge r a = .allowed ∧ b.flag AUX_STAT_RUN = false ∧ f.name = .AUX_CFG) ∧
    (∃ (t a v i j : Nat) (r : Requester) (f : RegFam) (s : State), let b := s.at t; v < 4294967296 ∧ b.trAlive (reqIdx r) = true ∧ a < 0x200000 ∧ regAt a = some (f, i, j) ∧ hasOwnWrite f.name = false ∧ b.judge r a = .allowed ∧ b.flag AUX_STAT_RUN = false ∧ f.name = .AUX_PERIOD) ∧
    (∃ (t a v i j : Nat) (r : Requester) (f : RegFam) (s : State), let b := s.at t; v < 4294967296 ∧ b.trAlive (reqIdx r) = true ∧ a < 0x200000 ∧ regAt a = some (f, i, j) ∧ hasOwnWrite f.name = false ∧ b.judge r a = .allowed ∧ b.flag AUX_STAT_RUN = false ∧ f.name = .AUX_ENT) ∧
    (∃ (t a v i j : Nat) (r : Requester) (f : RegFam) (s : State), let b := s.at t; v < 4294967296 ∧ b.trAlive (reqIdx r) = true ∧ a < 0x200000 ∧ regAt a = some (f, i, j) ∧ hasOwnWrite f.name = false ∧ b.judge r a = .allowed ∧ f.name = .FLT_CADDR) ∧
    (∃ (t a v i j : Nat) (r : Requester) (f : RegFam) (s : State), let b := s.at t; v < 4294967296 ∧ b.trAlive (reqIdx r) = true ∧ a < 0x200000 ∧ regAt a = some (f, i, j) ∧ hasOwnWrite f.name = false ∧ b.judge r a = .allowed ∧ f.name = .CMD_REQ ∧ b.flag CMD_STAT_BUSY = true) ∧
    (∃ (t a v i j : Nat) (r : Requester) (f : RegFam) (s : State), let b := s.at t; v < 4294967296 ∧ b.trAlive (reqIdx r) = true ∧ a < 0x200000 ∧ regAt a = some (f, i, j) ∧ hasOwnWrite f.name = false ∧ b.judge r a = .allowed ∧ f.name = .CMD_REQ ∧ b.flag CMD_STAT_BUSY = false) ∧
    (∃ (t a v i j : Nat) (r : Requester) (f : RegFam) (s : State), let b := s.at t; v < 4294967296 ∧ b.trAlive (reqIdx r) = true ∧ a < 0x200000 ∧ regAt a = some (f, i, j) ∧ hasOwnWrite f.name = false ∧ b.judge r a = .allowed ∧ f.name = .TIM_IRIG) ∧
    (∃ (t a : Nat) (r : Requester) (s : State), let b := s.at t; b.trAlive (reqIdx r) = true ∧ b.sys.mapOn = true ∧ a % 4 = 0 ∧ 0x800000 ≤ a ∧ a < 4294967296) ∧
    (∃ (t a : Nat) (r : Requester) (s : State), let b := s.at t; b.trAlive (reqIdx r) = true ∧ b.sys.mapOn = true ∧ a % 4 = 0 ∧ a < 0x200000 ∧ regAt a = none ∧ b.judge r a = .allowed) :=
  ⟨⟨0, TIM_PPSO, 0xFFFFFFFF, _, _, .xspi, _, noMap, ⟨by decide, by decide, by decide, rfl, by decide, by decide⟩⟩,
   ⟨0, TIM_PPSO, 0xFFFFFFFF, _, _, .xspi, _, secWin, ⟨by decide, by decide, by decide, rfl, by decide, by decide⟩⟩,
   ⟨0, TIM_PPSO, 0xFFFFFFFF, _, _, .xspi, _, live .run, ⟨by decide, by decide, by decide, rfl, by decide, by decide, by decide⟩⟩,
   ⟨0, EVT_SEEN 3, 0xFFFFFFFF, _, _, .xspi, _, live .run, ⟨by decide, by decide, by decide, rfl, by decide, by decide, rfl⟩⟩,
   ⟨0, SYS_XCFG, 0xFFFFFFFF, _, _, .xspi, _, live .run, ⟨by decide, by decide, by decide, rfl, by decide, by decide, rfl⟩⟩,
   ⟨0, AUX_ENT 31, 0xFFFFFFFF, _, _, .xspi, _, (live .run).setFlag AUX_STAT_RUN true, ⟨by decide, by decide, by decide, rfl, by decide, by decide, by decide, by decide⟩⟩,
   ⟨0, AUX_CFG, 0xFFFFFFFF, _, _, .xspi, _, live .run, ⟨by decide, by decide, by decide, rfl, by decide, by decide, by decide, rfl⟩⟩,
   ⟨0, AUX_PERIOD, 0xFFFFFFFF, _, _, .xspi, _, live .run, ⟨by decide, by decide, by decide, rfl, by decide, by decide, by decide, rfl⟩⟩,
   ⟨0, AUX_ENT 31, 0xFFFFFFFF, _, _, .xspi, _, live .run, ⟨by decide, by decide, by decide, rfl, by decide, by decide, by decide, rfl⟩⟩,
   ⟨0, FLT_CADDR, 0xFFFFFFFF, _, _, .xspi, _, live .run, ⟨by decide, by decide, by decide, rfl, by decide, by decide, rfl⟩⟩,
   ⟨0, CMD_REQ 0, 0xFFFFFFFF, _, _, .xspi, _, (live .run).setFlag CMD_STAT_BUSY true, ⟨by decide, by decide, by decide, rfl, by decide, by decide, rfl, by decide⟩⟩,
   ⟨0, CMD_REQ 0, 0xFFFFFFFF, _, _, .xspi, _, live .run, ⟨by decide, by decide, by decide, rfl, by decide, by decide, rfl, by decide⟩⟩,
   ⟨0, TIM_IRIG, 0xFFFFFFFF, _, _, .xspi, _, live .run, ⟨by decide, by decide, by decide, rfl, by decide, by decide, rfl⟩⟩,
   ⟨0, 0xFFFFFFFC, .xspi, live .run, by decide⟩,
   ⟨0, 0x1FFFFC, .xspi, live .run, by decide⟩⟩

/-- What `Obligations.BusAccesses` assumes is met. -/
theorem witness_bus_accesses :
    (∃ (t a n : Nat) (s : State), let b := s.at t; a < 4294967296 ∧ b.trAlive 0 = true ∧ a % 4 = 0 ∧ burstRoom a n = n) ∧
    (∃ (t a n : Nat) (s : State), let b := s.at t; a < 4294967296 ∧ b.trAlive 0 = true ∧ a % 4 ≠ 0 ∧ burstRoom (a / 4 * 4) n = n) ∧
    (∃ (t a n : Nat) (s : State), ∃ (k : Nat), let b := s.at t; a < 4294967296 ∧ b.trAlive 0 = true ∧ a = 0x200000 - 4 * k ∧ 1 ≤ k ∧ k ≤ 0x80000 ∧ k < n) ∧
    (∃ (t a n : Nat) (s : State), let b := s.at t; a < 4294967296 ∧ b.trAlive 0 = true) ∧
    (∃ (t a : Nat) (ws : List Nat) (s : State), let b := s.at t; a < 4294967296 ∧ b.trAlive 0 = true ∧ (∀ w ∈ ws, w < 4294967296) ∧ a % 4 = 0 ∧ burstRoom a ws.length = ws.length) ∧
    (∃ (t a : Nat) (ws : List Nat) (s : State), let b := s.at t; a < 4294967296 ∧ b.trAlive 0 = true ∧ (∀ w ∈ ws, w < 4294967296)) ∧
    (∃ (t n : Nat) (s : State), let b := s.at t; b.trAlive 0 = true ∧ b.judge .xspi SYS_XSTAT = .allowed) ∧
    (∃ (t c : Nat) (s : State), let b := s.at t; c < 256 ∧ b.trAlive 0 = true ∧ c ≠ 0xB1 ∧ c ≠ 0xB2 ∧ c ≠ 0xB5) ∧
    (∃ (a : Nat), a < 4294967296) ∧
    (∃ (a : Nat) (ws : List Nat), a < 4294967296 ∧ (∀ w ∈ ws, w < 4294967296)) ∧
    (∃ (c k : Nat) (r : List Nat), c + k = 255 ∧ c ≠ 0xB1 ∧ c ≠ 0xB2 ∧ c ≠ 0xB5) ∧
    (∃ (c k : Nat) (r : List Nat), c + k ≠ 255) ∧
    (∃ (t a n i j : Nat) (r : Requester) (f : RegFam) (s : State), let b := s.at t; b.trAlive (reqIdx r) = true ∧ a < 0x200000 ∧ regAt a = some (f, i, j) ∧ capOf f.name i j = some (a, n, 0) ∧ f.name ≠ .EVT_LDATA ∧ f.name ≠ .AUX_QDATA_LO ∧ b.judge r a = .allowed) ∧
    (∃ (s : State) (r : Requester) (f : RegFam) (a c n k i j : Nat) (ws : List Nat), let u := s.capture r c ws; a < 0x200000 ∧ regAt a = some (f, i, j) ∧ capOf f.name i j = some (c, n, k) ∧ k ≠ 0 ∧ f.name ≠ .EVT_LDATA ∧ u.judge r a = .allowed ∧ s.sys.caps.length = 2) ∧
    (∃ (s : State) (r : Requester) (f : RegFam) (a c n k i j : Nat), a < 0x200000 ∧ regAt a = some (f, i, j) ∧ capOf f.name i j = some (c, n, k) ∧ k ≠ 0 ∧ f.name ≠ .EVT_LDATA ∧ s.judge r a = .allowed ∧ lget none s.sys.caps (reqIdx r) = none) :=
  ⟨⟨0, 0xFFFFFFFC, 1, live .run, by decide⟩,
   ⟨0, 0xFFFFFFFF, 1, live .run, by decide⟩,
   ⟨0, 0x1FFFFC, 2, live .run, 1, by decide⟩,
   ⟨0, 0x1FFFFD, 2, live .run, by decide⟩,
   ⟨0, 0xFFFFFFFC, [0xFFFFFFFF], live .run, by decide⟩,
   ⟨0, 0xFFFFFFFD, [0xFFFFFFFF], live .run, by decide⟩,
   ⟨0, 5, live .run, by decide⟩,
   ⟨0, 255, live .run, by decide⟩,
   ⟨0xFFFFFFFF, by decide⟩,
   ⟨0xFFFFFFFF, [0xFFFFFFFF], by decide⟩,
   ⟨0xB3, 0x4C, [], by decide⟩,
   ⟨0xB1, 0x4F, [], by decide⟩,
   ⟨0, SYS_IMGID_LO, 2, _, _, .portC, _, live .run, ⟨by decide, by decide, rfl, rfl, by decide, by decide, by decide⟩⟩,
   ⟨live .run, .portC, _, SYS_IMGID_HI, SYS_IMGID_LO, 2, 1, _, _, [1, 2], ⟨by decide, rfl, rfl, by decide, by decide, by decide, by decide⟩⟩,
   ⟨live .run, .portC, _, SYS_IMGID_HI, SYS_IMGID_LO, 2, 1, _, _, ⟨by decide, rfl, rfl, by decide, by decide, by decide, by decide⟩⟩⟩

/-- What `Obligations.EventAndLogAccess` assumes is met. -/
theorem witness_event_and_log_access :
    (∃ (t q : Nat) (r : Requester) (s : State), let b := s.at t; q < 2 ∧ b.trAlive (reqIdx r) = true ∧ b.judge r (EVT_QDATA q 0) = .allowed ∧ b.queue q = []) ∧
    (∃ (t q : Nat) (r : Requester) (s : State), ∃ e es, let b := s.at t; q < 2 ∧ b.trAlive (reqIdx r) = true ∧ b.judge r (EVT_QDATA q 0) = .allowed ∧ b.queue q = e :: es) ∧
    (∃ (t q n : Nat) (r : Requester) (s : State), let b := s.at t; q < 2 ∧ b.trAlive (reqIdx r) = true ∧ b.judge r (EVT_QACK q) = .allowed ∧ n < 8192 ∧ 1 ≤ n ∧ n ≤ (b.queue q).length) ∧
    (∃ (t q n : Nat) (r : Requester) (s : State), let b := s.at t; q < 2 ∧ b.trAlive (reqIdx r) = true ∧ b.judge r (EVT_QACK q) = .allowed ∧ n < 8192 ∧ (n = 0 ∨ (b.queue q).length < n)) ∧
    (∃ (t : Nat) (s : State) (e : EvtEntry) (es : List EvtEntry), let b := s.at t; b.evt.logBuf = e :: es ∧ b.mram.logHead < 4096 ∧ (∀ u, b.evt.logAt = some u → u + 12000 ≤ b.now)) ∧
    (∃ (t : Nat) (r : Requester) (s : State), let b := s.at t; let a := EVT_LDATA 0; b.trAlive (reqIdx r) = true ∧ b.judge r a = .allowed ∧ b.logSecure = true ∧ b.reqSecure r = false) ∧
    (∃ (t : Nat) (r : Requester) (s : State), ∃ e, let b := s.at t; let a := EVT_LDATA 0; b.trAlive (reqIdx r) = true ∧ b.judge r a = .allowed ∧ b.logSel = some e ∧ (b.logSecure = false ∨ b.reqSecure r = true)) ∧
    (∃ (t v : Nat) (r : Requester) (s : State), let b := s.at t; b.trAlive (reqIdx r) = true ∧ b.judge r TIM_SAMP = .allowed ∧ b.mode ≠ .test) ∧
    (∃ (t v : Nat) (r : Requester) (s : State), let b := s.at t; let k := v % 4; b.trAlive (reqIdx r) = true ∧ b.judge r TIM_SAMP = .allowed ∧ b.mode = .test ∧ (b.flag TIM_SAMP_COMPAT = true ∨ b.tbState k = 0 ∨ b.tbState k = 5)) ∧
    (∃ (t v : Nat) (r : Requester) (s : State), let b := s.at t; let k := v % 4; b.trAlive (reqIdx r) = true ∧ b.judge r TIM_SAMP = .allowed ∧ b.mode = .test ∧ b.flag TIM_SAMP_COMPAT = false ∧ b.tbState k ≠ 0 ∧ b.tbState k ≠ 5 ∧ k = b.getF TIM_SAMP_SAMP_TB) ∧
    (∃ (t v : Nat) (r : Requester) (s : State), let b := s.at t; let k := v % 4; b.trAlive (reqIdx r) = true ∧ b.judge r TIM_SAMP = .allowed ∧ b.mode = .test ∧ b.flag TIM_SAMP_COMPAT = false ∧ b.tbState k ≠ 0 ∧ b.tbState k ≠ 5 ∧ k ≠ b.getF TIM_SAMP_SAMP_TB) :=
  ⟨⟨0, 0, .xspi, live .run, by decide⟩,
   ⟨0, 1, .xspi, evts (sec (live .run)) (fun e => { e with q1 := [evt0] }), evt0, [], by decide⟩,
   ⟨0, 1, 1, .xspi, evts (sec (live .run)) (fun e => { e with q1 := [evt0] }), by decide⟩,
   ⟨0, 1, 8191, .xspi, evts (sec (live .run)) (fun e => { e with q1 := [evt0] }), by decide⟩,
   ⟨0, { evts (live .run) (fun e => { e with logBuf := [evt0] }) with mram := { (live .run).mram with logHead := 4095 } }, evt0, [], by decide⟩,
   ⟨0, .xspi, logged, by decide⟩,
   ⟨0, .xspi, sec logged, { evt0 with src := 118 }, by decide⟩,
   ⟨0, 0, .portC, live .run, by decide⟩,
   ⟨0, 3, .portC, live .test, by decide⟩,
   ⟨0, 0, .portC, (live .test).setF (TIM_STAT_STATE 0) 2, by decide⟩,
   ⟨0, 3, .portC, (live .test).setF (TIM_STAT_STATE 3) 2, by decide⟩⟩

/-- What `Obligations.StartSequence` assumes is met. -/
theorem witness_start_sequence :
    (∃ (t : Nat) (st : Straps) (hdrs : List ImgHdr) (s : State), let a := s.at t; a.sys.por = true ∧ st.hold = true) ∧
    (∃ (t : Nat) (st : Straps) (hdrs : List ImgHdr) (s : State), let a := s.at t; let p : State := { a with sys := { a.sys with por := false, straps := st, refPresent := true }, trp := { a.trp with lvlArm := 0, lvlFire := 0, wdLevel := false } }; let r : State := (p.chooseSlot st.hold).startRecord 0; a.sys.por = true ∧ st.hold = false ∧ hdrOk (lget noHdr hdrs r.sys.slot) = true) ∧
    (∃ (t : Nat) (st : Straps) (hdrs : List ImgHdr) (s : State), let a := s.at t; let p : State := { a with sys := { a.sys with por := false, straps := st, refPresent := true }, trp := { a.trp with lvlArm := 0, lvlFire := 0, wdLevel := false } }; let r : State := (p.chooseSlot st.hold).startRecord 0; a.sys.por = true ∧ st.hold = false ∧ hdrOk (lget noHdr hdrs r.sys.slot) = false) ∧
    (∃ (t : Nat) (hdrs : List ImgHdr) (s : State), let a := s.at t; a.sys.held = true ∧ a.mode = .boot ∧ hdrOk (lget noHdr hdrs a.sys.slot) = true) ∧
    (∃ (t : Nat) (sig : Bool) (s : State), let a := s.at t; a.mode = .boot ∧ a.sys.held = false ∧ a.sys.step = 3 ∧ a.sigCheck (a.hdrOf a.sys.slot) sig = true) ∧
    (∃ (t : Nat) (sig : Bool) (s : State), let a := s.at t; a.mode = .boot ∧ a.sys.held = false ∧ a.sys.step = 3 ∧ a.sigCheck (a.hdrOf a.sys.slot) sig = false) ∧
    (∃ (t : Nat) (s : State), let a := s.at t; a.mode = .boot ∧ a.sys.held = false ∧ (a.sys.step = 3 ∨ a.sys.step = 4) ∧ a.sys.trained = false) ∧
    (∃ (t : Nat) (img : Image) (bad : List Nat) (s : State), let a := s.at t; a.mode = .boot ∧ a.sys.step = 4 ∧ a.sys.trained = true ∧ sectionsCheck (a.hdrOf a.sys.slot) img bad = none) ∧
    (∃ (t : Nat) (img : Image) (bad : List Nat) (s : State), ∃ r, let a := s.at t; a.mode = .boot ∧ a.sys.step = 4 ∧ a.sys.trained = true ∧ sectionsCheck (a.hdrOf a.sys.slot) img bad = some r) ∧
    (∃ (t : Nat) (img : Image) (s : State), let a := s.at t; a.mode = .boot ∧ a.sys.step = 6 ∧ a.sys.cand = some img ∧ a.validate img (a.hdrOf a.sys.slot).config = none) ∧
    (∃ (t : Nat) (img : Image) (s : State), ∃ r, let a := s.at t; a.mode = .boot ∧ a.sys.step = 6 ∧ a.sys.cand = some img ∧ a.validate img (a.hdrOf a.sys.slot).config = some r) ∧
    (∃ (s : State) (r : LoadReport), let k := s.sys.slot; s.sys.tried = [] ∧ hdrOk (s.hdrOf (1 - k)) = true) ∧
    (∃ (s : State) (r : LoadReport), let k := s.sys.slot; s.sys.tried = [] ∧ hdrOk (s.hdrOf (1 - k)) = false) ∧
    (∃ (s : State) (r : LoadReport), s.sys.tried ≠ []) ∧
    (∃ (t : Nat) (cals : List (List SliceCal)) (s : State), let a := s.at t; a.mode = .boot ∧ a.sys.step = 8) :=
  ⟨⟨0, ⟨false, false, true, false⟩, [], State.reset, by decide⟩,
   ⟨0, ⟨false, false, false, false⟩, [hdr0, hdr0], State.reset, by decide⟩,
   ⟨0, ⟨false, false, false, false⟩, [], State.reset, by decide⟩,
   ⟨0, [hdr0, hdr0], { live .boot with sys := { (live .boot).sys with held := true } }, by decide⟩,
   ⟨0, true, starting 3, by decide⟩,
   ⟨0, false, starting 3, by decide⟩,
   ⟨0, starting 4, by decide⟩,
   ⟨0, { img0 with dir := dir0 }, [], trained4, by decide⟩,
   ⟨0, img0, [], trained4, ⟨stCode .imageInvalid, 6, 0, 0, 0, 0, 0⟩, by decide⟩,
   ⟨0, img0, s6, ⟨rfl, rfl, rfl, validate_none⟩⟩,
   ⟨0, { img0 with banks := [] }, { s6 with sys := { s6.sys with cand := some { img0 with banks := [] } } }, { fail7 .imageInvalid 4 0x05 0 with obj2 := 0 }, by decide +kernel⟩,
   ⟨starting 4, ⟨0, 0, 0, 0, 0, 0, 0⟩, by decide⟩,
   ⟨{ State.reset with sys := { resetSys with hdrs := [] } }, ⟨0, 0, 0, 0, 0, 0, 0⟩, by decide⟩,
   ⟨{ starting 4 with sys := { (starting 4).sys with tried := [0] } }, ⟨0, 0, 0, 0, 0, 0, 0⟩, by decide⟩,
   ⟨0, [], starting 8, by decide⟩⟩

/-- What `Obligations.ModesAndRestarts` assumes is met. -/
theorem witness_modes_and_restarts :
    (∃ (t : Nat) (hdrs : List ImgHdr) (r : RestartReq) (s : State), let a := s.at t; let d := a.dropMode; let k := d.bootRead.mram.boot; a.sys.restart = some r ∧ a.sys.por = false ∧ a.sys.refPresent = true ∧ a.safeTillPor = false ∧ a.sys.policy = none ∧ k.valid = true ∧ a.sys.straps.hold = false ∧ hdrOk (lget noHdr hdrs k.pref) = true) ∧
    (∃ (s : State) (c : Nat), ∃ (p : Nat), p < 3) ∧
    (∃ (t : Nat) (s : State), let a := s.at t; a.sys.por = false ∧ a.sys.refPresent = true) ∧
    (∃ (t : Nat) (s : State), let a := s.at t; a.sys.por = false ∧ a.sys.refPresent = false ∧ a.mode ≠ .safe) ∧
    (∃ (t : Nat) (s : State), let a := s.at t; a.sys.por = false ∧ a.sys.refPresent = false ∧ a.mode = .safe ∧ a.mram.boot.safeCause = 3 ∧ a.sys.safeAtStart = false) ∧
    (∃ (t : Nat) (p : RestartReq) (s : State), let a := s.at t; let n := a.mram.boot.rcount; a.sys.policy = some p ∧ a.sys.refPresent = true ∧ a.safeStays = false ∧ a.mram.boot.uptime - a.mram.boot.rwStart < 60 * bf a.sys.rp0 23 12 ∧ bf a.sys.rp0 11 8 ≤ n) ∧
    (∃ (t : Nat) (p : RestartReq) (s : State), let a := s.at t; let n := a.mram.boot.rcount; a.sys.policy = some p ∧ a.sys.refPresent = true ∧ a.safeStays = false ∧ a.mram.boot.uptime - a.mram.boot.rwStart < 60 * bf a.sys.rp0 23 12 ∧ n < bf a.sys.rp0 11 8 ∧ (a.pairDefers = true ∨ a.causeUnlogged = true)) ∧
    (∃ (t : Nat) (p : RestartReq) (s : State), let a := s.at t; let n := a.mram.boot.rcount; a.sys.policy = some p ∧ a.sys.refPresent = true ∧ a.safeStays = false ∧ a.mram.boot.uptime - a.mram.boot.rwStart < 60 * bf a.sys.rp0 23 12 ∧ n < bf a.sys.rp0 11 8 ∧ a.pairDefers = false ∧ a.causeUnlogged = false) ∧
    (∃ (t : Nat) (p : RestartReq) (s : State), let a := s.at t; a.sys.policy = some p ∧ a.sys.refPresent = true ∧ a.safeStays = false ∧ 60 * bf a.sys.rp0 23 12 ≤ a.mram.boot.uptime - a.mram.boot.rwStart ∧ 0 < bf a.sys.rp0 11 8 ∧ a.pairDefers = false ∧ a.causeUnlogged = false) ∧
    (∃ (t n : Nat) (q : CmdReq) (s : State), let a := s.at t; a.mode = .run ∧ a.sys.modeReq = some (.test, n) ∧ a.cmd.modeWait = some q) ∧
    (∃ (t : Nat) (q : CmdReq) (s : State), ∃ (n : Nat), let a := s.at t; a.mode = .test ∧ a.sys.modeReq = some (.run, n) ∧ a.cmd.modeWait = some q) ∧
    (∃ s : State, ∃ (c : Nat), s.safeStays = true) ∧
    (∃ (t : Nat) (s : State), let a := s.at t; a.sys.por = false) :=
  ⟨⟨0, [hdr0, hdr0], ⟨true, false⟩, { live .run with sys := { (live .run).sys with restart := some ⟨true, false⟩ }, mram := { (live .run).mram with boot := { (live .run).mram.boot with valid := true } } }, by decide⟩,
   ⟨live .run, 1, 2, by decide⟩,
   ⟨0, live .run, by decide⟩,
   ⟨0, { live .run with sys := { (live .run).sys with refPresent := false } }, by decide⟩,
   ⟨0, { live .safe with sys := { (live .safe).sys with refPresent := false }, mram := { (live .safe).mram with boot := { (live .safe).mram.boot with safeCause := 3 } } }, by decide⟩,
   ⟨0, ⟨true, true⟩, { (live .run) with sys := { (live .run).sys with policy := some ⟨true, true⟩, rp0 := 0x0103C200 }, mram := { (live .run).mram with boot := { (live .run).mram.boot with rcount := 2 } } }, by decide⟩,
   ⟨0, ⟨true, true⟩, evts ({ (live .run) with sys := { (live .run).sys with policy := some ⟨true, true⟩, rp0 := 0x0103C200 }, mram := { (live .run).mram with boot := { (live .run).mram.boot with rcount := 1 } } }) (fun e => { e with logBuf := [{ evt0 with src := 2 }] }), by decide⟩,
   ⟨0, ⟨true, true⟩, { (live .run) with sys := { (live .run).sys with policy := some ⟨true, true⟩, rp0 := 0x0103C200 }, mram := { (live .run).mram with boot := { (live .run).mram.boot with rcount := 1 } } }, by decide⟩,
   ⟨0, ⟨true, true⟩, { (live .run) with sys := { (live .run).sys with policy := some ⟨true, true⟩, rp0 := 0x0103C200 }, mram := { (live .run).mram with boot := { (live .run).mram.boot with uptime := 3600 } } }, by decide⟩,
   ⟨0, 0, req 0x0201 [2, 0, 0, 0] [], { chg .run .test with cmd := { (live .run).cmd with modeWait := some (req 0x0201 [2, 0, 0, 0] []) } }, by decide⟩,
   ⟨0, req 0x0201 [1, 0, 0, 0] [], { chg .test .run with cmd := { (live .test).cmd with modeWait := some (req 0x0201 [1, 0, 0, 0] []) } }, 0, by decide⟩,
   ⟨{ live .safe with sys := { (live .safe).sys with safeAtStart := true } }, 1, by decide⟩,
   ⟨0, live .run, by decide⟩⟩

/-- What `Obligations.QueueOrder` assumes is met. -/
theorem witness_queue_order :
    (∃ s : State, s.pending = []) :=
  ⟨State.reset, by decide⟩

/-- What `Obligations.StateAtReset` assumes is met. -/
theorem witness_state_at_reset :
    (∃ (p : Nat), p < 3) ∧
    (∃ (k : Nat), k < 8) ∧
    (∃ h, h < 2) ∧
    (∃ a : Nat, a < 4) :=
  ⟨⟨2, by decide⟩,
   ⟨7, by decide⟩,
   ⟨1, by decide⟩,
   ⟨3, by decide⟩⟩

/-- What `Obligations.EventsRaised` assumes is met. -/
theorem witness_events_raised :
    (∃ (s : State) (src inst data : Nat), src < 127) ∧
    (∃ (s : State) (src inst data : Nat), src < 127 ∧ s.sys.mapOn = false ∧ (s.evt.cyc.1 ≠ s.now ∨ ∀ x ∈ s.evt.cyc.2, x ≤ src)) ∧
    (∃ (s : State) (src inst data : Nat), let q := if s.srcSecure src then 1 else 0; let fresh := (s.evt.cyc.1 ≠ s.now ∨ ∀ x ∈ s.evt.cyc.2, x ≤ src) ∧ ∀ x ∈ s.queue q, x.src ≠ src ∨ x.inst ≠ inst % 65536; src < 127 ∧ s.sys.mapOn = true ∧ fresh ∧ s.evt.logBuf.length < 64 ∧ (s.evtEnabled src = false ∨ (s.queue q).length ≠ 4095)) ∧
    (∃ (s : State) (src inst data : Nat), let q := if s.srcSecure src then 1 else 0; let fresh := (s.evt.cyc.1 ≠ s.now ∨ ∀ x ∈ s.evt.cyc.2, x ≤ src) ∧ ∀ x ∈ s.queue q, x.src ≠ src ∨ x.inst ≠ inst % 65536; src < 127 ∧ s.sys.mapOn = true ∧ fresh ∧ s.evtEnabled src = true ∧ (s.queue q).length < 4095) ∧
    (∃ (s : State) (src inst data : Nat), let q := if s.srcSecure src then 1 else 0; let fresh := (s.evt.cyc.1 ≠ s.now ∨ ∀ x ∈ s.evt.cyc.2, x ≤ src) ∧ ∀ x ∈ s.queue q, x.src ≠ src ∨ x.inst ≠ inst % 65536; src < 127 ∧ s.sys.mapOn = true ∧ fresh ∧ s.evtEnabled src = false) ∧
    (∃ (s : State) (src inst data : Nat), let q := if s.srcSecure src then 1 else 0; let fresh := (s.evt.cyc.1 ≠ s.now ∨ ∀ x ∈ s.evt.cyc.2, x ≤ src) ∧ ∀ x ∈ s.queue q, x.src ≠ src ∨ x.inst ≠ inst % 65536; src < 127 ∧ s.sys.mapOn = true ∧ fresh ∧ s.evtEnabled src = true ∧ (s.queue q).length = 4095) ∧
    (∃ (s : State) (src inst data : Nat), let q := if s.srcSecure src then 1 else 0; let fresh := (s.evt.cyc.1 ≠ s.now ∨ ∀ x ∈ s.evt.cyc.2, x ≤ src) ∧ ∀ x ∈ s.queue q, x.src ≠ src ∨ x.inst ≠ inst % 65536; src < 127 ∧ s.sys.mapOn = true ∧ fresh ∧ s.evtEnabled src = true ∧ 4095 < (s.queue q).length) ∧
    (∃ (s : State) (src inst data : Nat), ∃ x, let q := if s.srcSecure src then 1 else 0; src < 127 ∧ s.sys.mapOn = true ∧ evtNoCoalesce src = false ∧ (s.queue q).find? (fun x => x.src = src && x.inst = inst % 65536) = some x) ∧
    (∃ (s : State) (x ix dx y iy dy : Nat), let q := if s.srcSecure x then 1 else 0; s.sys.mapOn = true ∧ y < x ∧ x < 127 ∧ s.evt.cyc.1 ≠ s.now ∧ s.evtEnabled x = true ∧ s.evtEnabled y = true ∧ s.srcSecure x = s.srcSecure y ∧ s.queue q = []) :=
  ⟨⟨live .run, 126, 65535, 0xFFFFFFFF, by decide⟩,
   ⟨{ noMap with now := 1 }, 126, 65535, 0xFFFFFFFF, by decide⟩,
   ⟨evts (live .run) (fun e => { e with logBuf := List.replicate 63 evt0 }), 126, 65535, 0xFFFFFFFF, by decide⟩,
   ⟨evts (enabled) (fun e => { e with q0 := List.replicate 4094 { evt0 with inst := 1 } }), 126, 65535, 0xFFFFFFFF, by decide⟩,
   ⟨(live .run).setF (EVT_EN_EN 3) 0, 126, 65535, 0xFFFFFFFF, by decide⟩,
   ⟨evts (enabled) (fun e => { e with q0 := List.replicate 4095 { evt0 with inst := 1 } }), 126, 65535, 0xFFFFFFFF, by decide⟩,
   ⟨evts (enabled) (fun e => { e with q0 := List.replicate 4096 { evt0 with inst := 1 } }), 126, 65535, 0xFFFFFFFF, by decide⟩,
   ⟨evts (live .run) (fun e => { e with q0 := [evt0] }), 126, 0, 0, evt0, by decide⟩,
   ⟨{ enabled with now := 1 }, 126, 0, 0, 0, 65535, 0, by decide⟩⟩

/-- What `Obligations.NoMapBeforeStepEight` assumes is met. -/
theorem witness_no_map_before_step_eight :
    (∃ (s : State) (r : Requester) (a v : Nat), s.sys.mapOn = false ∧ a < 0x20000) ∧
    (∃ (s : State) (r : Requester) (a v : Nat), s.sys.mapOn = false ∧ 0x20000 ≤ a ∧ a % 4 = 0) ∧
    (∃ (t : Nat) (img : Image) (s : State), let a := s.at t; a.mode = .boot ∧ a.sys.step = 6 ∧ a.sys.cand = some img ∧ a.validate img (a.hdrOf a.sys.slot).config = none) ∧
    (∃ s s' : State, step s = .next s' ∧ s.sys.mapOn = false ∧ s'.sys.mapOn = true) :=
  ⟨⟨noMap, .xspi, 0x1FFFF, 0, by decide⟩,
   ⟨noMap, .xspi, 0x20000, 0, by decide⟩,
   ⟨0, img0, s6, ⟨rfl, rfl, rfl, validate_none⟩⟩,
   ⟨{ s6 with pending := [.imageValidation 0] }, _, ⟨step_s6, rfl, mapOn_s6⟩⟩⟩

/-- What `Obligations.CounterReplay` assumes is met. -/
theorem witness_counter_replay :
    (∃ (s : State) (q : CmdReq) (sec : Bool), ∃ rsp, let slot := byteAt q.frame 2 / 2 % 8; let k := s.keySlot slot; let n := q.frame.length - 16; let ctr := leAt q.frame 16 8; let last := lget 0 s.mram.keyCnt slot; let world := bitN (s.getF (SEC_WMAP_MAP 7)) q.tr || bitN (s.getF (SEC_WMAP_MAP 7)) (8 + slot); s.limited q.tr = false ∧ byteAt q.frame 2 % 2 = 1 ∧ k.st = 1 ∧ q.frame.drop n = tagOfMsg k.key (q.frame.take n) ∧ (sec = false ∨ world = true) ∧ ctr ≤ last ∧ ctr = last ∧ lget none s.sec.cache slot = some (q.frame, rsp)) ∧
    (∃ (s : State) (q : CmdReq) (sec : Bool), let slot := byteAt q.frame 2 / 2 % 8; let k := s.keySlot slot; let n := q.frame.length - 16; let ctr := leAt q.frame 16 8; let last := lget 0 s.mram.keyCnt slot; let world := bitN (s.getF (SEC_WMAP_MAP 7)) q.tr || bitN (s.getF (SEC_WMAP_MAP 7)) (8 + slot); s.limited q.tr = false ∧ byteAt q.frame 2 % 2 = 1 ∧ k.st = 1 ∧ q.frame.drop n = tagOfMsg k.key (q.frame.take n) ∧ (sec = false ∨ world = true) ∧ ctr ≤ last ∧ (ctr < last ∨ ∀ rsp, lget none s.sec.cache slot ≠ some (q.frame, rsp))) ∧
    (∃ (a b : State) (op : Nat) (f : CmdReq → State → CmdRes) (q : CmdReq) (rest : List CmdReq) (row : OpRow) (bs : List Nat), let c : State := { a with cmd := { a.cmd with svc := rest } }; a.cmd.svc = q :: rest ∧ q.op = op ∧ opRow op = some row ∧ a.cmd.modeWait = none ∧ a.refLost = false ∧ byteAt q.frame 2 % 2 = 1 ∧ c.authenticate q (c.critOf q row.crit).2 = (.replay bs, b)) ∧
    (∃ (t slot : Nat) (hdrs : List ImgHdr) (r : RestartReq) (o trng hold : Bool) (s : State), let a := s.at t; a.sys.restart = some r ∧ a.sys.por = false ∧ a.sys.refPresent = true ∧ a.safeTillPor = false) :=
  ⟨⟨replayed, (req 0x0601 [] (msg1 ++ tagOfMsg [] msg1)), true, [], by decide +kernel⟩,
   ⟨{ sec (order (live .run) 0x0601 []) with mram := { (live .run).mram with keyCnt := List.replicate 8 2 } }, (req 0x0601 [] (msg1 ++ tagOfMsg [] msg1)), true, ⟨by decide +kernel, by decide +kernel, by decide +kernel, by decide +kernel, by decide +kernel, by decide +kernel, Or.inl (by decide +kernel)⟩⟩,
   ⟨replayed, _, 0x0601, fun _ s => ⟨.ok, s, [], 0, false⟩, (req 0x0601 [] (msg1 ++ tagOfMsg [] msg1)), [], ⟨.yes, 16, 16⟩, _, ⟨rfl, rfl, rfl, rfl, rfl, rfl, auth_replays { replayed with cmd := { replayed.cmd with svc := [] } } 0x0601 [] [] _ rfl rfl rfl rfl rfl⟩⟩,
   ⟨0, 0, [hdr0, hdr0], ⟨true, false⟩, true, true, false, { live .run with sys := { (live .run).sys with restart := some ⟨true, false⟩ } }, by decide⟩⟩

/-- What `Obligations.ReturnToRun` assumes is met. -/
theorem witness_return_to_run :
    (∃ (t : Nat) (s : State), ∃ (n : Nat), let a := s.at t; a.mode = .test ∧ a.sys.modeReq = some (.run, n) ∧ n < a.flt.m) ∧
    Meets 0x0201 (fun q s => payN q 0 4 = 1 ∧ s.mode = .test ∧ ((∃ g, g < 8 ∧ s.chainState g = 0) ∨ s.podState 0 = 5 ∨ s.podState 1 = 5 ∨ s.flag DBG_STAT_UNLOCK = true)) :=
  ⟨⟨0, chg .test .run, 0, by decide⟩,
   meets ({ live .test with flt := resetFlt }) (leBytes 4 0x1) (by decide) (⟨rfl, rfl, Or.inl ⟨0, by decide, by decide⟩⟩)⟩

/-- What `Obligations.ModeTransitions` assumes is met. -/
theorem witness_mode_transitions :
    (∃ s s' : State, step s = .next s' ∧ s'.mode = .test) ∧
    (∃ s s' : State, step s = .next s' ∧ s'.mode = .run) ∧
    (∃ s s' : State, step s = .next s' ∧ s.mode = .safe) :=
  ⟨⟨{ chg .run .test with pending := [.modeChangeEffect 0] }, modeChangeEffectEff ({ chg .run .test with pending := [] }.at 0), ⟨mode_step 0 (chg .run .test), by decide⟩⟩,
   ⟨{ chg .test .run with pending := [.modeChangeEffect 0] }, modeChangeEffectEff ({ chg .test .run with pending := [] }.at 0), ⟨mode_step 0 (chg .test .run), by decide⟩⟩,
   ⟨live .safe, _, ⟨rfl, rfl⟩⟩⟩

/-- What `Obligations.KeyCountersNeverFall` assumes is met. -/
theorem witness_key_counters_never_fall :
    (∃ (s s' : State), step s = .next s') ∧
    (∃ (s s' : State), ∃ (k : Nat), step s = .next s') :=
  ⟨⟨live .run, _, rfl⟩,
   ⟨live .run, _, 7, rfl⟩⟩

/-- What `Obligations.OtpNeverUndone` assumes is met. -/
theorem witness_otp_never_undone :
    (∃ s s' : State, OtpSound s ∧ step s = .next s') ∧
    (∃ (s s' : State) (h : Nat), OtpSound s ∧ step s = .next s' ∧ h = 1) ∧
    (∃ (s s' : State) (h : Nat), OtpSound s ∧ step s = .next s' ∧ (s.otpSlot h).st ≠ 0) :=
  ⟨⟨live .run, _, ⟨⟨rfl, fun h => match h with | 0 => by decide | 1 => by decide | _ + 2 => (by decide : 0 ≤ 2), trivial⟩, rfl⟩⟩,
   ⟨live .run, _, 1, ⟨⟨rfl, fun h => match h with | 0 => by decide | 1 => by decide | _ + 2 => (by decide : 0 ≤ 2), trivial⟩, rfl, rfl⟩⟩,
   ⟨starting 0, _, 1, ⟨⟨rfl, fun h => match h with | 0 => by decide | 1 => by decide | _ + 2 => (by decide : 0 ≤ 2), trivial⟩, rfl, by decide⟩⟩⟩

/-- What `Obligations.MemoryFormKept` assumes is met. -/
theorem witness_memory_form_kept :
    (∃ s s' : State, Memory.wf s = true ∧ step s = .next s') :=
  ⟨{ live .run with regs := [(TRP_DRV_ARM, 1)], pending := [.xspiWrite 0 0x200000 [5] false] }, _, ⟨by decide, rfl⟩⟩

end Sys2Proof.Tests
end

/-!
The state power-on reset leaves (R5, R421): its register file lists nothing, so every register reads its reset value; its key slots and
OTP slots are all alike; and no map is in force.
-/
namespace Sys2Proof.Machine

/-- A list that repeats its default reads as the default, within its length and beyond. -/
@[simp] theorem lget_replicate_default {α : Type} (d : α) (n i : Nat) : lget d (List.replicate n d) i = d := by
  induction n generalizing i with
  | zero => rfl
  | succ n ih =>
    cases i with
    | zero => rfl
    | succ i => exact ih i

/-- R5: after reset the register file lists no word, so each is at its reset value. -/
@[simp] theorem State.rd_reset (a : Nat) : State.reset.rd a = rstWord a := rfl

@[simp] theorem State.getF_reset (f : Field) : State.reset.getF f = getBits (rstWord f.addr) f.lo f.width := rfl

/-- Section 05, registers: the words TRP_DRV_ARM and TRP_DRV_FIRE of the driven states are 0 at reset. -/
theorem State.drive_reset : State.reset.getF TRP_DRV_ARM_DARM = 0 ∧ State.reset.getF TRP_DRV_FIRE_DFIRE = 0 := by
  simp only [State.getF_reset]
  decide

/-- Section 06, registers: STATE of a pod is STOPPED at reset, where other bits of the word POD_STAT are set. -/
theorem State.podState_reset {p : Nat} (hp : p < 3) : State.reset.podState p = 0 := by
  have h : ∀ p < 3, State.reset.getF (POD_STAT_STATE p) = 0 := by
    simp only [State.getF_reset]
    decide
  exact h p hp

@[simp] theorem State.queue_reset (q : Nat) : State.reset.queue q = [] := ite_self _

/-- Log entry 5: a part is delivered with every key slot empty. -/
@[simp] theorem State.keySlot_reset (k : Nat) : State.reset.keySlot k = ⟨0, []⟩ := lget_replicate_default _ 8 k

/-- Log entry 5: a part is delivered with every key counter at 0. -/
theorem State.keyCnt_reset (k : Nat) : lget 0 State.reset.mram.keyCnt k = 0 := lget_replicate_default _ 8 k

/-- Log entry 5: a part is delivered with every OTP slot UNPROGRAMMED. -/
@[simp] theorem State.otpSlot_reset (h : Nat) : State.reset.otpSlot h = ⟨0, 0⟩ := lget_replicate_default _ 2 h

/-- R484: without a map in force an access is judged by its window alone. -/
theorem State.judge_of_noMap {s : State} (h : s.sys.mapOn = false) (r : Requester) (a : Nat) :
    s.judge r a = if a / 0x8000 < 4 then .allowed else .noMap := by
  simp [State.judge, h]

/-- R484: after reset windows 0 to 3 answer. -/
theorem State.judge_reset_of_window_lt_four {a : Nat} (ha : a < 4) : State.reset.judge .xspi (a * 0x8000) = .allowed := by
  rw [State.judge_of_noMap rfl, Nat.mul_div_cancel a (by decide), if_pos ha]

/-- Settles O50: the reset state read field by field, the registers by the empty register file. -/
theorem stateAtReset : Obligations.StateAtReset := by
  unfold Obligations.StateAtReset
  obtain ⟨harm, hfire⟩ := State.drive_reset
  have hlogic : State.reset.getF LGC_MODE_MODE = 0 := by
    rw [State.getF_reset]
    decide
  have hwindow4 : State.reset.judge .xspi 0x20000 = .noMap := State.judge_of_noMap rfl _ _
  exact ⟨rfl, rfl, Memory.wf_reset, rfl, rfl,
    State.rd_reset, State.queue_reset, rfl, rfl,
    harm, hfire, hlogic,
    fun _ => State.podState_reset, rfl, rfl, rfl,
    fun k _ => ⟨congrArg KeySlot.st (State.keySlot_reset k), State.keyCnt_reset k⟩,
    fun h _ => congrArg OtpSlot.st (State.otpSlot_reset h),
    fun _ => State.judge_reset_of_window_lt_four, hwindow4⟩

end Sys2Proof.Machine

/-!
The device mode over one step (R18). Thirteen commands can change it; every other command leaves it as it was, which the frame lemma
of its effect says. What the thirteen do is stated once for each operation that writes the mode: entering SAFE, the start's slots, the
change at a fast tick, the change at a slow-tick boundary, and the two resets.
-/
namespace Sys2Proof.Machine

/-! ### The transitions of R18 -/

/-- R18: the changes of device mode the table allows, a mode that stays with them. -/
def ModeAllowed (m m' : Mode) : Prop :=
  (m' = .test → m = .run ∨ m = .test) ∧ (m' = .run → m ≠ .safe) ∧ (m = .safe → m' = .safe ∨ m' = .boot)

theorem ModeAllowed.refl (m : Mode) : ModeAllowed m m := by
  cases m <;> simp [ModeAllowed]

theorem ModeAllowed.to_boot (m : Mode) : ModeAllowed m .boot := by
  simp [ModeAllowed]

theorem ModeAllowed.to_safe (m : Mode) : ModeAllowed m .safe := by
  simp [ModeAllowed]

theorem ModeAllowed.boot_to_run : ModeAllowed .boot .run := by
  simp [ModeAllowed]

/-- R18: while protection runs every change is one of the table's. -/
theorem ModeAllowed.of_protecting {s : State} (h : s.protecting = true) (m : Mode) : ModeAllowed s.mode m := by
  cases hm : s.mode <;> simp_all [ModeAllowed, State.protecting]

/-- A mode that stays, or becomes SAFE. -/
def KeptOrSafe (m m' : Mode) : Prop := m' = m ∨ m' = .safe

theorem KeptOrSafe.refl (m : Mode) : KeptOrSafe m m := .inl rfl

theorem KeptOrSafe.allowed {m m' : Mode} (h : KeptOrSafe m m') : ModeAllowed m m' := by
  rcases h with rfl | rfl
  · exact .refl _
  · exact .to_safe m

/-- A start from BOOT is allowed after any mode, as long as it stays in BOOT or enters SAFE. -/
theorem KeptOrSafe.allowed_of_boot {m m' m'' : Mode} (hboot : m' = .boot) (h : KeptOrSafe m' m'') : ModeAllowed m m'' := by
  rcases h with rfl | rfl
  · exact hboot ▸ .to_boot m
  · exact .to_safe m

/-! ### The operations that enter SAFE -/

@[simp] theorem State.enterSafe_mode (s : State) (cause : Nat) : (s.enterSafe cause).mode = .safe := rfl

@[simp] theorem State.bothInvalid_mode (s : State) (r : LoadReport) : (s.bothInvalid r).mode = .safe := rfl

theorem State.slotFailed_mode (s : State) (r : LoadReport) : KeptOrSafe s.mode (s.slotFailed r).mode := by
  have hraise := @State.raise_frame
  have hreport := @State.report_frame
  have hsys := @State.sysUpd_frame
  unfold State.slotFailed
  split
  · exact .inr rfl
  · dsimp only
    split
    · exact .inl (by simp [hsys, hraise, hreport])
    · exact .inr rfl

theorem State.startSlot_mode (s : State) : KeptOrSafe s.mode s.startSlot.mode := by
  unfold State.startSlot
  split
  · exact .inl rfl
  · exact State.slotFailed_mode s _

theorem State.stepTwo_mode (s : State) (hdrs : List ImgHdr) (octal trngOk hold : Bool) :
    KeptOrSafe s.mode (s.stepTwo hdrs octal trngOk hold).mode := by
  have hite := @State.ite_frame
  have hraise := @State.raise_frame
  have hsys := @State.sysUpd_frame
  unfold State.stepTwo
  dsimp only
  split
  · exact .inl (by simp [↓hite, hraise, hsys])
  · refine Eq.subst (motive := fun m => KeptOrSafe m _) ?_ (State.startSlot_mode _)
    simp [↓hite, hraise, hsys]

theorem referenceLossEff_mode (s : State) : KeptOrSafe s.mode (referenceLossEff s).mode := by
  have hflag := @State.setFlag_frame
  have hdrop := @State.dropMode_frame
  have hlog := @State.logOnly_frame
  have hsys := @State.sysUpd_frame
  unfold referenceLossEff
  split
  · exact .refl _
  · dsimp only
    split
    · exact .inl (by simp [hflag, hdrop, hlog, hsys])
    · exact .inr rfl

theorem ozLinkFallEff_mode (l : Nat) (clk : Bool) (s : State) : KeptOrSafe s.mode (ozLinkFallEff l clk s).mode := by
  have hdown : (ozLinkDownEff l clk s).mode = s.mode := by simp [ozLinkDownEff_frame]
  unfold ozLinkFallEff
  dsimp only
  split
  · exact hdown ▸ referenceLossEff_mode _
  · exact .inl hdown

/-- R450: running a request changes the mode only as its opcode does. -/
theorem State.runReq_keptOrSafe {s : State} {q : CmdReq} {row : OpRow} {f : CmdReq → State → CmdRes}
    (h : ∀ q s, KeptOrSafe s.mode (f q s).s.mode) : KeptOrSafe s.mode (s.runReq q row f).mode := by
  have hrespond := @State.respond_frame
  have hrun : KeptOrSafe s.mode (s.asWorld q (f q)).s.mode := h q { s with sys := { s.sys with elevated := q.secure } }
  unfold State.runReq
  split
  · exact .inl (by simp [hrespond])
  · split
    · exact .inl (by simp [hrespond])
    · dsimp only
      split
      · exact hrun
      · simpa [hrespond] using hrun

/-- R446: a command of an opcode changes the mode only as the opcode does. -/
theorem State.onOpcode_keptOrSafe {s : State} {op : Nat} {f : CmdReq → State → CmdRes}
    (h : ∀ q s, KeptOrSafe s.mode (f q s).s.mode) : KeptOrSafe s.mode (s.onOpcode op f).mode := by
  have hsend := @State.sendRsp_frame
  have hauth (a : State) (q : CmdReq) (sec : Bool) : (a.authenticate q sec).2.mode = a.mode := by
    simp [State.authenticate_frame]
  unfold State.onOpcode
  split
  case h_2 => exact .refl _
  case h_1 q rest row hsvc hrow =>
    split
    · exact .refl _
    · dsimp only
      split
      · have hmode := hauth { s with cmd := { s.cmd with svc := rest } } q
          (({ s with cmd := { s.cmd with svc := rest } } : State).critOf q row.crit).2
        split <;> rename_i heq <;> rw [heq] at hmode
        · exact hmode ▸ State.runReq_keptOrSafe h
        all_goals exact .inl (by simpa [hsend] using hmode)
      · exact State.runReq_keptOrSafe (s := { s with cmd := { s.cmd with svc := rest } }) h

theorem cmdSafeEff_mode (s : State) : KeptOrSafe s.mode (cmdSafeEff s).mode :=
  State.onOpcode_keptOrSafe (fun _ _ => .inr rfl)

theorem powerOnResetReleaseEff_mode (straps : Straps) (hdrs : List ImgHdr) (octal trngOk : Bool) (s : State) :
    KeptOrSafe s.mode (powerOnResetReleaseEff straps hdrs octal trngOk s).mode := by
  unfold powerOnResetReleaseEff
  split
  · exact .refl _
  · refine Eq.subst (motive := fun m => KeptOrSafe m _) ?_ (State.stepTwo_mode ..)
    simp [State.startRecord_frame, State.chooseSlot_frame, State.sysUpd_frame]

theorem bootHoldFallEff_mode (hdrs : List ImgHdr) (s : State) : KeptOrSafe s.mode (bootHoldFallEff hdrs s).mode := by
  unfold bootHoldFallEff
  split
  · exact .refl _
  · exact State.startSlot_mode (s.sysUpd _)

theorem imageHashDoneEff_mode (sigOk : Bool) (s : State) : KeptOrSafe s.mode (imageHashDoneEff sigOk s).mode := by
  unfold imageHashDoneEff
  split
  · exact .refl _
  · split
    · exact .inl rfl
    · exact State.slotFailed_mode s _

theorem lpddr4xTrainingDoneEff_mode (ok : Bool) (s : State) : KeptOrSafe s.mode (lpddr4xTrainingDoneEff ok s).mode := by
  unfold lpddr4xTrainingDoneEff
  split
  · exact .refl _
  · split
    · exact .inl rfl
    · exact .inr rfl

theorem sectionsLoadedEff_mode (img : Image) (badHash : List Nat) (s : State) :
    KeptOrSafe s.mode (sectionsLoadedEff img badHash s).mode := by
  unfold sectionsLoadedEff
  split
  · exact .refl _
  · split
    · exact State.slotFailed_mode s _
    · exact .inl rfl

theorem imageValidationEff_mode (s : State) : KeptOrSafe s.mode (imageValidationEff s).mode := by
  unfold imageValidationEff
  split
  · exact .refl _
  · split
    · exact .refl _
    · split
      · exact State.slotFailed_mode s _
      · exact .inl (by simp [State.startIslands_frame, State.report_frame])

/-! ### The operations that enter BOOT, RUN and TEST -/

@[simp] theorem State.cleared_mode (s : State) : s.cleared.mode = .boot := rfl

@[simp] theorem supplyOutOfRangeEff_mode (s : State) : (supplyOutOfRangeEff s).mode = .boot := rfl

@[simp] theorem State.restarted_mode (s : State) (warm : Bool) : (s.restarted warm).mode = .boot := rfl

theorem restartTakeEff_mode (hdrs : List ImgHdr) (octal trngOk holdLvl : Bool) (s : State) :
    ModeAllowed s.mode (restartTakeEff hdrs octal trngOk holdLvl s).mode := by
  unfold restartTakeEff
  split
  · exact .refl _
  · split
    · exact .refl _
    · dsimp only
      refine KeptOrSafe.allowed_of_boot ?_ (State.stepTwo_mode ..)
      simp [State.startRecord_frame, State.chooseSlot_frame, State.setTrp_frame]

theorem State.toRun_mode (s : State) : s.toRun.mode = .run := by
  have hite := @State.ite_frame
  simp [State.toRun, ↓hite, State.dutiesAtActive_frame, State.recAutoArm_frame, State.startFree_frame, State.setProg_frame,
    State.setFlag_frame, State.sysUpd_frame]

/-- R18: at a fast tick RUN is entered from BOOT alone. -/
theorem State.activeAtTick_mode (s : State) : s.activeAtTick.mode = s.mode ∨ s.mode = .boot ∧ s.activeAtTick.mode = .run := by
  unfold State.activeAtTick
  split
  · next h => exact .inr ⟨by simp_all, State.toRun_mode s⟩
  · exact .inl rfl

theorem startTickEff_mode (s : State) : ModeAllowed s.mode (startTickEff s).mode := by
  have htick : (startTickEff s).mode = s.activeAtTick.mode := by simp [startTickEff, fastTickEff_frame]
  rw [htick]
  rcases State.activeAtTick_mode s with h | ⟨hboot, hrun⟩
  · exact h ▸ .refl _
  · exact hboot ▸ hrun ▸ .boot_to_run

/-- R18: at a slow-tick boundary the mode changes only while protection runs. -/
theorem modeChangeEffectEff_mode (s : State) : ModeAllowed s.mode (modeChangeEffectEff s).mode := by
  by_cases h : s.protecting = true
  · exact .of_protecting h _
  · have hkept : modeChangeEffectEff s = s := by
      unfold modeChangeEffectEff
      split
      · rfl
      · simp [h]
    exact hkept.symm ▸ .refl _

/-! ### Every command -/

/-- The commands whose effect can write the device mode. -/
def writesMode : Instr → Bool
  | .supplyOutOfRange .. | .powerOnResetRelease .. | .bootHoldFall .. | .imageHashDone .. | .lpddr4xTrainingDone ..
  | .sectionsLoaded .. | .imageValidation .. | .modeChangeEffect .. | .referenceLoss .. | .restartTake .. | .fastTick ..
  | .ozLinkDown .. | .cmdSafe .. => true
  | _ => false

@[simp] theorem State.at_mode (s : State) (t : Nat) : (s.at t).mode = s.mode := rfl

/-- R18: every other command leaves the device mode as it was. -/
theorem exec_mode_of_not_writesMode (i : Instr) (s : State) (h : writesMode i = false) :
    ∃ s', exec i s = .next s' ∧ s'.mode = s.mode := by
  cases i with
  | supplyOutOfRange => cases h
  | powerOnResetRelease => cases h
  | bootHoldFall => cases h
  | imageHashDone => cases h
  | lpddr4xTrainingDone => cases h
  | sectionsLoaded => cases h
  | imageValidation => cases h
  | modeChangeEffect => cases h
  | referenceLoss => cases h
  | restartTake => cases h
  | fastTick => cases h
  | ozLinkDown => cases h
  | cmdSafe => cases h
  | startupCalibrationDone => exact ⟨_, exec_startupCalibrationDone .., by simp [startupCalibrationDoneEff_frame]⟩
  | referenceReturnRestart => exact ⟨_, exec_referenceReturnRestart .., by simp [referenceReturnRestartEff_frame]⟩
  | policyRestart => exact ⟨_, exec_policyRestart .., by simp [policyRestartEff_frame]⟩
  | supplyWarnExcursion => exact ⟨_, exec_supplyWarnExcursion .., by simp [State.mode_ite, supplyWarnExcursionEff_frame]⟩
  | supplyExcursionEnd => exact ⟨_, exec_supplyExcursionEnd .., by simp [State.mode_ite, supplyExcursionEndEff_frame]⟩
  | temperatureExcursion => exact ⟨_, exec_temperatureExcursion .., by simp [temperatureExcursionEff_frame]⟩
  | monitorRefresh => exact ⟨_, exec_monitorRefresh .., by simp [State.mode_ite, monitorRefreshEff_frame]⟩
  | trngTestFail => exact ⟨_, exec_trngTestFail .., by simp [State.mode_ite, trngTestFailEff_frame]⟩
  | fusedSample => exact ⟨_, exec_fusedSample .., by simp [crossedSampleEff_frame]⟩
  | arbitrationOpen => exact ⟨_, exec_arbitrationOpen .., by simp [State.mode_ite, arbitrationOpenEff_frame]⟩
  | arbitrationDecision => exact ⟨_, exec_arbitrationDecision .., by simp [State.mode_ite, arbitrationDecisionEff_frame]⟩
  | rotationStepStart => exact ⟨_, exec_rotationStepStart .., by simp [State.mode_ite, rotationStepStartEff_frame]⟩
  | shadowEnd => exact ⟨_, exec_shadowEnd .., by simp [State.mode_ite, shadowEndEff_frame]⟩
  | sliceCalibrationDone => exact ⟨_, exec_sliceCalibrationDone .., by simp [State.mode_ite, sliceCalibrationDoneEff_frame]⟩
  | cnvRefreqWrite => exact ⟨_, exec_cnvRefreqWrite .., by simp [State.mode_ite, cnvRefreqWriteEff_frame]⟩
  | refSettledRise => exact ⟨_, exec_refSettledRise .., by simp [State.mode_ite, refSettledRiseEff_frame]⟩
  | refWindowFault => exact ⟨_, exec_refWindowFault .., by simp [State.mode_ite, refWindowFaultEff_frame]⟩
  | refSettlingFault => exact ⟨_, exec_refSettlingFault .., by simp [State.mode_ite, refSettlingFaultEff_frame]⟩
  | auxStart => exact ⟨_, exec_auxStart .., by simp [State.mode_ite, auxStartEff_frame]⟩
  | auxStop => exact ⟨_, exec_auxStop .., by simp [State.mode_ite, auxStopEff_frame]⟩
  | auxClrCnt => exact ⟨_, exec_auxClrCnt .., by simp [State.mode_ite, auxClrCntEff_frame]⟩
  | auxFlush => exact ⟨_, exec_auxFlush .., by simp [State.mode_ite, auxFlushEff_frame]⟩
  | auxEntryDone => exact ⟨_, exec_auxEntryDone .., by simp [auxEntryDoneEff_frame]⟩
  | auxPeriodStart => exact ⟨_, exec_auxPeriodStart .., by simp [auxPeriodStartEff_frame]⟩
  | auxSnapGo => exact ⟨_, exec_auxSnapGo .., by simp [State.mode_ite, auxSnapGoEff_frame]⟩
  | auxSnapCapture => exact ⟨_, exec_auxSnapCapture .., by simp [auxSnapCaptureEff_frame]⟩
  | auxQdataRead => exact ⟨_, exec_auxQdataRead .., by simp [State.mode_ite, auxQdataReadEff_frame]⟩
  | stage1Output => exact ⟨_, exec_stage1Output .., by simp [State.mode_ite, stage1OutputEff_frame]⟩
  | stage2Output => exact ⟨_, exec_stage2Output .., by simp [State.mode_ite, stage2OutputEff_frame]⟩
  | recomputeDone => exact ⟨_, exec_recomputeDone .., by simp [State.mode_ite, recomputeMaskEff_frame]⟩
  | trackedSample => exact ⟨_, exec_trackedSample .., by simp [State.mode_ite, trackedMaskEff_frame]⟩
  | fixedRateSample => exact ⟨_, exec_fixedRateSample .., by simp [State.mode_ite, fixedRatePublishEff_frame]⟩
  | phasorSwap => exact ⟨_, exec_phasorSwap .., by simp [State.offerEdges_frame, swapTickEff_frame]⟩
  | fltStop => exact ⟨_, exec_fltStop .., by simp [State.mode_ite, fltStopEff_frame]⟩
  | fltStart => exact ⟨_, exec_fltStart .., by simp [State.mode_ite, fltStartEff_frame]⟩
  | chainStopTaken => exact ⟨_, exec_chainStopTaken .., by simp [State.mode_ite, chainStopTakenEff_frame]⟩
  | syncReset => exact ⟨_, exec_syncReset .., by simp [State.mode_ite, syncResetEff_frame]⟩
  | fltBankWrite => exact ⟨_, exec_fltBankWrite .., by simp [State.mode_ite, fltBankWriteEff_frame]⟩
  | fltCdataWrite => exact ⟨_, exec_fltCdataWrite .., by simp [State.mode_ite, fltCdataWriteEff_frame]⟩
  | fltCcmtCommit => exact ⟨_, exec_fltCcmtCommit .., by simp [State.mode_ite, fltCcmtCommitEff_frame]⟩
  | fltTrimWrite => exact ⟨_, exec_fltTrimWrite .., by simp [State.mode_ite, fltTrimWriteEff_frame]⟩
  | fltPhselWrite => exact ⟨_, exec_fltPhselWrite .., by simp [State.mode_ite, fltPhselWriteEff_frame]⟩
  | wordRelease => exact ⟨_, exec_wordRelease .., by simp [State.offerEdges_frame, crossedReleaseEff_frame]⟩
  | tripCommit => exact ⟨_, exec_tripCommit .., by simp [State.offerEdges_frame, tripCommitEff_frame]⟩
  | commitMissingLimit => exact ⟨_, exec_commitMissingLimit .., by simp [State.mode_ite, State.offerEdges_frame, commitMissingLimitEff_frame]⟩
  | minonExpiry => exact ⟨_, exec_minonExpiry .., by simp [State.mode_ite, State.offerEdges_frame, minonExpiryEff_frame]⟩
  | driveHalfPeriod => exact ⟨_, exec_driveHalfPeriod .., by simp [State.offerEdges_frame, driveHalfPeriodEff_frame]⟩
  | readbackMismatch => exact ⟨_, exec_readbackMismatch .., by simp [State.mode_ite, State.offerEdges_frame, readbackMismatchEff_frame]⟩
  | wdogHalfPeriod => exact ⟨_, exec_wdogHalfPeriod .., by simp [State.offerEdges_frame, wdogHalfPeriodEff_frame]⟩
  | slowListStart => exact ⟨_, exec_slowListStart .., by simp [State.mode_ite, State.offerEdges_frame, slowListStartEff_frame]⟩
  | slowListAbandon => exact ⟨_, exec_slowListAbandon .., by simp [State.mode_ite, State.offerEdges_frame, slowListAbandonEff_frame]⟩
  | definiteTimeExpiry => exact ⟨_, exec_definiteTimeExpiry .., by simp [State.mode_ite, State.offerEdges_frame, definiteTimeExpiryEff_frame]⟩
  | inverseTimeOperate => exact ⟨_, exec_inverseTimeOperate .., by simp [State.mode_ite, State.offerEdges_frame, inverseTimeOperateEff_frame]⟩
  | resetTimeExpiry => exact ⟨_, exec_resetTimeExpiry .., by simp [State.mode_ite, State.offerEdges_frame, resetTimeExpiryEff_frame]⟩
  | holdLimitExpiry => exact ⟨_, exec_holdLimitExpiry .., by simp [State.mode_ite, State.offerEdges_frame, holdLimitExpiryEff_frame]⟩
  | vectorShiftPulseEnd => exact ⟨_, exec_vectorShiftPulseEnd .., by simp [State.mode_ite, State.offerEdges_frame, vectorShiftPulseEndEff_frame]⟩
  | bfRetripTime => exact ⟨_, exec_bfRetripTime .., by simp [State.mode_ite, State.offerEdges_frame, bfRetripTimeEff_frame]⟩
  | bfBacktripTime => exact ⟨_, exec_bfBacktripTime .., by simp [State.mode_ite, State.offerEdges_frame, bfBacktripTimeEff_frame]⟩
  | coldLoadEntry => exact ⟨_, exec_coldLoadEntry .., by simp [State.mode_ite, State.offerEdges_frame, coldLoadEntryEff_frame]⟩
  | coldLoadEnd => exact ⟨_, exec_coldLoadEnd .., by simp [State.mode_ite, State.offerEdges_frame, coldLoadEndEff_frame]⟩
  | zoneNconReached => exact ⟨_, exec_zoneNconReached .., by simp [State.mode_ite, State.offerEdges_frame, zoneNconReachedEff_frame]⟩
  | zoneBlankEnd => exact ⟨_, exec_zoneBlankEnd .., by simp [State.mode_ite, State.offerEdges_frame, zoneBlankEndEff_frame]⟩
  | zoneAlarmTime => exact ⟨_, exec_zoneAlarmTime .., by simp [State.mode_ite, State.offerEdges_frame, zoneAlarmTimeEff_frame]⟩
  | surgeInception => exact ⟨_, exec_surgeInception .., by simp [State.mode_ite, State.offerEdges_frame, surgeInceptionEff_frame]⟩
  | iseWindowClose => exact ⟨_, exec_iseWindowClose .., by simp [State.mode_ite, State.offerEdges_frame, iseWindowCloseEff_frame]⟩
  | iseWinExpiry => exact ⟨_, exec_iseWinExpiry .., by simp [State.mode_ite, State.offerEdges_frame, iseWinExpiryEff_frame]⟩
  | groupChangeEffect => exact ⟨_, exec_groupChangeEffect .., by simp [State.mode_ite, State.offerEdges_frame, groupChangeEffectEff_frame]⟩
  | settingWriteEffect => exact ⟨_, exec_settingWriteEffect .., by simp [State.mode_ite, State.offerEdges_frame, settingWriteEffectEff_frame]⟩
  | binaryInputEdge => exact ⟨_, exec_binaryInputEdge .., by simp [State.mode_ite, State.offerEdges_frame, binaryInputEdgeEff_frame]⟩
  | debouncedChange => exact ⟨_, exec_debouncedChange .., by simp [State.mode_ite, State.offerEdges_frame, debouncedChangeEff_frame]⟩
  | trigInEdge => exact ⟨_, exec_trigInEdge .., by simp [State.mode_ite, trigInEdgeEff_frame]⟩
  | commitBoundary => exact ⟨_, exec_commitBoundary .., by simp [State.mode_ite, State.offerEdges_frame, State.podHook_frame, commitBoundaryEff_frame]⟩
  | sinkReport => exact ⟨_, exec_sinkReport .., by simp [State.mode_ite, State.offerEdges_frame, State.podHook_frame, sinkReportEff_frame]⟩
  | resyncComplete => exact ⟨_, exec_resyncComplete .., by simp [State.mode_ite, State.offerEdges_frame, resyncCompleteEff_frame]⟩
  | coreMemoryRead => exact ⟨_, exec_coreMemoryRead .., by simp [State.mode_ite, State.offerEdges_frame, State.podHook_frame, coreMemoryReadEff_frame]⟩
  | scrubSlot => exact ⟨_, exec_scrubSlot .., by simp [State.mode_ite, State.offerEdges_frame, State.podHook_frame, scrubSlotEff_frame]⟩
  | podSel => exact ⟨_, exec_podSel .., by simp [State.mode_ite, podSelEff_frame]⟩
  | dbgNop => exact ⟨_, exec_dbgNop .., by simp [nopEff_frame]⟩
  | dbgHalt => exact ⟨_, exec_dbgHalt .., by simp [haltEff_frame]⟩
  | dbgResume => exact ⟨_, exec_dbgResume .., by simp [resumeEff_frame]⟩
  | dbgStep => exact ⟨_, exec_dbgStep .., by simp [stepEff_frame]⟩
  | dbgReadReg => exact ⟨_, exec_dbgReadReg .., by simp [readRegEff_frame]⟩
  | dbgWriteReg => exact ⟨_, exec_dbgWriteReg .., by simp [writeRegEff_frame]⟩
  | dbgReadMem => exact ⟨_, exec_dbgReadMem .., by simp [readMemEff_frame]⟩
  | dbgWriteMem => exact ⟨_, exec_dbgWriteMem .., by simp [writeMemEff_frame]⟩
  | dbgSetBp => exact ⟨_, exec_dbgSetBp .., by simp [State.mode_ite, setBpEff_frame]⟩
  | dbgClrBp => exact ⟨_, exec_dbgClrBp .., by simp [State.mode_ite, clrBpEff_frame]⟩
  | breakpointHit => exact ⟨_, exec_breakpointHit .., by simp [State.mode_ite, breakpointHitEff_frame]⟩
  | tapExtest => exact ⟨_, exec_tapExtest .., by simp [tapExtestEff_frame]⟩
  | tapIdcode => exact ⟨_, exec_tapIdcode .., by simp [tapIdcodeEff_frame]⟩
  | tapSamplePreload => exact ⟨_, exec_tapSamplePreload .., by simp [tapSamplePreloadEff_frame]⟩
  | tapHighz => exact ⟨_, exec_tapHighz .., by simp [tapHighzEff_frame]⟩
  | tapClamp => exact ⟨_, exec_tapClamp .., by simp [tapClampEff_frame]⟩
  | tapBypass => exact ⟨_, exec_tapBypass .., by simp [tapBypassEff_frame]⟩
  | periodStart => exact ⟨_, exec_periodStart .., by simp [State.mode_ite, State.offerEdges_frame, periodStartEff_frame]⟩
  | freeRunScanStart => exact ⟨_, exec_freeRunScanStart .., by simp [State.mode_ite, State.offerEdges_frame, freeRunScanStartEff_frame]⟩
  | logicOutputWrite => exact ⟨_, exec_logicOutputWrite .., by simp [State.mode_ite, State.offerEdges_frame, logicOutputWriteEff_frame]⟩
  | joinComplete => exact ⟨_, exec_joinComplete .., by simp [State.offerEdges_frame, joinCompleteEff_frame]⟩
  | exchangeLoaded => exact ⟨_, exec_exchangeLoaded .., by simp [State.offerEdges_frame, exchangeLoadedEff_frame]⟩
  | retainCommitDone => exact ⟨_, exec_retainCommitDone .., by simp [State.offerEdges_frame, retainCommitDoneEff_frame]⟩
  | holdEntry => exact ⟨_, exec_holdEntry .., by simp [State.mode_ite, State.offerEdges_frame, holdEntryEff_frame]⟩
  | initWaitExpiry => exact ⟨_, exec_initWaitExpiry .., by simp [State.mode_ite, State.offerEdges_frame, initWaitExpiryEff_frame]⟩
  | blkEnd => exact ⟨_, exec_blkEnd .., by simp [State.mode_ite, blkEndEff_frame]⟩
  | blkAnd => exact ⟨_, exec_blkAnd .., by simp [State.mode_ite, blkAndEff_frame]⟩
  | blkOr => exact ⟨_, exec_blkOr .., by simp [State.mode_ite, blkOrEff_frame]⟩
  | blkXor => exact ⟨_, exec_blkXor .., by simp [State.mode_ite, blkXorEff_frame]⟩
  | blkNot => exact ⟨_, exec_blkNot .., by simp [State.mode_ite, blkNotEff_frame]⟩
  | blkSr => exact ⟨_, exec_blkSr .., by simp [State.mode_ite, blkSrEff_frame]⟩
  | blkRs => exact ⟨_, exec_blkRs .., by simp [State.mode_ite, blkRsEff_frame]⟩
  | blkMaj3 => exact ⟨_, exec_blkMaj3 .., by simp [State.mode_ite, blkMaj3Eff_frame]⟩
  | blkKofn => exact ⟨_, exec_blkKofn .., by simp [State.mode_ite, blkKofnEff_frame]⟩
  | blkRTrig => exact ⟨_, exec_blkRTrig .., by simp [State.mode_ite, blkRTrigEff_frame]⟩
  | blkFTrig => exact ⟨_, exec_blkFTrig .., by simp [State.mode_ite, blkFTrigEff_frame]⟩
  | blkTon => exact ⟨_, exec_blkTon .., by simp [State.mode_ite, blkTonEff_frame]⟩
  | blkTof => exact ⟨_, exec_blkTof .., by simp [State.mode_ite, blkTofEff_frame]⟩
  | blkTp => exact ⟨_, exec_blkTp .., by simp [State.mode_ite, blkTpEff_frame]⟩
  | blkCtu => exact ⟨_, exec_blkCtu .., by simp [State.mode_ite, blkCtuEff_frame]⟩
  | blkCtd => exact ⟨_, exec_blkCtd .., by simp [State.mode_ite, blkCtdEff_frame]⟩
  | blkCtud => exact ⟨_, exec_blkCtud .., by simp [State.mode_ite, blkCtudEff_frame]⟩
  | blkEq => exact ⟨_, exec_blkEq .., by simp [State.mode_ite, blkEqEff_frame]⟩
  | blkNe => exact ⟨_, exec_blkNe .., by simp [State.mode_ite, blkNeEff_frame]⟩
  | blkGt => exact ⟨_, exec_blkGt .., by simp [State.mode_ite, blkGtEff_frame]⟩
  | blkGe => exact ⟨_, exec_blkGe .., by simp [State.mode_ite, blkGeEff_frame]⟩
  | blkLt => exact ⟨_, exec_blkLt .., by simp [State.mode_ite, blkLtEff_frame]⟩
  | blkLe => exact ⟨_, exec_blkLe .., by simp [State.mode_ite, blkLeEff_frame]⟩
  | blkHyst => exact ⟨_, exec_blkHyst .., by simp [State.mode_ite, blkHystEff_frame]⟩
  | blkAdd => exact ⟨_, exec_blkAdd .., by simp [State.mode_ite, blkAddEff_frame]⟩
  | blkSub => exact ⟨_, exec_blkSub .., by simp [State.mode_ite, blkSubEff_frame]⟩
  | blkMul => exact ⟨_, exec_blkMul .., by simp [State.mode_ite, blkMulEff_frame]⟩
  | blkDiv => exact ⟨_, exec_blkDiv .., by simp [State.mode_ite, blkDivEff_frame]⟩
  | blkMod => exact ⟨_, exec_blkMod .., by simp [State.mode_ite, blkModEff_frame]⟩
  | blkAbs => exact ⟨_, exec_blkAbs .., by simp [State.mode_ite, blkAbsEff_frame]⟩
  | blkNeg => exact ⟨_, exec_blkNeg .., by simp [State.mode_ite, blkNegEff_frame]⟩
  | blkSqrt => exact ⟨_, exec_blkSqrt .., by simp [State.mode_ite, blkSqrtEff_frame]⟩
  | blkMin => exact ⟨_, exec_blkMin .., by simp [State.mode_ite, blkMinEff_frame]⟩
  | blkMax => exact ⟨_, exec_blkMax .., by simp [State.mode_ite, blkMaxEff_frame]⟩
  | blkSel => exact ⟨_, exec_blkSel .., by simp [State.mode_ite, blkSelEff_frame]⟩
  | blkMux => exact ⟨_, exec_blkMux .., by simp [State.mode_ite, blkMuxEff_frame]⟩
  | blkLimit => exact ⟨_, exec_blkLimit .., by simp [State.mode_ite, blkLimitEff_frame]⟩
  | blkMove => exact ⟨_, exec_blkMove .., by simp [State.mode_ite, blkMoveEff_frame]⟩
  | blkPack => exact ⟨_, exec_blkPack .., by simp [State.mode_ite, blkPackEff_frame]⟩
  | blkUnpack => exact ⟨_, exec_blkUnpack .., by simp [State.mode_ite, blkUnpackEff_frame]⟩
  | blkBand => exact ⟨_, exec_blkBand .., by simp [State.mode_ite, blkBandEff_frame]⟩
  | blkBor => exact ⟨_, exec_blkBor .., by simp [State.mode_ite, blkBorEff_frame]⟩
  | blkBxor => exact ⟨_, exec_blkBxor .., by simp [State.mode_ite, blkBxorEff_frame]⟩
  | blkShl => exact ⟨_, exec_blkShl .., by simp [State.mode_ite, blkShlEff_frame]⟩
  | blkShr => exact ⟨_, exec_blkShr .., by simp [State.mode_ite, blkShrEff_frame]⟩
  | blkI2r => exact ⟨_, exec_blkI2r .., by simp [State.mode_ite, blkI2rEff_frame]⟩
  | blkR2i => exact ⟨_, exec_blkR2i .., by simp [State.mode_ite, blkR2iEff_frame]⟩
  | blkB2i => exact ⟨_, exec_blkB2i .., by simp [State.mode_ite, blkB2iEff_frame]⟩
  | blkI2b => exact ⟨_, exec_blkI2b .., by simp [State.mode_ite, blkI2bEff_frame]⟩
  | blkT2i => exact ⟨_, exec_blkT2i .., by simp [State.mode_ite, blkT2iEff_frame]⟩
  | blkI2t => exact ⟨_, exec_blkI2t .., by simp [State.mode_ite, blkI2tEff_frame]⟩
  | blkT2r => exact ⟨_, exec_blkT2r .., by simp [State.mode_ite, blkT2rEff_frame]⟩
  | blkR2t => exact ⟨_, exec_blkR2t .., by simp [State.mode_ite, blkR2tEff_frame]⟩
  | blkNow => exact ⟨_, exec_blkNow .., by simp [State.mode_ite, blkNowEff_frame]⟩
  | blkLag => exact ⟨_, exec_blkLag .., by simp [State.mode_ite, blkLagEff_frame]⟩
  | blkDelta => exact ⟨_, exec_blkDelta .., by simp [State.mode_ite, blkDeltaEff_frame]⟩
  | blkQgood => exact ⟨_, exec_blkQgood .., by simp [State.mode_ite, blkQgoodEff_frame]⟩
  | blkSubstate => exact ⟨_, exec_blkSubstate .., by simp [State.mode_ite, blkSubstateEff_frame]⟩
  | blkPodstate => exact ⟨_, exec_blkPodstate .., by simp [State.mode_ite, blkPodstateEff_frame]⟩
  | blkDevstate => exact ⟨_, exec_blkDevstate .., by simp [State.mode_ite, blkDevstateEff_frame]⟩
  | blkElem => exact ⟨_, exec_blkElem .., by simp [State.mode_ite, blkElemEff_frame]⟩
  | blkZone => exact ⟨_, exec_blkZone .., by simp [State.mode_ite, blkZoneEff_frame]⟩
  | blkSgsel => exact ⟨_, exec_blkSgsel .., by simp [State.mode_ite, blkSgselEff_frame]⟩
  | blkBkr => exact ⟨_, exec_blkBkr .., by simp [State.mode_ite, blkBkrEff_frame]⟩
  | bkrPulseEnd => exact ⟨_, exec_bkrPulseEnd .., by simp [State.mode_ite, State.offerEdges_frame, bkrPulseEndEff_frame]⟩
  | bkrSupervisionTimeout => exact ⟨_, exec_bkrSupervisionTimeout .., by simp [State.mode_ite, State.offerEdges_frame, bkrSupervisionTimeoutEff_frame]⟩
  | bkrSelectExpiry => exact ⟨_, exec_bkrSelectExpiry .., by simp [State.mode_ite, State.offerEdges_frame, bkrSelectExpiryEff_frame]⟩
  | blkAr => exact ⟨_, exec_blkAr .., by simp [State.mode_ite, blkArEff_frame]⟩
  | blkIlk => exact ⟨_, exec_blkIlk .., by simp [State.mode_ite, blkIlkEff_frame]⟩
  | blkRectrg => exact ⟨_, exec_blkRectrg .., by simp [State.mode_ite, blkRectrgEff_frame]⟩
  | blkGsetB => exact ⟨_, exec_blkGsetB .., by simp [State.mode_ite, blkGsetBEff_frame]⟩
  | blkGsetI => exact ⟨_, exec_blkGsetI .., by simp [State.mode_ite, blkGsetIEff_frame]⟩
  | blkGsetR => exact ⟨_, exec_blkGsetR .., by simp [State.mode_ite, blkGsetREff_frame]⟩
  | blkAlarm => exact ⟨_, exec_blkAlarm .., by simp [State.mode_ite, blkAlarmEff_frame]⟩
  | blkDps => exact ⟨_, exec_blkDps .., by simp [State.mode_ite, blkDpsEff_frame]⟩
  | blkLockout => exact ⟨_, exec_blkLockout .., by simp [State.mode_ite, blkLockoutEff_frame]⟩
  | rowWrite => exact ⟨_, exec_rowWrite .., by simp [State.mode_ite, rowWriteEff_frame]⟩
  | recordIndexComplete => exact ⟨_, exec_recordIndexComplete .., by simp [State.mode_ite, recordIndexCompleteEff_frame]⟩
  | triggerArrival => exact ⟨_, exec_triggerArrival .., by simp [triggerArrivalEff_frame]⟩
  | trigOutPulseEnd => exact ⟨_, exec_trigOutPulseEnd .., by simp [State.mode_ite, trigOutPulseEndEff_frame]⟩
  | maskViolation => exact ⟨_, exec_maskViolation .., by simp [State.mode_ite, maskViolationEff_frame]⟩
  | recCctlArm => exact ⟨_, exec_recCctlArm .., by simp [State.mode_ite, recCctlArmEff_frame]⟩
  | recCctlDisarm => exact ⟨_, exec_recCctlDisarm .., by simp [State.mode_ite, recCctlDisarmEff_frame]⟩
  | recCctlApply => exact ⟨_, exec_recCctlApply .., by simp [State.mode_ite, recCctlApplyEff_frame]⟩
  | recCctlTrig => exact ⟨_, exec_recCctlTrig .., by simp [State.mode_ite, recCctlTrigEff_frame]⟩
  | recWselWrite => exact ⟨_, exec_recWselWrite .., by simp [State.mode_ite, recWselWriteEff_frame]⟩
  | recRelWrite => exact ⟨_, exec_recRelWrite .., by simp [State.mode_ite, recRelWriteEff_frame]⟩
  | recordWindowRead => exact ⟨_, exec_recordWindowRead .., by simp [State.mode_ite, recordWindowReadEff_frame]⟩
  | recordWindowWrite => exact ⟨_, exec_recordWindowWrite .., by simp [State.mode_ite, recordWindowWriteEff_frame]⟩
  | syncReceive => exact ⟨_, exec_syncReceive .., by simp [State.mode_ite, syncReceiveEff_frame]⟩
  | followUpReceive => exact ⟨_, exec_followUpReceive .., by simp [State.mode_ite, followUpReceiveEff_frame]⟩
  | announceReceive => exact ⟨_, exec_announceReceive .., by simp [State.mode_ite, announceReceiveEff_frame]⟩
  | pdelayReqReceive => exact ⟨_, exec_pdelayReqReceive .., by simp [State.mode_ite, pdelayReqReceiveEff_frame]⟩
  | pdelayRespReceive => exact ⟨_, exec_pdelayRespReceive .., by simp [State.mode_ite, pdelayRespReceiveEff_frame]⟩
  | pdelayMeasure => exact ⟨_, exec_pdelayMeasure .., by simp [State.mode_ite, pdelayMeasureEff_frame]⟩
  | irigbFrame => exact ⟨_, exec_irigbFrame .., by simp [irigbFrameEff_frame]⟩
  | ppsInEdge => exact ⟨_, exec_ppsInEdge .., by simp [ppsInEdgeEff_frame]⟩
  | syncLoss => exact ⟨_, exec_syncLoss .., by simp [State.mode_ite, syncLossEff_frame]⟩
  | announceReceiptTimeout => exact ⟨_, exec_announceReceiptTimeout .., by simp [State.mode_ite, announceReceiptTimeoutEff_frame]⟩
  | irigbLoss => exact ⟨_, exec_irigbLoss .., by simp [irigbLossEff_frame]⟩
  | ppsLoss => exact ⟨_, exec_ppsLoss .., by simp [ppsLossEff_frame]⟩
  | partnerTimeLoss => exact ⟨_, exec_partnerTimeLoss .., by simp [partnerTimeLossEff_frame]⟩
  | stepApply => exact ⟨_, exec_stepApply .., by simp [State.mode_ite, stepApplyEff_frame]⟩
  | compatSwitch => exact ⟨_, exec_compatSwitch .., by simp [compatSwitchEff_frame]⟩
  | ppsOutRise => exact ⟨_, exec_ppsOutRise .., by simp [ppsOutRiseEff_frame]⟩
  | ppsOutFall => exact ⟨_, exec_ppsOutFall .., by simp [ppsOutFallEff_frame]⟩
  | gmTransmit => exact ⟨_, exec_gmTransmit .., by simp [State.mode_ite, gmTransmitEff_frame]⟩
  | frameReceive => exact ⟨_, exec_frameReceive .., by simp [State.mode_ite, frameReceiveEff_frame]⟩
  | ddtEntryExpiry => exact ⟨_, exec_ddtEntryExpiry .., by simp [ddtEntryExpiryEff_frame]⟩
  | addressAgeing => exact ⟨_, exec_addressAgeing .., by simp [addressAgeingEff_frame]⟩
  | supervisionTx => exact ⟨_, exec_supervisionTx .., by simp [supervisionTxEff_frame]⟩
  | redundancyFaultDetect => exact ⟨_, exec_redundancyFaultDetect .., by simp [redundancyFaultDetectEff_frame]⟩
  | portLinkChange => exact ⟨_, exec_portLinkChange .., by simp [State.mode_ite, portLinkChangeEff_frame]⟩
  | c22Read => exact ⟨_, exec_c22Read .., by simp [State.mode_ite, mdioEff_frame]⟩
  | c22Write => exact ⟨_, exec_c22Write .., by simp [State.mode_ite, mdioEff_frame]⟩
  | c45Address => exact ⟨_, exec_c45Address .., by simp [State.mode_ite, mdioEff_frame]⟩
  | c45Read => exact ⟨_, exec_c45Read .., by simp [State.mode_ite, mdioEff_frame]⟩
  | c45Write => exact ⟨_, exec_c45Write .., by simp [State.mode_ite, mdioEff_frame]⟩
  | mdioFrameDone => exact ⟨_, exec_mdioFrameDone .., by simp [mdioFrameDoneEff_frame]⟩
  | gooseStateChange => exact ⟨_, exec_gooseStateChange .., by simp [State.mode_ite, gooseStateChangeEff_frame]⟩
  | gooseRetransmit => exact ⟨_, exec_gooseRetransmit .., by simp [State.mode_ite, gooseRetransmitEff_frame]⟩
  | gooseReceive => exact ⟨_, exec_gooseReceive .., by simp [State.mode_ite, gooseReceiveEff_frame]⟩
  | gooseLiveTimeout => exact ⟨_, exec_gooseLiveTimeout .., by simp [State.mode_ite, gooseLiveTimeoutEff_frame]⟩
  | svReceive => exact ⟨_, exec_svReceive .., by simp [State.mode_ite, svReceiveEff_frame]⟩
  | svStreamTimeout => exact ⟨_, exec_svStreamTimeout .., by simp [State.mode_ite, svStreamTimeoutEff_frame]⟩
  | ozClockDetect => exact ⟨_, exec_ozClockDetect .., by simp [State.mode_ite, ozClockDetectEff_frame]⟩
  | ozLinkUp => exact ⟨_, exec_ozLinkUp .., by simp [State.mode_ite, ozLinkUpEff_frame]⟩
  | delayExchange => exact ⟨_, exec_delayExchange .., by simp [State.mode_ite, delayExchangeEff_frame]⟩
  | dlyReqReceive => exact ⟨_, exec_dlyReqReceive .., by simp [State.mode_ite, dlyReqReceiveEff_frame]⟩
  | dlyRespReceive => exact ⟨_, exec_dlyRespReceive .., by simp [State.mode_ite, dlyRespReceiveEff_frame]⟩
  | ozTrigReceive => exact ⟨_, exec_ozTrigReceive .., by simp [State.mode_ite, ozTrigReceiveEff_frame]⟩
  | ozTrigDelivery => exact ⟨_, exec_ozTrigDelivery .., by simp [ozTrigDeliveryEff_frame]⟩
  | heartbeatSend => exact ⟨_, exec_heartbeatSend .., by simp [heartbeatSendEff_frame]⟩
  | heartbeatReceive => exact ⟨_, exec_heartbeatReceive .., by simp [State.mode_ite, heartbeatReceiveEff_frame]⟩
  | partnerOkTimeout => exact ⟨_, exec_partnerOkTimeout .., by simp [partnerOkTimeoutEff_frame]⟩
  | pairWaitExpiry => exact ⟨_, exec_pairWaitExpiry .., by simp [pairWaitExpiryEff_frame]⟩
  | stateReceive => exact ⟨_, exec_stateReceive .., by simp [State.mode_ite, stateReceiveEff_frame]⟩
  | timeReceive => exact ⟨_, exec_timeReceive .., by simp [State.mode_ite, timeReceiveEff_frame]⟩
  | pubseqReceive => exact ⟨_, exec_pubseqReceive .., by simp [State.mode_ite, pubseqReceiveEff_frame]⟩
  | imageReceive => exact ⟨_, exec_imageReceive .., by simp [State.mode_ite, imageReceiveEff_frame]⟩
  | ackReceive => exact ⟨_, exec_ackReceive .., by simp [State.mode_ite, ackReceiveEff_frame]⟩
  | nakReceive => exact ⟨_, exec_nakReceive .., by simp [State.mode_ite, nakReceiveEff_frame]⟩
  | ackTimeout => exact ⟨_, exec_ackTimeout .., by simp [State.mode_ite, ackTimeoutEff_frame]⟩
  | doorbell => exact ⟨_, exec_doorbell .., by simp [State.mode_ite, doorbellEff_frame]⟩
  | cmdFragment => exact ⟨_, exec_cmdFragment .., by simp [State.mode_ite, cmdFragmentEff_frame]⟩
  | fragmentTimeout => exact ⟨_, exec_fragmentTimeout .., by simp [fragmentTimeoutEff_frame]⟩
  | rateLimitEnd => exact ⟨_, exec_rateLimitEnd .., by simp [State.mode_ite, rateLimitEndEff_frame]⟩
  | cmdStatus => exact ⟨_, exec_cmdStatus .., by simp [cmdStatusEff_frame]⟩
  | cmdRegRead => exact ⟨_, exec_cmdRegRead .., by simp [cmdRegReadEff_frame]⟩
  | cmdRegWrite => exact ⟨_, exec_cmdRegWrite .., by simp [cmdRegWriteEff_frame]⟩
  | cmdRestart => exact ⟨_, exec_cmdRestart .., by simp [cmdRestartEff_frame]⟩
  | cmdResultRead => exact ⟨_, exec_cmdResultRead .., by simp [cmdResultReadEff_frame]⟩
  | cmdModeSet => exact ⟨_, exec_cmdModeSet .., by simp [cmdModeSetEff_frame]⟩
  | cmdOutputForce => exact ⟨_, exec_cmdOutputForce .., by simp [cmdOutputForceEff_frame]⟩
  | forceExpiry => exact ⟨_, exec_forceExpiry .., by simp [forceExpiryEff_frame]⟩
  | cmdTripReset => exact ⟨_, exec_cmdTripReset .., by simp [cmdTripResetEff_frame]⟩
  | cmdSettingWrite => exact ⟨_, exec_cmdSettingWrite .., by simp [cmdSettingWriteEff_frame]⟩
  | cmdGroupSelect => exact ⟨_, exec_cmdGroupSelect .., by simp [cmdGroupSelectEff_frame]⟩
  | cmdDebugUnlock => exact ⟨_, exec_cmdDebugUnlock .., by simp [cmdDebugUnlockEff_frame]⟩
  | cmdDebugLock => exact ⟨_, exec_cmdDebugLock .., by simp [cmdDebugLockEff_frame]⟩
  | cmdPairHandover => exact ⟨_, exec_cmdPairHandover .., by simp [cmdPairHandoverEff_frame]⟩
  | cmdBkrSelect => exact ⟨_, exec_cmdBkrSelect .., by simp [cmdBkrSelectEff_frame]⟩
  | cmdBkrOperate => exact ⟨_, exec_cmdBkrOperate .., by simp [cmdBkrOperateEff_frame]⟩
  | cmdBkrCancel => exact ⟨_, exec_cmdBkrCancel .., by simp [cmdBkrCancelEff_frame]⟩
  | cmdBkrStatus => exact ⟨_, exec_cmdBkrStatus .., by simp [cmdBkrStatusEff_frame]⟩
  | cmdRecArm => exact ⟨_, exec_cmdRecArm .., by simp [cmdRecArmEff_frame]⟩
  | cmdRecDisarm => exact ⟨_, exec_cmdRecDisarm .., by simp [cmdRecDisarmEff_frame]⟩
  | cmdRecTrig => exact ⟨_, exec_cmdRecTrig .., by simp [cmdRecTrigEff_frame]⟩
  | cmdRecApply => exact ⟨_, exec_cmdRecApply .., by simp [cmdRecApplyEff_frame]⟩
  | cmdRecRelease => exact ⟨_, exec_cmdRecRelease .., by simp [cmdRecReleaseEff_frame]⟩
  | cmdLogicRun => exact ⟨_, exec_cmdLogicRun .., by simp [cmdLogicRunEff_frame]⟩
  | cmdLogicStop => exact ⟨_, exec_cmdLogicStop .., by simp [cmdLogicStopEff_frame]⟩
  | cmdLogicHold => exact ⟨_, exec_cmdLogicHold .., by simp [cmdLogicHoldEff_frame]⟩
  | cmdLogicResume => exact ⟨_, exec_cmdLogicResume .., by simp [cmdLogicResumeEff_frame]⟩
  | cmdLogicStep => exact ⟨_, exec_cmdLogicStep .., by simp [cmdLogicStepEff_frame]⟩
  | cmdLogicSplit => exact ⟨_, exec_cmdLogicSplit .., by simp [cmdLogicSplitEff_frame]⟩
  | cmdLogicJoin => exact ⟨_, exec_cmdLogicJoin .., by simp [cmdLogicJoinEff_frame]⟩
  | cmdLogicExchange => exact ⟨_, exec_cmdLogicExchange .., by simp [cmdLogicExchangeEff_frame]⟩
  | cmdTimeSet => exact ⟨_, exec_cmdTimeSet .., by simp [cmdTimeSetEff_frame]⟩
  | cmdTimeAcceptStep => exact ⟨_, exec_cmdTimeAcceptStep .., by simp [cmdTimeAcceptStepEff_frame]⟩
  | cmdKeyInit => exact ⟨_, exec_cmdKeyInit .., by simp [cmdKeyInitEff_frame]⟩
  | cmdKeyRotate => exact ⟨_, exec_cmdKeyRotate .., by simp [State.mode_ite, cmdKeyRotateEff_frame]⟩
  | cmdKeyRetire => exact ⟨_, exec_cmdKeyRetire .., by simp [cmdKeyRetireEff_frame]⟩
  | cmdWorldSet => exact ⟨_, exec_cmdWorldSet .., by simp [cmdWorldSetEff_frame]⟩
  | cmdOtpProgram => exact ⟨_, exec_cmdOtpProgram .., by simp [cmdOtpProgramEff_frame]⟩
  | cmdOtpRevoke => exact ⟨_, exec_cmdOtpRevoke .., by simp [cmdOtpRevokeEff_frame]⟩
  | otpOperationDone => exact ⟨_, exec_otpOperationDone .., by simp [otpOperationDoneEff_frame]⟩
  | cmdFlashRead => exact ⟨_, exec_cmdFlashRead .., by simp [State.mode_ite, cmdFlashReadEff_frame]⟩
  | cmdFlashErase => exact ⟨_, exec_cmdFlashErase .., by simp [cmdFlashEraseEff_frame]⟩
  | cmdFlashProgram => exact ⟨_, exec_cmdFlashProgram .., by simp [cmdFlashProgramEff_frame]⟩
  | cmdFlashSlot => exact ⟨_, exec_cmdFlashSlot .., by simp [cmdFlashSlotEff_frame]⟩
  | flashOperationDone => exact ⟨_, exec_flashOperationDone .., by simp [flashOperationDoneEff_frame]⟩
  | cmdEvtRead => exact ⟨_, exec_cmdEvtRead .., by simp [cmdEvtReadEff_frame]⟩
  | cmdEvtAck => exact ⟨_, exec_cmdEvtAck .., by simp [cmdEvtAckEff_frame]⟩
  | evtQackWrite => exact ⟨_, exec_evtQackWrite .., by simp [State.mode_ite, evtQackWriteEff_frame]⟩
  | logWrite => exact ⟨_, exec_logWrite .., by simp [logWriteEff_frame]⟩
  | evtQdataCapture => exact ⟨_, exec_evtQdataCapture .., by simp [State.mode_ite, evtQdataCaptureEff_frame]⟩
  | evtLdataRead => exact ⟨_, exec_evtLdataRead .., by simp [State.mode_ite, evtLdataReadEff_frame]⟩
  | captureRead => exact ⟨_, exec_captureRead .., by simp [State.mode_ite, captureReadEff_frame]⟩
  | timSampWrite => exact ⟨_, exec_timSampWrite .., by simp [State.mode_ite, timSampWriteEff_frame]⟩
  | reservedAccess => exact ⟨_, exec_reservedAccess .., by simp [State.mode_ite, reservedAccessEff_frame]⟩
  | registerWrite => exact ⟨_, exec_registerWrite .., by simp [State.mode_ite, registerWriteEff_frame]⟩
  | xspiRead => exact ⟨_, exec_xspiRead .., by simp [State.mode_ite, xspiReadEff_frame]⟩
  | xspiWrite => exact ⟨_, exec_xspiWrite .., by simp [State.mode_ite, xspiWriteEff_frame]⟩
  | xspiReadStat => exact ⟨_, exec_xspiReadStat .., by simp [xspiReadStatEff_frame]⟩
  | uptimeUpdate => exact ⟨_, exec_uptimeUpdate .., by simp [uptimeUpdateEff_frame]⟩
  | tqcDegrade => exact ⟨_, exec_tqcDegrade .., by simp [State.mode_ite, tqcDegradeEff_frame]⟩
  | resyncWindowAgeing => exact ⟨_, exec_resyncWindowAgeing .., by simp [State.mode_ite, resyncWindowAgeingEff_frame]⟩
  | xspiUndefinedCode => exact ⟨_, exec_xspiUndefinedCode .., by simp [State.mode_ite, xspiUndefinedCodeEff_frame]⟩
  | dbgUndefinedOp => exact ⟨_, exec_dbgUndefinedOp .., by simp [dbgUndefinedOpEff_frame]⟩
  | ozauxCrcError => exact ⟨_, exec_ozauxCrcError .., by simp [State.mode_ite, ozauxCrcErrorEff_frame]⟩

/-- R18: each command changes the device mode as the table allows, or not at all. -/
theorem exec_mode_allowed (i : Instr) (s : State) : ∃ s', exec i s = .next s' ∧ ModeAllowed s.mode s'.mode := by
  cases hw : writesMode i with
  | false =>
    obtain ⟨s', hexec, hmode⟩ := exec_mode_of_not_writesMode i s hw
    exact ⟨s', hexec, hmode ▸ .refl _⟩
  | true =>
    cases i with
    | supplyOutOfRange t => exact ⟨_, exec_supplyOutOfRange .., supplyOutOfRangeEff_mode (s.at t) ▸ .to_boot _⟩
    | powerOnResetRelease t => exact ⟨_, exec_powerOnResetRelease .., (powerOnResetReleaseEff_mode _ _ _ _ (s.at t)).allowed⟩
    | bootHoldFall t => exact ⟨_, exec_bootHoldFall .., (bootHoldFallEff_mode _ (s.at t)).allowed⟩
    | imageHashDone t => exact ⟨_, exec_imageHashDone .., (imageHashDoneEff_mode _ (s.at t)).allowed⟩
    | lpddr4xTrainingDone t => exact ⟨_, exec_lpddr4xTrainingDone .., (lpddr4xTrainingDoneEff_mode _ (s.at t)).allowed⟩
    | sectionsLoaded t => exact ⟨_, exec_sectionsLoaded .., (sectionsLoadedEff_mode _ _ (s.at t)).allowed⟩
    | imageValidation t => exact ⟨_, exec_imageValidation .., (imageValidationEff_mode (s.at t)).allowed⟩
    | modeChangeEffect t => exact ⟨_, exec_modeChangeEffect .., modeChangeEffectEff_mode (s.at t)⟩
    | referenceLoss t => exact ⟨_, exec_referenceLoss .., (referenceLossEff_mode (s.at t)).allowed⟩
    | restartTake t => exact ⟨_, exec_restartTake .., restartTakeEff_mode _ _ _ _ (s.at t)⟩
    | fastTick t =>
      refine ⟨_, exec_fastTick .., ?_⟩
      simpa [State.offerEdges_frame] using startTickEff_mode (s.at t)
    | ozLinkDown t l clk =>
      refine ⟨_, exec_ozLinkDown .., ?_⟩
      dsimp only
      split
      · exact (ozLinkFallEff_mode l clk (s.at t)).allowed
      · exact .refl _
    | cmdSafe t => exact ⟨_, exec_cmdSafe .., (cmdSafeEff_mode (s.at t)).allowed⟩
    | _ => cases hw

/-- Settles O56: every command's change of the mode is one of the table's; an idle step makes none. -/
theorem modeTransitions : Obligations.ModeTransitions := by
  unfold Obligations.ModeTransitions
  intro s s' hstep
  unfold step at hstep
  split at hstep
  · cases hstep
    exact ModeAllowed.refl s.mode
  · next c rest hpending =>
    obtain ⟨b, hexec, hallowed⟩ := exec_mode_allowed c { s with pending := rest }
    rw [hexec] at hstep
    cases hstep
    exact hallowed

end Sys2Proof.Machine

/-!
The return to RUN (R20): when MODE_SET refuses it, and the end of every force at the boundary at which it takes effect. The answer to
MODE_SET, which follows in the same step, is short, so that neither its words in the mailbox nor its frames reach a register of the
trip island.
-/
namespace Sys2Proof.Machine

/-! ### The registers a response writes -/

theorem length_leBytes (n v : Nat) : (leBytes n v).length = n := by
  induction n generalizing v with
  | zero => rfl
  | succ n ih => rw [leBytes, List.length_cons, ih]

theorem length_plainRsp (op seq : Nat) (st : Status) (detail : Nat) (out : List Nat) :
    (plainRsp op seq st detail out).length = 16 + out.length := by
  simp only [plainRsp, rspHdr, List.length_append, length_leBytes, List.length_cons, List.length_nil]

theorem length_taggedRsp_le (key : List Nat) (op slot ctr seq : Nat) (st : Status) (detail : Nat) (out : List Nat) :
    (taggedRsp key op slot ctr seq st detail out).length ≤ 40 + out.length := by
  simp only [taggedRsp, rspHdr, tagOfMsg, List.length_append, length_leBytes, List.length_take, List.length_cons, List.length_nil]
  omega

/-- R448, R437: a response has 16 bytes of header, 8 of counter and 16 of tag at most beside its payload. -/
theorem CmdReq.length_rsp_le (q : CmdReq) (st : Status) (detail : Nat) (out : List Nat) :
    (CmdReq.rsp q st detail out).length ≤ 40 + out.length := by
  unfold CmdReq.rsp
  split
  · exact length_taggedRsp_le ..
  · rw [length_plainRsp]
    omega

/-- The addresses behind the command block's registers and before the switch's, where a response writes nothing. -/
def betweenCmdAndNet (a : Nat) : Prop := 0x15000 ≤ a ∧ a < 0x140000

/-- A fold of operations that leave a register as it was leaves it so. -/
theorem State.rd_foldl {β : Type} (l : List β) (f : State → β → State) (a : Nat) (s : State)
    (h : ∀ x ∈ l, ∀ s, (f s x).rd a = s.rd a) : (l.foldl f s).rd a = s.rd a := by
  induction l generalizing s with
  | nil => rfl
  | cons x l ih =>
    rw [List.foldl_cons, ih _ (fun y hy => h y (List.mem_cons_of_mem x hy)), h x List.mem_cons_self]

/-- R461: the words of a response in the mailbox stay within CMD_RSP. -/
theorem State.rd_mailRsp {s : State} {bs : List Nat} {a : Nat} (hbs : bs.length ≤ 8192) (ha : betweenCmdAndNet a) :
    (s.mailRsp bs).rd a = s.rd a := by
  obtain ⟨hlo, -⟩ := ha
  have hwords : ∀ e ∈ (leWords ((bs.length + 3) / 4) bs).zip (upto ((bs.length + 3) / 4)), ∀ s : State,
      (s.setF (CMD_RSP_DATA e.2) e.1).rd a = s.rd a := by
    intro e he s
    have hindex : e.2 < (bs.length + 3) / 4 := List.mem_range.1 (List.of_mem_zip he).2
    exact State.rd_setF_other _ _ _ _ (by simp only [CMD_RSP_DATA, CMD_RSP]; omega)
  have hstat : ∀ f : Field, f.addr = CMD_STAT → ∀ (s : State) (v : Nat), (s.setF f v).rd a = s.rd a := fun f hf s v =>
    State.rd_setF_other _ _ _ _ (by rw [hf]; simp only [CMD_STAT]; omega)
  unfold State.mailRsp State.setFlag
  dsimp only
  rw [hstat _ rfl, hstat _ rfl, hstat _ rfl, State.rd_foldl _ _ _ _ hwords]

theorem State.rd_txFrame {s : State} {p : Nat} {f : TxFrame} {a : Nat} (ha : betweenCmdAndNet a) : (s.txFrame p f).rd a = s.rd a := by
  obtain ⟨-, hhi⟩ := ha
  unfold State.txFrame
  split
  · exact State.rd_setF_other _ _ _ _ (by simp only [NET_PTX_TX, NET_PTX]; omega)
  · rfl

theorem State.rd_sendRsp {s : State} {tr xid src : Nat} {bs : List Nat} {a : Nat} (hbs : bs.length ≤ 8192) (ha : betweenCmdAndNet a) :
    (s.sendRsp tr xid src bs).rd a = s.rd a := by
  have hcount : (s.incWrap CMD_CNT_CMDS).rd a = s.rd a := by
    obtain ⟨hlo, -⟩ := ha
    exact State.rd_setF_other _ _ _ _ (by simp only [CMD_CNT_CMDS, CMD_CNT]; omega)
  unfold State.sendRsp
  dsimp only
  split
  · rw [State.rd_mailRsp hbs ha, hcount]
  · rw [← hcount]
    exact State.rd_foldl _ _ _ _ (fun _ _ _ => State.rd_txFrame ha)

theorem State.rd_setKey (s : State) (slot : Nat) (k : KeySlot) {a : Nat} (ha : a < 0x1A0000) : (s.setKey slot k).rd a = s.rd a :=
  State.rd_raise _ _ _ _ _ ha

theorem State.rd_retireLast (s : State) (q : CmdReq) {a : Nat} (ha : a < 0x1A0000) : (s.retireLast q).rd a = s.rd a := by
  unfold State.retireLast
  split
  · split
    · exact State.rd_setKey _ _ _ ha
    · rfl
  · rfl

theorem State.rd_respond {s : State} {q : CmdReq} {st : Status} {detail : Nat} {out : List Nat} {a : Nat} (hout : out.length ≤ 8000)
    (ha : betweenCmdAndNet a) : (s.respond q st detail out).rd a = s.rd a := by
  have hlen := CmdReq.length_rsp_le q st detail out
  have hhi := ha.2
  unfold State.respond
  dsimp only
  rw [State.rd_retireLast _ _ (by omega), State.rd_sendRsp (by omega) ha]
  split <;> rfl

/-- R451: the answer to a MODE_SET that waited writes no register of the trip island. -/
theorem State.rd_answerMode {s : State} {st : Status} {a : Nat} (ha : betweenCmdAndNet a) : (s.answerMode st).rd a = s.rd a := by
  unfold State.answerMode
  split
  · exact State.rd_respond (s := { s with cmd := { s.cmd with modeWait := none } }) (Nat.zero_le _) ha
  · rfl

@[simp] theorem State.answerMode_forceEnd (s : State) (st : Status) : (s.answerMode st).cmd.forceEnd = s.cmd.forceEnd := by
  unfold State.answerMode
  split
  · simp [State.respond_frame]
  · rfl

/-- R201: what TRP_STAT shows after a commit is written to that register alone. -/
theorem State.rd_tripStat {s : State} {a : Nat} (ha : a ≠ TRP_STAT) : s.tripStat.rd a = s.rd a := by
  have hstat : ∀ f : Field, f.addr = TRP_STAT → ∀ (s : State) (v : Nat), (s.setF f v).rd a = s.rd a := fun f hf s v =>
    State.rd_setF_other _ _ _ _ (hf ▸ ha)
  unfold State.tripStat State.setFlag
  dsimp only
  rw [hstat _ rfl, hstat _ rfl, hstat _ rfl]

/-! ### R20 -/

/-- R20, R22: what the end of every force leaves of it. -/
theorem State.endForce_forces (s : State) :
    s.endForce.getF TRP_FRC_ARM_FARM = 0 ∧ s.endForce.getF TRP_FRC_FIRE_FFIRE = 0 ∧ s.endForce.trp.forced = 0 ∧
      s.endForce.cmd.forceEnd = none := by
  have hcleared : s.endForce.regs = ((s.setF TRP_FRC_ARM_FARM 0).setF TRP_FRC_FIRE_FFIRE 0).regs := rfl
  refine ⟨?_, ?_, rfl, rfl⟩ <;> rw [State.getF_of_regs hcleared]
  · rw [State.getF_setF_other _ _ _ _ (by decide) (by decide), State.getF_setF_same _ _ _ (by decide), Nat.zero_mod]
  · rw [State.getF_setF_same _ _ _ (by decide), Nat.zero_mod]

/-- R18: the return to RUN at a slow-tick boundary after its acceptance. -/
theorem modeChangeEffectEff_of_run {s : State} {n : Nat} (hmode : s.mode = .test) (hreq : s.sys.modeReq = some (.run, n))
    (hn : n < s.flt.m) :
    modeChangeEffectEff s =
      (({ s with mode := .run }.sysUpd (fun x => { x with modeReq := none })).endForce.tripStat).answerMode .ok := by
  have hprot : s.protecting = true := by simp [State.protecting, hmode]
  simp [modeChangeEffectEff, hreq, hprot, hn]

/-- R20: the three grounds on which MODE_SET refuses a return to RUN. -/
theorem State.runDenied_iff (s : State) :
    s.runDenied = true ↔
      (∃ g, g < 8 ∧ s.chainState g = 0) ∨ s.podState 0 = 5 ∨ s.podState 1 = 5 ∨ s.flag DBG_STAT_UNLOCK = true := by
  simp [State.runDenied, upto, or_assoc]

theorem orderModeSet_of_runDenied {q : CmdReq} {s : State} (hpay : payN q 0 4 = 1) (hmode : s.mode = .test)
    (hdenied : s.runDenied = true) : orderModeSet q s = refused s .stateDenied := by
  simp [orderModeSet, hpay, hmode, modeCode, hdenied]

theorem State.getF_of_rd {s s' : State} {f : Field} (h : s'.rd f.addr = s.rd f.addr) : s'.getF f = s.getF f := by
  unfold State.getF
  rw [h]

/-- R20: no force stands after the change has been answered. -/
theorem State.endForce_forces_answered (s : State) :
    (s.endForce.tripStat.answerMode .ok).getF TRP_FRC_ARM_FARM = 0 ∧ (s.endForce.tripStat.answerMode .ok).getF TRP_FRC_FIRE_FFIRE = 0 ∧
      (s.endForce.tripStat.answerMode .ok).trp.forced = 0 ∧ (s.endForce.tripStat.answerMode .ok).cmd.forceEnd = none := by
  obtain ⟨harm, hfire, hforced, hend⟩ := s.endForce_forces
  have hkept : ∀ f : Field, betweenCmdAndNet f.addr → f.addr ≠ TRP_STAT →
      (s.endForce.tripStat.answerMode .ok).getF f = s.endForce.getF f := fun f hwin hstat =>
    State.getF_of_rd ((State.rd_answerMode hwin).trans (State.rd_tripStat hstat))
  refine ⟨?_, ?_, ?_, ?_⟩
  · rw [hkept _ ⟨by decide, by decide⟩ (by decide), harm]
  · rw [hkept _ ⟨by decide, by decide⟩ (by decide), hfire]
  · simpa [State.answerMode_frame, State.tripStat_frame] using hforced
  · simpa [State.tripStat_frame] using hend

/-- Settles O55: MODE_SET's own refusal, and the change at the slow-tick boundary, after which only TRP_STAT and the answer's registers
are written. -/
theorem returnToRun : Obligations.ReturnToRun := by
  unfold Obligations.ReturnToRun
  refine ⟨OrderAnswers.of_onOpcode _ _ orderModeSet _ _ exec_cmdModeSet ?_, ?_⟩
  · rintro q s ⟨hpay, hmode, hgrounds⟩
    exact orderModeSet_of_runDenied hpay hmode (s.runDenied_iff.2 hgrounds)
  · intro t s a n hmode hreq hn
    refine ⟨_, exec_modeChangeEffect t s, ?_⟩
    rw [modeChangeEffectEff_of_run hmode hreq hn]
    refine ⟨?_, State.endForce_forces_answered _⟩
    simp [State.answerMode_frame, State.tripStat_frame, State.endForce_frame, State.sysUpd_frame]

end Sys2Proof.Machine

/-!
A strobe and the arbitration of a slice that disagrees (R27, R31, R47 to R55, R14): what each command's effect does, by the conditions
of its row.
-/
namespace Sys2Proof.Machine

/-! ### A strobe (R27, R31, R14) -/

/-- R27, R31: while the inputs are sampled a strobe is taken by the groups, by the snapshots and by the filter island. -/
theorem fusedSampleEff_of_sampling {s : State} (h : s.sampling = true) (raw : List (List Int)) (refA refB : Bool) :
    fusedSampleEff raw refA refB s = (s.strobe raw refA refB).fltPush := by
  simp [fusedSampleEff, h]

/-- R14: beside what the strobe does, each third entry counts, and one on X1 or X8 overwrites samples. -/
theorem crossedSampleEff_of_sampling {s : State} (h : s.sampling = true) (raw : List (List Int)) (refA refB : Bool) (third : List Nat) :
    crossedSampleEff raw refA refB third s =
      third.foldl State.crossOverrun
        (let c := if third.contains 1 then (fusedSampleEff raw refA refB s).loseSample else fusedSampleEff raw refA refB s
         if third.contains 8 then c.loseVirtual else c) := by
  unfold crossedSampleEff
  rw [if_pos h]

theorem crossedSampleEff_nil (raw : List (List Int)) (refA refB : Bool) (s : State) :
    crossedSampleEff raw refA refB [] s = fusedSampleEff raw refA refB s := by
  unfold crossedSampleEff
  split <;> rfl

/-- R14: a third entry on one of the crossings X1 to X11. -/
theorem State.crossOverrun_of_mem {c : Nat} (hlo : 1 ≤ c) (hhi : c < 12) (s : State) :
    s.crossOverrun c = (s.sysUpd (fun x => { x with overruns := lset x.overruns (c - 1) (lget 0 x.overruns (c - 1) + 1) })).raise 124 c 0 :=
  if_pos ⟨hlo, hhi⟩

/-! ### Arbitration (R48 to R55) -/

theorem exec_arbitrationOpen_eq (t g : Nat) (s : State) :
    exec (.arbitrationOpen t g) s = .next (if g < 8 then arbitrationOpenEff g (s.at t) else s.at t) := by
  simp [exec_arbitrationOpen]

theorem exec_arbitrationDecision_eq (t g : Nat) (s : State) :
    exec (.arbitrationDecision t g) s = .next (if g < 8 then arbitrationDecisionEff g (s.at t) else s.at t) := by
  simp [exec_arbitrationDecision]

theorem arbitrationOpenEff_of_sampling {g : Nat} {s : State} (hg : g < 8) (h : s.sampling = true) :
    arbitrationOpenEff g s = (upto 6).foldl (fun b j => b.callSpare g (6 * g + j)) s := by
  simp [arbitrationOpenEff, hg, h]

/-- R48, R53, R54: a channel whose count has reached 4, that is not in arbitration and has both its slices. -/
theorem State.callSpare_of_count_four {s : State} {c : Nat} (hrun : s.getF (CNV_CH_DIS_RUN c) = 4) (harb : s.flag (CNV_CH_ARB c) = false)
    (hwait : s.flag (CNV_CH_ARB_WAIT c) = false) (hsingle : s.flag (CNV_CH_SINGLE_L c) = false) (g : Nat) :
    s.callSpare g c = if (s.spare g).isNone then s.singleL g c
      else if (s.grp g).arb.isNone then s.openWindow g c (s.chan c).n4 else s.setFlag (CNV_CH_ARB_WAIT c) true := by
  simp [State.callSpare, hrun, harb, hwait, hsingle]

/-- R49: the window of 64 strobes has ended. -/
theorem arbitrationDecisionEff_of_ended {g : Nat} {s : State} {w : ArbWin} (hg : g < 8) (hw : (s.grp g).arb = some w)
    (hend : w.n0 + 64 ≤ s.ana.strobe) :
    arbitrationDecisionEff g s =
      ((((((s.setGrp g { s.grp g with arb := none }).setFlag (CNV_GSTAT_ARB_BUSY g) false).setFlag (CNV_CH_ARB w.ch) false).arbDecide
        g w).resumeChan w.ch).nextWaiting g (w.n0 + 64)) := by
  simp [arbitrationDecisionEff, hw, hg, hend]

/-- R49: half of at least 16 counted strobes differ at the H slice, and at most an eighth at the L slice. -/
theorem State.arbDecide_high {w : ArbWin} (hset : w.unsettled = false) (hn : 16 ≤ w.n) (hH : w.n ≤ 2 * w.dH) (hL : 8 * w.dL ≤ w.n)
    (s : State) (g : Nat) : s.arbDecide g w = s.retireToSpare g (lowRole w.ch + 1) 1 := by
  simp [State.arbDecide, hset, hn, hH, hL]

/-- R50: the same with the slices' parts exchanged, which excludes the case of R49. -/
theorem State.arbDecide_low {w : ArbWin} (hset : w.unsettled = false) (hn : 16 ≤ w.n) (hL : w.n ≤ 2 * w.dL) (hH : 8 * w.dH ≤ w.n)
    (s : State) (g : Nat) : s.arbDecide g w = s.retireToSpare g (lowRole w.ch) 1 := by
  have notHigh : ¬ w.n ≤ 2 * w.dH := by omega
  simp [State.arbDecide, hset, hn, hL, hH, notHigh]

/-- R49, R50, R55: a window unsettled, or with too few counted strobes, or whose counts `dA` and `dB` do not fit, retires no slice. -/
theorem not_decided {w : ArbWin} {dA dB : Nat} (h : w.unsettled = true ∨ w.n < 16 ∨ ¬ (w.n ≤ 2 * dA ∧ 8 * dB ≤ w.n)) :
    ¬ (!w.unsettled && decide (16 ≤ w.n) && decide (w.n ≤ 2 * dA) && decide (8 * dB ≤ w.n)) = true := by
  simp only [Bool.and_eq_true, Bool.not_eq_true', decide_eq_true_eq]
  rintro ⟨⟨⟨hset, hn⟩, hA⟩, hB⟩
  rcases h with h | h | h
  · exact absurd hset (by simp [h])
  · exact absurd hn (Nat.not_le.2 h)
  · exact h ⟨hA, hB⟩

/-- R51: a void decision counts, and the fourth within 1.0 s retires the H slice. -/
theorem State.arbDecide_void {w : ArbWin}
    (h : w.unsettled = true ∨ w.n < 16 ∨ (¬ (w.n ≤ 2 * w.dH ∧ 8 * w.dL ≤ w.n) ∧ ¬ (w.n ≤ 2 * w.dL ∧ 8 * w.dH ≤ w.n)))
    (s : State) (g : Nat) :
    let vs := w.n0 :: (s.chan w.ch).voids.filter (fun v => decide (w.n0 < v + 1024000))
    let b := ((s.incSat (CNV_ACNT_VOID_CNT g)).raise 19 g w.ch).setChan w.ch { s.chan w.ch with voids := vs.take 4 }
    s.arbDecide g w = if 4 ≤ vs.length then b.retireToSpare g (lowRole w.ch + 1) 2 else b := by
  have notHigh := not_decided (h.imp_right (Or.imp_right And.left))
  have notLow := not_decided (h.imp_right (Or.imp_right And.right))
  have hchan : ((s.incSat (CNV_ACNT_VOID_CNT g)).raise 19 g w.ch).chan w.ch = s.chan w.ch := by
    simp [State.chan, State.raise_frame, State.incSat_frame]
  simp only [State.arbDecide, if_neg notHigh, if_neg notLow, hchan]

/-- Settles O1: each clause is the lemma above that states its effect, behind the equation of its command. -/
theorem strobeAndArbitration : Obligations.StrobeAndArbitration := by
  unfold Obligations.StrobeAndArbitration
  refine ⟨?strobe, ?third, fun c s hlo hhi => s.crossOverrun_of_mem hlo hhi, ?callers,
    fun g c s hrun harb hwait hsingle => State.callSpare_of_count_four hrun harb hwait hsingle g, ?decision,
    fun g w s => ⟨fun hset hn hH hL => State.arbDecide_high hset hn hH hL s g,
      fun hset hn hL hH => State.arbDecide_low hset hn hL hH s g, fun h => State.arbDecide_void h s g⟩,
    ?openAlways, ?decisionAlways, exec_fusedSample⟩
  case strobe =>
    intro t raw refA refB s a hsamp
    rw [exec_fusedSample, crossedSampleEff_nil, fusedSampleEff_of_sampling hsamp]
    rfl
  case third =>
    intro t raw refA refB third s hsamp
    refine ⟨_, exec_fusedSample .., ?_⟩
    rw [exec_fusedSample, crossedSampleEff_of_sampling hsamp, crossedSampleEff_nil]
  case callers =>
    intro t g s a hg hsamp
    rw [exec_arbitrationOpen_eq, if_pos hg, arbitrationOpenEff_of_sampling hg hsamp]
  case decision =>
    intro t g w s a hg hw hend
    rw [exec_arbitrationDecision_eq, if_pos hg, arbitrationDecisionEff_of_ended hg hw hend]
  case openAlways => exact exec_arbitrationOpen_eq
  case decisionAlways => exact exec_arbitrationDecision_eq

end Sys2Proof.Machine

/-!
The words of a halted pod at a commit (R184, R232). A pod halted by the debugger contributes 0 even where words it released before it
halted still stand, so that the majority of those words is not what the commit takes.
-/
namespace Sys2Proof.Machine

/-- R184, R232: at a commit a halted pod's words in use are 0, whatever words of it stand released. -/
theorem State.takeWords_last_of_halted {s : State} {p : Nat} (hhalted : s.podHalted p = true) (hlast : p < s.trp.last.length)
    (lost : Bool) : lget (0, 0) (s.takeWords p lost).trp.last p = (0, 0) := by
  have hother : (POD_STAT_STATE p).addr ≠ (podOkF p).addr := by
    have haddr : (podOkF p).addr = TRP_STAT := by unfold podOkF; split <;> rfl
    rw [haddr]
    simp only [POD_STAT_STATE, POD_STAT, TRP_STAT]
    omega
  have hstill : (s.setFlag (podOkF p) false).podHalted p = true := by
    unfold State.podHalted State.getF State.setFlag
    rw [State.rd_setF_other _ _ _ _ hother]
    exact hhalted
  have hkept : (s.setFlag (podOkF p) false).trp = s.trp := by simp [State.setFlag_frame]
  simp only [State.takeWords, hhalted, Bool.or_true, if_true, hstill, State.setTrp_trp, hkept]
  exact lget_lset_same _ _ _ _ hlast

/-- Pod 0, halted in TEST after it released words that ask for output 0. -/
def releasedThenHalted : State :=
  { State.reset.setF (POD_STAT_STATE 0) 5 with
    mode := .test, trp := { resetTrp with rel := [some ⟨[1, 1, 1], [0, 0, 0]⟩, none] } }

/-- Refutes O11: its third clause has the commit take the majority of the words that stand released, but leaves out that the pod is not
halted. In `releasedThenHalted` the majority is (1, 0) and the commit takes (0, 0), as the clause on halted pods has it. -/
theorem not_tripCommits : ¬ Obligations.TripCommits := by
  unfold Obligations.TripCommits
  rintro ⟨-, -, htaken, -⟩
  obtain ⟨hmaj, -⟩ := htaken releasedThenHalted 0 ⟨[1, 1, 1], [0, 0, 0]⟩ (by decide) rfl rfl
  rw [State.takeWords_last_of_halted (by decide) (by decide)] at hmaj
  exact absurd hmaj (by decide)

end Sys2Proof.Machine

/-!
A command under its guard, and a host's access to a register once its window allows it (R431, R481, R482).
-/
namespace Sys2Proof.Machine

/-- A command that takes its effect under a guard takes it where the guard holds. -/
theorem exec_of_guard {i : Instr} {s eff other s' : State} {p : Prop} [Decidable p]
    (hexec : exec i s = .next (if p then eff else other)) (hp : p) (heff : eff = s') : exec i s = .next s' := by
  rw [hexec, if_pos hp, heff]

/-- R482: a write that its window allows and its register accepts takes effect, and its outcome is recorded behind it. -/
theorem State.hostWrite_of_ok {s s' : State} {r : Requester} {a : Nat} {eff : State → Status × State} (hjudge : s.judge r a = .allowed)
    (heff : eff s = (.ok, s')) : (s.hostWrite r a eff).2 = s'.recordWrite r a .ok := by
  simp [State.hostWrite, hjudge, heff]

/-- R482: a write that its register refuses leaves nothing but its outcome. -/
theorem State.hostWrite_of_refused {s s' : State} {r : Requester} {a : Nat} {st : Status} {eff : State → Status × State}
    (hjudge : s.judge r a = .allowed) (heff : eff s = (st, s')) (hst : st ≠ .ok) :
    (s.hostWrite r a eff).2 = s.recordWrite r a st := by
  cases st with
  | ok => exact absurd rfl hst
  | _ => simp [State.hostWrite, hjudge, heff]

/-- R431: a read that its window allows is the register's own. -/
theorem State.hostRead_of_allowed {s : State} {r : Requester} {a : Nat} (hjudge : s.judge r a = .allowed) (eff : State → Nat × State) :
    s.hostRead r a eff = eff s := by
  simp [State.hostRead, hjudge]

end Sys2Proof.Machine

/-!
The Fumarole rotation, the calibration of a slice and the references of a group (R36 to R46, R57 to R60, R75): what each command's
effect does, by the conditions of its row.
-/
namespace Sys2Proof.Machine

/-! ### The rotation (R40 to R44, R52) -/

theorem exec_rotationStepStart_eq (t g : Nat) (s : State) :
    exec (.rotationStepStart t g) s = .next (if g < 8 then rotationStepStartEff g (s.at t) else s.at t) := by
  simp [exec_rotationStepStart]

theorem exec_shadowEnd_eq (t g : Nat) (s : State) :
    exec (.shadowEnd t g) s = .next (if g < 8 then shadowEndEff g (s.at t) else s.at t) := by
  simp [exec_shadowEnd]

theorem exec_sliceCalibrationDone_eq (t g : Nat) (cal : SliceCal) (s : State) :
    exec (.sliceCalibrationDone t g cal) s = .next (if g < 8 then sliceCalibrationDoneEff g cal (s.at t) else s.at t) := by
  simp [exec_sliceCalibrationDone]

/-- R40: a step starts at role 0 where no rotation runs, and else at the role behind the last one, a rotation done where that is 0. -/
theorem rotationStepStartEff_of_ready {g : Nat} {s : State} (hg : g < 8) (hready : s.rotReady g = true) :
    rotationStepStartEff g s =
      (let first := s.getF (CNV_GSTAT_ROT_PHASE g) = 3 ∧ s.flag (CNV_GSTAT_ROT_RUN g) = false
       let role := if first then 0 else (s.getF (CNV_GSTAT_ROT_ROLE g) + 1) % 14
       let b := if role = 0 ∧ ¬ first then s.incWrap (CNV_GCNT_ROT_DONE g) else s
       (((b.setFlag (CNV_GSTAT_ROT_RUN g) true).setF (CNV_GSTAT_ROT_PHASE g) 0).setF (CNV_GSTAT_ROT_ROLE g) role).setGrp g
         { s.grp g with s0 := s.ana.strobe, cmp := 0, dif := 0, ext := 0, vFailed := false }) := by
  have hite := @State.ite_frame
  have hwrap := @State.incWrap_frame
  have hset := @State.setF_frame
  have hflag := @State.setFlag_frame
  have hfirst : (s.getF (CNV_GSTAT_ROT_PHASE g) == 3 && !s.flag (CNV_GSTAT_ROT_RUN g)) =
      decide (s.getF (CNV_GSTAT_ROT_PHASE g) = 3 ∧ s.flag (CNV_GSTAT_ROT_RUN g) = false) :=
    Bool.eq_iff_iff.2 (by simp)
  unfold rotationStepStartEff
  rw [if_pos (by simp [hg, hready])]
  simp only [hfirst, decide_eq_true_eq, Bool.and_eq_true, Bool.not_eq_true', decide_eq_false_iff_not, State.grp, hite, hwrap, hset,
    hflag, ite_self]

/-- R41, R45, R52: the comparison of a group's shadow runs and has lasted its 1,024 strobes, and as many again for each extension. -/
structure ShadowEnded (g : Nat) (s : State) : Prop where
  range : g < 8
  runs : s.flag (CNV_GSTAT_ROT_RUN g) = true
  shadow : s.getF (CNV_GSTAT_ROT_PHASE g) = 0
  noWindow : (s.grp g).arb = none
  settled : s.flag (CNV_GSTAT_REF_SETTLED g) = true
  lasted : (s.grp g).s0 + 1024 * ((s.grp g).ext + 1) ≤ s.ana.strobe

/-- R41, R43, R44: enough strobes were compared; at most 4 that differ hand the role over, more call the spare for an L or H role and for
a V role calibrate the spare again, or hand the role over when that was done before. -/
theorem shadowEndEff_of_compared {g : Nat} {s : State} (h : ShadowEnded g s) (hcmp : 256 ≤ (s.grp g).cmp) :
    shadowEndEff g s =
      (let role := s.getF (CNV_GSTAT_ROT_ROLE g)
       let b := (s.incSat (CNV_GCNT_SHADOW_MM g)).raise 18 g role
       if (s.grp g).dif ≤ 4 then s.handOver g role .freed
       else if role < 12 then b.openWindow g (roleChan g role) b.ana.strobe
       else if (s.grp g).vFailed then b.handOver g role .freedV
       else match b.spare g with
        | some k => (b.setGrp g { s.grp g with vFailed := true, cal := some (k, .repeatSpare), calFrom := b.ana.strobe }).setF
            (CNV_GSTAT_ROT_PHASE g) 1
        | none => b) := by
  obtain ⟨hg, hruns, hshadow, hwindow, hsettled, hlasted⟩ := h
  unfold shadowEndEff
  exact (if_pos (by simp [hg, hruns, hshadow, hwindow, hsettled, hlasted])).trans (if_neg (Nat.not_lt.2 hcmp))

/-- R42: too few strobes were compared; the comparison is extended, and after the eighth extension the step is skipped. -/
theorem shadowEndEff_of_few_compared {g : Nat} {s : State} (h : ShadowEnded g s) (hcmp : (s.grp g).cmp < 256) :
    shadowEndEff g s =
      if (s.grp g).ext < 8 then s.setGrp g { s.grp g with ext := (s.grp g).ext + 1 }
      else ((s.setGrp g { s.grp g with ext := 9 }).incSat (CNV_GCNT_SKIP g)).setF (CNV_GSTAT_ROT_PHASE g) 2 := by
  obtain ⟨hg, hruns, hshadow, hwindow, hsettled, hlasted⟩ := h
  unfold shadowEndEff
  exact (if_pos (by simp [hg, hruns, hshadow, hwindow, hsettled, hlasted])).trans (if_pos hcmp)

/-! ### The calibration of a slice (R36, R37, R44) -/

/-- R36, R37, R44: 49,152 strobes after it began, a calibration gives the slice role SP, and takes its set or retires it. -/
theorem sliceCalibrationDoneEff_of_lasted {g k : Nat} {why : CalWhy} {s : State} (hg : g < 8) (hcal : (s.grp g).cal = some (k, why))
    (hwindow : (s.grp g).arb = none) (hsettled : s.flag (CNV_GSTAT_REF_SETTLED g) = true)
    (hlasted : (s.grp g).calFrom + 49152 ≤ s.ana.strobe) (cal : SliceCal) :
    sliceCalibrationDoneEff g cal s =
      (let b := ((s.setGrp g { s.grp g with cal := none, prepFrom := s.ana.strobe }).setF (mapF g k) 0xE).setF
         (CNV_GSTAT_SPARE_POS g) k
       if calPass cal then
        let c := b.setCal g k cal
        if why = .repeatSpare then
          (c.setGrp g { c.grp g with s0 := c.ana.strobe, cmp := 0, dif := 0, ext := 0 }).setF (CNV_GSTAT_ROT_PHASE g) 0
        else c.setF (CNV_GSTAT_ROT_PHASE g) 2
       else (b.retire g k 0).degrade g) := by
  simp only [sliceCalibrationDoneEff, hcal]
  rw [if_pos (by simp [hg, hwindow, hsettled, hlasted])]
  cases why <;> rfl

@[simp] theorem State.setCal_segs (s : State) (g k : Nat) (c : SliceCal) :
    (s.setCal g k c).ana.segs = Store.set [] (Store.set [] s.ana.segs (segKey g k false) c.seg1) (segKey g k true) c.seg16 := rfl

/-- R36, R79: the segment corrections for gain ×16 are those of the set just taken. -/
theorem State.segs_setCal_high (s : State) (g k : Nat) (c : SliceCal) : (s.setCal g k c).segs g k true = c.seg16 := by
  rw [State.segs, State.setCal_segs, Store.get_set_same]

/-- R36, R79: so are those for gain ×1, which stand under a key of their own. -/
theorem State.segs_setCal_low (s : State) (g k : Nat) (c : SliceCal) : (s.setCal g k c).segs g k false = c.seg1 := by
  have hkey : segKey g k false ≠ segKey g k true := by simp [segKey, b2n]
  rw [State.segs, State.setCal_segs, Store.get_set_other _ _ _ _ _ _ hkey, Store.get_set_same]

/-! ### References (R45, R57 to R60, R75) -/

theorem exec_cnvRefreqWrite_eq (t : Nat) (r : Requester) (g v : Nat) (s : State) :
    exec (.cnvRefreqWrite t r g v) s =
      .next (if g < 8 ∧ (s.at t).trAlive (reqIdx r) = true then cnvRefreqWriteEff r g v (s.at t) else s.at t) := by
  simp [exec_cnvRefreqWrite]

theorem exec_refSettledRise_eq (t g : Nat) (s : State) :
    exec (.refSettledRise t g) s = .next (if g < 8 then refSettledRiseEff g (s.at t) else s.at t) := by
  simp [exec_refSettledRise]

theorem exec_refWindowFault_eq (t g : Nat) (s : State) :
    exec (.refWindowFault t g) s = .next (if g < 8 then refWindowFaultEff g (s.at t) else s.at t) := by
  simp [exec_refWindowFault]

theorem exec_refSettlingFault_eq (t g : Nat) (s : State) :
    exec (.refSettlingFault t g) s = .next (if g < 8 then refSettlingFaultEff g (s.at t) else s.at t) := by
  simp [exec_refSettlingFault]

theorem cnvRefreqWriteEff_of_range {g : Nat} (hg : g < 8) (r : Requester) (v : Nat) (s : State) :
    cnvRefreqWriteEff r g v s = (s.hostWrite r (CNV_REFREQ g) (State.refReq g v)).2 :=
  if_pos hg

/-- R58: outside TEST a request is refused and the reference is not changed. -/
theorem State.hostWrite_refReq_of_not_test {g : Nat} {r : Requester} {s : State} (hjudge : s.judge r (CNV_REFREQ g) = .allowed)
    (hmode : s.mode ≠ .test) (v : Nat) :
    (s.hostWrite r (CNV_REFREQ g) (State.refReq g v)).2 = s.recordWrite r (CNV_REFREQ g) .notInTest :=
  State.hostWrite_of_refused hjudge (s' := s) (by simp [State.refReq, hmode]) (by simp)

/-- R57, R58, R75: in TEST a request for EXTERNAL wants its ball and the reserved value is refused; any other is kept, and a value other
than REF_ACT asks for a change at the next strobe. -/
theorem State.refReq_of_test {s : State} (hmode : s.mode = .test) (g v : Nat) :
    State.refReq g v s =
      (let b := s.setF (CNV_REFREQ_REF_REQ g) (v % 4)
       if v % 4 = 1 ∧ bitN s.sys.ballMap (if g < 4 then 0 else 1) = false then (.resourceBusy, s)
       else if v % 4 = 3 then (.valueRange, s)
       else (.ok, if v % 4 = s.getF (CNV_GSTAT_REF_ACT g) then b else b.setGrp g { s.grp g with refPend := some (v % 4) })) := by
  simp [State.refReq, hmode]

/-- R58, R482: what a requester's write of a request comes to in TEST, its outcome recorded. -/
theorem State.hostWrite_refReq_of_test {g : Nat} {r : Requester} {s : State} (hjudge : s.judge r (CNV_REFREQ g) = .allowed)
    (hmode : s.mode = .test) (v : Nat) :
    (s.hostWrite r (CNV_REFREQ g) (State.refReq g v)).2 =
      (let b := s.setF (CNV_REFREQ_REF_REQ g) (v % 4)
       if v % 4 = 1 ∧ bitN s.sys.ballMap (if g < 4 then 0 else 1) = false then s.recordWrite r (CNV_REFREQ g) .resourceBusy
       else if v % 4 = 3 then s.recordWrite r (CNV_REFREQ g) .valueRange
       else (if v % 4 = s.getF (CNV_GSTAT_REF_ACT g) then b else b.setGrp g { s.grp g with refPend := some (v % 4) }).recordWrite r
        (CNV_REFREQ g) .ok) := by
  have hreq := State.refReq_of_test hmode g v
  by_cases hbusy : v % 4 = 1 ∧ bitN s.sys.ballMap (if g < 4 then 0 else 1) = false
  · rw [if_pos hbusy]
    exact State.hostWrite_of_refused hjudge (hreq.trans (if_pos hbusy)) (by simp)
  · rw [if_neg hbusy]
    by_cases hreserved : v % 4 = 3
    · rw [if_pos hreserved]
      exact State.hostWrite_of_refused hjudge (hreq.trans ((if_neg hbusy).trans (if_pos hreserved))) (by simp)
    · rw [if_neg hreserved]
      exact State.hostWrite_of_ok hjudge (hreq.trans ((if_neg hbusy).trans (if_neg hreserved)))

/-- R59, R45: the reference has settled in time; a rotation step no arbitration interrupts starts its phase again, or in its last phase
goes on by the strobes it paused. -/
theorem refSettledRiseEff_of_in_time {g f : Nat} {s : State} (hg : g < 8) (hfall : (s.grp g).refFall = some f)
    (htime : s.ana.strobe ≤ f + 2048) :
    refSettledRiseEff g s =
      (let b := (s.setGrp g { s.grp g with refFall := none }).setFlag (CNV_GSTAT_REF_SETTLED g) true
       if (s.grp g).arb.isSome = true then b
       else match b.getF (CNV_GSTAT_ROT_PHASE g) with
        | 0 => b.setGrp g { b.grp g with s0 := b.ana.strobe, cmp := 0, dif := 0, ext := 0 }
        | 1 => b.setGrp g { b.grp g with calFrom := b.ana.strobe }
        | 2 => b.setGrp g { b.grp g with prepFrom := (s.grp g).prepFrom + (b.ana.strobe - (s.grp g).refLow) }
        | _ => b) := by
  simp only [refSettledRiseEff, hfall]
  exact if_pos (by simp [hg, htime])

/-- R60: an EXTERNAL reference lay outside its window at sixteen strobes in a row; INTERNAL is requested. -/
theorem refWindowFaultEff_of_sixteen {g : Nat} {s : State} (hg : g < 8) (hrun : 16 ≤ (s.grp g).winRun) :
    refWindowFaultEff g s =
      ((s.setGrp g { s.grp g with winRun := 0, refPend := some 0 }).setFlag (CNV_GSTAT_REF_FAULT g) true).raise 20 g 0 := by
  simp [refWindowFaultEff, hg, hrun]

/-- R60: a reference has not settled within 2,048 strobes; INTERNAL takes its place, and the bound starts again. -/
theorem refSettlingFaultEff_of_late {g f : Nat} {s : State} (hg : g < 8) (hfall : (s.grp g).refFall = some f)
    (hlate : f + 2048 ≤ s.ana.strobe) :
    refSettlingFaultEff g s =
      (((s.setGrp g { s.grp g with refFall := some (f + 2048), refTo := 0 }).setF (CNV_GSTAT_REF_ACT g) 0).setFlag
        (CNV_GSTAT_REF_FAULT g) true).raise 20 g 1 := by
  simp [refSettlingFaultEff, hfall, hg, hlate]

/-- Settles O2: each clause is the lemma above that states its effect, behind the equation of its command. -/
theorem rotationAndReferences : Obligations.RotationAndReferences := by
  unfold Obligations.RotationAndReferences
  refine ⟨?start, ?compared, ?fewCompared, ?calibrated, fun g k cal s => ⟨s.segs_setCal_low g k cal, s.segs_setCal_high g k cal⟩,
    ?request, ?refused, ?settled, ?window, ?late,
    exec_rotationStepStart_eq, exec_shadowEnd_eq, exec_sliceCalibrationDone_eq, exec_cnvRefreqWrite_eq, exec_refSettledRise_eq,
    exec_refWindowFault_eq, exec_refSettlingFault_eq⟩
  case start =>
    intro t g s a hg hready
    exact exec_of_guard (exec_rotationStepStart_eq t g s) hg (rotationStepStartEff_of_ready hg hready)
  case compared =>
    intro t g s a x hg hruns hshadow hwindow hsettled hlasted hcmp
    exact exec_of_guard (exec_shadowEnd_eq t g s) hg
      (shadowEndEff_of_compared ⟨hg, hruns, hshadow, hwindow, hsettled, hlasted⟩ hcmp)
  case fewCompared =>
    intro t g s a x hg hruns hshadow hwindow hsettled hlasted hcmp
    exact exec_of_guard (exec_shadowEnd_eq t g s) hg
      (shadowEndEff_of_few_compared ⟨hg, hruns, hshadow, hwindow, hsettled, hlasted⟩ hcmp)
  case calibrated =>
    intro t g k why cal s a hg hcal hwindow hsettled hlasted
    exact exec_of_guard (exec_sliceCalibrationDone_eq t g cal s) hg
      (sliceCalibrationDoneEff_of_lasted hg hcal hwindow hsettled hlasted cal)
  case request =>
    intro t g v r s a hg halive hjudge hmode
    exact exec_of_guard (exec_cnvRefreqWrite_eq t r g v s) ⟨hg, halive⟩
      ((cnvRefreqWriteEff_of_range hg r v a).trans (State.hostWrite_refReq_of_test hjudge hmode v))
  case refused =>
    intro t g v r s a hg halive hjudge hmode
    exact exec_of_guard (exec_cnvRefreqWrite_eq t r g v s) ⟨hg, halive⟩
      ((cnvRefreqWriteEff_of_range hg r v a).trans (State.hostWrite_refReq_of_not_test hjudge hmode v))
  case settled =>
    intro t g f s a hg hfall htime
    exact exec_of_guard (exec_refSettledRise_eq t g s) hg (refSettledRiseEff_of_in_time hg hfall htime)
  case window =>
    intro t g s a hg hrun
    exact exec_of_guard (exec_refWindowFault_eq t g s) hg (refWindowFaultEff_of_sixteen hg hrun)
  case late =>
    intro t g f s a hg hfall hlate
    exact exec_of_guard (exec_refSettlingFault_eq t g s) hg (refSettlingFaultEff_of_late hg hfall hlate)

end Sys2Proof.Machine

/-!
The auxiliary converter (R61 to R72, R80): its actions, its sequence, its snapshots and its queue, each command's effect by the
conditions of its row.
-/
namespace Sys2Proof.Machine

/-! ### The actions of AUX_CTL (R64, R66, R71, R80) -/

section Control
variable {r : Requester} {s : State}

/-- R64: START starts a sequencer that is not running. -/
theorem auxStartEff_of_stopped (hjudge : s.judge r AUX_CTL = .allowed) (hrun : s.flag AUX_STAT_RUN = false) :
    auxStartEff r s =
      (({ s with aux := { s.aux with stopReq := false, periodFrom := some s.ana.strobe } }.setFlag AUX_STAT_RUN true).auxSeq).recordWrite
        r AUX_CTL .ok :=
  State.hostWrite_of_ok hjudge (by simp [State.auxStartW, hrun, State.auxRun])

/-- R66: START is refused while RUN is set. -/
theorem auxStartEff_of_running (hjudge : s.judge r AUX_CTL = .allowed) (hrun : s.flag AUX_STAT_RUN = true) :
    auxStartEff r s = s.recordWrite r AUX_CTL .stateDenied :=
  State.hostWrite_of_refused hjudge (s' := s) (by simp [State.auxStartW, hrun]) (by simp)

/-- R66, log entry 91: STOP waits for the entry in progress, and lets RUN fall at once where there is none. -/
theorem auxStopEff_of_allowed (hjudge : s.judge r AUX_CTL = .allowed) :
    auxStopEff r s =
      (if s.flag AUX_STAT_RUN = false then s
       else if s.aux.busy = true then { s with aux := { s.aux with stopReq := true } }
       else s.setFlag AUX_STAT_RUN false).recordWrite r AUX_CTL .ok := by
  refine State.hostWrite_of_ok hjudge ?_
  cases hrun : s.flag AUX_STAT_RUN <;> cases hbusy : s.aux.busy <;> simp [State.auxStopW, hrun, hbusy]

/-- R71: CLR_CNT clears both counters. -/
theorem auxClrCntEff_of_allowed (hjudge : s.judge r AUX_CTL = .allowed) :
    auxClrCntEff r s = ((s.setF AUX_CNT_DROP_CNT 0).setF AUX_CNT_SEQ_OVR_CNT 0).recordWrite r AUX_CTL .ok :=
  State.hostWrite_of_ok hjudge rfl

/-- R80: FLUSH empties the queue. -/
theorem auxFlushEff_of_allowed (hjudge : s.judge r AUX_CTL = .allowed) :
    auxFlushEff r s = { s with aux := { s.aux with queue := [] } }.recordWrite r AUX_CTL .ok :=
  State.hostWrite_of_ok hjudge rfl

/-! ### A snapshot is asked for, the queue is read (R69, R72) -/

/-- R69: GO asks for a snapshot, and is refused where both masks are 0. -/
theorem auxSnapGoEff_of_allowed (hjudge : s.judge r AUX_SNAP_GO = .allowed) :
    auxSnapGoEff r s =
      if s.getF AUX_SNAP_LO_MASK_LO = 0 ∧ s.getF AUX_SNAP_HI_MASK_HI = 0 then s.recordWrite r AUX_SNAP_GO .valueRange
      else { s with aux := { s.aux with snapReq := s.aux.snapReq + 1 } }.recordWrite r AUX_SNAP_GO .ok := by
  split
  case isTrue hempty => exact State.hostWrite_of_refused hjudge (s' := s) (by simp [State.auxSnapW, hempty]) (by simp)
  case isFalse hsome => exact State.hostWrite_of_ok hjudge (by simpa [State.auxSnapW] using hsome)

/-- R72: a read takes the oldest entry and captures its words; of an empty queue it reads 0 and sets EMPTY_READ. -/
theorem auxQdataReadEff_of_allowed (hjudge : s.judge r AUX_QDATA_LO = .allowed) :
    auxQdataReadEff r s =
      match s.aux.queue with
      | [] => ((s.setFlag AUX_QSTAT_EMPTY_READ true).capture r AUX_QDATA_LO [0, 0]).readOut [0]
      | e :: rest =>
        ({ s with aux := { s.aux with queue := rest } }.capture r AUX_QDATA_LO (auxWords e)).readOut [e.value % 4294967296] := by
  rw [auxQdataReadEff, State.hostRead_of_allowed hjudge]
  cases hqueue : s.aux.queue <;> simp only [State.auxPop, hqueue] <;> rfl

end Control

/-! ### The sequence (R61, R64, R65) -/

/-- R61: the entry in progress has made its conversions; its result is queued with the number of its sequence. -/
theorem auxEntryDoneEff_of_complete {codes : List Int} {s : State} (href : s.sys.refPresent = true) (hrun : s.flag AUX_STAT_RUN = true)
    (hbusy : s.aux.busy = true) (hcodes : codes.length = 2 ^ s.getF (AUX_ENT_AVG (s.getF AUX_STAT_ENTRY))) :
    auxEntryDoneEff codes s =
      (let e := s.getF AUX_STAT_ENTRY
       (s.auxPush ⟨s.getF (AUX_ENT_INPUT e), false,
         s.getF (AUX_ENT_AVG e) * 8 + b2n (s.flag (AUX_ENT_LEFT e)) * 4 + b2n (s.flag (AUX_ENT_SIGNED e)) * 2 +
           b2n (s.flag (AUX_ENT_DIFF e)), s.aux.runSeq,
         auxValue (s.flag (AUX_ENT_DIFF e)) (s.flag (AUX_ENT_SIGNED e)) (s.flag (AUX_ENT_LEFT e)) (s.getF (AUX_ENT_AVG e))
           (s.getF (AUX_ENT_SHIFT e)) codes⟩).auxNext) := by
  unfold auxEntryDoneEff
  rw [if_pos (by simp [href, hrun, hbusy, hcodes])]

/-- R64, R65: in PERIODIC mode a period has begun at the strobe `p` plus PERIOD. -/
structure PeriodBegun (p : Nat) (s : State) : Prop where
  since : s.aux.periodFrom = some p
  ref : s.sys.refPresent = true
  runs : s.flag AUX_STAT_RUN = true
  periodic : s.getF AUX_CFG_MODE = 2
  reached : p + s.getF AUX_PERIOD_PERIOD ≤ s.ana.strobe

/-- R64, R65: the next period counts from this one, whose sequence starts, or is an overrun while the one before is still running. -/
theorem auxPeriodStartEff_of_begun {p : Nat} {s : State} (h : PeriodBegun p s) :
    auxPeriodStartEff s =
      (let b : State := { s with aux := { s.aux with periodFrom := some (p + s.getF AUX_PERIOD_PERIOD) } }
       let c := (b.setFlag AUX_QSTAT_SEQ_OVR true).incSat AUX_CNT_SEQ_OVR_CNT
       if s.aux.busy = true then c.raise 22 0 (c.getF AUX_CNT_SEQ_OVR_CNT) else b.auxSeq) := by
  obtain ⟨hsince, href, hruns, hperiodic, hreached⟩ := h
  simp only [auxPeriodStartEff, hsince]
  rw [if_pos (by simp [href, hruns, hperiodic, hreached])]

/-! ### Snapshots and the queue (R67, R69, R70) -/

/-- R69, log entries 89 and 90: the strobe behind one GO captures one block, with the masks and SEQ as they stand there. -/
theorem State.snapTake_of_one {s : State} (hreq : s.aux.snapReq = 1) :
    s.snapTake =
      (let b := { s with aux := { s.aux with held := s.aux.held ++ [AuxItem.block (s.auxMarker 1 :: s.snapChans.map (fun c =>
        ⟨0x10 + c, false, s.getF (CNV_CH_TAG c), (s.getF AUX_STAT_SEQ + 1) % 65536, tcBits 32 (s.chan c).last⟩))] } }.incWrap AUX_STAT_SEQ
       { b with aux := { b.aux with snapReq := 0 } }) := by
  unfold State.snapTake
  rw [hreq]
  rfl

/-- R69, R70: a block with nothing behind it is queued whole or discarded whole. -/
theorem auxSnapCaptureEff_of_block {es : List AuxEntry} {s : State} (hheld : s.aux.held = [.block es]) :
    auxSnapCaptureEff s =
      (let b := if s.aux.queue.length + es.length ≤ 512 then es.foldl State.auxStore s else s.auxDrop es.length
       { b with aux := { b.aux with held := [] } }) := by
  simp only [auxSnapCaptureEff, hheld, State.auxFollow, State.auxBlock]

/-- R67, R70: a queue with room stores the entry, marked where one before it was discarded. -/
theorem State.auxStore_of_room {e : AuxEntry} {s : State} (hroom : s.aux.queue.length < 512) :
    s.auxStore e =
      { s with aux := { s.aux with queue := s.aux.queue ++ [{ e with dropBefore := s.aux.dropNext }], dropNext := false } } :=
  if_pos hroom

/-- Settles O3: each clause is the lemma above that states its effect, behind the equation of its command. -/
theorem auxiliaryConverter : Obligations.AuxiliaryConverter := by
  unfold Obligations.AuxiliaryConverter
  refine ⟨?requester, ?entryDone, ?periodFree, ?periodOverrun, fun s hreq => State.snapTake_of_one hreq, ?capture,
    fun e s hroom => State.auxStore_of_room hroom, exec_auxStart, exec_auxStop, exec_auxClrCnt, exec_auxFlush, exec_auxEntryDone,
    exec_auxPeriodStart, exec_auxSnapGo, exec_auxSnapCapture, exec_auxQdataRead⟩
  case requester =>
    intro t r s a halive
    refine ⟨fun hjudge => ⟨fun hrun => ?start, fun hrun => ?restart, ?stop, ?clear, ?flush⟩, fun hjudge => ?snapshot,
      fun hjudge => ?read⟩
    case start => exact exec_of_guard (exec_auxStart t r s) halive (auxStartEff_of_stopped hjudge hrun)
    case restart => exact exec_of_guard (exec_auxStart t r s) halive (auxStartEff_of_running hjudge hrun)
    case stop => exact exec_of_guard (exec_auxStop t r s) halive (auxStopEff_of_allowed hjudge)
    case clear => exact exec_of_guard (exec_auxClrCnt t r s) halive (auxClrCntEff_of_allowed hjudge)
    case flush => exact exec_of_guard (exec_auxFlush t r s) halive (auxFlushEff_of_allowed hjudge)
    case snapshot => exact exec_of_guard (exec_auxSnapGo t r s) halive (auxSnapGoEff_of_allowed hjudge)
    case read => exact exec_of_guard (exec_auxQdataRead t r s) halive (auxQdataReadEff_of_allowed hjudge)
  case entryDone =>
    intro t codes s a e href hrun hbusy hcodes
    rw [exec_auxEntryDone, auxEntryDoneEff_of_complete href hrun hbusy hcodes]
  case periodFree =>
    intro t p s a hsince href hruns hperiodic hreached hfree
    rw [exec_auxPeriodStart, auxPeriodStartEff_of_begun ⟨hsince, href, hruns, hperiodic, hreached⟩]
    exact congrArg _ (if_neg (Bool.eq_false_iff.1 hfree))
  case periodOverrun =>
    intro t p s a hsince href hruns hperiodic hreached hbusy
    rw [exec_auxPeriodStart, auxPeriodStartEff_of_begun ⟨hsince, href, hruns, hperiodic, hreached⟩]
    exact congrArg _ (if_pos hbusy)
  case capture =>
    intro t es s a hheld
    rw [exec_auxSnapCapture, auxSnapCaptureEff_of_block hheld]

end Sys2Proof.Machine

/-!
The outputs of the filter chain (R84 to R87, R92, R94, R96, R112): the two stages as sums of products of their windows, and the tracked and
the fixed-rate sample as blends at their instants. Without an upset the datapaths agree, so that an output computed is an output released.
-/
namespace Sys2Proof.Machine

/-! ### Windows and channels -/

/-- A write of what stands at an index changes nothing. -/
@[simp] theorem lset_lget_self {α : Type} (d : α) (l : List α) (i : Nat) : lset l i (lget d l i) = l := by
  induction l generalizing i with
  | nil => rfl
  | cons x l ih =>
    cases i with
    | zero => rfl
    | succ i => exact congrArg (x :: ·) (ih i)

/-- What is put in at an index of a list stands there. -/
theorem take_drop_insert {α : Type} {l : List α} {i : Nat} (h : i ≤ l.length) (w r : List α) :
    ((l.take i ++ w ++ r).drop i).take w.length = w := by
  rw [List.append_assoc, List.drop_left' (List.length_take_of_le h), List.take_left]

@[simp] theorem length_window (n : Nat) (l : List Sample) : (window n l).length = n := by
  induction n generalizing l with
  | zero => rfl
  | succ n ih => cases l <;> exact congrArg (· + 1) (ih _)

@[simp] theorem dedWords_nil (w : List Sample) : dedWords [] w = w := rfl

/-- R83: the tag of a rounded result decides nothing about its value. -/
theorem clampOut_v (v : Int) (tag tag' : Tag) : (clampOut v tag).v = (clampOut v tag').v := by
  unfold clampOut
  split <;> rfl

@[simp] theorem State.setFch_fch (s : State) (c : Nat) : s.setFch c (s.fch c) = s := by
  simp only [State.setFch, State.fch, lset_lget_self]

theorem State.setFch_last1 {s : State} {c m : Nat} (h : (s.fch c).last1 = some m) : s.setFch c { s.fch c with last1 := some m } = s := by
  rw [← h]
  exact s.setFch_fch c

@[simp] theorem State.spoilAll_nil (s : State) (c : Nat) (n : Int) : s.spoilAll c n [] = s := rfl

@[simp] theorem State.fch_maskNew (s t : State) (k c : Nat) : (s.maskNew k t).fch c = t.fch c := by
  simp [State.fch, State.maskNew_frame]

@[simp] theorem State.fch_svPublish (s : State) (c : Nat) : s.svPublish.fch c = s.fch c := by
  simp [State.fch, State.svPublish_frame]

/-! ### The comparison of the datapaths (R98) -/

/-- R98, R100: without an upset both datapaths, and the recompute unit in the place of a retired one, give the same result. -/
theorem State.compare_of_no_upset (s : State) (g : Nat) (acc : Int) (ded : List Nat) : s.compare g acc ⟨none, ded⟩ = .out acc := by
  simp [State.compare]

theorem State.stageOut_of_no_upset (s : State) (st c idx : Nat) (base acc : Int) (tag : Tag) :
    s.stageOut st c idx base acc tag ⟨none, []⟩ = s.release st c idx (stageRound st base acc tag) := by
  unfold State.stageOut
  dsimp only
  rw [State.compare_of_no_upset]
  rfl

/-! ### The stages (R84 to R87) -/

/-- R85: the stage-1 output behind output `m`, whose newest strobe has been sampled and stands in the history. -/
theorem stage1OutputEff_of_due {c m : Nat} {s : State} (hc : c < 64) (hon : s.chainOn c = true) (hstrobe : s.ana.strobe ≠ 0)
    (hserved : s.recWaits 0 c = false) (hlast : (s.fch c).last1 = some m) (hsampled : 16 * (m + 1) ≤ s.ana.strobe - 1)
    (hhist : s.ana.strobe - 1 - 16 * (m + 1) ≤ (s.fch c).x.length) :
    stage1OutputEff c ⟨none, []⟩ s =
      (let w := window 129 ((s.fch c).x.drop (s.ana.strobe - 1 - 16 * (m + 1)))
       s.stageOut 0 c (m + 1) 0 (dot (mirror (s.bank (fltGroupOf c) 0 (s.selBank (fltGroupOf c) 0)).words) (w.map (·.v))) (winTag w)
        ⟨none, []⟩) := by
  have hwindow := take_drop_insert hhist (window 129 ((s.fch c).x.drop (s.ana.strobe - 1 - 16 * (m + 1))))
    ((s.fch c).x.drop (s.ana.strobe - 1 - 16 * (m + 1) + 129))
  rw [length_window] at hwindow
  have hdue : ¬ (decide (64 ≤ c) || !s.chainOn c || decide (s.ana.strobe = 0) || decide (s.ana.strobe - 1 < 16 * (m + 1)) ||
      s.recWaits 0 c) = true := by
    simp [hc, hon, hstrobe, hserved, hsampled]
  simp only [stage1OutputEff, hlast, if_neg hdue, dedWords_nil, hwindow]
  simp [State.setFch_last1 hlast]

/-- R86: the stage-2 output that stage-1 output `m`, of even index, makes due. -/
theorem stage2OutputEff_of_due {c m : Nat} {s : State} (hc : c < 64) (hon : s.chainOn c = true) (hserved1 : s.recWaits 0 c = false)
    (hserved2 : s.recWaits 1 c = false) (hlast : (s.fch c).last1 = some m) (heven : m % 2 = 0) (hnew : (s.fch c).last2 ≠ some (m / 2)) :
    stage2OutputEff c ⟨none, []⟩ s =
      s.stageOut 1 c (m / 2) 0 (dot (mirror (s.bank (fltGroupOf c) 1 (s.selBank (fltGroupOf c) 1)).words)
        ((window 33 (s.fch c).y1).map (·.v))) (winTag (window 33 (s.fch c).y1)) ⟨none, []⟩ := by
  have hdue : ¬ (decide (64 ≤ c) || !s.chainOn c || decide (m % 2 = 1) || decide ((s.fch c).last2 = some (m / 2)) || s.recWaits 0 c ||
      s.recWaits 1 c) = true := by
    simp [hc, hon, heven, hnew, hserved1, hserved2]
  simp only [stage2OutputEff, hlast, if_neg hdue, dedWords_nil]
  simp [State.setFch_last1 hlast]

/-! ### Tracked samples (R92, R94, R112) -/

@[simp] theorem State.length_chans_setFch (s : State) (c : Nat) (x : FltChan) :
    (s.setFch c x).flt.chans.length = s.flt.chans.length :=
  lset_length ..

/-- R94: the release of tracked sample `m` puts it in front of the DFT window and makes the next index due. -/
theorem State.fch_releaseT_same {s : State} {c : Nat} (hc : c < s.flt.chans.length) (m : Nat) (y : Sample) :
    ((s.releaseT c m y).fch c).tNext = m + 1 ∧ lget ⟨0, .settling⟩ ((s.releaseT c m y).fch c).hist 0 = y := by
  unfold State.releaseT
  rw [State.fch_setFch_same _ _ _ hc]
  exact ⟨rfl, rfl⟩

theorem State.fch_releaseT_other (s : State) {c d : Nat} (hd : d ≠ c) (m : Nat) (y : Sample) : (s.releaseT c m y).fch d = s.fch d :=
  State.fch_setFch_other _ _ _ _ hd

/-- R94, R96: the newest stage-2 output stands, and its index `q` reaches the end `n` of the window. -/
theorem not_short_of_window {c : Nat} {newest : Option Nat} {n q : Int} (h : c < 64 → newest.isNone = false ∧ n ≤ q) :
    ¬ (decide (c < 64) && (newest.isNone || decide (q < n))) = true := by
  simp only [Bool.and_eq_true, Bool.or_eq_true, decide_eq_true_eq]
  rintro ⟨hc, hshort⟩
  obtain ⟨hstands, hreach⟩ := h hc
  exact hshort.elim (by simp [hstands]) (Int.not_lt.2 hreach)

/-- R94, R112: the next tracked sample of a channel is due: its index has been reached, its instant has come, and the stage-2 outputs its
window needs stand. -/
structure TrackedDue (c : Nat) (s : State) : Prop where
  on : s.chainOn c = true
  reached : (s.fch c).tNext ≤ s.dueIdx c
  lag : 64 ≤ c → s.getF FLT_TCFG_VLAG ≤ s.flt.m
  served : s.recWaits 2 c = false
  instant : s.releaseAt c (s.fch c).tNext ≤ s.strobeTime
  stands : c < 64 → (s.fch c).last2.isNone = false ∧
    (s.axis c ((s.tauAt (s.fch c).tNext : Nat) : Int)).1 / ((s.axis c ((s.tauAt (s.fch c).tNext : Nat) : Int)).2 : Int) + 4 ≤
      ((s.fch c).q2 : Int) - 10

/-- R92, R94: a tracked sample that is due is released with the blend at its instant as its value; beside it only the channel's marks of
its first clean sample and of its trim change. -/
theorem trackedSampleEff_of_due {c : Nat} {s : State} (h : TrackedDue c s) :
    ∃ x' tag, trackedSampleEff c ⟨none, []⟩ s =
      (let ax := s.axis c ((s.tauAt (s.fch c).tNext : Nat) : Int)
       (s.setFch c x').releaseT c (s.fch c).tNext (stageRound 2 (s.blend c ax.1 ax.2).1 (s.blend c ax.1 ax.2).2.1 tag)) := by
  obtain ⟨hon, hreached, hlag, hserved, hinstant, hstands⟩ := h
  have hdue : ¬ (!s.chainOn c || decide (s.dueIdx c < (s.fch c).tNext) || s.recWaits 2 c) = true := by
    simp [hon, hreached, hserved]
  have hlag : ¬ (decide (64 ≤ c) && decide (s.flt.m < s.getF FLT_TCFG_VLAG)) = true := by
    simpa using hlag
  simp only [trackedSampleEff, if_neg hdue, if_neg hlag, if_neg (Int.not_lt.2 hinstant),
    if_neg (not_short_of_window hstands), State.spoilAll_nil, State.stageOut_of_no_upset]
  exact ⟨_, _, rfl⟩

/-- R92, R94, R263: what the channels are after a tracked sample that was due; the mask tests change none. -/
theorem trackedMaskEff_of_due {c : Nat} {s : State} (h : TrackedDue c s) (hc : c < s.flt.chans.length) :
    let ax := s.axis c ((s.tauAt (s.fch c).tNext : Nat) : Int)
    ((trackedMaskEff c ⟨none, []⟩ s).fch c).tNext = (s.fch c).tNext + 1 ∧
    (lget ⟨0, .settling⟩ ((trackedMaskEff c ⟨none, []⟩ s).fch c).hist 0).v =
      (clampOut ((s.blend c ax.1 ax.2).1 + divHalfEven (s.blend c ax.1 ax.2).2.1 65536) .valid).v ∧
    ∀ d, d ≠ c → (trackedMaskEff c ⟨none, []⟩ s).fch d = s.fch d := by
  obtain ⟨x', tag, heff⟩ := trackedSampleEff_of_due h
  simp only [trackedMaskEff, State.fch_maskNew, heff]
  obtain ⟨hnext, hhist⟩ := State.fch_releaseT_same (s := s.setFch c x') (by simpa using hc) (s.fch c).tNext
    (stageRound 2 _ _ tag)
  refine ⟨hnext, ?_, fun d hd => ?_⟩
  · rw [hhist]
    exact clampOut_v _ _ _
  · rw [State.fch_releaseT_other _ hd, State.fch_setFch_other _ _ _ _ hd]

/-! ### Fixed-rate samples (R92, R94, R96) -/

/-- R94: the instant of strobe time whose fixed-rate sample a channel may release now. -/
def State.fixPos (s : State) (c : Nat) : Int := s.strobeTime - nsTau (439510 + (s.fch c).trim)

/-- R96: the number of the latest fixed-rate instant at or before it. -/
def State.fixKey (s : State) (c : Nat) : Nat := (s.labelOf (s.fixPos c) * (s.svRate : Int) / 65536000000000).toNat

/-- R96: that instant, in strobe time. -/
def State.fixTau (s : State) (c : Nat) : Int :=
  s.fixPos c + ((s.fixKey c : Int) * 65536000000000 / (s.svRate : Int) - s.labelOf (s.fixPos c)) * 1048576

/-- R96, R118: a fixed-rate sample of a channel is due: it is published, has none yet for the slot, whose instant is of the present grid,
and the stage-2 outputs its window needs stand. -/
structure FixedRateDue (c : Nat) (s : State) : Prop where
  on : s.chainOn c = true
  enabled : s.flag FLT_SVCFG_SV_EN = true
  published : s.published c = true
  fresh : (s.fch c).fixK ≠ some (s.fixKey c)
  served : s.recWaits 3 c = false
  grid : s.oldGrid (s.fixTau c) = true → s.oldGrid (s.fixPos c) = true
  stands : c < 64 → (s.fch c).last2.isNone = false ∧
    (s.axis c (s.fixTau c)).1 / ((s.axis c (s.fixTau c)).2 : Int) + 4 ≤ ((s.fch c).q2 : Int) - 10

theorem State.fch_releaseF_same {s : State} {c : Nat} (hc : c < s.flt.chans.length) (k : Nat) (y : Sample) :
    ((s.releaseF c k y).fch c).fixK = some k ∧ ((s.releaseF c k y).fch c).fix = y := by
  unfold State.releaseF
  rw [State.fch_setFch_same _ _ _ hc]
  exact ⟨rfl, rfl⟩

theorem State.fch_releaseF_other (s : State) {c d : Nat} (hd : d ≠ c) (k : Nat) (y : Sample) : (s.releaseF c k y).fch d = s.fch d :=
  State.fch_setFch_other _ _ _ _ hd

/-- R92, R96: a fixed-rate sample that is due is released under its number with the blend at its instant as its value; beside it only the
channel's mark of its trim changes. -/
theorem fixedRateSampleEff_of_due {c : Nat} {s : State} (h : FixedRateDue c s) :
    ∃ x' tag, fixedRateSampleEff c ⟨none, []⟩ s =
      (let ax := s.axis c (s.fixTau c)
       (s.setFch c x').releaseF c (s.fixKey c) (stageRound 3 (s.blend c ax.1 ax.2).1 (s.blend c ax.1 ax.2).2.1 tag)) := by
  obtain ⟨hon, hen, hpub, hfresh, hserved, hgrid, hstands⟩ := h
  have hdue : ¬ (!s.chainOn c || !s.flag FLT_SVCFG_SV_EN || !s.published c || decide ((s.fch c).fixK = some (s.fixKey c)) ||
      s.recWaits 3 c) = true := by
    simp [hon, hen, hpub, hfresh, hserved]
  have hgrid : ¬ (s.oldGrid (s.fixTau c) && !s.oldGrid (s.fixPos c)) = true := by
    simpa using hgrid
  have heff : fixedRateSampleEff c ⟨none, []⟩ s = _ :=
    (if_neg hdue).trans ((if_neg hgrid).trans (if_neg (not_short_of_window hstands)))
  exact ⟨_, _, heff.trans (State.stageOut_of_no_upset ..)⟩

/-- R92, R96, R379: what the channels are after a fixed-rate sample that was due; the publication changes none. -/
theorem fixedRatePublishEff_of_due {c : Nat} {s : State} (h : FixedRateDue c s) (hc : c < s.flt.chans.length) :
    let ax := s.axis c (s.fixTau c)
    ((fixedRatePublishEff c ⟨none, []⟩ s).fch c).fixK = some (s.fixKey c) ∧
    ((fixedRatePublishEff c ⟨none, []⟩ s).fch c).fix.v =
      (clampOut ((s.blend c ax.1 ax.2).1 + divHalfEven (s.blend c ax.1 ax.2).2.1 65536) .valid).v ∧
    ∀ d, d ≠ c → (fixedRatePublishEff c ⟨none, []⟩ s).fch d = s.fch d := by
  obtain ⟨x', tag, heff⟩ := fixedRateSampleEff_of_due h
  simp only [fixedRatePublishEff, State.fch_svPublish, heff]
  obtain ⟨hkey, hfix⟩ := State.fch_releaseF_same (s := s.setFch c x') (by simpa using hc) (s.fixKey c) (stageRound 3 _ _ tag)
  refine ⟨hkey, ?_, fun d hd => ?_⟩
  · rw [hfix]
    exact clampOut_v _ _ _
  · rw [State.fch_releaseF_other _ hd, State.fch_setFch_other _ _ _ _ hd]

/-! ### The commands -/

theorem exec_stage1Output_eq (t c : Nat) (up : Upset) (s : State) :
    exec (.stage1Output t c up) s = .next (if c < 64 then stage1OutputEff c up (s.at t) else s.at t) := by
  simp [exec_stage1Output]

theorem exec_stage2Output_eq (t c : Nat) (up : Upset) (s : State) :
    exec (.stage2Output t c up) s = .next (if c < 64 then stage2OutputEff c up (s.at t) else s.at t) := by
  simp [exec_stage2Output]

theorem exec_trackedSample_eq (t c : Nat) (up : Upset) (s : State) :
    exec (.trackedSample t c up) s = .next (if c < 128 then trackedMaskEff c up (s.at t) else s.at t) := by
  simp [exec_trackedSample]

theorem exec_fixedRateSample_eq (t c : Nat) (up : Upset) (s : State) :
    exec (.fixedRateSample t c up) s = .next (if c < 128 then fixedRatePublishEff c up (s.at t) else s.at t) := by
  simp [exec_fixedRateSample]

/-- Settles O4: each clause is the lemma above that states its effect, behind the equation of its command. -/
theorem filterOutputs : Obligations.FilterOutputs := by
  unfold Obligations.FilterOutputs
  refine ⟨?stage1, ?stage2, fun s st c idx base acc tag _ => s.stageOut_of_no_upset st c idx base acc tag, ?tracked, ?fixedRate,
    exec_stage1Output_eq, exec_stage2Output_eq, exec_trackedSample_eq, exec_fixedRateSample_eq⟩
  case stage1 =>
    intro t c m s a x n hc hon hstrobe hserved hlast hsampled hhist
    exact exec_of_guard (exec_stage1Output_eq t c _ s) hc (stage1OutputEff_of_due hc hon hstrobe hserved hlast hsampled hhist)
  case stage2 =>
    intro t c m s a x hc hon hserved1 hserved2 hlast heven hnew
    exact exec_of_guard (exec_stage2Output_eq t c _ s) hc (stage2OutputEff_of_due hc hon hserved1 hserved2 hlast heven hnew)
  case tracked =>
    rintro t c _ s a x ax hc hon hreached hlag hserved hinstant hstands rfl - hlen
    exact ⟨_, exec_of_guard (exec_trackedSample_eq t c _ s) hc rfl,
      trackedMaskEff_of_due ⟨hon, hreached, hlag, hserved, hinstant, hstands⟩ (hlen.symm ▸ hc)⟩
  case fixedRate =>
    rintro t c _ s a x pos lab key tau ax hc hon hen hpub hfresh hserved hgrid hstands rfl - hlen
    exact ⟨_, exec_of_guard (exec_fixedRateSample_eq t c _ s) hc rfl,
      fixedRatePublishEff_of_due ⟨hon, hen, hpub, hfresh, hserved, hgrid, hstands⟩ (hlen.symm ▸ hc)⟩

end Sys2Proof.Machine

/-!
The recompute unit and the two halves of the phasor table (R14, R17, R98 to R100, R111, R114): the comparison of the unit's results with
those of the datapaths, and the boundary B_m, at which the halves swap or the crossing overruns.
-/
namespace Sys2Proof.Machine

/-! ### The recompute unit (R98 to R100) -/

/-- R99: the recompute unit serves the waiting output `p` of stage `st` of a channel. -/
structure RecServes (g st c : Nat) (p : RecPend) (s : State) : Prop where
  waits : s.flt.pend.find? (fun q => q.g = g && q.stage = st && q.ch = c) = some p
  samples : s.sampling = true
  turn : s.recTurn p = true

/-- The state in which an output of a channel waits no longer. -/
def State.served (s : State) (g st c : Nat) : State :=
  { s with flt := { s.flt with pend := s.flt.pend.filter (fun q => !(q.g = g && q.stage = st && q.ch = c)) } }

section Recompute
variable {g st c : Nat} {r1 r2 : Int} {p : RecPend} {s : State}

/-- R100: the unit's result is that of datapath A, which is believed; datapath B takes a strike. -/
theorem recomputeDoneEff_of_eq_a (h : RecServes g st c p s) (hr : r1 = r2) (ha : r1 = p.a) :
    recomputeDoneEff g st c r1 r2 s =
      ((s.served g st c).strike g true).release st c p.idx (stageRound st p.base p.a (tagMax p.tag .recomputed)) := by
  simp [recomputeDoneEff, h.waits, h.samples, h.turn, ← hr, ha, State.served]

/-- R100: the unit's result is that of datapath B alone, which is believed; datapath A takes a strike. -/
theorem recomputeDoneEff_of_eq_b (h : RecServes g st c p s) (hr : r1 = r2) (ha : r1 ≠ p.a) (hb : r1 = p.b) :
    recomputeDoneEff g st c r1 r2 s =
      ((s.served g st c).strike g false).release st c p.idx (stageRound st p.base p.b (tagMax p.tag .recomputed)) := by
  simp [recomputeDoneEff, h.waits, h.samples, h.turn, ← hr, ← hb, ha, State.served]

/-- R100: the unit's result is that of neither datapath, and it is believed. -/
theorem recomputeDoneEff_of_ne (h : RecServes g st c p s) (hr : r1 = r2) (ha : r1 ≠ p.a) (hb : r1 ≠ p.b) :
    recomputeDoneEff g st c r1 r2 s =
      ((s.served g st c).incSat (FLT_DPCNT_RFAIL g)).release st c p.idx (stageRound st p.base r1 (tagMax p.tag .recomputed)) := by
  simp [recomputeDoneEff, h.waits, h.samples, h.turn, ← hr, ha, hb, State.served]

/-- R100, log entry 129: the unit's two results differ; the previous output stands, SETTLING, and the failure is reported. -/
theorem recomputeDoneEff_of_differ (h : RecServes g st c p s) (hr : r1 ≠ r2) :
    recomputeDoneEff g st c r1 r2 s =
      (let f := (((s.served g st c).incSat (FLT_DPCNT_RFAIL g)).setFlag (FLT_GSTAT_DP_FAULT g) true).raise 35 g 0
       f.release st c p.idx ⟨f.prevOut st c, .settling⟩) := by
  simp [recomputeDoneEff, h.waits, h.samples, h.turn, hr, State.served]

/-- R263, R379: what the unit decided completes the publication of a fixed-rate sample, and meets the mask tests. -/
theorem recomputeMaskEff_of_done {u : State} (h : recomputeDoneEff g st c r1 r2 s = u) :
    recomputeMaskEff g st c r1 r2 s = s.maskNew c (if st = 3 then u.svPublish else u) := by
  rw [recomputeMaskEff, recomputePublishEff, h]

end Recompute

/-! ### The swap at B_m (R111, R114) -/

/-- The tracked instants and the half read until now stand. -/
def GridKept (x x' : FltSt) : Prop := x'.taus = x.taus ∧ x'.cur = x.cur

/-- R103, R105: the estimate taken moves the target of the tracking alone. -/
theorem State.takeFest_gridKept (s : State) (f : Nat) (follow : Bool) : GridKept s.flt (s.takeFest f follow).flt := by
  have hite := @State.ite_frame
  have hput := @State.putFest_frame
  have hflag := @State.setFlag_frame
  have hraise := @State.raise_frame
  cases follow <;> simp [GridKept, State.takeFest, ↓hite, ↓hput, ↓hflag, ↓hraise]

/-- R103, R105: the end of a cycle writes the sources and the target, and leaves the grid to the swap. -/
theorem State.cycleEnd_gridKept (s : State) (h : PhHalf) (tau : Nat) : GridKept s.flt (s.cycleEnd h tau).flt := by
  have hite := @State.ite_frame
  have hput := @State.putFest_frame
  have hset := @State.setF_frame
  have hraise := @State.raise_frame
  have htake := @State.takeFest_gridKept
  unfold GridKept at htake ⊢
  simp [State.cycleEnd, ↓hite, ↓hput, ↓hset, ↓hraise, ↓htake, apply_ite FltSt.taus, apply_ite FltSt.cur]

/-- R111: what a swap does to the grid and the halves: the half read until now becomes the previous one. -/
structure Swapped (x x' : FltSt) : Prop where
  m : x'.m = x.m + 1
  prev : x'.prev = x.cur
  cur : x'.cur.m = x.m
  taus : x'.taus = (x.tau :: x.taus).take 400

theorem State.swapHalves_swapped (s : State) : Swapped s.flt s.swapHalves.flt := by
  have hite := @State.ite_frame
  have hcycle := @State.cycleEnd_gridKept
  have hslew := @State.slew_frame
  have hmirror := @State.mirrorPh_frame
  have hsettle := @State.settleGroups_frame
  have hset := @State.setF_frame
  unfold GridKept at hcycle
  constructor <;>
    simp [State.swapHalves, State.keepFest, State.buildHalf, ↓hite, ↓hcycle, ↓hslew, ↓hmirror, ↓hsettle, ↓hset,
      apply_ite FltSt.taus, apply_ite FltSt.cur]

/-- R111, R114: at B_m with the DFT unit's half done, what the halves and the grid become is the swap's; the slow lists touch neither. -/
theorem slowBoundaryEff_swapped {s : State} (hruns : s.gridRuns = true) (hready : s.swapReady = true) :
    Swapped s.flt (slowBoundaryEff s).flt := by
  have hite := @State.ite_frame
  have hlate := @State.slowLate_frame
  have hkeep := @State.keepV1_frame
  have htrim := @State.slowTrim_frame
  have hflt : (slowBoundaryEff s).flt = ((s.slowTrim 0).slowTrim 1).swapHalves.flt := by
    simp [slowBoundaryEff, hruns, hready, ↓hite, ↓hlate, ↓hkeep]
  have hswap := ((s.slowTrim 0).slowTrim 1).swapHalves_swapped
  simpa [hflt, htrim] using hswap

theorem swapTickEff_swapped {s : State} (hruns : s.gridRuns = true) (hready : s.swapReady = true) :
    Swapped s.flt (swapTickEff s).flt := by
  have hswap := slowBoundaryEff_swapped hruns hready
  have hmoved : ((slowBoundaryEff s).flt.m != s.flt.m) = true := by simp [hswap.m]
  have hflt : (swapTickEff s).flt = (slowBoundaryEff s).flt := by
    simp only [swapTickEff, hmoved, if_true]
    simp [State.cleanBoundary_frame, State.digestSend_frame]
  rwa [hflt]

/-- R261: the triggers offered at a boundary touch neither the halves nor the grid. -/
theorem offeredSwap_swapped {s : State} (hruns : s.gridRuns = true) (hready : s.swapReady = true) :
    Swapped s.flt (State.offerEdges s (swapTickEff s)).flt := by
  simpa [State.offerEdges_frame] using swapTickEff_swapped hruns hready

theorem offeredSwap_frame (s : State) :
    (State.offerEdges s (swapTickEff s)).trp = s.trp ∧ (State.offerEdges s (swapTickEff s)).ana = s.ana ∧
      (State.offerEdges s (swapTickEff s)).sec = s.sec := by
  simp [State.offerEdges_frame, swapTickEff_frame]

/-- R14, R17: at B_m without the DFT unit's half the halves stand, and crossing X2 counts an overrun. -/
theorem swapTickEff_of_half_missing {s : State} (hruns : s.gridRuns = true) (hdue : s.boundaryDue = true) (hhalf : s.halfDone = false) :
    swapTickEff s = s.crossOverrun 2 := by
  have hstand : slowBoundaryEff s = s := by simp [slowBoundaryEff, State.swapReady, hhalf]
  simp [swapTickEff, hstand, hruns, hdue, hhalf]

/-! ### The commands -/

theorem exec_recomputeDone_eq (t g st c : Nat) (r1 r2 : Int) (s : State) :
    exec (.recomputeDone t g st c r1 r2) s =
      .next (if g < 8 ∧ st < 4 ∧ c < 128 then recomputeMaskEff g st c r1 r2 (s.at t) else s.at t) := by
  simp [exec_recomputeDone, and_assoc]

theorem exec_phasorSwap_eq (t : Nat) (s : State) :
    exec (.phasorSwap t) s = .next (State.offerEdges (s.at t) (swapTickEff (s.at t))) :=
  exec_phasorSwap t s

/-- Settles O5: each clause is the lemma above that states its effect, behind the equation of its command. -/
theorem recomputeAndHalves : Obligations.RecomputeAndHalves := by
  unfold Obligations.RecomputeAndHalves
  refine ⟨?recompute, ?swap, ?missing, exec_recomputeDone_eq, exec_phasorSwap_eq⟩
  case recompute =>
    intro t g st c r1 r2 p s a b goes hg hst hc hwaits hsamp hturn
    have hserves : RecServes g st c p a := ⟨hwaits, hsamp, hturn⟩
    have hexec {u : State} (hdone : recomputeDoneEff g st c r1 r2 a = u) :=
      exec_of_guard (exec_recomputeDone_eq t g st c r1 r2 s) ⟨hg, hst, hc⟩ (recomputeMaskEff_of_done hdone)
    refine ⟨fun hr ha => ?eqA, fun hr ha hb => ?eqB, fun hr ha hb => ?neither, fun hr => ?differ⟩
    case eqA => exact hexec (recomputeDoneEff_of_eq_a hserves hr ha)
    case eqB => exact hexec (recomputeDoneEff_of_eq_b hserves hr ha hb)
    case neither => exact hexec (recomputeDoneEff_of_ne hserves hr ha hb)
    case differ => exact hexec (recomputeDoneEff_of_differ hserves hr)
  case swap =>
    intro t s a hruns hready
    obtain ⟨hm, hprev, hcur, htaus⟩ := offeredSwap_swapped hruns hready
    obtain ⟨htrp, hana, hsec⟩ := offeredSwap_frame a
    exact ⟨_, exec_phasorSwap_eq t s, hm, hprev, hcur, htaus, htrp, hana, hsec⟩
  case missing =>
    intro t s a hruns hdue hhalf
    rw [exec_phasorSwap_eq, swapTickEff_of_half_missing hruns hdue hhalf]

end Sys2Proof.Machine

/-!
The states of a chain group and what a requester may write to the chain (R90, R95, R114 to R116, R121): stops, starts and synchronising
resets, and the writes of banks, coefficients, trims and the channel of the phasor mirror.
-/
namespace Sys2Proof.Machine

/-! ### Stops and starts (R114) -/

@[simp] theorem State.fltCtlW_one (s : State) (g : Nat) : State.fltCtlW g 1 s = s.fltStopW g := rfl

@[simp] theorem State.fltCtlW_two (s : State) (g : Nat) : State.fltCtlW g 2 s = s.fltStartW g := rfl

section Control
variable {r : Requester} {g : Nat} {s : State}

/-- R114: STOP is refused outside TEST, says OK to a group that is STOPPED, and asks any other group for its stop. -/
theorem fltStopEff_of_allowed (hjudge : s.judge r (FLT_CTL g) = .allowed) :
    fltStopEff r g s =
      if s.mode ≠ .test then s.recordWrite r (FLT_CTL g) .notInTest
      else if s.chainState g = 0 then s.recordWrite r (FLT_CTL g) .ok
      else (s.setFgrp g { s.fgrp g with stopReq := true }).recordWrite r (FLT_CTL g) .ok := by
  split
  case isTrue hmode => exact State.hostWrite_of_refused hjudge (s' := s) (by simp [State.fltStopW, hmode]) (by simp)
  case isFalse hmode =>
    have hmode := not_not.1 hmode
    split
    case isTrue hstopped => exact State.hostWrite_of_ok hjudge (by simp [State.fltStopW, hmode, hstopped])
    case isFalse hruns => exact State.hostWrite_of_ok hjudge (by simp [State.fltStopW, hmode, hruns])

/-- R114: START of a group that is not STOPPED is refused. -/
theorem fltStartEff_of_running (hjudge : s.judge r (FLT_CTL g) = .allowed) (hstate : s.chainState g ≠ 0) :
    fltStartEff r g s = s.recordWrite r (FLT_CTL g) .stateDenied :=
  State.hostWrite_of_refused hjudge (s' := s) (by simp [State.fltStartW, hstate]) (by simp)

/-- R114, R115: START of a STOPPED group asks for its synchronising reset where the banks it selects are valid. -/
theorem fltStartEff_of_stopped (hjudge : s.judge r (FLT_CTL g) = .allowed) (hstate : s.chainState g = 0) (hruns : s.gridRuns = true) :
    fltStartEff r g s =
      if (upto 3).all (fun st => bitN (s.getF (FLT_GSTAT_VALID g)) (st * 2 + s.selBank g st)) then
        (s.setFgrp g { s.fgrp g with startReq := true }).recordWrite r (FLT_CTL g) .ok
      else s.recordWrite r (FLT_CTL g) .bankInvalid := by
  have hany := List.not_all_eq_any_not (l := upto 3) (p := fun st => bitN (s.getF (FLT_GSTAT_VALID g)) (st * 2 + s.selBank g st))
  split
  case isTrue hvalid => exact State.hostWrite_of_ok hjudge (by simp [State.fltStartW, hstate, hruns, ← hany, hvalid])
  case isFalse hinvalid =>
    exact State.hostWrite_of_refused hjudge (s' := s) (by simp [State.fltStartW, hstate, hruns, ← hany, hinvalid]) (by simp)

end Control

/-- R114: the state of a chain group just written. -/
theorem State.chainState_setF_same (s : State) (g v : Nat) : (s.setF (FLT_GSTAT_STATE g) v).chainState g = v % 4 :=
  State.getF_setF_same _ _ _ (by simp [FLT_GSTAT_STATE])

/-- R114: the stop a group was asked for is due. -/
structure StopDue (g : Nat) (s : State) : Prop where
  runs : s.gridRuns = true
  asked : (s.fgrp g).stopReq = true
  strobe : s.ana.strobe % 32 = 0
  noneWaits : ∀ p ∈ s.flt.pend, p.g ≠ g

/-- R114: a stop taken: the group is STOPPED, its requests are gone, and the channels keep their histories. -/
theorem chainStopTakenEff_of_due {g : Nat} {s : State} (h : StopDue g s) :
    (chainStopTakenEff g s).chainState g = 0 ∧ (chainStopTakenEff g s).flt.pend = s.flt.pend ∧
      (chainStopTakenEff g s).flt.chans = s.flt.chans ∧
      (g < s.flt.groups.length →
        ((chainStopTakenEff g s).fgrp g).stopReq = false ∧ ((chainStopTakenEff g s).fgrp g).resetReq = false) := by
  obtain ⟨hruns, hasked, hstrobe, hnone⟩ := h
  have hdue : (s.gridRuns && (s.fgrp g).stopReq && decide (s.ana.strobe % 32 = 0) && !s.flt.pend.any (fun p => p.g = g)) = true := by
    simpa [hruns, hasked, hstrobe] using hnone
  have hset := @State.setF_frame
  unfold chainStopTakenEff
  rw [if_pos hdue]
  refine ⟨State.chainState_setF_same .., by simp [hset], by simp [hset], fun hg => ?_⟩
  simp [State.fgrp, hset, lget_lset_same _ _ _ _ hg]

/-! ### Synchronising resets (R116) -/

/-- A fold over a list that holds `x`: the step at `x` brings `P` about where `I` holds, and every step keeps both. -/
theorem foldl_brings_about {σ β : Type} {f : σ → β → σ} {I P : σ → Prop} {l : List β} {x : β} (hx : x ∈ l)
    (hI : ∀ s y, I s → I (f s y)) (hP : ∀ s y, I s → P s → P (f s y)) (hat : ∀ s, I s → P (f s x)) {s : σ} (hs : I s) :
    P (l.foldl f s) := by
  have hkeeps : ∀ (l : List β) (s : σ), I s → P s → P (l.foldl f s) := by
    intro l
    induction l with
    | nil => exact fun _ _ h => h
    | cons y l ih => exact fun s hs h => ih _ (hI s y hs) (hP s y hs h)
  induction l generalizing s with
  | nil => exact absurd hx List.not_mem_nil
  | cons y l ih =>
    rcases List.mem_cons.1 hx with rfl | hx
    · exact hkeeps l _ (hI s _ hs) (hat s hs)
    · exact ih hx (hI s y hs)

/-- R116: a channel whose histories are empty. -/
def Emptied (x : FltChan) : Prop := x.hist = [] ∧ x.y1 = [] ∧ x.y2 = []

/-- R116: a synchronising reset empties the histories of every channel of its group. -/
theorem State.syncReset_emptied {s : State} {g c : Nat} (hc : c < 128) (hlen : s.flt.chans.length = 128) (hg : fltGroupOf c = g) :
    Emptied ((s.syncReset g).fch c) := by
  have hset := @State.setF_frame
  unfold State.syncReset
  simp only [State.fch, hset, State.setFgrp_flt]
  refine foldl_brings_about (I := fun u : State => c < u.flt.chans.length) (P := fun u : State => Emptied (u.fch c))
    (List.mem_range.2 hc) ?_ ?_ ?_ (hlen.symm ▸ hc)
  · intro u d hu
    split
    · simpa using hu
    · exact hu
  · intro u d hu hempty
    split
    · by_cases hd : c = d
      · subst hd
        rw [State.fch_setFch_same _ _ _ hu]
        exact ⟨rfl, rfl, rfl⟩
      · rwa [State.fch_setFch_other _ _ _ _ hd]
    · exact hempty
  · intro u hu
    rw [if_pos hg, State.fch_setFch_same _ _ _ hu]
    exact ⟨rfl, rfl, rfl⟩

/-- R114, R116: a synchronising reset is due: a START of a STOPPED group asked for it, or a change of the time base of any other. -/
structure ResetDue (g : Nat) (s : State) : Prop where
  runs : s.gridRuns = true
  strobe : s.ana.strobe % 32 = 0
  asked : (s.chainState g = 0 ∧ (s.fgrp g).startReq = true) ∨ (s.chainState g ≠ 0 ∧ (s.fgrp g).resetReq = true)

theorem syncResetEff_of_due {g : Nat} {s : State} (h : ResetDue g s) : syncResetEff g s = s.syncReset g := by
  obtain ⟨hruns, hstrobe, hasked⟩ := h
  unfold syncResetEff
  rcases hasked with ⟨hstate, hreq⟩ | ⟨hstate, hreq⟩ <;> simp [hruns, hstrobe, hstate, hreq]

theorem State.syncReset_chainState (s : State) (g : Nat) : (s.syncReset g).chainState g = 1 :=
  State.chainState_setF_same ..

/-- R116: no output of the group waits for the recompute unit after a synchronising reset. -/
theorem State.syncReset_pend (s : State) (g : Nat) : ∀ p ∈ (s.syncReset g).flt.pend, p.g ≠ g := by
  have hset := @State.setF_frame
  simp [State.syncReset, hset]

/-! ### Banks, coefficients and their commit (R89, R90, R115, R121) -/

section Writes
variable {r : Requester} {s : State}

/-- R115: in TEST a STOPPED group takes writes of its banks. -/
theorem State.bankRefused_of_stopped {g : Nat} (hmode : s.mode = .test) (hstate : s.chainState g = 0) : s.bankRefused g = none := by
  simp [State.bankRefused, hmode, hstate]

/-- R115: the choice of banks is taken where all three are valid. -/
theorem fltBankWriteEff_of_stopped {g : Nat} (hjudge : s.judge r (FLT_BANK g) = .allowed) (hmode : s.mode = .test)
    (hstate : s.chainState g = 0) (v : Nat) :
    fltBankWriteEff r g v s =
      if (upto 3).all (fun st => bitN (s.getF (FLT_GSTAT_VALID g)) (st * 2 + b2n (bitN v st))) then
        (s.wr (FLT_BANK g) (BitVec.ofNat 32 (v % 8))).recordWrite r (FLT_BANK g) .ok
      else s.recordWrite r (FLT_BANK g) .bankInvalid := by
  have hfree := State.bankRefused_of_stopped hmode hstate
  have hany := List.not_all_eq_any_not (l := upto 3) (p := fun st => bitN (s.getF (FLT_GSTAT_VALID g)) (st * 2 + b2n (bitN v st)))
  split
  case isTrue hvalid => exact State.hostWrite_of_ok hjudge (by simp [State.fltBankW, hfree, ← hany, hvalid])
  case isFalse hinvalid =>
    exact State.hostWrite_of_refused hjudge (s' := s) (by simp [State.fltBankW, hfree, ← hany, hinvalid]) (by simp)

/-- R89: the words of a set, filled up with zeros to its length. -/
theorem padded_words (ws : List Int) (n : Nat) :
    (if ws.length < n then ws ++ List.replicate (n - ws.length) 0 else ws) = ws ++ List.replicate (n - ws.length) 0 := by
  split
  case isTrue => rfl
  case isFalse h => rw [Nat.sub_eq_zero_of_le (Nat.not_lt.1 h), List.replicate_zero, List.append_nil]

/-- R121: the coefficient word FLT_CADDR names is stored, its set is valid no longer, and the index moves on. -/
def State.cdataStored (s : State) (v : Nat) : State :=
  let g := s.getF FLT_CADDR_GRP
  let st := s.getF FLT_CADDR_STG
  let b := s.getF FLT_CADDR_BANK
  let i := s.getF FLT_CADDR_IDX
  let k := s.bank g st b
  (s.setBank g st b
    { words := lset (k.words ++ List.replicate (setLen st - k.words.length) 0) i (sext 24 v)
      have_ := if k.have_.contains i then k.have_ else i :: k.have_, full := false }).incWrap FLT_CADDR_IDX

/-- R115, R121: a coefficient word is refused beyond the length of its set, and else stored. -/
theorem fltCdataWriteEff_of_stopped (hjudge : s.judge r FLT_CDATA = .allowed) (hmode : s.mode = .test)
    (hstate : s.chainState (s.getF FLT_CADDR_GRP) = 0) (v : Nat) :
    fltCdataWriteEff r v s =
      if setLen (s.getF FLT_CADDR_STG) ≤ s.getF FLT_CADDR_IDX then s.recordWrite r FLT_CDATA .lenRange
      else (s.cdataStored v).recordWrite r FLT_CDATA .ok := by
  have heff : State.fltCdataW v s =
      if setLen (s.getF FLT_CADDR_STG) ≤ s.getF FLT_CADDR_IDX then (.lenRange, s) else (.ok, s.cdataStored v) := by
    simp only [State.fltCdataW, State.bankRefused_of_stopped hmode hstate, padded_words, State.cdataStored]
  split
  case isTrue hlen => exact State.hostWrite_of_refused hjudge (heff.trans (if_pos hlen)) (by simp)
  case isFalse hlen => exact State.hostWrite_of_ok hjudge (heff.trans (if_neg hlen))

/-- R90, R115: COMMIT makes the set FLT_CADDR names valid where it is complete and passes the checks of its taps. -/
theorem fltCcmtCommitEff_of_stopped (hjudge : s.judge r FLT_CCMT = .allowed) (hmode : s.mode = .test)
    (hstate : s.chainState (s.getF FLT_CADDR_GRP) = 0) :
    let g := s.getF FLT_CADDR_GRP
    let st := s.getF FLT_CADDR_STG
    let b := s.getF FLT_CADDR_BANK
    fltCcmtCommitEff r s =
      if (s.bank g st b).have_.length < setLen st then s.recordWrite r FLT_CCMT .lenRange
      else if setOk st (s.bank g st b) = true then
        (s.setBank g st b { s.bank g st b with full := true }).recordWrite r FLT_CCMT .ok
      else s.recordWrite r FLT_CCMT .valueRange := by
  intro g st b
  have hcommit : bitN 1 0 = true := rfl
  have heff : State.fltCcmtW 1 s =
      if (s.bank g st b).have_.length < setLen st then (.lenRange, s)
      else if setOk st (s.bank g st b) = true then (.ok, s.setBank g st b { s.bank g st b with full := true })
      else (.valueRange, s) := by
    simp only [State.fltCcmtW, hcommit, State.bankRefused_of_stopped hmode hstate, g, st, b, Bool.not_true, Bool.false_eq_true,
      if_false, Bool.not_eq_true', ite_not, ← Bool.not_eq_true]
  by_cases hlen : (s.bank g st b).have_.length < setLen st
  · rw [if_pos hlen] at heff ⊢
    exact State.hostWrite_of_refused hjudge heff (by simp)
  · rw [if_neg hlen] at heff ⊢
    split
    case isTrue hok => exact State.hostWrite_of_ok hjudge (heff.trans (if_pos hok))
    case isFalse hok => exact State.hostWrite_of_refused hjudge (heff.trans (if_neg hok)) (by simp)

/-! ### Trims and the phasor mirror (R95, R121) -/

/-- R95: in TEST a trim of at most 2,000 ns to either side is kept for the next stage-2 output. -/
theorem fltTrimWriteEff_of_test {c : Nat} (hjudge : s.judge r (FLT_TRIM c) = .allowed) (hmode : s.mode = .test) (v : Nat) :
    fltTrimWriteEff r c v s =
      if -2000 ≤ sext 12 v ∧ sext 12 v ≤ 2000 then
        ((s.setFch c { s.fch c with trimReq := true }).setF (FLT_TRIM_TRIM c) v).recordWrite r (FLT_TRIM c) .ok
      else s.recordWrite r (FLT_TRIM c) .valueRange := by
  split
  case isTrue hrange =>
    obtain ⟨hlow, hhigh⟩ := hrange
    exact State.hostWrite_of_ok hjudge (by simp [State.fltTrimW, hmode, Int.not_lt.2 hlow, Int.not_lt.2 hhigh])
  case isFalse hrange =>
    have hout : sext 12 v < -2000 ∨ 2000 < sext 12 v := by omega
    exact State.hostWrite_of_refused hjudge (s' := s) (by simp [State.fltTrimW, hmode, hout]) (by simp)

/-- R121: a write of FLT_PHSEL is always taken, and loads the mirror where it names another channel. -/
theorem fltPhselWriteEff_of_allowed (hjudge : s.judge r FLT_PHSEL = .allowed) (v : Nat) :
    fltPhselWriteEff r v s =
      (let b := s.wr FLT_PHSEL (BitVec.ofNat 32 (v % 256))
       if b.getF FLT_PHSEL_CH = s.getF FLT_PHSEL_CH then b else b.mirrorPh).recordWrite r FLT_PHSEL .ok :=
  State.hostWrite_of_ok hjudge rfl

end Writes

/-! ### The commands -/

theorem exec_fltStop_eq (t : Nat) (r : Requester) (g : Nat) (s : State) :
    exec (.fltStop t r g) s = .next (if g < 8 ∧ (s.at t).trAlive (reqIdx r) = true then fltStopEff r g (s.at t) else s.at t) := by
  simp [exec_fltStop]

theorem exec_fltStart_eq (t : Nat) (r : Requester) (g : Nat) (s : State) :
    exec (.fltStart t r g) s = .next (if g < 8 ∧ (s.at t).trAlive (reqIdx r) = true then fltStartEff r g (s.at t) else s.at t) := by
  simp [exec_fltStart]

theorem exec_chainStopTaken_eq (t g : Nat) (s : State) :
    exec (.chainStopTaken t g) s = .next (if g < 8 then chainStopTakenEff g (s.at t) else s.at t) := by
  simp [exec_chainStopTaken]

theorem exec_syncReset_eq (t g : Nat) (s : State) :
    exec (.syncReset t g) s = .next (if g < 8 then syncResetEff g (s.at t) else s.at t) := by
  simp [exec_syncReset]

theorem exec_fltBankWrite_eq (t : Nat) (r : Requester) (g v : Nat) (s : State) :
    exec (.fltBankWrite t r g v) s =
      .next (if g < 8 ∧ (s.at t).trAlive (reqIdx r) = true then fltBankWriteEff r g v (s.at t) else s.at t) := by
  simp [exec_fltBankWrite]

theorem exec_fltTrimWrite_eq (t : Nat) (r : Requester) (c v : Nat) (s : State) :
    exec (.fltTrimWrite t r c v) s =
      .next (if c < 128 ∧ (s.at t).trAlive (reqIdx r) = true then fltTrimWriteEff r c v (s.at t) else s.at t) := by
  simp [exec_fltTrimWrite]

/-- Settles O6: each clause is the lemma above that states its effect, behind the equation of its command. -/
theorem chainStopsAndStarts : Obligations.ChainStopsAndStarts := by
  unfold Obligations.ChainStopsAndStarts
  refine ⟨?control, ?taken, ?reset, ?writes, exec_fltStop_eq, exec_fltStart_eq, exec_chainStopTaken_eq, exec_syncReset_eq,
    exec_fltBankWrite_eq, exec_fltCdataWrite, exec_fltCcmtCommit, exec_fltTrimWrite_eq, exec_fltPhselWrite⟩
  case control =>
    intro t g r s a hg halive hjudge
    exact ⟨exec_of_guard (exec_fltStop_eq t r g s) ⟨hg, halive⟩ (fltStopEff_of_allowed hjudge),
      fun hstate hruns => exec_of_guard (exec_fltStart_eq t r g s) ⟨hg, halive⟩ (fltStartEff_of_stopped hjudge hstate hruns),
      fun hstate => exec_of_guard (exec_fltStart_eq t r g s) ⟨hg, halive⟩ (fltStartEff_of_running hjudge hstate)⟩
  case taken =>
    intro t g s a hg hruns hasked hstrobe hnone
    obtain ⟨hstopped, hpend, hchans, hrequests⟩ := chainStopTakenEff_of_due ⟨hruns, hasked, hstrobe, hnone⟩
    have hana : (chainStopTakenEff g a).ana = a.ana := by simp [chainStopTakenEff_frame]
    exact ⟨_, exec_of_guard (exec_chainStopTaken_eq t g s) hg rfl, hstopped, hpend, hchans, hana,
      fun hlen => hrequests (hlen.symm ▸ hg)⟩
  case reset =>
    intro t g s a hg hruns hstrobe hasked
    exact ⟨_, exec_of_guard (exec_syncReset_eq t g s) hg (syncResetEff_of_due ⟨hruns, hstrobe, hasked⟩),
      a.syncReset_chainState g, a.syncReset_pend g, fun c hc hlen hgroup => State.syncReset_emptied hc hlen hgroup⟩
  case writes =>
    intro t r s a halive
    refine ⟨fun g v hg hjudge hmode hstate => ?bank, ?cdata, ?commit,
      fun c v hc hjudge hmode => ?trim, fun v hjudge => ?phsel⟩
    case bank => exact exec_of_guard (exec_fltBankWrite_eq t r g v s) ⟨hg, halive⟩ (fltBankWriteEff_of_stopped hjudge hmode hstate v)
    case cdata =>
      intro v g st b i k hjudge hmode hstate
      exact exec_of_guard (exec_fltCdataWrite t r v s) halive (fltCdataWriteEff_of_stopped hjudge hmode hstate v)
    case commit =>
      intro g st b hjudge hmode hstate
      exact exec_of_guard (exec_fltCcmtCommit t r s) halive (fltCcmtCommitEff_of_stopped hjudge hmode hstate)
    case trim => exact exec_of_guard (exec_fltTrimWrite_eq t r c v s) ⟨hc, halive⟩ (fltTrimWriteEff_of_test hjudge hmode v)
    case phsel => exact exec_of_guard (exec_fltPhselWrite t r v s) halive (fltPhselWriteEff_of_allowed hjudge v)

end Sys2Proof.Machine

/-!
Fields written one after another: each field of a list that share no bit reads as what was written to it, and every other field as before.
-/
namespace Sys2Proof.Machine

/-- Two fields share no bit of a register. -/
def Field.Apart (f g : Field) : Prop := f.addr ≠ g.addr ∨ f.lo + f.width ≤ g.lo ∨ g.lo + g.width ≤ f.lo

theorem Field.Apart.symm {f g : Field} (h : f.Apart g) : g.Apart f := by
  unfold Field.Apart at h ⊢
  omega

/-- A field lies within its register. -/
def Field.Fits (f : Field) : Prop := f.lo + f.width ≤ 32

/-- The state in which fields have been set one after another. -/
def State.setFs (s : State) (l : List (Field × Nat)) : State := l.foldl (fun s e => s.setF e.1 e.2) s

section Writes
variable {s : State} {l : List (Field × Nat)} {f g : Field}

theorem State.getF_setF_apart (hf : f.Fits) (h : g.Apart f) (v : Nat) : (s.setF f v).getF g = s.getF g :=
  State.getF_setF_other s f g v hf h

theorem State.rd_setFs {a : Nat} (h : ∀ e ∈ l, a ≠ e.1.addr) : (s.setFs l).rd a = s.rd a :=
  State.rd_foldl l _ a s fun e he s => State.rd_setF_other s e.1 e.2 a (h e he)

theorem State.getF_setFs_apart (h : ∀ e ∈ l, e.1.Fits ∧ g.Apart e.1) : (s.setFs l).getF g = s.getF g := by
  induction l generalizing s with
  | nil => rfl
  | cons e l ih =>
    obtain ⟨hfits, hapart⟩ := h e List.mem_cons_self
    exact (ih fun e' he' => h e' (List.mem_cons_of_mem e he')).trans (State.getF_setF_apart hfits hapart e.2)

/-- A field of the list keeps what was written to it, since no later write shares a bit with it. -/
theorem State.getF_setFs_mem {v : Nat} (hfits : ∀ e ∈ l, e.1.Fits) (hapart : l.Pairwise fun e e' => e.1.Apart e'.1)
    (hmem : (f, v) ∈ l) : (s.setFs l).getF f = v % 2 ^ f.width := by
  induction l generalizing s with
  | nil => exact absurd hmem List.not_mem_nil
  | cons e l ih =>
    obtain ⟨hhead, htail⟩ := List.pairwise_cons.1 hapart
    have hfitsTail : ∀ e' ∈ l, e'.1.Fits := fun e' he' => hfits e' (List.mem_cons_of_mem e he')
    rcases List.mem_cons.1 hmem with rfl | hlater
    · exact (State.getF_setFs_apart fun e' he' => ⟨hfitsTail e' he', hhead e' he'⟩).trans
        (State.getF_setF_same s f v (hfits _ List.mem_cons_self))
    · exact ih hfitsTail htail hlater

/-- A state changed in one field only, or not at all, reads every field apart from it the same. -/
theorem State.getF_ite_setF_apart {c : Prop} [Decidable c] (hf : f.Fits) (h : g.Apart f) (v : Nat) :
    (if c then s.setF f v else s).getF g = s.getF g := by
  split
  · exact State.getF_setF_apart hf h v
  · rfl

end Writes

@[simp] theorem State.setFs_prt (s : State) (l : List (Field × Nat)) : (s.setFs l).prt = s.prt := by
  induction l generalizing s with
  | nil => rfl
  | cons e l ih => exact (ih _).trans (by simp [State.setF_frame])

theorem b2n_mod_two (b : Bool) : b2n b % 2 ^ 1 = b2n b := by cases b <;> rfl

theorem State.flag_of_getF {s : State} {f : Field} {b : Bool} (h : s.getF f = b2n b) : s.flag f = b := by
  rw [State.flag, h]
  cases b <;> rfl

end Sys2Proof.Machine

/-!
The status word of an evaluated element (R132, R169): what a publication writes, field by field, and what it leaves.
-/
namespace Sys2Proof.Machine

/-- Three phases spell a number of three bits. -/
theorem phBits_lt (l : List Bool) : phBits l < 8 := by
  have hbit (b : Bool) : b2n b ≤ 1 := by cases b <;> decide
  have h0 := hbit (lget false l 0)
  have h1 := hbit (lget false l 1)
  have h2 := hbit (lget false l 2)
  unfold phBits
  omega

/-- R6: the code of a tag has four bits. -/
theorem tagCode_lt (t : Tag) : tagCode t < 16 := by cases t <;> decide

/-- R169: what a publication writes to the status word beside OPCNT, with the direction and the group it shows. -/
def statusWrites (i : Nat) (x : InstInt) (dir grp : Nat) : List (Field × Nat) :=
  [(PRT_ST_PU i, b2n (phBits (x.ph.map (·.pu)) != 0)), (PRT_ST_OP i, b2n (phBits (x.ph.map (·.op)) != 0)),
    (PRT_ST_PH_PU i, phBits (x.ph.map (·.pu))), (PRT_ST_PH_OP i, phBits (x.ph.map (·.op))), (PRT_ST_DIR i, dir),
    (PRT_ST_HELD i, b2n x.held), (PRT_ST_BLOCKED i, b2n x.blocked), (PRT_ST_GRP i, grp), (PRT_ST_TAG i, tagCode x.tag),
    (PRT_ST_AUX i, b2n x.op2)]

/-- R169: OP rises with a publication. -/
def State.opRises (s : State) (i : Nat) (x : InstInt) : Bool := phBits (x.ph.map (·.op)) != 0 && !s.flag (PRT_ST_OP i)

/-- R169: a publication replaces the internal state of the element, writes the status word, counts a rise of OP and shows the accumulator. -/
theorem State.publish_eq (s : State) (i : Nat) (x : InstInt) : ∃ dir grp acc : Nat,
    s.publish i x =
      (let b := (s.setInst i x).setFs (statusWrites i x dir grp)
       (if s.opRises i x then b.setF (PRT_ST_OPCNT i) (b.getF (PRT_ST_OPCNT i) + 1) else b).setF (PRT_ACC_ACC i) acc) :=
  ⟨_, _, _, rfl⟩

/-- The fields of the status word share no bit, and none lies in the accumulator's register. -/
theorem statusWrites_apart (i : Nat) (x : InstInt) (dir grp : Nat) :
    (∀ e ∈ statusWrites i x dir grp, e.1.Fits ∧ e.1.addr = PRT_ST i ∧ e.1.Apart (PRT_ST_OPCNT i)) ∧
      (statusWrites i x dir grp).Pairwise fun e e' => e.1.Apart e'.1 := by
  simp [statusWrites, Field.Fits, Field.Apart, PRT_ST_PU, PRT_ST_OP, PRT_ST_PH_PU, PRT_ST_PH_OP, PRT_ST_DIR, PRT_ST_HELD,
    PRT_ST_BLOCKED, PRT_ST_GRP, PRT_ST_TAG, PRT_ST_AUX, PRT_ST_OPCNT]

theorem fits_PRT_ST_OPCNT (i : Nat) : (PRT_ST_OPCNT i).Fits := Nat.le_refl 32

theorem fits_PRT_ACC_ACC (i : Nat) : (PRT_ACC_ACC i).Fits := Nat.le_refl 32

theorem PRT_ST_ne_PRT_ACC {i j : Nat} (hi : i < 512) : PRT_ST i ≠ PRT_ACC j := by
  simp only [PRT_ST, PRT_ACC]
  omega

section Publish
variable {s : State} {i : Nat} {x : InstInt}

/-- R132, R169: each field written to the status word shows its value. -/
theorem State.getF_publish_of_mem (hi : i < 512) {f : Field} {v : Nat} (hmem : ∀ dir grp, (f, v) ∈ statusWrites i x dir grp) :
    (s.publish i x).getF f = v % 2 ^ f.width := by
  obtain ⟨dir, grp, acc, hpublish⟩ := s.publish_eq i x
  obtain ⟨hall, hpair⟩ := statusWrites_apart i x dir grp
  obtain ⟨hfits, haddr, hopcnt⟩ := hall _ (hmem dir grp)
  have hacc : f.Apart (PRT_ACC_ACC i) := .inl (haddr ▸ PRT_ST_ne_PRT_ACC hi)
  rw [hpublish, State.getF_setF_apart (fits_PRT_ACC_ACC i) hacc, State.getF_ite_setF_apart (fits_PRT_ST_OPCNT i) hopcnt,
    State.getF_setFs_mem (fun e he => (hall e he).1) hpair (hmem dir grp)]

theorem State.flag_publish_of_mem (hi : i < 512) {f : Field} {b : Bool} (hf : f.width = 1)
    (hmem : ∀ dir grp, (f, b2n b) ∈ statusWrites i x dir grp) : (s.publish i x).flag f = b :=
  State.flag_of_getF ((State.getF_publish_of_mem hi hmem).trans (hf ▸ b2n_mod_two b))

/-- R169: OPCNT counts the rises of OP and wraps. -/
theorem State.opcnt_publish (hi : i < 512) :
    (s.publish i x).getF (PRT_ST_OPCNT i) =
      if phBits (x.ph.map (·.op)) ≠ 0 ∧ s.flag (PRT_ST_OP i) = false then (s.getF (PRT_ST_OPCNT i) + 1) % 4096
      else s.getF (PRT_ST_OPCNT i) := by
  obtain ⟨dir, grp, acc, hpublish⟩ := s.publish_eq i x
  have hkept : ((s.setInst i x).setFs (statusWrites i x dir grp)).getF (PRT_ST_OPCNT i) = s.getF (PRT_ST_OPCNT i) :=
    State.getF_setFs_apart fun e he =>
      have ⟨hfits, _, hopcnt⟩ := (statusWrites_apart i x dir grp).1 e he
      ⟨hfits, hopcnt.symm⟩
  have hrises : s.opRises i x = true ↔ phBits (x.ph.map (·.op)) ≠ 0 ∧ s.flag (PRT_ST_OP i) = false := by simp [State.opRises]
  rw [hpublish, State.getF_setF_apart (fits_PRT_ACC_ACC i) (.inl (PRT_ST_ne_PRT_ACC hi)), ← if_congr hrises rfl rfl]
  split
  · exact (State.getF_setF_same _ _ _ (fits_PRT_ST_OPCNT i)).trans (by rw [hkept]; rfl)
  · exact hkept

/-- R169: a publication writes the status word and the accumulator's register alone. -/
theorem State.rd_publish_of_ne {a : Nat} (hst : a ≠ PRT_ST i) (hacc : a ≠ PRT_ACC i) : (s.publish i x).rd a = s.rd a := by
  obtain ⟨dir, grp, acc, hpublish⟩ := s.publish_eq i x
  have hstatus : ((s.setInst i x).setFs (statusWrites i x dir grp)).rd a = s.rd a :=
    State.rd_setFs fun e he => ((statusWrites_apart i x dir grp).1 e he).2.1 ▸ hst
  rw [hpublish, State.rd_setF_other _ _ _ _ hacc]
  split
  · exact (State.rd_setF_other _ _ _ _ hst).trans hstatus
  · exact hstatus

/-- R169: a publication's protection state is what stood before, but for that element. -/
@[simp] theorem State.publish_prt (s : State) (i : Nat) (x : InstInt) : (s.publish i x).prt = (s.setInst i x).prt := by
  obtain ⟨dir, grp, acc, hpublish⟩ := s.publish_eq i x
  have hite := @State.ite_frame
  have hset := @State.setF_frame
  rw [hpublish]
  simp [↓hite, ↓hset]

theorem State.inst_publish_same (s : State) (i : Nat) (x : InstInt) : (s.publish i x).inst i = x := by
  rw [State.inst, State.publish_prt]
  exact s.inst_setInst_same i x

theorem State.inst_publish_other (s : State) {i j : Nat} (h : j ≠ i) (x : InstInt) : (s.publish i x).inst j = s.inst j := by
  rw [State.inst, State.publish_prt]
  exact s.inst_setInst_other i j x h

@[simp] theorem State.bay_publish (s : State) (i : Nat) (x : InstInt) (b : Nat) : (s.publish i x).bay b = s.bay b := by
  rw [State.bay, State.publish_prt]
  rfl

end Publish

end Sys2Proof.Machine

/-!
The timed instants of an element (R133, R134, R139, R145, R152, R153): what each command's effect does, by the conditions of its row.
-/
namespace Sys2Proof.Machine

section Instants
variable {i k : Nat} {s : State}

/-- R133, R145: a phase of an element in evaluation is picked up, has not operated, and may. -/
structure AwaitsOperation (i k : Nat) (s : State) : Prop where
  runs : s.elRuns i = true
  pickedUp : (lget resetPhase (s.inst i).ph k).pu = true
  notOperated : (lget resetPhase (s.inst i).ph k).op = false
  may : (s.elPar i (s.slowLim i)).may = true

/-- R133: an element of definite time whose timer has reached DLY operates. -/
theorem definiteTimeExpiryEff_of_reached (h : AwaitsOperation i k s) (hcrv : (s.elPar i (s.slowLim i)).crv = none)
    (hbf : s.elType i ≠ 0x12) (hinrush : s.elType i ≠ 0x14) (hfast : s.elType i ≠ 0x01)
    (hdly : (s.elPar i (s.slowLim i)).dly ≤ (lget resetPhase (s.inst i).ph k).timer) :
    definiteTimeExpiryEff i k s = s.phaseEvent i k (fun y => { y with op := true }) := by
  obtain ⟨hruns, hpu, hop, hmay⟩ := h
  exact if_pos (by simp [hruns, hpu, hop, hmay, hcrv, hbf, hinrush, hfast, hdly])

/-- R145: an inverse element whose accumulator has reached 1.0, with TMIN elapsed, operates. -/
theorem inverseTimeOperateEff_of_reached (h : AwaitsOperation i k s) (hcrv : (s.elPar i (s.slowLim i)).crv ≠ none)
    (hacc : 0x40000000 ≤ (lget resetPhase (s.inst i).ph k).acc)
    (hmin : (s.elPar i (s.slowLim i)).dly ≤ (lget resetPhase (s.inst i).ph k).timer) :
    inverseTimeOperateEff i k s = s.phaseEvent i k (fun y => { y with op := true }) := by
  obtain ⟨hruns, hpu, hop, hmay⟩ := h
  exact if_pos (by simp [hruns, hpu, hop, hmay, Option.isSome_iff_ne_none.2 hcrv, hacc, hmin])

/-- R134: TRST after a definite-reset dropout, timer and accumulator go to 0. -/
theorem resetTimeExpiryEff_of_reached {d : Nat} (hruns : s.elRuns i = true)
    (hdrop : (lget resetPhase (s.inst i).ph k).drop = some d) (htrst : s.gp i 3 * usTau ≤ d) :
    resetTimeExpiryEff i k s = s.phaseEvent i k (fun y => { y with timer := 0, acc := 0, drop := none }) := by
  simp [resetTimeExpiryEff, hdrop, hruns, htrst]

/-- R139: the limit of a hold, in fast ticks, in cycles or in slow ticks by the type of the element. -/
def State.holdLimit (s : State) (i : Nat) : Nat :=
  if s.elType i = 0x01 ∨ s.elType i = 0x12 then s.fastLim i
  else if s.elType i = 0x0D ∨ s.elType i = 0x0E then s.hdr i 0 17 7 else s.slowLim i

/-- R139: a phase held for its limit drops out, and event 41 says so. -/
theorem holdLimitExpiryEff_of_held (hruns : s.elRuns i = true) (hlim : s.holdLimit i ≠ 0)
    (hheld : s.holdLimit i ≤ (lget resetPhase (s.inst i).ph k).hold)
    (hup : (lget resetPhase (s.inst i).ph k).pu = true ∨ (lget resetPhase (s.inst i).ph k).op = true) :
    holdLimitExpiryEff i k s = (s.phaseEvent i k clearPhase).holdExpired i (s.inst i).tag := by
  unfold State.holdLimit at hlim hheld
  unfold holdLimitExpiryEff
  simp only [Bool.or_eq_true, decide_eq_true_eq]
  exact if_pos (by simp [hruns, hlim, hheld, hup])

/-- R152: PULSE after its last tick, the pulse of vector shift ends. -/
theorem vectorShiftPulseEndEff_of_elapsed {v : Nat} (hruns : s.elRuns i = true) (hlast : (s.inst i).vsAt = some v)
    (htype : s.elType i = 0x11) (hpulse : v + s.gp i 6 * usU ≤ s.now) :
    vectorShiftPulseEndEff i s = s.publish i
      { s.inst i with vsAt := none, ph := (s.inst i).ph.map (fun p => { p with pu := false, op := false }) } := by
  simp [vectorShiftPulseEndEff, hlast, hruns, htype, hpulse]

/-- R153: breaker failure in evaluation has counted the time `v` with the check true, and may operate. -/
structure BfCounts (i v : Nat) (s : State) : Prop where
  runs : s.elRuns i = true
  time : (s.inst i).bfTime = some v
  type : s.elType i = 0x12
  check : (s.inst i).bfCheck = true
  may : (s.elPar i 0).may = true

/-- R153: at T1 the first output operates. -/
theorem bfRetripTimeEff_of_reached {v : Nat} (h : BfCounts i v s) (ht1 : s.gp i 5 * usTau ≤ v) :
    bfRetripTimeEff i s = s.phaseEvent i 0 (fun y => { y with op := true }) := by
  obtain ⟨hruns, htime, htype, hcheck, hmay⟩ := h
  simp [bfRetripTimeEff, htime, hruns, htype, hcheck, hmay, ht1]

/-- R153: at T2 the second output operates. -/
theorem bfBacktripTimeEff_of_reached {v : Nat} (h : BfCounts i v s) (ht2 : s.gp i 6 * usTau ≤ v) :
    bfBacktripTimeEff i s = s.publish i { s.inst i with op2 := true } := by
  obtain ⟨hruns, htime, htype, hcheck, hmay⟩ := h
  simp [bfBacktripTimeEff, htime, hruns, htype, hcheck, hmay, ht2]

end Instants

/-! ### The commands -/

theorem exec_definiteTimeExpiry_eq (t i k : Nat) (s : State) :
    exec (.definiteTimeExpiry t i k) s =
      .next (if i < 512 ∧ k < 3 then State.offerEdges (s.at t) (definiteTimeExpiryEff i k (s.at t)) else s.at t) := by
  simp [exec_definiteTimeExpiry]

theorem exec_inverseTimeOperate_eq (t i k : Nat) (s : State) :
    exec (.inverseTimeOperate t i k) s =
      .next (if i < 512 ∧ k < 3 then State.offerEdges (s.at t) (inverseTimeOperateEff i k (s.at t)) else s.at t) := by
  simp [exec_inverseTimeOperate]

theorem exec_resetTimeExpiry_eq (t i k : Nat) (s : State) :
    exec (.resetTimeExpiry t i k) s =
      .next (if i < 512 ∧ k < 3 then State.offerEdges (s.at t) (resetTimeExpiryEff i k (s.at t)) else s.at t) := by
  simp [exec_resetTimeExpiry]

theorem exec_holdLimitExpiry_eq (t i k : Nat) (s : State) :
    exec (.holdLimitExpiry t i k) s =
      .next (if i < 512 ∧ k < 3 then State.offerEdges (s.at t) (holdLimitExpiryEff i k (s.at t)) else s.at t) := by
  simp [exec_holdLimitExpiry]

theorem exec_vectorShiftPulseEnd_eq (t i : Nat) (s : State) :
    exec (.vectorShiftPulseEnd t i) s =
      .next (if i < 512 then State.offerEdges (s.at t) (vectorShiftPulseEndEff i (s.at t)) else s.at t) := by
  simp [exec_vectorShiftPulseEnd]

theorem exec_bfRetripTime_eq (t i : Nat) (s : State) :
    exec (.bfRetripTime t i) s = .next (if i < 512 then State.offerEdges (s.at t) (bfRetripTimeEff i (s.at t)) else s.at t) := by
  simp [exec_bfRetripTime]

theorem exec_bfBacktripTime_eq (t i : Nat) (s : State) :
    exec (.bfBacktripTime t i) s = .next (if i < 512 then State.offerEdges (s.at t) (bfBacktripTimeEff i (s.at t)) else s.at t) := by
  simp [exec_bfBacktripTime]

/-- Settles O7: each clause is the lemma above that states its effect, behind the equation of its command. -/
theorem elementInstants : Obligations.ElementInstants := by
  unfold Obligations.ElementInstants
  refine ⟨?publish, ?operate, ?reset, ?hold, ?pulse, ?breaker, exec_definiteTimeExpiry_eq, exec_inverseTimeOperate_eq,
    exec_resetTimeExpiry_eq, exec_holdLimitExpiry_eq, exec_vectorShiftPulseEnd_eq, exec_bfRetripTime_eq, exec_bfBacktripTime_eq⟩
  case publish =>
    intro s i x hi b pu op
    have hflag {f : Field} {v : Bool} := State.flag_publish_of_mem (s := s) (x := x) (f := f) (b := v) hi
    have hfield {f : Field} {v : Nat} (hv : v < 2 ^ f.width) (hmem) :=
      (State.getF_publish_of_mem (s := s) (x := x) (f := f) hi hmem).trans (Nat.mod_eq_of_lt hv)
    refine ⟨s.inst_publish_same i x, hflag rfl ?_, hflag rfl ?_, hfield (phBits_lt _) ?_, hfield (phBits_lt _) ?_, hflag rfl ?_,
      hflag rfl ?_, hflag rfl ?_, hfield (tagCode_lt _) ?_, State.opcnt_publish hi, by simp [b, State.publish_frame],
      by simp [b, State.publish_frame], fun j hj => s.inst_publish_other hj x, fun a hst hacc => State.rd_publish_of_ne hst hacc⟩
    all_goals simp [statusWrites, pu, op]
  case operate =>
    intro t i k s a x p hi hk hruns hpu hop hmay
    have hawaits : AwaitsOperation i k a := ⟨hruns, hpu, hop, hmay⟩
    exact ⟨fun hcrv hbf hinrush hfast hdly => exec_of_guard (exec_definiteTimeExpiry_eq t i k s) ⟨hi, hk⟩
        (congrArg _ (definiteTimeExpiryEff_of_reached hawaits hcrv hbf hinrush hfast hdly)),
      fun hcrv hacc hmin => exec_of_guard (exec_inverseTimeOperate_eq t i k s) ⟨hi, hk⟩
        (congrArg _ (inverseTimeOperateEff_of_reached hawaits hcrv hacc hmin))⟩
  case reset =>
    intro t i k d s a hi hk hruns hdrop htrst
    exact exec_of_guard (exec_resetTimeExpiry_eq t i k s) ⟨hi, hk⟩ (congrArg _ (resetTimeExpiryEff_of_reached hruns hdrop htrst))
  case hold =>
    intro t i k s a x ty lim hi hk hruns hlim hheld hup
    exact exec_of_guard (exec_holdLimitExpiry_eq t i k s) ⟨hi, hk⟩ (congrArg _ (holdLimitExpiryEff_of_held hruns hlim hheld hup))
  case pulse =>
    intro t i v s a hi hruns hlast htype hpulse
    exact exec_of_guard (exec_vectorShiftPulseEnd_eq t i s) hi
      (congrArg _ (vectorShiftPulseEndEff_of_elapsed hruns hlast htype hpulse))
  case breaker =>
    intro t i v s a hi hruns htime htype hcheck hmay
    have hcounts : BfCounts i v a := ⟨hruns, htime, htype, hcheck, hmay⟩
    exact ⟨fun ht1 => exec_of_guard (exec_bfRetripTime_eq t i s) hi (congrArg _ (bfRetripTimeEff_of_reached hcounts ht1)),
      fun ht2 => exec_of_guard (exec_bfBacktripTime_eq t i s) hi (congrArg _ (bfBacktripTimeEff_of_reached hcounts ht2))⟩

end Sys2Proof.Machine

/-!
Cold load and the busbar zones (R155 to R158): what each command's effect does, by the conditions of its row, and the members of a zone.
-/
namespace Sys2Proof.Machine

/-! ### Cold load (R155) -/

/-- R155: at an evaluation of the bay's CLP element that may run, cold load begins or ends. -/
theorem coldLoadEntryEff_of_runs {b i : Nat} {s : State} (hclp : s.clpOf b = some i) (hruns : s.elRuns i = true)
    (hfree : s.elBlocked i = false) : coldLoadEntryEff b s = s.evalClp i := by
  unfold coldLoadEntryEff
  rw [hclp]
  exact if_pos (by simp [hruns, hfree])

/-- R155: the state in which cold load has begun in the bay of an element, for the settings' time. -/
def State.enterColdLoad (s : State) (i : Nat) : State :=
  (s.setBay (s.elBay i) { s.bay (s.elBay i) with
    openAt := none, coldEnd := some (s.now + s.gp i 6 * usU), clpf := s.gp i 0 }).setFlag (PRT_BSTAT_CLP (s.elBay i)) true

@[simp] theorem State.bay_setFlag (s : State) (f : Field) (v : Bool) (b : Nat) : (s.setFlag f v).bay b = s.bay b := by
  simp [State.bay, State.setFlag_frame]

theorem State.coldEnd_enterColdLoad {s : State} {i : Nat} (hbay : s.elBay i < s.prt.bays.length) :
    ((s.enterColdLoad i).bay (s.elBay i)).coldEnd = some (s.now + s.gp i 6 * usU) := by
  rw [State.enterColdLoad, State.bay_setFlag, State.bay_setBay_same _ _ _ hbay]

/-- R155: a breaker that closes after TCOLD open begins cold load, whose end is still to come. -/
theorem State.evalClp_of_closed {s : State} {i o : Nat} (hclosed : s.flag (PRT_BSTAT_CB (s.elBay i)) = true)
    (hopen : (s.bay (s.elBay i)).openAt = some o) (hcold : o + s.gp i 5 * usU ≤ s.now)
    (hread : s.flag (PRT_BAY1_CB_EN (s.elBay i)) = true) (hlasts : s.gp i 6 ≠ 0) (hbay : s.elBay i < s.prt.bays.length) :
    s.evalClp i = (s.enterColdLoad i).publish i
      { (s.enterColdLoad i).inst i with op2 := (s.enterColdLoad i).flag (PRT_BSTAT_CLP (s.elBay i)), blocked := false, tag := .valid } := by
  have hends := State.coldEnd_enterColdLoad hbay
  have hahead : ¬ s.now + s.gp i 6 * usU ≤ (s.enterColdLoad i).now := by
    have hnow : (s.enterColdLoad i).now = s.now := rfl
    have hpos := Nat.mul_pos (Nat.pos_of_ne_zero hlasts) (by decide : 0 < usU)
    omega
  unfold State.enterColdLoad at hends hahead ⊢
  simp only [State.evalClp, hclosed, hopen, hcold, hread, Bool.not_true, Bool.false_eq_true, if_false, decide_true, Bool.and_self,
    if_true, hends, hahead]

/-- R155: at the end of TCLP cold load ends. -/
theorem coldLoadEndEff_of_elapsed {b i e : Nat} {s : State} (hprot : s.protecting = true) (hclp : s.clpOf b = some i)
    (hend : (s.bay b).coldEnd = some e) (helapsed : e ≤ s.now) :
    coldLoadEndEff b s =
      ((s.setBay b { s.bay b with coldEnd := none }).setFlag (PRT_BSTAT_CLP b) false).publish i { s.inst i with op2 := false } := by
  unfold coldLoadEndEff
  rw [hclp, hend]
  exact if_pos (by simp [hprot, helapsed])

/-! ### The members of a zone (R157) -/

/-- The number whose bits below `n` are those `p` says. -/
def bitsBelow (p : Nat → Bool) (n : Nat) : Nat := (upto n).foldl (fun m b => if p b then m + 2 ^ b else m) 0

theorem bitsBelow_succ (p : Nat → Bool) (n : Nat) :
    bitsBelow p (n + 1) = if p n then 2 ^ n + bitsBelow p n else bitsBelow p n := by
  simp [bitsBelow, upto, List.range_succ, Nat.add_comm]

theorem bitsBelow_lt (p : Nat → Bool) (n : Nat) : bitsBelow p n < 2 ^ n := by
  induction n with
  | zero => exact Nat.zero_lt_one
  | succ n ih =>
    rw [bitsBelow_succ, Nat.pow_succ]
    split <;> omega

theorem bitN_eq_testBit (n i : Nat) : bitN n i = n.testBit i := by
  rw [Nat.testBit_eq_decide_div_mod_eq, bitN, beq_eq_decide]

theorem bitN_bitsBelow (p : Nat → Bool) {n b : Nat} (hb : b < n) : bitN (bitsBelow p n) b = p b := by
  rw [bitN_eq_testBit]
  induction n with
  | zero => exact absurd hb (Nat.not_lt_zero b)
  | succ n ih =>
    rw [bitsBelow_succ]
    rcases Nat.lt_succ_iff_lt_or_eq.1 hb with hlow | rfl
    · split
      · rw [Nat.testBit_two_pow_add_gt hlow, ih hlow]
      · exact ih hlow
    · have htop := Nat.testBit_lt_two_pow (bitsBelow_lt p b)
      cases p b
      · exact htop
      · simp [Nat.testBit_two_pow_add_eq, htop]

/-- R157: a bay is a member by its static bit, or by its bit in DYNB while its logic output is true. -/
theorem State.bitN_zoneMembers (s : State) (z : Nat) {b : Nat} (hb : b < 12) :
    bitN (s.zoneMembers z) b =
      (bitN (s.getF (PRT_ZMAP_STAT z)) b || (bitN (s.getF (PRT_ZMAP_DYNB z)) b && s.logicOut (s.getF (PRT_ZCFG_ZDBASE z) + b))) :=
  bitN_bitsBelow _ hb

/-- R157: a change of the members is taken, and starts 256 ticks of blanking. -/
theorem State.zoneBlank_of_change {s : State} {z : Nat} (h : s.zoneMembers z ≠ s.getF (PRT_ZSTAT_MEMB z)) (m : Nat) :
    s.zoneBlank z m =
      ((s.setF (PRT_ZSTAT_MEMB z) (s.zoneMembers z)).setFlag (PRT_ZSTAT_BLANK z) true).setZone z { s.zone z with blank := m + 256 } :=
  if_pos (bne_iff_ne.2 h)

/-! ### A zone operates, its blanking ends, its alarm (R156 to R158) -/

section Zones
variable {z k : Nat} {s : State}

/-- R156, R157: a zone is evaluated: protection runs, the pod that holds the zones runs, and the zone is enabled. -/
structure ZoneRuns (z : Nat) (s : State) : Prop where
  protecting : s.protecting = true
  pod : s.podRuns 1 = true
  enabled : s.flag (PRT_ZCFG_ZEN z) = true

/-- R156: a phase of a zone with NCON ticks of pickup operates, where the check zone, if there is one, operates too. -/
theorem zoneNconReachedEff_of_reached (h : ZoneRuns z s) (hpu : (lget resetZonePh (s.zone z).ph k).pu = true)
    (hncon : s.getF (PRT_ZCFG_NCON z) ≤ (lget resetZonePh (s.zone z).ph k).cnt) (hblank : s.flag (PRT_ZSTAT_BLANK z) = false)
    (hcheck : z = 1 ∨ s.flag (PRT_ZCFG_CHK 1) = false ∨ (lget resetZonePh (s.zone 1).ph k).op = true) :
    zoneNconReachedEff z k s = s.setZone z { s.zone z with ph := lmod (s.zone z).ph k (fun y => { y with op := true }) } := by
  obtain ⟨hprot, hpod, hen⟩ := h
  refine if_pos ?_
  rcases hcheck with rfl | hnone | hoperates
  · simp [hprot, hpod, hen, hpu, hncon, hblank]
  · simp [hprot, hpod, hen, hpu, hncon, hblank, hnone]
  · simp [hprot, hpod, hen, hpu, hncon, hblank, hoperates]

/-- R156, R157: no phase operates in the blanked time, nor a phase of Z0 without its check zone. -/
theorem zoneNconReachedEff_of_refused (h : s.flag (PRT_ZSTAT_BLANK z) = true ∨
      (z = 0 ∧ s.flag (PRT_ZCFG_CHK 1) = true ∧ (lget resetZonePh (s.zone 1).ph k).op = false)) :
    zoneNconReachedEff z k s = s := by
  refine if_neg ?_
  rcases h with hblank | ⟨rfl, hchk, hop⟩
  · simp [hblank]
  · simp [hchk, hop]

/-- R157: the blanked time of a zone ends with its last tick. -/
theorem zoneBlankEndEff_of_elapsed (hblank : s.flag (PRT_ZSTAT_BLANK z) = true) (hlast : (s.zone z).blank ≤ s.flt.cur.m) :
    zoneBlankEndEff z s = s.setFlag (PRT_ZSTAT_BLANK z) false :=
  if_pos (by simp [hblank, hlast])

/-- R158, log entry 112: Id of a phase at or above IDALM for TALM sets the alarm, and event 42 names the phases. -/
theorem State.zoneAlarm_of_elapsed {v : Nat} (hset : s.getF (PRT_ZIDALM_IDALM z) ≠ 0) (hphase : ∃ p ∈ (s.zone z).ph, p.alm = some v)
    (htalm : s.getF (PRT_ZTALM_TALM z) * 1000 * usTau ≤ v) (hnew : s.flag (PRT_ZSTAT_ALM z) = false) :
    s.zoneAlarm z = (s.setFlag (PRT_ZSTAT_ALM z) true).raise 42 z (phBits ((s.zone z).ph.map (·.alm.isSome))) := by
  obtain ⟨p, hmem, halm⟩ := hphase
  have hsome : ¬ (s.zone z).ph.all (fun p => p.alm.isNone) = true := fun hnone => by
    simpa [halm] using List.all_eq_true.1 hnone p hmem
  have hreached : ((s.zone z).ph.any (fun p =>
      match p.alm with | some t => decide (s.getF (PRT_ZTALM_TALM z) * 1000 * usTau ≤ t) | none => false)) = true :=
    List.any_eq_true.2 ⟨p, hmem, by simp [halm, htalm]⟩
  unfold State.zoneAlarm
  dsimp only
  rw [if_neg hset, if_neg hsome, if_pos (by rw [hnew]; exact Bool.and_eq_true_iff.2 ⟨hreached, rfl⟩)]

theorem zoneAlarmTimeEff_of_runs (h : ZoneRuns z s) : zoneAlarmTimeEff z s = s.zoneAlarm z := by
  obtain ⟨hprot, hpod, hen⟩ := h
  exact if_pos (by simp [hprot, hpod, hen])

end Zones

/-! ### The commands -/

theorem exec_coldLoadEntry_eq (t b : Nat) (s : State) :
    exec (.coldLoadEntry t b) s = .next (if b < 12 then State.offerEdges (s.at t) (coldLoadEntryEff b (s.at t)) else s.at t) := by
  simp [exec_coldLoadEntry]

theorem exec_coldLoadEnd_eq (t b : Nat) (s : State) :
    exec (.coldLoadEnd t b) s = .next (if b < 12 then State.offerEdges (s.at t) (coldLoadEndEff b (s.at t)) else s.at t) := by
  simp [exec_coldLoadEnd]

theorem exec_zoneNconReached_eq (t z k : Nat) (s : State) :
    exec (.zoneNconReached t z k) s =
      .next (if z < 2 ∧ k < 3 then State.offerEdges (s.at t) (zoneNconReachedEff z k (s.at t)) else s.at t) := by
  simp [exec_zoneNconReached]

theorem exec_zoneBlankEnd_eq (t z : Nat) (s : State) :
    exec (.zoneBlankEnd t z) s = .next (if z < 2 then State.offerEdges (s.at t) (zoneBlankEndEff z (s.at t)) else s.at t) := by
  simp [exec_zoneBlankEnd]

theorem exec_zoneAlarmTime_eq (t z : Nat) (s : State) :
    exec (.zoneAlarmTime t z) s = .next (if z < 2 then State.offerEdges (s.at t) (zoneAlarmTimeEff z (s.at t)) else s.at t) := by
  simp [exec_zoneAlarmTime]

/-- Settles O8: each clause is the lemma above that states its effect, behind the equation of its command. -/
theorem coldLoadAndZones : Obligations.ColdLoadAndZones := by
  unfold Obligations.ColdLoadAndZones
  refine ⟨?entry, ?closed, ?coldEnd, ?operate, ?refused, fun z b s hb => s.bitN_zoneMembers z hb,
    fun z m s hchange => State.zoneBlank_of_change hchange m, ?blankEnd, ?alarm, exec_coldLoadEntry_eq, exec_coldLoadEnd_eq,
    exec_zoneNconReached_eq, exec_zoneBlankEnd_eq, exec_zoneAlarmTime_eq⟩
  case entry =>
    intro t b i s a hb hclp hruns hfree
    exact exec_of_guard (exec_coldLoadEntry_eq t b s) hb (congrArg _ (coldLoadEntryEff_of_runs hclp hruns hfree))
  case closed =>
    intro i o s b hclosed hopen hcold hread hlasts hbay
    exact State.evalClp_of_closed hclosed hopen hcold hread hlasts hbay
  case coldEnd =>
    intro t b i e s a hb hprot hclp hend helapsed
    exact exec_of_guard (exec_coldLoadEnd_eq t b s) hb (congrArg _ (coldLoadEndEff_of_elapsed hprot hclp hend helapsed))
  case operate =>
    intro t z k s a p hz hk hprot hpod hen hpu hncon hblank hcheck
    exact exec_of_guard (exec_zoneNconReached_eq t z k s) ⟨hz, hk⟩
      (congrArg _ (zoneNconReachedEff_of_reached ⟨hprot, hpod, hen⟩ hpu hncon hblank hcheck))
  case refused =>
    intro t z k s a hz hk hrefused
    exact exec_of_guard (exec_zoneNconReached_eq t z k s) ⟨hz, hk⟩
      ((congrArg _ (zoneNconReachedEff_of_refused hrefused)).trans a.offerEdges_self)
  case blankEnd =>
    intro t z s a hz hblank hlast
    exact exec_of_guard (exec_zoneBlankEnd_eq t z s) hz (congrArg _ (zoneBlankEndEff_of_elapsed hblank hlast))
  case alarm =>
    intro t z v s a hz hprot hpod hen hset hphase htalm hnew
    exact exec_of_guard (exec_zoneAlarmTime_eq t z s) hz
      (congrArg _ ((zoneAlarmTimeEff_of_runs ⟨hprot, hpod, hen⟩).trans (State.zoneAlarm_of_elapsed hset hphase htalm hnew)))

end Sys2Proof.Machine

/-!
Incremental surge elements and setting groups (R129, R130, R154, R159 to R163): what each command's effect and the intake of a result do, by
the conditions of their rows.
-/
namespace Sys2Proof.Machine

/-! ### Inception and the search window (R159 to R162) -/

section Surge
variable {b k i : Nat} {s : State}

/-- R138: the tags of the five samples that name an inception. -/
def State.inceptionTags (s : State) (b : Nat) : List Tag :=
  ((upto 5).map (fun j => s.iseTags b s.flt.nc (s.ana.strobe - 5 + j))).flatten

/-- R138, R159: an inception at the sample five strobes ago: no window is open, the last surge is over, and the inputs may be judged. -/
structure Incepts (b k i : Nat) (s : State) : Prop where
  inst : s.iseOf b = some i
  protecting : s.protecting = true
  history : s.flt.nc + 5 ≤ s.ana.strobe
  physical : s.getF (PRT_BAY0_IPH b) < 48
  noWindow : (s.bay b).ise.inc = none
  lastOver : ∀ l, (s.bay b).ise.last = some l → l.1 + 2 * l.2 ≤ s.ana.strobe - 5
  hit : s.iseHit b i s.flt.nc (s.ana.strobe - 5) k = true
  free : s.elBlocked i = false
  judged : ∀ g ∈ s.inceptionTags b, g ≠ .settling ∧ g ≠ .refUnsettled ∧ g ≠ .missing

theorem any_iseHolds_eq_false {tags : List Tag} (h : ∀ g ∈ tags, g ≠ .settling ∧ g ≠ .refUnsettled ∧ g ≠ .missing) :
    tags.any iseHolds = false :=
  List.any_eq_false.2 fun g hg => by simp [iseHolds, h g hg]

/-- R159, log entry 113: an inception opens the search window for the first of its phases. -/
theorem surgeInceptionEff_of_incepts (h : Incepts b k i s) :
    surgeInceptionEff b k s =
      s.setBay b { s.bay b with ise := { (s.bay b).ise with
        inc := some (s.ana.strobe - 5, ((upto 3).find? (s.iseHit b i s.flt.nc (s.ana.strobe - 5))).getD k, s.flt.nc)
        ovr := (s.inceptionTags b).any (· = .overrange), last := some (s.ana.strobe - 5, s.flt.nc) } } := by
  obtain ⟨hinst, hprot, hhistory, hphysical, hwindow, hlast, hhit, hfree, hjudged⟩ := h
  have hholds : (((upto 5).map (fun j => s.iseTags b s.flt.nc (s.ana.strobe - 5 + j))).flatten).any iseHolds = false :=
    any_iseHolds_eq_false hjudged
  unfold surgeInceptionEff
  rw [hinst]
  refine if_pos ?_
  simp only [hprot, hhistory, hphysical, hwindow, hhit, hfree, hholds, decide_true, Option.isNone_none, Bool.not_false, Bool.and_true,
    Bool.true_and]
  cases hl : (s.bay b).ise.last with
  | none => rfl
  | some l => exact decide_eq_true (hlast l hl)

/-- R154, R159: a phase current without inrush has |Δi| of at least THR, and half of it for four samples more. -/
theorem State.iseHit_of_change {nc n : Nat} (hinrush : s.inrush i (some k) = false)
    (hthr : s.puS i ≤ absN (s.dx (s.getF (PRT_BAY0_IPH b) + k) nc n) * 8192)
    (hhalf : ∀ j, j < 4 → s.puS i ≤ 2 * (absN (s.dx (s.getF (PRT_BAY0_IPH b) + k) nc (n + 1 + j)) * 8192)) :
    s.iseHit b i nc n k = true := by
  simpa [State.iseHit, upto, hinrush, hthr] using hhalf

/-- R160: a direction is forward, reverse or unknown. -/
theorem State.iseDir_range (s : State) (b i nc n ph : Nat) :
    s.iseDir b i nc n ph = 1 ∨ s.iseDir b i nc n ph = 2 ∨ s.iseDir b i nc n ph = 3 := by
  unfold State.iseDir
  split
  · exact .inr (.inr rfl)
  · dsimp only
    split_ifs <;> simp

/-- R162: so is the direction reported, unknown where a sample was out of range. -/
theorem ite_unknown_range {c : Prop} [Decidable c] {d : Nat} (h : d = 1 ∨ d = 2 ∨ d = 3) :
    (if c then 3 else d) = 1 ∨ (if c then 3 else d) = 2 ∨ (if c then 3 else d) = 3 := by
  split
  · exact .inr (.inr rfl)
  · exact h

/-- R159, R162: the instant of an inception, in 2^-32 strobes: where |Δi| crosses THR/2. -/
def State.inceptionAt (s : State) (b k i n nc : Nat) : Int :=
  crossing n (s.puS i) (absN (s.dx (s.getF (PRT_BAY0_IPH b) + k) nc (n - 1)) * 8192)
    (absN (s.dx (s.getF (PRT_BAY0_IPH b) + k) nc n) * 8192)

/-- R162: the search window over, twice LMAX/VPROP behind the inception, what was found waits for the fast tick. -/
theorem iseWindowCloseEff_of_elapsed {n nc : Nat} (hinst : s.iseOf b = some i) (hopen : (s.bay b).ise.inc = some (n, k, nc))
    (hprot : s.protecting = true) (hsamples : n + 16 ≤ s.ana.strobe)
    (hover : s.gp i 4 % 65536 ≠ 0 → ((2 * (s.gp i 4 / 65536) * 1000 * 16 * 4294967296 : Nat) : Int) <
      (s.strobeTime - s.inceptionAt b k i n nc * 15625) * ((s.gp i 4 % 65536 : Nat) : Int)) :
    ∃ r : IseRes, iseWindowCloseEff b s = s.setBay b { s.bay b with ise := { (s.bay b).ise with inc := none, res := some r } } ∧
      r.ph = phBits ((upto 3).map (s.iseHit b i nc n)) ∧ (r.dir = 1 ∨ r.dir = 2 ∨ r.dir = 3) := by
  have hlate : ¬ s.ana.strobe < n + 16 := Nat.not_lt.2 hsamples
  unfold State.inceptionAt at hover
  push_cast at hover
  unfold iseWindowCloseEff
  rw [hinst, hopen]
  dsimp only
  refine ⟨_, if_neg ?late, rfl, ?dir⟩
  case late => simpa [hprot, hlate] using hover
  case dir => exact ite_unknown_range (s.iseDir_range ..)

/-- R163: WIN after it was reported, a forward surge is no longer on record. -/
theorem iseWinExpiryEff_of_elapsed {v : Nat} (hinst : s.iseOf b = some i) (href : s.sys.refPresent = true)
    (hfwd : (s.bay b).ise.fwdAt = some v) (hwin : v + s.gp i 6 * usU ≤ s.now) :
    iseWinExpiryEff b s =
      (s.setBay b { s.bay b with ise := { (s.bay b).ise with fwdAt := none } }).setFlag (PRT_BSTAT_ISE_FWD b) false := by
  unfold iseWinExpiryEff
  rw [hinst, hfwd]
  exact if_pos (by simp [href, hwin])

end Surge

/-! ### The intake of a result (R162, R169) -/

/-- R162, R169: what the intake of a result writes to the registers of its bay beside SURGES. -/
def surgeWrites (b : Nat) (r : IseRes) : List (Field × Nat) :=
  [(PRT_ISE_TLO_NS b, r.ns), (PRT_ISE_THI_SEC b, r.sec), (PRT_ISE_RES_DIR b, r.dir), (PRT_ISE_RES_DVALID b, b2n r.dist.isSome),
    (PRT_ISE_RES_NEW b, b2n true), (PRT_ISE_RES_PH b, r.ph), (PRT_ISE_RES_DIST b, r.dist.getD 0)]

/-- The registers of a surge share no bit, and none holds SURGES. -/
theorem surgeWrites_apart (b : Nat) (r : IseRes) :
    (∀ e ∈ surgeWrites b r, e.1.Fits ∧ e.1.Apart (PRT_ISE_RES_SURGES b)) ∧
      (surgeWrites b r).Pairwise fun e e' => e.1.Apart e'.1 := by
  simp [surgeWrites, Field.Fits, Field.Apart, PRT_ISE_TLO_NS, PRT_ISE_THI_SEC, PRT_ISE_RES_DIR, PRT_ISE_RES_DVALID, PRT_ISE_RES_NEW,
    PRT_ISE_RES_PH, PRT_ISE_RES_DIST, PRT_ISE_RES_SURGES, PRT_ISE_TLO, PRT_ISE_THI, PRT_ISE_RES]

theorem fits_PRT_ISE_RES_SURGES (b : Nat) : (PRT_ISE_RES_SURGES b).Fits := Nat.le_refl 32

theorem fits_PRT_BSTAT_ISE_FWD (b : Nat) : (PRT_BSTAT_ISE_FWD b).Fits := (by decide : 8 + 1 ≤ 32)

/-- R163: the state in which a result waits no longer, and is on record where the surge is forward. -/
def State.surgeRecorded (s : State) (b : Nat) (r : IseRes) : State :=
  let x := (s.bay b).ise
  let c := s.setBay b { s.bay b with ise := { x with res := none, fwdAt := if r.dir = 1 then some s.now else x.fwdAt } }
  if r.dir = 1 then c.setFlag (PRT_BSTAT_ISE_FWD b) true else c

/-- R162: the state in which a result has been taken, before event 43 reports it. -/
def State.surgeTaken (s : State) (b : Nat) (r : IseRes) : State :=
  ((s.surgeRecorded b r).setFs (surgeWrites b r)).incWrap (PRT_ISE_RES_SURGES b)

/-- R162: the fast tick publishes the element and the result that waits, with event 43. -/
theorem State.iseIntake_of_result {s : State} {i : Nat} {r : IseRes} (hfree : s.elBlocked i = false)
    (hres : (s.bay (s.elBay i)).ise.res = some r) :
    ∃ x, s.iseIntake i = ((s.publish i x).surgeTaken (s.elBay i) r).raise 43 (s.elBay i) (r.dist.getD 0 + 65536 * r.dir) := by
  refine ⟨{ s.inst i with
    tag := tagsMax (s.iseTags (s.elBay i) s.flt.nc (s.ana.strobe - 1))
    held := (s.iseTags (s.elBay i) s.flt.nc (s.ana.strobe - 1)).any iseHolds, blocked := false }, ?_⟩
  simp only [State.iseIntake, State.surgeTaken, State.surgeRecorded, hfree, Bool.false_eq_true, if_false, State.bay_publish, hres]
  rfl

section Taken
variable {s : State} {b : Nat} {r : IseRes}

theorem State.new_surgeTaken : (s.surgeTaken b r).flag (PRT_ISE_RES_NEW b) = true := by
  obtain ⟨hall, hpair⟩ := surgeWrites_apart b r
  have hmem : (PRT_ISE_RES_NEW b, b2n true) ∈ surgeWrites b r := by simp [surgeWrites]
  refine State.flag_of_getF ((State.getF_setF_apart (fits_PRT_ISE_RES_SURGES b) (hall _ hmem).2 _).trans ?_)
  exact (State.getF_setFs_mem (fun e he => (hall e he).1) hpair hmem).trans (b2n_mod_two true)

theorem State.surges_surgeRecorded : (s.surgeRecorded b r).getF (PRT_ISE_RES_SURGES b) = s.getF (PRT_ISE_RES_SURGES b) :=
  State.getF_ite_setF_apart (fits_PRT_BSTAT_ISE_FWD b)
    (.inl (by simp only [PRT_ISE_RES_SURGES, PRT_BSTAT_ISE_FWD, PRT_ISE_RES, PRT_BSTAT]; omega)) _

/-- R162: SURGES counts the results and wraps. -/
theorem State.surges_surgeTaken :
    (s.surgeTaken b r).getF (PRT_ISE_RES_SURGES b) = (s.getF (PRT_ISE_RES_SURGES b) + 1) % 256 := by
  have hkept : ∀ e ∈ surgeWrites b r, e.1.Fits ∧ (PRT_ISE_RES_SURGES b).Apart e.1 := fun e he =>
    have ⟨hfits, hapart⟩ := (surgeWrites_apart b r).1 e he
    ⟨hfits, Field.Apart.symm hapart⟩
  refine (State.getF_setF_same _ _ _ (fits_PRT_ISE_RES_SURGES b)).trans ?_
  rw [State.getF_setFs_apart hkept, State.surges_surgeRecorded]
  rfl

end Taken

/-- R162, R169: the registers of a surge are neither the status words nor the accumulators. -/
theorem State.surges_publish (s : State) (i : Nat) (x : InstInt) {b : Nat} (hb : b < 12) :
    (s.publish i x).getF (PRT_ISE_RES_SURGES b) = s.getF (PRT_ISE_RES_SURGES b) :=
  State.getF_of_rd (State.rd_publish_of_ne (by simp only [PRT_ISE_RES_SURGES, PRT_ISE_RES, PRT_ST]; omega)
    (by simp only [PRT_ISE_RES_SURGES, PRT_ISE_RES, PRT_ACC]; omega))

/-! ### Setting groups and setting words (R129, R130) -/

/-- R129: at a boundary after its acceptance a group change takes effect, with event 40 where the group is another. -/
theorem groupChangeEffectEff_of_due {b g m : Nat} {s : State} (hprot : s.protecting = true) (hreq : (s.bay b).grpReq = some (g, m))
    (hlater : m ≠ s.flt.m) :
    groupChangeEffectEff b s =
      (let c := (s.setBay b { s.bay b with grpReq := none }).setFlag (PRT_BSTAT_GRP_PEND b) false
       if g = c.getF (PRT_BSTAT_GRP b) then c
       else ((c.setF (PRT_BSTAT_GRP b) g).incWrap (PRT_BSTAT_GRP_CHG b)).raise 40 b g) := by
  simp only [groupChangeEffectEff, hprot, if_true, State.takeGroup, hreq, hlater, if_false]

/-- R130, log entry 110: at a boundary after its acceptance a setting word takes effect, and the element starts again. -/
theorem settingWriteEffectEff_of_due {i w v m : Nat} {s : State} (hprot : s.protecting = true)
    (hreq : (s.inst i).setReq = [(w, v, m)]) (hlater : m ≠ s.flt.m) :
    settingWriteEffectEff i s =
      (((s.clearOuter i).clearSurge i).wr (PRT_SET i w) (BitVec.ofNat 32 v)).publish i
        { resetInst with
          theta := (s.inst i).theta, v1 := (s.inst i).v1, lastTau := (s.inst i).lastTau, tag := (s.inst i).tag, setReq := [] } := by
  have hflt : (((s.clearOuter i).clearSurge i).wr (PRT_SET i w) (BitVec.ofNat 32 v)).flt = s.flt := by
    simp [State.wr_frame, State.clearSurge_frame, State.clearOuter_frame]
  simp [settingWriteEffectEff, hprot, State.takeSettings, hreq, hlater, hflt]

/-! ### The commands -/

theorem exec_surgeInception_eq (t b k : Nat) (s : State) :
    exec (.surgeInception t b k) s =
      .next (if b < 12 ∧ k < 3 then State.offerEdges (s.at t) (surgeInceptionEff b k (s.at t)) else s.at t) := by
  simp [exec_surgeInception]

theorem exec_iseWindowClose_eq (t b : Nat) (s : State) :
    exec (.iseWindowClose t b) s = .next (if b < 12 then State.offerEdges (s.at t) (iseWindowCloseEff b (s.at t)) else s.at t) := by
  simp [exec_iseWindowClose]

theorem exec_iseWinExpiry_eq (t b : Nat) (s : State) :
    exec (.iseWinExpiry t b) s = .next (if b < 12 then State.offerEdges (s.at t) (iseWinExpiryEff b (s.at t)) else s.at t) := by
  simp [exec_iseWinExpiry]

theorem exec_groupChangeEffect_eq (t b : Nat) (s : State) :
    exec (.groupChangeEffect t b) s =
      .next (if b < 12 then State.offerEdges (s.at t) (groupChangeEffectEff b (s.at t)) else s.at t) := by
  simp [exec_groupChangeEffect]

theorem exec_settingWriteEffect_eq (t i : Nat) (s : State) :
    exec (.settingWriteEffect t i) s =
      .next (if i < 512 then State.offerEdges (s.at t) (settingWriteEffectEff i (s.at t)) else s.at t) := by
  simp [exec_settingWriteEffect]

/-- Settles O9: each clause is the lemma above that states its effect, behind the equation of its command. -/
theorem surgesAndGroups : Obligations.SurgesAndGroups := by
  unfold Obligations.SurgesAndGroups
  refine ⟨?inception, fun b i nc n k s => ?hit, ?window, ?intake, ?winExpiry, ?group, ?setting, exec_surgeInception_eq,
    exec_iseWindowClose_eq, exec_iseWinExpiry_eq, exec_groupChangeEffect_eq, exec_settingWriteEffect_eq⟩
  case inception =>
    intro t b k i s a n nc tags hb hk hinst hprot hhistory hphysical hwindow hlast hhit hfree hjudged
    exact exec_of_guard (exec_surgeInception_eq t b k s) ⟨hb, hk⟩ (congrArg _
      (surgeInceptionEff_of_incepts ⟨hinst, hprot, hhistory, hphysical, hwindow, hlast, hhit, hfree, hjudged⟩))
  case hit => exact State.iseHit_of_change
  case window =>
    intro t b k i n nc s a vp c t1 hb hinst hopen hprot hsamples hover
    obtain ⟨r, hclosed, hph, hdir⟩ := iseWindowCloseEff_of_elapsed hinst hopen hprot hsamples hover
    exact ⟨r, exec_of_guard (exec_iseWindowClose_eq t b s) hb (congrArg _ hclosed), hph, hdir⟩
  case intake =>
    intro i r s b hi hb hfree hres
    obtain ⟨x, hintake⟩ := State.iseIntake_of_result hfree hres
    have hframe : (s.iseIntake i).trp = s.trp ∧ (s.iseIntake i).flt = s.flt := by simp [State.iseIntake_frame]
    rw [hintake] at hframe
    exact ⟨_, hintake, State.new_surgeTaken, State.surges_surgeTaken.trans (by rw [s.surges_publish i x hb]),
      by simpa [State.raise_frame] using hframe⟩
  case winExpiry =>
    intro t b i v s a hb href hinst hfwd hwin
    exact exec_of_guard (exec_iseWinExpiry_eq t b s) hb (congrArg _ (iseWinExpiryEff_of_elapsed hinst href hfwd hwin))
  case group =>
    intro t b g m s a hb hprot hreq hlater
    exact exec_of_guard (exec_groupChangeEffect_eq t b s) hb (congrArg _ (groupChangeEffectEff_of_due hprot hreq hlater))
  case setting =>
    intro t i w v m s a x hi hprot hreq hlater
    exact exec_of_guard (exec_settingWriteEffect_eq t i s) hi (congrArg _ (settingWriteEffectEff_of_due hprot hreq hlater))

end Sys2Proof.Machine

/-!
The fast tick and the slow lists of the pods (R170, R171, R173, R176, R396): what each command's effect does, by the conditions of its
row, and when an entry of a list is evaluated.
-/
namespace Sys2Proof.Machine

/-! ### The fast tick (R170, R171, R396) -/

/-- R18: becoming RUN at a fast tick leaves the start's step and the reference as they were. -/
theorem State.activeAtTick_sys (s : State) :
    s.activeAtTick.sys.step = s.sys.step ∧ s.activeAtTick.sys.refPresent = s.sys.refPresent := by
  have hite := @State.ite_frame
  unfold State.activeAtTick
  split
  · simp [State.toRun, ↓hite, State.dutiesAtActive_frame, State.recAutoArm_frame, State.startFree_frame, State.setProg_frame,
      State.setFlag_frame]
  · exact ⟨rfl, rfl⟩

/-- R27: a start that samples its inputs goes on sampling them as it becomes RUN. -/
theorem State.sampling_activeAtTick {s : State} (h : s.sampling = true) : s.activeAtTick.sampling = true := by
  obtain ⟨hstep, hmode⟩ := Bool.and_eq_true_iff.1 h
  refine Bool.and_eq_true_iff.2 ⟨?_, ?_⟩
  · rwa [s.activeAtTick_sys.1]
  · rcases s.activeAtTick_mode with hkept | ⟨-, hrun⟩
    · rwa [hkept]
    · rw [hrun]
      rfl

/-- R170, R171, R396: at a fast tick the estimate set just formed becomes readable and the heartbeat is due 3.0 µs later; the pods'
evaluation leaves both islands alone. -/
theorem fastTickEff_publishes {s : State} (hsamp : s.sampling = true) (href : s.sys.refPresent = true) :
    (fastTickEff s).flt = { s.flt with geyRead := s.flt.geyNew, geyK := (s.ana.strobe - 1) / 16 } ∧
      (fastTickEff s).oz = { s.oz with hbDue := some (s.now + 48000) } := by
  have hite := @State.ite_frame
  have hfast := @State.evalFast_frame
  have hbf := @State.evalBf_frame
  have hise := @State.iseIntake_frame
  have hbreakers := @State.readBreakers_frame
  have hahead := @State.ahead_frame
  simp [fastTickEff, hsamp, href, ↓hite, ↓hfast, ↓hbf, ↓hise, ↓hbreakers, ↓hahead]

/-- R170, R171, R396: what a fast tick publishes, whether or not the start becomes RUN at it. -/
theorem startTickEff_publishes {s : State} (hsamp : s.sampling = true) (href : s.sys.refPresent = true) :
    (startTickEff s).flt.geyRead = s.flt.geyNew ∧ (startTickEff s).flt.geyK = (s.ana.strobe - 1) / 16 ∧
      (startTickEff s).oz.hbDue = some (s.now + 48000) := by
  obtain ⟨hflt, hoz⟩ := fastTickEff_publishes (State.sampling_activeAtTick hsamp) (s.activeAtTick_sys.2.trans href)
  simp [startTickEff, hflt, hoz, State.activeAtTick_frame]

/-! ### A slow list's entries (R173) -/

section SlowList
variable {p : Nat} {s : State}

@[simp] theorem State.protecting_setSlow (s : State) (p : Nat) (x : SlowPod) : (s.setSlow p x).protecting = s.protecting := rfl

@[simp] theorem State.podRuns_setSlow (s : State) (p q : Nat) (x : SlowPod) : (s.setSlow p x).podRuns q = s.podRuns q := rfl

/-- R232: a pod that executes is not halted by the debugger. -/
theorem State.podHalted_of_podRuns (h : s.podRuns p = true) : s.podHalted p = false := by
  unfold State.podRuns at h
  unfold State.podHalted
  simp only [Bool.or_eq_true, decide_eq_true_eq] at h
  simp only [decide_eq_false_iff_not]
  omega

theorem State.slowTo_of_left_nil (h : (s.slowOf p).left = []) (u : Nat) : s.slowTo p u = s := by
  unfold State.slowTo
  dsimp only
  rw [h]
  cases (s.slowOf p).idx <;> simp

/-- Only the first of a list's entries has its slot ended by `u`. -/
theorem takeWhile_first_due {e v u : Nat} {rest : List (Nat × Nat)} (hv : v ≤ u) (hrest : ∀ r ∈ rest, u < r.2) :
    ((e, v) :: rest).takeWhile (fun r => decide (r.2 ≤ u)) = [(e, v)] := by
  have hnone : rest.takeWhile (fun r => decide (r.2 ≤ u)) = [] := by
    cases rest with
    | nil => rfl
    | cons r rest => exact List.takeWhile_cons_of_neg (by simpa using hrest r List.mem_cons_self)
  rw [List.takeWhile_cons_of_pos (by simpa using hv), hnone]

/-- R173: an entry whose slot alone has ended is evaluated at that instant, on the half of the list's index. -/
theorem State.slowTo_of_first_due {u k e v : Nat} {rest : List (Nat × Nat)} (hidx : (s.slowOf p).idx = some k)
    (hleft : (s.slowOf p).left = (e, v) :: rest) (hv : v ≤ u) (hrest : ∀ r ∈ rest, u < r.2) (hprot : s.protecting = true)
    (hruns : s.podRuns p = true) :
    s.slowTo p u =
      { { s.setSlow p { s.slowOf p with left := rest } with now := v }.slowEntry
          (if k = s.flt.cur.m then s.flt.cur else s.flt.prev) (s.tauAt k) e with now := s.now } := by
  have hhalted := State.podHalted_of_podRuns hruns
  unfold State.slowTo
  dsimp only
  rw [hleft, takeWhile_first_due hv hrest, hidx]
  simp only [List.isEmpty_cons, hhalted, Bool.or_self, Bool.false_eq_true, if_false, List.length_singleton, List.drop_succ_cons,
    List.drop_zero, State.protecting_setSlow, State.podRuns_setSlow, hprot, hruns, Bool.not_true, List.foldl_cons, List.foldl_nil]
  rfl

/-! ### A list given up, skipped or started (R173, R176) -/

/-- R176: with no entry left to evaluate, the list that runs 2.865 µs before the boundary after next, or has not been started by then,
is given up and counts in SKIP. -/
theorem State.slowTrim_of_overdue {k : Nat} (hprot : s.protecting = true) (hpod : s.podRuns p = true ∨ s.podHalted p = true)
    (hleft : (s.slowOf p).left = [])
    (hrunning : ∀ e, (s.slowOf p).endAt = some e → s.slowUpTo p < e → k = (s.slowOf p).idx.getD 0)
    (hover : (∀ e, (s.slowOf p).endAt = some e → e ≤ s.slowUpTo p) → k = s.nextList p) (hindex : k + 1 = s.flt.cur.m)
    (hlimit : s.slowLimit ≤ s.now) :
    s.slowTrim p = (s.setSlow p { s.slowOf p with idx := some k, endAt := none, left := [] }).incSat (TRP_SCHED2_SKIP p) := by
  have hcount : (!s.protecting || !(s.podRuns p || s.podHalted p)) = false := by
    rcases hpod with hpod | hpod <;> simp [hprot, hpod]
  unfold State.slowTrim
  rw [if_neg (by rw [hcount]; exact Bool.false_ne_true), State.slowTo_of_left_nil hleft]
  dsimp only
  cases hend : (s.slowOf p).endAt with
  | none =>
    have hk := hover fun e he => absurd he (by simp [hend])
    simp [← hk, hindex, hlimit]
  | some e =>
    by_cases hruns : s.slowUpTo p < e
    · have hk := hrunning e hend hruns
      simp [hruns, ← hk, hindex, hlimit]
    · have hk := hover fun e' he' => Option.some.inj (hend.symm.trans he') ▸ Nat.le_of_not_lt hruns
      simp [hruns, ← hk, hindex, hlimit]

/-- R173, R176: a pod with no list in progress starts the next one: its index, its slots' ends, SLOW_MAX, groups and setting words. -/
theorem slowListStartEff_of_free {cycles : Nat} {ends : List Nat} (hprot : s.protecting = true) (hruns : s.podRuns p = true)
    (hfree : (s.slowTrim p).slowBusy p = false) (htick : (s.slowTrim p).flt.m ≠ 0)
    (hhalf : (s.slowTrim p).nextList p ≤ (s.slowTrim p).flt.cur.m) :
    slowListStartEff p cycles ends s =
      (let b := s.slowTrim p
       let l := lget [] b.prt.order p
       let c := b.setSlow p ⟨some (b.nextList p), some (b.now + cycles * 20), cycles, slotEnds b.now cycles 0 ends l⟩
       let d := c.setF (TRP_SCHED_SLOW_MAX p) (Nat.max (c.getF (TRP_SCHED_SLOW_MAX p)) (satAt 0xFFFF cycles))
       let e := (upto 12).foldl (fun b y => if b.bayPod y = p then b.takeGroup y else b) d
       (l.filter (· < 512)).foldl (fun b i => b.takeSettings i) e) := by
  unfold slowListStartEff
  rw [if_neg (by simp [hprot, hruns])]
  exact if_neg (by simp [hfree, htick, hhalf])

/-- R176: SLOW_LIST_ABANDON judges the list of a pod that runs or is halted. -/
theorem slowListAbandonEff_of_counted (hprot : s.protecting = true) (hpod : s.podRuns p = true ∨ s.podHalted p = true) :
    slowListAbandonEff p s = s.slowTrim p := by
  refine if_pos ?_
  rcases hpod with hpod | hpod <;> simp [hprot, hpod]

end SlowList

/-! ### The commands -/

theorem exec_slowListStart_eq (t p cycles : Nat) (ends : List Nat) (s : State) :
    exec (.slowListStart t p cycles ends) s =
      .next (if p < 2 then State.offerEdges (s.at t) (slowListStartEff p cycles ends (s.at t)) else s.at t) := by
  simp [exec_slowListStart]

theorem exec_slowListAbandon_eq (t p : Nat) (s : State) :
    exec (.slowListAbandon t p) s =
      .next (if p < 2 then State.offerEdges (s.at t) (slowListAbandonEff p (s.at t)) else s.at t) := by
  simp [exec_slowListAbandon]

/-- Settles O10: each clause is the lemma above that states its effect, behind the equation of its command. -/
theorem fastAndSlowLists : Obligations.FastAndSlowLists := by
  unfold Obligations.FastAndSlowLists
  refine ⟨?tick, ?start, ?entry, ?abandon, ?skip, exec_fastTick, exec_slowListStart_eq, exec_slowListAbandon_eq⟩
  case tick =>
    intro t s a hsamp href
    obtain ⟨hread, hindex, hdue⟩ := startTickEff_publishes hsamp href
    refine ⟨_, exec_fastTick t s, ?_⟩
    simp only [State.offerEdges_frame, startTickEff_frame]
    exact ⟨hread, hindex, hdue, rfl, rfl, rfl⟩
  case start =>
    intro t p cycles ends s a b k l c d e hp hprot hruns hfree htick hhalf
    exact exec_of_guard (exec_slowListStart_eq t p cycles ends s) hp
      (congrArg _ (slowListStartEff_of_free hprot hruns hfree htick hhalf))
  case entry =>
    intro p u k e v rest s hidx hleft hv hrest hprot hruns
    exact State.slowTo_of_first_due hidx hleft hv hrest hprot hruns
  case abandon =>
    intro t p s a hp hprot hpod
    exact exec_of_guard (exec_slowListAbandon_eq t p s) hp (congrArg _ (slowListAbandonEff_of_counted hprot hpod))
  case skip =>
    intro p k s hprot hpod hleft hrunning hover hindex hlimit
    exact State.slowTrim_of_overdue hprot hpod hleft hrunning hover hindex hlimit

end Sys2Proof.Machine

/-!
What the output table gives a trip output, and how its ball and the watchdog are driven (R182, R183, R186, R188, R189): the rows of the
table, and what each command's effect does, by the conditions of its row.
-/
namespace Sys2Proof.Machine

/-! ### The output table (R182, R183) -/

theorem State.protecting_of_run {s : State} (h : s.mode = .run) : s.protecting = true := by simp [State.protecting, h]

theorem State.protecting_of_test {s : State} (h : s.mode = .test) : s.protecting = true := by simp [State.protecting, h]

section Rows
variable {s : State} {n arm fire : Nat} {lat : Bool}

/-- R182, row 4: has a pod that contributes to output n failed? -/
def State.contributorFailed (s : State) (n : Nat) : Bool := (upto 3).any (fun p => s.podFailed p && s.contributes p n)

/-- R182, row 1: outside RUN and TEST, and for an output not enabled, both states are 0. -/
theorem State.driveRow_of_idle (h : s.protecting = false ∨ s.flag (TRP_OCFG_EN n) = false) :
    s.driveRow n arm fire lat = ⟨false, false, false, false⟩ := by
  refine if_pos ?_
  rcases h with h | h <;> simp [h]

/-- R182, rows 2 and 3: in TEST an output has its forced states, or 0. -/
theorem State.driveRow_of_test (hmode : s.mode = .test) (hen : s.flag (TRP_OCFG_EN n) = true) :
    s.driveRow n arm fire lat =
      if s.trp.forced.testBit n then
        ⟨(s.getF TRP_FRC_ARM_FARM).testBit n, (s.getF TRP_FRC_FIRE_FFIRE).testBit n, false, false⟩
      else ⟨false, false, false, false⟩ := by
  simp [State.driveRow, State.protecting_of_test hmode, hen, hmode, bitN_eq_testBit]

/-- R182, rows 4 to 6: with a contributing pod failed FAILACT decides. -/
theorem State.driveRow_of_failed (hmode : s.mode = .run) (hen : s.flag (TRP_OCFG_EN n) = true) (hfail : s.contributorFailed n = true) :
    s.driveRow n arm fire lat =
      match s.getF (TRP_OCFG_FAILACT n) with
      | 0 => ⟨arm.testBit n || s.heldFire n (fire.testBit n) lat, s.heldFire n (fire.testBit n) lat, false, true⟩
      | 2 => ⟨true, true, false, true⟩
      | _ => ⟨false, false, false, true⟩ := by
  unfold State.contributorFailed at hfail
  simp only [State.driveRow, State.protecting_of_run hmode, hen, hmode, hfail, bitN_eq_testBit]
  rfl

/-- R182, row 7: else the terms decide, and an asserted FIRE asserts ARM too. -/
theorem State.driveRow_of_terms (hmode : s.mode = .run) (hen : s.flag (TRP_OCFG_EN n) = true) (hfail : s.contributorFailed n = false) :
    s.driveRow n arm fire lat =
      ⟨arm.testBit n || s.heldFire n (fire.testBit n) lat, s.heldFire n (fire.testBit n) lat, true, false⟩ := by
  unfold State.contributorFailed at hfail
  simp only [State.driveRow, State.protecting_of_run hmode, hen, hmode, hfail, bitN_eq_testBit]
  rfl

end Rows

/-! ### The drive, the readback and the watchdog (R186, R188, R189, R420) -/

theorem testBit_outWord (f : Nat → Bool) {n : Nat} (hn : n < 32) : (outWord f).testBit n = f n :=
  (bitN_eq_testBit (outWord f) n).symm.trans (bitN_bitsBelow f hn)

/-- R186: the ARM word a half-period boundary drives: a commit at the very instant does not count yet. -/
def State.armDriven (s : State) : Nat := if s.now = s.trp.commitAt then s.trp.prevArm else s.getF TRP_DRV_ARM_DARM

/-- R186: the FIRE word it drives. -/
def State.fireDriven (s : State) : Nat := if s.now = s.trp.commitAt then s.trp.prevFire else s.getF TRP_DRV_FIRE_DFIRE

/-- R186: a ball's level after a half-period boundary: an asserted output's changes, every other is low. -/
def toggled (on : Bool) (w lvl n : Nat) : Bool := on && w.testBit n && !lvl.testBit n

section Drive
variable {s : State}

/-- R186, R420: a half-period boundary from step 8 on, or while a ball is high. -/
structure DriveDue (s : State) : Prop where
  powered : s.sys.por = false
  started : 8 ≤ s.sys.step ∨ s.trp.lvlArm ≠ 0 ∨ s.trp.lvlFire ≠ 0
  boundary : (s.now - s.trp.grid0) % 32000 = 0

theorem driveHalfPeriodEff_of_due (h : DriveDue s) :
    driveHalfPeriodEff s = s.setTrp (fun x => { x with
      lvlArm := outWord (toggled s.protecting s.armDriven x.lvlArm)
      lvlFire := outWord (toggled s.protecting s.fireDriven x.lvlFire) }) := by
  obtain ⟨hpor, hstarted, hboundary⟩ := h
  have hmasked (w lvl : Nat) :
      (fun n => bitN (if s.protecting = true then w else 0) n && !bitN lvl n) = toggled s.protecting w lvl := by
    funext n
    cases hprot : s.protecting <;> simp [toggled, bitN_eq_testBit]
  have hdue : (s.sys.por || (decide (s.sys.step < 8) && decide (s.trp.lvlArm = 0) && decide (s.trp.lvlFire = 0)) ||
      (s.now - s.trp.grid0) % 32000 != 0) = false := by
    rcases hstarted with hstep | harm | hfire
    · simp [hpor, hboundary, Nat.not_lt.2 hstep]
    · simp [hpor, hboundary, harm]
    · simp [hpor, hboundary, hfire]
  unfold driveHalfPeriodEff
  rw [if_neg (by rw [hdue]; exact Bool.false_ne_true)]
  simp only [hmasked]
  rfl

/-- R189, R420: WDOG_OK's own boundary from step 8 on, or while its ball is high. -/
structure WdogDue (s : State) : Prop where
  powered : s.sys.por = false
  started : 8 ≤ s.sys.step ∨ s.trp.wdLevel = true
  boundary : (s.now - s.trp.grid0) % 800000 = 0

/-- R189: WDOG_OK toggles strictly after its conditions came to hold, and else is low. -/
theorem wdogHalfPeriodEff_of_due (h : WdogDue s) :
    wdogHalfPeriodEff s =
      { s with trp := { s.trp with
        wdLevel := (s.wdogOk && decide (s.trp.fullAt < s.now)) && !s.trp.wdLevel } }.setFlag TRP_STAT_WDOG
          (s.wdogOk && decide (s.trp.fullAt < s.now)) := by
  obtain ⟨hpor, hstarted, hboundary⟩ := h
  refine if_neg ?_
  rcases hstarted with hstep | hlevel
  · simp [hpor, hboundary, Nat.not_lt.2 hstep]
  · simp [hpor, hboundary, hlevel]

/-- R420, log entry 134: while power-on reset holds, neither ball changes. -/
theorem halfPeriodEffs_of_por (h : s.sys.por = true) : driveHalfPeriodEff s = s ∧ wdogHalfPeriodEff s = s :=
  ⟨if_pos (by simp [h]), if_pos (by simp [h])⟩

/-- R188: the register that shows which outputs' ARM or FIRE balls were off their levels. -/
def readbackF (fire : Bool) : Field := if fire then TRP_RBF_RBF else TRP_RBA_RBA

/-- R188: a ball found off its level sets its bit, with event 47. -/
theorem readbackMismatchEff_of_new {n : Nat} {fire : Bool} (hstep : 8 ≤ s.sys.step) (href : s.sys.refPresent = true)
    (hnew : (s.getF (readbackF fire)).testBit n = false) :
    readbackMismatchEff n fire s =
      (s.setF (readbackF fire) (setBitN (s.getF (readbackF fire)) n true)).raise 47 n (b2n fire) := by
  rw [← bitN_eq_testBit] at hnew
  unfold readbackF at hnew ⊢
  exact if_neg (by simp [href, hnew, Nat.not_lt.2 hstep])

/-- R188: a ball whose bit is set is reported no second time. -/
theorem readbackMismatchEff_of_known {n : Nat} {fire : Bool} (h : (s.getF (readbackF fire)).testBit n = true) :
    readbackMismatchEff n fire s = s := by
  rw [← bitN_eq_testBit] at h
  unfold readbackF at h
  exact if_pos (by simp [h])

end Drive

/-! ### The commands -/

theorem exec_readbackMismatch_eq (t n : Nat) (fire : Bool) (s : State) :
    exec (.readbackMismatch t n fire) s =
      .next (if n < 32 then State.offerEdges (s.at t) (readbackMismatchEff n fire (s.at t)) else s.at t) := by
  simp [exec_readbackMismatch]

/-- Settles O12: each clause is the lemma above that states its effect, behind the equation of its command. -/
theorem outputDrives : Obligations.OutputDrives := by
  unfold Obligations.OutputDrives
  refine ⟨?rows, ?drive, ?wdog, ?mismatch, ?known, ?por, exec_driveHalfPeriod, exec_readbackMismatch_eq, exec_wdogHalfPeriod⟩
  case rows =>
    intro s n arm fire lat hn failed f
    refine ⟨State.driveRow_of_idle, State.driveRow_of_test, fun hmode hen hfail => ?failact, State.driveRow_of_terms, ?latched, ?free⟩
    case failact =>
      refine ⟨fun hact => ?_, fun hact => ?_, fun hact => ?_⟩ <;> simp only [State.driveRow_of_failed hmode hen hfail, hact, f]
    case latched =>
      rintro rfl
      exact Bool.or_true _
    case free =>
      rintro rfl hminon
      simp [State.heldFire, hminon]
  case drive =>
    intro t n s a hpor hstarted hboundary hn arm fire
    refine ⟨a.offerEdges (driveHalfPeriodEff a), exec_driveHalfPeriod t s, ?_⟩
    rw [driveHalfPeriodEff_of_due ⟨hpor, hstarted, hboundary⟩]
    simp only [State.offerEdges_frame, State.setTrp_trp, testBit_outWord _ hn]
    exact ⟨rfl, rfl, rfl⟩
  case wdog =>
    intro t s a hpor hstarted hboundary on
    exact (exec_wdogHalfPeriod t s).trans (congrArg _ (congrArg _ (wdogHalfPeriodEff_of_due ⟨hpor, hstarted, hboundary⟩)))
  case mismatch =>
    intro t n fire s a f hn hstep href hnew
    exact exec_of_guard (exec_readbackMismatch_eq t n fire s) hn (congrArg _ (readbackMismatchEff_of_new hstep href hnew))
  case known =>
    intro t n fire s a f hn hknown
    exact exec_of_guard (exec_readbackMismatch_eq t n fire s) hn
      ((congrArg _ (readbackMismatchEff_of_known hknown)).trans a.offerEdges_self)
  case por =>
    intro t s a hpor
    obtain ⟨hdrive, hwdog⟩ := halfPeriodEffs_of_por hpor
    exact ⟨(exec_driveHalfPeriod t s).trans (congrArg _ ((congrArg _ hdrive).trans a.offerEdges_self)),
      (exec_wdogHalfPeriod t s).trans (congrArg _ ((congrArg _ hwdog).trans a.offerEdges_self))⟩

end Sys2Proof.Machine

/-!
Binary inputs (R191 to R193): what an edge at an input's ball does and when the debounced state follows, with the registers either leaves
alone.
-/
namespace Sys2Proof.Machine

/-! ### Counters and halves of a register pair -/

theorem satInc_le (cap n : Nat) : satInc cap n ≤ cap := by
  unfold satInc
  split <;> omega

/-- A counter that saturates at its field's width reads as it was counted. -/
theorem State.getF_incSat_same {f : Field} (hf : f.Fits) (s : State) :
    (s.incSat f).getF f = satInc (2 ^ f.width - 1) (s.getF f) := by
  have hle := satInc_le (2 ^ f.width - 1) (s.getF f)
  have hpos := Nat.two_pow_pos f.width
  exact (State.getF_setF_same _ _ _ hf).trans (Nat.mod_eq_of_lt (by omega))

theorem bitN_setBitN_same (n i : Nat) (b : Bool) : bitN (setBitN n i b) i = b := by
  have hlow : n % 2 ^ i < 2 ^ i := Nat.mod_lt _ (Nat.two_pow_pos i)
  have hquot : setBitN n i b / 2 ^ i = n / 2 ^ (i + 1) * 2 + b2n b := by
    have hsplit : setBitN n i b = n % 2 ^ i + (n / 2 ^ (i + 1) * 2 + b2n b) * 2 ^ i := by
      unfold setBitN
      ring
    rw [hsplit, Nat.add_mul_div_right _ _ (Nat.two_pow_pos i), Nat.div_eq_of_lt hlow, Nat.zero_add]
  unfold bitN
  rw [hquot, Nat.mul_add_mod_self_right]
  cases b <;> rfl

/-- Bit i of a register of 32 bits, once set, reads as it was set. -/
theorem State.bitN_setF_same {f : Field} (hf : f.Fits) {i : Nat} (hi : i < f.width) (s : State) (b : Bool) :
    bitN ((s.setF f (setBitN (s.getF f) i b)).getF f) i = b := by
  rw [State.getF_setF_same _ _ _ hf, bitN_eq_testBit, Nat.testBit_mod_two_pow, ← bitN_eq_testBit, bitN_setBitN_same, decide_eq_true hi,
    Bool.true_and]

/-- An input's bit in a pair of registers is written to one of the two. -/
theorem State.getF_setHalf_apart {lo hi g : Field} (hfits : lo.Fits ∧ hi.Fits) (hapart : g.Apart lo ∧ g.Apart hi) (s : State) (i : Nat)
    (b : Bool) : (setHalf s lo hi i b).getF g = s.getF g := by
  unfold setHalf
  split
  · exact State.getF_setF_apart hfits.1 hapart.1 _
  · exact State.getF_setF_apart hfits.2 hapart.2 _

theorem State.flag_eq_of_getF {s s' : State} {f : Field} (h : s'.getF f = s.getF f) : s'.flag f = s.flag f := by
  unfold State.flag
  rw [h]

/-! ### The fields of an input -/

theorem fits_bioState : BIO_STATE_LO_ST.Fits ∧ BIO_STATE_HI_ST.Fits := ⟨Nat.le_refl 32, Nat.le_refl 32⟩

theorem fits_bioRaw : BIO_RAW_LO_RAW.Fits ∧ BIO_RAW_HI_RAW.Fits := ⟨Nat.le_refl 32, Nat.le_refl 32⟩

theorem fits_BIO_CHG_CHG (i : Nat) : (BIO_CHG_CHG i).Fits := (by decide : 0 + 16 ≤ 32)

theorem fits_BIO_CHG_DIR (i : Nat) : (BIO_CHG_DIR i).Fits := (by decide : 16 + 1 ≤ 32)

theorem fits_BIO_CHG_GLITCH (i : Nat) : (BIO_CHG_GLITCH i).Fits := Nat.le_refl 32

/-- R193: what a change of input i writes of its instant. -/
def changeWrites (i runFrom sec ns : Nat) : List (Field × Nat) := [(BIO_IDX_IDX i, runFrom), (BIO_TLO_NS i, ns), (BIO_THI_SEC i, sec)]

/-- R193: a field outside the registers of the instant of a change. -/
def BesideInstant (i : Nat) (g : Field) : Prop := g.addr ≠ BIO_IDX i ∧ g.addr ≠ BIO_TLO i ∧ g.addr ≠ BIO_THI i

theorem BesideInstant.apart {i : Nat} {g : Field} (h : BesideInstant i g) (runFrom sec ns : Nat) :
    ∀ e ∈ changeWrites i runFrom sec ns, e.1.Fits ∧ g.Apart e.1 := by
  obtain ⟨hidx, htlo, hthi⟩ := h
  simp [changeWrites, Field.Fits, Field.Apart, BIO_IDX_IDX, BIO_TLO_NS, BIO_THI_SEC, hidx, htlo, hthi]

/-- The registers of configuration and state lie below those of the instants. -/
theorem besideInstant_of_addr_lt {i : Nat} {g : Field} (h : g.addr < 0xC8200) : BesideInstant i g := by
  simp only [BesideInstant, BIO_IDX, BIO_TLO, BIO_THI]
  omega

/-- The register of the counters lies above those of the instants. -/
theorem besideInstant_of_addr_chg {i : Nat} (hi : i < 64) {g : Field} (h : g.addr = BIO_CHG i) : BesideInstant i g := by
  simp only [BesideInstant, h, BIO_CHG, BIO_IDX, BIO_TLO, BIO_THI]
  omega

/-- R192: a field that a debounced change of input i leaves alone, the debounced states apart. -/
structure Spared (i : Nat) (g : Field) : Prop where
  instant : BesideInstant i g
  chg : g.Apart (BIO_CHG_CHG i)
  dir : g.Apart (BIO_CHG_DIR i)

theorem spared_of_addr_lt {i : Nat} {g : Field} (h : g.addr < 0xC8200) : Spared i g := by
  have haddr : g.addr ≠ BIO_CHG i := by
    unfold BIO_CHG
    omega
  exact ⟨besideInstant_of_addr_lt h, .inl haddr, .inl haddr⟩

theorem spared_glitch {i : Nat} (hi : i < 64) : Spared i (BIO_CHG_GLITCH i) :=
  ⟨besideInstant_of_addr_chg hi rfl, .inr (.inr (by decide : 0 + 16 ≤ 24)), .inr (.inr (by decide : 16 + 1 ≤ 24))⟩

/-- A field outside the registers of the levels of all inputs. -/
theorem apart_levels_of_addr {g : Field} (h : g.addr < 0xC8100 ∨ 0xC8110 ≤ g.addr) :
    (g.Apart BIO_STATE_LO_ST ∧ g.Apart BIO_STATE_HI_ST) ∧ g.Apart BIO_RAW_LO_RAW ∧ g.Apart BIO_RAW_HI_RAW := by
  refine ⟨⟨.inl ?_, .inl ?_⟩, .inl ?_, .inl ?_⟩ <;>
    simp only [BIO_STATE_LO_ST, BIO_STATE_HI_ST, BIO_RAW_LO_RAW, BIO_RAW_HI_RAW, BIO_STATE_LO, BIO_STATE_HI, BIO_RAW_LO, BIO_RAW_HI] <;>
    omega

theorem BIO_CFG_lt {i : Nat} (hi : i < 64) : BIO_CFG i < 0xC8100 := by
  unfold BIO_CFG
  omega

theorem le_BIO_CHG (i : Nat) : 0xC8110 ≤ BIO_CHG i := by
  unfold BIO_CHG
  omega

/-! ### The debounced state (R192, R193, R195) -/

section Inputs
variable {i : Nat} {level : Bool} {s : State}

/-- R195: a state that reads both registers of debounced states the same reads every input's the same. -/
theorem State.bin_of_getF {s' : State} (hlo : s'.getF BIO_STATE_LO_ST = s.getF BIO_STATE_LO_ST)
    (hhi : s'.getF BIO_STATE_HI_ST = s.getF BIO_STATE_HI_ST) (i : Nat) : s'.bin i = s.bin i := by
  unfold State.bin
  rw [hlo, hhi]

/-- R192: the debounced state just written. -/
theorem State.bin_setHalf_same (hi : i < 64) (s : State) (b : Bool) :
    (setHalf s BIO_STATE_LO_ST BIO_STATE_HI_ST i b).bin i = b := by
  unfold State.bin setHalf
  split
  next h => exact State.bitN_setF_same fits_bioState.1 h s b
  next h => exact State.bitN_setF_same fits_bioState.2 (show i - 32 < 32 by omega) s b

/-- R192, R193: the state in which the debounced state of input i has followed its raw state. -/
def State.debounced (s : State) (i : Nat) : State :=
  let x := s.bio i
  let lab := splitTime (s.labelOf ((x.runFrom : Int) * 15625 * 4294967296))
  ((((setHalf s BIO_STATE_LO_ST BIO_STATE_HI_ST i x.raw).setFs (changeWrites i x.runFrom lab.1 lab.2.1)).incWrap (BIO_CHG_CHG i)).setFlag
    (BIO_CHG_DIR i) x.raw)

/-- R192: the raw state has held its new level for DEB + 1 strobes. -/
structure ChangeDue (i : Nat) (s : State) : Prop where
  sampled : 9 ≤ s.sys.step
  reference : s.sys.refPresent = true
  on : s.bioOn i = true
  differs : (s.bio i).raw ≠ s.bin i
  held : (s.bio i).runFrom + s.getF (BIO_CFG_DEB i) + 1 ≤ s.ana.strobe

theorem debouncedChangeEff_of_due (h : ChangeDue i s) : debouncedChangeEff i s = s.debounced i := by
  obtain ⟨hstep, href, hon, hdiff, hheld⟩ := h
  exact if_neg (by simp [href, hon, hdiff, Nat.not_lt.2 hstep, Nat.not_lt.2 hheld])

theorem debouncedChangeEff_of_not_due
    (h : s.sys.step < 9 ∨ s.sys.refPresent = false ∨ (s.bio i).raw = s.bin i ∨
      s.ana.strobe < (s.bio i).runFrom + s.getF (BIO_CFG_DEB i) + 1) : debouncedChangeEff i s = s := by
  refine if_pos ?_
  rcases h with h | h | h | h <;> simp [h]

/-- R193: a debounced change writes the debounced state, the times of the change, CHG and DIR alone. -/
theorem State.getF_debounced_eq_setHalf {g : Field} (h : Spared i g) :
    (s.debounced i).getF g = (setHalf s BIO_STATE_LO_ST BIO_STATE_HI_ST i (s.bio i).raw).getF g := by
  unfold State.debounced State.setFlag State.incWrap
  dsimp only
  rw [State.getF_setF_apart (fits_BIO_CHG_DIR i) h.dir, State.getF_setF_apart (fits_BIO_CHG_CHG i) h.chg,
    State.getF_setFs_apart (h.instant.apart _ _ _)]

theorem State.getF_debounced_of_spared {g : Field} (h : Spared i g) (hlevels : g.addr < 0xC8100 ∨ 0xC8110 ≤ g.addr) :
    (s.debounced i).getF g = s.getF g := by
  rw [State.getF_debounced_eq_setHalf h, State.getF_setHalf_apart fits_bioState (apart_levels_of_addr hlevels).1]

/-- R192: after a debounced change the debounced state is the raw state. -/
theorem State.bin_debounced (hi : i < 64) : (s.debounced i).bin i = (s.bio i).raw := by
  have hlo : Spared i BIO_STATE_LO_ST := spared_of_addr_lt (by decide)
  have hhi : Spared i BIO_STATE_HI_ST := spared_of_addr_lt (by decide)
  rw [State.bin_of_getF (State.getF_debounced_eq_setHalf hlo) (State.getF_debounced_eq_setHalf hhi), State.bin_setHalf_same hi]

/-- R193: a debounced change counts in CHG, which wraps. -/
theorem State.chg_debounced (hi : i < 64) :
    (s.debounced i).getF (BIO_CHG_CHG i) = (s.getF (BIO_CHG_CHG i) + 1) % 2 ^ (BIO_CHG_CHG i).width := by
  have hstate := (apart_levels_of_addr (g := BIO_CHG_CHG i) (.inr (le_BIO_CHG i))).1
  have hdir : (BIO_CHG_CHG i).Apart (BIO_CHG_DIR i) := .inr (.inl (by decide : 0 + 16 ≤ 16))
  unfold State.debounced State.setFlag State.incWrap
  dsimp only
  rw [State.getF_setF_apart (fits_BIO_CHG_DIR i) hdir, State.getF_setF_same _ _ _ (fits_BIO_CHG_CHG i),
    State.getF_setFs_apart ((besideInstant_of_addr_chg hi rfl).apart _ _ _), State.getF_setHalf_apart fits_bioState hstate]

/-! ### An edge at an input's ball (R191, R192) -/

/-- R191, R195: the raw state of an input whose ball has a level. -/
def State.rawAt (s : State) (i : Nat) (level : Bool) : Bool := s.bioOn i && (level != s.flag (BIO_CFG_INV i))

/-- The strobe that samples the present instant is at most the next one. -/
theorem State.strobeNow_le (s : State) : s.strobeNow ≤ s.ana.strobe := by
  unfold State.strobeNow
  split <;> omega

/-- R191: the level of an input's ball noted, its raw state as it was. -/
def State.levelNoted (s : State) (i : Nat) (level : Bool) : State :=
  { s with trp := { s.trp with bio := lset s.trp.bio i { s.bio i with level := level } } }

/-- R191: a new run of an input's raw state begins at this strobe. -/
def State.runBegun (s : State) (i : Nat) (level raw : Bool) : State :=
  setHalf { s with trp := { s.trp with bio := lset s.trp.bio i ⟨level, raw, s.strobeNow⟩ } } BIO_RAW_LO_RAW BIO_RAW_HI_RAW i raw

/-- R191: an input not sampled, or whose raw state stays, has its level noted alone. -/
theorem State.bioSample_of_same (h : s.sys.step < 9 ∨ s.sys.refPresent = false ∨ s.rawAt i level = (s.bio i).raw) :
    s.bioSample i level = s.levelNoted i level := by
  have hnone : (decide (s.sys.step < 9) || !s.sys.refPresent || decide (s.rawAt i level = (s.bio i).raw)) = true := by
    rcases h with h | h | h <;> simp [h]
  exact if_pos hnone

/-- R191, R192: an input whose raw state changes begins a new run, and a run that the debounced state has not followed is a glitch. -/
theorem State.bioSample_of_change (hstep : 9 ≤ s.sys.step) (href : s.sys.refPresent = true) (hraw : s.rawAt i level ≠ (s.bio i).raw) :
    s.bioSample i level =
      (if (s.bio i).raw != s.bin i then (s.levelNoted i level).incSat (BIO_CHG_GLITCH i) else s.levelNoted i level).runBegun i level
        (s.rawAt i level) := by
  have hsampled : ¬ (decide (s.sys.step < 9) || !s.sys.refPresent || decide (s.rawAt i level = (s.bio i).raw)) = true := by
    simp [href, hraw, Nat.not_lt.2 hstep]
  exact if_neg hsampled

@[simp] theorem State.bin_runBegun (raw : Bool) (j : Nat) : (s.runBegun i level raw).bin j = s.bin j := by
  have hkept {g : Field} (hapart : g.Apart BIO_RAW_LO_RAW ∧ g.Apart BIO_RAW_HI_RAW) : (s.runBegun i level raw).getF g = s.getF g :=
    State.getF_setHalf_apart fits_bioRaw hapart _ i raw
  exact State.bin_of_getF (hkept ⟨.inl (by decide), .inl (by decide)⟩) (hkept ⟨.inl (by decide), .inl (by decide)⟩) j

/-- R191: the beginning of a run leaves every register but the raw states as it was. -/
theorem State.getF_runBegun {g : Field} (h : g.addr < 0xC8100 ∨ 0xC8110 ≤ g.addr) (raw : Bool) :
    (s.runBegun i level raw).getF g = s.getF g :=
  State.getF_setHalf_apart fits_bioRaw (apart_levels_of_addr h).2 _ i raw

/-- R191: the new run of input i, and the runs of the others. -/
theorem State.bio_runBegun (raw : Bool) (j : Nat) :
    (s.runBegun i level raw).bio j = if j = i ∧ i < s.trp.bio.length then ⟨level, raw, s.strobeNow⟩ else s.bio j := by
  simp only [State.bio, State.runBegun, setHalf_frame]
  exact lget_lset _ _ _ _ _

@[simp] theorem State.bio_levelNoted_other {j : Nat} (h : j ≠ i) : (s.levelNoted i level).bio j = s.bio j :=
  lget_lset_other _ _ _ _ _ h

@[simp] theorem State.length_bio_levelNoted : (s.levelNoted i level).trp.bio.length = s.trp.bio.length := lset_length _ _ _

@[simp] theorem State.strobeNow_levelNoted : (s.levelNoted i level).strobeNow = s.strobeNow := rfl

@[simp] theorem State.getF_levelNoted (f : Field) : (s.levelNoted i level).getF f = s.getF f := rfl

@[simp] theorem State.bin_levelNoted (j : Nat) : (s.levelNoted i level).bin j = s.bin j := rfl

/-- R192: counting a glitch leaves the runs, the strobe that samples now and the debounced states as they were. -/
theorem State.incSat_glitch_kept :
    (s.incSat (BIO_CHG_GLITCH i)).trp = s.trp ∧ (s.incSat (BIO_CHG_GLITCH i)).strobeNow = s.strobeNow ∧
      (s.incSat (BIO_CHG_GLITCH i)).bin i = s.bin i := by
  have hkept {g : Field} (h : g.addr < 0xC8200) : (s.incSat (BIO_CHG_GLITCH i)).getF g = s.getF g := by
    refine State.getF_setF_apart (fits_BIO_CHG_GLITCH i) (.inl ?_) _
    simp only [BIO_CHG_GLITCH, BIO_CHG]
    omega
  exact ⟨by simp [State.incSat_frame], by simp [State.strobeNow, State.incSat_frame],
    State.bin_of_getF (hkept (by decide)) (hkept (by decide)) i⟩

/-- R192: the edge of a run that the debounced state has not followed: the new run, GLITCH, and what stays. -/
theorem State.glitch_run (hi : i < s.trp.bio.length) (raw : Bool) :
    let b := ((s.levelNoted i level).incSat (BIO_CHG_GLITCH i)).runBegun i level raw
    b.bio i = ⟨level, raw, s.strobeNow⟩ ∧
      b.getF (BIO_CHG_GLITCH i) = satInc (2 ^ (BIO_CHG_GLITCH i).width - 1) (s.getF (BIO_CHG_GLITCH i)) ∧
      b.bin i = s.bin i ∧ (∀ j, j ≠ i → b.bio j = s.bio j) := by
  obtain ⟨htrp, hstrobe, hbin⟩ := (s.levelNoted i level).incSat_glitch_kept (i := i)
  refine ⟨?_, ?_, ?_, fun j hj => ?_⟩
  · rw [State.bio_runBegun, if_pos ⟨rfl, by rwa [htrp, State.length_bio_levelNoted]⟩, hstrobe, State.strobeNow_levelNoted]
  · rw [State.getF_runBegun (.inr (le_BIO_CHG i)), State.getF_incSat_same (fits_BIO_CHG_GLITCH i), State.getF_levelNoted]
  · rw [State.bin_runBegun, hbin, State.bin_levelNoted]
  · rw [State.bio_runBegun, if_neg fun h => hj h.1, State.bio, htrp]
    exact State.bio_levelNoted_other hj

/-- R192: an edge before a change is due only samples the input. -/
theorem binaryInputEdgeEff_of_not_due
    (h : s.sys.step < 9 ∨ s.sys.refPresent = false ∨ (s.bio i).raw = s.bin i ∨
      s.strobeNow < (s.bio i).runFrom + s.getF (BIO_CFG_DEB i) + 1) : binaryInputEdgeEff i level s = s.bioSample i level := by
  unfold binaryInputEdgeEff
  dsimp only
  split
  next hdue =>
    rw [debouncedChangeEff_of_not_due]
    exact h.imp_right (Or.imp_right (Or.imp_right fun hlate => absurd hdue (Nat.not_le.2 hlate)))
  next => rfl

/-- R192: a change that is due by the strobe of the edge comes first. -/
theorem binaryInputEdgeEff_of_due (h : ChangeDue i s) (hheld : (s.bio i).runFrom + s.getF (BIO_CFG_DEB i) + 1 ≤ s.strobeNow) :
    binaryInputEdgeEff i level s = (s.debounced i).bioSample i level := by
  unfold binaryInputEdgeEff
  rw [debouncedChangeEff_of_due h]
  simp [hheld]

/-- R192: a debounced change leaves the start, the runs of the inputs and the strobe that samples now as they were. -/
theorem ChangeDue.kept (h : ChangeDue i s) :
    (s.debounced i).sys = s.sys ∧ (s.debounced i).trp = s.trp ∧ (s.debounced i).strobeNow = s.strobeNow := by
  rw [← debouncedChangeEff_of_due h]
  simp [State.strobeNow, debouncedChangeEff_frame]

/-- R191, R192: a debounced change leaves the input's configuration, and so its raw state, as it was. -/
theorem ChangeDue.rawAt_debounced (h : ChangeDue i s) (hi : i < 64) : (s.debounced i).rawAt i level = s.rawAt i level := by
  have hcfg {g : Field} (haddr : g.addr = BIO_CFG i) : (s.debounced i).flag g = s.flag g := by
    have hlt : g.addr < 0xC8100 := haddr ▸ BIO_CFG_lt hi
    exact State.flag_eq_of_getF (State.getF_debounced_of_spared (spared_of_addr_lt (by omega)) (.inl hlt))
  unfold State.rawAt State.bioOn
  rw [hcfg rfl, hcfg rfl, h.kept.1]

/-- R191, R192: an edge after a due change: the debounced state has followed, CHG counts, and the run that ended is no glitch. -/
theorem ChangeDue.run_after (h : ChangeDue i s) (hi : i < 64) (hlen : i < s.trp.bio.length) (hraw : s.rawAt i level ≠ (s.bio i).raw) :
    let b := (s.debounced i).bioSample i level
    b.bio i = ⟨level, s.rawAt i level, s.strobeNow⟩ ∧ b.getF (BIO_CHG_GLITCH i) = s.getF (BIO_CHG_GLITCH i) ∧
      b.bin i = (s.bio i).raw ∧ b.getF (BIO_CHG_CHG i) = (s.getF (BIO_CHG_CHG i) + 1) % 2 ^ (BIO_CHG_CHG i).width := by
  obtain ⟨hsys, htrp, hstrobe⟩ := h.kept
  have hbio : (s.debounced i).bio i = s.bio i := by rw [State.bio, htrp, State.bio]
  have hrawAt := h.rawAt_debounced (level := level) hi
  have hfollowed : ((s.debounced i).bio i).raw = (s.debounced i).bin i := by rw [hbio, State.bin_debounced hi]
  have hsample : (s.debounced i).bioSample i level = ((s.debounced i).levelNoted i level).runBegun i level (s.rawAt i level) := by
    rw [State.bioSample_of_change (hsys ▸ h.sampled) (hsys ▸ h.reference) (by rwa [hrawAt, hbio]), hfollowed, bne_self_eq_false, hrawAt]
    rfl
  simp only [hsample]
  refine ⟨?_, ?_, ?_, ?_⟩
  · rw [State.bio_runBegun, if_pos ⟨rfl, by rwa [State.length_bio_levelNoted, htrp]⟩, State.strobeNow_levelNoted, hstrobe]
  · rw [State.getF_runBegun (.inr (le_BIO_CHG i)), State.getF_levelNoted,
      State.getF_debounced_of_spared (spared_glitch hi) (.inr (le_BIO_CHG i))]
  · rw [State.bin_runBegun, State.bin_levelNoted, State.bin_debounced hi]
  · rw [State.getF_runBegun (.inr (le_BIO_CHG i)), State.getF_levelNoted, State.chg_debounced hi]

end Inputs

/-! ### The commands -/

theorem State.bio_offerEdges (a s : State) (i : Nat) : (a.offerEdges s).bio i = s.bio i := by
  simp [State.bio, State.offerEdges_frame]

theorem State.getF_offerEdges (a s : State) (f : Field) : (a.offerEdges s).getF f = s.getF f :=
  State.getF_of_regs (by simp [State.offerEdges_frame]) f

theorem State.bin_offerEdges (a s : State) (i : Nat) : (a.offerEdges s).bin i = s.bin i :=
  State.bin_of_getF (State.getF_offerEdges a s _) (State.getF_offerEdges a s _) i

theorem exec_binaryInputEdge_eq (t i : Nat) (level : Bool) (s : State) :
    exec (.binaryInputEdge t i level) s =
      .next (if i < 64 then State.offerEdges (s.at t) (binaryInputEdgeEff i level (s.at t)) else s.at t) := by
  simp [exec_binaryInputEdge]

theorem exec_debouncedChange_eq (t i : Nat) (s : State) :
    exec (.debouncedChange t i) s = .next (if i < 64 then State.offerEdges (s.at t) (debouncedChangeEff i (s.at t)) else s.at t) := by
  simp [exec_debouncedChange]

/-- Settles O13: each clause is the lemma above that states its effect, behind the equation of its command. -/
theorem binaryInputs : Obligations.BinaryInputs := by
  unfold Obligations.BinaryInputs
  refine ⟨?same, ?followed, ?glitch, ?due, ?change, ?early, exec_binaryInputEdge_eq, exec_debouncedChange_eq⟩
  case same =>
    intro t i level s a x raw hi hcase
    have hedge : binaryInputEdgeEff i level a = a.levelNoted i level := by
      rcases hcase with hstep | href | ⟨hsame, hlate⟩
      · exact (binaryInputEdgeEff_of_not_due (.inl hstep)).trans (State.bioSample_of_same (.inl hstep))
      · exact (binaryInputEdgeEff_of_not_due (.inr (.inl href))).trans (State.bioSample_of_same (.inr (.inl href)))
      · exact (binaryInputEdgeEff_of_not_due (.inr (.inr hlate))).trans (State.bioSample_of_same (.inr (.inr hsame)))
    exact exec_of_guard (exec_binaryInputEdge_eq t i level s) hi (congrArg _ hedge)
  case followed =>
    intro t i level s a raw hi hstep href hraw hfollowed
    have hsample := State.bioSample_of_change hstep href hraw
    rw [hfollowed, bne_self_eq_false] at hsample
    exact exec_of_guard (exec_binaryInputEdge_eq t i level s) hi
      (congrArg _ ((binaryInputEdgeEff_of_not_due (.inr (.inr (.inl hfollowed)))).trans hsample))
  case glitch =>
    intro t i level s a x raw hi hstep href hraw hdiff hlen hearly
    have hedge : binaryInputEdgeEff i level a = ((a.levelNoted i level).incSat (BIO_CHG_GLITCH i)).runBegun i level raw := by
      rw [binaryInputEdgeEff_of_not_due (.inr (.inr (.inr hearly))), State.bioSample_of_change hstep href hraw,
        if_pos (bne_iff_ne.2 hdiff)]
      rfl
    refine ⟨_, exec_of_guard (exec_binaryInputEdge_eq t i level s) hi (congrArg _ hedge), ?_⟩
    simp only [State.bio_offerEdges, State.getF_offerEdges, State.bin_offerEdges]
    exact State.glitch_run (hlen.symm ▸ hi) raw
  case due =>
    intro t i level s a x raw hi hstep href hon hraw hdiff hlen hheld
    have hdue : ChangeDue i a := ⟨hstep, href, hon, hdiff, hheld.trans a.strobeNow_le⟩
    refine ⟨_, exec_of_guard (exec_binaryInputEdge_eq t i level s) hi (congrArg _ (binaryInputEdgeEff_of_due hdue hheld)), ?_⟩
    simp only [State.bio_offerEdges, State.getF_offerEdges, State.bin_offerEdges]
    exact hdue.run_after hi (hlen.symm ▸ hi) hraw
  case change =>
    intro t i s a x lab b hi hstep href hon hdiff hheld
    exact ⟨exec_of_guard (exec_debouncedChange_eq t i s) hi
      (congrArg _ (debouncedChangeEff_of_due ⟨hstep, href, hon, hdiff, hheld⟩)), State.bin_setHalf_same hi a x.raw⟩
  case early =>
    intro t i s a x hi hcase
    exact exec_of_guard (exec_debouncedChange_eq t i s) hi
      ((congrArg _ (debouncedChangeEff_of_not_due (.inr (.inr hcase)))).trans a.offerEdges_self)

end Sys2Proof.Machine

/-!
The recorder's rows and triggers (R253 to R255, R259, R261 to R263, R268, R270): what a row does in each state of its class, what the
triggers of one cycle do, and the ends of records, pulses and mask counts.
-/
namespace Sys2Proof.Machine

/-! ### Rows (R253 to R255, R268, R270) -/

section Rows
variable {c st : Nat} {s : State}

/-- R253, R268: a row of stream `st` comes in a slot of class `c`, which is ARMED or in POST and records the stream. -/
structure RowTaken (c st : Nat) (s : State) : Prop where
  protecting : s.protecting = true
  enabled : s.flag (REC_CCFG_EN c) = true
  recorded : bitN (s.getF (REC_CCFG_STREAMS c)) st = true
  sampled : s.ana.strobe ≠ 0
  atCycle : st = 3 → s.flt.cur.m % 256 = 0
  slot : lget 8 s.tph.slots s.slotNow = c
  classSlot : s.slotNow % 8 ≠ 0
  running : s.recState c = 1 ∨ s.recState c = 2

/-- R268: outside a slot of the class nothing is written. -/
theorem rowWriteEff_of_other_slot (h : lget 8 s.tph.slots s.slotNow ≠ c ∨ s.slotNow % 8 = 0) (full : Bool) :
    rowWriteEff c st full s = s := by
  refine if_pos ?_
  rcases h with h | h <;> simp [h]

/-- R253: a class that is DISARMED or FULL takes no row. -/
theorem rowWriteEff_of_idle (h : s.recState c = 0 ∨ s.recState c = 3) (full : Bool) : rowWriteEff c st full s = s := by
  refine if_pos ?_
  rcases h with h | h <;> simp [h]

/-- R253, R254, R270: a row taken is lost to a full FIFO, enters the ring, or in POST enters the next ring and the record. -/
theorem RowTaken.rowWriteEff_eq (h : RowTaken c st s) (full : Bool) :
    rowWriteEff c st full s =
      (let r := s.rowNow c st
       if full then s.rowLost c
       else if s.recState c = 1 then s.ringRow c st r (s.rcls c).ring
       else
        let b := s.ringRow c st r (s.rcls c).next
        match (s.rcls c).open_ with
        | none => b
        | some o =>
          let base := b.getF (REC_CCFG_BASE c)
          let per := b.basePeriod base
          let g := b.seg o.seg
          let g' := if rowNew g st r && needsRow per g base st o then ringAdd (b.getF (REC_CCAP_CAP c)) base st r g else g
          if recDone per g' base (s.getF (REC_CCFG_STREAMS c)) o then ((b.setSeg o.seg g').closeRec c o false false).afterRec c o
          else b.setSeg o.seg g') := by
  obtain ⟨hprot, hen, hrec, hsamp, hcycle, hslot, hclass, hrun⟩ := h
  have hstate : (decide (s.recState c = 1) || decide (s.recState c = 2)) = true := by simpa using hrun
  have hrow : (decide (st = 3) && s.flt.cur.m % 256 != 0) = false := by simpa using hcycle
  refine if_neg ?_
  simp [hprot, hen, hrec, hsamp, hslot, hclass, hstate, hrow]

theorem rowWriteEff_of_fifo_full (h : RowTaken c st s) : rowWriteEff c st true s = s.rowLost c :=
  h.rowWriteEff_eq true

/-- R253: in ARMED a row enters the ring. -/
theorem rowWriteEff_of_armed (h : RowTaken c st s) (harmed : s.recState c = 1) :
    rowWriteEff c st false s = s.ringRow c st (s.rowNow c st) (s.rcls c).ring :=
  (h.rowWriteEff_eq false).trans (if_pos harmed)

/-- R254, R255: in POST a row enters the next ring, extends the record where the record needs it, and closes it with its last row. -/
theorem rowWriteEff_of_post {o : RecOpen} (h : RowTaken c st s) (hpost : s.recState c = 2) (hopen : (s.rcls c).open_ = some o) :
    rowWriteEff c st false s =
      (let b := s.ringRow c st (s.rowNow c st) (s.rcls c).next
       let base := b.getF (REC_CCFG_BASE c)
       let per := b.basePeriod base
       let g := b.seg o.seg
       let g' := if rowNew g st (s.rowNow c st) = true ∧ needsRow per g base st o = true then
        ringAdd (b.getF (REC_CCAP_CAP c)) base st (s.rowNow c st) g else g
       if recDone per g' base (s.getF (REC_CCFG_STREAMS c)) o = true then ((b.setSeg o.seg g').closeRec c o false false).afterRec c o
       else b.setSeg o.seg g') := by
  rw [h.rowWriteEff_eq, hopen, hpost]
  simp only [Bool.and_eq_true, Bool.false_eq_true, if_false, OfNat.ofNat_ne_one]

end Rows

/-! ### Closed records (R255, R272) -/

section Done
variable {c : Nat} {s : State}

theorem recordIndexCompleteEff_of_none (h : s.tph.done.find? (fun d => d.1 = c) = none) : recordIndexCompleteEff c s = s := by
  simp [recordIndexCompleteEff, h]

/-- R255, R272: the index entry of a closed record becomes COMPLETE, and event 72 reports it. -/
theorem recordIndexCompleteEff_of_some {d : Nat × Nat × Nat × Bool} (href : s.sys.refPresent = true)
    (h : s.tph.done.find? (fun d => d.1 = c) = some d) :
    recordIndexCompleteEff c s =
      (({ s with tph := { s.tph with done := s.tph.done.filter (fun e => e.2.1 != d.2.1) } }.setRidx d.2.1
        { s.ridx d.2.1 with st := 3, trunc := d.2.2.2 }).raise 72 c d.2.2.1) := by
  simp only [recordIndexCompleteEff, href, if_true, h]
  rfl

end Done

/-! ### Triggers (R254, R257, R259) -/

section Triggers
variable {c : Nat} {ts : List RecTrig} {s : State}

/-- R259: the oldest triggers offered reach every class in one cycle and leave the queue. -/
theorem triggerArrivalEff_of_reference (href : s.sys.refPresent = true) (n : Nat) :
    triggerArrivalEff n s =
      (upto 8).foldl (fun b c => b.trigClass c (s.tph.offered.take n))
        { s with tph := { s.tph with offered := s.tph.offered.drop n } } := by
  have hrest : s.tph.offered.drop (s.tph.offered.take n).length = s.tph.offered.drop n := by
    rcases Nat.le_total n s.tph.offered.length with h | h
    · rw [List.length_take_of_le h]
    · rw [List.take_of_length_le h, List.drop_length, List.drop_of_length_le h]
  simp only [triggerArrivalEff, State.trigCycle, href, if_true, hrest]

/-- R259: triggers hit a class that is in use. -/
structure ClassHit (c : Nat) (ts : List RecTrig) (s : State) : Prop where
  enabled : s.flag (REC_CCFG_EN c) = true
  hit : s.hits c ts ≠ []

theorem ClassHit.not_skipped (h : ClassHit c ts s) : ¬ (!s.flag (REC_CCFG_EN c) || (s.hits c ts).isEmpty) = true := by
  simp [h.enabled, h.hit]

/-- R259: a FULL class misses every trigger, and counts it. -/
theorem ClassHit.trigClass_of_full (h : ClassHit c ts s) (hfull : s.recState c = 3) :
    s.trigClass c ts = s.addSat (REC_CCNT_MISSED c) (s.hits c ts).length := by
  refine (if_neg h.not_skipped).trans ?_
  simp only [hfull]

/-- R259: in POST every trigger is additional. -/
theorem ClassHit.trigClass_of_post {o : RecOpen} (h : ClassHit c ts s) (hpost : s.recState c = 2) (hopen : (s.rcls c).open_ = some o) :
    s.trigClass c ts =
      s.setCls c { s.rcls c with open_ := some ((s.hits c ts).foldl (fun o e => s.additional c e o) o) } := by
  refine (if_neg h.not_skipped).trans ?_
  simp only [hpost, hopen, Option.map_some]

/-- R254, R259: in ARMED the first trigger is primary, the others are additional, and the record stays open while its last base row is
still to come. -/
theorem trigClass_of_armed {g : Nat} {e : Nat × RecTrig} {rest : List (Nat × RecTrig)} (harmed : s.recState c = 1)
    (hen : s.flag (REC_CCFG_EN c) = true) (hhits : s.hits c ts = e :: rest) (hring : (s.rcls c).ring = some g)
    (hlast :
      let p := s.primary c e g
      let o := rest.foldl (fun o e => p.2.additional c e o) p.1
      let b := p.2.setCls c { p.2.rcls c with open_ := some o }
      endTau (b.basePeriod (b.getF (REC_CCFG_BASE c))) (b.seg g) (b.getF (REC_CCFG_BASE c)) o = none) :
    s.trigClass c ts =
      (let p := s.primary c e g
       let o := rest.foldl (fun o e => p.2.additional c e o) p.1
       p.2.setCls c { p.2.rcls c with open_ := some o }) := by
  have hhit : ClassHit c ts s := ⟨hen, by simp [hhits]⟩
  refine (if_neg hhit.not_skipped).trans ?_
  simp only [harmed, hhits, hring]
  exact if_neg (by simpa using hlast)

/-- R259: an additional trigger counts in NADD, is listed while fewer than fifteen are, and leaves the record's span as it was. -/
theorem State.additional_frame (s : State) (c : Nat) (e : Nat × RecTrig) (o : RecOpen) :
    let o' := s.additional c e o
    o'.nadd = satInc 0xFFFF o.nadd ∧ o'.post = o.post ∧ o'.pre = o.pre ∧ o'.tau = o.tau ∧ o'.seg = o.seg ∧
      (15 ≤ o.adds.length → o'.adds = o.adds) :=
  ⟨rfl, rfl, rfl, rfl, rfl, fun h => if_neg (Nat.not_lt.2 h)⟩

end Triggers

/-! ### Trigger inputs, trigger outputs and mask counts (R195, R261 to R263) -/

section Sources
variable {c i k : Nat} {s : State}

/-- R195, R261: an edge at a ball of trigger use is offered with the strobe that samples it. -/
theorem trigInEdgeEff_eq (i : Nat) (rising : Bool) (s : State) :
    trigInEdgeEff i rising s =
      (let tau := (s.strobeNow : Int) * 15625 * 4294967296
       if (s.protecting && bitN s.sys.ballMap (2 + i)) = false then s
       else { s with tph := { s.tph with offered := s.tph.offered ++ [⟨8, i, rising, tau, s.labelOf tau, none⟩] } }) := by
  have htau : (s.strobeNow : Int) * strobeTau = (s.strobeNow : Int) * 15625 * 4294967296 := (Int.mul_assoc _ _ _).symm
  simp only [trigInEdgeEff, htau, State.offer]
  cases s.protecting && bitN s.sys.ballMap (2 + i) <;> rfl

theorem trigOutPulseEndEff_of_none (h : lget none s.tph.touts i = none) : trigOutPulseEndEff i s = s := by
  simp [trigOutPulseEndEff, h]

/-- R262: a pulse ends at its strobe, while the reference is present. -/
theorem trigOutPulseEndEff_of_some {n : Nat} (h : lget none s.tph.touts i = some n) :
    trigOutPulseEndEff i s =
      if s.ana.strobe < n ∨ s.sys.refPresent = false then s else { s with tph := { s.tph with touts := lset s.tph.touts i none } } := by
  simp only [trigOutPulseEndEff, h]
  by_cases hlate : n ≤ s.ana.strobe <;> cases s.sys.refPresent <;> simp [hlate]

/-- R263: a class tests its mask. -/
structure MaskTested (c : Nat) (s : State) : Prop where
  reference : s.sys.refPresent = true
  enabled : s.flag (REC_CCFG_EN c) = true
  mask : s.flag (REC_CCFG_MASK_EN c) = true

/-- R263: a count below NVIOL offers nothing. -/
theorem maskViolationEff_of_few
    (h : (Store.get (0, 0) (s.rcls c).runs k).1 = 0 ∨ (Store.get (0, 0) (s.rcls c).runs k).1 < s.getF (REC_CMASK_NVIOL c)) :
    maskViolationEff c k s = s := by
  refine if_pos ?_
  rcases h with h | h <;> simp [h]

/-- R263: a count at NVIOL offers the class's trigger, at the first violating sample of the run, and starts again. -/
theorem MaskTested.maskViolationEff_of_count (h : MaskTested c s) (hrun : (Store.get (0, 0) (s.rcls c).runs k).1 ≠ 0)
    (hcount : s.getF (REC_CMASK_NVIOL c) ≤ (Store.get (0, 0) (s.rcls c).runs k).1) :
    maskViolationEff c k s =
      (let run := Store.get (0, 0) (s.rcls c).runs k
       let b := s.setCls c { s.rcls c with runs := Store.set (0, 0) (s.rcls c).runs k (0, 0) }
       b.offer ⟨6, 0, true, run.2, b.labelOf run.2, some c⟩) := by
  refine if_neg ?_
  simp [h.reference, h.enabled, h.mask, hrun, Nat.not_lt.2 hcount]

/-- R263: a trigger offered behind a change of a class's own state is one more in the queue, and no register or event. -/
theorem State.offer_setCls (s : State) (c : Nat) (x : RecClass) (t : RecTrig) :
    ((s.setCls c x).offer t).tph.offered.length = s.tph.offered.length + 1 ∧ ((s.setCls c x).offer t).regs = s.regs ∧
      ((s.setCls c x).offer t).evt = s.evt :=
  ⟨List.length_append, rfl, rfl⟩

end Sources

/-! ### The commands -/

theorem exec_trigInEdge_eq (t i : Nat) (rising : Bool) (s : State) :
    exec (.trigInEdge t i rising) s = .next (if i < 2 then trigInEdgeEff i rising (s.at t) else s.at t) := by
  simp [exec_trigInEdge]

theorem exec_rowWrite_eq (t c st : Nat) (full : Bool) (s : State) :
    exec (.rowWrite t c st full) s = .next (if c < 8 ∧ st < 5 then rowWriteEff c st full (s.at t) else s.at t) := by
  simp [exec_rowWrite]

theorem exec_recordIndexComplete_eq (t c : Nat) (s : State) :
    exec (.recordIndexComplete t c) s = .next (if c < 8 then recordIndexCompleteEff c (s.at t) else s.at t) := by
  simp [exec_recordIndexComplete]

theorem exec_trigOutPulseEnd_eq (t i : Nat) (s : State) :
    exec (.trigOutPulseEnd t i) s = .next (if i < 2 then trigOutPulseEndEff i (s.at t) else s.at t) := by
  simp [exec_trigOutPulseEnd]

theorem exec_maskViolation_eq (t c k : Nat) (s : State) :
    exec (.maskViolation t c k) s = .next (if c < 8 ∧ k < 128 then maskViolationEff c k (s.at t) else s.at t) := by
  simp [exec_maskViolation]

/-- Settles O14: each clause is the lemma above that states its effect, behind the equation of its command. -/
theorem rowsAndTriggers : Obligations.RowsAndTriggers := by
  unfold Obligations.RowsAndTriggers
  refine ⟨?rows, ?done, ?arrival, fun s c ts hfull hen hhit => ClassHit.trigClass_of_full ⟨hen, hhit⟩ hfull,
    fun s c g e rest ts harmed hen hhits hring => trigClass_of_armed harmed hen hhits hring,
    fun s c o ts hpost hen hhit hopen => ClassHit.trigClass_of_post ⟨hen, hhit⟩ hpost hopen, State.additional_frame,
    ?trigIn, ?trigOut, ?mask, exec_trigInEdge_eq, exec_rowWrite_eq, exec_recordIndexComplete_eq, exec_triggerArrival,
    exec_trigOutPulseEnd_eq, exec_maskViolation_eq⟩
  case rows =>
    intro t c st s a hc hst hprot hen hrec hsamp hcycle
    have row {full : Bool} {s' : State} (heff : rowWriteEff c st full a = s') : exec (.rowWrite t c st full) s = .next s' :=
      exec_of_guard (exec_rowWrite_eq t c st full s) ⟨hc, hst⟩ heff
    refine ⟨fun hother full => row (rowWriteEff_of_other_slot hother full), fun hslot hclass => ?_⟩
    have taken (hrun : a.recState c = 1 ∨ a.recState c = 2) : RowTaken c st a :=
      ⟨hprot, hen, hrec, hsamp, hcycle, hslot, hclass, hrun⟩
    exact ⟨fun harmed => row (rowWriteEff_of_armed (taken (.inl harmed)) harmed),
      fun o hpost hopen => row (rowWriteEff_of_post (taken (.inr hpost)) hpost hopen),
      fun hrun => row (rowWriteEff_of_fifo_full (taken hrun)), fun hidle full => row (rowWriteEff_of_idle hidle full)⟩
  case done =>
    intro t c s a hc href
    exact ⟨fun hnone => exec_of_guard (exec_recordIndexComplete_eq t c s) hc (recordIndexCompleteEff_of_none hnone),
      fun d hsome => exec_of_guard (exec_recordIndexComplete_eq t c s) hc (recordIndexCompleteEff_of_some href hsome)⟩
  case arrival =>
    intro t n s a href
    rw [exec_triggerArrival, triggerArrivalEff_of_reference href]
  case trigIn =>
    intro t i rising s a tau hi
    exact exec_of_guard (exec_trigInEdge_eq t i rising s) hi (trigInEdgeEff_eq i rising a)
  case trigOut =>
    intro t i n s a hi
    exact ⟨fun hnone => exec_of_guard (exec_trigOutPulseEnd_eq t i s) hi (trigOutPulseEndEff_of_none hnone),
      fun hsome => exec_of_guard (exec_trigOutPulseEnd_eq t i s) hi (trigOutPulseEndEff_of_some hsome)⟩
  case mask =>
    intro t c k s a run hc hk href hen hmask
    have violation {s'} (heff : maskViolationEff c k a = s') := exec_of_guard (exec_maskViolation_eq t c k s) ⟨hc, hk⟩ heff
    exact ⟨fun hfew => violation (maskViolationEff_of_few hfew), fun hrun hcount =>
      ⟨_, violation (MaskTested.maskViolationEff_of_count ⟨href, hen, hmask⟩ hrun hcount), State.offer_setCls a c _ _⟩⟩

end Sys2Proof.Machine

/-!
The recorder's requests (R247, R250 to R252, R254, R258, R260, R261, R271): the control words of a class, the segment it takes, the
selection and release of a segment, and the record window.
-/
namespace Sys2Proof.Machine

/-! ### Segments of a class (R247, R254) -/

/-- R254: a class takes its lowest-numbered free segment, and nothing else changes. -/
theorem State.takeSeg_of_first_free {c g : Nat} {s : State} (hlow : s.segFirst c ≤ g) (hhigh : g < s.segFirst c + s.nseg c)
    (hfree : s.segFree g = true) (hbefore : ∀ h, s.segFirst c ≤ h → h < g → s.segFree h = false) :
    s.takeSeg c none = (some g, s) := by
  have hfind : (upto (s.nseg c)).find? (s.segFree ∘ fun k => s.segFirst c + k) = some (g - s.segFirst c) := by
    refine List.find?_range_eq_some.2 ⟨?_, List.mem_range.2 (by omega), fun k hk => ?_⟩
    · rw [Function.comp_apply, Nat.add_sub_cancel' hlow, hfree]
    · rw [Function.comp_apply, hbefore _ (Nat.le_add_right _ k) (by omega)]
      rfl
  have hall (l : List Nat) : l.filter (fun h => some h != none) = l := List.filter_eq_self.2 fun _ _ => rfl
  simp only [State.takeSeg, hall, List.find?_map, hfind, Option.map_some, Nat.add_sub_cancel' hlow]

/-- R247: states that agree on the segments in use agree on the class of each. -/
theorem State.segClass_of_nseg {s s' : State} (h : ∀ k, s'.nseg k = s.nseg k) (g : Nat) : s'.segClass g = s.segClass g := by
  have hnseg : s'.nseg = s.nseg := funext h
  unfold State.segClass State.segFirst
  rw [hnseg]

/-! ### Control words (R250 to R252, R259, R260, R275) -/

section Control
variable {c v : Nat} {r : Requester} {s s' : State} {st : Status}

/-- R275: a control word with one bit set is the request of that bit, to a class in use. -/
theorem State.recCctlW_of_one_bit (hen : s.flag (REC_CCFG_EN c) = true) :
    State.recCctlW c 1 s = State.recArm c s ∧ State.recCctlW c 2 s = State.recDisarm c s ∧
      State.recCctlW c 4 s = State.recApply c s ∧ State.recCctlW c 8 s = State.recTrig c s := by
  simp [State.recCctlW, hen, bitN]

theorem State.cctlWrite_of_ok (hjudge : s.judge r (REC_CCTL c) = .allowed) (heff : State.recCctlW c v s = (.ok, s')) :
    (s.cctlWrite r c v).2 = s'.recordWrite r (REC_CCTL c) .ok := by
  simp [State.cctlWrite, State.hostWrite, hjudge, heff]

/-- R482: a control word refused leaves nothing but its outcome, where it asks for no APPLY. -/
theorem State.cctlWrite_of_refused (hjudge : s.judge r (REC_CCTL c) = .allowed) (heff : State.recCctlW c v s = (st, s')) (hst : st ≠ .ok)
    (happly : bitN v 2 = false) : (s.cctlWrite r c v).2 = s.recordWrite r (REC_CCTL c) st := by
  rw [State.cctlWrite]
  simp only [happly, Bool.and_false, Bool.false_and, Bool.false_eq_true, if_false]
  exact State.hostWrite_of_refused hjudge heff hst

/-- R252: a refused APPLY gives both registers the counts in force back. -/
theorem State.cctlWrite_of_apply_refused (hjudge : s.judge r (REC_CCTL c) = .allowed) (hen : s.flag (REC_CCFG_EN c) = true)
    (heff : State.recApply c s = (st, s')) (hst : st ≠ .ok) :
    (s.cctlWrite r c 4).2 =
      ((s.recordWrite r (REC_CCTL c) st).setF (REC_CPRE_PRE c) (s.rcls c).pre).setF (REC_CPOST_POST c) (s.rcls c).post := by
  obtain ⟨-, -, hword, -⟩ := State.recCctlW_of_one_bit (c := c) hen
  have hwrite : s.hostWrite r (REC_CCTL c) (State.recCctlW c 4) = (st, s.recordWrite r (REC_CCTL c) st) := by
    cases st with
    | ok => exact absurd rfl hst
    | _ => simp only [State.hostWrite, hjudge, hword, heff]
  simp [State.cctlWrite, hwrite, hst, hjudge, hen, bitN]

/-- R21, R260: outside RUN and TEST, and in FULL, ARM is refused. -/
theorem State.recArm_of_refused (h : s.protecting = false ∨ s.recState c = 3) : State.recArm c s = (.stateDenied, s) := by
  refine if_pos ?_
  rcases h with h | h <;> simp [h]

/-- R260, R264: where a class is not FULL, ARM clears MASKSTOP and arms a class that is DISARMED. -/
theorem State.recArm_of_accepted (hprot : s.protecting = true) (hfull : s.recState c ≠ 3) :
    State.recArm c s =
      (let b := s.setFlag (REC_CSTAT_MASKSTOP c) false
       if b.recState c != 0 then (.ok, b)
       else
        let n := b.takeSeg c none
        match n.1 with
        | some g => (.ok, ((n.2.armSeg c g).setCls c { n.2.rcls c with ring := some g }).recShow c 1)
        | none => (.ok, n.2.recShow c 3)) :=
  if_neg (by simp [hprot, hfull])

theorem fits_REC_CSTAT_MASKSTOP (c : Nat) : (REC_CSTAT_MASKSTOP c).Fits := (by decide : 2 + 1 ≤ 32)

/-- R275: MASKSTOP stands beside the state of its class. -/
theorem State.recState_setFlag_maskstop (b : Bool) : (s.setFlag (REC_CSTAT_MASKSTOP c) b).recState c = s.recState c :=
  State.getF_setF_apart (fits_REC_CSTAT_MASKSTOP c) (.inr (.inl (by decide : 0 + 2 ≤ 2))) _

theorem State.recArm_of_running (hprot : s.protecting = true) (hfull : s.recState c ≠ 3) (hdis : s.recState c ≠ 0) :
    State.recArm c s = (.ok, s.setFlag (REC_CSTAT_MASKSTOP c) false) := by
  refine (State.recArm_of_accepted hprot hfull).trans (if_pos ?_)
  rwa [State.recState_setFlag_maskstop, bne_iff_ne]

/-- R260: ARM of a DISARMED class, by the segment it can take. -/
theorem State.recArm_of_disarmed (hprot : s.protecting = true) (hdis : s.recState c = 0) :
    State.recArm c s =
      (.ok,
        let n := (s.setFlag (REC_CSTAT_MASKSTOP c) false).takeSeg c none
        match n.1 with
        | some g => ((n.2.armSeg c g).setCls c { n.2.rcls c with ring := some g }).recShow c 1
        | none => n.2.recShow c 3) := by
  refine (State.recArm_of_accepted hprot (by simp [hdis])).trans ((if_neg ?_).trans ?_)
  · simp [State.recState_setFlag_maskstop, hdis]
  · dsimp only
    split <;> rfl

/-- R260: a DISARMED class is ARMED with the segment taken. -/
theorem State.recArm_of_segment {g : Nat} (hprot : s.protecting = true) (hdis : s.recState c = 0)
    (h : ((s.setFlag (REC_CSTAT_MASKSTOP c) false).takeSeg c none).1 = some g) :
    State.recArm c s =
      (.ok,
        let n := (s.setFlag (REC_CSTAT_MASKSTOP c) false).takeSeg c none
        ((n.2.armSeg c g).setCls c { n.2.rcls c with ring := some g }).recShow c 1) := by
  rw [State.recArm_of_disarmed hprot hdis]
  simp only [h]

/-- R260: a DISARMED class is FULL where no segment is to be had. -/
theorem State.recArm_of_no_segment (hprot : s.protecting = true) (hdis : s.recState c = 0)
    (h : ((s.setFlag (REC_CSTAT_MASKSTOP c) false).takeSeg c none).1 = none) :
    State.recArm c s = (.ok, ((s.setFlag (REC_CSTAT_MASKSTOP c) false).takeSeg c none).2.recShow c 3) := by
  rw [State.recArm_of_disarmed hprot hdis]
  simp only [h]

theorem State.recDisarm_of_idle (h : s.recState c = 0 ∨ s.recState c = 3) : State.recDisarm c s = (.ok, s.recShow c 0) := by
  rcases h with h | h <;> simp [State.recDisarm, h]

/-- R260: in POST a DISARM waits for the record to complete. -/
theorem State.recDisarm_of_post (h : s.recState c = 2) :
    State.recDisarm c s = (.ok, s.setCls c { s.rcls c with disarm := true }) := by
  simp [State.recDisarm, h]

/-- R260: in ARMED the ring becomes FREE at once. -/
theorem State.recDisarm_of_armed (h : s.recState c = 1) :
    State.recDisarm c s = (.ok, ((s.freeSeg c (s.rcls c).ring).setCls c { s.rcls c with ring := none }).recShow c 0) := by
  simp [State.recDisarm, h]

/-- R250 to R252: how an APPLY of the counts as written is answered. -/
def State.applyStatus (s : State) (c : Nat) : Status :=
  if s.protecting = false then .stateDenied
  else if s.getF (REC_CPOST_POST c) = 0 ∨ s.getF (REC_CCAP_CAP c) < s.getF (REC_CPOST_POST c) ∨
    s.getF (REC_CCAP_CAP c) ≤ s.getF (REC_CPRE_PRE c) then .valueRange
  else if s.getF (REC_CCAP_CAP c) < s.getF (REC_CPRE_PRE c) + s.getF (REC_CPOST_POST c) then .lenRange
  else .ok

/-- R250 to R252: an APPLY answered OK takes the counts, any other gives the registers those in force back. -/
theorem State.recApply_eq (c : Nat) (s : State) :
    State.recApply c s =
      (s.applyStatus c,
        match s.applyStatus c with
        | .ok => s.setCls c { s.rcls c with pre := s.getF (REC_CPRE_PRE c), post := s.getF (REC_CPOST_POST c) }
        | _ => (s.setF (REC_CPRE_PRE c) (s.rcls c).pre).setF (REC_CPOST_POST c) (s.rcls c).post) := by
  simp only [State.recApply, State.applyStatus, Bool.not_eq_true', Bool.or_eq_true, decide_eq_true_eq, or_assoc]
  split_ifs <;> rfl

/-- R250, R251: counts that fit the capacity are taken in RUN and TEST. -/
theorem State.applyStatus_of_fitting (hprot : s.protecting = true) (hpost : s.getF (REC_CPOST_POST c) ≠ 0)
    (hfit : s.getF (REC_CPRE_PRE c) + s.getF (REC_CPOST_POST c) ≤ s.getF (REC_CCAP_CAP c)) : s.applyStatus c = .ok := by
  rw [State.applyStatus, if_neg (by simp [hprot]), if_neg (by omega), if_neg (by omega)]

/-- R259, R261: TRIG is a trigger of kind command at the time of its acceptance. -/
theorem State.recTrig_of_protecting (h : s.protecting = true) :
    State.recTrig c s = (.ok, s.trigClass c [⟨10, 0, true, s.tauOf (s.sampAt s.now), s.sampAt s.now, some c⟩]) := by
  simp [State.recTrig, h]

end Control

/-! ### Selection and release of a segment (R258, R271) -/

section Segments
variable {r : Requester} {g v : Nat} {s : State}

/-- R427: an access that the world of its segment allows is judged by its register alone. -/
theorem State.segWrite_of_allowed (h : s.regionSecure (s.segByte g) = false ∨ s.reqSecure r = true) (a : Nat)
    (eff : State → Status × State) : s.segWrite r a g eff = s.hostWrite r a eff := by
  refine if_neg ?_
  rcases h with h | h <;> simp [h]

/-- R271: a selection takes a COMPLETE segment and a stream that it holds. -/
theorem State.recWselW_of_complete (hstream : v / 4096 % 8 < 5) (hcomplete : (s.ridx (v % 4096)).st = 3)
    (hheld : bitN (s.seg (v % 4096)).streams (v / 4096 % 8) = true) :
    State.recWselW v s =
      (.ok, (({ s with tph := { s.tph with wsel := some (v % 4096) } }).setFlag REC_WSTAT_SEL true).wr REC_WSEL
        (BitVec.ofNat 32 (v % 65536))) := by
  simp [State.recWselW, Nat.not_le.2 hstream, hcomplete, hheld]

theorem State.recRelease_of_range (h : 4096 ≤ g) : State.recRelease g s = (.valueRange, s) := if_pos h

theorem State.recRelease_of_not_complete (hrange : g < 4096) (h : (s.ridx g).st ≠ 3) : State.recRelease g s = (.stateDenied, s) :=
  (if_neg (Nat.not_le.2 hrange)).trans (if_pos (bne_iff_ne.2 h))

/-- R271: a segment is RELEASED, and its selection in the record window ends. -/
def State.released (s : State) (g : Nat) : State :=
  let b := s.setRidx g { s.ridx g with st := 4 }
  if s.tph.wsel = some g then { b with tph := { b.tph with wsel := none } }.setFlag REC_WSTAT_SEL false else b

theorem fits_REC_WSTAT_SEL : REC_WSTAT_SEL.Fits := (by decide : 0 + 1 ≤ 32)

/-- R247: the registers of the classes, and so the segments of each, lie apart from that of the record window. -/
theorem State.nseg_setFlag_sel (b : Bool) (k : Nat) : (s.setFlag REC_WSTAT_SEL b).nseg k = s.nseg k := by
  have hkept {f : Field} (haddr : f.addr = REC_CCFG k) : (s.setFlag REC_WSTAT_SEL b).getF f = s.getF f := by
    refine State.getF_setF_apart fits_REC_WSTAT_SEL (.inl ?_) _
    simp only [haddr, REC_CCFG, REC_WSTAT_SEL, REC_WSTAT]
    omega
  rw [State.nseg, State.flag_eq_of_getF (hkept rfl), hkept rfl, State.nseg]

/-- R247: a release leaves each segment with its class. -/
theorem State.segClass_released (h : Nat) : (s.released g).segClass h = s.segClass h := by
  refine State.segClass_of_nseg (fun k => ?_) h
  unfold State.released
  dsimp only
  split
  · exact State.nseg_setFlag_sel false k
  · rfl

/-- R258, R271: what a release of a COMPLETE segment comes to, by the class that owns it. -/
theorem State.recRelease_of_complete (hrange : g < 4096) (hcomplete : (s.ridx g).st = 3) :
    State.recRelease g s =
      (let d := s.released g
       match s.segClass g with
       | some c =>
        if d.flag (REC_CCFG_EN c) && d.recState c = 3 then
          (.ok, ((d.armSeg c g).setCls c { d.rcls c with ring := some g }).recShow c 1)
        else (.ok, d.setSeg g resetSeg)
       | none => (.ok, d.setSeg g resetSeg)) := by
  rw [← State.segClass_released (g := g)]
  exact (if_neg (Nat.not_le.2 hrange)).trans (if_neg (by simp [hcomplete]))

/-- R258: a FULL class arms with the segment released. -/
theorem State.recRelease_of_full_class {c : Nat} (hrange : g < 4096) (hcomplete : (s.ridx g).st = 3) (hclass : s.segClass g = some c)
    (hen : (s.released g).flag (REC_CCFG_EN c) = true) (hfull : (s.released g).recState c = 3) :
    State.recRelease g s =
      (.ok, (((s.released g).armSeg c g).setCls c { (s.released g).rcls c with ring := some g }).recShow c 1) := by
  rw [State.recRelease_of_complete hrange hcomplete, hclass]
  exact if_pos (by simp [hen, hfull])

/-- R271: where no FULL class owns it, the segment's rows are discarded alone. -/
theorem State.recRelease_of_no_full_class (hrange : g < 4096) (hcomplete : (s.ridx g).st = 3)
    (h : ∀ c, s.segClass g = some c → (s.released g).flag (REC_CCFG_EN c) = false ∨ (s.released g).recState c ≠ 3) :
    State.recRelease g s = (.ok, (s.released g).setSeg g resetSeg) := by
  rw [State.recRelease_of_complete hrange hcomplete]
  cases hclass : s.segClass g with
  | none => rfl
  | some c =>
    refine if_neg ?_
    rcases h c hclass with h | h <;> simp [h]

end Segments

/-! ### The record window (R266, R271, R482) -/

section Window
variable {r : Requester} {o : Nat} {s : State}

/-- R427, R484: the map and the world of the window allow an access at an offset of it. -/
structure WindowOpen (r : Requester) (o : Nat) (s : State) : Prop where
  mapped : s.sys.mapOn = true
  world : s.windowSecure (0x200000 + o) = false ∨ s.reqSecure r = true

theorem WindowOpen.not_denied (h : WindowOpen r o s) : (s.windowSecure (0x200000 + o) && !s.reqSecure r) = false := by
  rcases h.world with hworld | hworld <;> simp [hworld]

/-- R271: a read of the window with no segment selected. -/
theorem WindowOpen.recordWindowReadEff_of_none (h : WindowOpen r o s) (hsel : s.tph.wsel = none) :
    recordWindowReadEff r o s = (s.setFlag REC_WSTAT_EOV true).readOut [0] := by
  simp [recordWindowReadEff, State.windowRead, h.mapped, h.not_denied, hsel, State.readOut]

/-- R271: a read of the window shows a word of the selected view, and beyond its end 0, with EOV. -/
theorem WindowOpen.recordWindowReadEff_of_some {g : Nat} (h : WindowOpen r o s) (hsel : s.tph.wsel = some g) :
    recordWindowReadEff r o s =
      (let v := viewBytes (s.seg g) (s.getF REC_WSEL_STREAM) (s.flag REC_WSEL_VIEW)
       let p := s.getF REC_WIN_BASE_OFS * 4096 + o / 4 * 4
       if v.length ≤ p then (s.setFlag REC_WSTAT_EOV true).readOut [0]
       else (s.setRidx g { s.ridx g with read := true }).readOut [ofLe ((v.drop p).take 4)]) := by
  simp only [recordWindowReadEff, State.windowRead, h.mapped, h.not_denied, hsel, Nat.add_sub_cancel_left, Bool.not_true,
    Bool.false_eq_true, if_false]
  split <;> rfl

/-- R271, R482: a write to the window changes nothing and is refused. -/
theorem WindowOpen.recordWindowWriteEff_eq (h : WindowOpen r o s) :
    recordWindowWriteEff r o s = s.recordWrite r (0x200000 + o) .valueRange := by
  simp [recordWindowWriteEff, State.windowWrite, h.mapped, h.not_denied]

end Window

/-! ### The commands -/

theorem exec_recCctlArm_eq (t : Nat) (r : Requester) (c : Nat) (s : State) :
    exec (.recCctlArm t r c) s =
      .next (if c < 8 ∧ (s.at t).trAlive (reqIdx r) = true then recCctlArmEff r c (s.at t) else s.at t) := by
  simp [exec_recCctlArm]

theorem exec_recCctlDisarm_eq (t : Nat) (r : Requester) (c : Nat) (s : State) :
    exec (.recCctlDisarm t r c) s =
      .next (if c < 8 ∧ (s.at t).trAlive (reqIdx r) = true then recCctlDisarmEff r c (s.at t) else s.at t) := by
  simp [exec_recCctlDisarm]

theorem exec_recCctlApply_eq (t : Nat) (r : Requester) (c : Nat) (s : State) :
    exec (.recCctlApply t r c) s =
      .next (if c < 8 ∧ (s.at t).trAlive (reqIdx r) = true then recCctlApplyEff r c (s.at t) else s.at t) := by
  simp [exec_recCctlApply]

theorem exec_recCctlTrig_eq (t : Nat) (r : Requester) (c : Nat) (s : State) :
    exec (.recCctlTrig t r c) s =
      .next (if c < 8 ∧ (s.at t).trAlive (reqIdx r) = true then recCctlTrigEff r c (s.at t) else s.at t) := by
  simp [exec_recCctlTrig]

theorem exec_recordWindowRead_eq (t : Nat) (r : Requester) (o : Nat) (s : State) :
    exec (.recordWindowRead t r o) s =
      .next (if o < 0x600000 ∧ (s.at t).trAlive (reqIdx r) = true then recordWindowReadEff r o (s.at t) else s.at t) := by
  simp [exec_recordWindowRead]

theorem exec_recordWindowWrite_eq (t : Nat) (r : Requester) (o : Nat) (s : State) :
    exec (.recordWindowWrite t r o) s =
      .next (if o < 0x600000 ∧ (s.at t).trAlive (reqIdx r) = true then recordWindowWriteEff r o (s.at t) else s.at t) := by
  simp [exec_recordWindowWrite]

/-- Settles O15: each clause is the lemma above that states its effect, behind the equation of its command. -/
theorem recorderCommands : Obligations.RecorderCommands := by
  unfold Obligations.RecorderCommands
  refine ⟨?control, ?select, ?release, fun c g s hlow hhigh hfree hbefore => State.takeSeg_of_first_free hlow hhigh hfree hbefore,
    ?window, exec_recCctlArm_eq, exec_recCctlDisarm_eq, exec_recCctlApply_eq, exec_recCctlTrig_eq, exec_recWselWrite,
    exec_recRelWrite, exec_recordWindowRead_eq, exec_recordWindowWrite_eq⟩
  case control =>
    intro t c r s a hc halive hjudge hen
    obtain ⟨hwordArm, hwordDisarm, hwordApply, hwordTrig⟩ := State.recCctlW_of_one_bit (c := c) hen
    have arm {s'} (heff : State.recArm c a = (.ok, s')) :=
      exec_of_guard (exec_recCctlArm_eq t r c s) ⟨hc, halive⟩ (State.cctlWrite_of_ok hjudge (hwordArm.trans heff))
    have armRefused (h : a.protecting = false ∨ a.recState c = 3) :=
      exec_of_guard (exec_recCctlArm_eq t r c s) ⟨hc, halive⟩
        (State.cctlWrite_of_refused hjudge (hwordArm.trans (State.recArm_of_refused h)) (by simp) (by decide))
    have disarm {s'} (heff : State.recDisarm c a = (.ok, s')) :=
      exec_of_guard (exec_recCctlDisarm_eq t r c s) ⟨hc, halive⟩ (State.cctlWrite_of_ok hjudge (hwordDisarm.trans heff))
    have happly := State.recApply_eq c a
    refine ⟨fun hprot => armRefused (.inl hprot), fun hprot hfull hdis => arm (State.recArm_of_running hprot hfull hdis),
      fun hprot hdis => ⟨fun g hg => arm (State.recArm_of_segment hprot hdis hg),
        fun hnone => arm (State.recArm_of_no_segment hprot hdis hnone)⟩,
      fun hfull => armRefused (.inr hfull), fun hidle => disarm (State.recDisarm_of_idle hidle),
      fun hpost => disarm (State.recDisarm_of_post hpost), fun harmed => disarm (State.recDisarm_of_armed harmed),
      fun hprot hpost hfit => ?taken, fun st hst hrefused => ?restored, fun hprot => ?trig⟩
    case taken =>
      rw [State.applyStatus_of_fitting hprot hpost hfit] at happly
      exact exec_of_guard (exec_recCctlApply_eq t r c s) ⟨hc, halive⟩ (State.cctlWrite_of_ok hjudge (hwordApply.trans happly))
    case restored =>
      rw [show a.applyStatus c = st from hst.symm] at happly
      exact exec_of_guard (exec_recCctlApply_eq t r c s) ⟨hc, halive⟩
        (State.cctlWrite_of_apply_refused hjudge hen happly hrefused)
    case trig =>
      exact exec_of_guard (exec_recCctlTrig_eq t r c s) ⟨hc, halive⟩
        (State.cctlWrite_of_ok hjudge (hwordTrig.trans (State.recTrig_of_protecting hprot)))
  case select =>
    intro t v r s a g st halive hjudge hworld hstream hcomplete hheld
    refine exec_of_guard (exec_recWselWrite t r v s) halive ?_
    rw [recWselWriteEff, State.segWrite_of_allowed hworld]
    exact State.hostWrite_of_ok hjudge (State.recWselW_of_complete hstream hcomplete hheld)
  case release =>
    intro t v r s a halive hjudge hworld
    have release {s'} (heff : (a.hostWrite r REC_REL (State.recRelease v)).2 = s') : exec (.recRelWrite t r v) s = .next s' :=
      exec_of_guard (exec_recRelWrite t r v s) halive ((congrArg Prod.snd (State.segWrite_of_allowed hworld _ _)).trans heff)
    refine ⟨fun hrange => release (State.hostWrite_of_refused hjudge (State.recRelease_of_range hrange) (by simp)),
      fun hrange hst => release (State.hostWrite_of_refused hjudge (State.recRelease_of_not_complete hrange hst) (by simp)),
      fun hrange hcomplete => ⟨fun c hclass hen hfull => ?_, fun hnone => ?_⟩⟩
    · exact release (State.hostWrite_of_ok hjudge (State.recRelease_of_full_class hrange hcomplete hclass hen hfull))
    · exact release (State.hostWrite_of_ok hjudge (State.recRelease_of_no_full_class hrange hcomplete hnone))
  case window =>
    intro t o r s a ho halive hmap hworld
    have hopen : WindowOpen r o a := ⟨hmap, hworld⟩
    exact ⟨fun hsel => exec_of_guard (exec_recordWindowRead_eq t r o s) ⟨ho, halive⟩ (hopen.recordWindowReadEff_of_none hsel),
      fun g hsel => exec_of_guard (exec_recordWindowRead_eq t r o s) ⟨ho, halive⟩ (hopen.recordWindowReadEff_of_some hsel),
      exec_of_guard (exec_recordWindowWrite_eq t r o s) ⟨ho, halive⟩ hopen.recordWindowWriteEff_eq⟩

end Sys2Proof.Machine

/-!
The starts of the logic's scans, Hold, the wait of INIT and the timers of a breaker's block (R277, R281, R284 to R286, R288, R299, R301,
R329): what each command's effect does, by the conditions of its row.
-/
namespace Sys2Proof.Machine

/-! ### A program among those of the state -/

section Programs
variable {s : State} {k : Nat}

/-- A program put in place of one it agrees with in some part leaves that part as it was. -/
theorem State.prog_setProg_part {β : Type} (part : ProgSt → β) {x : ProgSt} (h : part x = part (s.prog k)) (j : Nat) :
    part ((s.setProg k x).prog j) = part (s.prog j) := by
  simp only [State.prog, State.setProg_lgc, lget_lset] at h ⊢
  split
  next hsame => rw [h, hsame.1]
  next => rfl

@[simp] theorem State.scan_gridMark (s : State) (k : Nat) : ((s.gridMark k).prog k).scan = (s.prog k).scan :=
  State.prog_setProg_part ProgSt.scan (x := { s.prog k with grid := some ((s.prog k).grid.getD s.now), gridLast := s.now }) rfl k

@[simp] theorem State.calls_gridMark (s : State) (k : Nat) : ((s.gridMark k).prog k).calls = (s.prog k).calls :=
  State.prog_setProg_part ProgSt.calls (x := { s.prog k with grid := some ((s.prog k).grid.getD s.now), gridLast := s.now }) rfl k

@[simp] theorem State.getF_gridMark (s : State) (k : Nat) (f : Field) : (s.gridMark k).getF f = s.getF f := rfl

/-- R284: a period start marks the program and nothing else of the logic. -/
theorem State.join_gridMark (s : State) (k : Nat) :
    (s.gridMark k).lgc.joinSkip = s.lgc.joinSkip ∧ (s.gridMark k).lgc.joinFrom = s.lgc.joinFrom ∧
      (s.gridMark k).lgc.joinDone = s.lgc.joinDone := ⟨rfl, rfl, rfl⟩

@[simp] theorem State.progRuns_gridMark (s : State) (k : Nat) : (s.gridMark k).progRuns k = s.progRuns k := rfl

@[simp] theorem State.hasProg_gridMark (s : State) (k : Nat) : (s.gridMark k).hasProg k = s.hasProg k := by
  simp [State.hasProg]

/-- R288: a start that waits for a period takes effect in Stop only. -/
theorem State.takeStart_of_run (h : s.getF LGC_MODE_MODE = 1) : s.takeStart = s := by
  simp [State.takeStart, h]

theorem State.takeStart_of_control (h : k = 0 → s.getF LGC_MODE_MODE = 1) : (if k = 0 then s.takeStart else s) = s := by
  split
  next hk => exact State.takeStart_of_run (h hk)
  next => rfl

/-- R284, log entry 121: the first period start sets the grid. -/
theorem State.onGrid_of_none {p : ProgSt} (h : p.grid = none) : s.onGrid p = true := by
  simp [State.onGrid, h]

/-- R284: a later one falls a whole number of periods behind the first. -/
theorem State.onGrid_iff_of_some {p : ProgSt} {g : Nat} (h : p.grid = some g) :
    s.onGrid p = true ↔ p.gridLast < s.now ∧ (s.now - g) % (p.img.period * usU) = 0 := by
  simp [State.onGrid, h]

/-- R238: no join keeps the control program from its next scan. -/
def State.joinOpen (s : State) : Prop := s.lgc.joinFrom = none ∨ s.lgc.joinDone = true

theorem State.not_joining_of_control (h : k = 0 → s.joinOpen) :
    (decide (k = 0) && s.lgc.joinFrom.isSome && !s.lgc.joinDone) = false := by
  by_cases hk : k = 0
  · rcases h hk with hnone | hdone
    · simp [hnone]
    · simp [hdone]
  · simp [hk]

end Programs

/-! ### Period starts and free-running starts (R277, R284 to R286) -/

section Starts
variable {s : State} {k : Nat}

/-- R284, R285: a fixed-period program that runs. -/
structure PeriodRuns (k : Nat) (s : State) : Prop where
  protecting : s.protecting = true
  fixed : (s.prog k).img.free = false
  runs : s.progRuns k = true
  loaded : s.hasProg k = true
  control : k = 0 → s.getF LGC_MODE_MODE = 1

theorem periodStartEff_of_off_grid (hgrid : s.onGrid (s.prog k) = false) : periodStartEff k s = s :=
  if_pos (by simp [hgrid])

/-- R277, R284: on the grid, with no scan in progress, a scan starts. -/
theorem PeriodRuns.periodStartEff_of_idle (h : PeriodRuns k s) (hgrid : s.onGrid (s.prog k) = true) (hidle : (s.prog k).scan = none)
    (hjoin : k = 0 → s.lgc.joinSkip = false ∧ s.joinOpen) : periodStartEff k s = (s.gridMark k).startScan k := by
  obtain ⟨hprot, hfixed, hruns, hloaded, hcontrol⟩ := h
  have hstart := State.takeStart_of_control (s := s.gridMark k) hcontrol
  have hskip : ¬ (decide (k = 0) && s.lgc.joinSkip) = true := by
    simpa using fun hk => (hjoin hk).1
  have hopen := State.not_joining_of_control fun hk => (hjoin hk).2
  unfold periodStartEff
  rw [if_neg (by simp [hfixed, hprot, hgrid])]
  simp only [hstart, State.join_gridMark]
  rw [if_neg (by simp [hruns, hloaded]), State.scan_gridMark, hidle]
  exact (if_neg hskip).trans (if_neg (by rw [hopen]; exact Bool.false_ne_true))

/-- R285: with a scan of the control program in progress, the start is skipped and counted. -/
theorem PeriodRuns.periodStartEff_of_busy {sc : Scan} (h : PeriodRuns 0 s) (hgrid : s.onGrid (s.prog 0) = true)
    (hbusy : (s.prog 0).scan = some sc) (hheld : sc.held = false) :
    periodStartEff 0 s = (s.gridMark 0).incSat LGC_OVR_SKIPPED := by
  obtain ⟨hprot, hfixed, hruns, hloaded, hcontrol⟩ := h
  have hstart := State.takeStart_of_run (s := s.gridMark 0) (hcontrol rfl)
  simp [periodStartEff, hprot, hfixed, hgrid, hstart, hruns, hloaded, hbusy, hheld]

/-- R277, R286: a free-running program that runs, with no scan in progress and no join in course. -/
structure FreeRunDue (k : Nat) (s : State) : Prop where
  protecting : s.protecting = true
  free : (s.prog k).img.free = true
  runs : s.progRuns k = true
  loaded : s.hasProg k = true
  control : k = 0 → s.getF LGC_MODE_MODE = 1 ∧ s.joinOpen
  idle : (s.prog k).scan = none
  due : (s.prog k).first ≠ 0 ∨ (s.prog k).lastWrite + usU ≤ s.now ∨ k = 0 ∧ s.lgc.joinDone = true

theorem freeRunScanStartEff_of_due (h : FreeRunDue k s) : freeRunScanStartEff k s = s.startScan k := by
  obtain ⟨hprot, hfree, hruns, hloaded, hcontrol, hidle, hdue⟩ := h
  have hstart := State.takeStart_of_control fun hk => (hcontrol hk).1
  have hopen := State.not_joining_of_control fun hk => (hcontrol hk).2
  have hwait : ¬ (decide ((s.prog k).first = 0) && decide (s.now < (s.prog k).lastWrite + usU) &&
      !(decide (k = 0) && s.lgc.joinDone)) = true := by
    rcases hdue with hfirst | hlater | ⟨hk, hdone⟩
    · simp [hfirst]
    · simp [Nat.not_lt.2 hlater]
    · simp [hk, hdone]
  unfold freeRunScanStartEff
  rw [if_neg (by simp [hfree, hprot])]
  simp only [hstart]
  rw [if_neg (by simp [hruns, hloaded, hidle, hopen]), if_neg hwait]

/-- R277, R281: a latch of the control program takes the requests and shows SCANNING. -/
theorem State.startScan_control (s : State) : (s.startScan 0).flag LGC_STAT_SCANNING = true ∧ (s.startScan 0).lgc.reqs = [] := by
  unfold State.startScan
  simp only [if_true]
  exact ⟨State.flag_setFlag_same _ _ _ (by decide) rfl, by simp [State.setFlag_frame]⟩

/-- R299, R301: the wait of INIT ends. -/
theorem initWaitExpiryEff_of_elapsed {f : Nat} (href : s.sys.refPresent = true) (hlatch : (s.prog k).firstLatch = some f)
    (hwait : f + (s.prog k).img.initWait * msU ≤ s.now) :
    initWaitExpiryEff k s = s.setProg k { s.prog k with initOver := true } := by
  simp [initWaitExpiryEff, hlatch, href, hwait]

end Starts

/-! ### Entry to Hold (R288, R458) -/

section Hold
variable {s : State}

/-- R454: a completion writes the command block and the event block only. -/
theorem State.rd_complete {op tr status seq detail a : Nat} (ha : betweenCmdAndNet a) :
    (s.complete op tr status seq detail).rd a = s.rd a := by
  obtain ⟨hlo, hhi⟩ := ha
  have hlast : ∀ f : Field, f.addr < 0x15000 → ∀ (s : State) (v : Nat), (s.setF f v).rd a = s.rd a := fun f hf s v =>
    State.rd_setF_other _ _ _ _ (by omega)
  unfold State.complete
  dsimp only
  rw [State.rd_raise _ _ _ _ _ (by omega), hlast _ (by decide), hlast _ (by decide), hlast _ (by decide), hlast _ (by decide)]
  rfl

theorem State.getF_dropReqs {f : Field} (hf : betweenCmdAndNet f.addr) : s.dropReqs.getF f = s.getF f :=
  State.getF_of_rd (State.rd_foldl _ _ _ _ fun _ _ _ => State.rd_complete hf)

theorem State.lgc_dropReqs : s.dropReqs.lgc = { s.lgc with reqs := [] } := by
  simp [State.dropReqs, State.complete_frame]

theorem State.dropReqs_of_nil (h : s.lgc.reqs = []) : s.dropReqs = { s with lgc := { s.lgc with reqs := [] } } := by
  rw [State.dropReqs, h]
  rfl

/-- R288: a change of the logic's mode, counted in MCHG. -/
theorem State.setLogicMode_of_ne {m : Nat} (h : s.getF LGC_MODE_MODE ≠ m) (hm : m < 4) :
    (s.setLogicMode m).getF LGC_MODE_MODE = m ∧
      (s.setLogicMode m).getF LGC_MODE_MCHG = (s.getF LGC_MODE_MCHG + 1) % 2 ^ LGC_MODE_MCHG.width := by
  rw [State.setLogicMode, if_neg h, State.incWrap]
  constructor
  · rw [State.getF_setF_other _ _ _ _ (by decide) (by decide), State.getF_setF_same _ _ _ (by decide)]
    exact Nat.mod_eq_of_lt hm
  · rw [State.getF_setF_same _ _ _ (by decide), State.getF_setF_other _ _ _ _ (by decide) (by decide)]

/-- R288, R458: Hold, once the requests that await their latch are discarded; with none of them no event is raised. -/
theorem State.dropReqs_hold (hmode : s.getF LGC_MODE_MODE = 1) :
    (s.dropReqs.setLogicMode 2).getF LGC_MODE_MODE = 2 ∧
      (s.dropReqs.setLogicMode 2).getF LGC_MODE_MCHG = (s.getF LGC_MODE_MCHG + 1) % 2 ^ LGC_MODE_MCHG.width ∧
      (s.dropReqs.setLogicMode 2).lgc = { s.lgc with reqs := [] } ∧
      (s.dropReqs.setLogicMode 2).trp = s.trp ∧
      (s.lgc.reqs = [] → (s.dropReqs.setLogicMode 2).evt = s.evt) := by
  have hbetween : betweenCmdAndNet LGC_MODE := (by decide : 0x15000 ≤ LGC_MODE ∧ LGC_MODE < 0x140000)
  have hkept : s.dropReqs.getF LGC_MODE_MODE = 1 := (State.getF_dropReqs hbetween).trans hmode
  obtain ⟨hhold, hcount⟩ := s.dropReqs.setLogicMode_of_ne (m := 2) (by rw [hkept]; decide) (by decide)
  refine ⟨hhold, hcount.trans (by rw [State.getF_dropReqs (f := LGC_MODE_MCHG) hbetween]), ?_, ?_, fun hnone => ?_⟩
  · simp [State.setLogicMode_frame, State.lgc_dropReqs]
  · simp [State.setLogicMode_frame, State.dropReqs_frame]
  · simp [State.setLogicMode_frame, State.dropReqs_of_nil hnone]

theorem holdEntryEff_of_run (hmode : s.getF LGC_MODE_MODE = 1) (hreq : s.lgc.holdReq = true) :
    holdEntryEff 0 s = (State.dropReqs { s with lgc := { s.lgc with holdReq := false } }).setLogicMode 2 :=
  if_pos (by simp [hmode, hreq])

end Hold

/-! ### The timers of a breaker's block (R329, R330) -/

section Timers
variable {s : State} {brk : Nat} {sc : Scan} {c : Call}

/-- R329: the block's timers have run in the scan, and what they leave: its outputs, its clock, and event 68 where the supervision has
failed, among the scan's events or, in Stop, at once. -/
def State.bkrTimed (s : State) (brk : Nat) (sc : Scan) (c : Call) : State :=
  let x := s.callCtx (s.prog 0) sc c
  let tm := bkrTime (bkrClock x) (x.t 1) (x.t 2) (x.n 4) (bkrOf x)
  let b := s.setProg 0 { s.prog 0 with
    mem := writeOuts (s.prog 0).mem c x.vt (bkrOuts tm.1)
    ints := Store.set resetBlk (s.prog 0).ints c.inst
      { x.x with st := tm.1.st, k := tm.1.dir, a := tm.1.tsel, b := tm.1.top, e := bkrClock x, tl := some sc.img.tl }
    scan := (s.prog 0).scan.map (fun sc => { sc with out := takeLouts sc.out c 4 (bkrOuts tm.1) }) }
  if (s.prog 0).scan.isSome = true then (if tm.2 then b.scanEvt 0 68 brk (bkrStat tm.1) else b)
  else (if tm.2 then b.raise 68 brk (bkrStat tm.1) else b).bkrSettle

/-- R329: the scan in which the timers of a breaker's block run, and the call of that block. -/
structure BkrBlock (brk : Nat) (sc : Scan) (c : Call) (s : State) : Prop where
  scan : s.bkrScan = some sc
  call : (instCalls (s.prog 0).calls).find? (fun c => c.type = 0x3F && callConst (s.prog 0).img c 0 = brk) = some c

/-- R329: the timers run where the block stands in the state they are for and, in SELECTED, no latched request is for the breaker. -/
theorem BkrBlock.bkrTimer_of_due (h : BkrBlock brk sc c s) {want : BkrX → Bool}
    (hwant : want (bkrOf (s.callCtx (s.prog 0) sc c)) = true)
    (hfree : (bkrOf (s.callCtx (s.prog 0) sc c)).st ≠ 1 ∧ (bkrOf (s.callCtx (s.prog 0) sc c)).st ≠ 2 ∨
      ∀ q ∈ sc.img.reqs, q.brk ≠ brk) :
    s.bkrTimer brk want = s.bkrTimed brk sc c := by
  obtain ⟨hscan, hcall⟩ := h
  unfold State.bkrTimer
  rw [hscan]
  dsimp only
  rw [hcall]
  refine if_neg ?_
  rcases hfree with ⟨hopen, hclose⟩ | hfree
  · simp [hwant, hopen, hclose]
  · simpa [hwant] using fun _ => hfree

theorem BkrBlock.bkrTimer_of_request (h : BkrBlock brk sc c s) {want : BkrX → Bool}
    (hsel : (bkrOf (s.callCtx (s.prog 0) sc c)).st = 1 ∨ (bkrOf (s.callCtx (s.prog 0) sc c)).st = 2)
    (hreq : ∃ q ∈ sc.img.reqs, q.brk = brk) : s.bkrTimer brk want = s := by
  obtain ⟨hscan, hcall⟩ := h
  unfold State.bkrTimer
  rw [hscan]
  dsimp only
  rw [hcall]
  refine if_pos ?_
  simp [hsel, hreq]

theorem State.bkrScan_of_scan (hscan : (s.prog 0).scan = some sc) (hruns : s.progRuns 0 = true) (hhold : s.holding 0 = false) :
    s.bkrScan = some sc := by
  simp [State.bkrScan, hscan, hruns, hhold]

/-- Log entry 131: in Stop the block's inputs are taken as they stand. -/
theorem State.bkrScan_of_stop (hidle : (s.prog 0).scan = none) (hmode : s.getF LGC_MODE_MODE = 0) (hpod : s.podRuns 2 = true) :
    ∃ sc, s.bkrScan = some sc ∧ sc.img = s.latch [] [] := by
  simp [State.bkrScan, hidle, hmode, hpod]

end Timers

/-! ### The commands -/

theorem exec_periodStart_eq (t k : Nat) (s : State) :
    exec (.periodStart t k) s = .next (if k < 2 then State.offerEdges (s.at t) (periodStartEff k (s.at t)) else s.at t) := by
  simp [exec_periodStart]

theorem exec_freeRunScanStart_eq (t k : Nat) (s : State) :
    exec (.freeRunScanStart t k) s =
      .next (if k < 2 then State.offerEdges (s.at t) (freeRunScanStartEff k (s.at t)) else s.at t) := by
  simp [exec_freeRunScanStart]

theorem exec_holdEntry_eq (t k : Nat) (s : State) :
    exec (.holdEntry t k) s = .next (if k < 2 then State.offerEdges (s.at t) (holdEntryEff k (s.at t)) else s.at t) := by
  simp [exec_holdEntry]

theorem exec_initWaitExpiry_eq (t k : Nat) (s : State) :
    exec (.initWaitExpiry t k) s = .next (if k < 2 then State.offerEdges (s.at t) (initWaitExpiryEff k (s.at t)) else s.at t) := by
  simp [exec_initWaitExpiry]

theorem exec_bkrPulseEnd_eq (t brk : Nat) (s : State) :
    exec (.bkrPulseEnd t brk) s = .next (if brk < 32 then State.offerEdges (s.at t) (bkrPulseEndEff brk (s.at t)) else s.at t) := by
  simp [exec_bkrPulseEnd]

theorem exec_bkrSupervisionTimeout_eq (t brk : Nat) (s : State) :
    exec (.bkrSupervisionTimeout t brk) s =
      .next (if brk < 32 then State.offerEdges (s.at t) (bkrSupervisionTimeoutEff brk (s.at t)) else s.at t) := by
  simp [exec_bkrSupervisionTimeout]

theorem exec_bkrSelectExpiry_eq (t brk : Nat) (s : State) :
    exec (.bkrSelectExpiry t brk) s =
      .next (if brk < 32 then State.offerEdges (s.at t) (bkrSelectExpiryEff brk (s.at t)) else s.at t) := by
  simp [exec_bkrSelectExpiry]

/-- Settles O20: each clause is the lemma above that states its effect, behind the equation of its command. -/
theorem scansStart : Obligations.ScansStart := by
  unfold Obligations.ScansStart
  refine ⟨?period, fun s p => ⟨State.onGrid_of_none, fun g => State.onGrid_iff_of_some⟩, ?freeRun, State.startScan_control, ?hold,
    ?wait, ?timers, fun s sc => State.bkrScan_of_scan, fun s => State.bkrScan_of_stop, exec_periodStart_eq, exec_freeRunScanStart_eq,
    exec_holdEntry_eq, exec_initWaitExpiry_eq, exec_bkrPulseEnd_eq, exec_bkrSupervisionTimeout_eq, exec_bkrSelectExpiry_eq⟩
  case period =>
    intro t k s a hk hprot hfixed hruns hloaded hcontrol g
    have hperiod : PeriodRuns k a := ⟨hprot, hfixed, hruns, hloaded, hcontrol⟩
    have start {s'} (heff : periodStartEff k a = s') : exec (.periodStart t k) s = .next (State.offerEdges a s') :=
      exec_of_guard (exec_periodStart_eq t k s) hk (congrArg _ heff)
    refine ⟨fun hgrid => start (periodStartEff_of_off_grid hgrid), fun hgrid =>
      ⟨fun hidle hjoin => ?_, fun sc hzero hbusy hheld => ?_⟩⟩
    · exact start (hperiod.periodStartEff_of_idle hgrid hidle hjoin)
    · subst hzero
      exact start (hperiod.periodStartEff_of_busy hgrid hbusy hheld)
  case freeRun =>
    intro t k s a hk hprot hfree hruns hloaded hcontrol hidle hdue
    exact exec_of_guard (exec_freeRunScanStart_eq t k s) hk
      (congrArg _ (freeRunScanStartEff_of_due ⟨hprot, hfree, hruns, hloaded, hcontrol, hidle, hdue⟩))
  case hold =>
    intro t s a hmode hreq
    obtain ⟨hhold, hcount, hlgc, htrp, hevt⟩ := State.dropReqs_hold (s := { a with lgc := { a.lgc with holdReq := false } }) hmode
    refine ⟨_, exec_of_guard (exec_holdEntry_eq t 0 s) (by decide) (congrArg _ (holdEntryEff_of_run hmode hreq)), ?_⟩
    simp only [State.getF_offerEdges, State.offerEdges_frame]
    exact ⟨hhold, hcount, by rw [hlgc], by rw [hlgc], htrp, hevt⟩
  case wait =>
    intro t k f s a hk href hlatch hwait
    exact exec_of_guard (exec_initWaitExpiry_eq t k s) hk (congrArg _ (initWaitExpiryEff_of_elapsed href hlatch hwait))
  case timers =>
    intro t brk sc c s a x tm b r hbrk hscan hcall
    have hblock : BkrBlock brk sc c a := ⟨hscan, hcall⟩
    refine ⟨fun hst => ?_, fun hst => ?_, fun hst => ⟨fun hfree => ?_, fun hreq => ?_⟩⟩
    · exact exec_of_guard (exec_bkrPulseEnd_eq t brk s) hbrk
        (congrArg _ (hblock.bkrTimer_of_due (decide_eq_true hst) (.inl ⟨Eq.trans_ne hst (by decide), Eq.trans_ne hst (by decide)⟩)))
    · exact exec_of_guard (exec_bkrSupervisionTimeout_eq t brk s) hbrk
        (congrArg _ (hblock.bkrTimer_of_due (decide_eq_true hst) (.inl ⟨Eq.trans_ne hst (by decide), Eq.trans_ne hst (by decide)⟩)))
    · exact exec_of_guard (exec_bkrSelectExpiry_eq t brk s) hbrk
        (congrArg _ (hblock.bkrTimer_of_due (by simpa using hst) (.inr hfree)))
    · exact exec_of_guard (exec_bkrSelectExpiry_eq t brk s) hbrk (congrArg _ (hblock.bkrTimer_of_request hst hreq))

end Sys2Proof.Machine

/-!
The end of a scan, and the join, exchange and retain commit of programs (R238, R282, R288, R296, R302 to R304): what each command's effect
does, by the conditions of its row.
-/
namespace Sys2Proof.Machine

/-! ### The output write (R282, R288) -/

section OutputWrite
variable {s : State} {k : Nat} {sc : Scan}

/-- R282: the scan has ended, and its outputs and the events of its blocks have left in one write. -/
def State.scanWritten (s : State) (k : Nat) (sc : Scan) : State :=
  sc.evts.foldl (fun s e => s.raise e.1 e.2.1 e.2.2)
    ((s.setProg k { s.prog k with scan := none, out := sc.out, trig := sc.trig, first := 0, lastWrite := s.now,
                                  wrote := sc.img.ns }).scanOuts k sc.out)

theorem logicOutputWriteEff_of_ended (hscan : (s.prog k).scan = some sc) (hruns : s.progRuns k = true) (hhold : s.holding k = false)
    (hended : sc.pc = none) :
    logicOutputWriteEff k s = if k = 0 then (s.scanWritten k sc).writeControl sc else s.scanWritten k sc := by
  unfold logicOutputWriteEff
  simp only [hscan]
  exact if_neg (by simp [hruns, hhold, hended])

/-- R288: no scan in progress, a program that does not run, or Hold before its next call: nothing is written. -/
theorem logicOutputWriteEff_of_waiting (h : (s.prog k).scan = none ∨ s.progRuns k = false ∨ s.holding k = true) :
    logicOutputWriteEff k s = s := by
  unfold logicOutputWriteEff
  dsimp only
  cases hscan : (s.prog k).scan with
  | none => rfl
  | some sc =>
    refine if_pos ?_
    rcases h with hnone | hstops | hhold
    · exact absurd (hscan.symm.trans hnone) (Option.some_ne_none sc)
    · simp [hstops]
    · simp [hhold]

end OutputWrite

/-! ### The join of Pod L (R234, R238) -/

section Join
variable {s : State}

/-- R238: the time a join has taken stands in LAST, and in MAX where it is the longest. -/
def State.joinTimed (s : State) (c : Nat) : State :=
  let s := s.setF POD_LJOIN_LAST c
  if s.getF POD_LJOIN_MAX < c then s.setF POD_LJOIN_MAX c else s

theorem fits_POD_LJOIN : POD_LJOIN_LAST.Fits ∧ POD_LJOIN_MAX.Fits := (by decide : 0 + 13 ≤ 32 ∧ 16 + 13 ≤ 32)

theorem fits_POD_LSTAT_HELD : POD_LSTAT_HELD.Fits := (by decide : 3 + 1 ≤ 32)

theorem fits_POD_STAT_cores (p : Nat) : (POD_STAT_RUN p).Fits ∧ (POD_STAT_READER p).Fits := (by decide : 3 + 3 ≤ 32 ∧ 9 + 2 ≤ 32)

theorem State.last_joinTimed {c : Nat} (hc : c < 8192) : (s.joinTimed c).getF POD_LJOIN_LAST = c :=
  (State.getF_ite_setF_apart fits_POD_LJOIN.2 (.inr (.inl (by decide))) _).trans
    ((State.getF_setF_same _ _ _ (by decide)).trans (Nat.mod_eq_of_lt hc))

theorem State.max_joinTimed {c : Nat} (hc : c < 8192) :
    (s.joinTimed c).getF POD_LJOIN_MAX = Nat.max (s.getF POD_LJOIN_MAX) c := by
  have hkept : (s.setF POD_LJOIN_LAST c).getF POD_LJOIN_MAX = s.getF POD_LJOIN_MAX :=
    State.getF_setF_other _ _ _ _ (by decide) (by decide)
  unfold State.joinTimed
  dsimp only
  rw [hkept]
  split
  next hlonger =>
    rw [State.getF_setF_same _ _ _ (by decide)]
    exact (Nat.mod_eq_of_lt hc).trans (Nat.max_eq_right hlonger.le).symm
  next hshorter => exact hkept.trans (Nat.max_eq_left (Nat.le_of_not_lt hshorter)).symm

theorem State.getF_joinTimed_of_addr {f : Field} (hf : f.addr ≠ POD_LJOIN) (c : Nat) : (s.joinTimed c).getF f = s.getF f :=
  (State.getF_ite_setF_apart fits_POD_LJOIN.2 (.inl hf) _).trans (State.getF_setF_apart fits_POD_LJOIN.1 (.inl hf) _)

/-- R238 step 3: the join is done and what was held is released. -/
def State.joinReleased (s : State) (c : Nat) : State :=
  let s := s.joinTimed c
  let s := (s.setTrp (fun x => { x with lo := s.lgcOut })).setFlag POD_LSTAT_HELD false
  { s with lgc := { s.lgc with joinDone := true } }

/-- The trip island holds no register. -/
theorem State.regs_setFlag_setTrp (s : State) (g : TrpSt → TrpSt) (f : Field) (b : Bool) :
    ((s.setTrp g).setFlag f b).regs = (s.setFlag f b).regs := rfl

theorem State.regs_joinReleased (c : Nat) : (s.joinReleased c).regs = ((s.joinTimed c).setFlag POD_LSTAT_HELD false).regs :=
  State.regs_setFlag_setTrp ..

theorem State.getF_joinReleased {f : Field} (hf : f.Apart POD_LSTAT_HELD) (c : Nat) :
    (s.joinReleased c).getF f = (s.joinTimed c).getF f :=
  (State.getF_of_regs (s.regs_joinReleased c) f).trans (State.getF_setF_apart fits_POD_LSTAT_HELD hf _)

theorem State.held_joinReleased (c : Nat) : (s.joinReleased c).flag POD_LSTAT_HELD = false :=
  (State.flag_eq_of_getF (State.getF_of_regs (s.regs_joinReleased c) _)).trans (State.flag_setFlag_same _ _ _ (by decide) rfl)

theorem State.joinReleased_frame (c : Nat) : (s.joinReleased c).evt = s.evt ∧ (s.joinReleased c).pod = s.pod := by
  simp [State.joinReleased, State.joinTimed, State.setFlag_frame, State.setTrp_frame, State.setF_frame, State.ite_frame]

/-- R238: outside Stop a completed join waits for the program's next start. -/
theorem joinCompleteEff_of_joining {cycles f : Nat} (hfrom : s.lgc.joinFrom = some f) (hdone : s.lgc.joinDone = false)
    (hmode : s.getF LGC_MODE_MODE ≠ 0) : joinCompleteEff cycles s = s.joinReleased (cycles % 8192) := by
  have hkept : (s.joinReleased (cycles % 8192)).getF LGC_MODE_MODE = s.getF LGC_MODE_MODE :=
    (State.getF_joinReleased (.inl (by decide)) _).trans (State.getF_joinTimed_of_addr (by decide) _)
  unfold joinCompleteEff
  rw [if_neg (by simp [hfrom, hdone])]
  exact if_neg (by rwa [← hkept] at hmode)

/-- R234, R238 step 4: Pod L is whole again and its cores run locked. -/
def State.joinLeft (s : State) : State :=
  let s := { s with lgc := { s.lgc with joinDone := false, joinFrom := none } }
  ((s.setFlag POD_LSTAT_SPLIT false).setF (POD_STAT_STATE 2) 1).setRun 2 7

theorem State.joinEnd_of_done (h : s.lgc.joinDone = true) : s.joinEnd = s.joinLeft.raise 64 0 (s.getF POD_LJOIN_LAST) := by
  have hlast : ∀ u : State, ((u.setFlag POD_LSTAT_SPLIT false).setF (POD_STAT_STATE 2) 1).getF POD_LJOIN_LAST = u.getF POD_LJOIN_LAST :=
    fun u => (State.getF_setF_other _ _ _ _ (by decide) (by decide)).trans (State.getF_setF_other _ _ _ _ (by decide) (by decide))
  rw [State.joinEnd, if_pos h]
  dsimp only
  rw [hlast]
  rfl

/-- R240: the cores of a pod change RUN and READER only. -/
theorem State.getF_setRun_apart {f : Field} {p : Nat} (hrun : f.Apart (POD_STAT_RUN p)) (hreader : f.Apart (POD_STAT_READER p))
    (run : Nat) : (s.setRun p run).getF f = s.getF f :=
  (State.getF_setF_apart (fits_POD_STAT_cores p).2 hreader _).trans (State.getF_setF_apart (fits_POD_STAT_cores p).1 hrun _)

theorem State.run_setRun (p run : Nat) : (s.setRun p run).getF (POD_STAT_RUN p) = run % 8 :=
  (State.getF_setF_apart (fits_POD_STAT_cores p).2 (.inr (.inl (by decide : 3 + 3 ≤ 9))) _).trans
    (State.getF_setF_same _ _ _ (by decide : 3 + 3 ≤ 32))

theorem State.joinLeft_pod :
    s.joinLeft.flag POD_LSTAT_SPLIT = false ∧ s.joinLeft.podState 2 = 1 ∧ s.joinLeft.getF (POD_STAT_RUN 2) = 7 := by
  refine ⟨?_, ?_, State.run_setRun 2 7⟩
  · have hother : s.joinLeft.getF POD_LSTAT_SPLIT =
        (({ s with lgc := { s.lgc with joinDone := false, joinFrom := none } } : State).setFlag POD_LSTAT_SPLIT false).getF
          POD_LSTAT_SPLIT :=
      (State.getF_setRun_apart (.inl (by decide)) (.inl (by decide)) 7).trans (State.getF_setF_other _ _ _ _ (by decide) (by decide))
    exact (State.flag_eq_of_getF hother).trans (State.flag_setFlag_same _ _ _ (by decide) rfl)
  · exact (State.getF_setRun_apart (.inr (.inl (by decide))) (.inr (.inl (by decide))) 7).trans
      (State.getF_setF_same _ _ _ (by decide))

theorem State.joinLeft_frame : s.joinLeft.lgc = { s.lgc with joinDone := false, joinFrom := none } ∧ s.joinLeft.evt = s.evt := by
  simp [State.joinLeft, State.setRun_frame, State.setFlag_frame, State.setF_frame]

end Join

/-! ### Retained variables (R296) -/

section Retain
variable {s : State} {c : RetainCopy}

/-- R296: a commit done stands in the copy that is not the current one. -/
def retainCommitted (m : MramSt) (c : RetainCopy) : MramSt :=
  if m.retLast = 0 then { m with retB := c, retLast := 1 } else { m with retA := c, retLast := 0 }

/-- R296: the state a commit done leaves: no commit in course, and the copy it stands in shown. -/
def State.retainDone (s : State) (c : RetainCopy) : State :=
  (({ s with mram := retainCommitted s.mram c, lgc := { s.lgc with commit := none } }).setFlag LGC_RTN_BUSY false).setF LGC_RTN_COPY
    (if s.mram.retLast = 0 then 1 else 0)

theorem retainCommitDoneEff_of_commit (hcommit : s.lgc.commit = some c) (href : s.sys.refPresent = true) :
    retainCommitDoneEff s = s.retainDone c := by
  unfold retainCommitDoneEff State.retainDone retainCommitted
  rw [hcommit]
  by_cases hlast : s.mram.retLast = 0 <;> simp [href, hlast]

theorem State.busy_retainDone : (s.retainDone c).flag LGC_RTN_BUSY = false :=
  (State.flag_eq_of_getF (State.getF_setF_other _ _ _ _ (by decide) (by decide))).trans
    (State.flag_setFlag_same _ _ _ (by decide) rfl)

theorem State.copy_retainDone : (s.retainDone c).getF LGC_RTN_COPY = if s.mram.retLast = 0 then 1 else 0 := by
  rw [State.retainDone, State.getF_setF_same _ _ _ (by decide)]
  split <;> rfl

theorem State.retainDone_frame : (s.retainDone c).mram = retainCommitted s.mram c ∧
    (s.retainDone c).lgc = { s.lgc with commit := none } ∧ (s.retainDone c).evt = s.evt := by
  simp [State.retainDone, State.setF_frame, State.setFlag_frame]

end Retain

/-! ### The exchange (R302) -/

section Exchange
variable {s : State} {res : ExchLoad}

/-- R302, R303: a program that passes the check waits for the swap at a scan end. -/
theorem exchangeLoadedEff_of_ok (hstate : s.getF LGC_XSTAT_XSTATE = 1) (href : s.sys.refPresent = true) (hok : s.exchStatus res = .ok)
    (hmode : s.getF LGC_MODE_MODE ≠ 0) :
    exchangeLoadedEff res s =
      (({ s with lgc := { s.lgc with
        exch := some { res with prog := progCanon res.prog, ana := progCanon res.ana }
        bank := some (progCanon res.prog).code } }).setF LGC_XSTAT_XSTATE 2).setF LGC_XWORK_PLAN res.plan := by
  have hkept : ∀ u : State, ((u.setF LGC_XSTAT_XSTATE 2).setF LGC_XWORK_PLAN res.plan).getF LGC_MODE_MODE = u.getF LGC_MODE_MODE :=
    fun u => (State.getF_setF_other _ _ _ _ (by decide) (by decide)).trans (State.getF_setF_other _ _ _ _ (by decide) (by decide))
  unfold exchangeLoadedEff
  rw [if_neg (by simp [hstate, href]), hok]
  refine if_neg ?_
  rw [hkept]
  exact hmode

/-- R302: a program that does not pass is refused with its status and event 61. -/
theorem exchangeLoadedEff_of_refused (hstate : s.getF LGC_XSTAT_XSTATE = 1) (href : s.sys.refPresent = true)
    (hrefused : s.exchStatus res ≠ .ok) (hreq : s.lgc.exchReq = none) :
    exchangeLoadedEff res s =
      ((s.setF LGC_XSTAT_XSTATE 0).setF LGC_XSTAT_XCODE (stCode (s.exchStatus res))).raise 61 0 (stCode (s.exchStatus res)) := by
  unfold exchangeLoadedEff
  rw [if_neg (by simp [hstate, href])]
  split
  next hok => exact absurd hok hrefused
  next => simp [State.raise_frame, State.setF_frame, hreq]

end Exchange

/-! ### The commands -/

/-- A command that always takes its effect. -/
theorem exec_of_effect {i : Instr} {s a eff s' : State} (hexec : exec i s = .next (State.offerEdges a eff)) (heff : eff = s') :
    exec i s = .next (State.offerEdges a s') := by
  rw [hexec, heff]

theorem State.flag_offerEdges (a s : State) (f : Field) : (a.offerEdges s).flag f = s.flag f :=
  State.flag_eq_of_getF (State.getF_offerEdges a s f)

theorem exec_logicOutputWrite_eq (t k : Nat) (s : State) :
    exec (.logicOutputWrite t k) s = .next (if k < 2 then State.offerEdges (s.at t) (logicOutputWriteEff k (s.at t)) else s.at t) := by
  simp [exec_logicOutputWrite]

/-- Settles O21: each clause is the lemma above that states its effect, behind the equation of its command. -/
theorem scansEndAndPrograms : Obligations.ScansEndAndPrograms := by
  unfold Obligations.ScansEndAndPrograms
  refine ⟨?analysis, ?control, ?waiting, ?join, ?joinEnd, ?retain, ?exchange, exec_logicOutputWrite_eq, exec_joinComplete,
    exec_exchangeLoaded, exec_retainCommitDone⟩
  case analysis =>
    intro t sc s a hscan hruns hended
    exact exec_of_guard (exec_logicOutputWrite_eq t 1 s) (by decide) (congrArg _ (logicOutputWriteEff_of_ended hscan hruns rfl hended))
  case control =>
    intro t sc s a hscan hruns hended hhold
    exact exec_of_guard (exec_logicOutputWrite_eq t 0 s) (by decide) (congrArg _ (logicOutputWriteEff_of_ended hscan hruns hhold hended))
  case waiting =>
    intro t k s a hk hcase
    have hwaits : (a.prog k).scan = none ∨ a.progRuns k = false ∨ a.holding k = true := by simpa [State.holding] using hcase
    exact exec_of_guard (exec_logicOutputWrite_eq t k s) hk (congrArg _ (logicOutputWriteEff_of_waiting hwaits))
  case join =>
    intro t cycles f s a hfrom hdone hmode
    have hc : cycles % 8192 < 8192 := Nat.mod_lt _ (by decide)
    obtain ⟨hevt, hpod⟩ := a.joinReleased_frame (cycles % 8192)
    have heff := joinCompleteEff_of_joining (cycles := cycles) hfrom hdone hmode
    refine ⟨_, exec_of_effect (exec_joinComplete t cycles s) heff, ?_⟩
    simp only [State.getF_offerEdges, State.flag_offerEdges, State.offerEdges_frame]
    exact ⟨(State.getF_joinReleased (.inl (by decide)) _).trans (State.last_joinTimed hc),
      (State.getF_joinReleased (.inl (by decide)) _).trans (State.max_joinTimed hc), rfl, State.held_joinReleased _, hevt, hpod⟩
  case joinEnd =>
    intro s hdone
    obtain ⟨hsplit, hstate, hrun⟩ := s.joinLeft_pod
    obtain ⟨hlgc, hevt⟩ := s.joinLeft_frame
    exact ⟨s.joinLeft, State.joinEnd_of_done hdone, hsplit, hstate, hrun, by rw [hlgc], by rw [hlgc], hevt⟩
  case retain =>
    intro t c s a hcommit href
    have heff := retainCommitDoneEff_of_commit hcommit href
    obtain ⟨hmram, hlgc, hevt⟩ := a.retainDone_frame (c := c)
    refine ⟨_, exec_of_effect (exec_retainCommitDone t s) heff, ?_⟩
    simp only [State.getF_offerEdges, State.flag_offerEdges, State.offerEdges_frame]
    exact ⟨State.busy_retainDone, by rw [hlgc], hevt,
      fun hlast => ⟨hmram.trans (if_pos hlast), State.copy_retainDone.trans (if_pos hlast)⟩,
      fun hlast => ⟨hmram.trans (if_neg hlast), State.copy_retainDone.trans (if_neg hlast)⟩⟩
  case exchange =>
    intro t res s a e hstate href
    exact ⟨fun hok hmode => exec_of_effect (exec_exchangeLoaded t res s) (exchangeLoadedEff_of_ok hstate href hok hmode),
      fun hrefused hreq => exec_of_effect (exec_exchangeLoaded t res s) (exchangeLoadedEff_of_refused hstate href hrefused hreq)⟩

end Sys2Proof.Machine

/-!
The end of a block's call and what stands in the blocks' memory behind it (R311, R316, R320): a write of bytes read back, the program a
call leaves, and the commands of blocks under their conditions.
-/
namespace Sys2Proof.Machine

/-! ### The blocks' memory (R320) -/

/-- A write of n + 1 bytes is that of the lowest and of the n above it. -/
theorem memWr_succ (m : Store Nat) (a n v : Nat) :
    memWr m a (n + 1) v = memWr (Store.set 0 m a (v % 256)) (a + 1) n (v / 256) := by
  simp only [memWr, leBytes, upto, List.range_succ_eq_map, List.zip_cons_cons, List.foldl_cons, List.zip_map_right, List.foldl_map,
    Prod.map_fst, Prod.map_snd, id, Nat.add_zero, Nat.succ_eq_add_one, Nat.add_assoc, Nat.add_comm 1]

/-- So is a read. -/
theorem memRd_succ (m : Store Nat) (a n : Nat) : memRd m a (n + 1) = Store.get 0 m a % 256 + 256 * memRd m (a + 1) n := by
  simp only [memRd, ofLe, upto, List.range_succ_eq_map, List.map_cons, List.map_map, Function.comp_def, Nat.add_zero,
    Nat.succ_eq_add_one, Nat.add_assoc, Nat.add_comm 1]

/-- A write leaves every byte outside it alone. -/
theorem Store.get_memWr_outside {a b n : Nat} (h : b < a ∨ a + n ≤ b) (m : Store Nat) (v : Nat) :
    Store.get 0 (memWr m a n v) b = Store.get 0 m b := by
  induction n generalizing m a v with
  | zero => rfl
  | succ n ih => rw [memWr_succ, ih (by omega), Store.get_set_other _ _ _ _ _ _ (by omega)]

/-- R320: bytes read back as they were written. -/
theorem memRd_memWr_same {n v : Nat} (hv : v < 256 ^ n) (m : Store Nat) (a : Nat) : memRd (memWr m a n v) a n = v := by
  induction n generalizing m a v with
  | zero => exact (Nat.lt_one_iff.1 hv).symm
  | succ n ih =>
    have hhigh : v / 256 < 256 ^ n := by
      rw [Nat.div_lt_iff_lt_mul (by decide), ← pow_succ]
      exact hv
    rw [memRd_succ, memWr_succ, Store.get_memWr_outside (by omega), Store.get_set_same, ih hhigh]
    omega

/-- A byte outside a write reads as before. -/
theorem memRd_memWr_outside {a b n : Nat} (h : b < a ∨ a + n ≤ b) (m : Store Nat) (v : Nat) :
    memRd (memWr m a n v) b 1 = memRd m b 1 := by
  rw [memRd_succ, memRd_succ, Store.get_memWr_outside h]
  rfl

/-! ### The program a call leaves (R311, R316) -/

section CallEnd
variable {s : State} {k : Nat} {sc : Scan}

theorem State.endCall_of_scan (hscan : (s.prog k).scan = some sc) (c : CallCtx) (outs : List Nat) (x : BlkInt) :
    s.endCall k c outs x = s.setProg k { s.prog k with
      mem := writeOuts (s.prog k).mem c.call c.vt outs
      ints := Store.set resetBlk (s.prog k).ints c.call.inst { x with prime := false, ran := true, tl := some sc.img.tl }
      scan := some { sc with out := takeLouts sc.out c.call (outTys c.call.type c.vt).length outs, pc := sc.pc.map (· + 1) } } := by
  simp [State.endCall, hscan]

theorem State.mapScan_of_scan (hscan : (s.prog k).scan = some sc) (f : Scan → Scan) :
    s.mapScan k f = s.setProg k { s.prog k with scan := some (f sc) } := by
  simp [State.mapScan, hscan]

theorem State.scan_mapScan (hscan : (s.prog k).scan = some sc) (hk : k < s.lgc.progs.length) (f : Scan → Scan) :
    ((s.mapScan k f).prog k).scan = some (f sc) := by
  rw [State.mapScan_of_scan hscan, State.prog_setProg_same _ _ _ hk]

/-- The number of programs stays what it is. -/
@[simp] theorem State.length_progs_mapScan (s : State) (k : Nat) (f : Scan → Scan) :
    (s.mapScan k f).lgc.progs.length = s.lgc.progs.length := lset_length _ _ _

end CallEnd

/-! ### A block's command (R311) -/

section Commands
variable {s : State} {k ty : Nat} {c : CallCtx}

/-- A command whose operand is of its row takes its effect, any other only moves the clock. -/
theorem exec_of_row {t k : Nat} {i : Instr} {s : State} {eff : Nat → State → State}
    (hexec : exec i s = .next ((fun s => if decide (k < 2) then eff k s else s) (s.at t))) :
    exec i s = .next (if k < 2 then eff k (s.at t) else s.at t) := by
  simpa using hexec

/-- R288, R311: the next call of program `k` is `c`, and it is due: the program executes and is not being held. -/
structure CallDue (s : State) (k : Nat) (c : CallCtx) : Prop where
  inRow : k < 2
  runs : s.progRuns k = true
  free : s.holding k = false
  next : s.nextCall k = some c

/-- A due call of a command's type runs. -/
theorem CallDue.onCall_eq (h : CallDue s k c) (hty : c.call.type = ty) (f : CallCtx → State → State) : s.onCall k ty f = f c s := by
  simp [State.onCall, h.runs, h.free, h.next, hty]

theorem CallDue.exec_eq {t : Nat} {i : Instr} {f : CallCtx → State → State} (h : CallDue (s.at t) k c) (hty : c.call.type = ty)
    (hexec : exec i s = .next ((fun s => if decide (k < 2) then s.onCall k ty f else s) (s.at t))) :
    exec i s = .next (f c (s.at t)) :=
  exec_of_guard (exec_of_row (eff := fun k s => s.onCall k ty f) hexec) h.inRow (h.onCall_eq hty f)

/-- The command of a block that acts on its own outputs and state only answers what the block's function gives. -/
theorem blockAnswers_of_fn {ins : Nat → Nat → Instr} {fn f : CallCtx → BlkOut}
    (hexec : ∀ (t k : Nat) (s : State),
      exec (ins t k) s = .next ((fun s => if decide (k < 2) then s.onCall k ty (fun c s => s.runPure k c fn) else s) (s.at t)))
    (hfn : ∀ c, fn c = f c) : BlockAnswers ins ty f := by
  intro t k c s hk hruns hfree hnext hty
  rw [CallDue.exec_eq ⟨hk, hruns, hfree, hnext⟩ hty (hexec t k s), State.runPure, hfn]

end Commands

/-- Settles O22: the program a call leaves, the end of a task, and the blocks' memory read back. -/
theorem callEnds : Obligations.CallEnds := by
  unfold Obligations.CallEnds
  refine ⟨?ended, ?taskEnd, ?event, fun m a n v hv => memRd_memWr_same hv m a, fun m a n v b hb => memRd_memWr_outside hb m v,
    fun t k s => exec_of_row (exec_blkEnd t k s)⟩
  case ended =>
    intro s k c outs x sc hscan hk b
    have hleft : b.prog k = _ := (congrArg (State.prog · k) (State.endCall_of_scan hscan c outs x)).trans
      (State.prog_setProg_same _ _ _ hk)
    have hothers : ∀ j, j ≠ k → b.prog j = s.prog j := fun j hj =>
      (congrArg (State.prog · j) (State.endCall_of_scan hscan c outs x)).trans (State.prog_setProg_other _ _ _ _ hj)
    rw [hleft]
    exact ⟨rfl, Store.get_set_same .., fun i hi => Store.get_set_other _ _ _ _ _ _ hi, rfl, hothers,
      by simp [b, State.endCall_frame], by simp [b, State.endCall_frame], by simp [b, State.endCall_frame]⟩
  case taskEnd =>
    intro t k c sc s a hk hruns hfree hnext hty hscan
    rw [CallDue.exec_eq ⟨hk, hruns, hfree, hnext⟩ hty (exec_blkEnd t k s), State.runEnd, State.mapScan_of_scan hscan]
  case event =>
    intro s k n x y sc hscan hk
    exact ⟨State.scan_mapScan hscan hk _, by simp [State.scanEvt_frame]⟩

end Sys2Proof.Machine

/-!
The blocks over truth values (R323, R324): what each block's function answers, by the values of its inputs.
-/
namespace Sys2Proof.Machine

/-! ### Truth values as numbers -/

theorem ob_of_iff {b : Bool} {p : Prop} [Decidable p] (h : b = true ↔ p) : ob b = if p then 1 else 0 := if_congr h rfl rfl

theorem ob_decide (p : Prop) [Decidable p] : ob (decide p) = if p then 1 else 0 := ob_of_iff decide_eq_true_iff

/-- The truth value of a number is its lowest bit. -/
theorem ob_lowBit (n : Nat) : ob (n % 2 == 1) = n % 2 := by
  rcases Nat.mod_two_eq_zero_or_one n with h | h <;> rw [h] <;> rfl

/-- An input as a truth value and its lowest bit. -/
theorem CallCtx.b_cases (c : CallCtx) (i : Nat) : c.b i = false ∧ c.i i % 2 = 0 ∨ c.b i = true ∧ c.i i % 2 = 1 := by
  rcases Nat.mod_two_eq_zero_or_one (c.i i) with h | h <;> simp [CallCtx.b, h]

theorem CallCtx.ob_b (c : CallCtx) (i : Nat) : ob (c.b i) = c.i i % 2 := ob_lowBit _

theorem CallCtx.ob_not_b (c : CallCtx) (i : Nat) : ob (!c.b i) = 1 - c.i i % 2 := by
  rcases c.b_cases i with ⟨hb, h⟩ | ⟨hb, h⟩ <;> rw [hb, h] <;> rfl

theorem CallCtx.all_bs (c : CallCtx) : (c.bs 0).all id = true ↔ ∀ e ∈ c.ins, e.1 % 2 = 1 := by simp [CallCtx.bs]

theorem CallCtx.any_bs (c : CallCtx) : (c.bs 0).any id = true ↔ ∃ e ∈ c.ins, e.1 % 2 = 1 := by simp [CallCtx.bs]

/-- How many inputs from `i` on are true. -/
theorem CallCtx.count_bs (c : CallCtx) (i : Nat) :
    ((c.bs i).filter id).length = ((c.ins.drop i).filter (fun e => e.1 % 2 = 1)).length := by
  rw [CallCtx.bs, List.filter_map, List.length_map]
  exact congrArg (fun p => ((c.ins.drop i).filter p).length) (funext fun e => beq_eq_decide _ _)

/-! ### The blocks -/

section Truth
variable (c : CallCtx)

theorem fnAnd_eq : fnAnd c = ([if ∀ e ∈ c.ins, e.1 % 2 = 1 then 1 else 0], c.x) := by
  rw [fnAnd, ob_of_iff c.all_bs]

theorem fnOr_eq : fnOr c = ([if ∃ e ∈ c.ins, e.1 % 2 = 1 then 1 else 0], c.x) := by
  rw [fnOr, ob_of_iff c.any_bs]

theorem fnXor_eq : fnXor c = ([if c.i 0 % 2 = c.i 1 % 2 then 0 else 1], c.x) := by
  rcases c.b_cases 0 with ⟨hb, h⟩ | ⟨hb, h⟩ <;> rcases c.b_cases 1 with ⟨hb', h'⟩ | ⟨hb', h'⟩ <;>
    simp [fnXor, hb, h, hb', h', ob, b2n]

theorem fnNot_eq : fnNot c = ([1 - c.i 0 % 2], c.x) := by rw [fnNot, CallCtx.ob_not_b]

/-- R323: SET wins. -/
theorem fnSr_eq : fnSr c = ([if c.i 0 % 2 = 1 then 1 else if c.i 1 % 2 = 1 then 0 else c.o 0 % 2], c.x) := by
  rcases c.b_cases 0 with ⟨hset, h⟩ | ⟨hset, h⟩
  · rcases c.b_cases 1 with ⟨hreset, h'⟩ | ⟨hreset, h'⟩
    · simp [fnSr, hset, h, hreset, h', ob_lowBit]
    · simp [fnSr, hset, h, hreset, h', ob, b2n]
  · simp [fnSr, hset, h, ob, b2n]

/-- R323: RESET wins. -/
theorem fnRs_eq : fnRs c = ([if c.i 1 % 2 = 1 then 0 else if c.i 0 % 2 = 1 then 1 else c.o 0 % 2], c.x) := by
  rcases c.b_cases 1 with ⟨hreset, h⟩ | ⟨hreset, h⟩
  · rcases c.b_cases 0 with ⟨hset, h'⟩ | ⟨hset, h'⟩
    · simp [fnRs, hset, h, hreset, h', ob_lowBit]
    · simp [fnRs, hset, h, hreset, h', ob, b2n]
  · simp [fnRs, hreset, h, ob, b2n]

theorem fnMaj3_eq : fnMaj3 c = ([if 2 ≤ (c.ins.filter (fun e => e.1 % 2 = 1)).length then 1 else 0], c.x) := by
  rw [fnMaj3, ob_decide, CallCtx.count_bs, List.drop_zero]

theorem fnKofn_eq :
    fnKofn c = ([if c.n 0 ≤ (((c.ins.drop 1).filter (fun e => e.1 % 2 = 1)).length : Nat) then 1 else 0], c.x) := by
  rw [fnKofn, ob_decide, CallCtx.count_bs]

/-- R295, R324: where the edge memory is to be taken from the input there is no edge. -/
theorem fnRtrig_eq :
    fnRtrig c = ([if c.x.prime = false ∧ c.x.m1 = false then c.i 0 % 2 else 0], { c.x with m1 := c.b 0 }) := by
  unfold fnRtrig edgeMem
  cases c.x.prime
  · cases c.x.m1
    · simp [CallCtx.ob_b]
    · simp [ob, b2n]
  · simp [ob, b2n]

theorem fnFtrig_eq :
    fnFtrig c = ([if c.x.prime = false ∧ c.x.m1 = true then 1 - c.i 0 % 2 else 0], { c.x with m1 := c.b 0 }) := by
  unfold fnFtrig edgeMem
  cases c.x.prime
  · cases c.x.m1
    · simp [ob, b2n]
    · simp [CallCtx.ob_not_b]
  · simp [ob, b2n]

end Truth

/-- Settles O23: each block's command answers its function, which the lemma above states. -/
theorem truthValueBlocks : Obligations.TruthValueBlocks := by
  unfold Obligations.TruthValueBlocks
  refine ⟨⟨?and, ?or, ?xor, ?not, ?sr, ?rs, ?maj3, ?kofn, ?rTrig, ?fTrig⟩, ?rows⟩
  case and => exact blockAnswers_of_fn exec_blkAnd fnAnd_eq
  case or => exact blockAnswers_of_fn exec_blkOr fnOr_eq
  case xor => exact blockAnswers_of_fn exec_blkXor fnXor_eq
  case not => exact blockAnswers_of_fn exec_blkNot fnNot_eq
  case sr => exact blockAnswers_of_fn exec_blkSr fnSr_eq
  case rs => exact blockAnswers_of_fn exec_blkRs fnRs_eq
  case maj3 => exact blockAnswers_of_fn exec_blkMaj3 fnMaj3_eq
  case kofn => exact blockAnswers_of_fn exec_blkKofn fnKofn_eq
  case rTrig => exact blockAnswers_of_fn exec_blkRTrig fnRtrig_eq
  case fTrig => exact blockAnswers_of_fn exec_blkFTrig fnFtrig_eq
  case rows =>
    exact ⟨fun t k s => exec_of_row (exec_blkAnd t k s), fun t k s => exec_of_row (exec_blkOr t k s),
      fun t k s => exec_of_row (exec_blkXor t k s), fun t k s => exec_of_row (exec_blkNot t k s),
      fun t k s => exec_of_row (exec_blkSr t k s), fun t k s => exec_of_row (exec_blkRs t k s),
      fun t k s => exec_of_row (exec_blkMaj3 t k s), fun t k s => exec_of_row (exec_blkKofn t k s),
      fun t k s => exec_of_row (exec_blkRTrig t k s), fun t k s => exec_of_row (exec_blkFTrig t k s)⟩

end Sys2Proof.Machine

/-!
The timers, the counters and the blocks DPS, LOCKOUT and AR (R325, R326, R328, R331, R332): what each block's function answers.
-/
namespace Sys2Proof.Machine

/-! ### Timers (R325) -/

section Timers
variable (c : CallCtx)

theorem ptOf_eq : ptOf c = Max.max 0 (c.t 1) := by unfold ptOf; omega

theorem timerOut_eq (q : Bool) (e pt : Int) : timerOut q e pt = [ob q, tcBits 64 (Min.min e pt)] := by
  have hmin : (if e < pt then e else pt) = Min.min e pt := by omega
  rw [timerOut, hmin]

/-- Where no time has run, ET is 0, for PT is at least 0. -/
theorem timerOut_of_zero (q : Bool) : timerOut q 0 (Max.max 0 (c.t 1)) = [ob q, tcBits 64 0] := by
  rw [timerOut_eq, min_eq_left (Int.le_max_left ..)]

theorem fnTon_eq : fnTon c =
    (let pt := Max.max 0 (c.t 1)
     if c.b 0 then
       let e := if c.x.m1 then clampI 0 9223372036854775807 (c.x.e + c.dt) else c.x.e
       ([if pt ≤ e then 1 else 0, tcBits 64 (Min.min e pt)], { c.x with m1 := true, e := e })
     else ([0, tcBits 64 0], { c.x with m1 := false, e := 0 })) := by
  simp only [fnTon, ptOf_eq, timerOut_of_zero]
  cases c.b 0
  · rfl
  · simp only [timerOut_eq, ob_decide]
    rfl

theorem fnTof_eq : fnTof c =
    (let pt := Max.max 0 (c.t 1)
     if c.b 0 then ([1, tcBits 64 0], { c.x with m1 := true, st := 1, e := 0 })
     else if c.x.st = 0 then ([0, tcBits 64 (Min.min c.x.e pt)], { c.x with m1 := false })
     else
       let e := if c.x.m1 then 0 else clampI 0 9223372036854775807 (c.x.e + c.dt)
       ([if e < pt then 1 else 0, tcBits 64 (Min.min e pt)], { c.x with m1 := false, e := e })) := by
  simp only [fnTof, ptOf_eq, timerOut_of_zero]
  cases c.b 0
  · simp only [timerOut_eq, ob_decide]
    rfl
  · rfl

theorem b2n_decide (p : Prop) [Decidable p] : b2n (decide p) = if p then 1 else 0 := ob_decide p

theorem fnTp_eq : fnTp c =
    (let pt := Max.max 0 (c.t 1)
     let start := c.x.st = 0 ∧ c.b 0 = true ∧ c.x.m1 = false
     let e := if start then 0 else if c.x.st = 1 then clampI 0 9223372036854775807 (c.x.e + c.dt) else c.x.e
     let q : Nat := if (start ∨ c.x.st = 1) ∧ e < pt then 1 else 0
     ([q, tcBits 64 (Min.min e pt)], { c.x with m1 := c.b 0, st := q, e := e })) := by
  have hstart : (decide (c.x.st = 0) && c.b 0 && !c.x.m1) = decide (c.x.st = 0 ∧ c.b 0 = true ∧ c.x.m1 = false) := by
    simp [Bool.decide_and, Bool.and_assoc]
  simp only [fnTp, ptOf_eq, timerOut_eq, hstart, ← Bool.decide_or, ← Bool.decide_and, decide_eq_true_eq, eAdd, ob_decide, b2n_decide]

end Timers

/-! ### Counters (R326) -/

theorem sext_32_bounds (v : Nat) : -2147483648 ≤ sext 32 v ∧ sext 32 v ≤ 2147483647 := by
  unfold sext
  omega

theorem cvUp_eq (v : Nat) : cvUp (sext 32 v) = Min.min 2147483647 (sext 32 v + 1) := by
  have := sext_32_bounds v
  unfold cvUp clampI
  omega

theorem cvDown_eq (v : Nat) : cvDown (sext 32 v) = Max.max (-2147483648) (sext 32 v - 1) := by
  have := sext_32_bounds v
  unfold cvDown clampI
  omega

/-- A rising edge: the input is true and its memory false. -/
theorem rise_iff (b m : Bool) : (b && !m) = true ↔ b = true ∧ m = false := by simp

section Counters
variable (c : CallCtx)

theorem fnCtu_eq : fnCtu c =
    (let v := if c.b 1 then 0 else if c.b 0 = true ∧ c.x.m1 = false then Min.min 2147483647 (sext 32 (c.o 1) + 1) else sext 32 (c.o 1)
     ([if c.n 2 ≤ v then 1 else 0, tcBits 32 v], { c.x with m1 := c.b 0 })) := by
  simp only [fnCtu, cvUp_eq, rise_iff, ob_decide]

theorem fnCtd_eq : fnCtd c =
    (let v := if c.b 1 then c.n 2 else if c.b 0 = true ∧ c.x.m1 = false then Max.max (-2147483648) (sext 32 (c.o 1) - 1)
       else sext 32 (c.o 1)
     ([if v ≤ 0 then 1 else 0, tcBits 32 v], { c.x with m1 := c.b 0 })) := by
  simp only [fnCtd, cvDown_eq, rise_iff, ob_decide]

theorem fnCtud_eq : fnCtud c =
    (let u := c.b 0 = true ∧ c.x.m1 = false
     let d := c.b 1 = true ∧ c.x.m2 = false
     let v := if c.b 2 then 0 else if c.b 3 then c.n 4 else if u ∧ ¬ d then Min.min 2147483647 (sext 32 (c.o 2) + 1)
       else if d ∧ ¬ u then Max.max (-2147483648) (sext 32 (c.o 2) - 1) else sext 32 (c.o 2)
     ([if c.n 4 ≤ v then 1 else 0, if v ≤ 0 then 1 else 0, tcBits 32 v], { c.x with m1 := c.b 0, m2 := c.b 1 })) := by
  have hone (b m b' m' : Bool) : ((b && !m) && !(b' && !m')) = true ↔ (b = true ∧ m = false) ∧ ¬ (b' = true ∧ m' = false) := by
    rw [Bool.and_eq_true, Bool.not_eq_true', ← Bool.not_eq_true, rise_iff, rise_iff]
  simp only [fnCtud, cvUp_eq, cvDown_eq, hone, ob_decide]

end Counters

/-! ### DPS, LOCKOUT and AR (R328, R331, R332) -/

section Positions
variable (c : CallCtx)

theorem fnDps_eq : fnDps c =
    (let pos := 2 * (c.i 1 % 2) + c.i 0 % 2
     if pos = 1 ∨ pos = 2 then ([pos, 0], { c.x with st := 0, e := 0 })
     else
       let e := if c.x.st = 1 then clampI 0 9223372036854775807 (c.x.e + c.dt) else 0
       ([pos, if c.t 2 ≤ e then 1 else 0], { c.x with st := 1, e := e })) := by
  have hpos : (if c.b 0 then (if c.b 1 then 3 else 1) else if c.b 1 then 2 else 0) = 2 * (c.i 1 % 2) + c.i 0 % 2 := by
    rcases c.b_cases 0 with ⟨hb, h⟩ | ⟨hb, h⟩ <;> rcases c.b_cases 1 with ⟨hb', h'⟩ | ⟨hb', h'⟩ <;> simp [hb, h, hb', h']
  simp only [fnDps, hpos, ← Bool.decide_or, decide_eq_true_eq, ob_decide]
  rfl

theorem fnLockout_eq : fnLockout c =
    ([if c.i 0 % 2 = 1 then 1 else if c.b 1 = true ∧ c.x.m1 = false then 0 else c.o 0 % 2], { c.x with m1 := c.b 1 }) := by
  rcases c.b_cases 0 with ⟨hset, h⟩ | ⟨hset, h⟩
  · by_cases hrise : c.b 1 = true ∧ c.x.m1 = false
    · simp [fnLockout, hset, h, hrise, ob, b2n]
    · simp [fnLockout, hset, h, hrise, ob_lowBit]
  · simp [fnLockout, hset, h, ob, b2n]

end Positions

/-- R331: AR answers its function; its entry into LOCKOUT puts event 66 among those of the scan. -/
theorem State.runAr_eq (s : State) (k : Nat) (c : CallCtx) :
    s.runAr k c =
      (if (fnAr c).2.st = 6 ∧ c.x.st ≠ 6 then s.scanEvt k 66 c.call.inst (fnAr c).2.k else s).endCall k c (fnAr c).1 (fnAr c).2 := by
  simp [State.runAr]

/-- Settles O24: each block's command answers its function, which the lemma above states. -/
theorem timersAndCounters : Obligations.TimersAndCounters := by
  unfold Obligations.TimersAndCounters
  refine ⟨⟨?ton, ?tof, ?tp, ?ctu, ?ctd, ?ctud, ?dps, ?lockout, ?ar⟩, ?rows⟩
  case ton => exact blockAnswers_of_fn exec_blkTon fnTon_eq
  case tof => exact blockAnswers_of_fn exec_blkTof fnTof_eq
  case tp => exact blockAnswers_of_fn exec_blkTp fnTp_eq
  case ctu => exact blockAnswers_of_fn exec_blkCtu fnCtu_eq
  case ctd => exact blockAnswers_of_fn exec_blkCtd fnCtd_eq
  case ctud => exact blockAnswers_of_fn exec_blkCtud fnCtud_eq
  case dps => exact blockAnswers_of_fn exec_blkDps fnDps_eq
  case lockout => exact blockAnswers_of_fn exec_blkLockout fnLockout_eq
  case ar =>
    intro t k c s a r hk hruns hfree hnext hty
    rw [CallDue.exec_eq ⟨hk, hruns, hfree, hnext⟩ hty (exec_blkAr t k s), State.runAr_eq]
  case rows =>
    exact ⟨fun t k s => exec_of_row (exec_blkTon t k s), fun t k s => exec_of_row (exec_blkTof t k s),
      fun t k s => exec_of_row (exec_blkTp t k s), fun t k s => exec_of_row (exec_blkCtu t k s),
      fun t k s => exec_of_row (exec_blkCtd t k s), fun t k s => exec_of_row (exec_blkCtud t k s),
      fun t k s => exec_of_row (exec_blkAr t k s), fun t k s => exec_of_row (exec_blkDps t k s),
      fun t k s => exec_of_row (exec_blkLockout t k s)⟩

end Sys2Proof.Machine

/-!
Comparisons, arithmetic, choices, bit operations and conversions (R318, R319, R323): the functions whose definition is spelt in truth
values, and what saturation and REAL32 do at their limits. A block not named here answers its function as it is defined.
-/
namespace Sys2Proof.Machine

section Numbers
variable (c : CallCtx)

theorem CallCtx.b_iff (i : Nat) : c.b i = true ↔ c.i i % 2 = 1 := beq_iff_eq

theorem fnNe_eq : fnNe c = ([if vtEq c.vt (c.i 0) (c.i 1) then 0 else 1], c.x) := by
  unfold fnNe
  cases vtEq c.vt (c.i 0) (c.i 1) <;> rfl

/-- R323: with HI ≤ LO HYST compares with HI alone; else between the two it keeps its output. -/
theorem fnHyst_eq : fnHyst c =
    ([if fLe (c.i 1) (c.i 2) then (if fLe (c.i 1) (c.i 0) then 1 else 0)
      else if fLe (c.i 1) (c.i 0) then 1 else if fLe (c.i 0) (c.i 2) then 0 else c.o 0 % 2], c.x) := by
  unfold fnHyst
  cases fLe (c.i 1) (c.i 2)
  · cases fLe (c.i 1) (c.i 0)
    · cases fLe (c.i 0) (c.i 2)
      · exact congrArg (fun q => ([q], c.x)) (ob_lowBit _)
      · rfl
    · rfl
  · rfl

theorem fnSel_eq : fnSel c = ([if c.i 0 % 2 = 1 then c.i 2 else c.i 1], c.x) :=
  congrArg (fun q => ([q], c.x)) (if_congr (c.b_iff 0) rfl rfl)

theorem fnMux_eq : fnMux c =
    (if 0 ≤ c.n 0 ∧ c.n 0 < ((c.ins.length - 1 : Nat) : Int) then [c.i (1 + (c.n 0).toNat), 0] else [c.o 0, 1], c.x) := by
  simp only [fnMux, Bool.and_eq_true, decide_eq_true_eq]

theorem fnPack_eq : fnPack c = ([(c.ins.foldr (fun e r => e.1 % 2 + 2 * r) 0) % 4294967296], c.x) := by
  have hbit (n : Nat) : b2n (n % 2 == 1) = n % 2 := ob_lowBit n
  simp only [fnPack, CallCtx.bs, List.drop_zero, List.foldr_map, hbit]

theorem ob_bitN (n i : Nat) : ob (bitN n i) = n / 2 ^ i % 2 := ob_lowBit _

theorem fnUnpack_eq : fnUnpack c = ((upto 16).map (fun k => c.i 0 / 2 ^ k % 2), c.x) := by
  simp only [fnUnpack, ob_bitN]

theorem fnShl_eq : fnShl c = ([if 0 ≤ c.n 1 ∧ c.n 1 ≤ 31 then c.i 0 * 2 ^ (c.n 1).toNat % 4294967296 else 0], c.x) := by
  simp only [fnShl, Bool.and_eq_true, decide_eq_true_eq]

theorem fnShr_eq : fnShr c = ([if 0 ≤ c.n 1 ∧ c.n 1 ≤ 31 then c.i 0 / 2 ^ (c.n 1).toNat else 0], c.x) := by
  simp only [fnShr, Bool.and_eq_true, decide_eq_true_eq]

theorem fnI2b_eq : fnI2b c = ([if c.i 0 = 0 then 0 else 1], c.x) := by
  by_cases h : c.i 0 = 0 <;> simp [fnI2b, h, ob, b2n]

end Numbers

/-! ### Limits of the arithmetic (R318, R319) -/

/-- R319: a finite operand that is no subnormal is its own clean value. -/
theorem fClean_of_normal {b : Nat} (hfinite : fExp b ≠ 255) (hnormal : fExp b ≠ 0) : fClean b = (b, false) := by
  simp [fClean, fSpecial, hfinite, hnormal]

theorem fClean_of_nan {b : Nat} (h : fNan b = true) : fClean b = (0, true) := by
  obtain ⟨hexp, hmant⟩ : fExp b = 255 ∧ b % 8388608 ≠ 0 := by simpa [fNan] using h
  simp [fClean, fSpecial, hexp, hmant]

theorem fCompare_of_nan {a b : Nat} (h : fNan a = true ∨ fNan b = true) : fLt a b = false ∧ fLe a b = false := by
  rcases h with h | h <;> simp [fLt, fLe, h]

theorem satOut_int (v : Int) : satOut .int v =
    [tcBits 32 (clampI (-2147483648) 2147483647 v), ob (clampI (-2147483648) 2147483647 v != v)] := rfl

theorem satOut_int_of_mem {v : Int} (hlo : -2147483648 ≤ v) (hhi : v ≤ 2147483647) : satOut .int v = [tcBits 32 v, 0] := by
  have hclamp : clampI (-2147483648) 2147483647 v = v := by unfold clampI; omega
  simp [satOut_int, hclamp, ob, b2n]

theorem satOut_int_of_gt {v : Int} (h : 2147483647 < v) : satOut .int v = [2147483647, 1] := by
  have hclamp : clampI (-2147483648) 2147483647 v = 2147483647 := by unfold clampI; omega
  simp [satOut_int, hclamp, ob, b2n, h.ne, tcBits]

theorem satOut_int_of_lt {v : Int} (h : v < -2147483648) : satOut .int v = [2147483648, 1] := by
  have hclamp : clampI (-2147483648) 2147483647 v = -2147483648 := if_pos h
  simp [satOut_int, hclamp, ob, b2n, h.ne', tcBits]

/-- Settles O25: each block's command answers its function, with the limits of the arithmetic above. -/
theorem numberBlocks : Obligations.NumberBlocks := by
  unfold Obligations.NumberBlocks
  refine ⟨⟨?eq, ?ne, ?gt, ?ge, ?lt, ?le, ?hyst, ?add, ?sub, ?mul, ?div, ?mod, ?abs, ?neg, ?sqrt, ?min, ?max, ?sel, ?mux, ?limit, ?move,
    ?pack, ?unpack, ?band, ?bor, ?bxor, ?shl, ?shr, ?i2r, ?r2i, ?b2i, ?i2b, ?t2i, ?i2t, ?t2r, ?r2t, fun _ => fClean_of_normal,
    fun _ => fClean_of_nan, fun _ _ => fCompare_of_nan, fun _ => satOut_int_of_mem, fun _ => satOut_int_of_gt,
    fun _ => satOut_int_of_lt⟩, ?rows⟩
  case eq => exact blockAnswers_of_fn exec_blkEq fun _ => rfl
  case ne => exact blockAnswers_of_fn exec_blkNe fnNe_eq
  case gt => exact blockAnswers_of_fn exec_blkGt fun _ => rfl
  case ge => exact blockAnswers_of_fn exec_blkGe fun _ => rfl
  case lt => exact blockAnswers_of_fn exec_blkLt fun _ => rfl
  case le => exact blockAnswers_of_fn exec_blkLe fun _ => rfl
  case hyst => exact blockAnswers_of_fn exec_blkHyst fnHyst_eq
  case add => exact blockAnswers_of_fn exec_blkAdd fun _ => rfl
  case sub => exact blockAnswers_of_fn exec_blkSub fun _ => rfl
  case mul => exact blockAnswers_of_fn exec_blkMul fun _ => rfl
  case div => exact blockAnswers_of_fn exec_blkDiv fun _ => rfl
  case mod => exact blockAnswers_of_fn exec_blkMod fun _ => rfl
  case abs => exact blockAnswers_of_fn exec_blkAbs fun _ => rfl
  case neg => exact blockAnswers_of_fn exec_blkNeg fun _ => rfl
  case sqrt => exact blockAnswers_of_fn exec_blkSqrt fun _ => rfl
  case min => exact blockAnswers_of_fn exec_blkMin fun _ => rfl
  case max => exact blockAnswers_of_fn exec_blkMax fun _ => rfl
  case sel => exact blockAnswers_of_fn exec_blkSel fnSel_eq
  case mux => exact blockAnswers_of_fn exec_blkMux fnMux_eq
  case limit => exact blockAnswers_of_fn exec_blkLimit fun _ => rfl
  case move => exact blockAnswers_of_fn exec_blkMove fun _ => rfl
  case pack => exact blockAnswers_of_fn exec_blkPack fnPack_eq
  case unpack => exact blockAnswers_of_fn exec_blkUnpack fnUnpack_eq
  case band => exact blockAnswers_of_fn exec_blkBand fun _ => rfl
  case bor => exact blockAnswers_of_fn exec_blkBor fun _ => rfl
  case bxor => exact blockAnswers_of_fn exec_blkBxor fun _ => rfl
  case shl => exact blockAnswers_of_fn exec_blkShl fnShl_eq
  case shr => exact blockAnswers_of_fn exec_blkShr fnShr_eq
  case i2r => exact blockAnswers_of_fn exec_blkI2r fun _ => rfl
  case r2i => exact blockAnswers_of_fn exec_blkR2i fun _ => rfl
  case b2i => exact blockAnswers_of_fn exec_blkB2i fun _ => rfl
  case i2b => exact blockAnswers_of_fn exec_blkI2b fnI2b_eq
  case t2i => exact blockAnswers_of_fn exec_blkT2i fun _ => rfl
  case i2t => exact blockAnswers_of_fn exec_blkI2t fun _ => rfl
  case t2r => exact blockAnswers_of_fn exec_blkT2r fun _ => rfl
  case r2t => exact blockAnswers_of_fn exec_blkR2t fun _ => rfl
  case rows =>
    exact ⟨fun t k s => exec_of_row (exec_blkEq t k s), fun t k s => exec_of_row (exec_blkNe t k s),
      fun t k s => exec_of_row (exec_blkGt t k s), fun t k s => exec_of_row (exec_blkGe t k s),
      fun t k s => exec_of_row (exec_blkLt t k s), fun t k s => exec_of_row (exec_blkLe t k s),
      fun t k s => exec_of_row (exec_blkHyst t k s), fun t k s => exec_of_row (exec_blkAdd t k s),
      fun t k s => exec_of_row (exec_blkSub t k s), fun t k s => exec_of_row (exec_blkMul t k s),
      fun t k s => exec_of_row (exec_blkDiv t k s), fun t k s => exec_of_row (exec_blkMod t k s),
      fun t k s => exec_of_row (exec_blkAbs t k s), fun t k s => exec_of_row (exec_blkNeg t k s),
      fun t k s => exec_of_row (exec_blkSqrt t k s), fun t k s => exec_of_row (exec_blkMin t k s),
      fun t k s => exec_of_row (exec_blkMax t k s), fun t k s => exec_of_row (exec_blkSel t k s),
      fun t k s => exec_of_row (exec_blkMux t k s), fun t k s => exec_of_row (exec_blkLimit t k s),
      fun t k s => exec_of_row (exec_blkMove t k s), fun t k s => exec_of_row (exec_blkPack t k s),
      fun t k s => exec_of_row (exec_blkUnpack t k s), fun t k s => exec_of_row (exec_blkBand t k s),
      fun t k s => exec_of_row (exec_blkBor t k s), fun t k s => exec_of_row (exec_blkBxor t k s),
      fun t k s => exec_of_row (exec_blkShl t k s), fun t k s => exec_of_row (exec_blkShr t k s),
      fun t k s => exec_of_row (exec_blkI2r t k s), fun t k s => exec_of_row (exec_blkR2i t k s),
      fun t k s => exec_of_row (exec_blkB2i t k s), fun t k s => exec_of_row (exec_blkI2b t k s),
      fun t k s => exec_of_row (exec_blkT2i t k s), fun t k s => exec_of_row (exec_blkI2t t k s),
      fun t k s => exec_of_row (exec_blkT2r t k s), fun t k s => exec_of_row (exec_blkR2t t k s)⟩

end Sys2Proof.Machine

/-!
What a GSET block enters for the output write (R319, R333). A value leaves a block of REAL32 without NaN, infinity and subnormal, so
GSET_R does not enter such an input as it stands.
-/
namespace Sys2Proof.Machine

/-- R282: the end of a call keeps the values entered for the output write. -/
theorem State.gset_endCall_mapScan {s : State} {k : Nat} {sc : Scan} (hscan : (s.prog k).scan = some sc) (hk : k < s.lgc.progs.length)
    (f : Scan → Scan) (c : CallCtx) (outs : List Nat) (x : BlkInt) :
    (((s.mapScan k f).endCall k c outs x).prog k).scan.map Scan.gset = some (f sc).gset := by
  rw [State.endCall_of_scan (State.scan_mapScan hscan hk f), State.prog_setProg_same _ _ _ (by simpa using hk)]
  rfl

/-- R319, R333: GSET_R enters its input as REAL32 leaves a block. -/
theorem State.gset_runGset_real {s : State} {k : Nat} {sc : Scan} {c : CallCtx} (hscan : (s.prog k).scan = some sc)
    (hk : k < s.lgc.progs.length) (hty : c.call.type = 0x45) :
    ((s.runGset k c).prog k).scan.map Scan.gset = some (sc.gset ++ [(c.i 0, c.i 1, vtCut .real (c.i 3))]) := by
  rw [State.runGset, State.gset_endCall_mapScan hscan hk, if_pos hty]

/-- A scan of the analysis program at its one call, GSET_R with a constant at IN; the constant is a NaN. -/
def gsetOfNan : State :=
  let image : InImage := ⟨[], [], [], 0, [], 0, 0, [], [], 0, ⟨0, 0, 0, none⟩, 0, 0, []⟩
  let scan : Scan := ⟨image, [], some 0, 0, [], 0, false, false, 0, []⟩
  let prog := { resetProg with
    img := { resetImg with code := [(0, 0x7FC00000)] }
    calls := [(0, ⟨0x45, 0, 0, false, false, [.none, .none, .none, .const 0]⟩)]
    scan := some scan }
  { (State.reset.setF (POD_STAT_STATE 2) 1).setFlag POD_LSTAT_ANA_RUN true with lgc := { resetLgc with progs := [resetProg, prog] } }

/-- Refutes O26: its clause on the GSET blocks has GSET_R enter IN as it stands, but a NaN never leaves a block (R319). In `gsetOfNan` IN
is the NaN 0x7FC00000 and the value entered is 0.0. -/
theorem not_systemBlocks : ¬ Obligations.SystemBlocks := by
  unfold Obligations.SystemBlocks
  rintro ⟨⟨-, -, -, -, -, -, -, -, hcalls, -⟩, -⟩
  obtain ⟨c, hdue, hty, hin⟩ : ∃ c, CallDue (gsetOfNan.at 0) 1 c ∧ c.call.type = 0x45 ∧ c.i 3 = 0x7FC00000 :=
    ⟨_, ⟨by decide, by decide, rfl, rfl⟩, rfl, rfl⟩
  obtain ⟨-, -, -, -, ⟨-, -, hreal⟩, -⟩ := hcalls 0 1 c gsetOfNan hdue.inRow hdue.runs hdue.free hdue.next
  have hsame : (gsetOfNan.at 0).runGset 1 c = _ :=
    Host.Outcome.next.inj ((hdue.exec_eq hty (exec_blkGsetR 0 1 gsetOfNan)).symm.trans (hreal hty))
  have hcut : vtCut .real 0x7FC00000 = 0 := by decide
  have hentered := congrArg (fun s : State => (s.prog 1).scan.map Scan.gset) hsame
  rw [State.gset_runGset_real rfl (by decide) hty, State.gset_endCall_mapScan rfl (by decide), hin, hcut] at hentered
  simp at hentered

end Sys2Proof.Machine

/-!
The registers of a time base (R334 to R344): which fields its operations write, so that every other field reads as before, and what the
state of R336 is after each.
-/
namespace Sys2Proof.Machine

/-! ### Fields of one time base -/

/-- Registers of one time base at different offsets. -/
theorem Field.apart_of_offset {f g : Field} {b x y : Nat} (hf : f.addr = x + 0x40 * b) (hg : g.addr = y + 0x40 * b) (h : x ≠ y) :
    f.Apart g := Or.inl (by omega)

/-- A register below those of the event queues, which raising an event leaves alone. -/
theorem addr_lt_of_offset {f : Field} {b x : Nat} (hf : f.addr = x + 0x40 * b) (hb : b < 4) (hx : x < 0x130000) : f.addr < 0x1A0000 := by
  omega

theorem fits_TIM_STAT (b : Nat) : (TIM_STAT_STATE b).Fits ∧ (TIM_STAT_SRC_OK b).Fits ∧ (TIM_STAT_QUAL b).Fits ∧
    (TIM_STAT_REFUSED b).Fits ∧ (TIM_STAT_LOST_SEEN b).Fits :=
  (by decide : 0 + 3 ≤ 32 ∧ 3 + 1 ≤ 32 ∧ 8 + 8 ≤ 32 ∧ 16 + 1 ≤ 32 ∧ 17 + 1 ≤ 32)

theorem fits_TIM_CNT (b : Nat) : (TIM_CNT_STEPS b).Fits ∧ (TIM_CNT_REFUSE b).Fits ∧ (TIM_CNT_LOSS b).Fits :=
  (by decide : 0 + 8 ≤ 32 ∧ 8 + 8 ≤ 32 ∧ 16 + 8 ≤ 32)

theorem fits_TIM_PEND (b : Nat) : (TIM_PEND_LO_PLO b).Fits ∧ (TIM_PEND_HI_PHI b).Fits := ⟨Nat.le_refl 32, Nat.le_refl 32⟩

theorem fits_TIM_OFS (b : Nat) : (TIM_OFS_OFS b).Fits := Nat.le_refl 32

theorem fits_TIM_FADJ (b : Nat) : (TIM_FADJ_FADJ b).Fits := Nat.le_refl 32

/-- A field that entering a state (R336) leaves as it was: neither STATE nor QUAL, nor a register of the events. -/
structure BesideState (b : Nat) (g : Field) : Prop where
  low : g.addr < 0x1A0000
  state : g.Apart (TIM_STAT_STATE b)
  qual : g.Apart (TIM_STAT_QUAL b)

/-- So is every register of the time base but TIM_STAT. -/
theorem besideState_of_offset {g : Field} {b x : Nat} (hg : g.addr = x + 0x40 * b) (hb : b < 4) (hx : x < 0x130000) (h : x ≠ 0x12000C) :
    BesideState b g :=
  ⟨addr_lt_of_offset hg hb hx, Field.apart_of_offset hg rfl h, Field.apart_of_offset hg rfl h⟩

/-- The flags of TIM_STAT. -/
theorem besideState_flags {b : Nat} (hb : b < 4) :
    BesideState b (TIM_STAT_SRC_OK b) ∧ BesideState b (TIM_STAT_REFUSED b) ∧ BesideState b (TIM_STAT_LOST_SEEN b) := by
  have hlow : TIM_STAT b < 0x1A0000 := by unfold TIM_STAT; omega
  exact ⟨⟨hlow, .inr (.inr (by decide : 0 + 3 ≤ 3)), .inr (.inl (by decide : 3 + 1 ≤ 8))⟩,
    ⟨hlow, .inr (.inr (by decide : 0 + 3 ≤ 16)), .inr (.inr (by decide : 8 + 8 ≤ 16))⟩,
    ⟨hlow, .inr (.inr (by decide : 0 + 3 ≤ 17)), .inr (.inr (by decide : 8 + 8 ≤ 17))⟩⟩

/-- The words that all time bases share. -/
theorem besideState_TIM_SAMP {b : Nat} (hb : b < 4) : BesideState b TIM_SAMP_COMPAT := by
  have hne : TIM_SAMP ≠ TIM_STAT b := by unfold TIM_SAMP TIM_STAT; omega
  exact ⟨(by decide : 0x120400 < 0x1A0000), .inl hne, .inl hne⟩

/-! ### What the operations leave -/

section Reads
variable {s : State} {b : Nat} {g : Field}

theorem State.flag_setFlag_apart {f : Field} (hf : f.Fits) (h : g.Apart f) (v : Bool) : (s.setFlag f v).flag g = s.flag g :=
  State.flag_eq_of_getF (State.getF_setF_apart hf h _)

theorem State.getF_incSat_apart {f : Field} (hf : f.Fits) (h : g.Apart f) : (s.incSat f).getF g = s.getF g :=
  State.getF_setF_apart hf h _

theorem State.getF_setTb (x : TbInt) : (s.setTb b x).getF g = s.getF g := rfl

theorem State.getF_keepE0 : (s.keepE0 b).getF g = s.getF g :=
  State.getF_of_regs (by simp [State.keepE0_frame]) g

theorem State.getF_markStep (d : Int) : (s.markStep b d).getF g = s.getF g :=
  State.getF_of_regs (by simp [State.markStep_frame]) g

theorem State.getF_setPend (h : g.Apart (TIM_PEND_LO_PLO b) ∧ g.Apart (TIM_PEND_HI_PHI b)) (ns : Int) :
    (s.setPend b ns).getF g = s.getF g :=
  (State.getF_setF_apart (fits_TIM_PEND b).2 h.2 _).trans (State.getF_setF_apart (fits_TIM_PEND b).1 h.1 _)

theorem State.getF_setAdj (h : g.Apart (TIM_FADJ_FADJ b)) (adj : Int) : (s.setAdj b adj).getF g = s.getF g :=
  State.getF_setF_apart (s := s.rebase b 0) (fits_TIM_FADJ b) h _

theorem State.getF_setQual (h : g.Apart (TIM_STAT_QUAL b)) : (s.setQual b).getF g = s.getF g :=
  State.getF_setF_apart (fits_TIM_STAT b).2.2.1 h _

theorem State.getF_tbEnter (h : BesideState b g) (st : Nat) : (s.tbEnter b st).getF g = s.getF g := by
  have hentered : ∀ x : TbInt, (((s.setF (TIM_STAT_STATE b) st).setTb b x).setQual b).getF g = s.getF g := fun _ =>
    (State.getF_setQual h.qual).trans (State.getF_setF_apart (fits_TIM_STAT b).1 h.state st)
  unfold State.tbEnter
  dsimp only
  split
  · exact (State.getF_raise _ _ _ _ _ h.low).trans (hentered _)
  · split
    · exact (State.getF_raise _ _ _ _ _ h.low).trans (hentered _)
    · exact hentered _

/-- R336: entering a state. -/
theorem State.tbState_tbEnter (hb : b < 4) {st : Nat} (hst : st < 8) : (s.tbEnter b st).tbState b = st := by
  have hlow : (TIM_STAT_STATE b).addr < 0x1A0000 := addr_lt_of_offset (x := 0x12000C) rfl hb (by decide)
  have hentered : ∀ x : TbInt, (((s.setF (TIM_STAT_STATE b) st).setTb b x).setQual b).tbState b = st := fun _ =>
    (State.getF_setQual (.inr (.inl (by decide : 0 + 3 ≤ 8)))).trans
      ((State.getF_setF_same s _ st (fits_TIM_STAT b).1).trans (Nat.mod_eq_of_lt hst))
  unfold State.tbEnter
  dsimp only
  split
  · exact (State.getF_raise _ _ _ _ _ hlow).trans (hentered _)
  · split
    · exact (State.getF_raise _ _ _ _ _ hlow).trans (hentered _)
    · exact hentered _

end Reads

end Sys2Proof.Machine

/-!
One update of a time base with an offset (R339 to R341, R344): what the servo does with it, by the state of the time base, and how the
counts of offsets within and outside LOCK_THR lock and unlock it.
-/
namespace Sys2Proof.Machine

/-- Whether CARRY is held is read from COMPAT and from CARRY itself. -/
theorem State.carryHeld_congr {s s' : State} {b : Nat} (hcompat : s'.getF TIM_SAMP_COMPAT = s.getF TIM_SAMP_COMPAT)
    (hcarry : s'.tim.carry = s.tim.carry) (hslew : s'.tim.carrySlew = s.tim.carrySlew) : s'.carryHeld b = s.carryHeld b := by
  simp only [State.carryHeld, State.flag, hcompat, hcarry, hslew]

section Servo
variable {s : State} {b : Nat} {o : Int}

/-! ### The counts of offsets (R339) -/

/-- A saturating counter one short of its cap reaches it. -/
theorem le_satInc {cap n : Nat} (h : cap ≤ n + 1) : cap ≤ satInc cap n := by
  unfold satInc
  split
  · exact h
  · exact Nat.le_refl cap

theorem State.tb_countLock (hlen : b < s.tim.bases.length) :
    (s.countLock b o).tb b = if absN o ≤ s.lockThr b then { s.tb b with inLock := satInc 16 (s.tb b).inLock, outLock := 0 }
      else { s.tb b with inLock := 0, outLock := satInc 4 (s.tb b).outLock } :=
  State.tb_setTb_same _ _ _ hlen

theorem State.within_countLock (hlen : b < s.tim.bases.length) : ((s.countLock b o).tb b).within = (s.tb b).within := by
  rw [State.tb_countLock hlen]
  split <;> rfl

/-- Sixteen offsets in a row within LOCK_THR lock a time base that acquires. -/
theorem State.lockCount_locks (hb : b < 4) (hlen : b < s.tim.bases.length) (hstate : s.tbState b = 1) (hin : absN o ≤ s.lockThr b)
    (hcount : 15 ≤ (s.tb b).inLock) : (s.lockCount b o).tbState b = 2 := by
  have hsixteen : 16 ≤ ((s.countLock b o).tb b).inLock := by
    rw [State.tb_countLock hlen, if_pos hin]
    exact le_satInc (by omega)
  have hlocks : s.lockCount b o = (s.countLock b o).tbEnter b 2 := by simp [State.lockCount, hsixteen, hstate]
  rw [hlocks, State.tbState_tbEnter hb (by decide)]

/-- Four outside it unlock a locked one. -/
theorem State.lockCount_unlocks (hb : b < 4) (hlen : b < s.tim.bases.length) (hstate : s.tbState b = 2) (hout : s.lockThr b < absN o)
    (hcount : 3 ≤ (s.tb b).outLock) : (s.lockCount b o).tbState b = 1 := by
  have hfour : 4 ≤ ((s.countLock b o).tb b).outLock := by
    rw [State.tb_countLock hlen, if_neg (Nat.not_le.2 hout)]
    exact le_satInc (by omega)
  have hunlocks : s.lockCount b o = (s.countLock b o).tbEnter b 1 := by simp [State.lockCount, hfour, hstate]
  rw [hunlocks, State.tbState_tbEnter hb (by decide)]

/-- One within it leaves a locked one locked. -/
theorem State.lockCount_stays (hlen : b < s.tim.bases.length) (hstate : s.tbState b = 2) (hin : absN o ≤ s.lockThr b) :
    (s.lockCount b o).tbState b = 2 := by
  have hnone : ((s.countLock b o).tb b).outLock = 0 := by rw [State.tb_countLock hlen, if_pos hin]
  have hstays : s.lockCount b o = s.countLock b o := by simp [State.lockCount, hnone, hstate]
  rw [hstays]
  exact hstate

/-! ### Refused offsets (R341, R356) -/

theorem State.jumps_iff (s : State) (b : Nat) (o : Int) :
    s.jumps b o = true ↔ s.stepThr b < absN o ∨ s.tbSrc b = 3 ∧ subPerSec ≤ 2 * (absN o : Int) := by
  simp [State.jumps]

/-- R341: the first refusal. -/
theorem State.refuseJump_of_free (hstate : s.tbState b ≠ 4) :
    s.refuseJump b o = (((((s.keepE0 b).setPend b (divHalfEven o 65536)).setFlag (TIM_STAT_REFUSED b) true).incSat
      (TIM_CNT_REFUSE b)).tbEnter b 4).raise 90 b (tcBits 32 (nsSat o)) := if_neg hstate

/-- R341: a further one while held. -/
theorem State.refuseJump_of_held (hstate : s.tbState b = 4) :
    s.refuseJump b o = (s.setPend b (divHalfEven o 65536)).setTb b { s.tb b with within := 0, inLock := 0 } := if_pos hstate

/-- The first refusal holds the time base and shows REFUSED. -/
theorem State.refuseJump_holds (hb : b < 4) (hstate : s.tbState b ≠ 4) :
    (s.refuseJump b o).tbState b = 4 ∧ (s.refuseJump b o).flag (TIM_STAT_REFUSED b) = true := by
  obtain ⟨-, hrefused, -⟩ := besideState_flags hb
  have hlow : (TIM_STAT_STATE b).addr < 0x1A0000 := addr_lt_of_offset (x := 0x12000C) rfl hb (by decide)
  have hcnt : (TIM_STAT_REFUSED b).Apart (TIM_CNT_REFUSE b) :=
    Field.apart_of_offset (x := 0x12000C) (y := 0x120034) rfl rfl (by decide)
  rw [State.refuseJump_of_free hstate]
  constructor
  · exact (State.getF_raise _ _ _ _ _ hlow).trans (State.tbState_tbEnter hb (by decide))
  · rw [State.flag_raise _ _ _ _ _ hrefused.low, State.flag_eq_of_getF (State.getF_tbEnter hrefused 4),
      State.flag_eq_of_getF (State.getF_incSat_apart (fits_TIM_CNT b).2.1 hcnt)]
    exact State.flag_setFlag_same _ _ _ (fits_TIM_STAT b).2.2.2.1 rfl

/-! ### An offset while held (R339, R341) -/

theorem State.heldOffset_of_few (hlen : b < s.tim.bases.length) (h : (s.tb b).within < 15) :
    s.heldOffset b o = (s.countLock b o).setTb b { (s.countLock b o).tb b with within := (s.tb b).within + 1 } := by
  have hfew : ¬ 15 ≤ (s.tb b).within := by omega
  simp [State.heldOffset, State.within_countLock hlen, hfew]

theorem State.heldOffset_of_sixteenth (hlen : b < s.tim.bases.length) (h : 15 ≤ (s.tb b).within) :
    s.heldOffset b o =
      (let w := s.countLock b o
       let y := (w.setPend b 0).tbEnter b (if 16 ≤ (w.tb b).inLock then 2 else 1)
       (y.setTb b { y.tb b with inLock := (w.tb b).inLock }).steer b o) := by
  simp [State.heldOffset, State.within_countLock hlen, h]

/-! ### An update (R339 to R344) -/

/-- R344: an update shows its offset in TIM_OFS and its source as there. -/
def State.showOffset (s : State) (b : Nat) (o : Int) : State := (s.setI (TIM_OFS_OFS b) (nsSat o)).setFlag (TIM_STAT_SRC_OK b) true

/-- It notes its instant and the quality of its source. -/
def State.noteUpdate (s : State) (b : Nat) (o : Int) (q : Nat) : State :=
  (s.showOffset b o).setTb b { (s.showOffset b o).tb b with lastUpd := some s.now, srcTqc := q }

/-- It notes its offset. -/
def State.noteOffset (s : State) (b : Nat) (o : Int) : State := s.setTb b { s.tb b with lastOfs := o }

theorem State.getF_showOffset {g : Field} (hofs : g.Apart (TIM_OFS_OFS b)) (hsrc : g.Apart (TIM_STAT_SRC_OK b)) :
    (s.showOffset b o).getF g = s.getF g :=
  (State.getF_setF_apart (s := s.setI (TIM_OFS_OFS b) (nsSat o)) (fits_TIM_STAT b).2.1 hsrc _).trans
    (State.getF_setF_apart (fits_TIM_OFS b) hofs _)

theorem State.getF_noteUpdate (q : Nat) (g : Field) : (s.noteUpdate b o q).getF g = (s.showOffset b o).getF g :=
  State.getF_of_regs (by simp [State.noteUpdate, State.setTb_frame]) g

/-- Every register of the time base but TIM_OFS and TIM_STAT reads as before. -/
theorem State.getF_noteUpdate_of_offset {g : Field} {x : Nat} (hg : g.addr = x + 0x40 * b) (hofs : x ≠ 0x12001C) (hstat : x ≠ 0x12000C)
    (q : Nat) : (s.noteUpdate b o q).getF g = s.getF g :=
  (State.getF_noteUpdate q g).trans (State.getF_showOffset (Field.apart_of_offset hg rfl hofs) (Field.apart_of_offset hg rfl hstat))

theorem State.tbState_showOffset (s : State) (b : Nat) (o : Int) : (s.showOffset b o).tbState b = s.tbState b :=
  State.getF_showOffset (Field.apart_of_offset (x := 0x12000C) (y := 0x12001C) rfl rfl (by decide)) (.inr (.inl (by decide : 0 + 3 ≤ 3)))

theorem State.autoFirst_noteUpdate (q : Nat) : (s.noteUpdate b o q).flag (TIM_CFG_AUTO_FIRST b) = s.flag (TIM_CFG_AUTO_FIRST b) :=
  State.flag_eq_of_getF (State.getF_noteUpdate_of_offset (x := 0x120000) rfl (by decide) (by decide) q)

theorem State.carryHeld_noteUpdate (hb : b < 4) (q : Nat) : (s.noteUpdate b o q).carryHeld b = s.carryHeld b := by
  have hofs : TIM_SAMP ≠ TIM_OFS b := by unfold TIM_SAMP TIM_OFS; omega
  have hstat : TIM_SAMP ≠ TIM_STAT b := by unfold TIM_SAMP TIM_STAT; omega
  have hcompat : (s.noteUpdate b o q).getF TIM_SAMP_COMPAT = s.getF TIM_SAMP_COMPAT :=
    (State.getF_noteUpdate q _).trans (State.getF_showOffset (.inl hofs) (.inl hstat))
  have hcarry : (s.noteUpdate b o q).tim.carry = s.tim.carry ∧ (s.noteUpdate b o q).tim.carrySlew = s.tim.carrySlew := by
    simp [State.noteUpdate, State.showOffset, State.setFlag_frame, State.setI_frame]
  exact State.carryHeld_congr hcompat hcarry.1 hcarry.2

theorem State.jumps_noteUpdate (q : Nat) (o' : Int) : (s.noteUpdate b o q).jumps b o' = s.jumps b o' := by
  have hthr : (s.noteUpdate b o q).stepThr b = s.stepThr b :=
    congrArg (· * 65536) (State.getF_noteUpdate_of_offset (x := 0x120004) rfl (by decide) (by decide) q)
  have hsrc : (s.noteUpdate b o q).tbSrc b = s.tbSrc b :=
    State.getF_noteUpdate_of_offset (x := 0x120000) rfl (by decide) (by decide) q
  rw [State.jumps, hthr, hsrc, State.jumps]

/-- The count of offsets within the threshold is not touched. -/
theorem State.within_noteUpdate (hlen : b < s.tim.bases.length) (q : Nat) :
    (((s.noteUpdate b o q).noteOffset b o).tb b).within = (s.tb b).within := by
  have hshown : (s.showOffset b o).tim = s.tim := by simp [State.showOffset, State.setFlag_frame, State.setI_frame]
  have hupdate : (s.noteUpdate b o q).tb b = { (s.showOffset b o).tb b with lastUpd := some s.now, srcTqc := q } :=
    State.tb_setTb_same _ _ _ (by rwa [hshown])
  have hoffset : ((s.noteUpdate b o q).noteOffset b o).tb b = { (s.noteUpdate b o q).tb b with lastOfs := o } :=
    State.tb_setTb_same _ _ _ (by simpa [State.noteUpdate, hshown] using hlen)
  rw [hoffset, hupdate, State.tb, hshown]
  rfl

/-- What the servo does with an offset in a state of R336. -/
def State.servoAct (u : State) (b : Nat) (o : Int) (st : Nat) : State :=
  if st = 0 && u.flag (TIM_CFG_AUTO_FIRST b) then (u.noteOffset b o).applyStep b o
  else if u.carryHeld b then (if u.jumps b o then u else (u.noteOffset b o).steer b o)
  else if u.jumps b o then u.refuseJump b o
  else if st = 4 then (u.noteOffset b o).heldOffset b o
  else ((if st = 0 || st = 3 then (u.noteOffset b o).tbEnter b 1 else u.noteOffset b o).steer b o).lockCount b o

theorem State.servoUpdate_eq (q : Nat) :
    s.servoUpdate b o q = (((s.noteUpdate b o q).servoAct b o (s.tbState b)).noteOffset b o).setQual b := by
  have hnow : (s.showOffset b o).now = s.now := by simp [State.showOffset, State.setFlag_frame, State.setI_frame]
  rw [State.noteUpdate, ← State.tbState_showOffset s b o, ← hnow]
  rfl

section Act
variable {u : State} {st : Nat}

theorem State.servoAct_of_first (hstate : st = 0) (hauto : u.flag (TIM_CFG_AUTO_FIRST b) = true) :
    u.servoAct b o st = (u.noteOffset b o).applyStep b o := by
  simp [State.servoAct, hstate, hauto]

section Later
variable (hlater : st ≠ 0 ∨ u.flag (TIM_CFG_AUTO_FIRST b) = false)
include hlater

theorem State.servoAct_of_carryHeld (hheld : u.carryHeld b = true) :
    u.servoAct b o st = if u.jumps b o = true then u else (u.noteOffset b o).steer b o := by
  rcases hlater with h | h <;> simp [State.servoAct, hheld, h]

variable (hfree : u.carryHeld b = false)
include hfree

theorem State.servoAct_of_jump (hjump : u.jumps b o = true) : u.servoAct b o st = u.refuseJump b o := by
  rcases hlater with h | h <;> simp [State.servoAct, hfree, hjump, h]

theorem State.servoAct_of_entering (hin : u.jumps b o = false) (hstate : st = 0 ∨ st = 3) :
    u.servoAct b o st = (((u.noteOffset b o).tbEnter b 1).steer b o).lockCount b o := by
  rcases hstate with rfl | rfl
  · have hauto : u.flag (TIM_CFG_AUTO_FIRST b) = false := hlater.resolve_left (by decide)
    simp [State.servoAct, hfree, hin, hauto]
  · simp [State.servoAct, hfree, hin]

end Later

theorem State.servoAct_of_held (hfree : u.carryHeld b = false) (hin : u.jumps b o = false) :
    u.servoAct b o 4 = (u.noteOffset b o).heldOffset b o := by
  simp [State.servoAct, hfree, hin]

theorem State.servoAct_of_following (hfree : u.carryHeld b = false) (hin : u.jumps b o = false) (hstate : st = 1 ∨ st = 2) :
    u.servoAct b o st = ((u.noteOffset b o).steer b o).lockCount b o := by
  rcases hstate with rfl | rfl <;> simp [State.servoAct, hfree, hin]

end Act

end Servo

/-- Settles O27: the branches of an update, the counts of offsets and the refusal are the lemmas above. -/
theorem servoUpdates : Obligations.ServoUpdates := by
  unfold Obligations.ServoUpdates
  intro s b q o hb hlen r u v w fin
  have hbases : b < s.tim.bases.length := hlen ▸ hb
  have hnoted : b < v.tim.bases.length := by simpa [v, u, r, State.setFlag_frame, State.setI_frame] using hbases
  have hwithin : (v.tb b).within = (s.tb b).within := State.within_noteUpdate hbases q
  have hact : ∀ {x}, u.servoAct b o (s.tbState b) = x → s.servoUpdate b o q = fin x := by
    rintro _ rfl
    exact State.servoUpdate_eq q
  have hauto : u.flag (TIM_CFG_AUTO_FIRST b) = s.flag (TIM_CFG_AUTO_FIRST b) := State.autoFirst_noteUpdate q
  have hcarry : u.carryHeld b = s.carryHeld b := State.carryHeld_noteUpdate hb q
  have hjumps : u.jumps b o = s.jumps b o := State.jumps_noteUpdate q o
  refine ⟨?first, ?later, State.jumps_iff s b o, ?refused, State.refuseJump_of_held, State.tb_countLock hbases,
    State.lockCount_locks hb hbases, State.lockCount_unlocks hb hbases, fun hstate hin => State.lockCount_stays hbases hstate hin⟩
  case first => exact fun hstate hset => hact (State.servoAct_of_first hstate (hauto.trans hset))
  case later =>
    rw [← hauto, ← hcarry, ← hjumps]
    refine fun hlater => ⟨?carry, ?jump, ?few, ?sixteenth, ?following, ?entering⟩
    case carry => exact fun hheld => hact (State.servoAct_of_carryHeld hlater hheld)
    case jump => exact fun hfree hjump => hact (State.servoAct_of_jump hlater hfree hjump)
    case few =>
      intro hfree hin hstate hfew
      rw [← hwithin] at hfew ⊢
      refine hact ?_
      rw [hstate, State.servoAct_of_held hfree hin]
      exact State.heldOffset_of_few hnoted hfew
    case sixteenth =>
      intro hfree hin hstate hmany
      rw [← hwithin] at hmany
      refine hact ?_
      rw [hstate, State.servoAct_of_held hfree hin]
      exact State.heldOffset_of_sixteenth hnoted hmany
    case following => exact fun hfree hin hstate => hact (State.servoAct_of_following hfree hin hstate)
    case entering => exact fun hfree hin hstate => hact (State.servoAct_of_entering hlater hfree hin hstate)
  case refused =>
    intro hstate
    obtain ⟨hheld, hflag⟩ := State.refuseJump_holds (o := o) hb hstate
    exact ⟨hheld, hflag, State.refuseJump_of_free hstate⟩

end Sys2Proof.Machine

/-!
Lost sources, pending steps and the switch of compatibility mode (R340, R342, R348): what each command's effect does, by the conditions
of its row.
-/
namespace Sys2Proof.Machine

/-! ### A lost source (R340) -/

/-- R340: a loss is shown and counted. -/
def State.lossCounted (s : State) (b : Nat) : State :=
  ((s.setFlag (TIM_STAT_SRC_OK b) false).setFlag (TIM_STAT_LOST_SEEN b) true).incSat (TIM_CNT_LOSS b)

/-- R338, R340: the time base keeps its offset and runs on at the averaged adjustment. -/
def State.holdAverage (s : State) (b : Nat) : State := (s.keepE0 b).setAdj b (s.avgAdj b)

section Loss
variable {s : State} {b : Nat} {g : Field}

theorem State.getF_lossCounted (hsrc : g.Apart (TIM_STAT_SRC_OK b)) (hseen : g.Apart (TIM_STAT_LOST_SEEN b))
    (hloss : g.Apart (TIM_CNT_LOSS b)) : (s.lossCounted b).getF g = s.getF g :=
  (State.getF_incSat_apart (fits_TIM_CNT b).2.2 hloss).trans
    ((State.getF_setF_apart (fits_TIM_STAT b).2.2.2.2 hseen _).trans (State.getF_setF_apart (fits_TIM_STAT b).2.1 hsrc _))

/-- Every register of the time base but TIM_STAT and TIM_CNT reads as before. -/
theorem State.getF_lossCounted_of_offset {x : Nat} (hg : g.addr = x + 0x40 * b) (hstat : x ≠ 0x12000C) (hcnt : x ≠ 0x120034) :
    (s.lossCounted b).getF g = s.getF g :=
  State.getF_lossCounted (Field.apart_of_offset hg rfl hstat) (Field.apart_of_offset hg rfl hstat) (Field.apart_of_offset hg rfl hcnt)

theorem State.tbState_lossCounted (s : State) (b : Nat) : (s.lossCounted b).tbState b = s.tbState b :=
  State.getF_lossCounted (.inr (.inl (by decide : 0 + 3 ≤ 3))) (.inr (.inl (by decide : 0 + 3 ≤ 17)))
    (Field.apart_of_offset (x := 0x12000C) (y := 0x120034) rfl rfl (by decide))

theorem State.compat_lossCounted (s : State) {b : Nat} (hb : b < 4) : (s.lossCounted b).getF TIM_SAMP_COMPAT = s.getF TIM_SAMP_COMPAT := by
  have hstat : TIM_SAMP ≠ TIM_STAT b := by unfold TIM_SAMP TIM_STAT; omega
  have hcnt : TIM_SAMP ≠ TIM_CNT b := by unfold TIM_SAMP TIM_CNT; omega
  exact State.getF_lossCounted (.inl hstat) (.inl hstat) (.inl hcnt)

/-- What a loss shows: the source gone, LOST_SEEN, one more in the counter. -/
theorem State.shown_lossCounted (s : State) (b : Nat) :
    (s.lossCounted b).flag (TIM_STAT_SRC_OK b) = false ∧ (s.lossCounted b).flag (TIM_STAT_LOST_SEEN b) = true ∧
    (s.lossCounted b).getF (TIM_CNT_LOSS b) = satInc (2 ^ (TIM_CNT_LOSS b).width - 1) (s.getF (TIM_CNT_LOSS b)) := by
  obtain ⟨-, hfsrc, -, -, hfseen⟩ := fits_TIM_STAT b
  obtain ⟨-, -, hfloss⟩ := fits_TIM_CNT b
  have hcnt {f : Field} (hf : f.addr = TIM_STAT b) : f.Apart (TIM_CNT_LOSS b) :=
    Field.apart_of_offset (x := 0x12000C) (y := 0x120034) hf rfl (by decide)
  refine ⟨?_, ?_, ?_⟩
  · exact (State.flag_eq_of_getF (State.getF_incSat_apart hfloss (hcnt rfl))).trans
      ((State.flag_setFlag_apart hfseen (.inr (.inl (by decide : 3 + 1 ≤ 17))) true).trans (State.flag_setFlag_same _ _ _ hfsrc rfl))
  · exact (State.flag_eq_of_getF (State.getF_incSat_apart hfloss (hcnt rfl))).trans (State.flag_setFlag_same _ _ _ hfseen rfl)
  · refine (State.getF_incSat_same hfloss _).trans (congrArg _ ?_)
    exact (State.getF_setF_apart hfseen (hcnt rfl).symm _).trans (State.getF_setF_apart hfsrc (hcnt rfl).symm _)

theorem State.getF_holdAverage (h : g.Apart (TIM_FADJ_FADJ b)) : (s.holdAverage b).getF g = s.getF g :=
  (State.getF_setAdj h _).trans State.getF_keepE0

theorem State.tbState_holdAverage (s : State) (b : Nat) : (s.holdAverage b).tbState b = s.tbState b :=
  State.getF_holdAverage (Field.apart_of_offset (x := 0x12000C) (y := 0x120020) rfl rfl (by decide))

theorem State.compat_holdAverage (s : State) {b : Nat} (hb : b < 4) : (s.holdAverage b).getF TIM_SAMP_COMPAT = s.getF TIM_SAMP_COMPAT := by
  have hfadj : TIM_SAMP ≠ TIM_FADJ b := by unfold TIM_SAMP TIM_FADJ; omega
  exact State.getF_holdAverage (.inl hfadj)

theorem State.carry_keepE0 (s : State) (b : Nat) :
    (s.keepE0 b).tim.carry = s.tim.carry ∧ (s.keepE0 b).tim.carrySlew = s.tim.carrySlew := by
  unfold State.keepE0
  dsimp only
  split <;> exact ⟨rfl, rfl⟩

theorem State.carry_setAdj (s : State) (b : Nat) (adj : Int) :
    (s.setAdj b adj).tim.carry = s.tim.carry ∧ (s.setAdj b adj).tim.carrySlew = s.tim.carrySlew := by
  simp [State.setAdj, State.rebase, State.setI_frame]

theorem State.carryHeld_held (s : State) {b : Nat} (hb : b < 4) : ((s.lossCounted b).holdAverage b).carryHeld b = s.carryHeld b := by
  have hcounted : (s.lossCounted b).tim = s.tim := by simp [State.lossCounted, State.incSat_frame, State.setFlag_frame]
  obtain ⟨hcarry, hslew⟩ := State.carry_setAdj ((s.lossCounted b).keepE0 b) b ((s.lossCounted b).avgAdj b)
  obtain ⟨hcarry', hslew'⟩ := State.carry_keepE0 (s.lossCounted b) b
  exact State.carryHeld_congr ((State.compat_holdAverage _ hb).trans (State.compat_lossCounted s hb))
    (hcarry.trans (hcarry'.trans (congrArg TimSt.carry hcounted))) (hslew.trans (hslew'.trans (congrArg TimSt.carrySlew hcounted)))

/-- R340: a source that is not there is not lost again. -/
theorem State.srcLost_of_gone (h : s.flag (TIM_STAT_SRC_OK b) = false) : s.srcLost b = s := by
  simp [State.srcLost, h]

/-- R348: where it carried the sampling time of compatibility mode and the other time base is locked, the switch becomes due. -/
def State.switchAsked (s : State) (b : Nat) : State :=
  if s.flag TIM_SAMP_COMPAT && b = s.sampTb && s.tbState (1 - b) = 2 then
    { s with tim := { s.tim with switchDue := some s.ana.strobe } }
  else s

theorem State.srcLost_of_unset (hok : s.flag (TIM_STAT_SRC_OK b) = true) (h : s.tbState b = 0) : s.srcLost b = s.lossCounted b := by
  have hstate := (State.tbState_lossCounted s b).trans h
  exact (if_pos hok).trans (if_pos hstate)

theorem State.srcLost_of_set (hb : b < 4) (hok : s.flag (TIM_STAT_SRC_OK b) = true) (h : s.tbState b ≠ 0) :
    s.srcLost b = (if s.carryHeld b = true then (s.lossCounted b).holdAverage b
      else ((s.lossCounted b).holdAverage b).tbEnter b 3).switchAsked b := by
  have hstate : (s.lossCounted b).tbState b ≠ 0 := (State.tbState_lossCounted s b).trans_ne h
  rw [← State.carryHeld_held s hb]
  exact (if_pos hok).trans (if_neg hstate)

theorem State.getF_switchAsked (s : State) (b : Nat) (g : Field) : (s.switchAsked b).getF g = s.getF g := by
  unfold State.switchAsked
  split <;> rfl

/-- Outside what entering HOLDOVER and holding the frequency write, a loss leaves what it counts. -/
theorem State.getF_srcLost (hb : b < 4) (hok : s.flag (TIM_STAT_SRC_OK b) = true) (hg : BesideState b g)
    (hfadj : g.Apart (TIM_FADJ_FADJ b)) : (s.srcLost b).getF g = (s.lossCounted b).getF g := by
  by_cases h : s.tbState b = 0
  · rw [State.srcLost_of_unset hok h]
  · rw [State.srcLost_of_set hb hok h, State.getF_switchAsked]
    split
    · exact State.getF_holdAverage hfadj
    · exact (State.getF_tbEnter hg 3).trans (State.getF_holdAverage hfadj)

/-- R340, log entry 105: a time base that is set enters HOLDOVER, but one held by CARRY stays as it is reported. -/
theorem State.tbState_srcLost (hb : b < 4) (hok : s.flag (TIM_STAT_SRC_OK b) = true) :
    (s.srcLost b).tbState b = if s.tbState b = 0 then 0 else if s.carryHeld b = true then s.tbState b else 3 := by
  by_cases h : s.tbState b = 0
  · rw [if_pos h, State.srcLost_of_unset hok h, State.tbState_lossCounted, h]
  · rw [if_neg h, State.srcLost_of_set hb hok h]
    refine (State.getF_switchAsked _ b _).trans ?_
    split
    · exact (State.tbState_holdAverage _ b).trans (State.tbState_lossCounted s b)
    · exact State.tbState_tbEnter hb (by decide)

/-- R340: outside compatibility mode a loss is all that follows. -/
theorem State.srcLost_of_free (hb : b < 4) (hok : s.flag (TIM_STAT_SRC_OK b) = true) (h : s.tbState b ≠ 0) (hfree : s.carryHeld b = false)
    (hcompat : s.flag TIM_SAMP_COMPAT = false) : s.srcLost b = ((s.lossCounted b).holdAverage b).tbEnter b 3 := by
  have hkept : (((s.lossCounted b).holdAverage b).tbEnter b 3).flag TIM_SAMP_COMPAT = false :=
    (State.flag_eq_of_getF ((State.getF_tbEnter (besideState_TIM_SAMP hb) 3).trans
      ((State.compat_holdAverage _ hb).trans (State.compat_lossCounted s hb)))).trans hcompat
  rw [State.srcLost_of_set hb hok h, if_neg (by simp [hfree]), State.switchAsked, if_neg (by simp [hkept])]

/-- What the servo follows is not touched by a loss. -/
theorem State.tbSrc_srcLost (s : State) (hb : b < 4) : (s.srcLost b).tbSrc b = s.tbSrc b := by
  cases hok : s.flag (TIM_STAT_SRC_OK b)
  · rw [State.srcLost_of_gone hok]
  · exact (State.getF_srcLost hb hok (besideState_of_offset (x := 0x120000) rfl hb (by decide) (by decide))
      (Field.apart_of_offset (x := 0x120000) (y := 0x120020) rfl rfl (by decide))).trans
      (State.getF_lossCounted_of_offset (x := 0x120000) rfl (by decide) (by decide))

/-- What a loss leaves in the registers of its time base. -/
theorem State.shown_srcLost (hb : b < 4) (hok : s.flag (TIM_STAT_SRC_OK b) = true) :
    (s.srcLost b).flag (TIM_STAT_SRC_OK b) = false ∧ (s.srcLost b).flag (TIM_STAT_LOST_SEEN b) = true ∧
    (s.srcLost b).getF (TIM_CNT_LOSS b) = satInc (2 ^ (TIM_CNT_LOSS b).width - 1) (s.getF (TIM_CNT_LOSS b)) := by
  obtain ⟨hbsrc, -, hbseen⟩ := besideState_flags hb
  obtain ⟨hsrc, hseen, hloss⟩ := State.shown_lossCounted s b
  have hstat {f : Field} (hf : f.addr = TIM_STAT b) : f.Apart (TIM_FADJ_FADJ b) :=
    Field.apart_of_offset (x := 0x12000C) (y := 0x120020) hf rfl (by decide)
  exact ⟨(State.flag_eq_of_getF (State.getF_srcLost hb hok hbsrc (hstat rfl))).trans hsrc,
    (State.flag_eq_of_getF (State.getF_srcLost hb hok hbseen (hstat rfl))).trans hseen,
    (State.getF_srcLost hb hok (besideState_of_offset (x := 0x120034) rfl hb (by decide) (by decide))
      (Field.apart_of_offset (x := 0x120034) (y := 0x120020) rfl rfl (by decide))).trans hloss⟩

/-- R336: entering HOLDOVER raises event 89. -/
theorem State.tbEnter_holdover (h : s.tbState b ≠ 3) :
    s.tbEnter b 3 = (let m := s.setF (TIM_STAT_STATE b) 3
      ((m.setTb b { m.tb b with inLock := 0, outLock := 0, within := 0 }).setQual b).raise 89 b 0) := by
  have htb : (s.setF (TIM_STAT_STATE b) 3).tb b = s.tb b := by simp [State.tb, State.setF_frame]
  simp [State.tbEnter, h, htb]

end Loss

/-! ### Steps (R342 to R344) -/

section Steps
variable {s : State} {b : Nat} {d : Int} {g : Field}

/-- A step taken and counted, with nothing pending. -/
def State.stepCounted (s : State) (b : Nat) (d : Int) : State :=
  (((s.rebase b d).markStep b d).setPend b 0).incSat (TIM_CNT_STEPS b)

theorem State.getF_stepCounted (hpend : g.Apart (TIM_PEND_LO_PLO b) ∧ g.Apart (TIM_PEND_HI_PHI b)) (hcnt : g.Apart (TIM_CNT_STEPS b)) :
    (s.stepCounted b d).getF g = s.getF g :=
  calc (s.stepCounted b d).getF g
    _ = (((s.rebase b d).markStep b d).setPend b 0).getF g := State.getF_incSat_apart (fits_TIM_CNT b).1 hcnt
    _ = ((s.rebase b d).markStep b d).getF g := State.getF_setPend hpend 0
    _ = (s.rebase b d).getF g := State.getF_markStep d
    _ = s.getF g := State.getF_of_regs (by simp [State.rebase_frame]) g

theorem State.tbSrc_stepCounted (s : State) (b : Nat) (d : Int) : (s.stepCounted b d).tbSrc b = s.tbSrc b :=
  State.getF_stepCounted ⟨Field.apart_of_offset (x := 0x120000) (y := 0x120024) rfl rfl (by decide),
    Field.apart_of_offset (x := 0x120000) (y := 0x120028) rfl rfl (by decide)⟩
    (Field.apart_of_offset (x := 0x120000) (y := 0x120034) rfl rfl (by decide))

/-- R342, R343: what a step does. -/
theorem State.applyStep_eq (s : State) (b : Nat) (d : Int) :
    s.applyStep b d =
      (let m := s.stepCounted b d
       ((m.setTb b { m.tb b with stepAt := none, setTime := none }).tbEnter b (if s.tbSrc b = 0 then 5 else 1)).raise 91 b
         (tcBits 32 (nsSat d))) := by
  have htb : (s.stepCounted b d).tb b = (((s.rebase b d).markStep b d).setPend b 0).tb b := by
    simp [State.tb, State.stepCounted, State.incSat_frame]
  have hsrc (x : TbInt) : ((s.stepCounted b d).setTb b x).tbSrc b = s.tbSrc b :=
    (State.getF_setTb x).trans (State.tbSrc_stepCounted s b d)
  have hstep : s.applyStep b d =
      (let m := s.stepCounted b d
       let e := m.setTb b { (((s.rebase b d).markStep b d).setPend b 0).tb b with stepAt := none, setTime := none }
       (e.tbEnter b (if e.tbSrc b = 0 then 5 else 1)).raise 91 b (tcBits 32 (nsSat d))) := rfl
  rw [hstep]
  dsimp only
  rw [hsrc, htb]

/-- R342, R344: a free-running time base stays FREE, another one acquires. -/
theorem State.tbState_applyStep (hb : b < 4) : (s.applyStep b d).tbState b = if s.tbSrc b = 0 then 5 else 1 := by
  have hst : (if s.tbSrc b = 0 then 5 else 1) < 8 := by split <;> decide
  have hlow : (TIM_STAT_STATE b).addr < 0x1A0000 := addr_lt_of_offset (x := 0x12000C) rfl hb (by decide)
  rw [State.applyStep_eq]
  exact (State.getF_raise _ _ _ _ _ hlow).trans (State.tbState_tbEnter hb hst)

/-- Nothing is pending after a step. -/
theorem State.pend_setPend_zero (s : State) (b : Nat) : (s.setPend b 0).pend b = 0 := by
  obtain ⟨hlo, hhi⟩ := fits_TIM_PEND b
  have hzero : tcBits 64 0 = 0 := by decide
  have hhigh : (s.setPend b 0).getF (TIM_PEND_HI_PHI b) = 0 := by
    rw [State.setPend, State.getF_setF_same _ _ _ hhi, hzero, Nat.zero_div, Nat.zero_mod]
  have hlow : (s.setPend b 0).getF (TIM_PEND_LO_PLO b) = 0 := by
    rw [State.setPend, State.getF_setF_apart hhi (Field.apart_of_offset (x := 0x120024) (y := 0x120028) rfl rfl (by decide)),
      State.getF_setF_same _ _ _ hlo, hzero, Nat.zero_mod]
  rw [State.pend, hlow, hhigh]
  decide

theorem State.pend_congr {s' : State} (hlo : s'.getF (TIM_PEND_LO_PLO b) = s.getF (TIM_PEND_LO_PLO b))
    (hhi : s'.getF (TIM_PEND_HI_PHI b) = s.getF (TIM_PEND_HI_PHI b)) : s'.pend b = s.pend b := by
  rw [State.pend, hlo, hhi, State.pend]

theorem State.pend_applyStep (hb : b < 4) : (s.applyStep b d).pend b = 0 := by
  have hkept : ∀ {g : Field} {x : Nat}, g.addr = x + 0x40 * b → x < 0x120034 → x ≠ 0x12000C →
      (s.applyStep b d).getF g = (((s.rebase b d).markStep b d).setPend b 0).getF g := by
    intro g x hg hx hne
    have hbeside : BesideState b g := besideState_of_offset hg hb (by omega) hne
    rw [State.applyStep_eq]
    exact (State.getF_raise _ _ _ _ _ hbeside.low).trans ((State.getF_tbEnter hbeside _).trans
      ((State.getF_setTb _).trans (State.getF_incSat_apart (fits_TIM_CNT b).1 (Field.apart_of_offset (y := 0x120034) hg rfl (by omega)))))
  exact (State.pend_congr (hkept (x := 0x120024) rfl (by decide) (by decide)) (hkept (x := 0x120028) rfl (by decide) (by decide))).trans
    (State.pend_setPend_zero _ b)

/-- R342: a pending step is applied at a strobe divisible by 32. -/
structure StepStrobe (b : Nat) (s : State) : Prop where
  inRow : b < 4
  on : s.timeOn = true
  strobe : s.ana.strobe % 32 = 0

theorem StepStrobe.stepApplyEff_of_set (h : StepStrobe b s) (hset : (s.tb b).setTime = some d) : stepApplyEff b s = s.applyStep b d := by
  simp [stepApplyEff, h.inRow, h.on, h.strobe, hset]

theorem StepStrobe.stepApplyEff_of_accepted (h : StepStrobe b s) (hset : (s.tb b).setTime = none) (hat : (s.tb b).stepAt.isSome = true) :
    stepApplyEff b s = s.takeStep b := by
  obtain ⟨n, hn⟩ := Option.isSome_iff_exists.1 hat
  simp [stepApplyEff, h.inRow, h.on, h.strobe, hset, hn]

end Steps

/-! ### Receipt timers, IRIG-B and PPS (R340) -/

section Timeouts
variable {s : State} {b : Nat}

/-- R340: no Sync of the selected grandmaster on a port for three intervals, from its selection on. -/
def State.syncLate (s : State) (b p : Nat) : Bool :=
  decide ((syncSeen (s.tb b) p).getD (s.tb b).gmAt + 3 * intervalU (s.tb b).syncIv ≤ s.now)

/-- R350, R354: the port whose Sync messages a time base follows. -/
def State.syncPort (s : State) (b : Nat) : Nat :=
  if s.getF NET_MODE_MODE = 0 then s.getF (TIM_CFG_PORTSEL b) else (s.tb b).gmPort

/-- The time base has a selected grandmaster to lose. -/
structure FollowsGm (b : Nat) (s : State) : Prop where
  inRow : b < 4
  on : s.timeOn = true
  src : s.tbSrc b = 1
  gm : (s.tb b).gm.isSome = true

theorem FollowsGm.syncLossEff_eq (h : FollowsGm b s) :
    syncLossEff b s =
      if s.syncLate b (s.syncPort b) then
        if s.getF NET_MODE_MODE != 0 && decide (s.syncPort b < 2) && !s.syncLate b (1 - s.syncPort b) then
          s.setTb b { s.tb b with gmPort := 1 - s.syncPort b, fuWait := none }
        else s.srcLost b
      else s := by
  obtain ⟨hb, hon, hsrc, hgm⟩ := h
  cases hport : syncSeen (s.tb b) (s.syncPort b) <;> cases hother : syncSeen (s.tb b) (1 - s.syncPort b) <;>
    rw [State.syncLate, State.syncLate, hport, hother] <;> unfold State.syncPort at hport hother ⊢ <;>
    simp only [syncLossEff, hport, hother, hb, hon, hsrc, hgm, decide_true, Bool.true_and, Bool.and_true, Option.getD_some,
      Option.getD_none]

theorem FollowsGm.syncLossEff_of_early (h : FollowsGm b s) (hearly : s.syncLate b (s.syncPort b) = false) : syncLossEff b s = s := by
  simp [h.syncLossEff_eq, hearly]

theorem FollowsGm.syncLossEff_of_late (h : FollowsGm b s) (hlate : s.syncLate b (s.syncPort b) = true)
    (hother : s.getF NET_MODE_MODE = 0 ∨ 2 ≤ s.syncPort b ∨ s.syncLate b (1 - s.syncPort b) = true) :
    syncLossEff b s = s.srcLost b := by
  rcases hother with hindep | hport | hother
  · simp [h.syncLossEff_eq, hlate, hindep]
  · simp [h.syncLossEff_eq, hlate, Nat.not_lt.2 hport]
  · simp [h.syncLossEff_eq, hlate, hother]

/-- R354: in a redundant network the Sync messages of the other port take over. -/
theorem FollowsGm.syncLossEff_of_other (h : FollowsGm b s) (hlate : s.syncLate b (s.syncPort b) = true)
    (hmode : s.getF NET_MODE_MODE ≠ 0) (hport : s.syncPort b < 2) (hother : s.syncLate b (1 - s.syncPort b) = false) :
    syncLossEff b s = s.setTb b { s.tb b with gmPort := 1 - s.syncPort b, fuWait := none } := by
  simp [h.syncLossEff_eq, hlate, hmode, hport, hother]

/-- R340: another qualified grandmaster is selected, or the source is lost. -/
theorem announceReceiptTimeoutEff_of_heard {f : ForeignMaster} (hb : b < 4) (hon : s.timeOn = true) (hsrc : s.tbSrc b = 1)
    (hfind : (s.tb b).foreign.find? (fun f => some f.msg.gm = (s.tb b).gm) = some f) :
    announceReceiptTimeoutEff b s =
      (let r := s.setTb b { s.tb b with foreign := (s.tb b).foreign.filter (fun g => !(some g.msg.gm == (s.tb b).gm)) }
       if s.now < f.last + 3 * intervalU f.msg.interval then s
       else if ((r.tb b).foreign.filter r.qualified).isEmpty then r.srcLost b else r.runBmca b) := by
  unfold announceReceiptTimeoutEff
  dsimp only
  rw [hfind]
  simp only [hb, hon, hsrc, decide_true, Bool.true_and, decide_eq_true_eq, ← Nat.not_lt, ite_not]

theorem irigbLossEff_of_on (hon : s.timeOn = true) :
    irigbLossEff s = (upto 4).foldl (fun s b =>
      if (s.tbSrc b = 2 ∨ s.tbSrc b = 3) ∧
          (3 ≤ (s.tb b).badFrames ∨ (s.tb b).irigAt.any (fun w => decide (w + 3 * secU ≤ s.now)) = true)
      then (if s.tbSrc b = 3 then (s.srcLost b).setTb b { (s.srcLost b).tb b with srcSec := none } else s.srcLost b) else s) s := by
  unfold irigbLossEff
  rw [if_pos hon]
  refine List.foldl_ext _ _ _ fun s b hb => ?_
  have hsrc := State.tbSrc_srcLost s (List.mem_range.1 hb)
  dsimp only
  cases (s.tb b).irigAt with
  | none => simp [hsrc]
  | some w =>
    rw [Option.any_some]
    simp only [hsrc, Bool.and_eq_true, Bool.or_eq_true, decide_eq_true_eq]

theorem ppsLossEff_of_on (hon : s.timeOn = true) :
    ppsLossEff s = (upto 4).foldl (fun s b =>
      if (s.tbSrc b = 3 ∨ s.tbSrc b = 4) ∧ (s.tb b).edgeAt.any (fun e => decide (e + 2 * secU + msU ≤ s.now)) = true then s.srcLost b
      else s) s := by
  unfold ppsLossEff
  rw [if_pos hon]
  refine List.foldl_ext _ _ _ fun s b _ => ?_
  cases (s.tb b).edgeAt with
  | none => simp
  | some e =>
    rw [Option.any_some]
    simp only [Bool.and_eq_true, Bool.or_eq_true, decide_eq_true_eq]

end Timeouts

/-! ### The switch of compatibility mode (R348) -/

section Switch
variable {s : State}

/-- R348: CARRY as the switch leaves it: the sampling time stays where it was. -/
def State.carryOver (s : State) : Int := s.carryAt s.now + (s.tbAt s.sampTb s.now - s.tbAt (1 - s.sampTb) s.now)

/-- R348: the sampling time has gone over to the other time base. -/
def State.switched (s : State) : State :=
  let d : State := { s with tim := { s.tim with switchDue := none } }
  (((d.setF TIM_SAMP_ACT (1 - s.sampTb)).setCarry s.carryOver).putUtc).raise 93 0 (1 - s.sampTb)

theorem fits_TIM_SAMP_ACT : TIM_SAMP_ACT.Fits := (by decide : 3 + 1 ≤ 32)

theorem State.rd_putUtc (s : State) {a : Nat} (h : a ≠ TIM_UTC) : s.putUtc.rd a = s.rd a := by
  have hset (f : Field) (hf : f.addr = TIM_UTC) (s : State) (v : Nat) : (s.setF f v).rd a = s.rd a :=
    State.rd_setF_other s f v a (hf ▸ h)
  unfold State.putUtc
  dsimp only
  split <;> simp only [State.setFlag, State.setI, hset TIM_UTC_UTCOFS rfl, hset TIM_UTC_SRCVAL rfl, hset TIM_UTC_LEAP_PEND rfl,
    hset TIM_UTC_LEAP_DIR rfl]

/-- The switch writes ACT, TIM_UTC and its event. -/
theorem State.getF_switched {g : Field} (hlow : g.addr < 0x1A0000) (hutc : g.addr ≠ TIM_UTC) :
    s.switched.getF g = (s.setF TIM_SAMP_ACT (1 - s.sampTb)).getF g := by
  have hset : (({ s with tim := { s.tim with switchDue := none } } : State).setF TIM_SAMP_ACT (1 - s.sampTb)).getF g =
      (s.setF TIM_SAMP_ACT (1 - s.sampTb)).getF g := State.getF_of_regs rfl g
  refine (State.getF_raise _ _ _ _ _ hlow).trans ((State.getF_of_rd (State.rd_putUtc _ hutc)).trans (Eq.trans ?_ hset))
  exact State.getF_of_regs (by simp [State.setCarry_frame]) g

theorem State.act_switched : s.switched.getF TIM_SAMP_ACT = (1 - s.sampTb) % 2 ^ TIM_SAMP_ACT.width :=
  (State.getF_switched (by decide) (by decide)).trans (State.getF_setF_same _ _ _ fits_TIM_SAMP_ACT)

theorem State.stepThr_switched : s.switched.stepThr 0 = s.stepThr 0 :=
  congrArg (· * 65536) ((State.getF_switched (by decide) (by decide)).trans
    (State.getF_setF_apart fits_TIM_SAMP_ACT (.inl (by decide)) _))

theorem State.switched_frame : s.switched.tim.switchDue = none ∧ s.switched.tim.carry = s.carryOver ∧ s.switched.ana = s.ana ∧
    s.switched.trp = s.trp := by
  simp [State.switched, State.raise_frame, State.putUtc_frame, State.setCarry, State.setF_frame]

/-- R348: a switch is due and compatibility mode holds. -/
structure SwitchDue (s : State) : Prop where
  on : s.timeOn = true
  due : ∃ n, s.tim.switchDue = some n ∧ n < s.ana.strobe
  compat : s.flag TIM_SAMP_COMPAT = true

theorem SwitchDue.compatSwitchEff_eq (h : SwitchDue s) :
    compatSwitchEff s =
      (let w := s.switched
       let c := s.carryOver
       if w.stepThr 0 < absN c then
         (((((w.keepE0 0).setPend 0 (divHalfEven (-c) 65536)).setFlag (TIM_STAT_REFUSED 0) true).incSat
           (TIM_CNT_REFUSE 0)).tbEnter 0 4).raise 90 0 (tcBits 32 (nsSat (-c)))
       else w) := by
  obtain ⟨hon, ⟨n, hdue, hn⟩, hcompat⟩ := h
  have hnow : s.switchNow = true := by simp [State.switchNow, hdue, hn]
  exact if_pos (by simp [hon, hnow, hcompat])

end Switch

theorem tqcDegradeEff_of_holding {s : State} {b : Nat} (hb : b < 4) (hon : s.timeOn = true) (h : s.tbState b = 3 ∨ s.tbState b = 4) :
    tqcDegradeEff b s = s.setQual b := by
  simp [tqcDegradeEff, hb, hon, h]

/-! ### The commands -/

theorem exec_syncLoss_eq (t b : Nat) (s : State) : exec (.syncLoss t b) s = .next (if b < 4 then syncLossEff b (s.at t) else s.at t) := by
  simp [exec_syncLoss]

theorem exec_announceReceiptTimeout_eq (t b : Nat) (s : State) :
    exec (.announceReceiptTimeout t b) s = .next (if b < 4 then announceReceiptTimeoutEff b (s.at t) else s.at t) := by
  simp [exec_announceReceiptTimeout]

theorem exec_stepApply_eq (t b : Nat) (s : State) :
    exec (.stepApply t b) s = .next (if b < 4 then stepApplyEff b (s.at t) else s.at t) := by
  simp [exec_stepApply]

theorem exec_tqcDegrade_eq (t b : Nat) (s : State) :
    exec (.tqcDegrade t b) s = .next (if b < 4 then tqcDegradeEff b (s.at t) else s.at t) := by
  simp [exec_tqcDegrade]

/-- A command whose effect is known. -/
theorem exec_of_eq {i : Instr} {s eff s' : State} (hexec : exec i s = .next eff) (heff : eff = s') : exec i s = .next s' := by
  rw [hexec, heff]

/-- Settles O28: each clause is the lemma above that states its effect, behind the equation of its command. -/
theorem lossesAndSteps : Obligations.LossesAndSteps := by
  unfold Obligations.LossesAndSteps
  refine ⟨?lost, fun s b => State.srcLost_of_gone, ?sync, ?announce, ?frames, ?step, ?applied, ?switch, ?degrade, exec_syncLoss_eq,
    exec_announceReceiptTimeout_eq, exec_irigbLoss, exec_ppsLoss, exec_stepApply_eq, exec_compatSwitch, exec_tqcDegrade_eq⟩
  case lost =>
    intro s b hb hok r
    obtain ⟨hsrc, hseen, hloss⟩ := State.shown_srcLost hb hok
    exact ⟨hsrc, hseen, hloss, State.tbState_srcLost hb hok, State.srcLost_of_free hb hok, State.tbEnter_holdover⟩
  case sync =>
    intro t b s a x port late hb hon hsrc hgm
    have hfollows : FollowsGm b a := ⟨hb, hon, hsrc, hgm⟩
    have hlate (p : Nat) : a.syncLate b p = true ↔ late p := decide_eq_true_iff
    simp only [← hlate, Bool.not_eq_true]
    exact ⟨fun hp => exec_of_guard (exec_syncLoss_eq t b s) hb (hfollows.syncLossEff_of_early hp),
      fun hp hother => exec_of_guard (exec_syncLoss_eq t b s) hb (hfollows.syncLossEff_of_late hp hother),
      fun hp hmode hport hother => exec_of_guard (exec_syncLoss_eq t b s) hb (hfollows.syncLossEff_of_other hp hmode hport hother)⟩
  case announce =>
    intro t b f s a x r hb hon hsrc hfind
    exact exec_of_guard (exec_announceReceiptTimeout_eq t b s) hb (announceReceiptTimeoutEff_of_heard hb hon hsrc hfind)
  case frames =>
    exact fun t s hon => ⟨exec_of_eq (exec_irigbLoss t s) (irigbLossEff_of_on hon),
      exec_of_eq (exec_ppsLoss t s) (ppsLossEff_of_on hon)⟩
  case step =>
    intro t b s a hb hon hstrobe
    have hdue : StepStrobe b a := ⟨hb, hon, hstrobe⟩
    exact ⟨fun d hset => exec_of_guard (exec_stepApply_eq t b s) hb (hdue.stepApplyEff_of_set hset),
      fun hset hat => exec_of_guard (exec_stepApply_eq t b s) hb (hdue.stepApplyEff_of_accepted hset hat)⟩
  case applied => exact fun s b d hb => ⟨State.tbState_applyStep hb, State.pend_applyStep hb, State.applyStep_eq s b d⟩
  case switch =>
    intro t s a hon hdue hcompat c d w
    have heff := exec_of_eq (exec_compatSwitch t s) (SwitchDue.compatSwitchEff_eq ⟨hon, hdue, hcompat⟩)
    refine ⟨fun hin => ⟨heff.trans (congrArg _ (if_neg ?_)), State.act_switched, State.switched_frame⟩, fun hout =>
      heff.trans (congrArg _ (if_pos hout))⟩
    rw [State.stepThr_switched]
    exact Nat.not_lt.2 hin
  case degrade => exact fun t b s hb hon h => exec_of_guard (exec_tqcDegrade_eq t b s) hb (tqcDegradeEff_of_holding hb hon h)

end Sys2Proof.Machine

/-!
Time messages and pulses (R351, R352, R355 to R357): what each command's effect does, by the conditions of its row, and what a message, a
frame or an edge does to the time base that listens to it.
-/
namespace Sys2Proof.Machine

/-! ### PTP (R350 to R352) -/

section Ptp
variable {s : State} {b p : Nat}

theorem syncReceiveEff_of_usable {m : SyncMsg} (hp : p < 3) (hon : s.timeOn = true) (hsup : m.supported = true) (hlo : -4 ≤ m.interval)
    (hhi : m.interval ≤ 1) : syncReceiveEff p m s = (upto 4).foldl (fun s b => s.syncFor b p m) s :=
  if_pos (by simp [syncUsable, hp, hon, hsup, hlo, hhi])

theorem followUpReceiveEff_of_usable {m : SyncMsg} (hp : p < 3) (hon : s.timeOn = true) (hsup : m.supported = true) :
    followUpReceiveEff p m s = (upto 4).foldl (fun s b => s.followFor b p m) s :=
  if_pos (by simp [hp, hon, hsup])

theorem announceReceiveEff_of_usable {m : AnnounceMsg} (hp : p < 3) (hon : s.timeOn = true) (hsup : m.supported = true)
    (hlo : 0 ≤ m.interval) (hhi : m.interval ≤ 2) : announceReceiveEff p m s = (upto 4).foldl (fun s b => s.announceFor b p m) s :=
  if_pos (by simp [announceUsable, hp, hon, hsup, hlo, hhi])

/-- R351: the Sync is noted for its port. -/
def State.syncNoted (s : State) (b p : Nat) (m : SyncMsg) : State :=
  s.setTb b { s.tb b with syncAt := (p, s.now) :: (s.tb b).syncAt.filter (fun e => e.1 != p), syncIv := m.interval }

/-- The time of a time base is not touched by noting a Sync. -/
theorem State.tbAt_syncNoted {m : SyncMsg} (hlen : b < s.tim.bases.length) (t : Nat) : (s.syncNoted b p m).tbAt b t = s.tbAt b t := by
  have htb : (s.syncNoted b p m).tb b =
      { s.tb b with syncAt := (p, s.now) :: (s.tb b).syncAt.filter (fun e => e.1 != p), syncIv := m.interval } :=
    State.tb_setTb_same _ _ _ hlen
  have hadj : (s.syncNoted b p m).getI (TIM_FADJ_FADJ b) = s.getI (TIM_FADJ_FADJ b) := rfl
  rw [State.tbAt, htb, hadj]
  rfl

/-- A Sync a time base listens to. -/
structure Listens (b p : Nat) (m : SyncMsg) (s : State) : Prop where
  src : s.tbSrc b = 1
  domain : s.getF (TIM_CFG_DOMAIN b) = m.domain
  gm : (s.tb b).gm = some m.gm
  port : s.ptpPort b p = true

/-- R351: the offset of a one-step Sync is its origin plus its corrections and the peer delay less the local time. -/
theorem Listens.syncFor_of_oneStep {m : SyncMsg} (h : Listens b p m s) (hmode : s.getF NET_MODE_MODE = 0) (hone : m.twoStep = false)
    (hlen : b < s.tim.bases.length) :
    s.syncFor b p m = (s.syncNoted b p m).servoUpdate b
      ((((m.sec * 1000000000 + m.ns) * 65536 : Nat) : Int) + m.corr + ((s.peerDelay p * 65536 : Nat) : Int) - s.tbAt b s.now)
      ((s.syncNoted b p m).gmTqc b) := by
  have hindep : (s.syncNoted b p m).getF NET_MODE_MODE = 0 := hmode
  rw [← State.tbAt_syncNoted (p := p) (m := m) hlen]
  refine (if_pos (by simp [h.src, h.domain, h.gm, h.port])).trans ?_
  refine (if_neg ?_).trans ((if_neg ?_).trans rfl)
  · exact (by simp [hindep] : ¬ ((s.syncNoted b p m).getF NET_MODE_MODE != 0 && (s.tb b).gmPort != p) = true)
  · simp [hone]

theorem State.syncFor_of_not_listening {m : SyncMsg}
    (h : s.tbSrc b ≠ 1 ∨ s.getF (TIM_CFG_DOMAIN b) ≠ m.domain ∨ (s.tb b).gm ≠ some m.gm ∨ s.ptpPort b p = false) :
    s.syncFor b p m = s := by
  refine if_neg fun hlistens => ?_
  obtain ⟨hsrc, hdomain, hgm, hport⟩ : s.tbSrc b = 1 ∧ s.getF (TIM_CFG_DOMAIN b) = m.domain ∧ (s.tb b).gm = some m.gm ∧
      s.ptpPort b p = true := by simpa [and_assoc] using hlistens
  rcases h with h | h | h | h
  · exact h hsrc
  · exact h hdomain
  · exact h hgm
  · exact absurd hport (by simp [h])

/-- Has a second passed: there was no instant, or it lies that far back. -/
theorem State.secondPassed_of_forall {o : Option Nat} (h : ∀ w, o = some w → w + secU ≤ s.now) : s.secondPassed o = true := by
  cases o with
  | none => rfl
  | some w => exact decide_eq_true (h w rfl)

/-- R352: in master state a Sync and an Announce leave. -/
theorem gmTransmitEff_of_master (hb : b < 4) (hon : s.timeOn = true) (hmaster : s.mayMaster b = true)
    (hlast : ∀ w, (s.tb b).txLast = some w → w + secU ≤ s.now) :
    gmTransmitEff b s =
      (let n := ((s.tb b).txSeq + 1) % 65536
       let v := splitTime (s.tbAt b s.now)
       let r := s.setTb b { s.tb b with txSeq := n, txLast := some s.now }
       let ps := r.ownPorts [r.getF (TIM_CFG_PORTSEL b)]
       let o := s.ownAnnounce b
       (r.txOwn ps (.ptpSync o.domain n v.1 v.2.1)).txOwn ps (.ptpAnnounce o.domain n o.prio1 o.prio2 o.cls o.acc [o.gm])) :=
  if_pos (by simp [hb, hon, hmaster, State.secondPassed_of_forall hlast])

end Ptp

/-! ### IRIG-B and 1PPS (R355 to R357) -/

section Pulses
variable {s : State} {b : Nat}

theorem irigbFrameEff_of_on {mark : Nat} {f : IrigFrame} (hon : s.timeOn = true) (hmark : mark ≤ s.now) :
    irigbFrameEff mark f s = (upto 4).foldl (fun u b =>
      if u.tbSrc b = 2 ∨ u.tbSrc b = 3 then
        (if f.ok = true ∧ (∀ p ∈ f.pulses, irigWidthOk p = true) ∧ (s.flag TIM_IRIG_CFEXT = false ∨ f.cfParityOk = true) then
          u.irigGood b mark f
         else u.setTb b { u.tb b with badFrames := (u.tb b).badFrames + 1 })
      else u) s := by
  have hgood : s.irigDecodes f = true ↔
      f.ok = true ∧ (∀ p ∈ f.pulses, irigWidthOk p = true) ∧ (s.flag TIM_IRIG_CFEXT = false ∨ f.cfParityOk = true) := by
    simp [State.irigDecodes, and_assoc]
  refine (if_pos (by simp [hon, hmark])).trans ?_
  refine List.foldl_ext _ _ _ fun u b _ => ?_
  simp only [hgood, Bool.or_eq_true, decide_eq_true_eq]

theorem ppsInEdgeEff_of_on (hon : s.timeOn = true) :
    ppsInEdgeEff s = (upto 4).foldl (fun s b => if s.tbSrc b = 3 ∨ s.tbSrc b = 4 then s.ppsFor b else s) s := by
  refine (if_pos hon).trans ?_
  refine List.foldl_ext _ _ _ fun u b _ => ?_
  simp only [Bool.or_eq_true, decide_eq_true_eq]

/-- R356: an edge outside its window is discarded and counted. -/
theorem State.ppsFor_of_outside (hset : s.tbState b ≠ 0) (hedge : (s.tb b).edgeAt.isSome = true)
    (hout : s.nearSecond b (edgeSample s.now) = false) : s.ppsFor b = s.setTb b { s.tb b with ppsDisc := (s.tb b).ppsDisc + 1 } :=
  if_pos (by simp [hset, hedge, hout])

/-- R356: an edge inside it steers by the second that the frame before it labelled. -/
theorem State.ppsFor_of_labelled {v e : Nat} (hin : s.nearSecond b (edgeSample s.now) = true) (hset : (s.tb b).setSec = none)
    (hsrc : (s.tb b).srcSec = some v) (hedge : (s.tb b).edgeAt = some e) :
    s.ppsFor b =
      (let n := edgeSample s.now
       let k := v + (n - e + secU / 2) / secU
       let r := s.setTb b { s.tb b with edgeAt := some n, srcSec := some k, setSec := none }
       r.servoUpdate b ((k : Int) * subPerSec - r.tbAt b n) (s.tb b).srcTqc) := by
  unfold State.ppsFor
  dsimp only
  rw [if_neg (by simp [hin])]
  simp only [hset, hsrc, hedge]

/-- R357: how far the time PPS_OUT follows, less COMP, has run past a whole second. -/
def State.ppsoRest (s : State) : Int := (s.tbAt (s.getF TIM_PPSO_TB) s.now + s.getI TIM_PPSO_COMP * 65536) % subPerSec

/-- R357: PPS_OUT rises at a whole second, within 5 ns. -/
theorem ppsOutRiseEff_of_due (hon : s.timeOn = true) (hout : s.ppsoOn = true) (hlow : s.tim.ppsOut = false)
    (hsecond : s.ppsoRest ≤ 327680 ∨ subPerSec - 327680 ≤ s.ppsoRest) :
    ppsOutRiseEff s = { s with tim := { s.tim with ppsOut := true, ppsRose := s.now } } :=
  if_pos (by simpa [State.ppsoRest, hon, hout, hlow] using hsecond)

theorem ppsOutFallEff_of_elapsed (hhigh : s.tim.ppsOut = true) (hlast : s.tim.ppsRose + s.getF TIM_PPSO_PW * msU ≤ s.now) :
    ppsOutFallEff s = { s with tim := { s.tim with ppsOut := false } } :=
  if_pos (by simp [hhigh, hlast])

end Pulses

/-! ### The commands -/

theorem exec_syncReceive_eq (t p : Nat) (m : SyncMsg) (s : State) :
    exec (.syncReceive t p m) s = .next (if p < 3 then syncReceiveEff p m (s.at t) else s.at t) := by
  simp [exec_syncReceive]

theorem exec_followUpReceive_eq (t p : Nat) (m : SyncMsg) (s : State) :
    exec (.followUpReceive t p m) s = .next (if p < 3 then followUpReceiveEff p m (s.at t) else s.at t) := by
  simp [exec_followUpReceive]

theorem exec_announceReceive_eq (t p : Nat) (m : AnnounceMsg) (s : State) :
    exec (.announceReceive t p m) s = .next (if p < 3 then announceReceiveEff p m (s.at t) else s.at t) := by
  simp [exec_announceReceive]

theorem exec_gmTransmit_eq (t b : Nat) (s : State) :
    exec (.gmTransmit t b) s = .next (if b < 4 then gmTransmitEff b (s.at t) else s.at t) := by
  simp [exec_gmTransmit]

/-- Settles O29: each clause is the lemma above that states its effect, behind the equation of its command. -/
theorem timeMessages : Obligations.TimeMessages := by
  unfold Obligations.TimeMessages
  refine ⟨?sync, ?offset, fun s b p m => State.syncFor_of_not_listening, ?announce, ?frame, ?edge, fun s b => State.ppsFor_of_outside,
    fun s b v e => State.ppsFor_of_labelled, ?rise, ?fall, ?transmit, exec_syncReceive_eq, exec_followUpReceive_eq,
    exec_announceReceive_eq, exec_irigbFrame, exec_ppsInEdge, exec_ppsOutRise, exec_ppsOutFall, exec_gmTransmit_eq⟩
  case sync =>
    intro t p m s a hp hon hsup hlo hhi
    exact ⟨exec_of_guard (exec_syncReceive_eq t p m s) hp (syncReceiveEff_of_usable hp hon hsup hlo hhi),
      exec_of_guard (exec_followUpReceive_eq t p m s) hp (followUpReceiveEff_of_usable hp hon hsup)⟩
  case offset =>
    intro s b p m x r hsrc hdomain hgm hport hmode hone hlen hb
    exact Listens.syncFor_of_oneStep ⟨hsrc, hdomain, hgm, hport⟩ hmode hone (hlen ▸ hb)
  case announce =>
    intro t p m s a hp hon hsup hlo hhi
    exact exec_of_guard (exec_announceReceive_eq t p m s) hp (announceReceiveEff_of_usable hp hon hsup hlo hhi)
  case frame => exact fun t mark f s hon hmark => exec_of_eq (exec_irigbFrame t mark f s) (irigbFrameEff_of_on hon hmark)
  case edge => exact fun t s hon => exec_of_eq (exec_ppsInEdge t s) (ppsInEdgeEff_of_on hon)
  case rise =>
    exact fun t s hon hout hlow hsecond => exec_of_eq (exec_ppsOutRise t s) (ppsOutRiseEff_of_due hon hout hlow hsecond)
  case fall => exact fun t s hhigh hlast => exec_of_eq (exec_ppsOutFall t s) (ppsOutFallEff_of_elapsed hhigh hlast)
  case transmit =>
    exact fun t b s hb hon hmaster hlast => exec_of_guard (exec_gmTransmit_eq t b s) hb (gmTransmitEff_of_master hb hon hmaster hlast)

end Sys2Proof.Machine

/-!
Frames through the switch (R358 to R362): what a received frame does, how a frame leaves behind a RedBox and by which queue, the
duplicate table, the ports it is forwarded to, and what ages out.
-/
namespace Sys2Proof.Machine

/-! ### Reception (R358, R359, R361) -/

section Reception
variable {s : State} {p : Nat} {f : EthFrame} {res : List Nat} {full : List Bool}

/-- R358: a frame comes in on a port in use. -/
structure PortOpen (p : Nat) (s : State) : Prop where
  inRow : p < 3
  on : s.switchOn = true
  en : s.flag (NET_PCFG_EN p) = true

theorem PortOpen.frameReceiveEff_eq (h : PortOpen p s) :
    frameReceiveEff p f res full s =
      (let r := s.incWrap (NET_PRX_RX p)
       if !f.fcsOk then r.incSat (NET_PDROP_ERR p) else if 1528 < f.len then r.incSat (NET_PDROP_OVS p) else r.switchFrame p f res full) :=
  if_pos (by simp [h.inRow, h.on, h.en])

theorem PortOpen.frameReceiveEff_of_damaged (h : PortOpen p s) (hfcs : f.fcsOk = false) :
    frameReceiveEff p f res full s = (s.incWrap (NET_PRX_RX p)).incSat (NET_PDROP_ERR p) := by
  simp [h.frameReceiveEff_eq, hfcs]

theorem PortOpen.frameReceiveEff_of_long (h : PortOpen p s) (hfcs : f.fcsOk = true) (hlen : 1528 < f.len) :
    frameReceiveEff p f res full s = (s.incWrap (NET_PRX_RX p)).incSat (NET_PDROP_OVS p) := by
  simp [h.frameReceiveEff_eq, hfcs, hlen]

theorem PortOpen.frameReceiveEff_of_good (h : PortOpen p s) (hfcs : f.fcsOk = true) (hlen : f.len ≤ 1528) :
    frameReceiveEff p f res full s = (s.incWrap (NET_PRX_RX p)).switchFrame p f res full := by
  simp [h.frameReceiveEff_eq, hfcs, Nat.not_lt.2 hlen]

/-- R361: the port has received a frame; one of the wrong LAN counts. -/
def State.lanChecked (s : State) (p : Nat) (f : EthFrame) : State :=
  let r := s.setPort p { s.port p with lastRx := some s.now }
  if r.wrongLan p f = true then r.incSat (if p = 0 then NET_WLAN_WRONGLAN_A else NET_WLAN_WRONGLAN_B) else r

/-- R361: a supervision frame of the engine's own is noted at the port it comes back to. -/
def State.superNoted (s : State) (p : Nat) (f : EthFrame) : State :=
  let w := s.lanChecked p f
  if f.superv && f.src == w.mac then w.setPort p { w.port p with ownSup := some w.now } else w

/-- R359, R360: a frame that is no second copy is forwarded. -/
def State.forwardAll (d : State) (p : Nat) (f : EthFrame) (res : List Nat) (full : List Bool) : State :=
  let l := if d.getF NET_MODE_MODE = 0 then d.learn f.src p else d
  let outs := (l.egressPorts p f).filter (fun q => l.flag (NET_PCFG_EN q))
  let n := if p = 2 then (l.tcMax f res outs).nextRedSeq else l.tcMax f res outs
  outs.foldl (fun s q => s.forward p f (n.egressQueue p f) res full q) n

theorem State.switchFrame_eq (s : State) (p : Nat) (f : EthFrame) (res : List Nat) (full : List Bool) :
    s.switchFrame p f res full =
      (let u := s.superNoted p f
       if f.src == (s.lanChecked p f).mac && u.getF NET_MODE_MODE == 1 && decide (p < 2) then u
       else if (u.dupCheck f).1 then (u.dupCheck f).2 else (u.dupCheck f).2.forwardAll p f res full) := rfl

/-- R359: a frame of the engine's own that comes back on the ring leaves it. -/
theorem State.switchFrame_of_own (hsrc : f.src = (s.lanChecked p f).mac) (hmode : (s.superNoted p f).getF NET_MODE_MODE = 1) (hp : p < 2) :
    s.switchFrame p f res full = s.superNoted p f := by
  rw [State.switchFrame_eq]
  exact if_pos (by simp [hsrc, hmode, hp])

section Others
variable (h : f.src ≠ (s.lanChecked p f).mac ∨ (s.superNoted p f).getF NET_MODE_MODE ≠ 1 ∨ 2 ≤ p)
include h

theorem State.switchFrame_of_other : s.switchFrame p f res full =
    if ((s.superNoted p f).dupCheck f).1 then ((s.superNoted p f).dupCheck f).2
    else ((s.superNoted p f).dupCheck f).2.forwardAll p f res full := by
  rw [State.switchFrame_eq]
  refine if_neg ?_
  rcases h with h | h | h
  · simp [h]
  · simp [h]
  · simp [Nat.not_lt.2 h]

theorem State.switchFrame_of_second (hdup : ((s.superNoted p f).dupCheck f).1 = true) :
    s.switchFrame p f res full = ((s.superNoted p f).dupCheck f).2 := by
  rw [State.switchFrame_of_other h, if_pos hdup]

theorem State.switchFrame_of_first (hdup : ((s.superNoted p f).dupCheck f).1 = false) :
    s.switchFrame p f res full = ((s.superNoted p f).dupCheck f).2.forwardAll p f res full := by
  rw [State.switchFrame_of_other h, if_neg (by simp [hdup])]

end Others

end Reception

/-! ### The way out (R354, R359, R361, R362) -/

section WayOut
variable {s : State} {p q k : Nat} {f : EthFrame} {res : List Nat} {full : List Bool}

theorem State.forward_of_full (hen : s.flag (NET_PCFG_EN q) = true) (hfull : lget false full q = true) :
    s.forward p f k res full q = s.incSat (NET_PDROP_OVS q) := by
  simp [State.forward, hen, hfull]

theorem State.forward_of_room (hen : s.flag (NET_PCFG_EN q) = true) (hroom : lget false full q = false) :
    s.forward p f k res full q = s.txFrame q (.forwarded { s.redBox p q f with corr := s.residence p f (lget 0 res q) } k) := by
  simp [State.forward, hen, hroom]

theorem State.redBox_of_independent (hmode : s.getF NET_MODE_MODE = 0) : s.redBox p q f = f := by
  simp [State.redBox, hmode]

theorem State.redBox_of_hsr_ring (hmode : s.getF NET_MODE_MODE = 1) (hp : p = 2) (hq : q < 2) :
    s.redBox p q f = { f with hsr := some s.net.redSeq, len := f.len + 6 } := by
  simp [State.redBox, hmode, hp, hq.ne]

theorem State.redBox_of_hsr_tagged (hmode : s.getF NET_MODE_MODE = 1) (htag : f.hsr.isSome = true) :
    s.redBox p 2 f = { f with hsr := none, len := f.len - 6 } := by
  simp [State.redBox, hmode, htag]

theorem State.redBox_of_prp_lan (hmode : s.getF NET_MODE_MODE = 2) (hp : p = 2) (hq : q < 2) (hptp : f.ptp = .none) :
    s.redBox p q f = { f with prp := some (q, s.net.redSeq), len := f.len + 6 } := by
  simp [State.redBox, hmode, hp, hq.ne, hptp]

theorem State.redBox_of_prp_tagged (hmode : s.getF NET_MODE_MODE = 2) (htrailer : f.prp.isSome = true) :
    s.redBox p 2 f = { f with prp := none, len := f.len - 6 } := by
  simp [State.redBox, hmode, htrailer]

/-- R361: a frame with no place on a redundant port. -/
theorem State.wrongLan_iff (s : State) (p : Nat) (f : EthFrame) :
    s.wrongLan p f = true ↔ p < 2 ∧ (s.getF NET_MODE_MODE = 1 ∧ f.hsr = none ∨
      s.getF NET_MODE_MODE = 2 ∧ ∃ x, f.prp = some x ∧ x.1 ≠ p) := by
  unfold State.wrongLan
  rw [Bool.and_eq_true, decide_eq_true_eq]
  refine and_congr_right fun _ => ?_
  split
  · next hmode => simp [hmode]
  · next hmode => cases hprp : f.prp <;> simp [hmode]
  · next hhsr hprp =>
    have hneither : s.getF NET_MODE_MODE ≠ 1 ∧ s.getF NET_MODE_MODE ≠ 2 := ⟨hhsr, hprp⟩
    simp [hneither]

theorem State.egressQueue_of_ptp (h : f.ptp ≠ .none) : s.egressQueue p f = 3 := by
  simp [State.egressQueue, h]

theorem State.egressQueue_of_other (h : f.ptp = .none) :
    s.egressQueue p f = (match f.pcp with | some c => c % 8 | none => s.getF (NET_PCFG_PCP_DEF p)) / 2 := by
  rw [State.egressQueue, h]
  rfl

/-- R359, R362: a frame joins a port's egress queue. -/
theorem State.txFrame_of_enabled {g : TxFrame} (hen : s.flag (NET_PCFG_EN p) = true) :
    s.txFrame p g =
      (let e : EgFrame := ⟨txQueue g, txKind g, txBytes g + (if (s.txSeqNo p g).isSome then 6 else 0), s.now, s.txSeqNo p g, g⟩
       ({ s with net := { s.net with ports := lmod s.net.ports p (fun x =>
         s.portNow p { s.portNow p x with queue := (s.portNow p x).queue ++ [e] }) } } : State).incWrap (NET_PTX_TX p)) :=
  if_pos hen

end WayOut

/-! ### The frame to leave next (R362) -/

/-- The place of a frame in the order of R362. -/
def egressKey (e : EgFrame) : Nat := if e.queue = 3 then 12 + (2 - e.kind) else 4 * e.queue

/-- Of the frames seen so far and one more, the first of the highest place. -/
def egressBetter (b : Option EgFrame) (e : EgFrame) : Option EgFrame :=
  match b with
  | some x => if egressKey x < egressKey e then some e else some x
  | none => some e

theorem egressPick_eq (t : Nat) (l : List EgFrame) :
    egressPick t l = (l.filter (fun e => decide (e.at_ ≤ t))).foldl egressBetter none := rfl

theorem egressBetter_spec (b : Option EgFrame) (f : EgFrame) :
    ∃ y, egressBetter b f = some y ∧ egressKey f ≤ egressKey y ∧ ∀ x, b = some x → egressKey x ≤ egressKey y := by
  cases b with
  | none => exact ⟨f, rfl, le_rfl, fun x hx => absurd hx (by simp)⟩
  | some x =>
    by_cases h : egressKey x < egressKey f
    · exact ⟨f, if_pos h, le_rfl, fun y hy => by cases hy; exact h.le⟩
    · exact ⟨x, if_neg h, Nat.not_lt.1 h, fun y hy => by cases hy; exact le_rfl⟩

/-- What is picked has a place no lower than any frame picked from. -/
theorem egressKey_le_of_foldl {l : List EgFrame} {b : Option EgFrame} {e : EgFrame} (h : l.foldl egressBetter b = some e) :
    (∀ x, b = some x → egressKey x ≤ egressKey e) ∧ ∀ f ∈ l, egressKey f ≤ egressKey e := by
  induction l generalizing b with
  | nil => exact ⟨fun x hx => by cases hx.symm.trans h; exact le_rfl, fun f hf => absurd hf List.not_mem_nil⟩
  | cons f l ih =>
    obtain ⟨y, hy, hf, hb⟩ := egressBetter_spec b f
    obtain ⟨hbest, hrest⟩ := ih h
    have hye := hbest y hy
    exact ⟨fun x hx => (hb x hx).trans hye, List.forall_mem_cons.2 ⟨hf.trans hye, hrest⟩⟩

/-- R362: strict priority of the queues, in queue 3 by kind. -/
theorem egressPick_first {t : Nat} {l : List EgFrame} {e f : EgFrame} (h : egressPick t l = some e) (hf : f ∈ l) (hat : f.at_ ≤ t) :
    f.queue ≤ e.queue ∧ (f.queue = 3 → e.queue = 3 → f.kind ≤ 2 → e.kind ≤ 2 → e.kind ≤ f.kind) := by
  have hkey : egressKey f ≤ egressKey e :=
    (egressKey_le_of_foldl (egressPick_eq t l ▸ h)).2 f (List.mem_filter.2 ⟨hf, decide_eq_true hat⟩)
  unfold egressKey at hkey
  split at hkey <;> split at hkey <;> omega

/-! ### Duplicates and addresses (R359, R360) -/

section Tables
variable {s : State} {p q : Nat} {f : EthFrame}

/-- R360: live entries are kept. -/
theorem State.ddtLive_of_live {l : List DdtEntry} (h : ∀ e ∈ l, s.now < e.born + s.getF NET_RCFG_FORGET * msU) : s.ddtLive l = l :=
  List.filter_eq_self.2 fun e he => decide_eq_true (h e he)

section Known
variable (hseq : dupSeq (s.getF NET_MODE_MODE) f = some q)
  (hlive : ∀ e ∈ s.net.ddt, s.now < e.born + s.getF NET_RCFG_FORGET * msU)
include hseq hlive

theorem State.dupCheck_of_second (hsecond : ∃ e ∈ s.net.ddt, e.src = f.src ∧ e.seq = q) :
    s.dupCheck f = (true, (s.setDdt s.net.ddt).incSat NET_DUP_DUP) := by
  have hany : s.net.ddt.any (fun e => e.src == f.src && e.seq == q) = true := by simpa using hsecond
  simp [State.dupCheck, hseq, State.ddtLive_of_live hlive, hany]

variable (hfirst : ∀ e ∈ s.net.ddt, e.src ≠ f.src ∨ e.seq ≠ q)
include hfirst

theorem State.dupCheck_of_first :
    s.dupCheck f = (false, if s.net.ddt.length < 1024 then s.setDdt (s.net.ddt ++ [⟨f.src, q, s.now⟩])
      else (s.setDdt (s.net.ddt.drop 1 ++ [⟨f.src, q, s.now⟩])).incSat NET_DDT_EVICT) := by
  have hany : s.net.ddt.any (fun e => e.src == f.src && e.seq == q) = false :=
    List.any_eq_false.2 fun e he => by rcases hfirst e he with h | h <;> simp [h]
  simp only [State.dupCheck, hseq, State.ddtLive_of_live hlive, hany, Bool.false_eq_true, if_false]
  split <;> rfl

theorem State.dupCheck_of_room (hroom : s.net.ddt.length < 1024) :
    s.dupCheck f = (false, s.setDdt (s.net.ddt ++ [⟨f.src, q, s.now⟩])) := by
  rw [State.dupCheck_of_first hseq hlive hfirst, if_pos hroom]

/-- R360, log entry 41: a full table evicts its oldest entry. -/
theorem State.dupCheck_of_full (hfull : 1024 ≤ s.net.ddt.length) :
    s.dupCheck f = (false, (s.setDdt (s.net.ddt.drop 1 ++ [⟨f.src, q, s.now⟩])).incSat NET_DDT_EVICT) := by
  rw [State.dupCheck_of_first hseq hlive hfirst, if_neg (Nat.not_lt.2 hfull)]

end Known

section Independent
variable (hmode : s.getF NET_MODE_MODE = 0) (hdst : f.dst ≠ s.mac)
include hmode

theorem State.egressPorts_of_isolated (hiso : s.flag NET_MODE_ISO = true) : s.egressPorts p f = [] := by
  simp [State.egressPorts, hmode, hiso]

include hdst

theorem State.egressPorts_of_group (hiso : s.flag NET_MODE_ISO = false) (hgroup : groupMac f.dst = true) :
    s.egressPorts p f = (upto 3).filter (fun q => q != p) := by
  simp [State.egressPorts, hmode, hdst, hiso, hgroup]

theorem State.egressPorts_of_learned (hiso : s.flag NET_MODE_ISO = false) (hgroup : groupMac f.dst = false)
    (hport : s.macPort f.dst = some q) (hq : q ≠ p) : s.egressPorts p f = [q] := by
  simp [State.egressPorts, hmode, hdst, hiso, hgroup, hport, hq]

end Independent

/-- R359: HSR passes the ring on. -/
theorem State.egressPorts_of_ring (hmode : s.getF NET_MODE_MODE = 1) (hp : p < 2) (hsrc : f.src ≠ s.mac) (hdst : f.dst ≠ s.mac) :
    s.egressPorts p f = (1 - p) :: (if s.flag NET_MODE_C_BRIDGE = true then [2] else []) := by
  simp [State.egressPorts, hmode, hp, hsrc, hdst]

theorem ddtEntryExpiryEff_of_on (hon : s.switchOn = true) :
    ddtEntryExpiryEff s = s.setDdt (s.net.ddt.filter (fun e => s.now < e.born + s.getF NET_RCFG_FORGET * msU)) := if_pos hon

theorem addressAgeingEff_of_on (hon : s.switchOn = true) :
    addressAgeingEff s = { s with net := { s.net with macs := s.net.macs.filter (fun e => s.now < e.seen + 300 * secU) } } := if_pos hon

end Tables

/-! ### The commands -/

theorem exec_frameReceive_eq (t p : Nat) (f : EthFrame) (res : List Nat) (full : List Bool) (s : State) :
    exec (.frameReceive t p f res full) s = .next (if p < 3 then frameReceiveEff p f res full (s.at t) else s.at t) := by
  simp [exec_frameReceive]

/-- Settles O30: each clause is the lemma above that states its effect, behind the equation of its command. -/
theorem switchFrames : Obligations.SwitchFrames := by
  unfold Obligations.SwitchFrames
  refine ⟨?receive, ?accepted, ?out, fun s p g => State.txFrame_of_enabled, fun t l e f => egressPick_first, ?duplicate, ?independent,
    fun s p f => State.egressPorts_of_ring, ?ageing, exec_frameReceive_eq, exec_ddtEntryExpiry, exec_addressAgeing⟩
  case receive =>
    intro t p n f full s a r hp hon hen
    have hopen : PortOpen p a := ⟨hp, hon, hen⟩
    exact ⟨fun hfcs => exec_of_guard (exec_frameReceive_eq t p f n full s) hp (hopen.frameReceiveEff_of_damaged hfcs),
      fun hfcs hlen => exec_of_guard (exec_frameReceive_eq t p f n full s) hp (hopen.frameReceiveEff_of_long hfcs hlen),
      fun hfcs hlen => exec_of_guard (exec_frameReceive_eq t p f n full s) hp (hopen.frameReceiveEff_of_good hfcs hlen)⟩
  case accepted =>
    intro s p f res full r w u
    have hu : u = s.superNoted p f := if_congr (by simp [w, r, State.lanChecked]) rfl rfl
    rw [hu]
    exact ⟨State.switchFrame_of_own, fun h => ⟨State.switchFrame_of_second h, State.switchFrame_of_first h⟩⟩
  case out =>
    exact fun s p q k f res full => ⟨State.forward_of_full, State.forward_of_room, State.redBox_of_independent, State.redBox_of_hsr_ring,
      State.redBox_of_hsr_tagged, State.redBox_of_prp_lan, State.redBox_of_prp_tagged, State.wrongLan_iff s p f, State.egressQueue_of_ptp,
      State.egressQueue_of_other⟩
  case duplicate =>
    exact fun s f q hseq hlive => ⟨State.dupCheck_of_second hseq hlive, State.dupCheck_of_room hseq hlive,
      State.dupCheck_of_full hseq hlive⟩
  case independent =>
    exact fun s p f hmode hdst => ⟨State.egressPorts_of_isolated hmode, State.egressPorts_of_group hmode hdst,
      fun q => State.egressPorts_of_learned hmode hdst⟩
  case ageing =>
    intro t s a hon
    exact ⟨exec_of_eq (exec_ddtEntryExpiry t s) (ddtEntryExpiryEff_of_on hon),
      exec_of_eq (exec_addressAgeing t s) (addressAgeingEff_of_on hon)⟩

end Sys2Proof.Machine

/-!
The ports (R353, R358, R361, R365): links, redundancy faults and supervision, the peer delay, and the frames of NET_MDIO: what each
command's effect does, by the conditions of its row.
-/
namespace Sys2Proof.Machine

/-! ### Links (R358, R365, R515) -/

section Links
variable {s : State} {p : Nat} {lane slow an : Bool}

/-- R365: the speed a port runs at; only port C's can be set. -/
def State.portSpeed (s : State) (p : Nat) : Bool := decide (p = 2) && s.flag NET_MODE_C_SPEED

/-- A port's link and what it negotiated. -/
def State.linkShown (s : State) (p : Nat) (up an : Bool) : State :=
  ((s.setFlag (NET_PSTAT_LINK p) up).setFlag (NET_PSTAT_SPEED p) (s.portSpeed p)).setFlag (NET_PSTAT_AN_DONE p) an

theorem PortOpen.portLinkChangeEff_eq (h : PortOpen p s) :
    portLinkChangeEff p lane slow an s =
      (let up := lane && slow == s.portSpeed p
       let r := s.linkShown p up an
       if up = s.flag (NET_PSTAT_LINK p) then r
       else ((if up then r else r.incWrap (NET_PSTAT_LDOWN p)).setFlag (NET_PSTAT_LINK_CHG p) true).raise 95 p (b2n up)) :=
  if_pos (by simp [h.inRow, h.on, h.en])

theorem portLinkChangeEff_of_unused (hen : s.flag (NET_PCFG_EN p) = false) : portLinkChangeEff p lane slow an s = s :=
  if_neg (by simp [hen])

theorem PortOpen.portLinkChangeEff_of_same (h : PortOpen p s) (hsame : (lane && slow == s.portSpeed p) = s.flag (NET_PSTAT_LINK p)) :
    portLinkChangeEff p lane slow an s = s.linkShown p (lane && slow == s.portSpeed p) an := by
  rw [h.portLinkChangeEff_eq]
  exact if_pos hsame

theorem PortOpen.portLinkChangeEff_of_up (h : PortOpen p s) (hup : (lane && slow == s.portSpeed p) = true)
    (hwas : s.flag (NET_PSTAT_LINK p) = false) :
    portLinkChangeEff p lane slow an s =
      ((s.linkShown p (lane && slow == s.portSpeed p) an).setFlag (NET_PSTAT_LINK_CHG p) true).raise 95 p 1 := by
  rw [h.portLinkChangeEff_eq]
  simp [hup, hwas, b2n]

theorem PortOpen.portLinkChangeEff_of_down (h : PortOpen p s) (hdown : (lane && slow == s.portSpeed p) = false)
    (hwas : s.flag (NET_PSTAT_LINK p) = true) :
    portLinkChangeEff p lane slow an s =
      (((s.linkShown p (lane && slow == s.portSpeed p) an).incWrap (NET_PSTAT_LDOWN p)).setFlag (NET_PSTAT_LINK_CHG p) true).raise
        95 p 0 := by
  rw [h.portLinkChangeEff_eq]
  simp [hdown, hwas, b2n]

end Links

/-! ### Redundancy (R361) -/

section Redundancy
variable {s : State}

/-- R361: where the fault lies. -/
def State.faultShown (s : State) : State :=
  let x := s.redFaults
  let r := ((s.setFlag NET_RSTAT_FLT_A x.1).setFlag NET_RSTAT_FLT_B x.2).setFlag NET_RSTAT_RFAULT (x.1 || x.2)
  if x.1 || x.2 then r.setFlag NET_RSTAT_RF_SEEN true else r

theorem redundancyFaultDetectEff_eq (hon : s.timeOn = true) (hred : s.redundant = true) :
    redundancyFaultDetectEff s =
      if (s.redFaults.1 || s.redFaults.2) != s.flag NET_RSTAT_RFAULT then
        s.faultShown.raise 96 0 (getBits (s.faultShown.rd NET_RSTAT) 0 4)
      else s.faultShown :=
  if_pos (by simp [hon, hred])

theorem redundancyFaultDetectEff_of_same (hon : s.timeOn = true) (hred : s.redundant = true)
    (hsame : (s.redFaults.1 || s.redFaults.2) = s.flag NET_RSTAT_RFAULT) : redundancyFaultDetectEff s = s.faultShown := by
  rw [redundancyFaultDetectEff_eq hon hred, if_neg (by simp [hsame])]

theorem redundancyFaultDetectEff_of_change (hon : s.timeOn = true) (hred : s.redundant = true)
    (hchange : (s.redFaults.1 || s.redFaults.2) ≠ s.flag NET_RSTAT_RFAULT) :
    redundancyFaultDetectEff s = s.faultShown.raise 96 0 (getBits (s.faultShown.rd NET_RSTAT) 0 4) := by
  rw [redundancyFaultDetectEff_eq hon hred, if_pos (by simp [hchange])]

/-- R361: a supervision frame leaves by both redundant ports. -/
theorem supervisionTxEff_of_due (hon : s.timeOn = true) (hred : s.redundant = true)
    (hdue : ∀ u, s.net.supLast = some u → u + s.supInterval ≤ s.now) :
    supervisionTxEff s =
      (let n := (s.net.supSeq + 1) % 65536
       let r : State := { s with net := { s.net with supSeq := n, supFrom := some (s.net.supFrom.getD s.now), supLast := some s.now } }
       let g := r.nextRedSeq
       (g.txFrame 0 (.supervision (r.getF NET_RCFG_SVADDR) n)).txFrame 1 (.supervision (r.getF NET_RCFG_SVADDR) n)) := by
  cases hlast : s.net.supLast with
  | none =>
    cases hfrom : s.net.supFrom <;> simp [supervisionTxEff, hon, hred, hlast, hfrom, State.txOwn]
  | some u =>
    have hpassed := hdue u hlast
    cases hfrom : s.net.supFrom <;> simp [supervisionTxEff, hon, hred, hlast, hfrom, hpassed, State.txOwn]

end Redundancy

/-! ### The peer delay (R353) -/

section PeerDelay
variable {s : State} {p : Nat}

/-- R353: the engine's own PTP messages run on a port in use. -/
structure PeerOpen (p : Nat) (s : State) : Prop where
  inRow : p < 3
  on : s.timeOn = true
  en : s.flag (NET_PCFG_EN p) = true

theorem PeerOpen.pdelayMeasureEff_eq (h : PeerOpen p s) :
    pdelayMeasureEff p s =
      (let n := ((s.port p).pdSeq + 1) % 65536
       if s.secondPassed (s.port p).pdLast = true then
         (s.setPort p { s.port p with pdSeq := n, pdSent := some s.now, pdLast := some s.now }).nextRedSeq.txFrame p (.pdelayReq n)
       else s) := by
  simp [pdelayMeasureEff, h.inRow, h.on, h.en, State.txOwn]

theorem PeerOpen.pdelayReqReceiveEff_eq (h : PeerOpen p s) (q : Nat) (turn : Int) :
    pdelayReqReceiveEff p q turn s = s.nextRedSeq.txFrame p (.pdelayResp q turn) := by
  simp [pdelayReqReceiveEff, h.inRow, h.on, h.en, State.txOwn]

/-- R353: half of the round trip less the turnaround. -/
theorem PeerOpen.pdelayRespReceiveEff_of_sent (h : PeerOpen p s) {t1 : Nat} (hsent : (s.port p).pdSent = some t1) (corr : Int) :
    pdelayRespReceiveEff p (s.port p).pdSeq corr s =
      (s.setPort p { s.port p with pdSent := none }).setF (NET_PDLY_PDLY p)
        (clampI 0 0xFFFFFFFE (divHalfEven ((((s.now - t1) * 4096 : Nat) : Int) - corr) 131072)).toNat := by
  unfold pdelayRespReceiveEff
  rw [hsent]
  exact if_pos (by simp [h.inRow, h.on, h.en])

end PeerDelay

/-! ### MDIO (R358, R365) -/

section Mdio
variable {s : State} {op : MdioOp} {r : Requester} {v data : Nat}

/-- R365: the frame a word starts, by its OP field and, for an OP of 1, by C45W. -/
theorem mdioOpOf_eq (v : Nat) :
    (v / 1024 % 4 = 0 → mdioOpOf v = .c22Read) ∧ (v / 1024 % 4 = 1 → bitN v 12 = false → mdioOpOf v = .c22Write) ∧
    (v / 1024 % 4 = 1 → bitN v 12 = true → mdioOpOf v = .c45Write) ∧ (v / 1024 % 4 = 2 → mdioOpOf v = .c45Address) ∧
    (v / 1024 % 4 = 3 → mdioOpOf v = .c45Read) := by
  unfold mdioOpOf
  exact ⟨fun h => by simp [h], fun h hbit => by simp [h, hbit], fun h hbit => by simp [h, hbit], fun h => by simp [h],
    fun h => by simp [h]⟩

/-- R365: the word is taken and its frame in progress. -/
def State.mdioStarted (s : State) (op : MdioOp) (v : Nat) : State :=
  { (((s.setF NET_MDIO_PHYAD v).setF NET_MDIO_DEVAD (v / 32)).setF NET_MDIO_DATA (v / 65536)).setFlag NET_MDIO_BUSY true with
    net := { s.net with mdio := some op } }

theorem State.mdioW_of_idle (hop : mdioOpOf v = op) (hbusy : s.flag NET_MDIO_BUSY = false) :
    State.mdioW v s = (.ok, s.mdioStarted op v) := by
  have hnet : (((s.setF NET_MDIO_PHYAD v).setF NET_MDIO_DEVAD (v / 32)).setF NET_MDIO_DATA (v / 65536)).net = s.net := by
    simp [State.setF_frame]
  simp [State.mdioW, hop, hbusy, State.mdioStarted, hnet]

theorem State.mdioW_of_busy (hbusy : s.flag NET_MDIO_BUSY = true) : State.mdioW v s = (.stateDenied, s) := if_pos hbusy

theorem mdioEff_of_idle (hjudge : s.judge r NET_MDIO = .allowed) (hbusy : s.flag NET_MDIO_BUSY = false) (hop : mdioOpOf v = op) :
    mdioEff op r v s = (s.mdioStarted op v).recordWrite r NET_MDIO .ok := by
  rw [mdioEff, if_pos hop, State.hostWrite_of_ok hjudge (State.mdioW_of_idle hop hbusy)]

theorem mdioEff_of_busy (hjudge : s.judge r NET_MDIO = .allowed) (hbusy : s.flag NET_MDIO_BUSY = true) (hop : mdioOpOf v = op) :
    mdioEff op r v s = s.recordWrite r NET_MDIO .stateDenied := by
  rw [mdioEff, if_pos hop, State.hostWrite_of_refused hjudge (State.mdioW_of_busy hbusy) (by decide)]

/-- R358: a frame that reads leaves the word read in DATA. -/
theorem mdioFrameDoneEff_of_read (href : s.sys.refPresent = true) (hread : s.net.mdio = some .c22Read ∨ s.net.mdio = some .c45Read) :
    mdioFrameDoneEff data s =
      (({ s with net := { s.net with mdio := none } } : State).setFlag NET_MDIO_BUSY false).setF NET_MDIO_DATA data := by
  rcases hread with h | h <;> simp [mdioFrameDoneEff, href, h]

theorem mdioFrameDoneEff_of_other (href : s.sys.refPresent = true)
    (hother : s.net.mdio = some .c22Write ∨ s.net.mdio = some .c45Write ∨ s.net.mdio = some .c45Address) :
    mdioFrameDoneEff data s = ({ s with net := { s.net with mdio := none } } : State).setFlag NET_MDIO_BUSY false := by
  rcases hother with h | h | h <;> simp [mdioFrameDoneEff, href, h]

end Mdio

/-! ### The commands -/

theorem exec_portLinkChange_eq (t p : Nat) (up slow an : Bool) (s : State) :
    exec (.portLinkChange t p up slow an) s = .next (if p < 3 then portLinkChangeEff p up slow an (s.at t) else s.at t) := by
  simp [exec_portLinkChange]

theorem exec_pdelayMeasure_eq (t p : Nat) (s : State) :
    exec (.pdelayMeasure t p) s = .next (if p < 3 then pdelayMeasureEff p (s.at t) else s.at t) := by
  simp [exec_pdelayMeasure]

theorem exec_pdelayReqReceive_eq (t p seq : Nat) (turn : Int) (s : State) :
    exec (.pdelayReqReceive t p seq turn) s =
      .next (if p < 3 ∧ seq < 65536 then pdelayReqReceiveEff p seq turn (s.at t) else s.at t) := by
  simp [exec_pdelayReqReceive]

theorem exec_pdelayRespReceive_eq (t p seq : Nat) (corr : Int) (s : State) :
    exec (.pdelayRespReceive t p seq corr) s =
      .next (if p < 3 ∧ seq < 65536 then pdelayRespReceiveEff p seq corr (s.at t) else s.at t) := by
  simp [exec_pdelayRespReceive]

/-- Settles O31: each clause is the lemma above that states its effect, behind the equation of its command. -/
theorem portsAndMdio : Obligations.PortsAndMdio := by
  unfold Obligations.PortsAndMdio
  refine ⟨?link, ?fault, ?supervision, ?measure, ?response, ?start, ?done, exec_pdelayReqReceive_eq, exec_pdelayRespReceive_eq,
    exec_pdelayMeasure_eq, exec_supervisionTx, exec_redundancyFaultDetect, exec_portLinkChange_eq, exec_c22Read, exec_c22Write,
    exec_c45Address, exec_c45Read, exec_c45Write, exec_mdioFrameDone⟩
  case link =>
    intro t p lane slow an s a speed up r hp hon
    have hrow := exec_portLinkChange_eq t p lane slow an s
    exact ⟨fun hen => exec_of_guard hrow hp (portLinkChangeEff_of_unused hen),
      fun hen hsame => exec_of_guard hrow hp (PortOpen.portLinkChangeEff_of_same ⟨hp, hon, hen⟩ hsame),
      fun hen hup hwas => exec_of_guard hrow hp (PortOpen.portLinkChangeEff_of_up ⟨hp, hon, hen⟩ hup hwas),
      fun hen hdown hwas => exec_of_guard hrow hp (PortOpen.portLinkChangeEff_of_down ⟨hp, hon, hen⟩ hdown hwas)⟩
  case fault =>
    intro t s a x fault r u hon hred
    have hrow := exec_redundancyFaultDetect t s
    exact ⟨fun hsame => exec_of_eq hrow (redundancyFaultDetectEff_of_same hon hred hsame),
      fun hchange => exec_of_eq hrow (redundancyFaultDetectEff_of_change hon hred hchange)⟩
  case supervision =>
    exact fun t s hon hred hdue => exec_of_eq (exec_supervisionTx t s) (supervisionTxEff_of_due hon hred hdue)
  case measure =>
    intro t p s a n hp hon hen
    have hopen : PeerOpen p a := ⟨hp, hon, hen⟩
    exact ⟨exec_of_guard (exec_pdelayMeasure_eq t p s) hp hopen.pdelayMeasureEff_eq,
      fun q turn hq => exec_of_guard (exec_pdelayReqReceive_eq t p q turn s) ⟨hp, hq⟩ (hopen.pdelayReqReceiveEff_eq q turn)⟩
  case response =>
    intro t p t1 corr s a d hp hon hen hsent hseq
    exact exec_of_guard (exec_pdelayRespReceive_eq t p _ corr s) ⟨hp, hseq⟩
      (PeerOpen.pdelayRespReceiveEff_of_sent ⟨hp, hon, hen⟩ hsent corr)
  case start =>
    intro t v r s a go halive hjudge
    obtain ⟨h22r, h22w, h45w, h45a, h45r⟩ := mdioOpOf_eq v
    refine ⟨fun hidle => ⟨fun h => ?_, fun h hbit => ?_, fun h hbit => ?_, fun h => ?_, fun h => ?_⟩, fun hbusy h => ?_⟩
    · exact exec_of_guard (exec_c22Read t r v s) halive (mdioEff_of_idle hjudge hidle (h22r h))
    · exact exec_of_guard (exec_c22Write t r v s) halive (mdioEff_of_idle hjudge hidle (h22w h hbit))
    · exact exec_of_guard (exec_c45Write t r v s) halive (mdioEff_of_idle hjudge hidle (h45w h hbit))
    · exact exec_of_guard (exec_c45Address t r v s) halive (mdioEff_of_idle hjudge hidle (h45a h))
    · exact exec_of_guard (exec_c45Read t r v s) halive (mdioEff_of_idle hjudge hidle (h45r h))
    · exact exec_of_guard (exec_c22Read t r v s) halive (mdioEff_of_busy hjudge hbusy (h22r h))
  case done =>
    intro t data s a r href
    exact ⟨fun hread => exec_of_eq (exec_mdioFrameDone t data s) (mdioFrameDoneEff_of_read href hread),
      fun hother => exec_of_eq (exec_mdioFrameDone t data s) (mdioFrameDoneEff_of_other href hother)⟩

end Sys2Proof.Machine

/-!
The vault: the counters of the key slots (R433, R440), the OTP slots with the flash or OTP command in progress (R436), and whether a map
is in force (R484). Few commands write any of it. The rest is proved once for every predicate of the vault that those few commands keep
(`VaultInv`): that no counter falls and that no change to an OTP slot is undone are two such predicates.
-/
namespace Sys2Proof.Machine

/-! ### The commands that leave the vault as it was -/

/-- The counters of the key slots, the OTP slots, the class C command in progress, and whether a map is in force. -/
def State.vault (s : State) : List Nat × List OtpSlot × Option (ClassC × Nat × Nat) × Bool :=
  (s.mram.keyCnt, s.sec.otp, s.cmd.run, s.sys.mapOn)

theorem State.vault_ite (p : Prop) [Decidable p] (a b : State) : (if p then a else b).vault = if p then a.vault else b.vault :=
  apply_ite State.vault p a b

@[simp] theorem State.at_mram (s : State) (t : Nat) : (s.at t).mram = s.mram := rfl

@[simp] theorem State.at_sec (s : State) (t : Nat) : (s.at t).sec = s.sec := rfl

@[simp] theorem State.at_cmd (s : State) (t : Nat) : (s.at t).cmd = s.cmd := rfl

@[simp] theorem State.at_sys (s : State) (t : Nat) : (s.at t).sys = s.sys := rfl

@[simp] theorem State.at_vault (s : State) (t : Nat) : (s.at t).vault = s.vault := rfl

/-- The commands of the opcodes (R456, R458 to R460). -/
def isOrder : Instr → Bool
  | .cmdSafe .. | .cmdStatus .. | .cmdRegRead .. | .cmdRegWrite .. | .cmdRestart .. | .cmdResultRead .. | .cmdModeSet ..
  | .cmdOutputForce .. | .cmdTripReset .. | .cmdSettingWrite .. | .cmdGroupSelect .. | .cmdDebugUnlock .. | .cmdDebugLock ..
  | .cmdPairHandover .. | .cmdBkrSelect .. | .cmdBkrOperate .. | .cmdBkrCancel .. | .cmdBkrStatus .. | .cmdRecArm ..
  | .cmdRecDisarm .. | .cmdRecTrig .. | .cmdRecApply .. | .cmdRecRelease .. | .cmdLogicRun .. | .cmdLogicStop ..
  | .cmdLogicHold .. | .cmdLogicResume .. | .cmdLogicStep .. | .cmdLogicSplit .. | .cmdLogicJoin .. | .cmdLogicExchange ..
  | .cmdTimeSet .. | .cmdTimeAcceptStep .. | .cmdKeyInit .. | .cmdKeyRotate .. | .cmdKeyRetire .. | .cmdWorldSet ..
  | .cmdOtpProgram .. | .cmdOtpRevoke .. | .cmdFlashRead .. | .cmdFlashErase .. | .cmdFlashProgram .. | .cmdFlashSlot ..
  | .cmdEvtRead .. | .cmdEvtAck .. => true
  | _ => false

/-- The commands whose effect can write the vault. -/
def writesVault : Instr → Bool
  | .supplyOutOfRange .. | .restartTake .. | .imageValidation .. | .otpOperationDone .. | .flashOperationDone .. => true
  | i => isOrder i

/-- Every other command leaves the vault as it was. -/
theorem exec_vault_of_not_writesVault (i : Instr) (s : State) (h : writesVault i = false) :
    ∃ s', exec i s = .next s' ∧ s'.vault = s.vault := by
  cases i with
  | supplyOutOfRange => cases h
  | powerOnResetRelease => exact ⟨_, exec_powerOnResetRelease .., by simp [powerOnResetReleaseEff_frame, State.vault]⟩
  | bootHoldFall => exact ⟨_, exec_bootHoldFall .., by simp [bootHoldFallEff_frame, State.vault]⟩
  | imageHashDone => exact ⟨_, exec_imageHashDone .., by simp [imageHashDoneEff_frame, State.vault]⟩
  | lpddr4xTrainingDone => exact ⟨_, exec_lpddr4xTrainingDone .., by simp [lpddr4xTrainingDoneEff_frame, State.vault]⟩
  | sectionsLoaded => exact ⟨_, exec_sectionsLoaded .., by simp [sectionsLoadedEff_frame, State.vault]⟩
  | imageValidation => cases h
  | modeChangeEffect => exact ⟨_, exec_modeChangeEffect .., by simp [modeChangeEffectEff_frame, State.vault]⟩
  | referenceLoss => exact ⟨_, exec_referenceLoss .., by simp [referenceLossEff_frame, State.vault]⟩
  | restartTake => cases h
  | fastTick => exact ⟨_, exec_fastTick .., by simp [State.offerEdges_frame, startTickEff_frame, State.vault]⟩
  | ozLinkDown => exact ⟨_, exec_ozLinkDown .., by simp [↓State.vault_ite, ozLinkFallEff_frame, State.vault]⟩
  | cmdSafe => cases h
  | startupCalibrationDone => exact ⟨_, exec_startupCalibrationDone .., by simp [startupCalibrationDoneEff_frame, State.vault]⟩
  | referenceReturnRestart => exact ⟨_, exec_referenceReturnRestart .., by simp [referenceReturnRestartEff_frame, State.vault]⟩
  | policyRestart => exact ⟨_, exec_policyRestart .., by simp [policyRestartEff_frame, State.vault]⟩
  | supplyWarnExcursion => exact ⟨_, exec_supplyWarnExcursion .., by simp [↓State.vault_ite, supplyWarnExcursionEff_frame, State.vault]⟩
  | supplyExcursionEnd => exact ⟨_, exec_supplyExcursionEnd .., by simp [↓State.vault_ite, supplyExcursionEndEff_frame, State.vault]⟩
  | temperatureExcursion => exact ⟨_, exec_temperatureExcursion .., by simp [temperatureExcursionEff_frame, State.vault]⟩
  | monitorRefresh => exact ⟨_, exec_monitorRefresh .., by simp [↓State.vault_ite, monitorRefreshEff_frame, State.vault]⟩
  | trngTestFail => exact ⟨_, exec_trngTestFail .., by simp [↓State.vault_ite, trngTestFailEff_frame, State.vault]⟩
  | fusedSample => exact ⟨_, exec_fusedSample .., by simp [crossedSampleEff_frame, State.vault]⟩
  | arbitrationOpen => exact ⟨_, exec_arbitrationOpen .., by simp [↓State.vault_ite, arbitrationOpenEff_frame, State.vault]⟩
  | arbitrationDecision => exact ⟨_, exec_arbitrationDecision .., by simp [↓State.vault_ite, arbitrationDecisionEff_frame, State.vault]⟩
  | rotationStepStart => exact ⟨_, exec_rotationStepStart .., by simp [↓State.vault_ite, rotationStepStartEff_frame, State.vault]⟩
  | shadowEnd => exact ⟨_, exec_shadowEnd .., by simp [↓State.vault_ite, shadowEndEff_frame, State.vault]⟩
  | sliceCalibrationDone => exact ⟨_, exec_sliceCalibrationDone .., by simp [↓State.vault_ite, sliceCalibrationDoneEff_frame, State.vault]⟩
  | cnvRefreqWrite => exact ⟨_, exec_cnvRefreqWrite .., by simp [↓State.vault_ite, cnvRefreqWriteEff_frame, State.vault]⟩
  | refSettledRise => exact ⟨_, exec_refSettledRise .., by simp [↓State.vault_ite, refSettledRiseEff_frame, State.vault]⟩
  | refWindowFault => exact ⟨_, exec_refWindowFault .., by simp [↓State.vault_ite, refWindowFaultEff_frame, State.vault]⟩
  | refSettlingFault => exact ⟨_, exec_refSettlingFault .., by simp [↓State.vault_ite, refSettlingFaultEff_frame, State.vault]⟩
  | auxStart => exact ⟨_, exec_auxStart .., by simp [↓State.vault_ite, auxStartEff_frame, State.vault]⟩
  | auxStop => exact ⟨_, exec_auxStop .., by simp [↓State.vault_ite, auxStopEff_frame, State.vault]⟩
  | auxClrCnt => exact ⟨_, exec_auxClrCnt .., by simp [↓State.vault_ite, auxClrCntEff_frame, State.vault]⟩
  | auxFlush => exact ⟨_, exec_auxFlush .., by simp [↓State.vault_ite, auxFlushEff_frame, State.vault]⟩
  | auxEntryDone => exact ⟨_, exec_auxEntryDone .., by simp [auxEntryDoneEff_frame, State.vault]⟩
  | auxPeriodStart => exact ⟨_, exec_auxPeriodStart .., by simp [auxPeriodStartEff_frame, State.vault]⟩
  | auxSnapGo => exact ⟨_, exec_auxSnapGo .., by simp [↓State.vault_ite, auxSnapGoEff_frame, State.vault]⟩
  | auxSnapCapture => exact ⟨_, exec_auxSnapCapture .., by simp [auxSnapCaptureEff_frame, State.vault]⟩
  | auxQdataRead => exact ⟨_, exec_auxQdataRead .., by simp [↓State.vault_ite, auxQdataReadEff_frame, State.vault]⟩
  | stage1Output => exact ⟨_, exec_stage1Output .., by simp [↓State.vault_ite, stage1OutputEff_frame, State.vault]⟩
  | stage2Output => exact ⟨_, exec_stage2Output .., by simp [↓State.vault_ite, stage2OutputEff_frame, State.vault]⟩
  | recomputeDone => exact ⟨_, exec_recomputeDone .., by simp [↓State.vault_ite, recomputeMaskEff_frame, State.vault]⟩
  | trackedSample => exact ⟨_, exec_trackedSample .., by simp [↓State.vault_ite, trackedMaskEff_frame, State.vault]⟩
  | fixedRateSample => exact ⟨_, exec_fixedRateSample .., by simp [↓State.vault_ite, fixedRatePublishEff_frame, State.vault]⟩
  | phasorSwap => exact ⟨_, exec_phasorSwap .., by simp [State.offerEdges_frame, swapTickEff_frame, State.vault]⟩
  | fltStop => exact ⟨_, exec_fltStop .., by simp [↓State.vault_ite, fltStopEff_frame, State.vault]⟩
  | fltStart => exact ⟨_, exec_fltStart .., by simp [↓State.vault_ite, fltStartEff_frame, State.vault]⟩
  | chainStopTaken => exact ⟨_, exec_chainStopTaken .., by simp [↓State.vault_ite, chainStopTakenEff_frame, State.vault]⟩
  | syncReset => exact ⟨_, exec_syncReset .., by simp [↓State.vault_ite, syncResetEff_frame, State.vault]⟩
  | fltBankWrite => exact ⟨_, exec_fltBankWrite .., by simp [↓State.vault_ite, fltBankWriteEff_frame, State.vault]⟩
  | fltCdataWrite => exact ⟨_, exec_fltCdataWrite .., by simp [↓State.vault_ite, fltCdataWriteEff_frame, State.vault]⟩
  | fltCcmtCommit => exact ⟨_, exec_fltCcmtCommit .., by simp [↓State.vault_ite, fltCcmtCommitEff_frame, State.vault]⟩
  | fltTrimWrite => exact ⟨_, exec_fltTrimWrite .., by simp [↓State.vault_ite, fltTrimWriteEff_frame, State.vault]⟩
  | fltPhselWrite => exact ⟨_, exec_fltPhselWrite .., by simp [↓State.vault_ite, fltPhselWriteEff_frame, State.vault]⟩
  | wordRelease => exact ⟨_, exec_wordRelease .., by simp [State.offerEdges_frame, crossedReleaseEff_frame, State.vault]⟩
  | tripCommit => exact ⟨_, exec_tripCommit .., by simp [State.offerEdges_frame, tripCommitEff_frame, State.vault]⟩
  | commitMissingLimit => exact ⟨_, exec_commitMissingLimit .., by simp [↓State.vault_ite, State.offerEdges_frame, commitMissingLimitEff_frame, State.vault]⟩
  | minonExpiry => exact ⟨_, exec_minonExpiry .., by simp [↓State.vault_ite, State.offerEdges_frame, minonExpiryEff_frame, State.vault]⟩
  | driveHalfPeriod => exact ⟨_, exec_driveHalfPeriod .., by simp [State.offerEdges_frame, driveHalfPeriodEff_frame, State.vault]⟩
  | readbackMismatch => exact ⟨_, exec_readbackMismatch .., by simp [↓State.vault_ite, State.offerEdges_frame, readbackMismatchEff_frame, State.vault]⟩
  | wdogHalfPeriod => exact ⟨_, exec_wdogHalfPeriod .., by simp [State.offerEdges_frame, wdogHalfPeriodEff_frame, State.vault]⟩
  | slowListStart => exact ⟨_, exec_slowListStart .., by simp [↓State.vault_ite, State.offerEdges_frame, slowListStartEff_frame, State.vault]⟩
  | slowListAbandon => exact ⟨_, exec_slowListAbandon .., by simp [↓State.vault_ite, State.offerEdges_frame, slowListAbandonEff_frame, State.vault]⟩
  | definiteTimeExpiry => exact ⟨_, exec_definiteTimeExpiry .., by simp [↓State.vault_ite, State.offerEdges_frame, definiteTimeExpiryEff_frame, State.vault]⟩
  | inverseTimeOperate => exact ⟨_, exec_inverseTimeOperate .., by simp [↓State.vault_ite, State.offerEdges_frame, inverseTimeOperateEff_frame, State.vault]⟩
  | resetTimeExpiry => exact ⟨_, exec_resetTimeExpiry .., by simp [↓State.vault_ite, State.offerEdges_frame, resetTimeExpiryEff_frame, State.vault]⟩
  | holdLimitExpiry => exact ⟨_, exec_holdLimitExpiry .., by simp [↓State.vault_ite, State.offerEdges_frame, holdLimitExpiryEff_frame, State.vault]⟩
  | vectorShiftPulseEnd => exact ⟨_, exec_vectorShiftPulseEnd .., by simp [↓State.vault_ite, State.offerEdges_frame, vectorShiftPulseEndEff_frame, State.vault]⟩
  | bfRetripTime => exact ⟨_, exec_bfRetripTime .., by simp [↓State.vault_ite, State.offerEdges_frame, bfRetripTimeEff_frame, State.vault]⟩
  | bfBacktripTime => exact ⟨_, exec_bfBacktripTime .., by simp [↓State.vault_ite, State.offerEdges_frame, bfBacktripTimeEff_frame, State.vault]⟩
  | coldLoadEntry => exact ⟨_, exec_coldLoadEntry .., by simp [↓State.vault_ite, State.offerEdges_frame, coldLoadEntryEff_frame, State.vault]⟩
  | coldLoadEnd => exact ⟨_, exec_coldLoadEnd .., by simp [↓State.vault_ite, State.offerEdges_frame, coldLoadEndEff_frame, State.vault]⟩
  | zoneNconReached => exact ⟨_, exec_zoneNconReached .., by simp [↓State.vault_ite, State.offerEdges_frame, zoneNconReachedEff_frame, State.vault]⟩
  | zoneBlankEnd => exact ⟨_, exec_zoneBlankEnd .., by simp [↓State.vault_ite, State.offerEdges_frame, zoneBlankEndEff_frame, State.vault]⟩
  | zoneAlarmTime => exact ⟨_, exec_zoneAlarmTime .., by simp [↓State.vault_ite, State.offerEdges_frame, zoneAlarmTimeEff_frame, State.vault]⟩
  | surgeInception => exact ⟨_, exec_surgeInception .., by simp [↓State.vault_ite, State.offerEdges_frame, surgeInceptionEff_frame, State.vault]⟩
  | iseWindowClose => exact ⟨_, exec_iseWindowClose .., by simp [↓State.vault_ite, State.offerEdges_frame, iseWindowCloseEff_frame, State.vault]⟩
  | iseWinExpiry => exact ⟨_, exec_iseWinExpiry .., by simp [↓State.vault_ite, State.offerEdges_frame, iseWinExpiryEff_frame, State.vault]⟩
  | groupChangeEffect => exact ⟨_, exec_groupChangeEffect .., by simp [↓State.vault_ite, State.offerEdges_frame, groupChangeEffectEff_frame, State.vault]⟩
  | settingWriteEffect => exact ⟨_, exec_settingWriteEffect .., by simp [↓State.vault_ite, State.offerEdges_frame, settingWriteEffectEff_frame, State.vault]⟩
  | binaryInputEdge => exact ⟨_, exec_binaryInputEdge .., by simp [↓State.vault_ite, State.offerEdges_frame, binaryInputEdgeEff_frame, State.vault]⟩
  | debouncedChange => exact ⟨_, exec_debouncedChange .., by simp [↓State.vault_ite, State.offerEdges_frame, debouncedChangeEff_frame, State.vault]⟩
  | trigInEdge => exact ⟨_, exec_trigInEdge .., by simp [↓State.vault_ite, trigInEdgeEff_frame, State.vault]⟩
  | commitBoundary => exact ⟨_, exec_commitBoundary .., by simp [↓State.vault_ite, State.offerEdges_frame, State.podHook_frame, commitBoundaryEff_frame, State.vault]⟩
  | sinkReport => exact ⟨_, exec_sinkReport .., by simp [↓State.vault_ite, State.offerEdges_frame, State.podHook_frame, sinkReportEff_frame, State.vault]⟩
  | resyncComplete => exact ⟨_, exec_resyncComplete .., by simp [↓State.vault_ite, State.offerEdges_frame, resyncCompleteEff_frame, State.vault]⟩
  | coreMemoryRead => exact ⟨_, exec_coreMemoryRead .., by simp [↓State.vault_ite, State.offerEdges_frame, State.podHook_frame, coreMemoryReadEff_frame, State.vault]⟩
  | scrubSlot => exact ⟨_, exec_scrubSlot .., by simp [↓State.vault_ite, State.offerEdges_frame, State.podHook_frame, scrubSlotEff_frame, State.vault]⟩
  | podSel => exact ⟨_, exec_podSel .., by simp [↓State.vault_ite, podSelEff_frame, State.vault]⟩
  | dbgNop => exact ⟨_, exec_dbgNop .., by simp [nopEff_frame, State.vault]⟩
  | dbgHalt => exact ⟨_, exec_dbgHalt .., by simp [haltEff_frame, State.vault]⟩
  | dbgResume => exact ⟨_, exec_dbgResume .., by simp [resumeEff_frame, State.vault]⟩
  | dbgStep => exact ⟨_, exec_dbgStep .., by simp [stepEff_frame, State.vault]⟩
  | dbgReadReg => exact ⟨_, exec_dbgReadReg .., by simp [readRegEff_frame, State.vault]⟩
  | dbgWriteReg => exact ⟨_, exec_dbgWriteReg .., by simp [writeRegEff_frame, State.vault]⟩
  | dbgReadMem => exact ⟨_, exec_dbgReadMem .., by simp [readMemEff_frame, State.vault]⟩
  | dbgWriteMem => exact ⟨_, exec_dbgWriteMem .., by simp [writeMemEff_frame, State.vault]⟩
  | dbgSetBp => exact ⟨_, exec_dbgSetBp .., by simp [↓State.vault_ite, setBpEff_frame, State.vault]⟩
  | dbgClrBp => exact ⟨_, exec_dbgClrBp .., by simp [↓State.vault_ite, clrBpEff_frame, State.vault]⟩
  | breakpointHit => exact ⟨_, exec_breakpointHit .., by simp [↓State.vault_ite, breakpointHitEff_frame, State.vault]⟩
  | tapExtest => exact ⟨_, exec_tapExtest .., by simp [tapExtestEff_frame, State.vault]⟩
  | tapIdcode => exact ⟨_, exec_tapIdcode .., by simp [tapIdcodeEff_frame, State.vault]⟩
  | tapSamplePreload => exact ⟨_, exec_tapSamplePreload .., by simp [tapSamplePreloadEff_frame, State.vault]⟩
  | tapHighz => exact ⟨_, exec_tapHighz .., by simp [tapHighzEff_frame, State.vault]⟩
  | tapClamp => exact ⟨_, exec_tapClamp .., by simp [tapClampEff_frame, State.vault]⟩
  | tapBypass => exact ⟨_, exec_tapBypass .., by simp [tapBypassEff_frame, State.vault]⟩
  | periodStart => exact ⟨_, exec_periodStart .., by simp [↓State.vault_ite, State.offerEdges_frame, periodStartEff_frame, State.vault]⟩
  | freeRunScanStart => exact ⟨_, exec_freeRunScanStart .., by simp [↓State.vault_ite, State.offerEdges_frame, freeRunScanStartEff_frame, State.vault]⟩
  | logicOutputWrite => exact ⟨_, exec_logicOutputWrite .., by simp [↓State.vault_ite, State.offerEdges_frame, logicOutputWriteEff_frame, State.vault]⟩
  | joinComplete => exact ⟨_, exec_joinComplete .., by simp [State.offerEdges_frame, joinCompleteEff_frame, State.vault]⟩
  | exchangeLoaded => exact ⟨_, exec_exchangeLoaded .., by simp [State.offerEdges_frame, exchangeLoadedEff_frame, State.vault]⟩
  | retainCommitDone => exact ⟨_, exec_retainCommitDone .., by simp [State.offerEdges_frame, retainCommitDoneEff_frame, State.vault]⟩
  | holdEntry => exact ⟨_, exec_holdEntry .., by simp [↓State.vault_ite, State.offerEdges_frame, holdEntryEff_frame, State.vault]⟩
  | initWaitExpiry => exact ⟨_, exec_initWaitExpiry .., by simp [↓State.vault_ite, State.offerEdges_frame, initWaitExpiryEff_frame, State.vault]⟩
  | blkEnd => exact ⟨_, exec_blkEnd .., by simp [↓State.vault_ite, blkEndEff_frame, State.vault]⟩
  | blkAnd => exact ⟨_, exec_blkAnd .., by simp [↓State.vault_ite, blkAndEff_frame, State.vault]⟩
  | blkOr => exact ⟨_, exec_blkOr .., by simp [↓State.vault_ite, blkOrEff_frame, State.vault]⟩
  | blkXor => exact ⟨_, exec_blkXor .., by simp [↓State.vault_ite, blkXorEff_frame, State.vault]⟩
  | blkNot => exact ⟨_, exec_blkNot .., by simp [↓State.vault_ite, blkNotEff_frame, State.vault]⟩
  | blkSr => exact ⟨_, exec_blkSr .., by simp [↓State.vault_ite, blkSrEff_frame, State.vault]⟩
  | blkRs => exact ⟨_, exec_blkRs .., by simp [↓State.vault_ite, blkRsEff_frame, State.vault]⟩
  | blkMaj3 => exact ⟨_, exec_blkMaj3 .., by simp [↓State.vault_ite, blkMaj3Eff_frame, State.vault]⟩
  | blkKofn => exact ⟨_, exec_blkKofn .., by simp [↓State.vault_ite, blkKofnEff_frame, State.vault]⟩
  | blkRTrig => exact ⟨_, exec_blkRTrig .., by simp [↓State.vault_ite, blkRTrigEff_frame, State.vault]⟩
  | blkFTrig => exact ⟨_, exec_blkFTrig .., by simp [↓State.vault_ite, blkFTrigEff_frame, State.vault]⟩
  | blkTon => exact ⟨_, exec_blkTon .., by simp [↓State.vault_ite, blkTonEff_frame, State.vault]⟩
  | blkTof => exact ⟨_, exec_blkTof .., by simp [↓State.vault_ite, blkTofEff_frame, State.vault]⟩
  | blkTp => exact ⟨_, exec_blkTp .., by simp [↓State.vault_ite, blkTpEff_frame, State.vault]⟩
  | blkCtu => exact ⟨_, exec_blkCtu .., by simp [↓State.vault_ite, blkCtuEff_frame, State.vault]⟩
  | blkCtd => exact ⟨_, exec_blkCtd .., by simp [↓State.vault_ite, blkCtdEff_frame, State.vault]⟩
  | blkCtud => exact ⟨_, exec_blkCtud .., by simp [↓State.vault_ite, blkCtudEff_frame, State.vault]⟩
  | blkEq => exact ⟨_, exec_blkEq .., by simp [↓State.vault_ite, blkEqEff_frame, State.vault]⟩
  | blkNe => exact ⟨_, exec_blkNe .., by simp [↓State.vault_ite, blkNeEff_frame, State.vault]⟩
  | blkGt => exact ⟨_, exec_blkGt .., by simp [↓State.vault_ite, blkGtEff_frame, State.vault]⟩
  | blkGe => exact ⟨_, exec_blkGe .., by simp [↓State.vault_ite, blkGeEff_frame, State.vault]⟩
  | blkLt => exact ⟨_, exec_blkLt .., by simp [↓State.vault_ite, blkLtEff_frame, State.vault]⟩
  | blkLe => exact ⟨_, exec_blkLe .., by simp [↓State.vault_ite, blkLeEff_frame, State.vault]⟩
  | blkHyst => exact ⟨_, exec_blkHyst .., by simp [↓State.vault_ite, blkHystEff_frame, State.vault]⟩
  | blkAdd => exact ⟨_, exec_blkAdd .., by simp [↓State.vault_ite, blkAddEff_frame, State.vault]⟩
  | blkSub => exact ⟨_, exec_blkSub .., by simp [↓State.vault_ite, blkSubEff_frame, State.vault]⟩
  | blkMul => exact ⟨_, exec_blkMul .., by simp [↓State.vault_ite, blkMulEff_frame, State.vault]⟩
  | blkDiv => exact ⟨_, exec_blkDiv .., by simp [↓State.vault_ite, blkDivEff_frame, State.vault]⟩
  | blkMod => exact ⟨_, exec_blkMod .., by simp [↓State.vault_ite, blkModEff_frame, State.vault]⟩
  | blkAbs => exact ⟨_, exec_blkAbs .., by simp [↓State.vault_ite, blkAbsEff_frame, State.vault]⟩
  | blkNeg => exact ⟨_, exec_blkNeg .., by simp [↓State.vault_ite, blkNegEff_frame, State.vault]⟩
  | blkSqrt => exact ⟨_, exec_blkSqrt .., by simp [↓State.vault_ite, blkSqrtEff_frame, State.vault]⟩
  | blkMin => exact ⟨_, exec_blkMin .., by simp [↓State.vault_ite, blkMinEff_frame, State.vault]⟩
  | blkMax => exact ⟨_, exec_blkMax .., by simp [↓State.vault_ite, blkMaxEff_frame, State.vault]⟩
  | blkSel => exact ⟨_, exec_blkSel .., by simp [↓State.vault_ite, blkSelEff_frame, State.vault]⟩
  | blkMux => exact ⟨_, exec_blkMux .., by simp [↓State.vault_ite, blkMuxEff_frame, State.vault]⟩
  | blkLimit => exact ⟨_, exec_blkLimit .., by simp [↓State.vault_ite, blkLimitEff_frame, State.vault]⟩
  | blkMove => exact ⟨_, exec_blkMove .., by simp [↓State.vault_ite, blkMoveEff_frame, State.vault]⟩
  | blkPack => exact ⟨_, exec_blkPack .., by simp [↓State.vault_ite, blkPackEff_frame, State.vault]⟩
  | blkUnpack => exact ⟨_, exec_blkUnpack .., by simp [↓State.vault_ite, blkUnpackEff_frame, State.vault]⟩
  | blkBand => exact ⟨_, exec_blkBand .., by simp [↓State.vault_ite, blkBandEff_frame, State.vault]⟩
  | blkBor => exact ⟨_, exec_blkBor .., by simp [↓State.vault_ite, blkBorEff_frame, State.vault]⟩
  | blkBxor => exact ⟨_, exec_blkBxor .., by simp [↓State.vault_ite, blkBxorEff_frame, State.vault]⟩
  | blkShl => exact ⟨_, exec_blkShl .., by simp [↓State.vault_ite, blkShlEff_frame, State.vault]⟩
  | blkShr => exact ⟨_, exec_blkShr .., by simp [↓State.vault_ite, blkShrEff_frame, State.vault]⟩
  | blkI2r => exact ⟨_, exec_blkI2r .., by simp [↓State.vault_ite, blkI2rEff_frame, State.vault]⟩
  | blkR2i => exact ⟨_, exec_blkR2i .., by simp [↓State.vault_ite, blkR2iEff_frame, State.vault]⟩
  | blkB2i => exact ⟨_, exec_blkB2i .., by simp [↓State.vault_ite, blkB2iEff_frame, State.vault]⟩
  | blkI2b => exact ⟨_, exec_blkI2b .., by simp [↓State.vault_ite, blkI2bEff_frame, State.vault]⟩
  | blkT2i => exact ⟨_, exec_blkT2i .., by simp [↓State.vault_ite, blkT2iEff_frame, State.vault]⟩
  | blkI2t => exact ⟨_, exec_blkI2t .., by simp [↓State.vault_ite, blkI2tEff_frame, State.vault]⟩
  | blkT2r => exact ⟨_, exec_blkT2r .., by simp [↓State.vault_ite, blkT2rEff_frame, State.vault]⟩
  | blkR2t => exact ⟨_, exec_blkR2t .., by simp [↓State.vault_ite, blkR2tEff_frame, State.vault]⟩
  | blkNow => exact ⟨_, exec_blkNow .., by simp [↓State.vault_ite, blkNowEff_frame, State.vault]⟩
  | blkLag => exact ⟨_, exec_blkLag .., by simp [↓State.vault_ite, blkLagEff_frame, State.vault]⟩
  | blkDelta => exact ⟨_, exec_blkDelta .., by simp [↓State.vault_ite, blkDeltaEff_frame, State.vault]⟩
  | blkQgood => exact ⟨_, exec_blkQgood .., by simp [↓State.vault_ite, blkQgoodEff_frame, State.vault]⟩
  | blkSubstate => exact ⟨_, exec_blkSubstate .., by simp [↓State.vault_ite, blkSubstateEff_frame, State.vault]⟩
  | blkPodstate => exact ⟨_, exec_blkPodstate .., by simp [↓State.vault_ite, blkPodstateEff_frame, State.vault]⟩
  | blkDevstate => exact ⟨_, exec_blkDevstate .., by simp [↓State.vault_ite, blkDevstateEff_frame, State.vault]⟩
  | blkElem => exact ⟨_, exec_blkElem .., by simp [↓State.vault_ite, blkElemEff_frame, State.vault]⟩
  | blkZone => exact ⟨_, exec_blkZone .., by simp [↓State.vault_ite, blkZoneEff_frame, State.vault]⟩
  | blkSgsel => exact ⟨_, exec_blkSgsel .., by simp [↓State.vault_ite, blkSgselEff_frame, State.vault]⟩
  | blkBkr => exact ⟨_, exec_blkBkr .., by simp [↓State.vault_ite, blkBkrEff_frame, State.vault]⟩
  | bkrPulseEnd => exact ⟨_, exec_bkrPulseEnd .., by simp [↓State.vault_ite, State.offerEdges_frame, bkrPulseEndEff_frame, State.vault]⟩
  | bkrSupervisionTimeout => exact ⟨_, exec_bkrSupervisionTimeout .., by simp [↓State.vault_ite, State.offerEdges_frame, bkrSupervisionTimeoutEff_frame, State.vault]⟩
  | bkrSelectExpiry => exact ⟨_, exec_bkrSelectExpiry .., by simp [↓State.vault_ite, State.offerEdges_frame, bkrSelectExpiryEff_frame, State.vault]⟩
  | blkAr => exact ⟨_, exec_blkAr .., by simp [↓State.vault_ite, blkArEff_frame, State.vault]⟩
  | blkIlk => exact ⟨_, exec_blkIlk .., by simp [↓State.vault_ite, blkIlkEff_frame, State.vault]⟩
  | blkRectrg => exact ⟨_, exec_blkRectrg .., by simp [↓State.vault_ite, blkRectrgEff_frame, State.vault]⟩
  | blkGsetB => exact ⟨_, exec_blkGsetB .., by simp [↓State.vault_ite, blkGsetBEff_frame, State.vault]⟩
  | blkGsetI => exact ⟨_, exec_blkGsetI .., by simp [↓State.vault_ite, blkGsetIEff_frame, State.vault]⟩
  | blkGsetR => exact ⟨_, exec_blkGsetR .., by simp [↓State.vault_ite, blkGsetREff_frame, State.vault]⟩
  | blkAlarm => exact ⟨_, exec_blkAlarm .., by simp [↓State.vault_ite, blkAlarmEff_frame, State.vault]⟩
  | blkDps => exact ⟨_, exec_blkDps .., by simp [↓State.vault_ite, blkDpsEff_frame, State.vault]⟩
  | blkLockout => exact ⟨_, exec_blkLockout .., by simp [↓State.vault_ite, blkLockoutEff_frame, State.vault]⟩
  | rowWrite => exact ⟨_, exec_rowWrite .., by simp [↓State.vault_ite, rowWriteEff_frame, State.vault]⟩
  | recordIndexComplete => exact ⟨_, exec_recordIndexComplete .., by simp [↓State.vault_ite, recordIndexCompleteEff_frame, State.vault]⟩
  | triggerArrival => exact ⟨_, exec_triggerArrival .., by simp [triggerArrivalEff_frame, State.vault]⟩
  | trigOutPulseEnd => exact ⟨_, exec_trigOutPulseEnd .., by simp [↓State.vault_ite, trigOutPulseEndEff_frame, State.vault]⟩
  | maskViolation => exact ⟨_, exec_maskViolation .., by simp [↓State.vault_ite, maskViolationEff_frame, State.vault]⟩
  | recCctlArm => exact ⟨_, exec_recCctlArm .., by simp [↓State.vault_ite, recCctlArmEff_frame, State.vault]⟩
  | recCctlDisarm => exact ⟨_, exec_recCctlDisarm .., by simp [↓State.vault_ite, recCctlDisarmEff_frame, State.vault]⟩
  | recCctlApply => exact ⟨_, exec_recCctlApply .., by simp [↓State.vault_ite, recCctlApplyEff_frame, State.vault]⟩
  | recCctlTrig => exact ⟨_, exec_recCctlTrig .., by simp [↓State.vault_ite, recCctlTrigEff_frame, State.vault]⟩
  | recWselWrite => exact ⟨_, exec_recWselWrite .., by simp [↓State.vault_ite, recWselWriteEff_frame, State.vault]⟩
  | recRelWrite => exact ⟨_, exec_recRelWrite .., by simp [↓State.vault_ite, recRelWriteEff_frame, State.vault]⟩
  | recordWindowRead => exact ⟨_, exec_recordWindowRead .., by simp [↓State.vault_ite, recordWindowReadEff_frame, State.vault]⟩
  | recordWindowWrite => exact ⟨_, exec_recordWindowWrite .., by simp [↓State.vault_ite, recordWindowWriteEff_frame, State.vault]⟩
  | syncReceive => exact ⟨_, exec_syncReceive .., by simp [↓State.vault_ite, syncReceiveEff_frame, State.vault]⟩
  | followUpReceive => exact ⟨_, exec_followUpReceive .., by simp [↓State.vault_ite, followUpReceiveEff_frame, State.vault]⟩
  | announceReceive => exact ⟨_, exec_announceReceive .., by simp [↓State.vault_ite, announceReceiveEff_frame, State.vault]⟩
  | pdelayReqReceive => exact ⟨_, exec_pdelayReqReceive .., by simp [↓State.vault_ite, pdelayReqReceiveEff_frame, State.vault]⟩
  | pdelayRespReceive => exact ⟨_, exec_pdelayRespReceive .., by simp [↓State.vault_ite, pdelayRespReceiveEff_frame, State.vault]⟩
  | pdelayMeasure => exact ⟨_, exec_pdelayMeasure .., by simp [↓State.vault_ite, pdelayMeasureEff_frame, State.vault]⟩
  | irigbFrame => exact ⟨_, exec_irigbFrame .., by simp [irigbFrameEff_frame, State.vault]⟩
  | ppsInEdge => exact ⟨_, exec_ppsInEdge .., by simp [ppsInEdgeEff_frame, State.vault]⟩
  | syncLoss => exact ⟨_, exec_syncLoss .., by simp [↓State.vault_ite, syncLossEff_frame, State.vault]⟩
  | announceReceiptTimeout => exact ⟨_, exec_announceReceiptTimeout .., by simp [↓State.vault_ite, announceReceiptTimeoutEff_frame, State.vault]⟩
  | irigbLoss => exact ⟨_, exec_irigbLoss .., by simp [irigbLossEff_frame, State.vault]⟩
  | ppsLoss => exact ⟨_, exec_ppsLoss .., by simp [ppsLossEff_frame, State.vault]⟩
  | partnerTimeLoss => exact ⟨_, exec_partnerTimeLoss .., by simp [partnerTimeLossEff_frame, State.vault]⟩
  | stepApply => exact ⟨_, exec_stepApply .., by simp [↓State.vault_ite, stepApplyEff_frame, State.vault]⟩
  | compatSwitch => exact ⟨_, exec_compatSwitch .., by simp [compatSwitchEff_frame, State.vault]⟩
  | ppsOutRise => exact ⟨_, exec_ppsOutRise .., by simp [ppsOutRiseEff_frame, State.vault]⟩
  | ppsOutFall => exact ⟨_, exec_ppsOutFall .., by simp [ppsOutFallEff_frame, State.vault]⟩
  | gmTransmit => exact ⟨_, exec_gmTransmit .., by simp [↓State.vault_ite, gmTransmitEff_frame, State.vault]⟩
  | frameReceive => exact ⟨_, exec_frameReceive .., by simp [↓State.vault_ite, frameReceiveEff_frame, State.vault]⟩
  | ddtEntryExpiry => exact ⟨_, exec_ddtEntryExpiry .., by simp [ddtEntryExpiryEff_frame, State.vault]⟩
  | addressAgeing => exact ⟨_, exec_addressAgeing .., by simp [addressAgeingEff_frame, State.vault]⟩
  | supervisionTx => exact ⟨_, exec_supervisionTx .., by simp [supervisionTxEff_frame, State.vault]⟩
  | redundancyFaultDetect => exact ⟨_, exec_redundancyFaultDetect .., by simp [redundancyFaultDetectEff_frame, State.vault]⟩
  | portLinkChange => exact ⟨_, exec_portLinkChange .., by simp [↓State.vault_ite, portLinkChangeEff_frame, State.vault]⟩
  | c22Read => exact ⟨_, exec_c22Read .., by simp [↓State.vault_ite, mdioEff_frame, State.vault]⟩
  | c22Write => exact ⟨_, exec_c22Write .., by simp [↓State.vault_ite, mdioEff_frame, State.vault]⟩
  | c45Address => exact ⟨_, exec_c45Address .., by simp [↓State.vault_ite, mdioEff_frame, State.vault]⟩
  | c45Read => exact ⟨_, exec_c45Read .., by simp [↓State.vault_ite, mdioEff_frame, State.vault]⟩
  | c45Write => exact ⟨_, exec_c45Write .., by simp [↓State.vault_ite, mdioEff_frame, State.vault]⟩
  | mdioFrameDone => exact ⟨_, exec_mdioFrameDone .., by simp [mdioFrameDoneEff_frame, State.vault]⟩
  | gooseStateChange => exact ⟨_, exec_gooseStateChange .., by simp [↓State.vault_ite, gooseStateChangeEff_frame, State.vault]⟩
  | gooseRetransmit => exact ⟨_, exec_gooseRetransmit .., by simp [↓State.vault_ite, gooseRetransmitEff_frame, State.vault]⟩
  | gooseReceive => exact ⟨_, exec_gooseReceive .., by simp [↓State.vault_ite, gooseReceiveEff_frame, State.vault]⟩
  | gooseLiveTimeout => exact ⟨_, exec_gooseLiveTimeout .., by simp [↓State.vault_ite, gooseLiveTimeoutEff_frame, State.vault]⟩
  | svReceive => exact ⟨_, exec_svReceive .., by simp [↓State.vault_ite, svReceiveEff_frame, State.vault]⟩
  | svStreamTimeout => exact ⟨_, exec_svStreamTimeout .., by simp [↓State.vault_ite, svStreamTimeoutEff_frame, State.vault]⟩
  | ozClockDetect => exact ⟨_, exec_ozClockDetect .., by simp [↓State.vault_ite, ozClockDetectEff_frame, State.vault]⟩
  | ozLinkUp => exact ⟨_, exec_ozLinkUp .., by simp [↓State.vault_ite, ozLinkUpEff_frame, State.vault]⟩
  | delayExchange => exact ⟨_, exec_delayExchange .., by simp [↓State.vault_ite, delayExchangeEff_frame, State.vault]⟩
  | dlyReqReceive => exact ⟨_, exec_dlyReqReceive .., by simp [↓State.vault_ite, dlyReqReceiveEff_frame, State.vault]⟩
  | dlyRespReceive => exact ⟨_, exec_dlyRespReceive .., by simp [↓State.vault_ite, dlyRespReceiveEff_frame, State.vault]⟩
  | ozTrigReceive => exact ⟨_, exec_ozTrigReceive .., by simp [↓State.vault_ite, ozTrigReceiveEff_frame, State.vault]⟩
  | ozTrigDelivery => exact ⟨_, exec_ozTrigDelivery .., by simp [ozTrigDeliveryEff_frame, State.vault]⟩
  | heartbeatSend => exact ⟨_, exec_heartbeatSend .., by simp [heartbeatSendEff_frame, State.vault]⟩
  | heartbeatReceive => exact ⟨_, exec_heartbeatReceive .., by simp [↓State.vault_ite, heartbeatReceiveEff_frame, State.vault]⟩
  | partnerOkTimeout => exact ⟨_, exec_partnerOkTimeout .., by simp [partnerOkTimeoutEff_frame, State.vault]⟩
  | pairWaitExpiry => exact ⟨_, exec_pairWaitExpiry .., by simp [pairWaitExpiryEff_frame, State.vault]⟩
  | stateReceive => exact ⟨_, exec_stateReceive .., by simp [↓State.vault_ite, stateReceiveEff_frame, State.vault]⟩
  | timeReceive => exact ⟨_, exec_timeReceive .., by simp [↓State.vault_ite, timeReceiveEff_frame, State.vault]⟩
  | pubseqReceive => exact ⟨_, exec_pubseqReceive .., by simp [↓State.vault_ite, pubseqReceiveEff_frame, State.vault]⟩
  | imageReceive => exact ⟨_, exec_imageReceive .., by simp [↓State.vault_ite, imageReceiveEff_frame, State.vault]⟩
  | ackReceive => exact ⟨_, exec_ackReceive .., by simp [↓State.vault_ite, ackReceiveEff_frame, State.vault]⟩
  | nakReceive => exact ⟨_, exec_nakReceive .., by simp [↓State.vault_ite, nakReceiveEff_frame, State.vault]⟩
  | ackTimeout => exact ⟨_, exec_ackTimeout .., by simp [↓State.vault_ite, ackTimeoutEff_frame, State.vault]⟩
  | doorbell => exact ⟨_, exec_doorbell .., by simp [↓State.vault_ite, doorbellEff_frame, State.vault]⟩
  | cmdFragment => exact ⟨_, exec_cmdFragment .., by simp [↓State.vault_ite, cmdFragmentEff_frame, State.vault]⟩
  | fragmentTimeout => exact ⟨_, exec_fragmentTimeout .., by simp [fragmentTimeoutEff_frame, State.vault]⟩
  | rateLimitEnd => exact ⟨_, exec_rateLimitEnd .., by simp [↓State.vault_ite, rateLimitEndEff_frame, State.vault]⟩
  | cmdStatus => cases h
  | cmdRegRead => cases h
  | cmdRegWrite => cases h
  | cmdRestart => cases h
  | cmdResultRead => cases h
  | cmdModeSet => cases h
  | cmdOutputForce => cases h
  | forceExpiry => exact ⟨_, exec_forceExpiry .., by simp [forceExpiryEff_frame, State.vault]⟩
  | cmdTripReset => cases h
  | cmdSettingWrite => cases h
  | cmdGroupSelect => cases h
  | cmdDebugUnlock => cases h
  | cmdDebugLock => cases h
  | cmdPairHandover => cases h
  | cmdBkrSelect => cases h
  | cmdBkrOperate => cases h
  | cmdBkrCancel => cases h
  | cmdBkrStatus => cases h
  | cmdRecArm => cases h
  | cmdRecDisarm => cases h
  | cmdRecTrig => cases h
  | cmdRecApply => cases h
  | cmdRecRelease => cases h
  | cmdLogicRun => cases h
  | cmdLogicStop => cases h
  | cmdLogicHold => cases h
  | cmdLogicResume => cases h
  | cmdLogicStep => cases h
  | cmdLogicSplit => cases h
  | cmdLogicJoin => cases h
  | cmdLogicExchange => cases h
  | cmdTimeSet => cases h
  | cmdTimeAcceptStep => cases h
  | cmdKeyInit => cases h
  | cmdKeyRotate => cases h
  | cmdKeyRetire => cases h
  | cmdWorldSet => cases h
  | cmdOtpProgram => cases h
  | cmdOtpRevoke => cases h
  | otpOperationDone => cases h
  | cmdFlashRead => cases h
  | cmdFlashErase => cases h
  | cmdFlashProgram => cases h
  | cmdFlashSlot => cases h
  | flashOperationDone => cases h
  | cmdEvtRead => cases h
  | cmdEvtAck => cases h
  | evtQackWrite => exact ⟨_, exec_evtQackWrite .., by simp [↓State.vault_ite, evtQackWriteEff_frame, State.vault]⟩
  | logWrite => exact ⟨_, exec_logWrite .., by simp [logWriteEff_frame, State.vault]⟩
  | evtQdataCapture => exact ⟨_, exec_evtQdataCapture .., by simp [↓State.vault_ite, evtQdataCaptureEff_frame, State.vault]⟩
  | evtLdataRead => exact ⟨_, exec_evtLdataRead .., by simp [↓State.vault_ite, evtLdataReadEff_frame, State.vault]⟩
  | captureRead => exact ⟨_, exec_captureRead .., by simp [↓State.vault_ite, captureReadEff_frame, State.vault]⟩
  | timSampWrite => exact ⟨_, exec_timSampWrite .., by simp [↓State.vault_ite, timSampWriteEff_frame, State.vault]⟩
  | reservedAccess => exact ⟨_, exec_reservedAccess .., by simp [↓State.vault_ite, reservedAccessEff_frame, State.vault]⟩
  | registerWrite => exact ⟨_, exec_registerWrite .., by simp [↓State.vault_ite, registerWriteEff_frame, State.vault]⟩
  | xspiRead => exact ⟨_, exec_xspiRead .., by simp [↓State.vault_ite, xspiReadEff_frame, State.vault]⟩
  | xspiWrite => exact ⟨_, exec_xspiWrite .., by simp [↓State.vault_ite, xspiWriteEff_frame, State.vault]⟩
  | xspiReadStat => exact ⟨_, exec_xspiReadStat .., by simp [xspiReadStatEff_frame, State.vault]⟩
  | uptimeUpdate => exact ⟨_, exec_uptimeUpdate .., by simp [uptimeUpdateEff_frame, State.vault]⟩
  | tqcDegrade => exact ⟨_, exec_tqcDegrade .., by simp [↓State.vault_ite, tqcDegradeEff_frame, State.vault]⟩
  | resyncWindowAgeing => exact ⟨_, exec_resyncWindowAgeing .., by simp [↓State.vault_ite, resyncWindowAgeingEff_frame, State.vault]⟩
  | xspiUndefinedCode => exact ⟨_, exec_xspiUndefinedCode .., by simp [↓State.vault_ite, xspiUndefinedCodeEff_frame, State.vault]⟩
  | dbgUndefinedOp => exact ⟨_, exec_dbgUndefinedOp .., by simp [dbgUndefinedOpEff_frame, State.vault]⟩
  | ozauxCrcError => exact ⟨_, exec_ozauxCrcError .., by simp [↓State.vault_ite, ozauxCrcErrorEff_frame, State.vault]⟩

/-! ### Predicates of the vault -/

/-- A predicate of the vault that authentication's commit of a counter (R439) keeps. -/
structure VaultPred (P : State → Prop) : Prop where
  congr : ∀ {a b : State}, b.vault = a.vault → P a → P b
  commit : ∀ {a : State} (slot ctr : Nat), P a → lget 0 a.mram.keyCnt slot < ctr →
    P { a with mram := { a.mram with keyCnt := lset a.mram.keyCnt slot ctr } }

namespace VaultPred
variable {P : State → Prop} {s : State}

/-- R438 to R440: authentication writes of the vault only the counter of a request that passes. -/
theorem authenticate (h : VaultPred P) (q : CmdReq) (sec : Bool) (hs : P s) : P (s.authenticate q sec).2 := by
  have hfailed (counts : Bool) : P (s.authFailed q.tr (byteAt q.frame 2 / 2 % 8) counts) :=
    h.congr (by simp [State.vault, State.authFailed_frame]) hs
  have hcounted (f : Field) : P (s.incSat f) := h.congr (by simp [State.vault, State.incSat_frame]) hs
  unfold State.authenticate
  dsimp only
  split
  · exact hfailed false
  · split
    · exact hfailed true
    · split
      · exact hfailed true
      · split
        · exact h.congr (by simp [State.vault, State.deny_frame]) hs
        · split
          case isTrue hctr => exact h.commit _ _ hs hctr
          case isFalse =>
            split
            · split
              · exact hcounted _
              · exact hcounted _
            · exact hcounted _

theorem respond (h : VaultPred P) (q : CmdReq) (st : Status) (d : Nat) (out : List Nat) (hs : P s) : P (s.respond q st d out) :=
  h.congr (by simp [State.vault, State.respond_frame]) hs

/-- R450 rows 8 to 11: a request writes of the vault what its opcode does. -/
theorem runReq (h : VaultPred P) {f : CmdReq → State → CmdRes} (hf : ∀ q s, P s → P (f q s).s) (q : CmdReq) (row : OpRow) (hs : P s) :
    P (s.runReq q row f) := by
  have hrun : P (s.asWorld q (f q)).s := h.congr (by rfl) (hf q _ (h.congr (a := s) (by rfl) hs))
  unfold State.runReq
  split
  · exact h.respond _ _ _ _ hs
  · split
    · exact h.respond _ _ _ _ hs
    · dsimp only
      split
      · exact h.congr (by rfl) hrun
      · exact h.respond _ _ _ _ hrun

theorem onOpcode (h : VaultPred P) {op : Nat} {f : CmdReq → State → CmdRes} (hf : ∀ q s, P s → P (f q s).s) (hs : P s) :
    P (s.onOpcode op f) := by
  have hsend {a : State} (tr xid src : Nat) (bs : List Nat) (ha : P a) : P (a.sendRsp tr xid src bs) :=
    h.congr (by simp [State.vault, State.sendRsp_frame]) ha
  unfold State.onOpcode
  split
  case h_2 => exact hs
  case h_1 q rest row _ _ =>
    split
    · exact hs
    · dsimp only
      have htaken : P { s with cmd := { s.cmd with svc := rest } } := h.congr (by rfl) hs
      split
      · have hauth := h.authenticate q (({ s with cmd := { s.cmd with svc := rest } } : State).critOf q row.crit).2 htaken
        split <;> rename_i heq <;> rw [heq] at hauth
        · exact h.runReq hf _ _ hauth
        all_goals exact hsend _ _ _ _ hauth
      · exact h.runReq hf _ _ htaken

/-- An opcode that leaves the vault as it was. -/
theorem order (h : VaultPred P) {f : CmdReq → State → CmdRes} (hf : ∀ q s, (f q s).s.vault = s.vault) (q : CmdReq) (s : State) (hs : P s) :
    P (f q s).s := h.congr (hf q s) hs

end VaultPred

/-- R436: a class C command fits the OTP slot it is about. -/
def OtpFits (s : State) : ClassC → Prop
  | .otpProgram h _ => h < 2 ∧ (s.otpSlot h).st = 0
  | .otpRevoke h => h < 2 ∧ (s.otpSlot h).st = 1
  | _ => True

/-- What the class C command in progress leaves of the OTP slots when it ends (R436, log entry 125): a program ACTIVE with its hash, or
REVOKED where the read-back differs; a revocation REVOKED with its hash. -/
inductive OtpEnds (s : State) : ClassC → List OtpSlot → Prop where
  | programmed (h hash : Nat) : OtpEnds s (.otpProgram h hash) (lset s.sec.otp h ⟨1, hash⟩)
  | failed (h hash left : Nat) : OtpEnds s (.otpProgram h hash) (lset s.sec.otp h ⟨2, left⟩)
  | revoked (h : Nat) : OtpEnds s (.otpRevoke h) (lset s.sec.otp h { s.otpSlot h with st := 2 })
  | erased (k n : Nat) : OtpEnds s (.flashErase k n) s.sec.otp
  | written (k : Nat) (d : List Nat) : OtpEnds s (.flashProgram k d) s.sec.otp
  | chosen (k : Nat) : OtpEnds s (.flashSlot k) s.sec.otp

/-- A predicate of the vault that every command but IMAGE_VALIDATION keeps: it is kept by what they write of the vault. -/
structure VaultInv (P : State → Prop) : Prop extends VaultPred P where
  start : ∀ {a : State} (q : CmdReq) (c : ClassC), P a → OtpFits a c → P (a.startRun q c).s
  ends : ∀ {a b : State} {c : ClassC} {x : Nat × Nat} {otp : List OtpSlot}, P a → a.cmd.run = some (c, x) → OtpEnds a c otp →
    b.vault = (a.mram.keyCnt, otp, none, a.sys.mapOn) → P b
  restart : ∀ {a b : State}, P a → b.vault = (a.mram.keyCnt, a.sec.otp, none, false) → P b

namespace VaultInv
variable {P : State → Prop} {s : State}

/-! ### The opcodes that start a class C command (R436, R455, R460) -/

theorem orderOtpProgram (h : VaultInv P) (q : CmdReq) (s : State) (hs : P s) : P (Machine.orderOtpProgram q s).s := by
  unfold Machine.orderOtpProgram
  dsimp only
  split
  · exact hs
  · split
    · exact hs
    · split
      · exact hs
      · next hslot hst _ => exact h.start q _ hs ⟨by omega, by simpa using hst⟩

theorem orderOtpRevoke (h : VaultInv P) (q : CmdReq) (s : State) (hs : P s) : P (Machine.orderOtpRevoke q s).s := by
  unfold Machine.orderOtpRevoke
  dsimp only
  split
  · exact hs
  · split
    · exact hs
    · split
      · exact hs
      · next hslot hst _ => exact h.start q _ hs ⟨by omega, by simp_all⟩

theorem orderFlashErase (h : VaultInv P) (q : CmdReq) (s : State) (hs : P s) : P (Machine.orderFlashErase q s).s := by
  unfold Machine.orderFlashErase
  dsimp only
  split
  · exact hs
  · split
    · exact hs
    · split
      · exact hs
      · exact h.start q _ hs trivial

theorem orderFlashProgram (h : VaultInv P) (q : CmdReq) (s : State) (hs : P s) : P (Machine.orderFlashProgram q s).s := by
  unfold Machine.orderFlashProgram
  dsimp only
  split
  · exact hs
  · split
    · exact hs
    · exact h.start q _ hs trivial

theorem orderFlashSlot (h : VaultInv P) (q : CmdReq) (s : State) (hs : P s) : P (Machine.orderFlashSlot q s).s := by
  unfold Machine.orderFlashSlot
  dsimp only
  split
  · exact hs
  · split
    · exact hs
    · exact h.start q _ hs trivial

/-! ### The ends of class C commands -/

theorem otpOperationDone (h : VaultInv P) (ok : Bool) (hs : P s) : P (otpOperationDoneEff ok s) := by
  unfold otpOperationDoneEff
  split
  case h_1 slot hash tr seq hrun =>
    split
    · exact h.ends hs hrun (.programmed _ _)
        (by simp [State.vault, State.complete_frame, State.setOtp, State.raise_frame, State.endRun])
    · exact h.ends hs hrun (.failed _ _ (Config.otpFailed slot hash).toNat)
        (by simp [State.vault, State.complete_frame, State.setOtp, State.raise_frame, State.setFlag_frame, State.endRun])
  case h_2 hrun =>
    exact h.ends hs hrun (.revoked _) (by simp [State.vault, State.complete_frame, State.setOtp, State.raise_frame, State.endRun])
  case h_3 => exact hs

theorem flashOperationDone (h : VaultInv P) (hdr : ImgHdr) (sigOk : Bool) (hs : P s) : P (flashOperationDoneEff hdr sigOk s) := by
  have hended (op tr st seq : Nat) : (s.endRun.complete op tr st seq 0).vault = (s.mram.keyCnt, s.sec.otp, none, s.sys.mapOn) := by
    simp [State.vault, State.complete_frame, State.endRun]
  unfold flashOperationDoneEff
  split
  · exact hs
  · split
    case h_1 hrun => exact h.ends hs hrun (.erased _ _) (hended ..)
    case h_2 hrun => exact h.ends hs hrun (.written _ _) (hended ..)
    case h_3 hrun =>
      split
      · exact h.ends hs hrun (.chosen _) (by simp [State.vault, State.complete_frame, State.bootUpd_frame, State.endRun])
      · exact h.ends hs hrun (.chosen _) (hended ..)
    case h_4 => exact hs

/-! ### Power-on reset and restarts (R420, R421) -/

theorem supplyOutOfRange (h : VaultInv P) (hs : P s) : P (supplyOutOfRangeEff s) :=
  h.restart hs (by simp [State.vault, supplyOutOfRangeEff, State.cleared, State.logFlush_frame, State.dropMode_frame, State.reset, resetSys])

theorem restartTake (h : VaultInv P) (hdrs : List ImgHdr) (octal trngOk holdLvl : Bool) (hs : P s) :
    P (restartTakeEff hdrs octal trngOk holdLvl s) := by
  unfold restartTakeEff
  split
  · exact hs
  · split
    · exact hs
    · refine h.restart hs ?_
      simp [State.vault, State.stepTwo_frame, State.startRecord_frame, State.chooseSlot_frame, State.setTrp_frame, State.restarted,
        State.cleared, State.dropMode_frame, State.reset, resetSys]

/-! ### Every command -/

/-- Every command of an opcode keeps such a predicate. -/
theorem exec_of_isOrder (h : VaultInv P) (i : Instr) (hi : isOrder i = true) (hs : P s) : ∃ s', exec i s = .next s' ∧ P s' := by
  have ordered {i : Instr} {t op : Nat} {f : CmdReq → State → CmdRes} (hexec : exec i s = .next ((s.at t).onOpcode op f))
      (hf : ∀ q s, P s → P (f q s).s) : ∃ s', exec i s = .next s' ∧ P s' :=
    ⟨_, hexec, h.onOpcode hf (h.congr (s.at_vault t) hs)⟩
  have guarded {i : Instr} {t op : Nat} {f : CmdReq → State → CmdRes} {p : Prop} [Decidable p]
      (hexec : exec i s = .next (if p then (s.at t).onOpcode op f else s.at t)) (hf : ∀ q s, P s → P (f q s).s) :
      ∃ s', exec i s = .next s' ∧ P s' := by
    by_cases hp : p
    · exact ordered (hexec.trans (by rw [if_pos hp])) hf
    · exact ⟨_, hexec, by rw [if_neg hp]; exact h.congr (s.at_vault t) hs⟩
  cases i with
  | cmdSafe => exact ordered (exec_cmdSafe ..) (h.order fun q s => by simp [orderSafe_frame, State.vault])
  | cmdStatus => exact ordered (exec_cmdStatus ..) (h.order fun q s => by simp [orderStatus_frame, State.vault])
  | cmdRegRead => exact ordered (exec_cmdRegRead ..) (h.order fun q s => by simp [orderRegRead_frame, State.vault])
  | cmdRegWrite => exact ordered (exec_cmdRegWrite ..) (h.order fun q s => by simp [orderRegWrite_frame, State.vault])
  | cmdRestart => exact ordered (exec_cmdRestart ..) (h.order fun q s => by simp [orderRestart_frame, State.vault])
  | cmdResultRead => exact ordered (exec_cmdResultRead ..) (h.order fun q s => by simp [orderResultRead_frame, State.vault])
  | cmdModeSet => exact ordered (exec_cmdModeSet ..) (h.order fun q s => by simp [orderModeSet_frame, State.vault])
  | cmdOutputForce => exact ordered (exec_cmdOutputForce ..) (h.order fun q s => by simp [orderOutputForce_frame, State.vault])
  | cmdTripReset => exact ordered (exec_cmdTripReset ..) (h.order fun q s => by simp [orderTripReset_frame, State.vault])
  | cmdSettingWrite => exact ordered (exec_cmdSettingWrite ..) (h.order fun q s => by simp [orderSettingWrite_frame, State.vault])
  | cmdGroupSelect => exact ordered (exec_cmdGroupSelect ..) (h.order fun q s => by simp [orderGroupSelect_frame, State.vault])
  | cmdDebugUnlock => exact ordered (exec_cmdDebugUnlock ..) (h.order fun q s => by simp [orderDebugUnlock_frame, State.vault])
  | cmdDebugLock => exact ordered (exec_cmdDebugLock ..) (h.order fun q s => by simp [orderDebugLock_frame, State.vault])
  | cmdPairHandover => exact ordered (exec_cmdPairHandover ..) (h.order fun q s => by simp [orderPairHandover_frame, State.vault])
  | cmdBkrSelect => exact ordered (exec_cmdBkrSelect ..) (h.order fun q s => by simp [orderBkrSelect_frame, State.vault])
  | cmdBkrOperate => exact ordered (exec_cmdBkrOperate ..) (h.order fun q s => by simp [orderBkrOperate_frame, State.vault])
  | cmdBkrCancel => exact ordered (exec_cmdBkrCancel ..) (h.order fun q s => by simp [orderBkrCancel_frame, State.vault])
  | cmdBkrStatus => exact ordered (exec_cmdBkrStatus ..) (h.order fun q s => by simp [orderBkrStatus_frame, State.vault])
  | cmdRecArm => exact ordered (exec_cmdRecArm ..) (h.order fun q s => by simp [orderRecArm_frame, State.vault])
  | cmdRecDisarm => exact ordered (exec_cmdRecDisarm ..) (h.order fun q s => by simp [orderRecDisarm_frame, State.vault])
  | cmdRecTrig => exact ordered (exec_cmdRecTrig ..) (h.order fun q s => by simp [orderRecTrig_frame, State.vault])
  | cmdRecApply => exact ordered (exec_cmdRecApply ..) (h.order fun q s => by simp [orderRecApply_frame, State.vault])
  | cmdRecRelease => exact ordered (exec_cmdRecRelease ..) (h.order fun q s => by simp [orderRecRelease_frame, State.vault])
  | cmdLogicRun => exact ordered (exec_cmdLogicRun ..) (h.order fun q s => by simp [orderLogicRun_frame, State.vault])
  | cmdLogicStop => exact ordered (exec_cmdLogicStop ..) (h.order fun q s => by simp [orderLogicStop_frame, State.vault])
  | cmdLogicHold => exact ordered (exec_cmdLogicHold ..) (h.order fun q s => by simp [orderLogicHold_frame, State.vault])
  | cmdLogicResume => exact ordered (exec_cmdLogicResume ..) (h.order fun q s => by simp [orderLogicResume_frame, State.vault])
  | cmdLogicStep => exact ordered (exec_cmdLogicStep ..) (h.order fun q s => by simp [orderLogicStep_frame, State.vault])
  | cmdLogicSplit => exact ordered (exec_cmdLogicSplit ..) (h.order fun q s => by simp [orderLogicSplit_frame, State.vault])
  | cmdLogicJoin => exact ordered (exec_cmdLogicJoin ..) (h.order fun q s => by simp [orderLogicJoin_frame, State.vault])
  | cmdLogicExchange => exact ordered (exec_cmdLogicExchange ..) (h.order fun q s => by simp [orderLogicExchange_frame, State.vault])
  | cmdTimeSet => exact ordered (exec_cmdTimeSet ..) (h.order fun q s => by simp [orderTimeSet_frame, State.vault])
  | cmdTimeAcceptStep => exact ordered (exec_cmdTimeAcceptStep ..) (h.order fun q s => by simp [orderTimeAcceptStep_frame, State.vault])
  | cmdKeyInit => exact ordered (exec_cmdKeyInit ..) (h.order fun q s => by simp [orderKeyInit_frame, State.vault])
  | cmdKeyRotate => exact guarded (exec_cmdKeyRotate ..) (h.order fun q s => by simp [orderKeyRotate_frame, State.vault])
  | cmdKeyRetire => exact ordered (exec_cmdKeyRetire ..) (h.order fun q s => by simp [orderKeyRetire_frame, State.vault])
  | cmdWorldSet => exact ordered (exec_cmdWorldSet ..) (h.order fun q s => by simp [orderWorldSet_frame, State.vault])
  | cmdOtpProgram => exact ordered (exec_cmdOtpProgram ..) h.orderOtpProgram
  | cmdOtpRevoke => exact ordered (exec_cmdOtpRevoke ..) h.orderOtpRevoke
  | cmdFlashRead => exact guarded (exec_cmdFlashRead ..) (h.order fun q s => by simp [orderFlashRead_frame, State.vault])
  | cmdFlashErase => exact ordered (exec_cmdFlashErase ..) h.orderFlashErase
  | cmdFlashProgram => exact ordered (exec_cmdFlashProgram ..) h.orderFlashProgram
  | cmdFlashSlot => exact ordered (exec_cmdFlashSlot ..) h.orderFlashSlot
  | cmdEvtRead => exact ordered (exec_cmdEvtRead ..) (h.order fun q s => by simp [orderEvtRead_frame, State.vault])
  | cmdEvtAck => exact ordered (exec_cmdEvtAck ..) (h.order fun q s => by simp [orderEvtAck_frame, State.vault])
  | _ => cases hi

/-- Every command but IMAGE_VALIDATION does. -/
theorem exec_of_ne_imageValidation (h : VaultInv P) (i : Instr) (hi : ∀ t, i ≠ .imageValidation t) (hs : P s) :
    ∃ s', exec i s = .next s' ∧ P s' := by
  cases hw : writesVault i with
  | false =>
    obtain ⟨s', hexec, hvault⟩ := exec_vault_of_not_writesVault i s hw
    exact ⟨s', hexec, h.congr hvault hs⟩
  | true =>
    have hat (t : Nat) : P (s.at t) := h.congr (s.at_vault t) hs
    cases i with
    | supplyOutOfRange t => exact ⟨_, exec_supplyOutOfRange .., h.supplyOutOfRange (hat t)⟩
    | restartTake t => exact ⟨_, exec_restartTake .., h.restartTake _ _ _ _ (hat t)⟩
    | imageValidation t => exact absurd rfl (hi t)
    | otpOperationDone t => exact ⟨_, exec_otpOperationDone .., h.otpOperationDone _ (hat t)⟩
    | flashOperationDone t => exact ⟨_, exec_flashOperationDone .., h.flashOperationDone _ _ (hat t)⟩
    | _ => exact h.exec_of_isOrder _ hw hs

/-- IMAGE_VALIDATION writes of the vault only whether a map is in force. -/
theorem exec_of_map (h : VaultInv P)
    (hmap : ∀ {a b : State}, P a → b.vault = (a.mram.keyCnt, a.sec.otp, a.cmd.run, b.sys.mapOn) → P b) (i : Instr) (hs : P s) :
    ∃ s', exec i s = .next s' ∧ P s' := by
  by_cases hi : ∃ t, i = .imageValidation t
  · obtain ⟨t, rfl⟩ := hi
    exact ⟨_, exec_imageValidation .., hmap hs (by simp [State.vault, imageValidationEff_frame])⟩
  · exact h.exec_of_ne_imageValidation i (fun t ht => hi ⟨t, ht⟩) hs

end VaultInv

/-- What every command keeps, a step keeps; an idle step changes nothing. -/
theorem step_keeps {P : State → Prop} {s s' : State} (hexec : ∀ i a, P a → ∃ b, exec i a = .next b ∧ P b)
    (hpending : ∀ rest, P s → P { s with pending := rest }) (hs : P s) (hstep : step s = .next s') : P s' := by
  unfold step at hstep
  split at hstep
  · cases hstep
    exact hs
  · next c rest _ =>
    obtain ⟨b, hb, hP⟩ := hexec c _ (hpending rest hs)
    rw [hb] at hstep
    cases hstep
    exact hP

end Sys2Proof.Machine

/-!
The counters of the key slots (R433, R440), the OTP slots (R436) and the map (R484) over one step, by the vault's predicates.
-/
namespace Sys2Proof.Machine

theorem State.vault_eq_iff {s : State} {cnt : List Nat} {otp : List OtpSlot} {run : Option (ClassC × Nat × Nat)} {on : Bool} :
    s.vault = (cnt, otp, run, on) ↔ s.mram.keyCnt = cnt ∧ s.sec.otp = otp ∧ s.cmd.run = run ∧ s.sys.mapOn = on := by
  simp [State.vault]

/-! ### The counters of the key slots (R433, R440) -/

/-- No counter of `l` is larger than that of `l'`. -/
def NoCounterFalls (l l' : List Nat) : Prop := l'.length = l.length ∧ ∀ k, lget 0 l k ≤ lget 0 l' k

theorem NoCounterFalls.refl (l : List Nat) : NoCounterFalls l l := ⟨rfl, fun _ => Nat.le_refl _⟩

/-- R439: a counter is committed where it exceeds the last accepted one. -/
theorem NoCounterFalls.commit {l l' : List Nat} (h : NoCounterFalls l l') {slot ctr : Nat} (hctr : lget 0 l' slot < ctr) :
    NoCounterFalls l (lset l' slot ctr) := by
  obtain ⟨hlength, hle⟩ := h
  refine ⟨(lset_length _ _ _).trans hlength, fun k => (hle k).trans ?_⟩
  rw [lget_lset]
  split
  · next hk => exact hk.1 ▸ hctr.le
  · exact Nat.le_refl _

theorem NoCounterFalls.congr {s b : State} {cnt : List Nat} (hcnt : b.mram.keyCnt = cnt) (h : NoCounterFalls s.mram.keyCnt cnt) :
    NoCounterFalls s.mram.keyCnt b.mram.keyCnt := hcnt ▸ h

/-- R433, R440: that no counter has fallen since `s` is kept by every write of the vault. -/
theorem vaultInv_noCounterFalls (s : State) : VaultInv (fun b => NoCounterFalls s.mram.keyCnt b.mram.keyCnt) where
  congr hvault := NoCounterFalls.congr (State.vault_eq_iff.1 hvault).1
  commit _ _ h hctr := h.commit hctr
  start _ _ h _ := h
  ends h _ _ hvault := h.congr (State.vault_eq_iff.1 hvault).1
  restart h hvault := h.congr (State.vault_eq_iff.1 hvault).1

/-- Settles O57: a counter changes only where authentication commits a larger one. -/
theorem keyCountersNeverFall : Obligations.KeyCountersNeverFall := by
  unfold Obligations.KeyCountersNeverFall
  intro s s' hstep
  exact step_keeps (fun i _ => (vaultInv_noCounterFalls s).exec_of_map (fun h hvault => h.congr (State.vault_eq_iff.1 hvault).1) i)
    (fun _ h => h) (NoCounterFalls.refl _) hstep

/-! ### The OTP slots (R436) -/

/-- R436: no slot of `l` goes back in `l'`, and a hash once programmed stays. -/
def OtpForward (l l' : List OtpSlot) : Prop :=
  ∀ h, (lget ⟨0, 0⟩ l h).st ≤ (lget ⟨0, 0⟩ l' h).st ∧ ((lget ⟨0, 0⟩ l h).st ≠ 0 → (lget ⟨0, 0⟩ l' h).hash = (lget ⟨0, 0⟩ l h).hash)

theorem OtpForward.refl (l : List OtpSlot) : OtpForward l l := fun _ => ⟨Nat.le_refl _, fun _ => rfl⟩

/-- One slot goes forward, its hash kept unless it was UNPROGRAMMED. -/
theorem OtpForward.lset {l l' : List OtpSlot} (h : OtpForward l l') {i : Nat} {o : OtpSlot} (hst : (lget ⟨0, 0⟩ l' i).st ≤ o.st)
    (hhash : (lget ⟨0, 0⟩ l' i).st ≠ 0 → o.hash = (lget ⟨0, 0⟩ l' i).hash) : OtpForward l (lset l' i o) := by
  intro k
  obtain ⟨hle, hkept⟩ := h k
  rw [lget_lset]
  split
  · next hk =>
    obtain ⟨rfl, -⟩ := hk
    exact ⟨hle.trans hst, fun hne => (hhash (by omega)).trans (hkept hne)⟩
  · exact ⟨hle, hkept⟩

/-- The OTP invariant by the slots and the class C command in progress. -/
theorem otpSound_iff (s : State) : OtpSound s ↔ s.sec.otp.length = 2 ∧ (∀ h, (lget ⟨0, 0⟩ s.sec.otp h).st ≤ 2) ∧
    ∀ c x, s.cmd.run = some (c, x) → OtpFits s c := by
  unfold OtpSound
  refine and_congr_right fun _ => and_congr Iff.rfl ?_
  rcases s.cmd.run with _ | ⟨c, x⟩
  · simp
  · cases c <;> simp [OtpFits]

theorem OtpSound.congr {a b : State} (h : OtpSound a) (hotp : b.sec.otp = a.sec.otp) (hrun : b.cmd.run = a.cmd.run) : OtpSound b := by
  unfold OtpSound State.otpSlot at h ⊢
  rwa [hotp, hrun]

/-- Without a class C command in progress only the slots count. -/
theorem otpSound_of_idle {s : State} (hrun : s.cmd.run = none) (hlength : s.sec.otp.length = 2)
    (hst : ∀ h, (lget ⟨0, 0⟩ s.sec.otp h).st ≤ 2) : OtpSound s :=
  (otpSound_iff s).2 ⟨hlength, hst, fun _ _ hc => by simp [hrun] at hc⟩

/-- A slot's state stays within REVOKED where one slot is written with such a state. -/
theorem st_lset_le {l : List OtpSlot} (hst : ∀ h, (lget ⟨0, 0⟩ l h).st ≤ 2) (i : Nat) {o : OtpSlot} (ho : o.st ≤ 2) (h : Nat) :
    (lget ⟨0, 0⟩ (lset l i o) h).st ≤ 2 := by
  rw [lget_lset]
  split
  · exact ho
  · exact hst h

/-- R436: the end of a class C command that fits its slot takes that slot forward. -/
theorem OtpEnds.forward {s : State} {c : ClassC} {l otp : List OtpSlot} (hends : OtpEnds s c otp) (hfits : OtpFits s c)
    (hst : ∀ h, (lget ⟨0, 0⟩ s.sec.otp h).st ≤ 2) (hforward : OtpForward l s.sec.otp) :
    otp.length = s.sec.otp.length ∧ (∀ h, (lget ⟨0, 0⟩ otp h).st ≤ 2) ∧ OtpForward l otp := by
  have hprogram {h : Nat} (o : OtpSlot) (hempty : (s.otpSlot h).st = 0) : OtpForward l (lset s.sec.otp h o) :=
    hforward.lset (hempty.le.trans (Nat.zero_le _)) (fun hne => absurd hempty hne)
  cases hends with
  | programmed h hash => exact ⟨lset_length _ _ _, st_lset_le hst h (Nat.le_succ 1), hprogram _ hfits.2⟩
  | failed h hash left => exact ⟨lset_length _ _ _, st_lset_le hst h (Nat.le_refl 2), hprogram _ hfits.2⟩
  | revoked h =>
    exact ⟨lset_length _ _ _, st_lset_le hst h (Nat.le_refl 2), hforward.lset (hst h) (fun _ => rfl)⟩
  | erased | written | chosen => exact ⟨rfl, hst, hforward⟩

/-- R436: the OTP invariant, and that no slot has gone back since `s`, is kept by every write of the vault. -/
theorem vaultInv_otp (s : State) : VaultInv (fun b => OtpSound b ∧ OtpForward s.sec.otp b.sec.otp) where
  congr hvault h := by
    obtain ⟨-, hotp, hrun, -⟩ := State.vault_eq_iff.1 hvault
    exact ⟨h.1.congr hotp hrun, hotp ▸ h.2⟩
  commit _ _ h _ := ⟨h.1.congr rfl rfl, h.2⟩
  start q c h hfits := by
    obtain ⟨hlength, hst, -⟩ := (otpSound_iff _).1 h.1
    refine ⟨(otpSound_iff _).2 ⟨hlength, hst, fun d x hd => ?_⟩, h.2⟩
    cases hd
    cases c <;> exact hfits
  ends h hrun hends hvault := by
    obtain ⟨hlength, hst, hfits⟩ := (otpSound_iff _).1 h.1
    obtain ⟨-, hotp, hidle, -⟩ := State.vault_eq_iff.1 hvault
    obtain ⟨hlength', hst', hforward⟩ := hends.forward (hfits _ _ hrun) hst h.2
    exact ⟨otpSound_of_idle hidle (hotp ▸ hlength'.trans hlength) (hotp ▸ hst'), hotp ▸ hforward⟩
  restart h hvault := by
    obtain ⟨hlength, hst, -⟩ := (otpSound_iff _).1 h.1
    obtain ⟨-, hotp, hidle, -⟩ := State.vault_eq_iff.1 hvault
    exact ⟨otpSound_of_idle hidle (hotp ▸ hlength) (hotp ▸ hst), hotp ▸ h.2⟩

/-- Settles O58: an OTP slot changes only where a program or a revocation that fits it ends. -/
theorem otpNeverUndone : Obligations.OtpNeverUndone := by
  unfold Obligations.OtpNeverUndone
  intro s s' hsound hstep
  refine step_keeps (P := fun b => OtpSound b ∧ OtpForward s.sec.otp b.sec.otp) (fun i _ => (vaultInv_otp s).exec_of_map ?_ i)
    (fun _ h => ⟨h.1.congr rfl rfl, h.2⟩) ⟨hsound, .refl _⟩ hstep
  intro a b h hvault
  obtain ⟨-, hotp, hrun, -⟩ := State.vault_eq_iff.1 hvault
  exact ⟨h.1.congr hotp hrun, hotp ▸ h.2⟩

/-- Settles O59: every slot is UNPROGRAMMED and no class C command runs. -/
theorem otpSoundAtReset : Obligations.OtpSoundAtReset :=
  otpSound_of_idle rfl rfl fun h => (congrArg OtpSlot.st (State.otpSlot_reset h)).le.trans (Nat.zero_le 2)

/-! ### The map (R484) -/

/-- R484: without a map in force, no command but IMAGE_VALIDATION puts one in force. -/
theorem vaultInv_noMap : VaultInv (fun b => b.sys.mapOn = false) where
  congr hvault h := (State.vault_eq_iff.1 hvault).2.2.2.trans h
  commit _ _ h _ := h
  start _ _ h _ := h
  ends h _ _ hvault := (State.vault_eq_iff.1 hvault).2.2.2.trans h
  restart _ hvault := (State.vault_eq_iff.1 hvault).2.2.2

/-- R405: IMAGE_VALIDATION does nothing but in step 6 of a start. -/
theorem imageValidationEff_of_not_due {s : State} (h : ¬ (s.mode = .boot ∧ s.sys.step = 6)) : imageValidationEff s = s :=
  if_pos (by simpa [imp_iff_not_or] using h)

/-- R484: the one step that puts a map in force. -/
theorem step_mapOn {s s' : State} (hstep : step s = .next s') (hoff : s.sys.mapOn = false) (hon : s'.sys.mapOn = true) :
    ∃ (t : Nat) (rest : List Instr), s.pending = .imageValidation t :: rest ∧ s.mode = .boot ∧ s.sys.step = 6 := by
  unfold step at hstep
  split at hstep
  · cases hstep
    exact absurd (hoff.symm.trans hon) (by decide)
  · next c rest hpending =>
    by_cases hc : ∃ t, c = .imageValidation t
    · obtain ⟨t, rfl⟩ := hc
      refine ⟨t, rest, hpending, ?_⟩
      by_contra hdue
      have hidle := imageValidationEff_of_not_due (s := ({ s with pending := rest } : State).at t) hdue
      rw [exec_imageValidation, hidle] at hstep
      cases hstep
      exact absurd (hoff.symm.trans hon) (by decide)
    · obtain ⟨b, hb, hnone⟩ := vaultInv_noMap.exec_of_ne_imageValidation (s := { s with pending := rest }) c
        (fun t ht => hc ⟨t, ht⟩) hoff
      rw [hb] at hstep
      cases hstep
      exact absurd (hnone.symm.trans hon) (by decide)

end Sys2Proof.Machine

/-!
What every command does whatever it is: it answers a next state, leaves the waiting commands and never turns the clock back (log entries 1,
3 and 9).
-/
namespace Sys2Proof.Machine

theorem State.now_le_at (s : State) (t : Nat) : s.now ≤ (s.at t).now := by
  rw [State.at_now]
  split
  · assumption
  · exact Nat.le_refl _

/-- Settles O51: what a command's effect does to the clock and to the waiting commands is discarded. -/
theorem everyCommandGoesOn : Obligations.EveryCommandGoesOn := by
  unfold Obligations.EveryCommandGoesOn
  intro i s
  cases i <;> exact ⟨_, rfl, rfl, s.now_le_at _⟩

/-- Settles O49: the two branches of a step. -/
theorem queueOrder : Obligations.QueueOrder := by
  unfold Obligations.QueueOrder
  refine ⟨fun _ _ _ => rfl, fun s hidle => ?_⟩
  unfold step
  rw [hidle]

end Sys2Proof.Machine

/-!
Authentication (R438 to R441): what each check answers, one lemma per outcome; the count of failures and the rate limit; and the replay
of the frame last accepted (R439).
-/
namespace Sys2Proof.Machine

/-! ### The checks of R438, in their order -/

/-- The slot a request's FLAGS name. -/
def authSlot (q : CmdReq) : Nat := byteAt q.frame 2 / 2 % 8

/-- The counter a request carries. -/
def authCtr (q : CmdReq) : Nat := leAt q.frame 16 8

/-- Is the world of an authenticated request secure (R428)? -/
def State.authWorld (s : State) (q : CmdReq) : Bool :=
  bitN (s.getF (SEC_WMAP_MAP 7)) q.tr || bitN (s.getF (SEC_WMAP_MAP 7)) (8 + (authSlot q))

/-- A request as authentication has verified it. -/
def State.verified (s : State) (q : CmdReq) : CmdReq :=
  { q with auth := some ((authSlot q), authCtr q), key := (s.keySlot (authSlot q)).key, secure := s.authWorld q }

/-- Rows 1 to 3 of R438: no limit, AUTH with an ACTIVE slot, the tag of the slot's key. -/
structure State.TagHolds (s : State) (q : CmdReq) : Prop where
  free : s.limited q.tr = false
  auth : byteAt q.frame 2 % 2 = 1
  active : (s.keySlot (authSlot q)).st = 1
  tag : q.frame.drop (q.frame.length - 16) = tagOfMsg (s.keySlot (authSlot q)).key (q.frame.take (q.frame.length - 16))

/-- R439, R440: the check of the counter of a request that authentication has verified. -/
def State.checkCounter (s : State) (q : CmdReq) : AuthOut × State :=
  if lget 0 s.mram.keyCnt (authSlot q) < authCtr q then
    (.run (s.verified q), { s with mram := { s.mram with keyCnt := lset s.mram.keyCnt (authSlot q) (authCtr q) } })
  else
    match lget none s.sec.cache (authSlot q) with
    | some (f, rsp) =>
      if authCtr q = lget 0 s.mram.keyCnt (authSlot q) && f = q.frame then
        (.replay (replayRsp (s.keySlot (authSlot q)).key rsp), s.incSat SEC_AUTHCNT_REPLAY)
      else (.refuse (s.verified q) .counterStale, s.incSat SEC_AUTHCNT_STALE)
    | none => (.refuse (s.verified q) .counterStale, s.incSat SEC_AUTHCNT_STALE)

theorem bitN_zero_eq (n : Nat) : bitN n 0 = decide (n % 2 = 1) := by
  simp [bitN, beq_eq_decide]

theorem State.authenticate_of_limited {s : State} {q : CmdReq} (sec : Bool) (h : s.limited q.tr = true) :
    s.authenticate q sec = (.fail, s.authFailed q.tr (authSlot q) false) := by
  simp [State.authenticate, h, authSlot]

theorem State.authenticate_of_noKey {s : State} {q : CmdReq} (sec : Bool) (hl : s.limited q.tr = false)
    (h : byteAt q.frame 2 % 2 = 0 ∨ (s.keySlot (authSlot q)).st ≠ 1) :
    s.authenticate q sec = (.fail, s.authFailed q.tr (authSlot q) true) := by
  unfold authSlot at *
  rcases h with h | h <;> simp [State.authenticate, hl, h, bitN_zero_eq]

theorem State.authenticate_of_wrongTag {s : State} {q : CmdReq} (sec : Bool) (hl : s.limited q.tr = false)
    (hf : byteAt q.frame 2 % 2 = 1) (hk : (s.keySlot (authSlot q)).st = 1)
    (h : q.frame.drop (q.frame.length - 16) ≠ tagOfMsg (s.keySlot (authSlot q)).key (q.frame.take (q.frame.length - 16))) :
    s.authenticate q sec = (.fail, s.authFailed q.tr (authSlot q) true) := by
  unfold authSlot at *
  simp [State.authenticate, hl, hf, hk, h, bitN_zero_eq]

section
variable {s : State} {q : CmdReq} (sec : Bool) (h : s.TagHolds q)
include h

/-- What is left of authentication once the tag holds: the world and the counter. -/
theorem State.authenticate_of_tagHolds : s.authenticate q sec =
    if sec && !s.authWorld q then (.refuse (s.verified q) .worldDenied, s.deny (trReq q.tr) 0x10000 true) else s.checkCounter q := by
  obtain ⟨hl, hf, hk, ht⟩ := h
  unfold State.authWorld State.verified State.authWorld authCtr authSlot at *
  simp only [State.authenticate, hl, hf, hk, ← ht, bitN_zero_eq, decide_true, Bool.not_true, bne_self_eq_false, Bool.or_self,
    Bool.false_eq_true, if_false]
  rfl

theorem State.authenticate_of_worldDenied (hsec : sec = true) (hw : s.authWorld q = false) :
    s.authenticate q sec = (.refuse (s.verified q) .worldDenied, s.deny (trReq q.tr) 0x10000 true) := by
  rw [State.authenticate_of_tagHolds sec h]
  simp [hsec, hw]

theorem State.authenticate_of_fresh (hw : sec = false ∨ s.authWorld q = true) (hc : lget 0 s.mram.keyCnt (authSlot q) < authCtr q) :
    s.authenticate q sec =
      (.run (s.verified q), { s with mram := { s.mram with keyCnt := lset s.mram.keyCnt (authSlot q) (authCtr q) } }) := by
  have hgo : (sec && !s.authWorld q) = false := by rcases hw with hw | hw <;> simp [hw]
  simp [State.authenticate_of_tagHolds sec h, hgo, State.checkCounter, hc]

theorem State.authenticate_of_replayed (hw : sec = false ∨ s.authWorld q = true) {rsp : List Nat}
    (hc : authCtr q = lget 0 s.mram.keyCnt (authSlot q)) (hm : lget none s.sec.cache (authSlot q) = some (q.frame, rsp)) :
    s.authenticate q sec = (.replay (replayRsp (s.keySlot (authSlot q)).key rsp), s.incSat SEC_AUTHCNT_REPLAY) := by
  have hgo : (sec && !s.authWorld q) = false := by rcases hw with hw | hw <;> simp [hw]
  simp [State.authenticate_of_tagHolds sec h, hgo, State.checkCounter, hc, hm]

theorem State.authenticate_of_stale (hw : sec = false ∨ s.authWorld q = true) (hc : authCtr q ≤ lget 0 s.mram.keyCnt (authSlot q))
    (hm : authCtr q < lget 0 s.mram.keyCnt (authSlot q) ∨ ∀ rsp, lget none s.sec.cache (authSlot q) ≠ some (q.frame, rsp)) :
    s.authenticate q sec = (.refuse (s.verified q) .counterStale, s.incSat SEC_AUTHCNT_STALE) := by
  have hgo : (sec && !s.authWorld q) = false := by rcases hw with hw | hw <;> simp [hw]
  rw [State.authenticate_of_tagHolds sec h]
  simp only [hgo, State.checkCounter, Bool.false_eq_true, if_false, Nat.not_lt.mpr hc]
  split
  next f rsp hcache =>
    refine if_neg fun hrep => ?_
    simp only [Bool.and_eq_true, decide_eq_true_eq] at hrep
    obtain ⟨hctr, hframe⟩ := hrep
    rcases hm with hm | hm
    · omega
    · exact hm rsp (hframe ▸ hcache)
  next => rfl
end

/-! ### Failures and the rate limit (R441) -/

/-- The failures of a transport that still lie in the window of 60 s. -/
def State.recentFails (s : State) (tr : Nat) : List Nat := (lget [] s.sec.fails tr).filter (fun u => s.now < u + failWindow)

theorem State.flag_afailSeen_incSat (s : State) : (s.incSat SEC_AUTHCNT_AFAIL).flag SEC_STAT_AFAIL_SEEN = s.flag SEC_STAT_AFAIL_SEEN :=
  State.flag_eq_of_getF (State.getF_incSat_apart (by unfold Field.Fits; decide) (by unfold Field.Apart; decide))

theorem State.authFailed_of_uncounted (s : State) (tr slot : Nat) (h : s.flag SEC_STAT_AFAIL_SEEN = true) :
    s.authFailed tr slot false = s.incSat SEC_AUTHCNT_AFAIL := by
  simp [State.authFailed, State.flag_afailSeen_incSat, h]

theorem State.authFailed_of_first (s : State) (tr slot : Nat) (h : s.flag SEC_STAT_AFAIL_SEEN = false) :
    s.authFailed tr slot false = ((s.incSat SEC_AUTHCNT_AFAIL).setFlag SEC_STAT_AFAIL_SEEN true).raise 116 tr slot := by
  simp [State.authFailed, State.flag_afailSeen_incSat, h]

/-- The state with a transport limited from now on, its failures counted afresh. -/
def State.limitTr (s : State) (tr : Nat) : State :=
  { s with sec := { s.sec with fails := lset s.sec.fails tr [], limit := lset s.sec.limit tr (some (s.now + limitTime)) } }

theorem State.authFailed_of_limit (s : State) (tr slot : Nat) (h : s.flag SEC_STAT_AFAIL_SEEN = true)
    (hn : 15 ≤ (s.recentFails tr).length) :
    s.authFailed tr slot true = ((s.incSat SEC_AUTHCNT_AFAIL).limitTr tr).raise 117 tr 0 := by
  have hmany : 16 ≤ (s.now :: s.recentFails tr).length := by simpa using hn
  simp only [State.authFailed, State.flag_afailSeen_incSat, h, if_true, Bool.not_true, Bool.false_eq_true, if_false]
  exact if_pos hmany

theorem State.authFailed_of_counted (s : State) (tr slot : Nat) (h : s.flag SEC_STAT_AFAIL_SEEN = true)
    (hn : (s.recentFails tr).length < 15) :
    s.authFailed tr slot true = { s.incSat SEC_AUTHCNT_AFAIL with
      sec := { (s.incSat SEC_AUTHCNT_AFAIL).sec with fails := lset s.sec.fails tr (s.now :: s.recentFails tr) } } := by
  have hfew : ¬ 16 ≤ (s.now :: s.recentFails tr).length := by simpa using hn
  simp only [State.authFailed, State.flag_afailSeen_incSat, h, if_true, Bool.not_true, Bool.false_eq_true, if_false]
  exact if_neg hfew

theorem State.authFailed_limits (s : State) (tr slot : Nat) (h : s.flag SEC_STAT_AFAIL_SEEN = true)
    (hn : 15 ≤ (s.recentFails tr).length) :
    (s.authFailed tr slot true).sec.limit = lset s.sec.limit tr (some (s.now + limitTime)) ∧
      (s.authFailed tr slot true).sec.fails = lset s.sec.fails tr [] := by
  simp [State.authFailed_of_limit s tr slot h hn, State.raise_frame, State.limitTr, State.incSat_frame]

theorem rateLimitEndEff_of_over {s : State} {tr e : Nat} (he : lget none s.sec.limit tr = some e) (hn : e ≤ s.now) :
    rateLimitEndEff tr s = { s with sec := { s.sec with limit := lset s.sec.limit tr none } } := by
  simp [rateLimitEndEff, he, hn]

theorem exec_rateLimitEnd_eq (t tr : Nat) (s : State) :
    exec (.rateLimitEnd t tr) s = .next (if tr < 2 then rateLimitEndEff tr (s.at t) else s.at t) := by
  simp [exec_rateLimitEnd]

/-- Settles O38: each outcome of authentication is the lemma of the first check that fails. -/
theorem authentication : Obligations.Authentication := by
  refine ⟨?checks, ?failures, State.authFailed_of_first, ?limitEnd, exec_rateLimitEnd_eq⟩
  case checks =>
    intro s q sec slot k fl n world ctr last v good
    have hgood : good → s.TagHolds q := fun ⟨hfree, hauth, hactive, htag⟩ => ⟨hfree, hauth, hactive, htag⟩
    refine ⟨State.authenticate_of_limited sec, State.authenticate_of_noKey sec, State.authenticate_of_wrongTag sec,
      fun h hsec hw => State.authenticate_of_worldDenied sec (hgood h) hsec hw, fun h hw => ⟨?fresh, ?fell, ?replay, ?other⟩⟩
    case fresh => exact State.authenticate_of_fresh sec (hgood h) hw
    case fell => exact fun hc => State.authenticate_of_stale sec (hgood h) hw hc.le (.inl hc)
    case replay => exact fun rsp hc hm => State.authenticate_of_replayed sec (hgood h) hw hc hm
    case other => exact fun hc hm => State.authenticate_of_stale sec (hgood h) hw hc.le (.inr hm)
  case failures =>
    intro s tr slot hseen _ hfails htr c old
    refine ⟨fun hn => ?limited, State.authFailed_of_counted s tr slot hseen, State.authFailed_of_uncounted s tr slot hseen⟩
    obtain ⟨hlimit, hafresh⟩ := State.authFailed_limits s tr slot hseen hn
    refine ⟨hlimit, ?_, State.authFailed_of_limit s tr slot hseen hn⟩
    rw [hafresh, lget_lset_same _ _ _ _ (by omega)]
  case limitEnd =>
    intro t tr e s a htr he hn
    rw [exec_rateLimitEnd_eq, if_pos htr, rateLimitEndEff_of_over he hn]

/-! ### The replay of R439 -/

theorem State.onOpcode_of_replay {a b : State} {op : Nat} {f : CmdReq → State → CmdRes} {q : CmdReq} {rest : List CmdReq} {row : OpRow}
    {bs : List Nat} (hq : a.cmd.svc = q :: rest) (hop : q.op = op) (hrow : opRow op = some row) (hmode : a.cmd.modeWait = none)
    (href : a.refLost = false) (hauth : byteAt q.frame 2 % 2 = 1)
    (hans : { a with cmd := { a.cmd with svc := rest } }.authenticate q
      ({ a with cmd := { a.cmd with svc := rest } }.critOf q row.crit).2 = (.replay bs, b)) :
    a.onOpcode op f = b.sendRsp q.tr q.xid q.src bs := by
  have hgo : (q.op != op || a.cmd.modeWait.isSome || a.refLost) = false := by simp [hop, hmode, href]
  simp only [State.onOpcode, hq, hrow, hgo, bitN_zero_eq, hauth, hans, decide_true, Bool.or_true, if_true, Bool.false_eq_true, if_false]

theorem State.stepTwo_cache (s : State) (hdrs : List ImgHdr) (octal trngOk hold : Bool) :
    (s.stepTwo hdrs octal trngOk hold).sec.cache = s.sec.cache := by
  simp [State.stepTwo, ↓apply_ite State.sec, State.startSlot_frame, State.raise_frame, State.sysUpd_frame]

theorem restartTakeEff_cache {s : State} {r : RestartReq} (hdrs : List ImgHdr) (octal trngOk hold : Bool)
    (hreq : s.sys.restart = some r) (hpor : s.sys.por = false) (href : s.sys.refPresent = true) (hstay : s.safeTillPor = false) :
    (restartTakeEff hdrs octal trngOk hold s).sec.cache = resetSec.cache := by
  simp [restartTakeEff, hreq, hpor, href, hstay, State.stepTwo_cache, State.startRecord_frame, State.chooseSlot_frame, State.setTrp_frame,
    State.restarted, State.cleared]

/-- Settles O54: the cases of authentication whose counter does not exceed the last, and a start with an empty cache. -/
theorem counterReplay : Obligations.CounterReplay := by
  refine ⟨?checks, fun _ _ _ _ _ _ _ _ => State.onOpcode_of_replay, ?restart⟩
  case checks =>
    intro s q sec slot k n ctr last world v hfree hauth hactive htag hw hle
    have hgood : s.TagHolds q := ⟨hfree, hauth, hactive, htag⟩
    exact ⟨fun rsp hc hm => State.authenticate_of_replayed sec hgood hw hc hm, State.authenticate_of_stale sec hgood hw hle⟩
  case restart =>
    intro t slot hdrs r octal trngOk hold s a hreq hpor href hstay
    refine ⟨_, exec_restartTake .., ?_⟩
    rw [restartTakeEff_cache hdrs octal trngOk hold hreq hpor href hstay]
    exact lget_replicate_default none 8 slot

end Sys2Proof.Machine

/-!
What rows 8 and 9 of R450 refuse, whatever the opcode (R451), and what a response leaves behind (R448, R449, R437).
-/
namespace Sys2Proof.Machine

/-! ### Rows 8 and 9 -/

/-- Rows 8 to 11 are run on a request that needs no authentication and carries none, or that authentication verified. -/
theorem State.onOpcode_of_passed {a b : State} {op : Nat} {f : CmdReq → State → CmdRes} {q v : CmdReq} {rest : List CmdReq} {row : OpRow}
    (hq : a.cmd.svc = q :: rest) (hop : q.op = op) (hrow : opRow op = some row) (hmode : a.cmd.modeWait = none) (href : a.refLost = false)
    (hauth : let c : State := { a with cmd := { a.cmd with svc := rest } }
      let need := c.critOf q row.crit
      (need.1 = false ∧ byteAt q.frame 2 % 2 = 0 ∧ v = q ∧ b = c) ∨
        ((need.1 = true ∨ byteAt q.frame 2 % 2 = 1) ∧ c.authenticate q need.2 = (.run v, b))) :
    a.onOpcode op f = b.runReq v row f := by
  have hgo : (q.op != op || a.cmd.modeWait.isSome || a.refLost) = false := by simp [hop, hmode, href]
  simp only [State.onOpcode, hq, hrow, hgo, bitN_zero_eq, Bool.false_eq_true, if_false]
  rcases hauth with ⟨hneed, hflag, rfl, rfl⟩ | ⟨hneed, hrun⟩
  · rw [if_neg (by simp [hneed, hflag])]
  · rw [if_pos (by simpa using hneed), hrun]

theorem State.runReq_of_length {b : State} {v : CmdReq} {row : OpRow} (f : CmdReq → State → CmdRes)
    (h : v.payload.length < row.lo ∨ row.hi < v.payload.length) : b.runReq v row f = b.respond v .lenRange 0 [] := by
  simp [State.runReq, h]

theorem State.runReq_of_mode {b : State} {v : CmdReq} {row : OpRow} (f : CmdReq → State → CmdRes) (hlo : row.lo ≤ v.payload.length)
    (hhi : v.payload.length ≤ row.hi) (h : b.modeAllows v = false) : b.runReq v row f = b.respond v .stateDenied 0 [] := by
  simp [State.runReq, Nat.not_lt.mpr hlo, Nat.not_lt.mpr hhi, h]

/-- Every opcode's command runs rows 8 and 9 before its own rows. -/
theorem RefusedByRow.of_onOpcode {ins : Nat → Instr} {op : Nat} {f : CmdReq → State → CmdRes}
    (hrun : ∀ t s, exec (ins t) s = .next ((s.at t).onOpcode op f)) : RefusedByRow ins op := by
  intro t s q v rest row b a c need hq hop hrow hmode href hauth
  have hpassed : exec (ins t) s = .next (b.runReq v row f) := by rw [hrun, State.onOpcode_of_passed hq hop hrow hmode href hauth]
  exact ⟨fun hlen => by rw [hpassed, State.runReq_of_length f hlen],
    fun hlo hhi hno => by rw [hpassed, State.runReq_of_mode f hlo hhi hno]⟩

theorem exec_cmdKeyRotate_eq (t nonce : Nat) (s : State) :
    exec (.cmdKeyRotate t nonce) s = .next (if nonce < 2 ^ 128 then cmdKeyRotateEff nonce (s.at t) else s.at t) := by
  simp [exec_cmdKeyRotate]

theorem exec_cmdFlashRead_eq (t : Nat) (data : List Nat) (s : State) : exec (.cmdFlashRead t data) s = .next
    (if data.all (fun b => decide (b < 256)) = true then cmdFlashReadEff data (s.at t) else s.at t) :=
  exec_cmdFlashRead t data s

/-! ### The opcodes a mode allows (R451) -/

theorem State.modeAllows_of_protecting {s : State} (q : CmdReq) (h : s.mode = .run ∨ s.mode = .test) : s.modeAllows q = true := by
  rcases h with h | h <;> simp [State.modeAllows, h]

theorem State.modeAllows_safe {s : State} (q : CmdReq) (h : s.mode = .safe) : s.modeAllows q = true ↔ q.op ∈ safeOps := by
  simp [State.modeAllows, h]

theorem State.modeAllows_boot {s : State} (q : CmdReq) (h : s.mode = .boot) :
    s.modeAllows q = true ↔ q.op = 0x0101 ∨ s.sys.held = true ∧ q.tr = 0 ∧ (q.op = 0x0701 ∨ q.op = 0x0705) := by
  simp [State.modeAllows, h, and_assoc]

/-! ### What a response leaves -/

theorem State.getF_setFlag_apart {s : State} {f g : Field} (hf : f.Fits) (h : g.Apart f) (v : Bool) :
    (s.setFlag f v).getF g = s.getF g :=
  State.getF_setF_apart hf h _

/-- R461: what the mailbox shows of a response. -/
theorem State.mailRsp_stat (s : State) (bs : List Nat) : (s.mailRsp bs).flag CMD_STAT_BUSY = false ∧
    (s.mailRsp bs).flag CMD_STAT_RDY = true ∧ (s.mailRsp bs).getF CMD_STAT_RLEN = (bs.length + 3) / 4 % 65536 := by
  have hbusy : CMD_STAT_BUSY.Fits ∧ CMD_STAT_BUSY.Apart CMD_STAT_RDY ∧ CMD_STAT_RLEN.Apart CMD_STAT_BUSY := by
    simp [Field.Fits, Field.Apart, CMD_STAT_BUSY, CMD_STAT_RDY, CMD_STAT_RLEN]
  have hrdy : CMD_STAT_RDY.Fits ∧ CMD_STAT_RLEN.Apart CMD_STAT_RDY := by
    simp [Field.Fits, Field.Apart, CMD_STAT_RDY, CMD_STAT_RLEN]
  obtain ⟨hbusyFits, hbusyRdy, hrlenBusy⟩ := hbusy
  obtain ⟨hrdyFits, hrlenRdy⟩ := hrdy
  refine ⟨?_, State.flag_setFlag_same _ _ _ (by decide) rfl, ?_⟩
  · rw [State.mailRsp, State.flag_setFlag_apart hrdyFits hbusyRdy, State.flag_setFlag_same _ _ _ (by decide) rfl]
  · rw [State.mailRsp, State.getF_setFlag_apart hrdyFits hrlenRdy, State.getF_setFlag_apart hbusyFits hrlenBusy,
      State.getF_setF_same _ _ _ (by decide)]
    rfl

theorem State.respond_of_untagged {s : State} {q : CmdReq} (st : Status) (d : Nat) (out : List Nat) (hq : q.auth = none)
    (htr : q.tr = 0) : s.respond q st d out = (s.incWrap CMD_CNT_CMDS).mailRsp (plainRsp q.op q.seq st d out) := by
  simp [State.respond, CmdReq.rsp, State.retireLast, State.sendRsp, hq, htr]

theorem State.respond_of_tagged {s : State} {q : CmdReq} {slot ctr : Nat} (st : Status) (d : Nat) (out : List Nat)
    (hq : q.auth = some (slot, ctr)) (hctr : ctr ≠ 0xFFFFFFFFFFFFFFFF) : s.respond q st d out =
      ({ s with sec := { s.sec with
          cache := lset s.sec.cache slot (some (q.frame, taggedRsp q.key q.op slot ctr q.seq st d out)) } }).sendRsp q.tr q.xid q.src
        (taggedRsp q.key q.op slot ctr q.seq st d out) := by
  simp [State.respond, CmdReq.rsp, State.retireLast, hq, hctr]

/-- Settles O39: a row's refusal comes before the opcode's own rows; a response writes the mailbox, or the cache of its slot. -/
theorem refusalsAndResponses : Obligations.RefusalsAndResponses := by
  refine ⟨⟨
    .of_onOpcode exec_cmdStatus, .of_onOpcode exec_cmdRegRead, .of_onOpcode exec_cmdRegWrite, .of_onOpcode exec_cmdRestart,
    .of_onOpcode exec_cmdSafe, .of_onOpcode exec_cmdResultRead, .of_onOpcode exec_cmdModeSet, .of_onOpcode exec_cmdOutputForce,
    .of_onOpcode exec_cmdTripReset, .of_onOpcode exec_cmdSettingWrite, .of_onOpcode exec_cmdGroupSelect, .of_onOpcode
    exec_cmdDebugUnlock, .of_onOpcode exec_cmdDebugLock, .of_onOpcode exec_cmdBkrSelect, .of_onOpcode exec_cmdBkrOperate,
    .of_onOpcode exec_cmdBkrCancel, .of_onOpcode exec_cmdBkrStatus, .of_onOpcode exec_cmdRecArm, .of_onOpcode exec_cmdRecDisarm,
    .of_onOpcode exec_cmdRecTrig, .of_onOpcode exec_cmdRecApply, .of_onOpcode exec_cmdRecRelease, .of_onOpcode exec_cmdLogicRun,
    .of_onOpcode exec_cmdLogicStop, .of_onOpcode exec_cmdLogicHold, .of_onOpcode exec_cmdLogicResume, .of_onOpcode
    exec_cmdLogicStep, .of_onOpcode exec_cmdLogicSplit, .of_onOpcode exec_cmdLogicJoin, .of_onOpcode exec_cmdLogicExchange,
    .of_onOpcode exec_cmdTimeSet, .of_onOpcode exec_cmdTimeAcceptStep, .of_onOpcode exec_cmdKeyInit, .of_onOpcode
    exec_cmdKeyRetire, .of_onOpcode exec_cmdWorldSet, .of_onOpcode exec_cmdOtpProgram, .of_onOpcode exec_cmdOtpRevoke,
    .of_onOpcode exec_cmdFlashErase, .of_onOpcode exec_cmdFlashProgram, .of_onOpcode exec_cmdFlashSlot, .of_onOpcode
    exec_cmdEvtRead, .of_onOpcode exec_cmdEvtAck, .of_onOpcode exec_cmdPairHandover,
    fun n hn => .of_onOpcode fun t s => (exec_cmdKeyRotate_eq t n s).trans (congrArg _ (if_pos hn)),
    fun d hd => .of_onOpcode fun t s => (exec_cmdFlashRead_eq t d s).trans (congrArg _ (if_pos (by simpa using hd))),
    fun s q => ⟨State.modeAllows_of_protecting q, State.modeAllows_safe q, State.modeAllows_boot q⟩, ?timeSet, ?mailbox, ?cached⟩,
    exec_cmdStatus, exec_cmdRegRead, exec_cmdRegWrite, exec_cmdRestart, exec_cmdSafe, exec_cmdResultRead, exec_cmdModeSet,
    exec_cmdOutputForce, exec_cmdTripReset, exec_cmdSettingWrite, exec_cmdGroupSelect, exec_cmdDebugUnlock, exec_cmdDebugLock,
    exec_cmdPairHandover, exec_cmdBkrSelect, exec_cmdBkrOperate, exec_cmdBkrCancel, exec_cmdBkrStatus, exec_cmdRecArm,
    exec_cmdRecDisarm, exec_cmdRecTrig, exec_cmdRecApply, exec_cmdRecRelease, exec_cmdLogicRun, exec_cmdLogicStop,
    exec_cmdLogicHold, exec_cmdLogicResume, exec_cmdLogicStep, exec_cmdLogicSplit, exec_cmdLogicJoin, exec_cmdLogicExchange,
    exec_cmdTimeSet, exec_cmdTimeAcceptStep, exec_cmdKeyInit, exec_cmdKeyRotate_eq, exec_cmdKeyRetire, exec_cmdWorldSet,
    exec_cmdOtpProgram, exec_cmdOtpRevoke, exec_cmdFlashRead_eq, exec_cmdFlashErase, exec_cmdFlashProgram, exec_cmdFlashSlot,
    exec_cmdEvtRead, exec_cmdEvtAck⟩
  case timeSet =>
    intro t s q rest row a c hq hop hrow hmode href v b hauth
    obtain rfl : row = ⟨.yes, 16, 16⟩ := by
      rw [hop] at hrow
      exact (Option.some.inj hrow).symm
    have hrefused : RefusedByRow .cmdTimeSet 0x0601 := .of_onOpcode exec_cmdTimeSet
    obtain ⟨hlen, hno⟩ := hrefused t s q v rest ⟨.yes, 16, 16⟩ b hq hop (hop ▸ hrow) hmode href (.inr ⟨.inl rfl, hauth⟩)
    have hdenied : v.payload.length = 16 → b.modeAllows v = false → exec (.cmdTimeSet t) s = .next (b.respond v .stateDenied 0 []) :=
      fun h => hno h.ge h.le
    refine ⟨fun h => hlen (by show _ < 16 ∨ 16 < _; omega), fun h hm hv => hdenied h ?safe, fun h hm hv => hdenied h ?boot⟩
    case safe => simp [State.modeAllows, hm, hv, safeOps]
    case boot => simp [State.modeAllows, hm, hv]
  case mailbox =>
    intro s q st d out hq htr hout bs
    have hbs : bs.length = 16 + out.length := length_plainRsp q.op q.seq st d out
    obtain ⟨hbusy, hrdy, hrlen⟩ := (s.incWrap CMD_CNT_CMDS).mailRsp_stat bs
    have hmail : s.respond q st d out = (s.incWrap CMD_CNT_CMDS).mailRsp bs := State.respond_of_untagged st d out hq htr
    rw [hmail]
    refine ⟨rfl, hbusy, hrdy, by omega, ?_⟩
    simp [State.mailRsp_frame, State.incWrap_frame]
  case cached =>
    intro s q st d slot ctr out hq hctr hslot m
    rw [State.respond_of_tagged st d out hq hctr]
    simp only [State.sendRsp_frame, and_self, and_true]
    exact lget_lset_same _ _ _ _ hslot

end Sys2Proof.Machine

/-!
Reception (R446, R447, rows 2 to 6 of R450): the doorbell, the fragments of port C, and the frame that is refused or queued.
-/
namespace Sys2Proof.Machine

/-! ### The doorbell (R446) -/

theorem State.cmdDbW_of_free {s : State} (halive : s.trAlive 0 = true) (h : s.flag CMD_STAT_BUSY = false) :
    State.cmdDbW 1 s = (.ok, (s.setFlag CMD_STAT_BUSY true).receiveFrame 0 0 0 s.mailBytes) := by
  simp [State.cmdDbW, bitN_zero_eq, halive, h]

theorem State.cmdDbW_of_busy {s : State} (halive : s.trAlive 0 = true) (h : s.flag CMD_STAT_BUSY = true) :
    State.cmdDbW 1 s = (.ok, s.setFlag CMD_STAT_DB_BUSY true) := by
  simp [State.cmdDbW, bitN_zero_eq, halive, h]

theorem exec_doorbell_eq (t : Nat) (r : Requester) (s : State) :
    exec (.doorbell t r) s = .next (if (s.at t).trAlive (reqIdx r) = true then doorbellEff r (s.at t) else s.at t) :=
  exec_doorbell t r s

/-! ### Fragments (R447) -/

/-- No reassembly is in progress. -/
def State.noReasm (s : State) : State := { s with cmd := { s.cmd with reasm := none } }

theorem State.fragOff_eq (s : State) : s.fragOff = s.noReasm.incSat CMD_ECNT_FRAGTO := rfl

theorem State.fragLate_of_none {s : State} (h : s.cmd.reasm = none) : s.fragLate = false := by
  simp [State.fragLate, h]

theorem State.fragLate_of_some {s : State} {r : Reasm} (h : s.cmd.reasm = some r) : s.fragLate = decide (r.from_ + fragTime < s.now) := by
  simp [State.fragLate, h]

theorem fragmentTimeoutEff_of_late {s : State} {r : Reasm} (h : s.cmd.reasm = some r) (hlate : r.from_ + fragTime < s.now) :
    fragmentTimeoutEff s = s.fragOff := by
  simp [fragmentTimeoutEff, State.fragLate_of_some h, hlate]

theorem State.fragment_of_whole {s : State} (src xid : Nat) {d : List Nat} (h : s.cmd.reasm = none) (hd : 16 ≤ d.length) :
    s.fragment src 0 1 xid d = s.noReasm.receiveFrame 1 xid src d := by
  simp [State.fragment, h, Nat.not_lt.mpr hd, State.noReasm]

theorem State.fragment_of_first {s : State} (src xid : Nat) {n : Nat} {d : List Nat} (h : s.cmd.reasm = none) (hn : n = 2 ∨ n = 3)
    (hd : d.length = fragMax) :
    s.fragment src 0 n xid d = { s with cmd := { s.cmd with reasm := some ⟨xid, n, 1, d, s.now⟩ } } := by
  rcases hn with rfl | rfl <;> simp [State.fragment, h, hd]

theorem State.fragment_of_last {s : State} (src xid : Nat) {r : Reasm} {d : List Nat} (h : s.cmd.reasm = some r)
    (hn : r.next + 1 = r.n) (hlen : 16 ≤ r.bytes.length) :
    s.fragment src r.next r.n xid d = s.noReasm.receiveFrame 1 xid src (r.bytes ++ d) := by
  have hlong : ¬ r.bytes.length + d.length < 16 := by omega
  simp [State.fragment, h, hn, hlong, State.noReasm]

theorem State.fragment_of_disorder {s : State} (src xid : Nat) {r : Reasm} {frag : Nat} (n : Nat) (d : List Nat)
    (h : s.cmd.reasm = some r) (hn : r.next ≠ frag) : s.fragment src frag n xid d = s.fragOff := by
  simp [State.fragment, h, hn.symm]

/-- The reassembly a fragment of `xid` finds: one out of time or under another XID is abandoned first. -/
def State.reasmFor (s : State) (xid : Nat) : State :=
  let s := if s.fragLate then s.fragOff else s
  match s.cmd.reasm with
  | some r => if r.xid = xid then s else s.fragOff
  | none => s

/-- R447: an untagged payload of EtherType 0x88B5 addressed to the engine, with its four leading bytes. -/
theorem cmdFragmentEff_of_addressed {s : State} (src frag n x0 x1 : Nat) {d : List Nat} (hx0 : x0 < 256) (hx1 : x1 < 256)
    (halive : s.trAlive 1 = true) (hen : s.flag (NET_PCFG_EN 2) = true) (hd : d.length ≤ fragMax) :
    cmdFragmentEff 2 (s.getF NET_MAC_LO_MACL + 4294967296 * s.getF NET_MAC_HI_MACH) src (frag :: n :: x0 :: x1 :: d) s =
      (s.reasmFor (x0 + 256 * x1)).fragment src frag n (x0 + 256 * x1) d := by
  have hlong : ¬ d.length + 1 + 1 + 1 + 1 < 4 := by omega
  simp [cmdFragmentEff, halive, hen, leAt, ofLe, byteAt, lget, List.take_of_length_le hd, hlong, Nat.mod_eq_of_lt hx0, Nat.mod_eq_of_lt hx1]
  rfl

theorem exec_cmdFragment_eq (t p dst src : Nat) (bytes : List Nat) (s : State) : exec (.cmdFragment t p dst src bytes) s = .next
    (if p < 3 ∧ dst < 2 ^ 48 ∧ src < 2 ^ 48 ∧ bytes.all (fun b => decide (b < 256)) = true then cmdFragmentEff p dst src bytes (s.at t)
      else s.at t) := by
  simp [exec_cmdFragment, and_assoc]

theorem State.reasmFor_of_none {s : State} (xid : Nat) (h : s.cmd.reasm = none) : s.reasmFor xid = s := by
  simp [State.reasmFor, State.fragLate_of_none h, h]

theorem State.reasmFor_of_same {s : State} {r : Reasm} (h : s.cmd.reasm = some r) (hin : s.now ≤ r.from_ + fragTime) :
    s.reasmFor r.xid = s := by
  simp [State.reasmFor, State.fragLate_of_some h, Nat.not_lt.mpr hin, h]

theorem State.reasmFor_of_other {s : State} {r : Reasm} {xid : Nat} (h : s.cmd.reasm = some r) (hin : s.now ≤ r.from_ + fragTime)
    (hx : r.xid ≠ xid) : s.reasmFor xid = s.fragOff := by
  simp [State.reasmFor, State.fragLate_of_some h, Nat.not_lt.mpr hin, h, hx]

/-! ### Rows 2 to 6 of R450 -/

theorem State.frameCheck_of_long (s : State) (tr : Nat) {bs : List Nat} (h : 4096 < leAt bs 4 4) : s.frameCheck tr bs = some .lenRange := by
  simp [State.frameCheck, h]

theorem State.frameCheck_of_value (s : State) (tr : Nat) {bs : List Nat} (hlen : leAt bs 4 4 ≤ 4096)
    (h : leAt bs 12 4 ≠ 0 ∨ 16 ≤ leAt bs 2 2) : s.frameCheck tr bs = some .valueRange := by
  simp [State.frameCheck, Nat.not_lt.mpr hlen, h]

/-- Rows 2 to 4 pass a frame. -/
structure FrameFits (bs : List Nat) : Prop where
  len : leAt bs 4 4 ≤ 4096
  zero : leAt bs 12 4 = 0
  flags : leAt bs 2 2 < 16
  whole : frameLen bs ≤ bs.length

theorem State.frameCheck_of_fits (s : State) (tr : Nat) {bs : List Nat} (h : FrameFits bs) : s.frameCheck tr bs =
    if (opRow (leAt bs 0 2)).isNone then some .unknownOpcode else if tr = 1 && s.portCBusy then some .resourceBusy else none := by
  simp [State.frameCheck, Nat.not_lt.mpr h.len, h.zero, Nat.not_le.mpr h.flags, Nat.not_lt.mpr h.whole]

theorem State.frameCheck_of_unknown (s : State) (tr : Nat) {bs : List Nat} (h : FrameFits bs) (hop : opRow (leAt bs 0 2) = none) :
    s.frameCheck tr bs = some .unknownOpcode := by
  rw [s.frameCheck_of_fits tr h, hop]
  rfl

theorem State.frameCheck_of_busy {s : State} {tr : Nat} {bs : List Nat} (h : FrameFits bs) (hop : opRow (leAt bs 0 2) ≠ none)
    (htr : tr = 1) (hbusy : s.portCBusy = true) : s.frameCheck tr bs = some .resourceBusy := by
  rw [s.frameCheck_of_fits tr h]
  simp [hop, htr, hbusy]

theorem State.frameCheck_of_passed {s : State} {tr : Nat} {bs : List Nat} (h : FrameFits bs) (hop : opRow (leAt bs 0 2) ≠ none)
    (hfree : tr = 0 ∨ s.portCBusy = false) : s.frameCheck tr bs = none := by
  rw [s.frameCheck_of_fits tr h]
  rcases hfree with hfree | hfree <;> simp [hop, hfree]

/-- The untagged refusal of a received frame, counted in REFUSED. -/
def State.refuseFrame (s : State) (tr xid src : Nat) (bs : List Nat) (st : Status) : State :=
  (s.incSat CMD_CNT_REFUSED).sendRsp tr xid src (rspHdr (leAt bs 0 2) 0x4000 0 (leAt bs 8 4) st 0)

theorem State.receiveFrame_of_refused {s : State} {tr : Nat} {bs : List Nat} {st : Status} (xid src : Nat)
    (h : s.frameCheck tr bs = some st) (hst : st ≠ .resourceBusy) : s.receiveFrame tr xid src bs = s.refuseFrame tr xid src bs st := by
  simp [State.receiveFrame, h, hst, State.refuseFrame, plainRsp]

theorem State.receiveFrame_of_busy {s : State} {tr : Nat} {bs : List Nat} (xid src : Nat)
    (h : s.frameCheck tr bs = some .resourceBusy) :
    s.receiveFrame tr xid src bs = (s.incSat CMD_ECNT_BUSY).refuseFrame tr xid src bs .resourceBusy := by
  simp [State.receiveFrame, h, State.refuseFrame, plainRsp]

/-- The request a frame is. -/
def reqOfFrame (tr xid src : Nat) (bs : List Nat) : CmdReq :=
  ⟨tr, leAt bs 0 2, leAt bs 8 4,
    ((bs.take (frameLen bs)).drop (if bitN (byteAt bs 2) 0 then 24 else 16)).take (leAt bs 4 4),
    bs.take (frameLen bs), xid, src, none, [], false⟩

theorem State.receiveFrame_of_passed {s : State} {tr : Nat} {bs : List Nat} (xid src : Nat) (h : s.frameCheck tr bs = none) :
    s.receiveFrame tr xid src bs = s.queueReq (reqOfFrame tr xid src bs) := by
  simp [State.receiveFrame, h, reqOfFrame]

theorem length_payload_reqOfFrame (tr xid src : Nat) {bs : List Nat} (h : FrameFits bs) :
    (reqOfFrame tr xid src bs).payload.length = leAt bs 4 4 := by
  have hwhole := h.whole
  unfold frameLen at hwhole
  simp only [reqOfFrame, List.length_take, List.length_drop, frameLen]
  split <;> simp_all

/-! ### The order of requests -/

theorem State.queueReq_of_last {s : State} {q : CmdReq} (h : q.tr ≠ 0 ∨ s.cmd.recvC ≠ s.now) : s.queueReq q =
    { s with cmd := { s.cmd with svc := s.cmd.svc ++ [q], recvC := if q.tr = 1 then s.now else s.cmd.recvC } } := by
  have htie : (q.tr = 0 && s.cmd.recvC = s.now : Bool) = false := by rcases h with h | h <;> simp [h]
  simp [State.queueReq, htie]

theorem State.queueReq_of_tie {s : State} {q : CmdReq} (htr : q.tr = 0) (h : s.cmd.recvC = s.now) : s.queueReq q =
    { s with cmd := { s.cmd with svc := s.cmd.svc.filter (fun x => x.tr != 1) ++ q :: s.cmd.svc.filter (fun x => x.tr = 1) } } := by
  simp [State.queueReq, htr, h]

/-- Settles O37: the doorbell and each kind of fragment are one lemma each, as are the rows of a received frame. -/
theorem commandReception : Obligations.CommandReception := by
  refine ⟨?doorbell, ?fragment, ?timeout, ?rows, fun s q => ⟨State.queueReq_of_last, State.queueReq_of_tie⟩, exec_doorbell_eq,
    exec_cmdFragment_eq, exec_fragmentTimeout⟩
  case doorbell =>
    intro t r s a hr halive hjudge
    exact ⟨fun hfree => exec_of_guard (exec_doorbell_eq t r s) hr (State.hostWrite_of_ok hjudge (State.cmdDbW_of_free halive hfree)),
      fun hbusy => exec_of_guard (exec_doorbell_eq t r s) hr (State.hostWrite_of_ok hjudge (State.cmdDbW_of_busy halive hbusy))⟩
  case fragment =>
    intro t src frag n x0 x1 d s a xid dst go off halive hen hdst hsrc hfrag hn hx0 hx1 hd hbytes
    have hrow : 2 < 3 ∧ dst < 2 ^ 48 ∧ src < 2 ^ 48 ∧ (frag :: n :: x0 :: x1 :: d).all (fun b => decide (b < 256)) = true :=
      ⟨by decide, hdst, hsrc, by simpa [hfrag, hn, hx0, hx1] using hbytes⟩
    have hgo : go = .next ((a.reasmFor xid).fragment src frag n xid d) :=
      exec_of_guard (exec_cmdFragment_eq t 2 dst src _ s) hrow (cmdFragmentEff_of_addressed src frag n x0 x1 hx0 hx1 halive hen hd)
    rw [hgo]
    refine ⟨fun h hfrag hn hlen => ?whole, fun h hfrag hn hlen => ?first, fun r h hin hx hnext hn hlast hlen => ?last,
      fun r h hin hx hnext => ?disorder, fun r h hin hx hfrag hn hlen => ?other⟩
    case whole => rw [State.reasmFor_of_none _ h, hfrag, hn, State.fragment_of_whole src xid h hlen]; rfl
    case first => rw [State.reasmFor_of_none _ h, hfrag, State.fragment_of_first src xid h hn hlen]
    case last =>
      subst hnext hn
      rw [← hx, State.reasmFor_of_same h hin, State.fragment_of_last src r.xid h hlast hlen]; rfl
    case disorder => rw [← hx, State.reasmFor_of_same h hin, State.fragment_of_disorder src r.xid n d h hnext]; rfl
    case other => rw [State.reasmFor_of_other h hin hx, hfrag, hn, State.fragment_of_whole src xid rfl hlen]; rfl
  case timeout =>
    intro t r s a h hlate
    exact exec_of_eq (exec_fragmentTimeout t s) (fragmentTimeoutEff_of_late h hlate)
  case rows =>
    intro s tr xid src bs op seq refuse
    refine ⟨fun hlen => ?_, fun hlen hval => ?_, fun hlen hzero hflags hwhole => ?_⟩
    · exact State.receiveFrame_of_refused xid src (s.frameCheck_of_long tr hlen) nofun
    · exact State.receiveFrame_of_refused xid src (s.frameCheck_of_value tr hlen hval) nofun
    · have hfits : FrameFits bs := ⟨hlen, hzero, hflags, hwhole⟩
      exact ⟨fun hop => State.receiveFrame_of_refused xid src (s.frameCheck_of_unknown tr hfits hop) nofun,
        fun hop htr hbusy => State.receiveFrame_of_busy xid src (State.frameCheck_of_busy hfits hop htr hbusy),
        fun hop hfree => ⟨reqOfFrame tr xid src bs, State.receiveFrame_of_passed xid src (State.frameCheck_of_passed hfits hop hfree),
          rfl, rfl, rfl, length_payload_reqOfFrame tr xid src hfits, rfl, rfl⟩⟩

end Sys2Proof.Machine

/-!
Host accesses of registers (R431, R481, R487): what reading and writing a word come to once its address is known and its window allows the
requester. The event queues, the log and the sampling base (R470 to R472, R346) follow as accesses of theirs.
-/
namespace Sys2Proof.Machine

/-! ### An allowed access of a register -/

/-- A register write whose effect is kept is one that the register itself answers. -/
theorem State.writeWord_of_reg {a : Nat} {f : RegFam} {i j : Nat} (s : State) (r : Requester) (v : Nat) (ha : a < 0x200000)
    (hreg : regAt a = some (f, i, j)) (hname : f.name ≠ .REC_CCTL ∧ f.name ≠ .REC_WSEL ∧ f.name ≠ .REC_REL) :
    s.writeWord r a v = s.hostWrite r a (State.regWrite r f i j a v) := by
  obtain ⟨hcctl, hwsel, hrel⟩ := hname
  simp [State.writeWord, ha, hreg, hcctl, hwsel, hrel]

theorem State.readWord_of_allowed {s : State} {r : Requester} {a : Nat} (ha : a < 0x200000) (h : s.judge r a = .allowed) :
    s.readWord r a = s.readReg r a := by
  simp [State.readWord, ha, State.hostRead_of_allowed h]

/-- R487: a capture word takes its whole quantity. -/
theorem State.readReg_of_capture {s : State} {r : Requester} {a : Nat} {f : RegFam} {i j c n : Nat} (hreg : regAt a = some (f, i, j))
    (hcap : capOf f.name i j = some (c, n, 0)) (hlog : f.name = .EVT_LDATA → s.logSecure = false ∨ s.reqSecure r = true)
    (haux : f.name ≠ .AUX_QDATA_LO) :
    s.readReg r a = (lget 0 ((upto n).map (fun k => s.liveAt r (c + 4 * k))) 0,
      s.capture r c ((upto n).map (fun k => s.liveAt r (c + 4 * k)))) := by
  have hopen : (decide (f.name = .EVT_LDATA) && s.logSecure && !s.reqSecure r) = false := by
    by_cases hname : f.name = .EVT_LDATA
    · rcases hlog hname with h | h <;> simp [h]
    · simp [hname]
  simp only [State.readReg, hreg, hopen, hcap, haux, bne_self_eq_false, Bool.false_eq_true, if_false]

theorem State.liveAt_of_reg {a : Nat} {f : RegFam} {i j : Nat} (s : State) (r : Requester) (hreg : regAt a = some (f, i, j)) :
    s.liveAt r a = s.live r f i j a := by
  simp [State.liveAt, hreg]

/-! ### The event queues (R470, R477) -/

/-- The families of EVT_QDATA, EVT_QACK, EVT_LDATA and TIM_SAMP. -/
def famQData : RegFam := ⟨.EVT_QDATA, 0x1a0020, 2, 0x8000, 8, 0x4, 0x0, 0x0, 0x0, 0x0, 0x0, 0x0, 0x0, 0x0, 0x0⟩

@[inherit_doc famQData]
def famQAck : RegFam := ⟨.EVT_QACK, 0x1a0008, 2, 0x8000, 1, 0x0, 0x0, 0x0, 0x0, 0x0, 0x1fff, 0x0, 0x0, 0x0, 0x0⟩

@[inherit_doc famQData]
def famLData : RegFam := ⟨.EVT_LDATA, 0x1a0140, 8, 0x4, 1, 0x0, 0x0, 0x0, 0x0, 0x0, 0x0, 0x0, 0x0, 0x0, 0x0⟩

@[inherit_doc famQData]
def famSamp : RegFam := ⟨.TIM_SAMP, 0x120400, 1, 0x0, 1, 0x0, 0x3, 0x4, 0x0, 0x0, 0x0, 0x0, 0x0, 0x7, 0x0⟩

theorem regAt_EVT_QDATA : ∀ q < 2, ∀ k < 8, regAt (EVT_QDATA q k) = some (famQData, q, k) := by decide

theorem regAt_EVT_QACK : ∀ q < 2, regAt (EVT_QACK q) = some (famQAck, q, 0) := by decide

theorem regAt_EVT_LDATA : ∀ k < 8, regAt (EVT_LDATA k) = some (famLData, k, 0) := by decide

theorem regAt_TIM_SAMP : regAt TIM_SAMP = some (famSamp, 0, 0) := by decide

theorem State.liveAt_EVT_QDATA (s : State) (r : Requester) {q k : Nat} (hq : q < 2) (hk : k < 8) :
    s.liveAt r (EVT_QDATA q 0 + 4 * k) = s.qWord q k := by
  have haddr : EVT_QDATA q 0 + 4 * k = EVT_QDATA q k := by simp [EVT_QDATA]
  rw [haddr, State.liveAt_of_reg s r (regAt_EVT_QDATA q hq k hk)]
  rfl

theorem evtQdataCaptureEff_eq {s : State} {r : Requester} {q : Nat} (hq : q < 2) (hjudge : s.judge r (EVT_QDATA q 0) = .allowed) :
    evtQdataCaptureEff r q s = (s.capture r (EVT_QDATA q 0) ((upto 8).map (s.qWord q))).readOut [s.qWord q 0] := by
  have haddr : EVT_QDATA q 0 < 0x200000 := by simp only [EVT_QDATA]; omega
  have hwords : (upto 8).map (fun k => s.liveAt r (EVT_QDATA q 0 + 4 * k)) = (upto 8).map (s.qWord q) :=
    List.map_congr_left fun k hk => s.liveAt_EVT_QDATA r hq (List.mem_range.mp hk)
  have hread := State.readReg_of_capture (s := s) (r := r) (regAt_EVT_QDATA q hq 0 (by decide)) (c := EVT_QDATA q 0) (n := 8) rfl nofun nofun
  simp only [evtQdataCaptureEff, State.readWord_of_allowed haddr hjudge, hread, hwords]
  rfl

theorem State.qWord_of_empty {s : State} {q : Nat} (h : s.queue q = []) : s.qWord q = fun _ => 0 := by
  funext k
  simp [State.qWord, h]

theorem State.qWord_of_cons {s : State} {q : Nat} {e : EvtEntry} {es : List EvtEntry} (h : s.queue q = e :: es) :
    s.qWord q = lget 0 (entryWords false e) := by
  funext k
  simp [State.qWord, h]

theorem State.qackW_of_ok {s : State} {q n : Nat} (hn : n < 8192) (hpos : 1 ≤ n) (hle : n ≤ (s.queue q).length) :
    s.qackW q n = (.ok, s.setQueue q ((s.queue q).drop n)) := by
  have hne : n ≠ 0 := by omega
  simp [State.qackW, Nat.mod_eq_of_lt hn, State.ackOk, hne, hle, State.ackEvents]

theorem State.qackW_of_err {s : State} {q n : Nat} (hn : n < 8192) (h : n = 0 ∨ (s.queue q).length < n) :
    s.qackW q n = (.ok, s.setFlag (EVT_QSTAT_ACK_ERR q) true) := by
  have hno : s.ackOk q n = false := by
    rcases h with h | h
    · simp [State.ackOk, h]
    · simp [State.ackOk, h]
  simp [State.qackW, Nat.mod_eq_of_lt hn, hno]

theorem evtQackWriteEff_of_ok {s s' : State} {r : Requester} {q n : Nat} (hq : q < 2) (hjudge : s.judge r (EVT_QACK q) = .allowed)
    (heff : s.qackW q n = (.ok, s')) : evtQackWriteEff r q n s = s'.recordWrite r (EVT_QACK q) .ok := by
  have haddr : EVT_QACK q < 0x200000 := by simp only [EVT_QACK]; omega
  rw [evtQackWriteEff, State.writeWord_of_reg s r n haddr (regAt_EVT_QACK q hq) (by decide)]
  exact State.hostWrite_of_ok hjudge heff

theorem exec_evtQackWrite_eq (t : Nat) (r : Requester) (q n : Nat) (s : State) : exec (.evtQackWrite t r q n) s = .next
    (if q < 2 ∧ (s.at t).trAlive (reqIdx r) = true then evtQackWriteEff r q n (s.at t) else s.at t) := by
  simp [exec_evtQackWrite]

theorem exec_evtQdataCapture_eq (t : Nat) (r : Requester) (q : Nat) (s : State) : exec (.evtQdataCapture t r q) s = .next
    (if q < 2 ∧ (s.at t).trAlive (reqIdx r) = true then evtQdataCaptureEff r q (s.at t) else s.at t) := by
  simp [exec_evtQdataCapture]

/-! ### The log (R471, R472) -/

theorem State.logReady_of_gap {s : State} (h : ∀ u, s.evt.logAt = some u → u + 12000 ≤ s.now) : s.logReady = true := by
  unfold State.logReady
  split
  next u hu => simpa using h u hu
  next => rfl

theorem logWriteEff_of_ready {s : State} {e : EvtEntry} {es : List EvtEntry} (hbuf : s.evt.logBuf = e :: es) (h : s.logReady = true) :
    logWriteEff s = { s.logPut e with evt := { s.evt with logBuf := es, logAt := some s.now } } := by
  simp [logWriteEff, hbuf, h]

theorem next_logHead {h : Nat} (hlt : h < 4096) : (h + 1) % 4096 = if h = 4095 then 0 else h + 1 := by
  split <;> omega

theorem State.readReg_of_logDenied {s : State} {r : Requester} (hsec : s.logSecure = true) (hr : s.reqSecure r = false) :
    s.readReg r (EVT_LDATA 0) = (0, s.deny r (EVT_LDATA 0) false) := by
  simp [State.readReg, regAt_EVT_LDATA, famLData, hsec, hr]

theorem State.liveAt_EVT_LDATA {s : State} (r : Requester) {e : EvtEntry} (h : s.logSel = some e) {k : Nat} (hk : k < 8) :
    s.liveAt r (EVT_LDATA 0 + 4 * k) = lget 0 (entryWords true e) k := by
  have haddr : EVT_LDATA 0 + 4 * k = EVT_LDATA k := by simp [EVT_LDATA]
  rw [haddr, State.liveAt_of_reg s r (regAt_EVT_LDATA k hk)]
  simp [State.live, famLData, h]

theorem State.readReg_of_logSel {s : State} {r : Requester} {e : EvtEntry} (h : s.logSel = some e)
    (hopen : s.logSecure = false ∨ s.reqSecure r = true) : s.readReg r (EVT_LDATA 0) =
      (lget 0 (entryWords true e) 0, s.capture r (EVT_LDATA 0) ((upto 8).map (lget 0 (entryWords true e)))) := by
  have hwords : (upto 8).map (fun k => s.liveAt r (EVT_LDATA 0 + 4 * k)) = (upto 8).map (lget 0 (entryWords true e)) :=
    List.map_congr_left fun k hk => State.liveAt_EVT_LDATA r h (List.mem_range.mp hk)
  rw [State.readReg_of_capture (regAt_EVT_LDATA 0 (by decide)) (c := EVT_LDATA 0) (n := 8) rfl (fun _ => hopen) nofun, hwords]
  rfl

/-! ### The sampling base (R346) -/

theorem State.timSampW_of_not_test {s : State} {v : Nat} (h : s.mode ≠ .test) : s.timSampW v = (.notInTest, s) := by
  simp [State.timSampW, h]

theorem State.timSampW_of_unset {s : State} {v : Nat} (hmode : s.mode = .test)
    (h : s.flag TIM_SAMP_COMPAT = true ∨ s.tbState (v % 4) = 0 ∨ s.tbState (v % 4) = 5) : s.timSampW v = (.stateDenied, s) := by
  unfold State.tbState at h
  rcases h with h | h | h <;> simp [State.timSampW, hmode, h]

section
variable {s : State} {v : Nat} (hmode : s.mode = .test) (hcompat : s.flag TIM_SAMP_COMPAT = false)
  (hset : s.tbState (v % 4) ≠ 0) (hfree : s.tbState (v % 4) ≠ 5)
include hmode hcompat hset hfree

theorem State.timSampW_of_same (h : v % 4 = s.getF TIM_SAMP_SAMP_TB) : s.timSampW v = (.ok, s) := by
  unfold State.tbState at hset hfree
  simp [State.timSampW, hmode, hcompat, hset, hfree, ← h]

/-- R346: a change of the sampling base asks every chain group that runs for a reset. -/
theorem State.timSampW_of_change (h : v % 4 ≠ s.getF TIM_SAMP_SAMP_TB) : s.timSampW v =
    (.ok, ((upto 8).foldl (fun s g => if s.chainState g = 0 then s else s.setFgrp g { s.fgrp g with resetReq := true })
      (s.setF TIM_SAMP_SAMP_TB (v % 4)).putUtc).raise 94 0 (v % 4)) := by
  unfold State.tbState at hset hfree
  simp [State.timSampW, hmode, hcompat, hset, hfree, h]
end

theorem timSampWriteEff_eq (r : Requester) (v : Nat) (s : State) :
    timSampWriteEff r v s = (s.hostWrite r TIM_SAMP (State.timSampW v)).2 := by
  rw [timSampWriteEff, State.writeWord_of_reg s r v (by decide) regAt_TIM_SAMP (by decide)]
  rfl

/-- Settles O46: each access is the lemma of its register, behind the judgement of its window. -/
theorem eventAndLogAccess : Obligations.EventAndLogAccess := by
  refine ⟨?queue, ?ack, ?log, ?ldata, ?samp, exec_evtQackWrite_eq, exec_logWrite, exec_evtQdataCapture_eq, exec_evtLdataRead,
    exec_timSampWrite⟩
  case queue =>
    intro t q r s b hq halive hjudge
    refine ⟨fun h => ?_, fun e es h => ?_⟩ <;> refine exec_of_guard (exec_evtQdataCapture_eq t r q s) ⟨hq, halive⟩ ?_
    · rw [evtQdataCaptureEff_eq hq hjudge, State.qWord_of_empty h]
      rfl
    · rw [evtQdataCaptureEff_eq hq hjudge, State.qWord_of_cons h]
  case ack =>
    intro t q n r s b hq halive hjudge hn
    exact ⟨fun hpos hle => exec_of_guard (exec_evtQackWrite_eq t r q n s) ⟨hq, halive⟩
        (evtQackWriteEff_of_ok hq hjudge (State.qackW_of_ok hn hpos hle)),
      fun h => exec_of_guard (exec_evtQackWrite_eq t r q n s) ⟨hq, halive⟩ (evtQackWriteEff_of_ok hq hjudge (State.qackW_of_err hn h))⟩
  case log =>
    intro t s e es b hbuf hhead hgap
    refine ⟨_, exec_of_eq (exec_logWrite t s) (logWriteEff_of_ready hbuf (State.logReady_of_gap hgap)), rfl, rfl, ?_, ?_,
      next_logHead hhead, rfl, rfl⟩
    · exact fun d => Store.get_put_same d e b.mram.log b.mram.logHead
    · exact fun d i hi => Store.get_put_other d e b.mram.log b.mram.logHead i hi
  case ldata =>
    intro t r s b a halive hjudge
    have hread (x : Nat × State) (hx : b.readReg r a = x) : exec (.evtLdataRead t r) s = .next (x.2.readOut [x.1]) :=
      exec_of_guard (exec_evtLdataRead t r s) halive (by
        rw [evtLdataReadEff, State.readWord_of_allowed (a := EVT_LDATA 0) (by decide) hjudge, ← hx])
    exact ⟨fun hsec hr => hread _ (State.readReg_of_logDenied hsec hr), fun e h hopen => hread _ (State.readReg_of_logSel h hopen)⟩
  case samp =>
    intro t v r s b k halive hjudge
    have hok {b' : State} (h : b.timSampW v = (.ok, b')) : exec (.timSampWrite t r v) s = .next (b'.recordWrite r TIM_SAMP .ok) :=
      exec_of_guard (exec_timSampWrite t r v s) halive ((timSampWriteEff_eq r v b).trans (State.hostWrite_of_ok hjudge h))
    have hno {st : Status} (h : b.timSampW v = (st, b)) (hst : st ≠ .ok) :
        exec (.timSampWrite t r v) s = .next (b.recordWrite r TIM_SAMP st) :=
      exec_of_guard (exec_timSampWrite t r v s) halive ((timSampWriteEff_eq r v b).trans (State.hostWrite_of_refused hjudge h hst))
    exact ⟨fun hmode => hno (State.timSampW_of_not_test hmode) nofun,
      fun hmode h => hno (State.timSampW_of_unset hmode h) nofun,
      fun hmode hcompat hset hfree => ⟨fun h => hok (State.timSampW_of_same hmode hcompat hset hfree h),
        fun h => hok (State.timSampW_of_change hmode hcompat hset hfree h)⟩⟩

end Sys2Proof.Machine

/-!
Writes of registers that have no command of their own (R5, R480 to R484), bit by bit where the register has no behaviour of its own, and
reserved space (R483).
-/
namespace Sys2Proof.Machine

/-! ### A plain write, bit by bit (R480, R481) -/

/-- The bits of a plain write of `v`: those of W1C and RWS written 1 are cleared, save those just set; of the others, those of RW are as
written. -/
def plainBits (f : RegFam) (a v : Nat) (s : State) (n : Nat) : Bool :=
  if (bitN f.w1c n || bitN f.rws n) && bitN v n then
    (if bitN f.rw n then true else (s.rd a).getLsbD n) && ((s.rd a).getLsbD n && !(Store.get (rstWord a) s.regs0 a).getLsbD n)
  else if bitN f.rw n then bitN v n else (s.rd a).getLsbD n

theorem getLsbD_ofNat_word (v : Nat) {n : Nat} (hn : n < 32) : (BitVec.ofNat 32 v).getLsbD n = bitN v n := by
  rw [BitVec.getLsbD_ofNat, bitN_eq_testBit]
  simp [hn]

theorem bitN_lor (x y n : Nat) : bitN (Nat.lor x y) n = (bitN x n || bitN y n) := by
  simp only [bitN_eq_testBit]
  exact Nat.testBit_or x y n

theorem bitN_land (x y n : Nat) : bitN (Nat.land x y) n = (bitN x n && bitN y n) := by
  simp only [bitN_eq_testBit]
  exact Nat.testBit_and x y n

/-- One bit of a plain write: what it was, whether RW, what is written, whether W1C or RWS, whether set in this instant. -/
theorem written_bit : ∀ old rw v clr fresh : Bool, ((old && !rw || v && rw) && !(v && !fresh && clr)) =
    if clr && v then (if rw then true else old) && fresh else if rw then v else old := by
  decide

theorem State.plainWrite_bits (f : RegFam) (a v : Nat) (s : State) :
    ∃ w : Word, State.plainWrite f a v s = (.ok, s.wr a w) ∧ ∀ n, n < 32 → w.getLsbD n = plainBits f a v s n := by
  refine ⟨_, rfl, fun n hn => ?_⟩
  simp only [BitVec.getLsbD_and, BitVec.getLsbD_or, BitVec.getLsbD_not, getLsbD_ofNat_word _ hn, bitN_lor, hn, decide_true,
    Bool.true_and]
  exact written_bit _ _ _ _ _

/-! ### The bits of EVT_SEEN a requester sees (R477) -/

theorem State.seenMask_of_hidden {s : State} {r : Requester} (h : s.reqSecure r = false) (w : Nat) :
    s.seenMask r w = bitsBelow (fun i => !s.srcSecure (32 * w + i)) 32 := by
  have hstep : (fun (m i : Nat) => if s.srcSecure (32 * w + i) then m else m + 2 ^ i) =
      fun m i => if !s.srcSecure (32 * w + i) then m + 2 ^ i else m := by
    funext m i
    cases s.srcSecure (32 * w + i) <;> rfl
  simp only [State.seenMask, h, hstep, Bool.false_eq_true, if_false, bitsBelow]

theorem State.bitN_seenMask (s : State) (r : Requester) (w : Nat) {n : Nat} (hn : n < 32) :
    bitN (s.seenMask r w) n = (s.reqSecure r || !s.srcSecure (32 * w + n)) := by
  cases hr : s.reqSecure r with
  | true =>
    have hall : ∀ n < 32, bitN 0xFFFFFFFF n = true := by decide
    simp [State.seenMask, hr, hall n hn]
  | false => simp [State.seenMask_of_hidden hr, bitN_bitsBelow _ hn]

/-! ### The commands -/

theorem exec_registerWrite_eq (t : Nat) (r : Requester) (a v : Nat) (s : State) : exec (.registerWrite t r a v) s = .next
    (if v < 4294967296 ∧ (s.at t).trAlive (reqIdx r) = true then registerWriteEff r a v (s.at t) else s.at t) := by
  simp [exec_registerWrite]

theorem exec_reservedAccess_eq (t : Nat) (r : Requester) (a : Nat) (wr : Bool) (s : State) : exec (.reservedAccess t r a wr) s = .next
    (if a < 4294967296 ∧ (s.at t).trAlive (reqIdx r) = true then reservedAccessEff r a wr (s.at t) else s.at t) := by
  simp [exec_reservedAccess]

section
variable {s : State} {r : Requester} {a : Nat} {f : RegFam} {i j : Nat} (v : Nat) (ha : a < 0x200000)
  (hreg : regAt a = some (f, i, j)) (hown : hasOwnWrite f.name = false)
include ha hreg hown

theorem registerWriteEff_eq : registerWriteEff r a v s = (s.hostWrite r a (State.regWrite r f i j a v)).2 := by
  have hname : f.name ≠ .REC_CCTL ∧ f.name ≠ .REC_WSEL ∧ f.name ≠ .REC_REL := by
    refine ⟨?_, ?_, ?_⟩ <;> intro h <;> simp [h, hasOwnWrite] at hown
  simp [registerWriteEff, hreg, hown, State.writeWord_of_reg s r v ha hreg hname]

theorem registerWriteEff_of_noMap (h : s.judge r a = .noMap) : registerWriteEff r a v s = s.recordWrite r a .stateDenied := by
  simp [registerWriteEff_eq v ha hreg hown, State.hostWrite, h]

theorem registerWriteEff_of_denied (h : s.judge r a = .denied) :
    registerWriteEff r a v s = (s.deny r a true).recordWrite r a .worldDenied := by
  simp [registerWriteEff_eq v ha hreg hown, State.hostWrite, h]

theorem registerWriteEff_of_ok {s' : State} (h : s.judge r a = .allowed) (heff : State.regWrite r f i j a v s = (.ok, s')) :
    registerWriteEff r a v s = s'.recordWrite r a .ok := by
  rw [registerWriteEff_eq v ha hreg hown, State.hostWrite_of_ok h heff]

theorem registerWriteEff_of_refused {st : Status} (h : s.judge r a = .allowed) (hst : st ≠ .ok)
    (heff : State.regWrite r f i j a v s = (st, s)) : registerWriteEff r a v s = s.recordWrite r a st := by
  rw [registerWriteEff_eq v ha hreg hown, State.hostWrite_of_refused h heff hst]
end

/-- The registers whose write has checks, or a mask, of its own. -/
theorem State.regWrite_of_plain {f : RegFam} (r : Requester) (i j a v : Nat) (s : State) (hown : hasOwnWrite f.name = false)
    (h : f.name ∉ [.SYS_XCFG, .CMD_REQ, .AUX_CFG, .AUX_PERIOD, .AUX_ENT, .FLT_CADDR, .TIM_IRIG, .EVT_SEEN]) :
    State.regWrite r f i j a v s = State.plainWrite f a v s := by
  unfold State.regWrite
  split <;> simp_all [hasOwnWrite]

section
variable {s : State} {v : Nat}

theorem State.auxWrites_of_running {r : Requester} {f : RegFam} {i j a : Nat} (hrun : s.flag AUX_STAT_RUN = true)
    (hname : f.name = .AUX_CFG ∨ f.name = .AUX_PERIOD ∨ f.name = .AUX_ENT) : State.regWrite r f i j a v s = (.stateDenied, s) := by
  rcases hname with hname | hname | hname <;>
    simp [State.regWrite, hname, State.auxCfgW, State.auxPeriodW, State.auxEntW, hrun]

theorem State.auxCfgW_of_stopped (hrun : s.flag AUX_STAT_RUN = false) : s.auxCfgW v =
    if v % 4 = 3 ∨ v / 4 % 64 = 0 ∨ 32 < v / 4 % 64 then (.valueRange, s)
    else (.ok, (s.setF AUX_CFG_MODE v).setF AUX_CFG_LEN (v / 4 % 64)) := by
  simp [State.auxCfgW, hrun, or_assoc]

theorem State.auxPeriodW_of_stopped (hrun : s.flag AUX_STAT_RUN = false) : s.auxPeriodW v =
    if v % 1048576 < 16 then (.valueRange, s) else (.ok, s.setF AUX_PERIOD_PERIOD (v % 1048576)) := by
  simp [State.auxPeriodW, hrun]

theorem State.auxEntW_of_stopped {e : Nat} (hrun : s.flag AUX_STAT_RUN = false) : State.auxEntW e v s =
    if auxBallBusy s.sys.ballMap (v % 16) = true then (.resourceBusy, s)
    else if auxEntOk v = false then (.valueRange, s)
    else (.ok, s.wr (AUX_ENT e) (BitVec.ofNat 32 v &&& 0x3FF1F#32)) := by
  simp [State.auxEntW, hrun]

theorem State.timIrigW_eq (hv : v < 4294967296) : s.timIrigW v =
    if 2000 ≤ v / 65536 ∧ v / 65536 ≤ 2255 then (.ok, s.setF TIM_IRIG_YEAR (v / 65536)) else (.valueRange, s) := by
  have hyear : v / 65536 % 65536 = v / 65536 := Nat.mod_eq_of_lt (by omega)
  simp [State.timIrigW, hyear]

theorem State.cmdReqW_of_busy {w : Nat} (h : s.flag CMD_STAT_BUSY = true) : State.cmdReqW w v s = (.ok, s.setFlag CMD_STAT_WR_BUSY true) := by
  simp [State.cmdReqW, h]

theorem State.cmdReqW_of_free {w : Nat} (h : s.flag CMD_STAT_BUSY = false) : State.cmdReqW w v s = (.ok, s.setF (CMD_REQ_DATA w) v) := by
  simp [State.cmdReqW, h]
end

/-! ### Reserved space (R483) -/

theorem isReserved_of_high {a : Nat} (h : 0x800000 ≤ a) : isReserved a = true := by
  simp [isReserved, h, show ¬ a < 0x200000 by omega]

theorem isReserved_of_none {a : Nat} (ha : a < 0x200000) (h : regAt a = none) : isReserved a = true := by
  simp [isReserved, ha, h]

/-- An access of reserved space that its window allows: a write is refused, a read is 0, each noted. -/
theorem State.accessReserved_of_high {s : State} (r : Requester) {a : Nat} (h : 0x800000 ≤ a) (hmap : s.sys.mapOn = true) (v : Nat) :
    (s.writeWord r a v).2 = (s.rsvSeen r a).recordWrite r a .valueRange ∧ s.readWord r a = (0, s.rsvSeen r a) := by
  have hlo : ¬ a < 0x200000 := by omega
  have hhi : ¬ a < 0x800000 := by omega
  simp [State.writeWord, State.readWord, hlo, hhi, hmap, State.reservedWrite]

theorem State.accessReserved_of_none {s : State} (r : Requester) {a : Nat} (ha : a < 0x200000) (h : regAt a = none)
    (hjudge : s.judge r a = .allowed) (v : Nat) :
    (s.writeWord r a v).2 = (s.rsvSeen r a).recordWrite r a .valueRange ∧ s.readWord r a = (0, s.rsvSeen r a) := by
  refine ⟨?_, ?_⟩
  · simp [State.writeWord, ha, h, hjudge, State.reservedWrite]
  · rw [State.readWord_of_allowed ha hjudge, State.readReg, h]

theorem reservedAccessEff_eq {s : State} (r : Requester) {a : Nat} (h4 : a % 4 = 0) (hrsv : isReserved a = true)
    (hacc : (s.writeWord r a 0).2 = (s.rsvSeen r a).recordWrite r a .valueRange ∧ s.readWord r a = (0, s.rsvSeen r a)) :
    reservedAccessEff r a true s = (s.rsvSeen r a).recordWrite r a .valueRange ∧
      reservedAccessEff r a false s = (s.rsvSeen r a).readOut [0] := by
  have haddr : a / 4 * 4 = a := by omega
  obtain ⟨hwrite, hread⟩ := hacc
  simp [reservedAccessEff, haddr, hrsv, hwrite, hread]

/-- Settles O44: a register's own effect, once its window allows the write; reserved space at either end of the registers. -/
theorem registerWrites : Obligations.RegisterWrites := by
  refine ⟨?registers, ?reserved, exec_reservedAccess_eq, exec_registerWrite_eq⟩
  case registers =>
    intro t a v i j r f s b hv halive ha hreg hown
    have hexec {b' : State} (heff : registerWriteEff r a v b = b') : exec (.registerWrite t r a v) s = .next b' :=
      exec_of_guard (exec_registerWrite_eq t r a v s) ⟨hv, halive⟩ heff
    have hok {b' : State} (hjudge : b.judge r a = .allowed) (h : State.regWrite r f i j a v b = (.ok, b')) :
        exec (.registerWrite t r a v) s = .next (b'.recordWrite r a .ok) :=
      hexec (registerWriteEff_of_ok v ha hreg hown hjudge h)
    have hno {st : Status} (hjudge : b.judge r a = .allowed) (hst : st ≠ .ok) (h : State.regWrite r f i j a v b = (st, b)) :
        exec (.registerWrite t r a v) s = .next (b.recordWrite r a st) :=
      hexec (registerWriteEff_of_refused v ha hreg hown hjudge hst h)
    refine ⟨fun h => hexec (registerWriteEff_of_noMap v ha hreg hown h), fun h => hexec (registerWriteEff_of_denied v ha hreg hown h),
      fun hjudge hname => ?plain, fun hjudge hname => ?seen, fun hjudge hname => ?xcfg,
      fun hjudge hrun hname => hno hjudge nofun (State.auxWrites_of_running hrun hname), fun hjudge hrun hname => ?auxCfg,
      fun hjudge hrun hname => ?auxPeriod, fun hjudge hrun hname => ?auxEnt, fun hjudge hname => ?caddr, fun hjudge hname => ?cmdReq,
      fun hjudge hname => ?irig⟩
    case plain =>
      obtain ⟨w, hw, hbits⟩ := State.plainWrite_bits f a v b
      exact ⟨w, hok hjudge ((State.regWrite_of_plain r i j a v b hown hname).trans hw), hbits⟩
    case seen =>
      obtain ⟨w, hw, hbits⟩ := State.plainWrite_bits f a (Nat.land v (b.seenMask r i)) b
      refine ⟨w, hok hjudge (by simpa only [State.regWrite, hname] using hw), fun n hn => ?_⟩
      simpa only [plainBits, bitN_land, State.bitN_seenMask b r i hn] using hbits n hn
    case xcfg =>
      split
      next h => exact hok hjudge (by simp [State.regWrite, hname, State.sysXcfgW, h])
      next h => exact hno hjudge nofun (by simp [State.regWrite, hname, State.sysXcfgW, h])
    case auxCfg =>
      split
      next h => exact hno hjudge nofun (by simp only [State.regWrite, hname, State.auxCfgW_of_stopped hrun, if_pos h])
      next h => exact hok hjudge (by simp only [State.regWrite, hname, State.auxCfgW_of_stopped hrun, if_neg h])
    case auxPeriod =>
      split
      next h => exact hno hjudge nofun (by simp only [State.regWrite, hname, State.auxPeriodW_of_stopped hrun, if_pos h])
      next h => exact hok hjudge (by simp only [State.regWrite, hname, State.auxPeriodW_of_stopped hrun, if_neg h])
    case auxEnt =>
      split
      next h => exact hno hjudge nofun (by simp only [State.regWrite, hname, State.auxEntW_of_stopped hrun, if_pos h])
      next h =>
        split
        next hent => exact hno hjudge nofun (by simp only [State.regWrite, hname, State.auxEntW_of_stopped hrun, if_neg h, if_pos hent])
        next hent => exact hok hjudge (by simp only [State.regWrite, hname, State.auxEntW_of_stopped hrun, if_neg h, if_neg hent])
    case caddr =>
      split
      next h => exact hno hjudge nofun (by simp only [State.regWrite, hname, State.fltCaddrW, if_pos h])
      next h => exact hok hjudge (by simp only [State.regWrite, hname, State.fltCaddrW, if_neg h])
    case cmdReq =>
      exact ⟨fun h => hok hjudge (by simp only [State.regWrite, hname, State.cmdReqW_of_busy h]),
        fun h => hok hjudge (by simp only [State.regWrite, hname, State.cmdReqW_of_free h])⟩
    case irig =>
      split
      next h => exact hok hjudge (by simp only [State.regWrite, hname, State.timIrigW_eq hv, if_pos h])
      next h => exact hno hjudge nofun (by simp only [State.regWrite, hname, State.timIrigW_eq hv, if_neg h])
  case reserved =>
    intro t a r s b note halive hmap h4
    have hexec (h32 : a < 4294967296) (hrsv : isReserved a = true)
        (hacc : (b.writeWord r a 0).2 = (b.rsvSeen r a).recordWrite r a .valueRange ∧ b.readWord r a = (0, b.rsvSeen r a)) :
        exec (.reservedAccess t r a true) s = .next (note.recordWrite r a .valueRange) ∧
          exec (.reservedAccess t r a false) s = .next (note.readOut [0]) := by
      obtain ⟨hwrite, hread⟩ := reservedAccessEff_eq r h4 hrsv hacc
      exact ⟨exec_of_guard (exec_reservedAccess_eq t r a true s) ⟨h32, halive⟩ hwrite,
        exec_of_guard (exec_reservedAccess_eq t r a false s) ⟨h32, halive⟩ hread⟩
    exact ⟨fun hhigh h32 => hexec h32 (isReserved_of_high hhigh) (State.accessReserved_of_high r hhigh hmap 0),
      fun ha hreg hjudge => hexec (by omega) (isReserved_of_none ha hreg) (State.accessReserved_of_none r ha hreg hjudge 0)⟩

end Sys2Proof.Machine

/-!
The xSPI target (R485, R486): bursts, the bytes of a command; and the words that follow a capture word (R487, R488).
-/
namespace Sys2Proof.Machine

/-! ### The bytes of a command (R485) -/

theorem ofLe_leBytes (n : Nat) {v : Nat} (h : v < 256 ^ n) : ofLe (leBytes n v) = v := by
  induction n generalizing v with
  | zero => simpa [ofLe, leBytes] using (Nat.lt_one_iff.mp h).symm
  | succ n ih =>
    rw [leBytes, ofLe, ih (Nat.div_lt_of_lt_mul (by rwa [Nat.pow_succ'] at h)), Nat.mod_mod, Nat.mod_add_div]

theorem leWords_flatMap_leBytes {ws : List Nat} (h : ∀ w ∈ ws, w < 4294967296) : leWords ws.length (ws.flatMap (leBytes 4)) = ws := by
  induction ws with
  | nil => rfl
  | cons w ws ih =>
    have hw : w < 256 ^ 4 := h w List.mem_cons_self
    have hrest := ih fun x hx => h x (List.mem_cons_of_mem w hx)
    rw [List.flatMap_cons, List.length_cons, leWords, List.take_left' (length_leBytes 4 w), List.drop_left' (length_leBytes 4 w),
      ofLe_leBytes 4 hw, hrest]

theorem xspiDecode_read {a : Nat} (h : a < 4294967296) : xspiDecode ([0xB1, 0x4E] ++ (leBytes 4 a).reverse) = some (.read a) := by
  have hlen : (leBytes 4 a).reverse.length = 4 := by rw [List.length_reverse, length_leBytes]
  have haddr : ofLe ((leBytes 4 a).reverse.take 4).reverse = a := by
    rw [List.take_of_length_le hlen.le, List.reverse_reverse, ofLe_leBytes 4 h]
  simp [xspiDecode, length_leBytes, haddr]

theorem xspiDecode_write {a : Nat} {ws : List Nat} (h : a < 4294967296) (hws : ∀ w ∈ ws, w < 4294967296) :
    xspiDecode ([0xB2, 0x4D] ++ (leBytes 4 a).reverse ++ ws.flatMap (leBytes 4)) = some (.write a ws false) := by
  have hlen : (leBytes 4 a).reverse.length = 4 := by rw [List.length_reverse, length_leBytes]
  have hdata : ((leBytes 4 a).reverse ++ ws.flatMap (leBytes 4)).drop 4 = ws.flatMap (leBytes 4) := List.drop_left' hlen
  simp [xspiDecode, ofLe_leBytes 4 h, hdata, length_leBytes, leWords_flatMap_leBytes hws]

theorem xspiDecode_undefined {c k : Nat} (r : List Nat) (h : c + k = 255) (hread : c ≠ 0xB1) (hwrite : c ≠ 0xB2) (hstat : c ≠ 0xB5) :
    xspiDecode (c :: k :: r) = some (.undefinedCode c) := by
  simp [xspiDecode, h, hread, hwrite, hstat]

theorem xspiDecode_uncomplemented {c k : Nat} (r : List Nat) (h : c + k ≠ 255) :
    xspiDecode (c :: k :: r) = some (.undefinedCode 0) := by
  simp [xspiDecode, h]

/-! ### Bursts (R486) -/

/-- The state behind the start of a burst: an unaligned address is noted. -/
def State.burstStart (s : State) (a : Nat) : State := if a % 4 = 0 then s else s.xerr

theorem State.burstStart_eq (s : State) (a : Nat) : (if a % 4 != 0 then s.xerr else s) = s.burstStart a := by
  by_cases h : a % 4 = 0 <;> simp [State.burstStart, h]

theorem xspiReadEff_eq {s : State} (a n : Nat) (h : s.trAlive 0 = true) :
    let k := burstRoom (a / 4 * 4) n
    let x := State.readWords .xspi k (a / 4 * 4) (s.burstStart a)
    xspiReadEff a n s = (if k < n then x.2.xerr else x.2).readOut (x.1 ++ List.replicate (n - k) 0) := by
  simp only [xspiReadEff, h, State.burstStart_eq, Bool.not_true, Bool.false_eq_true, if_false]

/-- A burst that crosses no boundary reads every word. -/
theorem xspiReadEff_of_room {s : State} {a n : Nat} (h : s.trAlive 0 = true) (hroom : burstRoom (a / 4 * 4) n = n) :
    let x := State.readWords .xspi n (a / 4 * 4) (s.burstStart a)
    xspiReadEff a n s = x.2.readOut x.1 := by
  simp [xspiReadEff_eq a n h, hroom]

theorem burstRoom_below_windows {a k n : Nat} (ha : a = 0x200000 - 4 * k) (hpos : 1 ≤ k) (hk : k ≤ 0x80000) (hn : k < n) :
    burstRoom a n = k := by
  have hlo : a < 0x200000 := by omega
  have hleft : (0x200000 - a) / 4 = k := by omega
  rw [burstRoom, if_pos hlo, hleft]
  exact Nat.min_eq_right hn.le

theorem xspiWriteEff_eq {s : State} (a : Nat) (ws : List Nat) (part : Bool) (h : s.trAlive 0 = true) :
    let k := burstRoom (a / 4 * 4) ws.length
    let x := State.writeWords .xspi (ws.take k) (a / 4 * 4) (s.burstStart a)
    xspiWriteEff a ws part s = if k < ws.length || part then x.xerr else x := by
  simp only [xspiWriteEff, h, State.burstStart_eq, Bool.not_true, Bool.false_eq_true, if_false]

theorem xspiWriteEff_of_room {s : State} {a : Nat} {ws : List Nat} (part : Bool) (h : s.trAlive 0 = true)
    (hroom : burstRoom (a / 4 * 4) ws.length = ws.length) :
    let x := State.writeWords .xspi ws (a / 4 * 4) (s.burstStart a)
    xspiWriteEff a ws part s = if part then x.xerr else x := by
  simp [xspiWriteEff_eq a ws part h, hroom]

theorem xspiReadStatEff_of_allowed {s : State} (n : Nat) (h : s.trAlive 0 = true) (hjudge : s.judge .xspi SYS_XSTAT = .allowed) :
    xspiReadStatEff n s = s.readOut (List.replicate n s.sysXstat) := by
  simp [xspiReadStatEff, h, State.hostRead_of_allowed hjudge]

theorem xspiUndefinedCodeEff_of_undefined {s : State} {c : Nat} (h : s.trAlive 0 = true) (hread : c ≠ 0xB1) (hwrite : c ≠ 0xB2)
    (hstat : c ≠ 0xB5) : xspiUndefinedCodeEff c s = s.xerr := by
  simp [xspiUndefinedCodeEff, h, hread, hwrite, hstat]

theorem exec_xspiRead_eq (t a n : Nat) (s : State) :
    exec (.xspiRead t a n) s = .next (if a < 4294967296 then xspiReadEff a n (s.at t) else s.at t) := by
  simp [exec_xspiRead]

theorem exec_xspiWrite_eq (t a : Nat) (ws : List Nat) (part : Bool) (s : State) : exec (.xspiWrite t a ws part) s = .next
    (if a < 4294967296 ∧ ws.all (fun b => decide (b < 4294967296)) = true then xspiWriteEff a ws part (s.at t) else s.at t) := by
  simp [exec_xspiWrite]

theorem exec_xspiUndefinedCode_eq (t code : Nat) (s : State) :
    exec (.xspiUndefinedCode t code) s = .next (if code < 256 then xspiUndefinedCodeEff code (s.at t) else s.at t) := by
  simp [exec_xspiUndefinedCode]

/-! ### Captured quantities (R487, R488) -/

theorem captureReadEff_of_capture {s : State} {r : Requester} {a n i j : Nat} {f : RegFam} (ha : a < 0x200000)
    (hreg : regAt a = some (f, i, j)) (hcap : capOf f.name i j = some (a, n, 0)) (hlog : f.name ≠ .EVT_LDATA)
    (haux : f.name ≠ .AUX_QDATA_LO) (hjudge : s.judge r a = .allowed) :
    let ws := (upto n).map (fun k => s.liveAt r (a + 4 * k))
    captureReadEff r a s = (s.capture r a ws).readOut [lget 0 ws 0] := by
  simp [captureReadEff, hreg, hcap, State.readWord_of_allowed ha hjudge,
    State.readReg_of_capture (s := s) (r := r) hreg hcap (fun h => absurd h hlog) haux]

theorem State.readReg_of_following {s : State} (r : Requester) {a c n k i j : Nat} {f : RegFam} (hreg : regAt a = some (f, i, j))
    (hcap : capOf f.name i j = some (c, n, k)) (hk : k ≠ 0) (hlog : f.name ≠ .EVT_LDATA) : s.readReg r a = s.followWord r c k a := by
  simp [State.readReg, hreg, hcap, hk, hlog]

theorem reqIdx_lt_two (r : Requester) : reqIdx r < 2 := by
  cases r <;> decide

theorem State.followWord_of_captured (s : State) (r : Requester) (c k a : Nat) (ws : List Nat) (h : s.sys.caps.length = 2) :
    (s.capture r c ws).followWord r c k a = (lget 0 ws k, s.capture r c ws) := by
  have hcap : lget none (lset s.sys.caps (reqIdx r) (some ⟨c, ws⟩)) (reqIdx r) = some ⟨c, ws⟩ :=
    lget_lset_same _ _ _ _ (h ▸ reqIdx_lt_two r)
  simp [State.followWord, hcap]

theorem State.followWord_of_none {s : State} (r : Requester) (c k a : Nat) (h : lget none s.sys.caps (reqIdx r) = none) :
    s.followWord r c k a =
      (s.liveAt r a, (s.setFlag (SYS_ACC_STALE_HALF (reqIdx r)) true).setF (SYS_STALEA_ADDR (reqIdx r)) a) := by
  simp [State.followWord, h]

/-- Settles O45: bursts by the equations of the target, commands by their bytes, following words by what was captured. -/
theorem busAccesses : Obligations.BusAccesses := by
  refine ⟨?read, ?write, ?stat, ?undefined, fun a => xspiDecode_read, fun a ws => xspiDecode_write, rfl,
    fun c k r => xspiDecode_undefined r, fun c k r => xspiDecode_uncomplemented r, ?capture, ?follow, ?stale, exec_captureRead,
    exec_xspiRead_eq, exec_xspiWrite_eq, exec_xspiReadStat, exec_xspiUndefinedCode_eq⟩
  case read =>
    intro t a n s b ha halive
    have hexec {b' : State} (heff : xspiReadEff a n b = b') : exec (.xspiRead t a n) s = .next b' :=
      exec_of_guard (exec_xspiRead_eq t a n s) ha heff
    have haligned (h : a % 4 = 0) : a / 4 * 4 = a := by omega
    refine ⟨fun h4 hroom => ?aligned, fun h4 hroom => ?unaligned, fun k hak hpos hk hn => ?boundary, hexec (xspiReadEff_eq a n halive)⟩
    case aligned =>
      refine hexec ((xspiReadEff_of_room halive (by rwa [haligned h4])).trans ?_)
      simp [State.burstStart, h4, haligned h4]
    case unaligned =>
      refine hexec ((xspiReadEff_of_room halive hroom).trans ?_)
      simp [State.burstStart, h4]
    case boundary =>
      have h4 : a % 4 = 0 := by omega
      refine hexec ((xspiReadEff_eq a n halive).trans ?_)
      simp [haligned h4, burstRoom_below_windows hak hpos hk hn, State.burstStart, h4, hn]
  case write =>
    intro t a ws s b ha halive hws
    have hexec {part : Bool} {b' : State} (heff : xspiWriteEff a ws part b = b') : exec (.xspiWrite t a ws part) s = .next b' :=
      exec_of_guard (exec_xspiWrite_eq t a ws part s) ⟨ha, by simpa using hws⟩ heff
    refine ⟨fun h4 hroom => ?_, ?_⟩
    · have haligned : a / 4 * 4 = a := by omega
      have hstart : b.burstStart a = b := by simp [State.burstStart, h4]
      have heff (part : Bool) := xspiWriteEff_of_room part halive (haligned.symm ▸ hroom)
      rw [haligned, hstart] at heff
      exact ⟨hexec (heff false), hexec (heff true)⟩
    · refine hexec ((xspiWriteEff_eq a ws false halive).trans ?_)
      simp [State.burstStart]
  case stat =>
    intro t n s b halive hjudge
    exact exec_of_eq (exec_xspiReadStat t n s) (xspiReadStatEff_of_allowed n halive hjudge)
  case undefined =>
    intro t c s b hc halive hread hwrite hstat
    exact exec_of_guard (exec_xspiUndefinedCode_eq t c s) hc (xspiUndefinedCodeEff_of_undefined halive hread hwrite hstat)
  case capture =>
    intro t a n i j r f s b ws halive ha hreg hcap hlog haux hjudge
    exact exec_of_guard (exec_captureRead t r a s) halive (captureReadEff_of_capture ha hreg hcap hlog haux hjudge)
  case follow =>
    intro s r f a c n k i j ws u ha hreg hcap hk hlog hjudge hcaps
    rw [State.readWord_of_allowed ha hjudge, State.readReg_of_following r hreg hcap hk hlog]
    exact s.followWord_of_captured r c k a ws hcaps
  case stale =>
    intro s r f a c n k i j ha hreg hcap hk hlog hjudge hnone
    rw [State.readWord_of_allowed ha hjudge, State.readReg_of_following r hreg hcap hk hlog, State.followWord_of_none r c k a hnone]

end Sys2Proof.Machine

/-!
Raising an event (R462 to R471): the entry it gives, where the entry is put, and the order of entries of one cycle (R467, log 134). The
registers that date an entry lie below those of the event block, so that putting one entry away does not change the next one's date.
-/
namespace Sys2Proof.Machine

/-! ### What dates an entry -/

/-- Two states date an entry alike: one instant, one map, and the same registers below the event block. -/
structure State.SameTime (a b : State) : Prop where
  now : a.now = b.now
  sys : a.sys = b.sys
  tim : a.tim = b.tim
  rd : ∀ x, x < 0x1A0000 → a.rd x = b.rd x

theorem State.sampTb_lt (s : State) : s.sampTb < 4 := by
  unfold State.sampTb State.getF
  split
  · exact lt_of_lt_of_le (getBits_lt _ _ 1) (by decide)
  · exact getBits_lt _ _ 2

section
variable {a b : State} (h : a.SameTime b)
include h

theorem State.SameTime.getF {f : Field} (hf : f.addr < 0x1A0000) : a.getF f = b.getF f :=
  State.getF_of_rd (h.rd _ hf)

theorem State.SameTime.flag {f : Field} (hf : f.addr < 0x1A0000) : a.flag f = b.flag f :=
  State.flag_eq_of_getF (h.getF hf)

theorem State.SameTime.sampTb : a.sampTb = b.sampTb := by
  have hcompat := h.flag (f := TIM_SAMP_COMPAT) (by decide)
  have hact := h.getF (f := TIM_SAMP_ACT) (by decide)
  have hbase := h.getF (f := TIM_SAMP_SAMP_TB) (by decide)
  simp only [State.sampTb, hcompat, hact, hbase]

theorem State.SameTime.sampAt (t : Nat) : a.sampAt t = b.sampAt t := by
  have hcompat := h.flag (f := TIM_SAMP_COMPAT) (by decide)
  have hlt := b.sampTb_lt
  have hadj := h.getF (f := TIM_FADJ_FADJ b.sampTb) (by simp only [TIM_FADJ_FADJ, TIM_FADJ]; omega)
  simp only [State.sampAt, State.tbAt, State.tb, State.getI, State.carryAt, hcompat, h.sampTb, h.tim, hadj]

theorem State.SameTime.sampQual : a.sampQual = b.sampQual := by
  have hcompat := h.flag (f := TIM_SAMP_COMPAT) (by decide)
  have hlt := b.sampTb_lt
  have hqual := h.getF (f := TIM_STAT_QUAL (if b.carryHeld 0 then 0 else b.sampTb)) (by
    simp only [TIM_STAT_QUAL, TIM_STAT]
    split <;> omega)
  have hheld : a.carryHeld 0 = b.carryHeld 0 := by simp only [State.carryHeld, hcompat, h.tim]
  simp only [State.sampQual, hheld, h.sampTb, hqual]

/-- R466: an entry of a state dated alike differs in its sequence number alone. -/
theorem State.SameTime.mkEntry (e : EvtRaise) : a.mkEntry e = { b.mkEntry e with eseq := (a.mram.eseq + 1) % 4294967296 } := by
  have hlt := b.sampTb_lt
  have hstate := h.getF (f := TIM_STAT_STATE b.sampTb) (by simp only [TIM_STAT_STATE, TIM_STAT]; omega)
  have hidx := h.getF (f := TIM_IDX_IDX) (by decide)
  simp only [State.mkEntry, h.sampTb, h.sampQual, h.sampAt, hstate, hidx, h.sys, h.now]
  split <;> rfl

theorem State.SameTime.srcSecure {src : Nat} (hsrc : src < 128) : a.srcSecure src = b.srcSecure src := by
  have hmap := h.getF (f := SEC_WMAP_MAP (3 + src / 32)) (by simp only [SEC_WMAP_MAP, SEC_WMAP]; omega)
  simp only [State.srcSecure, hmap]
end

theorem State.mkEntry_fields (s : State) (e : EvtRaise) : (s.mkEntry e).src = e.src ∧ (s.mkEntry e).inst = e.inst % 65536 ∧
    (s.mkEntry e).data = e.data % 4294967296 ∧ (s.mkEntry e).eseq = (s.mram.eseq + 1) % 4294967296 ∧ (s.mkEntry e).rep = 0 := by
  unfold State.mkEntry
  split <;> exact ⟨rfl, rfl, rfl, rfl, rfl⟩

/-! ### The log's buffer and the seen bit -/

theorem State.sameTime_seen (s : State) (src : Nat) : (s.seen src).SameTime s :=
  ⟨by simp [State.seen_frame], by simp [State.seen_frame], by simp [State.seen_frame], fun x hx => s.rd_seen src x hx⟩

/-- An event's entry has its number and its place in the log's buffer; no queue holds it yet. -/
def State.noted (s : State) (src inst data : Nat) : State :=
  let e := s.mkEntry ⟨src, inst, data⟩
  ({ s.seen src with mram := { (s.seen src).mram with eseq := e.eseq } }).logPush e

@[simp] theorem State.queue_seen (s : State) (src q : Nat) : (s.seen src).queue q = s.queue q := by
  simp [State.queue, State.seen_frame]

theorem State.logPush_evt (s : State) (e : EvtEntry) : (s.logPush e).evt.q0 = s.evt.q0 ∧ (s.logPush e).evt.q1 = s.evt.q1 ∧
    (s.logPush e).evt.pre = s.evt.pre ∧ (s.logPush e).evt.cyc = s.evt.cyc := by
  unfold State.logPush
  split <;> simp

theorem State.logPush_of_room {s : State} (e : EvtEntry) (h : s.evt.logBuf.length < 64) :
    (s.logPush e).evt.logBuf = s.evt.logBuf ++ [{ e with dropped := s.evt.logDropNext }] := by
  simp [State.logPush, h]

theorem State.rd_incSat_other (s : State) (f : Field) {x : Nat} (h : x ≠ f.addr) : (s.incSat f).rd x = s.rd x :=
  State.rd_setF_other s f _ x h

theorem State.regs_logPush (s : State) (e : EvtEntry) :
    (s.logPush e).regs = if s.evt.logBuf.length < 64 then s.regs else (s.incSat EVT_LOG_LOGDROP).regs := by
  unfold State.logPush
  split <;> simp

/-- Of the event registers the log's buffer writes EVT_LOG alone. -/
theorem State.rd_logPush_other (s : State) (e : EvtEntry) {x : Nat} (h : x ≠ EVT_LOG_LOGDROP.addr) : (s.logPush e).rd x = s.rd x := by
  have hregs := s.regs_logPush e
  split at hregs
  · exact State.rd_of_regs hregs x
  · exact (State.rd_of_regs hregs x).trans (s.rd_incSat_other EVT_LOG_LOGDROP h)

theorem State.rd_seen_other (s : State) (src : Nat) {x : Nat} (h : x ≠ (EVT_SEEN_SEEN (src / 32)).addr) : (s.seen src).rd x = s.rd x :=
  State.rd_setF_other s _ _ x h

section
variable {s : State} {src inst data : Nat}

theorem State.noted_evt : (s.noted src inst data).evt.q0 = s.evt.q0 ∧ (s.noted src inst data).evt.q1 = s.evt.q1 ∧
    (s.noted src inst data).evt.pre = s.evt.pre ∧ (s.noted src inst data).evt.cyc = s.evt.cyc := by
  simp [State.noted, State.logPush_evt, State.seen_frame]

theorem State.queue_noted (p : Nat) : (s.noted src inst data).queue p = s.queue p := by
  obtain ⟨h0, h1, -, -⟩ := State.noted_evt (s := s) (src := src) (inst := inst) (data := data)
  simp only [State.queue, h0, h1]

theorem State.noted_mram : (s.noted src inst data).mram = { s.mram with eseq := (s.mkEntry ⟨src, inst, data⟩).eseq } := by
  simp [State.noted, State.logPush_frame, State.seen_frame]

theorem State.noted_log (h : s.evt.logBuf.length < 64) : (s.noted src inst data).evt.logBuf =
    s.evt.logBuf ++ [{ s.mkEntry ⟨src, inst, data⟩ with dropped := s.evt.logDropNext }] := by
  rw [State.noted, State.logPush_of_room] <;> simp only [State.seen_frame, h]

theorem State.rd_mramSet (s : State) (m : MramSt) (x : Nat) : ({ s with mram := m } : State).rd x = s.rd x := rfl

theorem State.rd_noted {x : Nat} (hlog : x ≠ EVT_LOG_LOGDROP.addr) (hseen : x ≠ (EVT_SEEN_SEEN (src / 32)).addr) :
    (s.noted src inst data).rd x = s.rd x := by
  rw [State.noted, State.rd_logPush_other _ _ hlog]
  exact (State.rd_mramSet _ _ x).trans (s.rd_seen_other src hseen)

theorem State.evtEnabled_noted {y : Nat} (hsrc : src < 128) (hy : y < 128) :
    (s.noted src inst data).evtEnabled y = s.evtEnabled y := by
  have hen : (s.noted src inst data).getF (EVT_EN_EN (y / 32)) = s.getF (EVT_EN_EN (y / 32)) :=
    State.getF_of_rd (State.rd_noted (by simp only [EVT_EN_EN, EVT_EN, EVT_LOG_LOGDROP, EVT_LOG]; omega)
      (by simp only [EVT_EN_EN, EVT_EN, EVT_SEEN_SEEN, EVT_SEEN]; omega))
  simp only [State.evtEnabled, hen]

/-! ### Adding an event -/

/-- The queue of a source's world. -/
def State.srcQueue (s : State) (src : Nat) : Nat := if s.srcSecure src then 1 else 0

theorem State.evtEnabled_seen : (s.seen src).evtEnabled src = s.evtEnabled src := by
  have hen : (s.seen src).getF (EVT_EN_EN (src / 32)) = s.getF (EVT_EN_EN (src / 32)) :=
    State.getF_of_rd (s.rd_seen_other src (by simp only [EVT_SEEN_SEEN, EVT_EN_EN, EVT_EN, EVT_SEEN]; omega))
  simp only [State.evtEnabled, hen]

theorem State.mkEntry_seen (e : EvtRaise) : (s.seen src).mkEntry e = s.mkEntry e := by
  have hseq : (s.mkEntry e).eseq = (s.mram.eseq + 1) % 4294967296 := (s.mkEntry_fields e).2.2.2.1
  simp [(s.sameTime_seen src).mkEntry, State.seen_frame, ← hseq]

/-- The standing entry a further occurrence of an event counts in, if there is one. -/
def State.standing (s : State) (src inst : Nat) : Option EvtEntry :=
  (s.queue (s.srcQueue src)).find? (fun x => x.src = src && x.inst = inst % 65536)

theorem State.addEvent_of_noMap (h : s.sys.mapOn = false) : s.addEvent src inst data =
    { s.noted src inst data with
      evt := { (s.noted src inst data).evt with
        pre := (s.noted src inst data).evt.pre ++ [s.mkEntry ⟨src, inst, data⟩] } } := by
  have hmap : (s.seen src).sys.mapOn = false := by simpa [State.seen_frame] using h
  simp only [State.addEvent, hmap, State.mkEntry_seen, Bool.false_eq_true, if_false]
  rfl

theorem State.addEvent_of_new (hsrc : src < 128) (hmap : s.sys.mapOn = true) (hnew : s.standing src inst = none) :
    s.addEvent src inst data = if s.evtEnabled src then
      (s.noted src inst data).enqueue (s.srcQueue src) (s.mkEntry ⟨src, inst, data⟩) else s.noted src inst data := by
  have hmap : (s.seen src).sys.mapOn = true := by simpa [State.seen_frame] using hmap
  have hfind : ((s.seen src).queue (if (s.seen src).srcSecure src then 1 else 0)).find?
      (fun x => x.src = src && x.inst = inst % 65536) = none := by
    rw [(s.sameTime_seen src).srcSecure hsrc, State.queue_seen]
    exact hnew
  simp only [State.addEvent, hmap, if_true, hfind]
  simp only [State.mkEntry_seen, State.evtEnabled_seen, (s.sameTime_seen src).srcSecure hsrc]
  rfl

theorem State.addEvent_of_standing {x : EvtEntry} (hsrc : src < 128) (hmap : s.sys.mapOn = true) (hco : evtNoCoalesce src = false)
    (hold : s.standing src inst = some x) : s.addEvent src inst data =
      (((s.seen src).setQueue (s.srcQueue src) (bumpRep x.eseq (s.queue (s.srcQueue src)))).logBump x.eseq).incSat
        (EVT_QCNT_COALESCED (s.srcQueue src)) := by
  have hmap : (s.seen src).sys.mapOn = true := by simpa [State.seen_frame] using hmap
  have hfind : ((s.seen src).queue (if (s.seen src).srcSecure src then 1 else 0)).find?
      (fun x => x.src = src && x.inst = inst % 65536) = some x := by
    rw [(s.sameTime_seen src).srcSecure hsrc, State.queue_seen]
    exact hold
  simp only [State.addEvent, hmap, if_true, hfind, hco, Bool.false_eq_true, if_false]
  simp only [(s.sameTime_seen src).srcSecure hsrc, State.queue_seen, State.srcQueue]
end

/-! ### A queue (R467) -/

section
variable {s : State} {q : Nat} (e : EvtEntry)

theorem State.enqueue_of_room (h : (s.queue q).length < 4095) : s.enqueue q e = s.setQueue q (s.queue q ++ [e]) := by
  simp [State.enqueue, h]

/-- The entry of EVT_QUEUE_OVF that takes the last place of a queue. -/
def State.ovfEntry (s : State) (q : Nat) : EvtEntry := s.mkEntry ⟨127, q, 0⟩

theorem State.enqueue_of_last (h : (s.queue q).length = 4095) : s.enqueue q e =
    ((((({ s with mram := { s.mram with eseq := (s.ovfEntry q).eseq } }).seen 127).logPush (s.ovfEntry q)).setQueue q
      (s.queue q ++ [s.ovfEntry q])).incSat (EVT_QCNT_DROP q)).setFlag (EVT_QSTAT_OVF q) true := by
  have hqueue : ((({ s with mram := { s.mram with eseq := (s.ovfEntry q).eseq } }).seen 127).logPush (s.ovfEntry q)).queue q =
      s.queue q := by
    obtain ⟨h0, h1, -, -⟩ := (({ s with mram := { s.mram with eseq := (s.ovfEntry q).eseq } }).seen 127).logPush_evt (s.ovfEntry q)
    simp only [State.queue, h0, h1]
    rfl
  rw [State.enqueue, h]
  simp only [Nat.lt_irrefl, if_false, if_true, ← hqueue]
  rfl

theorem State.enqueue_of_full (h : 4095 < (s.queue q).length) : s.enqueue q e = s.incSat (EVT_QCNT_DROP q) := by
  have hne : (s.queue q).length ≠ 4095 := by omega
  simp [State.enqueue, Nat.not_lt.mpr h.le, hne]
end

/-! ### The order of one cycle -/

/-- No entry of this instant has a higher source number, so that the new one stays last. -/
def State.isLast (s : State) (src : Nat) : Prop := s.evt.cyc.1 ≠ s.now ∨ ∀ x ∈ s.evt.cyc.2, x ≤ src

/-- The sources entered at this instant. -/
def State.prior (s : State) : List Nat := if s.evt.cyc.1 = s.now then s.evt.cyc.2 else []

theorem State.passed_of_isLast {s : State} {src : Nat} (h : s.isLast src) : s.prior.filter (fun x => decide (src < x)) = [] := by
  unfold State.prior
  split
  next hnow =>
    obtain hne | hle := h
    · exact absurd hnow hne
    · exact List.filter_eq_nil_iff.mpr fun x hx => by simpa using hle x hx
  next => rfl

/-- The state with another record of this instant's sources. -/
def State.withCyc (s : State) (c : Nat × List Nat) : State := { s with evt := { s.evt with cyc := c } }

theorem State.orderCycle_of_last {s : State} {src : Nat} (e0 : Nat) (h : s.isLast src) : ∃ c, s.orderCycle e0 src = s.withCyc c := by
  by_cases heq : s.mram.eseq = e0
  · exact ⟨s.evt.cyc, by simp [State.orderCycle, heq, State.withCyc]⟩
  · have hpassed := State.passed_of_isLast h
    unfold State.prior at hpassed
    exact ⟨_, by simp [State.orderCycle, heq, hpassed, State.withCyc]; rfl⟩

theorem State.orderCycle_of_standing {s : State} {src e0 : Nat} (h : s.mram.eseq = e0) : s.orderCycle e0 src = s := by
  simp [State.orderCycle, h]

/-- The first entry of an instant is its only one. -/
theorem State.orderCycle_of_first {s : State} (src e0 : Nat) (hcyc : s.evt.cyc.1 ≠ s.now) (heseq : s.mram.eseq = (e0 + 1) % 4294967296) :
    s.orderCycle e0 src = s.withCyc (s.now, [src]) := by
  have hne : (e0 + 1) % 4294967296 ≠ e0 := by omega
  simp [State.orderCycle, heseq, hne, hcyc, State.withCyc]

/-- An entry of a lower source number than the only one of its instant goes before it. -/
theorem State.orderCycle_of_before {s : State} {src x e0 : Nat} (hcyc : s.evt.cyc = (s.now, [x])) (hx : src < x)
    (heseq : s.mram.eseq ≠ e0) (q : Nat) :
    (s.orderCycle e0 src).queue q = reOrder ((e0 + 1) % 4294967296) 1 (s.queue q) := by
  simp only [State.orderCycle, heseq, if_false, hcyc, if_true, List.filter_cons, List.filter_nil, hx, decide_true, List.length_cons,
    List.length_nil, State.queue]
  split <;> rfl

/-- Two entries in a row change places. -/
theorem reOrder_pair {a b : EvtEntry} (hne : a.eseq ≠ b.eseq) (hnext : (a.eseq + 1) % 4294967296 = b.eseq)
    (hback : (b.eseq + 4294967296 - 1) % 4294967296 = a.eseq) (hgap : (b.eseq + 4294967296 - a.eseq) % 4294967296 = 1) :
    reOrder b.eseq 1 [a, b] = [{ b with eseq := a.eseq }, { a with eseq := b.eseq }] := by
  have hfirst : reSeq b.eseq 1 a.eseq = b.eseq := by rw [reSeq, if_neg hne, hgap, if_pos (Nat.le_refl 1), hnext]
  have hsecond : reSeq b.eseq 1 b.eseq = a.eseq := by rw [reSeq, if_pos rfl, hback]
  simp only [reOrder, List.map_cons, List.map_nil, hfirst, hsecond, hback]
  simp [hne.symm, hgap]

/-! ### What raising an event does -/

section
variable {s : State} {src inst data : Nat}

theorem State.setQueue_cyc (q : Nat) (l : List EvtEntry) : (s.setQueue q l).evt.cyc = s.evt.cyc := by
  unfold State.setQueue
  split <;> rfl

theorem State.enqueue_cyc (q : Nat) (e : EvtEntry) : (s.enqueue q e).evt.cyc = s.evt.cyc := by
  unfold State.enqueue
  dsimp only
  split
  · exact State.setQueue_cyc q _
  · split <;> simp [State.setFlag_frame, State.incSat_frame, State.setQueue_cyc, State.logPush_evt, State.seen_frame]

theorem State.addEvent_cyc : (s.addEvent src inst data).evt.cyc = s.evt.cyc := by
  unfold State.addEvent
  dsimp only
  (repeat' split) <;>
    simp [State.incSat_frame, State.enqueue_cyc, State.setQueue_cyc, State.logPush_evt, State.seen_frame, State.logBump]

/-- Raising an event that stays last only adds it, and notes its source. -/
theorem State.raise_of_last (h : s.isLast src) : ∃ c, s.raise src inst data = (s.addEvent src inst data).withCyc c := by
  refine State.orderCycle_of_last s.mram.eseq ?_
  simpa only [State.isLast, State.addEvent_cyc, State.addEvent_frame] using h

theorem State.queue_withCyc (c : Nat × List Nat) (p : Nat) : (s.withCyc c).queue p = s.queue p := rfl

theorem State.standing_eq_none (h : ∀ x ∈ s.queue (s.srcQueue src), x.src ≠ src ∨ x.inst ≠ inst % 65536) :
    s.standing src inst = none := by
  refine List.find?_eq_none.mpr fun x hx => ?_
  rcases h x hx with h | h <;> simp [h]

theorem State.srcQueue_lt (s : State) (src : Nat) : s.srcQueue src < 2 := by
  unfold State.srcQueue
  split <;> decide

theorem State.queue_setQueue_beside {q : Nat} (hq : q < 2) (l : List EvtEntry) : (s.setQueue q l).queue (1 - q) = s.queue (1 - q) := by
  refine State.queue_setQueue_other s q (1 - q) l ?_
  rcases Nat.le_one_iff_eq_zero_or_eq_one.mp (Nat.lt_succ_iff.mp hq) with rfl | rfl <;> simp

theorem State.queue_setF (f : Field) (v p : Nat) : (s.setF f v).queue p = s.queue p := by
  simp [State.queue, State.setF_frame]

theorem State.queue_logBump (n p : Nat) : (s.logBump n).queue p = s.queue p := rfl

theorem State.logBuf_setQueue (q : Nat) (l : List EvtEntry) : (s.setQueue q l).evt.logBuf = s.evt.logBuf := by
  unfold State.setQueue
  split <;> rfl

/-! #### A new event, the map in force -/

section
variable (hsrc : src < 128) (hmap : s.sys.mapOn = true) (hlast : s.isLast src) (hnew : s.standing src inst = none)
include hsrc hmap hlast hnew

theorem State.raise_of_disabled (h : s.evtEnabled src = false) :
    ∃ c, s.raise src inst data = (s.noted src inst data).withCyc c := by
  obtain ⟨c, hraise⟩ := State.raise_of_last (inst := inst) (data := data) hlast
  exact ⟨c, by rw [hraise, State.addEvent_of_new hsrc hmap hnew, h]; rfl⟩

theorem State.raise_of_enabled (h : s.evtEnabled src = true) : ∃ c, s.raise src inst data =
    ((s.noted src inst data).enqueue (s.srcQueue src) (s.mkEntry ⟨src, inst, data⟩)).withCyc c := by
  obtain ⟨c, hraise⟩ := State.raise_of_last (inst := inst) (data := data) hlast
  exact ⟨c, by rw [hraise, State.addEvent_of_new hsrc hmap hnew, h]; rfl⟩

theorem State.raise_of_room (h : s.evtEnabled src = true) (hlen : (s.queue (s.srcQueue src)).length < 4095) :
    ∃ c, s.raise src inst data = ((s.noted src inst data).setQueue (s.srcQueue src)
      (s.queue (s.srcQueue src) ++ [s.mkEntry ⟨src, inst, data⟩])).withCyc c := by
  obtain ⟨c, hraise⟩ := State.raise_of_enabled (data := data) hsrc hmap hlast hnew h
  exact ⟨c, by rw [hraise, State.enqueue_of_room _ (by rwa [State.queue_noted]), State.queue_noted]⟩

/-- With room in its queue, or no place in one, an event's entry goes to the log with its own number. -/
theorem State.raise_logs (hlog : s.evt.logBuf.length < 64)
    (h : s.evtEnabled src = false ∨ (s.queue (s.srcQueue src)).length ≠ 4095) :
    (s.raise src inst data).evt.logBuf =
        s.evt.logBuf ++ [{ s.mkEntry ⟨src, inst, data⟩ with dropped := s.evt.logDropNext }] ∧
      (s.raise src inst data).mram.eseq = (s.mkEntry ⟨src, inst, data⟩).eseq := by
  have hnoted : (s.noted src inst data).evt.logBuf =
        s.evt.logBuf ++ [{ s.mkEntry ⟨src, inst, data⟩ with dropped := s.evt.logDropNext }] ∧
      (s.noted src inst data).mram.eseq = (s.mkEntry ⟨src, inst, data⟩).eseq :=
    ⟨State.noted_log hlog, by rw [State.noted_mram]⟩
  cases hen : s.evtEnabled src with
  | false =>
    obtain ⟨c, hraise⟩ := State.raise_of_disabled (data := data) hsrc hmap hlast hnew hen
    rw [hraise]
    exact hnoted
  | true =>
    obtain ⟨c, hraise⟩ := State.raise_of_enabled (data := data) hsrc hmap hlast hnew hen
    have hne : (s.queue (s.srcQueue src)).length ≠ 4095 := h.resolve_left (by simp [hen])
    rw [hraise]
    rcases Nat.lt_or_gt_of_ne hne with hroom | hfull
    · rw [State.enqueue_of_room _ (by rwa [State.queue_noted])]
      simpa [State.withCyc, State.setQueue] using (by split <;> exact hnoted)
    · rw [State.enqueue_of_full _ (by rwa [State.queue_noted])]
      simpa [State.withCyc, State.incSat_frame] using hnoted

/-- The 4,096th place of a queue goes to EVT_QUEUE_OVF. -/
theorem State.raise_of_lastPlace (h : s.evtEnabled src = true) (hlen : (s.queue (s.srcQueue src)).length = 4095) :
    ∃ o : EvtEntry, (s.raise src inst data).queue (s.srcQueue src) = s.queue (s.srcQueue src) ++ [o] ∧ o.src = 127 ∧
      o.inst = s.srcQueue src ∧ (s.raise src inst data).flag (EVT_QSTAT_OVF (s.srcQueue src)) = true := by
  obtain ⟨c, hraise⟩ := State.raise_of_enabled (data := data) hsrc hmap hlast hnew h
  obtain ⟨hosrc, hoinst, -, -, -⟩ := (s.noted src inst data).mkEntry_fields ⟨127, s.srcQueue src, 0⟩
  have hq := s.srcQueue_lt src
  refine ⟨(s.noted src inst data).ovfEntry (s.srcQueue src), ?_, hosrc, hoinst.trans (Nat.mod_eq_of_lt (show s.srcQueue src < 65536 by omega)), ?_⟩
  · rw [hraise, State.enqueue_of_last _ (by rwa [State.queue_noted]), State.queue_noted, State.queue_withCyc, State.setFlag,
      State.queue_setF, State.incSat, State.queue_setF, State.queue_setQueue_same]
  · rw [hraise, State.enqueue_of_last _ (by rwa [State.queue_noted])]
    exact State.flag_setFlag_same _ (EVT_QSTAT_OVF (s.srcQueue src)) true (by simp [EVT_QSTAT_OVF]) rfl

/-- R467: a full queue loses an event and counts it. -/
theorem State.raise_of_full (h : s.evtEnabled src = true) (hlen : 4095 < (s.queue (s.srcQueue src)).length) :
    (s.raise src inst data).queue (s.srcQueue src) = s.queue (s.srcQueue src) ∧
      (s.raise src inst data).getF (EVT_QCNT_DROP (s.srcQueue src)) = satInc 65535 (s.getF (EVT_QCNT_DROP (s.srcQueue src))) := by
  obtain ⟨c, hraise⟩ := State.raise_of_enabled (data := data) hsrc hmap hlast hnew h
  have hq := s.srcQueue_lt src
  have hkept : (s.noted src inst data).getF (EVT_QCNT_DROP (s.srcQueue src)) = s.getF (EVT_QCNT_DROP (s.srcQueue src)) :=
    State.getF_of_rd (State.rd_noted (by simp only [EVT_QCNT_DROP, EVT_QCNT, EVT_LOG_LOGDROP, EVT_LOG]; omega)
      (by simp only [EVT_QCNT_DROP, EVT_QCNT, EVT_SEEN_SEEN, EVT_SEEN]; omega))
  rw [hraise, State.enqueue_of_full _ (by rwa [State.queue_noted])]
  refine ⟨?_, ?_⟩
  · rw [State.queue_withCyc, State.incSat, State.queue_setF, State.queue_noted]
  · rw [← hkept]
    exact State.getF_incSat_same (by simp [Field.Fits, EVT_QCNT_DROP]) _
end

/-! #### Before step 8, and a further occurrence -/

theorem State.raise_of_noMap (hmap : s.sys.mapOn = false) (hlast : s.isLast src) :
    ∃ c, s.raise src inst data = ({ s.noted src inst data with
      evt := { (s.noted src inst data).evt with
        pre := (s.noted src inst data).evt.pre ++ [s.mkEntry ⟨src, inst, data⟩] } } : State).withCyc c := by
  obtain ⟨c, hraise⟩ := State.raise_of_last (inst := inst) (data := data) hlast
  exact ⟨c, by rw [hraise, State.addEvent_of_noMap hmap]⟩

/-- R468: a further occurrence only counts, in the queue and in the log. -/
theorem State.raise_of_standing {x : EvtEntry} (hsrc : src < 128) (hmap : s.sys.mapOn = true) (hco : evtNoCoalesce src = false)
    (hold : s.standing src inst = some x) :
    (s.raise src inst data).queue (s.srcQueue src) = bumpRep x.eseq (s.queue (s.srcQueue src)) ∧
      (s.raise src inst data).mram.eseq = s.mram.eseq ∧ (s.raise src inst data).evt.logBuf.length = s.evt.logBuf.length := by
  have hadd := State.addEvent_of_standing (data := data) hsrc hmap hco hold
  have hseq : (s.addEvent src inst data).mram.eseq = s.mram.eseq := by
    rw [hadd]
    simp [State.incSat_frame, State.logBump, State.setQueue_frame, State.seen_frame]
  rw [State.raise, State.orderCycle_of_standing hseq]
  refine ⟨?_, hseq, ?_⟩
  · rw [hadd, State.incSat, State.queue_setF, State.queue_logBump, State.queue_setQueue_same]
  · rw [hadd]
    simp [State.incSat_frame, State.logBump, bumpRep, State.logBuf_setQueue, State.seen_frame]
end

/-! #### Two events of one instant -/

theorem State.sameTime_raise (s : State) (src inst data : Nat) : (s.raise src inst data).SameTime s :=
  ⟨by simp [State.raise_frame], by simp [State.raise_frame], by simp [State.raise_frame], fun x hx => s.rd_raise src inst data x hx⟩

theorem State.SameTime.srcQueue {a b : State} (h : a.SameTime b) {src : Nat} (hsrc : src < 128) : a.srcQueue src = b.srcQueue src := by
  simp only [State.srcQueue, h.srcSecure hsrc]

theorem State.eseq_mkEntry (s : State) (e : EvtRaise) : (s.mkEntry e).eseq = (s.mram.eseq + 1) % 4294967296 := by
  obtain ⟨-, -, -, h, -⟩ := s.mkEntry_fields e
  exact h

theorem State.evtEnabled_of_regs {a b : State} (h : a.regs = b.regs) (src : Nat) : a.evtEnabled src = b.evtEnabled src := by
  simp only [State.evtEnabled, State.getF_of_regs h]

theorem State.addEvent_of_room {s : State} {src inst data : Nat} (hsrc : src < 128) (hmap : s.sys.mapOn = true)
    (hnew : s.standing src inst = none) (h : s.evtEnabled src = true) (hlen : (s.queue (s.srcQueue src)).length < 4095) :
    s.addEvent src inst data = (s.noted src inst data).setQueue (s.srcQueue src)
      (s.queue (s.srcQueue src) ++ [s.mkEntry ⟨src, inst, data⟩]) := by
  rw [State.addEvent_of_new hsrc hmap hnew, h, if_pos rfl, State.enqueue_of_room _ (by rwa [State.queue_noted]), State.queue_noted]

section
variable {s : State} {x ix dx : Nat} (hmap : s.sys.mapOn = true) (hx : x < 127) (hcyc : s.evt.cyc.1 ≠ s.now)
  (henx : s.evtEnabled x = true) (hempty : s.queue (s.srcQueue x) = [])
include hmap hx hcyc henx hempty

/-- The first of two: its queue holds its entry alone, and it is the instant's only source. -/
theorem State.raise_of_first : s.raise x ix dx =
    ((s.noted x ix dx).setQueue (s.srcQueue x) [s.mkEntry ⟨x, ix, dx⟩]).withCyc (s.now, [x]) := by
  have hnew : s.standing x ix = none := State.standing_eq_none (by simp [hempty])
  have hadd := State.addEvent_of_room (data := dx) (by omega) hmap hnew henx (by simp [hempty])
  rw [hempty, List.nil_append] at hadd
  have hnow : (s.addEvent x ix dx).now = s.now := by simp [State.addEvent_frame]
  have hseq : (s.addEvent x ix dx).mram.eseq = (s.mram.eseq + 1) % 4294967296 := by
    rw [hadd]
    simp [State.setQueue_frame, State.noted_mram, s.eseq_mkEntry]
  rw [State.raise, State.orderCycle_of_first x s.mram.eseq (by rwa [State.addEvent_cyc, hnow]) hseq, hnow, hadd]

/-- What the first of two leaves for the second. -/
theorem State.raise_of_first_leaves {y : Nat} (hy : y < 128) : (s.raise x ix dx).queue (s.srcQueue x) = [s.mkEntry ⟨x, ix, dx⟩] ∧
    (s.raise x ix dx).mram.eseq = (s.mram.eseq + 1) % 4294967296 ∧ (s.raise x ix dx).evt.cyc = (s.now, [x]) ∧
    (s.raise x ix dx).evtEnabled y = s.evtEnabled y := by
  rw [State.raise_of_first hmap hx hcyc henx hempty]
  refine ⟨State.queue_setQueue_same _ _ _, ?_, rfl, ?_⟩
  · simp [State.withCyc, State.setQueue_frame, State.noted_mram, s.eseq_mkEntry]
  · rw [← State.evtEnabled_noted (s := s) (src := x) (inst := ix) (data := dx) (by omega) hy]
    exact State.evtEnabled_of_regs (by simp [State.withCyc, State.setQueue_frame]) y
end

theorem State.raise_second {s : State} {x ix dx y iy dy : Nat} (hmap : s.sys.mapOn = true) (hxy : y < x) (hx : x < 127)
    (hcyc : s.evt.cyc.1 ≠ s.now) (henx : s.evtEnabled x = true) (heny : s.evtEnabled y = true)
    (hworld : s.srcSecure x = s.srcSecure y) (hempty : s.queue (s.srcQueue x) = []) :
    ((s.raise x ix dx).raise y iy dy).queue (s.srcQueue x) =
      [s.mkEntry ⟨y, iy, dy⟩, { s.mkEntry ⟨x, ix, dx⟩ with eseq := (s.mram.eseq + 2) % 4294967296 }] := by
  have htime := s.sameTime_raise x ix dx
  obtain ⟨hqueue, hseq, hcycle, henabled⟩ := State.raise_of_first_leaves (ix := ix) (dx := dx) hmap hx hcyc henx hempty (y := y) (by omega)
  generalize s.raise x ix dx = r at *
  have hq : r.srcQueue y = s.srcQueue x := by rw [htime.srcQueue (by omega), State.srcQueue, State.srcQueue, hworld]
  obtain ⟨hsrc, -, -, -, -⟩ := s.mkEntry_fields ⟨x, ix, dx⟩
  have hnew : r.standing y iy = none := State.standing_eq_none (by
    rw [hq, hqueue]
    simp only [List.mem_singleton, forall_eq, hsrc]
    exact .inl (Nat.ne_of_gt hxy))
  have hadd := State.addEvent_of_room (data := dy) (by omega) (htime.sys ▸ hmap) hnew (henabled.trans heny) (by simp [hq, hqueue])
  have hentry : r.mkEntry ⟨y, iy, dy⟩ = { s.mkEntry ⟨y, iy, dy⟩ with eseq := (s.mram.eseq + 2) % 4294967296 } := by
    have hnext : ((s.mram.eseq + 1) % 4294967296 + 1) % 4294967296 = (s.mram.eseq + 2) % 4294967296 := by omega
    rw [htime.mkEntry, hseq, hnext]
  rw [hq, hqueue, hentry] at hadd
  have hlogged : (r.addEvent y iy dy).mram.eseq = (s.mram.eseq + 2) % 4294967296 := by
    rw [hadd]
    simp [State.setQueue_frame, State.noted_mram, hentry]
  have hcyc' : (r.addEvent y iy dy).evt.cyc = ((r.addEvent y iy dy).now, [x]) := by
    rw [State.addEvent_cyc, hcycle, ← htime.now]
    simp [State.addEvent_frame]
  have hbefore := State.orderCycle_of_before hcyc' hxy (e0 := r.mram.eseq) (by omega) (s.srcQueue x)
  have hnext : ((s.mram.eseq + 1) % 4294967296 + 1) % 4294967296 = (s.mram.eseq + 2) % 4294967296 := by omega
  have hpair := reOrder_pair (a := s.mkEntry ⟨x, ix, dx⟩) (b := { s.mkEntry ⟨y, iy, dy⟩ with eseq := (s.mram.eseq + 2) % 4294967296 })
    (by simp only [State.eseq_mkEntry]; omega) (by simp only [State.eseq_mkEntry]; omega) (by simp only [State.eseq_mkEntry]; omega)
    (by simp only [State.eseq_mkEntry]; omega)
  rw [State.raise, hbefore, hadd, State.queue_setQueue_same, hseq, hnext, List.singleton_append, hpair, State.eseq_mkEntry,
    ← s.eseq_mkEntry ⟨y, iy, dy⟩]

/-- Settles O52: where an event's entry goes is one lemma per state of its queue; two of one instant change places. -/
theorem eventsRaised : Obligations.EventsRaised := by
  refine ⟨?one, ?two⟩
  case two => exact fun s x ix dx y iy dy hmap hxy hx hcyc henx heny hworld hempty =>
    State.raise_second hmap hxy hx hcyc henx heny hworld hempty
  intro s src inst data hsrc r q e fresh
  have hlt : src < 128 := by omega
  have hq : q < 2 := s.srcQueue_lt src
  refine ⟨s.mkEntry_fields ⟨src, inst, data⟩, fun hmap hlast => ?noMap, fun hmap hfresh hlog h => ?logs, fun hmap hfresh hen hlen => ?room,
    fun hmap hfresh hen => ?disabled, fun hmap hfresh hen hlen => ?lastPlace, fun hmap hfresh hen hlen => ?full,
    fun x hmap hco hold => ?standing⟩
  case noMap =>
    obtain ⟨c, hraise⟩ := State.raise_of_noMap (inst := inst) (data := data) hmap hlast
    obtain ⟨h0, h1, hpre, -⟩ := State.noted_evt (s := s) (src := src) (inst := inst) (data := data)
    have hmram := State.noted_mram (s := s) (src := src) (inst := inst) (data := data)
    simp [r, hraise, State.withCyc, State.queue, h0, h1, hpre, hmram, e]
  case logs => exact State.raise_logs hlt hmap hfresh.1 (State.standing_eq_none hfresh.2) hlog h
  case room =>
    obtain ⟨c, hraise⟩ := State.raise_of_room (data := data) hlt hmap hfresh.1 (State.standing_eq_none hfresh.2) hen hlen
    refine ⟨?_, ?_⟩ <;> rw [show r = _ from hraise, State.queue_withCyc]
    · exact State.queue_setQueue_same _ _ _
    · exact (State.queue_setQueue_beside hq _).trans (State.queue_noted _)
  case disabled =>
    obtain ⟨c, hraise⟩ := State.raise_of_disabled (data := data) hlt hmap hfresh.1 (State.standing_eq_none hfresh.2) hen
    rw [show r = _ from hraise, State.queue_withCyc, State.queue_noted]
  case lastPlace => exact State.raise_of_lastPlace hlt hmap hfresh.1 (State.standing_eq_none hfresh.2) hen hlen
  case full => exact State.raise_of_full hlt hmap hfresh.1 (State.standing_eq_none hfresh.2) hen hlen
  case standing => exact State.raise_of_standing hlt hmap hco hold

end Sys2Proof.Machine

/-!
The map of step 8 (R484): before it every address from window 4 up reads 0 and refuses writes; step 8 loads the WORLDMAP section into
SEC_WMAP, below which no other part of the load writes.
-/
namespace Sys2Proof.Machine

/-! ### The family a register belongs to (R483) -/

theorem famAt_some {a : Nat} {l : List RegFam} {f : RegFam} {i j : Nat} (h : famAt a l = some (f, i, j)) :
    f ∈ l ∧ i < f.n1 ∧ j < f.n2 ∧ a = f.base + i * f.s1 + j * f.s2 := by
  induction l with
  | nil => cases h
  | cons g l ih =>
    rw [famAt] at h
    generalize (if g.n1 ≤ 1 then 0 else (a - g.base) / g.s1) = i' at h
    generalize (if g.n2 ≤ 1 then 0 else _) = j' at h
    by_cases hin : g.base ≤ a ∧ i' < g.n1 ∧ j' < g.n2 ∧ a = g.base + i' * g.s1 + j' * g.s2
    · rw [if_pos hin] at h
      obtain ⟨-, hi, hj, ha⟩ := hin
      cases h
      exact ⟨List.mem_cons_self, hi, hj, ha⟩
    · rw [if_neg hin] at h
      obtain ⟨hmem, hrest⟩ := ih h
      exact ⟨List.mem_cons_of_mem g hmem, hrest⟩

theorem regFamsOf_subset (a : Nat) : regFamsOf a ⊆ regFams := by
  unfold regFamsOf
  split <;> intro f hf <;> simp only [regFams, List.mem_append, List.not_mem_nil] at hf ⊢ <;> tauto

/-- The register at an address, by its family. -/
theorem regAt_some {a : Nat} {f : RegFam} {i j : Nat} (h : regAt a = some (f, i, j)) :
    f ∈ regFams ∧ i < f.n1 ∧ j < f.n2 ∧ a = f.base + i * f.s1 + j * f.s2 := by
  obtain ⟨hmem, hrest⟩ := famAt_some h
  exact ⟨regFamsOf_subset a hmem, hrest⟩

/-- The family of REC_CCTL. -/
def famCctl : RegFam := ⟨.REC_CCTL, 0x100014, 8, 0x40, 1, 0x0, 0x0, 0x0, 0x0, 0x0, 0xf, 0x0, 0x0, 0x0, 0x0⟩

theorem filter_REC_CCTL : regFams.filter (fun f => f.name = .REC_CCTL) = [famCctl] := by decide

theorem eq_famCctl {f : RegFam} (hf : f ∈ regFams) (hname : f.name = .REC_CCTL) : f = famCctl := by
  have hmem : f ∈ regFams.filter (fun f => f.name = .REC_CCTL) := List.mem_filter.mpr ⟨hf, by simpa using hname⟩
  rwa [filter_REC_CCTL, List.mem_singleton] at hmem

theorem regAt_REC_CCTL {a : Nat} {f : RegFam} {i j : Nat} (h : regAt a = some (f, i, j)) (hname : f.name = .REC_CCTL) :
    a = REC_CCTL i := by
  obtain ⟨hmem, -, hj, ha⟩ := regAt_some h
  obtain rfl := eq_famCctl hmem hname
  have hj0 : j = 0 := Nat.lt_one_iff.mp hj
  simp only [famCctl] at ha
  simp only [REC_CCTL]
  omega

/-! ### No map in force -/

section
variable {s : State} (h : s.sys.mapOn = false) (r : Requester) {a : Nat}
include h

theorem State.judge_noMap (ha : 0x20000 ≤ a) : s.judge r a = .noMap := by
  rw [State.judge_of_noMap h, if_neg (by omega)]

theorem State.hostWrite_noMap (ha : 0x20000 ≤ a) (eff : State → Status × State) :
    s.hostWrite r a eff = (.stateDenied, s.recordWrite r a .stateDenied) := by
  simp [State.hostWrite, State.judge_noMap h r ha]

theorem State.cctlWrite_noMap (i v : Nat) :
    s.cctlWrite r i v = (.stateDenied, s.recordWrite r (REC_CCTL i) .stateDenied) := by
  have ha : 0x20000 ≤ REC_CCTL i := by simp only [REC_CCTL]; omega
  simp [State.cctlWrite, State.hostWrite_noMap h r ha, State.judge_noMap h r ha]

theorem State.segWrite_noMap (ha : 0x20000 ≤ a) (g : Nat) (eff : State → Status × State) :
    s.segWrite r a g eff = (.stateDenied, s.recordWrite r a .stateDenied) := by
  simp [State.segWrite, State.hostWrite_noMap h r ha, State.judge_noMap h r ha]

theorem State.readWord_noMap (ha : 0x20000 ≤ a) : s.readWord r a = (0, s) := by
  unfold State.readWord
  split
  · simp [State.hostRead, State.judge_noMap h r ha]
  · split <;> simp [State.windowRead, h]

theorem State.writeWord_noMap (ha : 0x20000 ≤ a) (v : Nat) : s.writeWord r a v = (.stateDenied, s.recordWrite r a .stateDenied) := by
  unfold State.writeWord
  split
  · split
    next f i j hreg =>
      split
      next hname => rw [State.cctlWrite_noMap h r, regAt_REC_CCTL hreg hname]
      next =>
        split
        · exact State.segWrite_noMap h r ha _ _
        · exact State.hostWrite_noMap h r ha _
    next => simp [State.judge_noMap h r ha, State.hostWrite_noMap h r ha]
  · split <;> simp [State.windowWrite, h]
end

/-! ### What a load writes below 0x0004_0000 -/

section
variable (s : State) (x : Nat)

theorem State.rd_fltSet (v : FltSt) : ({ s with flt := v } : State).rd x = s.rd x := rfl

theorem State.rd_prtSet (v : PrtSt) : ({ s with prt := v } : State).rd x = s.rd x := rfl

theorem State.rd_auxSet (v : AuxSt) : ({ s with aux := v } : State).rd x = s.rd x := rfl

theorem State.rd_evtSet (v : EvtSt) : ({ s with evt := v } : State).rd x = s.rd x := rfl

theorem State.rd_timSet (v : TimSt) : ({ s with tim := v } : State).rd x = s.rd x := rfl

theorem State.rd_trpLgcSet (t : TrpSt) (l : LgcSt) : ({ s with trp := t, lgc := l } : State).rd x = s.rd x := rfl

theorem State.rd_loadRec (slots : List Nat) : (s.loadRec slots).rd x = s.rd x :=
  State.rd_of_regs (by simp [State.loadRec_frame]) x

theorem State.rd_setFch (c : Nat) (v : FltChan) : (s.setFch c v).rd x = s.rd x := rfl

theorem State.rd_setPod (p : Nat) (v : PodInt) : (s.setPod p v).rd x = s.rd x := rfl
end

section
variable {x : Nat} (hx : x < 0x40000)
include hx

theorem State.rd_setF_high (s : State) (f : Field) (v : Nat) (hf : 0x40000 ≤ f.addr) : (s.setF f v).rd x = s.rd x :=
  State.rd_setF_other s f v x (by omega)

theorem State.rd_loadRefs (s : State) : s.loadRefs.rd x = s.rd x := by
  refine State.rd_foldl _ _ _ _ fun g _ s => ?_
  rw [State.rd_setF_high hx _ _ _ (by simp only [CNV_REFREQ_REF_REQ, CNV_REFREQ]; omega),
    State.rd_setF_high hx _ _ _ (by simp only [CNV_GSTAT_REF_ACT, CNV_GSTAT]; omega)]

theorem State.rd_setBank (s : State) (g st b : Nat) (c : CoefBank) : (s.setBank g st b c).rd x = s.rd x := by
  rw [State.setBank, State.rd_setF_high hx _ _ _ (by simp only [FLT_GSTAT_VALID, FLT_GSTAT]; omega), State.rd_fltSet]

theorem State.rd_loadBanks (s : State) (img : Image) : (s.loadBanks img).rd x = s.rd x := by
  refine State.rd_foldl _ _ _ _ fun g _ s => ?_
  rw [State.setFgrp, State.rd_fltSet]
  exact State.rd_foldl _ _ _ _ fun k _ s => State.rd_setBank hx s _ _ _ _

theorem State.rd_loadFilter (s : State) : s.loadFilter.rd x = s.rd x := by
  rw [State.loadFilter, State.rd_setF_high hx _ _ _ (by decide), State.rd_setF_high hx _ _ _ (by decide),
    State.rd_foldl _ _ _ _ fun c _ s => State.rd_setFch s x c _, State.rd_fltSet]

theorem State.rd_statSet (s : State) (i v w u : Nat) :
    (((s.setF (PRT_ST_DIR i) v).setF (PRT_ST_GRP i) w).setF (PRT_ST_TAG i) u).rd x = s.rd x := by
  rw [State.rd_setF_high hx _ _ _ (by simp only [PRT_ST_TAG, PRT_ST]; omega),
    State.rd_setF_high hx _ _ _ (by simp only [PRT_ST_GRP, PRT_ST]; omega),
    State.rd_setF_high hx _ _ _ (by simp only [PRT_ST_DIR, PRT_ST]; omega)]

theorem State.rd_loadInst (s : State) (i : Nat) : (s.loadInst i).rd x = s.rd x := by
  unfold State.loadInst
  dsimp only
  split
  · rfl
  · split
    · rw [State.setInst, State.rd_prtSet, State.rd_statSet hx]
    · exact State.rd_statSet hx s _ _ _ _

theorem State.rd_loadProt (s : State) (img : Image) : (s.loadProt img).rd x = s.rd x := by
  unfold State.loadProt
  dsimp only
  rw [State.rd_foldl _ _ _ _ fun i _ s => State.rd_loadInst hx s i,
    State.rd_foldl _ _ _ _ fun z _ s => State.rd_setF_high hx s _ _ (by simp only [PRT_ZSTAT_MEMB, PRT_ZSTAT]; omega),
    State.rd_foldl _ _ _ _ fun b _ s => State.rd_setF_high hx s _ _ (by simp only [PRT_BSTAT_GRP, PRT_BSTAT]; omega), State.rd_prtSet]

theorem State.rd_loadPods (s : State) (d : Nat) : (s.loadPods d).rd x = s.rd x := by
  refine State.rd_foldl _ _ _ _ fun p _ s => ?_
  rw [State.setRun, State.rd_setF_high hx _ _ _ (by simp only [POD_STAT_READER, POD_STAT]; omega),
    State.rd_setF_high hx _ _ _ (by simp only [POD_STAT_RUN, POD_STAT]; omega),
    State.rd_setF_high hx _ _ _ (by simp only [POD_STAT_STATE, POD_STAT]; omega), State.rd_setPod]

theorem State.rd_loadLogic (s : State) (img : Image) (slot : Nat) : (s.loadLogic img slot).rd x = s.rd x := by
  unfold State.loadLogic
  dsimp only
  rw [State.rd_setF_high hx _ _ _ (by decide), State.setLgcOut,
    State.rd_foldl _ _ _ _ fun w _ s => State.rd_setF_high hx s _ _ (by simp only [LGC_OUT_OUT, LGC_OUT]; omega)]
  exact State.rd_trpLgcSet s x _ _

theorem State.rd_tbLoaded (s : State) (b v : Nat) : ((s.setF (TIM_STAT_STATE b) v).setQual b).rd x = s.rd x := by
  rw [State.setQual, State.rd_setF_high hx _ _ _ (by simp only [TIM_STAT_QUAL, TIM_STAT]; omega),
    State.rd_setF_high hx _ _ _ (by simp only [TIM_STAT_STATE, TIM_STAT]; omega)]

theorem State.rd_loadTime (s : State) : s.loadTime.rd x = s.rd x := by
  unfold State.loadTime
  dsimp only
  rw [State.rd_foldl _ _ _ _ fun b _ s => State.rd_tbLoaded hx s b _, State.rd_setF_high hx _ _ _ (by decide), State.rd_timSet]

theorem State.rd_loadComm (s : State) (img : Image) : (s.loadComm img).rd x = s.rd x := by
  rw [State.loadComm, State.rd_setF_high hx _ _ _ (by decide)]
  rfl

theorem State.rd_auxDrop (s : State) (n : Nat) : (s.auxDrop n).rd x = s.rd x := by
  unfold State.auxDrop State.addSat State.setFlag
  dsimp only
  split
  · rw [State.rd_setF_high hx _ _ _ (by decide), State.rd_auxSet]
  · rw [State.rd_raise _ _ _ _ _ (by omega), State.rd_setF_high hx _ _ _ (by decide), State.rd_setF_high hx _ _ _ (by decide),
      State.rd_auxSet]

theorem State.rd_auxPush (s : State) (e : AuxEntry) : (s.auxPush e).rd x = s.rd x := by
  unfold State.auxPush State.auxStore
  split
  · split
    · rfl
    · exact State.rd_auxDrop hx s 1
  · rfl

theorem State.rd_auxRun (s : State) : s.auxRun.rd x = s.rd x := by
  unfold State.auxRun State.auxSeq State.incWrap State.setFlag
  dsimp only
  rw [State.rd_setF_high hx _ _ _ (by decide), State.rd_auxSet, State.rd_setF_high hx _ _ _ (by decide), State.rd_auxPush hx,
    State.rd_setF_high hx _ _ _ (by decide), State.rd_auxSet]

theorem State.rd_queuePre (s : State) : s.queuePre.rd x = s.rd x := by
  refine (State.rd_foldl _ _ _ _ fun e _ s => ?_).trans (State.rd_evtSet s x _)
  split
  · exact State.rd_enqueue _ _ _ _ (by omega)
  · rfl

end

/-! ### Step 8 in its parts -/

/-- The islands as step 8 loads them. -/
def State.islandsLoaded (s : State) (img : Image) : State :=
  let slot := s.sys.slot
  let s := ((s.withImage img).keepMeasured s).loadIdent (s.hdrOf slot) img
  let s := (((s.loadRefs).loadBanks img).loadFilter).loadProt img
  ((((s.loadPods img.digest).loadLogic img slot).loadRec img.slots).loadTime).loadComm img

/-- Step 8 is reached: the boot record names the slot, the map is in force. -/
def State.stepEight (s : State) (img : Image) (slot : Nat) : State :=
  let s := s.bootUpd (fun b => { b with booted := slot })
  let s := s.sysUpd (fun x => { x with
    step := 8, mapOn := true, ballMap := img.ballMap, rp0 := img.restart, ran := false, caps := [none, none] })
  { s with sec := { s.sec with limit := [none, none] } }

/-- The auxiliary sequencer starts with an image that says so. -/
def State.autoAux (s : State) (img : Image) : State := if img.auxAuto then s.auxRun else s

theorem State.startIslands_eq (s : State) (img : Image) :
    let u := ((s.islandsLoaded img).stepEight img s.sys.slot).autoAux img
    s.startIslands img = u.queuePre.raise 126 s.sys.slot (u.mram.boot.startCause + 256 * u.sys.prevSafe) := rfl

/-- What a load writes below 0x0004_0000 is what the header and the WORLDMAP section give. -/
theorem State.rd_startIslands {x : Nat} (hx : x < 0x40000) (s : State) (img : Image) :
    (s.startIslands img).rd x = (((s.withImage img).keepMeasured s).loadIdent (s.hdrOf s.sys.slot) img).rd x := by
  have hstep : ((s.islandsLoaded img).stepEight img s.sys.slot).rd x = (s.islandsLoaded img).rd x :=
    State.rd_of_regs (by simp [State.stepEight, State.sysUpd_frame, State.bootUpd_frame]) x
  have haux : (((s.islandsLoaded img).stepEight img s.sys.slot).autoAux img).rd x = (s.islandsLoaded img).rd x := by
    unfold State.autoAux
    split
    · rw [State.rd_auxRun hx, hstep]
    · exact hstep
  rw [State.startIslands_eq, State.rd_raise _ _ _ _ _ (by omega), State.rd_queuePre hx, haux, State.islandsLoaded, State.rd_loadComm hx,
    State.rd_loadTime hx, State.rd_loadRec, State.rd_loadLogic hx, State.rd_loadPods hx, State.rd_loadProt hx, State.rd_loadFilter hx,
    State.rd_loadBanks hx, State.rd_loadRefs hx]

theorem State.islandsLoaded_frame (s : State) (img : Image) : (s.islandsLoaded img).sys = s.sys ∧
    (s.islandsLoaded img).mode = s.mode ∧ (s.islandsLoaded img).now = s.now := by
  simp [State.islandsLoaded, State.loadComm_frame, State.loadTime_frame, State.loadRec_frame, State.loadLogic_frame, State.loadPods_frame,
    State.loadProt_frame, State.loadFilter_frame, State.loadBanks_frame, State.loadRefs_frame, State.loadIdent_frame,
    State.keepMeasured_frame, State.withImage_frame]

theorem State.autoAux_frame (s : State) (img : Image) : (s.autoAux img).sys = s.sys ∧ (s.autoAux img).mram.boot = s.mram.boot := by
  unfold State.autoAux
  split <;> simp [State.auxRun_frame]

theorem State.sys_startIslands (s : State) (img : Image) : (s.startIslands img).sys =
    { s.sys with step := 8, mapOn := true, ballMap := img.ballMap, rp0 := img.restart, ran := false, caps := [none, none] } := by
  obtain ⟨hsys, -, -⟩ := s.islandsLoaded_frame img
  have hstep : ((s.islandsLoaded img).stepEight img s.sys.slot).sys = { s.sys with
      step := 8, mapOn := true, ballMap := img.ballMap, rp0 := img.restart, ran := false, caps := [none, none] } := by
    simp [State.stepEight, State.sysUpd, State.bootUpd_frame, hsys]
  rw [State.startIslands_eq]
  simp [State.raise_frame, State.queuePre_frame, State.autoAux_frame, hstep]

theorem State.booted_startIslands (s : State) (img : Image) : (s.startIslands img).mram.boot.booted = s.sys.slot := by
  have hstep : ((s.islandsLoaded img).stepEight img s.sys.slot).mram.boot.booted = s.sys.slot := rfl
  rw [State.startIslands_eq]
  simp only [State.raise_frame, State.queuePre_frame, State.autoAux_frame, hstep]

/-! ### The map of the loaded image (R428) -/

theorem State.getF_worldMap (s : State) (m : List Nat) {n k : Nat} (hk : k < n) :
    ((upto n).foldl (fun s w => s.setF (SEC_WMAP_MAP w) (lget 0 m w)) s).getF (SEC_WMAP_MAP k) = lget 0 m k % 2 ^ 32 := by
  induction n with
  | zero => exact absurd hk (Nat.not_lt_zero k)
  | succ n ih =>
    rw [upto, List.range_succ, List.foldl_append, List.foldl_cons, List.foldl_nil]
    rcases Nat.lt_succ_iff_lt_or_eq.mp hk with hlt | rfl
    · rw [State.getF_of_rd (State.rd_setF_other _ _ _ _ (by simp only [SEC_WMAP_MAP, SEC_WMAP]; omega))]
      exact ih hlt
    · exact State.getF_setF_same _ _ _ (by simp [SEC_WMAP_MAP])

theorem State.getF_loadIdent (s : State) (h : ImgHdr) (img : Image) {k : Nat} (hk : k < 8) :
    (s.loadIdent h img).getF (SEC_WMAP_MAP k) = lget 0 img.worldMap k % 2 ^ 32 := by
  rw [State.loadIdent, State.getF_of_rd (State.rd_setF_other _ _ _ _ (by
    simp only [SEC_WMAP_MAP, SEC_WMAP, SEC_STAT_BOOTKEY, SEC_STAT]; omega))]
  exact State.getF_worldMap _ _ hk

theorem State.getF_startIslands (s : State) (img : Image) {k : Nat} (hk : k < 8) :
    (s.startIslands img).getF (SEC_WMAP_MAP k) = lget 0 img.worldMap k % 2 ^ 32 := by
  have haddr : (SEC_WMAP_MAP k).addr < 0x40000 := by simp only [SEC_WMAP_MAP, SEC_WMAP]; omega
  rw [State.getF_of_rd (State.rd_startIslands haddr s img), State.getF_loadIdent _ _ _ hk]

theorem imageValidationEff_of_valid {s : State} {img : Image} (hmode : s.mode = .boot) (hstep : s.sys.step = 6)
    (hcand : s.sys.cand = some img) (hvalid : s.validate img (s.hdrOf s.sys.slot).config = none) :
    imageValidationEff s = (s.report s.sys.slot resetReport).startIslands img := by
  simp [imageValidationEff, hmode, hstep, hcand, hvalid]

/-- Settles O53: without a map each access by the kind of its address; step 8 by what its load leaves in SEC_WMAP. -/
theorem noMapBeforeStepEight : Obligations.NoMapBeforeStepEight := by
  refine ⟨?noMap, ?stepEight, fun s s' => step_mapOn, fun s c => by simp [State.enterSafe_frame]⟩
  case noMap =>
    intro s r a v hmap
    refine ⟨fun ha => ?_, fun ha _ => State.readWord_noMap hmap r ha, fun ha _ => State.writeWord_noMap hmap r ha v⟩
    rw [State.judge_of_noMap hmap, if_pos (by omega)]
  case stepEight =>
    intro t img s a hmode hstep hcand hvalid
    refine ⟨_, exec_of_eq (exec_imageValidation t s) (imageValidationEff_of_valid hmode hstep hcand hvalid), ?_, fun k hk =>
      State.getF_startIslands _ img hk⟩
    rw [State.sys_startIslands]

end Sys2Proof.Machine

/-!
The steps of a start (R405, R407, R408, R414 to R416): each step's command, when it is due, and what a slot that fails leads to.
-/
namespace Sys2Proof.Machine

/-! ### A slot is tried (R408, R416) -/

/-- The state with the start at a step. -/
def State.toStep (s : State) (n : Nat) : State := { s with sys := { s.sys with step := n } }

theorem State.startSlot_of_ok {s : State} (h : hdrOk (s.hdrOf s.sys.slot) = true) : s.startSlot = s.toStep 3 := by
  rw [State.startSlot, if_pos h]
  rfl

theorem State.startSlot_of_bad {s : State} (h : hdrOk (s.hdrOf s.sys.slot) = false) : s.startSlot = s.slotFailed (hdrFail 3) := by
  rw [State.startSlot, if_neg (by simp [h])]

/-- The failure of a slot in its report and as an event. -/
def State.slotReported (s : State) (r : LoadReport) : State := (s.report s.sys.slot r).raise 120 s.sys.slot r.status

/-- The other slot is to be tried. -/
def State.otherSlot (s : State) (r : LoadReport) : State :=
  (s.slotReported r).sysUpd (fun x => { x with tried := [s.sys.slot], slot := 1 - s.sys.slot, cand := none })

theorem State.hdrOf_otherSlot (s : State) (r : LoadReport) (k : Nat) : (s.otherSlot r).hdrOf k = s.hdrOf k := by
  simp [State.hdrOf, State.otherSlot, State.sysUpd, State.slotReported, State.raise_frame, State.report_frame]

/-- R416: the first slot of a start fails. -/
theorem State.slotFailed_of_first {s : State} (r : LoadReport) (h : s.sys.tried = []) : s.slotFailed r =
    if hdrOk (s.hdrOf (1 - s.sys.slot)) then (s.otherSlot r).sysUpd (fun x => { x with step := 3 })
    else (s.otherSlot r).bothInvalid (hdrFail 3) := by
  have hslot : (s.otherSlot r).sys.slot = 1 - s.sys.slot := rfl
  rw [State.slotFailed, if_neg (by simp [h])]
  change (if hdrOk ((s.otherSlot r).hdrOf (s.otherSlot r).sys.slot) then (s.otherSlot r).sysUpd (fun x => { x with step := 3 })
    else (s.otherSlot r).bothInvalid (hdrFail 3)) = _
  rw [hslot, State.hdrOf_otherSlot]

theorem State.slotFailed_of_second {s : State} (r : LoadReport) (h : s.sys.tried ≠ []) :
    s.slotFailed r = (s.report s.sys.slot r).enterSafe 1 := by
  have hne : s.sys.tried.isEmpty = false := by simpa using h
  simp [State.slotFailed, hne, State.bothInvalid]

/-! ### Steps 1 to 3 (R405, R407) -/

/-- Steps 1 and 2 with the random-number source and the flash in order. -/
def State.stepsDone (s : State) (hdrs : List ImgHdr) (hold : Bool) : State :=
  { s with sec := { s.sec with trngOk := true }, sys := { s.sys with step := 2, hdrs := hdrs, flashFast := true, held := hold } }

theorem State.stepTwo_of_ok (s : State) (hdrs : List ImgHdr) (hold : Bool) :
    s.stepTwo hdrs true true hold = if hold then s.stepsDone hdrs hold else (s.stepsDone hdrs hold).startSlot := rfl

/-- The state as power-on reset leaves it when it is released. -/
def State.porReleased (s : State) (straps : Straps) : State :=
  { s with
    sys := { s.sys with por := false, straps := straps, refPresent := true }
    trp := { s.trp with lvlArm := 0, lvlFire := 0, wdLevel := false } }

theorem powerOnResetReleaseEff_of_por {s : State} (straps : Straps) (hdrs : List ImgHdr) (h : s.sys.por = true) :
    powerOnResetReleaseEff straps hdrs true true s =
      (((s.porReleased straps).chooseSlot straps.hold).startRecord 0).stepTwo hdrs true true straps.hold := by
  rw [powerOnResetReleaseEff, if_neg (by simp [h])]
  rfl

theorem bootHoldFallEff_of_held {s : State} (hdrs : List ImgHdr) (hheld : s.sys.held = true) (hmode : s.mode = .boot) :
    bootHoldFallEff hdrs s =
      ({ s with sys := { s.sys with held := false, hdrs := hdrs, tap := tapUnheld s.sys.tap } } : State).startSlot := by
  simp [bootHoldFallEff, hheld, hmode, State.sysUpd]

/-! ### Steps 4 to 9 -/

section
variable {s : State} (hmode : s.mode = .boot)
include hmode

theorem imageHashDoneEff_of_due (sig : Bool) (hheld : s.sys.held = false) (hstep : s.sys.step = 3) : imageHashDoneEff sig s =
    if s.sigCheck (s.hdrOf s.sys.slot) sig then s.toStep 4 else s.slotFailed (hdrFail 4) := by
  simp [imageHashDoneEff, hmode, hheld, hstep, State.sysUpd, State.toStep]

theorem lpddr4xTrainingDoneEff_of_due (ok : Bool) (hheld : s.sys.held = false) (hstep : s.sys.step = 3 ∨ s.sys.step = 4)
    (htrained : s.sys.trained = false) : lpddr4xTrainingDoneEff ok s =
      if ok then { s with sys := { s.sys with trained := true } } else s.enterSafe 2 := by
  rcases hstep with hstep | hstep <;> simp [lpddr4xTrainingDoneEff, hmode, hheld, hstep, htrained, State.sysUpd]

theorem sectionsLoadedEff_of_good {img : Image} {bad : List Nat} (hstep : s.sys.step = 4) (htrained : s.sys.trained = true)
    (h : sectionsCheck (s.hdrOf s.sys.slot) img bad = none) : sectionsLoadedEff img bad s =
      { s with sys := { s.sys with step := 6, cand := some (heldBy img.dir img) } } := by
  simp [sectionsLoadedEff, hmode, hstep, htrained, h, State.sysUpd]

theorem sectionsLoadedEff_of_bad {img : Image} {bad : List Nat} {r : LoadReport} (hstep : s.sys.step = 4)
    (htrained : s.sys.trained = true) (h : sectionsCheck (s.hdrOf s.sys.slot) img bad = some r) :
    sectionsLoadedEff img bad s = s.slotFailed r := by
  simp [sectionsLoadedEff, hmode, hstep, htrained, h]

theorem imageValidationEff_of_invalid {img : Image} {r : LoadReport} (hstep : s.sys.step = 6) (hcand : s.sys.cand = some img)
    (h : s.validate img (s.hdrOf s.sys.slot).config = some r) : imageValidationEff s = s.slotFailed r := by
  simp [imageValidationEff, hmode, hstep, hcand, h]

omit hmode in
/-- What step 8 leaves of the start, the slot's report cleared. -/
theorem State.startIslands_reported (s : State) (img : Image) : let b := (s.report s.sys.slot resetReport).startIslands img
    b.mode = s.mode ∧ b.sys.step = 8 ∧ b.sys.mapOn = true ∧ b.mram.boot.booted = s.sys.slot ∧ b.sys.rp0 = img.restart ∧
      b.now = s.now ∧ b.sec.otp = s.sec.otp := by
  simp only [State.sys_startIslands, State.booted_startIslands, State.startIslands_frame, State.report_frame, and_self]

/-- R38, R405: the chain groups start with what the calibration found. -/
def State.calibrated (s : State) (cals : List (List SliceCal)) : State :=
  (upto 8).foldl (fun s g => s.syncReset g) ((upto 8).foldl (fun s g => s.startCal g (lget [] cals g)) s).chainStart

theorem startupCalibrationDoneEff_of_due (cals : List (List SliceCal)) (hstep : s.sys.step = 8) :
    startupCalibrationDoneEff cals s = ((s.calibrated cals).toStep 9).bioStart := by
  simp [startupCalibrationDoneEff, hmode, hstep, State.sysUpd, State.toStep, State.calibrated]
end

/-- Settles O47: each step's command by its own lemma; a failing slot by what has been tried before. -/
theorem startSequence : Obligations.StartSequence := by
  refine ⟨?power, ?hold, ?hash, ?training, ?sections, ?validation, ?failed, ?calibration, exec_powerOnResetRelease, exec_bootHoldFall,
    exec_imageHashDone, exec_lpddr4xTrainingDone, exec_sectionsLoaded, exec_imageValidation, exec_startupCalibrationDone⟩
  case power =>
    intro t st hdrs s a p r g hpor
    have hrun : exec (.powerOnResetRelease t st hdrs true true) s = .next (if st.hold then g else g.startSlot) :=
      exec_of_eq (exec_powerOnResetRelease t st hdrs true true s) (powerOnResetReleaseEff_of_por st hdrs hpor)
    rw [hrun]
    refine ⟨fun hhold => by rw [if_pos hhold], fun hhold hok => ?_, fun hhold hbad => ?_⟩ <;>
      rw [if_neg (by simp [hhold])]
    · rw [State.startSlot_of_ok (s := g) hok]
      rfl
    · rw [State.startSlot_of_bad (s := g) hbad]
  case hold =>
    intro t hdrs s a hheld hmode hok
    refine exec_of_eq (exec_bootHoldFall t hdrs s) ((bootHoldFallEff_of_held hdrs hheld hmode).trans ?_)
    exact State.startSlot_of_ok hok
  case hash =>
    intro t sig s a hmode hheld hstep
    have hrun := exec_of_eq (exec_imageHashDone t sig s) (imageHashDoneEff_of_due hmode sig hheld hstep)
    exact ⟨fun h => by rw [hrun, if_pos h]; rfl, fun h => by rw [hrun, if_neg (by rw [h]; exact Bool.false_ne_true)]⟩
  case training =>
    intro t s a hmode hheld hstep htrained
    have hrun (ok : Bool) := exec_of_eq (exec_lpddr4xTrainingDone t ok s) (lpddr4xTrainingDoneEff_of_due hmode ok hheld hstep htrained)
    exact ⟨hrun true, hrun false⟩
  case sections =>
    intro t img bad s a hmode hstep htrained
    exact ⟨fun h => exec_of_eq (exec_sectionsLoaded t img bad s) (sectionsLoadedEff_of_good hmode hstep htrained h),
      fun r h => exec_of_eq (exec_sectionsLoaded t img bad s) (sectionsLoadedEff_of_bad hmode hstep htrained h)⟩
  case validation =>
    intro t img s a hmode hstep hcand
    refine ⟨fun hvalid => ?_, fun r h => exec_of_eq (exec_imageValidation t s) (imageValidationEff_of_invalid hmode hstep hcand h)⟩
    refine ⟨_, exec_of_eq (exec_imageValidation t s) (imageValidationEff_of_valid hmode hstep hcand hvalid), ?_⟩
    rw [← hmode]
    exact a.startIslands_reported img
  case failed =>
    intro s r k v
    refine ⟨fun h hok => ?_, fun h hbad => ?_, fun h => State.slotFailed_of_second r h⟩ <;> rw [State.slotFailed_of_first r h]
    · rw [if_pos hok]
      rfl
    · rw [if_neg (by rw [hbad]; exact Bool.false_ne_true)]
      rfl
  case calibration =>
    intro t cals s a u hmode hstep
    exact exec_of_eq (exec_startupCalibrationDone t cals s) (startupCalibrationDoneEff_of_due hmode cals hstep)

end Sys2Proof.Machine

/-!
What entering SAFE keeps (R10, R18, R469, R471): the log's buffer does not shrink, the balls held stay held, a MODE_SET that waits and
the registers of the SYS block stay as they were.
-/
namespace Sys2Proof.Machine

/-! ### The relation and its operations -/

/-- `b` follows `a` with the balls held, the waiting MODE_SET and the SYS block as they were, and no entry of the log's buffer lost. -/
structure State.SafeKept (a b : State) : Prop where
  held : b.evt.ballsHeld = a.evt.ballsHeld
  log : a.evt.logBuf.length ≤ b.evt.logBuf.length
  wait : b.cmd.modeWait = a.cmd.modeWait
  sysRegs : ∀ x, x < 0x10000 → b.rd x = a.rd x

theorem State.SafeKept.refl (a : State) : a.SafeKept a := ⟨rfl, le_rfl, rfl, fun _ _ => rfl⟩

section
variable {a s : State}

theorem State.SafeKept.trans {c : State} (h : a.SafeKept s) (hc : s.SafeKept c) : a.SafeKept c :=
  ⟨hc.held.trans h.held, h.log.trans hc.log, hc.wait.trans h.wait, fun x hx => (hc.sysRegs x hx).trans (h.sysRegs x hx)⟩

/-- A step outside the events, the commands and the registers. -/
theorem State.SafeKept.same (h : a.SafeKept s) {t : State} (hevt : t.evt = s.evt := by rfl) (hcmd : t.cmd = s.cmd := by rfl)
    (hregs : t.regs = s.regs := by rfl) : a.SafeKept t :=
  h.trans ⟨by rw [hevt], by rw [hevt], by rw [hcmd], fun x _ => State.rd_of_regs hregs x⟩

theorem State.SafeKept.setTrp (h : a.SafeKept s) (f : TrpSt → TrpSt) : a.SafeKept (s.setTrp f) := h.same

theorem State.SafeKept.setProg (h : a.SafeKept s) (k : Nat) (p : ProgSt) : a.SafeKept (s.setProg k p) := h.same

theorem State.SafeKept.setLgc (h : a.SafeKept s) (l : LgcSt) : a.SafeKept { s with lgc := l } := h.same

theorem State.SafeKept.bootUpd (h : a.SafeKept s) (f : BootRecord → BootRecord) : a.SafeKept (s.bootUpd f) := h.same

theorem State.SafeKept.bumpFree (h : a.SafeKept s) : a.SafeKept s.bumpFree := h.same

theorem State.SafeKept.sysUpd (h : a.SafeKept s) (f : SysSt → SysSt) : a.SafeKept (s.sysUpd f) := h.same

theorem State.SafeKept.setF (h : a.SafeKept s) (f : Field) (v : Nat) (hf : 0x10000 ≤ f.addr) : a.SafeKept (s.setF f v) :=
  h.trans ⟨rfl, le_rfl, rfl, fun x hx => State.rd_setF_other s f v x (by omega)⟩

theorem State.SafeKept.foldl {β : Type} (h : a.SafeKept s) (l : List β) (f : State → β → State)
    (hf : ∀ x ∈ l, ∀ s, a.SafeKept s → a.SafeKept (f s x)) : a.SafeKept (l.foldl f s) := by
  induction l generalizing s with
  | nil => exact h
  | cons x l ih => exact ih (hf x List.mem_cons_self s h) (fun y hy => hf y (List.mem_cons_of_mem x hy))

theorem State.SafeKept.ite (c : Prop) [Decidable c] {t : State} (ht : a.SafeKept t) (hs : a.SafeKept s) :
    a.SafeKept (if c then t else s) := by
  split
  · exact ht
  · exact hs

/-! ### Events -/

theorem length_reOrder (e k : Nat) (l : List EvtEntry) : (reOrder e k l).length = l.length := by
  have hsplit (p : EvtEntry → Bool) (l : List EvtEntry) : (l.takeWhile p).length + (l.dropWhile p).length = l.length := by
    rw [← List.length_append, List.takeWhile_append_dropWhile]
  have hfilter (n : Nat) (l : List EvtEntry) :
      (l.filter (fun x => x.eseq != n)).length + (l.filter (fun x => decide (x.eseq = n))).length = l.length := by
    induction l with
    | nil => rfl
    | cons x l ih => by_cases hx : x.eseq = n <;> simp [hx] <;> omega
  unfold reOrder
  dsimp only
  rw [List.length_append, List.length_append, Nat.add_right_comm, hsplit, hfilter, List.length_map]

theorem length_bumpRep (n : Nat) (l : List EvtEntry) : (bumpRep n l).length = l.length := List.length_map ..

theorem State.SafeKept.seen (h : a.SafeKept s) (src : Nat) : a.SafeKept (s.seen src) :=
  h.setF _ _ (by simp only [EVT_SEEN_SEEN, EVT_SEEN]; omega)

theorem State.logPush_buf (s : State) (e : EvtEntry) :
    (s.logPush e).evt.ballsHeld = s.evt.ballsHeld ∧ s.evt.logBuf.length ≤ (s.logPush e).evt.logBuf.length := by
  unfold State.logPush
  split
  · simp
  · exact ⟨rfl, le_rfl⟩

theorem State.SafeKept.logPush (h : a.SafeKept s) (e : EvtEntry) : a.SafeKept (s.logPush e) := by
  obtain ⟨hheld, hbuf⟩ := s.logPush_buf e
  exact h.trans ⟨hheld, hbuf, by simp [State.logPush_frame], fun x hx => State.rd_logPush_other s e (by
    have : 0x10000 ≤ EVT_LOG_LOGDROP.addr := by decide
    omega)⟩

theorem State.SafeKept.setQueue (h : a.SafeKept s) (q : Nat) (l : List EvtEntry) : a.SafeKept (s.setQueue q l) := by
  unfold State.setQueue
  split <;> exact h.trans ⟨rfl, le_rfl, rfl, fun _ _ => rfl⟩

theorem State.SafeKept.logBump (h : a.SafeKept s) (n : Nat) : a.SafeKept (s.logBump n) :=
  h.trans ⟨rfl, (length_bumpRep n _).ge, rfl, fun _ _ => rfl⟩

/-- A new entry in the log: its number taken, the buffer written. -/
theorem State.SafeKept.logEntry (h : a.SafeKept s) (n : Nat) (e : EvtEntry) :
    a.SafeKept (State.logPush { s with mram := { s.mram with eseq := n } } e) :=
  State.SafeKept.logPush (h.same) e

theorem State.SafeKept.enqueue (h : a.SafeKept s) (q : Nat) (e : EvtEntry) : a.SafeKept (s.enqueue q e) := by
  have hdrop : 0x10000 ≤ (EVT_QCNT_DROP q).addr := by simp only [EVT_QCNT_DROP, EVT_QCNT]; omega
  have hovf : 0x10000 ≤ (EVT_QSTAT_OVF q).addr := by simp only [EVT_QSTAT_OVF, EVT_QSTAT]; omega
  unfold State.enqueue
  dsimp only
  split
  · exact h.setQueue q _
  · split
    · exact (((State.SafeKept.logPush (State.SafeKept.seen (h.same) 127) _).setQueue q _).setF _ _ hdrop).setF _ _ hovf
    · exact h.setF _ _ hdrop

theorem State.SafeKept.orderCycle (h : a.SafeKept s) (e0 src : Nat) : a.SafeKept (s.orderCycle e0 src) := by
  unfold State.orderCycle
  split
  · exact h
  · refine h.trans ⟨rfl, ?_, rfl, fun _ _ => rfl⟩
    have hlen (e k : Nat) (l : List EvtEntry) : l.length ≤ (if k = 0 then l else reOrder e k l).length := by
      split
      · exact le_rfl
      · exact (length_reOrder ..).ge
    exact hlen ..

theorem State.SafeKept.addEvent (h : a.SafeKept s) (src inst data : Nat) : a.SafeKept (s.addEvent src inst data) := by
  have hnew := (h.seen src).logEntry ((s.seen src).mkEntry ⟨src, inst, data⟩).eseq ((s.seen src).mkEntry ⟨src, inst, data⟩)
  unfold State.addEvent
  dsimp only
  split
  · split
    · split
      · exact .ite _ (hnew.enqueue _ _) hnew
      · refine (((h.seen src).setQueue _ _).logBump _).setF _ _ ?_
        simp only [EVT_QCNT_COALESCED, EVT_QCNT]
        omega
    · exact .ite _ (hnew.enqueue _ _) hnew
  · exact hnew.trans ⟨rfl, le_rfl, rfl, fun _ _ => rfl⟩

theorem State.SafeKept.raise (h : a.SafeKept s) (src inst data : Nat) : a.SafeKept (s.raise src inst data) :=
  (h.addEvent src inst data).orderCycle _ _

/-! ### The logic enters Stop (R238, R289, R303) -/

theorem State.SafeKept.complete (h : a.SafeKept s) (op tr status seq detail : Nat) : a.SafeKept (s.complete op tr status seq detail) := by
  have hring (r : List Completion) : a.SafeKept { s with cmd := { s.cmd with ring := r } } :=
    h.trans ⟨rfl, le_rfl, rfl, fun _ _ => rfl⟩
  exact (((((hring _).setF CMD_LAST_OPCODE op (by decide)).setF CMD_LAST_STATUS status (by decide)).setF CMD_LAST_TRANSPORT tr
    (by decide)).setF CMD_LASTSEQ_SEQ seq (by decide)).raise 119 tr (op + 65536 * status)

theorem State.SafeKept.setRun2 (h : a.SafeKept s) (run : Nat) : a.SafeKept (s.setRun 2 run) :=
  (h.setF (POD_STAT_RUN 2) run (by decide)).setF (POD_STAT_READER 2) _ (by decide)

theorem State.SafeKept.overrun (h : a.SafeKept s) : a.SafeKept s.overrun :=
  ((h.setF LGC_OVR_OVR _ (by decide)).setF LGC_STAT_OVR_SEEN _ (by decide)).raise 56 0 _

theorem State.SafeKept.giveOuts (h : a.SafeKept s) (out : Nat) : a.SafeKept (s.giveOuts out) := by
  have houts : a.SafeKept (s.setLgcOut out) :=
    h.foldl _ _ fun w _ _ hs => hs.setF _ _ (by simp only [LGC_OUT_OUT, LGC_OUT]; omega)
  exact (houts.setTrp _).setF POD_LSTAT_HELD _ (by decide)

theorem State.SafeKept.gsetStop (h : a.SafeKept s) : a.SafeKept s.gsetStop :=
  h.same (by simp [State.gsetStop_frame]) (by simp [State.gsetStop_frame]) (by simp [State.gsetStop_frame])

theorem State.SafeKept.dropReqs (h : a.SafeKept s) : a.SafeKept s.dropReqs := by
  unfold State.dropReqs
  exact State.SafeKept.foldl (h.same) _ _ fun r _ _ hs => hs.complete ..

theorem State.SafeKept.setLogicMode (h : a.SafeKept s) (m : Nat) : a.SafeKept (s.setLogicMode m) :=
  .ite _ h ((h.setF LGC_MODE_MODE m (by decide)).setF LGC_MODE_MCHG _ (by decide))

theorem State.SafeKept.stopWrite (h : a.SafeKept s) : a.SafeKept s.stopWrite := by
  have hclear (s : State) (hs : a.SafeKept s) : a.SafeKept (s.cancelSelects).alarmsOff :=
    hs.same (by simp [State.cancelSelects_frame, State.alarmsOff_frame]) (by simp [State.cancelSelects_frame, State.alarmsOff_frame])
      (by simp [State.cancelSelects_frame, State.alarmsOff_frame])
  unfold State.stopWrite
  exact ((((hclear _ (h.same)).giveOuts _).gsetStop.dropReqs.setLogicMode 0).setF LGC_MODE_STOP_PEND _ (by decide)
    |>.setF LGC_STAT_SCANNING _ (by decide)).raise 58 0 0

theorem State.SafeKept.joinEnd (h : a.SafeKept s) : a.SafeKept s.joinEnd := by
  unfold State.joinEnd
  split
  · exact ((((h.setLgc _).setF POD_LSTAT_SPLIT _ (by decide)).setF (POD_STAT_STATE 2) 1 (by decide)).setRun2 7).raise 64 0 _
  · exact h

theorem State.SafeKept.takeJoin (h : a.SafeKept s) (start : Option Nat) : a.SafeKept (s.takeJoin start) := by
  have htaken : a.SafeKept ((((s.setFlag POD_LSTAT_JOIN_PEND false).setFlag POD_LSTAT_ANA_RUN false).setF (POD_STAT_STATE 2) 7).setRun 2 1) :=
    (((h.setF POD_LSTAT_JOIN_PEND _ (by decide)).setF POD_LSTAT_ANA_RUN _ (by decide)).setF (POD_STAT_STATE 2) 7 (by decide)).setRun2 1
  unfold State.takeJoin
  dsimp only
  split
  · exact h
  · exact .ite _ ((htaken.setProg 1 _).setLgc _) ((htaken.setProg 1 _).setLgc _).overrun

theorem State.SafeKept.takeSwap (h : a.SafeKept s) (start : Option Nat) : a.SafeKept (s.takeSwap start) := by
  unfold State.takeSwap
  split
  · exact h
  · split
    · exact h
    · extract_lets p plan absorbed img q s1 prog ana s2 logic s3 s4 s5 slot s6 s7 s8 s9
      have hswap : a.SafeKept s3 := ((((h.setProg 0 q).setF LGC_CFG_FREE _ (by decide)).setProg 1 _).setLgc _)
      have hover : a.SafeKept s4 := .ite _ hswap hswap.overrun
      have hshown : a.SafeKept s5 := ((hover.setF LGC_XSTAT_XSTATE 0 (by decide)).setF LGC_XSTAT_SLOT _ (by decide)).setF LGC_XSTAT_XCNT _
        (by decide)
      have hraised : a.SafeKept s9 := ((((hshown.bootUpd _).setF LGC_XSTAT_XCODE 0 (by decide)).setF LGC_XWORK_LAST _
        (by decide)).bumpFree).raise 60 0 _
      split
      · exact (hraised.setLgc _).complete ..
      · exact hraised
/-- R238, R289, R303: entry to Stop. -/
theorem State.SafeKept.enterStop (h : a.SafeKept s) : a.SafeKept s.enterStop :=
  ((State.SafeKept.ite _ h.stopWrite.joinEnd h.stopWrite).takeJoin none).takeSwap none

/-! ### The rest of the entry to SAFE -/

theorem State.SafeKept.closeRec (h : a.SafeKept s) (c : Nat) (o : RecOpen) (late trunc : Bool) : a.SafeKept (s.closeRec c o late trunc) :=
  h.same (by simp [State.closeRec_frame]) (by simp [State.closeRec_frame]) (by simp [State.closeRec_frame])

theorem State.SafeKept.freeSeg (h : a.SafeKept s) (c : Nat) (g : Option Nat) : a.SafeKept (s.freeSeg c g) :=
  h.same (by simp [State.freeSeg_frame]) (by simp [State.freeSeg_frame]) (by simp [State.freeSeg_frame])

theorem State.SafeKept.setCls (h : a.SafeKept s) (c : Nat) (x : RecClass) : a.SafeKept (s.setCls c x) := h.same

theorem State.SafeKept.recShow (h : a.SafeKept s) (c st : Nat) : a.SafeKept (s.recShow c st) := by
  have haddr : 0x10000 ≤ REC_CSTAT c := by unfold REC_CSTAT; omega
  exact ((h.setF (REC_CSTAT_STATE c) _ haddr).setF (REC_CSTAT_SEG c) _ haddr).setF (REC_CSTAT_NEXT c) _ (by
    simp only [REC_CSTAT_NEXT, REC_CSTAT]
    omega)

theorem State.SafeKept.recSafeCls (h : a.SafeKept s) (c : Nat) : a.SafeKept (s.recSafeCls c) := by
  have hfreed (s : State) (hs : a.SafeKept s) (g k : Option Nat) (x : RecClass) :
      a.SafeKept (if (((s.freeSeg c g).freeSeg c k).setCls c x).flag (REC_CCFG_EN c) then
        (((s.freeSeg c g).freeSeg c k).setCls c x).recShow c 0 else ((s.freeSeg c g).freeSeg c k).setCls c x) :=
    .ite _ ((((hs.freeSeg c g).freeSeg c k).setCls c x).recShow c 0) (((hs.freeSeg c g).freeSeg c k).setCls c x)
  unfold State.recSafeCls
  dsimp only
  split
  · exact hfreed _ (h.closeRec ..) _ _ _
  · exact hfreed _ h _ _ _

theorem State.SafeKept.recordIndexComplete (h : a.SafeKept s) (c : Nat) : a.SafeKept (recordIndexCompleteEff c s) := by
  unfold recordIndexCompleteEff
  split
  · exact h
  · exact State.SafeKept.raise h.same 72 c _

theorem State.SafeKept.recSafe (h : a.SafeKept s) : a.SafeKept s.recSafe :=
  (h.foldl _ _ fun c _ _ hs => hs.recSafeCls c).foldl _ _ fun c _ _ hs => hs.foldl _ _ fun _ _ _ hs => hs.recordIndexComplete c

theorem State.SafeKept.releaseDuties (h : a.SafeKept s) : a.SafeKept s.releaseDuties := by
  have hheld : a.SafeKept (({ s with oz := { s.oz with relNext := false } } : State).setFlag OZX_PSTAT_HOLDS false) :=
    State.SafeKept.setF h.same OZX_PSTAT_HOLDS _ (by decide)
  exact hheld.foldl _ _ fun _ _ _ hs => hs.same

theorem State.SafeKept.outputsLow (h : a.SafeKept s) : a.SafeKept s.outputsLow :=
  (((h.setF TRP_DRV_ARM_DARM 0 (by decide)).setF TRP_DRV_FIRE_DFIRE 0 (by decide)).setF TRP_STAT_BLOCKED _ (by decide)).setTrp _

theorem State.SafeKept.stopTime (h : a.SafeKept s) : a.SafeKept s.stopTime := h.same

/-! ### The pods stop (R240) -/

/-- A pod at the entry to SAFE. -/
def State.podStops (s : State) (p : Nat) : State :=
  let t := s.setPod p { s.podOf p with resync := none, haltReq := false, stopping := none }
  if t.podState p = 4 then t else (t.setF (POD_STAT_STATE p) 0).setF (POD_STAT_RUN p) 0

theorem State.SafeKept.podStops (h : a.SafeKept s) (p : Nat) : a.SafeKept (s.podStops p) := by
  have haddr : 0x10000 ≤ POD_STAT p := by unfold POD_STAT; omega
  have hset (x : PodInt) : a.SafeKept (s.setPod p x) := h.same
  exact .ite _ (hset _) (((hset _).setF (POD_STAT_STATE p) 0 haddr).setF (POD_STAT_RUN p) 0 haddr)

/-- Pod L is no longer split. -/
def State.unsplit (s : State) : State :=
  ((((s.setFlag POD_LSTAT_SPLIT false).setFlag POD_LSTAT_ANA_RUN false).setFlag POD_LSTAT_SPLIT_PEND false).setFlag
    POD_LSTAT_JOIN_PEND false).setFlag POD_LSTAT_HELD false

theorem State.SafeKept.unsplit (h : a.SafeKept s) : a.SafeKept s.unsplit :=
  ((((h.setF POD_LSTAT_SPLIT _ (by decide)).setF POD_LSTAT_ANA_RUN _ (by decide)).setF POD_LSTAT_SPLIT_PEND _ (by decide)).setF
    POD_LSTAT_JOIN_PEND _ (by decide)).setF POD_LSTAT_HELD _ (by decide)

theorem State.podsStop_eq (s : State) : ∃ x l, s.podsStop =
    State.unsplit { ((upto 3).foldl State.podStops s).setProg 1 x with lgc := l } := ⟨_, _, rfl⟩

theorem State.SafeKept.podsStop (h : a.SafeKept s) : a.SafeKept s.podsStop := by
  have hpods := h.foldl (upto 3) State.podStops fun p _ _ hs => hs.podStops p
  obtain ⟨x, l, heq⟩ := s.podsStop_eq
  rw [heq]
  exact ((hpods.setProg 1 x).setLgc l).unsplit

/-- R18, R21, R23: everything that SAFE stops has stopped. -/
def State.allStopped (s : State) : State :=
  (if s.getF LGC_MODE_MODE = 1 || s.getF LGC_MODE_MODE = 2 then s.enterStop else s).recSafe.releaseDuties.outputsLow.stopTime.podsStop

/-- The mode SAFE with its cause (R18, R421, R422). -/
def State.safeAs (s : State) (cause : Nat) : State :=
  (({ s with mode := .safe } : State).sysUpd (fun x => { x with
    tap := tapUnheld x.tap, modeReq := none, safeAtStart := !x.ran, policy := if cause = 3 && x.ran then x.policy else none
    restart := if x.ran then x.restart.filter (fun r => cause = 3 || !r.byPolicy) else none })).bootUpd
      (fun b => { b with safeCause := cause })

theorem State.enterSafe_eq (s : State) (cause : Nat) : s.enterSafe cause = s.allStopped.safeAs cause := rfl

theorem State.SafeKept.safeAs (h : a.SafeKept s) (cause : Nat) : a.SafeKept (s.safeAs cause) := h.same

/-- R18, R21: what the entry to SAFE keeps. -/
theorem State.SafeKept.enterSafe (h : a.SafeKept s) (cause : Nat) : a.SafeKept (s.enterSafe cause) := by
  have hstop : a.SafeKept (if s.getF LGC_MODE_MODE = 1 || s.getF LGC_MODE_MODE = 2 then s.enterStop else s) := .ite _ h.enterStop h
  rw [State.enterSafe_eq]
  exact hstop.recSafe.releaseDuties.outputsLow.stopTime.podsStop.safeAs cause
end

end Sys2Proof.Machine

/-!
Modes and restarts (R10, R18, R409, R420 to R423): power-on reset, a restart taken, SAFE, the loss and the return of the reference, the
restart policy, mode changes.
-/
namespace Sys2Proof.Machine

/-! ### What SAFE leaves (R18, R240, R421, R422) -/

section
variable {s : State}

theorem State.sys_allStopped (s : State) : s.allStopped.sys = s.sys := by
  have hite := @State.ite_frame
  simp [State.allStopped, ↓hite, State.enterStop_frame, State.recSafe_frame, State.releaseDuties_frame, State.outputsLow_frame,
    State.stopTime_frame, State.podsStop_frame]

theorem State.sys_safeAs (t : State) (c : Nat) : (t.safeAs c).sys = { t.sys with
    tap := tapUnheld t.sys.tap, modeReq := none, safeAtStart := !t.sys.ran, policy := if c = 3 && t.sys.ran then t.sys.policy else none
    restart := if t.sys.ran then t.sys.restart.filter (fun r => c = 3 || !r.byPolicy) else none } := rfl

theorem State.podState_safeAs (t : State) (c p : Nat) : (t.safeAs c).podState p = t.podState p := rfl

theorem State.sys_enterSafe (s : State) (c : Nat) : (s.enterSafe c).sys = { s.sys with
    tap := tapUnheld s.sys.tap, modeReq := none, safeAtStart := !s.sys.ran, policy := if c = 3 && s.sys.ran then s.sys.policy else none
    restart := if s.sys.ran then s.sys.restart.filter (fun r => c = 3 || !r.byPolicy) else none } := by
  rw [State.enterSafe_eq, State.sys_safeAs, s.sys_allStopped]

theorem podState_fits (p : Nat) : (POD_STAT_STATE p).Fits ∧ (POD_STAT_RUN p).Fits ∧ (POD_STAT_STATE p).Apart (POD_STAT_RUN p) := by
  simp [Field.Fits, Field.Apart, POD_STAT_STATE, POD_STAT_RUN]

theorem State.podState_podStops (s : State) (p : Nat) : (s.podStops p).podState p = 4 ∨ (s.podStops p).podState p = 0 := by
  obtain ⟨hst, hrun, happ⟩ := podState_fits p
  unfold State.podStops
  dsimp only
  split
  case isTrue h => exact .inl h
  case isFalse =>
    right
    unfold State.podState
    rw [State.getF_setF_apart hrun happ, State.getF_setF_same _ _ _ hst, Nat.zero_mod]

theorem State.podState_podStops_apart (s : State) {p q : Nat} (h : p ≠ q) : (s.podStops q).podState p = s.podState p := by
  have haddr : POD_STAT p ≠ POD_STAT q := by unfold POD_STAT; omega
  have hset (x : PodInt) : (s.setPod q x).podState p = s.podState p := rfl
  unfold State.podStops
  dsimp only
  split
  · exact hset _
  · rw [← hset, State.podState]
    refine State.getF_of_rd ?_
    rw [State.rd_setF_other _ _ _ _ haddr, State.rd_setF_other _ _ _ _ haddr]

theorem State.podState_unsplit (s : State) {p : Nat} (hp : p < 3) : s.unsplit.podState p = s.podState p := by
  have haddr : POD_STAT p ≠ POD_LSTAT := by unfold POD_STAT POD_LSTAT; omega
  have hset (f : Field) (hf : f.addr = POD_LSTAT) (s : State) (b : Bool) : (s.setFlag f b).rd (POD_STAT p) = s.rd (POD_STAT p) :=
    State.rd_setF_other _ _ _ _ (hf ▸ haddr)
  refine State.getF_of_rd ?_
  unfold State.unsplit POD_STAT_STATE
  rw [hset _ rfl, hset _ rfl, hset _ rfl, hset _ rfl, hset _ rfl]

/-- R223, R240: a pod is STOPPED, or it stays in FAIL. -/
theorem State.podState_podsStop (s : State) {p : Nat} (hp : p < 3) : s.podsStop.podState p = 4 ∨ s.podsStop.podState p = 0 := by
  obtain ⟨x, l, heq⟩ := s.podsStop_eq
  have hpods : (s.podsStop).podState p = (((s.podStops 0).podStops 1).podStops 2).podState p := by
    rw [heq, State.podState_unsplit _ hp]
    rfl
  rw [hpods]
  by_cases h2 : p = 2
  · subst h2
    exact State.podState_podStops _ 2
  · rw [State.podState_podStops_apart _ h2]
    by_cases h1 : p = 1
    · subst h1
      exact State.podState_podStops _ 1
    · rw [State.podState_podStops_apart _ h1, show p = 0 by omega]
      exact State.podState_podStops _ 0

theorem State.podState_enterSafe (s : State) (c : Nat) {p : Nat} (hp : p < 3) :
    (s.enterSafe c).podState p = 4 ∨ (s.enterSafe c).podState p = 0 := by
  rw [State.enterSafe_eq, State.podState_safeAs]
  exact State.podState_podsStop _ hp

/-! ### Power-on reset and restarts (R10, R420, R421) -/

/-- A MODE_SET that waits is dropped: the rest of what SAFE keeps stays. -/
theorem State.dropMode_kept (s : State) : ({ s with cmd := { s.cmd with modeWait := none } } : State).SafeKept s.dropMode := by
  have hretire (a : State) (q : CmdReq) : a.SafeKept (a.retireLast q) := by
    have hkey (slot : Nat) (k : KeySlot) : a.SafeKept (a.setKey slot k) :=
      State.SafeKept.raise (s := { a with sec := { a.sec with keys := lset a.sec.keys slot k } }) (.same (.refl a)) _ _ _
    unfold State.retireLast
    split
    · exact .ite _ (hkey _ _) (.refl a)
    · exact .refl a
  unfold State.dropMode
  split
  · exact hretire _ _
  next h => exact ⟨rfl, le_rfl, h, fun _ _ => rfl⟩

theorem State.dropMode_of_none (h : s.cmd.modeWait = none) : s.dropMode = s := by
  rw [State.dropMode, h]

theorem State.logFlush_of_empty (h : s.evt.logBuf = []) : s.logFlush = s := by
  rw [State.logFlush, h]
  rfl

theorem State.bootRead_congr {s t : State} (h : s.mram = t.mram) : s.bootRead.mram = t.bootRead.mram := by
  unfold State.bootRead
  rw [h]
  dsimp only
  split
  · rfl
  · exact h

theorem State.chooseSlot_of_valid (h : s.bootRead.mram.boot.valid = true) :
    s.chooseSlot false = s.bootRead.sysUpd (fun x => { x with slot := s.bootRead.mram.boot.pref }) := by
  simp [State.chooseSlot, h]

/-- R421: what a restart finds when it begins. -/
def State.atRestart (s : State) (r : RestartReq) : State :=
  (s.dropMode.restarted (!r.cold)).setTrp (fun x => { x with
    lvlArm := s.trp.lvlArm, lvlFire := s.trp.lvlFire, wdLevel := s.trp.wdLevel, grid0 := s.trp.grid0 })

/-- R420: the cause of a start by a restart. -/
def restartCause (r : RestartReq) : Nat := if r.byPolicy then (if r.cold then 3 else 4) else (if r.cold then 1 else 2)

theorem restartTakeEff_of_due {r : RestartReq} (hdrs : List ImgHdr) (hreq : s.sys.restart = some r) (hpor : s.sys.por = false)
    (href : s.sys.refPresent = true) (hsafe : s.safeTillPor = false) (hpol : s.sys.policy = none) (hhold : s.sys.straps.hold = false) :
    restartTakeEff hdrs true true false s =
      (((s.atRestart r).chooseSlot false).startRecord (restartCause r)).stepTwo hdrs true true false := by
  have hstraps : (s.dropMode.restarted (!r.cold)).sys.straps = s.sys.straps := by simp [State.restarted, State.dropMode_frame]
  simp [restartTakeEff, hreq, hpor, href, hsafe, hpol, State.atRestart, restartCause, State.setTrp, hstraps, hhold]

/-- The state in which a restart that has read the boot record tries its slot. -/
def State.slotChosen (s : State) (hdrs : List ImgHdr) (cause : Nat) : State :=
  ((s.sysUpd (fun x => { x with slot := s.mram.boot.pref })).startRecord cause).stepsDone hdrs false

theorem State.hdrOf_slotChosen (s : State) (hdrs : List ImgHdr) (cause : Nat) :
    (s.slotChosen hdrs cause).hdrOf (s.slotChosen hdrs cause).sys.slot = lget noHdr hdrs s.mram.boot.pref := rfl

theorem restartTakeEff_of_ok {r : RestartReq} {hdrs : List ImgHdr} (hreq : s.sys.restart = some r) (hpor : s.sys.por = false)
    (href : s.sys.refPresent = true) (hsafe : s.safeTillPor = false) (hpol : s.sys.policy = none) (hhold : s.sys.straps.hold = false)
    (hvalid : s.dropMode.bootRead.mram.boot.valid = true)
    (hok : hdrOk (lget noHdr hdrs s.dropMode.bootRead.mram.boot.pref) = true) :
    restartTakeEff hdrs true true false s = ((s.atRestart r).bootRead.slotChosen hdrs (restartCause r)).toStep 3 := by
  have hmram : (s.atRestart r).bootRead.mram = s.dropMode.bootRead.mram := State.bootRead_congr rfl
  rw [restartTakeEff_of_due hdrs hreq hpor href hsafe hpol hhold, State.chooseSlot_of_valid (by rw [hmram]; exact hvalid),
    State.stepTwo_of_ok, if_neg Bool.false_ne_true]
  exact State.startSlot_of_ok (s := (s.atRestart r).bootRead.slotChosen hdrs (restartCause r)) (by rw [State.hdrOf_slotChosen, hmram, hok])

/-! ### The reference (R10, R422, R469) -/

theorem State.logPush_grows (s : State) (m : MramSt) (e : EvtEntry) (h : s.evt.logBuf.length < 64) :
    s.evt.logBuf.length < (State.logPush { s with mram := m } e).evt.logBuf.length := by
  rw [State.logPush_of_room _ (by simpa using h)]
  simp

theorem State.logOnly_grows (s : State) (src : Nat) (h : s.evt.logBuf.length < 64) :
    s.evt.logBuf.length < (s.logOnly src).evt.logBuf.length := by
  have hseen : (s.seen src).evt = s.evt := by simp [State.seen_frame]
  rw [← hseen] at h ⊢
  exact State.logPush_grows (s.seen src) _ _ h

theorem State.SafeKept.logOnly {a : State} (h : a.SafeKept s) (src : Nat) : a.SafeKept (s.logOnly src) :=
  (h.seen src).logEntry ((s.seen src).mkEntry ⟨src, 0, 0⟩).eseq _

/-- The state once the loss of the reference is known: logged, no MODE_SET waiting. -/
def State.lossLogged (s : State) : State := (({ s with sys := { s.sys with refPresent := false } } : State).logOnly 123).dropMode

/-- The balls are held and the loss is shown. -/
def State.lossShown (s : State) : State :=
  (({ s.lossLogged with evt := { s.lossLogged.evt with ballsHeld := true } } : State).setFlag SYS_CLK_REF_OK false).setFlag
    SYS_CLK_LOSS_SEEN true

theorem referenceLossEff_of_present (hpor : s.sys.por = false) (href : s.sys.refPresent = true) :
    referenceLossEff s = if s.mode = .safe then s.lossShown else s.lossShown.enterSafe 3 := by
  have hmode : s.lossShown.mode = s.mode := by
    simp [State.lossShown, State.lossLogged, State.setFlag_frame, State.dropMode_frame, State.logOnly_frame]
  have heff : referenceLossEff s = if s.lossShown.mode == .safe then s.lossShown else s.lossShown.enterSafe 3 := by
    rw [referenceLossEff, if_neg (by simp [hpor, href])]
    rfl
  rw [heff, hmode]
  simp only [beq_iff_eq]

/-- What the loss of the reference shows before SAFE is entered. -/
theorem State.lossShown_facts (s : State) : s.lossShown.evt.ballsHeld = true ∧ s.lossShown.sys.refPresent = false ∧
    s.lossShown.flag SYS_CLK_REF_OK = false ∧ s.lossShown.cmd.modeWait = none ∧ s.lossShown.mode = s.mode := by
  refine ⟨?_, ?_, ?_, ?_, ?_⟩
  · simp [State.lossShown, State.setFlag_frame]
  · simp [State.lossShown, State.lossLogged, State.setFlag_frame, State.dropMode_frame, State.logOnly_frame]
  · rw [State.lossShown, State.flag_setFlag_apart (by simp [Field.Fits, SYS_CLK_LOSS_SEEN])
      (by simp [Field.Apart, SYS_CLK_REF_OK, SYS_CLK_LOSS_SEEN])]
    exact State.flag_setFlag_same _ _ _ (by decide) rfl
  · simp only [State.lossShown, State.setFlag_frame]
    exact (State.dropMode_kept _).wait
  · simp [State.lossShown, State.lossLogged, State.setFlag_frame, State.dropMode_frame, State.logOnly_frame]

theorem State.lossShown_log (s : State) (h : s.evt.logBuf.length < 64) : s.evt.logBuf.length < s.lossShown.evt.logBuf.length := by
  have hlog := State.logOnly_grows { s with sys := { s.sys with refPresent := false } } 123 h
  have hdrop := (State.dropMode_kept (({ s with sys := { s.sys with refPresent := false } } : State).logOnly 123)).log
  simp only [State.lossShown, State.setFlag_frame]
  exact lt_of_lt_of_le hlog hdrop

theorem referenceReturnRestartEff_of_absent (hpor : s.sys.por = false) (href : s.sys.refPresent = false) :
    referenceReturnRestartEff s =
      (let b := ({ s with sys := { s.sys with refPresent := true } } : State).setFlag SYS_CLK_REF_OK true
       if s.mode = .safe then b.policyCause (bf s.sys.rp0 5 4) else b) := by
  have hmode (b : State) : ((b.setFlag SYS_CLK_REF_OK true).mode == .safe) = decide (b.mode = .safe) := by
    rw [(State.setFlag_frame b SYS_CLK_REF_OK true).2.2.2.2.1]
    cases b.mode <;> rfl
  rw [referenceReturnRestartEff, if_neg (by simp [hpor, href])]
  simp only [State.sysUpd, hmode, decide_eq_true_eq]
  rfl

/-! ### The restart policy (R422, R423) -/

theorem State.safeStays_iff (s : State) :
    s.safeStays = true ↔ s.mode = .safe ∧ (s.sys.safeAtStart = true ∨ s.mram.boot.safeCause ≠ 3) := by
  simp [State.safeStays]

theorem State.safeTillPor_iff (s : State) :
    s.safeTillPor = true ↔ s.mode = .safe ∧ s.sys.safeAtStart = true ∧ s.mram.boot.safeCause = 3 := by
  simp [State.safeTillPor, and_assoc]

/-- The policy restart is no longer waiting. -/
def State.policyDone (s : State) : State := { s with sys := { s.sys with policy := none } }

/-- R423: a policy restart is counted and asked for. -/
def State.policyAsked (s : State) (p : RestartReq) : State :=
  ((s.bootUpd (fun b => { b with rcount := satInc 255 s.mram.boot.rcount })).policyDone).reqRestart p.cold true

theorem policyRestartEff_of_waiting {p : RestartReq} (hpol : s.sys.policy = some p) (href : s.sys.refPresent = true)
    (hstays : s.safeStays = false) : policyRestartEff s =
      if bf s.sys.rp0 11 8 ≤ s.restartWindow.mram.boot.rcount then
        s.restartWindow.policyDone.raise 121 0 s.restartWindow.mram.boot.rcount
      else if s.restartWindow.pairDefers || s.restartWindow.causeUnlogged then s.restartWindow
      else s.restartWindow.policyAsked p := by
  have hrp : s.restartWindow.sys.rp0 = s.sys.rp0 := by
    unfold State.restartWindow
    dsimp only
    split <;> rfl
  simp only [policyRestartEff, hpol, href, hstays, Bool.not_true, Bool.or_self, Bool.false_eq_true, if_false, hrp]
  rfl

theorem State.restartWindow_of_within (h : s.mram.boot.uptime - s.mram.boot.rwStart < 60 * bf s.sys.rp0 23 12) :
    s.restartWindow = s := by
  simp [State.restartWindow, Nat.not_le.2 h]

/-- R423 rule 1: the window starts afresh. -/
def State.afresh (s : State) : State := s.bootUpd (fun b => { b with rwStart := b.uptime, rcount := 0 })

theorem State.restartWindow_of_passed (h : 60 * bf s.sys.rp0 23 12 ≤ s.mram.boot.uptime - s.mram.boot.rwStart) :
    s.restartWindow = s.afresh := by
  simp [State.restartWindow, h, State.afresh]

theorem State.policyAsked_leaves (s : State) (p : RestartReq) : let b := s.policyAsked p
    b.mram.boot.rcount = satInc 255 s.mram.boot.rcount ∧ b.sys.policy = none ∧
      b.sys.restart = some (mergeReq s.sys.restart ⟨p.cold, true⟩) ∧ b.regs = s.regs ∧ b.evt = s.evt :=
  ⟨rfl, rfl, rfl, rfl, rfl⟩

theorem State.afresh_waits (s : State) : s.afresh.pairDefers = s.pairDefers ∧ s.afresh.causeUnlogged = s.causeUnlogged := ⟨rfl, rfl⟩

theorem State.afresh_asked (s : State) (p : RestartReq) : let b := s.afresh.policyAsked p
    b.mram.boot.rcount = 1 ∧ b.mram.boot.rwStart = s.mram.boot.uptime ∧ b.sys.policy = none ∧
      b.sys.restart = some (mergeReq s.sys.restart ⟨p.cold, true⟩) := ⟨rfl, rfl, rfl, rfl⟩

/-! ### Mode changes (R18) -/

theorem State.answerMode_of_waiting {q : CmdReq} (st : Status) (h : s.cmd.modeWait = some q) :
    s.answerMode st = ({ s with cmd := { s.cmd with modeWait := none } } : State).respond q st 0 [] := by
  rw [State.answerMode, h]

theorem modeChangeEffectEff_of_early {m : Mode} {n : Nat} (hreq : s.sys.modeReq = some (m, n)) (hn : s.flt.m ≤ n) :
    modeChangeEffectEff s = s := by
  simp [modeChangeEffectEff, hreq, hn]

/-- R399: an engine that enters TEST with the duties, its partner there, releases them at the next heartbeat. -/
def State.testRelease (s : State) : State :=
  if s.paired = true ∧ s.leads = true ∧ s.flag OZX_PSTAT_PARTNER_OK = true then { s with oz := { s.oz with relNext := true } } else s

theorem modeChangeEffectEff_of_test {n : Nat} (hmode : s.mode = .run) (hreq : s.sys.modeReq = some (.test, n)) (hn : n < s.flt.m) :
    modeChangeEffectEff s =
      (State.testRelease { s with mode := .test, sys := { s.sys with modeReq := none } }).tripStat.answerMode .ok := by
  have hprot : s.protecting = true := by simp [State.protecting, hmode]
  simp [modeChangeEffectEff, hreq, hprot, hn, State.testRelease, State.sysUpd, and_assoc]

theorem State.cmd_tripStat (s : State) : s.tripStat.cmd = s.cmd := by
  simp [State.tripStat_frame]

theorem State.cmd_testRelease (s : State) : s.testRelease.cmd = s.cmd := by
  unfold State.testRelease
  split <;> rfl

theorem State.modeWait_endForce (s : State) : s.endForce.cmd.modeWait = s.cmd.modeWait := by
  simp [State.endForce, State.setF_frame]
end

/-! ### The obligation -/

theorem supplyOutOfRangeEff_leaves (s : State) : let b := supplyOutOfRangeEff s
    b.mode = .boot ∧ b.regs = [] ∧ b.mram = s.dropMode.logFlush.mram ∧ b.mram.boot = s.mram.boot ∧ b.mram.keyCnt = s.mram.keyCnt ∧
      b.sec.keys = s.dropMode.sec.keys ∧ (s.cmd.modeWait = none → s.evt.logBuf = [] → b.mram = s.mram ∧ b.sec.keys = s.sec.keys) ∧
      b.sec.otp = s.sec.otp ∧ b.sys.por = true ∧ b.sys.mapOn = false ∧ b.evt = State.reset.evt ∧ b.now = s.now ∧
      b.pending = s.pending ∧ b.trp.lvlArm = s.trp.lvlArm ∧ b.trp.lvlFire = s.trp.lvlFire ∧ b.trp.wdLevel = s.trp.wdLevel ∧
      b.ballsFloat = true := by
  intro b
  have hmram : b.mram = s.dropMode.logFlush.mram := rfl
  have hkeys : b.sec.keys = s.dropMode.logFlush.sec.keys := rfl
  have hotp : b.sec.otp = s.dropMode.logFlush.sec.otp := rfl
  have hnow : b.now = s.dropMode.logFlush.now := rfl
  have hpending : b.pending = s.dropMode.logFlush.pending := rfl
  simp only [State.logFlush_frame, State.dropMode_frame] at hkeys hotp hnow hpending
  refine ⟨rfl, rfl, hmram, ?_, ?_, hkeys, fun hwait hlog => ?_, hotp, rfl, rfl, rfl, hnow, hpending, rfl, rfl, rfl, rfl⟩
  · simp [hmram, State.logFlush_frame, State.dropMode_frame]
  · simp [hmram, State.logFlush_frame, State.dropMode_frame]
  · rw [hmram, hkeys, State.dropMode_of_none hwait, State.logFlush_of_empty hlog]
    exact ⟨rfl, rfl⟩

/-- What the choice of the slot and the steps before the header leave. -/
theorem State.slotChosen_fields (u : State) (hdrs : List ImgHdr) (cause : Nat) : let b := (u.slotChosen hdrs cause).toStep 3
    b.mode = u.mode ∧ b.sys.step = 3 ∧ b.sys.slot = u.mram.boot.pref ∧ b.sys.warm = u.sys.warm ∧ b.sys.restart = u.sys.restart ∧
      b.sys.straps = u.sys.straps ∧ b.evt = u.evt ∧ b.mram.boot.startCause = cause ∧ b.mram.boot.safeCause = 0 ∧
      b.mram.keyCnt = u.mram.keyCnt ∧ b.sec.keys = u.sec.keys ∧ b.sec.otp = u.sec.otp ∧ b.regs = u.regs ∧ b.trp = u.trp :=
  ⟨rfl, rfl, rfl, rfl, rfl, rfl, rfl, rfl, rfl, rfl, rfl, rfl, rfl, rfl⟩

/-- R421: what a restart keeps, in the state in which it begins. -/
theorem State.atRestart_fields (s : State) (r : RestartReq) : let u := s.atRestart r
    u.mode = .boot ∧ u.mram = s.dropMode.mram ∧ u.sys.warm = !r.cold ∧ u.sys.restart = none ∧ u.sys.straps = s.dropMode.sys.straps ∧
      u.evt.logBuf = s.dropMode.evt.logBuf ∧ u.sec.keys = s.dropMode.sec.keys ∧ u.sec.otp = s.dropMode.sec.otp ∧
      u.regs = rwsKept s.dropMode.regs ∧ u.trp.lvlArm = s.trp.lvlArm ∧ u.trp.lvlFire = s.trp.lvlFire :=
  ⟨rfl, rfl, rfl, rfl, rfl, rfl, rfl, rfl, rfl, rfl, rfl⟩

theorem State.restart_leaves (s : State) (hdrs : List ImgHdr) (r : RestartReq) :
    let b := ((s.atRestart r).bootRead.slotChosen hdrs (restartCause r)).toStep 3
    b.mode = .boot ∧ b.sys.step = 3 ∧ b.sys.slot = s.dropMode.bootRead.mram.boot.pref ∧ b.sys.warm = !r.cold ∧ b.sys.restart = none ∧
      b.sys.straps = s.sys.straps ∧ b.evt.logBuf = s.dropMode.evt.logBuf ∧ b.mram.boot.startCause = restartCause r ∧
      b.mram.boot.safeCause = 0 ∧ b.mram.keyCnt = s.mram.keyCnt ∧ b.sec.keys = s.dropMode.sec.keys ∧ b.sec.otp = s.sec.otp ∧
      b.regs = rwsKept s.dropMode.regs ∧ b.trp.lvlArm = s.trp.lvlArm ∧ b.trp.lvlFire = s.trp.lvlFire := by
  have hpref : (s.atRestart r).bootRead.mram.boot.pref = s.dropMode.bootRead.mram.boot.pref := by
    rw [State.bootRead_congr (s.atRestart_fields r).2.1]
  obtain ⟨hmode, hmram, hwarm, hreq, hstraps, hlog, hkeys, hotp, hregs, harm, hfire⟩ := s.atRestart_fields r
  have hkeyCnt : (s.atRestart r).mram.keyCnt = s.mram.keyCnt := by rw [hmram, (s.dropMode_frame).2.2.2.2.2.1]
  simp [State.slotChosen_fields, hpref, State.bootRead_frame, hmode, hwarm, hreq, hstraps, hlog, hkeys, hotp, hregs, harm, hfire, hkeyCnt,
    State.dropMode_frame]

/-- Settles O48: each command by its own lemma, what SAFE leaves by the lemmas on its entry. -/
theorem modesAndRestarts : Obligations.ModesAndRestarts := by
  refine ⟨?supply, ?restart, ?safe, ?loss, ?returned, ?policy, ?window, ?toTest, ?toRun, ?stays, ?uptime, exec_supplyOutOfRange,
    exec_modeChangeEffect, exec_referenceLoss, exec_referenceReturnRestart, exec_policyRestart, exec_restartTake, exec_uptimeUpdate⟩
  case supply => 
    intro t s a
    have hleaves := supplyOutOfRangeEff_leaves a
    exact ⟨_, exec_supplyOutOfRange t s, hleaves⟩
  case restart =>
    intro t hdrs r s a d k hreq hpor href hsafe hpol hvalid hhold hok
    exact ⟨_, exec_of_eq (exec_restartTake t hdrs true true false s) (restartTakeEff_of_ok hreq hpor href hsafe hpol hhold hvalid hok),
      a.restart_leaves hdrs r⟩
  case safe =>
    intro s c
    have hkey : (s.enterSafe c).mram.keyCnt = s.mram.keyCnt := by simp [State.enterSafe_frame]
    have hsec : (s.enterSafe c).sec = s.sec := by simp [State.enterSafe_frame]
    have hsys := s.sys_enterSafe c
    refine ⟨rfl, rfl, by rw [hsys], hkey, hsec, ?_, ?_, by rw [hsys], fun p hp => s.podState_enterSafe c hp⟩
    · rw [hsys]
      simp only [Bool.and_eq_true, decide_eq_true_eq]
    · rw [hsys]
  case loss =>
    intro t s a hpor href
    obtain ⟨hheld, hpresent, hok, hwait, hmode⟩ := a.lossShown_facts
    refine ⟨_, exec_of_eq (exec_referenceLoss t s) (referenceLossEff_of_present hpor href), ?_⟩
    split
    next hsafe => exact ⟨hmode.trans hsafe, hheld, hpresent, hok, hwait, fun h => absurd hsafe h, a.lossShown_log⟩
    next hsafe =>
      have hkept := (State.SafeKept.refl a.lossShown).enterSafe 3
      refine ⟨rfl, hkept.held.trans hheld, ?_, ?_, hkept.wait.trans hwait, fun _ => rfl, fun h => ?_⟩
      · rw [State.sys_enterSafe, hpresent]
      · rw [← hok]
        exact State.flag_eq_of_getF (State.getF_of_rd (hkept.sysRegs _ (by decide)))
      · exact lt_of_lt_of_le (a.lossShown_log h) hkept.log
  case returned =>
    intro t s a b hpor href
    have hrun := exec_of_eq (exec_referenceReturnRestart t s) (referenceReturnRestartEff_of_absent hpor href)
    exact ⟨fun h => by rw [hrun, if_neg h], fun h _ _ => by rw [hrun, if_pos h]⟩
  case policy =>
    intro t p s a n hpol href hstays hwithin
    have hrun := exec_of_eq (exec_policyRestart t s) (policyRestartEff_of_waiting hpol href hstays)
    rw [State.restartWindow_of_within hwithin] at hrun
    refine ⟨fun h => by rw [hrun, if_pos h]; rfl, fun h hwait => ?_, fun h hpair hlog => ?_⟩
    · rw [hrun, if_neg (Nat.not_le.2 h), if_pos (by simpa using hwait)]
    · refine ⟨_, hrun.trans (by rw [if_neg (Nat.not_le.2 h), if_neg (by simp [hpair, hlog])]), a.policyAsked_leaves p⟩
  case window =>
    intro t p s a hpol href hstays hpassed hmax hpair hlog
    have hrun := exec_of_eq (exec_policyRestart t s) (policyRestartEff_of_waiting hpol href hstays)
    rw [State.restartWindow_of_passed hpassed] at hrun
    exact ⟨_, hrun.trans (by rw [if_neg (by exact Nat.not_le.2 hmax), if_neg (by simp [State.afresh_waits, hpair, hlog])]),
      a.afresh_asked p⟩
  case toTest =>
    intro t n q s a b c hmode hreq hwait
    refine exec_of_eq (exec_modeChangeEffect t s) ?_
    split
    next hn => exact modeChangeEffectEff_of_early hreq hn
    next hn =>
      refine (modeChangeEffectEff_of_test hmode hreq (Nat.not_le.1 hn)).trans (State.answerMode_of_waiting (s := c) .ok ?_)
      exact (congrArg CmdSt.modeWait ((State.cmd_tripStat _).trans (State.cmd_testRelease b))).trans hwait
  case toRun =>
    intro t q s a b c n hmode hreq hwait
    refine exec_of_eq (exec_modeChangeEffect t s) ?_
    split
    next hn => exact modeChangeEffectEff_of_early hreq hn
    next hn =>
      refine (modeChangeEffectEff_of_run hmode hreq (Nat.not_le.1 hn)).trans (State.answerMode_of_waiting (s := c) .ok ?_)
      exact (congrArg CmdSt.modeWait (State.cmd_tripStat _)).trans ((State.modeWait_endForce b).trans hwait)
  case stays =>
    intro s
    exact ⟨s.safeStays_iff, s.safeTillPor_iff, fun h c => by simp [State.policyCause, h]⟩
  case uptime =>
    intro t s a hpor
    exact exec_of_eq (exec_uptimeUpdate t s) (if_neg (by rw [hpor]; exact Bool.false_ne_true))

end Sys2Proof.Machine

/-!
The key, world, OTP, flash and event commands (R434 to R436, R443, R460, R425, R470): each opcode's answer by the conditions it tests, and
what the completions of the OTP and of the flash do.
-/
namespace Sys2Proof.Machine

section
variable {q : CmdReq} {s : State}

/-! ### Keys and worlds (R434, R435, R443) -/

theorem orderKeyInit_of_ok (hauth : q.auth = none) (hslot : payN q 0 1 < 8) (htr : q.tr = 0) (hprov : s.provisioning = true)
    (hst : (s.keySlot (payN q 0 1)).st = 0) : orderKeyInit q s =
      okOut (s.setKey (payN q 0 1) ⟨1, q.payload.drop 4⟩) (kcv ⟨1, q.payload.drop 4⟩ ++ [0]) := by
  simp [orderKeyInit, hauth, htr, hprov, hst, show ¬ 7 < payN q 0 1 by omega]

theorem orderKeyInit_of_taken (hauth : q.auth = none) (hslot : payN q 0 1 < 8) (hst : (s.keySlot (payN q 0 1)).st ≠ 0) :
    orderKeyInit q s = refused s .stateDenied := by
  simp [orderKeyInit, hauth, hst, show ¬ 7 < payN q 0 1 by omega]

/-- R434: the key derived for a slot. -/
def rotatedKey (q : CmdReq) (s : State) (nonce p : Nat) : KeySlot :=
  ⟨1, hmacSha256 (s.keySlot p).key (kdfLabel ++ [payN q 0 1] ++ (q.payload.drop 4).take 16 ++ beBytes 16 nonce)⟩

theorem orderKeyRotate_of_ok (nonce : Nat) {p c : Nat} (hauth : q.auth = some (p, c)) (hslot : payN q 0 1 < 8) (hp : payN q 0 1 ≠ p)
    (hst : (s.keySlot (payN q 0 1)).st ≠ 1) (htrng : s.sec.trngOk = true) : orderKeyRotate nonce q s =
      okOut (s.setKey (payN q 0 1) (rotatedKey q s nonce p)) (beBytes 16 nonce ++ kcv (rotatedKey q s nonce p) ++ [0]) := by
  simp [orderKeyRotate, hauth, hp, hst, htrng, show ¬ 7 < payN q 0 1 by omega, rotatedKey]

theorem orderKeyRetire_of_ok (hslot : payN q 0 4 < 8) (hst : (s.keySlot (payN q 0 4)).st = 1)
    (hworld : bitN (s.getF (SEC_WMAP_MAP 7)) (8 + payN q 0 4) = false) :
    orderKeyRetire q s = okRes (s.setKey (payN q 0 4) ⟨2, []⟩) := by
  simp [orderKeyRetire, State.lastWorldKey, hst, hworld, show ¬ 7 < payN q 0 4 by omega]

theorem orderKeyRetire_of_inactive (hslot : payN q 0 4 < 8) (hst : (s.keySlot (payN q 0 4)).st ≠ 1) :
    orderKeyRetire q s = refused s .stateDenied := by
  simp [orderKeyRetire, hst, show ¬ 7 < payN q 0 4 by omega]

theorem orderWorldSet_of_ok (hw : payN q 0 4 ≤ 6)
    (hmap : worldMapOk 32 (lset ((upto 8).map (fun k => s.getF (SEC_WMAP_MAP k))) (payN q 0 4) (payN q 4 4)) = true) :
    orderWorldSet q s =
      okRes (((s.setF (SEC_WMAP_MAP (payN q 0 4)) (payN q 4 4)).setFlag SEC_STAT_CHG true).raise 113 (payN q 0 4) (payN q 4 4)) := by
  simp [orderWorldSet, hmap, Nat.not_lt.2 hw]

theorem orderWorldSet_of_range (hw : 6 < payN q 0 4) : orderWorldSet q s = refused s .valueRange := by
  simp [orderWorldSet, hw]

/-! ### OTP (R436) -/

theorem orderOtpProgram_of_ok (hh : payN q 0 4 ≤ 1) (hst : (s.otpSlot (payN q 0 4)).st = 0) (hrun : s.cmd.run = none) :
    orderOtpProgram q s = s.startRun q (.otpProgram (payN q 0 4) (ofBe (q.payload.drop 4))) := by
  simp [orderOtpProgram, hst, hrun, Nat.not_lt.2 hh]

theorem orderOtpRevoke_of_ok (hh : payN q 0 4 ≤ 1) (h0 : (s.otpSlot 0).st = 1) (h1 : (s.otpSlot 1).st = 1) (hrun : s.cmd.run = none) :
    orderOtpRevoke q s = s.startRun q (.otpRevoke (payN q 0 4)) := by
  have hboth : (s.otpSlot (payN q 0 4)).st = 1 ∧ (s.otpSlot (1 - payN q 0 4)).st = 1 := by
    rcases Nat.le_one_iff_eq_zero_or_eq_one.1 hh with h | h <;> simp [h, h0, h1]
  simp [orderOtpRevoke, hboth, hrun, Nat.not_lt.2 hh]

section
variable {h hash tr seq : Nat}

theorem otpOperationDoneEff_of_program (hrun : s.cmd.run = some (.otpProgram h hash, tr, seq)) :
    otpOperationDoneEff true s = (s.endRun.setOtp h ⟨1, hash⟩).complete 0x0705 tr 0 seq 0 := by
  rw [otpOperationDoneEff, hrun]
  exact if_pos rfl

theorem otpOperationDoneEff_of_programFailed (hrun : s.cmd.run = some (.otpProgram h hash, tr, seq)) :
    otpOperationDoneEff false s = ((s.endRun.setFlag SEC_STAT_OTP_ERR true).setOtp h ⟨2, (Config.otpFailed h hash).toNat⟩).complete
      0x0705 tr (stCode .valueRange) seq 0 := by
  rw [otpOperationDoneEff, hrun]
  exact if_neg Bool.false_ne_true

theorem otpOperationDoneEff_of_revoke (ok : Bool) (hrun : s.cmd.run = some (.otpRevoke h, tr, seq)) :
    otpOperationDoneEff ok s = (s.endRun.setOtp h ⟨2, (s.otpSlot h).hash⟩).complete 0x0706 tr 0 seq 0 := by
  rw [otpOperationDoneEff, hrun]
end

/-! ### Flash (R425, R460) -/

theorem orderFlashErase_of_ok (halign : payN q 0 4 % 0x10000 = 0) (hlo : 1 ≤ payN q 4 4) (hhi : payN q 4 4 ≤ 1024)
    (hslot : inOneSlot (payN q 0 4) (payN q 4 4 * 0x10000) = true) (hfree : s.flashRefusal (slotOf (payN q 0 4)) = none) :
    orderFlashErase q s = s.startRun q (.flashErase (payN q 0 4) (payN q 4 4)) := by
  simp [orderFlashErase, halign, hslot, hfree, Nat.not_lt.2 hhi, show payN q 4 4 ≠ 0 by omega]

theorem orderFlashErase_of_range (h : payN q 0 4 % 0x10000 ≠ 0 ∨ payN q 4 4 = 0 ∨
    inOneSlot (payN q 0 4) (payN q 4 4 * 0x10000) = false) : orderFlashErase q s = refused s .valueRange := by
  rw [orderFlashErase, if_pos (by simpa [or_assoc] using h)]

theorem orderFlashProgram_of_ok (halign : payN q 0 4 % 256 = 0) (hlen : (q.payload.drop 4).length % 256 = 0)
    (hslot : inOneSlot (payN q 0 4) (q.payload.drop 4).length = true) (hfree : s.flashRefusal (slotOf (payN q 0 4)) = none) :
    orderFlashProgram q s = s.startRun q (.flashProgram (payN q 0 4) (q.payload.drop 4)) := by
  rw [orderFlashProgram, if_neg (by simp only [halign, hlen, hslot]; decide), hfree]

theorem orderFlashSlot_of_ok (hk : payN q 0 4 ≤ 1) (hrun : s.cmd.run = none) :
    orderFlashSlot q s = s.startRun q (.flashSlot (payN q 0 4)) := by
  simp [orderFlashSlot, hrun, Nat.not_lt.2 hk]

theorem orderFlashSlot_of_busy (hk : payN q 0 4 ≤ 1) (hrun : s.cmd.run.isSome = true) : orderFlashSlot q s = refused s .resourceBusy := by
  simp [orderFlashSlot, hrun, Nat.not_lt.2 hk]

theorem orderFlashRead_of_ok {data : List Nat} (hdata : ∀ b ∈ data, b < 256) (hlo : 1 ≤ payN q 4 4) (hlen : payN q 4 4 = data.length)
    (hend : payN q 0 4 + payN q 4 4 ≤ 0x8000000) (hhi : payN q 4 4 ≤ 4096) (hwriting : s.flashWriting = false) :
    orderFlashRead data q s = okOut s data := by
  have hbytes : ((data ++ List.replicate (payN q 4 4) 0).take (payN q 4 4)).map (· % 256) = data := by
    rw [hlen, List.take_left, List.map_congr_left fun b hb => Nat.mod_eq_of_lt (hdata b hb), List.map_id']
  unfold orderFlashRead
  dsimp only
  rw [hbytes, if_neg (by simp; omega), if_neg (Nat.not_lt.2 hhi), if_neg (by simp [hwriting])]

section
variable {k n tr seq : Nat} {d : List Nat} {h : ImgHdr} {sig : Bool} (href : s.sys.refPresent = true)
include href

theorem flashOperationDoneEff_of_erase (hrun : s.cmd.run = some (.flashErase k n, tr, seq)) :
    flashOperationDoneEff h sig s = s.endRun.complete 0x0802 tr 0 seq 0 := by
  simp [flashOperationDoneEff, href, hrun]

theorem flashOperationDoneEff_of_program (hrun : s.cmd.run = some (.flashProgram k d, tr, seq)) :
    flashOperationDoneEff h sig s = s.endRun.complete 0x0803 tr 0 seq 0 := by
  simp [flashOperationDoneEff, href, hrun]

theorem flashOperationDoneEff_of_slot (hrun : s.cmd.run = some (.flashSlot k, tr, seq)) : flashOperationDoneEff h sig s =
    if hdrOk h && s.sigCheck h sig then (s.endRun.bootUpd (fun b => { b with pref := k })).complete 0x0804 tr 0 seq 0
    else s.endRun.complete 0x0804 tr (stCode .imageInvalid) seq 0 := by
  simp [flashOperationDoneEff, href, hrun]
end

/-! ### Event queues (R470) -/

/-- R470: the queue a command names is open to its requester. -/
def State.QueueOpen (s : State) (q : CmdReq) : Prop := payN q 0 2 = 0 ∨ (payN q 0 2 = 1 ∧ s.reqSecure (trReq q.tr) = true)

theorem State.QueueOpen.allowed (h : s.QueueOpen q) : s.queueDenied q = false ∧ ¬ 1 < payN q 0 2 := by
  rcases h with h | ⟨h, hsec⟩
  · simp [State.queueDenied, h]
  · simp [State.queueDenied, h, hsec]

theorem orderEvtRead_of_ok (hopen : s.QueueOpen q) (hlo : 1 ≤ payN q 2 2) (hhi : payN q 2 2 ≤ 127) : orderEvtRead q s =
    okOut s (leBytes 4 ((s.queue (payN q 0 2)).take (payN q 2 2)).length ++
      ((s.queue (payN q 0 2)).take (payN q 2 2)).flatMap (entryBytes false)) := by
  obtain ⟨hallowed, hq⟩ := hopen.allowed
  simp [orderEvtRead, hallowed, hq, show payN q 2 2 ≠ 0 by omega, Nat.not_lt.2 hhi]

theorem orderEvtAck_of_ok (hopen : s.QueueOpen q) (hlo : 1 ≤ payN q 2 2) (hhi : payN q 2 2 ≤ (s.queue (payN q 0 2)).length) :
    orderEvtAck q s = okRes (s.setQueue (payN q 0 2) ((s.queue (payN q 0 2)).drop (payN q 2 2))) := by
  obtain ⟨hallowed, hq⟩ := hopen.allowed
  have hack : s.ackOk (payN q 0 2) (payN q 2 2) = true := by simp [State.ackOk, hhi, show payN q 2 2 ≠ 0 by omega]
  rw [orderEvtAck, if_neg (by simp [hallowed]), if_neg (by simp [hq, hack])]
  rfl

theorem orderEvtAck_of_denied (hq : payN q 0 2 = 1) (hsec : s.reqSecure (trReq q.tr) = false) : orderEvtAck q s = s.worldRefused q := by
  simp [orderEvtAck, State.queueDenied, hq, hsec]
end

/-- Settles O43: each opcode by its own lemma on the conditions named, each completion by the operation that ran. -/
theorem keyFlashAndEventOrders : Obligations.KeyFlashAndEventOrders := by
  refine ⟨.of_onOpcode _ _ _ _ _ exec_cmdKeyInit fun q s ⟨hauth, hslot, htr, hprov, hst⟩ => orderKeyInit_of_ok hauth hslot htr hprov hst,
    .of_onOpcode _ _ _ _ _ exec_cmdKeyInit fun q s ⟨hauth, hslot, hst⟩ => orderKeyInit_of_taken hauth hslot hst, ?rotate,
    .of_onOpcode _ _ _ _ _ exec_cmdKeyRetire fun q s ⟨hslot, hst, hworld⟩ => orderKeyRetire_of_ok hslot hst hworld,
    .of_onOpcode _ _ _ _ _ exec_cmdKeyRetire fun q s ⟨hslot, hst⟩ => orderKeyRetire_of_inactive hslot hst,
    .of_onOpcode _ _ _ _ _ exec_cmdWorldSet fun q s ⟨hw, hmap⟩ => orderWorldSet_of_ok hw hmap,
    .of_onOpcode _ _ _ _ _ exec_cmdWorldSet fun q s hw => orderWorldSet_of_range hw, ?runs, ?read, ?otpDone, ?flashDone,
    .of_onOpcode _ _ _ _ _ exec_cmdEvtRead fun q s ⟨hopen, hlo, hhi⟩ => orderEvtRead_of_ok hopen hlo hhi,
    .of_onOpcode _ _ _ _ _ exec_cmdEvtAck fun q s ⟨hopen, hlo, hhi⟩ => orderEvtAck_of_ok hopen hlo hhi,
    .of_onOpcode _ _ _ _ _ exec_cmdEvtAck fun q s ⟨hq, hsec⟩ => orderEvtAck_of_denied hq hsec,
    exec_otpOperationDone, exec_flashOperationDone⟩
  case rotate =>
    exact fun nonce p c hnonce => .of_onOpcode _ _ _ _ _ (fun t s => (exec_cmdKeyRotate_eq t nonce s).trans (congrArg _ (if_pos hnonce)))
      fun q s ⟨hauth, hslot, hp, hst, htrng⟩ => orderKeyRotate_of_ok nonce hauth hslot hp hst htrng
  case runs =>
    exact ⟨.of_onOpcode _ _ _ _ _ exec_cmdOtpProgram fun q s ⟨hh, hst, hrun⟩ => orderOtpProgram_of_ok hh hst hrun,
      .of_onOpcode _ _ _ _ _ exec_cmdOtpRevoke fun q s ⟨hh, h0, h1, hrun⟩ => orderOtpRevoke_of_ok hh h0 h1 hrun,
      .of_onOpcode _ _ _ _ _ exec_cmdFlashErase fun q s ⟨halign, hlo, hhi, hslot, hfree⟩ =>
        orderFlashErase_of_ok halign hlo hhi hslot hfree,
      .of_onOpcode _ _ _ _ _ exec_cmdFlashErase fun q s h => orderFlashErase_of_range h,
      .of_onOpcode _ _ _ _ _ exec_cmdFlashProgram fun q s ⟨halign, hlen, hslot, hfree⟩ => orderFlashProgram_of_ok halign hlen hslot hfree,
      .of_onOpcode _ _ _ _ _ exec_cmdFlashSlot fun q s ⟨hk, hrun⟩ => orderFlashSlot_of_ok hk hrun,
      .of_onOpcode _ _ _ _ _ exec_cmdFlashSlot fun q s ⟨hk, hrun⟩ => orderFlashSlot_of_busy hk hrun⟩
  case read =>
    exact fun data hdata => .of_onOpcode _ _ _ _ _
      (fun t s => (exec_cmdFlashRead_eq t data s).trans (congrArg _ (if_pos (by simpa using hdata))))
      fun q s ⟨hlo, hlen, hend, hhi, hwriting⟩ => orderFlashRead_of_ok hdata hlo hlen hend hhi hwriting
  case otpDone =>
    intro t h hash tr seq s a e
    exact ⟨fun hrun => ⟨exec_of_eq (exec_otpOperationDone t true s) (otpOperationDoneEff_of_program hrun),
        exec_of_eq (exec_otpOperationDone t false s) (otpOperationDoneEff_of_programFailed hrun)⟩,
      fun hrun ok => exec_of_eq (exec_otpOperationDone t ok s) (otpOperationDoneEff_of_revoke ok hrun)⟩
  case flashDone =>
    intro t k n tr seq d h sig s a e href
    have hexec := exec_flashOperationDone t h sig s
    refine ⟨fun hrun => exec_of_eq hexec (flashOperationDoneEff_of_erase href hrun),
      fun hrun => exec_of_eq hexec (flashOperationDoneEff_of_program href hrun), fun hrun hok hsig => ?_, fun hrun hbad => ?_⟩
    · refine exec_of_eq hexec ((flashOperationDoneEff_of_slot href hrun).trans (if_pos ?_))
      rw [hok, hsig]
      rfl
    · refine exec_of_eq hexec ((flashOperationDoneEff_of_slot href hrun).trans (if_neg ?_))
      rcases hbad with hbad | hbad <;> rw [hbad]
      · exact Bool.false_ne_true
      · simp

end Sys2Proof.Machine

/-!
The scheme logic and time commands (R233, R288, R302, R342, R344, R459): each opcode's answer by the states that allow it.
-/
namespace Sys2Proof.Machine

section
variable {q : CmdReq} {s : State}

/-! ### Run, Stop, Hold and Step (R288) -/

theorem orderLogicRun_of_stopped {k : Nat} (hk : k < 2) (hpay : payN q 0 4 = k) (hmode : s.getF LGC_MODE_MODE = 0)
    (hsplit : s.flag POD_LSTAT_SPLIT = false) (hprog : s.hasProg 0 = true) :
    orderLogicRun q s = okRes (s.setProg 0 { s.prog 0 with startReq := k + 1 }).startFree := by
  rw [orderLogicRun, if_neg (by omega), if_neg (by simp [hmode, hsplit, hprog]), hpay]

theorem orderLogicRun_of_notStopped (hpay : payN q 0 4 ≤ 1) (h : s.getF LGC_MODE_MODE ≠ 0 ∨ s.flag POD_LSTAT_SPLIT = true) :
    orderLogicRun q s = refused s .stateDenied := by
  rw [orderLogicRun, if_neg (by omega), if_pos (by simp [or_assoc, h.imp_right Or.inl])]

theorem orderLogicStop_of_scanning (hmode : s.getF LGC_MODE_MODE = 1) (hscan : (s.prog 0).scan.isSome = true) :
    orderLogicStop q s = okRes (s.setFlag LGC_MODE_STOP_PEND true) := by
  simp [orderLogicStop, hmode, hscan]

theorem orderLogicStop_of_held (hmode : s.getF LGC_MODE_MODE = 2) : orderLogicStop q s = okRes s.enterStop := by
  simp [orderLogicStop, hmode]

theorem orderLogicStop_of_notRunning (hmode : s.getF LGC_MODE_MODE = 0 ∨ s.getF LGC_MODE_MODE = 3) :
    orderLogicStop q s = refused s .stateDenied := by
  rcases hmode with hmode | hmode <;> simp [orderLogicStop, hmode]

theorem orderLogicHold_of_running (hmode : s.getF LGC_MODE_MODE = 1) (hsplit : s.flag POD_LSTAT_SPLIT = false) :
    orderLogicHold q s = okRes { s with lgc := { s.lgc with holdReq := true } } := by
  simp [orderLogicHold, hmode, hsplit]

theorem orderLogicHold_of_notRunning (h : s.getF LGC_MODE_MODE ≠ 1 ∨ s.flag POD_LSTAT_SPLIT = true) :
    orderLogicHold q s = refused s .stateDenied := by
  rw [orderLogicHold, if_pos (by simpa using h)]

theorem orderLogicResume_of_held (hmode : s.getF LGC_MODE_MODE = 2) (hsplit : s.flag POD_LSTAT_SPLIT = false) :
    orderLogicResume q s = okRes s.leaveHold := by
  simp [orderLogicResume, hmode, hsplit]

theorem orderLogicStep_of_held (hmode : s.getF LGC_MODE_MODE = 2) (hsplit : s.flag POD_LSTAT_SPLIT = false) :
    orderLogicStep q s = okRes (s.execNext 0) := by
  simp [orderLogicStep, hmode, hsplit]

/-! ### Split, join and exchange (R233, R238, R302) -/

theorem orderLogicSplit_of_ready (hpod : s.podState 2 = 1) (hmode : s.getF LGC_MODE_MODE = 1) (hana : s.flag POD_LCFG_ANA_EN = true)
    (hbkr : s.bkrBusy = false) (hexch : s.getF LGC_XSTAT_XSTATE = 0) :
    orderLogicSplit q s = okRes (s.setFlag POD_LSTAT_SPLIT_PEND true) := by
  simp [orderLogicSplit, hpod, hmode, hana, hbkr, hexch]

theorem orderLogicSplit_of_recovering (hpod : s.podState 2 = 2) : orderLogicSplit q s = refused s .busyRecovery := by
  simp [orderLogicSplit, hpod]

theorem orderLogicSplit_of_bkrBusy (hpod : s.podState 2 = 1) (hbkr : s.bkrBusy = true) :
    orderLogicSplit q s = refused s .stateDenied := by
  simp [orderLogicSplit, hpod, hbkr]

theorem orderLogicJoin_of_split (hpod : s.podState 2 = 6) : orderLogicJoin q s =
    okRes (if s.getF LGC_MODE_MODE = 0 then (s.setFlag POD_LSTAT_JOIN_PEND true).takeJoin none
      else s.setFlag POD_LSTAT_JOIN_PEND true) := by
  have hmode : (s.setFlag POD_LSTAT_JOIN_PEND true).getF LGC_MODE_MODE = s.getF LGC_MODE_MODE :=
    State.getF_setFlag_apart (by unfold Field.Fits; decide) (.inl (by decide)) _
  simp only [orderLogicJoin, hpod, hmode]
  rfl

section
variable (hmode : s.getF LGC_MODE_MODE ≠ 3) (hsplit : s.flag POD_LSTAT_SPLIT = false) (hjoin : s.lgc.joinFrom = none)
  (hexch : s.getF LGC_XSTAT_XSTATE = 0)
include hmode hsplit hjoin hexch

theorem orderLogicExchange_of_ready : orderLogicExchange q s =
    if s.flashWriting then refused s .resourceBusy
    else okRes (({ s with lgc := { s.lgc with exchReq := some (q.tr, q.seq) } } : State).setF LGC_XSTAT_XSTATE 1) := by
  rw [orderLogicExchange, if_neg (by simp [hmode, hsplit, hjoin, hexch])]

theorem orderLogicExchange_of_free (hflash : s.flashWriting = false) : orderLogicExchange q s =
    okRes (({ s with lgc := { s.lgc with exchReq := some (q.tr, q.seq) } } : State).setF LGC_XSTAT_XSTATE 1) := by
  rw [orderLogicExchange_of_ready hmode hsplit hjoin hexch, if_neg (by simp [hflash])]

theorem orderLogicExchange_of_writing (hflash : s.flashWriting = true) : orderLogicExchange q s = refused s .resourceBusy := by
  rw [orderLogicExchange_of_ready hmode hsplit hjoin hexch, if_pos hflash]
end

theorem State.flashWriting_iff (s : State) : s.flashWriting = true ↔ ∃ k x, slotOf k ≠ s.mram.boot.booted ∧
    ((∃ n, s.cmd.run = some (.flashErase k n, x)) ∨ ∃ d, s.cmd.run = some (.flashProgram k d, x)) := by
  constructor
  · intro h
    unfold State.flashWriting at h
    split at h
    next k n tr seq hrun => exact ⟨k, (tr, seq), by simpa using h, .inl ⟨n, hrun⟩⟩
    next k d tr seq hrun => exact ⟨k, (tr, seq), by simpa using h, .inr ⟨d, hrun⟩⟩
    next => exact absurd h Bool.false_ne_true
  · rintro ⟨k, x, hslot, ⟨n, hrun⟩ | ⟨d, hrun⟩⟩ <;> simp [State.flashWriting, hrun, hslot]

/-! ### Time (R342, R344) -/

/-- The operands of TIME_SET are of its row. -/
def TimeSetOk (q : CmdReq) : Prop := payN q 0 4 < 4 ∧ payN q 4 4 < 1000000000 ∧ payN q 8 8 < 2 ^ 48

/-- How far the time asked for is from the base's. -/
def timeSetDiff (q : CmdReq) (s : State) : Int :=
  (((payN q 8 8 * 1000000000 + payN q 4 4) * 65536 : Nat) : Int) - s.tbAt (payN q 0 4) s.now

theorem orderTimeSet_of_ok (h : TimeSetOk q) : orderTimeSet q s =
    if s.tbSrc (payN q 0 4) = 0 then
      if payN q 0 4 = s.sampTb then okRes (s.setTb (payN q 0 4) { s.tb (payN q 0 4) with setTime := some (timeSetDiff q s) })
      else okRes (s.applyStep (payN q 0 4) (timeSetDiff q s))
    else if s.tbSrc (payN q 0 4) = 4 then okRes (s.setTb (payN q 0 4) { s.tb (payN q 0 4) with setSec := some (payN q 8 8) })
    else refused s .stateDenied := by
  obtain ⟨hb, hns, hsec⟩ := h
  rw [orderTimeSet, if_neg (by simp; omega)]
  rfl

theorem orderTimeSet_of_range (h : ¬ TimeSetOk q) : orderTimeSet q s = refused s .valueRange := by
  rw [orderTimeSet, if_pos]
  simp only [TimeSetOk] at h
  simp only [Bool.or_eq_true, decide_eq_true_eq]
  omega

theorem orderTimeAcceptStep_of_stepped (hb : payN q 0 4 < 4) (hst : s.tbState (payN q 0 4) = 4) : orderTimeAcceptStep q s =
    if payN q 0 4 = s.sampTb || (s.flag TIM_SAMP_COMPAT && payN q 0 4 = 0) then
      okRes (s.setTb (payN q 0 4) { s.tb (payN q 0 4) with stepAt := some s.now })
    else okRes (s.takeStep (payN q 0 4)) := by
  rw [orderTimeAcceptStep, if_neg (by omega), if_neg (by simp [hst])]

theorem orderTimeAcceptStep_of_notStepped (hb : payN q 0 4 < 4) (hst : s.tbState (payN q 0 4) ≠ 4) :
    orderTimeAcceptStep q s = refused s .stateDenied := by
  rw [orderTimeAcceptStep, if_neg (by omega), if_pos (by simp [hst])]
end

/-- Settles O42: each opcode by its own lemma on the states named. -/
theorem logicAndTimeOrders : Obligations.LogicAndTimeOrders := by
  refine ⟨fun k hk => .of_onOpcode _ _ _ _ _ exec_cmdLogicRun fun q s ⟨hpay, hmode, hsplit, hprog⟩ =>
      orderLogicRun_of_stopped hk hpay hmode hsplit hprog,
    .of_onOpcode _ _ _ _ _ exec_cmdLogicRun fun q s ⟨hpay, h⟩ => orderLogicRun_of_notStopped hpay h,
    .of_onOpcode _ _ _ _ _ exec_cmdLogicStop fun q s ⟨hmode, hscan⟩ => orderLogicStop_of_scanning hmode hscan,
    .of_onOpcode _ _ _ _ _ exec_cmdLogicStop fun q s hmode => orderLogicStop_of_held hmode,
    .of_onOpcode _ _ _ _ _ exec_cmdLogicStop fun q s hmode => orderLogicStop_of_notRunning hmode,
    .of_onOpcode _ _ _ _ _ exec_cmdLogicHold fun q s ⟨hmode, hsplit⟩ => orderLogicHold_of_running hmode hsplit,
    .of_onOpcode _ _ _ _ _ exec_cmdLogicHold fun q s h => orderLogicHold_of_notRunning h,
    .of_onOpcode _ _ _ _ _ exec_cmdLogicResume fun q s ⟨hmode, hsplit⟩ => orderLogicResume_of_held hmode hsplit,
    .of_onOpcode _ _ _ _ _ exec_cmdLogicStep fun q s ⟨hmode, hsplit⟩ => orderLogicStep_of_held hmode hsplit,
    .of_onOpcode _ _ _ _ _ exec_cmdLogicSplit fun q s ⟨hpod, hmode, hana, hbkr, hexch⟩ =>
      orderLogicSplit_of_ready hpod hmode hana hbkr hexch,
    .of_onOpcode _ _ _ _ _ exec_cmdLogicSplit fun q s hpod => orderLogicSplit_of_recovering hpod,
    .of_onOpcode _ _ _ _ _ exec_cmdLogicSplit fun q s ⟨hpod, hbkr⟩ => orderLogicSplit_of_bkrBusy hpod hbkr,
    .of_onOpcode _ _ _ _ _ exec_cmdLogicJoin fun q s ⟨hpod, hmode⟩ => (orderLogicJoin_of_split hpod).trans (by rw [if_neg hmode]; rfl),
    .of_onOpcode _ _ _ _ _ exec_cmdLogicJoin fun q s ⟨hpod, hmode⟩ => (orderLogicJoin_of_split hpod).trans (by rw [if_pos hmode]; rfl),
    .of_onOpcode _ _ _ _ _ exec_cmdLogicExchange fun q s ⟨hmode, hsplit, hjoin, hexch, hflash⟩ =>
      orderLogicExchange_of_free hmode hsplit hjoin hexch hflash,
    .of_onOpcode _ _ _ _ _ exec_cmdLogicExchange fun q s ⟨hmode, hsplit, hjoin, hexch, hflash⟩ =>
      orderLogicExchange_of_writing hmode hsplit hjoin hexch hflash,
    State.flashWriting_iff, ?timeSet, ?stepAt, ?stepNow,
    .of_onOpcode _ _ _ _ _ exec_cmdTimeAcceptStep fun q s ⟨hb, hst⟩ => orderTimeAcceptStep_of_notStepped hb hst⟩
  case timeSet =>
    have hanswer {cond : CmdReq → State → Prop} {res : CmdReq → State → CmdRes} (h : ∀ q s, cond q s → orderTimeSet q s = res q s) :
        OrderAnswers .cmdTimeSet 0x0601 cond res := .of_onOpcode _ _ _ _ _ exec_cmdTimeSet h
    refine ⟨hanswer fun q s ⟨hok, hsrc, hb⟩ => ?_, hanswer fun q s ⟨hok, hsrc, hb⟩ => ?_, hanswer fun q s ⟨hok, hsrc⟩ => ?_,
      hanswer fun q s ⟨hok, hfree, hpps⟩ => ?_, hanswer fun q s h => orderTimeSet_of_range h⟩ <;> rw [orderTimeSet_of_ok hok]
    · rw [if_pos hsrc, if_neg hb]
      rfl
    · rw [if_pos hsrc, if_pos hb]
      rfl
    · rw [if_neg (by omega), if_pos hsrc]
      rfl
    · rw [if_neg hfree, if_neg hpps]
      rfl
  case stepAt =>
    refine .of_onOpcode _ _ _ _ _ exec_cmdTimeAcceptStep fun q s ⟨hb, hst, hsamp⟩ => ?_
    rw [orderTimeAcceptStep_of_stepped hb hst, if_pos (by simp [hsamp])]
    rfl
  case stepNow =>
    refine .of_onOpcode _ _ _ _ _ exec_cmdTimeAcceptStep fun q s ⟨hb, hst, hsamp, hcompat⟩ => ?_
    rw [orderTimeAcceptStep_of_stepped hb hst, if_neg (by simp [hsamp, hcompat])]
    rfl

end Sys2Proof.Machine

/-!
The commands of the engine as a whole (R18 to R20, R442, R454, R456, R457): each opcode's answer by the conditions it tests, the end of a
force and of a debug session.
-/
namespace Sys2Proof.Machine

section
variable {q : CmdReq} {s : State}

/-! ### Registers, restart and mode (R18, R19, R456) -/

theorem rangeBad_eq_false (halign : payN q 0 4 % 4 = 0) (hn : 1 ≤ payN q 4 4) : rangeBad q = false := by
  simp [rangeBad, halign, show payN q 4 4 ≠ 0 by omega]

theorem orderRegRead_of_ok (halign : payN q 0 4 % 4 = 0) (hlo : 1 ≤ payN q 4 4) (hhi : payN q 4 4 ≤ 1024)
    (hend : payN q 0 4 + 4 * payN q 4 4 ≤ 0x800000) : orderRegRead q s =
      okOut (State.readWords (trReq q.tr) (payN q 4 4) (payN q 0 4) s).2
        ((State.readWords (trReq q.tr) (payN q 4 4) (payN q 0 4) s).1.flatMap (leBytes 4)) := by
  rw [orderRegRead, if_neg (by rw [rangeBad_eq_false halign hlo]; exact Bool.false_ne_true), if_neg (by simp; omega)]

theorem orderRegRead_of_range (h : payN q 0 4 % 4 ≠ 0 ∨ payN q 4 4 = 0) : orderRegRead q s = refused s .valueRange := by
  rw [orderRegRead, if_pos (by simpa [rangeBad] using h)]

/-- R456: what a write of several words answers: the first one refused and how many were written. -/
def regWriteAnswer (q : CmdReq) (s : State) : CmdRes :=
  let r := State.writeUntil (trReq q.tr) (leWords (payN q 4 4) (q.payload.drop 8)) (payN q 0 4) 0 s
  ⟨r.1, r.2.2, [], r.2.1, false⟩

theorem orderRegWrite_of_ok (halign : payN q 0 4 % 4 = 0) (hlo : 1 ≤ payN q 4 4) (hhi : payN q 4 4 ≤ 1022)
    (hlen : q.payload.length = 8 + 4 * payN q 4 4) : orderRegWrite q s = regWriteAnswer q s := by
  rw [orderRegWrite, if_neg (by rw [rangeBad_eq_false halign hlo]; exact Bool.false_ne_true), if_neg (by simp [hlen]; omega)]
  rfl

theorem orderRestart_of_ok (h : payN q 0 4 ≤ 1) : orderRestart q s = okRes (s.reqRestart (payN q 0 4 = 0) false) := by
  rw [orderRestart, if_neg (Nat.not_lt.2 h)]

theorem orderRestart_of_range (h : 1 < payN q 0 4) : orderRestart q s = refused s .valueRange := by
  rw [orderRestart, if_pos h]

theorem orderModeSet_of_toTest (hpay : payN q 0 4 = 2) (hmode : s.mode = .run) (hok : s.testDenied = false) : orderModeSet q s =
    ⟨.ok, { s with sys := { s.sys with modeReq := some (.test, s.flt.m) } }, [], 0, true⟩ := by
  simp [orderModeSet, hpay, hmode, modeCode, hok, State.sysUpd]

theorem orderModeSet_of_toRun (hpay : payN q 0 4 = 1) (hmode : s.mode = .test) (hok : s.runDenied = false) : orderModeSet q s =
    ⟨.ok, { s with sys := { s.sys with modeReq := some (.run, s.flt.m) } }, [], 0, true⟩ := by
  simp [orderModeSet, hpay, hmode, modeCode, hok, State.sysUpd]

theorem orderModeSet_of_testDenied (hpay : payN q 0 4 = 2) (hmode : s.mode = .run) (hdenied : s.testDenied = true) :
    orderModeSet q s = refused s .stateDenied := by
  simp [orderModeSet, hpay, hmode, modeCode, hdenied]

/-! ### Forces (R20, R457) -/

theorem orderOutputForce_of_ok (hmode : s.mode = .test) (harm : payN q 0 4 ≠ 0) (hlo : 1 ≤ payN q 8 4) (hhi : payN q 8 4 ≤ 60000)
    (hfire : Nat.land (payN q 4 4) (payN q 0 4) = payN q 4 4)
    (hon : Nat.land (Nat.lor (payN q 0 4) (payN q 4 4)) s.outputsOn = Nat.lor (payN q 0 4) (payN q 4 4)) : orderOutputForce q s =
      (let r := (s.setF TRP_FRC_ARM_FARM (payN q 0 4)).setF TRP_FRC_FIRE_FFIRE (payN q 4 4)
       okRes { r with trp := { r.trp with forced := payN q 0 4 }, cmd := { r.cmd with forceEnd := some (s.now + payN q 8 4 * msU) } }) := by
  rw [orderOutputForce, if_neg (by simp [hmode]), if_neg (by simp [harm]),
    if_neg (by rw [hfire, hon]; simp; omega)]
  simp only [State.setF_frame]

theorem orderOutputForce_of_notTest (hmode : s.mode ≠ .test) : orderOutputForce q s = refused s .notInTest := by
  rw [orderOutputForce, if_pos (by simpa using hmode)]

theorem forceExpiryEff_of_due {u : Nat} (href : s.sys.refPresent = true) (hend : s.cmd.forceEnd = some u) (hu : u ≤ s.now) :
    forceExpiryEff s = s.endForce := by
  simp [forceExpiryEff, hend, href, hu]

/-! ### Debug (R442, R456) -/

theorem orderDebugUnlock_of_key {k c : Nat} (hmode : s.mode = .test) (hauth : q.auth = some (k, c))
    (hkey : bitN (s.getF (SEC_WMAP_MAP 7)) (16 + k) = true) : orderDebugUnlock q s = okRes (s.setFlag DBG_STAT_UNLOCK true) := by
  simp [orderDebugUnlock, hmode, hauth, hkey]

theorem orderDebugLock_of_running (h0 : s.podState 0 ≠ 5) (h1 : s.podState 1 ≠ 5) : orderDebugLock q s = okRes s.debugLock := by
  simp [orderDebugLock, h0, h1]

theorem orderDebugLock_of_halted (h : s.podState 0 = 5 ∨ s.podState 1 = 5) : orderDebugLock q s = refused s .stateDenied := by
  rw [orderDebugLock, if_pos (by simpa using h)]

/-- A pod's request to halt is taken back. -/
def State.unhalt (s : State) (p : Nat) : State := s.setPod p { s.podOf p with haltReq := false }

/-- What DBG_STAT shows of a debug session that has ended. -/
def State.debugShown (s : State) : State :=
  let t := s.setFlag DBG_STAT_UNLOCK false
  if t.getF DBG_STAT_TARGET = 3 then t else t.setF DBG_STAT_TARGET 0

theorem State.debugLock_eq (s : State) : s.debugLock = (s.debugShown.unhalt 0).unhalt 1 := rfl

theorem State.regs_unhalt (s : State) (p : Nat) : (s.unhalt p).regs = s.regs := rfl

theorem State.debugShown_fields (s : State) : s.debugShown.flag DBG_STAT_UNLOCK = false ∧
    s.debugShown.getF DBG_STAT_TARGET = (if s.getF DBG_STAT_TARGET = 3 then 3 else 0) ∧ s.debugShown.pod = s.pod := by
  have hfits : DBG_STAT_UNLOCK.Fits ∧ DBG_STAT_TARGET.Fits := by simp [Field.Fits, DBG_STAT_UNLOCK, DBG_STAT_TARGET]
  have hapart : DBG_STAT_TARGET.Apart DBG_STAT_UNLOCK ∧ DBG_STAT_UNLOCK.Apart DBG_STAT_TARGET := by
    simp [Field.Apart, DBG_STAT_UNLOCK, DBG_STAT_TARGET]
  have hlock : (s.setFlag DBG_STAT_UNLOCK false).flag DBG_STAT_UNLOCK = false := State.flag_setFlag_same _ _ _ hfits.1 rfl
  have htarget : (s.setFlag DBG_STAT_UNLOCK false).getF DBG_STAT_TARGET = s.getF DBG_STAT_TARGET :=
    State.getF_setFlag_apart hfits.1 hapart.1 _
  unfold State.debugShown
  dsimp only
  split
  next h => exact ⟨hlock, by rw [← htarget, if_pos h, h], rfl⟩
  next h =>
    refine ⟨?_, ?_, rfl⟩
    · exact (State.flag_eq_of_getF (State.getF_setF_apart hfits.2 hapart.2 0)).trans hlock
    · rw [← htarget, if_neg h, State.getF_setF_same _ _ _ hfits.2, Nat.zero_mod]

theorem State.haltReq_unhalt (s : State) {p : Nat} (hp : p < s.pod.pods.length) (k : Nat) :
    ((s.unhalt k).podOf p).haltReq = if p = k then false else (s.podOf p).haltReq := by
  unfold State.unhalt State.podOf State.setPod
  dsimp only
  rw [lget_lset]
  by_cases h : p = k
  · subst h
    simp [hp]
  · simp [h]

theorem State.length_pods_unhalt (s : State) (p : Nat) : (s.unhalt p).pod.pods.length = s.pod.pods.length := lset_length ..

theorem State.haltReq_debugLock (h : s.pod.pods.length = 3) {p : Nat} (hp : p < 2) : (s.debugLock.podOf p).haltReq = false := by
  have hlen : s.debugShown.pod.pods.length = 3 := by rw [s.debugShown_fields.2.2, h]
  have hlen0 : (s.debugShown.unhalt 0).pod.pods.length = 3 := (State.length_pods_unhalt _ _).trans hlen
  rw [State.debugLock_eq, State.haltReq_unhalt _ (by omega), State.haltReq_unhalt _ (by omega)]
  rcases Nat.lt_or_ge p 1 with h0 | h1
  · simp [show p = 0 by omega]
  · simp [show p = 1 by omega]

/-! ### The pair (R400) -/

theorem orderPairHandover_of_leading (hpair : s.paired = true) (hleads : s.leads = true) (hpartner : s.flag OZX_PSTAT_PARTNER_OK = true)
    (htest : s.flag OZX_PSTAT_P_TEST = false) : orderPairHandover q s = okRes s.releaseDuties := by
  simp [orderPairHandover, State.handover, hpair, hleads, hpartner, htest, ofPair]

theorem orderPairHandover_of_notLeading (hleads : s.leads = false) : orderPairHandover q s = refused s .stateDenied := by
  simp [orderPairHandover, State.handover, hleads, ofPair]
end

/-- Settles O40: each opcode by its own lemma on the conditions named, the debug lock by what it leaves. -/
theorem systemOrders : Obligations.SystemOrders := by
  refine ⟨.of_onOpcode _ _ _ _ _ exec_cmdStatus fun q s _ => rfl,
    .of_onOpcode _ _ _ _ _ exec_cmdRegRead fun q s ⟨halign, hlo, hhi, hend⟩ => orderRegRead_of_ok halign hlo hhi hend,
    .of_onOpcode _ _ _ _ _ exec_cmdRegRead fun q s h => orderRegRead_of_range h,
    .of_onOpcode _ _ _ _ _ exec_cmdRegWrite fun q s ⟨halign, hlo, hhi, hlen⟩ => orderRegWrite_of_ok halign hlo hhi hlen,
    .of_onOpcode _ _ _ _ _ exec_cmdRestart fun q s h => orderRestart_of_ok h,
    .of_onOpcode _ _ _ _ _ exec_cmdRestart fun q s h => orderRestart_of_range h,
    .of_onOpcode _ _ _ _ _ exec_cmdSafe fun q s _ => rfl, .of_onOpcode _ _ _ _ _ exec_cmdResultRead fun q s _ => rfl,
    .of_onOpcode _ _ _ _ _ exec_cmdModeSet fun q s ⟨hpay, hmode, hok⟩ => orderModeSet_of_toTest hpay hmode hok,
    .of_onOpcode _ _ _ _ _ exec_cmdModeSet fun q s ⟨hpay, hmode, hok⟩ => orderModeSet_of_toRun hpay hmode hok,
    .of_onOpcode _ _ _ _ _ exec_cmdModeSet fun q s h => ?modeDenied,
    .of_onOpcode _ _ _ _ _ exec_cmdOutputForce fun q s ⟨hmode, harm, hlo, hhi, hfire, hon⟩ =>
      orderOutputForce_of_ok hmode harm hlo hhi hfire hon,
    .of_onOpcode _ _ _ _ _ exec_cmdOutputForce fun q s hmode => orderOutputForce_of_notTest hmode, ?expiry,
    .of_onOpcode _ _ _ _ _ exec_cmdDebugUnlock fun q s ⟨hmode, k, c, hauth, hkey⟩ => orderDebugUnlock_of_key hmode hauth hkey,
    .of_onOpcode _ _ _ _ _ exec_cmdDebugLock fun q s ⟨h0, h1⟩ => orderDebugLock_of_running h0 h1, ?debugLock,
    .of_onOpcode _ _ _ _ _ exec_cmdDebugLock fun q s h => orderDebugLock_of_halted h,
    .of_onOpcode _ _ _ _ _ exec_cmdPairHandover fun q s ⟨hpair, hleads, hpartner, htest⟩ =>
      orderPairHandover_of_leading hpair hleads hpartner htest,
    .of_onOpcode _ _ _ _ _ exec_cmdPairHandover fun q s hleads => orderPairHandover_of_notLeading hleads, exec_forceExpiry⟩
  case modeDenied =>
    rcases h with ⟨hpay, hmode, hdenied⟩ | ⟨hpay, hmode, hdenied⟩
    · exact orderModeSet_of_testDenied hpay hmode hdenied
    · exact orderModeSet_of_runDenied hpay hmode hdenied
  case expiry =>
    intro t u s a r href hend hu
    exact exec_of_eq (exec_forceExpiry t s) (forceExpiryEff_of_due href hend hu)
  case debugLock =>
    intro s
    obtain ⟨hlock, htarget, -⟩ := s.debugShown_fields
    have hregs : s.debugLock.regs = s.debugShown.regs := by rw [State.debugLock_eq, State.regs_unhalt, State.regs_unhalt]
    refine ⟨?_, ?_, by simp [State.debugLock_frame], fun h p hp => State.haltReq_debugLock h hp⟩
    · rw [← hlock]
      exact State.flag_eq_of_getF (State.getF_of_regs hregs _)
    · rw [← htarget]
      exact State.getF_of_regs hregs _

end Sys2Proof.Machine

/-!
The commands of the bays and of the recorder (R252, R271, R456, R458, R459): each opcode's answer by the conditions it tests.
-/
namespace Sys2Proof.Machine

section
variable {q : CmdReq} {s : State}

/-! ### Settings and groups (R165, R166, R456) -/

theorem orderSettingWrite_of_ok (hmode : s.mode = .test) (hi : payN q 0 2 < 512)
    (hpod : s.podState (s.bayPod (s.elBay (payN q 0 2))) ≠ 2) (hty : s.elType (payN q 0 2) ≠ 0) (hlo : 2 ≤ payN q 2 1)
    (hhi : payN q 2 1 ≤ 29) (hok : s.settingOk (payN q 0 2) (payN q 2 1) (payN q 4 4) = true) : orderSettingWrite q s =
      okRes (s.setInst (payN q 0 2) { s.inst (payN q 0 2) with
        setReq := (s.inst (payN q 0 2)).setReq ++ [(payN q 2 1, payN q 4 4, s.flt.m)] }) := by
  rw [orderSettingWrite, if_neg (by simp [hmode]), if_neg (by simp [hpod]), if_neg (by simp [hty, hok]; omega)]

theorem orderSettingWrite_of_recovering (hmode : s.mode = .test) (hi : payN q 0 2 < 512)
    (hpod : s.podState (s.bayPod (s.elBay (payN q 0 2))) = 2) : orderSettingWrite q s = refused s .busyRecovery := by
  rw [orderSettingWrite, if_neg (by simp [hmode]), if_pos (by simp [hpod, hi])]

section
variable (hb : payN q 0 2 < 12) (hen : s.flag (PRT_BAY1_EN (payN q 0 2)) = true) (hg : payN q 2 2 < 4)
include hb hen hg

theorem orderGroupSelect_of_enabled : orderGroupSelect q s =
    if s.flag (PRT_BAY1_GSRC (payN q 0 2)) then refused s .resourceBusy else okRes (s.requestGroup (payN q 0 2) (payN q 2 2)) := by
  rw [orderGroupSelect, if_neg (by simp [hen]; omega)]

theorem orderGroupSelect_of_ok (hsrc : s.flag (PRT_BAY1_GSRC (payN q 0 2)) = false) :
    orderGroupSelect q s = okRes (s.requestGroup (payN q 0 2) (payN q 2 2)) := by
  rw [orderGroupSelect_of_enabled hb hen hg, if_neg (by simp [hsrc])]

theorem orderGroupSelect_of_inputs (hsrc : s.flag (PRT_BAY1_GSRC (payN q 0 2)) = true) :
    orderGroupSelect q s = refused s .resourceBusy := by
  rw [orderGroupSelect_of_enabled hb hen hg, if_pos hsrc]
end

/-! ### Breakers (R236, R455, R458) -/

/-- R236, R458: a request to the breaker can be submitted. -/
def State.BkrReady (s : State) (q : CmdReq) : Prop := s.hasBkr (payN q 0 2) = true ∧ s.getF LGC_MODE_MODE = 1 ∧
  (s.flag POD_LSTAT_SPLIT = false ∨ s.flag POD_LCFG_ALLOW_UNCHECKED_TRIP = true) ∧ ∀ r ∈ s.lgc.reqs, r.brk ≠ payN q 0 2

theorem State.BkrReady.submit (h : s.BkrReady q) (k : Nat) : s.bkrSubmit q k =
    okRes { s with lgc := { s.lgc with reqs := s.lgc.reqs ++ [⟨payN q 0 2, k, q.tr, q.seq⟩] } } := by
  obtain ⟨-, hmode, hsplit, hfree⟩ := h
  have hnone : s.bkrRefusal (payN q 0 2) = none := by
    rw [State.bkrRefusal, if_neg, if_neg]
    · simpa using hfree
    · rcases hsplit with hsplit | hsplit <;> simp [hmode, hsplit]
  rw [State.bkrSubmit, hnone]

theorem orderBkrSelect_of_known (hbkr : s.hasBkr (payN q 0 2) = true) (hd : payN q 2 2 = 1 ∨ payN q 2 2 = 2) :
    orderBkrSelect q s = s.bkrSubmit q (payN q 2 2 - 1) := by
  rcases hd with hd | hd <;> simp [orderBkrSelect, hbkr, hd]

theorem orderBkrOperate_of_known (hbkr : s.hasBkr (payN q 0 2) = true) (hd : payN q 2 2 = 1 ∨ payN q 2 2 = 2) :
    orderBkrOperate q s = s.bkrSubmit q (payN q 2 2 + 1) := by
  rcases hd with hd | hd <;> simp [orderBkrOperate, hbkr, hd]

theorem orderBkrCancel_of_known (hbkr : s.hasBkr (payN q 0 2) = true) : orderBkrCancel q s = s.bkrSubmit q 4 := by
  simp [orderBkrCancel, hbkr]

theorem State.bkrSubmit_of_notRunning (k : Nat) (hmode : s.getF LGC_MODE_MODE ≠ 1) : s.bkrSubmit q k = refused s .stateDenied := by
  have hrefusal : s.bkrRefusal (payN q 0 2) = some .stateDenied := by rw [State.bkrRefusal, if_pos (by simp [hmode])]
  rw [State.bkrSubmit, hrefusal]

theorem orderBkrStatus_of_known {st : Nat} (hb : payN q 0 2 < 32) (hst : s.bkrStatOf (payN q 0 2) = some st) :
    orderBkrStatus q s = okOut s (leBytes 4 st) := by
  simp [orderBkrStatus, hb, hst]

/-! ### Recorder (R252, R260, R261, R271) -/

/-- R459: the class of a command is in use. -/
def State.ClassOn (s : State) (q : CmdReq) : Prop := payN q 0 4 < 8 ∧ s.flag (REC_CCFG_EN (payN q 0 4)) = true

theorem State.ClassOn.clsOk (h : s.ClassOn q) : s.clsOk q = true := by
  simp [State.clsOk, h.1, h.2]

theorem ofPair_ok (s t : State) : ofPair s (.ok, t) = okRes t := if_pos rfl

theorem orderRecArm_of_on {st : Status} {t : State} (h : s.ClassOn q) (harm : s.recArm (payN q 0 4) = (st, t)) :
    orderRecArm q s = ofPair s (st, t) := by
  rw [orderRecArm, if_neg (by simp [h.clsOk]), harm]

theorem orderRecDisarm_of_on {st : Status} {t : State} (h : s.ClassOn q) (hdisarm : s.recDisarm (payN q 0 4) = (st, t)) :
    orderRecDisarm q s = ofPair s (st, t) := by
  rw [orderRecDisarm, if_neg (by simp [h.clsOk]), hdisarm]

theorem orderRecTrig_of_on {st : Status} {t : State} (h : s.ClassOn q) (htrig : s.recTrig (payN q 0 4) = (st, t)) :
    orderRecTrig q s = ofPair s (st, t) := by
  rw [orderRecTrig, if_neg (by simp [h.clsOk]), htrig]

theorem orderRecTrig_of_range (h : 8 ≤ payN q 0 4) : orderRecTrig q s = refused s .valueRange := by
  rw [orderRecTrig, if_pos (by simp [State.clsOk, Nat.not_lt.2 h])]

/-- R459: the counts of an APPLY as the command gives them. -/
def State.countsGiven (s : State) (q : CmdReq) : State :=
  (s.setF (REC_CPRE_PRE (payN q 0 4)) (payN q 4 4)).setF (REC_CPOST_POST (payN q 0 4)) (payN q 8 4)

/-- R252: the counts in force back in the registers. -/
def State.countsBack (s : State) (q : CmdReq) : State :=
  (s.setF (REC_CPRE_PRE (payN q 0 4)) (s.rcls (payN q 0 4)).pre).setF (REC_CPOST_POST (payN q 0 4)) (s.rcls (payN q 0 4)).post

/-- How an APPLY answers. -/
def applyAnswer (q : CmdReq) (s : State) : CmdRes :=
  ⟨((s.countsGiven q).recApply (payN q 0 4)).1, ((s.countsGiven q).recApply (payN q 0 4)).2, [], 0, false⟩

theorem orderRecApply_of_on (h : s.ClassOn q) : orderRecApply q s = applyAnswer q s := by
  rw [orderRecApply, if_neg (by simp [h.clsOk])]
  rfl

theorem State.protecting_countsGiven (s : State) (q : CmdReq) : (s.countsGiven q).protecting = s.protecting := by
  simp [State.protecting, State.countsGiven, State.setF_frame]

section
variable (hprot : s.protecting = true)
include hprot

theorem applyAnswer_of_range (h : (s.countsGiven q).getF (REC_CPOST_POST (payN q 0 4)) = 0 ∨
    (s.countsGiven q).getF (REC_CCAP_CAP (payN q 0 4)) < (s.countsGiven q).getF (REC_CPOST_POST (payN q 0 4)) ∨
    (s.countsGiven q).getF (REC_CCAP_CAP (payN q 0 4)) ≤ (s.countsGiven q).getF (REC_CPRE_PRE (payN q 0 4))) :
    applyAnswer q s = ⟨.valueRange, (s.countsGiven q).countsBack q, [], 0, false⟩ := by
  have hstatus : (s.countsGiven q).applyStatus (payN q 0 4) = .valueRange := by
    rw [State.applyStatus, if_neg (by simp [State.protecting_countsGiven, hprot]), if_pos h]
  rw [applyAnswer, State.recApply_eq, hstatus]
  rfl

theorem applyAnswer_of_long
    (hcap : (s.countsGiven q).getF (REC_CPOST_POST (payN q 0 4)) ≤ (s.countsGiven q).getF (REC_CCAP_CAP (payN q 0 4)))
    (hpre : (s.countsGiven q).getF (REC_CPRE_PRE (payN q 0 4)) < (s.countsGiven q).getF (REC_CCAP_CAP (payN q 0 4)))
    (hlong : (s.countsGiven q).getF (REC_CCAP_CAP (payN q 0 4)) <
      (s.countsGiven q).getF (REC_CPRE_PRE (payN q 0 4)) + (s.countsGiven q).getF (REC_CPOST_POST (payN q 0 4))) :
    applyAnswer q s = ⟨.lenRange, (s.countsGiven q).countsBack q, [], 0, false⟩ := by
  have hstatus : (s.countsGiven q).applyStatus (payN q 0 4) = .lenRange := by
    rw [State.applyStatus, if_neg (by simp [State.protecting_countsGiven, hprot]), if_neg (by omega), if_pos hlong]
  rw [applyAnswer, State.recApply_eq, hstatus]
  rfl

theorem applyAnswer_of_fitting (hpost : (s.countsGiven q).getF (REC_CPOST_POST (payN q 0 4)) ≠ 0)
    (hfit : (s.countsGiven q).getF (REC_CPRE_PRE (payN q 0 4)) + (s.countsGiven q).getF (REC_CPOST_POST (payN q 0 4)) ≤
      (s.countsGiven q).getF (REC_CCAP_CAP (payN q 0 4))) : applyAnswer q s =
      okRes ((s.countsGiven q).setCls (payN q 0 4) { (s.countsGiven q).rcls (payN q 0 4) with
        pre := (s.countsGiven q).getF (REC_CPRE_PRE (payN q 0 4)), post := (s.countsGiven q).getF (REC_CPOST_POST (payN q 0 4)) }) := by
  have hstatus := State.applyStatus_of_fitting ((s.protecting_countsGiven q).trans hprot) hpost hfit
  rw [applyAnswer, State.recApply_eq, hstatus]
  rfl
end

theorem orderRecRelease_of_allowed {st : Status} {t : State}
    (hworld : s.regionSecure (s.segByte (payN q 0 4)) = false ∨ s.reqSecure (trReq q.tr) = true)
    (hrel : s.recRelease (payN q 0 4) = (st, t)) : orderRecRelease q s = ofPair s (st, t) := by
  rw [orderRecRelease, if_neg (by rcases hworld with h | h <;> simp [h]), hrel]

theorem orderRecRelease_of_denied (hg : payN q 0 4 < 4096) (hregion : s.regionSecure (s.segByte (payN q 0 4)) = true)
    (hsec : s.reqSecure (trReq q.tr) = false) : orderRecRelease q s = s.worldRefused q := by
  rw [orderRecRelease, if_pos (by simp [hg, hregion, hsec])]
end

/-- Settles O41: each opcode by its own lemma on the conditions named, the recorder's by the lemmas on its requests. -/
theorem bayAndRecorderOrders : Obligations.BayAndRecorderOrders := by
  refine ⟨.of_onOpcode _ _ _ _ _ exec_cmdTripReset fun q s _ => rfl,
    .of_onOpcode _ _ _ _ _ exec_cmdSettingWrite fun q s ⟨hmode, hi, hpod, hty, hlo, hhi, hok⟩ =>
      orderSettingWrite_of_ok hmode hi hpod hty hlo hhi hok,
    .of_onOpcode _ _ _ _ _ exec_cmdSettingWrite fun q s ⟨hmode, hi, hpod⟩ => orderSettingWrite_of_recovering hmode hi hpod,
    .of_onOpcode _ _ _ _ _ exec_cmdGroupSelect fun q s ⟨hb, hen, hg, hsrc⟩ => orderGroupSelect_of_ok hb hen hg hsrc,
    .of_onOpcode _ _ _ _ _ exec_cmdGroupSelect fun q s ⟨hb, hen, hg, hsrc⟩ => orderGroupSelect_of_inputs hb hen hg hsrc, ?breakers,
    fun st => .of_onOpcode _ _ _ _ _ exec_cmdBkrStatus fun q s ⟨hb, hst⟩ => orderBkrStatus_of_known hb hst, ?recorder⟩
  case breakers =>
    have submits {ord : CmdReq → State → CmdRes} {q : CmdReq} {s : State} (k : Nat) (hready : s.BkrReady q)
        (h : ord q s = s.bkrSubmit q k) : ord q s =
          okRes { s with lgc := { s.lgc with reqs := s.lgc.reqs ++ [⟨payN q 0 2, k, q.tr, q.seq⟩] } } := h.trans (hready.submit k)
    refine ⟨.of_onOpcode _ _ _ _ _ exec_cmdBkrSelect fun q s ⟨hready, hd⟩ => submits 0 hready ?_,
      .of_onOpcode _ _ _ _ _ exec_cmdBkrSelect fun q s ⟨hready, hd⟩ => submits 1 hready ?_,
      .of_onOpcode _ _ _ _ _ exec_cmdBkrOperate fun q s ⟨hready, hd⟩ => submits 2 hready ?_,
      .of_onOpcode _ _ _ _ _ exec_cmdBkrOperate fun q s ⟨hready, hd⟩ => submits 3 hready ?_,
      .of_onOpcode _ _ _ _ _ exec_cmdBkrCancel fun q s hready => submits 4 hready (orderBkrCancel_of_known hready.1),
      .of_onOpcode _ _ _ _ _ exec_cmdBkrOperate fun q s ⟨hbkr, hd, hmode⟩ =>
        (orderBkrOperate_of_known hbkr (.inl hd)).trans (State.bkrSubmit_of_notRunning _ hmode)⟩
    · rw [orderBkrSelect_of_known hready.1 (.inl hd), hd]
    · rw [orderBkrSelect_of_known hready.1 (.inr hd), hd]
    · rw [orderBkrOperate_of_known hready.1 (.inl hd), hd]
    · rw [orderBkrOperate_of_known hready.1 (.inr hd), hd]
  case recorder =>
    refine ⟨fun g => .of_onOpcode _ _ _ _ _ exec_cmdRecArm fun q s ⟨hon, hprot, hdis, hseg⟩ =>
        (orderRecArm_of_on hon (State.recArm_of_segment hprot hdis hseg)).trans (ofPair_ok _ _),
      .of_onOpcode _ _ _ _ _ exec_cmdRecArm fun q s ⟨hon, hprot, hdis, hnone⟩ =>
        (orderRecArm_of_on hon (State.recArm_of_no_segment hprot hdis hnone)).trans (ofPair_ok _ _),
      .of_onOpcode _ _ _ _ _ exec_cmdRecArm fun q s ⟨hon, hprot, hdis, hfull⟩ =>
        (orderRecArm_of_on hon (State.recArm_of_running hprot hfull hdis)).trans (ofPair_ok _ _),
      .of_onOpcode _ _ _ _ _ exec_cmdRecApply fun q s ⟨hon, hprot, h⟩ => (orderRecApply_of_on hon).trans (applyAnswer_of_range hprot h),
      .of_onOpcode _ _ _ _ _ exec_cmdRecApply fun q s ⟨hon, hprot, _, hcap, hpre, hlong⟩ =>
        (orderRecApply_of_on hon).trans (applyAnswer_of_long hprot hcap hpre hlong),
      .of_onOpcode _ _ _ _ _ exec_cmdRecApply fun q s ⟨hon, hprot, hpost, _, hfit⟩ =>
        (orderRecApply_of_on hon).trans (applyAnswer_of_fitting hprot hpost hfit),
      .of_onOpcode _ _ _ _ _ exec_cmdRecArm fun q s ⟨hon, _, _, hok⟩ =>
        (orderRecArm_of_on hon (Prod.ext hok rfl)).trans (ofPair_ok _ _),
      .of_onOpcode _ _ _ _ _ exec_cmdRecArm fun q s ⟨hon, h⟩ => orderRecArm_of_on hon (State.recArm_of_refused h),
      .of_onOpcode _ _ _ _ _ exec_cmdRecDisarm fun q s ⟨hon, hpost⟩ =>
        (orderRecDisarm_of_on hon (State.recDisarm_of_post hpost)).trans (ofPair_ok _ _),
      .of_onOpcode _ _ _ _ _ exec_cmdRecTrig fun q s ⟨hon, hprot⟩ =>
        (orderRecTrig_of_on hon (State.recTrig_of_protecting hprot)).trans (ofPair_ok _ _),
      .of_onOpcode _ _ _ _ _ exec_cmdRecTrig fun q s h => orderRecTrig_of_range h,
      .of_onOpcode _ _ _ _ _ exec_cmdRecApply fun q s hon => orderRecApply_of_on hon,
      .of_onOpcode _ _ _ _ _ exec_cmdRecRelease fun q s ⟨hg, hworld, hst⟩ =>
        orderRecRelease_of_allowed hworld (State.recRelease_of_not_complete hg hst),
      .of_onOpcode _ _ _ _ _ exec_cmdRecRelease fun q s ⟨hg, hworld, hst, hnone⟩ =>
        (orderRecRelease_of_allowed hworld (State.recRelease_of_no_full_class hg hst hnone)).trans (ofPair_ok _ _),
      fun c => .of_onOpcode _ _ _ _ _ exec_cmdRecRelease fun q s ⟨hg, hworld, hst, hclass, hen, hfull⟩ =>
        (orderRecRelease_of_allowed hworld (State.recRelease_of_full_class hg hst hclass hen hfull)).trans (ofPair_ok _ _),
      .of_onOpcode _ _ _ _ _ exec_cmdRecRelease fun q s ⟨hg, hregion, hsec⟩ => orderRecRelease_of_denied hg hregion hsec⟩

end Sys2Proof.Machine

/-!
The refresh of the monitors (R491): it is due 1.0 ms after the last one, which is 16,000,000 of the model's sixteenths of a nanosecond and
not 250,000 of them, one fast tick.
-/
namespace Sys2Proof.Machine

theorem exec_monitorRefresh_eq (t : Nat) (mvs : List Nat) (tj : Int) (locks : Nat) (s : State) :
    exec (.monitorRefresh t mvs tj locks) s = .next (if locks < 32 then monitorRefreshEff mvs tj locks (s.at t) else s.at t) := by
  simp [exec_monitorRefresh]

/-- R491: within 1.0 ms of the last refresh the monitors stay as they are. -/
theorem monitorRefreshEff_of_recent {s : State} {m : Nat} (mvs : List Nat) (tj : Int) (locks : Nat) (hmon : s.sys.monAt = some m)
    (hrecent : s.now < m + msU) : monitorRefreshEff mvs tj locks s = s := by
  have hdue : s.monDue = false := by simp [State.monDue, hmon, hrecent]
  rw [monitorRefreshEff, if_pos (by simp [hdue])]

/-- An engine that has started, whose monitors were refreshed at instant 0, one fast tick later. -/
def refreshedOneTickAgo : State :=
  { State.reset with now := 250000, sys := { State.reset.sys with por := false, refPresent := true, monAt := some 0 } }

/-- Refutes O19: at 250,000 sixteenths of a nanosecond (one fast tick) after the last refresh the clause on the monitors asks for a new
one, which `msU` (1.0 ms, 16,000,000 of them) does not allow yet: the time of the last refresh stays 0. -/
theorem not_boardAndTap : ¬ Obligations.BoardAndTap := by
  rintro ⟨-, -, -, hmonitors, -⟩
  have hat : (refreshedOneTickAgo.at 250000).now = 250000 ∧ (refreshedOneTickAgo.at 250000).sys.monAt = some 0 := by decide
  obtain ⟨hnow, hmon⟩ := hat
  obtain ⟨s', hexec, -, -, -, -, -, -, -, hsys, -⟩ := hmonitors 250000 0 0 [] 0 refreshedOneTickAgo (by decide) (by decide) rfl rfl
    fun m hm => by rw [hmon, Option.some.injEq] at hm; omega
  have hkept : exec (.monitorRefresh 250000 [] 0 0) refreshedOneTickAgo = .next (refreshedOneTickAgo.at 250000) :=
    exec_of_guard (exec_monitorRefresh_eq ..) (by decide) (monitorRefreshEff_of_recent _ _ _ hmon (by rw [hnow]; decide))
  obtain rfl : s' = refreshedOneTickAgo.at 250000 := by simpa [hkept, eq_comm] using hexec
  have hrefreshed : some 0 = some 250000 := hmon.symm.trans ((congrArg SysSt.monAt hsys).trans (congrArg some hnow))
  exact absurd hrefreshed (by decide)

end Sys2Proof.Machine

/-!
GOOSE publication and subscription (R367 to R374): what a sent frame leaves in the registers, which frames a subscription takes, how it
drops.
-/
namespace Sys2Proof.Machine

/-! ### Frames of the engine's own (R359, R362) -/

section
variable {s : State}

theorem State.rd_txFrame_other (s : State) (p : Nat) (f : TxFrame) {x : Nat} (h : x ≠ NET_PTX p) : (s.txFrame p f).rd x = s.rd x := by
  unfold State.txFrame
  split
  · exact State.rd_setF_other _ _ _ _ h
  · rfl

theorem State.rd_txOwn (s : State) (ports : List Nat) (f : TxFrame) {x : Nat} (h : ∀ p ∈ ports, x ≠ NET_PTX p) :
    (s.txOwn ports f).rd x = s.rd x := by
  have hseq : s.nextRedSeq.rd x = s.rd x := State.rd_of_regs (by simp [State.nextRedSeq_frame]) x
  exact (State.rd_foldl _ _ _ _ fun p hp s => s.rd_txFrame_other p f (h p hp)).trans hseq

theorem State.ownPorts_lt {p : Nat} (hp : p ∈ s.ownPorts [0, 1, 2]) : p < 3 := by
  unfold State.ownPorts at hp
  split at hp <;> simp at hp <;> omega

/-- The registers of GOOSE and of the links lie behind those of the switch. -/
theorem ne_NET_PTX {p x : Nat} (hp : p < 3) (hx : 0x160000 ≤ x) : x ≠ NET_PTX p := by
  unfold NET_PTX
  omega

/-! ### A frame is sent (R369, R370) -/

/-- The frame of a control block as its registers and its dataset stand. -/
def State.gooseFrame (s : State) (n : Nat) : TxFrame :=
  .goose n (s.gcb n).hdr (s.getF (GSV_PSTNUM_STNUM n)) (s.getF (GSV_PSQNUM_SQNUM n)) (2 * (s.gcbInt n).gap) (s.gcbInt n).t
    (s.mode == .test) (s.gcbInt n).vals

/-- The ports in whose queues a frame of the control block waits. -/
def State.gooseWaiting (s : State) (n : Nat) : List Nat := (s.ownPorts [0, 1, 2]).filter (s.gooseWaits n)

/-- The frame stands in every port's queue. -/
def State.gooseQueued (s : State) (n : Nat) : State :=
  (s.gooseReplace n (s.gooseWaiting n) (s.gooseFrame n)).txOwn
    ((s.ownPorts [0, 1, 2]).filter (fun p => !(s.gooseWaiting n).contains p)) (s.gooseFrame n)

/-- The frame is counted, where none waited. -/
def State.gooseCounted (s : State) (n : Nat) : State :=
  if (s.gooseWaiting n).isEmpty then (s.gooseQueued n).incWrap (GSV_PCNT_FRAMES n) else s.gooseQueued n

theorem State.gooseSend_eq (s : State) (n : Nat) : s.gooseSend n =
    if (s.gooseCounted n).flag OZX_CFG_PAIR then
      (s.gooseCounted n).ozSend 0 (.pubseq n ((s.gooseCounted n).getF (GSV_PSTNUM_STNUM n)))
    else s.gooseCounted n := rfl

theorem State.rd_gooseQueued (s : State) (n : Nat) {x : Nat} (hx : 0x160000 ≤ x) : (s.gooseQueued n).rd x = s.rd x := by
  refine (State.rd_txOwn _ _ _ fun p hp => ne_NET_PTX (s.ownPorts_lt (List.mem_filter.1 hp).1) hx).trans ?_
  exact State.rd_of_regs (by simp [State.gooseReplace_frame]) x

theorem State.rd_gooseSend (s : State) (n : Nat) {x : Nat} (hx : 0x160000 ≤ x) (hcnt : x ≠ GSV_PCNT n) : (s.gooseSend n).rd x = s.rd x := by
  have hcounted : (s.gooseCounted n).rd x = s.rd x := by
    unfold State.gooseCounted
    split
    · exact (State.rd_setF_other _ _ _ _ hcnt).trans (s.rd_gooseQueued n hx)
    · exact s.rd_gooseQueued n hx
  rw [State.gooseSend_eq]
  split
  · exact (State.rd_of_regs (by simp [State.ozSend_frame]) x).trans hcounted
  · exact hcounted

theorem le_GSV_PCNT (n : Nat) : 0x160000 ≤ GSV_PCNT n := by
  unfold GSV_PCNT
  omega

/-- R369: a frame is counted where none of its control block waits. -/
theorem State.frames_gooseSend (s : State) (n : Nat) : (s.gooseSend n).getF (GSV_PCNT_FRAMES n) =
    if (s.gooseWaiting n).isEmpty then (s.getF (GSV_PCNT_FRAMES n) + 1) % 2 ^ (GSV_PCNT_FRAMES n).width
    else s.getF (GSV_PCNT_FRAMES n) := by
  have hqueued : (s.gooseQueued n).getF (GSV_PCNT_FRAMES n) = s.getF (GSV_PCNT_FRAMES n) :=
    State.getF_of_rd (s.rd_gooseQueued n (le_GSV_PCNT n))
  have hcounted : (s.gooseSend n).getF (GSV_PCNT_FRAMES n) = (s.gooseCounted n).getF (GSV_PCNT_FRAMES n) := by
    rw [State.gooseSend_eq]
    split
    · exact State.getF_of_regs (by simp [State.ozSend_frame]) _
    · rfl
  rw [hcounted, State.gooseCounted]
  split
  · exact (State.getF_setF_same _ _ _ (by simp [GSV_PCNT_FRAMES])).trans (by rw [hqueued])
  · exact hqueued

theorem State.gooseWaiting_isEmpty (s : State) (n : Nat) :
    (s.gooseWaiting n).isEmpty = true ↔ ∀ p ∈ s.ownPorts [0, 1, 2], s.gooseWaits n p = false := by
  simp [State.gooseWaiting]

/-- R367: without a pair and with nothing waiting the frame goes to every port. -/
theorem State.gooseSend_of_alone {n : Nat} (hpair : s.flag OZX_CFG_PAIR = false)
    (hfree : ∀ p ∈ s.ownPorts [0, 1, 2], s.gooseWaits n p = false) :
    s.gooseSend n = (s.txOwn (s.ownPorts [0, 1, 2]) (s.gooseFrame n)).incWrap (GSV_PCNT_FRAMES n) := by
  have hnone : s.gooseWaiting n = [] := List.isEmpty_iff.1 ((s.gooseWaiting_isEmpty n).2 hfree)
  have hcounted : s.gooseCounted n = (s.txOwn (s.ownPorts [0, 1, 2]) (s.gooseFrame n)).incWrap (GSV_PCNT_FRAMES n) := by
    simp [State.gooseCounted, State.gooseQueued, hnone, State.gooseReplace]
  have hpaired : (s.gooseCounted n).flag OZX_CFG_PAIR = s.flag OZX_CFG_PAIR := by
    rw [hcounted]
    refine State.flag_eq_of_getF (State.getF_of_rd ?_)
    refine (State.rd_setF_other _ _ _ _ ?_).trans (State.rd_txOwn _ _ _ fun p hp => ne_NET_PTX (s.ownPorts_lt hp) (by decide))
    simp only [OZX_CFG_PAIR, OZX_CFG, GSV_PCNT_FRAMES, GSV_PCNT]
    omega
  rw [State.gooseSend_eq, hpaired, hpair, if_neg Bool.false_ne_true, hcounted]

/-! ### A state change and a retransmission (R369, R370) -/

/-- A sequence begins: its numbers and its first interval. -/
def State.gooseBegun (s : State) (n stNum : Nat) : State :=
  let mint := s.getF (GSV_PCB_MINT n)
  let r := (s.setF (GSV_PSTNUM_STNUM n) stNum).setF (GSV_PSQNUM_SQNUM n) 0
  r.setGcb n { s.gcbInt n with gap := mint, next := some (r.now + mint * msU), bump := false }

theorem State.gooseNew_eq (s : State) (n stNum : Nat) : s.gooseNew n stNum = (s.gooseBegun n stNum).gooseSend n := by
  simp only [State.gooseNew, State.gooseBegun]

theorem State.rd_setGcb (s : State) (n : Nat) (g : GcbInt) (x : Nat) : (s.setGcb n g).rd x = s.rd x := rfl

theorem State.getF_setGcb (s : State) (n : Nat) (g : GcbInt) (f : Field) : (s.setGcb n g).getF f = s.getF f := rfl

theorem State.rd_gooseBegun (s : State) (n v : Nat) {x : Nat} (hst : x ≠ GSV_PSTNUM n) (hsq : x ≠ GSV_PSQNUM n) :
    (s.gooseBegun n v).rd x = s.rd x := by
  rw [State.gooseBegun, State.rd_setGcb, State.rd_setF_other _ _ _ _ hsq, State.rd_setF_other _ _ _ _ hst]

theorem State.numbers_gooseBegun (s : State) (n v : Nat) : (s.gooseBegun n v).getF (GSV_PSTNUM_STNUM n) = v % 2 ^ 32 ∧
    (s.gooseBegun n v).getF (GSV_PSQNUM_SQNUM n) = 0 := by
  have hfits : (GSV_PSTNUM_STNUM n).Fits ∧ (GSV_PSQNUM_SQNUM n).Fits := ⟨Nat.le_refl 32, Nat.le_refl 32⟩
  have hapart : (GSV_PSTNUM_STNUM n).Apart (GSV_PSQNUM_SQNUM n) := .inl (by
    simp only [GSV_PSTNUM_STNUM, GSV_PSTNUM, GSV_PSQNUM_SQNUM, GSV_PSQNUM]
    omega)
  rw [State.gooseBegun, State.getF_setGcb, State.getF_setGcb, State.getF_setF_apart hfits.2 hapart, State.getF_setF_same _ _ _ hfits.1,
    State.getF_setF_same _ _ _ hfits.2]
  exact ⟨rfl, Nat.zero_mod _⟩

/-- The switch's registers lie before those of GOOSE. -/
theorem State.gooseWaiting_gooseBegun (s : State) (n v : Nat) : (s.gooseBegun n v).gooseWaiting n = s.gooseWaiting n := by
  have hmode {f : Field} (hf : f.addr = NET_MODE) : (s.gooseBegun n v).getF f = s.getF f := by
    refine State.getF_of_rd (s.rd_gooseBegun n v ?_ ?_) <;> rw [hf] <;> unfold NET_MODE
    · unfold GSV_PSTNUM
      omega
    · unfold GSV_PSQNUM
      omega
  have hports : (s.gooseBegun n v).ownPorts [0, 1, 2] = s.ownPorts [0, 1, 2] := by
    unfold State.ownPorts
    rw [hmode rfl]
  have htime (p : Nat) : (s.gooseBegun n v).byteTime p = s.byteTime p := by
    unfold State.byteTime
    rw [State.flag_eq_of_getF (hmode rfl)]
  have hwaits : (s.gooseBegun n v).gooseWaits n = s.gooseWaits n := by
    funext p
    have hnet : (s.gooseBegun n v).net = s.net := by simp [State.gooseBegun, State.setGcb_frame, State.setF_frame]
    have hnow : (s.gooseBegun n v).now = s.now := by simp [State.gooseBegun, State.setGcb_frame, State.setF_frame]
    have hport : (s.gooseBegun n v).port p = s.port p := by rw [State.port, hnet, State.port]
    rw [State.gooseWaits, State.portNow, htime, hport, hnow, State.gooseWaits, State.portNow]
  rw [State.gooseWaiting, hports, hwaits, State.gooseWaiting]

/-- R369: what a new sequence shows of its numbers and of the frames sent. -/
theorem State.gooseNew_shows (s : State) (n v : Nat) : (s.gooseNew n v).getF (GSV_PSTNUM_STNUM n) = v % 2 ^ 32 ∧
    (s.gooseNew n v).getF (GSV_PSQNUM_SQNUM n) = 0 ∧
    (s.gooseNew n v).getF (GSV_PCNT_FRAMES n) =
      if (s.gooseWaiting n).isEmpty then (s.getF (GSV_PCNT_FRAMES n) + 1) % 2 ^ (GSV_PCNT_FRAMES n).width
      else s.getF (GSV_PCNT_FRAMES n) := by
  obtain ⟨hst, hsq⟩ := s.numbers_gooseBegun n v
  have hcnt : (s.gooseBegun n v).getF (GSV_PCNT_FRAMES n) = s.getF (GSV_PCNT_FRAMES n) := by
    refine State.getF_of_rd (s.rd_gooseBegun n v ?_ ?_) <;>
      simp only [GSV_PCNT_FRAMES, GSV_PCNT, GSV_PSTNUM, GSV_PSQNUM] <;> omega
  rw [State.gooseNew_eq, State.frames_gooseSend, State.gooseWaiting_gooseBegun, hcnt]
  refine ⟨(State.getF_of_rd (State.rd_gooseSend _ n ?_ ?_)).trans hst, (State.getF_of_rd (State.rd_gooseSend _ n ?_ ?_)).trans hsq, rfl⟩
  all_goals
    simp only [GSV_PSTNUM_STNUM, GSV_PSTNUM, GSV_PSQNUM_SQNUM, GSV_PSQNUM, GSV_PCNT]
    omega

theorem gooseStateChangeEff_of_idle {n : Nat}
    (h : s.flag (GSV_PCB_EN n) = false ∨ s.protecting = false ∨ s.dsValues n = (s.gcbInt n).vals) : gooseStateChangeEff n s = s := by
  unfold gooseStateChangeEff
  by_cases hoff : s.flag (GSV_PCB_EN n) = false ∨ s.protecting = false
  · rw [if_pos (by rcases hoff with h | h <;> simp [h])]
  · rw [if_neg (by simpa using hoff)]
    exact if_pos (by tauto)

section
variable {n : Nat} (hen : s.flag (GSV_PCB_EN n) = true) (hprot : s.protecting = true) (hnew : s.dsValues n ≠ (s.gcbInt n).vals)
include hen hprot hnew

/-- R369: the values taken with their time. -/
def State.gooseTaken (s : State) (n : Nat) : State :=
  s.setGcb n { s.gcbInt n with vals := s.dsValues n, t := s.sampAt s.now, tick := some s.flt.geyK }

theorem gooseStateChangeEff_of_change : gooseStateChangeEff n s =
    if (s.gcbInt n).tick = some s.flt.geyK then (s.setGcb n { s.gcbInt n with vals := s.dsValues n }).gooseAmend n (s.dsValues n)
    else if (s.gooseTaken n).publishes then
      (s.gooseTaken n).gooseNew n
        (if (s.gcbInt n).bump then (s.gooseTaken n).stAbove n else incGoose ((s.gooseTaken n).getF (GSV_PSTNUM_STNUM n)))
    else s.gooseTaken n := by
  rw [gooseStateChangeEff, if_neg (by simp [hen, hprot])]
  exact if_neg hnew

theorem gooseStateChangeEff_of_sameTick (htick : (s.gcbInt n).tick = some s.flt.geyK) :
    gooseStateChangeEff n s = (s.setGcb n { s.gcbInt n with vals := s.dsValues n }).gooseAmend n (s.dsValues n) := by
  rw [gooseStateChangeEff_of_change hen hprot hnew, if_pos htick]

theorem gooseStateChangeEff_of_leading (htick : (s.gcbInt n).tick ≠ some s.flt.geyK) (hleads : s.leads = true) :
    gooseStateChangeEff n s = (s.gooseTaken n).gooseNew n
      (if (s.gcbInt n).bump then (s.gooseTaken n).stAbove n else incGoose ((s.gooseTaken n).getF (GSV_PSTNUM_STNUM n))) := by
  have hpub : (s.gooseTaken n).publishes = (s.protecting && s.leads) := rfl
  rw [gooseStateChangeEff_of_change hen hprot hnew, if_neg htick, if_pos (by rw [hpub, hprot, hleads]; rfl)]

theorem gooseStateChangeEff_of_notLeading (htick : (s.gcbInt n).tick ≠ some s.flt.geyK) (hleads : s.leads = false) :
    gooseStateChangeEff n s = s.gooseTaken n := by
  have hpub : (s.gooseTaken n).publishes = (s.protecting && s.leads) := rfl
  rw [gooseStateChangeEff_of_change hen hprot hnew, if_neg htick, if_neg (by rw [hpub, hleads]; simp)]
end

theorem State.gcbInt_setF (s : State) (f : Field) (v n : Nat) : (s.setF f v).gcbInt n = s.gcbInt n := by
  simp only [State.gcbInt, State.setF_frame]

/-- R370: the next frame of a sequence, its interval doubled up to MAXT. -/
def State.gooseAgain (s : State) (n : Nat) : State :=
  let gap := Nat.min (2 * (s.gcbInt n).gap) (s.getF (GSV_PCB_MAXT n))
  let r := s.setF (GSV_PSQNUM_SQNUM n) (incGoose (s.getF (GSV_PSQNUM_SQNUM n)))
  (r.setGcb n { r.gcbInt n with gap := gap, next := some (s.now + gap * msU) }).gooseSend n

section
variable {n due : Nat} (hnext : (s.gcbInt n).next = some due) (hen : s.flag (GSV_PCB_EN n) = true) (hprot : s.protecting = true)
  (hleads : s.leads = true)
include hnext hen hprot hleads

theorem gooseRetransmitEff_of_running : gooseRetransmitEff n s =
    if s.now < due then s else if (s.gcbInt n).bump then s.gooseNew n (s.stAbove n) else s.gooseAgain n := by
  simp only [gooseRetransmitEff, hnext, hen, State.publishes, hprot, hleads, Bool.and_self, Bool.not_true, Bool.or_self, Bool.false_or,
    decide_eq_true_eq, State.gooseAgain, State.setF_frame, State.gcbInt_setF]

theorem gooseRetransmitEff_of_early (hdue : s.now < due) : gooseRetransmitEff n s = s := by
  rw [gooseRetransmitEff_of_running hnext hen hprot hleads, if_pos hdue]

theorem gooseRetransmitEff_of_bump (hdue : due ≤ s.now) (hbump : (s.gcbInt n).bump = true) :
    gooseRetransmitEff n s = s.gooseNew n (s.stAbove n) := by
  rw [gooseRetransmitEff_of_running hnext hen hprot hleads, if_neg (Nat.not_lt.2 hdue), if_pos hbump]

theorem gooseRetransmitEff_of_due (hdue : due ≤ s.now) (hbump : (s.gcbInt n).bump = false) :
    gooseRetransmitEff n s = s.gooseAgain n := by
  rw [gooseRetransmitEff_of_running hnext hen hprot hleads, if_neg (Nat.not_lt.2 hdue), if_neg (by rw [hbump]; exact Bool.false_ne_true)]
end

/-! ### Subscriptions (R372 to R374) -/

theorem gooseReceiveEff_of_open {p : Nat} (f : GooseFrame) (hon : s.timeOn = true) (hen : s.flag (NET_PCFG_EN p) = true) :
    gooseReceiveEff p f s = (upto 128).foldl (fun s j => s.gooseFor j f) s := by
  simp [gooseReceiveEff, hon, hen]

/-- The table of a subscription. -/
def State.gsubCfg (s : State) (j : Nat) : GsubCfg := lget ⟨0, 0, [], 0, 0, []⟩ s.gsv.gsubs j

theorem State.gooseFor_of_other {j : Nat} {f : GooseFrame} (h : s.flag (GSV_SCFG_EN j) = false ∨ f.dst ≠ (s.gsubCfg j).dst ∨
    f.appid ≠ (s.gsubCfg j).appid ∨ f.names ≠ (s.gsubCfg j).names) : s.gooseFor j f = s :=
  if_pos (by simpa [State.gsubCfg, or_assoc] using h)

/-- A frame is one of a subscription. -/
structure State.IsOf (s : State) (j : Nat) (f : GooseFrame) : Prop where
  en : s.flag (GSV_SCFG_EN j) = true
  dst : f.dst = (s.gsubCfg j).dst
  appid : f.appid = (s.gsubCfg j).appid
  names : f.names = (s.gsubCfg j).names

/-- The subscription agrees with its table again. -/
def State.subFits (s : State) (j : Nat) : State := s.setSub j { s.subOf j with mism := false }

section
variable {j : Nat} {f : GooseFrame} (hof : s.IsOf j f)
include hof

theorem State.gooseFor_of_own : s.gooseFor j f =
    if !frameFits (s.gsubCfg j) f then
      if (s.subOf j).mism then s.incSat (GSV_SSTAT_CFGERR j)
      else ((s.incSat (GSV_SSTAT_CFGERR j)).setSub j { s.subOf j with mism := true }).raise 98 j 0
    else if f.test && s.mode == .run && !s.flag (GSV_SCFG_TEST_ACC j) then (s.subFits j).incSat (GSV_SSTAT_TSTDISC j)
    else if !frameNew (s.subOf j).last (s.subOf j).dropped f.stNum f.sqNum then (s.subFits j).incSat (GSV_SSTAT_DUP j)
    else (s.subFits j).gooseAccept j (s.gsubCfg j) f :=
  if_neg (by
    obtain ⟨hen, hdst, happid, hnames⟩ := hof
    simp only [State.gsubCfg] at hdst happid hnames
    simp [hen, hdst, happid, hnames])

theorem State.gooseFor_of_misfit (hfit : frameFits (s.gsubCfg j) f = false) : s.gooseFor j f =
    if (s.subOf j).mism then s.incSat (GSV_SSTAT_CFGERR j)
    else ((s.incSat (GSV_SSTAT_CFGERR j)).setSub j { s.subOf j with mism := true }).raise 98 j 0 := by
  rw [State.gooseFor_of_own hof, if_pos (by simp [hfit])]

theorem State.gooseFor_of_test (hfit : frameFits (s.gsubCfg j) f = true) (htest : f.test = true) (hmode : s.mode = .run)
    (hacc : s.flag (GSV_SCFG_TEST_ACC j) = false) : s.gooseFor j f = (s.subFits j).incSat (GSV_SSTAT_TSTDISC j) := by
  rw [State.gooseFor_of_own hof, if_neg (by simp [hfit]), if_pos (by simp [htest, hmode, hacc])]

theorem State.gooseFor_of_taken (hfit : frameFits (s.gsubCfg j) f = true)
    (htest : f.test = false ∨ s.mode ≠ .run ∨ s.flag (GSV_SCFG_TEST_ACC j) = true) : s.gooseFor j f =
      if !frameNew (s.subOf j).last (s.subOf j).dropped f.stNum f.sqNum then (s.subFits j).incSat (GSV_SSTAT_DUP j)
      else (s.subFits j).gooseAccept j (s.gsubCfg j) f := by
  rw [State.gooseFor_of_own hof, if_neg (by simp [hfit]), if_neg (by rcases htest with h | h | h <;> simp [h])]
end

theorem State.subOf_setSub {j : Nat} (x : SubInt) (hj : j < s.gsv.subs.length) : (s.setSub j x).subOf j = x :=
  lget_lset_same _ _ _ _ hj

/-- R373, R374: an accepted frame restarts the live timer of a subscription that has not dropped. -/
theorem State.gooseAccept_leaves {j : Nat} (c : GsubCfg) (f : GooseFrame) (hj : j < s.gsv.subs.length)
    (hdropped : (s.subOf j).dropped = false) : let b := s.gooseAccept j c f
    b.flag (GSV_SSTAT_RX j) = true ∧ (b.subOf j).last = some (f.stNum, f.sqNum) ∧ (b.subOf j).until_ = some (s.now + f.tal * msU) ∧
      (b.subOf j).dropped = false ∧ b.evt = s.evt := by
  have heq : ∃ x : SubInt, s.gooseAccept j c f = (s.setSub j x).setFlag (GSV_SSTAT_RX j) true ∧ x.last = some (f.stNum, f.sqNum) ∧
      x.until_ = some (s.now + f.tal * msU) ∧ x.dropped = false :=
    ⟨_, by rw [State.gooseAccept]; exact if_neg (by rw [hdropped]; exact Bool.false_ne_true), rfl, rfl, rfl⟩
  obtain ⟨x, hacc, hlast, huntil, hdrop⟩ := heq
  have hsub : ((s.setSub j x).setFlag (GSV_SSTAT_RX j) true).subOf j = x := by
    have hgsv : ((s.setSub j x).setFlag (GSV_SSTAT_RX j) true).gsv = (s.setSub j x).gsv := by simp only [State.setFlag_frame]
    rw [State.subOf, hgsv]
    exact State.subOf_setSub x hj
  simp only [hacc, hsub]
  refine ⟨State.flag_setFlag_same _ _ _ (by simp [GSV_SSTAT_RX]) rfl, hlast, huntil, hdrop, by simp [State.setFlag_frame, State.setSub_frame]⟩

/-! ### A subscription drops (R374) -/

theorem fits_LGC_SUBST (j : Nat) : (LGC_SUBST_STATE j).Fits ∧ (LGC_SUBST_PEND_DROP j).Fits ∧ (LGC_SUBST_PEND_REST j).Fits ∧
    (LGC_SUBST_DROPS j).Fits := by
  simp [Field.Fits, LGC_SUBST_STATE, LGC_SUBST_PEND_DROP, LGC_SUBST_PEND_REST, LGC_SUBST_DROPS]

theorem State.drops_setPres (j k : Nat) (x : Nat × Bool × Bool) : (s.setPres k j x).getF (LGC_SUBST_DROPS j) = s.getF (LGC_SUBST_DROPS j) := by
  obtain ⟨hst, hdrop, hrest, -⟩ := fits_LGC_SUBST j
  have hapart : (LGC_SUBST_DROPS j).Apart (LGC_SUBST_STATE j) ∧ (LGC_SUBST_DROPS j).Apart (LGC_SUBST_PEND_DROP j) ∧
      (LGC_SUBST_DROPS j).Apart (LGC_SUBST_PEND_REST j) := by
    simp [Field.Apart, LGC_SUBST_STATE, LGC_SUBST_PEND_DROP, LGC_SUBST_PEND_REST, LGC_SUBST_DROPS]
  unfold State.setPres
  split
  · rw [State.getF_setFlag_apart hrest hapart.2.2, State.getF_setFlag_apart hdrop hapart.2.1, State.getF_setF_apart hst hapart.1]
  · rfl

theorem State.drops_pendDrop (j : Nat) : (s.pendDrop j).getF (LGC_SUBST_DROPS j) = s.getF (LGC_SUBST_DROPS j) :=
  (State.drops_setPres ..).trans (State.drops_setPres ..)

theorem State.getF_setSub (s : State) (j : Nat) (x : SubInt) (f : Field) : (s.setSub j x).getF f = s.getF f := rfl

/-- R374: the drop is counted for both programs. -/
def State.dropCounted (s : State) (j : Nat) : State := (s.pendDrop j).incSat (LGC_SUBST_DROPS j)

theorem State.gsv_dropCounted (s : State) (j : Nat) : (s.dropCounted j).gsv = s.gsv := by
  simp [State.dropCounted, State.incSat_frame, State.pendDrop_frame]

theorem State.subDrop_eq (s : State) (j : Nat) : s.subDrop j =
    ((s.dropCounted j).setSub j { s.subOf j with dropped := true, until_ := none }).raise 97 j
      ((s.dropCounted j).getF (LGC_SUBST_DROPS j)) := by
  have hsub : (s.dropCounted j).subOf j = s.subOf j := by rw [State.subOf, State.gsv_dropCounted, State.subOf]
  rw [← hsub]
  simp only [State.subDrop, State.dropCounted]

/-- R374: a drop is counted, shown and ends the live timer. -/
theorem State.subDrop_leaves {j : Nat} (hj : j < 144) (hlen : s.gsv.subs.length = 144) :
    (s.subDrop j).getF (LGC_SUBST_DROPS j) = satInc (2 ^ (LGC_SUBST_DROPS j).width - 1) (s.getF (LGC_SUBST_DROPS j)) ∧
      ((s.subDrop j).subOf j).dropped = true ∧ ((s.subDrop j).subOf j).until_ = none := by
  have hsub (x : SubInt) (d : Nat) : (((s.dropCounted j).setSub j x).raise 97 j d).subOf j = x := by
    have hgsv : (((s.dropCounted j).setSub j x).raise 97 j d).gsv = ((s.dropCounted j).setSub j x).gsv := by simp only [State.raise_frame]
    rw [State.subOf, hgsv]
    exact State.subOf_setSub x (by rw [State.gsv_dropCounted, hlen]; exact hj)
  rw [State.subDrop_eq, hsub]
  refine ⟨(State.getF_of_rd (State.rd_raise _ _ _ _ _ ?_)).trans ?_, rfl, rfl⟩
  · simp only [LGC_SUBST_DROPS, LGC_SUBST]
    omega
  · rw [State.getF_setSub, State.dropCounted, State.getF_incSat_same (fits_LGC_SUBST j).2.2.2, State.drops_pendDrop]

theorem gooseLiveTimeoutEff_of_timer {j u : Nat} (huntil : (s.subOf j).until_ = some u) : gooseLiveTimeoutEff j s =
    if s.timeOn = true ∧ u ≤ s.now then (s.setFlag (GSV_SSTAT_RX j) false).subDrop j else s := by
  simp [gooseLiveTimeoutEff, huntil]
end

theorem exec_gooseStateChange_eq (t n : Nat) (s : State) :
    exec (.gooseStateChange t n) s = .next (if n < 32 then gooseStateChangeEff n (s.at t) else s.at t) := by
  simp [exec_gooseStateChange]

theorem exec_gooseRetransmit_eq (t n : Nat) (s : State) :
    exec (.gooseRetransmit t n) s = .next (if n < 32 then gooseRetransmitEff n (s.at t) else s.at t) := by
  simp [exec_gooseRetransmit]

theorem exec_gooseReceive_eq (t p : Nat) (f : GooseFrame) (s : State) :
    exec (.gooseReceive t p f) s = .next (if p < 3 then gooseReceiveEff p f (s.at t) else s.at t) := by
  simp [exec_gooseReceive]

theorem exec_gooseLiveTimeout_eq (t j : Nat) (s : State) :
    exec (.gooseLiveTimeout t j) s = .next (if j < 128 then gooseLiveTimeoutEff j (s.at t) else s.at t) := by
  simp [exec_gooseLiveTimeout]

/-- Settles O32: publication by the duties and the tick of the change, reception by what the frame and its table agree on. -/
theorem gooseMessages : Obligations.GooseMessages := by
  refine ⟨?increment, ?change, ?idle, ?again, ?shows, fun s n hpair hfree => State.gooseSend_of_alone hpair hfree, fun s n p f => rfl,
    ?receive, ?frames, ?accepted, ?timeout, ?dropped, exec_gooseStateChange_eq, exec_gooseRetransmit_eq, exec_gooseReceive_eq,
    exec_gooseLiveTimeout_eq⟩
  case increment =>
    intro n
    unfold incGoose
    by_cases h : n < 0xFFFFFFFF
    · rw [if_pos h, if_neg (Nat.not_le.2 h)]
    · rw [if_neg h, if_pos (Nat.not_lt.1 h)]
  case change =>
    intro t n s a g r hn hen hprot hnew
    have hexec := exec_gooseStateChange_eq t n s
    exact ⟨fun htick => exec_of_guard hexec hn (gooseStateChangeEff_of_sameTick hen hprot hnew htick),
      fun htick hleads => exec_of_guard hexec hn (gooseStateChangeEff_of_leading hen hprot hnew htick hleads),
      fun htick hleads => exec_of_guard hexec hn (gooseStateChangeEff_of_notLeading hen hprot hnew htick hleads)⟩
  case idle =>
    exact fun t n s hn h => exec_of_guard (exec_gooseStateChange_eq t n s) hn (gooseStateChangeEff_of_idle h)
  case again =>
    intro t n due s a g gap r hn hnext hen hprot hleads
    have hexec := exec_gooseRetransmit_eq t n s
    exact ⟨fun hdue => exec_of_guard hexec hn (gooseRetransmitEff_of_early hnext hen hprot hleads hdue),
      fun hdue hbump => exec_of_guard hexec hn (gooseRetransmitEff_of_bump hnext hen hprot hleads hdue hbump),
      fun hdue hbump => exec_of_guard hexec hn (gooseRetransmitEff_of_due hnext hen hprot hleads hdue hbump)⟩
  case shows =>
    intro s n v _
    obtain ⟨hst, hsq, hcnt⟩ := s.gooseNew_shows n v
    refine ⟨hst, hsq, fun hfree => ?_, fun ⟨p, hp, hwaits⟩ => ?_⟩ <;> rw [hcnt]
    · rw [if_pos ((s.gooseWaiting_isEmpty n).2 hfree)]
    · rw [if_neg fun h => by simp [(s.gooseWaiting_isEmpty n).1 h p hp] at hwaits]
  case receive =>
    exact fun t p f s hp hon hen => exec_of_guard (exec_gooseReceive_eq t p f s) hp (gooseReceiveEff_of_open f hon hen)
  case frames =>
    intro s j f c x ok
    refine ⟨fun h => State.gooseFor_of_other h, fun hen hdst happid hnames => ?_⟩
    have hof : s.IsOf j f := ⟨hen, hdst, happid, hnames⟩
    refine ⟨fun hfit hmism => ?_, fun hfit hmism => ?_, fun hfit htest hmode hacc => State.gooseFor_of_test hof hfit htest hmode hacc,
      fun hfit htest hold => ?_, fun hfit htest hnew => ?_⟩
    · rw [State.gooseFor_of_misfit hof hfit, if_pos hmism]
    · rw [State.gooseFor_of_misfit hof hfit, if_neg (by rw [hmism]; exact Bool.false_ne_true)]
    · rw [State.gooseFor_of_taken hof hfit htest, if_pos (by rw [hold]; rfl)]
      rfl
    · rw [State.gooseFor_of_taken hof hfit htest, if_neg (by rw [hnew]; exact Bool.false_ne_true)]
      rfl
  case accepted =>
    intro s j c f hj hlen hdropped
    exact State.gooseAccept_leaves c f (by omega) hdropped
  case timeout =>
    exact fun t j u s hj huntil => exec_of_guard (exec_gooseLiveTimeout_eq t j s) hj (gooseLiveTimeoutEff_of_timer huntil)
  case dropped =>
    intro s j hj hlen
    obtain ⟨hdrops, hdropped, huntil⟩ := State.subDrop_leaves hj hlen
    exact ⟨hdrops, hdropped, huntil, s.subDrop_eq j⟩

end Sys2Proof.Machine

/-!
Sampled values (R375 to R380): which frames a stream takes, what a sample leaves of a stream, where it is placed, and when a stream of the
engine's own sends.
-/
namespace Sys2Proof.Machine

section
variable {s : State}

/-! ### Frames offered to a stream (R375) -/

theorem svReceiveEff_of_open {p : Nat} (f : SvFrame) (hon : s.timeOn = true) (hen : s.flag (NET_PCFG_EN p) = true) :
    svReceiveEff p f s = (upto 16).foldl (fun s st => s.svFor st f) s := by
  simp [svReceiveEff, hon, hen]

/-- The table of a stream. -/
def State.svSubCfg (s : State) (st : Nat) : SvSubCfg := lget ⟨0, 0, 0, 0, 0⟩ s.gsv.svsubs st

theorem State.svFor_of_other {st : Nat} {f : SvFrame} (h : s.flag (GSV_SVSCFG_EN st) = false ∨ f.dst ≠ (s.svSubCfg st).dst ∨
    f.appid ≠ (s.svSubCfg st).appid ∨ f.svid ≠ (s.svSubCfg st).svid) : s.svFor st f = s :=
  if_pos (by simpa [State.svSubCfg, or_assoc] using h)

/-- A frame is one of a stream. -/
structure State.IsSvOf (s : State) (st : Nat) (f : SvFrame) : Prop where
  en : s.flag (GSV_SVSCFG_EN st) = true
  dst : f.dst = (s.svSubCfg st).dst
  appid : f.appid = (s.svSubCfg st).appid
  svid : f.svid = (s.svSubCfg st).svid

/-- The stream agrees with its table again. -/
def State.svFits (s : State) (st : Nat) : State := s.setSub (128 + st) { s.subOf (128 + st) with mism := false }

section
variable {st : Nat} {f : SvFrame} (hof : s.IsSvOf st f)
include hof

theorem State.svFor_of_own : s.svFor st f =
    if f.confRev != (s.svSubCfg st).confRev || f.asdus.isEmpty || 8 < f.asdus.length ||
        f.asdus.any (fun a => a.vals.length != (s.svSubCfg st).n || s.svSubRate st ≤ a.cnt) then
      if (s.subOf (128 + st)).mism then s.incSat (GSV_SVSSTAT_CFGERR st)
      else ((s.incSat (GSV_SVSSTAT_CFGERR st)).setSub (128 + st) { s.subOf (128 + st) with mism := true }).raise 98 (128 + st) 0
    else if f.sim && s.mode == .run && !s.flag (GSV_SVSCFG_TEST_ACC st) then s.svFits st
    else f.asdus.foldl (fun s a => s.svAsdu st f.sim a) (s.svFits st) :=
  if_neg (by
    obtain ⟨hen, hdst, happid, hsvid⟩ := hof
    simp only [State.svSubCfg] at hdst happid hsvid
    simp [hen, hdst, happid, hsvid])

theorem State.svFor_of_misfit (h : f.confRev ≠ (s.svSubCfg st).confRev ∨ f.asdus = [] ∨ 8 < f.asdus.length) : s.svFor st f =
    if (s.subOf (128 + st)).mism then s.incSat (GSV_SVSSTAT_CFGERR st)
    else ((s.incSat (GSV_SVSSTAT_CFGERR st)).setSub (128 + st) { s.subOf (128 + st) with mism := true }).raise 98 (128 + st) 0 := by
  rw [State.svFor_of_own hof, if_pos (by rcases h with h | h | h <;> simp [h])]

theorem State.svFor_of_fitting (hrev : f.confRev = (s.svSubCfg st).confRev) (hsome : f.asdus ≠ []) (hlen : f.asdus.length ≤ 8)
    (hfit : ∀ a ∈ f.asdus, a.vals.length = (s.svSubCfg st).n ∧ a.cnt < s.svSubRate st) : s.svFor st f =
      if f.sim && s.mode == .run && !s.flag (GSV_SVSCFG_TEST_ACC st) then s.svFits st
      else f.asdus.foldl (fun s a => s.svAsdu st f.sim a) (s.svFits st) := by
  have hany : f.asdus.any (fun a => a.vals.length != (s.svSubCfg st).n || s.svSubRate st ≤ a.cnt) = false := by
    refine List.any_eq_false.2 fun a ha => ?_
    obtain ⟨hn, hcnt⟩ := hfit a ha
    simp [hn, hcnt]
  rw [State.svFor_of_own hof, if_neg (by simp [hrev, hsome, hlen, hany])]
end

/-! ### A sample of a stream (R376 to R378) -/

section
variable (s : State) (st : Nat) (sim : Bool) (a : SvAsdu)

/-- Is the sample synchronised as SYNCMIN asks? -/
def State.svSync : Bool := decide (s.getF (GSV_SVSCFG_SYNCMIN st) ≤ a.synch)

/-- The key of a sample. -/
def State.svKeyOf : Nat := svKey (s.svSubRate st) a.cnt (s.sampAt s.now)

/-- How far the count has run since the last sample. -/
def State.svGap : Nat :=
  match (s.svOf st).key with
  | some k => (a.cnt + s.svSubRate st - k % s.svSubRate st) % s.svSubRate st
  | none => 1

/-- R380: the synchronisation is shown, and event 99 comes when it is lost. -/
def State.svSynced : State :=
  let t := s.setFlag (GSV_SVSSTAT_SYNC st) (s.svSync st a)
  if s.svSync st a || (s.svOf st).low then t else t.raise 99 st a.synch

/-- R378: a count that has run five or more ahead drops the stream. -/
def State.svGapped : State :=
  if !(s.svOf st).dropped && 5 ≤ s.svGap st a then (s.svSynced st a).svDrop st else s.svSynced st a

/-- How many consecutive samples there have been. -/
def State.svRun : Nat :=
  if !s.svSync st a then 0 else if s.svGap st a = 1 then satInc 8 ((s.svGapped st a).svOf st).run else 1

/-- R378: does the sample recover the stream? -/
def State.svBack : Bool := ((s.svGapped st a).svOf st).dropped && 8 ≤ s.svRun st a

/-- What the stream keeps of a sample. -/
def State.svKept : SvInt :=
  let x := (s.svGapped st a).svOf st
  { x with key := some (s.svKeyOf st a), at_ := (s.svGapped st a).now, run := s.svRun st a, low := !s.svSync st a
           dropped := x.dropped && !s.svBack st a, test := sim || a.vals.any (·.test)
           recent := (a.cnt, (s.svGapped st a).now) :: x.recent.filter (fun e => (s.svGapped st a).now < e.2 + secU) }

/-- R378: the recovery is shown. -/
def State.svRecovered (s : State) (st : Nat) : State :=
  let t := (s.setFlag (GSV_SVSSTAT_RX st) true).setSub (128 + st)
    { (s.setFlag (GSV_SVSSTAT_RX st) true).subOf (128 + st) with dropped := false, ever := true }
  if (s.presOf 0 (128 + st)).1 = 0 then t else t.pendRest (128 + st)

/-- The stream with what it keeps of the sample. -/
def State.svNoted : State :=
  let t := (s.svGapped st a).setSv st (s.svKept st sim a)
  if s.svBack st a then t.svRecovered st else t

/-- A late sample is counted. -/
def State.lateCounted (r : State × Bool) (st : Nat) : State := if r.2 then r.1.incSat (GSV_SVSSTAT_LATE st) else r.1
end

theorem State.svAsdu_of_dup {st : Nat} (sim : Bool) {a : SvAsdu}
    (h : ∃ e ∈ (s.svOf st).recent, e.1 = a.cnt ∧ s.now < e.2 + secU) : s.svAsdu st sim a = s.incSat (GSV_SVSSTAT_DUP st) :=
  if_pos (by simpa using h)

theorem State.svAsdu_of_new {st : Nat} (sim : Bool) {a : SvAsdu}
    (h : ∀ e ∈ (s.svOf st).recent, e.1 ≠ a.cnt ∨ e.2 + secU ≤ s.now) : s.svAsdu st sim a =
      State.lateCounted ((s.svNoted st sim a).svPlace st (s.svKeyOf st a) (s.svSync st a) a) st := by
  have hany : (s.svOf st).recent.any (fun e => e.1 = a.cnt && s.now < e.2 + secU) = false := by
    refine List.any_eq_false.2 fun e he => ?_
    rcases h e he with h | h
    · simp [h]
    · simp [Nat.not_lt.2 h]
  simp only [State.svAsdu, hany]
  rfl

/-! ### What a drop leaves (R378) -/

theorem fits_GSV_SVSSTAT (st : Nat) : (GSV_SVSSTAT_RX st).Fits ∧ (GSV_SVSSTAT_SYNC st).Fits ∧ (GSV_SVSSTAT_LATE st).Fits := by
  simp [Field.Fits, GSV_SVSSTAT_RX, GSV_SVSSTAT_SYNC, GSV_SVSSTAT_LATE]

theorem apart_GSV_SVSSTAT (st : Nat) : (GSV_SVSSTAT_SYNC st).Apart (GSV_SVSSTAT_RX st) ∧
    (GSV_SVSSTAT_SYNC st).Apart (GSV_SVSSTAT_LATE st) ∧ (GSV_SVSSTAT_RX st).Apart (GSV_SVSSTAT_LATE st) := by
  simp [Field.Apart, GSV_SVSSTAT_RX, GSV_SVSSTAT_SYNC, GSV_SVSSTAT_LATE]

/-- The registers of the streams lie apart from those of the subscriptions' states and before the events'. -/
theorem GSV_SVSSTAT_bounds {st : Nat} (hst : st < 16) (j : Nat) (hj : j < 144) :
    GSV_SVSSTAT st < 0x1A0000 ∧ LGC_SUBST j < 0x1A0000 ∧ GSV_SVSSTAT st ≠ LGC_SUBST j := by
  unfold GSV_SVSSTAT LGC_SUBST
  omega

theorem State.rd_setPres_other (s : State) (k j : Nat) (x : Nat × Bool × Bool) {a : Nat} (h : a ≠ LGC_SUBST j) :
    (s.setPres k j x).rd a = s.rd a := by
  have hset (f : Field) (hf : f.addr = LGC_SUBST j) (v : Nat) (s : State) : (s.setF f v).rd a = s.rd a :=
    State.rd_setF_other _ _ _ _ (hf ▸ h)
  unfold State.setPres State.setFlag
  split
  · rw [hset _ rfl, hset _ rfl, hset _ rfl]
  · rfl

theorem State.rd_pendDrop_other (s : State) (j : Nat) {a : Nat} (h : a ≠ LGC_SUBST j) : (s.pendDrop j).rd a = s.rd a :=
  (State.rd_setPres_other _ _ _ _ h).trans (State.rd_setPres_other _ _ _ _ h)

theorem State.rd_pendRest_other (s : State) (j : Nat) {a : Nat} (h : a ≠ LGC_SUBST j) : (s.pendRest j).rd a = s.rd a :=
  (State.rd_setPres_other _ _ _ _ h).trans (State.rd_setPres_other _ _ _ _ h)

theorem State.drops_pendRest (s : State) (j : Nat) : (s.pendRest j).getF (LGC_SUBST_DROPS j) = s.getF (LGC_SUBST_DROPS j) :=
  (State.drops_setPres ..).trans (State.drops_setPres ..)

theorem State.rd_setSub (s : State) (j : Nat) (x : SubInt) (a : Nat) : (s.setSub j x).rd a = s.rd a := rfl

theorem State.rd_subDrop_other (s : State) (j : Nat) {a : Nat} (h : a ≠ LGC_SUBST j) (ha : a < 0x1A0000) : (s.subDrop j).rd a = s.rd a := by
  rw [State.subDrop_eq, State.rd_raise _ _ _ _ _ ha, State.rd_setSub, State.dropCounted, State.rd_incSat_other _ _ (by exact h),
    State.rd_pendDrop_other _ _ h]

theorem State.gsv_raise (s : State) (src inst data : Nat) : (s.raise src inst data).gsv = s.gsv := by
  simp only [State.raise_frame]

theorem State.gsv_subDrop (s : State) (j : Nat) : (s.subDrop j).gsv =
    { s.gsv with subs := lset s.gsv.subs j { s.subOf j with dropped := true, until_ := none } } := by
  have hset (t : State) (x : SubInt) : (t.setSub j x).gsv = { t.gsv with subs := lset t.gsv.subs j x } := rfl
  rw [State.subDrop_eq, State.gsv_raise, hset, State.gsv_dropCounted]

/-- R378: the stream is out, its run broken. -/
def State.svOut (s : State) (st : Nat) : State :=
  (s.setSv st { s.svOf st with dropped := true, run := 0 }).setFlag (GSV_SVSSTAT_RX st) false

theorem State.svDrop_eq (s : State) (st : Nat) : s.svDrop st = (s.svOut st).subDrop (128 + st) := rfl

theorem State.gsv_setFlag (s : State) (f : Field) (b : Bool) : (s.setFlag f b).gsv = s.gsv := by
  simp only [State.setFlag_frame]

theorem State.gsv_svOut (s : State) (st : Nat) : (s.svOut st).gsv =
    { s.gsv with svInts := lset s.gsv.svInts st { s.svOf st with dropped := true, run := 0 } } := by
  rw [State.svOut, State.gsv_setFlag]
  rfl

theorem State.svInts_svDrop (s : State) (st : Nat) :
    (s.svDrop st).gsv.svInts = lset s.gsv.svInts st { s.svOf st with dropped := true, run := 0 } := by
  rw [State.svDrop_eq, State.gsv_subDrop, State.gsv_svOut]

theorem State.length_subs_svDrop (s : State) (st : Nat) : (s.svDrop st).gsv.subs.length = s.gsv.subs.length := by
  rw [State.svDrop_eq, State.gsv_subDrop, State.gsv_svOut]
  exact lset_length ..

section
variable {st : Nat} (hst : st < 16)
include hst

theorem State.svOf_svDrop (hlen : s.gsv.svInts.length = 16) : (s.svDrop st).svOf st = { s.svOf st with dropped := true, run := 0 } := by
  rw [State.svOf, State.svInts_svDrop]
  exact lget_lset_same _ _ _ _ (by omega)

theorem State.rd_svDrop_stat : (s.svDrop st).rd (GSV_SVSSTAT st) = (s.svOut st).rd (GSV_SVSSTAT st) := by
  obtain ⟨hlow, -, hne⟩ := GSV_SVSSTAT_bounds hst (128 + st) (by omega)
  rw [State.svDrop_eq, State.rd_subDrop_other _ _ hne hlow]

theorem State.rx_svDrop : (s.svDrop st).flag (GSV_SVSSTAT_RX st) = false :=
  (State.flag_eq_of_getF (State.getF_of_rd (State.rd_svDrop_stat hst))).trans
    (State.flag_setFlag_same _ _ _ (fits_GSV_SVSSTAT st).1 rfl)

theorem State.sync_svDrop : (s.svDrop st).flag (GSV_SVSSTAT_SYNC st) = s.flag (GSV_SVSSTAT_SYNC st) :=
  (State.flag_eq_of_getF (State.getF_of_rd (State.rd_svDrop_stat hst))).trans
    (State.flag_setFlag_apart (fits_GSV_SVSSTAT st).1 (apart_GSV_SVSSTAT st).1 _)

theorem State.drops_svDrop (hsubs : s.gsv.subs.length = 144) : (s.svDrop st).getF (LGC_SUBST_DROPS (128 + st)) =
    satInc (2 ^ (LGC_SUBST_DROPS (128 + st)).width - 1) (s.getF (LGC_SUBST_DROPS (128 + st))) := by
  have hne := (GSV_SVSSTAT_bounds hst (128 + st) (by omega)).2.2
  have hkept : (s.svOut st).getF (LGC_SUBST_DROPS (128 + st)) = s.getF (LGC_SUBST_DROPS (128 + st)) :=
    State.getF_of_rd (State.rd_setF_other _ _ _ _ hne.symm)
  rw [State.svDrop_eq, (State.subDrop_leaves (s := s.svOut st) (by omega) (by rw [State.gsv_svOut]; exact hsubs)).1, hkept]
end

/-! ### What a sample leaves (R376 to R378, R380) -/

section
variable (st : Nat) (a : SvAsdu)

theorem State.gsv_svSynced : (s.svSynced st a).gsv = s.gsv := by
  unfold State.svSynced
  dsimp only
  split
  · exact State.gsv_setFlag ..
  · rw [State.gsv_raise, State.gsv_setFlag]

theorem State.svOf_svSynced : (s.svSynced st a).svOf st = s.svOf st := by
  rw [State.svOf, State.gsv_svSynced, State.svOf]

theorem State.evt_svSynced : (s.svSynced st a).evt = (if s.svSync st a = true ∨ (s.svOf st).low = true then s else
    (s.setFlag (GSV_SVSSTAT_SYNC st) false).raise 99 st a.synch).evt := by
  unfold State.svSynced
  dsimp only
  by_cases h : s.svSync st a = true ∨ (s.svOf st).low = true
  · rw [if_pos (by simpa using h), if_pos h]
    simp only [State.setFlag_frame]
  · have hsync : s.svSync st a = false := by simpa using fun hs => h (.inl hs)
    rw [if_neg (by simpa using h), if_neg h, hsync]

theorem State.rd_svSynced {x : Nat} (hx : x ≠ GSV_SVSSTAT st) (hlow : x < 0x1A0000) : (s.svSynced st a).rd x = s.rd x := by
  have hset (b : Bool) : (s.setFlag (GSV_SVSSTAT_SYNC st) b).rd x = s.rd x := State.rd_setF_other _ _ _ _ hx
  unfold State.svSynced
  dsimp only
  split
  · exact hset _
  · rw [State.rd_raise _ _ _ _ _ hlow, hset]

theorem State.sync_svSynced (hst : st < 16) : (s.svSynced st a).flag (GSV_SVSSTAT_SYNC st) = s.svSync st a := by
  have hlow := (GSV_SVSSTAT_bounds hst 0 (by decide)).1
  have hset (b : Bool) : (s.setFlag (GSV_SVSSTAT_SYNC st) b).flag (GSV_SVSSTAT_SYNC st) = b :=
    State.flag_setFlag_same _ _ _ (fits_GSV_SVSSTAT st).2.1 rfl
  unfold State.svSynced
  dsimp only
  split
  · exact hset _
  · exact (State.flag_eq_of_getF (State.getF_of_rd (State.rd_raise _ _ _ _ _ hlow))).trans (hset _)

theorem State.now_svGapped : (s.svGapped st a).now = s.now := by
  have hite := @State.ite_frame
  simp [State.svGapped, State.svSynced, ↓hite, State.svDrop_frame, State.raise_frame, State.setFlag_frame]

theorem State.svGapped_of_near (h : (s.svOf st).dropped = true ∨ s.svGap st a < 5) : s.svGapped st a = s.svSynced st a :=
  if_neg (by rcases h with h | h <;> simp [h])

theorem State.svGapped_of_far (hin : (s.svOf st).dropped = false) (hfar : 5 ≤ s.svGap st a) :
    s.svGapped st a = (s.svSynced st a).svDrop st := if_pos (by simp [hin, hfar])

theorem State.svOf_svGapped_of_near (h : (s.svOf st).dropped = true ∨ s.svGap st a < 5) : (s.svGapped st a).svOf st = s.svOf st := by
  rw [State.svGapped_of_near st a h, State.svOf_svSynced]

theorem State.svOf_svGapped_of_far (hst : st < 16) (hlen : s.gsv.svInts.length = 16) (hin : (s.svOf st).dropped = false)
    (hfar : 5 ≤ s.svGap st a) : (s.svGapped st a).svOf st = { s.svOf st with dropped := true, run := 0 } := by
  rw [State.svGapped_of_far st a hin hfar, State.svOf_svDrop hst (by rw [State.gsv_svSynced, hlen]), State.svOf_svSynced]

theorem State.lengths_svGapped (hlen : s.gsv.svInts.length = 16) (hsubs : s.gsv.subs.length = 144) :
    (s.svGapped st a).gsv.svInts.length = 16 ∧ (s.svGapped st a).gsv.subs.length = 144 := by
  unfold State.svGapped
  split
  · rw [State.svInts_svDrop, lset_length, State.length_subs_svDrop, State.gsv_svSynced]
    exact ⟨hlen, hsubs⟩
  · rw [State.gsv_svSynced]
    exact ⟨hlen, hsubs⟩

theorem State.sync_svGapped (hst : st < 16) : (s.svGapped st a).flag (GSV_SVSSTAT_SYNC st) = s.svSync st a := by
  unfold State.svGapped
  split
  · rw [State.sync_svDrop hst, State.sync_svSynced st a hst]
  · exact State.sync_svSynced st a hst

/-! ### The run and the recovery (R378) -/

theorem State.svRun_of_unsync (h : s.svSync st a = false) : s.svRun st a = 0 := if_pos (by simp [h])

theorem State.svRun_of_near (hsync : s.svSync st a = true) (h : (s.svOf st).dropped = true ∨ s.svGap st a < 5) :
    s.svRun st a = if s.svGap st a = 1 then satInc 8 (s.svOf st).run else 1 := by
  rw [State.svRun, State.svOf_svGapped_of_near st a h, hsync]
  rfl

theorem State.svRun_le_of_gap (h : s.svGap st a ≠ 1) : s.svRun st a ≤ 1 := by
  unfold State.svRun
  rw [if_neg h]
  split <;> omega

theorem State.svBack_of_short (h : s.svRun st a < 8) : s.svBack st a = false := by
  simp [State.svBack, h]

theorem satInc_lt {n : Nat} (h : n < 7) : satInc 8 n < 8 := by
  unfold satInc
  rw [if_pos (by omega)]
  omega

theorem State.svBack_of_broken (hin : (s.svOf st).dropped = true) (h : s.svGap st a ≠ 1 ∨ (s.svOf st).run < 7) :
    s.svBack st a = false := by
  refine State.svBack_of_short st a ?_
  by_cases hgap : s.svGap st a = 1
  · cases hsync : s.svSync st a with
    | false => simp [State.svRun_of_unsync st a hsync]
    | true =>
      rw [State.svRun_of_near st a hsync (.inl hin), if_pos hgap]
      exact satInc_lt (h.resolve_left (not_not.2 hgap))
  · exact lt_of_le_of_lt (State.svRun_le_of_gap st a hgap) (by decide)

theorem State.svBack_of_eighth (hin : (s.svOf st).dropped = true) (hsync : s.svSync st a = true) (hgap : s.svGap st a = 1)
    (hrun : 7 ≤ (s.svOf st).run) : s.svBack st a = true := by
  have height : s.svRun st a = 8 := by
    rw [State.svRun_of_near st a hsync (.inl hin), if_pos hgap, satInc]
    split <;> omega
  rw [State.svBack, State.svOf_svGapped_of_near st a (.inl hin), hin, height]
  rfl
end

/-! ### The recovery shown, the sample placed -/

theorem State.svInts_svRecovered (s : State) (st : Nat) : (s.svRecovered st).gsv.svInts = s.gsv.svInts := by
  have hset (t : State) (j : Nat) (x : SubInt) : (t.setSub j x).gsv.svInts = t.gsv.svInts := rfl
  have hpend (t : State) (j : Nat) : (t.pendRest j).gsv = t.gsv := by simp only [State.pendRest_frame]
  unfold State.svRecovered
  dsimp only
  split
  · rw [hset, State.gsv_setFlag]
  · rw [hpend, hset, State.gsv_setFlag]

theorem State.evt_svRecovered (s : State) (st : Nat) : (s.svRecovered st).evt = s.evt := by
  have hite := @State.ite_frame
  simp [State.svRecovered, ↓hite, State.pendRest_frame, State.setSub_frame, State.setFlag_frame]

section
variable {st : Nat} (hst : st < 16)
include hst

/-- Every field of the stream's status but RX is as it was. -/
theorem State.rd_svRecovered : (s.svRecovered st).rd (GSV_SVSSTAT st) = (s.setFlag (GSV_SVSSTAT_RX st) true).rd (GSV_SVSSTAT st) := by
  have hne := (GSV_SVSSTAT_bounds hst (128 + st) (by omega)).2.2
  unfold State.svRecovered
  dsimp only
  split
  · rw [State.rd_setSub]
  · rw [State.rd_pendRest_other _ _ hne, State.rd_setSub]

theorem State.drops_svRecovered : (s.svRecovered st).getF (LGC_SUBST_DROPS (128 + st)) = s.getF (LGC_SUBST_DROPS (128 + st)) := by
  have hne := (GSV_SVSSTAT_bounds hst (128 + st) (by omega)).2.2
  have hset (x : SubInt) : ((s.setFlag (GSV_SVSSTAT_RX st) true).setSub (128 + st) x).getF (LGC_SUBST_DROPS (128 + st)) =
      s.getF (LGC_SUBST_DROPS (128 + st)) := by
    rw [State.getF_setSub]
    exact State.getF_of_rd (State.rd_setF_other _ _ _ _ hne.symm)
  unfold State.svRecovered
  dsimp only
  split
  · exact hset _
  · rw [State.drops_pendRest, hset]

theorem State.dropped_svRecovered (hsubs : s.gsv.subs.length = 144) : ((s.svRecovered st).subOf (128 + st)).dropped = false := by
  have hlen : (s.setFlag (GSV_SVSSTAT_RX st) true).gsv.subs.length = 144 := by rw [State.gsv_setFlag, hsubs]
  have hpend (t : State) (j : Nat) : (t.pendRest j).subOf j = t.subOf j := by simp only [State.subOf, State.pendRest_frame]
  unfold State.svRecovered
  dsimp only
  split
  · rw [State.subOf_setSub _ (by omega)]
  · rw [hpend, State.subOf_setSub _ (by omega)]
end

/-- R376: the place of a sample and the count of a late one change neither the stream nor the events, nor a register but LATE. -/
theorem State.lateCounted_leaves (s : State) (st key : Nat) (sync : Bool) (a : SvAsdu) :
    let y := State.lateCounted (s.svPlace st key sync a) st
    y.gsv = s.gsv ∧ y.evt = s.evt ∧ ∀ f : Field, f.Apart (GSV_SVSSTAT_LATE st) → y.getF f = s.getF f := by
  have hregs : (s.svPlace st key sync a).1.regs = s.regs := by simp only [State.svPlace_frame]
  unfold State.lateCounted
  dsimp only
  split
  · refine ⟨by simp only [State.incSat_frame, State.svPlace_frame], by simp only [State.incSat_frame, State.svPlace_frame], fun f hf => ?_⟩
    exact (State.getF_incSat_apart (fits_GSV_SVSSTAT st).2.2 hf).trans (State.getF_of_regs hregs f)
  · exact ⟨by simp only [State.svPlace_frame], by simp only [State.svPlace_frame], fun f _ => State.getF_of_regs hregs f⟩
end

end Sys2Proof.Machine

/-!
Sampled values (R376 to R380): the stream after an accepted sample, the channels a sample goes to, a stream's own frame, the timeout.
-/
namespace Sys2Proof.Machine

section
variable {s : State}

/-! ### The stream after a sample (R376 to R378, R380) -/

section
variable {st : Nat} (hst : st < 16) (sim : Bool) (a : SvAsdu)
include hst

theorem State.svOf_svNoted (hlen : s.gsv.svInts.length = 16) (hsubs : s.gsv.subs.length = 144) :
    (s.svNoted st sim a).svOf st = s.svKept st sim a := by
  obtain ⟨hints, -⟩ := State.lengths_svGapped st a hlen hsubs
  have hset : ((s.svGapped st a).setSv st (s.svKept st sim a)).svOf st = s.svKept st sim a := lget_lset_same _ _ _ _ (by omega)
  unfold State.svNoted
  dsimp only
  split
  · rw [State.svOf, State.svInts_svRecovered]
    exact hset
  · exact hset

theorem State.sync_svNoted : (s.svNoted st sim a).flag (GSV_SVSSTAT_SYNC st) = s.svSync st a := by
  have hset : ((s.svGapped st a).setSv st (s.svKept st sim a)).flag (GSV_SVSSTAT_SYNC st) = s.svSync st a :=
    State.sync_svGapped st a hst
  unfold State.svNoted
  dsimp only
  split
  · rw [State.flag_eq_of_getF (State.getF_of_rd (State.rd_svRecovered hst)),
      State.flag_setFlag_apart (fits_GSV_SVSSTAT st).1 (apart_GSV_SVSSTAT st).1, hset]
  · exact hset

theorem State.drops_svNoted : (s.svNoted st sim a).getF (LGC_SUBST_DROPS (128 + st)) =
    (s.svGapped st a).getF (LGC_SUBST_DROPS (128 + st)) := by
  unfold State.svNoted
  dsimp only
  split
  · rw [State.drops_svRecovered hst]
    rfl
  · rfl

omit hst in
theorem State.evt_svNoted : (s.svNoted st sim a).evt = (s.svGapped st a).evt := by
  unfold State.svNoted
  dsimp only
  split
  · rw [State.evt_svRecovered]
    rfl
  · rfl

omit hst in
theorem State.svNoted_of_in (h : s.svBack st a = false) : s.svNoted st sim a = (s.svGapped st a).setSv st (s.svKept st sim a) :=
  if_neg (by simp [h])

omit hst in
theorem State.svNoted_of_back (h : s.svBack st a = true) :
    s.svNoted st sim a = ((s.svGapped st a).setSv st (s.svKept st sim a)).svRecovered st :=
  if_pos h

/-- R378: a recovered stream is shown and its values count again. -/
theorem State.back_svNoted (hlen : s.gsv.svInts.length = 16) (hsubs : s.gsv.subs.length = 144) (h : s.svBack st a = true) :
    (s.svNoted st sim a).flag (GSV_SVSSTAT_RX st) = true ∧ ((s.svNoted st sim a).subOf (128 + st)).dropped = false := by
  rw [State.svNoted_of_back sim a h]
  refine ⟨?_, State.dropped_svRecovered hst (State.lengths_svGapped st a hlen hsubs).2⟩
  rw [State.flag_eq_of_getF (State.getF_of_rd (State.rd_svRecovered hst)), State.flag_setFlag_same _ _ _ (fits_GSV_SVSSTAT st).1 rfl]

end

/-- R376 to R378, R380: what an accepted sample leaves of its stream. -/
structure State.SvLeft (s : State) (st : Nat) (sim : Bool) (a : SvAsdu) (y : State) : Prop where
  kept : y.svOf st = s.svKept st sim a
  sync : y.flag (GSV_SVSSTAT_SYNC st) = s.svSync st a
  evt : y.evt = (s.svGapped st a).evt
  drops : y.getF (LGC_SUBST_DROPS (128 + st)) = (s.svGapped st a).getF (LGC_SUBST_DROPS (128 + st))
  quiet : s.svBack st a = false → y.flag (GSV_SVSSTAT_RX st) = (s.svGapped st a).flag (GSV_SVSSTAT_RX st)
  back : s.svBack st a = true → y.flag (GSV_SVSSTAT_RX st) = true ∧ (y.subOf (128 + st)).dropped = false

section
variable {st : Nat} (sim : Bool) {a : SvAsdu}

theorem State.svLeft_svAsdu (h : ∀ e ∈ (s.svOf st).recent, e.1 ≠ a.cnt ∨ e.2 + secU ≤ s.now)
    (hst : st < 16) (hlen : s.gsv.svInts.length = 16) (hsubs : s.gsv.subs.length = 144) : s.SvLeft st sim a (s.svAsdu st sim a) := by
  obtain ⟨hgsv, hevt, hreg⟩ := State.lateCounted_leaves (s.svNoted st sim a) st (s.svKeyOf st a) (s.svSync st a) a
  obtain ⟨-, hsynclate, hrxlate⟩ := apart_GSV_SVSSTAT st
  have hdrops : (LGC_SUBST_DROPS (128 + st)).Apart (GSV_SVSSTAT_LATE st) :=
    .inl (GSV_SVSSTAT_bounds hst (128 + st) (by omega)).2.2.symm
  have hrx := State.flag_eq_of_getF (hreg _ hrxlate)
  have hsub (j : Nat) : (State.lateCounted ((s.svNoted st sim a).svPlace st (s.svKeyOf st a) (s.svSync st a) a) st).subOf j =
      (s.svNoted st sim a).subOf j := by
    rw [State.subOf, hgsv, State.subOf]
  rw [State.svAsdu_of_new sim h]
  refine ⟨?kept, ?sync, ?evt, ?drops, fun hb => ?quiet, fun hb => ?back⟩
  case kept => rw [State.svOf, hgsv, ← State.svOf, State.svOf_svNoted hst sim a hlen hsubs]
  case sync => rw [State.flag_eq_of_getF (hreg _ hsynclate), State.sync_svNoted hst]
  case evt => rw [hevt, State.evt_svNoted]
  case drops => rw [hreg _ hdrops, State.drops_svNoted hst]
  case quiet =>
    rw [hrx, State.svNoted_of_in sim a hb]
    rfl
  case back =>
    rw [hrx, hsub]
    exact State.back_svNoted hst sim a hlen hsubs hb

variable {sim} {y : State} (hy : s.SvLeft st sim a y)
include hy

/-- R378: while the count runs on, or while the stream is out, no drop is counted. -/
theorem State.SvLeft.near (hst : st < 16) (h : (s.svOf st).dropped = true ∨ s.svGap st a < 5) :
    y.evt = (if s.svSync st a = true ∨ (s.svOf st).low = true then s else
      (s.setFlag (GSV_SVSSTAT_SYNC st) false).raise 99 st a.synch).evt ∧
    y.getF (LGC_SUBST_DROPS (128 + st)) = s.getF (LGC_SUBST_DROPS (128 + st)) := by
  obtain ⟨-, hlow, hne⟩ := GSV_SVSSTAT_bounds hst (128 + st) (by omega)
  rw [hy.evt, hy.drops, State.svGapped_of_near st a h]
  exact ⟨State.evt_svSynced st a, State.getF_of_rd (State.rd_svSynced st a hne.symm hlow)⟩

/-- R378: a count five or more ahead drops the stream. -/
theorem State.SvLeft.far (hst : st < 16) (hlen : s.gsv.svInts.length = 16) (hsubs : s.gsv.subs.length = 144)
    (hin : (s.svOf st).dropped = false) (hfar : 5 ≤ s.svGap st a) :
    (y.svOf st).dropped = true ∧ y.flag (GSV_SVSSTAT_RX st) = false ∧ y.getF (LGC_SUBST_DROPS (128 + st)) =
      satInc (2 ^ (LGC_SUBST_DROPS (128 + st)).width - 1) (s.getF (LGC_SUBST_DROPS (128 + st))) := by
  obtain ⟨-, hlow, hne⟩ := GSV_SVSSTAT_bounds hst (128 + st) (by omega)
  have hback : s.svBack st a = false :=
    State.svBack_of_short st a (lt_of_le_of_lt (State.svRun_le_of_gap st a (by omega)) (by decide))
  refine ⟨?out, ?rx, ?drops⟩
  case out =>
    rw [hy.kept, State.svKept, State.svOf_svGapped_of_far st a hst hlen hin hfar, hback]
    rfl
  case rx => rw [hy.quiet hback, State.svGapped_of_far st a hin hfar, State.rx_svDrop hst]
  case drops =>
    rw [hy.drops, State.svGapped_of_far st a hin hfar, State.drops_svDrop hst (by rw [State.gsv_svSynced, hsubs]),
      State.getF_of_rd (State.rd_svSynced st a hne.symm hlow)]

theorem State.SvLeft.run : (y.svOf st).run = s.svRun st a := by
  rw [hy.kept, State.svKept]

theorem State.SvLeft.out (hin : (s.svOf st).dropped = true) (hback : s.svBack st a = false) : (y.svOf st).dropped = true := by
  rw [hy.kept, State.svKept, State.svOf_svGapped_of_near st a (.inl hin), hin, hback]
  rfl

theorem State.SvLeft.unsync (hsync : s.svSync st a = false) :
    (y.svOf st).run = 0 ∧ ((s.svOf st).dropped = true → (y.svOf st).dropped = true) := by
  have hrun := State.svRun_of_unsync st a hsync
  exact ⟨hy.run.trans hrun, fun hin => hy.out hin (State.svBack_of_short st a (by omega))⟩

/-- R378: the eighth consecutive sample recovers the stream. -/
theorem State.SvLeft.eighth (hin : (s.svOf st).dropped = true) (hsync : s.svSync st a = true) (hgap : s.svGap st a = 1)
    (hrun : 7 ≤ (s.svOf st).run) :
    (y.svOf st).dropped = false ∧ y.flag (GSV_SVSSTAT_RX st) = true ∧ (y.subOf (128 + st)).dropped = false := by
  have hback := State.svBack_of_eighth st a hin hsync hgap hrun
  refine ⟨?_, hy.back hback⟩
  rw [hy.kept, State.svKept, hback]
  exact Bool.and_false _
end

/-! ### Where a sample goes (R375, R376) -/

theorem foldl_idle {σ α : Type} {f : σ → α → σ} {x : σ} {l : List α} (h : ∀ r ∈ l, f x r = x) : l.foldl f x = x := by
  induction l with
  | nil => rfl
  | cons r l ih =>
    rw [List.foldl_cons, h r (by simp)]
    exact ih fun r' hr' => h r' (by simp [hr'])

/-- A fold that acts at one place of a list only. -/
theorem foldl_only {σ α : Type} {f : σ → α → σ} {x : σ} {q : α} {l : List α} (hnodup : l.Nodup) (hq : q ∈ l)
    (hbefore : ∀ r ∈ l, r ≠ q → f x r = x) (hafter : ∀ r ∈ l, r ≠ q → f (f x q) r = f x q) : l.foldl f x = f x q := by
  obtain ⟨l₁, l₂, rfl⟩ := List.append_of_mem hq
  obtain ⟨hn₁, hn₂⟩ : q ∉ l₁ ∧ q ∉ l₂ := by simpa using (List.nodup_middle.1 hnodup).notMem
  rw [List.foldl_append, List.foldl_cons, foldl_idle fun r hr => hbefore r (by simp [hr]) fun hrq => hn₁ (hrq ▸ hr)]
  exact foldl_idle fun r hr => hafter r (by simp [hr]) fun hrq => hn₂ (hrq ▸ hr)

section
variable (s : State) (st key : Nat) (sync : Bool) (a : SvAsdu)

/-- R375, R376: the samples of a virtual channel with one of a stream's entry put in front. -/
def State.svCell (v : Nat) (e : SvVal) (l : List (Nat × Sample)) : List (Nat × Sample) :=
  let q := svScale e.v (s.getF (GSV_VGAIN_VGAIN v))
  let acc := s.flag (GSV_SVSCFG_TEST_ACC st) || s.mode == .test
  ((key, ⟨q.1, if sync then tagMax (svTag acc e) (tagIf q.2 .overrange) else .missing⟩) :: l).take 256

/-- R375 to R377: the samples of all virtual channels after channel `v` was looked at, and whether a sample came too late. -/
def State.svStep (r : List (List (Nat × Sample)) × Bool) (v : Nat) : List (List (Nat × Sample)) × Bool :=
  if !s.flag (GSV_VCH_EN v) || s.getF (GSV_VCH_STREAM v) != st then r
  else if s.svUsed v key then (r.1, true)
  else
    match (a.vals.drop (s.getF (GSV_VCH_ELEM v))).head? with
    | none => r
    | some e => (lset r.1 v (s.svCell st key sync v e (lget [] r.1 v)), r.2)

/-- The state with other samples of the virtual channels. -/
def State.withVsmp (m : List (List (Nat × Sample))) : State := { s with flt := { s.flt with vsmp := m } }

/-- The samples of the virtual channels say nothing of which places are used. -/
theorem State.svUsed_withVsmp (m : List (List (Nat × Sample))) (v : Nat) : (s.withVsmp m).svUsed v key = s.svUsed v key := rfl

theorem State.svPlace_eq : s.svPlace st key sync a =
    let r := (upto 64).foldl (s.svStep st key sync a) (s.flt.vsmp, false)
    (s.withVsmp r.1, r.2) := by
  unfold State.svPlace
  refine List.foldl_hom (init := (s.flt.vsmp, false)) (fun r : List (List (Nat × Sample)) × Bool => (s.withVsmp r.1, r.2)) fun r v => ?_
  have hused := s.svUsed_withVsmp key r.1 v
  have hget (f : Field) : (s.withVsmp r.1).getF f = s.getF f := rfl
  have hflag (f : Field) : (s.withVsmp r.1).flag f = s.flag f := rfl
  dsimp only
  unfold State.svStep
  rw [hused, hflag, hget, hget, hget]
  split
  · rfl
  split
  · rfl
  cases (a.vals.drop (s.getF (GSV_VCH_ELEM v))).head? with
  | none => rfl
  | some e => rfl

variable {s st key sync a}

theorem State.length_svStep (r : List (List (Nat × Sample)) × Bool) (v : Nat) : (s.svStep st key sync a r v).1.length = r.1.length := by
  unfold State.svStep
  split
  · rfl
  split
  · rfl
  cases (a.vals.drop (s.getF (GSV_VCH_ELEM v))).head? with
  | none => rfl
  | some e => exact lset_length ..

theorem State.lget_svStep_other (r : List (List (Nat × Sample)) × Bool) {u v : Nat} (h : v ≠ u) :
    lget [] (s.svStep st key sync a r u).1 v = lget [] r.1 v := by
  unfold State.svStep
  split
  · rfl
  split
  · rfl
  cases (a.vals.drop (s.getF (GSV_VCH_ELEM u))).head? with
  | none => rfl
  | some e => exact lget_lset_other _ _ _ _ _ h

theorem State.svSteps_other (r : List (List (Nat × Sample)) × Bool) {l : List Nat} {v : Nat} (h : v ∉ l) :
    lget [] (l.foldl (s.svStep st key sync a) r).1 v = lget [] r.1 v ∧ (l.foldl (s.svStep st key sync a) r).1.length = r.1.length := by
  induction l generalizing r with
  | nil => exact ⟨rfl, rfl⟩
  | cons u l ih =>
    obtain ⟨hu, hl⟩ : v ≠ u ∧ v ∉ l := by simpa using h
    obtain ⟨hget, hlen⟩ := ih (s.svStep st key sync a r u) hl
    rw [List.foldl_cons]
    exact ⟨hget.trans (State.lget_svStep_other r hu), hlen.trans (State.length_svStep r u)⟩

/-- R375 to R377: the channel's place is open for the sample `e` of the frame. -/
structure State.SvOpen (s : State) (st key : Nat) (a : SvAsdu) (v : Nat) (e : SvVal) : Prop where
  en : s.flag (GSV_VCH_EN v) = true
  stream : s.getF (GSV_VCH_STREAM v) = st
  unused : s.svUsed v key = false
  entry : (a.vals.drop (s.getF (GSV_VCH_ELEM v))).head? = some e

section
variable {v : Nat} {e : SvVal} (hopen : s.SvOpen st key a v e)
include hopen

theorem State.svStep_of_open (r : List (List (Nat × Sample)) × Bool) :
    s.svStep st key sync a r v = (lset r.1 v (s.svCell st key sync v e (lget [] r.1 v)), r.2) := by
  simp [State.svStep, hopen.en, hopen.stream, hopen.unused, hopen.entry]

theorem State.vsmp_svPlace (hv : v < 64) (hlen : s.flt.vsmp.length = 64) : lget [] (s.svPlace st key sync a).1.flt.vsmp v =
    s.svCell st key sync v e (lget [] s.flt.vsmp v) := by
  obtain ⟨l₁, l₂, hl⟩ := List.append_of_mem (List.mem_range.2 hv)
  have hnodup : (l₁ ++ v :: l₂).Nodup := hl ▸ List.nodup_range
  obtain ⟨hn₁, hn₂⟩ : v ∉ l₁ ∧ v ∉ l₂ := by simpa using (List.nodup_middle.1 hnodup).notMem
  obtain ⟨hget, hlen₁⟩ := State.svSteps_other (s := s) (st := st) (key := key) (sync := sync) (a := a) (s.flt.vsmp, false) hn₁
  rw [State.svPlace_eq, upto, hl, List.foldl_append, List.foldl_cons]
  refine (State.svSteps_other _ hn₂).1.trans ?_
  rw [State.svStep_of_open hopen, hget]
  exact lget_lset_same _ _ _ _ (by rw [hlen₁, hlen]; exact hv)
end
end

/-! ### A stream of the engine's own (R379, R380) -/

section
variable (s : State) (q k : Nat)

/-- The samples a stream holds, with the one of sample `k`. -/
def State.svpNext : List SvpAsdu := lget [] s.gsv.svOut q ++ [s.svpAsdu q k]

/-- The stream holds `m`, the last of them of sample `k`. -/
def State.svpPut (m : List SvpAsdu) : State :=
  { s with gsv := { s.gsv with svOut := lset s.gsv.svOut q m, svLast := lset s.gsv.svLast q (some k) } }

/-- R379: the stream after sample `k`. -/
def State.svpStep : State :=
  let full := s.getF (GSV_SVPCFG_NASDU q) ≤ (s.svpNext q k).length
  let t := s.svpPut q k (if full then [] else s.svpNext q k)
  if full && s.leads then t.txOwn (s.ownPorts [0, 1, 2]) (.sv q (lget noFrameHdr s.gsv.svpubs q) (s.mode == .test) (s.svpNext q k)) else t
end

/-- R379: what the publication does for stream `q`. -/
def State.svpOne (s : State) (q : Nat) : State :=
  let k := (s.fch (s.svpCh q 0)).fixK
  if !s.flag (GSV_SVPCFG_EN q) || k.isNone || lget none s.gsv.svLast q = k ||
      !(upto 8).all (fun i => (s.fch (s.svpCh q i)).fixK = k) then s
  else s.svpStep q (k.getD 0)

theorem State.svPublish_of_on (hen : s.flag FLT_SVCFG_SV_EN = true) (hprot : s.protecting = true) :
    s.svPublish = (upto 8).foldl State.svpOne s := by
  unfold State.svPublish
  rw [if_neg (by simp [hen, hprot])]
  refine congrArg (fun f => (upto 8).foldl f s) ?_
  funext s q
  refine ite_congr rfl (fun _ => rfl) fun h => ?_
  obtain ⟨k, hk⟩ : ∃ k, (s.fch (s.svpCh q 0)).fixK = some k := Option.ne_none_iff_exists'.1 fun hn => h (by simp [hn])
  rw [hk]
  rfl

theorem State.svpOne_of_off {q : Nat} (h : s.flag (GSV_SVPCFG_EN q) = false) : s.svpOne q = s := if_pos (by simp [h])

theorem State.svpOne_of_new {q k : Nat} (hen : s.flag (GSV_SVPCFG_EN q) = true) (hk : ∀ i < 8, (s.fch (s.svpCh q i)).fixK = some k)
    (hnew : lget none s.gsv.svLast q ≠ some k) : s.svpOne q = s.svpStep q k := by
  have hall : (upto 8).all (fun i => (s.fch (s.svpCh q i)).fixK = some k) = true :=
    List.all_eq_true.2 fun i hi => by simpa using hk i (List.mem_range.1 hi)
  unfold State.svpOne
  rw [hk 0 (by decide), if_neg (by simp [hen, hnew, hall])]
  rfl

theorem State.rd_svpStep (q k : Nat) {x : Nat} (hx : 0x160000 ≤ x) : (s.svpStep q k).rd x = s.rd x := by
  unfold State.svpStep
  dsimp only
  split
  · rw [State.rd_txOwn _ _ _ fun p hp => ne_NET_PTX (State.ownPorts_lt hp) hx]
    rfl
  · rfl

/-- R379: a publication with one stream enabled. -/
theorem State.svPublish_of_one {q k : Nat} (hq : q < 8) (hon : s.flag FLT_SVCFG_SV_EN = true) (hprot : s.protecting = true)
    (hen : s.flag (GSV_SVPCFG_EN q) = true) (hothers : ∀ r < 8, r ≠ q → s.flag (GSV_SVPCFG_EN r) = false)
    (hk : ∀ i < 8, (s.fch (s.svpCh q i)).fixK = some k) (hnew : lget none s.gsv.svLast q ≠ some k) : s.svPublish = s.svpStep q k := by
  have hone := State.svpOne_of_new hen hk hnew
  rw [State.svPublish_of_on hon hprot, upto, foldl_only List.nodup_range (List.mem_range.2 hq), hone]
  · exact fun r hr hrq => State.svpOne_of_off (hothers r (List.mem_range.1 hr) hrq)
  · intro r hr hrq
    have hreg : (s.svpStep q k).rd (GSV_SVPCFG r) = s.rd (GSV_SVPCFG r) := State.rd_svpStep q k (by unfold GSV_SVPCFG; omega)
    rw [hone]
    exact State.svpOne_of_off ((State.flag_eq_of_getF (State.getF_of_rd hreg)).trans (hothers r (List.mem_range.1 hr) hrq))

theorem State.svpStep_of_short {q k : Nat} (h : (s.svpNext q k).length < s.getF (GSV_SVPCFG_NASDU q)) :
    s.svpStep q k = s.svpPut q k (s.svpNext q k) := by
  simp [State.svpStep, Nat.not_le.2 h]

theorem State.svpStep_of_full {q k : Nat} (h : s.getF (GSV_SVPCFG_NASDU q) ≤ (s.svpNext q k).length) : s.svpStep q k =
    if s.leads then (s.svpPut q k []).txOwn (s.ownPorts [0, 1, 2])
      (.sv q (lget noFrameHdr s.gsv.svpubs q) (s.mode == .test) (s.svpNext q k))
    else s.svpPut q k [] := by
  simp [State.svpStep, h]

/-! ### The commands -/

theorem exec_svReceive_eq (t p : Nat) (f : SvFrame) (s : State) :
    exec (.svReceive t p f) s = .next (if p < 3 then svReceiveEff p f (s.at t) else s.at t) := by
  simp [exec_svReceive]

theorem exec_svStreamTimeout_eq (t st : Nat) (s : State) :
    exec (.svStreamTimeout t st) s = .next (if st < 16 then svStreamTimeoutEff st (s.at t) else s.at t) := by
  simp [exec_svStreamTimeout]

theorem svStreamTimeoutEff_of_live {st : Nat} (hin : (s.svOf st).dropped = false) (hkey : (s.svOf st).key.isSome = true)
    (hon : s.timeOn = true) : svStreamTimeoutEff st s =
      if 4 * secU + ((s.svOf st).at_ + s.getF (GSV_SVSCFG_JTOL st) * usU) * s.svSubRate st ≤ s.now * s.svSubRate st then s.svDrop st
      else s :=
  if_neg (by simp [hin, hon, Option.isNone_eq_false_iff.2 hkey])
end

/-- Settles O33: each frame by the branch of its stream it falls into, a sample by what it leaves of the stream, a publication as
the step of the one stream enabled. -/
theorem sampledValues : Obligations.SampledValues := by
  unfold Obligations.SampledValues
  refine ⟨?receive, ?frames, ?duplicate, ?sample, ?place, ?publish, ?timeout, ?drop, ?total, ?totalTimeout⟩
  case receive =>
    intro t p f s a hp hon hen
    rw [exec_svReceive_eq, if_pos hp, svReceiveEff_of_open f hon hen]
  case frames =>
    intro s st f c x
    refine ⟨State.svFor_of_other, fun hen hdst happid hsvid => ?_⟩
    have hof : s.IsSvOf st f := ⟨hen, hdst, happid, hsvid⟩
    refine ⟨fun h hm => ?again, fun h hm => ?first, fun hrev hsome hlen hfit => ⟨fun hsim hrun hacc => ?test, fun h => ?taken⟩⟩
    case again => rw [State.svFor_of_misfit hof h, if_pos hm]
    case first => exact (State.svFor_of_misfit hof h).trans (if_neg (by simp only [x] at hm; simp [hm]))
    case test =>
      rw [State.svFor_of_fitting hof hrev hsome hlen hfit, if_pos (by simp [hsim, hrun, hacc])]
      rfl
    case taken =>
      rw [State.svFor_of_fitting hof hrev hsome hlen hfit, if_neg (by rcases h with h | h | h <;> simp [h])]
      rfl
  case duplicate => exact fun s st sim a h => State.svAsdu_of_dup sim h
  case sample =>
    intro s st sim a h hst hlen hsubs x y sync key gap
    have hy : s.SvLeft st sim a y := State.svLeft_svAsdu sim h hst hlen hsubs
    refine ⟨?key, ?at_, ?low, hy.sync, ?near, ?far, ?unsync, ?run, ?eighth, ?broken⟩
    case key => rw [hy.kept]; rfl
    case at_ => rw [hy.kept]; exact State.now_svGapped st a
    case low => rw [hy.kept]; rfl
    case near => exact hy.near hst
    case far => exact hy.far hst hlen hsubs
    case unsync => exact hy.unsync
    case run => exact fun hsync h => hy.run.trans (State.svRun_of_near st a hsync h)
    case eighth => exact hy.eighth
    case broken => exact fun hin h => hy.out hin (State.svBack_of_broken st a hin h)
  case place =>
    exact fun s st key v sync a e hv hlen hen hst hused he => State.vsmp_svPlace ⟨hen, hst, hused, he⟩ hv hlen
  case publish =>
    intro s q k hq hon hprot hen hothers _ _ hk hnew l put
    rw [State.svPublish_of_one hq hon hprot hen hothers hk hnew]
    refine ⟨State.svpStep_of_short, fun hfull hlead => ?_, fun hfull hlead => ?_⟩
    · exact (State.svpStep_of_full hfull).trans (if_neg (by simp [hlead]))
    · exact (State.svpStep_of_full hfull).trans (if_pos hlead)
  case timeout =>
    intro t st s a x hst hin hkey hon
    rw [exec_svStreamTimeout_eq, if_pos hst, svStreamTimeoutEff_of_live hin hkey hon]
  case drop =>
    intro s st hst hlen
    have hof := State.svOf_svDrop hst hlen
    exact ⟨State.rx_svDrop hst, by rw [hof], by rw [hof]⟩
  case total => exact exec_svReceive_eq
  case totalTimeout => exact exec_svStreamTimeout_eq

end Sys2Proof.Machine

/-!
The Ozaux links (R382 to R388): a link's states, the frames that wait for an ACK, the copies of a frame already accepted.
-/
namespace Sys2Proof.Machine

section
variable {s : State}

/-! ### A link's states (R382, R383, R388) -/

theorem fits_OZX_LSTAT (l : Nat) : (OZX_LSTAT_STATE l).Fits ∧ (OZX_LSTAT_CHG l).Fits ∧ (OZX_LSTAT_CLKIN l).Fits := by
  simp [Field.Fits, OZX_LSTAT_STATE, OZX_LSTAT_CHG, OZX_LSTAT_CLKIN]

theorem apart_OZX_LSTAT (l : Nat) : (OZX_LSTAT_STATE l).Apart (OZX_LSTAT_CHG l) ∧ (OZX_LSTAT_STATE l).Apart (OZX_LSTAT_CLKIN l) := by
  simp [Field.Apart, OZX_LSTAT_STATE, OZX_LSTAT_CHG, OZX_LSTAT_CLKIN]

/-- The registers of the links' states follow that of their configuration and lie before those of the events. -/
theorem OZX_LSTAT_bounds {l : Nat} (hl : l < 2) : OZX_LSTAT l < 0x1A0000 ∧ OZX_CFG ≠ OZX_LSTAT l := by
  unfold OZX_LSTAT OZX_CFG
  omega

section
variable (s) {l st : Nat}

theorem State.linkEnter_of_shown (h : st = 0 ∨ st = 3) :
    s.linkEnter l st = ((s.setF (OZX_LSTAT_STATE l) st).setFlag (OZX_LSTAT_CHG l) true).raise 104 l st :=
  if_pos (by simpa using h)

theorem State.linkEnter_of_silent (h : st = 1 ∨ st = 2) : s.linkEnter l st = s.setF (OZX_LSTAT_STATE l) st :=
  if_neg (by rcases h with rfl | rfl <;> decide)

theorem State.chg_linkEnter (hl : l < 2) (h : st = 0 ∨ st = 3) : (s.linkEnter l st).flag (OZX_LSTAT_CHG l) = true := by
  rw [State.linkEnter_of_shown s h, State.flag_raise _ _ _ _ _ (OZX_LSTAT_bounds hl).1,
    State.flag_setFlag_same _ _ _ (fits_OZX_LSTAT l).2.1 rfl]

theorem State.state_linkEnter (hl : l < 2) (hst : st < 4) : (s.linkEnter l st).getF (OZX_LSTAT_STATE l) = st := by
  have hset : (s.setF (OZX_LSTAT_STATE l) st).getF (OZX_LSTAT_STATE l) = st :=
    (State.getF_setF_same _ _ _ (fits_OZX_LSTAT l).1).trans (Nat.mod_eq_of_lt hst)
  by_cases h : st = 0 ∨ st = 3
  · rw [State.linkEnter_of_shown s h, State.getF_raise _ _ _ _ _ (OZX_LSTAT_bounds hl).1,
      State.getF_setFlag_apart (fits_OZX_LSTAT l).2.1 (apart_OZX_LSTAT l).1, hset]
  · rw [State.linkEnter_of_silent s (by omega), hset]

theorem State.evt_linkEnter_of_silent (h : st = 1 ∨ st = 2) : (s.linkEnter l st).evt = s.evt := by
  rw [State.linkEnter_of_silent s h]
  rfl
end

/-- R382: what a link that falls drops. -/
def State.linkDropped (s : State) (l : Nat) : State :=
  s.setLink l { s.link l with waits := [], sent := none, line := [], reqAt := none, dlys := [], far := false, exchAt := none }

section
variable {l : Nat} {clk : Bool}

theorem State.state_clkin (b : Bool) : (s.setFlag (OZX_LSTAT_CLKIN l) b).getF (OZX_LSTAT_STATE l) = s.getF (OZX_LSTAT_STATE l) :=
  State.getF_setFlag_apart (fits_OZX_LSTAT l).2.2 (apart_OZX_LSTAT l).2 _

theorem State.linkEn_clkin (hl : l < 2) (b : Bool) : (s.setFlag (OZX_LSTAT_CLKIN l) b).linkEn l = s.linkEn l := by
  rw [State.linkEn, State.setFlag, State.getF_of_rd (State.rd_setF_other _ _ _ _ (OZX_LSTAT_bounds hl).2), State.linkEn]

theorem ozLinkDownEff_of_up (hon : s.ozOn = true) (hst : s.getF (OZX_LSTAT_STATE l) ≠ 0) :
    ozLinkDownEff l clk s = ((s.setFlag (OZX_LSTAT_CLKIN l) clk).linkDropped l).linkEnter l 0 := by
  unfold ozLinkDownEff
  rw [if_pos hon]
  exact if_neg (by rwa [State.state_clkin])

theorem ozLinkDownEff_of_down (hst : s.getF (OZX_LSTAT_STATE l) = 0) :
    ozLinkDownEff l clk s = if s.ozOn then s.setFlag (OZX_LSTAT_CLKIN l) clk else s := by
  unfold ozLinkDownEff
  by_cases hon : s.ozOn = true
  · rw [if_pos hon]
    exact if_pos (by rwa [State.state_clkin])
  · rw [if_neg hon]
    exact if_pos hst

theorem ozLinkFallEff_of_kept (h : clk = true ∨ s.ozOn = false ∨ s.getF OZX_CFG_REFSEL ≠ l + 1) :
    ozLinkFallEff l clk s = ozLinkDownEff l clk s :=
  if_neg (by rcases h with h | h | h <;> simp [h])

theorem ozLinkFallEff_of_lost (hclk : clk = false) (hon : s.ozOn = true) (href : s.getF OZX_CFG_REFSEL = l + 1) :
    ozLinkFallEff l clk s = referenceLossEff (ozLinkDownEff l clk s) :=
  if_pos (by simp [hclk, hon, href])

theorem ozClockDetectEff_of_enabled (hl : l < 2) (hon : s.ozOn = true) (hen : s.linkEn l = true) (hst : s.getF (OZX_LSTAT_STATE l) = 0) :
    ozClockDetectEff l s = (s.setFlag (OZX_LSTAT_CLKIN l) true).linkEnter l 1 := by
  unfold ozClockDetectEff
  rw [if_neg (by simp [hon])]
  exact if_pos (by simp [State.linkEn_clkin hl, State.state_clkin, hen, hst])

theorem ozClockDetectEff_of_disabled (hl : l < 2) (hon : s.ozOn = true) (hen : s.linkEn l = false) :
    ozClockDetectEff l s = s.setFlag (OZX_LSTAT_CLKIN l) true := by
  unfold ozClockDetectEff
  rw [if_neg (by simp [hon])]
  exact if_neg (by simp [State.linkEn_clkin hl, hen])

theorem State.paired_linkUp (hl : l < 2) : (s.linkEnter l 2).paired = s.paired := by
  rw [State.linkEnter_of_silent s (.inr rfl), State.paired,
    State.flag_eq_of_getF (State.getF_of_rd (State.rd_setF_other _ _ _ _ (OZX_LSTAT_bounds hl).2)), State.paired]

theorem State.imgDig_linkUp : (s.linkEnter l 2).oz.imgDig = s.oz.imgDig := by
  rw [State.linkEnter_of_silent s (.inr rfl)]
  rfl

theorem ozLinkUpEff_of_aligned (hl : l < 2) (hon : s.ozOn = true) (hst : s.getF (OZX_LSTAT_STATE l) = 1) : ozLinkUpEff l s =
    if l = 0 ∧ s.paired = true then (s.linkEnter l 2).ozSend 0 (.image s.oz.imgDig) else s.linkEnter l 2 := by
  unfold ozLinkUpEff
  rw [if_pos (by simp [hon, hst])]
  dsimp only
  rw [State.paired_linkUp hl, State.imgDig_linkUp]
  simp only [Bool.and_eq_true, decide_eq_true_eq]
end

/-! ### Frames that wait for an ACK (R386) -/

section
variable {l q : Nat}

theorem ackReceiveEff_of_up (hup : s.linkUp l = true) : ackReceiveEff l q s =
    s.setLink l { s.link l with waits := (s.link l).waits.filter (fun w => w.frame.lseq != q) } :=
  if_neg (by simp [hup])

theorem nakReceiveEff_of_up (hup : s.linkUp l = true) : nakReceiveEff l q s = s.ozRetry l q := if_pos hup

/-- R386: a retransmission, counted. -/
def State.ozAgain (s : State) (l q : Nat) (w : OzWait) : State :=
  ((s.setLink l { s.link l with
    waits := (s.link l).waits.map (fun v => if v.frame.lseq = q then { v with tries := v.tries + 1 } else v) }).incSat
      (OZX_LCNT_RETRY l)).ozResend l w.frame

/-- R386: a message dropped, counted. -/
def State.ozLost (s : State) (l q : Nat) : State :=
  (s.setLink l { s.link l with waits := (s.link l).waits.filter (fun v => v.frame.lseq != q), lostSec := some (s.now / secU) }).incSat
    (OZX_LCNT_LOST l)

theorem State.ozRetry_of_none (h : (s.link l).waits.find? (fun w => w.frame.lseq = q) = none) : s.ozRetry l q = s := by
  simp only [State.ozRetry, h]

theorem ackTimeoutEff_of_none (h : (s.link l).waits.find? (fun w => w.frame.lseq = q) = none) : ackTimeoutEff l q s = s := by
  simp only [ackTimeoutEff, h]

section
variable {w : OzWait} (hw : (s.link l).waits.find? (fun w => w.frame.lseq = q) = some w)
include hw

theorem ackTimeoutEff_of_waiting (hup : s.linkUp l = true) :
    ackTimeoutEff l q s = if w.ends + 11200 ≤ s.now then s.ozRetry l q else s := by
  simp only [ackTimeoutEff, hw, hup, Bool.true_and, decide_eq_true_eq]

theorem State.ozRetry_of_few (h : w.tries < 3) : s.ozRetry l q = s.ozAgain l q w := by
  simp only [State.ozRetry, hw, if_pos h]
  rfl

theorem State.ozRetry_of_many (h : 3 ≤ w.tries) : s.ozRetry l q =
    if (s.link l).lostSec = some (s.now / secU) then s.ozLost l q
    else (s.ozLost l q).raise 105 l ((s.ozLost l q).getF (OZX_LCNT_LOST l)) := by
  simp only [State.ozRetry, hw, if_neg (Nat.not_lt.2 h)]
  rfl
end

theorem ozauxCrcErrorEff_of_up {ty : Nat} (hup : s.linkUp l = true) : ozauxCrcErrorEff l ty q s =
    if ty = 1 ∨ ty = 2 ∨ ty = 5 ∨ ty = 6 then (s.incSat (OZX_LCNT_CRCERR l)).ozSend l (.nak q) else s.incSat (OZX_LCNT_CRCERR l) := by
  simp [ozauxCrcErrorEff, hup, or_assoc]

theorem ozauxCrcErrorEff_of_down {ty : Nat} (hup : s.linkUp l = false) : ozauxCrcErrorEff l ty q s = s := if_pos (by simp [hup])

/-- R386: a frame is new unless its LSEQ was accepted in the last 5 µs. -/
theorem State.ozAccept_new : (s.ozAccept l q).1 = true ↔ ∀ e ∈ (s.link l).seen, e.1 ≠ q ∨ e.2 + 5 * usU ≤ s.now := by
  simp [State.ozAccept, or_comm, imp_iff_not_or]
end

/-! ### The commands -/

section
variable (t l lseq : Nat) (s : State)

theorem exec_ozLinkDown_eq (clk : Bool) :
    exec (.ozLinkDown t l clk) s = .next (if l < 2 then ozLinkFallEff l clk (s.at t) else s.at t) := by
  simp [exec_ozLinkDown]

theorem exec_ozClockDetect_eq : exec (.ozClockDetect t l) s = .next (if l < 2 then ozClockDetectEff l (s.at t) else s.at t) := by
  simp [exec_ozClockDetect]

theorem exec_ozLinkUp_eq : exec (.ozLinkUp t l) s = .next (if l < 2 then ozLinkUpEff l (s.at t) else s.at t) := by
  simp [exec_ozLinkUp]

theorem exec_ackReceive_eq :
    exec (.ackReceive t l lseq) s = .next (if l < 2 ∧ lseq < 256 then ackReceiveEff l lseq (s.at t) else s.at t) := by
  simp [exec_ackReceive]

theorem exec_nakReceive_eq :
    exec (.nakReceive t l lseq) s = .next (if l < 2 ∧ lseq < 256 then nakReceiveEff l lseq (s.at t) else s.at t) := by
  simp [exec_nakReceive]

theorem exec_ackTimeout_eq :
    exec (.ackTimeout t l lseq) s = .next (if l < 2 ∧ lseq < 256 then ackTimeoutEff l lseq (s.at t) else s.at t) := by
  simp [exec_ackTimeout]

theorem exec_ozauxCrcError_eq (ty : Nat) : exec (.ozauxCrcError t l ty lseq) s =
    .next (if l < 2 ∧ ty < 256 ∧ lseq < 256 then ozauxCrcErrorEff l ty lseq (s.at t) else s.at t) := by
  simp [exec_ozauxCrcError, and_assoc]
end
end

/-- Settles O34: each command by the branch of its effect, a waiting frame by how often it was sent. -/
theorem ozauxLinks : Obligations.OzauxLinks := by
  unfold Obligations.OzauxLinks
  refine ⟨?falls, ?rests, ?rises, ?enters, ?waits, ?crc, ?copies, ?fallTotal, exec_ozClockDetect_eq, exec_ozLinkUp_eq, exec_ackReceive_eq,
    exec_nakReceive_eq, exec_ackTimeout_eq, ?crcTotal⟩
  case falls =>
    intro t l clk s a r x d hl hon hst
    have hd : ozLinkDownEff l clk a = d := ozLinkDownEff_of_up hon hst
    refine ⟨fun h => ?_, fun hclk href => ?_⟩
    · rw [exec_ozLinkDown_eq, if_pos hl, ozLinkFallEff_of_kept (h.imp_right .inr), hd]
    · rw [exec_ozLinkDown_eq, if_pos hl, ozLinkFallEff_of_lost hclk hon href, hd]
  case rests =>
    intro t l clk s a hl hst h
    rw [exec_ozLinkDown_eq, if_pos hl, ozLinkFallEff_of_kept h, ozLinkDownEff_of_down hst]
  case rises =>
    intro t l s a r hl hon
    rw [exec_ozClockDetect_eq, exec_ozLinkUp_eq, if_pos hl, if_pos hl]
    refine ⟨fun hen hst => ?_, fun hen => ?_, fun hst => ?_⟩
    · rw [ozClockDetectEff_of_enabled hl hon hen hst]
    · rw [ozClockDetectEff_of_disabled hl hon hen]
    · rw [ozLinkUpEff_of_aligned hl hon hst]
  case enters =>
    intro s l st hl hst
    exact ⟨State.state_linkEnter s hl hst, State.chg_linkEnter s hl, State.linkEnter_of_shown s, State.evt_linkEnter_of_silent s⟩
  case waits =>
    intro t l q s a x hl hq hup
    have hrow : l < 2 ∧ q < 256 := ⟨hl, hq⟩
    rw [exec_ackReceive_eq, exec_nakReceive_eq, exec_ackTimeout_eq, if_pos hrow, if_pos hrow, if_pos hrow, ackReceiveEff_of_up hup,
      nakReceiveEff_of_up hup]
    refine ⟨rfl, fun w hw => ?_, fun hw => ?_⟩
    · rw [ackTimeoutEff_of_waiting hw hup]
      refine ⟨fun h => ?_, fun h hsec => ?_, fun h hsec => ?_⟩
      · rw [State.ozRetry_of_few hw h]
        exact ⟨rfl, rfl⟩
      · rw [State.ozRetry_of_many hw h, if_pos hsec]
        exact ⟨rfl, rfl⟩
      · rw [State.ozRetry_of_many hw h, if_neg hsec]
        exact ⟨rfl, rfl⟩
    · rw [State.ozRetry_of_none hw, ackTimeoutEff_of_none hw]
      exact ⟨rfl, rfl⟩
  case crc =>
    intro t l ty q s a hl hty hq
    rw [exec_ozauxCrcError_eq, if_pos ⟨hl, hty, hq⟩]
    refine ⟨fun hup h => ?_, fun hup h1 h2 h5 h6 => ?_, fun hup => ?_⟩
    · rw [ozauxCrcErrorEff_of_up hup, if_pos h]
    · rw [ozauxCrcErrorEff_of_up hup, if_neg (by simp [h1, h2, h5, h6])]
    · rw [ozauxCrcErrorEff_of_down hup]
  case copies =>
    intro s l q hl hlen
    refine ⟨fun ⟨e, he, hq, hlive⟩ => ?_, State.ozAccept_new.2⟩
    rw [← Bool.not_eq_true, State.ozAccept_new]
    exact fun h => (h e he).elim (fun hne => hne hq) (fun hold => Nat.not_le.2 hlive hold)
  case fallTotal => exact fun t l clk s => exec_ozLinkDown_eq t l s clk
  case crcTotal => exact fun t l ty lseq s => exec_ozauxCrcError_eq t l lseq s ty

end Sys2Proof.Machine

/-!
Delay exchanges, TIME and TRIG messages (R389 to R393).
-/
namespace Sys2Proof.Machine

section
variable {s : State}

/-! ### The delay exchange (R389) -/

/-- R389: the start of an exchange, with its DLY_REQ. -/
def State.exchBegun (s : State) (l : Nat) : State := (s.setLink l { s.link l with exchAt := some s.now }).ozSend l (.dlyReq 0)

/-- The sampling time the TIME message of an exchange carries. -/
def State.exchTime (s : State) (l : Nat) : Nat × Nat × Nat := splitTime (s.sampAt (ozFree s.now (s.link l).line))

section
variable {l : Nat}

theorem delayExchangeEff_of_due (hup : s.linkUp l = true) (hdue : s.exchDue l = true) : delayExchangeEff l s =
    (s.exchBegun l).ozSend l (.time ((s.exchBegun l).exchTime l).2.1 (((s.exchBegun l).exchTime l).1 % 65536) (s.exchBegun l).sampQual) :=
  if_neg (by simp [hup, hdue])

theorem delayExchangeEff_of_early (h : s.exchDue l = false) : delayExchangeEff l s = s := if_pos (by simp [h])
end

/-! ### The answer to a delay request (R389) -/

section
variable (s) (l : Nat)

/-- R389: the request of a link is answered. -/
def State.reqDone : State := s.setLink l { s.link l with reqAt := none }

/-- R389: a link's measurement is taken into its mean. -/
def State.dlyTaken (ds : List Nat) : State :=
  ((s.reqDone l).setF (OZX_LDLY_DLY l) (satAt 0xFFFE (meanDly ds))).setLink l
    { (s.reqDone l).link l with dlys := ds, far := decide (400 < meanDly ds) }

/-- R389: the link's measured delay: half of the round trip less the turnaround. -/
def State.dlyMeasured (u turn : Nat) : Nat := ((s.now - u) / 4 - turn) / 2
end

theorem fits_OZX_LDLY (l : Nat) : (OZX_LDLY_DLY l).Fits := by simp [Field.Fits, OZX_LDLY_DLY]

theorem OZX_LDLY_bounds {l : Nat} (hl : l < 2) : OZX_LDLY l < 0x1A0000 ∧ OZX_LDLY l ≠ OZX_LSTAT l := by
  unfold OZX_LDLY OZX_LSTAT
  omega

/-- R389: an accepted measurement: the mean, event 106 for a link that goes far, READY with the eighth of a near one. -/
def State.dlyAccepted (s : State) (l d : Nat) : State :=
  let ds := (d :: (s.link l).dlys).take 8
  let far := decide (400 < meanDly ds)
  let t := s.dlyTaken l ds
  let t := if far && !(s.link l).far then t.raise 106 l (t.getF (OZX_LDLY_DLY l)) else t
  if far then (if t.linkReady l then t.setF (OZX_LSTAT_STATE l) 2 else t)
  else if ds.length = 8 && !t.linkReady l then t.linkEnter l 3
  else t

section
variable {l u turn : Nat} (hreq : (s.link l).reqAt = some u) (hup : s.linkUp l = true)
include hreq hup

theorem dlyRespReceiveEff_of_open : dlyRespReceiveEff l turn s =
    if !(s.link l).dlys.isEmpty && 20 < absN ((s.dlyMeasured u turn : Int) - (meanDly (s.link l).dlys : Int)) then
      (s.reqDone l).incSat (OZX_LCNT_DLYDISC l)
    else s.dlyAccepted l (s.dlyMeasured u turn) := by
  have hdone : (s.reqDone l).linkUp l = true := hup
  unfold dlyRespReceiveEff
  simp only [hreq, hup, if_true]
  rw [if_neg (by rw [← State.reqDone, hdone]; decide)]
  rfl

theorem dlyRespReceiveEff_of_wild (hsome : (s.link l).dlys ≠ [])
    (h : 20 < absN ((s.dlyMeasured u turn : Int) - (meanDly (s.link l).dlys : Int))) :
    dlyRespReceiveEff l turn s = (s.reqDone l).incSat (OZX_LCNT_DLYDISC l) := by
  rw [dlyRespReceiveEff_of_open hreq hup, if_pos (by simp [hsome, h])]

theorem dlyRespReceiveEff_of_tame
    (h : (s.link l).dlys = [] ∨ absN ((s.dlyMeasured u turn : Int) - (meanDly (s.link l).dlys : Int)) ≤ 20) :
    dlyRespReceiveEff l turn s = s.dlyAccepted l (s.dlyMeasured u turn) := by
  rw [dlyRespReceiveEff_of_open hreq hup, if_neg (by rcases h with h | h <;> simp [h])]
end

section
variable {l d : Nat}

/-- R389: a measurement that leaves the link near: READY with its eighth. -/
theorem State.dlyAccepted_of_near (h : meanDly ((d :: (s.link l).dlys).take 8) ≤ 400) : s.dlyAccepted l d =
    if ((d :: (s.link l).dlys).take 8).length = 8 ∧ (s.dlyTaken l ((d :: (s.link l).dlys).take 8)).linkReady l = false then
      (s.dlyTaken l ((d :: (s.link l).dlys).take 8)).linkEnter l 3
    else s.dlyTaken l ((d :: (s.link l).dlys).take 8) := by
  have hfar : decide (400 < meanDly ((d :: (s.link l).dlys).take 8)) = false := decide_eq_false (Nat.not_lt.2 h)
  unfold State.dlyAccepted
  dsimp only
  rw [hfar]
  simp only [Bool.false_and, Bool.false_eq_true, if_false, Bool.and_eq_true, decide_eq_true_eq, Bool.not_eq_true']

theorem State.oz_linkEnter (s : State) (l st : Nat) : (s.linkEnter l st).oz = s.oz := by
  simp only [State.linkEnter_frame]

theorem State.rd_linkEnter_other (s : State) (l st : Nat) {x : Nat} (hx : x ≠ OZX_LSTAT l) (hlow : x < 0x1A0000) :
    (s.linkEnter l st).rd x = s.rd x := by
  have hset (f : Field) (hf : f.addr = OZX_LSTAT l) (v : Nat) (s : State) : (s.setF f v).rd x = s.rd x :=
    State.rd_setF_other _ _ _ _ (hf ▸ hx)
  unfold State.linkEnter
  dsimp only
  split
  · rw [State.rd_raise _ _ _ _ _ hlow, State.setFlag, hset _ rfl, hset _ rfl]
  · exact hset _ rfl _ _

theorem State.dly_dlyTaken {ds : List Nat} (h : meanDly ds ≤ 400) : (s.dlyTaken l ds).getF (OZX_LDLY_DLY l) = meanDly ds := by
  have hset (v : Nat) : ((s.reqDone l).setF (OZX_LDLY_DLY l) v).getF (OZX_LDLY_DLY l) = v % 2 ^ 16 :=
    State.getF_setF_same _ _ _ (fits_OZX_LDLY l)
  refine (hset _).trans ?_
  unfold satAt
  rw [if_pos (by omega), Nat.mod_eq_of_lt (by omega)]

theorem State.links_dlyTaken (ds : List Nat) : (s.dlyTaken l ds).oz.links =
    lset (s.reqDone l).oz.links l { (s.reqDone l).link l with dlys := ds, far := decide (400 < meanDly ds) } := rfl

section
variable (hl : l < 2) (hlen : s.oz.links.length = 2)
include hl hlen

theorem State.link_reqDone : (s.reqDone l).link l = { s.link l with reqAt := none } := lget_lset_same _ _ _ _ (by omega)

theorem State.link_dlyTaken (ds : List Nat) :
    ((s.dlyTaken l ds).link l).dlys = ds ∧ ((s.dlyTaken l ds).link l).reqAt = none := by
  have hdone : (s.reqDone l).oz.links.length = 2 := (lset_length ..).trans hlen
  rw [State.link, State.links_dlyTaken, lget_lset_same _ _ _ _ (by omega), State.link_reqDone hl hlen]
  exact ⟨rfl, rfl⟩

/-- R389: what an accepted measurement near the mean leaves. -/
theorem State.dlyAccepted_leaves (h : meanDly ((d :: (s.link l).dlys).take 8) ≤ 400) :
    let ds := (d :: (s.link l).dlys).take 8
    (s.dlyAccepted l d).getF (OZX_LDLY_DLY l) = meanDly ds ∧ ((s.dlyAccepted l d).link l).dlys = ds ∧
      ((s.dlyAccepted l d).link l).reqAt = none ∧ ((s.link l).dlys.length < 7 → (s.dlyAccepted l d).evt = s.evt) := by
  obtain ⟨hlow, hne⟩ := OZX_LDLY_bounds hl
  obtain ⟨hdlys, hreq⟩ := State.link_dlyTaken hl hlen ((d :: (s.link l).dlys).take 8)
  have hdly := State.dly_dlyTaken (s := s) (l := l) h
  rw [State.dlyAccepted_of_near h]
  split
  case isTrue hfull =>
    refine ⟨?_, ?_, ?_, fun hfew => ?_⟩
    · rw [State.getF_of_rd (State.rd_linkEnter_other _ l 3 hne hlow), hdly]
    · rw [State.link, State.oz_linkEnter, ← State.link, hdlys]
    · rw [State.link, State.oz_linkEnter, ← State.link, hreq]
    · have height := hfull.1
      simp at height
      omega
  case isFalse => exact ⟨hdly, hdlys, hreq, fun _ => rfl⟩
end
end

/-! ### TIME messages (R393) -/

theorem timeReceiveEff_of_up {l ns sec q : Nat} (hon : s.timeOn = true) (hup : s.linkUp l = true) : timeReceiveEff l ns sec q s =
    (upto 4).foldl (fun s b =>
      if s.followsLink b l = false then s
      else if 2 ≤ q / 16 % 4 then s.srcLost b
      else s.servoUpdate b (nearest (65536 * subPerSec) (((sec * 1000000000 + ns : Nat) : Int) * 65536 +
        ((s.linkDly l : Nat) : Int) * 16384) (s.tbAt b s.now) - s.tbAt b s.now) (q % 16)) s := by
  unfold timeReceiveEff
  rw [if_neg (by simp [hon, hup])]
  simp only [Bool.not_eq_true']

/-- R393: the loss of a base's source after `n` without an update; written for every `n`, as the kernel unfolds a numeral here. -/
theorem State.srcLost_after (b n : Nat) (o : Option Nat) :
    (match o with
      | some t => if s.tbSrc b = 5 && t + n ≤ s.now then s.srcLost b else s
      | none => s) =
    if s.tbSrc b = 5 ∧ o.any (fun u => decide (u + n ≤ s.now)) = true then s.srcLost b else s := by
  cases o with
  | none => exact (if_neg (by simp)).symm
  | some u => simp only [Option.any_some, Bool.and_eq_true, decide_eq_true_eq]

theorem partnerTimeLossEff_of_on (hon : s.timeOn = true) : partnerTimeLossEff s = (upto 4).foldl (fun s b =>
    if s.tbSrc b = 5 ∧ (s.tb b).lastUpd.any (fun u => decide (u + 3 * msU ≤ s.now)) = true then s.srcLost b else s) s := by
  unfold partnerTimeLossEff
  rw [if_neg (by simp [hon])]
  refine congrArg (fun f => (upto 4).foldl f s) ?_
  funext s b
  exact State.srcLost_after b _ _

/-! ### TRIG messages (R390 to R392) -/

section
variable {l q id hops orig age ns sec : Nat}

section
variable (hup : s.linkUp l = true)
include hup

theorem ozTrigReceiveEff_of_copy (h : (s.ozAccept l q).1 = false) :
    ozTrigReceiveEff l q id hops orig age ns sec s = (s.ozAccept l q).2 := by
  simp [ozTrigReceiveEff, hup, h]

theorem ozTrigReceiveEff_of_new (h : (s.ozAccept l q).1 = true) (hdom : (s.ozAccept l q).2.linkDom l = true) :
    ozTrigReceiveEff l q id hops orig age ns sec s =
      if orig = (s.ozAccept l q).2.getF OZX_CFG_ENGID then ((s.ozAccept l q).2.incSat OZX_TCNT_LOOP).raise 108 l id
      else (s.ozAccept l q).2.trigTake l id hops orig age ns sec := by
  simp [ozTrigReceiveEff, hup, h, hdom]
end

section
variable (s) (l id hops orig age ns sec)

/-- R391: a TRIG message, forwarded on the other link where that is READY and of the domain and hops are left. -/
def State.trigPassed : State :=
  let o := 1 - l
  let m (n : Nat) : OzMsg := .trig id (hops - 1) orig n ns sec
  if 0 < hops ∧ s.linkDom o = true ∧ s.linkReady o = true then
    s.ozSend o (m ((age + (s.linkDly l + 2) / 4 + (s.ozUrgentAt o (m age) + 5200 - s.now + 8) / 16) % 4096))
  else s

/-- R392: when a TRIG message is to be delivered. -/
def State.trigDue : Int := (s.now : Int) - 5200 + 64000 - ((16 * age + 4 * s.linkDly l : Nat) : Int)

theorem State.now_trigPassed : (s.trigPassed l id hops orig age ns sec).now = s.now := by
  unfold State.trigPassed
  dsimp only
  split
  · simp only [State.ozSend_frame]
  · rfl

theorem State.trigTake_eq : s.trigTake l id hops orig age ns sec =
    let u := s.trigPassed l id hops orig age ns sec
    let t : OzTrig := ⟨id, (s.trigDue l age).toNat, ns, sec, true⟩
    if s.trigDue l age < (s.now : Int) then ((u.ozDeliver t).incSat OZX_TCNT_LATE).raise 107 l id
    else { u with oz := { u.oz with trigs := u.oz.trigs ++ [t] } } := by
  have hpass : (if 0 < hops && s.linkDom (1 - l) && s.linkReady (1 - l) then
      s.ozSend (1 - l) (.trig id (hops - 1) orig (s.trigAge (1 - l) age (s.linkDly l) (.trig id (hops - 1) orig age ns sec)) ns sec)
      else s) = s.trigPassed l id hops orig age ns sec := by
    simp only [State.trigPassed, State.trigAge, Bool.and_eq_true, decide_eq_true_eq, and_assoc]
  simp only [State.trigTake]
  rw [hpass, State.now_trigPassed]
  rfl
end
end

theorem ozTrigDeliveryEff_of_on (hon : s.ozOn = true) : ozTrigDeliveryEff s =
    (s.oz.trigs.filter (fun t => decide (t.at_ ≤ s.now))).foldl (fun s t => s.ozDeliver t)
      { s with oz := { s.oz with trigs := s.oz.trigs.filter (fun t => decide (s.now < t.at_)) } } :=
  if_neg (by simp [hon])

/-! ### The commands -/

section
variable (t l : Nat) (s : State)

theorem exec_delayExchange_eq : exec (.delayExchange t l) s = .next (if l < 2 then delayExchangeEff l (s.at t) else s.at t) := by
  simp [exec_delayExchange]

theorem exec_dlyReqReceive_eq (word : Nat) :
    exec (.dlyReqReceive t l word) s = .next (if l < 2 then dlyReqReceiveEff l (s.at t) else s.at t) := by
  simp [exec_dlyReqReceive]

theorem exec_dlyRespReceive_eq (turn : Nat) :
    exec (.dlyRespReceive t l turn) s = .next (if l < 2 then dlyRespReceiveEff l turn (s.at t) else s.at t) := by
  simp [exec_dlyRespReceive]

theorem exec_timeReceive_eq (ns sec q : Nat) : exec (.timeReceive t l ns sec q) s =
    .next (if l < 2 ∧ ns < 1000000000 ∧ sec < 65536 ∧ q < 256 then timeReceiveEff l ns sec q (s.at t) else s.at t) := by
  simp [exec_timeReceive, and_assoc]

theorem exec_ozTrigReceive_eq (lseq id hops orig age ns sec top : Nat) : exec (.ozTrigReceive t l lseq id hops orig age ns sec top) s =
    .next (if l < 2 ∧ lseq < 256 ∧ id < 16 ∧ hops < 8 ∧ orig < 8 ∧ age < 4096 ∧ ns < 1000000000 ∧ sec < 256 ∧ top < 16 then
      ozTrigReceiveEff l lseq id hops orig age ns sec (s.at t) else s.at t) := by
  simp [exec_ozTrigReceive, and_assoc]
end
end

/-- Settles O35: each command by the branch of its effect, a measurement by what the mean leaves of it, a TRIG message by its
due instant. -/
theorem ozauxTimeAndTriggers : Obligations.OzauxTimeAndTriggers := by
  unfold Obligations.OzauxTimeAndTriggers
  refine ⟨?exchange, ?request, ?wild, ?near, ?time, ?loss, ?trig, ?take, ?delivery, exec_partnerTimeLoss, exec_delayExchange_eq,
    ?reqTotal, ?respTotal, ?trigTotal, exec_ozTrigDelivery, ?timeTotal⟩
  case exchange =>
    intro t l s a r v hl hup
    rw [exec_delayExchange_eq, if_pos hl]
    refine ⟨fun hdue => ?_, fun hdue => ?_⟩
    · rw [delayExchangeEff_of_due hup hdue]
      rfl
    · rw [delayExchangeEff_of_early hdue]
  case request =>
    intro t l word s a hl
    rw [exec_dlyReqReceive_eq, if_pos hl]
    rfl
  case wild =>
    intro t l turn u s a x d hl hreq hup hsome h
    rw [exec_dlyRespReceive_eq, if_pos hl, dlyRespReceiveEff_of_wild hreq hup hsome h]
    rfl
  case near =>
    intro t l turn u s a x d m hl hlen hreq hup h hm
    refine ⟨_, ?_, State.dlyAccepted_leaves hl hlen hm⟩
    rw [exec_dlyRespReceive_eq, if_pos hl, dlyRespReceiveEff_of_tame hreq hup h]
    rfl
  case time =>
    intro t l ns sec q s a hl hns hsec hq hon hup
    rw [exec_timeReceive_eq, if_pos ⟨hl, hns, hsec, hq⟩, timeReceiveEff_of_up hon hup]
  case loss =>
    intro t s a hon
    rw [exec_partnerTimeLoss, partnerTimeLossEff_of_on hon]
  case trig =>
    intro t l q id hops orig age ns sec top s a r hl hq hid hhops horig hage hns hsec htop hup
    rw [exec_ozTrigReceive_eq, if_pos ⟨hl, hq, hid, hhops, horig, hage, hns, hsec, htop⟩]
    refine ⟨fun hcopy => ?_, fun hnew hdom hown => ?_, fun hnew hdom hother => ?_⟩
    · rw [ozTrigReceiveEff_of_copy hup hcopy]
    · rw [ozTrigReceiveEff_of_new hup hnew hdom, if_pos hown]
    · rw [ozTrigReceiveEff_of_new hup hnew hdom, if_neg hother]
  case take =>
    intro s l id hops orig age ns sec o dly due m u
    rw [State.trigTake_eq]
    exact ⟨fun h => if_neg (not_lt.2 h), fun h => if_pos h⟩
  case delivery =>
    intro t s a hon
    rw [exec_ozTrigDelivery, ozTrigDeliveryEff_of_on hon]
  case reqTotal => exact fun t l word s => exec_dlyReqReceive_eq t l s word
  case timeTotal => exact fun t l ns sec q s => exec_timeReceive_eq t l s ns sec q
  case respTotal => exact fun t l turn s => exec_dlyRespReceive_eq t l s turn
  case trigTotal => exact fun t l lseq id hops orig age ns sec top s => exec_ozTrigReceive_eq t l s lseq id hops orig age ns sec top

end Sys2Proof.Machine

/-!
The redundant pair (R395 to R402): the lead duties, heartbeats, digests, images.
-/
namespace Sys2Proof.Machine

section
variable {s : State}

/-! ### The lead duties (R395, R398) -/

theorem fits_OZX_PSTAT : OZX_PSTAT_HOLDS.Fits ∧ OZX_PSTAT_PARTNER_OK.Fits ∧ OZX_PSTAT_DUAL_SEEN.Fits ∧ OZX_PCNT_HBLOST.Fits := by
  simp [Field.Fits, OZX_PSTAT_HOLDS, OZX_PSTAT_PARTNER_OK, OZX_PSTAT_DUAL_SEEN, OZX_PCNT_HBLOST]

theorem apart_OZX_PSTAT_HOLDS : OZX_PSTAT_HOLDS.Apart OZX_PSTAT_PARTNER_OK ∧ OZX_PSTAT_HOLDS.Apart OZX_PSTAT_DUAL_SEEN ∧
    OZX_PSTAT_HOLDS.Apart OZX_PCNT_HBLOST := by
  simp [Field.Apart, OZX_PSTAT_HOLDS, OZX_PSTAT_PARTNER_OK, OZX_PSTAT_DUAL_SEEN, OZX_PCNT_HBLOST, OZX_PSTAT, OZX_PCNT]

/-- The registers of GOOSE lie before those of the pair. -/
theorem State.rd_gooseNew_pair (s : State) {n : Nat} (hn : n < 32) (v : Nat) : (s.gooseNew n v).rd OZX_PSTAT = s.rd OZX_PSTAT := by
  have hne : OZX_PSTAT ≠ GSV_PSTNUM n ∧ OZX_PSTAT ≠ GSV_PSQNUM n ∧ OZX_PSTAT ≠ GSV_PCNT n := by
    unfold OZX_PSTAT GSV_PSTNUM GSV_PSQNUM GSV_PCNT
    omega
  obtain ⟨hst, hsq, hcnt⟩ := hne
  rw [State.gooseNew_eq, State.rd_gooseSend _ _ (by decide) hcnt, State.rd_gooseBegun _ _ _ hst hsq]

theorem State.rd_goosePublish_pair (s : State) : s.goosePublish.rd OZX_PSTAT = s.rd OZX_PSTAT := by
  refine State.rd_foldl _ _ _ _ fun n hn s => ?_
  split
  · exact s.rd_gooseNew_pair (List.mem_range.1 hn) _
  · rfl

theorem State.rd_gooseStop (s : State) (x : Nat) : s.gooseStop.rd x = s.rd x :=
  State.rd_foldl _ _ _ _ fun _ _ _ => rfl

theorem State.leads_of_rd {a b : State} (h : a.rd OZX_PSTAT = b.rd OZX_PSTAT) : a.leads = b.leads :=
  State.flag_eq_of_getF (State.getF_of_rd h)

theorem State.leads_setHolds (s : State) (b : Bool) : (s.setFlag OZX_PSTAT_HOLDS b).leads = b :=
  State.flag_setFlag_same _ _ _ fits_OZX_PSTAT.1 rfl

theorem State.leads_takeDuties (s : State) : s.takeDuties.leads = true := by
  unfold State.takeDuties
  dsimp only
  split
  · rw [State.leads_of_rd (State.rd_goosePublish_pair _), State.leads_setHolds]
  · exact State.leads_setHolds ..

theorem State.leads_releaseDuties (s : State) : s.releaseDuties.leads = false :=
  (State.leads_of_rd (State.rd_gooseStop _ _)).trans (State.leads_setHolds ..)

/-! ### The partner's heartbeats (R396, R397) -/

/-- R397: the partner's heartbeats are missing: shown and counted. -/
def State.partnerLost (s : State) : State := (s.setFlag OZX_PSTAT_PARTNER_OK false).incSat OZX_PCNT_HBLOST

theorem State.leads_partnerLost : s.partnerLost.leads = s.leads := by
  obtain ⟨hok, -, hlost⟩ := apart_OZX_PSTAT_HOLDS
  have hshown : (s.setFlag OZX_PSTAT_PARTNER_OK false).leads = s.leads := State.flag_setFlag_apart fits_OZX_PSTAT.2.1 hok _
  rw [← hshown]
  exact State.flag_eq_of_getF (State.getF_incSat_apart fits_OZX_PSTAT.2.2.2 hlost)

theorem partnerOkTimeoutEff_of_missing {h : Nat} (hon : s.ozOn = true) (hat : s.oz.hbAt = some h)
    (hok : s.flag OZX_PSTAT_PARTNER_OK = true) (hlate : h + 281600 ≤ s.now) : partnerOkTimeoutEff s =
      if s.protecting = true ∧ s.leads = false then
        (((s.partnerLost.incSat OZX_PCNT_TAKEOVER).raise 5 0
          ((s.partnerLost.incSat OZX_PCNT_TAKEOVER).getF OZX_PCNT_TAKEOVER)).takeDuties)
      else s.partnerLost := by
  have hcond : (s.partnerLost.protecting && !s.partnerLost.leads) = (s.protecting && !s.leads) := by
    rw [State.leads_partnerLost]
    rfl
  unfold partnerOkTimeoutEff
  simp only [hat]
  rw [if_pos (by simp [hon, hok, hlate]), ← State.partnerLost, hcond]
  simp only [Bool.and_eq_true, Bool.not_eq_true']

/-- R396: the heartbeat of this fast tick is no longer due. -/
def State.hbTaken (s : State) : State := { s with oz := { s.oz with hbDue := none } }

/-- R396: the engine's heartbeat is sent. -/
def State.heartbeatSent (s : State) : State :=
  let n := (s.oz.tick + 1) % 4294967296
  ({ s with oz := { s.oz with tick := n } } : State).ozSend 0
    (.heartbeat n s.podOkBits (s.mode == Mode.test) s.leads (b2n s.sys.straps.partner))

theorem heartbeatSendEff_of_ready (hpair : s.paired = true) (hprot : s.protecting = true) (hready : s.hbReady = true) :
    heartbeatSendEff s = (if s.oz.relNext then s.hbTaken.releaseDuties else s.hbTaken).heartbeatSent :=
  if_neg (by simp [hpair, hprot, hready])

theorem heartbeatSendEff_of_due {d : Nat} (hpair : s.paired = true) (hprot : s.protecting = true) (hdue : s.oz.hbDue = some d)
    (hrel : s.oz.relNext = false) : heartbeatSendEff s = if s.now < d then s else s.hbTaken.heartbeatSent := by
  have hready : s.hbReady = decide (d ≤ s.now) := by simp only [State.hbReady, hdue]
  by_cases h : s.now < d
  · rw [if_pos h]
    exact if_pos (by simp [hready, h])
  · rw [if_neg h, heartbeatSendEff_of_ready hpair hprot (by simpa [hready] using h), hrel, if_neg Bool.false_ne_true]

theorem heartbeatSendEff_of_sent (hdue : s.oz.hbDue = none) : heartbeatSendEff s = s :=
  if_pos (by simp [State.hbReady, hdue])

/-- R396: a good heartbeat is shown. -/
def State.partnerShown (s : State) (pk : Nat) (test holds : Bool) : State :=
  (((({ s with oz := { s.oz with hbAt := some s.now, hbHeld := s.oz.hbHeld || holds, waitFrom := none } } : State).setFlag
    OZX_PSTAT_PARTNER_OK true).setFlag OZX_PSTAT_P_HOLDS holds).setFlag OZX_PSTAT_P_TEST test).setF OZX_PSTAT_P_PODOK pk

theorem heartbeatReceiveEff_of_new {q pk : Nat} {test holds : Bool} (hpair : s.paired = true) (hup : s.linkUp 0 = true)
    (hnew : (s.ozAccept 0 q).1 = true) :
    heartbeatReceiveEff q pk test holds s = ((s.ozAccept 0 q).2.partnerShown pk test holds).settleDuties test holds := by
  simp only [heartbeatReceiveEff, hpair, hup, hnew]
  rfl

section
variable {test : Bool}

theorem State.settleDuties_of_both (h : s.leads = true) : s.settleDuties test true =
    if ((s.setFlag OZX_PSTAT_DUAL_SEEN true).raise 6 0 0).sys.straps.partner then
      ((s.setFlag OZX_PSTAT_DUAL_SEEN true).raise 6 0 0).releaseDuties
    else { (s.setFlag OZX_PSTAT_DUAL_SEEN true).raise 6 0 0 with
      gsv := { ((s.setFlag OZX_PSTAT_DUAL_SEEN true).raise 6 0 0).gsv with
        gcbInts := ((s.setFlag OZX_PSTAT_DUAL_SEEN true).raise 6 0 0).gsv.gcbInts.map (fun g => { g with bump := true }) } } :=
  if_pos (by simp [h])

theorem State.dualSeen_leaves (s : State) : ((s.setFlag OZX_PSTAT_DUAL_SEEN true).raise 6 0 0).sys = s.sys ∧
    ((s.setFlag OZX_PSTAT_DUAL_SEEN true).raise 6 0 0).gsv = s.gsv ∧
    ((s.setFlag OZX_PSTAT_DUAL_SEEN true).raise 6 0 0).leads = s.leads := by
  refine ⟨by simp only [State.raise_frame, State.setFlag_frame], by rw [State.gsv_raise, State.gsv_setFlag], ?_⟩
  rw [State.leads_of_rd (State.rd_raise _ _ _ _ _ (by decide))]
  exact State.flag_setFlag_apart fits_OZX_PSTAT.2.2.1 apart_OZX_PSTAT_HOLDS.2.1 _

theorem State.settleDuties_of_partner (h : s.leads = true) (hp : s.sys.straps.partner = true) :
    s.settleDuties test true = ((s.setFlag OZX_PSTAT_DUAL_SEEN true).raise 6 0 0).releaseDuties := by
  rw [State.settleDuties_of_both h, if_pos (by rw [(State.dualSeen_leaves s).1, hp])]

/-- R397: the LEAD keeps the duties and publishes anew. -/
theorem State.settleDuties_of_lead (h : s.leads = true) (hp : s.sys.straps.partner = false) :
    (s.settleDuties test true).leads = true ∧
      (s.settleDuties test true).gsv = { s.gsv with gcbInts := s.gsv.gcbInts.map (fun g => { g with bump := true }) } := by
  obtain ⟨hsys, hgsv, hleads⟩ := State.dualSeen_leaves s
  rw [State.settleDuties_of_both h, if_neg (by rw [hsys, hp]; decide)]
  exact ⟨hleads.trans h, by rw [hgsv]⟩

theorem State.settleDuties_of_follower (h : s.leads = false) : s.settleDuties test true = s := by
  simp [State.settleDuties, h]

theorem State.settleDuties_of_none (h : s.leads = false) : s.settleDuties test false =
    if s.mode = .run ∧ (test = true ∨ s.sys.straps.partner = false) then s.takeDuties else s := by
  simp [State.settleDuties, h]

theorem State.settleDuties_of_sole (h : s.leads = true) : s.settleDuties test false = s := by
  simp [State.settleDuties, h]
end

/-- R399: the end of PAIR_WAIT, counted in units of `m`; written for every `m`, as the kernel unfolds a numeral here. -/
theorem State.pairWait_over {w m : Nat} (hw : s.oz.waitFrom = some w) (hprot : s.protecting = true)
    (hlate : w + s.getF OZX_PCFG_PAIR_WAIT * m ≤ s.now) :
    (match s.oz.waitFrom with
      | none => s
      | some t =>
        if s.protecting && t + s.getF OZX_PCFG_PAIR_WAIT * m ≤ s.now then
          let s := { s with oz := { s.oz with waitFrom := none } }
          if s.leads then s else s.takeDuties
        else s) =
      if s.leads then { s with oz := { s.oz with waitFrom := none } }
      else ({ s with oz := { s.oz with waitFrom := none } } : State).takeDuties := by
  rw [hw]
  exact if_pos (by simp [hprot, hlate])

theorem pairWaitExpiryEff_of_waited {w : Nat} (hw : s.oz.waitFrom = some w) (hprot : s.protecting = true)
    (hlate : w + s.getF OZX_PCFG_PAIR_WAIT * msU ≤ s.now) : pairWaitExpiryEff s =
      if s.leads then { s with oz := { s.oz with waitFrom := none } }
      else ({ s with oz := { s.oz with waitFrom := none } } : State).takeDuties :=
  State.pairWait_over hw hprot hlate

/-! ### Digests, sequence numbers, images (R395, R401, R402) -/

/-- R401: a digest that differs, counted. -/
def State.digestDiffers (s : State) : State := ({ s with oz := { s.oz with mism := s.oz.mism + 1 } } : State).incSat OZX_PCNT_DIGCNT

theorem stateReceiveEff_of_found {d ns : Nat} {e : Nat × Nat} (hpair : s.paired = true) (hup : s.linkUp 0 = true)
    (he : s.oz.digs.find? (fun e => s.tauNear e.2 ns) = some e) : stateReceiveEff d ns s =
      if e.1 = d then { s with oz := { s.oz with mism := 0 } }
      else if s.oz.mism + 1 = s.digestDiffers.getF OZX_PCFG_DIG_N then
        (s.digestDiffers.setFlag OZX_PSTAT_DIGMM true).raise 7 0 ((s.digestDiffers.setFlag OZX_PSTAT_DIGMM true).getF OZX_PCNT_DIGCNT)
      else s.digestDiffers := by
  have hcnt : (s.digestDiffers.setFlag OZX_PSTAT_DIGMM true).getF OZX_PCNT_DIGCNT = s.digestDiffers.getF OZX_PCNT_DIGCNT :=
    State.getF_of_rd (State.rd_setF_other _ _ _ _ (by decide))
  rw [hcnt]
  unfold stateReceiveEff
  rw [if_neg (by simp [hpair, hup])]
  simp only [he]
  rfl

section
variable {q : Nat} (hpair : s.paired = true) (hup : s.linkUp 0 = true) (hnew : (s.ozAccept 0 q).1 = true)
include hpair hup hnew

theorem pubseqReceiveEff_of_new (cb st : Nat) : pubseqReceiveEff q cb st s =
    { (s.ozAccept 0 q).2 with oz := { (s.ozAccept 0 q).2.oz with pubSeq := lset (s.ozAccept 0 q).2.oz.pubSeq cb (some st) } } := by
  simp [pubseqReceiveEff, hpair, hup, hnew]

theorem imageReceiveEff_of_new (dig : Nat) : imageReceiveEff q dig s =
    if dig = (s.ozAccept 0 q).2.oz.imgDig then (s.ozAccept 0 q).2.setFlag OZX_PSTAT_IMGDIFF false
    else ((s.ozAccept 0 q).2.setFlag OZX_PSTAT_IMGDIFF true).raise 8 0 (dig % 4294967296) := by
  simp [imageReceiveEff, hpair, hup, hnew]
end

/-! ### The commands -/

section
variable (t : Nat) (s : State)

theorem exec_heartbeatReceive_eq (q pk : Nat) (test holds : Bool) : exec (.heartbeatReceive t q pk test holds) s =
    .next (if q < 256 ∧ pk < 8 then heartbeatReceiveEff q pk test holds (s.at t) else s.at t) := by
  simp [exec_heartbeatReceive]

theorem exec_stateReceive_eq (d ns : Nat) :
    exec (.stateReceive t d ns) s = .next (if ns < 1000000000 then stateReceiveEff d ns (s.at t) else s.at t) := by
  simp [exec_stateReceive]

theorem exec_pubseqReceive_eq (q cb st : Nat) : exec (.pubseqReceive t q cb st) s =
    .next (if q < 256 ∧ cb < 32 ∧ st < 4294967296 then pubseqReceiveEff q cb st (s.at t) else s.at t) := by
  simp [exec_pubseqReceive, and_assoc]

theorem exec_imageReceive_eq (q dig : Nat) : exec (.imageReceive t q dig) s =
    .next (if q < 256 ∧ dig < 2 ^ 64 then imageReceiveEff q dig (s.at t) else s.at t) := by
  simp only [exec_imageReceive, Bool.and_eq_true, decide_eq_true_eq]
end
end

/-- Settles O36: each command by the branch of its effect, the settling of the duties by who holds them. -/
theorem redundantPair : Obligations.RedundantPair := by
  unfold Obligations.RedundantPair
  refine ⟨?missing, ?sent, ?heard, ?settled, fun s => ⟨s.leads_takeDuties, s.leads_releaseDuties⟩, ?waited, ?digest, ?told,
    exec_heartbeatSend, ?heardTotal, exec_partnerOkTimeout, exec_pairWaitExpiry, ?digestTotal, ?seqTotal, ?imageTotal⟩
  case missing =>
    intro t h s a r hon hat hok hlate
    rw [exec_partnerOkTimeout, partnerOkTimeoutEff_of_missing hon hat hok hlate]
    refine ⟨fun hkeeps => ?_, fun hprot hleads => ?_⟩
    · rw [if_neg (by rcases hkeeps with h | h <;> simp [h])]
      rfl
    · rw [if_pos ⟨hprot, hleads⟩]
      rfl
  case sent =>
    intro t s a n hpair hprot
    rw [exec_heartbeatSend]
    refine ⟨fun d hdue hrel => ?_, fun hdue => ?_⟩
    · rw [heartbeatSendEff_of_due hpair hprot hdue hrel]
      rfl
    · rw [heartbeatSendEff_of_sent hdue]
  case heard =>
    intro t q pk test holds s a b r hq hpk hpair hup hnew
    rw [exec_heartbeatReceive_eq, if_pos ⟨hq, hpk⟩, heartbeatReceiveEff_of_new hpair hup hnew]
    rfl
  case settled =>
    intro s test
    refine ⟨State.settleDuties_of_partner, State.settleDuties_of_follower, State.settleDuties_of_lead, fun hleads hrun h => ?_,
      fun hleads h => ?_, State.settleDuties_of_sole⟩
    · rw [State.settleDuties_of_none hleads, if_pos ⟨hrun, h⟩]
    · rw [State.settleDuties_of_none hleads, if_neg]
      rintro ⟨hrun, htake⟩
      rcases h with h | ⟨htest, hpartner⟩
      · exact h hrun
      · simp [htest, hpartner] at htake
  case waited =>
    intro t w s a r hw hprot hlate
    rw [exec_pairWaitExpiry, pairWaitExpiryEff_of_waited hw hprot hlate]
    refine ⟨fun hleads => ?_, fun hleads => ?_⟩
    · rw [if_pos hleads]
    · rw [if_neg (by rw [hleads]; decide)]
  case digest =>
    intro t d ns e s a r hns hpair hup he
    rw [exec_stateReceive_eq, if_pos hns, stateReceiveEff_of_found hpair hup he]
    refine ⟨fun hsame => ?_, fun hdiff hn => ?_, fun hdiff hn => ?_⟩
    · rw [if_pos hsame]
    · rw [if_neg hdiff]
      exact congrArg _ (if_neg hn)
    · rw [if_neg hdiff]
      exact congrArg _ (if_pos hn)
  case told =>
    intro t q cb st s a r hq hpair hup hnew
    refine ⟨fun hcb hst => ?_, fun hst hsame => ?_, fun hst hdiff => ?_⟩
    · rw [exec_pubseqReceive_eq, if_pos ⟨hq, hcb, hst⟩, pubseqReceiveEff_of_new hpair hup hnew]
    · rw [exec_imageReceive_eq, if_pos ⟨hq, hst⟩, imageReceiveEff_of_new hpair hup hnew, if_pos hsame]
    · rw [exec_imageReceive_eq, if_pos ⟨hq, hst⟩, imageReceiveEff_of_new hpair hup hnew, if_neg hdiff]
  case heardTotal => exact fun t q pk test holds s => exec_heartbeatReceive_eq t s q pk test holds
  case digestTotal => exact fun t d ns s => exec_stateReceive_eq t s d ns
  case seqTotal => exact fun t q cb st s => exec_pubseqReceive_eq t s q cb st
  case imageTotal => exact fun t q dig s => exec_imageReceive_eq t s q dig

end Sys2Proof.Machine
